-- ==== Sys2Proof/Machine/Operands.lean ====
section
/-! DEFINITION. The operand forms of the commands: who sent a packet, what an analogue or clocked unit
reports with an event, and which unit an event is of. -/

namespace Sys2Proof

/-- Controller A (west) or Controller B (east), R3. -/
inductive Ctrl where
  | a
  | b
  deriving DecidableEq, Repr

/-- How a command packet reached the part: a WRITE_PACKET for the holder, a direct packet for one
controller (R297), or the tunnel of a Tamid instance (R425). -/
inductive Via where
  | bus
  | direct (ctl : Ctrl)
  | tamid (i : Fin 8)
  deriving DecidableEq, Repr

/-- The SEQ of a command packet and the way it came in (R267). -/
structure Origin where
  seq : Byte
  via : Via
  deriving DecidableEq, Repr

/-- An I3C common command code (R266); `other` is any code the part does not support. -/
inductive I3cCcc where
  | entdaa (addr : BitVec 7)
  | setdasa (addr : BitVec 7)
  | rstdaa
  | enec (inBand : Bool)
  | disec (inBand : Bool)
  | getpid
  | getbcr
  | getdcr
  | getstatus
  | getmwl
  | getmrl
  | other (code : Byte)
  deriving DecidableEq, Repr

/-- An instruction of the JTAG port (R453): the public ones of IEEE 1149.1 and 1149.6, PRELOAD with the cells it shifts in, and
a private one, which starts a deep test with its arguments. -/
inductive JtagIns where
  | bypass
  | sample
  | preload (cells : List Bool)
  | extest
  | extestPulse
  | extestTrain
  | priv (test : Nat) (args : List Byte)
  deriving DecidableEq, Repr

/-- What a boot step reports when it completes (Tables 11-19 and R290). -/
inductive BootEvent where
  /-- Step 3: which controllers passed their self-test. -/
  | selfTest (aOk bOk : Bool)
  /-- Step 4: the SFDP tables offer a 4 KiB erase and a four-line fast read (R284). -/
  | sfdp (ok : Bool)
  /-- Step 5: the headers are read and the chosen body is in the Cellar. -/
  | copied
  /-- Step 6: the image has been authenticated (R286). -/
  | authenticated
  /-- Step 7: Mirnis starts and the configuration records are applied (R287). -/
  | started
  /-- Step 8: CMD_READY is set. -/
  | cmdReady
  /-- Step 9: the lanes of the mode start. -/
  | lanesStart
  deriving DecidableEq, Repr

/-- The corrections of one ADC slice: offset in LSB, relative gain, skew in symbol periods, the
bandwidth term, and the analogue skew trim in steps of 25 fs (R60). -/
structure SliceTerms where
  offset : Rat
  gain : Rat
  skew : Rat
  bw : Rat
  trim : Int
  deriving DecidableEq, Repr

/-- The means room n computes at the end of a block, one entry per position 0–15 (R61), with the
slice-register ages and quality figures published then (R79). -/
structure BlockStats where
  mean : List Rat
  power : List Rat
  corr : List Rat
  hcorr : List Rat
  spur : Nat
  deriving DecidableEq, Repr

/-- What a slice delivers with a conversion: its code, and the flags OVR and CHK (R57). -/
structure SliceSample where
  code : Fin 256
  ovr : Bool
  chk : Bool
  deriving DecidableEq, Repr

/-- What a slice's offline calibration measures against the reference ramp: its linearisation table by code, its offset
and gain, and its ENOB in units of 1/32 bit (R64, R65, R79). -/
structure RampResult where
  table : List Rat
  offset : Rat
  gain : Rat
  enob : Nat
  deriving DecidableEq, Repr

/-- What the spare trains on with one symbol: its own code, the sample y of the slice that holds the position, and the
D and H of R60 there. -/
structure TrainSample where
  code : Fin 256
  active : Rat
  diff : Rat
  second : Rat
  deriving DecidableEq, Repr

/-- What an abrupt-fault detector of Table 3-7 sees: a run of identical codes, and whether the other positions vary; or
no conversion at a clock edge. -/
inductive AbruptSign where
  | stuck (run : Nat) (othersVary : Bool)
  | noClock
  deriving DecidableEq, Repr

/-- A corrected sample y(n) on its way into the equaliser, in units of 1/4 LSB, with its flags (R57, R69, R84). -/
structure Sample where
  value : Int
  erased : Bool
  ovr : Bool
  deriving DecidableEq, Repr

/-- What a correlator or a readout takes of one symbol: z(n) in units of 1/4 LSB, the branch j = 16 a(n) + 4 a(n − 1) +
a(n − 2) that the detector decided, and the samples under the FFE's taps, the first tap first (R83, R94, R106). -/
structure RxSymbol where
  z : Int
  j : Fin 64
  y : List Sample
  deriving DecidableEq, Repr

/-- What the timing loop takes of two successive symbols, in units of 1/4 LSB: z(n) and z(n − 1), and the FFE outputs
that the tentative slicer decides (R87). -/
structure TimingPair where
  z : Int
  zPrev : Int
  f : Int
  fPrev : Int
  deriving DecidableEq, Repr

/-- What the timing loop takes of the symbols since its last update: FFE inputs for the non-data-aided detector, and
pairs for the Mueller–Müller-type detector; in step 4 of an acquisition, whether the residual of the equaliser has settled
(R87, R101). -/
structure TimingObs where
  settled : Bool
  inputs : List Int
  pairs : List TimingPair
  deriving DecidableEq, Repr

/-- How far a publication of the SNR and of the eye heights departs from the computed figures, in units of 0.01 dB and of
1/4 LSB: the spec bounds it (R106, R107). -/
structure ReadoutError where
  snr : Int
  upper : Int
  mid : Int
  lower : Int
  deriving DecidableEq, Repr

/-- What a line-frame search works on (R117): for each candidate alignment tested, the hard decisions of the 256 words it
gives; and the words with j ≡ 0 modulo 16 of the alignment kept, with their places counted in codewords from the start of
phase 2, ascending. -/
structure FrameSearch where
  tested : List (Fin 1024 × List (List Bool))
  words : List (Nat × List Bool)
  deriving DecidableEq, Repr

/-- What a completed line acquisition step reports: the residual of each CTLE setting of the search, the line-frame
search, and the skew in ps of the lane against its group's alignment point when it locks (R41, R101, R117). -/
structure AcqResult where
  residuals : List Rat
  search : FrameSearch
  skew : Nat
  deriving DecidableEq, Repr

/-- One bit toward the inner decoder: its hard decision and its reliability (R96). -/
structure SoftBit where
  hard : Bool
  rel : Fin 8
  deriving DecidableEq, Repr

/-- The two monitors of a host lane (R125). -/
inductive Kp4Monitor where
  | hr
  | lr
  deriving DecidableEq, Repr

/-- A counter block that SNAP and CLR act on (R130). -/
inductive CounterBlock where
  | inner (n : Fin 8)
  | kp4 (m : Fin 16) (mon : Kp4Monitor)
  | lineChecker (n : Fin 8)
  | hostChecker (m : Fin 16)
  deriving DecidableEq, Repr

/-- A pattern checker (R160, R204). -/
inductive Checker where
  | line (n : Fin 8)
  | host (m : Fin 16)
  deriving DecidableEq, Repr

/-- The three trims of a sub-DAC, in the units of the SUBDAC register (R149). -/
structure SubDacTrim where
  gain : Int
  offset : Int
  skew : Int
  deriving DecidableEq, Repr

/-- What a completed host acquisition step reports: the residual of each CTLE setting of the search, and the skew in ps of
the lane against its group's transmit alignment when it locks (R42, R44, R195). -/
structure HostAcqResult where
  residuals : List Rat
  skew : Nat
  deriving DecidableEq, Repr

/-- One update of a host receiver (R193): the converter's offset and gain, the FFE, d1 and the three thresholds as the
room's block LMS leaves them (log 130), the recovered frequency in ppm (R194), and the detector errors among the symbols
of the update (R197). -/
structure HostRxUpdate where
  offset : Rat
  gain : Rat
  ffe : List Int
  dfe : Int
  thresholds : Vector Rat 3
  freq : Rat
  errors : Nat
  symbols : Nat
  deriving DecidableEq, Repr

/-- What the quality figures of a host lane take: the DFE outputs in LSB with the symbols decided, the errors and symbols
that the monitor sampler finds at each of its 128 phases, −64/128 to +63/128 UI in order, and how far the publication
departs from the computed figures, in units of 0.01 dB and of 1 mUI (R198). -/
structure HostQuality where
  symbols : List (Rat × Fin 4)
  scan : List (Nat × Nat)
  snrErr : Int
  eyeErr : Int
  deriving DecidableEq, Repr

/-- What a census updater sees of one symbol of a line datapath clock: the detector's hard decision as a channel symbol
value, the flags of its sample and of its FFE output, z_f(n) in units of 1/4 LSB, and the correction flag of R121 (R164,
R167, R168). -/
structure CensusSymbol where
  a : Fin 4
  erased : Bool
  ovr : Bool
  zf : Int
  corrected : Bool
  deriving DecidableEq, Repr

/-- A request of a received training frame (R199).  Taps are −2 to +2. -/
inductive TrainRequest where
  | step (tap : Int) (up : Bool)
  | preset (k : Nat)
  | precoding (on : Bool)
  deriving DecidableEq, Repr

/-- A page of protected storage: a Hallway page address of the Cellar, the Pantry or an engine memory,
or a datapath bank (R310). -/
structure PageId where
  mem : Fin 4
  bank : BitVec 9
  addr : Nat
  deriving DecidableEq, Repr

/-- What a visit to a 64-bit word finds (R307, R309, R311): nothing, a corrected bit (numbered in the code's own way, with the
outcome of the verify read), or a word the word code cannot correct, with the erased words of its page, this one among
them, and the 16-bit columns that each touches; none in a streaming datapath buffer, which has no page (R313). -/
inductive WordFinding where
  | clean
  | corrected (bit : BitVec 7) (hard : Bool)
  | uncorrectable (erased : List (Fin 512 × BitVec 4))
  deriving DecidableEq, Repr

/-- A background calibration slice of a Tamid instance (Table 17-4): item 0 LO of a carrier, 1 DC offset, 2
injection gain; with the normalised correlation present at its start. -/
inductive TamidSlice where
  | start (item : Fin 3) (carrier : Fin 16) (corr : Rat)
  | done
  | failed
  deriving DecidableEq, Repr

/-- A raise as its source presents it: source ID and detail word. -/
structure RaiseEvent where
  src : BitVec 16
  detail : BitVec 16
  deriving DecidableEq, Repr

end Sys2Proof
end

