-- ==== Sys2Proof/Syntax.lean ====
section
/-! DEFINITION. The commands: one constructor per row of spec/opcode_table.json, in the table's order,
each with the operands its rule names. -/

namespace Sys2Proof

/-- A command, an operation or an event of the table. -/
inductive Instr where
  /-- WRITE_PACKET (R265): A WRITE_PACKET transaction ends and its command packet is taken whole for the controller holding the keys. -/
  | writePacket (bytes : List Byte)
  /-- WRITE_PACKET_A (R297): A direct command packet for Controller A is received. -/
  | writePacketA (bytes : List Byte)
  /-- WRITE_PACKET_B (R297): A direct command packet for Controller B is received. -/
  | writePacketB (bytes : List Byte)
  /-- READ_REPLY (R272): The oldest waiting reply is clocked out; it leaves the outbox only when it has been read completely. -/
  | readReply (complete : Bool)
  /-- WRITE_FRONT (R273): A front-door write reaches ATTN_CAUSE or ATTN_ENABLE; any other index is ignored. -/
  | writeFront (index : Byte) (value : Word) (arriving : Word)
  /-- READ_FRONT (R273): Front-door registers are read from an index that advances by 4 after each register. -/
  | readFront (index : Byte) (count : Nat)
  /-- I3C_CCC (R266): A supported I3C common command code is executed; any other is NACKed. -/
  | i3cCcc (ccc : I3cCcc)
  /-- COMMAND_COMPLETE (R272): A command that was answered ACCEPTED finishes, its second reply is placed and CMD_DONE is set. -/
  | commandComplete (seq : Byte) (opcode : BitVec 16)
  /-- READ_REG (R4): Reads 1-256 words of register space; an unaligned address or an unimplemented block gives BAD_PARAM. -/
  | readReg (o : Origin) (addr : Word) (words : BitVec 16)
  /-- WRITE_REG (R4): Writes 1-128 address and value pairs in order, after every pair has been checked. -/
  | writeReg (o : Origin) (pairs : List (Word × Word))
  /-- REGISTER_WRITE (R5): A write to a register field that has no row of its own sets the field under its access code. -/
  | registerWrite (by_ : Ctrl) (addr : Word) (value : Word) (arriving : Word)
  /-- RC_FIELD_READ (R6): A read of an RC field returns its value and then clears it, keeping any event that arrives in the same cycle. -/
  | rcFieldRead (addr : Word) (arriving : Word)
  /-- PING (R279): Echoes its parameters. -/
  | ping (o : Origin) (data : List Byte)
  /-- GET_INFO (R279): Returns the part number, revision, boot slot, image version and die identifier. -/
  | getInfo (o : Origin)
  /-- GET_STATE (R279): Returns the device state, life cycle, holder, profile, mode, grouping and state counters. -/
  | getState (o : Origin)
  /-- SET_PROFILE (R21): Starts a device-wide profile change, or records the profile while the thermal throttle holds. -/
  | setProfile (o : Origin) (profile : Byte)
  /-- SET_LANE_MODE (R44): Changes the mode and the grouping, restarting or realigning the lanes affected. -/
  | setLaneMode (o : Origin) (mode : Byte) (grouping : Byte)
  /-- RESET_ALL (R281): Accepts a full reset that keeps the straps and AO state. -/
  | resetAll (o : Origin) (key : Word)
  /-- RESET_ALL_START (R281): The accepted reset starts once its reply has been read, or 10 ms after the reply is placed. -/
  | resetAllStart
  /-- CTRL_HANDOVER (R299): The holder finishes its command, journals DONE and releases the keys to the follower. -/
  | ctrlHandover (o : Origin)
  /-- IMAGE_LOAD (R279): Stores a chunk of the image in the Cellar firmware area. -/
  | imageLoad (o : Origin) (offset : Word) (data : List Byte)
  /-- IMAGE_COMMIT (R286): Authenticates the downloaded image, after which boot continues. -/
  | imageCommit (o : Origin) (length : Word)
  /-- LINE_STATUS (R279): Returns the status words of each line lane in the mask. -/
  | lineStatus (o : Origin) (mask : Byte)
  /-- HOST_STATUS (R279): Returns the status words of each host lane in the mask. -/
  | hostStatus (o : Origin) (mask : BitVec 16)
  /-- RETIRE_PAGE (R316): Starts retiring a Cellar page onto a spare page. -/
  | retirePage (o : Origin) (page : Word)
  /-- ECC_LOG_READ (R314): Returns the ECC counts and log of one memory, and optionally clears them. -/
  | eccLogRead (o : Origin) (mem : Byte) (flags : Byte)
  /-- MEM_READ (R279): Reads bytes from the Cellar or the engine memories. -/
  | memRead (o : Origin) (addr : Word) (count : BitVec 16) (findings : List WordFinding)
  /-- MEM_WRITE (R279): Writes bytes to the guest scratch area. -/
  | memWrite (o : Origin) (addr : Word) (data : List Byte)
  /-- FAULT_READ (R347): Returns the first-fault record and the history, both formed from one core tick. -/
  | faultRead (o : Origin)
  /-- FAULT_CLEAR (R339): Clears the first-fault record, marking the active sources CLEARED, and/or empties the history. -/
  | faultClear (o : Origin) (bits : Byte)
  /-- FAULT_CONFIG (R333): Writes the configurable reactions of one source. -/
  | faultConfig (o : Origin) (src : BitVec 16) (set : BitVec 16)
  /-- FAULT_THRESHOLD (R341): Sets the FAULT_N severity threshold. -/
  | faultThreshold (o : Origin) (sev : Byte)
  /-- POWER_VOTE (R351): Sets or withdraws the host vote for a domain, together with its linger. -/
  | powerVote (o : Origin) (dom : Byte) (vote : Byte) (linger : BitVec 16)
  /-- POWER_STATE (R357): Requests ACTIVE, DOZE, REST or DEEP. -/
  | powerState (o : Origin) (st : Byte)
  /-- POWER_STATUS (R367): Returns the power state, BROWNOUT, abandoned entries and the domains that are on. -/
  | powerStatus (o : Origin)
  /-- HK_READ (R279): Returns the housekeeping result words of the channels in the mask. -/
  | hkRead (o : Origin) (mask : Word)
  /-- CDAC_QUEUE (R376): Queues codes on a control-DAC channel, or answers BUSY when the queue lacks room. -/
  | cdacQueue (o : Origin) (ch : Byte) (count : Byte) (codes : List (BitVec 16))
  /-- CDAC_CONFIG (R377): Configures the enable, gain, rate, slew step and safe code of a control-DAC channel. -/
  | cdacConfig (o : Origin) (ch : Byte) (flags : Byte) (rate : Word) (step : BitVec 16) (safe : BitVec 16)
  /-- TAMID_CONFIG (R420): Sets the carrier, modulation, depth and receive method of a Tamid instance and requests its state. -/
  | tamidConfig (o : Origin) (inst : Byte) (carrier : Byte) (fsk : Byte) (depth : Byte) (method : Byte) (st : Byte)
  /-- TAMID_SEND (R423): Queues a Tamid packet for transmission. -/
  | tamidSend (o : Origin) (inst : Byte) (len : Byte) (payload : List Byte)
  /-- TAMID_RECEIVE (R418): Removes and returns the oldest received Tamid packet. -/
  | tamidReceive (o : Origin) (inst : Byte)
  /-- TAMID_STATUS (R431): Returns the status and last-packet words of every Tamid instance. -/
  | tamidStatus (o : Origin)
  /-- ROOM_STATUS (R263): Returns the status records of the sixteen rooms. -/
  | roomStatus (o : Origin)
  /-- ENGINE_MAP (R263): Returns the task-to-engine map of one room. -/
  | engineMap (o : Origin) (room : Byte)
  /-- GUEST_LOAD (R258): Loads a chunk of a guest image; once the image is whole, the engine becomes LOADED. -/
  | guestLoad (o : Origin) (engine : Byte) (b1 : Byte) (offset : BitVec 16) (data : List Byte)
  /-- GUEST_START (R258): Starts a guest engine from its image at address 0x040. -/
  | guestStart (o : Origin) (engine : Byte)
  /-- GUEST_STOP (R258): Stops a running guest engine. -/
  | guestStop (o : Origin) (engine : Byte)
  /-- GUEST_STATUS (R259): Returns the state, trap cause and PC of every guest engine. -/
  | guestStatus (o : Origin)
  /-- GUEST_MAILBOX (R259): Exchanges words with the mailbox queues of a guest engine. -/
  | guestMailbox (o : Origin) (engine : Byte) (count : Byte) (words : List (BitVec 16))
  /-- COUNTER_CONFIG (R432): Sets the event select and threshold of a counter and clears it. -/
  | counterConfig (o : Origin) (k : Byte) (event : BitVec 16) (threshold : BitVec 16)
  /-- COUNTER_READ (R434): Latches all the counters and returns the ones requested. -/
  | counterRead (o : Origin) (first : Byte) (count : Byte)
  /-- COUNTER_DUMP (R437): Sets the dump period and makes the first dump latch. -/
  | counterDump (o : Origin) (period : Word)
  /-- COUNTER_GRANT (R438): Grants or withdraws guest read access to the counters. -/
  | counterGrant (o : Origin) (g : Byte)
  /-- ATTIC_READ (R443): Returns Attic journal records, newest first, or blocks of the standing image. -/
  | atticRead (o : Origin) (index : Word) (count : Byte)
  /-- LOOPBACK (R460): Enters or leaves a line, host or Tamid loop-back. -/
  | loopback (o : Origin) (kind : Byte) (unit : Byte) (code : Byte)
  /-- BIST_STATUS (R459): Returns the records of the BIST slices. -/
  | bistStatus (o : Origin)
  /-- DEEP_TEST (R454): Starts a deep test, holding the units it tests out of service. -/
  | deepTest (o : Origin) (test : BitVec 16) (args : List Byte)
  /-- LIFECYCLE_ADVANCE (R450): Starts a permitted one-way life-cycle transition by fuse programming. -/
  | lifecycleAdvance (o : Origin) (target : Byte) (token : List Byte)
  /-- FLASH_WRITE (R279): Erases and/or programs a region of the external flash. -/
  | flashWrite (o : Origin) (offset : Word) (flags : Byte) (zeros : BitVec 24) (data : List Byte)
  /-- CAL_QUALITY (R405): Returns the line, host or monitor calibration quality figures. -/
  | calQuality (o : Origin) (kind : Byte)
  /-- PANTRY_READ (R172): Reads entries of a census table, a derived table or a staged proposal. -/
  | pantryRead (o : Origin) (object : Byte) (first : Word) (count : BitVec 16)
  /-- PANTRY_FREEZE (R170): Writes FREEZE for each lane in the mask. -/
  | pantryFreeze (o : Origin) (mask : Byte) (freeze : Byte)
  /-- PANTRY_CLEAR (R171): Writes CLEAR for each lane in the mask and completes when they are all clear. -/
  | pantryClear (o : Origin) (mask : Byte)
  /-- SYNC (R216): Makes an explicit sync request. -/
  | sync (o : Origin)
  /-- SET_CALENDAR (R225): Sets the calendar, which takes the value at the next AO tick. -/
  | setCalendar (o : Origin) (sec : BitVec 40) (usec : BitVec 24)
  /-- GET_TIME (R279): Returns device time, the calendar and the clock status. -/
  | getTime (o : Origin)
  /-- LEDGER_READ (R279): Returns the ledger registers of each lane in the mask. -/
  | ledgerRead (o : Origin) (mask : Byte)
  /-- CTRL_WATCHDOG_RESTART (R293): A controller restarts its watchdog in the Keyholder. -/
  | ctrlWatchdogRestart (ctl : Ctrl)
  /-- HOLDER_WATCHDOG_EXPIRY (R293): The holder's watchdog has been silent for 2 ms while FOLLOWER_OK = 1, so the takeover starts. -/
  | holderWatchdogExpiry
  /-- CTRL_REJOIN (R293): A reset controller finishes booting from the Cellar image and rejoins as follower. -/
  | ctrlRejoin (ctl : Ctrl) (selfTestOk : Bool)
  /-- FOLLOWER_WATCHDOG_EXPIRY (R295): The follower's watchdog has been silent for 2 ms, so FOLLOWER_LOST is raised and the follower is reset. -/
  | followerWatchdogExpiry
  /-- NO_CONTROLLER (R296): The holder is silent with no follower ready, so both controllers are reset. -/
  | noController
  /-- DUAL_CLAIM (R298): A controller claims the keys while the holder is alive and is refused. -/
  | dualClaim (ctl : Ctrl)
  /-- KEY_UPSET (R300): An upset in the triplicated HOLDER or EPOCH is voted; KEY_VOTE or KEY_UNRESOLVED is raised. -/
  | keyUpset (bit : BitVec 16) (resolvable : Bool)
  /-- RESET_N_FALL (R156): RESET_N goes low and the part is held in reset. -/
  | resetNFall
  /-- SUPPLY_RELEASE (R470): All the rails have been above their thresholds for 1 ms, which makes the effective rising edge of RESET_N. -/
  | supplyRelease (straps : BitVec 10) (xtal : Bool)
  /-- RESET_N_RISE (R288): The effective rising edge of RESET_N latches the straps and starts boot. -/
  | resetNRise (straps : BitVec 10)
  /-- BOOT_STEP_DONE (R288): A boot step completes (self-test, SFDP, copy, authentication, Mirnis start, CMD_READY, lane start) and the next one begins. -/
  | bootStepDone (ev : BootEvent)
  /-- TRAFFIC_READY_SET (R289): Every lane in use becomes traffic-ready, so TRAFFIC_READY is set and BOOT_DONE is raised. -/
  | trafficReadySet
  /-- CORE_PLL_LOCK (R211): The core PLL locks and device time starts at 0. -/
  | corePllLock
  /-- SYNTH_LOCK (R211): A line or host synthesiser locks, so its half's lanes may start. -/
  | synthLock (k : Fin 4)
  /-- REF_LOSS (R227): The reference is lost and the PLLs enter holdover. -/
  | refLoss (freq : Bool)
  /-- HOLDOVER_END (R227): Holdover ends without a return of the reference, and the part enters the clock-loss state. -/
  | holdoverEnd
  /-- REF_RETURN (R228): The reference has been present and in range for 1 ms, so the clocks recover. -/
  | refReturn (locks : Bool)
  /-- CORE_UNLOCK (R227): The core PLL unlocks, so the part enters the clock-loss state with fixed squelch. -/
  | coreUnlock
  /-- CORE_RELOCK_RETRY (R228): After a further 1 ms the part retries locking the core PLL from the clock-loss state. -/
  | coreRelockRetry (locks : Bool)
  /-- SYNTH_UNLOCK (R227): A synthesiser unlocks, so the lanes of its half drop and their transmitters are squelched. -/
  | synthUnlock (k : Fin 4)
  /-- SYNC_IN_EDGE (R216): A rising edge at SYNC_IN is timed and accepted, or ignored when it falls within 1 us of the last event. -/
  | syncInEdge (fine : Fin 32) (explicitToo : Bool)
  /-- SYNC_NOW (R216): A write of 1 to SYNC_NOW makes an explicit sync request. -/
  | syncNow
  /-- AO_DISCIPLINE (R223): Every 1 s the AO oscillator is counted against the reference and trimmed. -/
  | aoDiscipline (trim : Int) (temp : Int)
  /-- DISCIPLINE_OLD (R224): DISC_AGE passes 168 hours. -/
  | disciplineOld
  /-- XTAL_FAIL (R225): The crystal stops, and the AO domain falls back to the RC oscillator. -/
  | xtalFail
  /-- DT_LO_READ (R214): A read of DT_LO returns the low word of device time and latches the high word. -/
  | dtLoRead
  /-- CAL_SEC_LO_READ (R225): A read of CAL_SEC_LO latches CAL_SEC_HI and CAL_USEC. -/
  | calSecLoRead
  /-- FOLLOW_RANGE (R28): The judged frequency of a locked stream leaves +-150 ppm, so the path carries fill. -/
  | followRange (n : Fin 8) (stream : Option (Fin 16)) (ppm : Rat)
  /-- FOLLOW_RANGE_END (R28): Every judged stream of the lane is back in range, so the level source goes quiet. -/
  | followRangeEnd (n : Fin 8) (stream : Option (Fin 16)) (ppm : Rat)
  /-- PAIR_SLIP (R34): The skew of a Mode B pair exceeds 64 ns or its buffer slips, so the pair realigns with fill. -/
  | pairSlip (n : Fin 8) (skew : Nat) (slips : Bool)
  /-- PAIR_REALIGN_DONE (R34): The realignment of a Mode B pair completes and fill ends. -/
  | pairRealignDone (n : Fin 8)
  /-- DESKEW_RANGE (R43): The receive or host skew of a group exceeds its budget, so the group carries fill. -/
  | deskewRange (n : Fin 8) (host : Bool) (skew : Nat)
  /-- DESKEW_RETRY (R43): Every 10 ms the part retries the alignment of a group that is out of range. -/
  | deskewRetry (n : Fin 8) (host : Bool) (skew : Nat)
  /-- GROUP_REALIGN_DONE (R44): The realignment of a group completes and fill ends. -/
  | groupRealignDone (n : Fin 8)
  /-- LANE_MODE_CHANGE_DONE (R44): Every lane changed by a mode or grouping change has started or realigned. -/
  | laneModeChangeDone
  /-- PROFILE_GROUP_SWITCH (R21): Once any fade of a group has ended, the group switches profile at a codeword boundary and carries fill. -/
  | profileGroupSwitch (n : Fin 8)
  /-- PROFILE_GROUP_REALIGNED (R21): A group is re-aligned at its new latency and fill ends; after the last group the profile change completes. -/
  | profileGroupRealigned (n : Fin 8)
  /-- LEDGER_RECOMPUTE (R50): Every 1 ms each ledger is recomputed and published when it has moved by 10 ps or more. -/
  | ledgerRecompute (n : Fin 8) (which : Fin 3) (dev : Int) (wait : BitVec 16) (unsettling : Bool)
  /-- LEDGER_SETTLE (R50): Within 1 ms after an event completes, UNSETTLED clears and a new value is published. -/
  | ledgerSettle (n : Fin 8) (which : Fin 3) (dev : Int) (wait : BitVec 16) (unsettling : Bool)
  /-- AFE_LEVEL_UPDATE (R493): INPUT_LEVEL is updated every 1 ms. -/
  | afeLevelUpdate (n : Fin 8) (level : Nat)
  /-- VGA_WINDOW (R54): A 10 us VGA window ends and the loop steps the VGA, with compensating digital gain. -/
  | vgaWindow (n : Fin 8) (high total : Nat) (meanSquare : Rat)
  /-- AFE_CTRL_WRITE (R55): A write of CTLE_SET or CTLE_MAN on a locked lane re-acquires it; VGA_MAN holds the VGA at VGA_SET. -/
  | afeCtrlWrite (n : Fin 8) (value : Word)
  /-- ADC_BLOCK_END (R61): A 65,536-sample block ends and the offset, gain, skew and bandwidth terms are updated. -/
  | adcBlockEnd (n : Fin 8) (stats : BlockStats)
  /-- OVR_WINDOW (R59): A 1 ms window with an over-range fraction above 1e-4 sets OVR_STICKY and raises ADC_OVR. -/
  | ovrWindow (n : Fin 8) (high total : Nat)
  /-- ADC_CONVERGED (R63): The background estimators converge and CONVERGED is set. -/
  | adcConverged (n : Fin 8)
  /-- ROTATION_STEP (R65): The rotation interval expires and the spare moves to the target position to train. -/
  | rotationStep (n : Fin 8)
  /-- SPARE_CAL_DONE (R64): The spare finishes its ramp calibration and leaves CAL. -/
  | spareCalDone (n : Fin 8) (ramps : List (Fin 17 × RampResult))
  /-- ROTATION_HANDOVER (R65): The trained spare meets the handover criteria and takes the position at a datapath-clock boundary. -/
  | rotationHandover (n : Fin 8) (blocks : List (List TrainSample)) (spur : Nat) (abrupt : Option (Fin 16))
  /-- ROTATION_ABORT (R65): No handover within 256 blocks, so the step is abandoned. -/
  | rotationAbort (n : Fin 8)
  /-- SLICE_CHECK_FLAG (R69): An isolated self-check flag replaces the sample and marks it ERASED. -/
  | sliceCheckFlag (n : Fin 8) (slice : Fin 17) (conv : Nat)
  /-- SLICE_ABRUPT_FAULT (R71): An abrupt slice fault bridges the position and starts an urgent substitution. -/
  | sliceAbruptFault (n : Fin 8) (signs : List (Fin 17 × AbruptSign))
  /-- SLICE_DEGRADING (R70): A degrading slice starts a planned substitution, or a degrading spare is retired. -/
  | sliceDegrading (n : Fin 8) (slice : Fin 17)
  /-- SUBST_SPARE_ARRIVED (R71): In an urgent substitution the spare reaches the phase of the bridged position and starts training. -/
  | substSpareArrived (n : Fin 8)
  /-- URGENT_SUBST_HANDOVER (R71): After 64 blocks of training the spare takes the position, bridging ends and the failing slice is retired. -/
  | urgentSubstHandover (n : Fin 8) (blocks : List BlockStats)
  /-- SUBST_RETRY (R70): An abandoned planned substitution is retried every 10 ms. -/
  | substRetry (n : Fin 8)
  /-- SUBST_REQ (R75): A write of 1 to SUBST_REQ requests a planned substitution of SUBST_SLICE. -/
  | substReq (n : Fin 8) (slice : BitVec 5) (detector : Bool)
  /-- FFE_WINDOW (R83): The FFE correlation window ends and the taps are updated by block LMS. -/
  | ffeWindow (n : Fin 8) (symbols : List RxSymbol)
  /-- TIMING_UPDATE (R87): Every 16 core ticks the timing loop writes the rotator shadow set. -/
  | timingUpdate (n : Fin 8) (o : TimingObs)
  /-- MLSE_LEVEL_UPDATE (R94): Every 16 FFE windows the M[j] levels and sigma squared are adapted. -/
  | mlseLevelUpdate (n : Fin 8) (symbols : List RxSymbol)
  /-- NLC_SWAP (R90): A host write of SWAP requests a canceller cross-fade, or is rejected when a fade is busy. -/
  | nlcSwap (n : Fin 8) (lockLost : Bool)
  /-- NLC_ENGINE_SWAP (R91): Room 14 requests a canceller swap through its engine port and may be answered BUSY. -/
  | nlcEngineSwap (n : Fin 8)
  /-- NLC_FADE_COMPLETE (R90): After fade sample 63 ACTIVE_BANK changes and FADING clears. -/
  | nlcFadeComplete (n : Fin 8)
  /-- NLC_FADE_RESUME (R92): A pending canceller fade starts from sample 0 at the first line-frame boundary after lock. -/
  | nlcFadeResume (n : Fin 8)
  /-- NLC_BANK_WRITE (R89): A write to a canceller bank entry is taken, or ignored and counted in WR_REJECT. -/
  | nlcBankWrite (n : Fin 8) (bank : Fin 2) (idx : Fin 1024) (value : BitVec 10) (swap : Bool)
  /-- NLC_EN_WRITE (R93): NLC_EN changes whether the canceller subtracts; any pending or running fade completes at once. -/
  | nlcEnWrite (n : Fin 8) (en : Bool)
  /-- LINE_REACQ (R101): A write of 1 to REACQ starts a full acquisition of the line lane. -/
  | lineReacq (n : Fin 8)
  /-- LINE_RX_PRECODE_WRITE (R38): A change of RX_PRECODE applies at the next frame boundary and re-acquires the lane. -/
  | lineRxPrecodeWrite (n : Fin 8) (on : Bool)
  /-- LINE_ACQ_STEP_DONE (R101): A step of line acquisition or fast re-lock completes and ACQ_STATE advances. -/
  | lineAcqStepDone (n : Fin 8) (r : AcqResult)
  /-- LINE_ACQ_STEP_TIMEOUT (R102): An acquisition step exceeds its bound and the lane returns to step 2. -/
  | lineAcqStepTimeout (n : Fin 8)
  /-- ACQ_FAIL (R102): No lock within 100 ms of signal present, and then every second after that. -/
  | acqFail (n : Fin 8)
  /-- LINE_SIGNAL_PRESENT (R101): The signal detector declares signal present on a line lane. -/
  | lineSignalPresent (n : Fin 8)
  /-- LINE_LOS (R103): Loss of signal on a line lane clears LOCKED and raises LOS. -/
  | lineLos (n : Fin 8)
  /-- LINE_LOS_END (R104): Signal returns and the lane tries a fast re-lock or a full acquisition. -/
  | lineLosEnd (n : Fin 8) (within100ms : Bool)
  /-- LINE_FREQ_LIMIT (R103): The frequency word has been held at its limit for 10 us, so LOL is raised with detail 2. -/
  | lineFreqLimit (n : Fin 8)
  /-- LINE_RELOCK_TIMEOUT (R104): The lane is not locked within 5 ms of a fast re-lock, so a full acquisition starts. -/
  | lineRelockTimeout (n : Fin 8)
  /-- SNR_PUBLISH (R106): Every 1 ms the SNR and eye heights are published and SNR_LOW is judged. -/
  | snrPublish (n : Fin 8) (symbols : List RxSymbol) (err : ReadoutError)
  /-- LINE_FRAME_RECEIVED (R118): A received line frame's marker and codeword windows are checked while LOCKED. -/
  | lineFrameReceived (n : Fin 8) (words : List (List Bool))
  /-- INNER_CODEWORD_DECODE (R120): An inner codeword is Chase-II decoded and the inner counters are updated. -/
  | innerCodewordDecode (n : Fin 8) (soft : List SoftBit) (marker : Bool)
  /-- KP4_CODEWORD (R126): A monitor classifies an RS codeword, updates its counters and forwards it under TERMINATE. -/
  | kp4Codeword (m : Fin 16) (mon : Kp4Monitor) (word : List (BitVec 10))
  /-- KP4_CW_LOCK_ACQUIRED (R123): The codeword search finds a phase with three correctable blocks, so CW_LOCK is set. -/
  | kp4CwLockAcquired (m : Fin 16) (tests : List (Fin 2720 × List (List (BitVec 10))))
  /-- COUNTER_BLOCK_SNAP (R130): A write of 1 to SNAP copies a counter block into its snapshot and increments SNAP_SEQ. -/
  | counterBlockSnap (b : CounterBlock) (alsoClr : Bool) (arrived : List (Fin 4 × Fin 4))
  /-- COUNTER_BLOCK_CLR (R130): A write of 1 to CLR sets every counter of the block to 0. -/
  | counterBlockClr (b : CounterBlock) (arrived : List (Fin 4 × Fin 4))
  /-- BER_PUBLISH (R132): Every 1 ms BER_EST is published and INNER_BER_HIGH is judged. -/
  | berPublish (n : Fin 8)
  /-- TERMINATE_WRITE (R128): A change of TERMINATE applies from the next codeword boundary at the monitor. -/
  | terminateWrite (m : Fin 16) (mon : Kp4Monitor) (on : Bool)
  /-- TX_ENABLE (R153): A write of 1 to TX_EN starts the transmitter enable with its trim. -/
  | txEnable (n : Fin 8)
  /-- TX_CAL_DONE (R153): The cell trims are taken and CM_RAMP starts. -/
  | txCalDone (n : Fin 8)
  /-- TX_CM_RAMP_DONE (R153): The cell currents have risen, the transmit datapath starts, and the output goes to HELD or AMP_RAMP. -/
  | txCmRampDone (n : Fin 8)
  /-- TX_AMP_RAMP_DONE (R153): The amplitude ramp ends and the transmitter is LIVE. -/
  | txAmpRampDone (n : Fin 8)
  /-- TX_DISABLE (R155): A write of 0 to TX_EN moves the output to HELD and starts the falling ramp. -/
  | txDisable (n : Fin 8)
  /-- TX_FALL_DONE (R155): The falling CM_RAMP ends, the transmitter is OFF and the vote is withdrawn. -/
  | txFallDone (n : Fin 8)
  /-- TX_SQUELCH_WRITE (R154): SQUELCH sets or clears the HOST squelch cause of a line transmitter. -/
  | txSquelchWrite (n : Fin 8) (on : Bool)
  /-- TX_PRECODE_WRITE (R38): A change of TX_PRECODE applies at the next line-frame boundary. -/
  | txPrecodeWrite (n : Fin 8) (on : Bool)
  /-- TX_FIR_APPLY (R139): FIR_APPLY starts a 64-step glide of the transmit taps, or is counted in FIR_BUSY. -/
  | txFirApply (n : Fin 8)
  /-- TX_GLIDE_STEP (R139): Each 16 datapath clocks one glide step takes effect; the last one clears GLIDING. -/
  | txGlideStep (n : Fin 8)
  /-- PD_SWAP (R141): PD SWAP requests a pre-distortion cross-fade. -/
  | pdSwap (n : Fin 8) (stopping : Bool)
  /-- PD_FADE_COMPLETE (R141): A pre-distortion fade ends and ACTIVE_BANK changes. -/
  | pdFadeComplete (n : Fin 8)
  /-- PD_FADE_RESUME (R142): A pending pre-distortion fade restarts at the first frame boundary after LIVE. -/
  | pdFadeResume (n : Fin 8)
  /-- PD_BANK_WRITE (R141): A write to a pre-distortion bank entry is taken, or rejected and counted. -/
  | pdBankWrite (n : Fin 8) (bank : Fin 2) (idx : Fin 1024) (value : BitVec 10) (swap : Bool)
  /-- PD_EN_WRITE (R141): PD_EN changes whether the table adds; pending or running fades complete at once. -/
  | pdEnWrite (n : Fin 8) (en : Bool)
  /-- TX_SAT_WINDOW (R143): A 1 ms window with saturated codes raises TX_SAT. -/
  | txSatWindow (n : Fin 8) (count : Nat)
  /-- CELL_ROTATION_STEP (R145): Every CELL_PERIOD ms the spare cell replaces the oldest-trimmed cell of a sub-DAC. -/
  | cellRotationStep (n : Fin 8) (sub : Fin 4)
  /-- CELL_TRIM_DONE (R145): The outgoing cell is trimmed and becomes the spare. -/
  | cellTrimDone (n : Fin 8) (sub : Fin 4)
  /-- DAC_CELL_ABRUPT (R147): An abrupt cell fault takes the cell out of the map and substitutes it. -/
  | dacCellAbrupt (n : Fin 8) (sub : Fin 4) (cell : Fin 68) (handover : Option (Fin 68))
  /-- DAC_CELL_DEGRADING (R147): A degrading cell is retired at an immediate rotation step. -/
  | dacCellDegrading (n : Fin 8) (sub : Fin 4) (cell : Fin 68)
  /-- SUBDAC_TRIM_UPDATE (R149): Every 1 ms the sub-DAC trims and TX_SPUR are updated and TX_SPUR_HIGH is judged. -/
  | subdacTrimUpdate (n : Fin 8) (trims : List SubDacTrim) (spur : Nat)
  /-- TX_PAT_SEL_WRITE (R159): PAT_SEL selects a transmit test pattern from the next datapath-clock boundary. -/
  | txPatSelWrite (n : Fin 8) (sel : BitVec 3)
  /-- LINE_CHK_SEL_WRITE (R160): CHK_SEL enables a line receive checker in place of the frame search. -/
  | lineChkSelWrite (n : Fin 8) (sel : BitVec 3)
  /-- CHK_LOCK_ACQUIRED (R160): 256 consecutive correct symbols set CHK_LOCK. -/
  | chkLockAcquired (k : Checker) (symbols : List (Fin 4))
  /-- CHK_LOCK_LOSS (R160): More than 128 errors in 1,024 symbols lose CHK_LOCK. -/
  | chkLockLoss (k : Checker) (compared : List (Fin 4 × Fin 4))
  /-- CENSUS_SAMPLE (R167): A census updater takes one sample and updates tables E and M, or counts it as excluded. -/
  | censusSample (n : Fin 8) (clock : List CensusSymbol)
  /-- PANTRY_FREEZE_WRITE (R170): FREEZE stops or resumes the sampling of a lane. -/
  | pantryFreezeWrite (n : Fin 8) (on : Bool)
  /-- PANTRY_CLEAR_WRITE (R171): CLEAR starts clearing the tables and counters of a lane. -/
  | pantryClearWrite (n : Fin 8)
  /-- PANTRY_CLEAR_DONE (R171): A lane's clear completes and CLEARING drops. -/
  | pantryClearDone (n : Fin 8)
  /-- UPDATER_FAIL (R174): A census updater fails its check and stops. -/
  | updaterFail (n : Fin 8)
  /-- CANCELLER_DERIVE (R175): Room 14 derives and stages a canceller table and a proposal for an eligible lane. -/
  | cancellerDerive (n : Fin 8)
  /-- CANCELLER_INSTALL (R176): Room 14 writes the inactive bank and, once the lane is ready, requests the swap. -/
  | cancellerInstall (n : Fin 8) (hostSwap : Bool)
  /-- INSTALL_EVALUATE (R177): The post-install window ends and the correction rate is compared, reverting when it is worse. -/
  | installEvaluate (n : Fin 8)
  /-- PROPOSAL_SEND (R180): Room 14 sends a proposal as eight PROPOSE messages over Tamid. -/
  | proposalSend (n : Fin 8)
  /-- PROPOSE_RECEIVED (R181): A PROPOSE part is received and collected; a complete sequence is installed or rejected. -/
  | proposeReceived (n : Fin 8)
  /-- ACK_RECEIVED (R182): An ACK for a proposal is received; result 0 sets the install point. -/
  | ackReceived (n : Fin 8)
  /-- REVERT_RECEIVED (R181): A REVERT naming the last install swaps the pre-distortion bank back. -/
  | revertReceived (n : Fin 8)
  /-- PROPOSAL_TIMEOUT (R182): A proposal unanswered for 10 s is resent once, then PROPOSAL_LOST is raised. -/
  | proposalTimeout (n : Fin 8)
  /-- PROPOSAL_ASSEMBLY_TIMEOUT (R181): A sequence not complete within 10 s is discarded and answered with ACK result 2. -/
  | proposalAssemblyTimeout (n : Fin 8)
  /-- HT_FIR_APPLY (R186): Host FIR_APPLY applies a valid tap set at the next boundary, or is rejected. -/
  | htFirApply (m : Fin 16) (training : Bool)
  /-- PRESET_APPLY (R187): PRESET_APPLY loads the named transmit preset. -/
  | presetApply (m : Fin 16) (preset : BitVec 3) (firApply : Bool)
  /-- HOST_TX_PRECODE_WRITE (R189): Host TX_PRECODE changes at the next host datapath-clock boundary. -/
  | hostTxPrecodeWrite (m : Fin 16) (on : Bool)
  /-- HOST_RX_PRECODE_WRITE (R189): Host RX_PRECODE changes and restarts the KP4 lock search. -/
  | hostRxPrecodeWrite (m : Fin 16) (on : Bool)
  /-- HT_ENABLE (R190): A write of 1 to HT_EN moves the host transmitter from OFF to IDLE, then to TRAIN or LIVE. -/
  | htEnable (m : Fin 16)
  /-- HT_DISABLE (R190): A write of 0 to HT_EN moves the transmitter to IDLE and then towards OFF. -/
  | htDisable (m : Fin 16)
  /-- HT_OFF_REACHED (R190): A falling host transmitter reaches OFF. -/
  | htOffReached (m : Fin 16)
  /-- HT_SQUELCH_WRITE (R190): HT_SQUELCH sets or clears the HOST squelch cause. -/
  | htSquelchWrite (m : Fin 16) (on : Bool)
  /-- HR_ENABLE (R195): HR_EN enables the host receiver and starts acquisition. -/
  | hrEnable (m : Fin 16) (on : Bool)
  /-- HOST_REACQ (R195): A write of 1 to REACQ starts a full host-receiver acquisition. -/
  | hostReacq (m : Fin 16)
  /-- HOST_CTLE_WRITE (R195): A change of CTLE_SET or CTLE_MAN on a locked lane re-acquires it. -/
  | hostCtleWrite (m : Fin 16) (man : Bool) (set : BitVec 3)
  /-- HOST_ACQ_STEP_DONE (R195): A host acquisition step completes and HR_STATE advances. -/
  | hostAcqStepDone (m : Fin 16) (r : HostAcqResult)
  /-- HOST_ACQ_STEP_TIMEOUT (R196): A host acquisition step exceeds its bound and the receiver returns to step 3. -/
  | hostAcqStepTimeout (m : Fin 16)
  /-- HR_ACQ_FAIL (R196): No host lock within 100 ms of signal present, and then every second after that. -/
  | hrAcqFail (m : Fin 16)
  /-- HR_SIGNAL_PRESENT (R195): Signal is present at the HRX balls. -/
  | hrSignalPresent (m : Fin 16)
  /-- HR_LOS (R197): Loss of signal on a host receiver clears LOCKED. -/
  | hrLos (m : Fin 16)
  /-- HR_LOS_END (R197): Host signal returns and the receiver tries a fast re-lock or a full acquisition. -/
  | hrLosEnd (m : Fin 16) (within100ms : Bool)
  /-- HOST_RX_UPDATE (R193): Every 2^16 symbols the host receiver's coefficients are adapted and the error rate is judged. -/
  | hostRxUpdate (m : Fin 16) (u : HostRxUpdate)
  /-- HR_CDR_LIMIT (R197): Clock recovery has been at its +-200 ppm limit for 10 us, so HR_LOL is raised with detail 1. -/
  | hrCdrLimit (m : Fin 16)
  /-- HOST_RELOCK_TIMEOUT (R197): A host fast re-lock not locked within 0.5 ms starts a full acquisition. -/
  | hostRelockTimeout (m : Fin 16)
  /-- HR_QUAL_PUBLISH (R198): Every 100 ms the host SNR and EYE_W are published and HR_SNR_LOW is judged. -/
  | hrQualPublish (m : Fin 16) (q : HostQuality)
  /-- TRAIN_START (R199): TRAIN_START restarts host link training. -/
  | trainStart (m : Fin 16)
  /-- TRAIN_REQUEST_RECEIVED (R199): A training frame request from the far end is applied and answered. -/
  | trainRequestReceived (m : Fin 16) (req : TrainRequest)
  /-- TRAIN_REQUESTER_STEP (R200): The requester judges the SNR and requests the next far-end tap step. -/
  | trainRequesterStep (m : Fin 16) (rise : Rat)
  /-- TRAIN_DONE (R200): Both ends are ready and training ends DONE. -/
  | trainDone (m : Fin 16)
  /-- TRAIN_FAIL (R200): Training is not DONE within 500 ms, so it ends FAILED. -/
  | trainFail (m : Fin 16)
  /-- HT_SLEEP_WRITE (R201): HT_SLEEP puts the host transmit direction to sleep or wakes it. -/
  | htSleepWrite (m : Fin 16) (on : Bool)
  /-- HR_SLEEP_WRITE (R201): HR_SLEEP puts the host receive direction to sleep or wakes it. -/
  | hrSleepWrite (m : Fin 16) (on : Bool) (reacq : Bool)
  /-- HOST_PAT_SEL_WRITE (R204): HPAT_SEL selects a host transmit pattern. -/
  | hostPatSelWrite (m : Fin 16) (sel : BitVec 3)
  /-- HOST_CHK_SEL_WRITE (R204): HCHK_SEL enables a host receive checker. -/
  | hostChkSelWrite (m : Fin 16) (sel : BitVec 3)
  /-- TX_OUTPUT (R209): The host output sense finds a leg current out of range in LIVE. -/
  | txOutput (m : Fin 16) (percent : Rat)
  /-- NOP (R240): Engine instruction that does nothing. -/
  | engNop (r : Fin 16) (e : Fin 64)
  /-- ADD (R235): Engine wrapping add. -/
  | engAdd (r : Fin 16) (e : Fin 64)
  /-- ADDS (R235): Engine saturating add. -/
  | engAdds (r : Fin 16) (e : Fin 64)
  /-- SUB (R235): Engine wrapping subtract. -/
  | engSub (r : Fin 16) (e : Fin 64)
  /-- SUBS (R235): Engine saturating subtract. -/
  | engSubs (r : Fin 16) (e : Fin 64)
  /-- AND (R240): Engine bitwise AND. -/
  | engAnd (r : Fin 16) (e : Fin 64)
  /-- OR (R240): Engine bitwise OR. -/
  | engOr (r : Fin 16) (e : Fin 64)
  /-- XOR (R240): Engine bitwise XOR. -/
  | engXor (r : Fin 16) (e : Fin 64)
  /-- ASR (R240): Engine arithmetic shift right by a register. -/
  | engAsr (r : Fin 16) (e : Fin 64)
  /-- LSL (R240): Engine logical shift left by a register. -/
  | engLsl (r : Fin 16) (e : Fin 64)
  /-- LSR (R240): Engine logical shift right by a register. -/
  | engLsr (r : Fin 16) (e : Fin 64)
  /-- ABS (R235): Engine saturating absolute value. -/
  | engAbs (r : Fin 16) (e : Fin 64)
  /-- NEG (R235): Engine saturating negate. -/
  | engNeg (r : Fin 16) (e : Fin 64)
  /-- CMP (R240): Engine compare, setting the flags only. -/
  | engCmp (r : Fin 16) (e : Fin 64)
  /-- MOV (R240): Engine register move. -/
  | engMov (r : Fin 16) (e : Fin 64)
  /-- LDI (R240): Engine load immediate. -/
  | engLdi (r : Fin 16) (e : Fin 64)
  /-- ADDI (R240): Engine add immediate. -/
  | engAddi (r : Fin 16) (e : Fin 64)
  /-- ANDI (R240): Engine AND immediate. -/
  | engAndi (r : Fin 16) (e : Fin 64)
  /-- ASRI (R240): Engine arithmetic shift right by an immediate. -/
  | engAsri (r : Fin 16) (e : Fin 64)
  /-- LSLI (R240): Engine shift left by an immediate. -/
  | engLsli (r : Fin 16) (e : Fin 64)
  /-- CMPI (R240): Engine compare with an immediate. -/
  | engCmpi (r : Fin 16) (e : Fin 64)
  /-- SETA (R240): Sets an address, base or length register. -/
  | engSeta (r : Fin 16) (e : Fin 64)
  /-- SETO (R240): Sets an offset register. -/
  | engSeto (r : Fin 16) (e : Fin 64)
  /-- MVDA (R240): Moves a data register to an address-unit register. -/
  | engMvda (r : Fin 16) (e : Fin 64)
  /-- MVAD (R240): Moves an address-unit register to a data register. -/
  | engMvad (r : Fin 16) (e : Fin 64)
  /-- LD (R238): Engine load from data memory, with optional post-modification. -/
  | engLd (r : Fin 16) (e : Fin 64)
  /-- ST (R238): Engine store to data memory, with optional post-modification. -/
  | engSt (r : Fin 16) (e : Fin 64)
  /-- LDD (R238): Engine dual load into d6 and d7. -/
  | engLdd (r : Fin 16) (e : Fin 64)
  /-- SHA (R237): Engine signed accumulator shift. -/
  | engSha (r : Fin 16) (e : Fin 64)
  /-- MAC (R236): Engine multiply-accumulate. -/
  | engMac (r : Fin 16) (e : Fin 64)
  /-- MSU (R236): Engine multiply-subtract. -/
  | engMsu (r : Fin 16) (e : Fin 64)
  /-- MPY (R236): Engine multiply into an accumulator. -/
  | engMpy (r : Fin 16) (e : Fin 64)
  /-- MACD (R236): Engine multiply-accumulate of d6 and d7, with a dual load. -/
  | engMacd (r : Fin 16) (e : Fin 64)
  /-- CLR (R240): Clears an accumulator. -/
  | engClr (r : Fin 16) (e : Fin 64)
  /-- STA (R237): Rounds, shifts and saturates an accumulator into memory. -/
  | engSta (r : Fin 16) (e : Fin 64)
  /-- MVAC (R237): Rounds, shifts and saturates an accumulator into a register. -/
  | engMvac (r : Fin 16) (e : Fin 64)
  /-- LACC (R237): Loads an accumulator with a shifted register. -/
  | engLacc (r : Fin 16) (e : Fin 64)
  /-- BR (R242): Conditional branch with two delay slots. -/
  | engBr (r : Fin 16) (e : Fin 64)
  /-- CALL (R242): Conditional call onto the return stack. -/
  | engCall (r : Fin 16) (e : Fin 64)
  /-- RET (R242): Conditional return from the return stack. -/
  | engRet (r : Fin 16) (e : Fin 64)
  /-- REP (R244): Repeats the next instruction COUNT times. -/
  | engRep (r : Fin 16) (e : Fin 64)
  /-- RPB (R245): Repeats a block of LEN instructions COUNT times. -/
  | engRpb (r : Fin 16) (e : Fin 64)
  /-- WAIT (R247): Stalls until an event of the mask is pending. -/
  | engWait (r : Fin 16) (e : Fin 64)
  /-- EVRET (R246): Returns from an event handler, restoring its frame. -/
  | engEvret (r : Fin 16) (e : Fin 64)
  /-- HBT (R250): Restarts the engine watchdog. -/
  | engHbt (r : Fin 16) (e : Fin 64)
  /-- SIG (R240): Sets event 3 pending on another engine of the room. -/
  | engSig (r : Fin 16) (e : Fin 64)
  /-- MFS (R248): Reads a special register. -/
  | engMfs (r : Fin 16) (e : Fin 64)
  /-- MVS (R248): Writes a special register. -/
  | engMvs (r : Fin 16) (e : Fin 64)
  /-- HALT (R240): Stops the engine; a guest engine becomes STOPPED. -/
  | engHalt (r : Fin 16) (e : Fin 64)
  /-- FLD (R249): Hallway read that stalls until its data arrive. -/
  | engFld (r : Fin 16) (e : Fin 64)
  /-- FST (R249): Posted Hallway write. -/
  | engFst (r : Fin 16) (e : Fin 64)
  /-- MVFP (R240): Loads a far pointer from a register pair. -/
  | engMvfp (r : Fin 16) (e : Fin 64)
  /-- IN (R259): Reads an engine port. -/
  | engIn (r : Fin 16) (e : Fin 64)
  /-- OUT (R259): Writes an engine port, such as the guest mailbox. -/
  | engOut (r : Fin 16) (e : Fin 64)
  /-- PUB (R249): Hands a shadow set to the datapath. -/
  | engPub (r : Fin 16) (e : Fin 64)
  /-- SHADOW_SET_TAKEN (R14): A datapath stage copies a published shadow set at its datapath-clock boundary. -/
  | shadowSetTaken (r : Fin 16) (e : Fin 64)
  /-- ENGINE_EVENT_ENTRY (R247): A pending enabled event is taken at the first boundary that is not held off. -/
  | engineEventEntry (r : Fin 16) (e : Fin 64)
  /-- ENGINE_TIMER_EXPIRY (R248): The engine TIMER reaches 0, sets event 0 and reloads. -/
  | engineTimerExpiry (r : Fin 16) (e : Fin 64)
  /-- ENGINE_WATCHDOG_EXPIRY (R250): No HBT within WDOG, which is an engine fault or a guest stop. -/
  | engineWatchdogExpiry (r : Fin 16) (e : Fin 64)
  /-- ENGINE_FAULT (R254): An engine detector fires, the engine stops and a takeover by a spare starts. -/
  | engineFault (r : Fin 16) (e : Fin 64) (code : Fin 9)
  /-- CHECKPOINT_SNAPSHOT (R251): The room's phase counter reaches the engine's slot and its state is snapshotted. -/
  | checkpointSnapshot (r : Fin 16) (t : Fin 64)
  /-- CHECKPOINT_COMMIT (R251): The checkpoint writer commits the slot. -/
  | checkpointCommit (r : Fin 16) (t : Fin 64)
  /-- TAKEOVER_RESUME (R254): The spare has loaded the images and the slot, resumes the task and raises TAKEOVER. -/
  | takeoverResume (r : Fin 16) (e : Fin 64)
  /-- SCRUB_STEP (R319): The scrubber checks and corrects one 64-bit unit. -/
  | scrubStep (f : WordFinding)
  /-- PAGE_RECONSTRUCT_DONE (R311): A page reconstruction ends and the stalled accesses proceed. -/
  | pageReconstructDone (page : PageId)
  /-- CE_WINDOW (R315): Per second, a memory whose corrected count exceeds CE_WARN raises CE_HIGH. -/
  | ceWindow (mem : Fin 4)
  /-- PAGE_RETIRE_DONE (R316): The page copy completes, the spare takes over and RETIRED is raised. -/
  | pageRetireDone (found : List (Fin 512 × WordFinding))
  /-- BANK_RETIRE (R317): A write of RETIRE in BANK_OP starts retiring a Pantry or engine bank. -/
  | bankRetire (bank : BitVec 9) (init : Bool)
  /-- BANK_RETIRE_DONE (R317): The spare bank is switched in and RETIRED is raised. -/
  | bankRetireDone (found : List (Fin 32768 × WordFinding))
  /-- BANK_INIT (R320): A write of INIT in BANK_OP starts zeroing a RETENTION_LOST bank. -/
  | bankInit (bank : BitVec 9)
  /-- BANK_INIT_DONE (R320): The bank is initialised and its RET_LOST bit clears. -/
  | bankInitDone
  /-- FAULT_RAISE (R334): The collector samples a raise and applies every reaction of the source's set. -/
  | faultRaise (raises : List RaiseEvent)
  /-- PATH_BROKEN (R326): A pair has shown equal levels for 4 ticks, so the source is BLIND and PATH is raised. -/
  | pathBroken (src : BitVec 16)
  /-- PATH_RESTORED (R326): A pair has been valid for 4 ticks, so BLIND clears. -/
  | pathRestored (src : BitVec 16) (fault : Bool) (detail : BitVec 16)
  /-- LEVEL_SOURCE_QUIET (R340): A level source's pair turns quiet and it leaves the active set if CLEARED. -/
  | levelSourceQuiet (src : BitVec 16)
  /-- FB_UPSET (R342): An upset in a triplicated collector word is voted, raising VOTE or VOTE_UNRESOLVED. -/
  | fbUpset (word : BitVec 16) (resolvable : Bool)
  /-- FFR_0_READ (R347): A read of FFR_0 latches FFR_1 to FFR_5 from the same tick. -/
  | ffr0Read
  /-- LINGER_EXPIRY (R352): A domain's linger expires with no vote, so the entry sequence starts. -/
  | lingerExpiry (d : Fin 72)
  /-- DOMAIN_ENTRY_STEP (R353): An entry step E0-E5 completes; after E5 the domain is RETAINED. -/
  | domainEntryStep (d : Fin 72)
  /-- DOMAIN_WAKE_REQUEST (R354): A vote or Hallway access reaches a RETAINED or entering domain and starts its wake. -/
  | domainWakeRequest (d : Fin 72)
  /-- DOMAIN_UNDO_DONE (R355): The undo ends, the domain is ON and the stalled accesses proceed. -/
  | domainUndoDone (d : Fin 72)
  /-- DOMAIN_READY (R354): The exit sequence ends with the retention check and the domain's functions resume. -/
  | domainReady (d : Fin 72) (lostBanks : List (BitVec 9)) (regLost : Bool)
  /-- WAKE_TIMEOUT (R364): A domain is not ready within twice its bound, so the stalled accesses complete with errors. -/
  | wakeTimeout (d : Fin 72)
  /-- DOZE_EXIT (R358): A bus transaction or an ATTN raise ends DOZE and the clocks restart. -/
  | dozeExit
  /-- DEEP_ENTRY_STEP (R360): A step of DEEP entry completes, including the regulator decision. -/
  | deepEntryStep
  /-- DEEP_WAKE_TIMER (R360): The DEEP wake timer reaches zero and DEEP exit starts. -/
  | deepWakeTimer
  /-- DEEP_EXIT_COMPLETE (R360): The part is ready after DEEP, with device time advanced, SQUELCH set and the completion placed. -/
  | deepExitComplete (lostBanks : List (BitVec 9))
  /-- AO_SENSOR_READING (R362): In DEEP the AO sensor is read every 100 ms and the regulator switches to normal when needed. -/
  | aoSensorReading (ao : BitVec 16)
  /-- BROWNOUT (R363): The AO supply falls below brown-out and the part resets as at power-up. -/
  | brownout
  /-- LINE_RX_SLEEP_WRITE (R351): LINE_RX_SLEEP withdraws or restores a line lane manager's votes. -/
  | lineRxSleepWrite (mask : Byte)
  /-- HK_ROUND_START (R370): A slow housekeeping round starts, late rounds raising ROUND_LATE. -/
  | hkRoundStart
  /-- HK_CONVERSION (R369): One housekeeping conversion completes. -/
  | hkConversion (volts : Rat) (other : Rat) (vref : Rat)
  /-- HK_ROUND_END (R370): The round ends and the mean result words are published. -/
  | hkRoundEnd
  /-- HK_TRIGGER_TIMER_EXPIRY (R372): A trigger unit's timer expires and reloads. -/
  | hkTriggerTimerExpiry (k : Fin 8)
  /-- HK_TRIGGER (R372): A trigger requests an urgent or queued conversion, or is dropped. -/
  | hkTrigger (k : Fin 8) (busy : Bool)
  /-- HK_TRIGGER_CONVERSION_DONE (R372): A triggered conversion completes, replacing TRIG_RES and raising the unit's engine event. -/
  | hkTriggerConversionDone (k : Fin 8) (volts : Rat) (other : Rat) (vref : Rat)
  /-- CDAC_SAMPLE_TICK (R376): A control-DAC sample tick pops the queue, slews OUT and drives OUT plus INJ. -/
  | cdacSampleTick (c : Fin 32)
  /-- CDAC_RANGE_SWITCH (R378): 2 us after the clamp engages the range switches and the output rises again. -/
  | cdacRangeSwitch (c : Fin 32)
  /-- MC_START (R383): START makes a chain RUNNING from zeroed history. -/
  | mcStart (j : Fin 24)
  /-- MC_STOP (R383): STOP makes a chain STOPPED at once. -/
  | mcStop (j : Fin 24)
  /-- MC_SWAP (R385): SWAP starts a cross-fade of the chain's FIR banks. -/
  | mcSwap (j : Fin 24)
  /-- MC_CONFIG_WRITE (R383): A write to MC_CFG or a bank is taken only while STOPPED. -/
  | mcConfigWrite (j : Fin 24) (offset : BitVec 11) (value : Word)
  /-- MC_FORCE_FB_WRITE (R388): FORCE_FB moves a healthy chain to the fall-back. -/
  | mcForceFbWrite (j : Fin 24) (on : Bool)
  /-- MC_OUTPUT (R381): A chain delivers an output and feeds the PEAK, RMS and ENV detectors. -/
  | mcOutput (j : Fin 24) (samples : List (List Int))
  /-- MC_FADE_COMPLETE (R385): After 64 FIR samples the chain's ACTIVE_BANK changes. -/
  | mcFadeComplete (j : Fin 24)
  /-- CHAIN_FAULT (R388): A chain fails its self-check and moves to the fall-back or is lost. -/
  | chainFault (j : Fin 24)
  /-- THERMAL_COMPARE (R395): Every 10 us the comparator bank compares every site with each active level. -/
  | thermalCompare (elements : List (BitVec 16 × BitVec 16))
  /-- SHUTDOWN_FLASH_DRAIN (R398): A flash operation in flight at shutdown completes. -/
  | shutdownFlashDrain (op : Fin 3) (offset : BitVec 24) (data : List Byte)
  /-- THERMAL_RESTART (R401): T8 has been below 110 C for 10 s, so MGMT exits retention and boot resumes. -/
  | thermalRestart (lostBanks : List (BitVec 9))
  /-- SENSOR_MISMATCH (R394): A site's two elements have differed by more than 2 C for 1 ms. -/
  | sensorMismatch (site : Fin 9) (a : BitVec 16) (b : BitVec 16)
  /-- SENSOR_MISMATCH_CLEAR (R394): The elements have agreed within 1 C for 1 s, so MISMATCH clears. -/
  | sensorMismatchClear (site : Fin 9) (a : BitVec 16) (b : BitVec 16)
  /-- THERMAL_PERIOD_CHANGE (R396): The guarded period ends or begins, clearing WARNING and THROTTLE on entry to normal service. -/
  | thermalPeriodChange
  /-- CAL_INTERPOLATE (R404): Every 100 ms the continuous calibration items are interpolated. -/
  | calInterpolate
  /-- TAMID_TRANSITION_DONE (R420): A Tamid instance reaches its requested state, after the mask check when transmitting. -/
  | tamidTransitionDone (i : Fin 8) (spectrum : List (Rat × Rat))
  /-- TAMID_PACKET_START (R423): A queued packet's ramp symbol starts at a symbol boundary and the send reply is placed. -/
  | tamidPacketStart (i : Fin 8) (spectrum : List (Rat × Rat))
  /-- TAMID_PACKET_END (R413): The last ramp symbol of a packet ends and the instance returns to its state. -/
  | tamidPacketEnd (i : Fin 8)
  /-- TAMID_AGC_UPDATE (R417): Every 2 us the AGC adjusts the receiver gain. -/
  | tamidAgcUpdate (i : Fin 8) (level : Rat)
  /-- TAMID_DETECT (R417): The preamble correlation exceeds the threshold and the AGC freezes. -/
  | tamidDetect (i : Fin 8) (corr : Rat) (level : Rat)
  /-- TAMID_SYNC_ACCEPT (R417): The sync word is accepted and selects the modulation. -/
  | tamidSyncAccept (i : Fin 8) (word : BitVec 32) (afc : Int) (delay : Nat)
  /-- TAMID_SYNC_TIMEOUT (R417): No sync word within 48 symbols of detection, so the receiver returns to step 1. -/
  | tamidSyncTimeout (i : Fin 8)
  /-- TAMID_PACKET_RECEIVED (R418): A packet's CRC is checked and the packet is routed by kind or discarded. -/
  | tamidPacketReceived (i : Fin 8) (raw : List Byte)
  /-- TAMID_CAPTURE (R419): A stronger preamble captures the receiver and the packet in progress is abandoned. -/
  | tamidCapture (i : Fin 8) (level : Rat)
  /-- ULIRA_CMD (R425): A tunnelled Ulira command is executed and its reply is sent as ULIRA_REPLY payloads. -/
  | uliraCmd (i : Fin 8)
  /-- TAMID_CAL_SLICE (R422): A background calibration slice runs between packets. -/
  | tamidCalSlice (i : Fin 8) (ev : TamidSlice)
  /-- TAMID_CACHE_EXPIRY (R421): A carrier cache entry becomes invalid by age or by a change of temperature. -/
  | tamidCacheExpiry (half : Fin 2) (carrier : Fin 16)
  /-- TAMID_SHAPE_WRITE (R410): A SHAPE write is taken only in SLEEP or STANDBY, and otherwise counted in WR_REJECT. -/
  | tamidShapeWrite (i : Fin 8) (j : Fin 192) (value : BitVec 16)
  /-- CNT_SNAP (R434): SNAP latches all the counters and bandwidth monitors. -/
  | cntSnap (alsoClr : Bool)
  /-- CNT_CLR (R434): CLR sets every counter to 0. -/
  | cntClr
  /-- CNT_LIVE_LO_READ (R435): A read of CNT_LIVE_LO latches the high bits for that port. -/
  | cntLiveLoRead (k : Fin 128) (port : Fin 32)
  /-- BW_WINDOW_END (R436): A bandwidth window ends and every BW_k is published. -/
  | bwWindowEnd
  /-- BW_WINDOW_WRITE (R436): A write of WINDOW discards the window in progress and clears BW_VALID. -/
  | bwWindowWrite (window : BitVec 20)
  /-- COUNTER_DUMP_LATCH (R437): A dump latch falls due and the record is written, or SKIPPED counts it. -/
  | counterDumpLatch
  /-- DUMP_WRITE_DONE (R437): The dump record with its CRC is written to the ring. -/
  | dumpWriteDone
  /-- ATTIC_PERIODIC (R441): Every 10 min of power-on time a PERIODIC record is formed. -/
  | atticPeriodic
  /-- ATTIC_RECORD_WRITE (R440): The Attic writer programs and verifies a record pair, skipping bad sectors. -/
  | atticRecordWrite (eraseOk : Bool) (verify1 : Bool) (verify2 : Bool)
  /-- ATTIC_STANDING_WRITE (R442): The standing image is written to the next standing sector. -/
  | atticStandingWrite (ok : Bool)
  /-- LIFECYCLE_PROGRAM_DONE (R450): Fuse programming ends and the new life-cycle state takes effect or is rejected. -/
  | lifecycleProgramDone (verified : Fin 4)
  /-- DEEP_TEST_DONE (R455): A deep test ends, its completion is placed and the held units restart. -/
  | deepTestDone (pass : Bool) (coverage : BitVec 16) (signature : Word) (results : List Byte)
  /-- BIST_TURN (R457): Every 200 ms the sequencer takes the next BIST slice. -/
  | bistTurn
  /-- BIST_SLICE_END (R458): A BIST slice ends as PASS, FAIL or INCOMPLETE. -/
  | bistSliceEnd (sl : Fin 52) (result : Option Bool) (coverage : BitVec 16) (duration : BitVec 24) (cell : Option (Fin 4 × Fin 68))
  /-- BIST_EN_WRITE (R456): BIST_EN enables or stops in-mission BIST. -/
  | bistEnWrite (on : Bool)
  /-- JTAG_INSTRUCTION (R453): A JTAG instruction executes, private ones only in MANUFACTURE or RETURN. -/
  | jtagInstruction (trstLow : Bool) (ins : JtagIns)
  /-- RAIL_LOSS (R471): A core, analogue or HV rail falls below its threshold and the part is held in reset. -/
  | railLoss (rails : BitVec 3)
  /-- VID_EVALUATE (R472): Every 1 s the firmware re-evaluates TARGET. -/
  | vidEvaluate (target : Fin 17)
  /-- VID_STEP (R472): CODE steps one code toward TARGET, at least 1 ms apart. -/
  | vidStep
  deriving DecidableEq, Repr

end Sys2Proof
end

