-- ==== Sys2Proof/Decode.lean ====
section
/-! DEFINITION. The command that a word of the table spells.  Every row of spec/opcode_table.json gives its
operands as values and none gives bits, so no word spells a command. -/

namespace Sys2Proof

/-- No row gives bits: a word of any length spells no command. -/
def decodeTableWord (_nbits _w : Nat) : Option Instr := none

end Sys2Proof
end

