-- ==== Sys2Proof/Config.lean ====
section
/-! DEFINITION. What the spec leaves to the part or does not state: values without a body, so that no
proof can see what they are.  Each is named in a log entry (notes/assumptions). -/

namespace Sys2Proof

/-- DESIGN CHOICE (log 5).  The free values, one for each count of `State.free`: a value the spec leaves
open is one of these. -/
opaque Config.freeValue : Nat → BitVec 32

/-- DESIGN CHOICE (log 6).  How an estimate is rounded to the grid of the field that publishes it: up
or down.  The spec gives the grid and not the rounding. -/
opaque Config.roundsUp : Rat → Bool

/-- DESIGN CHOICE (log 9).  The reset value of SHAPE_j of a Tamid instance: the spec names the shape
(Gaussian, BT 0.5) and gives no numbers. -/
opaque Config.shapeReset : Nat → BitVec 16

/-- DESIGN CHOICE (log 10).  The factory sets of the slices of a lane, by lane, slice, term (0 offset, 1 gain, 2 skew,
3 bandwidth, 4 analogue trim in steps of 25 fs) and set: they are part of the part, and the spec does not list them. -/
opaque Config.sliceSet : Nat → Nat → Nat → Nat → Rat

/-- DESIGN CHOICE (log 10).  The factory sets of the trims of a sub-DAC, by line lane, sub-DAC, trim (0 gain, 1 offset, 2
skew, in the units of the SUBDAC register) and set. -/
opaque Config.subdacSet : Nat → Nat → Nat → Nat → Rat

/-- DESIGN CHOICE (log 130).  The factory sets of the converter of a host lane, by lane, term (0 offset, 1 gain) and
set. -/
opaque Config.hostAdcSet : Nat → Nat → Nat → Rat

/-- The continuous calibration items of R404: gain and offset of the housekeeping ADC, the correction of the bandgap in
ppm, the internal 1.200 V reference, gain and offset of the control DACs, and the offsets of the sensors. -/
inductive ContItem where
  | hkGain
  | hkOffset
  | bandgap
  | reference
  | cdGain (channel : Fin 32)
  | cdOffset (channel : Fin 32)
  | sensor (site : Fin 9)
  deriving DecidableEq, Repr

/-- DESIGN CHOICE (log 10).  The factory sets of the continuous items, by item and set. -/
opaque Config.contSet : ContItem → Nat → Rat

/-- DESIGN CHOICE (log 119).  The taps of the fixed differentiator and of the fixed second-difference filter, 0 to 7, of
R60, and the digital gain for a number of dB that R54 asks for to within 0.05 dB: the spec gives none of the numbers. -/
opaque Config.differentiator : Nat → Rat
opaque Config.secondDifference : Nat → Rat
opaque Config.decibelGain : Rat → Rat

/-- DESIGN CHOICE (log 13).  What an update gives when it divides by a mean power of zero: the spec
states no result there. -/
opaque Config.overZero : Rat → Rat

/-- DESIGN CHOICE (log 17).  The default low-pass sets of the monitor chains, by minimum phase and tap:
the firmware loads them and the spec does not list them. -/
opaque Config.defaultTap : Bool → Nat → BitVec 18

/-- DESIGN CHOICE (log 143).  The fixed low-pass set of a chain that belongs to a Tamid instance, and the fixed sets of the
half-bands, by minimum phase and tap: the spec does not list them. -/
opaque Config.ownedTap : Nat → BitVec 18
opaque Config.halfBandTap : Bool → Nat → Rat

/-- DESIGN CHOICE (log 18).  The program and data images of the engines of rooms 0 to 14, by Hallway byte
address: they are part of the Mirnis image, which the spec does not list. -/
opaque Config.engineImage : Nat → BitVec 8

/-- DESIGN CHOICE (log 26).  The die identifier and the silicon revision (Table 11-11). -/
opaque Config.dieId : BitVec 64
opaque Config.revision : BitVec 8

/-- DESIGN CHOICE (log 27).  Wiljan's public key on P-384 and the minimum rollback index in the fuses: the spec names them and
gives neither. -/
opaque Config.publicKey : Nat × Nat
opaque Config.rollbackMin : Nat

/-- DESIGN CHOICE (log 116).  What the timing loop of a line lane has that the spec gives by its bandwidth and damping
only: its proportional and integral gains, by bandwidth in units of 0.25 MHz, and the non-data-aided detector on
the squared FFE inputs. -/
opaque Config.loopGain : Nat → Bool → Rat
opaque Config.ndaDetector : List Int → Rat

/-- DESIGN CHOICE (log 117).  The step with which the running estimate σ² follows the variance of e(n). -/
opaque Config.sigmaGain : Rat

/-- DESIGN CHOICE (log 113).  The stages that a pattern generator of a lane starts from, by lane and width, and the
symbols of SSPRQ: the spec takes both from IEEE 802.3 and lists neither. -/
opaque Config.patternSeed : Nat → Nat → Nat
opaque Config.ssprqSymbol : Nat → Nat

/-- The sine of an angle in turns, as the NCO forms it, and (DESIGN CHOICE, log 144) the gain that the injection-gain
calibration gives by instance and carrier: the spec lists neither. -/
opaque Config.sine : Rat → Rat
opaque Config.injectionGain : Nat → Nat → Rat

end Sys2Proof
end

