-- ==== Sys2Proof/Machine/Calib.lean ====
section
/-! DEFINITION. The calibration sets of R403: temperatures, and the value of an item between them; and the means and
logarithms that the quality figures are given in. -/

namespace Sys2Proof.Machine

/-- The temperature in °C of a site reading (Table 16-1). -/
def codeCelsius (code : Nat) : Rat := (code : Rat) / 256 - 64

/-- The value of an item at a temperature, from its values in the five sets at −5, 25, 55, 85 and 110 °C; not extended
beyond them (R403). -/
def setValue (v : Nat → Rat) (t : Rat) : Rat :=
  if t ≤ -5 then v 0
  else if t ≤ 25 then v 0 + (v 1 - v 0) * (t + 5) / 30
  else if t ≤ 55 then v 1 + (v 2 - v 1) * (t - 25) / 30
  else if t ≤ 85 then v 2 + (v 3 - v 2) * (t - 55) / 30
  else if t ≤ 110 then v 3 + (v 4 - v 3) * (t - 85) / 25
  else v 4

/-- The value of an item at a site reading. -/
def setAt (v : Nat → Rat) (code : Nat) : Rat := setValue v (codeCelsius code)

/-- Index of the lower set for a code of T8 (R403). -/
def lowerSet (code : Nat) : Nat :=
  let t := codeCelsius code
  if t < 25 then 0 else if t < 55 then 1 else if t < 85 then 2 else if t < 110 then 3 else 4

/-- Inserts a number into an ascending list. -/
def insertNat (x : Nat) : List Nat → List Nat
  | [] => [x]
  | y :: t => if x ≤ y then x :: y :: t else y :: insertNat x t

def sortNats : List Nat → List Nat
  | [] => []
  | x :: t => insertNat x (sortNats t)

/-- Twice the median of eight readings: the sum of the two in the middle (log 155). -/
def twiceMedian8 (l : List Nat) : Nat :=
  let a := sortNats l
  a.getD 3 0 + a.getD 4 0

/-- The reading of a site from its two elements: their mean, rounded down to a code; while MISMATCH holds the element nearer
to the median of the other eight sites, the first at equal distance (R392, R394; DESIGN CHOICE, log 155). -/
def siteReading (mismatch : Bool) (others : List Nat) (a b : Nat) : Nat :=
  if mismatch then
    let m := twiceMedian8 others
    if (2 * (a : Int) - m).natAbs ≤ (2 * (b : Int) - m).natAbs then a else b
  else (a + b) / 2

/-- The mean of a list, 0 for none. -/
def meanRat (l : List Rat) : Rat := if l = [] then 0 else l.sum / l.length

/-- The largest v below 2^k whose 10^(v/1000) does not exceed num/den: 1000 × log10 rounded down (R106). -/
def milliLog10 (num den : Nat) : Nat → Nat → Nat
  | 0, v => v
  | k + 1, v =>
    let u := v + 2 ^ k
    milliLog10 num den k (if 10 ^ u * den ^ 1000 ≤ num ^ 1000 then u else v)

/-- 10 log10 of a positive ratio in units of 0.01 dB, rounded down; 0 below 0 dB (R106). -/
def centiBel (x : Rat) : Nat := milliLog10 x.num.toNat x.den 13 0

end Sys2Proof.Machine
end

