-- ==== Sys2Proof/Machine/RegMap.lean ====
section
/-! DEFINITION. The register map: every register the spec's tables give, its offset in its block, its
reset word and its access masks, and every field of every register under the manual's own name.

Rows are taken from the register tables of the chapters named beside them.  Access codes are those of R5. -/

namespace Sys2Proof.Machine

/-- A field of a register: the offset of the register in its block, its lowest bit, its width, and the
distance to the same field of the next register where the register is one of a window. -/
structure Field where
  off : Nat
  lo : Nat
  width : Nat
  stride : Nat := 0
  deriving DecidableEq, Repr

/-- The same field of the register with index `k` of a window; an offset stays within the 64 KiB of a block (Table 12-3). -/
def Field.ix (f : Field) (k : Nat) : Field := { f with off := (f.off + f.stride * k) % 0x10000 }

/-- A row of the register map: `count` registers from `off`, `stride` bytes apart, with one reset word and
the masks of the bits that are RW, W1C and RC (R5).  Every other bit is RO, WO or reserved. -/
structure RegRow where
  off : Nat
  stride : Nat
  count : Nat
  reset : Nat
  rw : Nat
  w1c : Nat
  rc : Nat
  deriving DecidableEq, Repr

/-- The register with offset `off` is one of the row's. -/
def RegRow.covers (r : RegRow) (off : Nat) : Bool :=
  r.off ≤ off && decide (off < r.off + r.stride * r.count) && (off - r.off) % r.stride == 0

/-- The row that documents an offset, if the chapter documents it. -/
def RegRow.find? : List RegRow → Nat → Option RegRow
  | [], _ => none
  | r :: rs, off => if r.covers off then some r else RegRow.find? rs off

/-! ### Rows, block by block -/

/-- Registers of the line block, part 0. -/
def RegMap.line0 : List RegRow :=
  [⟨0x100, 4, 1, 0x1806, 0xFF0F, 0x0, 0x0⟩,
   ⟨0x104, 4, 1, 0x1806, 0x0, 0x0, 0x0⟩,
   ⟨0x108, 4, 1, 0x4008A00, 0xFF9FFF01, 0x0, 0x0⟩,
   ⟨0x10C, 4, 1, 0x81000000, 0x0, 0x0, 0x0⟩,
   ⟨0x110, 4, 1, 0x0, 0x0, 0x0, 0x0⟩,
   ⟨0x114, 4, 1, 0x0, 0x0, 0x0, 0xFFFFFFFF⟩,
   ⟨0x118, 4, 1, 0x0, 0x0, 0x1, 0x0⟩,
   ⟨0x140, 4, 1, 0x0, 0x0, 0x0, 0x0⟩,
   ⟨0x144, 4, 1, 0x8000000, 0x0, 0x0, 0x0⟩,
   ⟨0x148, 4, 1, 0x10000000, 0x0, 0x0, 0x0⟩,
   ⟨0x14C, 4, 1, 0x18000000, 0x0, 0x0, 0x0⟩,
   ⟨0x150, 4, 1, 0x20000000, 0x0, 0x0, 0x0⟩,
   ⟨0x154, 4, 1, 0x28000000, 0x0, 0x0, 0x0⟩,
   ⟨0x158, 4, 1, 0x30000000, 0x0, 0x0, 0x0⟩,
   ⟨0x15C, 4, 1, 0x38000000, 0x0, 0x0, 0x0⟩,
   ⟨0x160, 4, 1, 0x40000000, 0x0, 0x0, 0x0⟩,
   ⟨0x164, 4, 1, 0x48000000, 0x0, 0x0, 0x0⟩,
   ⟨0x168, 4, 1, 0x50000000, 0x0, 0x0, 0x0⟩,
   ⟨0x16C, 4, 1, 0x58000000, 0x0, 0x0, 0x0⟩,
   ⟨0x170, 4, 1, 0x60000000, 0x0, 0x0, 0x0⟩,
   ⟨0x174, 4, 1, 0x68000000, 0x0, 0x0, 0x0⟩,
   ⟨0x178, 4, 1, 0x70000000, 0x0, 0x0, 0x0⟩,
   ⟨0x17C, 4, 1, 0x78000000, 0x0, 0x0, 0x0⟩,
   ⟨0x180, 4, 1, 0x81000000, 0x0, 0x0, 0x0⟩,
   ⟨0x1A0, 4, 17, 0x0, 0x0, 0x0, 0x0⟩,
   ⟨0x200, 4, 1, 0x300000, 0x0, 0x0, 0x0⟩,
   ⟨0x204, 4, 1, 0x300000, 0x0, 0x0, 0x0⟩,
   ⟨0x208, 4, 1, 0x300000, 0x0, 0x0, 0x0⟩,
   ⟨0x20C, 4, 1, 0x0, 0x0, 0x0, 0x0⟩,
   ⟨0x300, 4, 1, 0x2B083802, 0xFF8FFF02, 0x0, 0x0⟩,
   ⟨0x304, 4, 1, 0x0, 0x0, 0x0, 0x0⟩,
   ⟨0x308, 4, 1, 0x0, 0x0, 0x0, 0x0⟩,
   ⟨0x30C, 4, 1, 0x0, 0x0, 0x0, 0xFFFF⟩,
   ⟨0x310, 4, 1, 0x0, 0x0, 0x0, 0x0⟩,
   ⟨0x318, 4, 1, 0x0, 0x0, 0x0, 0x0⟩,
   ⟨0x31C, 4, 1, 0x0, 0x0, 0x0, 0x0⟩,
   ⟨0x400, 4, 64, 0x0, 0x0, 0x0, 0x0⟩,
   ⟨0x500, 4, 16, 0xF40, 0x0, 0x0, 0x0⟩,
   ⟨0x540, 4, 16, 0xFC0, 0x0, 0x0, 0x0⟩,
   ⟨0x580, 4, 16, 0x40, 0x0, 0x0, 0x0⟩]

/-- Registers of the line block, part 1. -/
def RegMap.line1 : List RegRow :=
  [⟨0x5C0, 4, 16, 0xC0, 0x0, 0x0, 0x0⟩,
   ⟨0x600, 4, 1, 0x2800, 0xFF00, 0x0, 0x0⟩,
   ⟨0x604, 4, 1, 0x0, 0x0, 0x0, 0x0⟩,
   ⟨0x608, 4, 1, 0x0, 0x0, 0x0, 0x0⟩,
   ⟨0x610, 4, 1, 0x0, 0x0, 0x0, 0x0⟩,
   ⟨0x614, 4, 1, 0x0, 0x0, 0x0, 0x0⟩,
   ⟨0x618, 4, 1, 0x0, 0x0, 0x0, 0x0⟩,
   ⟨0x61C, 4, 1, 0x0, 0x0, 0x0, 0x0⟩,
   ⟨0x620, 4, 1, 0x0, 0x0, 0x0, 0x0⟩,
   ⟨0x624, 4, 1, 0x0, 0x0, 0x0, 0x0⟩,
   ⟨0x628, 4, 1, 0x0, 0x0, 0x0, 0x0⟩,
   ⟨0x62C, 4, 1, 0x0, 0x0, 0x0, 0x0⟩,
   ⟨0x630, 4, 1, 0x0, 0x0, 0x0, 0x0⟩,
   ⟨0x634, 4, 1, 0x0, 0x0, 0x0, 0x0⟩,
   ⟨0x800, 4, 1, 0x68A0000, 0xFEFF0000, 0x0, 0x0⟩,
   ⟨0x804, 4, 1, 0x0, 0x0, 0x0, 0x0⟩,
   ⟨0x808, 4, 1, 0x0, 0xF, 0x0, 0x0⟩,
   ⟨0x80C, 4, 1, 0x0, 0x0, 0x0, 0x0⟩,
   ⟨0x810, 4, 1, 0x0, 0x0, 0x0, 0xFFFFFFFF⟩,
   ⟨0x818, 4, 1, 0x0, 0x0, 0x0, 0x0⟩,
   ⟨0x81C, 4, 1, 0x0, 0x0, 0x0, 0x0⟩,
   ⟨0x820, 4, 4, 0x0, 0x0, 0x0, 0x0⟩,
   ⟨0x840, 4, 2, 0x0, 0xFFF, 0x0, 0x0⟩,
   ⟨0x848, 4, 1, 0x2000200, 0xFFF, 0x0, 0x0⟩,
   ⟨0x84C, 4, 6, 0x0, 0xFFF, 0x0, 0x0⟩,
   ⟨0x880, 4, 1, 0x0, 0x1C, 0x0, 0x0⟩,
   ⟨0x884, 4, 1, 0x0, 0x0, 0x0, 0x0⟩,
   ⟨0x888, 4, 1, 0x0, 0x0, 0x0, 0x0⟩,
   ⟨0x88C, 4, 1, 0x0, 0x0, 0x0, 0x0⟩,
   ⟨0x890, 4, 1, 0x0, 0x0, 0x0, 0x0⟩,
   ⟨0x894, 4, 1, 0x0, 0x0, 0x0, 0x0⟩,
   ⟨0x898, 4, 1, 0x0, 0x0, 0x0, 0x0⟩,
   ⟨0x89C, 4, 1, 0x0, 0x0, 0x0, 0x0⟩,
   ⟨0x900, 4, 64, 0x0, 0xFFFFFFFF, 0x0, 0x0⟩,
   ⟨0x1000, 4, 1024, 0x0, 0x3FF, 0x0, 0x0⟩,
   ⟨0x2000, 4, 1024, 0x0, 0x3FF, 0x0, 0x0⟩,
   ⟨0x3000, 4, 1024, 0x0, 0x3FF, 0x0, 0x0⟩,
   ⟨0x4000, 4, 1024, 0x0, 0x3FF, 0x0, 0x0⟩]

/-- Registers of the line block. -/
def RegMap.line : List RegRow := RegMap.line0 ++ RegMap.line1

/-- Registers of the host block, part 0. -/
def RegMap.host0 : List RegRow :=
  [⟨0x100, 4, 1, 0x80000, 0xF70F0000, 0x0, 0x0⟩,
   ⟨0x104, 4, 1, 0x0, 0x0, 0x0, 0x0⟩,
   ⟨0x110, 4, 2, 0x0, 0xFF, 0x0, 0x0⟩,
   ⟨0x118, 4, 1, 0x400040, 0xFF, 0x0, 0x0⟩,
   ⟨0x11C, 4, 2, 0x0, 0xFF, 0x0, 0x0⟩,
   ⟨0x200, 4, 1, 0x3343C00, 0xEFFCFF00, 0x0, 0x0⟩,
   ⟨0x204, 4, 1, 0x0, 0x0, 0x0, 0x0⟩,
   ⟨0x208, 4, 1, 0x0, 0x0, 0x0, 0x0⟩,
   ⟨0x20C, 4, 1, 0x3, 0x0, 0x0, 0x0⟩,
   ⟨0x300, 4, 4, 0x0, 0x0, 0x0, 0x0⟩,
   ⟨0x310, 4, 1, 0x100, 0x0, 0x0, 0x0⟩,
   ⟨0x314, 4, 19, 0x0, 0x0, 0x0, 0x0⟩,
   ⟨0x360, 4, 1, 0x0, 0x0, 0x0, 0x0⟩,
   ⟨0x400, 4, 1, 0x0, 0xA0000000, 0x0, 0x0⟩,
   ⟨0x404, 4, 1, 0x0, 0x0, 0x0, 0x0⟩,
   ⟨0x500, 4, 1, 0x0, 0xF, 0x0, 0x0⟩,
   ⟨0x508, 4, 1, 0x0, 0x1C, 0x0, 0x0⟩,
   ⟨0x50C, 4, 1, 0x0, 0x0, 0x0, 0x0⟩,
   ⟨0x510, 4, 1, 0x0, 0x0, 0x0, 0x0⟩,
   ⟨0x514, 4, 1, 0x0, 0x0, 0x0, 0x0⟩,
   ⟨0x518, 4, 1, 0x0, 0x0, 0x0, 0x0⟩,
   ⟨0x51C, 4, 1, 0x0, 0x0, 0x0, 0x0⟩,
   ⟨0x520, 4, 1, 0x0, 0x0, 0x0, 0x0⟩,
   ⟨0x524, 4, 1, 0x0, 0x0, 0x0, 0x0⟩,
   ⟨0x600, 4, 1, 0x0, 0x4, 0x0, 0x0⟩,
   ⟨0x604, 4, 1, 0x0, 0x0, 0x0, 0x0⟩,
   ⟨0x608, 4, 1, 0x0, 0x0, 0x0, 0x0⟩,
   ⟨0x60C, 4, 1, 0x0, 0x0, 0x0, 0x0⟩,
   ⟨0x610, 4, 1, 0x0, 0x0, 0x0, 0x0⟩,
   ⟨0x614, 4, 1, 0x0, 0x0, 0x0, 0x0⟩,
   ⟨0x618, 4, 1, 0x0, 0x0, 0x0, 0x0⟩,
   ⟨0x61C, 4, 1, 0x0, 0x0, 0x0, 0x0⟩,
   ⟨0x620, 4, 1, 0x0, 0x0, 0x0, 0x0⟩,
   ⟨0x624, 4, 1, 0x0, 0x0, 0x0, 0x0⟩,
   ⟨0x628, 4, 1, 0x0, 0x0, 0x0, 0x0⟩,
   ⟨0x62C, 4, 1, 0x0, 0x0, 0x0, 0x0⟩,
   ⟨0x644, 4, 15, 0x0, 0x0, 0x0, 0x0⟩,
   ⟨0x700, 4, 1, 0x0, 0x4, 0x0, 0x0⟩,
   ⟨0x704, 4, 1, 0x0, 0x0, 0x0, 0x0⟩,
   ⟨0x708, 4, 1, 0x0, 0x0, 0x0, 0x0⟩]

/-- Registers of the host block, part 1. -/
def RegMap.host1 : List RegRow :=
  [⟨0x70C, 4, 1, 0x0, 0x0, 0x0, 0x0⟩,
   ⟨0x710, 4, 1, 0x0, 0x0, 0x0, 0x0⟩,
   ⟨0x714, 4, 1, 0x0, 0x0, 0x0, 0x0⟩,
   ⟨0x718, 4, 1, 0x0, 0x0, 0x0, 0x0⟩,
   ⟨0x71C, 4, 1, 0x0, 0x0, 0x0, 0x0⟩,
   ⟨0x720, 4, 1, 0x0, 0x0, 0x0, 0x0⟩,
   ⟨0x724, 4, 1, 0x0, 0x0, 0x0, 0x0⟩,
   ⟨0x728, 4, 1, 0x0, 0x0, 0x0, 0x0⟩,
   ⟨0x72C, 4, 1, 0x0, 0x0, 0x0, 0x0⟩,
   ⟨0x744, 4, 15, 0x0, 0x0, 0x0, 0x0⟩,
   ⟨0x800, 4, 64, 0x0, 0xFFFFFFFF, 0x0, 0x0⟩]

/-- Registers of the host block. -/
def RegMap.host : List RegRow := RegMap.host0 ++ RegMap.host1

/-- Registers of the tamid block. -/
def RegMap.tamid : List RegRow :=
  [⟨0x0, 4, 1, 0x680000, 0xC0FF3FFF, 0x0, 0x0⟩,
   ⟨0x4, 4, 1, 0x0, 0x0, 0x0, 0x0⟩,
   ⟨0x8, 4, 1, 0x0, 0x0, 0x0, 0xFFFF⟩,
   ⟨0xC, 4, 1, 0x0, 0x0, 0x0, 0x0⟩,
   ⟨0x10, 4, 1, 0x0, 0x0, 0x0, 0x0⟩,
   ⟨0x14, 4, 1, 0x0, 0x0, 0x0, 0x0⟩,
   ⟨0x100, 4, 192, 0x0, 0xFFFF, 0x0, 0x0⟩,
   ⟨0x400, 4, 1, 0x4B0014, 0xFFFF00FF, 0x0, 0x0⟩,
   ⟨0x404, 4, 1, 0x960028, 0xFFFF00FF, 0x0, 0x0⟩,
   ⟨0x408, 4, 1, 0x12C003C, 0xFFFF00FF, 0x0, 0x0⟩,
   ⟨0x40C, 4, 5, 0x0, 0xFFFF00FF, 0x0, 0x0⟩]

/-- Registers of the system block. -/
def RegMap.system : List RegRow :=
  [⟨0x0, 4, 1, 0x10030000, 0x0, 0x0, 0x0⟩,
   ⟨0x4, 4, 1, 0x0, 0x0, 0x7DF, 0x0⟩,
   ⟨0x8, 4, 1, 0x41D, 0x7FF, 0x0, 0x0⟩,
   ⟨0xC, 4, 1, 0x0, 0x0, 0x0, 0x0⟩,
   ⟨0x10, 4, 1, 0x400, 0x0, 0x0, 0x0⟩,
   ⟨0x14, 4, 1, 0x0, 0x0, 0x0, 0x0⟩,
   ⟨0x100, 4, 1, 0x0, 0x0, 0x0, 0x0⟩,
   ⟨0x200, 4, 1, 0x80808, 0x801F0000, 0x0, 0x0⟩]

/-- Registers of the fuseBox block. -/
def RegMap.fuseBox : List RegRow :=
  [⟨0x0, 4, 1, 0x2, 0x7, 0x0, 0x0⟩,
   ⟨0x4, 4, 1, 0x0, 0x0, 0x0, 0x0⟩,
   ⟨0x8, 4, 1, 0x0, 0x0, 0x0, 0x0⟩,
   ⟨0x10, 4, 1, 0x0, 0x0, 0x0, 0x0⟩,
   ⟨0x14, 4, 1, 0x0, 0x0, 0x0, 0x0⟩,
   ⟨0x18, 4, 1, 0x0, 0x0, 0x0, 0x0⟩,
   ⟨0x1C, 4, 1, 0x0, 0x0, 0x0, 0x0⟩,
   ⟨0x20, 4, 1, 0x0, 0x0, 0x0, 0x0⟩,
   ⟨0x24, 4, 1, 0x0, 0x0, 0x0, 0x0⟩,
   ⟨0x40, 4, 1, 0x0, 0xFFFF, 0x0, 0x0⟩,
   ⟨0x44, 4, 1, 0x0, 0x0, 0x0, 0x0⟩,
   ⟨0x100, 16, 16, 0x0, 0x0, 0x0, 0x0⟩,
   ⟨0x104, 16, 16, 0x0, 0x0, 0x0, 0x0⟩,
   ⟨0x108, 16, 16, 0x0, 0x0, 0x0, 0x0⟩,
   ⟨0x10C, 16, 16, 0x0, 0x0, 0x0, 0x0⟩]

/-- Registers of the power block. -/
def RegMap.power : List RegRow :=
  [⟨0x0, 4, 1, 0x0, 0x0, 0x0, 0x0⟩,
   ⟨0x4, 4, 1, 0x1, 0x0, 0x1F, 0x0⟩,
   ⟨0x8, 4, 1, 0x80000000, 0x80FFFFFF, 0x0, 0x0⟩,
   ⟨0xC, 4, 1, 0x0, 0x0, 0x0, 0x0⟩,
   ⟨0x10, 4, 1, 0xFFFFFF1F, 0x0, 0x0, 0x0⟩,
   ⟨0x14, 4, 1, 0xFFFFFFFF, 0x0, 0x0, 0x0⟩,
   ⟨0x18, 4, 1, 0xFF, 0x0, 0x0, 0x0⟩,
   ⟨0x1C, 4, 1, 0x0, 0x0, 0x0, 0x0⟩,
   ⟨0x20, 4, 1, 0xFFFFFF1C, 0xFFFFFFFF, 0x0, 0x0⟩,
   ⟨0x24, 4, 1, 0xFFFFFFFF, 0xFFFFFFFF, 0x0, 0x0⟩,
   ⟨0x28, 4, 1, 0xFF, 0xFFFFFFFF, 0x0, 0x0⟩,
   ⟨0x2C, 4, 1, 0x0, 0xFFFFFFFF, 0x0, 0x0⟩,
   ⟨0x40, 4, 1, 0x0, 0xFF, 0x0, 0x0⟩,
   ⟨0x44, 4, 1, 0x0, 0x0, 0x0, 0x0⟩,
   ⟨0x104, 4, 4, 0x20640000, 0x3FF0000, 0x0, 0x0⟩,
   ⟨0x120, 4, 64, 0x20640000, 0x3FF0000, 0x0, 0x0⟩,
   ⟨0x304, 4, 4, 0x0, 0x0, 0x0, 0x0⟩,
   ⟨0x320, 4, 64, 0x0, 0x0, 0x0, 0x0⟩]

/-- Registers of the clocks block. -/
def RegMap.clocks : List RegRow :=
  [⟨0x0, 4, 1, 0x10FFFF, 0x0, 0x0, 0x0⟩,
   ⟨0x10, 4, 1, 0x40000000, 0xE0000000, 0x0, 0x0⟩,
   ⟨0x14, 4, 1, 0x2E90EDD0, 0xFFFFFFFF, 0x0, 0x0⟩,
   ⟨0x18, 4, 1, 0x0, 0xFFFFFFFF, 0x0, 0x0⟩,
   ⟨0x1C, 4, 1, 0x0, 0xFFFFFFFF, 0x0, 0x0⟩,
   ⟨0x20, 4, 1, 0x0, 0x0, 0x0, 0x0⟩,
   ⟨0x24, 4, 1, 0x0, 0x0, 0x0, 0x0⟩,
   ⟨0x28, 4, 1, 0x0, 0x0, 0x0, 0x0⟩,
   ⟨0x2C, 4, 1, 0x0, 0x0, 0x0, 0x0⟩,
   ⟨0x30, 4, 1, 0x0, 0x0, 0x0, 0x0⟩,
   ⟨0x34, 4, 1, 0x0, 0x0, 0x0, 0x0⟩,
   ⟨0x40, 4, 1, 0x0, 0x0, 0x0, 0x0⟩,
   ⟨0x44, 4, 1, 0x0, 0x0, 0x0, 0x0⟩,
   ⟨0x48, 4, 1, 0x0, 0x0, 0x0, 0x0⟩,
   ⟨0x100, 4, 24, 0x300000, 0x0, 0x0, 0x0⟩]

/-- Registers of the memProt block. -/
def RegMap.memProt : List RegRow :=
  [⟨0x0, 4, 1, 0x100, 0xFFFF, 0x0, 0x0⟩,
   ⟨0x4, 4, 1, 0x80000C35, 0x8007FFFF, 0x0, 0x0⟩,
   ⟨0x8, 4, 1, 0x0, 0x0, 0x0, 0x0⟩,
   ⟨0x10, 16, 4, 0x0, 0x0, 0x0, 0x0⟩,
   ⟨0x14, 16, 4, 0x0, 0x0, 0x0, 0x0⟩,
   ⟨0x18, 16, 4, 0x0, 0x0, 0x0, 0x0⟩,
   ⟨0x50, 4, 1, 0x40C00000, 0x0, 0x0, 0x0⟩,
   ⟨0x54, 4, 1, 0x0, 0x1FF, 0x0, 0x0⟩,
   ⟨0x58, 4, 1, 0x0, 0x0, 0x0, 0x0⟩,
   ⟨0x100, 4, 64, 0x0, 0x0, 0x0, 0x0⟩,
   ⟨0x200, 4, 9, 0x0, 0x0, 0x0, 0x0⟩]

/-- Registers of the housekeeping block. -/
def RegMap.housekeeping : List RegRow :=
  [⟨0x0, 4, 1, 0x0, 0xC0000000, 0x0, 0x0⟩,
   ⟨0x4, 4, 1, 0xFFFFFFFF, 0xFFFFFFFF, 0x0, 0x0⟩,
   ⟨0x8, 4, 1, 0x0, 0x0, 0x0, 0x0⟩,
   ⟨0xC, 4, 1, 0x0, 0x0, 0x0, 0xFFFFFFFF⟩,
   ⟨0x100, 4, 32, 0x0, 0x0, 0x0, 0x0⟩,
   ⟨0x200, 16, 8, 0x0, 0xFFFEFFFF, 0x0, 0x0⟩,
   ⟨0x204, 16, 8, 0x0, 0xFFFFFFFF, 0x0, 0x0⟩,
   ⟨0x208, 16, 8, 0x0, 0x0, 0x0, 0x0⟩,
   ⟨0x20C, 16, 8, 0x0, 0x0, 0x0, 0x0⟩]

/-- Registers of the thermal block. -/
def RegMap.thermal : List RegRow :=
  [⟨0x0, 4, 1, 0x0, 0x80000000, 0x0, 0x0⟩,
   ⟨0x4, 4, 1, 0xC0000000, 0x0, 0x0, 0x0⟩,
   ⟨0x8, 4, 1, 0x0, 0x0, 0x0, 0x0⟩,
   ⟨0xC, 4, 1, 0x0, 0x0, 0x0, 0x0⟩,
   ⟨0x100, 4, 9, 0x0, 0x0, 0x0, 0x0⟩,
   ⟨0x200, 4, 1, 0x0, 0x0, 0x0, 0x0⟩]

/-- Registers of the counters block. -/
def RegMap.counters : List RegRow :=
  [⟨0x0, 4, 1, 0x3E8, 0x0, 0x0, 0x0⟩,
   ⟨0x4, 4, 1, 0x0, 0x0, 0x0, 0x0⟩,
   ⟨0x8, 4, 1, 0xFFFFFFFF, 0x0, 0x0, 0x0⟩,
   ⟨0xC, 4, 1, 0x600000, 0x0, 0x0, 0x0⟩,
   ⟨0x10, 4, 1, 0x3E8, 0xFFFFF, 0x0, 0x0⟩,
   ⟨0x18, 4, 2, 0x0, 0x0, 0x0, 0x0⟩,
   ⟨0x100, 4, 128, 0x0, 0xFFFFFFFF, 0x0, 0x0⟩,
   ⟨0x400, 8, 128, 0x0, 0x0, 0x0, 0x0⟩,
   ⟨0x404, 8, 128, 0x0, 0x0, 0x0, 0x0⟩,
   ⟨0x800, 8, 128, 0x0, 0x0, 0x0, 0x0⟩,
   ⟨0x804, 8, 128, 0x0, 0x0, 0x0, 0x0⟩,
   ⟨0xC00, 4, 82, 0x0, 0x0, 0x0, 0x0⟩]

/-- Registers of the testLc block, part 0. -/
def RegMap.testLc0 : List RegRow :=
  [⟨0x0, 4, 1, 0x0, 0x0, 0x0, 0x0⟩,
   ⟨0x10, 4, 1, 0x80000000, 0x80000000, 0x0, 0x0⟩,
   ⟨0x14, 4, 1, 0x0, 0x0, 0x0, 0x0⟩,
   ⟨0x20, 4, 1, 0x0, 0x0, 0x0, 0x0⟩,
   ⟨0x24, 4, 1, 0x0, 0x0, 0x0, 0x0⟩,
   ⟨0x100, 4, 1, 0x0, 0x0, 0x0, 0x0⟩,
   ⟨0x104, 16, 52, 0x0, 0x0, 0x0, 0x0⟩,
   ⟨0x108, 16, 52, 0x0, 0x0, 0x0, 0x0⟩,
   ⟨0x10C, 16, 52, 0x0, 0x0, 0x0, 0x0⟩,
   ⟨0x110, 4, 1, 0x1000000, 0x0, 0x0, 0x0⟩,
   ⟨0x120, 4, 1, 0x2000000, 0x0, 0x0, 0x0⟩,
   ⟨0x130, 4, 1, 0x3000000, 0x0, 0x0, 0x0⟩,
   ⟨0x140, 4, 1, 0x4000000, 0x0, 0x0, 0x0⟩,
   ⟨0x150, 4, 1, 0x5000000, 0x0, 0x0, 0x0⟩,
   ⟨0x160, 4, 1, 0x6000000, 0x0, 0x0, 0x0⟩,
   ⟨0x170, 4, 1, 0x7000000, 0x0, 0x0, 0x0⟩,
   ⟨0x180, 4, 1, 0x8000000, 0x0, 0x0, 0x0⟩,
   ⟨0x190, 4, 1, 0x9000000, 0x0, 0x0, 0x0⟩,
   ⟨0x1A0, 4, 1, 0xA000000, 0x0, 0x0, 0x0⟩,
   ⟨0x1B0, 4, 1, 0xB000000, 0x0, 0x0, 0x0⟩,
   ⟨0x1C0, 4, 1, 0xC000000, 0x0, 0x0, 0x0⟩,
   ⟨0x1D0, 4, 1, 0xD000000, 0x0, 0x0, 0x0⟩,
   ⟨0x1E0, 4, 1, 0xE000000, 0x0, 0x0, 0x0⟩,
   ⟨0x1F0, 4, 1, 0xF000000, 0x0, 0x0, 0x0⟩,
   ⟨0x200, 4, 1, 0x10000000, 0x0, 0x0, 0x0⟩,
   ⟨0x210, 4, 1, 0x11000000, 0x0, 0x0, 0x0⟩,
   ⟨0x220, 4, 1, 0x12000000, 0x0, 0x0, 0x0⟩,
   ⟨0x230, 4, 1, 0x13000000, 0x0, 0x0, 0x0⟩,
   ⟨0x240, 4, 1, 0x14000000, 0x0, 0x0, 0x0⟩,
   ⟨0x250, 4, 1, 0x15000000, 0x0, 0x0, 0x0⟩,
   ⟨0x260, 4, 1, 0x16000000, 0x0, 0x0, 0x0⟩,
   ⟨0x270, 4, 1, 0x17000000, 0x0, 0x0, 0x0⟩,
   ⟨0x280, 4, 1, 0x18000000, 0x0, 0x0, 0x0⟩,
   ⟨0x290, 4, 1, 0x19000000, 0x0, 0x0, 0x0⟩,
   ⟨0x2A0, 4, 1, 0x1A000000, 0x0, 0x0, 0x0⟩,
   ⟨0x2B0, 4, 1, 0x1B000000, 0x0, 0x0, 0x0⟩,
   ⟨0x2C0, 4, 1, 0x1C000000, 0x0, 0x0, 0x0⟩,
   ⟨0x2D0, 4, 1, 0x1D000000, 0x0, 0x0, 0x0⟩,
   ⟨0x2E0, 4, 1, 0x1E000000, 0x0, 0x0, 0x0⟩,
   ⟨0x2F0, 4, 1, 0x1F000000, 0x0, 0x0, 0x0⟩]

/-- Registers of the testLc block, part 1. -/
def RegMap.testLc1 : List RegRow :=
  [⟨0x300, 4, 1, 0x20000000, 0x0, 0x0, 0x0⟩,
   ⟨0x310, 4, 1, 0x21000000, 0x0, 0x0, 0x0⟩,
   ⟨0x320, 4, 1, 0x22000000, 0x0, 0x0, 0x0⟩,
   ⟨0x330, 4, 1, 0x23000000, 0x0, 0x0, 0x0⟩,
   ⟨0x340, 4, 1, 0x24000000, 0x0, 0x0, 0x0⟩,
   ⟨0x350, 4, 1, 0x25000000, 0x0, 0x0, 0x0⟩,
   ⟨0x360, 4, 1, 0x26000000, 0x0, 0x0, 0x0⟩,
   ⟨0x370, 4, 1, 0x27000000, 0x0, 0x0, 0x0⟩,
   ⟨0x380, 4, 1, 0x28000000, 0x0, 0x0, 0x0⟩,
   ⟨0x390, 4, 1, 0x29000000, 0x0, 0x0, 0x0⟩,
   ⟨0x3A0, 4, 1, 0x2A000000, 0x0, 0x0, 0x0⟩,
   ⟨0x3B0, 4, 1, 0x2B000000, 0x0, 0x0, 0x0⟩,
   ⟨0x3C0, 4, 1, 0x2C000000, 0x0, 0x0, 0x0⟩,
   ⟨0x3D0, 4, 1, 0x2D000000, 0x0, 0x0, 0x0⟩,
   ⟨0x3E0, 4, 1, 0x2E000000, 0x0, 0x0, 0x0⟩,
   ⟨0x3F0, 4, 1, 0x2F000000, 0x0, 0x0, 0x0⟩,
   ⟨0x400, 4, 1, 0x30000000, 0x0, 0x0, 0x0⟩,
   ⟨0x410, 4, 1, 0x31000000, 0x0, 0x0, 0x0⟩,
   ⟨0x420, 4, 1, 0x32000000, 0x0, 0x0, 0x0⟩,
   ⟨0x430, 4, 1, 0x33000000, 0x0, 0x0, 0x0⟩]

/-- Registers of the testLc block. -/
def RegMap.testLc : List RegRow := RegMap.testLc0 ++ RegMap.testLc1

/-- Registers of the chain block. -/
def RegMap.chain : List RegRow :=
  [⟨0x0, 4, 1, 0x0, 0x18000000, 0x0, 0x0⟩,
   ⟨0x4, 4, 1, 0x800040, 0xC0FF1FFF, 0x0, 0x0⟩,
   ⟨0x8, 4, 1, 0xA28, 0xFFF, 0x0, 0x0⟩,
   ⟨0xC, 4, 1, 0x0, 0x0, 0x1000000, 0x0⟩,
   ⟨0x10, 4, 1, 0x0, 0x0, 0x0, 0x0⟩,
   ⟨0x14, 4, 1, 0x0, 0x0, 0x0, 0x0⟩,
   ⟨0x18, 4, 1, 0x0, 0x0, 0x0, 0xFFFFFF⟩,
   ⟨0x1C, 4, 1, 0x0, 0x0, 0x0, 0x0⟩,
   ⟨0x20, 4, 1, 0x0, 0x0, 0x0, 0x0⟩,
   ⟨0x200, 4, 128, 0x0, 0x3FFFF, 0x0, 0x0⟩,
   ⟨0x400, 4, 128, 0x0, 0x3FFFF, 0x0, 0x0⟩]

/-- Registers of the chainCtl block. -/
def RegMap.chainCtl : List RegRow :=
  [⟨0xF000, 4, 1, 0x0, 0x0, 0x0, 0x0⟩]

/-- Registers of the cdac block. -/
def RegMap.cdac : List RegRow :=
  [⟨0x0, 16, 32, 0x10000A, 0x0, 0x0, 0x0⟩,
   ⟨0x4, 16, 32, 0x0, 0x0, 0x0, 0x0⟩,
   ⟨0x8, 16, 32, 0x0, 0x0, 0x0, 0x0⟩,
   ⟨0xC, 16, 32, 0x0, 0x0, 0x0, 0x0⟩,
   ⟨0x400, 4, 1, 0x0, 0x1F, 0x0, 0x0⟩]

/-- Registers of the pantryCtl block. -/
def RegMap.pantryCtl : List RegRow :=
  [⟨0x0, 4, 1, 0xE0450078, 0xF8FFFFFF, 0x0, 0x0⟩,
   ⟨0x100, 32, 8, 0xC000000E, 0xE000FFFF, 0x0, 0x0⟩,
   ⟨0x104, 32, 8, 0x0, 0x0, 0x0, 0x0⟩,
   ⟨0x108, 32, 8, 0x0, 0x0, 0x0, 0x0⟩,
   ⟨0x10C, 32, 8, 0x0, 0x0, 0x0, 0x0⟩,
   ⟨0x110, 32, 8, 0x0, 0x0, 0x0, 0xFFFFFFFF⟩,
   ⟨0x114, 32, 8, 0xFFFF0000, 0x0, 0x0, 0x0⟩]

/-- Registers of the keyholder block. -/
def RegMap.keyholder : List RegRow :=
  [⟨0x0, 4, 1, 0x0, 0x0, 0x0, 0x0⟩,
   ⟨0x4, 4, 1, 0x0, 0x0, 0x0, 0x0⟩]

/-! ### Fields, under the manual's names -/

namespace Reg

/-! Block line. -/

def LEDGER_RX_SEQ : Field := ⟨0x200, 24, 8, 0⟩
def LEDGER_RX_NO_PATH : Field := ⟨0x200, 21, 1, 0⟩
def LEDGER_RX_UNSETTLED : Field := ⟨0x200, 20, 1, 0⟩
def LEDGER_RX_LATENCY_PS : Field := ⟨0x200, 0, 20, 0⟩
def LEDGER_TX0_SEQ : Field := ⟨0x204, 24, 8, 0⟩
def LEDGER_TX0_NO_PATH : Field := ⟨0x204, 21, 1, 0⟩
def LEDGER_TX0_UNSETTLED : Field := ⟨0x204, 20, 1, 0⟩
def LEDGER_TX0_LATENCY_PS : Field := ⟨0x204, 0, 20, 0⟩
def LEDGER_TX1_SEQ : Field := ⟨0x208, 24, 8, 0⟩
def LEDGER_TX1_NO_PATH : Field := ⟨0x208, 21, 1, 0⟩
def LEDGER_TX1_UNSETTLED : Field := ⟨0x208, 20, 1, 0⟩
def LEDGER_TX1_LATENCY_PS : Field := ⟨0x208, 0, 20, 0⟩
def LEDGER_WAIT_TX_WAIT : Field := ⟨0x20C, 16, 16, 0⟩
def LEDGER_WAIT_RX_WAIT : Field := ⟨0x20C, 0, 16, 0⟩
def AFE_CTRL_VGA_MAN : Field := ⟨0x100, 15, 1, 0⟩
def AFE_CTRL_CTLE_MAN : Field := ⟨0x100, 14, 1, 0⟩
def AFE_CTRL_VGA_SET : Field := ⟨0x100, 8, 6, 0⟩
def AFE_CTRL_CTLE_SET : Field := ⟨0x100, 0, 4, 0⟩
def AFE_STATUS_INPUT_LEVEL : Field := ⟨0x104, 16, 16, 0⟩
def AFE_STATUS_VGA_CUR : Field := ⟨0x104, 8, 6, 0⟩
def AFE_STATUS_CTLE_CUR : Field := ⟨0x104, 0, 4, 0⟩
def ADC_CTRL_ROT_PERIOD : Field := ⟨0x108, 24, 8, 0⟩
def ADC_CTRL_LP_SPARE : Field := ⟨0x108, 23, 1, 0⟩
def ADC_CTRL_SUBST_REQ : Field := ⟨0x108, 22, 1, 0⟩
def ADC_CTRL_SUBST_SLICE : Field := ⟨0x108, 16, 5, 0⟩
def ADC_CTRL_MU_OG : Field := ⟨0x108, 12, 4, 0⟩
def ADC_CTRL_MU_TB : Field := ⟨0x108, 8, 4, 0⟩
def ADC_CTRL_BG_FREEZE : Field := ⟨0x108, 0, 1, 0⟩
def ADC_STATUS_SPARE_SLICE : Field := ⟨0x10C, 27, 5, 0⟩
def ADC_STATUS_SPARE_STATE : Field := ⟨0x10C, 24, 3, 0⟩
def ADC_STATUS_TRAIN_POS : Field := ⟨0x10C, 20, 4, 0⟩
def ADC_STATUS_BRIDGED_POS : Field := ⟨0x10C, 16, 4, 0⟩
def ADC_STATUS_BRIDGED : Field := ⟨0x10C, 15, 1, 0⟩
def ADC_STATUS_SPARE_NONE : Field := ⟨0x10C, 14, 1, 0⟩
def ADC_STATUS_CONVERGED : Field := ⟨0x10C, 13, 1, 0⟩
def ADC_STATUS_ROT_COUNT : Field := ⟨0x10C, 0, 13, 0⟩
def ADC_QUAL_SPUR : Field := ⟨0x110, 16, 16, 0⟩
def ADC_QUAL_STATIC_ENOB : Field := ⟨0x110, 8, 8, 0⟩
def ADC_QUAL_ROT_ABORT : Field := ⟨0x110, 0, 8, 0⟩
def ADC_OVR_OVR_COUNT : Field := ⟨0x114, 0, 32, 0⟩
def ADC_OVR_STAT_OVR_NOW : Field := ⟨0x118, 1, 1, 0⟩
def ADC_OVR_STAT_OVR_STICKY : Field := ⟨0x118, 0, 1, 0⟩
def SLICE_A_POSITION : Field := ⟨0x140, 27, 5, 4⟩
def SLICE_A_STATE : Field := ⟨0x140, 24, 3, 4⟩
def SLICE_A_OFFSET : Field := ⟨0x140, 16, 8, 4⟩
def SLICE_A_GAIN : Field := ⟨0x140, 8, 8, 4⟩
def SLICE_A_SKEW : Field := ⟨0x140, 0, 8, 4⟩
def SLICE_B_BW : Field := ⟨0x1A0, 24, 8, 4⟩
def SLICE_B_CAL_AGE : Field := ⟨0x1A0, 16, 8, 4⟩
def SLICE_B_STATIC_ENOB : Field := ⟨0x1A0, 8, 8, 4⟩
def SLICE_B_CHECK_ERR : Field := ⟨0x1A0, 0, 8, 4⟩
def EQ_CTRL_FFE_FREEZE : Field := ⟨0x300, 31, 1, 0⟩
def EQ_CTRL_RX_PRECODE : Field := ⟨0x300, 30, 1, 0⟩
def EQ_CTRL_TR_BW : Field := ⟨0x300, 28, 2, 0⟩
def EQ_CTRL_MU_FFE : Field := ⟨0x300, 24, 4, 0⟩
def EQ_CTRL_LEVEL_FREEZE : Field := ⟨0x300, 23, 1, 0⟩
def EQ_CTRL_LLR_STEP : Field := ⟨0x300, 16, 4, 0⟩
def EQ_CTRL_SNR_WARN : Field := ⟨0x300, 8, 8, 0⟩
def EQ_CTRL_NLC_EN : Field := ⟨0x300, 1, 1, 0⟩
def EQ_CTRL_REACQ : Field := ⟨0x300, 0, 1, 0⟩
def EQ_STATUS_ACQ_STATE : Field := ⟨0x304, 28, 4, 0⟩
def EQ_STATUS_LOCKED : Field := ⟨0x304, 27, 1, 0⟩
def EQ_STATUS_LOS : Field := ⟨0x304, 26, 1, 0⟩
def EQ_STATUS_SNR_LOW : Field := ⟨0x304, 25, 1, 0⟩
def EQ_STATUS_ACQ_COUNT : Field := ⟨0x304, 16, 8, 0⟩
def EQ_STATUS_LOCK_TIME : Field := ⟨0x304, 0, 16, 0⟩
def TR_STATUS_FREQ_OFFSET : Field := ⟨0x308, 16, 16, 0⟩
def TR_STATUS_ROT_PHASE : Field := ⟨0x308, 0, 16, 0⟩
def SNR_STAT_SNR : Field := ⟨0x30C, 16, 16, 0⟩
def SNR_STAT_SNR_MIN : Field := ⟨0x30C, 0, 16, 0⟩
def EYE_STAT_EYE_UPPER : Field := ⟨0x310, 20, 10, 0⟩
def EYE_STAT_EYE_MID : Field := ⟨0x310, 10, 10, 0⟩
def EYE_STAT_EYE_LOWER : Field := ⟨0x310, 0, 10, 0⟩
def NLC_CTRL_SWAP : Field := ⟨0x318, 0, 1, 0⟩
def NLC_STATUS_ACTIVE_BANK : Field := ⟨0x31C, 31, 1, 0⟩
def NLC_STATUS_FADING : Field := ⟨0x31C, 30, 1, 0⟩
def NLC_STATUS_FADE_PENDING : Field := ⟨0x31C, 29, 1, 0⟩
def NLC_STATUS_BUSY_COUNT : Field := ⟨0x31C, 16, 8, 0⟩
def NLC_STATUS_WR_REJECT : Field := ⟨0x31C, 8, 8, 0⟩
def NLC_STATUS_FADE_RESTARTS : Field := ⟨0x31C, 4, 4, 0⟩
def FFE_TAP_COEF : Field := ⟨0x400, 0, 12, 4⟩
def MLSE_LEVEL_LEVEL : Field := ⟨0x500, 0, 12, 4⟩
def NLC_B0_ENTRY : Field := ⟨0x1000, 0, 10, 4⟩
def NLC_B1_ENTRY : Field := ⟨0x2000, 0, 10, 4⟩
def FEC_CTRL_BER_WARN : Field := ⟨0x600, 8, 8, 0⟩
def FEC_CTRL_CLR : Field := ⟨0x600, 1, 1, 0⟩
def FEC_CTRL_SNAP : Field := ⟨0x600, 0, 1, 0⟩
def FEC_STATUS_IN_FRAME : Field := ⟨0x604, 31, 1, 0⟩
def FEC_STATUS_BER_VALID : Field := ⟨0x604, 30, 1, 0⟩
def FEC_STATUS_LOW_COUNT : Field := ⟨0x604, 29, 1, 0⟩
def FEC_STATUS_CHASE_L : Field := ⟨0x604, 24, 3, 0⟩
def FEC_STATUS_SNAP_SEQ : Field := ⟨0x604, 16, 8, 0⟩
def FEC_STATUS_FRAME_SEARCHES : Field := ⟨0x604, 8, 8, 0⟩
def FEC_STATUS_MARKER_MISS : Field := ⟨0x604, 0, 8, 0⟩
def BER_EST_EXP : Field := ⟨0x608, 16, 8, 0⟩
def BER_EST_MANT : Field := ⟨0x608, 0, 16, 0⟩
def INNER_CW_LO_COUNT : Field := ⟨0x610, 0, 32, 0⟩
def INNER_CW_HI_COUNT : Field := ⟨0x614, 0, 16, 0⟩
def INNER_CW_CHANGED_LO_COUNT : Field := ⟨0x618, 0, 32, 0⟩
def INNER_CW_CHANGED_HI_COUNT : Field := ⟨0x61C, 0, 16, 0⟩
def INNER_CW_MULTI_LO_COUNT : Field := ⟨0x620, 0, 32, 0⟩
def INNER_CW_MULTI_HI_COUNT : Field := ⟨0x624, 0, 16, 0⟩
def INNER_BITS_CHANGED_LO_COUNT : Field := ⟨0x628, 0, 32, 0⟩
def INNER_BITS_CHANGED_HI_COUNT : Field := ⟨0x62C, 0, 16, 0⟩
def INNER_SYM_CHANGED_LO_COUNT : Field := ⟨0x630, 0, 32, 0⟩
def INNER_SYM_CHANGED_HI_COUNT : Field := ⟨0x634, 0, 16, 0⟩
def TX_CTRL_TX_EN : Field := ⟨0x800, 31, 1, 0⟩
def TX_CTRL_SQUELCH : Field := ⟨0x800, 30, 1, 0⟩
def TX_CTRL_SQ_ON_FILL : Field := ⟨0x800, 29, 1, 0⟩
def TX_CTRL_TX_PRECODE : Field := ⟨0x800, 28, 1, 0⟩
def TX_CTRL_RAMP_SEL : Field := ⟨0x800, 26, 2, 0⟩
def TX_CTRL_PD_EN : Field := ⟨0x800, 25, 1, 0⟩
def TX_CTRL_FIR_APPLY : Field := ⟨0x800, 24, 1, 0⟩
def TX_CTRL_FS_SET : Field := ⟨0x800, 20, 4, 0⟩
def TX_CTRL_CELL_PERIOD : Field := ⟨0x800, 16, 4, 0⟩
def TX_STATUS_TX_STATE : Field := ⟨0x804, 29, 3, 0⟩
def TX_STATUS_SQ_CAUSE : Field := ⟨0x804, 25, 4, 0⟩
def TX_STATUS_GLIDING : Field := ⟨0x804, 24, 1, 0⟩
def TX_STATUS_FIR_BUSY : Field := ⟨0x804, 16, 8, 0⟩
def TX_STATUS_TX_SPUR : Field := ⟨0x804, 0, 16, 0⟩
def TX_PAT_PAT_RAW : Field := ⟨0x808, 3, 1, 0⟩
def TX_PAT_PAT_SEL : Field := ⟨0x808, 0, 3, 0⟩
def TX_SAT_SAT_COUNT : Field := ⟨0x810, 0, 32, 0⟩
def PD_CTRL_SWAP : Field := ⟨0x818, 0, 1, 0⟩
def PD_STATUS_ACTIVE_BANK : Field := ⟨0x81C, 31, 1, 0⟩
def PD_STATUS_FADING : Field := ⟨0x81C, 30, 1, 0⟩
def PD_STATUS_FADE_PENDING : Field := ⟨0x81C, 29, 1, 0⟩
def PD_STATUS_BUSY_COUNT : Field := ⟨0x81C, 16, 8, 0⟩
def PD_STATUS_WR_REJECT : Field := ⟨0x81C, 8, 8, 0⟩
def PD_STATUS_FADE_RESTARTS : Field := ⟨0x81C, 4, 4, 0⟩
def SUBDAC_GAIN : Field := ⟨0x820, 24, 8, 4⟩
def SUBDAC_OFFSET : Field := ⟨0x820, 16, 8, 4⟩
def SUBDAC_SKEW : Field := ⟨0x820, 8, 8, 4⟩
def TX_FIR_CUR : Field := ⟨0x840, 16, 12, 4⟩
def TX_FIR_TARGET : Field := ⟨0x840, 0, 12, 4⟩
def USER_PAT_SYMS : Field := ⟨0x900, 0, 32, 4⟩
def PD_B0_ENTRY : Field := ⟨0x3000, 0, 10, 4⟩
def PD_B1_ENTRY : Field := ⟨0x4000, 0, 10, 4⟩
def RX_PAT_CTRL_CHK_SEL : Field := ⟨0x880, 2, 3, 0⟩
def RX_PAT_CTRL_CLR : Field := ⟨0x880, 1, 1, 0⟩
def RX_PAT_CTRL_SNAP : Field := ⟨0x880, 0, 1, 0⟩
def RX_PAT_STATUS_CHK_LOCK : Field := ⟨0x884, 31, 1, 0⟩
def RX_PAT_STATUS_SNAP_SEQ : Field := ⟨0x884, 16, 8, 0⟩
def RX_PAT_STATUS_LOCK_COUNT : Field := ⟨0x884, 8, 8, 0⟩
def PAT_SYMS_LO_COUNT : Field := ⟨0x888, 0, 32, 0⟩
def PAT_SYMS_HI_COUNT : Field := ⟨0x88C, 0, 16, 0⟩
def PAT_SYM_ERR_LO_COUNT : Field := ⟨0x890, 0, 32, 0⟩
def PAT_SYM_ERR_HI_COUNT : Field := ⟨0x894, 0, 16, 0⟩
def PAT_BIT_ERR_LO_COUNT : Field := ⟨0x898, 0, 32, 0⟩
def PAT_BIT_ERR_HI_COUNT : Field := ⟨0x89C, 0, 16, 0⟩
/-! Block host. -/

def HT_CTRL_HT_EN : Field := ⟨0x100, 31, 1, 0⟩
def HT_CTRL_HT_SQUELCH : Field := ⟨0x100, 30, 1, 0⟩
def HT_CTRL_HT_SLEEP : Field := ⟨0x100, 29, 1, 0⟩
def HT_CTRL_TX_PRECODE : Field := ⟨0x100, 28, 1, 0⟩
def HT_CTRL_FIR_APPLY : Field := ⟨0x100, 27, 1, 0⟩
def HT_CTRL_PRESET : Field := ⟨0x100, 24, 3, 0⟩
def HT_CTRL_PRESET_APPLY : Field := ⟨0x100, 23, 1, 0⟩
def HT_CTRL_SWING : Field := ⟨0x100, 16, 4, 0⟩
def HT_STATUS_HT_STATE : Field := ⟨0x104, 30, 2, 0⟩
def HT_STATUS_SQ_CAUSE : Field := ⟨0x104, 24, 3, 0⟩
def HT_STATUS_FIR_REJECT : Field := ⟨0x104, 16, 8, 0⟩
def HT_STATUS_LOOPBACK : Field := ⟨0x104, 12, 4, 0⟩
def HT_STATUS_SRC : Field := ⟨0x104, 8, 4, 0⟩
def HT_FIR_CUR : Field := ⟨0x110, 16, 8, 4⟩
def HT_FIR_TARGET : Field := ⟨0x110, 0, 8, 4⟩
def HT_PAT_HPAT_RAW : Field := ⟨0x500, 3, 1, 0⟩
def HT_PAT_HPAT_SEL : Field := ⟨0x500, 0, 3, 0⟩
def HUSER_PAT_SYMS : Field := ⟨0x800, 0, 32, 4⟩
def HR_CTRL_HR_EN : Field := ⟨0x200, 31, 1, 0⟩
def HR_CTRL_HR_SLEEP : Field := ⟨0x200, 30, 1, 0⟩
def HR_CTRL_RX_PRECODE : Field := ⟨0x200, 29, 1, 0⟩
def HR_CTRL_REACQ : Field := ⟨0x200, 28, 1, 0⟩
def HR_CTRL_CDR_BW : Field := ⟨0x200, 24, 4, 0⟩
def HR_CTRL_CTLE_MAN : Field := ⟨0x200, 23, 1, 0⟩
def HR_CTRL_CTLE_SET : Field := ⟨0x200, 20, 3, 0⟩
def HR_CTRL_FFE_FREEZE : Field := ⟨0x200, 19, 1, 0⟩
def HR_CTRL_DFE_EN : Field := ⟨0x200, 18, 1, 0⟩
def HR_CTRL_SNR_WARN : Field := ⟨0x200, 8, 8, 0⟩
def HR_STATUS_HR_STATE : Field := ⟨0x204, 28, 4, 0⟩
def HR_STATUS_LOCKED : Field := ⟨0x204, 27, 1, 0⟩
def HR_STATUS_LOS : Field := ⟨0x204, 26, 1, 0⟩
def HR_STATUS_SNR_LOW : Field := ⟨0x204, 25, 1, 0⟩
def HR_STATUS_ACQ_COUNT : Field := ⟨0x204, 16, 8, 0⟩
def HR_STATUS_LOCK_TIME : Field := ⟨0x204, 0, 16, 0⟩
def HR_QUAL_SNR : Field := ⟨0x208, 16, 16, 0⟩
def HR_QUAL_EYE_W : Field := ⟨0x208, 0, 10, 0⟩
def HR_CDR_FREQ_OFFSET : Field := ⟨0x20C, 16, 16, 0⟩
def HR_CDR_CTLE_CUR : Field := ⟨0x20C, 0, 3, 0⟩
def HR_FFE_COEF : Field := ⟨0x300, 0, 10, 4⟩
def HR_DFE_COEF : Field := ⟨0x360, 0, 8, 0⟩
def TRAIN_CTRL_TRAIN_MODE : Field := ⟨0x400, 31, 1, 0⟩
def TRAIN_CTRL_TRAIN_START : Field := ⟨0x400, 30, 1, 0⟩
def TRAIN_CTRL_ASK_PRECODE : Field := ⟨0x400, 29, 1, 0⟩
def TRAIN_STATUS_TRAIN_STATE : Field := ⟨0x404, 29, 3, 0⟩
def TRAIN_STATUS_REQ_SENT : Field := ⟨0x404, 8, 8, 0⟩
def TRAIN_STATUS_REQ_RCVD : Field := ⟨0x404, 0, 8, 0⟩
def HR_PAT_CTRL_CHK_SEL : Field := ⟨0x508, 2, 3, 0⟩
def HR_PAT_CTRL_CLR : Field := ⟨0x508, 1, 1, 0⟩
def HR_PAT_CTRL_SNAP : Field := ⟨0x508, 0, 1, 0⟩
def HR_PAT_STATUS_CHK_LOCK : Field := ⟨0x50C, 31, 1, 0⟩
def HR_PAT_STATUS_SNAP_SEQ : Field := ⟨0x50C, 16, 8, 0⟩
def HR_PAT_STATUS_LOCK_COUNT : Field := ⟨0x50C, 8, 8, 0⟩
def HPAT_SYMS_LO_COUNT : Field := ⟨0x510, 0, 32, 0⟩
def HPAT_SYMS_HI_COUNT : Field := ⟨0x514, 0, 16, 0⟩
def HPAT_SYM_ERR_LO_COUNT : Field := ⟨0x518, 0, 32, 0⟩
def HPAT_SYM_ERR_HI_COUNT : Field := ⟨0x51C, 0, 16, 0⟩
def HPAT_BIT_ERR_LO_COUNT : Field := ⟨0x520, 0, 32, 0⟩
def HPAT_BIT_ERR_HI_COUNT : Field := ⟨0x524, 0, 16, 0⟩
def HR_KP4_CTRL_TERMINATE : Field := ⟨0x600, 2, 1, 0⟩
def HR_KP4_CTRL_CLR : Field := ⟨0x600, 1, 1, 0⟩
def HR_KP4_CTRL_SNAP : Field := ⟨0x600, 0, 1, 0⟩
def HR_KP4_STATUS_CW_LOCK : Field := ⟨0x604, 31, 1, 0⟩
def HR_KP4_STATUS_SNAP_SEQ : Field := ⟨0x604, 16, 8, 0⟩
def HR_KP4_STATUS_LOCK_COUNT : Field := ⟨0x604, 8, 8, 0⟩
def HR_CW_TOTAL_LO_COUNT : Field := ⟨0x608, 0, 32, 0⟩
def HR_CW_TOTAL_HI_COUNT : Field := ⟨0x60C, 0, 16, 0⟩
def HR_CW_CORR_LO_COUNT : Field := ⟨0x610, 0, 32, 0⟩
def HR_CW_CORR_HI_COUNT : Field := ⟨0x614, 0, 16, 0⟩
def HR_CW_UNCORR_LO_COUNT : Field := ⟨0x618, 0, 32, 0⟩
def HR_CW_UNCORR_HI_COUNT : Field := ⟨0x61C, 0, 16, 0⟩
def HR_SYM_ERR_LO_COUNT : Field := ⟨0x620, 0, 32, 0⟩
def HR_SYM_ERR_HI_COUNT : Field := ⟨0x624, 0, 16, 0⟩
def HR_BIT_ERR_LO_COUNT : Field := ⟨0x628, 0, 32, 0⟩
def HR_BIT_ERR_HI_COUNT : Field := ⟨0x62C, 0, 16, 0⟩
def HR_HIST_COUNT : Field := ⟨0x644, 0, 32, 4⟩
def LR_KP4_CTRL_TERMINATE : Field := ⟨0x700, 2, 1, 0⟩
def LR_KP4_CTRL_CLR : Field := ⟨0x700, 1, 1, 0⟩
def LR_KP4_CTRL_SNAP : Field := ⟨0x700, 0, 1, 0⟩
def LR_KP4_STATUS_CW_LOCK : Field := ⟨0x704, 31, 1, 0⟩
def LR_KP4_STATUS_SNAP_SEQ : Field := ⟨0x704, 16, 8, 0⟩
def LR_KP4_STATUS_LOCK_COUNT : Field := ⟨0x704, 8, 8, 0⟩
def LR_CW_TOTAL_LO_COUNT : Field := ⟨0x708, 0, 32, 0⟩
def LR_CW_TOTAL_HI_COUNT : Field := ⟨0x70C, 0, 16, 0⟩
def LR_CW_CORR_LO_COUNT : Field := ⟨0x710, 0, 32, 0⟩
def LR_CW_CORR_HI_COUNT : Field := ⟨0x714, 0, 16, 0⟩
def LR_CW_UNCORR_LO_COUNT : Field := ⟨0x718, 0, 32, 0⟩
def LR_CW_UNCORR_HI_COUNT : Field := ⟨0x71C, 0, 16, 0⟩
def LR_SYM_ERR_LO_COUNT : Field := ⟨0x720, 0, 32, 0⟩
def LR_SYM_ERR_HI_COUNT : Field := ⟨0x724, 0, 16, 0⟩
def LR_BIT_ERR_LO_COUNT : Field := ⟨0x728, 0, 32, 0⟩
def LR_BIT_ERR_HI_COUNT : Field := ⟨0x72C, 0, 16, 0⟩
def LR_HIST_COUNT : Field := ⟨0x744, 0, 32, 4⟩
/-! Block tamid. -/

def TM_CTRL_REMOTE_MGMT : Field := ⟨0x0, 31, 1, 0⟩
def TM_CTRL_REMOTE_WRITE : Field := ⟨0x0, 30, 1, 0⟩
def TM_CTRL_CAPTURE_DB : Field := ⟨0x0, 20, 4, 0⟩
def TM_CTRL_DET_THR : Field := ⟨0x0, 16, 4, 0⟩
def TM_CTRL_OMA_CODES : Field := ⟨0x0, 0, 14, 0⟩
def TM_STATUS_STATE : Field := ⟨0x4, 29, 3, 0⟩
def TM_STATUS_CARRIER : Field := ⟨0x4, 25, 4, 0⟩
def TM_STATUS_TX_MOD : Field := ⟨0x4, 24, 1, 0⟩
def TM_STATUS_RX_METHOD : Field := ⟨0x4, 23, 1, 0⟩
def TM_STATUS_CACHED : Field := ⟨0x4, 22, 1, 0⟩
def TM_STATUS_RECEIVING : Field := ⟨0x4, 21, 1, 0⟩
def TM_STATUS_SENDING : Field := ⟨0x4, 20, 1, 0⟩
def TM_STATUS_CAL_RUNNING : Field := ⟨0x4, 19, 1, 0⟩
def TM_STATUS_DEPTH : Field := ⟨0x4, 12, 4, 0⟩
def TM_STATUS_QUEUED : Field := ⟨0x4, 8, 4, 0⟩
def TM_LAST_LEVEL : Field := ⟨0x8, 24, 8, 0⟩
def TM_LAST_AFC : Field := ⟨0x8, 16, 8, 0⟩
def TM_LAST_CRC_NEW : Field := ⟨0x8, 8, 8, 0⟩
def TM_LAST_PREEMPT_NEW : Field := ⟨0x8, 0, 8, 0⟩
def TM_COUNTS0_TX_PKTS : Field := ⟨0xC, 16, 16, 0⟩
def TM_COUNTS0_RX_PKTS : Field := ⟨0xC, 0, 16, 0⟩
def TM_COUNTS1_CRC_ERR : Field := ⟨0x10, 16, 16, 0⟩
def TM_COUNTS1_PRE_EMPTED : Field := ⟨0x10, 8, 8, 0⟩
def TM_COUNTS1_RX_DROP : Field := ⟨0x10, 0, 8, 0⟩
def TM_COUNTS2_ABANDONED : Field := ⟨0x14, 24, 8, 0⟩
def TM_COUNTS2_CAL_ABORTS : Field := ⟨0x14, 16, 8, 0⟩
def TM_COUNTS2_UNHANDLED : Field := ⟨0x14, 8, 8, 0⟩
def TM_COUNTS2_WR_REJECT : Field := ⟨0x14, 0, 8, 0⟩
def SHAPE_COEF : Field := ⟨0x100, 0, 16, 4⟩
def MASK_OFFSET : Field := ⟨0x400, 16, 16, 4⟩
def MASK_ATTEN : Field := ⟨0x400, 0, 8, 4⟩
/-! Block system. -/

def STATUS_DEV_STATE : Field := ⟨0x0, 28, 4, 0⟩
def STATUS_LIFE_CYCLE : Field := ⟨0x0, 25, 3, 0⟩
def STATUS_HOLDER : Field := ⟨0x0, 24, 1, 0⟩
def STATUS_CMD_READY : Field := ⟨0x0, 23, 1, 0⟩
def STATUS_TRAFFIC_READY : Field := ⟨0x0, 22, 1, 0⟩
def STATUS_FOLLOWER_OK : Field := ⟨0x0, 21, 1, 0⟩
def STATUS_PROFILE : Field := ⟨0x0, 19, 2, 0⟩
def STATUS_BOOT_SLOT : Field := ⟨0x0, 16, 2, 0⟩
def STATUS_WRONG_STATE_COUNT : Field := ⟨0x0, 0, 16, 0⟩
def ATTN_CAUSE_SAFE : Field := ⟨0x4, 10, 1, 0⟩
def ATTN_CAUSE_LEDGER : Field := ⟨0x4, 9, 1, 0⟩
def ATTN_CAUSE_GUEST_MAILBOX : Field := ⟨0x4, 8, 1, 0⟩
def ATTN_CAUSE_INBOX_DROP : Field := ⟨0x4, 7, 1, 0⟩
def ATTN_CAUSE_TAMID_RX : Field := ⟨0x4, 6, 1, 0⟩
def ATTN_CAUSE_TAKEOVER : Field := ⟨0x4, 4, 1, 0⟩
def ATTN_CAUSE_BOOT_DONE : Field := ⟨0x4, 3, 1, 0⟩
def ATTN_CAUSE_FAULT : Field := ⟨0x4, 2, 1, 0⟩
def ATTN_CAUSE_REPLY_READY : Field := ⟨0x4, 1, 1, 0⟩
def ATTN_CAUSE_CMD_DONE : Field := ⟨0x4, 0, 1, 0⟩
def ATTN_ENABLE_ENABLE : Field := ⟨0x8, 0, 11, 0⟩
def FAULT_SUMMARY_PENDING : Field := ⟨0xC, 31, 1, 0⟩
def FAULT_SUMMARY_HIGHEST_SEV : Field := ⟨0xC, 28, 3, 0⟩
def FAULT_SUMMARY_FIRST_SOURCE : Field := ⟨0xC, 0, 16, 0⟩
def MBOX_IN_IN_WR : Field := ⟨0x10, 24, 8, 0⟩
def MBOX_IN_IN_RD : Field := ⟨0x10, 16, 8, 0⟩
def MBOX_IN_FREE : Field := ⟨0x10, 8, 8, 0⟩
def MBOX_IN_DROPS : Field := ⟨0x10, 0, 8, 0⟩
def MBOX_OUT_OUT_WR : Field := ⟨0x14, 24, 8, 0⟩
def MBOX_OUT_OUT_RD : Field := ⟨0x14, 16, 8, 0⟩
def MBOX_OUT_COUNT : Field := ⟨0x14, 8, 8, 0⟩
def MBOX_OUT_NEXT_SEQ : Field := ⟨0x14, 0, 8, 0⟩
def STRAP_STATUS_BOOT_SRC : Field := ⟨0x100, 9, 1, 0⟩
def STRAP_STATUS_PROFILE : Field := ⟨0x100, 7, 2, 0⟩
def STRAP_STATUS_LINE_MODE : Field := ⟨0x100, 6, 1, 0⟩
def STRAP_STATUS_HOST_MODE : Field := ⟨0x100, 5, 1, 0⟩
def STRAP_STATUS_ADDR_SEL : Field := ⟨0x100, 2, 3, 0⟩
def STRAP_STATUS_BUS_SEL : Field := ⟨0x100, 0, 2, 0⟩
def VID_CTRL_VID_HOLD : Field := ⟨0x200, 31, 1, 0⟩
def VID_CTRL_HOLD_CODE : Field := ⟨0x200, 16, 5, 0⟩
def VID_CTRL_TARGET : Field := ⟨0x200, 8, 5, 0⟩
def VID_CTRL_CODE : Field := ⟨0x200, 0, 5, 0⟩
/-! Block fuseBox. -/

def FFR_0_SOURCE : Field := ⟨0x10, 16, 16, 0⟩
def FFR_0_VALID : Field := ⟨0x10, 15, 1, 0⟩
def FFR_0_ESCALATED : Field := ⟨0x10, 14, 1, 0⟩
def FFR_0_SEVERITY : Field := ⟨0x10, 11, 3, 0⟩
def FFR_0_HIGHEST_SEV : Field := ⟨0x10, 8, 3, 0⟩
def FFR_0_LANE : Field := ⟨0x10, 0, 8, 0⟩
def FFR_1_DETAIL : Field := ⟨0x14, 16, 16, 0⟩
def FFR_1_MERGE_COUNT : Field := ⟨0x14, 0, 16, 0⟩
def FFR_2_TIME_LO : Field := ⟨0x18, 0, 32, 0⟩
def FFR_3_TIME_HI : Field := ⟨0x1C, 0, 32, 0⟩
def FFR_4_HIGHEST_SOURCE : Field := ⟨0x20, 16, 16, 0⟩
def FFR_4_PRIOR_RESET : Field := ⟨0x20, 15, 1, 0⟩
def FFR_5_LAST_TIME : Field := ⟨0x24, 0, 32, 0⟩
def HIST0_SOURCE : Field := ⟨0x100, 16, 16, 16⟩
def HIST0_SEVERITY : Field := ⟨0x100, 13, 3, 16⟩
def HIST0_VALID : Field := ⟨0x100, 12, 1, 16⟩
def HIST0_FIRST : Field := ⟨0x100, 11, 1, 16⟩
def HIST0_MERGED : Field := ⟨0x100, 10, 1, 16⟩
def HIST0_ESCALATING : Field := ⟨0x100, 9, 1, 16⟩
def HIST0_LANE : Field := ⟨0x100, 0, 8, 16⟩
def HIST1_DETAIL : Field := ⟨0x104, 16, 16, 16⟩
def HIST1_REACTIONS : Field := ⟨0x104, 0, 9, 16⟩
def HIST2_TIME_LO : Field := ⟨0x108, 0, 32, 16⟩
def HIST3_TIME_HI : Field := ⟨0x10C, 0, 32, 16⟩
def FB_CTRL_THRESHOLD : Field := ⟨0x0, 0, 3, 0⟩
def FB_STATUS_SAFE : Field := ⟨0x4, 31, 1, 0⟩
def FB_STATUS_HIGHEST_ACTIVE : Field := ⟨0x4, 28, 3, 0⟩
def FB_STATUS_ACTIVE_ANY : Field := ⟨0x4, 27, 1, 0⟩
def FB_STATUS_ACTIVE_COUNT : Field := ⟨0x4, 16, 11, 0⟩
def FB_STATUS_VOTES : Field := ⟨0x4, 8, 8, 0⟩
def FB_STATUS_BLIND_COUNT : Field := ⟨0x4, 0, 8, 0⟩
def FB_HIST_OVERWRITTEN : Field := ⟨0x8, 16, 16, 0⟩
def FB_HIST_HIST_VALID : Field := ⟨0x8, 0, 5, 0⟩
def SRC_SELECT_SOURCE : Field := ⟨0x40, 0, 16, 0⟩
def SRC_INFO_IMPLEMENTED : Field := ⟨0x44, 31, 1, 0⟩
def SRC_INFO_SEVERITY : Field := ⟨0x44, 28, 3, 0⟩
def SRC_INFO_ACTIVE : Field := ⟨0x44, 27, 1, 0⟩
def SRC_INFO_CLEARED : Field := ⟨0x44, 26, 1, 0⟩
def SRC_INFO_BLIND : Field := ⟨0x44, 25, 1, 0⟩
def SRC_INFO_RAIL : Field := ⟨0x44, 24, 1, 0⟩
def SRC_INFO_FIXED : Field := ⟨0x44, 15, 9, 0⟩
def SRC_INFO_REACTIONS : Field := ⟨0x44, 6, 9, 0⟩
/-! Block power. -/

def PWR_STATE_STATE : Field := ⟨0x0, 30, 2, 0⟩
def PWR_STATE_IN_TRANSITION : Field := ⟨0x0, 29, 1, 0⟩
def PWR_STATE_ABANDONED : Field := ⟨0x0, 0, 16, 0⟩
def RESET_CAUSE_BROWNOUT : Field := ⟨0x4, 4, 1, 0⟩
def RESET_CAUSE_THERMAL : Field := ⟨0x4, 3, 1, 0⟩
def RESET_CAUSE_RESET_ALL : Field := ⟨0x4, 2, 1, 0⟩
def RESET_CAUSE_PIN : Field := ⟨0x4, 1, 1, 0⟩
def RESET_CAUSE_POR : Field := ⟨0x4, 0, 1, 0⟩
def DEEP_CTRL_LP_ALLOW : Field := ⟨0x8, 31, 1, 0⟩
def DEEP_CTRL_WAKE_TIMER : Field := ⟨0x8, 0, 24, 0⟩
def AO_STATUS_I_EST : Field := ⟨0xC, 16, 16, 0⟩
def AO_STATUS_REG_LP : Field := ⟨0xC, 15, 1, 0⟩
def AO_STATUS_OFFSET : Field := ⟨0xC, 8, 7, 0⟩
def AO_STATUS_REG_SWITCHES : Field := ⟨0xC, 0, 8, 0⟩
def DOM_ON_ON : Field := ⟨0x10, 0, 32, 4⟩
def REST_MASK_MASK : Field := ⟨0x20, 0, 32, 4⟩
def LINE_RX_SLEEP_SLEEP : Field := ⟨0x40, 0, 8, 0⟩
def ABANDONED_DEEP_COUNT : Field := ⟨0x44, 0, 16, 0⟩
def DOM_STATE : Field := ⟨0x100, 29, 3, 4⟩
def DOM_STEP : Field := ⟨0x100, 26, 3, 4⟩
def DOM_LINGER : Field := ⟨0x100, 16, 10, 4⟩
def DOM_ABANDONED : Field := ⟨0x100, 8, 8, 4⟩
def DOM_WAKES : Field := ⟨0x100, 0, 8, 4⟩
def VOTE_HOST_LM : Field := ⟨0x300, 16, 16, 4⟩
def VOTE_LINE_LM : Field := ⟨0x300, 8, 8, 4⟩
def VOTE_ACCESS : Field := ⟨0x300, 5, 1, 4⟩
def VOTE_THERMAL : Field := ⟨0x300, 4, 1, 4⟩
def VOTE_BIST : Field := ⟨0x300, 3, 1, 4⟩
def VOTE_TAMID : Field := ⟨0x300, 2, 1, 4⟩
def VOTE_MGMT : Field := ⟨0x300, 1, 1, 4⟩
def VOTE_HOST : Field := ⟨0x300, 0, 1, 4⟩
/-! Block clocks. -/

def CLK_STATUS_REF_OK : Field := ⟨0x0, 31, 1, 0⟩
def CLK_STATUS_HOLDOVER : Field := ⟨0x0, 30, 1, 0⟩
def CLK_STATUS_FREE_RUN : Field := ⟨0x0, 29, 1, 0⟩
def CLK_STATUS_CORE_LOCK : Field := ⟨0x0, 28, 1, 0⟩
def CLK_STATUS_SYN_LOCK : Field := ⟨0x0, 24, 4, 0⟩
def CLK_STATUS_DT_SYNCED : Field := ⟨0x0, 23, 1, 0⟩
def CLK_STATUS_CAL_VALID : Field := ⟨0x0, 22, 1, 0⟩
def CLK_STATUS_CAL_SRC : Field := ⟨0x0, 20, 2, 0⟩
def CLK_STATUS_XTAL_OK : Field := ⟨0x0, 19, 1, 0⟩
def CLK_STATUS_DISC_AGE : Field := ⟨0x0, 0, 16, 0⟩
def SYNC_CTRL_MODE : Field := ⟨0x10, 30, 2, 0⟩
def SYNC_CTRL_CAL_ALIGN : Field := ⟨0x10, 29, 1, 0⟩
def SYNC_CTRL_SYNC_NOW : Field := ⟨0x10, 28, 1, 0⟩
def SYNC_PERIOD_PERIOD : Field := ⟨0x14, 0, 32, 0⟩
def DT_LOAD_LO_LOAD : Field := ⟨0x18, 0, 32, 0⟩
def DT_LOAD_HI_LOAD : Field := ⟨0x1C, 0, 32, 0⟩
def SYNC_CAP_LO_CAP : Field := ⟨0x20, 0, 32, 0⟩
def SYNC_CAP_HI_CAP : Field := ⟨0x24, 0, 32, 0⟩
def SYNC_STAT_SEQ : Field := ⟨0x28, 24, 8, 0⟩
def SYNC_STAT_SRC : Field := ⟨0x28, 23, 1, 0⟩
def SYNC_STAT_LOADED : Field := ⟨0x28, 22, 1, 0⟩
def SYNC_STAT_REF_ABSENT : Field := ⟨0x28, 21, 1, 0⟩
def SYNC_STAT_FINE : Field := ⟨0x28, 16, 5, 0⟩
def SYNC_STAT_IGNORED : Field := ⟨0x28, 0, 16, 0⟩
def SYNC_ERR_ERR : Field := ⟨0x2C, 0, 32, 0⟩
def DT_LO_DT : Field := ⟨0x30, 0, 32, 0⟩
def DT_HI_DT : Field := ⟨0x34, 0, 32, 0⟩
def CAL_SEC_LO_SEC : Field := ⟨0x40, 0, 32, 0⟩
def CAL_SEC_HI_SEC : Field := ⟨0x44, 0, 8, 0⟩
def CAL_USEC_USEC : Field := ⟨0x48, 0, 20, 0⟩
def LEDGER_SNAP_SEQ : Field := ⟨0x100, 24, 8, 4⟩
def LEDGER_SNAP_NO_PATH : Field := ⟨0x100, 21, 1, 4⟩
def LEDGER_SNAP_UNSETTLED : Field := ⟨0x100, 20, 1, 4⟩
def LEDGER_SNAP_LATENCY_PS : Field := ⟨0x100, 0, 20, 4⟩
/-! Block memProt. -/

def MP_CTRL_CE_WARN : Field := ⟨0x0, 0, 16, 0⟩
def SCRUB_CTRL_SCRUB_EN : Field := ⟨0x4, 31, 1, 0⟩
def SCRUB_CTRL_SCRUB_INTERVAL : Field := ⟨0x4, 0, 19, 0⟩
def SCRUB_STATUS_BANK : Field := ⟨0x8, 23, 9, 0⟩
def SCRUB_STATUS_PASSES : Field := ⟨0x8, 0, 16, 0⟩
def MEM_CE_CE_COUNT : Field := ⟨0x10, 0, 32, 16⟩
def MEM_UNC_UNCORR : Field := ⟨0x14, 16, 16, 16⟩
def MEM_UNC_REBUILDS : Field := ⟨0x14, 0, 16, 16⟩
def MEM_LOG_OVERFLOW : Field := ⟨0x18, 16, 16, 16⟩
def MEM_LOG_VALID : Field := ⟨0x18, 8, 8, 16⟩
def MEM_LOG_PAGES_LOST : Field := ⟨0x18, 0, 8, 16⟩
def RETIRE_STATUS_BUSY : Field := ⟨0x50, 31, 1, 0⟩
def RETIRE_STATUS_CELLAR_SPARES : Field := ⟨0x50, 24, 7, 0⟩
def RETIRE_STATUS_PANTRY_SPARE : Field := ⟨0x50, 23, 1, 0⟩
def RETIRE_STATUS_ENGINE_SPARE : Field := ⟨0x50, 22, 1, 0⟩
def RETIRE_STATUS_LAST_ERR : Field := ⟨0x50, 19, 3, 0⟩
def RETIRE_STATUS_LOST_OVERFLOW : Field := ⟨0x50, 18, 1, 0⟩
def RETIRE_STATUS_LOST_WORDS : Field := ⟨0x50, 11, 7, 0⟩
def BANK_OP_RETIRE : Field := ⟨0x54, 31, 1, 0⟩
def BANK_OP_INIT : Field := ⟨0x54, 30, 1, 0⟩
def BANK_OP_BANK : Field := ⟨0x54, 0, 9, 0⟩
def BANK_MAP_PANTRY_USED : Field := ⟨0x58, 31, 1, 0⟩
def BANK_MAP_PANTRY_FOR : Field := ⟨0x58, 16, 9, 0⟩
def BANK_MAP_ENGINE_USED : Field := ⟨0x58, 15, 1, 0⟩
def BANK_MAP_ENGINE_FOR : Field := ⟨0x58, 0, 9, 0⟩
def RETIRE_MAP_VALID : Field := ⟨0x100, 31, 1, 4⟩
def RETIRE_MAP_COPYING : Field := ⟨0x100, 30, 1, 4⟩
def RETIRE_MAP_RETIRED : Field := ⟨0x100, 29, 1, 4⟩
def RETIRE_MAP_PAGE : Field := ⟨0x100, 0, 12, 4⟩
def RET_LOST_LOST : Field := ⟨0x200, 0, 32, 4⟩
/-! Block housekeeping. -/

def HK_CTRL_LP_FORCE : Field := ⟨0x0, 31, 1, 0⟩
def HK_CTRL_VREF_SEL : Field := ⟨0x0, 30, 1, 0⟩
def HK_EN_EN : Field := ⟨0x4, 0, 32, 0⟩
def HK_STATUS_LP_ACTIVE : Field := ⟨0x8, 31, 1, 0⟩
def HK_STATUS_ROUND_BUSY : Field := ⟨0x8, 30, 1, 0⟩
def HK_STATUS_QUEUED : Field := ⟨0x8, 0, 8, 0⟩
def HK_DROPS_URGENT_DROPS : Field := ⟨0xC, 16, 16, 0⟩
def HK_DROPS_QUEUE_DROPS : Field := ⟨0xC, 0, 16, 0⟩
def HK_RES_RESULT : Field := ⟨0x100, 0, 32, 4⟩
def TRIG_CFG_EN : Field := ⟨0x200, 31, 1, 16⟩
def TRIG_CFG_URGENT : Field := ⟨0x200, 30, 1, 16⟩
def TRIG_CFG_SRC : Field := ⟨0x200, 27, 3, 16⟩
def TRIG_CFG_ARG : Field := ⟨0x200, 22, 5, 16⟩
def TRIG_CFG_CHANNEL : Field := ⟨0x200, 17, 5, 16⟩
def TRIG_CFG_DELAY : Field := ⟨0x200, 0, 16, 16⟩
def TRIG_PERIOD_PERIOD : Field := ⟨0x204, 0, 32, 16⟩
def TRIG_RES_RESULT : Field := ⟨0x208, 0, 32, 16⟩
def TRIG_TIME_TIME : Field := ⟨0x20C, 0, 32, 16⟩
/-! Block thermal. -/

def THERM_CTRL_TEST_LEVELS : Field := ⟨0x0, 31, 1, 0⟩
def THERM_STATUS_PERIOD : Field := ⟨0x4, 30, 2, 0⟩
def THERM_STATUS_WARNING : Field := ⟨0x4, 29, 1, 0⟩
def THERM_STATUS_THROTTLE : Field := ⟨0x4, 28, 1, 0⟩
def THERM_STATUS_HOTTEST : Field := ⟨0x4, 24, 4, 0⟩
def THERM_STATUS_TJ_MAX : Field := ⟨0x4, 0, 16, 0⟩
def THERM_COUNTS_SHUTDOWNS : Field := ⟨0x8, 24, 8, 0⟩
def THERM_COUNTS_THROTTLES : Field := ⟨0x8, 16, 8, 0⟩
def THERM_COUNTS_WARNINGS : Field := ⟨0x8, 8, 8, 0⟩
def THERM_COUNTS_MISMATCHES : Field := ⟨0x8, 0, 8, 0⟩
def THERM_LAST_SITE : Field := ⟨0xC, 28, 4, 0⟩
def THERM_LAST_PEAK : Field := ⟨0xC, 16, 12, 0⟩
def THERM_LAST_DURATION : Field := ⟨0xC, 0, 16, 0⟩
def THERM_SITE_TEMP : Field := ⟨0x100, 16, 16, 4⟩
def THERM_SITE_MISMATCH : Field := ⟨0x100, 15, 1, 4⟩
def THERM_SITE_VALID : Field := ⟨0x100, 14, 1, 4⟩
def CAL_STATUS_CAL_TEMP : Field := ⟨0x200, 16, 16, 0⟩
def CAL_STATUS_SET_LO : Field := ⟨0x200, 8, 8, 0⟩
/-! Block counters. -/

def CNT_CTRL_SNAP : Field := ⟨0x0, 31, 1, 0⟩
def CNT_CTRL_CLR : Field := ⟨0x0, 30, 1, 0⟩
def CNT_CTRL_GRANT : Field := ⟨0x0, 29, 1, 0⟩
def CNT_CTRL_DUMP_PERIOD : Field := ⟨0x0, 0, 14, 0⟩
def CNT_STATUS_SNAP_SEQ : Field := ⟨0x4, 24, 8, 0⟩
def CNT_STATUS_BW_SEQ : Field := ⟨0x4, 16, 8, 0⟩
def CNT_STATUS_BW_VALID : Field := ⟨0x4, 15, 1, 0⟩
def CNT_STATUS_SKIPPED : Field := ⟨0x4, 0, 15, 0⟩
def DUMP_SEQ_SEQ : Field := ⟨0x8, 0, 32, 0⟩
def DUMP_NEXT_ADDR : Field := ⟨0xC, 0, 32, 0⟩
def BW_CTRL_WINDOW : Field := ⟨0x10, 0, 20, 0⟩
def BW_TIME_TIME : Field := ⟨0x18, 0, 32, 4⟩
def CNT_CFG_EVENT : Field := ⟨0x100, 16, 16, 4⟩
def CNT_CFG_THRESHOLD : Field := ⟨0x100, 0, 16, 4⟩
def CNT_SNAP_LO_COUNT : Field := ⟨0x400, 0, 32, 8⟩
def CNT_SNAP_HI_COUNT : Field := ⟨0x404, 0, 16, 8⟩
def CNT_LIVE_LO_COUNT : Field := ⟨0x800, 0, 32, 8⟩
def CNT_LIVE_HI_COUNT : Field := ⟨0x804, 0, 16, 8⟩
def BW_RATE : Field := ⟨0xC00, 0, 32, 4⟩
/-! Block testLc. -/

def LC_STATUS_STATE : Field := ⟨0x0, 29, 3, 0⟩
def LC_STATUS_PROGRAMMING : Field := ⟨0x0, 28, 1, 0⟩
def LC_STATUS_GROUPS : Field := ⟨0x0, 24, 4, 0⟩
def BIST_CTRL_BIST_EN : Field := ⟨0x10, 31, 1, 0⟩
def BIST_SUM_ROTATIONS : Field := ⟨0x14, 16, 16, 0⟩
def BIST_SUM_FAILING : Field := ⟨0x14, 8, 8, 0⟩
def BIST_SUM_NEXT : Field := ⟨0x14, 0, 8, 0⟩
def BIST_R0_SLICE : Field := ⟨0x100, 24, 8, 16⟩
def BIST_R0_RESULT : Field := ⟨0x100, 20, 4, 16⟩
def BIST_R0_COVERAGE : Field := ⟨0x100, 0, 16, 16⟩
def BIST_R1_DURATION : Field := ⟨0x104, 0, 24, 16⟩
def BIST_R2_TIME : Field := ⟨0x108, 0, 32, 16⟩
def BIST_R3_PASSES : Field := ⟨0x10C, 16, 16, 16⟩
def BIST_R3_FAILS : Field := ⟨0x10C, 8, 8, 16⟩
def BIST_R3_INCOMPLETES : Field := ⟨0x10C, 0, 8, 16⟩
/-! Block chain. -/

def MC_CTRL_START : Field := ⟨0x0, 31, 1, 0⟩
def MC_CTRL_STOP : Field := ⟨0x0, 30, 1, 0⟩
def MC_CTRL_SWAP : Field := ⟨0x0, 29, 1, 0⟩
def MC_CTRL_START_ON_SYNC : Field := ⟨0x0, 28, 1, 0⟩
def MC_CTRL_FORCE_FB : Field := ⟨0x0, 27, 1, 0⟩
def MC_CFG_SEL : Field := ⟨0x4, 31, 1, 0⟩
def MC_CFG_MIN_PHASE : Field := ⟨0x4, 30, 1, 0⟩
def MC_CFG_TAPS : Field := ⟨0x4, 16, 8, 0⟩
def MC_CFG_CIC_R : Field := ⟨0x4, 0, 13, 0⟩
def MC_DET_RMS_WIN : Field := ⟨0x8, 8, 4, 0⟩
def MC_DET_ATT : Field := ⟨0x8, 4, 4, 0⟩
def MC_DET_REL : Field := ⟨0x8, 0, 4, 0⟩
def MC_STATUS_RUNNING : Field := ⟨0xC, 31, 1, 0⟩
def MC_STATUS_ACTIVE_BANK : Field := ⟨0xC, 30, 1, 0⟩
def MC_STATUS_FADING : Field := ⟨0xC, 29, 1, 0⟩
def MC_STATUS_FALLBACK : Field := ⟨0xC, 28, 1, 0⟩
def MC_STATUS_LOST : Field := ⟨0xC, 27, 1, 0⟩
def MC_STATUS_OWNED : Field := ⟨0xC, 26, 1, 0⟩
def MC_STATUS_HOST_LOADED : Field := ⟨0xC, 25, 1, 0⟩
def MC_STATUS_OVF : Field := ⟨0xC, 24, 1, 0⟩
def MC_STATUS_GROUP_DELAY : Field := ⟨0xC, 0, 20, 0⟩
def MC_COUNTS_BUSY_COUNT : Field := ⟨0x10, 24, 8, 0⟩
def MC_COUNTS_WR_REJECT : Field := ⟨0x10, 16, 8, 0⟩
def MC_OUT_SETTLING : Field := ⟨0x14, 31, 1, 0⟩
def MC_OUT_OVF : Field := ⟨0x14, 30, 1, 0⟩
def MC_OUT_SEQ : Field := ⟨0x14, 24, 6, 0⟩
def MC_OUT_VALUE : Field := ⟨0x14, 0, 24, 0⟩
def MC_PEAK_PEAK : Field := ⟨0x18, 0, 24, 0⟩
def MC_RMS_RMS : Field := ⟨0x1C, 0, 24, 0⟩
def MC_ENV_ENV : Field := ⟨0x20, 0, 24, 0⟩
def MC_B0_COEF : Field := ⟨0x200, 0, 18, 4⟩
def MC_B1_COEF : Field := ⟨0x400, 0, 18, 4⟩
/-! Block chainCtl. -/

def MC_FB_STATUS_SERVED : Field := ⟨0xF000, 0, 24, 0⟩
/-! Block cdac. -/

def CD_CFG_EN : Field := ⟨0x0, 31, 1, 16⟩
def CD_CFG_GAIN2 : Field := ⟨0x0, 30, 1, 16⟩
def CD_CFG_STEP : Field := ⟨0x0, 16, 14, 16⟩
def CD_CFG_RATE_DIV : Field := ⟨0x0, 0, 10, 16⟩
def CD_STATE_STATE : Field := ⟨0x4, 29, 3, 16⟩
def CD_STATE_QUEUED : Field := ⟨0x4, 24, 5, 16⟩
def CD_CODES_TARGET : Field := ⟨0x8, 16, 14, 16⟩
def CD_CODES_OUT : Field := ⟨0x8, 0, 14, 16⟩
def CD_SAFE_POPS : Field := ⟨0xC, 16, 16, 16⟩
def CD_SAFE_SAFE_CODE : Field := ⟨0xC, 0, 14, 16⟩
def CD_SENSE_SENSE_SEL : Field := ⟨0x400, 0, 5, 0⟩
/-! Block pantryCtl. -/

def PANTRY_CTRL_DERIVE_EN : Field := ⟨0x0, 31, 1, 0⟩
def PANTRY_CTRL_AUTO_NLC : Field := ⟨0x0, 30, 1, 0⟩
def PANTRY_CTRL_AUTO_PD : Field := ⟨0x0, 29, 1, 0⟩
def PANTRY_CTRL_PD_TAMID : Field := ⟨0x0, 28, 1, 0⟩
def PANTRY_CTRL_GUEST_READ : Field := ⟨0x0, 27, 1, 0⟩
def PANTRY_CTRL_PD_SHARE : Field := ⟨0x0, 20, 4, 0⟩
def PANTRY_CTRL_M_DECAY : Field := ⟨0x0, 16, 4, 0⟩
def PANTRY_CTRL_DERIVE_PERIOD : Field := ⟨0x0, 0, 16, 0⟩
def PL_CTRL_E_EN : Field := ⟨0x100, 31, 1, 32⟩
def PL_CTRL_M_EN : Field := ⟨0x100, 30, 1, 32⟩
def PL_CTRL_FREEZE : Field := ⟨0x100, 29, 1, 32⟩
def PL_CTRL_CLEAR : Field := ⟨0x100, 28, 1, 32⟩
def PL_CTRL_SAMPLE_DIV : Field := ⟨0x100, 0, 16, 32⟩
def PL_STATUS_SAMPLING : Field := ⟨0x104, 31, 1, 32⟩
def PL_STATUS_FROZEN : Field := ⟨0x104, 30, 1, 32⟩
def PL_STATUS_CLEARING : Field := ⟨0x104, 29, 1, 32⟩
def PL_STATUS_STALE_E : Field := ⟨0x104, 28, 1, 32⟩
def PL_STATUS_STALE_M : Field := ⟨0x104, 27, 1, 32⟩
def PL_STATUS_E_SAT : Field := ⟨0x104, 26, 1, 32⟩
def PL_STATUS_UPDATER_FAIL : Field := ⟨0x104, 25, 1, 32⟩
def PL_STATUS_NLC_INSTALLS : Field := ⟨0x104, 16, 8, 32⟩
def PL_STATUS_PD_INSTALLS : Field := ⟨0x104, 8, 8, 32⟩
def PL_STATUS_NLC_REVERTS : Field := ⟨0x104, 4, 4, 32⟩
def PL_STATUS_PD_REVERTS : Field := ⟨0x104, 0, 4, 32⟩
def PL_SAMP_LO_S_LO : Field := ⟨0x108, 0, 32, 32⟩
def PL_SAMP_HI_S_HI : Field := ⟨0x10C, 0, 16, 32⟩
def PL_EXCL_X : Field := ⟨0x110, 0, 32, 32⟩
def PL_DERIVE_INSTALL_AGE : Field := ⟨0x114, 16, 16, 32⟩
def PL_DERIVE_PROP_SEQ_TX : Field := ⟨0x114, 8, 8, 32⟩
def PL_DERIVE_PROP_SEQ_RX : Field := ⟨0x114, 0, 8, 32⟩
/-! Block keyholder. -/

def KEY_STATUS_HOLDER : Field := ⟨0x0, 31, 1, 0⟩
def KEY_STATUS_A_ALIVE : Field := ⟨0x0, 30, 1, 0⟩
def KEY_STATUS_B_ALIVE : Field := ⟨0x0, 29, 1, 0⟩
def KEY_STATUS_FOLLOWER_OK : Field := ⟨0x0, 28, 1, 0⟩
def KEY_STATUS_EPOCH : Field := ⟨0x0, 16, 8, 0⟩
def KEY_STATUS_TAKEOVERS : Field := ⟨0x0, 8, 8, 0⟩
def KEY_STATUS_DUAL_CLAIMS : Field := ⟨0x0, 0, 8, 0⟩
def KEY_COUNTS_BLOCKED : Field := ⟨0x4, 16, 16, 0⟩
def KEY_COUNTS_VOTES : Field := ⟨0x4, 8, 8, 0⟩
def KEY_COUNTS_RETRIES : Field := ⟨0x4, 0, 8, 0⟩

/-! Fields that repeat inside one register. -/

def DAC_STATUS_U4_SPARE_NONE (sub : Nat) : Field := ⟨0x80C, 8 * sub + 7, 1, 0⟩
def DAC_STATUS_U1_SPARE_NONE (sub : Nat) : Field := ⟨0x80C, 8 * sub + 6, 1, 0⟩
def DAC_STATUS_PERSIST (sub : Nat) : Field := ⟨0x80C, 8 * sub + 5, 1, 0⟩
def DAC_STATUS_ROT_COUNT (sub : Nat) : Field := ⟨0x80C, 8 * sub, 5, 0⟩
def LB_LINE_CODE (n : Nat) : Field := ⟨0x20, 3 * n, 3, 0⟩
def LB_TAMID_CODE (i : Nat) : Field := ⟨0x24, 2 * i, 2, 0⟩

end Reg

end Sys2Proof.Machine
end

