-- ==== Sys2Proof/Machine/Sparse.lean ====
section
/-! DEFINITION. Sparse data by key: a list of key and value pairs in one canonical form (keys strictly
rising, no entry equal to what an unlisted key reads as), with its lookup and its update.  It holds the
register space, the Hallway memories, the flash and the engines. -/

namespace Sys2Proof.Machine

/-- The entry of a key, if the list holds one. -/
def Sparse.find? {α : Type} : List (Nat × α) → Nat → Option α
  | [], _ => none
  | (k, v) :: t, a => if k = a then some v else Sparse.find? t a

/-- What a key reads as: its entry, or the default `d` of an unlisted key. -/
def Sparse.get {α : Type} (d : Nat → α) (m : List (Nat × α)) (a : Nat) : α :=
  (Sparse.find? m a).getD (d a)

/-- The list without any entry of a key. -/
def Sparse.erase {α : Type} : List (Nat × α) → Nat → List (Nat × α)
  | [], _ => []
  | (k, v) :: t, a => if k = a then Sparse.erase t a else (k, v) :: Sparse.erase t a

/-- The list with an entry put before the first larger key. -/
def Sparse.insert {α : Type} : List (Nat × α) → Nat → α → List (Nat × α)
  | [], a, v => [(a, v)]
  | (k, w) :: t, a, v =>
    if a < k then (a, v) :: (k, w) :: t else (k, w) :: Sparse.insert t a v

/-- A write: the old entry goes, and the new one is listed unless it equals the default. -/
def Sparse.set {α : Type} [DecidableEq α] (d : Nat → α) (m : List (Nat × α)) (a : Nat) (v : α) :
    List (Nat × α) :=
  if v = d a then Sparse.erase m a else Sparse.insert (Sparse.erase m a) a v

/-- Every key of the list is above `lo`, keys rise strictly, and no entry equals the default. -/
def Sparse.wfFrom {α : Type} [DecidableEq α] (d : Nat → α) : Nat → List (Nat × α) → Bool
  | _, [] => true
  | lo, (k, v) :: t => decide (lo ≤ k) && decide (v ≠ d k) && Sparse.wfFrom d (k + 1) t

/-- The canonical form. -/
def Sparse.wf {α : Type} [DecidableEq α] (d : Nat → α) (m : List (Nat × α)) : Bool :=
  Sparse.wfFrom d 0 m

end Sys2Proof.Machine
end

