-- ==== Sys2Proof/Machine/State.lean ====
section
/-! DEFINITION. The state of the part: its registers, its memories, and the state that the chapters give
each unit beyond its registers, as plain data; and the state after reset. -/

namespace Sys2Proof.Machine

/-- Reasons a command stops with a fault.  The spec gives every command of the table an effect or a
reply, so no meaning raises one; safe. -/
inductive Fault where
  /-- Raised by no meaning: kept so that the type has a value to name.  Safe. -/
  | none
  deriving DecidableEq, Repr

/-- Reasons a command is refused. -/
inductive Refusal where
  /-- Raised by the arms of `exec` whose command has no meaning yet; safe. -/
  | notModelled (mnemonic : String)
  deriving DecidableEq, Repr

/-- The outcome of a command. -/
abbrev Result := Host.Outcome

/-! ### Line lanes -/

/-- A planned substitution: the slice to take out, whether it is retired (R70) or becomes the spare (R75), and whether a
rotation step of it has been abandoned, so that it waits for the next try. -/
structure PlannedSubst where
  slice : Nat
  retire : Bool
  waits : Bool
  deriving DecidableEq, Repr

/-- The ADC of a line lane beyond its registers (R60 to R77). -/
structure AdcState where
  /-- Step of Table 3-4 reached: 0 stopped, 3 measuring against the ramp, 4 converging, 5 rotating. -/
  step : Nat
  /-- An ADC start has taken place since the device reset or REG_LOST. -/
  assigned : Bool
  /-- Corrections in force of each slice (R60). -/
  terms : Vector SliceTerms 17
  /-- The linearisation table of each slice, by code; none before its first measurement (R60). -/
  lin : Vector (List Rat) 17
  /-- Tick of each slice's last ramp measurement. -/
  lastRamp : Vector (Option Nat) 17
  /-- Offset, gain and ENOB each slice last measured against the ramp (R65, R79). -/
  rampOffset : Vector Rat 17
  rampGain : Vector Rat 17
  enob : Vector Nat 17
  /-- Isolated self-check flags since lane start (Table 3-14). -/
  checkErr : Vector Nat 17
  /-- Tick and conversion of each slice's last self-check flags, newest first (Table 3-7). -/
  flags : Vector (List (Nat × Nat)) 17
  /-- Target position of the rotation step in TRAIN. -/
  training : Option Nat
  /-- A planned substitution that the next rotation step carries out. -/
  planned : Option PlannedSubst
  /-- Bridged positions with their failing slices. -/
  bridged : List (Nat × Nat)
  /-- Position of the urgent substitution in progress. -/
  urgent : Option Nat
  /-- The spare of the urgent substitution has reached the position and trains. -/
  urgentTraining : Bool
  /-- The spare of the urgent substitution was PARKED and runs a full CAL before it moves (Table 3-8). -/
  urgentCal : Bool
  /-- Digital gain against VGA steps at `vgaTick`, in VGA steps of 0.5 dB; it returns to 0 over 1 ms (R54). -/
  vgaComp : Rat
  vgaTick : Nat
  /-- Tick at which SPUR was last published (R79). -/
  spurTick : Option Nat
  deriving DecidableEq, Repr

/-- The receiver of a line lane beyond its registers. -/
structure LineRx where
  /-- Tick of the trigger of the acquisition or re-lock in progress (R105). -/
  trigger : Nat
  /-- Signal present has been declared and lasts (R101). -/
  signal : Bool
  /-- Highest ACQ_STATE 1 to 7 reached since signal present (R102). -/
  highest : Nat
  /-- The lane's clocks are stopped: DOZE or a clock fault (R103). -/
  clocksStopped : Bool
  /-- A lane start waits for the synthesiser of the half (R211). -/
  startDue : Bool
  /-- Step 1 to 3 of Table 4-7 in progress, 0 outside a fast re-lock. -/
  relockStep : Nat
  /-- Step exponent 7 is in force for an acquisition or a re-lock (R101). -/
  fastFfe : Bool
  /-- Tick of the lane's last profile switch: step exponent 7 is in force for 0.5 ms from it (R85). -/
  switchTick : Option Nat
  /-- Receive precoding in force, and a change that waits for the next line-frame boundary (R38). -/
  precode : Bool
  precodeNext : Option Bool
  /-- Tick at which the line frame was found: its boundaries count from there. -/
  frameTick : Nat
  /-- Rotator phase in units of 1/256 symbol period at `phaseTick`, and the frequency word in units of 0.004 ppm
  that the phase advances with (R86). -/
  rotPhase : Rat
  freqWord : Int
  phaseTick : Nat
  /-- SNR_LOW has been raised and has not re-armed (R108). -/
  snrHeld : Bool
  /-- SNR_MIN has been read and takes the next publication (R6). -/
  snrMinFresh : Bool
  /-- Variance estimate of the detector error (R95). -/
  sigma2 : Rat
  /-- Inner-decoder counters, 48 bits each (R131). -/
  innerCw : Nat
  innerChanged : Nat
  innerMulti : Nat
  innerBits : Nat
  innerSyms : Nat
  /-- Codewords and changed bits of the 1 ms interval in progress (R132). -/
  intCw : Nat
  intBits : Nat
  /-- Changed bits and decoded bits of the last 1 ms intervals, newest first (R132). -/
  berRun : List (Nat × Nat)
  /-- INNER_BER_HIGH has been raised and has not re-armed (R133). -/
  berHeld : Bool
  /-- Alignment of the deinterleaver that the last line-frame search kept (R117). -/
  alignment : Nat
  /-- Marker mismatches of the last frames, newest first (R118). -/
  markerHist : List Bool
  /-- Codewords seen and failing codewords of the window in progress, and consecutive failing windows (R118). -/
  winSeen : Nat
  winBad : Nat
  badWindows : Nat
  /-- What the inner decoder delivered last: the 120 outer-coded bits, and for each of the 64 line symbols whether
  the decoder changed a bit of it (R121). -/
  outer : List Bool
  changed : List Bool
  /-- Line checker counters, 48 bits each; while the checker holds its lock the symbols compared count on from `patSyms`
  at the tick `patSince` (R160). -/
  patSyms : Nat
  patSince : Option Nat
  patSymErr : Nat
  patBitErr : Nat
  deriving DecidableEq, Repr

/-- The current cells of one sub-DAC (R144 to R148). -/
structure SubDac where
  /-- Cells of the sub-DAC, oldest trim first. -/
  order : List Nat
  /-- The spare of each kind. -/
  spare4 : Option Nat
  spare1 : Option Nat
  /-- The cell under trim (R145). -/
  underTrim : Option Nat
  /-- Cells out of service for good: retired, or out of the map with no replacement (R147, R148). -/
  out : List Nat
  /-- Degrading cells that the next rotation step retires (R147). -/
  degraded : List Nat
  deriving DecidableEq, Repr

/-- The transmitter of a line lane beyond its registers. -/
structure LineTx where
  /-- CM_RAMP runs with falling current (R155). -/
  falling : Bool
  /-- The E1 step of the domain took the transmitter down with TX_EN left at 1 (R353). -/
  takenDown : Bool
  /-- HELD was entered from CM_RAMP and not left since (Table 6-5). -/
  heldFromCm : Bool
  /-- FS_SET in force since the last CAL (R150). -/
  fsInForce : Nat
  /-- Tick at which the amplitude ramp began, and RAMP_SEL as it was then (R153). -/
  rampTick : Nat
  rampSel : Nat
  /-- Glide in progress: the taps it left, the targets, and the next step (R139). -/
  glideFrom : List Int
  glideTo : List Int
  glideStep : Nat
  /-- Transmit precoding in force, a change that waits for the next line-frame boundary, and the precoder's P(j−1)
  (R38). -/
  precode : Bool
  precodeNext : Option Bool
  precoderP : Nat
  /-- Tick of the last start of the transmit datapath: its line frames count from there. -/
  frameTick : Nat
  /-- Starts of the transmit datapath: each begins a line frame and an interleaver of its own (R115). -/
  starts : Nat
  /-- TX_SPUR_HIGH has been raised and has not re-armed (R149). -/
  spurHeld : Bool
  subs : Vector SubDac 4
  deriving DecidableEq, Repr

/-- Why a line lane's directions carry fill beyond lock (Table 2-6), with the PRBS31 generators. -/
structure LaneLink where
  /-- Streams judged out of range: `none` the line stream, `some m` the host stream of Hm (R28). -/
  outOfRange : List (Option (Fin 16))
  /-- The group is being re-timed for a profile change (R21). -/
  profileFill : Bool
  /-- The group is being aligned (R44). -/
  groupFill : Bool
  /-- DESKEW_RANGE holds in the receive direction or the host direction (R43). -/
  deskewRx : Bool
  deskewTx : Bool
  /-- The Mode B pair is being realigned, and holds an alignment (R34). -/
  pairFill : Bool
  pairAligned : Bool
  /-- Ticks at which the fill episodes in progress began: line→host, and host→line for the first and the second
  mapped host lane.  The generator of an episode stands at all ones there (R39).  DESIGN CHOICE (log 109): the two
  host lanes of a Mode B line lane share one line→host generator. -/
  fillRx : Option Nat
  fillTx0 : Option Nat
  fillTx1 : Option Nat
  /-- Ticks at which the fades of the canceller and of the pre-distortion banks began (R90, R141). -/
  nlcFade : Nat
  pdFade : Nat
  deriving DecidableEq, Repr

/-- A line lane beyond its registers. -/
structure LineLane where
  adc : AdcState
  rx : LineRx
  tx : LineTx
  link : LaneLink
  deriving DecidableEq, Repr

/-! ### Host lanes -/

/-- The live counters of a KP4 monitor (R126, R130). -/
structure Kp4Counters where
  total : Nat
  corr : Nat
  uncorr : Nat
  symErr : Nat
  bitErr : Nat
  hist : Vector Nat 15
  /-- Consecutive uncorrectable codewords (R124). -/
  run : Nat
  /-- Uncorrectable codewords since KP4_UNCORR was last raised (R133). -/
  sinceRaise : Nat
  deriving DecidableEq, Repr

/-- The status that answers a training request (R199). -/
inductive TrainAnswer where
  | none
  | updated
  | atMaximum
  | atMinimum
  | notSupported
  deriving DecidableEq, Repr

/-- A host lane beyond its registers. -/
structure HostLane where
  /-- Tick of the trigger of the acquisition or re-lock in progress (R105, R197). -/
  trigger : Nat
  /-- Step 3 to 5 of Table 8-4 in progress, 0 outside them. -/
  acqStep : Nat
  /-- Signal present has been declared and lasts (R195). -/
  signal : Bool
  /-- Highest HR_STATE 1 to 5 reached since signal present (R196). -/
  highest : Nat
  clocksStopped : Bool
  /-- A start waits for the synthesiser of the half (R211). -/
  startDue : Bool
  /-- Tick at which the retained receive state was last in use (R202). -/
  retained : Option Nat
  /-- Consecutive updates whose error rate exceeded 10^−2 (R197). -/
  errRun : Nat
  /-- The converter's offset, and its gain as a departure from 1, and the detector's three thresholds in LSB (R192,
  R193). -/
  adcOffset : Rat
  adcGain : Rat
  thresholds : Vector Rat 3
  /-- HR_SNR_LOW has been raised and has not re-armed (R198). -/
  snrHeld : Bool
  hr : Kp4Counters
  lr : Kp4Counters
  /-- TERMINATE in force at each monitor (R128). -/
  termHr : Bool
  termLr : Bool
  /-- The codeword that each monitor forwarded last, as 544 symbols (R127), and the phase of the codeword lock (R123). -/
  outHr : List Nat
  outLr : List Nat
  cwPhase : Nat
  /-- Host checker counters, as those of a line checker (R204). -/
  patSyms : Nat
  patSince : Option Nat
  patSymErr : Nat
  patBitErr : Nat
  /-- A fall to OFF is in progress (R190). -/
  falling : Bool
  /-- The E1 step of the domain took the transmitter down with HT_EN left at 1 (R353). -/
  takenDown : Bool
  /-- The transmit precoder's P(j−1) (R189). -/
  precoderP : Nat
  /-- Training has reached DONE since HT_EN was last written 1 (R190). -/
  trained : Bool
  /-- Requester (R200): precoding has been asked for; the tap in hand, −1, +1, 0 in order as 0, 1, 2; a
  step of it is being judged; a step of this pass was kept; requests of this training; this end is ready. -/
  reqAsked : Bool
  reqTap : Nat
  reqJudging : Bool
  reqKept : Bool
  reqCount : Nat
  reqReady : Bool
  /-- Status of the last answer as responder (R199). -/
  answer : TrainAnswer
  deriving DecidableEq, Repr

/-! ### Lane groups and profile -/

/-- A profile change in progress (R21): the target, the line lanes that have not switched, ascending, and the lowest
lane of the group that carries fill. -/
structure ProfileChange where
  target : Nat
  left : List Nat
  switching : Option Nat
  deriving DecidableEq, Repr

/-- Mode, grouping and profile (R18, R22, R30, R40). -/
structure Lanes where
  mode : Nat
  grouping : Nat
  change : Option ProfileChange
  /-- Lanes that a mode or grouping change still waits for (R44). -/
  modeChange : List Nat
  /-- Groups, by their lowest lanes, whose alignment point is held: of the line receive direction, and of the transmit
  direction (R41, R42, R44). -/
  aligned : List Nat
  alignedTx : List Nat
  /-- Profile recorded under R22 and the profile in force before the throttle. -/
  recorded : Option Nat
  beforeThrottle : Option Nat
  /-- Profile to change to once the change in progress completes (R397, R22). -/
  wanted : Option Nat
  deriving DecidableEq, Repr

/-! ### Fuse Box -/

/-- The first-fault record (Table 13-10). -/
structure FaultRecord where
  valid : Bool
  escalated : Bool
  source : Nat
  severity : Nat
  highestSev : Nat
  lane : Nat
  detail : Nat
  mergeCount : Nat
  time : Nat
  highestSource : Nat
  priorReset : Bool
  lastTime : Nat
  deriving DecidableEq, Repr

/-- A history entry (Table 13-8). -/
structure HistEntry where
  source : Nat
  severity : Nat
  first : Bool
  merged : Bool
  escalating : Bool
  lane : Nat
  detail : Nat
  reactions : Nat
  time : Nat
  deriving DecidableEq, Repr

/-- A source in the active set, with its CLEARED mark and whether it holds SQUELCH (R334, R340). -/
structure ActiveEntry where
  src : Nat
  cleared : Bool
  squelch : Bool
  deriving DecidableEq, Repr

/-- A reaction that starts after the raise that asked for it, within the bound of R334 or Table 13-6. -/
inductive Due where
  /-- The FAULT squelch cause of a transmitter is set or cleared to what the active set says. -/
  | lineCause (n : Fin 8)
  | hostCause (m : Fin 16)
  /-- REACQ of a lane. -/
  | lineReacq (n : Fin 8)
  | hostReacq (m : Fin 16)
  /-- Steps 2 to 6 of Table 13-6. -/
  | safe
  /-- DOZE ends on a raise with ATTN (R358). -/
  | doze
  deriving DecidableEq, Repr

/-- The Fuse Box beyond its registers. -/
structure FuseBox where
  record : FaultRecord
  /-- FFR_1 to FFR_5 as the last read of FFR_0 latched them (R347). -/
  latched : List Word
  /-- Oldest first, at most 16. -/
  hist : List HistEntry
  overwritten : Nat
  active : List ActiveEntry
  /-- Sources marked BLIND (R326). -/
  blind : List Nat
  /-- Level sources whose pair shows fault (R324). -/
  rails : List Nat
  /-- Reaction sets that differ from their default. -/
  sets : List (Nat × Nat)
  safe : Bool
  votes : Nat
  /-- Reactions that the command in hand still starts; empty between commands. -/
  due : List Due
  deriving DecidableEq, Repr

/-! ### Power -/

/-- An access that waits for a domain to be ready (R354), with what is left of it. -/
inductive Stalled where
  | readReg (o : Origin) (addr left : Nat) (got : List Byte)
  | writeReg (o : Origin) (left : List (Word × Word)) (total : Nat)
  | ctlWrite (addr value : Word)
  | memRead (o : Origin) (addr left : Nat) (got : List Byte) (findings : List WordFinding)
  | pantryRead (o : Origin) (addr left : Nat) (got : List Byte)
  | engineFld (r : Fin 16) (e : Nat)
  | engineFst (r : Fin 16) (e addr : Nat) (value : Word)
  | guestLoad (o : Origin) (e : Nat)
  deriving DecidableEq, Repr

/-- The access of a command: the command is executed again after a restart (R401, Table 11-20). -/
def Stalled.ofCommand : Stalled → Bool
  | .readReg .. => true
  | .writeReg .. => true
  | .memRead .. => true
  | .pantryRead .. => true
  | .guestLoad .. => true
  | .ctlWrite .. => false
  | .engineFld .. => false
  | .engineFst .. => false

/-- The domains beyond DOM_d and VOTE_d. -/
structure Power where
  /-- Voting is in effect: boot has reached step 9 (R352). -/
  voting : Bool
  /-- Domains whose linger timer runs, with the tick at which it expires (R352). -/
  lingering : List (Nat × Nat)
  /-- Domains whose entry was abandoned and is being undone. -/
  undoing : List Nat
  /-- Domains that must wake once the step in progress completes (R355). -/
  wakeAfter : List Nat
  /-- Accesses that wait, with their domains, oldest first. -/
  stalled : List (Nat × Stalled)
  /-- Device state requested after a return to ACTIVE (R357). -/
  next : Option Nat
  /-- DEEP entry step 1 to 5, 0 outside; DEEP exit runs. -/
  deepStep : Nat
  deepExit : Bool
  /-- DEEP_NORMAL or REG_SWITCH to raise at exit, with its detail. -/
  deepReport : Option (Nat × Nat)
  /-- AO count of microseconds since DEEP was in force (R215). -/
  deepMicros : Nat
  /-- Tick at which DOZE began. -/
  dozeSince : Nat
  deriving DecidableEq, Repr

/-! ### Clocks and time -/

/-- The clocks, device time and the calendar beyond their registers. -/
structure ClockState where
  /-- The core clock runs, locked or free: it stands still under RESET_N and in a thermal shutdown. -/
  running : Bool
  /-- Device time, 64 bits (R213). -/
  deviceTime : Nat
  /-- Sync loads to be written: ticks still to go, and the value each writes (Table 9-3). -/
  loads : List (Nat × Nat)
  /-- The check origin O, once a load has been made (R217, R218). -/
  origin : Option Int
  /-- Instant of the last accepted sync event in units of 1/32 core tick, its FINE taken off (R216). -/
  lastSync : Option Int
  /-- Tick of the loss of the reference, until it returns (Table 9-6). -/
  refLost : Option Nat
  /-- Edges ignored since SYNC_GAP was last raised (Table 9-6). -/
  ignoredSince : Nat
  /-- The calendar (R225), a SET_CALENDAR and an alignment that wait for the next AO tick. -/
  calSec : Nat
  calUsec : Nat
  calSet : Option (Nat × Nat)
  calAlign : Bool
  /-- Quarter core ticks since the last AO tick: an AO tick is 781.25 core ticks (R210). -/
  aoPhase : Nat
  /-- Time since the last crystal period, in units of 1/32,768 core tick (R225). -/
  xtalPhase : Nat
  /-- AO ticks since DISC_AGE last changed. -/
  aoHour : Nat
  /-- Trim of the AO oscillator per 5 °C bin from −5 °C, newest last (R223). -/
  trims : List (Nat × Int)
  /-- DISCIPLINE_OLD has been raised for this age (R224). -/
  oldRaised : Bool
  /-- Tick at which each synthesiser stopped, until it locks again (R228). -/
  synLoss : Vector (Option Nat) 4
  /-- Transmitters that the fixed squelch of R227 holds. -/
  sqLine : List (Fin 8)
  sqHost : List (Fin 16)
  deriving DecidableEq, Repr

/-- Start-up: the RESET_N pin, and the boot step in progress (Table 11-19), 0 outside boot. -/
structure BootState where
  /-- Level at the RESET_N ball, and the effective level of R470. -/
  ball : Bool
  resetHigh : Bool
  step : Nat
  /-- Slot whose image is in the firmware area, 2 for a download, and VERSION of the image that runs. -/
  slot : Nat
  version : Option Nat
  /-- The straps as the rising edge of RESET_N sampled them (R282). -/
  straps : BitVec 10
  /-- The supplies have released the part (R470). -/
  released : Bool
  /-- Which controllers passed their self-test (Table 11-19 step 3). -/
  aOk : Bool
  bOk : Bool
  /-- The flash passes R284. -/
  sfdp : Bool
  /-- Rails that have fallen, and a brown-out: raised at the next boot (R471, R363). -/
  rails : Nat
  brownout : Bool
  /-- The Attic record of the brown-out is still to be formed (Table 18-6). -/
  brownoutNote : Bool
  /-- TRAFFIC_READY has been set since the start (R396). -/
  traffic : Bool
  /-- Consecutive rounds in which channel 25 differs from V_VID (R473). -/
  vidRounds : Nat
  /-- Tick of the last step of CODE (R472). -/
  vidAt : Option Nat
  /-- Tick of the effective rising edge of RESET_N, or of the start of RESET_ALL (R273, R281). -/
  edge : Nat
  /-- Tick of the last watchdog restart of each controller (R293). -/
  wdA : Nat
  wdB : Nat
  deriving DecidableEq, Repr

/-! ### The management link -/

/-- A command packet that passed the packet checks and waits for its command (R271). -/
structure Packet where
  via : Via
  seq : Nat
  opcode : Nat
  params : List Byte
  deriving DecidableEq, Repr

/-- A reply packet (Table 11-4). -/
structure Reply where
  seq : Nat
  status : Nat
  results : List Byte
  deriving DecidableEq, Repr

/-- A command answered ACCEPTED that still runs (R272). -/
structure Running where
  origin : Origin
  opcode : Nat
  arg : Nat
  deriving DecidableEq, Repr

/-- A RESET_ALL that is accepted (R281): replies still to be read up to its own, and the tick at which its reply was placed. -/
structure ResetWait where
  left : Nat
  placed : Nat
  deriving DecidableEq, Repr

/-- The management link and the controllers beyond their registers. -/
structure Link where
  /-- Packets received and not yet taken, oldest first, at most four. -/
  inbox : List (Via × List Byte)
  /-- Packets taken from the inbox whose command has not run. -/
  taken : List Packet
  /-- Replies waiting, oldest first, at most four. -/
  outbox : List Reply
  /-- Replies that wait for a place in the outbox. -/
  waiting : List Reply
  running : List Running
  /-- Bytes the part drove in the last read transaction. -/
  busOut : List Byte
  /-- The last word a register read returned. -/
  readData : Word
  /-- RETRY replies since reset (GET_STATE). -/
  retries : Nat
  /-- RESET_ALL has been accepted and its reset has not started (R281). -/
  resetAll : Option ResetWait
  inBand : Bool
  dynamicAddr : Option (BitVec 7)
  /-- Mandatory byte of the last in-band interrupt raised (R266). -/
  interrupt : Option Byte
  deriving DecidableEq, Repr

/-! ### Counters and Attic -/

/-- A performance counter (R432): its event select, occupancy threshold and 48-bit count. -/
structure Counter where
  event : Nat
  threshold : Nat
  count : Nat
  deriving DecidableEq, Repr

/-- The counter block beyond its registers. -/
structure CounterState where
  /-- Counters that are not at their reset setting, by number. -/
  live : List (Nat × Counter)
  /-- Bits [47:32] latched by the last read of CNT_LIVE_LO_k at each port, by 32 × k + port (R435). -/
  liveHi : List (Nat × Nat)
  /-- Number of the bandwidth window in progress, from 1; the tick from which windows are counted; and the bits that each
  monitor has counted in the window, by monitor (R436). -/
  bwWindow : Nat
  bwStart : Nat
  bw : List (Nat × Nat)
  /-- Tick at which the next dump latch falls (R437). -/
  dumpNext : Nat
  /-- A dump record is being written, with its bytes (R437). -/
  dump : Option (List Byte)
  /-- SEQ of the next dump. -/
  dumpSeq : Nat
  /-- CLR since the previous dump, and latches not made since the previous record. -/
  cleared : Bool
  skipped : Nat
  deriving DecidableEq, Repr

/-- A journal record that waits for the Attic writer (Table 18-5). -/
structure AtticRecord where
  type : Nat
  sec : Nat
  calValid : Bool
  poh : Nat
  payload : List Byte
  /-- Tick at which it joined the queue (R441). -/
  arrived : Nat
  deriving DecidableEq, Repr

/-- Wear of a laser (R444): the reference with its day, NOW_BIAS, the bias and PD of the periods of the day in
progress, the estimates with the POH at which they were formed, and the wear steps already raised. -/
structure Laser where
  reference : Option (Nat × Nat × Nat)
  now : Nat
  day : List (Nat × Nat)
  estimates : List (Nat × Rat)
  step : Nat
  deriving DecidableEq, Repr

/-- The Attic writer and the lifetime totals (R440 to R444). -/
structure Attic where
  /-- The Attic is available (R290). -/
  available : Bool
  queue : List AtticRecord
  /-- SEQ of the next record, the sector in use, its next pair, and the POH in minutes. -/
  seq : Nat
  sector : Nat
  slot : Nat
  poh : Nat
  /-- Sector of the newest journal record. -/
  lastSector : Nat
  /-- The record at the head failed in the sector before (R447). -/
  retried : Bool
  /-- Ticks at which the last event records were formed (R441). -/
  formed : List Nat
  /-- EVENTS_DROPPED for the next PERIODIC record, and over the life. -/
  dropped : Nat
  droppedTotal : Nat
  /-- Records discarded or dropped by a full queue. -/
  deferred : Nat
  /-- Standing image: SEQ, sector of the newest, POH at its writing, a write is due. -/
  standSeq : Nat
  standSector : Nat
  standPoh : Nat
  standDue : Bool
  laneMin : List Nat
  hist : List Nat
  shutdowns : Nat
  brownouts : Nat
  safeStates : Nat
  boots : Nat
  sliceSubst : Nat
  cellSubst : Nat
  engineTakeovers : Nat
  ctrlTakeovers : Nat
  /-- Retirements in force: (spare, page) of the Cellar, and the banks replaced (R318). -/
  cellarRet : List (Nat × Nat)
  pantryRet : Option Nat
  engineRet : Option Nat
  lasers : Vector Laser 8
  /-- The housekeeping rounds of the period in progress, with the largest and the sum of their hottest readings, and the sums of
  their PDMON codes (Table 18-6). -/
  rounds : Nat
  tempMax : Nat
  tempSum : Nat
  pdSums : Vector Nat 8
  deriving DecidableEq, Repr

/-! ### Housekeeping, control DACs and monitor chains -/

/-- A slow round in progress (R370): its mode, its channels, the conversions made and kept, the sums of
the codes by channel, and the channels with an over-range code. -/
structure HkRound where
  lp : Bool
  channels : List Nat
  done : Nat
  sums : Vector Nat 32
  ovr : List Nat
  /-- The voltage at VREF_EXT at the last conversion. -/
  vref : Rat
  deriving DecidableEq, Repr

/-- The housekeeping ADC and its trigger units beyond their registers. -/
structure HkState where
  round : Option HkRound
  /-- Rounds completed. -/
  rounds : Nat
  /-- The last conversion was over-range, and of this channel (R371). -/
  prevOver : Option Nat
  /-- Triggered conversions of each unit. -/
  taken : Vector Nat 8
  /-- Urgent requests with their sampling instants, and the queue of R372, oldest first. -/
  urgent : List (Nat × Nat)
  queue : List (Nat × Nat)
  /-- Strobes and sync events that a unit has still to turn into a request: the unit, and the device time of the
  first reference edge at or after the event (R372). -/
  strobes : List (Nat × Nat)
  /-- Tick at which each timer was last loaded. -/
  timers : Vector Nat 8
  /-- Units whose engine event has been raised. -/
  events : List Nat
  /-- Largest magnitude of the residual of channel 29 since CAL_QUALITY last read it, and the last residual, in ppm of full
  scale (R405). -/
  residualMax : Rat
  residual : Rat
  /-- Tick at which the next round is due, and the lateness in µs that an unfinished round gave it (R370). -/
  roundDue : Nat
  late : Option Nat
  deriving DecidableEq, Repr

/-- A control-DAC channel beyond its registers (R376 to R378). -/
structure CdacChannel where
  queue : List Nat
  /-- RATE_DIV from the next sample tick. -/
  rateNext : Option Nat
  /-- Range of the change in progress, and the clamp of its step 2. -/
  rangeTo : Option Bool
  clampEngaged : Bool
  /-- Code the converter is driven with. -/
  driven : Nat
  deriving DecidableEq, Repr

/-- The histories of a monitor filter chain since its origin (R381): the four integrators and the four combs of the
CIC, the inputs of the FIR and of the two half-bands, newest first, and the FIR samples of the fade in progress. -/
structure ChainFilter where
  integ : List Rat
  comb : List Rat
  fir : List Rat
  half1 : List Rat
  half2 : List Rat
  fade : Nat
  deriving DecidableEq, Repr

/-- Zeroed histories. -/
def ChainFilter.init : ChainFilter :=
  { integ := [0, 0, 0, 0], comb := [0, 0, 0, 0], fir := [], half1 := [], half2 := [], fade := 0 }

/-- A monitor chain beyond its registers (R381 to R388). -/
structure ChainState where
  /-- What the filters hold since the last origin. -/
  filter : ChainFilter
  /-- The chain runs again when its domain is ready. -/
  again : Bool
  /-- Outputs that still carry SETTLING. -/
  settling : Nat
  rmsSum : Nat
  rmsCount : Nat
  env : Rat
  /-- The chain moved to the fall-back through a fault. -/
  faulted : Bool
  deriving DecidableEq, Repr

/-! ### Tamid -/

/-- What a TAMID_CONFIG asks for (R420); `st` is a state code of Table 17-1. -/
structure TamidTarget where
  carrier : Nat
  fsk4 : Bool
  depth : Nat
  sampling : Bool
  st : Nat
  deriving DecidableEq, Repr

/-- A reception in progress (R417): detection done, with its level in dB below the receiver's full scale;
whether it came by capture; the sync word accepted with its modulation, the
offset in units of 500 Hz, and the timestamp. -/
structure TamidRx where
  level : Rat
  captured : Bool
  synced : Bool
  fsk4 : Bool
  afc : Int
  time : Nat
  deriving DecidableEq, Repr

/-- A packet of the receive queue. -/
structure TamidPacket where
  payload : List Byte
  flags : Nat
  time : Nat
  deriving DecidableEq, Repr

/-- A packet of the host that is sent or waits: its payload, who sent the command, and its tick. -/
structure TamidSend where
  payload : List Byte
  origin : Origin
  since : Nat
  deriving DecidableEq, Repr

/-- A Tamid instance beyond its registers. -/
structure TamidInst where
  /-- The transition in progress (R420). -/
  target : Option TamidTarget
  rx : Option TamidRx
  /-- Receiver gain in dB (R415). -/
  gain : Nat
  queue : List TamidPacket
  /-- OVERFLOW of the next packet read (R418). -/
  overflow : Bool
  host : Option TamidSend
  /-- Payloads of the part that wait: Pantry messages and ULIRA_REPLY parts (R424, R425). -/
  own : List (List Byte)
  /-- Packet on the air: its payload, whether it is the host's, its modulation and its start tick. -/
  air : Option (List Byte × Bool × Bool × Nat)
  /-- The NCO: its sample within the packet, and its phase in turns (R409). -/
  nco : Nat
  phase : Rat
  /-- State to return to after the packet (R423). -/
  backTo : Option Nat
  /-- INJ_CLIP has been raised for this packet (R412). -/
  clipped : Bool
  /-- Modulation with which the shape and the mask in force have passed (R411). -/
  passed : Option Bool
  /-- Calibration slice in progress, 0 LO, 1 DC offset, 2 injection gain, with its carrier (Table 17-4). -/
  slice : Option (Nat × Nat)
  /-- Tick at which a slice was last aborted, until one starts (R422). -/
  abortedAt : Option Nat
  crcSince : Nat
  preemptSince : Nat
  /-- Command packets of ULIRA_CMD payloads not yet executed (R425). -/
  commands : List (List Byte)
  /-- Pantry messages delivered to room 14 (R424). -/
  messages : List (List Byte)
  deriving DecidableEq, Repr

/-- The carrier cache of R421: half, carrier, tick and temperature reading at storage. -/
structure CarrierEntry where
  half : Nat
  carrier : Nat
  stored : Nat
  temp : Nat
  deriving DecidableEq, Repr

/-! ### Memory protection and the Pantry -/

/-- An entry of an ECC log (Table 12-5); `bit` is 0x7F when uncorrectable. -/
structure EccEntry where
  addr : Nat
  bank : Nat
  bit : Nat
  hard : Bool
  uncorr : Bool
  rebuilt : Bool
  foundBy : Nat
  repeats : Nat
  deriving DecidableEq, Repr

/-- A retirement in progress: a Cellar page onto a spare page, with the spare it served from before, or a
bank (R316, R317). -/
inductive Retiring where
  | page (spare page : Nat) (old : Option Nat)
  | bank (b : Nat)
  deriving DecidableEq, Repr

/-- Memory protection beyond its registers. -/
structure MemProt where
  /-- Log of each memory code, newest first, at most 32. -/
  logs : Vector (List EccEntry) 4
  /-- Lost-word table: byte addresses of Cellar words, oldest first, at most 64 (R312). -/
  lost : List Nat
  /-- Unit of the bank that the next scrubber step visits. -/
  unit : Nat
  /-- Time of the next scrubber step, in quarter core ticks (R319). -/
  scrubNext : Nat
  retiring : Option Retiring
  /-- Bank that INIT is zeroing. -/
  init : Option Nat
  /-- Pages under reconstruction. -/
  rebuilding : List PageId
  /-- Words corrected in the second that runs, by memory code (R315). -/
  ceCounts : Vector Nat 4
  deriving DecidableEq, Repr

/-- A PROPOSE sequence that is being collected: its sequence, the tick of its first part, and its parts
(R181). -/
structure Assembly where
  seq : Nat
  since : Nat
  parts : List (Nat × List Byte)
  deriving DecidableEq, Repr

/-- What room 14 still has to do with the pre-distortion bank of a lane: install a proposal, or swap back, for a sequence;
`step` holds ACTIVE_BANK and WR_REJECT as step 1 of R176 read them, once the bank is written (R181). -/
structure PdDue where
  seq : Nat
  proposal : Option (List Int)
  step : Option (Nat × Nat)
  deriving DecidableEq, Repr

/-- A sample that a census updater has taken: its context, its correction flag, its residual in 1/256 LSB, and S with
it (R167). -/
structure CensusUpdate where
  context : Nat
  corrected : Bool
  residual : Int
  number : Nat
  deriving DecidableEq, Repr

/-- A comparison of R177: the sequence of the proposal that was installed, if it was one; the corrections of the window
before the install and the samples of a window; S at its start, and the corrections since. -/
structure Judge where
  proposal : Option Nat
  before : Nat
  window : Nat
  start : Nat
  after : Nat
  deriving DecidableEq, Repr

/-- The census of a line lane beyond its registers. -/
structure PantryLane where
  /-- S, 48 bits (R167). -/
  samples : Nat
  /-- The sampling generator of R166. -/
  lfsr : BitVec 16
  /-- Tick of the last sample (R166). -/
  lastSample : Option Nat
  /-- Pending updates of the updater, oldest first, at most 64 (R168). -/
  queue : List CensusUpdate
  /-- S at the corrections counted in table E within the last window of R177, newest first. -/
  hits : List Nat
  /-- Tick of the last derivation since the last clear (R174). -/
  derived : Option Nat
  /-- Objects 0x10 + n and 0x18 + n (Table 7-3). -/
  table : List Int
  proposal : List Int
  /-- The staged table waits for its install; a swap back waits (R176, R177). -/
  installDue : Bool
  swapDue : Bool
  /-- ACTIVE_BANK and WR_REJECT as step 1 of R176 read them, once the bank is written. -/
  step : Option (Nat × Nat)
  /-- The port status of room 14's last swap request on the lane's canceller: it was answered BUSY (R91). -/
  swapBusy : Bool
  /-- Room 14 asked for the fade that runs or waits: an install, or a swap back. -/
  installing : Option Bool
  /-- Install point: its tick, S and the sum of table E (R176). -/
  installTick : Option Nat
  installS : Nat
  installE : Nat
  /-- Corrections and samples of the window that ended at the last swap request of room 14, and of the one that ended when
  the last proposal was sent (R177, R182). -/
  before : Nat × Nat
  sent : Nat × Nat
  /-- The comparison of R177 that is due. -/
  judge : Option Judge
  /-- The staged proposal has not been sent. -/
  unsent : Bool
  /-- A proposal waits for its ACK: the tick it was sent, and whether it was the second time (R182). -/
  awaiting : Option (Nat × Bool)
  /-- Receiving side (R181). -/
  assembly : Option Assembly
  pdDue : Option PdDue
  pdInstalling : Option PdDue
  /-- The last sequence installed and not undone. -/
  pdLast : Option Nat
  deriving DecidableEq, Repr

/-- The Pantry beyond its registers. -/
structure Pantry where
  lanes : Vector PantryLane 8
  /-- The lane whose clear runs: clears run one at a time (R171). -/
  clearing : Option (Fin 8)
  /-- The lane from which room 14 looks for the next one to serve, in ascending order (R175). -/
  next : Nat
  deriving DecidableEq, Repr

/-! ### Engine rooms -/

/-- A running RPB: its first instruction, its length, and the passes left with the one in progress. -/
structure RepeatBlock where
  first : BitVec 10
  len : Nat
  left : Nat
  deriving DecidableEq, Repr

/-- The event frame (R246): the program address, the status, the RPB state, the results in flight and the
accumulator results not yet visible. -/
structure EventFrame where
  pc : BitVec 10
  stat : BitVec 4
  satSeen : Bool
  block : Option RepeatBlock
  inFlight : List (Fin 8 × BitVec 16)
  maskNext : Option (BitVec 16)
  accs : List (Fin 2 × BitVec 40)
  deriving DecidableEq, Repr

/-- An engine (Table 10-3), with its repeat, delay-slot and event state and the results in flight. -/
structure Engine where
  d : Vector (BitVec 16) 8
  a : Vector (BitVec 12) 4
  b : Vector (BitVec 12) 4
  l : Vector (BitVec 12) 4
  o : Vector (BitVec 16) 4
  acc : Vector (BitVec 40) 2
  fp : Vector (BitVec 32) 2
  pc : BitVec 10
  /-- Return stack, newest first, at most four. -/
  stack : List (BitVec 10)
  stat : BitVec 4
  evmask : BitVec 16
  evpend : BitVec 16
  /-- TIMER as last loaded, and the tick of that. -/
  timer : BitVec 16
  timerAt : Nat
  reload : BitVec 16
  ckwBase : BitVec 16
  ckwLen : BitVec 16
  wdog : BitVec 16
  /-- Tick at which the watchdog was last restarted (Table 10-6). -/
  hbtAt : Nat
  /-- Loads that land after the next instruction, and an EVMASK that does (Table 10-7). -/
  inFlight : List (Fin 8 × BitVec 16)
  maskNext : Option (BitVec 16)
  /-- The accumulators and SAT as STA, MVAC, SHA and SAT tests see them (Table 10-7). -/
  accSeen : Vector (BitVec 40) 2
  satSeen : Bool
  /-- Delay slots left, and where the program goes on behind them. -/
  slots : Option (Nat × BitVec 10)
  /-- Repetitions left of the instruction at PC (R244). -/
  rep : Option Nat
  block : Option RepeatBlock
  frame : Option EventFrame
  /-- Mask of a WAIT that has not ended. -/
  waiting : Option (BitVec 16)
  /-- An FLD waits for its data. -/
  stalled : Bool
  /-- HALT, or a fault: the engine does not issue. -/
  stopped : Bool
  /-- The shadow set in the making, written by OUT: ports and values (R14, R249). -/
  shadow : List (Nat × BitVec 16)
  /-- Sets handed over by PUB and not yet copied, oldest first: the port of the PUB and the set as it stood (R14). -/
  published : List (Nat × List (Nat × BitVec 16))
  deriving DecidableEq, Repr

/-- A takeover in progress (Table 10-11): the task, the spare, the failed engine and the tick of the fault. -/
structure Takeover where
  task : Nat
  spare : Nat
  failed : Nat
  since : Nat
  deriving DecidableEq, Repr

/-- A room beyond its engines. -/
structure Room where
  /-- Spares that are free. -/
  free : List Nat
  retired : List Nat
  /-- Tasks that run on another engine than their own. -/
  moved : List (Nat × Nat)
  lost : List Nat
  takeovers : Nat
  tasksLost : Nat
  /-- LAST_TASK, LAST_SPARE and LAST_TIME of Table 10-16. -/
  last : Nat × Nat × Nat
  pending : List Takeover
  /-- Checkpoint phase counter, 12 bits (R251). -/
  phase : Nat
  /-- Values that the datapath stages of the room last copied, by 1,024 × task + port (R14). -/
  stages : List (Nat × BitVec 16)
  deriving DecidableEq, Repr

/-- A guest engine (R258, R259). -/
structure Guest where
  /-- State of Table 10-13. -/
  st : Nat
  /-- Cause of Table 10-14. -/
  cause : Nat
  /-- Bytes of the image received so far. -/
  image : List Byte
  ckwBase : Nat
  ckwLen : Nat
  /-- The host queue (MBOX_OUT) and the queue from the host (MBOX_IN), at most 16 words each. -/
  toHost : List (BitVec 16)
  fromHost : List (BitVec 16)
  deriving DecidableEq, Repr

/-- A checkpoint: the engine as the snapshot caught it, and the words of its window (R251). -/
structure Snapshot where
  engine : Engine
  window : List (BitVec 16)
  deviceTime : Nat
  deriving DecidableEq, Repr

/-- The engine rooms. -/
structure Rooms where
  /-- Engines that are not in their reset state, by 64 × room + engine. -/
  engines : List (Nat × Engine)
  rooms : Vector Room 16
  guests : Vector Guest 62
  /-- Snapshots not yet committed, and snapshot counts, by 64 × room + task. -/
  taken : List (Nat × Snapshot)
  counts : List (Nat × Nat)
  /-- What the slots hold in the fields of internal format, by 2 × (64 × room + task) + slot. -/
  slots : List (Nat × Engine)
  /-- Mirnis runs: boot step 7 is done (R287). -/
  mirnis : Bool
  deriving DecidableEq, Repr

/-! ### Thermal protection -/

/-- A thermal shutdown in force (R398): the hottest site and its peak in 0.1 °C, the tick of step 1, safe
state at step 1, the flash operation in flight (1 a program, 2 an erase) with its offset, and the Attic
records that step 5 discarded. -/
structure Shutdown where
  site : Nat
  peak : Nat
  start : Nat
  safe : Bool
  op : Nat
  offset : Nat
  discarded : List AtticRecord
  /-- RESET_N fell during the shutdown: boot waits for the restart trigger (Table 16-5). -/
  reset : Bool
  deriving DecidableEq, Repr

/-- The comparator bank and the periods of R396. -/
structure Thermal where
  /-- Consecutive comparisons above the rising level, or at or below the clear level, of WARNING and
  THROTTLE, and above the SHUTDOWN level (R395). -/
  warnUp : Nat
  warnDown : Nat
  throttleUp : Nat
  throttleDown : Nat
  shutUp : Nat
  /-- The recovery and the start-up period have begun and not ended. -/
  recovery : Bool
  startup : Bool
  shut : Option Shutdown
  /-- What the first boot after a restart writes to the Attic (R401). -/
  report : Option Shutdown
  /-- Tick since which the hottest site has stayed below 105 °C, and tick of CMD_READY in this start-up period (R396). -/
  coolSince : Option Nat
  readyAt : Option Nat
  /-- The readings of the sites at which the continuous items in use were interpolated, and those interpolated and not yet
  applied (R404). -/
  cal : Vector Nat 9
  calNext : Option (Vector Nat 9)
  deriving DecidableEq, Repr

/-! ### Self-test, life cycle and flash -/

/-- A deep test that runs (R454). -/
structure DeepRun where
  test : Nat
  args : List Byte
  since : Nat
  deriving DecidableEq, Repr

/-- The instruction that stands in the TAP. -/
inductive TapIns where
  | bypass
  | sample
  | preload
  | extest
  | extestPulse
  | extestTrain
  | priv
  deriving DecidableEq, Repr

/-- The TAP of the JTAG port (R453, R484): TRST_N low, the instruction that stands, and the boundary cells that PRELOAD left. -/
structure Tap where
  trstLow : Bool
  ins : TapIns
  cells : List Bool
  deriving DecidableEq, Repr

/-- The life-cycle fuses and the test engines beyond their registers. -/
structure TestState where
  /-- Fuse groups that are blown: bit k − 1 for Fk (R448). -/
  groups : Nat
  /-- Target of the fuse programming in progress (R450). -/
  programming : Option Nat
  /-- The deep test that runs. -/
  deep : Option DeepRun
  /-- BIST slice in progress with its start tick (R457). -/
  bist : Option (Nat × Nat)
  /-- Rider slices that have recorded a result since their previous turn (R457). -/
  recorded : List Nat
  tap : Tap
  deriving DecidableEq, Repr

/-- A FLASH_WRITE in flight (Table 11-15). -/
structure FlashJob where
  offset : Nat
  erase : Bool
  data : List Byte
  /-- Tick at which the command was taken (R441). -/
  since : Nat
  deriving DecidableEq, Repr

/-- The state of the part. -/
structure State where
  /-- Commands that wait, first in first out. -/
  pending : List Instr
  /-- Core ticks since reset of the model. -/
  tick : Nat
  /-- Free values taken so far. -/
  free : Nat
  /-- Register space (R4), by address. -/
  regs : List (Nat × Word)
  /-- Hallway memories (R304), by byte address. -/
  mem : List Host.Cell
  /-- The external flash, by offset (R284). -/
  flash : List Host.Cell
  line : Vector LineLane 8
  host : Vector HostLane 16
  lanes : Lanes
  fuse : FuseBox
  power : Power
  link : Link
  counters : CounterState
  attic : Attic
  clock : ClockState
  boot : BootState
  hk : HkState
  cdac : Vector CdacChannel 32
  chain : Vector ChainState 24
  tamid : Vector TamidInst 8
  carriers : List CarrierEntry
  memory : MemProt
  pantry : Pantry
  rooms : Rooms
  thermal : Thermal
  test : TestState
  flashJob : Option FlashJob
  /-- Tick of the last raise of a rate-limited source, by source. -/
  limits : List (Nat × Nat)
  deriving DecidableEq, Repr

/-! ### The state after reset -/

/-- The converter of a lane before its first start (log 24). -/
def AdcState.init : AdcState :=
  { step := 0, assigned := false,
    terms := Vector.replicate 17 { offset := 0, gain := 0, skew := 0, bw := 0, trim := 0 },
    lin := Vector.replicate 17 [], lastRamp := Vector.replicate 17 none, rampOffset := Vector.replicate 17 0,
    rampGain := Vector.replicate 17 0, enob := Vector.replicate 17 0, checkErr := Vector.replicate 17 0,
    flags := Vector.replicate 17 [], training := none, planned := none, bridged := [], urgent := none,
    urgentTraining := false, urgentCal := false, vgaComp := 0, vgaTick := 0, spurTick := none }

def LineRx.init : LineRx :=
  { trigger := 0, signal := false, highest := 0, clocksStopped := false, startDue := false, relockStep := 0,
    fastFfe := false, switchTick := none, precode := false, precodeNext := none, frameTick := 0, rotPhase := 0,
    freqWord := 0, phaseTick := 0, snrHeld := false, snrMinFresh := true, sigma2 := 0, innerCw := 0,
    innerChanged := 0, innerMulti := 0, innerBits := 0, innerSyms := 0, intCw := 0, intBits := 0, berRun := [],
    berHeld := false, alignment := 0, markerHist := [], winSeen := 0, winBad := 0, badWindows := 0, outer := [], changed := [],
    patSyms := 0, patSince := none, patSymErr := 0, patBitErr := 0 }

/-- The cells of a sub-DAC: cells 63 and 67 are the spares (log 24). -/
def SubDac.init : SubDac :=
  { order := List.range 68, spare4 := some 63, spare1 := some 67, underTrim := none, out := [], degraded := [] }

def LineTx.init : LineTx :=
  { falling := false, takenDown := false, heldFromCm := false, fsInForce := 0, rampTick := 0, rampSel := 0,
    glideFrom := [], glideTo := [], glideStep := 0, precode := false, precodeNext := none, precoderP := 0,
    frameTick := 0, starts := 0, spurHeld := false,
    subs := Vector.replicate 4 SubDac.init }

def LaneLink.init : LaneLink :=
  { outOfRange := [], profileFill := false, groupFill := false, deskewRx := false, deskewTx := false,
    pairFill := false, pairAligned := false, fillRx := none, fillTx0 := none, fillTx1 := none, nlcFade := 0,
    pdFade := 0 }

def LineLane.init : LineLane :=
  { adc := AdcState.init, rx := LineRx.init, tx := LineTx.init, link := LaneLink.init }

def Kp4Counters.init : Kp4Counters :=
  { total := 0, corr := 0, uncorr := 0, symErr := 0, bitErr := 0, hist := Vector.replicate 15 0, run := 0,
    sinceRaise := 0 }

def HostLane.init : HostLane :=
  { trigger := 0, acqStep := 0, signal := false, highest := 0, clocksStopped := false, startDue := false,
    retained := none, errRun := 0, adcOffset := 0, adcGain := 0, thresholds := Vector.replicate 3 0, snrHeld := false, hr := Kp4Counters.init, lr := Kp4Counters.init,
    termHr := false, termLr := false, outHr := [], outLr := [], cwPhase := 0, patSyms := 0, patSince := none, patSymErr := 0, patBitErr := 0, falling := false,
    takenDown := false, precoderP := 0, trained := false, reqAsked := false, reqTap := 0, reqJudging := false,
    reqKept := false, reqCount := 0, reqReady := false, answer := .none }

def Lanes.init : Lanes :=
  { mode := 0, grouping := 0, change := none, modeChange := [], aligned := [], alignedTx := [], recorded := none,
    beforeThrottle := none, wanted := none }

def FaultRecord.empty : FaultRecord :=
  { valid := false, escalated := false, source := 0, severity := 0, highestSev := 0, lane := 0,
    detail := 0, mergeCount := 0, time := 0, highestSource := 0, priorReset := false, lastTime := 0 }

def FuseBox.init : FuseBox :=
  { record := FaultRecord.empty, latched := List.replicate 5 0, hist := [], overwritten := 0, active := [],
    blind := [], rails := [], sets := [], safe := false, votes := 0, due := [] }

def Power.init : Power :=
  { voting := false, lingering := [], undoing := [], wakeAfter := [], stalled := [], next := none,
    deepStep := 0, deepExit := false, deepReport := none, deepMicros := 0, dozeSince := 0 }

def Link.init : Link :=
  { inbox := [], taken := [], outbox := [], waiting := [], running := [], busOut := [], readData := 0,
    retries := 0, resetAll := none, inBand := false, dynamicAddr := none, interrupt := none }

def CounterState.init : CounterState :=
  { live := [], liveHi := [], bwWindow := 1, bwStart := 0, bw := [], dumpNext := 781250000, dump := none, dumpSeq := 0, cleared := false, skipped := 0 }

def Laser.init : Laser := { reference := none, now := 0, day := [], estimates := [], step := 0 }

/-- The Attic of a part whose flash holds no record. -/
def Attic.init : Attic :=
  { available := false, queue := [], seq := 0, sector := 16, slot := 0, poh := 0, lastSector := 0, retried := false,
    formed := [], dropped := 0, droppedTotal := 0, deferred := 0, standSeq := 0, standSector := 15,
    standPoh := 0, standDue := false, laneMin := List.replicate 8 0, hist := List.replicate 26 0,
    shutdowns := 0, brownouts := 0, safeStates := 0, boots := 0, sliceSubst := 0, cellSubst := 0,
    engineTakeovers := 0, ctrlTakeovers := 0, cellarRet := [], pantryRet := none, engineRet := none,
    lasers := Vector.replicate 8 Laser.init, rounds := 0, tempMax := 0, tempSum := 0,
    pdSums := Vector.replicate 8 0 }

def ClockState.init : ClockState :=
  { running := false, deviceTime := 0, loads := [], origin := none, lastSync := none, refLost := none, ignoredSince := 0,
    calSec := 0, calUsec := 0, calSet := none, calAlign := false, aoPhase := 0, xtalPhase := 0, aoHour := 0,
    trims := [], oldRaised := false, synLoss := Vector.replicate 4 none, sqLine := [], sqHost := [] }

def BootState.init : BootState :=
  { ball := false, resetHigh := false, step := 0, slot := 0, version := none, straps := 0, released := false, aOk := false, bOk := false, sfdp := false,
    rails := 0, brownout := false, brownoutNote := false, traffic := false, vidRounds := 0,
    vidAt := none, edge := 0, wdA := 0, wdB := 0 }

def HkState.init : HkState :=
  { round := none, rounds := 0, prevOver := none, taken := Vector.replicate 8 0, urgent := [], queue := [], strobes := [],
    timers := Vector.replicate 8 0, events := [], residualMax := 0, residual := 0,
    roundDue := 0, late := none }

def CdacChannel.init : CdacChannel :=
  { queue := [], rateNext := none, rangeTo := none, clampEngaged := false, driven := 0 }

def ChainState.init : ChainState :=
  { filter := ChainFilter.init, again := false, settling := 0, rmsSum := 0, rmsCount := 0, env := 0, faulted := false }

def TamidInst.init : TamidInst :=
  { target := none, rx := none, gain := 0, queue := [], overflow := false, host := none, own := [],
    air := none, nco := 0, phase := 0, backTo := none, clipped := false, passed := none, slice := none,
    abortedAt := none, crcSince := 0,
    preemptSince := 0, commands := [], messages := [] }

def MemProt.start : MemProt :=
  { logs := Vector.replicate 4 [], lost := [], unit := 0, scrubNext := 0, retiring := none, init := none, rebuilding := [],
    ceCounts := Vector.replicate 4 0 }

def PantryLane.init : PantryLane :=
  { samples := 0, lfsr := 0xACE1, lastSample := none, queue := [], hits := [], derived := none, table := [], proposal := [], installDue := false,
    swapDue := false, step := none, swapBusy := false, installing := none, installTick := none, installS := 0,
    installE := 0, before := (0, 0), sent := (0, 0), judge := none,
    unsent := false, awaiting := none, assembly := none, pdDue := none, pdInstalling := none, pdLast := none }

def Pantry.init : Pantry := { lanes := Vector.replicate 8 PantryLane.init, clearing := none, next := 0 }

/-- A room with E62 and E63 as its free spares (R3). -/
def Room.init : Room :=
  { free := [62, 63], retired := [], moved := [], lost := [], takeovers := 0, tasksLost := 0, last := (0, 0, 0),
    pending := [], phase := 0, stages := [] }

def Guest.empty : Guest :=
  { st := 0, cause := 0, image := [], ckwBase := 0, ckwLen := 0, toHost := [], fromHost := [] }

def Rooms.init : Rooms :=
  { engines := [], rooms := Vector.replicate 16 Room.init, guests := Vector.replicate 62 Guest.empty,
    taken := [], counts := [], slots := [], mirnis := false }

def Thermal.init : Thermal :=
  { warnUp := 0, warnDown := 0, throttleUp := 0, throttleDown := 0, shutUp := 0, recovery := false,
    startup := true, shut := none, report := none, coolSince := none, readyAt := none, cal := Vector.replicate 9 0,
    calNext := none }

/-- The life cycle is FIELD (log 25). -/
def TestState.init : TestState :=
  { groups := 1, programming := none, deep := none, bist := none, recorded := [],
    tap := { trstLow := true, ins := .bypass, cells := [] } }

/-- The part after AO power-up, held in reset: every register at its reset value, the memories and the flash
as nothing has written them. -/
def State.reset : State :=
  { pending := [], tick := 0, free := 0, regs := [], mem := [], flash := [],
    line := Vector.replicate 8 LineLane.init, host := Vector.replicate 16 HostLane.init, lanes := Lanes.init,
    fuse := FuseBox.init, power := Power.init, link := Link.init, counters := CounterState.init,
    attic := Attic.init, clock := ClockState.init, boot := BootState.init, hk := HkState.init,
    cdac := Vector.replicate 32 CdacChannel.init, chain := Vector.replicate 24 ChainState.init,
    tamid := Vector.replicate 8 TamidInst.init, carriers := [], memory := MemProt.start,
    pantry := Pantry.init, rooms := Rooms.init, thermal := Thermal.init, test := TestState.init,
    flashJob := none, limits := [] }

end Sys2Proof.Machine
end

