-- ==== Sys2Proof/Machine/Ops.lean ====
section
/-! DEFINITION. The named operations over the registers, the memories, the clock counts and the free
values.  Every meaning reads and writes the state through these. -/

namespace Sys2Proof.Machine

/-! ### Words and fields -/

/-- A field of a word as a number: `width` bits from bit `lo`. -/
def wordField (w : Word) (lo width : Nat) : Nat := (w.toNat >>> lo) % 2 ^ width

/-- The mask of a field. -/
def fieldMask (lo width : Nat) : Word := BitVec.ofNat 32 ((2 ^ width - 1) <<< lo)

/-- A word with one field replaced; the value is taken modulo the field's range. -/
def wordSetField (w : Word) (lo width v : Nat) : Word :=
  (w &&& ~~~(fieldMask lo width)) ||| BitVec.ofNat 32 ((v % 2 ^ width) <<< lo)

/-- A value limited to the largest a field of `width` bits holds. -/
def satNat (width v : Nat) : Nat := if 2 ^ width ≤ v then 2 ^ width - 1 else v

/-- A value limited to the range of a signed field of `width` bits. -/
def satInt (width : Nat) (v : Int) : Int :=
  if v < -(2 ^ (width - 1) : Int) then -(2 ^ (width - 1) : Int)
  else if (2 ^ (width - 1) : Int) ≤ v then (2 ^ (width - 1) : Int) - 1 else v

/-- The bits of a signed value in a field of `width` bits, two's complement. -/
def intBits (width : Nat) (v : Int) : Nat := (v % (2 ^ width : Int)).toNat

/-- The signed value of the bits of a field of `width` bits. -/
def bitsInt (width b : Nat) : Int :=
  if b % 2 ^ width < 2 ^ (width - 1) then (b % 2 ^ width : Nat) else (b % 2 ^ width : Nat) - (2 ^ width : Nat)

/-- An estimate on the grid of a published field, rounded as the part rounds (log 6). -/
def quantise (x : Rat) : Int :=
  if Config.roundsUp x && decide (x.floor ≠ x) then x.floor + 1 else x.floor

/-- Rounding to the nearest integer, ties away from zero (R82, R90, R139). -/
def roundAway (x : Rat) : Int := if x < 0 then -((-x + 1 / 2).floor) else (x + 1 / 2).floor

/-- The bytes of a number, least significant first. -/
def leBytes : Nat → Nat → List Byte
  | 0, _ => []
  | k + 1, v => BitVec.ofNat 8 v :: leBytes k (v / 256)

/-- The number that bytes spell, least significant first. -/
def leNat : List Byte → Nat
  | [] => 0
  | b :: bs => b.toNat + 256 * leNat bs

/-! ### Blocks of register space (Table 12-3) -/

def systemBase : Nat := 0x08000000
def fuseBase : Nat := 0x08010000
def powerBase : Nat := 0x08020000
def clockBase : Nat := 0x08030000
def memProtBase : Nat := 0x08040000
def hkBase : Nat := 0x08050000
def thermBase : Nat := 0x08060000
def counterBase : Nat := 0x08070000
def testBase : Nat := 0x08080000
def lineBase (n : Nat) : Nat := 0x08100000 + n * 0x10000
def hostBase (m : Nat) : Nat := 0x08200000 + m * 0x10000
def tamidBase (i : Nat) : Nat := 0x08300000 + i * 0x10000
def chainBase (j : Nat) : Nat := 0x08400000 + j * 0x800
def chainCtlBase : Nat := 0x08400000
def cdacBase : Nat := 0x08500000
def pantryBase : Nat := 0x08600000
def keyBase : Nat := 0x08700000

/-- The rows of the implemented block that holds an address and the offset of the address in it, with
the twenty-four monitor chains as blocks of 0x800 bytes (Tables 12-3 and 15-10). -/
def regBlock (a : Nat) : Option (List RegRow × Nat) :=
  if a < systemBase then none
  else
    let blk := (a - systemBase) / 0x10000
    let off := (a - systemBase) % 0x10000
    if blk = 0 then some (RegMap.system, off)
    else if blk = 1 then some (RegMap.fuseBox, off)
    else if blk = 2 then some (RegMap.power, off)
    else if blk = 3 then some (RegMap.clocks, off)
    else if blk = 4 then some (RegMap.memProt, off)
    else if blk = 5 then some (RegMap.housekeeping, off)
    else if blk = 6 then some (RegMap.thermal, off)
    else if blk = 7 then some (RegMap.counters, off)
    else if blk = 8 then some (RegMap.testLc, off)
    else if 0x10 ≤ blk ∧ blk < 0x18 then some (RegMap.line, off)
    else if 0x20 ≤ blk ∧ blk < 0x30 then some (RegMap.host, off)
    else if 0x30 ≤ blk ∧ blk < 0x38 then some (RegMap.tamid, off)
    else if blk = 0x40 then
      if off < 0xC000 then some (RegMap.chain, off % 0x800) else some (RegMap.chainCtl, off)
    else if blk = 0x50 then some (RegMap.cdac, off)
    else if blk = 0x60 then some (RegMap.pantryCtl, off)
    else if blk = 0x70 then some (RegMap.keyholder, off)
    else none

/-- The row of the register map that documents an address. -/
def regRow? (a : Nat) : Option RegRow :=
  match regBlock a with
  | some (rows, off) => RegRow.find? rows off
  | none => none

/-- The address is a SHAPE_j register of a Tamid instance. -/
def isShape (a : Nat) : Bool :=
  decide (0x08300000 ≤ a) && decide (a < 0x08380000) && decide (0x100 ≤ a % 0x10000) &&
    decide (a % 0x10000 < 0x400) && decide (a % 4 = 0)

/-- The reset word of a register address: that of its table row, 0 where no chapter documents it. -/
def regReset (a : Nat) : Word :=
  if isShape a then BitVec.ofNat 32 (Config.shapeReset ((a % 0x10000 - 0x100) / 4)).toNat
  else match regRow? a with
    | some r => BitVec.ofNat 32 r.reset
    | none => 0

/-! ### Registers of the state -/

/-- The stored word of a register. -/
def State.reg (s : State) (a : Nat) : Word := Sparse.get regReset s.regs a

/-- Stores a word in a register. -/
def State.setReg (s : State) (a : Nat) (w : Word) : State :=
  { s with regs := Sparse.set regReset s.regs a w }

/-- A field of a register of the block at `base`. -/
def State.fld (s : State) (base : Nat) (f : Field) : Nat :=
  wordField (s.reg (base + f.off)) f.lo f.width

/-- Sets a field of a register of the block at `base`. -/
def State.setFld (s : State) (base : Nat) (f : Field) (v : Nat) : State :=
  s.setReg (base + f.off) (wordSetField (s.reg (base + f.off)) f.lo f.width v)

/-- A one-bit field as a truth value. -/
def State.flag (s : State) (base : Nat) (f : Field) : Bool := s.fld base f == 1

/-- Sets a one-bit field. -/
def State.setFlag (s : State) (base : Nat) (f : Field) (v : Bool) : State :=
  s.setFld base f (if v then 1 else 0)

/-- Adds to a saturating counter field. -/
def State.addSat (s : State) (base : Nat) (f : Field) (k : Nat) : State :=
  s.setFld base f (satNat f.width (s.fld base f + k))

/-- Increments a saturating counter field. -/
def State.bump (s : State) (base : Nat) (f : Field) : State := s.addSat base f 1

/-- Increments a counter field that wraps. -/
def State.bumpMod (s : State) (base : Nat) (f : Field) : State :=
  s.setFld base f (s.fld base f + 1)

/-- A 48-bit or 64-bit value held by a pair of registers, low word first. -/
def State.pairFld (s : State) (base : Nat) (lo hi : Field) : Nat :=
  s.fld base lo + 2 ^ 32 * s.fld base hi

/-- Sets a value held by a pair of registers. -/
def State.setPair (s : State) (base : Nat) (lo hi : Field) (v : Nat) : State :=
  (s.setFld base lo v).setFld base hi (v / 2 ^ 32)

/-! ### Hallway memory and flash -/

/-- What a byte of the Hallway memories reads as when nothing has written it: 0 (log 7), and in the engine
memories of rooms 0 to 14 the byte of the Mirnis image (log 18). -/
def memDefault (a : Nat) : Byte :=
  if 0x04000000 ≤ a ∧ a < 0x04B40000 then Config.engineImage a else 0

/-- What a byte of the flash reads as when nothing has written it: 0xFF (log 8). -/
def flashDefault : Nat → Byte := fun _ => 0xFF

/-- The canonical form of the Hallway memories. -/
def Memory.wf (m : List Host.Cell) : Bool := Sparse.wf memDefault m

def State.byte (s : State) (a : Nat) : Byte := Sparse.get memDefault s.mem a

def State.setByte (s : State) (a : Nat) (b : Byte) : State :=
  { s with mem := Sparse.set memDefault s.mem a b }

/-- `k` bytes from an address, ascending. -/
def State.bytes (s : State) : Nat → Nat → List Byte
  | _, 0 => []
  | a, k + 1 => s.byte a :: s.bytes (a + 1) k

/-- Writes bytes at ascending addresses. -/
def State.setBytes (s : State) : Nat → List Byte → State
  | _, [] => s
  | a, b :: bs => (s.setByte a b).setBytes (a + 1) bs

/-- A little-endian value of `k` bytes. -/
def State.memNat (s : State) (a k : Nat) : Nat := leNat (s.bytes a k)

/-- Writes a little-endian value of `k` bytes. -/
def State.setMemNat (s : State) (a k v : Nat) : State := s.setBytes a (leBytes k v)

def State.flashByte (s : State) (a : Nat) : Byte := Sparse.get flashDefault s.flash a

def State.setFlashByte (s : State) (a : Nat) (b : Byte) : State :=
  { s with flash := Sparse.set flashDefault s.flash a b }

def State.flashBytes (s : State) : Nat → Nat → List Byte
  | _, 0 => []
  | a, k + 1 => s.flashByte a :: s.flashBytes (a + 1) k

def State.setFlashBytes (s : State) : Nat → List Byte → State
  | _, [] => s
  | a, b :: bs => (s.setFlashByte a b).setFlashBytes (a + 1) bs

/-- CMD_READY is set, with the tick of the first time in this start-up period (R289, R396). -/
def State.cmdReady (s : State) : State :=
  { s with thermal := { s.thermal with readyAt := some (s.thermal.readyAt.getD s.tick) } }.setFlag systemBase
    Reg.STATUS_CMD_READY true

/-! ### Lanes -/

def State.modLine (s : State) (n : Fin 8) (f : LineLane → LineLane) : State :=
  { s with line := s.line.set n (f s.line[n]) }

def State.modAdc (s : State) (n : Fin 8) (f : AdcState → AdcState) : State :=
  s.modLine n fun l => { l with adc := f l.adc }

def State.modRx (s : State) (n : Fin 8) (f : LineRx → LineRx) : State :=
  s.modLine n fun l => { l with rx := f l.rx }

def State.modTx (s : State) (n : Fin 8) (f : LineTx → LineTx) : State :=
  s.modLine n fun l => { l with tx := f l.tx }

def State.modLinkOf (s : State) (n : Fin 8) (f : LaneLink → LaneLink) : State :=
  s.modLine n fun l => { l with link := f l.link }

def State.modHost (s : State) (m : Fin 16) (f : HostLane → HostLane) : State :=
  { s with host := s.host.set m (f s.host[m]) }

/-! ### Lists of units -/

/-- Applies an update for every member of a list, in order. -/
def State.each {α : Type} (l : List α) (f : α → State → State) (s : State) : State :=
  l.foldl (fun s x => f x s) s

/-- Applies an update when a condition holds. -/
def State.when (s : State) (c : Bool) (f : State → State) : State := if c then f s else s

def allLines : List (Fin 8) := [0, 1, 2, 3, 4, 5, 6, 7]

def allHosts : List (Fin 16) := [0, 1, 2, 3, 4, 5, 6, 7, 8, 9, 10, 11, 12, 13, 14, 15]

/-! ### Time -/

/-- Core ticks in one second (R211: 781.25 MHz). -/
def ticksPerSecond : Nat := 781250000

/-- Ten-microsecond units in a span of core ticks, rounded down: 7,812.5 ticks each. -/
def tenMicros (ticks : Nat) : Nat := 2 * ticks / 15625

/-! ### Census -/

def State.modPantry (s : State) (n : Fin 8) (f : PantryLane → PantryLane) : State :=
  { s with pantry := { s.pantry with lanes := s.pantry.lanes.set n (f s.pantry.lanes[n]) } }

/-- The byte address of a context of a census table (R163). -/
def tableAddr (t c : Nat) : Nat := 0x02000000 + t * 0x200000 + 2 * c

/-- The sum of the entries of a census table. -/
def State.tableSum (s : State) (t : Nat) : Nat :=
  s.mem.foldl (fun acc e =>
    if tableAddr t 0 ≤ e.1 ∧ e.1 < tableAddr (t + 1) 0 then
      acc + e.2.toNat * (if e.1 % 2 = 0 then 1 else 256)
    else acc) 0

/-- Entries of a range of the memories go: the range reads as if nothing had written it. -/
def State.wipe (s : State) (a size : Nat) : State :=
  { s with mem := s.mem.filter fun e => !(decide (a ≤ e.1) && decide (e.1 < a + size)) }

/-- IN_FRAME is set: the line frame counts from now, and the sampling generator of the lane's census is seeded (R118,
R166). -/
def State.setInFrame (s : State) (n : Fin 8) : State :=
  let b := lineBase n
  let s := (s.setFlag b Reg.FEC_STATUS_IN_FRAME true).setFld b Reg.FEC_STATUS_MARKER_MISS 0
  (s.modRx n fun r => { r with frameTick := s.tick }).modPantry n fun l => { l with lfsr := 0xACE1 }

/-- The next free value (log 5). -/
def State.fresh (s : State) : Word × State :=
  (Config.freeValue s.free, { s with free := s.free + 1 })

end Sys2Proof.Machine
end

