-- ==== Sys2Proof/Machine/Crc.lean ====
section
/-! DEFINITION. The two CRCs of the packets, the Attic and the dump records (R267). -/

namespace Sys2Proof.Machine

/-- One step of the CRC-16 register, polynomial x^16 + x^12 + x^5 + 1, bits MSB first. -/
def crc16Bits : Nat → Nat → Nat → Nat
  | 0, _, reg => reg
  | k + 1, byte, reg =>
    let top := (reg >>> 15) ^^^ ((byte >>> k) % 2)
    let sh := (reg <<< 1) % 0x10000
    crc16Bits k byte (if top % 2 = 1 then sh ^^^ 0x1021 else sh)

/-- The CRC-16 of a list of bytes from a register value. -/
def crc16From : Nat → List Byte → Nat
  | reg, [] => reg
  | reg, b :: bs => crc16From (crc16Bits 8 b.toNat reg) bs

/-- The CRC-16 of R267: register starts at 0xFFFF, no final inversion. -/
def crc16 (bs : List Byte) : Nat := crc16From 0xFFFF bs

/-- Eight steps of the reflected CRC-32 register of IEEE 802.3. -/
def crc32Bits : Nat → Nat → Nat
  | 0, reg => reg
  | k + 1, reg =>
    crc32Bits k (if reg % 2 = 1 then (reg >>> 1) ^^^ 0xEDB88320 else reg >>> 1)

def crc32From : Nat → List Byte → Nat
  | reg, [] => reg
  | reg, b :: bs => crc32From (crc32Bits 8 (reg ^^^ b.toNat)) bs

/-- The CRC-32 of IEEE 802.3. -/
def crc32 (bs : List Byte) : Nat := crc32From 0xFFFFFFFF bs ^^^ 0xFFFFFFFF

end Sys2Proof.Machine
end

