-- ==== Sys2Proof/Machine/Flags.lean ====
section
/-! DEFINITION. The flags and records that events leave behind: ATTN_CAUSE, the performance counters, the
Attic queue, the fault sources with their severities and sets, and the first-fault record, the history
and the active set of the Fuse Box. -/

namespace Sys2Proof.Machine

open Reg

/-! ### ATTN and event counts -/

/-- ATTN_N is held low while ATTN_CAUSE AND ATTN_ENABLE is non-zero (R274). -/
def State.attnLow (s : State) : Bool :=
  (s.reg (systemBase + 4) &&& s.reg (systemBase + 8) &&& 0x7FF) != 0

/-- At a fall of ATTN_N an I3C bus with in-band interrupts enabled raises one (R266); `low` is ATTN_N before. -/
def State.attnEdge (s : State) (low : Bool) : State :=
  if !low && s.attnLow && s.link.inBand && s.fld systemBase STRAP_STATUS_BUS_SEL == 1 then
    let byte := BitVec.ofNat 8 (wordField (s.reg (systemBase + 4)) 0 8)
    { s with link := { s.link with interrupt := some byte } }
  else s

/-- Sets a bit of ATTN_CAUSE (R273). -/
def State.attn (s : State) (f : Field) : State := (s.setFlag systemBase f true).attnEdge s.attnLow

def counterDefault : Nat → Counter := fun _ => ⟨0, 0, 0⟩

/-- Counter `k` of the performance counters. -/
def State.counter (s : State) (k : Nat) : Counter := Sparse.get counterDefault s.counters.live k

def State.setCounter (s : State) (k : Nat) (c : Counter) : State :=
  { s with counters := { s.counters with live := Sparse.set counterDefault s.counters.live k c } }

/-- Adds `k` occurrences of a count event to every counter that selects it (R433). -/
def State.countEvent (s : State) (ev k : Nat) : State :=
  { s with counters := { s.counters with
      live := s.counters.live.map fun (i, c) =>
        (i, if c.event = ev then { c with count := (c.count + k) % 2 ^ 48 } else c) } }

/-- Adds bits to a bandwidth monitor (R436, Table 18-2). -/
def State.bwAdd (s : State) (k bits : Nat) : State :=
  { s with counters := { s.counters with
    bw := Sparse.set (fun _ => 0) s.counters.bw k (Sparse.get (fun _ => 0) s.counters.bw k + bits) } }

/-- A request is accepted at a Hallway port, the Cellar port 0x20 or the Pantry port 0x21: its data beats of 64 bits are counted
as read or written, and its data bits by the port's monitor (Tables 18-1 and 18-2). -/
def State.portRequest (s : State) (port bytes : Nat) (write : Bool) : State :=
  let s := s.countEvent (port * 256 + 1) 1
  let s := s.countEvent (port * 256 + (if write then 3 else 2)) ((bytes + 7) / 8)
  s.bwAdd port (8 * bytes)

/-- The ports at the far end of a Hallway access, by its address: the Cellar port with its bank group, the Pantry port with the
Pantry's read port, a room, or the register space of the west lanes, the east lanes and the spine blocks (R433; the banks of a
group are a DESIGN CHOICE, log 156). -/
def hallPorts (a : Nat) : List Nat :=
  if a < 0x01040000 then [0x20, 28 + min 3 (a / 0x400000)]
  else if 0x02000000 ≤ a ∧ a < 0x04000000 then [0x21, 27]
  else if 0x04000000 ≤ a ∧ a < 0x04C00000 then [(a - 0x04000000) / 0xC0000]
  else if lineBase 0 ≤ a ∧ a < lineBase 8 then [if a < lineBase 4 then 24 else 25]
  else if hostBase 0 ≤ a ∧ a < hostBase 16 then [if a < hostBase 8 then 24 else 25]
  else if 0x08000000 ≤ a ∧ a < 0x09000000 then [26]
  else []

/-- A Hallway access of a port: one request at its own port and at the ports at its far end (log 156). -/
def State.hallAccess (s : State) (port a bytes : Nat) (write : Bool) : State :=
  s.each (port :: hallPorts a) fun p s => s.portRequest p bytes write

/-! ### Attic queue -/

/-- A record of the Attic as it is formed, with the calendar and POH of that moment (Table 18-5). -/
def State.formRecord (s : State) (type : Nat) (payload : List Byte) : AtticRecord :=
  let valid := s.flag clockBase CLK_STATUS_CAL_VALID
  { type := type, sec := if valid then s.clock.calSec else 0, calValid := valid, poh := s.attic.poh,
    payload := (payload ++ List.replicate 40 0).take 40, arrived := s.tick }

/-- Removes the oldest PERIODIC record of the queue. -/
def dropPeriodic : List AtticRecord → Option (List AtticRecord)
  | [] => none
  | r :: rs => if r.type = 1 then some rs else (dropPeriodic rs).map (r :: ·)

/-- Core ticks in ten minutes. -/
def tenMinutes : Nat := 600 * ticksPerSecond

/-! ### Sources: severity, kind, fixed reactions, domain -/

/-- Severities of the sources of group 0x00 (Tables 12-2, 18-9, 19-8 and 20-6). -/
def sevSystem (i : Nat) : Option Nat :=
  if i = 0x01 ∨ i = 0x02 ∨ i = 0x10 ∨ i = 0x11 ∨ i = 0x20 ∨ i = 0x29 ∨ i = 0x31 then some 1
  else if i = 0x12 ∨ i = 0x18 ∨ i = 0x28 then some 0
  else if i = 0x30 then some 3
  else none

/-- Severities of group 0x10 + n, the line lanes. -/
def sevLine (i : Nat) : Option Nat :=
  if i = 0x20 ∨ i = 0x21 ∨ i = 0x22 ∨ i = 0x33 ∨ i = 0x40 ∨ i = 0x41 ∨ i = 0x44 ∨ i = 0x62 then some 2
  else if i = 0x30 ∨ i = 0x31 ∨ i = 0x32 ∨ i = 0x60 ∨ i = 0x61 then some 1
  else if i = 0x34 ∨ i = 0x35 ∨ i = 0x42 ∨ i = 0x43 ∨ i = 0x50 ∨ i = 0x63 ∨ i = 0x64 ∨ i = 0x65 then some 0
  else none

/-- Severities of group 0x20 + m, the host lanes. -/
def sevHost (i : Nat) : Option Nat :=
  if i = 0x40 ∨ i = 0x41 ∨ i = 0x43 ∨ i = 0x44 ∨ i = 0x45 ∨ i = 0x51 then some 2
  else if i = 0x42 ∨ i = 0x50 then some 0
  else none

/-- Severities of group 0x30 + r, the rooms. -/
def sevRoom (i : Nat) : Option Nat :=
  if i < 0x40 ∨ i = 0x41 ∨ i = 0x45 ∨ i = 0x46 then some 1
  else if i = 0x42 then some 2
  else if i = 0x40 ∨ i = 0x43 ∨ i = 0x44 then some 0
  else none

/-- Severities of group 0x40, the memories. -/
def sevMemory (i : Nat) : Option Nat :=
  if i < 0x04 then some 0
  else if 0x10 ≤ i ∧ i < 0x13 then some 1
  else if i = 0x13 then some 2
  else if i = 0x20 ∨ i = 0x34 then some 3
  else if i = 0x21 ∨ i = 0x22 ∨ (0x30 ≤ i ∧ i < 0x34) then some 1
  else none

/-- Severities of groups 0x41 (Pantry), 0x50 (power) and 0x51 (clocks). -/
def sevPantry (i : Nat) : Option Nat :=
  if i = 0x01 ∨ i = 0x04 ∨ i = 0x06 then some 0
  else if i = 0x02 ∨ i = 0x05 ∨ (0x10 ≤ i ∧ i < 0x18) then some 1
  else none

def sevPower (i : Nat) : Option Nat :=
  if i = 0x00 ∨ i = 0x04 ∨ i = 0x10 ∨ i = 0x11 then some 3
  else if i = 0x02 ∨ i = 0x03 then some 0
  else none

def sevClocks (i : Nat) : Option Nat :=
  if i = 0x00 ∨ i = 0x02 then some 3
  else if i = 0x03 then some 2
  else if i = 0x01 ∨ i = 0x07 ∨ i = 0x08 ∨ i = 0x09 then some 0
  else none

/-- Severities of groups 0x60 (thermal), 0x61 (housekeeping), 0x70 + i (Tamid), 0x80 (controllers) and
0xF0 (collector). -/
def sevThermal (i : Nat) : Option Nat :=
  if i = 0x00 then some 0
  else if i = 0x01 then some 2
  else if i = 0x02 then some 3
  else if 0x10 ≤ i ∧ i < 0x19 then some 1
  else none

def sevHk (i : Nat) : Option Nat :=
  if i < 0x04 ∨ (0x30 ≤ i ∧ i < 0x38) then some 0
  else if 0x10 ≤ i ∧ i < 0x28 then some 1
  else none

def sevTamid (i : Nat) : Option Nat :=
  if i = 0x04 then some 1 else if i < 0x07 then some 0 else none

def sevController (i : Nat) : Option Nat :=
  if i = 0x00 ∨ i = 0x01 ∨ i = 0x02 ∨ i = 0x03 ∨ i = 0x05 then some 1
  else if i = 0x06 then some 4
  else if i = 0x07 ∨ i = 0x08 ∨ i = 0x09 then some 3
  else none

def sevCollector (i : Nat) : Option Nat :=
  if i = 0x00 ∨ i = 0x01 then some 1 else if i = 0x02 then some 4 else none

/-- The fixed severity of a source, `none` where the ID is unimplemented (R328, R330). -/
def srcSeverity (src : Nat) : Option Nat :=
  let g := src / 256
  let i := src % 256
  if g = 0x00 then sevSystem i
  else if 0x10 ≤ g ∧ g < 0x18 then sevLine i
  else if 0x20 ≤ g ∧ g < 0x30 then sevHost i
  else if 0x30 ≤ g ∧ g < 0x40 then sevRoom i
  else if g = 0x40 then sevMemory i
  else if g = 0x41 then sevPantry i
  else if g = 0x50 then sevPower i
  else if g = 0x51 then sevClocks i
  else if g = 0x60 then sevThermal i
  else if g = 0x61 then sevHk i
  else if 0x70 ≤ g ∧ g < 0x78 then sevTamid i
  else if g = 0x80 then sevController i
  else if g = 0xF0 then sevCollector i
  else none

/-- The source is a level source (Table 13-12). -/
def srcLevel (src : Nat) : Bool :=
  let g := src / 256
  let i := src % 256
  (decide (0x10 ≤ g ∧ g < 0x18) && (i == 0x20 || i == 0x22 || i == 0x40)) ||
  (decide (0x20 ≤ g ∧ g < 0x30) && (i == 0x40 || i == 0x51)) ||
  src == 0x5100 || src == 0x5102 || src == 0x5103 || src == 0x6000 || src == 0x6001 ||
  decide (0x6010 ≤ src ∧ src ≤ 0x6018)

/-- Bits of a reaction set (Table 13-5). -/
def rLog : Nat := 0x001
def rAttn : Nat := 0x002
def rSquelch : Nat := 0x004
def rReacq : Nat := 0x008
def rEngineSwap : Nat := 0x010
def rSliceSubst : Nat := 0x020
def rPageRebuild : Nat := 0x040
def rTakeover : Nat := 0x080
def rSafe : Nat := 0x100

/-- The fixed reactions of a source (R489, Table 13-13). -/
def srcFixed (src : Nat) : Nat :=
  let g := src / 256
  let i := src % 256
  if srcSeverity src = some 4 then rSafe
  else if src = 0x5100 ∨ src = 0x5102 ∨ src = 0x5103 then rSquelch
  else if 0x30 ≤ g ∧ g < 0x40 ∧ i < 0x40 then rEngineSwap
  else if 0x10 ≤ g ∧ g < 0x18 ∧ i = 0x30 then rSliceSubst
  else if 0x4010 ≤ src ∧ src ≤ 0x4012 then rPageRebuild
  else if src = 0x8000 ∨ src = 0x8003 ∨ src = 0x8007 then rTakeover
  else 0

/-- The default set of a source (R333). -/
def srcDefault (src : Nat) : Nat :=
  let base := match srcSeverity src with
    | some 0 => rLog
    | some 1 => rLog
    | some 4 => rLog ||| rAttn ||| rSafe
    | some _ => rLog ||| rAttn
    | none => 0
  (if src = 0xF000 then base ||| rAttn else base) ||| srcFixed src

/-- The RX domain of monitor chain `j`: chains 0–7 are of the line lanes, 8–23 of the host lanes (R380). -/
def chainDomain (j : Nat) : Nat := if j < 8 then 8 + 2 * j else 24 + 2 * (j - 8)

/-- The domain a source lies in (R490, Table 13-14); bit 15 of the detail word tells the HR and the LR
monitor of KP4_UNCORR apart. -/
def srcDomain (src detail : Nat) : Nat :=
  let g := src / 256
  let i := src % 256
  if 0x10 ≤ g ∧ g < 0x18 then
    if 0x20 ≤ i ∧ i ≤ 0x22 then 1 else if 0x60 ≤ i then 9 + 2 * (g - 0x10) else 8 + 2 * (g - 0x10)
  else if 0x20 ≤ g ∧ g < 0x30 then
    if i = 0x43 ∨ i = 0x45 ∨ (i = 0x50 ∧ 0x8000 ≤ detail) then 25 + 2 * (g - 0x20) else 24 + 2 * (g - 0x20)
  else if 0x30 ≤ g ∧ g < 0x40 then 56 + (g - 0x30)
  else if g = 0x41 then if i = 0x01 ∨ 0x10 ≤ i then 2 else 1
  else if g = 0x61 then
    if 0x10 ≤ i ∧ i < 0x28 then chainDomain (i - 0x10) else if i < 0x04 then 3 else 1
  else if 0x70 ≤ g ∧ g < 0x78 then 4
  else 1

/-- The pairs of a domain are isolated: past step E3 of its entry, retained, or not yet released (R327). -/
def State.isolated (s : State) (d : Nat) : Bool :=
  let st := s.fld powerBase (DOM_STATE.ix d)
  let step := s.fld powerBase (DOM_STEP.ix d)
  (st == 2 && decide (if s.power.undoing.contains d then 3 ≤ step else 4 ≤ step)) || st == 3 || st == 4

/-- The set of a source in force (R333). -/
def State.srcSet (s : State) (src : Nat) : Nat := Sparse.get srcDefault s.fuse.sets src

/-- LANE of the record and the history (R335). -/
def srcLane (src : Nat) : Nat :=
  let g := src / 256
  if 0x10 ≤ g ∧ g < 0x18 then g - 0x10
  else if 0x20 ≤ g ∧ g < 0x30 then 0x10 + (g - 0x20)
  else if 0x30 ≤ g ∧ g < 0x38 then g - 0x30
  else if 0x70 ≤ g ∧ g < 0x78 then g - 0x70
  else 0xFF

/-! ### The record and the history -/

/-- The six words of Table 13-10. -/
def FaultRecord.words (r : FaultRecord) : List Word :=
  [BitVec.ofNat 32 (r.source * 0x10000 + (if r.valid then 0x8000 else 0) +
      (if r.escalated then 0x4000 else 0) + r.severity * 0x800 + r.highestSev * 0x100 + r.lane),
   BitVec.ofNat 32 (r.detail * 0x10000 + r.mergeCount),
   BitVec.ofNat 32 r.time,
   BitVec.ofNat 32 (r.time / 2 ^ 32),
   BitVec.ofNat 32 (r.highestSource * 0x10000 + (if r.priorReset then 0x8000 else 0)),
   BitVec.ofNat 32 r.lastTime]

/-- The four words of Table 13-8. -/
def HistEntry.words (h : HistEntry) : List Word :=
  [BitVec.ofNat 32 (h.source * 0x10000 + h.severity * 0x2000 + 0x1000 + (if h.first then 0x800 else 0) +
      (if h.merged then 0x400 else 0) + (if h.escalating then 0x200 else 0) + h.lane),
   BitVec.ofNat 32 (h.detail * 0x10000 + h.reactions),
   BitVec.ofNat 32 h.time,
   BitVec.ofNat 32 (h.time / 2 ^ 32)]

/-- The bytes of words, each little-endian. -/
def wordBytes (ws : List Word) : List Byte := ws.flatMap fun w => leBytes 4 w.toNat

/-- What a raise with LOG does to the record (R335, R337). -/
def FaultRecord.log (r : FaultRecord) (src sev detail now : Nat) : FaultRecord :=
  if r.valid then
    let r' := { r with mergeCount := satNat 16 (r.mergeCount + 1), lastTime := now % 2 ^ 32 }
    if r.highestSev < sev then { r' with escalated := true, highestSev := sev, highestSource := src }
    else r'
  else
    { valid := true, escalated := false, source := src, severity := sev, highestSev := sev,
      lane := srcLane src, detail := detail, mergeCount := 0, time := now, highestSource := src,
      priorReset := false, lastTime := now % 2 ^ 32 }

/-- Enters a raise in the history: at most 16 entries, the oldest replaced and counted (R338). -/
def FuseBox.enter (f : FuseBox) (h : HistEntry) : FuseBox :=
  if 16 ≤ f.hist.length then
    { f with hist := f.hist.drop 1 ++ [h], overwritten := satNat 16 (f.overwritten + 1) }
  else { f with hist := f.hist ++ [h] }

/-- A source as it enters the active set: CLEARED = 0 (R340). -/
def FuseBox.activate (f : FuseBox) (src : Nat) (squelch : Bool) : FuseBox :=
  let old := f.active.find? fun e => e.src == src
  let sq := squelch || (old.map ActiveEntry.squelch).getD false
  { f with active := f.active.filter (fun e => e.src != src) ++ [⟨src, false, sq⟩] }

/-- The lane of groups 0x10–0x2F that a source acts on, as the reaction to start. -/
def dueCause (src : Nat) : List Due :=
  let g := src / 256
  if 0x10 ≤ g ∧ g < 0x18 then [.lineCause (Fin.ofNat 8 (g - 0x10))]
  else if 0x20 ≤ g ∧ g < 0x30 then [.hostCause (Fin.ofNat 16 (g - 0x20))]
  else []

def dueReacq (src : Nat) : List Due :=
  let g := src / 256
  if 0x10 ≤ g ∧ g < 0x18 then [.lineReacq (Fin.ofNat 8 (g - 0x10))]
  else if 0x20 ≤ g ∧ g < 0x30 then [.hostReacq (Fin.ofNat 16 (g - 0x20))]
  else []

/-- A raise without its Attic record (R334 to R338, R340, R343 step 1).  `hide` is the mask of fixed
reactions that the raise does not start (R489).  Reactions that start after the raise are put in
`fuse.due`. -/
def State.raiseCore (s : State) (src detail hide : Nat) : State :=
  match srcSeverity src with
  | none => s
  | some sev =>
    if s.isolated (srcDomain src detail) || s.fuse.blind.contains src ||
        (srcLevel src && s.fuse.rails.contains src) then s
    else
      let set := s.srcSet src &&& ((0x1FF - hide % 0x200) % 0x200)
      let eff := if s.fuse.safe then set &&& (rLog ||| rAttn) else set
      let now := s.clock.deviceTime
      let f := s.fuse
      let f := if srcLevel src then { f with rails := f.rails ++ [src] } else f
      let sq := (eff &&& rSquelch != 0) && !(dueCause src).isEmpty
      let f := f.activate src sq
      let f :=
        if eff &&& rLog != 0 then
          let h : HistEntry :=
            { source := src, severity := sev, first := !f.record.valid, merged := f.record.valid,
              escalating := f.record.valid && decide (f.record.highestSev < sev), lane := srcLane src,
              detail := detail, reactions := eff, time := now }
          { f with record := f.record.log src sev detail now }.enter h
        else f
      let f := if sq then { f with due := f.due ++ dueCause src } else f
      let f := if eff &&& rReacq != 0 then { f with due := f.due ++ dueReacq src } else f
      let f := if eff &&& rSafe != 0 then { f with safe := true, due := f.due ++ [.safe] } else f
      let doze := eff &&& rAttn != 0 && s.fld powerBase PWR_STATE_STATE == 1
      let f := if doze then { f with due := f.due ++ [.doze] } else f
      let s := { s with fuse := f }.countEvent 0x6101 1
      let s := if eff &&& rAttn != 0 then s.attn ATTN_CAUSE_FAULT else s
      if eff &&& rSafe != 0 then (s.attn ATTN_CAUSE_SAFE).setFld systemBase STATUS_DEV_STATE 4 else s

/-- Puts a record in the queue of 64; a full queue discards (R441). -/
def State.pushRecord (s : State) (r : AtticRecord) : State :=
  if s.attic.queue.length < 64 then
    { s with attic := { s.attic with queue := s.attic.queue ++ [r] } }
  else
    let a := { s.attic with deferred := s.attic.deferred + 1 }
    let a := match dropPeriodic a.queue with
      | some q => { a with queue := q ++ [r] }
      | none => { a with dropped := satNat 16 (a.dropped + 1), droppedTotal := satNat 32 (a.droppedTotal + 1) }
    { s with attic := a }.raiseCore 0x0012 (satNat 16 a.deferred) 0

/-- Forms an event record within the limit of 64 in ten minutes (R441); RETIREMENT, SHUTDOWN and BROWNOUT
records are formed beyond it. -/
def State.atticEvent (s : State) (type : Nat) (payload : List Byte) : State :=
  if s.attic.available then
    let recent := s.attic.formed.filter fun t => decide (s.tick < t + tenMinutes)
    if 64 ≤ recent.length && !(type == 4 || type == 5 || type == 6) then
      { s with attic := { s.attic with
          formed := recent, dropped := satNat 16 (s.attic.dropped + 1),
          droppedTotal := satNat 32 (s.attic.droppedTotal + 1) } }
    else
      { s with attic := { s.attic with formed := recent ++ [s.tick] } }.pushRecord (s.formRecord type payload)
  else s

/-- The payload of a FAULT record: FFR_0 to FFR_5 and DEV_STATE (Table 18-6). -/
def State.faultPayload (s : State) : List Byte :=
  wordBytes s.fuse.record.words ++ leBytes 4 (s.fld systemBase STATUS_DEV_STATE * 0x10000000)

/-- A raise of one source (R334), with the FAULT record that Table 18-6 asks for: one record for a raise
that opens at S2 or above, escalates to S3 or above, or enters safe state. -/
def State.raiseHiding (s : State) (src detail hide : Nat) : State :=
  let before := s.fuse
  let s := s.raiseCore src detail hide
  let opened := !before.record.valid && s.fuse.record.valid && decide (2 ≤ s.fuse.record.severity)
  let escalated := before.record.valid && decide (before.record.highestSev < s.fuse.record.highestSev) &&
    decide (3 ≤ s.fuse.record.highestSev)
  let safe := !before.safe && s.fuse.safe
  let s := if safe then { s with attic := { s.attic with safeStates := satNat 16 (s.attic.safeStates + 1) } }
    else s
  if opened || escalated || safe then s.atticEvent 2 s.faultPayload else s

/-- Safe state is entered without a source: life-cycle END (R343 step 1, R452). -/
def State.enterSafe (s : State) : State :=
  if s.fuse.safe then s
  else
    let s := { s with fuse := { s.fuse with safe := true, due := s.fuse.due ++ [Due.safe] } }
    let s := (s.attn ATTN_CAUSE_SAFE).setFld systemBase STATUS_DEV_STATE 4
    let s := { s with attic := { s.attic with safeStates := satNat 16 (s.attic.safeStates + 1) } }
    s.atticEvent 2 s.faultPayload

/-- A raise of one source with every reaction of its set. -/
def State.raise (s : State) (src detail : Nat) : State := s.raiseHiding src (detail % 0x10000) 0

/-- A raise whose detail word the spec does not state: a free value (log 16). -/
def State.raiseOpen (s : State) (src : Nat) : State :=
  let (v, s) := s.fresh
  s.raise src v.toNat

/-- A raise that its chapter limits to one per second: `key` tells the detectors of one source apart. -/
def State.raiseLimited (s : State) (key src detail : Nat) : State :=
  match Sparse.find? s.limits key with
  | some t =>
    if s.tick < t + ticksPerSecond then s
    else { s with limits := Sparse.insert (Sparse.erase s.limits key) key s.tick }.raise src detail
  | none => { s with limits := Sparse.insert s.limits key s.tick }.raise src detail

/-- A source limited to one raise per second can be raised now. -/
def State.limitFree (s : State) (key : Nat) : Bool :=
  match Sparse.find? s.limits key with
  | some t => decide (t + ticksPerSecond ≤ s.tick)
  | none => true

/-- Takes a source out of the active set. -/
def State.leave (s : State) (src : Nat) : State :=
  let sq := s.fuse.active.any fun e => e.src == src && e.squelch
  let f := { s.fuse with active := s.fuse.active.filter fun e => e.src != src }
  { s with fuse := if sq then { f with due := f.due ++ dueCause src } else f }

/-- The condition of a level source ends: its pair turns quiet, and it leaves the active set if it is
CLEARED and not BLIND (R340, R326). -/
def State.quiet (s : State) (src : Nat) : State :=
  let s := { s with fuse := { s.fuse with rails := s.fuse.rails.filter fun x => x != src } }
  if s.fuse.blind.contains src then s
  else if s.fuse.active.any fun e => e.src == src && e.cleared then s.leave src
  else s

/-- A source that the part itself clears leaves the active set without a host clear (R340). -/
def State.clearByPart (s : State) (src : Nat) : State :=
  let s := { s with fuse := { s.fuse with rails := s.fuse.rails.filter fun x => x != src } }
  s.leave src

/-- The pair of a level source shows the fault state: its condition holds and its domain is not isolated (R327). -/
def State.pairActive (s : State) (src : Nat) : Bool := s.fuse.rails.contains src && !s.isolated (srcDomain src 0)

/-- The pairs of a domain that is isolated read quiet: its sources that are CLEARED and not BLIND leave the active set
(R327, R340, R490). -/
def State.isolateSources (s : State) (d : Nat) : State :=
  let gone := s.fuse.active.filter fun e => e.cleared && srcDomain e.src 0 == d && !s.fuse.blind.contains e.src
  s.each gone fun e s => s.leave e.src

/-- Isolation of a domain is released: the pairs of its level sources whose condition holds are read again, and the sources
are raised again after the quiet time (R327, R329; their detail word is a free value, log 154). -/
def State.releaseSources (s : State) (d : Nat) : State :=
  let held := s.fuse.rails.filter fun src => srcDomain src 0 == d
  let s := { s with fuse := { s.fuse with rails := s.fuse.rails.filter fun src => srcDomain src 0 != d } }
  s.each held fun src s => s.raiseOpen src

/-- Orders raises of one tick: higher severity first, then lower source ID (R336). -/
def raiseBefore (a b : RaiseEvent) : Bool :=
  let sa := (srcSeverity a.src.toNat).getD 0
  let sb := (srcSeverity b.src.toNat).getD 0
  decide (sb < sa) || (sa == sb && decide (a.src.toNat ≤ b.src.toNat))

/-- Inserts a raise behind those that go before it. -/
def insertRaise (e : RaiseEvent) : List RaiseEvent → List RaiseEvent
  | [] => [e]
  | x :: xs => if raiseBefore x e then x :: insertRaise e xs else e :: x :: xs

/-- The raises of one tick in the order of R336. -/
def sortRaises (es : List RaiseEvent) : List RaiseEvent := es.foldl (fun acc e => insertRaise e acc) []

/-! ### FAULT_N -/

/-- THRESHOLD as it acts: 0 as 1, 5 to 7 as 4 (Table 13-11). -/
def State.threshold (s : State) : Nat :=
  let t := s.fld fuseBase FB_CTRL_THRESHOLD
  if t = 0 then 1 else if 4 < t then 4 else t

/-- FAULT_N is driven low (R341, R398). -/
def State.faultLow (s : State) : Bool :=
  s.fuse.safe || s.thermal.shut.isSome || s.fuse.active.any fun e => decide (s.threshold ≤ (srcSeverity e.src).getD 0)

/-- The event record of a substitution or a takeover (Table 18-6): kind, lane or room, detail word. -/
def State.substitution (s : State) (kind unit detail : Nat) : State :=
  s.atticEvent 3 (leBytes 4 (kind * 0x1000000 + unit * 0x10000 + detail % 0x10000) ++
    leBytes 8 s.clock.deviceTime)

end Sys2Proof.Machine
end

