-- ==== Sys2Proof/Machine/PowerOps.lean ====
section
/-! DEFINITION. Votes, lingers and wakes of the power domains, shared by every chapter whose state votes
(R351, R352, R354, R355). -/

namespace Sys2Proof.Machine

open Reg

/-- The index of Table 14-1 names a domain that can be voted. -/
def domVotable (d : Nat) : Bool := decide (1 ≤ d ∧ d < 72) && !decide (5 ≤ d ∧ d ≤ 7)

/-- The domain is on. -/
def State.domOn (s : State) (d : Nat) : Bool := s.fld powerBase (DOM_STATE.ix d) == 1

/-- VOTE_d. -/
def State.votes (s : State) (d : Nat) : Word := s.reg (powerBase + 0x300 + 4 * d)

/-- A bit of VOTE_d as a field. -/
def voteBit (b : Nat) : Field := ⟨0x300, b, 1, 4⟩

def voteHost : Nat := 0
def voteMgmt : Nat := 1
def voteTamid : Nat := 2
def voteBist : Nat := 3
def voteThermal : Nat := 4
def voteAccess : Nat := 5
def voteLine (n : Fin 8) : Nat := 8 + n.val
def voteHostLm (m : Fin 16) : Nat := 16 + m.val

/-- Bit `d` of REST_MASK; bits for indices 0, 1 and unused indices are ignored (Table 14-6). -/
def State.restMasked (s : State) (d : Nat) : Bool :=
  decide (2 ≤ d) && domVotable d && wordField (s.fld powerBase (REST_MASK_MASK.ix (d / 32))) (d % 32) 1 == 1

/-- The votes that hold a domain on: all of them, or those of MGMT, THERMAL and ACCESS for a masked
domain in REST (R359). -/
def State.heldVotes (s : State) (d : Nat) : Word :=
  if s.fld powerBase PWR_STATE_STATE = 2 ∧ s.restMasked d then s.votes d &&& 0x32 else s.votes d

/-- An entry was abandoned: both counts (R355). -/
def State.countAbandoned (s : State) (d : Nat) : State :=
  (s.bump powerBase (DOM_ABANDONED.ix d)).bump powerBase PWR_STATE_ABANDONED

def State.setDom (s : State) (d st step : Nat) : State :=
  (s.setFld powerBase (DOM_STATE.ix d) st).setFld powerBase (DOM_STEP.ix d) step

/-- The domain starts its exit sequence at step X1 or X2 (R354, R355). -/
def State.startWake (s : State) (d step : Nat) : State :=
  (s.setDom d 4 step).bumpMod powerBase (DOM_WAKES.ix d)

/-- A wake request reaches a domain (R354, R355): a RETAINED domain wakes; a domain in E0 is on again at
once and counts an abandoned entry; one in E1 to E5 is marked and turns at the end of its step. -/
def State.wakeRequest (s : State) (d : Nat) : State :=
  let st := s.fld powerBase (DOM_STATE.ix d)
  if st = 3 then s.startWake d 1
  else if st = 2 ∧ ¬ s.power.undoing.contains d then
    if s.fld powerBase (DOM_STEP.ix d) = 0 then (s.setDom d 1 0).countAbandoned d
    else if s.power.wakeAfter.contains d then s
    else { s with power := { s.power with wakeAfter := s.power.wakeAfter ++ [d] } }
  else s

/-- The linger timer of a domain stops. -/
def State.stopLinger (s : State) (d : Nat) : State :=
  { s with power := { s.power with lingering := s.power.lingering.filter fun e => e.1 != d } }

/-- LINGER of a domain in core ticks: units of 10 µs, 7,812.5 core ticks, at most 10 ms; the timer expires at the core tick
that ends it (R352). -/
def State.lingerTicks (s : State) (d : Nat) : Nat := (min 1000 (s.fld powerBase (DOM_LINGER.ix d)) * 15625 + 1) / 2

/-- The entry sequence of a domain starts at E0 (R352, R353). -/
def State.startEntry (s : State) (d : Nat) : State := (s.stopLinger d).setDom d 2 0

/-- A client sets its vote: a linger stops, and a domain that is not on wakes (R351, R352); in REST an
overridden vote does neither (R359). -/
def State.setVote (s : State) (d bit : Nat) : State :=
  if domVotable d then
    let s := s.setFlag powerBase ((voteBit bit).ix d) true
    if s.heldVotes d = 0 then s
    else
    let s := s.stopLinger d
    if s.domOn d then s else s.wakeRequest d
  else s

/-- The linger of a domain starts, or its entry if LINGER is 0 (R352).  Before boot step 9 votes have no
effect. -/
def State.unvoted (s : State) (d : Nat) : State :=
  if s.power.voting && s.domOn d && s.heldVotes d == 0 then
    if s.fld powerBase (DOM_LINGER.ix d) = 0 then s.startEntry d
    else if s.power.lingering.any fun e => e.1 == d then s
    else { s with power := { s.power with lingering := s.power.lingering ++ [(d, s.tick + s.lingerTicks d)] } }
  else s

/-- A client withdraws its vote (R351, R352).  In REST a masked domain enters at once when an MGMT or
THERMAL vote clears (R359). -/
def State.clearVote (s : State) (d bit : Nat) : State :=
  if domVotable d then
    let s := s.setFlag powerBase ((voteBit bit).ix d) false
    let rest := s.fld powerBase PWR_STATE_STATE == 2 && s.restMasked d
    if rest && (bit == voteMgmt || bit == voteThermal) && s.heldVotes d == 0 && s.domOn d then s.startEntry d
    else s.unvoted d
  else s

/-- Sets or withdraws a vote. -/
def State.putVote (s : State) (d bit : Nat) (on : Bool) : State :=
  if on then s.setVote d bit else s.clearVote d bit

def domLineRx (n : Fin 8) : Nat := 8 + 2 * n.val
def domLineTx (n : Fin 8) : Nat := 9 + 2 * n.val
def domHostRx (m : Fin 16) : Nat := 24 + 2 * m.val
def domHostTx (m : Fin 16) : Nat := 25 + 2 * m.val
def domRoom (r : Nat) : Nat := 56 + r

/-- The room of a line transmitter (Table 14-2). -/
def txRoom (n : Fin 8) : Nat := if n.val ≤ 3 then 8 else 9

/-- The room of a host lane (Table 14-2). -/
def hostRoom (m : Fin 16) : Nat := 10 + m.val / 4

/-! ### Deep tests -/

/-- The power domain of a bank (Table 14-1); banks 193 and 242 follow what they replace. -/
def State.bankDomain (s : State) (b : Nat) : Nat :=
  if b ≤ 64 then 1
  else if b ≤ 193 then 2
  else if b ≤ 241 then 56 + (b - 194) / 3
  else if b = 242 then
    if s.flag memProtBase BANK_MAP_ENGINE_USED then 56 + (s.fld memProtBase BANK_MAP_ENGINE_FOR - 194) / 3 else 1
  else if b ≤ 250 then 8 + 2 * (b - 243)
  else if b ≤ 258 then 9 + 2 * (b - 251)
  else 1

/-- The domains of the lanes that a room serves (Table 14-2). -/
def roomServes (r : Nat) : List Nat :=
  if r < 8 then [8 + 2 * r]
  else if r = 8 then [9, 11, 13, 15]
  else if r = 9 then [17, 19, 21, 23]
  else if r < 14 then (List.range 8).map fun k => 24 + 8 * (r - 10) + k
  else []

/-- The domains that a deep test holds out of service (Table 19-4); a bank of the Cellar holds nothing but
itself. -/
def State.deepDomains (s : State) : List Nat :=
  match s.test.deep with
  | none => []
  | some x =>
    let a := leNat (x.args.take 2)
    if x.test = 1 then a :: (if 56 ≤ a then roomServes (a - 56) else [])
    else if x.test = 2 then if a ≤ 64 then [] else [s.bankDomain a]
    else if x.test = 3 then [8 + 2 * a]
    else if x.test = 4 then [9 + 2 * a]
    else if x.test = 7 then [3]
    else []

/-- A deep test holds a domain out of service (R454). -/
def State.deepHolds (s : State) (d : Nat) : Bool := s.deepDomains.contains d

/-! ### Rooms and their tasks (Tables 1-4 and 10-2) -/

/-- The RET_LOST bit of a bank (R320). -/
def retLostBit (b : Nat) : Field := (⟨0x200, b % 32, 1, 4⟩ : Field).ix (b / 32)

/-- A bank is RETENTION_LOST (R320, R356). -/
def State.retLost (s : State) (b : Nat) : Bool :=
  wordField (s.fld memProtBase (RET_LOST_LOST.ix (b / 32))) (b % 32) 1 == 1

/-- A bank of the engine memories of a room is RETENTION_LOST: one of its own three, or bank 242 while it
replaces one of them (R17, R304, R317). -/
def State.roomMemoryLost (s : State) (r : Nat) : Bool :=
  ((List.range 3).any fun k => s.retLost (194 + 3 * r + k)) || (s.bankDomain 242 == domRoom r && s.retLost 242)

/-- A room is available: its domain is on, none of its memories has lost its contents, and no deep test holds it (R17,
Table 1-4, R454). -/
def State.roomUp (s : State) (r : Nat) : Bool :=
  s.domOn (domRoom r) && !s.deepHolds (domRoom r) && !s.roomMemoryLost r

/-- The loops of a room run: it is available and its engines issue (Table 13-6 step 4). -/
def State.roomRuns (s : State) (r : Nat) : Bool := s.roomUp r && !s.fuse.safe

/-- A task of a room is not lost, and no takeover of it is in progress (R14, R24, R256, Table 10-11). -/
def State.taskHeld (s : State) (r t : Nat) : Bool :=
  match s.rooms.rooms[r]? with
  | some m => !m.lost.contains t && m.pending.all fun p => p.task != t
  | none => false

/-- A task of an available room goes on, in safe state too. -/
def State.taskUp (s : State) (r t : Nat) : Bool := s.roomUp r && s.taskHeld r t

/-- A task of a room runs. -/
def State.taskRuns (s : State) (r t : Nat) : Bool := s.roomRuns r && s.taskHeld r t

/-- The tasks of the room of a line receiver (Table 10-2, rooms 0–7). -/
def taskTiming : Nat := 17
def taskVga : Nat := 18
/-- The task that holds the FFE tap of FFE_TAP index `k`, that is c(k − 8): two taps each. -/
def taskFfe (k : Nat) : Nat := 19 + k / 2
/-- The task that holds M[j]: eight levels each. -/
def taskLevel (j : Nat) : Nat := 51 + j / 8
def taskSnr : Nat := 59
def taskRotation : Nat := 60

/-- The task of room 14 that installs the tables of line lane Ln (Table 10-2). -/
def taskInstall (n : Fin 8) : Nat := 16 + n.val

/-- The transmit or receive task of a Tamid instance in room 14 (Table 10-2). -/
def tamidTask (i : Fin 8) (rx : Bool) : Nat := 24 + 2 * i.val + (if rx then 1 else 0)

/-- Task `k` of line transmitter Ln in its room (Table 10-2, rooms 8 and 9): 0 FIR glide and enable sequencer,
1–4 cell rotation, 5–8 trims, 9–12 output-sense correlation, 13 TX_SPUR, 14 line checker. -/
def txTask (n : Fin 8) (k : Nat) : Nat := 15 * (n.val % 4) + k

/-- Task `k` of host lane Hm in its room (Table 10-2, rooms 10–13): 0–5 receive FFE, 6 DFE and thresholds, 7 CTLE
and ADC offset and gain, 8 clock recovery, 9 SNR, 10 eye width, 11 responder, 12 requester, 13 acquisition, 14
transmitter. -/
def hostTask (m : Fin 16) (k : Nat) : Nat := 15 * (m.val % 4) + k

/-- A task of line receiver Ln runs. -/
def State.lineTask (s : State) (n : Fin 8) (t : Nat) : Bool := s.taskRuns n.val t

/-- Task `k` of line transmitter Ln runs. -/
def State.lineTxTask (s : State) (n : Fin 8) (k : Nat) : Bool := s.taskRuns (txRoom n) (txTask n k)

/-- Task `k` of host lane Hm runs. -/
def State.hostLaneTask (s : State) (m : Fin 16) (k : Nat) : Bool := s.taskRuns (hostRoom m) (hostTask m k)

/-- MGMT votes for PANTRY while any LINE-n RX domain is on (Table 14-2). -/
def State.refreshPantryVote (s : State) : State :=
  let any := allLines.any fun n => s.domOn (domLineRx n)
  let now := s.flag powerBase ((voteBit voteMgmt).ix 2)
  if any == now then s else s.putVote 2 voteMgmt any

/-- The core clock runs and is not stopped by DOZE (R432). -/
def State.coreCounts (s : State) : Bool := s.clock.running && s.fld powerBase PWR_STATE_STATE != 1

end Sys2Proof.Machine
end

