-- ==== Sys2Proof/Machine/LinkOps.lean ====
section
/-! DEFINITION. Replies and completions of the management link (R268, R272, R294, R425), and the parts of
Tamid that other chapters act on: a reception dropped, a packet cut off, an instance taken to SLEEP. -/

namespace Sys2Proof.Machine

open Reg

/-! ### Status codes (Table 11-24) -/

def stOk : Nat := 0x0000
def stAccepted : Nat := 0x0001
def stUnknownOpcode : Nat := 0x0101
def stBadLength : Nat := 0x0102
def stBadParam : Nat := 0x0103
def stWrongState : Nat := 0x0104
def stBusy : Nat := 0x0105
def stNotPermitted : Nat := 0x0106
def stTransportCrc : Nat := 0x0107
def stNotInCharge : Nat := 0x0108
def stRetry : Nat := 0x0109
def stSafeState : Nat := 0x010A
def stAccessError : Nat := 0x010B

/-! ### Tamid -/

def State.modTamid (s : State) (i : Fin 8) (f : TamidInst → TamidInst) : State :=
  { s with tamid := s.tamid.set i (f s.tamid[i]) }

def tamidSrc (i : Fin 8) (k : Nat) : Nat := (0x70 + i.val) * 256 + k

/-- STATE of Table 17-1: 0 SLEEP, 1 STANDBY, 2 SYNTH, 3 RX, 4 TX, 5 DUPLEX. -/
def State.tamidState (s : State) (i : Fin 8) : Nat := s.fld (tamidBase i) TM_STATUS_STATE

/-- The receiver of an instance is on. -/
def State.tamidReceives (s : State) (i : Fin 8) : Bool := s.tamidState i == 3 || s.tamidState i == 5

/-- SENDING: a packet is on the air or waits to start (Table 17-8). -/
def State.refreshSending (s : State) (i : Fin 8) : State :=
  let t := s.tamid[i]
  s.setFlag (tamidBase i) TM_STATUS_SENDING (t.air.isSome || t.host.isSome || !t.own.isEmpty)

/-- A packet in progress is discarded and counted in ABANDONED (R415, R420). -/
def State.tamidDrop (s : State) (i : Fin 8) : State :=
  let b := tamidBase i
  let s := if s.flag b TM_STATUS_RECEIVING then s.bump b TM_COUNTS2_ABANDONED else s
  (s.setFlag b TM_STATUS_RECEIVING false).modTamid i fun t => { t with rx := none }

/-- Direct sampling receives only while ACQ_STATE of its lane is 2 or higher (R415). -/
def State.tamidAcqFall (s : State) (i : Fin 8) : State :=
  if s.flag (tamidBase i) TM_STATUS_RX_METHOD && s.tamid[i].rx.isSome then s.tamidDrop i else s

/-- Payload bytes of a packet that have been sent after a span of ticks: 20 µs symbols behind the ramp,
the preamble and the sync word, then the length byte (R413). -/
def tamidBytesSent (len : Nat) (fsk4 : Bool) (ticks : Nat) : Nat :=
  let perByte := if fsk4 then 4 else 8
  min len ((ticks / 15625 - 65 - perByte) / perByte)

/-- Injection stops and a packet on the air is cut off (R427). -/
def State.tamidCut (s : State) (i : Fin 8) : State :=
  match s.tamid[i].air with
  | some (p, _, fsk4, t) =>
    let s := s.modTamid i fun x => { x with air := none }
    s.refreshSending i |>.raise (tamidSrc i 0x06) (tamidBytesSent p.length fsk4 (s.tick - t))
  | none => s

/-- A payload of the part waits for the transmitter of an instance; in SLEEP it is discarded and counted
in UNHANDLED, and in safe state it is not sent (R424, R425, R427). -/
def State.tamidOwn (s : State) (i : Fin 8) (p : List Byte) : State :=
  if s.fuse.safe then s
  else if s.tamidState i = 0 then s.bump (tamidBase i) TM_COUNTS2_UNHANDLED
  else (s.modTamid i fun t => { t with own := t.own ++ [p] }).refreshSending i

/-- The TAMID client votes for its domain while any instance is outside SLEEP or leaves it (Table 14-2). -/
def State.tamidVote (s : State) : State :=
  let any := allLines.any fun i => s.tamidState i != 0 ||
    (s.tamid[i].target.map fun t => t.st != 0).getD false
  if any == s.flag powerBase ((voteBit voteTamid).ix 4) then s else s.putVote 4 voteTamid any

/-! ### Replies -/

/-- The bytes of a reply packet (Table 11-4). -/
def Reply.bytes (r : Reply) : List Byte :=
  let head := [0x7D, BitVec.ofNat 8 r.seq] ++ leBytes 2 r.status ++ leBytes 2 r.results.length
  let body := head ++ leBytes 2 (crc16 head) ++ r.results
  body ++ leBytes 4 (crc32 body)

/-- Parts of a tunnelled reply: at most 236 bytes each (R425). -/
def replyParts : Nat → List Byte → List (List Byte)
  | 0, _ => []
  | k + 1, bs => if bs.length ≤ 236 then [bs] else bs.take 236 :: replyParts k (bs.drop 236)

/-- The ULIRA_REPLY payloads of a reply. -/
def replyPayloads (r : Reply) : List (List Byte) :=
  let ps := replyParts 5 r.bytes
  ps.zipIdx.map fun (p, k) => [0xC5, BitVec.ofNat 8 k, BitVec.ofNat 8 ps.length] ++ p

/-- Places a reply in the outbox of four, or keeps it until there is a place (R272, Table 11-8). -/
def State.enqueue (s : State) (r : Reply) : State :=
  if s.link.outbox.length < 4 ∧ s.link.waiting = [] then
    let s := { s with link := { s.link with outbox := s.link.outbox ++ [r] } }
    (s.bumpMod systemBase MBOX_OUT_OUT_WR).attn ATTN_CAUSE_REPLY_READY
  else { s with link := { s.link with waiting := s.link.waiting ++ [r] } }

/-- Counts a RETRY reply (Tables 11-11 and 11-22). -/
def State.countRetry (s : State) (status : Nat) : State :=
  if status = stRetry then
    { s with link := { s.link with retries := satNat 16 (s.link.retries + 1) } }.bump keyBase KEY_COUNTS_RETRIES
  else s

/-- Sends a reply the way its packet came: to the outbox, or back on a Tamid instance (R425). -/
def State.reply (s : State) (o : Origin) (status : Nat) (results : List Byte) : State :=
  let s := s.countRetry status
  let r : Reply := { seq := o.seq.toNat, status := status, results := results }
  match o.via with
  | .tamid i => s.each (replyPayloads r) fun p s => s.tamidOwn i p
  | _ => s.enqueue r

/-- CMD_DONE at a completion; a tunnelled command sets no bit of ATTN_CAUSE (R272, R425). -/
def State.cmdDone (s : State) (via : Via) : State :=
  match via with
  | .tamid _ => s
  | _ => s.attn ATTN_CAUSE_CMD_DONE

/-- The running command of an opcode and argument. -/
def State.runningOf (s : State) (opcode arg : Nat) : Option Running :=
  s.link.running.find? fun r => r.opcode == opcode && r.arg == arg

/-- A command of this opcode runs. -/
def State.isRunning (s : State) (opcode : Nat) : Bool := s.link.running.any fun r => r.opcode == opcode

/-- A running command ends: its second reply is placed and CMD_DONE is set (R272). -/
def State.complete (s : State) (opcode arg status : Nat) (results : List Byte) : State :=
  match s.runningOf opcode arg with
  | some r =>
    let s := { s with link := { s.link with running := s.link.running.erase r } }
    (s.reply r.origin status results).cmdDone r.origin.via
  | none => s

/-- A command is answered ACCEPTED and runs on (R272). -/
def State.accept (s : State) (o : Origin) (opcode arg : Nat) : State :=
  let r : Running := { origin := o, opcode := opcode, arg := arg }
  let s := { s with link := { s.link with running := s.link.running ++ [r] } }
  s.reply o stAccepted []

/-! ### Control DACs -/

def State.modCdac (s : State) (c : Fin 32) (f : CdacChannel → CdacChannel) : State :=
  { s with cdac := s.cdac.set c (f s.cdac[c]) }

def allCdacs : List (Fin 32) := List.finRange 32

def cdBase (c : Fin 32) : Nat := cdacBase + 0x10 * c.val

/-- STATE: 0 CLAMPED, 1 LIVE, 2 RANGING, 3 SAFE (Table 15-9). -/
def State.cdState (s : State) (c : Fin 32) : Nat := s.fld (cdBase c) CD_STATE_STATE

def State.setCdState (s : State) (c : Fin 32) (v : Nat) : State := s.setFld (cdBase c) CD_STATE_STATE v

/-- The queue of a channel with its QUEUED field. -/
def State.setCdQueue (s : State) (c : Fin 32) (q : List Nat) : State :=
  (s.modCdac c fun d => { d with queue := q }).setFld (cdBase c) CD_STATE_QUEUED q.length

/-- Step 5 of Table 13-6: the queue is emptied, and an enabled channel moves to its safe code.  A range
change whose clamp has engaged runs on to its step 3 first (Table 15-6); a channel that is clamped for
want of a code stays clamped (R377). -/
def State.cdSafe (s : State) (c : Fin 32) : State :=
  let s := s.setCdQueue c []
  if s.flag (cdBase c) CD_CFG_EN && s.cdState c != 0 && !s.cdac[c].clampEngaged then
    (s.setCdState c 3).modCdac c fun d => { d with rangeTo := none }
  else s

/-- A channel is clamped to 0 V at once and disabled (Table 16-4, R360). -/
def State.cdClamp (s : State) (c : Fin 32) : State :=
  let b := cdBase c
  let s := ((s.setCdQueue c []).setFlag b CD_CFG_EN false).setCdState c 0
  let s := (s.setFld b CD_CODES_TARGET 0).setFld b CD_CODES_OUT 0
  s.modCdac c fun d => { d with rangeTo := none, clampEngaged := false, driven := 0 }

/-! ### BIST records (R456 to R458) -/

/-- The domain of the unit that a slice tests (Table 19-5). -/
def bistDomain (sl : Nat) : Nat :=
  if sl < 8 then 8 + 2 * sl
  else if sl < 16 then 9 + 2 * (sl - 8)
  else if sl < 48 then domRoom ((sl - 16) / 2)
  else if sl = 48 ∨ sl = 51 then 3
  else 1

/-- RESULT codes of Table 19-6. -/
def bistPass : Nat := 1
def bistFail : Nat := 2
def bistIncomplete : Nat := 3
def bistUnavailable : Nat := 4

/-- RESULT of a slice, with FAILING. -/
def State.setBistResult (s : State) (sl res : Nat) : State :=
  let s := s.setFld testBase (BIST_R0_RESULT.ix sl) res
  let n := ((List.range 52).filter fun k => s.fld testBase (BIST_R0_RESULT.ix k) == bistFail).length
  s.setFld testBase BIST_SUM_FAILING n

/-- A slice that ran records its result (Table 19-6); a slice that was cut short has coverage 0. -/
def State.bistRecord (s : State) (sl res coverage duration : Nat) : State :=
  let s := s.setBistResult sl res
  let s := s.setFld testBase (BIST_R0_COVERAGE.ix sl) (if res = bistIncomplete then 0 else coverage)
  let s := s.setFld testBase (BIST_R1_DURATION.ix sl) (satNat 24 duration)
  let s := s.setFld testBase (BIST_R2_TIME.ix sl) (s.clock.deviceTime / 1024)
  s.bump testBase ((if res = bistPass then BIST_R3_PASSES else if res = bistFail then BIST_R3_FAILS
    else BIST_R3_INCOMPLETES).ix sl)

/-- Time since a tick in units of 0.1 µs: 78.125 ticks each. -/
def State.tenthMicros (s : State) (since : Nat) : Nat := 8 * (s.tick - since) / 625

/-- The slice that the sequencer runs leaves it, and its vote goes (R457). -/
def State.bistLeave (s : State) (sl : Nat) : State :=
  { s with test := { s.test with bist := none } }.clearVote (bistDomain sl) voteBist

/-- The slice that the sequencer runs is cut short (R458). -/
def State.bistCut (s : State) : State :=
  match s.test.bist with
  | some (sl, t) => (s.bistLeave sl).bistRecord sl bistIncomplete 0 (s.tenthMicros t)
  | none => s

/-- The slice is cut short where it tests a spare that is needed. -/
def State.bistNeeded (s : State) (sl : Nat) : State :=
  if s.test.bist.map (·.1) = some sl then s.bistCut else s

end Sys2Proof.Machine
end

