-- ==== Sys2Proof/Machine/LineOps.lean ====
section
/-! DEFINITION. The operations that several chapters share on a line lane: the mapping of host lanes, fill,
the ledger flags, squelch causes, cross-fades, loss of lock, and the start of an acquisition. -/

namespace Sys2Proof.Machine

open Reg

/-! ### Mapping and groups -/

/-- Host lanes mapped to a line lane (Table 2-4); modes are 0 A, 1 B, 2 C. -/
def State.hostsOf (s : State) (n : Fin 8) : List (Fin 16) :=
  if s.lanes.mode = 1 then [Fin.ofNat 16 (2 * n.val), Fin.ofNat 16 (2 * n.val + 1)]
  else [Fin.ofNat 16 n.val]

/-- The line lane a host lane is mapped to, `none` for H8–H15 in Modes A and C (R31, R32). -/
def State.lineOf (s : State) (m : Fin 16) : Option (Fin 8) :=
  if s.lanes.mode = 1 then some (Fin.ofNat 8 (m.val / 2))
  else if m.val < 8 then some (Fin.ofNat 8 m.val) else none

/-- The lanes of the group of a lane under a grouping code (Table 2-7). -/
def groupLanes (g : Nat) (n : Fin 8) : List (Fin 8) :=
  if g = 4 then allLines
  else if (g = 1 ∨ g = 3) ∧ n.val < 4 then [0, 1, 2, 3]
  else if (g = 2 ∨ g = 3) ∧ 4 ≤ n.val then [4, 5, 6, 7]
  else [n]

def State.groupOf (s : State) (n : Fin 8) : List (Fin 8) := groupLanes s.lanes.grouping n

/-- The lowest lane of the group of a lane. -/
def State.groupLead (s : State) (n : Fin 8) : Fin 8 := (s.groupOf n).headD n

/-- The line lanes run at 200G (Table 2-3). -/
def State.line200 (s : State) : Bool := s.lanes.mode == 2

/-- Core ticks of a line frame: 307.2 ns or 614.4 ns (Table 2-2). -/
def State.frameTicks (s : State) : Nat := if s.line200 then 480 else 240

/-- The source ID of index `i` of line lane Ln, and of host lane Hm. -/
def lineSrc (n : Fin 8) (i : Nat) : Nat := (0x10 + n.val) * 256 + i
def hostSrc (m : Fin 16) (i : Nat) : Nat := (0x20 + m.val) * 256 + i

/-! ### Profile -/

/-- The profile in force: 0 Balanced, 1 Reach, 2 Frugal, 3 Swift (Table 1-5). -/
def State.profile (s : State) : Nat := s.fld systemBase STATUS_PROFILE

/-- Chase-II L of a profile (Table 1-6). -/
def chaseL (profile : Nat) : Nat := if profile = 1 then 6 else if profile = 0 then 5 else 4

/-- First FFE_TAP index and number of taps of a profile (Table 4-1, with c(k − 8) at index k). -/
def tapRange (profile : Nat) : Nat × Nat :=
  if profile = 1 then (0, 64) else if profile = 0 then (0, 48) else (4, 24)

/-- The profile in force on a line lane: the old one until the group's switch (R21). -/
def State.laneProfile (s : State) (n : Fin 8) : Nat :=
  match s.lanes.change with
  | some c => if c.left.contains n.val then s.profile else c.target
  | none => s.profile

/-! ### Synthesisers -/

/-- Synthesiser `k` is locked: 0 line west, 1 line east, 2 host west, 3 host east (Table 9-6). -/
def State.synLocked (s : State) (k : Nat) : Bool :=
  wordField (s.reg clockBase) (27 - k) 1 == 1

def lineSyn (n : Fin 8) : Nat := if n.val < 4 then 0 else 1
def hostSyn (m : Fin 16) : Nat := if m.val < 8 then 2 else 3

/-! ### Ledger flags -/

def ledgerUnsettled (which : Nat) : Field :=
  if which = 0 then LEDGER_RX_UNSETTLED else if which = 1 then LEDGER_TX0_UNSETTLED else LEDGER_TX1_UNSETTLED

/-- Sets UNSETTLED on a ledger of a line lane: 0 RX, 1 TX0, 2 TX1 (R50). -/
def State.unsettle (s : State) (n : Fin 8) (which : Nat) : State :=
  s.setFlag (lineBase n) (ledgerUnsettled which) true

def State.unsettleAll (s : State) (n : Fin 8) : State :=
  ((s.unsettle n 0).unsettle n 1).unsettle n 2

/-- Sets UNSETTLED on the host→line ledger of a host lane. -/
def State.unsettleHost (s : State) (m : Fin 16) : State :=
  match s.lineOf m with
  | some n => s.unsettle n (if s.lanes.mode = 1 ∧ m.val % 2 = 1 then 2 else 1)
  | none => s

/-! ### Fades of the two table banks of a lane -/

/-- The registers of a pair of banks: the canceller's or the pre-distortion's. -/
structure FadeRegs where
  active : Field
  fading : Field
  pending : Field
  busy : Field
  reject : Field
  restarts : Field
  bank0 : Field
  bank1 : Field
  /-- Source index of the stopped fade. -/
  src : Nat
  deriving DecidableEq, Repr

def nlcRegs : FadeRegs :=
  { active := NLC_STATUS_ACTIVE_BANK, fading := NLC_STATUS_FADING, pending := NLC_STATUS_FADE_PENDING,
    busy := NLC_STATUS_BUSY_COUNT, reject := NLC_STATUS_WR_REJECT, restarts := NLC_STATUS_FADE_RESTARTS,
    bank0 := NLC_B0_ENTRY, bank1 := NLC_B1_ENTRY, src := 0x43 }

def pdRegs : FadeRegs :=
  { active := PD_STATUS_ACTIVE_BANK, fading := PD_STATUS_FADING, pending := PD_STATUS_FADE_PENDING,
    busy := PD_STATUS_BUSY_COUNT, reject := PD_STATUS_WR_REJECT, restarts := PD_STATUS_FADE_RESTARTS,
    bank0 := PD_B0_ENTRY, bank1 := PD_B1_ENTRY, src := 0x63 }

/-- A fade is running or pending. -/
def State.fadeBusy (s : State) (n : Fin 8) (r : FadeRegs) : Bool :=
  s.flag (lineBase n) r.fading || s.flag (lineBase n) r.pending

/-- An install point of the census: S and the sum of table E are recorded, and the window of R177 after the install starts
(R176 step 6, R182). -/
def State.installPoint (s : State) (n : Fin 8) (proposal : Option Nat) : State :=
  let e := s.tableSum (2 * n.val)
  s.modPantry n fun l =>
    let w := if proposal.isSome then l.sent else l.before
    { l with
      installTick := some s.tick, installS := l.samples, installE := e,
      judge := some { proposal := proposal, before := w.1, window := w.2, start := l.samples, after := 0 } }

def pantryLaneField (n : Fin 8) (f : Field) : Field := f.ix n.val

/-- A Pantry message goes to Tamid instance n; with PD_TAMID = 0 none is sent (R180, R182). -/
def State.pantrySend (s : State) (n : Fin 8) (p : List Byte) : State :=
  s.when (s.flag pantryBase PANTRY_CTRL_PD_TAMID && s.tamidState n != 0) fun s => s.tamidOwn n p

/-- Room 14 takes note of the end of a swap that it asked for (R176, R181). -/
def State.installDone (s : State) (n : Fin 8) (r : FadeRegs) : State :=
  let l := s.pantry.lanes[n]
  if r.src = nlcRegs.src then
    match l.installing with
    | some false =>
      let s := (s.modPantry n fun l => { l with installing := none }).installPoint n none
      s.bump pantryBase (pantryLaneField n PL_STATUS_NLC_INSTALLS)
    | some true => s.modPantry n fun l => { l with installing := none }
    | none => s
  else
    match l.pdInstalling with
    | some due =>
      let s := s.modPantry n fun l => { l with pdInstalling := none }
      if due.proposal.isSome then
        let s := s.bump pantryBase (pantryLaneField n PL_STATUS_PD_INSTALLS)
        let s := s.setFld pantryBase (pantryLaneField n PL_DERIVE_PROP_SEQ_RX) due.seq
        (s.modPantry n fun l => { l with pdLast := some due.seq }).pantrySend n
          [0xC2, BitVec.ofNat 8 due.seq, 0]
      else s
    | none => s

/-- ACTIVE_BANK changes to the incoming bank, and the fade is over (R90, R93). -/
def State.fadeFinish (s : State) (n : Fin 8) (r : FadeRegs) : State :=
  let b := lineBase n
  let s := ((s.setFld b r.active (1 - s.fld b r.active)).setFlag b r.fading false).setFlag b r.pending false
  s.installDone n r

/-- A running fade stops and becomes pending; the stop is counted and raised (R92, R142). -/
def State.fadeStop (s : State) (n : Fin 8) (r : FadeRegs) : State :=
  let b := lineBase n
  if s.flag b r.fading then
    let incoming := 1 - s.fld b r.active
    (((s.setFlag b r.fading false).setFlag b r.pending true).bump b r.restarts).raise (lineSrc n r.src) incoming
  else s

/-- A fade of a group's non-linear tables runs. -/
def State.groupFading (s : State) (n : Fin 8) : Bool :=
  (s.groupOf n).any fun k => s.flag (lineBase k) nlcRegs.fading || s.flag (lineBase k) pdRegs.fading

/-- A profile change waits for the fades of a lane's group before it switches the group (R21). -/
def State.changeWaits (s : State) (n : Fin 8) : Bool :=
  match s.lanes.change with
  | some c => c.switching.isNone && (c.left.head?.map fun k => s.groupLead (Fin.ofNat 8 k)) == some (s.groupLead n) &&
      s.groupFading n
  | none => false

/-- A fade starts at fade sample 0 (R90, R92, R142). -/
def State.fadeBegin (s : State) (n : Fin 8) (r : FadeRegs) : State :=
  (s.setFlag (lineBase n) r.fading true).modLinkOf n fun k =>
    if r.src = nlcRegs.src then { k with nlcFade := s.tick } else { k with pdFade := s.tick }

/-- A swap request (R90 to R93): rejected while a fade is busy or a profile change waits for the group's
fade; a flip at once while the stage is bypassed; a fade while the lane is live; pending otherwise. -/
def State.fadeRequest (s : State) (n : Fin 8) (r : FadeRegs) (inUse live : Bool) : State :=
  let b := lineBase n
  if s.fadeBusy n r || s.changeWaits n then s.bump b r.busy
  else if !inUse then s.fadeFinish n r
  else if live then s.fadeBegin n r
  else s.setFlag b r.pending true

/-- The stage stops adding or subtracting: a running or pending fade completes at once (R93). -/
def State.fadeBypass (s : State) (n : Fin 8) (r : FadeRegs) : State :=
  if s.fadeBusy n r then s.fadeFinish n r else s

/-- A pending fade restarts from fade sample 0 (R92, R142). -/
def State.fadeResume (s : State) (n : Fin 8) (r : FadeRegs) : State :=
  let b := lineBase n
  if s.flag b r.pending then (s.setFlag b r.pending false).fadeBegin n r else s

/-- A write to a bank entry: only the bank not in force takes it, and only while no fade is running or
pending; any other is counted (R89). -/
def State.bankWrite (s : State) (n : Fin 8) (r : FadeRegs) (bank : Fin 2) (i : Fin 1024)
    (v : BitVec 10) (swap : Bool) : State :=
  let b := lineBase n
  if bank.val = s.fld b r.active ∨ s.fadeBusy n r ∨ swap then s.bump b r.reject
  else s.setFld b ((if bank.val = 0 then r.bank0 else r.bank1).ix i.val) v.toNat

/-- Both banks are cleared and a pending fade dropped, after a lost retention (R89, R141). -/
def State.banksLost (s : State) (n : Fin 8) (r : FadeRegs) : State :=
  let b := lineBase n
  let s := { s with regs := s.regs.filter fun (a, _) =>
    !(decide (b + r.bank0.off ≤ a ∧ a < b + r.bank0.off + 0x1000) ||
      decide (b + r.bank1.off ≤ a ∧ a < b + r.bank1.off + 0x1000)) }
  let s := s.modPantry n fun l =>
    if r.src = nlcRegs.src then { l with installing := none } else { l with pdInstalling := none }
  s.setFlag b r.pending false

/-- The canceller subtracts: not in Frugal, and only with NLC_EN = 1 (R93). -/
def State.nlcInUse (s : State) (n : Fin 8) : Bool :=
  s.laneProfile n != 2 && s.flag (lineBase n) EQ_CTRL_NLC_EN

/-- The pre-distortion table adds (R141). -/
def State.pdInUse (s : State) (n : Fin 8) : Bool := s.flag (lineBase n) TX_CTRL_PD_EN

def State.locked (s : State) (n : Fin 8) : Bool := s.flag (lineBase n) EQ_STATUS_LOCKED

/-- TX_STATE: 0 OFF, 1 CAL, 2 CM_RAMP, 3 HELD, 4 AMP_RAMP, 5 LIVE (Table 6-3). -/
def State.txState (s : State) (n : Fin 8) : Nat := s.fld (lineBase n) TX_STATUS_TX_STATE

def State.setTxState (s : State) (n : Fin 8) (v : Nat) : State :=
  s.setFld (lineBase n) TX_STATUS_TX_STATE v

/-- A pre-distortion fade can run: AMP_RAMP, LIVE, or a HELD that was not entered from one of them
(R142, Table 6-5). -/
def State.transmitting (s : State) (n : Fin 8) : Bool :=
  let st := s.txState n
  st == 4 || st == 5 || (st == 3 && s.line[n].tx.heldFromCm)

/-- A host swap request of the canceller (R90, R91, R93). -/
def State.nlcHostSwap (s : State) (n : Fin 8) : State := s.fadeRequest n nlcRegs (s.nlcInUse n) (s.locked n)

/-- A request of room 14 through its engine port, whose status shows whether it was answered BUSY (R91). -/
def State.nlcEngineSwap (s : State) (n : Fin 8) : State :=
  let busy := s.fadeBusy n nlcRegs || s.changeWaits n
  (s.nlcHostSwap n).modPantry n fun l => { l with swapBusy := busy }

/-- A pre-distortion swap request (R141, R142). -/
def State.pdSwap (s : State) (n : Fin 8) : State := s.fadeRequest n pdRegs (s.pdInUse n) (s.transmitting n)

/-! ### Squelch of a line transmitter -/

/-- The output moves to HELD from AMP_RAMP or LIVE, with no ramp (R154, R142). -/
def State.txHold (s : State) (n : Fin 8) : State :=
  ((s.setTxState n 3).modTx n fun t => { t with heldFromCm := false }).fadeStop n pdRegs

/-- A HELD output starts its amplitude ramp (Table 6-4 step 4); it stays HELD in a deep test (R454). -/
def State.txRamp (s : State) (n : Fin 8) : State :=
  if s.deepHolds (domLineTx n) then s.setTxState n 3
  else (s.setTxState n 4).modTx n fun t =>
    { t with heldFromCm := false, rampTick := s.tick, rampSel := s.fld (lineBase n) TX_CTRL_RAMP_SEL }

/-- The amplitude ramp in core ticks: 64 slots of 16 line datapath clocks, 100 µs, 1 ms or 10 ms (R153). -/
def rampTicks (sel : Nat) : Rat :=
  if sel = 0 then 15360 / 17 else if sel = 1 then 78125 else if sel = 2 then 781250 else 7812500

/-- k of the amplitude factor g = k/64: 64 equal steps over the ramp, and 64 in LIVE (R143, R152, R153). -/
def State.rampK (s : State) (n : Fin 8) : Nat :=
  let t := s.line[n].tx
  if s.txState n = 4 then min 64 (1 + (64 * ((s.tick - t.rampTick : Nat) : Rat) / rampTicks t.rampSel).floor.toNat)
  else if s.txState n = 5 then 64 else 0

/-- Squelch causes are set and cleared in one datapath clock (R154, Table 6-5): a cause that is set wins, and the output
moves once.  Bits: 3 SAFE, 2 FAULT, 1 HOST, 0 FILL. -/
def State.setCauses (s : State) (n : Fin 8) (set clear : Nat) : State :=
  let b := lineBase n
  let old := s.fld b TX_STATUS_SQ_CAUSE
  let new := (old - (old &&& clear)) ||| set
  let s := s.setFld b TX_STATUS_SQ_CAUSE new
  let st := s.txState n
  if new ≠ 0 ∧ (st = 4 ∨ st = 5) then s.txHold n
  else if new = 0 ∧ old ≠ 0 ∧ st = 3 then s.txRamp n
  else s

/-- Sets or clears one squelch cause. -/
def State.setCause (s : State) (n : Fin 8) (bit : Nat) (on : Bool) : State :=
  if on then s.setCauses n (2 ^ bit) 0 else s.setCauses n 0 (2 ^ bit)

/-! ### Loop-backs -/

/-- The loop-back of a line lane: 0 none, 1 L-PAD, 2 L-PAR, 3 L-FEC, 4 L-FAR (LB_LINE). -/
def State.lineLoop (s : State) (n : Fin 8) : Nat := s.fld testBase (LB_LINE_CODE n.val)

/-- The loop-back of a host lane: 0 none, 1 H-PAD, 2 H-PAR, 3 H-FAR (Table 8-9). -/
def State.hostLoop (s : State) (m : Fin 16) : Nat := s.fld (hostBase m) HT_STATUS_LOOPBACK

/-- The loop-back of a Tamid instance: 0 none, 1 A-DIG, 2 A-ANA (LB_TAMID). -/
def State.tamidLoop (s : State) (i : Fin 8) : Nat := s.fld testBase (LB_TAMID_CODE i.val)

/-! ### Fill -/

/-- The line→host direction of a lane carries fill (Table 2-6). -/
def State.rxFills (s : State) (n : Fin 8) : Bool :=
  let k := s.line[n].link
  !s.locked n || !s.flag (lineBase n) FEC_STATUS_IN_FRAME || k.outOfRange.contains none ||
    k.profileFill || k.groupFill || k.deskewRx

/-- A host lane holds KP4 codeword lock (R123). -/
def State.cwLocked (s : State) (m : Fin 16) : Bool := s.flag (hostBase m) HR_KP4_STATUS_CW_LOCK

/-- The slots of a host lane on a line lane carry fill (Table 2-6, R35). -/
def State.slotFills (s : State) (n : Fin 8) (m : Fin 16) : Bool :=
  let k := s.line[n].link
  !s.flag (hostBase m) HR_STATUS_LOCKED || !s.flag (hostBase m) HR_KP4_STATUS_CW_LOCK ||
    k.outOfRange.contains (some m) || k.profileFill || k.groupFill || k.deskewTx || k.pairFill

/-- The start of a direction's fill episode: it stands while the direction fills (R39). -/
def fillStart (now : Nat) (fills : Bool) (since : Option Nat) : Option Nat :=
  if fills then some (since.getD now) else none

/-- Brings the fill episodes of a lane, and its FILL squelch cause, up to what the lane's state says. -/
def State.refreshFill (s : State) (n : Fin 8) : State :=
  let rx := s.rxFills n
  let hs := s.hostsOf n
  let f0 := (hs[0]?.map (s.slotFills n)).getD false
  let f1 := (hs[1]?.map (s.slotFills n)).getD false
  let all := hs.all (s.slotFills n)
  let s := s.modLinkOf n fun k =>
    { k with fillRx := fillStart s.tick rx k.fillRx, fillTx0 := fillStart s.tick f0 k.fillTx0,
             fillTx1 := fillStart s.tick f1 k.fillTx1 }
  s.setCause n 0 (s.flag (lineBase n) TX_CTRL_SQ_ON_FILL && all)

/-! ### Alignment of a group (R41 to R44) -/

/-- The skew in ps that a direction of a group absorbs: 180 ns between line lanes, 64 ns between host lanes
(R41, R42). -/
def deskewBudget (host : Bool) : Nat := if host then 64000 else 180000

/-- A group starts to align: fill, and UNSETTLED (R44, Table 2-6). -/
def State.realign (s : State) (n : Fin 8) : State :=
  s.each (s.groupOf n) fun k s =>
    ((s.modLinkOf k fun l => { l with groupFill := true }).unsettleAll k).refreshFill k

/-- A lane of a group has locked, with this skew in ps against the group's alignment point: within the budget it
joins at the held point, else the whole group realigns; without a held point the group aligns (R44).  DESIGN CHOICE
(log 110): a lane that locks while the group aligns takes part in that alignment. -/
def State.joinGroup (s : State) (n : Fin 8) (host : Bool) (skew : Nat) : State :=
  let held := if host then s.lanes.alignedTx else s.lanes.aligned
  if (s.groupOf n).length ≤ 1 || s.line[n].link.groupFill then s
  else if held.contains (s.groupLead n).val && decide (skew ≤ deskewBudget host) then s
  else s.realign n

/-! ### Loss of lock -/

/-- A stream of a lane is no longer out of range, or no longer judged; with the last one the level source
turns quiet (R28). -/
def State.followEnd (s : State) (n : Fin 8) (stream : Option (Fin 16)) : State :=
  if s.line[n].link.outOfRange.contains stream then
    let s := s.modLinkOf n fun k => { k with outOfRange := k.outOfRange.filter (· != stream) }
    if s.line[n].link.outOfRange = [] then s.quiet (lineSrc n 0x22) else s
  else s

/-- CW_LOCK of the LR monitors of a lane follows IN_FRAME (R124); at lock the monitor takes TERMINATE (R128). -/
def State.lrFollow (s : State) (n : Fin 8) (inFrame : Bool) : State :=
  s.each (s.hostsOf n) fun m s =>
    let b := hostBase m
    let was := s.flag b LR_KP4_STATUS_CW_LOCK
    (s.setFlag b LR_KP4_STATUS_CW_LOCK inFrame).when (inFrame && !was) fun s =>
      (s.bump b LR_KP4_STATUS_LOCK_COUNT).modHost m fun h =>
        { h with termLr := s.flag b LR_KP4_CTRL_TERMINATE }

/-- A group whose last lane loses lock gives up its alignment point (R44). -/
def State.dropAlignment (s : State) (n : Fin 8) : State :=
  if (s.groupOf n).any fun k => s.locked k then s
  else { s with lanes := { s.lanes with aligned := s.lanes.aligned.filter (· != (s.groupLead n).val) } }

/-- IN_FRAME is lost: BER_VALID, LOW_COUNT and BER_EST fall to 0 with it, and the windows start afresh (R118,
R132). -/
def State.frameDown (s : State) (n : Fin 8) : State :=
  let b := lineBase n
  let s := s.setFlag b FEC_STATUS_IN_FRAME false
  let s := (s.setFlag b FEC_STATUS_BER_VALID false).setFlag b FEC_STATUS_LOW_COUNT false
  let s := s.setReg (b + BER_EST_EXP.off) 0
  let s := s.modRx n fun r => { r with
    intCw := 0, intBits := 0, berRun := [], markerHist := [], winSeen := 0, winBad := 0, badWindows := 0 }
  s.lrFollow n false

/-- A lane leaves LOCKED (R103, R118, R92, R106, R107, R132, R50). -/
def State.loseLock (s : State) (n : Fin 8) : State :=
  if s.locked n then
    let b := lineBase n
    let s := (s.setFlag b EQ_STATUS_LOCKED false).frameDown n
    let s := (s.setFld b SNR_STAT_SNR 0).setReg (b + EYE_STAT_EYE_MID.off) 0
    let s := if s.nlcInUse n then s.fadeStop n nlcRegs else s
    (((s.unsettle n 0).dropAlignment n).followEnd n none).refreshFill n
  else s

/-! ### ADC -/

def ticks10s : Nat := 10 * ticksPerSecond

/-- A slice register field of slice `k`. -/
def State.sliceFld (s : State) (n : Fin 8) (f : Field) (k : Nat) : Nat := s.fld (lineBase n) (f.ix k)

/-- POSITION of a slice: 0–15 active, 16 spare, 31 retired (Table 3-14). -/
def State.slicePos (s : State) (n : Fin 8) (k : Nat) : Nat := s.sliceFld n SLICE_A_POSITION k

def State.setSlice (s : State) (n : Fin 8) (k pos st : Nat) : State :=
  (s.setFld (lineBase n) (SLICE_A_POSITION.ix k) pos).setFld (lineBase n) (SLICE_A_STATE.ix k) st

def allSlices : List Nat := List.range 17

/-- The slice in a position, if one holds it. -/
def State.sliceAt (s : State) (n : Fin 8) (p : Nat) : Option Nat :=
  allSlices.find? fun k => s.slicePos n k == p

/-- The spare, if the lane has one. -/
def State.spare (s : State) (n : Fin 8) : Option Nat :=
  let k := s.fld (lineBase n) ADC_STATUS_SPARE_SLICE
  if k < 17 then some k else none

def State.spareState (s : State) (n : Fin 8) : Nat := s.fld (lineBase n) ADC_STATUS_SPARE_STATE

/-- SPARE_STATE and the STATE field of the spare's register: 1 CAL, 2 TRAIN, 3 READY, 4 PARKED (R64). -/
def State.setSpareState (s : State) (n : Fin 8) (st : Nat) : State :=
  match s.spare n with
  | some k => (s.setFld (lineBase n) ADC_STATUS_SPARE_STATE st).setFld (lineBase n) (SLICE_A_STATE.ix k) st
  | none => s

/-- READY, or PARKED with LP_SPARE = 1 (R64). -/
def State.restState (s : State) (n : Fin 8) : Nat := if s.flag (lineBase n) ADC_CTRL_LP_SPARE then 4 else 3

/-- The age of a slice's last ramp measurement orders the rotation: never measured is oldest, then the
earliest tick (R65 step 1). -/
def olderRamp (a b : Option Nat) : Bool :=
  match a, b with
  | none, some _ => true
  | some x, some y => decide (x < y)
  | _, none => false

/-- The slice in service with the oldest measurement, ties to the lowest number. -/
def oldestSlice (ramp : Nat → Option Nat) : List Nat → Option Nat
  | [] => none
  | k :: ks =>
    match oldestSlice ramp ks with
    | none => some k
    | some j => if olderRamp (ramp j) (ramp k) then some j else some k

def AdcState.ramp (a : AdcState) (k : Nat) : Option Nat := (a.lastRamp[k]?).getD none

/-- The position a rotation step targets (R65 step 1, R70): the planned substitution first. -/
def State.rotationTarget (s : State) (n : Fin 8) : Option Nat :=
  let a := s.line[n].adc
  let active := allSlices.filter fun k => decide (s.slicePos n k < 16) && s.sliceFld n SLICE_A_STATE k == 0
  match a.planned with
  | some p => if s.slicePos n p.slice < 16 then some (s.slicePos n p.slice) else none
  | none => (oldestSlice a.ramp active).map (s.slicePos n ·)

/-- TRAIN_POS names the target of the step in progress or of the next one (Table 3-12). -/
def State.refreshTrainPos (s : State) (n : Fin 8) : State :=
  let t := match s.line[n].adc.training with
    | some p => some p
    | none => s.rotationTarget n
  match t with
  | some p => s.setFld (lineBase n) ADC_STATUS_TRAIN_POS p
  | none => s

/-- BRIDGED and BRIDGED_POS, the lowest of the bridged positions (Table 3-12). -/
def State.refreshBridged (s : State) (n : Fin 8) : State :=
  let l := s.line[n].adc.bridged.map (·.1)
  let s := s.setFlag (lineBase n) ADC_STATUS_BRIDGED (!l.isEmpty)
  match l.min? with
  | some p => s.setFld (lineBase n) ADC_STATUS_BRIDGED_POS p
  | none => s

/-- The start values of a slice at a site reading, between its factory sets (R63 step 2, R403). -/
def startTerms (n : Fin 8) (temp k : Nat) : SliceTerms :=
  let v := fun (t : Nat) => setAt (Config.sliceSet n.val k t) temp
  { offset := v 0, gain := v 1, skew := v 2, bw := v 3, trim := satInt 8 (quantise (v 4)) }

/-- The assignment after a device reset: slices 0–15 in positions 0–15, slice 16 the spare in CAL
(R63 step 1). -/
def State.assignSlices (s : State) (n : Fin 8) : State :=
  let s := s.each (List.range 16) fun k s => s.setSlice n k k 0
  let s := s.setSlice n 16 16 1
  let b := lineBase n
  let s := ((s.setFld b ADC_STATUS_SPARE_SLICE 16).setFld b ADC_STATUS_SPARE_STATE 1).setFlag b
    ADC_STATUS_SPARE_NONE false
  let s := s.modAdc n fun a =>
    { a with assigned := true, bridged := [], urgent := none, urgentTraining := false, planned := none,
             training := none }
  s.refreshBridged n

/-- The slices that an ADC start powers up and counts: those neither retired nor, in a bridged position, failing (R63,
R71). -/
def State.startSlices (s : State) (n : Fin 8) : List Nat :=
  allSlices.filter fun k => s.slicePos n k != 31 && !(s.line[n].adc.bridged.map Prod.snd).contains k

/-- The oldest table of the slices in service and the spare is less than 10 s old (R63 step 3). -/
def State.tablesFresh (s : State) (n : Fin 8) : Bool :=
  (s.startSlices n).all fun k => match s.line[n].adc.ramp k with
    | some t => decide (s.tick < t + ticks10s)
    | none => false

/-- Step 4 of the ADC start begins: the spare at rest, or in training for the bridged position that waits for it (R63,
R71). -/
def State.adcEstimate (s : State) (n : Fin 8) : State :=
  let s := s.modAdc n fun a => { a with step := 4, urgentTraining := a.urgent.isSome && (s.spare n).isSome }
  (if s.line[n].adc.urgentTraining then s.setSpareState n 2 else s.setSpareState n (s.restState n)).refreshTrainPos n

/-- The ADC start (R63): assignment, start values, and then step 3, the ramp measurement of every slice at once, unless
every table of the slices in service and the spare is less than 10 s old.  Steps 1 and 2 of Table 3-4 have no command of
their own and are part of the start; step 3 ends with SPARE_CAL_DONE (log 12). -/
def State.adcStart (s : State) (n : Fin 8) : State :=
  let b := lineBase n
  let s := if s.line[n].adc.assigned then s else s.assignSlices n
  let used := s.startSlices n
  let fresh := s.tablesFresh n
  let temp := s.fld thermBase (THERM_SITE_TEMP.ix (n.val / 2))
  let s := s.modAdc n fun a => { a with
    step := 3, training := none, urgentTraining := false, urgentCal := false,
    checkErr := Vector.replicate 17 0, flags := Vector.replicate 17 [],
    terms := Vector.ofFn fun k => if used.contains k.val then startTerms n temp k.val else a.terms[k] }
  let s := (s.setFlag b ADC_STATUS_CONVERGED false).setFld b ADC_STATUS_ROT_COUNT 0
  let s := s.setFld b ADC_QUAL_ROT_ABORT 0
  if fresh then s.adcEstimate n else (s.setSpareState n 1).refreshTrainPos n

/-- The ADC stops with its lane (R68, R71): a step in progress is abandoned, a bridged position stays. -/
def State.adcStop (s : State) (n : Fin 8) : State :=
  (s.modAdc n fun a => { a with step := 0, training := none, urgentTraining := false, urgentCal := false }).refreshTrainPos n

/-! ### Rotator (R86) -/

/-- Rotator phase in units of 1/256 symbol period: the frequency word is added at every line datapath clock of 256
symbols, 128 in 200G, while the lane's clocks run; the clock makes 17 periods, 17/2 in 200G, in 15 core ticks (R86). -/
def State.rotPhase (s : State) (n : Fin 8) : Rat :=
  let r := s.line[n].rx
  if r.clocksStopped then r.rotPhase
  else
    let symbols : Rat := ((s.tick - r.phaseTick : Nat) : Rat) * 17 / 15 * 256 / (if s.line200 then 2 else 1)
    r.rotPhase + symbols * 256 * r.freqWord * 4 / 1000000000

/-- ROT_PHASE (Table 4-9): the phase modulo 2^16 on its grid (log 6). -/
def State.rotField (s : State) (n : Fin 8) : Nat := intBits 16 (quantise (s.rotPhase n))

/-- The phase counts from now on: it keeps its value. -/
def State.rotHold (s : State) (n : Fin 8) : State :=
  let p := s.rotPhase n
  s.modRx n fun r => { r with rotPhase := p, phaseTick := s.tick }

/-! ### Acquisition -/

def State.acqState (s : State) (n : Fin 8) : Nat := s.fld (lineBase n) EQ_STATUS_ACQ_STATE

/-- ACQ_STATE advances; the highest of 1 to 7 since signal present is kept (R102).  A fall to 0 or 1 ends
a reception by direct sampling (R415). -/
def State.setAcqState (s : State) (n : Fin 8) (v : Nat) : State :=
  let s := s.when (decide (v < 2)) fun s => s.tamidAcqFall n
  (s.setFld (lineBase n) EQ_STATUS_ACQ_STATE v).modRx n fun r =>
    { r with highest := if v ≤ 7 ∧ r.highest < v then v else r.highest }

/-- A start of the owning lane restores a datapath bank that has lost its retention (R320). -/
def State.bankRestored (s : State) (b : Nat) : State := s.setFlag memProtBase (retLostBit b) false

/-- A full acquisition of a lane starts at step 1 (R101), once the synthesiser of its half is locked
(R211) and no deep test holds the lane (R454). -/
def State.acqStart (s : State) (n : Fin 8) : State :=
  let s := s.loseLock n
  if s.synLocked (lineSyn n) && !s.deepHolds (domLineRx n) then
    let s := (s.rotHold n).modRx n fun r =>
      { r with trigger := s.tick, startDue := false, clocksStopped := false, relockStep := 0, fastFfe := false }
    let s := s.setFld (lineBase n) FEC_STATUS_FRAME_SEARCHES 0
    let s := (s.adcStart n).setAcqState n 1
    (s.unsettle n 0).bankRestored (243 + n.val)
  else s.modRx n fun r => { r with startDue := true }

/-- A write of 1 to REACQ, or a REACQ reaction: no effect on a lane in IDLE (R101). -/
def State.lineReacq (s : State) (n : Fin 8) : State := if s.acqState n = 0 then s else s.acqStart n

/-- A fast re-lock starts (R104, Table 4-7). -/
def State.fastRelock (s : State) (n : Fin 8) : State :=
  let s := (s.rotHold n).modRx n fun r =>
    { r with trigger := s.tick, relockStep := 1, clocksStopped := false, fastFfe := true }
  (s.setAcqState n 8).unsettle n 0

/-- The lane's clocks stop: it leaves LOCKED and raises nothing (R103). -/
def State.lineClocksStop (s : State) (n : Fin 8) : State :=
  if s.acqState n = 0 then s
  else ((s.loseLock n).rotHold n).modRx n fun r => { r with clocksStopped := true }

/-- The lane's clocks return: a fast re-lock if they stood for at most 100 ms, else a full acquisition
(R104, R228). -/
def State.lineClocksReturn (s : State) (n : Fin 8) (within100ms : Bool) : State :=
  if s.line[n].rx.startDue then s.acqStart n
  else if s.line[n].rx.clocksStopped then
    let s := s.rotHold n
    if s.flag (lineBase n) EQ_STATUS_LOS then s.modRx n fun r => { r with clocksStopped := false }
    else if within100ms then s.fastRelock n
    else s.acqStart n
  else s

/-- Loss of lock with the signal present: LOL is raised and the fast re-lock starts (R103, R104). -/
def State.lol (s : State) (n : Fin 8) (detail : Nat) : State :=
  ((s.raise (lineSrc n 0x41) detail).loseLock n).fastRelock n

end Sys2Proof.Machine
end

