-- ==== Sys2Proof/Machine/HostOps.lean ====
section
/-! DEFINITION. The operations that several chapters share on a host lane: votes, squelch causes, the
transmitter's way out of IDLE, training, loss of lock, and the start of an acquisition. -/

namespace Sys2Proof.Machine

open Reg

/-- PAT_SEL as it acts: 5 to 7 as 0 (R159). -/
def patSel (v : Nat) : Nat := if v ≤ 4 then v else 0

/-- A checker runs on a host lane (R204). -/
def State.hostChecking (s : State) (m : Fin 16) : Bool :=
  patSel (s.fld (hostBase m) HR_PAT_CTRL_CHK_SEL) != 0

/-- The mode uses a host lane (R32). -/
def State.hostUsed (s : State) (m : Fin 16) : Bool := s.lanes.mode == 1 || decide (m.val < 8)

/-- The receive direction sleeps: HR_SLEEP acts outside a loop-back (R201, R460). -/
def State.hrAsleep (s : State) (m : Fin 16) : Bool :=
  s.flag (hostBase m) HR_CTRL_HR_SLEEP && s.hostLoop m == 0

/-- The transmit direction sleeps. -/
def State.htAsleep (s : State) (m : Fin 16) : Bool :=
  s.flag (hostBase m) HT_CTRL_HT_SLEEP && s.hostLoop m == 0

/-- HR_STATE: 0 OFF, 1 NO_SIGNAL, 2 TRAINING, 3 CDR, 4 EQ, 5 LOCKED, 6 RELOCK (Table 8-3). -/
def State.hrState (s : State) (m : Fin 16) : Nat := s.fld (hostBase m) HR_STATUS_HR_STATE

def State.hostLocked (s : State) (m : Fin 16) : Bool := s.flag (hostBase m) HR_STATUS_LOCKED

/-- HR_STATE advances; the highest of 1 to 5 since signal present is kept (R196). -/
def State.setHrState (s : State) (m : Fin 16) (v : Nat) : State :=
  (s.setFld (hostBase m) HR_STATUS_HR_STATE v).modHost m fun h =>
    { h with highest := if v ≤ 5 ∧ h.highest < v then v else h.highest }

/-- HT_STATE: 0 OFF, 1 IDLE, 2 TRAIN, 3 LIVE (Table 8-2). -/
def State.htState (s : State) (m : Fin 16) : Nat := s.fld (hostBase m) HT_STATUS_HT_STATE

def State.setHtState (s : State) (m : Fin 16) (v : Nat) : State :=
  s.setFld (hostBase m) HT_STATUS_HT_STATE v

/-- The lane manager's votes follow HR_EN, HT_EN and the sleep bits (Table 14-2, R32); a loop-back holds
them (R460). -/
def State.hostVotes (s : State) (m : Fin 16) : State :=
  let b := hostBase m
  let loop := s.hostLoop m != 0
  let rx := s.hostUsed m && ((s.flag b HR_CTRL_HR_EN && !s.hrAsleep m) || loop)
  let tx := s.hostUsed m && ((s.flag b HT_CTRL_HT_EN && !s.htAsleep m) || loop)
  let v := voteHostLm m
  ((s.putVote (domRoom (hostRoom m)) v (rx || tx)).putVote (domHostRx m) v rx).putVote (domHostTx m) v tx

/-- TRAIN_STATE: 0 IDLE, 1 RUNNING, 2 DONE, 3 FAILED, 4 ABANDONED (Table 8-11). -/
def State.trainState (s : State) (m : Fin 16) : Nat := s.fld (hostBase m) TRAIN_STATUS_TRAIN_STATE

/-- Training starts from the beginning: the requester asks tap −1 first (R199, R200). -/
def State.trainBegin (s : State) (m : Fin 16) : State :=
  let s := s.setFld (hostBase m) TRAIN_STATUS_TRAIN_STATE 1
  let s := s.modHost m fun h =>
    { h with reqAsked := false, reqTap := 0, reqJudging := false, reqKept := false, reqCount := 0,
             reqReady := false, answer := .none }
  s.setHtState m 2

/-- Training in progress ends ABANDONED (R200). -/
def State.trainAbandon (s : State) (m : Fin 16) : State :=
  if s.trainState m = 1 then s.setFld (hostBase m) TRAIN_STATUS_TRAIN_STATE 4 else s

/-- A transmitter leaves IDLE: to TRAIN when it has to train, else to LIVE; a squelch cause, a fall, a
stopped synthesiser or a deep test holds it (R190, R211, R454). -/
def State.htLeaveIdle (s : State) (m : Fin 16) : State :=
  let b := hostBase m
  if s.htState m = 1 ∧ s.fld b HT_STATUS_SQ_CAUSE = 0 ∧ s.flag b HT_CTRL_HT_EN ∧
      ¬ s.htAsleep m ∧ ¬ s.host[m].falling ∧ ¬ s.deepHolds (domHostTx m) then
    if s.flag b TRAIN_CTRL_TRAIN_MODE && !s.host[m].trained then s.trainBegin m else s.setHtState m 3
  else s

/-- An enabled transmitter starts: OFF to IDLE and on, once its domain is on and its synthesiser locked;
a fall in progress ends (R190, R211). -/
def State.htStart (s : State) (m : Fin 16) : State :=
  let b := hostBase m
  if s.hostUsed m && s.flag b HT_CTRL_HT_EN && !s.htAsleep m && s.domOn (domHostTx m) &&
      s.synLocked (hostSyn m) && !s.fuse.safe then
    let s := s.modHost m fun h => { h with falling := false, takenDown := false }
    let s := if s.htState m = 0 then (s.setHtState m 1).modHost m fun h => { h with precoderP := 0 } else s
    s.htLeaveIdle m
  else s

/-- The transmitter goes to IDLE and on towards OFF (R190, R201, R353). -/
def State.htFall (s : State) (m : Fin 16) : State :=
  if s.htState m = 0 then s
  else ((s.trainAbandon m).setHtState m 1).modHost m fun h => { h with falling := true }

/-- Sets or clears a squelch cause of a host transmitter (R190): 2 SAFE, 1 FAULT, 0 HOST. -/
def State.setHostCause (s : State) (m : Fin 16) (bit : Nat) (on : Bool) : State :=
  let b := hostBase m
  let old := s.fld b HT_STATUS_SQ_CAUSE
  let new := if on then old ||| 2 ^ bit else old - (old &&& 2 ^ bit)
  let s := s.setFld b HT_STATUS_SQ_CAUSE new
  let st := s.htState m
  if new ≠ 0 ∧ (st = 2 ∨ st = 3) then (s.trainAbandon m).setHtState m 1
  else if new = 0 ∧ old ≠ 0 then s.htLeaveIdle m
  else s

/-- The fill of the line lane that a host lane is mapped to. -/
def State.refreshHostFill (s : State) (m : Fin 16) : State :=
  match s.lineOf m with
  | some n => s.refreshFill n
  | none => s

/-- A Mode B pair of which neither host lane holds codeword lock gives its alignment up (R34; DESIGN CHOICE, log 110:
the spec says when a pair aligns and not when it ceases to be aligned). -/
def State.pairRelease (s : State) (m : Fin 16) : State :=
  match s.lineOf m with
  | some n => if (s.hostsOf n).any s.cwLocked then s else s.modLinkOf n fun k => { k with pairAligned := false }
  | none => s

/-- KP4 codeword lock of the HR monitor is lost without a raise of its own (R124). -/
def State.dropCwLock (s : State) (m : Fin 16) : State :=
  let s := s.setFlag (hostBase m) HR_KP4_STATUS_CW_LOCK false
  let s := s.modHost m fun h => { h with hr := { h.hr with run := 0 } }
  (s.pairRelease m).refreshHostFill m

/-- A group whose last host lane leaves lock gives up the alignment point of its transmit direction (R42, R44). -/
def State.dropHostAlignment (s : State) (m : Fin 16) : State :=
  match s.lineOf m with
  | some n =>
    if (s.groupOf n).any fun k => (s.hostsOf k).any s.hostLocked then s
    else { s with lanes := { s.lanes with alignedTx := s.lanes.alignedTx.filter (· != (s.groupLead n).val) } }
  | none => s

/-- A host lane has locked, with this skew in ps against its group's transmit alignment (R42, R44). -/
def State.joinHostGroup (s : State) (m : Fin 16) (skew : Nat) : State :=
  match s.lineOf m with
  | some n => s.joinGroup n true skew
  | none => s

/-- A host receiver leaves LOCKED; a training in progress ends ABANDONED (R197, R124, R198, R50, Table 8-8). -/
def State.hostLoseLock (s : State) (m : Fin 16) : State :=
  if s.hostLocked m then
    let b := hostBase m
    let s := s.setFlag b HR_STATUS_LOCKED false
    let s := s.setReg (b + HR_QUAL_SNR.off) 0
    let s := s.modHost m fun h => { h with errRun := 0, retained := some s.tick }
    let s := match s.lineOf m with
      | some n => s.followEnd n (some m)
      | none => s
    (((s.trainAbandon m).unsettleHost m).dropHostAlignment m).dropCwLock m
  else s

/-- The line→host stream of a lane goes out at a host transmitter: LIVE, without a pattern or a
loop-back (R203, R204). -/
def State.hostReceives (s : State) (m : Fin 16) : Bool :=
  s.htState m == 3 && patSel (s.fld (hostBase m) HT_PAT_HPAT_SEL) == 0 && s.hostLoop m == 0

/-- NO_PATH of the ledger of a path of a line lane (Table 2-9, R134, R157, R203, R204, R461): 0 is
LEDGER_RX, 1 LEDGER_TX0, 2 LEDGER_TX1. -/
def State.noPath (s : State) (n : Fin 8) (which : Nat) : Bool :=
  let loop := s.lineLoop n
  if which = 0 then
    s.rxFills n || loop == 1 || loop == 2 || !(s.hostsOf n).any fun m => s.hostReceives m
  else
    match (s.hostsOf n)[which - 1]? with
    | none => true
    | some m =>
      s.slotFills n m || !(s.txState n == 4 || s.txState n == 5) || loop == 3 || loop == 4 ||
        patSel (s.fld (lineBase n) TX_PAT_PAT_SEL) != 0 || s.hostLoop m == 1 || s.hostLoop m == 2

def ledgerNoPath (which : Nat) : Field :=
  if which = 0 then LEDGER_RX_NO_PATH else if which = 1 then LEDGER_TX0_NO_PATH else LEDGER_TX1_NO_PATH

/-- A ledger register as it reads: the stored word with NO_PATH of this moment. -/
def State.ledgerWord (s : State) (n : Fin 8) (which : Nat) : Word :=
  let f := ledgerNoPath which
  wordSetField (s.reg (lineBase n + f.off)) f.lo f.width (if s.noPath n which then 1 else 0)

/-- After signal present: training first where the lane must train, else step 3 (Table 8-4). -/
def State.hostAfterSignal (s : State) (m : Fin 16) : State :=
  let b := hostBase m
  let ts := s.trainState m
  if s.flag b TRAIN_CTRL_TRAIN_MODE && !(ts == 2 || ts == 3) then
    let s := s.setHrState m 2
    let st := s.htState m
    if ts ≠ 1 ∧ (st = 1 ∨ st = 2) ∧ s.fld b HT_STATUS_SQ_CAUSE = 0 then s.trainBegin m else s
  else (s.setHrState m 3).modHost m fun h => { h with acqStep := 3 }

/-- The converter's start values at a site reading, between its factory sets (Table 8-4 step 1, R403). -/
def State.hostAdcLoad (s : State) (m : Fin 16) : State :=
  let temp := s.fld thermBase (THERM_SITE_TEMP.ix (m.val / 4))
  s.modHost m fun h => { h with
    adcOffset := setAt (Config.hostAdcSet m.val 0) temp, adcGain := setAt (Config.hostAdcSet m.val 1) temp }

/-- A full acquisition of a host receiver starts at step 1 (R195), once it is enabled, its domain is on
and its synthesiser is locked. -/
def State.hostAcqStart (s : State) (m : Fin 16) : State :=
  let b := hostBase m
  if s.hostUsed m && s.flag b HR_CTRL_HR_EN && !s.hrAsleep m && s.domOn (domHostRx m) then
    let s := s.hostLoseLock m
    if s.synLocked (hostSyn m) && !s.deepHolds (domHostRx m) then
      let s := s.modHost m fun h =>
        { h with trigger := s.tick, acqStep := 0, clocksStopped := false, startDue := false }
      let s := (((s.hostAdcLoad m).setHrState m 1).unsettleHost m).bankRestored (259 + m.val / 4)
      if s.host[m].signal && !s.flag b HR_STATUS_LOS then s.hostAfterSignal m else s
    else s.modHost m fun h => { h with startDue := true }
  else s

/-- A write of 1 to REACQ, or a REACQ reaction. -/
def State.hostReacq (s : State) (m : Fin 16) : State := if s.hrState m = 0 then s else s.hostAcqStart m

/-- A fast re-lock starts: step 5 of Table 8-4 from the retained state (R197). -/
def State.hostRelock (s : State) (m : Fin 16) : State :=
  let s := s.modHost m fun h => { h with trigger := s.tick, acqStep := 0, clocksStopped := false }
  (s.setHrState m 6).unsettleHost m

/-- Loss of lock with the signal present (R197). -/
def State.hostLol (s : State) (m : Fin 16) (detail : Nat) : State :=
  ((s.raise (hostSrc m 0x41) detail).hostLoseLock m).hostRelock m

/-- The clocks of a host lane stop: the receiver leaves LOCKED (R197).  DESIGN CHOICE (log 128): HR_STATE goes to
NO_SIGNAL, since no state of Table 8-3 names a receiver without clocks. -/
def State.hostClocksStop (s : State) (m : Fin 16) : State :=
  if s.hrState m = 0 then s
  else ((s.hostLoseLock m).setHrState m 1).modHost m fun h => { h with clocksStopped := true, acqStep := 0 }

/-- The clocks of a host lane return (R197, R228). -/
def State.hostClocksReturn (s : State) (m : Fin 16) (within100ms : Bool) : State :=
  if s.host[m].startDue then s.hostAcqStart m
  else if s.host[m].clocksStopped then
    if s.flag (hostBase m) HR_STATUS_LOS then s.modHost m fun h => { h with clocksStopped := false }
    else if within100ms then s.hostRelock m
    else s.hostAcqStart m
  else s

/-- The receiver stops: HR_EN = 0, sleep, or its domain going off (R195, R201). -/
def State.hostRxStop (s : State) (m : Fin 16) : State :=
  let s := s.hostLoseLock m
  let s := s.modHost m fun h => { h with acqStep := 0, startDue := false, clocksStopped := false, signal := false }
  ((s.setHrState m 0).setFlag (hostBase m) HR_STATUS_LOS false).quiet (hostSrc m 0x40)

/-- The CTLE setting that a search keeps: the one with the lowest residual, ties to the lower setting (R101, R195). -/
def bestSetting (residuals : List Rat) : Nat :=
  (List.range residuals.length).foldl (fun (best : Nat) k =>
    if residuals.getD k 0 < residuals.getD best 0 then k else best) 0

/-- Core ticks for which the receive state of a sleeping receiver is good for a fast re-lock (R202). -/
def hostRetainTicks : Nat := 10 * ticksPerSecond

/-- A woken receiver starts with a fast re-lock when its retained state is less than 10 s old, else with a
full acquisition (R202). -/
def State.hostResume (s : State) (m : Fin 16) : State :=
  let b := hostBase m
  let fresh := match s.host[m].retained with
    | some t => decide (s.tick < t + hostRetainTicks)
    | none => false
  if s.hostUsed m && s.flag b HR_CTRL_HR_EN && !s.hrAsleep m && s.domOn (domHostRx m) &&
      s.synLocked (hostSyn m) && !s.deepHolds (domHostRx m) && fresh then s.hostRelock m
  else s.hostAcqStart m

end Sys2Proof.Machine
end

