-- ==== Sys2Proof/Machine/React.lean ====
section
/-! DEFINITION. The reactions that follow a raise: squelch causes, REACQ, and the entry to safe state
(R334, R343).  Raises put them in `fuse.due`; a command that can raise ends by carrying them out. -/

namespace Sys2Proof.Machine

open Reg

/-- Some active entry holds SQUELCH for a source of this group (R340). -/
def State.squelchHeld (s : State) (group : Nat) : Bool :=
  s.fuse.active.any fun e => e.squelch && e.src / 256 == group

/-- The FAULT cause of a line transmitter follows the active set and the fixed squelch of R227. -/
def State.reactLine (s : State) (n : Fin 8) : State :=
  s.setCause n 2 (s.squelchHeld (0x10 + n.val) || s.clock.sqLine.contains n)

/-- The FAULT cause of a host transmitter. -/
def State.reactHost (s : State) (m : Fin 16) : State :=
  s.setHostCause m 1 (s.squelchHeld (0x20 + m.val) || s.clock.sqHost.contains m)

/-- Step 2 of Table 13-6: a transmitter in CAL goes to OFF, one in CM_RAMP becomes balanced. -/
def State.safeLine (s : State) (n : Fin 8) : State :=
  let st := s.txState n
  let s := if st = 1 then s.setTxState n 0
    else if st = 2 then (s.setTxState n 3).modTx n fun t => { t with heldFromCm := true, falling := false }
    else s
  s.setCause n 3 true

/-- Step 3 of Table 13-6. -/
def State.safeHost (s : State) (m : Fin 16) : State := (s.trainAbandon m).setHostCause m 2 true

/-- Steps 2 to 6 of Table 13-6. -/
def State.safeEntry (s : State) : State :=
  let s := s.bistCut
  let s := s.each allLines fun n s => s.safeLine n
  let s := s.each allHosts fun m s => s.safeHost m
  let s := s.each allCdacs fun c s => s.cdSafe c
  s.each allLines fun i s => s.tamidCut i

/-- Both controllers run again from here: their watchdogs start anew (R293). -/
def State.watchdogsStart (s : State) : State := { s with boot := { s.boot with wdA := s.tick, wdB := s.tick } }

/-- Core ticks in 100 ms. -/
def ticks100ms : Nat := ticksPerSecond / 10

/-- DOZE ends: the clocks run again and the receivers recover (R358). -/
def State.dozeExit (s : State) : State :=
  if s.fld powerBase PWR_STATE_STATE = 1 then
    let near := decide (s.tick ≤ s.power.dozeSince + ticks100ms)
    let s := (s.setFld powerBase PWR_STATE_STATE 0).watchdogsStart
    let s := s.each allLines fun n s =>
      if s.synLocked (lineSyn n) then s.lineClocksReturn n near else s
    s.each allHosts fun m s => if s.synLocked (hostSyn m) then s.hostClocksReturn m near else s
  else s

/-- Carries out one reaction. -/
def State.reactOne (s : State) : Due → State
  | .lineCause n => s.reactLine n
  | .hostCause m => s.reactHost m
  | .lineReacq n => s.lineReacq n
  | .hostReacq m => s.hostReacq m
  | .safe => s.safeEntry
  | .doze => s.dozeExit

/-- Carries out the reactions due; those that they raise in turn wait for the next round. -/
def State.reactRound (s : State) : State :=
  s.fuse.due.foldl State.reactOne { s with fuse := { s.fuse with due := [] } }

/-- Rounds of reactions until none is due. -/
def State.reactRounds : Nat → State → State
  | 0, s => s
  | k + 1, s => if s.fuse.due = [] then s else State.reactRounds k s.reactRound

/-- Nothing is due between commands. -/
def State.settleDue (s : State) : State := { s with fuse := { s.fuse with due := [] } }

/-- Carries out every reaction due, and the reactions of the raises they make. -/
def State.react (s : State) : State := (State.reactRounds 8 s).settleDue

/-- A command's effect, with the reactions of the raises it made. -/
abbrev done (s : State) : Result State Fault Refusal := .next s.react

/-- A command that does not apply: nothing changes. -/
abbrev unchanged (s : State) : Result State Fault Refusal := .next s

end Sys2Proof.Machine
end

