-- ==== Sys2Proof/Machine/EngineOps.lean ====
section
/-! DEFINITION. The engine rooms (chapter 10): the engines and their memories, the tasks and the spares,
checkpoints, faults and takeovers. -/

namespace Sys2Proof.Machine

open Reg

/-! ### Engines and their memories -/

/-- Every architectural register 0 (R233). -/
def Engine.zero : Engine :=
  { d := Vector.replicate 8 0, a := Vector.replicate 4 0, b := Vector.replicate 4 0, l := Vector.replicate 4 0,
    o := Vector.replicate 4 0, acc := Vector.replicate 2 0, fp := Vector.replicate 2 0, pc := 0, stack := [],
    stat := 0, evmask := 0, evpend := 0, timer := 0, timerAt := 0, reload := 0, ckwBase := 0, ckwLen := 0,
    wdog := 0, hbtAt := 0, inFlight := [], maskNext := none, accSeen := Vector.replicate 2 0, satSeen := false,
    slots := none, rep := none, block := none, frame := none, waiting := none, stalled := false,
    stopped := false, shadow := [], published := [] }

def engineDefault : Nat → Engine := fun _ => Engine.zero

/-- The number of an engine among the 1,024. -/
def engineKey (r : Fin 16) (e : Nat) : Nat := 64 * r.val + e

def State.engine (s : State) (r : Fin 16) (e : Nat) : Engine :=
  Sparse.get engineDefault s.rooms.engines (engineKey r e)

def State.setEngine (s : State) (r : Fin 16) (e : Nat) (x : Engine) : State :=
  { s with rooms := { s.rooms with engines := Sparse.set engineDefault s.rooms.engines (engineKey r e) x } }

def State.modEngine (s : State) (r : Fin 16) (e : Nat) (f : Engine → Engine) : State :=
  s.setEngine r e (f (s.engine r e))

def State.modRoom (s : State) (r : Fin 16) (f : Room → Room) : State :=
  { s with rooms := { s.rooms with rooms := s.rooms.rooms.set r (f s.rooms.rooms[r]) } }

def State.guest (s : State) (t : Nat) : Guest := (s.rooms.guests[t]?).getD Guest.empty

def State.modGuest (s : State) (t : Nat) (f : Guest → Guest) : State :=
  { s with rooms := { s.rooms with guests := s.rooms.guests.setIfInBounds t (f (s.guest t)) } }

def roomSrc (r : Fin 16) (i : Nat) : Nat := (0x30 + r.val) * 256 + i

/-- Where an engine sits on the Hallway (R234). -/
def engineBase (r : Fin 16) (e : Nat) : Nat := 0x04000000 + r.val * 0xC0000 + e * 0x3000

/-- A word of program memory. -/
def State.programWord (s : State) (r : Fin 16) (e : Nat) (pc : BitVec 10) : Word :=
  BitVec.ofNat 32 (s.memNat (engineBase r e + 4 * pc.toNat) 4)

/-- A word of data memory. -/
def State.dataWord (s : State) (r : Fin 16) (e : Nat) (a : BitVec 12) : BitVec 16 :=
  BitVec.ofNat 16 (s.memNat (engineBase r e + 0x1000 + 2 * a.toNat) 2)

def State.setDataWord (s : State) (r : Fin 16) (e : Nat) (a : BitVec 12) (v : BitVec 16) : State :=
  s.setMemNat (engineBase r e + 0x1000 + 2 * a.toNat) 2 v.toNat

/-! ### Tasks -/

/-- The engine that a task runs on (RUN_ON of Table 10-17). -/
def State.runOn (s : State) (r : Fin 16) (t : Nat) : Nat :=
  ((s.rooms.rooms[r].moved.find? fun e => e.1 == t).map (·.2)).getD t

/-- The task that an engine runs. -/
def State.taskOn (s : State) (r : Fin 16) (e : Nat) : Option Nat :=
  (List.range 62).find? fun t => s.runOn r t == e && !s.rooms.rooms[r].lost.contains t

/-- A task has no work in the profile or the mode in force, and its engine is clock-gated (R232): FFE taps
that the profile does not use, and the host lanes that the mode does not use. -/
def State.taskGated (s : State) (r : Fin 16) (t : Nat) : Bool :=
  if r.val < 8 then
    let (first, taps) := tapRange s.profile
    decide (19 ≤ t ∧ t ≤ 50) && (decide (2 * (t - 19) + 1 < first) || decide (first + taps ≤ 2 * (t - 19)))
  else decide (r.val = 12 ∨ r.val = 13) && s.lanes.mode != 1

/-- An engine issues: its clock runs, its room is on and not in safe state, it holds a task that has work,
and that task runs (R232, R254, R258, Table 13-6). -/
def State.issues (s : State) (r : Fin 16) (e : Nat) : Bool :=
  s.clock.running && s.roomRuns r.val && !s.rooms.rooms[r].retired.contains e && !(s.engine r e).stopped &&
    match s.taskOn r e with
    | some t => if r.val = 15 then (s.guest t).st == 2 else s.rooms.mirnis && !s.taskGated r t
    | none => false

/-- EVPEND: event 4 of a guest engine is pending while MBOX_IN holds a word (R259). -/
def State.pendOf (s : State) (r : Fin 16) (e : Nat) : BitVec 16 :=
  let p := (s.engine r e).evpend
  match (if r.val = 15 then s.taskOn r e else none) with
  | some t => if (s.guest t).fromHost.isEmpty then p &&& ~~~0x10 else p ||| 0x10
  | none => p

/-- TIMER as it stands: it counts down every 16 cycles (Table 10-8). -/
def State.timerNow (s : State) (x : Engine) : BitVec 16 :=
  if x.reload = 0 then x.timer else BitVec.ofNat 16 (x.timer.toNat - (s.tick - x.timerAt) / 16)

/-! ### Guests -/

/-- A guest engine traps and goes on, or stops, with a cause of Table 10-14; causes 1 to 5 raise
GUEST_TRAP (R259). -/
def State.guestTrap (s : State) (t cause : Nat) : State :=
  let s := s.modGuest t fun g => { g with cause := cause, st := if 4 ≤ cause then 3 else g.st }
  if cause ≤ 5 then s.raise (roomSrc 15 0x44) (t * 256 + cause)
  else if cause = 8 then s.raise (roomSrc 15 0x43) t
  else s

/-! ### Checkpoints -/

def slotAddr (r : Fin 16) (t slot : Nat) : Nat := 0x00C00000 + r.val * 0x40000 + t * 0x1000 + slot * 0x800

/-- The words of the checkpoint window, lowest first. -/
def State.windowWords (s : State) (r : Fin 16) (e : Nat) (x : Engine) : List (BitVec 16) :=
  (List.range x.ckwLen.toNat).map fun i => s.dataWord r e (BitVec.ofNat 12 (x.ckwBase.toNat + i))

def wordsBytes16 (ws : List (BitVec 16)) : List Byte := ws.flatMap fun w => leBytes 2 w.toNat

/-- The bytes of a slot (Table 10-10).  LOOP, IN_FLIGHT and the place of the depth in RSTACK are of internal
format: `free` holds what they carry. -/
def slotBytes (seq : Nat) (p : Snapshot) (timer : BitVec 16) (free : List Nat) : List Byte :=
  let x := p.engine
  let f := fun i => (free[i]?).getD 0
  let entry := fun i => ((x.stack[i]?).map BitVec.toNat).getD 0 + 1024 * (f 5 / 64 ^ i % 64)
  let body :=
    leBytes 4 seq ++ leBytes 4 p.deviceTime ++
    leBytes 4 (x.pc.toNat * 2 ^ 22 + x.stat.toNat * 2 ^ 18) ++ leBytes 4 (f 0) ++
    wordsBytes16 x.d.toList ++
    ((x.a.toList ++ x.b.toList ++ x.l.toList).flatMap fun v => leBytes 2 v.toNat) ++
    wordsBytes16 x.o.toList ++ (x.acc.toList.flatMap fun v => leBytes 8 (v.signExtend 64).toNat) ++
    (leBytes 4 (f 1) ++ leBytes 4 (f 2) ++ leBytes 4 (f 3) ++ leBytes 4 (f 4)) ++
    (x.fp.toList.flatMap fun v => leBytes 4 v.toNat) ++
    ((List.range 4).flatMap fun i => leBytes 2 (entry i)) ++
    wordsBytes16 [x.evmask, x.evpend, timer, x.reload] ++ wordsBytes16 [x.ckwLen, x.ckwBase]
  let window := wordsBytes16 p.window
  body ++ leBytes 4 (crc32 (body ++ window)) ++ window

/-- A slot is valid when its CRC-32 matches (R253). -/
def State.slotValid (s : State) (r : Fin 16) (t slot : Nat) : Bool :=
  let a := slotAddr r t slot
  let len := s.memNat (a + 0x78) 2
  decide (len ≤ 960) && s.memNat (a + 0x7C) 4 == crc32 (s.bytes a 0x7C ++ s.bytes (a + 0x80) (2 * len))

/-- The valid slot with the later SEQ, compared modulo 2^32 (R253). -/
def State.bestSlot (s : State) (r : Fin 16) (t : Nat) : Option Nat :=
  let q := fun k => s.memNat (slotAddr r t k) 4
  match s.slotValid r t 0, s.slotValid r t 1 with
  | true, true => if (q 0 + 2 ^ 32 - q 1) % 2 ^ 32 < 2 ^ 31 then some 0 else some 1
  | true, false => some 0
  | false, true => some 1
  | false, false => none

/-- Several free values at once. -/
def State.freshMany (s : State) : Nat → List Nat × State
  | 0 => ([], s)
  | k + 1 =>
    let (v, s) := s.fresh
    let (vs, s) := s.freshMany k
    (v.toNat :: vs, s)

/-- The checkpoint writer commits the snapshot of a task into its next slot (R251, R252). -/
def State.commitSlot (s : State) (r : Fin 16) (t : Nat) : State :=
  let key := engineKey r t
  match Sparse.find? s.rooms.taken key with
  | none => s
  | some p =>
    let seq := ((Sparse.find? s.rooms.counts key).getD 0 + 1) % 2 ^ 32
    let slot := seq % 2
    let (free, s) := s.freshMany 6
    let s := s.setBytes (slotAddr r t slot) (slotBytes seq p p.engine.timer free)
    { s with rooms := { s.rooms with
        taken := Sparse.erase s.rooms.taken key,
        counts := Sparse.insert (Sparse.erase s.rooms.counts key) key seq,
        slots := Sparse.insert (Sparse.erase s.rooms.slots (2 * key + slot)) (2 * key + slot) p.engine } }

/-! ### Faults and takeovers -/

/-- The last spare of a room is used or lost (R256, R26). -/
def State.lastSpareGone (s : State) (r : Fin 16) (e : Nat) : State :=
  let rm := s.rooms.rooms[r]
  if rm.free = [] ∧ rm.pending = [] then s.raise (roomSrc r 0x41) e else s

/-- A task is lost: it stops, and its coefficients hold (R256). -/
def State.loseTask (s : State) (r : Fin 16) (t : Nat) : State :=
  let s := s.modRoom r fun m => { m with lost := m.lost ++ [t], tasksLost := satNat 8 (m.tasksLost + 1) }
  if r.val = 15 then s.guestTrap t 8 else s.raise (roomSrc r 0x42) t

/-- The banks of the Cellar that hold the images of a task: the firmware area, or the guest image of room 15 (Tables 10-11
and 12-2). -/
def imageBanks (r : Fin 16) (t : Nat) : List Nat :=
  if r.val = 15 then [(0x00B40000 + t * 0x3000) / 0x40000, (0x00B42FFF + t * 0x3000) / 0x40000] else [0, 1, 2, 3]

/-- The Cellar can supply the images of a task and a valid slot (R256). -/
def State.cellarSupplies (s : State) (r : Fin 16) (t : Nat) : Bool :=
  (s.bestSlot r t).isSome && (imageBanks r t).all fun b => !s.retLost b

/-- A takeover starts on the lower-numbered free spare; without one, or where the Cellar cannot supply the images or a valid
slot, the task is lost (R254, R256). -/
def State.takeoverStart (s : State) (r : Fin 16) (t failed since : Nat) : State :=
  match s.rooms.rooms[r].free.min?, (if s.cellarSupplies r t then s.bestSlot r t else none) with
  | some spare, some _ => (s.bistNeeded (16 + 2 * r.val + spare % 2)).modRoom r fun m =>
      { m with free := m.free.filter (· != spare),
               pending := m.pending ++ [{ task := t, spare := spare, failed := failed, since := since }] }
  | _, _ => s.loseTask r t

/-- A spare is lost: it is retired with SPARE_FAIL (R256, Table 10-15). -/
def State.spareFail (s : State) (r : Fin 16) (e : Nat) : State :=
  let s := s.modRoom r fun m => { m with
    free := m.free.filter (· != e), retired := m.retired ++ [e],
    pending := m.pending.filter fun p => p.spare != e }
  s.raise (roomSrc r 0x45) e

/-- The access is one of an engine. -/
def Stalled.ofEngine (r : Fin 16) (e : Nat) : Stalled → Bool
  | .engineFld r' e' => r' == r && e' == e
  | .engineFst r' e' _ _ => r' == r && e' == e
  | _ => false

/-- The far accesses of an engine that wait are discarded. -/
def State.farDrop (s : State) (r : Fin 16) (e : Nat) : State :=
  { s with power := { s.power with stalled := s.power.stalled.filter fun a => !a.2.ofEngine r e } }

/-- The engine stops issuing: its OUT, PUB and outstanding FST are discarded (Table 10-11 step 1). -/
def State.engineHalt (s : State) (r : Fin 16) (e : Nat) : State :=
  (s.farDrop r e).modEngine r e fun x => { x with stopped := true, stalled := false, shadow := [], published := [] }

/-- The fault of an engine that runs task `t` (R254, R256, R261, R489). -/
def State.taskFault (s : State) (r : Fin 16) (e t code : Nat) : State :=
  let s := s.engineHalt r e
  if r.val = 15 ∧ (code = 6 ∨ code = 7) then
    (s.raiseHiding (roomSrc r e) code rEngineSwap).guestTrap t (code - 2)
  else
    let s := s.commitSlot r t
    let runs := r.val ≠ 15 ∨ (s.guest t).st = 2
    let ovr := decide runs && !s.fuse.safe && !s.rooms.rooms[r].free.isEmpty && s.cellarSupplies r t
    let s := s.raiseHiding (roomSrc r e) code (if ovr then 0 else rEngineSwap)
    let s := s.modRoom r fun m => { m with retired := m.retired ++ [e] }
    if s.fuse.safe || !decide runs then s else s.takeoverStart r t e s.tick

/-- A detector fires on an engine (R250, R254, Table 10-15): on a spare in a takeover, on a free spare, or on
an engine that runs a task. -/
def State.engineFault (s : State) (r : Fin 16) (e code : Nat) : State :=
  let m := s.rooms.rooms[r]
  if m.retired.contains e then s
  else match m.pending.find? fun p => p.spare == e with
    | some p =>
      let s := (s.spareFail r e).lastSpareGone r e
      if s.fuse.safe then s else s.takeoverStart r p.task p.failed p.since
    | none =>
      if m.free.contains e then (s.spareFail r e).lastSpareGone r e
      else match s.taskOn r e with
        | some t => if code = 8 then s else s.taskFault r e t code
        | none => s

/-- The program image of a task: the words of its engine in rooms 0 to 14, its guest image in room 15
(Table 10-11 step 4). -/
def State.imageBytes (s : State) (r : Fin 16) (t : Nat) : List Byte :=
  if r.val = 15 then s.bytes (0x00B40000 + t * 0x3000) 0x3000
  else (List.range 0x3000).map fun i => Config.engineImage (engineBase r t + i)

/-- The window words of a slot go back to data memory. -/
def State.loadWindow (s : State) (r : Fin 16) (e : Nat) (x : Engine) (a : Nat) : State :=
  s.each (List.range x.ckwLen.toNat) fun i s =>
    s.setDataWord r e (BitVec.ofNat 12 (x.ckwBase.toNat + i)) (BitVec.ofNat 16 (s.memNat (a + 0x80 + 2 * i) 2))

/-- Units of 10 ns in a span of core ticks: 1.28 ns each. -/
def tenNanos (ticks : Nat) : Nat := 128 * ticks / 1000

/-- The values of a task that are in force in the datapath stages, as ports and values (R100). -/
def Room.inForce (m : Room) (t : Nat) : List (Nat × BitVec 16) :=
  (m.stages.filter fun e => e.1 / 1024 == t).map fun e => (e.1 % 1024, e.2)

/-- The stages copy a set in whole: they hold its values from then on (R14). -/
def Room.copySet (m : Room) (t : Nat) (set : List (Nat × BitVec 16)) : Room :=
  { m with stages := set.foldl (fun l e => Sparse.insert (Sparse.erase l (1024 * t + e.1)) (1024 * t + e.1) e.2) m.stages }

/-- An install of room 14 that has written its bank and not asked for the swap starts again at step 1 when its task has
moved (R183). -/
def State.restage (s : State) (r : Fin 16) (t : Nat) : State :=
  if r = 14 ∧ 16 ≤ t ∧ t < 24 then
    s.modPantry (Fin.ofNat 8 (t - 16)) fun l =>
      { l with step := none, pdDue := l.pdDue.map fun d => { d with step := none } }
  else s

/-- The spare has loaded the images and the slot, and resumes the task (Table 10-11 steps 4 to 7).  It reads back the
values in force in the datapath, so that the set it goes on from is that of the stages (R100). -/
def State.takeoverResume (s : State) (r : Fin 16) (p : Takeover) : State :=
  let s := (s.modRoom r fun m => { m with pending := m.pending.filter (· != p) }).restage r p.task
  match (if s.cellarSupplies r p.task then s.bestSlot r p.task else none) with
  | none =>
    (s.modRoom r fun m => { m with free := m.free ++ [p.spare] }).loseTask r p.task
  | some slot =>
    let key := 2 * engineKey r p.task + slot
    let x := (Sparse.find? s.rooms.slots key).getD Engine.zero
    let failed := s.engine r p.failed
    let s := s.setBytes (engineBase r p.spare) (s.imageBytes r p.task)
    let s := s.loadWindow r p.spare x (slotAddr r p.task slot)
    let x := { x with
      evpend := x.evpend ||| failed.evpend, timerAt := s.tick, hbtAt := s.tick, stopped := false, stalled := false,
      shadow := s.rooms.rooms[r].inForce p.task, published := [] }
    let s := s.setEngine r p.spare x
    let one := s.rooms.rooms[r].free.length == 1
    let detail := p.task * 256 + (if one then 0x80 else 0) + p.spare
    let s := s.modRoom r fun m => { m with
      moved := m.moved.filter (fun e => e.1 != p.task) ++ [(p.task, p.spare)],
      takeovers := satNat 8 (m.takeovers + 1),
      last := (p.task, p.spare, satNat 20 (tenNanos (s.tick - p.since))) }
    let s := { s with attic := { s.attic with engineTakeovers := satNat 16 (s.attic.engineTakeovers + 1) } }
    let s := (s.raise (roomSrc r 0x40) detail).substitution 2 r.val detail
    s.lastSpareGone r p.spare

end Sys2Proof.Machine
end

