-- ==== Sys2Proof/Machine/Engine.lean ====
section
/-! DEFINITION. The instruction set of the engines (R235 to R248): one meaning for each instruction that
reaches no further than its own room.  The word is the one at the PC of the engine. -/

namespace Sys2Proof.Machine

open Reg

/-! ### Fields and legality (Tables 10-5 and 10-6) -/

/-- Bits [lo + w − 1 : lo] of an instruction. -/
def bitsAt (w : Word) (lo n : Nat) : Nat := (w.toNat >>> lo) % 2 ^ n

def opcodeOf (w : Word) : Nat := bitsAt w 26 6

/-- The field bits of an opcode below bit 26, `none` for an opcode that Table 10-6 does not list. -/
def fieldBits (op : Nat) : Option Nat :=
  if op = 0x00 ∨ op = 0x22 ∨ op = 0x36 ∨ op = 0x37 ∨ op = 0x3B then some 0
  else if 0x01 ≤ op ∧ op ≤ 0x0E then some 0x03FE0000
  else if 0x10 ≤ op ∧ op ≤ 0x15 then some 0x03F0FFFF
  else if op = 0x18 then some 0x03C00FFF
  else if op = 0x19 then some 0x0300FFFF
  else if op = 0x1A ∨ op = 0x1B then some 0x03F80000
  else if op = 0x20 ∨ op = 0x21 then some 0x03FC0000
  else if op = 0x27 then some 0x03FFF800
  else if 0x28 ≤ op ∧ op ≤ 0x2C then some 0x03F80000
  else if 0x2D ≤ op ∧ op ≤ 0x2F then some 0x03FFF000
  else if 0x30 ≤ op ∧ op ≤ 0x32 then some 0x03C003FF
  else if op = 0x33 then some 0x03FC0000
  else if op = 0x34 then some 0x03FFE000
  else if op = 0x35 then some 0x0000FFFF
  else if op = 0x38 then some 0x03F00000
  else if op = 0x39 ∨ op = 0x3A then some 0x038F0000
  else if 0x3C ≤ op ∧ op ≤ 0x3E then some 0x0380FFFF
  else if op = 0x3F then some 0x03E003FF
  else none

/-- BR, CALL, RET, REP, RPB, WAIT, EVRET and HALT (R243). -/
def isControl (op : Nat) : Bool :=
  op == 0x30 || op == 0x31 || op == 0x32 || op == 0x33 || op == 0x34 || op == 0x35 || op == 0x36 || op == 0x3B

/-- Z, N, V and SAT of a status (Table 10-8). -/
def flagZ (st : BitVec 4) : Bool := st.getLsbD 0
def flagN (st : BitVec 4) : Bool := st.getLsbD 1
def flagV (st : BitVec 4) : Bool := st.getLsbD 2
def flagSat (st : BitVec 4) : Bool := st.getLsbD 3

def mkStat (z n v sat : Bool) : BitVec 4 :=
  BitVec.ofNat 4 ((if z then 1 else 0) + (if n then 2 else 0) + (if v then 4 else 0) + (if sat then 8 else 0))

/-- A branch condition (R240); the SAT tests see an accumulator write one instruction later (Table 10-7). -/
def condHolds (x : Engine) (c : Nat) : Bool :=
  let z := flagZ x.stat
  let lt := flagN x.stat != flagV x.stat
  if c = 0 then true else if c = 1 then z else if c = 2 then !z else if c = 3 then lt else if c = 4 then !lt
  else if c = 5 then !z && !lt else if c = 6 then z || lt else if c = 7 then flagV x.stat
  else if c = 8 then !flagV x.stat else if c = 9 then x.satSeen else !x.satSeen

/-- The instruction breaks a placement of R243. -/
def misplaced (x : Engine) (w : Word) : Bool :=
  let op := opcodeOf w
  (x.slots.isSome && isControl op) || (x.block.isSome && isControl op) ||
    (x.rep.isSome && (isControl op || op == 0x3C || op == 0x3D || (op == 0x3F && bitsAt w 24 2 == 0)))

/-- An illegal instruction (R241). -/
def illegal (x : Engine) (w : Word) : Bool :=
  let op := opcodeOf w
  match fieldBits op with
  | none => true
  | some m =>
    decide (w.toNat % 2 ^ 26 &&& m ≠ w.toNat % 2 ^ 26) || misplaced x w ||
    (decide (0x30 ≤ op ∧ op ≤ 0x32) && decide (11 ≤ bitsAt w 22 4)) ||
    (op == 0x18 && bitsAt w 22 2 == 3) || ((op == 0x1A || op == 0x1B) && bitsAt w 19 2 == 3) ||
    (op == 0x3F && bitsAt w 24 2 == 3) ||
    (decide (0x3C ≤ op ∧ op ≤ 0x3E) && bitsAt w 0 2 != 0) ||
    ((op == 0x39 || op == 0x3A) && decide (9 < bitsAt w 16 4)) ||
    (op == 0x31 && condHolds x (bitsAt w 22 4) && decide (4 ≤ x.stack.length)) ||
    (op == 0x32 && condHolds x (bitsAt w 22 4) && x.stack.isEmpty)

/-! ### Issue -/

/-- An accumulator is written: its SAT is seen by the tests one instruction later (Table 10-7). -/
def writesAcc (op : Nat) : Bool := decide (0x27 ≤ op ∧ op ≤ 0x2C) || op == 0x2F

/-- Loads of the instruction before land. -/
def Engine.land (x : Engine) : Engine :=
  { x with
    d := x.inFlight.foldl (fun d e => d.set e.1 e.2) x.d, inFlight := [],
    evmask := x.maskNext.getD x.evmask, maskNext := none }

/-- Past the last repetition, to the end of a pass, or out of a delay slot. -/
def Engine.onward (x : Engine) : Engine :=
  match x.slots with
  | some (k, t) =>
    if 1 < k then { x with slots := some (k - 1, t), pc := x.pc + 1 } else { x with slots := none, pc := t }
  | none =>
    match x.block with
    | some b =>
      if x.pc = b.first + BitVec.ofNat 10 (b.len - 1) then
        if 1 < b.left then { x with block := some { b with left := b.left - 1 }, pc := b.first }
        else { x with block := none, pc := x.pc + 1 }
      else { x with pc := x.pc + 1 }
    | none => { x with pc := x.pc + 1 }

/-- The program goes on behind an instruction (R242, R244, R245). -/
def Engine.advance (x : Engine) : Engine :=
  match x.rep with
  | some k => if 1 < k then { x with rep := some (k - 1) } else { x with rep := none }.onward
  | none => x.onward

/-- An engine is ready to issue: it issues, no FLD stalls it, and a WAIT has its event. -/
def State.ready (s : State) (r : Fin 16) (e : Nat) : Bool :=
  let x := s.engine r e
  s.issues r e && !x.stalled && match x.waiting with
    | some m => (s.pendOf r e &&& m) != 0
    | none => true

/-- The engine as an instruction leaves it: `f` maps the engine with the earlier loads landed to the engine
with the instruction's writes. -/
def Engine.after (x : Engine) (op : Nat) (f : Engine → Engine) : Engine :=
  let y := f { x with waiting := none }.land
  { y with accSeen := x.acc, satSeen := if writesAcc op then flagSat x.stat else flagSat y.stat }

/-- Issues the instruction at PC: `isRow` says that the word is the row's instruction, `f` computes the
engine behind it from the engine that reads its operands, and `g` what else happens. -/
def State.issueWith (s : State) (r : Fin 16) (e : Nat) (isRow : Word → Bool) (f : Word → Engine → Engine → Engine)
    (g : Word → Engine → State → State) : State :=
  let x := s.engine r e
  let w := s.programWord r e x.pc
  if s.ready r e && isRow w then
    if illegal x w then s.engineFault r e 6
    else
      let y := x.after (opcodeOf w) (f w x)
      g w x ((s.countEvent (0x5001 + r.val * 0x100) 1).setEngine r e y)
  else s

/-- An instruction that only works on the engine. -/
def State.issue (s : State) (r : Fin 16) (e : Nat) (op : Nat) (f : Word → Engine → Engine → Engine) : State :=
  s.issueWith r e (fun w => opcodeOf w == op) (fun w x y => (f w x y).advance) fun _ _ s => s

/-! ### Operands -/

def regD (w : Word) : Fin 8 := Fin.ofNat 8 (bitsAt w 23 3)
def regS (w : Word) : Fin 8 := Fin.ofNat 8 (bitsAt w 20 3)
def regT (w : Word) : Fin 8 := Fin.ofNat 8 (bitsAt w 17 3)
def imm16 (w : Word) : BitVec 16 := BitVec.ofNat 16 (bitsAt w 0 16)

def Engine.setD (x : Engine) (i : Fin 8) (v : BitVec 16) : Engine := { x with d := x.d.set i v }

/-- Z and N of a result; V and SAT as given. -/
def Engine.setZN (x : Engine) (v : BitVec 16) (ov sat : Bool) : Engine :=
  { x with stat := mkStat (v == 0) v.msb ov sat }

/-- Z and N only. -/
def Engine.flagsZN (x : Engine) (v : BitVec 16) : Engine := x.setZN v (flagV x.stat) (flagSat x.stat)

/-- The overflow of an exact result. -/
def overflows (v : Int) : Bool := decide (v < -32768 ∨ 32767 < v)

/-- A wrapping result with Z, N and V (R235). -/
def Engine.wrap (x : Engine) (v : Int) : Engine := x.setZN (BitVec.ofInt 16 v) (overflows v) (flagSat x.stat)

/-- A saturating result with Z, N and SAT, which is sticky (R235). -/
def Engine.saturate (x : Engine) (i : Fin 8) (v : Int) : Engine :=
  let q := BitVec.ofInt 16 (satInt 16 v)
  (x.setD i q).setZN q (flagV x.stat) (flagSat x.stat || overflows v)

/-- A logic result with Z and N. -/
def Engine.logic (x : Engine) (i : Fin 8) (v : BitVec 16) : Engine := (x.setD i v).flagsZN v

def Engine.s (x : Engine) (w : Word) : BitVec 16 := x.d[regS w]
def Engine.t (x : Engine) (w : Word) : BitVec 16 := x.d[regT w]

/-! ### ALU (Table 10-6) -/

def execEngNop (r : Fin 16) (e : Fin 64) (s : State) : Result State Fault Refusal :=
  done (s.issue r e.val 0x00 fun _ _ y => y)

def execEngAdd (r : Fin 16) (e : Fin 64) (s : State) : Result State Fault Refusal :=
  done (s.issue r e.val 0x01 fun w x y =>
    (y.setD (regD w) (x.s w + x.t w)).wrap ((x.s w).toInt + (x.t w).toInt))

def execEngAdds (r : Fin 16) (e : Fin 64) (s : State) : Result State Fault Refusal :=
  done (s.issue r e.val 0x02 fun w x y => y.saturate (regD w) ((x.s w).toInt + (x.t w).toInt))

def execEngSub (r : Fin 16) (e : Fin 64) (s : State) : Result State Fault Refusal :=
  done (s.issue r e.val 0x03 fun w x y =>
    (y.setD (regD w) (x.s w - x.t w)).wrap ((x.s w).toInt - (x.t w).toInt))

def execEngSubs (r : Fin 16) (e : Fin 64) (s : State) : Result State Fault Refusal :=
  done (s.issue r e.val 0x04 fun w x y => y.saturate (regD w) ((x.s w).toInt - (x.t w).toInt))

def execEngAnd (r : Fin 16) (e : Fin 64) (s : State) : Result State Fault Refusal :=
  done (s.issue r e.val 0x05 fun w x y => y.logic (regD w) (x.s w &&& x.t w))

def execEngOr (r : Fin 16) (e : Fin 64) (s : State) : Result State Fault Refusal :=
  done (s.issue r e.val 0x06 fun w x y => y.logic (regD w) (x.s w ||| x.t w))

def execEngXor (r : Fin 16) (e : Fin 64) (s : State) : Result State Fault Refusal :=
  done (s.issue r e.val 0x07 fun w x y => y.logic (regD w) (x.s w ^^^ x.t w))

/-- A shift amount: the low four bits (Table 10-6). -/
def shiftBy (v : BitVec 16) : Nat := v.toNat % 16

def execEngAsr (r : Fin 16) (e : Fin 64) (s : State) : Result State Fault Refusal :=
  done (s.issue r e.val 0x08 fun w x y => y.logic (regD w) ((x.s w).sshiftRight (shiftBy (x.t w))))

def execEngLsl (r : Fin 16) (e : Fin 64) (s : State) : Result State Fault Refusal :=
  done (s.issue r e.val 0x09 fun w x y => y.logic (regD w) (x.s w <<< shiftBy (x.t w)))

def execEngLsr (r : Fin 16) (e : Fin 64) (s : State) : Result State Fault Refusal :=
  done (s.issue r e.val 0x0A fun w x y => y.logic (regD w) (x.s w >>> shiftBy (x.t w)))

def execEngAbs (r : Fin 16) (e : Fin 64) (s : State) : Result State Fault Refusal :=
  done (s.issue r e.val 0x0B fun w x y => y.saturate (regD w) ((x.s w).toInt.natAbs : Int))

def execEngNeg (r : Fin 16) (e : Fin 64) (s : State) : Result State Fault Refusal :=
  done (s.issue r e.val 0x0C fun w x y => y.saturate (regD w) (-(x.s w).toInt))

def execEngCmp (r : Fin 16) (e : Fin 64) (s : State) : Result State Fault Refusal :=
  done (s.issue r e.val 0x0D fun w x y => y.wrap ((x.s w).toInt - (x.t w).toInt))

def execEngMov (r : Fin 16) (e : Fin 64) (s : State) : Result State Fault Refusal :=
  done (s.issue r e.val 0x0E fun w x y => y.logic (regD w) (x.s w))

def execEngLdi (r : Fin 16) (e : Fin 64) (s : State) : Result State Fault Refusal :=
  done (s.issue r e.val 0x10 fun w _ y => y.setD (regD w) (imm16 w))

def execEngAddi (r : Fin 16) (e : Fin 64) (s : State) : Result State Fault Refusal :=
  done (s.issue r e.val 0x11 fun w x y =>
    (y.setD (regD w) (x.s w + imm16 w)).wrap ((x.s w).toInt + (imm16 w).toInt))

def execEngAndi (r : Fin 16) (e : Fin 64) (s : State) : Result State Fault Refusal :=
  done (s.issue r e.val 0x12 fun w x y => y.logic (regD w) (x.s w &&& imm16 w))

def execEngAsri (r : Fin 16) (e : Fin 64) (s : State) : Result State Fault Refusal :=
  done (s.issue r e.val 0x13 fun w x y => y.logic (regD w) ((x.s w).sshiftRight (shiftBy (imm16 w))))

def execEngLsli (r : Fin 16) (e : Fin 64) (s : State) : Result State Fault Refusal :=
  done (s.issue r e.val 0x14 fun w x y => y.logic (regD w) (x.s w <<< shiftBy (imm16 w)))

def execEngCmpi (r : Fin 16) (e : Fin 64) (s : State) : Result State Fault Refusal :=
  done (s.issue r e.val 0x15 fun w x y => y.wrap ((x.s w).toInt - (imm16 w).toInt))

/-! ### Address unit (R238) -/

/-- An address, base or length register: W is 0, 1 or 2. -/
def Engine.unitReg (x : Engine) (i : Fin 4) (sel : Nat) : BitVec 12 :=
  if sel = 0 then x.a[i] else if sel = 1 then x.b[i] else x.l[i]

def Engine.setUnitReg (x : Engine) (i : Fin 4) (sel : Nat) (v : BitVec 12) : Engine :=
  if sel = 0 then { x with a := x.a.set i v } else if sel = 1 then { x with b := x.b.set i v }
  else { x with l := x.l.set i v }

/-- The address behind a post-modification (R238). -/
def postModified (a b l : BitVec 12) (o : BitVec 16) : BitVec 12 :=
  if l ≠ 0 ∧ b.toNat ≤ a.toNat ∧ a.toNat < b.toNat + l.toNat then
    BitVec.ofInt 12 ((b.toNat : Int) + ((a.toNat : Int) - b.toNat + o.toInt) % (l.toNat : Int))
  else BitVec.ofInt 12 ((a.toNat : Int) + o.toInt)

/-- Post-modifies address register `i` by offset register `j`. -/
def Engine.postMod (x : Engine) (i j : Fin 4) : Engine :=
  { x with a := x.a.set i (postModified x.a[i] x.b[i] x.l[i] x.o[j]) }

def execEngSeta (r : Fin 16) (e : Fin 64) (s : State) : Result State Fault Refusal :=
  done (s.issue r e.val 0x18 fun w _ y =>
    y.setUnitReg (Fin.ofNat 4 (bitsAt w 24 2)) (bitsAt w 22 2) (BitVec.ofNat 12 (bitsAt w 0 12)))

def execEngSeto (r : Fin 16) (e : Fin 64) (s : State) : Result State Fault Refusal :=
  done (s.issue r e.val 0x19 fun w _ y => { y with o := y.o.set (Fin.ofNat 4 (bitsAt w 24 2)) (imm16 w) })

def execEngMvda (r : Fin 16) (e : Fin 64) (s : State) : Result State Fault Refusal :=
  done (s.issue r e.val 0x1A fun w x y =>
    y.setUnitReg (Fin.ofNat 4 (bitsAt w 21 2)) (bitsAt w 19 2) (x.d[regD w].truncate 12))

def execEngMvad (r : Fin 16) (e : Fin 64) (s : State) : Result State Fault Refusal :=
  done (s.issue r e.val 0x1B fun w x y =>
    y.setD (regD w) ((x.unitReg (Fin.ofNat 4 (bitsAt w 21 2)) (bitsAt w 19 2)).zeroExtend 16))

/-- A of formats M and S, and O of format M. -/
def addrM (w : Word) : Fin 4 := Fin.ofNat 4 (bitsAt w 21 2)
def offM (w : Word) : Fin 4 := Fin.ofNat 4 (bitsAt w 19 2)

/-- A load is in flight for one instruction (Table 10-7). -/
def Engine.load (x : Engine) (i : Fin 8) (v : BitVec 16) : Engine := { x with inFlight := x.inFlight ++ [(i, v)] }

def execEngLd (r : Fin 16) (e : Fin 64) (s : State) : Result State Fault Refusal :=
  done (s.issue r e.val 0x20 fun w x y =>
    let y := if bitsAt w 18 1 = 1 then y.postMod (addrM w) (offM w) else y
    y.load (regD w) (s.dataWord r e.val x.a[addrM w]))

def execEngSt (r : Fin 16) (e : Fin 64) (s : State) : Result State Fault Refusal :=
  done (s.issueWith r e.val (fun w => opcodeOf w == 0x21)
    (fun w _ y => (if bitsAt w 18 1 = 1 then y.postMod (addrM w) (offM w) else y).advance)
    fun w x s => s.setDataWord r e.val x.a[addrM w] x.d[regD w])

/-- The dual load of LDD and MACD. -/
def State.dualLoad (s : State) (r : Fin 16) (e : Nat) (x y : Engine) : Engine :=
  ((((y.load 6 (s.dataWord r e x.a[(0 : Fin 4)])).postMod 0 0).load 7 (s.dataWord r e x.a[(1 : Fin 4)]))).postMod 1 1

def execEngLdd (r : Fin 16) (e : Fin 64) (s : State) : Result State Fault Refusal :=
  done (s.issue r e.val 0x22 fun _ x y => s.dualLoad r e.val x y)

/-! ### Accumulators (R236, R237) -/

def accOf (w : Word) : Fin 2 := Fin.ofNat 2 (bitsAt w 25 1)

/-- An accumulator result: limited to 40 bits, and SAT set if it is limited (R236). -/
def Engine.setAcc (x : Engine) (i : Fin 2) (v : Int) : Engine :=
  let q := satInt 40 v
  { x with acc := x.acc.set i (BitVec.ofInt 40 q),
           stat := mkStat (flagZ x.stat) (flagN x.stat) (flagV x.stat) (flagSat x.stat || decide (q ≠ v)) }

/-- The exact product of format X. -/
def product (w : Word) (x : Engine) : Int :=
  (x.d[Fin.ofNat 8 (bitsAt w 22 3)]).toInt * (x.d[Fin.ofNat 8 (bitsAt w 19 3)]).toInt

/-- A signed shift: left for a positive amount, arithmetic right for a negative one (R237). -/
def shiftAcc (v : Int) (k : Int) : Int := if 0 ≤ k then v * 2 ^ k.toNat else v / 2 ^ (-k).toNat

def execEngSha (r : Fin 16) (e : Fin 64) (s : State) : Result State Fault Refusal :=
  done (s.issue r e.val 0x27 fun w x y =>
    y.setAcc (accOf w) (shiftAcc (x.accSeen[accOf w]).toInt (bitsInt 5 (bitsAt w 11 5))))

def execEngMac (r : Fin 16) (e : Fin 64) (s : State) : Result State Fault Refusal :=
  done (s.issue r e.val 0x28 fun w x y => y.setAcc (accOf w) ((x.acc[accOf w]).toInt + product w x))

def execEngMsu (r : Fin 16) (e : Fin 64) (s : State) : Result State Fault Refusal :=
  done (s.issue r e.val 0x29 fun w x y => y.setAcc (accOf w) ((x.acc[accOf w]).toInt - product w x))

def execEngMpy (r : Fin 16) (e : Fin 64) (s : State) : Result State Fault Refusal :=
  done (s.issue r e.val 0x2A fun w x y => y.setAcc (accOf w) (product w x))

def execEngMacd (r : Fin 16) (e : Fin 64) (s : State) : Result State Fault Refusal :=
  done (s.issue r e.val 0x2B fun w x y =>
    s.dualLoad r e.val x
      (y.setAcc (accOf w) ((x.acc[accOf w]).toInt + x.d[(6 : Fin 8)].toInt * x.d[(7 : Fin 8)].toInt)))

def execEngClr (r : Fin 16) (e : Fin 64) (s : State) : Result State Fault Refusal :=
  done (s.issue r e.val 0x2C fun w _ y => { y with acc := y.acc.set (accOf w) 0 })

/-- The value that STA and MVAC form before it is limited (R237 steps 1 and 2). -/
def roundedAcc (acc : BitVec 40) (sh : Nat) (rnd : Bool) : Int :=
  (acc.toInt + (if rnd ∧ 1 ≤ sh then 2 ^ (sh - 1) else 0)) / 2 ^ sh

/-- The value of an STA or MVAC before it is limited. -/
def storeValue (w : Word) (x : Engine) : Int :=
  roundedAcc x.accSeen[accOf w] (bitsAt w 12 4) (bitsAt w 16 1 == 1)

/-- SAT is set if the value is limited. -/
def Engine.satIf (x : Engine) (c : Bool) : Engine :=
  { x with stat := mkStat (flagZ x.stat) (flagN x.stat) (flagV x.stat) (flagSat x.stat || c) }

def execEngSta (r : Fin 16) (e : Fin 64) (s : State) : Result State Fault Refusal :=
  done (s.issueWith r e.val (fun w => opcodeOf w == 0x2D)
    (fun w x y =>
      let y := if bitsAt w 17 1 = 1 then y.postMod (Fin.ofNat 4 (bitsAt w 20 2)) (Fin.ofNat 4 (bitsAt w 18 2)) else y
      (y.satIf (overflows (storeValue w x))).advance)
    fun w x s => s.setDataWord r e.val x.a[Fin.ofNat 4 (bitsAt w 20 2)] (BitVec.ofInt 16 (satInt 16 (storeValue w x))))

def execEngMvac (r : Fin 16) (e : Fin 64) (s : State) : Result State Fault Refusal :=
  done (s.issue r e.val 0x2E fun w x y =>
    (y.setD (Fin.ofNat 8 (bitsAt w 22 3)) (BitVec.ofInt 16 (satInt 16 (storeValue w x)))).satIf
      (overflows (storeValue w x)))

def execEngLacc (r : Fin 16) (e : Fin 64) (s : State) : Result State Fault Refusal :=
  done (s.issue r e.val 0x2F fun w x y =>
    let v := (x.d[Fin.ofNat 8 (bitsAt w 22 3)]).toInt * 2 ^ bitsAt w 12 4
    { y with acc := y.acc.set (accOf w) (BitVec.ofInt 40 v) })

/-! ### Control flow (R242 to R245) -/

def targetOf (w : Word) : BitVec 10 := BitVec.ofNat 10 (bitsAt w 0 10)
def condOf (w : Word) : Nat := bitsAt w 22 4

/-- Two delay slots follow, whether or not the branch is taken (Table 10-7). -/
def Engine.branch (x : Engine) (taken : Bool) (t : BitVec 10) : Engine :=
  { x with slots := some (2, if taken then t else x.pc + 3), pc := x.pc + 1 }

def execEngBr (r : Fin 16) (e : Fin 64) (s : State) : Result State Fault Refusal :=
  done (s.issueWith r e.val (fun w => opcodeOf w == 0x30)
    (fun w x y => y.branch (condHolds x (condOf w)) (targetOf w)) fun _ _ s => s)

def execEngCall (r : Fin 16) (e : Fin 64) (s : State) : Result State Fault Refusal :=
  done (s.issueWith r e.val (fun w => opcodeOf w == 0x31)
    (fun w x y =>
      let t := condHolds x (condOf w)
      ({ y with stack := if t then (x.pc + 3) :: y.stack else y.stack }).branch t (targetOf w)) fun _ _ s => s)

def execEngRet (r : Fin 16) (e : Fin 64) (s : State) : Result State Fault Refusal :=
  done (s.issueWith r e.val (fun w => opcodeOf w == 0x32)
    (fun w x y =>
      let t := condHolds x (condOf w)
      ({ y with stack := if t then y.stack.drop 1 else y.stack }).branch t (x.stack.headD 0)) fun _ _ s => s)

/-- REP and RPB occupy no issue cycle: nothing lands (R244, R245). -/
def State.issueFree (s : State) (r : Fin 16) (e : Nat) (op : Nat) (f : Word → Engine → Engine) : State :=
  let x := s.engine r e
  let w := s.programWord r e x.pc
  if s.ready r e && opcodeOf w == op then
    if illegal x w then s.engineFault r e 6 else s.setEngine r e (f w { x with waiting := none })
  else s

def execEngRep (r : Fin 16) (e : Fin 64) (s : State) : Result State Fault Refusal :=
  done (s.issueFree r e.val 0x33 fun w x => { x with rep := some (bitsAt w 18 8 + 1), pc := x.pc + 1 })

def execEngRpb (r : Fin 16) (e : Fin 64) (s : State) : Result State Fault Refusal :=
  done (s.issueFree r e.val 0x34 fun w x =>
    { x with block := some { first := x.pc + 1, len := bitsAt w 13 5 + 1, left := bitsAt w 18 8 + 1 }, pc := x.pc + 1 })

/-! ### Events and special registers (R246 to R248) -/

/-- WAIT ends at once when an event of its mask is pending; else the engine stalls until one is. -/
def execEngWait (r : Fin 16) (e : Fin 64) (s : State) : Result State Fault Refusal :=
  done (s.issueWith r e.val (fun w => opcodeOf w == 0x35)
    (fun w _ y => { y.advance with
      waiting := if (s.pendOf r e.val &&& imm16 w) != 0 then none else some (imm16 w) }) fun _ _ s => s)

/-- EVRET restores the frame; the results that were in flight have their remaining delays.  With no event in
progress there is no frame to restore (log 23). -/
def execEngEvret (r : Fin 16) (e : Fin 64) (s : State) : Result State Fault Refusal :=
  done (s.issueWith r e.val (fun w => opcodeOf w == 0x36)
    (fun _ _ y => match y.frame with
      | some f => { y with
          pc := f.pc, stat := f.stat, block := f.block, inFlight := f.inFlight, maskNext := f.maskNext,
          acc := f.accs.foldl (fun a e => a.set e.1 e.2) y.acc, frame := none }
      | none => y.advance)
    fun _ x s => s.modEngine r e.val fun y => match x.frame with
      | some f => { y with satSeen := f.satSeen }
      | none => y)

/-- HBT restarts the watchdog (Table 10-6). -/
def execEngHbt (r : Fin 16) (e : Fin 64) (s : State) : Result State Fault Refusal :=
  done (s.issue r e.val 0x37 fun _ _ y => { y with hbtAt := s.tick })

/-- SIG: event 3 becomes pending on the engine that runs the task of that number. -/
def execEngSig (r : Fin 16) (e : Fin 64) (s : State) : Result State Fault Refusal :=
  done (s.issueWith r e.val (fun w => opcodeOf w == 0x38) (fun _ _ y => y.advance)
    fun w _ s => s.modEngine r (s.runOn r (bitsAt w 20 6)) fun x => { x with evpend := x.evpend ||| 8 })

/-- A special register as MFS reads it (Table 10-8). -/
def State.specialReg (s : State) (r : Fin 16) (e : Nat) (x : Engine) (k : Nat) : BitVec 16 :=
  if k = 0 then x.stat.zeroExtend 16 else if k = 1 then x.evmask else if k = 2 then s.pendOf r e
  else if k = 3 then s.timerNow x else if k = 4 then x.reload
  else if k = 5 then BitVec.ofNat 16 (engineKey r ((s.taskOn r e).getD e))
  else if k = 6 then BitVec.ofNat 16 s.clock.deviceTime
  else if k = 7 then x.ckwBase else if k = 8 then x.ckwLen else x.wdog

def execEngMfs (r : Fin 16) (e : Fin 64) (s : State) : Result State Fault Refusal :=
  done (s.issue r e.val 0x39 fun w x y => y.setD (regD w) (s.specialReg r e.val x (bitsAt w 16 4)))

/-- MVS (Table 10-8): TASK_ID and CYCLE are read-only; EVPEND clears the bits written 1; EVMASK lands one
instruction later; a CKW_LEN above 960 stores 960; a write of WDOG starts the period anew (DESIGN CHOICE, log 150). -/
def Engine.setSpecial (x : Engine) (now k : Nat) (v : BitVec 16) : Engine :=
  let left := if x.reload = 0 then x.timer else BitVec.ofNat 16 (x.timer.toNat - (now - x.timerAt) / 16)
  if k = 0 then { x with stat := v.truncate 4 } else if k = 1 then { x with maskNext := some v }
  else if k = 2 then { x with evpend := x.evpend &&& ~~~v }
  else if k = 3 then { x with timer := v, timerAt := now }
  else if k = 4 then { x with reload := v, timer := left, timerAt := now }
  else if k = 7 then { x with ckwBase := v }
  else if k = 8 then { x with ckwLen := if 960 < v.toNat then 960 else v }
  else if k = 9 then { x with wdog := v, hbtAt := now } else x

def execEngMvs (r : Fin 16) (e : Fin 64) (s : State) : Result State Fault Refusal :=
  done (s.issue r e.val 0x3A fun w x y => y.setSpecial s.tick (bitsAt w 16 4) x.d[regD w])

/-- HALT stops the engine; a guest engine becomes STOPPED (Table 10-14 cause 6). -/
def execEngHalt (r : Fin 16) (e : Fin 64) (s : State) : Result State Fault Refusal :=
  done (s.issueWith r e.val (fun w => opcodeOf w == 0x3B) (fun _ _ y => { y.advance with stopped := true })
    fun _ _ s => match (if r.val = 15 then s.taskOn r e.val else none) with
      | some t => s.guestTrap t 6
      | none => s)

def execEngMvfp (r : Fin 16) (e : Fin 64) (s : State) : Result State Fault Refusal :=
  done (s.issue r e.val 0x3E fun w x y =>
    let k := bitsAt w 24 2
    let v := x.d[Fin.ofNat 8 (2 * k + 1)] ++ x.d[Fin.ofNat 8 (2 * k)]
    { y with fp := y.fp.set (Fin.ofNat 2 (bitsAt w 23 1)) v })

/-! ### Ports (R249, R259) -/

def portOf (w : Word) : Nat := bitsAt w 0 10
def portReg (w : Word) : Fin 8 := Fin.ofNat 8 (bitsAt w 21 3)

/-- The guest engine that an engine runs. -/
def State.guestOn (s : State) (r : Fin 16) (e : Nat) : Option Nat := if r.val = 15 then s.taskOn r e else none

/-- What IN reads in the guest room: MBOX_IN, MBOX_STAT, and 0 elsewhere with a trap (R259). -/
def State.guestIn (s : State) (t port : Nat) : BitVec 16 :=
  let g := s.guest t
  if port = 1 then g.fromHost.headD 0
  else if port = 2 then BitVec.ofNat 16 (g.fromHost.length + 256 * (16 - g.toHost.length)) else 0

/-- IN.  The ports of the other rooms are internal to the image: what they read is a free value (log 19). -/
def execEngIn (r : Fin 16) (e : Fin 64) (s : State) : Result State Fault Refusal :=
  let v := match s.guestOn r e.val with
    | some t => fun w => s.guestIn t (portOf w)
    | none => fun _ => (s.fresh.1).truncate 16
  done (s.issueWith r e.val (fun w => opcodeOf w == 0x3F && bitsAt w 24 2 == 0)
    (fun w _ y => (y.load (portReg w) (v w)).advance)
    fun w _ s => match s.guestOn r e.val with
      | some t =>
        if portOf w = 1 then s.modGuest t fun g => { g with fromHost := g.fromHost.drop 1 }
        else if portOf w = 2 then s else s.guestTrap t 3
      | none => s.fresh.2)

/-- OUT: MBOX_OUT of the guest room; a shadow of the set in the making in the other rooms (R14). -/
def execEngOut (r : Fin 16) (e : Fin 64) (s : State) : Result State Fault Refusal :=
  done (s.issueWith r e.val (fun w => opcodeOf w == 0x3F && bitsAt w 24 2 == 1) (fun _ _ y => y.advance)
    fun w x s =>
      let v := x.d[portReg w]
      match s.guestOn r e.val with
      | some t =>
        if portOf w = 0 then
          if (s.guest t).toHost.length < 16 then
            (s.modGuest t fun g => { g with toHost := g.toHost ++ [v] }).attn ATTN_CAUSE_GUEST_MAILBOX
          else s
        else s.guestTrap t 3
      | none => s.modEngine r e.val fun y => { y with shadow := y.shadow ++ [(portOf w, v)] })

/-- PUB hands the shadow set to the datapath; what OUT writes from then on belongs to the next set (R14, R249). -/
def execEngPub (r : Fin 16) (e : Fin 64) (s : State) : Result State Fault Refusal :=
  done (s.issueWith r e.val (fun w => opcodeOf w == 0x3F && bitsAt w 24 2 == 2) (fun _ _ y => y.advance)
    fun w _ s => match s.guestOn r e.val with
      | some t => s.guestTrap t 3
      | none => s.modEngine r e.val fun y => { y with published := y.published ++ [(portOf w, y.shadow)], shadow := [] })

/-- The datapath copies a published set in whole, and holds its values from then on; event 2 (R14, R246). -/
def execShadowSetTaken (r : Fin 16) (e : Fin 64) (s : State) : Result State Fault Refusal :=
  let x := s.engine r e.val
  match x.published with
  | [] => unchanged s
  | p :: rest =>
    let s := s.modRoom r fun m => m.copySet ((s.taskOn r e.val).getD e.val) p.2
    done (s.setEngine r e.val { x with published := rest, evpend := x.evpend ||| 4 })

/-! ### Events, timers and watchdogs -/

/-- The lowest pending enabled event. -/
def lowestEvent (m : BitVec 16) : Option Nat := (List.range 16).find? fun k => m.getLsbD k

/-- The boundary is not held off (R247). -/
def Engine.open_ (x : Engine) : Bool :=
  x.slots.isNone && x.rep.isNone && !x.stalled && match x.block with
    | some b => x.pc == b.first
    | none => true

/-- An event is taken (R246, R247): the frame is saved, the handler starts at 4 × k, and it sees the
registers with the results in flight not yet landed. -/
def Engine.enter (x : Engine) (k : Nat) (pend : BitVec 16) : Engine :=
  let accs := (List.finRange 2).filterMap fun i => if x.acc[i] = x.accSeen[i] then none else some (i, x.acc[i])
  { x with
    frame := some { pc := x.pc, stat := x.stat, satSeen := x.satSeen, block := x.block,
                    inFlight := x.inFlight, maskNext := x.maskNext, accs := accs },
    acc := x.accSeen, inFlight := [], maskNext := none, block := none, waiting := none,
    evpend := pend &&& ~~~((1 : BitVec 16) <<< k), pc := BitVec.ofNat 10 (4 * k) }

def execEngineEventEntry (r : Fin 16) (e : Fin 64) (s : State) : Result State Fault Refusal :=
  let x := s.engine r e.val
  let pend := s.pendOf r e.val
  let waits := match x.waiting with
    | some m => (pend &&& m) != 0
    | none => true
  match lowestEvent (pend &&& x.evmask) with
  | some k =>
    if s.issues r e.val && x.frame.isNone && x.open_ && waits then done (s.setEngine r e.val (x.enter k pend))
    else unchanged s
  | none => unchanged s

/-- TIMER reaches 0: event 0, and TIMER reloads (Table 10-8). -/
def execEngineTimerExpiry (r : Fin 16) (e : Fin 64) (s : State) : Result State Fault Refusal :=
  let x := s.engine r e.val
  if s.issues r e.val ∧ x.reload ≠ 0 ∧ s.timerNow x = 0 then
    done (s.setEngine r e.val { x with evpend := x.evpend ||| 1, timer := x.reload, timerAt := s.tick })
  else unchanged s

/-- No HBT within WDOG units of 1,024 cycles (R250, Table 10-8). -/
def execEngineWatchdogExpiry (r : Fin 16) (e : Fin 64) (s : State) : Result State Fault Refusal :=
  let x := s.engine r e.val
  if s.issues r e.val ∧ x.wdog ≠ 0 ∧ x.hbtAt + 1024 * x.wdog.toNat ≤ s.tick then done (s.engineFault r e.val 7) else unchanged s

/-! ### Faults, checkpoints and takeovers -/

/-- A detector fires (Table 10-9); code 6 needs an illegal instruction at the PC. -/
def execEngineFault (r : Fin 16) (e : Fin 64) (code : Fin 9) (s : State) : Result State Fault Refusal :=
  let x := s.engine r e.val
  if code.val = 0 ∨ (code.val = 6 ∧ ¬ illegal x (s.programWord r e.val x.pc)) ∨ ¬ s.domOn (domRoom r.val) then
    unchanged s
  else done (s.engineFault r e.val code.val)

/-- The phase counter reaches the slot of a task (R251); nothing is captured while the task does not run. -/
def execCheckpointSnapshot (r : Fin 16) (t : Fin 64) (s : State) : Result State Fault Refusal :=
  let e := s.runOn r t.val
  let x := s.engine r e
  if s.rooms.rooms[r].phase = 64 * t.val ∧ s.issues r e ∧ s.taskOn r e = some t.val then
    let key := engineKey r t.val
    let p : Snapshot :=
      { engine := { x with timer := s.timerNow x, timerAt := s.tick, evpend := s.pendOf r e },
        window := s.windowWords r e x, deviceTime := s.clock.deviceTime }
    done { s with rooms := { s.rooms with taken := Sparse.insert (Sparse.erase s.rooms.taken key) key p } }
  else unchanged s

def execCheckpointCommit (r : Fin 16) (t : Fin 64) (s : State) : Result State Fault Refusal :=
  if s.roomRuns r.val then done (s.commitSlot r t.val) else unchanged s

/-- The spare of a takeover is ready (Table 10-11 step 7). -/
def execTakeoverResume (r : Fin 16) (e : Fin 64) (s : State) : Result State Fault Refusal :=
  match s.rooms.rooms[r].pending.find? fun p => p.spare == e.val with
  | some p => done (s.takeoverResume r p)
  | none => unchanged s

end Sys2Proof.Machine
end

