-- ==== Sys2Proof/Machine/Gf.lean ====
section
/-! DEFINITION. The binary fields of the codes: elements as numbers, and polynomials over them, lowest degree first. -/

namespace Sys2Proof.Machine

/-- A field GF(2^bits) by its primitive polynomial. -/
structure Gf where
  bits : Nat
  poly : Nat
  deriving DecidableEq, Repr

/-- Multiplication by α. -/
def Gf.double (f : Gf) (a : Nat) : Nat := if 2 * a < 2 ^ f.bits then 2 * a else (2 * a) ^^^ f.poly

/-- Multiplication by the low `k` bits of an element. -/
def Gf.mulBits (f : Gf) : Nat → Nat → Nat → Nat
  | 0, _, _ => 0
  | k + 1, a, b => f.double (f.mulBits k a (b / 2)) ^^^ (if b % 2 = 1 then a else 0)

def Gf.mul (f : Gf) (a b : Nat) : Nat := if a = 0 ∨ b = 0 then 0 else f.mulBits f.bits a b

/-- α^k. -/
def Gf.alpha (f : Gf) : Nat → Nat
  | 0 => 1
  | k + 1 => f.double (f.alpha k)

/-- The product of the next `k` squares: a² × a⁴ × … -/
def Gf.squares (f : Gf) : Nat → Nat → Nat
  | 0, _ => 1
  | k + 1, a => let q := f.mul a a; f.mul q (f.squares k q)

/-- The inverse of a non-zero element, its power 2^bits − 2. -/
def Gf.inv (f : Gf) (a : Nat) : Nat := f.squares (f.bits - 1) a

/-- The value of a polynomial. -/
def Gf.eval (f : Gf) (p : List Nat) (x : Nat) : Nat := p.foldr (fun c acc => c ^^^ f.mul x acc) 0

/-- The sum of two polynomials, the same in every binary field. -/
def gfAdd : List Nat → List Nat → List Nat
  | [], q => q
  | p, [] => p
  | a :: p, b :: q => (a ^^^ b) :: gfAdd p q

/-- A multiple of a polynomial, moved up by `k` degrees. -/
def Gf.scale (f : Gf) (c k : Nat) (p : List Nat) : List Nat := List.replicate k 0 ++ p.map (f.mul c)

/-- The coefficients below degree `k` of a product. -/
def Gf.mulLow (f : Gf) (k : Nat) (p q : List Nat) : List Nat :=
  (p.zipIdx.foldl (fun acc e => gfAdd acc (f.scale e.1 e.2 q)) []).take k

/-- The polynomial with the roots α^0 to α^(n − 1). -/
def Gf.generator (f : Gf) (n : Nat) : List Nat :=
  (List.range n).foldl (fun g j => gfAdd (0 :: g) (f.scale (f.alpha j) 0 g)) [1]

/-- One step of the division by a generator: the remainder, highest degree first, after a message symbol. -/
def Gf.divStep (f : Gf) (g : List Nat) (r : List Nat) (m : Nat) : List Nat :=
  let c := m ^^^ r.headD 0
  (List.zip (r.drop 1 ++ [0]) g).map fun e => e.1 ^^^ f.mul c e.2

/-- The `n` check symbols of a message, the first symbol the highest power. -/
def Gf.checks (f : Gf) (n : Nat) (msg : List Nat) : List Nat :=
  msg.foldl (f.divStep ((f.generator n).take n).reverse) (List.replicate n 0)

/-- The `n` syndromes of a word, the first symbol the highest power. -/
def Gf.syndromes (f : Gf) (n : Nat) (w : List Nat) : List Nat :=
  (List.range n).map fun j => let x := f.alpha j; w.foldl (fun acc c => f.mul acc x ^^^ c) 0

/-- The value of the error at power `p`, from the syndromes and the locator (Forney); the order of α is 2^bits − 1. -/
def Gf.errorValue (f : Gf) (syn loc : List Nat) (p : Nat) : Nat :=
  let xi := f.alpha ((2 ^ f.bits - 1 - p) % (2 ^ f.bits - 1))
  let num := f.eval (f.mulLow syn.length syn loc) xi
  let den := f.eval ((loc.drop 1).zipIdx.map fun e => if e.2 % 2 = 0 then e.1 else 0) xi
  f.mul (f.alpha p) (f.mul num (f.inv den))

end Sys2Proof.Machine
end

