-- ==== Sys2Proof/Machine/Rs.lean ====
section
/-! DEFINITION. The outer code: RS(544,514) over GF(2^10) as a block of 544 symbols, its encoder, its decoder and the
classification of R126.  The spec takes symbols, field and check symbols from IEEE 802.3; the numbers are that
standard's (PRESUMED, log 108). -/

namespace Sys2Proof.Machine

/-! ### The field (PRESUMED, log 108: x^10 + x^3 + 1) -/

/-- The field of the outer code. -/
def kp4Field : Gf := { bits := 10, poly := 0x409 }

/-- The degree of a polynomial, 0 for a constant. -/
def gfDegree (p : List Nat) : Nat := (p.reverse.dropWhile (· == 0)).length - 1

/-! ### Codewords: 544 symbols, the first one sent the highest power -/

/-- The bits of a symbol in stream order (R36, R39). -/
def symbolBits (v : Nat) : List Bool := (List.range 10).map v.testBit

/-- The symbol of ten bits in stream order. -/
def bitsSymbol (l : List Bool) : Nat := l.foldr (fun b acc => 2 * acc + (if b then 1 else 0)) 0

/-- The symbols of a stream of bits. -/
def bitsSymbols : Nat → List Bool → List Nat
  | 0, _ => []
  | k + 1, l => bitsSymbol (l.take 10) :: bitsSymbols k (l.drop 10)

/-- The codeword of 514 message symbols: the message and its 30 check symbols. -/
def rsEncode (msg : List Nat) : List Nat := msg ++ kp4Field.checks 30 msg

/-- The 30 syndromes of a word. -/
def rsSyndromes (w : List Nat) : List Nat := kp4Field.syndromes 30 w

/-- The search for the error locator: the locator, the one before the last change of length, its discrepancy, the
length, and the steps since that change. -/
structure LocatorSearch where
  loc : List Nat
  old : List Nat
  oldDisc : Nat
  len : Nat
  since : Nat
  deriving DecidableEq, Repr

/-- One step of the search (Berlekamp and Massey). -/
def LocatorSearch.next (syn : List Nat) (x : LocatorSearch) (k : Nat) : LocatorSearch :=
  let d := (x.loc.zipIdx.map fun e => if e.2 ≤ k then kp4Field.mul e.1 (syn.getD (k - e.2) 0) else 0).foldl (· ^^^ ·) 0
  if d = 0 then { x with since := x.since + 1 }
  else
    let loc := gfAdd x.loc (kp4Field.scale (kp4Field.mul d (kp4Field.inv x.oldDisc)) x.since x.old)
    if 2 * x.len ≤ k then { loc := loc, old := x.loc, oldDisc := d, len := k + 1 - x.len, since := 1 }
    else { x with loc := loc, since := x.since + 1 }

/-- The error locator of a word, and its length. -/
def errorLocator (syn : List Nat) : List Nat × Nat :=
  let x := (List.range 30).foldl (LocatorSearch.next syn) { loc := [1], old := [1], oldDisc := 1, len := 0, since := 1 }
  (x.loc, x.len)

/-- The powers of the symbol positions at which the locator has its roots. -/
def locatorRoots (loc : List Nat) : List Nat :=
  (List.range 544).filter fun p => kp4Field.eval loc (kp4Field.alpha ((1023 - p) % 1023)) == 0

/-- The outcome of decoding a codeword (R126). -/
inductive RsOutcome where
  | clean
  | corrected (errors bits : Nat) (word : List Nat)
  | uncorrectable
  deriving DecidableEq, Repr

/-- The number of one bits of a symbol. -/
def onesOf (v : Nat) : Nat := ((symbolBits v).filter id).length

/-- The decoder of a monitor: clean, corrected with e errors, or uncorrectable (R126). -/
def rsDecode (w : List Nat) : RsOutcome :=
  let syn := rsSyndromes w
  if syn.all (· == 0) then .clean
  else
    let (loc, len) := errorLocator syn
    let e := gfDegree loc
    let roots := locatorRoots loc
    if 1 ≤ e ∧ e ≤ 15 ∧ len = e ∧ roots.length = e then
      let errs := roots.map fun p => (p, kp4Field.errorValue syn loc p)
      .corrected e ((errs.map fun x => onesOf x.2).sum)
        (errs.foldl (fun w x => w.modify (543 - x.1) (· ^^^ x.2)) w)
    else .uncorrectable

/-- What a monitor forwards (R127): as received, or corrected under TERMINATE. -/
def RsOutcome.forward (o : RsOutcome) (terminate : Bool) (w : List Nat) : List Nat :=
  match o with
  | .corrected _ _ c => if terminate then c else w
  | _ => w

/-- A block decodes as correctable (R123). -/
def RsOutcome.correctable : RsOutcome → Bool
  | .uncorrectable => false
  | _ => true

end Sys2Proof.Machine
end

