-- ==== Sys2Proof/Machine/Symbols.lean ====
section
/-! DEFINITION. Streams of bits and symbols as functions of nothing but themselves: the Gray map and the precoder, the
line frame and its slots, fill, the test patterns, and the windows of symbols that the tables are indexed by. -/

namespace Sys2Proof.Machine

/-! ### Symbols (R36 to R38) -/

/-- The symbol value of a pair (MSB, LSB) (Table 2-5). -/
def grayValue : Bool → Bool → Nat
  | false, false => 0
  | false, true => 1
  | true, true => 2
  | true, false => 3

/-- The pair (MSB, LSB) of a symbol value (Table 2-5). -/
def grayBits (g : Nat) : Bool × Bool :=
  match g % 4 with
  | 0 => (false, false)
  | 1 => (false, true)
  | 2 => (true, true)
  | _ => (true, false)

/-- The level of a symbol value: −3, −1, +1 or +3 (R37, R137). -/
def symbolLevel (a : Nat) : Int := 2 * (a : Int) - 3

/-- The transmit precoder from P(j − 1) on (R38). -/
def precode : Nat → List Nat → List Nat
  | _, [] => []
  | p, g :: t => let q := (g + 4 - p % 4) % 4; q :: precode q t

/-- The inverse of the precoder from P(j − 1) on (R38). -/
def unprecode : Nat → List Nat → List Nat
  | _, [] => []
  | p, q :: t => (q + p) % 4 :: unprecode q t

/-- The symbols of a host lane: two consecutive bits each, the earlier bit the MSB (R36). -/
def hostSymbols : List Bool → List Nat
  | b :: c :: t => grayValue b c :: hostSymbols t
  | _ => []

/-- The bits of the symbols of a host lane, the inverse of `hostSymbols` (R36). -/
def symbolsBits : List Nat → List Bool
  | [] => []
  | g :: t => (grayBits g).1 :: (grayBits g).2 :: symbolsBits t

/-! ### The outer-coded stream and the line frame (R28, R29, R33, R36) -/

/-- Bits of a codeword, slots of a line frame, and inner codewords of a line frame (Table 2-2). -/
def codewordBits : Nat := 5440
def frameSlots : Nat := 24
def frameCodewords : Nat := 1088

/-- Bit i of the outer-coded stream of a line lane whose codewords, in stream order, are `cw` (R36). -/
def outerBit (cw : Nat → Nat → Bool) (i : Nat) : Bool := cw (i / codewordBits) (i % codewordBits)

/-- The message of inner codeword j: the j-th block of 120 bits of the outer-coded stream, so that the first block of a
line frame starts at bit 0 of slot 0 (R29, R36). -/
def innerMessage (bit : Nat → Bool) (j : Nat) : List Bool := (List.range 120).map fun k => bit (120 * j + k)

/-- Bit i of the stream that the messages of the inner decoder spell (R36, R121). -/
def deliveredBit (msg : Nat → List Bool) (i : Nat) : Bool := (msg (i / 120)).getD (i % 120) false

/-- Codeword c of a line lane's stream is in this line frame and slot (R29). -/
def frameSlot (c : Nat) : Nat × Nat := (c / frameSlots, c % frameSlots)

/-- Codeword c of line lane n's stream, as the host lane it comes from or goes to and its number in that lane's own
order (R33); Mode B is mode 1. -/
def hostCodeword (mode n c : Nat) : Nat × Nat := if mode = 1 then (2 * n + c % 2, c / 2) else (n, c)

/-- Codeword k of host lane m, as the line lane and its number in that lane's stream (R33). -/
def lineCodeword (mode m k : Nat) : Nat × Nat := if mode = 1 then (m / 2, 2 * k + m % 2) else (m, k)

/-- The codewords of a line lane's stream, from those of its host lanes (R33, host→line). -/
def gather (mode n : Nat) (host : Nat → Nat → List Bool) (c : Nat) : List Bool :=
  host (hostCodeword mode n c).1 (hostCodeword mode n c).2

/-- The codewords of a host lane, from the stream of its line lane (R33, line→host). -/
def deliver (mode m : Nat) (line : Nat → Nat → List Bool) (k : Nat) : List Bool :=
  line (lineCodeword mode m k).1 (lineCodeword mode m k).2

/-! ### Fill (R39) -/

/-- One step of the generator x^31 + x^28 + 1: the output bit and the stages after it; stage k is bit k − 1. -/
def fillStep (g : BitVec 31) : Bool × BitVec 31 :=
  let b := xor (g.getLsbD 30) (g.getLsbD 27)
  (b, (g <<< 1) ||| (if b then 1 else 0))

/-- The next bits of the generator, and its stages after them. -/
def fillBits : Nat → BitVec 31 → List Bool × BitVec 31
  | 0, g => ([], g)
  | k + 1, g =>
    let r := fillStep g
    let t := fillBits k r.2
    (r.1 :: t.1, t.2)

/-- The message bits of the next fill codeword, and the stages after it. -/
def fillMessage (g : BitVec 31) : List Bool × BitVec 31 := fillBits 5140 g

/-- The generator at the start of codeword c of an episode: it runs on across codewords and does not step during check
symbols. -/
def fillStages : Nat → BitVec 31
  | 0 => BitVec.allOnes 31
  | c + 1 => (fillMessage (fillStages c)).2

/-- A codeword of 5,440 bits from its 5,140 message bits (R39, log 108). -/
def outerEncode (msg : List Bool) : List Bool := (rsEncode (bitsSymbols 514 msg)).flatMap symbolBits

/-- Codeword c of a fill episode. -/
def fillCodeword (c : Nat) : List Bool := outerEncode (fillMessage (fillStages c)).1

/-! ### Test patterns (R159, R204) -/

/-- The output bits of a Fibonacci generator: each is the exclusive-OR of the last outputs at these distances, and the
bits before the first are the stages it starts from, the newest first. -/
def prbsNext (taps : List Nat) (past : List Bool) : Bool :=
  taps.foldl (fun acc k => Bool.xor acc (past.getD (k - 1) false)) false

/-- The stages after k more output bits, newest first. -/
def prbsRun (taps : List Nat) (width : Nat) (past : List Bool) : Nat → List Bool
  | 0 => past
  | k + 1 =>
    let p := prbsRun taps width past k
    (prbsNext taps p :: p).take width

/-- Output bit i of a generator. -/
def prbsBit (taps : List Nat) (width : Nat) (seed : List Bool) (i : Nat) : Bool :=
  (prbsRun taps width seed (i + 1)).headD false

/-- PRBS13 and PRBS31: taps and length (PRESUMED from IEEE 802.3, log 113). -/
def prbs13 : List Nat := [1, 2, 12, 13]
def prbs31 : List Nat := [28, 31]

/-- The stages a generator starts from, newest first (log 113: the standard's seeds, which the spec does not list). -/
def patternSeed (lane width : Nat) : List Bool := (List.range width).map fun k => (Config.patternSeed lane width).testBit k

/-- Symbol i of the pattern of a PAT_SEL code on a lane, `user` the symbols of the user pattern (R159, R204): PRBS13Q and
PRBS31Q are Gray-mapped pairs of successive output bits, SSPRQ is the standard's sequence of 65,535 symbols (log 113),
and the user pattern repeats its 1,024 symbols. -/
def patternSymbol (sel lane : Nat) (user : Nat → Nat) (i : Nat) : Nat :=
  if sel = 1 then
    let b := prbsBit prbs13 13 (patternSeed lane 13)
    grayValue (b (2 * i)) (b (2 * i + 1))
  else if sel = 2 then
    let b := prbsBit prbs31 31 (patternSeed lane 31)
    grayValue (b (2 * i)) (b (2 * i + 1))
  else if sel = 3 then Config.ssprqSymbol (i % 65535) % 4
  else user (i % 1024)

/-- The symbol that a seeding checker of PRBS13Q or PRBS31Q expects after the received symbols, newest first (R160). -/
def prbsExpects (sel : Nat) (past : List Nat) : Nat :=
  let bits := past.flatMap fun g => [(grayBits g).2, (grayBits g).1]
  let taps := if sel = 1 then prbs13 else prbs31
  let x := prbsNext taps bits
  grayValue x (prbsNext taps (x :: bits))

/-- Gray bits in which two symbols differ (R160). -/
def grayErrors (a b : Nat) : Nat :=
  (if (grayBits a).1 = (grayBits b).1 then 0 else 1) + (if (grayBits a).2 = (grayBits b).2 then 0 else 1)

/-! ### Windows of a symbol stream -/

/-- A symbol of a stream; those before the start of the datapath count as channel value 0 (R137). -/
def symbolAt (a : Nat → Nat) (i : Int) : Nat := if i < 0 then 0 else a i.toNat

/-- x(n) of the line FIR in units of 1/16 LSB (R137, R138). -/
def firSum (taps : List Int) (a : Nat → Nat) (m : Nat) : Int :=
  (taps.zipIdx.map fun e => e.1 * symbolLevel (symbolAt a ((m : Int) - ((e.2 : Int) - 2)))).sum

/-- The five-symbol index (R88, R140). -/
def patternIndex (a : Nat → Nat) (m : Nat) : Nat :=
  256 * symbolAt a ((m : Int) - 2) + 64 * symbolAt a ((m : Int) - 1) + 16 * a m + 4 * a (m + 1) + a (m + 2)

/-- The ten-symbol context of the census (R164). -/
def contextOf (a : Nat → Nat) (m : Nat) : Nat :=
  (List.range 10).foldl (fun c k => 4 * c + symbolAt a ((m : Int) - 5 + k)) 0

/-- A slicer with three thresholds.  A value at a threshold gives the upper symbol (DESIGN CHOICE, log 114: R88 and R97
do not say which). -/
def decideLevel (lo mid hi : Rat) (x : Rat) : Nat := if x < lo then 0 else if x < mid then 1 else if x < hi then 2 else 3

/-- The tentative decision on an FFE output in LSB (R88). -/
def tentative (x : Rat) : Nat := decideLevel (-32) 0 32 x

end Sys2Proof.Machine
end

