-- ==== Sys2Proof/Machine/Detect.lean ====
section
/-! DEFINITION. The receive datapath of a line lane behind its converter: the equaliser, the canceller, the detectors and
their soft outputs, the precoder's inverse, and what the correlators and the readouts take of a symbol (chapter 4). -/

namespace Sys2Proof.Machine

open Reg

/-! ### Equaliser (R82 to R84) -/

/-- The coefficients of the taps in the profile's range, in units of 2^−10 (R82, Table 4-1). -/
def State.ffeCoefs (s : State) (n : Fin 8) : List Int :=
  let (first, count) := tapRange (s.laneProfile n)
  (List.range count).map fun k => bitsInt 12 (s.fld (lineBase n) (FFE_TAP_COEF.ix (first + k)))

/-- The place of c(0) among the taps of the profile's range (Table 4-1: FFE_TAP index k holds c(k − 8)). -/
def State.mainTap (s : State) (n : Fin 8) : Nat := 8 - (tapRange (s.laneProfile n)).1

/-- z_f(n) in units of 1/4 LSB: the products summed at full precision and rounded once, ties away from zero (R82);
`y` are the samples under the taps. -/
def ffeOutput (c : List Int) (y : List Int) : Int := roundAway (((List.zipWith (· * ·) c y).sum : Int) / 1024)

/-- The samples under the taps at symbol m: the first tap c(i) meets y(m − i) (R82). -/
def State.tapSamples (s : State) (n : Fin 8) (y : Int → Sample) (m : Int) : List Sample :=
  let (first, count) := tapRange (s.laneProfile n)
  (List.range count).map fun k => y (m - ((first + k : Nat) - 8 : Int))

/-- z_f(n) of a stream of samples. -/
def State.ffeAt (s : State) (n : Fin 8) (y : Int → Sample) (m : Int) : Int :=
  ffeOutput (s.ffeCoefs n) ((s.tapSamples n y m).map Sample.value)

/-- The FFE output is flagged when the sample on the main tap is ERASED or OVR (R84). -/
def State.flaggedAt (s : State) (n : Fin 8) (y : List Sample) : Bool :=
  match y[s.mainTap n]? with
  | some x => x.erased || x.ovr
  | none => false

/-- The FFE output is flagged ERASED (R84). -/
def State.erasedAt (s : State) (n : Fin 8) (y : List Sample) : Bool :=
  ((y[s.mainTap n]?).map Sample.erased).getD false

/-! ### Canceller (R88, R90, R93) -/

/-- The fade sample of a fade that began at a tick: 16 line datapath clocks each, 17 of them in 15 core ticks (R90). -/
def fadeSample (begun now : Nat) : Nat := min 63 (17 * (now - begun) / 240)

/-- u of fade sample i in units of 1/16 LSB (R90). -/
def fadeValue (i : Nat) (out inc : Int) : Int :=
  roundAway ((((63 - (i : Int)) * out + ((i : Int) + 1) * inc : Int) : Rat) / 64)

/-- The entry of a pair of banks that is in force at an index: the active bank's, and during a fade the mixture of the
fade sample (R88, R90, R141). -/
def State.entryInForce (s : State) (n : Fin 8) (r : FadeRegs) (begun i : Nat) : Int :=
  let b := lineBase n
  let bank := fun k => bitsInt 10 (s.fld b ((if k = 0 then r.bank0 else r.bank1).ix i))
  let out := bank (s.fld b r.active)
  if s.flag b r.fading then fadeValue (fadeSample begun s.tick) out (bank (1 - s.fld b r.active)) else out

/-- The canceller subtracts: in use (R93), and from step 5 of Table 4-6 on, or in a fast re-lock (R93, R101, R104). -/
def State.nlcSubtracts (s : State) (n : Fin 8) : Bool := s.nlcInUse n && decide (5 ≤ s.acqState n)

/-- The entry that the canceller subtracts at an index, in units of 1/16 LSB (R88, R93). -/
def State.nlcEntry (s : State) (n : Fin 8) (i : Nat) : Int :=
  if s.nlcSubtracts n then s.entryInForce n nlcRegs s.line[n].link.nlcFade i else 0

/-- z(n) in units of 1/4 LSB from z_f(n) and the entry: limited to −512 and +511.75 LSB (R81, R88).  DESIGN CHOICE
(log 6): the entry is finer than the grid of z(n), and the rounding is the part's own. -/
def detectorValue (zf entry : Int) : Int := satInt 12 (quantise ((zf : Rat) - (entry : Rat) / 4))

/-- The tentative decision at symbol m of a stream of samples (R88). -/
def State.tentativeAt (s : State) (n : Fin 8) (y : Int → Sample) (m : Int) : Nat :=
  tentative ((s.ffeAt n y m : Rat) / 4)

/-- The index of the canceller at symbol m: the tentative decisions on five FFE outputs (R88). -/
def State.nlcIndex (s : State) (n : Fin 8) (y : Int → Sample) (m : Int) : Nat :=
  256 * s.tentativeAt n y (m - 2) + 64 * s.tentativeAt n y (m - 1) + 16 * s.tentativeAt n y m +
    4 * s.tentativeAt n y (m + 1) + s.tentativeAt n y (m + 2)

/-- z(n) of a stream of samples, in units of 1/4 LSB (R81, R88). -/
def State.detectorInput (s : State) (n : Fin 8) (y : Int → Sample) (m : Int) : Int :=
  detectorValue (s.ffeAt n y m) (s.nlcEntry n (s.nlcIndex n y m))

/-! ### Expected levels (R94, R97) -/

/-- M[j] in units of 1/4 LSB (R94). -/
def State.mlseLevel (s : State) (n : Fin 8) (j : Nat) : Int :=
  bitsInt 12 (s.fld (lineBase n) (MLSE_LEVEL_LEVEL.ix j))

/-- A level mean in units of 1/4 LSB: the mean of the M[j] that share a(n) (R97). -/
def State.levelMean (s : State) (n : Fin 8) (a : Nat) : Rat :=
  (((List.range 16).map fun k => s.mlseLevel n (16 * a + k)).sum : Rat) / 16

/-- The detector of a lane is the MLSE: every profile but Frugal (R19, R94, R97). -/
def State.mlseRuns (s : State) (n : Fin 8) : Bool := s.laneProfile n != 2

/-- The expected level of a decided branch in units of 1/4 LSB: M[j], and in Frugal the level mean (R83, R106). -/
def State.expectedLevel (s : State) (n : Fin 8) (j : Nat) : Rat :=
  if s.mlseRuns n then s.mlseLevel n j else s.levelMean n (j / 16)

/-- e(n) of a symbol in units of 1/4 LSB (R83). -/
def State.symbolError (s : State) (n : Fin 8) (x : RxSymbol) : Rat := x.z - s.expectedLevel n x.j.val

/-- The symbols that the statistics take: those whose output is not flagged (R84). -/
def State.counted (s : State) (n : Fin 8) (l : List RxSymbol) : List RxSymbol := l.filter fun x => !s.flaggedAt n x.y

/-! ### MLSE (R94 to R96) -/

/-- The metric of a branch (R94). -/
def State.branchMetric (s : State) (n : Fin 8) (z : Int) (a a1 a2 : Nat) : Rat :=
  let d : Rat := z - s.mlseLevel n (16 * a + 4 * a1 + a2)
  d * d / 16

/-- The lowest of a list of metrics. -/
def leastOf (l : List Rat) : Rat := l.foldl min (l.headD 0)

/-- The forward metrics after a symbol: for each state (a(n), a(n − 1)) as 4 a(n) + a(n − 1), the lowest over the four
branches that enter it (R94, R95). -/
def trellisForward (metric : Nat → Nat → Nat → Rat) (f : List Rat) : List Rat :=
  (List.range 16).map fun st =>
    leastOf ((List.range 4).map fun a2 => f.getD (4 * (st % 4) + a2) 0 + metric (st / 4) (st % 4) a2)

/-- The backward metrics before a symbol: for each state (a(n − 1), a(n − 2)), the lowest over the four branches that
leave it (R94, R95). -/
def trellisBackward (metric : Nat → Nat → Nat → Rat) (g : List Rat) : List Rat :=
  (List.range 16).map fun st =>
    leastOf ((List.range 4).map fun a => metric a (st / 4) (st % 4) + g.getD (4 * a + st / 4) 0)

/-- The Gray value of a branch: the precoder's inverse inside the trellis when precoding is on (R38, R94). -/
def branchGray (precoded : Bool) (a a1 : Nat) : Nat := if precoded then (a + a1) % 4 else a

/-- The lowest metrics over the paths with a bit of the symbol at 1 and at 0: the MSB, then the LSB (R95). -/
def bitMetrics (precoded : Bool) (metric : Nat → Nat → Nat → Rat) (f g : List Rat) (msb bit : Bool) : Rat :=
  leastOf ((List.range 64).filterMap fun j =>
    let a := j / 16
    let a1 := j / 4 % 4
    let a2 := j % 4
    let q := grayBits (branchGray precoded a a1)
    if (if msb then q.1 else q.2) = bit then some (f.getD (4 * a1 + a2) 0 + metric a a1 a2 + g.getD (4 * a + a1) 0) else none)

/-- Λ of a bit (R95). -/
def softValue (sigma2 : Rat) (m1 m0 : Rat) : Rat := (m1 - m0) / (2 * sigma2)

/-- The reliability of a distance or of Λ at a step (R96, R97). -/
def reliability (lambda step : Rat) : Nat :=
  let r := (|lambda| / step).floor
  if r < 7 then r.toNat else 7

/-- LLR_STEP, in which 0 acts as 1 (Table 4-8). -/
def State.llrStep (s : State) (n : Fin 8) : Nat := max 1 (s.fld (lineBase n) EQ_CTRL_LLR_STEP)

/-- The symbols by which a block overlaps its neighbours: the full traceback, and the shortened one of Swift (R19,
R95). -/
def State.overlap (s : State) (n : Fin 8) : Nat := if s.laneProfile n = 3 then 16 else 64

/-- Forward metrics over symbols `m` to `m + k − 1` from a start in which no state is favoured (R95). -/
def State.forwardOver (s : State) (n : Fin 8) (z : Nat → Int) (m : Nat) : Nat → List Rat
  | 0 => List.replicate 16 0
  | k + 1 => trellisForward (s.branchMetric n (z (m + k))) (s.forwardOver n z m k)

/-- Backward metrics over symbols `m` to `m + k − 1` (R95). -/
def State.backwardOver (s : State) (n : Fin 8) (z : Nat → Int) (m : Nat) : Nat → List Rat
  | 0 => List.replicate 16 0
  | k + 1 => trellisBackward (s.branchMetric n (z m)) (s.backwardOver n z (m + 1) k)

/-- One bit toward the inner decoder from its two lowest metrics: the bit of the best path, and its reliability, 0 for an
erased symbol (R96).  DESIGN CHOICE (log 114): of two equally good paths the one with the bit at 0 is taken. -/
def State.mlseBit (s : State) (n : Fin 8) (erased : Bool) (m1 m0 : Rat) : SoftBit :=
  let r := reliability (softValue s.line[n].rx.sigma2 m1 m0) ((s.llrStep n : Rat) / 8)
  { hard := decide (m1 < m0), rel := if erased then 0 else Fin.ofNat 8 r }

/-- The two bits, MSB and LSB, of symbol m behind the MLSE: blocks of 256 symbols with the profile's overlap (R94 to
R96). -/
def State.mlseSymbol (s : State) (n : Fin 8) (z : Nat → Int) (erased : Nat → Bool) (m : Nat) : SoftBit × SoftBit :=
  let first := 256 * (m / 256) - s.overlap n
  let last := 256 * (m / 256) + 256 + s.overlap n
  let metric := s.branchMetric n (z m)
  let f := s.forwardOver n z first (m - first)
  let g := s.backwardOver n z (m + 1) (last - (m + 1))
  let pre := s.line[n].rx.precode
  let bit := fun msb => s.mlseBit n (erased m) (bitMetrics pre metric f g msb true) (bitMetrics pre metric f g msb false)
  (bit true, bit false)

/-! ### The hard slicer of Frugal (R97, R98) -/

/-- The three thresholds in units of 1/4 LSB: the midpoints of the level means (R97). -/
def State.sliceThreshold (s : State) (n : Fin 8) (k : Nat) : Rat := (s.levelMean n k + s.levelMean n (k + 1)) / 2

/-- The hard decision of the slicer (R97). -/
def State.sliced (s : State) (n : Fin 8) (z : Int) : Nat :=
  decideLevel (s.sliceThreshold n 0) (s.sliceThreshold n 1) (s.sliceThreshold n 2) z

/-- The distances in LSB of z(n): to the middle threshold, and to the nearer outer one (R97). -/
def State.sliceDistances (s : State) (n : Fin 8) (z : Int) : Rat × Rat :=
  (|(z : Rat) - s.sliceThreshold n 1| / 4, min |(z : Rat) - s.sliceThreshold n 0| |(z : Rat) - s.sliceThreshold n 2| / 4)

/-- The two bits of a symbol behind the slicer, from z(n) and z(n − 1): with precoding on the precoder's inverse, and both
bits take the smaller of the two symbols' distances to their nearest thresholds; an erased symbol has reliability 0
(R38, R97, R98). -/
def State.frugalSymbol (s : State) (n : Fin 8) (z zPrev : Int) (erased : Bool) : SoftBit × SoftBit :=
  let pre := s.line[n].rx.precode
  let a := s.sliced n z
  let g := grayBits (branchGray pre a (s.sliced n zPrev))
  let d := s.sliceDistances n z
  let dPrev := s.sliceDistances n zPrev
  let both := min (min d.1 d.2) (min dPrev.1 dPrev.2)
  let rel := fun x => if erased then 0 else Fin.ofNat 8 (reliability x ((s.llrStep n : Rat) / 4))
  ({ hard := g.1, rel := rel (if pre then both else d.1) }, { hard := g.2, rel := rel (if pre then both else d.2) })

/-- The two bits of symbol m of a stream of samples, MSB and LSB, by the detector of the profile (R94 to R98). -/
def State.detect (s : State) (n : Fin 8) (y : Int → Sample) (m : Nat) : SoftBit × SoftBit :=
  let z := fun (k : Nat) => s.detectorInput n y k
  let erased := fun (k : Nat) => s.erasedAt n (s.tapSamples n y k)
  if s.mlseRuns n then s.mlseSymbol n z erased m
  else s.frugalSymbol n (z m) (s.detectorInput n y ((m : Int) - 1)) (erased m)

/-! ### Correlators and readouts (R83, R84, R87, R106, R107) -/

/-- The symbols of FFE window w: 65,536 of them, every 16th symbol of the lane (R83). -/
def windowSymbol (w k : Nat) : Nat := 16 * (65536 * w + k)

/-- C(i) of the tap at place k, in LSB²: e(n) y(n − i) over the window, without flagged symbols and samples (R83,
R84). -/
def State.correlation (s : State) (n : Fin 8) (l : List RxSymbol) (k : Nat) : Rat :=
  ((s.counted n l).map fun x => match x.y[k]? with
    | some y => if y.erased || y.ovr then 0 else s.symbolError n x * y.value / 16
    | none => 0).sum

/-- The Mueller–Müller-type detector on two successive symbols, in LSB² (R87). -/
def muellerMuller (p : TimingPair) : Rat :=
  let level := fun (f : Int) => 16 * (symbolLevel (tentative ((f : Rat) / 4)) : Rat)
  ((p.z : Rat) * level p.fPrev - p.zPrev * level p.f) / 4

/-- A value put into an ascending list. -/
def insertInt (x : Int) : List Int → List Int
  | [] => [x]
  | y :: t => if x ≤ y then x :: y :: t else y :: insertInt x t

/-- The value of a list below which this fraction of it lies (R107; DESIGN CHOICE, log 115: the quantile of a list
of N values is the one in place floor(q N), counted from 0). -/
def quantileOf (q : Rat) (l : List Int) : Int :=
  let t := l.foldr insertInt []
  t.getD (min (t.length - 1) (q * t.length).floor.toNat) 0

/-- The height in units of 1/4 LSB of the eye between the decided levels a and a + 1 (R107). -/
def eyeHeight (l : List RxSymbol) (a : Nat) : Int :=
  let at_ := fun b => (l.filter fun x => x.j.val / 16 == b).map RxSymbol.z
  quantileOf (1 / 1000) (at_ (a + 1)) - quantileOf (999 / 1000) (at_ a)

end Sys2Proof.Machine
end

