-- ==== Sys2Proof/Machine/PageCode.lean ====
section
/-! DEFINITION. The page code (R310, R311): RS(516,512) over GF(2^16) in each 16-bit column of a 4 KiB page, and the
rebuilding of erased words. -/

namespace Sys2Proof.Machine

/-- The field of the page code: x^16 + x^12 + x^3 + x + 1 (R310). -/
def pageField : Gf := { bits := 16, poly := 0x1100B }

/-- Column j of a page: bits [16j + 15:16j] of its 512 words (R310). -/
def State.pageColumn (s : State) (page j : Nat) : List Nat :=
  (List.range 512).map fun w => s.memNat (page + 8 * w + 2 * j) 2

/-- The four check symbols held beside a page for a column: word 0 is taken as the highest power (DESIGN CHOICE,
log 148). -/
def State.pageChecks (s : State) (page j : Nat) : List Nat := pageField.checks 4 (s.pageColumn page j)

/-- The power of word w in its column. -/
def wordPower (w : Nat) : Nat := 515 - w

/-- The locator of erased words. -/
def erasureLocator (rows : List Nat) : List Nat :=
  rows.foldl (fun l w => gfAdd l (pageField.scale (pageField.alpha (wordPower w)) 1 l)) [1]

/-- A column as read, with its check symbols, after the erased words are rebuilt (R311). -/
def rebuildColumn (column checks rows : List Nat) : List Nat :=
  let syn := pageField.syndromes 4 (column ++ checks)
  let loc := erasureLocator rows
  rows.foldl (fun c w => c.modify w (· ^^^ pageField.errorValue syn loc (wordPower w))) column

/-- The erased words of a page can be rebuilt: at most four of them, in an engine memory at most four in any one column
(R311); each with the columns that it touches. -/
def rebuildable (perColumn : Bool) (erased : List (Fin 512 × BitVec 4)) : Bool :=
  if perColumn then (List.range 4).all fun j => decide ((erased.filter fun e => e.2.getLsbD j).length ≤ 4)
  else decide (erased.length ≤ 4)

end Sys2Proof.Machine
end

