-- ==== Sys2Proof/Machine/MemOps.lean ====
section
/-! DEFINITION. Banks, Hallway accesses to the memories, and what an access finds in a word (chapter 12). -/

namespace Sys2Proof.Machine

open Reg

/-! ### Banks (Table 12-4) -/

/-- Memory codes of Table 12-6. -/
def memCellar : Fin 4 := 0
def memPantry : Fin 4 := 1
def memEngine : Fin 4 := 2
def memPath : Fin 4 := 3

/-- The bank that holds a Hallway address of the memories. -/
def bankOf (a : Nat) : Option Nat :=
  if a < 0x01000000 then some (a / 0x40000)
  else if a < 0x01040000 then some 64
  else if 0x02000000 ≤ a ∧ a < 0x04000000 then some (65 + (a - 0x02000000) / 0x40000)
  else if 0x04000000 ≤ a ∧ a < 0x04C00000 then
    let r := (a - 0x04000000) / 0xC0000
    let e := (a - 0x04000000) % 0xC0000 / 0x3000
    let o := (a - 0x04000000) % 0x3000
    some (if o < 0x1000 then 194 + 3 * r else if e < 32 then 195 + 3 * r else 196 + 3 * r)
  else none

/-- The memory code of a bank. -/
def memOf (b : Nat) : Fin 4 :=
  if b ≤ 64 then memCellar else if b ≤ 193 then memPantry else if b ≤ 242 then memEngine else memPath

/-- The address of a 64-bit unit of a bank; `none` in the datapath buffers and in a spare bank. -/
def unitAddr (b u : Nat) : Option Nat :=
  if b ≤ 63 then some (b * 0x40000 + 8 * u)
  else if b = 64 then some (0x01000000 + 8 * u)
  else if b ≤ 192 then some (0x02000000 + (b - 65) * 0x40000 + 8 * u)
  else if b = 193 then none
  else if b ≤ 241 then
    let r := (b - 194) / 3
    let k := (b - 194) % 3
    let base := 0x04000000 + r * 0xC0000
    some (if k = 0 then base + u / 512 * 0x3000 + 8 * (u % 512)
      else base + ((k - 1) * 32 + u / 1024) * 0x3000 + 0x1000 + 8 * (u % 1024))
  else none

/-- The range of a bank's contents on the Hallway, as the ranges that hold it. -/
def bankRanges (b : Nat) : List (Nat × Nat) :=
  if b ≤ 63 then [(b * 0x40000, 0x40000)]
  else if b = 64 then [(0x01000000, 0x40000)]
  else if b ≤ 192 then [(0x02000000 + (b - 65) * 0x40000, 0x40000)]
  else if b = 193 then []
  else if b ≤ 241 then
    let r := (b - 194) / 3
    let k := (b - 194) % 3
    let base := 0x04000000 + r * 0xC0000
    if k = 0 then (List.range 64).map fun e => (base + e * 0x3000, 0x1000)
    else (List.range 32).map fun e => (base + ((k - 1) * 32 + e) * 0x3000 + 0x1000, 0x2000)
  else []

def State.setRetLost (s : State) (b : Nat) (v : Bool) : State :=
  s.setFlag memProtBase (retLostBit b) v

/-- The contents of a bank go: zeros, and in the engine memories of rooms 0 to 14 the images that the
firmware reloads (R320). -/
def State.wipeBank (s : State) (b : Nat) : State := s.each (bankRanges b) fun e s => s.wipe e.1 e.2

/-! ### The Pantry's banks -/

/-- The table of a Pantry bank. -/
def bankTable (b : Nat) : Nat := (b - 65) / 8

/-- A table is stale (R173). -/
def State.tableStale (s : State) (t : Nat) : State :=
  let f := if t % 2 = 0 then PL_STATUS_STALE_E else PL_STATUS_STALE_M
  (s.setFlag pantryBase (f.ix (t / 2)) true).raise 0x4102 t

/-! ### Words -/

/-- A word of the Cellar is in the lost-word table (R312). -/
def State.wordLost (s : State) (a : Nat) : Bool := s.memory.lost.contains (a - a % 8)

/-- Writes 0 to the count of the lost-word table. -/
def State.setLost (s : State) (l : List Nat) : State :=
  { s with memory := { s.memory with lost := l } }.setFld memProtBase RETIRE_STATUS_LOST_WORDS l.length

/-- The Cellar page that a spare page serves, if any. -/
def State.sparePage (s : State) (k : Nat) : Option Nat :=
  if s.flag memProtBase (RETIRE_MAP_VALID.ix k) || s.flag memProtBase (RETIRE_MAP_COPYING.ix k) then
    some (s.fld memProtBase (RETIRE_MAP_PAGE.ix k))
  else none

/-- A byte of the memories as an access reads it, and whether it comes with an error response (R304, R312,
R320). -/
def State.hallByte (s : State) (a : Nat) : Byte × Bool :=
  match bankOf a with
  | none => (0, true)
  | some b =>
    if s.retLost b then (0, true)
    else if b ≤ 63 && s.wordLost a then (0, true)
    else if 0x00BFA000 ≤ a ∧ a < 0x00C00000 then (0, false)
    else if b = 64 then
      match s.sparePage ((a - 0x01000000) / 0x1000) with
      | some p => (s.byte (p * 0x1000 + a % 0x1000), false)
      | none => (s.byte a, false)
    else (s.byte a, false)

/-- A 32-bit word as an access reads it: 0 with an error response. -/
def State.hallWord (s : State) (a : Nat) : Word × Bool :=
  let bs := (List.range 4).map fun i => s.hallByte (a + i)
  if bs.any (·.2) then (0, true) else (BitVec.ofNat 32 (leNat (bs.map (·.1))), false)

/-- An access outside every range of Table 12-1 (R304). -/
def State.unmapped (s : State) (a : Nat) : State := s.raise 0x4033 (a / 0x10000)

/-- A write to the memories (R172, R304, R305, R312, R320): discarded in a lost bank, in the spare pages, in
the reserved range and in the Pantry; a full 64-bit word leaves the lost-word table. -/
def State.hallWrite (s : State) (a : Nat) (bs : List Byte) : State :=
  match bankOf a with
  | none => s.unmapped a
  | some b =>
    if b = 64 then s.unmapped a
    else if 65 ≤ b ∧ b ≤ 192 then s.raise 0x4105 (bankTable b)
    else if s.retLost b ∨ (0x00BFA000 ≤ a ∧ a < 0x00C00000) then s
    else
      let gone := s.memory.lost.filter fun w => decide (a ≤ w ∧ w + 8 ≤ a + bs.length)
      let s := s.setBytes a bs
      if gone = [] then s else s.setLost (s.memory.lost.filter fun w => !gone.contains w)

/-! ### Findings (R309 to R315) -/

/-- Enters a detection in a log: an entry for the word already there counts it and becomes the newest; a full
log loses its oldest (R314). -/
def eccEnter (log : List EccEntry) (e : EccEntry) : List EccEntry × Bool :=
  match log.find? fun x => x.addr == e.addr with
  | some old =>
    ({ old with repeats := satNat 11 (old.repeats + 1), hard := old.hard || e.hard,
                uncorr := old.uncorr || e.uncorr, bit := if e.uncorr then 0x7F else old.bit } ::
      log.filter fun x => x.addr != e.addr, false)
  | none => if 32 ≤ log.length then (e :: log.take 31, true) else (e :: log, false)

def State.setEccLog (s : State) (m : Fin 4) (l : List EccEntry) : State :=
  { s with memory := { s.memory with logs := s.memory.logs.set m l } }.setFld memProtBase
    (MEM_LOG_VALID.ix m.val) l.length

/-- Logs a detection. -/
def State.eccLog (s : State) (m : Fin 4) (e : EccEntry) : State :=
  let (l, ovr) := eccEnter s.memory.logs[m] e
  (s.setEccLog m l).when ovr fun s => s.bump memProtBase (MEM_LOG_OVERFLOW.ix m.val)

/-- The words of a Cellar page beyond repair go to the lost-word table; when it is full they read 0 with
no error response (R312). -/
def State.cellarLost (s : State) (page : Nat) (lost : List (Fin 512)) : State :=
  s.each lost fun w s =>
    let a := page + 8 * w.val
    let s := s.wipe a 8
    if s.memory.lost.contains a then s
    else if s.memory.lost.length < 64 then s.setLost (s.memory.lost ++ [a])
    else (s.setFlag memProtBase RETIRE_STATUS_LOST_OVERFLOW true).raise 0x4034 0

/-- A page that cannot be rebuilt (R312). -/
def State.pageLost (s : State) (m : Fin 4) (bank a : Nat) (lost : List (Fin 512)) : State :=
  let page := a - a % 0x1000
  let s := (s.bump memProtBase (MEM_LOG_PAGES_LOST.ix m.val)).raise (0x4020 + m.val) bank
  if m = memCellar then s.cellarLost page lost
  else if m = memPantry then (s.wipe page 0x1000).tableStale ((a - 0x02000000) / 0x200000)
  else
    let r := Fin.ofNat 16 ((a - 0x04000000) / 0xC0000)
    let e := (a - 0x04000000) % 0xC0000 / 0x3000
    (s.wipe page 0x1000).engineFault r e (if (a - 0x04000000) % 0x3000 < 0x1000 then 4 else 5)

/-- A reconstruction of a page begins (R311). -/
def State.rebuildStart (s : State) (p : PageId) : State :=
  if s.memory.rebuilding.contains p then s
  else { s with memory := { s.memory with rebuilding := s.memory.rebuilding ++ [p] } }

/-- What a visit to a word finds (R309 to R314): `a` is the logged address; FOUND_BY is 0 read, 1 scrubber,
2 merge, 3 retirement copy. -/
def State.wordFound (s : State) (bank a foundBy : Nat) : WordFinding → State
  | .clean => s
  | .corrected bit hard =>
    let m := memOf bank
    let s := (s.bump memProtBase (MEM_CE_CE_COUNT.ix m.val)).countEvent 0x6001 1
    let s := { s with memory := { s.memory with ceCounts := s.memory.ceCounts.set m (s.memory.ceCounts[m] + 1) } }
    let s := s.eccLog m { addr := a, bank := bank, bit := bit.toNat, hard := hard, uncorr := false,
                          rebuilt := false, foundBy := foundBy, repeats := 0 }
    s.when hard fun s => s.raise 0x4030 (m.val * 0x4000 + bank)
  | .uncorrectable erased =>
    let m := memOf bank
    let s := s.bump memProtBase (MEM_UNC_UNCORR.ix m.val)
    let s := s.eccLog m { addr := a, bank := bank, bit := 0x7F, hard := false, uncorr := true,
                          rebuilt := false, foundBy := foundBy, repeats := 0 }
    let s := s.raise (0x4010 + m.val) bank
    if m = memPath ∧ erased = [] then s
    else if m = memPath ∨ rebuildable (m == memEngine) erased then
      s.rebuildStart { mem := m, bank := BitVec.ofNat 9 bank, addr := if m = memPath then 0 else a - a % 0x1000 }
    else s.pageLost m bank a (erased.map Prod.fst)

/-- The finding of a read of a byte of the memories. -/
def State.readFound (s : State) (a foundBy : Nat) (f : WordFinding) : State :=
  match bankOf a with
  | some b => s.wordFound b (a - a % 8) foundBy f
  | none => s

end Sys2Proof.Machine
end

