-- ==== Sys2Proof/Machine/Census.lean ====
section
/-! DEFINITION. The census updaters: sampling, and the update of tables E and M (chapter 7). -/

namespace Sys2Proof.Machine

open Reg

/-! ### Entries -/

def tableE (n : Fin 8) : Nat := 2 * n.val
def tableM (n : Fin 8) : Nat := 2 * n.val + 1

/-- The bank of an entry. -/
def entryBank (t c : Nat) : Nat := 65 + (tableAddr t c - 0x02000000) / 0x40000

def State.entryOf (s : State) (t c : Nat) : Nat := s.memNat (tableAddr t c) 2
def State.setEntry (s : State) (t c v : Nat) : State := s.setMemNat (tableAddr t c) 2 v

/-- An entry of table M as a signed number of 1/256 LSB (Table 7-2). -/
def State.meanOf (s : State) (n : Fin 8) (c : Nat) : Int := bitsInt 16 (s.entryOf (tableM n) c)

/-- Fields of the Pantry block. -/
def pl (n : Fin 8) (f : Field) : Field := f.ix n.val

/-- M_DECAY as it acts (Table 7-6). -/
def State.mDecay (s : State) : Nat := min 12 (max 2 (s.fld pantryBase PANTRY_CTRL_M_DECAY))

/-- Samples that a derivation needs, and samples of a window of R177: 2^(M_DECAY + 22). -/
def State.censusNeed (s : State) : Nat := 2 ^ (s.mDecay + 22)

/-! ### Sampling (R164, R166) -/

/-- The lane is sampling (R166). -/
def State.sampling (s : State) (n : Fin 8) : Bool :=
  s.flag (lineBase n) FEC_STATUS_IN_FRAME && !s.flag pantryBase (pl n PL_CTRL_FREEZE) &&
    !s.flag pantryBase (pl n PL_STATUS_CLEARING) && s.domOn 2 && !s.deepHolds 2 &&
    !s.flag pantryBase (pl n PL_STATUS_UPDATER_FAIL)

/-- One step of the generator x^16 + x^14 + x^13 + x^11 + 1 (R166).  DESIGN CHOICE (log 134): the spec gives the
polynomial and the seed; the register shifts towards bit 0, stage k of the polynomial is bit 16 − k, and the feedback
enters at bit 15. -/
def lfsrStep (v : BitVec 16) : BitVec 16 :=
  let b := Bool.xor (Bool.xor (v.getLsbD 0) (v.getLsbD 2)) (Bool.xor (v.getLsbD 3) (v.getLsbD 5))
  (v >>> 1) ||| (if b then 0x8000 else 0)

/-- SAMPLE_DIV as it acts, in line datapath clocks (Table 7-7). -/
def State.sampleDiv (s : State) (n : Fin 8) : Nat := max 14 (s.fld pantryBase (pl n PL_CTRL_SAMPLE_DIV))

/-- A sample is due: SAMPLE_DIV line datapath clocks, 17 of them in 15 core ticks, have passed since the last one, to
within the core tick that its time is known to (R166, log 134). -/
def State.sampleDue (s : State) (n : Fin 8) : Bool :=
  match s.pantry.lanes[n].lastSample with
  | some t => decide (15 * s.sampleDiv n < 17 * (s.tick - t + 1))
  | none => true

/-- The symbol that a sample takes within its line datapath clock: bits [7:0] of the generator, [6:0] in 200G line mode
(R166).  The first sample takes it from the seed (log 134). -/
def State.samplePlace (s : State) (n : Fin 8) : Nat :=
  s.pantry.lanes[n].lfsr.toNat % (if s.line200 then 128 else 256)

/-- The symbol in a place of a datapath clock: the list starts five symbols before the clock's first one. -/
def censusAt (clock : List CensusSymbol) (place k : Nat) : CensusSymbol :=
  clock.getD (place + k) { a := 0, erased := false, ovr := false, zf := 0, corrected := false }

/-- The context of the symbol in a place (R164). -/
def censusContext (clock : List CensusSymbol) (place : Nat) : Nat :=
  (List.range 10).foldl (fun c k => 4 * c + (censusAt clock place k).a.val) 0

/-- The residual of the symbol in a place, in 1/256 LSB and within the range of table M (R167). -/
def State.censusResidual (s : State) (n : Fin 8) (clock : List CensusSymbol) (place : Nat) : Int :=
  let a := fun k => (censusAt clock place k).a.val
  let level := s.expectedLevel n (16 * a 5 + 4 * a 4 + a 3)
  satInt 16 (quantise (64 * ((censusAt clock place 5).zf - level)))

/-! ### Updates (R167, R168) -/

/-- The bank of a context is being zeroed for a retirement (R317). -/
def State.retiringBank (s : State) (b : Nat) : Bool :=
  match s.memory.retiring with
  | some (.bank x) => x == b
  | _ => false

/-- A page of the tables of a lane is being rebuilt (R168; DESIGN CHOICE, log 133: the updates of the lane wait for the
pages of its own tables). -/
def State.laneRebuilding (s : State) (n : Fin 8) : Bool :=
  s.memory.rebuilding.any fun p => p.mem == memPantry && (p.addr - 0x02000000) / 0x400000 == n.val

/-- Table E counts a corrected centre symbol; the first 0xFFFF raises E_SAT (R167, Table 7-7). -/
def State.countE (s : State) (n : Fin 8) (c : Nat) : State :=
  let v := s.entryOf (tableE n) c
  if v = 0xFFFF then s
  else
    let s := s.setEntry (tableE n) c (v + 1)
    if v + 1 = 0xFFFF ∧ ¬ s.flag pantryBase (pl n PL_STATUS_E_SAT) then
      (s.setFlag pantryBase (pl n PL_STATUS_E_SAT) true).raise 0x4101 n.val
    else s

/-- A correction that table E counts enters the windows of R177. -/
def PantryLane.hit (l : PantryLane) (window k : Nat) : PantryLane :=
  { l with
    hits := (k :: l.hits).takeWhile fun h => decide (k < h + window)
    judge := l.judge.map fun j =>
      if j.start < k ∧ k ≤ j.start + j.window then { j with after := j.after + 1 } else j }

/-- Table M moves towards the residual (R167). -/
def State.moveM (s : State) (n : Fin 8) (c : Nat) (r : Int) : State :=
  let m := s.meanOf n c
  s.setEntry (tableM n) c (intBits 16 (m + roundAway (((r - m : Int) : Rat) / (2 ^ s.mDecay : Nat))))

/-- An update reaches the tables, with a read and a write of an entry of each (log 156). -/
def State.censusApply (s : State) (n : Fin 8) (u : CensusUpdate) : State :=
  let w := s.censusNeed
  let s := s.each [false, false, true, true] fun write s => s.portRequest 0x21 2 write
  let s := s.when (u.corrected && s.flag pantryBase (pl n PL_CTRL_E_EN) && s.entryOf (tableE n) u.context != 0xFFFF)
    fun s => (s.countE n u.context).modPantry n fun l => l.hit w u.number
  s.when (s.flag pantryBase (pl n PL_CTRL_M_EN)) fun s => s.moveM n u.context u.residual

/-- The pending updates of a lane reach the tables once no page of them is being rebuilt (R168). -/
def State.censusDrain (s : State) (n : Fin 8) : State :=
  let q := s.pantry.lanes[n].queue
  if q = [] ∨ s.laneRebuilding n then s
  else (s.each q fun u s => s.censusApply n u).modPantry n fun l => { l with queue := [] }

/-- R168 excludes the symbol in a place: an ERASED output in its context, OVR on the symbol, a bank of its entries being
retired (R317), or no room for its update. -/
def State.censusExcluded (s : State) (n : Fin 8) (clock : List CensusSymbol) (place : Nat) : Bool :=
  let c := censusContext clock place
  (List.range 10).any (fun k => (censusAt clock place k).erased) || (censusAt clock place 5).ovr ||
    s.retiringBank (entryBank (tableE n) c) || s.retiringBank (entryBank (tableM n) c) ||
    decide (64 ≤ s.pantry.lanes[n].queue.length)

/-- A sample of a census updater, with the symbols of its line datapath clock from five before its first to four after its
last (R166 to R168). -/
def execCensusSample (n : Fin 8) (clock : List CensusSymbol) (s : State) : Result State Fault Refusal :=
  if s.sampling n && s.sampleDue n then
    let place := s.samplePlace n
    let out := s.censusExcluded n clock place
    let k := (s.pantry.lanes[n].samples + 1) % 2 ^ 48
    let u : CensusUpdate :=
      { context := censusContext clock place, corrected := (censusAt clock place 5).corrected,
        residual := s.censusResidual n clock place, number := k }
    let s := s.modPantry n fun l => { l with lfsr := lfsrStep l.lfsr, lastSample := some s.tick }
    if out then done (s.bump pantryBase (pl n PL_EXCL_X))
    else
      let s := s.modPantry n fun l => { l with samples := k }
      if s.laneRebuilding n then done (s.modPantry n fun l => { l with queue := l.queue ++ [u] })
      else done (s.censusApply n u)
  else unchanged s

end Sys2Proof.Machine
end

