-- ==== Sys2Proof/Machine/Memory.lean ====
section
/-! DEFINITION. The scrubber, reconstructions, and the retirement of pages and banks (chapter 12). -/

namespace Sys2Proof.Machine

open Reg

/-! ### Scrubber (R319) -/

/-- The scrubber visits a bank: its domain is on, or in an entry sequence before step E1. -/
def State.scrubs (s : State) (b : Nat) : Bool :=
  let d := s.bankDomain b
  s.domOn d || (s.fld powerBase (DOM_STATE.ix d) == 2 && s.fld powerBase (DOM_STEP.ix d) == 0)

/-- The first bank from `b` on that the scrubber visits, and whether the pass ended on the way. -/
def State.scrubFrom (s : State) : Nat → Nat → Bool → Option (Nat × Bool)
  | 0, _, _ => none
  | k + 1, b, wrapped =>
    if s.scrubs b then some (b, wrapped)
    else if b = 263 then s.scrubFrom k 0 true else s.scrubFrom k (b + 1) wrapped

/-- Units of a bank. -/
def bankUnits : Nat := 32768

/-- The bank whose contents a spare bank holds. -/
def State.servedBank (s : State) (b : Nat) : Option Nat :=
  if b = 193 ∧ s.flag memProtBase BANK_MAP_PANTRY_USED then some (s.fld memProtBase BANK_MAP_PANTRY_FOR)
  else if b = 242 ∧ s.flag memProtBase BANK_MAP_ENGINE_USED then some (s.fld memProtBase BANK_MAP_ENGINE_FOR)
  else none

/-- The address that the log gives a unit: in the datapath buffers 0xFF and the byte offset in the bank
(Table 12-5); in a spare bank that serves nothing, a free value (log 20). -/
def State.logAddr (s : State) (b u : Nat) : Nat × State :=
  if 243 ≤ b then (0xFF000000 + 8 * u, s)
  else match unitAddr ((s.servedBank b).getD b) u with
    | some a => (a, s)
    | none =>
      let (v, s) := s.fresh
      (v.toNat, s)

/-- Moves on to the next unit. -/
def State.scrubAdvance (s : State) (b u : Nat) : State :=
  let last := u + 1 == bankUnits
  let s := { s with memory := { s.memory with unit := if last then 0 else u + 1 } }
  let s := s.setFld memProtBase SCRUB_STATUS_BANK (if last then (b + 1) % 264 else b)
  s.when (last && b == 263) fun s => s.bump memProtBase SCRUB_STATUS_PASSES

/-- SCRUB_INTERVAL as it acts, in quarter core ticks per step (Table 12-9). -/
def State.scrubInterval (s : State) : Nat := max 4 (min 312500 (s.fld memProtBase SCRUB_CTRL_SCRUB_INTERVAL))

/-- The next step is one interval after the time at which this one was due, or after now when it comes an interval late. -/
def State.scrubTimed (s : State) : State :=
  let due := s.memory.scrubNext + s.scrubInterval
  { s with memory := { s.memory with
    scrubNext := if 4 * s.tick < due then due else 4 * s.tick + s.scrubInterval } }

/-- A step of the scrubber, when it is due: it checks one unit, corrects and logs. -/
def execScrubStep (f : WordFinding) (s : State) : Result State Fault Refusal :=
  if s.flag memProtBase SCRUB_CTRL_SCRUB_EN ∧ s.clock.running ∧ s.memory.scrubNext ≤ 4 * s.tick then
    let s := s.scrubTimed
    let cur := s.fld memProtBase SCRUB_STATUS_BANK
    match s.scrubFrom 264 cur false with
    | none => done s
    | some (b, wrapped) =>
      let u := if b = cur then s.memory.unit else 0
      let s := s.when wrapped fun s => s.bump memProtBase SCRUB_STATUS_PASSES
      let s := s.countEvent 0x6002 1
      let (a, s) := s.logAddr b u
      let s := match unitAddr ((s.servedBank b).getD b) u with
        | some x => s.hallAccess 18 x 8 false
        | none => s.portRequest 18 8 false
      done ((s.wordFound b a 1 f).scrubAdvance b u)
  else unchanged s

/-! ### Reconstructions and the correction rate -/

/-- The entries of a log that lie in a page are rebuilt. -/
def markRebuilt (p : PageId) (log : List EccEntry) : List EccEntry :=
  log.map fun e =>
    if e.uncorr && e.bank == p.bank.toNat && (p.mem == memPath || e.addr - e.addr % 0x1000 == p.addr) then
      { e with rebuilt := true }
    else e

/-- A reconstruction ends (R311). -/
def State.rebuildDone (s : State) (p : PageId) : State :=
  let s := { s with memory := { s.memory with
    rebuilding := s.memory.rebuilding.filter (· != p),
    logs := s.memory.logs.set p.mem (markRebuilt p s.memory.logs[p.mem]) } }
  let s := (s.bump memProtBase (MEM_UNC_REBUILDS.ix p.mem.val)).countEvent 0x6003 1
  s.each allLines fun n s => s.censusDrain n

def execPageReconstructDone (page : PageId) (s : State) : Result State Fault Refusal :=
  if s.memory.rebuilding.contains page then done (s.rebuildDone page) else unchanged s

/-- A second of a memory ends: CE_HIGH when it corrected more than CE_WARN words (R315; the seconds follow each other, DESIGN
CHOICE, log 149). -/
def execCeWindow (mem : Fin 4) (s : State) : Result State Fault Refusal :=
  let count := s.memory.ceCounts[mem]
  let s := { s with memory := { s.memory with ceCounts := s.memory.ceCounts.set mem 0 } }
  if s.fld memProtBase MP_CTRL_CE_WARN < count then
    done (s.raiseLimited (0x4000 + mem.val) (0x4000 + mem.val) (satNat 16 count))
  else done s

/-! ### Retirement (R316 to R318) -/

/-- Writes LAST_ERR. -/
def State.lastErr (s : State) (v : Nat) : State := s.setFld memProtBase RETIRE_STATUS_LAST_ERR v

def State.retireBusy (s : State) : Bool := s.flag memProtBase RETIRE_STATUS_BUSY

def State.setRetiring (s : State) (r : Option Retiring) : State :=
  { s with memory := { s.memory with retiring := r } }.setFlag memProtBase RETIRE_STATUS_BUSY r.isSome

/-- A spare page is free. -/
def State.spareFree (s : State) (k : Nat) : Bool :=
  !s.flag memProtBase (RETIRE_MAP_VALID.ix k) && !s.flag memProtBase (RETIRE_MAP_COPYING.ix k) &&
    !s.flag memProtBase (RETIRE_MAP_RETIRED.ix k)

def State.freeSpares (s : State) : List Nat := (List.range 64).filter s.spareFree

def State.refreshSpares (s : State) : State :=
  s.setFld memProtBase RETIRE_STATUS_CELLAR_SPARES s.freeSpares.length

/-- Step 1 of Table 12-7: the lowest free RETIRE_MAP takes the page. -/
def State.retirePage (s : State) (page : Nat) : State :=
  match s.freeSpares with
  | [] => s
  | k :: _ =>
    let old := (List.range 64).find? fun j =>
      s.flag memProtBase (RETIRE_MAP_VALID.ix j) && s.fld memProtBase (RETIRE_MAP_PAGE.ix j) == page
    let s := (s.setFlag memProtBase (RETIRE_MAP_COPYING.ix k) true).setFld memProtBase (RETIRE_MAP_PAGE.ix k) page
    (s.setRetiring (some (.page k page old))).refreshSpares

/-- The RETIREMENT record of the Attic, the standing image that goes with it, and RETIRED (R318, R442). -/
def State.retireNote (s : State) (spare detail : Nat) : State :=
  let s := s.raise 0x4031 detail
  let s := s.atticEvent 4 (leBytes 4 (spare * 0x10000 + detail) ++ leBytes 8 s.clock.deviceTime)
  if s.attic.available then { s with attic := { s.attic with standDue := true } } else s

/-- Findings of the copy of a page (R316 step 2). -/
def State.copyFound (s : State) (base : Nat) (found : List (Nat × WordFinding)) : State :=
  s.each found fun e s => s.readFound (base + 8 * e.1) 3 e.2

/-- Steps 3 and 4 of Table 12-7: the spare serves the page; an entry that served it before is freed and
marked RETIRED, and the spare page keeps what it held. -/
def State.pageRetired (s : State) (k page : Nat) (old : Option Nat) : State :=
  let s := match old with
    | some j =>
      let s := (s.wipe (0x01000000 + j * 0x1000) 0x1000).setBytes (0x01000000 + j * 0x1000) (s.bytes (page * 0x1000) 0x1000)
      (s.setFlag memProtBase (RETIRE_MAP_VALID.ix j) false).setFlag memProtBase (RETIRE_MAP_RETIRED.ix j) true
    | none => s
  let s := (s.setFlag memProtBase (RETIRE_MAP_COPYING.ix k) false).setFlag memProtBase (RETIRE_MAP_VALID.ix k) true
  let ret := s.attic.cellarRet.filter fun e => e.2 != page
  let s := { s with attic := { s.attic with cellarRet := ret ++ [(k, page)] } }
  let s := ((s.setRetiring none).refreshSpares).retireNote k page
  let s := s.complete 0x0300 page stOk []
  s.when s.freeSpares.isEmpty fun s => s.raise 0x4032 0

/-- The copy of a page completes; `found` is what the reads of its words found. -/
def execPageRetireDone (found : List (Fin 512 × WordFinding)) (s : State) : Result State Fault Refusal :=
  match s.memory.retiring with
  | some (.page k page old) =>
    done ((s.copyFound (page * 0x1000) (found.map fun e => (e.1.val, e.2))).pageRetired k page old)
  | _ => unchanged s

/-- A bank can be retired (R317). -/
def retirable (b : Nat) : Bool := decide (65 ≤ b ∧ b ≤ 192) || decide (194 ≤ b ∧ b ≤ 241)

/-- RETIRE in BANK_OP (R317, Table 12-8). -/
def State.bankRetire (s : State) (b : Nat) (init : Bool) : State :=
  let spare := if b ≤ 192 then RETIRE_STATUS_PANTRY_SPARE else RETIRE_STATUS_ENGINE_SPARE
  let err := if init then 3 else 0
  if !retirable b then s.lastErr 2
  else if s.retireBusy then s.lastErr 3
  else if !s.flag memProtBase spare then s.lastErr 1
  else ((s.setRetiring (some (.bank b))).setFlag memProtBase spare false).lastErr err

/-- INIT in BANK_OP (R320). -/
def State.bankInit (s : State) (b : Nat) : State :=
  if !s.retLost b then s.lastErr 2
  else if s.memory.init.isSome then s.lastErr 3
  else { s with memory := { s.memory with init := some b } }.lastErr 0

/-- A write of BANK_OP. -/
def State.bankOp (s : State) (b : Nat) (retire init : Bool) : State :=
  let s := s.setFld memProtBase BANK_OP_BANK b
  if retire then s.bankRetire b init else if init then s.bankInit b else s

def execBankRetire (bank : BitVec 9) (init : Bool) (s : State) : Result State Fault Refusal :=
  done (s.bankOp bank.toNat true init)

def execBankInit (bank : BitVec 9) (s : State) : Result State Fault Refusal :=
  done (s.bankOp bank.toNat false true)

/-- The spare bank is switched in: a Pantry bank restarts from 0, an engine bank was copied (R317, R173). -/
def State.bankRetired (s : State) (b : Nat) : State :=
  let pantry := decide (b ≤ 192)
  let s := if pantry then
      (s.setFlag memProtBase BANK_MAP_PANTRY_USED true).setFld memProtBase BANK_MAP_PANTRY_FOR b
    else (s.setFlag memProtBase BANK_MAP_ENGINE_USED true).setFld memProtBase BANK_MAP_ENGINE_FOR b
  let s := { s with attic := if pantry then { s.attic with pantryRet := some b } else { s.attic with engineRet := some b } }
  let s := s.setRetiring none
  let s := s.when pantry fun s => ((s.wipeBank b).setRetLost b false).tableStale (bankTable b)
  let s := s.retireNote (if pantry then 193 else 242) ((if pantry then 0x4000 else 0x8000) + b)
  s.raise 0x4032 (if pantry then 1 else 2)

/-- The retirement of a bank completes; `found` is what the copy of an engine bank found, by unit. -/
def execBankRetireDone (found : List (Fin 32768 × WordFinding)) (s : State) : Result State Fault Refusal :=
  match s.memory.retiring with
  | some (.bank b) =>
    let s := s.each found fun e s => match unitAddr b e.1.val with
      | some a => if b ≤ 192 then s else s.wordFound b a 3 e.2
      | none => s
    done (s.bankRetired b)
  | _ => unchanged s

/-- The bank that the firmware initialises and reloads next: the lowest one of the Cellar or of the engine memories of
rooms 0 to 14 that is RETENTION_LOST (R320; DESIGN CHOICE, log 107: the order, and that its end is the end of an INIT). -/
def State.firmwareBank (s : State) : Option Nat :=
  (List.range 242).find? fun b => (decide (b ≤ 64) || decide (194 ≤ b ∧ b ≤ 238)) && s.retLost b

/-- INIT ends: zeros and valid codes.  With no INIT of the host running, the firmware's own ends (R320). -/
def execBankInitDone (s : State) : Result State Fault Refusal :=
  match s.memory.init, s.firmwareBank with
  | some b, _ =>
    let s := { s with memory := { s.memory with init := none } }
    done ((s.wipeBank b).setRetLost b false)
  | none, some b => done ((s.wipeBank b).setRetLost b false)
  | none, none => unchanged s

/-! ### The log (R314) -/

/-- The bytes of a log entry (Table 12-5). -/
def EccEntry.bytes (e : EccEntry) : List Byte :=
  leBytes 4 e.addr ++ leBytes 4 (e.bank * 2 ^ 23 + e.bit * 2 ^ 16 + (if e.hard then 0x8000 else 0) +
    (if e.uncorr then 0x4000 else 0) + (if e.rebuilt then 0x2000 else 0) + e.foundBy * 0x800 + e.repeats)

/-- The reply of ECC_LOG_READ (Table 11-13). -/
def State.eccReply (s : State) (m : Fin 4) : List Byte :=
  let log := s.memory.logs[m]
  leBytes 4 (s.fld memProtBase (MEM_CE_CE_COUNT.ix m.val)) ++
  leBytes 2 (s.fld memProtBase (MEM_LOG_OVERFLOW.ix m.val)) ++ leBytes 1 log.length ++ [0] ++
  log.flatMap EccEntry.bytes ++ List.replicate (8 * (32 - log.length)) 0

/-- Its clear bit: the log and every field of Table 12-10. -/
def State.eccClear (s : State) (m : Fin 4) : State :=
  let s := s.setEccLog m []
  let s := (s.setFld memProtBase (MEM_CE_CE_COUNT.ix m.val) 0).setFld memProtBase (MEM_UNC_UNCORR.ix m.val) 0
  let s := (s.setFld memProtBase (MEM_UNC_REBUILDS.ix m.val) 0).setFld memProtBase (MEM_LOG_OVERFLOW.ix m.val) 0
  s.setFld memProtBase (MEM_LOG_PAGES_LOST.ix m.val) 0

end Sys2Proof.Machine
end

