-- ==== Sys2Proof/Machine/Pantry.lean ====
section
/-! DEFINITION. The census, the derived tables and the proposals (chapter 7). -/

namespace Sys2Proof.Machine

open Reg

/-! ### Freeze and clear (R170, R171) -/

def State.pantryFreeze (s : State) (n : Fin 8) (on : Bool) : State :=
  (s.setFlag pantryBase (pl n PL_CTRL_FREEZE) on).setFlag pantryBase (pl n PL_STATUS_FROZEN) on

def execPantryFreezeWrite (n : Fin 8) (on : Bool) (s : State) : Result State Fault Refusal :=
  done (s.pantryFreeze n on)

/-- A clear starts, or waits for its turn: one at a time, in ascending order. -/
def State.pantryClear (s : State) (n : Fin 8) : State :=
  let s := s.setFlag pantryBase (pl n PL_STATUS_CLEARING) true
  if s.pantry.clearing.isNone then { s with pantry := { s.pantry with clearing := some n } } else s

def execPantryClearWrite (n : Fin 8) (s : State) : Result State Fault Refusal := done (s.pantryClear n)

/-- The tables, S, X and the marks of a lane are cleared; its lost banks are restored (R171, R320).  DESIGN CHOICE (log
136): a comparison of R177 that is due is dropped, as its windows are. -/
def State.pantryWipe (s : State) (n : Fin 8) : State :=
  let s := s.wipe (tableAddr (tableE n) 0) 0x400000
  let s := s.each (List.range 16) fun k s => s.setRetLost (65 + 16 * n.val + k) false
  let s := s.modPantry n fun l =>
    { l with samples := 0, derived := none, queue := [], hits := [], judge := none, installS := 0, installE := 0 }
  let s := s.setFld pantryBase (pl n PL_EXCL_X) 0
  let s := (s.setFlag pantryBase (pl n PL_STATUS_STALE_E) false).setFlag pantryBase (pl n PL_STATUS_STALE_M) false
  (s.setFlag pantryBase (pl n PL_STATUS_E_SAT) false).setFlag pantryBase (pl n PL_STATUS_CLEARING) false

/-- Completes the PANTRY_CLEAR whose lanes are all clear. -/
def State.pantryClearSettle (s : State) : State :=
  match s.link.running.find? fun r => r.opcode == 0x0C02 with
  | some r =>
    if allLines.any fun n => r.arg.testBit n.val && s.flag pantryBase (pl n PL_STATUS_CLEARING) then s
    else s.complete 0x0C02 r.arg stOk []
  | none => s

def execPantryClearDone (n : Fin 8) (s : State) : Result State Fault Refusal :=
  if s.pantry.clearing = some n ∧ s.domOn 2 then
    let s := s.pantryWipe n
    let next := allLines.find? fun k => s.flag pantryBase (pl k PL_STATUS_CLEARING)
    done ({ s with pantry := { s.pantry with clearing := next } }.pantryClearSettle)
  else unchanged s

/-- An updater fails its check (R174); the detail word is not stated (log 16). -/
def execUpdaterFail (n : Fin 8) (s : State) : Result State Fault Refusal :=
  if s.flag pantryBase (pl n PL_STATUS_UPDATER_FAIL) ∨ ¬ s.domOn 2 then unchanged s
  else done ((s.setFlag pantryBase (pl n PL_STATUS_UPDATER_FAIL) true).raiseOpen (0x4110 + n.val))

/-! ### Derivation (R175, R178) -/

/-- The contexts whose five-symbol index is `idx`. -/
def contextsOf (idx : Nat) : List Nat :=
  (List.range 64).flatMap fun hi => (List.range 16).map fun lo => hi * 2 ^ 14 + idx * 16 + lo

/-- a[idx] of R175, in 1/256 LSB. -/
def State.censusMean (s : State) (n : Fin 8) (idx : Nat) : Rat :=
  meanRat ((contextsOf idx).map fun c => (s.meanOf n c : Rat))

/-- The canceller table of R175: t[idx] = sat10(round16(a[idx] − b[idx >> 4])). -/
def cancellerTable (a : List Rat) : List Int :=
  (List.range 1024).map fun idx =>
    let b := meanRat ((a.drop (idx / 16 * 16)).take 16)
    satInt 10 (roundAway (((a[idx]?).getD 0 - b) / 16))

/-- The proposal of R178. -/
def proposalOf (share : Nat) (t : List Int) : List Int :=
  t.map fun v => -(roundAway ((((min share 8 : Nat) : Int) * v : Int) / (8 : Rat)))

/-- A lane is eligible for a derivation. -/
def State.derivable (s : State) (n : Fin 8) : Bool :=
  let l := s.pantry.lanes[n]
  let period := s.fld pantryBase PANTRY_CTRL_DERIVE_PERIOD
  s.flag pantryBase PANTRY_CTRL_DERIVE_EN && s.taskRuns 14 (2 * n.val) && s.taskRuns 14 (2 * n.val + 1) && s.locked n &&
    !s.flag pantryBase (pl n PL_STATUS_STALE_M) && !s.flag pantryBase (pl n PL_STATUS_UPDATER_FAIL) &&
    decide (s.censusNeed ≤ l.samples) &&
    (match l.installTick with
      | some _ => decide (l.installS + s.censusNeed ≤ l.samples) || decide (l.samples < l.installS)
      | none => true) &&
    match l.derived with
    | some t => decide (t + period * ticksPerSecond ≤ s.tick)
    | none => true

/-- The lane that room 14 serves next: the first eligible one in ascending order (R175; DESIGN CHOICE, log 135: each pass
over the lanes starts behind the lane served last). -/
def State.servedNext (s : State) : Option (Fin 8) :=
  let from_ := fun (k : Nat) => Fin.ofNat 8 (s.pantry.next + k)
  ((List.range 8).map from_).find? s.derivable

/-- Room 14 derives and stages a canceller table, and a proposal (R175, R178). -/
def State.derive (s : State) (n : Fin 8) : State :=
  if s.flag pantryBase (pl n PL_STATUS_E_SAT) then s.pantryClear n
  else
    let t := cancellerTable ((List.range 1024).map (s.censusMean n))
    let p := proposalOf (s.fld pantryBase PANTRY_CTRL_PD_SHARE) t
    let formed := p.any (· != 0)
    s.modPantry n fun l => { l with
      table := t, installDue := true, derived := some s.tick, unsent := formed || l.unsent,
      proposal := if formed then p else l.proposal }

def execCancellerDerive (n : Fin 8) (s : State) : Result State Fault Refusal :=
  if s.servedNext = some n then
    done (({ s with pantry := { s.pantry with next := (n.val + 1) % 8 } }).derive n)
  else unchanged s

/-! ### Installation (R176, R177, R181) -/

/-- Entry `i` of a bank of a lane. -/
def State.bankEntry (s : State) (n : Fin 8) (r : FadeRegs) (bank i : Nat) : Int :=
  bitsInt 10 (s.fld (lineBase n) ((if bank = 0 then r.bank0 else r.bank1).ix i))

/-- Writes the entries of the bank that is not in force (R89): those that a running or pending fade turns away are
counted. -/
def State.writeBank (s : State) (n : Fin 8) (r : FadeRegs) (t : List Int) : State :=
  let bank := Fin.ofNat 2 (1 - s.fld (lineBase n) r.active)
  s.each (t.take 1024).zipIdx fun e s => s.bankWrite n r bank (Fin.ofNat 1024 e.2) (BitVec.ofInt 10 e.1) false

/-- ACTIVE_BANK and WR_REJECT of a pair of banks (R176 step 1). -/
def State.bankMarks (s : State) (n : Fin 8) (r : FadeRegs) : Nat × Nat :=
  (s.fld (lineBase n) r.active, s.fld (lineBase n) r.reject)

/-- The lane is ready for a swap of its canceller (R176 step 2). -/
def State.nlcReady (s : State) (n : Fin 8) : Bool :=
  s.locked n && !s.fadeBusy n nlcRegs && !s.changeWaits n

/-- The transmitter is ready for a swap of its pre-distortion bank (R181). -/
def State.pdReady (s : State) (n : Fin 8) : Bool :=
  s.txState n == 5 && !s.fadeBusy n pdRegs && !s.changeWaits n

/-- Corrections counted in the window of samples that ends now, and its samples (R177). -/
def State.windowNow (s : State) (n : Fin 8) : Nat × Nat :=
  let l := s.pantry.lanes[n]
  let w := s.censusNeed
  ((l.hits.filter fun h => decide (l.samples < h + w)).length, w)

/-- Room 14 requests a swap of the canceller: an install, or a swap back (R176 step 3, R177). -/
def State.nlcSwap (s : State) (n : Fin 8) (back : Bool) : State :=
  let w := s.windowNow n
  (s.modPantry n fun l => { l with
    installing := some back, before := if back then l.before else w, step := none,
    installDue := back && l.installDue, swapDue := false }).nlcEngineSwap n

/-- A host request of the same cycle is taken, and room 14's is rejected: it goes back to step 1 (R183). -/
def State.nlcBeaten (s : State) (n : Fin 8) : State :=
  ((s.nlcHostSwap n).bump (lineBase n) nlcRegs.busy).modPantry n fun l => { l with step := none, swapBusy := true }

/-- Step 1 of R176. -/
def State.nlcStage (s : State) (n : Fin 8) : State :=
  let m := s.bankMarks n nlcRegs
  (s.writeBank n nlcRegs s.pantry.lanes[n].table).modPantry n fun l => { l with step := some m }

/-- Steps 2 and 3 of R176: once the lane is ready, the bank is written again if ACTIVE_BANK or WR_REJECT has changed since
step 1, and the swap is requested. -/
def State.nlcRequest (s : State) (n : Fin 8) (hostSwap : Bool) : State :=
  if s.nlcReady n then
    let s := if s.pantry.lanes[n].step = some (s.bankMarks n nlcRegs) then s else s.nlcStage n
    if hostSwap then s.nlcBeaten n else s.nlcSwap n false
  else s.when hostSwap fun s => s.nlcHostSwap n

/-- The install of a staged canceller table from the step it stands at, or a swap back from step 2 (R176, R177; DESIGN
CHOICE, log 137: a swap back writes no bank and compares nothing). -/
def State.nlcInstall (s : State) (n : Fin 8) (hostSwap : Bool) : State :=
  let l := s.pantry.lanes[n]
  if l.swapDue then
    if s.nlcReady n then if hostSwap then s.nlcBeaten n else s.nlcSwap n true
    else s.when hostSwap fun s => s.nlcHostSwap n
  else if l.installDue && s.flag pantryBase PANTRY_CTRL_AUTO_NLC then
    (if l.step.isNone then s.nlcStage n else s).nlcRequest n hostSwap
  else s.when hostSwap fun s => s.nlcHostSwap n

/-- The pre-distortion table that a proposal asks for (R179). -/
def State.proposedTable (s : State) (n : Fin 8) (p : List Int) : List Int :=
  let c0 := bitsInt 12 (s.fld (lineBase n) (TX_FIR_CUR.ix 2))
  let bank := s.fld (lineBase n) pdRegs.active
  p.zipIdx.map fun e =>
    satInt 10 (s.bankEntry n pdRegs bank e.2 + roundAway ((e.1 * c0 : Int) / (256 : Rat)))

/-- Step 1 of R176 for a pre-distortion bank: the table is formed from the bank in force (R181). -/
def State.pdStage (s : State) (n : Fin 8) (due : PdDue) : State :=
  match due.proposal with
  | some p =>
    let m := s.bankMarks n pdRegs
    (s.writeBank n pdRegs (s.proposedTable n p)).modPantry n fun l => { l with pdDue := some { due with step := some m } }
  | none => s

/-- What room 14 still has to do with the pre-distortion bank, from the step it stands at (R181). -/
def State.pdInstall (s : State) (n : Fin 8) : State :=
  match s.pantry.lanes[n].pdDue with
  | some due =>
    let s := if due.step.isNone then s.pdStage n due else s
    if s.pdReady n then
      let marks := (s.pantry.lanes[n].pdDue.map PdDue.step).getD none
      let s := if due.proposal.isNone ∨ marks = some (s.bankMarks n pdRegs) then s else s.pdStage n due
      (s.modPantry n fun l => { l with pdDue := none, pdInstalling := some due }).pdSwap n
    else s
  | none => s

/-- Room 14 installs what waits for the lane: the canceller table of R176, or the pre-distortion table or swap back of
R181, which follows R176; `hostSwap` is a host write of 1 to SWAP of the canceller in the same cycle (R183). -/
def execCancellerInstall (n : Fin 8) (hostSwap : Bool) (s : State) : Result State Fault Refusal :=
  if s.taskRuns 14 (taskInstall n) then done ((s.nlcInstall n hostSwap).pdInstall n)
  else if hostSwap then done (s.nlcHostSwap n)
  else unchanged s

/-- The correction rate worsened by more than 1/16 (R177): the counts of two windows of one length. -/
def worse (before after : Nat) : Bool := decide (17 * before < 16 * after)

/-- The windows of R177 are compared, once the one after the install is complete. -/
def execInstallEvaluate (n : Fin 8) (s : State) : Result State Fault Refusal :=
  let l := s.pantry.lanes[n]
  match l.judge with
  | some j =>
    if s.taskRuns 14 (taskInstall n) ∧ j.start + j.window ≤ l.samples then
      let s := s.modPantry n fun l => { l with judge := none }
      if !worse j.before j.after then done s
      else match j.proposal with
        | some seq => done ((s.pantrySend n [0xC3, BitVec.ofNat 8 seq]).raise 0x4104 (0x100 + n.val))
        | none =>
          let s := s.bump pantryBase (pl n PL_STATUS_NLC_REVERTS)
          let s := (s.modPantry n fun l => { l with swapDue := true }).raise 0x4104 n.val
          done (s.nlcInstall n false)
    else unchanged s
  | none => unchanged s

/-! ### Proposals (R179 to R182) -/

/-- The bits of 128 entries of ten bits, first entry lowest (R180). -/
def partBits : List Int → Nat
  | [] => 0
  | v :: vs => intBits 10 v + 1024 * partBits vs

/-- A PROPOSE message (Table 7-4). -/
def proposeMessage (seq part : Nat) (p : List Int) : List Byte :=
  [0xC1, BitVec.ofNat 8 seq, BitVec.ofNat 8 part] ++ leBytes 160 (partBits ((p.drop (128 * part)).take 128))

/-- The eight messages of a proposal go to Tamid instance n. -/
def State.sendProposal (s : State) (n : Fin 8) (seq : Nat) : State :=
  let p := s.pantry.lanes[n].proposal
  s.each (List.range 8) fun k s => s.pantrySend n (proposeMessage seq k p)

/-- The staged proposal is sent.  DESIGN CHOICE (log 138): the window of R177 before its install ends here, since the far
end's swap request is not seen. -/
def execProposalSend (n : Fin 8) (s : State) : Result State Fault Refusal :=
  if s.taskRuns 14 (taskInstall n) ∧ s.flag pantryBase PANTRY_CTRL_PD_TAMID ∧ s.pantry.lanes[n].unsent then
    let seq := (s.fld pantryBase (pl n PL_DERIVE_PROP_SEQ_TX) + 1) % 256
    let w := s.windowNow n
    let s := s.setFld pantryBase (pl n PL_DERIVE_PROP_SEQ_TX) seq
    let s := s.modPantry n fun l => { l with unsent := false, awaiting := some (s.tick, false), sent := w }
    done (s.sendProposal n seq)
  else unchanged s

/-- Ten seconds without an ACK: once more, then PROPOSAL_LOST (R182). -/
def execProposalTimeout (n : Fin 8) (s : State) : Result State Fault Refusal :=
  if s.taskRuns 14 (taskInstall n) then
    match s.pantry.lanes[n].awaiting with
    | some (_, false) =>
      let s := s.modPantry n fun l => { l with awaiting := some (s.tick, true) }
      done (s.sendProposal n (s.fld pantryBase (pl n PL_DERIVE_PROP_SEQ_TX)))
    | some (_, true) => done ((s.modPantry n fun l => { l with awaiting := none }).raise 0x4106 n.val)
    | none => unchanged s
  else unchanged s

/-- The next Pantry message of an instance, if it is of this kind; with PD_TAMID = 0 no message is accepted
(R182). -/
def State.takeMessage (s : State) (n : Fin 8) (kind : Byte) : Option (List Byte × State) :=
  match s.tamid[n].messages with
  | m :: rest =>
    if m.head? = some kind ∧ s.taskRuns 14 (taskInstall n) then some (m, s.modTamid n fun t => { t with messages := rest })
    else none
  | [] => none

def State.proposalsOpen (s : State) : Bool := s.flag pantryBase PANTRY_CTRL_PD_TAMID

/-- The 128 entries of a part. -/
def partEntries (bytes : List Byte) : List Int :=
  let v := leNat bytes
  (List.range 128).map fun i => bitsInt 10 (v >>> (10 * i))

/-- The entries of a whole sequence. -/
def Assembly.entries (a : Assembly) : List Int :=
  (List.range 8).flatMap fun k =>
    partEntries (((a.parts.find? fun e => e.1 == k).map (·.2)).getD [])

def Assembly.whole (a : Assembly) : Bool := (List.range 8).all fun k => a.parts.any fun e => e.1 == k

/-- A complete sequence: its table is installed, or it is rejected (R181).  DESIGN CHOICE (log 139): a sequence that is
complete while an earlier install waits takes its place, and the earlier one is not acknowledged. -/
def State.proposalWhole (s : State) (n : Fin 8) (a : Assembly) : State :=
  let s := s.modPantry n fun l => { l with assembly := none }
  if s.flag pantryBase PANTRY_CTRL_AUTO_PD then
    (s.modPantry n fun l => { l with pdDue := some { seq := a.seq, proposal := some a.entries, step := none } }).pdInstall n
  else s.pantrySend n [0xC2, BitVec.ofNat 8 a.seq, 1]

/-- A PROPOSE part is collected (R181). -/
def execProposeReceived (n : Fin 8) (s : State) : Result State Fault Refusal :=
  match s.takeMessage n 0xC1 with
  | some (m, s) =>
    if !s.proposalsOpen then done s
    else
      let seq := ((m[1]?).getD 0).toNat
      let part := ((m[2]?).getD 0).toNat
      let a : Assembly := match s.pantry.lanes[n].assembly with
        | some a => if a.seq = seq then a else { seq := seq, since := s.tick, parts := [] }
        | none => { seq := seq, since := s.tick, parts := [] }
      let a := { a with parts := a.parts.filter (fun e => e.1 != part) ++ [(part, (m.drop 3).take 160)] }
      if a.whole then done (s.proposalWhole n a)
      else done (s.modPantry n fun l => { l with assembly := some a })
  | none => unchanged s

/-- An ACK (R182): result 0 sets the install point. -/
def execAckReceived (n : Fin 8) (s : State) : Result State Fault Refusal :=
  match s.takeMessage n 0xC2 with
  | some (m, s) =>
    let seq := ((m[1]?).getD 0).toNat
    let known := s.pantry.lanes[n].awaiting.isSome && seq == s.fld pantryBase (pl n PL_DERIVE_PROP_SEQ_TX)
    if s.proposalsOpen && known then
      let s := s.modPantry n fun l => { l with awaiting := none }
      if m[2]? = some 0 then done (s.installPoint n (some seq)) else done s
    else done s
  | none => unchanged s

/-- A REVERT of the last sequence installed (R181).  DESIGN CHOICE (log 139): it takes the place of an install that
waits. -/
def execRevertReceived (n : Fin 8) (s : State) : Result State Fault Refusal :=
  match s.takeMessage n 0xC3 with
  | some (m, s) =>
    let seq := ((m[1]?).getD 0).toNat
    if s.proposalsOpen && s.pantry.lanes[n].pdLast == some seq then
      let s := s.bump pantryBase (pl n PL_STATUS_PD_REVERTS)
      let s := s.modPantry n fun l => { l with pdLast := none, pdDue := some { seq := seq, proposal := none, step := none } }
      done (s.pdInstall n)
    else done s
  | none => unchanged s

/-- Ten seconds after its first part, an incomplete sequence is answered with ACK result 2 (R181). -/
def execProposalAssemblyTimeout (n : Fin 8) (s : State) : Result State Fault Refusal :=
  match s.pantry.lanes[n].assembly with
  | some a =>
    done ((s.modPantry n fun l => { l with assembly := none }).pantrySend n [0xC2, BitVec.ofNat 8 a.seq, 2])
  | none => unchanged s

/-! ### Read-out (R172) -/

/-- Entries of an object of Table 7-3 from an index, as 16-bit values: those of a lost bank read 0 (R320). -/
def State.objectEntries (s : State) (obj first count : Nat) : List Nat :=
  (List.range count).map fun i =>
    let c := first + i
    if obj < 16 then
      if s.retLost (entryBank obj c) then 0 else s.entryOf obj c
    else
      let l := s.pantry.lanes[Fin.ofNat 8 (obj % 8)]
      intBits 16 (((if obj < 0x18 then l.table else l.proposal)[c]?).getD 0)

end Sys2Proof.Machine
end

