-- ==== Sys2Proof/Machine/ChainOps.lean ====
section
/-! DEFINITION. The operations of the monitor filter chains that other chapters share (R380 to R388). -/

namespace Sys2Proof.Machine

open Reg

def State.modChain (s : State) (j : Fin 24) (f : ChainState → ChainState) : State :=
  { s with chain := s.chain.set j (f s.chain[j]) }

def allChains : List (Fin 24) := List.finRange 24

/-- The register block of a chain. -/
def mcBase (j : Fin 24) : Nat := chainBase j.val

def State.chainRuns (s : State) (j : Fin 24) : Bool := s.flag (mcBase j) MC_STATUS_RUNNING

/-- The chain belongs to a Tamid instance that receives by direct sampling (R380, R415). -/
def State.chainOwned (s : State) (j : Fin 24) : Bool := s.flag (mcBase j) MC_STATUS_OWNED

/-- CIC_R as it acts: 8 to 4,096; 16 while OWNED (Table 15-10, R415). -/
def State.cicR (s : State) (j : Fin 24) : Nat :=
  if s.chainOwned j then 16 else max 8 (min 4096 (s.fld (mcBase j) MC_CFG_CIC_R))

/-- TAPS as it acts: 1 to 128; 63 while OWNED. -/
def State.mcTaps (s : State) (j : Fin 24) : Nat :=
  if s.chainOwned j then 63 else max 1 (min 128 (s.fld (mcBase j) MC_CFG_TAPS))

/-- The chain uses the minimum-phase half-bands. -/
def State.minPhase (s : State) (j : Fin 24) : Bool :=
  !s.chainOwned j && s.flag (mcBase j) MC_CFG_MIN_PHASE

/-- SETTLING outputs after an origin: ceil(TAPS / 4) + 22 (R384). -/
def State.settlingOutputs (s : State) (j : Fin 24) : Nat := (s.mcTaps j + 3) / 4 + 22

/-- Coefficient h(k) of a bank; an OWNED chain runs its fixed low-pass set (R381, R415). -/
def State.bankCoef (s : State) (j : Fin 24) (bank : Bool) (k : Nat) : Int :=
  if s.chainOwned j then (Config.ownedTap k).toInt
  else bitsInt 18 (s.fld (mcBase j) ((if bank then MC_B1_COEF else MC_B0_COEF).ix k))

/-- Coefficient h(k) of the bank in force. -/
def State.coef (s : State) (j : Fin 24) (k : Nat) : Int :=
  s.bankCoef j (s.flag (mcBase j) MC_STATUS_ACTIVE_BANK) k

/-- fs_in in GS/s: 85/192 for a line chain, 53125/128000 for a host chain (R380). -/
def fsIn (j : Fin 24) : Rat := if j.val < 8 then 85 / 192 else 53125 / 128000

/-- The group delay in ns, `none` when Σ h(k) = 0 (R382).  The fixed set of an OWNED chain is symmetric,
so its mean index is 31. -/
def State.groupDelay (s : State) (j : Fin 24) : Option Nat :=
  let r : Rat := s.cicR j
  let taps := List.range (s.mcTaps j)
  let sum := (taps.map fun k : Nat => s.coef j k).foldl (· + ·) (0 : Int)
  let first := (taps.map fun k : Nat => Int.ofNat k * s.coef j k).foldl (· + ·) (0 : Int)
  let centre : Option Rat :=
    if s.chainOwned j then some 31 else if sum = 0 then none else some ((first : Rat) / sum)
  centre.map fun c =>
    let hb : Rat := if s.minPhase j then 9 else 33
    let base := 2 * (r - 1) / fsIn j + (c + hb) * r / fsIn j
    let skew : Rat := if s.flag (mcBase j) MC_STATUS_FALLBACK then 128 * j.val else 0
    (roundAway (base + skew)).toNat

/-- GROUP_DELAY is recomputed (R382). -/
def State.refreshDelay (s : State) (j : Fin 24) : State :=
  s.setFld (mcBase j) MC_STATUS_GROUP_DELAY (match s.groupDelay j with
    | some d => satNat 20 d
    | none => 0xFFFFF)

/-- A new origin: zeroed history, and the first outputs carry SETTLING (R384, R386). -/
def State.newOrigin (s : State) (j : Fin 24) : State :=
  let k := s.settlingOutputs j
  s.modChain j fun c => { c with filter := ChainFilter.init, settling := k, rmsSum := 0, rmsCount := 0 }

/-- Chains that the fall-back serves. -/
def State.served (s : State) : Nat := (allChains.filter fun j => s.flag (mcBase j) MC_STATUS_FALLBACK).length

def State.setFallback (s : State) (j : Fin 24) (on : Bool) : State :=
  (s.setFlag (mcBase j) MC_STATUS_FALLBACK on).setFlag chainCtlBase ⟨0xF000, j.val, 1, 0⟩ on

/-- The fall-back can take a chain: it serves fewer than four and CIC_R is at least 32 (R388). -/
def State.fallbackFree (s : State) (j : Fin 24) : Bool := decide (s.served < 4) && decide (32 ≤ s.cicR j)

/-- The chain moves to the fall-back, with a new origin (R388, R382). -/
def State.toFallback (s : State) (j : Fin 24) : State :=
  (((s.setFallback j true).newOrigin j)).refreshDelay j

/-- A STOPPED chain starts (R383); it leaves a fall-back that FORCE_FB alone had asked for (R388).  A
LOST chain stays as it is. -/
def State.chainStart (s : State) (j : Fin 24) : State :=
  let b := mcBase j
  if s.chainRuns j || s.flag b MC_STATUS_LOST || !s.domOn (chainDomain j.val) then s
  else
    let s := if s.flag b MC_STATUS_FALLBACK && !s.flag b MC_CTRL_FORCE_FB && !s.chain[j].faulted then
        s.setFallback j false
      else if s.flag b MC_CTRL_FORCE_FB && !s.flag b MC_STATUS_FALLBACK && s.fallbackFree j then
        s.setFallback j true
      else s
    ((s.setFlag b MC_STATUS_RUNNING true).newOrigin j).refreshDelay j

/-- A chain stops at once; a fade in progress ends on the incoming bank (R383, Table 15-6). -/
def State.chainStop (s : State) (j : Fin 24) : State :=
  let b := mcBase j
  let s := if s.flag b MC_STATUS_FADING then
      (s.setFld b MC_STATUS_ACTIVE_BANK (1 - s.fld b MC_STATUS_ACTIVE_BANK)).setFlag b MC_STATUS_FADING false
    else s
  s.setFlag b MC_STATUS_RUNNING false

/-- A chain's RX domain goes off: it stops, and runs again when the domain is ready (R383). -/
def State.chainOff (s : State) (j : Fin 24) : State :=
  if s.chainRuns j then (s.chainStop j).modChain j fun c => { c with again := true } else s

def State.chainReady (s : State) (j : Fin 24) : State :=
  if s.chain[j].again then (s.modChain j fun c => { c with again := false }).chainStart j else s

/-- A sync event resets a running chain: new origin, and a fade completes there; a STOPPED chain with
START_ON_SYNC starts (R386, R383). -/
def State.chainSync (s : State) (j : Fin 24) : State :=
  let b := mcBase j
  if s.chainRuns j then
    let s := if s.flag b MC_STATUS_FADING then
        ((s.setFld b MC_STATUS_ACTIVE_BANK (1 - s.fld b MC_STATUS_ACTIVE_BANK)).setFlag b MC_STATUS_FADING
          false).refreshDelay j
      else s
    s.newOrigin j
  else if s.flag b MC_CTRL_START_ON_SYNC then s.chainStart j
  else s

/-- The firmware's default set of a phase kind in both banks (R383). -/
def State.loadDefault (s : State) (j : Fin 24) (minPhase : Bool) : State :=
  let b := mcBase j
  let s := s.setFlag b MC_CFG_MIN_PHASE minPhase
  s.each (List.range 128) fun k s =>
    (s.setFld b (MC_B0_COEF.ix k) (Config.defaultTap minPhase k).toNat).setFld b (MC_B1_COEF.ix k)
      (Config.defaultTap minPhase k).toNat

/-- A chain that the host has not loaded is stopped, reloaded and restarted (R383). -/
def State.chainReload (s : State) (j : Fin 24) (minPhase : Bool) : State :=
  if s.flag (mcBase j) MC_STATUS_HOST_LOADED || s.chainOwned j then s
  else
    let ran := s.chainRuns j
    let s := (s.chainStop j).loadDefault j minPhase
    if ran then s.chainStart j else s

end Sys2Proof.Machine
end

