-- ==== Sys2Proof/Machine/Chains.lean ====
section
/-! DEFINITION. The monitor filter chains (chapter 15, R380 to R388). -/

namespace Sys2Proof.Machine

open Reg

/-- A host write to a chain that belongs to a Tamid instance is ignored and counted (R380). -/
def State.mcReject (s : State) (j : Fin 24) : State := s.bump (mcBase j) MC_COUNTS_WR_REJECT

/-- START (R383): with START_ON_SYNC = 1 the chain waits for the next sync event. -/
def State.mcStart (s : State) (j : Fin 24) : State :=
  if s.chainOwned j then s.mcReject j
  else if s.flag (mcBase j) MC_CTRL_START_ON_SYNC then s
  else s.chainStart j

def execMcStart (j : Fin 24) (s : State) : Result State Fault Refusal := done (s.mcStart j)

/-- STOP (R383). -/
def State.mcStop (s : State) (j : Fin 24) : State :=
  if s.chainOwned j then s.mcReject j else s.chainStop j

def execMcStop (j : Fin 24) (s : State) : Result State Fault Refusal := done (s.mcStop j)

/-- ACTIVE_BANK changes and the group delay is recomputed (R385, R382). -/
def State.mcFlip (s : State) (j : Fin 24) : State :=
  let b := mcBase j
  ((s.setFld b MC_STATUS_ACTIVE_BANK (1 - s.fld b MC_STATUS_ACTIVE_BANK)).setFlag b MC_STATUS_FADING
    false).refreshDelay j

/-- SWAP (R385). -/
def State.mcSwap (s : State) (j : Fin 24) : State :=
  let b := mcBase j
  if s.chainOwned j then s.mcReject j
  else if s.flag b MC_STATUS_FADING then s.bump b MC_COUNTS_BUSY_COUNT
  else if s.chainRuns j then
    (s.setFlag b MC_STATUS_FADING true).modChain j fun c => { c with filter := { c.filter with fade := 0 } }
  else s.mcFlip j

def execMcSwap (j : Fin 24) (s : State) : Result State Fault Refusal := done (s.mcSwap j)

/-- MC_CFG or a bank entry takes a write only while STOPPED and not OWNED (R383, R380). -/
def State.mcWrite (s : State) (j : Fin 24) (offset : Nat) (value : Word) : State :=
  let b := mcBase j
  if s.chainOwned j || s.chainRuns j then s.mcReject j
  else if offset = MC_CFG_SEL.off then s.setReg (b + offset) (value &&& 0xC0FF1FFF)
  else if 0x200 ≤ offset ∧ offset < 0x600 ∧ offset % 4 = 0 then
    (s.setReg (b + offset) (value &&& 0x3FFFF)).setFlag b MC_STATUS_HOST_LOADED true
  else s

def execMcConfigWrite (j : Fin 24) (offset : BitVec 11) (value : Word) (s : State) :
    Result State Fault Refusal := done (s.mcWrite j offset.toNat value)

/-- FORCE_FB (R388): a healthy running chain moves at once if the fall-back can take it. -/
def State.mcForce (s : State) (j : Fin 24) (on : Bool) : State :=
  let b := mcBase j
  if s.chainOwned j then s.mcReject j
  else
    let s := s.setFlag b MC_CTRL_FORCE_FB on
    if on && s.chainRuns j && !s.flag b MC_STATUS_FALLBACK && s.fallbackFree j then s.toFallback j else s

def execMcForceFbWrite (j : Fin 24) (on : Bool) (s : State) : Result State Fault Refusal :=
  done (s.mcForce j on)

/-- The root of a mean square, rounded to the grid (R387, log 6). -/
def rootMean (sum count : Nat) : Nat :=
  let q : Rat := (sum : Rat) / count
  let f := Nat.sqrt q.floor.toNat
  if (f * f : Nat) = q then f else if Config.roundsUp q then f + 1 else f

/-- The envelope after an output (R387). -/
def envStep (e : Rat) (x att rel : Nat) : Rat :=
  if e < x then e + ((x : Rat) - e) / 2 ^ att else e + ((x : Rat) - e) / 2 ^ rel

/-- A non-SETTLING output feeds PEAK, RMS and ENV (R387). -/
def State.mcDetect (s : State) (j : Fin 24) (x : Nat) : State :=
  let b := mcBase j
  let s := s.setFld b MC_PEAK_PEAK (max (s.fld b MC_PEAK_PEAK) x)
  let c := s.chain[j]
  let e := envStep c.env x (s.fld b MC_DET_ATT) (s.fld b MC_DET_REL)
  let s := (s.setFld b MC_ENV_ENV (satNat 24 (quantise e).toNat)).modChain j fun c => { c with env := e }
  let sum := c.rmsSum + x * x
  let count := c.rmsCount + 1
  if 2 ^ s.fld b MC_DET_RMS_WIN ≤ count then
    (s.setFld b MC_RMS_RMS (satNat 24 (rootMean sum count))).modChain j fun c =>
      { c with rmsSum := 0, rmsCount := 0 }
  else s.modChain j fun c => { c with rmsSum := sum, rmsCount := count }

/-! ### The filters (R380, R381, R385) -/

/-- The input for two datapath clocks: the mean of their samples or of the squares, as SEL chooses (R380); a line sample is
in units of 1/4 LSB. -/
def chainInput (square : Bool) (samples : List Int) : Rat :=
  meanRat (samples.map fun y => ((if square then y * y else y : Int) : Rat))

/-- One running sum after another over the integrators. -/
def cicIntegrate : List Rat → Rat → List Rat
  | [], _ => []
  | v :: rest, x => (v + x) :: cicIntegrate rest (v + x)

/-- The combs: each takes the difference to its last input; with what the last one gives. -/
def cicComb : List Rat → Rat → List Rat × Rat
  | [], x => ([], x)
  | v :: rest, x => ((x :: (cicComb rest (x - v)).1), (cicComb rest (x - v)).2)

/-- A CIC output after the inputs of one decimation period, normalised to unity DC gain (R381). -/
def ChainFilter.cicOut (f : ChainFilter) (xs : List Rat) : ChainFilter × Rat :=
  let integ := xs.foldl cicIntegrate f.integ
  let (comb, y) := cicComb f.comb (integ.getLastD 0)
  ({ f with integ := integ, comb := comb }, y / (xs.length : Rat) ^ 4)

/-- A sum of taps over a history, newest first; what lies before the origin is 0. -/
def tapSum (taps : Nat) (h : Nat → Rat) (hist : List Rat) : Rat :=
  ((List.range taps).map fun k => h k * hist.getD k 0).foldl (· + ·) 0

/-- The FIR output of a bank over a history, its coefficients in units of 2^−17 (R381). -/
def State.firOut (s : State) (j : Fin 24) (bank : Bool) (hist : List Rat) : Rat :=
  tapSum (s.mcTaps j) (fun k => (s.bankCoef j bank k : Rat) / 2 ^ 17) hist

/-- FIR sample `i` of a fade (R385), to the grid of the output, 2^−8 (DESIGN CHOICE, log 143); after sample 63 the incoming
bank serves alone. -/
def firFade (i : Nat) (out inc : Rat) : Rat :=
  if 64 ≤ i then inc else (roundAway (256 * (((63 - i : Nat) : Rat) * out + ((i + 1 : Nat) : Rat) * inc) / 64) : Rat) / 256

/-- A FIR sample of the chain: the CIC output enters the history (R381, R385). -/
def State.firSample (s : State) (j : Fin 24) (f : ChainFilter) (x : Rat) : ChainFilter × Rat :=
  let hist := (x :: f.fir).take (s.mcTaps j)
  let bank := s.flag (mcBase j) MC_STATUS_ACTIVE_BANK
  if s.flag (mcBase j) MC_STATUS_FADING then
    ({ f with fir := hist, fade := min 64 (f.fade + 1) },
     firFade f.fade (s.firOut j bank hist) (s.firOut j (!bank) hist))
  else ({ f with fir := hist }, s.firOut j bank hist)

/-- A half-band over its history of 23 (R381). -/
def State.halfBand (s : State) (j : Fin 24) (hist : List Rat) : Rat :=
  tapSum 23 (Config.halfBandTap (s.minPhase j)) hist

/-- Two FIR samples and half-band stage 1. -/
def State.stageOne (s : State) (j : Fin 24) (f : ChainFilter) (xs ys : List Rat) : ChainFilter × Rat :=
  let (f, x) := f.cicOut xs
  let (f, a) := s.firSample j f x
  let (f, y) := f.cicOut ys
  let (f, b) := s.firSample j f y
  let hist := (b :: a :: f.half1).take 23
  ({ f with half1 := hist }, s.halfBand j hist)

/-- One output of the chain from the 4 × CIC_R inputs that it takes in, with the histories after it (R381). -/
def State.chainOut (s : State) (j : Fin 24) (inputs : List Rat) : ChainFilter × Rat :=
  let r := s.cicR j
  let (f, a) := s.stageOne j s.chain[j].filter (inputs.take r) ((inputs.drop r).take r)
  let (f, b) := s.stageOne j f ((inputs.drop (2 * r)).take r) ((inputs.drop (3 * r)).take r)
  let hist := (b :: a :: f.half2).take 23
  ({ f with half2 := hist }, s.halfBand j hist)

/-- An output of a running chain in units of 2^−8, before saturation, is published and detected (R381, R384, R387). -/
def State.mcPublish (s : State) (j : Fin 24) (value : Int) : State :=
  let b := mcBase j
  let v := satInt 24 value
  let clipped := decide (v ≠ value)
  let settling := decide (0 < s.chain[j].settling)
  let s := (s.setFld b MC_OUT_VALUE (intBits 24 v)).bumpMod b MC_OUT_SEQ
  let s := (s.setFlag b MC_OUT_OVF clipped).setFlag b MC_OUT_SETTLING settling
  let s := s.setFlag b MC_STATUS_OVF (s.flag b MC_STATUS_OVF || clipped)
  if settling then s.modChain j fun c => { c with settling := c.settling - 1 } else s.mcDetect j v.natAbs

/-- A running chain takes the samples of 4 × CIC_R pairs of datapath clocks and delivers one output (R380, R381). -/
def execMcOutput (j : Fin 24) (samples : List (List Int)) (s : State) : Result State Fault Refusal :=
  if s.chainRuns j ∧ samples.length = 4 * s.cicR j then
    let square := !s.chainOwned j && s.flag (mcBase j) MC_CFG_SEL
    let (f, y) := s.chainOut j (samples.map (chainInput square))
    done ((s.modChain j fun c => { c with filter := f }).mcPublish j (quantise (256 * y)))
  else unchanged s

/-- FIR sample 63 of a fade is over (R385). -/
def execMcFadeComplete (j : Fin 24) (s : State) : Result State Fault Refusal :=
  if s.flag (mcBase j) MC_STATUS_FADING then done (s.mcFlip j) else unchanged s

/-- A self-check fails (R388): the chain moves to the fall-back, or is LOST. -/
def execChainFault (j : Fin 24) (s : State) : Result State Fault Refusal :=
  let b := mcBase j
  let src := 0x6110 + j.val
  if s.chain[j].faulted || s.flag b MC_STATUS_LOST then unchanged s
  else if s.flag b MC_STATUS_FALLBACK then
    done ((s.modChain j fun c => { c with faulted := true }).raise src 0)
  else if s.fallbackFree j then
    done (((s.modChain j fun c => { c with faulted := true }).toFallback j).raise src 0)
  else done (((s.chainStop j).setFlag b MC_STATUS_LOST true).raise src 1)

end Sys2Proof.Machine
end

