-- ==== Sys2Proof/Machine/Checkers.lean ====
section
/-! DEFINITION. The pattern checkers of the line and host lanes: lock, prediction and counters (R160, R204). -/

namespace Sys2Proof.Machine

open Reg

/-- Symbols that a lane compares in a number of core ticks: 226.67 GBd on a line lane in 400G line mode and 212.5 GBd on a
host lane, half of each in 200G. -/
def lineSymbols (slow : Bool) (ticks : Nat) : Nat := (if slow then 2176 else 4352) * ticks / 15
def hostTickSymbols (slow : Bool) (ticks : Nat) : Nat := (if slow then 136 else 272) * ticks

/-- PAT_SYMS now: the symbols compared count on while the checker holds its lock. -/
def patCount (base : Nat) (since : Option Nat) (now : Nat) (symbols : Nat → Nat) : Nat :=
  match since with
  | some t => (base + symbols (now - t)) % 2 ^ 48
  | none => base

def State.linePatSyms (s : State) (n : Fin 8) : Nat :=
  let r := s.line[n].rx
  patCount r.patSyms r.patSince s.tick (lineSymbols s.line200)

def State.hostPatSyms (s : State) (m : Fin 16) : Nat :=
  let h := s.host[m]
  patCount h.patSyms h.patSince s.tick (hostTickSymbols (s.lanes.mode != 0))

/-- A checker's lock is set: it compares from now on. -/
def State.lineChkOn (s : State) (n : Fin 8) : State :=
  let b := lineBase n
  ((s.setFlag b RX_PAT_STATUS_CHK_LOCK true).bump b RX_PAT_STATUS_LOCK_COUNT).modRx n fun r =>
    { r with patSince := some s.tick }

def State.hostChkOn (s : State) (m : Fin 16) : State :=
  let b := hostBase m
  ((s.setFlag b HR_PAT_STATUS_CHK_LOCK true).bump b HR_PAT_STATUS_LOCK_COUNT).modHost m fun h =>
    { h with patSince := some s.tick }

/-- A checker's lock is lost, or its search starts again: PAT_SYMS stands. -/
def State.lineChkOff (s : State) (n : Fin 8) : State :=
  let v := s.linePatSyms n
  (s.setFlag (lineBase n) RX_PAT_STATUS_CHK_LOCK false).modRx n fun r => { r with patSyms := v, patSince := none }

def State.hostChkOff (s : State) (m : Fin 16) : State :=
  let v := s.hostPatSyms m
  (s.setFlag (hostBase m) HR_PAT_STATUS_CHK_LOCK false).modHost m fun h => { h with patSyms := v, patSince := none }

/-- Symbols in error, as expected and received, are counted (R160). -/
def State.linePatErrors (s : State) (n : Fin 8) (errors : List (Fin 4 × Fin 4)) : State :=
  let bad := errors.filter fun e => e.1 != e.2
  s.modRx n fun r => { r with
    patSymErr := (r.patSymErr + bad.length) % 2 ^ 48
    patBitErr := (r.patBitErr + (bad.map fun e => grayErrors e.1.val e.2.val).sum) % 2 ^ 48 }

def State.hostPatErrors (s : State) (m : Fin 16) (errors : List (Fin 4 × Fin 4)) : State :=
  let bad := errors.filter fun e => e.1 != e.2
  s.modHost m fun h => { h with
    patSymErr := (h.patSymErr + bad.length) % 2 ^ 48
    patBitErr := (h.patBitErr + (bad.map fun e => grayErrors e.1.val e.2.val).sum) % 2 ^ 48 }

/-- A symbol of the user pattern of a line lane (Table 6-9). -/
def State.lineUserSymbol (s : State) (n : Fin 8) (i : Nat) : Nat :=
  wordField (s.reg (lineBase n + 0x900 + 4 * (i / 16 % 64))) (2 * (i % 16)) 2

/-- A symbol of the user pattern of a host lane (Table 8-9). -/
def State.hostUserSymbol (s : State) (m : Fin 16) (i : Nat) : Nat :=
  wordField (s.reg (hostBase m + 0x800 + 4 * (i / 16 % 64))) (2 * (i % 16)) 2

/-- Whether 256 consecutive symbols come that a self-seeding checker predicts: `past` the symbols before, newest first,
and `run` those predicted in a row (R160). -/
def prbsTracks (sel : Nat) : List Nat → Nat → List Nat → Bool
  | _, run, [] => decide (256 ≤ run)
  | past, run, x :: rest =>
    if 256 ≤ run then true
    else
      let seeded := decide ((if sel = 1 then 7 else 16) ≤ past.length)
      prbsTracks sel ((x :: past).take 16) (if seeded && prbsExpects sel past == x then run + 1 else 0) rest

/-- The symbols follow a repeating pattern from some phase (R160). -/
def patternTracks (period : Nat) (pattern : Nat → Nat) (symbols : List Nat) : Bool :=
  decide (256 ≤ symbols.length) &&
    (List.range period).any fun p => symbols.zipIdx.all fun e => pattern ((p + e.2) % period) == e.1

/-- The symbols that a checker has received give it its lock (R160, R204). -/
def checkerTracks (sel : Nat) (user : Nat → Nat) (symbols : List Nat) : Bool :=
  if sel = 1 ∨ sel = 2 then prbsTracks sel [] 0 symbols
  else if sel = 3 then patternTracks 65535 (fun i => Config.ssprqSymbol i % 4) symbols
  else patternTracks 1024 user symbols

/-- More than 128 of up to 1,024 compared symbols are in error (R160). -/
def checkerLoses (compared : List (Fin 4 × Fin 4)) : Bool :=
  decide (compared.length ≤ 1024) && decide (128 < compared.countP fun e => e.1 != e.2)

end Sys2Proof.Machine
end

