-- ==== Sys2Proof/Machine/Inner.lean ====
section
/-! DEFINITION. The inner code as functions of nothing but their bits: the extended Hamming (128,120) code, its Chase-II
decoder, the frame marker, and the line-frame search (R110 to R120). -/

namespace Sys2Proof.Machine

/-! ### The inner code -/

/-- One step of the division by g(x) = x^7 + x^3 + 1 (R110, R111). -/
def syndromeStep (s : Nat) (b : Bool) : Nat :=
  let t := 2 * s + (if b then 1 else 0)
  if 128 ≤ t then t ^^^ 0x89 else t

/-- The syndrome of b0–b126 (R111). -/
def syndrome (bits : List Bool) : Nat := (bits.take 127).foldl syndromeStep 0

/-- The exclusive-OR of bits. -/
def parity (bits : List Bool) : Bool := bits.foldl Bool.xor false

/-- The position among b0–b126 that a non-zero syndrome names (R111). -/
def namedBit (s : Nat) : Option Nat :=
  (List.range 127).find? fun i => (List.replicate (126 - i) false).foldl syndromeStep 1 == s

/-- Inverts one bit. -/
def flipBit (bits : List Bool) (i : Nat) : List Bool := bits.modify i (!·)

/-- The hard decoder of R112. -/
def hardDecode (bits : List Bool) : List Bool :=
  let w := bits.take 127
  let s := syndrome bits
  let w := if s = 0 then w else match namedBit s with
    | some i => flipBit w i
    | none => w
  w ++ [parity w]

/-- The systematic encoder of R110: 120 message bits to a codeword of 128. -/
def innerEncode (msg : List Bool) : List Bool :=
  let r := (msg ++ List.replicate 7 false).foldl syndromeStep 0
  let w := msg ++ (List.range 7).map fun t => r.testBit (6 - t)
  w ++ [parity w]

/-- Inserts a bit index in ascending order of reliability, ties to the lower index (R119). -/
def insertByRel (rel : Nat → Nat) (k : Nat) : List Nat → List Nat
  | [] => [k]
  | x :: xs => if rel k < rel x then k :: x :: xs else x :: insertByRel rel k xs

/-- The L least reliable positions (R119). -/
def leastReliable (soft : List SoftBit) (l : Nat) : List Nat :=
  let rel := fun k => ((soft[k]?).map fun b => b.rel.val).getD 0
  ((List.range soft.length).foldl (fun acc k => insertByRel rel k acc) []).take l

/-- The metric of a candidate: the reliabilities of the bits where it differs (R120). -/
def chaseMetric (soft : List SoftBit) (y c : List Bool) : Nat :=
  ((List.zip (List.zip y c) soft).filterMap fun e =>
    if e.1.1 = e.1.2 then none else some e.2.rel.val).foldl (· + ·) 0

/-- The candidate of a test pattern (R119, R120). -/
def chaseCandidate (y : List Bool) (q : List Nat) (t : Nat) : List Bool :=
  hardDecode (q.zipIdx.foldl (fun w e => if t.testBit e.2 then flipBit w e.1 else w) y)

/-- The candidate with the lowest metric, ties to the lowest test pattern (R120). -/
def bestCandidate (soft : List SoftBit) (y : List Bool) (q : List Nat) : List Nat → List Bool
  | [] => y
  | t :: ts =>
    ts.foldl (fun best u =>
      let c := chaseCandidate y q u
      if chaseMetric soft y c < chaseMetric soft y best then c else best) (chaseCandidate y q t)

/-- The hard decisions of a codeword, with b120–b127 of a marker restored (R116). -/
def hardBits (soft : List SoftBit) (marker : Bool) : List Bool :=
  soft.zipIdx.map fun e => Bool.xor e.1.hard (marker && decide (120 ≤ e.2))

/-- The Chase-II decoder (R119, R120). -/
def chaseDecode (l : Nat) (soft : List SoftBit) (marker : Bool) : List Bool :=
  let y := hardBits soft marker
  bestCandidate soft y (leastReliable soft l) (List.range (2 ^ l))

/-- The bits of a list of pairs that differ. -/
def diffBits (y c : List Bool) : List Nat :=
  (List.zip y c).zipIdx.filterMap fun e => if e.1.1 = e.1.2 then none else some e.2

/-! ### The frame marker and the search for it (R116 to R118) -/

/-- The hard decisions of a word fail: s is not 0, or odd parity (R117, R118). -/
def wordFails (bits : List Bool) : Bool := syndrome bits != 0 || parity bits

/-- The word of a marker: s = 0x7F with even parity (R116, R117). -/
def isMarker (bits : List Bool) : Bool := syndrome bits == 0x7F && !parity bits

/-- b120 to b127 inverted: what the transmitter does to the codeword of a marker, and the receiver undoes (R116). -/
def invertMark (bits : List Bool) : List Bool := bits.zipIdx.map fun e => Bool.xor e.1 (decide (120 ≤ e.2))

/-- A marker mismatch at the expected marker codeword (R118). -/
def markerMissed (bits : List Bool) : Bool := wordFails (invertMark bits) && !wordFails bits

/-- The words of a candidate alignment that fail (R117). -/
def failingWords (words : List (List Bool)) : Nat := words.countP wordFails

/-- The candidate of a pass with the fewest failing words, at most 160 of them; ties to the lowest number (R117). -/
def bestAlignment : List (Fin 1024 × Nat) → Option (Fin 1024 × Nat)
  | [] => none
  | c :: rest =>
    match bestAlignment rest with
    | none => if c.2 ≤ 160 then some c else none
    | some d => if c.2 ≤ 160 ∧ (c.2 < d.2 ∨ (c.2 = d.2 ∧ c.1 < d.1)) then some c else some d

/-- The candidate that phase 1 keeps: 64 candidates make a pass, and the first pass with one that qualifies ends the
phase (R117). -/
def searchAlignment (f : FrameSearch) : Option (Fin 1024) :=
  ((List.range 16).findSome? fun p =>
    bestAlignment ((f.tested.filter fun c => c.1.val / 64 == p).map fun c => (c.1, failingWords c.2))).map Prod.fst

/-- Phase 2 over the places of marker words, ascending, from a place on: the place of the third of three that follow each
other by one line frame; a miss at the expected place starts the phase again there (R117). -/
def markerRun : List Nat → Nat → Option Nat
  | [], _ => none
  | p :: rest, start =>
    if p < start then markerRun rest start
    else if !rest.contains (p + 1088) then markerRun rest (p + 1088)
    else if !rest.contains (p + 2176) then markerRun rest (p + 2176)
    else some (p + 2176)

/-- The search finds the line frame: an alignment, and the marker within 64 frames (R117). -/
def searchFound (f : FrameSearch) : Bool :=
  (searchAlignment f).isSome &&
    match markerRun ((f.words.filter fun w => isMarker w.2).map Prod.fst) 0 with
    | some p => decide (p < 64 * 1088)
    | none => false

end Sys2Proof.Machine
end

