-- ==== Sys2Proof/Machine/Fec.lean ====
section
/-! DEFINITION. The inner code, the line frame, the KP4 monitors and their counters (chapter 5). -/

namespace Sys2Proof.Machine

open Reg

/-! ### Inner decoder -/

/-- A codeword is decoded, delivered and counted (R120, R121, R131, R132): the 120 outer-coded bits, and for each of its
64 line symbols whether the output differs from the hard decisions. -/
def execInnerCodewordDecode (n : Fin 8) (soft : List SoftBit) (marker : Bool) (s : State) :
    Result State Fault Refusal :=
  if s.flag (lineBase n) FEC_STATUS_IN_FRAME ∧ soft.length = 128 then
    let y := hardBits soft marker
    let c := chaseDecode (chaseL (s.laneProfile n)) soft marker
    let diff := diffBits y c
    let changed := (List.range 64).map fun k => diff.contains (2 * k) || diff.contains (2 * k + 1)
    let s := if s.rxFills n then s else s.bwAdd (34 + n.val) 120
    done (s.modRx n fun r => { r with
      innerCw := (r.innerCw + 1) % 2 ^ 48
      innerChanged := (r.innerChanged + if diff = [] then 0 else 1) % 2 ^ 48
      innerMulti := (r.innerMulti + if 2 ≤ diff.length then 1 else 0) % 2 ^ 48
      innerBits := (r.innerBits + diff.length) % 2 ^ 48
      innerSyms := (r.innerSyms + changed.count true) % 2 ^ 48
      intCw := r.intCw + 1, intBits := r.intBits + diff.length, outer := c.take 120, changed := changed })
  else unchanged s

/-! ### Line frame -/

/-- The windows of 256 codewords as they stand: codewords seen and failing ones of the window in progress, and
consecutive windows with more than 160 failing ones (R118). -/
structure Windows where
  seen : Nat
  bad : Nat
  run : Nat
  deriving DecidableEq, Repr

/-- One more codeword of a window; the fourth failing window in a row is kept (R118). -/
def Windows.next (w : Windows) (fails : Bool) : Windows :=
  let bad := w.bad + (if fails then 1 else 0)
  if w.seen + 1 < 256 then { w with seen := w.seen + 1, bad := bad }
  else { seen := 0, bad := 0, run := if 4 ≤ w.run then w.run else if 160 < bad then w.run + 1 else 0 }

/-- The codewords of a frame as the windows count them: the marker with its mask restored (DEDUCED from R116, log 122). -/
def frameFails (words : List (List Bool)) : List Bool :=
  match words with
  | [] => []
  | m :: rest => wordFails (invertMark m) :: rest.map wordFails

/-- A lane fed by L-FAR leaves IN_FRAME without leaving lock (R118, R132, R461). -/
def State.frameLost (s : State) (n : Fin 8) : State := (s.frameDown n).refreshFill n

/-- The marker of a received frame was mismatched (R118). -/
def frameMissed (words : List (List Bool)) : Bool := (words.head?.map markerMissed).getD false

/-- A received frame with the hard decisions of its 1,088 codewords, the marker first: its marker is checked, and its
codewords count in the windows (R118). -/
def execLineFrameReceived (n : Fin 8) (words : List (List Bool)) (s : State) : Result State Fault Refusal :=
  let b := lineBase n
  if s.locked n ∧ s.flag b FEC_STATUS_IN_FRAME then
    let r := s.line[n].rx
    let miss := frameMissed words
    let w := (frameFails words).foldl Windows.next ⟨r.winSeen, r.winBad, r.badWindows⟩
    let hist := (miss :: r.markerHist).take 16
    let s := s.countEvent (0x3001 + n.val * 0x100) 1
    let s := if miss then s.bump b FEC_STATUS_MARKER_MISS else s
    let s := s.modRx n fun r => { r with markerHist := hist, winSeen := w.seen, winBad := w.bad, badWindows := w.run }
    if 4 ≤ hist.count true ∨ 4 ≤ w.run then
      if s.lineLoop n = 4 then done (s.frameLost n) else done (s.lol n 1)
    else done s
  else unchanged s

/-! ### KP4 monitors -/

/-- The registers of a monitor. -/
structure MonRegs where
  terminate : Field
  cwLock : Field
  snapSeq : Field
  lockCount : Field
  totalLo : Field
  totalHi : Field
  corrLo : Field
  corrHi : Field
  uncorrLo : Field
  uncorrHi : Field
  symLo : Field
  symHi : Field
  bitLo : Field
  bitHi : Field
  hist : Field
  deriving DecidableEq, Repr

def monRegs : Kp4Monitor → MonRegs
  | .hr => ⟨HR_KP4_CTRL_TERMINATE, HR_KP4_STATUS_CW_LOCK, HR_KP4_STATUS_SNAP_SEQ, HR_KP4_STATUS_LOCK_COUNT,
      HR_CW_TOTAL_LO_COUNT, HR_CW_TOTAL_HI_COUNT, HR_CW_CORR_LO_COUNT, HR_CW_CORR_HI_COUNT,
      HR_CW_UNCORR_LO_COUNT, HR_CW_UNCORR_HI_COUNT, HR_SYM_ERR_LO_COUNT, HR_SYM_ERR_HI_COUNT,
      HR_BIT_ERR_LO_COUNT, HR_BIT_ERR_HI_COUNT, HR_HIST_COUNT⟩
  | .lr => ⟨LR_KP4_CTRL_TERMINATE, LR_KP4_STATUS_CW_LOCK, LR_KP4_STATUS_SNAP_SEQ, LR_KP4_STATUS_LOCK_COUNT,
      LR_CW_TOTAL_LO_COUNT, LR_CW_TOTAL_HI_COUNT, LR_CW_CORR_LO_COUNT, LR_CW_CORR_HI_COUNT,
      LR_CW_UNCORR_LO_COUNT, LR_CW_UNCORR_HI_COUNT, LR_SYM_ERR_LO_COUNT, LR_SYM_ERR_HI_COUNT,
      LR_BIT_ERR_LO_COUNT, LR_BIT_ERR_HI_COUNT, LR_HIST_COUNT⟩

/-- The live counters of a monitor. -/
def HostLane.mon (h : HostLane) : Kp4Monitor → Kp4Counters
  | .hr => h.hr
  | .lr => h.lr

def HostLane.setMon (h : HostLane) (mon : Kp4Monitor) (c : Kp4Counters) : HostLane :=
  match mon with
  | .hr => { h with hr := c }
  | .lr => { h with lr := c }

def State.setMon (s : State) (m : Fin 16) (mon : Kp4Monitor) (c : Kp4Counters) : State :=
  s.modHost m fun h => h.setMon mon c

/-- A counter block of zeros; the run of uncorrectable codewords is no counter (R124, R130). -/
def Kp4Counters.cleared (c : Kp4Counters) : Kp4Counters :=
  { c with total := 0, corr := 0, uncorr := 0, symErr := 0, bitErr := 0, hist := Vector.replicate 15 0 }

/-- The counters after one codeword (R126). -/
def Kp4Counters.count (c : Kp4Counters) : RsOutcome → Kp4Counters
  | .clean => { c with total := (c.total + 1) % 2 ^ 48, run := 0 }
  | .corrected e bits _ =>
    { c with
      total := (c.total + 1) % 2 ^ 48, corr := (c.corr + 1) % 2 ^ 48, run := 0
      symErr := (c.symErr + e) % 2 ^ 48, bitErr := (c.bitErr + bits) % 2 ^ 48
      hist := c.hist.set! (e - 1) (((c.hist[e - 1]?).getD 0 + 1) % 2 ^ 32) }
  | .uncorrectable =>
    { c with total := (c.total + 1) % 2 ^ 48, uncorr := (c.uncorr + 1) % 2 ^ 48, run := c.run + 1,
             sinceRaise := satNat 15 (c.sinceRaise + 1) }

/-- TERMINATE in force at a monitor follows its register at a codeword boundary (R128). -/
def State.terminateBoundary (s : State) (m : Fin 16) (mon : Kp4Monitor) : State :=
  let t := s.flag (hostBase m) (monRegs mon).terminate
  s.modHost m fun h => match mon with
    | .hr => { h with termHr := t }
    | .lr => { h with termLr := t }

/-- KP4_UNCORR, at most once per second per monitor (R133). -/
def State.raiseUncorr (s : State) (m : Fin 16) (mon : Kp4Monitor) : State :=
  let src := hostSrc m 0x50
  let key := src * 2 + (match mon with | .hr => 0x10000 | .lr => 0x10001)
  let held := match Sparse.find? s.limits key with
    | some t => decide (s.tick < t + ticksPerSecond)
    | none => false
  if held then s
  else
    let c := s.host[m].mon mon
    let d := c.sinceRaise + (match mon with | .hr => 0 | .lr => 0x8000)
    (s.raiseLimited key src d).setMon m mon { c with sinceRaise := 0 }

/-- The codeword that a monitor forwards, under the TERMINATE in force at it (R127, R128). -/
def HostLane.forwarded (h : HostLane) (mon : Kp4Monitor) (r : RsOutcome) (word : List Nat) : List Nat :=
  r.forward (match mon with | .hr => h.termHr | .lr => h.termLr) word

def State.setForwarded (s : State) (m : Fin 16) (mon : Kp4Monitor) (word : List Nat) : State :=
  s.modHost m fun h => match mon with
    | .hr => { h with outHr := word }
    | .lr => { h with outLr := word }

/-- What a line transmitter sends (R157, R461), and the two rest states of R150. -/
inductive LineSource where
  | currentless
  | balanced
  | pattern
  | fecLoop
  | farLoop
  | fill
  | traffic
  deriving DecidableEq, Repr

/-- DAC_SWEEP runs on a lane: its balls are currentless (Table 19-4). -/
def State.dacSwept (s : State) (n : Fin 8) : Bool := s.test.deep.any fun x => x.test == 4 && leNat x.args == n.val

/-- The source of the slots of a host lane on a line transmitter (R150, R157, Table 2-6, R134, R461).  An L-FEC loop-back
without lock sends fill; DESIGN CHOICE (log 140): so does an L-FAR loop-back before its lane is LOCKED. -/
def State.lineCarries (s : State) (n : Fin 8) (m : Fin 16) : LineSource :=
  let st := s.txState n
  if st < 2 ∨ s.dacSwept n then .currentless
  else if st < 4 then .balanced
  else if patSel (s.fld (lineBase n) TX_PAT_PAT_SEL) ≠ 0 then .pattern
  else if s.lineLoop n = 3 then if s.locked n then .fecLoop else .fill
  else if s.lineLoop n = 4 then if s.locked n then .farLoop else .fill
  else if s.slotFills n m then .fill
  else .traffic

/-- A host transmitter sends the received stream of its line lane (R190, R203, R204). -/
def State.hostCarries (s : State) (m : Fin 16) : Bool :=
  s.htState m == 3 && patSel (s.fld (hostBase m) HT_PAT_HPAT_SEL) == 0 && s.hostLoop m != 3

/-- Bits of an outer codeword. -/
def codewordSize : Nat := 5440

/-- The bits of a codeword in the bandwidth monitors (Table 18-2): at the HR monitor those received and carried as traffic, and
entering the inner encoder; at the LR monitor those sent as traffic. -/
def State.codewordBandwidth (s : State) (m : Fin 16) (n : Fin 8) (mon : Kp4Monitor) : State :=
  match mon with
  | .hr =>
    if s.slotFills n m then s
    else
      let s := s.bwAdd (50 + m.val) codewordSize
      if s.lineCarries n m = .traffic then s.bwAdd (42 + n.val) codewordSize else s
  | .lr => if !s.rxFills n && s.hostCarries m then s.bwAdd (66 + m.val) codewordSize else s

/-- A monitor decodes a codeword of 544 symbols, counts it and forwards it; a change of TERMINATE takes effect at its end
(R124 to R128, R133).  In Modes A and C the monitors of H8–H15 count nothing. -/
def execKp4Codeword (m : Fin 16) (mon : Kp4Monitor) (word : List (BitVec 10)) (s : State) :
    Result State Fault Refusal :=
  if s.flag (hostBase m) (monRegs mon).cwLock ∧ (s.lineOf m).isSome then
    let word := word.map BitVec.toNat
    let r := rsDecode word
    let c := (s.host[m].mon mon).count r
    let s := (s.setMon m mon c).setForwarded m mon (s.host[m].forwarded mon r word)
    let s := if mon = .hr then s.countEvent (0x4001 + m.val * 0x100) 1 else s
    let s := match s.lineOf m with
      | some n => s.codewordBandwidth m n mon
      | none => s
    let s := s.terminateBoundary m mon
    match r with
    | .uncorrectable =>
      let s := if mon = .hr then s.countEvent (0x4002 + m.val * 0x100) 1 else s
      let lost := decide (mon = .hr) && decide (16 ≤ c.run)
      let s := if lost then s.raise (hostSrc m 0x51) 0 else s
      let s := s.raiseUncorr m mon
      if lost then done (s.dropCwLock m) else done s
    | _ => done s
  else unchanged s

/-- Three blocks in a row decode as correctable (R123). -/
def threeCorrectable : List Bool → Bool
  | a :: b :: c :: t => (a && b && c) || threeCorrectable (b :: c :: t)
  | _ => false

/-- The blocks of a phase make it one that the search can take. -/
def phaseLocks (blocks : List (List (BitVec 10))) : Bool :=
  threeCorrectable (blocks.map fun w => (rsDecode (w.map BitVec.toNat)).correctable)

/-- The phase that the codeword search takes: the lowest of those tested that qualify (R123). -/
def lockPhase : List (Fin 2720 × List (List (BitVec 10))) → Option (Fin 2720)
  | [] => none
  | t :: rest =>
    match lockPhase rest with
    | none => if phaseLocks t.2 then some t.1 else none
    | some p => if phaseLocks t.2 && decide (t.1 < p) then some t.1 else some p

/-- A Mode B pair aligns when both its host lanes hold codeword lock for the first time (R34). -/
def State.pairHold (s : State) (m : Fin 16) : State :=
  match s.lineOf m with
  | some n =>
    if s.lanes.mode = 1 ∧ (s.hostsOf n).all s.cwLocked then s.modLinkOf n fun k => { k with pairAligned := true } else s
  | none => s

/-- A pass of the codeword search, with the consecutive blocks that each phase gives (R123, R34). -/
def execKp4CwLockAcquired (m : Fin 16) (tests : List (Fin 2720 × List (List (BitVec 10)))) (s : State) :
    Result State Fault Refusal :=
  let b := hostBase m
  match lockPhase tests with
  | some p =>
    if s.hostLocked m ∧ ¬ s.hostChecking m ∧ ¬ s.flag b HR_KP4_STATUS_CW_LOCK then
      let s := (s.setFlag b HR_KP4_STATUS_CW_LOCK true).bump b HR_KP4_STATUS_LOCK_COUNT
      let s := (s.modHost m fun h => { h with hr := { h.hr with run := 0 }, cwPhase := p.val }).terminateBoundary m .hr
      done (((s.quiet (hostSrc m 0x51)).pairHold m).refreshHostFill m)
    else unchanged s
  | none => unchanged s

/-- TERMINATE is written (R128). -/
def execTerminateWrite (m : Fin 16) (mon : Kp4Monitor) (on : Bool) (s : State) :
    Result State Fault Refusal := done (s.setFlag (hostBase m) (monRegs mon).terminate on)

/-! ### Counter blocks -/

/-- Copies the counters of a monitor into its snapshot (R130). -/
def State.snapMon (s : State) (m : Fin 16) (mon : Kp4Monitor) : State :=
  let b := hostBase m
  let r := monRegs mon
  let c := s.host[m].mon mon
  let s := s.setPair b r.totalLo r.totalHi c.total
  let s := s.setPair b r.corrLo r.corrHi c.corr
  let s := s.setPair b r.uncorrLo r.uncorrHi c.uncorr
  let s := s.setPair b r.symLo r.symHi c.symErr
  let s := s.setPair b r.bitLo r.bitHi c.bitErr
  let s := s.each (List.finRange 15) fun e s => s.setFld b (r.hist.ix e.val) c.hist[e]
  s.bumpMod b r.snapSeq

/-- Copies the counters of a block into its snapshot and increments SNAP_SEQ (R130). -/
def State.snapBlock (s : State) : CounterBlock → State
  | .inner n =>
    let b := lineBase n
    let r := s.line[n].rx
    let s := s.setPair b INNER_CW_LO_COUNT INNER_CW_HI_COUNT r.innerCw
    let s := s.setPair b INNER_CW_CHANGED_LO_COUNT INNER_CW_CHANGED_HI_COUNT r.innerChanged
    let s := s.setPair b INNER_CW_MULTI_LO_COUNT INNER_CW_MULTI_HI_COUNT r.innerMulti
    let s := s.setPair b INNER_BITS_CHANGED_LO_COUNT INNER_BITS_CHANGED_HI_COUNT r.innerBits
    let s := s.setPair b INNER_SYM_CHANGED_LO_COUNT INNER_SYM_CHANGED_HI_COUNT r.innerSyms
    s.bumpMod b FEC_STATUS_SNAP_SEQ
  | .kp4 m mon => s.snapMon m mon
  | .lineChecker n =>
    let b := lineBase n
    let r := s.line[n].rx
    let s := s.setPair b PAT_SYMS_LO_COUNT PAT_SYMS_HI_COUNT (s.linePatSyms n)
    let s := s.setPair b PAT_SYM_ERR_LO_COUNT PAT_SYM_ERR_HI_COUNT r.patSymErr
    let s := s.setPair b PAT_BIT_ERR_LO_COUNT PAT_BIT_ERR_HI_COUNT r.patBitErr
    s.bumpMod b RX_PAT_STATUS_SNAP_SEQ
  | .hostChecker m =>
    let b := hostBase m
    let h := s.host[m]
    let s := s.setPair b HPAT_SYMS_LO_COUNT HPAT_SYMS_HI_COUNT (s.hostPatSyms m)
    let s := s.setPair b HPAT_SYM_ERR_LO_COUNT HPAT_SYM_ERR_HI_COUNT h.patSymErr
    let s := s.setPair b HPAT_BIT_ERR_LO_COUNT HPAT_BIT_ERR_HI_COUNT h.patBitErr
    s.bumpMod b HR_PAT_STATUS_SNAP_SEQ

/-- Sets every counter of a block to 0 (R130). -/
def State.clrBlock (s : State) : CounterBlock → State
  | .inner n => s.modRx n fun r =>
      { r with innerCw := 0, innerChanged := 0, innerMulti := 0, innerBits := 0, innerSyms := 0 }
  | .kp4 m mon => s.setMon m mon (s.host[m].mon mon).cleared
  | .lineChecker n => s.modRx n fun r =>
      { r with patSyms := 0, patSince := r.patSince.map fun _ => s.tick, patSymErr := 0, patBitErr := 0 }
  | .hostChecker m => s.modHost m fun h =>
      { h with patSyms := 0, patSince := h.patSince.map fun _ => s.tick, patSymErr := 0, patBitErr := 0 }

/-- Symbols in error, as expected and received, that have reached a checker under lock are counted (R160). -/
def State.blockErrors (s : State) (b : CounterBlock) (arrived : List (Fin 4 × Fin 4)) : State :=
  match b with
  | .lineChecker n => s.when (s.flag (lineBase n) RX_PAT_STATUS_CHK_LOCK) fun s => s.linePatErrors n arrived
  | .hostChecker m => s.when (s.flag (hostBase m) HR_PAT_STATUS_CHK_LOCK) fun s => s.hostPatErrors m arrived
  | .inner _ => s
  | .kp4 _ _ => s

/-- A write of 1 to SNAP: the symbol errors that a checker has found up to it, `arrived`, are in the snapshot; with CLR in
the same write the counters restart after it (R129, R130). -/
def execCounterBlockSnap (b : CounterBlock) (alsoClr : Bool) (arrived : List (Fin 4 × Fin 4)) (s : State) :
    Result State Fault Refusal :=
  let s := (s.blockErrors b arrived).snapBlock b
  if alsoClr then done (s.clrBlock b) else done s

/-- A write of 1 to CLR alone: the symbol errors of its cycle, `arrived`, are counted after the clear (R129, R130). -/
def execCounterBlockClr (b : CounterBlock) (arrived : List (Fin 4 × Fin 4)) (s : State) : Result State Fault Refusal :=
  done ((s.clrBlock b).blockErrors b arrived)

/-! ### BER estimate -/

/-- The changed and decoded bits of the shortest run of intervals with at least 1,000 changed bits,
newest first (R132). -/
def berWindow : List (Nat × Nat) → Nat → Nat → Nat × Nat
  | [], c, b => (c, b)
  | (c', b') :: rest, c, b => if 1000 ≤ c then (c, b) else berWindow rest (c + c') (b + b')

/-- The decimal exponent that brings a value below 1 to 1 or above. -/
def berExp : Nat → Rat → Nat
  | 0, _ => 0
  | k + 1, x => if x < 1 then berExp k (x * 10) + 1 else 0

/-- MANT and EXP of an estimate greater than 0 (Table 5-5). -/
def berFields (x : Rat) : Nat × Nat :=
  let e := berExp 255 x
  let m := (quantise (x * 10 ^ e * 1000)).toNat
  if 10000 ≤ m then (1000, e - 1) else (m, e)

/-- The largest d with x^16 × 10^d ≤ 1, up to a bound (R133). -/
def berLog : Nat → Rat → Nat
  | 0, _ => 0
  | k + 1, p => if p * 10 ≤ 1 then berLog k (p * 10) + 1 else 0

/-- The MANT and EXP published for a run: a run without a changed bit has an estimate of 0, which MANT
cannot hold, so both are free values in their ranges (log 15). -/
def State.berValue (s : State) (w : Nat × Nat) : (Nat × Nat) × State :=
  if w.1 = 0 then
    let (v, s) := s.fresh
    ((1000 + v.toNat % 9000, v.toNat / 65536 % 256), s)
  else (berFields ((w.1 : Rat) / w.2), s)

/-- An interval of 1 ms ends: BER_EST is published and INNER_BER_HIGH judged (R132, R133).  The bits decoded are the 128 of
each codeword (DEDUCED, log 122), and a run without a changed bit is no error rate above any threshold. -/
def execBerPublish (n : Fin 8) (s : State) : Result State Fault Refusal :=
  let b := lineBase n
  if s.flag b FEC_STATUS_IN_FRAME then
    let r := s.line[n].rx
    let run := ((r.intBits, 128 * r.intCw) :: r.berRun).take 1000
    let w := berWindow run 0 0
    let low := decide (1000 ≤ run.length) && decide (w.1 < 1000)
    let s := s.modRx n fun r => { r with berRun := run, intCw := 0, intBits := 0 }
    let s := (s.setFlag b FEC_STATUS_BER_VALID true).setFlag b FEC_STATUS_LOW_COUNT low
    let (f, s) := s.berValue w
    let est : Rat := if w.1 = 0 then 0 else (f.1 : Rat) / 1000 / 10 ^ f.2
    let s := (s.setFld b BER_EST_MANT f.1).setFld b BER_EST_EXP f.2
    let warn := s.fld b FEC_CTRL_BER_WARN
    let high := decide (1 < est ^ 16 * 10 ^ warn)
    let held := s.line[n].rx.berHeld && decide (1 < est ^ 16 * 10 ^ (warn + 2))
    let s := s.modRx n fun r => { r with berHeld := held || high }
    if high && !held then done (s.raise (lineSrc n 0x50) (berLog 4096 (est ^ 16))) else done s
  else unchanged s

end Sys2Proof.Machine
end

