-- ==== Sys2Proof/Machine/LineRx.lean ====
section
/-! DEFINITION. Receive equalisation, acquisition and loss of lock of the line lanes (chapter 4). -/

namespace Sys2Proof.Machine

open Reg

/-! ### Adaptation -/

/-- The sampled derivative of a tap vector: half the difference of the neighbours (DEDUCED, log 14). -/
def tapDerivative (c : List Rat) : List Rat :=
  (List.range c.length).map fun k =>
    (c.getD (k + 1) 0 - (if k = 0 then 0 else c.getD (k - 1) 0)) / 2

def dotRat (a b : List Rat) : Rat := (List.zipWith (· * ·) a b).foldl (· + ·) 0

/-- A change without its part along a direction (R83 step 4). -/
def withoutShift (d g : List Rat) : List Rat :=
  if dotRat g g = 0 then d
  else
    let k := dotRat d g / dotRat g g
    List.zipWith (fun x y => x - k * y) d g

/-- Core ticks in 0.5 ms. -/
def halfMilli : Nat := 390625

/-- The step exponent in force: 7 from the start of an acquisition's step 4 or of a fast re-lock to lock, and for 0.5 ms
after a profile switch; else MU_FFE, at least 8 (R83, R85, R101). -/
def State.muFfe (s : State) (n : Fin 8) : Nat :=
  let r := s.line[n].rx
  let switched := match r.switchTick with
    | some t => decide (s.tick < t + halfMilli)
    | none => false
  if r.fastFfe || switched then 7 else max 8 (s.fld (lineBase n) EQ_CTRL_MU_FFE)

/-- The taps of the profile's range after a window of symbols (R83). -/
def State.ffeUpdate (s : State) (n : Fin 8) (symbols : List RxSymbol) : List Int :=
  let c := (s.ffeCoefs n).map fun (x : Int) => (x : Rat)
  let mu : Rat := 1 / 2 ^ s.muFfe n
  let d := (List.range c.length).map fun k => -(mu * s.correlation n symbols k / 65536 * 1024)
  List.zipWith (fun x y => satInt 12 (quantise (x + y))) c (withoutShift d (tapDerivative c))

/-- An FFE window ends (R83): the symbols are those the correlator took.  From step 4 of the acquisition on, unless
FFE_FREEZE holds the taps; each tap moves while its task runs (R14, R24, R100).  The new taps reach the datapath as one
set, at the lane's datapath-clock boundary inside the tick. -/
def execFfeWindow (n : Fin 8) (symbols : List RxSymbol) (s : State) : Result State Fault Refusal :=
  let b := lineBase n
  if 4 ≤ s.acqState n ∧ ¬ s.line[n].rx.clocksStopped ∧ ¬ s.flag b EQ_CTRL_FFE_FREEZE then
    let first := (tapRange (s.laneProfile n)).1
    done (s.each (s.ffeUpdate n symbols).zipIdx fun e s =>
      s.when (s.lineTask n (taskFfe (first + e.2))) fun s =>
        s.setFld b (FFE_TAP_COEF.ix (first + e.2)) (intBits 12 e.1))
  else unchanged s

/-- The bandwidth of the timing loop in units of 0.25 MHz: 4 MHz up to the convergence of the equaliser and in the first
step of a fast re-lock, else TR_BW (R87, Tables 4-2 and 4-7). -/
def State.loopBandwidth (s : State) (n : Fin 8) (settled : Bool) : Nat :=
  let st := s.acqState n
  if st < 4 ∨ (st = 4 ∧ settled = false) ∨ (st = 8 ∧ s.line[n].rx.relockStep = 1) then 16
  else 2 ^ s.fld (lineBase n) EQ_CTRL_TR_BW

/-- The phase error that the loop sees: the non-data-aided detector up to the convergence of the equaliser in a full
acquisition, the Mueller–Müller-type detector from then on (R87, Tables 4-6 and 4-7; the former is log 116). -/
def State.phaseError (s : State) (n : Fin 8) (o : TimingObs) : Rat :=
  let st := s.acqState n
  if st < 4 ∨ (st = 4 ∧ o.settled = false) then Config.ndaDetector o.inputs else meanRat (o.pairs.map muellerMuller)

/-- The largest frequency word: 200 ppm in units of 0.004 ppm (R86). -/
def freqLimit : Int := 50000

/-- The timing loop writes the rotator: a phase correction applied once, and a frequency word within ±200 ppm (R86,
R87). -/
def execTimingUpdate (n : Fin 8) (o : TimingObs) (s : State) : Result State Fault Refusal :=
  if 2 ≤ s.acqState n ∧ ¬ s.line[n].rx.clocksStopped ∧ s.lineTask n taskTiming then
    let bw := s.loopBandwidth n o.settled
    let e := s.phaseError n o
    let turn := quantise (Config.loopGain bw false * e)
    let word := max (-freqLimit) (min freqLimit (s.line[n].rx.freqWord + quantise (Config.loopGain bw true * e)))
    let s := (s.rotHold n).modRx n fun r => { r with rotPhase := r.rotPhase + turn, freqWord := word }
    done (s.setFld (lineBase n) TR_STATUS_FREQ_OFFSET (intBits 16 (quantise ((word : Rat) * 2 / 5))))
  else unchanged s

/-- M[j] after 16 windows: a step of 2^−6 toward the mean of z(n) over the symbols decided with that j (R94). -/
def State.levelAfter (s : State) (n : Fin 8) (l : List RxSymbol) (j : Nat) : Option Int :=
  let z := (l.filter fun x => x.j.val == j).map fun x => (x.z : Rat)
  let old : Rat := s.mlseLevel n j
  if z = [] then none else some (satInt 12 (quantise (old + (meanRat z - old) / 64)))

/-- The variance in LSB² of e(n) over the symbols (R95). -/
def State.errorVariance (s : State) (n : Fin 8) (l : List RxSymbol) : Rat :=
  let e := l.map (s.symbolError n)
  (meanRat (e.map fun x => x * x) - meanRat e * meanRat e) / 16

/-- Every 16 FFE windows each M[j] moves toward the mean of its decisions, and the running estimate σ² follows the
variance of e(n) (R94, R95; its step is log 117); LEVEL_FREEZE holds both, and each level moves while its task runs. -/
def execMlseLevelUpdate (n : Fin 8) (symbols : List RxSymbol) (s : State) : Result State Fault Refusal :=
  let b := lineBase n
  if 5 ≤ s.acqState n ∧ ¬ s.line[n].rx.clocksStopped ∧ ¬ s.flag b EQ_CTRL_LEVEL_FREEZE then
    let l := s.counted n symbols
    let old := s
    let s := s.each (List.range 64) fun j s =>
      match old.levelAfter n l j with
      | some v => s.when (old.lineTask n (taskLevel j)) fun s => s.setFld b (MLSE_LEVEL_LEVEL.ix j) (intBits 12 v)
      | none => s
    done (s.when (l != [] && old.lineTask n (taskLevel 0)) fun s => s.modRx n fun r =>
      { r with sigma2 := r.sigma2 + Config.sigmaGain * (old.errorVariance n l - r.sigma2) })
  else unchanged s

/-! ### Canceller -/

/-- A host swap request; one in the cycle of a loss of lock counts as started and is pending (R92, Table 4-3). -/
def execNlcSwap (n : Fin 8) (lockLost : Bool) (s : State) : Result State Fault Refusal :=
  let s := s.nlcHostSwap n
  if lockLost then done (s.fadeStop n nlcRegs) else done s

/-- A swap request of room 14 (R91). -/
def execNlcEngineSwap (n : Fin 8) (s : State) : Result State Fault Refusal :=
  if s.taskRuns 14 (taskInstall n) then done (s.nlcEngineSwap n) else unchanged s

/-- Fade sample 63 has ended (R90). -/
def execNlcFadeComplete (n : Fin 8) (s : State) : Result State Fault Refusal :=
  if s.flag (lineBase n) NLC_STATUS_FADING then done (s.fadeFinish n nlcRegs) else unchanged s

/-- A pending fade starts at the first frame boundary after lock (R92). -/
def execNlcFadeResume (n : Fin 8) (s : State) : Result State Fault Refusal :=
  if s.locked n then done (s.fadeResume n nlcRegs) else unchanged s

/-- A write to a canceller bank entry (R89, Table 4-3). -/
def execNlcBankWrite (n : Fin 8) (bank : Fin 2) (idx : Fin 1024) (value : BitVec 10) (swap : Bool)
    (s : State) : Result State Fault Refusal := done (s.bankWrite n nlcRegs bank idx value swap)

/-- NLC_EN (R93). -/
def State.nlcEnable (s : State) (n : Fin 8) (en : Bool) : State :=
  let s := s.setFlag (lineBase n) EQ_CTRL_NLC_EN en
  if en then s else s.fadeBypass n nlcRegs

def execNlcEnWrite (n : Fin 8) (en : Bool) (s : State) : Result State Fault Refusal := done (s.nlcEnable n en)

/-! ### Acquisition -/

/-- A write of 1 to REACQ (R101). -/
def execLineReacq (n : Fin 8) (s : State) : Result State Fault Refusal := done (s.lineReacq n)

/-- A change of RX_PRECODE (R38, R101): a lane that holds its line frame takes it, and re-acquires, at the next
line-frame boundary; any other at once. -/
def State.lineRxPrecode (s : State) (n : Fin 8) (on : Bool) : State :=
  let b := lineBase n
  let s := s.setFlag b EQ_CTRL_RX_PRECODE on
  let now := s.line[n].rx.precode
  if s.flag b FEC_STATUS_IN_FRAME then
    s.modRx n fun r => { r with precodeNext := if on = now then none else some on }
  else
    let s := s.modRx n fun r => { r with precode := on, precodeNext := none }
    if on = now then s else s.lineReacq n

/-- A line-frame boundary of the receive stream, or the loss of the frame: a waiting change of RX_PRECODE takes effect
and the lane re-acquires (R38; the count of frames as in log 112). -/
def State.rxFrameBoundary (s : State) (n : Fin 8) : State :=
  let r := s.line[n].rx
  match r.precodeNext with
  | some on =>
    if (s.tick - r.frameTick) % s.frameTicks = 0 ∨ ¬ s.flag (lineBase n) FEC_STATUS_IN_FRAME then
      (s.modRx n fun r => { r with precode := on, precodeNext := none }).lineReacq n
    else s
  | none => s

def execLineRxPrecodeWrite (n : Fin 8) (on : Bool) (s : State) : Result State Fault Refusal :=
  done (s.lineRxPrecode n on)

/-- CHK_SEL selects a checker: 5 to 7 act as 0 (R159, R160). -/
def State.checking (s : State) (n : Fin 8) : Bool :=
  let c := s.fld (lineBase n) RX_PAT_CTRL_CHK_SEL
  decide (1 ≤ c ∧ c ≤ 4)

/-- The line frame is found (R118, R124). -/
def State.frameFound (s : State) (n : Fin 8) : State :=
  let s := (s.setInFrame n).modRx n fun r => { r with
    markerHist := [], winSeen := 0, winBad := 0, badWindows := 0, intCw := 0, intBits := 0, berRun := [] }
  (s.lrFollow n true).refreshFill n

/-- A lane is LOCKED (Table 4-6 step 7, R105, R118, R124, R50). -/
def State.lineLock (s : State) (n : Fin 8) (skew : Nat) : State :=
  let b := lineBase n
  let frame := !s.checking n && s.lineLoop n != 4
  let s := (s.setAcqState n 7).setFlag b EQ_STATUS_LOCKED true
  let s := (s.bump b EQ_STATUS_ACQ_COUNT).setFld b EQ_STATUS_LOCK_TIME
    (satNat 16 (tenMicros (s.tick - s.line[n].rx.trigger)))
  let s := if frame then s.setInFrame n else s
  let s := s.modRx n fun r =>
    { r with relockStep := 0, fastFfe := false, markerHist := [], winSeen := 0, winBad := 0, badWindows := 0, berRun := [],
             intCw := 0, intBits := 0 }
  let s := (s.modAdc n fun a => { a with step := if a.step = 4 then 5 else a.step }).unsettle n 0
  let s := if frame then s.lrFollow n true else s
  ((s.joinGroup n false skew).refreshFill n).refreshTrainPos n

/-- The frame search is over: the line frame is found (R117), or the checker that replaces the search holds its
lock (R160). -/
def State.searchDone (s : State) (n : Fin 8) (f : FrameSearch) : Bool :=
  if s.checking n then s.flag (lineBase n) RX_PAT_STATUS_CHK_LOCK else searchFound f

/-- The alignment that a search found is kept (R117). -/
def State.keepAlignment (s : State) (n : Fin 8) (f : FrameSearch) : State :=
  match searchAlignment f with
  | some a => s.modRx n fun r => { r with alignment := a.val }
  | none => s

/-- A line-frame search starts. -/
def State.searchStart (s : State) (n : Fin 8) : State := s.bump (lineBase n) FEC_STATUS_FRAME_SEARCHES

/-- MLSE levels at their start values (R94). -/
def State.mlseStart (s : State) (n : Fin 8) : State :=
  s.each (List.range 64) fun j s =>
    s.setFld (lineBase n) (MLSE_LEVEL_LEVEL.ix j) (intBits 12 (64 * (2 * ((j / 16 : Nat) : Int) - 3)))

/-- A CTLE setting is in force, and step 4 of the acquisition starts. -/
def State.ctleTaken (s : State) (n : Fin 8) (set : Nat) : State :=
  ((s.setFld (lineBase n) AFE_STATUS_CTLE_CUR set).setAcqState n 4).modRx n fun x => { x with fastFfe := true }

/-- A step of Table 4-6 or of Table 4-7 completes.  Under L-FAR the lane locks before the frame search,
which runs on (R461).  DESIGN CHOICE (log 118): a write of CTLE_MAN or CTLE_SET while the lane acquires and is not locked
leaves the acquisition running; CTLE_MAN is looked at when step 2 ends and again when the search of step 3 ends. -/
def State.acqStepDone (s : State) (n : Fin 8) (r : AcqResult) : State :=
  let b := lineBase n
  let st := s.acqState n
  let man := s.flag b AFE_CTRL_CTLE_MAN
  if st = 1 then if s.flag b ADC_STATUS_CONVERGED then s.setAcqState n 2 else s
  else if st = 2 then if man then s.ctleTaken n (s.fld b AFE_CTRL_CTLE_SET) else s.setAcqState n 3
  else if st = 3 then s.ctleTaken n (if man then s.fld b AFE_CTRL_CTLE_SET else bestSetting r.residuals)
  else if st = 4 then (s.mlseStart n).setAcqState n 5
  else if st = 5 then
    let s := s.searchStart n
    if s.lineLoop n = 4 then s.lineLock n r.skew else s.setAcqState n 6
  else if st = 6 then if s.searchDone n r.search then (s.keepAlignment n r.search).lineLock n r.skew else s
  else if st = 8 then
    let k := s.line[n].rx.relockStep
    if k = 1 then s.modRx n fun x => { x with relockStep := 2 }
    else if k = 2 then
      let s := (s.modRx n fun x => { x with relockStep := 3 }).searchStart n
      if s.lineLoop n = 4 then s.lineLock n r.skew else s
    else if s.searchDone n r.search then (s.keepAlignment n r.search).lineLock n r.skew else s
  else if st = 7 ∧ s.lineLoop n = 4 ∧ ¬ s.checking n ∧ ¬ s.flag b FEC_STATUS_IN_FRAME ∧ searchFound r.search then
    (s.keepAlignment n r.search).frameFound n
  else s

def execLineAcqStepDone (n : Fin 8) (r : AcqResult) (s : State) : Result State Fault Refusal :=
  if s.flag (lineBase n) EQ_STATUS_LOS || s.line[n].rx.clocksStopped then unchanged s
  else done (s.acqStepDone n r)

/-- A step of the full acquisition exceeds its bound: back to step 2 with the ADC state kept (R102). -/
def execLineAcqStepTimeout (n : Fin 8) (s : State) : Result State Fault Refusal :=
  let st := s.acqState n
  if 1 ≤ st ∧ st ≤ 6 ∧ ¬ s.flag (lineBase n) EQ_STATUS_LOS ∧ ¬ s.line[n].rx.clocksStopped then
    done (s.setAcqState n 2)
  else unchanged s

/-- No lock within 100 ms of signal present, and every second after that (R102). -/
def execAcqFail (n : Fin 8) (s : State) : Result State Fault Refusal :=
  if s.line[n].rx.signal ∧ ¬ s.locked n ∧ s.acqState n ≠ 0 then
    done (s.raise (lineSrc n 0x44) s.line[n].rx.highest)
  else unchanged s

/-- A new count of R102 starts with signal present: a lane that has left LOCKED has not reached it since. -/
def State.signalCount (s : State) (n : Fin 8) : State :=
  let st := s.acqState n
  s.modRx n fun r => { r with signal := true, highest := if st ≤ 6 ∨ (st = 7 ∧ s.locked n) then st else 0 }

/-- LOS ends: the level source turns quiet. -/
def State.losEnd (s : State) (n : Fin 8) : State :=
  ((s.setFlag (lineBase n) EQ_STATUS_LOS false).quiet (lineSrc n 0x40)).signalCount n

/-- Signal present is declared (R101). -/
def execLineSignalPresent (n : Fin 8) (s : State) : Result State Fault Refusal :=
  if s.acqState n = 0 then unchanged s
  else if s.flag (lineBase n) EQ_STATUS_LOS then done ((s.losEnd n).acqStart n)
  else done (s.signalCount n)

/-- Loss of signal (R103). -/
def execLineLos (n : Fin 8) (s : State) : Result State Fault Refusal :=
  let b := lineBase n
  if s.acqState n = 0 ∨ s.flag b EQ_STATUS_LOS then unchanged s
  else
    let s := (s.setFlag b EQ_STATUS_LOS true).raise (lineSrc n 0x40) 0
    done ((s.loseLock n).modRx n fun r => { r with signal := false })

/-- A loss of signal ends (R104): a fast re-lock within 100 ms, and a full acquisition after that. -/
def execLineLosEnd (n : Fin 8) (within100ms : Bool) (s : State) : Result State Fault Refusal :=
  if s.flag (lineBase n) EQ_STATUS_LOS then
    let s := s.losEnd n
    if s.line[n].rx.clocksStopped then done s
    else if within100ms then done (s.fastRelock n)
    else done (s.acqStart n)
  else unchanged s

/-- The frequency word has been held at its limit for 10 µs (R103). -/
def execLineFreqLimit (n : Fin 8) (s : State) : Result State Fault Refusal :=
  if s.locked n ∧ (s.line[n].rx.freqWord = freqLimit ∨ s.line[n].rx.freqWord = -freqLimit) then done (s.lol n 2)
  else unchanged s

/-- A fast re-lock has not locked within its limit (R104). -/
def execLineRelockTimeout (n : Fin 8) (s : State) : Result State Fault Refusal :=
  if s.acqState n = 8 ∧ ¬ s.flag (lineBase n) EQ_STATUS_LOS then done (s.acqStart n) else unchanged s

/-! ### Readouts -/

/-- An eye height as published: 0 when negative, saturating at 1,023 (R107). -/
def eyeField (h : Int) : Nat := satNat 10 h.toNat

/-- P_s and P_e in units of 1/16 LSB² over the symbols (R106). -/
def State.signalPower (s : State) (n : Fin 8) (l : List RxSymbol) : Rat :=
  meanRat (l.map fun x => s.expectedLevel n x.j.val * s.expectedLevel n x.j.val)

def State.errorPower (s : State) (n : Fin 8) (l : List RxSymbol) : Rat :=
  meanRat (l.map fun x => s.symbolError n x * s.symbolError n x)

/-- The SNR in units of 0.01 dB as published: within 0.05 dB of the ratio from 10 to 30 dB (R106).  The spec states no
ratio for an error power of 0: the value is free (log 13). -/
def snrField (ps pe : Rat) (err : Int) : Nat :=
  if pe = 0 then satNat 16 (Config.overZero ps).floor.toNat
  else
    let x := centiBel (ps / pe)
    let e := if 1000 ≤ x ∧ x ≤ 3000 then max (-5) (min 5 err) else err
    satNat 16 ((x : Int) + e).toNat

/-- An eye height as published: within 0.5 LSB for heights of 4 LSB or more, 0 when negative, and saturating (R107). -/
def eyePublished (h err : Int) : Nat := eyeField (h + if 16 ≤ h then max (-2) (min 2 err) else err)

/-- The SNR that the symbols give, as published (R84, R106). -/
def State.snrValue (s : State) (n : Fin 8) (symbols : List RxSymbol) (err : Int) : Nat :=
  let l := s.counted n symbols
  snrField (s.signalPower n l) (s.errorPower n l) err

/-- The SNR and the eye heights of the symbols are published, and SNR_LOW is judged (R84, R106 to R108). -/
def execSnrPublish (n : Fin 8) (symbols : List RxSymbol) (err : ReadoutError) (s : State) : Result State Fault Refusal :=
  let b := lineBase n
  if s.locked n ∧ s.lineTask n taskSnr then
    let l := s.counted n symbols
    let v := s.snrValue n symbols err.snr
    let warn := 25 * s.fld b EQ_CTRL_SNR_WARN
    let r := s.line[n].rx
    let min := s.fld b SNR_STAT_SNR_MIN
    let s := s.setFld b SNR_STAT_SNR v
    let s := s.setFld b SNR_STAT_SNR_MIN (if r.snrMinFresh ∨ v < min then v else min)
    let s := s.setFld b EYE_STAT_EYE_UPPER (eyePublished (eyeHeight l 2) err.upper)
    let s := s.setFld b EYE_STAT_EYE_MID (eyePublished (eyeHeight l 1) err.mid)
    let s := s.setFld b EYE_STAT_EYE_LOWER (eyePublished (eyeHeight l 0) err.lower)
    let s := s.setFlag b EQ_STATUS_SNR_LOW (decide (v < warn))
    let held := r.snrHeld && decide (v < warn + 50)
    let s := s.modRx n fun x => { x with snrMinFresh := false, snrHeld := held || decide (v < warn) }
    if v < warn ∧ ¬ held then done (s.raise (lineSrc n 0x42) v) else done s
  else unchanged s

end Sys2Proof.Machine
end

