-- ==== Sys2Proof/Machine/Housekeeping.lean ====
section
/-! DEFINITION. The housekeeping ADC and its trigger units (chapter 15, R368 to R373). -/

namespace Sys2Proof.Machine

open Reg

/-- The domain of the housekeeping ADC (Table 14-1). -/
def domHk : Nat := 3

/-! ### Conversions -/

/-- The divisor of Table 15-1 for a channel. -/
def hkScale (c : Nat) : Rat := if c = 27 ∨ c = 28 then 2 else if c = 31 then 5 / 2 else 1

/-- A conversion (R369): the clamped code, and whether it was over-range.  A reference of 0 V gives a code
that the spec does not state. -/
def State.hkCode (s : State) (c : Nat) (volts vref : Rat) : Nat × Bool :=
  let vfs : Rat := if s.flag hkBase HK_CTRL_VREF_SEL then vref else 6 / 5
  let v := volts / hkScale c
  let x := roundAway (if vfs = 0 then Config.overZero v else 65536 * v / vfs)
  if x < 0 then (0, true) else if 0xFFFF < x then (0xFFFF, true) else (x.toNat, false)

/-- MISMATCH of a sensor site. -/
def State.mismatch (s : State) (k : Nat) : Bool := s.flag thermBase (THERM_SITE_MISMATCH.ix k)

/-- The readings of the other eight sites, as last published. -/
def State.otherSites (s : State) (k : Nat) : List Nat :=
  ((List.range 9).filter (· != k)).map fun j => s.fld thermBase (THERM_SITE_TEMP.ix j)

/-- A conversion of a channel.  A temperature channel reads the two elements of its site, each on its own path, here `volts`
and `other`; every other channel reads `volts` (R368, R369, R392, R394). -/
def State.hkRead (s : State) (c : Nat) (volts other vref : Rat) : Nat × Bool :=
  let a := s.hkCode c volts vref
  if 16 ≤ c ∧ c ≤ 24 then
    let b := s.hkCode c other vref
    (siteReading (s.mismatch (c - 16)) (s.otherSites (c - 16)) a.1 b.1, a.2 || b.2)
  else a

/-- The result word of Table 15-2. -/
def hkWord (code : Nat) (ovr lp suspect : Bool) (seq : Nat) : Word :=
  BitVec.ofNat 32 (code * 0x10000 + (if ovr then 0x8000 else 0) + 0x4000 + (if lp then 0x2000 else 0) +
    (if suspect then 0x1000 else 0) + seq % 256)

/-- The conversion that precedes was over-range and of another channel (R371). -/
def State.afterOver (s : State) (c : Nat) : Bool :=
  match s.hk.prevOver with
  | some p => p != c
  | none => false

/-- Records the range of the last conversion. -/
def State.setPrevOver (s : State) (c : Nat) (ovr : Bool) : State :=
  { s with hk := { s.hk with prevOver := if ovr then some c else none } }

/-! ### Slow round -/

/-- Channels of a round, ascending: those of HK_EN, and 16 to 24 always (R368). -/
def State.hkChannels (s : State) : List Nat :=
  (List.range 32).filter fun c =>
    decide (16 ≤ c ∧ c ≤ 24) || wordField (s.reg (hkBase + HK_EN_EN.off)) c 1 == 1

/-- The continuous items interpolated since the last round take effect (R404). -/
def State.calApply (s : State) : State :=
  match s.thermal.calNext with
  | some codes =>
    let s := { s with thermal := { s.thermal with calNext := none, cal := codes } }
    (s.setFld thermBase CAL_STATUS_CAL_TEMP codes[8]).setFld thermBase CAL_STATUS_SET_LO (lowerSet codes[8])
  | none => s

/-- The site at whose reading a continuous item is interpolated: a sensor offset at its own site, the others at T8
(Table 16-1, R404). -/
def contSite : ContItem → Fin 9
  | .sensor k => k
  | _ => 8

/-- The value of a continuous item in use (R403, R404). -/
def State.contItem (s : State) (i : ContItem) : Rat := setAt (Config.contSet i) s.thermal.cal[contSite i]

/-- Core ticks from one round start to the next (R370). -/
def roundTicks (lp : Bool) : Nat := if lp then 6250000 else 781250

/-- The next round is due one period after this one was, or one period after now when this one comes a period late. -/
def State.roundTimed (s : State) (lp : Bool) : State :=
  let due := s.hk.roundDue + roundTicks lp
  { s with hk := { s.hk with roundDue := if s.tick < due then due else s.tick + roundTicks lp, late := none } }

/-- A round starts when it is due (R370), in the mode that LP_FORCE and REST ask for (R373). -/
def execHkRoundStart (s : State) : Result State Fault Refusal :=
  if s.flag hkBase HK_STATUS_ROUND_BUSY ∨ ¬ s.domOn domHk ∨ s.deepHolds domHk ∨ s.tick < s.hk.roundDue then unchanged s
  else
    let lp := s.flag hkBase HK_CTRL_LP_FORCE || s.fld powerBase PWR_STATE_STATE == 2
    let s := (s.setFlag hkBase HK_STATUS_ROUND_BUSY true).setFlag hkBase HK_STATUS_LP_ACTIVE lp
    let r : HkRound :=
      { lp := lp, channels := s.hkChannels, done := 0, sums := Vector.replicate 32 0, ovr := [],
        vref := 0 }
    let late := s.hk.late
    let s := ({ s with hk := { s.hk with round := some r } }.roundTimed lp).calApply
    match late with
    | some micros => done (s.raise 0x6103 (satNat 16 micros))
    | none => done s

/-- A conversion of the round, at `volts` before the scaling (R369, R371). -/
def execHkConversion (volts other vref : Rat) (s : State) : Result State Fault Refusal :=
  match s.hk.round with
  | none => unchanged s
  | some r =>
    if r.channels.length * 16 ≤ r.done then unchanged s
    else
      let c := r.channels.getD (r.done % r.channels.length) 0
      let (code, ovr) := s.hkRead c volts other vref
      let discard := s.afterOver c
      let s := s.setPrevOver c ovr
      if discard then done s
      else
        let k : Fin 32 := Fin.ofNat 32 c
        done { s with hk := { s.hk with round := some { r with
          done := r.done + 1, sums := r.sums.set k (r.sums[k] + code), vref := vref,
          ovr := if ovr && !r.ovr.contains c then r.ovr ++ [c] else r.ovr } } }

/-- The residual of channel 29 in ppm of full scale against the calibrated bandgap value: 0.600 V with the correction that
the calibration holds for it, in ppm (R404, R405). -/
def State.hkResidual (s : State) (mean : Int) (vfs : Rat) : State :=
  let want := 3 / 5 * (1 + s.contItem .bandgap / 1000000)
  let r := 1000000 * ((mean : Rat) / 65536 - (if vfs = 0 then Config.overZero want else want / vfs))
  { s with hk := { s.hk with residual := r, residualMax := max s.hk.residualMax |r| } }

/-- The readings of the sensor sites as a round publishes them, and the hottest, the lowest-numbered of equal
ones (R393, Table 16-8). -/
def State.siteReadings (s : State) (mean : Nat → Nat) : State :=
  let s := s.each (List.range 9) fun k s =>
    (s.setFld thermBase (THERM_SITE_TEMP.ix k) (mean (16 + k))).setFlag thermBase (THERM_SITE_VALID.ix k) true
  let hot := (List.range 9).foldl (fun h k => if mean (16 + h) < mean (16 + k) then k else h) 0
  (s.setFld thermBase THERM_STATUS_HOTTEST hot).setFld thermBase THERM_STATUS_TJ_MAX (mean (16 + hot))

/-- The tasks of room 14 that average the housekeeping results and track laser wear (Table 10-2, E54 and E55). -/
def taskAverage : Nat := 54

/-- A round adds to the averages of the Attic's period (Table 18-6). -/
def State.hkAverage (s : State) : State :=
  if s.taskUp 14 taskAverage then
    let hot := s.fld thermBase THERM_STATUS_TJ_MAX
    let a := s.attic
    { s with attic := { a with
      rounds := a.rounds + 1, tempMax := max a.tempMax hot, tempSum := a.tempSum + hot
      pdSums := a.pdSums.mapFinIdx fun n x _ => x + s.fld hkBase (HK_RES_RESULT.ix n) / 0x10000 } }
  else s

/-- The judgement of channel 25 against V_VID (R473), in mV. -/
def State.vidJudge (s : State) (mv : Rat) : State :=
  let want : Rat := 620 + 10 * (s.fld systemBase VID_CTRL_CODE : Rat)
  let out := decide (25 < mv - want) || decide (25 < want - mv)
  let k := if out then s.boot.vidRounds + 1 else 0
  let s := { s with boot := { s.boot with vidRounds := k } }
  if 10 ≤ k then s.raiseLimited 0x0031 0x0031 (satNat 16 (roundAway mv).toNat) else s

/-- The round ends: every result word is published (R370), and an over-range result raises HK_OVR (R371).  A round that ends
when the next is already due makes that one late (R370). -/
def execHkRoundEnd (s : State) : Result State Fault Refusal :=
  match s.hk.round with
  | none => unchanged s
  | some r =>
    if r.done < r.channels.length * 16 then unchanged s
    else
      let rounds := s.hk.rounds + 1
      let mean := fun c : Nat => roundAway ((r.sums[Fin.ofNat 32 c] : Rat) / 16)
      let s := s.each r.channels fun c s =>
        s.setReg (hkBase + (HK_RES_RESULT.ix c).off)
          (hkWord (mean c).toNat (r.ovr.contains c) r.lp false rounds)
      let vfs : Rat := if s.flag hkBase HK_CTRL_VREF_SEL then r.vref else 6 / 5
      let s := if r.channels.contains 29 then s.hkResidual (mean 29) vfs else s
      let s := (s.siteReadings fun c => (mean c).toNat).hkAverage
      let s := if r.channels.contains 25 then s.vidJudge (1000 * vfs * (mean 25 : Rat) / 65536) else s
      let late := if s.hk.roundDue ≤ s.tick then some ((s.tick - s.hk.roundDue) * 4 / 3125) else none
      let s := { s with hk := { s.hk with round := none, rounds := rounds, late := late } }
      let s := s.setFlag hkBase HK_STATUS_ROUND_BUSY false
      done (s.each (r.channels.filter r.ovr.contains) fun c s => s.raiseLimited (0x61020000 + c) 0x6102 c)

/-! ### Trigger units -/

def State.trigFld (s : State) (f : Field) (k : Fin 8) : Nat := s.fld hkBase (f.ix k.val)

/-- SRC as it acts: 4 to 7 as 0 (Table 15-8). -/
def State.trigSrc (s : State) (k : Fin 8) : Nat :=
  let v := s.trigFld TRIG_CFG_SRC k
  if v < 4 then v else 0

/-- QUEUED follows the queue of R372. -/
def State.setTrigQueue (s : State) (q : List (Nat × Nat)) : State :=
  { s with hk := { s.hk with queue := q } }.setFld hkBase HK_STATUS_QUEUED q.length

/-- The device time of the first reference edge at or after core tick `origin`: a reference period is 5 core ticks, and the
edges fall on the ticks that 5 divides (R210, R372; DESIGN CHOICE, log 142). -/
def State.refEdge (s : State) (origin : Nat) : Nat :=
  (((s.clock.deviceTime : Int) + (((origin + 4) / 5 * 5 : Nat) : Int) - s.tick) % 2 ^ 64).toNat

/-- An urgent request is dropped (R372). -/
def State.urgentDrop (s : State) (k : Nat) : State := (s.bump hkBase HK_DROPS_URGENT_DROPS).raise 0x6100 k

/-- Two urgent instants lie within 480 ns, 375 core ticks, of each other (Table 15-6). -/
def urgentClash (a b : Nat) : Bool := decide (a < b + 375) && decide (b < a + 375)

/-- An urgent request with its instant: of two within 480 ns the earlier converts, at equal instants the lower unit, and the
other is dropped (Table 15-6). -/
def State.urgentRequest (s : State) (k instant : Nat) : State :=
  let rivals := s.hk.urgent.filter fun e => urgentClash e.2 instant
  if rivals.any fun e => e.2 < instant || (e.2 == instant && decide (e.1 ≤ k)) then s.urgentDrop k
  else
    let kept := s.hk.urgent.filter fun e => !urgentClash e.2 instant
    let s := { s with hk := { s.hk with urgent := kept ++ [(k, instant)] } }
    s.each (rivals.map Prod.fst) fun u s => s.urgentDrop u

/-- A trigger of a unit (R372): `base` is the device time of its first reference edge, `ahead` says that the instant is known
early enough to reserve the ADC, and `busy` that a conversion runs at the instant. -/
def State.hkRequest (s : State) (k : Fin 8) (base : Nat) (ahead busy : Bool) : State :=
  let instant := (base + 5 * s.trigFld TRIG_CFG_DELAY k) % 2 ^ 64
  if s.trigFld TRIG_CFG_URGENT k = 1 then
    if busy && !ahead then s.urgentDrop k.val else s.urgentRequest k.val instant
  else if 8 ≤ s.hk.queue.length then (s.bump hkBase HK_DROPS_QUEUE_DROPS).raise 0x6101 k.val
  else s.setTrigQueue (s.hk.queue ++ [(k.val, instant)])

/-- The unit works: enabled, with its domain on. -/
def State.trigOn (s : State) (k : Fin 8) : Bool := s.trigFld TRIG_CFG_EN k == 1 && s.domOn domHk && !s.deepHolds domHk

/-- A unit's timer is loaded. -/
def State.loadTimer (s : State) (k : Fin 8) : State :=
  { s with hk := { s.hk with timers := s.hk.timers.set k s.tick } }

/-- PERIOD as it acts, in reference periods: 1 to 78 act as 79 (Table 15-8). -/
def State.trigPeriod (s : State) (k : Fin 8) : Nat :=
  let v := s.trigFld TRIG_PERIOD_PERIOD k
  if v = 0 then 0 else max 79 v

/-- The tick at which a unit's timer expires. -/
def State.timerDue (s : State) (k : Fin 8) : Nat := s.hk.timers[k] + 5 * s.trigPeriod k

/-- The timer of a unit expires and reloads (R372); the instant is then always known ahead. -/
def execHkTriggerTimerExpiry (k : Fin 8) (s : State) : Result State Fault Refusal :=
  if s.trigOn k ∧ s.trigSrc k = 0 ∧ s.trigPeriod k ≠ 0 ∧ s.timerDue k ≤ s.tick then
    let due := s.timerDue k
    let s := { s with hk := { s.hk with timers := s.hk.timers.set k due } }
    done (s.hkRequest k (s.refEdge due) true false)
  else unchanged s

/-- ARG as it acts for a source: a Tamid instance above 7 acts as 7 (Table 15-8). -/
def State.trigArg (s : State) (k : Fin 8) : Nat :=
  let v := s.trigFld TRIG_CFG_ARG k
  if s.trigSrc k = 2 then min 7 v else v

/-- A strobe of this source and argument, or a sync event, reaches the units that it triggers, with its core tick as their
origin (R372, R217). -/
def State.hkStrobe (s : State) (src arg : Nat) : State :=
  s.each (List.finRange 8) fun k s =>
    if s.trigOn k && s.trigSrc k == src && (src == 3 || s.trigArg k == arg) then
      { s with hk := { s.hk with strobes := s.hk.strobes ++ [(k.val, s.refEdge s.tick)] } }
    else s

/-- A unit turns the oldest of its strobes or sync events into a request; `busy` says that a conversion runs at the instant of
an urgent one (R372).  The ADC is reserved when DELAY leaves at least 79 reference periods. -/
def execHkTrigger (k : Fin 8) (busy : Bool) (s : State) : Result State Fault Refusal :=
  match s.hk.strobes.find? fun e => e.1 == k.val with
  | some e =>
    let s := { s with hk := { s.hk with strobes := s.hk.strobes.erase e } }
    done (s.hkRequest k e.2 (decide (79 ≤ s.trigFld TRIG_CFG_DELAY k)) busy)
  | none => unchanged s

/-- A unit that is switched off has no strobe waiting. -/
def State.dropStrobes (s : State) (k : Fin 8) : State :=
  { s with hk := { s.hk with strobes := s.hk.strobes.filter fun e => e.1 != k.val } }

/-- The request of a unit that converts now: its urgent request, else the head of the queue if it is the
unit's; with the state without it. -/
def State.takeRequest (s : State) (k : Fin 8) : Option (Nat × State) :=
  match s.hk.urgent.find? fun e => e.1 == k.val with
  | some e => some (e.2, { s with hk := { s.hk with urgent := s.hk.urgent.erase e } })
  | none =>
    match s.hk.queue with
    | (u, t) :: rest => if u = k.val then some (t, s.setTrigQueue rest) else none
    | [] => none

/-- A triggered conversion completes (R372, R371). -/
def execHkTriggerConversionDone (k : Fin 8) (volts other vref : Rat) (s : State) : Result State Fault Refusal :=
  match s.takeRequest k with
  | none => unchanged s
  | some (instant, s) =>
    let c := s.trigFld TRIG_CFG_CHANNEL k
    let (code, ovr) := s.hkRead c volts other vref
    let suspect := s.afterOver c
    let n := s.hk.taken[k] + 1
    let lp := s.flag hkBase HK_STATUS_LP_ACTIVE
    let s := s.setPrevOver c ovr
    let s := { s with hk := { s.hk with
      taken := s.hk.taken.set k n, events := s.hk.events.filter (· != k.val) ++ [k.val] } }
    let s := s.setReg (hkBase + (TRIG_RES_RESULT.ix k.val).off) (hkWord code ovr lp suspect n)
    done (s.setFld hkBase (TRIG_TIME_TIME.ix k.val) instant)

/-- A sync event triggers the units that wait for one, and reloads every timer (R217, R372). -/
def State.hkSync (s : State) : State := (s.hkStrobe 3 0).each (List.finRange 8) fun k s => s.loadTimer k

end Sys2Proof.Machine
end

