-- ==== Sys2Proof/Machine/TxOps.lean ====
section
/-! DEFINITION. Enabling and disabling a line transmitter (R153, R155), as the host, the power domains and
the synthesisers ask for it. -/

namespace Sys2Proof.Machine

open Reg

/-- The lane manager's votes for the transmit direction (Table 14-2); a loop-back holds them (R460). -/
def State.txVote (s : State) (n : Fin 8) (on : Bool) : State :=
  let on := on || s.lineLoop n != 0
  (s.putVote (domRoom (txRoom n)) (voteLine n) on).putVote (domLineTx n) (voteLine n) on

/-- The transmit datapath starts: a line frame and an interleaver of its own, TX_PRECODE in force and P(−1) = 0 (R115,
R38). -/
def State.datapathStart (s : State) (n : Fin 8) : State :=
  let pre := s.flag (lineBase n) TX_CTRL_TX_PRECODE
  s.modTx n fun t => { t with
    starts := t.starts + 1, precode := pre, precodeNext := none, precoderP := 0, frameTick := s.tick }

/-- A running transmit datapath starts afresh (R115, R38, R44). -/
def State.txRestart (s : State) (n : Fin 8) : State := if 3 ≤ s.txState n then s.datapathStart n else s

/-- An enabled transmitter starts: OFF to CAL, with FS_SET taken; a fall in progress reverses (Table 6-4,
R155).  The domain must be on (R492) and the synthesiser of the half locked (R211), and safe state ignores
TX_EN (R154). -/
def State.txStart (s : State) (n : Fin 8) : State :=
  let b := lineBase n
  if s.flag b TX_CTRL_TX_EN && !s.fuse.safe && s.synLocked (lineSyn n) && s.domOn (domLineTx n) then
    let st := s.txState n
    if st = 0 then
      ((s.setTxState n 1).bankRestored (251 + n.val)).modTx n fun t => { t with
        fsInForce := s.fld b TX_CTRL_FS_SET, falling := false, takenDown := false }
    else if st = 2 then s.modTx n fun t => { t with falling := false, takenDown := false }
    else s
  else s

/-- The transmitter falls: CAL goes to OFF at once, the running states through CM_RAMP (R155). -/
def State.txFall (s : State) (n : Fin 8) : State :=
  let st := s.txState n
  if st = 1 then s.setTxState n 0
  else if 2 ≤ st then
    ((s.fadeStop n pdRegs).setTxState n 2).modTx n fun t => { t with
      falling := true, heldFromCm := false }
  else s

/-- A transmitter is at once currentless: its domain or the part goes down without a ramp. -/
def State.txDrop (s : State) (n : Fin 8) : State :=
  ((s.fadeStop n pdRegs).setTxState n 0).modTx n fun t => { t with
    falling := false, heldFromCm := false }

end Sys2Proof.Machine
end

