-- ==== Sys2Proof/Machine/ClockOps.lean ====
section
/-! DEFINITION. The operations of the clocks that other chapters share (chapter 9): sync events, the stop and
the return of a synthesiser. -/

namespace Sys2Proof.Machine

open Reg

/-! ### Sync events -/

/-- The value of DT_LOAD. -/
def State.dtLoad (s : State) : Nat := s.pairFld clockBase DT_LOAD_LO_LOAD DT_LOAD_HI_LOAD

/-- round(a / b) with ties toward zero (R218). -/
def roundTowardZero (a b : Int) : Int :=
  let q := a.natAbs / b.natAbs
  let r := a.natAbs % b.natAbs
  let m : Nat := if b.natAbs < 2 * r then q + 1 else q
  if decide (a < 0) == decide (b < 0) then (m : Int) else -(m : Int)

/-- SYNC_ERR of an event that does not load (R218). -/
def State.syncErr (s : State) (fine : Nat) : Int :=
  let p := s.fld clockBase SYNC_PERIOD_PERIOD
  match s.clock.origin with
  | none => 0
  | some o =>
    if p = 0 then 0
    else
      let d : Int := 32 * (s.clock.deviceTime : Int) - fine - o
      let e := d - 32 * roundTowardZero d (32 * p) * p
      max (-(2 ^ 31 - 1)) (min (2 ^ 31 - 1) e)

/-- The ledger snapshot of R220. -/
def State.ledgerSnap (s : State) : State :=
  let words := allLines.flatMap fun n => (List.range 3).map fun p => (3 * n.val + p, s.ledgerWord n p)
  s.each words fun e s => s.setReg (clockBase + (LEDGER_SNAP_SEQ.ix e.1).off) e.2

/-- Sync events are accepted: the core clock runs and the part is not in DEEP (Table 9-4). -/
def State.syncOpen (s : State) : Bool := s.clock.running && s.fld powerBase PWR_STATE_STATE != 3

/-- The part is in holdover or in the clock-loss state (Table 9-4). -/
def State.refAbsent (s : State) : Bool :=
  !s.flag clockBase CLK_STATUS_REF_OK || s.flag clockBase CLK_STATUS_HOLDOVER || s.flag clockBase CLK_STATUS_FREE_RUN

/-- The instant of an event captured now with this FINE, in units of 1/32 core tick (R216). -/
def State.syncInstant (s : State) (fine : Nat) : Int := 32 * (s.tick : Int) - fine

/-- An accepted sync event (R217 to R221), at the tick whose running count is the device time. -/
def State.syncEvent (s : State) (fine : Nat) (explicit : Bool) : State :=
  let mode := s.fld clockBase SYNC_CTRL_MODE
  let loads := decide (2 ≤ mode)
  let c := s.clock.deviceTime
  let err := if loads then 0 else s.syncErr fine
  let s := s.ledgerSnap
  let s := (s.each allChains fun j s => s.chainSync j).hkSync
  let s := s.setPair clockBase SYNC_CAP_LO_CAP SYNC_CAP_HI_CAP c
  let s := (s.bumpMod clockBase SYNC_STAT_SEQ).setFlag clockBase SYNC_STAT_SRC explicit
  let s := (s.setFlag clockBase SYNC_STAT_LOADED loads).setFld clockBase SYNC_STAT_FINE fine
  let s := s.setFlag clockBase SYNC_STAT_REF_ABSENT s.refAbsent
  let s := s.setFld clockBase SYNC_ERR_ERR (intBits 32 err)
  let v := s.dtLoad
  let s := { s with clock := { s.clock with lastSync := some (s.syncInstant fine) } }
  let s :=
    if loads then
      let s := { s with clock := { s.clock with
        loads := s.clock.loads ++ [(8, (v + 8) % 2 ^ 64)], origin := some (32 * (v : Int) - fine) } }
      let s := if s.flag clockBase CLK_STATUS_FREE_RUN then s else s.setFlag clockBase CLK_STATUS_DT_SYNCED true
      if mode = 2 then s.setFld clockBase SYNC_CTRL_MODE 1 else s
    else s
  if s.flag clockBase SYNC_CTRL_CAL_ALIGN then { s with clock := { s.clock with calAlign := true } } else s

/-- An explicit request (R216): in mode 0 it acts as in mode 1. -/
def State.syncRequest (s : State) : State := if s.syncOpen then s.syncEvent 0 true else s

/-! ### Synthesisers and the clock-loss state -/

/-- The SYN_LOCK bit of a synthesiser. -/
def synBit (k : Fin 4) : Field := ⟨0, 27 - k.val, 1, 0⟩

/-- The lanes that a synthesiser serves. -/
def synLines (k : Fin 4) : List (Fin 8) := allLines.filter fun n => lineSyn n == k.val
def synHosts (k : Fin 4) : List (Fin 16) := allHosts.filter fun m => hostSyn m == k.val

/-- A synthesiser stops: the receivers of its half leave lock, and the fixed squelch takes its transmitters
(R227, Table 9-7). -/
def State.synStop (s : State) (k : Fin 4) : State :=
  let s := s.setFlag clockBase (synBit k) false
  let s := { s with clock := { s.clock with
    synLoss := s.clock.synLoss.set k (some ((s.clock.synLoss[k]).getD s.tick)),
    sqLine := s.clock.sqLine.filter (fun n => !(synLines k).contains n) ++ synLines k,
    sqHost := s.clock.sqHost.filter (fun m => !(synHosts k).contains m) ++ synHosts k } }
  let s := s.each (synLines k) fun n s => (s.lineClocksStop n).reactLine n
  s.each (synHosts k) fun m s => (s.hostClocksStop m).reactHost m

/-- A synthesiser locks: the fixed squelch of its half clears, and its lanes recover (R211, R228). -/
def State.synStart (s : State) (k : Fin 4) : State :=
  let near := match s.clock.synLoss[k] with
    | some t => decide (s.tick ≤ t + ticks100ms)
    | none => true
  let s := s.setFlag clockBase (synBit k) true
  let s := { s with clock := { s.clock with
    synLoss := s.clock.synLoss.set k none,
    sqLine := s.clock.sqLine.filter fun n => !(synLines k).contains n,
    sqHost := s.clock.sqHost.filter fun m => !(synHosts k).contains m } }
  let s := s.each (synLines k) fun n s =>
    let s := (s.reactLine n).lineClocksReturn n near
    if s.line[n].tx.takenDown then s else s.txStart n
  s.each (synHosts k) fun m s =>
    let s := (s.reactHost m).hostClocksReturn m near
    if s.host[m].takenDown then s else s.htStart m

/-- The clock-loss state is entered (R227). -/
def State.clockLoss (s : State) : State :=
  let s := (s.setFlag clockBase CLK_STATUS_FREE_RUN true).setFlag clockBase CLK_STATUS_HOLDOVER false
  let s := (s.setFlag clockBase CLK_STATUS_CORE_LOCK false).setFlag clockBase CLK_STATUS_DT_SYNCED false
  s.each (List.finRange 4) fun k s => s.synStop k

/-! ### One core tick -/

/-- A second of the calendar is full. -/
def ClockState.carry (c : ClockState) : ClockState :=
  if 1000000 ≤ c.calUsec then { c with calUsec := 0, calSec := (c.calSec + 1) % 2 ^ 40 } else c

/-- What an AO tick does to the calendar (R219, R225): a SET_CALENDAR, an alignment, or one microsecond on. -/
def ClockState.aoCalendar (c : ClockState) (crystal : Bool) : ClockState :=
  match c.calSet with
  | some (sec, usec) => { c with calSec := sec, calUsec := usec, calSet := none, calAlign := false }
  | none =>
    if c.calAlign then
      { c with calAlign := false, calUsec := 0,
               calSec := if c.calUsec < 500000 then c.calSec else (c.calSec + 1) % 2 ^ 40 }
    else if crystal then c
    else { c with calUsec := c.calUsec + 1 }.carry

/-- The microsecond that crystal step `j` of a second stands for: the nearest to j / 32,768 s (R225). -/
def crystalUsec (j : Nat) : Nat := (2 * 1000000 * j + 32768) / (2 * 32768)

/-- A crystal period moves CAL_USEC to its next step (R225). -/
def ClockState.crystalStep (c : ClockState) : ClockState :=
  let j := (c.calUsec * 32768 + 500000) / 1000000
  { c with calUsec := crystalUsec (j + 1) }.carry

/-- AO ticks in an hour. -/
def aoTicksPerHour : Nat := 3600000000

/-- An AO tick: the calendar, DISC_AGE, and the count of DEEP or of a thermal shutdown (R215, R223, R225,
R399). -/
def State.aoTick (s : State) : State :=
  let crystal := s.fld clockBase CLK_STATUS_CAL_SRC == 2
  let c := s.clock.aoCalendar crystal
  let hour := c.aoHour + 1 == aoTicksPerHour
  let s := { s with clock := { c with aoHour := if hour then 0 else c.aoHour + 1 } }
  let age := s.fld clockBase CLK_STATUS_DISC_AGE
  let s := if hour && decide (age < 0xFFFE) then s.setFld clockBase CLK_STATUS_DISC_AGE (age + 1) else s
  let deep := s.fld powerBase PWR_STATE_STATE == 3 && !s.power.deepExit
  s.when (!s.clock.running && (deep || s.thermal.shut.isSome)) fun s =>
    { s with power := { s.power with deepMicros := s.power.deepMicros + 1 } }

/-- Device time moves by one tick, or takes a sync load that is due (R213, R217). -/
def ClockState.advance (c : ClockState) : ClockState :=
  let loads := c.loads.map fun e => (e.1 - 1, e.2)
  let now := match loads.find? fun e => e.1 == 0 with
    | some e => e.2
    | none => (c.deviceTime + 1) % 2 ^ 64
  { c with deviceTime := now, loads := loads.filter fun e => e.1 != 0 }

end Sys2Proof.Machine
end

