-- ==== Sys2Proof/Machine/Clocks.lean ====
section
/-! DEFINITION. Clocks, device time and synchronisation (chapter 9). -/

namespace Sys2Proof.Machine

open Reg

/-! ### Reference, core PLL and synthesisers -/

/-- The calendar source that the reference and the crystal give (Table 9-5). -/
def State.refreshCalSrc (s : State) : State :=
  s.setFld clockBase CLK_STATUS_CAL_SRC
    (if s.flag clockBase CLK_STATUS_REF_OK then 0 else if s.flag clockBase CLK_STATUS_XTAL_OK then 2 else 1)

/-- The core PLL locks after RESET_N with the reference present, and device time starts at 0 (R211, R213). -/
def execCorePllLock (s : State) : Result State Fault Refusal :=
  if s.boot.resetHigh ∧ ¬ s.flag clockBase CLK_STATUS_CORE_LOCK ∧ ¬ s.flag clockBase CLK_STATUS_FREE_RUN then
    let s := (s.setFlag clockBase CLK_STATUS_CORE_LOCK true).setFlag clockBase CLK_STATUS_REF_OK true
    done { s with clock := { s.clock with running := true, deviceTime := 0 } }.refreshCalSrc
  else unchanged s

/-- Every synthesiser is locked. -/
def State.allSynLocked (s : State) : Bool := (List.finRange 4).all fun k => s.synLocked k.val

/-- A synthesiser locks (R211, R228). -/
def execSynthLock (k : Fin 4) (s : State) : Result State Fault Refusal :=
  if s.flag clockBase CLK_STATUS_CORE_LOCK ∧ ¬ s.synLocked k.val then
    let s := s.synStart k
    if s.allSynLocked then done (s.quiet 0x5103) else done s
  else unchanged s

/-- The reference is lost: holdover, or a boot on the free-running clock (R226, R227, R229). -/
def execRefLoss (freq : Bool) (s : State) : Result State Fault Refusal :=
  if s.fuse.rails.contains 0x5100 ∨ ¬ s.boot.resetHigh then unchanged s
  else
    let s := (s.setFlag clockBase CLK_STATUS_REF_OK false).refreshCalSrc
    let s := { s with clock := { s.clock with refLost := some (s.clock.refLost.getD s.tick) } }
    let s :=
      if s.flag clockBase CLK_STATUS_FREE_RUN then s
      else if s.flag clockBase CLK_STATUS_CORE_LOCK then s.setFlag clockBase CLK_STATUS_HOLDOVER true
      else { s with clock := { s.clock with running := true } }.setFlag clockBase CLK_STATUS_FREE_RUN true
    done (s.raise 0x5100 (if freq then 1 else 0))

/-- Holdover ends without a return (R227). -/
def execHoldoverEnd (s : State) : Result State Fault Refusal :=
  if s.flag clockBase CLK_STATUS_HOLDOVER then done s.clockLoss else unchanged s

/-- Step 2 of R228: the core PLL locks to the reference, or does not. -/
def State.coreRelock (s : State) (locks : Bool) : State :=
  if locks then
    ((s.setFlag clockBase CLK_STATUS_CORE_LOCK true).setFlag clockBase CLK_STATUS_FREE_RUN false).quiet 0x5102
  else s

/-- The duration of the loss of the reference in whole milliseconds (Table 9-6): 781,250 ticks each. -/
def State.lossMs (s : State) : Nat := (s.tick - s.clock.refLost.getD s.tick) / 781250

/-- The reference has been present and in range for 1 ms (R228). -/
def execRefReturn (locks : Bool) (s : State) : Result State Fault Refusal :=
  let hold := s.flag clockBase CLK_STATUS_HOLDOVER
  let free := s.flag clockBase CLK_STATUS_FREE_RUN
  if ¬ hold ∧ ¬ free then unchanged s
  else
    let s :=
      if s.flag clockBase CLK_STATUS_REF_OK then s
      else
        let ms := s.lossMs
        let s := (s.setFlag clockBase CLK_STATUS_REF_OK true).refreshCalSrc
        let s := { s with clock := { s.clock with refLost := none } }
        (s.raise 0x5101 (satNat 16 ms)).clearByPart 0x5100
    if hold then done (s.setFlag clockBase CLK_STATUS_HOLDOVER false) else done (s.coreRelock locks)

/-- The core PLL unlocks: the clock-loss state (R226, R227). -/
def execCoreUnlock (s : State) : Result State Fault Refusal :=
  if s.flag clockBase CLK_STATUS_CORE_LOCK then done ((s.raise 0x5102 0).clockLoss) else unchanged s

/-- A further 1 ms with the reference in range: step 2 of R228 runs again. -/
def execCoreRelockRetry (locks : Bool) (s : State) : Result State Fault Refusal :=
  if s.flag clockBase CLK_STATUS_FREE_RUN ∧ s.flag clockBase CLK_STATUS_REF_OK then done (s.coreRelock locks)
  else unchanged s

/-- A synthesiser unlocks (R226, R227). -/
def execSynthUnlock (k : Fin 4) (s : State) : Result State Fault Refusal :=
  if s.synLocked k.val then done ((s.raise 0x5103 k.val).synStop k) else unchanged s

/-! ### Sync -/

/-- 1 µs in units of 1/32 core tick: an edge that follows an event sooner is ignored (R216). -/
def syncGap : Int := 25000

/-- An edge with this FINE, captured now, follows the last accepted event too closely (R216). -/
def State.syncClose (s : State) (fine : Nat) : Bool :=
  match s.clock.lastSync with
  | some t => decide (s.syncInstant fine - t < syncGap)
  | none => false

/-- An edge too close to the last event is ignored and counted (R216, Table 9-6). -/
def State.syncIgnore (s : State) : State :=
  let s := s.bump clockBase SYNC_STAT_IGNORED
  let n := s.clock.ignoredSince + 1
  if s.limitFree 0x5108 then
    { s with clock := { s.clock with ignoredSince := 0 } }.raiseLimited 0x5108 0x5108 (satNat 16 n)
  else { s with clock := { s.clock with ignoredSince := n } }

/-- A rising edge at SYNC_IN, perhaps with an explicit request in the same tick (R216, R217, Table 9-4).  An edge that
is ignored is no event, so the request then acts alone (DEDUCED, log 141). -/
def execSyncInEdge (fine : Fin 32) (explicitToo : Bool) (s : State) : Result State Fault Refusal :=
  if ¬ s.syncOpen then unchanged s
  else if s.fld clockBase SYNC_CTRL_MODE = 0 then
    if explicitToo then done s.syncRequest else unchanged s
  else if s.syncClose fine.val then
    let s := s.syncIgnore
    if explicitToo then done s.syncRequest else done s
  else done (s.syncEvent fine.val false)

/-- A write of 1 to SYNC_NOW (R216). -/
def execSyncNow (s : State) : Result State Fault Refusal := done s.syncRequest

/-! ### The always-on clock and the calendar -/

/-- The bin of a temperature in °C: 5 °C each from −5 to 125 (R223). -/
def trimBin (temp : Int) : Nat := (max 0 (min 25 ((temp + 5) / 5))).toNat

/-- The trim that the AO oscillator runs with: the newest while the reference is present, else that of the table for the
present temperature in °C (R223). -/
def State.aoTrim (s : State) (temp : Int) : Option Int :=
  if s.flag clockBase CLK_STATUS_REF_OK then (s.clock.trims.getLast?).map Prod.snd
  else (s.clock.trims.find? fun e => e.1 == trimBin temp).map Prod.snd

/-- The AO oscillator is counted against the reference and trimmed (R223). -/
def execAoDiscipline (trim temp : Int) (s : State) : Result State Fault Refusal :=
  if s.flag clockBase CLK_STATUS_REF_OK then
    let b := trimBin temp
    let s := { s with clock := { s.clock with
      trims := s.clock.trims.filter (fun e : Nat × Int => e.1 != b) ++ [(b, trim)], aoHour := 0, oldRaised := false } }
    done (s.setFld clockBase CLK_STATUS_DISC_AGE 0)
  else unchanged s

/-- DISC_AGE passes 168 hours (R224). -/
def execDisciplineOld (s : State) : Result State Fault Refusal :=
  let age := s.fld clockBase CLK_STATUS_DISC_AGE
  if s.clock.oldRaised ∨ age = 0xFFFF then unchanged s
  else
    let age := max age 168
    let s := { s with clock := { s.clock with oldRaised := true } }.setFld clockBase CLK_STATUS_DISC_AGE age
    done (s.raise 0x5109 age)

/-- The crystal stops (R225). -/
def execXtalFail (s : State) : Result State Fault Refusal :=
  if s.flag clockBase CLK_STATUS_XTAL_OK then
    done (((s.setFlag clockBase CLK_STATUS_XTAL_OK false).refreshCalSrc).raise 0x5107 0)
  else unchanged s

/-! ### Reads that latch -/

/-- The running count of DT_LO, latching DT_HI (R214). -/
def State.readDtLo (s : State) : Word × State :=
  (BitVec.ofNat 32 s.clock.deviceTime,
   s.setFld clockBase DT_HI_DT (s.clock.deviceTime / 2 ^ 32))

def execDtLoRead (s : State) : Result State Fault Refusal :=
  let (w, s) := s.readDtLo
  done { s with link := { s.link with readData := w } }

/-- CAL_SEC_LO, latching CAL_SEC_HI and CAL_USEC (R225). -/
def State.readCalSecLo (s : State) : Word × State :=
  (BitVec.ofNat 32 s.clock.calSec,
   (s.setFld clockBase CAL_SEC_HI_SEC (s.clock.calSec / 2 ^ 32)).setFld clockBase CAL_USEC_USEC s.clock.calUsec)

def execCalSecLoRead (s : State) : Result State Fault Refusal :=
  let (w, s) := s.readCalSecLo
  done { s with link := { s.link with readData := w } }

end Sys2Proof.Machine
end

