-- ==== Sys2Proof/Machine/Counters.lean ====
section
/-! DEFINITION. Performance counters, bandwidth monitors and the dump ring (chapter 18, R432 to R439). -/

namespace Sys2Proof.Machine

open Reg

/-! ### Events (Table 18-1) -/

/-- The kind of an event select: `some false` a count event, `some true` an occupancy event, `none` one that
Table 18-1 does not list. -/
def eventKind (ev : Nat) : Option Bool :=
  let u := ev / 256
  let e := ev % 256
  let kind := fun (last : Nat) (occ : Nat) =>
    if 1 ≤ e ∧ e ≤ last then some (e == occ) else none
  if u ≤ 0x21 then kind 5 5
  else if 0x30 ≤ u ∧ u < 0x38 then kind 5 5
  else if 0x40 ≤ u ∧ u < 0x50 then kind 3 3
  else if 0x50 ≤ u ∧ u < 0x60 then kind 4 4
  else if u = 0x60 then kind 3 0
  else if u = 0x61 then kind 1 0
  else if 0x70 ≤ u ∧ u < 0x78 then kind 2 0
  else if ev = 0xFF00 then some false
  else none

/-- A setting that COUNTER_CONFIG accepts (R432). -/
def eventValid (ev threshold : Nat) : Bool :=
  ev == 0 || match eventKind ev with
    | some occ => occ || threshold == 0
    | none => false

/-- A counter takes a setting and restarts from 0 (R432). -/
def State.counterConfig (s : State) (k ev threshold : Nat) : State :=
  s.setCounter k { event := ev, threshold := threshold, count := 0 }

/-- A write to CNT_CFG_k: an invalid setting is ignored. -/
def State.counterWrite (s : State) (k ev threshold : Nat) : State :=
  if eventValid ev threshold then s.counterConfig k ev threshold else s

/-! ### Latches (R434, R435) -/

/-- SNAP: the counters go to the CNT_SNAP registers. -/
def State.counterSnap (s : State) : State :=
  let s := s.each (List.range 128) fun k s =>
    s.setPair counterBase (CNT_SNAP_LO_COUNT.ix k) (CNT_SNAP_HI_COUNT.ix k) (s.counter k).count
  s.bumpMod counterBase CNT_STATUS_SNAP_SEQ

/-- CLR: every counter is 0. -/
def State.counterClr (s : State) : State :=
  let live := s.counters.live.map fun e : Nat × Counter => (e.1, { e.2 with count := 0 })
  { s with counters := { s.counters with live := live, cleared := true } }

def execCntSnap (alsoClr : Bool) (s : State) : Result State Fault Refusal :=
  let s := s.counterSnap
  if alsoClr then done s.counterClr else done s

def execCntClr (s : State) : Result State Fault Refusal := done s.counterClr

/-- A read of CNT_LIVE_LO_k from a Hallway source port. -/
def State.readCntLive (s : State) (k port : Nat) : Word × State :=
  let c := (s.counter k).count
  let key := 32 * k + port
  (BitVec.ofNat 32 c, { s with counters := { s.counters with
    liveHi := Sparse.set (fun _ => 0) s.counters.liveHi key (c / 2 ^ 32) } })

/-- A read of CNT_LIVE_HI_k: the latch of the port. -/
def State.cntLiveHi (s : State) (k port : Nat) : Word :=
  BitVec.ofNat 32 (Sparse.get (fun _ => 0) s.counters.liveHi (32 * k + port))

def execCntLiveLoRead (k : Fin 128) (port : Fin 32) (s : State) : Result State Fault Refusal :=
  let (w, s) := s.readCntLive k.val port.val
  done { s with link := { s.link with readData := w } }

/-! ### Bandwidth (R436) -/

/-- WINDOW as it acts. -/
def State.bwWindow (s : State) : Nat := min 1000000 (max 1 (s.fld counterBase BW_CTRL_WINDOW))

/-- The end of window `j` in core ticks: floor(j × WINDOW × 781.25). -/
def windowEnd (window j : Nat) : Nat := j * window * 3125 / 4

/-- The tick at which the window in progress ends. -/
def State.bwDue (s : State) : Nat := s.counters.bwStart + windowEnd s.bwWindow s.counters.bwWindow

/-- The rate of a monitor in kb/s over a window of `len` ticks. -/
def bwRate (bits len : Nat) : Nat := (roundAway (((bits * 781250 : Nat) : Rat) / (len : Rat))).toNat

/-- A window has ended: every BW_k takes the rate of its bits, and BW_TIME the tick of the end. -/
def execBwWindowEnd (s : State) : Result State Fault Refusal :=
  if s.coreCounts ∧ s.bwDue ≤ s.tick then
    let w := s.bwWindow
    let j := s.counters.bwWindow
    let len := windowEnd w j - windowEnd w (j - 1)
    let bits := s.counters.bw
    let ended := (((s.clock.deviceTime : Int) + s.bwDue - s.tick) % 2 ^ 64).toNat
    let s := s.each (List.range 82) fun k s =>
      s.setFld counterBase (BW_RATE.ix k) (bwRate (Sparse.get (fun _ => 0) bits k) len)
    let s := s.setPair counterBase (BW_TIME_TIME.ix 0) (BW_TIME_TIME.ix 1) ended
    let s := (s.bumpMod counterBase CNT_STATUS_BW_SEQ).setFlag counterBase CNT_STATUS_BW_VALID true
    done { s with counters := { s.counters with bwWindow := j + 1, bw := [] } }
  else unchanged s

/-- A write of WINDOW discards the window in progress. -/
def State.bwWrite (s : State) (window : Nat) : State :=
  let s := (s.setFld counterBase BW_CTRL_WINDOW window).setFlag counterBase CNT_STATUS_BW_VALID false
  { s with counters := { s.counters with bwWindow := 1, bwStart := s.tick, bw := [] } }

def execBwWindowWrite (window : BitVec 20) (s : State) : Result State Fault Refusal :=
  done (s.bwWrite window.toNat)

/-! ### The dump ring (R437) -/

/-- A dump record (Table 18-3). -/
def State.dumpRecord (s : State) : List Byte :=
  let c := s.counters
  let head := leBytes 4 c.dumpSeq ++
    leBytes 4 ((if c.cleared then 2 ^ 31 else 0) +
      (if s.flag counterBase CNT_STATUS_BW_VALID then 2 ^ 30 else 0) +
      s.fld counterBase CNT_CTRL_DUMP_PERIOD * 0x10000 + c.skipped) ++
    leBytes 8 s.clock.deviceTime ++
    leBytes 4 (s.fld counterBase (BW_TIME_TIME.ix 0)) ++ leBytes 4 (s.fld counterBase (BW_TIME_TIME.ix 1)) ++
    leBytes 4 s.bwWindow ++ List.replicate 36 0
  let counts := (List.range 128).flatMap fun k => leBytes 8 (s.counter k).count
  let rates := (List.range 82).flatMap fun k => leBytes 4 (s.fld counterBase (BW_RATE.ix k))
  let body := head ++ counts ++ rates ++ List.replicate 0x274 0
  body ++ leBytes 4 (crc32 body)

/-- A latch that is not made. -/
def State.dumpSkip (s : State) : State :=
  let s := s.bump counterBase CNT_STATUS_SKIPPED
  let s := { s with counters := { s.counters with skipped := satNat 16 (s.counters.skipped + 1) } }
  s.raiseLimited 0x0018 0x0018 (s.fld counterBase CNT_STATUS_SKIPPED)

/-- The dump is latched. -/
def State.dumpLatch (s : State) : State :=
  { s with counters := { s.counters with dump := some s.dumpRecord, cleared := false, skipped := 0 } }

/-- A dump latch falls due. -/
def State.dumpDue (s : State) : State :=
  if s.counters.dump.isSome || !s.coreCounts then s.dumpSkip else s.dumpLatch

/-- The period of the dumps in core ticks. -/
def State.dumpTicks (s : State) : Nat := s.fld counterBase CNT_CTRL_DUMP_PERIOD * 781250

/-- The next latch is one period after the one that is due, or after now when that is a period late. -/
def State.dumpTimed (s : State) : State :=
  let next := s.counters.dumpNext + s.dumpTicks
  { s with counters := { s.counters with dumpNext := if s.tick < next then next else s.tick + s.dumpTicks } }

def execCounterDumpLatch (s : State) : Result State Fault Refusal :=
  if s.fld counterBase CNT_CTRL_DUMP_PERIOD = 0 ∨ s.tick < s.counters.dumpNext then unchanged s
  else done s.dumpTimed.dumpDue

/-- Where dump SEQ goes. -/
def dumpAddr (seq : Nat) : Nat := 0x00600000 + 0x800 * (seq % 512)

/-- The record is in the ring, its CRC last. -/
def execDumpWriteDone (s : State) : Result State Fault Refusal :=
  match s.counters.dump with
  | some bytes =>
    let q := s.counters.dumpSeq
    let s := (s.hallAccess 19 (dumpAddr q) bytes.length true).hallWrite (dumpAddr q) bytes
    let s := { s with counters := { s.counters with dump := none, dumpSeq := (q + 1) % 2 ^ 32 } }
    done ((s.setFld counterBase DUMP_SEQ_SEQ q).setFld counterBase DUMP_NEXT_ADDR (dumpAddr (q + 1)))
  | none => unchanged s

/-- COUNTER_DUMP sets the period; the first latch falls in the tick of the command. -/
def State.dumpPeriod (s : State) (p : Nat) : State :=
  let s := s.setFld counterBase CNT_CTRL_DUMP_PERIOD p
  if p = 0 then s
  else { s with counters := { s.counters with dumpNext := s.tick + s.dumpTicks } }.dumpDue

end Sys2Proof.Machine
end

