-- ==== Sys2Proof/Machine/FuseBox.lean ====
section
/-! DEFINITION. The collector: raises as their sources present them, broken paths, upsets, clears, and the
words of its block (chapter 13). -/

namespace Sys2Proof.Machine

open Reg

/-- Raises sampled in one core tick (R334, R336). -/
def execFaultRaise (raises : List RaiseEvent) (s : State) : Result State Fault Refusal :=
  done (s.each (sortRaises raises) fun e s => s.raise e.src.toNat e.detail.toNat)

/-- A pair has shown equal levels for 4 ticks (R326). -/
def execPathBroken (src : BitVec 16) (s : State) : Result State Fault Refusal :=
  let k := src.toNat
  if (srcSeverity k).isNone ∨ s.fuse.blind.contains k ∨ s.isolated (srcDomain k 0) then unchanged s
  else done ({ s with fuse := { s.fuse with blind := s.fuse.blind ++ [k] } }.raise 0xF000 k)

/-- The pair is valid again: BLIND clears and the pair is read as usual (R326, R340). -/
def State.pathRestored (s : State) (k : Nat) (fault : Bool) (detail : Nat) : State :=
  let s := { s with fuse := { s.fuse with
    blind := s.fuse.blind.filter (· != k), rails := s.fuse.rails.filter (· != k) } }
  if fault then s.raise k detail else s.quiet k

def execPathRestored (src : BitVec 16) (fault : Bool) (detail : BitVec 16) (s : State) :
    Result State Fault Refusal :=
  if s.fuse.blind.contains src.toNat then done (s.pathRestored src.toNat fault detail.toNat) else unchanged s

/-- The condition of a level source ends (R340). -/
def execLevelSourceQuiet (src : BitVec 16) (s : State) : Result State Fault Refusal :=
  if srcLevel src.toNat then done (s.quiet src.toNat) else unchanged s

/-- An upset in a word of the collector is voted (R342). -/
def execFbUpset (word : BitVec 16) (resolvable : Bool) (s : State) : Result State Fault Refusal :=
  if resolvable then
    done ({ s with fuse := { s.fuse with votes := satNat 8 (s.fuse.votes + 1) } }.raise 0xF001 word.toNat)
  else done (s.raise 0xF002 word.toNat)

/-- A read of FFR_0 latches FFR_1 to FFR_5 from the same tick (R347). -/
def State.readFfr0 (s : State) : Word × State :=
  let ws := s.fuse.record.words
  (ws.headD 0, { s with fuse := { s.fuse with latched := ws.drop 1 } })

def execFfr0Read (s : State) : Result State Fault Refusal :=
  let (w, s) := s.readFfr0
  done { s with link := { s.link with readData := w } }

/-! ### Clears and configuration -/

/-- A source is CLEARED: it leaves at once when its pair is quiet and it is not BLIND (R339, R340). -/
def State.clearSource (s : State) (e : ActiveEntry) : State :=
  if s.fuse.blind.contains e.src || s.pairActive e.src then
    { s with fuse := { s.fuse with active := s.fuse.active.map fun x =>
        if x.src == e.src then { x with cleared := true } else x } }
  else s.leave e.src

/-- FAULT_CLEAR bit 0 (R339). -/
def State.clearRecord (s : State) : State :=
  let s := { s with fuse := { s.fuse with record := FaultRecord.empty } }
  s.each s.fuse.active fun e s => s.clearSource e

/-- FAULT_CLEAR bit 1 (R339). -/
def State.clearHistory (s : State) : State :=
  { s with fuse := { s.fuse with hist := [], overwritten := 0 } }

/-- The set that FAULT_CONFIG gives a source, `none` where it is answered BAD_PARAM (R332, R333). -/
def configSet (src set : Nat) : Option Nat :=
  match srcSeverity src with
  | none => none
  | some sev =>
    let lanes := decide (0x10 ≤ src / 256 ∧ src / 256 < 0x30)
    let bit := fun k => set.testBit k
    let bad :=
      decide (0x200 ≤ set) || (!bit 0 && decide (2 ≤ sev)) ||
      (bit 2 && (decide (sev < 2) || !(lanes || srcFixed src &&& rSquelch != 0))) ||
      (bit 3 && (!lanes || sev != 2 && sev != 3)) ||
      (bit 8 && sev != 3 && sev != 4)
    if bad then none
    else some ((set &&& (rLog ||| rAttn ||| rSquelch ||| rReacq ||| rSafe)) ||| srcFixed src)

/-- A source takes a reaction set. -/
def State.setReactions (s : State) (src set : Nat) : State :=
  { s with fuse := { s.fuse with sets := Sparse.set srcDefault s.fuse.sets src set } }

/-! ### Registers of the block (Tables 13-8, 13-10 and 13-11) -/

/-- FAULT_SUMMARY (Table 11-8). -/
def State.faultSummary (s : State) : Word :=
  let r := s.fuse.record
  if r.valid then BitVec.ofNat 32 (2 ^ 31 + r.highestSev * 2 ^ 28 + r.source) else 0

/-- FB_STATUS. -/
def State.fbStatus (s : State) : Word :=
  let f := s.fuse
  let sev := f.active.foldl (fun m e => max m ((srcSeverity e.src).getD 0)) 0
  BitVec.ofNat 32 ((if f.safe then 2 ^ 31 else 0) + sev * 2 ^ 28 + (if f.active.isEmpty then 0 else 2 ^ 27) +
    satNat 11 f.active.length * 2 ^ 16 + f.votes * 2 ^ 8 + satNat 8 f.blind.length)

/-- FB_HIST. -/
def State.fbHist (s : State) : Word := BitVec.ofNat 32 (s.fuse.overwritten * 0x10000 + s.fuse.hist.length)

/-- SRC_INFO of the source that SRC_SELECT names. -/
def State.srcInfo (s : State) : Word :=
  let k := s.fld fuseBase SRC_SELECT_SOURCE
  match srcSeverity k with
  | none => 0
  | some sev =>
    let e := s.fuse.active.find? fun e => e.src == k
    let b := fun (c : Bool) (p : Nat) => if c then 2 ^ p else 0
    BitVec.ofNat 32 (2 ^ 31 + sev * 2 ^ 28 + b e.isSome 27 + b ((e.map ActiveEntry.cleared).getD false) 26 +
      b (s.fuse.blind.contains k) 25 + b (s.pairActive k) 24 + srcFixed k * 2 ^ 15 + s.srcSet k * 2 ^ 6)

/-- ACTIVE_g_w. -/
def State.activeWord (s : State) (g w : Nat) : Word :=
  BitVec.ofNat 32 ((List.range 32).foldl (fun acc i =>
    if s.fuse.active.any fun e => e.src == g * 256 + 32 * w + i then acc + 2 ^ i else acc) 0)

/-- A word of the Fuse Box block that is not stored as a register, by its offset. -/
def State.fuseWord (s : State) (off : Nat) : Option Word :=
  let f := s.fuse
  if off = 0x04 then some s.fbStatus
  else if off = 0x08 then some s.fbHist
  else if off = 0x10 then some (f.record.words.headD 0)
  else if 0x14 ≤ off ∧ off ≤ 0x24 then some (f.latched.getD ((off - 0x14) / 4) 0)
  else if off = 0x44 then some s.srcInfo
  else if 0x100 ≤ off ∧ off < 0x200 then
    some (match f.hist[(off - 0x100) / 16]? with
      | some h => h.words.getD ((off - 0x100) % 16 / 4) 0
      | none => 0)
  else if 0x1000 ≤ off ∧ off < 0x3000 then
    some (s.activeWord ((off - 0x1000) / 0x20) ((off - 0x1000) % 0x20 / 4))
  else none

end Sys2Proof.Machine
end

