-- ==== Sys2Proof/Machine/Adc.lean ====
section
/-! DEFINITION. The front end and the line receive converter (chapter 3): the VGA, the background
estimators, the spare rotation, and the substitution of a failing slice. -/

namespace Sys2Proof.Machine

open Reg

/-! ### Front end -/

/-- Gain of the CTLE at low frequency against 113.333 GHz, and of the VGA, in units of 0.5 dB (R53). -/
def ctleGain (c : Nat) : Int := -2 * c
def vgaGain (v : Nat) : Nat := v

/-- The largest x below 2^k whose 40th power times 10^v does not exceed that of 500,000. -/
def fullScaleSearch (v : Nat) : Nat → Nat → Nat
  | 0, x => x
  | k + 1, x =>
    let y := x + 2 ^ k
    fullScaleSearch v k (if y ^ 40 * 10 ^ v ≤ 500000 ^ 40 then y else x)

/-- The amplitude in µVppd at the balls, at 113.333 GHz, that brings the slices to full scale: 500 mVppd at VGA setting 0,
and 0.5 dB less for each step; rounded down (R53). -/
def fullScaleMicrovolts (v : Nat) : Nat := fullScaleSearch v 19 0

/-- Core ticks in 1 ms. -/
def ticks1ms : Nat := 781250

/-- The digital gain against VGA steps, in steps of 0.5 dB: it returns to 0 over 1 ms (R54). -/
def State.vgaCompNow (s : State) (n : Fin 8) : Rat :=
  let a := s.line[n].adc
  let d := s.tick - a.vgaTick
  if ticks1ms ≤ d then 0 else a.vgaComp * (1 - (d : Rat) / ticks1ms)

/-- Moves the VGA by a number of steps, with the digital gain that compensates them (R54).  DESIGN CHOICE (log 119): the
1 ms of the return counts afresh from each step. -/
def State.vgaStep (s : State) (n : Fin 8) (d : Int) : State :=
  let b := lineBase n
  let cur : Int := s.fld b AFE_STATUS_VGA_CUR
  let new := max 0 (min 36 (cur + d))
  let comp := s.vgaCompNow n
  (s.setFld b AFE_STATUS_VGA_CUR new.toNat).modAdc n fun a =>
    { a with vgaComp := comp - (new - cur : Int), vgaTick := s.tick }

/-- INPUT_LEVEL is published (R493). -/
def execAfeLevelUpdate (n : Fin 8) (level : Nat) (s : State) : Result State Fault Refusal :=
  if s.domOn (domLineRx n) then done (s.setFld (lineBase n) AFE_STATUS_INPUT_LEVEL (satNat 16 level))
  else unchanged s

/-- More than 10^−4 of the samples of a window are over range (R54, R59). -/
def overRange (high total : Nat) : Bool := decide (total < 10000 * high)

/-- The step that the rms loop takes: one toward 36 LSB once the rms is a step of 0.5 dB away, so that the mean square
differs from 36² by a factor of 10^(1/20) (R54). -/
def levelStep (meanSquare : Rat) : Int :=
  let target : Rat := 1296
  if meanSquare ^ 20 * 10 ≤ target ^ 20 then 1
  else if target ^ 20 * 10 ≤ meanSquare ^ 20 then -1
  else 0

/-- A 10 µs VGA window with its over-range samples and the mean square in LSB² of its corrected samples (R54):
over-range steps the VGA down at once; otherwise the loop holds the rms. -/
def execVgaWindow (n : Fin 8) (high total : Nat) (meanSquare : Rat) (s : State) : Result State Fault Refusal :=
  if s.domOn (domLineRx n) && s.lineTask n taskVga && !s.flag (lineBase n) AFE_CTRL_VGA_MAN then
    done (s.vgaStep n (if overRange high total then -1 else levelStep meanSquare))
  else unchanged s

/-- A write of AFE_CTRL (R55, Table 3-1). -/
def State.afeCtrlWrite (s : State) (n : Fin 8) (value : Word) : State :=
  let b := lineBase n
  let ctle := wordField value 0 4
  let man := wordField value 14 1
  let vga := wordField value 8 6
  let changed := s.fld b AFE_CTRL_CTLE_SET != ctle || s.fld b AFE_CTRL_CTLE_MAN != man
  let s := ((s.setFld b AFE_CTRL_CTLE_SET ctle).setFld b AFE_CTRL_CTLE_MAN man).setFld b AFE_CTRL_VGA_MAN
    (wordField value 15 1)
  let s := if vga ≤ 36 then s.setFld b AFE_CTRL_VGA_SET vga else s
  let s := if s.flag b AFE_CTRL_VGA_MAN then
      s.vgaStep n ((s.fld b AFE_CTRL_VGA_SET : Int) - s.fld b AFE_STATUS_VGA_CUR)
    else s
  if changed && s.locked n then s.acqStart n else s

def execAfeCtrlWrite (n : Fin 8) (value : Word) (s : State) : Result State Fault Refusal :=
  done (s.afeCtrlWrite n value)

/-! ### Background estimators -/

/-- A quotient by a mean power; a power of zero leaves the result open (log 13). -/
def overPower (x p : Rat) : Rat := if p = 0 then Config.overZero x else x / p

/-- The mean of a list. -/
def ratMean (l : List Rat) : Rat := l.foldl (· + ·) 0 / l.length

/-- Steps of the analogue trim per symbol period are T / 25 fs: 3000/17 in 400G line mode, 6000/17 in
200G (R56, R60). -/
def State.trimSteps (s : State) : Rat := if s.line200 then 6000 / 17 else 3000 / 17

/-- The split of R60: beyond 0.25 ps the trim moves one step and takes it off the digital term. -/
def splitSkew (steps : Rat) (t : SliceTerms) : SliceTerms :=
  if 10 < t.skew * steps ∧ t.trim < 127 then { t with trim := t.trim + 1, skew := t.skew - 1 / steps }
  else if t.skew * steps < -10 ∧ -127 < t.trim then { t with trim := t.trim - 1, skew := t.skew + 1 / steps }
  else t

/-- A slice in service with the position it holds. -/
structure Held where
  slice : Fin 17
  pos : Nat
  deriving DecidableEq, Repr

/-- The slices that take part in a block: active and not bridged. -/
def State.heldSlices (s : State) (n : Fin 8) : List Held :=
  (List.finRange 17).filterMap fun k =>
    if s.slicePos n k.val < 16 ∧ s.sliceFld n SLICE_A_STATE k.val = 0 then
      some ⟨k, s.slicePos n k.val⟩
    else none

/-- The update of R61 for one slice, before the means are removed. -/
def blockUpdate (muOg muTb pbar cbar ebar : Rat) (st : BlockStats) (p : Nat) (t : SliceTerms) : SliceTerms :=
  { t with
    offset := t.offset + muOg * (st.mean.getD p 0 - t.offset)
    gain := t.gain - muOg * (overPower (st.power.getD p 0) pbar - 1) / 2
    skew := t.skew + muTb * overPower (st.corr.getD p 0 - cbar) pbar
    bw := t.bw + muTb * overPower (st.hcorr.getD p 0 - ebar) pbar }

/-- A step exponent as it acts (Table 3-11). -/
def muClamp (v : Nat) : Nat := max 4 (min 12 v)

/-- The updates of one block (R61, R62); a slice's terms move while its task runs (R24). -/
def State.blockTerms (s : State) (n : Fin 8) (st : BlockStats) : Vector SliceTerms 17 :=
  let b := lineBase n
  let a := s.line[n].adc
  let held := s.heldSlices n
  let og := if a.step = 4 then 4 else muClamp (s.fld b ADC_CTRL_MU_OG)
  let tb := if a.step = 4 then 4 else muClamp (s.fld b ADC_CTRL_MU_TB)
  let pbar := ratMean (held.map fun h => st.power.getD h.pos 0)
  let cbar := ratMean (held.map fun h => st.corr.getD h.pos 0)
  let ebar := ratMean (held.map fun h => st.hcorr.getD h.pos 0)
  let upd := fun h : Held => blockUpdate (1 / 2 ^ og) (1 / 2 ^ tb) pbar cbar ebar st h.pos a.terms[h.slice]
  let gbar := ratMean (held.map fun h => (upd h).gain)
  let tbar := ratMean (held.map fun h => (upd h).skew)
  (held.filter fun h => s.lineTask n h.slice.val).foldl (fun v h =>
    let t := upd h
    v.set h.slice (splitSkew s.trimSteps { t with gain := t.gain - gbar, skew := t.skew - tbar })) a.terms

/-- Units of 5 ms since the last ramp measurement, saturating (Table 3-14). -/
def State.calAge (s : State) (a : AdcState) (k : Nat) : Nat :=
  match a.ramp k with
  | some t => satNat 8 ((s.tick - t) / 3906250)
  | none => 0xFF

/-- Publishes the estimated fields of one slice (R79). -/
def State.publishSlice (n : Fin 8) (k : Fin 17) (s : State) : State :=
  let b := lineBase n
  let a := s.line[n].adc
  let t := a.terms[k]
  let s := s.setFld b (SLICE_A_OFFSET.ix k.val) (intBits 8 (satInt 8 (quantise (t.offset * 8))))
  let s := s.setFld b (SLICE_A_GAIN.ix k.val) (intBits 8 (satInt 8 (quantise (t.gain * 512))))
  let s := s.setFld b (SLICE_A_SKEW.ix k.val) (intBits 8 (satInt 8 (quantise (t.trim + t.skew * s.trimSteps))))
  let s := s.setFld b (SLICE_B_BW.ix k.val) (intBits 8 (satInt 8 (quantise (t.bw * 1024))))
  let s := s.setFld b (SLICE_B_CAL_AGE.ix k.val) (s.calAge a k.val)
  let s := s.setFld b (SLICE_B_STATIC_ENOB.ix k.val) (satNat 8 a.enob[k])
  s.setFld b (SLICE_B_CHECK_ERR.ix k.val) (satNat 8 a.checkErr[k])

/-- The lowest ENOB of the active slices. -/
def State.activeEnob (s : State) (n : Fin 8) : Nat :=
  (((s.heldSlices n).map fun h => satNat 8 s.line[n].adc.enob[h.slice]).min?).getD 0

/-- The publication at the end of a block, and of SPUR every 1 ms (R79). -/
def State.publishBlock (s : State) (n : Fin 8) (spur : Nat) : State :=
  let s := s.each (List.finRange 17) (State.publishSlice n)
  let s := s.setFld (lineBase n) ADC_QUAL_STATIC_ENOB (s.activeEnob n)
  let due := match s.line[n].adc.spurTick with
    | some t => decide (t + ticks1ms ≤ s.tick)
    | none => true
  s.when due fun s =>
    (s.setFld (lineBase n) ADC_QUAL_SPUR (satNat 16 spur)).modAdc n fun a => { a with spurTick := some s.tick }

/-- The slices convert and their detectors act: from step 1 of the ADC start until the lane stops for a re-acquisition or
its domain starts its entry sequence (R68). -/
def State.adcRuns (s : State) (n : Fin 8) : Bool := s.line[n].adc.step != 0 && s.domOn (domLineRx n)

/-- A block ends (R61, R62, R79). -/
def execAdcBlockEnd (n : Fin 8) (stats : BlockStats) (s : State) : Result State Fault Refusal :=
  if 4 ≤ s.line[n].adc.step ∧ s.adcRuns n ∧ s.roomRuns n.val then
    let s := if s.flag (lineBase n) ADC_CTRL_BG_FREEZE then s
      else
        let terms := s.blockTerms n stats
        s.modAdc n fun a => { a with terms := terms }
    done (s.publishBlock n stats.spur)
  else unchanged s

/-- A 1 ms over-range window with its over-range samples (R59, R80). -/
def execOvrWindow (n : Fin 8) (high total : Nat) (s : State) : Result State Fault Refusal :=
  let b := lineBase n
  if s.adcRuns n then
    let exceeds := overRange high total
    let s := (s.addSat b ADC_OVR_OVR_COUNT high).setFlag b ADC_OVR_STAT_OVR_NOW exceeds
    let s := s.countEvent (0x3004 + n.val * 0x100) high
    let src := lineSrc n 0x35
    let held := match Sparse.find? s.limits src with
      | some t => decide (s.tick < t + ticksPerSecond)
      | none => false
    if exceeds && !held then
      done ((s.setFlag b ADC_OVR_STAT_OVR_STICKY true).raiseLimited src src (satNat 16 high))
    else done s
  else unchanged s

/-- CONVERGED (Table 3-4 step 4), not before a substitution that runs again has handed over (R71). -/
def execAdcConverged (n : Fin 8) (s : State) : Result State Fault Refusal :=
  let a := s.line[n].adc
  if a.step = 4 ∧ s.adcRuns n ∧ a.urgent = none then done (s.setFlag (lineBase n) ADC_STATUS_CONVERGED true)
  else unchanged s

/-! ### The spare -/

/-- The detail word of the ADC sources: slice and position (R80). -/
def sliceDetail (slice pos : Nat) : Nat := slice * 256 + pos

/-- The spare is consumed: no slice is the spare any more, and nothing is planned (R73). -/
def State.spareGone (s : State) (n : Fin 8) : State :=
  let b := lineBase n
  let s := ((s.setFld b ADC_STATUS_SPARE_SLICE 0x1F).setFld b ADC_STATUS_SPARE_STATE 0).setFlag b
    ADC_STATUS_SPARE_NONE true
  s.modAdc n fun a => { a with planned := none, training := none }

/-- A slice is retired (R70, R71). -/
def State.retireSlice (s : State) (n : Fin 8) (k : Nat) : State := s.setSlice n k 31 5

/-- The bridge of a position is permanent (R71, R73). -/
def State.bridgePersist (s : State) (n : Fin 8) (k p : Nat) : State :=
  s.raise (lineSrc n 0x33) (sliceDetail k p)

/-- The failing slice of a bridged position. -/
def State.failingAt (s : State) (n : Fin 8) (p : Nat) : Nat :=
  ((s.line[n].adc.bridged.find? fun e => e.1 == p).map (·.2)).getD 0

/-- The spare is retired where it stands: SPARE_EXHAUSTED, and BRIDGE_PERSIST for a position that waited
for it (R70, R71, Table 3-9). -/
def State.retireSpare (s : State) (n : Fin 8) : State :=
  match s.spare n with
  | some k =>
    let urgent := s.line[n].adc.urgent
    let s := (s.retireSlice n k).spareGone n
    let s := s.raise (lineSrc n 0x32) (sliceDetail k 0x10)
    match urgent with
    | some p =>
      let s := s.modAdc n fun a => { a with urgent := none, urgentTraining := false, urgentCal := false }
      (s.bridgePersist n (s.failingAt n p) p).refreshTrainPos n
    | none => s.refreshTrainPos n
  | none => s

/-- The spare takes a position: the slice register, its corrections, and the end of a bridge there. -/
def State.takePosition (s : State) (n : Fin 8) (k p : Nat) (t : SliceTerms) : State :=
  let s := s.setSlice n k p 0
  let s := s.modAdc n fun a => { a with
    terms := a.terms.set! k t, bridged := a.bridged.filter fun e => e.1 != p }
  s.refreshBridged n

/-- A substitution is complete: the outgoing slice is RETIRED and the spare consumed, with SLICE_SUBST,
SPARE_EXHAUSTED and the Attic record (R70, R71, R73). -/
def State.substituted (s : State) (n : Fin 8) (incoming outgoing p : Nat) : State :=
  let s := (s.retireSlice n outgoing).spareGone n
  let d := sliceDetail incoming p
  let s := s.raise (lineSrc n 0x31) d
  let s := s.raise (lineSrc n 0x32) d
  let s := { s with attic := { s.attic with sliceSubst := satNat 16 (s.attic.sliceSubst + 1) } }
  (s.substitution 0 n.val d).refreshTrainPos n

/-- The terms that slice j starts its training with to follow slice k: those of slice k, corrected by the difference of
the ramp measurements (R65 step 2; DEDUCED for an urgent substitution, log 119). -/
def AdcState.movedTerms (a : AdcState) (j k : Nat) : SliceTerms :=
  let t := (a.terms[k]?).getD ⟨0, 0, 0, 0, 0⟩
  { t with offset := t.offset + ((a.rampOffset[j]?).getD 0 - (a.rampOffset[k]?).getD 0),
           gain := t.gain + ((a.rampGain[j]?).getD 0 - (a.rampGain[k]?).getD 0) }

/-- The spare copies the corrections of the position it is to take, corrected by the difference of the
ramp measurements, and trains (R65 steps 2 and 3). -/
def State.trainSpare (s : State) (n : Fin 8) (p : Nat) : State :=
  match s.spare n, s.sliceAt n p with
  | some j, some k =>
    let s := s.modAdc n fun a => { a with training := some p, terms := a.terms.set! j (a.movedTerms j k) }
    (s.setSpareState n 2).refreshTrainPos n
  | _, _ => s

/-- A rotation step starts (R65, R77): from READY the spare trains; from PARKED it powers up and runs CAL
first. -/
def State.startRotation (s : State) (n : Fin 8) : State :=
  match s.rotationTarget n with
  | some p =>
    if s.spareState n = 3 then s.trainSpare n p
    else if s.spareState n = 4 then
      ((s.modAdc n fun a => { a with training := some p }).setSpareState n 1).refreshTrainPos n
    else s
  | none => s

/-- The rotation pauses: BG_FREEZE, and no substitution that goes on (R62). -/
def State.rotationPaused (s : State) (n : Fin 8) : Bool :=
  s.flag (lineBase n) ADC_CTRL_BG_FREEZE && s.line[n].adc.planned.isNone

/-- The spare is free for a step. -/
def State.spareIdle (s : State) (n : Fin 8) : Bool :=
  let a := s.line[n].adc
  a.training.isNone && a.urgent.isNone && (s.spareState n == 3 || s.spareState n == 4)

/-- A rotation step may start: the ADC rotates, the task of the rotation runs, and the spare is free. -/
def State.canRotate (s : State) (n : Fin 8) : Bool :=
  s.line[n].adc.step == 5 && s.adcRuns n && s.lineTask n taskRotation && !s.flag (lineBase n) ADC_CTRL_BG_FREEZE &&
    s.spareIdle n

/-- A planned substitution starts at once when the spare is free (R70); BG_FREEZE does not hold it (R62). -/
def State.tryPlanned (s : State) (n : Fin 8) : State :=
  let a := s.line[n].adc
  if a.planned.isSome && decide (4 ≤ a.step) && s.adcRuns n && s.lineTask n taskRotation && s.spareIdle n then
    s.startRotation n
  else s

/-- The rotation interval expires (R65). -/
def execRotationStep (n : Fin 8) (s : State) : Result State Fault Refusal :=
  if s.canRotate n && s.fld (lineBase n) ADC_CTRL_ROT_PERIOD != 0 then done (s.startRotation n)
  else unchanged s

/-- A slice's ramp measurement ends (R64, R65, R79). -/
def State.rampDone (s : State) (n : Fin 8) (k : Nat) (r : RampResult) : State :=
  s.modAdc n fun a => { a with
    lin := a.lin.set! k r.table, lastRamp := a.lastRamp.set! k (some s.tick),
    rampOffset := a.rampOffset.set! k r.offset, rampGain := a.rampGain.set! k r.gain, enob := a.enob.set! k r.enob }

/-- A STATIC_ENOB below 5.5 bits, in units of 1/32 bit (Table 3-7). -/
def enobLow (enob : Nat) : Bool := decide (enob < 176)

/-- An active slice is to be replaced by a planned substitution that retires it (R70).  DESIGN CHOICE (log 120): a second
one found while one is planned takes its place. -/
def State.planRetire (s : State) (n : Fin 8) (k : Nat) : State :=
  if s.slicePos n k < 16 ∧ s.sliceFld n SLICE_A_STATE k = 0 ∧ (s.spare n).isSome ∧ s.line[n].adc.urgent = none then
    ((s.modAdc n fun a => { a with planned := some ⟨k, true, false⟩ }).tryPlanned n).refreshTrainPos n
  else s

/-- Step 3 of the ADC start ends: every slice that took part has its table, and step 4 begins; a spare below 5.5 bits is
retired (Table 3-7).  DEDUCED (log 121) from R68 and R73: an active slice below 5.5 bits is not healthy, and is replaced as
a degrading slice. -/
def State.startRampsDone (s : State) (n : Fin 8) (ramps : List (Fin 17 × RampResult)) : State :=
  let used := s.startSlices n
  let s := s.each (ramps.filter fun e => used.contains e.1.val) fun e s => s.rampDone n e.1.val e.2
  let s := s.adcEstimate n
  let low := (ramps.filter fun e => used.contains e.1.val && enobLow e.2.enob).map fun e => e.1.val
  s.each low fun k s => if s.spare n = some k then s.retireSpare n else s.planRetire n k

/-- The spare leaves CAL (R64, R68): retired below 5.5 bits; on to TRAIN when its step runs; else at rest, where a planned
substitution that has not been abandoned takes it at once. -/
def State.spareCalDone (s : State) (n : Fin 8) (k : Nat) (r : RampResult) : State :=
  let s := (s.rampDone n k r).modAdc n fun a => { a with urgentCal := false }
  if enobLow r.enob then s.retireSpare n
  else
    match s.line[n].adc.training with
    | some p => s.trainSpare n p
    | none =>
      let s := s.setSpareState n (if s.line[n].adc.urgent.isSome then 3 else s.restState n)
      let waits := (s.line[n].adc.planned.map PlannedSubst.waits).getD true
      (s.when (!waits) fun s => s.tryPlanned n).refreshTrainPos n

/-- Ramp measurements end: all those of step 3 of the ADC start, or the spare's in CAL.  One that is part of a rotation
step waits while rotation pauses (R62). -/
def execSpareCalDone (n : Fin 8) (ramps : List (Fin 17 × RampResult)) (s : State) : Result State Fault Refusal :=
  let a := s.line[n].adc
  if a.step = 3 ∧ s.adcRuns n then done (s.startRampsDone n ramps)
  else
    match s.spare n, ramps.find? fun e => some e.1.val == s.spare n with
    | some k, some e =>
      if s.adcRuns n ∧ s.spareState n = 1 ∧ ¬ (a.training.isSome ∧ s.rotationPaused n) then done (s.spareCalDone n k e.2)
      else unchanged s
    | _, _ => unchanged s

/-! ### Faults of slices -/

/-- An abrupt fault of one slice (R71, R73, Tables 3-8 and 3-9). -/
def State.abruptSlice (s : State) (n : Fin 8) (k : Nat) : State :=
  let p := s.slicePos n k
  if s.spare n = some k then s.retireSpare n
  else if p < 16 ∧ s.sliceFld n SLICE_A_STATE k = 0 then
    let s := s.setFld (lineBase n) (SLICE_A_STATE.ix k) 6
    let s := s.modAdc n fun a => { a with bridged := a.bridged ++ [(p, k)] }
    let s := (s.refreshBridged n).raise (lineSrc n 0x30) (sliceDetail k p)
    if (s.spare n).isNone || s.line[n].adc.urgent.isSome then s.bridgePersist n k p
    else
      let st := s.spareState n
      let s := s.bistNeeded n.val
      let s := s.modAdc n fun a =>
        { a with urgent := some p, urgentTraining := false, urgentCal := decide (st = 4), training := none }
      (if st = 2 then s.setSpareState n 3 else if st = 4 then s.setSpareState n 1 else s).refreshTrainPos n
  else s

/-- Inserts a slice in ascending order of position. -/
def insertByPos (pos : Nat → Nat) (k : Nat) : List Nat → List Nat
  | [] => [k]
  | x :: xs => if pos k < pos x then k :: x :: xs else x :: insertByPos pos k xs

/-- Abrupt faults of one datapath clock, the lower position first (Table 3-9). -/
def State.abruptSlices (s : State) (n : Fin 8) (ks : List (Fin 17)) : State :=
  let order := ks.foldl (fun acc k => insertByPos (s.slicePos n) k.val acc) []
  s.each order fun k s => s.abruptSlice n k

/-- The sign is an abrupt fault (Table 3-7). -/
def abruptTrips : AbruptSign → Bool
  | .stuck run othersVary => decide (256 ≤ run) && othersVary
  | .noClock => true

/-- Detectors of abrupt faults see signs on slices (R68, R71). -/
def execSliceAbruptFault (n : Fin 8) (signs : List (Fin 17 × AbruptSign)) (s : State) : Result State Fault Refusal :=
  if s.adcRuns n then done (s.abruptSlices n ((signs.filter fun e => abruptTrips e.2).map Prod.fst)) else unchanged s

/-- A degrading slice (R70): the spare is retired; an active slice is replaced while there is a spare that
is not committed. -/
def State.degradingSlice (s : State) (n : Fin 8) (k : Nat) : State :=
  if s.spare n = some k then s.retireSpare n else s.planRetire n k

/-- With a flag at a conversion, four flags fall within 64 conversions of the slice (Table 3-7). -/
def flagsAbrupt (flags : List (Nat × Nat)) (conv : Nat) : Bool :=
  decide (4 ≤ (flags.takeWhile fun e => decide (conv < e.2 + 64)).length)

/-- More than 16 isolated flags within 1 s, up to a tick (Table 3-7). -/
def flagsOften (flags : List (Nat × Nat)) (now : Nat) : Bool :=
  decide (16 < (flags.takeWhile fun e => decide (now < e.1 + ticksPerSecond)).length)

/-- A slice sets CHK with a conversion, numbered along its own conversions (R68, R69): four flags within 64 conversions
are an abrupt fault; an isolated flag replaces its sample alone and counts, and more than 16 a second are a degrading
trigger. -/
def execSliceCheckFlag (n : Fin 8) (slice : Fin 17) (conv : Nat) (s : State) : Result State Fault Refusal :=
  if s.adcRuns n ∧ s.slicePos n slice.val ≠ 31 then
    let flags := ((s.tick, conv) :: s.line[n].adc.flags[slice]).take 17
    let s := s.modAdc n fun a => { a with flags := a.flags.set slice flags }
    if flagsAbrupt flags conv then done (s.abruptSlice n slice.val)
    else
      let s := s.modAdc n fun a => { a with checkErr := a.checkErr.set slice (satNat 8 (a.checkErr[slice] + 1)) }
      if flagsOften flags s.tick then done (s.degradingSlice n slice.val) else done s
  else unchanged s

/-- A term of a slice is beyond its limit: 8 LSB of offset, 10 % of gain, or 2.5 ps of skew, analogue and digital
together, 100 steps of 25 fs (Table 3-7). -/
def beyondLimits (steps : Rat) (t : SliceTerms) : Bool :=
  decide (8 < |t.offset| ∨ 1 / 10 < |t.gain| ∨ 100 < |(t.trim : Rat) + t.skew * steps|)

/-- A limit detector looks at a slice (R68, R70). -/
def execSliceDegrading (n : Fin 8) (slice : Fin 17) (s : State) : Result State Fault Refusal :=
  if s.adcRuns n ∧ beyondLimits s.trimSteps s.line[n].adc.terms[slice] then done (s.degradingSlice n slice.val)
  else unchanged s

/-! ### Training of the spare -/

/-- L_k[code] in LSB, centred on mid-scale, by a slice's linearisation table (R57, R60).  DESIGN CHOICE (log 119): a slice
that has not been measured reads its codes as they stand. -/
def linearised (table : List Rat) (code : Fin 256) : Rat := table.getD code.val ((code.val : Rat) - 255 / 2)

/-- d of a symbol: the spare's corrected sample less that of the slice in the position (R65 step 3). -/
def trainError (table : List Rat) (t : SliceTerms) (x : TrainSample) : Rat :=
  (1 + t.gain) * (linearised table x.code - t.offset) - t.skew * x.diff - t.bw * x.second - x.active

/-- The terms after a block of training by least mean squares with a step of 2^−6 (R65 step 3).  DEDUCED (log 119): each
term moves along the derivative of d, and as in R61 the moves but the offset's are relative to the mean power. -/
def trainBlock (steps : Rat) (table : List Rat) (t : SliceTerms) (block : List TrainSample) : SliceTerms :=
  let mu : Rat := 1 / 64
  let mean := fun (f : TrainSample → Rat) => ratMean (block.map fun x => trainError table t x * f x)
  let power := ratMean (block.map fun x => x.active * x.active)
  splitSkew steps { t with
    offset := t.offset + mu * mean fun _ => 1
    gain := t.gain - mu * overPower (mean fun x => linearised table x.code - t.offset) power
    skew := t.skew + mu * overPower (mean TrainSample.diff) power
    bw := t.bw + mu * overPower (mean TrainSample.second) power }

/-- The terms after blocks of training, and the d of each block, the last block first. -/
def trainRun (steps : Rat) (table : List Rat) (t : SliceTerms) (blocks : List (List TrainSample)) :
    SliceTerms × List (List Rat) :=
  blocks.foldl (fun acc b => (trainBlock steps table acc.1 b, b.map (trainError table acc.1) :: acc.2)) (t, [])

/-- Handover is permitted: 16 to 256 blocks, and over the last four an rms of d of at most 0.10 LSB and a mean of at most
0.02 LSB in magnitude (R65 step 4). -/
def trainedWell (errors : List (List Rat)) : Bool :=
  let d := (errors.take 4).flatten
  decide (16 ≤ errors.length ∧ errors.length ≤ 256 ∧ ratMean (d.map fun x => x * x) ≤ 1 / 100 ∧ |ratMean d| ≤ 1 / 50)

/-- The spur limit in units of 0.1 dB below the carrier (R67, R73). -/
def State.spurLimit (s : State) (n : Fin 8) : Nat := if s.flag (lineBase n) ADC_STATUS_SPARE_NONE then 580 else 620

/-- The spare's terms after training for a bridged position: the equations of R61 with step sizes of 2^−4, against the
ensemble of the other positions (Table 3-8 step 4). -/
def State.urgentTerms (s : State) (n : Fin 8) (p : Nat) (t : SliceTerms) (blocks : List BlockStats) : SliceTerms :=
  let others := (s.heldSlices n).map Held.pos
  blocks.foldl (fun t st =>
    let mean := fun (l : List Rat) => ratMean (others.map fun q => l.getD q 0)
    splitSkew s.trimSteps (blockUpdate (1 / 16) (1 / 16) (mean st.power) (mean st.corr) (mean st.hcorr) st p t)) t

/-! ### Handovers -/

/-- The outgoing slice of a completed rotation step: RETIRED when it degrades or has failed, else the new
spare, in CAL (R65 step 6, R70, Table 3-9). -/
def State.rotated (s : State) (n : Fin 8) (j k p : Nat) (t : SliceTerms) (retire : Bool) : State :=
  let b := lineBase n
  let s := s.takePosition n j p t
  let s := (s.bumpMod b ADC_STATUS_ROT_COUNT).modAdc n fun a =>
    { a with training := none, planned := a.planned.filter fun q => q.slice != k }
  if retire then s.substituted n j k p
  else
    let s := s.setSlice n k 16 1
    let s := (s.setFld b ADC_STATUS_SPARE_SLICE k).setFld b ADC_STATUS_SPARE_STATE 1
    s.refreshTrainPos n

/-- A rotation handover after blocks of training, with the spur estimate in 0.1 dB below the carrier of the incoming
corrections (R65 steps 3 to 6, R67, Table 3-9). -/
def execRotationHandover (n : Fin 8) (blocks : List (List TrainSample)) (spur : Nat) (abrupt : Option (Fin 16))
    (s : State) : Result State Fault Refusal :=
  let a := s.line[n].adc
  match a.training, s.spare n with
  | some p, some j =>
    match s.sliceAt n p with
    | some k =>
      let run := trainRun s.trimSteps ((a.lin[j]?).getD []) ((a.terms[j]?).getD ⟨0, 0, 0, 0, 0⟩) blocks
      if s.adcRuns n ∧ s.lineTask n taskRotation ∧ ¬ s.rotationPaused n ∧ s.spareState n = 2 ∧ trainedWell run.2 ∧
          s.spurLimit n ≤ spur then
        match abrupt with
        | none =>
          let retire := (a.planned.map fun q => q.retire && q.slice == k).getD false
          done (s.rotated n j k p run.1 retire)
        | some q =>
          if q.val = p then
            done ((s.raise (lineSrc n 0x30) (sliceDetail k p)).rotated n j k p run.1 true)
          else
            match s.sliceAt n q.val with
            | some f => done (s.abruptSlice n f)
            | none => unchanged s
      else unchanged s
    | none => unchanged s
  | _, _ => unchanged s

/-- No handover within 256 blocks (R65 step 4). -/
def execRotationAbort (n : Fin 8) (s : State) : Result State Fault Refusal :=
  match s.line[n].adc.training, s.spare n with
  | some p, some j =>
    if s.adcRuns n ∧ s.lineTask n taskRotation ∧ ¬ s.rotationPaused n ∧ s.spareState n = 2 then
      let s := s.bump (lineBase n) ADC_QUAL_ROT_ABORT
      let s := s.modAdc n fun a =>
        { a with training := none, planned := a.planned.map fun q => { q with waits := true } }
      done (((s.setSpareState n 1).raise (lineSrc n 0x34) (sliceDetail j p)).refreshTrainPos n)
    else unchanged s
  | _, _ => unchanged s

/-- An abandoned planned substitution is tried again (R70). -/
def execSubstRetry (n : Fin 8) (s : State) : Result State Fault Refusal := done (s.tryPlanned n)

/-- The spare of an urgent substitution reaches the bridged position and trains (Table 3-8 step 3); one that was PARKED has
finished its CAL. -/
def execSubstSpareArrived (n : Fin 8) (s : State) : Result State Fault Refusal :=
  let a := s.line[n].adc
  match a.urgent, s.spare n with
  | some p, some j =>
    if s.adcRuns n ∧ a.urgentTraining = false ∧ a.urgentCal = false then
      let k := s.failingAt n p
      done ((s.modAdc n fun a =>
        { a with urgentTraining := true, terms := a.terms.set! j (a.movedTerms j k) }).setSpareState n 2)
    else unchanged s
  | _, _ => unchanged s

/-- An urgent substitution hands over after 64 blocks of training (Table 3-8 steps 4 to 6). -/
def execUrgentSubstHandover (n : Fin 8) (blocks : List BlockStats) (s : State) : Result State Fault Refusal :=
  let a := s.line[n].adc
  match a.urgent, s.spare n with
  | some p, some j =>
    if s.adcRuns n ∧ s.lineTask n taskRotation ∧ a.urgentTraining ∧ blocks.length = 64 then
      let k := s.failingAt n p
      let t := s.urgentTerms n p ((a.terms[j]?).getD ⟨0, 0, 0, 0, 0⟩) blocks
      let s := s.takePosition n j p t
      let s := s.modAdc n fun a => { a with urgent := none, urgentTraining := false }
      done (s.substituted n j k p)
    else unchanged s
  | _, _ => unchanged s

/-- A host request of a planned substitution (R75, Table 3-9). -/
def State.substRequest (s : State) (n : Fin 8) (k : Nat) : State :=
  let a := s.line[n].adc
  if k < 17 ∧ s.slicePos n k < 16 ∧ s.sliceFld n SLICE_A_STATE k = 0 ∧ s.spareIdle n ∧ a.planned = none then
    ((s.modAdc n fun a => { a with planned := some ⟨k, false, false⟩ }).tryPlanned n).refreshTrainPos n
  else s

def execSubstReq (n : Fin 8) (slice : BitVec 5) (detector : Bool) (s : State) :
    Result State Fault Refusal :=
  let s := s.setFld (lineBase n) ADC_CTRL_SUBST_SLICE slice.toNat
  if detector then done s else done (s.substRequest n slice.toNat)

end Sys2Proof.Machine
end

