-- ==== Sys2Proof/Machine/Crypto.lean ====
section
/-! DEFINITION. SHA-384 and the verification of ECDSA over P-384, which the Mirnis image and the RETURN token carry (R285, R286,
R451; the algorithms are those of the published standards, PRESUMED, log 27). -/

namespace Sys2Proof.Machine

/-- The number of big-endian bytes. -/
def beNat (bs : List Byte) : Nat := bs.foldl (fun acc b => acc * 256 + b.toNat) 0

/-- The `len` big-endian bytes of a number. -/
def beBytes (len n : Nat) : List Byte := (List.range len).map fun i => BitVec.ofNat 8 (n / 256 ^ (len - 1 - i))

/-! ### SHA-384 -/

/-- The greatest number below 2^k whose power `e` does not exceed `n`. -/
def rootBits (e n : Nat) : Nat → Nat → Nat
  | 0, acc => acc
  | k + 1, acc => rootBits e n k (if (acc + 2 ^ k) ^ e ≤ n then acc + 2 ^ k else acc)

/-- The first `count` primes from 2 on that lie below 410: there are 80. -/
def shaPrimes : List Nat := (List.range 410).filter fun n => decide (2 ≤ n) && ((List.range n).drop 2).all fun d => n % d != 0

/-- The first 64 bits of the fractional part of the root of power `e` of a prime. -/
def rootFraction (e p : Nat) : BitVec 64 := BitVec.ofNat 64 (rootBits e (p * 2 ^ (64 * e)) 70 0)

/-- The 80 round constants: cube roots of the first 80 primes. -/
def shaRound : List (BitVec 64) := shaPrimes.map (rootFraction 3)

/-- The initial hash of SHA-384: square roots of the 9th to 16th prime. -/
def shaInit : List (BitVec 64) := ((shaPrimes.drop 8).take 8).map (rootFraction 2)

/-- The message schedule, newest word first: the sixteen words of the block, then one more for each round. -/
def shaSchedule : Nat → List (BitVec 64) → List (BitVec 64)
  | 0, ws => ws
  | k + 1, ws =>
    let a := ws.getD 1 0
    let b := ws.getD 14 0
    let s1 := a.rotateRight 19 ^^^ a.rotateRight 61 ^^^ (a >>> 6)
    let s0 := b.rotateRight 1 ^^^ b.rotateRight 8 ^^^ (b >>> 7)
    shaSchedule k ((s1 + ws.getD 6 0 + s0 + ws.getD 15 0) :: ws)

/-- One round on the eight working variables. -/
def shaStep (v : List (BitVec 64)) (kw : BitVec 64) : List (BitVec 64) :=
  let a := v.getD 0 0
  let b := v.getD 1 0
  let c := v.getD 2 0
  let e := v.getD 4 0
  let f := v.getD 5 0
  let g := v.getD 6 0
  let t1 := v.getD 7 0 + (e.rotateRight 14 ^^^ e.rotateRight 18 ^^^ e.rotateRight 41) + ((e &&& f) ^^^ (~~~e &&& g)) + kw
  let t2 := (a.rotateRight 28 ^^^ a.rotateRight 34 ^^^ a.rotateRight 39) + ((a &&& b) ^^^ (a &&& c) ^^^ (b &&& c))
  [t1 + t2, a, b, c, v.getD 3 0 + t1, e, f, g]

/-- One block of 128 bytes. -/
def shaBlock (h : List (BitVec 64)) (block : List Byte) : List (BitVec 64) :=
  let ws := (List.range 16).map fun i => BitVec.ofNat 64 (beNat ((block.drop (8 * i)).take 8))
  let sched := (shaSchedule 64 ws.reverse).reverse
  let v := (List.zipWith (· + ·) shaRound sched).foldl shaStep h
  List.zipWith (· + ·) h v

/-- Blocks of 128 bytes. -/
def shaBlocks : Nat → List Byte → List (BitVec 64) → List (BitVec 64)
  | 0, _, h => h
  | k + 1, bs, h => shaBlocks k (bs.drop 128) (shaBlock h (bs.take 128))

/-- SHA-384 of a message of bytes. -/
def sha384 (bs : List Byte) : List Byte :=
  let zeros := (239 - bs.length % 128) % 128
  let padded := bs ++ [0x80] ++ List.replicate zeros 0 ++ beBytes 16 (8 * bs.length)
  ((shaBlocks (padded.length / 128) padded shaInit).take 6).flatMap fun w => beBytes 8 w.toNat

/-! ### ECDSA over P-384 -/

/-- The field prime, the group order, the curve constant b and the base point of P-384. -/
def p384Prime : Nat := 2 ^ 384 - 2 ^ 128 - 2 ^ 96 + 2 ^ 32 - 1
def p384Order : Nat :=
  0xFFFFFFFFFFFFFFFFFFFFFFFFFFFFFFFFFFFFFFFFFFFFFFFFC7634D81F4372DDF581A0DB248B0A77AECEC196ACCC52973
def p384Base : Nat × Nat :=
  (0xAA87CA22BE8B05378EB1C71EF320AD746E1D3B628BA79B9859F741E082542A385502F25DBF55296C3A545E3872760AB7,
   0x3617DE4A96262C6F5D9E98BF9292DC29F8F41DBD289A147CE9DA3113B5F0B8C00A60B1CE1D7E819D7A431D7C90EA0E5F)

/-- b^e mod m, for exponents below 2^k. -/
def powMod (m : Nat) : Nat → Nat → Nat → Nat
  | 0, _, _ => 1 % m
  | k + 1, b, e =>
    let r := powMod m k (b * b % m) (e / 2)
    if e % 2 = 1 then b * r % m else r

/-- The inverse modulo a prime. -/
def inverseMod (m a : Nat) : Nat := powMod m 384 (a % m) (m - 2)

/-- The sum of two points of P-384; `none` is the point at infinity. -/
def p384Add : Option (Nat × Nat) → Option (Nat × Nat) → Option (Nat × Nat)
  | none, q => q
  | p, none => p
  | some (x1, y1), some (x2, y2) =>
    let m := p384Prime
    if x1 = x2 ∧ (y1 + y2) % m = 0 then none
    else
      let slope :=
        if x1 = x2 then (3 * x1 * x1 + m - 3) * inverseMod m (2 * y1) % m
        else (y2 + m - y1) * inverseMod m (x2 + m - x1) % m
      let x3 := (slope * slope + 2 * m - x1 - x2) % m
      some (x3, (slope * (x1 + m - x3) + m - y1) % m)

/-- A multiple of a point, for factors below 2^k. -/
def p384Mul : Nat → Nat → Option (Nat × Nat) → Option (Nat × Nat)
  | 0, _, _ => none
  | k + 1, n, p =>
    let r := p384Mul k (n / 2) (p384Add p p)
    if n % 2 = 1 then p384Add p r else r

/-- A signature of 96 bytes, r then s, verifies for a message under a public key (R285, R451). -/
def ecdsaVerifies (key : Nat × Nat) (msg sig : List Byte) : Bool :=
  let n := p384Order
  let r := beNat (sig.take 48)
  let s := beNat (sig.drop 48)
  if r = 0 ∨ s = 0 ∨ n ≤ r ∨ n ≤ s then false
  else
    let w := inverseMod n s
    let u := beNat (sha384 msg) * w % n
    let v := r * w % n
    match p384Add (p384Mul 384 u (some p384Base)) (p384Mul 384 v (some key)) with
    | some (x, _) => x % n == r
    | none => false

end Sys2Proof.Machine
end

