-- ==== Sys2Proof/Machine/LineTx.lean ====
section
/-! DEFINITION. Transmit shaping and the line DAC (chapter 6): enable, squelch, glides, pre-distortion, and
the current cells of the sub-DACs; and the pattern checkers. -/

namespace Sys2Proof.Machine

open Reg

/-! ### Enable and disable -/

/-- A write of 1 to TX_EN (R153, R155).  DESIGN CHOICE (log 123): in safe state, which ignores TX_EN, the field still takes
its value and the lane manager still votes; the transmitter does not start. -/
def State.txEnable (s : State) (n : Fin 8) : State :=
  ((s.setFlag (lineBase n) TX_CTRL_TX_EN true).txVote n true).txStart n

def execTxEnable (n : Fin 8) (s : State) : Result State Fault Refusal := done (s.txEnable n)

/-- Four skews less their mean, in whole steps: their sum is 0 (R149). -/
def zeroMean (l : List Int) : List Int :=
  let sum := l.sum
  l.zipIdx.map fun e => e.1 - sum / 4 - (if (e.2 : Int) < sum % 4 then 1 else 0)

/-- The trims of the four sub-DACs as they reach them (R149): gain within ±5 %, offset within ±4 LSB, and skews with a
mean of zero within ±2 ps.  DESIGN CHOICE (log 124): a gain or an offset beyond its range stands at the limit, and skews
that leave their range without their mean are not taken. -/
def legalTrims (old new : List SubDacTrim) : List SubDacTrim :=
  let skews := zeroMean (new.map SubDacTrim.skew)
  let skews := if skews.all fun x => decide (-100 ≤ x ∧ x ≤ 100) then skews else old.map SubDacTrim.skew
  List.zipWith (fun t k => { gain := max (-125) (min 125 t.gain), offset := max (-128) (min 127 t.offset), skew := k })
    new skews

/-- The trims of the sub-DACs as SUBDAC_s shows them. -/
def State.trims (s : State) (n : Fin 8) : List SubDacTrim :=
  let b := lineBase n
  (List.range 4).map fun k =>
    { gain := bitsInt 8 (s.fld b (SUBDAC_GAIN.ix k)), offset := bitsInt 8 (s.fld b (SUBDAC_OFFSET.ix k)),
      skew := bitsInt 8 (s.fld b (SUBDAC_SKEW.ix k)) }

/-- One set of trims reaches the four sub-DACs (R149, Table 6-8). -/
def State.setTrims (s : State) (n : Fin 8) (trims : List SubDacTrim) : State :=
  s.each (legalTrims (s.trims n) (trims.take 4)).zipIdx fun e s =>
    let b := lineBase n
    let s := s.setFld b (SUBDAC_GAIN.ix e.2) (intBits 8 e.1.gain)
    let s := s.setFld b (SUBDAC_OFFSET.ix e.2) (intBits 8 e.1.offset)
    s.setFld b (SUBDAC_SKEW.ix e.2) (intBits 8 e.1.skew)

/-- The trims that the factory sets give at the present junction temperature (Table 6-4 step 2, R403). -/
def State.factoryTrims (s : State) (n : Fin 8) : List SubDacTrim :=
  let temp := s.fld thermBase (THERM_SITE_TEMP.ix (n.val / 2))
  (List.range 4).map fun k =>
    let v := fun (t : Nat) => quantise (setAt (Config.subdacSet n.val k t) temp)
    { gain := v 0, offset := v 1, skew := v 2 }

/-- The cell trims are taken and the sub-DAC trims loaded, and CM_RAMP starts (Table 6-4 steps 2 and 3). -/
def execTxCalDone (n : Fin 8) (s : State) : Result State Fault Refusal :=
  if s.txState n = 1 ∧ s.domOn (domLineTx n) then
    let s := s.setTrims n (s.factoryTrims n)
    done ((s.setTxState n 2).modTx n fun t => { t with
      falling := false, subs := t.subs.map fun d => { d with order := List.range 68 } })
  else unchanged s

/-- The currents have risen: the datapath starts, and the output goes to HELD or AMP_RAMP (Table 6-4
steps 3 and 4, R115, R38). -/
def execTxCmRampDone (n : Fin 8) (s : State) : Result State Fault Refusal :=
  let b := lineBase n
  if s.txState n = 2 ∧ ¬ s.line[n].tx.falling then
    let s := s.datapathStart n
    if s.fld b TX_STATUS_SQ_CAUSE ≠ 0 then
      done ((s.setTxState n 3).modTx n fun t => { t with heldFromCm := true })
    else done (s.txRamp n)
  else unchanged s

/-- The amplitude ramp ends after its last step (Table 6-4 step 5). -/
def execTxAmpRampDone (n : Fin 8) (s : State) : Result State Fault Refusal :=
  if s.txState n = 4 ∧ s.rampK n = 64 then done (s.setTxState n 5) else unchanged s

/-- A write of 0 to TX_EN (R155); safe state ignores it (R154): DESIGN CHOICE (log 123), the field takes its value, and
the output and the vote stay. -/
def State.txDisable (s : State) (n : Fin 8) : State :=
  let s := s.setFlag (lineBase n) TX_CTRL_TX_EN false
  if s.fuse.safe then s
  else
    let s := s.txFall n
    if s.txState n = 0 then s.txVote n false else s

def execTxDisable (n : Fin 8) (s : State) : Result State Fault Refusal := done (s.txDisable n)

/-- The falling CM_RAMP ends (R155). -/
def execTxFallDone (n : Fin 8) (s : State) : Result State Fault Refusal :=
  if s.txState n = 2 ∧ s.line[n].tx.falling then
    let s := (s.setTxState n 0).modTx n fun t => { t with falling := false }
    if s.flag (lineBase n) TX_CTRL_TX_EN then done s else done (s.txVote n false)
  else unchanged s

/-- The HOST and FILL causes follow SQUELCH and SQ_ON_FILL, in one datapath clock (R154, R158). -/
def State.squelchBits (s : State) (n : Fin 8) : State :=
  let b := lineBase n
  let fill := s.flag b TX_CTRL_SQ_ON_FILL && (s.hostsOf n).all (s.slotFills n)
  let set := (if s.flag b TX_CTRL_SQUELCH then 2 else 0) + (if fill then 1 else 0)
  s.setCauses n set (3 - set)

/-- SQUELCH (R154). -/
def State.txSquelch (s : State) (n : Fin 8) (on : Bool) : State :=
  (s.setFlag (lineBase n) TX_CTRL_SQUELCH on).setCause n 1 on

def execTxSquelchWrite (n : Fin 8) (on : Bool) (s : State) : Result State Fault Refusal :=
  done (s.txSquelch n on)

/-- TX_PRECODE (R38): in a running datapath a change waits for the next line-frame boundary; in a stopped one the value
applies from its start. -/
def State.txPrecode (s : State) (n : Fin 8) (on : Bool) : State :=
  let s := s.setFlag (lineBase n) TX_CTRL_TX_PRECODE on
  if 3 ≤ s.txState n then
    s.modTx n fun t => { t with precodeNext := if on = t.precode then none else some on }
  else s

/-- A line-frame boundary of the transmit stream: a waiting change of TX_PRECODE takes effect, with P(−1) = 0 at a
change from 0 to 1 (R38).  DESIGN CHOICE (log 112): frames are counted in core ticks at the nominal rate. -/
def State.txFrameBoundary (s : State) (n : Fin 8) : State :=
  let t := s.line[n].tx
  match t.precodeNext with
  | some on =>
    if (s.tick - t.frameTick) % s.frameTicks = 0 then
      s.modTx n fun t => { t with
        precode := on, precodeNext := none, precoderP := if on && !t.precode then 0 else t.precoderP }
    else s
  | none => s

def execTxPrecodeWrite (n : Fin 8) (on : Bool) (s : State) : Result State Fault Refusal :=
  done (s.txPrecode n on)

/-! ### FIR -/

/-- The taps in force and the targets, in units of 1/16 LSB (R138). -/
def State.firTaps (s : State) (n : Fin 8) (f : Field) : List Int :=
  (List.range 9).map fun k => bitsInt 12 (s.fld (lineBase n) (f.ix k))

/-- FIR_APPLY (R139). -/
def State.txFirApply (s : State) (n : Fin 8) : State :=
  let b := lineBase n
  if s.flag b TX_STATUS_GLIDING then s.bump b TX_STATUS_FIR_BUSY
  else
    let old := s.firTaps n TX_FIR_CUR
    let new := s.firTaps n TX_FIR_TARGET
    (s.setFlag b TX_STATUS_GLIDING true).modTx n fun t => { t with glideFrom := old, glideTo := new, glideStep := 0 }

def execTxFirApply (n : Fin 8) (s : State) : Result State Fault Refusal := done (s.txFirApply n)

/-- The tap of step j of a glide (R139). -/
def glideTap (old target : Int) (j : Nat) : Int :=
  old + roundAway ((((target - old) * (j + 1) : Int) : Rat) / 64)

/-- A step of a glide takes effect, once the task of the glide runs; step 63 clears GLIDING (R139). -/
def execTxGlideStep (n : Fin 8) (s : State) : Result State Fault Refusal :=
  let b := lineBase n
  if s.flag b TX_STATUS_GLIDING ∧ s.lineTxTask n 0 then
    let t := s.line[n].tx
    let s := s.each (List.range 9) fun k s =>
      s.setFld b (TX_FIR_CUR.ix k) (intBits 12 (glideTap (t.glideFrom.getD k 0) (t.glideTo.getD k 0) t.glideStep))
    let s := s.modTx n fun t => { t with glideStep := t.glideStep + 1 }
    if 63 ≤ t.glideStep then done (s.setFlag b TX_STATUS_GLIDING false) else done s
  else unchanged s

/-! ### Pre-distortion -/

/-- A pre-distortion swap request; one in the cycle in which the transmitter stops counts as started and is pending
(R142). -/
def execPdSwap (n : Fin 8) (stopping : Bool) (s : State) : Result State Fault Refusal :=
  let s := s.pdSwap n
  if stopping then done (s.fadeStop n pdRegs) else done s

def execPdFadeComplete (n : Fin 8) (s : State) : Result State Fault Refusal :=
  if s.flag (lineBase n) PD_STATUS_FADING then done (s.fadeFinish n pdRegs) else unchanged s

/-- A pending fade restarts at the first frame boundary after LIVE (R142). -/
def execPdFadeResume (n : Fin 8) (s : State) : Result State Fault Refusal :=
  if s.txState n = 5 then done (s.fadeResume n pdRegs) else unchanged s

def execPdBankWrite (n : Fin 8) (bank : Fin 2) (idx : Fin 1024) (value : BitVec 10) (swap : Bool)
    (s : State) : Result State Fault Refusal := done (s.bankWrite n pdRegs bank idx value swap)

/-- PD_EN (R141, R93). -/
def State.pdEnable (s : State) (n : Fin 8) (en : Bool) : State :=
  let s := s.setFlag (lineBase n) TX_CTRL_PD_EN en
  if en then s else s.fadeBypass n pdRegs

def execPdEnWrite (n : Fin 8) (en : Bool) (s : State) : Result State Fault Refusal := done (s.pdEnable n en)

/-- A window with saturated codes (R143). -/
def execTxSatWindow (n : Fin 8) (count : Nat) (s : State) : Result State Fault Refusal :=
  if count = 0 then unchanged s
  else
    let src := lineSrc n 0x64
    done ((s.addSat (lineBase n) TX_SAT_SAT_COUNT count).raiseLimited src src (satNat 16 count))

/-! ### Current cells -/

/-- A unit-4 cell (R144). -/
def isUnit4 (c : Nat) : Bool := decide (c < 64)

/-- The spare of a cell's kind. -/
def SubDac.spareOf (d : SubDac) (c : Nat) : Option Nat := if isUnit4 c then d.spare4 else d.spare1

def SubDac.setSpare (d : SubDac) (c : Nat) (v : Option Nat) : SubDac :=
  if isUnit4 c then { d with spare4 := v } else { d with spare1 := v }

/-- The cell is in the thermometer map. -/
def SubDac.inMap (d : SubDac) (c : Nat) : Bool :=
  !d.out.contains c && d.spare4 != some c && d.spare1 != some c && d.underTrim != some c

/-- The cell's detail word (R162). -/
def cellDetail (sub : Fin 4) (c : Nat) : Nat := sub.val * 256 + c

def State.modSub (s : State) (n : Fin 8) (sub : Fin 4) (f : SubDac → SubDac) : State :=
  s.modTx n fun t => { t with subs := t.subs.set sub (f t.subs[sub]) }

/-- U4_SPARE_NONE or U1_SPARE_NONE of a cell's kind. -/
def spareNoneOf (sub : Fin 4) (c : Nat) : Field :=
  if isUnit4 c then DAC_STATUS_U4_SPARE_NONE sub.val else DAC_STATUS_U1_SPARE_NONE sub.val

def State.setSpareNone (s : State) (n : Fin 8) (sub : Fin 4) (c : Nat) : State :=
  s.setFlag (lineBase n) (spareNoneOf sub c) true

/-- A cell is out for good and `used` stands in its place: both sources and the Attic record (R147,
R148). -/
def State.cellReplaced (s : State) (n : Fin 8) (sub : Fin 4) (c used : Nat) : State :=
  let s := s.modSub n sub fun d =>
    { d.setSpare c none with out := d.out ++ [c], degraded := d.degraded.filter (· != c) }
  let s := s.setSpareNone n sub c
  let s := s.raise (lineSrc n 0x60) (cellDetail sub c)
  let s := s.raise (lineSrc n 0x61) (cellDetail sub used)
  let s := { s with attic := { s.attic with cellSubst := satNat 16 (s.attic.cellSubst + 1) } }
  s.substitution 1 n.val (cellDetail sub c)

/-- The sub-DAC works: the transmitter is up, its task runs, and 200G stops sub-DACs 1 and 3 (R144). -/
def State.subWorks (s : State) (n : Fin 8) (sub : Fin 4) : Bool :=
  decide (2 ≤ s.txState n) && s.lineTxTask n (1 + sub.val) && !(s.line200 && decide (sub.val % 2 = 1))

/-- The target of a rotation step: the oldest trim in the map whose kind still has its spare (R145, R148). -/
def SubDac.target (d : SubDac) : Option Nat := d.order.find? fun c => d.inMap c && (d.spareOf c).isSome

/-- A degrading cell whose kind has its spare is retired by a step that starts at once (R147).  DESIGN CHOICE (log 125):
CELL_PERIOD = 0 stops the rotation of R145 and does not hold such a step. -/
def State.retireDegraded (s : State) (n : Fin 8) (sub : Fin 4) : State :=
  let d := s.line[n].tx.subs[sub]
  if d.underTrim.isSome then s
  else match d.degraded.find? fun c => d.inMap c && (d.spareOf c).isSome with
    | some c => (s.bumpMod (lineBase n) (DAC_STATUS_ROT_COUNT sub.val)).cellReplaced n sub c ((d.spareOf c).getD 0)
    | none => s

/-- A rotation step of a sub-DAC (R145).  DESIGN CHOICE (log 125): ROT_COUNT counts the step when the spare takes the
target's place, so that a step which an abrupt fault abandons stays counted. -/
def execCellRotationStep (n : Fin 8) (sub : Fin 4) (s : State) : Result State Fault Refusal :=
  let d := s.line[n].tx.subs[sub]
  if s.subWorks n sub && d.underTrim.isNone && s.fld (lineBase n) TX_CTRL_CELL_PERIOD != 0 then
    match d.target with
    | some c =>
      let s := s.modSub n sub fun d => { d.setSpare c none with underTrim := some c }
      done (s.bumpMod (lineBase n) (DAC_STATUS_ROT_COUNT sub.val))
    | none => unchanged s
  else unchanged s

/-- The outgoing cell is trimmed and becomes the spare of its kind (R145 step 3). -/
def execCellTrimDone (n : Fin 8) (sub : Fin 4) (s : State) : Result State Fault Refusal :=
  match s.line[n].tx.subs[sub].underTrim with
  | some c =>
    let s := s.modSub n sub fun d =>
      { d.setSpare c (some c) with underTrim := none, order := d.order.filter (· != c) ++ [c] }
    done (s.retireDegraded n sub)
  | none => unchanged s

/-- A cell outside the map fails: it is retired, and its kind has no spare (Table 6-5). -/
def State.spareCellLost (s : State) (n : Fin 8) (sub : Fin 4) (c : Nat) : State :=
  let s := s.modSub n sub fun d =>
    { d.setSpare c none with
      out := d.out ++ [c], underTrim := if d.underTrim = some c then none else d.underTrim }
  (s.setSpareNone n sub c).raise (lineSrc n 0x61) (cellDetail sub c)

/-- A cell leaves the map with no replacement (R148). -/
def State.cellPersist (s : State) (n : Fin 8) (sub : Fin 4) (c : Nat) : State :=
  let s := s.modSub n sub fun d => { d with out := d.out ++ [c] }
  (s.setFlag (lineBase n) (DAC_STATUS_PERSIST sub.val) true).raise (lineSrc n 0x62) (cellDetail sub c)

/-- An abrupt fault of a cell (R147, R148, Table 6-5). -/
def State.cellAbrupt (s : State) (n : Fin 8) (sub : Fin 4) (c : Nat) (handover : Option Nat) : State :=
  let d := s.line[n].tx.subs[sub]
  if d.out.contains c then s
  else if !d.inMap c then s.spareCellLost n sub c
  else
    match d.spareOf c with
    | some u =>
      let s := if handover = some c then s.bumpMod (lineBase n) (DAC_STATUS_ROT_COUNT sub.val) else s
      s.cellReplaced n sub c u
    | none =>
      match d.underTrim with
      | some u =>
        if isUnit4 u = isUnit4 c then
          (s.modSub n sub fun d => { d with underTrim := none }).cellReplaced n sub c u
        else s.cellPersist n sub c
      | none => s.cellPersist n sub c

def execDacCellAbrupt (n : Fin 8) (sub : Fin 4) (cell : Fin 68) (handover : Option (Fin 68)) (s : State) :
    Result State Fault Refusal :=
  if 2 ≤ s.txState n then done (s.cellAbrupt n sub cell.val (handover.map Fin.val)) else unchanged s

/-- A degrading cell (R147, R148). -/
def State.cellDegrading (s : State) (n : Fin 8) (sub : Fin 4) (c : Nat) : State :=
  let d := s.line[n].tx.subs[sub]
  if d.out.contains c ∨ s.flag (lineBase n) (spareNoneOf sub c) then s
  else if d.inMap c then
    (s.modSub n sub fun d => { d with degraded := d.degraded.filter (· != c) ++ [c] }).retireDegraded n sub
  else s.spareCellLost n sub c

def execDacCellDegrading (n : Fin 8) (sub : Fin 4) (cell : Fin 68) (s : State) : Result State Fault Refusal :=
  if 1 ≤ s.txState n then done (s.cellDegrading n sub cell.val) else unchanged s

/-- The 1 ms update of the sub-DAC trims and of TX_SPUR (R149): each while its tasks run.  DESIGN CHOICE (log 124): it runs
while the DAC drives the stream, in AMP_RAMP and LIVE. -/
def execSubdacTrimUpdate (n : Fin 8) (trims : List SubDacTrim) (spur : Nat) (s : State) :
    Result State Fault Refusal :=
  if 4 ≤ s.txState n then
    let spurs := s.lineTxTask n 13
    let v := if spurs then satNat 16 spur else s.fld (lineBase n) TX_STATUS_TX_SPUR
    let trimming := (List.range 4).all fun k => s.lineTxTask n (5 + k)
    let s := (s.when trimming fun s => s.setTrims n trims).setFld (lineBase n) TX_STATUS_TX_SPUR v
    let held := s.line[n].tx.spurHeld && decide (v < 520)
    let high := decide (v < 500)
    let s := s.modTx n fun t => { t with spurHeld := held || high }
    if high && !held && spurs then done (s.raiseOpen (lineSrc n 0x65)) else done s
  else unchanged s

/-! ### Patterns and checkers -/

/-- PAT_SEL (R159, R50). -/
def State.txPatSel (s : State) (n : Fin 8) (sel : Nat) : State :=
  let b := lineBase n
  let old := patSel (s.fld b TX_PAT_PAT_SEL)
  let s := s.setFld b TX_PAT_PAT_SEL sel
  if old ≠ 0 ∧ patSel (sel % 8) = 0 then (s.unsettle n 1).unsettle n 2 else s

def execTxPatSelWrite (n : Fin 8) (sel : BitVec 3) (s : State) : Result State Fault Refusal :=
  done (s.txPatSel n sel.toNat)

/-- CHK_SEL (R160): a change on a locked lane makes it search again. -/
def State.lineChkSel (s : State) (n : Fin 8) (sel : Nat) : State :=
  let b := lineBase n
  let old := patSel (s.fld b RX_PAT_CTRL_CHK_SEL)
  let s := s.setFld b RX_PAT_CTRL_CHK_SEL sel
  if old = patSel (sel % 8) then s
  else
    let s := s.lineChkOff n
    if s.locked n then (s.loseLock n).fastRelock n else s

def execLineChkSelWrite (n : Fin 8) (sel : BitVec 3) (s : State) : Result State Fault Refusal :=
  done (s.lineChkSel n sel.toNat)

/-- A checker has received these symbols: 256 consecutive ones predicted without error set CHK_LOCK (R160, R204). -/
def execChkLockAcquired (k : Checker) (symbols : List (Fin 4)) (s : State) : Result State Fault Refusal :=
  let got := symbols.map Fin.val
  match k with
  | .line n =>
    let b := lineBase n
    if s.checking n ∧ ¬ s.flag b RX_PAT_STATUS_CHK_LOCK ∧
        checkerTracks (s.fld b RX_PAT_CTRL_CHK_SEL) (s.lineUserSymbol n) got then done (s.lineChkOn n)
    else unchanged s
  | .host m =>
    let b := hostBase m
    if s.hostChecking m ∧ ¬ s.flag b HR_PAT_STATUS_CHK_LOCK ∧
        checkerTracks (s.fld b HR_PAT_CTRL_CHK_SEL) (s.hostUserSymbol m) got then done (s.hostChkOn m)
    else unchanged s

/-- A checker has compared these symbols, as expected and received: more than 128 errors in 1,024 lose CHK_LOCK (R160,
R204); a lane whose lock it was leaves LOCKED and searches again. -/
def execChkLockLoss (k : Checker) (compared : List (Fin 4 × Fin 4)) (s : State) : Result State Fault Refusal :=
  match k with
  | .line n =>
    if s.flag (lineBase n) RX_PAT_STATUS_CHK_LOCK ∧ checkerLoses compared then
      let s := (s.linePatErrors n compared).lineChkOff n
      if s.locked n then done ((s.loseLock n).fastRelock n) else done s
    else unchanged s
  | .host m =>
    if s.flag (hostBase m) HR_PAT_STATUS_CHK_LOCK ∧ checkerLoses compared then
      let s := (s.hostPatErrors m compared).hostChkOff m
      if s.hostLocked m then done ((s.hostLoseLock m).hostRelock m) else done s
    else unchanged s

end Sys2Proof.Machine
end

