-- ==== Sys2Proof/Machine/Host.lean ====
section
/-! DEFINITION. The host lanes (chapter 8): transmit equalisation and states, the receiver, link training,
sleep of each direction, and patterns. -/

namespace Sys2Proof.Machine

open Reg

/-! ### Transmit taps -/

/-- Taps c(−2) to c(+2), in force or targets, in units of 1/64 (R185). -/
def State.hostTaps (s : State) (m : Fin 16) (f : Field) : List Int :=
  (List.range 5).map fun k => bitsInt 8 (s.fld (hostBase m) (f.ix k))

def State.setHostTaps (s : State) (m : Fin 16) (f : Field) (taps : List Int) : State :=
  s.each taps.zipIdx fun e s => s.setFld (hostBase m) (f.ix e.2) (intBits 8 e.1)

/-- A tap set is valid when Σ|c(i)| ≤ 64 (R185). -/
def tapsValid (taps : List Int) : Bool := decide ((taps.map Int.natAbs).foldl (· + ·) 0 ≤ 64)

/-- The three taps c(−1), c(0), c(+1) of Table 8-1. -/
def presetTaps (k : Nat) : Option (Int × Int × Int) :=
  match k with
  | 1 => some (0, 64, 0)
  | 2 => some (-4, 56, -4)
  | 3 => some (-8, 52, -4)
  | 4 => some (-4, 52, -8)
  | 5 => some (-8, 48, -8)
  | 6 => some (-12, 44, -8)
  | _ => none

/-- FIR_APPLY (R186); a training request of the same cycle wins (Table 8-8). -/
def State.htFirApply (s : State) (m : Fin 16) (training : Bool) : State :=
  let b := hostBase m
  let target := s.hostTaps m HT_FIR_TARGET
  if s.trainState m = 1 ∨ training ∨ ¬ tapsValid target then s.bump b HT_STATUS_FIR_REJECT
  else s.setHostTaps m HT_FIR_CUR target

def execHtFirApply (m : Fin 16) (training : Bool) (s : State) : Result State Fault Refusal :=
  done (s.htFirApply m training)

/-- PRESET_APPLY (R187, Table 8-8): PRESET 0 and 7 have no effect; a FIR_APPLY of the same cycle is ignored
and counted. -/
def State.htPresetApply (s : State) (m : Fin 16) (preset : Nat) (firApply : Bool) : State :=
  let b := hostBase m
  let s := s.setFld b HT_CTRL_PRESET preset
  match presetTaps (preset % 8) with
  | none => if firApply then s.htFirApply m false else s
  | some (p, c, q) =>
    let s := if firApply then s.bump b HT_STATUS_FIR_REJECT else s
    if s.trainState m = 1 then s.bump b HT_STATUS_FIR_REJECT
    else (s.setHostTaps m HT_FIR_CUR [0, p, c, q, 0]).setHostTaps m HT_FIR_TARGET [0, p, c, q, 0]

def execPresetApply (m : Fin 16) (preset : BitVec 3) (firApply : Bool) (s : State) :
    Result State Fault Refusal := done (s.htPresetApply m preset.toNat firApply)

/-! ### Precoding -/

/-- A change of TX_PRECODE takes effect with P(−1) = 0 (R189). -/
def State.htPrecode (s : State) (m : Fin 16) (on : Bool) : State :=
  let b := hostBase m
  if s.flag b HT_CTRL_TX_PRECODE = on then s
  else (s.setFlag b HT_CTRL_TX_PRECODE on).modHost m fun h => { h with precoderP := 0 }

def execHostTxPrecodeWrite (m : Fin 16) (on : Bool) (s : State) : Result State Fault Refusal :=
  done (s.htPrecode m on)

/-- A change of RX_PRECODE restarts the codeword-lock search (R189; DEDUCED, log 126: R16 calls the change a full
acquisition, and R189 and R195 say what it does). -/
def State.hrPrecode (s : State) (m : Fin 16) (on : Bool) : State :=
  let b := hostBase m
  if s.flag b HR_CTRL_RX_PRECODE = on then s
  else (s.setFlag b HR_CTRL_RX_PRECODE on).dropCwLock m

def execHostRxPrecodeWrite (m : Fin 16) (on : Bool) (s : State) : Result State Fault Refusal :=
  done (s.hrPrecode m on)

/-! ### Transmitter states -/

/-- HT_EN written 1 (R190); in safe state the outputs stay (R343).  DEDUCED (log 127): a write that finds HT_EN at 1
does not write it anew, so that a DONE training stands (R202). -/
def State.htEnable (s : State) (m : Fin 16) : State :=
  let was := s.flag (hostBase m) HT_CTRL_HT_EN
  let s := (s.setFlag (hostBase m) HT_CTRL_HT_EN true).modHost m fun h => { h with trained := h.trained && was }
  (s.hostVotes m).htStart m

def execHtEnable (m : Fin 16) (s : State) : Result State Fault Refusal := done (s.htEnable m)

/-- HT_EN written 0 (R190). -/
def State.htDisable (s : State) (m : Fin 16) : State :=
  let s := s.setFlag (hostBase m) HT_CTRL_HT_EN false
  (if s.fuse.safe then s else s.htFall m).hostVotes m

def execHtDisable (m : Fin 16) (s : State) : Result State Fault Refusal := done (s.htDisable m)

/-- A falling transmitter reaches OFF (R190). -/
def execHtOffReached (m : Fin 16) (s : State) : Result State Fault Refusal :=
  if s.host[m].falling ∧ s.htState m = 1 then
    done ((s.setHtState m 0).modHost m fun h => { h with falling := false })
  else unchanged s

/-- HT_SQUELCH (R190). -/
def State.htSquelch (s : State) (m : Fin 16) (on : Bool) : State :=
  (s.setFlag (hostBase m) HT_CTRL_HT_SQUELCH on).setHostCause m 0 on

def execHtSquelchWrite (m : Fin 16) (on : Bool) (s : State) : Result State Fault Refusal :=
  done (s.htSquelch m on)

/-- The output sense has found a leg current, in % of nominal: outside 75 to 125 % in LIVE it raises TX_OUTPUT (R209). -/
def execTxOutput (m : Fin 16) (percent : Rat) (s : State) : Result State Fault Refusal :=
  if s.htState m = 3 ∧ (percent < 75 ∨ 125 < percent) then done (s.raiseOpen (hostSrc m 0x45)) else unchanged s

/-! ### Receiver -/

/-- HR_EN (R195): a write of 1 starts a full acquisition, a write of 0 stops the receiver. -/
def State.hrEnable (s : State) (m : Fin 16) (on : Bool) : State :=
  let s := (s.setFlag (hostBase m) HR_CTRL_HR_EN on).modHost m fun h => { h with retained := none }
  if on then (s.hostVotes m).hostAcqStart m else (s.hostRxStop m).hostVotes m

def execHrEnable (m : Fin 16) (on : Bool) (s : State) : Result State Fault Refusal := done (s.hrEnable m on)

/-- A write of 1 to REACQ (R195). -/
def execHostReacq (m : Fin 16) (s : State) : Result State Fault Refusal := done (s.hostReacq m)

/-- CTLE_MAN and CTLE_SET (R195): a change on a locked lane re-acquires it. -/
def State.hostCtle (s : State) (m : Fin 16) (man : Bool) (set : Nat) : State :=
  let b := hostBase m
  let same := s.flag b HR_CTRL_CTLE_MAN == man && s.fld b HR_CTRL_CTLE_SET == set
  let s := (s.setFlag b HR_CTRL_CTLE_MAN man).setFld b HR_CTRL_CTLE_SET set
  if !same && s.hostLocked m then s.hostAcqStart m else s

def execHostCtleWrite (m : Fin 16) (man : Bool) (set : BitVec 3) (s : State) : Result State Fault Refusal :=
  done (s.hostCtle m man set.toNat)

/-- A host receiver is LOCKED (Table 8-4 step 6, R105, R50). -/
def State.hostLock (s : State) (m : Fin 16) (skew : Nat) : State :=
  let b := hostBase m
  let s := ((s.setHrState m 5).setFlag b HR_STATUS_LOCKED true).bump b HR_STATUS_ACQ_COUNT
  let s := s.setFld b HR_STATUS_LOCK_TIME (satNat 16 (tenMicros (s.tick - s.host[m].trigger)))
  let s := s.modHost m fun h => { h with acqStep := 0, errRun := 0 }
  ((s.unsettleHost m).joinHostGroup m skew).refreshHostFill m

/-- The lock search is over: a checker that runs holds its lock (R204). -/
def State.hostSearchDone (s : State) (m : Fin 16) : Bool :=
  !s.hostChecking m || s.flag (hostBase m) HR_PAT_STATUS_CHK_LOCK

/-- A step of Table 8-4 completes. -/
def State.hostStepDone (s : State) (m : Fin 16) (r : HostAcqResult) : State :=
  let b := hostBase m
  let k := s.host[m].acqStep
  let goTo := fun (s : State) (v : Nat) => s.modHost m fun h => { h with acqStep := v }
  if s.hrState m = 6 then if s.hostSearchDone m then s.hostLock m r.skew else s
  else if k = 3 then
    let s := s.setHrState m 4
    if s.flag b HR_CTRL_CTLE_MAN then goTo (s.setFld b HR_CDR_CTLE_CUR (s.fld b HR_CTRL_CTLE_SET)) 5
    else goTo s 4
  else if k = 4 then goTo (s.setFld b HR_CDR_CTLE_CUR (bestSetting r.residuals)) 5
  else if k = 5 then if s.hostSearchDone m then s.hostLock m r.skew else s
  else s

def execHostAcqStepDone (m : Fin 16) (r : HostAcqResult) (s : State) : Result State Fault Refusal :=
  if s.flag (hostBase m) HR_STATUS_LOS || s.host[m].clocksStopped then unchanged s
  else done (s.hostStepDone m r)

/-- A step exceeds its bound: back to step 3 (R196). -/
def execHostAcqStepTimeout (m : Fin 16) (s : State) : Result State Fault Refusal :=
  if 3 ≤ s.host[m].acqStep ∧ s.hrState m ≠ 6 ∧ ¬ s.flag (hostBase m) HR_STATUS_LOS ∧
      ¬ s.host[m].clocksStopped then
    done ((s.setHrState m 3).modHost m fun h => { h with acqStep := 3 })
  else unchanged s

/-- No lock within 100 ms of signal present, and every second after that (R196). -/
def execHrAcqFail (m : Fin 16) (s : State) : Result State Fault Refusal :=
  if s.host[m].signal ∧ ¬ s.hostLocked m ∧ s.hrState m ≠ 0 then
    done (s.raise (hostSrc m 0x44) s.host[m].highest)
  else unchanged s

/-- A new count of R196 starts with signal present. -/
def State.hostSignalCount (s : State) (m : Fin 16) : State :=
  s.modHost m fun h => { h with signal := true, highest := if s.hrState m ≤ 5 then s.hrState m else 0 }

/-- LOS ends: the level source turns quiet. -/
def State.hostLosEnd (s : State) (m : Fin 16) : State :=
  ((s.setFlag (hostBase m) HR_STATUS_LOS false).quiet (hostSrc m 0x40)).hostSignalCount m

/-- Signal present is declared (R195). -/
def execHrSignalPresent (m : Fin 16) (s : State) : Result State Fault Refusal :=
  if s.hrState m = 0 then unchanged s
  else if s.flag (hostBase m) HR_STATUS_LOS then done ((s.hostLosEnd m).hostAcqStart m)
  else
    let s := s.hostSignalCount m
    if s.hrState m = 1 ∧ ¬ s.host[m].clocksStopped then done (s.hostAfterSignal m) else done s

/-- Loss of signal (R195, R197, R200).  DESIGN CHOICE (log 129): a transmitter that was training stays in TRAIN, as the
spec moves it nowhere, until training restarts. -/
def execHrLos (m : Fin 16) (s : State) : Result State Fault Refusal :=
  let b := hostBase m
  if s.hrState m = 0 ∨ s.flag b HR_STATUS_LOS then unchanged s
  else
    let s := (s.setFlag b HR_STATUS_LOS true).raise (hostSrc m 0x40) 0
    let s := (s.trainAbandon m).hostLoseLock m
    done ((s.setHrState m 1).modHost m fun h => { h with signal := false, acqStep := 0 })

/-- A loss of signal ends (R195, R197, R200): within 100 ms a receiver that does not have to train tries a fast
re-lock. -/
def execHrLosEnd (m : Fin 16) (within100ms : Bool) (s : State) : Result State Fault Refusal :=
  if s.flag (hostBase m) HR_STATUS_LOS then
    let s := s.hostLosEnd m
    let trains := s.flag (hostBase m) TRAIN_CTRL_TRAIN_MODE && !(s.trainState m == 2 || s.trainState m == 3)
    if s.host[m].clocksStopped then done s
    else if !within100ms then done (s.hostAcqStart m)
    else if trains then done (s.hostAfterSignal m)
    else done (s.hostRelock m)
  else unchanged s

/-- Closed-loop bandwidth of clock recovery in MHz (R194, R207): 8 MHz in step 3 of an acquisition (Table 8-4), else
2 × (CDR_BW + 1) with CDR_BW at most 9; the damping factor is 0.8. -/
def State.cdrBandwidth (s : State) (m : Fin 16) : Nat :=
  if s.host[m].acqStep = 3 ∨ s.host[m].acqStep = 4 then 8 else 2 * (min 9 (s.fld (hostBase m) HR_CTRL_CDR_BW) + 1)

/-- The largest offset in ppm that clock recovery tracks (R194). -/
def cdrLimit : Rat := 200

/-- The tasks of the lane write what the room's block LMS gives (R193, R14): CTLE, offset and gain in one task, the FFE
taps 4 to a task, and d1 with the thresholds; FFE_FREEZE holds the FFE and d1, and d1 is 0 without the DFE (R192). -/
def State.hostAdapt (s : State) (m : Fin 16) (u : HostRxUpdate) : State :=
  let b := hostBase m
  let frozen := s.flag b HR_CTRL_FFE_FREEZE
  let s := s.when (s.hostLaneTask m 7) fun s => s.modHost m fun h => { h with adcOffset := u.offset, adcGain := u.gain }
  let s := s.when (!frozen) fun s => s.each (u.ffe.take 24).zipIdx fun e s =>
    s.when (s.hostLaneTask m (e.2 / 4)) fun s => s.setFld b (HR_FFE_COEF.ix e.2) (intBits 10 (satInt 10 e.1))
  s.when (s.hostLaneTask m 6) fun s =>
    let s := s.modHost m fun h => { h with thresholds := u.thresholds }
    let on := s.flag b HR_CTRL_DFE_EN && s.host[m].acqStep != 3
    if on && frozen then s else s.setFld b HR_DFE_COEF (if on then intBits 8 (satInt 8 u.dfe) else 0)

/-- The update of a host receiver every 2^16 symbols: clock recovery runs on its own (R194), the room adapts (R193), and
the error rate is judged, with the room's update (R197). -/
def execHostRxUpdate (m : Fin 16) (u : HostRxUpdate) (s : State) : Result State Fault Refusal :=
  let b := hostBase m
  if 3 ≤ s.hrState m ∧ ¬ s.host[m].clocksStopped then
    let freq := max (-cdrLimit) (min cdrLimit u.freq)
    let s := (s.setFld b HR_CDR_FREQ_OFFSET (intBits 16 (quantise (freq * 100)))).hostAdapt m u
    if s.hostLocked m && s.roomRuns (hostRoom m) then
      let run := if u.symbols < 100 * u.errors then s.host[m].errRun + 1 else 0
      let s := s.modHost m fun h => { h with errRun := run }
      if 64 ≤ run then done (s.hostLol m 0) else done s
    else done s
  else unchanged s

/-- Clock recovery has been at its limit for 10 µs (R197). -/
def execHrCdrLimit (m : Fin 16) (s : State) : Result State Fault Refusal :=
  if s.hostLocked m then done (s.hostLol m 1) else unchanged s

/-- A fast re-lock has not locked within 0.5 ms (R197). -/
def execHostRelockTimeout (m : Fin 16) (s : State) : Result State Fault Refusal :=
  if s.hrState m = 6 then done (s.hostAcqStart m) else unchanged s

/-- The mean DFE output of the symbols decided as one level (R106, R198; log 131). -/
def hostLevel (l : List (Rat × Fin 4)) (a : Fin 4) : Rat := meanRat ((l.filter fun x => x.2 == a).map Prod.fst)

/-- The SNR of a host receiver in units of 0.01 dB, as R106 has it, within 0.1 dB of the ratio from 12 to 28 dB (R198).
The spec states no ratio for an error power of 0: the value is free (log 13). -/
def hostSnr (l : List (Rat × Fin 4)) (err : Int) : Nat :=
  let ps := meanRat (l.map fun x => hostLevel l x.2 * hostLevel l x.2)
  let pe := meanRat (l.map fun x => (x.1 - hostLevel l x.2) * (x.1 - hostLevel l x.2))
  if pe = 0 then satNat 16 (Config.overZero ps).floor.toNat
  else
    let x := centiBel (ps / pe)
    let e := if 1200 ≤ x ∧ x ≤ 2800 then max (-10) (min 10 err) else err
    satNat 16 ((x : Int) + e).toNat

/-- Steps of 1/128 UI from the centre outwards, one way, at which the error ratio stays at most 10^−6. -/
def openSteps : List (Nat × Nat) → Nat
  | [] => 0
  | (errors, symbols) :: t => if 1000000 * errors ≤ symbols then openSteps t + 1 else 0

/-- EYE_W in mUI: the opening about the sampling phase, within 10 mUI (R198). -/
def hostEye (scan : List (Nat × Nat)) (err : Int) : Nat :=
  let right := openSteps (scan.drop 64)
  let left := openSteps (scan.take 64).reverse
  let width := if right = 0 then 0 else 1000 * (left + right - 1) / 128
  satNat 10 ((width : Int) + max (-10) (min 10 err)).toNat

/-- SNR and EYE_W are published, each while its task runs, and HR_SNR_LOW is judged (R198, R108, R17). -/
def execHrQualPublish (m : Fin 16) (q : HostQuality) (s : State) : Result State Fault Refusal :=
  let b := hostBase m
  if s.hostLocked m then
    let s := s.when (s.hostLaneTask m 10) fun s => s.setFld b HR_QUAL_EYE_W (hostEye q.scan q.eyeErr)
    if s.hostLaneTask m 9 then
      let v := hostSnr q.symbols q.snrErr
      let warn := 25 * s.fld b HR_CTRL_SNR_WARN
      let s := (s.setFld b HR_QUAL_SNR v).setFlag b HR_STATUS_SNR_LOW (decide (v < warn))
      let held := s.host[m].snrHeld && decide (v < warn + 50)
      let s := s.modHost m fun h => { h with snrHeld := held || decide (v < warn) }
      if v < warn ∧ ¬ held then done (s.raise (hostSrc m 0x42) v) else done s
    else done s
  else unchanged s

/-! ### Link training -/

/-- TRAIN_START (R199, R200): the transmitter is on and nothing squelches it. -/
def State.hostTrainStart (s : State) (m : Fin 16) : State :=
  let b := hostBase m
  if s.flag b TRAIN_CTRL_TRAIN_MODE ∧ 1 ≤ s.htState m ∧ ¬ s.host[m].falling ∧
      s.fld b HT_STATUS_SQ_CAUSE = 0 then
    let s := (s.hostLoseLock m).trainBegin m
    if 2 ≤ s.hrState m ∧ ¬ s.flag b HR_STATUS_LOS then
      (s.setHrState m 2).modHost m fun h => { h with acqStep := 0 }
    else s
  else s

def execTrainStart (m : Fin 16) (s : State) : Result State Fault Refusal := done (s.hostTrainStart m)

/-- The range of a training tap: c(−1), c(0) and c(+1) (R199). -/
def tapLimits (tap : Int) : Option (Int × Int) :=
  if tap = -1 then some (-16, 0) else if tap = 0 then some (32, 64) else if tap = 1 then some (-24, 0) else none

/-- The answer to a training request, with the taps it leaves in force (R199).  A preset loads its entry of Table 8-1,
with the outer taps at 0 as R187 has it (DEDUCED, log 132). -/
def answerRequest (taps : List Int) : TrainRequest → TrainAnswer × List Int
  | .step tap up =>
    match tapLimits tap with
    | none => (.notSupported, taps)
    | some (lo, hi) =>
      let k := (tap + 2).toNat
      let v := taps.getD k 0 + (if up then 1 else -1)
      let new := taps.set k v
      if lo ≤ v ∧ v ≤ hi ∧ tapsValid new then (.updated, new)
      else (if up then .atMaximum else .atMinimum, taps)
  | .preset k =>
    match presetTaps k with
    | none => (.notSupported, taps)
    | some (p, c, q) =>
      (.updated, [0, p, c, q, 0])
  | .precoding _ => (.updated, taps)

/-- A request of the far end is applied and answered (R199). -/
def execTrainRequestReceived (m : Fin 16) (req : TrainRequest) (s : State) : Result State Fault Refusal :=
  if s.trainState m = 1 then
    let s := s.bump (hostBase m) TRAIN_STATUS_REQ_RCVD
    let (a, taps) := answerRequest (s.hostTaps m HT_FIR_CUR) req
    let s := (s.setHostTaps m HT_FIR_CUR taps).modHost m fun h => { h with answer := a }
    match req with
    | .precoding on => done (s.htPrecode m on)
    | .preset _ =>
      if a = .updated then
        done (s.setHostTaps m HT_FIR_TARGET taps)
      else done s
    | .step _ _ => done s
  else unchanged s

/-- A request goes out (R200). -/
def State.sendRequest (s : State) (m : Fin 16) : State :=
  (s.bump (hostBase m) TRAIN_STATUS_REQ_SENT).modHost m fun h => { h with reqCount := h.reqCount + 1 }

/-- The requester's next step (R200): it asks for precoding first; it keeps a step with an SNR rise of at
least 0.02 dB and asks for another; otherwise it asks for the opposite step and moves to the next tap; a
pass that keeps no step, or 256 requests, end it. -/
def execTrainRequesterStep (m : Fin 16) (rise : Rat) (s : State) : Result State Fault Refusal :=
  let h := s.host[m]
  if s.trainState m = 1 ∧ ¬ h.reqReady ∧ s.hostLaneTask m 12 then
    if 256 ≤ h.reqCount then done (s.modHost m fun h => { h with reqReady := true })
    else if s.flag (hostBase m) TRAIN_CTRL_ASK_PRECODE ∧ ¬ h.reqAsked then
      done ((s.sendRequest m).modHost m fun h => { h with reqAsked := true })
    else if ¬ h.reqJudging then
      done ((s.sendRequest m).modHost m fun h => { h with reqJudging := true, reqAsked := true })
    else if 1 / 50 ≤ rise then
      done ((s.sendRequest m).modHost m fun h => { h with reqKept := true })
    else
      let last := decide (2 ≤ h.reqTap)
      done ((s.sendRequest m).modHost m fun h => { h with
        reqJudging := false, reqTap := if last then 0 else h.reqTap + 1,
        reqKept := if last then false else h.reqKept, reqReady := last && !h.reqKept })
  else unchanged s

/-- Training ends: the transmitter goes to LIVE and the receiver on to step 3 (R200). -/
def State.trainEnd (s : State) (m : Fin 16) (st : Nat) : State :=
  let s := s.setFld (hostBase m) TRAIN_STATUS_TRAIN_STATE st
  let s := if s.htState m = 2 then s.setHtState m 3 else s
  if s.hrState m = 2 then (s.setHrState m 3).modHost m fun h => { h with acqStep := 3 } else s

/-- Both ends are ready (R200). -/
def execTrainDone (m : Fin 16) (s : State) : Result State Fault Refusal :=
  if s.trainState m = 1 ∧ s.host[m].reqReady then
    done ((s.trainEnd m 2).modHost m fun h => { h with trained := true })
  else unchanged s

/-- Training is not DONE within 500 ms (R200). -/
def execTrainFail (m : Fin 16) (s : State) : Result State Fault Refusal :=
  if s.trainState m = 1 then done ((s.trainEnd m 3).raiseOpen (hostSrc m 0x43)) else unchanged s

/-! ### Sleep -/

/-- HT_SLEEP (R201, R202); under a loop-back it acts when the loop-back is left (R460). -/
def State.htSleep (s : State) (m : Fin 16) (on : Bool) : State :=
  let s := s.setFlag (hostBase m) HT_CTRL_HT_SLEEP on
  if s.hostLoop m ≠ 0 then s
  else if on then (s.htFall m).hostVotes m else (s.hostVotes m).htStart m

def execHtSleepWrite (m : Fin 16) (on : Bool) (s : State) : Result State Fault Refusal := done (s.htSleep m on)

/-- HR_SLEEP (R201, R202); with REACQ in the same write, sleep proceeds (Table 8-8). -/
def State.hrSleep (s : State) (m : Fin 16) (on reacq : Bool) : State :=
  let was := s.flag (hostBase m) HR_CTRL_HR_SLEEP
  let s := s.setFlag (hostBase m) HR_CTRL_HR_SLEEP on
  if s.hostLoop m ≠ 0 then if reacq then s.hostReacq m else s
  else if on then (s.hostRxStop m).hostVotes m
  else
    let s := s.hostVotes m
    let s := if was then s.hostResume m else s
    if reacq then s.hostReacq m else s

def execHrSleepWrite (m : Fin 16) (on reacq : Bool) (s : State) : Result State Fault Refusal :=
  done (s.hrSleep m on reacq)

/-! ### Patterns -/

/-- HPAT_SEL (R204): the line→host path that ends at the lane settles again behind a pattern (R50). -/
def State.hostPatSel (s : State) (m : Fin 16) (sel : Nat) : State :=
  let b := hostBase m
  let old := patSel (s.fld b HT_PAT_HPAT_SEL)
  let s := s.setFld b HT_PAT_HPAT_SEL sel
  match s.lineOf m with
  | some n => if old ≠ 0 ∧ patSel sel = 0 then s.unsettle n 0 else s
  | none => s

def execHostPatSelWrite (m : Fin 16) (sel : BitVec 3) (s : State) : Result State Fault Refusal :=
  done (s.hostPatSel m sel.toNat)

/-- HCHK_SEL (R204): a change on a locked lane makes it search again. -/
def State.hostChkSel (s : State) (m : Fin 16) (sel : Nat) : State :=
  let b := hostBase m
  let old := patSel (s.fld b HR_PAT_CTRL_CHK_SEL)
  let s := s.setFld b HR_PAT_CTRL_CHK_SEL sel
  if old = patSel sel then s
  else
    let s := s.hostChkOff m
    if s.hostLocked m then (s.hostLoseLock m).hostRelock m else s

def execHostChkSelWrite (m : Fin 16) (sel : BitVec 3) (s : State) : Result State Fault Refusal :=
  done (s.hostChkSel m sel.toNat)

end Sys2Proof.Machine
end

