-- ==== Sys2Proof/Machine/Lanes.lean ====
section
/-! DEFINITION. Lane groups, deskew, pairs, following, modes and profiles, and the latency ledger
(chapters 1 and 2). -/

namespace Sys2Proof.Machine

open Reg

/-! ### Following -/

/-- The receiver that recovers a stream of a lane is LOCKED (R28). -/
def State.judged (s : State) (n : Fin 8) : Option (Fin 16) → Bool
  | none => s.locked n
  | some m => s.hostLocked m && (s.hostsOf n).contains m

/-- The largest offset in ppm that a stream is carried with (R28). -/
def followLimit : Rat := 150

/-- The detail word of FOLLOW_RANGE: 0x8000 + m for the host stream of Hm (R194); the spec gives none for the line
stream (log 16). -/
def State.raiseFollow (s : State) (n : Fin 8) (stream : Option (Fin 16)) : State :=
  match stream with
  | some m => s.raise (lineSrc n 0x22) (0x8000 + m.val)
  | none => s.raiseOpen (lineSrc n 0x22)

/-- The frequency of a stream has been judged, in ppm of the nominal rate: beyond ±150 ppm it is out of range, and the
first such stream of the lane raises the level source (R28). -/
def execFollowRange (n : Fin 8) (stream : Option (Fin 16)) (ppm : Rat) (s : State) : Result State Fault Refusal :=
  if s.judged n stream ∧ followLimit < |ppm| ∧ ¬ s.line[n].link.outOfRange.contains stream then
    let first := s.line[n].link.outOfRange = []
    let s := s.modLinkOf n fun k => { k with outOfRange := k.outOfRange ++ [stream] }
    let s := if first then s.raiseFollow n stream else s
    done (s.refreshFill n)
  else unchanged s

/-- A stream is back in range (R28). -/
def execFollowRangeEnd (n : Fin 8) (stream : Option (Fin 16)) (ppm : Rat) (s : State) : Result State Fault Refusal :=
  if |ppm| ≤ followLimit then done ((s.followEnd n stream).refreshFill n) else unchanged s

/-! ### Mode B pairs -/

/-- The pair of Ln holds an alignment and both its host lanes hold KP4 codeword lock (R34). -/
def State.pairRuns (s : State) (n : Fin 8) : Bool :=
  s.lanes.mode == 1 && s.line[n].link.pairAligned && !s.line[n].link.pairFill && (s.hostsOf n).all s.cwLocked

/-- The skew of a pair in ps exceeds 64 ns, or its buffer slips: the pair realigns with fill (R34, R50). -/
def execPairSlip (n : Fin 8) (skew : Nat) (slips : Bool) (s : State) : Result State Fault Refusal :=
  if s.pairRuns n ∧ (64000 < skew ∨ slips) then
    let s := s.raiseOpen (lineSrc n 0x21)
    let s := s.modLinkOf n fun k => { k with pairFill := true }
    done (((s.unsettle n 1).unsettle n 2).refreshFill n)
  else unchanged s

def execPairRealignDone (n : Fin 8) (s : State) : Result State Fault Refusal :=
  if s.line[n].link.pairFill then
    done ((s.modLinkOf n fun k => { k with pairFill := false }).refreshFill n)
  else unchanged s

/-! ### Deskew -/

/-- The out-of-range flag of a direction on every lane of a group. -/
def State.setDeskew (s : State) (n : Fin 8) (host on : Bool) : State :=
  s.each (s.groupOf n) fun k s =>
    (s.modLinkOf k fun l => if host then { l with deskewTx := on } else { l with deskewRx := on }).refreshFill k

/-- DESKEW_RANGE is out of range in either direction. -/
def State.deskewOut (s : State) (n : Fin 8) : Bool := s.line[n].link.deskewRx || s.line[n].link.deskewTx

/-- The detail word of DESKEW_RANGE for a skew in ps: the direction, and the skew in units of 1.28 ns (R43). -/
def deskewDetail (host : Bool) (skew : Nat) : Nat :=
  (if host then 0x8000 else 0) + satNat 15 (quantise ((skew : Rat) / 1280)).toNat

/-- The skew of a group in ps exceeds its budget (R43). -/
def execDeskewRange (n : Fin 8) (host : Bool) (skew : Nat) (s : State) : Result State Fault Refusal :=
  if 1 < (s.groupOf n).length ∧ deskewBudget host < skew then
    done ((s.raise (lineSrc (s.groupLead n) 0x20) (deskewDetail host skew)).setDeskew n host true)
  else unchanged s

/-- A retry of the alignment with the skew in ps that it finds: once the skew fits, fill ends and the ledgers recompute
(R43, R50).  A retry that does not fit leaves the group as it is. -/
def execDeskewRetry (n : Fin 8) (host : Bool) (skew : Nat) (s : State) : Result State Fault Refusal :=
  let l := s.line[n].link
  if skew ≤ deskewBudget host ∧ (if host then l.deskewTx else l.deskewRx) = true then
    let s := s.setDeskew n host false
    let s := s.each (s.groupOf n) fun k s => if host then (s.unsettle k 1).unsettle k 2 else s.unsettle k 0
    if s.deskewOut n then done s else done (s.quiet (lineSrc (s.groupLead n) 0x20))
  else unchanged s

/-! ### Realignment, modes and grouping -/

/-- A group's lead lane is in or out of the list of held alignment points. -/
def holdPoint (l : List Nat) (lead : Nat) (holds : Bool) : List Nat :=
  let rest := l.filter (· != lead)
  if holds then rest ++ [lead] else rest

/-- The alignment of a group completes: fill ends, and each direction in which a lane of the group holds lock holds the
point (R44). -/
def execGroupRealignDone (n : Fin 8) (s : State) : Result State Fault Refusal :=
  if s.line[n].link.groupFill then
    let s := s.each (s.groupOf n) fun k s =>
      (s.modLinkOf k fun l => { l with groupFill := false }).refreshFill k
    let lead := (s.groupLead n).val
    let many := (s.groupOf n).length != 1
    let rx := many && (s.groupOf n).any s.locked
    let tx := many && (s.groupOf n).any fun k => (s.hostsOf k).any s.hostLocked
    done { s with lanes := { s.lanes with
      aligned := holdPoint s.lanes.aligned lead rx, alignedTx := holdPoint s.lanes.alignedTx lead tx } }
  else unchanged s

/-- Lanes whose group differs under two grouping codes. -/
def regrouped (old new : Nat) : List (Fin 8) := allLines.filter fun n => groupLanes old n != groupLanes new n

/-- What DESKEW_RANGE held of lanes that regroup ends with their groups (R43, R44). -/
def State.deskewDrop (s : State) (ls : List (Fin 8)) : State :=
  s.each ls fun n s =>
    (s.modLinkOf n fun l => { l with deskewRx := false, deskewTx := false }).quiet (lineSrc n 0x20)

/-- A change of grouping realigns each group it changes (R44). -/
def State.setGrouping (s : State) (g : Nat) : State :=
  let ls := regrouped s.lanes.grouping g
  let keep := fun a => !(ls.map Fin.val).contains a
  let s := s.deskewDrop ls
  let s := { s with lanes := { s.lanes with
      grouping := g, modeChange := ls.map Fin.val, aligned := s.lanes.aligned.filter keep,
      alignedTx := s.lanes.alignedTx.filter keep } }
  s.each ls fun n s => s.realign n

/-- A host transmitter that trains or sends starts again from IDLE (R44). -/
def State.htRestart (s : State) (m : Fin 16) : State :=
  let s := if 2 ≤ s.htState m then
      ((s.trainAbandon m).setHtState m 1).modHost m fun h => { h with precoderP := 0 }
    else s
  s.htStart m

/-- A change of HOST_MODE or LINE_MODE restarts every lane (R44, R32): each leaves lock under the old mapping and starts
under the new one. -/
def State.setMode (s : State) (mode g : Nat) : State :=
  let s := s.each allLines fun n s => s.loseLock n
  let s := s.each allHosts fun m s => s.hostLoseLock m
  let s := s.deskewDrop allLines
  let s := { s with lanes := { s.lanes with
      mode := mode, grouping := g, aligned := [], alignedTx := [], modeChange := allLines.map Fin.val } }
  let s := s.each allHosts fun m s =>
    let s := s.hostVotes m
    if s.hostUsed m then (s.hostAcqStart m).htRestart m else (s.hostRxStop m).htFall m
  s.each allLines fun n s =>
    let s := s.modLinkOf n fun l => { l with pairFill := false, pairAligned := false, groupFill := false }
    let s := ((s.lineReacq n).txRestart n).unsettleAll n
    s.refreshFill n

/-- Every lane changed by a mode or grouping change has started or realigned: the command completes. -/
def execLaneModeChangeDone (s : State) : Result State Fault Refusal :=
  if s.lanes.modeChange = [] then unchanged s
  else done ({ s with lanes := { s.lanes with modeChange := [] } }.complete 0x0004 0 stOk [])

/-! ### Profiles -/

/-- A profile change starts (R21). -/
def State.profileStart (s : State) (p : Nat) : State :=
  { s with lanes := { s.lanes with
      change := some { target := p, left := allLines.map Fin.val, switching := none }, wanted := none } }

/-- The lowest lane that has not switched names the group that switches next: groups in ascending order of their
lowest lanes, as the grouping stands then (R21; DESIGN CHOICE, log 111). -/
def State.nextGroup (s : State) (c : ProfileChange) : Option (Fin 8) :=
  c.left.head?.map fun k => s.groupLead (Fin.ofNat 8 k)

/-- The taps and the search depth of a lane at its switch (R85, R19): taps that leave the range are discarded, those
that enter it start at 0, and step exponent 7 is in force for the next 0.5 ms. -/
def State.switchTaps (s : State) (n : Fin 8) (target : Nat) : State :=
  let b := lineBase n
  let (first, count) := tapRange target
  let s := s.each (List.range 64) fun k s =>
    if first ≤ k ∧ k < first + count then s else s.setFld b (FFE_TAP_COEF.ix k) 0
  (s.setFld b FEC_STATUS_CHASE_L (chaseL target)).modRx n fun r => { r with switchTick := some s.tick }

/-- A group switches profile once its fades have ended (R21, R93). -/
def execProfileGroupSwitch (n : Fin 8) (s : State) : Result State Fault Refusal :=
  match s.lanes.change with
  | some c =>
    if c.switching = none ∧ s.nextGroup c = some (s.groupLead n) ∧ ¬ s.groupFading n then
      let group := (s.groupOf n).map Fin.val
      let s := { s with lanes := { s.lanes with
          change := some { c with left := c.left.filter (!group.contains ·), switching := some (s.groupLead n).val } } }
      done (s.each (s.groupOf n) fun k s =>
        let s := (s.switchTaps k c.target).modLinkOf k fun l => { l with profileFill := true }
        let s := if s.nlcInUse k then s else s.fadeBypass k nlcRegs
        (s.unsettleAll k).refreshFill k)
    else unchanged s
  | none => unchanged s

/-- The chains that the host has not loaded change phase kind with Swift (R383). -/
def State.reloadChains (s : State) (old new : Nat) : State :=
  if (old = 3) = (new = 3) then s
  else s.each allChains fun j s => s.chainReload j (decide (new = 3))

/-- A profile change completes: the profile is in force and the command is answered (R21); a change that
waited for it starts (R397, R22). -/
def State.profileDone (s : State) (target : Nat) : State :=
  let old := s.profile
  let s := { s with lanes := { s.lanes with change := none } }
  let s := ((s.setFld systemBase STATUS_PROFILE target).reloadChains old target).complete 0x0003 target stOk []
  match s.lanes.wanted with
  | some p =>
    if p = target then { s with lanes := { s.lanes with wanted := none } } else s.profileStart p
  | none => s

/-- A group is re-aligned at its new latency (R21). -/
def execProfileGroupRealigned (n : Fin 8) (s : State) : Result State Fault Refusal :=
  match s.lanes.change with
  | some c =>
    if (c.switching.map fun k => s.groupLead (Fin.ofNat 8 k)) = some (s.groupLead n) then
      let s := { s with lanes := { s.lanes with change := some { c with switching := none } } }
      let s := s.each allLines fun k s => (s.modLinkOf k fun l => { l with profileFill := false }).refreshFill k
      if c.left = [] then done (s.profileDone c.target) else done s
    else unchanged s
  | none => unchanged s

/-- The part wants a profile: at once when no change runs, else after it (R397, R22). -/
def State.wantProfile (s : State) (p : Nat) : State :=
  match s.lanes.change with
  | some c => { s with lanes := { s.lanes with wanted := if c.target = p then none else some p } }
  | none => if s.profile = p then s else s.profileStart p

/-- Before the lanes have started a profile takes effect at once (R397, R287): the search depth is the profile's, and a
canceller that it bypasses ends its fade (R93). -/
def State.setProfileNow (s : State) (p : Nat) : State :=
  let s := s.setFld systemBase STATUS_PROFILE p
  s.each allLines fun n s =>
    let s := s.setFld (lineBase n) FEC_STATUS_CHASE_L (chaseL p)
    if s.nlcInUse n then s else s.fadeBypass n nlcRegs

/-! ### Ledger -/

/-- The fields of a ledger: 0 LEDGER_RX, 1 LEDGER_TX0, 2 LEDGER_TX1. -/
def ledgerSeq (which : Nat) : Field :=
  if which = 0 then LEDGER_RX_SEQ else if which = 1 then LEDGER_TX0_SEQ else LEDGER_TX1_SEQ

def ledgerPs (which : Nat) : Field :=
  if which = 0 then LEDGER_RX_LATENCY_PS else if which = 1 then LEDGER_TX0_LATENCY_PS else LEDGER_TX1_LATENCY_PS

/-- A ledger publishes a value, with LEDGER_WAIT beside LEDGER_RX and LEDGER_TX0 (R48, R50). -/
def State.ledgerPublish (s : State) (n : Fin 8) (which : Nat) (ps wait : Nat) : State :=
  let b := lineBase n
  let s := (s.setFld b (ledgerPs which) ps).bumpMod b (ledgerSeq which)
  let s := if which = 0 then s.setFld b LEDGER_WAIT_RX_WAIT wait
    else if which = 1 then s.setFld b LEDGER_WAIT_TX_WAIT wait else s
  s.attn ATTN_CAUSE_LEDGER

/-- The ledger has moved by 10 ps or more. -/
def ledgerMoved (old new : Nat) : Bool := decide (old + 10 ≤ new) || decide (new + 10 ≤ old)

/-- The nominal latency in ps of the line→host direction of a profile and mode (Table 2-8). -/
def nominalRx (profile mode : Nat) : Nat :=
  let a := match profile with
    | 0 => 165000
    | 1 => 210000
    | 2 => 120000
    | _ => 85000
  if mode = 1 then a + 6400 else if mode = 2 then a + 20000 else a

/-- The nominal latency in ps of the host→line direction; in Mode B of the odd host lane or the even one
(Table 2-8). -/
def nominalTx (profile mode : Nat) (odd : Bool) : Nat :=
  let a := match profile with
    | 0 => 90000
    | 1 => 90000
    | 2 => 85000
    | _ => 55000
  if mode = 1 then a + (if odd then 32000 else 19200) else if mode = 2 then a + 10000 else a

/-- The value of a ledger in ps: the nominal latency of the lane's profile and of the mode, a departure of at most
±1.5 ns, and the deskew and pair wait in units of 10 ps (R46, R48).  The sum of the buffers and the analogue delays is
the departure: the spec gives none of them. -/
def State.ledgerValue (s : State) (n : Fin 8) (which : Nat) (dev : Int) (wait : Nat) : Nat :=
  let p := s.laneProfile n
  let nominal := if which = 0 then nominalRx p s.lanes.mode else nominalTx p s.lanes.mode (which == 2)
  satNat 20 ((nominal : Int) + max (-1500) (min 1500 dev) + 10 * wait).toNat

/-- The 1 ms recomputation (R50); an event that sets UNSETTLED in the same cycle wins (R51). -/
def execLedgerRecompute (n : Fin 8) (which : Fin 3) (dev : Int) (wait : BitVec 16) (unsettling : Bool)
    (s : State) : Result State Fault Refusal :=
  let b := lineBase n
  let ps := s.ledgerValue n which.val dev wait.toNat
  if unsettling then done (s.unsettle n which.val)
  else if ¬ s.flag b (ledgerUnsettled which.val) ∧ ledgerMoved (s.fld b (ledgerPs which.val)) ps then
    done (s.ledgerPublish n which.val ps wait.toNat)
  else unchanged s

/-- The event that set UNSETTLED is complete: the lane of the path is locked, and no realignment of it
runs (R50, R52). -/
def State.ledgerReady (s : State) (n : Fin 8) (which : Nat) : Bool :=
  let k := s.line[n].link
  !k.profileFill && !k.groupFill &&
    if which = 0 then s.locked n
    else !k.pairFill && (((s.hostsOf n)[which - 1]?).map s.hostLocked).getD false

/-- UNSETTLED clears and a new value is published (R50, R51). -/
def execLedgerSettle (n : Fin 8) (which : Fin 3) (dev : Int) (wait : BitVec 16) (unsettling : Bool)
    (s : State) : Result State Fault Refusal :=
  if s.flag (lineBase n) (ledgerUnsettled which.val) ∧ s.ledgerReady n which.val ∧ ¬ unsettling then
    done ((s.setFlag (lineBase n) (ledgerUnsettled which.val) false).ledgerPublish n which.val
      (s.ledgerValue n which.val dev wait.toNat) wait.toNat)
  else unchanged s

end Sys2Proof.Machine
end

