-- ==== Sys2Proof/Machine/Modem.lean ====
section
/-! DEFINITION. The Tamid transmitter (R408 to R414): the bits and symbols of a packet, the shaped frequency, and the
injection on the bias channel. -/

namespace Sys2Proof.Machine

open Reg

/-! ### Bits -/

/-- Bits of a byte, most significant first. -/
def byteBits (b : Byte) : List Bool := (List.range 8).map fun k => b.getLsbD (7 - k)

/-- A byte of bits, most significant first. -/
def bitsByte (bs : List Bool) : Byte := BitVec.ofNat 8 (bs.foldl (fun v b => 2 * v + (if b then 1 else 0)) 0)

/-- The whitening sequence of R414: PRBS9, x^9 + x^5 + 1, its output the oldest stage. -/
def prbs9 : Nat → Nat → List Bool
  | 0, _ => []
  | k + 1, reg =>
    let out := reg.testBit 8
    let fb := xor out (reg.testBit 4)
    out :: prbs9 k ((2 * reg + (if fb then 1 else 0)) % 512)

/-- Bytes of a list of bits. -/
def packBits : Nat → List Bool → List Byte
  | 0, _ => []
  | k + 1, bs => bitsByte (bs.take 8) :: packBits k (bs.drop 8)

/-- Whitening of the bytes from the length on, and its removal (R414). -/
def whiten (bs : List Byte) : List Byte :=
  let bits := bs.flatMap byteBits
  packBits bs.length (List.zipWith xor bits (prbs9 bits.length 511))

/-! ### Symbols of a packet (R409, R413) -/

/-- SYNC2 (R413); SYNC4 is its complement (R414). -/
def sync2 : BitVec 32 := 0x7C963A51

/-- Bits of a word, bit 31 first. -/
def wordBitsMsb (w : BitVec 32) : List Bool := (List.range 32).map fun k => w.getLsbD (31 - k)

/-- The deviations of 2-FSK symbols, in kHz (R409). -/
def fsk2 (bits : List Bool) : List Rat := bits.map fun b => if b then 25 else -25

/-- The deviations of 4-FSK symbols, in kHz: the Gray mapping to −3, −1, +1, +3 times 12.5 kHz (R409). -/
def fsk4 : List Bool → List Rat
  | a :: b :: rest => (25 * (grayValue a b : Rat) - 75 / 2) :: fsk4 rest
  | _ => []

/-- The length, payload and CRC of a packet, whitened, as bits (R413, R414). -/
def packetBits (payload : List Byte) : List Bool :=
  let body := BitVec.ofNat 8 payload.length :: payload
  (whiten (body ++ leBytes 4 (crc32 body))).flatMap byteBits

/-- The deviation of each symbol of a packet, in kHz: ramp, preamble, sync word, the whitened part, ramp (R413). -/
def packetSymbolKhz (payload : List Byte) (four : Bool) : List Rat :=
  let preamble := (List.range 32).map fun k => k % 2 == 0
  let sync := wordBitsMsb (if four then ~~~sync2 else sync2)
  let bits := packetBits payload
  0 :: (fsk2 (preamble ++ sync) ++ (if four then fsk4 bits else fsk2 bits) ++ [0])

/-! ### Shaped frequency (R408 to R410) -/

/-- Carrier k in kHz (R408). -/
def carrierKhz (k : Nat) : Rat := 500 + 100 * (k : Rat)

/-- SHAPE_j (R410), in units of 2^−15; 0 beyond the span. -/
def State.shape (s : State) (i : Fin 8) (j : Nat) : Nat :=
  if j < 192 then s.fld (tamidBase i) (SHAPE_COEF.ix j) else 0

/-- The pulse at a point of the table, interpolated linearly (R410). -/
def State.shapeAt (s : State) (i : Fin 8) (x : Rat) : Rat :=
  let j := x.floor.toNat
  let a : Rat := s.shape i j
  let b : Rat := s.shape i (j + 1)
  (a + (x - j) * (b - a)) / 32768

/-- NCO samples of a symbol: 10 MS/s over 50 kBd (R409). -/
def ncoPerSymbol : Nat := 200

/-- The frequency at NCO sample `n` of a packet, in kHz: the pulse of a symbol spans the symbol and its two neighbours
(R409, R410). -/
def State.ncoKhz (s : State) (i : Fin 8) (symbols : List Rat) (n : Nat) : Rat :=
  let k := n / ncoPerSymbol
  let x : Rat := 64 * ((n % ncoPerSymbol : Nat) : Rat) / ncoPerSymbol
  let before := if k = 0 then 0 else symbols.getD (k - 1) 0
  carrierKhz (s.fld (tamidBase i) TM_STATUS_CARRIER) + before * s.shapeAt i (x + 128) +
    symbols.getD k 0 * s.shapeAt i (x + 64) + symbols.getD (k + 1) 0 * s.shapeAt i x

/-! ### Injection (R412) -/

/-- Depth of a step in 0.01 % of OMA, as the table of R412 prints it. -/
def depthTable : List Nat := [25, 31, 40, 50, 63, 79, 100, 126, 159, 200, 252, 317, 400, 504, 635, 800]

/-- A of R412 at a depth step, with the gain that the injection-gain calibration gave (DESIGN CHOICE, log 144). -/
def State.injAmplitude (s : State) (i : Fin 8) (step : Nat) : Rat :=
  let b := tamidBase i
  (depthTable.getD step 0 : Rat) / 10000 * (s.fld b TM_CTRL_OMA_CODES : Rat) / 2 *
    Config.injectionGain i.val (s.fld b TM_STATUS_CARRIER)

/-- The raised cosine of the ramps at NCO sample `n` of a packet of `symbols` symbols (R412). -/
def rampFactor (symbols n : Nat) : Rat :=
  let last := ncoPerSymbol * (symbols - 1)
  let rise := fun m : Nat => (1 - Config.sine ((m : Rat) / (2 * ncoPerSymbol) + 1 / 4)) / 2
  if n < ncoPerSymbol then rise n else if last ≤ n then rise (ncoPerSymbol - min ncoPerSymbol (n - last)) else 1

/-- The Tamid instance whose injection goes out on a channel (R376). -/
def injInstance (c : Fin 32) : Option (Fin 8) :=
  if c.val < 24 ∧ c.val % 3 = 0 then some (Fin.ofNat 8 (c.val / 3)) else none

/-- INJ of an instance at this NCO sample (R412): zero outside a packet and outside the injection-gain calibration, which
injects a tone at step 0 (Table 17-4); in A-DIG nothing is injected (R462). -/
def State.injection (s : State) (i : Fin 8) : Int :=
  let t := s.tamid[i]
  match t.air with
  | some (p, _, four, _) =>
    if s.tamidLoop i = 1 then 0
    else
      let symbols := (packetSymbolKhz p four).length
      roundAway (s.injAmplitude i (s.fld (tamidBase i) TM_STATUS_DEPTH) * rampFactor symbols t.nco *
        Config.sine t.phase)
  | none => if t.slice.map Prod.fst = some 2 then roundAway (s.injAmplitude i 0 * Config.sine t.phase) else 0

/-- The NCO moves on by one sample of 0.1 µs. -/
def State.ncoStep (s : State) (i : Fin 8) (t : TamidInst) : TamidInst :=
  match t.air with
  | some (p, _, four, _) =>
    let x := t.phase + s.ncoKhz i (packetSymbolKhz p four) t.nco / 10000
    { t with nco := t.nco + 1, phase := x - x.floor }
  | none =>
    if t.slice.map Prod.fst = some 2 then
      let x := t.phase + carrierKhz (s.fld (tamidBase i) TM_STATUS_CARRIER) / 10000
      { t with phase := x - x.floor }
    else t

/-- The NCO moves on by the samples of one sample tick of its channel, RATE_DIV of them (R376, R409). -/
def State.ncoRun (s : State) (i : Fin 8) : Nat → State
  | 0 => s
  | k + 1 => (s.modTamid i (s.ncoStep i)).ncoRun i k

end Sys2Proof.Machine
end

