-- ==== Sys2Proof/Machine/ControlDac.lean ====
section
/-! DEFINITION. The control DACs (chapter 15, R375 to R379). -/

namespace Sys2Proof.Machine

open Reg

/-- The clamp of a channel is released once it is enabled and a code is queued (R377). -/
def State.cdRelease (s : State) (c : Fin 32) : State :=
  if s.cdState c = 0 ∧ s.flag (cdBase c) CD_CFG_EN ∧ s.cdac[c].queue ≠ [] ∧ ¬ s.cdac[c].clampEngaged then
    (s.setFld (cdBase c) CD_CODES_OUT 0).setCdState c 1
  else s

/-- Codes enter the queue of a channel (R376). -/
def State.cdPush (s : State) (c : Fin 32) (codes : List Nat) : State :=
  (s.setCdQueue c (s.cdac[c].queue ++ codes)).cdRelease c

/-- CDAC_CONFIG acts on a channel (R377, R378). -/
def State.cdConfig (s : State) (c : Fin 32) (en gain2 : Bool) (div step safe : Nat) : State :=
  let b := cdBase c
  let s := (s.setFld b CD_CFG_STEP step).setFld b CD_SAFE_SAFE_CODE safe
  let s := s.modCdac c fun d => { d with rateNext := some div }
  let s :=
    if s.cdState c = 0 then s.setFlag b CD_CFG_GAIN2 gain2
    else if s.cdState c = 2 then s.modCdac c fun d => { d with rangeTo := some gain2 }
    else if s.flag b CD_CFG_GAIN2 = gain2 then s
    else (s.setCdState c 2).modCdac c fun d => { d with rangeTo := some gain2, clampEngaged := false }
  if en then (s.setFlag b CD_CFG_EN true).cdRelease c
  else if s.flag b CD_CFG_EN then
    ((s.setFlag b CD_CFG_EN false).setCdQueue c []).setFld b CD_CODES_TARGET 0
  else s

/-- STEP as it acts: 0 as 16,383 (R376). -/
def State.cdStep (s : State) (c : Fin 32) : Nat :=
  let v := s.fld (cdBase c) CD_CFG_STEP
  if v = 0 then 16383 else v

/-- One slew step of a code toward a target (R376). -/
def slewStep (out target step : Nat) : Nat :=
  if out ≤ target then out + min (target - out) step else out - min (out - target) step

def State.cdSlew (s : State) (c : Fin 32) (target : Nat) : State :=
  let b := cdBase c
  s.setFld b CD_CODES_OUT (slewStep (s.fld b CD_CODES_OUT) target (s.cdStep c))

/-- The code driven: OUT plus INJ, clamped; a clipped sum raises INJ_CLIP once per packet (R376, R412). -/
def State.cdDrive (s : State) (c : Fin 32) (inj : Int) : State :=
  let out := s.fld (cdBase c) CD_CODES_OUT
  match injInstance c with
  | some i =>
    let x : Int := (out : Int) + inj
    let y := max 0 (min 0x3FFF x)
    let s := s.modCdac c fun d => { d with driven := y.toNat }
    if x ≠ y ∧ s.tamid[i].air.isSome ∧ ¬ s.tamid[i].clipped then
      (s.modTamid i fun t => { t with clipped := true }).raise (tamidSrc i 0x05) out
    else s
  | none => s.modCdac c fun d => { d with driven := out }

/-- The output of a channel in volts, 0 while it is clamped (R375). -/
def State.cdVolts (s : State) (c : Fin 32) : Rat :=
  if s.cdState c = 0 ∨ s.cdac[c].clampEngaged then 0
  else (if s.flag (cdBase c) CD_CFG_GAIN2 then 12 / 5 else 6 / 5) * (s.cdac[c].driven : Rat) / 16384

/-- The pop of a sample tick: the oldest code becomes TARGET, an update strobe (R376). -/
def State.cdPop (s : State) (c : Fin 32) : State :=
  match s.cdac[c].queue with
  | q :: rest =>
    (((s.setCdQueue c rest).setFld (cdBase c) CD_CODES_TARGET q).bumpMod (cdBase c) CD_SAFE_POPS).hkStrobe 1 c.val
  | [] => s

/-- A sample tick (R376 to R379): the steps of a range change suspend the injection (R427). -/
def State.cdTick (s : State) (c : Fin 32) (inj : Int) : State :=
  let b := cdBase c
  let s : State := match s.cdac[c].rateNext with
    | some d => (s.setFld b CD_CFG_RATE_DIV d).modCdac c fun x => { x with rateNext := none }
    | none => s
  let st := s.cdState c
  if st = 1 then
    let s := if s.flag b CD_CFG_EN then s.cdPop c else s
    let s := (s.cdSlew c (s.fld b CD_CODES_TARGET)).cdDrive c inj
    if !s.flag b CD_CFG_EN && s.fld b CD_CODES_OUT == 0 then
      (s.setCdState c 0).modCdac c fun x => { x with driven := 0 }
    else s
  else if st = 2 then
    if s.cdac[c].clampEngaged then s
    else
      let s := (s.cdSlew c 0).cdDrive c 0
      if s.fld b CD_CODES_OUT = 0 then s.modCdac c fun x => { x with clampEngaged := true, driven := 0 } else s
  else if st = 3 then (s.cdSlew c (s.fld b CD_SAFE_SAFE_CODE)).cdDrive c 0
  else s

/-- A sample tick of a channel, with the injection of its Tamid instance, whose NCO runs on to the next tick (R376,
R412). -/
def execCdacSampleTick (c : Fin 32) (s : State) : Result State Fault Refusal :=
  match injInstance c with
  | some i =>
    let s := s.cdTick c (s.injection i)
    done (s.ncoRun i (s.fld (cdBase c) CD_CFG_RATE_DIV))
  | none => done (s.cdTick c 0)

/-- 2 µs after the clamp engaged the range switches and the clamp releases (Table 15-4 steps 3 and 4); in
safe state the channel goes on to its safe code (Table 15-6). -/
def execCdacRangeSwitch (c : Fin 32) (s : State) : Result State Fault Refusal :=
  let b := cdBase c
  if s.cdac[c].clampEngaged then
    let s : State := match s.cdac[c].rangeTo with
      | some g => s.setFlag b CD_CFG_GAIN2 g
      | none => s
    let s := s.modCdac c fun d => { d with rangeTo := none, clampEngaged := false }
    done (s.setCdState c (if !s.flag b CD_CFG_EN then 0 else if s.fuse.safe then 3 else 1))
  else unchanged s

end Sys2Proof.Machine
end

