-- ==== Sys2Proof/Machine/Tamid.lean ====
section
/-! DEFINITION. The Tamid auxiliary channel (chapter 17). -/

namespace Sys2Proof.Machine

open Reg

/-- The domain of the Tamid receive front ends (Table 14-1). -/
def domTamid : Nat := 4

/-! ### Carriers, cache and chain ownership -/

/-- The half of an instance: 0 west, 1 east (R416). -/
def tamidHalf (i : Fin 8) : Nat := i.val / 4

/-- Core ticks for which a cache entry is valid (R421). -/
def cacheTicks : Nat := 600 * ticksPerSecond

/-- The reading of the DSP site of a half, T6 or T7, in 1/256 °C (R421). -/
def State.halfTemp (s : State) (half : Nat) : Nat := s.fld thermBase (THERM_SITE_TEMP.ix (6 + half))

/-- The cache entry is valid: less than 600 s old, and within 5 °C of its temperature (R421). -/
def State.entryValid (s : State) (e : CarrierEntry) : Bool :=
  decide (s.tick < e.stored + cacheTicks) &&
    decide (((s.halfTemp e.half : Int) - e.temp).natAbs ≤ 1280)

/-- The carrier of a half is cached (R421). -/
def State.carrierCached (s : State) (half carrier : Nat) : Bool :=
  s.carriers.any fun e => e.half == half && e.carrier == carrier && s.entryValid e

/-- An entry is dropped. -/
def State.dropCarrier (s : State) (half carrier : Nat) : State :=
  { s with carriers := s.carriers.filter fun e => !(e.half == half && e.carrier == carrier) }

/-- An entry is stored with the tick and the temperature of this moment (R421). -/
def State.storeCarrier (s : State) (half carrier : Nat) : State :=
  let e : CarrierEntry := { half := half, carrier := carrier, stored := s.tick, temp := s.halfTemp half }
  let s := s.dropCarrier half carrier
  { s with carriers := s.carriers ++ [e] }

/-- Line chain i, which direct sampling takes (R380, R415). -/
def tamidChain (i : Fin 8) : Fin 24 := i.castLE (by decide)

/-- Chain i belongs to the instance while it receives by direct sampling (R380); a chain that it gives back
is STOPPED. -/
def State.refreshOwned (s : State) (i : Fin 8) : State :=
  let j := tamidChain i
  let want := s.tamidReceives i && s.flag (tamidBase i) TM_STATUS_RX_METHOD
  if want == s.chainOwned j then s
  else if want then
    let s := (s.chainStop j).setFlag (mcBase j) MC_STATUS_OWNED true
    s.chainStart j
  else (s.chainStop j).setFlag (mcBase j) MC_STATUS_OWNED false

/-- STATE of Table 17-1, with what follows from it: a receiver that goes off discards its packet, chain
ownership, and the vote for the domain. -/
def State.setTamidState (s : State) (i : Fin 8) (st : Nat) : State :=
  let s := s.setFld (tamidBase i) TM_STATUS_STATE st
  let s := if s.tamidReceives i then s else s.modTamid i fun t => { t with rx := none }
  let s := s.when (!s.tamidReceives i) fun s => s.setFlag (tamidBase i) TM_STATUS_RECEIVING false
  (s.refreshOwned i).tamidVote

/-- A calibration slice is over (R422). -/
def State.endSlice (s : State) (i : Fin 8) : State :=
  (s.setFlag (tamidBase i) TM_STATUS_CAL_RUNNING false).modTamid i fun t => { t with slice := none }

/-- A calibration slice is aborted and counted (R422, R423). -/
def State.abortSlice (s : State) (i : Fin 8) : State :=
  if s.tamid[i].slice.isSome then
    ((s.endSlice i).modTamid i fun t => { t with abortedAt := some s.tick }).bump (tamidBase i) TM_COUNTS2_CAL_ABORTS
  else s

/-- An instance is taken to SLEEP with all it does (R427). -/
def State.tamidStop (s : State) (i : Fin 8) : State :=
  let s := s.tamidDrop i
  let s := (s.endSlice i).modTamid i fun t =>
    { t with target := none, host := none, own := [], air := none, backTo := none }
  (s.setTamidState i 0).refreshSending i

/-! ### Shape and mask -/

/-- A run of equal symbols holds its frequency: each sum lies within 32,768 ± 64 (R410). -/
def State.shapeHolds (s : State) (i : Fin 8) : Bool :=
  (List.range 64).all fun j =>
    let t := s.shape i j + s.shape i (j + 64) + s.shape i (j + 128)
    decide (32704 ≤ t ∧ t ≤ 32832)

/-- The points of the mask in force, offset in kHz and attenuation in dB, by offset; offset 0 is unused (R411). -/
def State.maskPoints (s : State) (i : Fin 8) : List (Nat × Nat) :=
  let b := tamidBase i
  let all := (List.range 8).map fun p => (s.fld b (MASK_OFFSET.ix p), s.fld b (MASK_ATTEN.ix p))
  all.foldl (fun l e => if e.1 = 0 then l else (l.takeWhile fun x => x.1 ≤ e.1) ++ e :: (l.dropWhile fun x => x.1 ≤ e.1)) []

/-- The attenuation in dB that a mask asks for at an offset in kHz: none before its first point, by linear interpolation
between its points, and that of the last beyond it (R411). -/
def maskAt : List (Nat × Nat) → Rat → Option Rat
  | [], _ => none
  | [p], x => if x < p.1 then none else some p.2
  | p :: q :: rest, x =>
    if x < p.1 then none
    else if (q.1 : Rat) ≤ x then maskAt (q :: rest) x
    else some ((p.2 : Rat) + ((q.2 : Rat) - p.2) * (x - p.1) / ((q.1 : Rat) - p.1))

/-- The worst excess of a spectrum over the mask in dB: the spectrum is given as offsets in kHz with their attenuation in
dB relative to the carrier power (R411); `none` where the mask asks for nothing. -/
def State.maskExcess (s : State) (i : Fin 8) (spectrum : List (Rat × Rat)) : Option Rat :=
  let points := s.maskPoints i
  let excess := spectrum.filterMap fun e => (maskAt points e.1).map fun a => a - e.2
  excess.foldl (fun w x => some (match w with
    | some v => max v x
    | none => x)) none

/-- The check at the entry to TX or DUPLEX (R411): it is not made again for a shape and mask that have
passed with this modulation. -/
def State.maskPasses (s : State) (i : Fin 8) (fsk4 : Bool) (spectrum : List (Rat × Rat)) : Bool :=
  s.tamid[i].passed == some fsk4 ||
    (s.shapeHolds i && match s.maskExcess i spectrum with
      | some x => decide (x ≤ 0)
      | none => true)

/-- The worst excess over the mask in 0.1 dB (Table 17-7). -/
def State.maskDetail (s : State) (i : Fin 8) (spectrum : List (Rat × Rat)) : Nat :=
  satNat 16 (roundAway (10 * (s.maskExcess i spectrum).getD 0)).toNat

/-- MASK_FAIL (R411). -/
def State.maskFail (s : State) (i : Fin 8) (spectrum : List (Rat × Rat)) : State :=
  s.raise (tamidSrc i 0x03) (s.maskDetail i spectrum)

/-- The work of room 14 for a Tamid instance goes on: `rx` names its receive task.  The engines of the room stop in safe
state, and the receivers go on all the same (R343, R427; DEDUCED, log 145). -/
def State.tamidWorks (s : State) (i : Fin 8) (rx : Bool) : Bool := s.taskUp 14 (tamidTask i rx)

/-- A SHAPE write (R410). -/
def State.shapeWrite (s : State) (i : Fin 8) (j v : Nat) : State :=
  if s.tamidState i ≤ 1 then
    (s.setFld (tamidBase i) (SHAPE_COEF.ix j) v).modTamid i fun t => { t with passed := none }
  else s.bump (tamidBase i) TM_COUNTS2_WR_REJECT

def execTamidShapeWrite (i : Fin 8) (j : Fin 192) (value : BitVec 16) (s : State) :
    Result State Fault Refusal := done (s.shapeWrite i j.val value.toNat)

/-! ### States and transitions -/

/-- The state code that B5 of TAMID_CONFIG asks for (Table 11-14). -/
def configState (b : Nat) : Option Nat :=
  match b with
  | 0 => some 0
  | 1 => some 1
  | 2 => some 3
  | 3 => some 4
  | 4 => some 5
  | _ => none

/-- The carrier that an instance holds or moves to, with its receive method and its state. -/
def State.tamidHolds (s : State) (i : Fin 8) : Nat × Bool × Nat :=
  match s.tamid[i].target with
  | some t => (t.carrier, t.sampling, t.st)
  | none => (s.fld (tamidBase i) TM_STATUS_CARRIER, s.flag (tamidBase i) TM_STATUS_RX_METHOD, s.tamidState i)

/-- Another instance of the half holds the receive LO on another carrier (R416). -/
def State.loTaken (s : State) (i : Fin 8) (carrier : Nat) : Bool :=
  allLines.any fun k =>
    let (c, sampling, st) := s.tamidHolds k
    k != i && tamidHalf k == tamidHalf i && !sampling && (st == 2 || st == 3 || st == 5) && c != carrier

/-- TAMID_CONFIG is answered BAD_PARAM (Table 11-14, R415, R416). -/
def State.configBad (s : State) (i carrier fsk depth method st : Nat) : Bool :=
  decide (8 ≤ i) || decide (16 ≤ carrier) || decide (2 ≤ fsk) || decide (16 ≤ depth) ||
  decide (2 ≤ method) || (configState st).isNone ||
  (method == 1 && wordField (s.reg (powerBase + LINE_RX_SLEEP_SLEEP.off)) i 1 == 1) ||
  (method == 0 && (st == 2 || st == 4) && s.loTaken (Fin.ofNat 8 i) carrier)

/-- TAMID_CONFIG (R420). -/
def State.tamidConfig (s : State) (o : Origin) (i carrier fsk depth method st : Nat) : State :=
  if s.configBad i carrier fsk depth method st then s.reply o stBadParam []
  else
    let k := Fin.ofNat 8 i
    if s.tamid[k].target.isSome then s.reply o stBusy []
    else
      let t : TamidTarget := { carrier := carrier, fsk4 := fsk == 1, depth := depth, sampling := method == 1,
                               st := (configState st).getD 0 }
      let b := tamidBase k
      let moved := s.fld b TM_STATUS_CARRIER != carrier || s.flag b TM_STATUS_RX_METHOD != t.sampling
      let s := if moved && s.tamid[k].rx.isSome then s.tamidDrop k else s
      let s := s.modTamid k fun x => { x with target := some t }
      (s.tamidVote).accept o 0x0700 i

/-- The state that the next transition of Table 17-2 reaches: a hop to an uncached carrier passes through
SYNTH. -/
def State.nextTamid (s : State) (i : Fin 8) (t : TamidTarget) : Nat :=
  let cur := s.tamidState i
  let hop := s.fld (tamidBase i) TM_STATUS_CARRIER != t.carrier &&
    !s.carrierCached (tamidHalf i) t.carrier
  if t.st = 0 then if cur = 0 ∨ cur = 1 then 0 else 1
  else if t.st = 1 then 1
  else if cur = 0 then 1
  else if cur = 1 then 2
  else if cur = 2 then t.st
  else if hop then 2
  else t.st

/-- The settings of a TAMID_CONFIG take effect. -/
def State.takeConfig (s : State) (i : Fin 8) (t : TamidTarget) : State :=
  let b := tamidBase i
  let s := (s.setFld b TM_STATUS_CARRIER t.carrier).setFlag b TM_STATUS_TX_MOD t.fsk4
  (s.setFlag b TM_STATUS_RX_METHOD t.sampling).setFld b TM_STATUS_DEPTH t.depth

/-- The transition ends, and with it the command. -/
def State.endConfig (s : State) (i : Fin 8) (status : Nat) : State :=
  (s.modTamid i fun x => { x with target := none }).complete 0x0700 i.val status []

/-- A transition of Table 17-2 completes (R420, R411). -/
def execTamidTransitionDone (i : Fin 8) (spectrum : List (Rat × Rat)) (s : State) : Result State Fault Refusal :=
  match s.tamid[i].target with
  | none => unchanged s
  | some t =>
    let nxt := s.nextTamid i t
    let cur := s.tamidState i
    if s.tamid[i].air.isSome ∨ (cur = 0 ∧ nxt ≠ 0 ∧ ¬ s.domOn domTamid) ∨
        ((nxt = 4 ∨ nxt = 5) ∧ ¬ s.tamidWorks i false) then unchanged s
    else
      let s := s.abortSlice i
      let s := s.takeConfig i t
      let s := if nxt = 2 ∧ ¬ s.carrierCached (tamidHalf i) t.carrier then
          s.storeCarrier (tamidHalf i) t.carrier else s
      let enters := (nxt == 4 || nxt == 5) && cur != nxt
      let changed := (nxt == 4 || nxt == 5) && s.tamid[i].passed != some t.fsk4
      if (enters || changed) && !s.maskPasses i t.fsk4 spectrum then
        done (((s.setTamidState i 2).endConfig i stBadParam).maskFail i spectrum)
      else
        let s := if enters || changed then s.modTamid i fun x => { x with passed := some t.fsk4 } else s
        let s := s.setTamidState i nxt
        if nxt = t.st then done (s.endConfig i stOk) else done s

/-! ### Sending -/

/-- TAMID_SEND is answered BAD_PARAM (R423). -/
def State.sendBad (s : State) (i len : Nat) (payload : List Byte) : Bool :=
  let k := Fin.ofNat 8 i
  let kind := (payload.headD 0).toNat
  decide (8 ≤ i) || s.tamidState k == 0 || (s.tamid[k].target.map TamidTarget.st) == some 0 ||
  s.fld (tamidBase k) TM_CTRL_OMA_CODES == 0 || (decide (0xC0 ≤ kind ∧ kind ≤ 0xCF) && kind != 0xC4) ||
  len == 0 || decide (240 < len)

/-- TAMID_SEND (R423): the reply is placed when the first ramp symbol starts. -/
def State.tamidSend (s : State) (o : Origin) (i len : Nat) (payload : List Byte) : State :=
  if s.sendBad i len payload then s.reply o stBadParam []
  else
    let k := Fin.ofNat 8 i
    let t := s.tamid[k]
    if t.air.isSome || t.host.isSome || !t.own.isEmpty then s.reply o stBusy []
    else
      let h : TamidSend := { payload := payload, origin := o, since := s.tick }
      ((s.abortSlice k).modTamid k fun t => { t with host := some h }).refreshSending k

/-- The start delay in µs, rounded up (R423): a tick is 1.28 ns. -/
def startDelay (ticks : Nat) : Nat := (4 * ticks + 3124) / 3125

/-- The packet that starts next: the host's first (R424, Table 17-6). -/
def TamidInst.next (t : TamidInst) : Option (List Byte × Option TamidSend) :=
  match t.host with
  | some h => some (h.payload, some h)
  | none =>
    match t.own with
    | p :: _ => some (p, none)
    | [] => none

/-- The packet that starts leaves its place. -/
def TamidInst.without (t : TamidInst) : TamidInst :=
  if t.host.isSome then { t with host := none } else { t with own := t.own.drop 1 }

/-- A waiting packet's first ramp symbol is due: from RX the instance turns to TX, from STANDBY it passes
through SYNTH (R423); in safe state no symbol is injected (Table 17-6). -/
def execTamidPacketStart (i : Fin 8) (spectrum : List (Rat × Rat)) (s : State) : Result State Fault Refusal :=
  let cur := s.tamidState i
  match s.tamid[i].next with
  | none => unchanged s
  | some (p, h) =>
    if s.tamid[i].target.isSome ∨ s.tamid[i].air.isSome ∨ cur = 0 ∨ ¬ s.tamidWorks i false then unchanged s
    else if s.fuse.safe then
      let s := (s.modTamid i TamidInst.without).refreshSending i
      let s := match h with
        | some h => s.reply h.origin stSafeState []
        | none => s
      done (s.raise (tamidSrc i 0x06) 0)
    else
      let b := tamidBase i
      let fsk4 := s.flag b TM_STATUS_TX_MOD
      let c := s.fld b TM_STATUS_CARRIER
      let s := s.abortSlice i
      let s := if cur = 1 ∧ ¬ s.carrierCached (tamidHalf i) c then s.storeCarrier (tamidHalf i) c else s
      let enters := cur != 4 && cur != 5
      if enters && !s.maskPasses i fsk4 spectrum then done ((s.setTamidState i 2).maskFail i spectrum)
      else
        let s := if enters then (s.tamidDrop i).setTamidState i 4 else s
        let s := s.modTamid i fun t => { t.without with
          passed := some fsk4, air := some (p, h.isSome, fsk4, s.tick), nco := 0, clipped := false,
          backTo := if enters then some cur else none }
        let s := s.refreshSending i
        match h with
        | some h => done (s.reply h.origin stOk (leBytes 2 (satNat 16 (startDelay (s.tick - h.since)))))
        | none => done s

/-- Symbols of a packet (R413). -/
def packetSymbols (len : Nat) (fsk4 : Bool) : Nat := 66 + (if fsk4 then 4 else 8) * (len + 5)

/-- The last ramp symbol ends (R413, R423); an instance whose packet was cut off goes back to the state it came from. -/
def execTamidPacketEnd (i : Fin 8) (s : State) : Result State Fault Refusal :=
  match s.tamid[i].air with
  | none =>
    match s.tamid[i].backTo with
    | some st => done ((s.modTamid i fun t => { t with backTo := none }).setTamidState i st)
    | none => unchanged s
  | some (p, _, fsk4, _) =>
    let back := s.tamid[i].backTo
    let s := (s.modTamid i fun t => { t with air := none, backTo := none }).refreshSending i
    let s := (s.bumpMod (tamidBase i) TM_COUNTS0_TX_PKTS).countEvent (0x7001 + i.val * 0x100)
      (packetSymbols p.length fsk4)
    match back with
    | some st => done (s.setTamidState i st)
    | none => done s

/-! ### Receiving -/

/-- The receiver listens: room 14 works for it, and direct sampling needs ACQ_STATE of its lane at 2 or higher (R415,
Table 1-4). -/
def State.tamidListens (s : State) (i : Fin 8) : Bool :=
  s.tamidWorks i true && s.tamidReceives i && (!s.flag (tamidBase i) TM_STATUS_RX_METHOD || decide (2 ≤ s.acqState i))

/-- The gain that brings a level, in dB below the receiver's full scale, to 12 dB below it, in steps of 1 dB from 0 to 42 dB
(R415, R417; DESIGN CHOICE, log 146). -/
def agcGain (gain : Nat) (level : Rat) : Nat := (max 0 (min 42 ((gain : Int) + roundAway (level - 12)))).toNat

/-- The AGC sets the gain until detection (R417 step 1); `level` is in dB below the receiver's full scale. -/
def execTamidAgcUpdate (i : Fin 8) (level : Rat) (s : State) : Result State Fault Refusal :=
  if s.tamidListens i ∧ s.tamid[i].rx.isNone then
    done (s.modTamid i fun t => { t with gain := agcGain t.gain level })
  else unchanged s

/-- A preamble is detected when the correlation exceeds DET_THR / 16, DET_THR at least 4 (R417 step 2);
`level` is in dB below the receiver's full scale. -/
def execTamidDetect (i : Fin 8) (corr level : Rat) (s : State) : Result State Fault Refusal :=
  let thr : Rat := (max 4 (s.fld (tamidBase i) TM_CTRL_DET_THR) : Nat)
  if s.tamidListens i ∧ s.tamid[i].rx.isNone ∧ thr / 16 < corr then
    let r : TamidRx := { level := level, captured := false, synced := false, fsk4 := false, afc := 0, time := 0 }
    done (s.modTamid i fun t => { t with rx := some r })
  else unchanged s

/-- Bits in which a received word agrees with SYNC2 (R417 step 4). -/
def syncAgree (w : BitVec 32) : Nat := ((List.range 32).filter fun k => w.getLsbD k == sync2.getLsbD k).length

/-- The sync word is accepted with at least 29 of 32 bits, of SYNC2 or of its complement SYNC4 (R417 step 4,
R414); the timestamp leaves out the delay of the receive path. -/
def execTamidSyncAccept (i : Fin 8) (word : BitVec 32) (afc : Int) (delay : Nat) (s : State) :
    Result State Fault Refusal :=
  match s.tamid[i].rx with
  | none => unchanged s
  | some r =>
    let agree := syncAgree word
    if s.tamidListens i ∧ ¬ r.synced ∧ (29 ≤ agree ∨ agree ≤ 3) then
      let r := { r with
        synced := true, fsk4 := decide (agree ≤ 3), afc := max (-120) (min 120 afc),
        time := (s.clock.deviceTime - delay) % 2 ^ 32 }
      done ((s.modTamid i fun t => { t with rx := some r }).setFlag (tamidBase i) TM_STATUS_RECEIVING true)
    else unchanged s

/-- No sync word within 48 symbols: back to step 1, not counted (R417 step 4). -/
def execTamidSyncTimeout (i : Fin 8) (s : State) : Result State Fault Refusal :=
  match s.tamid[i].rx with
  | some r => if r.synced then unchanged s else done (s.modTamid i fun t => { t with rx := none })
  | none => unchanged s

/-- The payload of a packet whose CRC matches (R413, R414, R417 step 5). -/
def packetPayload (raw : List Byte) : Option (List Byte) :=
  let bs := whiten raw
  let len := (bs.headD 0).toNat
  let body := bs.take (len + 1)
  if len = 0 ∨ 240 < len ∨ bs.length < len + 5 then none
  else if leNat ((bs.drop (len + 1)).take 4) = crc32 body then some (body.drop 1) else none

/-- A CRC error (R418). -/
def State.tamidCrc (s : State) (i : Fin 8) : State :=
  let b := tamidBase i
  let src := tamidSrc i 0x00
  let s := (s.bump b TM_COUNTS1_CRC_ERR).bump b TM_LAST_CRC_NEW
  let n := s.tamid[i].crcSince + 1
  if s.limitFree src then
    (s.modTamid i fun t => { t with crcSince := 0 }).raiseLimited src src (satNat 16 n)
  else s.modTamid i fun t => { t with crcSince := n }

/-- A packet is delivered: TM_LAST, RX_PKTS and its count event (R418, R431). -/
def State.tamidDelivered (s : State) (i : Fin 8) (r : TamidRx) : State :=
  let b := tamidBase i
  let s := s.setFld b TM_LAST_LEVEL (satNat 8 (quantise (2 * r.level)).toNat)
  let s := s.setFld b TM_LAST_AFC (intBits 8 r.afc)
  (s.bumpMod b TM_COUNTS0_RX_PKTS).countEvent (0x7002 + i.val * 0x100) 1

/-- A packet goes to the receive queue of 8 (R418). -/
def State.tamidQueue (s : State) (i : Fin 8) (r : TamidRx) (p : List Byte) : State :=
  let b := tamidBase i
  if 8 ≤ s.tamid[i].queue.length then
    ((s.bump b TM_COUNTS1_RX_DROP).modTamid i fun t => { t with overflow := true }).raise (tamidSrc i 0x02)
      (p.headD 0).toNat
  else
    let flags := (if r.fsk4 then 1 else 0) + (if s.flag b TM_STATUS_RX_METHOD then 2 else 0) +
      (if r.captured then 8 else 0)
    let s := s.modTamid i fun t => { t with queue := t.queue ++ [{ payload := p, flags := flags, time := r.time }] }
    ((s.setFld b TM_STATUS_QUEUED s.tamid[i].queue.length).tamidDelivered i r).attn ATTN_CAUSE_TAMID_RX

/-- The routing of a payload by its kind (R424, Table 17-5). -/
def State.tamidRoute (s : State) (i : Fin 8) (r : TamidRx) (p : List Byte) : State :=
  let kind := (p.headD 0).toNat
  let b := tamidBase i
  if 0xC1 ≤ kind ∧ kind ≤ 0xC3 ∧ s.flag pantryBase PANTRY_CTRL_PD_TAMID then
    (s.modTamid i fun t => { t with messages := t.messages ++ [p] }).tamidDelivered i r
  else if kind = 0xC4 then
    if s.flag b TM_CTRL_REMOTE_MGMT then
      (s.modTamid i fun t => { t with commands := t.commands ++ [p.drop 1] }).tamidDelivered i r
    else s.bump b TM_COUNTS2_UNHANDLED
  else if kind = 0xC0 ∨ (0xC6 ≤ kind ∧ kind ≤ 0xCF) then s.bump b TM_COUNTS2_UNHANDLED
  else s.tamidQueue i r p

/-- A packet's last symbol has arrived; `raw` is what was received from the length on (R418). -/
def execTamidPacketReceived (i : Fin 8) (raw : List Byte) (s : State) : Result State Fault Refusal :=
  match s.tamid[i].rx with
  | none => unchanged s
  | some r =>
    if s.tamidListens i ∧ r.synced then
      let s := (s.setFlag (tamidBase i) TM_STATUS_RECEIVING false).modTamid i fun t => { t with rx := none }
      match packetPayload raw with
      | some p => done (s.tamidRoute i r p)
      | none => done (s.tamidCrc i)
    else unchanged s

/-- A stronger preamble captures the receiver: its level exceeds that of the packet in progress by at least
CAPTURE_DB, 3 at least (R419). -/
def execTamidCapture (i : Fin 8) (level : Rat) (s : State) : Result State Fault Refusal :=
  let b := tamidBase i
  let margin : Rat := (max 3 (s.fld b TM_CTRL_CAPTURE_DB) : Nat)
  match s.tamid[i].rx with
  | none => unchanged s
  | some r =>
    if s.tamidListens i ∧ margin ≤ r.level - level then
      let src := tamidSrc i 0x01
      let fresh : TamidRx := { level := level, captured := true, synced := false, fsk4 := false, afc := 0, time := 0 }
      let s := (s.modTamid i fun t => { t with
        rx := some fresh, gain := agcGain t.gain level }).setFlag b TM_STATUS_RECEIVING false
      let s := (s.bump b TM_COUNTS1_PRE_EMPTED).bump b TM_LAST_PREEMPT_NEW
      let n := s.tamid[i].preemptSince + 1
      if s.limitFree src then
        done ((s.modTamid i fun t => { t with preemptSince := 0 }).raiseLimited src src (satNat 16 n))
      else done (s.modTamid i fun t => { t with preemptSince := n })
    else unchanged s

/-! ### Background calibration -/

/-- The task of room 14 that runs a calibration item: LO per half, DC offset, injection gain (Table 10-2). -/
def sliceTask (i : Fin 8) (item : Nat) : Nat := if item = 0 then 57 + tamidHalf i else tamidTask i (item == 1)

/-- A slice may start (R422, Table 17-4): one that was aborted is run again no sooner than 1 ms later. -/
def State.sliceMay (s : State) (i : Fin 8) (item carrier : Nat) : Bool :=
  let t := s.tamid[i]
  let st := s.tamidState i
  let direct := !s.flag (tamidBase i) TM_STATUS_RX_METHOD
  let rested := match t.abortedAt with
    | some a => decide (a + 781250 ≤ s.tick)
    | none => true
  let idle := rested && s.taskUp 14 (sliceTask i item) && t.slice.isNone && t.air.isNone && t.host.isNone && t.own.isEmpty && t.target.isNone && t.rx.isNone
  idle &&
    (if item = 0 then
      (st == 2 || st == 3 || st == 5) && s.carrierCached (tamidHalf i) carrier &&
        allLines.all fun k => tamidHalf k != tamidHalf i || s.flag (tamidBase k) TM_STATUS_RX_METHOD ||
          (s.tamid[k].rx.isNone && s.tamid[k].air.isNone)
    else if item = 1 then (st == 3 || st == 5) && direct
    else st == 4 || st == 5)

/-- A background calibration slice (R422): one that cannot reach the accuracy of the LO marks the entry
invalid. -/
def execTamidCalSlice (i : Fin 8) (ev : TamidSlice) (s : State) : Result State Fault Refusal :=
  match ev, s.tamid[i].slice with
  | .start item carrier corr, _ =>
    let thr : Rat := (max 4 (s.fld (tamidBase i) TM_CTRL_DET_THR) : Nat)
    if s.sliceMay i item.val carrier.val ∧ ¬ thr / 32 < corr then
      done ((s.setFlag (tamidBase i) TM_STATUS_CAL_RUNNING true).modTamid i fun t =>
        { t with slice := some (item.val, carrier.val), abortedAt := none })
    else unchanged s
  | .done, some (item, carrier) =>
    let s := s.endSlice i
    if item = 0 then done (s.storeCarrier (tamidHalf i) carrier) else done s
  | .failed, some (item, carrier) =>
    let s := s.endSlice i
    if item = 0 then done ((s.dropCarrier (tamidHalf i) carrier).raise (tamidSrc i 0x04) carrier) else done s
  | _, none => unchanged s

/-- A cache entry becomes invalid (R421). -/
def execTamidCacheExpiry (half : Fin 2) (carrier : Fin 16) (s : State) : Result State Fault Refusal :=
  done (s.dropCarrier half.val carrier.val)

/-! ### Receive queue -/

/-- TAMID_RECEIVE: the oldest packet is removed (Table 11-14, R431). -/
def State.tamidTake (s : State) (i : Fin 8) : List Byte × State :=
  match s.tamid[i].queue with
  | [] => ([0, 0, 0, 0, 0, 0], s)
  | p :: rest =>
    let flags := p.flags + (if s.tamid[i].overflow then 4 else 0)
    let s := s.modTamid i fun t => { t with queue := rest, overflow := false }
    ([BitVec.ofNat 8 p.payload.length, BitVec.ofNat 8 flags] ++ leBytes 4 p.time ++ p.payload,
     s.setFld (tamidBase i) TM_STATUS_QUEUED rest.length)

/-- TM_STATUS as it reads: CACHED is that of the carrier in force (R421). -/
def State.tamidStatusWord (s : State) (i : Fin 8) : Word :=
  let b := tamidBase i
  let f := TM_STATUS_CACHED
  wordSetField (s.reg (b + f.off)) f.lo f.width
    (if s.carrierCached (tamidHalf i) (s.fld b TM_STATUS_CARRIER) then 1 else 0)

end Sys2Proof.Machine
end

