-- ==== Sys2Proof/Machine/Power.lean ====
section
/-! DEFINITION. Entry of the power domains into retention, the device states, and the AO regulator (chapter
14).  What a domain does when it is ready again stands in PowerWake. -/

namespace Sys2Proof.Machine

open Reg

/-! ### What a domain stops -/

/-- The lane of an index of Table 14-1. -/
def domLine (d : Nat) : Fin 8 := Fin.ofNat 8 ((d - 8) / 2)
def domHost (d : Nat) : Fin 16 := Fin.ofNat 16 ((d - 24) / 2)

def isLineDom (d : Nat) : Bool := decide (8 ≤ d ∧ d < 24)
def isHostDom (d : Nat) : Bool := decide (24 ≤ d ∧ d < 56)

/-- E1 starts: an enabled transmitter falls, with its enable bit left at 1 (R353). -/
def State.quiesce (s : State) (d : Nat) : State :=
  if isLineDom d && d % 2 == 1 then
    let n := domLine d
    if s.txState n = 0 then s
    else (s.modTx n fun t => { t with takenDown := true }).txFall n
  else if isHostDom d && d % 2 == 1 then
    let m := domHost d
    if s.htState m = 0 then s
    else (s.modHost m fun h => { h with takenDown := true }).htFall m
  else s

/-- E1 ends: the transmitter of the domain is OFF. -/
def State.quiesced (s : State) (d : Nat) : State :=
  if isLineDom d && d % 2 == 1 then s.txDrop (domLine d)
  else if isHostDom d && d % 2 == 1 then
    let m := domHost d
    (s.setHtState m 0).modHost m fun h => { h with falling := false }
  else s

/-- A line receiver stops with its domain: IDLE, its chain stopped, nothing raised (R101, R383). -/
def State.lineRxOff (s : State) (n : Fin 8) : State :=
  let s := ((s.loseLock n).adcStop n).setAcqState n 0
  let s := (s.setFlag (lineBase n) EQ_STATUS_LOS false).quiet (lineSrc n 0x40)
  let s := s.modRx n fun r =>
    { r with startDue := false, clocksStopped := false, signal := false, relockStep := 0 }
  (s.chainOff (n.castLE (by decide))).refreshFill n

/-- The chain of a host lane (R380). -/
def hostChain (m : Fin 16) : Fin 24 := Fin.ofNat 24 (8 + m.val)

/-- What runs in a domain stops when its clock stops (R353 E4): past the last abort point. -/
def State.domainStops (s : State) (d : Nat) : State :=
  if isLineDom d && d % 2 == 0 then (s.lineRxOff (domLine d)).refreshPantryVote
  else if isHostDom d && d % 2 == 0 then
    let m := domHost d
    (s.hostRxStop m).chainOff (hostChain m)
  else if d = domHk then
    { s with hk := { s.hk with round := none, prevOver := none } }.setFlag hkBase HK_STATUS_ROUND_BUSY false
  else s

/-! ### Synthesisers that stop by themselves -/

/-- The LINE and HOST domains that a synthesiser serves. -/
def synDomains (k : Fin 4) : List Nat :=
  ((synLines k).flatMap fun n => [domLineRx n, domLineTx n]) ++
    ((synHosts k).flatMap fun m => [domHostRx m, domHostTx m])

/-- A synthesiser stops while every domain it serves is off (R349). -/
def State.idleSyn (s : State) : State :=
  s.each (List.finRange 4) fun k s =>
    if s.synLocked k.val && (synDomains k).all fun d => s.fld powerBase (DOM_STATE.ix d) == 3 then
      s.setFlag clockBase (synBit k) false
    else s

/-- It has restarted when the first of them is ready. -/
def State.wakeSyn (s : State) (d : Nat) : State :=
  s.each (List.finRange 4) fun k s =>
    if (synDomains k).contains d && !s.synLocked k.val && s.clock.synLoss[k].isNone &&
        s.flag clockBase CLK_STATUS_CORE_LOCK then s.synStart k
    else s

/-! ### REST and ACTIVE -/

/-- Indices that can be voted. -/
def allDomains : List Nat := (List.range 72).filter domVotable

/-- The override of REST_MASK is done: every masked domain that no MGMT, THERMAL or ACCESS vote holds on is
RETAINED (R359). -/
def State.restDone (s : State) : Bool :=
  allDomains.all fun d => !s.restMasked d || (s.votes d &&& 0x32) != 0 ||
    s.fld powerBase (DOM_STATE.ix d) == 3

/-- Every domain that holds a vote is ready. -/
def State.votedReady (s : State) : Bool := allDomains.all fun d => s.heldVotes d == 0 || s.domOn d

/-- Placed with the completion of a POWER_STATE. -/
def State.settled (s : State) : State := s.setFlag powerBase PWR_STATE_IN_TRANSITION false

/-- REST is entered (R359): masked domains whose votes are all overridden enter at once. -/
def State.enterRest (s : State) : State :=
  let s := s.bistCut
  let s := (s.setFld powerBase PWR_STATE_STATE 2).setFlag powerBase PWR_STATE_IN_TRANSITION true
  let s := s.each allDomains fun d s =>
    if s.restMasked d && s.heldVotes d == 0 && s.domOn d then s.startEntry d else s
  if s.restDone then (s.settled).complete 0x0501 2 stOk [] else s

/-- DOZE is entered: its command completes and the clocks stop (R358). -/
def State.enterDoze (s : State) : State :=
  let s := (s.complete 0x0501 1 stOk []).setFld powerBase PWR_STATE_STATE 1
  let s := { s with power := { s.power with dozeSince := s.tick } }
  let s := s.each allLines fun n s => s.lineClocksStop n
  s.each allHosts fun m s => s.hostClocksStop m

/-- A control-DAC channel ramps to 0 V at its slew limit (R360). -/
def State.cdRampDown (s : State) (c : Fin 32) : State :=
  ((s.setCdQueue c []).setFlag (cdBase c) CD_CFG_EN false).setFld (cdBase c) CD_CODES_TARGET 0

/-- Bit n of LINE_RX_SLEEP acts, outside a loop-back (R351, R460). -/
def State.lineRxAsleep (s : State) (n : Fin 8) : Bool :=
  wordField (s.reg (powerBase + LINE_RX_SLEEP_SLEEP.off)) n.val 1 == 1 && s.lineLoop n == 0

/-- The lane manager's votes for the receive direction and its room (Table 14-2). -/
def State.lineRxVotes (s : State) (n : Fin 8) : State :=
  let on := !s.lineRxAsleep n
  (s.putVote (domRoom n.val) (voteLine n) on).putVote (domLineRx n) (voteLine n) on

/-- The votes of the transmit direction outside a loop-back: for TX_EN = 1, and until the output is OFF. -/
def State.txVotes (s : State) (n : Fin 8) : State :=
  s.txVote n (s.flag (lineBase n) TX_CTRL_TX_EN || s.txState n != 0)

/-- Every loop-back ends at once (R460). -/
def State.loopsEnd (s : State) : State :=
  let s := s.each (allLines.filter fun n => s.lineLoop n != 0) fun n s =>
    ((s.setFld testBase (LB_LINE_CODE n.val) 0).lineRxVotes n).txVotes n
  let s := s.each (allHosts.filter fun m => s.hostLoop m != 0) fun m s =>
    (s.setFld (hostBase m) HT_STATUS_LOOPBACK 0).hostVotes m
  s.each allLines fun i s => s.setFld testBase (LB_TAMID_CODE i.val) 0

/-- DEEP entry, step 1 of Table 14-7, with the start of step 2; the loop-backs end (R460). -/
def State.enterDeep (s : State) : State :=
  let s := s.bistCut
  let s := (s.setFld powerBase PWR_STATE_STATE 3).setFlag powerBase PWR_STATE_IN_TRANSITION true
  let s := { s with power := { s.power with deepStep := 2, deepExit := false, deepReport := none, deepMicros := 0 } }
  let s := s.loopsEnd
  let s := s.each allLines fun i s => s.tamidStop i
  let s := s.each allLines fun n s => s.txFall n
  let s := s.each allHosts fun m s => s.htFall m
  s.each allCdacs fun c s => s.cdRampDown c

/-- The device state that was asked for is entered from ACTIVE. -/
def State.enterPower (s : State) (st : Nat) : State :=
  if st = 1 then s.enterDoze else if st = 2 then s.enterRest else if st = 3 then s.enterDeep
  else (s.settled).complete 0x0501 0 stOk []

/-- A return to ACTIVE is over once every voted domain is ready; a state asked for beyond it is entered
then (R357, R359). -/
def State.powerSettle (s : State) : State :=
  if s.fld powerBase PWR_STATE_STATE = 0 ∧ s.votedReady then
    match s.power.next with
    | some st => { s with power := { s.power with next := none } }.enterPower st
    | none => s
  else if s.fld powerBase PWR_STATE_STATE = 2 ∧ s.flag powerBase PWR_STATE_IN_TRANSITION ∧ s.restDone then
    (s.settled).complete 0x0501 2 stOk []
  else s

/-- REST ends: the override is lifted at once, and domains that hold votes wake (R359). -/
def State.leaveRest (s : State) (next : Nat) : State :=
  let s := (s.complete 0x0501 2 stOk []).setFld powerBase PWR_STATE_STATE 0
  let s := s.setFlag powerBase PWR_STATE_IN_TRANSITION true
  let s := { s with power := { s.power with next := some next } }
  let s := s.each allDomains fun d s => if s.votes d != 0 && !s.domOn d then s.wakeRequest d else s
  s.powerSettle

/-- A transmitter drives traffic or training: DOZE is answered BAD_PARAM (R358). -/
def State.dozeBarred (s : State) : Bool :=
  allLines.any (fun n => s.txState n == 4 || s.txState n == 5) ||
    allHosts.any fun m => s.htState m == 2 || s.htState m == 3

/-- POWER_STATE (R357 to R360). -/
def State.powerState (s : State) (o : Origin) (st : Nat) : State :=
  let cur := s.fld powerBase PWR_STATE_STATE
  if 3 < st ∨ (st = 1 ∧ s.dozeBarred) then s.reply o stBadParam []
  else
    let s := s.accept o 0x0501 st
    if st = cur ∧ s.power.next = none then s.complete 0x0501 st stOk []
    else if cur = 2 then s.leaveRest st
    else s.enterPower st

/-! ### Linger, entry and wake -/

/-- The linger of a domain expires with no vote (R352). -/
def execLingerExpiry (d : Fin 72) (s : State) : Result State Fault Refusal :=
  if (s.power.lingering.any fun e => e.1 == d.val && decide (e.2 ≤ s.tick)) ∧ s.heldVotes d.val = 0 ∧ s.domOn d.val then
    done (s.startEntry d.val)
  else unchanged s

/-- The wake mark of a domain in entry is taken off. -/
def State.unmarkWake (s : State) (d : Nat) : State :=
  { s with power := { s.power with wakeAfter := s.power.wakeAfter.filter (· != d) } }

/-- A domain is RETAINED, or turns to its exit sequence if a wake request has come (R353, R355). -/
def State.retained (s : State) (d : Nat) : State :=
  if s.power.wakeAfter.contains d then (s.unmarkWake d).startWake d 1
  else ((s.setDom d 3 0).idleSyn).powerSettle

/-- DEEP holds every domain, whatever its votes (R360). -/
def State.inDeep (s : State) : Bool := s.fld powerBase PWR_STATE_STATE == 3

/-- The step in progress of an entry completes (R353, R355). -/
def State.entryStep (s : State) (d : Nat) : State :=
  let k := s.fld powerBase (DOM_STEP.ix d)
  let wake := s.power.wakeAfter.contains d
  if k = 0 then
    if (s.heldVotes d ≠ 0 ∧ ¬ s.inDeep) ∨ wake then ((s.unmarkWake d).setDom d 1 0).countAbandoned d
    else (s.setDom d 2 1).quiesce d
  else if k ≤ 3 then
    let s := if k = 1 then s.quiesced d else s
    if wake then
      let s := s.unmarkWake d
      { s with power := { s.power with undoing := s.power.undoing ++ [d] } }
    else if k = 3 then ((s.setDom d 2 4).isolateSources d).domainStops d
    else s.setDom d 2 (k + 1)
  else if k = 4 then if wake then (s.unmarkWake d).startWake d 2 else s.setDom d 2 5
  else s.retained d

def execDomainEntryStep (d : Fin 72) (s : State) : Result State Fault Refusal :=
  if s.fld powerBase (DOM_STATE.ix d.val) = 2 ∧ ¬ s.power.undoing.contains d.val then done (s.entryStep d.val)
  else unchanged s

/-- A Hallway access reaches a domain that is not on: the ACCESS vote is set and the domain wakes (R354). -/
def execDomainWakeRequest (d : Fin 72) (s : State) : Result State Fault Refusal :=
  if s.domOn d.val then unchanged s else done (s.setVote d.val voteAccess)

/-- DOZE ends (R358). -/
def execDozeExit (s : State) : Result State Fault Refusal := done s.dozeExit

/-! ### DEEP -/

/-- The Max column of Table 14-8: temperature in °C and current in mA. -/
def retentionTable : List (Rat × Rat) :=
  [(-5, 46 / 10), (25, 76 / 10), (45, 121 / 10), (55, 156 / 10), (65, 201 / 10), (75, 261 / 10),
   (85, 336 / 10), (95, 434 / 10), (105, 556 / 10), (110, 631 / 10)]

/-- Linear interpolation of a table, extrapolated beyond its last two rows; below the first row its value. -/
def interpolate : List (Rat × Rat) → Rat → Rat
  | (a, x) :: (b, y) :: rest, t =>
    if t ≤ a then x
    else if t ≤ b ∨ rest = [] then x + (y - x) * (t - a) / (b - a)
    else interpolate ((b, y) :: rest) t
  | [(_, x)], _ => x
  | [], _ => 0

/-- CODE of a housekeeping result word. -/
def State.hkResult (s : State) (c : Nat) : Nat := s.fld hkBase (HK_RES_RESULT.ix c) / 0x10000

/-- The hottest sensor reading of the last housekeeping round (R361). -/
def State.hottestCode (s : State) : Nat := (List.range 9).foldl (fun m k => max m (s.hkResult (16 + k))) 0

/-- I_EST in units of 0.1 mA, to the nearest. -/
def iEstField (i : Rat) : Nat := satNat 16 (roundAway (10 * i)).toNat

/-- The regulator decision at step 3 of Table 14-7 (R361). -/
def State.deepDecide (s : State) : State :=
  let hot := codeCelsius s.hottestCode
  let i := interpolate retentionTable (hot + 5)
  let off := satInt 7 (quantise (2 * (hot - codeCelsius (s.hkResult 24))))
  let lp := decide (i ≤ 36) && s.flag powerBase DEEP_CTRL_LP_ALLOW
  let s := s.setFld powerBase AO_STATUS_I_EST (iEstField i)
  let s := (s.setFld powerBase AO_STATUS_OFFSET (intBits 7 off)).setFlag powerBase AO_STATUS_REG_LP lp
  { s with power := { s.power with deepReport := if lp then none else some (0x5002, iEstField i) } }

/-- Every domain except AO enters in parallel (Table 14-7 step 4). -/
def State.deepEntries (s : State) : State :=
  s.each allDomains fun d s => if s.domOn d then s.startEntry d else s

/-- Every domain is RETAINED. -/
def State.deepRetain (s : State) : State :=
  s.each allDomains fun d s =>
    if s.fld powerBase (DOM_STATE.ix d) = 3 then s
    else
      let stops := decide (s.fld powerBase (DOM_STATE.ix d) ≠ 2) || decide (s.fld powerBase (DOM_STEP.ix d) ≤ 3)
      let s := s.quiesced d
      ((s.when stops fun s => s.domainStops d).setDom d 3 0).isolateSources d

/-- A step of DEEP entry completes (Table 14-7). -/
def execDeepEntryStep (s : State) : Result State Fault Refusal :=
  let k := s.power.deepStep
  let next := fun (s : State) (k : Nat) => { s with power := { s.power with deepStep := k } }
  if s.power.deepExit then unchanged s
  else if k = 2 then
    let s := s.each allLines fun n s => s.txDrop n
    let s := s.each allHosts fun m s => (s.setHtState m 0).modHost m fun h => { h with falling := false }
    done (next (s.each allCdacs fun c s => s.cdClamp c) 3)
  else if k = 3 then done (next (s.deepDecide.deepEntries) 4)
  else if k = 4 then done (next s.deepRetain 5)
  else if k = 5 then
    let s := { s with clock := { s.clock with running := false } }
    done (next s.settled 0)
  else unchanged s

/-- DEEP exit starts, or the entry is abandoned (R360, R355). -/
def State.deepTrigger (s : State) : State :=
  if ¬ s.inDeep ∨ s.power.deepExit then s
  else
    let abandoned := decide (s.power.deepStep ≠ 0)
    let s := { s with power := { s.power with deepExit := true } }.setFlag powerBase PWR_STATE_IN_TRANSITION true
    s.each allDomains fun d s =>
      if abandoned || s.votes d != 0 || d == 1 then
        if s.domOn d then s else s.wakeRequest d
      else s

/-- The wake timer has reached zero: WAKE_TIMER is set, and its seconds have passed on the AO count since DEEP was in force
(R360; DEDUCED, log 153). -/
def State.wakeDue (s : State) : Bool :=
  let t := s.fld powerBase DEEP_CTRL_WAKE_TIMER
  t != 0 && decide (1000000 * t ≤ s.power.deepMicros)

/-- The wake timer reaches zero (R360). -/
def execDeepWakeTimer (s : State) : Result State Fault Refusal :=
  if s.inDeep ∧ s.wakeDue then done s.deepTrigger else unchanged s

/-! ### LINE_RX_SLEEP -/

/-- LINE_RX_SLEEP is written (R351). -/
def State.lineRxSleep (s : State) (mask : Nat) : State :=
  let s := s.setFld powerBase LINE_RX_SLEEP_SLEEP mask
  s.each allLines fun n s => s.lineRxVotes n

def execLineRxSleepWrite (mask : Byte) (s : State) : Result State Fault Refusal :=
  done (s.lineRxSleep mask.toNat)

end Sys2Proof.Machine
end

