-- ==== Sys2Proof/Machine/Loopback.lean ====
section
/-! DEFINITION. The loop-backs of the line lanes, the host lanes and the Tamid instances (R203, R460 to
R462). -/

namespace Sys2Proof.Machine

open Reg

/-! ### Line -/

/-- A line loop-back is entered: the votes of its path are held, and a receiver that the loop feeds
acquires. -/
def State.lineLoopEnter (s : State) (n : Fin 8) (code : Nat) : State :=
  let s := ((s.setFld testBase (LB_LINE_CODE n.val) code).lineRxVotes n).txVotes n
  if code ≤ 2 ∧ s.domOn (domLineRx n) then s.acqStart n else s

/-- A line loop-back is left: LINE_RX_SLEEP acts again, and a receiver whose input the loop changed acquires
from step 1. -/
def State.lineLoopLeave (s : State) (n : Fin 8) : State :=
  let code := s.lineLoop n
  let s := s.setFld testBase (LB_LINE_CODE n.val) 0
  let s := s.when (decide (code ≤ 2) && s.domOn (domLineRx n)) fun s => s.acqStart n
  ((s.unsettleAll n).lineRxVotes n).txVotes n

/-- The lane can take a loop-back: no mapped host lane is looped, and TX_EN = 1 for L-PAD and L-PAR. -/
def State.lineLoopFits (s : State) (n : Fin 8) (code : Nat) : Bool :=
  (s.hostsOf n).all (fun m => s.hostLoop m == 0) &&
    (decide (2 < code) || s.flag (lineBase n) TX_CTRL_TX_EN)

/-! ### Host -/

def State.hostLoopEnter (s : State) (m : Fin 16) (code : Nat) : State :=
  let s := (s.setFld (hostBase m) HT_STATUS_LOOPBACK code).hostVotes m
  if code ≤ 2 then s.hostAcqStart m else s

/-- A host loop-back is left; the sleep bits act again. -/
def State.hostLoopLeave (s : State) (m : Fin 16) : State :=
  let code := s.hostLoop m
  let b := hostBase m
  let s := s.setFld b HT_STATUS_LOOPBACK 0
  let s := if code ≤ 2 then s.hostAcqStart m else s
  let s := s.unsettleHost m
  let s := match s.lineOf m with
    | some n => s.unsettle n 0
    | none => s
  let s := if s.flag b HT_CTRL_HT_SLEEP then s.htFall m else s
  let s := if s.flag b HR_CTRL_HR_SLEEP then s.hostRxStop m else s
  s.hostVotes m

def State.hostLoopFits (s : State) (m : Fin 16) (code : Nat) : Bool :=
  (s.lineOf m).all (fun n => s.lineLoop n == 0) &&
    (decide (2 < code) || (s.flag (hostBase m) HT_CTRL_HT_EN && s.flag (hostBase m) HR_CTRL_HR_EN))

/-! ### LOOPBACK -/

/-- What a request asks of a unit: nothing to do, refused, or a change (R460). -/
inductive LoopAnswer where
  | same
  | bad
  | change
  deriving DecidableEq, Repr

/-- A request that names the code in force changes nothing; another non-zero code is refused while one is in
force. -/
def loopAnswer (now code : Nat) (fits : Bool) : LoopAnswer :=
  if now = code then .same
  else if code = 0 then .change
  else if now ≠ 0 ∨ ¬ fits then .bad
  else .change

/-- The codes of a kind: 0 line, 1 host, 2 Tamid. -/
def loopCodes (kind : Nat) : Nat := if kind = 0 then 4 else if kind = 1 then 3 else 2

/-- Units of a kind. -/
def loopUnits (kind : Nat) : Nat := if kind = 1 then 16 else 8

def State.loopJudge (s : State) (kind unit code : Nat) : LoopAnswer :=
  if 2 < kind ∨ loopUnits kind ≤ unit ∨ loopCodes kind < code then .bad
  else if kind = 0 then
    let n := Fin.ofNat 8 unit
    loopAnswer (s.lineLoop n) code (s.lineLoopFits n code)
  else if kind = 1 then
    let m := Fin.ofNat 16 unit
    if s.hostUsed m then loopAnswer (s.hostLoop m) code (s.hostLoopFits m code) else .bad
  else
    let i := Fin.ofNat 8 unit
    let sampling := s.flag (tamidBase i) TM_STATUS_RX_METHOD
    loopAnswer (s.tamidLoop i) code (s.tamidState i == 5 && !(code == 2 && sampling))

def State.loopChange (s : State) (kind unit code : Nat) : State :=
  if kind = 0 then
    let n := Fin.ofNat 8 unit
    if code = 0 then s.lineLoopLeave n else s.lineLoopEnter n code
  else if kind = 1 then
    let m := Fin.ofNat 16 unit
    if code = 0 then s.hostLoopLeave m else s.hostLoopEnter m code
  else s.setFld testBase (LB_TAMID_CODE (unit % 8)) code

/-- SET_PROFILE or SET_LANE_MODE runs (R280). -/
def State.laneBusy (s : State) : Bool := s.isRunning 0x0003 || s.isRunning 0x0004

/-- LOOPBACK (R460, R280). -/
def State.loopback (s : State) (o : Origin) (kind unit code : Nat) : State :=
  match s.loopJudge kind unit code with
  | .bad => s.reply o stBadParam []
  | .same => if s.laneBusy then s.reply o stBusy [] else s.reply o stOk []
  | .change =>
    if s.laneBusy then s.reply o stBusy [] else (s.loopChange kind unit code).reply o stOk []

end Sys2Proof.Machine
end

