-- ==== Sys2Proof/Machine/Loss.lean ====
section
/-! DEFINITION. What a domain's functions lose: a register group that takes its reset values (R356), and a
domain that is switched off without retention (R398, R400). -/

namespace Sys2Proof.Machine

open Reg

/-- The addresses of a range that hold a value other than their reset value. -/
def State.listed (s : State) (lo hi : Nat) : List Nat :=
  (s.regs.map (·.1)).filter fun a => decide (lo ≤ a) && decide (a ≤ hi)

/-- A register whose host-written fields stay and whose status fields report a restarted function (R356,
R492). -/
def statusReset (a : Nat) (w : Word) : Word :=
  if isShape a then w
  else match regRow? a with
  | some r =>
    let m := BitVec.ofNat 32 r.rw
    (w &&& m) ||| (BitVec.ofNat 32 r.reset &&& ~~~m)
  | none => 0

/-- The status fields of a range of registers take their reset values. -/
def State.resetStatus (s : State) (lo hi : Nat) : State :=
  s.each (s.listed lo hi) fun a s => s.setReg a (statusReset a (s.reg a))

/-- A window in the domain itself takes its reset values whole (Table 14-10). -/
def State.resetWindow (s : State) (lo hi : Nat) : State :=
  s.each (s.listed lo hi) fun a s => s.setReg a (regReset a)

/-- The receive functions of a line lane start as after reset; CHASE_L reads the L in force (Table 5-4). -/
def State.lineRxReset (s : State) (n : Fin 8) : State :=
  let b := lineBase n
  let s := s.modLine n fun l => { l with adc := AdcState.init, rx := LineRx.init }
  let s := s.each [(0x104, 0x1FF), (0x304, 0x314), (0x31C, 0x31F), (0x604, 0x637), (0x884, 0x89F)] fun e s =>
    s.resetStatus (b + e.1) (b + e.2)
  (s.setFld b FEC_STATUS_CHASE_L (chaseL (s.laneProfile n))).resetWindow (b + 0x400) (b + 0x5FF)

def State.lineTxReset (s : State) (n : Fin 8) : State :=
  let b := lineBase n
  let s := s.modTx n fun t => { LineTx.init with starts := t.starts, takenDown := t.takenDown }
  s.each [(0x804, 0x807), (0x80C, 0x82F), (0x840, 0x863)] fun e s => s.resetStatus (b + e.1) (b + e.2)

def State.hostRxReset (s : State) (m : Fin 16) : State :=
  let b := hostBase m
  let s := s.modHost m fun h =>
    { HostLane.init with falling := h.falling, takenDown := h.takenDown, lr := h.lr, termHr := h.termHr,
                         termLr := h.termLr, outLr := h.outLr, precoderP := h.precoderP, trained := h.trained }
  s.each [(0x204, 0x20F), (0x300, 0x363), (0x404, 0x407), (0x50C, 0x527), (0x604, 0x67F)] fun e s =>
    s.resetStatus (b + e.1) (b + e.2)

/-- The transmit functions of a host lane start as after reset; CW_LOCK of its LR monitor goes on following IN_FRAME
(R124). -/
def State.hostTxReset (s : State) (m : Fin 16) : State :=
  let b := hostBase m
  let s := s.modHost m fun h => { h with lr := Kp4Counters.init, precoderP := 0, trained := false, falling := false }
  let s := s.each [(0x104, 0x107), (0x110, 0x123), (0x704, 0x7FF)] fun e s => s.resetStatus (b + e.1) (b + e.2)
  match s.lineOf m with
  | some n => s.setFlag b LR_KP4_STATUS_CW_LOCK (s.flag (lineBase n) FEC_STATUS_IN_FRAME)
  | none => s

/-- A chain loses its state and its coefficients. -/
def State.chainReset (s : State) (j : Fin 24) : State :=
  let b := chainBase j.val
  let s := s.modChain j fun c => { ChainState.init with again := c.again }
  (s.resetStatus b (b + 0x1FF)).resetWindow (b + 0x200) (b + 0x5FF)

def State.tamidReset (s : State) (i : Fin 8) : State :=
  let s := s.modTamid i fun t => { TamidInst.init with commands := t.commands, messages := t.messages }
  s.resetStatus (tamidBase i) (tamidBase i + 0xFFF)

/-- The engines of a room are reset (R233), and its guest engines are EMPTY (Table 10-13). -/
def State.roomReset (s : State) (r : Nat) : State :=
  { s with rooms := { s.rooms with
      guests := if r = 15 then Vector.replicate 62 Guest.empty else s.rooms.guests,
      engines := s.rooms.engines.filter fun e => e.1 / 64 != r,
      taken := s.rooms.taken.filter fun e => e.1 / 64 != r } }

/-- The functions of a domain start as after reset (R356). -/
def State.functionReset (s : State) (d : Nat) : State :=
  if isLineDom d then
    let n := domLine d
    if d % 2 = 0 then (s.lineRxReset n).chainReset (n.castLE (by decide)) else s.lineTxReset n
  else if isHostDom d then
    let m := domHost d
    if d % 2 = 0 then (s.hostRxReset m).chainReset (hostChain m) else s.hostTxReset m
  else if d = 2 then
    let s := s.each allLines fun n s => s.modPantry n fun l => { PantryLane.init with table := l.table, proposal := l.proposal }
    { s with pantry := { s.pantry with clearing := none } }.resetStatus pantryBase (pantryBase + 0xFFFF)
  else if d = domHk then
    { s with hk := { HkState.init with rounds := s.hk.rounds } }.resetStatus hkBase (hkBase + 0xFFFF)
  else if d = 4 then s.each allLines fun i s => s.tamidReset i
  else if 56 ≤ d ∧ d < 72 then s.roomReset (d - 56)
  else s

/-- The register windows and the banks of a domain that loses its supply (Table 14-10, R400). -/
def State.bankWindows (s : State) (d : Nat) : State :=
  if isLineDom d then
    let b := lineBase (domLine d)
    if d % 2 = 0 then s.resetWindow (b + 0x1000) (b + 0x2FFF) else s.resetWindow (b + 0x3000) (b + 0x4FFF)
  else s

/-- A domain is switched off without retention and without the entry sequence (Table 16-4 step 3). -/
def State.domainCut (s : State) (d : Nat) : State :=
  ((((s.quiesced d).domainStops d).functionReset d).bankWindows d).setDom d 3 0 |>.isolateSources d

end Sys2Proof.Machine
end

