-- ==== Sys2Proof/Machine/DeepTest.lean ====
section
/-! DEFINITION. The deep test engine (R453 to R455). -/

namespace Sys2Proof.Machine

open Reg

/-- The argument bytes of a deep test and the values they may take (Table 19-4). -/
def deepArgsFit (test : Nat) (args : List Byte) : Bool :=
  let a := leNat args
  if test = 1 then args.length == 1 && decide (2 ≤ a) && domVotable a
  else if test = 2 then args.length == 2 && (decide (8 ≤ a ∧ a ≤ 23) || decide (65 ≤ a ∧ a ≤ 258))
  else if test = 3 ∨ test = 4 then args.length == 1 && decide (a < 8)
  else if test = 5 then args.length == 1 && decide (a < 4)
  else if test = 6 ∨ test = 7 then args.isEmpty
  else false

/-- A unit is taken out of service (R454): its receiver stops and carries fill, its transmitter is HELD or
IDLE. -/
def State.deepHold (s : State) (d : Nat) : State :=
  let s := s.setVote d voteBist
  if isLineDom d && d % 2 == 1 then
    let n := domLine d
    if 4 ≤ s.txState n then s.txHold n else s
  else if isHostDom d && d % 2 == 1 then
    let m := domHost d
    if 2 ≤ s.htState m then (s.trainAbandon m).setHtState m 1 else s
  else if d = 4 then s.each allLines fun i s => s.tamidStop i
  else s.domainStops d

/-- A deep test starts (R454). -/
def State.deepStart (s : State) (test : Nat) (args : List Byte) : State :=
  let x : DeepRun := { test := test, args := args, since := s.tick }
  let s := { s with test := { s.test with deep := some x } }
  s.each s.deepDomains fun d s => s.deepHold d

/-- DEEP_TEST (R454). -/
def State.deepTest (s : State) (o : Origin) (test : Nat) (args : List Byte) : State :=
  if ¬ deepArgsFit test args then s.reply o stBadParam []
  else if s.test.deep.isSome then s.reply o stBusy []
  else (s.deepStart test args).accept o 0x0A02 0

/-- A lane that was held starts (R455). -/
def State.deepRelease (s : State) (d : Nat) : State :=
  let s := s.clearVote d voteBist
  if ¬ s.power.voting ∨ ¬ s.domOn d then s
  else if isLineDom d then
    let n := domLine d
    if d % 2 = 0 then (s.acqStart n).chainReady (n.castLE (by decide))
    else if s.txState n = 3 ∧ s.fld (lineBase n) TX_STATUS_SQ_CAUSE = 0 then s.txRamp n
    else s.txStart n
  else if isHostDom d then
    let m := domHost d
    if d % 2 = 0 then (s.hostAcqStart m).chainReady (hostChain m) else s.htStart m
  else s

/-- Banks of a domain. -/
def State.domainBanks (s : State) (d : Nat) : List Nat :=
  (List.range 259).filter fun b => decide (65 ≤ b) && s.bankDomain b == d

/-- A bank is initialised as by INIT (R320). -/
def State.bankZero (s : State) (b : Nat) : State :=
  let s := (s.wipeBank b).setRetLost b false
  let d := s.bankDomain b
  let lo := lineBase (domLine d)
  if 243 ≤ b ∧ b ≤ 250 then s.resetWindow (lo + 0x1000) (lo + 0x2FFF)
  else if 251 ≤ b then s.resetWindow (lo + 0x3000) (lo + 0x4FFF)
  else if 194 ≤ b ∧ d = 71 then
    { s with rooms := { s.rooms with guests := Vector.replicate 62 Guest.empty } }
  else s

/-- What a test leaves: a tested domain is re-initialised, and a marched bank is initialised (R455). -/
def State.deepInit (s : State) (x : DeepRun) : State :=
  let a := leNat (x.args.take 2)
  if x.test = 1 then
    let s := (s.functionReset a).bankWindows a
    s.each (s.domainBanks a) fun b s => s.bankZero b
  else if x.test = 2 then s.bankZero a
  else s

/-- The completion of a deep test (R455): B0 to B11, then the results. -/
def deepReply (result coverage duration signature : Nat) (results : List Byte) : List Byte :=
  leBytes 1 result ++ [0] ++ leBytes 2 coverage ++ leBytes 4 duration ++ leBytes 4 signature ++ results

/-- Microseconds between two ticks: 781.25 each. -/
def micros (ticks : Nat) : Nat := 4 * ticks / 3125

/-- A deep test ends: its units start and its completion is placed. -/
def State.deepEnd (s : State) (x : DeepRun) (bytes : List Byte) : State :=
  let held := s.deepDomains
  let s := { s with test := { s.test with deep := none } }
  let s := s.deepInit x
  let s := s.each held fun d s => s.deepRelease d
  s.complete 0x0A02 0 stOk bytes

/-- A deep test that a thermal shutdown ended is completed after the restart, INCOMPLETE (Table 19-9);
coverage and signature are free values. -/
def State.deepLost (s : State) (stop : Nat) : State :=
  match s.test.deep with
  | some x =>
    let (cov, s) := s.fresh
    let (sig, s) := s.fresh
    let s := { s with test := { s.test with deep := none } }
    s.complete 0x0A02 0 stOk (deepReply 3 cov.toNat (micros (stop - x.since)) sig.toNat [])
  | none => s

/-- A deep test ends by itself with its result and figures. -/
def execDeepTestDone (pass : Bool) (coverage : BitVec 16) (signature : Word) (results : List Byte) (s : State) :
    Result State Fault Refusal :=
  match s.test.deep with
  | some x =>
    if s.clock.running then
      done (s.deepEnd x (deepReply (if pass then 1 else 2) coverage.toNat (micros (s.tick - x.since))
        signature.toNat results))
    else unchanged s
  | none => unchanged s

end Sys2Proof.Machine
end

