-- ==== Sys2Proof/Machine/Thermal.lean ====
section
/-! DEFINITION. Temperature, thermal protection and calibration (chapter 16). -/

namespace Sys2Proof.Machine

open Reg

/-! ### Life cycle and periods -/

/-- The life-cycle code of Table 11-9: the highest blown group (R448). -/
def TestState.lifeCycle (t : TestState) : Nat :=
  if 8 ≤ t.groups then 4 else if 4 ≤ t.groups then 3 else if 2 ≤ t.groups then 2 else t.groups

/-- The period of R396. -/
def State.period (s : State) : Nat :=
  let lc := s.test.lifeCycle
  if s.thermal.recovery then 1
  else if lc = 0 ∨ lc = 3 ∨ s.flag thermBase THERM_CTRL_TEST_LEVELS then 2
  else if s.thermal.startup then 3 else 0

/-- THROTTLE begins (R397): before the lanes have started every lane starts in Frugal. -/
def State.throttleBegin (s : State) : State :=
  let s := (s.setFlag thermBase THERM_STATUS_THROTTLE true).bump thermBase THERM_COUNTS_THROTTLES
  let now := match s.lanes.wanted, s.lanes.change with
    | some p, _ => p
    | none, some c => c.target
    | none, none => s.profile
  let s := { s with lanes := { s.lanes with recorded := none, beforeThrottle := some now } }
  let s := s.raiseOpen 0x6001
  if s.power.voting then s.wantProfile 2 else s.setProfileNow 2

/-- The throttle ends: the part changes to the profile recorded last, or back (R22). -/
def State.throttleEnd (s : State) : State :=
  let s := (s.setFlag thermBase THERM_STATUS_THROTTLE false).quiet 0x6001
  let p := s.lanes.recorded.orElse fun _ => s.lanes.beforeThrottle
  let s := { s with lanes := { s.lanes with recorded := none, beforeThrottle := none } }
  match p with
  | some p => if s.power.voting then s.wantProfile p else s.setProfileNow p
  | none => s

def State.warningEnd (s : State) : State :=
  (s.setFlag thermBase THERM_STATUS_WARNING false).quiet 0x6000

/-- PERIOD follows R396; entry to normal service clears WARNING and THROTTLE. -/
def State.refreshPeriod (s : State) : State :=
  let p := s.period
  let s := s.setFld thermBase THERM_STATUS_PERIOD p
  if p = 0 then
    let s := { s with thermal := { s.thermal with warnUp := 0, warnDown := 0, throttleUp := 0, throttleDown := 0 } }
    let s := if s.flag thermBase THERM_STATUS_WARNING then s.warningEnd else s
    if s.flag thermBase THERM_STATUS_THROTTLE then s.throttleEnd else s
  else s

/-- TEST_LEVELS is written (R396). -/
def State.testLevels (s : State) (on : Bool) : State :=
  (s.setFlag thermBase THERM_CTRL_TEST_LEVELS on).refreshPeriod

/-- So many seconds have passed since a tick. -/
def State.secondsSince (s : State) (t : Option Nat) (secs : Nat) : Bool :=
  match t with
  | some t => decide (t + secs * ticksPerSecond ≤ s.tick)
  | none => false

/-- A period ends: the recovery has lasted until the hottest site has stayed below 105 °C for 60 s, or the start-up period is
over 10 s after CMD_READY (R396). -/
def execThermalPeriodChange (s : State) : Result State Fault Refusal :=
  let t := s.thermal
  done { s with thermal := { t with
    recovery := t.recovery && !s.secondsSince t.coolSince 60,
    startup := t.startup && !s.secondsSince t.readyAt 10 } }.refreshPeriod

/-! ### Shutdown -/

/-- A reading in units of 0.1 °C, in a field of 12 bits (R401). -/
def tenthsCelsius (code : Nat) : Nat := satNat 12 (roundAway (10 * codeCelsius code)).toNat

/-- Step 1 of Table 16-4. -/
def State.shutLatch (s : State) (site code : Nat) : State :=
  let s := s.bistCut
  let peak := tenthsCelsius code
  let x : Shutdown :=
    { site := site, peak := peak, start := s.tick, safe := s.fuse.safe, op := 0, offset := 0,
      discarded := s.attic.queue, reset := false }
  let s := { s with thermal := { s.thermal with
    shut := some x, warnUp := 0, warnDown := 0, throttleUp := 0, throttleDown := 0, shutUp := 0 } }
  let s := s.bump thermBase THERM_COUNTS_SHUTDOWNS
  let s := (s.setFld thermBase THERM_LAST_SITE site).setFld thermBase THERM_LAST_PEAK peak
  let s := { s with attic := { s.attic with queue := [] }, boot := { s.boot with traffic := false, step := 0 } }
  ((s.setFld systemBase STATUS_DEV_STATE 1).setFlag systemBase STATUS_CMD_READY false).setFlag systemBase
    STATUS_TRAFFIC_READY false

/-- Domains that a shutdown switches off: all but AO and MGMT. -/
def cutDomains : List Nat := allDomains.filter fun d => d != 1

/-- Steps 2 and 3 of Table 16-4: outputs go to rest at once, and every domain except AO and MGMT is switched
off, PANTRY after the receivers that vote for it; guest memories are lost, and a takeover in progress is ended. -/
def State.shutCut (s : State) : State :=
  let s := s.each allCdacs fun c s => s.cdClamp c
  let s := s.loopsEnd
  let s := s.each allLines fun n s => s.txDrop n
  let s := s.each allHosts fun m s => s.setHtState m 0
  let s := s.each allLines fun i s => s.tamidStop i
  let s := s.each cutDomains.reverse fun d s => s.domainCut d
  let s := s.each ((List.range 259).filter fun b => decide (65 ≤ b)) fun b s => (s.wipeBank b).setRetLost b false
  let rooms := s.rooms.rooms.map fun (r : Room) => { r with free := r.free ++ r.pending.map Takeover.spare, pending := [] }
  { s with rooms := { s.rooms with
      engines := [], taken := [], mirnis := false, rooms := rooms, guests := Vector.replicate 62 Guest.empty } }

/-- Running sequences end where they stand, MGMT goes into retention, and the core clock stops. -/
def State.shutRetain (s : State) : State :=
  let s := { s with power := { Power.init with
    deepReport := s.power.deepReport, deepMicros := if s.inDeep then s.power.deepMicros else 0,
    stalled := s.power.stalled.filter fun e => e.2.ofCommand } }
  let s := (s.setFld powerBase PWR_STATE_STATE 0).setFlag powerBase PWR_STATE_IN_TRANSITION false
  let s := (s.setDom 1 3 0).isolateSources 1
  let s := { s with lanes := { s.lanes with change := none, wanted := none } }
  let s := { s with memory := { s.memory with retiring := none, init := none } }.setFlag memProtBase
    RETIRE_STATUS_BUSY false
  { s with clock := { s.clock with running := false } }

/-- A confirmed SHUTDOWN crossing (R398). -/
def State.shutdown (s : State) (site code : Nat) : State := ((s.shutLatch site code).shutCut).shutRetain

/-! ### Comparator bank -/

/-- A count of consecutive comparisons. -/
def consecutive (k : Nat) (yes : Bool) : Nat := if yes then min 8 (k + 1) else 0

def warnRise : Nat := 43264
def warnClear : Nat := 41984
def throttleRise : Nat := 45824
def throttleClear : Nat := 44544
def shutRise : Nat := 48384

/-- The counts of a comparison against the levels of Table 16-3; the two lower levels are judged in guarded
periods only. -/
def Thermal.compare (t : Thermal) (code : Nat) (guarded : Bool) : Thermal :=
  { t with
    warnUp := consecutive t.warnUp (guarded && decide (warnRise < code)),
    warnDown := consecutive t.warnDown (guarded && decide (code ≤ warnClear)),
    throttleUp := consecutive t.throttleUp (guarded && decide (throttleRise < code)),
    throttleDown := consecutive t.throttleDown (guarded && decide (code ≤ throttleClear)),
    shutUp := consecutive t.shutUp (decide (shutRise < code)) }

/-- WARNING follows its counts. -/
def State.warnJudge (s : State) : State :=
  if s.flag thermBase THERM_STATUS_WARNING then
    if 8 ≤ s.thermal.warnDown then s.warningEnd else s
  else if 8 ≤ s.thermal.warnUp then
    ((s.setFlag thermBase THERM_STATUS_WARNING true).bump thermBase THERM_COUNTS_WARNINGS).raiseOpen 0x6000
  else s

/-- THROTTLE follows its counts. -/
def State.throttleJudge (s : State) : State :=
  if s.flag thermBase THERM_STATUS_THROTTLE then
    if 8 ≤ s.thermal.throttleDown then s.throttleEnd else s
  else if 8 ≤ s.thermal.throttleUp then s.throttleBegin
  else s

/-- The readings of the nine sites from their elements (R392, R394): the other sites of a mismatch are read as means
(log 155). -/
def State.siteCodes (s : State) (elements : List (BitVec 16 × BitVec 16)) : List Nat :=
  let at' := fun k : Nat => elements.getD k (0, 0)
  (List.range 9).map fun k =>
    let others := ((List.range 9).filter (· != k)).map fun j => ((at' j).1.toNat + (at' j).2.toNat) / 2
    siteReading (s.mismatch k) others (at' k).1.toNat (at' k).2.toNat

/-- The hottest of the readings, the lowest-numbered of equal ones (log 62). -/
def hottestSite (codes : List Nat) : Nat :=
  (List.range 9).foldl (fun h k => if codes.getD h 0 < codes.getD k 0 then k else h) 0

/-- The tick since which the hottest site has stayed below 105 °C (R396). -/
def Thermal.cool (t : Thermal) (code now : Nat) : Thermal :=
  { t with coolSince := if code < warnRise then some (t.coolSince.getD now) else none }

/-- A comparison of the comparator bank, every 10 µs, over the elements of the nine sites: each level is judged against the
hottest site (R395, Table 16-5). -/
def execThermalCompare (elements : List (BitVec 16 × BitVec 16)) (s : State) : Result State Fault Refusal :=
  if s.thermal.shut.isSome ∨ ¬ s.domOn 1 then unchanged s
  else
    let codes := s.siteCodes elements
    let site := hottestSite codes
    let code := codes.getD site 0
    let s := { s with thermal := (s.thermal.compare code (s.period != 0)).cool code s.tick }
    if 8 ≤ s.thermal.shutUp then done (s.shutdown site code)
    else done (s.warnJudge.throttleJudge)

/-- A flash operation that was in flight at step 1 completes (R398 step 5): kind 1 a page program, 2 a sector
erase, with its flash offset and the bytes programmed. -/
def execShutdownFlashDrain (op : Fin 3) (offset : BitVec 24) (data : List Byte) (s : State) :
    Result State Fault Refusal :=
  match s.thermal.shut with
  | some x =>
    let a := offset.toNat
    let s := { s with thermal := { s.thermal with shut := some { x with op := op.val, offset := a } } }
    if op.val = 1 then done (s.setFlashBytes a (data.take 256))
    else if op.val = 2 then
      let lo := a - a % 0x1000
      done { s with flash := s.flash.filter fun e => !(decide (lo ≤ e.1) && decide (e.1 < lo + 0x1000)) }
    else done s
  | none => unchanged s

/-! ### Restart -/

/-- MGMT is back: its failing banks are RETENTION_LOST (R356, R400). -/
def State.mgmtLost (s : State) (lost : List Nat) : State :=
  s.each (lost.filter fun b => decide (b < 65)) fun b s => ((s.wipeBank b).setRetLost b true).raise 0x5010 b

/-- Device time advances by the elapsed microseconds and DT_SYNCED clears (R215). -/
def State.timeJump (s : State) : State :=
  let add := 3125 * s.power.deepMicros / 4
  let s := { s with clock := { s.clock with
    deviceTime := (s.clock.deviceTime + add) % 2 ^ 64, loads := [], running := true } }
  let s := { s with power := { s.power with deepMicros := 0 } }
  s.setFlag clockBase CLK_STATUS_DT_SYNCED false

/-- Commands taken from the inbox without INTENT are answered RETRY (R293). -/
def State.retryTaken (s : State) : State :=
  let ps := s.link.taken
  let s := { s with link := { s.link with taken := [] } }
  s.each ps fun p s => s.reply { seq := BitVec.ofNat 8 p.seq, via := p.via } stRetry []

/-- The restart trigger (R401); `lost` are the banks of MGMT that fail their signature.  A part in safe state
answers class A again; every other boot goes on from step 7 or step 2. -/
def State.thermalRestart (s : State) (x : Shutdown) (lost : List Nat) : State :=
  let secs := satNat 16 ((s.tick - x.start) / ticksPerSecond)
  let s := { s with thermal := { s.thermal with shut := none, recovery := true, coolSince := none, report := some x } }
  let s := (((s.setDom 1 1 0).releaseSources 1).timeJump).setFld thermBase THERM_LAST_DURATION secs
  let s := s.each cutDomains fun d s => s.setDom d 1 0
  let s := (s.setReg (powerBase + 4) ((s.reg (powerBase + 4) &&& 0x10) ||| 0x8)).refreshPeriod
  let s := s.raise 0x6002 (x.site * 0x1000 + x.peak)
  let s := s.mgmtLost lost
  let s := { s with attic := { s.attic with queue := x.discarded.map fun (r : AtticRecord) => s.formRecord r.type r.payload } }
  let s := s.each allLines fun n s => s.pantryClear n
  let s := s.retryTaken.deepLost x.start
  if x.safe then (s.setFld systemBase STATUS_DEV_STATE 4).cmdReady
  else
    let firmware := lost.any fun b => decide (b < 4)
    { s with boot := { s.boot with step := if firmware then 2 else 7 } }

/-- The restart trigger after a RESET_N during the shutdown (Table 16-5): the part boots from its reset once
RESET_N is high. -/
def State.restartReset (s : State) (x : Shutdown) : State :=
  let secs := satNat 16 ((s.tick - x.start) / ticksPerSecond)
  let s := { s with thermal := { s.thermal with shut := none, recovery := true, coolSince := none, report := some x } }
  let s := ((s.setFld thermBase THERM_LAST_DURATION secs).setFlag powerBase RESET_CAUSE_THERMAL true).refreshPeriod
  let s := s.raise 0x6002 (x.site * 0x1000 + x.peak)
  if s.boot.resetHigh then { s with boot := { s.boot with step := 2 } } else s

/-! ### Sensors and calibration -/

/-- Two readings of the elements of a site differ by more than 2.0 °C, or agree within 1.0 °C (R394). -/
def elementsDiffer (a b : BitVec 16) : Bool := decide (512 < ((a.toNat : Int) - b.toNat).natAbs)
def elementsAgree (a b : BitVec 16) : Bool := decide (((a.toNat : Int) - b.toNat).natAbs ≤ 256)

/-- The two elements of a site, at these readings, have differed by more than 2.0 °C for 1 ms (R394). -/
def execSensorMismatch (site : Fin 9) (a b : BitVec 16) (s : State) : Result State Fault Refusal :=
  let f := THERM_SITE_MISMATCH.ix site.val
  if s.flag thermBase f ∨ ¬ elementsDiffer a b then unchanged s
  else
    let s := (s.setFlag thermBase f true).bump thermBase THERM_COUNTS_MISMATCHES
    done (s.raiseOpen (0x6010 + site.val))

/-- The elements have agreed within 1.0 °C for 1 s (R394). -/
def execSensorMismatchClear (site : Fin 9) (a b : BitVec 16) (s : State) : Result State Fault Refusal :=
  let f := THERM_SITE_MISMATCH.ix site.val
  if s.flag thermBase f ∧ elementsAgree a b then done ((s.setFlag thermBase f false).quiet (0x6010 + site.val))
  else unchanged s

/-- The task of room 14 for the references and the monitor ADC (Table 10-2, E59). -/
def taskReferences : Nat := 59

/-- The continuous items are interpolated, at the reading of T8 and each sensor offset at its site's previous reading, and
applied at the next round start (R404); with room 14 unavailable there is no refresh (Table 1-4). -/
def execCalInterpolate (s : State) : Result State Fault Refusal :=
  if s.domOn 1 ∧ s.clock.running ∧ s.taskRuns 14 taskReferences then
    done { s with thermal := { s.thermal with
      calNext := some (Vector.ofFn fun k : Fin 9 => s.fld thermBase (THERM_SITE_TEMP.ix k.val)) } }
  else unchanged s

/-- A residual in ppm as a signed field. -/
def ppmField (r : Rat) : Nat := intBits 16 (satInt 16 (roundAway r))

/-- The reply of CAL_QUALITY (Table 16-6). -/
def State.calQuality (s : State) (kind : Nat) : List Byte :=
  if kind = 0 then
    allLines.flatMap fun (n : Fin 8) =>
      let b := lineBase n
      let eyes := [s.fld b EYE_STAT_EYE_MID, s.fld b EYE_STAT_EYE_LOWER]
      leBytes 2 (s.fld b ADC_QUAL_SPUR) ++ leBytes 2 (s.fld b TX_STATUS_TX_SPUR) ++
      leBytes 2 (s.fld b SNR_STAT_SNR) ++ leBytes 2 (eyes.foldl min (s.fld b EYE_STAT_EYE_UPPER)) ++
      leBytes 1 (s.fld b ADC_QUAL_STATIC_ENOB) ++
      leBytes 1 ((if s.locked n then 1 else 0) + (if (s.spare n).isSome then 2 else 0)) ++ leBytes 2 0
  else if kind = 1 then
    allHosts.flatMap fun (m : Fin 16) =>
      let b := hostBase m
      leBytes 2 (s.fld b HR_QUAL_SNR) ++ leBytes 2 (s.fld b HR_QUAL_EYE_W)
  else
    leBytes 2 (ppmField s.hk.residual) ++ leBytes 2 (ppmField s.hk.residualMax) ++
    leBytes 2 (s.fld thermBase CAL_STATUS_CAL_TEMP) ++ leBytes 1 (s.fld thermBase CAL_STATUS_SET_LO) ++ leBytes 1 0

end Sys2Proof.Machine
end

