-- ==== Sys2Proof/Machine/LifeCycle.lean ====
section
/-! DEFINITION. The life cycle and in-mission BIST (R448 to R453, R456 to R459). -/

namespace Sys2Proof.Machine

open Reg

/-! ### Life cycle -/

/-- The transitions of Table 19-2, by the codes of Table 11-9. -/
def transitionPermitted (old new : Nat) : Bool :=
  (old == 0 && (new == 1 || new == 2 || new == 4)) || (old == 1 && (new == 2 || new == 4 || new == 3)) ||
    (old == 2 && (new == 3 || new == 4)) || (old == 3 && new == 4)

/-- A RETURN token, 112 bytes, is accepted (R451). -/
def tokenAccepted (token : List Byte) : Bool :=
  token.take 4 == leBytes 4 0x5254524E && (token.drop 4).take 8 == leBytes 8 Config.dieId.toNat &&
    (token.drop 12).take 4 == [3, 0, 0, 0] &&
    ecdsaVerifies Config.publicKey (token.take 16) ((token.drop 16).take 96)

/-- LIFECYCLE_REJECT: reason 1 transition, 2 token, 3 fuse verify (Table 19-10). -/
def State.lifecycleReject (s : State) (reason target : Nat) : State := s.raise 0x0029 (256 * reason + target)

/-- LIFECYCLE_ADVANCE (R449 to R451).  Its parameters are the target and, for RETURN only, the token. -/
def State.lifecycleAdvance (s : State) (o : Origin) (target : Nat) (token : List Byte) : State :=
  if ¬ transitionPermitted s.test.lifeCycle target then (s.lifecycleReject 1 target).reply o stNotPermitted []
  else if token.length ≠ (if target = 3 then 112 else 0) then s.reply o stBadLength []
  else if target = 3 ∧ ¬ tokenAccepted token then (s.lifecycleReject 2 target).reply o stNotPermitted []
  else if s.test.deep.isSome ∨ s.test.programming.isSome then s.reply o stBusy []
  else { s with test := { s.test with programming := some target } }.accept o 0x0A03 target

/-- The fuses of a group are blown (R448). -/
def TestState.blow (t : TestState) (target : Nat) : TestState :=
  { t with groups := t.groups ||| 2 ^ (target - 1) }

/-- Fuse programming ends with this many fuses of the group verified (R450); entering END is safe state
(R452). -/
def State.programDone (s : State) (target verified : Nat) : State :=
  let old := s.test.lifeCycle
  let s := { s with test := { s.test with programming := none } }
  if 2 ≤ verified then
    let s := { s with test := s.test.blow target }.refreshPeriod
    let s := s.raise 0x0028 (256 * old + target)
    let s := s.complete 0x0A03 target stOk []
    if target = 4 then s.enterSafe else s
  else (s.lifecycleReject 3 target).complete 0x0A03 target stNotPermitted []

def execLifecycleProgramDone (verified : Fin 4) (s : State) : Result State Fault Refusal :=
  match s.test.programming with
  | some t => done (s.programDone t verified.val)
  | none => unchanged s

/-- What an instruction of the JTAG port does in the TAP (R453, IEEE 1149.1 and 1149.6): a private one is BYPASS outside
MANUFACTURE and RETURN; PRELOAD fills the boundary cells that EXTEST drives. -/
def Tap.loaded (t : Tap) (lc : Nat) : JtagIns → Tap
  | .preload cells => { t with ins := .preload, cells := cells }
  | .bypass => { t with ins := .bypass }
  | .sample => { t with ins := .sample }
  | .extest => { t with ins := .extest }
  | .extestPulse => { t with ins := .extestPulse }
  | .extestTrain => { t with ins := .extestTrain }
  | .priv _ _ => { t with ins := if lc = 0 ∨ lc = 3 then .priv else .bypass }

/-- A private instruction reaches the deep test engine in MANUFACTURE and RETURN with the test that it starts (R453). -/
def State.jtagPrivate (s : State) : JtagIns → State
  | .priv test args =>
    let lc := s.test.lifeCycle
    if (lc = 0 ∨ lc = 3) ∧ deepArgsFit test args ∧ s.test.deep.isNone then s.deepStart test args else s
  | _ => s

/-- The JTAG port (R453, R484): TRST_N low holds the TAP in Test-Logic-Reset, where no instruction loads and BYPASS stands;
with TRST_N high the instruction takes effect. -/
def execJtagInstruction (trstLow : Bool) (ins : JtagIns) (s : State) : Result State Fault Refusal :=
  if trstLow then done { s with test := { s.test with tap := { s.test.tap with trstLow := true, ins := .bypass } } }
  else
    let t := { s.test.tap with trstLow := false }
    let s := { s with test := { s.test with tap := t.loaded s.test.lifeCycle ins } }
    done (s.jtagPrivate ins)

/-! ### BIST -/

/-- The spare that a slice tests has been consumed (R457). -/
def State.bistConsumed (s : State) (sl : Nat) : Bool :=
  if sl < 8 then (s.spare (Fin.ofNat 8 sl)).isNone
  else if sl < 16 then
    s.line[Fin.ofNat 8 (sl - 8)].tx.subs.toList.all fun d => d.spare4.isNone && d.spare1.isNone
  else if sl < 48 then !s.rooms.rooms[Fin.ofNat 16 ((sl - 16) / 2)].free.contains (62 + sl % 2)
  else false

/-- The sequencer goes on to the next slice; a rotation ends at slice 51. -/
def State.bistNext (s : State) (sl : Nat) : State :=
  if sl = 51 then (s.setFld testBase BIST_SUM_NEXT 0).bump testBase BIST_SUM_ROTATIONS
  else s.setFld testBase BIST_SUM_NEXT (sl + 1)

/-- The sequencer runs: engines E50 to E53 of room 14 issue, BIST_EN = 1, and the life cycle is not END. -/
def State.bistRuns (s : State) : Bool :=
  s.flag testBase BIST_CTRL_BIST_EN && s.test.lifeCycle != 4 && s.coreCounts && s.roomRuns 14

/-- A turn of the sequencer, every 200 ms (R457). -/
def execBistTurn (s : State) : Result State Fault Refusal :=
  let sl := s.fld testBase BIST_SUM_NEXT
  if ¬ s.bistRuns ∨ s.test.bist.isSome then unchanged s
  else
    let s := s.bistNext sl
    if sl < 16 ∧ s.test.recorded.contains sl then
      done { s with test := { s.test with recorded := s.test.recorded.filter (· != sl) } }
    else if s.bistConsumed sl ∨ ¬ s.domOn (bistDomain sl) then done (s.setBistResult sl bistUnavailable)
    else done ({ s with test := { s.test with bist := some (sl, s.tick) } }.setVote (bistDomain sl) voteBist)

/-- What a FAIL does to the unit tested (R459); `cell` names the failing DAC cell of slices 8 to 15. -/
def State.bistAct (s : State) (sl : Nat) (cell : Option (Fin 4 × Fin 68)) : State :=
  if sl < 8 then
    let n := Fin.ofNat 8 sl
    match s.spare n with
    | some k => s.degradingSlice n k
    | none => s
  else if sl < 16 then
    match cell with
    | some (sub, c) => s.cellDegrading (Fin.ofNat 8 (sl - 8)) sub c.val
    | none => s
  else if sl < 48 then s.engineFault (Fin.ofNat 16 ((sl - 16) / 2)) (62 + sl % 2) 8
  else s

/-- A slice that was judged records its result (R458, R459). -/
def State.bistJudged (s : State) (sl : Nat) (pass : Bool) (coverage duration : Nat)
    (cell : Option (Fin 4 × Fin 68)) : State :=
  let s := s.bistRecord sl (if pass then bistPass else bistFail) coverage duration
  if pass then s else (s.raise 0x0020 sl).bistAct sl cell

/-- A rider slice that its rotation carried out. -/
def State.bistRider (s : State) (sl : Nat) (result : Option Bool) (coverage duration : Nat)
    (cell : Option (Fin 4 × Fin 68)) : State :=
  if 16 ≤ sl ∨ ¬ s.flag testBase BIST_CTRL_BIST_EN ∨ s.test.lifeCycle = 4 then s
  else match result with
    | some pass =>
      let rs := s.test.recorded.filter (· != sl) ++ [sl]
      { s with test := { s.test with recorded := rs } }.bistJudged sl pass coverage duration cell
    | none => s.bistRecord sl bistIncomplete 0 duration

/-- A slice ends.  The slice that the sequencer runs ends with the time it ran; any other is a rider that
its rotation carried out, with its duration (R456, R457). -/
def State.bistEnd (s : State) (sl : Nat) (result : Option Bool) (coverage duration : Nat)
    (cell : Option (Fin 4 × Fin 68)) : State :=
  match s.test.bist with
  | some (x, t) =>
    if x = sl then
      match result with
      | some pass => (s.bistLeave sl).bistJudged sl pass coverage (s.tenthMicros t) cell
      | none => s.bistCut
    else s.bistRider sl result coverage duration cell
  | none => s.bistRider sl result coverage duration cell

/-- A slice ends as PASS or FAIL, or is cut short (`result` none). -/
def execBistSliceEnd (sl : Fin 52) (result : Option Bool) (coverage : BitVec 16) (duration : BitVec 24)
    (cell : Option (Fin 4 × Fin 68)) (s : State) : Result State Fault Refusal :=
  done (s.bistEnd sl.val result coverage.toNat duration.toNat cell)

/-- BIST_EN is written (R456, R458). -/
def State.bistEnable (s : State) (on : Bool) : State :=
  let s := s.setFlag testBase BIST_CTRL_BIST_EN on
  if on then s else s.bistCut

def execBistEnWrite (on : Bool) (s : State) : Result State Fault Refusal := done (s.bistEnable on)

/-- The reply of BIST_STATUS (Table 19-6): four words a slice. -/
def State.bistStatus (s : State) : List Byte :=
  wordBytes ((List.range 208).map fun k => s.reg (testBase + 0x100 + 4 * k))

end Sys2Proof.Machine
end

