-- ==== Sys2Proof/Machine/RegRead.lean ====
section
/-! DEFINITION. Reading a register: the fields that report other state, the latches and the fields that a read
clears (R4 to R6, R492), and the windows outside MGMT (Table 14-10). -/

namespace Sys2Proof.Machine

open Reg

/-! ### Windows -/

/-- The domain of a register address outside MGMT (Table 14-10). -/
def regDomain (a : Nat) : Option Nat :=
  let off := a % 0x10000
  if lineBase 0 ≤ a ∧ a < lineBase 8 then
    let n := Fin.ofNat 8 ((a - lineBase 0) / 0x10000)
    if (0x400 ≤ off ∧ off < 0x600) ∨ (0x1000 ≤ off ∧ off < 0x3000) then some (domLineRx n)
    else if 0x3000 ≤ off ∧ off < 0x5000 then some (domLineTx n)
    else none
  else if chainCtlBase ≤ a ∧ a < chainCtlBase + 0xC000 then
    if 0x200 ≤ off % 0x800 ∧ off % 0x800 < 0x600 then some (chainDomain (off / 0x800)) else none
  else none

/-! ### Words that report other state -/

/-- A one-bit field as it reads. -/
def withBit (w : Word) (f : Field) (v : Bool) : Word := wordSetField w f.lo f.width (if v then 1 else 0)

/-- STATUS (Table 11-6). -/
def State.statusWord (s : State) : Word :=
  let w := wordSetField (s.reg systemBase) 25 3 s.test.lifeCycle
  let w := withBit w STATUS_HOLDER (s.flag keyBase KEY_STATUS_HOLDER)
  withBit w STATUS_FOLLOWER_OK (s.flag keyBase KEY_STATUS_FOLLOWER_OK)

/-- MBOX_IN and MBOX_OUT (Table 11-8). -/
def State.mboxIn (s : State) : Word :=
  wordSetField (s.reg (systemBase + 0x10)) 8 8 (4 - s.link.inbox.length)

def State.mboxOut (s : State) : Word :=
  let seq := match s.link.outbox with
    | r :: _ => r.seq
    | [] => 0
  wordSetField (wordSetField (s.reg (systemBase + 0x14)) 8 8 s.link.outbox.length) 0 8 seq

/-- DOM_ON_w (Table 14-6): AO is always on. -/
def State.domOnWord (s : State) (w : Nat) : Word :=
  BitVec.ofNat 32 ((List.range 32).foldl (fun acc i =>
    let d := 32 * w + i
    if d = 0 || (domVotable d && s.domOn d) then acc + 2 ^ i else acc) 0)

/-- SRC of HT_STATUS: what the transmitter sends (R191). -/
def State.hostSends (s : State) (m : Fin 16) : Nat :=
  let st := s.htState m
  if st = 2 then 1
  else if st = 3 then
    if patSel (s.fld (hostBase m) HT_PAT_HPAT_SEL) ≠ 0 then 2
    else if s.hostLoop m = 3 then 3
    else match s.lineOf m with
      | some n => if s.rxFills n then 4 else 5
      | none => 4
  else 0

/-- LC_STATUS (Table 19-11). -/
def State.lcStatus (s : State) : Word :=
  let w := wordSetField 0 29 3 s.test.lifeCycle
  withBit (wordSetField w 24 4 s.test.groups) LC_STATUS_PROGRAMMING s.test.programming.isSome

/-- INSTALL_AGE of a lane (Table 7-7). -/
def State.installAge (s : State) (n : Fin 8) : Nat :=
  match s.pantry.lanes[n].installTick with
  | some t => satNat 16 ((s.tick - t) / ticksPerSecond)
  | none => 0xFFFF

/-- A per-lane register of the census. -/
def State.pantryWord (s : State) (n : Fin 8) (off : Nat) (w : Word) : Word :=
  if off = 4 then withBit w PL_STATUS_SAMPLING (s.sampling n)
  else if off = 8 then BitVec.ofNat 32 s.pantry.lanes[n].samples
  else if off = 0x14 then wordSetField w 16 16 (s.installAge n)
  else w

/-- A counter register as a port reads it. -/
def State.counterWord (s : State) (off port : Nat) (w : Word) : Word :=
  if 0x100 ≤ off ∧ off < 0x300 then
    let c := s.counter ((off - 0x100) / 4)
    BitVec.ofNat 32 (c.event * 0x10000 + c.threshold)
  else if 0x800 ≤ off ∧ off < 0xC00 then
    let k := (off - 0x800) / 8
    if off % 8 = 0 then BitVec.ofNat 32 (s.counter k).count else s.cntLiveHi k port
  else w

/-- The word a register reads as, before the effects of the read; `port` is the Hallway source port, which
the live counters latch for (R435). -/
def State.peek (s : State) (a port : Nat) : Word :=
  let w := s.reg a
  let off := a % 0x10000
  if a = systemBase then s.statusWord
  else if a = systemBase + 0x0C then s.faultSummary
  else if a = systemBase + 0x10 then s.mboxIn
  else if a = systemBase + 0x14 then s.mboxOut
  else if fuseBase ≤ a ∧ a < powerBase then (s.fuseWord off).getD w
  else if powerBase + 0x10 ≤ a ∧ a < powerBase + 0x20 then s.domOnWord ((off - 0x10) / 4)
  else if a = clockBase + 0x30 then BitVec.ofNat 32 s.clock.deviceTime
  else if a = clockBase + 0x40 then BitVec.ofNat 32 s.clock.calSec
  else if counterBase ≤ a ∧ a < testBase then s.counterWord off port w
  else if a = testBase then s.lcStatus
  else if lineBase 0 ≤ a ∧ a < lineBase 8 then
    if 0x200 ≤ off ∧ off ≤ 0x208 ∧ off % 4 = 0 then
      s.ledgerWord (Fin.ofNat 8 ((a - lineBase 0) / 0x10000)) ((off - 0x200) / 4)
    else if off = TR_STATUS_ROT_PHASE.off then wordSetField w 0 16 (s.rotField (Fin.ofNat 8 ((a - lineBase 0) / 0x10000)))
    else w
  else if hostBase 0 ≤ a ∧ a < hostBase 16 then
    if off = 0x104 then wordSetField w 8 4 (s.hostSends (Fin.ofNat 16 ((a - hostBase 0) / 0x10000))) else w
  else if tamidBase 0 ≤ a ∧ a < tamidBase 8 then
    if off = TM_STATUS_STATE.off then s.tamidStatusWord (Fin.ofNat 8 ((a - tamidBase 0) / 0x10000)) else w
  else if pantryBase + 0x100 ≤ a ∧ a < pantryBase + 0x200 then
    s.pantryWord (Fin.ofNat 8 ((off - 0x100) / 0x20)) (off % 0x20) w
  else w

/-! ### Effects of a read -/

/-- The RC fields of a register. -/
def rcMask (a : Nat) : Word :=
  match regRow? a with
  | some r => BitVec.ofNat 32 r.rc
  | none => 0

/-- A read clears the RC fields and keeps what arrives in the same cycle (R6). -/
def State.rcClear (s : State) (a : Nat) (arriving : Word) : State :=
  let m := rcMask a
  if m = 0 then s
  else
    let s := s.setReg a ((s.reg a &&& ~~~m) ||| (arriving &&& m))
    if lineBase 0 ≤ a ∧ a < lineBase 8 ∧ a % 0x10000 = SNR_STAT_SNR_MIN.off then
      s.modRx (Fin.ofNat 8 ((a - lineBase 0) / 0x10000)) fun r => { r with snrMinFresh := decide (arriving &&& m = 0) }
    else s

/-- The latches that a read makes: FFR_0, DT_LO, CAL_SEC_LO, CNT_LIVE_LO_k and PL_SAMP_LO. -/
def State.readLatch (s : State) (a port : Nat) : State :=
  let off := a % 0x10000
  if a = fuseBase + 0x10 then s.readFfr0.2
  else if a = clockBase + 0x30 then s.readDtLo.2
  else if a = clockBase + 0x40 then s.readCalSecLo.2
  else if counterBase + 0x800 ≤ a ∧ a < counterBase + 0xC00 ∧ off % 8 = 0 then
    (s.readCntLive ((off - 0x800) / 8) port).2
  else if pantryBase + 0x100 ≤ a ∧ a < pantryBase + 0x200 ∧ off % 0x20 = 8 then
    let n := Fin.ofNat 8 ((off - 0x100) / 0x20)
    s.setReg (a + 4) (BitVec.ofNat 32 (s.pantry.lanes[n].samples / 2 ^ 32 % 0x10000))
  else s

/-- A read of a register. -/
def State.readWord (s : State) (a port : Nat) (arriving : Word) : Word × State :=
  (s.peek a port, (s.readLatch a port).rcClear a arriving)

/-- The Hallway source port of the controller that holds the keys (log 28). -/
def State.holderPort (s : State) : Nat := 16 + s.fld keyBase KEY_STATUS_HOLDER

/-- RC_FIELD_READ (R6): the word that is read, then the clear. -/
def execRcFieldRead (addr arriving : Word) (s : State) : Result State Fault Refusal :=
  let a := addr.toNat
  if rcMask a = 0 then unchanged s
  else
    let (w, s) := s.readWord a s.holderPort arriving
    done { s with link := { s.link with readData := w } }

end Sys2Proof.Machine
end

