-- ==== Sys2Proof/Machine/RegWrite.lean ====
section
/-! DEFINITION. Writing a register: what the host's write of a word does to its fields (R5 to R7), block by
block. -/

namespace Sys2Proof.Machine

open Reg

/-! ### Access codes -/

/-- The word after a write under the access codes of a register: RW fields take the value, W1C bits written
1 clear, an event of the same cycle leaves its bit set, and everything else stays (R5, R6). -/
def accessWord (r : RegRow) (old value arriving : Word) : Word :=
  let rw := BitVec.ofNat 32 r.rw
  let w1c := BitVec.ofNat 32 r.w1c
  (((old &&& ~~~rw) ||| (value &&& rw)) &&& ~~~(value &&& w1c)) ||| (arriving &&& w1c)

/-- A register with no effect beyond its fields; a location that no chapter documents ignores writes. -/
def State.store (s : State) (a : Nat) (value arriving : Word) : State :=
  match regRow? a with
  | some r => s.setReg a (accessWord r (s.reg a) value arriving)
  | none => s

/-- RW fields other than those of `keep`, which have a write of their own. -/
def State.storeBut (s : State) (a : Nat) (value keep : Word) : State :=
  s.store a ((value &&& ~~~keep) ||| (s.reg a &&& keep)) 0

/-- A bit of a written word. -/
def wbit (value : Word) (k : Nat) : Bool := value.getLsbD k

/-! ### Line lanes -/

/-- ADC_CTRL: LP_SPARE parks a READY spare or powers a parked one up, and SUBST_REQ asks for a planned
substitution (R64, R75, R77). -/
def State.adcCtrlWrite (s : State) (n : Fin 8) (value : Word) : State :=
  let was := s.flag (lineBase n) ADC_CTRL_LP_SPARE
  let s := s.store (lineBase n + 0x108) value 0
  let lp := wbit value 23
  let st := s.spareState n
  let free := s.line[n].adc.urgent.isNone
  let s := if lp && !was && st == 3 && free then s.setSpareState n 4
    else if !lp && was && st == 4 then s.setSpareState n 1 else s
  if wbit value 22 then s.substRequest n (wordField value 16 5) else s

def State.eqCtrlWrite (s : State) (n : Fin 8) (value : Word) : State :=
  let s := s.storeBut (lineBase n + 0x300) value 0x40000002
  let s := (s.nlcEnable n (wbit value 1)).lineRxPrecode n (wbit value 30)
  if wbit value 0 then s.lineReacq n else s

def State.txCtrlWrite (s : State) (n : Fin 8) (value : Word) : State :=
  let s := s.storeBut (lineBase n + 0x800) value 0xD2000000
  let s := (s.pdEnable n (wbit value 25)).txPrecode n (wbit value 28)
  let s := (s.setFlag (lineBase n) TX_CTRL_SQUELCH (wbit value 30)).squelchBits n
  let s := if wbit value 31 then s.txEnable n else s.txDisable n
  if wbit value 24 then s.txFirApply n else s

/-- SNAP and CLR of a counter block: with both, the counters are copied first (R130). -/
def State.blockCtrl (s : State) (b : CounterBlock) (value : Word) (snap clr : Nat) : State :=
  let s := if wbit value snap then s.snapBlock b else s
  if wbit value clr then s.clrBlock b else s

def State.lineWrite (s : State) (n : Fin 8) (off : Nat) (value arriving : Word) : State :=
  let a := lineBase n + off
  let entry := BitVec.ofNat 10 value.toNat
  if off = 0x100 then s.afeCtrlWrite n value
  else if off = 0x108 then s.adcCtrlWrite n value
  else if off = 0x300 then s.eqCtrlWrite n value
  else if off = 0x318 then if wbit value 0 then s.nlcHostSwap n else s
  else if off = 0x600 then (s.store a value 0).blockCtrl (.inner n) value 0 1
  else if off = 0x800 then s.txCtrlWrite n value
  else if off = 0x808 then (s.storeBut a value 0x7).txPatSel n (wordField value 0 3)
  else if off = 0x818 then if wbit value 0 then s.pdSwap n else s
  else if off = 0x880 then (s.lineChkSel n (wordField value 2 3)).blockCtrl (.lineChecker n) value 0 1
  else if 0x1000 ≤ off ∧ off < 0x3000 then
    s.bankWrite n nlcRegs (Fin.ofNat 2 ((off - 0x1000) / 0x1000)) (Fin.ofNat 1024 (off % 0x1000 / 4)) entry false
  else if 0x3000 ≤ off ∧ off < 0x5000 then
    s.bankWrite n pdRegs (Fin.ofNat 2 ((off - 0x3000) / 0x1000)) (Fin.ofNat 1024 (off % 0x1000 / 4)) entry false
  else s.store a value arriving

/-! ### Host lanes -/

def State.htCtrlWrite (s : State) (m : Fin 16) (value : Word) : State :=
  let b := hostBase m
  let slept := s.flag b HT_CTRL_HT_SLEEP
  let s := s.storeBut (b + 0x100) value 0xF7000000
  let s := (s.htPrecode m (wbit value 28)).htSquelch m (wbit value 30)
  let s := if wbit value 29 != slept then s.htSleep m (wbit value 29) else s
  let s := if wbit value 31 then s.htEnable m else s.htDisable m
  let preset := wordField value 24 3
  if wbit value 23 then s.htPresetApply m preset (wbit value 27)
  else
    let s := s.setFld b HT_CTRL_PRESET preset
    if wbit value 27 then s.htFirApply m false else s

def State.hrCtrlWrite (s : State) (m : Fin 16) (value : Word) : State :=
  let b := hostBase m
  let on := s.flag b HR_CTRL_HR_EN
  let slept := s.flag b HR_CTRL_HR_SLEEP
  let reacq := wbit value 28
  let s := s.storeBut (b + 0x200) value 0xE0F00000
  let s := if wbit value 18 then s else s.setFld b HR_DFE_COEF 0
  let s := s.hrPrecode m (wbit value 29)
  let s := s.hostCtle m (wbit value 23) (wordField value 20 3)
  let s := if wbit value 31 != on then s.hrEnable m (wbit value 31) else s
  if wbit value 30 != slept then s.hrSleep m (wbit value 30) reacq
  else if reacq then s.hostReacq m else s

def State.hostWrite (s : State) (m : Fin 16) (off : Nat) (value arriving : Word) : State :=
  let b := hostBase m
  if off = 0x100 then s.htCtrlWrite m value
  else if off = 0x200 then s.hrCtrlWrite m value
  else if off = 0x400 then
    let s := s.store (b + off) value 0
    if wbit value 30 then s.hostTrainStart m else s
  else if off = 0x500 then (s.storeBut (b + off) value 0x7).hostPatSel m (wordField value 0 3)
  else if off = 0x508 then (s.hostChkSel m (wordField value 2 3)).blockCtrl (.hostChecker m) value 0 1
  else if off = 0x600 then
    (s.setFlag b HR_KP4_CTRL_TERMINATE (wbit value 2)).blockCtrl (.kp4 m .hr) value 0 1
  else if off = 0x700 then
    (s.setFlag b LR_KP4_CTRL_TERMINATE (wbit value 2)).blockCtrl (.kp4 m .lr) value 0 1
  else s.store (b + off) value arriving

/-! ### Central blocks -/

/-- ATTN_CAUSE and ATTN_ENABLE take a write with its edge of ATTN_N (R273, R274). -/
def State.systemWrite (s : State) (off : Nat) (value arriving : Word) : State :=
  if off = 4 ∨ off = 8 then (s.store (systemBase + off) value arriving).attnEdge s.attnLow
  else s.store (systemBase + off) value arriving

/-- REST_MASK takes a new value: in REST the newly masked domains enter, and those no longer masked wake for
their votes (R359). -/
def State.restMaskWrite (s : State) (a : Nat) (value : Word) : State :=
  let s := s.store a value 0
  if s.fld powerBase PWR_STATE_STATE = 2 then
    s.each allDomains fun d s =>
      if s.restMasked d && s.heldVotes d == 0 && s.domOn d then s.startEntry d
      else if s.heldVotes d != 0 && !s.domOn d then s.wakeRequest d
      else s
  else s

def State.powerWrite (s : State) (off : Nat) (value arriving : Word) : State :=
  let a := powerBase + off
  if 0x20 ≤ off ∧ off < 0x30 then s.restMaskWrite a value
  else if off = 0x40 then s.lineRxSleep (wordField value 0 8)
  else s.store a value arriving

def State.clockWrite (s : State) (off : Nat) (value arriving : Word) : State :=
  let s := s.store (clockBase + off) value arriving
  if off = 0x10 && wbit value 28 then s.syncRequest else s

def State.memWrite (s : State) (off : Nat) (value arriving : Word) : State :=
  let s := s.store (memProtBase + off) value arriving
  if off = 0x54 && (wbit value 31 || wbit value 30) then
    s.bankOp (wordField value 0 9) (wbit value 31) (wbit value 30)
  else s

/-- A channel or a trigger that is enabled has no valid result until it completes one (Table 15-2); a timer
is loaded when its unit is enabled or its period is written. -/
def State.hkWrite (s : State) (off : Nat) (value arriving : Word) : State :=
  let a := hkBase + off
  let old := s.reg a
  let s := s.store a value arriving
  if off = 4 then
    s.each (List.range 32) fun c s =>
      if value.getLsbD c && !old.getLsbD c then
        let a := hkBase + (HK_RES_RESULT.ix c).off
        s.setReg a (s.reg a &&& ~~~0x4000)
      else s
  else if 0x200 ≤ off ∧ off < 0x280 then
    let k := Fin.ofNat 8 ((off - 0x200) / 0x10)
    if off % 0x10 = 0 then
      if !wbit value 31 then s.dropStrobes k
      else if !old.getLsbD 31 then (s.setReg (a + 8) (s.reg (a + 8) &&& ~~~0x4000)).loadTimer k
      else s
    else if off % 0x10 = 4 then s.loadTimer k
    else s
  else s

def State.counterRegWrite (s : State) (off : Nat) (value arriving : Word) : State :=
  if off = 0 then
    let s := if wbit value 31 then s.counterSnap else s
    if wbit value 30 then s.counterClr else s
  else if off = 0x10 then s.bwWrite (wordField value 0 20)
  else if 0x100 ≤ off ∧ off < 0x300 then
    s.counterWrite ((off - 0x100) / 4) (wordField value 16 16) (wordField value 0 16)
  else s.store (counterBase + off) value arriving

/-! ### Tamid, chains, census -/

/-- A changed mask has to be passed again (R411). -/
def State.tamidWrite (s : State) (i : Fin 8) (off : Nat) (value arriving : Word) : State :=
  if 0x100 ≤ off ∧ off < 0x400 then s.shapeWrite i ((off - 0x100) / 4) (wordField value 0 16)
  else
    let s := s.store (tamidBase i + off) value arriving
    if 0x400 ≤ off ∧ off < 0x420 then s.modTamid i fun t => { t with passed := none } else s

/-- MC_CTRL: of several bits in one write START acts first, then STOP, then SWAP (log 29). -/
def State.chainCtrlWrite (s : State) (j : Fin 24) (value : Word) : State :=
  if s.chainOwned j then s.mcReject j
  else
    let s := s.setFlag (mcBase j) MC_CTRL_START_ON_SYNC (wbit value 28)
    let s := s.mcForce j (wbit value 27)
    let s := if wbit value 31 then s.mcStart j else s
    let s := if wbit value 30 then s.mcStop j else s
    if wbit value 29 then s.mcSwap j else s

def State.chainWrite (s : State) (j : Fin 24) (off : Nat) (value arriving : Word) : State :=
  if off = 0 then s.chainCtrlWrite j value
  else if off = 4 ∨ (0x200 ≤ off ∧ off < 0x600) then s.mcWrite j off value
  else s.store (mcBase j + off) value arriving

def State.pantryRegWrite (s : State) (off : Nat) (value arriving : Word) : State :=
  let a := pantryBase + off
  if 0x100 ≤ off ∧ off < 0x200 ∧ off % 0x20 = 0 then
    let n := Fin.ofNat 8 ((off - 0x100) / 0x20)
    let s := (s.storeBut a value 0x20000000).pantryFreeze n (wbit value 29)
    if wbit value 28 then s.pantryClear n else s
  else s.store a value arriving

/-! ### The register space -/

/-- A 32-bit write to a register (R5).  `arriving` holds the W1C bits that the hardware sets in the same cycle
(R6). -/
def State.writeWord (s : State) (a : Nat) (value arriving : Word) : State :=
  let off := a % 0x10000
  if a < fuseBase then s.systemWrite off value arriving
  else if a < powerBase then s.store a value arriving
  else if a < clockBase then s.powerWrite off value arriving
  else if a < memProtBase then s.clockWrite off value arriving
  else if a < hkBase then s.memWrite off value arriving
  else if a < thermBase then s.hkWrite off value arriving
  else if a < counterBase then if off = 0 then s.testLevels (wbit value 31) else s.store a value arriving
  else if a < testBase then s.counterRegWrite off value arriving
  else if a < lineBase 0 then if off = 0x10 then s.bistEnable (wbit value 31) else s.store a value arriving
  else if a < hostBase 0 then s.lineWrite (Fin.ofNat 8 ((a - lineBase 0) / 0x10000)) off value arriving
  else if a < tamidBase 0 then s.hostWrite (Fin.ofNat 16 ((a - hostBase 0) / 0x10000)) off value arriving
  else if a < chainCtlBase then s.tamidWrite (Fin.ofNat 8 ((a - tamidBase 0) / 0x10000)) off value arriving
  else if a < chainCtlBase + 0xC000 then s.chainWrite (Fin.ofNat 24 (off / 0x800)) (off % 0x800) value arriving
  else if a < pantryBase then s.store a value arriving
  else if a < keyBase then s.pantryRegWrite off value arriving
  else s.store a value arriving

/-- The address names a register of an implemented block (R4). -/
def regValid (a : Nat) : Bool := a % 4 == 0 && (regBlock a).isSome

/-- The controller that holds the keys. -/
def State.holderCtrl (s : State) : Ctrl := if s.flag keyBase KEY_STATUS_HOLDER then .b else .a

def ctrlNum (c : Ctrl) : Nat := match c with | .a => 0 | .b => 1

end Sys2Proof.Machine
end

