-- ==== Sys2Proof/Machine/Access.lean ====
section
/-! DEFINITION. Hallway accesses of the controllers and the engines: accesses that wait for a domain (R354, R491,
R492), the far accesses of an engine (R249, R259), and what goes on when a domain is ready. -/

namespace Sys2Proof.Machine

open Reg

/-! ### Reaching a domain -/

/-- An access to a domain that is not on sets its ACCESS vote; a domain in E0 is on again at once (R354, R355). -/
def State.reach (s : State) (d : Nat) : State := if s.domOn d then s else s.setVote d voteAccess

/-- An access waits for a domain, behind those that came before it. -/
def State.stall (s : State) (d : Nat) (w : Stalled) : State :=
  { s with power := { s.power with stalled := s.power.stalled ++ [(d, w)] } }

/-- The ACCESS vote goes with the last access to the domain (Table 14-2). -/
def State.accessDone (s : State) (d : Nat) : State :=
  if s.power.stalled.any (fun e => e.1 == d) || !s.flag powerBase ((voteBit voteAccess).ix d) then s
  else s.clearVote d voteAccess

/-- An access of a controller: at once where nothing has to wake, else it waits. -/
def State.access (s : State) (d : Option Nat) (w : Stalled) (act : State → State) : State :=
  match d with
  | none => act s
  | some d =>
    let s := s.reach d
    if s.domOn d then (act s).accessDone d else s.stall d w

/-- The reply of a command whose access completes with an error (R491). -/
def State.accessError (s : State) (o : Origin) (a : Nat) : State := s.reply o stAccessError (leBytes 4 a)

/-! ### Register space -/

/-- READ_REG goes on: `k` words are left. -/
def State.readRegs (o : Origin) : Nat → Nat → List Byte → State → State
  | 0, _, got, s => s.reply o stOk got
  | k + 1, a, got, s =>
    s.access (regDomain a) (.readReg o a (k + 1) got) fun s =>
      let s := s.hallAccess s.holderPort a 4 false
      let (w, s) := s.readWord a s.holderPort 0
      State.readRegs o k (a + 4) (got ++ leBytes 4 w.toNat) s

/-- WRITE_REG goes on. -/
def State.writeRegs (o : Origin) (total : Nat) : List (Word × Word) → State → State
  | [], s => s.reply o stOk (leBytes 1 total)
  | p :: rest, s =>
    s.access (regDomain p.1.toNat) (.writeReg o (p :: rest) total) fun s =>
      State.writeRegs o total rest ((s.hallAccess s.holderPort p.1.toNat 4 true).writeWord p.1.toNat p.2 0)

/-! ### Memories -/

/-- The domain of a Hallway address of the memories outside MGMT. -/
def memDomain (a : Nat) : Option Nat :=
  if 0x02000000 ≤ a ∧ a < 0x04000000 then some 2
  else if 0x04000000 ≤ a ∧ a < 0x04C00000 then some (domRoom ((a - 0x04000000) / 0xC0000))
  else none

/-- The Cellar areas that the firmware fills in formats of its own: the private areas, the staging area, the work areas and the
journal (Table 12-2, R292).  What they hold is a free value (DESIGN CHOICE, log 151). -/
def firmwareArea (a : Nat) : Bool :=
  decide (0x00100000 ≤ a ∧ a < 0x00200000) || decide (0x00700000 ≤ a ∧ a < 0x00A00000) ||
    decide (0x00B00000 ≤ a ∧ a < 0x00B40000)

/-- A 32-bit word as an access reads it, with what the firmware keeps free. -/
def State.memWord (s : State) (a : Nat) : (Word × Bool) × State :=
  let (w, err) := s.hallWord a
  if !err && firmwareArea a then
    let (v, s) := s.fresh
    ((v, false), s)
  else ((w, err), s)

/-- MEM_READ goes on, four bytes at a time; `fs` is what the reads find in the 64-bit words, in order. -/
def State.readMem (o : Origin) : Nat → Nat → List Byte → List WordFinding → State → State
  | 0, _, got, _, s => s.reply o stOk got
  | k + 1, a, got, fs, s =>
    s.access (memDomain a) (.memRead o a (k + 1) got fs) fun s =>
      let s := s.hallAccess s.holderPort a 4 false
      let first := a % 8 == 0 || got.isEmpty
      let s := s.when first fun s => s.readFound a 0 (fs.headD .clean)
      let ((w, err), s) := s.memWord a
      if err then s.accessError o a
      else State.readMem o k (a + 4) (got ++ leBytes 4 w.toNat) (if first then fs.drop 1 else fs) s

/-- PANTRY_READ of a census table goes on, an entry at a time. -/
def State.readPantry (o : Origin) : Nat → Nat → List Byte → State → State
  | 0, _, got, s => s.reply o stOk got
  | k + 1, a, got, s =>
    s.access (some 2) (.pantryRead o a (k + 1) got) fun s =>
      let s := s.hallAccess s.holderPort a 2 false
      let t := (a - 0x02000000) / 0x200000
      let c := (a - 0x02000000) % 0x200000 / 2
      if s.retLost (entryBank t c) then s.accessError o a
      else State.readPantry o k (a + 2) (got ++ leBytes 2 (s.entryOf t c)) s

/-! ### Guest images (R258) -/

/-- A field of the header of a guest image. -/
def guestField (image : List Byte) (o : Nat) : Nat := leNat ((image.drop o).take 2)

/-- Bytes of a whole image. -/
def guestSize (image : List Byte) : Nat := 16 + 4 * guestField image 0 + 2 * guestField image 2

/-- The header values of R258. -/
def guestHeaderFits (image : List Byte) : Bool :=
  let p := guestField image 0
  decide (65 ≤ p ∧ p ≤ 1024) && decide (guestField image 2 ≤ 4096) && ((image.drop 8).take 8).all (· == 0)

/-- The engine memories of an image in the layout of R234, with zeros behind each part. -/
def guestLayout (image : List Byte) : List Byte :=
  let p := 4 * guestField image 0
  let d := 2 * guestField image 2
  let prog := (image.drop 16).take p
  let data := (image.drop (16 + p)).take d
  prog ++ List.replicate (0x1000 - prog.length) 0 ++ data ++ List.replicate (0x2000 - data.length) 0

def guestImageAddr (t : Nat) : Nat := 0x00B40000 + t * 0x3000

/-- A whole image goes to the guest images and to the memories of the engine, which becomes LOADED. -/
def State.guestStore (s : State) (o : Origin) (t : Nat) : State :=
  let g := s.guest t
  if g.image.length < 16 ∨ g.image.length < guestSize g.image then s.reply o stBadParam []
  else
    let bytes := guestLayout g.image
    let s := (s.setBytes (guestImageAddr t) bytes).setBytes (engineBase 15 (s.runOn 15 t)) bytes
    let s := s.modGuest t fun g => { g with
      st := 1, image := [], ckwBase := guestField g.image 4, ckwLen := guestField g.image 6 }
    s.reply o stOk []

/-! ### Far accesses of an engine (R249) -/

/-- What a far access of a guest engine may reach: the access itself, a cause of Table 10-14, or the Pantry under
R172. -/
inductive FarGrant where
  | granted
  | trap (cause : Nat)
  | pantry
  deriving DecidableEq, Repr

/-- Data memory of a room-15 engine. -/
def guestData (a : Nat) : Bool := decide (0x04B40000 ≤ a ∧ a < 0x04C00000) && decide (0x1000 ≤ (a - 0x04B40000) % 0x3000)

/-- The windows of Table 10-14. -/
def State.guestGrant (s : State) (a : Nat) (write : Bool) : FarGrant :=
  if (0x00A00000 ≤ a ∧ a < 0x00B00000) ∨ guestData a then .granted
  else if write then .trap 1
  else if counterBase ≤ a ∧ a < testBase then if s.flag counterBase CNT_CTRL_GRANT then .granted else .trap 2
  else if clockBase + 0x30 ≤ a ∧ a < clockBase + 0x38 then .granted
  else if 0x02000000 ≤ a ∧ a < 0x04000000 then
    if s.flag pantryBase PANTRY_CTRL_GUEST_READ then .granted else .pantry
  else .trap 1

/-- What an access of an engine meets: the Pantry is open to reads of room 14 and of a granted guest (R172). -/
def State.farGrant (s : State) (r : Fin 16) (e a : Nat) (write : Bool) : FarGrant :=
  match s.guestOn r e with
  | some _ => s.guestGrant a write
  | none => if !write && r.val != 14 && decide (0x02000000 ≤ a ∧ a < 0x04000000) then .pantry else .granted

/-- A refused access of an engine: the read returns 0, the write is discarded. -/
def State.farRefused (s : State) (r : Fin 16) (e a : Nat) : FarGrant → State
  | .granted => s
  | .trap c => match s.guestOn r e with
    | some t => s.guestTrap t c
    | none => s
  | .pantry => s.raise 0x4105 (0x8000 + (a - 0x02000000) / 0x200000)

/-- The domain of an address of the Hallway outside MGMT. -/
def hallDomain (a : Nat) : Option Nat := (memDomain a).orElse fun _ => regDomain a

/-- A 32-bit read of the Hallway by a room. -/
def State.farRead (s : State) (r : Fin 16) (a : Nat) : Word × State :=
  let s := s.hallAccess r.val a 4 false
  if 0x08000000 ≤ a ∧ a < 0x09000000 then s.readWord a r.val 0
  else if (bankOf a).isNone then (0, s.unmapped a)
  else
    let (w, s) := s.memWord a
    (w.1, s)

/-- A 32-bit write of the Hallway by a room. -/
def State.farWrite (s : State) (r : Fin 16) (a : Nat) (v : Word) : State :=
  let s := s.hallAccess r.val a 4 true
  if 0x08000000 ≤ a ∧ a < 0x09000000 then if regValid a then s.writeWord a v 0 else s
  else s.hallWrite a (leBytes 4 v.toNat)

/-- The domain that an access of an engine waits for: that of its access before, which completes first, or its
own. -/
def State.farWait (s : State) (r : Fin 16) (e a : Nat) (grant : FarGrant) : Option Nat × State :=
  match (s.power.stalled.filter fun x => x.2.ofEngine r e).getLast? with
  | some x => (some x.1, s)
  | none =>
    if grant ≠ .granted then (none, s)
    else match hallDomain a with
      | some d =>
        let s := s.reach d
        (if s.domOn d then none else some d, s)
      | none => (none, s)

def State.farDone (s : State) (a : Nat) : State :=
  match hallDomain a with
  | some d => s.accessDone d
  | none => s

/-- fpN + OFFSET (Table 10-6). -/
def farAddr (w : Word) (x : Engine) : Nat :=
  (x.fp[Fin.ofNat 2 (bitsAt w 23 1)] + BitVec.ofNat 32 (bitsAt w 0 16)).toNat

/-- What is read or written at an address that is no multiple of 4 is a free value at the word that holds it
(log 32). -/
def State.farFree (s : State) (a : Nat) (v : Word) : Word × State := if a % 4 = 0 then (v, s) else s.fresh

/-- An FLD completes, or waits (R249): the pair takes the data, low half first. -/
def State.fldTry (s : State) (r : Fin 16) (e : Nat) : State :=
  let x := s.engine r e
  let w := s.programWord r e x.pc
  let a := farAddr w x
  let al := a - a % 4
  let grant := s.farGrant r e al false
  match s.farWait r e al grant with
  | (some d, s) => s.stall d (.engineFld r e)
  | (none, s) =>
    let (v, s) := if grant = .granted then s.farRead r al else (0, s.farRefused r e al grant)
    let (v, s) := s.farFree a v
    let k := bitsAt w 24 2
    let s := s.modEngine r e fun y =>
      { ((y.setD (Fin.ofNat 8 (2 * k)) (v.truncate 16)).setD (Fin.ofNat 8 (2 * k + 1)) ((v >>> 16).truncate 16)).advance
        with stalled := false }
    s.farDone al

/-- An FST reaches the Hallway, or waits. -/
def State.fstTry (s : State) (r : Fin 16) (e a : Nat) (v : Word) : State :=
  let grant := s.farGrant r e a true
  match s.farWait r e a grant with
  | (some d, s) => s.stall d (.engineFst r e a v)
  | (none, s) => (if grant = .granted then s.farWrite r a v else s.farRefused r e a grant).farDone a

/-- The room whose program memory a 32-bit write reaches at no word's address: it is narrower than 32 bits for each of the two
words (R234; DEDUCED, log 147). -/
def narrowWrite (a : Nat) : Option (Fin 16) :=
  if 0x04000000 ≤ a ∧ a < 0x04C00000 ∧ (a - 0x04000000) % 0x3000 < 0x1000 ∧ a % 4 ≠ 0 then
    some (Fin.ofNat 16 ((a - 0x04000000) / 0xC0000))
  else none

/-- Writes of an engine that are outstanding. -/
def State.fstOutstanding (s : State) (r : Fin 16) (e : Nat) : Nat :=
  (s.power.stalled.filter fun x => x.2.ofEngine r e).length

/-- FLD: the engine stalls until the data arrive (R249). -/
def execEngFld (r : Fin 16) (e : Fin 64) (s : State) : Result State Fault Refusal :=
  done (s.issueWith r e.val (fun w => opcodeOf w == 0x3C) (fun _ _ y => { y with stalled := true })
    fun _ _ s => (s.countEvent (0x5002 + r.val * 0x100) 1).fldTry r e.val)

/-- FST is posted: it waits to issue only while four writes of the engine are outstanding (R249). -/
def execEngFst (r : Fin 16) (e : Fin 64) (s : State) : Result State Fault Refusal :=
  if 4 ≤ s.fstOutstanding r e.val then unchanged s
  else done (s.issueWith r e.val (fun w => opcodeOf w == 0x3D) (fun _ _ y => y.advance)
    fun w x s =>
      let k := bitsAt w 24 2
      let a := farAddr w x
      let s := s.countEvent (0x5002 + r.val * 0x100) 1
      let v := x.d[Fin.ofNat 8 (2 * k + 1)] ++ x.d[Fin.ofNat 8 (2 * k)]
      match (if s.farGrant r e.val a true = .granted then narrowWrite a else none) with
      | some q => s.raise (roomSrc q 0x46) ((a - 0x04000000) % 0x3000)
      | none =>
        let (v, s) := s.farFree a v
        s.fstTry r e.val (a - a % 4) v)

/-! ### A domain is ready, or late -/

/-- An access that waited proceeds. -/
def State.proceed (s : State) : Stalled → State
  | .readReg o a k got => State.readRegs o k a got s
  | .writeReg o left total => State.writeRegs o total left s
  | .ctlWrite a v => (s.hallAccess s.holderPort a.toNat 4 true).writeWord a.toNat v 0
  | .memRead o a k got fs => State.readMem o k a got fs s
  | .pantryRead o a k got => State.readPantry o k a got s
  | .engineFld r e => s.fldTry r e
  | .engineFst r e a v => s.fstTry r e a v
  | .guestLoad o t => s.guestStore o t

/-- The accesses that wait for a domain leave the queue. -/
def State.takeStalled (s : State) (d : Nat) : List Stalled × State :=
  ((s.power.stalled.filter fun e => e.1 == d).map (·.2),
   { s with power := { s.power with stalled := s.power.stalled.filter fun e => e.1 != d } })

/-- The accesses that waited for a domain proceed in the order in which they came (R354). -/
def State.proceedAll (s : State) (d : Nat) : State :=
  let (ws, s) := s.takeStalled d
  (s.each ws fun w s => s.proceed w).accessDone d

/-- An access that waited completes with an error response; a read returns 0 (R364, R491). -/
def State.late (s : State) : Stalled → State
  | .readReg o a _ _ => s.accessError o a
  | .writeReg o left _ => s.accessError o (match left with
    | p :: _ => p.1.toNat
    | [] => 0)
  | .ctlWrite _ _ => s
  | .memRead o a _ _ _ => s.accessError o a
  | .pantryRead o a _ _ => s.accessError o a
  | .engineFld r e =>
    let w := s.programWord r e (s.engine r e).pc
    let k := bitsAt w 24 2
    s.modEngine r e fun y =>
      { ((y.setD (Fin.ofNat 8 (2 * k)) 0).setD (Fin.ofNat 8 (2 * k + 1)) 0).advance with stalled := false }
  | .engineFst .. => s
  | .guestLoad o t => s.accessError o (engineBase 15 (s.runOn 15 t))

def State.lateAll (s : State) (d : Nat) : State :=
  let (ws, s) := s.takeStalled d
  (s.each ws fun w s => s.late w).accessDone d

/-! ### REGISTER_WRITE -/

/-- A write by a controller reaches a register (R5, R291): a write by the follower is discarded and raises
BLOCKED_WRITE; a write to a window whose domain is not on wakes it (R354, R492). -/
def execRegisterWrite (ctl : Ctrl) (addr value arriving : Word) (s : State) : Result State Fault Refusal :=
  let a := addr.toNat
  if ¬ regValid a then unchanged s
  else if ctl ≠ s.holderCtrl then
    let s := s.bump keyBase KEY_COUNTS_BLOCKED
    done (s.raise 0x8001 (ctrlNum ctl * 0x8000 + a / 4 % 0x8000))
  else done (s.access (regDomain a) (.ctlWrite addr value) fun s =>
    (s.hallAccess s.holderPort a 4 true).writeWord a value arriving)

end Sys2Proof.Machine
end

