-- ==== Sys2Proof/Machine/Attic.lean ====
section
/-! DEFINITION. The Attic: journal, standing image, lifetime totals and laser wear (chapter 18, R440 to
R447). -/

namespace Sys2Proof.Machine

open Reg

def atticBase : Nat := 0x800000

/-! ### Records -/

/-- The 64 bytes of a journal record (Table 18-5). -/
def AtticRecord.bytes (r : AtticRecord) (seq : Nat) : List Byte :=
  let body := leBytes 4 (0xA7000000 + r.type * 0x10000) ++ leBytes 4 seq ++ leBytes 4 r.sec ++
    leBytes 4 (r.sec / 2 ^ 32 * 0x1000000 + (if r.calValid then 0x800000 else 0)) ++ leBytes 4 r.poh ++
    (r.payload ++ List.replicate 40 0).take 40
  body ++ leBytes 4 (crc32 body)

/-- Erases a sector of 4 KiB. -/
def State.flashErase (s : State) (a : Nat) : State :=
  { s with flash := s.flash.filter fun e => !(decide (a ≤ e.1) && decide (e.1 < a + 0x1000)) }

/-- Bytes are programmed: what a byte that was not erased then holds is not stated (log 33). -/
def State.flashProgram : Nat → List Byte → State → State
  | _, [], s => s
  | a, b :: bs, s =>
    let old := s.flashByte a
    if old = 0xFF ∨ old = b then State.flashProgram (a + 1) bs (s.setFlashByte a b)
    else
      let (v, s) := s.fresh
      State.flashProgram (a + 1) bs (s.setFlashByte a (v.truncate 8))

/-- Data from a flash offset on as page programs: a page holds 256 bytes. -/
def pageParts : Nat → Nat → List Byte → List (Nat × List Byte)
  | 0, _, _ => []
  | k + 1, a, bs => if bs = [] then [] else (a, bs.take (256 - a % 256)) :: pageParts k (a + 256 - a % 256) (bs.drop (256 - a % 256))

/-- A supply falls under a FLASH_WRITE: the page program or sector erase in flight completes, and those that had not
started are discarded (R471, Table 16-4 step 5).  How many of them were done is a free value (log 30). -/
def State.flashDrain (s : State) : State :=
  match s.flashJob with
  | some j =>
    let s := { s with flashJob := none }
    let pages := pageParts 6 j.offset j.data
    let e := if j.erase then 1 else 0
    let (v, s) := s.fresh
    let k := v.toNat % (pages.length + e + 1)
    let s := s.when (j.erase && decide (0 < k)) fun s => s.flashErase (j.offset - j.offset % 0x1000)
    s.each (pages.take (k - e)) fun p s => State.flashProgram p.1 p.2 s
  | none => s

/-- Bytes whose programming did not verify: free values. -/
def State.flashTorn (s : State) (a k : Nat) : State :=
  let (vs, s) := s.freshMany k
  s.setFlashBytes a (vs.map (BitVec.ofNat 8 ·))

def nextSector (k : Nat) : Nat := if 2047 ≤ k then 16 else k + 1

/-- The sector in use is skipped for the rest of the pass (R440). -/
def State.sectorSkip (s : State) : State :=
  let k := s.attic.sector
  let s := { s with attic := { s.attic with sector := nextSector k, slot := 0 } }
  s.raise 0x0011 k

/-- The verify of a record failed: it is written again in the next sector (R440, R447). -/
def State.recordFailed (s : State) (type : Nat) : State :=
  let again := s.attic.retried
  let s := { s with attic := { s.attic with retried := !again } }.sectorSkip
  if again then s.raise 0x0010 type else s

/-- The record is written: both copies verify. -/
def State.recordWritten (s : State) : State :=
  let a := s.attic
  let last := a.slot + 1 == 32
  { s with attic := { a with
      queue := a.queue.drop 1, seq := (a.seq + 1) % 2 ^ 32, lastSector := a.sector, retried := false,
      sector := if last then nextSector a.sector else a.sector, slot := if last then 0 else a.slot + 1 } }

/-- A controller holds the keys (R441). -/
def State.keysHeld (s : State) : Bool :=
  if s.flag keyBase KEY_STATUS_HOLDER then s.flag keyBase KEY_STATUS_B_ALIVE else s.flag keyBase KEY_STATUS_A_ALIVE

/-- The Attic writer takes work: its flash is there, a controller holds the keys, and neither a shutdown nor DEEP holds it
(R441, Tables 14-7 and 16-4). -/
def State.atticOpen (s : State) : Bool :=
  s.attic.available && s.keysHeld && s.thermal.shut.isNone && s.fld powerBase PWR_STATE_STATE != 3

/-- A FLASH_WRITE that arrived before the record at the head of the queue runs first; in the same tick the Attic goes first
(R441, Table 18-8). -/
def State.flashFirst (s : State) : Bool :=
  match s.flashJob, s.attic.queue with
  | some j, r :: _ => decide (j.since < r.arrived)
  | some _, [] => true
  | none, _ => false

/-- The Attic writer programs and verifies a record pair (R440). -/
def execAtticRecordWrite (eraseOk verify1 verify2 : Bool) (s : State) : Result State Fault Refusal :=
  match s.attic.queue with
  | [] => unchanged s
  | r :: _ =>
    if ¬ s.atticOpen ∨ s.flashFirst then unchanged s
    else
      let at0 := atticBase + 0x1000 * s.attic.sector
      let first := s.attic.slot == 0
      if first && !eraseOk then done s.sectorSkip
      else
        let s := s.when first fun s => s.flashErase at0
        let a := at0 + 128 * s.attic.slot
        let bytes := r.bytes s.attic.seq
        if !verify1 then done ((s.flashTorn a 64).recordFailed r.type)
        else
          let s := s.setFlashBytes a bytes
          if !verify2 then done ((s.flashTorn (a + 64) 64).recordFailed r.type)
          else done ((s.setFlashBytes (a + 64) bytes).recordWritten)

/-! ### Laser wear (R444) -/

/-- The mean of values, rounded as the part rounds (log 6). -/
def meanNat (l : List Nat) : Nat := (quantise ((l.sum : Rat) / (l.length : Rat))).toNat

/-- PD lies within ±10 % of REF_PD. -/
def pdNear (pd ref : Nat) : Bool := decide (9 * ref ≤ 10 * pd) && decide (10 * pd ≤ 11 * ref)

/-- The steps of 0.05 beyond 1.25 that a ratio exceeds. -/
def wearSteps (ratio : Rat) : Nat :=
  if ratio ≤ 5 / 4 then 0 else ((20 * (ratio - 5 / 4)).ceil).toNat

/-- A period of a lane whose reference stands: the estimate and NOW_BIAS. -/
def Laser.estimate (l : Laser) (ref : Nat × Nat × Nat) (bias pd poh : Nat) : Laser :=
  let old := l.estimates.filter fun e => decide (poh < e.1 + 1440)
  let est := if pdNear pd ref.2.1 then
      old ++ [(poh, if pd = 0 then Config.overZero bias else (bias * ref.2.1 : Nat) / (pd : Rat))]
    else old
  let sum := est.foldl (fun a e => a + e.2) (0 : Rat)
  { l with estimates := est,
           now := if est = [] then l.now else satNat 16 (quantise (sum / (est.length : Rat))).toNat }

/-- A period of a lane without a reference: the first power-on day with at least 72 periods sets it. -/
def Laser.gather (l : Laser) (bias pd poh : Nat) : Laser :=
  let day := l.day ++ [(bias, pd)]
  if poh % 1440 = 0 then
    if 72 ≤ day.length then
      { l with day := [], reference := some (meanNat (day.map (·.1)), meanNat (day.map (·.2)), (poh - 1) / 1440) }
    else { l with day := [] }
  else { l with day := day }

/-- NOW_BIAS over REF_BIAS. -/
def Laser.ratio (l : Laser) : Rat :=
  match l.reference with
  | some (b, _, _) => if b = 0 then Config.overZero l.now else (l.now : Rat) / (b : Rat)
  | none => 0

/-- The laser of a lane at the end of a period. -/
def State.laserPeriod (s : State) (n : Fin 8) (bias pd poh : Nat) : State :=
  let l := s.attic.lasers[n]
  let l := match l.reference with
    | some ref => l.estimate ref bias pd poh
    | none => l.gather bias pd poh
  let k := if l.estimates = [] then 0 else wearSteps l.ratio
  let wear := decide (l.step < k)
  let l := if wear then { l with step := k } else l
  let s := { s with attic := { s.attic with lasers := s.attic.lasers.set n l } }
  if wear then s.raise (0x6130 + n.val) (satNat 16 (roundAway (1000 * l.ratio)).toNat) else s

/-! ### Periodic records (R441) -/

/-- The histogram bin of a temperature code (Table 18-7). -/
def histBin (code : Nat) : Nat := (max 0 (min 25 (((code : Rat) / 256 - 64 + 5) / 5).floor)).toNat

/-- A list with the entry at `k` raised by `v`, saturating at 32 bits. -/
def addAt (l : List Nat) (k v : Nat) : List Nat := l.modify k fun x => satNat 32 (x + v)

/-- A bit mask over the line lanes. -/
def lineMask (f : Fin 8 → Bool) : Nat := allLines.foldl (fun m n => if f n then m + 2 ^ n.val else m) 0

/-- The output of a lane's laser bias channel, 3n. -/
def State.biasOut (s : State) (n : Fin 8) : Nat := s.fld (cdBase (Fin.ofNat 32 (3 * n.val))) CD_CODES_OUT

/-- The mean of a sum over the rounds of the period; without a round the manual states none (DESIGN CHOICE, log 158). -/
def State.periodMean (s : State) (sum : Nat) : Nat × State :=
  if s.attic.rounds = 0 then
    let (v, s) := s.fresh
    (v.toNat % 0x10000, s)
  else ((quantise ((sum : Rat) / (s.attic.rounds : Rat))).toNat, s)

/-- The means of the monitor sums of some lanes, in order. -/
def State.pdMeans : List (Fin 8) → State → List Nat × State
  | [], s => ([], s)
  | n :: rest, s =>
    let (v, s) := s.periodMean s.attic.pdSums[n]
    let (vs, s) := State.pdMeans rest s
    (v :: vs, s)

/-- The period of the housekeeping averages ends. -/
def State.periodOver (s : State) : State :=
  { s with attic := { s.attic with rounds := 0, tempMax := 0, tempSum := 0, pdSums := Vector.replicate 8 0 } }

/-- The payload of a PERIODIC record (Table 18-6). -/
def State.periodicPayload (s : State) (maxTemp meanTemp : Nat) (pd : List Nat) : List Byte :=
  leBytes 4 (maxTemp * 0x10000 + meanTemp) ++ (allLines.flatMap fun n => leBytes 2 (s.biasOut n)) ++
  ((List.range 8).flatMap fun n => leBytes 2 (pd.getD n 0)) ++
  leBytes 4 (lineMask (fun n => s.txState n == 5) * 0x1000000 + lineMask (fun n => s.locked n) * 0x10000 +
    s.attic.dropped)

/-- Ten minutes of power-on time in the totals. -/
def Attic.tenMin (a : Attic) (live : Nat) (meanTemp : Nat) : Attic :=
  { a with
    laneMin := (List.range 8).foldl (fun l n => if live.testBit n then addAt l n 10 else l) a.laneMin,
    hist := addAt a.hist (histBin meanTemp) 10 }

/-- Every 10 min of power-on time the holder forms a PERIODIC record, over the housekeeping rounds of the period.  Without a
round laser wear is not tracked (Table 1-4). -/
def execAtticPeriodic (s : State) : Result State Fault Refusal :=
  if s.attic.available ∧ s.coreCounts ∧ s.keysHeld then
    let seen := decide (s.attic.rounds ≠ 0)
    let top := s.attic.tempMax
    let (mean, s) := s.periodMean s.attic.tempSum
    let (pds, s) := State.pdMeans (List.finRange 8) s
    let live := lineMask fun n => s.txState n == 5
    let a := s.attic.tenMin live mean
    let poh := (a.poh + 10) % 2 ^ 32
    let s := { s with attic := { a with poh := poh } }
    let s := s.pushRecord (s.formRecord 1 (s.periodicPayload (if seen then top else mean) mean pds))
    let s := { s with attic := { s.attic with
      dropped := 0, standDue := s.attic.standDue || decide (s.attic.standPoh + 1440 ≤ poh) } }.periodOver
    done (s.when seen fun s => s.each allLines fun n s => s.laserPeriod n (s.biasOut n) (pds.getD n.val 0) poh)
  else unchanged s

/-! ### The standing image (R442) -/

/-- The 512 bytes of the standing image (Table 18-7). -/
def State.standingBytes (s : State) : List Byte :=
  let a := s.attic
  let valid := s.flag clockBase CLK_STATUS_CAL_VALID
  let sec := if valid then s.clock.calSec else 0
  let pair := fun (hi lo : Nat) => leBytes 4 (hi * 0x10000 + lo)
  let ret := fun (b : Option Nat) => leBytes 2 (match b with | some k => 0x8000 + k | none => 0)
  let spare := fun (k : Nat) =>
    leBytes 2 (match a.cellarRet.find? fun e => e.1 == k with | some e => 0x8000 + e.2 | none => 0)
  let laser := fun (l : Laser) =>
    let r := l.reference.getD (0, 0, 0)
    leBytes 2 r.1 ++ leBytes 2 r.2.1 ++ leBytes 2 l.now ++ leBytes 2 r.2.2
  let body :=
    leBytes 4 0x53544E44 ++ leBytes 4 a.standSeq ++ leBytes 4 sec ++
    leBytes 4 (sec / 2 ^ 32 * 0x1000000 + (if valid then 0x800000 else 0)) ++ leBytes 4 a.poh ++
    leBytes 4 ((a.seq + 2 ^ 32 - 1) % 2 ^ 32) ++ leBytes 4 a.lastSector ++ leBytes 4 0 ++
    (a.laneMin.flatMap (leBytes 4 ·)) ++ (a.hist.flatMap (leBytes 4 ·)) ++
    pair a.shutdowns a.brownouts ++ pair a.safeStates a.boots ++ pair a.sliceSubst a.cellSubst ++
    pair a.engineTakeovers a.ctrlTakeovers ++ leBytes 4 a.droppedTotal ++ leBytes 4 0 ++
    ((List.range 64).flatMap spare) ++ ret a.pantryRet ++ ret a.engineRet ++ List.replicate 60 0 ++
    (a.lasers.toList.flatMap laser)
  let body := (body ++ List.replicate 508 0).take 508
  body ++ leBytes 4 (crc32 body)

/-- The standing image is written to the next standing sector, behind the journal records that wait
(Table 18-8); a torn write leaves the one before it standing. -/
def execAtticStandingWrite (ok : Bool) (s : State) : Result State Fault Refusal :=
  if s.attic.standDue ∧ s.attic.queue = [] ∧ s.atticOpen then
    let k := (s.attic.standSector + 1) % 16
    let at0 := atticBase + 0x1000 * k
    let s := s.flashErase at0
    if ok then
      let s := s.setFlashBytes at0 s.standingBytes
      done { s with attic := { s.attic with
        standSector := k, standSeq := (s.attic.standSeq + 1) % 2 ^ 32, standPoh := s.attic.poh, standDue := false } }
    else done (s.flashTorn at0 512)
  else unchanged s

/-! ### Reading the Attic (R443) -/

/-- The bytes pass the CRC-32 in their last four. -/
def crcValid (bs : List Byte) : Bool :=
  let k := bs.length - 4
  crc32 (bs.take k) == leNat (bs.drop k)

/-- Pairs of the journal that hold any byte, by number from the base of the Attic, ascending. -/
def State.journalPairs (s : State) : List Nat :=
  ((s.flash.map (·.1)).filter fun a => decide (atticBase + 0x10000 ≤ a) && decide (a < atticBase + 0x800000)).foldl
    (fun l a => let p := (a - atticBase) / 128; if l.getLast? = some p then l else l ++ [p]) []

/-- The valid record of a pair: copy 1, else copy 2. -/
def State.pairRecord (s : State) (p : Nat) : Option (List Byte) :=
  let a := atticBase + 128 * p
  let c1 := s.flashBytes a 64
  let c2 := s.flashBytes (a + 64) 64
  if crcValid c1 then some c1 else if crcValid c2 then some c2 else none

/-- SEQ of a record. -/
def recordSeq (r : List Byte) : Nat := leNat ((r.drop 4).take 4)

/-- Puts a record with its sector before the first with a lower SEQ. -/
def insertRecord (e : Nat × List Byte) : List (Nat × List Byte) → List (Nat × List Byte)
  | [] => [e]
  | x :: xs => if recordSeq x.2 < recordSeq e.2 then e :: x :: xs else x :: insertRecord e xs

/-- The valid journal records with their sectors, newest first. -/
def State.journal (s : State) : List (Nat × List Byte) :=
  s.journalPairs.foldl (fun acc p => match s.pairRecord p with
    | some r => insertRecord (p / 32, r) acc
    | none => acc) []

/-- The standing image: the valid one with the highest SEQ, with its sector. -/
def State.standing (s : State) : Option (Nat × List Byte) :=
  (List.range 16).foldl (fun best k =>
    let bs := s.flashBytes (atticBase + 0x1000 * k) 512
    if crcValid bs then
      match best with
      | some b => if recordSeq b.2 < recordSeq bs then some (k, bs) else some b
      | none => some (k, bs)
    else best) none

/-- The totals that a standing image holds. -/
def Attic.fromStanding (a : Attic) (sector : Nat) (bs : List Byte) : Attic :=
  let w := fun (o k : Nat) => leNat ((bs.drop o).take k)
  let ret := fun o => if 0x8000 ≤ w o 2 then some (w o 2 % 0x8000) else none
  let spares := (List.range 64).filterMap fun k =>
    if 0x8000 ≤ w (0xC0 + 2 * k) 2 then some (k, w (0xC0 + 2 * k) 2 % 0x8000) else none
  let laser := fun (n : Fin 8) =>
    let o := 0x180 + 8 * n.val
    let r := (w o 2, w (o + 2) 2, w (o + 6) 2)
    { Laser.init with reference := if r.1 = 0 ∧ r.2.1 = 0 then none else some r, now := w (o + 4) 2 }
  { a with
    standSector := sector, standSeq := (recordSeq bs + 1) % 2 ^ 32, poh := w 0x10 4, standPoh := w 0x10 4,
    seq := (w 0x14 4 + 1) % 2 ^ 32, lastSector := w 0x18 4,
    laneMin := (List.range 8).map fun n => w (0x20 + 4 * n) 4,
    hist := (List.range 26).map fun b => w (0x40 + 4 * b) 4,
    shutdowns := w 0xAA 2, brownouts := w 0xA8 2, safeStates := w 0xAE 2, boots := w 0xAC 2,
    sliceSubst := w 0xB2 2, cellSubst := w 0xB0 2, engineTakeovers := w 0xB6 2, ctrlTakeovers := w 0xB4 2,
    droppedTotal := w 0xB8 4, cellarRet := spares, pantryRet := ret 0x140, engineRet := ret 0x142,
    lasers := Vector.ofFn laser }

/-- A journal record newer than the standing image adds its counts. -/
def Attic.addRecord (a : Attic) (r : List Byte) : Attic :=
  let w := fun (o k : Nat) => leNat ((r.drop o).take k)
  let up := fun x => satNat 16 (x + 1)
  let type := w 2 1
  if type = 1 then { a.tenMin (w 0x3B 1) (w 0x14 2) with droppedTotal := satNat 32 (a.droppedTotal + w 0x38 2) }
  else if type = 2 then if w 0x2C 4 / 0x10000000 = 4 then { a with safeStates := up a.safeStates } else a
  else if type = 3 then
    let kind := w 0x17 1
    if kind = 0 then { a with sliceSubst := up a.sliceSubst }
    else if kind = 1 then { a with cellSubst := up a.cellSubst }
    else if kind = 2 then { a with engineTakeovers := up a.engineTakeovers }
    else { a with ctrlTakeovers := up a.ctrlTakeovers }
  else if type = 4 then
    let d := w 0x14 2
    if d < 0x4000 then { a with cellarRet := a.cellarRet.filter (fun e => e.2 != d) ++ [(w 0x16 2, d)] }
    else if d < 0x8000 then { a with pantryRet := some (d % 0x4000) }
    else { a with engineRet := some (d % 0x4000) }
  else if type = 5 then { a with shutdowns := up a.shutdowns }
  else if type = 6 then { a with brownouts := up a.brownouts }
  else if type = 7 then { a with boots := up a.boots }
  else a

/-- What the holder rebuilds from the flash at boot (R443): writing resumes at the sector after the one that
holds the newest record. -/
def State.atticLoad (s : State) : Attic :=
  let stand := s.standing
  let a := match stand with
    | some (k, bs) => Attic.init.fromStanding k bs
    | none => Attic.init
  let all := s.journal
  let floor := match stand with
    | some (_, bs) => some (leNat ((bs.drop 0x14).take 4))
    | none => none
  let newer := all.filter fun e => match floor with
    | some q => decide (q < recordSeq e.2) || a.seq == 0
    | none => true
  let a := newer.reverse.foldl (fun a e => a.addRecord e.2) a
  let a := match all with
    | (sec, r) :: _ =>
      { a with seq := (recordSeq r + 1) % 2 ^ 32, poh := leNat ((r.drop 0x10).take 4), lastSector := sec,
               sector := nextSector sec, slot := 0 }
    | [] => a
  { a with available := true, standDue := stand.isSome && decide (a.standPoh + 1440 ≤ a.poh) }

/-- The reply of ATTIC_READ, `none` where it is answered BAD_PARAM (R443). -/
def State.atticRead (s : State) (index count : Nat) : Option (List Byte) :=
  if 0x80000000 ≤ index then
    let k := index - 0x80000000
    match s.standing with
    | some (_, bs) => if k < 8 then some ((bs.drop (64 * k)).take (64 * count)) else none
    | none => none
  else if 65024 ≤ index then none
  else
    let rs := (s.journal.drop index).take count
    if rs = [] then none else some (rs.flatMap (·.2))

end Sys2Proof.Machine
end

