-- ==== Sys2Proof/Machine/Reset.lean ====
section
/-! DEFINITION. The resets: RESET_N, RESET_ALL, the loss of a rail and a brown-out, with what each keeps
(R281, R282, R345, R363, R470, R471). -/

namespace Sys2Proof.Machine

open Reg

/-! ### What outlives a reset -/

/-- A fuse programming that a reset cuts off: whether the group reads as blown is a free value (log 30). -/
def State.programCut (s : State) : State :=
  match s.test.programming with
  | some t =>
    let (v, s) := s.fresh
    let s := { s with test := { s.test with programming := none } }
    if v.toNat % 2 = 1 then { s with test := s.test.blow t } else s
  | none => s

/-- A FLASH_WRITE that a reset cuts off leaves free bytes where it worked (log 30). -/
def State.flashCut (s : State) : State :=
  match s.flashJob with
  | some j =>
    let s := { s with flashJob := none }
    let s := if j.erase then s.flashTorn (j.offset - j.offset % 0x1000) 0x1000 else s
    s.flashTorn j.offset j.data.length
  | none => s

/-- Registers, with their bits, that are AO state (R230, R366, R407). -/
def aoRegs : List (Nat × Word) :=
  [(powerBase + 4, 0x1F), (powerBase + 8, 0xFFFFFFFF), (powerBase + 0xC, 0xFFFFFFFF), (clockBase, 0x007FFFFF),
   (clockBase + 0x40, 0xFFFFFFFF), (clockBase + 0x44, 0xFFFFFFFF), (clockBase + 0x48, 0xFFFFFFFF),
   (thermBase + 8, 0xFFFFFFFF), (thermBase + 0xC, 0xFFFFFFFF)]

/-- The bits of a register that `old` held are taken over. -/
def State.keepBits (s old : State) (a : Nat) (mask : Word) : State :=
  s.setReg a ((old.reg a &&& mask) ||| (s.reg a &&& ~~~mask))

/-- The calendar and the AO oscillator (R225, R230). -/
def ClockState.keepAo (c : ClockState) : ClockState :=
  { ClockState.init with
    calSec := c.calSec, calUsec := c.calUsec, calSet := c.calSet, calAlign := c.calAlign, aoPhase := c.aoPhase,
    xtalPhase := c.xtalPhase, aoHour := c.aoHour, trims := c.trims, oldRaised := c.oldRaised }

/-- The AO latch of a thermal shutdown outlives RESET_N, and boot waits for its restart (Table 16-5); a recovery
goes on, and the start-up period begins (R396). -/
def Thermal.keepAo (t : Thermal) : Thermal :=
  { Thermal.init with
    recovery := t.recovery, shut := t.shut.map fun (x : Shutdown) => { x with reset := true }, report := t.report }

/-- The part at its reset values, held in reset; only the commands that wait, the flash, the fuses and what the
board shows remain. -/
def State.blank (s : State) : State :=
  { State.reset with
    counters := { CounterState.init with bwStart := s.tick, dumpNext := s.tick + ticksPerSecond },
    pending := s.pending, tick := s.tick, free := s.free, flash := s.flash,
    test := { TestState.init with groups := s.test.groups, tap := s.test.tap },
    boot := { BootState.init with ball := s.boot.ball, released := s.boot.released, rails := s.boot.rails,
                                  brownout := s.boot.brownout, brownoutNote := s.boot.brownoutNote } }

/-- RESET_CAUSE of a reset: its own bit, with BROWNOUT sticky (Table 14-6, R363). -/
def State.setResetCause (s : State) (bit : Nat) : State :=
  s.setReg (powerBase + 4) ((s.reg (powerBase + 4) &&& 0x10) ||| BitVec.ofNat 32 (2 ^ bit))

/-- A reset of everything but AO state (R230, R281, R366, R407). -/
def State.resetUnits (s : State) (cause : Nat) : State :=
  let old := (s.programCut).flashCut
  let s := { old.blank with clock := old.clock.keepAo, thermal := old.thermal.keepAo }
  (s.each aoRegs fun e s => s.keepBits old e.1 e.2).setResetCause cause

/-- The part is held in reset. -/
def State.holdReset (s : State) : State := if s.boot.resetHigh then s.resetUnits 1 else s

/-! ### The effective rising edge -/

/-- The mode of the straps, 0 A, 1 B, 2 C; the pair that is no mode starts in Mode C (R30). -/
def strapMode (straps : BitVec 10) : Nat :=
  if straps.getLsbD 6 then 2 else if straps.getLsbD 5 then 1 else 0

/-- Straps take effect (R282, Table 11-16). -/
def State.takeStraps (s : State) (straps : BitVec 10) : State :=
  let s := s.setReg (systemBase + 0x100) (straps.setWidth 32)
  let s := { s with boot := { s.boot with straps := straps },
                    lanes := { s.lanes with mode := strapMode straps, grouping := 0 } }
  s.setProfileNow (straps.toNat / 128 % 4)

/-- Boot begins: it waits at step 2, or for the restart trigger of a thermal shutdown (Tables 11-19 and
16-5). -/
def State.bootBegin (s : State) (straps : BitVec 10) : State :=
  let s := s.takeStraps straps
  let step := if s.thermal.shut.isSome then 0 else 2
  { s with boot := { s.boot with resetHigh := true, step := step, edge := s.tick } }.refreshPeriod

/-- RESET_N goes low (R281, R345). -/
def execResetNFall (s : State) : Result State Fault Refusal :=
  let s := { s with boot := { s.boot with ball := false } }
  done s.holdReset

/-- RESET_N goes high: the effective edge, unless the supplies hold the part (R470, Table 20-16). -/
def execResetNRise (straps : BitVec 10) (s : State) : Result State Fault Refusal :=
  if s.boot.ball then unchanged s
  else
    let s := { s with boot := { s.boot with ball := true } }
    if s.boot.released then done (s.bootBegin straps) else done s

/-- The supplies release the part (R470): with RESET_N high this is the effective edge, and the straps are
sampled.  `xtal` tells whether a crystal is fitted and oscillates (R225). -/
def execSupplyRelease (straps : BitVec 10) (xtal : Bool) (s : State) : Result State Fault Refusal :=
  if s.boot.released then unchanged s
  else
    let s := { s with boot := { s.boot with released := true } }
    let s := (s.setFlag clockBase CLK_STATUS_XTAL_OK xtal).refreshCalSrc
    if s.boot.ball then done (s.bootBegin straps) else done s

/-! ### Supplies -/

/-- VDD_CORE, VDD_ANA or VDD_HV falls while VDDIO holds (R471): bits 0 to 2 are the rails that fell. -/
def execRailLoss (rails : BitVec 3) (s : State) : Result State Fault Refusal :=
  if rails = 0 ∨ (¬ s.boot.released ∧ s.boot.rails = 0) then unchanged s
  else
    let s := { s with boot := { s.boot with released := false, rails := s.boot.rails ||| rails.toNat } }
    done (s.flashDrain.holdReset)

/-- The AO supply falls (R363): everything takes its power-up value, and BROWNOUT is set. -/
def State.brownout (s : State) : State :=
  let old := (s.programCut).flashCut
  let s := old.blank
  let s := { s with boot := { s.boot with released := false, rails := 0, brownout := true, brownoutNote := true } }
  s.setFlag powerBase RESET_CAUSE_BROWNOUT true

def execBrownout (s : State) : Result State Fault Refusal := done s.brownout

/-! ### RESET_ALL -/

/-- What RESET_ALL keeps beyond RESET_N: the record, marked, and the history (Table 13-7). -/
def FuseBox.keepRecord (f : FuseBox) : FuseBox :=
  { FuseBox.init with
    record := if f.record.valid then { f.record with priorReset := true } else f.record,
    hist := f.hist, overwritten := f.overwritten }

/-- RESET_ALL (R281): the straps keep their values, and boot runs from step 2. -/
def State.resetAll (s : State) : State :=
  let r := s.resetUnits 2
  { r with fuse := s.fuse.keepRecord }.bootBegin s.boot.straps

/-- The RESET_ALL that waits may start: its OK reply has been read completely, or 10 ms have passed since it was placed
(R281). -/
def State.resetAllDue (s : State) : Bool :=
  match s.link.resetAll with
  | some w => w.left == 0 || decide (w.placed + 7812500 ≤ s.tick)
  | none => false

/-- The accepted reset starts (R281); it waits until a fuse programming ends (Table 19-9). -/
def execResetAllStart (s : State) : Result State Fault Refusal :=
  if s.resetAllDue ∧ s.test.programming = none then done s.resetAll else unchanged s

end Sys2Proof.Machine
end

