-- ==== Sys2Proof/Machine/Pins.lean ====
section
/-! DEFINITION. The adaptive core voltage (R472, R473). -/

namespace Sys2Proof.Machine

open Reg

/-- The firmware chooses TARGET from step 7 of boot, and every second (R472). -/
def execVidEvaluate (target : Fin 17) (s : State) : Result State Fault Refusal :=
  if s.rooms.mirnis ∧ s.clock.running then done (s.setFld systemBase VID_CTRL_TARGET target.val)
  else unchanged s

/-- The code that CODE moves toward (R473, Table 20-5). -/
def State.vidGoal (s : State) : Nat :=
  if s.flag systemBase VID_CTRL_VID_HOLD then min 16 (s.fld systemBase VID_CTRL_HOLD_CODE)
  else s.fld systemBase VID_CTRL_TARGET

/-- A step that falls due waits during a profile change, a DEEP entry or exit, in DEEP, and in a thermal shutdown
(R472, Table 20-16); in reset the pins are at high impedance. -/
def State.vidWaits (s : State) : Bool :=
  !s.boot.resetHigh || s.lanes.change.isSome || s.inDeep || s.power.deepExit || s.thermal.shut.isSome

/-- Core ticks in 1 ms, the least time between two steps of CODE (R472). -/
def vidStepTicks : Nat := 781250

/-- 1 ms has passed since the last step. -/
def State.vidReady (s : State) : Bool := s.boot.vidAt.all fun t => decide (t + vidStepTicks ≤ s.tick)

/-- CODE moves by one code. -/
def execVidStep (s : State) : Result State Fault Refusal :=
  let code := s.fld systemBase VID_CTRL_CODE
  let goal := s.vidGoal
  if s.vidWaits ∨ ¬ s.vidReady ∨ code = goal then unchanged s
  else
    let s := { s with boot := { s.boot with vidAt := some s.tick } }
    done (s.setFld systemBase VID_CTRL_CODE (if code < goal then code + 1 else code - 1))

end Sys2Proof.Machine
end

