-- ==== Sys2Proof/Machine/Packets.lean ====
section
/-! DEFINITION. Command packets: the command tables, the checks of Table 11-5, and taking a packet from the inbox
(R267 to R272, R276 to R278, R297, R425). -/

namespace Sys2Proof.Machine

open Reg

/-! ### The command tables -/

/-- The classes of Table 11-10. -/
inductive CmdClass where
  | a
  | b
  | c
  | d
  deriving DecidableEq, Repr

/-- A class is accepted in a device state, safe state apart (Table 11-10). -/
def classLegal (cls : CmdClass) (dev : Nat) : Bool :=
  match cls with
  | .a => true
  | .b => dev == 1 || dev == 3
  | .c => dev == 3
  | .d => dev == 2

/-- The class of an opcode (Tables 11-11 to 11-15); `none`: not in the tables. -/
def opClass (op : Nat) : Option CmdClass :=
  if [0x0000, 0x0001, 0x0002, 0x0007, 0x0400].contains op then some .a
  else if [0x0005, 0x0100, 0x0200, 0x0301, 0x0302, 0x0401, 0x0402, 0x0403, 0x0502, 0x0600, 0x0702, 0x0703, 0x0800,
      0x0801, 0x0805, 0x0901, 0x0904, 0x0A01, 0x0B00, 0x0C00, 0x0D01, 0x0D02, 0x0D03].contains op then some .b
  else if [0x0003, 0x0004, 0x0006, 0x0008, 0x0300, 0x0303, 0x0500, 0x0501, 0x0601, 0x0602, 0x0700, 0x0701, 0x0802,
      0x0803, 0x0804, 0x0806, 0x0900, 0x0902, 0x0903, 0x0A00, 0x0A02, 0x0A03, 0x0A04, 0x0C01, 0x0C02,
      0x0D00].contains op then some .c
  else if op = 0x0009 ∨ op = 0x000A then some .d
  else none

/-- Data of 4 to 1,020 bytes, a multiple of 4. -/
def chunkFits (n : Nat) : Bool := decide (4 ≤ n ∧ n ≤ 1020) && n % 4 == 0

/-- The opcodes whose parameters have one length, with it. -/
def fixedLengths : List (Nat × Nat) :=
  [(0x0001, 0), (0x0002, 0), (0x0003, 1), (0x0004, 2), (0x0005, 6), (0x0007, 4), (0x0008, 0), (0x000A, 4),
   (0x0100, 1), (0x0200, 2), (0x0300, 4), (0x0301, 2), (0x0302, 6), (0x0400, 0), (0x0401, 1), (0x0402, 4),
   (0x0403, 1), (0x0500, 4), (0x0501, 1), (0x0502, 0), (0x0600, 4), (0x0602, 10), (0x0700, 6), (0x0702, 1),
   (0x0703, 0), (0x0800, 0), (0x0801, 1), (0x0803, 1), (0x0804, 1), (0x0805, 0), (0x0900, 5), (0x0901, 2),
   (0x0902, 4), (0x0903, 1), (0x0904, 5), (0x0A00, 3), (0x0A01, 0), (0x0B00, 1), (0x0C00, 7), (0x0C01, 2),
   (0x0C02, 1), (0x0D00, 0), (0x0D01, 8), (0x0D02, 0), (0x0D03, 1)]

/-- LENGTH fits the parameter layout of the command (Table 11-5 check 10). -/
def lengthFits (op : Nat) (params : List Byte) : Bool :=
  let n := params.length
  let b1 := (params.getD 1 0).toNat
  match fixedLengths.find? fun e => e.1 == op with
  | some e => n == e.2
  | none =>
    if op = 0x0000 then decide (n ≤ 1024)
    else if op = 0x0006 then decide (8 ≤ n ∧ n ≤ 1024) && n % 8 == 0
    else if op = 0x0009 ∨ op = 0x0303 ∨ op = 0x0802 then decide (4 ≤ n) && chunkFits (n - 4)
    else if op = 0x0601 ∨ op = 0x0806 then decide (2 ≤ n) && n == 2 + 2 * b1
    else if op = 0x0701 then decide (2 ≤ n) && n == 2 + b1
    else if op = 0x0A02 then decide (2 ≤ n)
    else if op = 0x0A03 then decide (1 ≤ n)
    else if op = 0x0A04 then decide (8 ≤ n ∧ n ≤ 1024)
    else false

/-- The commands that a follower, or a tunnel without REMOTE_WRITE, answers (R297, R425). -/
def followerOps : List Nat :=
  [0x0000, 0x0001, 0x0002, 0x0400, 0x0100, 0x0200, 0x0800, 0x0502, 0x0D02, 0x0D03]

/-- The commands that no tunnel executes (R425): IMAGE_LOAD, IMAGE_COMMIT, FLASH_WRITE, LIFECYCLE_ADVANCE and
DEEP_TEST. -/
def tunnelBarred : List Nat := [0x0009, 0x000A, 0x0A04, 0x0A03, 0x0A02]

/-! ### Checks 4 to 9 of Table 11-5 -/

/-- The addressed controller does not answer: check 5, and the permissions of a tunnel. -/
def State.viaRefused (s : State) (via : Via) (op : Nat) : Option Nat :=
  match via with
  | .bus => none
  | .direct c => if c ≠ s.holderCtrl ∧ ¬ followerOps.contains op then some stNotInCharge else none
  | .tamid i =>
    let ok := if s.flag (tamidBase i) TM_CTRL_REMOTE_WRITE then !tunnelBarred.contains op else followerOps.contains op
    if ok then none else some stNotPermitted

/-- The life cycle permits the command: check 9. -/
def lifePermits (lc op : Nat) : Bool :=
  if op = 0x0802 then lc != 2 else if op = 0x0A02 then lc == 0 || lc == 3 else true

/-- The first of checks 4 to 9 that fails. -/
def State.refusedBy (s : State) (via : Via) (op : Nat) : Option Nat :=
  match opClass op with
  | none => some stUnknownOpcode
  | some cls =>
    match s.viaRefused via op with
    | some st => some st
    | none =>
      let lc := s.test.lifeCycle
      if lc = 4 ∧ cls ≠ .a then some stNotPermitted
      else if s.fuse.safe ∧ cls ≠ .a then some stSafeState
      else if ¬ classLegal cls (s.fld systemBase STATUS_DEV_STATE) ∧ ¬ s.fuse.safe then some stWrongState
      else if ¬ lifePermits lc op then some stNotPermitted
      else none

/-- The reply of a failed check; WRONG_STATE carries the two states and is counted (R277). -/
def State.refuse (s : State) (o : Origin) (st : Nat) : State :=
  if st = stWrongState then
    let res := leBytes 1 (s.fld systemBase STATUS_DEV_STATE) ++ leBytes 1 s.test.lifeCycle
    (s.bump systemBase STATUS_WRONG_STATE_COUNT).reply o st res
  else s.reply o st []

/-! ### A packet -/

def packetSeq (bs : List Byte) : Nat := (bs.getD 1 0).toNat
def packetOp (bs : List Byte) : Nat := leNat ((bs.drop 2).take 2)
def packetParams (bs : List Byte) : List Byte := (bs.drop 8).take (bs.length - 12)

/-- The first check of Table 11-5 that a packet of at least 12 bytes fails, up to check 10. -/
def State.packetFails (s : State) (via : Via) (bs : List Byte) : Option Nat :=
  if crc16 (bs.take 6) ≠ leNat ((bs.drop 6).take 2) then some stTransportCrc
  else if 12 + leNat ((bs.drop 4).take 2) ≠ bs.length then some stBadLength
  else if crc32 (bs.take (bs.length - 4)) ≠ leNat (bs.drop (bs.length - 4)) then some stTransportCrc
  else match s.refusedBy via (packetOp bs) with
    | some st => some st
    | none => if lengthFits (packetOp bs) (packetParams bs) then none else some stBadLength

/-- A packet is taken for execution: a failed check is answered, any other packet waits for its command. -/
def State.takePacket (s : State) (via : Via) (bs : List Byte) : State :=
  match s.packetFails via bs with
  | some st => s.refuse { seq := BitVec.ofNat 8 (packetSeq bs), via := via } st
  | none =>
    let p : Packet := { via := via, seq := packetSeq bs, opcode := packetOp bs, params := packetParams bs }
    { s with link := { s.link with taken := s.link.taken ++ [p] } }

/-- A controller runs that can take packets: CMD_READY, no shutdown, no DOZE or DEEP, no command that waits for a
domain, and no handover in progress (R272, R299). -/
def State.takesPackets (s : State) : Bool :=
  s.flag systemBase STATUS_CMD_READY && s.keysHeld && s.thermal.shut.isNone && !s.inDeep &&
    s.fld powerBase PWR_STATE_STATE != 1 && !s.power.stalled.any (fun e => e.2.ofCommand) && !s.isRunning 0x0008

/-- Packets leave the inbox one at a time, while no command waits and the outbox has a place (R272). -/
def State.kickRounds : Nat → State → State
  | 0, s => s
  | k + 1, s =>
    if s.takesPackets && s.link.taken.isEmpty && decide (s.link.outbox.length < 4) && s.link.waiting.isEmpty then
      match s.link.inbox with
      | [] => s
      | (via, bs) :: rest =>
        let s := { s with link := { s.link with inbox := rest } }.bumpMod systemBase MBOX_IN_IN_RD
        State.kickRounds k (s.takePacket via bs)
    else s

def State.kick (s : State) : State := State.kickRounds 4 s

/-! ### Receiving a packet -/

/-- The packet is discarded (R270). -/
def State.dropPacket (s : State) : State := (s.bump systemBase MBOX_IN_DROPS).attn ATTN_CAUSE_INBOX_DROP

/-- The part is out of reset (R470). -/
def State.busUp (s : State) : Bool := s.boot.resetHigh

/-- Core ticks in 0.5 ms. -/
def frontTicks : Nat := 390625

/-- The bus interface answers: from 0.5 ms after the effective rising edge of RESET_N (R273, R470); a RESET_ALL counts from its
start (DEDUCED, log 152). -/
def State.frontUp (s : State) : Bool := s.boot.resetHigh && decide (s.boot.edge + frontTicks ≤ s.tick)

/-- A packet transaction ends (R265, R270, R278, R358, R399). -/
def State.receive (s : State) (via : Via) (bs : List Byte) : State :=
  let s := s.dozeExit
  if s.thermal.shut.isSome then s.dropPacket
  else if bs.headD 0 ≠ 0xD7 ∨ bs.length < 12 ∨ 4 ≤ s.link.inbox.length then s.dropPacket
  else
    let s := s.bumpMod systemBase MBOX_IN_IN_WR
    if s.inDeep then
      let o : Origin := { seq := BitVec.ofNat 8 (packetSeq bs), via := via }
      ((s.bumpMod systemBase MBOX_IN_IN_RD).reply o stBusy []).deepTrigger
    else { s with link := { s.link with inbox := s.link.inbox ++ [(via, bs)] } }.kick

def execWritePacket (bytes : List Byte) (s : State) : Result State Fault Refusal :=
  if s.frontUp then done (s.receive .bus bytes) else unchanged s

def execWritePacketA (bytes : List Byte) (s : State) : Result State Fault Refusal :=
  if s.frontUp then done (s.receive (.direct .a) bytes) else unchanged s

def execWritePacketB (bytes : List Byte) (s : State) : Result State Fault Refusal :=
  if s.frontUp then done (s.receive (.direct .b) bytes) else unchanged s

/-- The oldest tunnelled packet of an instance is taken (R425); one that R270 discards goes without a reply. -/
def execUliraCmd (i : Fin 8) (s : State) : Result State Fault Refusal :=
  match s.tamid[i].commands with
  | [] => unchanged s
  | bs :: rest =>
    if s.takesPackets then
      let s := s.modTamid i fun t => { t with commands := rest }
      if bs.headD 0 ≠ 0xD7 ∨ bs.length < 12 then done s else done (s.takePacket (.tamid i) bs)
    else unchanged s

/-! ### Reading replies -/

/-- The reply of a RESET_ALL is placed now where it is the newest of the outbox (R281). -/
def Link.resetPlaced (l : Link) (tick : Nat) : Link :=
  { l with resetAll := l.resetAll.map fun w => if w.left = l.outbox.length then { w with placed := tick } else w }

/-- Replies that wait move to the outbox (R272). -/
def State.refillRounds : Nat → State → State
  | 0, s => s
  | k + 1, s =>
    match s.link.waiting with
    | [] => s
    | r :: rest =>
      if s.link.outbox.length < 4 then
        let l := { s.link with waiting := rest, outbox := s.link.outbox ++ [r] }
        let s := { s with link := l.resetPlaced s.tick }
        State.refillRounds k ((s.bumpMod systemBase MBOX_OUT_OUT_WR).attn ATTN_CAUSE_REPLY_READY)
      else s

/-- The oldest reply has been clocked out completely and leaves the outbox (R272). -/
def Link.replyRead (l : Link) : Link :=
  { l with outbox := l.outbox.drop 1, resetAll := l.resetAll.map fun w => { w with left := w.left - 1 } }

/-- READ_REPLY (R268, R272): the oldest reply is driven, and leaves the outbox when it has been clocked out
completely.  Beyond the data the part drives 0x00. -/
def execReadReply (complete : Bool) (s : State) : Result State Fault Refusal :=
  if ¬ s.frontUp then done { s with link := { s.link with busOut := [] } }
  else
    let s := s.dozeExit
    match s.link.outbox with
    | [] => done { s with link := { s.link with busOut := [] } }
    | r :: _ =>
      let s := { s with link := { s.link with busOut := r.bytes } }
      if complete then
        let s := { s with link := s.link.replyRead }.bumpMod systemBase MBOX_OUT_OUT_RD
        done (State.refillRounds 4 s).kick
      else done s

/-! ### Front door and I3C -/

/-- WRITE_FRONT reaches ATTN_CAUSE and ATTN_ENABLE only (R273). -/
def execWriteFront (index : Byte) (value arriving : Word) (s : State) : Result State Fault Refusal :=
  if s.frontUp ∧ (index = 4 ∨ index = 8) then done (s.systemWrite index.toNat value arriving) else unchanged s

/-- The front-door registers (Tables 11-6 to 11-8) from an index. -/
def State.frontWord (s : State) (index : Nat) : Word :=
  if index % 4 = 0 ∧ index ≤ 0x14 then s.peek (systemBase + index) s.holderPort else 0

/-- READ_FRONT: registers from an index that advances by 4 (R265, R273).  Before the front door answers, SPI returns 0x00 and
I²C and I3C give nothing. -/
def execReadFront (index : Byte) (count : Nat) (s : State) : Result State Fault Refusal :=
  if s.frontUp then
    let ws := (List.range count).map fun k => s.frontWord (index.toNat + 4 * k)
    done { s with link := { s.link with busOut := wordBytes ws } }
  else done { s with link := { s.link with busOut := [] } }

/-- The I3C common command codes (R266); in any other bus mode, and for any other code, nothing happens. -/
def execI3cCcc (ccc : I3cCcc) (s : State) : Result State Fault Refusal :=
  if ¬ s.frontUp ∨ s.fld systemBase STRAP_STATUS_BUS_SEL ≠ 1 then unchanged s
  else
    let s := s.dozeExit
    let link := fun (s : State) (f : Link → Link) => { s with link := f s.link }
    let free := fun (s : State) (k : Nat) =>
      let (vs, s) := s.freshMany k
      link s fun (l : Link) => { l with busOut := vs.map (BitVec.ofNat 8 ·) }
    match ccc with
    | .entdaa a => done (link s fun (l : Link) => { l with dynamicAddr := some a })
    | .setdasa a => done (link s fun (l : Link) => { l with dynamicAddr := some a })
    | .rstdaa => done (link s fun (l : Link) => { l with dynamicAddr := none })
    | .enec on => done (link s fun (l : Link) => { l with inBand := l.inBand || on })
    | .disec off => done (link s fun (l : Link) => { l with inBand := l.inBand && !off })
    | .getpid => done (free s 6)
    | .getbcr => done (free s 1)
    | .getdcr => done (free s 1)
    | .getstatus => done (free s 2)
    | .getmwl => done (link s fun (l : Link) => { l with busOut := [0x04, 0x0D] })
    | .getmrl => done (link s fun (l : Link) => { l with busOut := [0x04, 0x0C] })
    | .other _ => done s

/-! ### Commands -/

/-- The packet of a command that runs leaves the list of those taken. -/
def State.takeHead (s : State) (o : Origin) (op : Nat) : State :=
  match s.link.taken with
  | p :: rest =>
    if p.via = o.via ∧ p.seq = o.seq.toNat ∧ p.opcode = op then { s with link := { s.link with taken := rest } } else s
  | [] => s

/-- A command runs (R271, R272, R278): in DEEP it is answered BUSY and starts the exit; a check that fails now is
answered; and the next packet is taken. -/
def State.command (s : State) (o : Origin) (op : Nat) (fits : Bool) (run : State → State) : State :=
  let s := s.dozeExit.takeHead o op
  if s.inDeep then (s.reply o stBusy []).deepTrigger
  else match s.refusedBy o.via op with
    | some st => (s.refuse o st).kick
    | none => if fits then (run s).kick else (s.reply o stBadLength []).kick

/-- The outcome of a command row: the controllers of a part in reset or in a thermal shutdown run none. -/
def command (o : Origin) (op : Nat) (fits : Bool) (run : State → State) (s : State) : Result State Fault Refusal :=
  if s.busUp ∧ s.thermal.shut = none then done (s.command o op fits run) else unchanged s

end Sys2Proof.Machine
end

