-- ==== Sys2Proof/Machine/Boot.lean ====
section
/-! DEFINITION. The Mirnis image, the configuration records and the boot steps (R284 to R290). -/

namespace Sys2Proof.Machine

open Reg

/-! ### Images -/

/-- Offset of an image slot in the flash (Table 11-18). -/
def slotOffset (k : Nat) : Nat := 0x200000 * k

/-- A field of a header, four bytes little-endian (R285). -/
def headerField (h : List Byte) (o : Nat) : Nat := leNat ((h.drop o).take 4)

/-- The header of a slot. -/
def State.slotHeader (s : State) (k : Nat) : List Byte := s.flashBytes (slotOffset k) 256

/-- Body bytes that a header names, at most 1,048,320. -/
def bodyLength (h : List Byte) : Nat := min 1048320 (headerField h 0x0C)

/-- The slot that is tried first: the higher VERSION, slot 0 on a tie (R286). -/
def State.firstSlot (s : State) : Nat :=
  if headerField (s.slotHeader 0) 8 < headerField (s.slotHeader 1) 8 then 1 else 0

/-- An image is valid (R285, R286): the signature covers bytes 0x00 to 0x4F of the header. -/
def imageValid (h body : List Byte) : Bool :=
  headerField h 0 == 0x4D49524E && headerField h 4 == 1 && headerField h 0x0C == body.length &&
    body.length % 4 == 0 && decide (Config.rollbackMin ≤ headerField h 0x10) &&
    (h.drop 0x20).take 48 == sha384 body && ecdsaVerifies Config.publicKey (h.take 0x50) ((h.drop 0x50).take 96)

/-- The image in the firmware area of the Cellar: the header, then the body (log 31). -/
def State.cellarHeader (s : State) : List Byte := s.bytes 0 256
def State.cellarBody (s : State) : List Byte := s.bytes 256 (bodyLength s.cellarHeader)
def State.cellarValid (s : State) : Bool :=
  decide (headerField s.cellarHeader 0x0C ≤ 1048320) && imageValid s.cellarHeader s.cellarBody

/-- A slot is copied to the firmware area. -/
def State.copySlot (s : State) (k : Nat) : State :=
  let h := s.slotHeader k
  let img := h ++ s.flashBytes (slotOffset k + 256) (bodyLength h)
  { s.setBytes 0 img with boot := { s.boot with slot := k } }

/-- The image in the firmware area is to run: BOOT_SLOT and VERSION, and step 7 follows. -/
def State.imageRuns (s : State) : State :=
  let v := headerField s.cellarHeader 8
  { s with boot := { s.boot with version := some v, step := 7 } }.setFld systemBase STATUS_BOOT_SLOT s.boot.slot

/-- The part waits for an image from the host (R290). -/
def State.download (s : State) : State :=
  let s := { s with boot := { s.boot with step := 0 } }
  let s := (s.setFld systemBase STATUS_DEV_STATE (if s.fuse.safe then 4 else 2)).cmdReady
  s.kick

/-- Step 6 (R286): the slot in the Cellar, else the other; a slot that fails is reported, and with none valid the
part goes to DOWNLOAD. -/
def State.authenticate (s : State) : State :=
  if s.cellarValid then s.imageRuns
  else
    let other := 1 - s.boot.slot
    let s := (s.raise 0x8008 s.boot.slot).copySlot other
    if s.cellarValid then s.imageRuns else ((s.raise 0x8008 other).raise 0x8008 3).download

/-! ### Configuration records -/

/-- A record that sets the profile, or the mode and grouping; `none` where it is skipped (R287). -/
def State.specialRecord (s : State) (addr value : Nat) : Option State :=
  if addr = 0xFFFF0001 then
    if 4 ≤ value then none
    else if s.flag thermBase THERM_STATUS_THROTTLE then
      some { s with lanes := { s.lanes with beforeThrottle := some value } }
    else some (s.setProfileNow value)
  else if addr = 0xFFFF0002 then
    let mode := value % 0x100
    let g := value / 0x100
    if 0x10000 ≤ value ∨ 2 < mode ∨ 4 < g then none
    else some { s with lanes := { s.lanes with mode := mode, grouping := g } }
  else none

/-- One record is applied, or skipped with CONFIG_RECORD_BAD (R287). -/
def State.record (s : State) (i addr value : Nat) : State :=
  if 0xFFFF0000 ≤ addr then
    match s.specialRecord addr value with
    | some t => t
    | none => s.raise 0x0001 i
  else if regValid addr then s.writeWord addr (BitVec.ofNat 32 value) 0
  else s.raise 0x0001 i

/-- Records from the flash in order, to the end mark or the 4,096th. -/
def State.records : Nat → Nat → State → State
  | 0, _, s => s
  | k + 1, i, s =>
    let a := leNat (s.flashBytes (0x400000 + 8 * i) 4)
    let v := leNat (s.flashBytes (0x400004 + 8 * i) 4)
    if a = 0xFFFFFFFF then s else State.records k (i + 1) (s.record i a v)

/-! ### Step 7 -/

/-- Retirements that the Attic holds are applied again (R318). -/
def State.retirementsApply (s : State) : State :=
  let s := s.each s.attic.cellarRet fun e s =>
    (s.setFlag memProtBase (RETIRE_MAP_VALID.ix e.1) true).setFld memProtBase (RETIRE_MAP_PAGE.ix e.1) e.2
  let s := match s.attic.pantryRet with
    | some b => ((s.setFlag memProtBase BANK_MAP_PANTRY_USED true).setFld memProtBase BANK_MAP_PANTRY_FOR b).setFlag
        memProtBase RETIRE_STATUS_PANTRY_SPARE false
    | none => s
  let s := match s.attic.engineRet with
    | some b => ((s.setFlag memProtBase BANK_MAP_ENGINE_USED true).setFld memProtBase BANK_MAP_ENGINE_FOR b).setFlag
        memProtBase RETIRE_STATUS_ENGINE_SPARE false
    | none => s
  s.refreshSpares

/-- The Attic is opened where the flash passes R284 (R290, R443). -/
def State.atticOpenBoot (s : State) : State :=
  if s.attic.available ∨ ¬ s.boot.sfdp then s
  else { s with attic := s.atticLoad }.retirementsApply

/-- The payload of a BOOT record (Table 18-6). -/
def State.bootPayload (s : State) : List Byte :=
  leBytes 4 (s.boot.version.getD 0) ++
    leBytes 4 (s.fld systemBase STATUS_BOOT_SLOT + 0x100 * ((s.reg (powerBase + 4)).toNat % 0x100) +
      0x10000 * ((s.reg (systemBase + 0x100)).toNat % 0x10000))

/-- The payload of a SHUTDOWN record. -/
def State.shutdownPayload (s : State) (x : Shutdown) : List Byte :=
  leBytes 4 (s.reg (thermBase + 0xC)).toNat ++ leBytes 4 (x.op * 2 ^ 30 + x.offset % 2 ^ 24) ++
    leBytes 4 x.discarded.length

/-- A shutdown that ended in a restart leaves its SHUTDOWN record (R401, Table 18-6). -/
def State.shutdownRecord (s : State) : State :=
  match s.thermal.report with
  | some x =>
    let s := { s with thermal := { s.thermal with report := none },
                      attic := { s.attic with shutdowns := satNat 16 (s.attic.shutdowns + 1) } }
    s.atticEvent 5 (s.shutdownPayload x)
  | none => s

/-- A brownout leaves its BROWNOUT record (Table 18-6). -/
def State.brownoutRecord (s : State) : State :=
  if s.boot.brownoutNote then
    { s with boot := { s.boot with brownoutNote := false },
             attic := { s.attic with brownouts := satNat 16 (s.attic.brownouts + 1) } }.atticEvent 6
      (leBytes 4 (s.reg (powerBase + 4)).toNat)
  else s

/-- The records of a boot with their totals: SHUTDOWN, BROWNOUT and BOOT (Table 18-6). -/
def State.bootRecords (s : State) : State :=
  let s := s.shutdownRecord.brownoutRecord
  { s with attic := { s.attic with boots := satNat 16 (s.attic.boots + 1) } }.atticEvent 7 s.bootPayload

/-- The follower is ready to take over. -/
def State.setFollowerOk (s : State) : State :=
  s.setFlag keyBase KEY_STATUS_FOLLOWER_OK
    (s.flag keyBase KEY_STATUS_A_ALIVE && s.flag keyBase KEY_STATUS_B_ALIVE)

/-- Step 7: Mirnis starts on both controllers and in the rooms, commands that a shutdown cut off are executed again
(R401), SQUELCH is written 1 on every line lane, and the configuration records are applied. -/
def State.mirnisStart (s : State) : State :=
  let s := (s.setFollowerOk.atticOpenBoot).bootRecords
  let s := { s with rooms := { s.rooms with mirnis := true } }
  let s := s.each (List.range 72) fun d s => s.proceedAll d
  let s := s.each allLines fun n s => s.txSquelch n true
  if s.boot.sfdp then State.records 4096 0 s else s

/-! ### Step 9 -/

/-- The clients that vote by themselves set their votes, and voting takes effect (Table 14-2, R352). -/
def State.votingStart (s : State) : State :=
  let s := { s with power := { s.power with voting := true } }
  let s := ((s.setVote 1 voteMgmt).setVote 70 voteMgmt).setVote 3 voteThermal
  let s := (s.refreshPantryVote).tamidVote
  let s := s.each allLines fun n s => (s.lineRxVotes n).txVotes n
  let s := s.each allHosts fun m s => s.hostVotes m
  s.each allDomains fun d s => s.unvoted d

/-- The lanes that the mode uses start, with their transmitters enabled (R101, R153, R190). -/
def State.lanesStart (s : State) : State :=
  let s := s.votingStart
  if s.fuse.safe then s
  else
    let s := s.each allLines fun n s =>
      let s := s.txEnable n
      if s.lineRxAsleep n then s else s.acqStart n
    let s := s.each (allHosts.filter fun m => s.hostUsed m) fun m s => (s.htEnable m).hrEnable m true
    s.setFld systemBase STATUS_DEV_STATE 3

/-! ### The steps -/

/-- What a boot raises once the core clock runs: the loss of the supplies before it (R363, R471) and straps in
conflict (R30, R264). -/
def State.bootRaises (s : State) : State :=
  let s := if s.boot.brownout then s.raise 0x5000 0 else s
  let s := if s.boot.rails ≠ 0 then s.raise 0x0030 s.boot.rails else s
  let s := if s.boot.straps.toNat % 4 = 3 then s.raise 0x0002 1 else s
  if s.boot.straps.getLsbD 6 && !s.boot.straps.getLsbD 5 then s.raiseOpen 0x0002 else s

/-- Step 3: the keys go to A, or to B when A fails (R288).  In END the boot ROM answers (R452); with BOOT_SRC = 1
the part waits for a download (R290). -/
def State.selfTested (s : State) (a b : Bool) : State :=
  let s := { s.bootRaises with boot := { s.boot with brownout := false, rails := 0, aOk := a, bOk := b } }
  let s := (s.setFlag keyBase KEY_STATUS_A_ALIVE a).setFlag keyBase KEY_STATUS_B_ALIVE b
  let s := (s.setFlag keyBase KEY_STATUS_HOLDER (!a && b)).watchdogsStart
  if !a && !b then s
  else if s.test.lifeCycle = 4 then
    { s with boot := { s.boot with step := 0 } }.cmdReady |>.kick
  else if s.boot.straps.getLsbD 9 then s.download
  else { s with boot := { s.boot with step := 4 } }

/-- A boot step completes (Table 11-19, R290). -/
def State.bootStep (s : State) (ev : BootEvent) : State :=
  let next := fun (s : State) (k : Nat) => { s with boot := { s.boot with step := k } }
  match ev, s.boot.step with
  | .selfTest a b, 2 => if s.clock.running then s.selfTested a b else s
  | .sfdp ok, 4 =>
    let s := { s with boot := { s.boot with sfdp := ok } }
    if ok then next s 5 else (s.raise 0x8009 0).download
  | .sfdp ok, 0 =>
    if s.fld systemBase STATUS_DEV_STATE = 2 ∧ s.boot.straps.getLsbD 9 then
      { s with boot := { s.boot with sfdp := ok } }
    else s
  | .copied, 5 => next (s.copySlot s.firstSlot) 6
  | .authenticated, 6 => s.authenticate
  | .started, 7 => next s.mirnisStart 8
  | .cmdReady, 8 => (next s.cmdReady 9).kick
  | .lanesStart, 9 => next s.lanesStart 0
  | _, _ => s

/-- A thermal shutdown stops the boot (R398). -/
def execBootStepDone (ev : BootEvent) (s : State) : Result State Fault Refusal :=
  if s.boot.resetHigh ∧ s.thermal.shut = none then done (s.bootStep ev) else unchanged s

/-! ### TRAFFIC_READY -/

/-- A lane is traffic-ready (R289). -/
def State.laneReady (s : State) (n : Fin 8) : Bool :=
  let tx := s.txState n
  s.locked n && (tx == 3 || tx == 5) &&
    (s.hostsOf n).all fun m => s.flag (hostBase m) HR_KP4_STATUS_CW_LOCK && s.htState m == 3

/-- Every lane in use is traffic-ready: TRAFFIC_READY and BOOT_DONE, and the start-up period ends (R289, R396). -/
def execTrafficReadySet (s : State) : Result State Fault Refusal :=
  if s.fld systemBase STATUS_DEV_STATE = 3 ∧ ¬ s.boot.traffic ∧ allLines.all (fun n => s.laneReady n) then
    let s := { s with boot := { s.boot with traffic := true }, thermal := { s.thermal with startup := false } }
    let s := (s.setFlag systemBase STATUS_TRAFFIC_READY true).attn ATTN_CAUSE_BOOT_DONE
    done s.refreshPeriod
  else unchanged s

end Sys2Proof.Machine
end

