-- ==== Sys2Proof/Machine/Keyholder.lean ====
section
/-! DEFINITION. The two controllers and the Keyholder (R291 to R303). -/

namespace Sys2Proof.Machine

open Reg

def otherCtrl (c : Ctrl) : Ctrl := match c with | .a => .b | .b => .a

/-- The watchdog of a controller is current. -/
def aliveFld (c : Ctrl) : Field := match c with | .a => KEY_STATUS_A_ALIVE | .b => KEY_STATUS_B_ALIVE

def State.alive (s : State) (c : Ctrl) : Bool := s.flag keyBase (aliveFld c)
def State.setAlive (s : State) (c : Ctrl) (v : Bool) : State := s.setFlag keyBase (aliveFld c) v

/-- The Keyholder and the controllers are clocked: out of reset, and not in DOZE, DEEP or a shutdown. -/
def State.keysRun (s : State) : Bool := s.boot.resetHigh && s.domOn 1 && s.coreCounts && s.thermal.shut.isNone

/-- The keys move: HOLDER changes and EPOCH counts it (R293, R302). -/
def State.moveKeys (s : State) (c : Ctrl) : State :=
  (s.setFlag keyBase KEY_STATUS_HOLDER (ctrlNum c == 1)).bumpMod keyBase KEY_STATUS_EPOCH

/-- Core ticks in 2 ms: a watchdog that is silent that long has expired (R293, R295, R296). -/
def watchdogTicks : Nat := 1562500

/-- Tick of the last watchdog restart of a controller. -/
def State.wdOf (s : State) (c : Ctrl) : Nat := match c with | .a => s.boot.wdA | .b => s.boot.wdB

def State.setWd (s : State) (c : Ctrl) : State :=
  match c with
  | .a => { s with boot := { s.boot with wdA := s.tick } }
  | .b => { s with boot := { s.boot with wdB := s.tick } }

/-- The watchdog of a controller was current and has been silent for 2 ms; a restart in the same tick wins (Table 11-23). -/
def State.silent (s : State) (c : Ctrl) : Bool := s.alive c && decide (s.wdOf c + watchdogTicks ≤ s.tick)

/-- Whether a controller passed its last self-test (R295). -/
def State.ctrlOk (s : State) (c : Ctrl) : Bool := match c with | .a => s.boot.aOk | .b => s.boot.bOk

def State.setCtrlOk (s : State) (c : Ctrl) (ok : Bool) : State :=
  match c with
  | .a => { s with boot := { s.boot with aOk := ok } }
  | .b => { s with boot := { s.boot with bOk := ok } }

/-- A controller that runs restarts its watchdog (R293); one that the Keyholder holds in reset has none to restart. -/
def execCtrlWatchdogRestart (ctl : Ctrl) (s : State) : Result State Fault Refusal :=
  if s.keysRun ∧ s.alive ctl then done (s.setWd ctl) else unchanged s

/-- The takeover of Table 11-20. -/
def State.takeover (s : State) : State :=
  let old := s.holderCtrl
  let new := otherCtrl old
  let s := (s.moveKeys new).bump keyBase KEY_STATUS_TAKEOVERS
  let s := (s.setAlive old false).setFlag keyBase KEY_STATUS_FOLLOWER_OK false
  let detail := 0x100 * ctrlNum new + satNat 8 s.link.taken.length
  let s := (s.raise 0x8000 detail).attn ATTN_CAUSE_TAKEOVER
  let s := { s with attic := { s.attic with ctrlTakeovers := satNat 16 (s.attic.ctrlTakeovers + 1) } }
  (s.substitution 3 0 detail).retryTaken.kick

/-- The holder has been silent for 2 ms with FOLLOWER_OK = 1 (R293). -/
def execHolderWatchdogExpiry (s : State) : Result State Fault Refusal :=
  if s.keysRun ∧ s.silent s.holderCtrl ∧ s.flag keyBase KEY_STATUS_FOLLOWER_OK then done s.takeover else unchanged s

/-- No controller holds the keys: A takes them, or B where A has failed its self-test (R288, R296). -/
def State.keysTaken (s : State) (c : Ctrl) (ok : Bool) : State :=
  let take := fun (s : State) (c : Ctrl) =>
    (if s.holderCtrl = c then s else s.moveKeys c).retryTaken.kick
  match c with
  | .a => if ok then take s .a else if s.alive .b then take s .b else s
  | .b => if ok && !s.boot.aOk then take s .b else s

/-- A controller that was reset has booted from the Cellar image and rejoins (R293, R295, R296); one that fails
its self-test stays lost. -/
def State.rejoin (s : State) (ctl : Ctrl) (ok : Bool) : State :=
  let s := ((s.setAlive ctl ok).setCtrlOk ctl ok).setWd ctl
  (if s.alive (otherCtrl ctl) && s.holderCtrl == otherCtrl ctl then s else s.keysTaken ctl ok).setFollowerOk

def execCtrlRejoin (ctl : Ctrl) (selfTestOk : Bool) (s : State) : Result State Fault Refusal :=
  if ¬ s.keysRun ∨ s.alive ctl ∨ ¬ s.ctrlOk ctl then unchanged s else done (s.rejoin ctl selfTestOk)

/-- The follower has been silent for 2 ms (R295). -/
def execFollowerWatchdogExpiry (s : State) : Result State Fault Refusal :=
  let c := otherCtrl s.holderCtrl
  if s.keysRun ∧ s.silent c then
    let s := (s.setAlive c false).setFlag keyBase KEY_STATUS_FOLLOWER_OK false
    done (s.raise 0x8003 (ctrlNum c))
  else unchanged s

/-- The holder is silent with no follower ready: both controllers are reset, and test themselves again (R296). -/
def execNoController (s : State) : Result State Fault Refusal :=
  if s.keysRun ∧ s.silent s.holderCtrl ∧ ¬ s.flag keyBase KEY_STATUS_FOLLOWER_OK then
    let s := ((s.setAlive .a false).setAlive .b false).raise 0x8007 0
    done { s with boot := { s.boot with aOk := true, bOk := true } }
  else unchanged s

/-- A claim while the holder's watchdog is current is refused (R298). -/
def execDualClaim (ctl : Ctrl) (s : State) : Result State Fault Refusal :=
  if s.keysRun ∧ ctl ≠ s.holderCtrl ∧ s.alive s.holderCtrl then
    done ((s.bump keyBase KEY_STATUS_DUAL_CLAIMS).raise 0x8002 (ctrlNum ctl))
  else unchanged s

/-- An upset in HOLDER or EPOCH (R300): a corrected bit, or a disagreement that voting cannot resolve. -/
def execKeyUpset (bit : BitVec 16) (resolvable : Bool) (s : State) : Result State Fault Refusal :=
  if ¬ s.keysRun then unchanged s
  else if resolvable then done ((s.bump keyBase KEY_COUNTS_VOTES).raise 0x8005 bit.toNat)
  else done (s.raise 0x8006 0)

end Sys2Proof.Machine
end

