-- ==== Sys2Proof/Machine/SystemCommands.lean ====
section
/-! DEFINITION. The system commands (Table 11-11) and the completion of a background command (R272). -/

namespace Sys2Proof.Machine

open Reg

def execPing (o : Origin) (data : List Byte) (s : State) : Result State Fault Refusal :=
  command o 0x0000 (decide (data.length ≤ 1024)) (fun s => s.reply o stOk data) s

/-- GET_INFO; VERSION before an image has run is not stated (log 5). -/
def execGetInfo (o : Origin) (s : State) : Result State Fault Refusal :=
  command o 0x0001 true (fun s =>
    let (v, s) := match s.boot.version with
      | some v => (BitVec.ofNat 32 v, s)
      | none => s.fresh
    s.reply o stOk (leBytes 2 0x8432 ++ leBytes 1 Config.revision.toNat ++
      leBytes 1 (s.fld systemBase STATUS_BOOT_SLOT) ++ leBytes 4 v.toNat ++ leBytes 8 Config.dieId.toNat)) s

def State.stateBytes (s : State) : List Byte :=
  leBytes 1 (s.fld systemBase STATUS_DEV_STATE) ++ leBytes 1 s.test.lifeCycle ++
    leBytes 1 (s.fld keyBase KEY_STATUS_HOLDER) ++ leBytes 1 s.profile ++ leBytes 1 s.lanes.mode ++
    leBytes 1 s.lanes.grouping ++ leBytes 2 (s.fld systemBase STATUS_WRONG_STATE_COUNT) ++ leBytes 2 s.link.retries

def execGetState (o : Origin) (s : State) : Result State Fault Refusal :=
  command o 0x0002 true (fun s => s.reply o stOk s.stateBytes) s

/-! ### Profile, mode and grouping -/

/-- SET_PROFILE, SET_LANE_MODE or LOOPBACK still runs (R280). -/
def State.lanesRun (s : State) : Bool := s.laneBusy || s.isRunning 0x0A00

/-- SET_PROFILE (R21, R22): under the throttle a profile other than Frugal is recorded. -/
def State.profileCommand (s : State) (o : Origin) (p : Nat) : State :=
  if 3 < p then s.reply o stBadParam []
  else if s.lanesRun then s.reply o stBusy []
  else if s.flag thermBase THERM_STATUS_THROTTLE then
    let s := if p = 2 then s else { s with lanes := { s.lanes with recorded := some p } }
    s.reply o stOk []
  else if s.lanes.change.isNone ∧ s.profile = p then s.reply o stOk []
  else (s.accept o 0x0003 p).wantProfile p

def execSetProfile (o : Origin) (profile : Byte) (s : State) : Result State Fault Refusal :=
  command o 0x0003 true (fun s => s.profileCommand o profile.toNat) s

/-- The command completes at once where no lane has to start or realign (R44). -/
def State.laneModeSettle (s : State) : State :=
  if s.lanes.modeChange = [] then s.complete 0x0004 0 stOk [] else s

/-- SET_LANE_MODE (R44). -/
def State.laneModeCommand (s : State) (o : Origin) (mode g : Nat) : State :=
  if 2 < mode ∨ 4 < g then s.reply o stBadParam []
  else if s.lanesRun then s.reply o stBusy []
  else if s.lanes.mode = mode ∧ s.lanes.grouping = g then s.reply o stOk []
  else
    let s := s.accept o 0x0004 0
    (if s.lanes.mode = mode then s.setGrouping g else s.setMode mode g).laneModeSettle

def execSetLaneMode (o : Origin) (mode grouping : Byte) (s : State) : Result State Fault Refusal :=
  command o 0x0004 true (fun s => s.laneModeCommand o mode.toNat grouping.toNat) s

/-! ### Registers -/

/-- READ_REG (R4): every word is checked before any read. -/
def State.readRegCommand (s : State) (o : Origin) (a k : Nat) : State :=
  if k = 0 ∨ 256 < k ∨ ¬ (List.range k).all (fun i => regValid (a + 4 * i)) then s.reply o stBadParam []
  else State.readRegs o k a [] s

def execReadReg (o : Origin) (addr : Word) (words : BitVec 16) (s : State) : Result State Fault Refusal :=
  command o 0x0005 true (fun s => s.readRegCommand o addr.toNat words.toNat) s

/-- WRITE_REG (R4): every pair is checked before any write. -/
def State.writeRegCommand (s : State) (o : Origin) (pairs : List (Word × Word)) : State :=
  if pairs.all fun p => regValid p.1.toNat then State.writeRegs o pairs.length pairs s else s.reply o stBadParam []

def execWriteReg (o : Origin) (pairs : List (Word × Word)) (s : State) : Result State Fault Refusal :=
  command o 0x0006 (decide (1 ≤ pairs.length ∧ pairs.length ≤ 128)) (fun s => s.writeRegCommand o pairs) s

/-! ### Reset, handover and image -/

/-- RESET_ALL is accepted; its reset is the row RESET_ALL_START (R281).  A tunnelled reply is read by no READ_REPLY. -/
def State.resetAllCommand (s : State) (o : Origin) (key : Word) : State :=
  if key = 0xC0DE5AFE then
    let s := s.reply o stOk []
    let left := match o.via with
      | .tamid _ => 1
      | _ => s.link.outbox.length + s.link.waiting.length
    { s with link := { s.link with resetAll := some { left := left, placed := s.tick } } }
  else s.reply o stBadParam []

def execResetAll (o : Origin) (key : Word) (s : State) : Result State Fault Refusal :=
  command o 0x0007 true (fun s => s.resetAllCommand o key) s

/-- CTRL_HANDOVER (R299): the follower takes the keys at the completion. -/
def execCtrlHandover (o : Origin) (s : State) : Result State Fault Refusal :=
  command o 0x0008 true (fun s =>
    if s.flag keyBase KEY_STATUS_FOLLOWER_OK then s.accept o 0x0008 0 else s.reply o stBusy []) s

/-- IMAGE_LOAD: bytes go to the firmware area of the Cellar. -/
def State.imageLoad (s : State) (o : Origin) (offset : Nat) (data : List Byte) : State :=
  if offset % 4 ≠ 0 ∨ 0x100000 < offset + data.length then s.reply o stBadParam []
  else (s.setBytes offset data).reply o stOk []

def execImageLoad (o : Origin) (offset : Word) (data : List Byte) (s : State) : Result State Fault Refusal :=
  command o 0x0009 (chunkFits data.length) (fun s => s.imageLoad o offset.toNat data) s

/-- IMAGE_COMMIT: an image is at most 1 MiB, its header included (R285). -/
def State.imageCommit (s : State) (o : Origin) (length : Nat) : State :=
  if length % 4 ≠ 0 ∨ length < 256 ∨ 0x100000 < length ∨ s.isRunning 0x000A then s.reply o stBadParam []
  else s.accept o 0x000A length

def execImageCommit (o : Origin) (length : Word) (s : State) : Result State Fault Refusal :=
  command o 0x000A true (fun s => s.imageCommit o length.toNat) s

/-! ### Completions (R272) -/

/-- The downloaded image is authenticated (R286, R290): boot goes on from step 7, or the image is refused with
detail 2. -/
def State.commitDone (s : State) (length : Nat) : State :=
  let h := s.cellarHeader
  if imageValid h (s.bytes 256 (length - 256)) then
    let s := { s with boot := { s.boot with slot := 2 } }
    ((s.imageRuns).setFld systemBase STATUS_DEV_STATE 1).complete 0x000A length stOk []
  else (s.raise 0x8008 2).complete 0x000A length stBadParam []

/-- The keys go to the follower in one core tick, and the former holder follows (R299). -/
def State.handoverDone (s : State) : State :=
  if s.flag keyBase KEY_STATUS_FOLLOWER_OK then
    ((s.moveKeys (otherCtrl s.holderCtrl)).attn ATTN_CAUSE_TAKEOVER).complete 0x0008 0 stOk []
  else s

/-- The flash operation of a FLASH_WRITE is done (Table 11-15). -/
def State.flashDone (s : State) : State :=
  match s.flashJob with
  | some j =>
    let s := { s with flashJob := none }
    let s := if j.erase then s.flashErase (j.offset - j.offset % 0x1000) else s
    (State.flashProgram j.offset j.data s).complete 0x0A04 0 stOk []
  | none => s

/-- A command that was answered ACCEPTED finishes.  IMAGE_COMMIT, CTRL_HANDOVER and FLASH_WRITE have their effect
here, with the final status that their block gives (R10); every other background command runs until the row of its own last
event, which places its completion (R21, R44, R171, R316, R358 to R360, R420, R450, R455). -/
def State.completion (s : State) (x : Running) : State :=
  if x.opcode = 0x000A then s.commitDone x.arg
  else if x.opcode = 0x0008 then s.handoverDone
  else if x.opcode = 0x0A04 then if s.flashFirst then s.flashDone else s
  else s

def execCommandComplete (seq : Byte) (opcode : BitVec 16) (s : State) : Result State Fault Refusal :=
  match s.link.running.find? fun x => x.origin.seq == seq && x.opcode == opcode.toNat with
  | some x => done ((s.completion x).kick)
  | none => unchanged s

end Sys2Proof.Machine
end

