-- ==== Sys2Proof/Machine/RoomCommands.lean ====
section
/-! DEFINITION. The engine, counter and Attic commands (Table 11-14). -/

namespace Sys2Proof.Machine

open Reg

/-! ### Rooms (Tables 10-16 and 10-17) -/

/-- A mask of the engines of a list that lie in a half of 32. -/
def engineMask (l : List Nat) (half : Nat) : Nat :=
  ((List.range 32).filter fun i => l.contains (32 * half + i)).foldl (fun m i => m + 2 ^ i) 0

/-- The record of a room. -/
def Room.record (m : Room) : List Byte :=
  let (task, spare, time) := m.last
  leBytes 4 (m.free.length % 4 * 2 ^ 30 + m.takeovers % 256 * 2 ^ 16 + m.tasksLost % 256 * 2 ^ 8) ++
    leBytes 4 (engineMask m.retired 0) ++ leBytes 4 (engineMask m.retired 1) ++
    leBytes 4 (task % 64 * 2 ^ 26 + spare % 64 * 2 ^ 20 + time % 2 ^ 20)

def State.roomBytes (s : State) : List Byte := s.rooms.rooms.toList.flatMap Room.record

def execRoomStatus (o : Origin) (s : State) : Result State Fault Refusal :=
  command o 0x0800 true (fun s => s.reply o stOk s.roomBytes) s

/-- The entry of a task: lost, on a spare, idle or gated, or on its own engine.  A spare has no task. -/
def State.mapEntry (s : State) (r : Fin 16) (t : Nat) : Nat :=
  let e := s.runOn r t
  let st :=
    if s.rooms.rooms[r].lost.contains t then 3
    else if e ≠ t then 2
    else if 62 ≤ t ∨ ¬ s.issues r e then 0 else 1
  st * 2 ^ 14 + e % 64 * 2 ^ 8

def State.mapBytes (s : State) (r : Fin 16) : List Byte := (List.range 64).flatMap fun t => leBytes 2 (s.mapEntry r t)

def execEngineMap (o : Origin) (room : Byte) (s : State) : Result State Fault Refusal :=
  command o 0x0801 true (fun s =>
    if 15 < room.toNat then s.reply o stBadParam [] else s.reply o stOk (s.mapBytes (Fin.ofNat 16 room.toNat))) s

/-! ### Guest engines (R258 to R262) -/

/-- The task of a guest engine is in a takeover. -/
def State.guestTakeover (s : State) (t : Nat) : Bool := s.rooms.rooms[(15 : Fin 16)].pending.any fun p => p.task == t

/-- A chunk of a guest image (R258): it must follow the one before, and the header must fit as soon as it is
whole. -/
def State.guestLoadCommand (s : State) (o : Origin) (t b1 offset : Nat) (data : List Byte) : State :=
  let g := s.guest t
  let image := (if offset = 0 then [] else g.image) ++ data
  if 61 < t ∨ b1 ≠ 0 ∨ (offset ≠ 0 ∧ offset ≠ g.image.length) ∨ (16 ≤ image.length ∧ ¬ guestHeaderFits image) then
    s.reply o stBadParam []
  else if g.st = 2 ∨ s.guestTakeover t then s.reply o stBusy []
  else
    let s := s.modGuest t fun g => { g with image := image }
    if image.length < 16 ∨ image.length < guestSize image then s.reply o stOk []
    else s.access (some (domRoom 15)) (.guestLoad o t) fun s => s.guestStore o t

def execGuestLoad (o : Origin) (engine b1 : Byte) (offset : BitVec 16) (data : List Byte) (s : State) :
    Result State Fault Refusal :=
  command o 0x0802 (chunkFits data.length) (fun s =>
    s.guestLoadCommand o engine.toNat b1.toNat offset.toNat data) s

/-- A healthy engine for a task: its own, or the lowest free spare where that engine is retired (R262). -/
def State.guestEngine (s : State) (t : Nat) : Option State :=
  let m := s.rooms.rooms[(15 : Fin 16)]
  let e := s.runOn 15 t
  if ¬ m.retired.contains e then some s
  else match m.free.min? with
    | some k =>
      let s := (s.bistNeeded (46 + k % 2)).modRoom 15 fun m => { m with
        free := m.free.filter (· != k), moved := m.moved.filter (fun x => x.1 != t) ++ [(t, k)] }
      some ((s.setBytes (engineBase 15 k) (s.imageBytes 15 t)).lastSpareGone 15 k)
    | none => none

/-- The engine starts from the state of R233 at 0x040, with CKW from the header; a restart loads the image again. -/
def State.guestRun (s : State) (t : Nat) : State :=
  let g := s.guest t
  let e := s.runOn 15 t
  let s := s.farDrop 15 e
  let s := if g.st = 3 then s.setBytes (engineBase 15 e) (s.imageBytes 15 t) else s
  let x : Engine := { Engine.zero with
    pc := 0x040, timerAt := s.tick, hbtAt := s.tick, ckwBase := BitVec.ofNat 16 g.ckwBase, ckwLen := BitVec.ofNat 16 (min 960 g.ckwLen) }
  (s.setEngine 15 e x).modGuest t fun g => { g with st := 2, cause := 0 }

/-- GUEST_START (R258): with no engine left the task is lost (Table 10-14 cause 8). -/
def State.guestStartCommand (s : State) (o : Origin) (t : Nat) : State :=
  let g := s.guest t
  if 61 < t ∨ g.st = 0 ∨ g.st = 2 then s.reply o stBadParam []
  else match (if s.rooms.rooms[(15 : Fin 16)].lost.contains t then none else s.guestEngine t) with
    | some s => (s.guestRun t).reply o stOk []
    | none =>
      (if s.rooms.rooms[(15 : Fin 16)].lost.contains t then s.guestTrap t 8 else s.loseTask 15 t).reply o stOk []

def execGuestStart (o : Origin) (engine : Byte) (s : State) : Result State Fault Refusal :=
  command o 0x0803 true (fun s => s.guestStartCommand o engine.toNat) s

/-- An FLD that stalls the engine of a task is abandoned with it. -/
def State.fldDrop (s : State) (e : Nat) : State :=
  { s with power := { s.power with stalled := s.power.stalled.filter fun x => x.2 != .engineFld 15 e } }

/-- GUEST_STOP: RUNNING becomes STOPPED with cause 7. -/
def State.guestStopCommand (s : State) (o : Origin) (t : Nat) : State :=
  if 61 < t then s.reply o stBadParam []
  else if (s.guest t).st = 2 then
    let e := s.runOn 15 t
    (((s.fldDrop e).modEngine 15 e fun x => { x with stopped := true, stalled := false }).guestTrap t 7).reply o stOk []
  else s.reply o stOk []

def execGuestStop (o : Origin) (engine : Byte) (s : State) : Result State Fault Refusal :=
  command o 0x0804 true (fun s => s.guestStopCommand o engine.toNat) s

/-- State, cause and PC of the guest engines. -/
def State.guestBytes (s : State) : List Byte :=
  (List.range 62).flatMap fun t =>
    leBytes 1 (s.guest t).st ++ leBytes 1 (s.guest t).cause ++ leBytes 2 (s.engine 15 (s.runOn 15 t)).pc.toNat

def execGuestStatus (o : Origin) (s : State) : Result State Fault Refusal :=
  command o 0x0805 true (fun s => s.reply o stOk s.guestBytes) s

/-- GUEST_MAILBOX (R259): words enter MBOX_IN while it has room, and up to 16 leave the host queue. -/
def State.guestMail (s : State) (o : Origin) (t : Nat) (words : List (BitVec 16)) : State :=
  if 61 < t ∨ 16 < words.length then s.reply o stBadParam []
  else
    let g := s.guest t
    let k := min words.length (16 - g.fromHost.length)
    let out := g.toHost.take 16
    let s := s.modGuest t fun g => { g with fromHost := g.fromHost ++ words.take k, toHost := g.toHost.drop 16 }
    s.reply o stOk (leBytes 1 k ++ leBytes 1 out.length ++ out.flatMap fun w => leBytes 2 w.toNat)

def execGuestMailbox (o : Origin) (engine count : Byte) (words : List (BitVec 16)) (s : State) :
    Result State Fault Refusal :=
  command o 0x0806 (words.length == count.toNat) (fun s => s.guestMail o engine.toNat words) s

/-! ### Counters -/

/-- COUNTER_CONFIG (R432). -/
def State.counterCommand (s : State) (o : Origin) (k ev threshold : Nat) : State :=
  if 127 < k ∨ ¬ eventValid ev threshold then s.reply o stBadParam []
  else (s.counterConfig k ev threshold).reply o stOk []

def execCounterConfig (o : Origin) (k : Byte) (event threshold : BitVec 16) (s : State) : Result State Fault Refusal :=
  command o 0x0900 true (fun s => s.counterCommand o k.toNat event.toNat threshold.toNat) s

/-- COUNTER_READ (R434): every counter is latched, and the ones asked for are returned. -/
def State.counterReadCommand (s : State) (o : Origin) (first count : Nat) : State :=
  if count = 0 ∨ 128 < count ∨ 128 < first + count then s.reply o stBadParam []
  else
    let bytes := (List.range count).flatMap fun i => leBytes 8 (s.counter (first + i)).count
    s.counterSnap.reply o stOk bytes

def execCounterRead (o : Origin) (first count : Byte) (s : State) : Result State Fault Refusal :=
  command o 0x0901 true (fun s => s.counterReadCommand o first.toNat count.toNat) s

/-- COUNTER_DUMP (R437). -/
def execCounterDump (o : Origin) (period : Word) (s : State) : Result State Fault Refusal :=
  command o 0x0902 true (fun s =>
    if 10000 < period.toNat then s.reply o stBadParam [] else (s.dumpPeriod period.toNat).reply o stOk []) s

/-- COUNTER_GRANT (R438). -/
def execCounterGrant (o : Origin) (g : Byte) (s : State) : Result State Fault Refusal :=
  command o 0x0903 true (fun s =>
    if 1 < g.toNat then s.reply o stBadParam []
    else (s.setFlag counterBase CNT_CTRL_GRANT (g == 1)).reply o stOk []) s

/-- ATTIC_READ (R443). -/
def State.atticCommand (s : State) (o : Origin) (index count : Nat) : State :=
  if count = 0 ∨ 16 < count then s.reply o stBadParam []
  else match s.atticRead index count with
    | some bytes => s.reply o stOk bytes
    | none => s.reply o stBadParam []

def execAtticRead (o : Origin) (index : Word) (count : Byte) (s : State) : Result State Fault Refusal :=
  command o 0x0904 true (fun s => s.atticCommand o index.toNat count.toNat) s

end Sys2Proof.Machine
end

