-- ==== Sys2Proof/Machine/UnitCommands.lean ====
section
/-! DEFINITION. The lane, memory, fault, power, housekeeping and Tamid commands (Tables 11-12 and 11-13). -/

namespace Sys2Proof.Machine

open Reg

/-! ### Lane status -/

/-- The lanes of a mask, ascending. -/
def maskLines (mask : Nat) : List (Fin 8) := allLines.filter fun n => mask.testBit n.val
def maskHosts (mask : Nat) : List (Fin 16) := allHosts.filter fun m => mask.testBit m.val

/-- Registers as the controllers see them. -/
def State.words (s : State) (base : Nat) (offs : List Nat) : List Byte :=
  wordBytes (offs.map fun o => s.peek (base + o) s.holderPort)

/-- EQ_STATUS, FEC_STATUS, LEDGER_RX and TX_STATUS. -/
def State.lineStatusBytes (s : State) (mask : Nat) : List Byte :=
  (maskLines mask).flatMap fun (n : Fin 8) => s.words (lineBase n) [0x304, 0x604, 0x200, 0x804]

/-- HT_STATUS, HR_STATUS and KP4_STATUS of HR. -/
def State.hostStatusBytes (s : State) (mask : Nat) : List Byte :=
  (maskHosts mask).flatMap fun (m : Fin 16) => s.words (hostBase m) [0x104, 0x204, 0x604]

def execLineStatus (o : Origin) (mask : Byte) (s : State) : Result State Fault Refusal :=
  command o 0x0100 true (fun s =>
    if mask = 0 then s.reply o stBadParam [] else s.reply o stOk (s.lineStatusBytes mask.toNat)) s

def execHostStatus (o : Origin) (mask : BitVec 16) (s : State) : Result State Fault Refusal :=
  command o 0x0200 true (fun s =>
    if mask = 0 then s.reply o stBadParam [] else s.reply o stOk (s.hostStatusBytes mask.toNat)) s

/-! ### Memory -/

/-- RETIRE_PAGE (R316). -/
def State.retireCommand (s : State) (o : Origin) (page : Nat) : State :=
  if page % 0x1000 ≠ 0 ∨ 0x01000000 ≤ page ∨ s.freeSpares = [] then s.reply o stBadParam []
  else if s.retireBusy then s.reply o stBusy []
  else (s.accept o 0x0300 (page / 0x1000)).retirePage (page / 0x1000)

def execRetirePage (o : Origin) (page : Word) (s : State) : Result State Fault Refusal :=
  command o 0x0300 true (fun s => s.retireCommand o page.toNat) s

/-- ECC_LOG_READ (R314). -/
def State.eccCommand (s : State) (o : Origin) (mem : Nat) (clear : Bool) : State :=
  if 3 < mem then s.reply o stBadParam []
  else
    let m := Fin.ofNat 4 mem
    let bytes := s.eccReply m
    (s.when clear fun s => s.eccClear m).reply o stOk bytes

def execEccLogRead (o : Origin) (mem flags : Byte) (s : State) : Result State Fault Refusal :=
  command o 0x0301 true (fun s => s.eccCommand o mem.toNat (flags.getLsbD 0)) s

/-- The range lies in the Cellar or in the engine memories. -/
def memReadable (a k : Nat) : Bool :=
  decide (a + k ≤ 0x01000000) || (decide (0x04000000 ≤ a) && decide (a + k ≤ 0x04C00000))

def State.memReadCommand (s : State) (o : Origin) (a k : Nat) (fs : List WordFinding) : State :=
  if a % 4 ≠ 0 ∨ k % 4 ≠ 0 ∨ k < 4 ∨ 1024 < k ∨ ¬ memReadable a k then s.reply o stBadParam []
  else State.readMem o (k / 4) a [] fs s

def execMemRead (o : Origin) (addr : Word) (count : BitVec 16) (findings : List WordFinding) (s : State) :
    Result State Fault Refusal :=
  command o 0x0302 true (fun s => s.memReadCommand o addr.toNat count.toNat findings) s

/-- MEM_WRITE: the guest scratch only (R305). -/
def State.memWriteCommand (s : State) (o : Origin) (a : Nat) (data : List Byte) : State :=
  if a % 4 ≠ 0 ∨ a < 0x00A00000 ∨ 0x00B00000 < a + data.length then s.reply o stBadParam []
  else ((s.hallAccess s.holderPort a data.length true).hallWrite a data).reply o stOk []

def execMemWrite (o : Origin) (addr : Word) (data : List Byte) (s : State) : Result State Fault Refusal :=
  command o 0x0303 (chunkFits data.length) (fun s => s.memWriteCommand o addr.toNat data) s

/-! ### Faults -/

/-- The record and the sixteen history entries (R347). -/
def State.faultBytes (s : State) : List Byte :=
  let hist := s.fuse.hist.flatMap HistEntry.words
  wordBytes s.fuse.record.words ++ wordBytes hist ++ List.replicate (16 * (16 - s.fuse.hist.length)) 0

def execFaultRead (o : Origin) (s : State) : Result State Fault Refusal :=
  command o 0x0400 true (fun s => s.reply o stOk s.faultBytes) s

/-- FAULT_CLEAR (R339). -/
def State.faultClear (s : State) (o : Origin) (bits : Byte) : State :=
  if bits = 0 then s.reply o stBadParam []
  else
    let s := s.when (bits.getLsbD 0) State.clearRecord
    (s.when (bits.getLsbD 1) State.clearHistory).reply o stOk []

def execFaultClear (o : Origin) (bits : Byte) (s : State) : Result State Fault Refusal :=
  command o 0x0401 true (fun s => s.faultClear o bits) s

/-- FAULT_CONFIG (R333). -/
def State.faultConfig (s : State) (o : Origin) (src set : Nat) : State :=
  match configSet src set with
  | some x => (s.setReactions src x).reply o stOk []
  | none => s.reply o stBadParam []

def execFaultConfig (o : Origin) (src set : BitVec 16) (s : State) : Result State Fault Refusal :=
  command o 0x0402 true (fun s => s.faultConfig o src.toNat set.toNat) s

/-- FAULT_THRESHOLD (R341). -/
def execFaultThreshold (o : Origin) (sev : Byte) (s : State) : Result State Fault Refusal :=
  command o 0x0403 true (fun s =>
    if sev = 0 ∨ 4 < sev.toNat then s.reply o stBadParam []
    else (s.setFld fuseBase FB_CTRL_THRESHOLD sev.toNat).reply o stOk []) s

/-! ### Power -/

/-- POWER_VOTE (R351, R352): the linger is set, then the HOST vote. -/
def State.voteCommand (s : State) (o : Origin) (d vote linger : Nat) : State :=
  if ¬ domVotable d ∨ 1 < vote ∨ 1000 < linger then s.reply o stBadParam []
  else ((s.setFld powerBase (DOM_LINGER.ix d) linger).putVote d voteHost (vote == 1)).reply o stOk []

def execPowerVote (o : Origin) (dom vote : Byte) (linger : BitVec 16) (s : State) : Result State Fault Refusal :=
  command o 0x0500 true (fun s => s.voteCommand o dom.toNat vote.toNat linger.toNat) s

def execPowerState (o : Origin) (st : Byte) (s : State) : Result State Fault Refusal :=
  command o 0x0501 true (fun s => s.powerState o st.toNat) s

/-- POWER_STATUS (R367). -/
def State.powerBytes (s : State) : List Byte :=
  leBytes 1 (s.fld powerBase PWR_STATE_STATE) ++ leBytes 1 (if s.flag powerBase RESET_CAUSE_BROWNOUT then 1 else 0) ++
    leBytes 2 (s.fld powerBase PWR_STATE_ABANDONED) ++ wordBytes ((List.range 4).map s.domOnWord)

def execPowerStatus (o : Origin) (s : State) : Result State Fault Refusal :=
  command o 0x0502 true (fun s => s.reply o stOk s.powerBytes) s

/-! ### Housekeeping and control DACs -/

/-- The result words of the channels of a mask, ascending. -/
def State.hkBytes (s : State) (mask : Nat) : List Byte :=
  wordBytes (((List.range 32).filter fun c => mask.testBit c).map fun c => s.reg (hkBase + 0x100 + 4 * c))

def execHkRead (o : Origin) (mask : Word) (s : State) : Result State Fault Refusal :=
  command o 0x0600 true (fun s =>
    if mask = 0 then s.reply o stBadParam [] else s.reply o stOk (s.hkBytes mask.toNat)) s

/-- CDAC_QUEUE (R376): all the codes are queued, or none. -/
def State.cdacQueueCommand (s : State) (o : Origin) (ch : Nat) (codes : List Nat) : State :=
  if 31 < ch ∨ codes = [] ∨ 16 < codes.length ∨ codes.any (fun v => decide (0x3FFF < v)) then s.reply o stBadParam []
  else
    let c := Fin.ofNat 32 ch
    if 16 < s.cdac[c].queue.length + codes.length then s.reply o stBusy []
    else (s.cdPush c codes).reply o stOk (leBytes 1 codes.length)

def execCdacQueue (o : Origin) (ch count : Byte) (codes : List (BitVec 16)) (s : State) : Result State Fault Refusal :=
  command o 0x0601 (codes.length == count.toNat) (fun s => s.cdacQueueCommand o ch.toNat (codes.map BitVec.toNat)) s

/-- RATE_DIV for a sample rate in Hz (R376). -/
def rateDiv (rate : Nat) : Nat := (roundAway ((10000000 : Rat) / (rate : Rat))).toNat

/-- CDAC_CONFIG (R377, R378). -/
def State.cdacConfigCommand (s : State) (o : Origin) (ch : Nat) (flags : Byte) (rate step safe : Nat) : State :=
  if 31 < ch ∨ rate < 10000 ∨ 10000000 < rate ∨ 0x3FFF < step ∨ 0x3FFF < safe then s.reply o stBadParam []
  else
    (s.cdConfig (Fin.ofNat 32 ch) (flags.getLsbD 0) (flags.getLsbD 1) (rateDiv rate) step safe).reply o stOk []

def execCdacConfig (o : Origin) (ch flags : Byte) (rate : Word) (step safe : BitVec 16) (s : State) :
    Result State Fault Refusal :=
  command o 0x0602 true (fun s => s.cdacConfigCommand o ch.toNat flags rate.toNat step.toNat safe.toNat) s

/-! ### Tamid -/

def execTamidConfig (o : Origin) (inst carrier fsk depth method st : Byte) (s : State) : Result State Fault Refusal :=
  command o 0x0700 true (fun s =>
    s.tamidConfig o inst.toNat carrier.toNat fsk.toNat depth.toNat method.toNat st.toNat) s

def execTamidSend (o : Origin) (inst len : Byte) (payload : List Byte) (s : State) : Result State Fault Refusal :=
  command o 0x0701 (payload.length == len.toNat) (fun s => s.tamidSend o inst.toNat len.toNat payload) s

/-- TAMID_RECEIVE (R418, R431). -/
def execTamidReceive (o : Origin) (inst : Byte) (s : State) : Result State Fault Refusal :=
  command o 0x0702 true (fun s =>
    if 7 < inst.toNat then s.reply o stBadParam []
    else
      let (bs, s) := s.tamidTake (Fin.ofNat 8 inst.toNat)
      s.reply o stOk bs) s

/-- TAMID_STATUS (R431): TM_STATUS and TM_LAST of every instance, TM_LAST read as READ_REG would. -/
def State.tamidStatus (s : State) (o : Origin) : State :=
  let (bs, s) := allLines.foldl (fun (acc : List Byte × State) (i : Fin 8) =>
    let (bs, s) := acc
    let (w, t) := s.readWord (tamidBase i + 8) s.holderPort 0
    (bs ++ wordBytes [s.tamidStatusWord i, w], t)) ([], s)
  s.reply o stOk bs

def execTamidStatus (o : Origin) (s : State) : Result State Fault Refusal :=
  command o 0x0703 true (fun s => s.tamidStatus o) s

end Sys2Proof.Machine
end

