-- ==== Sys2Proof/Machine/TestCommands.lean ====
section
/-! DEFINITION. The test, calibration, Pantry and time commands (Table 11-15). -/

namespace Sys2Proof.Machine

open Reg

/-! ### Test -/

def execLoopback (o : Origin) (kind unit code : Byte) (s : State) : Result State Fault Refusal :=
  command o 0x0A00 true (fun s => s.loopback o kind.toNat unit.toNat code.toNat) s

def execBistStatus (o : Origin) (s : State) : Result State Fault Refusal :=
  command o 0x0A01 true (fun s => s.reply o stOk s.bistStatus) s

def execDeepTest (o : Origin) (test : BitVec 16) (args : List Byte) (s : State) : Result State Fault Refusal :=
  command o 0x0A02 (decide (args.length ≤ 1022)) (fun s => s.deepTest o test.toNat args) s

def execLifecycleAdvance (o : Origin) (target : Byte) (token : List Byte) (s : State) : Result State Fault Refusal :=
  command o 0x0A03 (decide (token.length ≤ 1023)) (fun s => s.lifecycleAdvance o target.toNat token) s

/-- The operation touches a range: its bytes, or its sector where it only erases. -/
def flashTouches (offset len lo hi : Nat) : Bool := decide (offset < hi) && decide (lo < offset + max 1 len)

/-- The slot of the image that runs. -/
def State.slotRuns (s : State) (offset len : Nat) : Bool :=
  s.boot.version.isSome && (s.boot.slot == 0 && flashTouches offset len 0 0x200000 ||
    s.boot.slot == 1 && flashTouches offset len 0x200000 0x400000)

/-- FLASH_WRITE: the life cycle, the values, then the conflict (Table 11-5). -/
def State.flashCommand (s : State) (o : Origin) (offset : Nat) (flags : Byte) (zeros : Nat) (data : List Byte) : State :=
  let len := data.length
  if s.test.lifeCycle = 2 ∧ flashTouches offset len 0x400000 0x408000 then s.reply o stNotPermitted []
  else if zeros ≠ 0 ∨ 0x408000 < offset + max 1 len ∨ s.slotRuns offset len then s.reply o stBadParam []
  else if s.isRunning 0x0A04 then s.reply o stBusy []
  else
    let j : FlashJob := { offset := offset, erase := flags.getLsbD 0, data := data, since := s.tick }
    { s with flashJob := some j }.accept o 0x0A04 0

def execFlashWrite (o : Origin) (offset : Word) (flags : Byte) (zeros : BitVec 24) (data : List Byte) (s : State) :
    Result State Fault Refusal :=
  command o 0x0A04 (decide (data.length ≤ 1016)) (fun s =>
    s.flashCommand o offset.toNat flags zeros.toNat data) s

/-! ### Calibration -/

def execCalQuality (o : Origin) (kind : Byte) (s : State) : Result State Fault Refusal :=
  command o 0x0B00 true (fun s =>
    if 2 < kind.toNat then s.reply o stBadParam []
    else
      let bytes := s.calQuality kind.toNat
      let s := if kind.toNat = 2 then { s with hk := { s.hk with residualMax := 0 } } else s
      s.reply o stOk bytes) s

/-! ### Pantry -/

/-- Entries of an object (Table 7-3). -/
def objectSize (obj : Nat) : Nat := if obj < 0x10 then 1048576 else 1024

/-- PANTRY_READ (R172): a census table is read from the Pantry, the staged objects from the Cellar. -/
def State.pantryCommand (s : State) (o : Origin) (obj first count : Nat) : State :=
  if 0x1F < obj ∨ count = 0 ∨ 512 < count ∨ objectSize obj < first + count then s.reply o stBadParam []
  else if obj < 0x10 then State.readPantry o count (tableAddr obj first) [] s
  else s.reply o stOk ((s.objectEntries obj first count).flatMap fun v => leBytes 2 v)

def execPantryRead (o : Origin) (object : Byte) (first : Word) (count : BitVec 16) (s : State) :
    Result State Fault Refusal :=
  command o 0x0C00 true (fun s => s.pantryCommand o object.toNat first.toNat count.toNat) s

/-- PANTRY_FREEZE (R170). -/
def execPantryFreeze (o : Origin) (mask freeze : Byte) (s : State) : Result State Fault Refusal :=
  command o 0x0C01 true (fun s =>
    if mask = 0 ∨ 1 < freeze.toNat then s.reply o stBadParam []
    else (s.each (maskLines mask.toNat) fun n s => s.pantryFreeze n (freeze == 1)).reply o stOk []) s

/-- PANTRY_CLEAR (R171). -/
def execPantryClear (o : Origin) (mask : Byte) (s : State) : Result State Fault Refusal :=
  command o 0x0C02 true (fun s =>
    if mask = 0 then s.reply o stBadParam []
    else if s.isRunning 0x0C02 then s.reply o stBusy []
    else (s.accept o 0x0C02 mask.toNat).each (maskLines mask.toNat) fun n s => s.pantryClear n) s

/-! ### Time -/

def execSync (o : Origin) (s : State) : Result State Fault Refusal :=
  command o 0x0D00 true (fun s => s.syncRequest.reply o stOk []) s

/-- SET_CALENDAR (R225): the value takes effect at the next AO tick. -/
def execSetCalendar (o : Origin) (sec : BitVec 40) (usec : BitVec 24) (s : State) : Result State Fault Refusal :=
  command o 0x0D01 true (fun s =>
    if 999999 < usec.toNat then s.reply o stBadParam []
    else { s with clock := { s.clock with calSet := some (sec.toNat, usec.toNat) } }.reply o stOk []) s

def State.timeBytes (s : State) : List Byte :=
  leBytes 8 s.clock.deviceTime ++ leBytes 5 s.clock.calSec ++ leBytes 3 s.clock.calUsec ++
    leBytes 1 (wordField (s.reg clockBase) 24 8)

def execGetTime (o : Origin) (s : State) : Result State Fault Refusal :=
  command o 0x0D02 true (fun s => s.reply o stOk s.timeBytes) s

/-- LEDGER_RX, LEDGER_TX0, LEDGER_TX1 and LEDGER_WAIT. -/
def State.ledgerBytes (s : State) (mask : Nat) : List Byte :=
  (maskLines mask).flatMap fun (n : Fin 8) => s.words (lineBase n) [0x200, 0x204, 0x208, 0x20C]

def execLedgerRead (o : Origin) (mask : Byte) (s : State) : Result State Fault Refusal :=
  command o 0x0D03 true (fun s =>
    if mask = 0 then s.reply o stBadParam [] else s.reply o stOk (s.ledgerBytes mask.toNat)) s

end Sys2Proof.Machine
end

