-- ==== Sys2Proof/Machine/PowerWake.lean ====
section
/-! DEFINITION. Domains that are ready again, the loss of retention, the exit from DEEP and the AO sensor in DEEP
(chapter 14), and the restart after a thermal shutdown. -/

namespace Sys2Proof.Machine

open Reg

/-! ### Retention loss (R356) -/

/-- Guest engines whose memories are lost return to EMPTY (R320). -/
def State.guestsLost (s : State) (b : Nat) : State :=
  let hit := fun (e : Nat) => b == 239 || (b == 240 && decide (e < 32)) || (b == 241 && decide (32 ≤ e))
  s.each ((List.range 62).filter fun t => hit (s.runOn 15 t)) fun t s =>
    ((s.farDrop 15 (s.runOn 15 t)).setEngine 15 (s.runOn 15 t) Engine.zero).modGuest t fun _ => Guest.empty

/-- What a bank that is RETENTION_LOST held is gone: the tables of a lane (R89, R141), a part of the census (R173),
or memory (R320); a spare bank in service holds the contents of the bank it replaces, and a replaced bank none (R317). -/
def State.bankContentsLost (s : State) (b : Nat) : State :=
  let replaced := s.servedBank 193 == some b || s.servedBank 242 == some b
  let b := (s.servedBank b).getD b
  if replaced then s
  else if 243 ≤ b ∧ b ≤ 250 then s.banksLost (Fin.ofNat 8 (b - 243)) nlcRegs
  else if 251 ≤ b ∧ b ≤ 258 then s.banksLost (Fin.ofNat 8 (b - 251)) pdRegs
  else if 65 ≤ b ∧ b ≤ 192 then (s.wipeBank b).tableStale (bankTable b)
  else if 239 ≤ b ∧ b ≤ 241 then (s.wipeBank b).guestsLost b
  else s.wipeBank b

/-- A bank fails its signature. -/
def State.bankLost (s : State) (b : Nat) : State := ((s.setRetLost b true).raise 0x5010 b).bankContentsLost b

/-- Banks of a domain that fail, in ascending order, each raised once. -/
def State.banksFail (s : State) (d : Nat) (lost : List Nat) : State :=
  s.each ((List.range 264).filter fun b => lost.contains b && s.bankDomain b == d) fun b s => s.bankLost b

/-- A register group fails its parity chain. -/
def State.regGroupLost (s : State) (d : Nat) : State := (s.raise 0x5011 d).functionReset d

/-! ### Ready (R354, R355) -/

/-- The functions of a domain resume as their chapters state: a line receiver acquires (R101), a transmitter that
is enabled starts (Table 6-4, R190), a host receiver resumes under R202, and a chain that ran runs again. -/
def State.resumes (s : State) (d : Nat) : State :=
  if isLineDom d then
    let n := domLine d
    if d % 2 = 0 then
      let s := s.refreshPantryVote
      (if s.lineRxAsleep n then s else s.acqStart n).chainReady (n.castLE (by decide))
    else s.txStart n
  else if isHostDom d then
    let m := domHost d
    if d % 2 = 0 then (s.hostResume m).chainReady (hostChain m) else s.htStart m
  else s

/-- A transmitter that E1 took down is enabled again (R355). -/
def State.unquiesce (s : State) (d : Nat) : State :=
  if isLineDom d && d % 2 == 1 then s.txStart (domLine d)
  else if isHostDom d && d % 2 == 1 then s.htStart (domHost d)
  else s

/-- The domain is on: the accesses that waited proceed, and without a vote its linger starts. -/
def State.domainOpen (s : State) (d : Nat) : State := (((s.proceedAll d).unvoted d).powerSettle).kick

/-- Before a transmitter or an engine restarts at a DEEP exit, SQUELCH is written 1 on every line lane and device
time is advanced (R360, R215). -/
def State.deepResume (s : State) : State :=
  if s.inDeep then
    let s := if s.clock.running then s else s.timeJump
    s.each allLines fun n s => s.txSquelch n true
  else s

/-- The undo of an abandoned entry ends (R355). -/
def execDomainUndoDone (d : Fin 72) (s : State) : Result State Fault Refusal :=
  if s.power.undoing.contains d.val ∧ s.fld powerBase (DOM_STATE.ix d.val) = 2 then
    let s := { s with power := { s.power with undoing := s.power.undoing.filter (· != d.val) } }
    let isolated := s.isolated d.val
    let s := ((s.deepResume).setDom d.val 1 0).countAbandoned d.val
    let s := s.when isolated fun s => s.releaseSources d.val
    done ((s.unquiesce d.val).domainOpen d.val)
  else unchanged s

/-- The exit sequence of a domain ends (Table 14-4). -/
def State.domainReady (s : State) (d : Nat) (lost : List Nat) (regLost : Bool) : State :=
  let s := (((s.deepResume).setDom d 1 0).releaseSources d).wakeSyn d
  let s := (s.when regLost fun s => s.regGroupLost d).banksFail d lost
  (s.resumes d).domainOpen d

def execDomainReady (d : Fin 72) (lostBanks : List (BitVec 9)) (regLost : Bool) (s : State) :
    Result State Fault Refusal :=
  if s.fld powerBase (DOM_STATE.ix d.val) = 4 then
    done (s.domainReady d.val (lostBanks.map BitVec.toNat) regLost)
  else unchanged s

/-- A domain is not ready within twice its bound (R364): it goes on with its wake. -/
def execWakeTimeout (d : Fin 72) (s : State) : Result State Fault Refusal :=
  let st := s.fld powerBase (DOM_STATE.ix d.val)
  if st = 4 ∨ (st = 2 ∧ (s.power.undoing.contains d.val ∨ s.power.wakeAfter.contains d.val)) then
    done (((s.raise 0x5004 d.val).lateAll d.val).kick)
  else unchanged s

/-! ### DEEP -/

/-- The domains that must be on before a DEEP exit is complete: those with a vote, or every one where the entry was
abandoned; MGMT becomes ready with the part. -/
def State.deepReady (s : State) : Bool :=
  (allDomains.filter fun d => d != 1).all fun d =>
    (s.power.deepStep == 0 && s.votes d == 0) || s.domOn d

/-- DEEP exit is complete (R360). -/
def State.deepOver (s : State) (lost : List Nat) : State :=
  let s := s.deepResume
  let abandoned := s.power.deepStep ≠ 0
  let report := s.power.deepReport
  let s := if s.domOn 1 then s else ((s.setDom 1 1 0).releaseSources 1).banksFail 1 lost
  let s := ((s.settled).setFld powerBase PWR_STATE_STATE 0).watchdogsStart
  let s := s.setFlag powerBase AO_STATUS_REG_LP false
  let s := { s with power := { s.power with deepStep := 0, deepExit := false, deepReport := none } }
  let s := match report with
    | some (src, i) => s.raise src i
    | none => s
  let s := if abandoned then s.bump powerBase ABANDONED_DEEP_COUNT else s
  let s := s.complete 0x0501 3 stOk []
  ((s.proceedAll 1).each allDomains fun d s => s.unvoted d).kick

def execDeepExitComplete (lostBanks : List (BitVec 9)) (s : State) : Result State Fault Refusal :=
  if s.inDeep ∧ s.power.deepExit ∧ s.deepReady then done (s.deepOver (lostBanks.map BitVec.toNat)) else unchanged s

/-- The AO sensor is read every 100 ms in DEEP (R362): I_EST at its reading + OFFSET + 5 °C, a change to normal
mode above 36 mA, and the shutdown level (R398). -/
def State.aoReading (s : State) (ao : Nat) : State :=
  let off : Rat := (bitsInt 7 (s.fld powerBase AO_STATUS_OFFSET) : Rat) / 2
  let i := interpolate retentionTable (codeCelsius ao + off + 5)
  if ¬ s.flag powerBase AO_STATUS_REG_LP then s
  else
    let s := s.setFld powerBase AO_STATUS_I_EST (iEstField i)
    if 36 < i then
      let s := (s.setFlag powerBase AO_STATUS_REG_LP false).bump powerBase AO_STATUS_REG_SWITCHES
      { s with power := { s.power with deepReport := some (0x5003, iEstField i) } }
    else s

def execAoSensorReading (ao : BitVec 16) (s : State) : Result State Fault Refusal :=
  if s.inDeep ∧ s.power.deepStep = 0 ∧ ¬ s.clock.running then
    if shutRise < ao.toNat then done (s.shutdown 8 ao.toNat) else done (s.aoReading ao.toNat)
  else unchanged s

/-! ### Restart after a shutdown -/

/-- The restart trigger.  A part in safe state does not start the firmware again; the commands that waited for a
domain go on (R401). -/
def execThermalRestart (lostBanks : List (BitVec 9)) (s : State) : Result State Fault Refusal :=
  match s.thermal.shut with
  | some x =>
    if x.reset then done (s.restartReset x)
    else
      let s := (s.thermalRestart x (lostBanks.map BitVec.toNat)).watchdogsStart
      done (if x.safe then s.each (List.range 72) fun d s => s.proceedAll d else s)
  | none => unchanged s

end Sys2Proof.Machine
end

