-- ==== Sys2Proof/Machine/Dispatch.lean ====
section
/-! DEFINITION. One arm per command: a direct call of its meaning. -/

namespace Sys2Proof.Machine

/-- The effect of a command on everything but the queue. -/
def exec (i : Instr) (s : State) : Host.Outcome State Fault Refusal :=
  match i with
  | .writePacket bytes => Sys2Proof.Machine.execWritePacket bytes s
  | .writePacketA bytes => Sys2Proof.Machine.execWritePacketA bytes s
  | .writePacketB bytes => Sys2Proof.Machine.execWritePacketB bytes s
  | .readReply complete => Sys2Proof.Machine.execReadReply complete s
  | .writeFront index value arriving => Sys2Proof.Machine.execWriteFront index value arriving s
  | .readFront index count => Sys2Proof.Machine.execReadFront index count s
  | .i3cCcc ccc => Sys2Proof.Machine.execI3cCcc ccc s
  | .commandComplete seq opcode => Sys2Proof.Machine.execCommandComplete seq opcode s
  | .readReg o addr words => Sys2Proof.Machine.execReadReg o addr words s
  | .writeReg o pairs => Sys2Proof.Machine.execWriteReg o pairs s
  | .registerWrite by_ addr value arriving => Sys2Proof.Machine.execRegisterWrite by_ addr value arriving s
  | .rcFieldRead addr arriving => Sys2Proof.Machine.execRcFieldRead addr arriving s
  | .ping o data => Sys2Proof.Machine.execPing o data s
  | .getInfo o => Sys2Proof.Machine.execGetInfo o s
  | .getState o => Sys2Proof.Machine.execGetState o s
  | .setProfile o profile => Sys2Proof.Machine.execSetProfile o profile s
  | .setLaneMode o mode grouping => Sys2Proof.Machine.execSetLaneMode o mode grouping s
  | .resetAll o key => Sys2Proof.Machine.execResetAll o key s
  | .resetAllStart => Sys2Proof.Machine.execResetAllStart s
  | .ctrlHandover o => Sys2Proof.Machine.execCtrlHandover o s
  | .imageLoad o offset data => Sys2Proof.Machine.execImageLoad o offset data s
  | .imageCommit o length => Sys2Proof.Machine.execImageCommit o length s
  | .lineStatus o mask => Sys2Proof.Machine.execLineStatus o mask s
  | .hostStatus o mask => Sys2Proof.Machine.execHostStatus o mask s
  | .retirePage o page => Sys2Proof.Machine.execRetirePage o page s
  | .eccLogRead o mem flags => Sys2Proof.Machine.execEccLogRead o mem flags s
  | .memRead o addr count findings => Sys2Proof.Machine.execMemRead o addr count findings s
  | .memWrite o addr data => Sys2Proof.Machine.execMemWrite o addr data s
  | .faultRead o => Sys2Proof.Machine.execFaultRead o s
  | .faultClear o bits => Sys2Proof.Machine.execFaultClear o bits s
  | .faultConfig o src set => Sys2Proof.Machine.execFaultConfig o src set s
  | .faultThreshold o sev => Sys2Proof.Machine.execFaultThreshold o sev s
  | .powerVote o dom vote linger => Sys2Proof.Machine.execPowerVote o dom vote linger s
  | .powerState o st => Sys2Proof.Machine.execPowerState o st s
  | .powerStatus o => Sys2Proof.Machine.execPowerStatus o s
  | .hkRead o mask => Sys2Proof.Machine.execHkRead o mask s
  | .cdacQueue o ch count codes => Sys2Proof.Machine.execCdacQueue o ch count codes s
  | .cdacConfig o ch flags rate step safe => Sys2Proof.Machine.execCdacConfig o ch flags rate step safe s
  | .tamidConfig o inst carrier fsk depth method st => Sys2Proof.Machine.execTamidConfig o inst carrier fsk depth method st s
  | .tamidSend o inst len payload => Sys2Proof.Machine.execTamidSend o inst len payload s
  | .tamidReceive o inst => Sys2Proof.Machine.execTamidReceive o inst s
  | .tamidStatus o => Sys2Proof.Machine.execTamidStatus o s
  | .roomStatus o => Sys2Proof.Machine.execRoomStatus o s
  | .engineMap o room => Sys2Proof.Machine.execEngineMap o room s
  | .guestLoad o engine b1 offset data => Sys2Proof.Machine.execGuestLoad o engine b1 offset data s
  | .guestStart o engine => Sys2Proof.Machine.execGuestStart o engine s
  | .guestStop o engine => Sys2Proof.Machine.execGuestStop o engine s
  | .guestStatus o => Sys2Proof.Machine.execGuestStatus o s
  | .guestMailbox o engine count words => Sys2Proof.Machine.execGuestMailbox o engine count words s
  | .counterConfig o k event threshold => Sys2Proof.Machine.execCounterConfig o k event threshold s
  | .counterRead o first count => Sys2Proof.Machine.execCounterRead o first count s
  | .counterDump o period => Sys2Proof.Machine.execCounterDump o period s
  | .counterGrant o g => Sys2Proof.Machine.execCounterGrant o g s
  | .atticRead o index count => Sys2Proof.Machine.execAtticRead o index count s
  | .loopback o kind unit code => Sys2Proof.Machine.execLoopback o kind unit code s
  | .bistStatus o => Sys2Proof.Machine.execBistStatus o s
  | .deepTest o test args => Sys2Proof.Machine.execDeepTest o test args s
  | .lifecycleAdvance o target token => Sys2Proof.Machine.execLifecycleAdvance o target token s
  | .flashWrite o offset flags zeros data => Sys2Proof.Machine.execFlashWrite o offset flags zeros data s
  | .calQuality o kind => Sys2Proof.Machine.execCalQuality o kind s
  | .pantryRead o object first count => Sys2Proof.Machine.execPantryRead o object first count s
  | .pantryFreeze o mask freeze => Sys2Proof.Machine.execPantryFreeze o mask freeze s
  | .pantryClear o mask => Sys2Proof.Machine.execPantryClear o mask s
  | .sync o => Sys2Proof.Machine.execSync o s
  | .setCalendar o sec usec => Sys2Proof.Machine.execSetCalendar o sec usec s
  | .getTime o => Sys2Proof.Machine.execGetTime o s
  | .ledgerRead o mask => Sys2Proof.Machine.execLedgerRead o mask s
  | .ctrlWatchdogRestart ctl => Sys2Proof.Machine.execCtrlWatchdogRestart ctl s
  | .holderWatchdogExpiry => Sys2Proof.Machine.execHolderWatchdogExpiry s
  | .ctrlRejoin ctl selfTestOk => Sys2Proof.Machine.execCtrlRejoin ctl selfTestOk s
  | .followerWatchdogExpiry => Sys2Proof.Machine.execFollowerWatchdogExpiry s
  | .noController => Sys2Proof.Machine.execNoController s
  | .dualClaim ctl => Sys2Proof.Machine.execDualClaim ctl s
  | .keyUpset bit resolvable => Sys2Proof.Machine.execKeyUpset bit resolvable s
  | .resetNFall => Sys2Proof.Machine.execResetNFall s
  | .supplyRelease straps xtal => Sys2Proof.Machine.execSupplyRelease straps xtal s
  | .resetNRise straps => Sys2Proof.Machine.execResetNRise straps s
  | .bootStepDone ev => Sys2Proof.Machine.execBootStepDone ev s
  | .trafficReadySet => Sys2Proof.Machine.execTrafficReadySet s
  | .corePllLock => Sys2Proof.Machine.execCorePllLock s
  | .synthLock k => Sys2Proof.Machine.execSynthLock k s
  | .refLoss freq => Sys2Proof.Machine.execRefLoss freq s
  | .holdoverEnd => Sys2Proof.Machine.execHoldoverEnd s
  | .refReturn locks => Sys2Proof.Machine.execRefReturn locks s
  | .coreUnlock => Sys2Proof.Machine.execCoreUnlock s
  | .coreRelockRetry locks => Sys2Proof.Machine.execCoreRelockRetry locks s
  | .synthUnlock k => Sys2Proof.Machine.execSynthUnlock k s
  | .syncInEdge fine explicitToo => Sys2Proof.Machine.execSyncInEdge fine explicitToo s
  | .syncNow => Sys2Proof.Machine.execSyncNow s
  | .aoDiscipline trim temp => Sys2Proof.Machine.execAoDiscipline trim temp s
  | .disciplineOld => Sys2Proof.Machine.execDisciplineOld s
  | .xtalFail => Sys2Proof.Machine.execXtalFail s
  | .dtLoRead => Sys2Proof.Machine.execDtLoRead s
  | .calSecLoRead => Sys2Proof.Machine.execCalSecLoRead s
  | .followRange n stream ppm => Sys2Proof.Machine.execFollowRange n stream ppm s
  | .followRangeEnd n stream ppm => Sys2Proof.Machine.execFollowRangeEnd n stream ppm s
  | .pairSlip n skew slips => Sys2Proof.Machine.execPairSlip n skew slips s
  | .pairRealignDone n => Sys2Proof.Machine.execPairRealignDone n s
  | .deskewRange n host skew => Sys2Proof.Machine.execDeskewRange n host skew s
  | .deskewRetry n host skew => Sys2Proof.Machine.execDeskewRetry n host skew s
  | .groupRealignDone n => Sys2Proof.Machine.execGroupRealignDone n s
  | .laneModeChangeDone => Sys2Proof.Machine.execLaneModeChangeDone s
  | .profileGroupSwitch n => Sys2Proof.Machine.execProfileGroupSwitch n s
  | .profileGroupRealigned n => Sys2Proof.Machine.execProfileGroupRealigned n s
  | .ledgerRecompute n which dev wait unsettling => Sys2Proof.Machine.execLedgerRecompute n which dev wait unsettling s
  | .ledgerSettle n which dev wait unsettling => Sys2Proof.Machine.execLedgerSettle n which dev wait unsettling s
  | .afeLevelUpdate n level => Sys2Proof.Machine.execAfeLevelUpdate n level s
  | .vgaWindow n high total meanSquare => Sys2Proof.Machine.execVgaWindow n high total meanSquare s
  | .afeCtrlWrite n value => Sys2Proof.Machine.execAfeCtrlWrite n value s
  | .adcBlockEnd n stats => Sys2Proof.Machine.execAdcBlockEnd n stats s
  | .ovrWindow n high total => Sys2Proof.Machine.execOvrWindow n high total s
  | .adcConverged n => Sys2Proof.Machine.execAdcConverged n s
  | .rotationStep n => Sys2Proof.Machine.execRotationStep n s
  | .spareCalDone n ramps => Sys2Proof.Machine.execSpareCalDone n ramps s
  | .rotationHandover n blocks spur abrupt => Sys2Proof.Machine.execRotationHandover n blocks spur abrupt s
  | .rotationAbort n => Sys2Proof.Machine.execRotationAbort n s
  | .sliceCheckFlag n slice conv => Sys2Proof.Machine.execSliceCheckFlag n slice conv s
  | .sliceAbruptFault n signs => Sys2Proof.Machine.execSliceAbruptFault n signs s
  | .sliceDegrading n slice => Sys2Proof.Machine.execSliceDegrading n slice s
  | .substSpareArrived n => Sys2Proof.Machine.execSubstSpareArrived n s
  | .urgentSubstHandover n blocks => Sys2Proof.Machine.execUrgentSubstHandover n blocks s
  | .substRetry n => Sys2Proof.Machine.execSubstRetry n s
  | .substReq n slice detector => Sys2Proof.Machine.execSubstReq n slice detector s
  | .ffeWindow n symbols => Sys2Proof.Machine.execFfeWindow n symbols s
  | .timingUpdate n o => Sys2Proof.Machine.execTimingUpdate n o s
  | .mlseLevelUpdate n symbols => Sys2Proof.Machine.execMlseLevelUpdate n symbols s
  | .nlcSwap n lockLost => Sys2Proof.Machine.execNlcSwap n lockLost s
  | .nlcEngineSwap n => Sys2Proof.Machine.execNlcEngineSwap n s
  | .nlcFadeComplete n => Sys2Proof.Machine.execNlcFadeComplete n s
  | .nlcFadeResume n => Sys2Proof.Machine.execNlcFadeResume n s
  | .nlcBankWrite n bank idx value swap => Sys2Proof.Machine.execNlcBankWrite n bank idx value swap s
  | .nlcEnWrite n en => Sys2Proof.Machine.execNlcEnWrite n en s
  | .lineReacq n => Sys2Proof.Machine.execLineReacq n s
  | .lineRxPrecodeWrite n on => Sys2Proof.Machine.execLineRxPrecodeWrite n on s
  | .lineAcqStepDone n r => Sys2Proof.Machine.execLineAcqStepDone n r s
  | .lineAcqStepTimeout n => Sys2Proof.Machine.execLineAcqStepTimeout n s
  | .acqFail n => Sys2Proof.Machine.execAcqFail n s
  | .lineSignalPresent n => Sys2Proof.Machine.execLineSignalPresent n s
  | .lineLos n => Sys2Proof.Machine.execLineLos n s
  | .lineLosEnd n within100ms => Sys2Proof.Machine.execLineLosEnd n within100ms s
  | .lineFreqLimit n => Sys2Proof.Machine.execLineFreqLimit n s
  | .lineRelockTimeout n => Sys2Proof.Machine.execLineRelockTimeout n s
  | .snrPublish n symbols err => Sys2Proof.Machine.execSnrPublish n symbols err s
  | .lineFrameReceived n words => Sys2Proof.Machine.execLineFrameReceived n words s
  | .innerCodewordDecode n soft marker => Sys2Proof.Machine.execInnerCodewordDecode n soft marker s
  | .kp4Codeword m mon word => Sys2Proof.Machine.execKp4Codeword m mon word s
  | .kp4CwLockAcquired m tests => Sys2Proof.Machine.execKp4CwLockAcquired m tests s
  | .counterBlockSnap b alsoClr arrived => Sys2Proof.Machine.execCounterBlockSnap b alsoClr arrived s
  | .counterBlockClr b arrived => Sys2Proof.Machine.execCounterBlockClr b arrived s
  | .berPublish n => Sys2Proof.Machine.execBerPublish n s
  | .terminateWrite m mon on => Sys2Proof.Machine.execTerminateWrite m mon on s
  | .txEnable n => Sys2Proof.Machine.execTxEnable n s
  | .txCalDone n => Sys2Proof.Machine.execTxCalDone n s
  | .txCmRampDone n => Sys2Proof.Machine.execTxCmRampDone n s
  | .txAmpRampDone n => Sys2Proof.Machine.execTxAmpRampDone n s
  | .txDisable n => Sys2Proof.Machine.execTxDisable n s
  | .txFallDone n => Sys2Proof.Machine.execTxFallDone n s
  | .txSquelchWrite n on => Sys2Proof.Machine.execTxSquelchWrite n on s
  | .txPrecodeWrite n on => Sys2Proof.Machine.execTxPrecodeWrite n on s
  | .txFirApply n => Sys2Proof.Machine.execTxFirApply n s
  | .txGlideStep n => Sys2Proof.Machine.execTxGlideStep n s
  | .pdSwap n stopping => Sys2Proof.Machine.execPdSwap n stopping s
  | .pdFadeComplete n => Sys2Proof.Machine.execPdFadeComplete n s
  | .pdFadeResume n => Sys2Proof.Machine.execPdFadeResume n s
  | .pdBankWrite n bank idx value swap => Sys2Proof.Machine.execPdBankWrite n bank idx value swap s
  | .pdEnWrite n en => Sys2Proof.Machine.execPdEnWrite n en s
  | .txSatWindow n count => Sys2Proof.Machine.execTxSatWindow n count s
  | .cellRotationStep n sub => Sys2Proof.Machine.execCellRotationStep n sub s
  | .cellTrimDone n sub => Sys2Proof.Machine.execCellTrimDone n sub s
  | .dacCellAbrupt n sub cell handover => Sys2Proof.Machine.execDacCellAbrupt n sub cell handover s
  | .dacCellDegrading n sub cell => Sys2Proof.Machine.execDacCellDegrading n sub cell s
  | .subdacTrimUpdate n trims spur => Sys2Proof.Machine.execSubdacTrimUpdate n trims spur s
  | .txPatSelWrite n sel => Sys2Proof.Machine.execTxPatSelWrite n sel s
  | .lineChkSelWrite n sel => Sys2Proof.Machine.execLineChkSelWrite n sel s
  | .chkLockAcquired k symbols => Sys2Proof.Machine.execChkLockAcquired k symbols s
  | .chkLockLoss k compared => Sys2Proof.Machine.execChkLockLoss k compared s
  | .censusSample n clock => Sys2Proof.Machine.execCensusSample n clock s
  | .pantryFreezeWrite n on => Sys2Proof.Machine.execPantryFreezeWrite n on s
  | .pantryClearWrite n => Sys2Proof.Machine.execPantryClearWrite n s
  | .pantryClearDone n => Sys2Proof.Machine.execPantryClearDone n s
  | .updaterFail n => Sys2Proof.Machine.execUpdaterFail n s
  | .cancellerDerive n => Sys2Proof.Machine.execCancellerDerive n s
  | .cancellerInstall n hostSwap => Sys2Proof.Machine.execCancellerInstall n hostSwap s
  | .installEvaluate n => Sys2Proof.Machine.execInstallEvaluate n s
  | .proposalSend n => Sys2Proof.Machine.execProposalSend n s
  | .proposeReceived n => Sys2Proof.Machine.execProposeReceived n s
  | .ackReceived n => Sys2Proof.Machine.execAckReceived n s
  | .revertReceived n => Sys2Proof.Machine.execRevertReceived n s
  | .proposalTimeout n => Sys2Proof.Machine.execProposalTimeout n s
  | .proposalAssemblyTimeout n => Sys2Proof.Machine.execProposalAssemblyTimeout n s
  | .htFirApply m training => Sys2Proof.Machine.execHtFirApply m training s
  | .presetApply m preset firApply => Sys2Proof.Machine.execPresetApply m preset firApply s
  | .hostTxPrecodeWrite m on => Sys2Proof.Machine.execHostTxPrecodeWrite m on s
  | .hostRxPrecodeWrite m on => Sys2Proof.Machine.execHostRxPrecodeWrite m on s
  | .htEnable m => Sys2Proof.Machine.execHtEnable m s
  | .htDisable m => Sys2Proof.Machine.execHtDisable m s
  | .htOffReached m => Sys2Proof.Machine.execHtOffReached m s
  | .htSquelchWrite m on => Sys2Proof.Machine.execHtSquelchWrite m on s
  | .hrEnable m on => Sys2Proof.Machine.execHrEnable m on s
  | .hostReacq m => Sys2Proof.Machine.execHostReacq m s
  | .hostCtleWrite m man set => Sys2Proof.Machine.execHostCtleWrite m man set s
  | .hostAcqStepDone m r => Sys2Proof.Machine.execHostAcqStepDone m r s
  | .hostAcqStepTimeout m => Sys2Proof.Machine.execHostAcqStepTimeout m s
  | .hrAcqFail m => Sys2Proof.Machine.execHrAcqFail m s
  | .hrSignalPresent m => Sys2Proof.Machine.execHrSignalPresent m s
  | .hrLos m => Sys2Proof.Machine.execHrLos m s
  | .hrLosEnd m within100ms => Sys2Proof.Machine.execHrLosEnd m within100ms s
  | .hostRxUpdate m u => Sys2Proof.Machine.execHostRxUpdate m u s
  | .hrCdrLimit m => Sys2Proof.Machine.execHrCdrLimit m s
  | .hostRelockTimeout m => Sys2Proof.Machine.execHostRelockTimeout m s
  | .hrQualPublish m q => Sys2Proof.Machine.execHrQualPublish m q s
  | .trainStart m => Sys2Proof.Machine.execTrainStart m s
  | .trainRequestReceived m req => Sys2Proof.Machine.execTrainRequestReceived m req s
  | .trainRequesterStep m rise => Sys2Proof.Machine.execTrainRequesterStep m rise s
  | .trainDone m => Sys2Proof.Machine.execTrainDone m s
  | .trainFail m => Sys2Proof.Machine.execTrainFail m s
  | .htSleepWrite m on => Sys2Proof.Machine.execHtSleepWrite m on s
  | .hrSleepWrite m on reacq => Sys2Proof.Machine.execHrSleepWrite m on reacq s
  | .hostPatSelWrite m sel => Sys2Proof.Machine.execHostPatSelWrite m sel s
  | .hostChkSelWrite m sel => Sys2Proof.Machine.execHostChkSelWrite m sel s
  | .txOutput m percent => Sys2Proof.Machine.execTxOutput m percent s
  | .engNop r e => Sys2Proof.Machine.execEngNop r e s
  | .engAdd r e => Sys2Proof.Machine.execEngAdd r e s
  | .engAdds r e => Sys2Proof.Machine.execEngAdds r e s
  | .engSub r e => Sys2Proof.Machine.execEngSub r e s
  | .engSubs r e => Sys2Proof.Machine.execEngSubs r e s
  | .engAnd r e => Sys2Proof.Machine.execEngAnd r e s
  | .engOr r e => Sys2Proof.Machine.execEngOr r e s
  | .engXor r e => Sys2Proof.Machine.execEngXor r e s
  | .engAsr r e => Sys2Proof.Machine.execEngAsr r e s
  | .engLsl r e => Sys2Proof.Machine.execEngLsl r e s
  | .engLsr r e => Sys2Proof.Machine.execEngLsr r e s
  | .engAbs r e => Sys2Proof.Machine.execEngAbs r e s
  | .engNeg r e => Sys2Proof.Machine.execEngNeg r e s
  | .engCmp r e => Sys2Proof.Machine.execEngCmp r e s
  | .engMov r e => Sys2Proof.Machine.execEngMov r e s
  | .engLdi r e => Sys2Proof.Machine.execEngLdi r e s
  | .engAddi r e => Sys2Proof.Machine.execEngAddi r e s
  | .engAndi r e => Sys2Proof.Machine.execEngAndi r e s
  | .engAsri r e => Sys2Proof.Machine.execEngAsri r e s
  | .engLsli r e => Sys2Proof.Machine.execEngLsli r e s
  | .engCmpi r e => Sys2Proof.Machine.execEngCmpi r e s
  | .engSeta r e => Sys2Proof.Machine.execEngSeta r e s
  | .engSeto r e => Sys2Proof.Machine.execEngSeto r e s
  | .engMvda r e => Sys2Proof.Machine.execEngMvda r e s
  | .engMvad r e => Sys2Proof.Machine.execEngMvad r e s
  | .engLd r e => Sys2Proof.Machine.execEngLd r e s
  | .engSt r e => Sys2Proof.Machine.execEngSt r e s
  | .engLdd r e => Sys2Proof.Machine.execEngLdd r e s
  | .engSha r e => Sys2Proof.Machine.execEngSha r e s
  | .engMac r e => Sys2Proof.Machine.execEngMac r e s
  | .engMsu r e => Sys2Proof.Machine.execEngMsu r e s
  | .engMpy r e => Sys2Proof.Machine.execEngMpy r e s
  | .engMacd r e => Sys2Proof.Machine.execEngMacd r e s
  | .engClr r e => Sys2Proof.Machine.execEngClr r e s
  | .engSta r e => Sys2Proof.Machine.execEngSta r e s
  | .engMvac r e => Sys2Proof.Machine.execEngMvac r e s
  | .engLacc r e => Sys2Proof.Machine.execEngLacc r e s
  | .engBr r e => Sys2Proof.Machine.execEngBr r e s
  | .engCall r e => Sys2Proof.Machine.execEngCall r e s
  | .engRet r e => Sys2Proof.Machine.execEngRet r e s
  | .engRep r e => Sys2Proof.Machine.execEngRep r e s
  | .engRpb r e => Sys2Proof.Machine.execEngRpb r e s
  | .engWait r e => Sys2Proof.Machine.execEngWait r e s
  | .engEvret r e => Sys2Proof.Machine.execEngEvret r e s
  | .engHbt r e => Sys2Proof.Machine.execEngHbt r e s
  | .engSig r e => Sys2Proof.Machine.execEngSig r e s
  | .engMfs r e => Sys2Proof.Machine.execEngMfs r e s
  | .engMvs r e => Sys2Proof.Machine.execEngMvs r e s
  | .engHalt r e => Sys2Proof.Machine.execEngHalt r e s
  | .engFld r e => Sys2Proof.Machine.execEngFld r e s
  | .engFst r e => Sys2Proof.Machine.execEngFst r e s
  | .engMvfp r e => Sys2Proof.Machine.execEngMvfp r e s
  | .engIn r e => Sys2Proof.Machine.execEngIn r e s
  | .engOut r e => Sys2Proof.Machine.execEngOut r e s
  | .engPub r e => Sys2Proof.Machine.execEngPub r e s
  | .shadowSetTaken r e => Sys2Proof.Machine.execShadowSetTaken r e s
  | .engineEventEntry r e => Sys2Proof.Machine.execEngineEventEntry r e s
  | .engineTimerExpiry r e => Sys2Proof.Machine.execEngineTimerExpiry r e s
  | .engineWatchdogExpiry r e => Sys2Proof.Machine.execEngineWatchdogExpiry r e s
  | .engineFault r e code => Sys2Proof.Machine.execEngineFault r e code s
  | .checkpointSnapshot r t => Sys2Proof.Machine.execCheckpointSnapshot r t s
  | .checkpointCommit r t => Sys2Proof.Machine.execCheckpointCommit r t s
  | .takeoverResume r e => Sys2Proof.Machine.execTakeoverResume r e s
  | .scrubStep f => Sys2Proof.Machine.execScrubStep f s
  | .pageReconstructDone page => Sys2Proof.Machine.execPageReconstructDone page s
  | .ceWindow mem => Sys2Proof.Machine.execCeWindow mem s
  | .pageRetireDone found => Sys2Proof.Machine.execPageRetireDone found s
  | .bankRetire bank init => Sys2Proof.Machine.execBankRetire bank init s
  | .bankRetireDone found => Sys2Proof.Machine.execBankRetireDone found s
  | .bankInit bank => Sys2Proof.Machine.execBankInit bank s
  | .bankInitDone => Sys2Proof.Machine.execBankInitDone s
  | .faultRaise raises => Sys2Proof.Machine.execFaultRaise raises s
  | .pathBroken src => Sys2Proof.Machine.execPathBroken src s
  | .pathRestored src fault detail => Sys2Proof.Machine.execPathRestored src fault detail s
  | .levelSourceQuiet src => Sys2Proof.Machine.execLevelSourceQuiet src s
  | .fbUpset word resolvable => Sys2Proof.Machine.execFbUpset word resolvable s
  | .ffr0Read => Sys2Proof.Machine.execFfr0Read s
  | .lingerExpiry d => Sys2Proof.Machine.execLingerExpiry d s
  | .domainEntryStep d => Sys2Proof.Machine.execDomainEntryStep d s
  | .domainWakeRequest d => Sys2Proof.Machine.execDomainWakeRequest d s
  | .domainUndoDone d => Sys2Proof.Machine.execDomainUndoDone d s
  | .domainReady d lostBanks regLost => Sys2Proof.Machine.execDomainReady d lostBanks regLost s
  | .wakeTimeout d => Sys2Proof.Machine.execWakeTimeout d s
  | .dozeExit => Sys2Proof.Machine.execDozeExit s
  | .deepEntryStep => Sys2Proof.Machine.execDeepEntryStep s
  | .deepWakeTimer => Sys2Proof.Machine.execDeepWakeTimer s
  | .deepExitComplete lostBanks => Sys2Proof.Machine.execDeepExitComplete lostBanks s
  | .aoSensorReading ao => Sys2Proof.Machine.execAoSensorReading ao s
  | .brownout => Sys2Proof.Machine.execBrownout s
  | .lineRxSleepWrite mask => Sys2Proof.Machine.execLineRxSleepWrite mask s
  | .hkRoundStart => Sys2Proof.Machine.execHkRoundStart s
  | .hkConversion volts other vref => Sys2Proof.Machine.execHkConversion volts other vref s
  | .hkRoundEnd => Sys2Proof.Machine.execHkRoundEnd s
  | .hkTriggerTimerExpiry k => Sys2Proof.Machine.execHkTriggerTimerExpiry k s
  | .hkTrigger k busy => Sys2Proof.Machine.execHkTrigger k busy s
  | .hkTriggerConversionDone k volts other vref => Sys2Proof.Machine.execHkTriggerConversionDone k volts other vref s
  | .cdacSampleTick c => Sys2Proof.Machine.execCdacSampleTick c s
  | .cdacRangeSwitch c => Sys2Proof.Machine.execCdacRangeSwitch c s
  | .mcStart j => Sys2Proof.Machine.execMcStart j s
  | .mcStop j => Sys2Proof.Machine.execMcStop j s
  | .mcSwap j => Sys2Proof.Machine.execMcSwap j s
  | .mcConfigWrite j offset value => Sys2Proof.Machine.execMcConfigWrite j offset value s
  | .mcForceFbWrite j on => Sys2Proof.Machine.execMcForceFbWrite j on s
  | .mcOutput j samples => Sys2Proof.Machine.execMcOutput j samples s
  | .mcFadeComplete j => Sys2Proof.Machine.execMcFadeComplete j s
  | .chainFault j => Sys2Proof.Machine.execChainFault j s
  | .thermalCompare elements => Sys2Proof.Machine.execThermalCompare elements s
  | .shutdownFlashDrain op offset data => Sys2Proof.Machine.execShutdownFlashDrain op offset data s
  | .thermalRestart lostBanks => Sys2Proof.Machine.execThermalRestart lostBanks s
  | .sensorMismatch site a b => Sys2Proof.Machine.execSensorMismatch site a b s
  | .sensorMismatchClear site a b => Sys2Proof.Machine.execSensorMismatchClear site a b s
  | .thermalPeriodChange => Sys2Proof.Machine.execThermalPeriodChange s
  | .calInterpolate => Sys2Proof.Machine.execCalInterpolate s
  | .tamidTransitionDone inst spectrum => Sys2Proof.Machine.execTamidTransitionDone inst spectrum s
  | .tamidPacketStart inst spectrum => Sys2Proof.Machine.execTamidPacketStart inst spectrum s
  | .tamidPacketEnd inst => Sys2Proof.Machine.execTamidPacketEnd inst s
  | .tamidAgcUpdate inst level => Sys2Proof.Machine.execTamidAgcUpdate inst level s
  | .tamidDetect inst corr level => Sys2Proof.Machine.execTamidDetect inst corr level s
  | .tamidSyncAccept inst word afc delay => Sys2Proof.Machine.execTamidSyncAccept inst word afc delay s
  | .tamidSyncTimeout inst => Sys2Proof.Machine.execTamidSyncTimeout inst s
  | .tamidPacketReceived inst raw => Sys2Proof.Machine.execTamidPacketReceived inst raw s
  | .tamidCapture inst level => Sys2Proof.Machine.execTamidCapture inst level s
  | .uliraCmd inst => Sys2Proof.Machine.execUliraCmd inst s
  | .tamidCalSlice inst ev => Sys2Proof.Machine.execTamidCalSlice inst ev s
  | .tamidCacheExpiry half carrier => Sys2Proof.Machine.execTamidCacheExpiry half carrier s
  | .tamidShapeWrite inst j value => Sys2Proof.Machine.execTamidShapeWrite inst j value s
  | .cntSnap alsoClr => Sys2Proof.Machine.execCntSnap alsoClr s
  | .cntClr => Sys2Proof.Machine.execCntClr s
  | .cntLiveLoRead k port => Sys2Proof.Machine.execCntLiveLoRead k port s
  | .bwWindowEnd => Sys2Proof.Machine.execBwWindowEnd s
  | .bwWindowWrite window => Sys2Proof.Machine.execBwWindowWrite window s
  | .counterDumpLatch => Sys2Proof.Machine.execCounterDumpLatch s
  | .dumpWriteDone => Sys2Proof.Machine.execDumpWriteDone s
  | .atticPeriodic => Sys2Proof.Machine.execAtticPeriodic s
  | .atticRecordWrite eraseOk verify1 verify2 => Sys2Proof.Machine.execAtticRecordWrite eraseOk verify1 verify2 s
  | .atticStandingWrite ok => Sys2Proof.Machine.execAtticStandingWrite ok s
  | .lifecycleProgramDone verified => Sys2Proof.Machine.execLifecycleProgramDone verified s
  | .deepTestDone pass coverage signature results => Sys2Proof.Machine.execDeepTestDone pass coverage signature results s
  | .bistTurn => Sys2Proof.Machine.execBistTurn s
  | .bistSliceEnd sl result coverage duration cell => Sys2Proof.Machine.execBistSliceEnd sl result coverage duration cell s
  | .bistEnWrite on => Sys2Proof.Machine.execBistEnWrite on s
  | .jtagInstruction trstLow ins => Sys2Proof.Machine.execJtagInstruction trstLow ins s
  | .railLoss rails => Sys2Proof.Machine.execRailLoss rails s
  | .vidEvaluate target => Sys2Proof.Machine.execVidEvaluate target s
  | .vidStep => Sys2Proof.Machine.execVidStep s

end Sys2Proof.Machine
end

