-- ==== Sys2Proof/Machine/Slices.lean ====
section
/-! DEFINITION. The datapath of the line receive converter: which slice takes which symbol, and what the slice correction
makes of its codes (R53, R56, R57, R60, R69, R71). -/

namespace Sys2Proof.Machine

open Reg

/-! ### Sampling phases (R56, R76) -/

/-- The line symbol period in ps: 3/680 ns, twice that in 200G line mode. -/
def State.symbolPeriod (s : State) : Rat := if s.line200 then 150 / 17 else 75 / 17

/-- The position that samples line symbol i, the position's count of samples before it, and the time of the sample in ps
after t0 (R56). -/
def symbolPosition (i : Int) : Nat := (i % 16).toNat
def symbolConversion (i : Int) : Int := i / 16
def State.symbolTime (s : State) (i : Int) : Rat := i * s.symbolPeriod

/-- The phase of a position within the slice clock, in sixteenths of its period of 70.588 ps, that is in units of the
symbol period of 400G line mode (Table 3-2). -/
def State.slicePhase (s : State) (p : Nat) : Nat := if s.line200 then 2 * p % 16 else p

/-- A position samples in this period of the slice clock: in 200G line mode positions 0–7 in even periods and 8–15 in odd
ones (Table 3-2). -/
def State.usesPeriod (s : State) (p k : Nat) : Bool := !s.line200 || (k % 2 == p / 8)

/-- Symbols in one line datapath clock, and samples of each position (R56, R76). -/
def State.symbolsPerClock (s : State) : Nat := if s.line200 then 128 else 256
def State.samplesPerClock (s : State) : Nat := s.symbolsPerClock / 16

/-! ### Slice correction (R54, R57, R60) -/

/-- A sample's code is one its OVR flag allows: the lowest code below full scale, the highest above it (R57). -/
def legalSample (x : SliceSample) : Bool := !x.ovr || x.code == 0 || x.code == 255

/-- The slice whose sample of symbol i is read. -/
def State.symbolSlice (s : State) (n : Fin 8) (i : Int) : Fin 17 :=
  Fin.ofNat 17 ((s.sliceAt n (symbolPosition i)).getD 0)

/-- The sample of symbol i is replaced by the mean of its neighbours: its position is bridged, or it carries CHK (R69,
R71). -/
def State.replaced (s : State) (n : Fin 8) (raw : Int → SliceSample) (i : Int) : Bool :=
  (s.line[n].adc.bridged.map Prod.fst).contains (symbolPosition i) || (raw i).chk

/-- The gain- and offset-corrected sample of symbol i in LSB (R60). -/
def State.levelled (s : State) (n : Fin 8) (raw : Int → SliceSample) (i : Int) : Rat :=
  let a := s.line[n].adc
  let k := s.symbolSlice n i
  (1 + a.terms[k].gain) * (linearised a.lin[k] (raw i).code - a.terms[k].offset)

/-- D and H at symbol i: fixed 8-tap filters over the gain- and offset-corrected stream.  DESIGN CHOICE (log 119): their taps
are the part's own, over symbols i − 3 to i + 4. -/
def eightTaps (h : Nat → Rat) (x : Int → Rat) (i : Int) : Rat := ((List.range 8).map fun k => h k * x (i - 3 + k)).sum

/-- The slice correction of symbol i in LSB (R60). -/
def State.sliceCorrected (s : State) (n : Fin 8) (raw : Int → SliceSample) (i : Int) : Rat :=
  let t := s.line[n].adc.terms[s.symbolSlice n i]
  let x := s.levelled n raw
  x i - t.skew * eightTaps Config.differentiator x i - t.bw * eightTaps Config.secondDifference x i

/-- The digital gain against the VGA's steps: the inverse of the steps, back at unity after 1 ms (R54). -/
def State.compensation (s : State) (n : Fin 8) : Rat := Config.decibelGain (s.vgaCompNow n / 2)

/-- A sample in units of 1/4 LSB, saturated to the range of the signed 10-bit sample (R57); its rounding is log 6. -/
def sampleValue (x : Rat) : Int := satInt 10 (quantise (4 * x))

/-- y(n) of symbol i on its way into the equaliser: the corrected sample, or for a replaced one the mean of the two
time-adjacent samples, flagged ERASED; OVR stays with its sample (R57, R69, R71). -/
def State.corrected (s : State) (n : Fin 8) (raw : Int → SliceSample) (i : Int) : Sample :=
  let y := s.sliceCorrected n raw
  let g := s.compensation n
  if s.replaced n raw i then
    { value := sampleValue (g * (y (i - 1) + y (i + 1)) / 2), erased := true, ovr := (raw i).ovr }
  else { value := sampleValue (g * y i), erased := false, ovr := (raw i).ovr }

end Sys2Proof.Machine
end

