-- ==== Sys2Proof/Machine/Datapath.lean ====
section
/-! DEFINITION. The datapath between two commands: what the symbols, codes and voltages of the part's streams are, as
functions of the state and of the streams.  The table has no row that moves a symbol (log 105), so no command of `exec`
calls these; they say what the state that the commands leave makes of a stream. -/

namespace Sys2Proof.Machine

open Reg

/-! ### Line transmitter: the stream of codewords (R29, R33, R39, R134, R157) -/

/-- The host lane whose codeword a slot of line lane Ln carries (R33). -/
def State.slotHost (s : State) (n : Fin 8) (slot : Nat) : Nat := (hostCodeword s.lanes.mode n.val slot).1

/-- The source of a slot of a line transmitter. -/
def State.lineSends (s : State) (n : Fin 8) (slot : Nat) : LineSource := s.lineCarries n (Fin.ofNat 16 (s.slotHost n slot))

/-- The tick at which the fill episode of a slot began (R39). -/
def State.slotFillSince (s : State) (n : Fin 8) (slot : Nat) : Option Nat :=
  let k := s.line[n].link
  if s.lanes.mode = 1 ∧ slot % 2 = 1 then k.fillTx1 else k.fillTx0

/-- Codeword c of the stream of a line transmitter: the host lanes' codewords in order, or fill, `e` of the same host
lane's codewords since its fill episode began; with the L-FEC loop-back the bits of the inner decoder (R33, R39, R134). -/
def State.lineStream (s : State) (n : Fin 8) (host : Nat → Nat → List Bool) (decoded : Nat → List Bool) (e : Nat → Nat)
    (c : Nat) : List Bool :=
  match s.lineSends n (frameSlot c).2 with
  | .fill => fillCodeword (e c)
  | .fecLoop => (List.range codewordBits).map fun k => deliveredBit decoded (codewordBits * c + k)
  | _ => gather s.lanes.mode n.val host c

/-- The message of inner codeword j of a stream of codewords: blocks of 120 bits, the first of each line frame at bit 0 of
slot 0 (R29, R36). -/
def streamMessage (cw : Nat → List Bool) (j : Nat) : List Bool :=
  innerMessage (outerBit fun c k => (cw c).getD k false) j

/-! ### Inner codewords on the line (R113 to R116) -/

/-- Symbol k of an inner codeword (R113). -/
def innerSymbol (cw : List Bool) (k : Nat) : Nat :=
  let x := cw.getD (2 * k) false
  let y := cw.getD (2 * k + 1) false
  if k % 2 = 0 then grayValue x y else grayValue y x

/-- Codeword j of the line stream as it is sent: the first of each line frame is the frame marker (R116). -/
def sentWord (msg : Nat → List Bool) (j : Nat) : List Bool :=
  let cw := innerEncode (msg j)
  if j % frameCodewords = 0 then invertMark cw else cw

/-- The line symbol that carries symbol k of codeword j (R114). -/
def linePlace (j k : Nat) : Nat := 16 * (4 * j + k) + (j + k) % 16

/-- The codeword, below 0 for those before the start (R115), and its symbol, at a line symbol (R114). -/
def lineSource (m : Nat) : Int × Nat :=
  let g := m / 16
  let d := ((List.range 16).find? fun (d : Nat) => ((g : Int) - 3 * ((g / 4 : Nat) - d : Int)) % 16 == (m % 16 : Nat)).getD 0
  (((g / 4 : Nat) : Int) - d, g % 4 + 4 * d)

/-- Gray value of a line symbol of a transmitter that started with these messages (R114, R115). -/
def lineGray (msg : Nat → List Bool) (m : Nat) : Nat :=
  let w := lineSource m
  if w.1 < 0 then 0 else innerSymbol (sentWord msg w.1.toNat) w.2

/-! ### Line transmitter: symbols, codes and voltages (R38, R137 to R144, R150, R159) -/

/-- The symbols after precoding from the P in hand on (R38). -/
def precodedAt (p : Nat) (gray : Nat → Nat) (m : Nat) : Nat := (precode p ((List.range (m + 1)).map gray)).getLastD 0

/-- Channel symbol m of a line transmitter: a pattern symbol, the symbol that L-FAR loops, or the stream's Gray value, by
the precoder when it is on (R38, R159, R461). -/
def State.lineChannel (s : State) (n : Fin 8) (gray looped : Nat → Nat) (m : Nat) : Nat :=
  let sel := patSel (s.fld (lineBase n) TX_PAT_PAT_SEL)
  let t := s.line[n].tx
  if sel ≠ 0 then patternSymbol sel n.val (s.lineUserSymbol n) m
  else if s.lineLoop n = 4 ∧ s.locked n then looped m
  else if t.precode then precodedAt t.precoderP gray m
  else gray m

/-- The entry of the pre-distortion table in force at an index, in units of 1/16 LSB (R140, R141). -/
def State.pdEntry (s : State) (n : Fin 8) (i : Nat) : Int :=
  if s.pdInUse n then s.entryInForce n pdRegs s.line[n].link.pdFade i else 0

/-- A pattern passes through c(0) alone (R159). -/
def State.patternRaw (s : State) (n : Fin 8) : Bool :=
  patSel (s.fld (lineBase n) TX_PAT_PAT_SEL) != 0 && s.flag (lineBase n) TX_PAT_PAT_RAW

/-- v(n) of the line transmitter in units of 1/16 LSB (R140, R159). -/
def State.lineValue (s : State) (n : Fin 8) (a : Nat → Nat) (m : Nat) : Int :=
  let taps := s.firTaps n TX_FIR_CUR
  if s.patternRaw n then taps.getD 2 0 * symbolLevel (a m)
  else firSum taps a m + s.pdEntry n (patternIndex a m)

/-- floor(g × v) + 128 with g = k/64 and v in units of 1/16 LSB, before the limit (R143). -/
def rawCode (k : Nat) (v : Int) : Int := (k * v) / 1024 + 128

/-- The DAC code (R143). -/
def dacCode (k : Nat) (v : Int) : Nat := (max 0 (min 255 (rawCode k v))).toNat

/-- A code that the limit changes (R143). -/
def codeSaturates (k : Nat) (v : Int) : Bool := decide (rawCode k v < 0 ∨ 255 < rawCode k v)

/-- The DAC code of symbol m of the line transmitter, with the amplitude factor in force (R143, R152). -/
def State.lineCode (s : State) (n : Fin 8) (a : Nat → Nat) (m : Nat) : Nat :=
  dacCode (s.rampK n) (s.lineValue n a m)

/-- The sub-DAC that converts a line symbol; in 200G line mode sub-DACs 0 and 2 serve (R144). -/
def State.subDacOf (s : State) (m : Nat) : Nat := if s.lanes.mode = 2 then 2 * (m % 2) else m % 4

/-- Cells of a kind in the thermometer map of a sub-DAC. -/
def SubDac.mapped (d : SubDac) (unit4 : Bool) : Nat :=
  ((List.range 68).filter fun c => isUnit4 c == unit4 && d.inMap c).length

/-- The unit-4 and unit-1 cells that a code turns on: one cell less where the map lacks it (R144, R148). -/
def SubDac.cellsOn (d : SubDac) (code : Nat) : Nat × Nat := (min (code / 4) (d.mapped true), min (code % 4) (d.mapped false))

/-- The code that the cells of a sub-DAC make of a code. -/
def State.codeMade (s : State) (n : Fin 8) (sub : Fin 4) (code : Nat) : Nat :=
  let c := s.line[n].tx.subs[sub].cellsOn code
  4 * c.1 + c.2

/-- The full-scale current in mA (R150). -/
def State.fullScale (s : State) (n : Fin 8) : Nat := 8 + s.line[n].tx.fsInForce

/-- V(LTX_P) − V(LTX_N) at a code, in mV (R150). -/
def State.lineVolts (s : State) (n : Fin 8) (code : Nat) : Rat :=
  25 * (s.fullScale n : Rat) * (2 * (code : Rat) - 255) / 255

/-- V(LTX_P) − V(LTX_N) of symbol m, in mV (R143, R144, R148, R150). -/
def State.lineOutput (s : State) (n : Fin 8) (a : Nat → Nat) (m : Nat) : Rat :=
  s.lineVolts n (s.codeMade n (Fin.ofNat 4 (s.subDacOf m)) (s.lineCode n a m))

/-- The output legs: the currents of LTX_P and LTX_N in mA, and the common mode in mV below VDD_HV (R150). -/
structure Legs where
  p : Rat
  n : Rat
  below : Rat
  deriving DecidableEq, Repr

/-- The legs of a line transmitter, which steers a cell that is on to LTX_N: without current both sit at VDD_HV, balanced
each carries I_FS / 2, and a code splits the current between them (R144, R150). -/
def State.lineLegs (s : State) (n : Fin 8) (code : Nat) : Legs :=
  let i : Rat := s.fullScale n
  let st := s.txState n
  if st < 2 then ⟨0, 0, 0⟩
  else if st < 4 then ⟨i / 2, i / 2, 25 * i⟩
  else ⟨i * (255 - code) / 255, i * code / 255, 25 * i⟩

/-! ### Clocks of the lanes (R28, R134, R203, R461) -/

/-- What a transmit clock follows: the recovered clocks of host lanes, or that of a line receiver. -/
inductive ClockSource where
  | hosts (l : List (Fin 16))
  | line (n : Fin 8)
  deriving DecidableEq, Repr

/-- The line transmit clock: the recovered clocks of the host lanes mapped to the lane, or in L-FEC and L-FAR, and while
one of its host lanes is in H-PAD or H-PAR, the recovered clock of its own receiver (R28, R134, R203, R461). -/
def State.lineClock (s : State) (n : Fin 8) : ClockSource :=
  let looped := (s.hostsOf n).any fun m => s.hostLoop m == 1 || s.hostLoop m == 2
  if s.lineLoop n = 3 ∨ s.lineLoop n = 4 ∨ looped then .line n else .hosts (s.hostsOf n)

/-- The host transmit clock: the recovered clock of its line lane, or in H-FAR that of its own receiver (R28, R203). -/
def State.hostClock (s : State) (m : Fin 16) : ClockSource :=
  match s.lineOf m with
  | some n => if s.hostLoop m = 3 then .hosts [m] else .line n
  | none => .hosts [m]

/-- The transmit line frame takes the phase of the received one (R134). -/
def State.framePhaseFollows (s : State) (n : Fin 8) : Bool := s.lineLoop n == 3 && s.locked n

/-! ### Line receiver: from samples to codewords (R33, R94 to R98, R113, R114, R120) -/

/-- The 128 soft bits of inner codeword j of a stream of samples that starts at its codeword 0 (R96, R113, R114). -/
def State.softWord (s : State) (n : Fin 8) (y : Int → Sample) (j : Nat) : List SoftBit :=
  (List.range 64).flatMap fun k =>
    let b := s.detect n y (linePlace j k)
    if k % 2 = 0 then [b.1, b.2] else [b.2, b.1]

/-- The message of inner codeword j, decoded (R116, R120). -/
def State.decodedMessage (s : State) (n : Fin 8) (y : Int → Sample) (j : Nat) : List Bool :=
  (chaseDecode (chaseL (s.laneProfile n)) (s.softWord n y j) (j % frameCodewords == 0)).take 120

/-- Codeword c of the received stream of a line lane (R29, R36, R121). -/
def State.receivedCodeword (s : State) (n : Fin 8) (y : Int → Sample) (c : Nat) : List Bool :=
  (List.range codewordBits).map fun k => deliveredBit (s.decodedMessage n y) (codewordBits * c + k)

/-- Codeword k that host lane Hm gets from the received streams, behind its LR monitor: forwarded under TERMINATE, or fill,
e codewords into its episode (R33, R39, R127). -/
def State.hostCodewordOut (s : State) (m : Fin 16) (line : Nat → Nat → List Bool) (e k : Nat) : List Bool :=
  match s.lineOf m with
  | some n =>
    if s.rxFills n then fillCodeword e
    else
      let w := bitsSymbols 544 (deliver s.lanes.mode m.val line k)
      (s.host[m].forwarded .lr (rsDecode w) w).flatMap symbolBits
  | none => []

/-- The bits that a host receiver takes from its decided symbols, behind the inverse of the precoder (R36, R189). -/
def State.hostBits (s : State) (m : Fin 16) (p : Nat) (decided : List Nat) : List Bool :=
  symbolsBits (if s.flag (hostBase m) HR_CTRL_RX_PRECODE then unprecode p decided else decided)

/-! ### Host transmitter (R185, R188, R189, R204) -/

/-- Channel symbol k of a host transmitter: a pattern symbol, or the stream's Gray value, by the precoder when it is on. -/
def State.hostChannel (s : State) (m : Fin 16) (gray : Nat → Nat) (k : Nat) : Nat :=
  let sel := patSel (s.fld (hostBase m) HT_PAT_HPAT_SEL)
  if sel ≠ 0 then patternSymbol sel (8 + m.val) (s.hostUserSymbol m) k
  else if s.flag (hostBase m) HT_CTRL_TX_PRECODE then precodedAt s.host[m].precoderP gray k
  else gray k

/-- x(n) of the host FIR in units of 1/64 (R185); HPAT_RAW sends a pattern through c(0) alone (R204). -/
def State.hostValue (s : State) (m : Fin 16) (a : Nat → Nat) (k : Nat) : Int :=
  let b := hostBase m
  let taps := s.hostTaps m HT_FIR_CUR
  if patSel (s.fld b HT_PAT_HPAT_SEL) ≠ 0 ∧ s.flag b HT_PAT_HPAT_RAW then taps.getD 2 0 * symbolLevel (a k)
  else firSum taps a k

/-- V_FS in mV (R188). -/
def State.hostSwing (s : State) (m : Fin 16) : Nat := 400 + 40 * s.fld (hostBase m) HT_CTRL_SWING

/-- The differential output in mV (R185). -/
def State.hostVolts (s : State) (m : Fin 16) (a : Nat → Nat) (k : Nat) : Rat :=
  (s.hostSwing m : Rat) / 2 * s.hostValue m a k / 192

/-! ### Host receiver (R192) -/

/-- The gain of the CTLE at low frequency, in dB below its gain at the Nyquist frequency. -/
def State.hostCtleDepth (s : State) (m : Fin 16) : Nat := 2 * s.fld (hostBase m) HR_CDR_CTLE_CUR

/-- A sample of the host lane's converter behind its offset and gain, in LSB. -/
def State.hostSample (s : State) (m : Fin 16) (x : Rat) : Rat := (x - s.host[m].adcOffset) * (1 + s.host[m].adcGain)

/-- u(n): 24 taps in units of 2^−8, the first on y(n + 4). -/
def State.hostFfe (s : State) (m : Fin 16) (y : Int → Rat) (k : Int) : Rat :=
  ((List.range 24).map fun i =>
    (bitsInt 10 (s.fld (hostBase m) (HR_FFE_COEF.ix i)) : Rat) / 256 * y (k - ((i : Int) - 4))).sum

/-- The symbol that the detector decides on a DFE output, against the three thresholds. -/
def State.hostDecide (s : State) (m : Fin 16) (x : Rat) : Nat :=
  let t := s.host[m].thresholds
  decideLevel t[0] t[1] t[2] x

/-- The DFE output: d1 × ℓ(â(n − 1)) / 3 in 1/4 LSB is taken from u(n). -/
def State.hostDfe (s : State) (m : Fin 16) (u : Rat) (prev : Nat) : Rat :=
  u - (bitsInt 8 (s.fld (hostBase m) HR_DFE_COEF) : Rat) / 4 * symbolLevel prev / 3

/-- The symbols that a host receiver decides from its samples, the one before the first being `prev`. -/
def State.hostDetect (s : State) (m : Fin 16) (y : Int → Rat) (prev : Nat) : Nat → Nat
  | 0 => s.hostDecide m (s.hostDfe m (s.hostFfe m y 0) prev)
  | k + 1 => s.hostDecide m (s.hostDfe m (s.hostFfe m y (k + 1)) (s.hostDetect m y prev k))

/-! ### Latency (R47) -/

/-- Latency of bit k of a codeword in ps, from the ledger's latency (R45, R47). -/
def State.bitLatency (s : State) (toHost : Bool) (ledger : Rat) (k : Nat) : Rat :=
  if s.lanes.mode = 1 then (if toHost then ledger + k * (1000 / 425) else ledger - k * (1000 / 425)) else ledger

/-! ### Tamid (R409) -/

/-- The deviation of a symbol in Hz: 2-FSK of one bit, 4-FSK of a pair (MSB, LSB) (R409). -/
def deviation2 (b : Bool) : Int := if b then 25000 else -25000
def deviation4 (msb lsb : Bool) : Int := 12500 * symbolLevel (grayValue msb lsb)

/-- The centre frequency of a carrier in Hz (R408). -/
def carrierHz (k : Fin 16) : Nat := 500000 + 100000 * k.val

end Sys2Proof.Machine
end

