-- ==== Sys2Proof/Machine/Tick.lean ====
section
/-! DEFINITION. One core tick in which no command runs: what time alone changes. -/

namespace Sys2Proof.Machine

open Reg

/-- The checkpoint phase counter of every room that runs moves on (R251). -/
def State.phasesTick (s : State) : State :=
  let next := s.rooms.rooms.mapFinIdx fun r (x : Room) _ =>
    if s.roomRuns r then { x with phase := (x.phase + 1) % 4096 } else x
  { s with rooms := { s.rooms with rooms := next } }

/-- The Hallway port that an access came through: its room, or the controller that holds the keys. -/
def State.stalledPort (s : State) : Stalled → Nat
  | .engineFld r _ => r.val
  | .engineFst r .. => r.val
  | _ => s.holderPort

/-- Requests of a Hallway port that are outstanding: the accesses that wait for a domain. -/
def State.waiting (s : State) (port : Nat) : Nat :=
  (s.power.stalled.filter fun e => s.stalledPort e.2 == port).length

/-- The ticks in which requests wait: for each port, and for the FLDs of each room (Table 18-1). -/
def State.countWaits (s : State) : State :=
  if s.power.stalled = [] then s
  else
    let s := s.each (List.range 18) fun p s => if s.waiting p = 0 then s else s.countEvent (p * 256 + 4) 1
    s.each s.power.stalled fun e s => match e.2 with
      | .engineFld r _ => s.countEvent (0x5003 + r.val * 0x100) 1
      | _ => s

/-- Core ticks of an outer codeword on a line lane: 5,440 bits at 425 or 212.5 Gb/s. -/
def State.codewordTicks (s : State) : Nat := s.frameTicks / 24

/-- The fill codewords that end in this tick: those sent on the line, and those sent toward the host, counted with the slots of
the lane's transmit frame (R39, Table 18-1; the phase toward the host is a DESIGN CHOICE, log 112). -/
def State.countFill (s : State) : State :=
  s.each allLines fun n s =>
    let p := (s.tick - s.line[n].tx.frameTick) % s.frameTicks
    if p % s.codewordTicks ≠ 0 then s
    else
      let slot := p / s.codewordTicks
      let m := Fin.ofNat 16 (s.slotHost n slot)
      let s := if s.rxFills n && s.hostCarries m then s.countEvent (0x3002 + n.val * 0x100) 1 else s
      if s.lineSends n slot = .fill then s.countEvent (0x3003 + n.val * 0x100) 1 else s

/-- The value that an occupancy event samples, where the state holds it: the engines of a room that issue
(Table 18-1). -/
def State.occupancy (s : State) (ev : Nat) : Option Nat :=
  if ev % 256 = 4 ∧ 0x50 ≤ ev / 256 ∧ ev / 256 < 0x60 then
    let r := Fin.ofNat 16 (ev / 256 - 0x50)
    some ((List.range 64).filter fun e => s.issues r e).length
  else if ev % 256 = 5 ∧ ev / 256 < 0x20 then some (s.waiting (ev / 256))
  else none

/-- The occupancy events add 1 where their value exceeds the threshold (R433). -/
def State.countOccupancy (s : State) : State :=
  let live := s.counters.live.map fun e : Nat × Counter =>
    match s.occupancy e.2.event with
    | some v => if e.2.threshold < v then (e.1, { e.2 with count := (e.2.count + 1) % 2 ^ 48 }) else e
    | none => e
  { s with counters := { s.counters with live := live } }

/-- The line-frame boundaries that fall in this tick (R38). -/
def State.frameBoundaries (s : State) : State :=
  s.each allLines fun n s => (s.txFrameBoundary n).rxFrameBoundary n

/-- Core ticks of a Tamid symbol: the 50 kHz symbol clock is divided from the core clock (R423; its phase is a DESIGN CHOICE,
log 142). -/
def symbolTicks : Nat := 15625

/-- The symbol strobes that fall in this tick (R372, R423). -/
def State.symbolStrobes (s : State) : State :=
  if s.tick % symbolTicks = 0 then s.each allLines fun i s => s.hkStrobe 2 i.val else s

/-- One core tick in which no command runs: time passes (R210, R213, R225, R433). -/
def State.coreTick (s : State) : State :=
  let s := { s with tick := s.tick + 1 }
  let s := if s.clock.running then { s with clock := s.clock.advance } else s
  let s := s.when (s.coreCounts) fun s => (((s.countEvent 0xFF00 1).countOccupancy.countWaits).countFill.phasesTick).frameBoundaries.symbolStrobes
  let x := s.clock.xtalPhase + 32768
  let step := s.fld clockBase CLK_STATUS_CAL_SRC == 2 && !Nat.blt x ticksPerSecond
  let c := if step then s.clock.crystalStep else s.clock
  let p := c.aoPhase + 4
  let s := { s with clock := { c with
    xtalPhase := x % ticksPerSecond, aoPhase := p % 3125 } }
  s.when (!Nat.blt p 3125) State.aoTick

end Sys2Proof.Machine
end

