-- ==== Sys2Proof/Machine/Step.lean ====
section
/-! DEFINITION. One step: the command at the front of the queue, or a core tick when none waits. -/

namespace Sys2Proof.Machine

/-- Takes the command at the front of the queue; on an empty queue one core tick passes (log 34). -/
def step (s : State) : Host.Outcome State Fault Refusal :=
  match s.pending with
  | [] => done s.coreTick
  | c :: rest => exec c { s with pending := rest }

/-- The command that a table word spells, at the front of the queue; no row of the table gives bits. -/
def State.withFetchWord (s : State) (nbits w : Nat) : State :=
  match decodeTableWord nbits w with
  | some c => { s with pending := c :: s.pending }
  | none => s

end Sys2Proof.Machine
end

