-- ==== Sys2Proof/Safety.lean ====
section
/-! DEFINITION. What a safe run is, in the terms the statements use: the invariant of the state, the frame of a command,
and what holds between commands. -/

namespace Sys2Proof.Machine

/-- The register space, the Hallway memories and the flash are in canonical form (R4, R304, R284). -/
def State.canonical (s : State) : Bool :=
  Sparse.wf regReset s.regs && Memory.wf s.mem && Sparse.wf flashDefault s.flash

/-- What every state of the part satisfies: canonical memories and registers; a fault history of at most 16 entries
(R338); at most four packets in the inbox and four replies in the outbox (R271, R272); at most 16 codes in the queue
of a control-DAC channel (R376) and 8 conversions in the triggered queue (R372); and at most 8 packets received by a Tamid
instance and not yet taken (R418). -/
structure State.Inv (s : State) : Prop where
  canonical : s.canonical = true
  hist : s.fuse.hist.length ≤ 16
  inbox : s.link.inbox.length ≤ 4
  outbox : s.link.outbox.length ≤ 4
  cdac : ∀ c : Fin 32, s.cdac[c].queue.length ≤ 16
  hk : s.hk.queue.length ≤ 8
  tamid : ∀ i : Fin 8, s.tamid[i].queue.length ≤ 8

/-- No reaction of a raise is left to start (R334). -/
def State.noneDue (s : State) : Prop := s.fuse.due = []

/-- A raise of this source is taken: the source exists, its domain is not isolated, it is not BLIND, and as a level source it is
not asserted already (R326, R327, R334). -/
def State.takes (s : State) (src detail : Nat) : Prop :=
  (srcSeverity src).isSome = true ∧ s.isolated (srcDomain src detail) = false ∧ s.fuse.blind.contains src = false ∧
    (srcLevel src && s.fuse.rails.contains src) = false

/-- The source is in the active set and not CLEARED (R340). -/
def State.isActive (s : State) (src : Nat) : Prop := ∃ e ∈ s.fuse.active, e.src = src ∧ e.cleared = false

/-- The parts of the state: one for each field of `State`, with the register space cut into its blocks (Table 12-3). -/
inductive Part where
  | pending | tick | free | mem | flash | line | host | lanes | fuse | power | link | counters | attic | clock | boot
  | hk | cdac | chain | tamid | carriers | memory | pantry | rooms | thermal | test | flashJob | limits
  | systemRegs | fuseRegs | powerRegs | clockRegs | memProtRegs | hkRegs | thermRegs | counterRegs | testRegs | lineRegs
  | hostRegs | tamidRegs | chainRegs | cdacRegs | pantryRegs | keyRegs | otherRegs
  deriving DecidableEq, Repr

/-- The part that a register address lies in: its block, or its kind of block (Table 12-3). -/
def regPart (a : Nat) : Part :=
  if a < fuseBase then (if a < systemBase then .otherRegs else .systemRegs)
  else if a < lineBase 0 then
    if a < powerBase then .fuseRegs else if a < clockBase then .powerRegs else if a < memProtBase then .clockRegs
    else if a < hkBase then .memProtRegs else if a < thermBase then .hkRegs else if a < counterBase then .thermRegs
    else if a < testBase then .counterRegs else .testRegs
  else if a < hostBase 0 then .lineRegs
  else if a < tamidBase 0 then .hostRegs
  else if a < chainCtlBase then .tamidRegs
  else if a < cdacBase then .chainRegs
  else if a < pantryBase then .cdacRegs
  else if a < keyBase then .pantryRegs
  else if a < keyBase + 0x10000 then .keyRegs
  else .otherRegs

/-- A part holds in `t` what it holds in `s`. -/
def Part.same (p : Part) (s t : State) : Prop :=
  match p with
  | .pending => t.pending = s.pending
  | .tick => t.tick = s.tick
  | .free => t.free = s.free
  | .mem => t.mem = s.mem
  | .flash => t.flash = s.flash
  | .line => t.line = s.line
  | .host => t.host = s.host
  | .lanes => t.lanes = s.lanes
  | .fuse => t.fuse = s.fuse
  | .power => t.power = s.power
  | .link => t.link = s.link
  | .counters => t.counters = s.counters
  | .attic => t.attic = s.attic
  | .clock => t.clock = s.clock
  | .boot => t.boot = s.boot
  | .hk => t.hk = s.hk
  | .cdac => t.cdac = s.cdac
  | .chain => t.chain = s.chain
  | .tamid => t.tamid = s.tamid
  | .carriers => t.carriers = s.carriers
  | .memory => t.memory = s.memory
  | .pantry => t.pantry = s.pantry
  | .rooms => t.rooms = s.rooms
  | .thermal => t.thermal = s.thermal
  | .test => t.test = s.test
  | .flashJob => t.flashJob = s.flashJob
  | .limits => t.limits = s.limits
  | p => ∀ a, regPart a = p → t.reg a = s.reg a

/-- Nothing outside the parts `ps` differs between `s` and `t`. -/
def Only (ps : List Part) (s t : State) : Prop := ∀ p : Part, p ∉ ps → p.same s t

/-- Every register but those at the addresses `as` keeps its word. -/
def RegsBut (as : List Nat) (s t : State) : Prop := ∀ a, a ∉ as → t.reg a = s.reg a

/-- The word at the PC of an engine. -/
def State.wordAt (s : State) (r : Fin 16) (e : Nat) : Word := s.programWord r e (s.engine r e).pc

/-- The engine issues, and the word at its PC is a legal one with this opcode (R240 to R243). -/
def State.executes (s : State) (r : Fin 16) (e op : Nat) : Prop :=
  s.ready r e = true ∧ opcodeOf (s.wordAt r e) = op ∧ illegal (s.engine r e) (s.wordAt r e) = false

/-- Nothing of the rooms but one engine differs, and no memory and no register does. -/
def EngineOnly (r : Fin 16) (e : Nat) (s t : State) : Prop :=
  (∀ k, k ≠ engineKey r e → Sparse.get engineDefault t.rooms.engines k = Sparse.get engineDefault s.rooms.engines k) ∧
    { t.rooms with engines := s.rooms.engines } = s.rooms ∧ t.mem = s.mem ∧ t.regs = s.regs

/-- Every byte of the Hallway memories but `len` from `a` reads as before. -/
def BytesBut (a len : Nat) (s t : State) : Prop := ∀ x, (x < a ∨ a + len ≤ x) → t.byte x = s.byte x

/-- A host command with this opcode runs at once: the part is out of reset, it is in neither DOZE nor DEEP nor a thermal
shutdown, no check of Table 11-5 fails, and no packet and no reply waits behind it (R271, R272, R276). -/
def State.accepts (s : State) (o : Origin) (op : Nat) : Prop :=
  s.busUp = true ∧ s.thermal.shut = none ∧ s.fld powerBase Reg.PWR_STATE_STATE ≠ 1 ∧ s.inDeep = false ∧
    s.refusedBy o.via op = none ∧ s.link.inbox = [] ∧ s.link.waiting = [] ∧ s.link.outbox.length < 4

/-- A host command reaches the checks of Table 11-5: the part is out of reset and in neither DOZE nor a thermal shutdown, and
no packet and no reply waits (R271, R272). -/
def State.reaches (s : State) : Prop :=
  s.busUp = true ∧ s.thermal.shut = none ∧ s.fld powerBase Reg.PWR_STATE_STATE ≠ 1 ∧ s.link.inbox = [] ∧
    s.link.waiting = [] ∧ s.link.outbox.length < 4

/-- One reply went the way its packet came: into the outbox, or, cut into its payloads, to the transmitter of the Tamid
instance of a tunnel that is awake (R272, R425). -/
def Answered (s t : State) (o : Origin) (status : Nat) (results : List Byte) : Prop :=
  let r : Reply := { seq := o.seq.toNat, status := status, results := results }
  match o.via with
  | .tamid i => s.fuse.safe = false → s.tamidState i ≠ 0 → t.tamid[i].own = s.tamid[i].own ++ replyPayloads r
  | _ => t.link.outbox = s.link.outbox ++ [r]

/-- The parts that registers lie in. -/
def regParts : List Part :=
  [.systemRegs, .fuseRegs, .powerRegs, .clockRegs, .memProtRegs, .hkRegs, .thermRegs, .counterRegs, .testRegs,
    .lineRegs, .hostRegs, .tamidRegs, .chainRegs, .cdacRegs, .pantryRegs, .keyRegs, .otherRegs]

/-- What a raise changes before its reactions: the Fuse Box, ATTN, the counts and the Attic queue (R334 to R340, R441). -/
def raiseParts : List Part := [.fuse, .link, .counters, .attic, .systemRegs]

/-- What the reactions of a raise change: the lanes and the converters they act on, and their registers (R334, R343). -/
def reactParts : List Part :=
  [.line, .host, .lanes, .fuse, .power, .link, .counters, .attic, .boot, .cdac, .tamid, .test, .systemRegs,
    .powerRegs, .memProtRegs, .testRegs, .lineRegs, .hostRegs, .tamidRegs, .cdacRegs]

/-- What the answer to a host command can change beside the command's own effect: the queues of the link and of the Tamid
tunnel, the keys, the end of DOZE, and what a refusal raises (R276 to R279, R358). -/
def commandParts : List Part :=
  [.line, .host, .lanes, .fuse, .power, .link, .counters, .attic, .boot, .tamid, .systemRegs, .powerRegs,
    .memProtRegs, .lineRegs, .hostRegs, .tamidRegs, .keyRegs]

/-- What a word that an engine executes can change beside its own effect: the engine, its memories and its faults (R237 to
R250). -/
def engineParts : List Part :=
  [.free, .mem, .fuse, .power, .link, .counters, .attic, .rooms, .test, .systemRegs, .powerRegs, .testRegs]

end Sys2Proof.Machine

namespace Sys2Proof

open Machine

/-- The origin and the opcode of a command that comes as a packet (Tables 11-9 to 11-22); the other rows are none. -/
def Instr.packet : Instr → Option (Origin × Nat)
  | .readReg o _ _ => some (o, 0x0005)
  | .writeReg o _ => some (o, 0x0006)
  | .ping o _ => some (o, 0x0000)
  | .getInfo o => some (o, 0x0001)
  | .getState o => some (o, 0x0002)
  | .setProfile o _ => some (o, 0x0003)
  | .setLaneMode o _ _ => some (o, 0x0004)
  | .resetAll o _ => some (o, 0x0007)
  | .ctrlHandover o => some (o, 0x0008)
  | .imageLoad o _ _ => some (o, 0x0009)
  | .imageCommit o _ => some (o, 0x000A)
  | .lineStatus o _ => some (o, 0x0100)
  | .hostStatus o _ => some (o, 0x0200)
  | .retirePage o _ => some (o, 0x0300)
  | .eccLogRead o _ _ => some (o, 0x0301)
  | .memRead o _ _ _ => some (o, 0x0302)
  | .memWrite o _ _ => some (o, 0x0303)
  | .faultRead o => some (o, 0x0400)
  | .faultClear o _ => some (o, 0x0401)
  | .faultConfig o _ _ => some (o, 0x0402)
  | .faultThreshold o _ => some (o, 0x0403)
  | .powerVote o _ _ _ => some (o, 0x0500)
  | .powerState o _ => some (o, 0x0501)
  | .powerStatus o => some (o, 0x0502)
  | .hkRead o _ => some (o, 0x0600)
  | .cdacQueue o _ _ _ => some (o, 0x0601)
  | .cdacConfig o _ _ _ _ _ => some (o, 0x0602)
  | .tamidConfig o _ _ _ _ _ _ => some (o, 0x0700)
  | .tamidSend o _ _ _ => some (o, 0x0701)
  | .tamidReceive o _ => some (o, 0x0702)
  | .tamidStatus o => some (o, 0x0703)
  | .roomStatus o => some (o, 0x0800)
  | .engineMap o _ => some (o, 0x0801)
  | .guestLoad o _ _ _ _ => some (o, 0x0802)
  | .guestStart o _ => some (o, 0x0803)
  | .guestStop o _ => some (o, 0x0804)
  | .guestStatus o => some (o, 0x0805)
  | .guestMailbox o _ _ _ => some (o, 0x0806)
  | .counterConfig o _ _ _ => some (o, 0x0900)
  | .counterRead o _ _ => some (o, 0x0901)
  | .counterDump o _ => some (o, 0x0902)
  | .counterGrant o _ => some (o, 0x0903)
  | .atticRead o _ _ => some (o, 0x0904)
  | .loopback o _ _ _ => some (o, 0x0A00)
  | .bistStatus o => some (o, 0x0A01)
  | .deepTest o _ _ => some (o, 0x0A02)
  | .lifecycleAdvance o _ _ => some (o, 0x0A03)
  | .flashWrite o _ _ _ _ => some (o, 0x0A04)
  | .calQuality o _ => some (o, 0x0B00)
  | .pantryRead o _ _ _ => some (o, 0x0C00)
  | .pantryFreeze o _ _ => some (o, 0x0C01)
  | .pantryClear o _ => some (o, 0x0C02)
  | .sync o => some (o, 0x0D00)
  | .setCalendar o _ _ => some (o, 0x0D01)
  | .getTime o => some (o, 0x0D02)
  | .ledgerRead o _ => some (o, 0x0D03)
  | _ => none

/-- The rows that the end of a packet transaction is, with the way in of the packet (Table 11-9). -/
def packetForms (bytes : List Byte) : List (Instr × Via) :=
  [(.writePacket bytes, .bus), (.writePacketA bytes, .direct .a), (.writePacketB bytes, .direct .b)]

/-- What each command changes before its reactions: every other part of the state it leaves as it is. -/
def Instr.parts : Instr → List Part
  | .writePacket .. => commandParts
  | .writePacketA .. => commandParts
  | .writePacketB .. => commandParts
  | .readReply .. => raiseParts ++ [.line, .host, .lanes, .boot, .tamid, .powerRegs, .memProtRegs, .lineRegs,
    .hostRegs, .tamidRegs, .keyRegs]
  | .writeFront .. => [.link] ++ regParts
  | .readFront .. => [.link]
  | .i3cCcc .. => raiseParts ++ [.free, .line, .host, .lanes, .boot, .tamid, .powerRegs, .memProtRegs, .lineRegs,
    .hostRegs, .tamidRegs]
  | .commandComplete .. => raiseParts ++ [.free, .flash, .boot, .tamid, .flashJob, .tamidRegs, .keyRegs]
  | .readReg .. => commandParts ++ regParts
  | .writeReg .. => commandParts ++ [.clock, .hk, .chain, .memory, .pantry, .thermal, .test] ++ regParts
  | .registerWrite .. => raiseParts ++ [.line, .host, .lanes, .power, .clock, .hk, .chain, .tamid, .memory, .pantry,
    .thermal, .test] ++ regParts
  | .rcFieldRead .. => [.line, .fuse, .link, .counters] ++ regParts
  | .ping .. => commandParts
  | .getInfo .. => commandParts ++ [.free]
  | .getState .. => commandParts
  | .setProfile .. => commandParts
  | .setLaneMode .. => commandParts
  | .resetAll .. => commandParts
  | .resetAllStart => commandParts ++ [.free, .mem, .flash, .clock, .boot, .hk, .cdac, .chain, .carriers, .memory,
    .pantry, .rooms, .thermal, .test, .flashJob, .limits] ++ regParts
  | .ctrlHandover .. => commandParts
  | .imageLoad .. => commandParts ++ [.mem]
  | .imageCommit .. => commandParts
  | .lineStatus .. => commandParts
  | .hostStatus .. => commandParts
  | .retirePage .. => commandParts ++ [.memory]
  | .eccLogRead .. => commandParts ++ [.memory]
  | .memRead .. => commandParts ++ [.free, .mem, .memory, .rooms, .test, .testRegs, .pantryRegs]
  | .memWrite .. => commandParts ++ [.mem, .memory]
  | .faultRead .. => commandParts
  | .faultClear .. => commandParts
  | .faultConfig .. => commandParts
  | .faultThreshold .. => commandParts ++ [.fuseRegs]
  | .powerVote .. => commandParts
  | .powerState .. => commandParts ++ [.cdac, .chain, .test, .testRegs, .chainRegs, .cdacRegs]
  | .powerStatus .. => commandParts
  | .hkRead .. => commandParts
  | .cdacQueue .. => commandParts ++ [.cdac, .cdacRegs]
  | .cdacConfig .. => commandParts ++ [.cdac, .cdacRegs]
  | .tamidConfig .. => commandParts
  | .tamidSend .. => commandParts
  | .tamidReceive .. => commandParts
  | .tamidStatus .. => commandParts ++ regParts
  | .roomStatus .. => commandParts
  | .engineMap .. => commandParts
  | .guestLoad .. => commandParts ++ [.mem, .rooms]
  | .guestStart .. => commandParts ++ [.mem, .rooms, .test, .testRegs]
  | .guestStop .. => commandParts ++ [.rooms]
  | .guestStatus .. => commandParts
  | .guestMailbox .. => commandParts ++ [.rooms]
  | .counterConfig .. => commandParts
  | .counterRead .. => commandParts ++ [.counterRegs]
  | .counterDump .. => commandParts ++ [.limits, .counterRegs]
  | .counterGrant .. => commandParts ++ [.counterRegs]
  | .atticRead .. => commandParts
  | .loopback .. => commandParts ++ [.testRegs]
  | .bistStatus .. => commandParts
  | .deepTest .. => commandParts ++ [.hk, .chain, .test, .hkRegs, .chainRegs]
  | .lifecycleAdvance .. => commandParts ++ [.test]
  | .flashWrite .. => commandParts ++ [.flashJob]
  | .calQuality .. => commandParts ++ [.hk]
  | .pantryRead .. => commandParts
  | .pantryFreeze .. => commandParts ++ [.pantryRegs]
  | .pantryClear .. => commandParts ++ [.pantry, .pantryRegs]
  | .sync .. => commandParts ++ [.clock, .hk, .chain, .clockRegs, .chainRegs]
  | .setCalendar .. => commandParts ++ [.clock]
  | .getTime .. => commandParts
  | .ledgerRead .. => commandParts
  | .ctrlWatchdogRestart .. => [.boot]
  | .holderWatchdogExpiry => raiseParts ++ [.tamid, .tamidRegs, .keyRegs]
  | .ctrlRejoin .. => [.link, .boot, .tamid, .systemRegs, .tamidRegs, .keyRegs]
  | .followerWatchdogExpiry => raiseParts ++ [.keyRegs]
  | .noController => raiseParts ++ [.boot, .keyRegs]
  | .dualClaim .. => raiseParts ++ [.keyRegs]
  | .keyUpset .. => raiseParts ++ [.keyRegs]
  | .resetNFall => commandParts ++ [.free, .mem, .flash, .clock, .boot, .hk, .cdac, .chain, .carriers, .memory,
    .pantry, .rooms, .thermal, .test, .flashJob, .limits] ++ regParts
  | .supplyRelease .. => [.lanes, .fuse, .boot, .tamid, .pantry, .thermal, .systemRegs, .clockRegs, .thermRegs,
    .lineRegs, .tamidRegs, .pantryRegs]
  | .resetNRise .. => [.lanes, .fuse, .boot, .tamid, .pantry, .thermal, .systemRegs, .thermRegs, .lineRegs,
    .tamidRegs, .pantryRegs]
  | .bootStepDone .. => commandParts ++ [.free, .mem, .clock, .boot, .hk, .chain, .memory, .pantry, .rooms, .thermal,
    .test] ++ regParts
  | .trafficReadySet => [.lanes, .fuse, .link, .boot, .tamid, .pantry, .thermal, .systemRegs, .thermRegs, .lineRegs,
    .tamidRegs, .pantryRegs]
  | .corePllLock => [.clock, .clockRegs]
  | .synthLock .. => raiseParts ++ [.line, .host, .lanes, .clock, .tamid, .clockRegs, .memProtRegs, .lineRegs,
    .hostRegs, .tamidRegs]
  | .refLoss .. => raiseParts ++ [.clock, .clockRegs]
  | .holdoverEnd => raiseParts ++ [.line, .host, .lanes, .clock, .clockRegs, .lineRegs, .hostRegs]
  | .refReturn .. => raiseParts ++ [.clock, .clockRegs]
  | .coreUnlock => raiseParts ++ [.line, .host, .lanes, .clock, .clockRegs, .lineRegs, .hostRegs]
  | .coreRelockRetry .. => [.fuse, .clockRegs]
  | .synthUnlock .. => raiseParts ++ [.line, .host, .lanes, .clock, .clockRegs, .lineRegs, .hostRegs]
  | .syncInEdge .. => raiseParts ++ [.clock, .hk, .chain, .limits, .clockRegs, .chainRegs]
  | .syncNow => [.clock, .hk, .chain, .clockRegs, .chainRegs]
  | .aoDiscipline .. => [.clock, .clockRegs]
  | .disciplineOld => raiseParts ++ [.clock, .clockRegs]
  | .xtalFail => raiseParts ++ [.clockRegs]
  | .dtLoRead => [.link, .clockRegs]
  | .calSecLoRead => [.link, .clockRegs]
  | .followRange .. => raiseParts ++ [.free, .line, .lineRegs]
  | .followRangeEnd .. => raiseParts ++ [.line, .lineRegs]
  | .pairSlip .. => raiseParts ++ [.free, .line, .lineRegs]
  | .pairRealignDone .. => raiseParts ++ [.line, .lineRegs]
  | .deskewRange .. => raiseParts ++ [.line, .lineRegs]
  | .deskewRetry .. => raiseParts ++ [.line, .lineRegs]
  | .groupRealignDone .. => raiseParts ++ [.line, .lanes, .lineRegs]
  | .laneModeChangeDone => [.lanes, .link, .tamid, .systemRegs, .tamidRegs, .keyRegs]
  | .profileGroupSwitch .. => raiseParts ++ [.line, .lanes, .tamid, .pantry, .lineRegs, .tamidRegs, .pantryRegs]
  | .profileGroupRealigned .. => raiseParts ++ [.line, .lanes, .chain, .tamid, .lineRegs, .tamidRegs, .chainRegs,
    .keyRegs]
  | .ledgerRecompute .. => [.link, .systemRegs, .lineRegs]
  | .ledgerSettle .. => [.link, .systemRegs, .lineRegs]
  | .afeLevelUpdate .. => [.lineRegs]
  | .vgaWindow .. => [.line, .lineRegs]
  | .afeCtrlWrite .. => raiseParts ++ [.line, .host, .lanes, .tamid, .memProtRegs, .lineRegs, .hostRegs, .tamidRegs]
  | .adcBlockEnd .. => [.line, .lineRegs]
  | .ovrWindow .. => raiseParts ++ [.limits, .lineRegs]
  | .adcConverged .. => [.lineRegs]
  | .rotationStep .. => [.line, .lineRegs]
  | .spareCalDone .. => raiseParts ++ [.line, .lineRegs]
  | .rotationHandover .. => raiseParts ++ [.line, .power, .test, .powerRegs, .testRegs, .lineRegs]
  | .rotationAbort .. => raiseParts ++ [.line, .lineRegs]
  | .sliceCheckFlag .. => raiseParts ++ [.line, .power, .test, .powerRegs, .testRegs, .lineRegs]
  | .sliceAbruptFault .. => raiseParts ++ [.line, .power, .test, .powerRegs, .testRegs, .lineRegs]
  | .sliceDegrading .. => raiseParts ++ [.line, .lineRegs]
  | .substSpareArrived .. => [.line, .lineRegs]
  | .urgentSubstHandover .. => raiseParts ++ [.line, .lineRegs]
  | .substRetry .. => [.line, .lineRegs]
  | .substReq .. => [.line, .lineRegs]
  | .ffeWindow .. => [.lineRegs]
  | .timingUpdate .. => [.line, .lineRegs]
  | .mlseLevelUpdate .. => [.line, .lineRegs]
  | .nlcSwap .. => raiseParts ++ [.line, .tamid, .pantry, .lineRegs, .tamidRegs, .pantryRegs]
  | .nlcEngineSwap .. => [.line, .tamid, .pantry, .lineRegs, .tamidRegs, .pantryRegs]
  | .nlcFadeComplete .. => [.tamid, .pantry, .lineRegs, .tamidRegs, .pantryRegs]
  | .nlcFadeResume .. => [.line, .lineRegs]
  | .nlcBankWrite .. => [.lineRegs]
  | .nlcEnWrite .. => [.tamid, .pantry, .lineRegs, .tamidRegs, .pantryRegs]
  | .lineReacq .. => raiseParts ++ [.line, .host, .lanes, .tamid, .memProtRegs, .lineRegs, .hostRegs, .tamidRegs]
  | .lineRxPrecodeWrite .. => raiseParts ++ [.line, .host, .lanes, .tamid, .memProtRegs, .lineRegs, .hostRegs,
    .tamidRegs]
  | .lineAcqStepDone .. => raiseParts ++ [.line, .host, .lanes, .tamid, .pantry, .lineRegs, .hostRegs, .tamidRegs]
  | .lineAcqStepTimeout .. => [.line, .tamid, .lineRegs, .tamidRegs]
  | .acqFail .. => raiseParts
  | .lineSignalPresent .. => raiseParts ++ [.line, .host, .lanes, .tamid, .memProtRegs, .lineRegs, .hostRegs,
    .tamidRegs]
  | .lineLos .. => raiseParts ++ [.line, .host, .lanes, .lineRegs, .hostRegs]
  | .lineLosEnd .. => raiseParts ++ [.line, .host, .lanes, .tamid, .memProtRegs, .lineRegs, .hostRegs, .tamidRegs]
  | .lineFreqLimit .. => raiseParts ++ [.line, .host, .lanes, .tamid, .lineRegs, .hostRegs, .tamidRegs]
  | .lineRelockTimeout .. => raiseParts ++ [.line, .host, .lanes, .tamid, .memProtRegs, .lineRegs, .hostRegs,
    .tamidRegs]
  | .snrPublish .. => raiseParts ++ [.line, .lineRegs]
  | .lineFrameReceived .. => raiseParts ++ [.line, .host, .lanes, .tamid, .lineRegs, .hostRegs, .tamidRegs]
  | .innerCodewordDecode .. => [.line, .counters]
  | .kp4Codeword .. => raiseParts ++ [.line, .host, .limits, .lineRegs, .hostRegs]
  | .kp4CwLockAcquired .. => raiseParts ++ [.line, .host, .lineRegs, .hostRegs]
  | .counterBlockSnap .. => [.line, .host, .lineRegs, .hostRegs]
  | .counterBlockClr .. => [.line, .host]
  | .berPublish .. => raiseParts ++ [.free, .line, .lineRegs]
  | .terminateWrite .. => [.hostRegs]
  | .txEnable .. => [.line, .power, .powerRegs, .memProtRegs, .lineRegs]
  | .txCalDone .. => [.line, .lineRegs]
  | .txCmRampDone .. => [.line, .lineRegs]
  | .txAmpRampDone .. => [.lineRegs]
  | .txDisable .. => raiseParts ++ [.line, .power, .powerRegs, .lineRegs]
  | .txFallDone .. => [.line, .power, .powerRegs, .lineRegs]
  | .txSquelchWrite .. => raiseParts ++ [.line, .lineRegs]
  | .txPrecodeWrite .. => [.line, .lineRegs]
  | .txFirApply .. => [.line, .lineRegs]
  | .txGlideStep .. => [.line, .lineRegs]
  | .pdSwap .. => raiseParts ++ [.line, .tamid, .pantry, .lineRegs, .tamidRegs, .pantryRegs]
  | .pdFadeComplete .. => [.tamid, .pantry, .lineRegs, .tamidRegs, .pantryRegs]
  | .pdFadeResume .. => [.line, .lineRegs]
  | .pdBankWrite .. => [.lineRegs]
  | .pdEnWrite .. => [.tamid, .pantry, .lineRegs, .tamidRegs, .pantryRegs]
  | .txSatWindow .. => raiseParts ++ [.limits, .lineRegs]
  | .cellRotationStep .. => [.line, .lineRegs]
  | .cellTrimDone .. => raiseParts ++ [.line, .lineRegs]
  | .dacCellAbrupt .. => raiseParts ++ [.line, .lineRegs]
  | .dacCellDegrading .. => raiseParts ++ [.line, .lineRegs]
  | .subdacTrimUpdate .. => raiseParts ++ [.free, .line, .lineRegs]
  | .txPatSelWrite .. => [.lineRegs]
  | .lineChkSelWrite .. => raiseParts ++ [.line, .host, .lanes, .tamid, .lineRegs, .hostRegs, .tamidRegs]
  | .chkLockAcquired .. => [.line, .host, .lineRegs, .hostRegs]
  | .chkLockLoss .. => raiseParts ++ [.line, .host, .lanes, .tamid, .lineRegs, .hostRegs, .tamidRegs]
  | .censusSample .. => raiseParts ++ [.mem, .pantry, .pantryRegs]
  | .pantryFreezeWrite .. => [.pantryRegs]
  | .pantryClearWrite .. => [.pantry, .pantryRegs]
  | .pantryClearDone .. => [.mem, .link, .tamid, .pantry, .systemRegs, .memProtRegs, .tamidRegs, .pantryRegs, .keyRegs]
  | .updaterFail .. => raiseParts ++ [.free, .pantryRegs]
  | .cancellerDerive .. => [.pantry, .pantryRegs]
  | .cancellerInstall .. => [.line, .tamid, .pantry, .lineRegs, .tamidRegs, .pantryRegs]
  | .installEvaluate .. => raiseParts ++ [.line, .tamid, .pantry, .lineRegs, .tamidRegs, .pantryRegs]
  | .proposalSend .. => [.tamid, .pantry, .tamidRegs, .pantryRegs]
  | .proposeReceived .. => [.line, .tamid, .pantry, .lineRegs, .tamidRegs, .pantryRegs]
  | .ackReceived .. => [.tamid, .pantry]
  | .revertReceived .. => [.line, .tamid, .pantry, .lineRegs, .tamidRegs, .pantryRegs]
  | .proposalTimeout .. => raiseParts ++ [.tamid, .pantry, .tamidRegs]
  | .proposalAssemblyTimeout .. => [.tamid, .pantry, .tamidRegs]
  | .htFirApply .. => [.hostRegs]
  | .presetApply .. => [.hostRegs]
  | .hostTxPrecodeWrite .. => [.host, .hostRegs]
  | .hostRxPrecodeWrite .. => raiseParts ++ [.line, .host, .lineRegs, .hostRegs]
  | .htEnable .. => [.host, .power, .powerRegs, .hostRegs]
  | .htDisable .. => [.host, .power, .powerRegs, .hostRegs]
  | .htOffReached .. => [.host, .hostRegs]
  | .htSquelchWrite .. => [.host, .hostRegs]
  | .hrEnable .. => raiseParts ++ [.line, .host, .lanes, .power, .powerRegs, .memProtRegs, .lineRegs, .hostRegs]
  | .hostReacq .. => raiseParts ++ [.line, .host, .lanes, .memProtRegs, .lineRegs, .hostRegs]
  | .hostCtleWrite .. => raiseParts ++ [.line, .host, .lanes, .memProtRegs, .lineRegs, .hostRegs]
  | .hostAcqStepDone .. => raiseParts ++ [.line, .host, .lineRegs, .hostRegs]
  | .hostAcqStepTimeout .. => [.host, .hostRegs]
  | .hrAcqFail .. => raiseParts
  | .hrSignalPresent .. => raiseParts ++ [.line, .host, .lanes, .memProtRegs, .lineRegs, .hostRegs]
  | .hrLos .. => raiseParts ++ [.line, .host, .lanes, .lineRegs, .hostRegs]
  | .hrLosEnd .. => raiseParts ++ [.line, .host, .lanes, .memProtRegs, .lineRegs, .hostRegs]
  | .hostRxUpdate .. => raiseParts ++ [.line, .host, .lanes, .lineRegs, .hostRegs]
  | .hrCdrLimit .. => raiseParts ++ [.line, .host, .lanes, .lineRegs, .hostRegs]
  | .hostRelockTimeout .. => raiseParts ++ [.line, .host, .lanes, .memProtRegs, .lineRegs, .hostRegs]
  | .hrQualPublish .. => raiseParts ++ [.host, .hostRegs]
  | .trainStart .. => raiseParts ++ [.line, .host, .lanes, .lineRegs, .hostRegs]
  | .trainRequestReceived .. => [.host, .hostRegs]
  | .trainRequesterStep .. => [.host, .hostRegs]
  | .trainDone .. => [.host, .hostRegs]
  | .trainFail .. => raiseParts ++ [.free, .host, .hostRegs]
  | .htSleepWrite .. => [.host, .power, .powerRegs, .hostRegs]
  | .hrSleepWrite .. => raiseParts ++ [.line, .host, .lanes, .power, .powerRegs, .memProtRegs, .lineRegs, .hostRegs]
  | .hostPatSelWrite .. => [.lineRegs, .hostRegs]
  | .hostChkSelWrite .. => raiseParts ++ [.line, .host, .lanes, .lineRegs, .hostRegs]
  | .txOutput .. => raiseParts ++ [.free]
  | .engNop .. => engineParts
  | .engAdd .. => engineParts
  | .engAdds .. => engineParts
  | .engSub .. => engineParts
  | .engSubs .. => engineParts
  | .engAnd .. => engineParts
  | .engOr .. => engineParts
  | .engXor .. => engineParts
  | .engAsr .. => engineParts
  | .engLsl .. => engineParts
  | .engLsr .. => engineParts
  | .engAbs .. => engineParts
  | .engNeg .. => engineParts
  | .engCmp .. => engineParts
  | .engMov .. => engineParts
  | .engLdi .. => engineParts
  | .engAddi .. => engineParts
  | .engAndi .. => engineParts
  | .engAsri .. => engineParts
  | .engLsli .. => engineParts
  | .engCmpi .. => engineParts
  | .engSeta .. => engineParts
  | .engSeto .. => engineParts
  | .engMvda .. => engineParts
  | .engMvad .. => engineParts
  | .engLd .. => engineParts
  | .engSt .. => engineParts
  | .engLdd .. => engineParts
  | .engSha .. => engineParts
  | .engMac .. => engineParts
  | .engMsu .. => engineParts
  | .engMpy .. => engineParts
  | .engMacd .. => engineParts
  | .engClr .. => engineParts
  | .engSta .. => engineParts
  | .engMvac .. => engineParts
  | .engLacc .. => engineParts
  | .engBr .. => engineParts
  | .engCall .. => engineParts
  | .engRet .. => engineParts
  | .engRep .. => engineParts
  | .engRpb .. => engineParts
  | .engWait .. => engineParts
  | .engEvret .. => engineParts
  | .engHbt .. => engineParts
  | .engSig .. => engineParts
  | .engMfs .. => engineParts
  | .engMvs .. => engineParts
  | .engHalt .. => engineParts
  | .engFld .. => engineParts ++ [.line] ++ regParts
  | .engFst .. => engineParts ++ [.line, .host, .lanes, .clock, .hk, .chain, .tamid, .memory, .pantry, .thermal] ++
    regParts
  | .engMvfp .. => engineParts
  | .engIn .. => engineParts
  | .engOut .. => engineParts
  | .engPub .. => engineParts
  | .shadowSetTaken .. => [.rooms]
  | .engineEventEntry .. => [.rooms]
  | .engineTimerExpiry .. => [.rooms]
  | .engineWatchdogExpiry .. => engineParts
  | .engineFault .. => engineParts
  | .checkpointSnapshot .. => [.rooms]
  | .checkpointCommit .. => [.free, .mem, .rooms]
  | .takeoverResume .. => raiseParts ++ [.mem, .pantry, .rooms]
  | .scrubStep .. => engineParts ++ [.memory, .memProtRegs, .pantryRegs]
  | .pageReconstructDone .. => raiseParts ++ [.mem, .memory, .pantry, .memProtRegs, .pantryRegs]
  | .ceWindow .. => raiseParts ++ [.memory, .limits]
  | .pageRetireDone .. => engineParts ++ [.tamid, .memory, .memProtRegs, .tamidRegs, .pantryRegs, .keyRegs]
  | .bankRetire .. => [.memory, .memProtRegs]
  | .bankRetireDone .. => engineParts ++ [.memory, .memProtRegs, .pantryRegs]
  | .bankInit .. => [.memory, .memProtRegs]
  | .bankInitDone => [.mem, .memory, .memProtRegs]
  | .faultRaise .. => raiseParts
  | .pathBroken .. => raiseParts
  | .pathRestored .. => raiseParts
  | .levelSourceQuiet .. => [.fuse]
  | .fbUpset .. => raiseParts
  | .ffr0Read => [.fuse, .link]
  | .lingerExpiry .. => [.power, .powerRegs]
  | .domainEntryStep .. => raiseParts ++ [.line, .host, .lanes, .power, .hk, .cdac, .chain, .tamid, .test, .powerRegs,
    .clockRegs, .hkRegs, .testRegs, .lineRegs, .hostRegs, .tamidRegs, .chainRegs, .cdacRegs, .keyRegs]
  | .domainWakeRequest .. => [.power, .powerRegs]
  | .domainUndoDone .. => engineParts ++ [.line, .host, .lanes, .clock, .hk, .cdac, .chain, .tamid, .memory, .pantry,
    .thermal] ++ regParts
  | .domainReady .. => engineParts ++ [.line, .host, .lanes, .clock, .hk, .cdac, .chain, .tamid, .memory, .pantry,
    .thermal] ++ regParts
  | .wakeTimeout .. => raiseParts ++ [.power, .tamid, .rooms, .powerRegs, .tamidRegs, .keyRegs]
  | .dozeExit => raiseParts ++ [.line, .host, .lanes, .boot, .tamid, .powerRegs, .memProtRegs, .lineRegs, .hostRegs,
    .tamidRegs]
  | .deepEntryStep => raiseParts ++ [.line, .host, .lanes, .power, .clock, .hk, .cdac, .chain, .tamid, .powerRegs,
    .hkRegs, .lineRegs, .hostRegs, .tamidRegs, .chainRegs, .cdacRegs]
  | .deepWakeTimer => [.power, .powerRegs]
  | .deepExitComplete .. => commandParts ++ [.free, .mem, .clock, .hk, .chain, .memory, .pantry, .rooms, .thermal,
    .test] ++ regParts
  | .aoSensorReading .. => commandParts ++ [.mem, .clock, .boot, .hk, .cdac, .chain, .memory, .pantry, .rooms,
    .thermal, .test] ++ regParts
  | .brownout => commandParts ++ [.free, .mem, .flash, .clock, .boot, .hk, .cdac, .chain, .carriers, .memory, .pantry,
    .rooms, .thermal, .test, .flashJob, .limits] ++ regParts
  | .lineRxSleepWrite .. => [.power, .powerRegs]
  | .hkRoundStart .. => raiseParts ++ [.hk, .thermal, .hkRegs, .thermRegs]
  | .hkConversion .. => [.hk]
  | .hkRoundEnd => raiseParts ++ [.boot, .hk, .limits, .hkRegs, .thermRegs]
  | .hkTriggerTimerExpiry .. => raiseParts ++ [.hk, .hkRegs]
  | .hkTrigger .. => raiseParts ++ [.hk, .hkRegs]
  | .hkTriggerConversionDone .. => [.hk, .hkRegs]
  | .cdacSampleTick .. => raiseParts ++ [.hk, .cdac, .tamid, .cdacRegs]
  | .cdacRangeSwitch .. => [.cdac, .cdacRegs]
  | .mcStart .. => [.chain, .chainRegs]
  | .mcStop .. => [.chainRegs]
  | .mcSwap .. => [.chain, .chainRegs]
  | .mcConfigWrite .. => [.chainRegs]
  | .mcForceFbWrite .. => [.chain, .chainRegs]
  | .mcOutput .. => [.chain, .chainRegs]
  | .mcFadeComplete .. => [.chainRegs]
  | .chainFault .. => raiseParts ++ [.chain, .chainRegs]
  | .thermalCompare .. => commandParts ++ [.free, .mem, .clock, .boot, .hk, .cdac, .chain, .memory, .pantry, .rooms,
    .thermal, .test] ++ regParts
  | .shutdownFlashDrain .. => [.flash, .thermal]
  | .thermalRestart .. => commandParts ++ [.free, .mem, .clock, .boot, .hk, .chain, .memory, .pantry, .rooms,
    .thermal, .test] ++ regParts
  | .sensorMismatch .. => raiseParts ++ [.free, .thermRegs]
  | .sensorMismatchClear .. => [.fuse, .thermRegs]
  | .thermalPeriodChange .. => [.lanes, .fuse, .tamid, .pantry, .thermal, .systemRegs, .thermRegs, .lineRegs,
    .tamidRegs, .pantryRegs]
  | .calInterpolate => [.thermal]
  | .tamidTransitionDone .. => raiseParts ++ [.power, .chain, .tamid, .carriers, .powerRegs, .tamidRegs, .chainRegs,
    .keyRegs]
  | .tamidPacketStart .. => raiseParts ++ [.power, .chain, .tamid, .carriers, .powerRegs, .tamidRegs, .chainRegs,
    .keyRegs]
  | .tamidPacketEnd .. => [.power, .counters, .chain, .tamid, .powerRegs, .tamidRegs, .chainRegs]
  | .tamidAgcUpdate .. => [.tamid]
  | .tamidDetect .. => [.tamid]
  | .tamidSyncAccept .. => [.tamid, .tamidRegs]
  | .tamidSyncTimeout .. => [.tamid]
  | .tamidPacketReceived .. => raiseParts ++ [.tamid, .limits, .tamidRegs]
  | .tamidCapture .. => raiseParts ++ [.tamid, .limits, .tamidRegs]
  | .uliraCmd .. => [.link, .tamid, .systemRegs, .tamidRegs, .keyRegs]
  | .tamidCalSlice .. => raiseParts ++ [.tamid, .carriers, .tamidRegs]
  | .tamidCacheExpiry .. => [.carriers]
  | .tamidShapeWrite .. => [.tamid, .tamidRegs]
  | .cntSnap .. => [.counters, .counterRegs]
  | .cntClr => [.counters]
  | .cntLiveLoRead .. => [.link, .counters]
  | .bwWindowEnd .. => [.counters, .counterRegs]
  | .bwWindowWrite .. => [.counters, .counterRegs]
  | .counterDumpLatch => raiseParts ++ [.limits, .counterRegs]
  | .dumpWriteDone => raiseParts ++ [.mem, .memory, .memProtRegs, .counterRegs]
  | .atticPeriodic .. => raiseParts ++ [.free]
  | .atticRecordWrite .. => raiseParts ++ [.free, .flash]
  | .atticStandingWrite .. => [.free, .flash, .attic]
  | .lifecycleProgramDone .. => raiseParts ++ [.lanes, .tamid, .pantry, .thermal, .test, .thermRegs, .lineRegs,
    .tamidRegs, .pantryRegs, .keyRegs]
  | .deepTestDone .. => raiseParts ++ [.mem, .line, .host, .lanes, .power, .hk, .chain, .tamid, .pantry, .rooms,
    .test] ++ regParts
  | .bistTurn => [.power, .test, .powerRegs, .testRegs]
  | .bistSliceEnd .. => engineParts ++ [.line, .lineRegs]
  | .bistEnWrite .. => [.power, .test, .powerRegs, .testRegs]
  | .jtagInstruction .. => raiseParts ++ [.line, .host, .lanes, .power, .hk, .chain, .tamid, .test, .powerRegs,
    .hkRegs, .lineRegs, .hostRegs, .tamidRegs, .chainRegs]
  | .railLoss .. => commandParts ++ [.free, .mem, .flash, .clock, .boot, .hk, .cdac, .chain, .carriers, .memory,
    .pantry, .rooms, .thermal, .test, .flashJob, .limits] ++ regParts
  | .vidEvaluate .. => [.systemRegs]
  | .vidStep => [.boot, .systemRegs]

end Sys2Proof
end

