-- ==== Sys2Proof/Certificates/Slice0/Obligations.lean ====
section
/-! DEFINITION. The statements for the provers. -/

open Sys2Proof Sys2Proof.Machine Sys2Proof.Machine.Reg

/-- For every command c and state s: step of s with c at the front of its queue is exec of c on s with the rest of the
queue. The queue is the model's own (log 34). -/
def Obligations.StepRunsTheFrontCommand : Prop :=
  ∀ (c : Instr) (rest : List Instr) (s : State), s.pending = c :: rest →
  step s = exec c { s with pending := rest }

/-- With no command waiting and no reaction due, step answers a next state one tick later: the queue stays empty, and
memory and flash are unchanged; the Fuse Box and the mailbox are unchanged when no change of receive precoding waits
for its frame boundary; and device time counts by one when the core clock runs and no sync load is due, and stands
when the clock is stopped. That an idle step is a core tick is the model's choice (log 34). -/
def Obligations.IdleStepIsOneCoreTick : Prop :=
  ∀ s : State, s.pending = [] → s.noneDue → ∃ t : State, step s = .next t ∧ t.tick = s.tick + 1 ∧ t.pending = [] ∧
  t.mem = s.mem ∧ t.flash = s.flash ∧
  ((∀ n : Fin 8, s.line[n].rx.precodeNext = none) → t.fuse = s.fuse ∧ t.link = s.link) ∧
  (s.clock.running = true → s.clock.loads = [] → t.clock.deviceTime = (s.clock.deviceTime + 1) % 2 ^ 64) ∧
  (s.clock.running = false → t.clock.deviceTime = s.clock.deviceTime)

/-- State.reset has an empty queue, no register and no memory that differs from its default, the core clock stopped
and the boot not begun; the taps of the line FIR are c(0) = 32 LSB and 0 elsewhere, the taps of the host FIR are c(0)
= 64 and 0 elsewhere, CE_WARN is 256, 64 spare pages are free, and the scrubber is enabled. The contents of memory and
flash at reset are the model's choice (logs 7 and 8). -/
def Obligations.ResetState : Prop :=
  (State.reset.pending = [] ∧ State.reset.tick = 0 ∧ State.reset.clock.running = false ∧
   State.reset.boot.step = 0 ∧ State.reset.boot.resetHigh = false ∧ State.reset.regs = [] ∧
   State.reset.mem = [] ∧ State.reset.flash = []) ∧
  ((∀ n : Fin 8, ∀ k : Fin 9, bitsInt 12 (State.reset.fld (lineBase n) (TX_FIR_CUR.ix k.val)) = if k.val = 2
     then 512 else 0) ∧
   (∀ m : Fin 16, State.reset.hostTaps m HT_FIR_CUR = [0, 0, 64, 0, 0]) ∧
   State.reset.fld memProtBase MP_CTRL_CE_WARN = 256 ∧
   State.reset.fld memProtBase RETIRE_STATUS_CELLAR_SPARES = 64 ∧
   State.reset.flag memProtBase SCRUB_CTRL_SCRUB_EN = true)

/-- State.reset satisfies the invariant (canonical registers, memory and flash; the FIFOs within their depths) and no
reaction of a raise is due. -/
def Obligations.InvariantAtReset : Prop :=
  State.reset.Inv ∧ State.reset.noneDue

/-- From every state with the invariant, step answers a next state that has it too: registers, Hallway memory and
flash stay in canonical form; the fault history holds at most 16 entries, the inbox and the outbox at most 4, the
queue of a control-DAC channel at most 16 codes, the triggered queue 8 requests, and a Tamid receive queue 8 packets.
The counter of free values never goes back, and reactions of a raise are never left over. -/
def Obligations.EveryStepKeepsTheInvariant : Prop :=
  ∀ s : State, s.Inv → ∃ t : State, step s = .next t ∧ t.Inv ∧ s.free ≤ t.free ∧ (s.noneDue → t.noneDue)

/-- For every command c and state s, exec c s is a next state t; the queue and the tick count are unchanged; and t
differs from s only in the parts that Instr.parts lists for c and in those that the reactions of a raise can reach.
With no reaction due before it, a command that does not reach the Fuse Box changes only the parts listed. -/
def Obligations.CommandsKeepToTheirParts : Prop :=
  ∀ (c : Instr) (s : State), ∃ t : State, exec c s = .next t ∧ t.pending = s.pending ∧ t.tick = s.tick ∧
  Only (c.parts ++ reactParts) s t ∧ (s.noneDue → Part.fuse ∉ c.parts → Only c.parts s t)

/-- For every packet command: in reset or in a thermal shutdown nothing happens; in DOZE it first ends DOZE; in DEEP
it is answered BUSY and the exit from DEEP starts; and where a check of Table 11-5 fails, the next state is the state
before with that reply sent, and nothing else. -/
def Obligations.RefusedCommands : Prop :=
  (∀ (c : Instr) (o : Origin) (op : Nat) (s : State), c.packet = some (o, op) →
   s.busUp = false ∨ s.thermal.shut ≠ none → s.noneDue → exec c s = .next s) ∧
  (∀ (c : Instr) (o : Origin) (op : Nat) (s : State), c.packet = some (o, op) → s.busUp = true →
   s.thermal.shut = none → s.fld powerBase PWR_STATE_STATE = 1 →
   exec c s = exec c s.dozeExit ∧ s.dozeExit.fld powerBase PWR_STATE_STATE = 0) ∧
  (∀ (c : Instr) (o : Origin) (op : Nat) (s : State), c.packet = some (o, op) → s.noneDue → s.reaches →
   s.inDeep = true → ∃ t : State, exec c s = .next t ∧ Answered s t o stBusy [] ∧ t.power.deepExit = true) ∧
  (∀ (c : Instr) (o : Origin) (op : Nat) (s : State), c.packet = some (o, op) → ∀ st : Nat, s.noneDue →
   s.reaches → s.inDeep = false → s.refusedBy o.via op = some st → st ≠ stWrongState → ∃ t : State,
   exec c s = .next t ∧ t = (s.takeHead o op).reply o st [] ∧ Answered s t o st [])

/-- For every packet command that its check refuses with WRONG_STATE: the reply carries the device state code and the
life-cycle code, WRONG_STATE_COUNT increments (saturating), and the next state is the state before with these two
changes and nothing else. -/
def Obligations.WrongStateReply : Prop :=
  ∀ (c : Instr) (o : Origin) (op : Nat) (s : State), c.packet = some (o, op) → s.noneDue → s.reaches →
  s.inDeep = false → s.refusedBy o.via op = some stWrongState → ∃ t : State, exec c s = .next t ∧
  t = ((s.takeHead o op).bump systemBase STATUS_WRONG_STATE_COUNT).reply o stWrongState (leBytes 1 (s.fld
    systemBase STATUS_DEV_STATE) ++ leBytes 1 s.test.lifeCycle) ∧
  Answered s t o stWrongState (leBytes 1 (s.fld systemBase STATUS_DEV_STATE) ++ leBytes 1 s.test.lifeCycle) ∧
  t.fld systemBase STATUS_WRONG_STATE_COUNT = satNat STATUS_WRONG_STATE_COUNT.width (s.fld systemBase
    STATUS_WRONG_STATE_COUNT + 1)

/-- A read of DT_LO returns bits 31 to 0 of device time and latches bits 63 to 32 into DT_HI; a read of DT_HI returns
the latched value and changes nothing; and the host's read of the two words in one command returns one consistent
value. The values agree with device time whenever it is below 2^64. -/
def Obligations.DeviceTimeReads : Prop :=
  (∀ s : State, s.noneDue → ∃ t : State, exec .dtLoRead s = .next t ∧
   t.link.readData = BitVec.ofNat 32 s.clock.deviceTime ∧
   t.reg (clockBase + DT_HI_DT.off) = BitVec.ofNat 32 (s.clock.deviceTime / 2 ^ 32) ∧
   (s.clock.deviceTime < 2 ^ 64 →
     t.link.readData.toNat + 2 ^ 32 * (t.reg (clockBase + DT_HI_DT.off)).toNat = s.clock.deviceTime) ∧
   RegsBut [clockBase + DT_HI_DT.off] s t ∧ t.mem = s.mem) ∧
  (∀ (s : State) (port : Nat) (arriving : Word), s.readWord (clockBase + DT_HI_DT.off) port arriving = (s.reg
     (clockBase + DT_HI_DT.off), s)) ∧
  (∀ (o : Origin) (addr : Word) (words : BitVec 16) (s : State), s.noneDue → s.accepts o 0x0005 →
   addr.toNat = clockBase + 0x30 → words.toNat = 2 → ∃ t : State, exec (.readReg o addr words) s = .next t ∧
   Answered s t o stOk (leBytes 4 s.clock.deviceTime ++ leBytes 4 (s.clock.deviceTime / 2 ^ 32)))

/-- A read of CNT_LIVE_LO_k by a port returns bits 31 to 0 of counter k and latches bits 47 to 32 for that port;
CNT_LIVE_HI_k reads as the latch of the reading port; and the latches of every other counter and port, and the
counters themselves, are unchanged. -/
def Obligations.LiveCounterReads : Prop :=
  (∀ (k : Fin 128) (port : Fin 32) (s : State), s.noneDue → ∃ t : State,
   exec (.cntLiveLoRead k port) s = .next t ∧ t.link.readData = BitVec.ofNat 32 (s.counter k.val).count ∧
   t.cntLiveHi k.val port.val = BitVec.ofNat 32 ((s.counter k.val).count / 2 ^ 32) ∧
   (∀ (j : Fin 128) (p : Fin 32), ¬ (j = k ∧ p = port) → t.cntLiveHi j.val p.val = s.cntLiveHi j.val p.val) ∧
   t.counters.live = s.counters.live ∧ t.regs = s.regs) ∧
  (∀ (k : Fin 128) (port : Fin 32) (s : State) (arriving : Word), (s.readWord (counterBase + 0x800 + 8 * k.val)
     port.val arriving).1 = BitVec.ofNat 32 (s.counter k.val).count ∧
   (s.readWord (counterBase + 0x804 + 8 * k.val) port.val arriving).1 = s.cntLiveHi k.val port.val)

/-- POWER_STATUS is answered OK with STATE, BROWNOUT, ABANDONED and DOM_ON_0 to DOM_ON_3, little-endian, and the power
state does not change. -/
def Obligations.PowerStatusReply : Prop :=
  ∀ (o : Origin) (s : State), s.noneDue → s.accepts o 0x0502 → ∃ t : State, exec (.powerStatus o) s = .next t ∧
  Answered s t o stOk (leBytes 1 (s.fld powerBase PWR_STATE_STATE) ++ leBytes 1 (if s.flag powerBase
    RESET_CAUSE_BROWNOUT then 1 else 0) ++ leBytes 2 (s.fld powerBase PWR_STATE_ABANDONED) ++ (leBytes 4
    (s.domOnWord 0).toNat ++ leBytes 4 (s.domOnWord 1).toNat ++ leBytes 4 (s.domOnWord 2).toNat ++ leBytes 4
    (s.domOnWord 3).toNat)) ∧
  t.power = s.power

/-- At the end of a second of a memory: when the words that it corrected in the second exceed CE_WARN and the source
has not been raised within a second, CE_HIGH of that memory (severity 0) is raised with the count, saturating at
0xFFFF, as its detail, and it cannot be raised again within a second; otherwise nothing is raised. Either way the
count of the memory starts again from 0. -/
def Obligations.CorrectionRate : Prop :=
  (∀ (mem : Fin 4) (s : State), s.noneDue → s.fld memProtBase MP_CTRL_CE_WARN < s.memory.ceCounts[mem] →
   s.limitFree (0x4000 + mem.val) = true → s.takes (0x4000 + mem.val) (satNat 16 s.memory.ceCounts[mem]) →
   ∃ u : State, exec (.ceWindow mem) s = .next u.react ∧
   (∃ l : List (Nat × Nat), u = { s with limits := l, memory := { s.memory with
     ceCounts := s.memory.ceCounts.set mem 0 } }.raise (0x4000 + mem.val) (satNat 16 s.memory.ceCounts[mem])) ∧
   srcSeverity (0x4000 + mem.val) = some 0 ∧ u.isActive (0x4000 + mem.val) ∧ ∀ k : Nat, k < ticksPerSecond →
   { u with tick := s.tick + k }.limitFree (0x4000 + mem.val) = false) ∧
  (∀ (mem : Fin 4) (s : State), s.noneDue → (s.memory.ceCounts[mem] ≤ s.fld memProtBase MP_CTRL_CE_WARN ∨
     s.limitFree (0x4000 + mem.val) = false) →
   ∃ t : State, exec (.ceWindow mem) s = .next t ∧
   t = { s with memory := { s.memory with ceCounts := s.memory.ceCounts.set mem 0 } })

/-- On a locked line lane whose SNR task runs, SNR_PUBLISH publishes the SNR of the symbols. A published SNR below
SNR_WARN raises SNR_LOW (severity 0) with the SNR as its detail; it is not raised again until the SNR has been at or
above SNR_WARN + 0.5 dB; and lock is not affected by the raise. -/
def Obligations.SignalQualityWarning : Prop :=
  (∀ (n : Fin 8) (symbols : List RxSymbol) (err : ReadoutError) (v : Nat) (s : State), s.noneDue → s.locked n = true →
   s.lineTask n taskSnr = true → v = s.snrValue n symbols err.snr → v < 25 * s.fld (lineBase n) EQ_CTRL_SNR_WARN →
   s.line[n].rx.snrHeld = false → s.takes (lineSrc n 0x42) v →
   ∃ u : State, exec (.snrPublish n symbols err) s = .next u.react ∧
   (∃ x : State, u = x.raise (lineSrc n 0x42) v ∧ x.fuse = s.fuse) ∧ u.fld (lineBase n) SNR_STAT_SNR = v ∧
   srcSeverity (lineSrc n 0x42) = some 0 ∧ u.isActive (lineSrc n 0x42) ∧ u.line[n].rx.snrHeld = true ∧
   u.locked n = true ∧ u.acqState n = s.acqState n) ∧
  (∀ (n : Fin 8) (symbols : List RxSymbol) (err : ReadoutError) (v : Nat) (s : State), s.noneDue → s.locked n = true →
   s.lineTask n taskSnr = true → v = s.snrValue n symbols err.snr →
   v < 25 * s.fld (lineBase n) EQ_CTRL_SNR_WARN + 50 → s.line[n].rx.snrHeld = true →
   ∃ t : State, exec (.snrPublish n symbols err) s = .next t ∧ t.fld (lineBase n) SNR_STAT_SNR = v ∧
   t.fuse = s.fuse ∧ t.line[n].rx.snrHeld = true ∧ t.locked n = true) ∧
  (∀ (n : Fin 8) (symbols : List RxSymbol) (err : ReadoutError) (v : Nat) (s : State), s.noneDue → s.locked n = true →
   s.lineTask n taskSnr = true → v = s.snrValue n symbols err.snr →
   25 * s.fld (lineBase n) EQ_CTRL_SNR_WARN + 50 ≤ v →
   ∃ t : State, exec (.snrPublish n symbols err) s = .next t ∧ t.fld (lineBase n) SNR_STAT_SNR = v ∧
   t.fuse = s.fuse ∧ t.line[n].rx.snrHeld = false ∧ t.locked n = true)

/-- A packet that ends on the bus or at a controller, with the front door answering and the part not in DOZE. One that
has no 0xD7 in front or less than 12 bytes, that finds the inbox full, or that comes in a thermal shutdown is dropped,
counted and flagged in ATTN_CAUSE, and the inbox stays; one in DEEP is answered BUSY and starts the exit; one that
finds a packet before it, a reply waiting or the outbox full waits in the inbox; and one that a controller can take at
once waits for its command where no check of Table 11-5 fails, and is answered with the status of the first check that
fails otherwise, WRONG_STATE with the two states. In DOZE it first ends DOZE. Before the front door answers nothing
happens. A tunnelled packet is taken in its turn, or goes without a reply where R270 discards it. READ_REPLY drives
the oldest reply; one that has been clocked out completely leaves the outbox, and the oldest replies that wait move
up; with an empty outbox it drives nothing. -/
def Obligations.PacketsIn : Prop :=
  (∀ (bytes : List Byte) (c : Instr) (v : Via) (s : State), (c, v) ∈ packetForms bytes → s.noneDue →
   s.frontUp = true → s.fld powerBase PWR_STATE_STATE ≠ 1 →
   (s.thermal.shut ≠ none ∨ bytes.headD 0 ≠ 0xD7 ∨ bytes.length < 12 ∨ 4 ≤ s.link.inbox.length) →
   ∃ t : State, exec c s = .next t ∧ t = (s.bump systemBase MBOX_IN_DROPS).attn ATTN_CAUSE_INBOX_DROP ∧
   t.fld systemBase MBOX_IN_DROPS = satNat MBOX_IN_DROPS.width (s.fld systemBase MBOX_IN_DROPS + 1) ∧
   t.flag systemBase ATTN_CAUSE_INBOX_DROP = true ∧ t.link.inbox = s.link.inbox) ∧
  (∀ (bytes : List Byte) (c : Instr) (v : Via) (s : State), (c, v) ∈ packetForms bytes → s.noneDue →
   s.frontUp = true → s.fld powerBase PWR_STATE_STATE ≠ 1 → s.thermal.shut = none → s.inDeep = true →
   bytes.headD 0 = 0xD7 → 12 ≤ bytes.length → s.link.inbox = [] → s.link.waiting = [] → s.link.outbox.length < 4 →
   ∃ t : State, exec c s = .next t ∧
   t.link.outbox = s.link.outbox ++ [{ seq := packetSeq bytes, status := stBusy, results := [] }] ∧
   t.link.inbox = s.link.inbox ∧ t.power.deepExit = true) ∧
  (∀ (bytes : List Byte) (c : Instr) (v : Via) (s : State), (c, v) ∈ packetForms bytes → s.noneDue →
   s.frontUp = true → s.fld powerBase PWR_STATE_STATE ≠ 1 → s.thermal.shut = none → s.inDeep = false →
   bytes.headD 0 = 0xD7 → 12 ≤ bytes.length → s.link.inbox.length < 4 →
   (s.takesPackets = false ∨ s.link.taken ≠ [] ∨ s.link.waiting ≠ [] ∨ 4 ≤ s.link.outbox.length) →
   ∃ t : State, exec c s = .next t ∧ t.link = { s.link with inbox := s.link.inbox ++ [(v, bytes)] } ∧
   t.fld systemBase MBOX_IN_IN_WR = (s.fld systemBase MBOX_IN_IN_WR + 1) % 2 ^ MBOX_IN_IN_WR.width ∧
   RegsBut [systemBase + MBOX_IN_IN_WR.off] s t) ∧
  (∀ (bytes : List Byte) (c : Instr) (v : Via) (s : State), (c, v) ∈ packetForms bytes → s.noneDue →
   s.frontUp = true → s.takesPackets = true → bytes.headD 0 = 0xD7 → 12 ≤ bytes.length → s.link.inbox = [] →
   s.link.taken = [] → s.link.waiting = [] → s.link.outbox.length < 4 → s.packetFails v bytes = none →
   ∃ t : State, exec c s = .next t ∧
   t.link = { s.link with taken := [⟨v, packetSeq bytes, packetOp bytes, packetParams bytes⟩] } ∧
   t.fld systemBase MBOX_IN_IN_WR = (s.fld systemBase MBOX_IN_IN_WR + 1) % 2 ^ MBOX_IN_IN_WR.width ∧
   t.fld systemBase MBOX_IN_IN_RD = (s.fld systemBase MBOX_IN_IN_RD + 1) % 2 ^ MBOX_IN_IN_RD.width) ∧
  (∀ (bytes : List Byte) (c : Instr) (v : Via) (st : Nat) (s : State), (c, v) ∈ packetForms bytes → s.noneDue →
   s.frontUp = true → s.takesPackets = true → bytes.headD 0 = 0xD7 → 12 ≤ bytes.length → s.link.inbox = [] →
   s.link.taken = [] → s.link.waiting = [] → s.link.outbox.length < 4 → s.packetFails v bytes = some st →
   ∃ t : State, exec c s = .next t ∧
   t.link.outbox = s.link.outbox ++ [{ seq := packetSeq bytes, status := st, results := (if st = stWrongState then
     leBytes 1 (s.fld systemBase STATUS_DEV_STATE) ++ leBytes 1 s.test.lifeCycle else []) }] ∧
   t.link.taken = [] ∧ t.flag systemBase ATTN_CAUSE_REPLY_READY = true) ∧
  (∀ (bytes : List Byte) (c : Instr) (v : Via) (s : State), (c, v) ∈ packetForms bytes → s.frontUp = true →
   s.fld powerBase PWR_STATE_STATE = 1 →
   exec c s = exec c s.dozeExit ∧ s.dozeExit.fld powerBase PWR_STATE_STATE = 0) ∧
  (∀ (bytes : List Byte) (c : Instr) (v : Via) (s : State), (c, v) ∈ packetForms bytes → s.frontUp = false →
   exec c s = .next s) ∧
  (∀ (i : Fin 8) (bytes : List Byte) (rest : List (List Byte)) (s : State), s.noneDue → s.takesPackets = true →
   s.tamid[i].commands = bytes :: rest → bytes.headD 0 = 0xD7 → 12 ≤ bytes.length →
   s.packetFails (.tamid i) bytes = none → ∃ t : State, exec (.uliraCmd i) s = .next t ∧
   t.tamid[i].commands = rest ∧
   t.link.taken = s.link.taken ++ [⟨.tamid i, packetSeq bytes, packetOp bytes, packetParams bytes⟩] ∧
   RegsBut [] s t) ∧
  (∀ (i : Fin 8) (bytes : List Byte) (rest : List (List Byte)) (s : State), s.noneDue → s.takesPackets = true →
   s.tamid[i].commands = bytes :: rest → (bytes.headD 0 ≠ 0xD7 ∨ bytes.length < 12) → ∃ t : State,
   exec (.uliraCmd i) s = .next t ∧ t = s.modTamid i (fun x => { x with commands := rest })) ∧
  (∀ (r : Reply) (rest : List Reply) (s : State), s.noneDue → s.frontUp = true →
   s.fld powerBase PWR_STATE_STATE ≠ 1 → s.link.outbox = r :: rest → s.link.inbox = [] →
   ∃ t : State, exec (.readReply true) s = .next t ∧ t.link.busOut = r.bytes ∧
   t.link.outbox = rest ++ s.link.waiting.take (4 - rest.length) ∧
   t.link.waiting = s.link.waiting.drop (4 - rest.length) ∧
   t.fld systemBase MBOX_OUT_OUT_RD = (s.fld systemBase MBOX_OUT_OUT_RD + 1) % 2 ^ MBOX_OUT_OUT_RD.width ∧
   RegsBut [systemBase + MBOX_OUT_OUT_RD.off, systemBase + ATTN_CAUSE_REPLY_READY.off] s t ∧ t.mem = s.mem) ∧
  (∀ (r : Reply) (rest : List Reply) (s : State), s.noneDue → s.frontUp = true →
   s.fld powerBase PWR_STATE_STATE ≠ 1 → s.link.outbox = r :: rest → ∃ t : State,
   exec (.readReply false) s = .next t ∧ t = { s with link := { s.link with busOut := r.bytes } }) ∧
  (∀ (complete : Bool) (s : State), s.noneDue → s.frontUp = true → s.fld powerBase PWR_STATE_STATE ≠ 1 →
   s.link.outbox = [] → ∃ t : State, exec (.readReply complete) s = .next t ∧
   t = { s with link := { s.link with busOut := [] } })

/-- With the front door answering: a write of ATTN_CAUSE clears the causes it names but those that arrive with it, a
write of ATTN_ENABLE sets the enables, and a write of another front-door register changes nothing; a read drives the
registers from its index on. On an I3C bus, out of DOZE, ENTDAA and SETDASA give the dynamic address and RSTDAA takes
it back, ENEC and DISEC switch the in-band interrupts, GETMWL and GETMRL drive the two lengths, GETPID, GETBCR, GETDCR
and GETSTATUS drive their free bytes, and any other code changes nothing; on another bus no code has an effect. -/
def Obligations.FrontDoorAndBus : Prop :=
  (∀ (index : Byte) (value arriving : Word) (s : State), s.noneDue → s.frontUp = true → index = 4 → ∃ t : State,
   exec (.writeFront index value arriving) s = .next t ∧
   t.reg (systemBase + 4) = (s.reg (systemBase + 4) &&& ~~~(value &&& 0x7DF)) ||| (arriving &&& 0x7DF) ∧
   RegsBut [systemBase + 4] s t) ∧
  (∀ (index : Byte) (value arriving : Word) (s : State), s.noneDue → s.frontUp = true → index = 8 → ∃ t : State,
   exec (.writeFront index value arriving) s = .next t ∧
   t.reg (systemBase + 8) = (s.reg (systemBase + 8) &&& ~~~0x7FF) ||| (value &&& 0x7FF) ∧
   RegsBut [systemBase + 8] s t) ∧
  (∀ (index : Byte) (value arriving : Word) (s : State), s.noneDue → s.frontUp = true → index ≠ 4 → index ≠ 8 →
   ∃ t : State, exec (.writeFront index value arriving) s = .next t ∧ t = s) ∧
  (∀ (index : Byte) (count : Nat) (s : State), s.noneDue → s.frontUp = true → ∃ t : State,
   exec (.readFront index count) s = .next t ∧
   t = { s with link := { s.link with busOut := wordBytes ((List.range count).map fun k => s.frontWord
     (index.toNat + 4 * k)) } }) ∧
  (∀ (a : BitVec 7) (s : State), s.noneDue → s.frontUp = true → s.fld powerBase PWR_STATE_STATE ≠ 1 →
   s.fld systemBase STRAP_STATUS_BUS_SEL = 1 → ∃ t : State, exec (.i3cCcc (.entdaa a)) s = .next t ∧
   exec (.i3cCcc (.setdasa a)) s = .next t ∧ t = { s with link := { s.link with dynamicAddr := some a } }) ∧
  (∀ (on : Bool) (s : State), s.noneDue → s.frontUp = true → s.fld powerBase PWR_STATE_STATE ≠ 1 →
   s.fld systemBase STRAP_STATUS_BUS_SEL = 1 → ∃ t u : State, exec (.i3cCcc (.enec on)) s = .next t ∧
   t = { s with link := { s.link with inBand := s.link.inBand || on } } ∧
   exec (.i3cCcc (.disec on)) s = .next u ∧ u = { s with link := { s.link with inBand := s.link.inBand && !on } }) ∧
  (∀ (c : I3cCcc) (k : Nat) (s : State), (c, k) ∈ [(I3cCcc.getpid, 6), (.getbcr, 1), (.getdcr, 1), (.getstatus, 2)] →
   s.noneDue → s.frontUp = true → s.fld powerBase PWR_STATE_STATE ≠ 1 →
   s.fld systemBase STRAP_STATUS_BUS_SEL = 1 → ∃ t : State, exec (.i3cCcc c) s = .next t ∧
   t = { s with free := s.free + k, link := { s.link with busOut := ((List.range k).map fun i =>
     BitVec.ofNat 8 (Config.freeValue (s.free + i)).toNat) } }) ∧
  (∀ (code : Byte) (s : State), s.noneDue → s.frontUp = true → s.fld powerBase PWR_STATE_STATE ≠ 1 →
   s.fld systemBase STRAP_STATUS_BUS_SEL = 1 → exec (.i3cCcc (.other code)) s = .next s) ∧
  (∀ (c : I3cCcc) (s : State), s.fld systemBase STRAP_STATUS_BUS_SEL ≠ 1 → exec (.i3cCcc c) s = .next s) ∧
  (∀ s : State, s.noneDue → s.frontUp = true → s.fld powerBase PWR_STATE_STATE ≠ 1 →
   s.fld systemBase STRAP_STATUS_BUS_SEL = 1 → ∃ t : State, exec (.i3cCcc .rstdaa) s = .next t ∧
   t = { s with link := { s.link with dynamicAddr := none } }) ∧
  (∀ s : State, s.noneDue → s.frontUp = true → s.fld powerBase PWR_STATE_STATE ≠ 1 →
   s.fld systemBase STRAP_STATUS_BUS_SEL = 1 → ∃ t : State, exec (.i3cCcc .getmwl) s = .next t ∧
   t = { s with link := { s.link with busOut := [0x04, 0x0D] } }) ∧
  (∀ s : State, s.noneDue → s.frontUp = true → s.fld powerBase PWR_STATE_STATE ≠ 1 →
   s.fld systemBase STRAP_STATUS_BUS_SEL = 1 → ∃ t : State, exec (.i3cCcc .getmrl) s = .next t ∧
   t = { s with link := { s.link with busOut := [0x04, 0x0C] } })

/-- PING, GET_INFO, GET_STATE, SET_PROFILE, SET_LANE_MODE, RESET_ALL, CTRL_HANDOVER, IMAGE_LOAD and IMAGE_COMMIT that
reach their handler: the first reply of each, its effect, and cases in which it is refused. SET_PROFILE that runs on
starts a change over every lane, or is wanted after the change under way; under the throttle it is recorded.
SET_LANE_MODE that runs on takes the new mode and grouping at once and waits for the lanes that it changes; a packet
command reaches its handler when the checks of Table 11-5 pass and no packet or reply waits. -/
def Obligations.SystemCommands : Prop :=
  (∀ (o : Origin) (data : List Byte) (s : State), s.noneDue → s.accepts o 0x0000 → data.length ≤ 1024 →
   ∃ t : State, exec (.ping o data) s = .next t ∧ Answered s t o stOk data) ∧
  (∀ (o : Origin) (data : List Byte) (s : State), s.noneDue → s.accepts o 0x0000 → 1024 < data.length →
   ∃ t : State, exec (.ping o data) s = .next t ∧ Answered s t o stBadLength []) ∧
  (∀ (o : Origin) (v : Nat) (s : State), s.noneDue → s.accepts o 0x0001 → s.boot.version = some v → ∃ t : State,
   exec (.getInfo o) s = .next t ∧
   Answered s t o stOk (leBytes 2 0x8432 ++ leBytes 1 Config.revision.toNat ++ leBytes 1 (s.fld systemBase
     STATUS_BOOT_SLOT) ++ leBytes 4 (BitVec.ofNat 32 v).toNat ++ leBytes 8 Config.dieId.toNat)) ∧
  (∀ (o : Origin) (s : State), s.noneDue → s.accepts o 0x0001 → s.boot.version = none → ∃ t : State,
   exec (.getInfo o) s = .next t ∧
   Answered s t o stOk (leBytes 2 0x8432 ++ leBytes 1 Config.revision.toNat ++ leBytes 1 (s.fld systemBase
     STATUS_BOOT_SLOT) ++ leBytes 4 (Config.freeValue s.free).toNat ++ leBytes 8 Config.dieId.toNat)) ∧
  (∀ (o : Origin) (s : State), s.noneDue → s.accepts o 0x0002 → ∃ t : State, exec (.getState o) s = .next t ∧
   Answered s t o stOk (s.stateBytes)) ∧
  (∀ (o : Origin) (profile : Byte) (s : State), s.noneDue → s.accepts o 0x0003 → profile.toNat ≤ 3 →
   s.lanesRun = false → s.flag thermBase THERM_STATUS_THROTTLE = false →
   (s.lanes.change ≠ none ∨ s.profile ≠ profile.toNat) → ∃ t : State, exec (.setProfile o profile) s = .next t ∧
   Answered s t o stAccepted [] ∧ t.link.running = s.link.running ++ [⟨o, 0x0003, profile.toNat⟩] ∧
   (s.lanes.change = none → t.lanes.change = some ⟨profile.toNat, [0, 1, 2, 3, 4, 5, 6, 7], none⟩) ∧
   (∀ x : ProfileChange, s.lanes.change = some x → t.lanes.change = some x ∧
     t.lanes.wanted = if x.target = profile.toNat then none else some profile.toNat) ∧
   t.lanes.recorded = s.lanes.recorded) ∧
  (∀ (o : Origin) (profile : Byte) (s : State), s.noneDue → s.accepts o 0x0003 → profile.toNat ≤ 3 →
   s.lanesRun = false → s.flag thermBase THERM_STATUS_THROTTLE = false → s.lanes.change = none →
   s.profile = profile.toNat → ∃ t : State, exec (.setProfile o profile) s = .next t ∧ Answered s t o stOk [] ∧
   t.lanes = s.lanes ∧ t.link.running = s.link.running) ∧
  (∀ (o : Origin) (profile : Byte) (s : State), s.noneDue → s.accepts o 0x0003 → profile.toNat ≤ 3 →
   s.lanesRun = false → s.flag thermBase THERM_STATUS_THROTTLE = true → ∃ t : State,
   exec (.setProfile o profile) s = .next t ∧ Answered s t o stOk [] ∧
   t.lanes = (if profile.toNat = 2 then s.lanes else { s.lanes with recorded := some profile.toNat }) ∧
   t.link.running = s.link.running) ∧
  (∀ (o : Origin) (profile : Byte) (s : State), s.noneDue → s.accepts o 0x0003 → 3 < profile.toNat → ∃ t : State,
   exec (.setProfile o profile) s = .next t ∧ Answered s t o stBadParam [] ∧ t.mem = s.mem ∧ t.power = s.power ∧
   t.link.running = s.link.running) ∧
  (∀ (o : Origin) (profile : Byte) (s : State), s.noneDue → s.accepts o 0x0003 → profile.toNat ≤ 3 →
   s.lanesRun = true → ∃ t : State, exec (.setProfile o profile) s = .next t ∧ Answered s t o stBusy [] ∧
   t.mem = s.mem ∧ t.power = s.power ∧ t.link.running = s.link.running) ∧
  (∀ (o : Origin) (mode grouping : Byte) (s : State), s.noneDue → s.accepts o 0x0004 → mode.toNat ≤ 2 →
   grouping.toNat ≤ 4 → s.lanesRun = false → s.lanes.mode = mode.toNat → s.lanes.grouping ≠ grouping.toNat →
   regrouped s.lanes.grouping grouping.toNat ≠ [] →
   ∃ t : State, exec (.setLaneMode o mode grouping) s = .next t ∧ t.lanes.grouping = grouping.toNat ∧
   t.lanes.mode = s.lanes.mode ∧ t.lanes.modeChange = (regrouped s.lanes.grouping grouping.toNat).map Fin.val ∧
   t.link.running = s.link.running ++ [⟨o, 0x0004, 0⟩] ∧ ((∀ i, o.via ≠ .tamid i) →
     t.link.outbox = s.link.outbox ++ [{ seq := o.seq.toNat, status := stAccepted, results := [] }])) ∧
  (∀ (o : Origin) (mode grouping : Byte) (s : State), s.noneDue → s.accepts o 0x0004 → mode.toNat ≤ 2 →
   grouping.toNat ≤ 4 → s.lanesRun = false → s.lanes.mode ≠ mode.toNat → ∃ t : State,
   exec (.setLaneMode o mode grouping) s = .next t ∧
   t = (((s.takeHead o 0x0004).accept o 0x0004 0).setMode mode.toNat grouping.toNat).laneModeSettle.kick.react ∧
   t.lanes.mode = mode.toNat ∧ t.lanes.grouping = grouping.toNat ∧ t.lanes.modeChange = [0, 1, 2, 3, 4, 5, 6, 7] ∧
   t.link.running = s.link.running ++ [⟨o, 0x0004, 0⟩] ∧ ((∀ i, o.via ≠ .tamid i) →
     t.link.outbox = s.link.outbox ++ [{ seq := o.seq.toNat, status := stAccepted, results := [] }])) ∧
  (∀ (o : Origin) (mode grouping : Byte) (s : State), s.noneDue → s.accepts o 0x0004 → s.lanesRun = false →
   s.lanes.mode = mode.toNat → s.lanes.grouping = grouping.toNat → mode.toNat ≤ 2 → grouping.toNat ≤ 4 →
   ∃ t : State, exec (.setLaneMode o mode grouping) s = .next t ∧ Answered s t o stOk [] ∧ t.lanes = s.lanes) ∧
  (∀ (o : Origin) (mode grouping : Byte) (s : State), s.noneDue → s.accepts o 0x0004 →
   (2 < mode.toNat ∨ 4 < grouping.toNat) → ∃ t : State, exec (.setLaneMode o mode grouping) s = .next t ∧
   Answered s t o stBadParam [] ∧ t.mem = s.mem ∧ t.power = s.power ∧ t.link.running = s.link.running) ∧
  (∀ (o : Origin) (mode grouping : Byte) (s : State), s.noneDue → s.accepts o 0x0004 → mode.toNat ≤ 2 →
   grouping.toNat ≤ 4 → s.lanesRun = true → ∃ t : State, exec (.setLaneMode o mode grouping) s = .next t ∧
   Answered s t o stBusy [] ∧ t.lanes = s.lanes ∧ t.link.running = s.link.running) ∧
  (∀ (o : Origin) (key : Word) (s : State), s.noneDue → s.accepts o 0x0007 → key = 0xC0DE5AFE → ∃ t : State,
   exec (.resetAll o key) s = .next t ∧ Answered s t o stOk [] ∧ t.link.resetAll = some ⟨match o.via with
     | .tamid _ => 1
     | _ => s.link.outbox.length + 1, s.tick⟩ ∧ t.mem = s.mem) ∧
  (∀ (o : Origin) (key : Word) (s : State), s.noneDue → s.accepts o 0x0007 → key ≠ 0xC0DE5AFE → ∃ t : State,
   exec (.resetAll o key) s = .next t ∧ Answered s t o stBadParam [] ∧ t.mem = s.mem ∧ t.power = s.power ∧
   t.link.running = s.link.running) ∧
  (∀ (o : Origin) (s : State), s.noneDue → s.accepts o 0x0008 → s.flag keyBase KEY_STATUS_FOLLOWER_OK = true →
   ∃ t : State, exec (.ctrlHandover o) s = .next t ∧ Answered s t o stAccepted [] ∧
   t.link.running = s.link.running ++ [⟨o, 0x0008, 0⟩] ∧
   t.fld keyBase KEY_STATUS_HOLDER = s.fld keyBase KEY_STATUS_HOLDER) ∧
  (∀ (o : Origin) (s : State), s.noneDue → s.accepts o 0x0008 → s.flag keyBase KEY_STATUS_FOLLOWER_OK = false →
   ∃ t : State, exec (.ctrlHandover o) s = .next t ∧ Answered s t o stBusy [] ∧ t.mem = s.mem ∧
   t.power = s.power ∧ t.link.running = s.link.running) ∧
  (∀ (o : Origin) (offset : Word) (data : List Byte) (s : State), s.noneDue → s.accepts o 0x0009 →
   chunkFits data.length = true → offset.toNat % 4 = 0 → offset.toNat + data.length ≤ 0x100000 → ∃ t : State,
   exec (.imageLoad o offset data) s = .next t ∧ Answered s t o stOk [] ∧
   t.bytes offset.toNat data.length = data ∧ BytesBut offset.toNat data.length s t) ∧
  (∀ (o : Origin) (offset : Word) (data : List Byte) (s : State), s.noneDue → s.accepts o 0x0009 →
   chunkFits data.length = true → (offset.toNat % 4 ≠ 0 ∨ 0x100000 < offset.toNat + data.length) → ∃ t : State,
   exec (.imageLoad o offset data) s = .next t ∧ Answered s t o stBadParam [] ∧ t.mem = s.mem ∧
   t.power = s.power ∧ t.link.running = s.link.running) ∧
  (∀ (o : Origin) (length : Word) (s : State), s.noneDue → s.accepts o 0x000A → length.toNat % 4 = 0 →
   256 ≤ length.toNat → length.toNat ≤ 0x100000 → s.isRunning 0x000A = false → ∃ t : State,
   exec (.imageCommit o length) s = .next t ∧ Answered s t o stAccepted [] ∧
   t.link.running = s.link.running ++ [⟨o, 0x000A, length.toNat⟩] ∧ t.mem = s.mem) ∧
  (∀ (o : Origin) (length : Word) (s : State), s.noneDue → s.accepts o 0x000A →
   (length.toNat % 4 ≠ 0 ∨ length.toNat < 256 ∨ 0x100000 < length.toNat ∨ s.isRunning 0x000A = true) →
   ∃ t : State, exec (.imageCommit o length) s = .next t ∧ Answered s t o stBadParam [] ∧ t.mem = s.mem ∧
   t.power = s.power ∧ t.link.running = s.link.running)

/-- READ_REG and WRITE_REG answer with the words read or the number of words written, in order, and refuse an address
that is no register; a write by the controller in charge changes what the access code of the register allows; a write
by the other is discarded, counted and raised; a read clears the clear-on-read fields and keeps what arrives with it.
COMMAND_COMPLETE ends a CTRL_HANDOVER with the keys at the other controller, a FLASH_WRITE that is first in the queue
with its data in the flash, and an IMAGE_COMMIT, and places the second reply; every other background command runs on
until its own last event. A packet command is one that reaches its handler: the checks of Table 11-5 pass and no
packet or reply waits. -/
def Obligations.RegisterAccess : Prop :=
  (∀ (o : Origin) (addr : Word) (words : BitVec 16) (s : State), s.noneDue → s.accepts o 0x0005 →
   words.toNat = 1 → regValid addr.toNat = true → regDomain addr.toNat = none → ∃ t : State,
   exec (.readReg o addr words) s = .next t ∧
   Answered s t o stOk (leBytes 4 ((s.hallAccess s.holderPort addr.toNat 4 false).peek addr.toNat
     s.holderPort).toNat) ∧ t.mem = s.mem) ∧
  (∀ (o : Origin) (addr : Word) (words : BitVec 16) (s : State), s.noneDue → s.accepts o 0x0005 →
   1 ≤ words.toNat → words.toNat ≤ 256 →
   (List.range words.toNat).all (fun i => regValid (addr.toNat + 4 * i)) = true → ∃ t : State,
   exec (.readReg o addr words) s = .next t ∧
   t = (State.readRegs o words.toNat addr.toNat [] (s.takeHead o 0x0005)).kick.react) ∧
  (∀ (o : Origin) (addr : Word) (words : BitVec 16) (s : State), s.noneDue → s.accepts o 0x0005 →
   (words.toNat = 0 ∨ 256 < words.toNat ∨ (List.range words.toNat).all (fun i => regValid (addr.toNat + 4 * i))
     = false) →
   ∃ t : State, exec (.readReg o addr words) s = .next t ∧ Answered s t o stBadParam [] ∧ t.mem = s.mem ∧
   t.power = s.power ∧ t.link.running = s.link.running) ∧
  (∀ (o : Origin) (pairs : List (Word × Word)) (s : State), s.noneDue → s.accepts o 0x0006 → 1 ≤ pairs.length →
   pairs.length ≤ 128 → pairs.all (fun p => regValid p.1.toNat) = true → ∃ t : State,
   exec (.writeReg o pairs) s = .next t ∧
   t = (State.writeRegs o pairs.length pairs (s.takeHead o 0x0006)).kick.react) ∧
  (∀ (o : Origin) (pairs : List (Word × Word)) (s : State), s.noneDue → s.accepts o 0x0006 → 1 ≤ pairs.length →
   pairs.length ≤ 128 → pairs.all (fun p => regValid p.1.toNat) = false → ∃ t : State,
   exec (.writeReg o pairs) s = .next t ∧ Answered s t o stBadParam [] ∧ t.mem = s.mem ∧ t.power = s.power ∧
   t.link.running = s.link.running) ∧
  (∀ (o : Origin) (pairs : List (Word × Word)) (s : State), s.noneDue → s.accepts o 0x0006 →
   (pairs = [] ∨ 128 < pairs.length) → ∃ t : State, exec (.writeReg o pairs) s = .next t ∧
   Answered s t o stBadLength [] ∧ t.regs = (s.reply o stBadLength []).regs ∧ t.mem = s.mem) ∧
  (∀ (ctl : Ctrl) (addr value arriving : Word) (s : State), regValid addr.toNat = true → ctl = s.holderCtrl →
   regDomain addr.toNat = none → ∃ t : State, exec (.registerWrite ctl addr value arriving) s = .next t ∧
   t = ((s.hallAccess s.holderPort addr.toNat 4 true).writeWord addr.toNat value arriving).react) ∧
  (∀ (ctl : Ctrl) (addr value arriving : Word) (r : RegRow) (s : State), s.noneDue → regValid addr.toNat = true →
   ctl = s.holderCtrl → regRow? addr.toNat = some r → regDomain addr.toNat = none →
   (fuseBase ≤ addr.toNat ∧ addr.toNat < powerBase ∨
    memProtBase ≤ addr.toNat ∧ addr.toNat < hkBase ∧ addr.toNat % 0x10000 ≠ 0x54 ∨ keyBase ≤ addr.toNat) →
   ∃ t : State, exec (.registerWrite ctl addr value arriving) s = .next t ∧
   t.reg addr.toNat = accessWord r (s.reg addr.toNat) value arriving ∧ RegsBut [addr.toNat] s t) ∧
  (∀ (ctl : Ctrl) (addr value arriving : Word) (d : Nat) (s : State), regValid addr.toNat = true →
   ctl = s.holderCtrl → regDomain addr.toNat = some d → ∃ t : State,
   exec (.registerWrite ctl addr value arriving) s = .next t ∧
   t = (s.access (some d) (.ctlWrite addr value) fun x => (x.hallAccess x.holderPort addr.toNat 4 true).writeWord
     addr.toNat value arriving).react) ∧
  (∀ (ctl : Ctrl) (addr value arriving : Word) (s : State), regValid addr.toNat = true → ctl ≠ s.holderCtrl →
   s.takes 0x8001 (ctrlNum ctl * 0x8000 + addr.toNat / 4 % 0x8000) → ∃ u : State,
   exec (.registerWrite ctl addr value arriving) s = .next u.react ∧
   u = (s.bump keyBase KEY_COUNTS_BLOCKED).raise 0x8001 (ctrlNum ctl * 0x8000 + addr.toNat / 4 % 0x8000) ∧
   u.isActive 0x8001 ∧
   u.fld keyBase KEY_COUNTS_BLOCKED = satNat KEY_COUNTS_BLOCKED.width (s.fld keyBase KEY_COUNTS_BLOCKED + 1)) ∧
  (∀ (ctl : Ctrl) (addr value arriving : Word) (s : State), regValid addr.toNat = false → ∃ t : State,
   exec (.registerWrite ctl addr value arriving) s = .next t ∧ t = s) ∧
  (∀ (addr arriving : Word) (s : State), s.noneDue → rcMask addr.toNat ≠ 0 → ∃ t : State,
   exec (.rcFieldRead addr arriving) s = .next t ∧ t.link.readData = s.peek addr.toNat s.holderPort ∧
   t.reg addr.toNat = (s.reg addr.toNat &&& ~~~(rcMask addr.toNat)) ||| (arriving &&& rcMask addr.toNat) ∧
   RegsBut [addr.toNat] s t) ∧
  (∀ (addr arriving : Word) (s : State), rcMask addr.toNat = 0 → ∃ t : State,
   exec (.rcFieldRead addr arriving) s = .next t ∧ t = s) ∧
  (∀ (seq : Byte) (opcode : BitVec 16) (o : Origin) (arg : Nat) (s : State), s.noneDue →
   s.link.running = [⟨o, opcode.toNat, arg⟩] → o.seq = seq → opcode ≠ 0x000A → opcode ≠ 0x0008 →
   opcode ≠ 0x0A04 → s.link.inbox = [] → ∃ t : State, exec (.commandComplete seq opcode) s = .next t ∧ t = s) ∧
  (∀ (seq : Byte) (opcode : BitVec 16) (o : Origin) (arg : Nat) (s : State), s.noneDue →
   s.link.running = [⟨o, opcode.toNat, arg⟩] → arg = 0 → o.seq = seq → opcode = 0x0008 →
   s.flag keyBase KEY_STATUS_FOLLOWER_OK = true → s.link.inbox = [] → s.link.waiting = [] →
   s.link.outbox.length < 4 → ∃ t : State, exec (.commandComplete seq opcode) s = .next t ∧
   t.link.running = [] ∧ t.flag keyBase KEY_STATUS_HOLDER = (ctrlNum (otherCtrl s.holderCtrl) == 1) ∧
   t.fld keyBase KEY_STATUS_EPOCH = (s.fld keyBase KEY_STATUS_EPOCH + 1) % 2 ^ KEY_STATUS_EPOCH.width ∧
   Answered s t o stOk [] ∧ ((∀ i, o.via ≠ .tamid i) → t.flag systemBase ATTN_CAUSE_CMD_DONE = true) ∧
   t.flag systemBase ATTN_CAUSE_TAKEOVER = true ∧ t.mem = s.mem) ∧
  (∀ (seq : Byte) (opcode : BitVec 16) (s : State), s.link.running.find? (fun x =>
     x.origin.seq == seq && x.opcode == opcode.toNat) = none →
   ∃ t : State, exec (.commandComplete seq opcode) s = .next t ∧ t = s) ∧
  (∀ (seq : Byte) (opcode : BitVec 16) (o : Origin) (arg : Nat) (j : FlashJob) (s : State), s.noneDue →
   s.link.running = [⟨o, opcode.toNat, arg⟩] → arg = 0 → o.seq = seq → opcode = 0x0A04 → s.flashJob = some j →
   s.flashFirst = true → s.link.inbox = [] → s.link.waiting = [] → s.link.outbox.length < 4 →
   ∃ t : State, exec (.commandComplete seq opcode) s = .next t ∧ t.link.running = [] ∧ t.flashJob = none ∧
   Answered s t o stOk [] ∧ ((∀ i, o.via ≠ .tamid i) → t.flag systemBase ATTN_CAUSE_CMD_DONE = true) ∧
   t.flash = (State.flashProgram j.offset j.data (if j.erase then s.flashErase (j.offset - j.offset % 0x1000)
     else s)).flash ∧ t.mem = s.mem) ∧
  (∀ (seq : Byte) (opcode : BitVec 16) (o : Origin) (arg : Nat) (s : State), s.noneDue →
   s.link.running = [⟨o, opcode.toNat, arg⟩] → o.seq = seq → opcode = 0x000A → ∃ t : State,
   exec (.commandComplete seq opcode) s = .next t ∧ t = (s.commitDone arg).kick.react) ∧
  (∀ (seq : Byte) (opcode : BitVec 16) (o : Origin) (arg : Nat) (s : State), s.noneDue →
   s.link.running = [⟨o, opcode.toNat, arg⟩] → o.seq = seq → opcode = 0x000A → s.link.inbox = [] →
   s.link.waiting = [] → s.link.outbox.length < 4 → ∃ u : State,
   exec (.commandComplete seq opcode) s = .next u.react ∧ u.link.running = [] ∧ u.mem = s.mem ∧
   (imageValid s.cellarHeader (s.bytes 256 (arg - 256)) = true → Answered s u o stOk [] ∧ u.boot.slot = 2 ∧
     u.boot.step = 7 ∧ u.fld systemBase STATUS_DEV_STATE = 1) ∧
   (imageValid s.cellarHeader (s.bytes 256 (arg - 256)) = false →
     Answered s u o stBadParam [] ∧ u.boot.slot = s.boot.slot ∧ u.boot.step = s.boot.step))

/-- LINE_STATUS, HOST_STATUS, RETIRE_PAGE, ECC_LOG_READ, MEM_READ and MEM_WRITE: the reply of each, its effect, and
cases in which it is refused. A packet command is one that reaches its handler: the checks of Table 11-5 pass and no
packet or reply waits. -/
def Obligations.StatusAndMemoryCommands : Prop :=
  (∀ (o : Origin) (mask : Byte) (s : State), s.noneDue → s.accepts o 0x0100 → mask ≠ 0 → ∃ t : State,
   exec (.lineStatus o mask) s = .next t ∧ Answered s t o stOk (s.lineStatusBytes mask.toNat)) ∧
  (∀ (o : Origin) (mask : Byte) (s : State), s.noneDue → s.accepts o 0x0100 → mask = 0 → ∃ t : State,
   exec (.lineStatus o mask) s = .next t ∧ Answered s t o stBadParam [] ∧ t.mem = s.mem ∧ t.power = s.power ∧
   t.link.running = s.link.running) ∧
  (∀ (o : Origin) (mask : BitVec 16) (s : State), s.noneDue → s.accepts o 0x0200 → mask ≠ 0 → ∃ t : State,
   exec (.hostStatus o mask) s = .next t ∧ Answered s t o stOk (s.hostStatusBytes mask.toNat)) ∧
  (∀ (o : Origin) (mask : BitVec 16) (s : State), s.noneDue → s.accepts o 0x0200 → mask = 0 → ∃ t : State,
   exec (.hostStatus o mask) s = .next t ∧ Answered s t o stBadParam [] ∧ t.mem = s.mem ∧ t.power = s.power ∧
   t.link.running = s.link.running) ∧
  (∀ (o : Origin) (page : Word) (k : Nat) (s : State), s.noneDue → s.accepts o 0x0300 → page.toNat % 0x1000 = 0 →
   page.toNat < 0x01000000 → s.freeSpares.head? = some k → s.retireBusy = false → ∃ t : State,
   exec (.retirePage o page) s = .next t ∧ Answered s t o stAccepted [] ∧
   t.link.running = s.link.running ++ [⟨o, 0x0300, page.toNat / 0x1000⟩] ∧
   t.flag memProtBase (RETIRE_MAP_COPYING.ix k) = true ∧
   t.fld memProtBase (RETIRE_MAP_PAGE.ix k) = page.toNat / 0x1000 ∧ t.retireBusy = true ∧ t.mem = s.mem) ∧
  (∀ (o : Origin) (page : Word) (s : State), s.noneDue → s.accepts o 0x0300 →
   (page.toNat % 0x1000 ≠ 0 ∨ 0x01000000 ≤ page.toNat ∨ s.freeSpares = []) → ∃ t : State,
   exec (.retirePage o page) s = .next t ∧ Answered s t o stBadParam [] ∧ t.mem = s.mem ∧ t.power = s.power ∧
   t.link.running = s.link.running) ∧
  (∀ (o : Origin) (page : Word) (s : State), s.noneDue → s.accepts o 0x0300 → page.toNat % 0x1000 = 0 →
   page.toNat < 0x01000000 → s.freeSpares ≠ [] → s.retireBusy = true → ∃ t : State,
   exec (.retirePage o page) s = .next t ∧ Answered s t o stBusy [] ∧ t.mem = s.mem ∧ t.power = s.power ∧
   t.link.running = s.link.running) ∧
  (∀ (o : Origin) (mem flags : Byte) (s : State), s.noneDue → s.accepts o 0x0301 → mem.toNat ≤ 3 →
   flags.getLsbD 0 = false → ∃ t : State, exec (.eccLogRead o mem flags) s = .next t ∧
   Answered s t o stOk (s.eccReply (Fin.ofNat 4 mem.toNat)) ∧ t.memory = s.memory) ∧
  (∀ (o : Origin) (mem flags : Byte) (s : State), s.noneDue → s.accepts o 0x0301 → mem.toNat ≤ 3 →
   flags.getLsbD 0 = true → ∃ t : State, exec (.eccLogRead o mem flags) s = .next t ∧
   Answered s t o stOk (s.eccReply (Fin.ofNat 4 mem.toNat)) ∧
   t.memory = { s.memory with logs := s.memory.logs.set (Fin.ofNat 4 mem.toNat) [] } ∧
   t.fld memProtBase (MEM_CE_CE_COUNT.ix mem.toNat) = 0 ∧ t.fld memProtBase (MEM_UNC_UNCORR.ix mem.toNat) = 0 ∧
   t.fld memProtBase (MEM_UNC_REBUILDS.ix mem.toNat) = 0 ∧
   t.fld memProtBase (MEM_LOG_OVERFLOW.ix mem.toNat) = 0 ∧
   t.fld memProtBase (MEM_LOG_PAGES_LOST.ix mem.toNat) = 0) ∧
  (∀ (o : Origin) (mem flags : Byte) (s : State), s.noneDue → s.accepts o 0x0301 → 3 < mem.toNat → ∃ t : State,
   exec (.eccLogRead o mem flags) s = .next t ∧ Answered s t o stBadParam [] ∧ t.mem = s.mem ∧
   t.power = s.power ∧ t.link.running = s.link.running) ∧
  (∀ (o : Origin) (addr : Word) (count : BitVec 16) (findings : List WordFinding) (s : State), s.noneDue →
   s.accepts o 0x0302 → addr.toNat % 4 = 0 → count.toNat % 4 = 0 → 4 ≤ count.toNat → count.toNat ≤ 1024 →
   memReadable addr.toNat count.toNat = true → ∃ t : State, exec (.memRead o addr count findings) s = .next t ∧
   t = (State.readMem o (count.toNat / 4) addr.toNat [] findings (s.takeHead o 0x0302)).kick.react) ∧
  (∀ (o : Origin) (addr : Word) (count : BitVec 16) (findings : List WordFinding) (s : State), s.noneDue →
   s.accepts o 0x0302 → addr.toNat % 4 = 0 → count.toNat = 4 → addr.toNat + 4 ≤ 0x01000000 →
   firmwareArea addr.toNat = false → findings = [] → (s.hallWord addr.toNat).2 = false →
   ∃ t : State, exec (.memRead o addr count findings) s = .next t ∧
   Answered s t o stOk (leBytes 4 (s.hallWord addr.toNat).1.toNat) ∧ t.mem = s.mem ∧ t.memory = s.memory) ∧
  (∀ (o : Origin) (addr : Word) (count : BitVec 16) (findings : List WordFinding) (s : State), s.noneDue →
   s.accepts o 0x0302 →
   (addr.toNat % 4 ≠ 0 ∨ count.toNat % 4 ≠ 0 ∨ count.toNat < 4 ∨ 1024 < count.toNat ∨ memReadable addr.toNat
     count.toNat = false) →
   ∃ t : State, exec (.memRead o addr count findings) s = .next t ∧ Answered s t o stBadParam [] ∧
   t.mem = s.mem ∧ t.power = s.power ∧ t.link.running = s.link.running) ∧
  (∀ (o : Origin) (addr : Word) (data : List Byte) (s : State), s.noneDue → s.accepts o 0x0303 →
   chunkFits data.length = true → addr.toNat % 4 = 0 → 0x00A00000 ≤ addr.toNat →
   addr.toNat + data.length ≤ 0x00B00000 → s.retLost (addr.toNat / 0x40000) = false → ∃ t : State,
   exec (.memWrite o addr data) s = .next t ∧ Answered s t o stOk [] ∧ t.bytes addr.toNat data.length = data ∧
   BytesBut addr.toNat data.length s t) ∧
  (∀ (o : Origin) (addr : Word) (data : List Byte) (s : State), s.noneDue → s.accepts o 0x0303 →
   chunkFits data.length = true →
   (addr.toNat % 4 ≠ 0 ∨ addr.toNat < 0x00A00000 ∨ 0x00B00000 < addr.toNat + data.length) → ∃ t : State,
   exec (.memWrite o addr data) s = .next t ∧ Answered s t o stBadParam [] ∧ t.mem = s.mem ∧ t.power = s.power ∧
   t.link.running = s.link.running)

/-- FAULT_READ, FAULT_CLEAR, FAULT_CONFIG, FAULT_THRESHOLD and POWER_VOTE that reach their handler: the reply of each,
its effect, and cases in which it is refused. POWER_STATE: the power state that it enters, the second reply where
nothing has to change, and cases in which it is refused. A packet command reaches its handler when the checks of Table
11-5 pass and no packet or reply waits. -/
def Obligations.FaultAndPowerCommands : Prop :=
  (∀ (o : Origin) (s : State), s.noneDue → s.accepts o 0x0400 → ∃ t : State, exec (.faultRead o) s = .next t ∧
   Answered s t o stOk (s.faultBytes) ∧ t.fuse = s.fuse) ∧
  (∀ (o : Origin) (bits : Byte) (s : State), s.noneDue → s.accepts o 0x0401 → bits ≠ 0 → ∃ u : State,
   exec (.faultClear o bits) s = .next u.react ∧ Answered s u o stOk [] ∧
   (bits.getLsbD 0 = true → u.fuse.record = FaultRecord.empty) ∧
   (bits.getLsbD 0 = false → u.fuse.record = s.fuse.record ∧ u.fuse.active = s.fuse.active) ∧
   (bits.getLsbD 1 = true → u.fuse.hist = [] ∧ u.fuse.overwritten = 0) ∧
   (bits.getLsbD 1 = false → u.fuse.hist = s.fuse.hist ∧ u.fuse.overwritten = s.fuse.overwritten)) ∧
  (∀ (o : Origin) (bits : Byte) (s : State), s.noneDue → s.accepts o 0x0401 → bits = 0 → ∃ t : State,
   exec (.faultClear o bits) s = .next t ∧ Answered s t o stBadParam [] ∧ t.mem = s.mem ∧ t.power = s.power ∧
   t.link.running = s.link.running) ∧
  (∀ (o : Origin) (src set : BitVec 16) (x : Nat) (s : State), s.noneDue → s.accepts o 0x0402 →
   configSet src.toNat set.toNat = some x → ∃ t : State, exec (.faultConfig o src set) s = .next t ∧
   Answered s t o stOk [] ∧ t.fuse = { s.fuse with sets := Sparse.set srcDefault s.fuse.sets src.toNat x }) ∧
  (∀ (o : Origin) (src set : BitVec 16) (s : State), s.noneDue → s.accepts o 0x0402 →
   configSet src.toNat set.toNat = none → ∃ t : State, exec (.faultConfig o src set) s = .next t ∧
   Answered s t o stBadParam [] ∧ t.mem = s.mem ∧ t.power = s.power ∧ t.link.running = s.link.running) ∧
  (∀ (o : Origin) (sev : Byte) (s : State), s.noneDue → s.accepts o 0x0403 → sev ≠ 0 → sev.toNat ≤ 4 →
   ∃ t : State, exec (.faultThreshold o sev) s = .next t ∧ Answered s t o stOk [] ∧
   t.fld fuseBase FB_CTRL_THRESHOLD = sev.toNat ∧ t.fuse = s.fuse) ∧
  (∀ (o : Origin) (sev : Byte) (s : State), s.noneDue → s.accepts o 0x0403 → (sev = 0 ∨ 4 < sev.toNat) →
   ∃ t : State, exec (.faultThreshold o sev) s = .next t ∧ Answered s t o stBadParam [] ∧ t.mem = s.mem ∧
   t.power = s.power ∧ t.link.running = s.link.running) ∧
  (∀ (o : Origin) (dom vote : Byte) (linger : BitVec 16) (s : State), s.noneDue → s.accepts o 0x0500 →
   domVotable dom.toNat = true → vote.toNat ≤ 1 → linger.toNat ≤ 1000 → ∃ t : State,
   exec (.powerVote o dom vote linger) s = .next t ∧ Answered s t o stOk [] ∧
   t.fld powerBase (DOM_LINGER.ix dom.toNat) = linger.toNat ∧
   t.flag powerBase ((voteBit voteHost).ix dom.toNat) = (vote == 1)) ∧
  (∀ (o : Origin) (dom vote : Byte) (linger : BitVec 16) (s : State), s.noneDue → s.accepts o 0x0500 →
   (domVotable dom.toNat = false ∨ 1 < vote.toNat ∨ 1000 < linger.toNat) → ∃ t : State,
   exec (.powerVote o dom vote linger) s = .next t ∧ Answered s t o stBadParam [] ∧ t.mem = s.mem ∧
   t.power = s.power ∧ t.link.running = s.link.running) ∧
  (∀ (o : Origin) (st : Byte) (s : State), s.noneDue → s.accepts o 0x0501 → st = 1 →
   s.fld powerBase PWR_STATE_STATE = 0 → s.dozeBarred = false → ∃ u : State,
   exec (.powerState o st) s = .next u.react ∧ u.fld powerBase PWR_STATE_STATE = 1 ∧ u.power.dozeSince = s.tick) ∧
  (∀ (o : Origin) (st : Byte) (s : State), s.noneDue → s.accepts o 0x0501 → st = 2 →
   s.fld powerBase PWR_STATE_STATE = 0 → ∃ u : State, exec (.powerState o st) s = .next u.react ∧
   u.fld powerBase PWR_STATE_STATE = 2) ∧
  (∀ (o : Origin) (st : Byte) (s : State), s.noneDue → s.accepts o 0x0501 → st = 3 →
   s.fld powerBase PWR_STATE_STATE = 0 → ∃ u : State, exec (.powerState o st) s = .next u.react ∧
   u.fld powerBase PWR_STATE_STATE = 3 ∧ u.flag powerBase PWR_STATE_IN_TRANSITION = true ∧ u.power.deepStep = 2 ∧
   u.link.running = s.link.running ++ [⟨o, 0x0501, 3⟩]) ∧
  (∀ (o : Origin) (st : Byte) (s : State), s.noneDue → s.accepts o 0x0501 →
   st.toNat = s.fld powerBase PWR_STATE_STATE → st ≠ 1 → s.power.next = none → s.isRunning 0x0501 = false →
   ∃ t : State, exec (.powerState o st) s = .next t ∧
   t.fld powerBase PWR_STATE_STATE = s.fld powerBase PWR_STATE_STATE ∧ t.link.running = s.link.running ∧
   ((∀ i, o.via ≠ .tamid i) → t.flag systemBase ATTN_CAUSE_CMD_DONE = true ∧
     t.link.outbox ++ t.link.waiting = s.link.outbox ++
       [{ seq := o.seq.toNat, status := stAccepted, results := [] },
        { seq := o.seq.toNat, status := stOk, results := [] }])) ∧
  (∀ (o : Origin) (st : Byte) (s : State), s.noneDue → s.accepts o 0x0501 → st.toNat ≤ 3 →
   (st ≠ 2 ∨ s.power.next ≠ none) → (st ≠ 1 ∨ s.dozeBarred = false) → s.fld powerBase PWR_STATE_STATE = 2 →
   ∃ u : State, exec (.powerState o st) s = .next u.react ∧
   u = (((s.takeHead o 0x0501).accept o 0x0501 st.toNat).leaveRest st.toNat).kick) ∧
  (∀ (o : Origin) (st : Byte) (s : State), s.noneDue → s.accepts o 0x0501 → (3 < st.toNat ∨ (st = 1 ∧
   s.dozeBarred = true)) → ∃ t : State, exec (.powerState o st) s = .next t ∧ Answered s t o stBadParam [] ∧
   t.mem = s.mem ∧ t.power = s.power ∧ t.link.running = s.link.running)

/-- HK_READ, CDAC_QUEUE, CDAC_CONFIG, TAMID_CONFIG, TAMID_SEND, TAMID_RECEIVE and TAMID_STATUS: the reply of each, its
effect, and cases in which it is refused. A packet command is one that reaches its handler: the checks of Table 11-5
pass and no packet or reply waits. -/
def Obligations.ConverterAndTamidCommands : Prop :=
  (∀ (o : Origin) (mask : Word) (s : State), s.noneDue → s.accepts o 0x0600 → mask ≠ 0 → ∃ t : State,
   exec (.hkRead o mask) s = .next t ∧ Answered s t o stOk (s.hkBytes mask.toNat) ∧ t.hk = s.hk) ∧
  (∀ (o : Origin) (mask : Word) (s : State), s.noneDue → s.accepts o 0x0600 → mask = 0 → ∃ t : State,
   exec (.hkRead o mask) s = .next t ∧ Answered s t o stBadParam [] ∧ t.mem = s.mem ∧ t.power = s.power ∧
   t.link.running = s.link.running) ∧
  (∀ (o : Origin) (ch count : Byte) (codes : List (BitVec 16)) (s : State), s.noneDue → s.accepts o 0x0601 →
   codes.length = count.toNat → ch.toNat ≤ 31 → codes ≠ [] →
   codes.all (fun v => decide (v.toNat ≤ 0x3FFF)) = true →
   s.cdac[Fin.ofNat 32 ch.toNat].queue.length + codes.length ≤ 16 → ∃ t : State,
   exec (.cdacQueue o ch count codes) s = .next t ∧ Answered s t o stOk (leBytes 1 codes.length) ∧
   t.cdac[Fin.ofNat 32 ch.toNat].queue = s.cdac[Fin.ofNat 32 ch.toNat].queue ++ codes.map BitVec.toNat ∧
   t.fld (cdBase (Fin.ofNat 32 ch.toNat)) CD_STATE_QUEUED = s.cdac[Fin.ofNat 32 ch.toNat].queue.length +
     codes.length) ∧
  (∀ (o : Origin) (ch count : Byte) (codes : List (BitVec 16)) (s : State), s.noneDue → s.accepts o 0x0601 →
   codes.length = count.toNat → ch.toNat ≤ 31 → codes ≠ [] → codes.length ≤ 16 →
   codes.all (fun v => decide (v.toNat ≤ 0x3FFF)) = true →
   16 < s.cdac[Fin.ofNat 32 ch.toNat].queue.length + codes.length → ∃ t : State,
   exec (.cdacQueue o ch count codes) s = .next t ∧ Answered s t o stBusy [] ∧ t.cdac = s.cdac) ∧
  (∀ (o : Origin) (ch count : Byte) (codes : List (BitVec 16)) (s : State), s.noneDue → s.accepts o 0x0601 →
   codes.length = count.toNat →
   (31 < ch.toNat ∨ codes = [] ∨ 16 < codes.length ∨ codes.any (fun v => decide (0x3FFF < v.toNat)) = true) →
   ∃ t : State, exec (.cdacQueue o ch count codes) s = .next t ∧ Answered s t o stBadParam [] ∧ t.mem = s.mem ∧
   t.power = s.power ∧ t.link.running = s.link.running) ∧
  (∀ (o : Origin) (ch flags : Byte) (rate : Word) (step safe : BitVec 16) (s : State), s.noneDue →
   s.accepts o 0x0602 → ch.toNat ≤ 31 → 10000 ≤ rate.toNat → rate.toNat ≤ 10000000 → step.toNat ≤ 0x3FFF →
   safe.toNat ≤ 0x3FFF → ∃ t : State, exec (.cdacConfig o ch flags rate step safe) s = .next t ∧
   Answered s t o stOk [] ∧ t.fld (cdBase (Fin.ofNat 32 ch.toNat)) CD_CFG_STEP = step.toNat ∧
   t.fld (cdBase (Fin.ofNat 32 ch.toNat)) CD_SAFE_SAFE_CODE = safe.toNat ∧
   t.flag (cdBase (Fin.ofNat 32 ch.toNat)) CD_CFG_EN = flags.getLsbD 0 ∧
   t.cdac[Fin.ofNat 32 ch.toNat].rateNext = some (rateDiv rate.toNat)) ∧
  (∀ (o : Origin) (ch flags : Byte) (rate : Word) (step safe : BitVec 16) (s : State), s.noneDue →
   s.accepts o 0x0602 →
   (31 < ch.toNat ∨ rate.toNat < 10000 ∨ 10000000 < rate.toNat ∨ 0x3FFF < step.toNat ∨ 0x3FFF < safe.toNat) →
   ∃ t : State, exec (.cdacConfig o ch flags rate step safe) s = .next t ∧ Answered s t o stBadParam [] ∧
   t.mem = s.mem ∧ t.power = s.power ∧ t.link.running = s.link.running) ∧
  (∀ (o : Origin) (inst carrier fsk depth method st : Byte) (d : Nat) (s : State), s.noneDue →
   s.accepts o 0x0700 →
   s.configBad inst.toNat carrier.toNat fsk.toNat depth.toNat method.toNat st.toNat = false →
   s.tamid[Fin.ofNat 8 inst.toNat].target = none → configState st.toNat = some d → ∃ t : State,
   exec (.tamidConfig o inst carrier fsk depth method st) s = .next t ∧ Answered s t o stAccepted [] ∧
   t.tamid[Fin.ofNat 8 inst.toNat].target = some ⟨carrier.toNat, fsk.toNat == 1, depth.toNat, method.toNat == 1,
     d⟩ ∧
   t.link.running = s.link.running ++ [⟨o, 0x0700, inst.toNat⟩]) ∧
  (∀ (o : Origin) (inst carrier fsk depth method st : Byte) (s : State), s.noneDue → s.accepts o 0x0700 →
   s.configBad inst.toNat carrier.toNat fsk.toNat depth.toNat method.toNat st.toNat = true → ∃ t : State,
   exec (.tamidConfig o inst carrier fsk depth method st) s = .next t ∧ Answered s t o stBadParam [] ∧
   t.mem = s.mem ∧ t.power = s.power ∧ t.link.running = s.link.running) ∧
  (∀ (o : Origin) (inst carrier fsk depth method st : Byte) (s : State), s.noneDue → s.accepts o 0x0700 →
   s.configBad inst.toNat carrier.toNat fsk.toNat depth.toNat method.toNat st.toNat = false →
   s.tamid[Fin.ofNat 8 inst.toNat].target ≠ none → ∃ t : State,
   exec (.tamidConfig o inst carrier fsk depth method st) s = .next t ∧ Answered s t o stBusy [] ∧
   t.mem = s.mem ∧ t.power = s.power ∧ t.link.running = s.link.running) ∧
  (∀ (o : Origin) (inst len : Byte) (payload : List Byte) (s : State), s.noneDue → s.accepts o 0x0701 →
   payload.length = len.toNat → s.sendBad inst.toNat len.toNat payload = false →
   s.tamid[Fin.ofNat 8 inst.toNat].air = none → s.tamid[Fin.ofNat 8 inst.toNat].host = none →
   s.tamid[Fin.ofNat 8 inst.toNat].own = [] → ∃ t : State, exec (.tamidSend o inst len payload) s = .next t ∧
   t.tamid[Fin.ofNat 8 inst.toNat].host = some ⟨payload, o, s.tick⟩ ∧
   t.flag (tamidBase (Fin.ofNat 8 inst.toNat)) TM_STATUS_SENDING = true ∧ t.link.outbox = s.link.outbox) ∧
  (∀ (o : Origin) (inst len : Byte) (payload : List Byte) (s : State), s.noneDue → s.accepts o 0x0701 →
   payload.length = len.toNat → s.sendBad inst.toNat len.toNat payload = false →
   (s.tamid[Fin.ofNat 8 inst.toNat].air ≠ none ∨ s.tamid[Fin.ofNat 8 inst.toNat].host ≠ none ∨ s.tamid[Fin.ofNat
     8 inst.toNat].own ≠ []) →
   ∃ t : State, exec (.tamidSend o inst len payload) s = .next t ∧ Answered s t o stBusy []) ∧
  (∀ (o : Origin) (inst len : Byte) (payload : List Byte) (s : State), s.noneDue → s.accepts o 0x0701 →
   payload.length = len.toNat → s.sendBad inst.toNat len.toNat payload = true → ∃ t : State,
   exec (.tamidSend o inst len payload) s = .next t ∧ Answered s t o stBadParam [] ∧ t.mem = s.mem ∧
   t.power = s.power ∧ t.link.running = s.link.running) ∧
  (∀ (o : Origin) (inst : Byte) (s : State), s.noneDue → s.accepts o 0x0702 → inst.toNat ≤ 7 → ∃ t : State,
   exec (.tamidReceive o inst) s = .next t ∧ Answered s t o stOk ((s.tamidTake (Fin.ofNat 8 inst.toNat)).1) ∧
   t.tamid[Fin.ofNat 8 inst.toNat].queue = s.tamid[Fin.ofNat 8 inst.toNat].queue.drop 1) ∧
  (∀ (o : Origin) (inst : Byte) (s : State), s.noneDue → s.accepts o 0x0702 → 7 < inst.toNat → ∃ t : State,
   exec (.tamidReceive o inst) s = .next t ∧ Answered s t o stBadParam [] ∧ t.mem = s.mem ∧ t.power = s.power ∧
   t.link.running = s.link.running) ∧
  (∀ (o : Origin) (s : State), s.noneDue → s.accepts o 0x0703 → ∃ t : State, exec (.tamidStatus o) s = .next t ∧
   t = ((s.takeHead o 0x0703).tamidStatus o).kick.react ∧
   t.link.outbox.length = s.link.outbox.length + (match o.via with | .tamid _ => 0 | _ => 1))

/-- ROOM_STATUS, ENGINE_MAP, GUEST_LOAD, GUEST_START, GUEST_STOP, GUEST_STATUS and GUEST_MAILBOX: the reply of each,
its effect, and cases in which it is refused. A packet command is one that reaches its handler: the checks of Table
11-5 pass and no packet or reply waits. -/
def Obligations.RoomCommands : Prop :=
  (∀ (o : Origin) (s : State), s.noneDue → s.accepts o 0x0800 → ∃ t : State, exec (.roomStatus o) s = .next t ∧
   Answered s t o stOk (s.roomBytes) ∧ t.rooms = s.rooms) ∧
  (∀ (o : Origin) (room : Byte) (s : State), s.noneDue → s.accepts o 0x0801 → room.toNat ≤ 15 → ∃ t : State,
   exec (.engineMap o room) s = .next t ∧ Answered s t o stOk (s.mapBytes (Fin.ofNat 16 room.toNat)) ∧
   t.rooms = s.rooms) ∧
  (∀ (o : Origin) (room : Byte) (s : State), s.noneDue → s.accepts o 0x0801 → 15 < room.toNat → ∃ t : State,
   exec (.engineMap o room) s = .next t ∧ Answered s t o stBadParam [] ∧ t.mem = s.mem ∧ t.power = s.power ∧
   t.link.running = s.link.running) ∧
  (∀ (o : Origin) (engine b1 : Byte) (offset : BitVec 16) (data : List Byte) (s : State), s.noneDue →
   s.accepts o 0x0802 → chunkFits data.length = true → engine.toNat ≤ 61 → b1 = 0 →
   (offset = 0 ∨ offset.toNat = (s.guest engine.toNat).image.length) →
   (((if offset = 0 then [] else (s.guest engine.toNat).image) ++ data).length < 16 ∨ (((if offset = 0 then []
     else (s.guest engine.toNat).image) ++ data).length < guestSize ((if offset = 0 then [] else (s.guest
     engine.toNat).image) ++ data) ∧
   guestHeaderFits ((if offset = 0 then [] else (s.guest engine.toNat).image) ++ data) = true)) →
   (s.guest engine.toNat).st ≠ 2 → s.guestTakeover engine.toNat = false → ∃ t : State,
   exec (.guestLoad o engine b1 offset data) s = .next t ∧ Answered s t o stOk [] ∧
   (t.guest engine.toNat).image = ((if offset = 0 then [] else (s.guest engine.toNat).image) ++ data) ∧
   t.mem = s.mem) ∧
  (∀ (o : Origin) (engine b1 : Byte) (offset : BitVec 16) (data : List Byte) (s : State), s.noneDue →
   s.accepts o 0x0802 → chunkFits data.length = true → engine.toNat ≤ 61 → b1 = 0 →
   (offset = 0 ∨ offset.toNat = (s.guest engine.toNat).image.length) →
   16 ≤ ((if offset = 0 then [] else (s.guest engine.toNat).image) ++ data).length →
   guestSize ((if offset = 0 then [] else (s.guest engine.toNat).image) ++ data) ≤ ((if offset = 0 then [] else
     (s.guest engine.toNat).image) ++ data).length →
   guestHeaderFits ((if offset = 0 then [] else (s.guest engine.toNat).image) ++ data) = true →
   (s.guest engine.toNat).st ≠ 2 → s.guestTakeover engine.toNat = false → s.domOn (domRoom 15) = true →
   s.flag powerBase ((voteBit voteAccess).ix (domRoom 15)) = false → ∃ t : State,
   exec (.guestLoad o engine b1 offset data) s = .next t ∧ Answered s t o stOk [] ∧
   (t.guest engine.toNat).st = 1 ∧ (t.guest engine.toNat).image = [] ∧
   t.bytes (guestImageAddr engine.toNat) 0x1000 = (guestLayout ((if offset = 0 then [] else (s.guest
     engine.toNat).image) ++ data)).take 0x1000) ∧
  (∀ (o : Origin) (engine b1 : Byte) (offset : BitVec 16) (data : List Byte) (s : State), s.noneDue →
   s.accepts o 0x0802 → chunkFits data.length = true → (61 < engine.toNat ∨ b1 ≠ 0 ∨ (offset ≠ 0 ∧
   offset.toNat ≠ (s.guest engine.toNat).image.length) ∨ (16 ≤ ((if offset = 0 then [] else (s.guest
     engine.toNat).image) ++ data).length ∧
   guestHeaderFits ((if offset = 0 then [] else (s.guest engine.toNat).image) ++ data) = false)) → ∃ t : State,
   exec (.guestLoad o engine b1 offset data) s = .next t ∧ Answered s t o stBadParam [] ∧ t.mem = s.mem ∧
   t.power = s.power ∧ t.link.running = s.link.running) ∧
  (∀ (o : Origin) (engine : Byte) (s : State), s.noneDue → s.accepts o 0x0803 → engine.toNat ≤ 61 →
   ((s.guest engine.toNat).st = 1 ∨ (s.guest engine.toNat).st = 3) →
   s.rooms.rooms[(15 : Fin 16)].lost.contains engine.toNat = false →
   s.rooms.rooms[(15 : Fin 16)].retired.contains (s.runOn 15 engine.toNat) = false →
   s.runOn 15 engine.toNat < 64 → ∃ t : State, exec (.guestStart o engine) s = .next t ∧ Answered s t o stOk [] ∧
   (t.guest engine.toNat).st = 2 ∧ (t.guest engine.toNat).cause = 0 ∧
   (t.engine 15 (s.runOn 15 engine.toNat)).pc = 0x040 ∧
   (t.engine 15 (s.runOn 15 engine.toNat)).d = Engine.zero.d ∧
   (t.engine 15 (s.runOn 15 engine.toNat)).timerAt = s.tick) ∧
  (∀ (o : Origin) (engine : Byte) (s : State), s.noneDue → s.accepts o 0x0803 → engine.toNat ≤ 61 →
   ((s.guest engine.toNat).st = 1 ∨ (s.guest engine.toNat).st = 3) →
   s.rooms.rooms[(15 : Fin 16)].lost.contains engine.toNat = true → ∃ u : State,
   exec (.guestStart o engine) s = .next u.react ∧
   u = (((s.takeHead o 0x0803).guestTrap engine.toNat 8).reply o stOk []).kick ∧
   (u.guest engine.toNat).cause = 8 ∧ (u.guest engine.toNat).st = 3) ∧
  (∀ (o : Origin) (engine : Byte) (k : Nat) (s : State), s.noneDue → s.accepts o 0x0803 → engine.toNat ≤ 61 →
   ((s.guest engine.toNat).st = 1 ∨ (s.guest engine.toNat).st = 3) →
   s.rooms.rooms[(15 : Fin 16)].lost.contains engine.toNat = false →
   s.rooms.rooms[(15 : Fin 16)].retired.contains (s.runOn 15 engine.toNat) = true →
   s.rooms.rooms[(15 : Fin 16)].free.min? = some k → ∃ u : State, exec (.guestStart o engine) s = .next u.react ∧
   (u.guest engine.toNat).st = 2 ∧ u.runOn 15 engine.toNat = k ∧ k ∉ u.rooms.rooms[(15 : Fin 16)].free) ∧
  (∀ (o : Origin) (engine : Byte) (s : State), s.noneDue → s.accepts o 0x0803 → engine.toNat ≤ 61 →
   ((s.guest engine.toNat).st = 1 ∨ (s.guest engine.toNat).st = 3) →
   s.rooms.rooms[(15 : Fin 16)].lost.contains engine.toNat = false →
   s.rooms.rooms[(15 : Fin 16)].retired.contains (s.runOn 15 engine.toNat) = true →
   s.rooms.rooms[(15 : Fin 16)].free.min? = none → ∃ u : State, exec (.guestStart o engine) s = .next u.react ∧
   (u.guest engine.toNat).cause = 8 ∧ (u.guest engine.toNat).st = 3 ∧
   u.rooms.rooms[(15 : Fin 16)].lost.contains engine.toNat = true) ∧
  (∀ (o : Origin) (engine : Byte) (s : State), s.noneDue → s.accepts o 0x0803 →
   (61 < engine.toNat ∨ (s.guest engine.toNat).st = 0 ∨ (s.guest engine.toNat).st = 2) → ∃ t : State,
   exec (.guestStart o engine) s = .next t ∧ Answered s t o stBadParam [] ∧ t.mem = s.mem ∧ t.power = s.power ∧
   t.link.running = s.link.running) ∧
  (∀ (o : Origin) (engine : Byte) (s : State), s.noneDue → s.accepts o 0x0804 → engine.toNat ≤ 61 →
   (s.guest engine.toNat).st = 2 → s.runOn 15 engine.toNat < 64 → ∃ t : State,
   exec (.guestStop o engine) s = .next t ∧ Answered s t o stOk [] ∧ (t.guest engine.toNat).st = 3 ∧
   (t.guest engine.toNat).cause = 7 ∧ (t.engine 15 (s.runOn 15 engine.toNat)).stopped = true ∧ t.mem = s.mem) ∧
  (∀ (o : Origin) (engine : Byte) (s : State), s.noneDue → s.accepts o 0x0804 → engine.toNat ≤ 61 →
   (s.guest engine.toNat).st ≠ 2 → ∃ t : State, exec (.guestStop o engine) s = .next t ∧ Answered s t o stOk [] ∧
   t.rooms = s.rooms) ∧
  (∀ (o : Origin) (engine : Byte) (s : State), s.noneDue → s.accepts o 0x0804 → 61 < engine.toNat → ∃ t : State,
   exec (.guestStop o engine) s = .next t ∧ Answered s t o stBadParam [] ∧ t.mem = s.mem ∧ t.power = s.power ∧
   t.link.running = s.link.running) ∧
  (∀ (o : Origin) (s : State), s.noneDue → s.accepts o 0x0805 → ∃ t : State, exec (.guestStatus o) s = .next t ∧
   Answered s t o stOk (s.guestBytes) ∧ t.rooms = s.rooms) ∧
  (∀ (o : Origin) (engine count : Byte) (words : List (BitVec 16)) (s : State), s.noneDue → s.accepts o 0x0806 →
   words.length = count.toNat → engine.toNat ≤ 61 → words.length ≤ 16 →
   (s.guest engine.toNat).fromHost.length ≤ 16 → ∃ t : State,
   exec (.guestMailbox o engine count words) s = .next t ∧
   (t.guest engine.toNat).fromHost = (s.guest engine.toNat).fromHost ++ words.take (16 - (s.guest
     engine.toNat).fromHost.length) ∧
   (t.guest engine.toNat).toHost = (s.guest engine.toNat).toHost.drop 16 ∧
   Answered s t o stOk (leBytes 1 (min words.length (16 - (s.guest engine.toNat).fromHost.length)) ++ leBytes 1
     (min 16 (s.guest engine.toNat).toHost.length) ++ ((s.guest engine.toNat).toHost.take 16).flatMap fun w =>
     leBytes 2 w.toNat)) ∧
  (∀ (o : Origin) (engine count : Byte) (words : List (BitVec 16)) (s : State), s.noneDue → s.accepts o 0x0806 →
   words.length = count.toNat → (61 < engine.toNat ∨ 16 < words.length) → ∃ t : State,
   exec (.guestMailbox o engine count words) s = .next t ∧ Answered s t o stBadParam [] ∧ t.mem = s.mem ∧
   t.power = s.power ∧ t.link.running = s.link.running)

/-- COUNTER_CONFIG, COUNTER_READ, COUNTER_DUMP, COUNTER_GRANT and ATTIC_READ: the reply of each, its effect, and cases
in which it is refused. A packet command is one that reaches its handler: the checks of Table 11-5 pass and no packet
or reply waits. -/
def Obligations.CounterAndAtticCommands : Prop :=
  (∀ (o : Origin) (k : Byte) (event threshold : BitVec 16) (s : State), s.noneDue → s.accepts o 0x0900 →
   k.toNat ≤ 127 → eventValid event.toNat threshold.toNat = true → ∃ t : State,
   exec (.counterConfig o k event threshold) s = .next t ∧ Answered s t o stOk [] ∧
   t.counter k.toNat = ⟨event.toNat, threshold.toNat, 0⟩ ∧ ∀ j : Fin 128, j.val ≠ k.toNat →
   t.counter j.val = s.counter j.val) ∧
  (∀ (o : Origin) (k : Byte) (event threshold : BitVec 16) (s : State), s.noneDue → s.accepts o 0x0900 →
   (127 < k.toNat ∨ eventValid event.toNat threshold.toNat = false) → ∃ t : State,
   exec (.counterConfig o k event threshold) s = .next t ∧ Answered s t o stBadParam [] ∧ t.mem = s.mem ∧
   t.power = s.power ∧ t.link.running = s.link.running) ∧
  (∀ (o : Origin) (first count : Byte) (s : State), s.noneDue → s.accepts o 0x0901 → 1 ≤ count.toNat →
   count.toNat ≤ 128 → first.toNat + count.toNat ≤ 128 → ∃ t : State,
   exec (.counterRead o first count) s = .next t ∧
   Answered s t o stOk ((List.range count.toNat).flatMap fun i => leBytes 8 (s.counter (first.toNat + i)).count)
     ∧
   (∀ k : Fin 128, t.fld counterBase (CNT_SNAP_LO_COUNT.ix k.val) = (s.counter k.val).count % 2 ^ 32) ∧
   t.fld counterBase CNT_STATUS_SNAP_SEQ = (s.fld counterBase CNT_STATUS_SNAP_SEQ + 1) % 2 ^
     CNT_STATUS_SNAP_SEQ.width ∧
   t.counters = s.counters) ∧
  (∀ (o : Origin) (first count : Byte) (s : State), s.noneDue → s.accepts o 0x0901 →
   (count.toNat = 0 ∨ 128 < count.toNat ∨ 128 < first.toNat + count.toNat) → ∃ t : State,
   exec (.counterRead o first count) s = .next t ∧ Answered s t o stBadParam [] ∧ t.mem = s.mem ∧
   t.power = s.power ∧ t.link.running = s.link.running) ∧
  (∀ (o : Origin) (period : Word) (s : State), s.noneDue → s.accepts o 0x0902 → period.toNat ≤ 10000 →
   ∃ t : State, exec (.counterDump o period) s = .next t ∧ Answered s t o stOk [] ∧
   t.fld counterBase CNT_CTRL_DUMP_PERIOD = period.toNat) ∧
  (∀ (o : Origin) (period : Word) (s : State), s.noneDue → s.accepts o 0x0902 → 10000 < period.toNat →
   ∃ t : State, exec (.counterDump o period) s = .next t ∧ Answered s t o stBadParam [] ∧ t.mem = s.mem ∧
   t.power = s.power ∧ t.link.running = s.link.running) ∧
  (∀ (o : Origin) (g : Byte) (s : State), s.noneDue → s.accepts o 0x0903 → g.toNat ≤ 1 → ∃ t : State,
   exec (.counterGrant o g) s = .next t ∧ Answered s t o stOk [] ∧ t.flag counterBase CNT_CTRL_GRANT = (g == 1)) ∧
  (∀ (o : Origin) (g : Byte) (s : State), s.noneDue → s.accepts o 0x0903 → 1 < g.toNat → ∃ t : State,
   exec (.counterGrant o g) s = .next t ∧ Answered s t o stBadParam [] ∧ t.mem = s.mem ∧ t.power = s.power ∧
   t.link.running = s.link.running) ∧
  (∀ (o : Origin) (index : Word) (count : Byte) (bytes : List Byte) (s : State), s.noneDue → s.accepts o 0x0904 →
   1 ≤ count.toNat → count.toNat ≤ 16 → s.atticRead index.toNat count.toNat = some bytes → ∃ t : State,
   exec (.atticRead o index count) s = .next t ∧ Answered s t o stOk bytes ∧ t.attic = s.attic) ∧
  (∀ (o : Origin) (index : Word) (count : Byte) (s : State), s.noneDue → s.accepts o 0x0904 →
   (count.toNat = 0 ∨ 16 < count.toNat ∨ s.atticRead index.toNat count.toNat = none) → ∃ t : State,
   exec (.atticRead o index count) s = .next t ∧ Answered s t o stBadParam [] ∧ t.mem = s.mem ∧
   t.power = s.power ∧ t.link.running = s.link.running)

/-- LOOPBACK, BIST_STATUS, DEEP_TEST, LIFECYCLE_ADVANCE and FLASH_WRITE: the reply of each, its effect, and cases in
which it is refused. A packet command is one that reaches its handler: the checks of Table 11-5 pass and no packet or
reply waits. -/
def Obligations.TestAndLifeCycleCommands : Prop :=
  (∀ (o : Origin) (kind unit code : Byte) (s : State), s.noneDue → s.accepts o 0x0A00 →
   s.loopJudge kind.toNat unit.toNat code.toNat = .change → s.laneBusy = false → ∃ u : State,
   exec (.loopback o kind unit code) s = .next u.react ∧
   u = (((s.takeHead o 0x0A00).loopChange kind.toNat unit.toNat code.toNat).reply o stOk []).kick ∧
   (kind = 0 → u.lineLoop (Fin.ofNat 8 unit.toNat) = code.toNat) ∧
   (kind = 1 → u.hostLoop (Fin.ofNat 16 unit.toNat) = code.toNat) ∧
   (kind = 2 → u.tamidLoop (Fin.ofNat 8 unit.toNat) = code.toNat)) ∧
  (∀ (o : Origin) (kind unit code : Byte) (s : State), s.noneDue → s.accepts o 0x0A00 →
   s.loopJudge kind.toNat unit.toNat code.toNat = .same → s.laneBusy = false → ∃ t : State,
   exec (.loopback o kind unit code) s = .next t ∧ Answered s t o stOk [] ∧ t.test = s.test ∧ t.line = s.line ∧
   t.host = s.host) ∧
  (∀ (o : Origin) (kind unit code : Byte) (s : State), s.noneDue → s.accepts o 0x0A00 →
   s.loopJudge kind.toNat unit.toNat code.toNat = .bad → ∃ t : State,
   exec (.loopback o kind unit code) s = .next t ∧ Answered s t o stBadParam [] ∧ t.mem = s.mem ∧
   t.power = s.power ∧ t.link.running = s.link.running) ∧
  (∀ (o : Origin) (kind unit code : Byte) (s : State), s.noneDue → s.accepts o 0x0A00 →
   s.loopJudge kind.toNat unit.toNat code.toNat ≠ .bad → s.laneBusy = true → ∃ t : State,
   exec (.loopback o kind unit code) s = .next t ∧ Answered s t o stBusy [] ∧ t.mem = s.mem ∧ t.power = s.power ∧
   t.link.running = s.link.running) ∧
  (∀ (o : Origin) (s : State), s.noneDue → s.accepts o 0x0A01 → ∃ t : State, exec (.bistStatus o) s = .next t ∧
   Answered s t o stOk (s.bistStatus) ∧ t.test = s.test) ∧
  (∀ (o : Origin) (test : BitVec 16) (args : List Byte) (s : State), s.noneDue → s.accepts o 0x0A02 →
   deepArgsFit test.toNat args = true → s.test.deep = none → ∃ u : State,
   exec (.deepTest o test args) s = .next u.react ∧ (∃ x, u.test.deep = some x ∧ x.test = test.toNat ∧
   x.args = args ∧ x.since = s.tick) ∧ u.link.running = s.link.running ++ [⟨o, 0x0A02, 0⟩] ∧
   Answered s u o stAccepted []) ∧
  (∀ (o : Origin) (test : BitVec 16) (args : List Byte) (s : State), s.noneDue → s.accepts o 0x0A02 →
   deepArgsFit test.toNat args = true → s.test.deep ≠ none → ∃ t : State,
   exec (.deepTest o test args) s = .next t ∧ Answered s t o stBusy [] ∧ t.test = s.test) ∧
  (∀ (o : Origin) (test : BitVec 16) (args : List Byte) (s : State), s.noneDue → s.accepts o 0x0A02 →
   args.length ≤ 1022 → deepArgsFit test.toNat args = false → ∃ t : State,
   exec (.deepTest o test args) s = .next t ∧ Answered s t o stBadParam [] ∧ t.mem = s.mem ∧ t.power = s.power ∧
   t.link.running = s.link.running) ∧
  (∀ (o : Origin) (target : Byte) (token : List Byte) (s : State), s.noneDue → s.accepts o 0x0A03 →
   transitionPermitted s.test.lifeCycle target.toNat = true → token.length = (if target = 3 then 112 else 0) →
   (target = 3 → tokenAccepted token = true) → s.test.deep = none → s.test.programming = none → ∃ t : State,
   exec (.lifecycleAdvance o target token) s = .next t ∧ Answered s t o stAccepted [] ∧
   t.test = { s.test with programming := some target.toNat } ∧
   t.link.running = s.link.running ++ [⟨o, 0x0A03, target.toNat⟩]) ∧
  (∀ (o : Origin) (target : Byte) (token : List Byte) (s : State), s.noneDue → s.accepts o 0x0A03 →
   token.length ≤ 1023 → transitionPermitted s.test.lifeCycle target.toNat = false →
   s.takes 0x0029 (256 + target.toNat) → ∃ u : State, exec (.lifecycleAdvance o target token) s = .next u.react ∧
   u.isActive 0x0029 ∧ Answered s u o stNotPermitted [] ∧ u.test = s.test) ∧
  (∀ (o : Origin) (target : Byte) (token : List Byte) (s : State), s.noneDue → s.accepts o 0x0A03 →
   transitionPermitted s.test.lifeCycle target.toNat = true → target = 3 → token.length = 112 →
   tokenAccepted token = false → s.takes 0x0029 (512 + target.toNat) → ∃ u : State,
   exec (.lifecycleAdvance o target token) s = .next u.react ∧ u.isActive 0x0029 ∧
   Answered s u o stNotPermitted [] ∧ u.test = s.test) ∧
  (∀ (o : Origin) (target : Byte) (token : List Byte) (s : State), s.noneDue → s.accepts o 0x0A03 →
   transitionPermitted s.test.lifeCycle target.toNat = true → token.length ≠ (if target = 3 then 112 else 0) →
   token.length ≤ 1023 → ∃ t : State, exec (.lifecycleAdvance o target token) s = .next t ∧
   Answered s t o stBadLength [] ∧ t.test = s.test) ∧
  (∀ (o : Origin) (target : Byte) (token : List Byte) (s : State), s.noneDue → s.accepts o 0x0A03 →
   transitionPermitted s.test.lifeCycle target.toNat = true → token.length = (if target = 3 then 112 else 0) →
   (target = 3 → tokenAccepted token = true) → (s.test.deep ≠ none ∨ s.test.programming ≠ none) → ∃ t : State,
   exec (.lifecycleAdvance o target token) s = .next t ∧ Answered s t o stBusy [] ∧ t.test = s.test) ∧
  (∀ (o : Origin) (offset : Word) (flags : Byte) (zeros : BitVec 24) (data : List Byte) (s : State), s.noneDue →
   s.accepts o 0x0A04 → data.length ≤ 1016 →
   (s.test.lifeCycle ≠ 2 ∨ flashTouches offset.toNat data.length 0x400000 0x408000 = false) → zeros = 0 →
   offset.toNat + max 1 data.length ≤ 0x408000 → s.slotRuns offset.toNat data.length = false →
   s.isRunning 0x0A04 = false → ∃ t : State, exec (.flashWrite o offset flags zeros data) s = .next t ∧
   Answered s t o stAccepted [] ∧ t.flashJob = some ⟨offset.toNat, flags.getLsbD 0, data, s.tick⟩ ∧
   t.link.running = s.link.running ++ [⟨o, 0x0A04, 0⟩] ∧ t.flash = s.flash) ∧
  (∀ (o : Origin) (offset : Word) (flags : Byte) (zeros : BitVec 24) (data : List Byte) (s : State), s.noneDue →
   s.accepts o 0x0A04 → data.length ≤ 1016 → s.test.lifeCycle = 2 →
   flashTouches offset.toNat data.length 0x400000 0x408000 = true → ∃ t : State,
   exec (.flashWrite o offset flags zeros data) s = .next t ∧ Answered s t o stNotPermitted [] ∧ t.mem = s.mem ∧
   t.power = s.power ∧ t.link.running = s.link.running) ∧
  (∀ (o : Origin) (offset : Word) (flags : Byte) (zeros : BitVec 24) (data : List Byte) (s : State), s.noneDue →
   s.accepts o 0x0A04 → data.length ≤ 1016 →
   (s.test.lifeCycle ≠ 2 ∨ flashTouches offset.toNat data.length 0x400000 0x408000 = false) →
   (zeros ≠ 0 ∨ 0x408000 < offset.toNat + max 1 data.length ∨ s.slotRuns offset.toNat data.length = true) →
   ∃ t : State, exec (.flashWrite o offset flags zeros data) s = .next t ∧ Answered s t o stBadParam [] ∧
   t.mem = s.mem ∧ t.power = s.power ∧ t.link.running = s.link.running)

/-- CAL_QUALITY, PANTRY_READ, PANTRY_FREEZE, PANTRY_CLEAR, SYNC, SET_CALENDAR, GET_TIME and LEDGER_READ: the reply of
each, its effect, and cases in which it is refused. A packet command is one that reaches its handler: the checks of
Table 11-5 pass and no packet or reply waits. -/
def Obligations.CalibrationPantryAndTimeCommands : Prop :=
  (∀ (o : Origin) (kind : Byte) (s : State), s.noneDue → s.accepts o 0x0B00 → kind.toNat ≤ 2 → ∃ t : State,
   exec (.calQuality o kind) s = .next t ∧ Answered s t o stOk (s.calQuality kind.toNat) ∧
   t.hk = (if kind = 2 then { s.hk with residualMax := 0 } else s.hk)) ∧
  (∀ (o : Origin) (kind : Byte) (s : State), s.noneDue → s.accepts o 0x0B00 → 2 < kind.toNat → ∃ t : State,
   exec (.calQuality o kind) s = .next t ∧ Answered s t o stBadParam [] ∧ t.mem = s.mem ∧ t.power = s.power ∧
   t.link.running = s.link.running) ∧
  (∀ (o : Origin) (object : Byte) (first : Word) (count : BitVec 16) (s : State), s.noneDue →
   s.accepts o 0x0C00 → object.toNat < 0x10 → 1 ≤ count.toNat → count.toNat ≤ 512 →
   first.toNat + count.toNat ≤ 1048576 → ∃ t : State, exec (.pantryRead o object first count) s = .next t ∧
   t = (State.readPantry o count.toNat (tableAddr object.toNat first.toNat) [] (s.takeHead o 0x0C00)).kick.react) ∧
  (∀ (o : Origin) (object : Byte) (first : Word) (count : BitVec 16) (s : State), s.noneDue →
   s.accepts o 0x0C00 → object.toNat < 0x10 → count.toNat = 1 → first.toNat < 1048576 → s.domOn 2 = true →
   s.flag powerBase ((voteBit voteAccess).ix 2) = false →
   s.retLost (entryBank object.toNat first.toNat) = false → ∃ t : State,
   exec (.pantryRead o object first count) s = .next t ∧
   Answered s t o stOk (leBytes 2 (s.entryOf object.toNat first.toNat)) ∧ t.mem = s.mem) ∧
  (∀ (o : Origin) (object : Byte) (first : Word) (count : BitVec 16) (s : State), s.noneDue →
   s.accepts o 0x0C00 → 0x10 ≤ object.toNat → object.toNat ≤ 0x1F → 1 ≤ count.toNat → count.toNat ≤ 512 →
   first.toNat + count.toNat ≤ 1024 → ∃ t : State, exec (.pantryRead o object first count) s = .next t ∧
   Answered s t o stOk ((s.objectEntries object.toNat first.toNat count.toNat).flatMap fun v => leBytes 2 v) ∧
   t.pantry = s.pantry) ∧
  (∀ (o : Origin) (object : Byte) (first : Word) (count : BitVec 16) (s : State), s.noneDue →
   s.accepts o 0x0C00 →
   (0x1F < object.toNat ∨ count.toNat = 0 ∨ 512 < count.toNat ∨ objectSize object.toNat < first.toNat +
     count.toNat) →
   ∃ t : State, exec (.pantryRead o object first count) s = .next t ∧ Answered s t o stBadParam [] ∧
   t.mem = s.mem ∧ t.power = s.power ∧ t.link.running = s.link.running) ∧
  (∀ (o : Origin) (mask freeze : Byte) (s : State), s.noneDue → s.accepts o 0x0C01 → mask ≠ 0 →
   freeze.toNat ≤ 1 → ∃ t : State, exec (.pantryFreeze o mask freeze) s = .next t ∧ Answered s t o stOk [] ∧
   (∀ n : Fin 8, t.flag pantryBase (pl n PL_STATUS_FROZEN) = (if mask.toNat.testBit n.val then freeze == 1 else
     s.flag pantryBase (pl n PL_STATUS_FROZEN))) ∧
   ∀ n : Fin 8, t.flag pantryBase (pl n PL_CTRL_FREEZE) = (if mask.toNat.testBit n.val then freeze == 1 else
     s.flag pantryBase (pl n PL_CTRL_FREEZE))) ∧
  (∀ (o : Origin) (mask freeze : Byte) (s : State), s.noneDue → s.accepts o 0x0C01 →
   (mask = 0 ∨ 1 < freeze.toNat) → ∃ t : State, exec (.pantryFreeze o mask freeze) s = .next t ∧
   Answered s t o stBadParam [] ∧ t.mem = s.mem ∧ t.power = s.power ∧ t.link.running = s.link.running) ∧
  (∀ (o : Origin) (mask : Byte) (s : State), s.noneDue → s.accepts o 0x0C02 → mask ≠ 0 →
   s.isRunning 0x0C02 = false → ∃ t : State, exec (.pantryClear o mask) s = .next t ∧
   Answered s t o stAccepted [] ∧ (∀ n : Fin 8, mask.toNat.testBit n.val = true →
   t.flag pantryBase (pl n PL_STATUS_CLEARING) = true) ∧
   t.link.running = s.link.running ++ [⟨o, 0x0C02, mask.toNat⟩]) ∧
  (∀ (o : Origin) (mask : Byte) (s : State), s.noneDue → s.accepts o 0x0C02 → mask = 0 → ∃ t : State,
   exec (.pantryClear o mask) s = .next t ∧ Answered s t o stBadParam [] ∧ t.mem = s.mem ∧ t.power = s.power ∧
   t.link.running = s.link.running) ∧
  (∀ (o : Origin) (mask : Byte) (s : State), s.noneDue → s.accepts o 0x0C02 → mask ≠ 0 →
   s.isRunning 0x0C02 = true → ∃ t : State, exec (.pantryClear o mask) s = .next t ∧ Answered s t o stBusy [] ∧
   t.mem = s.mem ∧ t.power = s.power ∧ t.link.running = s.link.running) ∧
  (∀ (o : Origin) (s : State), s.noneDue → s.accepts o 0x0D00 → s.syncOpen = false → ∃ t : State,
   exec (.sync o) s = .next t ∧ Answered s t o stOk [] ∧ t.clock = s.clock) ∧
  (∀ (o : Origin) (s : State), s.noneDue → s.accepts o 0x0D00 → s.syncOpen = true → ∃ u : State,
   exec (.sync o) s = .next u.react ∧ u = (((s.takeHead o 0x0D00).syncEvent 0 true).reply o stOk []).kick ∧
   Answered s u o stOk [] ∧ u.clock.lastSync = some (s.syncInstant 0) ∧
   u.fld clockBase SYNC_STAT_SEQ = (s.fld clockBase SYNC_STAT_SEQ + 1) % 2 ^ SYNC_STAT_SEQ.width ∧
   u.flag clockBase SYNC_STAT_SRC = true) ∧
  (∀ (o : Origin) (sec : BitVec 40) (usec : BitVec 24) (s : State), s.noneDue → s.accepts o 0x0D01 →
   usec.toNat ≤ 999999 → ∃ t : State, exec (.setCalendar o sec usec) s = .next t ∧ Answered s t o stOk [] ∧
   t.clock = { s.clock with calSet := some (sec.toNat, usec.toNat) }) ∧
  (∀ (o : Origin) (sec : BitVec 40) (usec : BitVec 24) (s : State), s.noneDue → s.accepts o 0x0D01 →
   999999 < usec.toNat → ∃ t : State, exec (.setCalendar o sec usec) s = .next t ∧ Answered s t o stBadParam [] ∧
   t.mem = s.mem ∧ t.power = s.power ∧ t.link.running = s.link.running) ∧
  (∀ (o : Origin) (s : State), s.noneDue → s.accepts o 0x0D02 → ∃ t : State, exec (.getTime o) s = .next t ∧
   Answered s t o stOk (s.timeBytes) ∧ t.clock = s.clock) ∧
  (∀ (o : Origin) (mask : Byte) (s : State), s.noneDue → s.accepts o 0x0D03 → mask ≠ 0 → ∃ t : State,
   exec (.ledgerRead o mask) s = .next t ∧ Answered s t o stOk (s.ledgerBytes mask.toNat) ∧ t.line = s.line) ∧
  (∀ (o : Origin) (mask : Byte) (s : State), s.noneDue → s.accepts o 0x0D03 → mask = 0 → ∃ t : State,
   exec (.ledgerRead o mask) s = .next t ∧ Answered s t o stBadParam [] ∧ t.mem = s.mem ∧ t.power = s.power ∧
   t.link.running = s.link.running)

/-- RESET_N, the supplies, brown-out, RESET_ALL and the boot steps: which registers go to reset, what RESET_CAUSE
records, and how the boot goes on from step to step. Values that the spec gives no reset value for are the model's
(logs 7, 8 and 24). -/
def Obligations.ResetsAndBoot : Prop :=
  (∀ s : State, s.noneDue → s.boot.resetHigh = true → s.test.programming = none → s.flashJob = none →
   ∃ t : State, exec .resetNFall s = .next t ∧ t.boot.ball = false ∧ t.boot.resetHigh = false ∧ t.mem = [] ∧
   t.flash = s.flash ∧ t.fuse = State.reset.fuse ∧ t.test.groups = s.test.groups ∧
   t.clock.calSec = s.clock.calSec ∧ RegsBut (aoRegs.map Prod.fst) State.reset t ∧
   t.fld powerBase ⟨4, 0, 4, 0⟩ = 2) ∧
  (∀ s : State, s.noneDue → s.boot.resetHigh = false → ∃ t : State, exec .resetNFall s = .next t ∧
   t = { s with boot := { s.boot with ball := false } }) ∧
  (∀ (straps : BitVec 10) (s : State), s.noneDue → s.boot.ball = false → s.boot.released = true → ∃ u : State,
   exec (.resetNRise straps) s = .next u.react ∧ u.boot.ball = true ∧ u.boot.resetHigh = true ∧
   u.boot.step = (if s.thermal.shut.isSome then 0 else 2) ∧ u.boot.straps = straps ∧
   u.lanes.mode = strapMode straps ∧ u.lanes.grouping = 0 ∧ u.reg (systemBase + 0x100) = straps.setWidth 32 ∧
   (s.flag thermBase THERM_STATUS_THROTTLE = false →
    u.fld systemBase STATUS_PROFILE = straps.toNat / 128 % 4)) ∧
  (∀ (straps : BitVec 10) (s : State), s.noneDue → s.boot.ball = false → s.boot.released = false → ∃ t : State,
   exec (.resetNRise straps) s = .next t ∧ t = { s with boot := { s.boot with ball := true } }) ∧
  (∀ (straps : BitVec 10) (xtal : Bool) (s : State), s.noneDue → s.boot.released = false → s.boot.ball = true →
   ∃ u : State, exec (.supplyRelease straps xtal) s = .next u.react ∧ u.boot.released = true ∧
   u.boot.resetHigh = true ∧ u.boot.step = (if s.thermal.shut.isSome then 0 else 2) ∧
   u.flag clockBase CLK_STATUS_XTAL_OK = xtal ∧ u.lanes.mode = strapMode straps) ∧
  (∀ (straps : BitVec 10) (xtal : Bool) (s : State), s.noneDue → s.boot.released = false → s.boot.ball = false →
   ∃ t : State, exec (.supplyRelease straps xtal) s = .next t ∧ t.boot = { s.boot with released := true } ∧
   t.flag clockBase CLK_STATUS_XTAL_OK = xtal) ∧
  (∀ (rails : BitVec 3) (s : State), s.noneDue → rails ≠ 0 → (s.boot.released = true ∨ s.boot.rails ≠ 0) →
   s.boot.resetHigh = true →
   s.test.programming = none → s.flashJob = none → ∃ t : State, exec (.railLoss rails) s = .next t ∧
   t.boot.released = false ∧ t.boot.resetHigh = false ∧ t.boot.rails = s.boot.rails ||| rails.toNat ∧
   t.mem = [] ∧ t.flash = s.flash ∧ RegsBut (aoRegs.map Prod.fst) State.reset t) ∧
  (∀ s : State, s.noneDue → s.test.programming = none → s.flashJob = none → ∃ t : State,
   exec .brownout s = .next t ∧ t.boot.released = false ∧ t.boot.brownout = true ∧
   t.flag powerBase RESET_CAUSE_BROWNOUT = true ∧ RegsBut [powerBase + 4] State.reset t ∧
   t.clock = State.reset.clock ∧ t.thermal = State.reset.thermal ∧ t.mem = [] ∧ t.flash = s.flash ∧
   t.test.groups = s.test.groups) ∧
  (∀ s : State, s.noneDue → s.resetAllDue = true → s.test.programming = none → s.flashJob = none → ∃ u : State,
   exec .resetAllStart s = .next u.react ∧ u.boot.resetHigh = true ∧
   u.boot.step = (if s.thermal.shut.isSome then 0 else 2) ∧ u.boot.straps = s.boot.straps ∧
   u.fuse.hist = s.fuse.hist ∧ u.fuse.record.priorReset = (s.fuse.record.priorReset || s.fuse.record.valid) ∧
   u.fld powerBase ⟨4, 0, 4, 0⟩ = 4 ∧ u.mem = [] ∧ u.flash = s.flash) ∧
  (∀ s : State, s.noneDue → (s.resetAllDue = false ∨ s.test.programming ≠ none) → ∃ t : State,
   exec .resetAllStart s = .next t ∧ t = s) ∧
  (∀ (a b : Bool) (s : State), s.noneDue → s.boot.resetHigh = true → s.thermal.shut = none → s.boot.step = 2 →
   s.clock.running = true → ∃ u : State, exec (.bootStepDone (.selfTest a b)) s = .next u.react ∧
   u.flag keyBase KEY_STATUS_A_ALIVE = a ∧ u.flag keyBase KEY_STATUS_B_ALIVE = b ∧
   u.flag keyBase KEY_STATUS_HOLDER = (!a && b) ∧ ((a || b) = true → s.test.lifeCycle ≠ 4 →
   s.boot.straps.getLsbD 9 = false → u.boot.step = 4)) ∧
  (∀ s : State, s.noneDue → s.boot.resetHigh = true → s.thermal.shut = none → s.boot.step = 4 → ∃ t : State,
   exec (.bootStepDone (.sfdp true)) s = .next t ∧ t.boot = { s.boot with sfdp := true, step := 5 }) ∧
  (∀ s : State, s.noneDue → s.boot.resetHigh = true → s.thermal.shut = none → s.boot.step = 5 → ∃ t : State,
   exec (.bootStepDone .copied) s = .next t ∧ t.boot = { s.boot with slot := s.firstSlot, step := 6 } ∧
   t.bytes 0 256 = s.slotHeader s.firstSlot) ∧
  (∀ s : State, s.noneDue → s.boot.resetHigh = true → s.thermal.shut = none → s.boot.step = 6 →
   ∃ u : State, exec (.bootStepDone .authenticated) s = .next u.react ∧
   (s.cellarValid = true → u.boot = { s.boot with version := some (headerField s.cellarHeader 8), step := 7 } ∧
     u.fld systemBase STATUS_BOOT_SLOT = s.boot.slot % 2 ^ STATUS_BOOT_SLOT.width ∧ u.mem = s.mem) ∧
   (s.cellarValid = false → (s.copySlot (1 - s.boot.slot)).cellarValid = true →
     u.boot.slot = 1 - s.boot.slot ∧ u.boot.step = 7 ∧ u.mem = (s.copySlot (1 - s.boot.slot)).mem) ∧
   (s.cellarValid = false → (s.copySlot (1 - s.boot.slot)).cellarValid = false → s.fuse.safe = false →
     u.boot.step = 0 ∧ u.fld systemBase STATUS_DEV_STATE = 2)) ∧
  (∀ s : State, s.noneDue → s.boot.resetHigh = true → s.thermal.shut = none → s.boot.step = 7 → ∃ u : State,
   exec (.bootStepDone .started) s = .next u.react ∧
   u = { s.mirnisStart with boot := { s.mirnisStart.boot with step := 8 } }) ∧
  (∀ s : State, s.noneDue → s.boot.resetHigh = true → s.thermal.shut = none → s.boot.step = 8 →
   s.link.inbox = [] → ∃ t : State, exec (.bootStepDone .cmdReady) s = .next t ∧
   t.flag systemBase STATUS_CMD_READY = true ∧ t.boot = { s.boot with step := 9 } ∧
   RegsBut [systemBase + STATUS_CMD_READY.off] s t) ∧
  (∀ s : State, s.noneDue → s.boot.resetHigh = true → s.thermal.shut = none → s.boot.step = 9 →
   s.fuse.safe = false → ∃ u : State, exec (.bootStepDone .lanesStart) s = .next u.react ∧ u.boot.step = 0 ∧
   u.power.voting = true ∧ u.fld systemBase STATUS_DEV_STATE = 3) ∧
  (∀ (ev : BootEvent) (s : State), s.noneDue → (s.boot.resetHigh = false ∨ s.thermal.shut ≠ none) → ∃ t : State,
   exec (.bootStepDone ev) s = .next t ∧ t = s) ∧
  (∀ s : State, s.noneDue → s.fld systemBase STATUS_DEV_STATE = 3 → s.boot.traffic = false →
   allLines.all (fun n => s.laneReady n) = true → ∃ u : State, exec .trafficReadySet s = .next u.react ∧
   u.boot.traffic = true ∧ u.thermal.startup = false ∧ u.flag systemBase STATUS_TRAFFIC_READY = true ∧
   u.flag systemBase ATTN_CAUSE_BOOT_DONE = true)

/-- Watchdogs, take-over, rejoining, a dual claim and an upset of the keys: who holds the keys afterwards, what is
counted, and which source is raised. -/
def Obligations.TheTwoControllers : Prop :=
  (∀ (ctl : Ctrl) (s : State), s.noneDue → s.keysRun = true → s.alive ctl = true → ∃ t : State,
   exec (.ctrlWatchdogRestart ctl) s = .next t ∧ t = s.setWd ctl ∧ t.wdOf ctl = s.tick) ∧
  (∀ (ctl : Ctrl) (s : State), (s.keysRun = false ∨ s.alive ctl = false) →
   exec (.ctrlWatchdogRestart ctl) s = .next s) ∧
  (∀ s : State, s.noneDue → s.keysRun = true → s.silent s.holderCtrl = true →
   s.flag keyBase KEY_STATUS_FOLLOWER_OK = true → s.link.taken = [] →
   s.link.inbox = [] → ∃ u : State, exec .holderWatchdogExpiry s = .next u.react ∧
   u.flag keyBase KEY_STATUS_HOLDER = (ctrlNum (otherCtrl s.holderCtrl) == 1) ∧
   u.fld keyBase KEY_STATUS_EPOCH = (s.fld keyBase KEY_STATUS_EPOCH + 1) % 2 ^ KEY_STATUS_EPOCH.width ∧
   u.fld keyBase KEY_STATUS_TAKEOVERS = satNat KEY_STATUS_TAKEOVERS.width (s.fld keyBase KEY_STATUS_TAKEOVERS +
     1) ∧
   u.alive s.holderCtrl = false ∧ u.flag keyBase KEY_STATUS_FOLLOWER_OK = false ∧
   u.flag systemBase ATTN_CAUSE_TAKEOVER = true) ∧
  (∀ (ctl : Ctrl) (selfTestOk : Bool) (s : State), s.noneDue → s.keysRun = true → s.alive ctl = false →
   s.ctrlOk ctl = true → s.alive (otherCtrl ctl) = true → s.holderCtrl = otherCtrl ctl → ∃ t : State,
   exec (.ctrlRejoin ctl selfTestOk) s = .next t ∧ t.alive ctl = selfTestOk ∧
   t.flag keyBase KEY_STATUS_FOLLOWER_OK = selfTestOk ∧
   t.flag keyBase KEY_STATUS_HOLDER = s.flag keyBase KEY_STATUS_HOLDER ∧
   RegsBut [keyBase + KEY_STATUS_A_ALIVE.off] s t) ∧
  (∀ s : State, s.noneDue → s.keysRun = true → s.silent (otherCtrl s.holderCtrl) = true →
   s.takes 0x8003 (ctrlNum (otherCtrl s.holderCtrl)) → ∃ u : State,
   exec .followerWatchdogExpiry s = .next u.react ∧ u.alive (otherCtrl s.holderCtrl) = false ∧
   u.flag keyBase KEY_STATUS_FOLLOWER_OK = false ∧ u.isActive 0x8003) ∧
  (∀ s : State, (∀ c : Ctrl, s.silent c = false) → exec .holderWatchdogExpiry s = .next s ∧
   exec .followerWatchdogExpiry s = .next s ∧ exec .noController s = .next s) ∧
  (∀ s : State, s.noneDue → s.keysRun = true → s.silent s.holderCtrl = true →
   s.flag keyBase KEY_STATUS_FOLLOWER_OK = false → s.takes 0x8007 0 → ∃ u : State,
   exec .noController s = .next u.react ∧ u.alive .a = false ∧ u.alive .b = false ∧ u.isActive 0x8007) ∧
  (∀ (ctl : Ctrl) (s : State), s.noneDue → s.keysRun = true → ctl ≠ s.holderCtrl → s.alive s.holderCtrl = true →
   s.takes 0x8002 (ctrlNum ctl) → ∃ u : State, exec (.dualClaim ctl) s = .next u.react ∧
   u.fld keyBase KEY_STATUS_DUAL_CLAIMS = satNat KEY_STATUS_DUAL_CLAIMS.width (s.fld keyBase
     KEY_STATUS_DUAL_CLAIMS + 1) ∧
   u.flag keyBase KEY_STATUS_HOLDER = s.flag keyBase KEY_STATUS_HOLDER ∧ u.isActive 0x8002) ∧
  (∀ (bit : BitVec 16) (resolvable : Bool) (s : State), s.noneDue → s.keysRun = true → resolvable = true →
   s.takes 0x8005 bit.toNat → ∃ u : State, exec (.keyUpset bit resolvable) s = .next u.react ∧
   u.fld keyBase KEY_COUNTS_VOTES = satNat KEY_COUNTS_VOTES.width (s.fld keyBase KEY_COUNTS_VOTES + 1) ∧
   u.isActive 0x8005) ∧
  (∀ (bit : BitVec 16) (resolvable : Bool) (s : State), s.noneDue → s.keysRun = true → resolvable = false →
   s.takes 0x8006 0 → ∃ u : State, exec (.keyUpset bit resolvable) s = .next u.react ∧ u.isActive 0x8006)

/-- A raise, the end of a level source, a broken and a restored path, an upset, and a read of FFR_0: the active set,
the pairs, and what is latched. -/
def Obligations.FaultCollector : Prop :=
  (∀ (raises : List RaiseEvent) (e : RaiseEvent) (s : State), raises = [e] → s.takes e.src.toNat e.detail.toNat →
   ∃ u : State, exec (.faultRaise raises) s = .next u.react ∧ u = s.raise e.src.toNat e.detail.toNat ∧
   u.isActive e.src.toNat) ∧
  (∀ (raises : List RaiseEvent) (s : State), ∃ t : State, exec (.faultRaise raises) s = .next t ∧
   t = (s.each (sortRaises raises) fun e x => x.raise e.src.toNat e.detail.toNat).react) ∧
  (∀ (src : BitVec 16) (s : State), (srcSeverity src.toNat).isSome = true →
   s.fuse.blind.contains src.toNat = false → s.isolated (srcDomain src.toNat 0) = false → src ≠ 0xF000 →
   s.takes 0xF000 src.toNat → ∃ u : State, exec (.pathBroken src) s = .next u.react ∧ src.toNat ∈ u.fuse.blind ∧
   u.isActive 0xF000) ∧
  (∀ (src : BitVec 16) (fault : Bool) (detail : BitVec 16) (s : State), s.fuse.blind.contains src.toNat = true →
   ∃ u : State, exec (.pathRestored src fault detail) s = .next u.react ∧ src.toNat ∉ u.fuse.blind ∧
   (fault = true → (srcSeverity src.toNat).isSome = true → s.isolated (srcDomain src.toNat detail.toNat) = false →
    u.isActive src.toNat) ∧
   (fault = false → src.toNat ∉ u.fuse.rails)) ∧
  (∀ (src : BitVec 16) (s : State), srcLevel src.toNat = true → ∃ u : State,
   exec (.levelSourceQuiet src) s = .next u.react ∧ src.toNat ∉ u.fuse.rails ∧ u.fuse.record = s.fuse.record ∧
   u.fuse.hist = s.fuse.hist) ∧
  (∀ (word : BitVec 16) (resolvable : Bool) (s : State), resolvable = true → s.takes 0xF001 word.toNat →
   ∃ u : State, exec (.fbUpset word resolvable) s = .next u.react ∧ u.fuse.votes = satNat 8 (s.fuse.votes + 1) ∧
   u.isActive 0xF001) ∧
  (∀ (word : BitVec 16) (resolvable : Bool) (s : State), resolvable = false → s.takes 0xF002 word.toNat →
   s.fuse.safe = false → s.srcSet 0xF002 &&& rSafe ≠ 0 → ∃ u : State,
   exec (.fbUpset word resolvable) s = .next u.react ∧ u.isActive 0xF002 ∧ u.fuse.safe = true ∧
   u.fld systemBase STATUS_DEV_STATE = 4) ∧
  (∀ s : State, s.noneDue → ∃ t : State, exec .ffr0Read s = .next t ∧
   t.link.readData = (s.fuse.record.words).headD 0 ∧
   t.fuse = { s.fuse with latched := s.fuse.record.words.drop 1 } ∧ t.regs = s.regs)

/-- LIFECYCLE programming, JTAG instructions, BIST turns and slices, the end of a deep test, and the steps of the core
voltage: the registers each leaves. -/
def Obligations.LifeCycleAndBist : Prop :=
  (∀ (verified : Fin 4) (k : Nat) (s : State), s.noneDue → s.test.programming = some k → 1 ≤ k → k ≤ 4 →
   2 ≤ verified.val → s.takes 0x0028 (256 * s.test.lifeCycle + k) → ∃ u : State,
   exec (.lifecycleProgramDone verified) s = .next u.react ∧ u.test.programming = none ∧
   u.test.groups = s.test.groups ||| 2 ^ (k - 1) ∧ u.isActive 0x0028 ∧ (k = 4 → u.fuse.safe = true)) ∧
  (∀ (verified : Fin 4) (k : Nat) (s : State), s.noneDue → s.test.programming = some k → verified.val < 2 →
   s.takes 0x0029 (768 + k) → ∃ u : State, exec (.lifecycleProgramDone verified) s = .next u.react ∧
   u.test = { s.test with programming := none } ∧ u.isActive 0x0029) ∧
  (∀ (ins : JtagIns) (s : State), s.noneDue → ∃ t : State, exec (.jtagInstruction true ins) s = .next t ∧
   t = { s with test := { s.test with tap := { s.test.tap with trstLow := true, ins := .bypass } } }) ∧
  (∀ (ins : JtagIns) (k : TapIns) (s : State), s.noneDue → (ins, k) ∈ [(JtagIns.bypass, TapIns.bypass),
   (.sample, .sample), (.extest, .extest), (.extestPulse, .extestPulse), (.extestTrain, .extestTrain)] →
   ∃ t : State, exec (.jtagInstruction false ins) s = .next t ∧
   t = { s with test := { s.test with tap := { s.test.tap with trstLow := false, ins := k } } }) ∧
  (∀ (cells : List Bool) (s : State), s.noneDue → ∃ t : State,
   exec (.jtagInstruction false (.preload cells)) s = .next t ∧
   t = { s with test := { s.test with tap := ⟨false, .preload, cells⟩ } }) ∧
  (∀ (test : Nat) (args : List Byte) (s : State), s.noneDue → s.test.lifeCycle ≠ 0 → s.test.lifeCycle ≠ 3 →
   ∃ t : State, exec (.jtagInstruction false (.priv test args)) s = .next t ∧
   t = { s with test := { s.test with tap := { s.test.tap with trstLow := false, ins := .bypass } } }) ∧
  (∀ (test : Nat) (args : List Byte) (s : State), s.noneDue → (s.test.lifeCycle = 0 ∨ s.test.lifeCycle = 3) →
   deepArgsFit test args = true → s.test.deep = none → ∃ u : State,
   exec (.jtagInstruction false (.priv test args)) s = .next u.react ∧
   (∃ x, u.test.deep = some x ∧ x.test = test ∧ x.args = args ∧ x.since = s.tick) ∧ u.test.tap.ins = .priv) ∧
  (∀ s : State, s.noneDue → s.bistRuns = true → s.test.bist = none → s.fld testBase BIST_SUM_NEXT < 51 →
   s.test.recorded.contains (s.fld testBase BIST_SUM_NEXT) = false →
   s.bistConsumed (s.fld testBase BIST_SUM_NEXT) = false →
   s.domOn (bistDomain (s.fld testBase BIST_SUM_NEXT)) = true → ∃ t : State, exec .bistTurn s = .next t ∧
   t.test = { s.test with bist := some (s.fld testBase BIST_SUM_NEXT, s.tick) } ∧
   t.fld testBase BIST_SUM_NEXT = s.fld testBase BIST_SUM_NEXT + 1) ∧
  (∀ s : State, s.noneDue → s.bistRuns = true → s.test.bist = none → s.fld testBase BIST_SUM_NEXT = 51 →
   s.domOn 3 = false → ∃ t : State, exec .bistTurn s = .next t ∧ t.fld testBase BIST_SUM_NEXT = 0 ∧
   t.fld testBase BIST_SUM_ROTATIONS = satNat BIST_SUM_ROTATIONS.width (s.fld testBase BIST_SUM_ROTATIONS + 1) ∧
   t.fld testBase (BIST_R0_RESULT.ix 51) = 4) ∧
  (∀ (sl : Fin 52) (result : Option Bool) (coverage : BitVec 16) (duration : BitVec 24) (cell : Option (Fin 4 ×
     Fin 68)) (since : Nat) (s : State), s.noneDue →
   s.test.bist = some (sl.val, since) → result = some true → ∃ t : State,
   exec (.bistSliceEnd sl result coverage duration cell) s = .next t ∧ t.test = { s.test with bist := none } ∧
   t.fld testBase (BIST_R0_RESULT.ix sl.val) = 1 ∧ t.fld testBase (BIST_R0_COVERAGE.ix sl.val) = coverage.toNat ∧
   t.fld testBase (BIST_R1_DURATION.ix sl.val) = satNat 24 (s.tenthMicros since) ∧
   t.fld testBase (BIST_R3_PASSES.ix sl.val) = satNat BIST_R3_PASSES.width (s.fld testBase (BIST_R3_PASSES.ix
     sl.val) + 1)) ∧
  (∀ (sl : Fin 52) (result : Option Bool) (coverage : BitVec 16) (duration : BitVec 24) (cell : Option (Fin 4 ×
     Fin 68)) (since : Nat) (s : State), s.noneDue →
   s.test.bist = some (sl.val, since) → result = some false → s.takes 0x0020 sl.val → ∃ u : State,
   exec (.bistSliceEnd sl result coverage duration cell) s = .next u.react ∧
   u.fld testBase (BIST_R0_RESULT.ix sl.val) = 2 ∧ u.isActive 0x0020) ∧
  (∀ (sl : Fin 52) (result : Option Bool) (coverage : BitVec 16) (duration : BitVec 24) (cell : Option (Fin 4 ×
     Fin 68)) (since : Nat) (s : State), s.noneDue →
   s.test.bist = some (sl.val, since) → result = none → ∃ t : State,
   exec (.bistSliceEnd sl result coverage duration cell) s = .next t ∧ t.test = { s.test with bist := none } ∧
   t.fld testBase (BIST_R0_RESULT.ix sl.val) = 3 ∧ t.fld testBase (BIST_R0_COVERAGE.ix sl.val) = 0) ∧
  (∀ (on : Bool) (s : State), s.noneDue → (on = true ∨ s.test.bist = none) → ∃ t : State,
   exec (.bistEnWrite on) s = .next t ∧ t.flag testBase BIST_CTRL_BIST_EN = on ∧ t.test = s.test ∧
   RegsBut [testBase + BIST_CTRL_BIST_EN.off] s t) ∧
  (∀ (on : Bool) (sl since : Nat) (s : State), s.noneDue → on = false → s.test.bist = some (sl, since) →
   sl < 52 → ∃ t : State, exec (.bistEnWrite on) s = .next t ∧ t.flag testBase BIST_CTRL_BIST_EN = false ∧
   t.test.bist = none ∧ t.fld testBase (BIST_R0_RESULT.ix sl) = 3) ∧
  (∀ (pass : Bool) (coverage : BitVec 16) (signature : Word) (results : List Byte) (x : DeepRun) (s : State),
     s.noneDue →
   s.test.deep = some x → s.clock.running = true → ∃ u : State,
   exec (.deepTestDone pass coverage signature results) s = .next u.react ∧
   u = s.deepEnd x (deepReply (if pass then 1 else 2) coverage.toNat (micros (s.tick - x.since)) signature.toNat
     results) ∧
   u.test.deep = none) ∧
  (∀ (target : Fin 17) (s : State), s.noneDue → s.rooms.mirnis = true → s.clock.running = true → ∃ t : State,
   exec (.vidEvaluate target) s = .next t ∧ t.fld systemBase VID_CTRL_TARGET = target.val ∧
   RegsBut [systemBase + VID_CTRL_TARGET.off] s t) ∧
  (∀ s : State, s.noneDue → s.vidWaits = false → s.vidReady = true → s.fld systemBase VID_CTRL_CODE < s.vidGoal →
   ∃ t : State,
   exec .vidStep s = .next t ∧ t.fld systemBase VID_CTRL_CODE = s.fld systemBase VID_CTRL_CODE + 1 ∧
   RegsBut [systemBase + VID_CTRL_CODE.off] s t) ∧
  (∀ s : State, s.noneDue → s.vidWaits = false → s.vidReady = true → s.vidGoal < s.fld systemBase VID_CTRL_CODE →
   ∃ t : State,
   exec .vidStep s = .next t ∧ t.fld systemBase VID_CTRL_CODE = s.fld systemBase VID_CTRL_CODE - 1 ∧
   t.boot.vidAt = some s.tick ∧
   RegsBut [systemBase + VID_CTRL_CODE.off] s t) ∧
  (∀ s : State, s.noneDue → (s.vidWaits = true ∨ s.vidReady = false ∨ s.fld systemBase VID_CTRL_CODE = s.vidGoal) →
   ∃ t : State,
   exec .vidStep s = .next t ∧ t = s)

/-- A period of thermal protection ends: the recovery after the hottest site was below 105 °C for 60 s, the start-up
period 10 s after CMD_READY, and PERIOD follows. The comparison of the hottest site: the eighth in a row above the
shutdown level starts the shutdown, with the site and its peak recorded, every votable domain off and the core clock
stopped; any other counts, or starts the count again. A flash operation in flight at a shutdown completes. The restart
ends the shutdown. Elements of a site that differ by more than 2.0 °C set MISMATCH and raise its source, and elements
that agree within 1.0 °C clear it. The interpolation of calibration holds the readings of the sites for the next
round. -/
def Obligations.ThermalProtection : Prop :=
  (∀ s : State, s.noneDue → ∃ u : State, exec .thermalPeriodChange s = .next u.react ∧
   u.thermal.recovery = (s.thermal.recovery && !s.secondsSince s.thermal.coolSince 60) ∧
   u.thermal.startup = (s.thermal.startup && !s.secondsSince s.thermal.readyAt 10) ∧
   u.fld thermBase THERM_STATUS_PERIOD = (if s.thermal.recovery = true ∧
     s.secondsSince s.thermal.coolSince 60 = false then 1
     else if s.test.lifeCycle = 0 ∨ s.test.lifeCycle = 3 ∨ s.flag thermBase THERM_CTRL_TEST_LEVELS = true then 2
     else if s.thermal.startup = true ∧ s.secondsSince s.thermal.readyAt 10 = false then 3 else 0)) ∧
  (∀ (elements : List (BitVec 16 × BitVec 16)) (site code : Nat) (s : State), s.noneDue → s.thermal.shut = none →
   s.domOn 1 = true → hottestSite (s.siteCodes elements) = site → (s.siteCodes elements).getD site 0 = code →
   s.thermal.shutUp = 7 → 48384 < code → ∃ u : State, exec (.thermalCompare elements) s = .next u.react ∧
   u.thermal.shut.isSome = true ∧ u.fld thermBase THERM_LAST_SITE = site ∧
   u.fld thermBase THERM_LAST_PEAK = tenthsCelsius code ∧ u.clock.running = false ∧
   u.flag systemBase STATUS_CMD_READY = false ∧ ∀ d : Fin 72, 2 ≤ d.val → domVotable d.val = true →
   u.fld powerBase (DOM_STATE.ix d.val) = 3) ∧
  (∀ (elements : List (BitVec 16 × BitVec 16)) (code : Nat) (s : State), s.noneDue → s.thermal.shut = none →
   s.domOn 1 = true → (s.siteCodes elements).getD (hottestSite (s.siteCodes elements)) 0 = code →
   (s.thermal.shutUp < 7 ∨ code ≤ 48384) → ∃ u : State,
   exec (.thermalCompare elements) s = .next u.react ∧ u.thermal.shut = none ∧
   u.thermal.shutUp = (if 48384 < code then s.thermal.shutUp + 1 else 0) ∧
   u.thermal.coolSince = (if code < 43264 then some (s.thermal.coolSince.getD s.tick) else none)) ∧
  (∀ (op : Fin 3) (offset : BitVec 24) (data : List Byte) (x : Shutdown) (s : State), s.noneDue →
   s.thermal.shut = some x → op = 1 → data.length ≤ 256 → ∃ t : State,
   exec (.shutdownFlashDrain op offset data) s = .next t ∧
   t.thermal.shut = some { x with op := 1, offset := offset.toNat } ∧
   t.flashBytes offset.toNat data.length = data ∧ t.mem = s.mem) ∧
  (∀ (op : Fin 3) (offset : BitVec 24) (data : List Byte) (x : Shutdown) (s : State), s.noneDue →
   s.thermal.shut = some x → op = 2 → ∃ t : State, exec (.shutdownFlashDrain op offset data) s = .next t ∧
   t.thermal.shut = some { x with op := 2, offset := offset.toNat } ∧
   ∀ i : Fin 0x1000, t.flashByte (offset.toNat - offset.toNat % 0x1000 + i.val) = 0xFF) ∧
  (∀ (lostBanks : List (BitVec 9)) (x : Shutdown) (s : State), s.noneDue → s.thermal.shut = some x →
   x.reset = false → x.safe = false → ∃ u : State, exec (.thermalRestart lostBanks) s = .next u.react ∧
   u.thermal.shut = none ∧ u.thermal.recovery = true ∧ u.thermal.report = some x ∧
   u.fld thermBase THERM_LAST_DURATION = satNat 16 ((s.tick - x.start) / ticksPerSecond) ∧
   u.boot.step = (if lostBanks.any (fun b => decide (b.toNat < 4)) then 2 else 7)) ∧
  (∀ (lostBanks : List (BitVec 9)) (x : Shutdown) (s : State), s.noneDue → s.thermal.shut = some x →
   x.reset = true → ∃ u : State, exec (.thermalRestart lostBanks) s = .next u.react ∧ u.thermal.shut = none ∧
   u.thermal.recovery = true ∧ u.boot.step = (if s.boot.resetHigh then 2 else s.boot.step)) ∧
  (∀ (site : Fin 9) (a b : BitVec 16) (s : State), s.noneDue →
   s.flag thermBase (THERM_SITE_MISMATCH.ix site.val) = false → 512 < ((a.toNat : Int) - b.toNat).natAbs →
   s.takes (0x6010 + site.val) 0 → ∃ u : State, exec (.sensorMismatch site a b) s = .next u.react ∧
   u.flag thermBase (THERM_SITE_MISMATCH.ix site.val) = true ∧
   u.fld thermBase THERM_COUNTS_MISMATCHES = satNat THERM_COUNTS_MISMATCHES.width (s.fld thermBase
     THERM_COUNTS_MISMATCHES + 1) ∧
   u.isActive (0x6010 + site.val)) ∧
  (∀ (site : Fin 9) (a b : BitVec 16) (s : State), s.noneDue →
   s.flag thermBase (THERM_SITE_MISMATCH.ix site.val) = true → ((a.toNat : Int) - b.toNat).natAbs ≤ 256 →
   ∃ u : State, exec (.sensorMismatchClear site a b) s = .next u.react ∧
   u.flag thermBase (THERM_SITE_MISMATCH.ix site.val) = false ∧ (0x6010 + site.val) ∉ u.fuse.rails) ∧
  (∀ (site : Fin 9) (a b : BitVec 16) (s : State), ((a.toNat : Int) - b.toNat).natAbs ≤ 512 →
   exec (.sensorMismatch site a b) s = .next s) ∧
  (∀ s : State, s.noneDue → s.domOn 1 = true → s.clock.running = true →
   s.taskRuns 14 taskReferences = true → ∃ t : State, exec .calInterpolate s = .next t ∧
   t = { s with thermal := { s.thermal with calNext := some (Vector.ofFn (fun k : Fin 9 =>
     s.fld thermBase (THERM_SITE_TEMP.ix k.val))) } })

/-- Snapshots and clears of the counters, the bandwidth windows, the dump buffers, and the records and standing images
of the Attic. -/
def Obligations.CountersAndAttic : Prop :=
  (∀ (alsoClr : Bool) (s : State), s.noneDue → ∃ t : State, exec (.cntSnap alsoClr) s = .next t ∧
   (∀ k : Fin 128, t.fld counterBase (CNT_SNAP_LO_COUNT.ix k.val) = (s.counter k.val).count % 2 ^ 32) ∧
   (∀ k : Fin 128, (t.counter k.val).count = (if alsoClr then 0 else (s.counter k.val).count)) ∧
   t.fld counterBase CNT_STATUS_SNAP_SEQ = (s.fld counterBase CNT_STATUS_SNAP_SEQ + 1) % 2 ^
     CNT_STATUS_SNAP_SEQ.width) ∧
  (∀ s : State, s.noneDue → ∃ t : State, exec .cntClr s = .next t ∧
   (∀ k : Fin 128, (t.counter k.val).count = 0) ∧
   (∀ k : Fin 128, (t.counter k.val).event = (s.counter k.val).event) ∧ t.counters.cleared = true ∧
   t.regs = s.regs) ∧
  (∀ s : State, s.noneDue → s.coreCounts = true → s.bwDue ≤ s.tick → ∃ t : State,
   exec .bwWindowEnd s = .next t ∧
   (t.pairFld counterBase (BW_TIME_TIME.ix 0) (BW_TIME_TIME.ix 1) : Int) =
     ((s.clock.deviceTime : Int) + s.bwDue - s.tick) % 2 ^ 64 ∧
   (∀ k : Fin 82, t.fld counterBase (BW_RATE.ix k.val) = bwRate (Sparse.get (fun _ => 0) s.counters.bw k.val)
     (windowEnd s.bwWindow s.counters.bwWindow - windowEnd s.bwWindow (s.counters.bwWindow - 1)) % 2 ^ 32) ∧
   t.flag counterBase CNT_STATUS_BW_VALID = true ∧
   t.fld counterBase CNT_STATUS_BW_SEQ = (s.fld counterBase CNT_STATUS_BW_SEQ + 1) % 2 ^ CNT_STATUS_BW_SEQ.width
     ∧
   t.counters = { s.counters with bwWindow := s.counters.bwWindow + 1, bw := [] }) ∧
  (∀ s : State, (s.coreCounts = false ∨ s.tick < s.bwDue) → exec .bwWindowEnd s = .next s) ∧
  (∀ (window : BitVec 20) (s : State), s.noneDue → ∃ t : State, exec (.bwWindowWrite window) s = .next t ∧
   t.fld counterBase BW_CTRL_WINDOW = window.toNat ∧ t.flag counterBase CNT_STATUS_BW_VALID = false ∧
   t.counters = { s.counters with bwWindow := 1, bwStart := s.tick, bw := [] }) ∧
  (∀ s : State, s.noneDue → s.fld counterBase CNT_CTRL_DUMP_PERIOD ≠ 0 → s.counters.dumpNext ≤ s.tick →
   s.counters.dump = none → s.coreCounts = true → ∃ t : State, exec .counterDumpLatch s = .next t ∧
   t.counters = { s.counters with
     dump := some s.dumpRecord, cleared := false, skipped := 0, dumpNext := s.dumpTimed.counters.dumpNext } ∧
     s.tick < t.counters.dumpNext ∧ t.regs = s.regs) ∧
  (∀ s : State, (s.fld counterBase CNT_CTRL_DUMP_PERIOD = 0 ∨ s.tick < s.counters.dumpNext) →
   exec .counterDumpLatch s = .next s) ∧
  (∀ s : State, s.noneDue → s.fld counterBase CNT_CTRL_DUMP_PERIOD ≠ 0 → s.counters.dumpNext ≤ s.tick →
   s.counters.dump ≠ none → ∃ u : State,
   exec .counterDumpLatch s = .next u.react ∧
   u.fld counterBase CNT_STATUS_SKIPPED = satNat CNT_STATUS_SKIPPED.width (s.fld counterBase CNT_STATUS_SKIPPED
     + 1) ∧
   u.counters.skipped = satNat 16 (s.counters.skipped + 1) ∧ u.counters.dump = s.counters.dump) ∧
  (∀ (bytes : List Byte) (s : State), s.noneDue → s.counters.dump = some bytes → s.counters.dumpSeq < 2 ^ 32 →
   s.retLost ((dumpAddr s.counters.dumpSeq) / 0x40000) = false → ∃ t : State, exec .dumpWriteDone s = .next t ∧
   t.bytes (dumpAddr s.counters.dumpSeq) bytes.length = bytes ∧
   t.counters.dump = none ∧ t.counters.dumpSeq = (s.counters.dumpSeq + 1) % 2 ^ 32 ∧
   t.fld counterBase DUMP_SEQ_SEQ = s.counters.dumpSeq ∧
   t.fld counterBase DUMP_NEXT_ADDR = dumpAddr (s.counters.dumpSeq + 1)) ∧
  (∀ (eraseOk verify1 verify2 : Bool) (r : AtticRecord) (rest : List AtticRecord) (s : State), s.noneDue →
   s.attic.queue = r :: rest → s.atticOpen = true → s.flashFirst = false → (s.attic.slot = 0 → eraseOk = true) →
   verify1 = true →
   verify2 = true → ∃ t : State, exec (.atticRecordWrite eraseOk verify1 verify2) s = .next t ∧
   t.flashBytes (atticBase + 0x1000 * s.attic.sector + 128 * s.attic.slot) 64 = r.bytes s.attic.seq ∧
   t.flashBytes (atticBase + 0x1000 * s.attic.sector + 128 * s.attic.slot + 64) 64 = r.bytes s.attic.seq ∧
   t.attic.queue = rest ∧ t.attic.seq = (s.attic.seq + 1) % 2 ^ 32 ∧ t.attic.lastSector = s.attic.sector) ∧
  (∀ (eraseOk verify1 verify2 : Bool) (r : AtticRecord) (rest : List AtticRecord) (s : State), s.noneDue →
   s.attic.queue = r :: rest → s.atticOpen = true → s.flashFirst = false → s.attic.slot = 0 → eraseOk = false →
   s.takes 0x0011 s.attic.sector → s.attic.sector < 0x10000 → ∃ u : State,
   exec (.atticRecordWrite eraseOk verify1 verify2) s = .next u.react ∧
   u.attic.sector = nextSector s.attic.sector ∧ u.attic.slot = 0 ∧ u.flash = s.flash ∧ u.isActive 0x0011) ∧
  (∀ s : State, s.noneDue → s.attic.available = true → s.coreCounts = true → s.keysHeld = true → ∃ u : State,
   exec .atticPeriodic s = .next u.react ∧ u.attic.poh = (s.attic.poh + 10) % 2 ^ 32 ∧ u.attic.rounds = 0 ∧
   u.attic.tempMax = 0 ∧ u.attic.tempSum = 0 ∧ ∀ n : Fin 8, u.attic.pdSums[n] = 0) ∧
  (∀ (ok : Bool) (s : State), s.noneDue → ok = true → s.attic.standDue = true → s.attic.queue = [] →
   s.atticOpen = true → ∃ t : State, exec (.atticStandingWrite ok) s = .next t ∧
   t.attic.standSector = (s.attic.standSector + 1) % 16 ∧ t.attic.standSeq = (s.attic.standSeq + 1) % 2 ^ 32 ∧
   t.attic.standPoh = s.attic.poh ∧ t.attic.standDue = false ∧
   t.flashBytes (atticBase + 0x1000 * ((s.attic.standSector + 1) % 16)) 512 = s.standingBytes) ∧
  (∀ (ok : Bool) (s : State), s.noneDue → (s.attic.standDue = false ∨ s.attic.queue ≠ [] ∨ s.atticOpen = false) →
   ∃ t : State, exec (.atticStandingWrite ok) s = .next t ∧ t = s)

/-- AFE_LEVEL_UPDATE publishes the level; VGA_WINDOW steps the VGA down at more than 10^-4 of over-range samples or an
rms a step too high, and up at an rms a step too low; a write of AFE_CTRL sets its fields, and a changed CTLE setting
makes a locked lane acquire. ADC_BLOCK_END updates the terms of the slices but under BG_FREEZE, and publishes
STATIC_ENOB at every block and SPUR at most every 1 ms; OVR_WINDOW counts and raises; ADC_CONVERGED sets its bit. A
rotation step trains a READY spare and powers up a PARKED one, and does nothing with ROT_PERIOD 0. SPARE_CAL_DONE ends
step 3 of a start, retires a spare below 5.5 bits, and puts a good one at rest. A handover puts the trained spare into
the position, frees its slice and counts; an abort counts and raises. -/
def Obligations.LineFrontEndAndConverter : Prop :=
  (∀ (n : Fin 8) (level : Nat) (s : State), s.noneDue → s.domOn (domLineRx n) = true → ∃ t : State,
   exec (.afeLevelUpdate n level) s = .next t ∧ t.fld (lineBase n) AFE_STATUS_INPUT_LEVEL = satNat 16 level ∧
   t.line = s.line ∧ RegsBut [lineBase n + AFE_STATUS_INPUT_LEVEL.off] s t) ∧
  (∀ (n : Fin 8) (high total : Nat) (meanSquare : Rat) (s : State), s.noneDue → s.domOn (domLineRx n) = true →
   s.lineTask n taskVga = true → s.flag (lineBase n) AFE_CTRL_VGA_MAN = false →
   s.fld (lineBase n) AFE_STATUS_VGA_CUR ≤ 36 → (total < 10000 * high ∨ 1296 ^ 20 * 10 ≤ meanSquare ^ 20) →
   ∃ t : State, exec (.vgaWindow n high total meanSquare) s = .next t ∧
   t.fld (lineBase n) AFE_STATUS_VGA_CUR = s.fld (lineBase n) AFE_STATUS_VGA_CUR - 1) ∧
  (∀ (n : Fin 8) (high total : Nat) (meanSquare : Rat) (s : State), s.noneDue → s.domOn (domLineRx n) = true →
   s.lineTask n taskVga = true → s.flag (lineBase n) AFE_CTRL_VGA_MAN = false →
   s.fld (lineBase n) AFE_STATUS_VGA_CUR ≤ 36 → 10000 * high ≤ total → meanSquare ^ 20 * 10 ≤ 1296 ^ 20 →
   ∃ t : State, exec (.vgaWindow n high total meanSquare) s = .next t ∧
   t.fld (lineBase n) AFE_STATUS_VGA_CUR = min 36 (s.fld (lineBase n) AFE_STATUS_VGA_CUR + 1)) ∧
  (∀ (n : Fin 8) (value : Word) (s : State), s.noneDue → s.locked n = false → ∃ t : State,
   exec (.afeCtrlWrite n value) s = .next t ∧ t.fld (lineBase n) AFE_CTRL_CTLE_SET = wordField value 0 4 ∧
   t.fld (lineBase n) AFE_CTRL_CTLE_MAN = wordField value 14 1 ∧
   t.fld (lineBase n) AFE_CTRL_VGA_MAN = wordField value 15 1 ∧
   t.fld (lineBase n) AFE_CTRL_VGA_SET = (if wordField value 8 6 ≤ 36 then wordField value 8 6 else s.fld
     (lineBase n) AFE_CTRL_VGA_SET)) ∧
  (∀ (n : Fin 8) (value : Word) (s : State), s.noneDue → s.locked n = true →
   s.fld (lineBase n) AFE_CTRL_CTLE_SET ≠ wordField value 0 4 → s.synLocked (lineSyn n) = true →
   s.deepHolds (domLineRx n) = false → ∃ u : State, exec (.afeCtrlWrite n value) s = .next u.react ∧
   u.fld (lineBase n) AFE_CTRL_CTLE_SET = wordField value 0 4 ∧ u.acqState n = 1 ∧ u.locked n = false) ∧
  (∀ (n : Fin 8) (stats : BlockStats) (s : State), s.noneDue → 4 ≤ s.line[n].adc.step → s.adcRuns n = true →
   s.roomRuns n.val = true → ∃ t : State, exec (.adcBlockEnd n stats) s = .next t ∧
   t.line[n].adc.terms = (if s.flag (lineBase n) ADC_CTRL_BG_FREEZE then s.line[n].adc.terms else s.blockTerms n
     stats) ∧
   (s.line[n].adc.spurTick = none → t.fld (lineBase n) ADC_QUAL_SPUR = satNat 16 stats.spur) ∧
   (∀ k : Nat, s.line[n].adc.spurTick = some k → s.tick < k + 781250 →
    t.fld (lineBase n) ADC_QUAL_SPUR = s.fld (lineBase n) ADC_QUAL_SPUR) ∧
   t.fld (lineBase n) ADC_QUAL_STATIC_ENOB = s.activeEnob n) ∧
  (∀ (n : Fin 8) (high total : Nat) (s : State), s.noneDue → s.adcRuns n = true →
   (10000 * high ≤ total ∨ s.limitFree (lineSrc n 0x35) = true) → ∃ u : State,
   exec (.ovrWindow n high total) s = .next u.react ∧
   u.fld (lineBase n) ADC_OVR_OVR_COUNT = satNat ADC_OVR_OVR_COUNT.width (s.fld (lineBase n) ADC_OVR_OVR_COUNT +
     high) ∧
   u.flag (lineBase n) ADC_OVR_STAT_OVR_NOW = decide (total < 10000 * high) ∧
   (total < 10000 * high → u.flag (lineBase n) ADC_OVR_STAT_OVR_STICKY = true) ∧
   (total < 10000 * high → s.takes (lineSrc n 0x35) 0 → u.isActive (lineSrc n 0x35))) ∧
  (∀ (n : Fin 8) (s : State), s.noneDue → s.line[n].adc.step = 4 → s.adcRuns n = true →
   s.line[n].adc.urgent = none → ∃ t : State,
   exec (.adcConverged n) s = .next t ∧ t.flag (lineBase n) ADC_STATUS_CONVERGED = true ∧
   RegsBut [lineBase n + ADC_STATUS_CONVERGED.off] s t) ∧
  (∀ (n : Fin 8) (p k j : Nat) (s : State), s.noneDue → s.canRotate n = true →
   s.fld (lineBase n) ADC_CTRL_ROT_PERIOD ≠ 0 → s.spareState n = 3 → s.rotationTarget n = some p →
   s.sliceAt n p = some k → s.spare n = some j → ∃ t : State, exec (.rotationStep n) s = .next t ∧
   t.line[n].adc.training = some p ∧ t.spareState n = 2) ∧
  (∀ (n : Fin 8) (p j : Nat) (s : State), s.noneDue → s.canRotate n = true →
   s.fld (lineBase n) ADC_CTRL_ROT_PERIOD ≠ 0 → s.spareState n = 4 → s.rotationTarget n = some p →
   s.spare n = some j → ∃ t : State, exec (.rotationStep n) s = .next t ∧ t.line[n].adc.training = some p ∧
   t.spareState n = 1) ∧
  (∀ (n : Fin 8) (s : State), s.noneDue → (s.canRotate n = false ∨ s.fld (lineBase n) ADC_CTRL_ROT_PERIOD = 0) →
   ∃ t : State, exec (.rotationStep n) s = .next t ∧ t = s) ∧
  (∀ (n : Fin 8) (ramps : List (Fin 17 × RampResult)) (s : State), s.noneDue → s.line[n].adc.step = 3 →
   s.adcRuns n = true → ∃ u : State, exec (.spareCalDone n ramps) s = .next u.react ∧ u.line[n].adc.step = 4) ∧
  (∀ (n : Fin 8) (ramps : List (Fin 17 × RampResult)) (k : Fin 17) (r : RampResult) (s : State), s.noneDue →
   s.spare n = some k.val → s.line[n].adc.step ≠ 3 → s.adcRuns n = true → s.spareState n = 1 →
   ramps.find? (fun e => some e.1.val == s.spare n) = some (k, r) →
   (s.line[n].adc.training = none ∨ s.rotationPaused n = false) → r.enob < 176 → s.takes (lineSrc n 0x32) 0 →
   ∃ u : State, exec (.spareCalDone n ramps) s = .next u.react ∧ u.spare n = none ∧ u.slicePos n k.val = 31 ∧
   u.isActive (lineSrc n 0x32)) ∧
  (∀ (n : Fin 8) (ramps : List (Fin 17 × RampResult)) (k : Fin 17) (r : RampResult) (s : State), s.noneDue →
   s.spare n = some k.val → s.line[n].adc.step ≠ 3 → s.adcRuns n = true → s.spareState n = 1 →
   ramps.find? (fun e => some e.1.val == s.spare n) = some (k, r) → 176 ≤ r.enob →
   s.line[n].adc.training = none → s.line[n].adc.urgent = none → s.line[n].adc.planned = none → ∃ t : State,
   exec (.spareCalDone n ramps) s = .next t ∧ t.spareState n = s.restState n ∧
   t.line[n].adc.lin = s.line[n].adc.lin.set k r.table ∧
   t.line[n].adc.lastRamp = s.line[n].adc.lastRamp.set k (some s.tick) ∧
   t.line[n].adc.enob = s.line[n].adc.enob.set k r.enob) ∧
  (∀ (n : Fin 8) (blocks : List (List TrainSample)) (spur : Nat) (abrupt : Option (Fin 16)) (p k : Nat)
   (j : Fin 17) (run : SliceTerms × List (List Rat)) (s : State), s.noneDue → s.line[n].adc.training = some p →
   s.spare n = some j.val → s.sliceAt n p = some k → k ≠ j.val → k < 17 → p < 16 → s.adcRuns n = true →
   s.lineTask n taskRotation = true → s.rotationPaused n = false → s.spareState n = 2 →
   run = trainRun s.trimSteps s.line[n].adc.lin[j] s.line[n].adc.terms[j] blocks → trainedWell run.2 = true →
   s.spurLimit n ≤ spur → abrupt = none → s.line[n].adc.planned = none → ∃ t : State,
   exec (.rotationHandover n blocks spur abrupt) s = .next t ∧ t.slicePos n j.val = p ∧
   t.slicePos n k = 16 ∧ t.spare n = some k ∧ t.spareState n = 1 ∧ t.line[n].adc.training = none ∧
   t.line[n].adc.terms = s.line[n].adc.terms.set j run.1 ∧
   t.fld (lineBase n) ADC_STATUS_ROT_COUNT = (s.fld (lineBase n) ADC_STATUS_ROT_COUNT + 1) % 2 ^
     ADC_STATUS_ROT_COUNT.width) ∧
  (∀ (n : Fin 8) (p j : Nat) (s : State), s.noneDue → s.line[n].adc.training = some p → s.spare n = some j →
   s.adcRuns n = true → s.lineTask n taskRotation = true → s.rotationPaused n = false → s.spareState n = 2 →
   s.takes (lineSrc n 0x34) 0 → ∃ u : State, exec (.rotationAbort n) s = .next u.react ∧
   u.line[n].adc.training = none ∧ u.spareState n = 1 ∧
   u.fld (lineBase n) ADC_QUAL_ROT_ABORT = satNat ADC_QUAL_ROT_ABORT.width (s.fld (lineBase n)
     ADC_QUAL_ROT_ABORT + 1) ∧
   u.isActive (lineSrc n 0x34))

/-- A flag of CHK counts, and with four in 64 conversions makes the slice fail; an abrupt fault of an active slice
bridges its position, asks for the spare and raises; a degrading spare is retired, and a degrading active slice is
planned to be replaced; the spare of an urgent substitution trains and then takes the position for good; a planned
substitution is tried again; and SUBST_REQ plans one, or does nothing but hold its field where the detector acts. -/
def Obligations.SlicesAndSubstitution : Prop :=
  (∀ (n : Fin 8) (slice : Fin 17) (conv : Nat) (flags : List (Nat × Nat)) (s : State), s.noneDue →
   s.adcRuns n = true → s.slicePos n slice.val ≠ 31 →
   flags = ((s.tick, conv) :: s.line[n].adc.flags[slice]).take 17 → flagsAbrupt flags conv = false →
   flagsOften flags s.tick = false → ∃ t : State, exec (.sliceCheckFlag n slice conv) s = .next t ∧
   t = s.modAdc n (fun a => { a with
     flags := a.flags.set slice flags, checkErr := a.checkErr.set slice (satNat 8 (a.checkErr[slice] + 1)) })) ∧
  (∀ (n : Fin 8) (slice : Fin 17) (conv : Nat) (flags : List (Nat × Nat)) (s : State), s.noneDue →
   s.adcRuns n = true → s.spare n ≠ some slice.val → s.slicePos n slice.val < 16 →
   s.sliceFld n SLICE_A_STATE slice.val = 0 → flags = ((s.tick, conv) :: s.line[n].adc.flags[slice]).take 17 →
   flagsAbrupt flags conv = true → s.takes (lineSrc n 0x30) 0 → ∃ u : State,
   exec (.sliceCheckFlag n slice conv) s = .next u.react ∧ u.sliceFld n SLICE_A_STATE slice.val = 6 ∧
   (s.slicePos n slice.val, slice.val) ∈ u.line[n].adc.bridged ∧ u.isActive (lineSrc n 0x30)) ∧
  (∀ (n : Fin 8) (k : Fin 17) (sign : AbruptSign) (s : State), s.noneDue → abruptTrips sign = true →
   s.adcRuns n = true → s.spare n ≠ some k.val → s.slicePos n k.val < 16 →
   s.sliceFld n SLICE_A_STATE k.val = 0 → (s.spare n).isSome = true → s.line[n].adc.urgent = none →
   s.takes (lineSrc n 0x30) 0 → ∃ u : State, exec (.sliceAbruptFault n [(k, sign)]) s = .next u.react ∧
   u.sliceFld n SLICE_A_STATE k.val = 6 ∧ (s.slicePos n k.val, k.val) ∈ u.line[n].adc.bridged ∧
   u.line[n].adc.urgent = some (s.slicePos n k.val) ∧ u.isActive (lineSrc n 0x30)) ∧
  (∀ (n : Fin 8) (slice : Fin 17) (s : State), s.noneDue → s.adcRuns n = true → s.spare n = some slice.val →
   beyondLimits s.trimSteps s.line[n].adc.terms[slice] = true →
   s.takes (lineSrc n 0x32) 0 → ∃ u : State, exec (.sliceDegrading n slice) s = .next u.react ∧
   u.spare n = none ∧ u.slicePos n slice.val = 31 ∧ u.isActive (lineSrc n 0x32)) ∧
  (∀ (n : Fin 8) (slice : Fin 17) (s : State), s.noneDue → s.adcRuns n = true → s.spare n ≠ some slice.val →
   beyondLimits s.trimSteps s.line[n].adc.terms[slice] = true →
   s.slicePos n slice.val < 16 → s.sliceFld n SLICE_A_STATE slice.val = 0 → (s.spare n).isSome = true →
   s.line[n].adc.urgent = none → ∃ t : State, exec (.sliceDegrading n slice) s = .next t ∧
   t.line[n].adc.planned = some ⟨slice.val, true, false⟩ ∧ t.slicePos n slice.val = s.slicePos n slice.val) ∧
  (∀ (n : Fin 8) (s : State), s.noneDue → s.adcRuns n = true → s.line[n].adc.urgent.isSome = true →
   (s.spare n).isSome = true → s.line[n].adc.urgentTraining = false →
   s.line[n].adc.urgentCal = false → ∃ t : State,
   exec (.substSpareArrived n) s = .next t ∧ t.line[n].adc.urgentTraining = true ∧ t.spareState n = 2) ∧
  (∀ (n : Fin 8) (blocks : List BlockStats) (p j : Nat) (s : State), s.noneDue → s.line[n].adc.urgent = some p →
   s.spare n = some j → s.adcRuns n = true → s.lineTask n taskRotation = true → blocks.length = 64 →
   s.line[n].adc.urgentTraining = true → s.failingAt n p ≠ j →
   s.failingAt n p < 17 → p < 16 → s.takes (lineSrc n 0x31) 0 → ∃ u : State,
   exec (.urgentSubstHandover n blocks) s = .next u.react ∧ u.slicePos n j = p ∧
   u.slicePos n (s.failingAt n p) = 31 ∧ u.spare n = none ∧ u.line[n].adc.urgent = none ∧
   u.isActive (lineSrc n 0x31)) ∧
  (∀ (n : Fin 8) (s : State), s.noneDue → s.line[n].adc.planned = none → ∃ t : State,
   exec (.substRetry n) s = .next t ∧ t = s) ∧
  (∀ (n : Fin 8) (q : PlannedSubst) (k j : Nat) (s : State), s.noneDue → s.line[n].adc.planned = some q →
   4 ≤ s.line[n].adc.step → s.adcRuns n = true → s.lineTask n taskRotation = true → s.line[n].adc.training = none →
   s.line[n].adc.urgent = none → s.spareState n = 3 → s.slicePos n q.slice < 16 →
   s.sliceAt n (s.slicePos n q.slice) = some k → s.spare n = some j → ∃ t : State,
   exec (.substRetry n) s = .next t ∧ t.line[n].adc.training = some (s.slicePos n q.slice) ∧ t.spareState n = 2) ∧
  (∀ (n : Fin 8) (slice : BitVec 5) (detector : Bool) (s : State), s.noneDue → detector = true → ∃ t : State,
   exec (.substReq n slice detector) s = .next t ∧ t.fld (lineBase n) ADC_CTRL_SUBST_SLICE = slice.toNat ∧
   RegsBut [lineBase n + ADC_CTRL_SUBST_SLICE.off] s t ∧ t.line = s.line) ∧
  (∀ (n : Fin 8) (slice : BitVec 5) (detector : Bool) (s : State), s.noneDue → detector = false →
   slice.toNat < 17 → s.slicePos n slice.toNat < 16 → s.sliceFld n SLICE_A_STATE slice.toNat = 0 →
   s.line[n].adc.training = none → s.line[n].adc.urgent = none →
   s.line[n].adc.planned = none → s.spareState n = 3 → ∃ t : State,
   exec (.substReq n slice detector) s = .next t ∧ t.line[n].adc.planned = some ⟨slice.toNat, false, false⟩ ∧
   t.fld (lineBase n) ADC_CTRL_SUBST_SLICE = slice.toNat)

/-- A window of the FFE moves each tap whose task runs, unless FFE_FREEZE or a stopped clock holds them; the timing
loop turns the phase and moves the frequency word within 200 ppm; and the MLSE levels and σ² move as their tasks run.
A swap request of the canceller starts a fade on a locked lane, waits on another, flips the banks at once where the
canceller is not in use, and is counted as busy during a fade; one in the cycle of a loss of lock is pending; one of
room 14 shows its answer. A fade ends with the other bank in force and restarts after lock; a bank takes a write only
when it is not in force and no fade runs; and NLC_EN off completes a fade. -/
def Obligations.LineEqualiserAndCanceller : Prop :=
  (∀ (n : Fin 8) (symbols : List RxSymbol) (i k : Nat) (s : State), s.noneDue → 4 ≤ s.acqState n →
   s.line[n].rx.clocksStopped = false → s.flag (lineBase n) EQ_CTRL_FFE_FREEZE = false →
   i < (tapRange (s.laneProfile n)).2 → k = (tapRange (s.laneProfile n)).1 + i → ∃ t : State,
   exec (.ffeWindow n symbols) s = .next t ∧ t.line = s.line ∧
   t.fld (lineBase n) (FFE_TAP_COEF.ix k) = (if s.lineTask n (taskFfe k) then intBits 12 ((s.ffeUpdate n
     symbols).getD i 0) else s.fld (lineBase n) (FFE_TAP_COEF.ix k))) ∧
  (∀ (n : Fin 8) (symbols : List RxSymbol) (s : State), (s.acqState n < 4 ∨ s.line[n].rx.clocksStopped = true ∨
   s.flag (lineBase n) EQ_CTRL_FFE_FREEZE = true) → exec (.ffeWindow n symbols) s = .next s) ∧
  (∀ (n : Fin 8) (o : TimingObs) (turn : Int) (word : Int) (s : State), s.noneDue → 2 ≤ s.acqState n →
   s.line[n].rx.clocksStopped = false → s.lineTask n taskTiming = true →
   turn = quantise (Config.loopGain (s.loopBandwidth n o.settled) false * s.phaseError n o) →
   word = s.line[n].rx.freqWord + quantise (Config.loopGain (s.loopBandwidth n o.settled) true * s.phaseError n o) →
   ∃ t : State, exec (.timingUpdate n o) s = .next t ∧ t.line[n].rx.rotPhase = s.rotPhase n + turn ∧
   t.line[n].rx.phaseTick = s.tick ∧ t.line[n].rx.freqWord = max (-50000) (min 50000 word) ∧
   t.fld (lineBase n) TR_STATUS_FREQ_OFFSET = intBits 16 (quantise ((max (-50000) (min 50000 word) : Int) * 2 / 5)) ∧
   RegsBut [lineBase n + TR_STATUS_FREQ_OFFSET.off] s t) ∧
  (∀ (n : Fin 8) (symbols : List RxSymbol) (s : State), s.noneDue → 5 ≤ s.acqState n →
   s.line[n].rx.clocksStopped = false → s.flag (lineBase n) EQ_CTRL_LEVEL_FREEZE = false → ∃ t : State,
   exec (.mlseLevelUpdate n symbols) s = .next t ∧
   (∀ j : Fin 64, t.mlseLevel n j.val = (if s.lineTask n (taskLevel j.val) then (s.levelAfter n (s.counted n
     symbols) j.val).getD (s.mlseLevel n j.val) else s.mlseLevel n j.val)) ∧
   (s.counted n symbols ≠ [] → s.lineTask n (taskLevel 0) = true → t.line[n].rx.sigma2 = s.line[n].rx.sigma2 +
     Config.sigmaGain * (s.errorVariance n (s.counted n symbols) - s.line[n].rx.sigma2))) ∧
  (∀ (n : Fin 8) (lockLost : Bool) (s : State), s.noneDue → lockLost = false → s.fadeBusy n nlcRegs = false →
   s.changeWaits n = false → s.nlcInUse n = true → ∃ t : State, exec (.nlcSwap n lockLost) s = .next t ∧
   t.flag (lineBase n) NLC_STATUS_FADING = (s.locked n || s.flag (lineBase n) NLC_STATUS_FADING) ∧
   t.flag (lineBase n) NLC_STATUS_FADE_PENDING = (!s.locked n || s.flag (lineBase n) NLC_STATUS_FADE_PENDING) ∧
   t.fld (lineBase n) NLC_STATUS_ACTIVE_BANK = s.fld (lineBase n) NLC_STATUS_ACTIVE_BANK) ∧
  (∀ (n : Fin 8) (lockLost : Bool) (s : State), s.noneDue → lockLost = false →
   (s.fadeBusy n nlcRegs = true ∨ s.changeWaits n = true) → ∃ t : State, exec (.nlcSwap n lockLost) s = .next t ∧
   t.fld (lineBase n) NLC_STATUS_BUSY_COUNT = satNat NLC_STATUS_BUSY_COUNT.width (s.fld (lineBase n)
     NLC_STATUS_BUSY_COUNT + 1) ∧
   RegsBut [lineBase n + NLC_STATUS_BUSY_COUNT.off] s t) ∧
  (∀ (n : Fin 8) (lockLost : Bool) (s : State), s.noneDue → lockLost = true → s.fadeBusy n nlcRegs = false →
   s.changeWaits n = false → s.nlcInUse n = true → s.locked n = true → s.takes (lineSrc n 0x43) 0 → ∃ u : State,
   exec (.nlcSwap n lockLost) s = .next u.react ∧ u.flag (lineBase n) NLC_STATUS_FADING = false ∧
   u.flag (lineBase n) NLC_STATUS_FADE_PENDING = true ∧ u.isActive (lineSrc n 0x43)) ∧
  (∀ (n : Fin 8) (lockLost : Bool) (s : State), s.noneDue → lockLost = false → s.fadeBusy n nlcRegs = false →
   s.changeWaits n = false → s.nlcInUse n = false → s.fld (lineBase n) NLC_STATUS_ACTIVE_BANK ≤ 1 → ∃ t : State,
   exec (.nlcSwap n lockLost) s = .next t ∧
   t.fld (lineBase n) NLC_STATUS_ACTIVE_BANK = 1 - s.fld (lineBase n) NLC_STATUS_ACTIVE_BANK ∧
   t.flag (lineBase n) NLC_STATUS_FADING = false) ∧
  (∀ (n : Fin 8) (s : State), s.noneDue → s.taskRuns 14 (taskInstall n) = true → s.fadeBusy n nlcRegs = false →
   s.changeWaits n = false → s.nlcInUse n = true → s.locked n = true → ∃ t : State,
   exec (.nlcEngineSwap n) s = .next t ∧ t.flag (lineBase n) NLC_STATUS_FADING = true ∧
   t.pantry.lanes[n].swapBusy = false ∧ RegsBut [lineBase n + NLC_STATUS_FADING.off] s t) ∧
  (∀ (n : Fin 8) (s : State), s.noneDue → s.taskRuns 14 (taskInstall n) = true → s.fadeBusy n nlcRegs = true →
   ∃ t : State, exec (.nlcEngineSwap n) s = .next t ∧ t.pantry.lanes[n].swapBusy = true ∧
   t.fld (lineBase n) NLC_STATUS_BUSY_COUNT = satNat NLC_STATUS_BUSY_COUNT.width (s.fld (lineBase n)
     NLC_STATUS_BUSY_COUNT + 1) ∧ RegsBut [lineBase n + NLC_STATUS_BUSY_COUNT.off] s t) ∧
  (∀ (n : Fin 8) (s : State), s.noneDue → s.flag (lineBase n) NLC_STATUS_FADING = true →
   s.fld (lineBase n) NLC_STATUS_ACTIVE_BANK ≤ 1 → ∃ t : State, exec (.nlcFadeComplete n) s = .next t ∧
   t.fld (lineBase n) NLC_STATUS_ACTIVE_BANK = 1 - s.fld (lineBase n) NLC_STATUS_ACTIVE_BANK ∧
   t.flag (lineBase n) NLC_STATUS_FADING = false ∧ t.flag (lineBase n) NLC_STATUS_FADE_PENDING = false) ∧
  (∀ (n : Fin 8) (s : State), s.noneDue → s.locked n = true →
   s.flag (lineBase n) NLC_STATUS_FADE_PENDING = true → ∃ t : State, exec (.nlcFadeResume n) s = .next t ∧
   t.flag (lineBase n) NLC_STATUS_FADE_PENDING = false ∧ t.flag (lineBase n) NLC_STATUS_FADING = true ∧
   RegsBut [lineBase n + NLC_STATUS_FADING.off] s t) ∧
  (∀ (n : Fin 8) (bank : Fin 2) (idx : Fin 1024) (value : BitVec 10) (swap : Bool) (s : State), s.noneDue →
   bank.val ≠ s.fld (lineBase n) NLC_STATUS_ACTIVE_BANK → s.fadeBusy n nlcRegs = false → swap = false →
   ∃ t : State, exec (.nlcBankWrite n bank idx value swap) s = .next t ∧
   t.fld (lineBase n) ((if bank.val = 0 then NLC_B0_ENTRY else NLC_B1_ENTRY).ix idx.val) = value.toNat ∧
   RegsBut [lineBase n + ((if bank.val = 0 then NLC_B0_ENTRY else NLC_B1_ENTRY).ix idx.val).off] s t) ∧
  (∀ (n : Fin 8) (bank : Fin 2) (idx : Fin 1024) (value : BitVec 10) (swap : Bool) (s : State), s.noneDue →
   (bank.val = s.fld (lineBase n) NLC_STATUS_ACTIVE_BANK ∨ s.fadeBusy n nlcRegs = true ∨ swap = true) →
   ∃ t : State, exec (.nlcBankWrite n bank idx value swap) s = .next t ∧
   t.fld (lineBase n) NLC_STATUS_WR_REJECT = satNat NLC_STATUS_WR_REJECT.width (s.fld (lineBase n)
     NLC_STATUS_WR_REJECT + 1) ∧
   RegsBut [lineBase n + NLC_STATUS_WR_REJECT.off] s t) ∧
  (∀ (n : Fin 8) (en : Bool) (s : State), s.noneDue → (en = true ∨ s.fadeBusy n nlcRegs = false) → ∃ t : State,
   exec (.nlcEnWrite n en) s = .next t ∧ t.flag (lineBase n) EQ_CTRL_NLC_EN = en ∧
   RegsBut [lineBase n + EQ_CTRL_NLC_EN.off] s t) ∧
  (∀ (n : Fin 8) (en : Bool) (s : State), s.noneDue → en = false → s.fadeBusy n nlcRegs = true →
   s.fld (lineBase n) NLC_STATUS_ACTIVE_BANK ≤ 1 → ∃ t : State, exec (.nlcEnWrite n en) s = .next t ∧
   t.flag (lineBase n) EQ_CTRL_NLC_EN = false ∧
   t.fld (lineBase n) NLC_STATUS_ACTIVE_BANK = 1 - s.fld (lineBase n) NLC_STATUS_ACTIVE_BANK ∧
   t.flag (lineBase n) NLC_STATUS_FADING = false)

/-- REACQ starts a full acquisition but in IDLE. A change of receive precoding waits for the next line-frame boundary
on a lane in its frame, and then takes effect with a full acquisition; out of a frame it does so at once. Each step of
an acquisition, and the last of a fast re-lock, leads to the next: the ADC, the CTLE setting in force, the start
levels of the MLSE, the frame search, and lock with its count and time. A step beyond its bound goes back to step 2
with the ADC kept, and a lane with signal that has not locked raises ACQ_FAIL with the highest step reached. -/
def Obligations.LineAcquisition : Prop :=
  (∀ (n : Fin 8) (s : State), s.noneDue → s.acqState n ≠ 0 → s.synLocked (lineSyn n) = true →
   s.deepHolds (domLineRx n) = false → ∃ u : State, exec (.lineReacq n) s = .next u.react ∧ u.acqState n = 1 ∧
   u.locked n = false ∧ (u.line[n].adc.step = 3 ∨ u.line[n].adc.step = 4) ∧
   u.flag (lineBase n) LEDGER_RX_UNSETTLED = true) ∧
  (∀ (n : Fin 8) (s : State), s.noneDue → s.acqState n = 0 → ∃ t : State, exec (.lineReacq n) s = .next t ∧ t = s) ∧
  (∀ (n : Fin 8) (on : Bool) (s : State), s.noneDue → s.flag (lineBase n) FEC_STATUS_IN_FRAME = true →
   s.line[n].rx.precode ≠ on → ∃ t : State, exec (.lineRxPrecodeWrite n on) s = .next t ∧
   t.flag (lineBase n) EQ_CTRL_RX_PRECODE = on ∧ t.line[n].rx.precodeNext = some on ∧
   t.line[n].rx.precode = s.line[n].rx.precode ∧ RegsBut [lineBase n + EQ_CTRL_RX_PRECODE.off] s t) ∧
  (∀ (n : Fin 8) (on : Bool) (s : State), s.flag (lineBase n) FEC_STATUS_IN_FRAME = true →
   s.line[n].rx.precodeNext = some on → (s.tick - s.line[n].rx.frameTick) % s.frameTicks = 0 →
   s.acqState n ≠ 0 → s.synLocked (lineSyn n) = true → s.deepHolds (domLineRx n) = false →
   (s.rxFrameBoundary n).line[n].rx.precode = on ∧ (s.rxFrameBoundary n).acqState n = 1 ∧
   (s.rxFrameBoundary n).locked n = false) ∧
  (∀ (n : Fin 8) (on : Bool) (s : State), s.noneDue → s.flag (lineBase n) FEC_STATUS_IN_FRAME = false →
   s.line[n].rx.precode ≠ on → s.acqState n ≠ 0 → s.synLocked (lineSyn n) = true →
   s.deepHolds (domLineRx n) = false → ∃ u : State, exec (.lineRxPrecodeWrite n on) s = .next u.react ∧
   u.flag (lineBase n) EQ_CTRL_RX_PRECODE = on ∧ u.line[n].rx.precode = on ∧ u.acqState n = 1 ∧
   u.locked n = false) ∧
  (∀ (n : Fin 8) (on : Bool) (s : State), s.noneDue → s.flag (lineBase n) FEC_STATUS_IN_FRAME = false →
   s.line[n].rx.precode = on → ∃ t : State, exec (.lineRxPrecodeWrite n on) s = .next t ∧
   t.flag (lineBase n) EQ_CTRL_RX_PRECODE = on ∧ t.line[n].rx.precodeNext = none ∧
   RegsBut [lineBase n + EQ_CTRL_RX_PRECODE.off] s t) ∧
  (∀ (n : Fin 8) (r : AcqResult) (s : State), s.noneDue → s.flag (lineBase n) EQ_STATUS_LOS = false →
   s.line[n].rx.clocksStopped = false → s.acqState n = 1 → s.flag (lineBase n) ADC_STATUS_CONVERGED = true →
   ∃ t : State, exec (.lineAcqStepDone n r) s = .next t ∧ t.acqState n = 2) ∧
  (∀ (n : Fin 8) (r : AcqResult) (s : State), s.noneDue → s.flag (lineBase n) EQ_STATUS_LOS = false →
   s.line[n].rx.clocksStopped = false → s.acqState n = 1 → s.flag (lineBase n) ADC_STATUS_CONVERGED = false →
   ∃ t : State, exec (.lineAcqStepDone n r) s = .next t ∧ t = s) ∧
  (∀ (n : Fin 8) (r : AcqResult) (s : State), s.noneDue → s.flag (lineBase n) EQ_STATUS_LOS = false →
   s.line[n].rx.clocksStopped = false → s.acqState n = 2 → s.flag (lineBase n) AFE_CTRL_CTLE_MAN = true →
   ∃ t : State, exec (.lineAcqStepDone n r) s = .next t ∧ t.acqState n = 4 ∧
   t.fld (lineBase n) AFE_STATUS_CTLE_CUR = s.fld (lineBase n) AFE_CTRL_CTLE_SET) ∧
  (∀ (n : Fin 8) (r : AcqResult) (s : State), s.noneDue → s.flag (lineBase n) EQ_STATUS_LOS = false →
   s.line[n].rx.clocksStopped = false → s.acqState n = 2 → s.flag (lineBase n) AFE_CTRL_CTLE_MAN = false →
   ∃ t : State, exec (.lineAcqStepDone n r) s = .next t ∧ t.acqState n = 3) ∧
  (∀ (n : Fin 8) (r : AcqResult) (s : State), s.noneDue → s.flag (lineBase n) EQ_STATUS_LOS = false →
   s.line[n].rx.clocksStopped = false → s.acqState n = 3 → ∃ t : State, exec (.lineAcqStepDone n r) s = .next t ∧
   t.acqState n = 4 ∧ t.fld (lineBase n) AFE_STATUS_CTLE_CUR = (if s.flag (lineBase n)
     AFE_CTRL_CTLE_MAN then s.fld (lineBase n) AFE_CTRL_CTLE_SET else bestSetting r.residuals % 16)) ∧
  (∀ (n : Fin 8) (r : AcqResult) (s : State), s.noneDue → s.flag (lineBase n) EQ_STATUS_LOS = false →
   s.line[n].rx.clocksStopped = false → s.acqState n = 4 → ∃ t : State, exec (.lineAcqStepDone n r) s = .next t ∧
   t.acqState n = 5 ∧ ∀ j : Fin 64, t.mlseLevel n j.val = 64 * (2 * ((j.val / 16 : Nat) : Int) - 3)) ∧
  (∀ (n : Fin 8) (r : AcqResult) (s : State), s.noneDue → s.flag (lineBase n) EQ_STATUS_LOS = false →
   s.line[n].rx.clocksStopped = false → s.acqState n = 5 → s.lineLoop n ≠ 4 → ∃ t : State,
   exec (.lineAcqStepDone n r) s = .next t ∧ t.acqState n = 6 ∧
   t.fld (lineBase n) FEC_STATUS_FRAME_SEARCHES = satNat FEC_STATUS_FRAME_SEARCHES.width (s.fld (lineBase n)
     FEC_STATUS_FRAME_SEARCHES + 1)) ∧
  (∀ (n : Fin 8) (r : AcqResult) (s : State), s.noneDue → s.flag (lineBase n) EQ_STATUS_LOS = false →
   s.line[n].rx.clocksStopped = false → s.acqState n = 6 → s.searchDone n r.search = true → s.lineLoop n ≠ 4 →
   ∃ u : State, exec (.lineAcqStepDone n r) s = .next u.react ∧ u.acqState n = 7 ∧ u.locked n = true ∧
   u.fld (lineBase n) EQ_STATUS_ACQ_COUNT = satNat EQ_STATUS_ACQ_COUNT.width (s.fld (lineBase n)
     EQ_STATUS_ACQ_COUNT + 1) ∧
   u.fld (lineBase n) EQ_STATUS_LOCK_TIME = satNat 16 (tenMicros (s.tick - s.line[n].rx.trigger)) ∧
   (s.checking n = false → u.flag (lineBase n) FEC_STATUS_IN_FRAME = true)) ∧
  (∀ (n : Fin 8) (r : AcqResult) (s : State), s.noneDue → s.flag (lineBase n) EQ_STATUS_LOS = false →
   s.line[n].rx.clocksStopped = false → s.acqState n = 8 → s.line[n].rx.relockStep = 3 →
   s.searchDone n r.search = true →
   ∃ u : State, exec (.lineAcqStepDone n r) s = .next u.react ∧ u.acqState n = 7 ∧ u.locked n = true ∧
   u.line[n].rx.relockStep = 0) ∧
  (∀ (n : Fin 8) (s : State), s.noneDue → s.flag (lineBase n) EQ_STATUS_LOS = false →
   s.line[n].rx.clocksStopped = false → 1 ≤ s.acqState n → s.acqState n ≤ 6 → ∃ t : State,
   exec (.lineAcqStepTimeout n) s = .next t ∧ t.acqState n = 2 ∧ t.line[n].adc = s.line[n].adc) ∧
  (∀ (n : Fin 8) (s : State), s.noneDue → s.line[n].rx.signal = true → s.locked n = false → s.acqState n ≠ 0 →
   s.takes (lineSrc n 0x44) 0 → ∃ u : State, exec (.acqFail n) s = .next u.react ∧
   u = s.raise (lineSrc n 0x44) s.line[n].rx.highest ∧ u.isActive (lineSrc n 0x44))

/-- Signal present ends a LOS with a full acquisition, or starts the count of ACQ_FAIL; LOS raises its source and the
lane leaves LOCKED; the end of a LOS starts a fast re-lock within 100 ms and a full acquisition after it; a frequency
word held at its limit raises LOL and starts a fast re-lock; a re-lock that takes too long starts a full acquisition;
and a locked lane publishes its SNR and its eye heights, flags a low SNR, and raises it once. -/
def Obligations.LineSignalAndReadouts : Prop :=
  (∀ (n : Fin 8) (s : State), s.noneDue → s.acqState n ≠ 0 → s.flag (lineBase n) EQ_STATUS_LOS = true →
   s.synLocked (lineSyn n) = true → s.deepHolds (domLineRx n) = false → ∃ u : State,
   exec (.lineSignalPresent n) s = .next u.react ∧ u.flag (lineBase n) EQ_STATUS_LOS = false ∧
   u.line[n].rx.signal = true ∧ u.acqState n = 1 ∧ lineSrc n 0x40 ∉ u.fuse.rails) ∧
  (∀ (n : Fin 8) (s : State), s.noneDue → s.acqState n ≠ 0 → s.flag (lineBase n) EQ_STATUS_LOS = false →
   ∃ t : State, exec (.lineSignalPresent n) s = .next t ∧
   t = s.modRx n (fun r => { r with signal := true, highest := (if s.acqState n ≤ 6 ∨ (s.acqState n = 7 ∧
     s.locked n = true) then s.acqState n else 0) })) ∧
  (∀ (n : Fin 8) (s : State), s.noneDue → s.acqState n ≠ 0 → s.flag (lineBase n) EQ_STATUS_LOS = false →
   s.takes (lineSrc n 0x40) 0 → ∃ u : State, exec (.lineLos n) s = .next u.react ∧
   u.flag (lineBase n) EQ_STATUS_LOS = true ∧ u.locked n = false ∧ u.line[n].rx.signal = false ∧
   u.isActive (lineSrc n 0x40)) ∧
  (∀ (n : Fin 8) (within100ms : Bool) (s : State), s.noneDue → s.flag (lineBase n) EQ_STATUS_LOS = true →
   s.line[n].rx.clocksStopped = false → within100ms = true → ∃ u : State,
   exec (.lineLosEnd n within100ms) s = .next u.react ∧ u.flag (lineBase n) EQ_STATUS_LOS = false ∧
   u.acqState n = 8 ∧ u.line[n].rx.relockStep = 1) ∧
  (∀ (n : Fin 8) (within100ms : Bool) (s : State), s.noneDue → s.flag (lineBase n) EQ_STATUS_LOS = true →
   s.line[n].rx.clocksStopped = false → within100ms = false → s.synLocked (lineSyn n) = true →
   s.deepHolds (domLineRx n) = false → ∃ u : State, exec (.lineLosEnd n within100ms) s = .next u.react ∧
   u.flag (lineBase n) EQ_STATUS_LOS = false ∧ u.acqState n = 1) ∧
  (∀ (n : Fin 8) (s : State), s.noneDue → s.locked n = true →
   (s.line[n].rx.freqWord = 50000 ∨ s.line[n].rx.freqWord = -50000) → s.takes (lineSrc n 0x41) 2 → ∃ u : State,
   exec (.lineFreqLimit n) s = .next u.react ∧ u.locked n = false ∧ u.acqState n = 8 ∧
   u.isActive (lineSrc n 0x41)) ∧
  (∀ (n : Fin 8) (s : State), s.noneDue → s.acqState n = 8 → s.flag (lineBase n) EQ_STATUS_LOS = false →
   s.synLocked (lineSyn n) = true → s.deepHolds (domLineRx n) = false → ∃ u : State,
   exec (.lineRelockTimeout n) s = .next u.react ∧ u.acqState n = 1 ∧ (u.line[n].adc.step = 3 ∨
   u.line[n].adc.step = 4)) ∧
  (∀ (n : Fin 8) (symbols : List RxSymbol) (err : ReadoutError) (v : Nat) (l : List RxSymbol) (s : State),
   s.noneDue → s.locked n = true → s.lineTask n taskSnr = true → v = s.snrValue n symbols err.snr →
   l = s.counted n symbols → ∃ u : State, exec (.snrPublish n symbols err) s = .next u.react ∧
   u.fld (lineBase n) SNR_STAT_SNR = v ∧
   u.flag (lineBase n) EQ_STATUS_SNR_LOW = decide (v < 25 * s.fld (lineBase n) EQ_CTRL_SNR_WARN) ∧
   u.fld (lineBase n) EYE_STAT_EYE_UPPER = eyePublished (eyeHeight l 2) err.upper ∧
   u.fld (lineBase n) EYE_STAT_EYE_MID = eyePublished (eyeHeight l 1) err.mid ∧
   u.fld (lineBase n) EYE_STAT_EYE_LOWER = eyePublished (eyeHeight l 0) err.lower ∧
   (v < 25 * s.fld (lineBase n) EQ_CTRL_SNR_WARN → s.line[n].rx.snrHeld = false →
    s.takes (lineSrc n 0x42) v → u.isActive (lineSrc n 0x42)))

/-- A received frame checks its marker and counts its codewords in the windows of 256; four mismatched markers in 16,
or four failing windows in a row, make the lane leave lock for a fast re-lock. A decoded codeword delivers its 120
bits, flags the changed symbols and counts. A KP4 codeword is decoded, counted and forwarded under the TERMINATE in
force at it, whose change follows it; 16 uncorrectable ones in a row lose the lock of an HR monitor and raise its
source; a lane that no line lane carries counts nothing. The codeword search takes the phase found. TERMINATE, the
snapshots and the clears of the counter blocks, and the BER estimate of a run whose first interval has 1,000 changed
bits; a run with none raises nothing. -/
def Obligations.FramesInnerCodeAndMonitors : Prop :=
  (∀ (n : Fin 8) (words : List (List Bool)) (w : Windows) (s : State), s.noneDue → s.locked n = true →
   s.flag (lineBase n) FEC_STATUS_IN_FRAME = true →
   w = (frameFails words).foldl Windows.next ⟨s.line[n].rx.winSeen, s.line[n].rx.winBad, s.line[n].rx.badWindows⟩ →
   ((frameMissed words :: s.line[n].rx.markerHist).take 16).count true < 4 → w.run < 4 → ∃ t : State,
   exec (.lineFrameReceived n words) s = .next t ∧
   t.line[n].rx.markerHist = (frameMissed words :: s.line[n].rx.markerHist).take 16 ∧
   t.line[n].rx.winSeen = w.seen ∧ t.line[n].rx.winBad = w.bad ∧ t.line[n].rx.badWindows = w.run ∧
   t.fld (lineBase n) FEC_STATUS_MARKER_MISS = (if frameMissed words then satNat FEC_STATUS_MARKER_MISS.width
     (s.fld (lineBase n) FEC_STATUS_MARKER_MISS + 1) else s.fld (lineBase n) FEC_STATUS_MARKER_MISS) ∧
   RegsBut [lineBase n + FEC_STATUS_MARKER_MISS.off] s t) ∧
  (∀ (n : Fin 8) (words : List (List Bool)) (w : Windows) (s : State), s.noneDue → s.locked n = true →
   s.flag (lineBase n) FEC_STATUS_IN_FRAME = true →
   w = (frameFails words).foldl Windows.next ⟨s.line[n].rx.winSeen, s.line[n].rx.winBad, s.line[n].rx.badWindows⟩ →
   (4 ≤ ((frameMissed words :: s.line[n].rx.markerHist).take 16).count true ∨ 4 ≤ w.run) → s.lineLoop n ≠ 4 →
   ∃ u : State, exec (.lineFrameReceived n words) s = .next u.react ∧ u.locked n = false ∧
   u.flag (lineBase n) FEC_STATUS_IN_FRAME = false ∧ u.acqState n = 8) ∧
  (∀ (n : Fin 8) (soft : List SoftBit) (marker : Bool) (y c changed : List Bool) (s : State), s.noneDue →
   s.flag (lineBase n) FEC_STATUS_IN_FRAME = true → soft.length = 128 → y = hardBits soft marker →
   c = chaseDecode (chaseL (s.laneProfile n)) soft marker → changed = (List.range 64).map (fun k =>
   (diffBits y c).contains (2 * k) || (diffBits y c).contains (2 * k + 1)) → ∃ t : State,
   exec (.innerCodewordDecode n soft marker) s = .next t ∧ t.line[n].rx.outer = c.take 120 ∧
   t.line[n].rx.changed = changed ∧ t.line[n].rx.innerCw = (s.line[n].rx.innerCw + 1) % 2 ^ 48 ∧
   t.line[n].rx.innerChanged = (s.line[n].rx.innerChanged + (if diffBits y c = [] then 0 else 1)) % 2 ^ 48 ∧
   t.line[n].rx.innerMulti = (s.line[n].rx.innerMulti + (if 2 ≤ (diffBits y c).length then 1 else 0)) % 2 ^ 48 ∧
   t.line[n].rx.innerBits = (s.line[n].rx.innerBits + (diffBits y c).length) % 2 ^ 48 ∧
   t.line[n].rx.innerSyms = (s.line[n].rx.innerSyms + changed.count true) % 2 ^ 48 ∧ RegsBut [] s t) ∧
  (∀ (m : Fin 16) (mon : Kp4Monitor) (word : List (BitVec 10)) (r : RsOutcome) (s : State), s.noneDue →
   s.flag (hostBase m) (monRegs mon).cwLock = true → (s.lineOf m).isSome = true →
   r = rsDecode (word.map BitVec.toNat) → r ≠ .uncorrectable → ∃ t : State,
   exec (.kp4Codeword m mon word) s = .next t ∧ t.host[m].mon mon = (s.host[m].mon mon).count r ∧
   (match mon with | .hr => t.host[m].outHr | .lr => t.host[m].outLr) = s.host[m].forwarded mon r (word.map
     BitVec.toNat) ∧
   (match mon with | .hr => t.host[m].termHr | .lr => t.host[m].termLr) = s.flag (hostBase m) (monRegs mon).terminate ∧
   RegsBut [] s t) ∧
  (∀ (m : Fin 16) (word : List (BitVec 10)) (s : State), s.noneDue →
   s.flag (hostBase m) HR_KP4_STATUS_CW_LOCK = true → (s.lineOf m).isSome = true →
   rsDecode (word.map BitVec.toNat) = .uncorrectable → 16 ≤ s.host[m].hr.run + 1 → s.takes (hostSrc m 0x51) 0 →
   ∃ u : State, exec (.kp4Codeword m .hr word) s = .next u.react ∧
   u.flag (hostBase m) HR_KP4_STATUS_CW_LOCK = false ∧
   u.host[m].hr.uncorr = (s.host[m].hr.uncorr + 1) % 2 ^ 48 ∧ u.isActive (hostSrc m 0x51)) ∧
  (∀ (m : Fin 16) (mon : Kp4Monitor) (word : List (BitVec 10)) (s : State), s.lineOf m = none →
   exec (.kp4Codeword m mon word) s = .next s) ∧
  (∀ (m : Fin 16) (tests : List (Fin 2720 × List (List (BitVec 10)))) (p : Fin 2720) (s : State), s.noneDue →
   s.hostLocked m = true → s.hostChecking m = false → s.flag (hostBase m) HR_KP4_STATUS_CW_LOCK = false →
   lockPhase tests = some p → ∃ u : State, exec (.kp4CwLockAcquired m tests) s = .next u.react ∧
   u.flag (hostBase m) HR_KP4_STATUS_CW_LOCK = true ∧ u.host[m].cwPhase = p.val ∧
   u.fld (hostBase m) HR_KP4_STATUS_LOCK_COUNT = satNat HR_KP4_STATUS_LOCK_COUNT.width (s.fld (hostBase m)
     HR_KP4_STATUS_LOCK_COUNT + 1) ∧
   u.host[m].hr.run = 0 ∧ hostSrc m 0x51 ∉ u.fuse.rails) ∧
  (∀ (m : Fin 16) (mon : Kp4Monitor) (on : Bool) (s : State), s.noneDue → ∃ t : State,
   exec (.terminateWrite m mon on) s = .next t ∧ t.flag (hostBase m) (monRegs mon).terminate = on ∧
   RegsBut [hostBase m + (monRegs mon).terminate.off] s t) ∧
  (∀ (b : CounterBlock) (alsoClr : Bool) (arrived : List (Fin 4 × Fin 4)) (n : Fin 8) (s : State), s.noneDue →
   b = .inner n → ∃ t : State,
   exec (.counterBlockSnap b alsoClr arrived) s = .next t ∧
   t.fld (lineBase n) INNER_CW_LO_COUNT = s.line[n].rx.innerCw % 2 ^ 32 ∧
   t.fld (lineBase n) INNER_CW_HI_COUNT = s.line[n].rx.innerCw / 2 ^ 32 % 2 ^ INNER_CW_HI_COUNT.width ∧
   t.fld (lineBase n) INNER_BITS_CHANGED_LO_COUNT = s.line[n].rx.innerBits % 2 ^ 32 ∧
   t.fld (lineBase n) FEC_STATUS_SNAP_SEQ = (s.fld (lineBase n) FEC_STATUS_SNAP_SEQ + 1) % 2 ^
     FEC_STATUS_SNAP_SEQ.width ∧
   t.line[n].rx.innerCw = (if alsoClr then 0 else s.line[n].rx.innerCw)) ∧
  (∀ (b : CounterBlock) (alsoClr : Bool) (arrived : List (Fin 4 × Fin 4)) (m : Fin 16) (mon : Kp4Monitor) (s : State),
   s.noneDue →
   b = .kp4 m mon → ∃ t : State, exec (.counterBlockSnap b alsoClr arrived) s = .next t ∧
   t.fld (hostBase m) (monRegs mon).totalLo = (s.host[m].mon mon).total % 2 ^ 32 ∧
   t.fld (hostBase m) (monRegs mon).snapSeq = (s.fld (hostBase m) (monRegs mon).snapSeq + 1) % 2 ^ (monRegs
     mon).snapSeq.width ∧
   t.host[m].mon mon = (if alsoClr then (s.host[m].mon mon).cleared else s.host[m].mon mon)) ∧
  (∀ (b : CounterBlock) (alsoClr : Bool) (arrived : List (Fin 4 × Fin 4)) (n : Fin 8) (s : State), s.noneDue →
   b = .lineChecker n → ∃ t : State,
   exec (.counterBlockSnap b alsoClr arrived) s = .next t ∧
   t.fld (lineBase n) PAT_SYMS_LO_COUNT = s.linePatSyms n % 2 ^ 32 ∧
   t.fld (lineBase n) PAT_SYM_ERR_LO_COUNT = (s.blockErrors b arrived).line[n].rx.patSymErr % 2 ^ 32 ∧
   t.fld (lineBase n) RX_PAT_STATUS_SNAP_SEQ = (s.fld (lineBase n) RX_PAT_STATUS_SNAP_SEQ + 1) % 2 ^
     RX_PAT_STATUS_SNAP_SEQ.width ∧
   t.line[n].rx.patSyms = (if alsoClr then 0 else s.line[n].rx.patSyms)) ∧
  (∀ (b : CounterBlock) (alsoClr : Bool) (arrived : List (Fin 4 × Fin 4)) (m : Fin 16) (s : State), s.noneDue →
   b = .hostChecker m → ∃ t : State,
   exec (.counterBlockSnap b alsoClr arrived) s = .next t ∧
   t.fld (hostBase m) HPAT_SYMS_LO_COUNT = s.hostPatSyms m % 2 ^ 32 ∧
   t.fld (hostBase m) HPAT_SYM_ERR_LO_COUNT = (s.blockErrors b arrived).host[m].patSymErr % 2 ^ 32 ∧
   t.fld (hostBase m) HR_PAT_STATUS_SNAP_SEQ = (s.fld (hostBase m) HR_PAT_STATUS_SNAP_SEQ + 1) % 2 ^
     HR_PAT_STATUS_SNAP_SEQ.width ∧
   t.host[m].patSyms = (if alsoClr then 0 else s.host[m].patSyms)) ∧
  (∀ (b : CounterBlock) (arrived : List (Fin 4 × Fin 4)) (n : Fin 8) (s : State), s.noneDue → b = .inner n →
   ∃ t : State,
   exec (.counterBlockClr b arrived) s = .next t ∧ t.line[n].rx.innerCw = 0 ∧ t.line[n].rx.innerChanged = 0 ∧
   t.line[n].rx.innerMulti = 0 ∧ t.line[n].rx.innerBits = 0 ∧ t.line[n].rx.innerSyms = 0 ∧ RegsBut [] s t) ∧
  (∀ (b : CounterBlock) (arrived : List (Fin 4 × Fin 4)) (m : Fin 16) (mon : Kp4Monitor) (s : State), s.noneDue →
   b = .kp4 m mon → ∃ t : State,
   exec (.counterBlockClr b arrived) s = .next t ∧ t.host[m].mon mon = (s.host[m].mon mon).cleared ∧ RegsBut [] s t) ∧
  (∀ (b : CounterBlock) (arrived : List (Fin 4 × Fin 4)) (n : Fin 8) (s : State), s.noneDue → b = .lineChecker n →
   ∃ t : State,
   exec (.counterBlockClr b arrived) s = .next t ∧ t.line[n].rx.patSyms = 0 ∧
   t.line[n].rx.patSymErr = (if s.flag (lineBase n) RX_PAT_STATUS_CHK_LOCK then (arrived.filter (fun e => e.1 !=
     e.2)).length % 2 ^ 48 else 0) ∧ RegsBut [] s t) ∧
  (∀ (b : CounterBlock) (arrived : List (Fin 4 × Fin 4)) (m : Fin 16) (s : State), s.noneDue → b = .hostChecker m →
   ∃ t : State,
   exec (.counterBlockClr b arrived) s = .next t ∧ t.host[m].patSyms = 0 ∧
   t.host[m].patSymErr = (if s.flag (hostBase m) HR_PAT_STATUS_CHK_LOCK then (arrived.filter (fun e => e.1 !=
     e.2)).length % 2 ^ 48 else 0) ∧ RegsBut [] s t) ∧
  (∀ (n : Fin 8) (changed bits : Nat) (f : Nat × Nat) (s : State), s.noneDue →
   s.flag (lineBase n) FEC_STATUS_IN_FRAME = true → changed = s.line[n].rx.intBits →
   bits = 128 * s.line[n].rx.intCw → 1000 ≤ changed → changed < bits → f = berFields ((changed : Rat) / bits) →
   ¬ 1 < ((f.1 : Rat) / 1000 / 10 ^ f.2) ^ 16 * 10 ^ s.fld (lineBase n) FEC_CTRL_BER_WARN → ∃ t : State,
   exec (.berPublish n) s = .next t ∧ t.line[n].rx.berRun = ((changed, bits) :: s.line[n].rx.berRun).take 1000 ∧
   t.line[n].rx.intBits = 0 ∧ t.line[n].rx.intCw = 0 ∧
   t.flag (lineBase n) FEC_STATUS_BER_VALID = true ∧ t.flag (lineBase n) FEC_STATUS_LOW_COUNT = false ∧
   t.fld (lineBase n) BER_EST_MANT = f.1 % 2 ^ BER_EST_MANT.width ∧
   t.fld (lineBase n) BER_EST_EXP = f.2 % 2 ^ BER_EST_EXP.width) ∧
  (∀ (n : Fin 8) (s : State), s.noneDue → s.flag (lineBase n) FEC_STATUS_IN_FRAME = true →
   s.line[n].rx.intBits = 0 → s.line[n].rx.berRun = [] → ∃ t : State, exec (.berPublish n) s = .next t ∧
   t.fuse = s.fuse ∧ t.flag (lineBase n) FEC_STATUS_BER_VALID = true)

/-- TX_EN starts a transmitter that is OFF in CAL, with FS_SET taken; without its domain or synthesiser it only holds
its bit. CAL ends with the trims that the factory sets give, within their limits; the common-mode ramp ends in the
amplitude ramp, or in HELD under a squelch cause; the amplitude ramp ends in LIVE at its last step. TX_EN off takes
the output down through CM_RAMP, or at once from CAL; in safe state it holds its bit alone (log 123). SQUELCH sets its
cause, and holds a running output. A change of TX_PRECODE waits for the next line-frame boundary in a running datapath
(counted as in log 112), and starts with P = 0. -/
def Obligations.TransmitterStartAndStop : Prop :=
  (∀ (n : Fin 8) (s : State), s.noneDue → s.fuse.safe = false → s.synLocked (lineSyn n) = true →
   s.domOn (domLineTx n) = true → s.txState n = 0 → ∃ t : State, exec (.txEnable n) s = .next t ∧
   t.flag (lineBase n) TX_CTRL_TX_EN = true ∧ t.txState n = 1 ∧
   t.line[n].tx.fsInForce = s.fld (lineBase n) TX_CTRL_FS_SET ∧ t.line[n].tx.falling = false) ∧
  (∀ (n : Fin 8) (s : State), s.noneDue →
   (s.synLocked (lineSyn n) = false ∨ s.fld powerBase (DOM_STATE.ix (domLineTx n)) = 3) → ∃ t : State,
   exec (.txEnable n) s = .next t ∧ t.flag (lineBase n) TX_CTRL_TX_EN = true ∧ t.txState n = s.txState n) ∧
  (∀ (n : Fin 8) (s : State), s.noneDue → s.txState n = 1 → s.domOn (domLineTx n) = true → ∃ t : State,
   exec (.txCalDone n) s = .next t ∧ t.txState n = 2 ∧ t.line[n].tx.falling = false ∧
   t.line[n].tx.subs = s.line[n].tx.subs.map (fun d => { d with order := List.range 68 }) ∧
   ∀ j : Fin 4, ∀ trim : SubDacTrim, (legalTrims (s.trims n) (s.factoryTrims n))[j.val]? = some trim →
   t.fld (lineBase n) (SUBDAC_GAIN.ix j.val) = intBits 8 trim.gain ∧
   t.fld (lineBase n) (SUBDAC_OFFSET.ix j.val) = intBits 8 trim.offset ∧
   t.fld (lineBase n) (SUBDAC_SKEW.ix j.val) = intBits 8 trim.skew) ∧
  (∀ (old new : List SubDacTrim) (trim : SubDacTrim), trim ∈ legalTrims old new →
   -125 ≤ trim.gain ∧ trim.gain ≤ 125 ∧ -128 ≤ trim.offset ∧ trim.offset ≤ 127) ∧
  (∀ (n : Fin 8) (s : State), s.noneDue → s.txState n = 2 → s.line[n].tx.falling = false →
   s.fld (lineBase n) TX_STATUS_SQ_CAUSE = 0 → s.deepHolds (domLineTx n) = false → ∃ t : State,
   exec (.txCmRampDone n) s = .next t ∧ t.txState n = 4 ∧ t.line[n].tx.starts = s.line[n].tx.starts + 1 ∧
   t.line[n].tx.precode = s.flag (lineBase n) TX_CTRL_TX_PRECODE ∧ t.line[n].tx.precoderP = 0) ∧
  (∀ (n : Fin 8) (s : State), s.noneDue → s.txState n = 2 → s.line[n].tx.falling = false →
   s.fld (lineBase n) TX_STATUS_SQ_CAUSE ≠ 0 → ∃ t : State, exec (.txCmRampDone n) s = .next t ∧
   t.txState n = 3 ∧ t.line[n].tx.heldFromCm = true ∧
   t.line[n].tx.precode = s.flag (lineBase n) TX_CTRL_TX_PRECODE) ∧
  (∀ (n : Fin 8) (s : State), s.noneDue → s.txState n = 4 → s.rampK n = 64 → ∃ t : State,
   exec (.txAmpRampDone n) s = .next t ∧ t.txState n = 5 ∧ t.rampK n = 64 ∧
   RegsBut [lineBase n + TX_STATUS_TX_STATE.off] s t) ∧
  (∀ (n : Fin 8) (s : State), s.noneDue → s.fuse.safe = false → 2 ≤ s.txState n → ∃ u : State,
   exec (.txDisable n) s = .next u.react ∧ u.flag (lineBase n) TX_CTRL_TX_EN = false ∧ u.txState n = 2 ∧
   u.line[n].tx.falling = true ∧ u.rampK n = 0) ∧
  (∀ (n : Fin 8) (s : State), s.noneDue → s.fuse.safe = false → s.txState n = 1 → ∃ t : State,
   exec (.txDisable n) s = .next t ∧ t.flag (lineBase n) TX_CTRL_TX_EN = false ∧ t.txState n = 0) ∧
  (∀ (n : Fin 8) (s : State), s.noneDue → s.fuse.safe = true → ∃ t : State, exec (.txDisable n) s = .next t ∧
   t.flag (lineBase n) TX_CTRL_TX_EN = false ∧ RegsBut [lineBase n + TX_CTRL_TX_EN.off] s t) ∧
  (∀ (n : Fin 8) (s : State), s.noneDue → s.txState n = 2 → s.line[n].tx.falling = true → ∃ t : State,
   exec (.txFallDone n) s = .next t ∧ t.txState n = 0 ∧ t.line[n].tx.falling = false) ∧
  (∀ (n : Fin 8) (on : Bool) (s : State), s.noneDue → on = true → s.txState n ≤ 2 → ∃ t : State,
   exec (.txSquelchWrite n on) s = .next t ∧ t.flag (lineBase n) TX_CTRL_SQUELCH = true ∧
   t.fld (lineBase n) TX_STATUS_SQ_CAUSE ≠ 0 ∧ t.txState n = s.txState n) ∧
  (∀ (n : Fin 8) (on : Bool) (s : State), s.noneDue → on = true → (s.txState n = 4 ∨ s.txState n = 5) →
   ∃ u : State, exec (.txSquelchWrite n on) s = .next u.react ∧ u.flag (lineBase n) TX_CTRL_SQUELCH = true ∧
   u.txState n = 3) ∧
  (∀ (n : Fin 8) (on : Bool) (s : State), s.noneDue → 3 ≤ s.txState n → ∃ t : State,
   exec (.txPrecodeWrite n on) s = .next t ∧ t.flag (lineBase n) TX_CTRL_TX_PRECODE = on ∧
   t.line[n].tx.precode = s.line[n].tx.precode ∧
   t.line[n].tx.precodeNext = (if on = s.line[n].tx.precode then none else some on) ∧
   RegsBut [lineBase n + TX_CTRL_TX_PRECODE.off] s t) ∧
  (∀ (n : Fin 8) (on : Bool) (s : State), s.noneDue → s.txState n < 3 → ∃ t : State,
   exec (.txPrecodeWrite n on) s = .next t ∧ t = s.setFlag (lineBase n) TX_CTRL_TX_PRECODE on) ∧
  (∀ (n : Fin 8) (on : Bool) (s : State), s.line[n].tx.precodeNext = some on →
   (s.tick - s.line[n].tx.frameTick) % s.frameTicks = 0 → (s.txFrameBoundary n).line[n].tx.precode = on ∧
   (s.txFrameBoundary n).line[n].tx.precoderP = (if on = true ∧ s.line[n].tx.precode = false then 0
     else s.line[n].tx.precoderP) ∧ (s.txFrameBoundary n).line[n].tx.precodeNext = none)

/-- PAT_SEL and CHK_SEL hold what is written, and a changed CHK_SEL takes the checker's lock and makes the lane search
again; symbols that the checker predicts set its lock and count it, on a line or a host lane; and more than 128 errors
in up to 1,024 compared symbols take it, and the lane behind it leaves LOCKED. -/
def Obligations.PatternsAndCheckers : Prop :=
  (∀ (n : Fin 8) (sel : BitVec 3) (s : State), s.noneDue →
   (patSel (s.fld (lineBase n) TX_PAT_PAT_SEL) = 0 ∨ patSel sel.toNat ≠ 0) → ∃ t : State,
   exec (.txPatSelWrite n sel) s = .next t ∧ t.fld (lineBase n) TX_PAT_PAT_SEL = sel.toNat ∧
   RegsBut [lineBase n + TX_PAT_PAT_SEL.off] s t) ∧
  (∀ (n : Fin 8) (sel : BitVec 3) (s : State), s.noneDue → patSel (s.fld (lineBase n) TX_PAT_PAT_SEL) ≠ 0 →
   patSel sel.toNat = 0 → ∃ t : State, exec (.txPatSelWrite n sel) s = .next t ∧
   t.fld (lineBase n) TX_PAT_PAT_SEL = sel.toNat) ∧
  (∀ (n : Fin 8) (sel : BitVec 3) (s : State), s.noneDue →
   patSel (s.fld (lineBase n) RX_PAT_CTRL_CHK_SEL) = patSel sel.toNat → ∃ t : State,
   exec (.lineChkSelWrite n sel) s = .next t ∧ t.fld (lineBase n) RX_PAT_CTRL_CHK_SEL = sel.toNat ∧
   RegsBut [lineBase n + RX_PAT_CTRL_CHK_SEL.off] s t) ∧
  (∀ (n : Fin 8) (sel : BitVec 3) (s : State), s.noneDue →
   patSel (s.fld (lineBase n) RX_PAT_CTRL_CHK_SEL) ≠ patSel sel.toNat → ∃ u : State,
   exec (.lineChkSelWrite n sel) s = .next u.react ∧ u.fld (lineBase n) RX_PAT_CTRL_CHK_SEL = sel.toNat ∧
   u.flag (lineBase n) RX_PAT_STATUS_CHK_LOCK = false ∧ u.locked n = false) ∧
  (∀ (k : Checker) (symbols : List (Fin 4)) (n : Fin 8) (s : State), s.noneDue → k = .line n →
   s.checking n = true → s.flag (lineBase n) RX_PAT_STATUS_CHK_LOCK = false →
   checkerTracks (s.fld (lineBase n) RX_PAT_CTRL_CHK_SEL) (s.lineUserSymbol n) (symbols.map Fin.val) = true →
   ∃ t : State, exec (.chkLockAcquired k symbols) s = .next t ∧
   t.flag (lineBase n) RX_PAT_STATUS_CHK_LOCK = true ∧
   t.fld (lineBase n) RX_PAT_STATUS_LOCK_COUNT = satNat RX_PAT_STATUS_LOCK_COUNT.width (s.fld (lineBase n)
     RX_PAT_STATUS_LOCK_COUNT + 1)) ∧
  (∀ (k : Checker) (symbols : List (Fin 4)) (m : Fin 16) (s : State), s.noneDue → k = .host m →
   s.hostChecking m = true → s.flag (hostBase m) HR_PAT_STATUS_CHK_LOCK = false →
   checkerTracks (s.fld (hostBase m) HR_PAT_CTRL_CHK_SEL) (s.hostUserSymbol m) (symbols.map Fin.val) = true →
   ∃ t : State, exec (.chkLockAcquired k symbols) s = .next t ∧
   t.flag (hostBase m) HR_PAT_STATUS_CHK_LOCK = true ∧
   t.fld (hostBase m) HR_PAT_STATUS_LOCK_COUNT = satNat HR_PAT_STATUS_LOCK_COUNT.width (s.fld (hostBase m)
     HR_PAT_STATUS_LOCK_COUNT + 1)) ∧
  (∀ (k : Checker) (compared : List (Fin 4 × Fin 4)) (n : Fin 8) (s : State), s.noneDue → k = .line n →
   s.flag (lineBase n) RX_PAT_STATUS_CHK_LOCK = true → checkerLoses compared = true →
   ∃ u : State, exec (.chkLockLoss k compared) s = .next u.react ∧
   u.flag (lineBase n) RX_PAT_STATUS_CHK_LOCK = false ∧ u.locked n = false) ∧
  (∀ (k : Checker) (compared : List (Fin 4 × Fin 4)) (m : Fin 16) (s : State), s.noneDue → k = .host m →
   s.flag (hostBase m) HR_PAT_STATUS_CHK_LOCK = true → checkerLoses compared = true →
   ∃ u : State, exec (.chkLockLoss k compared) s = .next u.react ∧
   u.flag (hostBase m) HR_PAT_STATUS_CHK_LOCK = false ∧ u.hostLocked m = false)

/-- A sample that R168 excludes only counts and moves the generator; one that it keeps counts in table E and moves
table M, or waits in the queue while a page is being rebuilt (log 133). Freezing and clearing a census, and an
updater's failed check. The lane served next has its canceller table and its proposal derived, or is cleared at E_SAT
(logs 134 and 135). A staged table is written into the bank that is not in force and its swap requested; a host swap
in the same cycle is taken and room 14's is counted busy; a received proposal is formed from the bank in force and
swapped. An install whose correction rate did not worsen is done with; one that worsened is counted, raised and
swapped back. -/
def Obligations.CensusAndDerivedTables : Prop :=
  (∀ (n : Fin 8) (clock : List CensusSymbol) (s : State), s.noneDue → s.sampling n = true → s.sampleDue n = true →
   s.censusExcluded n clock (s.samplePlace n) = true → ∃ t : State, exec (.censusSample n clock) s = .next t ∧
   t.fld pantryBase (PL_EXCL_X.ix n.val) = satNat PL_EXCL_X.width (s.fld pantryBase (PL_EXCL_X.ix n.val) + 1) ∧
   t.pantry.lanes[n].lfsr = lfsrStep s.pantry.lanes[n].lfsr ∧ t.pantry.lanes[n].lastSample = some s.tick ∧
   t.pantry.lanes[n].samples = s.pantry.lanes[n].samples ∧ t.mem = s.mem ∧
   RegsBut [pantryBase + (PL_EXCL_X.ix n.val).off] s t) ∧
  (∀ (n : Fin 8) (clock : List CensusSymbol) (s : State), s.noneDue → s.sampling n = true → s.sampleDue n = true →
   s.censusExcluded n clock (s.samplePlace n) = false → s.laneRebuilding n = false →
   s.flag pantryBase (PL_CTRL_E_EN.ix n.val) = true → s.flag pantryBase (PL_CTRL_M_EN.ix n.val) = true →
   (censusAt clock (s.samplePlace n) 5).corrected = true →
   s.entryOf (tableE n) (censusContext clock (s.samplePlace n)) < 0xFFFE → ∃ t : State,
   exec (.censusSample n clock) s = .next t ∧
   t.entryOf (tableE n) (censusContext clock (s.samplePlace n)) =
     s.entryOf (tableE n) (censusContext clock (s.samplePlace n)) + 1 ∧
   t.meanOf n (censusContext clock (s.samplePlace n)) = s.meanOf n (censusContext clock (s.samplePlace n)) +
     roundAway (((s.censusResidual n clock (s.samplePlace n) -
       s.meanOf n (censusContext clock (s.samplePlace n)) : Int) : Rat) / (2 ^ s.mDecay : Nat)) ∧
   t.pantry.lanes[n].samples = (s.pantry.lanes[n].samples + 1) % 2 ^ 48 ∧
   t.pantry.lanes[n].lfsr = lfsrStep s.pantry.lanes[n].lfsr ∧ RegsBut [] s t) ∧
  (∀ (n : Fin 8) (clock : List CensusSymbol) (s : State), s.noneDue → s.sampling n = true → s.sampleDue n = true →
   s.censusExcluded n clock (s.samplePlace n) = false → s.laneRebuilding n = true → ∃ t : State,
   exec (.censusSample n clock) s = .next t ∧ t.mem = s.mem ∧ RegsBut [] s t ∧
   t.pantry.lanes[n].samples = (s.pantry.lanes[n].samples + 1) % 2 ^ 48 ∧
   t.pantry.lanes[n].queue.length = s.pantry.lanes[n].queue.length + 1) ∧
  (∀ (n : Fin 8) (on : Bool) (s : State), s.noneDue → ∃ t : State, exec (.pantryFreezeWrite n on) s = .next t ∧
   t.flag pantryBase (PL_CTRL_FREEZE.ix n.val) = on ∧ t.flag pantryBase (PL_STATUS_FROZEN.ix n.val) = on ∧
   RegsBut [pantryBase + (PL_CTRL_FREEZE.ix n.val).off, pantryBase + (PL_STATUS_FROZEN.ix n.val).off] s t ∧
   t.mem = s.mem) ∧
  (∀ (n : Fin 8) (s : State), s.noneDue → ∃ t : State, exec (.pantryClearWrite n) s = .next t ∧
   t.flag pantryBase (PL_STATUS_CLEARING.ix n.val) = true ∧
   t.pantry.clearing = (match s.pantry.clearing with | some k => some k | none => some n) ∧
   RegsBut [pantryBase + (PL_STATUS_CLEARING.ix n.val).off] s t) ∧
  (∀ (n : Fin 8) (s : State), s.noneDue → s.pantry.clearing = some n → s.domOn 2 = true →
   (∀ r ∈ s.link.running, r.opcode ≠ 0x0C02) → ∃ t : State, exec (.pantryClearDone n) s = .next t ∧
   t.flag pantryBase (PL_STATUS_CLEARING.ix n.val) = false ∧ t.fld pantryBase (PL_EXCL_X.ix n.val) = 0 ∧
   t.flag pantryBase (PL_STATUS_STALE_E.ix n.val) = false ∧
   t.flag pantryBase (PL_STATUS_STALE_M.ix n.val) = false ∧
   t.flag pantryBase (PL_STATUS_E_SAT.ix n.val) = false ∧ t.pantry.lanes[n].samples = 0 ∧
   t.pantry.lanes[n].derived = none ∧ t.pantry.lanes[n].judge = none ∧ t.pantry.lanes[n].queue = [] ∧
   t.pantry.clearing = allLines.find? (fun k => decide (k ≠ n) && s.flag pantryBase (PL_STATUS_CLEARING.ix
     k.val)) ∧
   ∀ i : Fin 4, t.byte (tableAddr (tableE n) (0x40000 * i.val + 5)) = 0) ∧
  (∀ (n : Fin 8) (s : State), s.noneDue → s.domOn 2 = true →
   s.flag pantryBase (PL_STATUS_UPDATER_FAIL.ix n.val) = false → ∃ u : State,
   exec (.updaterFail n) s = .next u.react ∧ u.flag pantryBase (PL_STATUS_UPDATER_FAIL.ix n.val) = true) ∧
  (∀ (n : Fin 8) (s : State), s.noneDue → s.servedNext = some n →
   s.flag pantryBase (PL_STATUS_E_SAT.ix n.val) = false → ∃ t : State, exec (.cancellerDerive n) s = .next t ∧
   t.pantry.lanes[n].table = cancellerTable ((List.range 1024).map (s.censusMean n)) ∧
   t.pantry.lanes[n].installDue = true ∧ t.pantry.lanes[n].derived = some s.tick ∧
   ((proposalOf (s.fld pantryBase PANTRY_CTRL_PD_SHARE) t.pantry.lanes[n].table).any (· != 0) = true →
     t.pantry.lanes[n].unsent = true ∧
     t.pantry.lanes[n].proposal = proposalOf (s.fld pantryBase PANTRY_CTRL_PD_SHARE) t.pantry.lanes[n].table) ∧
   RegsBut [] s t) ∧
  (∀ (n : Fin 8) (s : State), s.noneDue → s.servedNext = some n →
   s.flag pantryBase (PL_STATUS_E_SAT.ix n.val) = true → ∃ t : State, exec (.cancellerDerive n) s = .next t ∧
   t.flag pantryBase (PL_STATUS_CLEARING.ix n.val) = true ∧ t.pantry.lanes = s.pantry.lanes) ∧
  (∀ (n : Fin 8) (s : State), s.noneDue → s.taskRuns 14 (taskInstall n) = true → s.nlcReady n = true →
   s.pantry.lanes[n].swapDue = false → s.pantry.lanes[n].installDue = true → s.pantry.lanes[n].step = none →
   s.flag pantryBase PANTRY_CTRL_AUTO_NLC = true → s.nlcInUse n = true → s.pantry.lanes[n].pdDue = none →
   ∃ t : State, exec (.cancellerInstall n false) s = .next t ∧ t.flag (lineBase n) NLC_STATUS_FADING = true ∧
   t.pantry.lanes[n].installDue = false ∧ t.pantry.lanes[n].installing = some false ∧
   t.pantry.lanes[n].swapBusy = false ∧
   ∀ i : Fin 1024, i.val < s.pantry.lanes[n].table.length →
   t.fld (lineBase n) ((if s.fld (lineBase n) NLC_STATUS_ACTIVE_BANK = 0 then NLC_B1_ENTRY else NLC_B0_ENTRY).ix
     i.val) = intBits 10 (s.pantry.lanes[n].table.getD i.val 0)) ∧
  (∀ (n : Fin 8) (s : State), s.noneDue → s.taskRuns 14 (taskInstall n) = true → s.nlcReady n = true →
   s.pantry.lanes[n].swapDue = false → s.pantry.lanes[n].installDue = true →
   s.flag pantryBase PANTRY_CTRL_AUTO_NLC = true → s.nlcInUse n = true → s.pantry.lanes[n].pdDue = none →
   ∃ t : State, exec (.cancellerInstall n true) s = .next t ∧ t.flag (lineBase n) NLC_STATUS_FADING = true ∧
   t.pantry.lanes[n].installDue = true ∧ t.pantry.lanes[n].installing = s.pantry.lanes[n].installing ∧
   t.pantry.lanes[n].swapBusy = true ∧
   t.fld (lineBase n) NLC_STATUS_BUSY_COUNT = satNat NLC_STATUS_BUSY_COUNT.width
     (s.fld (lineBase n) NLC_STATUS_BUSY_COUNT + 1)) ∧
  (∀ (n : Fin 8) (due : PdDue) (p : List Int) (s : State), s.noneDue → s.taskRuns 14 (taskInstall n) = true →
   s.pantry.lanes[n].swapDue = false → s.pantry.lanes[n].installDue = false →
   s.pantry.lanes[n].pdDue = some due → due.proposal = some p → due.step = none → s.pdReady n = true →
   s.pdInUse n = true → ∃ t : State, exec (.cancellerInstall n false) s = .next t ∧
   t.flag (lineBase n) PD_STATUS_FADING = true ∧ t.pantry.lanes[n].pdDue = none ∧
   t.pantry.lanes[n].pdInstalling = some due ∧ ∀ i : Fin 1024, i.val < p.length →
   t.fld (lineBase n) ((if s.fld (lineBase n) PD_STATUS_ACTIVE_BANK = 0 then PD_B1_ENTRY else PD_B0_ENTRY).ix
     i.val) = intBits 10 ((s.proposedTable n p).getD i.val 0)) ∧
  (∀ (n : Fin 8) (j : Judge) (s : State), s.noneDue → s.taskRuns 14 (taskInstall n) = true →
   s.pantry.lanes[n].judge = some j → j.start + j.window ≤ s.pantry.lanes[n].samples →
   worse j.before j.after = false → ∃ t : State, exec (.installEvaluate n) s = .next t ∧
   t.pantry.lanes[n].judge = none ∧ RegsBut [] s t) ∧
  (∀ (n : Fin 8) (j : Judge) (s : State), s.noneDue → s.taskRuns 14 (taskInstall n) = true →
   s.pantry.lanes[n].judge = some j → j.start + j.window ≤ s.pantry.lanes[n].samples →
   worse j.before j.after = true → j.proposal = none → s.takes 0x4104 n.val → ∃ u : State,
   exec (.installEvaluate n) s = .next u.react ∧ u.pantry.lanes[n].judge = none ∧ u.isActive 0x4104 ∧
   u.fld pantryBase (PL_STATUS_NLC_REVERTS.ix n.val) = satNat PL_STATUS_NLC_REVERTS.width (s.fld pantryBase
     (PL_STATUS_NLC_REVERTS.ix n.val) + 1) ∧
   (s.nlcReady n = false → u.pantry.lanes[n].swapDue = true))

/-- With PD_TAMID set, room 14 sends a proposal as eight messages under a new sequence number, notes the window before
it (log 138), and sends them once more after a timeout; the next timeout raises PROPOSAL_LOST. A first part opens the
collection of its sequence, whose timeout is answered with result 2; an ACK of the last sequence ends the wait, and
result 0 sets the install point and starts the comparison; a REVERT of the last installed sequence is counted and
waits for the transmitter (log 139). -/
def Obligations.PreDistortionProposals : Prop :=
  (∀ (n : Fin 8) (s : State), s.noneDue → s.taskRuns 14 (taskInstall n) = true →
   s.flag pantryBase PANTRY_CTRL_PD_TAMID = true →
   s.pantry.lanes[n].unsent = true → s.fuse.safe = false → s.tamidState n ≠ 0 →
   ∃ t : State, exec (.proposalSend n) s = .next t ∧
   t.fld pantryBase (PL_DERIVE_PROP_SEQ_TX.ix n.val) = (s.fld pantryBase (PL_DERIVE_PROP_SEQ_TX.ix n.val) + 1) %
     256 ∧
   t.pantry.lanes[n].unsent = false ∧ t.pantry.lanes[n].awaiting = some (s.tick, false) ∧
   t.pantry.lanes[n].sent = s.windowNow n ∧
   t.tamid[n].own = s.tamid[n].own ++ (List.range 8).map (fun k => proposeMessage ((s.fld pantryBase
     (PL_DERIVE_PROP_SEQ_TX.ix n.val) + 1) % 256) k s.pantry.lanes[n].proposal)) ∧
  (∀ (n : Fin 8) (k : Nat) (s : State), s.noneDue → s.pantry.lanes[n].awaiting = some (k, false) →
   s.taskRuns 14 (taskInstall n) = true → s.flag pantryBase PANTRY_CTRL_PD_TAMID = true → s.fuse.safe = false →
   s.tamidState n ≠ 0 → ∃ t : State, exec (.proposalTimeout n) s = .next t ∧
   t.pantry.lanes[n].awaiting = some (s.tick, true) ∧
   t.tamid[n].own = s.tamid[n].own ++ (List.range 8).map (fun k => proposeMessage (s.fld pantryBase
     (PL_DERIVE_PROP_SEQ_TX.ix n.val)) k s.pantry.lanes[n].proposal)) ∧
  (∀ (n : Fin 8) (k : Nat) (s : State), s.noneDue → s.pantry.lanes[n].awaiting = some (k, true) →
   s.taskRuns 14 (taskInstall n) = true → s.takes 0x4106 n.val → ∃ u : State,
   exec (.proposalTimeout n) s = .next u.react ∧
   u.pantry.lanes[n].awaiting = none ∧ u.isActive 0x4106) ∧
  (∀ (n : Fin 8) (seq part : Byte) (body : List Byte) (rest : List (List Byte)) (s : State), s.noneDue →
   s.taskRuns 14 (taskInstall n) = true → s.proposalsOpen = true →
   s.tamid[n].messages = ([0xC1, seq, part] ++ body) :: rest →
   s.pantry.lanes[n].assembly = none → ∃ t : State, exec (.proposeReceived n) s = .next t ∧
   t.tamid[n].messages = rest ∧
   t.pantry.lanes[n].assembly = some { seq := seq.toNat, since := s.tick, parts := [(part.toNat, body.take 160)]
     } ∧
   RegsBut [] s t) ∧
  (∀ (n : Fin 8) (seq result : Byte) (tail : List Byte) (rest : List (List Byte)) (s : State), s.noneDue →
   s.taskRuns 14 (taskInstall n) = true → s.proposalsOpen = true →
   s.tamid[n].messages = ([0xC2, seq, result] ++ tail) :: rest →
   s.pantry.lanes[n].awaiting.isSome = true → seq.toNat = s.fld pantryBase (PL_DERIVE_PROP_SEQ_TX.ix n.val) →
   ∃ t : State, exec (.ackReceived n) s = .next t ∧ t.tamid[n].messages = rest ∧
   t.pantry.lanes[n].awaiting = none ∧ RegsBut [] s t ∧
   (result = 0 → t.pantry.lanes[n].installTick = some s.tick ∧
     t.pantry.lanes[n].installS = s.pantry.lanes[n].samples ∧ t.pantry.lanes[n].judge = some {
     proposal := some seq.toNat, before := s.pantry.lanes[n].sent.1, window := s.pantry.lanes[n].sent.2,
     start := s.pantry.lanes[n].samples, after := 0 }) ∧
   (result ≠ 0 → t.pantry.lanes[n].installTick = s.pantry.lanes[n].installTick ∧
     t.pantry.lanes[n].judge = s.pantry.lanes[n].judge)) ∧
  (∀ (n : Fin 8) (seq : Byte) (tail : List Byte) (rest : List (List Byte)) (s : State), s.noneDue →
   s.taskRuns 14 (taskInstall n) = true → s.proposalsOpen = true → s.tamid[n].messages = ([0xC3, seq] ++ tail) :: rest →
   s.pantry.lanes[n].pdLast = some seq.toNat → s.pdReady n = false → ∃ t : State,
   exec (.revertReceived n) s = .next t ∧ t.tamid[n].messages = rest ∧
   t.fld pantryBase (PL_STATUS_PD_REVERTS.ix n.val) = satNat PL_STATUS_PD_REVERTS.width (s.fld pantryBase
     (PL_STATUS_PD_REVERTS.ix n.val) + 1) ∧
   t.pantry.lanes[n].pdLast = none ∧
   t.pantry.lanes[n].pdDue = some { seq := seq.toNat, proposal := none, step := none } ∧
   RegsBut [pantryBase + (PL_STATUS_PD_REVERTS.ix n.val).off] s t) ∧
  (∀ (n : Fin 8) (a : Assembly) (s : State), s.noneDue → s.pantry.lanes[n].assembly = some a →
   s.flag pantryBase PANTRY_CTRL_PD_TAMID = true → s.fuse.safe = false → s.tamidState n ≠ 0 →
   ∃ t : State, exec (.proposalAssemblyTimeout n) s = .next t ∧
   t.pantry.lanes[n].assembly = none ∧ t.tamid[n].own = s.tamid[n].own ++ [[0xC2, BitVec.ofNat 8 a.seq, 2]])

/-- Taps, presets, precoding, HT_EN, squelch, sleep and patterns: the state of Table 8-2 that follows. A FIR_APPLY
that training, a request of the same cycle or an invalid target turns away is counted, as is one in the cycle of a
preset. HT_EN written 1 anew drops a finished training (log 127). A leg current outside 75 to 125 % of nominal in LIVE
raises TX_OUTPUT. -/
def Obligations.HostTransmitter : Prop :=
  (∀ (m : Fin 16) (training : Bool) (s : State), s.noneDue → s.trainState m ≠ 1 → training = false →
   tapsValid (s.hostTaps m HT_FIR_TARGET) = true → ∃ t : State, exec (.htFirApply m training) s = .next t ∧
   (∀ k : Fin 5, t.fld (hostBase m) (HT_FIR_CUR.ix k.val) = s.fld (hostBase m) (HT_FIR_TARGET.ix k.val)) ∧
   t.fld (hostBase m) HT_STATUS_FIR_REJECT = s.fld (hostBase m) HT_STATUS_FIR_REJECT) ∧
  (∀ (m : Fin 16) (training : Bool) (s : State), s.noneDue →
   (s.trainState m = 1 ∨ training = true ∨ tapsValid (s.hostTaps m HT_FIR_TARGET) = false) → ∃ t : State,
   exec (.htFirApply m training) s = .next t ∧
   t.fld (hostBase m) HT_STATUS_FIR_REJECT = satNat HT_STATUS_FIR_REJECT.width (s.fld (hostBase m)
     HT_STATUS_FIR_REJECT + 1) ∧
   RegsBut [hostBase m + HT_STATUS_FIR_REJECT.off] s t) ∧
  (∀ (m : Fin 16) (preset : BitVec 3) (firApply : Bool) (p q r : Int) (s : State), s.noneDue →
   presetTaps preset.toNat = some (p, q, r) → s.trainState m ≠ 1 → firApply = false → ∃ t : State,
   exec (.presetApply m preset firApply) s = .next t ∧ t.fld (hostBase m) HT_CTRL_PRESET = preset.toNat ∧
   t.hostTaps m HT_FIR_CUR = [0, p, q, r, 0] ∧ t.hostTaps m HT_FIR_TARGET = [0, p, q, r, 0] ∧
   t.fld (hostBase m) HT_STATUS_FIR_REJECT = s.fld (hostBase m) HT_STATUS_FIR_REJECT) ∧
  (∀ (m : Fin 16) (preset : BitVec 3) (firApply : Bool) (s : State), s.noneDue → presetTaps preset.toNat = none →
   firApply = false → ∃ t : State, exec (.presetApply m preset firApply) s = .next t ∧
   t.fld (hostBase m) HT_CTRL_PRESET = preset.toNat ∧ RegsBut [hostBase m + HT_CTRL_PRESET.off] s t) ∧
  (∀ (m : Fin 16) (preset : BitVec 3) (firApply : Bool) (p q r : Int) (s : State), s.noneDue →
   presetTaps preset.toNat = some (p, q, r) → s.trainState m ≠ 1 → firApply = true → ∃ t : State,
   exec (.presetApply m preset firApply) s = .next t ∧ t.hostTaps m HT_FIR_CUR = [0, p, q, r, 0] ∧
   t.fld (hostBase m) HT_STATUS_FIR_REJECT = satNat HT_STATUS_FIR_REJECT.width (s.fld (hostBase m)
     HT_STATUS_FIR_REJECT + 1)) ∧
  (∀ (m : Fin 16) (on : Bool) (s : State), s.noneDue → s.flag (hostBase m) HT_CTRL_TX_PRECODE ≠ on → ∃ t : State,
   exec (.hostTxPrecodeWrite m on) s = .next t ∧ t.flag (hostBase m) HT_CTRL_TX_PRECODE = on ∧
   t.host[m].precoderP = 0 ∧ RegsBut [hostBase m + HT_CTRL_TX_PRECODE.off] s t) ∧
  (∀ (m : Fin 16) (on : Bool) (s : State), s.noneDue → s.flag (hostBase m) HR_CTRL_RX_PRECODE ≠ on → ∃ u : State,
   exec (.hostRxPrecodeWrite m on) s = .next u.react ∧ u.flag (hostBase m) HR_CTRL_RX_PRECODE = on ∧
   u.flag (hostBase m) HR_KP4_STATUS_CW_LOCK = false ∧ u.host[m].hr.run = 0) ∧
  (∀ (m : Fin 16) (s : State), s.noneDue → s.hostUsed m = true → s.hostLoop m = 0 →
   s.flag (hostBase m) HT_CTRL_HT_SLEEP = false → s.domOn (domHostTx m) = true → s.synLocked (hostSyn m) = true →
   s.fuse.safe = false → s.deepHolds (domHostTx m) = false → s.htState m = 0 →
   s.fld (hostBase m) HT_STATUS_SQ_CAUSE = 0 → s.flag (hostBase m) TRAIN_CTRL_TRAIN_MODE = false → ∃ t : State,
   exec (.htEnable m) s = .next t ∧ t.flag (hostBase m) HT_CTRL_HT_EN = true ∧ t.htState m = 3 ∧
   t.host[m].trained = (s.host[m].trained && s.flag (hostBase m) HT_CTRL_HT_EN) ∧ t.host[m].falling = false ∧
   t.host[m].precoderP = 0) ∧
  (∀ (m : Fin 16) (s : State), s.noneDue →
   (s.fld powerBase (DOM_STATE.ix (domHostTx m)) = 3 ∨ s.synLocked (hostSyn m) = false ∨ s.fuse.safe = true) →
   ∃ t : State, exec (.htEnable m) s = .next t ∧ t.flag (hostBase m) HT_CTRL_HT_EN = true ∧
   t.htState m = s.htState m ∧
   t.host[m].trained = (s.host[m].trained && s.flag (hostBase m) HT_CTRL_HT_EN)) ∧
  (∀ (m : Fin 16) (s : State), s.noneDue → s.fuse.safe = false → s.htState m ≠ 0 → ∃ t : State,
   exec (.htDisable m) s = .next t ∧ t.flag (hostBase m) HT_CTRL_HT_EN = false ∧ t.htState m = 1 ∧
   t.host[m].falling = true) ∧
  (∀ (m : Fin 16) (s : State), s.noneDue → s.fuse.safe = true → ∃ t : State, exec (.htDisable m) s = .next t ∧
   t.flag (hostBase m) HT_CTRL_HT_EN = false ∧ t.htState m = s.htState m ∧ t.host[m].falling = s.host[m].falling) ∧
  (∀ (m : Fin 16) (s : State), s.noneDue → s.host[m].falling = true → s.htState m = 1 → ∃ t : State,
   exec (.htOffReached m) s = .next t ∧ t.htState m = 0 ∧ t.host[m].falling = false ∧
   RegsBut [hostBase m + HT_STATUS_HT_STATE.off] s t) ∧
  (∀ (m : Fin 16) (on : Bool) (s : State), s.noneDue → on = true → (s.htState m = 2 ∨ s.htState m = 3) →
   ∃ t : State, exec (.htSquelchWrite m on) s = .next t ∧ t.flag (hostBase m) HT_CTRL_HT_SQUELCH = true ∧
   t.htState m = 1 ∧ t.trainState m = (if s.trainState m = 1 then 4 else s.trainState m)) ∧
  (∀ (m : Fin 16) (on : Bool) (s : State), s.noneDue → on = false → s.fld (hostBase m) HT_STATUS_SQ_CAUSE = 1 →
   s.htState m = 1 → s.flag (hostBase m) HT_CTRL_HT_EN = true → s.htAsleep m = false →
   s.host[m].falling = false → s.deepHolds (domHostTx m) = false →
   s.flag (hostBase m) TRAIN_CTRL_TRAIN_MODE = false → ∃ t : State, exec (.htSquelchWrite m on) s = .next t ∧
   t.flag (hostBase m) HT_CTRL_HT_SQUELCH = false ∧ t.fld (hostBase m) HT_STATUS_SQ_CAUSE = 0 ∧ t.htState m = 3) ∧
  (∀ (m : Fin 16) (percent : Rat) (s : State), s.noneDue → s.htState m = 3 → (percent < 75 ∨ 125 < percent) →
   ∃ u : State, exec (.txOutput m percent) s = .next u.react ∧ u = s.raiseOpen (hostSrc m 0x45) ∧
   ((∀ v : Nat, s.takes (hostSrc m 0x45) v) → u.isActive (hostSrc m 0x45))) ∧
  (∀ (m : Fin 16) (percent : Rat) (s : State), s.noneDue → 75 ≤ percent → percent ≤ 125 →
   exec (.txOutput m percent) s = .next s) ∧
  (∀ (m : Fin 16) (on : Bool) (s : State), s.noneDue → on = true → s.hostLoop m = 0 → s.htState m ≠ 0 →
   ∃ t : State, exec (.htSleepWrite m on) s = .next t ∧ t.flag (hostBase m) HT_CTRL_HT_SLEEP = true ∧
   t.htState m = 1 ∧ t.host[m].falling = true) ∧
  (∀ (m : Fin 16) (on : Bool) (s : State), s.noneDue → s.hostLoop m ≠ 0 → ∃ t : State,
   exec (.htSleepWrite m on) s = .next t ∧ t.flag (hostBase m) HT_CTRL_HT_SLEEP = on ∧
   RegsBut [hostBase m + HT_CTRL_HT_SLEEP.off] s t) ∧
  (∀ (m : Fin 16) (sel : BitVec 3) (s : State), s.noneDue →
   (patSel (s.fld (hostBase m) HT_PAT_HPAT_SEL) = 0 ∨ patSel sel.toNat ≠ 0) → ∃ t : State,
   exec (.hostPatSelWrite m sel) s = .next t ∧ t.fld (hostBase m) HT_PAT_HPAT_SEL = sel.toNat ∧
   RegsBut [hostBase m + HT_PAT_HPAT_SEL.off] s t)

/-- HR_EN, REACQ, CTLE, the steps of Table 8-4 and their time-outs, signal and its loss, sleep and the checker: the
state of Table 8-3 that follows. The CTLE search keeps the setting of the lowest residual, the lower one on ties; the
update holds the recovered frequency within 200 ppm, whether or not the room runs, and takes the coefficients that the
room's block LMS leaves, each with its task (log 130); 64 updates in a row with more than one detector error in 100
symbols lose the lock; the quality figures are computed and judged. -/
def Obligations.HostReceiver : Prop :=
  (∀ (m : Fin 16) (on : Bool) (s : State), s.noneDue → on = false → s.hostLocked m = false → ∃ u : State,
   exec (.hrEnable m on) s = .next u.react ∧ u.flag (hostBase m) HR_CTRL_HR_EN = false ∧ u.hrState m = 0 ∧
   u.flag (hostBase m) HR_STATUS_LOS = false ∧ u.host[m].retained = none ∧ u.host[m].signal = false ∧
   hostSrc m 0x40 ∉ u.fuse.rails) ∧
  (∀ (m : Fin 16) (on : Bool) (s : State), s.noneDue → on = true → s.hostLocked m = false → s.hostUsed m = true →
   s.flag (hostBase m) HR_CTRL_HR_SLEEP = false → s.domOn (domHostRx m) = true → s.synLocked (hostSyn m) = true →
   s.deepHolds (domHostRx m) = false → s.host[m].signal = false → ∃ t : State,
   exec (.hrEnable m on) s = .next t ∧ t.flag (hostBase m) HR_CTRL_HR_EN = true ∧ t.hrState m = 1 ∧
   t.host[m].trigger = s.tick ∧ t.host[m].acqStep = 0 ∧ t.host[m].retained = none) ∧
  (∀ (m : Fin 16) (s : State), s.noneDue → s.hrState m ≠ 0 → s.hostUsed m = true →
   s.flag (hostBase m) HR_CTRL_HR_EN = true → s.hrAsleep m = false → s.domOn (domHostRx m) = true →
   s.synLocked (hostSyn m) = true → s.deepHolds (domHostRx m) = false → s.host[m].signal = false → ∃ u : State,
   exec (.hostReacq m) s = .next u.react ∧ u.hostLocked m = false ∧ u.hrState m = 1 ∧ u.host[m].trigger = s.tick) ∧
  (∀ (m : Fin 16) (man : Bool) (set : BitVec 3) (s : State), s.noneDue → s.hostLocked m = false → ∃ t : State,
   exec (.hostCtleWrite m man set) s = .next t ∧ t.flag (hostBase m) HR_CTRL_CTLE_MAN = man ∧
   t.fld (hostBase m) HR_CTRL_CTLE_SET = set.toNat) ∧
  (∀ (m : Fin 16) (man : Bool) (set : BitVec 3) (s : State), s.noneDue → s.hostLocked m = true →
   s.flag (hostBase m) HR_CTRL_CTLE_MAN ≠ man → s.hostUsed m = true → s.flag (hostBase m) HR_CTRL_HR_EN = true →
   s.hrAsleep m = false → s.domOn (domHostRx m) = true → ∃ u : State,
   exec (.hostCtleWrite m man set) s = .next u.react ∧ u.hostLocked m = false ∧
   u.flag (hostBase m) HR_CTRL_CTLE_MAN = man ∧ u.fld (hostBase m) HR_CTRL_CTLE_SET = set.toNat) ∧
  (∀ (m : Fin 16) (r : HostAcqResult) (s : State), s.noneDue → s.flag (hostBase m) HR_STATUS_LOS = false →
   s.host[m].clocksStopped = false → s.hrState m ≠ 6 → s.host[m].acqStep = 3 →
   s.flag (hostBase m) HR_CTRL_CTLE_MAN = true → ∃ t : State, exec (.hostAcqStepDone m r) s = .next t ∧
   t.hrState m = 4 ∧ t.fld (hostBase m) HR_CDR_CTLE_CUR = s.fld (hostBase m) HR_CTRL_CTLE_SET ∧
   t.host[m].acqStep = 5) ∧
  (∀ (m : Fin 16) (r : HostAcqResult) (s : State), s.noneDue → s.flag (hostBase m) HR_STATUS_LOS = false →
   s.host[m].clocksStopped = false → s.hrState m ≠ 6 → s.host[m].acqStep = 3 →
   s.flag (hostBase m) HR_CTRL_CTLE_MAN = false → ∃ t : State, exec (.hostAcqStepDone m r) s = .next t ∧
   t.hrState m = 4 ∧ t.host[m].acqStep = 4 ∧
   t.fld (hostBase m) HR_CDR_CTLE_CUR = s.fld (hostBase m) HR_CDR_CTLE_CUR) ∧
  (∀ (m : Fin 16) (r : HostAcqResult) (s : State), s.noneDue → s.flag (hostBase m) HR_STATUS_LOS = false →
   s.host[m].clocksStopped = false → s.hrState m ≠ 6 → s.host[m].acqStep = 4 → ∃ t : State,
   exec (.hostAcqStepDone m r) s = .next t ∧ t.fld (hostBase m) HR_CDR_CTLE_CUR = bestSetting r.residuals % 2 ^
   HR_CDR_CTLE_CUR.width ∧
   t.host[m].acqStep = 5 ∧ RegsBut [hostBase m + HR_CDR_CTLE_CUR.off] s t) ∧
  (∀ (m : Fin 16) (r : HostAcqResult) (s : State), s.noneDue → s.flag (hostBase m) HR_STATUS_LOS = false →
   s.host[m].clocksStopped = false → (s.hrState m = 6 ∨ s.host[m].acqStep = 5) → s.hostSearchDone m = true →
   ∃ u : State, exec (.hostAcqStepDone m r) s = .next u.react ∧ u.hrState m = 5 ∧ u.hostLocked m = true ∧
   u.fld (hostBase m) HR_STATUS_ACQ_COUNT = satNat HR_STATUS_ACQ_COUNT.width (s.fld (hostBase m)
     HR_STATUS_ACQ_COUNT + 1) ∧
   u.fld (hostBase m) HR_STATUS_LOCK_TIME = satNat 16 (tenMicros (s.tick - s.host[m].trigger)) ∧
   u.host[m].errRun = 0) ∧
  (∀ (m : Fin 16) (s : State), s.noneDue → 3 ≤ s.host[m].acqStep → s.hrState m ≠ 6 →
   s.flag (hostBase m) HR_STATUS_LOS = false → s.host[m].clocksStopped = false → ∃ t : State,
   exec (.hostAcqStepTimeout m) s = .next t ∧ t.hrState m = 3 ∧ t.host[m].acqStep = 3 ∧
   RegsBut [hostBase m + HR_STATUS_HR_STATE.off] s t) ∧
  (∀ (m : Fin 16) (s : State), s.noneDue → s.host[m].signal = true → s.hostLocked m = false → s.hrState m ≠ 0 →
   s.takes (hostSrc m 0x44) s.host[m].highest → ∃ u : State, exec (.hrAcqFail m) s = .next u.react ∧
   u.isActive (hostSrc m 0x44)) ∧
  (∀ (m : Fin 16) (s : State), s.noneDue → s.hrState m = 1 → s.flag (hostBase m) HR_STATUS_LOS = false →
   s.host[m].clocksStopped = false → s.flag (hostBase m) TRAIN_CTRL_TRAIN_MODE = false → ∃ t : State,
   exec (.hrSignalPresent m) s = .next t ∧ t.hrState m = 3 ∧ t.host[m].signal = true ∧ t.host[m].acqStep = 3 ∧
   t.host[m].highest = 3 ∧ RegsBut [hostBase m + HR_STATUS_HR_STATE.off] s t) ∧
  (∀ (m : Fin 16) (s : State), s.noneDue → s.hrState m ≠ 0 → s.flag (hostBase m) HR_STATUS_LOS = false →
   s.takes (hostSrc m 0x40) 0 → ∃ u : State, exec (.hrLos m) s = .next u.react ∧
   u.flag (hostBase m) HR_STATUS_LOS = true ∧ u.hrState m = 1 ∧ u.hostLocked m = false ∧
   u.host[m].signal = false ∧ u.trainState m = (if s.trainState m = 1 then 4 else s.trainState m) ∧
   u.isActive (hostSrc m 0x40)) ∧
  (∀ (m : Fin 16) (within100ms : Bool) (s : State), s.noneDue → s.flag (hostBase m) HR_STATUS_LOS = true →
   s.host[m].clocksStopped = false → within100ms = true →
   s.flag (hostBase m) TRAIN_CTRL_TRAIN_MODE = false → ∃ u : State,
   exec (.hrLosEnd m within100ms) s = .next u.react ∧ u.flag (hostBase m) HR_STATUS_LOS = false ∧
   u.hrState m = 6 ∧ u.host[m].signal = true ∧ hostSrc m 0x40 ∉ u.fuse.rails) ∧
  (∀ (m : Fin 16) (v : HostRxUpdate) (s : State), s.noneDue → 3 ≤ s.hrState m → s.host[m].clocksStopped = false →
   s.hostLocked m = false → (∀ k : Fin 16, s.hostLaneTask m k.val = true) → s.flag (hostBase m) HR_CTRL_FFE_FREEZE = false →
   v.ffe.length ≤ 24 → ∃ t : State, exec (.hostRxUpdate m v) s = .next t ∧
   t.fld (hostBase m) HR_CDR_FREQ_OFFSET = intBits 16 (quantise (max (-200) (min 200 v.freq) * 100)) ∧
   t.host[m].adcOffset = v.offset ∧ t.host[m].adcGain = v.gain ∧ t.host[m].thresholds = v.thresholds ∧
   (∀ k : Fin 24, ∀ x : Int, v.ffe[k.val]? = some x →
     t.fld (hostBase m) (HR_FFE_COEF.ix k.val) = intBits 10 (satInt 10 x)) ∧
   t.fld (hostBase m) HR_DFE_COEF = (if s.flag (hostBase m) HR_CTRL_DFE_EN = true ∧ s.host[m].acqStep ≠ 3
     then intBits 8 (satInt 8 v.dfe) else 0)) ∧
  (∀ (m : Fin 16) (v : HostRxUpdate) (s : State), s.noneDue → 3 ≤ s.hrState m → s.host[m].clocksStopped = false →
   s.roomRuns (hostRoom m) = false → ∃ t : State, exec (.hostRxUpdate m v) s = .next t ∧
   t.fld (hostBase m) HR_CDR_FREQ_OFFSET = intBits 16 (quantise (max (-200) (min 200 v.freq) * 100)) ∧
   RegsBut [hostBase m + HR_CDR_FREQ_OFFSET.off] s t ∧ t.host = s.host) ∧
  (∀ (m : Fin 16) (v : HostRxUpdate) (s : State), s.noneDue → 3 ≤ s.hrState m → s.roomRuns (hostRoom m) = true →
   s.host[m].clocksStopped = false → s.hostLocked m = true → v.symbols < 100 * v.errors → 63 ≤ s.host[m].errRun →
   ∃ u : State, exec (.hostRxUpdate m v) s = .next u.react ∧ u.hostLocked m = false ∧ u.hrState m = 6) ∧
  (∀ (m : Fin 16) (s : State), s.noneDue → s.hostLocked m = true → s.takes (hostSrc m 0x41) 1 → ∃ u : State,
   exec (.hrCdrLimit m) s = .next u.react ∧ u.hostLocked m = false ∧ u.hrState m = 6 ∧
   u.isActive (hostSrc m 0x41)) ∧
  (∀ (m : Fin 16) (s : State), s.noneDue → s.hrState m = 6 → s.flag (hostBase m) HR_STATUS_LOS = false →
   s.hostUsed m = true → s.flag (hostBase m) HR_CTRL_HR_EN = true → s.hrAsleep m = false →
   s.domOn (domHostRx m) = true → s.synLocked (hostSyn m) = true → s.deepHolds (domHostRx m) = false →
   s.host[m].signal = true → s.hostLocked m = false → s.flag (hostBase m) TRAIN_CTRL_TRAIN_MODE = false →
   ∃ t : State, exec (.hostRelockTimeout m) s = .next t ∧ t.hrState m = 3 ∧ t.host[m].acqStep = 3 ∧
   t.host[m].trigger = s.tick) ∧
  (∀ (m : Fin 16) (q : HostQuality) (s : State), s.noneDue → s.hostLocked m = true → s.hostLaneTask m 9 = true →
   s.hostLaneTask m 10 = true → 25 * s.fld (hostBase m) HR_CTRL_SNR_WARN + 50 ≤ hostSnr q.symbols q.snrErr →
   ∃ t : State, exec (.hrQualPublish m q) s = .next t ∧ t.fld (hostBase m) HR_QUAL_SNR = hostSnr q.symbols q.snrErr ∧
   t.fld (hostBase m) HR_QUAL_EYE_W = hostEye q.scan q.eyeErr ∧ t.flag (hostBase m) HR_STATUS_SNR_LOW = false ∧
   t.host[m].snrHeld = false) ∧
  (∀ (m : Fin 16) (q : HostQuality) (s : State), s.noneDue → s.hostLocked m = true → s.hostLaneTask m 9 = true →
   s.host[m].snrHeld = false → hostSnr q.symbols q.snrErr < 25 * s.fld (hostBase m) HR_CTRL_SNR_WARN →
   s.takes (hostSrc m 0x42) (hostSnr q.symbols q.snrErr) → ∃ u : State,
   exec (.hrQualPublish m q) s = .next u.react ∧ u.fld (hostBase m) HR_QUAL_SNR = hostSnr q.symbols q.snrErr ∧
   u.flag (hostBase m) HR_STATUS_SNR_LOW = true ∧ u.host[m].snrHeld = true ∧ u.isActive (hostSrc m 0x42)) ∧
  (∀ (m : Fin 16) (on reacq : Bool) (s : State), s.noneDue → on = true → s.hostLoop m = 0 → ∃ u : State,
   exec (.hrSleepWrite m on reacq) s = .next u.react ∧ u.flag (hostBase m) HR_CTRL_HR_SLEEP = true ∧
   u.hrState m = 0 ∧ u.hostLocked m = false ∧
   u.host[m].retained = (if s.hostLocked m then some s.tick else s.host[m].retained)) ∧
  (∀ (m : Fin 16) (sel : BitVec 3) (s : State), s.noneDue →
   patSel (s.fld (hostBase m) HR_PAT_CTRL_CHK_SEL) = patSel sel.toNat → ∃ t : State,
   exec (.hostChkSelWrite m sel) s = .next t ∧ t.fld (hostBase m) HR_PAT_CTRL_CHK_SEL = sel.toNat ∧
   RegsBut [hostBase m + HR_PAT_CTRL_CHK_SEL.off] s t) ∧
  (∀ (m : Fin 16) (sel : BitVec 3) (s : State), s.noneDue →
   patSel (s.fld (hostBase m) HR_PAT_CTRL_CHK_SEL) ≠ patSel sel.toNat → s.hostLocked m = true → ∃ u : State,
   exec (.hostChkSelWrite m sel) s = .next u.react ∧ u.fld (hostBase m) HR_PAT_CTRL_CHK_SEL = sel.toNat ∧
   u.flag (hostBase m) HR_PAT_STATUS_CHK_LOCK = false ∧ u.hostLocked m = false ∧ u.hrState m = 6)

/-- A training starts; requests of the far end are applied and answered, a preset with its entry of Table 8-1 and the
outer taps 0 (log 132); the requester asks for precoding and for taps, one at a time; and training ends or fails. -/
def Obligations.LinkTraining : Prop :=
  (∀ (m : Fin 16) (s : State), s.noneDue → s.flag (hostBase m) TRAIN_CTRL_TRAIN_MODE = true → 1 ≤ s.htState m →
   s.host[m].falling = false → s.fld (hostBase m) HT_STATUS_SQ_CAUSE = 0 → ∃ u : State,
   exec (.trainStart m) s = .next u.react ∧ u.trainState m = 1 ∧ u.htState m = 2 ∧ u.hostLocked m = false ∧
   u.host[m].reqCount = 0 ∧ u.host[m].reqReady = false ∧
   (2 ≤ s.hrState m → s.flag (hostBase m) HR_STATUS_LOS = false → u.hrState m = 2)) ∧
  (∀ (m : Fin 16) (req : TrainRequest) (tap : Int) (up : Bool) (s : State), s.noneDue → s.trainState m = 1 →
   req = .step tap up → ∃ t : State, exec (.trainRequestReceived m req) s = .next t ∧
   t.fld (hostBase m) TRAIN_STATUS_REQ_RCVD = satNat TRAIN_STATUS_REQ_RCVD.width (s.fld (hostBase m)
     TRAIN_STATUS_REQ_RCVD + 1) ∧
   t.host[m].answer = (answerRequest (s.hostTaps m HT_FIR_CUR) req).1 ∧
   t.hostTaps m HT_FIR_CUR = (answerRequest (s.hostTaps m HT_FIR_CUR) req).2) ∧
  (∀ (m : Fin 16) (req : TrainRequest) (k : Nat) (p q r : Int) (s : State), s.noneDue → s.trainState m = 1 →
   req = .preset k → presetTaps k = some (p, q, r) → ∃ t : State, exec (.trainRequestReceived m req) s = .next t ∧
   t.host[m].answer = .updated ∧ t.hostTaps m HT_FIR_CUR = [0, p, q, r, 0] ∧
   t.hostTaps m HT_FIR_TARGET = [0, p, q, r, 0]) ∧
  (∀ (m : Fin 16) (req : TrainRequest) (k : Nat) (s : State), s.noneDue → s.trainState m = 1 → req = .preset k →
   presetTaps k = none → ∃ t : State, exec (.trainRequestReceived m req) s = .next t ∧
   t.host[m].answer = .notSupported ∧ t.hostTaps m HT_FIR_CUR = s.hostTaps m HT_FIR_CUR) ∧
  (∀ (m : Fin 16) (req : TrainRequest) (on : Bool) (s : State), s.noneDue → s.trainState m = 1 →
   req = .precoding on → ∃ t : State, exec (.trainRequestReceived m req) s = .next t ∧
   t.host[m].answer = .updated ∧ t.flag (hostBase m) HT_CTRL_TX_PRECODE = on) ∧
  (∀ (m : Fin 16) (rise : Rat) (s : State), s.noneDue → s.trainState m = 1 → s.host[m].reqReady = false →
   s.hostLaneTask m 12 = true → s.host[m].reqCount < 256 →
   s.flag (hostBase m) TRAIN_CTRL_ASK_PRECODE = true → s.host[m].reqAsked = false → ∃ t : State,
   exec (.trainRequesterStep m rise) s = .next t ∧
   t.fld (hostBase m) TRAIN_STATUS_REQ_SENT = satNat TRAIN_STATUS_REQ_SENT.width (s.fld (hostBase m)
     TRAIN_STATUS_REQ_SENT + 1) ∧
   t.host[m].reqCount = s.host[m].reqCount + 1 ∧ RegsBut [hostBase m + TRAIN_STATUS_REQ_SENT.off] s t ∧
   t.host[m].reqAsked = true) ∧
  (∀ (m : Fin 16) (rise : Rat) (s : State), s.noneDue → s.trainState m = 1 → s.host[m].reqReady = false →
   s.hostLaneTask m 12 = true → s.host[m].reqCount < 256 →
   (s.flag (hostBase m) TRAIN_CTRL_ASK_PRECODE = false ∨ s.host[m].reqAsked = true) →
   s.host[m].reqJudging = false → ∃ t : State, exec (.trainRequesterStep m rise) s = .next t ∧
   t.fld (hostBase m) TRAIN_STATUS_REQ_SENT = satNat TRAIN_STATUS_REQ_SENT.width (s.fld (hostBase m)
     TRAIN_STATUS_REQ_SENT + 1) ∧
   t.host[m].reqCount = s.host[m].reqCount + 1 ∧ RegsBut [hostBase m + TRAIN_STATUS_REQ_SENT.off] s t ∧
   t.host[m].reqJudging = true) ∧
  (∀ (m : Fin 16) (rise : Rat) (s : State), s.noneDue → s.trainState m = 1 → s.host[m].reqReady = false →
   s.hostLaneTask m 12 = true → s.host[m].reqCount < 256 →
   (s.flag (hostBase m) TRAIN_CTRL_ASK_PRECODE = false ∨ s.host[m].reqAsked = true) →
   s.host[m].reqJudging = true → 1 / 50 ≤ rise → ∃ t : State, exec (.trainRequesterStep m rise) s = .next t ∧
   t.fld (hostBase m) TRAIN_STATUS_REQ_SENT = satNat TRAIN_STATUS_REQ_SENT.width (s.fld (hostBase m)
     TRAIN_STATUS_REQ_SENT + 1) ∧
   t.host[m].reqCount = s.host[m].reqCount + 1 ∧ RegsBut [hostBase m + TRAIN_STATUS_REQ_SENT.off] s t ∧
   t.host[m].reqKept = true ∧ t.host[m].reqJudging = true ∧ t.host[m].reqTap = s.host[m].reqTap) ∧
  (∀ (m : Fin 16) (rise : Rat) (s : State), s.noneDue → s.trainState m = 1 → s.host[m].reqReady = false →
   s.hostLaneTask m 12 = true → s.host[m].reqCount < 256 →
   (s.flag (hostBase m) TRAIN_CTRL_ASK_PRECODE = false ∨ s.host[m].reqAsked = true) →
   s.host[m].reqJudging = true → rise < 1 / 50 → ∃ t : State, exec (.trainRequesterStep m rise) s = .next t ∧
   t.fld (hostBase m) TRAIN_STATUS_REQ_SENT = satNat TRAIN_STATUS_REQ_SENT.width (s.fld (hostBase m)
     TRAIN_STATUS_REQ_SENT + 1) ∧
   t.host[m].reqCount = s.host[m].reqCount + 1 ∧ RegsBut [hostBase m + TRAIN_STATUS_REQ_SENT.off] s t ∧
   t.host[m].reqJudging = false ∧ t.host[m].reqTap = (if 2 ≤ s.host[m].reqTap then 0 else s.host[m].reqTap + 1) ∧
   t.host[m].reqReady = (decide (2 ≤ s.host[m].reqTap) && !s.host[m].reqKept)) ∧
  (∀ (m : Fin 16) (rise : Rat) (s : State), s.noneDue → s.trainState m = 1 → s.host[m].reqReady = false →
   s.hostLaneTask m 12 = true → 256 ≤ s.host[m].reqCount → ∃ t : State,
   exec (.trainRequesterStep m rise) s = .next t ∧ t.host[m].reqReady = true ∧ RegsBut [] s t) ∧
  (∀ (m : Fin 16) (s : State), s.noneDue → s.trainState m = 1 → s.host[m].reqReady = true → s.htState m = 2 →
   s.hrState m = 2 → ∃ t : State, exec (.trainDone m) s = .next t ∧ t.trainState m = 2 ∧ t.htState m = 3 ∧
   t.hrState m = 3 ∧ t.host[m].acqStep = 3 ∧ t.host[m].trained = true) ∧
  (∀ (m : Fin 16) (s : State), s.noneDue → s.trainState m = 1 → s.htState m = 2 → s.hrState m = 2 → ∃ u : State,
   exec (.trainFail m) s = .next u.react ∧ u.trainState m = 3 ∧ u.htState m = 3 ∧ u.hrState m = 3 ∧
   u.host[m].acqStep = 3)

/-- A linger expires, the steps of an entry, an abandoned entry, an ACCESS wake, the end of an exit sequence, its
time-out, and LINE_RX_SLEEP: the state and step of the domain and its counts. -/
def Obligations.DomainEntryAndWake : Prop :=
  (∀ (d : Fin 72) (due : Nat) (s : State), s.noneDue → (d.val, due) ∈ s.power.lingering → due ≤ s.tick →
   s.heldVotes d.val = 0 → s.domOn d.val = true → ∃ t : State, exec (.lingerExpiry d) s = .next t ∧
   t.fld powerBase (DOM_STATE.ix d.val) = 2 ∧ t.fld powerBase (DOM_STEP.ix d.val) = 0 ∧
   t.power.lingering = s.power.lingering.filter (fun e => e.1 != d.val)) ∧
  (∀ (d : Fin 72) (s : State), s.noneDue → s.fld powerBase (DOM_STATE.ix d.val) = 2 →
   s.power.undoing.contains d.val = false → s.fld powerBase (DOM_STEP.ix d.val) = 0 → s.heldVotes d.val = 0 →
   s.power.wakeAfter.contains d.val = false → isLineDom d.val = false → isHostDom d.val = false → ∃ t : State,
   exec (.domainEntryStep d) s = .next t ∧ t.fld powerBase (DOM_STATE.ix d.val) = 2 ∧
   t.fld powerBase (DOM_STEP.ix d.val) = 1) ∧
  (∀ (d : Fin 72) (s : State), s.noneDue → s.fld powerBase (DOM_STATE.ix d.val) = 2 →
   s.power.undoing.contains d.val = false → s.fld powerBase (DOM_STEP.ix d.val) = 0 → s.heldVotes d.val ≠ 0 →
   s.inDeep = false → ∃ t : State, exec (.domainEntryStep d) s = .next t ∧
   t.fld powerBase (DOM_STATE.ix d.val) = 1 ∧ t.fld powerBase (DOM_STEP.ix d.val) = 0 ∧
   t.fld powerBase (DOM_ABANDONED.ix d.val) = satNat (DOM_ABANDONED.ix d.val).width (s.fld powerBase
     (DOM_ABANDONED.ix d.val) + 1) ∧
   t.fld powerBase PWR_STATE_ABANDONED = satNat PWR_STATE_ABANDONED.width (s.fld powerBase PWR_STATE_ABANDONED +
     1)) ∧
  (∀ (d : Fin 72) (k : Nat) (s : State), s.noneDue → s.fld powerBase (DOM_STATE.ix d.val) = 2 →
   s.power.undoing.contains d.val = false → s.fld powerBase (DOM_STEP.ix d.val) = k → 1 ≤ k → k ≤ 2 →
   s.power.wakeAfter.contains d.val = false → ∃ u : State, exec (.domainEntryStep d) s = .next u.react ∧
   u.fld powerBase (DOM_STATE.ix d.val) = 2 ∧ u.fld powerBase (DOM_STEP.ix d.val) = k + 1) ∧
  (∀ (d : Fin 72) (k : Nat) (s : State), s.noneDue → s.fld powerBase (DOM_STATE.ix d.val) = 2 →
   s.power.undoing.contains d.val = false → s.fld powerBase (DOM_STEP.ix d.val) = k → 2 ≤ k → k ≤ 3 →
   s.power.wakeAfter.contains d.val = true → ∃ t : State, exec (.domainEntryStep d) s = .next t ∧
   t.power.undoing = s.power.undoing ++ [d.val] ∧ t.power.wakeAfter = s.power.wakeAfter.filter (· != d.val) ∧
   RegsBut [] s t) ∧
  (∀ (d : Fin 72) (s : State), s.noneDue → s.fld powerBase (DOM_STATE.ix d.val) = 2 →
   s.power.undoing.contains d.val = false → s.fld powerBase (DOM_STEP.ix d.val) = 4 →
   s.power.wakeAfter.contains d.val = true → ∃ t : State, exec (.domainEntryStep d) s = .next t ∧
   t.fld powerBase (DOM_STATE.ix d.val) = 4 ∧ t.fld powerBase (DOM_STEP.ix d.val) = 2 ∧
   t.fld powerBase (DOM_WAKES.ix d.val) = (s.fld powerBase (DOM_WAKES.ix d.val) + 1) % 2 ^ (DOM_WAKES.ix
     d.val).width) ∧
  (∀ (d : Fin 72) (s : State), s.noneDue → s.fld powerBase (DOM_STATE.ix d.val) = 2 →
   s.power.undoing.contains d.val = false → s.fld powerBase (DOM_STEP.ix d.val) = 5 →
   s.power.wakeAfter.contains d.val = false →
   (s.fld powerBase PWR_STATE_STATE = 1 ∨ (s.fld powerBase PWR_STATE_STATE = 0 ∧
   s.power.next = none) ∨ s.fld powerBase PWR_STATE_STATE = 3) → ∃ t : State,
   exec (.domainEntryStep d) s = .next t ∧ t.fld powerBase (DOM_STATE.ix d.val) = 3 ∧
   t.fld powerBase (DOM_STEP.ix d.val) = 0) ∧
  (∀ (d : Fin 72) (s : State), s.noneDue → domVotable d.val = true → s.fld powerBase (DOM_STATE.ix d.val) = 3 →
   s.fld powerBase PWR_STATE_STATE ≠ 2 → ∃ t : State, exec (.domainWakeRequest d) s = .next t ∧
   t.fld powerBase (DOM_STATE.ix d.val) = 4 ∧ t.fld powerBase (DOM_STEP.ix d.val) = 1 ∧
   t.flag powerBase ((voteBit voteAccess).ix d.val) = true ∧
   t.fld powerBase (DOM_WAKES.ix d.val) = (s.fld powerBase (DOM_WAKES.ix d.val) + 1) % 2 ^ (DOM_WAKES.ix
     d.val).width) ∧
  (∀ (d : Fin 72) (s : State), s.noneDue → s.power.undoing.contains d.val = true →
   s.fld powerBase (DOM_STATE.ix d.val) = 2 → s.heldVotes d.val ≠ 0 →
   s.flag powerBase ((voteBit voteAccess).ix d.val) = false → s.power.stalled = [] → s.link.inbox = [] →
   s.inDeep = false → s.fld powerBase PWR_STATE_STATE = 0 → s.power.next = none → ∃ u : State,
   exec (.domainUndoDone d) s = .next u.react ∧ u.power.undoing = s.power.undoing.filter (· != d.val) ∧
   u.fld powerBase (DOM_STATE.ix d.val) = 1 ∧
   u.fld powerBase (DOM_ABANDONED.ix d.val) = satNat (DOM_ABANDONED.ix d.val).width (s.fld powerBase
     (DOM_ABANDONED.ix d.val) + 1)) ∧
  (∀ (d : Fin 72) (lostBanks : List (BitVec 9)) (regLost : Bool) (s : State), s.noneDue →
   s.fld powerBase (DOM_STATE.ix d.val) = 4 → s.heldVotes d.val ≠ 0 → s.inDeep = false →
   s.fld powerBase PWR_STATE_STATE = 0 → s.power.next = none →
   s.flag powerBase ((voteBit voteAccess).ix d.val) = false → s.power.stalled = [] → s.link.inbox = [] →
   lostBanks = [] → regLost = false → ∃ u : State, exec (.domainReady d lostBanks regLost) s = .next u.react ∧
   u.fld powerBase (DOM_STATE.ix d.val) = 1 ∧ u.fld powerBase (DOM_STEP.ix d.val) = 0) ∧
  (∀ (d : Fin 72) (s : State), s.noneDue → s.fld powerBase (DOM_STATE.ix d.val) = 4 → s.takes 0x5004 d.val →
   s.power.stalled = [] → s.link.inbox = [] → ∃ u : State, exec (.wakeTimeout d) s = .next u.react ∧
   u.fld powerBase (DOM_STATE.ix d.val) = 4 ∧ u.isActive 0x5004) ∧
  (∀ (mask : Byte) (s : State), s.noneDue → ∃ t : State, exec (.lineRxSleepWrite mask) s = .next t ∧
   t.fld powerBase LINE_RX_SLEEP_SLEEP = mask.toNat ∧ ∀ n : Fin 8, s.lineLoop n = 0 →
   t.flag powerBase ((voteBit (voteLine n)).ix (domLineRx n)) = !mask.getLsbD n.val)

/-- DOZE ends; DEEP is entered step by step and left; its wake timer starts the exit once its seconds have passed on
the AO count (log 153); the AO regulator follows the AO sensor. -/
def Obligations.DeviceStates : Prop :=
  (∀ s : State, s.noneDue → s.fld powerBase PWR_STATE_STATE = 1 → ∃ u : State, exec .dozeExit s = .next u.react ∧
   u.fld powerBase PWR_STATE_STATE = 0) ∧
  (∀ s : State, s.noneDue → s.power.deepExit = false → s.power.deepStep = 2 → ∃ u : State,
   exec .deepEntryStep s = .next u.react ∧ u.power.deepStep = 3 ∧ (∀ m : Fin 16, u.htState m = 0 ∧
   u.host[m].falling = false) ∧ ∀ n : Fin 8, u.txState n = 0) ∧
  (∀ s : State, s.noneDue → s.power.deepExit = false → s.power.deepStep = 3 → ∃ t : State,
   exec .deepEntryStep s = .next t ∧ t.power.deepStep = 4 ∧
   t.fld powerBase AO_STATUS_I_EST = iEstField (interpolate retentionTable (codeCelsius s.hottestCode + 5)) ∧
   t.flag powerBase AO_STATUS_REG_LP = (decide (interpolate retentionTable (codeCelsius s.hottestCode + 5) ≤ 36)
     && s.flag powerBase DEEP_CTRL_LP_ALLOW) ∧
   ∀ d : Fin 72, domVotable d.val = true → s.domOn d.val = true → t.fld powerBase (DOM_STATE.ix d.val) = 2 ∧
   t.fld powerBase (DOM_STEP.ix d.val) = 0) ∧
  (∀ s : State, s.noneDue → s.power.deepExit = false → s.power.deepStep = 4 →
   (∀ n : Fin 8, s.domOn (domLineRx n) = false) → ∃ u : State, exec .deepEntryStep s = .next u.react ∧
   u.power.deepStep = 5 ∧ ∀ d : Fin 72, domVotable d.val = true → u.fld powerBase (DOM_STATE.ix d.val) = 3) ∧
  (∀ s : State, s.noneDue → s.power.deepExit = false → s.power.deepStep = 5 → ∃ t : State,
   exec .deepEntryStep s = .next t ∧ t.clock.running = false ∧ t.power.deepStep = 0 ∧
   t.flag powerBase PWR_STATE_IN_TRANSITION = false ∧ RegsBut [powerBase + PWR_STATE_IN_TRANSITION.off] s t) ∧
  (∀ s : State, s.noneDue → s.inDeep = true → s.wakeDue = true →
   s.power.deepExit = false → ∃ t : State, exec .deepWakeTimer s = .next t ∧ t.power.deepExit = true ∧
   t.flag powerBase PWR_STATE_IN_TRANSITION = true ∧ ∀ d : Fin 72, domVotable d.val = true →
   s.fld powerBase (DOM_STATE.ix d.val) = 3 → s.votes d.val ≠ 0 → t.fld powerBase (DOM_STATE.ix d.val) = 4 ∧
   t.fld powerBase (DOM_STEP.ix d.val) = 1) ∧
  (∀ (lostBanks : List (BitVec 9)) (s : State), s.noneDue → s.inDeep = true → s.power.deepExit = true →
   s.deepReady = true → s.domOn 1 = true → s.power.stalled = [] → s.link.inbox = [] → ∃ u : State,
   exec (.deepExitComplete lostBanks) s = .next u.react ∧ u.fld powerBase PWR_STATE_STATE = 0 ∧
   u.flag powerBase PWR_STATE_IN_TRANSITION = false ∧ u.flag powerBase AO_STATUS_REG_LP = false ∧
   u.power.deepExit = false ∧ u.power.deepStep = 0 ∧ ∀ n : Fin 8, u.flag (lineBase n) TX_CTRL_SQUELCH = true) ∧
  (∀ (ao : BitVec 16) (i : Rat) (s : State), s.noneDue → s.inDeep = true → s.power.deepStep = 0 →
   s.clock.running = false → ao.toNat ≤ shutRise → s.flag powerBase AO_STATUS_REG_LP = true →
   i = interpolate retentionTable (codeCelsius ao.toNat + (bitsInt 7 (s.fld powerBase AO_STATUS_OFFSET) : Rat) /
     2 + 5) →
   ∃ t : State, exec (.aoSensorReading ao) s = .next t ∧ t.fld powerBase AO_STATUS_I_EST = iEstField i ∧
   t.flag powerBase AO_STATUS_REG_LP = decide (i ≤ 36) ∧
   t.fld powerBase AO_STATUS_REG_SWITCHES = (if 36 < i then satNat AO_STATUS_REG_SWITCHES.width (s.fld powerBase
     AO_STATUS_REG_SWITCHES + 1) else s.fld powerBase AO_STATUS_REG_SWITCHES) ∧
   t.power.deepReport = (if 36 < i then some (0x5003, iEstField i) else s.power.deepReport))

/-- A round starts when it is due, converts and publishes its result words; one that starts a period late raises
HK_LATE. A trigger unit queues the request of its timer, of a strobe or of a sync event, at a reference edge (log
142); an urgent request takes an instant that clashes with no other, and one that finds a conversion running and was
not known ahead is dropped; a request that finds the queue full is dropped; and its conversion is published with its
instant. A temperature channel reads the two elements of its site. -/
def Obligations.HousekeepingConversions : Prop :=
  (∀ s : State, s.noneDue → s.flag hkBase HK_STATUS_ROUND_BUSY = false → s.domOn domHk = true →
   s.deepHolds domHk = false → s.hk.roundDue ≤ s.tick → s.hk.late = none → ∃ t : State,
   exec .hkRoundStart s = .next t ∧ t.flag hkBase HK_STATUS_ROUND_BUSY = true ∧
   t.flag hkBase HK_STATUS_LP_ACTIVE = (s.flag hkBase HK_CTRL_LP_FORCE || s.fld powerBase PWR_STATE_STATE == 2) ∧
   t.hk.round.map HkRound.channels = some s.hkChannels ∧ t.hk.round.map HkRound.done = some 0 ∧
   s.tick < t.hk.roundDue ∧ t.thermal.calNext = none) ∧
  (∀ (micros : Nat) (s : State), s.noneDue → s.flag hkBase HK_STATUS_ROUND_BUSY = false →
   s.domOn domHk = true → s.deepHolds domHk = false → s.hk.roundDue ≤ s.tick → s.hk.late = some micros →
   s.takes 0x6103 (satNat 16 micros) → ∃ u : State, exec .hkRoundStart s = .next u.react ∧
   u.flag hkBase HK_STATUS_ROUND_BUSY = true ∧ u.isActive 0x6103) ∧
  (∀ (volts other vref : Rat) (r : HkRound) (ch : Nat) (s : State), s.noneDue → s.hk.round = some r →
   r.done < r.channels.length * 16 → ch = r.channels.getD (r.done % r.channels.length) 0 → ch < 32 →
   s.afterOver ch = false → ∃ t : State, exec (.hkConversion volts other vref) s = .next t ∧
   t.hk.round.map HkRound.done = some (r.done + 1) ∧
   t.hk.round.map (fun x => x.sums.toList.getD ch 0) = some (r.sums.toList.getD ch 0 + (s.hkRead ch volts other
   vref).1) ∧
   t.hk.prevOver = (if (s.hkRead ch volts other vref).2 then some ch else none) ∧ RegsBut [] s t) ∧
  (∀ (volts other vref : Rat) (r : HkRound) (ch : Nat) (s : State), s.noneDue → s.hk.round = some r →
   r.done < r.channels.length * 16 → ch = r.channels.getD (r.done % r.channels.length) 0 →
   s.afterOver ch = true → ∃ t : State, exec (.hkConversion volts other vref) s = .next t ∧ t.hk.round = some r ∧
   t.hk.prevOver = (if (s.hkRead ch volts other vref).2 then some ch else none) ∧ RegsBut [] s t) ∧
  (∀ (r : HkRound) (ch : Nat) (s : State), s.noneDue → s.hk.round = some r → r.channels.length * 16 ≤ r.done →
   (∀ x ∈ r.channels, x < 32) → r.ovr = [] → 25 ∉ r.channels → ch ∈ r.channels → ∃ t : State,
   exec .hkRoundEnd s = .next t ∧ t.hk.round = none ∧ t.hk.rounds = s.hk.rounds + 1 ∧
   t.flag hkBase HK_STATUS_ROUND_BUSY = false ∧
   t.reg (hkBase + (HK_RES_RESULT.ix ch).off) = hkWord (roundAway ((r.sums.toList.getD ch 0 : Rat) / 16)).toNat
     false r.lp false (s.hk.rounds + 1) ∧
   ∀ k : Fin 9, t.fld thermBase (THERM_SITE_TEMP.ix k.val) = (roundAway ((r.sums.toList.getD (16 + k.val) 0 :
     Rat) / 16)).toNat % 0x10000 ∧
   t.flag thermBase (THERM_SITE_VALID.ix k.val) = true) ∧
  (∀ (k : Fin 8) (s : State), s.noneDue → s.trigOn k = true → s.trigSrc k = 0 → s.trigPeriod k ≠ 0 →
   s.timerDue k ≤ s.tick → s.trigFld TRIG_CFG_URGENT k = 0 → s.hk.queue.length < 8 → ∃ t : State,
   exec (.hkTriggerTimerExpiry k) s = .next t ∧ t.hk.timers = s.hk.timers.set k (s.timerDue k) ∧
   t.hk.queue = s.hk.queue ++ [(k.val, (s.refEdge (s.timerDue k) + 5 * s.trigFld TRIG_CFG_DELAY k) % 2 ^ 64)] ∧
   t.fld hkBase HK_STATUS_QUEUED = s.hk.queue.length + 1 ∧ RegsBut [hkBase + HK_STATUS_QUEUED.off] s t) ∧
  (∀ (k : Fin 8) (busy : Bool) (e : Nat × Nat) (s : State), s.noneDue →
   s.hk.strobes.find? (fun x => x.1 == k.val) = some e → s.trigFld TRIG_CFG_URGENT k = 0 →
   s.hk.queue.length < 8 → ∃ t : State, exec (.hkTrigger k busy) s = .next t ∧
   t.hk.strobes = s.hk.strobes.erase e ∧
   t.hk.queue = s.hk.queue ++ [(k.val, (e.2 + 5 * s.trigFld TRIG_CFG_DELAY k) % 2 ^ 64)] ∧
   t.fld hkBase HK_STATUS_QUEUED = s.hk.queue.length + 1 ∧ t.hk.timers = s.hk.timers ∧
   RegsBut [hkBase + HK_STATUS_QUEUED.off] s t) ∧
  (∀ (k : Fin 8) (busy : Bool) (e : Nat × Nat) (s : State), s.noneDue →
   s.hk.strobes.find? (fun x => x.1 == k.val) = some e → s.trigFld TRIG_CFG_URGENT k = 1 →
   (busy = false ∨ 79 ≤ s.trigFld TRIG_CFG_DELAY k) →
   (∀ x ∈ s.hk.urgent, urgentClash x.2 ((e.2 + 5 * s.trigFld TRIG_CFG_DELAY k) % 2 ^ 64) = false) → ∃ t : State,
   exec (.hkTrigger k busy) s = .next t ∧
   t.hk.urgent = s.hk.urgent ++ [(k.val, (e.2 + 5 * s.trigFld TRIG_CFG_DELAY k) % 2 ^ 64)] ∧ RegsBut [] s t) ∧
  (∀ (k : Fin 8) (busy : Bool) (e : Nat × Nat) (s : State), s.noneDue →
   s.hk.strobes.find? (fun x => x.1 == k.val) = some e → s.trigFld TRIG_CFG_URGENT k = 1 → busy = true →
   s.trigFld TRIG_CFG_DELAY k < 79 → s.takes 0x6100 k.val → ∃ u : State,
   exec (.hkTrigger k busy) s = .next u.react ∧ u.hk.urgent = s.hk.urgent ∧ u.isActive 0x6100 ∧
   u.fld hkBase HK_DROPS_URGENT_DROPS = satNat HK_DROPS_URGENT_DROPS.width (s.fld hkBase
     HK_DROPS_URGENT_DROPS + 1)) ∧
  (∀ (k : Fin 8) (busy : Bool) (e : Nat × Nat) (s : State), s.noneDue →
   s.hk.strobes.find? (fun x => x.1 == k.val) = some e → s.trigFld TRIG_CFG_URGENT k = 0 →
   8 ≤ s.hk.queue.length → s.takes 0x6101 k.val → ∃ u : State,
   exec (.hkTrigger k busy) s = .next u.react ∧ u.hk.queue = s.hk.queue ∧ u.isActive 0x6101 ∧
   u.fld hkBase HK_DROPS_QUEUE_DROPS = satNat HK_DROPS_QUEUE_DROPS.width (s.fld hkBase
     HK_DROPS_QUEUE_DROPS + 1)) ∧
  (∀ (k : Fin 8) (volts other vref : Rat) (instant : Nat) (rest : List (Nat × Nat)) (ch : Nat) (s : State), s.noneDue →
   (∀ e ∈ s.hk.urgent, e.1 ≠ k.val) → s.hk.queue = (k.val, instant) :: rest → rest.length < 8 →
   ch = s.trigFld TRIG_CFG_CHANNEL k → ∃ t : State, exec (.hkTriggerConversionDone k volts other vref) s = .next t ∧
   t.hk.queue = rest ∧ t.fld hkBase HK_STATUS_QUEUED = rest.length ∧
   t.reg (hkBase + (TRIG_RES_RESULT.ix k.val).off) = hkWord (s.hkRead ch volts other vref).1 (s.hkRead ch volts other
   vref).2 (s.flag hkBase HK_STATUS_LP_ACTIVE) (s.afterOver ch) (s.hk.taken[k] + 1) ∧
   t.fld hkBase (TRIG_TIME_TIME.ix k.val) = instant % 2 ^ TRIG_TIME_TIME.width ∧
   t.hk.prevOver = (if (s.hkRead ch volts other vref).2 then some ch else none))

/-- A sample tick of a control-DAC channel, with the injection of its Tamid instance, whose NCO runs on by RATE_DIV
samples; a range change; and the monitor chains: START, STOP, SWAP, configuration, FORCE_FB, faults, and an output:
the filters of R381 (log 143) over the samples of 4 × CIC_R pairs of datapath clocks, published and detected. -/
def Obligations.ControlDacAndFilterChains : Prop :=
  (∀ (c : Fin 32) (q : Nat) (rest : List Nat) (s : State), s.noneDue → s.cdac[c].rateNext = none →
   s.cdState c = 1 → s.flag (cdBase c) CD_CFG_EN = true → s.cdac[c].queue = q :: rest → q ≤ 0x3FFF →
   injInstance c = none → ∃ t : State, exec (.cdacSampleTick c) s = .next t ∧ t.cdac[c].queue = rest ∧
   t.fld (cdBase c) CD_CODES_TARGET = q ∧
   t.fld (cdBase c) CD_SAFE_POPS = (s.fld (cdBase c) CD_SAFE_POPS + 1) % 2 ^ CD_SAFE_POPS.width ∧
   t.fld (cdBase c) CD_CODES_OUT = slewStep (s.fld (cdBase c) CD_CODES_OUT) q (s.cdStep c) ∧
   t.cdac[c].driven = slewStep (s.fld (cdBase c) CD_CODES_OUT) q (s.cdStep c)) ∧
  (∀ (c : Fin 32) (s : State), s.noneDue → s.cdac[c].rateNext = none → s.cdState c = 3 →
   injInstance c = none → ∃ t : State, exec (.cdacSampleTick c) s = .next t ∧
   t.fld (cdBase c) CD_CODES_OUT = slewStep (s.fld (cdBase c) CD_CODES_OUT) (s.fld (cdBase c) CD_SAFE_SAFE_CODE)
     (s.cdStep c) ∧
   RegsBut [cdBase c + CD_CODES_OUT.off] s t) ∧
  (∀ (c : Fin 32) (i : Fin 8) (a : List Byte × Bool × Bool × Nat) (s : State), s.noneDue →
   s.cdac[c].rateNext = none → s.cdState c = 1 → s.flag (cdBase c) CD_CFG_EN = true → s.cdac[c].queue = [] →
   injInstance c = some i → s.tamid[i].air = some a → s.tamidLoop i ≠ 1 → s.cdStep c = 16383 →
   0 ≤ (s.fld (cdBase c) CD_CODES_TARGET : Int) + s.injection i →
   (s.fld (cdBase c) CD_CODES_TARGET : Int) + s.injection i ≤ 0x3FFF → ∃ t : State,
   exec (.cdacSampleTick c) s = .next t ∧
   t.fld (cdBase c) CD_CODES_OUT = s.fld (cdBase c) CD_CODES_TARGET ∧
   (t.cdac[c].driven : Int) = (s.fld (cdBase c) CD_CODES_TARGET : Int) + s.injection i ∧
   t.tamid[i].nco = s.tamid[i].nco + s.fld (cdBase c) CD_CFG_RATE_DIV) ∧
  (∀ (c : Fin 32) (g : Bool) (s : State), s.noneDue → s.cdac[c].clampEngaged = true →
   s.cdac[c].rangeTo = some g → s.flag (cdBase c) CD_CFG_EN = true → s.fuse.safe = false → ∃ t : State,
   exec (.cdacRangeSwitch c) s = .next t ∧ t.flag (cdBase c) CD_CFG_GAIN2 = g ∧ t.cdState c = 1 ∧
   t.cdac[c].clampEngaged = false ∧ t.cdac[c].rangeTo = none) ∧
  (∀ (j : Fin 24) (s : State), s.noneDue → s.chainOwned j = false →
   s.flag (mcBase j) MC_CTRL_START_ON_SYNC = false → s.chainRuns j = false →
   s.flag (mcBase j) MC_STATUS_LOST = false → s.domOn (chainDomain j.val) = true → ∃ t : State,
   exec (.mcStart j) s = .next t ∧ t.chainRuns j = true ∧ t.chain[j].settling = s.settlingOutputs j ∧
   t.chain[j].rmsCount = 0 ∧ t.chain[j].rmsSum = 0) ∧
  (∀ (j : Fin 24) (s : State), s.noneDue → s.chainOwned j = true → ∃ t : State, exec (.mcStart j) s = .next t ∧
   t.fld (mcBase j) MC_COUNTS_WR_REJECT = satNat MC_COUNTS_WR_REJECT.width (s.fld (mcBase j) MC_COUNTS_WR_REJECT
     + 1) ∧
   RegsBut [mcBase j + MC_COUNTS_WR_REJECT.off] s t) ∧
  (∀ (j : Fin 24) (s : State), s.noneDue → s.chainOwned j = false → ∃ t : State, exec (.mcStop j) s = .next t ∧
   t.chainRuns j = false ∧ t.flag (mcBase j) MC_STATUS_FADING = false ∧
   (s.flag (mcBase j) MC_STATUS_FADING = false →
     t.fld (mcBase j) MC_STATUS_ACTIVE_BANK = s.fld (mcBase j) MC_STATUS_ACTIVE_BANK)) ∧
  (∀ (j : Fin 24) (s : State), s.noneDue → s.chainOwned j = false → s.flag (mcBase j) MC_STATUS_FADING = false →
   s.chainRuns j = true → ∃ t : State, exec (.mcSwap j) s = .next t ∧ t.flag (mcBase j) MC_STATUS_FADING = true ∧
   t.chain[j].filter = { s.chain[j].filter with fade := 0 } ∧ RegsBut [mcBase j + MC_STATUS_FADING.off] s t) ∧
  (∀ (j : Fin 24) (s : State), s.noneDue → s.chainOwned j = false → s.flag (mcBase j) MC_STATUS_FADING = false →
   s.chainRuns j = false → s.fld (mcBase j) MC_STATUS_ACTIVE_BANK ≤ 1 → ∃ t : State,
   exec (.mcSwap j) s = .next t ∧
   t.fld (mcBase j) MC_STATUS_ACTIVE_BANK = 1 - s.fld (mcBase j) MC_STATUS_ACTIVE_BANK) ∧
  (∀ (j : Fin 24) (s : State), s.noneDue → s.chainOwned j = false → s.flag (mcBase j) MC_STATUS_FADING = true →
   ∃ t : State, exec (.mcSwap j) s = .next t ∧
   t.fld (mcBase j) MC_COUNTS_BUSY_COUNT = satNat MC_COUNTS_BUSY_COUNT.width (s.fld (mcBase j)
     MC_COUNTS_BUSY_COUNT + 1) ∧
   RegsBut [mcBase j + MC_COUNTS_BUSY_COUNT.off] s t) ∧
  (∀ (j : Fin 24) (offset : BitVec 11) (value : Word) (s : State), s.noneDue → s.chainOwned j = false →
   s.chainRuns j = false → offset.toNat = MC_CFG_SEL.off → ∃ t : State,
   exec (.mcConfigWrite j offset value) s = .next t ∧ t.reg (mcBase j + offset.toNat) = value &&& 0xC0FF1FFF ∧
   RegsBut [mcBase j + offset.toNat] s t) ∧
  (∀ (j : Fin 24) (offset : BitVec 11) (value : Word) (s : State), s.noneDue → s.chainOwned j = false →
   s.chainRuns j = false → 0x200 ≤ offset.toNat → offset.toNat < 0x600 → offset.toNat % 4 = 0 → ∃ t : State,
   exec (.mcConfigWrite j offset value) s = .next t ∧ t.reg (mcBase j + offset.toNat) = value &&& 0x3FFFF ∧
   t.flag (mcBase j) MC_STATUS_HOST_LOADED = true ∧
   RegsBut [mcBase j + offset.toNat, mcBase j + MC_STATUS_HOST_LOADED.off] s t) ∧
  (∀ (j : Fin 24) (offset : BitVec 11) (value : Word) (s : State), s.noneDue →
   (s.chainOwned j = true ∨ s.chainRuns j = true) → ∃ t : State,
   exec (.mcConfigWrite j offset value) s = .next t ∧
   t.fld (mcBase j) MC_COUNTS_WR_REJECT = satNat MC_COUNTS_WR_REJECT.width (s.fld (mcBase j) MC_COUNTS_WR_REJECT
     + 1) ∧
   RegsBut [mcBase j + MC_COUNTS_WR_REJECT.off] s t) ∧
  (∀ (j : Fin 24) (on : Bool) (s : State), s.noneDue → s.chainOwned j = false → on = true →
   s.chainRuns j = true → s.flag (mcBase j) MC_STATUS_FALLBACK = false → s.fallbackFree j = true → ∃ t : State,
   exec (.mcForceFbWrite j on) s = .next t ∧ t.flag (mcBase j) MC_CTRL_FORCE_FB = true ∧
   t.flag (mcBase j) MC_STATUS_FALLBACK = true ∧ t.chain[j].settling = s.settlingOutputs j) ∧
  (∀ (j : Fin 24) (on : Bool) (s : State), s.noneDue → s.chainOwned j = false → on = false → ∃ t : State,
   exec (.mcForceFbWrite j on) s = .next t ∧ t.flag (mcBase j) MC_CTRL_FORCE_FB = false ∧
   RegsBut [mcBase j + MC_CTRL_FORCE_FB.off] s t) ∧
  (∀ (j : Fin 24) (samples : List (List Int)) (y : ChainFilter × Rat) (value : Int) (s : State), s.noneDue →
   s.chainRuns j = true → samples.length = 4 * s.cicR j →
   y = s.chainOut j (samples.map (chainInput (!s.chainOwned j && s.flag (mcBase j) MC_CFG_SEL))) →
   value = quantise (256 * y.2) → 0 < s.chain[j].settling → ∃ t : State, exec (.mcOutput j samples) s = .next t ∧
   t.fld (mcBase j) MC_OUT_VALUE = intBits 24 (satInt 24 value) ∧ t.chain[j].filter = y.1 ∧
   t.fld (mcBase j) MC_OUT_SEQ = (s.fld (mcBase j) MC_OUT_SEQ + 1) % 2 ^ MC_OUT_SEQ.width ∧
   t.flag (mcBase j) MC_OUT_OVF = decide (satInt 24 value ≠ value) ∧ t.flag (mcBase j) MC_OUT_SETTLING = true ∧
   t.chain[j].settling = s.chain[j].settling - 1 ∧
   t.fld (mcBase j) MC_PEAK_PEAK = s.fld (mcBase j) MC_PEAK_PEAK) ∧
  (∀ (j : Fin 24) (samples : List (List Int)) (y : ChainFilter × Rat) (value : Int) (s : State), s.noneDue →
   s.chainRuns j = true → samples.length = 4 * s.cicR j →
   y = s.chainOut j (samples.map (chainInput (!s.chainOwned j && s.flag (mcBase j) MC_CFG_SEL))) →
   value = quantise (256 * y.2) → s.chain[j].settling = 0 → s.fld (mcBase j) MC_PEAK_PEAK < 2 ^ 23 → ∃ t : State,
   exec (.mcOutput j samples) s = .next t ∧ t.chain[j].filter = y.1 ∧
   t.fld (mcBase j) MC_OUT_VALUE = intBits 24 (satInt 24 value) ∧ t.flag (mcBase j) MC_OUT_SETTLING = false ∧
   t.fld (mcBase j) MC_PEAK_PEAK = max (s.fld (mcBase j) MC_PEAK_PEAK) (satInt 24 value).natAbs ∧
   t.chain[j].env = envStep s.chain[j].env (satInt 24 value).natAbs (s.fld (mcBase j) MC_DET_ATT) (s.fld (mcBase
     j) MC_DET_REL)) ∧
  (∀ (j : Fin 24) (s : State), s.noneDue → s.flag (mcBase j) MC_STATUS_FADING = true →
   s.fld (mcBase j) MC_STATUS_ACTIVE_BANK ≤ 1 → ∃ t : State, exec (.mcFadeComplete j) s = .next t ∧
   t.flag (mcBase j) MC_STATUS_FADING = false ∧
   t.fld (mcBase j) MC_STATUS_ACTIVE_BANK = 1 - s.fld (mcBase j) MC_STATUS_ACTIVE_BANK) ∧
  (∀ (j : Fin 24) (s : State), s.noneDue → s.chain[j].faulted = false →
   s.flag (mcBase j) MC_STATUS_LOST = false → s.flag (mcBase j) MC_STATUS_FALLBACK = false →
   s.fallbackFree j = true → s.takes (0x6110 + j.val) 0 → ∃ u : State, exec (.chainFault j) s = .next u.react ∧
   u.chain[j].faulted = true ∧ u.flag (mcBase j) MC_STATUS_FALLBACK = true ∧
   u.chain[j].settling = s.settlingOutputs j ∧ u.isActive (0x6110 + j.val)) ∧
  (∀ (j : Fin 24) (s : State), s.noneDue → s.chain[j].faulted = false →
   s.flag (mcBase j) MC_STATUS_LOST = false → s.flag (mcBase j) MC_STATUS_FALLBACK = false →
   s.fallbackFree j = false → s.takes (0x6110 + j.val) 1 → ∃ u : State, exec (.chainFault j) s = .next u.react ∧
   u.chainRuns j = false ∧ u.flag (mcBase j) MC_STATUS_LOST = true ∧ u.isActive (0x6110 + j.val))

/-- A transition of Table 17-2 completes, and at the entry to TX or DUPLEX the shape and the spectrum are held against
the mask; a packet starts and ends; and a SHAPE coefficient is written or rejected. -/
def Obligations.TamidStatesAndSending : Prop :=
  (∀ (i : Fin 8) (spectrum : List (Rat × Rat)) (g : TamidTarget) (s : State), s.noneDue → s.tamid[i].target = some g →
   s.tamid[i].air = none → g.st = 1 → s.tamidState i = 0 → s.domOn domTamid = true → ∃ t : State,
   exec (.tamidTransitionDone i spectrum) s = .next t ∧ t.tamidState i = 1 ∧ t.tamid[i].target = none ∧
   t.fld (tamidBase i) TM_STATUS_CARRIER = g.carrier % 2 ^ TM_STATUS_CARRIER.width ∧
   t.fld (tamidBase i) TM_STATUS_DEPTH = g.depth % 2 ^ TM_STATUS_DEPTH.width ∧
   t.flag (tamidBase i) TM_STATUS_TX_MOD = g.fsk4 ∧ t.flag (tamidBase i) TM_STATUS_RX_METHOD = g.sampling) ∧
  (∀ (i : Fin 8) (spectrum : List (Rat × Rat)) (g : TamidTarget) (s : State), s.noneDue → s.tamid[i].target = some g →
   s.tamid[i].air = none → g.st = 3 → s.tamidState i = 1 → ∃ t : State,
   exec (.tamidTransitionDone i spectrum) s = .next t ∧ t.tamidState i = 2 ∧ t.tamid[i].target = some g ∧
   t.carriers.any (fun e => e.half == tamidHalf i && e.carrier == g.carrier) = true) ∧
  (∀ (i : Fin 8) (spectrum : List (Rat × Rat)) (g : TamidTarget) (s : State), s.noneDue → s.tamid[i].target = some g →
   s.tamid[i].air = none → (g.st = 4 ∨ g.st = 5) → s.tamidState i = 2 → s.tamid[i].passed ≠ some g.fsk4 →
   s.tamidWorks i false = true → s.shapeHolds i = true →
   (s.maskExcess i spectrum).getD 0 ≤ 0 → ∃ t : State,
   exec (.tamidTransitionDone i spectrum) s = .next t ∧
   t.tamidState i = g.st ∧ t.tamid[i].target = none ∧ t.tamid[i].passed = some g.fsk4) ∧
  (∀ (i : Fin 8) (spectrum : List (Rat × Rat)) (x : Rat) (g : TamidTarget) (s : State), s.noneDue →
   s.tamid[i].target = some g →
   s.tamid[i].air = none → (g.st = 4 ∨ g.st = 5) → s.tamidState i = 2 → s.tamid[i].passed ≠ some g.fsk4 →
   s.tamidWorks i false = true → s.maskExcess i spectrum = some x → 0 < x →
   s.takes (tamidSrc i 0x03) (s.maskDetail i spectrum) → ∃ u : State,
   exec (.tamidTransitionDone i spectrum) s = .next u.react ∧ u.tamidState i = 2 ∧ u.tamid[i].target = none ∧
   u.isActive (tamidSrc i 0x03)) ∧
  (∀ (i : Fin 8) (spectrum : List (Rat × Rat)) (p : List Byte) (rest : List (List Byte)) (s : State), s.noneDue →
   s.tamid[i].target = none → s.tamid[i].air = none → s.tamid[i].host = none → s.tamid[i].own = p :: rest →
   s.fuse.safe = false → (s.tamidState i = 4 ∨ s.tamidState i = 5) → s.tamidWorks i false = true → ∃ t : State,
   exec (.tamidPacketStart i spectrum) s = .next t ∧ t.tamid[i].own = rest ∧
   t.tamid[i].air = some (p, false, s.flag (tamidBase i) TM_STATUS_TX_MOD, s.tick) ∧ t.tamid[i].backTo = none ∧
   t.flag (tamidBase i) TM_STATUS_SENDING = true ∧ t.tamidState i = s.tamidState i) ∧
  (∀ (i : Fin 8) (spectrum : List (Rat × Rat)) (h : TamidSend) (s : State), s.noneDue → s.tamid[i].target = none →
   s.tamid[i].air = none → s.tamid[i].host = some h → s.fuse.safe = false →
   (s.tamidState i = 4 ∨ s.tamidState i = 5) → s.tamidWorks i false = true → h.origin.via = .bus →
   s.link.outbox.length < 4 →
   s.link.waiting = [] → ∃ t : State, exec (.tamidPacketStart i spectrum) s = .next t ∧ t.tamid[i].host = none ∧
   t.tamid[i].own = s.tamid[i].own ∧
   t.tamid[i].air = some (h.payload, true, s.flag (tamidBase i) TM_STATUS_TX_MOD, s.tick) ∧
   t.link.outbox.length = s.link.outbox.length + 1) ∧
  (∀ (i : Fin 8) (p : List Byte) (a : Bool × Bool × Nat) (s : State), s.noneDue → s.tamid[i].air = some (p, a) →
   s.tamid[i].backTo = none → ∃ t : State, exec (.tamidPacketEnd i) s = .next t ∧ t.tamid[i].air = none ∧
   t.fld (tamidBase i) TM_COUNTS0_TX_PKTS = (s.fld (tamidBase i) TM_COUNTS0_TX_PKTS + 1) % 2 ^
     TM_COUNTS0_TX_PKTS.width ∧
   t.flag (tamidBase i) TM_STATUS_SENDING = (s.tamid[i].host.isSome || !s.tamid[i].own.isEmpty) ∧
   t.tamidState i = s.tamidState i) ∧
  (∀ (i : Fin 8) (p : List Byte) (a : Bool × Bool × Nat) (back : Nat) (s : State), s.noneDue →
   s.tamid[i].air = some (p, a) → s.tamid[i].backTo = some back → back ≤ 5 → ∃ t : State,
   exec (.tamidPacketEnd i) s = .next t ∧ t.tamid[i].air = none ∧ t.tamid[i].backTo = none ∧
   t.tamidState i = back) ∧
  (∀ (i : Fin 8) (back : Nat) (s : State), s.noneDue → s.tamid[i].air = none → s.tamid[i].backTo = some back →
   back ≤ 5 → ∃ t : State, exec (.tamidPacketEnd i) s = .next t ∧ t.tamid[i].backTo = none ∧ t.tamidState i = back) ∧
  (∀ (i : Fin 8) (j : Fin 192) (value : BitVec 16) (s : State), s.noneDue → s.tamidState i ≤ 1 → ∃ t : State,
   exec (.tamidShapeWrite i j value) s = .next t ∧ t.shape i j.val = value.toNat ∧ t.tamid[i].passed = none ∧
   RegsBut [tamidBase i + (SHAPE_COEF.ix j.val).off] s t) ∧
  (∀ (i : Fin 8) (j : Fin 192) (value : BitVec 16) (s : State), s.noneDue → 2 ≤ s.tamidState i → ∃ t : State,
   exec (.tamidShapeWrite i j value) s = .next t ∧
   t.fld (tamidBase i) TM_COUNTS2_WR_REJECT = satNat TM_COUNTS2_WR_REJECT.width (s.fld (tamidBase i)
     TM_COUNTS2_WR_REJECT + 1) ∧
   RegsBut [tamidBase i + TM_COUNTS2_WR_REJECT.off] s t ∧ t.tamid = s.tamid)

/-- The AGC before detection (log 146), detection, the sync word of 29 matching bits or its complement, a received
packet and its routing, its failed CRC, capture by a stronger preamble, the calibration slices and the cache of
carriers; a receiver works only while it listens. -/
def Obligations.TamidReceivingAndCalibration : Prop :=
  (∀ (i : Fin 8) (level : Rat) (s : State), s.noneDue → s.tamidListens i = true → s.tamid[i].rx = none →
   ∃ t : State, exec (.tamidAgcUpdate i level) s = .next t ∧ t.tamid[i].gain = agcGain s.tamid[i].gain level ∧
   t.tamid[i].gain ≤ 42 ∧ RegsBut [] s t) ∧
  (∀ (i : Fin 8) (corr level : Rat) (s : State), s.noneDue → s.tamidListens i = true → s.tamid[i].rx = none →
   ((max 4 (s.fld (tamidBase i) TM_CTRL_DET_THR) : Nat) : Rat) / 16 < corr → ∃ t : State,
   exec (.tamidDetect i corr level) s = .next t ∧ t.tamid[i].rx = some ⟨level, false, false, false, 0, 0⟩ ∧
   RegsBut [] s t) ∧
  (∀ (i : Fin 8) (word : BitVec 32) (afc : Int) (delay : Nat) (r : TamidRx) (s : State), s.noneDue →
   s.tamid[i].rx = some r → r.synced = false → s.tamidListens i = true →
   (29 ≤ syncAgree word ∨ syncAgree word ≤ 3) → ∃ t : State,
   exec (.tamidSyncAccept i word afc delay) s = .next t ∧
   t.tamid[i].rx = some ⟨r.level, r.captured, true, decide (syncAgree word ≤ 3), max (-120) (min 120 afc),
     (s.clock.deviceTime - delay) % 2 ^ 32⟩ ∧
   t.flag (tamidBase i) TM_STATUS_RECEIVING = true ∧ RegsBut [tamidBase i + TM_STATUS_RECEIVING.off] s t) ∧
  (∀ (i : Fin 8) (word : BitVec 32) (afc : Int) (delay : Nat) (r : TamidRx) (s : State), s.noneDue →
   s.tamid[i].rx = some r → 3 < syncAgree word → syncAgree word < 29 → ∃ t : State,
   exec (.tamidSyncAccept i word afc delay) s = .next t ∧ t = s) ∧
  (∀ (i : Fin 8) (r : TamidRx) (s : State), s.noneDue → s.tamid[i].rx = some r → r.synced = false → ∃ t : State,
   exec (.tamidSyncTimeout i) s = .next t ∧ t.tamid[i].rx = none ∧ RegsBut [] s t) ∧
  (∀ (i : Fin 8) (raw : List Byte) (r : TamidRx) (p : List Byte) (s : State), s.noneDue →
   s.tamid[i].rx = some r → r.synced = true → s.tamidListens i = true → packetPayload raw = some p →
   (p.headD 0).toNat < 0xC0 →
   s.tamid[i].queue.length < 8 → ∃ t : State, exec (.tamidPacketReceived i raw) s = .next t ∧
   t.tamid[i].rx = none ∧ t.flag (tamidBase i) TM_STATUS_RECEIVING = false ∧
   t.tamid[i].queue = s.tamid[i].queue ++ [⟨p, (if r.fsk4 then 1 else 0) + (if s.flag (tamidBase i)
     TM_STATUS_RX_METHOD then 2 else 0) + (if r.captured then 8 else 0), r.time⟩] ∧
   t.fld (tamidBase i) TM_STATUS_QUEUED = s.tamid[i].queue.length + 1 ∧
   t.fld (tamidBase i) TM_COUNTS0_RX_PKTS = (s.fld (tamidBase i) TM_COUNTS0_RX_PKTS + 1) % 2 ^
     TM_COUNTS0_RX_PKTS.width ∧
   t.fld (tamidBase i) TM_LAST_LEVEL = satNat 8 (quantise (2 * r.level)).toNat) ∧
  (∀ (i : Fin 8) (raw : List Byte) (r : TamidRx) (p : List Byte) (s : State), s.noneDue →
   s.tamid[i].rx = some r → r.synced = true → s.tamidListens i = true → packetPayload raw = some p →
   0xC1 ≤ (p.headD 0).toNat →
   (p.headD 0).toNat ≤ 0xC3 → s.flag pantryBase PANTRY_CTRL_PD_TAMID = true → ∃ t : State,
   exec (.tamidPacketReceived i raw) s = .next t ∧ t.tamid[i].rx = none ∧
   t.tamid[i].messages = s.tamid[i].messages ++ [p] ∧ t.tamid[i].queue = s.tamid[i].queue) ∧
  (∀ (i : Fin 8) (raw : List Byte) (r : TamidRx) (s : State), s.noneDue → s.tamid[i].rx = some r →
   r.synced = true → s.tamidListens i = true → packetPayload raw = none → s.limitFree (tamidSrc i 0x00) = false →
   ∃ t : State,
   exec (.tamidPacketReceived i raw) s = .next t ∧ t.tamid[i].rx = none ∧
   t.fld (tamidBase i) TM_COUNTS1_CRC_ERR = satNat TM_COUNTS1_CRC_ERR.width (s.fld (tamidBase i)
     TM_COUNTS1_CRC_ERR + 1) ∧
   t.tamid[i].crcSince = s.tamid[i].crcSince + 1 ∧ t.tamid[i].queue = s.tamid[i].queue) ∧
  (∀ (i : Fin 8) (level : Rat) (r : TamidRx) (s : State), s.noneDue → s.tamid[i].rx = some r →
   s.tamidListens i = true → ((max 3 (s.fld (tamidBase i) TM_CTRL_CAPTURE_DB) : Nat) : Rat) ≤ r.level - level →
   s.limitFree (tamidSrc i 0x01) = false → ∃ t : State, exec (.tamidCapture i level) s = .next t ∧
   t.tamid[i].rx = some ⟨level, true, false, false, 0, 0⟩ ∧ t.flag (tamidBase i) TM_STATUS_RECEIVING = false ∧
   t.fld (tamidBase i) TM_COUNTS1_PRE_EMPTED = satNat TM_COUNTS1_PRE_EMPTED.width (s.fld (tamidBase i)
     TM_COUNTS1_PRE_EMPTED + 1) ∧
   t.tamid[i].preemptSince = s.tamid[i].preemptSince + 1) ∧
  (∀ (i : Fin 8) (level : Rat) (r : TamidRx) (s : State), s.noneDue → s.tamid[i].rx = some r →
   s.tamidListens i = true → ((max 3 (s.fld (tamidBase i) TM_CTRL_CAPTURE_DB) : Nat) : Rat) ≤ r.level - level →
   s.limitFree (tamidSrc i 0x01) = true → s.takes (tamidSrc i 0x01) (satNat 16 (s.tamid[i].preemptSince + 1)) →
   ∃ u : State, exec (.tamidCapture i level) s = .next u.react ∧
   u.tamid[i].rx = some ⟨level, true, false, false, 0, 0⟩ ∧ u.tamid[i].preemptSince = 0 ∧
   u.isActive (tamidSrc i 0x01)) ∧
  (∀ (i : Fin 8) (ev : TamidSlice) (item : Fin 3) (carrier : Fin 16) (corr : Rat) (s : State), s.noneDue →
   ev = .start item carrier corr → corr ≤ ((max 4 (s.fld (tamidBase i) TM_CTRL_DET_THR) : Nat) : Rat) / 32 →
   s.sliceMay i item.val carrier.val = true → ∃ t : State,
   exec (.tamidCalSlice i ev) s = .next t ∧ t.flag (tamidBase i) TM_STATUS_CAL_RUNNING = true ∧
   t.tamid[i].slice = some (item.val, carrier.val) ∧ RegsBut [tamidBase i + TM_STATUS_CAL_RUNNING.off] s t) ∧
  (∀ (i : Fin 8) (ev : TamidSlice) (carrier : Nat) (s : State), s.noneDue → ev = .done →
   s.tamid[i].slice = some (0, carrier) → ∃ t : State, exec (.tamidCalSlice i ev) s = .next t ∧
   t.flag (tamidBase i) TM_STATUS_CAL_RUNNING = false ∧ t.tamid[i].slice = none ∧
   t.carriers = (s.carriers.filter fun e => !(e.half == tamidHalf i && e.carrier == carrier)) ++ [⟨tamidHalf i,
     carrier, s.tick, s.halfTemp (tamidHalf i)⟩]) ∧
  (∀ (i : Fin 8) (ev : TamidSlice) (carrier : Nat) (s : State), s.noneDue → ev = .failed →
   s.tamid[i].slice = some (0, carrier) → s.takes (tamidSrc i 0x04) carrier → ∃ u : State,
   exec (.tamidCalSlice i ev) s = .next u.react ∧ u.tamid[i].slice = none ∧
   u.carriers = s.carriers.filter (fun e => !(e.half == tamidHalf i && e.carrier == carrier)) ∧
   u.isActive (tamidSrc i 0x04)) ∧
  (∀ (half : Fin 2) (carrier : Fin 16) (s : State), s.noneDue → ∃ t : State,
   exec (.tamidCacheExpiry half carrier) s = .next t ∧
   t.carriers = s.carriers.filter (fun e => !(e.half == half.val && e.carrier == carrier.val)) ∧
   t.carrierCached half.val carrier.val = false ∧ RegsBut [] s t)

/-- ADD, SUB, ADDI, CMP, CMPI, ADDS, SUBS, ABS and NEG: the result, the flags and the saturation that the instruction
gives, with the rest of the room unchanged. -/
def Obligations.EngineSums : Prop :=
  (∀ (r : Fin 16) (e : Fin 64) (x : Engine) (w : Word) (s : State), s.noneDue → s.engine r e.val = x →
   s.wordAt r e.val = w → s.executes r e.val 0x01 → ∃ t : State, exec (.engAdd r e) s = .next t ∧
   (t.engine r e.val).d = x.land.d.set (regD w) (x.s w + x.t w) ∧
   (t.engine r e.val).stat = mkStat ((x.s w + x.t w) == 0) (((x.s w + x.t w)).msb) (overflows ((x.s w).toInt +
     (x.t w).toInt)) (flagSat x.stat) ∧
   EngineOnly r e.val s t) ∧
  (∀ (r : Fin 16) (e : Fin 64) (x : Engine) (w : Word) (s : State), s.noneDue → s.engine r e.val = x →
   s.wordAt r e.val = w → s.executes r e.val 0x03 → ∃ t : State, exec (.engSub r e) s = .next t ∧
   (t.engine r e.val).d = x.land.d.set (regD w) (x.s w - x.t w) ∧
   (t.engine r e.val).stat = mkStat ((x.s w - x.t w) == 0) (((x.s w - x.t w)).msb) (overflows ((x.s w).toInt -
     (x.t w).toInt)) (flagSat x.stat) ∧
   EngineOnly r e.val s t) ∧
  (∀ (r : Fin 16) (e : Fin 64) (x : Engine) (w : Word) (s : State), s.noneDue → s.engine r e.val = x →
   s.wordAt r e.val = w → s.executes r e.val 0x11 → ∃ t : State, exec (.engAddi r e) s = .next t ∧
   (t.engine r e.val).d = x.land.d.set (regD w) (x.s w + imm16 w) ∧
   (t.engine r e.val).stat = mkStat ((x.s w + imm16 w) == 0) (((x.s w + imm16 w)).msb) (overflows ((x.s w).toInt
     + (imm16 w).toInt)) (flagSat x.stat) ∧
   EngineOnly r e.val s t) ∧
  (∀ (r : Fin 16) (e : Fin 64) (x : Engine) (w : Word) (s : State), s.noneDue → s.engine r e.val = x →
   s.wordAt r e.val = w → s.executes r e.val 0x0D → ∃ t : State, exec (.engCmp r e) s = .next t ∧
   (t.engine r e.val).d = x.land.d ∧
   (t.engine r e.val).stat = mkStat ((x.s w - x.t w) == 0) (((x.s w - x.t w)).msb) (overflows ((x.s w).toInt -
     (x.t w).toInt)) (flagSat x.stat) ∧
   EngineOnly r e.val s t) ∧
  (∀ (r : Fin 16) (e : Fin 64) (x : Engine) (w : Word) (s : State), s.noneDue → s.engine r e.val = x →
   s.wordAt r e.val = w → s.executes r e.val 0x15 → ∃ t : State, exec (.engCmpi r e) s = .next t ∧
   (t.engine r e.val).d = x.land.d ∧
   (t.engine r e.val).stat = mkStat ((x.s w - imm16 w) == 0) (((x.s w - imm16 w)).msb) (overflows ((x.s w).toInt
     - (imm16 w).toInt)) (flagSat x.stat) ∧
   EngineOnly r e.val s t) ∧
  (∀ (r : Fin 16) (e : Fin 64) (x : Engine) (w : Word) (s : State), s.noneDue → s.engine r e.val = x →
   s.wordAt r e.val = w → s.executes r e.val 0x02 → ∃ t : State, exec (.engAdds r e) s = .next t ∧
   (t.engine r e.val).d = x.land.d.set (regD w) (BitVec.ofInt 16 (satInt 16 ((x.s w).toInt + (x.t w).toInt))) ∧
   (t.engine r e.val).stat = mkStat ((BitVec.ofInt 16 (satInt 16 ((x.s w).toInt + (x.t w).toInt))) == 0)
     ((BitVec.ofInt 16 (satInt 16 ((x.s w).toInt + (x.t w).toInt))).msb) (flagV x.stat) (flagSat x.stat ||
     overflows ((x.s w).toInt + (x.t w).toInt)) ∧
   EngineOnly r e.val s t) ∧
  (∀ (r : Fin 16) (e : Fin 64) (x : Engine) (w : Word) (s : State), s.noneDue → s.engine r e.val = x →
   s.wordAt r e.val = w → s.executes r e.val 0x04 → ∃ t : State, exec (.engSubs r e) s = .next t ∧
   (t.engine r e.val).d = x.land.d.set (regD w) (BitVec.ofInt 16 (satInt 16 ((x.s w).toInt - (x.t w).toInt))) ∧
   (t.engine r e.val).stat = mkStat ((BitVec.ofInt 16 (satInt 16 ((x.s w).toInt - (x.t w).toInt))) == 0)
     ((BitVec.ofInt 16 (satInt 16 ((x.s w).toInt - (x.t w).toInt))).msb) (flagV x.stat) (flagSat x.stat ||
     overflows ((x.s w).toInt - (x.t w).toInt)) ∧
   EngineOnly r e.val s t) ∧
  (∀ (r : Fin 16) (e : Fin 64) (x : Engine) (w : Word) (s : State), s.noneDue → s.engine r e.val = x →
   s.wordAt r e.val = w → s.executes r e.val 0x0B → ∃ t : State, exec (.engAbs r e) s = .next t ∧
   (t.engine r e.val).d = x.land.d.set (regD w) (BitVec.ofInt 16 (satInt 16 ((x.s w).toInt.natAbs : Int))) ∧
   (t.engine r e.val).stat = mkStat ((BitVec.ofInt 16 (satInt 16 ((x.s w).toInt.natAbs : Int))) == 0)
     ((BitVec.ofInt 16 (satInt 16 ((x.s w).toInt.natAbs : Int))).msb) (flagV x.stat) (flagSat x.stat || overflows
     ((x.s w).toInt.natAbs : Int)) ∧
   EngineOnly r e.val s t) ∧
  (∀ (r : Fin 16) (e : Fin 64) (x : Engine) (w : Word) (s : State), s.noneDue → s.engine r e.val = x →
   s.wordAt r e.val = w → s.executes r e.val 0x0C → ∃ t : State, exec (.engNeg r e) s = .next t ∧
   (t.engine r e.val).d = x.land.d.set (regD w) (BitVec.ofInt 16 (satInt 16 (-(x.s w).toInt))) ∧
   (t.engine r e.val).stat = mkStat ((BitVec.ofInt 16 (satInt 16 (-(x.s w).toInt))) == 0) ((BitVec.ofInt 16
     (satInt 16 (-(x.s w).toInt))).msb) (flagV x.stat) (flagSat x.stat || overflows (-(x.s w).toInt)) ∧
   EngineOnly r e.val s t)

/-- AND, OR, XOR, the shifts, MOV, the immediates, NOP and HBT: the result and the flags, with the rest of the room
unchanged; HBT restarts the engine's watchdog period. -/
def Obligations.EngineLogicAndMoves : Prop :=
  (∀ (r : Fin 16) (e : Fin 64) (x : Engine) (w : Word) (s : State), s.noneDue → s.engine r e.val = x →
   s.wordAt r e.val = w → s.executes r e.val 0x05 → ∃ t : State, exec (.engAnd r e) s = .next t ∧
   (t.engine r e.val).d = x.land.d.set (regD w) (x.s w &&& x.t w) ∧
   (t.engine r e.val).stat = mkStat ((x.s w &&& x.t w) == 0) (((x.s w &&& x.t w)).msb) (flagV x.stat) (flagSat
     x.stat) ∧
   EngineOnly r e.val s t) ∧
  (∀ (r : Fin 16) (e : Fin 64) (x : Engine) (w : Word) (s : State), s.noneDue → s.engine r e.val = x →
   s.wordAt r e.val = w → s.executes r e.val 0x06 → ∃ t : State, exec (.engOr r e) s = .next t ∧
   (t.engine r e.val).d = x.land.d.set (regD w) (x.s w ||| x.t w) ∧
   (t.engine r e.val).stat = mkStat ((x.s w ||| x.t w) == 0) (((x.s w ||| x.t w)).msb) (flagV x.stat) (flagSat
     x.stat) ∧
   EngineOnly r e.val s t) ∧
  (∀ (r : Fin 16) (e : Fin 64) (x : Engine) (w : Word) (s : State), s.noneDue → s.engine r e.val = x →
   s.wordAt r e.val = w → s.executes r e.val 0x07 → ∃ t : State, exec (.engXor r e) s = .next t ∧
   (t.engine r e.val).d = x.land.d.set (regD w) (x.s w ^^^ x.t w) ∧
   (t.engine r e.val).stat = mkStat ((x.s w ^^^ x.t w) == 0) (((x.s w ^^^ x.t w)).msb) (flagV x.stat) (flagSat
     x.stat) ∧
   EngineOnly r e.val s t) ∧
  (∀ (r : Fin 16) (e : Fin 64) (x : Engine) (w : Word) (s : State), s.noneDue → s.engine r e.val = x →
   s.wordAt r e.val = w → s.executes r e.val 0x08 → ∃ t : State, exec (.engAsr r e) s = .next t ∧
   (t.engine r e.val).d = x.land.d.set (regD w) ((x.s w).sshiftRight ((x.t w).toNat % 16)) ∧
   (t.engine r e.val).stat = mkStat (((x.s w).sshiftRight ((x.t w).toNat % 16)) == 0) ((((x.s w).sshiftRight
     ((x.t w).toNat % 16))).msb) (flagV x.stat) (flagSat x.stat) ∧
   EngineOnly r e.val s t) ∧
  (∀ (r : Fin 16) (e : Fin 64) (x : Engine) (w : Word) (s : State), s.noneDue → s.engine r e.val = x →
   s.wordAt r e.val = w → s.executes r e.val 0x09 → ∃ t : State, exec (.engLsl r e) s = .next t ∧
   (t.engine r e.val).d = x.land.d.set (regD w) (x.s w <<< ((x.t w).toNat % 16)) ∧
   (t.engine r e.val).stat = mkStat ((x.s w <<< ((x.t w).toNat % 16)) == 0) (((x.s w <<< ((x.t w).toNat %
     16))).msb) (flagV x.stat) (flagSat x.stat) ∧
   EngineOnly r e.val s t) ∧
  (∀ (r : Fin 16) (e : Fin 64) (x : Engine) (w : Word) (s : State), s.noneDue → s.engine r e.val = x →
   s.wordAt r e.val = w → s.executes r e.val 0x0A → ∃ t : State, exec (.engLsr r e) s = .next t ∧
   (t.engine r e.val).d = x.land.d.set (regD w) (x.s w >>> ((x.t w).toNat % 16)) ∧
   (t.engine r e.val).stat = mkStat ((x.s w >>> ((x.t w).toNat % 16)) == 0) (((x.s w >>> ((x.t w).toNat %
     16))).msb) (flagV x.stat) (flagSat x.stat) ∧
   EngineOnly r e.val s t) ∧
  (∀ (r : Fin 16) (e : Fin 64) (x : Engine) (w : Word) (s : State), s.noneDue → s.engine r e.val = x →
   s.wordAt r e.val = w → s.executes r e.val 0x0E → ∃ t : State, exec (.engMov r e) s = .next t ∧
   (t.engine r e.val).d = x.land.d.set (regD w) (x.s w) ∧
   (t.engine r e.val).stat = mkStat ((x.s w) == 0) (((x.s w)).msb) (flagV x.stat) (flagSat x.stat) ∧
   EngineOnly r e.val s t) ∧
  (∀ (r : Fin 16) (e : Fin 64) (x : Engine) (w : Word) (s : State), s.noneDue → s.engine r e.val = x →
   s.wordAt r e.val = w → s.executes r e.val 0x12 → ∃ t : State, exec (.engAndi r e) s = .next t ∧
   (t.engine r e.val).d = x.land.d.set (regD w) (x.s w &&& imm16 w) ∧
   (t.engine r e.val).stat = mkStat ((x.s w &&& imm16 w) == 0) (((x.s w &&& imm16 w)).msb) (flagV x.stat)
     (flagSat x.stat) ∧
   EngineOnly r e.val s t) ∧
  (∀ (r : Fin 16) (e : Fin 64) (x : Engine) (w : Word) (s : State), s.noneDue → s.engine r e.val = x →
   s.wordAt r e.val = w → s.executes r e.val 0x13 → ∃ t : State, exec (.engAsri r e) s = .next t ∧
   (t.engine r e.val).d = x.land.d.set (regD w) ((x.s w).sshiftRight ((imm16 w).toNat % 16)) ∧
   (t.engine r e.val).stat = mkStat (((x.s w).sshiftRight ((imm16 w).toNat % 16)) == 0) ((((x.s w).sshiftRight
     ((imm16 w).toNat % 16))).msb) (flagV x.stat) (flagSat x.stat) ∧
   EngineOnly r e.val s t) ∧
  (∀ (r : Fin 16) (e : Fin 64) (x : Engine) (w : Word) (s : State), s.noneDue → s.engine r e.val = x →
   s.wordAt r e.val = w → s.executes r e.val 0x14 → ∃ t : State, exec (.engLsli r e) s = .next t ∧
   (t.engine r e.val).d = x.land.d.set (regD w) (x.s w <<< ((imm16 w).toNat % 16)) ∧
   (t.engine r e.val).stat = mkStat ((x.s w <<< ((imm16 w).toNat % 16)) == 0) (((x.s w <<< ((imm16 w).toNat %
     16))).msb) (flagV x.stat) (flagSat x.stat) ∧
   EngineOnly r e.val s t) ∧
  (∀ (r : Fin 16) (e : Fin 64) (x : Engine) (w : Word) (s : State), s.noneDue → s.engine r e.val = x →
   s.wordAt r e.val = w → s.executes r e.val 0x10 → ∃ t : State, exec (.engLdi r e) s = .next t ∧
   (t.engine r e.val).d = x.land.d.set (regD w) (imm16 w) ∧ (t.engine r e.val).stat = x.stat ∧
   EngineOnly r e.val s t) ∧
  (∀ (r : Fin 16) (e : Fin 64) (x : Engine) (w : Word) (s : State), s.noneDue → s.engine r e.val = x →
   s.wordAt r e.val = w → s.executes r e.val 0x00 → ∃ t : State, exec (.engNop r e) s = .next t ∧
   (t.engine r e.val).d = x.land.d ∧ (t.engine r e.val).stat = x.stat ∧ (t.engine r e.val).acc = x.acc ∧
   (t.engine r e.val).a = x.a ∧ EngineOnly r e.val s t) ∧
  (∀ (r : Fin 16) (e : Fin 64) (x : Engine) (w : Word) (s : State), s.noneDue → s.engine r e.val = x →
   s.wordAt r e.val = w → s.executes r e.val 0x37 → ∃ t : State, exec (.engHbt r e) s = .next t ∧
   (t.engine r e.val).hbtAt = s.tick ∧ (t.engine r e.val).d = x.land.d ∧ (t.engine r e.val).stat = x.stat ∧
   (t.engine r e.val).acc = x.acc ∧ (t.engine r e.val).a = x.a ∧ EngineOnly r e.val s t)

/-- SETA, SETO, MVDA, MVAD, LD, ST, LDD and MVFP: the address that each forms, the byte or word that it moves, and the
register that it updates. -/
def Obligations.EngineAddressesAndData : Prop :=
  (∀ (r : Fin 16) (e : Fin 64) (x : Engine) (w : Word) (s : State), s.noneDue → s.engine r e.val = x →
   s.wordAt r e.val = w → s.executes r e.val 0x18 → ∃ t : State, exec (.engSeta r e) s = .next t ∧
   (t.engine r e.val).unitReg (Fin.ofNat 4 (bitsAt w 24 2)) (bitsAt w 22 2) = BitVec.ofNat 12 (bitsAt w 0 12) ∧
   (t.engine r e.val).d = x.land.d ∧ EngineOnly r e.val s t) ∧
  (∀ (r : Fin 16) (e : Fin 64) (x : Engine) (w : Word) (s : State), s.noneDue → s.engine r e.val = x →
   s.wordAt r e.val = w → s.executes r e.val 0x19 → ∃ t : State, exec (.engSeto r e) s = .next t ∧
   (t.engine r e.val).o = x.o.set (Fin.ofNat 4 (bitsAt w 24 2)) (imm16 w) ∧ (t.engine r e.val).d = x.land.d ∧
   EngineOnly r e.val s t) ∧
  (∀ (r : Fin 16) (e : Fin 64) (x : Engine) (w : Word) (s : State), s.noneDue → s.engine r e.val = x →
   s.wordAt r e.val = w → s.executes r e.val 0x1A → ∃ t : State, exec (.engMvda r e) s = .next t ∧
   (t.engine r e.val).unitReg (Fin.ofNat 4 (bitsAt w 21 2)) (bitsAt w 19 2) = x.d[regD w].truncate 12 ∧
   (t.engine r e.val).d = x.land.d ∧ EngineOnly r e.val s t) ∧
  (∀ (r : Fin 16) (e : Fin 64) (x : Engine) (w : Word) (s : State), s.noneDue → s.engine r e.val = x →
   s.wordAt r e.val = w → s.executes r e.val 0x1B → ∃ t : State, exec (.engMvad r e) s = .next t ∧
   (t.engine r e.val).d = x.land.d.set (regD w) ((x.unitReg (Fin.ofNat 4 (bitsAt w 21 2)) (bitsAt w 19
     2)).zeroExtend 16) ∧
   EngineOnly r e.val s t) ∧
  (∀ (r : Fin 16) (e : Fin 64) (x : Engine) (w : Word) (s : State), s.noneDue → s.engine r e.val = x →
   s.wordAt r e.val = w → s.executes r e.val 0x20 → ∃ t : State, exec (.engLd r e) s = .next t ∧
   (t.engine r e.val).inFlight = [(regD w, s.dataWord r e.val x.a[addrM w])] ∧ (t.engine r e.val).d = x.land.d ∧
   (t.engine r e.val).a = (if bitsAt w 18 1 = 1 then (x.postMod (addrM w) (offM w)).a else x.a) ∧
   EngineOnly r e.val s t) ∧
  (∀ (r : Fin 16) (e : Fin 64) (x : Engine) (w : Word) (s : State), s.noneDue → s.engine r e.val = x →
   s.wordAt r e.val = w → s.executes r e.val 0x21 → ∃ t : State, exec (.engSt r e) s = .next t ∧
   t.dataWord r e.val x.a[addrM w] = x.d[regD w] ∧
   BytesBut (engineBase r e.val + 0x1000 + 2 * x.a[addrM w].toNat) 2 s t ∧ (t.engine r e.val).d = x.land.d ∧
   (t.engine r e.val).a = (if bitsAt w 18 1 = 1 then (x.postMod (addrM w) (offM w)).a else x.a) ∧ t.regs = s.regs) ∧
  (∀ (r : Fin 16) (e : Fin 64) (x : Engine) (w : Word) (s : State), s.noneDue → s.engine r e.val = x →
   s.wordAt r e.val = w → s.executes r e.val 0x22 → ∃ t : State, exec (.engLdd r e) s = .next t ∧
   (t.engine r e.val).inFlight = [(6, s.dataWord r e.val x.a[(0 : Fin 4)]), (7, s.dataWord r e.val x.a[(1 : Fin
     4)])] ∧
   (t.engine r e.val).d = x.land.d ∧ (t.engine r e.val).a = ((x.postMod 0 0).postMod 1 1).a ∧
   EngineOnly r e.val s t) ∧
  (∀ (r : Fin 16) (e : Fin 64) (x : Engine) (w : Word) (s : State), s.noneDue → s.engine r e.val = x →
   s.wordAt r e.val = w → s.executes r e.val 0x3E → ∃ t : State, exec (.engMvfp r e) s = .next t ∧
   (t.engine r e.val).fp[Fin.ofNat 2 (bitsAt w 23 1)] = x.d[Fin.ofNat 8 (2 * bitsAt w 24 2 + 1)] ++
     x.d[Fin.ofNat 8 (2 * bitsAt w 24 2)] ∧
   (t.engine r e.val).d = x.land.d ∧ EngineOnly r e.val s t)

/-- SHA, MAC, MSU, MPY, MACD, CLR, STA, MVAC and LACC: the accumulator's new value, with saturation where the
instruction gives it. -/
def Obligations.EngineAccumulators : Prop :=
  (∀ (r : Fin 16) (e : Fin 64) (x : Engine) (w : Word) (s : State), s.noneDue → s.engine r e.val = x →
   s.wordAt r e.val = w → s.executes r e.val 0x27 → ∃ t : State, exec (.engSha r e) s = .next t ∧
   (t.engine r e.val).acc = x.acc.set (accOf w) (BitVec.ofInt 40 (satInt 40 (shiftAcc (x.accSeen[accOf w]).toInt
     (bitsInt 5 (bitsAt w 11 5))))) ∧
   (t.engine r e.val).stat = mkStat (flagZ x.stat) (flagN x.stat) (flagV x.stat) (flagSat x.stat || decide
     (satInt 40 (shiftAcc (x.accSeen[accOf w]).toInt (bitsInt 5 (bitsAt w 11 5))) ≠ (shiftAcc (x.accSeen[accOf
     w]).toInt (bitsInt 5 (bitsAt w 11 5))))) ∧
   (t.engine r e.val).d = x.land.d ∧ EngineOnly r e.val s t) ∧
  (∀ (r : Fin 16) (e : Fin 64) (x : Engine) (w : Word) (s : State), s.noneDue → s.engine r e.val = x →
   s.wordAt r e.val = w → s.executes r e.val 0x28 → ∃ t : State, exec (.engMac r e) s = .next t ∧
   (t.engine r e.val).acc = x.acc.set (accOf w) (BitVec.ofInt 40 (satInt 40 ((x.acc[accOf w]).toInt + product w
     x))) ∧
   (t.engine r e.val).stat = mkStat (flagZ x.stat) (flagN x.stat) (flagV x.stat) (flagSat x.stat || decide
     (satInt 40 ((x.acc[accOf w]).toInt + product w x) ≠ ((x.acc[accOf w]).toInt + product w x))) ∧
   (t.engine r e.val).d = x.land.d ∧ EngineOnly r e.val s t) ∧
  (∀ (r : Fin 16) (e : Fin 64) (x : Engine) (w : Word) (s : State), s.noneDue → s.engine r e.val = x →
   s.wordAt r e.val = w → s.executes r e.val 0x29 → ∃ t : State, exec (.engMsu r e) s = .next t ∧
   (t.engine r e.val).acc = x.acc.set (accOf w) (BitVec.ofInt 40 (satInt 40 ((x.acc[accOf w]).toInt - product w
     x))) ∧
   (t.engine r e.val).stat = mkStat (flagZ x.stat) (flagN x.stat) (flagV x.stat) (flagSat x.stat || decide
     (satInt 40 ((x.acc[accOf w]).toInt - product w x) ≠ ((x.acc[accOf w]).toInt - product w x))) ∧
   (t.engine r e.val).d = x.land.d ∧ EngineOnly r e.val s t) ∧
  (∀ (r : Fin 16) (e : Fin 64) (x : Engine) (w : Word) (s : State), s.noneDue → s.engine r e.val = x →
   s.wordAt r e.val = w → s.executes r e.val 0x2A → ∃ t : State, exec (.engMpy r e) s = .next t ∧
   (t.engine r e.val).acc = x.acc.set (accOf w) (BitVec.ofInt 40 (satInt 40 (product w x))) ∧
   (t.engine r e.val).stat = mkStat (flagZ x.stat) (flagN x.stat) (flagV x.stat) (flagSat x.stat || decide
     (satInt 40 (product w x) ≠ (product w x))) ∧
   (t.engine r e.val).d = x.land.d ∧ EngineOnly r e.val s t) ∧
  (∀ (r : Fin 16) (e : Fin 64) (x : Engine) (w : Word) (s : State), s.noneDue → s.engine r e.val = x →
   s.wordAt r e.val = w → s.executes r e.val 0x2B → ∃ t : State, exec (.engMacd r e) s = .next t ∧
   (t.engine r e.val).acc = x.acc.set (accOf w) (BitVec.ofInt 40 (satInt 40 ((x.acc[accOf w]).toInt + x.d[(6 :
     Fin 8)].toInt * x.d[(7 : Fin 8)].toInt))) ∧
   (t.engine r e.val).stat = mkStat (flagZ x.stat) (flagN x.stat) (flagV x.stat) (flagSat x.stat || decide
     (satInt 40 ((x.acc[accOf w]).toInt + x.d[(6 : Fin 8)].toInt * x.d[(7 : Fin 8)].toInt) ≠ ((x.acc[accOf
     w]).toInt + x.d[(6 : Fin 8)].toInt * x.d[(7 : Fin 8)].toInt))) ∧
   (t.engine r e.val).d = x.land.d ∧
   (t.engine r e.val).inFlight = [(6, s.dataWord r e.val x.a[(0 : Fin 4)]), (7, s.dataWord r e.val x.a[(1 : Fin
     4)])] ∧
   (t.engine r e.val).a = ((x.postMod 0 0).postMod 1 1).a ∧ EngineOnly r e.val s t) ∧
  (∀ (r : Fin 16) (e : Fin 64) (x : Engine) (w : Word) (s : State), s.noneDue → s.engine r e.val = x →
   s.wordAt r e.val = w → s.executes r e.val 0x2C → ∃ t : State, exec (.engClr r e) s = .next t ∧
   (t.engine r e.val).acc = x.acc.set (accOf w) 0 ∧ (t.engine r e.val).stat = x.stat ∧
   (t.engine r e.val).d = x.land.d ∧ EngineOnly r e.val s t) ∧
  (∀ (r : Fin 16) (e : Fin 64) (x : Engine) (w : Word) (s : State), s.noneDue → s.engine r e.val = x →
   s.wordAt r e.val = w → s.executes r e.val 0x2D → ∃ t : State, exec (.engSta r e) s = .next t ∧
   t.dataWord r e.val x.a[Fin.ofNat 4 (bitsAt w 20 2)] = BitVec.ofInt 16 (satInt 16 (storeValue w x)) ∧
   BytesBut (engineBase r e.val + 0x1000 + 2 * x.a[Fin.ofNat 4 (bitsAt w 20 2)].toNat) 2 s t ∧
   (t.engine r e.val).stat = mkStat (flagZ x.stat) (flagN x.stat) (flagV x.stat) (flagSat x.stat || overflows
     (storeValue w x)) ∧
   (t.engine r e.val).d = x.land.d ∧
   (t.engine r e.val).a = (if bitsAt w 17 1 = 1 then (x.postMod (Fin.ofNat 4 (bitsAt w 20 2)) (Fin.ofNat 4
     (bitsAt w 18 2))).a else x.a) ∧
   t.regs = s.regs) ∧
  (∀ (r : Fin 16) (e : Fin 64) (x : Engine) (w : Word) (s : State), s.noneDue → s.engine r e.val = x →
   s.wordAt r e.val = w → s.executes r e.val 0x2E → ∃ t : State, exec (.engMvac r e) s = .next t ∧
   (t.engine r e.val).d = x.land.d.set (Fin.ofNat 8 (bitsAt w 22 3)) (BitVec.ofInt 16 (satInt 16 (storeValue w
     x))) ∧
   (t.engine r e.val).stat = mkStat (flagZ x.stat) (flagN x.stat) (flagV x.stat) (flagSat x.stat || overflows
     (storeValue w x)) ∧
   EngineOnly r e.val s t) ∧
  (∀ (r : Fin 16) (e : Fin 64) (x : Engine) (w : Word) (s : State), s.noneDue → s.engine r e.val = x →
   s.wordAt r e.val = w → s.executes r e.val 0x2F → ∃ t : State, exec (.engLacc r e) s = .next t ∧
   (t.engine r e.val).acc = x.acc.set (accOf w) (BitVec.ofInt 40 ((x.d[Fin.ofNat 8 (bitsAt w 22 3)]).toInt * 2 ^
     bitsAt w 12 4)) ∧
   (t.engine r e.val).stat = x.stat ∧ (t.engine r e.val).d = x.land.d ∧ EngineOnly r e.val s t)

/-- The interleaver puts each symbol of each inner codeword at one line symbol and each line symbol carries one symbol
of one codeword; the inverse precoder undoes the precoder; a codeword has syndrome 0 and even parity and the frame
marker has syndrome 0x7F and even parity, for every message; a line stream has no saturated code when 3 times the sum
of the magnitudes of the taps plus the magnitude of the table entry is at most 127 LSB; and a valid tap set of a host
transmitter never exceeds the full-scale swing. No command of the table moves a symbol (log 105): the functions say
what the state makes of a stream. -/
def Obligations.DatapathArithmetic : Prop :=
  (∀ m : Nat, (lineSource m).2 < 64 ∧ (0 ≤ (lineSource m).1 →
   linePlace (lineSource m).1.toNat (lineSource m).2 = m)) ∧
  (∀ j k : Nat, k < 64 → lineSource (linePlace j k) = ((j : Int), k)) ∧
  (∀ (p : Nat) (l : List Nat), p < 4 → (∀ g ∈ l, g < 4) → unprecode p (precode p l) = l) ∧
  (∀ msg : List Bool, msg.length = 120 → syndrome (innerEncode msg) = 0 ∧ parity (innerEncode msg) = false ∧
   syndrome (invertMark (innerEncode msg)) = 0x7F ∧ parity (invertMark (innerEncode msg)) = false) ∧
  (∀ (taps : List Int) (a : Nat → Nat) (m : Nat) (e : Int), (∀ i : Nat, a i < 4) →
   3 * (taps.map fun c => |c|).sum + |e| ≤ 127 * 16 → codeSaturates 64 (firSum taps a m + e) = false) ∧
  (∀ (s : State) (h : Fin 16) (a : Nat → Nat) (m : Nat), (∀ i : Nat, a i < 4) →
   ((s.hostTaps h HT_FIR_CUR).map fun c => |c|).sum ≤ 64 → |s.hostVolts h a m| ≤ (s.hostSwing h : Rat) / 2)

/-- Core lock and its loss, the synthesisers, holdover and free running, sync edges, the crystal and the calendar: the
status bits, the clock, and what is latched. A sync edge that follows an event by less than 1 µs, counted to 1/32 of a
core tick, is ignored and counted. -/
def Obligations.ClocksAndTime : Prop :=
  (∀ s : State, s.noneDue → s.boot.resetHigh = true → s.flag clockBase CLK_STATUS_CORE_LOCK = false →
   s.flag clockBase CLK_STATUS_FREE_RUN = false → ∃ t : State, exec .corePllLock s = .next t ∧
   t.flag clockBase CLK_STATUS_CORE_LOCK = true ∧ t.flag clockBase CLK_STATUS_REF_OK = true ∧
   t.fld clockBase CLK_STATUS_CAL_SRC = 0 ∧ t.clock = { s.clock with running := true, deviceTime := 0 } ∧
   RegsBut [clockBase] s t) ∧
  (∀ (k : Fin 4) (s : State), s.noneDue → s.flag clockBase CLK_STATUS_CORE_LOCK = true → s.synLocked k.val = false →
   ∃ t : State, exec (.synthLock k) s = .next t ∧ t.synLocked k.val = true ∧ t.clock.synLoss[k] = none ∧
   (∀ n ∈ synLines k, n ∉ t.clock.sqLine) ∧ ∀ m ∈ synHosts k, m ∉ t.clock.sqHost) ∧
  (∀ (freq : Bool) (s : State), s.noneDue → s.boot.resetHigh = true → s.fuse.rails.contains 0x5100 = false →
   s.flag clockBase CLK_STATUS_CORE_LOCK = true → s.flag clockBase CLK_STATUS_FREE_RUN = false →
   s.takes 0x5100 (if freq then 1 else 0) → ∃ u : State, exec (.refLoss freq) s = .next u.react ∧
   u.flag clockBase CLK_STATUS_REF_OK = false ∧ u.flag clockBase CLK_STATUS_HOLDOVER = true ∧
   u.fld clockBase CLK_STATUS_CAL_SRC = (if s.flag clockBase CLK_STATUS_XTAL_OK then 2 else 1) ∧
   u.isActive 0x5100) ∧
  (∀ (freq : Bool) (s : State), s.noneDue → s.boot.resetHigh = true → s.fuse.rails.contains 0x5100 = false →
   s.flag clockBase CLK_STATUS_CORE_LOCK = false → s.flag clockBase CLK_STATUS_FREE_RUN = false → ∃ t : State,
   exec (.refLoss freq) s = .next t ∧ t.flag clockBase CLK_STATUS_REF_OK = false ∧
   t.flag clockBase CLK_STATUS_FREE_RUN = true ∧ t.clock.running = true) ∧
  (∀ s : State, s.noneDue → s.flag clockBase CLK_STATUS_HOLDOVER = true → ∃ t : State, exec .holdoverEnd s = .next t ∧
   t.flag clockBase CLK_STATUS_FREE_RUN = true ∧ t.flag clockBase CLK_STATUS_HOLDOVER = false ∧
   t.flag clockBase CLK_STATUS_CORE_LOCK = false ∧ t.flag clockBase CLK_STATUS_DT_SYNCED = false ∧
   ∀ k : Fin 4, t.synLocked k.val = false) ∧
  (∀ s : State, s.noneDue → s.flag clockBase CLK_STATUS_CORE_LOCK = true → ∃ t : State, exec .coreUnlock s = .next t ∧
   t = ((s.raise 0x5102 0).clockLoss).react ∧ t.flag clockBase CLK_STATUS_FREE_RUN = true ∧
   t.flag clockBase CLK_STATUS_CORE_LOCK = false ∧ ∀ k : Fin 4, t.synLocked k.val = false) ∧
  (∀ (locks : Bool) (s : State), s.noneDue → s.flag clockBase CLK_STATUS_HOLDOVER = true →
   s.flag clockBase CLK_STATUS_REF_OK = false → ∃ t : State, exec (.refReturn locks) s = .next t ∧
   t.flag clockBase CLK_STATUS_REF_OK = true ∧ t.flag clockBase CLK_STATUS_HOLDOVER = false ∧
   t.fld clockBase CLK_STATUS_CAL_SRC = 0) ∧
  (∀ (locks : Bool) (s : State), s.noneDue → s.flag clockBase CLK_STATUS_HOLDOVER = false →
   s.flag clockBase CLK_STATUS_FREE_RUN = true → s.flag clockBase CLK_STATUS_CORE_LOCK = false → ∃ t : State,
   exec (.refReturn locks) s = .next t ∧ t.flag clockBase CLK_STATUS_REF_OK = true ∧
   t.flag clockBase CLK_STATUS_CORE_LOCK = locks ∧ t.flag clockBase CLK_STATUS_FREE_RUN = !locks) ∧
  (∀ (locks : Bool) (s : State), s.noneDue → s.flag clockBase CLK_STATUS_FREE_RUN = true →
   s.flag clockBase CLK_STATUS_REF_OK = true → s.flag clockBase CLK_STATUS_CORE_LOCK = false → ∃ t : State,
   exec (.coreRelockRetry locks) s = .next t ∧ t.flag clockBase CLK_STATUS_CORE_LOCK = locks ∧
   t.flag clockBase CLK_STATUS_FREE_RUN = !locks ∧ RegsBut [clockBase] s t) ∧
  (∀ (k : Fin 4) (s : State), s.noneDue → s.synLocked k.val = true → ∃ t : State, exec (.synthUnlock k) s = .next t ∧
   t = ((s.raise 0x5103 k.val).synStop k).react ∧ t.synLocked k.val = false ∧
   (∀ n ∈ synLines k, n ∈ t.clock.sqLine) ∧ ∀ m ∈ synHosts k, m ∈ t.clock.sqHost) ∧
  (∀ (fine : Fin 32) (explicitToo : Bool) (s : State), s.noneDue → s.syncOpen = true →
   s.fld clockBase SYNC_CTRL_MODE ≠ 0 →
   s.syncClose fine.val = false → ∃ t : State, exec (.syncInEdge fine explicitToo) s = .next t ∧
   t.clock.lastSync = some (s.syncInstant fine.val) ∧
   t.fld clockBase SYNC_CAP_LO_CAP = s.clock.deviceTime % 2 ^ 32 ∧
   t.fld clockBase SYNC_STAT_SEQ = (s.fld clockBase SYNC_STAT_SEQ + 1) % 2 ^ SYNC_STAT_SEQ.width ∧
   t.flag clockBase SYNC_STAT_SRC = false ∧ t.fld clockBase SYNC_STAT_FINE = fine.val) ∧
  (∀ (fine : Fin 32) (explicitToo : Bool) (s : State), s.noneDue → s.syncOpen = true →
   s.fld clockBase SYNC_CTRL_MODE ≠ 0 → s.syncClose fine.val = true → explicitToo = false → ∃ u : State,
   exec (.syncInEdge fine explicitToo) s = .next u.react ∧ u.clock.lastSync = s.clock.lastSync ∧
   u.fld clockBase SYNC_STAT_SEQ = s.fld clockBase SYNC_STAT_SEQ ∧
   u.fld clockBase SYNC_STAT_IGNORED = satNat SYNC_STAT_IGNORED.width (s.fld clockBase SYNC_STAT_IGNORED + 1)) ∧
  (∀ s : State, s.noneDue → s.syncOpen = true → ∃ t : State, exec .syncNow s = .next t ∧
   t.clock.lastSync = some (s.syncInstant 0) ∧
   t.fld clockBase SYNC_CAP_LO_CAP = s.clock.deviceTime % 2 ^ 32 ∧
   t.fld clockBase SYNC_STAT_SEQ = (s.fld clockBase SYNC_STAT_SEQ + 1) % 2 ^ SYNC_STAT_SEQ.width ∧
   t.flag clockBase SYNC_STAT_SRC = true ∧ t.fld clockBase SYNC_STAT_FINE = 0) ∧
  (∀ (trim temp : Int) (s : State), s.noneDue → s.flag clockBase CLK_STATUS_REF_OK = true → ∃ t : State,
   exec (.aoDiscipline trim temp) s = .next t ∧ t.fld clockBase CLK_STATUS_DISC_AGE = 0 ∧
   (trimBin temp, trim) ∈ t.clock.trims ∧ t.clock.aoHour = 0 ∧ RegsBut [clockBase] s t) ∧
  (∀ s : State, s.noneDue → s.clock.oldRaised = false → s.fld clockBase CLK_STATUS_DISC_AGE ≠ 0xFFFF →
   s.takes 0x5109 (max (s.fld clockBase CLK_STATUS_DISC_AGE) 168) → ∃ u : State,
   exec .disciplineOld s = .next u.react ∧
   u.fld clockBase CLK_STATUS_DISC_AGE = max (s.fld clockBase CLK_STATUS_DISC_AGE) 168 ∧
   u.clock.oldRaised = true ∧ u.isActive 0x5109) ∧
  (∀ s : State, s.noneDue → s.flag clockBase CLK_STATUS_XTAL_OK = true → s.takes 0x5107 0 → ∃ u : State,
   exec .xtalFail s = .next u.react ∧ u.flag clockBase CLK_STATUS_XTAL_OK = false ∧
   u.fld clockBase CLK_STATUS_CAL_SRC = (if s.flag clockBase CLK_STATUS_REF_OK then 0 else 1) ∧ u.isActive 0x5107) ∧
  (∀ s : State, s.noneDue → ∃ t : State, exec .calSecLoRead s = .next t ∧
   t.link.readData = BitVec.ofNat 32 s.clock.calSec ∧
   t.fld clockBase CAL_SEC_HI_SEC = s.clock.calSec / 2 ^ 32 % 2 ^ CAL_SEC_HI_SEC.width ∧
   t.fld clockBase CAL_USEC_USEC = s.clock.calUsec % 2 ^ CAL_USEC_USEC.width ∧
   RegsBut [clockBase + CAL_SEC_HI_SEC.off, clockBase + CAL_USEC_USEC.off] s t)

/-- Following beyond 150 ppm of the nominal rate and back in range, skew and slip within a pair and a group against
their budgets, the realignment of a profile change (log 111), the end of a lane-mode change, and the recomputation and
settling of a ledger at the nominal latency of Table 2-8, a departure of at most 1.5 ns, and the wait. -/
def Obligations.LaneManagement : Prop :=
  (∀ (n : Fin 8) (stream : Option (Fin 16)) (ppm : Rat) (m : Fin 16) (s : State), s.noneDue →
   s.judged n stream = true → 150 < |ppm| → stream ∉ s.line[n].link.outOfRange → stream = some m →
   ∃ u : State, exec (.followRange n stream ppm) s = .next u.react ∧ stream ∈ u.line[n].link.outOfRange ∧
   (s.line[n].link.outOfRange = [] → s.takes (lineSrc n 0x22) (0x8000 + m.val) → u.isActive (lineSrc n 0x22))) ∧
  (∀ (n : Fin 8) (stream : Option (Fin 16)) (ppm : Rat) (s : State), s.noneDue →
   s.judged n stream = true → 150 < |ppm| → stream ∉ s.line[n].link.outOfRange → stream = none →
   ∃ u : State, exec (.followRange n stream ppm) s = .next u.react ∧ stream ∈ u.line[n].link.outOfRange ∧
   (s.line[n].link.outOfRange = [] → (∀ v : Nat, s.takes (lineSrc n 0x22) v) → u.isActive (lineSrc n 0x22))) ∧
  (∀ (n : Fin 8) (stream : Option (Fin 16)) (ppm : Rat) (s : State), s.noneDue → |ppm| ≤ 150 → ∃ u : State,
   exec (.followRangeEnd n stream ppm) s = .next u.react ∧ stream ∉ u.line[n].link.outOfRange ∧
   (s.line[n].link.outOfRange = [stream] → lineSrc n 0x22 ∉ u.fuse.rails)) ∧
  (∀ (n : Fin 8) (skew : Nat) (slips : Bool) (s : State), s.noneDue → s.pairRuns n = true →
   (64000 < skew ∨ slips = true) → (∀ v : Nat, s.takes (lineSrc n 0x21) v) → ∃ u : State,
   exec (.pairSlip n skew slips) s = .next u.react ∧ u.line[n].link.pairFill = true ∧
   u.flag (lineBase n) LEDGER_TX0_UNSETTLED = true ∧ u.flag (lineBase n) LEDGER_TX1_UNSETTLED = true ∧
   u.isActive (lineSrc n 0x21)) ∧
  (∀ (n : Fin 8) (s : State), s.noneDue → s.line[n].link.pairFill = true → ∃ u : State,
   exec (.pairRealignDone n) s = .next u.react ∧ u.line[n].link.pairFill = false) ∧
  (∀ (n : Fin 8) (host : Bool) (skew : Nat) (s : State), s.noneDue → 1 < (s.groupOf n).length →
   deskewBudget host < skew → s.takes (lineSrc (s.groupLead n) 0x20) (deskewDetail host skew) → ∃ u : State,
   exec (.deskewRange n host skew) s = .next u.react ∧ u.isActive (lineSrc (s.groupLead n) 0x20) ∧
   ∀ k ∈ s.groupOf n, (if host then u.line[k].link.deskewTx else u.line[k].link.deskewRx) = true) ∧
  (∀ (n : Fin 8) (host : Bool) (skew : Nat) (s : State), s.noneDue → skew ≤ deskewBudget host →
   (if host then s.line[n].link.deskewTx else s.line[n].link.deskewRx) = true → n ∈ s.groupOf n → ∃ u : State,
   exec (.deskewRetry n host skew) s = .next u.react ∧
   (if host then u.line[n].link.deskewTx else u.line[n].link.deskewRx) = false ∧
   u.flag (lineBase n) (if host then LEDGER_TX0_UNSETTLED else LEDGER_RX_UNSETTLED) = true) ∧
  (∀ (n : Fin 8) (host : Bool) (skew : Nat) (s : State), s.noneDue → deskewBudget host < skew →
   exec (.deskewRetry n host skew) s = .next s) ∧
  (∀ (n : Fin 8) (s : State), s.noneDue → s.line[n].link.groupFill = true → n ∈ s.groupOf n → ∃ u : State,
   exec (.groupRealignDone n) s = .next u.react ∧ u.line[n].link.groupFill = false ∧
   u.lanes.mode = s.lanes.mode ∧ u.lanes.grouping = s.lanes.grouping) ∧
  (∀ (o : Origin) (s : State), s.noneDue → s.lanes.modeChange ≠ [] → s.link.running = [⟨o, 0x0004, 0⟩] →
   s.link.waiting = [] → s.link.outbox.length < 4 → ∃ t : State, exec .laneModeChangeDone s = .next t ∧
   t.lanes = { s.lanes with modeChange := [] } ∧ t.link.running = [] ∧ Answered s t o stOk []) ∧
  (∀ (n : Fin 8) (ch : ProfileChange) (s : State), s.noneDue → s.lanes.change = some ch → ch.switching = none →
   s.nextGroup ch = some (s.groupLead n) → s.groupFading n = false → n ∈ s.groupOf n → ∃ u : State,
   exec (.profileGroupSwitch n) s = .next u.react ∧
   u.lanes.change = some { ch with
     left := ch.left.filter (fun k => !((s.groupOf n).map Fin.val).contains k),
     switching := some (s.groupLead n).val } ∧
   u.fld (lineBase n) FEC_STATUS_CHASE_L = chaseL ch.target ∧ u.line[n].link.profileFill = true ∧
   u.flag (lineBase n) LEDGER_RX_UNSETTLED = true) ∧
  (∀ (n : Fin 8) (ch : ProfileChange) (s : State), s.noneDue → s.lanes.change = some ch →
   (ch.switching.map fun k => s.groupLead (Fin.ofNat 8 k)) = some (s.groupLead n) → ch.left ≠ [] → ∃ u : State,
   exec (.profileGroupRealigned n) s = .next u.react ∧
   u.lanes = { s.lanes with change := some { ch with switching := none } } ∧
   u.fld systemBase STATUS_PROFILE = s.fld systemBase STATUS_PROFILE) ∧
  (∀ (n : Fin 8) (ch : ProfileChange) (o : Origin) (s : State), s.noneDue → s.lanes.change = some ch →
   (ch.switching.map fun k => s.groupLead (Fin.ofNat 8 k)) = some (s.groupLead n) → ch.left = [] → ch.target ≤ 3 →
   s.lanes.wanted = none →
   s.link.running = [⟨o, 0x0003, ch.target⟩] → ∃ u : State, exec (.profileGroupRealigned n) s = .next u.react ∧
   u.lanes.change = none ∧ u.fld systemBase STATUS_PROFILE = ch.target ∧ u.link.running = []) ∧
  (∀ (n : Fin 8) (which : Fin 3) (dev : Int) (wait : BitVec 16) (unsettling : Bool) (s : State), s.noneDue →
   unsettling = true → ∃ t : State, exec (.ledgerRecompute n which dev wait unsettling) s = .next t ∧
   t.flag (lineBase n) (ledgerUnsettled which.val) = true ∧
   RegsBut [lineBase n + (ledgerUnsettled which.val).off] s t) ∧
  (∀ (n : Fin 8) (which : Fin 3) (dev : Int) (wait : BitVec 16) (unsettling : Bool) (s : State), s.noneDue →
   unsettling = false → s.flag (lineBase n) (ledgerUnsettled which.val) = false →
   ledgerMoved (s.fld (lineBase n) (ledgerPs which.val)) (s.ledgerValue n which.val dev wait.toNat) = true →
   ∃ t : State, exec (.ledgerRecompute n which dev wait unsettling) s = .next t ∧
   t.fld (lineBase n) (ledgerPs which.val) = s.ledgerValue n which.val dev wait.toNat ∧
   t.fld (lineBase n) (ledgerSeq which.val) = (s.fld (lineBase n) (ledgerSeq which.val) + 1) % 2 ^ (ledgerSeq
     which.val).width ∧
   t.flag systemBase ATTN_CAUSE_LEDGER = true) ∧
  (∀ (n : Fin 8) (which : Fin 3) (dev : Int) (wait : BitVec 16) (unsettling : Bool) (s : State), s.noneDue →
   unsettling = false →
   (s.flag (lineBase n) (ledgerUnsettled which.val) = true ∨ ledgerMoved (s.fld (lineBase n) (ledgerPs
     which.val)) (s.ledgerValue n which.val dev wait.toNat) = false) →
   exec (.ledgerRecompute n which dev wait unsettling) s = .next s) ∧
  (∀ (n : Fin 8) (which : Fin 3) (dev : Int) (wait : BitVec 16) (unsettling : Bool) (s : State), s.noneDue →
   unsettling = false → s.flag (lineBase n) (ledgerUnsettled which.val) = true →
   s.ledgerReady n which.val = true → ∃ t : State, exec (.ledgerSettle n which dev wait unsettling) s = .next t ∧
   t.flag (lineBase n) (ledgerUnsettled which.val) = false ∧
   t.fld (lineBase n) (ledgerPs which.val) = s.ledgerValue n which.val dev wait.toNat ∧
   t.fld (lineBase n) (ledgerSeq which.val) = (s.fld (lineBase n) (ledgerSeq which.val) + 1) % 2 ^ (ledgerSeq
     which.val).width ∧
   t.flag systemBase ATTN_CAUSE_LEDGER = true)

/-- FIR glides, the pre-distortion banks and their fades, saturation counts, the rotation of the current cells, the
trims of the sub-DACs (log 124), and cells that fail or degrade (log 125). -/
def Obligations.ShapingAndCurrentCells : Prop :=
  (∀ (n : Fin 8) (s : State), s.noneDue → s.flag (lineBase n) TX_STATUS_GLIDING = false → ∃ t : State,
   exec (.txFirApply n) s = .next t ∧ t.flag (lineBase n) TX_STATUS_GLIDING = true ∧
   t.line[n].tx.glideFrom = s.firTaps n TX_FIR_CUR ∧ t.line[n].tx.glideTo = s.firTaps n TX_FIR_TARGET ∧
   t.line[n].tx.glideStep = 0 ∧ RegsBut [lineBase n + TX_STATUS_GLIDING.off] s t) ∧
  (∀ (n : Fin 8) (s : State), s.noneDue → s.flag (lineBase n) TX_STATUS_GLIDING = true → ∃ t : State,
   exec (.txFirApply n) s = .next t ∧
   t.fld (lineBase n) TX_STATUS_FIR_BUSY = satNat TX_STATUS_FIR_BUSY.width (s.fld (lineBase n)
     TX_STATUS_FIR_BUSY + 1) ∧
   RegsBut [lineBase n + TX_STATUS_FIR_BUSY.off] s t ∧ t.line = s.line) ∧
  (∀ (n : Fin 8) (s : State), s.noneDue → s.flag (lineBase n) TX_STATUS_GLIDING = true →
   s.lineTxTask n 0 = true → ∃ t : State, exec (.txGlideStep n) s = .next t ∧
   (∀ k : Fin 9, t.fld (lineBase n) (TX_FIR_CUR.ix k.val) = intBits 12 (glideTap (s.line[n].tx.glideFrom.getD
     k.val 0) (s.line[n].tx.glideTo.getD k.val 0) s.line[n].tx.glideStep)) ∧
   t.line[n].tx.glideStep = s.line[n].tx.glideStep + 1 ∧
   t.flag (lineBase n) TX_STATUS_GLIDING = decide (s.line[n].tx.glideStep < 63)) ∧
  (∀ (n : Fin 8) (stopping : Bool) (s : State), s.noneDue → s.fadeBusy n pdRegs = false →
   s.changeWaits n = false → s.pdInUse n = true → s.transmitting n = true → stopping = false → ∃ t : State,
   exec (.pdSwap n stopping) s = .next t ∧ t.flag (lineBase n) PD_STATUS_FADING = true ∧
   RegsBut [lineBase n + PD_STATUS_FADING.off] s t) ∧
  (∀ (n : Fin 8) (stopping : Bool) (s : State), s.noneDue → s.fadeBusy n pdRegs = false →
   s.changeWaits n = false → s.pdInUse n = true → s.transmitting n = true → stopping = true → ∃ u : State,
   exec (.pdSwap n stopping) s = .next u.react ∧ u.flag (lineBase n) PD_STATUS_FADING = false ∧
   u.flag (lineBase n) PD_STATUS_FADE_PENDING = true ∧
   u.fld (lineBase n) pdRegs.restarts = satNat pdRegs.restarts.width (s.fld (lineBase n) pdRegs.restarts + 1)) ∧
  (∀ (n : Fin 8) (stopping : Bool) (s : State), s.noneDue →
   (s.fadeBusy n pdRegs = true ∨ s.changeWaits n = true) → stopping = false → ∃ t : State,
   exec (.pdSwap n stopping) s = .next t ∧
   t.fld (lineBase n) PD_STATUS_BUSY_COUNT = satNat PD_STATUS_BUSY_COUNT.width (s.fld (lineBase n)
     PD_STATUS_BUSY_COUNT + 1) ∧
   RegsBut [lineBase n + PD_STATUS_BUSY_COUNT.off] s t) ∧
  (∀ (n : Fin 8) (s : State), s.noneDue → s.flag (lineBase n) PD_STATUS_FADING = true →
   s.fld (lineBase n) PD_STATUS_ACTIVE_BANK ≤ 1 → ∃ t : State, exec (.pdFadeComplete n) s = .next t ∧
   t.fld (lineBase n) PD_STATUS_ACTIVE_BANK = 1 - s.fld (lineBase n) PD_STATUS_ACTIVE_BANK ∧
   t.flag (lineBase n) PD_STATUS_FADING = false ∧ t.flag (lineBase n) PD_STATUS_FADE_PENDING = false) ∧
  (∀ (n : Fin 8) (s : State), s.noneDue → s.txState n = 5 → s.flag (lineBase n) PD_STATUS_FADE_PENDING = true →
   ∃ t : State, exec (.pdFadeResume n) s = .next t ∧ t.flag (lineBase n) PD_STATUS_FADE_PENDING = false ∧
   t.flag (lineBase n) PD_STATUS_FADING = true ∧ RegsBut [lineBase n + PD_STATUS_FADING.off] s t) ∧
  (∀ (n : Fin 8) (bank : Fin 2) (idx : Fin 1024) (value : BitVec 10) (swap : Bool) (s : State), s.noneDue →
   bank.val ≠ s.fld (lineBase n) PD_STATUS_ACTIVE_BANK → s.fadeBusy n pdRegs = false → swap = false →
   ∃ t : State, exec (.pdBankWrite n bank idx value swap) s = .next t ∧
   t.fld (lineBase n) ((if bank.val = 0 then PD_B0_ENTRY else PD_B1_ENTRY).ix idx.val) = value.toNat ∧
   RegsBut [lineBase n + ((if bank.val = 0 then PD_B0_ENTRY else PD_B1_ENTRY).ix idx.val).off] s t) ∧
  (∀ (n : Fin 8) (bank : Fin 2) (idx : Fin 1024) (value : BitVec 10) (swap : Bool) (s : State), s.noneDue →
   (bank.val = s.fld (lineBase n) PD_STATUS_ACTIVE_BANK ∨ s.fadeBusy n pdRegs = true ∨ swap = true) →
   ∃ t : State, exec (.pdBankWrite n bank idx value swap) s = .next t ∧
   t.fld (lineBase n) PD_STATUS_WR_REJECT = satNat PD_STATUS_WR_REJECT.width (s.fld (lineBase n)
     PD_STATUS_WR_REJECT + 1) ∧
   RegsBut [lineBase n + PD_STATUS_WR_REJECT.off] s t) ∧
  (∀ (n : Fin 8) (en : Bool) (s : State), s.noneDue → (en = true ∨ s.fadeBusy n pdRegs = false) → ∃ t : State,
   exec (.pdEnWrite n en) s = .next t ∧ t.flag (lineBase n) TX_CTRL_PD_EN = en ∧
   RegsBut [lineBase n + TX_CTRL_PD_EN.off] s t) ∧
  (∀ (n : Fin 8) (count : Nat) (s : State), s.noneDue → 0 < count → ∃ u : State,
   exec (.txSatWindow n count) s = .next u.react ∧
   u.fld (lineBase n) TX_SAT_SAT_COUNT = satNat TX_SAT_SAT_COUNT.width (s.fld (lineBase n) TX_SAT_SAT_COUNT +
     count)) ∧
  (∀ (n : Fin 8) (sub : Fin 4) (c : Nat) (s : State), s.noneDue → s.subWorks n sub = true →
   s.line[n].tx.subs[sub].underTrim = none → s.fld (lineBase n) TX_CTRL_CELL_PERIOD ≠ 0 →
   s.line[n].tx.subs[sub].target = some c → ∃ t : State, exec (.cellRotationStep n sub) s = .next t ∧
   t.line[n].tx.subs[sub].underTrim = some c ∧ t.line[n].tx.subs[sub].spareOf c = none ∧
   t.fld (lineBase n) (DAC_STATUS_ROT_COUNT sub.val) = (s.fld (lineBase n) (DAC_STATUS_ROT_COUNT sub.val) + 1) %
     2 ^ (DAC_STATUS_ROT_COUNT sub.val).width ∧
   RegsBut [lineBase n + (DAC_STATUS_ROT_COUNT sub.val).off] s t) ∧
  (∀ (n : Fin 8) (sub : Fin 4) (c : Nat) (s : State), s.noneDue → s.line[n].tx.subs[sub].underTrim = some c →
   s.line[n].tx.subs[sub].degraded = [] → ∃ t : State, exec (.cellTrimDone n sub) s = .next t ∧
   t.line[n].tx.subs[sub].underTrim = none ∧ t.line[n].tx.subs[sub].spareOf c = some c ∧
   t.line[n].tx.subs[sub].order = s.line[n].tx.subs[sub].order.filter (· != c) ++ [c] ∧ RegsBut [] s t) ∧
  (∀ (n : Fin 8) (sub : Fin 4) (cell : Fin 68) (handover : Option (Fin 68)) (v : Nat) (s : State), s.noneDue →
   2 ≤ s.txState n → cell.val ∉ s.line[n].tx.subs[sub].out → s.line[n].tx.subs[sub].inMap cell.val = true →
   s.line[n].tx.subs[sub].spareOf cell.val = some v → ∃ u : State,
   exec (.dacCellAbrupt n sub cell handover) s = .next u.react ∧ cell.val ∈ u.line[n].tx.subs[sub].out ∧
   u.line[n].tx.subs[sub].spareOf cell.val = none ∧ u.flag (lineBase n) (spareNoneOf sub cell.val) = true) ∧
  (∀ (n : Fin 8) (sub : Fin 4) (cell : Fin 68) (handover : Option (Fin 68)) (s : State), s.noneDue →
   2 ≤ s.txState n → cell.val ∉ s.line[n].tx.subs[sub].out → s.line[n].tx.subs[sub].inMap cell.val = true →
   s.line[n].tx.subs[sub].spareOf cell.val = none → s.line[n].tx.subs[sub].underTrim = none →
   s.takes (lineSrc n 0x62) (cellDetail sub cell.val) → ∃ u : State,
   exec (.dacCellAbrupt n sub cell handover) s = .next u.react ∧ cell.val ∈ u.line[n].tx.subs[sub].out ∧
   u.flag (lineBase n) (DAC_STATUS_PERSIST sub.val) = true ∧ u.isActive (lineSrc n 0x62)) ∧
  (∀ (n : Fin 8) (sub : Fin 4) (cell : Fin 68) (s : State), s.noneDue → 1 ≤ s.txState n →
   cell.val ∉ s.line[n].tx.subs[sub].out → s.flag (lineBase n) (spareNoneOf sub cell.val) = false →
   s.line[n].tx.subs[sub].inMap cell.val = true → s.line[n].tx.subs[sub].underTrim.isSome = true → ∃ t : State,
   exec (.dacCellDegrading n sub cell) s = .next t ∧
   t.line[n].tx.subs[sub].degraded = s.line[n].tx.subs[sub].degraded.filter (· != cell.val) ++ [cell.val] ∧
   RegsBut [] s t) ∧
  (∀ (n : Fin 8) (sub : Fin 4) (cell : Fin 68) (v : Nat) (s : State), s.noneDue → 1 ≤ s.txState n →
   cell.val ∉ s.line[n].tx.subs[sub].out → s.flag (lineBase n) (spareNoneOf sub cell.val) = false →
   s.line[n].tx.subs[sub].inMap cell.val = true → s.line[n].tx.subs[sub].underTrim = none →
   s.line[n].tx.subs[sub].degraded = [] → s.line[n].tx.subs[sub].spareOf cell.val = some v → ∃ u : State,
   exec (.dacCellDegrading n sub cell) s = .next u.react ∧ cell.val ∈ u.line[n].tx.subs[sub].out ∧
   u.line[n].tx.subs[sub].degraded = [] ∧ u.line[n].tx.subs[sub].spareOf cell.val = none ∧
   u.flag (lineBase n) (spareNoneOf sub cell.val) = true) ∧
  (∀ (n : Fin 8) (trims : List SubDacTrim) (spur : Nat) (s : State), s.noneDue → 4 ≤ s.txState n →
   s.lineTxTask n 13 = true → (∀ k : Fin 4, s.lineTxTask n (5 + k.val) = true) → 520 ≤ spur → ∃ t : State,
   exec (.subdacTrimUpdate n trims spur) s = .next t ∧ t.fld (lineBase n) TX_STATUS_TX_SPUR = satNat 16 spur ∧
   t.line[n].tx.spurHeld = false ∧
   ∀ j : Fin 4, ∀ trim : SubDacTrim, (legalTrims (s.trims n) (trims.take 4))[j.val]? = some trim →
   t.fld (lineBase n) (SUBDAC_GAIN.ix j.val) = intBits 8 trim.gain ∧
   t.fld (lineBase n) (SUBDAC_OFFSET.ix j.val) = intBits 8 trim.offset ∧
   t.fld (lineBase n) (SUBDAC_SKEW.ix j.val) = intBits 8 trim.skew) ∧
  (∀ (n : Fin 8) (trims : List SubDacTrim) (spur : Nat) (s : State), s.noneDue → 4 ≤ s.txState n →
   s.lineTxTask n 13 = true → spur < 500 → ∃ u : State,
   exec (.subdacTrimUpdate n trims spur) s = .next u.react ∧ u.fld (lineBase n) TX_STATUS_TX_SPUR = spur ∧
   u.line[n].tx.spurHeld = true)

/-- A scrub step, the end of a reconstruction, a retired page and a retired bank, INIT, and a bank that the firmware
initialises (log 107): the registers, the logs and the contents that follow. -/
def Obligations.MemoryProtection : Prop :=
  (∀ (f : WordFinding) (b : Nat) (wrapped : Bool) (s : State), s.noneDue →
   s.flag memProtBase SCRUB_CTRL_SCRUB_EN = true → s.clock.running = true → s.memory.scrubNext ≤ 4 * s.tick →
   s.scrubFrom 264 (s.fld memProtBase SCRUB_STATUS_BANK) false = some (b, wrapped) → b < 193 → f = .clean →
   ∃ t : State, exec (.scrubStep f) s = .next t ∧
   t.fld memProtBase SCRUB_STATUS_BANK = (if (if b = s.fld memProtBase SCRUB_STATUS_BANK then s.memory.unit else
     0) + 1 = bankUnits then b + 1 else b) ∧
   t.memory.unit = (if (if b = s.fld memProtBase SCRUB_STATUS_BANK then s.memory.unit else 0) + 1 = bankUnits
     then 0 else (if b = s.fld memProtBase SCRUB_STATUS_BANK then s.memory.unit else 0) + 1) ∧
   t.fld memProtBase SCRUB_STATUS_PASSES = (if wrapped then satNat SCRUB_STATUS_PASSES.width (s.fld memProtBase
     SCRUB_STATUS_PASSES + 1) else s.fld memProtBase SCRUB_STATUS_PASSES) ∧
   t.memory.logs = s.memory.logs ∧ 4 * s.tick < t.memory.scrubNext) ∧
  (∀ (f : WordFinding) (b : Nat) (wrapped : Bool) (bit : BitVec 7) (s : State), s.noneDue →
   s.flag memProtBase SCRUB_CTRL_SCRUB_EN = true → s.clock.running = true → s.memory.scrubNext ≤ 4 * s.tick →
   s.scrubFrom 264 (s.fld memProtBase SCRUB_STATUS_BANK) false = some (b, wrapped) → b < 64 →
   b = s.fld memProtBase SCRUB_STATUS_BANK → f = .corrected bit false →
   (∀ e ∈ s.memory.logs[memCellar], e.addr ≠ b * 0x40000 + 8 * s.memory.unit) →
   s.memory.logs[memCellar].length < 32 → ∃ t : State, exec (.scrubStep f) s = .next t ∧
   t.fld memProtBase (MEM_CE_CE_COUNT.ix 0) = satNat (MEM_CE_CE_COUNT.ix 0).width (s.fld memProtBase
     (MEM_CE_CE_COUNT.ix 0) + 1) ∧
   t.memory.logs[memCellar] = (⟨b * 0x40000 + 8 * s.memory.unit, b, bit.toNat, false, false, false, 1, 0⟩ :
     EccEntry) :: s.memory.logs[memCellar] ∧
   t.fld memProtBase (MEM_LOG_VALID.ix 0) = s.memory.logs[memCellar].length + 1) ∧
  (∀ (page : PageId) (s : State), s.noneDue → s.memory.rebuilding.contains page = true →
   (∀ n : Fin 8, s.pantry.lanes[n].queue = []) → ∃ t : State,
   exec (.pageReconstructDone page) s = .next t ∧ t.memory.rebuilding = s.memory.rebuilding.filter (· != page) ∧
   t.memory.logs = s.memory.logs.set page.mem (markRebuilt page s.memory.logs[page.mem]) ∧
   t.fld memProtBase (MEM_UNC_REBUILDS.ix page.mem.val) = satNat (MEM_UNC_REBUILDS.ix page.mem.val).width (s.fld
     memProtBase (MEM_UNC_REBUILDS.ix page.mem.val) + 1) ∧
   RegsBut [memProtBase + (MEM_UNC_REBUILDS.ix page.mem.val).off] s t) ∧
  (∀ (page : PageId) (s : State), s.noneDue → s.memory.rebuilding.contains page = true → ∃ u : State,
   exec (.pageReconstructDone page) s = .next u.react ∧
   u.memory.rebuilding = s.memory.rebuilding.filter (· != page) ∧
   ∀ n : Fin 8, u.laneRebuilding n = false → u.pantry.lanes[n].queue = []) ∧
  (∀ (found : List (Fin 512 × WordFinding)) (k page : Nat) (s : State), s.noneDue → found = [] →
   s.memory.retiring = some (.page k page none) → k < 64 → ∃ u : State,
   exec (.pageRetireDone found) s = .next u.react ∧ u.memory.retiring = none ∧
   u.flag memProtBase RETIRE_STATUS_BUSY = false ∧ u.flag memProtBase (RETIRE_MAP_VALID.ix k) = true ∧
   u.flag memProtBase (RETIRE_MAP_COPYING.ix k) = false ∧
   u.attic.cellarRet = s.attic.cellarRet.filter (fun e => e.2 != page) ++ [(k, page)]) ∧
  (∀ (bank : BitVec 9) (init : Bool) (s : State), s.noneDue → retirable bank.toNat = true →
   s.retireBusy = false →
   s.flag memProtBase (if bank.toNat ≤ 192 then RETIRE_STATUS_PANTRY_SPARE else RETIRE_STATUS_ENGINE_SPARE) =
     true →
   ∃ t : State, exec (.bankRetire bank init) s = .next t ∧ t.fld memProtBase BANK_OP_BANK = bank.toNat ∧
   t.memory.retiring = some (.bank bank.toNat) ∧ t.flag memProtBase RETIRE_STATUS_BUSY = true ∧
   t.flag memProtBase (if bank.toNat ≤ 192 then RETIRE_STATUS_PANTRY_SPARE else RETIRE_STATUS_ENGINE_SPARE) =
     false ∧
   t.fld memProtBase RETIRE_STATUS_LAST_ERR = (if init then 3 else 0) ∧ t.mem = s.mem) ∧
  (∀ (bank : BitVec 9) (init : Bool) (s : State), s.noneDue → retirable bank.toNat = false → ∃ t : State,
   exec (.bankRetire bank init) s = .next t ∧ t.fld memProtBase RETIRE_STATUS_LAST_ERR = 2 ∧
   t.memory = s.memory ∧ t.mem = s.mem) ∧
  (∀ (found : List (Fin 32768 × WordFinding)) (b : Nat) (s : State), s.noneDue →
   s.memory.retiring = some (.bank b) → 65 ≤ b → b ≤ 192 → ∃ u : State,
   exec (.bankRetireDone found) s = .next u.react ∧ u.memory.retiring = none ∧
   u.flag memProtBase RETIRE_STATUS_BUSY = false ∧ u.flag memProtBase BANK_MAP_PANTRY_USED = true ∧
   u.fld memProtBase BANK_MAP_PANTRY_FOR = b ∧ u.attic.pantryRet = some b ∧ u.retLost b = false ∧
   u.flag pantryBase ((if bankTable b % 2 = 0 then PL_STATUS_STALE_E else PL_STATUS_STALE_M).ix (bankTable b /
     2)) = true ∧
   u.byte (0x02000000 + (b - 65) * 0x40000) = 0) ∧
  (∀ (bank : BitVec 9) (s : State), s.noneDue → s.retLost bank.toNat = true → s.memory.init = none → ∃ t : State,
   exec (.bankInit bank) s = .next t ∧ t.fld memProtBase BANK_OP_BANK = bank.toNat ∧
   t.memory.init = some bank.toNat ∧ t.fld memProtBase RETIRE_STATUS_LAST_ERR = 0 ∧ t.mem = s.mem) ∧
  (∀ (bank : BitVec 9) (s : State), s.noneDue → s.retLost bank.toNat = false → ∃ t : State,
   exec (.bankInit bank) s = .next t ∧ t.fld memProtBase RETIRE_STATUS_LAST_ERR = 2 ∧ t.memory = s.memory ∧
   t.mem = s.mem) ∧
  (∀ (b : Nat) (s : State), s.noneDue → s.memory.init = some b → b < 264 → ∃ t : State,
   exec .bankInitDone s = .next t ∧ t.memory.init = none ∧ t.retLost b = false ∧
   (b < 64 → t.byte (b * 0x40000) = 0 ∧ t.byte (b * 0x40000 + 0x3FFFF) = 0)) ∧
  (∀ (b : Nat) (s : State), s.noneDue → s.memory.init = none → s.firmwareBank = some b → ∃ t : State,
   exec .bankInitDone s = .next t ∧ t.memory.init = none ∧ t.retLost b = false ∧
   (b < 64 → t.byte (b * 0x40000) = 0 ∧ t.byte (b * 0x40000 + 0x3FFFF) = 0))

/-- Branches, calls, repeats, waiting and halting, signals and mailboxes, shadow sets, and the entry of an engine
event. -/
def Obligations.EngineControlAndEvents : Prop :=
  (∀ (r : Fin 16) (e : Fin 64) (x : Engine) (w : Word) (s : State), s.noneDue → s.engine r e.val = x →
   s.wordAt r e.val = w → s.executes r e.val 0x30 → ∃ t : State, exec (.engBr r e) s = .next t ∧
   (t.engine r e.val).slots = some (2, if condHolds x (condOf w) then targetOf w else x.pc + 3) ∧
   (t.engine r e.val).pc = x.pc + 1 ∧ (t.engine r e.val).stack = x.stack ∧ EngineOnly r e.val s t) ∧
  (∀ (r : Fin 16) (e : Fin 64) (x : Engine) (w : Word) (s : State), s.noneDue → s.engine r e.val = x →
   s.wordAt r e.val = w → s.executes r e.val 0x31 → ∃ t : State, exec (.engCall r e) s = .next t ∧
   (t.engine r e.val).slots = some (2, if condHolds x (condOf w) then targetOf w else x.pc + 3) ∧
   (t.engine r e.val).pc = x.pc + 1 ∧
   (t.engine r e.val).stack = (if condHolds x (condOf w) then (x.pc + 3) :: x.stack else x.stack) ∧
   EngineOnly r e.val s t) ∧
  (∀ (r : Fin 16) (e : Fin 64) (x : Engine) (w : Word) (s : State), s.noneDue → s.engine r e.val = x →
   s.wordAt r e.val = w → s.executes r e.val 0x32 → ∃ t : State, exec (.engRet r e) s = .next t ∧
   (t.engine r e.val).slots = some (2, if condHolds x (condOf w) then x.stack.headD 0 else x.pc + 3) ∧
   (t.engine r e.val).pc = x.pc + 1 ∧
   (t.engine r e.val).stack = (if condHolds x (condOf w) then x.stack.drop 1 else x.stack) ∧
   EngineOnly r e.val s t) ∧
  (∀ (r : Fin 16) (e : Fin 64) (x : Engine) (w : Word) (s : State), s.noneDue → s.engine r e.val = x →
   s.wordAt r e.val = w → s.executes r e.val 0x33 → ∃ t : State, exec (.engRep r e) s = .next t ∧
   (t.engine r e.val).rep = some (bitsAt w 18 8 + 1) ∧ (t.engine r e.val).pc = x.pc + 1 ∧
   (t.engine r e.val).d = x.d ∧ EngineOnly r e.val s t) ∧
  (∀ (r : Fin 16) (e : Fin 64) (x : Engine) (w : Word) (s : State), s.noneDue → s.engine r e.val = x →
   s.wordAt r e.val = w → s.executes r e.val 0x34 → ∃ t : State, exec (.engRpb r e) s = .next t ∧
   (t.engine r e.val).block = some { first := x.pc + 1, len := bitsAt w 13 5 + 1, left := bitsAt w 18 8 + 1 } ∧
   (t.engine r e.val).pc = x.pc + 1 ∧ (t.engine r e.val).d = x.d ∧ EngineOnly r e.val s t) ∧
  (∀ (r : Fin 16) (e : Fin 64) (x : Engine) (w : Word) (s : State), s.noneDue → s.engine r e.val = x →
   s.wordAt r e.val = w → s.executes r e.val 0x35 → ∃ t : State, exec (.engWait r e) s = .next t ∧
   (t.engine r e.val).waiting = (if (s.pendOf r e.val &&& imm16 w) != 0 then none else some (imm16 w)) ∧
   (t.engine r e.val).d = x.land.d ∧ EngineOnly r e.val s t) ∧
  (∀ (r : Fin 16) (e : Fin 64) (x : Engine) (w : Word) (s : State), s.noneDue → s.engine r e.val = x →
   s.wordAt r e.val = w → s.executes r e.val 0x3B → s.guestOn r e.val = none → ∃ t : State,
   exec (.engHalt r e) s = .next t ∧ (t.engine r e.val).stopped = true ∧ (t.engine r e.val).d = x.land.d ∧
   EngineOnly r e.val s t) ∧
  (∀ (r : Fin 16) (e : Fin 64) (g : Nat) (s : State), s.noneDue → s.executes r e.val 0x3B →
   s.guestOn r e.val = some g → g < 62 → ∃ t : State, exec (.engHalt r e) s = .next t ∧
   (t.engine r e.val).stopped = true ∧ (t.guest g).st = 3 ∧ (t.guest g).cause = 6 ∧ t.mem = s.mem ∧
   t.regs = s.regs) ∧
  (∀ (r : Fin 16) (e : Fin 64) (f : EventFrame) (s : State), s.noneDue → s.executes r e.val 0x36 →
   (s.engine r e.val).frame = some f → ∃ t : State, exec (.engEvret r e) s = .next t ∧
   (t.engine r e.val).pc = f.pc ∧ (t.engine r e.val).stat = f.stat ∧ (t.engine r e.val).inFlight = f.inFlight ∧
   (t.engine r e.val).block = f.block ∧ (t.engine r e.val).satSeen = f.satSeen ∧
   (t.engine r e.val).frame = none ∧ EngineOnly r e.val s t) ∧
  (∀ (r : Fin 16) (e : Fin 64) (w : Word) (s : State), s.noneDue → s.executes r e.val 0x38 →
   s.wordAt r e.val = w → ∃ t : State, exec (.engSig r e) s = .next t ∧
   (t.engine r (s.runOn r (bitsAt w 20 6))).evpend = (s.engine r (s.runOn r (bitsAt w 20 6))).evpend ||| 8 ∧
   t.mem = s.mem ∧ t.regs = s.regs) ∧
  (∀ (r : Fin 16) (e : Fin 64) (x : Engine) (w : Word) (s : State), s.noneDue → s.engine r e.val = x →
   s.wordAt r e.val = w → s.executes r e.val 0x39 → ∃ t : State, exec (.engMfs r e) s = .next t ∧
   (t.engine r e.val).d = x.land.d.set (regD w) (s.specialReg r e.val x (bitsAt w 16 4)) ∧
   (t.engine r e.val).stat = x.stat ∧ EngineOnly r e.val s t) ∧
  (∀ (r : Fin 16) (e : Fin 64) (x : Engine) (w : Word) (s : State), s.noneDue → s.engine r e.val = x →
   s.wordAt r e.val = w → s.executes r e.val 0x3A → ∃ t : State, exec (.engMvs r e) s = .next t ∧
   (bitsAt w 16 4 = 0 → (t.engine r e.val).stat = x.d[regD w].truncate 4) ∧
   (bitsAt w 16 4 = 1 → (t.engine r e.val).maskNext = some x.d[regD w]) ∧
   (bitsAt w 16 4 = 2 → (t.engine r e.val).evpend = x.evpend &&& ~~~x.d[regD w]) ∧
   (bitsAt w 16 4 = 3 → (t.engine r e.val).timer = x.d[regD w]) ∧
   (bitsAt w 16 4 = 4 → (t.engine r e.val).reload = x.d[regD w]) ∧
   (bitsAt w 16 4 = 7 → (t.engine r e.val).ckwBase = x.d[regD w]) ∧
   (bitsAt w 16 4 = 8 →
     (t.engine r e.val).ckwLen = (if 960 < x.d[regD w].toNat then 960 else x.d[regD w])) ∧
   (bitsAt w 16 4 = 9 → (t.engine r e.val).wdog = x.d[regD w] ∧ (t.engine r e.val).hbtAt = s.tick) ∧
   (t.engine r e.val).d = x.land.d ∧ EngineOnly r e.val s t) ∧
  (∀ (r : Fin 16) (e : Fin 64) (x : Engine) (p : Nat × List (Nat × BitVec 16))
    (rest : List (Nat × List (Nat × BitVec 16))) (s : State), s.noneDue → s.engine r e.val = x →
   x.published = p :: rest → ∃ t : State, exec (.shadowSetTaken r e) s = .next t ∧
   (t.engine r e.val).published = rest ∧ (t.engine r e.val).shadow = x.shadow ∧
   (t.engine r e.val).evpend = x.evpend ||| 4 ∧
   t.rooms.rooms[r] = s.rooms.rooms[r].copySet ((s.taskOn r e.val).getD e.val) p.2 ∧ t.mem = s.mem ∧
   t.regs = s.regs) ∧
  (∀ (r : Fin 16) (e : Fin 64) (x : Engine) (k : Nat) (s : State), s.noneDue → s.engine r e.val = x →
   lowestEvent (s.pendOf r e.val &&& x.evmask) = some k → s.issues r e.val = true → x.frame = none →
   x.open_ = true → x.waiting = none → ∃ t : State, exec (.engineEventEntry r e) s = .next t ∧
   (t.engine r e.val).pc = BitVec.ofNat 10 (4 * k) ∧
   (t.engine r e.val).evpend = s.pendOf r e.val &&& ~~~((1 : BitVec 16) <<< k) ∧
   (t.engine r e.val).frame.map (·.pc) = some x.pc ∧ (t.engine r e.val).frame.map (·.stat) = some x.stat ∧
   (t.engine r e.val).frame.map (·.inFlight) = some x.inFlight ∧ (t.engine r e.val).d = x.d ∧
   EngineOnly r e.val s t) ∧
  (∀ (r : Fin 16) (e : Fin 64) (x : Engine) (s : State), s.noneDue → s.engine r e.val = x →
   s.issues r e.val = true → x.reload ≠ 0 → s.timerNow x = 0 → ∃ t : State, exec (.engineTimerExpiry r e) s = .next t ∧
   (t.engine r e.val).evpend = x.evpend ||| 1 ∧ (t.engine r e.val).timer = x.reload ∧
   (t.engine r e.val).timerAt = s.tick ∧ EngineOnly r e.val s t)

/-- Port reads and writes, far accesses and their pending registers, a watchdog and an engine fault, and the snapshots
and the resumption of a task. -/
def Obligations.EnginePortsFaultsAndCheckpoints : Prop :=
  (∀ (r : Fin 16) (e : Fin 64) (g : Nat) (w : Word) (s : State), s.noneDue → s.executes r e.val 0x3F →
   s.wordAt r e.val = w → bitsAt w 24 2 = 0 → s.guestOn r e.val = some g → g < 62 → portOf w = 1 → ∃ t : State,
   exec (.engIn r e) s = .next t ∧ (t.engine r e.val).inFlight = [(portReg w, (s.guest g).fromHost.headD 0)] ∧
   (t.guest g).fromHost = (s.guest g).fromHost.drop 1 ∧ t.mem = s.mem ∧ t.regs = s.regs) ∧
  (∀ (r : Fin 16) (e : Fin 64) (w : Word) (s : State), s.noneDue → s.executes r e.val 0x3F →
   s.wordAt r e.val = w → bitsAt w 24 2 = 0 → s.guestOn r e.val = none → ∃ t : State,
   exec (.engIn r e) s = .next t ∧
   (t.engine r e.val).inFlight = [(portReg w, (Config.freeValue s.free).truncate 16)] ∧ t.free = s.free + 1 ∧
   EngineOnly r e.val s t) ∧
  (∀ (r : Fin 16) (e : Fin 64) (x : Engine) (w : Word) (s : State), s.noneDue → s.executes r e.val 0x3F →
   s.engine r e.val = x → s.wordAt r e.val = w → bitsAt w 24 2 = 1 → s.guestOn r e.val = none → ∃ t : State,
   exec (.engOut r e) s = .next t ∧ (t.engine r e.val).shadow = x.shadow ++ [(portOf w, x.d[portReg w])] ∧
   EngineOnly r e.val s t) ∧
  (∀ (r : Fin 16) (e : Fin 64) (g : Nat) (x : Engine) (w : Word) (s : State), s.noneDue →
   s.executes r e.val 0x3F → s.engine r e.val = x → s.wordAt r e.val = w → bitsAt w 24 2 = 1 →
   s.guestOn r e.val = some g → g < 62 → portOf w = 0 → (s.guest g).toHost.length < 16 → ∃ t : State,
   exec (.engOut r e) s = .next t ∧ (t.guest g).toHost = (s.guest g).toHost ++ [x.d[portReg w]] ∧
   t.flag systemBase ATTN_CAUSE_GUEST_MAILBOX = true ∧ RegsBut [systemBase + ATTN_CAUSE_GUEST_MAILBOX.off] s t ∧
   t.mem = s.mem) ∧
  (∀ (r : Fin 16) (e : Fin 64) (x : Engine) (w : Word) (s : State), s.noneDue → s.executes r e.val 0x3F →
   s.engine r e.val = x → s.wordAt r e.val = w → bitsAt w 24 2 = 2 → s.guestOn r e.val = none → ∃ t : State,
   exec (.engPub r e) s = .next t ∧ (t.engine r e.val).published = x.published ++ [(portOf w, x.shadow)] ∧
   (t.engine r e.val).shadow = [] ∧
   EngineOnly r e.val s t) ∧
  (∀ (r : Fin 16) (e : Fin 64) (x : Engine) (w : Word) (s : State), s.noneDue → s.executes r e.val 0x3C →
   s.engine r e.val = x → s.wordAt r e.val = w → r.val ≠ 15 → farAddr w x % 4 = 0 → farAddr w x < 0x00BFA000 →
   firmwareArea (farAddr w x) = false →
   s.retLost (farAddr w x / 0x40000) = false → s.fstOutstanding r e.val = 0 → ∃ t : State,
   exec (.engFld r e) s = .next t ∧
   (t.engine r e.val).d = (x.land.d.set (Fin.ofNat 8 (2 * bitsAt w 24 2)) ((s.hallWord (farAddr w x)).1.truncate
     16)).set (Fin.ofNat 8 (2 * bitsAt w 24 2 + 1)) (((s.hallWord (farAddr w x)).1 >>> 16).truncate 16) ∧
   (t.engine r e.val).stalled = false ∧ EngineOnly r e.val s t) ∧
  (∀ (r : Fin 16) (e : Fin 64) (x : Engine) (w : Word) (s : State), s.noneDue → s.executes r e.val 0x3C →
   s.engine r e.val = x → s.wordAt r e.val = w → r.val ≠ 15 → farAddr w x % 4 = 0 → farAddr w x < 0x00BFA000 →
   firmwareArea (farAddr w x) = true →
   s.retLost (farAddr w x / 0x40000) = false → s.fstOutstanding r e.val = 0 → ∃ t : State,
   exec (.engFld r e) s = .next t ∧
   (t.engine r e.val).d = (x.land.d.set (Fin.ofNat 8 (2 * bitsAt w 24 2)) ((Config.freeValue s.free).truncate
     16)).set (Fin.ofNat 8 (2 * bitsAt w 24 2 + 1)) ((Config.freeValue s.free >>> 16).truncate 16) ∧
   (t.engine r e.val).stalled = false ∧ EngineOnly r e.val s t) ∧
  (∀ (r : Fin 16) (e : Fin 64) (x : Engine) (w : Word) (s : State), s.noneDue → s.executes r e.val 0x3D →
   s.engine r e.val = x → s.wordAt r e.val = w → r.val ≠ 15 → farAddr w x % 4 = 0 → farAddr w x < 0x00BFA000 →
   s.retLost (farAddr w x / 0x40000) = false → s.fstOutstanding r e.val = 0 → ∃ t : State,
   exec (.engFst r e) s = .next t ∧
   t.memNat (farAddr w x) 4 = (x.d[Fin.ofNat 8 (2 * bitsAt w 24 2 + 1)] ++ x.d[Fin.ofNat 8 (2 * bitsAt w 24
     2)]).toNat ∧
   BytesBut (farAddr w x) 4 s t ∧ (t.engine r e.val).d = x.land.d ∧ t.regs = s.regs) ∧
  (∀ (r : Fin 16) (e : Fin 64) (k : Nat) (s : State), s.noneDue → s.issues r e.val = true →
   (s.engine r e.val).wdog ≠ 0 → (s.engine r e.val).hbtAt + 1024 * (s.engine r e.val).wdog.toNat ≤ s.tick →
   s.rooms.rooms[r].retired.contains e.val = false → s.rooms.rooms[r].free.contains e.val = false →
   s.rooms.rooms[r].pending.find? (fun p => p.spare == e.val) = none → s.taskOn r e.val = some k → r.val ≠ 15 →
   ∃ t : State, exec (.engineWatchdogExpiry r e) s = .next t ∧ t = (s.engineFault r e.val 7).react ∧
   (t.engine r e.val).stopped = true ∧ (t.engine r e.val).shadow = [] ∧ e.val ∈ t.rooms.rooms[r].retired) ∧
  (∀ (r : Fin 16) (e : Fin 64) (code : Fin 9) (k : Nat) (s : State), s.noneDue → code ∈ [1, 2, 3, 4, 5, 7] →
   s.domOn (domRoom r.val) = true → s.rooms.rooms[r].retired.contains e.val = false →
   s.rooms.rooms[r].free.contains e.val = false →
   s.rooms.rooms[r].pending.find? (fun p => p.spare == e.val) = none → s.taskOn r e.val = some k → r.val ≠ 15 →
   ∃ t : State, exec (.engineFault r e code) s = .next t ∧ t = (s.engineFault r e.val code.val).react ∧
   (t.engine r e.val).stopped = true ∧ (t.engine r e.val).shadow = [] ∧ e.val ∈ t.rooms.rooms[r].retired) ∧
  (∀ (r : Fin 16) (k : Fin 64) (x : Engine) (s : State), s.noneDue → s.engine r (s.runOn r k.val) = x →
   s.rooms.rooms[r].phase = 64 * k.val → s.issues r (s.runOn r k.val) = true →
   s.taskOn r (s.runOn r k.val) = some k.val → ∃ t : State, exec (.checkpointSnapshot r k) s = .next t ∧
   (Sparse.find? t.rooms.taken (engineKey r k.val)).map (fun p => (p.engine.pc, p.engine.d, p.engine.acc)) =
     some (x.pc, x.d, x.acc) ∧
   (Sparse.find? t.rooms.taken (engineKey r k.val)).map (·.window) = some (s.windowWords r (s.runOn r k.val) x) ∧
   t.rooms.engines = s.rooms.engines ∧ t.mem = s.mem) ∧
  (∀ (r : Fin 16) (k : Fin 64) (p : Snapshot) (n : Nat) (s : State), s.noneDue → s.roomRuns r.val = true →
   Sparse.find? s.rooms.taken (engineKey r k.val) = some p →
   (Sparse.find? s.rooms.counts (engineKey r k.val)).getD 0 = n → p.window.length ≤ 960 → ∃ t : State,
   exec (.checkpointCommit r k) s = .next t ∧
   t.memNat (slotAddr r k.val ((n + 1) % 2 ^ 32 % 2)) 4 = (n + 1) % 2 ^ 32 ∧
   BytesBut (slotAddr r k.val ((n + 1) % 2 ^ 32 % 2)) 0x800 s t ∧
   Sparse.find? t.rooms.taken (engineKey r k.val) = none ∧ t.rooms.engines = s.rooms.engines) ∧
  (∀ (r : Fin 16) (e : Fin 64) (p : Takeover) (slot : Nat) (x : Engine) (s : State), s.noneDue →
   s.rooms.rooms[r].pending.find? (fun p => p.spare == e.val) = some p → s.cellarSupplies r p.task = true →
   s.bestSlot r p.task = some slot →
   (Sparse.find? s.rooms.slots (2 * engineKey r p.task + slot)).getD Engine.zero = x → ∃ t : State,
   exec (.takeoverResume r e) s = .next t ∧ t.runOn r p.task = p.spare ∧ (t.engine r p.spare).pc = x.pc ∧
   (t.engine r p.spare).d = x.d ∧ (t.engine r p.spare).acc = x.acc ∧
   t.rooms.rooms[r].takeovers = satNat 8 (s.rooms.rooms[r].takeovers + 1) ∧ p ∉ t.rooms.rooms[r].pending) ∧
  (∀ (r : Fin 16) (e : Fin 64) (g : Nat) (s : State), s.noneDue → r.val = 15 →
   s.issues r e.val = true → (s.engine r e.val).wdog ≠ 0 →
   (s.engine r e.val).hbtAt + 1024 * (s.engine r e.val).wdog.toNat ≤ s.tick →
   s.rooms.rooms[r].retired.contains e.val = false →
   s.rooms.rooms[r].free.contains e.val = false →
   s.rooms.rooms[r].pending.find? (fun p => p.spare == e.val) = none → s.taskOn r e.val = some g → g < 62 →
   ∃ t : State, exec (.engineWatchdogExpiry r e) s = .next t ∧ (t.engine r e.val).stopped = true ∧
   (t.guest g).st = 3 ∧ (t.guest g).cause = 5)
end

