-- ==== Sys2Proof/Laws/Fields.lean ====
section
/-! SUPPORT. The laws of word fields: a field reads back what was written to it, and the fields beside it keep
their values. -/

namespace Sys2Proof.Machine

theorem testBit_wordField (w : Word) (lo width i : Nat) :
    (wordField w lo width).testBit i = (decide (i < width) && w.getLsbD (lo + i)) := by
  simp [wordField, Nat.testBit_mod_two_pow, Nat.testBit_shiftRight, BitVec.getLsbD]

theorem getLsbD_fieldMask (lo width i : Nat) :
    (fieldMask lo width).getLsbD i = (decide (i < 32) && decide (lo ≤ i) && decide (i < lo + width)) := by
  rw [fieldMask, BitVec.getLsbD_ofNat, Nat.testBit_shiftLeft, Nat.testBit_two_pow_sub_one]
  by_cases h : lo ≤ i
  · simp [h, Nat.sub_lt_iff_lt_add h, Nat.add_comm]
  · simp [h]

theorem getLsbD_wordSetField (w : Word) (lo width v i : Nat) :
    (wordSetField w lo width v).getLsbD i =
      if i < 32 ∧ lo ≤ i ∧ i < lo + width then v.testBit (i - lo) else w.getLsbD i := by
  rw [wordSetField, BitVec.getLsbD_or, BitVec.getLsbD_and, BitVec.getLsbD_not, getLsbD_fieldMask,
    BitVec.getLsbD_ofNat, Nat.testBit_shiftLeft, Nat.testBit_mod_two_pow]
  by_cases h1 : i < 32
  · by_cases h2 : lo ≤ i
    · by_cases h3 : i < lo + width
      · have : i - lo < width := by omega
        simp [h1, h2, h3, this]
      · have : ¬ i - lo < width := by omega
        simp [h1, h2, h3, this]
    · simp [h1, h2]
  · simp [h1, BitVec.getLsbD_of_ge w i (by omega)]

/-- A field reads back what was written to it, within its range. -/
theorem wordField_wordSetField_same (w : Word) {lo width : Nat} (v : Nat) (h : lo + width ≤ 32) :
    wordField (wordSetField w lo width v) lo width = v % 2 ^ width := by
  apply Nat.eq_of_testBit_eq
  intro i
  rw [testBit_wordField, getLsbD_wordSetField, Nat.testBit_mod_two_pow]
  by_cases hi : i < width
  · have : lo + i < 32 := by omega
    simp [hi, this]
  · simp [hi]

/-- A field beside the one written keeps its value. -/
theorem wordField_wordSetField_apart (w : Word) {lo width lo' width' : Nat} (v : Nat)
    (h : lo + width ≤ lo' ∨ lo' + width' ≤ lo) :
    wordField (wordSetField w lo width v) lo' width' = wordField w lo' width' := by
  apply Nat.eq_of_testBit_eq
  intro i
  rw [testBit_wordField, testBit_wordField, getLsbD_wordSetField]
  by_cases hi : i < width'
  · have : ¬ (lo' + i < 32 ∧ lo ≤ lo' + i ∧ lo' + i < lo + width) := by omega
    rw [if_neg this]
  · simp [hi]

theorem wordField_lt (w : Word) (lo width : Nat) : wordField w lo width < 2 ^ width :=
  Nat.mod_lt _ (Nat.two_pow_pos width)

end Sys2Proof.Machine
end

