-- ==== Sys2Proof/Laws/Sparse.lean ====
section
/-! SUPPORT. The laws of sparse data: a key reads back what was written to it, every other key reads as before,
and every update keeps the canonical form. -/

namespace Sys2Proof.Machine

variable {α : Type}

@[simp] theorem Sparse.find?_erase_same (m : List (Nat × α)) (a : Nat) : Sparse.find? (Sparse.erase m a) a = none := by
  induction m with
  | nil => rfl
  | cons e t ih => by_cases h : e.1 = a <;> simp [Sparse.erase, Sparse.find?, h, ih]

theorem Sparse.find?_erase_ne (m : List (Nat × α)) {a b : Nat} (h : b ≠ a) :
    Sparse.find? (Sparse.erase m a) b = Sparse.find? m b := by
  induction m with
  | nil => rfl
  | cons e t ih =>
    by_cases ha : e.1 = a
    · have : e.1 ≠ b := fun hb => h (hb ▸ ha)
      simp [Sparse.erase, Sparse.find?, ha, ih, ha ▸ this]
    · by_cases hb : e.1 = b
      · subst hb; simp [Sparse.erase, Sparse.find?, ha]
      · simp [Sparse.erase, Sparse.find?, ha, hb, ih]

theorem Sparse.find?_insert_ne (m : List (Nat × α)) {a b : Nat} (v : α) (h : b ≠ a) :
    Sparse.find? (Sparse.insert m a v) b = Sparse.find? m b := by
  induction m with
  | nil => simp [Sparse.insert, Sparse.find?, Ne.symm h]
  | cons e t ih =>
    by_cases ha : a < e.1
    · simp [Sparse.insert, Sparse.find?, ha, Ne.symm h]
    · by_cases hb : e.1 = b
      · subst hb; simp [Sparse.insert, Sparse.find?, ha]
      · simp [Sparse.insert, Sparse.find?, ha, hb, ih]

theorem Sparse.find?_insert_same (m : List (Nat × α)) {a : Nat} (v : α) (h : Sparse.find? m a = none) :
    Sparse.find? (Sparse.insert m a v) a = some v := by
  induction m with
  | nil => simp [Sparse.insert, Sparse.find?]
  | cons e t ih =>
    have hne : e.1 ≠ a := by
      intro he; simp [Sparse.find?, he] at h
    have ht : Sparse.find? t a = none := by simpa [Sparse.find?, hne] using h
    by_cases ha : a < e.1 <;> simp [Sparse.insert, Sparse.find?, ha, hne, ih ht]

variable [DecidableEq α]

@[simp] theorem Sparse.get_set_same (d : Nat → α) (m : List (Nat × α)) (a : Nat) (v : α) :
    Sparse.get d (Sparse.set d m a v) a = v := by
  by_cases h : v = d a
  · simp [Sparse.set, Sparse.get, h]
  · simp [Sparse.set, Sparse.get, h, Sparse.find?_insert_same]

theorem Sparse.get_set_ne (d : Nat → α) (m : List (Nat × α)) {a b : Nat} (v : α) (h : b ≠ a) :
    Sparse.get d (Sparse.set d m a v) b = Sparse.get d m b := by
  by_cases hv : v = d a
  · simp [Sparse.set, Sparse.get, hv, Sparse.find?_erase_ne m h]
  · simp [Sparse.set, Sparse.get, hv, Sparse.find?_insert_ne _ v h, Sparse.find?_erase_ne m h]

theorem Sparse.wfFrom_mono (d : Nat → α) {lo lo' : Nat} (m : List (Nat × α)) (h : lo' ≤ lo)
    (hm : Sparse.wfFrom d lo m = true) : Sparse.wfFrom d lo' m = true := by
  cases m with
  | nil => rfl
  | cons e t =>
    simp only [Sparse.wfFrom, Bool.and_eq_true, decide_eq_true_eq] at hm ⊢
    exact ⟨⟨le_trans h hm.1.1, hm.1.2⟩, hm.2⟩

theorem Sparse.wfFrom_filter (d : Nat → α) (p : Nat × α → Bool) {lo : Nat} (m : List (Nat × α))
    (hm : Sparse.wfFrom d lo m = true) : Sparse.wfFrom d lo (m.filter p) = true := by
  induction m generalizing lo with
  | nil => rfl
  | cons e t ih =>
    simp only [Sparse.wfFrom, Bool.and_eq_true, decide_eq_true_eq] at hm
    have := ih hm.2
    by_cases hp : p e
    · simp [List.filter, hp, Sparse.wfFrom, hm.1.1, hm.1.2, this]
    · simpa [List.filter, hp] using Sparse.wfFrom_mono d _ (by omega) this

/-- Leaving entries out keeps the canonical form. -/
theorem Sparse.wf_filter (d : Nat → α) (p : Nat × α → Bool) (m : List (Nat × α))
    (hm : Sparse.wf d m = true) : Sparse.wf d (m.filter p) = true := Sparse.wfFrom_filter d p m hm

theorem Sparse.wfFrom_erase (d : Nat → α) {lo : Nat} (m : List (Nat × α)) (a : Nat)
    (hm : Sparse.wfFrom d lo m = true) : Sparse.wfFrom d lo (Sparse.erase m a) = true := by
  induction m generalizing lo with
  | nil => rfl
  | cons e t ih =>
    simp only [Sparse.wfFrom, Bool.and_eq_true, decide_eq_true_eq] at hm
    have := ih hm.2
    by_cases he : e.1 = a
    · simpa [Sparse.erase, he] using Sparse.wfFrom_mono d _ (by omega) this
    · simp [Sparse.erase, he, Sparse.wfFrom, hm.1.1, hm.1.2, this]

theorem Sparse.wfFrom_insert (d : Nat → α) {lo : Nat} (m : List (Nat × α)) {a : Nat} {v : α} (hv : v ≠ d a)
    (ha : lo ≤ a) (hn : Sparse.find? m a = none) (hm : Sparse.wfFrom d lo m = true) :
    Sparse.wfFrom d lo (Sparse.insert m a v) = true := by
  induction m generalizing lo with
  | nil => simp [Sparse.insert, Sparse.wfFrom, hv, ha]
  | cons e t ih =>
    simp only [Sparse.wfFrom, Bool.and_eq_true, decide_eq_true_eq] at hm
    have hne : e.1 ≠ a := by
      intro he; simp [Sparse.find?, he] at hn
    have ht : Sparse.find? t a = none := by simpa [Sparse.find?, hne] using hn
    by_cases hlt : a < e.1
    · simp [Sparse.insert, Sparse.wfFrom, hlt, hv, ha, hm.1.2, hm.2, Nat.succ_le_of_lt hlt]
    · have := ih (lo := e.1 + 1) (by omega) ht hm.2
      simp [Sparse.insert, Sparse.wfFrom, hlt, hm.1.1, hm.1.2, this]

/-- A write keeps the canonical form. -/
theorem Sparse.wf_set (d : Nat → α) (m : List (Nat × α)) (a : Nat) (v : α) (hm : Sparse.wf d m = true) :
    Sparse.wf d (Sparse.set d m a v) = true := by
  have he := Sparse.wfFrom_erase d m a hm
  by_cases h : v = d a
  · simpa [Sparse.set, Sparse.wf, h] using he
  · simpa [Sparse.set, Sparse.wf, h] using Sparse.wfFrom_insert d _ h (Nat.zero_le a) (Sparse.find?_erase_same m a) he

end Sys2Proof.Machine
end

