-- ==== Sys2Proof/Laws/Registers.lean ====
section
/-! SUPPORT. The laws of the register operations.  Fields are read from the register space alone (`Regs.fld`), so that simp
brings every read to that form: a field reads back what was written to it, and every other field reads as before. -/

namespace Sys2Proof.Machine

/-- The stored word of a register, from the register space. -/
def Regs.reg (r : List (Nat × Word)) (a : Nat) : Word := Sparse.get regReset r a

def Regs.set (r : List (Nat × Word)) (a : Nat) (w : Word) : List (Nat × Word) := Sparse.set regReset r a w

/-- A field, from the register space. -/
def Regs.fld (r : List (Nat × Word)) (base : Nat) (f : Field) : Nat := wordField (Regs.reg r (base + f.off)) f.lo f.width

def Regs.setFld (r : List (Nat × Word)) (base : Nat) (f : Field) (v : Nat) : List (Nat × Word) :=
  Regs.set r (base + f.off) (wordSetField (Regs.reg r (base + f.off)) f.lo f.width v)

/-! ### Every operation in that form -/

section
variable (s : State) (base : Nat) (f : Field)

@[simp] theorem State.reg_eq (a : Nat) : s.reg a = Regs.reg s.regs a := rfl
@[simp] theorem State.fld_eq : s.fld base f = Regs.fld s.regs base f := rfl
@[simp] theorem State.flag_eq : s.flag base f = (Regs.fld s.regs base f == 1) := rfl
@[simp] theorem State.setReg_regs (a : Nat) (w : Word) : (s.setReg a w).regs = Regs.set s.regs a w := rfl
@[simp] theorem State.setFld_regs (v : Nat) : (s.setFld base f v).regs = Regs.setFld s.regs base f v := rfl
@[simp] theorem State.setFlag_regs (v : Bool) :
    (s.setFlag base f v).regs = Regs.setFld s.regs base f (if v then 1 else 0) := rfl
@[simp] theorem State.addSat_regs (k : Nat) :
    (s.addSat base f k).regs = Regs.setFld s.regs base f (satNat f.width (Regs.fld s.regs base f + k)) := rfl
@[simp] theorem State.bump_regs :
    (s.bump base f).regs = Regs.setFld s.regs base f (satNat f.width (Regs.fld s.regs base f + 1)) := rfl
@[simp] theorem State.bumpMod_regs :
    (s.bumpMod base f).regs = Regs.setFld s.regs base f (Regs.fld s.regs base f + 1) := rfl
@[simp] theorem State.setPair_regs (g : Field) (v : Nat) :
    (s.setPair base f g v).regs = Regs.setFld (Regs.setFld s.regs base f v) base g (v / 2 ^ 32) := rfl
end

/-! ### Reading back -/

section
variable (r : List (Nat × Word)) {base : Nat} {f g : Field}

@[simp] theorem Regs.reg_set_same (a : Nat) (w : Word) : Regs.reg (Regs.set r a w) a = w := Sparse.get_set_same _ _ _ _

theorem Regs.reg_set_ne {a b : Nat} (w : Word) (h : b ≠ a) : Regs.reg (Regs.set r a w) b = Regs.reg r b :=
  Sparse.get_set_ne _ _ _ h

theorem Regs.reg_setFld_ne {b v : Nat} (h : b ≠ base + f.off) : Regs.reg (Regs.setFld r base f v) b = Regs.reg r b :=
  Regs.reg_set_ne r _ h

/-- A field of at most 32 bits reads back what was written to it, within its range. -/
theorem Regs.fld_setFld_same {v : Nat} (h : f.lo + f.width ≤ 32) :
    Regs.fld (Regs.setFld r base f v) base f = v % 2 ^ f.width := by
  rw [Regs.fld, Regs.setFld, Regs.reg_set_same]
  exact wordField_wordSetField_same _ v h

/-- A field of the same block that shares no bit with the one written keeps its value. -/
theorem Regs.fld_setFld_apart {v : Nat} (h : g.off ≠ f.off ∨ f.lo + f.width ≤ g.lo ∨ g.lo + g.width ≤ f.lo) :
    Regs.fld (Regs.setFld r base f v) base g = Regs.fld r base g := by
  by_cases e : g.off = f.off
  · rw [Regs.fld, Regs.setFld, e, Regs.reg_set_same, Regs.fld, e]
    exact wordField_wordSetField_apart _ v (h.resolve_left fun k => k e)
  · rw [Regs.fld, Regs.reg_setFld_ne r (by omega), Regs.fld]

/-- A field of another register keeps its value. -/
theorem Regs.fld_setFld_ne {base' v : Nat} (h : base' + g.off ≠ base + f.off) :
    Regs.fld (Regs.setFld r base f v) base' g = Regs.fld r base' g := by
  rw [Regs.fld, Regs.reg_setFld_ne r h, Regs.fld]

theorem Regs.fld_lt : Regs.fld r base f < 2 ^ f.width := wordField_lt _ _ _

end

/-! ### Reactions -/

theorem State.settleDue_of_none {s : State} (h : s.fuse.due = []) : s.settleDue = s := by
  have : ({ s.fuse with due := [] } : FuseBox) = s.fuse := by rw [← h]
  rw [State.settleDue, this]

/-- With no reaction due, nothing reacts. -/
theorem State.react_of_none {s : State} (h : s.fuse.due = []) : s.react = s := by
  unfold State.react
  rw [show State.reactRounds 8 s = s from by simp [State.reactRounds, h]]
  exact State.settleDue_of_none h

/-- After the reactions of a command none is due. -/
@[simp] theorem State.react_due (s : State) : s.react.fuse.due = [] := rfl

end Sys2Proof.Machine
end

