-- ==== Sys2Proof/Laws/Evolves.lean ====
section
/-! SUPPORT. What an operation on the state can do, as one relation: it changes nothing outside the parts named, keeps the
invariant, and takes free values only forward.  Each operation has its lemma; lemmas compose with `Evolves.andThen`. -/

namespace Sys2Proof.Machine

theorem Part.same_refl (p : Part) (s : State) : p.same s s := by cases p <;> first | rfl | exact fun _ _ => rfl

theorem Part.same_trans {p : Part} {s t u : State} (h : p.same s t) (k : p.same t u) : p.same s u := by
  cases p <;> first | exact k.trans h | exact fun a e => (k a e).trans (h a e)

theorem regPart_mem (a : Nat) : regPart a ∈ regParts := by
  unfold regPart
  split_ifs <;> decide

theorem Part.same_reg {p : Part} {s t : State} (hp : p ∈ regParts) (h : p.same s t) {a : Nat} (e : regPart a = p) :
    t.reg a = s.reg a := by cases p <;> first | exact h a e | exact absurd hp (by decide)

/-- A register outside the parts that change keeps its word. -/
theorem Only.reg {ps : List Part} {s t : State} (h : Only ps s t) {a : Nat} (ha : regPart a ∉ ps) : t.reg a = s.reg a :=
  (regPart a).same_reg (regPart_mem a) (h _ ha) rfl

/-! ### Where the registers of a block lie -/

section
variable {ps : List Part} {k : Nat}

theorem Field.ix_lt (f : Field) (k : Nat) : (f.ix k).off < 0x10000 := Nat.mod_lt _ (by decide)

theorem regPart_all {a : Nat} (hp : regParts ⊆ ps) : [regPart a] ⊆ ps := by
  simpa using hp (regPart_mem a)

theorem regPart_two {a b : Nat} (ha : [regPart a] ⊆ ps) (hb : [regPart b] ⊆ ps) : [regPart a, regPart b] ⊆ ps := by
  simp_all

theorem ledgerUnsettled_lt (k : Nat) : (ledgerUnsettled k).off < 0x10000 := by
  unfold ledgerUnsettled
  split_ifs <;> decide

theorem ledgerSeq_lt (k : Nat) : (ledgerSeq k).off < 0x10000 := by
  unfold ledgerSeq
  split_ifs <;> decide

theorem ledgerPs_lt (k : Nat) : (ledgerPs k).off < 0x10000 := by
  unfold ledgerPs
  split_ifs <;> decide

theorem spareNoneOf_lt (sub : Fin 4) (c : Nat) : (spareNoneOf sub c).off < 0x10000 := by
  unfold spareNoneOf
  split_ifs <;> exact Nat.le_of_ble_eq_true rfl

/-- The registers of a coefficient path lie in the block of its lane. -/
def FadeRegs.InBlock (r : FadeRegs) : Prop :=
  ∀ f ∈ [r.active, r.fading, r.pending, r.busy, r.reject, r.restarts, r.bank0, r.bank1], f.off < 0x10000

theorem nlcRegs_inBlock : nlcRegs.InBlock := by unfold FadeRegs.InBlock; decide

theorem pdRegs_inBlock : pdRegs.InBlock := by unfold FadeRegs.InBlock; decide

theorem regPart_system (h : k < 0x10000) (hp : [Part.systemRegs] ⊆ ps) :
    [regPart (systemBase + k)] ⊆ ps := by
  have e : regPart (systemBase + k) = .systemRegs := by
    delta regPart systemBase fuseBase powerBase clockBase memProtBase hkBase thermBase counterBase
      testBase lineBase hostBase tamidBase chainCtlBase cdacBase pantryBase keyBase
    split_ifs <;> first | rfl | omega
  exact e ▸ hp

theorem regPart_fuse (h : k < 0x10000) (hp : [Part.fuseRegs] ⊆ ps) :
    [regPart (fuseBase + k)] ⊆ ps := by
  have e : regPart (fuseBase + k) = .fuseRegs := by
    delta regPart systemBase fuseBase powerBase clockBase memProtBase hkBase thermBase counterBase
      testBase lineBase hostBase tamidBase chainCtlBase cdacBase pantryBase keyBase
    split_ifs <;> first | rfl | omega
  exact e ▸ hp

theorem regPart_power (h : k < 0x10000) (hp : [Part.powerRegs] ⊆ ps) :
    [regPart (powerBase + k)] ⊆ ps := by
  have e : regPart (powerBase + k) = .powerRegs := by
    delta regPart systemBase fuseBase powerBase clockBase memProtBase hkBase thermBase counterBase
      testBase lineBase hostBase tamidBase chainCtlBase cdacBase pantryBase keyBase
    split_ifs <;> first | rfl | omega
  exact e ▸ hp

theorem regPart_clock (h : k < 0x10000) (hp : [Part.clockRegs] ⊆ ps) :
    [regPart (clockBase + k)] ⊆ ps := by
  have e : regPart (clockBase + k) = .clockRegs := by
    delta regPart systemBase fuseBase powerBase clockBase memProtBase hkBase thermBase counterBase
      testBase lineBase hostBase tamidBase chainCtlBase cdacBase pantryBase keyBase
    split_ifs <;> first | rfl | omega
  exact e ▸ hp

theorem regPart_memProt (h : k < 0x10000) (hp : [Part.memProtRegs] ⊆ ps) :
    [regPart (memProtBase + k)] ⊆ ps := by
  have e : regPart (memProtBase + k) = .memProtRegs := by
    delta regPart systemBase fuseBase powerBase clockBase memProtBase hkBase thermBase counterBase
      testBase lineBase hostBase tamidBase chainCtlBase cdacBase pantryBase keyBase
    split_ifs <;> first | rfl | omega
  exact e ▸ hp

theorem regPart_hk (h : k < 0x10000) (hp : [Part.hkRegs] ⊆ ps) :
    [regPart (hkBase + k)] ⊆ ps := by
  have e : regPart (hkBase + k) = .hkRegs := by
    delta regPart systemBase fuseBase powerBase clockBase memProtBase hkBase thermBase counterBase
      testBase lineBase hostBase tamidBase chainCtlBase cdacBase pantryBase keyBase
    split_ifs <;> first | rfl | omega
  exact e ▸ hp

theorem regPart_therm (h : k < 0x10000) (hp : [Part.thermRegs] ⊆ ps) :
    [regPart (thermBase + k)] ⊆ ps := by
  have e : regPart (thermBase + k) = .thermRegs := by
    delta regPart systemBase fuseBase powerBase clockBase memProtBase hkBase thermBase counterBase
      testBase lineBase hostBase tamidBase chainCtlBase cdacBase pantryBase keyBase
    split_ifs <;> first | rfl | omega
  exact e ▸ hp

theorem regPart_counter (h : k < 0x10000) (hp : [Part.counterRegs] ⊆ ps) :
    [regPart (counterBase + k)] ⊆ ps := by
  have e : regPart (counterBase + k) = .counterRegs := by
    delta regPart systemBase fuseBase powerBase clockBase memProtBase hkBase thermBase counterBase
      testBase lineBase hostBase tamidBase chainCtlBase cdacBase pantryBase keyBase
    split_ifs <;> first | rfl | omega
  exact e ▸ hp

theorem regPart_test (h : k < 0x10000) (hp : [Part.testRegs] ⊆ ps) :
    [regPart (testBase + k)] ⊆ ps := by
  have e : regPart (testBase + k) = .testRegs := by
    delta regPart systemBase fuseBase powerBase clockBase memProtBase hkBase thermBase counterBase
      testBase lineBase hostBase tamidBase chainCtlBase cdacBase pantryBase keyBase
    split_ifs <;> first | rfl | omega
  exact e ▸ hp

theorem regPart_pantry (h : k < 0x10000) (hp : [Part.pantryRegs] ⊆ ps) :
    [regPart (pantryBase + k)] ⊆ ps := by
  have e : regPart (pantryBase + k) = .pantryRegs := by
    delta regPart systemBase fuseBase powerBase clockBase memProtBase hkBase thermBase counterBase
      testBase lineBase hostBase tamidBase chainCtlBase cdacBase pantryBase keyBase
    split_ifs <;> first | rfl | omega
  exact e ▸ hp

theorem regPart_key (h : k < 0x10000) (hp : [Part.keyRegs] ⊆ ps) :
    [regPart (keyBase + k)] ⊆ ps := by
  have e : regPart (keyBase + k) = .keyRegs := by
    delta regPart systemBase fuseBase powerBase clockBase memProtBase hkBase thermBase counterBase
      testBase lineBase hostBase tamidBase chainCtlBase cdacBase pantryBase keyBase
    split_ifs <;> first | rfl | omega
  exact e ▸ hp

theorem regPart_line {n : Fin 8} (h : k < 0x10000) (hp : [Part.lineRegs] ⊆ ps) :
    [regPart (lineBase n.val + k)] ⊆ ps := by
  have e : regPart (lineBase n.val + k) = .lineRegs := by
    delta regPart systemBase fuseBase powerBase clockBase memProtBase hkBase thermBase counterBase
      testBase lineBase hostBase tamidBase chainCtlBase cdacBase pantryBase keyBase
    split_ifs <;> first | rfl | omega
  exact e ▸ hp

theorem regPart_host {m : Fin 16} (h : k < 0x10000) (hp : [Part.hostRegs] ⊆ ps) :
    [regPart (hostBase m.val + k)] ⊆ ps := by
  have e : regPart (hostBase m.val + k) = .hostRegs := by
    delta regPart systemBase fuseBase powerBase clockBase memProtBase hkBase thermBase counterBase
      testBase lineBase hostBase tamidBase chainCtlBase cdacBase pantryBase keyBase
    split_ifs <;> first | rfl | omega
  exact e ▸ hp

theorem regPart_tamid {i : Fin 8} (h : k < 0x10000) (hp : [Part.tamidRegs] ⊆ ps) :
    [regPart (tamidBase i.val + k)] ⊆ ps := by
  have e : regPart (tamidBase i.val + k) = .tamidRegs := by
    delta regPart systemBase fuseBase powerBase clockBase memProtBase hkBase thermBase counterBase
      testBase lineBase hostBase tamidBase chainCtlBase cdacBase pantryBase keyBase
    split_ifs <;> first | rfl | omega
  exact e ▸ hp

theorem regPart_mc {j : Fin 24} (h : k < 0x10000) (hp : [Part.chainRegs] ⊆ ps) :
    [regPart (mcBase j + k)] ⊆ ps := by
  have e : regPart (mcBase j + k) = .chainRegs := by
    delta regPart mcBase chainBase systemBase fuseBase powerBase clockBase memProtBase hkBase thermBase counterBase
      testBase lineBase hostBase tamidBase chainCtlBase cdacBase pantryBase keyBase
    split_ifs <;> first | rfl | omega
  exact e ▸ hp

theorem regPart_chainCtl (h : k < 0x10000) (hp : [Part.chainRegs] ⊆ ps) :
    [regPart (chainCtlBase + k)] ⊆ ps := by
  have e : regPart (chainCtlBase + k) = .chainRegs := by
    delta regPart systemBase fuseBase powerBase clockBase memProtBase hkBase thermBase counterBase
      testBase lineBase hostBase tamidBase chainCtlBase cdacBase pantryBase keyBase
    split_ifs <;> first | rfl | omega
  exact e ▸ hp

theorem regPart_cdac (h : k < 0x10000) (hp : [Part.cdacRegs] ⊆ ps) :
    [regPart (cdacBase + k)] ⊆ ps := by
  have e : regPart (cdacBase + k) = .cdacRegs := by
    delta regPart systemBase fuseBase powerBase clockBase memProtBase hkBase thermBase counterBase
      testBase lineBase hostBase tamidBase chainCtlBase cdacBase pantryBase keyBase
    split_ifs <;> first | rfl | omega
  exact e ▸ hp

theorem regPart_cd {c : Fin 32} (h : k < 0x10000) (hp : [Part.cdacRegs] ⊆ ps) :
    [regPart (cdBase c + k)] ⊆ ps := by
  have e : regPart (cdBase c + k) = .cdacRegs := by
    delta regPart cdBase systemBase fuseBase powerBase clockBase memProtBase hkBase thermBase counterBase
      testBase lineBase hostBase tamidBase chainCtlBase cdacBase pantryBase keyBase
    split_ifs <;> first | rfl | omega
  exact e ▸ hp

end

theorem Only.refl (ps : List Part) (s : State) : Only ps s s := fun p _ => p.same_refl s

theorem Only.trans {ps : List Part} {s t u : State} (h : Only ps s t) (k : Only ps t u) : Only ps s u :=
  fun p hp => Part.same_trans (h p hp) (k p hp)

theorem Only.mono {ps qs : List Part} {s t : State} (h : Only ps s t) (hq : ps ⊆ qs) : Only qs s t :=
  fun p hp => h p fun hm => hp (hq hm)

/-- From `s` the part can reach `t` by changing the parts `ps`. -/
structure Evolves (ps : List Part) (s t : State) : Prop where
  only : Only ps s t
  inv : s.Inv → t.Inv
  free : s.free ≤ t.free

theorem Evolves.refl (ps : List Part) (s : State) : Evolves ps s s := ⟨Only.refl ps s, id, le_refl _⟩

theorem Evolves.trans {ps : List Part} {s t u : State} (h : Evolves ps s t) (k : Evolves ps t u) : Evolves ps s u :=
  ⟨h.only.trans k.only, k.inv ∘ h.inv, h.free.trans k.free⟩

theorem Evolves.mono {ps qs : List Part} {s t : State} (h : Evolves ps s t) (hq : ps ⊆ qs) : Evolves qs s t :=
  ⟨h.only.mono hq, h.inv, h.free⟩

/-- What an operation does, then what the next one does. -/
theorem Evolves.andThen {ps qs : List Part} {s t u : State} (h : Evolves qs s t) (k : Evolves ps t u)
    (hq : ps ⊆ qs) : Evolves qs s u := h.trans (k.mono hq)

theorem Evolves.ite {ps : List Part} {c : Prop} [Decidable c] {s t u : State} (h : Evolves ps s t)
    (k : Evolves ps s u) : Evolves ps s (if c then t else u) := by split <;> assumption

/-- An update repeated over a list of units. -/
theorem Evolves.each {ps : List Part} {s₀ s : State} {α : Type} {l : List α} {f : α → State → State}
    (h : Evolves ps s₀ s) (hf : ∀ x t, Evolves ps s₀ t → Evolves ps s₀ (f x t)) : Evolves ps s₀ (s.each l f) := by
  induction l generalizing s with
  | nil => exact h
  | cons a l ih => exact ih (hf a s h)

theorem Evolves.foldl {ps : List Part} {s₀ s : State} {α : Type} {l : List α} {f : State → α → State}
    (h : Evolves ps s₀ s) (hf : ∀ t x, Evolves ps s₀ t → Evolves ps s₀ (f t x)) : Evolves ps s₀ (l.foldl f s) := by
  induction l generalizing s with
  | nil => exact h
  | cons a l ih => exact ih (hf s a h)

theorem Evolves.when {ps : List Part} {s₀ s : State} {c : Bool} {f : State → State} (h : Evolves ps s₀ s)
    (hf : ∀ t, Evolves ps s₀ t → Evolves ps s₀ (f t)) : Evolves ps s₀ (s.when c f) := by
  cases c
  · exact h
  · exact hf s h

/-- A change of one part that the invariant does not speak of. -/
theorem Evolves.of_only {ps : List Part} {s t : State} (h : Only ps s t) (hf : s.free ≤ t.free)
    (hr : t.regs = s.regs) (hm : t.mem = s.mem) (hl : t.flash = s.flash) (hh : t.fuse.hist = s.fuse.hist)
    (hi : t.link.inbox = s.link.inbox) (ho : t.link.outbox = s.link.outbox)
    (hc : ∀ c : Fin 32, t.cdac[c].queue = s.cdac[c].queue) (hk : t.hk.queue = s.hk.queue)
    (ht : ∀ i : Fin 8, t.tamid[i].queue = s.tamid[i].queue) : Evolves ps s t :=
  ⟨h, fun v => ⟨by simpa [State.canonical, hr, hm, hl] using v.canonical, by simpa [hh] using v.hist,
    by simpa [hi] using v.inbox, by simpa [ho] using v.outbox, fun c => by rw [hc]; exact v.cdac c,
    by simpa [hk] using v.hk, fun i => by rw [ht]; exact v.tamid i⟩, hf⟩

/-! ### Changes of one part -/

variable {ps : List Part} {s₀ s : State}

theorem Evolves.fuse {x : FuseBox} (h : Evolves ps s₀ s) (hp : [Part.fuse] ⊆ ps)
    (k : s.fuse.hist.length ≤ 16 → x.hist.length ≤ 16) :
    Evolves ps s₀ { s with fuse := x } :=
  h.andThen ⟨fun p hp => by cases p <;> first | rfl | exact fun _ _ => rfl | exact absurd (by simp) hp, fun v => ⟨v.canonical, k v.hist, v.inbox, v.outbox, v.cdac, v.hk, v.tamid⟩, le_refl _⟩ hp

theorem Evolves.link {x : Link} (h : Evolves ps s₀ s) (hp : [Part.link] ⊆ ps)
    (k : s.link.inbox.length ≤ 4 ∧ s.link.outbox.length ≤ 4 → x.inbox.length ≤ 4 ∧ x.outbox.length ≤ 4) :
    Evolves ps s₀ { s with link := x } :=
  h.andThen ⟨fun p hp => by cases p <;> first | rfl | exact fun _ _ => rfl | exact absurd (by simp) hp, fun v => 
    have w := k ⟨v.inbox, v.outbox⟩
    ⟨v.canonical, v.hist, w.1, w.2, v.cdac, v.hk, v.tamid⟩, le_refl _⟩ hp

theorem Evolves.hk {x : HkState} (h : Evolves ps s₀ s) (hp : [Part.hk] ⊆ ps)
    (k : s.hk.queue.length ≤ 8 → x.queue.length ≤ 8) :
    Evolves ps s₀ { s with hk := x } :=
  h.andThen ⟨fun p hp => by cases p <;> first | rfl | exact fun _ _ => rfl | exact absurd (by simp) hp, fun v => ⟨v.canonical, v.hist, v.inbox, v.outbox, v.cdac, k v.hk, v.tamid⟩, le_refl _⟩ hp

theorem Evolves.cdac {x : Vector CdacChannel 32} (h : Evolves ps s₀ s) (hp : [Part.cdac] ⊆ ps)
    (k : (∀ c : Fin 32, s.cdac[c].queue.length ≤ 16) → ∀ c : Fin 32, x[c].queue.length ≤ 16) :
    Evolves ps s₀ { s with cdac := x } :=
  h.andThen ⟨fun p hp => by cases p <;> first | rfl | exact fun _ _ => rfl | exact absurd (by simp) hp, fun v => ⟨v.canonical, v.hist, v.inbox, v.outbox, k v.cdac, v.hk, v.tamid⟩, le_refl _⟩ hp

theorem Evolves.tamid {x : Vector TamidInst 8} (h : Evolves ps s₀ s) (hp : [Part.tamid] ⊆ ps)
    (k : (∀ i : Fin 8, s.tamid[i].queue.length ≤ 8) → ∀ i : Fin 8, x[i].queue.length ≤ 8) :
    Evolves ps s₀ { s with tamid := x } :=
  h.andThen ⟨fun p hp => by cases p <;> first | rfl | exact fun _ _ => rfl | exact absurd (by simp) hp, fun v => ⟨v.canonical, v.hist, v.inbox, v.outbox, v.cdac, v.hk, k v.tamid⟩, le_refl _⟩ hp

theorem Evolves.regs {x : List (Nat × Word)} (h : Evolves ps s₀ s)
    (hr : ∀ a, regPart a ∉ ps → Sparse.get regReset x a = s.reg a)
    (k : Sparse.wf regReset s.regs = true → Sparse.wf regReset x = true) :
    Evolves ps s₀ { s with regs := x } :=
  h.trans ⟨fun p hp => by cases p <;> first | rfl | exact fun a e => hr a (e ▸ hp),
    fun v => ⟨by have := v.canonical; simp only [State.canonical, Bool.and_eq_true] at this ⊢; exact ⟨⟨k this.1.1, this.1.2⟩, this.2⟩,
    v.hist, v.inbox, v.outbox, v.cdac, v.hk, v.tamid⟩, le_refl _⟩

theorem Evolves.mem {x : List Host.Cell} (h : Evolves ps s₀ s) (hp : [Part.mem] ⊆ ps)
    (k : Memory.wf s.mem = true → Memory.wf x = true) :
    Evolves ps s₀ { s with mem := x } :=
  h.andThen ⟨fun p hp => by cases p <;> first | rfl | exact fun _ _ => rfl | exact absurd (by simp) hp, fun v => ⟨by have := v.canonical; simp only [State.canonical, Bool.and_eq_true] at this ⊢; exact ⟨⟨this.1.1, k this.1.2⟩, this.2⟩,
    v.hist, v.inbox, v.outbox, v.cdac, v.hk, v.tamid⟩, le_refl _⟩ hp

theorem Evolves.flash {x : List Host.Cell} (h : Evolves ps s₀ s) (hp : [Part.flash] ⊆ ps)
    (k : Sparse.wf flashDefault s.flash = true → Sparse.wf flashDefault x = true) :
    Evolves ps s₀ { s with flash := x } :=
  h.andThen ⟨fun p hp => by cases p <;> first | rfl | exact fun _ _ => rfl | exact absurd (by simp) hp, fun v => ⟨by have := v.canonical; simp only [State.canonical, Bool.and_eq_true] at this ⊢; exact ⟨this.1, k this.2⟩,
    v.hist, v.inbox, v.outbox, v.cdac, v.hk, v.tamid⟩, le_refl _⟩ hp

theorem Evolves.line {x : Vector LineLane 8} (h : Evolves ps s₀ s) (hp : [Part.line] ⊆ ps) :
    Evolves ps s₀ { s with line := x } :=
  h.andThen (.of_only (fun p hp => by cases p <;> first | rfl | exact fun _ _ => rfl | exact absurd (by simp) hp) (le_refl _) rfl rfl rfl rfl rfl rfl
    (fun _ => rfl) rfl fun _ => rfl) hp

theorem Evolves.host {x : Vector HostLane 16} (h : Evolves ps s₀ s) (hp : [Part.host] ⊆ ps) :
    Evolves ps s₀ { s with host := x } :=
  h.andThen (.of_only (fun p hp => by cases p <;> first | rfl | exact fun _ _ => rfl | exact absurd (by simp) hp) (le_refl _) rfl rfl rfl rfl rfl rfl
    (fun _ => rfl) rfl fun _ => rfl) hp

theorem Evolves.lanes {x : Lanes} (h : Evolves ps s₀ s) (hp : [Part.lanes] ⊆ ps) :
    Evolves ps s₀ { s with lanes := x } :=
  h.andThen (.of_only (fun p hp => by cases p <;> first | rfl | exact fun _ _ => rfl | exact absurd (by simp) hp) (le_refl _) rfl rfl rfl rfl rfl rfl
    (fun _ => rfl) rfl fun _ => rfl) hp

theorem Evolves.power {x : Power} (h : Evolves ps s₀ s) (hp : [Part.power] ⊆ ps) :
    Evolves ps s₀ { s with power := x } :=
  h.andThen (.of_only (fun p hp => by cases p <;> first | rfl | exact fun _ _ => rfl | exact absurd (by simp) hp) (le_refl _) rfl rfl rfl rfl rfl rfl
    (fun _ => rfl) rfl fun _ => rfl) hp

theorem Evolves.counters {x : CounterState} (h : Evolves ps s₀ s) (hp : [Part.counters] ⊆ ps) :
    Evolves ps s₀ { s with counters := x } :=
  h.andThen (.of_only (fun p hp => by cases p <;> first | rfl | exact fun _ _ => rfl | exact absurd (by simp) hp) (le_refl _) rfl rfl rfl rfl rfl rfl
    (fun _ => rfl) rfl fun _ => rfl) hp

theorem Evolves.attic {x : Attic} (h : Evolves ps s₀ s) (hp : [Part.attic] ⊆ ps) :
    Evolves ps s₀ { s with attic := x } :=
  h.andThen (.of_only (fun p hp => by cases p <;> first | rfl | exact fun _ _ => rfl | exact absurd (by simp) hp) (le_refl _) rfl rfl rfl rfl rfl rfl
    (fun _ => rfl) rfl fun _ => rfl) hp

theorem Evolves.clock {x : ClockState} (h : Evolves ps s₀ s) (hp : [Part.clock] ⊆ ps) :
    Evolves ps s₀ { s with clock := x } :=
  h.andThen (.of_only (fun p hp => by cases p <;> first | rfl | exact fun _ _ => rfl | exact absurd (by simp) hp) (le_refl _) rfl rfl rfl rfl rfl rfl
    (fun _ => rfl) rfl fun _ => rfl) hp

theorem Evolves.boot {x : BootState} (h : Evolves ps s₀ s) (hp : [Part.boot] ⊆ ps) :
    Evolves ps s₀ { s with boot := x } :=
  h.andThen (.of_only (fun p hp => by cases p <;> first | rfl | exact fun _ _ => rfl | exact absurd (by simp) hp) (le_refl _) rfl rfl rfl rfl rfl rfl
    (fun _ => rfl) rfl fun _ => rfl) hp

theorem Evolves.chain {x : Vector ChainState 24} (h : Evolves ps s₀ s) (hp : [Part.chain] ⊆ ps) :
    Evolves ps s₀ { s with chain := x } :=
  h.andThen (.of_only (fun p hp => by cases p <;> first | rfl | exact fun _ _ => rfl | exact absurd (by simp) hp) (le_refl _) rfl rfl rfl rfl rfl rfl
    (fun _ => rfl) rfl fun _ => rfl) hp

theorem Evolves.carriers {x : List CarrierEntry} (h : Evolves ps s₀ s) (hp : [Part.carriers] ⊆ ps) :
    Evolves ps s₀ { s with carriers := x } :=
  h.andThen (.of_only (fun p hp => by cases p <;> first | rfl | exact fun _ _ => rfl | exact absurd (by simp) hp) (le_refl _) rfl rfl rfl rfl rfl rfl
    (fun _ => rfl) rfl fun _ => rfl) hp

theorem Evolves.memory {x : MemProt} (h : Evolves ps s₀ s) (hp : [Part.memory] ⊆ ps) :
    Evolves ps s₀ { s with memory := x } :=
  h.andThen (.of_only (fun p hp => by cases p <;> first | rfl | exact fun _ _ => rfl | exact absurd (by simp) hp) (le_refl _) rfl rfl rfl rfl rfl rfl
    (fun _ => rfl) rfl fun _ => rfl) hp

theorem Evolves.pantry {x : Pantry} (h : Evolves ps s₀ s) (hp : [Part.pantry] ⊆ ps) :
    Evolves ps s₀ { s with pantry := x } :=
  h.andThen (.of_only (fun p hp => by cases p <;> first | rfl | exact fun _ _ => rfl | exact absurd (by simp) hp) (le_refl _) rfl rfl rfl rfl rfl rfl
    (fun _ => rfl) rfl fun _ => rfl) hp

theorem Evolves.rooms {x : Rooms} (h : Evolves ps s₀ s) (hp : [Part.rooms] ⊆ ps) :
    Evolves ps s₀ { s with rooms := x } :=
  h.andThen (.of_only (fun p hp => by cases p <;> first | rfl | exact fun _ _ => rfl | exact absurd (by simp) hp) (le_refl _) rfl rfl rfl rfl rfl rfl
    (fun _ => rfl) rfl fun _ => rfl) hp

theorem Evolves.thermal {x : Thermal} (h : Evolves ps s₀ s) (hp : [Part.thermal] ⊆ ps) :
    Evolves ps s₀ { s with thermal := x } :=
  h.andThen (.of_only (fun p hp => by cases p <;> first | rfl | exact fun _ _ => rfl | exact absurd (by simp) hp) (le_refl _) rfl rfl rfl rfl rfl rfl
    (fun _ => rfl) rfl fun _ => rfl) hp

theorem Evolves.test {x : TestState} (h : Evolves ps s₀ s) (hp : [Part.test] ⊆ ps) :
    Evolves ps s₀ { s with test := x } :=
  h.andThen (.of_only (fun p hp => by cases p <;> first | rfl | exact fun _ _ => rfl | exact absurd (by simp) hp) (le_refl _) rfl rfl rfl rfl rfl rfl
    (fun _ => rfl) rfl fun _ => rfl) hp

theorem Evolves.flashJob {x : Option FlashJob} (h : Evolves ps s₀ s) (hp : [Part.flashJob] ⊆ ps) :
    Evolves ps s₀ { s with flashJob := x } :=
  h.andThen (.of_only (fun p hp => by cases p <;> first | rfl | exact fun _ _ => rfl | exact absurd (by simp) hp) (le_refl _) rfl rfl rfl rfl rfl rfl
    (fun _ => rfl) rfl fun _ => rfl) hp

theorem Evolves.limits {x : List (Nat × Nat)} (h : Evolves ps s₀ s) (hp : [Part.limits] ⊆ ps) :
    Evolves ps s₀ { s with limits := x } :=
  h.andThen (.of_only (fun p hp => by cases p <;> first | rfl | exact fun _ _ => rfl | exact absurd (by simp) hp) (le_refl _) rfl rfl rfl rfl rfl rfl
    (fun _ => rfl) rfl fun _ => rfl) hp

theorem Evolves.atticBoot {x : Attic} {y : BootState} (h : Evolves ps s₀ s) (hp : [Part.attic, Part.boot] ⊆ ps) :
    Evolves ps s₀ { s with attic := x, boot := y } :=
  Evolves.boot (s := { s with attic := x }) (h.attic (List.Subset.trans (by decide) hp)) (List.Subset.trans (by decide) hp)

theorem Evolves.atticThermal {x : Attic} {y : Thermal} (h : Evolves ps s₀ s) (hp : [Part.attic, Part.thermal] ⊆ ps) :
    Evolves ps s₀ { s with attic := x, thermal := y } :=
  Evolves.thermal (s := { s with attic := x }) (h.attic (List.Subset.trans (by decide) hp)) (List.Subset.trans (by decide) hp)

theorem Evolves.bootThermal {x : BootState} {y : Thermal} (h : Evolves ps s₀ s) (hp : [Part.boot, Part.thermal] ⊆ ps) :
    Evolves ps s₀ { s with boot := x, thermal := y } :=
  Evolves.thermal (s := { s with boot := x }) (h.boot (List.Subset.trans (by decide) hp)) (List.Subset.trans (by decide) hp)

theorem Evolves.flashThermal {x : List Host.Cell} {y : Thermal} (h : Evolves ps s₀ s)
    (hp : [Part.flash, Part.thermal] ⊆ ps) (k : Sparse.wf flashDefault s.flash = true → Sparse.wf flashDefault x = true) :
    Evolves ps s₀ { s with thermal := y, flash := x } :=
  Evolves.thermal (s := { s with flash := x }) (h.flash (List.Subset.trans (by decide) hp) k)
    (List.Subset.trans (by decide) hp)

theorem Evolves.clockThermal {x : ClockState} {y : Thermal} (h : Evolves ps s₀ s) (hp : [Part.clock, Part.thermal] ⊆ ps) :
    Evolves ps s₀ { s with clock := x, thermal := y } :=
  Evolves.thermal (s := { s with clock := x }) (h.clock (List.Subset.trans (by decide) hp)) (List.Subset.trans (by decide) hp)

theorem Evolves.lanesBoot {x : Lanes} {y : BootState} (h : Evolves ps s₀ s) (hp : [Part.lanes, Part.boot] ⊆ ps) :
    Evolves ps s₀ { s with boot := y, lanes := x } :=
  Evolves.boot (s := { s with lanes := x }) (h.lanes (List.Subset.trans (by decide) hp)) (List.Subset.trans (by decide) hp)

/-- The tick moves on. -/
theorem Evolves.tick {x : Nat} (h : Evolves ps s₀ s) (hp : [Part.tick] ⊆ ps) : Evolves ps s₀ { s with tick := x } :=
  h.andThen (.of_only (fun p hp => by cases p <;> first | rfl | exact fun _ _ => rfl | exact absurd (by simp) hp) (le_refl _) rfl rfl rfl rfl rfl rfl
    (fun _ => rfl) rfl fun _ => rfl) hp

/-- The Fuse Box takes over a history from another state of the same run. -/
theorem Evolves.fuseFrom {r : State} {x : FuseBox} (hr : Evolves ps s₀ r) (h : Evolves ps s₀ s) (hp : [Part.fuse] ⊆ ps)
    (k : s.fuse.hist.length ≤ 16 → x.hist.length ≤ 16) : Evolves ps s₀ { r with fuse := x } :=
  ⟨hr.only.trans fun p hn => by cases p <;> first | rfl | exact fun _ _ => rfl | exact absurd (hp (by simp)) hn,
    fun v => ⟨(hr.inv v).canonical, k (h.inv v).hist, (hr.inv v).inbox, (hr.inv v).outbox, (hr.inv v).cdac, (hr.inv v).hk,
      (hr.inv v).tamid⟩, hr.free⟩

/-- The next free value is taken. -/
theorem Evolves.next (h : Evolves ps s₀ s) (hp : [Part.free] ⊆ ps) : Evolves ps s₀ { s with free := s.free + 1 } :=
  h.andThen (.of_only (fun p hp => by cases p <;> first | rfl | exact fun _ _ => rfl | exact absurd (by simp) hp) (Nat.le_succ _) rfl rfl rfl rfl rfl rfl
    (fun _ => rfl) rfl fun _ => rfl) hp

/-! ### Commands -/

/-- A command answers a next state: the same one, or one that `s` can reach by changing the parts `ps`, with the reactions of
the raises it made carried out. -/
def Runs (ps : List Part) (s : State) (r : Result State Fault Refusal) : Prop :=
  r = .next s ∨ ∃ u, Evolves ps s u ∧ r = .next u.react

theorem Runs.mono {ps qs : List Part} {r : Result State Fault Refusal} (h : Runs ps s r) (hq : ps ⊆ qs) : Runs qs s r :=
  h.imp_right fun ⟨u, e, hr⟩ => ⟨u, e.mono hq, hr⟩

theorem Runs.done (h : Evolves ps s₀ s) : Runs ps s₀ (done s) := .inr ⟨s, h, rfl⟩

theorem Runs.unchanged : Runs ps s (unchanged s) := .inl rfl

theorem Runs.ite {c : Prop} [Decidable c] {a b : Result State Fault Refusal} (h : Runs ps s₀ a)
    (k : Runs ps s₀ b) : Runs ps s₀ (if c then a else b) := by split <;> assumption

/-- A command that leaves the Fuse Box alone has no reactions, where none was due before it. -/
theorem Runs.quiet {r : Result State Fault Refusal} (h : Runs ps s₀ r) (hd : s₀.noneDue) (hf : .fuse ∉ ps) :
    ∃ t, r = .next t ∧ Evolves ps s₀ t := by
  obtain rfl | ⟨u, e, rfl⟩ := h
  · exact ⟨s₀, rfl, .refl _ _⟩
  · have : u.fuse.due = [] := by rw [show u.fuse = s₀.fuse from e.only .fuse hf]; exact hd
    exact ⟨u, by rw [State.react_of_none this], e⟩

end Sys2Proof.Machine
end

