-- ==== Sys2Proof/Laws/Shared.lean ====
section
/-! SUPPORT. What each operation can do (`Evolves`): the shared operations: registers, memories, raises, votes, replies, and the lanes. -/

namespace Sys2Proof.Machine

variable {ps : List Part} {s₀ s : State}

theorem State.setReg_evolves {a w} (h : Evolves ps s₀ s) (hp : [regPart a] ⊆ ps) :
    Evolves ps s₀ (s.setReg a w) := by
  unfold State.setReg
  refine h.regs (fun a ha => Sparse.get_set_ne _ _ _ fun e => ha (e ▸ hp (by simp))) fun k => Sparse.wf_set regReset _
      _ _ k

theorem State.setFld_evolves {base f v} (h : Evolves ps s₀ s) (hp : [regPart (base + f.off)] ⊆ ps) :
    Evolves ps s₀ (s.setFld base f v) := by
  exact State.setReg_evolves h hp

theorem State.setFlag_evolves {base f v} (h : Evolves ps s₀ s) (hp : [regPart (base + f.off)] ⊆ ps) :
    Evolves ps s₀ (s.setFlag base f v) := by
  exact State.setFld_evolves h hp

theorem State.addSat_evolves {base f k} (h : Evolves ps s₀ s) (hp : [regPart (base + f.off)] ⊆ ps) :
    Evolves ps s₀ (s.addSat base f k) := by
  exact State.setFld_evolves h hp

theorem State.bump_evolves {base f} (h : Evolves ps s₀ s) (hp : [regPart (base + f.off)] ⊆ ps) :
    Evolves ps s₀ (s.bump base f) := by
  exact State.addSat_evolves h hp

theorem State.bumpMod_evolves {base f} (h : Evolves ps s₀ s) (hp : [regPart (base + f.off)] ⊆ ps) :
    Evolves ps s₀ (s.bumpMod base f) := by
  exact State.setFld_evolves h hp

theorem State.setPair_evolves {base lo hi v} (h : Evolves ps s₀ s) (hp : [regPart (base + lo.off), regPart (base +
    hi.off)] ⊆ ps) :
    Evolves ps s₀ (s.setPair base lo hi v) := by
  exact State.setFld_evolves (State.setFld_evolves h (List.Subset.trans (by simp) hp)) (List.Subset.trans (by simp) hp)

theorem State.setByte_evolves {a b} (h : Evolves ps s₀ s) (hp : [.mem] ⊆ ps) :
    Evolves ps s₀ (s.setByte a b) := by
  unfold State.setByte
  exact h.mem hp fun k => Sparse.wf_set memDefault _ _ _ k

theorem State.setBytes_evolves {x1 x2} (h : Evolves ps s₀ s) (hp : [.mem] ⊆ ps) :
    Evolves ps s₀ (s.setBytes x1 x2) := by
  induction x2 generalizing s x1 with
  | nil => exact h
  | cons b bs ih => exact ih (State.setByte_evolves h hp)

theorem State.setMemNat_evolves {a k v} (h : Evolves ps s₀ s) (hp : [.mem] ⊆ ps) :
    Evolves ps s₀ (s.setMemNat a k v) := by
  unfold State.setMemNat
  repeat' first
    | with_reducible assumption
    | exact List.Subset.trans (by decide) hp
    | with_reducible apply State.setBytes_evolves

theorem State.setFlashByte_evolves {a b} (h : Evolves ps s₀ s) (hp : [.flash] ⊆ ps) :
    Evolves ps s₀ (s.setFlashByte a b) := by
  unfold State.setFlashByte
  exact h.flash hp fun k => Sparse.wf_set flashDefault _ _ _ k

theorem State.setFlashBytes_evolves {x1 x2} (h : Evolves ps s₀ s) (hp : [.flash] ⊆ ps) :
    Evolves ps s₀ (s.setFlashBytes x1 x2) := by
  induction x2 generalizing s x1 with
  | nil => exact h
  | cons b bs ih => exact ih (State.setFlashByte_evolves h hp)

theorem State.cmdReady_evolves (h : Evolves ps s₀ s) (hp : [.thermal, .systemRegs] ⊆ ps) :
    Evolves ps s₀ (s.cmdReady) := by
  unfold State.cmdReady
  repeat' first
    | with_reducible assumption
    | exact List.Subset.trans (by decide) hp
    | exact Nat.le_of_ble_eq_true rfl
    | exact Field.ix_lt _ _
    | exact Field.lt _
    | with_reducible apply regPart_system
    | intro _ _ _
    | intro _ _
    | intro _
    | with_reducible apply Evolves.ite
    | with_reducible apply State.setFlag_evolves
    | split
    | dsimp only
    | with_reducible apply Evolves.thermal

theorem State.modLine_evolves {n f} (h : Evolves ps s₀ s) (hp : [.line] ⊆ ps) :
    Evolves ps s₀ (s.modLine n f) := by
  unfold State.modLine
  repeat' first
    | with_reducible assumption
    | exact List.Subset.trans (by decide) hp
    | with_reducible apply Evolves.line

theorem State.modAdc_evolves {n f} (h : Evolves ps s₀ s) (hp : [.line] ⊆ ps) :
    Evolves ps s₀ (s.modAdc n f) := by
  unfold State.modAdc
  repeat' first
    | with_reducible assumption
    | exact List.Subset.trans (by decide) hp
    | with_reducible apply State.modLine_evolves

theorem State.modRx_evolves {n f} (h : Evolves ps s₀ s) (hp : [.line] ⊆ ps) :
    Evolves ps s₀ (s.modRx n f) := by
  unfold State.modRx
  repeat' first
    | with_reducible assumption
    | exact List.Subset.trans (by decide) hp
    | with_reducible apply State.modLine_evolves

theorem State.modTx_evolves {n f} (h : Evolves ps s₀ s) (hp : [.line] ⊆ ps) :
    Evolves ps s₀ (s.modTx n f) := by
  unfold State.modTx
  repeat' first
    | with_reducible assumption
    | exact List.Subset.trans (by decide) hp
    | with_reducible apply State.modLine_evolves

theorem State.modLinkOf_evolves {n f} (h : Evolves ps s₀ s) (hp : [.line] ⊆ ps) :
    Evolves ps s₀ (s.modLinkOf n f) := by
  unfold State.modLinkOf
  repeat' first
    | with_reducible assumption
    | exact List.Subset.trans (by decide) hp
    | with_reducible apply State.modLine_evolves

theorem State.modHost_evolves {m f} (h : Evolves ps s₀ s) (hp : [.host] ⊆ ps) :
    Evolves ps s₀ (s.modHost m f) := by
  unfold State.modHost
  repeat' first
    | with_reducible assumption
    | exact List.Subset.trans (by decide) hp
    | with_reducible apply Evolves.host

theorem State.modPantry_evolves {n f} (h : Evolves ps s₀ s) (hp : [.pantry] ⊆ ps) :
    Evolves ps s₀ (s.modPantry n f) := by
  unfold State.modPantry
  repeat' first
    | with_reducible assumption
    | exact List.Subset.trans (by decide) hp
    | with_reducible apply Evolves.pantry

theorem State.wipe_evolves {a size} (h : Evolves ps s₀ s) (hp : [.mem] ⊆ ps) :
    Evolves ps s₀ (s.wipe a size) := by
  unfold State.wipe
  exact h.mem hp fun k => Sparse.wf_filter memDefault _ _ k

theorem State.setInFrame_evolves {n} (h : Evolves ps s₀ s) (hp : [.line, .pantry, .lineRegs] ⊆ ps) :
    Evolves ps s₀ (s.setInFrame n) := by
  unfold State.setInFrame
  repeat' first
    | with_reducible assumption
    | exact List.Subset.trans (by decide) hp
    | exact Nat.le_of_ble_eq_true rfl
    | exact Field.ix_lt _ _
    | exact Field.lt _
    | with_reducible apply regPart_line
    | intro _ _ _
    | intro _ _
    | intro _
    | with_reducible apply Evolves.ite
    | with_reducible apply State.modPantry_evolves
    | with_reducible apply State.modRx_evolves
    | with_reducible apply State.setFlag_evolves
    | with_reducible apply State.setFld_evolves
    | split
    | dsimp only

theorem State.fresh_evolves (h : Evolves ps s₀ s) (hp : [.free] ⊆ ps) :
    ∀ {y z}, s.fresh = (y, z) → Evolves ps s₀ z := by
  intro a t e
  simp only [State.fresh, Prod.mk.injEq] at e
  exact e.2 ▸ h.next hp

theorem State.fresh_snd (h : Evolves ps s₀ s) (hp : [.free] ⊆ ps) :
    Evolves ps s₀ (s.fresh).2 := State.fresh_evolves h hp rfl

theorem State.attnEdge_evolves {low} (h : Evolves ps s₀ s) (hp : [.link] ⊆ ps) :
    Evolves ps s₀ (s.attnEdge low) := by
  unfold State.attnEdge
  repeat' first
    | with_reducible assumption
    | exact List.Subset.trans (by decide) hp
    | exact fun k => k
    | exact fun _ => Nat.zero_le _
    | with_reducible apply Evolves.ite
    | with_reducible apply Evolves.link

theorem State.attn_evolves {f} (h : Evolves ps s₀ s) (hf : f.off < 0x10000) (hp : [.link, .systemRegs] ⊆ ps) :
    Evolves ps s₀ (s.attn f) := by
  unfold State.attn
  repeat' first
    | with_reducible assumption
    | exact List.Subset.trans (by decide) hp
    | exact Nat.le_of_ble_eq_true rfl
    | exact Field.ix_lt _ _
    | with_reducible apply regPart_system
    | with_reducible apply State.attnEdge_evolves
    | with_reducible apply State.setFlag_evolves

theorem State.setCounter_evolves {k c} (h : Evolves ps s₀ s) (hp : [.counters] ⊆ ps) :
    Evolves ps s₀ (s.setCounter k c) := by
  unfold State.setCounter
  repeat' first
    | with_reducible assumption
    | exact List.Subset.trans (by decide) hp
    | with_reducible apply Evolves.counters

theorem State.countEvent_evolves {ev k} (h : Evolves ps s₀ s) (hp : [.counters] ⊆ ps) :
    Evolves ps s₀ (s.countEvent ev k) := by
  unfold State.countEvent
  repeat' first
    | with_reducible assumption
    | exact List.Subset.trans (by decide) hp
    | with_reducible apply Evolves.ite
    | split
    | dsimp only
    | with_reducible apply Evolves.counters

theorem State.bwAdd_evolves {k} {bits} (h : Evolves ps s₀ s) (hp : [.counters] ⊆ ps) :
    Evolves ps s₀ (s.bwAdd k bits) := by
  unfold State.bwAdd
  repeat' first
    | with_reducible assumption
    | exact List.Subset.trans (by decide) hp
    | intro _ _ _
    | intro _ _
    | intro _
    | with_reducible apply Evolves.ite
    | split
    | dsimp only
    | with_reducible apply Evolves.counters

theorem State.portRequest_evolves {port} {bytes} {write} (h : Evolves ps s₀ s) (hp : [.counters] ⊆ ps) :
    Evolves ps s₀ (s.portRequest port bytes write) := by
  unfold State.portRequest
  repeat' first
    | with_reducible assumption
    | exact List.Subset.trans (by decide) hp
    | intro _ _ _
    | intro _ _
    | intro _
    | with_reducible apply Evolves.ite
    | with_reducible apply State.bwAdd_evolves
    | with_reducible apply State.countEvent_evolves
    | split
    | dsimp only

theorem State.hallAccess_evolves {port} {a} {bytes} {write} (h : Evolves ps s₀ s) (hp : [.counters] ⊆ ps) :
    Evolves ps s₀ (s.hallAccess port a bytes write) := by
  unfold State.hallAccess
  repeat' first
    | with_reducible assumption
    | exact List.Subset.trans (by decide) hp
    | intro _ _ _
    | intro _ _
    | intro _
    | with_reducible apply Evolves.ite
    | with_reducible apply State.portRequest_evolves
    | with_reducible apply Evolves.each
    | split
    | dsimp only

/-- What a raise does to the Fuse Box keeps the history within 16 entries (R338). -/
theorem FuseBox.enter_hist (f : FuseBox) (e : HistEntry) (k : f.hist.length ≤ 16) : (f.enter e).hist.length ≤ 16 := by
  unfold FuseBox.enter
  split
  · simp; omega
  · simp; omega

theorem FuseBox.hist_ite {c : Prop} [Decidable c] {a b : FuseBox} (ha : a.hist.length ≤ 16) (hb : b.hist.length ≤ 16) :
    (if c then a else b).hist.length ≤ 16 := by split <;> assumption

theorem FuseBox.activate_hist (f : FuseBox) (src : Nat) (q : Bool) (k : f.hist.length ≤ 16) :
    (f.activate src q).hist.length ≤ 16 := k

theorem State.raiseCore_evolves {src detail hide} (h : Evolves ps s₀ s)
    (hp : [.fuse, .link, .counters, .systemRegs] ⊆ ps) : Evolves ps s₀ (s.raiseCore src detail hide) := by
  unfold State.raiseCore
  split
  · exact h
  · refine Evolves.ite h ?_
    have tail : ∀ u : State, Evolves ps s₀ u → ∀ c d : Bool,
        Evolves ps s₀ (if d then ((if c then u.attn Reg.ATTN_CAUSE_FAULT else u).attn Reg.ATTN_CAUSE_SAFE).setFld
            systemBase
          Reg.STATUS_DEV_STATE 4 else if c then u.attn Reg.ATTN_CAUSE_FAULT else u) := by
      intro u hu c d
      have ha : Evolves ps s₀ (if c then u.attn Reg.ATTN_CAUSE_FAULT else u) :=
        Evolves.ite (State.attn_evolves hu (by decide) (List.Subset.trans (by decide) hp)) hu
      exact Evolves.ite (State.setFld_evolves (State.attn_evolves ha (by decide) (List.Subset.trans (by decide) hp))
        (List.Subset.trans (by decide) hp)) ha
    refine tail _ (State.countEvent_evolves (h.fuse (List.Subset.trans (by decide) hp) fun k => ?_)
      (List.Subset.trans (by decide) hp)) _ _
    dsimp only
    repeat' first
      | with_reducible exact k
      | with_reducible apply FuseBox.hist_ite
      | with_reducible apply FuseBox.enter_hist
      | with_reducible apply FuseBox.activate_hist

theorem State.pushRecord_evolves {r} (h : Evolves ps s₀ s) (hp : [.fuse, .link, .counters, .attic, .systemRegs] ⊆ ps) :
    Evolves ps s₀ (s.pushRecord r) := by
  unfold State.pushRecord
  repeat' first
    | with_reducible assumption
    | exact List.Subset.trans (by decide) hp
    | with_reducible apply Evolves.ite
    | with_reducible apply State.raiseCore_evolves
    | split
    | dsimp only
    | with_reducible apply Evolves.attic

theorem State.atticEvent_evolves {type payload} (h : Evolves ps s₀ s) (hp : [.fuse, .link, .counters, .attic,
    .systemRegs] ⊆ ps) :
    Evolves ps s₀ (s.atticEvent type payload) := by
  unfold State.atticEvent
  repeat' first
    | with_reducible assumption
    | exact List.Subset.trans (by decide) hp
    | with_reducible apply Evolves.ite
    | with_reducible apply State.pushRecord_evolves
    | with_reducible apply Evolves.attic

theorem State.raiseHiding_evolves {src detail hide} (h : Evolves ps s₀ s) (hp : [.fuse, .link, .counters, .attic,
    .systemRegs] ⊆ ps) :
    Evolves ps s₀ (s.raiseHiding src detail hide) := by
  unfold State.raiseHiding
  repeat' first
    | with_reducible assumption
    | exact List.Subset.trans (by decide) hp
    | with_reducible apply Evolves.ite
    | with_reducible apply State.raiseCore_evolves
    | with_reducible apply State.atticEvent_evolves
    | with_reducible apply Evolves.attic

theorem State.enterSafe_evolves (h : Evolves ps s₀ s) (hp : [.fuse, .link, .counters, .attic, .systemRegs] ⊆ ps) :
    Evolves ps s₀ (s.enterSafe) := by
  unfold State.enterSafe
  repeat' first
    | with_reducible assumption
    | exact List.Subset.trans (by decide) hp
    | exact Nat.le_of_ble_eq_true rfl
    | exact Field.ix_lt _ _
    | with_reducible apply regPart_system
    | exact fun k => k
    | exact fun _ => Nat.zero_le _
    | with_reducible apply Evolves.ite
    | with_reducible apply State.setFld_evolves
    | with_reducible apply State.attn_evolves
    | with_reducible apply State.atticEvent_evolves
    | with_reducible apply Evolves.attic
    | with_reducible apply Evolves.fuse

theorem State.raise_evolves {src detail} (h : Evolves ps s₀ s) (hp : [.fuse, .link, .counters, .attic, .systemRegs] ⊆
    ps) :
    Evolves ps s₀ (s.raise src detail) := by
  unfold State.raise
  repeat' first
    | with_reducible assumption
    | exact List.Subset.trans (by decide) hp
    | with_reducible apply State.raiseHiding_evolves

theorem State.raiseOpen_evolves {src} (h : Evolves ps s₀ s) (hp : [.free, .fuse, .link, .counters, .attic, .systemRegs]
    ⊆ ps) :
    Evolves ps s₀ (s.raiseOpen src) := by
  unfold State.raiseOpen
  repeat' first
    | with_reducible assumption
    | exact List.Subset.trans (by decide) hp
    | with_reducible apply State.raise_evolves
    | refine State.fresh_evolves ?_ ?_ (by assumption)
    | split
    | dsimp only
    | with_reducible apply State.fresh_snd

theorem State.raiseLimited_evolves {key src detail} (h : Evolves ps s₀ s) (hp : [.fuse, .link, .counters, .attic,
    .limits, .systemRegs] ⊆ ps) :
    Evolves ps s₀ (s.raiseLimited key src detail) := by
  unfold State.raiseLimited
  repeat' first
    | with_reducible assumption
    | exact List.Subset.trans (by decide) hp
    | with_reducible apply Evolves.ite
    | with_reducible apply State.raise_evolves
    | split
    | dsimp only
    | with_reducible apply Evolves.limits

theorem State.leave_evolves {src} (h : Evolves ps s₀ s) (hp : [.fuse] ⊆ ps) :
    Evolves ps s₀ (s.leave src) := by
  unfold State.leave
  repeat' first
    | with_reducible assumption
    | exact List.Subset.trans (by decide) hp
    | exact fun k => k
    | exact fun _ => Nat.zero_le _
    | with_reducible apply Evolves.ite
    | with_reducible apply Evolves.fuse
    | split

theorem State.quiet_evolves {src} (h : Evolves ps s₀ s) (hp : [.fuse] ⊆ ps) :
    Evolves ps s₀ (s.quiet src) := by
  unfold State.quiet
  repeat' first
    | with_reducible assumption
    | exact List.Subset.trans (by decide) hp
    | exact fun k => k
    | exact fun _ => Nat.zero_le _
    | with_reducible apply Evolves.ite
    | with_reducible apply State.leave_evolves
    | with_reducible apply Evolves.fuse

theorem State.clearByPart_evolves {src} (h : Evolves ps s₀ s) (hp : [.fuse] ⊆ ps) :
    Evolves ps s₀ (s.clearByPart src) := by
  unfold State.clearByPart
  repeat' first
    | with_reducible assumption
    | exact List.Subset.trans (by decide) hp
    | exact fun k => k
    | exact fun _ => Nat.zero_le _
    | with_reducible apply State.leave_evolves
    | with_reducible apply Evolves.fuse

theorem State.isolateSources_evolves {d} (h : Evolves ps s₀ s) (hp : [.fuse] ⊆ ps) :
    Evolves ps s₀ (s.isolateSources d) := by
  unfold State.isolateSources
  repeat' first
    | with_reducible assumption
    | exact List.Subset.trans (by decide) hp
    | intro _ _ _
    | intro _ _
    | intro _
    | with_reducible apply Evolves.ite
    | with_reducible apply State.leave_evolves
    | with_reducible apply Evolves.each
    | split
    | dsimp only

theorem State.releaseSources_evolves {d} (h : Evolves ps s₀ s) (hp : [.free, .fuse, .link, .counters, .attic,
    .systemRegs] ⊆ ps) :
    Evolves ps s₀ (s.releaseSources d) := by
  unfold State.releaseSources
  repeat' first
    | with_reducible assumption
    | exact List.Subset.trans (by decide) hp
    | exact fun k => k
    | exact fun _ => Nat.zero_le _
    | intro _ _ _
    | intro _ _
    | intro _
    | with_reducible apply Evolves.ite
    | with_reducible apply State.raiseOpen_evolves
    | with_reducible apply Evolves.each
    | split
    | dsimp only
    | with_reducible apply Evolves.fuse

theorem State.substitution_evolves {kind unit detail} (h : Evolves ps s₀ s) (hp : [.fuse, .link, .counters, .attic,
    .systemRegs] ⊆ ps) :
    Evolves ps s₀ (s.substitution kind unit detail) := by
  unfold State.substitution
  repeat' first
    | with_reducible assumption
    | exact List.Subset.trans (by decide) hp
    | with_reducible apply State.atticEvent_evolves

theorem State.countAbandoned_evolves {d} (h : Evolves ps s₀ s) (hp : [.powerRegs] ⊆ ps) :
    Evolves ps s₀ (s.countAbandoned d) := by
  unfold State.countAbandoned
  repeat' first
    | with_reducible assumption
    | exact List.Subset.trans (by decide) hp
    | exact Nat.le_of_ble_eq_true rfl
    | exact Field.ix_lt _ _
    | with_reducible apply regPart_power
    | with_reducible apply State.bump_evolves

theorem State.setDom_evolves {d st step} (h : Evolves ps s₀ s) (hp : [.powerRegs] ⊆ ps) :
    Evolves ps s₀ (s.setDom d st step) := by
  unfold State.setDom
  repeat' first
    | with_reducible assumption
    | exact List.Subset.trans (by decide) hp
    | exact Nat.le_of_ble_eq_true rfl
    | exact Field.ix_lt _ _
    | with_reducible apply regPart_power
    | with_reducible apply State.setFld_evolves

theorem State.startWake_evolves {d step} (h : Evolves ps s₀ s) (hp : [.powerRegs] ⊆ ps) :
    Evolves ps s₀ (s.startWake d step) := by
  unfold State.startWake
  repeat' first
    | with_reducible assumption
    | exact List.Subset.trans (by decide) hp
    | exact Nat.le_of_ble_eq_true rfl
    | exact Field.ix_lt _ _
    | with_reducible apply regPart_power
    | with_reducible apply State.bumpMod_evolves
    | with_reducible apply State.setDom_evolves

theorem State.wakeRequest_evolves {d} (h : Evolves ps s₀ s) (hp : [.power, .powerRegs] ⊆ ps) :
    Evolves ps s₀ (s.wakeRequest d) := by
  unfold State.wakeRequest
  repeat' first
    | with_reducible assumption
    | exact List.Subset.trans (by decide) hp
    | with_reducible apply Evolves.ite
    | with_reducible apply State.startWake_evolves
    | with_reducible apply State.countAbandoned_evolves
    | with_reducible apply State.setDom_evolves
    | with_reducible apply Evolves.power

theorem State.stopLinger_evolves {d} (h : Evolves ps s₀ s) (hp : [.power] ⊆ ps) :
    Evolves ps s₀ (s.stopLinger d) := by
  unfold State.stopLinger
  repeat' first
    | with_reducible assumption
    | exact List.Subset.trans (by decide) hp
    | intro _ _ _
    | intro _ _
    | intro _
    | with_reducible apply Evolves.ite
    | split
    | dsimp only
    | with_reducible apply Evolves.power

theorem State.startEntry_evolves {d} (h : Evolves ps s₀ s) (hp : [.power, .powerRegs] ⊆ ps) :
    Evolves ps s₀ (s.startEntry d) := by
  unfold State.startEntry
  repeat' first
    | with_reducible assumption
    | exact List.Subset.trans (by decide) hp
    | intro _ _ _
    | intro _ _
    | intro _
    | with_reducible apply Evolves.ite
    | with_reducible apply State.stopLinger_evolves
    | with_reducible apply State.setDom_evolves
    | split
    | dsimp only

theorem State.setVote_evolves {d} {bit} (h : Evolves ps s₀ s) (hp : [.power, .powerRegs] ⊆ ps) :
    Evolves ps s₀ (s.setVote d bit) := by
  unfold State.setVote
  repeat' first
    | with_reducible assumption
    | exact List.Subset.trans (by decide) hp
    | exact Nat.le_of_ble_eq_true rfl
    | exact Field.ix_lt _ _
    | exact Field.lt _
    | with_reducible apply regPart_power
    | intro _ _ _
    | intro _ _
    | intro _
    | with_reducible apply Evolves.ite
    | with_reducible apply State.stopLinger_evolves
    | with_reducible apply State.wakeRequest_evolves
    | with_reducible apply State.setFlag_evolves
    | split
    | dsimp only

theorem State.unvoted_evolves {d} (h : Evolves ps s₀ s) (hp : [.power, .powerRegs] ⊆ ps) :
    Evolves ps s₀ (s.unvoted d) := by
  unfold State.unvoted
  repeat' first
    | with_reducible assumption
    | exact List.Subset.trans (by decide) hp
    | intro _ _ _
    | intro _ _
    | intro _
    | with_reducible apply Evolves.ite
    | with_reducible apply State.startEntry_evolves
    | split
    | dsimp only
    | with_reducible apply Evolves.power

theorem State.clearVote_evolves {d bit} (h : Evolves ps s₀ s) (hp : [.power, .powerRegs] ⊆ ps) :
    Evolves ps s₀ (s.clearVote d bit) := by
  unfold State.clearVote
  repeat' first
    | with_reducible assumption
    | exact List.Subset.trans (by decide) hp
    | exact Nat.le_of_ble_eq_true rfl
    | exact Field.ix_lt _ _
    | with_reducible apply regPart_power
    | with_reducible apply Evolves.ite
    | with_reducible apply State.setFlag_evolves
    | with_reducible apply State.startEntry_evolves
    | with_reducible apply State.unvoted_evolves

theorem State.putVote_evolves {d bit on} (h : Evolves ps s₀ s) (hp : [.power, .powerRegs] ⊆ ps) :
    Evolves ps s₀ (s.putVote d bit on) := by
  unfold State.putVote
  repeat' first
    | with_reducible assumption
    | exact List.Subset.trans (by decide) hp
    | with_reducible apply Evolves.ite
    | with_reducible apply State.setVote_evolves
    | with_reducible apply State.clearVote_evolves

theorem State.refreshPantryVote_evolves (h : Evolves ps s₀ s) (hp : [.power, .powerRegs] ⊆ ps) :
    Evolves ps s₀ (s.refreshPantryVote) := by
  unfold State.refreshPantryVote
  repeat' first
    | with_reducible assumption
    | exact List.Subset.trans (by decide) hp
    | with_reducible apply Evolves.ite
    | with_reducible apply State.putVote_evolves

theorem State.modTamid_evolves {i : Fin 8} {f} (h : Evolves ps s₀ s) (hp : [.tamid] ⊆ ps)
    (k : s.tamid[i].queue.length ≤ 8 → (f s.tamid[i]).queue.length ≤ 8) : Evolves ps s₀ (s.modTamid i f) := by
  refine h.tamid hp fun v j => ?_
  by_cases e : i.val = j.val
  · have : i = j := Fin.ext e
    subst this
    simpa using k (v i)
  · simpa [Vector.getElem_set_ne _ _ e] using v j

theorem State.refreshSending_evolves {i} (h : Evolves ps s₀ s) (hp : [.tamidRegs] ⊆ ps) :
    Evolves ps s₀ (s.refreshSending i) := by
  unfold State.refreshSending
  repeat' first
    | with_reducible assumption
    | exact List.Subset.trans (by decide) hp
    | exact Nat.le_of_ble_eq_true rfl
    | exact Field.ix_lt _ _
    | with_reducible apply regPart_tamid
    | with_reducible apply State.setFlag_evolves

theorem State.tamidDrop_evolves {i} (h : Evolves ps s₀ s) (hp : [.tamid, .tamidRegs] ⊆ ps) :
    Evolves ps s₀ (s.tamidDrop i) := by
  unfold State.tamidDrop
  repeat' first
    | with_reducible assumption
    | exact List.Subset.trans (by decide) hp
    | exact Nat.le_of_ble_eq_true rfl
    | exact Field.ix_lt _ _
    | with_reducible apply regPart_tamid
    | exact fun k => k
    | exact fun _ => Nat.zero_le _
    | with_reducible apply Evolves.ite
    | with_reducible apply State.bump_evolves
    | with_reducible apply State.modTamid_evolves
    | with_reducible apply State.setFlag_evolves

theorem State.tamidAcqFall_evolves {i} (h : Evolves ps s₀ s) (hp : [.tamid, .tamidRegs] ⊆ ps) :
    Evolves ps s₀ (s.tamidAcqFall i) := by
  unfold State.tamidAcqFall
  repeat' first
    | with_reducible assumption
    | exact List.Subset.trans (by decide) hp
    | with_reducible apply Evolves.ite
    | with_reducible apply State.tamidDrop_evolves

theorem State.tamidCut_evolves {i} (h : Evolves ps s₀ s) (hp : [.fuse, .link, .counters, .attic, .tamid, .systemRegs,
    .tamidRegs] ⊆ ps) :
    Evolves ps s₀ (s.tamidCut i) := by
  unfold State.tamidCut
  repeat' first
    | with_reducible assumption
    | exact List.Subset.trans (by decide) hp
    | exact fun k => k
    | exact fun _ => Nat.zero_le _
    | with_reducible apply State.modTamid_evolves
    | with_reducible apply State.raise_evolves
    | with_reducible apply State.refreshSending_evolves
    | split

theorem State.tamidOwn_evolves {i p} (h : Evolves ps s₀ s) (hp : [.tamid, .tamidRegs] ⊆ ps) :
    Evolves ps s₀ (s.tamidOwn i p) := by
  unfold State.tamidOwn
  repeat' first
    | with_reducible assumption
    | exact List.Subset.trans (by decide) hp
    | exact Nat.le_of_ble_eq_true rfl
    | exact Field.ix_lt _ _
    | with_reducible apply regPart_tamid
    | exact fun k => k
    | exact fun _ => Nat.zero_le _
    | with_reducible apply Evolves.ite
    | with_reducible apply State.bump_evolves
    | with_reducible apply State.refreshSending_evolves
    | with_reducible apply State.modTamid_evolves

theorem State.tamidVote_evolves (h : Evolves ps s₀ s) (hp : [.power, .powerRegs] ⊆ ps) :
    Evolves ps s₀ (s.tamidVote) := by
  unfold State.tamidVote
  repeat' first
    | with_reducible assumption
    | exact List.Subset.trans (by decide) hp
    | with_reducible apply Evolves.ite
    | with_reducible apply State.putVote_evolves

theorem State.enqueue_evolves {r} (h : Evolves ps s₀ s) (hp : [.link, .systemRegs] ⊆ ps) :
    Evolves ps s₀ (s.enqueue r) := by
  unfold State.enqueue
  split
  · rename_i c
    refine State.attn_evolves (State.bumpMod_evolves (h.link (List.Subset.trans (by decide) hp) fun k => ⟨k.1, ?_⟩)
      (List.Subset.trans (by decide) hp)) (by decide) (List.Subset.trans (by decide) hp)
    simpa using c.1
  · exact h.link (List.Subset.trans (by decide) hp) fun k => k

theorem State.countRetry_evolves {status} (h : Evolves ps s₀ s) (hp : [.link, .keyRegs] ⊆ ps) :
    Evolves ps s₀ (s.countRetry status) := by
  unfold State.countRetry
  repeat' first
    | with_reducible assumption
    | exact List.Subset.trans (by decide) hp
    | exact Nat.le_of_ble_eq_true rfl
    | exact Field.ix_lt _ _
    | with_reducible apply regPart_key
    | exact fun k => k
    | exact fun _ => Nat.zero_le _
    | with_reducible apply Evolves.ite
    | with_reducible apply State.bump_evolves
    | with_reducible apply Evolves.link

theorem State.reply_evolves {o status results} (h : Evolves ps s₀ s) (hp : [.link, .tamid, .systemRegs, .tamidRegs,
    .keyRegs] ⊆ ps) :
    Evolves ps s₀ (s.reply o status results) := by
  unfold State.reply
  repeat' first
    | with_reducible assumption
    | exact List.Subset.trans (by decide) hp
    | intro _ _ _
    | intro _ _
    | intro _
    | with_reducible apply State.countRetry_evolves
    | with_reducible apply State.tamidOwn_evolves
    | with_reducible apply State.enqueue_evolves
    | with_reducible apply Evolves.each
    | split

theorem State.cmdDone_evolves {via} (h : Evolves ps s₀ s) (hp : [.link, .systemRegs] ⊆ ps) :
    Evolves ps s₀ (s.cmdDone via) := by
  unfold State.cmdDone
  repeat' first
    | with_reducible assumption
    | exact List.Subset.trans (by decide) hp
    | exact Nat.le_of_ble_eq_true rfl
    | exact Field.ix_lt _ _
    | with_reducible apply regPart_system
    | with_reducible apply State.attn_evolves
    | split

theorem State.complete_evolves {opcode arg status results} (h : Evolves ps s₀ s) (hp : [.link, .tamid, .systemRegs,
    .tamidRegs, .keyRegs] ⊆ ps) :
    Evolves ps s₀ (s.complete opcode arg status results) := by
  unfold State.complete
  repeat' first
    | with_reducible assumption
    | exact List.Subset.trans (by decide) hp
    | exact fun k => k
    | exact fun _ => Nat.zero_le _
    | with_reducible apply State.cmdDone_evolves
    | with_reducible apply State.reply_evolves
    | split
    | dsimp only
    | with_reducible apply Evolves.link

theorem State.accept_evolves {o opcode arg} (h : Evolves ps s₀ s) (hp : [.link, .tamid, .systemRegs, .tamidRegs,
    .keyRegs] ⊆ ps) :
    Evolves ps s₀ (s.accept o opcode arg) := by
  unfold State.accept
  repeat' first
    | with_reducible assumption
    | exact List.Subset.trans (by decide) hp
    | exact fun k => k
    | exact fun _ => Nat.zero_le _
    | with_reducible apply State.reply_evolves
    | with_reducible apply Evolves.link

theorem State.modCdac_evolves {c : Fin 32} {f} (h : Evolves ps s₀ s) (hp : [.cdac] ⊆ ps)
    (k : s.cdac[c].queue.length ≤ 16 → (f s.cdac[c]).queue.length ≤ 16) : Evolves ps s₀ (s.modCdac c f) := by
  refine h.cdac hp fun v j => ?_
  by_cases e : c.val = j.val
  · have : c = j := Fin.ext e
    subst this
    simpa using k (v c)
  · simpa [Vector.getElem_set_ne _ _ e] using v j

theorem State.setCdState_evolves {c v} (h : Evolves ps s₀ s) (hp : [.cdacRegs] ⊆ ps) :
    Evolves ps s₀ (s.setCdState c v) := by
  unfold State.setCdState
  repeat' first
    | with_reducible assumption
    | exact List.Subset.trans (by decide) hp
    | exact Nat.le_of_ble_eq_true rfl
    | exact Field.ix_lt _ _
    | with_reducible apply regPart_cd
    | with_reducible apply regPart_cdac
    | with_reducible apply State.setFld_evolves

theorem State.setCdQueue_evolves {c : Fin 32} {q} (h : Evolves ps s₀ s) (hp : [.cdac, .cdacRegs] ⊆ ps)
    (k : s.cdac[c].queue.length ≤ 16 → q.length ≤ 16) : Evolves ps s₀ (s.setCdQueue c q) :=
  State.setFld_evolves (State.modCdac_evolves h (List.Subset.trans (by decide) hp) k)
    (regPart_cd (by decide) (List.Subset.trans (by decide) hp))

theorem State.cdSafe_evolves {c} (h : Evolves ps s₀ s) (hp : [.cdac, .cdacRegs] ⊆ ps) :
    Evolves ps s₀ (s.cdSafe c) := by
  unfold State.cdSafe
  repeat' first
    | with_reducible assumption
    | exact List.Subset.trans (by decide) hp
    | exact fun k => k
    | exact fun _ => Nat.zero_le _
    | with_reducible apply Evolves.ite
    | with_reducible apply State.setCdQueue_evolves
    | with_reducible apply State.modCdac_evolves
    | with_reducible apply State.setCdState_evolves

theorem State.cdClamp_evolves {c} (h : Evolves ps s₀ s) (hp : [.cdac, .cdacRegs] ⊆ ps) :
    Evolves ps s₀ (s.cdClamp c) := by
  unfold State.cdClamp
  repeat' first
    | with_reducible assumption
    | exact List.Subset.trans (by decide) hp
    | exact Nat.le_of_ble_eq_true rfl
    | exact Field.ix_lt _ _
    | with_reducible apply regPart_cd
    | with_reducible apply regPart_cdac
    | exact fun k => k
    | exact fun _ => Nat.zero_le _
    | with_reducible apply State.setCdState_evolves
    | with_reducible apply State.setFlag_evolves
    | with_reducible apply State.setCdQueue_evolves
    | with_reducible apply State.setFld_evolves
    | with_reducible apply State.modCdac_evolves

theorem State.setBistResult_evolves {sl res} (h : Evolves ps s₀ s) (hp : [.testRegs] ⊆ ps) :
    Evolves ps s₀ (s.setBistResult sl res) := by
  unfold State.setBistResult
  repeat' first
    | with_reducible assumption
    | exact List.Subset.trans (by decide) hp
    | exact Nat.le_of_ble_eq_true rfl
    | exact Field.ix_lt _ _
    | with_reducible apply regPart_test
    | with_reducible apply State.setFld_evolves

theorem State.bistRecord_evolves {sl res coverage duration} (h : Evolves ps s₀ s) (hp : [.testRegs] ⊆ ps) :
    Evolves ps s₀ (s.bistRecord sl res coverage duration) := by
  unfold State.bistRecord
  repeat' first
    | with_reducible assumption
    | exact List.Subset.trans (by decide) hp
    | exact Nat.le_of_ble_eq_true rfl
    | exact Field.ix_lt _ _
    | with_reducible apply regPart_test
    | with_reducible apply Evolves.ite
    | with_reducible apply State.setBistResult_evolves
    | with_reducible apply State.setFld_evolves
    | with_reducible apply State.bump_evolves

theorem State.bistLeave_evolves {sl} (h : Evolves ps s₀ s) (hp : [.power, .test, .powerRegs] ⊆ ps) :
    Evolves ps s₀ (s.bistLeave sl) := by
  unfold State.bistLeave
  repeat' first
    | with_reducible assumption
    | exact List.Subset.trans (by decide) hp
    | with_reducible apply State.clearVote_evolves
    | with_reducible apply Evolves.test

theorem State.bistCut_evolves (h : Evolves ps s₀ s) (hp : [.power, .test, .powerRegs, .testRegs] ⊆ ps) :
    Evolves ps s₀ (s.bistCut) := by
  unfold State.bistCut
  repeat' first
    | with_reducible assumption
    | exact List.Subset.trans (by decide) hp
    | with_reducible apply State.bistRecord_evolves
    | with_reducible apply State.bistLeave_evolves
    | split

theorem State.bistNeeded_evolves {sl} (h : Evolves ps s₀ s) (hp : [.power, .test, .powerRegs, .testRegs] ⊆ ps) :
    Evolves ps s₀ (s.bistNeeded sl) := by
  unfold State.bistNeeded
  repeat' first
    | with_reducible assumption
    | exact List.Subset.trans (by decide) hp
    | with_reducible apply Evolves.ite
    | with_reducible apply State.bistCut_evolves

theorem State.unsettle_evolves {n which} (h : Evolves ps s₀ s) (hp : [.lineRegs] ⊆ ps) :
    Evolves ps s₀ (s.unsettle n which) := by
  unfold State.unsettle
  repeat' first
    | with_reducible assumption
    | exact List.Subset.trans (by decide) hp
    | exact Nat.le_of_ble_eq_true rfl
    | exact Field.ix_lt _ _
    | with_reducible apply regPart_line
    | with_reducible apply State.setFlag_evolves
    | exact ledgerUnsettled_lt _

theorem State.unsettleAll_evolves {n} (h : Evolves ps s₀ s) (hp : [.lineRegs] ⊆ ps) :
    Evolves ps s₀ (s.unsettleAll n) := by
  unfold State.unsettleAll
  repeat' first
    | with_reducible assumption
    | exact List.Subset.trans (by decide) hp
    | with_reducible apply State.unsettle_evolves

theorem State.unsettleHost_evolves {m} (h : Evolves ps s₀ s) (hp : [.lineRegs] ⊆ ps) :
    Evolves ps s₀ (s.unsettleHost m) := by
  unfold State.unsettleHost
  repeat' first
    | with_reducible assumption
    | exact List.Subset.trans (by decide) hp
    | with_reducible apply Evolves.ite
    | with_reducible apply State.unsettle_evolves
    | split

theorem State.installPoint_evolves {n} {proposal} (h : Evolves ps s₀ s) (hp : [.pantry] ⊆ ps) :
    Evolves ps s₀ (s.installPoint n proposal) := by
  unfold State.installPoint
  repeat' first
    | with_reducible assumption
    | exact List.Subset.trans (by decide) hp
    | intro _ _ _
    | intro _ _
    | intro _
    | with_reducible apply Evolves.ite
    | with_reducible apply State.modPantry_evolves
    | split
    | dsimp only

theorem State.pantrySend_evolves {n} {p} (h : Evolves ps s₀ s) (hp : [.tamid, .tamidRegs] ⊆ ps) :
    Evolves ps s₀ (s.pantrySend n p) := by
  unfold State.pantrySend
  repeat' first
    | with_reducible assumption
    | exact List.Subset.trans (by decide) hp
    | intro _ _ _
    | intro _ _
    | intro _
    | with_reducible apply Evolves.ite
    | with_reducible apply State.tamidOwn_evolves
    | with_reducible apply Evolves.when
    | split
    | dsimp only

theorem State.installDone_evolves {n} {r} (h : Evolves ps s₀ s) (hr : r.InBlock) (hp : [.tamid, .pantry, .tamidRegs,
    .pantryRegs] ⊆ ps) :
    Evolves ps s₀ (s.installDone n r) := by
  unfold State.installDone
  repeat' first
    | with_reducible assumption
    | exact List.Subset.trans (by decide) hp
    | exact Nat.le_of_ble_eq_true rfl
    | exact Field.ix_lt _ _
    | exact Field.lt _
    | with_reducible apply regPart_pantry
    | exact nlcRegs_inBlock
    | exact pdRegs_inBlock
    | exact hr _ (by simp)
    | intro _ _ _
    | intro _ _
    | intro _
    | with_reducible apply Evolves.ite
    | with_reducible apply State.pantrySend_evolves
    | with_reducible apply State.installPoint_evolves
    | with_reducible apply State.modPantry_evolves
    | with_reducible apply State.bump_evolves
    | with_reducible apply State.setFld_evolves
    | split
    | dsimp only

theorem State.fadeFinish_evolves {n r} (h : Evolves ps s₀ s) (hr : r.InBlock) (hp : [.tamid, .pantry, .lineRegs,
    .tamidRegs, .pantryRegs] ⊆ ps) :
    Evolves ps s₀ (s.fadeFinish n r) := by
  unfold State.fadeFinish
  repeat' first
    | with_reducible assumption
    | exact List.Subset.trans (by decide) hp
    | exact Nat.le_of_ble_eq_true rfl
    | exact Field.ix_lt _ _
    | with_reducible apply regPart_tamid
    | with_reducible apply regPart_pantry
    | with_reducible apply regPart_line
    | exact nlcRegs_inBlock
    | exact pdRegs_inBlock
    | exact hr _ (by simp)
    | with_reducible apply State.setFlag_evolves
    | with_reducible apply State.setFld_evolves
    | with_reducible apply State.installDone_evolves

theorem State.fadeStop_evolves {n r} (h : Evolves ps s₀ s) (hr : r.InBlock) (hp : [.fuse, .link, .counters, .attic,
    .systemRegs, .lineRegs] ⊆ ps) :
    Evolves ps s₀ (s.fadeStop n r) := by
  unfold State.fadeStop
  repeat' first
    | with_reducible assumption
    | exact List.Subset.trans (by decide) hp
    | exact Nat.le_of_ble_eq_true rfl
    | exact Field.ix_lt _ _
    | with_reducible apply regPart_line
    | with_reducible apply regPart_system
    | exact nlcRegs_inBlock
    | exact pdRegs_inBlock
    | exact hr _ (by simp)
    | with_reducible apply Evolves.ite
    | with_reducible apply State.raise_evolves
    | with_reducible apply State.bump_evolves
    | with_reducible apply State.setFlag_evolves

theorem State.fadeBegin_evolves {n} {r} (h : Evolves ps s₀ s) (hr : r.InBlock) (hp : [.line, .lineRegs] ⊆ ps) :
    Evolves ps s₀ (s.fadeBegin n r) := by
  unfold State.fadeBegin
  repeat' first
    | with_reducible assumption
    | exact List.Subset.trans (by decide) hp
    | exact Nat.le_of_ble_eq_true rfl
    | exact Field.ix_lt _ _
    | exact Field.lt _
    | with_reducible apply regPart_line
    | exact nlcRegs_inBlock
    | exact pdRegs_inBlock
    | exact hr _ (by simp)
    | intro _ _ _
    | intro _ _
    | intro _
    | with_reducible apply Evolves.ite
    | with_reducible apply State.modLinkOf_evolves
    | with_reducible apply State.setFlag_evolves
    | split
    | dsimp only

theorem State.fadeRequest_evolves {n} {r} {inUse} {live} (h : Evolves ps s₀ s) (hr : r.InBlock) (hp : [.line, .tamid,
    .pantry, .lineRegs, .tamidRegs, .pantryRegs] ⊆ ps) :
    Evolves ps s₀ (s.fadeRequest n r inUse live) := by
  unfold State.fadeRequest
  repeat' first
    | with_reducible assumption
    | exact List.Subset.trans (by decide) hp
    | exact Nat.le_of_ble_eq_true rfl
    | exact Field.ix_lt _ _
    | exact Field.lt _
    | with_reducible apply regPart_line
    | exact nlcRegs_inBlock
    | exact pdRegs_inBlock
    | exact hr _ (by simp)
    | intro _ _ _
    | intro _ _
    | intro _
    | with_reducible apply Evolves.ite
    | with_reducible apply State.fadeBegin_evolves
    | with_reducible apply State.fadeFinish_evolves
    | with_reducible apply State.bump_evolves
    | with_reducible apply State.setFlag_evolves
    | split
    | dsimp only

theorem State.fadeBypass_evolves {n r} (h : Evolves ps s₀ s) (hr : r.InBlock) (hp : [.tamid, .pantry, .lineRegs,
    .tamidRegs, .pantryRegs] ⊆ ps) :
    Evolves ps s₀ (s.fadeBypass n r) := by
  unfold State.fadeBypass
  repeat' first
    | with_reducible assumption
    | exact List.Subset.trans (by decide) hp
    | exact nlcRegs_inBlock
    | exact pdRegs_inBlock
    | exact hr _ (by simp)
    | with_reducible apply Evolves.ite
    | with_reducible apply State.fadeFinish_evolves

theorem State.fadeResume_evolves {n} {r} (h : Evolves ps s₀ s) (hr : r.InBlock) (hp : [.line, .lineRegs] ⊆ ps) :
    Evolves ps s₀ (s.fadeResume n r) := by
  unfold State.fadeResume
  repeat' first
    | with_reducible assumption
    | exact List.Subset.trans (by decide) hp
    | exact Nat.le_of_ble_eq_true rfl
    | exact Field.ix_lt _ _
    | exact Field.lt _
    | with_reducible apply regPart_line
    | exact nlcRegs_inBlock
    | exact pdRegs_inBlock
    | exact hr _ (by simp)
    | intro _ _ _
    | intro _ _
    | intro _
    | with_reducible apply Evolves.ite
    | with_reducible apply State.fadeBegin_evolves
    | with_reducible apply State.setFlag_evolves
    | split
    | dsimp only

theorem State.bankWrite_evolves {n r bank i v swap} (h : Evolves ps s₀ s) (hr : r.InBlock) (hp : [.lineRegs] ⊆ ps) :
    Evolves ps s₀ (s.bankWrite n r bank i v swap) := by
  unfold State.bankWrite
  repeat' first
    | with_reducible assumption
    | exact List.Subset.trans (by decide) hp
    | exact Nat.le_of_ble_eq_true rfl
    | exact Field.ix_lt _ _
    | with_reducible apply regPart_line
    | exact nlcRegs_inBlock
    | exact pdRegs_inBlock
    | exact hr _ (by simp)
    | with_reducible apply Evolves.ite
    | with_reducible apply State.bump_evolves
    | with_reducible apply State.setFld_evolves

theorem State.banksLost_evolves {n r} (h : Evolves ps s₀ s) (hp : [.pantry, .systemRegs, .fuseRegs, .powerRegs,
    .clockRegs, .memProtRegs, .hkRegs, .thermRegs, .counterRegs, .testRegs, .lineRegs, .hostRegs, .tamidRegs,
        .chainRegs, .cdacRegs, .pantryRegs, .keyRegs, .otherRegs] ⊆ ps) :
    Evolves ps s₀ (s.banksLost n r) := by
  unfold State.banksLost
  refine State.setFlag_evolves (State.modPantry_evolves (h.regs (fun a ha => absurd (regPart_all (List.Subset.trans (by
      decide) hp) (List.mem_singleton_self _)) ha) fun k => ?_)
    (List.Subset.trans (by decide) hp))
    (regPart_all (List.Subset.trans (by decide) hp))
  exact Sparse.wf_filter regReset _ _ k

theorem State.setTxState_evolves {n v} (h : Evolves ps s₀ s) (hp : [.lineRegs] ⊆ ps) :
    Evolves ps s₀ (s.setTxState n v) := by
  unfold State.setTxState
  repeat' first
    | with_reducible assumption
    | exact List.Subset.trans (by decide) hp
    | exact Nat.le_of_ble_eq_true rfl
    | exact Field.ix_lt _ _
    | with_reducible apply regPart_line
    | with_reducible apply State.setFld_evolves

theorem State.txHold_evolves {n} (h : Evolves ps s₀ s) (hp : [.line, .fuse, .link, .counters, .attic, .systemRegs,
    .lineRegs] ⊆ ps) :
    Evolves ps s₀ (s.txHold n) := by
  unfold State.txHold
  repeat' first
    | with_reducible assumption
    | exact List.Subset.trans (by decide) hp
    | exact nlcRegs_inBlock
    | exact pdRegs_inBlock
    | intro _ _ _
    | intro _ _
    | intro _
    | with_reducible apply Evolves.ite
    | with_reducible apply State.setTxState_evolves
    | with_reducible apply State.fadeStop_evolves
    | with_reducible apply State.modTx_evolves
    | split
    | dsimp only

theorem State.txRamp_evolves {n} (h : Evolves ps s₀ s) (hp : [.line, .lineRegs] ⊆ ps) :
    Evolves ps s₀ (s.txRamp n) := by
  unfold State.txRamp
  repeat' first
    | with_reducible assumption
    | exact List.Subset.trans (by decide) hp
    | intro _ _ _
    | intro _ _
    | intro _
    | with_reducible apply Evolves.ite
    | with_reducible apply State.setTxState_evolves
    | with_reducible apply State.modTx_evolves
    | split
    | dsimp only

theorem State.setCauses_evolves {n} {set} {clear} (h : Evolves ps s₀ s) (hp : [.line, .fuse, .link, .counters, .attic,
    .systemRegs, .lineRegs] ⊆ ps) :
    Evolves ps s₀ (s.setCauses n set clear) := by
  unfold State.setCauses
  repeat' first
    | with_reducible assumption
    | exact List.Subset.trans (by decide) hp
    | exact Nat.le_of_ble_eq_true rfl
    | exact Field.ix_lt _ _
    | exact Field.lt _
    | with_reducible apply regPart_line
    | intro _ _ _
    | intro _ _
    | intro _
    | with_reducible apply Evolves.ite
    | with_reducible apply State.txRamp_evolves
    | with_reducible apply State.txHold_evolves
    | with_reducible apply State.setFld_evolves
    | split
    | dsimp only

theorem State.setCause_evolves {n} {bit} {on} (h : Evolves ps s₀ s) (hp : [.line, .fuse, .link, .counters, .attic,
    .systemRegs, .lineRegs] ⊆ ps) :
    Evolves ps s₀ (s.setCause n bit on) := by
  unfold State.setCause
  repeat' first
    | with_reducible assumption
    | exact List.Subset.trans (by decide) hp
    | intro _ _ _
    | intro _ _
    | intro _
    | with_reducible apply Evolves.ite
    | with_reducible apply State.setCauses_evolves
    | split
    | dsimp only

theorem State.refreshFill_evolves {n} (h : Evolves ps s₀ s) (hp : [.line, .fuse, .link, .counters, .attic,
    .systemRegs, .lineRegs] ⊆ ps) :
    Evolves ps s₀ (s.refreshFill n) := by
  unfold State.refreshFill
  repeat' first
    | with_reducible assumption
    | exact List.Subset.trans (by decide) hp
    | intro _ _ _
    | intro _ _
    | intro _
    | with_reducible apply Evolves.ite
    | with_reducible apply State.setCause_evolves
    | with_reducible apply State.modLinkOf_evolves
    | split
    | dsimp only

theorem State.followEnd_evolves {n stream} (h : Evolves ps s₀ s) (hp : [.line, .fuse] ⊆ ps) :
    Evolves ps s₀ (s.followEnd n stream) := by
  unfold State.followEnd
  repeat' first
    | with_reducible assumption
    | exact List.Subset.trans (by decide) hp
    | with_reducible apply Evolves.ite
    | with_reducible apply State.modLinkOf_evolves
    | with_reducible apply State.quiet_evolves

theorem State.lrFollow_evolves {n} {inFrame} (h : Evolves ps s₀ s) (hp : [.host, .hostRegs] ⊆ ps) :
    Evolves ps s₀ (s.lrFollow n inFrame) := by
  unfold State.lrFollow
  repeat' first
    | with_reducible assumption
    | exact List.Subset.trans (by decide) hp
    | exact Nat.le_of_ble_eq_true rfl
    | exact Field.ix_lt _ _
    | exact Field.lt _
    | with_reducible apply regPart_host
    | intro _ _ _
    | intro _ _
    | intro _
    | with_reducible apply Evolves.ite
    | with_reducible apply Evolves.when
    | with_reducible apply Evolves.each
    | with_reducible apply State.modHost_evolves
    | with_reducible apply State.bump_evolves
    | with_reducible apply State.setFlag_evolves
    | split
    | dsimp only

theorem State.dropAlignment_evolves {n} (h : Evolves ps s₀ s) (hp : [.lanes] ⊆ ps) :
    Evolves ps s₀ (s.dropAlignment n) := by
  unfold State.dropAlignment
  repeat' first
    | with_reducible assumption
    | exact List.Subset.trans (by decide) hp
    | with_reducible apply Evolves.ite
    | with_reducible apply Evolves.lanes

theorem State.frameDown_evolves {n} (h : Evolves ps s₀ s) (hp : [.line, .host, .lineRegs, .hostRegs] ⊆ ps) :
    Evolves ps s₀ (s.frameDown n) := by
  unfold State.frameDown
  repeat' first
    | with_reducible assumption
    | exact List.Subset.trans (by decide) hp
    | exact Nat.le_of_ble_eq_true rfl
    | exact Field.ix_lt _ _
    | exact Field.lt _
    | with_reducible apply regPart_line
    | intro _ _ _
    | intro _ _
    | intro _
    | with_reducible apply Evolves.ite
    | with_reducible apply State.lrFollow_evolves
    | with_reducible apply State.modRx_evolves
    | with_reducible apply State.setFlag_evolves
    | with_reducible apply State.setReg_evolves
    | split
    | dsimp only

theorem State.loseLock_evolves {n} (h : Evolves ps s₀ s) (hp : [.line, .host, .lanes, .fuse, .link, .counters, .attic,
    .systemRegs, .lineRegs, .hostRegs] ⊆ ps) :
    Evolves ps s₀ (s.loseLock n) := by
  unfold State.loseLock
  repeat' first
    | with_reducible assumption
    | exact List.Subset.trans (by decide) hp
    | exact Nat.le_of_ble_eq_true rfl
    | exact Field.ix_lt _ _
    | exact Field.lt _
    | with_reducible apply regPart_line
    | exact nlcRegs_inBlock
    | exact pdRegs_inBlock
    | intro _ _ _
    | intro _ _
    | intro _
    | with_reducible apply Evolves.ite
    | with_reducible apply State.frameDown_evolves
    | with_reducible apply State.dropAlignment_evolves
    | with_reducible apply State.followEnd_evolves
    | with_reducible apply State.refreshFill_evolves
    | with_reducible apply State.fadeStop_evolves
    | with_reducible apply State.unsettle_evolves
    | with_reducible apply State.setFlag_evolves
    | with_reducible apply State.setFld_evolves
    | with_reducible apply State.setReg_evolves
    | split
    | dsimp only

theorem State.setSlice_evolves {n k pos st} (h : Evolves ps s₀ s) (hp : [.lineRegs] ⊆ ps) :
    Evolves ps s₀ (s.setSlice n k pos st) := by
  unfold State.setSlice
  repeat' first
    | with_reducible assumption
    | exact List.Subset.trans (by decide) hp
    | exact Nat.le_of_ble_eq_true rfl
    | exact Field.ix_lt _ _
    | with_reducible apply regPart_line
    | with_reducible apply State.setFld_evolves

theorem State.setSpareState_evolves {n st} (h : Evolves ps s₀ s) (hp : [.lineRegs] ⊆ ps) :
    Evolves ps s₀ (s.setSpareState n st) := by
  unfold State.setSpareState
  repeat' first
    | with_reducible assumption
    | exact List.Subset.trans (by decide) hp
    | exact Nat.le_of_ble_eq_true rfl
    | exact Field.ix_lt _ _
    | with_reducible apply regPart_line
    | with_reducible apply State.setFld_evolves
    | split

theorem State.refreshTrainPos_evolves {n} (h : Evolves ps s₀ s) (hp : [.lineRegs] ⊆ ps) :
    Evolves ps s₀ (s.refreshTrainPos n) := by
  unfold State.refreshTrainPos
  repeat' first
    | with_reducible assumption
    | exact List.Subset.trans (by decide) hp
    | exact Nat.le_of_ble_eq_true rfl
    | exact Field.ix_lt _ _
    | with_reducible apply regPart_line
    | with_reducible apply State.setFld_evolves
    | split
    | dsimp only

theorem State.refreshBridged_evolves {n} (h : Evolves ps s₀ s) (hp : [.lineRegs] ⊆ ps) :
    Evolves ps s₀ (s.refreshBridged n) := by
  unfold State.refreshBridged
  repeat' first
    | with_reducible assumption
    | exact List.Subset.trans (by decide) hp
    | exact Nat.le_of_ble_eq_true rfl
    | exact Field.ix_lt _ _
    | with_reducible apply regPart_line
    | with_reducible apply State.setFlag_evolves
    | with_reducible apply State.setFld_evolves
    | split
    | dsimp only

theorem State.assignSlices_evolves {n} (h : Evolves ps s₀ s) (hp : [.line, .lineRegs] ⊆ ps) :
    Evolves ps s₀ (s.assignSlices n) := by
  unfold State.assignSlices
  repeat' first
    | with_reducible assumption
    | exact List.Subset.trans (by decide) hp
    | exact Nat.le_of_ble_eq_true rfl
    | exact Field.ix_lt _ _
    | with_reducible apply regPart_line
    | intro _ _ _
    | intro _ _
    | intro _
    | with_reducible apply State.setSlice_evolves
    | with_reducible apply State.setFlag_evolves
    | with_reducible apply State.setFld_evolves
    | with_reducible apply State.modAdc_evolves
    | with_reducible apply State.refreshBridged_evolves
    | with_reducible apply Evolves.each

theorem State.adcEstimate_evolves {n} (h : Evolves ps s₀ s) (hp : [.line, .lineRegs] ⊆ ps) :
    Evolves ps s₀ (s.adcEstimate n) := by
  unfold State.adcEstimate
  repeat' first
    | with_reducible assumption
    | exact List.Subset.trans (by decide) hp
    | intro _ _ _
    | intro _ _
    | intro _
    | with_reducible apply Evolves.ite
    | with_reducible apply State.refreshTrainPos_evolves
    | with_reducible apply State.setSpareState_evolves
    | with_reducible apply State.modAdc_evolves
    | split
    | dsimp only

theorem State.adcStart_evolves {n} (h : Evolves ps s₀ s) (hp : [.line, .lineRegs] ⊆ ps) :
    Evolves ps s₀ (s.adcStart n) := by
  unfold State.adcStart
  repeat' first
    | with_reducible assumption
    | exact List.Subset.trans (by decide) hp
    | exact Nat.le_of_ble_eq_true rfl
    | exact Field.ix_lt _ _
    | exact Field.lt _
    | with_reducible apply regPart_line
    | intro _ _ _
    | intro _ _
    | intro _
    | with_reducible apply Evolves.ite
    | with_reducible apply State.adcEstimate_evolves
    | with_reducible apply State.assignSlices_evolves
    | with_reducible apply State.refreshTrainPos_evolves
    | with_reducible apply State.setSpareState_evolves
    | with_reducible apply State.modAdc_evolves
    | with_reducible apply State.setFlag_evolves
    | with_reducible apply State.setFld_evolves
    | split
    | dsimp only

theorem State.adcStop_evolves {n} (h : Evolves ps s₀ s) (hp : [.line, .lineRegs] ⊆ ps) :
    Evolves ps s₀ (s.adcStop n) := by
  unfold State.adcStop
  repeat' first
    | with_reducible assumption
    | exact List.Subset.trans (by decide) hp
    | intro _ _ _
    | intro _ _
    | intro _
    | with_reducible apply Evolves.ite
    | with_reducible apply State.refreshTrainPos_evolves
    | with_reducible apply State.modAdc_evolves
    | split
    | dsimp only

theorem State.rotHold_evolves {n} (h : Evolves ps s₀ s) (hp : [.line] ⊆ ps) :
    Evolves ps s₀ (s.rotHold n) := by
  unfold State.rotHold
  repeat' first
    | with_reducible assumption
    | exact List.Subset.trans (by decide) hp
    | intro _ _ _
    | intro _ _
    | intro _
    | with_reducible apply Evolves.ite
    | with_reducible apply State.modRx_evolves
    | split
    | dsimp only

theorem State.setAcqState_evolves {n v} (h : Evolves ps s₀ s) (hp : [.line, .tamid, .lineRegs, .tamidRegs] ⊆ ps) :
    Evolves ps s₀ (s.setAcqState n v) := by
  unfold State.setAcqState
  repeat' first
    | with_reducible assumption
    | exact List.Subset.trans (by decide) hp
    | exact Nat.le_of_ble_eq_true rfl
    | exact Field.ix_lt _ _
    | with_reducible apply regPart_tamid
    | with_reducible apply regPart_line
    | intro _ _ _
    | intro _ _
    | intro _
    | with_reducible apply Evolves.ite
    | with_reducible apply State.tamidAcqFall_evolves
    | with_reducible apply State.modRx_evolves
    | with_reducible apply State.setFld_evolves
    | with_reducible apply Evolves.when

theorem State.bankRestored_evolves {b} (h : Evolves ps s₀ s) (hp : [.memProtRegs] ⊆ ps) :
    Evolves ps s₀ (s.bankRestored b) := by
  unfold State.bankRestored
  repeat' first
    | with_reducible assumption
    | exact List.Subset.trans (by decide) hp
    | exact Nat.le_of_ble_eq_true rfl
    | exact Field.ix_lt _ _
    | with_reducible apply regPart_memProt
    | with_reducible apply State.setFlag_evolves

theorem State.acqStart_evolves {n} (h : Evolves ps s₀ s) (hp : [.line, .host, .lanes, .fuse, .link, .counters, .attic,
    .tamid, .systemRegs, .memProtRegs, .lineRegs, .hostRegs, .tamidRegs] ⊆ ps) :
    Evolves ps s₀ (s.acqStart n) := by
  unfold State.acqStart
  repeat' first
    | with_reducible assumption
    | exact List.Subset.trans (by decide) hp
    | exact Nat.le_of_ble_eq_true rfl
    | exact Field.ix_lt _ _
    | exact Field.lt _
    | with_reducible apply regPart_line
    | intro _ _ _
    | intro _ _
    | intro _
    | with_reducible apply Evolves.ite
    | with_reducible apply State.bankRestored_evolves
    | with_reducible apply State.setAcqState_evolves
    | with_reducible apply State.rotHold_evolves
    | with_reducible apply State.adcStart_evolves
    | with_reducible apply State.loseLock_evolves
    | with_reducible apply State.unsettle_evolves
    | with_reducible apply State.modRx_evolves
    | with_reducible apply State.setFld_evolves
    | split
    | dsimp only

theorem State.lineReacq_evolves {n} (h : Evolves ps s₀ s) (hp : [.line, .host, .lanes, .fuse, .link, .counters,
    .attic, .tamid, .systemRegs, .memProtRegs, .lineRegs, .hostRegs, .tamidRegs] ⊆ ps) :
    Evolves ps s₀ (s.lineReacq n) := by
  unfold State.lineReacq
  repeat' first
    | with_reducible assumption
    | exact List.Subset.trans (by decide) hp
    | with_reducible apply Evolves.ite
    | with_reducible apply State.acqStart_evolves

theorem State.fastRelock_evolves {n} (h : Evolves ps s₀ s) (hp : [.line, .tamid, .lineRegs, .tamidRegs] ⊆ ps) :
    Evolves ps s₀ (s.fastRelock n) := by
  unfold State.fastRelock
  repeat' first
    | with_reducible assumption
    | exact List.Subset.trans (by decide) hp
    | intro _ _ _
    | intro _ _
    | intro _
    | with_reducible apply Evolves.ite
    | with_reducible apply State.setAcqState_evolves
    | with_reducible apply State.rotHold_evolves
    | with_reducible apply State.unsettle_evolves
    | with_reducible apply State.modRx_evolves
    | split
    | dsimp only

theorem State.lineClocksStop_evolves {n} (h : Evolves ps s₀ s) (hp : [.line, .host, .lanes, .fuse, .link, .counters,
    .attic, .systemRegs, .lineRegs, .hostRegs] ⊆ ps) :
    Evolves ps s₀ (s.lineClocksStop n) := by
  unfold State.lineClocksStop
  repeat' first
    | with_reducible assumption
    | exact List.Subset.trans (by decide) hp
    | intro _ _ _
    | intro _ _
    | intro _
    | with_reducible apply Evolves.ite
    | with_reducible apply State.rotHold_evolves
    | with_reducible apply State.loseLock_evolves
    | with_reducible apply State.modRx_evolves
    | split
    | dsimp only

theorem State.lineClocksReturn_evolves {n} {within100ms} (h : Evolves ps s₀ s) (hp : [.line, .host, .lanes, .fuse,
    .link, .counters, .attic, .tamid, .systemRegs, .memProtRegs, .lineRegs, .hostRegs, .tamidRegs] ⊆ ps) :
    Evolves ps s₀ (s.lineClocksReturn n within100ms) := by
  unfold State.lineClocksReturn
  repeat' first
    | with_reducible assumption
    | exact List.Subset.trans (by decide) hp
    | intro _ _ _
    | intro _ _
    | intro _
    | with_reducible apply Evolves.ite
    | with_reducible apply State.fastRelock_evolves
    | with_reducible apply State.acqStart_evolves
    | with_reducible apply State.rotHold_evolves
    | with_reducible apply State.modRx_evolves
    | split
    | dsimp only

theorem State.lol_evolves {n detail} (h : Evolves ps s₀ s) (hp : [.line, .host, .lanes, .fuse, .link, .counters,
    .attic, .tamid, .systemRegs, .lineRegs, .hostRegs, .tamidRegs] ⊆ ps) :
    Evolves ps s₀ (s.lol n detail) := by
  unfold State.lol
  repeat' first
    | with_reducible assumption
    | exact List.Subset.trans (by decide) hp
    | with_reducible apply State.fastRelock_evolves
    | with_reducible apply State.loseLock_evolves
    | with_reducible apply State.raise_evolves

theorem State.setHrState_evolves {m v} (h : Evolves ps s₀ s) (hp : [.host, .hostRegs] ⊆ ps) :
    Evolves ps s₀ (s.setHrState m v) := by
  unfold State.setHrState
  repeat' first
    | with_reducible assumption
    | exact List.Subset.trans (by decide) hp
    | exact Nat.le_of_ble_eq_true rfl
    | exact Field.ix_lt _ _
    | with_reducible apply regPart_host
    | with_reducible apply Evolves.ite
    | with_reducible apply State.modHost_evolves
    | with_reducible apply State.setFld_evolves

theorem State.setHtState_evolves {m v} (h : Evolves ps s₀ s) (hp : [.hostRegs] ⊆ ps) :
    Evolves ps s₀ (s.setHtState m v) := by
  unfold State.setHtState
  repeat' first
    | with_reducible assumption
    | exact List.Subset.trans (by decide) hp
    | exact Nat.le_of_ble_eq_true rfl
    | exact Field.ix_lt _ _
    | with_reducible apply regPart_host
    | with_reducible apply State.setFld_evolves

theorem State.hostVotes_evolves {m} (h : Evolves ps s₀ s) (hp : [.power, .powerRegs] ⊆ ps) :
    Evolves ps s₀ (s.hostVotes m) := by
  unfold State.hostVotes
  repeat' first
    | with_reducible assumption
    | exact List.Subset.trans (by decide) hp
    | with_reducible apply State.putVote_evolves

theorem State.trainBegin_evolves {m} (h : Evolves ps s₀ s) (hp : [.host, .hostRegs] ⊆ ps) :
    Evolves ps s₀ (s.trainBegin m) := by
  unfold State.trainBegin
  repeat' first
    | with_reducible assumption
    | exact List.Subset.trans (by decide) hp
    | exact Nat.le_of_ble_eq_true rfl
    | exact Field.ix_lt _ _
    | with_reducible apply regPart_host
    | with_reducible apply State.setFld_evolves
    | with_reducible apply State.modHost_evolves
    | with_reducible apply State.setHtState_evolves

theorem State.trainAbandon_evolves {m} (h : Evolves ps s₀ s) (hp : [.hostRegs] ⊆ ps) :
    Evolves ps s₀ (s.trainAbandon m) := by
  unfold State.trainAbandon
  repeat' first
    | with_reducible assumption
    | exact List.Subset.trans (by decide) hp
    | exact Nat.le_of_ble_eq_true rfl
    | exact Field.ix_lt _ _
    | with_reducible apply regPart_host
    | with_reducible apply Evolves.ite
    | with_reducible apply State.setFld_evolves

theorem State.htLeaveIdle_evolves {m} (h : Evolves ps s₀ s) (hp : [.host, .hostRegs] ⊆ ps) :
    Evolves ps s₀ (s.htLeaveIdle m) := by
  unfold State.htLeaveIdle
  repeat' first
    | with_reducible assumption
    | exact List.Subset.trans (by decide) hp
    | with_reducible apply Evolves.ite
    | with_reducible apply State.trainBegin_evolves
    | with_reducible apply State.setHtState_evolves

theorem State.htStart_evolves {m} (h : Evolves ps s₀ s) (hp : [.host, .hostRegs] ⊆ ps) :
    Evolves ps s₀ (s.htStart m) := by
  unfold State.htStart
  repeat' first
    | with_reducible assumption
    | exact List.Subset.trans (by decide) hp
    | with_reducible apply Evolves.ite
    | with_reducible apply State.modHost_evolves
    | with_reducible apply State.setHtState_evolves
    | with_reducible apply State.htLeaveIdle_evolves

theorem State.htFall_evolves {m} (h : Evolves ps s₀ s) (hp : [.host, .hostRegs] ⊆ ps) :
    Evolves ps s₀ (s.htFall m) := by
  unfold State.htFall
  repeat' first
    | with_reducible assumption
    | exact List.Subset.trans (by decide) hp
    | with_reducible apply Evolves.ite
    | with_reducible apply State.modHost_evolves
    | with_reducible apply State.setHtState_evolves
    | with_reducible apply State.trainAbandon_evolves

theorem State.setHostCause_evolves {m bit on} (h : Evolves ps s₀ s) (hp : [.host, .hostRegs] ⊆ ps) :
    Evolves ps s₀ (s.setHostCause m bit on) := by
  unfold State.setHostCause
  repeat' first
    | with_reducible assumption
    | exact List.Subset.trans (by decide) hp
    | exact Nat.le_of_ble_eq_true rfl
    | exact Field.ix_lt _ _
    | with_reducible apply regPart_host
    | with_reducible apply Evolves.ite
    | with_reducible apply State.setFld_evolves
    | with_reducible apply State.setHtState_evolves
    | with_reducible apply State.trainAbandon_evolves
    | with_reducible apply State.htLeaveIdle_evolves

theorem State.refreshHostFill_evolves {m} (h : Evolves ps s₀ s) (hp : [.line, .fuse, .link, .counters, .attic,
    .systemRegs, .lineRegs] ⊆ ps) :
    Evolves ps s₀ (s.refreshHostFill m) := by
  unfold State.refreshHostFill
  repeat' first
    | with_reducible assumption
    | exact List.Subset.trans (by decide) hp
    | with_reducible apply State.refreshFill_evolves
    | split

theorem State.pairRelease_evolves {m} (h : Evolves ps s₀ s) (hp : [.line] ⊆ ps) :
    Evolves ps s₀ (s.pairRelease m) := by
  unfold State.pairRelease
  repeat' first
    | with_reducible assumption
    | exact List.Subset.trans (by decide) hp
    | intro _ _ _
    | intro _ _
    | intro _
    | with_reducible apply Evolves.ite
    | with_reducible apply State.modLinkOf_evolves
    | split
    | dsimp only

theorem State.dropCwLock_evolves {m} (h : Evolves ps s₀ s) (hp : [.line, .host, .fuse, .link, .counters, .attic,
    .systemRegs, .lineRegs, .hostRegs] ⊆ ps) :
    Evolves ps s₀ (s.dropCwLock m) := by
  unfold State.dropCwLock
  repeat' first
    | with_reducible assumption
    | exact List.Subset.trans (by decide) hp
    | exact Nat.le_of_ble_eq_true rfl
    | exact Field.ix_lt _ _
    | exact Field.lt _
    | with_reducible apply regPart_host
    | intro _ _ _
    | intro _ _
    | intro _
    | with_reducible apply Evolves.ite
    | with_reducible apply State.pairRelease_evolves
    | with_reducible apply State.refreshHostFill_evolves
    | with_reducible apply State.modHost_evolves
    | with_reducible apply State.setFlag_evolves
    | split
    | dsimp only

theorem State.dropHostAlignment_evolves {m} (h : Evolves ps s₀ s) (hp : [.lanes] ⊆ ps) :
    Evolves ps s₀ (s.dropHostAlignment m) := by
  unfold State.dropHostAlignment
  repeat' first
    | with_reducible assumption
    | exact List.Subset.trans (by decide) hp
    | intro _ _ _
    | intro _ _
    | intro _
    | with_reducible apply Evolves.ite
    | split
    | dsimp only
    | with_reducible apply Evolves.lanes

theorem State.hostLoseLock_evolves {m} (h : Evolves ps s₀ s) (hp : [.line, .host, .lanes, .fuse, .link, .counters,
    .attic, .systemRegs, .lineRegs, .hostRegs] ⊆ ps) :
    Evolves ps s₀ (s.hostLoseLock m) := by
  unfold State.hostLoseLock
  repeat' first
    | with_reducible assumption
    | exact List.Subset.trans (by decide) hp
    | exact Nat.le_of_ble_eq_true rfl
    | exact Field.ix_lt _ _
    | exact Field.lt _
    | with_reducible apply regPart_host
    | intro _ _ _
    | intro _ _
    | intro _
    | with_reducible apply Evolves.ite
    | with_reducible apply State.dropHostAlignment_evolves
    | with_reducible apply State.dropCwLock_evolves
    | with_reducible apply State.trainAbandon_evolves
    | with_reducible apply State.followEnd_evolves
    | with_reducible apply State.unsettleHost_evolves
    | with_reducible apply State.modHost_evolves
    | with_reducible apply State.setFlag_evolves
    | with_reducible apply State.setReg_evolves
    | split
    | dsimp only

theorem State.hostAfterSignal_evolves {m} (h : Evolves ps s₀ s) (hp : [.host, .hostRegs] ⊆ ps) :
    Evolves ps s₀ (s.hostAfterSignal m) := by
  unfold State.hostAfterSignal
  repeat' first
    | with_reducible assumption
    | exact List.Subset.trans (by decide) hp
    | with_reducible apply Evolves.ite
    | with_reducible apply State.setHrState_evolves
    | with_reducible apply State.trainBegin_evolves
    | with_reducible apply State.modHost_evolves

theorem State.hostAdcLoad_evolves {m} (h : Evolves ps s₀ s) (hp : [.host] ⊆ ps) :
    Evolves ps s₀ (s.hostAdcLoad m) := by
  unfold State.hostAdcLoad
  repeat' first
    | with_reducible assumption
    | exact List.Subset.trans (by decide) hp
    | intro _ _ _
    | intro _ _
    | intro _
    | with_reducible apply Evolves.ite
    | with_reducible apply State.modHost_evolves
    | split
    | dsimp only

theorem State.hostAcqStart_evolves {m} (h : Evolves ps s₀ s) (hp : [.line, .host, .lanes, .fuse, .link, .counters,
    .attic, .systemRegs, .memProtRegs, .lineRegs, .hostRegs] ⊆ ps) :
    Evolves ps s₀ (s.hostAcqStart m) := by
  unfold State.hostAcqStart
  repeat' first
    | with_reducible assumption
    | exact List.Subset.trans (by decide) hp
    | intro _ _ _
    | intro _ _
    | intro _
    | with_reducible apply Evolves.ite
    | with_reducible apply State.hostAdcLoad_evolves
    | with_reducible apply State.hostAfterSignal_evolves
    | with_reducible apply State.hostLoseLock_evolves
    | with_reducible apply State.setHrState_evolves
    | with_reducible apply State.bankRestored_evolves
    | with_reducible apply State.unsettleHost_evolves
    | with_reducible apply State.modHost_evolves
    | split
    | dsimp only

theorem State.hostReacq_evolves {m} (h : Evolves ps s₀ s) (hp : [.line, .host, .lanes, .fuse, .link, .counters,
    .attic, .systemRegs, .memProtRegs, .lineRegs, .hostRegs] ⊆ ps) :
    Evolves ps s₀ (s.hostReacq m) := by
  unfold State.hostReacq
  repeat' first
    | with_reducible assumption
    | exact List.Subset.trans (by decide) hp
    | with_reducible apply Evolves.ite
    | with_reducible apply State.hostAcqStart_evolves

theorem State.hostRelock_evolves {m} (h : Evolves ps s₀ s) (hp : [.host, .lineRegs, .hostRegs] ⊆ ps) :
    Evolves ps s₀ (s.hostRelock m) := by
  unfold State.hostRelock
  repeat' first
    | with_reducible assumption
    | exact List.Subset.trans (by decide) hp
    | with_reducible apply State.modHost_evolves
    | with_reducible apply State.unsettleHost_evolves
    | with_reducible apply State.setHrState_evolves

theorem State.hostLol_evolves {m detail} (h : Evolves ps s₀ s) (hp : [.line, .host, .lanes, .fuse, .link, .counters,
    .attic, .systemRegs, .lineRegs, .hostRegs] ⊆ ps) :
    Evolves ps s₀ (s.hostLol m detail) := by
  unfold State.hostLol
  repeat' first
    | with_reducible assumption
    | exact List.Subset.trans (by decide) hp
    | with_reducible apply State.hostRelock_evolves
    | with_reducible apply State.hostLoseLock_evolves
    | with_reducible apply State.raise_evolves

theorem State.hostClocksStop_evolves {m} (h : Evolves ps s₀ s) (hp : [.line, .host, .lanes, .fuse, .link, .counters,
    .attic, .systemRegs, .lineRegs, .hostRegs] ⊆ ps) :
    Evolves ps s₀ (s.hostClocksStop m) := by
  unfold State.hostClocksStop
  repeat' first
    | with_reducible assumption
    | exact List.Subset.trans (by decide) hp
    | intro _ _ _
    | intro _ _
    | intro _
    | with_reducible apply Evolves.ite
    | with_reducible apply State.hostLoseLock_evolves
    | with_reducible apply State.setHrState_evolves
    | with_reducible apply State.modHost_evolves
    | split
    | dsimp only

theorem State.hostClocksReturn_evolves {m} {within100ms} (h : Evolves ps s₀ s) (hp : [.line, .host, .lanes, .fuse,
    .link, .counters, .attic, .systemRegs, .memProtRegs, .lineRegs, .hostRegs] ⊆ ps) :
    Evolves ps s₀ (s.hostClocksReturn m within100ms) := by
  unfold State.hostClocksReturn
  repeat' first
    | with_reducible assumption
    | exact List.Subset.trans (by decide) hp
    | intro _ _ _
    | intro _ _
    | intro _
    | with_reducible apply Evolves.ite
    | with_reducible apply State.hostRelock_evolves
    | with_reducible apply State.hostAcqStart_evolves
    | with_reducible apply State.modHost_evolves
    | split
    | dsimp only

theorem State.hostRxStop_evolves {m} (h : Evolves ps s₀ s) (hp : [.line, .host, .lanes, .fuse, .link, .counters,
    .attic, .systemRegs, .lineRegs, .hostRegs] ⊆ ps) :
    Evolves ps s₀ (s.hostRxStop m) := by
  unfold State.hostRxStop
  repeat' first
    | with_reducible assumption
    | exact List.Subset.trans (by decide) hp
    | exact Nat.le_of_ble_eq_true rfl
    | exact Field.ix_lt _ _
    | with_reducible apply regPart_line
    | with_reducible apply regPart_system
    | with_reducible apply regPart_host
    | with_reducible apply State.hostLoseLock_evolves
    | with_reducible apply State.modHost_evolves
    | with_reducible apply State.quiet_evolves
    | with_reducible apply State.setFlag_evolves
    | with_reducible apply State.setHrState_evolves

theorem State.hostResume_evolves {m} (h : Evolves ps s₀ s) (hp : [.line, .host, .lanes, .fuse, .link, .counters,
    .attic, .systemRegs, .memProtRegs, .lineRegs, .hostRegs] ⊆ ps) :
    Evolves ps s₀ (s.hostResume m) := by
  unfold State.hostResume
  repeat' first
    | with_reducible assumption
    | exact List.Subset.trans (by decide) hp
    | with_reducible apply Evolves.ite
    | with_reducible apply State.hostRelock_evolves
    | with_reducible apply State.hostAcqStart_evolves

theorem State.reactLine_evolves {n} (h : Evolves ps s₀ s) (hp : [.line, .fuse, .link, .counters, .attic, .systemRegs,
    .lineRegs] ⊆ ps) :
    Evolves ps s₀ (s.reactLine n) := by
  unfold State.reactLine
  repeat' first
    | with_reducible assumption
    | exact List.Subset.trans (by decide) hp
    | with_reducible apply State.setCause_evolves

theorem State.reactHost_evolves {m} (h : Evolves ps s₀ s) (hp : [.host, .hostRegs] ⊆ ps) :
    Evolves ps s₀ (s.reactHost m) := by
  unfold State.reactHost
  repeat' first
    | with_reducible assumption
    | exact List.Subset.trans (by decide) hp
    | with_reducible apply State.setHostCause_evolves

theorem State.safeLine_evolves {n} (h : Evolves ps s₀ s) (hp : [.line, .fuse, .link, .counters, .attic, .systemRegs,
    .lineRegs] ⊆ ps) :
    Evolves ps s₀ (s.safeLine n) := by
  unfold State.safeLine
  repeat' first
    | with_reducible assumption
    | exact List.Subset.trans (by decide) hp
    | with_reducible apply Evolves.ite
    | with_reducible apply State.setTxState_evolves
    | with_reducible apply State.modTx_evolves
    | with_reducible apply State.setCause_evolves

theorem State.safeHost_evolves {m} (h : Evolves ps s₀ s) (hp : [.host, .hostRegs] ⊆ ps) :
    Evolves ps s₀ (s.safeHost m) := by
  unfold State.safeHost
  repeat' first
    | with_reducible assumption
    | exact List.Subset.trans (by decide) hp
    | with_reducible apply State.setHostCause_evolves
    | with_reducible apply State.trainAbandon_evolves

theorem State.safeEntry_evolves (h : Evolves ps s₀ s) (hp : [.line, .host, .fuse, .power, .link, .counters, .attic,
    .cdac, .tamid, .test, .systemRegs, .powerRegs, .testRegs, .lineRegs, .hostRegs, .tamidRegs, .cdacRegs] ⊆ ps) :
    Evolves ps s₀ (s.safeEntry) := by
  unfold State.safeEntry
  repeat' first
    | with_reducible assumption
    | exact List.Subset.trans (by decide) hp
    | intro _ _ _
    | intro _ _
    | intro _
    | with_reducible apply State.bistCut_evolves
    | with_reducible apply State.safeLine_evolves
    | with_reducible apply State.safeHost_evolves
    | with_reducible apply State.cdSafe_evolves
    | with_reducible apply State.tamidCut_evolves
    | with_reducible apply Evolves.each

theorem State.watchdogsStart_evolves (h : Evolves ps s₀ s) (hp : [.boot] ⊆ ps) :
    Evolves ps s₀ (s.watchdogsStart) := by
  unfold State.watchdogsStart
  repeat' first
    | with_reducible assumption
    | exact List.Subset.trans (by decide) hp
    | intro _ _ _
    | intro _ _
    | intro _
    | with_reducible apply Evolves.ite
    | split
    | dsimp only
    | with_reducible apply Evolves.boot

theorem State.dozeExit_evolves (h : Evolves ps s₀ s) (hp : [.line, .host, .lanes, .fuse, .link, .counters, .attic,
    .boot, .tamid, .systemRegs, .powerRegs, .memProtRegs, .lineRegs, .hostRegs, .tamidRegs] ⊆ ps) :
    Evolves ps s₀ (s.dozeExit) := by
  unfold State.dozeExit
  repeat' first
    | with_reducible assumption
    | exact List.Subset.trans (by decide) hp
    | exact Nat.le_of_ble_eq_true rfl
    | exact Field.ix_lt _ _
    | exact Field.lt _
    | with_reducible apply regPart_power
    | intro _ _ _
    | intro _ _
    | intro _
    | with_reducible apply Evolves.ite
    | with_reducible apply State.watchdogsStart_evolves
    | with_reducible apply State.hostClocksReturn_evolves
    | with_reducible apply State.lineClocksReturn_evolves
    | with_reducible apply Evolves.each
    | with_reducible apply State.setFld_evolves
    | split
    | dsimp only

theorem State.reactOne_evolves {x1} (h : Evolves ps s₀ s) (hp : [.line, .host, .lanes, .fuse, .power, .link,
    .counters, .attic, .boot, .cdac, .tamid, .test, .systemRegs, .powerRegs, .memProtRegs, .testRegs, .lineRegs,
    .hostRegs, .tamidRegs, .cdacRegs] ⊆ ps) :
    Evolves ps s₀ (s.reactOne x1) := by
  unfold State.reactOne
  repeat' first
    | with_reducible assumption
    | exact List.Subset.trans (by decide) hp
    | with_reducible apply State.reactLine_evolves
    | with_reducible apply State.reactHost_evolves
    | with_reducible apply State.lineReacq_evolves
    | with_reducible apply State.hostReacq_evolves
    | with_reducible apply State.safeEntry_evolves
    | with_reducible apply State.dozeExit_evolves
    | split

theorem State.reactRound_evolves (h : Evolves ps s₀ s) (hp : [.line, .host, .lanes, .fuse, .power, .link, .counters,
    .attic, .boot, .cdac, .tamid, .test, .systemRegs, .powerRegs, .memProtRegs, .testRegs, .lineRegs, .hostRegs,
    .tamidRegs, .cdacRegs] ⊆ ps) :
    Evolves ps s₀ (s.reactRound) := by
  unfold State.reactRound
  refine Evolves.foldl (h.fuse (List.Subset.trans (by decide) hp) fun k => k) fun t d ht => ?_
  exact State.reactOne_evolves ht hp

theorem State.reactRounds_evolves {k} (h : Evolves ps s₀ s)
    (hp : [.line, .host, .lanes, .fuse, .power, .link, .counters, .attic, .boot, .cdac, .tamid, .test, .systemRegs,
    .powerRegs, .memProtRegs, .testRegs, .lineRegs, .hostRegs, .tamidRegs, .cdacRegs] ⊆ ps) :
    Evolves ps s₀ (State.reactRounds k s) := by
  induction k generalizing s with
  | zero => exact h
  | succ k ih =>
    unfold State.reactRounds
    exact Evolves.ite h (ih (State.reactRound_evolves h hp))

theorem State.settleDue_evolves (h : Evolves ps s₀ s) (hp : [.fuse] ⊆ ps) :
    Evolves ps s₀ (s.settleDue) := by
  unfold State.settleDue
  repeat' first
    | with_reducible assumption
    | exact List.Subset.trans (by decide) hp
    | exact fun k => k
    | exact fun _ => Nat.zero_le _
    | with_reducible apply Evolves.fuse

theorem State.react_evolves (h : Evolves ps s₀ s) (hp : [.line, .host, .lanes, .fuse, .power, .link, .counters,
    .attic, .boot, .cdac, .tamid, .test, .systemRegs, .powerRegs, .memProtRegs, .testRegs, .lineRegs, .hostRegs,
    .tamidRegs, .cdacRegs] ⊆ ps) :
    Evolves ps s₀ (s.react) := by
  unfold State.react
  repeat' first
    | with_reducible assumption
    | exact List.Subset.trans (by decide) hp
    | with_reducible apply State.settleDue_evolves
    | with_reducible apply State.reactRounds_evolves

theorem State.lineChkOn_evolves {n} (h : Evolves ps s₀ s) (hp : [.line, .lineRegs] ⊆ ps) :
    Evolves ps s₀ (s.lineChkOn n) := by
  unfold State.lineChkOn
  repeat' first
    | with_reducible assumption
    | exact List.Subset.trans (by decide) hp
    | exact Nat.le_of_ble_eq_true rfl
    | exact Field.ix_lt _ _
    | exact Field.lt _
    | with_reducible apply regPart_line
    | intro _ _ _
    | intro _ _
    | intro _
    | with_reducible apply Evolves.ite
    | with_reducible apply State.modRx_evolves
    | with_reducible apply State.bump_evolves
    | with_reducible apply State.setFlag_evolves
    | split
    | dsimp only

theorem State.hostChkOn_evolves {m} (h : Evolves ps s₀ s) (hp : [.host, .hostRegs] ⊆ ps) :
    Evolves ps s₀ (s.hostChkOn m) := by
  unfold State.hostChkOn
  repeat' first
    | with_reducible assumption
    | exact List.Subset.trans (by decide) hp
    | exact Nat.le_of_ble_eq_true rfl
    | exact Field.ix_lt _ _
    | exact Field.lt _
    | with_reducible apply regPart_host
    | intro _ _ _
    | intro _ _
    | intro _
    | with_reducible apply Evolves.ite
    | with_reducible apply State.modHost_evolves
    | with_reducible apply State.bump_evolves
    | with_reducible apply State.setFlag_evolves
    | split
    | dsimp only

theorem State.lineChkOff_evolves {n} (h : Evolves ps s₀ s) (hp : [.line, .lineRegs] ⊆ ps) :
    Evolves ps s₀ (s.lineChkOff n) := by
  unfold State.lineChkOff
  repeat' first
    | with_reducible assumption
    | exact List.Subset.trans (by decide) hp
    | exact Nat.le_of_ble_eq_true rfl
    | exact Field.ix_lt _ _
    | exact Field.lt _
    | with_reducible apply regPart_line
    | intro _ _ _
    | intro _ _
    | intro _
    | with_reducible apply Evolves.ite
    | with_reducible apply State.modRx_evolves
    | with_reducible apply State.setFlag_evolves
    | split
    | dsimp only

theorem State.hostChkOff_evolves {m} (h : Evolves ps s₀ s) (hp : [.host, .hostRegs] ⊆ ps) :
    Evolves ps s₀ (s.hostChkOff m) := by
  unfold State.hostChkOff
  repeat' first
    | with_reducible assumption
    | exact List.Subset.trans (by decide) hp
    | exact Nat.le_of_ble_eq_true rfl
    | exact Field.ix_lt _ _
    | exact Field.lt _
    | with_reducible apply regPart_host
    | intro _ _ _
    | intro _ _
    | intro _
    | with_reducible apply Evolves.ite
    | with_reducible apply State.modHost_evolves
    | with_reducible apply State.setFlag_evolves
    | split
    | dsimp only

theorem State.linePatErrors_evolves {n} {errors} (h : Evolves ps s₀ s) (hp : [.line] ⊆ ps) :
    Evolves ps s₀ (s.linePatErrors n errors) := by
  unfold State.linePatErrors
  repeat' first
    | with_reducible assumption
    | exact List.Subset.trans (by decide) hp
    | intro _ _ _
    | intro _ _
    | intro _
    | with_reducible apply Evolves.ite
    | with_reducible apply State.modRx_evolves
    | split
    | dsimp only

theorem State.hostPatErrors_evolves {m} {errors} (h : Evolves ps s₀ s) (hp : [.host] ⊆ ps) :
    Evolves ps s₀ (s.hostPatErrors m errors) := by
  unfold State.hostPatErrors
  repeat' first
    | with_reducible assumption
    | exact List.Subset.trans (by decide) hp
    | intro _ _ _
    | intro _ _
    | intro _
    | with_reducible apply Evolves.ite
    | with_reducible apply State.modHost_evolves
    | split
    | dsimp only

theorem State.ncoStep_queue (s : State) (i : Fin 8) (t : TamidInst) : (s.ncoStep i t).queue = t.queue := by
  unfold State.ncoStep
  repeat' first
    | rfl
    | split

theorem State.ncoRun_evolves {i k} (h : Evolves ps s₀ s) (hp : [.tamid] ⊆ ps) :
    Evolves ps s₀ (s.ncoRun i k) := by
  induction k generalizing s with
  | zero => exact h
  | succ k ih => exact ih (State.modTamid_evolves h hp fun q => (State.ncoStep_queue s i _).symm ▸ q)

end Sys2Proof.Machine
end

