-- ==== Sys2Proof/Laws/Engines.lean ====
section
/-! SUPPORT. What each operation can do (`Evolves`): the engines, the memories and the Pantry. -/

namespace Sys2Proof.Machine

variable {ps : List Part} {s₀ s : State}

theorem State.setEngine_evolves {r e x} (h : Evolves ps s₀ s) (hp : [.rooms] ⊆ ps) :
    Evolves ps s₀ (s.setEngine r e x) := by
  unfold State.setEngine
  repeat' first
    | with_reducible assumption
    | exact List.Subset.trans (by decide) hp
    | with_reducible apply Evolves.rooms

theorem State.modEngine_evolves {r e f} (h : Evolves ps s₀ s) (hp : [.rooms] ⊆ ps) :
    Evolves ps s₀ (s.modEngine r e f) := by
  unfold State.modEngine
  repeat' first
    | with_reducible assumption
    | exact List.Subset.trans (by decide) hp
    | with_reducible apply State.setEngine_evolves

theorem State.modRoom_evolves {r f} (h : Evolves ps s₀ s) (hp : [.rooms] ⊆ ps) :
    Evolves ps s₀ (s.modRoom r f) := by
  unfold State.modRoom
  repeat' first
    | with_reducible assumption
    | exact List.Subset.trans (by decide) hp
    | with_reducible apply Evolves.rooms

theorem State.modGuest_evolves {t f} (h : Evolves ps s₀ s) (hp : [.rooms] ⊆ ps) :
    Evolves ps s₀ (s.modGuest t f) := by
  unfold State.modGuest
  repeat' first
    | with_reducible assumption
    | exact List.Subset.trans (by decide) hp
    | with_reducible apply Evolves.rooms

theorem State.setDataWord_evolves {r e a v} (h : Evolves ps s₀ s) (hp : [.mem] ⊆ ps) :
    Evolves ps s₀ (s.setDataWord r e a v) := by
  unfold State.setDataWord
  repeat' first
    | with_reducible assumption
    | exact List.Subset.trans (by decide) hp
    | with_reducible apply State.setMemNat_evolves

theorem State.guestTrap_evolves {t cause} (h : Evolves ps s₀ s) (hp : [.fuse, .link, .counters, .attic, .rooms,
    .systemRegs] ⊆ ps) :
    Evolves ps s₀ (s.guestTrap t cause) := by
  unfold State.guestTrap
  repeat' first
    | with_reducible assumption
    | exact List.Subset.trans (by decide) hp
    | with_reducible apply Evolves.ite
    | with_reducible apply State.modGuest_evolves
    | with_reducible apply State.raise_evolves

theorem State.freshMany_evolves {x1} (h : Evolves ps s₀ s) (hp : [.free] ⊆ ps) :
    ∀ {y z}, s.freshMany x1 = (y, z) → Evolves ps s₀ z := by
  induction x1 generalizing s with
  | zero => intro a t e; simp only [State.freshMany, Prod.mk.injEq] at e; exact e.2 ▸ h
  | succ k ih =>
    intro a t e
    simp only [State.freshMany, Prod.mk.injEq] at e
    exact e.2 ▸ ih (State.fresh_evolves h hp rfl) rfl

theorem State.freshMany_snd {x1} (h : Evolves ps s₀ s) (hp : [.free] ⊆ ps) :
    Evolves ps s₀ (s.freshMany x1).2 := State.freshMany_evolves h hp rfl

theorem State.commitSlot_evolves {r t} (h : Evolves ps s₀ s) (hp : [.free, .mem, .rooms] ⊆ ps) :
    Evolves ps s₀ (s.commitSlot r t) := by
  unfold State.commitSlot
  dsimp only
  split
  · exact h
  · with_reducible apply Evolves.rooms
    · with_reducible apply State.setBytes_evolves
      · exact State.freshMany_snd h (List.Subset.trans (by decide) hp)
      · exact List.Subset.trans (by decide) hp
    · exact List.Subset.trans (by decide) hp

theorem State.lastSpareGone_evolves {r e} (h : Evolves ps s₀ s) (hp : [.fuse, .link, .counters, .attic, .systemRegs] ⊆
    ps) :
    Evolves ps s₀ (s.lastSpareGone r e) := by
  unfold State.lastSpareGone
  repeat' first
    | with_reducible assumption
    | exact List.Subset.trans (by decide) hp
    | with_reducible apply Evolves.ite
    | with_reducible apply State.raise_evolves

theorem State.loseTask_evolves {r t} (h : Evolves ps s₀ s) (hp : [.fuse, .link, .counters, .attic, .rooms, .systemRegs]
    ⊆ ps) :
    Evolves ps s₀ (s.loseTask r t) := by
  unfold State.loseTask
  repeat' first
    | with_reducible assumption
    | exact List.Subset.trans (by decide) hp
    | with_reducible apply Evolves.ite
    | with_reducible apply State.modRoom_evolves
    | with_reducible apply State.guestTrap_evolves
    | with_reducible apply State.raise_evolves

theorem State.takeoverStart_evolves {r} {t} {failed} {since} (h : Evolves ps s₀ s) (hp : [.fuse, .power, .link,
    .counters, .attic, .rooms, .test, .systemRegs, .powerRegs, .testRegs] ⊆ ps) :
    Evolves ps s₀ (s.takeoverStart r t failed since) := by
  unfold State.takeoverStart
  repeat' first
    | with_reducible assumption
    | exact List.Subset.trans (by decide) hp
    | intro _ _ _
    | intro _ _
    | intro _
    | with_reducible apply Evolves.ite
    | with_reducible apply State.loseTask_evolves
    | with_reducible apply State.modRoom_evolves
    | with_reducible apply State.bistNeeded_evolves
    | split
    | dsimp only

theorem State.spareFail_evolves {r e} (h : Evolves ps s₀ s) (hp : [.fuse, .link, .counters, .attic, .rooms,
    .systemRegs] ⊆ ps) :
    Evolves ps s₀ (s.spareFail r e) := by
  unfold State.spareFail
  repeat' first
    | with_reducible assumption
    | exact List.Subset.trans (by decide) hp
    | with_reducible apply State.modRoom_evolves
    | with_reducible apply State.raise_evolves

theorem State.farDrop_evolves {r e} (h : Evolves ps s₀ s) (hp : [.power] ⊆ ps) :
    Evolves ps s₀ (s.farDrop r e) := by
  unfold State.farDrop
  repeat' first
    | with_reducible assumption
    | exact List.Subset.trans (by decide) hp
    | with_reducible apply Evolves.power

theorem State.engineHalt_evolves {r e} (h : Evolves ps s₀ s) (hp : [.power, .rooms] ⊆ ps) :
    Evolves ps s₀ (s.engineHalt r e) := by
  unfold State.engineHalt
  repeat' first
    | with_reducible assumption
    | exact List.Subset.trans (by decide) hp
    | with_reducible apply State.modEngine_evolves
    | with_reducible apply State.farDrop_evolves

theorem State.taskFault_evolves {r} {e} {t} {code} (h : Evolves ps s₀ s) (hp : [.free, .mem, .fuse, .power, .link,
    .counters, .attic, .rooms, .test, .systemRegs, .powerRegs, .testRegs] ⊆ ps) :
    Evolves ps s₀ (s.taskFault r e t code) := by
  unfold State.taskFault
  repeat' first
    | with_reducible assumption
    | exact List.Subset.trans (by decide) hp
    | intro _ _ _
    | intro _ _
    | intro _
    | with_reducible apply Evolves.ite
    | with_reducible apply State.engineHalt_evolves
    | with_reducible apply State.takeoverStart_evolves
    | with_reducible apply State.commitSlot_evolves
    | with_reducible apply State.guestTrap_evolves
    | with_reducible apply State.modRoom_evolves
    | with_reducible apply State.raiseHiding_evolves
    | split
    | dsimp only

theorem State.engineFault_evolves {r e code} (h : Evolves ps s₀ s) (hp : [.free, .mem, .fuse, .power, .link, .counters,
    .attic, .rooms, .test, .systemRegs, .powerRegs, .testRegs] ⊆ ps) :
    Evolves ps s₀ (s.engineFault r e code) := by
  unfold State.engineFault
  repeat' first
    | with_reducible assumption
    | exact List.Subset.trans (by decide) hp
    | with_reducible apply Evolves.ite
    | with_reducible apply State.lastSpareGone_evolves
    | with_reducible apply State.spareFail_evolves
    | with_reducible apply State.takeoverStart_evolves
    | with_reducible apply State.taskFault_evolves
    | split

theorem State.loadWindow_evolves {r e x a} (h : Evolves ps s₀ s) (hp : [.mem] ⊆ ps) :
    Evolves ps s₀ (s.loadWindow r e x a) := by
  unfold State.loadWindow
  repeat' first
    | with_reducible assumption
    | exact List.Subset.trans (by decide) hp
    | intro _ _ _
    | intro _ _
    | intro _
    | with_reducible apply State.setDataWord_evolves
    | with_reducible apply Evolves.each

theorem State.restage_evolves {r} {t} (h : Evolves ps s₀ s) (hp : [.pantry] ⊆ ps) :
    Evolves ps s₀ (s.restage r t) := by
  unfold State.restage
  repeat' first
    | with_reducible assumption
    | exact List.Subset.trans (by decide) hp
    | intro _ _ _
    | intro _ _
    | intro _
    | with_reducible apply Evolves.ite
    | with_reducible apply State.modPantry_evolves
    | split
    | dsimp only

theorem State.takeoverResume_evolves {r} {p} (h : Evolves ps s₀ s) (hp : [.mem, .fuse, .link, .counters, .attic,
    .pantry, .rooms, .systemRegs] ⊆ ps) :
    Evolves ps s₀ (s.takeoverResume r p) := by
  unfold State.takeoverResume
  repeat' first
    | with_reducible assumption
    | exact List.Subset.trans (by decide) hp
    | intro _ _ _
    | intro _ _
    | intro _
    | with_reducible apply Evolves.ite
    | with_reducible apply State.restage_evolves
    | with_reducible apply State.loadWindow_evolves
    | with_reducible apply State.loseTask_evolves
    | with_reducible apply State.lastSpareGone_evolves
    | with_reducible apply State.modRoom_evolves
    | with_reducible apply State.setEngine_evolves
    | with_reducible apply State.substitution_evolves
    | with_reducible apply State.raise_evolves
    | with_reducible apply State.setBytes_evolves
    | split
    | dsimp only
    | with_reducible apply Evolves.attic

theorem State.issueWith_evolves {r e isRow f g}
    (h : Evolves ps s₀ s) (hp : [.free, .mem, .fuse, .power, .link, .counters, .attic, .rooms, .test, .systemRegs,
        .powerRegs, .testRegs] ⊆ ps)
    (k : ∀ w x t, Evolves ps s₀ t → Evolves ps s₀ (g w x t)) : Evolves ps s₀ (s.issueWith r e isRow f g) := by
  unfold State.issueWith
  refine Evolves.ite (Evolves.ite (State.engineFault_evolves h ?_) (k _ _ _ (State.setEngine_evolves
    (State.countEvent_evolves h ?_) ?_))) h
  all_goals exact List.Subset.trans (by decide) hp

theorem State.issue_evolves {r e op f} (h : Evolves ps s₀ s) (hp : [.free, .mem, .fuse, .power, .link, .counters,
    .attic, .rooms, .test, .systemRegs, .powerRegs, .testRegs] ⊆ ps) :
    Evolves ps s₀ (s.issue r e op f) := by
  unfold State.issue
  repeat' first
    | with_reducible assumption
    | exact List.Subset.trans (by decide) hp
    | intro _ _ _
    | intro _ _
    | intro _
    | with_reducible apply State.issueWith_evolves

theorem State.issueFree_evolves {r e op f} (h : Evolves ps s₀ s) (hp : [.free, .mem, .fuse, .power, .link, .counters,
    .attic, .rooms, .test, .systemRegs, .powerRegs, .testRegs] ⊆ ps) :
    Evolves ps s₀ (s.issueFree r e op f) := by
  unfold State.issueFree
  repeat' first
    | with_reducible assumption
    | exact List.Subset.trans (by decide) hp
    | with_reducible apply Evolves.ite
    | with_reducible apply State.engineFault_evolves
    | with_reducible apply State.setEngine_evolves

theorem State.setRetLost_evolves {b v} (h : Evolves ps s₀ s) (hp : [.memProtRegs] ⊆ ps) :
    Evolves ps s₀ (s.setRetLost b v) := by
  unfold State.setRetLost
  repeat' first
    | with_reducible assumption
    | exact List.Subset.trans (by decide) hp
    | exact Nat.le_of_ble_eq_true rfl
    | exact Field.ix_lt _ _
    | with_reducible apply regPart_memProt
    | with_reducible apply State.setFlag_evolves

theorem State.wipeBank_evolves {b} (h : Evolves ps s₀ s) (hp : [.mem] ⊆ ps) :
    Evolves ps s₀ (s.wipeBank b) := by
  unfold State.wipeBank
  repeat' first
    | with_reducible assumption
    | exact List.Subset.trans (by decide) hp
    | intro _ _ _
    | intro _ _
    | intro _
    | with_reducible apply State.wipe_evolves
    | with_reducible apply Evolves.each

theorem State.tableStale_evolves {t} (h : Evolves ps s₀ s) (hp : [.fuse, .link, .counters, .attic, .systemRegs,
    .pantryRegs] ⊆ ps) :
    Evolves ps s₀ (s.tableStale t) := by
  unfold State.tableStale
  repeat' first
    | with_reducible assumption
    | exact List.Subset.trans (by decide) hp
    | exact Nat.le_of_ble_eq_true rfl
    | exact Field.ix_lt _ _
    | with_reducible apply regPart_system
    | with_reducible apply regPart_pantry
    | with_reducible apply Evolves.ite
    | with_reducible apply State.raise_evolves
    | with_reducible apply State.setFlag_evolves

theorem State.setLost_evolves {l} (h : Evolves ps s₀ s) (hp : [.memory, .memProtRegs] ⊆ ps) :
    Evolves ps s₀ (s.setLost l) := by
  unfold State.setLost
  repeat' first
    | with_reducible assumption
    | exact List.Subset.trans (by decide) hp
    | exact Nat.le_of_ble_eq_true rfl
    | exact Field.ix_lt _ _
    | with_reducible apply regPart_memProt
    | with_reducible apply State.setFld_evolves
    | with_reducible apply Evolves.memory

theorem State.unmapped_evolves {a} (h : Evolves ps s₀ s) (hp : [.fuse, .link, .counters, .attic, .systemRegs] ⊆ ps) :
    Evolves ps s₀ (s.unmapped a) := by
  unfold State.unmapped
  repeat' first
    | with_reducible assumption
    | exact List.Subset.trans (by decide) hp
    | with_reducible apply State.raise_evolves

theorem State.hallWrite_evolves {a bs} (h : Evolves ps s₀ s) (hp : [.mem, .fuse, .link, .counters, .attic, .memory,
    .systemRegs, .memProtRegs] ⊆ ps) :
    Evolves ps s₀ (s.hallWrite a bs) := by
  unfold State.hallWrite
  repeat' first
    | with_reducible assumption
    | exact List.Subset.trans (by decide) hp
    | with_reducible apply Evolves.ite
    | with_reducible apply State.unmapped_evolves
    | with_reducible apply State.raise_evolves
    | with_reducible apply State.setBytes_evolves
    | with_reducible apply State.setLost_evolves
    | split

theorem State.setEccLog_evolves {m l} (h : Evolves ps s₀ s) (hp : [.memory, .memProtRegs] ⊆ ps) :
    Evolves ps s₀ (s.setEccLog m l) := by
  unfold State.setEccLog
  repeat' first
    | with_reducible assumption
    | exact List.Subset.trans (by decide) hp
    | exact Nat.le_of_ble_eq_true rfl
    | exact Field.ix_lt _ _
    | with_reducible apply regPart_memProt
    | with_reducible apply State.setFld_evolves
    | with_reducible apply Evolves.memory

theorem State.eccLog_evolves {m e} (h : Evolves ps s₀ s) (hp : [.memory, .memProtRegs] ⊆ ps) :
    Evolves ps s₀ (s.eccLog m e) := by
  unfold State.eccLog
  repeat' first
    | with_reducible assumption
    | exact List.Subset.trans (by decide) hp
    | exact Nat.le_of_ble_eq_true rfl
    | exact Field.ix_lt _ _
    | with_reducible apply regPart_memProt
    | intro _ _ _
    | intro _ _
    | intro _
    | with_reducible apply State.setEccLog_evolves
    | with_reducible apply State.bump_evolves
    | with_reducible apply Evolves.when

theorem State.cellarLost_evolves {page lost} (h : Evolves ps s₀ s) (hp : [.mem, .fuse, .link, .counters, .attic,
    .memory, .systemRegs, .memProtRegs] ⊆ ps) :
    Evolves ps s₀ (s.cellarLost page lost) := by
  unfold State.cellarLost
  repeat' first
    | with_reducible assumption
    | exact List.Subset.trans (by decide) hp
    | exact Nat.le_of_ble_eq_true rfl
    | exact Field.ix_lt _ _
    | with_reducible apply regPart_memProt
    | with_reducible apply regPart_system
    | intro _ _ _
    | intro _ _
    | intro _
    | with_reducible apply Evolves.ite
    | with_reducible apply State.wipe_evolves
    | with_reducible apply State.setLost_evolves
    | with_reducible apply State.raise_evolves
    | with_reducible apply State.setFlag_evolves
    | with_reducible apply Evolves.each

theorem State.pageLost_evolves {m} {bank} {a} {lost} (h : Evolves ps s₀ s) (hp : [.free, .mem, .fuse, .power, .link,
    .counters, .attic, .memory, .rooms, .test, .systemRegs, .powerRegs, .memProtRegs, .testRegs, .pantryRegs] ⊆ ps) :
    Evolves ps s₀ (s.pageLost m bank a lost) := by
  unfold State.pageLost
  repeat' first
    | with_reducible assumption
    | exact List.Subset.trans (by decide) hp
    | exact Nat.le_of_ble_eq_true rfl
    | exact Field.ix_lt _ _
    | exact Field.lt _
    | with_reducible apply regPart_memProt
    | intro _ _ _
    | intro _ _
    | intro _
    | with_reducible apply Evolves.ite
    | with_reducible apply State.cellarLost_evolves
    | with_reducible apply State.tableStale_evolves
    | with_reducible apply State.engineFault_evolves
    | with_reducible apply State.raise_evolves
    | with_reducible apply State.wipe_evolves
    | with_reducible apply State.bump_evolves
    | split
    | dsimp only

theorem State.rebuildStart_evolves {p} (h : Evolves ps s₀ s) (hp : [.memory] ⊆ ps) :
    Evolves ps s₀ (s.rebuildStart p) := by
  unfold State.rebuildStart
  repeat' first
    | with_reducible assumption
    | exact List.Subset.trans (by decide) hp
    | with_reducible apply Evolves.ite
    | with_reducible apply Evolves.memory

theorem State.wordFound_evolves {bank} {a} {foundBy} {x1} (h : Evolves ps s₀ s) (hp : [.free, .mem, .fuse, .power,
    .link, .counters, .attic, .memory, .rooms, .test, .systemRegs, .powerRegs, .memProtRegs, .testRegs, .pantryRegs] ⊆
    ps) :
    Evolves ps s₀ (s.wordFound bank a foundBy x1) := by
  unfold State.wordFound
  repeat' first
    | with_reducible assumption
    | exact List.Subset.trans (by decide) hp
    | exact Nat.le_of_ble_eq_true rfl
    | exact Field.ix_lt _ _
    | exact Field.lt _
    | with_reducible apply regPart_memProt
    | intro _ _ _
    | intro _ _
    | intro _
    | with_reducible apply Evolves.ite
    | with_reducible apply State.rebuildStart_evolves
    | with_reducible apply State.pageLost_evolves
    | with_reducible apply State.eccLog_evolves
    | with_reducible apply State.raise_evolves
    | with_reducible apply State.countEvent_evolves
    | with_reducible apply Evolves.when
    | with_reducible apply State.bump_evolves
    | split
    | dsimp only
    | with_reducible apply Evolves.memory

theorem State.readFound_evolves {a foundBy f} (h : Evolves ps s₀ s) (hp : [.free, .mem, .fuse, .power, .link,
    .counters, .attic, .memory, .rooms, .test, .systemRegs, .powerRegs, .memProtRegs, .testRegs, .pantryRegs] ⊆ ps) :
    Evolves ps s₀ (s.readFound a foundBy f) := by
  unfold State.readFound
  repeat' first
    | with_reducible assumption
    | exact List.Subset.trans (by decide) hp
    | with_reducible apply State.wordFound_evolves
    | split

theorem State.setEntry_evolves {t c v} (h : Evolves ps s₀ s) (hp : [.mem] ⊆ ps) :
    Evolves ps s₀ (s.setEntry t c v) := by
  unfold State.setEntry
  repeat' first
    | with_reducible assumption
    | exact List.Subset.trans (by decide) hp
    | with_reducible apply State.setMemNat_evolves

theorem State.countE_evolves {n c} (h : Evolves ps s₀ s) (hp : [.mem, .fuse, .link, .counters, .attic, .systemRegs,
    .pantryRegs] ⊆ ps) :
    Evolves ps s₀ (s.countE n c) := by
  unfold State.countE
  repeat' first
    | with_reducible assumption
    | exact List.Subset.trans (by decide) hp
    | exact Nat.le_of_ble_eq_true rfl
    | exact Field.ix_lt _ _
    | with_reducible apply regPart_system
    | with_reducible apply regPart_pantry
    | with_reducible apply Evolves.ite
    | with_reducible apply State.setEntry_evolves
    | with_reducible apply State.raise_evolves
    | with_reducible apply State.setFlag_evolves

theorem State.moveM_evolves {n} {c} {r} (h : Evolves ps s₀ s) (hp : [.mem] ⊆ ps) :
    Evolves ps s₀ (s.moveM n c r) := by
  unfold State.moveM
  repeat' first
    | with_reducible assumption
    | exact List.Subset.trans (by decide) hp
    | intro _ _ _
    | intro _ _
    | intro _
    | with_reducible apply Evolves.ite
    | with_reducible apply State.setEntry_evolves
    | split
    | dsimp only

theorem State.censusApply_evolves {n} {u} (h : Evolves ps s₀ s) (hp : [.mem, .fuse, .link, .counters, .attic, .pantry,
    .systemRegs, .pantryRegs] ⊆ ps) :
    Evolves ps s₀ (s.censusApply n u) := by
  unfold State.censusApply
  repeat' first
    | with_reducible assumption
    | exact List.Subset.trans (by decide) hp
    | intro _ _ _
    | intro _ _
    | intro _
    | with_reducible apply Evolves.ite
    | with_reducible apply State.moveM_evolves
    | with_reducible apply State.countE_evolves
    | with_reducible apply State.portRequest_evolves
    | with_reducible apply State.modPantry_evolves
    | with_reducible apply Evolves.when
    | with_reducible apply Evolves.each
    | split
    | dsimp only

theorem State.censusDrain_evolves {n} (h : Evolves ps s₀ s) (hp : [.mem, .fuse, .link, .counters, .attic, .pantry,
    .systemRegs, .pantryRegs] ⊆ ps) :
    Evolves ps s₀ (s.censusDrain n) := by
  unfold State.censusDrain
  repeat' first
    | with_reducible assumption
    | exact List.Subset.trans (by decide) hp
    | intro _ _ _
    | intro _ _
    | intro _
    | with_reducible apply Evolves.ite
    | with_reducible apply State.censusApply_evolves
    | with_reducible apply State.modPantry_evolves
    | with_reducible apply Evolves.each
    | split
    | dsimp only

theorem State.logAddr_evolves {b u} (h : Evolves ps s₀ s) (hp : [.free] ⊆ ps) :
    ∀ {y z}, s.logAddr b u = (y, z) → Evolves ps s₀ z := by
  intro a t e
  unfold State.logAddr at e
  split at e
  · cases e; exact h
  · split at e
    · cases e; exact h
    · cases e; exact State.fresh_evolves h hp rfl

theorem State.logAddr_snd {b u} (h : Evolves ps s₀ s) (hp : [.free] ⊆ ps) :
    Evolves ps s₀ (s.logAddr b u).2 := State.logAddr_evolves h hp rfl

theorem State.scrubAdvance_evolves {b u} (h : Evolves ps s₀ s) (hp : [.memory, .memProtRegs] ⊆ ps) :
    Evolves ps s₀ (s.scrubAdvance b u) := by
  unfold State.scrubAdvance
  repeat' first
    | with_reducible assumption
    | exact List.Subset.trans (by decide) hp
    | exact Nat.le_of_ble_eq_true rfl
    | exact Field.ix_lt _ _
    | with_reducible apply regPart_memProt
    | intro _ _ _
    | intro _ _
    | intro _
    | with_reducible apply Evolves.ite
    | with_reducible apply State.setFld_evolves
    | with_reducible apply State.bump_evolves
    | with_reducible apply Evolves.when
    | with_reducible apply Evolves.memory

theorem State.scrubTimed_evolves (h : Evolves ps s₀ s) (hp : [.memory] ⊆ ps) :
    Evolves ps s₀ (s.scrubTimed) := by
  unfold State.scrubTimed
  repeat' first
    | with_reducible assumption
    | exact List.Subset.trans (by decide) hp
    | intro _ _ _
    | intro _ _
    | intro _
    | with_reducible apply Evolves.ite
    | split
    | dsimp only
    | with_reducible apply Evolves.memory

theorem State.rebuildDone_evolves {p} (h : Evolves ps s₀ s) (hp : [.mem, .fuse, .link, .counters, .attic, .memory,
    .pantry, .systemRegs, .memProtRegs, .pantryRegs] ⊆ ps) :
    Evolves ps s₀ (s.rebuildDone p) := by
  unfold State.rebuildDone
  repeat' first
    | with_reducible assumption
    | exact List.Subset.trans (by decide) hp
    | exact Nat.le_of_ble_eq_true rfl
    | exact Field.ix_lt _ _
    | exact Field.lt _
    | with_reducible apply regPart_memProt
    | intro _ _ _
    | intro _ _
    | intro _
    | with_reducible apply Evolves.ite
    | with_reducible apply State.censusDrain_evolves
    | with_reducible apply State.countEvent_evolves
    | with_reducible apply Evolves.each
    | with_reducible apply State.bump_evolves
    | split
    | dsimp only
    | with_reducible apply Evolves.memory

theorem State.lastErr_evolves {v} (h : Evolves ps s₀ s) (hp : [.memProtRegs] ⊆ ps) :
    Evolves ps s₀ (s.lastErr v) := by
  unfold State.lastErr
  repeat' first
    | with_reducible assumption
    | exact List.Subset.trans (by decide) hp
    | exact Nat.le_of_ble_eq_true rfl
    | exact Field.ix_lt _ _
    | with_reducible apply regPart_memProt
    | with_reducible apply State.setFld_evolves

theorem State.setRetiring_evolves {r} (h : Evolves ps s₀ s) (hp : [.memory, .memProtRegs] ⊆ ps) :
    Evolves ps s₀ (s.setRetiring r) := by
  unfold State.setRetiring
  repeat' first
    | with_reducible assumption
    | exact List.Subset.trans (by decide) hp
    | exact Nat.le_of_ble_eq_true rfl
    | exact Field.ix_lt _ _
    | with_reducible apply regPart_memProt
    | with_reducible apply State.setFlag_evolves
    | with_reducible apply Evolves.memory

theorem State.refreshSpares_evolves (h : Evolves ps s₀ s) (hp : [.memProtRegs] ⊆ ps) :
    Evolves ps s₀ (s.refreshSpares) := by
  unfold State.refreshSpares
  repeat' first
    | with_reducible assumption
    | exact List.Subset.trans (by decide) hp
    | exact Nat.le_of_ble_eq_true rfl
    | exact Field.ix_lt _ _
    | with_reducible apply regPart_memProt
    | with_reducible apply State.setFld_evolves

theorem State.retirePage_evolves {page} (h : Evolves ps s₀ s) (hp : [.memory, .memProtRegs] ⊆ ps) :
    Evolves ps s₀ (s.retirePage page) := by
  unfold State.retirePage
  repeat' first
    | with_reducible assumption
    | exact List.Subset.trans (by decide) hp
    | exact Nat.le_of_ble_eq_true rfl
    | exact Field.ix_lt _ _
    | with_reducible apply regPart_memProt
    | with_reducible apply State.setFld_evolves
    | with_reducible apply State.setFlag_evolves
    | with_reducible apply State.refreshSpares_evolves
    | with_reducible apply State.setRetiring_evolves
    | split

theorem State.retireNote_evolves {spare detail} (h : Evolves ps s₀ s) (hp : [.fuse, .link, .counters, .attic,
    .systemRegs] ⊆ ps) :
    Evolves ps s₀ (s.retireNote spare detail) := by
  unfold State.retireNote
  repeat' first
    | with_reducible assumption
    | exact List.Subset.trans (by decide) hp
    | with_reducible apply Evolves.ite
    | with_reducible apply State.raise_evolves
    | with_reducible apply State.atticEvent_evolves
    | with_reducible apply Evolves.attic

theorem State.copyFound_evolves {base found} (h : Evolves ps s₀ s) (hp : [.free, .mem, .fuse, .power, .link, .counters,
    .attic, .memory, .rooms, .test, .systemRegs, .powerRegs, .memProtRegs, .testRegs, .pantryRegs] ⊆ ps) :
    Evolves ps s₀ (s.copyFound base found) := by
  unfold State.copyFound
  repeat' first
    | with_reducible assumption
    | exact List.Subset.trans (by decide) hp
    | intro _ _ _
    | intro _ _
    | intro _
    | with_reducible apply State.readFound_evolves
    | with_reducible apply Evolves.each

theorem State.pageRetired_evolves {k page old} (h : Evolves ps s₀ s) (hp : [.mem, .fuse, .link, .counters, .attic,
    .tamid, .memory, .systemRegs, .memProtRegs, .tamidRegs, .keyRegs] ⊆ ps) :
    Evolves ps s₀ (s.pageRetired k page old) := by
  unfold State.pageRetired
  repeat' first
    | with_reducible assumption
    | exact List.Subset.trans (by decide) hp
    | exact Nat.le_of_ble_eq_true rfl
    | exact Field.ix_lt _ _
    | with_reducible apply regPart_key
    | with_reducible apply regPart_tamid
    | with_reducible apply regPart_system
    | with_reducible apply regPart_memProt
    | intro _ _ _
    | intro _ _
    | intro _
    | with_reducible apply State.setBytes_evolves
    | with_reducible apply State.wipe_evolves
    | with_reducible apply State.setFlag_evolves
    | with_reducible apply State.retireNote_evolves
    | with_reducible apply State.refreshSpares_evolves
    | with_reducible apply State.setRetiring_evolves
    | with_reducible apply State.complete_evolves
    | with_reducible apply State.raise_evolves
    | with_reducible apply Evolves.when
    | split
    | dsimp only
    | with_reducible apply Evolves.attic

theorem State.bankRetire_evolves {b init} (h : Evolves ps s₀ s) (hp : [.memory, .memProtRegs] ⊆ ps) :
    Evolves ps s₀ (s.bankRetire b init) := by
  unfold State.bankRetire
  repeat' first
    | with_reducible assumption
    | exact List.Subset.trans (by decide) hp
    | exact Nat.le_of_ble_eq_true rfl
    | exact Field.ix_lt _ _
    | with_reducible apply regPart_memProt
    | with_reducible apply Evolves.ite
    | with_reducible apply State.lastErr_evolves
    | with_reducible apply State.setFlag_evolves
    | with_reducible apply State.setRetiring_evolves
    | split

theorem State.bankInit_evolves {b} (h : Evolves ps s₀ s) (hp : [.memory, .memProtRegs] ⊆ ps) :
    Evolves ps s₀ (s.bankInit b) := by
  unfold State.bankInit
  repeat' first
    | with_reducible assumption
    | exact List.Subset.trans (by decide) hp
    | with_reducible apply Evolves.ite
    | with_reducible apply State.lastErr_evolves
    | with_reducible apply Evolves.memory

theorem State.bankOp_evolves {b retire init} (h : Evolves ps s₀ s) (hp : [.memory, .memProtRegs] ⊆ ps) :
    Evolves ps s₀ (s.bankOp b retire init) := by
  unfold State.bankOp
  repeat' first
    | with_reducible assumption
    | exact List.Subset.trans (by decide) hp
    | exact Nat.le_of_ble_eq_true rfl
    | exact Field.ix_lt _ _
    | with_reducible apply regPart_memProt
    | with_reducible apply Evolves.ite
    | with_reducible apply State.setFld_evolves
    | with_reducible apply State.bankRetire_evolves
    | with_reducible apply State.bankInit_evolves

theorem State.bankRetired_evolves {b} (h : Evolves ps s₀ s) (hp : [.mem, .fuse, .link, .counters, .attic, .memory,
    .systemRegs, .memProtRegs, .pantryRegs] ⊆ ps) :
    Evolves ps s₀ (s.bankRetired b) := by
  unfold State.bankRetired
  repeat' first
    | with_reducible assumption
    | exact List.Subset.trans (by decide) hp
    | exact Nat.le_of_ble_eq_true rfl
    | exact Field.ix_lt _ _
    | with_reducible apply regPart_memProt
    | with_reducible apply regPart_system
    | with_reducible apply regPart_pantry
    | intro _ _ _
    | intro _ _
    | intro _
    | with_reducible apply Evolves.ite
    | with_reducible apply State.setFld_evolves
    | with_reducible apply State.setFlag_evolves
    | with_reducible apply State.setRetiring_evolves
    | with_reducible apply State.tableStale_evolves
    | with_reducible apply State.setRetLost_evolves
    | with_reducible apply State.wipeBank_evolves
    | with_reducible apply State.retireNote_evolves
    | with_reducible apply State.raise_evolves
    | with_reducible apply Evolves.when
    | with_reducible apply Evolves.attic

theorem State.eccClear_evolves {m} (h : Evolves ps s₀ s) (hp : [.memory, .memProtRegs] ⊆ ps) :
    Evolves ps s₀ (s.eccClear m) := by
  unfold State.eccClear
  repeat' first
    | with_reducible assumption
    | exact List.Subset.trans (by decide) hp
    | exact Nat.le_of_ble_eq_true rfl
    | exact Field.ix_lt _ _
    | with_reducible apply regPart_memProt
    | with_reducible apply State.setEccLog_evolves
    | with_reducible apply State.setFld_evolves

theorem State.pantryFreeze_evolves {n on} (h : Evolves ps s₀ s) (hp : [.pantryRegs] ⊆ ps) :
    Evolves ps s₀ (s.pantryFreeze n on) := by
  unfold State.pantryFreeze
  repeat' first
    | with_reducible assumption
    | exact List.Subset.trans (by decide) hp
    | exact Nat.le_of_ble_eq_true rfl
    | exact Field.ix_lt _ _
    | with_reducible apply regPart_pantry
    | with_reducible apply State.setFlag_evolves

theorem State.pantryClear_evolves {n} (h : Evolves ps s₀ s) (hp : [.pantry, .pantryRegs] ⊆ ps) :
    Evolves ps s₀ (s.pantryClear n) := by
  unfold State.pantryClear
  repeat' first
    | with_reducible assumption
    | exact List.Subset.trans (by decide) hp
    | exact Nat.le_of_ble_eq_true rfl
    | exact Field.ix_lt _ _
    | with_reducible apply regPart_pantry
    | with_reducible apply Evolves.ite
    | with_reducible apply State.setFlag_evolves
    | with_reducible apply Evolves.pantry

theorem State.pantryWipe_evolves {n} (h : Evolves ps s₀ s) (hp : [.mem, .pantry, .memProtRegs, .pantryRegs] ⊆ ps) :
    Evolves ps s₀ (s.pantryWipe n) := by
  unfold State.pantryWipe
  repeat' first
    | with_reducible assumption
    | exact List.Subset.trans (by decide) hp
    | exact Nat.le_of_ble_eq_true rfl
    | exact Field.ix_lt _ _
    | exact Field.lt _
    | with_reducible apply regPart_pantry
    | intro _ _ _
    | intro _ _
    | intro _
    | with_reducible apply Evolves.ite
    | with_reducible apply State.setRetLost_evolves
    | with_reducible apply State.wipe_evolves
    | with_reducible apply State.modPantry_evolves
    | with_reducible apply Evolves.each
    | with_reducible apply State.setFlag_evolves
    | with_reducible apply State.setFld_evolves
    | split
    | dsimp only

theorem State.pantryClearSettle_evolves (h : Evolves ps s₀ s) (hp : [.link, .tamid, .systemRegs, .tamidRegs, .keyRegs]
    ⊆ ps) :
    Evolves ps s₀ (s.pantryClearSettle) := by
  unfold State.pantryClearSettle
  repeat' first
    | with_reducible assumption
    | exact List.Subset.trans (by decide) hp
    | with_reducible apply Evolves.ite
    | with_reducible apply State.complete_evolves
    | split

theorem State.derive_evolves {n} (h : Evolves ps s₀ s) (hp : [.pantry, .pantryRegs] ⊆ ps) :
    Evolves ps s₀ (s.derive n) := by
  unfold State.derive
  repeat' first
    | with_reducible assumption
    | exact List.Subset.trans (by decide) hp
    | with_reducible apply Evolves.ite
    | with_reducible apply State.pantryClear_evolves
    | with_reducible apply State.modPantry_evolves

theorem State.writeBank_evolves {n} {r} {t} (h : Evolves ps s₀ s) (hr : r.InBlock) (hp : [.lineRegs] ⊆ ps) :
    Evolves ps s₀ (s.writeBank n r t) := by
  unfold State.writeBank
  repeat' first
    | with_reducible assumption
    | exact List.Subset.trans (by decide) hp
    | exact nlcRegs_inBlock
    | exact pdRegs_inBlock
    | exact hr _ (by simp)
    | intro _ _ _
    | intro _ _
    | intro _
    | with_reducible apply Evolves.ite
    | with_reducible apply State.bankWrite_evolves
    | with_reducible apply Evolves.each
    | split
    | dsimp only

theorem State.nlcStage_evolves {n} (h : Evolves ps s₀ s) (hp : [.pantry, .lineRegs] ⊆ ps) :
    Evolves ps s₀ (s.nlcStage n) := by
  unfold State.nlcStage
  repeat' first
    | with_reducible assumption
    | exact List.Subset.trans (by decide) hp
    | exact nlcRegs_inBlock
    | exact pdRegs_inBlock
    | intro _ _ _
    | intro _ _
    | intro _
    | with_reducible apply Evolves.ite
    | with_reducible apply State.writeBank_evolves
    | with_reducible apply State.modPantry_evolves
    | split
    | dsimp only

theorem State.pdStage_evolves {n} {due} (h : Evolves ps s₀ s) (hp : [.pantry, .lineRegs] ⊆ ps) :
    Evolves ps s₀ (s.pdStage n due) := by
  unfold State.pdStage
  repeat' first
    | with_reducible assumption
    | exact List.Subset.trans (by decide) hp
    | exact nlcRegs_inBlock
    | exact pdRegs_inBlock
    | intro _ _ _
    | intro _ _
    | intro _
    | with_reducible apply Evolves.ite
    | with_reducible apply State.writeBank_evolves
    | with_reducible apply State.modPantry_evolves
    | split
    | dsimp only

theorem State.sendProposal_evolves {n} {seq} (h : Evolves ps s₀ s) (hp : [.tamid, .tamidRegs] ⊆ ps) :
    Evolves ps s₀ (s.sendProposal n seq) := by
  unfold State.sendProposal
  repeat' first
    | with_reducible assumption
    | exact List.Subset.trans (by decide) hp
    | intro _ _ _
    | intro _ _
    | intro _
    | with_reducible apply Evolves.ite
    | with_reducible apply State.pantrySend_evolves
    | with_reducible apply Evolves.each
    | split
    | dsimp only

theorem State.takeMessage_evolves {n kind} (h : Evolves ps s₀ s) (hp : [.tamid] ⊆ ps) :
    ∀ {y z}, s.takeMessage n kind = some (y, z) → Evolves ps s₀ z := by
  intro a t e
  unfold State.takeMessage at e
  split at e
  · split at e
    · cases e; exact State.modTamid_evolves h hp fun k => k
    · cases e
  · cases e

end Sys2Proof.Machine
end

