-- ==== Sys2Proof/Laws/Units.lean ====
section
/-! SUPPORT. What each operation can do (`Evolves`): the chains, the receivers, the clocks, the counters and the Fuse Box. -/

namespace Sys2Proof.Machine

variable {ps : List Part} {s₀ s : State}

theorem State.nlcHostSwap_evolves {n} (h : Evolves ps s₀ s) (hp : [.line, .tamid, .pantry, .lineRegs, .tamidRegs,
    .pantryRegs] ⊆ ps) :
    Evolves ps s₀ (s.nlcHostSwap n) := by
  unfold State.nlcHostSwap
  repeat' first
    | with_reducible assumption
    | exact List.Subset.trans (by decide) hp
    | exact nlcRegs_inBlock
    | exact pdRegs_inBlock
    | with_reducible apply State.fadeRequest_evolves

theorem State.nlcEngineSwap_evolves {n} (h : Evolves ps s₀ s) (hp : [.line, .tamid, .pantry, .lineRegs, .tamidRegs,
    .pantryRegs] ⊆ ps) :
    Evolves ps s₀ (s.nlcEngineSwap n) := by
  unfold State.nlcEngineSwap
  repeat' first
    | with_reducible assumption
    | exact List.Subset.trans (by decide) hp
    | intro _ _ _
    | intro _ _
    | intro _
    | with_reducible apply Evolves.ite
    | with_reducible apply State.nlcHostSwap_evolves
    | with_reducible apply State.modPantry_evolves
    | split
    | dsimp only

theorem State.nlcSwap_evolves {n} {back} (h : Evolves ps s₀ s) (hp : [.line, .tamid, .pantry, .lineRegs, .tamidRegs,
    .pantryRegs] ⊆ ps) :
    Evolves ps s₀ (s.nlcSwap n back) := by
  unfold State.nlcSwap
  repeat' first
    | with_reducible assumption
    | exact List.Subset.trans (by decide) hp
    | intro _ _ _
    | intro _ _
    | intro _
    | with_reducible apply Evolves.ite
    | with_reducible apply State.nlcEngineSwap_evolves
    | with_reducible apply State.modPantry_evolves
    | split
    | dsimp only

theorem State.nlcBeaten_evolves {n} (h : Evolves ps s₀ s) (hp : [.line, .tamid, .pantry, .lineRegs, .tamidRegs,
    .pantryRegs] ⊆ ps) :
    Evolves ps s₀ (s.nlcBeaten n) := by
  unfold State.nlcBeaten
  repeat' first
    | with_reducible assumption
    | exact List.Subset.trans (by decide) hp
    | exact Nat.le_of_ble_eq_true rfl
    | exact Field.ix_lt _ _
    | exact Field.lt _
    | with_reducible apply regPart_line
    | intro _ _ _
    | intro _ _
    | intro _
    | with_reducible apply Evolves.ite
    | with_reducible apply State.nlcHostSwap_evolves
    | with_reducible apply State.modPantry_evolves
    | with_reducible apply State.bump_evolves
    | split
    | dsimp only

theorem State.nlcRequest_evolves {n} {hostSwap} (h : Evolves ps s₀ s) (hp : [.line, .tamid, .pantry, .lineRegs,
    .tamidRegs, .pantryRegs] ⊆ ps) :
    Evolves ps s₀ (s.nlcRequest n hostSwap) := by
  unfold State.nlcRequest
  repeat' first
    | with_reducible assumption
    | exact List.Subset.trans (by decide) hp
    | intro _ _ _
    | intro _ _
    | intro _
    | with_reducible apply Evolves.ite
    | with_reducible apply State.nlcStage_evolves
    | with_reducible apply State.nlcBeaten_evolves
    | with_reducible apply State.nlcSwap_evolves
    | with_reducible apply State.nlcHostSwap_evolves
    | with_reducible apply Evolves.when
    | split
    | dsimp only

theorem State.nlcInstall_evolves {n} {hostSwap} (h : Evolves ps s₀ s) (hp : [.line, .tamid, .pantry, .lineRegs,
    .tamidRegs, .pantryRegs] ⊆ ps) :
    Evolves ps s₀ (s.nlcInstall n hostSwap) := by
  unfold State.nlcInstall
  repeat' first
    | with_reducible assumption
    | exact List.Subset.trans (by decide) hp
    | intro _ _ _
    | intro _ _
    | intro _
    | with_reducible apply Evolves.ite
    | with_reducible apply State.nlcRequest_evolves
    | with_reducible apply State.nlcStage_evolves
    | with_reducible apply State.nlcBeaten_evolves
    | with_reducible apply State.nlcSwap_evolves
    | with_reducible apply State.nlcHostSwap_evolves
    | with_reducible apply Evolves.when
    | split
    | dsimp only

theorem State.modChain_evolves {j f} (h : Evolves ps s₀ s) (hp : [.chain] ⊆ ps) :
    Evolves ps s₀ (s.modChain j f) := by
  unfold State.modChain
  repeat' first
    | with_reducible assumption
    | exact List.Subset.trans (by decide) hp
    | with_reducible apply Evolves.chain

theorem State.refreshDelay_evolves {j} (h : Evolves ps s₀ s) (hp : [.chainRegs] ⊆ ps) :
    Evolves ps s₀ (s.refreshDelay j) := by
  unfold State.refreshDelay
  repeat' first
    | with_reducible assumption
    | exact List.Subset.trans (by decide) hp
    | exact Nat.le_of_ble_eq_true rfl
    | exact Field.ix_lt _ _
    | with_reducible apply regPart_mc
    | with_reducible apply regPart_chainCtl
    | with_reducible apply State.setFld_evolves

theorem State.newOrigin_evolves {j} (h : Evolves ps s₀ s) (hp : [.chain] ⊆ ps) :
    Evolves ps s₀ (s.newOrigin j) := by
  unfold State.newOrigin
  repeat' first
    | with_reducible assumption
    | exact List.Subset.trans (by decide) hp
    | intro _ _ _
    | intro _ _
    | intro _
    | with_reducible apply Evolves.ite
    | with_reducible apply State.modChain_evolves
    | split
    | dsimp only

theorem State.setFallback_evolves {j on} (h : Evolves ps s₀ s) (hp : [.chainRegs] ⊆ ps) :
    Evolves ps s₀ (s.setFallback j on) := by
  unfold State.setFallback
  repeat' first
    | with_reducible assumption
    | exact List.Subset.trans (by decide) hp
    | exact Nat.le_of_ble_eq_true rfl
    | exact Field.ix_lt _ _
    | with_reducible apply regPart_mc
    | with_reducible apply regPart_chainCtl
    | with_reducible apply State.setFlag_evolves

theorem State.toFallback_evolves {j} (h : Evolves ps s₀ s) (hp : [.chain, .chainRegs] ⊆ ps) :
    Evolves ps s₀ (s.toFallback j) := by
  unfold State.toFallback
  repeat' first
    | with_reducible assumption
    | exact List.Subset.trans (by decide) hp
    | with_reducible apply State.refreshDelay_evolves
    | with_reducible apply State.newOrigin_evolves
    | with_reducible apply State.setFallback_evolves

theorem State.chainStart_evolves {j} (h : Evolves ps s₀ s) (hp : [.chain, .chainRegs] ⊆ ps) :
    Evolves ps s₀ (s.chainStart j) := by
  unfold State.chainStart
  repeat' first
    | with_reducible assumption
    | exact List.Subset.trans (by decide) hp
    | exact Nat.le_of_ble_eq_true rfl
    | exact Field.ix_lt _ _
    | with_reducible apply regPart_mc
    | with_reducible apply regPart_chainCtl
    | with_reducible apply Evolves.ite
    | with_reducible apply State.setFallback_evolves
    | with_reducible apply State.refreshDelay_evolves
    | with_reducible apply State.newOrigin_evolves
    | with_reducible apply State.setFlag_evolves

theorem State.chainStop_evolves {j} (h : Evolves ps s₀ s) (hp : [.chainRegs] ⊆ ps) :
    Evolves ps s₀ (s.chainStop j) := by
  unfold State.chainStop
  repeat' first
    | with_reducible assumption
    | exact List.Subset.trans (by decide) hp
    | exact Nat.le_of_ble_eq_true rfl
    | exact Field.ix_lt _ _
    | with_reducible apply regPart_mc
    | with_reducible apply regPart_chainCtl
    | with_reducible apply Evolves.ite
    | with_reducible apply State.setFlag_evolves
    | with_reducible apply State.setFld_evolves

theorem State.chainOff_evolves {j} (h : Evolves ps s₀ s) (hp : [.chain, .chainRegs] ⊆ ps) :
    Evolves ps s₀ (s.chainOff j) := by
  unfold State.chainOff
  repeat' first
    | with_reducible assumption
    | exact List.Subset.trans (by decide) hp
    | with_reducible apply Evolves.ite
    | with_reducible apply State.modChain_evolves
    | with_reducible apply State.chainStop_evolves

theorem State.chainReady_evolves {j} (h : Evolves ps s₀ s) (hp : [.chain, .chainRegs] ⊆ ps) :
    Evolves ps s₀ (s.chainReady j) := by
  unfold State.chainReady
  repeat' first
    | with_reducible assumption
    | exact List.Subset.trans (by decide) hp
    | with_reducible apply Evolves.ite
    | with_reducible apply State.chainStart_evolves
    | with_reducible apply State.modChain_evolves

theorem State.chainSync_evolves {j} (h : Evolves ps s₀ s) (hp : [.chain, .chainRegs] ⊆ ps) :
    Evolves ps s₀ (s.chainSync j) := by
  unfold State.chainSync
  repeat' first
    | with_reducible assumption
    | exact List.Subset.trans (by decide) hp
    | exact Nat.le_of_ble_eq_true rfl
    | exact Field.ix_lt _ _
    | with_reducible apply regPart_mc
    | with_reducible apply regPart_chainCtl
    | with_reducible apply Evolves.ite
    | with_reducible apply State.refreshDelay_evolves
    | with_reducible apply State.setFlag_evolves
    | with_reducible apply State.setFld_evolves
    | with_reducible apply State.newOrigin_evolves
    | with_reducible apply State.chainStart_evolves

theorem State.loadDefault_evolves {j minPhase} (h : Evolves ps s₀ s) (hp : [.chainRegs] ⊆ ps) :
    Evolves ps s₀ (s.loadDefault j minPhase) := by
  unfold State.loadDefault
  repeat' first
    | with_reducible assumption
    | exact List.Subset.trans (by decide) hp
    | exact Nat.le_of_ble_eq_true rfl
    | exact Field.ix_lt _ _
    | with_reducible apply regPart_mc
    | with_reducible apply regPart_chainCtl
    | intro _ _ _
    | intro _ _
    | intro _
    | with_reducible apply State.setFlag_evolves
    | with_reducible apply State.setFld_evolves
    | with_reducible apply Evolves.each

theorem State.chainReload_evolves {j minPhase} (h : Evolves ps s₀ s) (hp : [.chain, .chainRegs] ⊆ ps) :
    Evolves ps s₀ (s.chainReload j minPhase) := by
  unfold State.chainReload
  repeat' first
    | with_reducible assumption
    | exact List.Subset.trans (by decide) hp
    | with_reducible apply Evolves.ite
    | with_reducible apply State.loadDefault_evolves
    | with_reducible apply State.chainStop_evolves
    | with_reducible apply State.chainStart_evolves

theorem State.mcReject_evolves {j} (h : Evolves ps s₀ s) (hp : [.chainRegs] ⊆ ps) :
    Evolves ps s₀ (s.mcReject j) := by
  unfold State.mcReject
  repeat' first
    | with_reducible assumption
    | exact List.Subset.trans (by decide) hp
    | exact Nat.le_of_ble_eq_true rfl
    | exact Field.ix_lt _ _
    | with_reducible apply regPart_mc
    | with_reducible apply regPart_chainCtl
    | with_reducible apply State.bump_evolves

theorem State.mcStart_evolves {j} (h : Evolves ps s₀ s) (hp : [.chain, .chainRegs] ⊆ ps) :
    Evolves ps s₀ (s.mcStart j) := by
  unfold State.mcStart
  repeat' first
    | with_reducible assumption
    | exact List.Subset.trans (by decide) hp
    | with_reducible apply Evolves.ite
    | with_reducible apply State.mcReject_evolves
    | with_reducible apply State.chainStart_evolves

theorem State.mcStop_evolves {j} (h : Evolves ps s₀ s) (hp : [.chainRegs] ⊆ ps) :
    Evolves ps s₀ (s.mcStop j) := by
  unfold State.mcStop
  repeat' first
    | with_reducible assumption
    | exact List.Subset.trans (by decide) hp
    | with_reducible apply Evolves.ite
    | with_reducible apply State.mcReject_evolves
    | with_reducible apply State.chainStop_evolves

theorem State.mcFlip_evolves {j} (h : Evolves ps s₀ s) (hp : [.chainRegs] ⊆ ps) :
    Evolves ps s₀ (s.mcFlip j) := by
  unfold State.mcFlip
  repeat' first
    | with_reducible assumption
    | exact List.Subset.trans (by decide) hp
    | exact Nat.le_of_ble_eq_true rfl
    | exact Field.ix_lt _ _
    | with_reducible apply regPart_mc
    | with_reducible apply regPart_chainCtl
    | with_reducible apply State.refreshDelay_evolves
    | with_reducible apply State.setFlag_evolves
    | with_reducible apply State.setFld_evolves

theorem State.mcSwap_evolves {j} (h : Evolves ps s₀ s) (hp : [.chain, .chainRegs] ⊆ ps) :
    Evolves ps s₀ (s.mcSwap j) := by
  unfold State.mcSwap
  repeat' first
    | with_reducible assumption
    | exact List.Subset.trans (by decide) hp
    | exact Nat.le_of_ble_eq_true rfl
    | exact Field.ix_lt _ _
    | exact Field.lt _
    | with_reducible apply regPart_mc
    | intro _ _ _
    | intro _ _
    | intro _
    | with_reducible apply Evolves.ite
    | with_reducible apply State.mcFlip_evolves
    | with_reducible apply State.mcReject_evolves
    | with_reducible apply State.modChain_evolves
    | with_reducible apply State.bump_evolves
    | with_reducible apply State.setFlag_evolves
    | split
    | dsimp only

theorem State.mcWrite_evolves {j offset value} (h : Evolves ps s₀ s) (hp : [.chainRegs] ⊆ ps) :
    Evolves ps s₀ (s.mcWrite j offset value) := by
  unfold State.mcWrite
  dsimp only
  split
  · exact State.mcReject_evolves h hp
  · split
    · rename_i e
      exact State.setReg_evolves h (regPart_mc (e ▸ Nat.le_of_ble_eq_true rfl) hp)
    · split
      · rename_i e
        exact State.setFlag_evolves (State.setReg_evolves h (regPart_mc (by omega) hp)) (regPart_mc (by decide) hp)
      · exact h

theorem State.mcForce_evolves {j on} (h : Evolves ps s₀ s) (hp : [.chain, .chainRegs] ⊆ ps) :
    Evolves ps s₀ (s.mcForce j on) := by
  unfold State.mcForce
  repeat' first
    | with_reducible assumption
    | exact List.Subset.trans (by decide) hp
    | exact Nat.le_of_ble_eq_true rfl
    | exact Field.ix_lt _ _
    | with_reducible apply regPart_mc
    | with_reducible apply regPart_chainCtl
    | with_reducible apply Evolves.ite
    | with_reducible apply State.mcReject_evolves
    | with_reducible apply State.setFlag_evolves
    | with_reducible apply State.toFallback_evolves

theorem State.mcDetect_evolves {j x} (h : Evolves ps s₀ s) (hp : [.chain, .chainRegs] ⊆ ps) :
    Evolves ps s₀ (s.mcDetect j x) := by
  unfold State.mcDetect
  repeat' first
    | with_reducible assumption
    | exact List.Subset.trans (by decide) hp
    | exact Nat.le_of_ble_eq_true rfl
    | exact Field.ix_lt _ _
    | with_reducible apply regPart_mc
    | with_reducible apply regPart_chainCtl
    | with_reducible apply Evolves.ite
    | with_reducible apply State.setFld_evolves
    | with_reducible apply State.modChain_evolves

theorem State.mcPublish_evolves {j} {value} (h : Evolves ps s₀ s) (hp : [.chain, .chainRegs] ⊆ ps) :
    Evolves ps s₀ (s.mcPublish j value) := by
  unfold State.mcPublish
  repeat' first
    | with_reducible assumption
    | exact List.Subset.trans (by decide) hp
    | exact Nat.le_of_ble_eq_true rfl
    | exact Field.ix_lt _ _
    | exact Field.lt _
    | with_reducible apply regPart_mc
    | intro _ _ _
    | intro _ _
    | intro _
    | with_reducible apply Evolves.ite
    | with_reducible apply State.mcDetect_evolves
    | with_reducible apply State.modChain_evolves
    | with_reducible apply State.bumpMod_evolves
    | with_reducible apply State.setFlag_evolves
    | with_reducible apply State.setFld_evolves
    | split
    | dsimp only

theorem State.frameLost_evolves {n} (h : Evolves ps s₀ s) (hp : [.line, .host, .fuse, .link, .counters, .attic,
    .systemRegs, .lineRegs, .hostRegs] ⊆ ps) :
    Evolves ps s₀ (s.frameLost n) := by
  unfold State.frameLost
  repeat' first
    | with_reducible assumption
    | exact List.Subset.trans (by decide) hp
    | intro _ _ _
    | intro _ _
    | intro _
    | with_reducible apply Evolves.ite
    | with_reducible apply State.frameDown_evolves
    | with_reducible apply State.refreshFill_evolves
    | split
    | dsimp only

theorem State.setMon_evolves {m mon c} (h : Evolves ps s₀ s) (hp : [.host] ⊆ ps) :
    Evolves ps s₀ (s.setMon m mon c) := by
  unfold State.setMon
  repeat' first
    | with_reducible assumption
    | exact List.Subset.trans (by decide) hp
    | with_reducible apply State.modHost_evolves

theorem State.terminateBoundary_evolves {m mon} (h : Evolves ps s₀ s) (hp : [.host] ⊆ ps) :
    Evolves ps s₀ (s.terminateBoundary m mon) := by
  unfold State.terminateBoundary
  repeat' first
    | with_reducible assumption
    | exact List.Subset.trans (by decide) hp
    | with_reducible apply State.modHost_evolves

theorem State.raiseUncorr_evolves {m mon} (h : Evolves ps s₀ s) (hp : [.host, .fuse, .link, .counters, .attic, .limits,
    .systemRegs] ⊆ ps) :
    Evolves ps s₀ (s.raiseUncorr m mon) := by
  unfold State.raiseUncorr
  repeat' first
    | with_reducible assumption
    | exact List.Subset.trans (by decide) hp
    | with_reducible apply Evolves.ite
    | with_reducible apply State.setMon_evolves
    | with_reducible apply State.raiseLimited_evolves

theorem State.setForwarded_evolves {m} {mon} {word} (h : Evolves ps s₀ s) (hp : [.host] ⊆ ps) :
    Evolves ps s₀ (s.setForwarded m mon word) := by
  unfold State.setForwarded
  repeat' first
    | with_reducible assumption
    | exact List.Subset.trans (by decide) hp
    | intro _ _ _
    | intro _ _
    | intro _
    | with_reducible apply Evolves.ite
    | with_reducible apply State.modHost_evolves
    | split
    | dsimp only

theorem State.codewordBandwidth_evolves {m} {n} {mon} (h : Evolves ps s₀ s) (hp : [.counters] ⊆ ps) :
    Evolves ps s₀ (s.codewordBandwidth m n mon) := by
  unfold State.codewordBandwidth
  repeat' first
    | with_reducible assumption
    | exact List.Subset.trans (by decide) hp
    | intro _ _ _
    | intro _ _
    | intro _
    | with_reducible apply Evolves.ite
    | with_reducible apply State.bwAdd_evolves
    | split
    | dsimp only

theorem State.pairHold_evolves {m} (h : Evolves ps s₀ s) (hp : [.line] ⊆ ps) :
    Evolves ps s₀ (s.pairHold m) := by
  unfold State.pairHold
  repeat' first
    | with_reducible assumption
    | exact List.Subset.trans (by decide) hp
    | intro _ _ _
    | intro _ _
    | intro _
    | with_reducible apply Evolves.ite
    | with_reducible apply State.modLinkOf_evolves
    | split
    | dsimp only

theorem State.snapMon_evolves {m mon} (h : Evolves ps s₀ s) (hp : [.hostRegs] ⊆ ps) :
    Evolves ps s₀ (s.snapMon m mon) := by
  unfold State.snapMon
  repeat' first
    | with_reducible assumption
    | exact List.Subset.trans (by decide) hp
    | exact Nat.le_of_ble_eq_true rfl
    | exact Field.ix_lt _ _
    | with_reducible apply regPart_two
    | with_reducible apply regPart_host
    | intro _ _ _
    | intro _ _
    | intro _
    | with_reducible apply State.setPair_evolves
    | with_reducible apply State.setFld_evolves
    | with_reducible apply State.bumpMod_evolves
    | with_reducible apply Evolves.each
    | exact (by cases mon <;> exact Nat.le_of_ble_eq_true rfl)

theorem State.snapBlock_evolves {x1} (h : Evolves ps s₀ s) (hp : [.lineRegs, .hostRegs] ⊆ ps) :
    Evolves ps s₀ (s.snapBlock x1) := by
  unfold State.snapBlock
  repeat' first
    | with_reducible assumption
    | exact List.Subset.trans (by decide) hp
    | exact Nat.le_of_ble_eq_true rfl
    | exact Field.ix_lt _ _
    | exact Field.lt _
    | with_reducible apply regPart_two
    | with_reducible apply regPart_host
    | with_reducible apply regPart_line
    | intro _ _ _
    | intro _ _
    | intro _
    | with_reducible apply Evolves.ite
    | with_reducible apply State.snapMon_evolves
    | with_reducible apply State.setPair_evolves
    | with_reducible apply State.bumpMod_evolves
    | split
    | dsimp only

theorem State.clrBlock_evolves {x1} (h : Evolves ps s₀ s) (hp : [.line, .host] ⊆ ps) :
    Evolves ps s₀ (s.clrBlock x1) := by
  unfold State.clrBlock
  repeat' first
    | with_reducible assumption
    | exact List.Subset.trans (by decide) hp
    | intro _ _ _
    | intro _ _
    | intro _
    | with_reducible apply Evolves.ite
    | with_reducible apply State.setMon_evolves
    | with_reducible apply State.modHost_evolves
    | with_reducible apply State.modRx_evolves
    | split
    | dsimp only

theorem State.blockErrors_evolves {b} {arrived} (h : Evolves ps s₀ s) (hp : [.line, .host] ⊆ ps) :
    Evolves ps s₀ (s.blockErrors b arrived) := by
  unfold State.blockErrors
  repeat' first
    | with_reducible assumption
    | exact List.Subset.trans (by decide) hp
    | intro _ _ _
    | intro _ _
    | intro _
    | with_reducible apply Evolves.ite
    | with_reducible apply State.hostPatErrors_evolves
    | with_reducible apply State.linePatErrors_evolves
    | with_reducible apply Evolves.when
    | split
    | dsimp only

theorem State.berValue_evolves {w} (h : Evolves ps s₀ s) (hp : [.free] ⊆ ps) :
    ∀ {y z}, s.berValue w = (y, z) → Evolves ps s₀ z := by
  intro a t e
  unfold State.berValue at e
  split at e
  · cases e; exact State.fresh_evolves h hp rfl
  · cases e; exact h

theorem State.berValue_snd {w} (h : Evolves ps s₀ s) (hp : [.free] ⊆ ps) :
    Evolves ps s₀ (s.berValue w).2 := State.berValue_evolves h hp rfl

theorem State.nlcEnable_evolves {n en} (h : Evolves ps s₀ s) (hp : [.tamid, .pantry, .lineRegs, .tamidRegs,
    .pantryRegs] ⊆ ps) :
    Evolves ps s₀ (s.nlcEnable n en) := by
  unfold State.nlcEnable
  repeat' first
    | with_reducible assumption
    | exact List.Subset.trans (by decide) hp
    | exact Nat.le_of_ble_eq_true rfl
    | exact Field.ix_lt _ _
    | with_reducible apply regPart_line
    | with_reducible apply regPart_pantry
    | with_reducible apply regPart_tamid
    | exact nlcRegs_inBlock
    | exact pdRegs_inBlock
    | with_reducible apply Evolves.ite
    | with_reducible apply State.setFlag_evolves
    | with_reducible apply State.fadeBypass_evolves

theorem State.lineRxPrecode_evolves {n} {on} (h : Evolves ps s₀ s) (hp : [.line, .host, .lanes, .fuse, .link,
    .counters, .attic, .tamid, .systemRegs, .memProtRegs, .lineRegs, .hostRegs, .tamidRegs] ⊆ ps) :
    Evolves ps s₀ (s.lineRxPrecode n on) := by
  unfold State.lineRxPrecode
  repeat' first
    | with_reducible assumption
    | exact List.Subset.trans (by decide) hp
    | exact Nat.le_of_ble_eq_true rfl
    | exact Field.ix_lt _ _
    | exact Field.lt _
    | with_reducible apply regPart_line
    | intro _ _ _
    | intro _ _
    | intro _
    | with_reducible apply Evolves.ite
    | with_reducible apply State.lineReacq_evolves
    | with_reducible apply State.modRx_evolves
    | with_reducible apply State.setFlag_evolves
    | split
    | dsimp only

theorem State.rxFrameBoundary_evolves {n} (h : Evolves ps s₀ s) (hp : [.line, .host, .lanes, .fuse, .link, .counters,
    .attic, .tamid, .systemRegs, .memProtRegs, .lineRegs, .hostRegs, .tamidRegs] ⊆ ps) :
    Evolves ps s₀ (s.rxFrameBoundary n) := by
  unfold State.rxFrameBoundary
  repeat' first
    | with_reducible assumption
    | exact List.Subset.trans (by decide) hp
    | intro _ _ _
    | intro _ _
    | intro _
    | with_reducible apply Evolves.ite
    | with_reducible apply State.lineReacq_evolves
    | with_reducible apply State.modRx_evolves
    | split
    | dsimp only

theorem State.frameFound_evolves {n} (h : Evolves ps s₀ s) (hp : [.line, .host, .fuse, .link, .counters, .attic,
    .pantry, .systemRegs, .lineRegs, .hostRegs] ⊆ ps) :
    Evolves ps s₀ (s.frameFound n) := by
  unfold State.frameFound
  repeat' first
    | with_reducible assumption
    | exact List.Subset.trans (by decide) hp
    | intro _ _ _
    | intro _ _
    | intro _
    | with_reducible apply Evolves.ite
    | with_reducible apply State.lrFollow_evolves
    | with_reducible apply State.refreshFill_evolves
    | with_reducible apply State.setInFrame_evolves
    | with_reducible apply State.modRx_evolves
    | split
    | dsimp only

theorem State.keepAlignment_evolves {n} {f} (h : Evolves ps s₀ s) (hp : [.line] ⊆ ps) :
    Evolves ps s₀ (s.keepAlignment n f) := by
  unfold State.keepAlignment
  repeat' first
    | with_reducible assumption
    | exact List.Subset.trans (by decide) hp
    | intro _ _ _
    | intro _ _
    | intro _
    | with_reducible apply Evolves.ite
    | with_reducible apply State.modRx_evolves
    | split
    | dsimp only

theorem State.searchStart_evolves {n} (h : Evolves ps s₀ s) (hp : [.lineRegs] ⊆ ps) :
    Evolves ps s₀ (s.searchStart n) := by
  unfold State.searchStart
  repeat' first
    | with_reducible assumption
    | exact List.Subset.trans (by decide) hp
    | exact Nat.le_of_ble_eq_true rfl
    | exact Field.ix_lt _ _
    | with_reducible apply regPart_line
    | with_reducible apply State.bump_evolves

theorem State.mlseStart_evolves {n} (h : Evolves ps s₀ s) (hp : [.lineRegs] ⊆ ps) :
    Evolves ps s₀ (s.mlseStart n) := by
  unfold State.mlseStart
  repeat' first
    | with_reducible assumption
    | exact List.Subset.trans (by decide) hp
    | exact Nat.le_of_ble_eq_true rfl
    | exact Field.ix_lt _ _
    | with_reducible apply regPart_line
    | intro _ _ _
    | intro _ _
    | intro _
    | with_reducible apply State.setFld_evolves
    | with_reducible apply Evolves.each

theorem State.ctleTaken_evolves {n} {set} (h : Evolves ps s₀ s) (hp : [.line, .tamid, .lineRegs, .tamidRegs] ⊆ ps) :
    Evolves ps s₀ (s.ctleTaken n set) := by
  unfold State.ctleTaken
  repeat' first
    | with_reducible assumption
    | exact List.Subset.trans (by decide) hp
    | exact Nat.le_of_ble_eq_true rfl
    | exact Field.ix_lt _ _
    | exact Field.lt _
    | with_reducible apply regPart_line
    | intro _ _ _
    | intro _ _
    | intro _
    | with_reducible apply Evolves.ite
    | with_reducible apply State.setAcqState_evolves
    | with_reducible apply State.modRx_evolves
    | with_reducible apply State.setFld_evolves
    | split
    | dsimp only

theorem State.signalCount_evolves {n} (h : Evolves ps s₀ s) (hp : [.line] ⊆ ps) :
    Evolves ps s₀ (s.signalCount n) := by
  unfold State.signalCount
  repeat' first
    | with_reducible assumption
    | exact List.Subset.trans (by decide) hp
    | intro _ _ _
    | intro _ _
    | intro _
    | with_reducible apply Evolves.ite
    | with_reducible apply State.modRx_evolves
    | split
    | dsimp only

theorem State.losEnd_evolves {n} (h : Evolves ps s₀ s) (hp : [.line, .fuse, .lineRegs] ⊆ ps) :
    Evolves ps s₀ (s.losEnd n) := by
  unfold State.losEnd
  repeat' first
    | with_reducible assumption
    | exact List.Subset.trans (by decide) hp
    | exact Nat.le_of_ble_eq_true rfl
    | exact Field.ix_lt _ _
    | with_reducible apply regPart_line
    | with_reducible apply State.signalCount_evolves
    | with_reducible apply State.quiet_evolves
    | with_reducible apply State.setFlag_evolves

theorem State.setPrevOver_evolves {c o} (h : Evolves ps s₀ s) (hp : [.hk] ⊆ ps) :
    Evolves ps s₀ (s.setPrevOver c o) := h.hk hp fun k => k

theorem State.calApply_evolves (h : Evolves ps s₀ s) (hp : [.thermal, .thermRegs] ⊆ ps) :
    Evolves ps s₀ (s.calApply) := by
  unfold State.calApply
  repeat' first
    | with_reducible assumption
    | exact List.Subset.trans (by decide) hp
    | exact Nat.le_of_ble_eq_true rfl
    | exact Field.ix_lt _ _
    | exact Field.lt _
    | with_reducible apply regPart_therm
    | intro _ _ _
    | intro _ _
    | intro _
    | with_reducible apply Evolves.ite
    | with_reducible apply State.setFld_evolves
    | split
    | dsimp only
    | with_reducible apply Evolves.thermal

theorem State.roundTimed_evolves {lp} (h : Evolves ps s₀ s) (hp : [.hk] ⊆ ps) :
    Evolves ps s₀ (s.roundTimed lp) := by
  unfold State.roundTimed
  repeat' first
    | with_reducible assumption
    | exact List.Subset.trans (by decide) hp
    | exact fun k => k
    | exact fun _ => Nat.zero_le _
    | intro _ _ _
    | intro _ _
    | intro _
    | with_reducible apply Evolves.ite
    | split
    | dsimp only
    | with_reducible apply Evolves.hk

theorem State.hkResidual_evolves {mean} {vfs} (h : Evolves ps s₀ s) (hp : [.hk] ⊆ ps) :
    Evolves ps s₀ (s.hkResidual mean vfs) := by
  unfold State.hkResidual
  repeat' first
    | with_reducible assumption
    | exact List.Subset.trans (by decide) hp
    | exact fun k => k
    | exact fun _ => Nat.zero_le _
    | intro _ _ _
    | intro _ _
    | intro _
    | with_reducible apply Evolves.ite
    | split
    | dsimp only
    | with_reducible apply Evolves.hk

theorem State.siteReadings_evolves {mean} (h : Evolves ps s₀ s) (hp : [.thermRegs] ⊆ ps) :
    Evolves ps s₀ (s.siteReadings mean) := by
  unfold State.siteReadings
  repeat' first
    | with_reducible assumption
    | exact List.Subset.trans (by decide) hp
    | exact Nat.le_of_ble_eq_true rfl
    | exact Field.ix_lt _ _
    | with_reducible apply regPart_therm
    | intro _ _ _
    | intro _ _
    | intro _
    | with_reducible apply Evolves.ite
    | with_reducible apply State.setFlag_evolves
    | with_reducible apply State.setFld_evolves
    | with_reducible apply Evolves.each

theorem State.hkAverage_evolves (h : Evolves ps s₀ s) (hp : [.attic] ⊆ ps) :
    Evolves ps s₀ (s.hkAverage) := by
  unfold State.hkAverage
  repeat' first
    | with_reducible assumption
    | exact List.Subset.trans (by decide) hp
    | intro _ _ _
    | intro _ _
    | intro _
    | with_reducible apply Evolves.ite
    | split
    | dsimp only
    | with_reducible apply Evolves.attic

theorem State.vidJudge_evolves {mv} (h : Evolves ps s₀ s) (hp : [.fuse, .link, .counters, .attic, .boot, .limits,
    .systemRegs] ⊆ ps) :
    Evolves ps s₀ (s.vidJudge mv) := by
  unfold State.vidJudge
  repeat' first
    | with_reducible assumption
    | exact List.Subset.trans (by decide) hp
    | with_reducible apply Evolves.ite
    | with_reducible apply State.raiseLimited_evolves
    | with_reducible apply Evolves.boot

theorem State.setTrigQueue_evolves {q} (h : Evolves ps s₀ s) (hp : [.hk, .hkRegs] ⊆ ps)
    (k : s.hk.queue.length ≤ 8 → q.length ≤ 8) : Evolves ps s₀ (s.setTrigQueue q) :=
  State.setFld_evolves (h.hk (List.Subset.trans (by decide) hp) k) (List.Subset.trans (by decide) hp)

theorem State.urgentDrop_evolves {k} (h : Evolves ps s₀ s) (hp : [.fuse, .link, .counters, .attic, .systemRegs,
    .hkRegs] ⊆ ps) :
    Evolves ps s₀ (s.urgentDrop k) := by
  unfold State.urgentDrop
  repeat' first
    | with_reducible assumption
    | exact List.Subset.trans (by decide) hp
    | exact Nat.le_of_ble_eq_true rfl
    | exact Field.ix_lt _ _
    | exact Field.lt _
    | with_reducible apply regPart_hk
    | intro _ _ _
    | intro _ _
    | intro _
    | with_reducible apply Evolves.ite
    | with_reducible apply State.raise_evolves
    | with_reducible apply State.bump_evolves
    | split
    | dsimp only

theorem State.urgentRequest_evolves {k} {instant} (h : Evolves ps s₀ s) (hp : [.fuse, .link, .counters, .attic, .hk,
    .systemRegs, .hkRegs] ⊆ ps) :
    Evolves ps s₀ (s.urgentRequest k instant) := by
  unfold State.urgentRequest
  repeat' first
    | with_reducible assumption
    | exact List.Subset.trans (by decide) hp
    | exact fun k => k
    | exact fun _ => Nat.zero_le _
    | intro _ _ _
    | intro _ _
    | intro _
    | with_reducible apply Evolves.ite
    | with_reducible apply State.urgentDrop_evolves
    | with_reducible apply Evolves.each
    | split
    | dsimp only
    | with_reducible apply Evolves.hk

theorem State.hkRequest_evolves {k base ahead busy} (h : Evolves ps s₀ s) (hp : [.fuse, .link, .counters, .attic, .hk, .systemRegs, .hkRegs] ⊆ ps) :
    Evolves ps s₀ (s.hkRequest k base ahead busy) := by
  unfold State.hkRequest
  split
  · refine Evolves.ite (State.urgentDrop_evolves h ?_) (State.urgentRequest_evolves h ?_)
    all_goals exact List.Subset.trans (by decide) hp
  · split
    · refine State.raise_evolves (State.bump_evolves h ?_) ?_
      all_goals exact List.Subset.trans (by decide) hp
    · rename_i hq
      refine State.setTrigQueue_evolves h (List.Subset.trans (by decide) hp) fun _ => ?_
      simp only [List.length_append, List.length_singleton]; omega

theorem State.loadTimer_evolves {k} (h : Evolves ps s₀ s) (hp : [.hk] ⊆ ps) :
    Evolves ps s₀ (s.loadTimer k) := by
  unfold State.loadTimer
  repeat' first
    | with_reducible assumption
    | exact List.Subset.trans (by decide) hp
    | exact fun k => k
    | exact fun _ => Nat.zero_le _
    | intro _ _ _
    | intro _ _
    | intro _
    | with_reducible apply Evolves.ite
    | split
    | dsimp only
    | with_reducible apply Evolves.hk

theorem State.hkStrobe_evolves {src} {arg} (h : Evolves ps s₀ s) (hp : [.hk] ⊆ ps) :
    Evolves ps s₀ (s.hkStrobe src arg) := by
  unfold State.hkStrobe
  repeat' first
    | with_reducible assumption
    | exact List.Subset.trans (by decide) hp
    | exact fun k => k
    | exact fun _ => Nat.zero_le _
    | intro _ _ _
    | intro _ _
    | intro _
    | with_reducible apply Evolves.ite
    | with_reducible apply Evolves.each
    | split
    | dsimp only
    | with_reducible apply Evolves.hk

theorem State.dropStrobes_evolves {k} (h : Evolves ps s₀ s) (hp : [.hk] ⊆ ps) :
    Evolves ps s₀ (s.dropStrobes k) := by
  unfold State.dropStrobes
  repeat' first
    | with_reducible assumption
    | exact List.Subset.trans (by decide) hp
    | exact fun k => k
    | exact fun _ => Nat.zero_le _
    | intro _ _ _
    | intro _ _
    | intro _
    | with_reducible apply Evolves.ite
    | split
    | dsimp only
    | with_reducible apply Evolves.hk

theorem State.takeRequest_evolves {k} (h : Evolves ps s₀ s) (hp : [.hk, .hkRegs] ⊆ ps) :
    ∀ {y z}, s.takeRequest k = some (y, z) → Evolves ps s₀ z := by
  intro a t e
  unfold State.takeRequest at e
  split at e
  · cases e; exact h.hk (List.Subset.trans (by decide) hp) fun k => k
  · split at e
    · rename_i hq
      split at e
      · cases e
        refine State.setTrigQueue_evolves h hp fun k => ?_
        rw [hq] at k
        exact Nat.le_of_succ_le k
      · cases e
    · cases e

theorem State.hkSync_evolves (h : Evolves ps s₀ s) (hp : [.hk] ⊆ ps) :
    Evolves ps s₀ (s.hkSync) := by
  unfold State.hkSync
  repeat' first
    | with_reducible assumption
    | exact List.Subset.trans (by decide) hp
    | intro _ _ _
    | intro _ _
    | intro _
    | with_reducible apply Evolves.ite
    | with_reducible apply State.hkStrobe_evolves
    | with_reducible apply State.loadTimer_evolves
    | with_reducible apply Evolves.each
    | split
    | dsimp only

theorem State.txVote_evolves {n on} (h : Evolves ps s₀ s) (hp : [.power, .powerRegs] ⊆ ps) :
    Evolves ps s₀ (s.txVote n on) := by
  unfold State.txVote
  repeat' first
    | with_reducible assumption
    | exact List.Subset.trans (by decide) hp
    | with_reducible apply State.putVote_evolves

theorem State.datapathStart_evolves {n} (h : Evolves ps s₀ s) (hp : [.line] ⊆ ps) :
    Evolves ps s₀ (s.datapathStart n) := by
  unfold State.datapathStart
  repeat' first
    | with_reducible assumption
    | exact List.Subset.trans (by decide) hp
    | intro _ _ _
    | intro _ _
    | intro _
    | with_reducible apply Evolves.ite
    | with_reducible apply State.modTx_evolves
    | split
    | dsimp only

theorem State.txStart_evolves {n} (h : Evolves ps s₀ s) (hp : [.line, .memProtRegs, .lineRegs] ⊆ ps) :
    Evolves ps s₀ (s.txStart n) := by
  unfold State.txStart
  repeat' first
    | with_reducible assumption
    | exact List.Subset.trans (by decide) hp
    | intro _ _ _
    | intro _ _
    | intro _
    | with_reducible apply Evolves.ite
    | with_reducible apply State.bankRestored_evolves
    | with_reducible apply State.setTxState_evolves
    | with_reducible apply State.modTx_evolves
    | split
    | dsimp only

theorem State.txFall_evolves {n} (h : Evolves ps s₀ s) (hp : [.line, .fuse, .link, .counters, .attic, .systemRegs,
    .lineRegs] ⊆ ps) :
    Evolves ps s₀ (s.txFall n) := by
  unfold State.txFall
  repeat' first
    | with_reducible assumption
    | exact List.Subset.trans (by decide) hp
    | exact nlcRegs_inBlock
    | exact pdRegs_inBlock
    | intro _ _ _
    | intro _ _
    | intro _
    | with_reducible apply Evolves.ite
    | with_reducible apply State.setTxState_evolves
    | with_reducible apply State.fadeStop_evolves
    | with_reducible apply State.modTx_evolves
    | split
    | dsimp only

theorem State.txDrop_evolves {n} (h : Evolves ps s₀ s) (hp : [.line, .fuse, .link, .counters, .attic, .systemRegs,
    .lineRegs] ⊆ ps) :
    Evolves ps s₀ (s.txDrop n) := by
  unfold State.txDrop
  repeat' first
    | with_reducible assumption
    | exact List.Subset.trans (by decide) hp
    | exact nlcRegs_inBlock
    | exact pdRegs_inBlock
    | intro _ _ _
    | intro _ _
    | intro _
    | with_reducible apply Evolves.ite
    | with_reducible apply State.setTxState_evolves
    | with_reducible apply State.fadeStop_evolves
    | with_reducible apply State.modTx_evolves
    | split
    | dsimp only

theorem State.ledgerSnap_evolves (h : Evolves ps s₀ s) (hp : [.clockRegs] ⊆ ps) :
    Evolves ps s₀ (s.ledgerSnap) := by
  unfold State.ledgerSnap
  repeat' first
    | with_reducible assumption
    | exact List.Subset.trans (by decide) hp
    | exact Nat.le_of_ble_eq_true rfl
    | exact Field.ix_lt _ _
    | with_reducible apply regPart_clock
    | intro _ _ _
    | intro _ _
    | intro _
    | with_reducible apply State.setReg_evolves
    | with_reducible apply Evolves.each

theorem State.syncEvent_evolves {fine} {explicit} (h : Evolves ps s₀ s) (hp : [.clock, .hk, .chain, .clockRegs,
    .chainRegs] ⊆ ps) :
    Evolves ps s₀ (s.syncEvent fine explicit) := by
  unfold State.syncEvent
  repeat' first
    | with_reducible assumption
    | exact List.Subset.trans (by decide) hp
    | exact Nat.le_of_ble_eq_true rfl
    | exact Field.ix_lt _ _
    | exact Field.lt _
    | with_reducible apply regPart_two
    | with_reducible apply regPart_clock
    | intro _ _ _
    | intro _ _
    | intro _
    | with_reducible apply Evolves.ite
    | with_reducible apply State.ledgerSnap_evolves
    | with_reducible apply State.hkSync_evolves
    | with_reducible apply State.chainSync_evolves
    | with_reducible apply Evolves.each
    | with_reducible apply State.setPair_evolves
    | with_reducible apply State.bumpMod_evolves
    | with_reducible apply State.setFlag_evolves
    | with_reducible apply State.setFld_evolves
    | split
    | dsimp only
    | with_reducible apply Evolves.clock

theorem State.syncRequest_evolves (h : Evolves ps s₀ s) (hp : [.clock, .hk, .chain, .clockRegs, .chainRegs] ⊆ ps) :
    Evolves ps s₀ (s.syncRequest) := by
  unfold State.syncRequest
  repeat' first
    | with_reducible assumption
    | exact List.Subset.trans (by decide) hp
    | with_reducible apply Evolves.ite
    | with_reducible apply State.syncEvent_evolves

theorem State.synStop_evolves {k} (h : Evolves ps s₀ s) (hp : [.line, .host, .lanes, .fuse, .link, .counters, .attic,
    .clock, .systemRegs, .clockRegs, .lineRegs, .hostRegs] ⊆ ps) :
    Evolves ps s₀ (s.synStop k) := by
  unfold State.synStop
  repeat' first
    | with_reducible assumption
    | exact List.Subset.trans (by decide) hp
    | exact Nat.le_of_ble_eq_true rfl
    | exact Field.ix_lt _ _
    | with_reducible apply regPart_host
    | with_reducible apply regPart_line
    | with_reducible apply regPart_system
    | with_reducible apply regPart_clock
    | intro _ _ _
    | intro _ _
    | intro _
    | with_reducible apply State.setFlag_evolves
    | with_reducible apply State.reactLine_evolves
    | with_reducible apply State.lineClocksStop_evolves
    | with_reducible apply State.reactHost_evolves
    | with_reducible apply State.hostClocksStop_evolves
    | with_reducible apply Evolves.each
    | with_reducible apply Evolves.clock

theorem State.synStart_evolves {k} (h : Evolves ps s₀ s) (hp : [.line, .host, .lanes, .fuse, .link, .counters, .attic,
    .clock, .tamid, .systemRegs, .clockRegs, .memProtRegs, .lineRegs, .hostRegs, .tamidRegs] ⊆ ps) :
    Evolves ps s₀ (s.synStart k) := by
  unfold State.synStart
  repeat' first
    | with_reducible assumption
    | exact List.Subset.trans (by decide) hp
    | exact Nat.le_of_ble_eq_true rfl
    | exact Field.ix_lt _ _
    | with_reducible apply regPart_clock
    | with_reducible apply regPart_memProt
    | with_reducible apply regPart_tamid
    | with_reducible apply regPart_host
    | with_reducible apply regPart_system
    | with_reducible apply regPart_line
    | intro _ _ _
    | intro _ _
    | intro _
    | with_reducible apply Evolves.ite
    | with_reducible apply State.setFlag_evolves
    | with_reducible apply State.lineClocksReturn_evolves
    | with_reducible apply State.reactLine_evolves
    | with_reducible apply State.txStart_evolves
    | with_reducible apply State.hostClocksReturn_evolves
    | with_reducible apply State.reactHost_evolves
    | with_reducible apply State.htStart_evolves
    | with_reducible apply Evolves.each
    | split
    | dsimp only
    | with_reducible apply Evolves.clock

theorem State.clockLoss_evolves (h : Evolves ps s₀ s) (hp : [.line, .host, .lanes, .fuse, .link, .counters, .attic,
    .clock, .systemRegs, .clockRegs, .lineRegs, .hostRegs] ⊆ ps) :
    Evolves ps s₀ (s.clockLoss) := by
  unfold State.clockLoss
  repeat' first
    | with_reducible assumption
    | exact List.Subset.trans (by decide) hp
    | exact Nat.le_of_ble_eq_true rfl
    | exact Field.ix_lt _ _
    | with_reducible apply regPart_clock
    | with_reducible apply regPart_system
    | with_reducible apply regPart_line
    | with_reducible apply regPart_host
    | intro _ _ _
    | intro _ _
    | intro _
    | with_reducible apply State.setFlag_evolves
    | with_reducible apply State.synStop_evolves
    | with_reducible apply Evolves.each

theorem State.aoTick_evolves (h : Evolves ps s₀ s) (hp : [.power, .clock, .clockRegs] ⊆ ps) :
    Evolves ps s₀ (s.aoTick) := by
  unfold State.aoTick
  repeat' first
    | with_reducible assumption
    | exact List.Subset.trans (by decide) hp
    | exact Nat.le_of_ble_eq_true rfl
    | exact Field.ix_lt _ _
    | with_reducible apply regPart_clock
    | intro _ _ _
    | intro _ _
    | intro _
    | with_reducible apply Evolves.ite
    | with_reducible apply State.setFld_evolves
    | with_reducible apply Evolves.when
    | with_reducible apply Evolves.power
    | with_reducible apply Evolves.clock

theorem State.refreshCalSrc_evolves (h : Evolves ps s₀ s) (hp : [.clockRegs] ⊆ ps) :
    Evolves ps s₀ (s.refreshCalSrc) := by
  unfold State.refreshCalSrc
  repeat' first
    | with_reducible assumption
    | exact List.Subset.trans (by decide) hp
    | exact Nat.le_of_ble_eq_true rfl
    | exact Field.ix_lt _ _
    | with_reducible apply regPart_clock
    | with_reducible apply Evolves.ite
    | with_reducible apply State.setFld_evolves

theorem State.coreRelock_evolves {locks} (h : Evolves ps s₀ s) (hp : [.fuse, .clockRegs] ⊆ ps) :
    Evolves ps s₀ (s.coreRelock locks) := by
  unfold State.coreRelock
  repeat' first
    | with_reducible assumption
    | exact List.Subset.trans (by decide) hp
    | exact Nat.le_of_ble_eq_true rfl
    | exact Field.ix_lt _ _
    | with_reducible apply regPart_clock
    | with_reducible apply Evolves.ite
    | with_reducible apply State.quiet_evolves
    | with_reducible apply State.setFlag_evolves

theorem State.syncIgnore_evolves (h : Evolves ps s₀ s) (hp : [.fuse, .link, .counters, .attic, .clock, .limits,
    .systemRegs, .clockRegs] ⊆ ps) :
    Evolves ps s₀ (s.syncIgnore) := by
  unfold State.syncIgnore
  repeat' first
    | with_reducible assumption
    | exact List.Subset.trans (by decide) hp
    | exact Nat.le_of_ble_eq_true rfl
    | exact Field.ix_lt _ _
    | with_reducible apply regPart_clock
    | with_reducible apply regPart_system
    | with_reducible apply Evolves.ite
    | with_reducible apply State.bump_evolves
    | with_reducible apply State.raiseLimited_evolves
    | with_reducible apply Evolves.clock

theorem State.readDtLo_evolves (h : Evolves ps s₀ s) (hp : [.clockRegs] ⊆ ps) :
    ∀ {y z}, s.readDtLo = (y, z) → Evolves ps s₀ z := by
  intro a t e
  cases e
  exact State.setFld_evolves h hp

theorem State.readDtLo_snd (h : Evolves ps s₀ s) (hp : [.clockRegs] ⊆ ps) :
    Evolves ps s₀ (s.readDtLo).2 := State.readDtLo_evolves h hp rfl

theorem State.readCalSecLo_evolves (h : Evolves ps s₀ s) (hp : [.clockRegs] ⊆ ps) :
    ∀ {y z}, s.readCalSecLo = (y, z) → Evolves ps s₀ z := by
  intro a t e
  cases e
  exact State.setFld_evolves (State.setFld_evolves h hp) hp

theorem State.readCalSecLo_snd (h : Evolves ps s₀ s) (hp : [.clockRegs] ⊆ ps) :
    Evolves ps s₀ (s.readCalSecLo).2 := State.readCalSecLo_evolves h hp rfl

theorem State.counterConfig_evolves {k ev threshold} (h : Evolves ps s₀ s) (hp : [.counters] ⊆ ps) :
    Evolves ps s₀ (s.counterConfig k ev threshold) := by
  unfold State.counterConfig
  repeat' first
    | with_reducible assumption
    | exact List.Subset.trans (by decide) hp
    | with_reducible apply State.setCounter_evolves

theorem State.counterWrite_evolves {k ev threshold} (h : Evolves ps s₀ s) (hp : [.counters] ⊆ ps) :
    Evolves ps s₀ (s.counterWrite k ev threshold) := by
  unfold State.counterWrite
  repeat' first
    | with_reducible assumption
    | exact List.Subset.trans (by decide) hp
    | with_reducible apply Evolves.ite
    | with_reducible apply State.counterConfig_evolves

theorem State.counterSnap_evolves (h : Evolves ps s₀ s) (hp : [.counterRegs] ⊆ ps) :
    Evolves ps s₀ (s.counterSnap) := by
  unfold State.counterSnap
  repeat' first
    | with_reducible assumption
    | exact List.Subset.trans (by decide) hp
    | exact Nat.le_of_ble_eq_true rfl
    | exact Field.ix_lt _ _
    | with_reducible apply regPart_two
    | with_reducible apply regPart_counter
    | intro _ _ _
    | intro _ _
    | intro _
    | with_reducible apply State.setPair_evolves
    | with_reducible apply State.bumpMod_evolves
    | with_reducible apply Evolves.each

theorem State.counterClr_evolves (h : Evolves ps s₀ s) (hp : [.counters] ⊆ ps) :
    Evolves ps s₀ (s.counterClr) := by
  unfold State.counterClr
  repeat' first
    | with_reducible assumption
    | exact List.Subset.trans (by decide) hp
    | with_reducible apply Evolves.counters

theorem State.readCntLive_evolves {k port} (h : Evolves ps s₀ s) (hp : [.counters] ⊆ ps) :
    ∀ {y z}, s.readCntLive k port = (y, z) → Evolves ps s₀ z := by
  intro a t e
  cases e
  exact h.counters hp

theorem State.readCntLive_snd {k port} (h : Evolves ps s₀ s) (hp : [.counters] ⊆ ps) :
    Evolves ps s₀ (s.readCntLive k port).2 := State.readCntLive_evolves h hp rfl

theorem State.bwWrite_evolves {window} (h : Evolves ps s₀ s) (hp : [.counters, .counterRegs] ⊆ ps) :
    Evolves ps s₀ (s.bwWrite window) := by
  unfold State.bwWrite
  repeat' first
    | with_reducible assumption
    | exact List.Subset.trans (by decide) hp
    | exact Nat.le_of_ble_eq_true rfl
    | exact Field.ix_lt _ _
    | exact Field.lt _
    | with_reducible apply regPart_counter
    | intro _ _ _
    | intro _ _
    | intro _
    | with_reducible apply Evolves.ite
    | with_reducible apply State.setFlag_evolves
    | with_reducible apply State.setFld_evolves
    | split
    | dsimp only
    | with_reducible apply Evolves.counters

theorem State.dumpSkip_evolves (h : Evolves ps s₀ s) (hp : [.fuse, .link, .counters, .attic, .limits, .systemRegs,
    .counterRegs] ⊆ ps) :
    Evolves ps s₀ (s.dumpSkip) := by
  unfold State.dumpSkip
  repeat' first
    | with_reducible assumption
    | exact List.Subset.trans (by decide) hp
    | exact Nat.le_of_ble_eq_true rfl
    | exact Field.ix_lt _ _
    | with_reducible apply regPart_counter
    | with_reducible apply regPart_system
    | with_reducible apply State.bump_evolves
    | with_reducible apply State.raiseLimited_evolves
    | with_reducible apply Evolves.counters

theorem State.dumpLatch_evolves (h : Evolves ps s₀ s) (hp : [.counters] ⊆ ps) :
    Evolves ps s₀ (s.dumpLatch) := by
  unfold State.dumpLatch
  repeat' first
    | with_reducible assumption
    | exact List.Subset.trans (by decide) hp
    | with_reducible apply Evolves.counters

theorem State.dumpDue_evolves (h : Evolves ps s₀ s) (hp : [.fuse, .link, .counters, .attic, .limits, .systemRegs,
    .counterRegs] ⊆ ps) :
    Evolves ps s₀ (s.dumpDue) := by
  unfold State.dumpDue
  repeat' first
    | with_reducible assumption
    | exact List.Subset.trans (by decide) hp
    | with_reducible apply Evolves.ite
    | with_reducible apply State.dumpSkip_evolves
    | with_reducible apply State.dumpLatch_evolves

theorem State.dumpTimed_evolves (h : Evolves ps s₀ s) (hp : [.counters] ⊆ ps) :
    Evolves ps s₀ (s.dumpTimed) := by
  unfold State.dumpTimed
  repeat' first
    | with_reducible assumption
    | exact List.Subset.trans (by decide) hp
    | intro _ _ _
    | intro _ _
    | intro _
    | with_reducible apply Evolves.ite
    | split
    | dsimp only
    | with_reducible apply Evolves.counters

theorem State.dumpPeriod_evolves {p} (h : Evolves ps s₀ s) (hp : [.fuse, .link, .counters, .attic, .limits,
    .systemRegs, .counterRegs] ⊆ ps) :
    Evolves ps s₀ (s.dumpPeriod p) := by
  unfold State.dumpPeriod
  repeat' first
    | with_reducible assumption
    | exact List.Subset.trans (by decide) hp
    | exact Nat.le_of_ble_eq_true rfl
    | exact Field.ix_lt _ _
    | exact Field.lt _
    | with_reducible apply regPart_counter
    | intro _ _ _
    | intro _ _
    | intro _
    | with_reducible apply Evolves.ite
    | with_reducible apply State.dumpDue_evolves
    | with_reducible apply State.setFld_evolves
    | split
    | dsimp only
    | with_reducible apply Evolves.counters

theorem State.pathRestored_evolves {k fault detail} (h : Evolves ps s₀ s) (hp : [.fuse, .link, .counters, .attic,
    .systemRegs] ⊆ ps) :
    Evolves ps s₀ (s.pathRestored k fault detail) := by
  unfold State.pathRestored
  repeat' first
    | with_reducible assumption
    | exact List.Subset.trans (by decide) hp
    | exact fun k => k
    | exact fun _ => Nat.zero_le _
    | with_reducible apply Evolves.ite
    | with_reducible apply State.raise_evolves
    | with_reducible apply State.quiet_evolves
    | with_reducible apply Evolves.fuse

theorem State.readFfr0_evolves (h : Evolves ps s₀ s) (hp : [.fuse] ⊆ ps) :
    ∀ {y z}, s.readFfr0 = (y, z) → Evolves ps s₀ z := by
  intro a t e
  cases e
  exact h.fuse hp fun k => k

theorem State.readFfr0_snd (h : Evolves ps s₀ s) (hp : [.fuse] ⊆ ps) :
    Evolves ps s₀ (s.readFfr0).2 := State.readFfr0_evolves h hp rfl

theorem State.clearSource_evolves {e} (h : Evolves ps s₀ s) (hp : [.fuse] ⊆ ps) :
    Evolves ps s₀ (s.clearSource e) := by
  unfold State.clearSource
  repeat' first
    | with_reducible assumption
    | exact List.Subset.trans (by decide) hp
    | exact fun k => k
    | exact fun _ => Nat.zero_le _
    | intro _ _ _
    | intro _ _
    | intro _
    | with_reducible apply Evolves.ite
    | with_reducible apply State.leave_evolves
    | split
    | dsimp only
    | with_reducible apply Evolves.fuse

theorem State.clearRecord_evolves (h : Evolves ps s₀ s) (hp : [.fuse] ⊆ ps) :
    Evolves ps s₀ (s.clearRecord) := by
  unfold State.clearRecord
  repeat' first
    | with_reducible assumption
    | exact List.Subset.trans (by decide) hp
    | exact fun k => k
    | exact fun _ => Nat.zero_le _
    | intro _ _ _
    | intro _ _
    | intro _
    | with_reducible apply State.clearSource_evolves
    | with_reducible apply Evolves.each
    | with_reducible apply Evolves.fuse

theorem State.clearHistory_evolves (h : Evolves ps s₀ s) (hp : [.fuse] ⊆ ps) :
    Evolves ps s₀ (s.clearHistory) := by
  unfold State.clearHistory
  exact h.fuse hp fun _ => Nat.zero_le _

theorem State.setReactions_evolves {src set} (h : Evolves ps s₀ s) (hp : [.fuse] ⊆ ps) :
    Evolves ps s₀ (s.setReactions src set) := by
  unfold State.setReactions
  repeat' first
    | with_reducible assumption
    | exact List.Subset.trans (by decide) hp
    | exact fun k => k
    | exact fun _ => Nat.zero_le _
    | with_reducible apply Evolves.fuse

end Sys2Proof.Machine
end

