-- ==== Sys2Proof/Laws/Datapath.lean ====
section
/-! SUPPORT. What each operation can do (`Evolves`): the converters, the transmitters, the host lanes, the control DACs and Tamid. -/

namespace Sys2Proof.Machine

variable {ps : List Part} {s₀ s : State}

theorem State.pdSwap_evolves {n} (h : Evolves ps s₀ s) (hp : [.line, .tamid, .pantry, .lineRegs, .tamidRegs,
    .pantryRegs] ⊆ ps) :
    Evolves ps s₀ (s.pdSwap n) := by
  unfold State.pdSwap
  repeat' first
    | with_reducible assumption
    | exact List.Subset.trans (by decide) hp
    | exact nlcRegs_inBlock
    | exact pdRegs_inBlock
    | with_reducible apply State.fadeRequest_evolves

theorem State.realign_evolves {n} (h : Evolves ps s₀ s) (hp : [.line, .fuse, .link, .counters, .attic, .systemRegs,
    .lineRegs] ⊆ ps) :
    Evolves ps s₀ (s.realign n) := by
  unfold State.realign
  repeat' first
    | with_reducible assumption
    | exact List.Subset.trans (by decide) hp
    | intro _ _ _
    | intro _ _
    | intro _
    | with_reducible apply State.refreshFill_evolves
    | with_reducible apply State.unsettleAll_evolves
    | with_reducible apply State.modLinkOf_evolves
    | with_reducible apply Evolves.each

theorem State.joinGroup_evolves {n} {host} {skew} (h : Evolves ps s₀ s) (hp : [.line, .fuse, .link, .counters, .attic,
    .systemRegs, .lineRegs] ⊆ ps) :
    Evolves ps s₀ (s.joinGroup n host skew) := by
  unfold State.joinGroup
  repeat' first
    | with_reducible assumption
    | exact List.Subset.trans (by decide) hp
    | intro _ _ _
    | intro _ _
    | intro _
    | with_reducible apply Evolves.ite
    | with_reducible apply State.realign_evolves
    | split
    | dsimp only

theorem State.joinHostGroup_evolves {m} {skew} (h : Evolves ps s₀ s) (hp : [.line, .fuse, .link, .counters, .attic,
    .systemRegs, .lineRegs] ⊆ ps) :
    Evolves ps s₀ (s.joinHostGroup m skew) := by
  unfold State.joinHostGroup
  repeat' first
    | with_reducible assumption
    | exact List.Subset.trans (by decide) hp
    | intro _ _ _
    | intro _ _
    | intro _
    | with_reducible apply Evolves.ite
    | with_reducible apply State.joinGroup_evolves
    | split
    | dsimp only

theorem State.pdInstall_evolves {n} (h : Evolves ps s₀ s) (hp : [.line, .tamid, .pantry, .lineRegs, .tamidRegs,
    .pantryRegs] ⊆ ps) :
    Evolves ps s₀ (s.pdInstall n) := by
  unfold State.pdInstall
  repeat' first
    | with_reducible assumption
    | exact List.Subset.trans (by decide) hp
    | intro _ _ _
    | intro _ _
    | intro _
    | with_reducible apply Evolves.ite
    | with_reducible apply State.pdStage_evolves
    | with_reducible apply State.pdSwap_evolves
    | with_reducible apply State.modPantry_evolves
    | split
    | dsimp only

theorem State.proposalWhole_evolves {n} {a} (h : Evolves ps s₀ s) (hp : [.line, .tamid, .pantry, .lineRegs,
    .tamidRegs, .pantryRegs] ⊆ ps) :
    Evolves ps s₀ (s.proposalWhole n a) := by
  unfold State.proposalWhole
  repeat' first
    | with_reducible assumption
    | exact List.Subset.trans (by decide) hp
    | intro _ _ _
    | intro _ _
    | intro _
    | with_reducible apply Evolves.ite
    | with_reducible apply State.pdInstall_evolves
    | with_reducible apply State.pantrySend_evolves
    | with_reducible apply State.modPantry_evolves
    | split
    | dsimp only

theorem State.lineLock_evolves {n} {skew} (h : Evolves ps s₀ s) (hp : [.line, .host, .fuse, .link, .counters, .attic,
    .tamid, .pantry, .systemRegs, .lineRegs, .hostRegs, .tamidRegs] ⊆ ps) :
    Evolves ps s₀ (s.lineLock n skew) := by
  unfold State.lineLock
  repeat' first
    | with_reducible assumption
    | exact List.Subset.trans (by decide) hp
    | exact Nat.le_of_ble_eq_true rfl
    | exact Field.ix_lt _ _
    | exact Field.lt _
    | with_reducible apply regPart_line
    | intro _ _ _
    | intro _ _
    | intro _
    | with_reducible apply Evolves.ite
    | with_reducible apply State.setAcqState_evolves
    | with_reducible apply State.refreshTrainPos_evolves
    | with_reducible apply State.lrFollow_evolves
    | with_reducible apply State.joinGroup_evolves
    | with_reducible apply State.refreshFill_evolves
    | with_reducible apply State.unsettle_evolves
    | with_reducible apply State.setInFrame_evolves
    | with_reducible apply State.modRx_evolves
    | with_reducible apply State.modAdc_evolves
    | with_reducible apply State.bump_evolves
    | with_reducible apply State.setFlag_evolves
    | with_reducible apply State.setFld_evolves
    | split
    | dsimp only

theorem State.acqStepDone_evolves {n} {r} (h : Evolves ps s₀ s) (hp : [.line, .host, .fuse, .link, .counters, .attic,
    .tamid, .pantry, .systemRegs, .lineRegs, .hostRegs, .tamidRegs] ⊆ ps) :
    Evolves ps s₀ (s.acqStepDone n r) := by
  unfold State.acqStepDone
  repeat' first
    | with_reducible assumption
    | exact List.Subset.trans (by decide) hp
    | intro _ _ _
    | intro _ _
    | intro _
    | with_reducible apply Evolves.ite
    | with_reducible apply State.ctleTaken_evolves
    | with_reducible apply State.mlseStart_evolves
    | with_reducible apply State.searchStart_evolves
    | with_reducible apply State.keepAlignment_evolves
    | with_reducible apply State.lineLock_evolves
    | with_reducible apply State.frameFound_evolves
    | with_reducible apply State.setAcqState_evolves
    | with_reducible apply State.modRx_evolves
    | split
    | dsimp only

theorem State.txRestart_evolves {n} (h : Evolves ps s₀ s) (hp : [.line] ⊆ ps) :
    Evolves ps s₀ (s.txRestart n) := by
  unfold State.txRestart
  repeat' first
    | with_reducible assumption
    | exact List.Subset.trans (by decide) hp
    | intro _ _ _
    | intro _ _
    | intro _
    | with_reducible apply Evolves.ite
    | with_reducible apply State.datapathStart_evolves
    | split
    | dsimp only

theorem State.vgaStep_evolves {n} {d} (h : Evolves ps s₀ s) (hp : [.line, .lineRegs] ⊆ ps) :
    Evolves ps s₀ (s.vgaStep n d) := by
  unfold State.vgaStep
  repeat' first
    | with_reducible assumption
    | exact List.Subset.trans (by decide) hp
    | exact Nat.le_of_ble_eq_true rfl
    | exact Field.ix_lt _ _
    | exact Field.lt _
    | with_reducible apply regPart_line
    | intro _ _ _
    | intro _ _
    | intro _
    | with_reducible apply Evolves.ite
    | with_reducible apply State.modAdc_evolves
    | with_reducible apply State.setFld_evolves
    | split
    | dsimp only

theorem State.afeCtrlWrite_evolves {n value} (h : Evolves ps s₀ s) (hp : [.line, .host, .lanes, .fuse, .link,
    .counters, .attic, .tamid, .systemRegs, .memProtRegs, .lineRegs, .hostRegs, .tamidRegs] ⊆ ps) :
    Evolves ps s₀ (s.afeCtrlWrite n value) := by
  unfold State.afeCtrlWrite
  repeat' first
    | with_reducible assumption
    | exact List.Subset.trans (by decide) hp
    | exact Nat.le_of_ble_eq_true rfl
    | exact Field.ix_lt _ _
    | with_reducible apply regPart_system
    | with_reducible apply regPart_host
    | with_reducible apply regPart_tamid
    | with_reducible apply regPart_memProt
    | with_reducible apply regPart_line
    | with_reducible apply Evolves.ite
    | with_reducible apply State.setFld_evolves
    | with_reducible apply State.vgaStep_evolves
    | with_reducible apply State.acqStart_evolves

theorem State.publishSlice_evolves {n k} (h : Evolves ps s₀ s) (hp : [.lineRegs] ⊆ ps) :
    Evolves ps s₀ (State.publishSlice n k s) := by
  unfold State.publishSlice
  repeat' first
    | with_reducible assumption
    | exact List.Subset.trans (by decide) hp
    | exact Nat.le_of_ble_eq_true rfl
    | exact Field.ix_lt _ _
    | with_reducible apply regPart_line
    | with_reducible apply State.setFld_evolves

theorem State.publishBlock_evolves {n} {spur} (h : Evolves ps s₀ s) (hp : [.line, .lineRegs] ⊆ ps) :
    Evolves ps s₀ (s.publishBlock n spur) := by
  unfold State.publishBlock
  repeat' first
    | with_reducible assumption
    | exact List.Subset.trans (by decide) hp
    | exact Nat.le_of_ble_eq_true rfl
    | exact Field.ix_lt _ _
    | exact Field.lt _
    | with_reducible apply regPart_line
    | intro _ _ _
    | intro _ _
    | intro _
    | with_reducible apply Evolves.ite
    | with_reducible apply State.publishSlice_evolves
    | with_reducible apply Evolves.when
    | with_reducible apply Evolves.each
    | with_reducible apply State.modAdc_evolves
    | with_reducible apply State.setFld_evolves
    | split
    | dsimp only

theorem State.spareGone_evolves {n} (h : Evolves ps s₀ s) (hp : [.line, .lineRegs] ⊆ ps) :
    Evolves ps s₀ (s.spareGone n) := by
  unfold State.spareGone
  repeat' first
    | with_reducible assumption
    | exact List.Subset.trans (by decide) hp
    | exact Nat.le_of_ble_eq_true rfl
    | exact Field.ix_lt _ _
    | with_reducible apply regPart_line
    | with_reducible apply State.setFlag_evolves
    | with_reducible apply State.setFld_evolves
    | with_reducible apply State.modAdc_evolves

theorem State.retireSlice_evolves {n k} (h : Evolves ps s₀ s) (hp : [.lineRegs] ⊆ ps) :
    Evolves ps s₀ (s.retireSlice n k) := by
  unfold State.retireSlice
  repeat' first
    | with_reducible assumption
    | exact List.Subset.trans (by decide) hp
    | with_reducible apply State.setSlice_evolves

theorem State.bridgePersist_evolves {n k p} (h : Evolves ps s₀ s) (hp : [.fuse, .link, .counters, .attic, .systemRegs]
    ⊆ ps) :
    Evolves ps s₀ (s.bridgePersist n k p) := by
  unfold State.bridgePersist
  repeat' first
    | with_reducible assumption
    | exact List.Subset.trans (by decide) hp
    | with_reducible apply State.raise_evolves

theorem State.retireSpare_evolves {n} (h : Evolves ps s₀ s) (hp : [.line, .fuse, .link, .counters, .attic,
    .systemRegs, .lineRegs] ⊆ ps) :
    Evolves ps s₀ (s.retireSpare n) := by
  unfold State.retireSpare
  repeat' first
    | with_reducible assumption
    | exact List.Subset.trans (by decide) hp
    | intro _ _ _
    | intro _ _
    | intro _
    | with_reducible apply Evolves.ite
    | with_reducible apply State.bridgePersist_evolves
    | with_reducible apply State.retireSlice_evolves
    | with_reducible apply State.spareGone_evolves
    | with_reducible apply State.refreshTrainPos_evolves
    | with_reducible apply State.raise_evolves
    | with_reducible apply State.modAdc_evolves
    | split
    | dsimp only

theorem State.takePosition_evolves {n k p t} (h : Evolves ps s₀ s) (hp : [.line, .lineRegs] ⊆ ps) :
    Evolves ps s₀ (s.takePosition n k p t) := by
  unfold State.takePosition
  repeat' first
    | with_reducible assumption
    | exact List.Subset.trans (by decide) hp
    | with_reducible apply State.setSlice_evolves
    | with_reducible apply State.modAdc_evolves
    | with_reducible apply State.refreshBridged_evolves

theorem State.substituted_evolves {n incoming outgoing p} (h : Evolves ps s₀ s) (hp : [.line, .fuse, .link, .counters,
    .attic, .systemRegs, .lineRegs] ⊆ ps) :
    Evolves ps s₀ (s.substituted n incoming outgoing p) := by
  unfold State.substituted
  repeat' first
    | with_reducible assumption
    | exact List.Subset.trans (by decide) hp
    | with_reducible apply State.spareGone_evolves
    | with_reducible apply State.retireSlice_evolves
    | with_reducible apply State.raise_evolves
    | with_reducible apply State.refreshTrainPos_evolves
    | with_reducible apply State.substitution_evolves
    | with_reducible apply Evolves.attic

theorem State.trainSpare_evolves {n} {p} (h : Evolves ps s₀ s) (hp : [.line, .lineRegs] ⊆ ps) :
    Evolves ps s₀ (s.trainSpare n p) := by
  unfold State.trainSpare
  repeat' first
    | with_reducible assumption
    | exact List.Subset.trans (by decide) hp
    | intro _ _ _
    | intro _ _
    | intro _
    | with_reducible apply Evolves.ite
    | with_reducible apply State.refreshTrainPos_evolves
    | with_reducible apply State.setSpareState_evolves
    | with_reducible apply State.modAdc_evolves
    | split
    | dsimp only

theorem State.startRotation_evolves {n} (h : Evolves ps s₀ s) (hp : [.line, .lineRegs] ⊆ ps) :
    Evolves ps s₀ (s.startRotation n) := by
  unfold State.startRotation
  repeat' first
    | with_reducible assumption
    | exact List.Subset.trans (by decide) hp
    | with_reducible apply Evolves.ite
    | with_reducible apply State.trainSpare_evolves
    | with_reducible apply State.refreshTrainPos_evolves
    | with_reducible apply State.setSpareState_evolves
    | with_reducible apply State.modAdc_evolves
    | split

theorem State.tryPlanned_evolves {n} (h : Evolves ps s₀ s) (hp : [.line, .lineRegs] ⊆ ps) :
    Evolves ps s₀ (s.tryPlanned n) := by
  unfold State.tryPlanned
  repeat' first
    | with_reducible assumption
    | exact List.Subset.trans (by decide) hp
    | intro _ _ _
    | intro _ _
    | intro _
    | with_reducible apply Evolves.ite
    | with_reducible apply State.startRotation_evolves
    | split
    | dsimp only

theorem State.rampDone_evolves {n} {k} {r} (h : Evolves ps s₀ s) (hp : [.line] ⊆ ps) :
    Evolves ps s₀ (s.rampDone n k r) := by
  unfold State.rampDone
  repeat' first
    | with_reducible assumption
    | exact List.Subset.trans (by decide) hp
    | intro _ _ _
    | intro _ _
    | intro _
    | with_reducible apply Evolves.ite
    | with_reducible apply State.modAdc_evolves
    | split
    | dsimp only

theorem State.planRetire_evolves {n} {k} (h : Evolves ps s₀ s) (hp : [.line, .lineRegs] ⊆ ps) :
    Evolves ps s₀ (s.planRetire n k) := by
  unfold State.planRetire
  repeat' first
    | with_reducible assumption
    | exact List.Subset.trans (by decide) hp
    | intro _ _ _
    | intro _ _
    | intro _
    | with_reducible apply Evolves.ite
    | with_reducible apply State.tryPlanned_evolves
    | with_reducible apply State.refreshTrainPos_evolves
    | with_reducible apply State.modAdc_evolves
    | split
    | dsimp only

theorem State.startRampsDone_evolves {n} {ramps} (h : Evolves ps s₀ s) (hp : [.line, .fuse, .link, .counters, .attic,
    .systemRegs, .lineRegs] ⊆ ps) :
    Evolves ps s₀ (s.startRampsDone n ramps) := by
  unfold State.startRampsDone
  repeat' first
    | with_reducible assumption
    | exact List.Subset.trans (by decide) hp
    | intro _ _ _
    | intro _ _
    | intro _
    | with_reducible apply Evolves.ite
    | with_reducible apply State.planRetire_evolves
    | with_reducible apply State.rampDone_evolves
    | with_reducible apply State.retireSpare_evolves
    | with_reducible apply State.adcEstimate_evolves
    | with_reducible apply Evolves.each
    | split
    | dsimp only

theorem State.spareCalDone_evolves {n} {k} {r} (h : Evolves ps s₀ s) (hp : [.line, .fuse, .link, .counters, .attic,
    .systemRegs, .lineRegs] ⊆ ps) :
    Evolves ps s₀ (s.spareCalDone n k r) := by
  unfold State.spareCalDone
  repeat' first
    | with_reducible assumption
    | exact List.Subset.trans (by decide) hp
    | intro _ _ _
    | intro _ _
    | intro _
    | with_reducible apply Evolves.ite
    | with_reducible apply State.rampDone_evolves
    | with_reducible apply State.tryPlanned_evolves
    | with_reducible apply State.trainSpare_evolves
    | with_reducible apply State.retireSpare_evolves
    | with_reducible apply State.refreshTrainPos_evolves
    | with_reducible apply State.setSpareState_evolves
    | with_reducible apply Evolves.when
    | with_reducible apply State.modAdc_evolves
    | split
    | dsimp only

theorem State.abruptSlice_evolves {n} {k} (h : Evolves ps s₀ s) (hp : [.line, .fuse, .power, .link, .counters, .attic,
    .test, .systemRegs, .powerRegs, .testRegs, .lineRegs] ⊆ ps) :
    Evolves ps s₀ (s.abruptSlice n k) := by
  unfold State.abruptSlice
  repeat' first
    | with_reducible assumption
    | exact List.Subset.trans (by decide) hp
    | exact Nat.le_of_ble_eq_true rfl
    | exact Field.ix_lt _ _
    | exact Field.lt _
    | with_reducible apply regPart_line
    | intro _ _ _
    | intro _ _
    | intro _
    | with_reducible apply Evolves.ite
    | with_reducible apply State.retireSpare_evolves
    | with_reducible apply State.bridgePersist_evolves
    | with_reducible apply State.refreshBridged_evolves
    | with_reducible apply State.refreshTrainPos_evolves
    | with_reducible apply State.setSpareState_evolves
    | with_reducible apply State.bistNeeded_evolves
    | with_reducible apply State.raise_evolves
    | with_reducible apply State.modAdc_evolves
    | with_reducible apply State.setFld_evolves
    | split
    | dsimp only

theorem State.abruptSlices_evolves {n ks} (h : Evolves ps s₀ s) (hp : [.line, .fuse, .power, .link, .counters, .attic,
    .test, .systemRegs, .powerRegs, .testRegs, .lineRegs] ⊆ ps) :
    Evolves ps s₀ (s.abruptSlices n ks) := by
  unfold State.abruptSlices
  repeat' first
    | with_reducible assumption
    | exact List.Subset.trans (by decide) hp
    | intro _ _ _
    | intro _ _
    | intro _
    | with_reducible apply State.abruptSlice_evolves
    | with_reducible apply Evolves.each

theorem State.degradingSlice_evolves {n} {k} (h : Evolves ps s₀ s) (hp : [.line, .fuse, .link, .counters, .attic,
    .systemRegs, .lineRegs] ⊆ ps) :
    Evolves ps s₀ (s.degradingSlice n k) := by
  unfold State.degradingSlice
  repeat' first
    | with_reducible assumption
    | exact List.Subset.trans (by decide) hp
    | intro _ _ _
    | intro _ _
    | intro _
    | with_reducible apply Evolves.ite
    | with_reducible apply State.planRetire_evolves
    | with_reducible apply State.retireSpare_evolves
    | split
    | dsimp only

theorem State.rotated_evolves {n} {j} {k} {p} {t} {retire} (h : Evolves ps s₀ s) (hp : [.line, .fuse, .link,
    .counters, .attic, .systemRegs, .lineRegs] ⊆ ps) :
    Evolves ps s₀ (s.rotated n j k p t retire) := by
  unfold State.rotated
  repeat' first
    | with_reducible assumption
    | exact List.Subset.trans (by decide) hp
    | exact Nat.le_of_ble_eq_true rfl
    | exact Field.ix_lt _ _
    | exact Field.lt _
    | with_reducible apply regPart_line
    | intro _ _ _
    | intro _ _
    | intro _
    | with_reducible apply Evolves.ite
    | with_reducible apply State.substituted_evolves
    | with_reducible apply State.takePosition_evolves
    | with_reducible apply State.refreshTrainPos_evolves
    | with_reducible apply State.setSlice_evolves
    | with_reducible apply State.modAdc_evolves
    | with_reducible apply State.bumpMod_evolves
    | with_reducible apply State.setFld_evolves
    | split
    | dsimp only

theorem State.substRequest_evolves {n} {k} (h : Evolves ps s₀ s) (hp : [.line, .lineRegs] ⊆ ps) :
    Evolves ps s₀ (s.substRequest n k) := by
  unfold State.substRequest
  repeat' first
    | with_reducible assumption
    | exact List.Subset.trans (by decide) hp
    | intro _ _ _
    | intro _ _
    | intro _
    | with_reducible apply Evolves.ite
    | with_reducible apply State.tryPlanned_evolves
    | with_reducible apply State.refreshTrainPos_evolves
    | with_reducible apply State.modAdc_evolves
    | split
    | dsimp only

theorem State.txEnable_evolves {n} (h : Evolves ps s₀ s) (hp : [.line, .power, .powerRegs, .memProtRegs, .lineRegs] ⊆
    ps) :
    Evolves ps s₀ (s.txEnable n) := by
  unfold State.txEnable
  repeat' first
    | with_reducible assumption
    | exact List.Subset.trans (by decide) hp
    | exact Nat.le_of_ble_eq_true rfl
    | exact Field.ix_lt _ _
    | with_reducible apply regPart_power
    | with_reducible apply regPart_line
    | with_reducible apply regPart_memProt
    | with_reducible apply State.txStart_evolves
    | with_reducible apply State.txVote_evolves
    | with_reducible apply State.setFlag_evolves

theorem State.setTrims_evolves {n} {trims} (h : Evolves ps s₀ s) (hp : [.lineRegs] ⊆ ps) :
    Evolves ps s₀ (s.setTrims n trims) := by
  unfold State.setTrims
  repeat' first
    | with_reducible assumption
    | exact List.Subset.trans (by decide) hp
    | exact Nat.le_of_ble_eq_true rfl
    | exact Field.ix_lt _ _
    | exact Field.lt _
    | with_reducible apply regPart_line
    | intro _ _ _
    | intro _ _
    | intro _
    | with_reducible apply Evolves.ite
    | with_reducible apply Evolves.each
    | with_reducible apply State.setFld_evolves
    | split
    | dsimp only

theorem State.txDisable_evolves {n} (h : Evolves ps s₀ s) (hp : [.line, .fuse, .power, .link, .counters, .attic,
    .systemRegs, .powerRegs, .lineRegs] ⊆ ps) :
    Evolves ps s₀ (s.txDisable n) := by
  unfold State.txDisable
  repeat' first
    | with_reducible assumption
    | exact List.Subset.trans (by decide) hp
    | exact Nat.le_of_ble_eq_true rfl
    | exact Field.ix_lt _ _
    | with_reducible apply regPart_power
    | with_reducible apply regPart_system
    | with_reducible apply regPart_line
    | with_reducible apply Evolves.ite
    | with_reducible apply State.setFlag_evolves
    | with_reducible apply State.txFall_evolves
    | with_reducible apply State.txVote_evolves

theorem State.squelchBits_evolves {n} (h : Evolves ps s₀ s) (hp : [.line, .fuse, .link, .counters, .attic,
    .systemRegs, .lineRegs] ⊆ ps) :
    Evolves ps s₀ (s.squelchBits n) := by
  unfold State.squelchBits
  repeat' first
    | with_reducible assumption
    | exact List.Subset.trans (by decide) hp
    | intro _ _ _
    | intro _ _
    | intro _
    | with_reducible apply Evolves.ite
    | with_reducible apply State.setCauses_evolves
    | split
    | dsimp only

theorem State.txSquelch_evolves {n on} (h : Evolves ps s₀ s) (hp : [.line, .fuse, .link, .counters, .attic,
    .systemRegs, .lineRegs] ⊆ ps) :
    Evolves ps s₀ (s.txSquelch n on) := by
  unfold State.txSquelch
  repeat' first
    | with_reducible assumption
    | exact List.Subset.trans (by decide) hp
    | exact Nat.le_of_ble_eq_true rfl
    | exact Field.ix_lt _ _
    | with_reducible apply regPart_line
    | with_reducible apply regPart_system
    | with_reducible apply State.setCause_evolves
    | with_reducible apply State.setFlag_evolves

theorem State.txPrecode_evolves {n} {on} (h : Evolves ps s₀ s) (hp : [.line, .lineRegs] ⊆ ps) :
    Evolves ps s₀ (s.txPrecode n on) := by
  unfold State.txPrecode
  repeat' first
    | with_reducible assumption
    | exact List.Subset.trans (by decide) hp
    | exact Nat.le_of_ble_eq_true rfl
    | exact Field.ix_lt _ _
    | exact Field.lt _
    | with_reducible apply regPart_line
    | intro _ _ _
    | intro _ _
    | intro _
    | with_reducible apply Evolves.ite
    | with_reducible apply State.modTx_evolves
    | with_reducible apply State.setFlag_evolves
    | split
    | dsimp only

theorem State.txFrameBoundary_evolves {n} (h : Evolves ps s₀ s) (hp : [.line] ⊆ ps) :
    Evolves ps s₀ (s.txFrameBoundary n) := by
  unfold State.txFrameBoundary
  repeat' first
    | with_reducible assumption
    | exact List.Subset.trans (by decide) hp
    | intro _ _ _
    | intro _ _
    | intro _
    | with_reducible apply Evolves.ite
    | with_reducible apply State.modTx_evolves
    | split
    | dsimp only

theorem State.txFirApply_evolves {n} (h : Evolves ps s₀ s) (hp : [.line, .lineRegs] ⊆ ps) :
    Evolves ps s₀ (s.txFirApply n) := by
  unfold State.txFirApply
  repeat' first
    | with_reducible assumption
    | exact List.Subset.trans (by decide) hp
    | exact Nat.le_of_ble_eq_true rfl
    | exact Field.ix_lt _ _
    | with_reducible apply regPart_line
    | with_reducible apply Evolves.ite
    | with_reducible apply State.bump_evolves
    | with_reducible apply State.modTx_evolves
    | with_reducible apply State.setFlag_evolves

theorem State.pdEnable_evolves {n en} (h : Evolves ps s₀ s) (hp : [.tamid, .pantry, .lineRegs, .tamidRegs, .pantryRegs]
    ⊆ ps) :
    Evolves ps s₀ (s.pdEnable n en) := by
  unfold State.pdEnable
  repeat' first
    | with_reducible assumption
    | exact List.Subset.trans (by decide) hp
    | exact Nat.le_of_ble_eq_true rfl
    | exact Field.ix_lt _ _
    | with_reducible apply regPart_line
    | with_reducible apply regPart_pantry
    | with_reducible apply regPart_tamid
    | exact nlcRegs_inBlock
    | exact pdRegs_inBlock
    | with_reducible apply Evolves.ite
    | with_reducible apply State.setFlag_evolves
    | with_reducible apply State.fadeBypass_evolves

theorem State.modSub_evolves {n sub f} (h : Evolves ps s₀ s) (hp : [.line] ⊆ ps) :
    Evolves ps s₀ (s.modSub n sub f) := by
  unfold State.modSub
  repeat' first
    | with_reducible assumption
    | exact List.Subset.trans (by decide) hp
    | with_reducible apply State.modTx_evolves

theorem State.setSpareNone_evolves {n sub c} (h : Evolves ps s₀ s) (hp : [.lineRegs] ⊆ ps) :
    Evolves ps s₀ (s.setSpareNone n sub c) := by
  unfold State.setSpareNone
  repeat' first
    | with_reducible assumption
    | exact List.Subset.trans (by decide) hp
    | exact Nat.le_of_ble_eq_true rfl
    | exact Field.ix_lt _ _
    | with_reducible apply regPart_line
    | with_reducible apply State.setFlag_evolves
    | exact spareNoneOf_lt _ _

theorem State.cellReplaced_evolves {n sub c used} (h : Evolves ps s₀ s) (hp : [.line, .fuse, .link, .counters, .attic,
    .systemRegs, .lineRegs] ⊆ ps) :
    Evolves ps s₀ (s.cellReplaced n sub c used) := by
  unfold State.cellReplaced
  repeat' first
    | with_reducible assumption
    | exact List.Subset.trans (by decide) hp
    | with_reducible apply State.modSub_evolves
    | with_reducible apply State.setSpareNone_evolves
    | with_reducible apply State.raise_evolves
    | with_reducible apply State.substitution_evolves
    | with_reducible apply Evolves.attic

theorem State.retireDegraded_evolves {n sub} (h : Evolves ps s₀ s) (hp : [.line, .fuse, .link, .counters, .attic,
    .systemRegs, .lineRegs] ⊆ ps) :
    Evolves ps s₀ (s.retireDegraded n sub) := by
  unfold State.retireDegraded
  repeat' first
    | with_reducible assumption
    | exact List.Subset.trans (by decide) hp
    | exact Nat.le_of_ble_eq_true rfl
    | exact Field.ix_lt _ _
    | with_reducible apply regPart_system
    | with_reducible apply regPart_line
    | with_reducible apply Evolves.ite
    | with_reducible apply State.cellReplaced_evolves
    | with_reducible apply State.bumpMod_evolves
    | split

theorem State.spareCellLost_evolves {n sub c} (h : Evolves ps s₀ s) (hp : [.line, .fuse, .link, .counters, .attic,
    .systemRegs, .lineRegs] ⊆ ps) :
    Evolves ps s₀ (s.spareCellLost n sub c) := by
  unfold State.spareCellLost
  repeat' first
    | with_reducible assumption
    | exact List.Subset.trans (by decide) hp
    | with_reducible apply Evolves.ite
    | with_reducible apply State.modSub_evolves
    | with_reducible apply State.raise_evolves
    | with_reducible apply State.setSpareNone_evolves

theorem State.cellPersist_evolves {n sub c} (h : Evolves ps s₀ s) (hp : [.line, .fuse, .link, .counters, .attic,
    .systemRegs, .lineRegs] ⊆ ps) :
    Evolves ps s₀ (s.cellPersist n sub c) := by
  unfold State.cellPersist
  repeat' first
    | with_reducible assumption
    | exact List.Subset.trans (by decide) hp
    | exact Nat.le_of_ble_eq_true rfl
    | exact Field.ix_lt _ _
    | with_reducible apply regPart_system
    | with_reducible apply regPart_line
    | with_reducible apply State.modSub_evolves
    | with_reducible apply State.raise_evolves
    | with_reducible apply State.setFlag_evolves

theorem State.cellAbrupt_evolves {n sub c handover} (h : Evolves ps s₀ s) (hp : [.line, .fuse, .link, .counters,
    .attic, .systemRegs, .lineRegs] ⊆ ps) :
    Evolves ps s₀ (s.cellAbrupt n sub c handover) := by
  unfold State.cellAbrupt
  repeat' first
    | with_reducible assumption
    | exact List.Subset.trans (by decide) hp
    | exact Nat.le_of_ble_eq_true rfl
    | exact Field.ix_lt _ _
    | with_reducible apply regPart_line
    | with_reducible apply regPart_system
    | with_reducible apply Evolves.ite
    | with_reducible apply State.spareCellLost_evolves
    | with_reducible apply State.bumpMod_evolves
    | with_reducible apply State.cellReplaced_evolves
    | with_reducible apply State.modSub_evolves
    | with_reducible apply State.cellPersist_evolves
    | split

theorem State.cellDegrading_evolves {n sub c} (h : Evolves ps s₀ s) (hp : [.line, .fuse, .link, .counters, .attic,
    .systemRegs, .lineRegs] ⊆ ps) :
    Evolves ps s₀ (s.cellDegrading n sub c) := by
  unfold State.cellDegrading
  repeat' first
    | with_reducible assumption
    | exact List.Subset.trans (by decide) hp
    | with_reducible apply Evolves.ite
    | with_reducible apply State.retireDegraded_evolves
    | with_reducible apply State.modSub_evolves
    | with_reducible apply State.spareCellLost_evolves

theorem State.txPatSel_evolves {n sel} (h : Evolves ps s₀ s) (hp : [.lineRegs] ⊆ ps) :
    Evolves ps s₀ (s.txPatSel n sel) := by
  unfold State.txPatSel
  repeat' first
    | with_reducible assumption
    | exact List.Subset.trans (by decide) hp
    | exact Nat.le_of_ble_eq_true rfl
    | exact Field.ix_lt _ _
    | with_reducible apply regPart_line
    | with_reducible apply Evolves.ite
    | with_reducible apply State.setFld_evolves
    | with_reducible apply State.unsettle_evolves

theorem State.lineChkSel_evolves {n} {sel} (h : Evolves ps s₀ s) (hp : [.line, .host, .lanes, .fuse, .link, .counters,
    .attic, .tamid, .systemRegs, .lineRegs, .hostRegs, .tamidRegs] ⊆ ps) :
    Evolves ps s₀ (s.lineChkSel n sel) := by
  unfold State.lineChkSel
  repeat' first
    | with_reducible assumption
    | exact List.Subset.trans (by decide) hp
    | exact Nat.le_of_ble_eq_true rfl
    | exact Field.ix_lt _ _
    | exact Field.lt _
    | with_reducible apply regPart_line
    | intro _ _ _
    | intro _ _
    | intro _
    | with_reducible apply Evolves.ite
    | with_reducible apply State.lineChkOff_evolves
    | with_reducible apply State.fastRelock_evolves
    | with_reducible apply State.loseLock_evolves
    | with_reducible apply State.setFld_evolves
    | split
    | dsimp only

theorem State.setHostTaps_evolves {m f taps} (h : Evolves ps s₀ s) (hp : [.hostRegs] ⊆ ps) :
    Evolves ps s₀ (s.setHostTaps m f taps) := by
  unfold State.setHostTaps
  repeat' first
    | with_reducible assumption
    | exact List.Subset.trans (by decide) hp
    | exact Nat.le_of_ble_eq_true rfl
    | exact Field.ix_lt _ _
    | with_reducible apply regPart_host
    | intro _ _ _
    | intro _ _
    | intro _
    | with_reducible apply State.setFld_evolves
    | with_reducible apply Evolves.each

theorem State.htFirApply_evolves {m training} (h : Evolves ps s₀ s) (hp : [.hostRegs] ⊆ ps) :
    Evolves ps s₀ (s.htFirApply m training) := by
  unfold State.htFirApply
  repeat' first
    | with_reducible assumption
    | exact List.Subset.trans (by decide) hp
    | exact Nat.le_of_ble_eq_true rfl
    | exact Field.ix_lt _ _
    | with_reducible apply regPart_host
    | with_reducible apply Evolves.ite
    | with_reducible apply State.bump_evolves
    | with_reducible apply State.setHostTaps_evolves

theorem State.htPresetApply_evolves {m preset firApply} (h : Evolves ps s₀ s) (hp : [.hostRegs] ⊆ ps) :
    Evolves ps s₀ (s.htPresetApply m preset firApply) := by
  unfold State.htPresetApply
  repeat' first
    | with_reducible assumption
    | exact List.Subset.trans (by decide) hp
    | exact Nat.le_of_ble_eq_true rfl
    | exact Field.ix_lt _ _
    | with_reducible apply regPart_host
    | with_reducible apply Evolves.ite
    | with_reducible apply State.setFld_evolves
    | with_reducible apply State.htFirApply_evolves
    | with_reducible apply State.bump_evolves
    | with_reducible apply State.setHostTaps_evolves
    | split

theorem State.htPrecode_evolves {m on} (h : Evolves ps s₀ s) (hp : [.host, .hostRegs] ⊆ ps) :
    Evolves ps s₀ (s.htPrecode m on) := by
  unfold State.htPrecode
  repeat' first
    | with_reducible assumption
    | exact List.Subset.trans (by decide) hp
    | exact Nat.le_of_ble_eq_true rfl
    | exact Field.ix_lt _ _
    | with_reducible apply regPart_host
    | with_reducible apply Evolves.ite
    | with_reducible apply State.modHost_evolves
    | with_reducible apply State.setFlag_evolves

theorem State.hrPrecode_evolves {m on} (h : Evolves ps s₀ s) (hp : [.line, .host, .fuse, .link, .counters, .attic,
    .systemRegs, .lineRegs, .hostRegs] ⊆ ps) :
    Evolves ps s₀ (s.hrPrecode m on) := by
  unfold State.hrPrecode
  repeat' first
    | with_reducible assumption
    | exact List.Subset.trans (by decide) hp
    | exact Nat.le_of_ble_eq_true rfl
    | exact Field.ix_lt _ _
    | with_reducible apply regPart_system
    | with_reducible apply regPart_line
    | with_reducible apply regPart_host
    | with_reducible apply Evolves.ite
    | with_reducible apply State.dropCwLock_evolves
    | with_reducible apply State.setFlag_evolves

theorem State.htEnable_evolves {m} (h : Evolves ps s₀ s) (hp : [.host, .power, .powerRegs, .hostRegs] ⊆ ps) :
    Evolves ps s₀ (s.htEnable m) := by
  unfold State.htEnable
  repeat' first
    | with_reducible assumption
    | exact List.Subset.trans (by decide) hp
    | exact Nat.le_of_ble_eq_true rfl
    | exact Field.ix_lt _ _
    | exact Field.lt _
    | with_reducible apply regPart_host
    | intro _ _ _
    | intro _ _
    | intro _
    | with_reducible apply Evolves.ite
    | with_reducible apply State.htStart_evolves
    | with_reducible apply State.hostVotes_evolves
    | with_reducible apply State.modHost_evolves
    | with_reducible apply State.setFlag_evolves
    | split
    | dsimp only

theorem State.htDisable_evolves {m} (h : Evolves ps s₀ s) (hp : [.host, .power, .powerRegs, .hostRegs] ⊆ ps) :
    Evolves ps s₀ (s.htDisable m) := by
  unfold State.htDisable
  repeat' first
    | with_reducible assumption
    | exact List.Subset.trans (by decide) hp
    | exact Nat.le_of_ble_eq_true rfl
    | exact Field.ix_lt _ _
    | with_reducible apply regPart_power
    | with_reducible apply regPart_host
    | with_reducible apply Evolves.ite
    | with_reducible apply State.setFlag_evolves
    | with_reducible apply State.hostVotes_evolves
    | with_reducible apply State.htFall_evolves

theorem State.htSquelch_evolves {m on} (h : Evolves ps s₀ s) (hp : [.host, .hostRegs] ⊆ ps) :
    Evolves ps s₀ (s.htSquelch m on) := by
  unfold State.htSquelch
  repeat' first
    | with_reducible assumption
    | exact List.Subset.trans (by decide) hp
    | exact Nat.le_of_ble_eq_true rfl
    | exact Field.ix_lt _ _
    | with_reducible apply regPart_host
    | with_reducible apply State.setHostCause_evolves
    | with_reducible apply State.setFlag_evolves

theorem State.hrEnable_evolves {m on} (h : Evolves ps s₀ s) (hp : [.line, .host, .lanes, .fuse, .power, .link,
    .counters, .attic, .systemRegs, .powerRegs, .memProtRegs, .lineRegs, .hostRegs] ⊆ ps) :
    Evolves ps s₀ (s.hrEnable m on) := by
  unfold State.hrEnable
  repeat' first
    | with_reducible assumption
    | exact List.Subset.trans (by decide) hp
    | exact Nat.le_of_ble_eq_true rfl
    | exact Field.ix_lt _ _
    | with_reducible apply regPart_host
    | with_reducible apply regPart_memProt
    | with_reducible apply regPart_line
    | with_reducible apply regPart_system
    | with_reducible apply regPart_power
    | with_reducible apply Evolves.ite
    | with_reducible apply State.modHost_evolves
    | with_reducible apply State.setFlag_evolves
    | with_reducible apply State.hostAcqStart_evolves
    | with_reducible apply State.hostVotes_evolves
    | with_reducible apply State.hostRxStop_evolves

theorem State.hostCtle_evolves {m man set} (h : Evolves ps s₀ s) (hp : [.line, .host, .lanes, .fuse, .link, .counters,
    .attic, .systemRegs, .memProtRegs, .lineRegs, .hostRegs] ⊆ ps) :
    Evolves ps s₀ (s.hostCtle m man set) := by
  unfold State.hostCtle
  repeat' first
    | with_reducible assumption
    | exact List.Subset.trans (by decide) hp
    | exact Nat.le_of_ble_eq_true rfl
    | exact Field.ix_lt _ _
    | with_reducible apply regPart_system
    | with_reducible apply regPart_line
    | with_reducible apply regPart_memProt
    | with_reducible apply regPart_host
    | with_reducible apply Evolves.ite
    | with_reducible apply State.setFld_evolves
    | with_reducible apply State.setFlag_evolves
    | with_reducible apply State.hostAcqStart_evolves

theorem State.hostLock_evolves {m} {skew} (h : Evolves ps s₀ s) (hp : [.line, .host, .fuse, .link, .counters, .attic,
    .systemRegs, .lineRegs, .hostRegs] ⊆ ps) :
    Evolves ps s₀ (s.hostLock m skew) := by
  unfold State.hostLock
  repeat' first
    | with_reducible assumption
    | exact List.Subset.trans (by decide) hp
    | exact Nat.le_of_ble_eq_true rfl
    | exact Field.ix_lt _ _
    | exact Field.lt _
    | with_reducible apply regPart_host
    | intro _ _ _
    | intro _ _
    | intro _
    | with_reducible apply Evolves.ite
    | with_reducible apply State.joinHostGroup_evolves
    | with_reducible apply State.refreshHostFill_evolves
    | with_reducible apply State.setHrState_evolves
    | with_reducible apply State.unsettleHost_evolves
    | with_reducible apply State.modHost_evolves
    | with_reducible apply State.bump_evolves
    | with_reducible apply State.setFlag_evolves
    | with_reducible apply State.setFld_evolves
    | split
    | dsimp only

theorem State.hostStepDone_evolves {m} {r} (h : Evolves ps s₀ s) (hp : [.line, .host, .fuse, .link, .counters, .attic,
    .systemRegs, .lineRegs, .hostRegs] ⊆ ps) :
    Evolves ps s₀ (s.hostStepDone m r) := by
  unfold State.hostStepDone
  repeat' first
    | with_reducible assumption
    | exact List.Subset.trans (by decide) hp
    | exact Nat.le_of_ble_eq_true rfl
    | exact Field.ix_lt _ _
    | exact Field.lt _
    | with_reducible apply regPart_host
    | intro _ _ _
    | intro _ _
    | intro _
    | with_reducible apply Evolves.ite
    | with_reducible apply State.hostLock_evolves
    | with_reducible apply State.setHrState_evolves
    | with_reducible apply State.modHost_evolves
    | with_reducible apply State.setFld_evolves
    | split
    | dsimp only

theorem State.hostSignalCount_evolves {m} (h : Evolves ps s₀ s) (hp : [.host] ⊆ ps) :
    Evolves ps s₀ (s.hostSignalCount m) := by
  unfold State.hostSignalCount
  repeat' first
    | with_reducible assumption
    | exact List.Subset.trans (by decide) hp
    | with_reducible apply Evolves.ite
    | with_reducible apply State.modHost_evolves

theorem State.hostLosEnd_evolves {m} (h : Evolves ps s₀ s) (hp : [.host, .fuse, .hostRegs] ⊆ ps) :
    Evolves ps s₀ (s.hostLosEnd m) := by
  unfold State.hostLosEnd
  repeat' first
    | with_reducible assumption
    | exact List.Subset.trans (by decide) hp
    | exact Nat.le_of_ble_eq_true rfl
    | exact Field.ix_lt _ _
    | with_reducible apply regPart_host
    | with_reducible apply State.hostSignalCount_evolves
    | with_reducible apply State.quiet_evolves
    | with_reducible apply State.setFlag_evolves

theorem State.hostAdapt_evolves {m} {u} (h : Evolves ps s₀ s) (hp : [.host, .hostRegs] ⊆ ps) :
    Evolves ps s₀ (s.hostAdapt m u) := by
  unfold State.hostAdapt
  repeat' first
    | with_reducible assumption
    | exact List.Subset.trans (by decide) hp
    | exact Nat.le_of_ble_eq_true rfl
    | exact Field.ix_lt _ _
    | exact Field.lt _
    | with_reducible apply regPart_host
    | intro _ _ _
    | intro _ _
    | intro _
    | with_reducible apply Evolves.ite
    | with_reducible apply Evolves.when
    | with_reducible apply Evolves.each
    | with_reducible apply State.modHost_evolves
    | with_reducible apply State.setFld_evolves
    | split
    | dsimp only

theorem State.hostTrainStart_evolves {m} (h : Evolves ps s₀ s) (hp : [.line, .host, .lanes, .fuse, .link, .counters,
    .attic, .systemRegs, .lineRegs, .hostRegs] ⊆ ps) :
    Evolves ps s₀ (s.hostTrainStart m) := by
  unfold State.hostTrainStart
  repeat' first
    | with_reducible assumption
    | exact List.Subset.trans (by decide) hp
    | with_reducible apply Evolves.ite
    | with_reducible apply State.trainBegin_evolves
    | with_reducible apply State.hostLoseLock_evolves
    | with_reducible apply State.modHost_evolves
    | with_reducible apply State.setHrState_evolves

theorem State.sendRequest_evolves {m} (h : Evolves ps s₀ s) (hp : [.host, .hostRegs] ⊆ ps) :
    Evolves ps s₀ (s.sendRequest m) := by
  unfold State.sendRequest
  repeat' first
    | with_reducible assumption
    | exact List.Subset.trans (by decide) hp
    | exact Nat.le_of_ble_eq_true rfl
    | exact Field.ix_lt _ _
    | with_reducible apply regPart_host
    | with_reducible apply State.modHost_evolves
    | with_reducible apply State.bump_evolves

theorem State.trainEnd_evolves {m st} (h : Evolves ps s₀ s) (hp : [.host, .hostRegs] ⊆ ps) :
    Evolves ps s₀ (s.trainEnd m st) := by
  unfold State.trainEnd
  repeat' first
    | with_reducible assumption
    | exact List.Subset.trans (by decide) hp
    | exact Nat.le_of_ble_eq_true rfl
    | exact Field.ix_lt _ _
    | with_reducible apply regPart_host
    | with_reducible apply Evolves.ite
    | with_reducible apply State.setFld_evolves
    | with_reducible apply State.setHtState_evolves
    | with_reducible apply State.modHost_evolves
    | with_reducible apply State.setHrState_evolves

theorem State.htSleep_evolves {m on} (h : Evolves ps s₀ s) (hp : [.host, .power, .powerRegs, .hostRegs] ⊆ ps) :
    Evolves ps s₀ (s.htSleep m on) := by
  unfold State.htSleep
  repeat' first
    | with_reducible assumption
    | exact List.Subset.trans (by decide) hp
    | exact Nat.le_of_ble_eq_true rfl
    | exact Field.ix_lt _ _
    | with_reducible apply regPart_host
    | with_reducible apply regPart_power
    | with_reducible apply Evolves.ite
    | with_reducible apply State.setFlag_evolves
    | with_reducible apply State.hostVotes_evolves
    | with_reducible apply State.htFall_evolves
    | with_reducible apply State.htStart_evolves

theorem State.hrSleep_evolves {m on reacq} (h : Evolves ps s₀ s) (hp : [.line, .host, .lanes, .fuse, .power, .link,
    .counters, .attic, .systemRegs, .powerRegs, .memProtRegs, .lineRegs, .hostRegs] ⊆ ps) :
    Evolves ps s₀ (s.hrSleep m on reacq) := by
  unfold State.hrSleep
  repeat' first
    | with_reducible assumption
    | exact List.Subset.trans (by decide) hp
    | exact Nat.le_of_ble_eq_true rfl
    | exact Field.ix_lt _ _
    | with_reducible apply regPart_host
    | with_reducible apply regPart_power
    | with_reducible apply regPart_system
    | with_reducible apply regPart_line
    | with_reducible apply regPart_memProt
    | with_reducible apply Evolves.ite
    | with_reducible apply State.setFlag_evolves
    | with_reducible apply State.hostReacq_evolves
    | with_reducible apply State.hostVotes_evolves
    | with_reducible apply State.hostRxStop_evolves
    | with_reducible apply State.hostResume_evolves

theorem State.hostPatSel_evolves {m sel} (h : Evolves ps s₀ s) (hp : [.lineRegs, .hostRegs] ⊆ ps) :
    Evolves ps s₀ (s.hostPatSel m sel) := by
  unfold State.hostPatSel
  repeat' first
    | with_reducible assumption
    | exact List.Subset.trans (by decide) hp
    | exact Nat.le_of_ble_eq_true rfl
    | exact Field.ix_lt _ _
    | with_reducible apply regPart_host
    | with_reducible apply regPart_line
    | with_reducible apply Evolves.ite
    | with_reducible apply State.setFld_evolves
    | with_reducible apply State.unsettle_evolves
    | split
    | dsimp only

theorem State.hostChkSel_evolves {m} {sel} (h : Evolves ps s₀ s) (hp : [.line, .host, .lanes, .fuse, .link, .counters,
    .attic, .systemRegs, .lineRegs, .hostRegs] ⊆ ps) :
    Evolves ps s₀ (s.hostChkSel m sel) := by
  unfold State.hostChkSel
  repeat' first
    | with_reducible assumption
    | exact List.Subset.trans (by decide) hp
    | exact Nat.le_of_ble_eq_true rfl
    | exact Field.ix_lt _ _
    | exact Field.lt _
    | with_reducible apply regPart_host
    | intro _ _ _
    | intro _ _
    | intro _
    | with_reducible apply Evolves.ite
    | with_reducible apply State.hostChkOff_evolves
    | with_reducible apply State.hostRelock_evolves
    | with_reducible apply State.hostLoseLock_evolves
    | with_reducible apply State.setFld_evolves
    | split
    | dsimp only

theorem State.raiseFollow_evolves {n} {stream} (h : Evolves ps s₀ s) (hp : [.free, .fuse, .link, .counters, .attic,
    .systemRegs] ⊆ ps) :
    Evolves ps s₀ (s.raiseFollow n stream) := by
  unfold State.raiseFollow
  repeat' first
    | with_reducible assumption
    | exact List.Subset.trans (by decide) hp
    | intro _ _ _
    | intro _ _
    | intro _
    | with_reducible apply Evolves.ite
    | with_reducible apply State.raiseOpen_evolves
    | with_reducible apply State.raise_evolves
    | split
    | dsimp only

theorem State.setDeskew_evolves {n host on} (h : Evolves ps s₀ s) (hp : [.line, .fuse, .link, .counters, .attic,
    .systemRegs, .lineRegs] ⊆ ps) :
    Evolves ps s₀ (s.setDeskew n host on) := by
  unfold State.setDeskew
  repeat' first
    | with_reducible assumption
    | exact List.Subset.trans (by decide) hp
    | intro _ _ _
    | intro _ _
    | intro _
    | with_reducible apply Evolves.ite
    | with_reducible apply State.refreshFill_evolves
    | with_reducible apply State.modLinkOf_evolves
    | with_reducible apply Evolves.each

theorem State.deskewDrop_evolves {ls} (h : Evolves ps s₀ s) (hp : [.line, .fuse] ⊆ ps) :
    Evolves ps s₀ (s.deskewDrop ls) := by
  unfold State.deskewDrop
  repeat' first
    | with_reducible assumption
    | exact List.Subset.trans (by decide) hp
    | intro _ _ _
    | intro _ _
    | intro _
    | with_reducible apply Evolves.ite
    | with_reducible apply State.quiet_evolves
    | with_reducible apply Evolves.each
    | with_reducible apply State.modLinkOf_evolves
    | split
    | dsimp only

theorem State.setGrouping_evolves {g} (h : Evolves ps s₀ s) (hp : [.line, .lanes, .fuse, .link, .counters, .attic,
    .systemRegs, .lineRegs] ⊆ ps) :
    Evolves ps s₀ (s.setGrouping g) := by
  unfold State.setGrouping
  repeat' first
    | with_reducible assumption
    | exact List.Subset.trans (by decide) hp
    | intro _ _ _
    | intro _ _
    | intro _
    | with_reducible apply Evolves.ite
    | with_reducible apply State.deskewDrop_evolves
    | with_reducible apply State.realign_evolves
    | with_reducible apply Evolves.each
    | split
    | dsimp only
    | with_reducible apply Evolves.lanes

theorem State.htRestart_evolves {m} (h : Evolves ps s₀ s) (hp : [.host, .hostRegs] ⊆ ps) :
    Evolves ps s₀ (s.htRestart m) := by
  unfold State.htRestart
  repeat' first
    | with_reducible assumption
    | exact List.Subset.trans (by decide) hp
    | intro _ _ _
    | intro _ _
    | intro _
    | with_reducible apply Evolves.ite
    | with_reducible apply State.htStart_evolves
    | with_reducible apply State.trainAbandon_evolves
    | with_reducible apply State.setHtState_evolves
    | with_reducible apply State.modHost_evolves
    | split
    | dsimp only

theorem State.setMode_evolves {mode} {g} (h : Evolves ps s₀ s) (hp : [.line, .host, .lanes, .fuse, .power, .link,
    .counters, .attic, .tamid, .systemRegs, .powerRegs, .memProtRegs, .lineRegs, .hostRegs, .tamidRegs] ⊆ ps) :
    Evolves ps s₀ (s.setMode mode g) := by
  unfold State.setMode
  repeat' first
    | with_reducible assumption
    | exact List.Subset.trans (by decide) hp
    | intro _ _ _
    | intro _ _
    | intro _
    | with_reducible apply Evolves.ite
    | with_reducible apply State.htRestart_evolves
    | with_reducible apply State.deskewDrop_evolves
    | with_reducible apply State.txRestart_evolves
    | with_reducible apply State.hostRxStop_evolves
    | with_reducible apply State.hostAcqStart_evolves
    | with_reducible apply State.hostLoseLock_evolves
    | with_reducible apply State.htFall_evolves
    | with_reducible apply State.hostVotes_evolves
    | with_reducible apply State.lineReacq_evolves
    | with_reducible apply State.loseLock_evolves
    | with_reducible apply State.refreshFill_evolves
    | with_reducible apply State.unsettleAll_evolves
    | with_reducible apply Evolves.each
    | with_reducible apply State.modLinkOf_evolves
    | split
    | dsimp only
    | with_reducible apply Evolves.lanes

theorem State.profileStart_evolves {p} (h : Evolves ps s₀ s) (hp : [.lanes] ⊆ ps) :
    Evolves ps s₀ (s.profileStart p) := by
  unfold State.profileStart
  repeat' first
    | with_reducible assumption
    | exact List.Subset.trans (by decide) hp
    | intro _ _ _
    | intro _ _
    | intro _
    | with_reducible apply Evolves.ite
    | split
    | dsimp only
    | with_reducible apply Evolves.lanes

theorem State.switchTaps_evolves {n} {target} (h : Evolves ps s₀ s) (hp : [.line, .lineRegs] ⊆ ps) :
    Evolves ps s₀ (s.switchTaps n target) := by
  unfold State.switchTaps
  repeat' first
    | with_reducible assumption
    | exact List.Subset.trans (by decide) hp
    | exact Nat.le_of_ble_eq_true rfl
    | exact Field.ix_lt _ _
    | exact Field.lt _
    | with_reducible apply regPart_line
    | intro _ _ _
    | intro _ _
    | intro _
    | with_reducible apply Evolves.ite
    | with_reducible apply Evolves.each
    | with_reducible apply State.modRx_evolves
    | with_reducible apply State.setFld_evolves
    | split
    | dsimp only

theorem State.reloadChains_evolves {old new} (h : Evolves ps s₀ s) (hp : [.chain, .chainRegs] ⊆ ps) :
    Evolves ps s₀ (s.reloadChains old new) := by
  unfold State.reloadChains
  repeat' first
    | with_reducible assumption
    | exact List.Subset.trans (by decide) hp
    | intro _ _ _
    | intro _ _
    | intro _
    | with_reducible apply Evolves.ite
    | with_reducible apply State.chainReload_evolves
    | with_reducible apply Evolves.each

theorem State.profileDone_evolves {target} (h : Evolves ps s₀ s) (hp : [.lanes, .link, .chain, .tamid, .systemRegs,
    .tamidRegs, .chainRegs, .keyRegs] ⊆ ps) :
    Evolves ps s₀ (s.profileDone target) := by
  unfold State.profileDone
  repeat' first
    | with_reducible assumption
    | exact List.Subset.trans (by decide) hp
    | exact Nat.le_of_ble_eq_true rfl
    | exact Field.ix_lt _ _
    | with_reducible apply regPart_tamid
    | with_reducible apply regPart_key
    | with_reducible apply regPart_system
    | with_reducible apply regPart_mc
    | with_reducible apply regPart_chainCtl
    | with_reducible apply Evolves.ite
    | with_reducible apply State.complete_evolves
    | with_reducible apply State.reloadChains_evolves
    | with_reducible apply State.setFld_evolves
    | with_reducible apply State.profileStart_evolves
    | split
    | dsimp only
    | with_reducible apply Evolves.lanes

theorem State.wantProfile_evolves {p} (h : Evolves ps s₀ s) (hp : [.lanes] ⊆ ps) :
    Evolves ps s₀ (s.wantProfile p) := by
  unfold State.wantProfile
  repeat' first
    | with_reducible assumption
    | exact List.Subset.trans (by decide) hp
    | with_reducible apply Evolves.ite
    | with_reducible apply State.profileStart_evolves
    | split
    | dsimp only
    | with_reducible apply Evolves.lanes

theorem State.setProfileNow_evolves {p} (h : Evolves ps s₀ s) (hp : [.tamid, .pantry, .systemRegs, .lineRegs,
    .tamidRegs, .pantryRegs] ⊆ ps) :
    Evolves ps s₀ (s.setProfileNow p) := by
  unfold State.setProfileNow
  repeat' first
    | with_reducible assumption
    | exact List.Subset.trans (by decide) hp
    | exact Nat.le_of_ble_eq_true rfl
    | exact Field.ix_lt _ _
    | exact Field.lt _
    | with_reducible apply regPart_line
    | with_reducible apply regPart_system
    | exact nlcRegs_inBlock
    | exact pdRegs_inBlock
    | intro _ _ _
    | intro _ _
    | intro _
    | with_reducible apply Evolves.ite
    | with_reducible apply State.fadeBypass_evolves
    | with_reducible apply Evolves.each
    | with_reducible apply State.setFld_evolves
    | split
    | dsimp only

theorem State.ledgerPublish_evolves {n which skew wait} (h : Evolves ps s₀ s) (hp : [.link, .systemRegs, .lineRegs] ⊆
    ps) :
    Evolves ps s₀ (s.ledgerPublish n which skew wait) := by
  unfold State.ledgerPublish
  repeat' first
    | with_reducible assumption
    | exact List.Subset.trans (by decide) hp
    | exact Nat.le_of_ble_eq_true rfl
    | exact Field.ix_lt _ _
    | with_reducible apply regPart_system
    | with_reducible apply regPart_line
    | with_reducible apply Evolves.ite
    | with_reducible apply State.bumpMod_evolves
    | with_reducible apply State.setFld_evolves
    | with_reducible apply State.attn_evolves
    | exact ledgerSeq_lt _
    | exact ledgerPs_lt _

theorem State.cdRelease_evolves {c} (h : Evolves ps s₀ s) (hp : [.cdacRegs] ⊆ ps) :
    Evolves ps s₀ (s.cdRelease c) := by
  unfold State.cdRelease
  repeat' first
    | with_reducible assumption
    | exact List.Subset.trans (by decide) hp
    | exact Nat.le_of_ble_eq_true rfl
    | exact Field.ix_lt _ _
    | with_reducible apply regPart_cd
    | with_reducible apply regPart_cdac
    | with_reducible apply Evolves.ite
    | with_reducible apply State.setCdState_evolves
    | with_reducible apply State.setFld_evolves

theorem State.cdPush_evolves {c : Fin 32} {codes} (h : Evolves ps s₀ s) (hp : [.cdac, .cdacRegs] ⊆ ps)
    (k : s.cdac[c].queue.length + codes.length ≤ 16) : Evolves ps s₀ (s.cdPush c codes) :=
  State.cdRelease_evolves (State.setCdQueue_evolves h hp fun _ => by simpa using k) (List.Subset.trans (by decide) hp)

theorem State.cdConfig_evolves {c en gain2 div step safe} (h : Evolves ps s₀ s) (hp : [.cdac, .cdacRegs] ⊆ ps) :
    Evolves ps s₀ (s.cdConfig c en gain2 div step safe) := by
  unfold State.cdConfig
  repeat' first
    | with_reducible assumption
    | exact List.Subset.trans (by decide) hp
    | exact Nat.le_of_ble_eq_true rfl
    | exact Field.ix_lt _ _
    | with_reducible apply regPart_cd
    | with_reducible apply regPart_cdac
    | exact fun k => k
    | exact fun _ => Nat.zero_le _
    | with_reducible apply Evolves.ite
    | with_reducible apply State.setFld_evolves
    | with_reducible apply State.modCdac_evolves
    | with_reducible apply State.setFlag_evolves
    | with_reducible apply State.setCdState_evolves
    | with_reducible apply State.cdRelease_evolves
    | with_reducible apply State.setCdQueue_evolves

theorem State.cdSlew_evolves {c target} (h : Evolves ps s₀ s) (hp : [.cdacRegs] ⊆ ps) :
    Evolves ps s₀ (s.cdSlew c target) := by
  unfold State.cdSlew
  repeat' first
    | with_reducible assumption
    | exact List.Subset.trans (by decide) hp
    | exact Nat.le_of_ble_eq_true rfl
    | exact Field.ix_lt _ _
    | with_reducible apply regPart_cd
    | with_reducible apply regPart_cdac
    | with_reducible apply State.setFld_evolves

theorem State.cdDrive_evolves {c} {inj} (h : Evolves ps s₀ s) (hp : [.fuse, .link, .counters, .attic, .cdac, .tamid,
    .systemRegs] ⊆ ps) :
    Evolves ps s₀ (s.cdDrive c inj) := by
  unfold State.cdDrive
  repeat' first
    | with_reducible assumption
    | exact List.Subset.trans (by decide) hp
    | exact fun k => k
    | exact fun _ => Nat.zero_le _
    | intro _ _ _
    | intro _ _
    | intro _
    | with_reducible apply Evolves.ite
    | with_reducible apply State.modCdac_evolves
    | with_reducible apply State.modTamid_evolves
    | with_reducible apply State.raise_evolves
    | split
    | dsimp only

theorem State.cdPop_evolves {c} (h : Evolves ps s₀ s) (hp : [.hk, .cdac, .cdacRegs] ⊆ ps) :
    Evolves ps s₀ (s.cdPop c) := by
  unfold State.cdPop
  split
  · rename_i hq
    refine State.hkStrobe_evolves (State.bumpMod_evolves (State.setFld_evolves (State.setCdQueue_evolves h
      (List.Subset.trans (by decide) hp) fun k => ?_) ?_) ?_) (List.Subset.trans (by decide) hp)
    · rw [hq] at k
      exact Nat.le_of_succ_le k
    all_goals exact regPart_cd (by decide) (List.Subset.trans (by decide) hp)
  · exact h

theorem State.cdTick_evolves {c} {inj} (h : Evolves ps s₀ s) (hp : [.fuse, .link, .counters, .attic, .hk, .cdac,
    .tamid, .systemRegs, .cdacRegs] ⊆ ps) :
    Evolves ps s₀ (s.cdTick c inj) := by
  unfold State.cdTick
  repeat' first
    | with_reducible assumption
    | exact List.Subset.trans (by decide) hp
    | exact Nat.le_of_ble_eq_true rfl
    | exact Field.ix_lt _ _
    | exact Field.lt _
    | with_reducible apply regPart_cd
    | exact fun k => k
    | exact fun _ => Nat.zero_le _
    | intro _ _ _
    | intro _ _
    | intro _
    | with_reducible apply Evolves.ite
    | with_reducible apply State.cdPop_evolves
    | with_reducible apply State.cdDrive_evolves
    | with_reducible apply State.cdSlew_evolves
    | with_reducible apply State.setCdState_evolves
    | with_reducible apply State.modCdac_evolves
    | with_reducible apply State.setFld_evolves
    | split
    | dsimp only

theorem State.dropCarrier_evolves {half carrier} (h : Evolves ps s₀ s) (hp : [.carriers] ⊆ ps) :
    Evolves ps s₀ (s.dropCarrier half carrier) := by
  unfold State.dropCarrier
  repeat' first
    | with_reducible assumption
    | exact List.Subset.trans (by decide) hp
    | with_reducible apply Evolves.carriers

theorem State.storeCarrier_evolves {half carrier} (h : Evolves ps s₀ s) (hp : [.carriers] ⊆ ps) :
    Evolves ps s₀ (s.storeCarrier half carrier) := by
  unfold State.storeCarrier
  repeat' first
    | with_reducible assumption
    | exact List.Subset.trans (by decide) hp
    | with_reducible apply State.dropCarrier_evolves
    | with_reducible apply Evolves.carriers

theorem State.refreshOwned_evolves {i} (h : Evolves ps s₀ s) (hp : [.chain, .chainRegs] ⊆ ps) :
    Evolves ps s₀ (s.refreshOwned i) := by
  unfold State.refreshOwned
  repeat' first
    | with_reducible assumption
    | exact List.Subset.trans (by decide) hp
    | exact Nat.le_of_ble_eq_true rfl
    | exact Field.ix_lt _ _
    | with_reducible apply regPart_mc
    | with_reducible apply regPart_chainCtl
    | with_reducible apply Evolves.ite
    | with_reducible apply State.setFlag_evolves
    | with_reducible apply State.chainStop_evolves
    | with_reducible apply State.chainStart_evolves

theorem State.setTamidState_evolves {i st} (h : Evolves ps s₀ s) (hp : [.power, .chain, .tamid, .powerRegs, .tamidRegs,
    .chainRegs] ⊆ ps) :
    Evolves ps s₀ (s.setTamidState i st) := by
  unfold State.setTamidState
  repeat' first
    | with_reducible assumption
    | exact List.Subset.trans (by decide) hp
    | exact Nat.le_of_ble_eq_true rfl
    | exact Field.ix_lt _ _
    | with_reducible apply regPart_tamid
    | with_reducible apply regPart_mc
    | with_reducible apply regPart_chainCtl
    | with_reducible apply regPart_power
    | exact fun k => k
    | exact fun _ => Nat.zero_le _
    | intro _ _ _
    | intro _ _
    | intro _
    | with_reducible apply Evolves.ite
    | with_reducible apply State.setFld_evolves
    | with_reducible apply State.modTamid_evolves
    | with_reducible apply State.setFlag_evolves
    | with_reducible apply State.tamidVote_evolves
    | with_reducible apply State.refreshOwned_evolves
    | with_reducible apply Evolves.when

theorem State.endSlice_evolves {i} (h : Evolves ps s₀ s) (hp : [.tamid, .tamidRegs] ⊆ ps) :
    Evolves ps s₀ (s.endSlice i) := by
  unfold State.endSlice
  repeat' first
    | with_reducible assumption
    | exact List.Subset.trans (by decide) hp
    | exact Nat.le_of_ble_eq_true rfl
    | exact Field.ix_lt _ _
    | with_reducible apply regPart_tamid
    | exact fun k => k
    | exact fun _ => Nat.zero_le _
    | with_reducible apply State.modTamid_evolves
    | with_reducible apply State.setFlag_evolves

theorem State.abortSlice_evolves {i} (h : Evolves ps s₀ s) (hp : [.tamid, .tamidRegs] ⊆ ps) :
    Evolves ps s₀ (s.abortSlice i) := by
  unfold State.abortSlice
  repeat' first
    | with_reducible assumption
    | exact List.Subset.trans (by decide) hp
    | exact Nat.le_of_ble_eq_true rfl
    | exact Field.ix_lt _ _
    | exact Field.lt _
    | with_reducible apply regPart_tamid
    | exact fun k => k
    | exact fun _ => Nat.zero_le _
    | intro _ _ _
    | intro _ _
    | intro _
    | with_reducible apply Evolves.ite
    | with_reducible apply State.endSlice_evolves
    | with_reducible apply State.modTamid_evolves
    | with_reducible apply State.bump_evolves
    | split
    | dsimp only

theorem State.tamidStop_evolves {i} (h : Evolves ps s₀ s) (hp : [.power, .chain, .tamid, .powerRegs, .tamidRegs,
    .chainRegs] ⊆ ps) :
    Evolves ps s₀ (s.tamidStop i) := by
  unfold State.tamidStop
  repeat' first
    | with_reducible assumption
    | exact List.Subset.trans (by decide) hp
    | exact fun k => k
    | exact fun _ => Nat.zero_le _
    | with_reducible apply State.tamidDrop_evolves
    | with_reducible apply State.modTamid_evolves
    | with_reducible apply State.endSlice_evolves
    | with_reducible apply State.refreshSending_evolves
    | with_reducible apply State.setTamidState_evolves

theorem State.maskFail_evolves {i} {spectrum} (h : Evolves ps s₀ s) (hp : [.fuse, .link, .counters, .attic,
    .systemRegs] ⊆ ps) :
    Evolves ps s₀ (s.maskFail i spectrum) := by
  unfold State.maskFail
  repeat' first
    | with_reducible assumption
    | exact List.Subset.trans (by decide) hp
    | intro _ _ _
    | intro _ _
    | intro _
    | with_reducible apply Evolves.ite
    | with_reducible apply State.raise_evolves
    | split
    | dsimp only

theorem State.shapeWrite_evolves {i j v} (h : Evolves ps s₀ s) (hp : [.tamid, .tamidRegs] ⊆ ps) :
    Evolves ps s₀ (s.shapeWrite i j v) := by
  unfold State.shapeWrite
  repeat' first
    | with_reducible assumption
    | exact List.Subset.trans (by decide) hp
    | exact Nat.le_of_ble_eq_true rfl
    | exact Field.ix_lt _ _
    | with_reducible apply regPart_tamid
    | exact fun k => k
    | exact fun _ => Nat.zero_le _
    | with_reducible apply Evolves.ite
    | with_reducible apply State.modTamid_evolves
    | with_reducible apply State.setFld_evolves
    | with_reducible apply State.bump_evolves

theorem State.tamidConfig_evolves {o i carrier fsk depth method st} (h : Evolves ps s₀ s) (hp : [.power, .link, .tamid,
    .systemRegs, .powerRegs, .tamidRegs, .keyRegs] ⊆ ps) :
    Evolves ps s₀ (s.tamidConfig o i carrier fsk depth method st) := by
  unfold State.tamidConfig
  repeat' first
    | with_reducible assumption
    | exact List.Subset.trans (by decide) hp
    | exact fun k => k
    | exact fun _ => Nat.zero_le _
    | with_reducible apply Evolves.ite
    | with_reducible apply State.reply_evolves
    | with_reducible apply State.tamidDrop_evolves
    | with_reducible apply State.modTamid_evolves
    | with_reducible apply State.accept_evolves
    | with_reducible apply State.tamidVote_evolves

theorem State.takeConfig_evolves {i t} (h : Evolves ps s₀ s) (hp : [.tamidRegs] ⊆ ps) :
    Evolves ps s₀ (s.takeConfig i t) := by
  unfold State.takeConfig
  repeat' first
    | with_reducible assumption
    | exact List.Subset.trans (by decide) hp
    | exact Nat.le_of_ble_eq_true rfl
    | exact Field.ix_lt _ _
    | with_reducible apply regPart_tamid
    | with_reducible apply State.setFlag_evolves
    | with_reducible apply State.setFld_evolves

theorem State.endConfig_evolves {i status} (h : Evolves ps s₀ s) (hp : [.link, .tamid, .systemRegs, .tamidRegs,
    .keyRegs] ⊆ ps) :
    Evolves ps s₀ (s.endConfig i status) := by
  unfold State.endConfig
  repeat' first
    | with_reducible assumption
    | exact List.Subset.trans (by decide) hp
    | exact fun k => k
    | exact fun _ => Nat.zero_le _
    | with_reducible apply State.complete_evolves
    | with_reducible apply State.modTamid_evolves

theorem State.tamidSend_evolves {o i len payload} (h : Evolves ps s₀ s) (hp : [.link, .tamid, .systemRegs, .tamidRegs,
    .keyRegs] ⊆ ps) :
    Evolves ps s₀ (s.tamidSend o i len payload) := by
  unfold State.tamidSend
  repeat' first
    | with_reducible assumption
    | exact List.Subset.trans (by decide) hp
    | exact fun k => k
    | exact fun _ => Nat.zero_le _
    | with_reducible apply Evolves.ite
    | with_reducible apply State.reply_evolves
    | with_reducible apply State.refreshSending_evolves
    | with_reducible apply State.modTamid_evolves
    | with_reducible apply State.abortSlice_evolves

theorem State.tamidCrc_evolves {i} (h : Evolves ps s₀ s) (hp : [.fuse, .link, .counters, .attic, .tamid, .limits,
    .systemRegs, .tamidRegs] ⊆ ps) :
    Evolves ps s₀ (s.tamidCrc i) := by
  unfold State.tamidCrc
  repeat' first
    | with_reducible assumption
    | exact List.Subset.trans (by decide) hp
    | exact Nat.le_of_ble_eq_true rfl
    | exact Field.ix_lt _ _
    | with_reducible apply regPart_system
    | with_reducible apply regPart_tamid
    | exact fun k => k
    | exact fun _ => Nat.zero_le _
    | with_reducible apply Evolves.ite
    | with_reducible apply State.bump_evolves
    | with_reducible apply State.raiseLimited_evolves
    | with_reducible apply State.modTamid_evolves

theorem State.tamidDelivered_evolves {i r} (h : Evolves ps s₀ s) (hp : [.counters, .tamidRegs] ⊆ ps) :
    Evolves ps s₀ (s.tamidDelivered i r) := by
  unfold State.tamidDelivered
  repeat' first
    | with_reducible assumption
    | exact List.Subset.trans (by decide) hp
    | exact Nat.le_of_ble_eq_true rfl
    | exact Field.ix_lt _ _
    | with_reducible apply regPart_tamid
    | with_reducible apply State.setFld_evolves
    | with_reducible apply State.countEvent_evolves
    | with_reducible apply State.bumpMod_evolves

theorem State.tamidQueue_evolves {i r p} (h : Evolves ps s₀ s) (hp : [.fuse, .link, .counters, .attic, .tamid,
    .systemRegs, .tamidRegs] ⊆ ps) :
    Evolves ps s₀ (s.tamidQueue i r p) := by
  unfold State.tamidQueue
  split
  · refine State.raise_evolves (State.modTamid_evolves (State.bump_evolves h (regPart_tamid (by decide) ?_)) ?_ fun k
      => k) ?_
    all_goals exact List.Subset.trans (by decide) hp
  · rename_i hq
    refine State.attn_evolves (State.tamidDelivered_evolves (State.setFld_evolves
      (State.modTamid_evolves h ?_ fun _ => ?_) (regPart_tamid (by decide) ?_)) ?_) (by decide) ?_
    · exact List.Subset.trans (by decide) hp
    · simp only [List.length_append, List.length_singleton]; omega
    all_goals exact List.Subset.trans (by decide) hp

theorem State.tamidRoute_evolves {i r p} (h : Evolves ps s₀ s) (hp : [.fuse, .link, .counters, .attic, .tamid,
    .systemRegs, .tamidRegs] ⊆ ps) :
    Evolves ps s₀ (s.tamidRoute i r p) := by
  unfold State.tamidRoute
  repeat' first
    | with_reducible assumption
    | exact List.Subset.trans (by decide) hp
    | exact Nat.le_of_ble_eq_true rfl
    | exact Field.ix_lt _ _
    | with_reducible apply regPart_system
    | with_reducible apply regPart_tamid
    | exact fun k => k
    | exact fun _ => Nat.zero_le _
    | with_reducible apply Evolves.ite
    | with_reducible apply State.tamidDelivered_evolves
    | with_reducible apply State.modTamid_evolves
    | with_reducible apply State.bump_evolves
    | with_reducible apply State.tamidQueue_evolves

theorem State.tamidTake_evolves {i} (h : Evolves ps s₀ s) (hp : [.tamid, .tamidRegs] ⊆ ps) :
    ∀ {y z}, s.tamidTake i = (y, z) → Evolves ps s₀ z := by
  intro a t e
  unfold State.tamidTake at e
  split at e
  · cases e; exact h
  · rename_i hq
    cases e
    refine State.setFld_evolves (State.modTamid_evolves h (List.Subset.trans (by decide) hp) fun k => ?_)
      (regPart_tamid (by decide) (List.Subset.trans (by decide) hp))
    rw [hq] at k
    exact Nat.le_of_succ_le k

theorem State.tamidTake_snd {i} (h : Evolves ps s₀ s) (hp : [.tamid, .tamidRegs] ⊆ ps) :
    Evolves ps s₀ (s.tamidTake i).2 := State.tamidTake_evolves h hp rfl

end Sys2Proof.Machine
end

