-- ==== Sys2Proof/Laws/PowerTest.lean ====
section
/-! SUPPORT. What each operation can do (`Evolves`): power, loop-backs, losses, tests and thermal protection. -/

namespace Sys2Proof.Machine

variable {ps : List Part} {s₀ s : State}

theorem State.quiesce_evolves {d} (h : Evolves ps s₀ s) (hp : [.line, .host, .fuse, .link, .counters, .attic,
    .systemRegs, .lineRegs, .hostRegs] ⊆ ps) :
    Evolves ps s₀ (s.quiesce d) := by
  unfold State.quiesce
  repeat' first
    | with_reducible assumption
    | exact List.Subset.trans (by decide) hp
    | with_reducible apply Evolves.ite
    | with_reducible apply State.txFall_evolves
    | with_reducible apply State.modTx_evolves
    | with_reducible apply State.htFall_evolves
    | with_reducible apply State.modHost_evolves

theorem State.quiesced_evolves {d} (h : Evolves ps s₀ s) (hp : [.line, .host, .fuse, .link, .counters, .attic,
    .systemRegs, .lineRegs, .hostRegs] ⊆ ps) :
    Evolves ps s₀ (s.quiesced d) := by
  unfold State.quiesced
  repeat' first
    | with_reducible assumption
    | exact List.Subset.trans (by decide) hp
    | with_reducible apply Evolves.ite
    | with_reducible apply State.txDrop_evolves
    | with_reducible apply State.modHost_evolves
    | with_reducible apply State.setHtState_evolves

theorem State.lineRxOff_evolves {n} (h : Evolves ps s₀ s) (hp : [.line, .host, .lanes, .fuse, .link, .counters,
    .attic, .chain, .tamid, .systemRegs, .lineRegs, .hostRegs, .tamidRegs, .chainRegs] ⊆ ps) :
    Evolves ps s₀ (s.lineRxOff n) := by
  unfold State.lineRxOff
  repeat' first
    | with_reducible assumption
    | exact List.Subset.trans (by decide) hp
    | exact Nat.le_of_ble_eq_true rfl
    | exact Field.ix_lt _ _
    | with_reducible apply regPart_mc
    | with_reducible apply regPart_chainCtl
    | with_reducible apply regPart_tamid
    | with_reducible apply regPart_line
    | with_reducible apply regPart_host
    | with_reducible apply regPart_system
    | with_reducible apply State.setAcqState_evolves
    | with_reducible apply State.adcStop_evolves
    | with_reducible apply State.loseLock_evolves
    | with_reducible apply State.quiet_evolves
    | with_reducible apply State.setFlag_evolves
    | with_reducible apply State.modRx_evolves
    | with_reducible apply State.refreshFill_evolves
    | with_reducible apply State.chainOff_evolves

theorem State.domainStops_evolves {d} (h : Evolves ps s₀ s) (hp : [.line, .host, .lanes, .fuse, .power, .link,
    .counters, .attic, .hk, .chain, .tamid, .systemRegs, .powerRegs, .hkRegs, .lineRegs, .hostRegs, .tamidRegs,
        .chainRegs] ⊆ ps) :
    Evolves ps s₀ (s.domainStops d) := by
  unfold State.domainStops
  repeat' first
    | with_reducible assumption
    | exact List.Subset.trans (by decide) hp
    | exact Nat.le_of_ble_eq_true rfl
    | exact Field.ix_lt _ _
    | with_reducible apply regPart_hk
    | with_reducible apply regPart_power
    | with_reducible apply regPart_system
    | with_reducible apply regPart_host
    | with_reducible apply regPart_line
    | with_reducible apply regPart_tamid
    | with_reducible apply regPart_mc
    | with_reducible apply regPart_chainCtl
    | exact fun k => k
    | exact fun _ => Nat.zero_le _
    | with_reducible apply Evolves.ite
    | with_reducible apply State.refreshPantryVote_evolves
    | with_reducible apply State.lineRxOff_evolves
    | with_reducible apply State.chainOff_evolves
    | with_reducible apply State.hostRxStop_evolves
    | with_reducible apply State.setFlag_evolves
    | with_reducible apply Evolves.hk

theorem State.idleSyn_evolves (h : Evolves ps s₀ s) (hp : [.clockRegs] ⊆ ps) :
    Evolves ps s₀ (s.idleSyn) := by
  unfold State.idleSyn
  repeat' first
    | with_reducible assumption
    | exact List.Subset.trans (by decide) hp
    | exact Nat.le_of_ble_eq_true rfl
    | exact Field.ix_lt _ _
    | with_reducible apply regPart_clock
    | intro _ _ _
    | intro _ _
    | intro _
    | with_reducible apply Evolves.ite
    | with_reducible apply State.setFlag_evolves
    | with_reducible apply Evolves.each

theorem State.wakeSyn_evolves {d} (h : Evolves ps s₀ s) (hp : [.line, .host, .lanes, .fuse, .link, .counters, .attic,
    .clock, .tamid, .systemRegs, .clockRegs, .memProtRegs, .lineRegs, .hostRegs, .tamidRegs] ⊆ ps) :
    Evolves ps s₀ (s.wakeSyn d) := by
  unfold State.wakeSyn
  repeat' first
    | with_reducible assumption
    | exact List.Subset.trans (by decide) hp
    | intro _ _ _
    | intro _ _
    | intro _
    | with_reducible apply Evolves.ite
    | with_reducible apply State.synStart_evolves
    | with_reducible apply Evolves.each

theorem State.settled_evolves (h : Evolves ps s₀ s) (hp : [.powerRegs] ⊆ ps) :
    Evolves ps s₀ (s.settled) := by
  unfold State.settled
  repeat' first
    | with_reducible assumption
    | exact List.Subset.trans (by decide) hp
    | exact Nat.le_of_ble_eq_true rfl
    | exact Field.ix_lt _ _
    | with_reducible apply regPart_power
    | with_reducible apply State.setFlag_evolves

theorem State.enterRest_evolves (h : Evolves ps s₀ s) (hp : [.power, .link, .tamid, .test, .systemRegs, .powerRegs,
    .testRegs, .tamidRegs, .keyRegs] ⊆ ps) :
    Evolves ps s₀ (s.enterRest) := by
  unfold State.enterRest
  repeat' first
    | with_reducible assumption
    | exact List.Subset.trans (by decide) hp
    | exact Nat.le_of_ble_eq_true rfl
    | exact Field.ix_lt _ _
    | with_reducible apply regPart_test
    | with_reducible apply regPart_power
    | with_reducible apply regPart_tamid
    | with_reducible apply regPart_key
    | with_reducible apply regPart_system
    | intro _ _ _
    | intro _ _
    | intro _
    | with_reducible apply Evolves.ite
    | with_reducible apply State.bistCut_evolves
    | with_reducible apply State.setFlag_evolves
    | with_reducible apply State.setFld_evolves
    | with_reducible apply State.startEntry_evolves
    | with_reducible apply State.complete_evolves
    | with_reducible apply State.settled_evolves
    | with_reducible apply Evolves.each

theorem State.enterDoze_evolves (h : Evolves ps s₀ s) (hp : [.line, .host, .lanes, .fuse, .power, .link, .counters,
    .attic, .tamid, .systemRegs, .powerRegs, .lineRegs, .hostRegs, .tamidRegs, .keyRegs] ⊆ ps) :
    Evolves ps s₀ (s.enterDoze) := by
  unfold State.enterDoze
  repeat' first
    | with_reducible assumption
    | exact List.Subset.trans (by decide) hp
    | exact Nat.le_of_ble_eq_true rfl
    | exact Field.ix_lt _ _
    | with_reducible apply regPart_tamid
    | with_reducible apply regPart_key
    | with_reducible apply regPart_system
    | with_reducible apply regPart_power
    | with_reducible apply regPart_line
    | with_reducible apply regPart_host
    | intro _ _ _
    | intro _ _
    | intro _
    | with_reducible apply State.setFld_evolves
    | with_reducible apply State.complete_evolves
    | with_reducible apply State.lineClocksStop_evolves
    | with_reducible apply State.hostClocksStop_evolves
    | with_reducible apply Evolves.each
    | with_reducible apply Evolves.power

theorem State.cdRampDown_evolves {c} (h : Evolves ps s₀ s) (hp : [.cdac, .cdacRegs] ⊆ ps) :
    Evolves ps s₀ (s.cdRampDown c) := by
  unfold State.cdRampDown
  repeat' first
    | with_reducible assumption
    | exact List.Subset.trans (by decide) hp
    | exact Nat.le_of_ble_eq_true rfl
    | exact Field.ix_lt _ _
    | with_reducible apply regPart_cd
    | with_reducible apply regPart_cdac
    | exact fun k => k
    | exact fun _ => Nat.zero_le _
    | with_reducible apply State.setFld_evolves
    | with_reducible apply State.setFlag_evolves
    | with_reducible apply State.setCdQueue_evolves

theorem State.lineRxVotes_evolves {n} (h : Evolves ps s₀ s) (hp : [.power, .powerRegs] ⊆ ps) :
    Evolves ps s₀ (s.lineRxVotes n) := by
  unfold State.lineRxVotes
  repeat' first
    | with_reducible assumption
    | exact List.Subset.trans (by decide) hp
    | with_reducible apply State.putVote_evolves

theorem State.txVotes_evolves {n} (h : Evolves ps s₀ s) (hp : [.power, .powerRegs] ⊆ ps) :
    Evolves ps s₀ (s.txVotes n) := by
  unfold State.txVotes
  repeat' first
    | with_reducible assumption
    | exact List.Subset.trans (by decide) hp
    | with_reducible apply State.txVote_evolves

theorem State.loopsEnd_evolves (h : Evolves ps s₀ s) (hp : [.power, .powerRegs, .testRegs, .hostRegs] ⊆ ps) :
    Evolves ps s₀ (s.loopsEnd) := by
  unfold State.loopsEnd
  repeat' first
    | with_reducible assumption
    | exact List.Subset.trans (by decide) hp
    | exact Nat.le_of_ble_eq_true rfl
    | exact Field.ix_lt _ _
    | with_reducible apply regPart_power
    | with_reducible apply regPart_test
    | with_reducible apply regPart_host
    | intro _ _ _
    | intro _ _
    | intro _
    | with_reducible apply State.txVotes_evolves
    | with_reducible apply State.lineRxVotes_evolves
    | with_reducible apply State.setFld_evolves
    | with_reducible apply State.hostVotes_evolves
    | with_reducible apply Evolves.each

theorem State.enterDeep_evolves (h : Evolves ps s₀ s) (hp : [.line, .host, .fuse, .power, .link, .counters, .attic,
    .cdac, .chain, .tamid, .test, .systemRegs, .powerRegs, .testRegs, .lineRegs, .hostRegs, .tamidRegs, .chainRegs,
        .cdacRegs] ⊆ ps) :
    Evolves ps s₀ (s.enterDeep) := by
  unfold State.enterDeep
  repeat' first
    | with_reducible assumption
    | exact List.Subset.trans (by decide) hp
    | exact Nat.le_of_ble_eq_true rfl
    | exact Field.ix_lt _ _
    | with_reducible apply regPart_test
    | with_reducible apply regPart_power
    | with_reducible apply regPart_mc
    | with_reducible apply regPart_chainCtl
    | with_reducible apply regPart_tamid
    | with_reducible apply regPart_cd
    | with_reducible apply regPart_cdac
    | with_reducible apply regPart_system
    | with_reducible apply regPart_line
    | with_reducible apply regPart_host
    | intro _ _ _
    | intro _ _
    | intro _
    | with_reducible apply State.bistCut_evolves
    | with_reducible apply State.setFlag_evolves
    | with_reducible apply State.setFld_evolves
    | with_reducible apply State.loopsEnd_evolves
    | with_reducible apply State.tamidStop_evolves
    | with_reducible apply State.txFall_evolves
    | with_reducible apply State.htFall_evolves
    | with_reducible apply State.cdRampDown_evolves
    | with_reducible apply Evolves.each
    | with_reducible apply Evolves.power

theorem State.enterPower_evolves {st} (h : Evolves ps s₀ s) (hp : [.line, .host, .lanes, .fuse, .power, .link,
    .counters, .attic, .cdac, .chain, .tamid, .test, .systemRegs, .powerRegs, .testRegs, .lineRegs, .hostRegs,
        .tamidRegs, .chainRegs, .cdacRegs, .keyRegs] ⊆ ps) :
    Evolves ps s₀ (s.enterPower st) := by
  unfold State.enterPower
  repeat' first
    | with_reducible assumption
    | exact List.Subset.trans (by decide) hp
    | with_reducible apply Evolves.ite
    | with_reducible apply State.enterDoze_evolves
    | with_reducible apply State.enterRest_evolves
    | with_reducible apply State.enterDeep_evolves
    | with_reducible apply State.complete_evolves
    | with_reducible apply State.settled_evolves

theorem State.powerSettle_evolves (h : Evolves ps s₀ s) (hp : [.line, .host, .lanes, .fuse, .power, .link, .counters,
    .attic, .cdac, .chain, .tamid, .test, .systemRegs, .powerRegs, .testRegs, .lineRegs, .hostRegs, .tamidRegs,
        .chainRegs, .cdacRegs, .keyRegs] ⊆ ps) :
    Evolves ps s₀ (s.powerSettle) := by
  unfold State.powerSettle
  repeat' first
    | with_reducible assumption
    | exact List.Subset.trans (by decide) hp
    | with_reducible apply Evolves.ite
    | with_reducible apply State.enterPower_evolves
    | with_reducible apply State.complete_evolves
    | with_reducible apply State.settled_evolves
    | split
    | dsimp only
    | with_reducible apply Evolves.power

theorem State.leaveRest_evolves {next} (h : Evolves ps s₀ s) (hp : [.line, .host, .lanes, .fuse, .power, .link,
    .counters, .attic, .cdac, .chain, .tamid, .test, .systemRegs, .powerRegs, .testRegs, .lineRegs, .hostRegs,
        .tamidRegs, .chainRegs, .cdacRegs, .keyRegs] ⊆ ps) :
    Evolves ps s₀ (s.leaveRest next) := by
  unfold State.leaveRest
  repeat' first
    | with_reducible assumption
    | exact List.Subset.trans (by decide) hp
    | exact Nat.le_of_ble_eq_true rfl
    | exact Field.ix_lt _ _
    | with_reducible apply regPart_test
    | with_reducible apply regPart_mc
    | with_reducible apply regPart_chainCtl
    | with_reducible apply regPart_cd
    | with_reducible apply regPart_cdac
    | with_reducible apply regPart_line
    | with_reducible apply regPart_host
    | with_reducible apply regPart_power
    | with_reducible apply regPart_system
    | with_reducible apply regPart_key
    | with_reducible apply regPart_tamid
    | intro _ _ _
    | intro _ _
    | intro _
    | with_reducible apply Evolves.ite
    | with_reducible apply State.setFld_evolves
    | with_reducible apply State.complete_evolves
    | with_reducible apply State.setFlag_evolves
    | with_reducible apply State.wakeRequest_evolves
    | with_reducible apply State.powerSettle_evolves
    | with_reducible apply Evolves.each
    | with_reducible apply Evolves.power

theorem State.powerState_evolves {o st} (h : Evolves ps s₀ s) (hp : [.line, .host, .lanes, .fuse, .power, .link,
    .counters, .attic, .cdac, .chain, .tamid, .test, .systemRegs, .powerRegs, .testRegs, .lineRegs, .hostRegs,
        .tamidRegs, .chainRegs, .cdacRegs, .keyRegs] ⊆ ps) :
    Evolves ps s₀ (s.powerState o st) := by
  unfold State.powerState
  repeat' first
    | with_reducible assumption
    | exact List.Subset.trans (by decide) hp
    | with_reducible apply Evolves.ite
    | with_reducible apply State.reply_evolves
    | with_reducible apply State.accept_evolves
    | with_reducible apply State.complete_evolves
    | with_reducible apply State.leaveRest_evolves
    | with_reducible apply State.enterPower_evolves

theorem State.unmarkWake_evolves {d} (h : Evolves ps s₀ s) (hp : [.power] ⊆ ps) :
    Evolves ps s₀ (s.unmarkWake d) := by
  unfold State.unmarkWake
  repeat' first
    | with_reducible assumption
    | exact List.Subset.trans (by decide) hp
    | with_reducible apply Evolves.power

theorem State.retained_evolves {d} (h : Evolves ps s₀ s) (hp : [.line, .host, .lanes, .fuse, .power, .link, .counters,
    .attic, .cdac, .chain, .tamid, .test, .systemRegs, .powerRegs, .clockRegs, .testRegs, .lineRegs, .hostRegs,
        .tamidRegs, .chainRegs, .cdacRegs, .keyRegs] ⊆ ps) :
    Evolves ps s₀ (s.retained d) := by
  unfold State.retained
  repeat' first
    | with_reducible assumption
    | exact List.Subset.trans (by decide) hp
    | with_reducible apply Evolves.ite
    | with_reducible apply State.startWake_evolves
    | with_reducible apply State.unmarkWake_evolves
    | with_reducible apply State.powerSettle_evolves
    | with_reducible apply State.idleSyn_evolves
    | with_reducible apply State.setDom_evolves

theorem State.entryStep_evolves {d} (h : Evolves ps s₀ s) (hp : [.line, .host, .lanes, .fuse, .power, .link,
    .counters, .attic, .hk, .cdac, .chain, .tamid, .test, .systemRegs, .powerRegs, .clockRegs, .hkRegs, .testRegs,
    .lineRegs, .hostRegs, .tamidRegs, .chainRegs, .cdacRegs, .keyRegs] ⊆ ps) :
    Evolves ps s₀ (s.entryStep d) := by
  unfold State.entryStep
  repeat' first
    | with_reducible assumption
    | exact List.Subset.trans (by decide) hp
    | intro _ _ _
    | intro _ _
    | intro _
    | with_reducible apply Evolves.ite
    | with_reducible apply State.retained_evolves
    | with_reducible apply State.unmarkWake_evolves
    | with_reducible apply State.domainStops_evolves
    | with_reducible apply State.quiesced_evolves
    | with_reducible apply State.quiesce_evolves
    | with_reducible apply State.startWake_evolves
    | with_reducible apply State.setDom_evolves
    | with_reducible apply State.countAbandoned_evolves
    | with_reducible apply State.isolateSources_evolves
    | split
    | dsimp only
    | with_reducible apply Evolves.power

theorem State.deepDecide_evolves (h : Evolves ps s₀ s) (hp : [.power, .powerRegs] ⊆ ps) :
    Evolves ps s₀ (s.deepDecide) := by
  unfold State.deepDecide
  repeat' first
    | with_reducible assumption
    | exact List.Subset.trans (by decide) hp
    | exact Nat.le_of_ble_eq_true rfl
    | exact Field.ix_lt _ _
    | with_reducible apply regPart_power
    | with_reducible apply Evolves.ite
    | with_reducible apply State.setFld_evolves
    | with_reducible apply State.setFlag_evolves
    | with_reducible apply Evolves.power

theorem State.deepEntries_evolves (h : Evolves ps s₀ s) (hp : [.power, .powerRegs] ⊆ ps) :
    Evolves ps s₀ (s.deepEntries) := by
  unfold State.deepEntries
  repeat' first
    | with_reducible assumption
    | exact List.Subset.trans (by decide) hp
    | intro _ _ _
    | intro _ _
    | intro _
    | with_reducible apply Evolves.ite
    | with_reducible apply State.startEntry_evolves
    | with_reducible apply Evolves.each

theorem State.deepRetain_evolves (h : Evolves ps s₀ s) (hp : [.line, .host, .lanes, .fuse, .power, .link, .counters,
    .attic, .hk, .chain, .tamid, .systemRegs, .powerRegs, .hkRegs, .lineRegs, .hostRegs, .tamidRegs, .chainRegs] ⊆ ps) :
    Evolves ps s₀ (s.deepRetain) := by
  unfold State.deepRetain
  repeat' first
    | with_reducible assumption
    | exact List.Subset.trans (by decide) hp
    | intro _ _ _
    | intro _ _
    | intro _
    | with_reducible apply Evolves.ite
    | with_reducible apply State.domainStops_evolves
    | with_reducible apply State.quiesced_evolves
    | with_reducible apply State.setDom_evolves
    | with_reducible apply State.isolateSources_evolves
    | with_reducible apply Evolves.when
    | with_reducible apply Evolves.each
    | split
    | dsimp only

theorem State.deepTrigger_evolves (h : Evolves ps s₀ s) (hp : [.power, .powerRegs] ⊆ ps) :
    Evolves ps s₀ (s.deepTrigger) := by
  unfold State.deepTrigger
  repeat' first
    | with_reducible assumption
    | exact List.Subset.trans (by decide) hp
    | exact Nat.le_of_ble_eq_true rfl
    | exact Field.ix_lt _ _
    | with_reducible apply regPart_power
    | intro _ _ _
    | intro _ _
    | intro _
    | with_reducible apply Evolves.ite
    | with_reducible apply State.setFlag_evolves
    | with_reducible apply State.wakeRequest_evolves
    | with_reducible apply Evolves.each
    | with_reducible apply Evolves.power

theorem State.lineRxSleep_evolves {mask} (h : Evolves ps s₀ s) (hp : [.power, .powerRegs] ⊆ ps) :
    Evolves ps s₀ (s.lineRxSleep mask) := by
  unfold State.lineRxSleep
  repeat' first
    | with_reducible assumption
    | exact List.Subset.trans (by decide) hp
    | exact Nat.le_of_ble_eq_true rfl
    | exact Field.ix_lt _ _
    | with_reducible apply regPart_power
    | intro _ _ _
    | intro _ _
    | intro _
    | with_reducible apply State.setFld_evolves
    | with_reducible apply State.lineRxVotes_evolves
    | with_reducible apply Evolves.each

theorem State.lineLoopEnter_evolves {n code} (h : Evolves ps s₀ s) (hp : [.line, .host, .lanes, .fuse, .power, .link,
    .counters, .attic, .tamid, .systemRegs, .powerRegs, .memProtRegs, .testRegs, .lineRegs, .hostRegs, .tamidRegs] ⊆
    ps) :
    Evolves ps s₀ (s.lineLoopEnter n code) := by
  unfold State.lineLoopEnter
  repeat' first
    | with_reducible assumption
    | exact List.Subset.trans (by decide) hp
    | exact Nat.le_of_ble_eq_true rfl
    | exact Field.ix_lt _ _
    | with_reducible apply regPart_test
    | with_reducible apply regPart_power
    | with_reducible apply regPart_memProt
    | with_reducible apply regPart_tamid
    | with_reducible apply regPart_host
    | with_reducible apply regPart_system
    | with_reducible apply regPart_line
    | with_reducible apply Evolves.ite
    | with_reducible apply State.txVotes_evolves
    | with_reducible apply State.lineRxVotes_evolves
    | with_reducible apply State.setFld_evolves
    | with_reducible apply State.acqStart_evolves

theorem State.lineLoopLeave_evolves {n} (h : Evolves ps s₀ s) (hp : [.line, .host, .lanes, .fuse, .power, .link,
    .counters, .attic, .tamid, .systemRegs, .powerRegs, .memProtRegs, .testRegs, .lineRegs, .hostRegs, .tamidRegs] ⊆
    ps) :
    Evolves ps s₀ (s.lineLoopLeave n) := by
  unfold State.lineLoopLeave
  repeat' first
    | with_reducible assumption
    | exact List.Subset.trans (by decide) hp
    | exact Nat.le_of_ble_eq_true rfl
    | exact Field.ix_lt _ _
    | with_reducible apply regPart_test
    | with_reducible apply regPart_power
    | with_reducible apply regPart_memProt
    | with_reducible apply regPart_tamid
    | with_reducible apply regPart_host
    | with_reducible apply regPart_system
    | with_reducible apply regPart_line
    | intro _ _ _
    | intro _ _
    | intro _
    | with_reducible apply State.setFld_evolves
    | with_reducible apply State.acqStart_evolves
    | with_reducible apply State.txVotes_evolves
    | with_reducible apply State.lineRxVotes_evolves
    | with_reducible apply State.unsettleAll_evolves
    | with_reducible apply Evolves.when

theorem State.hostLoopEnter_evolves {m code} (h : Evolves ps s₀ s) (hp : [.line, .host, .lanes, .fuse, .power, .link,
    .counters, .attic, .systemRegs, .powerRegs, .memProtRegs, .lineRegs, .hostRegs] ⊆ ps) :
    Evolves ps s₀ (s.hostLoopEnter m code) := by
  unfold State.hostLoopEnter
  repeat' first
    | with_reducible assumption
    | exact List.Subset.trans (by decide) hp
    | exact Nat.le_of_ble_eq_true rfl
    | exact Field.ix_lt _ _
    | with_reducible apply regPart_host
    | with_reducible apply regPart_power
    | with_reducible apply regPart_memProt
    | with_reducible apply regPart_line
    | with_reducible apply regPart_system
    | with_reducible apply Evolves.ite
    | with_reducible apply State.hostVotes_evolves
    | with_reducible apply State.setFld_evolves
    | with_reducible apply State.hostAcqStart_evolves

theorem State.hostLoopLeave_evolves {m} (h : Evolves ps s₀ s) (hp : [.line, .host, .lanes, .fuse, .power, .link,
    .counters, .attic, .systemRegs, .powerRegs, .memProtRegs, .lineRegs, .hostRegs] ⊆ ps) :
    Evolves ps s₀ (s.hostLoopLeave m) := by
  unfold State.hostLoopLeave
  repeat' first
    | with_reducible assumption
    | exact List.Subset.trans (by decide) hp
    | exact Nat.le_of_ble_eq_true rfl
    | exact Field.ix_lt _ _
    | with_reducible apply regPart_memProt
    | with_reducible apply regPart_line
    | with_reducible apply regPart_system
    | with_reducible apply regPart_power
    | with_reducible apply regPart_host
    | with_reducible apply Evolves.ite
    | with_reducible apply State.setFld_evolves
    | with_reducible apply State.hostAcqStart_evolves
    | with_reducible apply State.unsettleHost_evolves
    | with_reducible apply State.unsettle_evolves
    | with_reducible apply State.htFall_evolves
    | with_reducible apply State.hostRxStop_evolves
    | with_reducible apply State.hostVotes_evolves
    | split

theorem State.loopChange_evolves {kind unit code} (h : Evolves ps s₀ s) (hp : [.line, .host, .lanes, .fuse, .power,
    .link, .counters, .attic, .tamid, .systemRegs, .powerRegs, .memProtRegs, .testRegs, .lineRegs, .hostRegs,
        .tamidRegs] ⊆ ps) :
    Evolves ps s₀ (s.loopChange kind unit code) := by
  unfold State.loopChange
  repeat' first
    | with_reducible assumption
    | exact List.Subset.trans (by decide) hp
    | exact Nat.le_of_ble_eq_true rfl
    | exact Field.ix_lt _ _
    | with_reducible apply regPart_test
    | with_reducible apply regPart_power
    | with_reducible apply regPart_memProt
    | with_reducible apply regPart_tamid
    | with_reducible apply regPart_host
    | with_reducible apply regPart_system
    | with_reducible apply regPart_line
    | with_reducible apply Evolves.ite
    | with_reducible apply State.lineLoopLeave_evolves
    | with_reducible apply State.lineLoopEnter_evolves
    | with_reducible apply State.hostLoopLeave_evolves
    | with_reducible apply State.hostLoopEnter_evolves
    | with_reducible apply State.setFld_evolves

theorem State.loopback_evolves {o kind unit code} (h : Evolves ps s₀ s) (hp : [.line, .host, .lanes, .fuse, .power,
    .link, .counters, .attic, .tamid, .systemRegs, .powerRegs, .memProtRegs, .testRegs, .lineRegs, .hostRegs,
        .tamidRegs, .keyRegs] ⊆ ps) :
    Evolves ps s₀ (s.loopback o kind unit code) := by
  unfold State.loopback
  repeat' first
    | with_reducible assumption
    | exact List.Subset.trans (by decide) hp
    | with_reducible apply Evolves.ite
    | with_reducible apply State.reply_evolves
    | with_reducible apply State.loopChange_evolves
    | split

theorem State.resetStatus_evolves {lo hi} (h : Evolves ps s₀ s) (hp : [.systemRegs, .fuseRegs, .powerRegs, .clockRegs,
    .memProtRegs, .hkRegs, .thermRegs, .counterRegs, .testRegs, .lineRegs, .hostRegs, .tamidRegs, .chainRegs,
        .cdacRegs, .pantryRegs, .keyRegs, .otherRegs] ⊆ ps) :
    Evolves ps s₀ (s.resetStatus lo hi) := by
  unfold State.resetStatus
  repeat' first
    | with_reducible assumption
    | exact List.Subset.trans (by decide) hp
    | exact Nat.le_of_ble_eq_true rfl
    | exact Field.ix_lt _ _
    | exact regPart_all (List.Subset.trans (by decide) hp)
    | intro _ _ _
    | intro _ _
    | intro _
    | with_reducible apply State.setReg_evolves
    | with_reducible apply Evolves.each

theorem State.resetWindow_evolves {lo hi} (h : Evolves ps s₀ s) (hp : [.systemRegs, .fuseRegs, .powerRegs, .clockRegs,
    .memProtRegs, .hkRegs, .thermRegs, .counterRegs, .testRegs, .lineRegs, .hostRegs, .tamidRegs, .chainRegs,
        .cdacRegs, .pantryRegs, .keyRegs, .otherRegs] ⊆ ps) :
    Evolves ps s₀ (s.resetWindow lo hi) := by
  unfold State.resetWindow
  repeat' first
    | with_reducible assumption
    | exact List.Subset.trans (by decide) hp
    | exact Nat.le_of_ble_eq_true rfl
    | exact Field.ix_lt _ _
    | exact regPart_all (List.Subset.trans (by decide) hp)
    | intro _ _ _
    | intro _ _
    | intro _
    | with_reducible apply State.setReg_evolves
    | with_reducible apply Evolves.each

theorem State.lineRxReset_evolves {n} (h : Evolves ps s₀ s) (hp : [.line, .systemRegs, .fuseRegs, .powerRegs,
    .clockRegs, .memProtRegs, .hkRegs, .thermRegs, .counterRegs, .testRegs, .lineRegs, .hostRegs, .tamidRegs,
    .chainRegs, .cdacRegs, .pantryRegs, .keyRegs, .otherRegs] ⊆ ps) :
    Evolves ps s₀ (s.lineRxReset n) := by
  unfold State.lineRxReset
  repeat' first
    | with_reducible assumption
    | exact List.Subset.trans (by decide) hp
    | exact Nat.le_of_ble_eq_true rfl
    | exact Field.ix_lt _ _
    | exact Field.lt _
    | with_reducible apply regPart_line
    | intro _ _ _
    | intro _ _
    | intro _
    | with_reducible apply Evolves.ite
    | with_reducible apply State.resetWindow_evolves
    | with_reducible apply State.resetStatus_evolves
    | with_reducible apply Evolves.each
    | with_reducible apply State.modLine_evolves
    | with_reducible apply State.setFld_evolves
    | split
    | dsimp only

theorem State.lineTxReset_evolves {n} (h : Evolves ps s₀ s) (hp : [.line, .systemRegs, .fuseRegs, .powerRegs,
    .clockRegs, .memProtRegs, .hkRegs, .thermRegs, .counterRegs, .testRegs, .lineRegs, .hostRegs, .tamidRegs,
        .chainRegs, .cdacRegs, .pantryRegs, .keyRegs, .otherRegs] ⊆ ps) :
    Evolves ps s₀ (s.lineTxReset n) := by
  unfold State.lineTxReset
  repeat' first
    | with_reducible assumption
    | exact List.Subset.trans (by decide) hp
    | intro _ _ _
    | intro _ _
    | intro _
    | with_reducible apply State.modTx_evolves
    | with_reducible apply State.resetStatus_evolves
    | with_reducible apply Evolves.each

theorem State.hostRxReset_evolves {m} (h : Evolves ps s₀ s) (hp : [.host, .systemRegs, .fuseRegs, .powerRegs,
    .clockRegs, .memProtRegs, .hkRegs, .thermRegs, .counterRegs, .testRegs, .lineRegs, .hostRegs, .tamidRegs,
    .chainRegs, .cdacRegs, .pantryRegs, .keyRegs, .otherRegs] ⊆ ps) :
    Evolves ps s₀ (s.hostRxReset m) := by
  unfold State.hostRxReset
  repeat' first
    | with_reducible assumption
    | exact List.Subset.trans (by decide) hp
    | intro _ _ _
    | intro _ _
    | intro _
    | with_reducible apply Evolves.ite
    | with_reducible apply State.resetStatus_evolves
    | with_reducible apply Evolves.each
    | with_reducible apply State.modHost_evolves
    | split
    | dsimp only

theorem State.hostTxReset_evolves {m} (h : Evolves ps s₀ s) (hp : [.host, .systemRegs, .fuseRegs, .powerRegs,
    .clockRegs, .memProtRegs, .hkRegs, .thermRegs, .counterRegs, .testRegs, .lineRegs, .hostRegs, .tamidRegs,
    .chainRegs, .cdacRegs, .pantryRegs, .keyRegs, .otherRegs] ⊆ ps) :
    Evolves ps s₀ (s.hostTxReset m) := by
  unfold State.hostTxReset
  repeat' first
    | with_reducible assumption
    | exact List.Subset.trans (by decide) hp
    | exact Nat.le_of_ble_eq_true rfl
    | exact Field.ix_lt _ _
    | exact Field.lt _
    | with_reducible apply regPart_host
    | intro _ _ _
    | intro _ _
    | intro _
    | with_reducible apply Evolves.ite
    | with_reducible apply State.resetStatus_evolves
    | with_reducible apply Evolves.each
    | with_reducible apply State.modHost_evolves
    | with_reducible apply State.setFlag_evolves
    | split
    | dsimp only

theorem State.chainReset_evolves {j} (h : Evolves ps s₀ s) (hp : [.chain, .systemRegs, .fuseRegs, .powerRegs,
    .clockRegs, .memProtRegs, .hkRegs, .thermRegs, .counterRegs, .testRegs, .lineRegs, .hostRegs, .tamidRegs,
        .chainRegs, .cdacRegs, .pantryRegs, .keyRegs, .otherRegs] ⊆ ps) :
    Evolves ps s₀ (s.chainReset j) := by
  unfold State.chainReset
  repeat' first
    | with_reducible assumption
    | exact List.Subset.trans (by decide) hp
    | with_reducible apply State.modChain_evolves
    | with_reducible apply State.resetWindow_evolves
    | with_reducible apply State.resetStatus_evolves

theorem State.tamidReset_evolves {i} (h : Evolves ps s₀ s) (hp : [.tamid, .systemRegs, .fuseRegs, .powerRegs,
    .clockRegs, .memProtRegs, .hkRegs, .thermRegs, .counterRegs, .testRegs, .lineRegs, .hostRegs, .tamidRegs,
        .chainRegs, .cdacRegs, .pantryRegs, .keyRegs, .otherRegs] ⊆ ps) :
    Evolves ps s₀ (s.tamidReset i) := by
  unfold State.tamidReset
  repeat' first
    | with_reducible assumption
    | exact List.Subset.trans (by decide) hp
    | exact fun k => k
    | exact fun _ => Nat.zero_le _
    | with_reducible apply State.modTamid_evolves
    | with_reducible apply State.resetStatus_evolves

theorem State.roomReset_evolves {r} (h : Evolves ps s₀ s) (hp : [.rooms] ⊆ ps) :
    Evolves ps s₀ (s.roomReset r) := by
  unfold State.roomReset
  repeat' first
    | with_reducible assumption
    | exact List.Subset.trans (by decide) hp
    | with_reducible apply Evolves.ite
    | with_reducible apply Evolves.rooms

theorem State.functionReset_evolves {d} (h : Evolves ps s₀ s) (hp : [.line, .host, .hk, .chain, .tamid, .pantry,
    .rooms, .systemRegs, .fuseRegs, .powerRegs, .clockRegs, .memProtRegs, .hkRegs, .thermRegs, .counterRegs, .testRegs,
        .lineRegs, .hostRegs, .tamidRegs, .chainRegs, .cdacRegs, .pantryRegs, .keyRegs, .otherRegs] ⊆ ps) :
    Evolves ps s₀ (s.functionReset d) := by
  unfold State.functionReset
  repeat' first
    | with_reducible assumption
    | exact List.Subset.trans (by decide) hp
    | exact fun k => k
    | exact fun _ => Nat.zero_le _
    | intro _ _ _
    | intro _ _
    | intro _
    | with_reducible apply Evolves.ite
    | with_reducible apply State.chainReset_evolves
    | with_reducible apply State.lineRxReset_evolves
    | with_reducible apply State.lineTxReset_evolves
    | with_reducible apply State.hostRxReset_evolves
    | with_reducible apply State.hostTxReset_evolves
    | with_reducible apply State.modPantry_evolves
    | with_reducible apply State.resetStatus_evolves
    | with_reducible apply State.tamidReset_evolves
    | with_reducible apply State.roomReset_evolves
    | with_reducible apply Evolves.each
    | with_reducible apply Evolves.hk
    | with_reducible apply Evolves.pantry

theorem State.bankWindows_evolves {d} (h : Evolves ps s₀ s) (hp : [.systemRegs, .fuseRegs, .powerRegs, .clockRegs,
    .memProtRegs, .hkRegs, .thermRegs, .counterRegs, .testRegs, .lineRegs, .hostRegs, .tamidRegs, .chainRegs,
        .cdacRegs, .pantryRegs, .keyRegs, .otherRegs] ⊆ ps) :
    Evolves ps s₀ (s.bankWindows d) := by
  unfold State.bankWindows
  repeat' first
    | with_reducible assumption
    | exact List.Subset.trans (by decide) hp
    | with_reducible apply Evolves.ite
    | with_reducible apply State.resetWindow_evolves

theorem State.domainCut_evolves {d} (h : Evolves ps s₀ s) (hp : [.line, .host, .lanes, .fuse, .power, .link,
    .counters, .attic, .hk, .chain, .tamid, .pantry, .rooms, .systemRegs, .fuseRegs, .powerRegs, .clockRegs,
    .memProtRegs, .hkRegs, .thermRegs, .counterRegs, .testRegs, .lineRegs, .hostRegs, .tamidRegs, .chainRegs,
    .cdacRegs, .pantryRegs, .keyRegs, .otherRegs] ⊆ ps) :
    Evolves ps s₀ (s.domainCut d) := by
  unfold State.domainCut
  repeat' first
    | with_reducible assumption
    | exact List.Subset.trans (by decide) hp
    | intro _ _ _
    | intro _ _
    | intro _
    | with_reducible apply Evolves.ite
    | with_reducible apply State.bankWindows_evolves
    | with_reducible apply State.functionReset_evolves
    | with_reducible apply State.domainStops_evolves
    | with_reducible apply State.quiesced_evolves
    | with_reducible apply State.setDom_evolves
    | with_reducible apply State.isolateSources_evolves
    | split
    | dsimp only

theorem State.deepHold_evolves {d} (h : Evolves ps s₀ s) (hp : [.line, .host, .lanes, .fuse, .power, .link, .counters,
    .attic, .hk, .chain, .tamid, .systemRegs, .powerRegs, .hkRegs, .lineRegs, .hostRegs, .tamidRegs, .chainRegs] ⊆ ps) :
    Evolves ps s₀ (s.deepHold d) := by
  unfold State.deepHold
  repeat' first
    | with_reducible assumption
    | exact List.Subset.trans (by decide) hp
    | intro _ _ _
    | intro _ _
    | intro _
    | with_reducible apply Evolves.ite
    | with_reducible apply State.setVote_evolves
    | with_reducible apply State.txHold_evolves
    | with_reducible apply State.setHtState_evolves
    | with_reducible apply State.trainAbandon_evolves
    | with_reducible apply State.tamidStop_evolves
    | with_reducible apply State.domainStops_evolves
    | with_reducible apply Evolves.each

theorem State.deepStart_evolves {test args} (h : Evolves ps s₀ s) (hp : [.line, .host, .lanes, .fuse, .power, .link,
    .counters, .attic, .hk, .chain, .tamid, .test, .systemRegs, .powerRegs, .hkRegs, .lineRegs, .hostRegs, .tamidRegs,
        .chainRegs] ⊆ ps) :
    Evolves ps s₀ (s.deepStart test args) := by
  unfold State.deepStart
  repeat' first
    | with_reducible assumption
    | exact List.Subset.trans (by decide) hp
    | intro _ _ _
    | intro _ _
    | intro _
    | with_reducible apply State.deepHold_evolves
    | with_reducible apply Evolves.each
    | with_reducible apply Evolves.test

theorem State.deepTest_evolves {o test args} (h : Evolves ps s₀ s) (hp : [.line, .host, .lanes, .fuse, .power, .link,
    .counters, .attic, .hk, .chain, .tamid, .test, .systemRegs, .powerRegs, .hkRegs, .lineRegs, .hostRegs, .tamidRegs,
        .chainRegs, .keyRegs] ⊆ ps) :
    Evolves ps s₀ (s.deepTest o test args) := by
  unfold State.deepTest
  repeat' first
    | with_reducible assumption
    | exact List.Subset.trans (by decide) hp
    | with_reducible apply Evolves.ite
    | with_reducible apply State.reply_evolves
    | with_reducible apply State.accept_evolves
    | with_reducible apply State.deepStart_evolves

theorem State.deepRelease_evolves {d} (h : Evolves ps s₀ s) (hp : [.line, .host, .lanes, .fuse, .power, .link,
    .counters, .attic, .chain, .tamid, .systemRegs, .powerRegs, .memProtRegs, .lineRegs, .hostRegs, .tamidRegs,
        .chainRegs] ⊆ ps) :
    Evolves ps s₀ (s.deepRelease d) := by
  unfold State.deepRelease
  repeat' first
    | with_reducible assumption
    | exact List.Subset.trans (by decide) hp
    | with_reducible apply Evolves.ite
    | with_reducible apply State.clearVote_evolves
    | with_reducible apply State.chainReady_evolves
    | with_reducible apply State.acqStart_evolves
    | with_reducible apply State.txRamp_evolves
    | with_reducible apply State.txStart_evolves
    | with_reducible apply State.hostAcqStart_evolves
    | with_reducible apply State.htStart_evolves

theorem State.bankZero_evolves {b} (h : Evolves ps s₀ s) (hp : [.mem, .rooms, .systemRegs, .fuseRegs, .powerRegs,
    .clockRegs, .memProtRegs, .hkRegs, .thermRegs, .counterRegs, .testRegs, .lineRegs, .hostRegs, .tamidRegs,
        .chainRegs, .cdacRegs, .pantryRegs, .keyRegs, .otherRegs] ⊆ ps) :
    Evolves ps s₀ (s.bankZero b) := by
  unfold State.bankZero
  repeat' first
    | with_reducible assumption
    | exact List.Subset.trans (by decide) hp
    | with_reducible apply Evolves.ite
    | with_reducible apply State.setRetLost_evolves
    | with_reducible apply State.wipeBank_evolves
    | with_reducible apply State.resetWindow_evolves
    | with_reducible apply Evolves.rooms

theorem State.deepInit_evolves {x} (h : Evolves ps s₀ s) (hp : [.mem, .line, .host, .hk, .chain, .tamid, .pantry,
    .rooms, .systemRegs, .fuseRegs, .powerRegs, .clockRegs, .memProtRegs, .hkRegs, .thermRegs, .counterRegs, .testRegs,
        .lineRegs, .hostRegs, .tamidRegs, .chainRegs, .cdacRegs, .pantryRegs, .keyRegs, .otherRegs] ⊆ ps) :
    Evolves ps s₀ (s.deepInit x) := by
  unfold State.deepInit
  repeat' first
    | with_reducible assumption
    | exact List.Subset.trans (by decide) hp
    | intro _ _ _
    | intro _ _
    | intro _
    | with_reducible apply Evolves.ite
    | with_reducible apply State.bankWindows_evolves
    | with_reducible apply State.functionReset_evolves
    | with_reducible apply State.bankZero_evolves
    | with_reducible apply Evolves.each

theorem State.deepEnd_evolves {x bytes} (h : Evolves ps s₀ s) (hp : [.mem, .line, .host, .lanes, .fuse, .power, .link,
    .counters, .attic, .hk, .chain, .tamid, .pantry, .rooms, .test, .systemRegs, .fuseRegs, .powerRegs, .clockRegs,
        .memProtRegs, .hkRegs, .thermRegs, .counterRegs, .testRegs, .lineRegs, .hostRegs, .tamidRegs, .chainRegs,
            .cdacRegs, .pantryRegs, .keyRegs, .otherRegs] ⊆ ps) :
    Evolves ps s₀ (s.deepEnd x bytes) := by
  unfold State.deepEnd
  repeat' first
    | with_reducible assumption
    | exact List.Subset.trans (by decide) hp
    | intro _ _ _
    | intro _ _
    | intro _
    | with_reducible apply State.deepInit_evolves
    | with_reducible apply State.deepRelease_evolves
    | with_reducible apply State.complete_evolves
    | with_reducible apply Evolves.each
    | with_reducible apply Evolves.test

theorem State.deepLost_evolves {stop} (h : Evolves ps s₀ s) (hp : [.free, .link, .tamid, .test, .systemRegs,
    .tamidRegs, .keyRegs] ⊆ ps) :
    Evolves ps s₀ (s.deepLost stop) := by
  unfold State.deepLost
  repeat' first
    | with_reducible assumption
    | exact List.Subset.trans (by decide) hp
    | with_reducible apply State.complete_evolves
    | refine State.fresh_evolves ?_ ?_ (by assumption)
    | split
    | dsimp only
    | with_reducible apply State.fresh_snd
    | with_reducible apply Evolves.test

theorem State.throttleBegin_evolves (h : Evolves ps s₀ s) (hp : [.free, .lanes, .fuse, .link, .counters, .attic,
    .tamid, .pantry, .systemRegs, .thermRegs, .lineRegs, .tamidRegs, .pantryRegs] ⊆ ps) :
    Evolves ps s₀ (s.throttleBegin) := by
  unfold State.throttleBegin
  repeat' first
    | with_reducible assumption
    | exact List.Subset.trans (by decide) hp
    | exact Nat.le_of_ble_eq_true rfl
    | exact Field.ix_lt _ _
    | with_reducible apply regPart_therm
    | with_reducible apply regPart_line
    | with_reducible apply regPart_system
    | with_reducible apply Evolves.ite
    | with_reducible apply State.bump_evolves
    | with_reducible apply State.setFlag_evolves
    | with_reducible apply State.raiseOpen_evolves
    | with_reducible apply State.wantProfile_evolves
    | with_reducible apply State.setProfileNow_evolves
    | split
    | dsimp only
    | with_reducible apply Evolves.lanes

theorem State.throttleEnd_evolves (h : Evolves ps s₀ s) (hp : [.lanes, .fuse, .tamid, .pantry, .systemRegs,
    .thermRegs, .lineRegs, .tamidRegs, .pantryRegs] ⊆ ps)
    :
    Evolves ps s₀ (s.throttleEnd) := by
  unfold State.throttleEnd
  repeat' first
    | with_reducible assumption
    | exact List.Subset.trans (by decide) hp
    | exact Nat.le_of_ble_eq_true rfl
    | exact Field.ix_lt _ _
    | with_reducible apply regPart_therm
    | with_reducible apply regPart_system
    | with_reducible apply regPart_line
    | with_reducible apply Evolves.ite
    | with_reducible apply State.quiet_evolves
    | with_reducible apply State.setFlag_evolves
    | with_reducible apply State.wantProfile_evolves
    | with_reducible apply State.setProfileNow_evolves
    | split
    | dsimp only
    | with_reducible apply Evolves.lanes

theorem State.warningEnd_evolves (h : Evolves ps s₀ s) (hp : [.fuse, .thermRegs] ⊆ ps) :
    Evolves ps s₀ (s.warningEnd) := by
  unfold State.warningEnd
  repeat' first
    | with_reducible assumption
    | exact List.Subset.trans (by decide) hp
    | exact Nat.le_of_ble_eq_true rfl
    | exact Field.ix_lt _ _
    | with_reducible apply regPart_therm
    | with_reducible apply State.quiet_evolves
    | with_reducible apply State.setFlag_evolves

theorem State.refreshPeriod_evolves (h : Evolves ps s₀ s) (hp : [.lanes, .fuse, .tamid, .pantry, .thermal,
    .systemRegs, .thermRegs, .lineRegs, .tamidRegs, .pantryRegs] ⊆ ps) :
    Evolves ps s₀ (s.refreshPeriod) := by
  unfold State.refreshPeriod
  repeat' first
    | with_reducible assumption
    | exact List.Subset.trans (by decide) hp
    | exact Nat.le_of_ble_eq_true rfl
    | exact Field.ix_lt _ _
    | with_reducible apply regPart_line
    | with_reducible apply regPart_system
    | with_reducible apply regPart_therm
    | with_reducible apply Evolves.ite
    | with_reducible apply State.setFld_evolves
    | with_reducible apply State.warningEnd_evolves
    | with_reducible apply State.throttleEnd_evolves
    | with_reducible apply Evolves.thermal

theorem State.testLevels_evolves {on} (h : Evolves ps s₀ s) (hp : [.lanes, .fuse, .tamid, .pantry, .thermal,
    .systemRegs, .thermRegs, .lineRegs, .tamidRegs, .pantryRegs] ⊆ ps) :
    Evolves ps s₀ (s.testLevels on) := by
  unfold State.testLevels
  repeat' first
    | with_reducible assumption
    | exact List.Subset.trans (by decide) hp
    | exact Nat.le_of_ble_eq_true rfl
    | exact Field.ix_lt _ _
    | with_reducible apply regPart_therm
    | with_reducible apply regPart_system
    | with_reducible apply regPart_line
    | with_reducible apply State.refreshPeriod_evolves
    | with_reducible apply State.setFlag_evolves

theorem State.shutLatch_evolves {site code} (h : Evolves ps s₀ s) (hp : [.power, .attic, .boot, .thermal, .test,
    .systemRegs, .powerRegs, .thermRegs, .testRegs] ⊆ ps) :
    Evolves ps s₀ (s.shutLatch site code) := by
  unfold State.shutLatch
  have k : Evolves ps s₀ s.bistCut := State.bistCut_evolves h (List.Subset.trans (by decide) hp)
  repeat' first
    | with_reducible assumption
    | exact List.Subset.trans (by decide) hp
    | with_reducible apply State.setFlag_evolves
    | with_reducible apply State.setFld_evolves
    | with_reducible apply State.bump_evolves
    | with_reducible apply Evolves.atticBoot
    | with_reducible apply Evolves.thermal

theorem State.shutCut_evolves (h : Evolves ps s₀ s) (hp : [.mem, .line, .host, .lanes, .fuse, .power, .link, .counters,
    .attic, .hk, .cdac, .chain, .tamid, .pantry, .rooms, .systemRegs, .fuseRegs, .powerRegs, .clockRegs, .memProtRegs,
        .hkRegs, .thermRegs, .counterRegs, .testRegs, .lineRegs, .hostRegs, .tamidRegs, .chainRegs, .cdacRegs,
            .pantryRegs, .keyRegs, .otherRegs] ⊆ ps) :
    Evolves ps s₀ (s.shutCut) := by
  unfold State.shutCut
  repeat' first
    | with_reducible assumption
    | exact List.Subset.trans (by decide) hp
    | intro _ _ _
    | intro _ _
    | intro _
    | with_reducible apply State.cdClamp_evolves
    | with_reducible apply State.loopsEnd_evolves
    | with_reducible apply State.txDrop_evolves
    | with_reducible apply State.setHtState_evolves
    | with_reducible apply State.tamidStop_evolves
    | with_reducible apply State.domainCut_evolves
    | with_reducible apply State.setRetLost_evolves
    | with_reducible apply State.wipeBank_evolves
    | with_reducible apply Evolves.each
    | with_reducible apply Evolves.rooms

theorem State.shutRetain_evolves (h : Evolves ps s₀ s) (hp : [.lanes, .fuse, .power, .clock, .memory, .powerRegs,
    .memProtRegs] ⊆ ps) :
    Evolves ps s₀ (s.shutRetain) := by
  unfold State.shutRetain
  repeat' first
    | with_reducible assumption
    | exact List.Subset.trans (by decide) hp
    | exact Nat.le_of_ble_eq_true rfl
    | exact Field.ix_lt _ _
    | exact Field.lt _
    | with_reducible apply regPart_memProt
    | with_reducible apply regPart_power
    | intro _ _ _
    | intro _ _
    | intro _
    | with_reducible apply Evolves.ite
    | with_reducible apply State.setDom_evolves
    | with_reducible apply State.isolateSources_evolves
    | with_reducible apply State.setFlag_evolves
    | with_reducible apply State.setFld_evolves
    | with_reducible apply Evolves.lanes
    | with_reducible apply Evolves.power
    | with_reducible apply Evolves.clock
    | with_reducible apply Evolves.memory

theorem State.shutdown_evolves {site code} (h : Evolves ps s₀ s) (hp : [.mem, .line, .host, .lanes, .fuse, .power,
    .link, .counters, .attic, .clock, .boot, .hk, .cdac, .chain, .tamid, .memory, .pantry, .rooms, .thermal, .test,
        .systemRegs, .fuseRegs, .powerRegs, .clockRegs, .memProtRegs, .hkRegs, .thermRegs, .counterRegs, .testRegs,
            .lineRegs, .hostRegs, .tamidRegs, .chainRegs, .cdacRegs, .pantryRegs, .keyRegs, .otherRegs] ⊆ ps) :
    Evolves ps s₀ (s.shutdown site code) := by
  unfold State.shutdown
  repeat' first
    | with_reducible assumption
    | exact List.Subset.trans (by decide) hp
    | with_reducible apply State.shutRetain_evolves
    | with_reducible apply State.shutCut_evolves
    | with_reducible apply State.shutLatch_evolves

theorem State.warnJudge_evolves (h : Evolves ps s₀ s) (hp : [.free, .fuse, .link, .counters, .attic, .systemRegs,
    .thermRegs] ⊆ ps) :
    Evolves ps s₀ (s.warnJudge) := by
  unfold State.warnJudge
  repeat' first
    | with_reducible assumption
    | exact List.Subset.trans (by decide) hp
    | exact Nat.le_of_ble_eq_true rfl
    | exact Field.ix_lt _ _
    | with_reducible apply regPart_therm
    | with_reducible apply regPart_system
    | with_reducible apply Evolves.ite
    | with_reducible apply State.warningEnd_evolves
    | with_reducible apply State.raiseOpen_evolves
    | with_reducible apply State.bump_evolves
    | with_reducible apply State.setFlag_evolves

theorem State.throttleJudge_evolves (h : Evolves ps s₀ s) (hp : [.free, .lanes, .fuse, .link, .counters, .attic,
    .tamid, .pantry, .systemRegs, .thermRegs, .lineRegs, .tamidRegs, .pantryRegs] ⊆ ps) :
    Evolves ps s₀ (s.throttleJudge) := by
  unfold State.throttleJudge
  repeat' first
    | with_reducible assumption
    | exact List.Subset.trans (by decide) hp
    | with_reducible apply Evolves.ite
    | with_reducible apply State.throttleEnd_evolves
    | with_reducible apply State.throttleBegin_evolves

theorem State.mgmtLost_evolves {lost} (h : Evolves ps s₀ s) (hp : [.mem, .fuse, .link, .counters, .attic, .systemRegs,
    .memProtRegs] ⊆ ps) :
    Evolves ps s₀ (s.mgmtLost lost) := by
  unfold State.mgmtLost
  repeat' first
    | with_reducible assumption
    | exact List.Subset.trans (by decide) hp
    | intro _ _ _
    | intro _ _
    | intro _
    | with_reducible apply State.raise_evolves
    | with_reducible apply State.setRetLost_evolves
    | with_reducible apply State.wipeBank_evolves
    | with_reducible apply Evolves.each

theorem State.timeJump_evolves (h : Evolves ps s₀ s) (hp : [.power, .clock, .clockRegs] ⊆ ps) :
    Evolves ps s₀ (s.timeJump) := by
  unfold State.timeJump
  repeat' first
    | with_reducible assumption
    | exact List.Subset.trans (by decide) hp
    | exact Nat.le_of_ble_eq_true rfl
    | exact Field.ix_lt _ _
    | with_reducible apply regPart_clock
    | with_reducible apply State.setFlag_evolves
    | with_reducible apply Evolves.power
    | with_reducible apply Evolves.clock

theorem State.retryTaken_evolves (h : Evolves ps s₀ s) (hp : [.link, .tamid, .systemRegs, .tamidRegs, .keyRegs] ⊆ ps) :
    Evolves ps s₀ (s.retryTaken) := by
  unfold State.retryTaken
  repeat' first
    | with_reducible assumption
    | exact List.Subset.trans (by decide) hp
    | exact fun k => k
    | exact fun _ => Nat.zero_le _
    | intro _ _ _
    | intro _ _
    | intro _
    | with_reducible apply State.reply_evolves
    | with_reducible apply Evolves.each
    | with_reducible apply Evolves.link

theorem State.thermalRestart_evolves {x} {lost} (h : Evolves ps s₀ s) (hp : [.free, .mem, .lanes, .fuse, .power,
    .link, .counters, .attic, .clock, .boot, .tamid, .pantry, .thermal, .test, .systemRegs, .powerRegs, .clockRegs,
    .memProtRegs, .thermRegs, .lineRegs, .tamidRegs, .pantryRegs, .keyRegs] ⊆ ps) :
    Evolves ps s₀ (s.thermalRestart x lost) := by
  unfold State.thermalRestart
  repeat' first
    | with_reducible assumption
    | exact List.Subset.trans (by decide) hp
    | exact Nat.le_of_ble_eq_true rfl
    | exact Field.ix_lt _ _
    | exact Field.lt _
    | with_reducible apply regPart_power
    | with_reducible apply regPart_system
    | with_reducible apply regPart_therm
    | intro _ _ _
    | intro _ _
    | intro _
    | with_reducible apply Evolves.ite
    | with_reducible apply State.retryTaken_evolves
    | with_reducible apply State.timeJump_evolves
    | with_reducible apply State.mgmtLost_evolves
    | with_reducible apply State.refreshPeriod_evolves
    | with_reducible apply State.deepLost_evolves
    | with_reducible apply State.pantryClear_evolves
    | with_reducible apply State.setDom_evolves
    | with_reducible apply State.releaseSources_evolves
    | with_reducible apply State.raise_evolves
    | with_reducible apply Evolves.each
    | with_reducible apply State.cmdReady_evolves
    | with_reducible apply State.setFld_evolves
    | with_reducible apply State.setReg_evolves
    | split
    | dsimp only
    | with_reducible apply Evolves.atticBoot
    | with_reducible apply Evolves.atticThermal
    | with_reducible apply Evolves.bootThermal
    | with_reducible apply Evolves.attic
    | with_reducible apply Evolves.boot
    | with_reducible apply Evolves.thermal

theorem State.restartReset_evolves {x} (h : Evolves ps s₀ s) (hp : [.lanes, .fuse, .link, .counters, .attic, .boot,
    .tamid, .pantry, .thermal, .systemRegs, .powerRegs, .thermRegs, .lineRegs, .tamidRegs, .pantryRegs] ⊆ ps) :
    Evolves ps s₀ (s.restartReset x) := by
  unfold State.restartReset
  repeat' first
    | with_reducible assumption
    | exact List.Subset.trans (by decide) hp
    | exact Nat.le_of_ble_eq_true rfl
    | exact Field.ix_lt _ _
    | exact Field.lt _
    | with_reducible apply regPart_power
    | with_reducible apply regPart_therm
    | intro _ _ _
    | intro _ _
    | intro _
    | with_reducible apply Evolves.ite
    | with_reducible apply State.refreshPeriod_evolves
    | with_reducible apply State.raise_evolves
    | with_reducible apply State.setFlag_evolves
    | with_reducible apply State.setFld_evolves
    | split
    | dsimp only
    | with_reducible apply Evolves.bootThermal
    | with_reducible apply Evolves.boot
    | with_reducible apply Evolves.thermal

theorem State.lifecycleReject_evolves {reason target} (h : Evolves ps s₀ s) (hp : [.fuse, .link, .counters, .attic,
    .systemRegs] ⊆ ps) :
    Evolves ps s₀ (s.lifecycleReject reason target) := by
  unfold State.lifecycleReject
  repeat' first
    | with_reducible assumption
    | exact List.Subset.trans (by decide) hp
    | with_reducible apply State.raise_evolves

theorem State.lifecycleAdvance_evolves {o target token} (h : Evolves ps s₀ s) (hp : [.fuse, .link, .counters, .attic,
    .tamid, .test, .systemRegs, .tamidRegs, .keyRegs] ⊆ ps) :
    Evolves ps s₀ (s.lifecycleAdvance o target token) := by
  unfold State.lifecycleAdvance
  repeat' first
    | with_reducible assumption
    | exact List.Subset.trans (by decide) hp
    | with_reducible apply Evolves.ite
    | with_reducible apply State.reply_evolves
    | with_reducible apply State.lifecycleReject_evolves
    | with_reducible apply State.accept_evolves
    | with_reducible apply Evolves.test

theorem State.programDone_evolves {target verified} (h : Evolves ps s₀ s) (hp : [.lanes, .fuse, .link, .counters,
    .attic, .tamid, .pantry, .thermal, .test, .systemRegs, .thermRegs, .lineRegs, .tamidRegs, .pantryRegs, .keyRegs] ⊆
    ps) :
    Evolves ps s₀ (s.programDone target verified) := by
  unfold State.programDone
  repeat' first
    | with_reducible assumption
    | exact List.Subset.trans (by decide) hp
    | with_reducible apply Evolves.ite
    | with_reducible apply State.refreshPeriod_evolves
    | with_reducible apply State.raise_evolves
    | with_reducible apply State.complete_evolves
    | with_reducible apply State.enterSafe_evolves
    | with_reducible apply State.lifecycleReject_evolves
    | with_reducible apply Evolves.test

theorem State.jtagPrivate_evolves {x1} (h : Evolves ps s₀ s) (hp : [.line, .host, .lanes, .fuse, .power, .link,
    .counters, .attic, .hk, .chain, .tamid, .test, .systemRegs, .powerRegs, .hkRegs, .lineRegs, .hostRegs, .tamidRegs,
    .chainRegs] ⊆ ps) :
    Evolves ps s₀ (s.jtagPrivate x1) := by
  unfold State.jtagPrivate
  repeat' first
    | with_reducible assumption
    | exact List.Subset.trans (by decide) hp
    | intro _ _ _
    | intro _ _
    | intro _
    | with_reducible apply Evolves.ite
    | with_reducible apply State.deepStart_evolves
    | split
    | dsimp only

theorem State.bistNext_evolves {sl} (h : Evolves ps s₀ s) (hp : [.testRegs] ⊆ ps) :
    Evolves ps s₀ (s.bistNext sl) := by
  unfold State.bistNext
  repeat' first
    | with_reducible assumption
    | exact List.Subset.trans (by decide) hp
    | exact Nat.le_of_ble_eq_true rfl
    | exact Field.ix_lt _ _
    | with_reducible apply regPart_test
    | with_reducible apply Evolves.ite
    | with_reducible apply State.bump_evolves
    | with_reducible apply State.setFld_evolves

theorem State.bistAct_evolves {sl cell} (h : Evolves ps s₀ s) (hp : [.free, .mem, .line, .fuse, .power, .link,
    .counters, .attic, .rooms, .test, .systemRegs, .powerRegs, .testRegs, .lineRegs] ⊆ ps) :
    Evolves ps s₀ (s.bistAct sl cell) := by
  unfold State.bistAct
  repeat' first
    | with_reducible assumption
    | exact List.Subset.trans (by decide) hp
    | with_reducible apply Evolves.ite
    | with_reducible apply State.degradingSlice_evolves
    | with_reducible apply State.cellDegrading_evolves
    | with_reducible apply State.engineFault_evolves
    | split
    | dsimp only

theorem State.bistJudged_evolves {sl pass coverage duration cell} (h : Evolves ps s₀ s) (hp : [.free, .mem, .line,
    .fuse, .power, .link, .counters, .attic, .rooms, .test, .systemRegs, .powerRegs, .testRegs, .lineRegs] ⊆ ps) :
    Evolves ps s₀ (s.bistJudged sl pass coverage duration cell) := by
  unfold State.bistJudged
  repeat' first
    | with_reducible assumption
    | exact List.Subset.trans (by decide) hp
    | with_reducible apply Evolves.ite
    | with_reducible apply State.bistRecord_evolves
    | with_reducible apply State.bistAct_evolves
    | with_reducible apply State.raise_evolves

theorem State.bistRider_evolves {sl result coverage duration cell} (h : Evolves ps s₀ s) (hp : [.free, .mem, .line,
    .fuse, .power, .link, .counters, .attic, .rooms, .test, .systemRegs, .powerRegs, .testRegs, .lineRegs] ⊆ ps) :
    Evolves ps s₀ (s.bistRider sl result coverage duration cell) := by
  unfold State.bistRider
  repeat' first
    | with_reducible assumption
    | exact List.Subset.trans (by decide) hp
    | with_reducible apply Evolves.ite
    | with_reducible apply State.bistJudged_evolves
    | with_reducible apply State.bistRecord_evolves
    | split
    | dsimp only
    | with_reducible apply Evolves.test

theorem State.bistEnd_evolves {sl result coverage duration cell} (h : Evolves ps s₀ s) (hp : [.free, .mem, .line,
    .fuse, .power, .link, .counters, .attic, .rooms, .test, .systemRegs, .powerRegs, .testRegs, .lineRegs] ⊆ ps) :
    Evolves ps s₀ (s.bistEnd sl result coverage duration cell) := by
  unfold State.bistEnd
  repeat' first
    | with_reducible assumption
    | exact List.Subset.trans (by decide) hp
    | with_reducible apply Evolves.ite
    | with_reducible apply State.bistJudged_evolves
    | with_reducible apply State.bistLeave_evolves
    | with_reducible apply State.bistCut_evolves
    | with_reducible apply State.bistRider_evolves
    | split

theorem State.bistEnable_evolves {on} (h : Evolves ps s₀ s) (hp : [.power, .test, .powerRegs, .testRegs] ⊆ ps) :
    Evolves ps s₀ (s.bistEnable on) := by
  unfold State.bistEnable
  repeat' first
    | with_reducible assumption
    | exact List.Subset.trans (by decide) hp
    | exact Nat.le_of_ble_eq_true rfl
    | exact Field.ix_lt _ _
    | with_reducible apply regPart_power
    | with_reducible apply regPart_test
    | with_reducible apply Evolves.ite
    | with_reducible apply State.setFlag_evolves
    | with_reducible apply State.bistCut_evolves

end Sys2Proof.Machine
end

