-- ==== Sys2Proof/Laws/Control.lean ====
section
/-! SUPPORT. What each operation can do (`Evolves`): register accesses, packets, boot, resets, commands and the tick. -/

namespace Sys2Proof.Machine

variable {ps : List Part} {s₀ s : State}

theorem State.rcClear_evolves {a arriving} (h : Evolves ps s₀ s) (hp : [.line, .systemRegs, .fuseRegs, .powerRegs,
    .clockRegs, .memProtRegs, .hkRegs, .thermRegs, .counterRegs, .testRegs, .lineRegs, .hostRegs, .tamidRegs,
        .chainRegs, .cdacRegs, .pantryRegs, .keyRegs, .otherRegs] ⊆ ps) :
    Evolves ps s₀ (s.rcClear a arriving) := by
  unfold State.rcClear
  repeat' first
    | with_reducible assumption
    | exact List.Subset.trans (by decide) hp
    | exact Nat.le_of_ble_eq_true rfl
    | exact Field.ix_lt _ _
    | exact regPart_all (List.Subset.trans (by decide) hp)
    | with_reducible apply Evolves.ite
    | with_reducible apply State.setReg_evolves
    | with_reducible apply State.modRx_evolves

theorem State.readLatch_evolves {a port} (h : Evolves ps s₀ s) (hp : [.fuse, .counters, .systemRegs, .fuseRegs,
    .powerRegs, .clockRegs, .memProtRegs, .hkRegs, .thermRegs, .counterRegs, .testRegs, .lineRegs, .hostRegs,
        .tamidRegs, .chainRegs, .cdacRegs, .pantryRegs, .keyRegs, .otherRegs] ⊆ ps) :
    Evolves ps s₀ (s.readLatch a port) := by
  unfold State.readLatch
  repeat' first
    | with_reducible assumption
    | exact List.Subset.trans (by decide) hp
    | exact regPart_all (List.Subset.trans (by decide) hp)
    | with_reducible apply Evolves.ite
    | exact State.readFfr0_evolves h (List.Subset.trans (by decide) hp) rfl
    | exact State.readDtLo_evolves h (List.Subset.trans (by decide) hp) rfl
    | exact State.readCalSecLo_evolves h (List.Subset.trans (by decide) hp) rfl
    | exact State.readCntLive_evolves h (List.Subset.trans (by decide) hp) rfl
    | with_reducible apply State.setReg_evolves

theorem State.readWord_evolves {a port arriving} (h : Evolves ps s₀ s) (hp : [.line, .fuse, .counters, .systemRegs,
    .fuseRegs, .powerRegs, .clockRegs, .memProtRegs, .hkRegs, .thermRegs, .counterRegs, .testRegs, .lineRegs,
        .hostRegs, .tamidRegs, .chainRegs, .cdacRegs, .pantryRegs, .keyRegs, .otherRegs] ⊆ ps) :
    ∀ {y z}, s.readWord a port arriving = (y, z) → Evolves ps s₀ z := by
  intro a' t e
  cases e
  exact State.rcClear_evolves (State.readLatch_evolves h (List.Subset.trans (by decide) hp)) (List.Subset.trans (by
      decide) hp)

theorem State.readWord_snd {a port arriving} (h : Evolves ps s₀ s) (hp : [.line, .fuse, .counters, .systemRegs,
    .fuseRegs, .powerRegs, .clockRegs, .memProtRegs, .hkRegs, .thermRegs, .counterRegs, .testRegs, .lineRegs,
        .hostRegs, .tamidRegs, .chainRegs, .cdacRegs, .pantryRegs, .keyRegs, .otherRegs] ⊆ ps) :
    Evolves ps s₀ (s.readWord a port arriving).2 := State.readWord_evolves h hp rfl

theorem State.store_evolves {a value arriving} (h : Evolves ps s₀ s) (hp : [.systemRegs, .fuseRegs, .powerRegs,
    .clockRegs, .memProtRegs, .hkRegs, .thermRegs, .counterRegs, .testRegs, .lineRegs, .hostRegs, .tamidRegs,
        .chainRegs, .cdacRegs, .pantryRegs, .keyRegs, .otherRegs] ⊆ ps) :
    Evolves ps s₀ (s.store a value arriving) := by
  unfold State.store
  repeat' first
    | with_reducible assumption
    | exact List.Subset.trans (by decide) hp
    | exact Nat.le_of_ble_eq_true rfl
    | exact Field.ix_lt _ _
    | exact regPart_all (List.Subset.trans (by decide) hp)
    | with_reducible apply State.setReg_evolves
    | split

theorem State.storeBut_evolves {a value keep} (h : Evolves ps s₀ s) (hp : [.systemRegs, .fuseRegs, .powerRegs,
    .clockRegs, .memProtRegs, .hkRegs, .thermRegs, .counterRegs, .testRegs, .lineRegs, .hostRegs, .tamidRegs,
        .chainRegs, .cdacRegs, .pantryRegs, .keyRegs, .otherRegs] ⊆ ps) :
    Evolves ps s₀ (s.storeBut a value keep) := by
  unfold State.storeBut
  repeat' first
    | with_reducible assumption
    | exact List.Subset.trans (by decide) hp
    | with_reducible apply State.store_evolves

theorem State.adcCtrlWrite_evolves {n value} (h : Evolves ps s₀ s) (hp : [.line, .systemRegs, .fuseRegs, .powerRegs,
    .clockRegs, .memProtRegs, .hkRegs, .thermRegs, .counterRegs, .testRegs, .lineRegs, .hostRegs, .tamidRegs,
        .chainRegs, .cdacRegs, .pantryRegs, .keyRegs, .otherRegs] ⊆ ps) :
    Evolves ps s₀ (s.adcCtrlWrite n value) := by
  unfold State.adcCtrlWrite
  repeat' first
    | with_reducible assumption
    | exact List.Subset.trans (by decide) hp
    | with_reducible apply Evolves.ite
    | with_reducible apply State.store_evolves
    | with_reducible apply State.setSpareState_evolves
    | with_reducible apply State.substRequest_evolves

theorem State.eqCtrlWrite_evolves {n value} (h : Evolves ps s₀ s) (hp : [.line, .host, .lanes, .fuse, .link,
    .counters, .attic, .tamid, .pantry, .systemRegs, .fuseRegs, .powerRegs, .clockRegs, .memProtRegs, .hkRegs,
    .thermRegs, .counterRegs, .testRegs, .lineRegs, .hostRegs, .tamidRegs, .chainRegs, .cdacRegs, .pantryRegs,
    .keyRegs, .otherRegs] ⊆ ps) :
    Evolves ps s₀ (s.eqCtrlWrite n value) := by
  unfold State.eqCtrlWrite
  repeat' first
    | with_reducible assumption
    | exact List.Subset.trans (by decide) hp
    | with_reducible apply Evolves.ite
    | with_reducible apply State.storeBut_evolves
    | with_reducible apply State.lineRxPrecode_evolves
    | with_reducible apply State.nlcEnable_evolves
    | with_reducible apply State.lineReacq_evolves

theorem State.txCtrlWrite_evolves {n} {value} (h : Evolves ps s₀ s) (hp : [.line, .fuse, .power, .link, .counters,
    .attic, .tamid, .pantry, .systemRegs, .fuseRegs, .powerRegs, .clockRegs, .memProtRegs, .hkRegs, .thermRegs,
    .counterRegs, .testRegs, .lineRegs, .hostRegs, .tamidRegs, .chainRegs, .cdacRegs, .pantryRegs, .keyRegs,
    .otherRegs] ⊆ ps) :
    Evolves ps s₀ (s.txCtrlWrite n value) := by
  unfold State.txCtrlWrite
  repeat' first
    | with_reducible assumption
    | exact List.Subset.trans (by decide) hp
    | exact Nat.le_of_ble_eq_true rfl
    | exact Field.ix_lt _ _
    | exact Field.lt _
    | with_reducible apply regPart_line
    | intro _ _ _
    | intro _ _
    | intro _
    | with_reducible apply Evolves.ite
    | with_reducible apply State.storeBut_evolves
    | with_reducible apply State.pdEnable_evolves
    | with_reducible apply State.txFirApply_evolves
    | with_reducible apply State.txPrecode_evolves
    | with_reducible apply State.squelchBits_evolves
    | with_reducible apply State.txDisable_evolves
    | with_reducible apply State.txEnable_evolves
    | with_reducible apply State.setFlag_evolves
    | split
    | dsimp only

theorem State.blockCtrl_evolves {b value snap clr} (h : Evolves ps s₀ s) (hp : [.line, .host, .lineRegs, .hostRegs] ⊆
    ps) :
    Evolves ps s₀ (s.blockCtrl b value snap clr) := by
  unfold State.blockCtrl
  repeat' first
    | with_reducible assumption
    | exact List.Subset.trans (by decide) hp
    | with_reducible apply Evolves.ite
    | with_reducible apply State.snapBlock_evolves
    | with_reducible apply State.clrBlock_evolves

theorem State.lineWrite_evolves {n off value arriving} (h : Evolves ps s₀ s) (hp : [.line, .host, .lanes, .fuse,
    .power, .link, .counters, .attic, .tamid, .pantry, .systemRegs, .fuseRegs, .powerRegs, .clockRegs, .memProtRegs,
        .hkRegs, .thermRegs, .counterRegs, .testRegs, .lineRegs, .hostRegs, .tamidRegs, .chainRegs, .cdacRegs,
            .pantryRegs, .keyRegs, .otherRegs] ⊆ ps) :
    Evolves ps s₀ (s.lineWrite n off value arriving) := by
  unfold State.lineWrite
  repeat' first
    | with_reducible assumption
    | exact List.Subset.trans (by decide) hp
    | exact nlcRegs_inBlock
    | exact pdRegs_inBlock
    | with_reducible apply Evolves.ite
    | with_reducible apply State.afeCtrlWrite_evolves
    | with_reducible apply State.adcCtrlWrite_evolves
    | with_reducible apply State.eqCtrlWrite_evolves
    | with_reducible apply State.nlcHostSwap_evolves
    | with_reducible apply State.blockCtrl_evolves
    | with_reducible apply State.store_evolves
    | with_reducible apply State.txCtrlWrite_evolves
    | with_reducible apply State.txPatSel_evolves
    | with_reducible apply State.storeBut_evolves
    | with_reducible apply State.pdSwap_evolves
    | with_reducible apply State.lineChkSel_evolves
    | with_reducible apply State.bankWrite_evolves

theorem State.htCtrlWrite_evolves {m value} (h : Evolves ps s₀ s) (hp : [.host, .power, .systemRegs, .fuseRegs,
    .powerRegs, .clockRegs, .memProtRegs, .hkRegs, .thermRegs, .counterRegs, .testRegs, .lineRegs, .hostRegs,
        .tamidRegs, .chainRegs, .cdacRegs, .pantryRegs, .keyRegs, .otherRegs] ⊆ ps) :
    Evolves ps s₀ (s.htCtrlWrite m value) := by
  unfold State.htCtrlWrite
  repeat' first
    | with_reducible assumption
    | exact List.Subset.trans (by decide) hp
    | exact Nat.le_of_ble_eq_true rfl
    | exact Field.ix_lt _ _
    | exact regPart_all (List.Subset.trans (by decide) hp)
    | with_reducible apply Evolves.ite
    | with_reducible apply State.storeBut_evolves
    | with_reducible apply State.htSquelch_evolves
    | with_reducible apply State.htPrecode_evolves
    | with_reducible apply State.htSleep_evolves
    | with_reducible apply State.htEnable_evolves
    | with_reducible apply State.htDisable_evolves
    | with_reducible apply State.htPresetApply_evolves
    | with_reducible apply State.setFld_evolves
    | with_reducible apply State.htFirApply_evolves

theorem State.hrCtrlWrite_evolves {m value} (h : Evolves ps s₀ s) (hp : [.line, .host, .lanes, .fuse, .power, .link,
    .counters, .attic, .systemRegs, .fuseRegs, .powerRegs, .clockRegs, .memProtRegs, .hkRegs, .thermRegs,
    .counterRegs, .testRegs, .lineRegs, .hostRegs, .tamidRegs, .chainRegs, .cdacRegs, .pantryRegs, .keyRegs,
    .otherRegs] ⊆ ps) :
    Evolves ps s₀ (s.hrCtrlWrite m value) := by
  unfold State.hrCtrlWrite
  repeat' first
    | with_reducible assumption
    | exact List.Subset.trans (by decide) hp
    | exact Nat.le_of_ble_eq_true rfl
    | exact Field.ix_lt _ _
    | exact regPart_all (List.Subset.trans (by decide) hp)
    | with_reducible apply Evolves.ite
    | with_reducible apply State.storeBut_evolves
    | with_reducible apply State.setFld_evolves
    | with_reducible apply State.hrPrecode_evolves
    | with_reducible apply State.hostCtle_evolves
    | with_reducible apply State.hrEnable_evolves
    | with_reducible apply State.hrSleep_evolves
    | with_reducible apply State.hostReacq_evolves

theorem State.hostWrite_evolves {m off value arriving} (h : Evolves ps s₀ s) (hp : [.line, .host, .lanes, .fuse,
    .power, .link, .counters, .attic, .systemRegs, .fuseRegs, .powerRegs, .clockRegs, .memProtRegs, .hkRegs,
    .thermRegs, .counterRegs, .testRegs, .lineRegs, .hostRegs, .tamidRegs, .chainRegs, .cdacRegs, .pantryRegs,
    .keyRegs, .otherRegs] ⊆ ps) :
    Evolves ps s₀ (s.hostWrite m off value arriving) := by
  unfold State.hostWrite
  repeat' first
    | with_reducible assumption
    | exact List.Subset.trans (by decide) hp
    | exact Nat.le_of_ble_eq_true rfl
    | exact Field.ix_lt _ _
    | exact regPart_all (List.Subset.trans (by decide) hp)
    | with_reducible apply Evolves.ite
    | with_reducible apply State.htCtrlWrite_evolves
    | with_reducible apply State.hrCtrlWrite_evolves
    | with_reducible apply State.store_evolves
    | with_reducible apply State.hostTrainStart_evolves
    | with_reducible apply State.hostPatSel_evolves
    | with_reducible apply State.storeBut_evolves
    | with_reducible apply State.blockCtrl_evolves
    | with_reducible apply State.hostChkSel_evolves
    | with_reducible apply State.setFlag_evolves

theorem State.systemWrite_evolves {off value arriving} (h : Evolves ps s₀ s) (hp : [.link, .systemRegs, .fuseRegs,
    .powerRegs, .clockRegs, .memProtRegs, .hkRegs, .thermRegs, .counterRegs, .testRegs, .lineRegs, .hostRegs,
        .tamidRegs, .chainRegs, .cdacRegs, .pantryRegs, .keyRegs, .otherRegs] ⊆ ps) :
    Evolves ps s₀ (s.systemWrite off value arriving) := by
  unfold State.systemWrite
  repeat' first
    | with_reducible assumption
    | exact List.Subset.trans (by decide) hp
    | with_reducible apply Evolves.ite
    | with_reducible apply State.attnEdge_evolves
    | with_reducible apply State.store_evolves

theorem State.restMaskWrite_evolves {a value} (h : Evolves ps s₀ s) (hp : [.power, .systemRegs, .fuseRegs, .powerRegs,
    .clockRegs, .memProtRegs, .hkRegs, .thermRegs, .counterRegs, .testRegs, .lineRegs, .hostRegs, .tamidRegs,
        .chainRegs, .cdacRegs, .pantryRegs, .keyRegs, .otherRegs] ⊆ ps) :
    Evolves ps s₀ (s.restMaskWrite a value) := by
  unfold State.restMaskWrite
  repeat' first
    | with_reducible assumption
    | exact List.Subset.trans (by decide) hp
    | intro _ _ _
    | intro _ _
    | intro _
    | with_reducible apply Evolves.ite
    | with_reducible apply State.store_evolves
    | with_reducible apply State.startEntry_evolves
    | with_reducible apply State.wakeRequest_evolves
    | with_reducible apply Evolves.each

theorem State.powerWrite_evolves {off value arriving} (h : Evolves ps s₀ s) (hp : [.power, .systemRegs, .fuseRegs,
    .powerRegs, .clockRegs, .memProtRegs, .hkRegs, .thermRegs, .counterRegs, .testRegs, .lineRegs, .hostRegs,
        .tamidRegs, .chainRegs, .cdacRegs, .pantryRegs, .keyRegs, .otherRegs] ⊆ ps) :
    Evolves ps s₀ (s.powerWrite off value arriving) := by
  unfold State.powerWrite
  repeat' first
    | with_reducible assumption
    | exact List.Subset.trans (by decide) hp
    | with_reducible apply Evolves.ite
    | with_reducible apply State.restMaskWrite_evolves
    | with_reducible apply State.lineRxSleep_evolves
    | with_reducible apply State.store_evolves

theorem State.clockWrite_evolves {off value arriving} (h : Evolves ps s₀ s) (hp : [.clock, .hk, .chain, .systemRegs,
    .fuseRegs, .powerRegs, .clockRegs, .memProtRegs, .hkRegs, .thermRegs, .counterRegs, .testRegs, .lineRegs,
        .hostRegs, .tamidRegs, .chainRegs, .cdacRegs, .pantryRegs, .keyRegs, .otherRegs] ⊆ ps) :
    Evolves ps s₀ (s.clockWrite off value arriving) := by
  unfold State.clockWrite
  repeat' first
    | with_reducible assumption
    | exact List.Subset.trans (by decide) hp
    | with_reducible apply Evolves.ite
    | with_reducible apply State.store_evolves
    | with_reducible apply State.syncRequest_evolves

theorem State.memWrite_evolves {off value arriving} (h : Evolves ps s₀ s) (hp : [.memory, .systemRegs, .fuseRegs,
    .powerRegs, .clockRegs, .memProtRegs, .hkRegs, .thermRegs, .counterRegs, .testRegs, .lineRegs, .hostRegs,
        .tamidRegs, .chainRegs, .cdacRegs, .pantryRegs, .keyRegs, .otherRegs] ⊆ ps) :
    Evolves ps s₀ (s.memWrite off value arriving) := by
  unfold State.memWrite
  repeat' first
    | with_reducible assumption
    | exact List.Subset.trans (by decide) hp
    | with_reducible apply Evolves.ite
    | with_reducible apply State.store_evolves
    | with_reducible apply State.bankOp_evolves

theorem State.hkWrite_evolves {off} {value} {arriving} (h : Evolves ps s₀ s) (hp : [.hk, .systemRegs, .fuseRegs,
    .powerRegs, .clockRegs, .memProtRegs, .hkRegs, .thermRegs, .counterRegs, .testRegs, .lineRegs, .hostRegs,
    .tamidRegs, .chainRegs, .cdacRegs, .pantryRegs, .keyRegs, .otherRegs] ⊆ ps) :
    Evolves ps s₀ (s.hkWrite off value arriving) := by
  unfold State.hkWrite
  repeat' first
    | with_reducible assumption
    | exact List.Subset.trans (by decide) hp
    | exact Nat.le_of_ble_eq_true rfl
    | exact Field.ix_lt _ _
    | exact Field.lt _
    | exact regPart_all (List.Subset.trans (by decide) hp)
    | with_reducible apply regPart_hk
    | intro _ _ _
    | intro _ _
    | intro _
    | with_reducible apply Evolves.ite
    | with_reducible apply State.store_evolves
    | with_reducible apply State.dropStrobes_evolves
    | with_reducible apply State.loadTimer_evolves
    | with_reducible apply Evolves.each
    | with_reducible apply State.setReg_evolves
    | split
    | dsimp only

theorem State.counterRegWrite_evolves {off value arriving} (h : Evolves ps s₀ s) (hp : [.counters, .systemRegs,
    .fuseRegs, .powerRegs, .clockRegs, .memProtRegs, .hkRegs, .thermRegs, .counterRegs, .testRegs, .lineRegs,
        .hostRegs, .tamidRegs, .chainRegs, .cdacRegs, .pantryRegs, .keyRegs, .otherRegs] ⊆ ps) :
    Evolves ps s₀ (s.counterRegWrite off value arriving) := by
  unfold State.counterRegWrite
  repeat' first
    | with_reducible assumption
    | exact List.Subset.trans (by decide) hp
    | with_reducible apply Evolves.ite
    | with_reducible apply State.counterSnap_evolves
    | with_reducible apply State.counterClr_evolves
    | with_reducible apply State.bwWrite_evolves
    | with_reducible apply State.counterWrite_evolves
    | with_reducible apply State.store_evolves

theorem State.tamidWrite_evolves {i off value arriving} (h : Evolves ps s₀ s) (hp : [.tamid, .systemRegs, .fuseRegs,
    .powerRegs, .clockRegs, .memProtRegs, .hkRegs, .thermRegs, .counterRegs, .testRegs, .lineRegs, .hostRegs,
        .tamidRegs, .chainRegs, .cdacRegs, .pantryRegs, .keyRegs, .otherRegs] ⊆ ps) :
    Evolves ps s₀ (s.tamidWrite i off value arriving) := by
  unfold State.tamidWrite
  repeat' first
    | with_reducible assumption
    | exact List.Subset.trans (by decide) hp
    | exact fun k => k
    | exact fun _ => Nat.zero_le _
    | with_reducible apply Evolves.ite
    | with_reducible apply State.shapeWrite_evolves
    | with_reducible apply State.store_evolves
    | with_reducible apply State.modTamid_evolves

theorem State.chainCtrlWrite_evolves {j value} (h : Evolves ps s₀ s) (hp : [.chain, .chainRegs] ⊆ ps) :
    Evolves ps s₀ (s.chainCtrlWrite j value) := by
  unfold State.chainCtrlWrite
  repeat' first
    | with_reducible assumption
    | exact List.Subset.trans (by decide) hp
    | exact Nat.le_of_ble_eq_true rfl
    | exact Field.ix_lt _ _
    | with_reducible apply regPart_mc
    | with_reducible apply regPart_chainCtl
    | with_reducible apply Evolves.ite
    | with_reducible apply State.mcReject_evolves
    | with_reducible apply State.setFlag_evolves
    | with_reducible apply State.mcForce_evolves
    | with_reducible apply State.mcStart_evolves
    | with_reducible apply State.mcStop_evolves
    | with_reducible apply State.mcSwap_evolves

theorem State.chainWrite_evolves {j off value arriving} (h : Evolves ps s₀ s) (hp : [.chain, .systemRegs, .fuseRegs,
    .powerRegs, .clockRegs, .memProtRegs, .hkRegs, .thermRegs, .counterRegs, .testRegs, .lineRegs, .hostRegs,
        .tamidRegs, .chainRegs, .cdacRegs, .pantryRegs, .keyRegs, .otherRegs] ⊆ ps) :
    Evolves ps s₀ (s.chainWrite j off value arriving) := by
  unfold State.chainWrite
  repeat' first
    | with_reducible assumption
    | exact List.Subset.trans (by decide) hp
    | with_reducible apply Evolves.ite
    | with_reducible apply State.chainCtrlWrite_evolves
    | with_reducible apply State.mcWrite_evolves
    | with_reducible apply State.store_evolves

theorem State.pantryRegWrite_evolves {off value arriving} (h : Evolves ps s₀ s) (hp : [.pantry, .systemRegs, .fuseRegs,
    .powerRegs, .clockRegs, .memProtRegs, .hkRegs, .thermRegs, .counterRegs, .testRegs, .lineRegs, .hostRegs,
        .tamidRegs, .chainRegs, .cdacRegs, .pantryRegs, .keyRegs, .otherRegs] ⊆ ps) :
    Evolves ps s₀ (s.pantryRegWrite off value arriving) := by
  unfold State.pantryRegWrite
  repeat' first
    | with_reducible assumption
    | exact List.Subset.trans (by decide) hp
    | with_reducible apply Evolves.ite
    | with_reducible apply State.pantryFreeze_evolves
    | with_reducible apply State.storeBut_evolves
    | with_reducible apply State.pantryClear_evolves
    | with_reducible apply State.store_evolves

theorem State.writeWord_evolves {a value arriving} (h : Evolves ps s₀ s) (hp : [.line, .host, .lanes, .fuse, .power,
    .link, .counters, .attic, .clock, .hk, .chain, .tamid, .memory, .pantry, .thermal, .test, .systemRegs, .fuseRegs,
        .powerRegs, .clockRegs, .memProtRegs, .hkRegs, .thermRegs, .counterRegs, .testRegs, .lineRegs, .hostRegs,
            .tamidRegs, .chainRegs, .cdacRegs, .pantryRegs, .keyRegs, .otherRegs] ⊆ ps) :
    Evolves ps s₀ (s.writeWord a value arriving) := by
  unfold State.writeWord
  repeat' first
    | with_reducible assumption
    | exact List.Subset.trans (by decide) hp
    | with_reducible apply Evolves.ite
    | with_reducible apply State.systemWrite_evolves
    | with_reducible apply State.store_evolves
    | with_reducible apply State.powerWrite_evolves
    | with_reducible apply State.clockWrite_evolves
    | with_reducible apply State.memWrite_evolves
    | with_reducible apply State.hkWrite_evolves
    | with_reducible apply State.testLevels_evolves
    | with_reducible apply State.counterRegWrite_evolves
    | with_reducible apply State.bistEnable_evolves
    | with_reducible apply State.lineWrite_evolves
    | with_reducible apply State.hostWrite_evolves
    | with_reducible apply State.tamidWrite_evolves
    | with_reducible apply State.chainWrite_evolves
    | with_reducible apply State.pantryRegWrite_evolves

theorem State.reach_evolves {d} (h : Evolves ps s₀ s) (hp : [.power, .powerRegs] ⊆ ps) :
    Evolves ps s₀ (s.reach d) := by
  unfold State.reach
  repeat' first
    | with_reducible assumption
    | exact List.Subset.trans (by decide) hp
    | with_reducible apply Evolves.ite
    | with_reducible apply State.setVote_evolves

theorem State.stall_evolves {d w} (h : Evolves ps s₀ s) (hp : [.power] ⊆ ps) :
    Evolves ps s₀ (s.stall d w) := by
  unfold State.stall
  repeat' first
    | with_reducible assumption
    | exact List.Subset.trans (by decide) hp
    | with_reducible apply Evolves.power

theorem State.accessDone_evolves {d} (h : Evolves ps s₀ s) (hp : [.power, .powerRegs] ⊆ ps) :
    Evolves ps s₀ (s.accessDone d) := by
  unfold State.accessDone
  repeat' first
    | with_reducible assumption
    | exact List.Subset.trans (by decide) hp
    | with_reducible apply Evolves.ite
    | with_reducible apply State.clearVote_evolves

theorem State.access_evolves {d w act} (h : Evolves ps s₀ s) (hp : [.power, .powerRegs] ⊆ ps)
    (k : ∀ t, Evolves ps s₀ t → Evolves ps s₀ (act t)) : Evolves ps s₀ (s.access d w act) := by
  unfold State.access
  split
  · exact k _ h
  · exact Evolves.ite (State.accessDone_evolves (k _ (State.reach_evolves h hp)) hp)
      (State.stall_evolves (State.reach_evolves h hp) (List.Subset.trans (by decide) hp))

theorem State.accessError_evolves {o a} (h : Evolves ps s₀ s) (hp : [.link, .tamid, .systemRegs, .tamidRegs, .keyRegs]
    ⊆ ps) :
    Evolves ps s₀ (s.accessError o a) := by
  unfold State.accessError
  repeat' first
    | with_reducible assumption
    | exact List.Subset.trans (by decide) hp
    | with_reducible apply State.reply_evolves

theorem State.readRegs_evolves {o x1 x2 x3} (h : Evolves ps s₀ s) (hp : [.line, .fuse, .power, .link, .counters, .tamid, .systemRegs, .fuseRegs, .powerRegs, .clockRegs, .memProtRegs, .hkRegs, .thermRegs, .counterRegs, .testRegs, .lineRegs, .hostRegs, .tamidRegs, .chainRegs, .cdacRegs, .pantryRegs, .keyRegs, .otherRegs] ⊆ ps) :
    Evolves ps s₀ (State.readRegs o x1 x2 x3 s) := by
  induction x1 generalizing s x2 x3 with
  | zero => exact State.reply_evolves h (List.Subset.trans (by decide) hp)
  | succ k ih =>
    refine State.access_evolves h (List.Subset.trans (by decide) hp) fun t ht => ?_
    exact ih (State.readWord_evolves (State.hallAccess_evolves ht (List.Subset.trans (by decide) hp))
      (List.Subset.trans (by decide) hp) rfl)

theorem State.writeRegs_evolves {o total x2} (h : Evolves ps s₀ s) (hp : [.line, .host, .lanes, .fuse, .power, .link, .counters, .attic, .clock, .hk, .chain, .tamid, .memory, .pantry, .thermal, .test, .systemRegs, .fuseRegs, .powerRegs, .clockRegs, .memProtRegs, .hkRegs, .thermRegs, .counterRegs, .testRegs, .lineRegs, .hostRegs, .tamidRegs, .chainRegs, .cdacRegs, .pantryRegs, .keyRegs, .otherRegs] ⊆ ps) :
    Evolves ps s₀ (State.writeRegs o total x2 s) := by
  induction x2 generalizing s with
  | nil => exact State.reply_evolves h (List.Subset.trans (by decide) hp)
  | cons p rest ih =>
    refine State.access_evolves h (List.Subset.trans (by decide) hp) fun t ht => ?_
    exact ih (State.writeWord_evolves (State.hallAccess_evolves ht (List.Subset.trans (by decide) hp))
      (List.Subset.trans (by decide) hp))

theorem State.memWord_evolves {a} (h : Evolves ps s₀ s) (hp : [.free] ⊆ ps) :
    ∀ {y z}, s.memWord a = (y, z) → Evolves ps s₀ z := by
  intro y z e
  have k : Evolves ps s₀ (s.memWord a).2 := by
    unfold State.memWord
    repeat' first
      | with_reducible assumption
      | exact List.Subset.trans (by decide) hp
      | intro _ _ _
      | intro _ _
      | intro _
      | with_reducible apply Evolves.ite
      | refine State.fresh_evolves ?_ ?_ (by assumption)
      | split
      | dsimp only
      | with_reducible apply State.fresh_snd
  rw [e] at k
  exact k

theorem State.memWord_snd {a} (h : Evolves ps s₀ s) (hp : [.free] ⊆ ps) :
    Evolves ps s₀ (s.memWord a).2 := State.memWord_evolves h hp rfl

theorem State.readMem_evolves {o x1 x2 x3 x4} (h : Evolves ps s₀ s) (hp : [.free, .mem, .fuse, .power, .link, .counters, .attic, .tamid, .memory, .rooms, .test, .systemRegs, .powerRegs, .memProtRegs, .testRegs, .tamidRegs, .pantryRegs, .keyRegs] ⊆ ps) :
    Evolves ps s₀ (State.readMem o x1 x2 x3 x4 s) := by
  induction x1 generalizing s x2 x3 x4 with
  | zero => exact State.reply_evolves h (List.Subset.trans (by decide) hp)
  | succ k ih =>
    refine State.access_evolves h (List.Subset.trans (by decide) hp) fun t ht => ?_
    have hu : ∀ c : Bool, ∀ f : WordFinding, Evolves ps s₀ (((t.hallAccess t.holderPort x2 4 false).when c fun s =>
        s.readFound x2 0 f).memWord x2).2 := fun c f =>
      State.memWord_snd (Evolves.when (State.hallAccess_evolves ht (List.Subset.trans (by decide) hp)) fun u hu =>
        State.readFound_evolves hu (List.Subset.trans (by decide) hp)) (List.Subset.trans (by decide) hp)
    exact Evolves.ite (State.accessError_evolves (hu _ _) (List.Subset.trans (by decide) hp)) (ih (hu _ _))

theorem State.readPantry_evolves {o x1 x2 x3} (h : Evolves ps s₀ s) (hp : [.power, .link, .counters, .tamid, .systemRegs, .powerRegs, .tamidRegs, .keyRegs] ⊆ ps) :
    Evolves ps s₀ (State.readPantry o x1 x2 x3 s) := by
  induction x1 generalizing s x2 x3 with
  | zero => exact State.reply_evolves h (List.Subset.trans (by decide) hp)
  | succ k ih =>
    refine State.access_evolves h (List.Subset.trans (by decide) hp) fun t ht => ?_
    have hu := State.hallAccess_evolves (port := t.holderPort) (a := x2) (bytes := 2) (write := false) ht
      (List.Subset.trans (by decide) hp)
    exact Evolves.ite (State.accessError_evolves hu (List.Subset.trans (by decide) hp)) (ih hu)

theorem State.guestStore_evolves {o t} (h : Evolves ps s₀ s) (hp : [.mem, .link, .tamid, .rooms, .systemRegs,
    .tamidRegs, .keyRegs] ⊆ ps) :
    Evolves ps s₀ (s.guestStore o t) := by
  unfold State.guestStore
  repeat' first
    | with_reducible assumption
    | exact List.Subset.trans (by decide) hp
    | with_reducible apply Evolves.ite
    | with_reducible apply State.reply_evolves
    | with_reducible apply State.setBytes_evolves
    | with_reducible apply State.modGuest_evolves

theorem State.farRefused_evolves {r e a x4} (h : Evolves ps s₀ s) (hp : [.fuse, .link, .counters, .attic, .rooms,
    .systemRegs] ⊆ ps) :
    Evolves ps s₀ (s.farRefused r e a x4) := by
  unfold State.farRefused
  repeat' first
    | with_reducible assumption
    | exact List.Subset.trans (by decide) hp
    | with_reducible apply State.guestTrap_evolves
    | with_reducible apply State.raise_evolves
    | split

theorem State.farRead_evolves {r} {a} (h : Evolves ps s₀ s) (hp : [.free, .line, .fuse, .link, .counters, .attic,
    .systemRegs, .fuseRegs, .powerRegs, .clockRegs, .memProtRegs, .hkRegs, .thermRegs, .counterRegs, .testRegs,
    .lineRegs, .hostRegs, .tamidRegs, .chainRegs, .cdacRegs, .pantryRegs, .keyRegs, .otherRegs] ⊆ ps) :
    ∀ {y z}, s.farRead r a = (y, z) → Evolves ps s₀ z := by
  intro y z e
  have k : Evolves ps s₀ (s.farRead r a).2 := by
    unfold State.farRead
    repeat' first
      | with_reducible assumption
      | exact List.Subset.trans (by decide) hp
      | intro _ _ _
      | intro _ _
      | intro _
      | with_reducible apply Evolves.ite
      | refine State.memWord_evolves ?_ ?_ (by assumption)
      | refine State.readWord_evolves ?_ ?_ (by assumption)
      | with_reducible apply State.unmapped_evolves
      | with_reducible apply State.hallAccess_evolves
      | split
      | dsimp only
      | with_reducible apply State.memWord_snd
      | with_reducible apply State.readWord_snd
  rw [e] at k
  exact k

theorem State.farRead_snd {r} {a} (h : Evolves ps s₀ s) (hp : [.free, .line, .fuse, .link, .counters, .attic,
    .systemRegs, .fuseRegs, .powerRegs, .clockRegs, .memProtRegs, .hkRegs, .thermRegs, .counterRegs, .testRegs,
    .lineRegs, .hostRegs, .tamidRegs, .chainRegs, .cdacRegs, .pantryRegs, .keyRegs, .otherRegs] ⊆ ps) :
    Evolves ps s₀ (s.farRead r a).2 := State.farRead_evolves h hp rfl

theorem State.farWrite_evolves {r} {a} {v} (h : Evolves ps s₀ s) (hp : [.mem, .line, .host, .lanes, .fuse, .power,
    .link, .counters, .attic, .clock, .hk, .chain, .tamid, .memory, .pantry, .thermal, .test, .systemRegs, .fuseRegs,
    .powerRegs, .clockRegs, .memProtRegs, .hkRegs, .thermRegs, .counterRegs, .testRegs, .lineRegs, .hostRegs,
    .tamidRegs, .chainRegs, .cdacRegs, .pantryRegs, .keyRegs, .otherRegs] ⊆ ps) :
    Evolves ps s₀ (s.farWrite r a v) := by
  unfold State.farWrite
  repeat' first
    | with_reducible assumption
    | exact List.Subset.trans (by decide) hp
    | intro _ _ _
    | intro _ _
    | intro _
    | with_reducible apply Evolves.ite
    | with_reducible apply State.writeWord_evolves
    | with_reducible apply State.hallWrite_evolves
    | with_reducible apply State.hallAccess_evolves
    | split
    | dsimp only

theorem State.farWait_evolves {r e a grant} (h : Evolves ps s₀ s) (hp : [.power, .powerRegs] ⊆ ps) :
    ∀ {y z}, s.farWait r e a grant = (y, z) → Evolves ps s₀ z := by
  intro b t x
  unfold State.farWait at x
  split at x
  · cases x; exact h
  · split at x
    · cases x; exact h
    · split at x
      · cases x; exact State.reach_evolves h (List.Subset.trans (by decide) hp)
      · cases x; exact h

theorem State.farWait_snd {r e a grant} (h : Evolves ps s₀ s) (hp : [.power, .powerRegs] ⊆ ps) :
    Evolves ps s₀ (s.farWait r e a grant).2 := State.farWait_evolves h hp rfl

theorem State.farDone_evolves {a} (h : Evolves ps s₀ s) (hp : [.power, .powerRegs] ⊆ ps) :
    Evolves ps s₀ (s.farDone a) := by
  unfold State.farDone
  repeat' first
    | with_reducible assumption
    | exact List.Subset.trans (by decide) hp
    | with_reducible apply State.accessDone_evolves
    | split

theorem State.farFree_evolves {a v} (h : Evolves ps s₀ s) (hp : [.free] ⊆ ps) :
    ∀ {y z}, s.farFree a v = (y, z) → Evolves ps s₀ z := by
  intro b t e
  unfold State.farFree at e
  split at e
  · cases e; exact h
  · exact State.fresh_evolves h hp e

theorem State.farFree_snd {a v} (h : Evolves ps s₀ s) (hp : [.free] ⊆ ps) :
    Evolves ps s₀ (s.farFree a v).2 := State.farFree_evolves h hp rfl

theorem State.fldTry_evolves {r e} (h : Evolves ps s₀ s) (hp : [.free, .line, .fuse, .power, .link, .counters, .attic,
    .rooms, .systemRegs, .fuseRegs, .powerRegs, .clockRegs, .memProtRegs, .hkRegs, .thermRegs, .counterRegs, .testRegs,
        .lineRegs, .hostRegs, .tamidRegs, .chainRegs, .cdacRegs, .pantryRegs, .keyRegs, .otherRegs] ⊆ ps) :
    Evolves ps s₀ (s.fldTry r e) := by
  unfold State.fldTry
  dsimp only
  split
  · rename_i e
    exact State.stall_evolves (State.farWait_evolves h (List.Subset.trans (by decide) hp) e) (List.Subset.trans (by
        decide) hp)
  · rename_i e
    have k := State.farWait_evolves h (List.Subset.trans (by decide) hp) e
    refine State.farDone_evolves (State.modEngine_evolves (State.farFree_snd ?_ ?_) ?_) ?_
    · split
      · exact State.farRead_snd k (List.Subset.trans (by decide) hp)
      · exact State.farRefused_evolves k (List.Subset.trans (by decide) hp)
    all_goals exact List.Subset.trans (by decide) hp

theorem State.fstTry_evolves {r} {e} {a} {v} (h : Evolves ps s₀ s) (hp : [.mem, .line, .host, .lanes, .fuse, .power,
    .link, .counters, .attic, .clock, .hk, .chain, .tamid, .memory, .pantry, .rooms, .thermal, .test, .systemRegs,
    .fuseRegs, .powerRegs, .clockRegs, .memProtRegs, .hkRegs, .thermRegs, .counterRegs, .testRegs, .lineRegs,
    .hostRegs, .tamidRegs, .chainRegs, .cdacRegs, .pantryRegs, .keyRegs, .otherRegs] ⊆ ps) :
    Evolves ps s₀ (s.fstTry r e a v) := by
  unfold State.fstTry
  repeat' first
    | with_reducible assumption
    | exact List.Subset.trans (by decide) hp
    | intro _ _ _
    | intro _ _
    | intro _
    | with_reducible apply Evolves.ite
    | with_reducible apply State.farDone_evolves
    | refine State.farWait_evolves ?_ ?_ (by assumption)
    | with_reducible apply State.farWrite_evolves
    | with_reducible apply State.farRefused_evolves
    | with_reducible apply State.stall_evolves
    | split
    | dsimp only
    | with_reducible apply State.farWait_snd

theorem State.proceed_evolves {x1} (h : Evolves ps s₀ s) (hp : [.free, .mem, .line, .host, .lanes, .fuse, .power,
    .link, .counters, .attic, .clock, .hk, .chain, .tamid, .memory, .pantry, .rooms, .thermal, .test, .systemRegs,
    .fuseRegs, .powerRegs, .clockRegs, .memProtRegs, .hkRegs, .thermRegs, .counterRegs, .testRegs, .lineRegs,
    .hostRegs, .tamidRegs, .chainRegs, .cdacRegs, .pantryRegs, .keyRegs, .otherRegs] ⊆ ps) :
    Evolves ps s₀ (s.proceed x1) := by
  unfold State.proceed
  repeat' first
    | with_reducible assumption
    | exact List.Subset.trans (by decide) hp
    | intro _ _ _
    | intro _ _
    | intro _
    | with_reducible apply Evolves.ite
    | with_reducible apply State.fstTry_evolves
    | with_reducible apply State.fldTry_evolves
    | with_reducible apply State.guestStore_evolves
    | with_reducible apply State.readPantry_evolves
    | with_reducible apply State.readMem_evolves
    | with_reducible apply State.writeRegs_evolves
    | with_reducible apply State.readRegs_evolves
    | with_reducible apply State.writeWord_evolves
    | with_reducible apply State.hallAccess_evolves
    | split
    | dsimp only

theorem State.takeStalled_evolves {d} (h : Evolves ps s₀ s) (hp : [.power] ⊆ ps) :
    ∀ {y z}, s.takeStalled d = (y, z) → Evolves ps s₀ z := by
  intro a t e
  cases e
  exact h.power hp

theorem State.takeStalled_snd {d} (h : Evolves ps s₀ s) (hp : [.power] ⊆ ps) :
    Evolves ps s₀ (s.takeStalled d).2 := State.takeStalled_evolves h hp rfl

theorem State.proceedAll_evolves {d} (h : Evolves ps s₀ s) (hp : [.free, .mem, .line, .host, .lanes, .fuse, .power,
    .link, .counters, .attic, .clock, .hk, .chain, .tamid, .memory, .pantry, .rooms, .thermal, .test, .systemRegs,
        .fuseRegs, .powerRegs, .clockRegs, .memProtRegs, .hkRegs, .thermRegs, .counterRegs, .testRegs, .lineRegs,
            .hostRegs, .tamidRegs, .chainRegs, .cdacRegs, .pantryRegs, .keyRegs, .otherRegs] ⊆ ps) :
    Evolves ps s₀ (s.proceedAll d) := by
  exact State.accessDone_evolves (Evolves.each (State.takeStalled_snd h (List.Subset.trans (by decide) hp)) fun _ _ k =>
    State.proceed_evolves k (List.Subset.trans (by decide) hp)) (List.Subset.trans (by decide) hp)

theorem State.late_evolves {x1} (h : Evolves ps s₀ s) (hp : [.link, .tamid, .rooms, .systemRegs, .tamidRegs, .keyRegs]
    ⊆ ps) :
    Evolves ps s₀ (s.late x1) := by
  unfold State.late
  repeat' first
    | with_reducible assumption
    | exact List.Subset.trans (by decide) hp
    | with_reducible apply State.accessError_evolves
    | with_reducible apply State.modEngine_evolves
    | split

theorem State.lateAll_evolves {d} (h : Evolves ps s₀ s) (hp : [.power, .link, .tamid, .rooms, .systemRegs, .powerRegs,
    .tamidRegs, .keyRegs] ⊆ ps) :
    Evolves ps s₀ (s.lateAll d) := by
  unfold State.lateAll
  repeat' first
    | with_reducible assumption
    | exact List.Subset.trans (by decide) hp
    | intro _ _ _
    | intro _ _
    | intro _
    | with_reducible apply State.accessDone_evolves
    | with_reducible apply State.late_evolves
    | with_reducible apply Evolves.each
    | refine State.takeStalled_evolves ?_ ?_ (by assumption)
    | split
    | dsimp only
    | with_reducible apply State.takeStalled_snd

theorem State.flashErase_evolves {a} (h : Evolves ps s₀ s) (hp : [.flash] ⊆ ps) :
    Evolves ps s₀ (s.flashErase a) := by
  unfold State.flashErase
  exact h.flash hp fun k => Sparse.wf_filter flashDefault _ _ k

theorem State.flashProgram_evolves {x0 x1} (h : Evolves ps s₀ s) (hp : [.free, .flash] ⊆ ps) :
    Evolves ps s₀ (State.flashProgram x0 x1 s) := by
  induction x1 generalizing s x0 with
  | nil => exact h
  | cons b bs ih =>
    unfold State.flashProgram
    refine Evolves.ite (ih (State.setFlashByte_evolves h ?_)) (ih (State.setFlashByte_evolves (State.fresh_snd h ?_)
        ?_))
    all_goals exact List.Subset.trans (by decide) hp

theorem State.flashDrain_evolves (h : Evolves ps s₀ s) (hp : [.free, .flash, .flashJob] ⊆ ps) :
    Evolves ps s₀ (s.flashDrain) := by
  unfold State.flashDrain
  repeat' first
    | with_reducible assumption
    | exact List.Subset.trans (by decide) hp
    | intro _ _ _
    | intro _ _
    | intro _
    | with_reducible apply Evolves.ite
    | with_reducible apply State.flashProgram_evolves
    | with_reducible apply State.flashErase_evolves
    | refine State.fresh_evolves ?_ ?_ (by assumption)
    | with_reducible apply Evolves.when
    | with_reducible apply Evolves.each
    | split
    | dsimp only
    | with_reducible apply State.fresh_snd
    | with_reducible apply Evolves.flashJob

theorem State.flashTorn_evolves {a k} (h : Evolves ps s₀ s) (hp : [.free, .flash] ⊆ ps) :
    Evolves ps s₀ (s.flashTorn a k) := by
  unfold State.flashTorn
  repeat' first
    | with_reducible assumption
    | exact List.Subset.trans (by decide) hp
    | with_reducible apply State.setFlashBytes_evolves
    | refine State.freshMany_evolves ?_ ?_ (by assumption)
    | split
    | dsimp only
    | with_reducible apply State.freshMany_snd

theorem State.sectorSkip_evolves (h : Evolves ps s₀ s) (hp : [.fuse, .link, .counters, .attic, .systemRegs] ⊆ ps) :
    Evolves ps s₀ (s.sectorSkip) := by
  unfold State.sectorSkip
  repeat' first
    | with_reducible assumption
    | exact List.Subset.trans (by decide) hp
    | with_reducible apply State.raise_evolves
    | with_reducible apply Evolves.attic

theorem State.recordFailed_evolves {type} (h : Evolves ps s₀ s) (hp : [.fuse, .link, .counters, .attic, .systemRegs] ⊆
    ps) :
    Evolves ps s₀ (s.recordFailed type) := by
  unfold State.recordFailed
  repeat' first
    | with_reducible assumption
    | exact List.Subset.trans (by decide) hp
    | with_reducible apply Evolves.ite
    | with_reducible apply State.sectorSkip_evolves
    | with_reducible apply State.raise_evolves
    | with_reducible apply Evolves.attic

theorem State.recordWritten_evolves (h : Evolves ps s₀ s) (hp : [.attic] ⊆ ps) :
    Evolves ps s₀ (s.recordWritten) := by
  unfold State.recordWritten
  repeat' first
    | with_reducible assumption
    | exact List.Subset.trans (by decide) hp
    | with_reducible apply Evolves.ite
    | with_reducible apply Evolves.attic

theorem State.laserPeriod_evolves {n bias pd poh} (h : Evolves ps s₀ s) (hp : [.fuse, .link, .counters, .attic,
    .systemRegs] ⊆ ps) :
    Evolves ps s₀ (s.laserPeriod n bias pd poh) := by
  unfold State.laserPeriod
  repeat' first
    | with_reducible assumption
    | exact List.Subset.trans (by decide) hp
    | with_reducible apply Evolves.ite
    | with_reducible apply State.raise_evolves
    | split
    | dsimp only
    | with_reducible apply Evolves.attic

theorem State.periodMean_evolves {sum} (h : Evolves ps s₀ s) (hp : [.free] ⊆ ps) :
    ∀ {y z}, s.periodMean sum = (y, z) → Evolves ps s₀ z := by
  intro y z e
  have k : Evolves ps s₀ (s.periodMean sum).2 := by
    unfold State.periodMean
    repeat' first
      | with_reducible assumption
      | exact List.Subset.trans (by decide) hp
      | intro _ _ _
      | intro _ _
      | intro _
      | with_reducible apply Evolves.ite
      | refine State.fresh_evolves ?_ ?_ (by assumption)
      | split
      | dsimp only
      | with_reducible apply State.fresh_snd
  rw [e] at k
  exact k

theorem State.periodMean_snd {sum} (h : Evolves ps s₀ s) (hp : [.free] ⊆ ps) :
    Evolves ps s₀ (s.periodMean sum).2 := State.periodMean_evolves h hp rfl

theorem State.pdMeans_evolves {l} (h : Evolves ps s₀ s) (hp : [.free] ⊆ ps) :
    ∀ {y z}, State.pdMeans l s = (y, z) → Evolves ps s₀ z := by
  induction l generalizing s with
  | nil =>
    intro y z e
    cases e
    exact h
  | cons n rest ih =>
    intro y z e
    cases e
    exact ih (State.periodMean_snd h hp) rfl

theorem State.pdMeans_snd {l} (h : Evolves ps s₀ s) (hp : [.free] ⊆ ps) :
    Evolves ps s₀ (State.pdMeans l s).2 := State.pdMeans_evolves h hp rfl

theorem State.periodOver_evolves (h : Evolves ps s₀ s) (hp : [.attic] ⊆ ps) :
    Evolves ps s₀ (s.periodOver) := by
  unfold State.periodOver
  repeat' first
    | with_reducible assumption
    | exact List.Subset.trans (by decide) hp
    | intro _ _ _
    | intro _ _
    | intro _
    | with_reducible apply Evolves.ite
    | split
    | dsimp only
    | with_reducible apply Evolves.attic

theorem State.programCut_evolves (h : Evolves ps s₀ s) (hp : [.free, .test] ⊆ ps) :
    Evolves ps s₀ (s.programCut) := by
  unfold State.programCut
  repeat' first
    | with_reducible assumption
    | exact List.Subset.trans (by decide) hp
    | with_reducible apply Evolves.ite
    | refine State.fresh_evolves ?_ ?_ (by assumption)
    | split
    | dsimp only
    | with_reducible apply State.fresh_snd
    | with_reducible apply Evolves.test

theorem State.flashCut_evolves (h : Evolves ps s₀ s) (hp : [.free, .flash, .flashJob] ⊆ ps) :
    Evolves ps s₀ (s.flashCut) := by
  unfold State.flashCut
  repeat' first
    | with_reducible assumption
    | exact List.Subset.trans (by decide) hp
    | with_reducible apply Evolves.ite
    | with_reducible apply State.flashTorn_evolves
    | split
    | dsimp only
    | with_reducible apply Evolves.flashJob

theorem State.keepBits_evolves {old a mask} (h : Evolves ps s₀ s) (hp : [regPart a] ⊆ ps) :
    Evolves ps s₀ (s.keepBits old a mask) := State.setReg_evolves h hp

theorem State.blank_evolves (h : Evolves ps s₀ s) (hp : [.mem, .line, .host, .lanes, .fuse, .power, .link, .counters,
    .attic, .clock, .boot, .hk, .cdac, .chain, .tamid, .carriers, .memory, .pantry, .rooms, .thermal, .test, .flashJob,
        .limits, .systemRegs, .fuseRegs, .powerRegs, .clockRegs, .memProtRegs, .hkRegs, .thermRegs, .counterRegs,
            .testRegs, .lineRegs, .hostRegs, .tamidRegs, .chainRegs, .cdacRegs, .pantryRegs, .keyRegs, .otherRegs] ⊆
                ps) :
    Evolves ps s₀ (s.blank) := by
  refine h.andThen ⟨fun p hp => ?_, fun v => ⟨?_, Nat.zero_le _, Nat.zero_le _, Nat.zero_le _, fun c => ?_, Nat.zero_le
      _,
    fun i => ?_⟩, le_refl _⟩ hp
  · cases p <;> first | rfl | exact absurd (by decide) hp
  · have := v.canonical
    simp only [State.canonical, Bool.and_eq_true] at this ⊢
    exact ⟨⟨rfl, rfl⟩, this.2⟩
  · simp [State.blank, State.reset, CdacChannel.init]
  · simp [State.blank, State.reset, TamidInst.init]

theorem State.setResetCause_evolves {bit} (h : Evolves ps s₀ s) (hp : [.powerRegs] ⊆ ps) :
    Evolves ps s₀ (s.setResetCause bit) := by
  unfold State.setResetCause
  repeat' first
    | with_reducible assumption
    | exact List.Subset.trans (by decide) hp
    | exact Nat.le_of_ble_eq_true rfl
    | exact Field.ix_lt _ _
    | with_reducible apply regPart_power
    | with_reducible apply State.setReg_evolves

theorem State.resetUnits_evolves {cause} (h : Evolves ps s₀ s) (hp : [.free, .mem, .flash, .line, .host, .lanes, .fuse,
    .power, .link, .counters, .attic, .clock, .boot, .hk, .cdac, .chain, .tamid, .carriers, .memory, .pantry, .rooms,
        .thermal, .test, .flashJob, .limits, .systemRegs, .fuseRegs, .powerRegs, .clockRegs, .memProtRegs, .hkRegs,
            .thermRegs, .counterRegs, .testRegs, .lineRegs, .hostRegs, .tamidRegs, .chainRegs, .cdacRegs, .pantryRegs,
                .keyRegs, .otherRegs] ⊆ ps) :
    Evolves ps s₀ (s.resetUnits cause) := by
  unfold State.resetUnits
  dsimp only
  refine State.setResetCause_evolves (Evolves.each (Evolves.clockThermal (State.blank_evolves (State.flashCut_evolves
    (State.programCut_evolves h ?_) ?_) ?_) ?_) fun e t ht => State.keepBits_evolves ht (regPart_all ?_)) ?_
  all_goals exact List.Subset.trans (by decide) hp

theorem State.holdReset_evolves (h : Evolves ps s₀ s) (hp : [.free, .mem, .flash, .line, .host, .lanes, .fuse, .power,
    .link, .counters, .attic, .clock, .boot, .hk, .cdac, .chain, .tamid, .carriers, .memory, .pantry, .rooms, .thermal,
        .test, .flashJob, .limits, .systemRegs, .fuseRegs, .powerRegs, .clockRegs, .memProtRegs, .hkRegs, .thermRegs,
            .counterRegs, .testRegs, .lineRegs, .hostRegs, .tamidRegs, .chainRegs, .cdacRegs, .pantryRegs, .keyRegs,
                .otherRegs] ⊆ ps) :
    Evolves ps s₀ (s.holdReset) := by
  unfold State.holdReset
  repeat' first
    | with_reducible assumption
    | exact List.Subset.trans (by decide) hp
    | with_reducible apply Evolves.ite
    | with_reducible apply State.resetUnits_evolves

theorem State.takeStraps_evolves {straps} (h : Evolves ps s₀ s) (hp : [.lanes, .boot, .tamid, .pantry, .systemRegs,
    .lineRegs, .tamidRegs, .pantryRegs] ⊆ ps) :
    Evolves ps s₀ (s.takeStraps straps) := by
  unfold State.takeStraps
  refine State.setProfileNow_evolves (Evolves.lanesBoot (State.setReg_evolves h ?_) ?_) ?_
  all_goals exact List.Subset.trans (by decide) hp

theorem State.bootBegin_evolves {straps} (h : Evolves ps s₀ s) (hp : [.lanes, .fuse, .boot, .tamid, .pantry, .thermal,
    .systemRegs, .thermRegs, .lineRegs, .tamidRegs, .pantryRegs] ⊆ ps) :
    Evolves ps s₀ (s.bootBegin straps) := by
  unfold State.bootBegin
  repeat' first
    | with_reducible assumption
    | exact List.Subset.trans (by decide) hp
    | intro _ _ _
    | intro _ _
    | intro _
    | with_reducible apply Evolves.ite
    | with_reducible apply State.takeStraps_evolves
    | with_reducible apply State.refreshPeriod_evolves
    | split
    | dsimp only
    | with_reducible apply Evolves.boot

theorem State.brownout_evolves (h : Evolves ps s₀ s) (hp : [.free, .mem, .flash, .line, .host, .lanes, .fuse, .power,
    .link, .counters, .attic, .clock, .boot, .hk, .cdac, .chain, .tamid, .carriers, .memory, .pantry, .rooms, .thermal,
        .test, .flashJob, .limits, .systemRegs, .fuseRegs, .powerRegs, .clockRegs, .memProtRegs, .hkRegs, .thermRegs,
            .counterRegs, .testRegs, .lineRegs, .hostRegs, .tamidRegs, .chainRegs, .cdacRegs, .pantryRegs, .keyRegs,
                .otherRegs] ⊆ ps) :
    Evolves ps s₀ (s.brownout) := by
  unfold State.brownout
  repeat' first
    | with_reducible assumption
    | exact List.Subset.trans (by decide) hp
    | exact Nat.le_of_ble_eq_true rfl
    | exact Field.ix_lt _ _
    | exact regPart_all (List.Subset.trans (by decide) hp)
    | with_reducible apply State.flashCut_evolves
    | with_reducible apply State.programCut_evolves
    | with_reducible apply State.blank_evolves
    | with_reducible apply State.setFlag_evolves
    | with_reducible apply Evolves.boot

theorem State.resetAll_evolves (h : Evolves ps s₀ s) (hp : [.free, .mem, .flash, .line, .host, .lanes, .fuse, .power,
    .link, .counters, .attic, .clock, .boot, .hk, .cdac, .chain, .tamid, .carriers, .memory, .pantry, .rooms, .thermal,
        .test, .flashJob, .limits, .systemRegs, .fuseRegs, .powerRegs, .clockRegs, .memProtRegs, .hkRegs, .thermRegs,
            .counterRegs, .testRegs, .lineRegs, .hostRegs, .tamidRegs, .chainRegs, .cdacRegs, .pantryRegs, .keyRegs,
                .otherRegs] ⊆ ps) :
    Evolves ps s₀ (s.resetAll) := by
  unfold State.resetAll
  refine State.bootBegin_evolves (Evolves.fuseFrom (State.resetUnits_evolves h hp) h ?_ fun k => k) ?_
  all_goals exact List.Subset.trans (by decide) hp

theorem State.refuse_evolves {o st} (h : Evolves ps s₀ s) (hp : [.link, .tamid, .systemRegs, .tamidRegs, .keyRegs] ⊆
    ps) :
    Evolves ps s₀ (s.refuse o st) := by
  unfold State.refuse
  repeat' first
    | with_reducible assumption
    | exact List.Subset.trans (by decide) hp
    | exact Nat.le_of_ble_eq_true rfl
    | exact Field.ix_lt _ _
    | with_reducible apply regPart_system
    | with_reducible apply regPart_tamid
    | with_reducible apply regPart_key
    | with_reducible apply Evolves.ite
    | with_reducible apply State.reply_evolves
    | with_reducible apply State.bump_evolves

theorem State.takePacket_evolves {via bs} (h : Evolves ps s₀ s) (hp : [.link, .tamid, .systemRegs, .tamidRegs,
    .keyRegs] ⊆ ps) :
    Evolves ps s₀ (s.takePacket via bs) := by
  unfold State.takePacket
  repeat' first
    | with_reducible assumption
    | exact List.Subset.trans (by decide) hp
    | exact fun k => k
    | exact fun _ => Nat.zero_le _
    | with_reducible apply State.refuse_evolves
    | split
    | dsimp only
    | with_reducible apply Evolves.link

theorem State.kickRounds_evolves {x0} (h : Evolves ps s₀ s) (hp : [.link, .tamid, .systemRegs, .tamidRegs, .keyRegs] ⊆
    ps) :
    Evolves ps s₀ (State.kickRounds x0 s) := by
  induction x0 generalizing s with
  | zero => exact h
  | succ k ih =>
    unfold State.kickRounds
    refine Evolves.ite ?_ h
    split
    · exact h
    · rename_i hq
      refine ih (State.takePacket_evolves (State.bumpMod_evolves (h.link ?_ fun k => ⟨?_, k.2⟩) ?_) ?_)
      · exact List.Subset.trans (by decide) hp
      · rw [hq] at k
        exact Nat.le_of_succ_le k.1
      all_goals exact List.Subset.trans (by decide) hp

theorem State.kick_evolves (h : Evolves ps s₀ s) (hp : [.link, .tamid, .systemRegs, .tamidRegs, .keyRegs] ⊆ ps) :
    Evolves ps s₀ (s.kick) := by
  unfold State.kick
  repeat' first
    | with_reducible assumption
    | exact List.Subset.trans (by decide) hp
    | with_reducible apply State.kickRounds_evolves

theorem State.dropPacket_evolves (h : Evolves ps s₀ s) (hp : [.link, .systemRegs] ⊆ ps) :
    Evolves ps s₀ (s.dropPacket) := by
  unfold State.dropPacket
  repeat' first
    | with_reducible assumption
    | exact List.Subset.trans (by decide) hp
    | exact Nat.le_of_ble_eq_true rfl
    | exact Field.ix_lt _ _
    | with_reducible apply regPart_system
    | with_reducible apply State.attn_evolves
    | with_reducible apply State.bump_evolves

theorem State.receive_evolves {via bs} (h : Evolves ps s₀ s) (hp : [.line, .host, .lanes, .fuse, .power, .link,
    .counters, .attic, .boot, .tamid, .systemRegs, .powerRegs, .memProtRegs, .lineRegs, .hostRegs, .tamidRegs,
    .keyRegs] ⊆ ps)
        :
    Evolves ps s₀ (s.receive via bs) := by
  unfold State.receive
  have k : Evolves ps s₀ s.dozeExit := State.dozeExit_evolves h (List.Subset.trans (by decide) hp)
  refine Evolves.ite (State.dropPacket_evolves k ?_) ?_
  · exact List.Subset.trans (by decide) hp
  split
  · exact State.dropPacket_evolves k (List.Subset.trans (by decide) hp)
  · rename_i hq
    refine Evolves.ite ?_ ?_
    · refine State.deepTrigger_evolves (State.reply_evolves (State.bumpMod_evolves (State.bumpMod_evolves k ?_) ?_) ?_)
        ?_
      all_goals exact List.Subset.trans (by decide) hp
    · refine State.kick_evolves (Evolves.link (State.bumpMod_evolves k ?_) ?_ fun v => ⟨?_, v.2⟩) ?_
      · exact List.Subset.trans (by decide) hp
      · exact List.Subset.trans (by decide) hp
      · change (s.dozeExit.link.inbox ++ [(via, bs)]).length ≤ 4
        simp only [not_or, not_le] at hq
        simpa using hq.2.2
      · exact List.Subset.trans (by decide) hp

theorem State.refillRounds_evolves {x0} (h : Evolves ps s₀ s) (hp : [.link, .systemRegs] ⊆ ps) :
    Evolves ps s₀ (State.refillRounds x0 s) := by
  induction x0 generalizing s with
  | zero => exact h
  | succ k ih =>
    unfold State.refillRounds
    split
    · exact h
    · split
      · rename_i hq
        refine ih (State.attn_evolves (State.bumpMod_evolves (h.link ?_ fun v => ⟨v.1, ?_⟩) ?_) (by decide) ?_)
        · exact List.Subset.trans (by decide) hp
        · simpa [Link.resetPlaced] using hq
        all_goals exact List.Subset.trans (by decide) hp
      · exact h

theorem State.takeHead_evolves {o op} (h : Evolves ps s₀ s) (hp : [.link] ⊆ ps) :
    Evolves ps s₀ (s.takeHead o op) := by
  unfold State.takeHead
  repeat' first
    | with_reducible assumption
    | exact List.Subset.trans (by decide) hp
    | exact fun k => k
    | exact fun _ => Nat.zero_le _
    | with_reducible apply Evolves.ite
    | split
    | dsimp only
    | with_reducible apply Evolves.link

theorem State.command_evolves {o op fits run} (h : Evolves ps s₀ s)
    (hp : [.line, .host, .lanes, .fuse, .power, .link, .counters, .attic, .boot, .tamid, .systemRegs, .powerRegs,
    .memProtRegs, .lineRegs, .hostRegs, .tamidRegs, .keyRegs] ⊆ ps)
    (k : ∀ t, Evolves ps s₀ t → Evolves ps s₀ (run t)) : Evolves ps s₀ (s.command o op fits run) := by
  unfold State.command
  have e : Evolves ps s₀ (s.dozeExit.takeHead o op) := State.takeHead_evolves
    (State.dozeExit_evolves h (List.Subset.trans (by decide) hp)) (List.Subset.trans (by decide) hp)
  dsimp only
  refine Evolves.ite ?_ ?_
  · refine State.deepTrigger_evolves (State.reply_evolves e ?_) ?_
    all_goals exact List.Subset.trans (by decide) hp
  · split
    · refine State.kick_evolves (State.refuse_evolves e ?_) ?_
      all_goals exact List.Subset.trans (by decide) hp
    · refine Evolves.ite (State.kick_evolves (k _ e) ?_) (State.kick_evolves (State.reply_evolves e ?_) ?_)
      all_goals exact List.Subset.trans (by decide) hp

theorem State.copySlot_evolves {k} (h : Evolves ps s₀ s) (hp : [.mem, .boot] ⊆ ps) :
    Evolves ps s₀ (s.copySlot k) := by
  unfold State.copySlot
  repeat' first
    | with_reducible assumption
    | exact List.Subset.trans (by decide) hp
    | with_reducible apply State.setBytes_evolves
    | with_reducible apply Evolves.boot

theorem State.imageRuns_evolves (h : Evolves ps s₀ s) (hp : [.boot, .systemRegs] ⊆ ps) :
    Evolves ps s₀ (s.imageRuns) := by
  unfold State.imageRuns
  repeat' first
    | with_reducible assumption
    | exact List.Subset.trans (by decide) hp
    | exact Nat.le_of_ble_eq_true rfl
    | exact Field.ix_lt _ _
    | with_reducible apply regPart_system
    | with_reducible apply State.setFld_evolves
    | with_reducible apply Evolves.boot

theorem State.download_evolves (h : Evolves ps s₀ s) (hp : [.link, .boot, .tamid, .thermal, .systemRegs, .tamidRegs,
    .keyRegs] ⊆ ps) :
    Evolves ps s₀ (s.download) := by
  unfold State.download
  repeat' first
    | with_reducible assumption
    | exact List.Subset.trans (by decide) hp
    | exact Nat.le_of_ble_eq_true rfl
    | exact Field.ix_lt _ _
    | exact Field.lt _
    | with_reducible apply regPart_system
    | intro _ _ _
    | intro _ _
    | intro _
    | with_reducible apply Evolves.ite
    | with_reducible apply State.kick_evolves
    | with_reducible apply State.cmdReady_evolves
    | with_reducible apply State.setFld_evolves
    | split
    | dsimp only
    | with_reducible apply Evolves.boot

theorem State.authenticate_evolves (h : Evolves ps s₀ s) (hp : [.mem, .fuse, .link, .counters, .attic, .boot, .tamid,
    .thermal, .systemRegs, .tamidRegs, .keyRegs] ⊆ ps) :
    Evolves ps s₀ (s.authenticate) := by
  unfold State.authenticate
  repeat' first
    | with_reducible assumption
    | exact List.Subset.trans (by decide) hp
    | with_reducible apply Evolves.ite
    | with_reducible apply State.imageRuns_evolves
    | with_reducible apply State.copySlot_evolves
    | with_reducible apply State.raise_evolves
    | with_reducible apply State.download_evolves

theorem State.specialRecord_evolves {addr value} (h : Evolves ps s₀ s) (hp : [.lanes, .tamid, .pantry, .systemRegs,
    .lineRegs, .tamidRegs, .pantryRegs] ⊆ ps) :
    ∀ {z}, s.specialRecord addr value = some z → Evolves ps s₀ z := by
  intro t e
  unfold State.specialRecord at e
  split at e
  · split at e
    · cases e
    · split at e
      · cases e; exact h.lanes (List.Subset.trans (by decide) hp)
      · cases e; exact State.setProfileNow_evolves h (List.Subset.trans (by decide) hp)
  · split at e
    · simp only at e
      split at e
      · cases e
      · cases e; exact h.lanes (List.Subset.trans (by decide) hp)
    · cases e

theorem State.record_evolves {i addr value} (h : Evolves ps s₀ s) (hp : [.line, .host, .lanes, .fuse, .power, .link,
    .counters, .attic, .clock, .hk, .chain, .tamid, .memory, .pantry, .thermal, .test, .systemRegs, .fuseRegs,
        .powerRegs, .clockRegs, .memProtRegs, .hkRegs, .thermRegs, .counterRegs, .testRegs, .lineRegs, .hostRegs,
            .tamidRegs, .chainRegs, .cdacRegs, .pantryRegs, .keyRegs, .otherRegs] ⊆ ps) :
    Evolves ps s₀ (s.record i addr value) := by
  unfold State.record
  repeat' first
    | with_reducible assumption
    | exact List.Subset.trans (by decide) hp
    | with_reducible apply Evolves.ite
    | with_reducible apply State.raise_evolves
    | with_reducible apply State.writeWord_evolves
    | refine State.specialRecord_evolves ?_ ?_ (by assumption)
    | split

theorem State.records_evolves {x0 x1} (h : Evolves ps s₀ s) (hp : [.line, .host, .lanes, .fuse, .power, .link,
    .counters, .attic, .clock, .hk, .chain, .tamid, .memory, .pantry, .thermal, .test, .systemRegs, .fuseRegs,
        .powerRegs, .clockRegs, .memProtRegs, .hkRegs, .thermRegs, .counterRegs, .testRegs, .lineRegs, .hostRegs,
            .tamidRegs, .chainRegs, .cdacRegs, .pantryRegs, .keyRegs, .otherRegs] ⊆ ps) :
    Evolves ps s₀ (State.records x0 x1 s) := by
  induction x0 generalizing s x1 with
  | zero => exact h
  | succ k ih =>
    unfold State.records
    exact Evolves.ite h (ih (State.record_evolves h hp))

theorem State.retirementsApply_evolves (h : Evolves ps s₀ s) (hp : [.memProtRegs] ⊆ ps) :
    Evolves ps s₀ (s.retirementsApply) := by
  unfold State.retirementsApply
  repeat' first
    | with_reducible assumption
    | exact List.Subset.trans (by decide) hp
    | exact Nat.le_of_ble_eq_true rfl
    | exact Field.ix_lt _ _
    | with_reducible apply regPart_memProt
    | intro _ _ _
    | intro _ _
    | intro _
    | with_reducible apply State.setFld_evolves
    | with_reducible apply State.setFlag_evolves
    | with_reducible apply State.refreshSpares_evolves
    | with_reducible apply Evolves.each
    | split

theorem State.atticOpenBoot_evolves (h : Evolves ps s₀ s) (hp : [.attic, .memProtRegs] ⊆ ps) :
    Evolves ps s₀ (s.atticOpenBoot) := by
  unfold State.atticOpenBoot
  repeat' first
    | with_reducible assumption
    | exact List.Subset.trans (by decide) hp
    | with_reducible apply Evolves.ite
    | with_reducible apply State.retirementsApply_evolves
    | with_reducible apply Evolves.attic

theorem State.shutdownRecord_evolves (h : Evolves ps s₀ s) (hp : [.fuse, .link, .counters, .attic, .thermal,
    .systemRegs] ⊆ ps) :
    Evolves ps s₀ (s.shutdownRecord) := by
  unfold State.shutdownRecord
  split
  · exact State.atticEvent_evolves (Evolves.atticThermal h (List.Subset.trans (by decide) hp)) (List.Subset.trans (by
      decide) hp)
  · exact h

theorem State.brownoutRecord_evolves (h : Evolves ps s₀ s) (hp : [.fuse, .link, .counters, .attic, .boot, .systemRegs]
    ⊆ ps) :
    Evolves ps s₀ (s.brownoutRecord) := by
  unfold State.brownoutRecord
  exact Evolves.ite (State.atticEvent_evolves (Evolves.atticBoot h (List.Subset.trans (by decide) hp))
    (List.Subset.trans (by decide) hp)) h

theorem State.bootRecords_evolves (h : Evolves ps s₀ s) (hp : [.fuse, .link, .counters, .attic, .boot, .thermal,
    .systemRegs] ⊆ ps) :
    Evolves ps s₀ (s.bootRecords) := by
  unfold State.bootRecords
  repeat' first
    | with_reducible assumption
    | exact List.Subset.trans (by decide) hp
    | with_reducible apply State.brownoutRecord_evolves
    | with_reducible apply State.shutdownRecord_evolves
    | with_reducible apply State.atticEvent_evolves
    | with_reducible apply Evolves.attic

theorem State.setFollowerOk_evolves (h : Evolves ps s₀ s) (hp : [.keyRegs] ⊆ ps) :
    Evolves ps s₀ (s.setFollowerOk) := by
  unfold State.setFollowerOk
  repeat' first
    | with_reducible assumption
    | exact List.Subset.trans (by decide) hp
    | exact Nat.le_of_ble_eq_true rfl
    | exact Field.ix_lt _ _
    | with_reducible apply regPart_key
    | with_reducible apply State.setFlag_evolves

theorem State.mirnisStart_evolves (h : Evolves ps s₀ s) (hp : [.free, .mem, .line, .host, .lanes, .fuse, .power, .link,
    .counters, .attic, .clock, .boot, .hk, .chain, .tamid, .memory, .pantry, .rooms, .thermal, .test, .systemRegs,
        .fuseRegs, .powerRegs, .clockRegs, .memProtRegs, .hkRegs, .thermRegs, .counterRegs, .testRegs, .lineRegs,
            .hostRegs, .tamidRegs, .chainRegs, .cdacRegs, .pantryRegs, .keyRegs, .otherRegs] ⊆ ps) :
    Evolves ps s₀ (s.mirnisStart) := by
  unfold State.mirnisStart
  repeat' first
    | with_reducible assumption
    | exact List.Subset.trans (by decide) hp
    | intro _ _ _
    | intro _ _
    | intro _
    | with_reducible apply Evolves.ite
    | with_reducible apply State.bootRecords_evolves
    | with_reducible apply State.atticOpenBoot_evolves
    | with_reducible apply State.setFollowerOk_evolves
    | with_reducible apply State.proceedAll_evolves
    | with_reducible apply State.txSquelch_evolves
    | with_reducible apply State.records_evolves
    | with_reducible apply Evolves.each
    | with_reducible apply Evolves.rooms

theorem State.votingStart_evolves (h : Evolves ps s₀ s) (hp : [.power, .powerRegs] ⊆ ps) :
    Evolves ps s₀ (s.votingStart) := by
  unfold State.votingStart
  repeat' first
    | with_reducible assumption
    | exact List.Subset.trans (by decide) hp
    | intro _ _ _
    | intro _ _
    | intro _
    | with_reducible apply State.setVote_evolves
    | with_reducible apply State.tamidVote_evolves
    | with_reducible apply State.refreshPantryVote_evolves
    | with_reducible apply State.txVotes_evolves
    | with_reducible apply State.lineRxVotes_evolves
    | with_reducible apply State.hostVotes_evolves
    | with_reducible apply State.unvoted_evolves
    | with_reducible apply Evolves.each
    | with_reducible apply Evolves.power

theorem State.lanesStart_evolves (h : Evolves ps s₀ s) (hp : [.line, .host, .lanes, .fuse, .power, .link, .counters,
    .attic, .tamid, .systemRegs, .powerRegs, .memProtRegs, .lineRegs, .hostRegs, .tamidRegs] ⊆ ps) :
    Evolves ps s₀ (s.lanesStart) := by
  unfold State.lanesStart
  repeat' first
    | with_reducible assumption
    | exact List.Subset.trans (by decide) hp
    | exact Nat.le_of_ble_eq_true rfl
    | exact Field.ix_lt _ _
    | with_reducible apply regPart_power
    | with_reducible apply regPart_memProt
    | with_reducible apply regPart_line
    | with_reducible apply regPart_tamid
    | with_reducible apply regPart_host
    | with_reducible apply regPart_system
    | intro _ _ _
    | intro _ _
    | intro _
    | with_reducible apply Evolves.ite
    | with_reducible apply State.votingStart_evolves
    | with_reducible apply State.txEnable_evolves
    | with_reducible apply State.acqStart_evolves
    | with_reducible apply State.hrEnable_evolves
    | with_reducible apply State.htEnable_evolves
    | with_reducible apply State.setFld_evolves
    | with_reducible apply Evolves.each

theorem State.bootRaises_evolves (h : Evolves ps s₀ s) (hp : [.free, .fuse, .link, .counters, .attic, .systemRegs] ⊆
    ps) :
    Evolves ps s₀ (s.bootRaises) := by
  unfold State.bootRaises
  repeat' first
    | with_reducible assumption
    | exact List.Subset.trans (by decide) hp
    | with_reducible apply Evolves.ite
    | with_reducible apply State.raise_evolves
    | with_reducible apply State.raiseOpen_evolves

theorem State.selfTested_evolves {a} {b} (h : Evolves ps s₀ s) (hp : [.free, .fuse, .link, .counters, .attic, .boot,
    .tamid, .thermal, .systemRegs, .tamidRegs, .keyRegs] ⊆ ps) :
    Evolves ps s₀ (s.selfTested a b) := by
  unfold State.selfTested
  repeat' first
    | with_reducible assumption
    | exact List.Subset.trans (by decide) hp
    | exact Nat.le_of_ble_eq_true rfl
    | exact Field.ix_lt _ _
    | exact Field.lt _
    | with_reducible apply regPart_key
    | intro _ _ _
    | intro _ _
    | intro _
    | with_reducible apply Evolves.ite
    | with_reducible apply State.bootRaises_evolves
    | with_reducible apply State.download_evolves
    | with_reducible apply State.kick_evolves
    | with_reducible apply State.watchdogsStart_evolves
    | with_reducible apply State.cmdReady_evolves
    | with_reducible apply State.setFlag_evolves
    | split
    | dsimp only
    | with_reducible apply Evolves.boot

theorem State.bootStep_evolves {ev} (h : Evolves ps s₀ s) (hp : [.free, .mem, .line, .host, .lanes, .fuse, .power,
    .link, .counters, .attic, .clock, .boot, .hk, .chain, .tamid, .memory, .pantry, .rooms, .thermal, .test,
    .systemRegs, .fuseRegs, .powerRegs, .clockRegs, .memProtRegs, .hkRegs, .thermRegs, .counterRegs, .testRegs,
    .lineRegs, .hostRegs, .tamidRegs, .chainRegs, .cdacRegs, .pantryRegs, .keyRegs, .otherRegs] ⊆ ps) :
    Evolves ps s₀ (s.bootStep ev) := by
  unfold State.bootStep
  repeat' first
    | with_reducible assumption
    | exact List.Subset.trans (by decide) hp
    | intro _ _ _
    | intro _ _
    | intro _
    | with_reducible apply Evolves.ite
    | with_reducible apply State.selfTested_evolves
    | with_reducible apply State.lanesStart_evolves
    | with_reducible apply State.mirnisStart_evolves
    | with_reducible apply State.authenticate_evolves
    | with_reducible apply State.download_evolves
    | with_reducible apply State.copySlot_evolves
    | with_reducible apply State.kick_evolves
    | with_reducible apply State.raise_evolves
    | with_reducible apply State.cmdReady_evolves
    | split
    | dsimp only
    | with_reducible apply Evolves.boot

theorem State.setAlive_evolves {c v} (h : Evolves ps s₀ s) (hp : [.keyRegs] ⊆ ps) :
    Evolves ps s₀ (s.setAlive c v) := by
  exact State.setFlag_evolves h (regPart_key (by cases c <;> decide) hp)

theorem State.moveKeys_evolves {c} (h : Evolves ps s₀ s) (hp : [.keyRegs] ⊆ ps) :
    Evolves ps s₀ (s.moveKeys c) := by
  unfold State.moveKeys
  repeat' first
    | with_reducible assumption
    | exact List.Subset.trans (by decide) hp
    | exact Nat.le_of_ble_eq_true rfl
    | exact Field.ix_lt _ _
    | with_reducible apply regPart_key
    | with_reducible apply State.bumpMod_evolves
    | with_reducible apply State.setFlag_evolves

theorem State.setWd_evolves {c} (h : Evolves ps s₀ s) (hp : [.boot] ⊆ ps) :
    Evolves ps s₀ (s.setWd c) := by
  unfold State.setWd
  repeat' first
    | with_reducible assumption
    | exact List.Subset.trans (by decide) hp
    | intro _ _ _
    | intro _ _
    | intro _
    | with_reducible apply Evolves.ite
    | split
    | dsimp only
    | with_reducible apply Evolves.boot

theorem State.setCtrlOk_evolves {c} {ok} (h : Evolves ps s₀ s) (hp : [.boot] ⊆ ps) :
    Evolves ps s₀ (s.setCtrlOk c ok) := by
  unfold State.setCtrlOk
  repeat' first
    | with_reducible assumption
    | exact List.Subset.trans (by decide) hp
    | intro _ _ _
    | intro _ _
    | intro _
    | with_reducible apply Evolves.ite
    | split
    | dsimp only
    | with_reducible apply Evolves.boot

theorem State.takeover_evolves (h : Evolves ps s₀ s) (hp : [.fuse, .link, .counters, .attic, .tamid, .systemRegs,
    .tamidRegs, .keyRegs] ⊆ ps) :
    Evolves ps s₀ (s.takeover) := by
  unfold State.takeover
  repeat' first
    | with_reducible assumption
    | exact List.Subset.trans (by decide) hp
    | exact Nat.le_of_ble_eq_true rfl
    | exact Field.ix_lt _ _
    | with_reducible apply regPart_key
    | with_reducible apply regPart_tamid
    | with_reducible apply regPart_system
    | with_reducible apply State.bump_evolves
    | with_reducible apply State.moveKeys_evolves
    | with_reducible apply State.setFlag_evolves
    | with_reducible apply State.setAlive_evolves
    | with_reducible apply State.attn_evolves
    | with_reducible apply State.raise_evolves
    | with_reducible apply State.kick_evolves
    | with_reducible apply State.retryTaken_evolves
    | with_reducible apply State.substitution_evolves
    | with_reducible apply Evolves.attic

theorem State.keysTaken_evolves {c} {ok} (h : Evolves ps s₀ s) (hp : [.link, .tamid, .systemRegs, .tamidRegs,
    .keyRegs] ⊆ ps) :
    Evolves ps s₀ (s.keysTaken c ok) := by
  unfold State.keysTaken
  repeat' first
    | with_reducible assumption
    | exact List.Subset.trans (by decide) hp
    | intro _ _ _
    | intro _ _
    | intro _
    | with_reducible apply Evolves.ite
    | with_reducible apply State.moveKeys_evolves
    | with_reducible apply State.kick_evolves
    | with_reducible apply State.retryTaken_evolves
    | split
    | dsimp only

theorem State.rejoin_evolves {ctl} {ok} (h : Evolves ps s₀ s) (hp : [.link, .boot, .tamid, .systemRegs, .tamidRegs,
    .keyRegs] ⊆ ps) :
    Evolves ps s₀ (s.rejoin ctl ok) := by
  unfold State.rejoin
  repeat' first
    | with_reducible assumption
    | exact List.Subset.trans (by decide) hp
    | intro _ _ _
    | intro _ _
    | intro _
    | with_reducible apply Evolves.ite
    | with_reducible apply State.keysTaken_evolves
    | with_reducible apply State.setCtrlOk_evolves
    | with_reducible apply State.setWd_evolves
    | with_reducible apply State.setAlive_evolves
    | with_reducible apply State.setFollowerOk_evolves
    | split
    | dsimp only

theorem State.profileCommand_evolves {o p} (h : Evolves ps s₀ s) (hp : [.lanes, .link, .tamid, .systemRegs, .tamidRegs,
    .keyRegs] ⊆ ps) :
    Evolves ps s₀ (s.profileCommand o p) := by
  unfold State.profileCommand
  repeat' first
    | with_reducible assumption
    | exact List.Subset.trans (by decide) hp
    | with_reducible apply Evolves.ite
    | with_reducible apply State.reply_evolves
    | with_reducible apply State.wantProfile_evolves
    | with_reducible apply State.accept_evolves
    | with_reducible apply Evolves.lanes

theorem State.laneModeSettle_evolves (h : Evolves ps s₀ s) (hp : [.link, .tamid, .systemRegs, .tamidRegs, .keyRegs] ⊆
    ps) :
    Evolves ps s₀ (s.laneModeSettle) := by
  unfold State.laneModeSettle
  repeat' first
    | with_reducible assumption
    | exact List.Subset.trans (by decide) hp
    | with_reducible apply Evolves.ite
    | with_reducible apply State.complete_evolves

theorem State.laneModeCommand_evolves {o mode g} (h : Evolves ps s₀ s) (hp : [.line, .host, .lanes, .fuse, .power,
    .link, .counters, .attic, .tamid, .systemRegs, .powerRegs, .memProtRegs, .lineRegs, .hostRegs, .tamidRegs,
        .keyRegs] ⊆ ps) :
    Evolves ps s₀ (s.laneModeCommand o mode g) := by
  unfold State.laneModeCommand
  repeat' first
    | with_reducible assumption
    | exact List.Subset.trans (by decide) hp
    | with_reducible apply Evolves.ite
    | with_reducible apply State.reply_evolves
    | with_reducible apply State.accept_evolves
    | with_reducible apply State.laneModeSettle_evolves
    | with_reducible apply State.setGrouping_evolves
    | with_reducible apply State.setMode_evolves

theorem State.readRegCommand_evolves {o a k} (h : Evolves ps s₀ s) (hp : [.line, .fuse, .power, .link, .counters,
    .tamid, .systemRegs, .fuseRegs, .powerRegs, .clockRegs, .memProtRegs, .hkRegs, .thermRegs, .counterRegs, .testRegs,
        .lineRegs, .hostRegs, .tamidRegs, .chainRegs, .cdacRegs, .pantryRegs, .keyRegs, .otherRegs] ⊆ ps) :
    Evolves ps s₀ (s.readRegCommand o a k) := by
  unfold State.readRegCommand
  repeat' first
    | with_reducible assumption
    | exact List.Subset.trans (by decide) hp
    | with_reducible apply Evolves.ite
    | with_reducible apply State.reply_evolves
    | with_reducible apply State.readRegs_evolves

theorem State.writeRegCommand_evolves {o pairs} (h : Evolves ps s₀ s) (hp : [.line, .host, .lanes, .fuse, .power,
    .link, .counters, .attic, .clock, .hk, .chain, .tamid, .memory, .pantry, .thermal, .test, .systemRegs, .fuseRegs,
        .powerRegs, .clockRegs, .memProtRegs, .hkRegs, .thermRegs, .counterRegs, .testRegs, .lineRegs, .hostRegs,
            .tamidRegs, .chainRegs, .cdacRegs, .pantryRegs, .keyRegs, .otherRegs] ⊆ ps) :
    Evolves ps s₀ (s.writeRegCommand o pairs) := by
  unfold State.writeRegCommand
  repeat' first
    | with_reducible assumption
    | exact List.Subset.trans (by decide) hp
    | with_reducible apply Evolves.ite
    | with_reducible apply State.writeRegs_evolves
    | with_reducible apply State.reply_evolves

theorem State.resetAllCommand_evolves {o} {key} (h : Evolves ps s₀ s) (hp : [.link, .tamid, .systemRegs, .tamidRegs,
    .keyRegs] ⊆ ps) :
    Evolves ps s₀ (s.resetAllCommand o key) := by
  unfold State.resetAllCommand
  repeat' first
    | with_reducible assumption
    | exact List.Subset.trans (by decide) hp
    | exact fun k => k
    | exact fun _ => Nat.zero_le _
    | intro _ _ _
    | intro _ _
    | intro _
    | with_reducible apply Evolves.ite
    | with_reducible apply State.reply_evolves
    | split
    | dsimp only
    | with_reducible apply Evolves.link

theorem State.imageLoad_evolves {o offset data} (h : Evolves ps s₀ s) (hp : [.mem, .link, .tamid, .systemRegs,
    .tamidRegs, .keyRegs] ⊆ ps) :
    Evolves ps s₀ (s.imageLoad o offset data) := by
  unfold State.imageLoad
  repeat' first
    | with_reducible assumption
    | exact List.Subset.trans (by decide) hp
    | with_reducible apply Evolves.ite
    | with_reducible apply State.reply_evolves
    | with_reducible apply State.setBytes_evolves

theorem State.imageCommit_evolves {o length} (h : Evolves ps s₀ s) (hp : [.link, .tamid, .systemRegs, .tamidRegs,
    .keyRegs] ⊆ ps) :
    Evolves ps s₀ (s.imageCommit o length) := by
  unfold State.imageCommit
  repeat' first
    | with_reducible assumption
    | exact List.Subset.trans (by decide) hp
    | with_reducible apply Evolves.ite
    | with_reducible apply State.reply_evolves
    | with_reducible apply State.accept_evolves

theorem State.commitDone_evolves {length} (h : Evolves ps s₀ s) (hp : [.fuse, .link, .counters, .attic, .boot, .tamid,
    .systemRegs, .tamidRegs, .keyRegs] ⊆ ps) :
    Evolves ps s₀ (s.commitDone length) := by
  unfold State.commitDone
  repeat' first
    | with_reducible assumption
    | exact List.Subset.trans (by decide) hp
    | exact Nat.le_of_ble_eq_true rfl
    | exact Field.ix_lt _ _
    | with_reducible apply regPart_tamid
    | with_reducible apply regPart_key
    | with_reducible apply regPart_system
    | with_reducible apply Evolves.ite
    | with_reducible apply State.complete_evolves
    | with_reducible apply State.setFld_evolves
    | with_reducible apply State.imageRuns_evolves
    | with_reducible apply State.raise_evolves
    | with_reducible apply Evolves.boot

theorem State.handoverDone_evolves (h : Evolves ps s₀ s) (hp : [.link, .tamid, .systemRegs, .tamidRegs, .keyRegs] ⊆ ps)
    :
    Evolves ps s₀ (s.handoverDone) := by
  unfold State.handoverDone
  repeat' first
    | with_reducible assumption
    | exact List.Subset.trans (by decide) hp
    | exact Nat.le_of_ble_eq_true rfl
    | exact Field.ix_lt _ _
    | with_reducible apply regPart_system
    | with_reducible apply regPart_key
    | with_reducible apply regPart_tamid
    | with_reducible apply Evolves.ite
    | with_reducible apply State.complete_evolves
    | with_reducible apply State.attn_evolves
    | with_reducible apply State.moveKeys_evolves

theorem State.flashDone_evolves (h : Evolves ps s₀ s) (hp : [.free, .flash, .link, .tamid, .flashJob, .systemRegs,
    .tamidRegs, .keyRegs] ⊆ ps) :
    Evolves ps s₀ (s.flashDone) := by
  unfold State.flashDone
  repeat' first
    | with_reducible assumption
    | exact List.Subset.trans (by decide) hp
    | intro _ _ _
    | intro _ _
    | intro _
    | with_reducible apply Evolves.ite
    | with_reducible apply State.flashProgram_evolves
    | with_reducible apply State.flashErase_evolves
    | with_reducible apply State.complete_evolves
    | split
    | dsimp only
    | with_reducible apply Evolves.flashJob

theorem State.completion_evolves {x} (h : Evolves ps s₀ s) (hp : [.free, .flash, .fuse, .link, .counters, .attic,
    .boot, .tamid, .flashJob, .systemRegs, .tamidRegs, .keyRegs] ⊆ ps) :
    Evolves ps s₀ (s.completion x) := by
  unfold State.completion
  repeat' first
    | with_reducible assumption
    | exact List.Subset.trans (by decide) hp
    | intro _ _ _
    | intro _ _
    | intro _
    | with_reducible apply Evolves.ite
    | with_reducible apply State.flashDone_evolves
    | with_reducible apply State.handoverDone_evolves
    | with_reducible apply State.commitDone_evolves
    | split
    | dsimp only

theorem State.guestLoadCommand_evolves {o t b1 offset data} (h : Evolves ps s₀ s) (hp : [.mem, .power, .link, .tamid,
    .rooms, .systemRegs, .powerRegs, .tamidRegs, .keyRegs] ⊆ ps) :
    Evolves ps s₀ (s.guestLoadCommand o t b1 offset data) := by
  unfold State.guestLoadCommand
  repeat' first
    | with_reducible assumption
    | exact List.Subset.trans (by decide) hp
    | intro _ _ _
    | intro _ _
    | intro _
    | with_reducible apply Evolves.ite
    | with_reducible apply State.reply_evolves
    | with_reducible apply State.modGuest_evolves
    | with_reducible apply State.access_evolves
    | with_reducible apply State.guestStore_evolves

theorem State.guestEngine_evolves {t} (h : Evolves ps s₀ s) (hp : [.mem, .fuse, .power, .link, .counters, .attic,
    .rooms, .test, .systemRegs, .powerRegs, .testRegs] ⊆ ps) :
    ∀ {z}, s.guestEngine t = some z → Evolves ps s₀ z := by
  intro u e
  unfold State.guestEngine at e
  dsimp only at e
  split at e
  · cases e; exact h
  · split at e
    · injection e with e
      subst e
      repeat' first
        | with_reducible assumption
        | exact List.Subset.trans (by decide) hp
        | with_reducible apply State.lastSpareGone_evolves
        | with_reducible apply State.setBytes_evolves
        | with_reducible apply State.modRoom_evolves
        | with_reducible apply State.bistNeeded_evolves
    · cases e

theorem State.guestRun_evolves {t} (h : Evolves ps s₀ s) (hp : [.mem, .power, .rooms] ⊆ ps) :
    Evolves ps s₀ (s.guestRun t) := by
  unfold State.guestRun
  repeat' first
    | with_reducible assumption
    | exact List.Subset.trans (by decide) hp
    | intro _ _ _
    | intro _ _
    | intro _
    | with_reducible apply Evolves.ite
    | with_reducible apply State.farDrop_evolves
    | with_reducible apply State.modGuest_evolves
    | with_reducible apply State.setEngine_evolves
    | with_reducible apply State.setBytes_evolves
    | split
    | dsimp only

theorem State.guestStartCommand_evolves {o t} (h : Evolves ps s₀ s) (hp : [.mem, .fuse, .power, .link, .counters,
    .attic, .tamid, .rooms, .test, .systemRegs, .powerRegs, .testRegs, .tamidRegs, .keyRegs] ⊆ ps) :
    Evolves ps s₀ (s.guestStartCommand o t) := by
  unfold State.guestStartCommand
  dsimp only
  refine Evolves.ite (State.reply_evolves h (List.Subset.trans (by decide) hp)) ?_
  split
  · rename_i e
    split at e
    · cases e
    · refine State.reply_evolves (State.guestRun_evolves (State.guestEngine_evolves h ?_ e) ?_) ?_
      all_goals exact List.Subset.trans (by decide) hp
  · refine State.reply_evolves (Evolves.ite (State.guestTrap_evolves h ?_) (State.loseTask_evolves h ?_)) ?_
    all_goals exact List.Subset.trans (by decide) hp

theorem State.fldDrop_evolves {e} (h : Evolves ps s₀ s) (hp : [.power] ⊆ ps) :
    Evolves ps s₀ (s.fldDrop e) := by
  unfold State.fldDrop
  repeat' first
    | with_reducible assumption
    | exact List.Subset.trans (by decide) hp
    | with_reducible apply Evolves.power

theorem State.guestStopCommand_evolves {o t} (h : Evolves ps s₀ s) (hp : [.fuse, .power, .link, .counters, .attic,
    .tamid, .rooms, .systemRegs, .tamidRegs, .keyRegs] ⊆ ps) :
    Evolves ps s₀ (s.guestStopCommand o t) := by
  unfold State.guestStopCommand
  repeat' first
    | with_reducible assumption
    | exact List.Subset.trans (by decide) hp
    | with_reducible apply Evolves.ite
    | with_reducible apply State.reply_evolves
    | with_reducible apply State.guestTrap_evolves
    | with_reducible apply State.modEngine_evolves
    | with_reducible apply State.fldDrop_evolves

theorem State.guestMail_evolves {o t words} (h : Evolves ps s₀ s) (hp : [.link, .tamid, .rooms, .systemRegs,
    .tamidRegs, .keyRegs] ⊆ ps) :
    Evolves ps s₀ (s.guestMail o t words) := by
  unfold State.guestMail
  repeat' first
    | with_reducible assumption
    | exact List.Subset.trans (by decide) hp
    | with_reducible apply Evolves.ite
    | with_reducible apply State.reply_evolves
    | with_reducible apply State.modGuest_evolves

theorem State.counterCommand_evolves {o k ev threshold} (h : Evolves ps s₀ s) (hp : [.link, .counters, .tamid,
    .systemRegs, .tamidRegs, .keyRegs] ⊆ ps) :
    Evolves ps s₀ (s.counterCommand o k ev threshold) := by
  unfold State.counterCommand
  repeat' first
    | with_reducible assumption
    | exact List.Subset.trans (by decide) hp
    | with_reducible apply Evolves.ite
    | with_reducible apply State.reply_evolves
    | with_reducible apply State.counterConfig_evolves

theorem State.counterReadCommand_evolves {o first count} (h : Evolves ps s₀ s) (hp : [.link, .tamid, .systemRegs,
    .counterRegs, .tamidRegs, .keyRegs] ⊆ ps) :
    Evolves ps s₀ (s.counterReadCommand o first count) := by
  unfold State.counterReadCommand
  repeat' first
    | with_reducible assumption
    | exact List.Subset.trans (by decide) hp
    | with_reducible apply Evolves.ite
    | with_reducible apply State.reply_evolves
    | with_reducible apply State.counterSnap_evolves

theorem State.atticCommand_evolves {o index count} (h : Evolves ps s₀ s) (hp : [.link, .tamid, .systemRegs, .tamidRegs,
    .keyRegs] ⊆ ps) :
    Evolves ps s₀ (s.atticCommand o index count) := by
  unfold State.atticCommand
  repeat' first
    | with_reducible assumption
    | exact List.Subset.trans (by decide) hp
    | with_reducible apply Evolves.ite
    | with_reducible apply State.reply_evolves
    | split

theorem State.retireCommand_evolves {o page} (h : Evolves ps s₀ s) (hp : [.link, .tamid, .memory, .systemRegs,
    .memProtRegs, .tamidRegs, .keyRegs] ⊆ ps) :
    Evolves ps s₀ (s.retireCommand o page) := by
  unfold State.retireCommand
  repeat' first
    | with_reducible assumption
    | exact List.Subset.trans (by decide) hp
    | with_reducible apply Evolves.ite
    | with_reducible apply State.reply_evolves
    | with_reducible apply State.retirePage_evolves
    | with_reducible apply State.accept_evolves

theorem State.eccCommand_evolves {o mem clear} (h : Evolves ps s₀ s) (hp : [.link, .tamid, .memory, .systemRegs,
    .memProtRegs, .tamidRegs, .keyRegs] ⊆ ps) :
    Evolves ps s₀ (s.eccCommand o mem clear) := by
  unfold State.eccCommand
  repeat' first
    | with_reducible assumption
    | exact List.Subset.trans (by decide) hp
    | intro _ _ _
    | intro _ _
    | intro _
    | with_reducible apply Evolves.ite
    | with_reducible apply State.reply_evolves
    | with_reducible apply State.eccClear_evolves
    | with_reducible apply Evolves.when

theorem State.memReadCommand_evolves {o a k fs} (h : Evolves ps s₀ s) (hp : [.free, .mem, .fuse, .power, .link,
    .counters, .attic, .tamid, .memory, .rooms, .test, .systemRegs, .powerRegs, .memProtRegs, .testRegs, .tamidRegs,
        .pantryRegs, .keyRegs] ⊆ ps) :
    Evolves ps s₀ (s.memReadCommand o a k fs) := by
  unfold State.memReadCommand
  repeat' first
    | with_reducible assumption
    | exact List.Subset.trans (by decide) hp
    | with_reducible apply Evolves.ite
    | with_reducible apply State.reply_evolves
    | with_reducible apply State.readMem_evolves

theorem State.memWriteCommand_evolves {o} {a} {data} (h : Evolves ps s₀ s) (hp : [.mem, .fuse, .link, .counters,
    .attic, .tamid, .memory, .systemRegs, .memProtRegs, .tamidRegs, .keyRegs] ⊆ ps) :
    Evolves ps s₀ (s.memWriteCommand o a data) := by
  unfold State.memWriteCommand
  repeat' first
    | with_reducible assumption
    | exact List.Subset.trans (by decide) hp
    | intro _ _ _
    | intro _ _
    | intro _
    | with_reducible apply Evolves.ite
    | with_reducible apply State.hallWrite_evolves
    | with_reducible apply State.reply_evolves
    | with_reducible apply State.hallAccess_evolves
    | split
    | dsimp only

theorem State.faultClear_evolves {o bits} (h : Evolves ps s₀ s) (hp : [.fuse, .link, .tamid, .systemRegs, .tamidRegs,
    .keyRegs] ⊆ ps) :
    Evolves ps s₀ (s.faultClear o bits) := by
  unfold State.faultClear
  repeat' first
    | with_reducible assumption
    | exact List.Subset.trans (by decide) hp
    | intro _ _ _
    | intro _ _
    | intro _
    | with_reducible apply Evolves.ite
    | with_reducible apply State.reply_evolves
    | with_reducible apply State.clearRecord_evolves
    | with_reducible apply State.clearHistory_evolves
    | with_reducible apply Evolves.when

theorem State.faultConfig_evolves {o src set} (h : Evolves ps s₀ s) (hp : [.fuse, .link, .tamid, .systemRegs,
    .tamidRegs, .keyRegs] ⊆ ps) :
    Evolves ps s₀ (s.faultConfig o src set) := by
  unfold State.faultConfig
  repeat' first
    | with_reducible assumption
    | exact List.Subset.trans (by decide) hp
    | with_reducible apply State.reply_evolves
    | with_reducible apply State.setReactions_evolves
    | split

theorem State.voteCommand_evolves {o d vote linger} (h : Evolves ps s₀ s) (hp : [.power, .link, .tamid, .systemRegs,
    .powerRegs, .tamidRegs, .keyRegs] ⊆ ps) :
    Evolves ps s₀ (s.voteCommand o d vote linger) := by
  unfold State.voteCommand
  repeat' first
    | with_reducible assumption
    | exact List.Subset.trans (by decide) hp
    | exact Nat.le_of_ble_eq_true rfl
    | exact Field.ix_lt _ _
    | with_reducible apply regPart_key
    | with_reducible apply regPart_tamid
    | with_reducible apply regPart_system
    | with_reducible apply regPart_power
    | with_reducible apply Evolves.ite
    | with_reducible apply State.reply_evolves
    | with_reducible apply State.putVote_evolves
    | with_reducible apply State.setFld_evolves

theorem State.cdacQueueCommand_evolves {o ch codes} (h : Evolves ps s₀ s) (hp : [.link, .cdac, .tamid, .systemRegs,
    .tamidRegs, .cdacRegs, .keyRegs] ⊆ ps) :
    Evolves ps s₀ (s.cdacQueueCommand o ch codes) := by
  unfold State.cdacQueueCommand
  dsimp only
  refine Evolves.ite (State.reply_evolves h (List.Subset.trans (by decide) hp)) ?_
  split
  · exact State.reply_evolves h (List.Subset.trans (by decide) hp)
  · rename_i hq
    refine State.reply_evolves (State.cdPush_evolves h ?_ (by omega)) ?_
    all_goals exact List.Subset.trans (by decide) hp

theorem State.cdacConfigCommand_evolves {o ch flags rate step safe} (h : Evolves ps s₀ s) (hp : [.link, .cdac, .tamid,
    .systemRegs, .tamidRegs, .cdacRegs, .keyRegs] ⊆ ps) :
    Evolves ps s₀ (s.cdacConfigCommand o ch flags rate step safe) := by
  unfold State.cdacConfigCommand
  repeat' first
    | with_reducible assumption
    | exact List.Subset.trans (by decide) hp
    | with_reducible apply Evolves.ite
    | with_reducible apply State.reply_evolves
    | with_reducible apply State.cdConfig_evolves

theorem State.tamidStatus_evolves {o} (h : Evolves ps s₀ s) (hp : [.line, .fuse, .link, .counters, .tamid, .systemRegs,
    .fuseRegs, .powerRegs, .clockRegs, .memProtRegs, .hkRegs, .thermRegs, .counterRegs, .testRegs, .lineRegs,
        .hostRegs, .tamidRegs, .chainRegs, .cdacRegs, .pantryRegs, .keyRegs, .otherRegs] ⊆ ps) :
    Evolves ps s₀ (s.tamidStatus o) := by
  unfold State.tamidStatus
  dsimp only
  refine State.reply_evolves ?_ (List.Subset.trans (by decide) hp)
  have k : ∀ (l : List (Fin 8)) (acc : List Byte × State), Evolves ps s₀ acc.2 → Evolves ps s₀ (l.foldl
      (fun (acc : List Byte × State) (i : Fin 8) =>
        (acc.1 ++ wordBytes [acc.2.tamidStatusWord i, (acc.2.readWord (tamidBase i.val + 8) acc.2.holderPort 0).1],
          (acc.2.readWord (tamidBase i.val + 8) acc.2.holderPort 0).2)) acc).2 := by
    intro l
    induction l with
    | nil => exact fun acc ha => ha
    | cons i l ih => exact fun acc ha => ih _ (State.readWord_snd ha (List.Subset.trans (by decide) hp))
  exact k allLines ([], s) h

theorem State.flashCommand_evolves {o} {offset} {flags} {zeros} {data} (h : Evolves ps s₀ s) (hp : [.link, .tamid,
    .flashJob, .systemRegs, .tamidRegs, .keyRegs] ⊆ ps) :
    Evolves ps s₀ (s.flashCommand o offset flags zeros data) := by
  unfold State.flashCommand
  repeat' first
    | with_reducible assumption
    | exact List.Subset.trans (by decide) hp
    | intro _ _ _
    | intro _ _
    | intro _
    | with_reducible apply Evolves.ite
    | with_reducible apply State.accept_evolves
    | with_reducible apply State.reply_evolves
    | split
    | dsimp only
    | with_reducible apply Evolves.flashJob

theorem State.pantryCommand_evolves {o obj first count} (h : Evolves ps s₀ s) (hp : [.power, .link, .counters, .tamid,
    .systemRegs, .powerRegs, .tamidRegs, .keyRegs] ⊆ ps) :
    Evolves ps s₀ (s.pantryCommand o obj first count) := by
  unfold State.pantryCommand
  repeat' first
    | with_reducible assumption
    | exact List.Subset.trans (by decide) hp
    | with_reducible apply Evolves.ite
    | with_reducible apply State.reply_evolves
    | with_reducible apply State.readPantry_evolves

theorem State.guestsLost_evolves {b} (h : Evolves ps s₀ s) (hp : [.power, .rooms] ⊆ ps) :
    Evolves ps s₀ (s.guestsLost b) := by
  unfold State.guestsLost
  repeat' first
    | with_reducible assumption
    | exact List.Subset.trans (by decide) hp
    | intro _ _ _
    | intro _ _
    | intro _
    | with_reducible apply State.modGuest_evolves
    | with_reducible apply State.setEngine_evolves
    | with_reducible apply State.farDrop_evolves
    | with_reducible apply Evolves.each

theorem State.bankContentsLost_evolves {b} (h : Evolves ps s₀ s) (hp : [.mem, .fuse, .power, .link, .counters, .attic,
    .pantry, .rooms, .systemRegs, .fuseRegs, .powerRegs, .clockRegs, .memProtRegs, .hkRegs, .thermRegs, .counterRegs,
    .testRegs, .lineRegs, .hostRegs, .tamidRegs, .chainRegs, .cdacRegs, .pantryRegs, .keyRegs, .otherRegs] ⊆ ps) :
    Evolves ps s₀ (s.bankContentsLost b) := by
  unfold State.bankContentsLost
  repeat' first
    | with_reducible assumption
    | exact List.Subset.trans (by decide) hp
    | exact nlcRegs_inBlock
    | exact pdRegs_inBlock
    | intro _ _ _
    | intro _ _
    | intro _
    | with_reducible apply Evolves.ite
    | with_reducible apply State.guestsLost_evolves
    | with_reducible apply State.tableStale_evolves
    | with_reducible apply State.wipeBank_evolves
    | with_reducible apply State.banksLost_evolves
    | split
    | dsimp only

theorem State.bankLost_evolves {b} (h : Evolves ps s₀ s) (hp : [.mem, .fuse, .power, .link, .counters, .attic, .pantry,
    .rooms, .systemRegs, .fuseRegs, .powerRegs, .clockRegs, .memProtRegs, .hkRegs, .thermRegs, .counterRegs, .testRegs,
        .lineRegs, .hostRegs, .tamidRegs, .chainRegs, .cdacRegs, .pantryRegs, .keyRegs, .otherRegs] ⊆ ps) :
    Evolves ps s₀ (s.bankLost b) := by
  unfold State.bankLost
  repeat' first
    | with_reducible assumption
    | exact List.Subset.trans (by decide) hp
    | with_reducible apply State.bankContentsLost_evolves
    | with_reducible apply State.raise_evolves
    | with_reducible apply State.setRetLost_evolves

theorem State.banksFail_evolves {d lost} (h : Evolves ps s₀ s) (hp : [.mem, .fuse, .power, .link, .counters, .attic,
    .pantry, .rooms, .systemRegs, .fuseRegs, .powerRegs, .clockRegs, .memProtRegs, .hkRegs, .thermRegs, .counterRegs,
        .testRegs, .lineRegs, .hostRegs, .tamidRegs, .chainRegs, .cdacRegs, .pantryRegs, .keyRegs, .otherRegs] ⊆ ps) :
    Evolves ps s₀ (s.banksFail d lost) := by
  unfold State.banksFail
  repeat' first
    | with_reducible assumption
    | exact List.Subset.trans (by decide) hp
    | intro _ _ _
    | intro _ _
    | intro _
    | with_reducible apply State.bankLost_evolves
    | with_reducible apply Evolves.each

theorem State.regGroupLost_evolves {d} (h : Evolves ps s₀ s) (hp : [.line, .host, .fuse, .link, .counters, .attic, .hk,
    .chain, .tamid, .pantry, .rooms, .systemRegs, .fuseRegs, .powerRegs, .clockRegs, .memProtRegs, .hkRegs, .thermRegs,
        .counterRegs, .testRegs, .lineRegs, .hostRegs, .tamidRegs, .chainRegs, .cdacRegs, .pantryRegs, .keyRegs,
            .otherRegs] ⊆ ps) :
    Evolves ps s₀ (s.regGroupLost d) := by
  unfold State.regGroupLost
  repeat' first
    | with_reducible assumption
    | exact List.Subset.trans (by decide) hp
    | with_reducible apply State.functionReset_evolves
    | with_reducible apply State.raise_evolves

theorem State.resumes_evolves {d} (h : Evolves ps s₀ s) (hp : [.line, .host, .lanes, .fuse, .power, .link, .counters,
    .attic, .chain, .tamid, .systemRegs, .powerRegs, .memProtRegs, .lineRegs, .hostRegs, .tamidRegs, .chainRegs] ⊆ ps) :
    Evolves ps s₀ (s.resumes d) := by
  unfold State.resumes
  repeat' first
    | with_reducible assumption
    | exact List.Subset.trans (by decide) hp
    | with_reducible apply Evolves.ite
    | with_reducible apply State.refreshPantryVote_evolves
    | with_reducible apply State.chainReady_evolves
    | with_reducible apply State.acqStart_evolves
    | with_reducible apply State.txStart_evolves
    | with_reducible apply State.hostResume_evolves
    | with_reducible apply State.htStart_evolves

theorem State.unquiesce_evolves {d} (h : Evolves ps s₀ s) (hp : [.line, .host, .memProtRegs, .lineRegs, .hostRegs] ⊆
    ps) :
    Evolves ps s₀ (s.unquiesce d) := by
  unfold State.unquiesce
  repeat' first
    | with_reducible assumption
    | exact List.Subset.trans (by decide) hp
    | with_reducible apply Evolves.ite
    | with_reducible apply State.txStart_evolves
    | with_reducible apply State.htStart_evolves

theorem State.domainOpen_evolves {d} (h : Evolves ps s₀ s) (hp : [.free, .mem, .line, .host, .lanes, .fuse, .power,
    .link, .counters, .attic, .clock, .hk, .cdac, .chain, .tamid, .memory, .pantry, .rooms, .thermal, .test,
        .systemRegs, .fuseRegs, .powerRegs, .clockRegs, .memProtRegs, .hkRegs, .thermRegs, .counterRegs, .testRegs,
            .lineRegs, .hostRegs, .tamidRegs, .chainRegs, .cdacRegs, .pantryRegs, .keyRegs, .otherRegs] ⊆ ps) :
    Evolves ps s₀ (s.domainOpen d) := by
  unfold State.domainOpen
  repeat' first
    | with_reducible assumption
    | exact List.Subset.trans (by decide) hp
    | with_reducible apply State.kick_evolves
    | with_reducible apply State.powerSettle_evolves
    | with_reducible apply State.unvoted_evolves
    | with_reducible apply State.proceedAll_evolves

theorem State.deepResume_evolves (h : Evolves ps s₀ s) (hp : [.line, .fuse, .power, .link, .counters, .attic, .clock,
    .systemRegs, .clockRegs, .lineRegs] ⊆ ps) :
    Evolves ps s₀ (s.deepResume) := by
  unfold State.deepResume
  repeat' first
    | with_reducible assumption
    | exact List.Subset.trans (by decide) hp
    | intro _ _ _
    | intro _ _
    | intro _
    | with_reducible apply Evolves.ite
    | with_reducible apply State.timeJump_evolves
    | with_reducible apply State.txSquelch_evolves
    | with_reducible apply Evolves.each

theorem State.domainReady_evolves {d} {lost} {regLost} (h : Evolves ps s₀ s) (hp : [.free, .mem, .line, .host, .lanes,
    .fuse, .power, .link, .counters, .attic, .clock, .hk, .cdac, .chain, .tamid, .memory, .pantry, .rooms, .thermal,
    .test, .systemRegs, .fuseRegs, .powerRegs, .clockRegs, .memProtRegs, .hkRegs, .thermRegs, .counterRegs, .testRegs,
    .lineRegs, .hostRegs, .tamidRegs, .chainRegs, .cdacRegs, .pantryRegs, .keyRegs, .otherRegs] ⊆ ps) :
    Evolves ps s₀ (s.domainReady d lost regLost) := by
  unfold State.domainReady
  repeat' first
    | with_reducible assumption
    | exact List.Subset.trans (by decide) hp
    | intro _ _ _
    | intro _ _
    | intro _
    | with_reducible apply Evolves.ite
    | with_reducible apply State.deepResume_evolves
    | with_reducible apply State.domainOpen_evolves
    | with_reducible apply State.resumes_evolves
    | with_reducible apply State.regGroupLost_evolves
    | with_reducible apply State.banksFail_evolves
    | with_reducible apply State.wakeSyn_evolves
    | with_reducible apply State.setDom_evolves
    | with_reducible apply State.releaseSources_evolves
    | with_reducible apply Evolves.when
    | split
    | dsimp only

theorem State.deepOver_evolves {lost} (h : Evolves ps s₀ s) (hp : [.free, .mem, .line, .host, .lanes, .fuse, .power,
    .link, .counters, .attic, .clock, .boot, .hk, .chain, .tamid, .memory, .pantry, .rooms, .thermal, .test,
    .systemRegs, .fuseRegs, .powerRegs, .clockRegs, .memProtRegs, .hkRegs, .thermRegs, .counterRegs, .testRegs,
    .lineRegs, .hostRegs, .tamidRegs, .chainRegs, .cdacRegs, .pantryRegs, .keyRegs, .otherRegs] ⊆ ps) :
    Evolves ps s₀ (s.deepOver lost) := by
  unfold State.deepOver
  repeat' first
    | with_reducible assumption
    | exact List.Subset.trans (by decide) hp
    | exact Nat.le_of_ble_eq_true rfl
    | exact Field.ix_lt _ _
    | exact Field.lt _
    | with_reducible apply regPart_power
    | intro _ _ _
    | intro _ _
    | intro _
    | with_reducible apply Evolves.ite
    | with_reducible apply State.deepResume_evolves
    | with_reducible apply State.banksFail_evolves
    | with_reducible apply State.kick_evolves
    | with_reducible apply State.proceedAll_evolves
    | with_reducible apply State.settled_evolves
    | with_reducible apply State.watchdogsStart_evolves
    | with_reducible apply State.complete_evolves
    | with_reducible apply State.unvoted_evolves
    | with_reducible apply State.setDom_evolves
    | with_reducible apply State.releaseSources_evolves
    | with_reducible apply State.raise_evolves
    | with_reducible apply Evolves.each
    | with_reducible apply State.bump_evolves
    | with_reducible apply State.setFlag_evolves
    | with_reducible apply State.setFld_evolves
    | split
    | dsimp only
    | with_reducible apply Evolves.power

theorem State.aoReading_evolves {ao} (h : Evolves ps s₀ s) (hp : [.power, .powerRegs] ⊆ ps) :
    Evolves ps s₀ (s.aoReading ao) := by
  unfold State.aoReading
  repeat' first
    | with_reducible assumption
    | exact List.Subset.trans (by decide) hp
    | exact Nat.le_of_ble_eq_true rfl
    | exact Field.ix_lt _ _
    | with_reducible apply regPart_power
    | with_reducible apply Evolves.ite
    | with_reducible apply State.setFld_evolves
    | with_reducible apply State.bump_evolves
    | with_reducible apply State.setFlag_evolves
    | with_reducible apply Evolves.power

theorem State.phasesTick_evolves (h : Evolves ps s₀ s) (hp : [.rooms] ⊆ ps) :
    Evolves ps s₀ (s.phasesTick) := by
  unfold State.phasesTick
  repeat' first
    | with_reducible assumption
    | exact List.Subset.trans (by decide) hp
    | with_reducible apply Evolves.ite
    | with_reducible apply Evolves.rooms

theorem State.countWaits_evolves (h : Evolves ps s₀ s) (hp : [.counters] ⊆ ps) :
    Evolves ps s₀ (s.countWaits) := by
  unfold State.countWaits
  repeat' first
    | with_reducible assumption
    | exact List.Subset.trans (by decide) hp
    | intro _ _ _
    | intro _ _
    | intro _
    | with_reducible apply Evolves.ite
    | with_reducible apply State.countEvent_evolves
    | with_reducible apply Evolves.each
    | split
    | dsimp only

theorem State.countFill_evolves (h : Evolves ps s₀ s) (hp : [.counters] ⊆ ps) :
    Evolves ps s₀ (s.countFill) := by
  unfold State.countFill
  repeat' first
    | with_reducible assumption
    | exact List.Subset.trans (by decide) hp
    | intro _ _ _
    | intro _ _
    | intro _
    | with_reducible apply Evolves.ite
    | with_reducible apply State.countEvent_evolves
    | with_reducible apply Evolves.each
    | split
    | dsimp only

theorem State.countOccupancy_evolves (h : Evolves ps s₀ s) (hp : [.counters] ⊆ ps) :
    Evolves ps s₀ (s.countOccupancy) := by
  unfold State.countOccupancy
  repeat' first
    | with_reducible assumption
    | exact List.Subset.trans (by decide) hp
    | with_reducible apply Evolves.ite
    | split
    | dsimp only
    | with_reducible apply Evolves.counters

theorem State.frameBoundaries_evolves (h : Evolves ps s₀ s) (hp : [.line, .host, .lanes, .fuse, .link, .counters,
    .attic, .tamid, .systemRegs, .memProtRegs, .lineRegs, .hostRegs, .tamidRegs] ⊆ ps) :
    Evolves ps s₀ (s.frameBoundaries) := by
  unfold State.frameBoundaries
  repeat' first
    | with_reducible assumption
    | exact List.Subset.trans (by decide) hp
    | intro _ _ _
    | intro _ _
    | intro _
    | with_reducible apply Evolves.ite
    | with_reducible apply State.txFrameBoundary_evolves
    | with_reducible apply State.rxFrameBoundary_evolves
    | with_reducible apply Evolves.each
    | split
    | dsimp only

theorem State.symbolStrobes_evolves (h : Evolves ps s₀ s) (hp : [.hk] ⊆ ps) :
    Evolves ps s₀ (s.symbolStrobes) := by
  unfold State.symbolStrobes
  repeat' first
    | with_reducible assumption
    | exact List.Subset.trans (by decide) hp
    | intro _ _ _
    | intro _ _
    | intro _
    | with_reducible apply Evolves.ite
    | with_reducible apply State.hkStrobe_evolves
    | with_reducible apply Evolves.each
    | split
    | dsimp only

theorem State.coreTick_evolves (h : Evolves ps s₀ s) (hp : [.tick, .line, .host, .lanes, .fuse, .power, .link,
    .counters, .attic, .clock, .hk, .tamid, .rooms, .systemRegs, .clockRegs, .memProtRegs, .lineRegs, .hostRegs,
    .tamidRegs] ⊆ ps) :
    Evolves ps s₀ (s.coreTick) := by
  unfold State.coreTick
  repeat' first
    | with_reducible assumption
    | exact List.Subset.trans (by decide) hp
    | intro _ _ _
    | intro _ _
    | intro _
    | with_reducible apply Evolves.ite
    | with_reducible apply State.symbolStrobes_evolves
    | with_reducible apply State.frameBoundaries_evolves
    | with_reducible apply State.countOccupancy_evolves
    | with_reducible apply State.countFill_evolves
    | with_reducible apply State.countWaits_evolves
    | with_reducible apply State.phasesTick_evolves
    | with_reducible apply State.aoTick_evolves
    | with_reducible apply State.countEvent_evolves
    | with_reducible apply Evolves.when
    | with_reducible apply Evolves.clock
    | with_reducible apply Evolves.tick

end Sys2Proof.Machine
end

