-- ==== Sys2Proof/Laws/CommandsA.lean ====
section
/-! SUPPORT. What each command can change before its reactions (`Runs`), in the order of the meanings' files. -/

namespace Sys2Proof.Machine

variable {ps : List Part} {s₀ s : State}

theorem command_runs {o op fits run} (hp : [.line, .host, .lanes, .fuse, .power, .link, .counters, .attic, .boot,
    .tamid, .systemRegs, .powerRegs, .memProtRegs, .lineRegs, .hostRegs, .tamidRegs, .keyRegs] ⊆ ps)
    (k : ∀ t, Evolves ps s t → Evolves ps s (run t)) : Runs ps s (command o op fits run s) := by
  unfold command
  exact Runs.ite (Runs.done (State.command_evolves (.refl _ _) hp k)) Runs.unchanged

theorem execEngNop_runs (r) (e) (s : State) :
    Runs [.free, .mem, .fuse, .power, .link, .counters, .attic, .rooms, .test, .systemRegs, .powerRegs, .testRegs] s
        (execEngNop r e s) := by
  unfold execEngNop
  repeat' first
    | with_reducible exact Evolves.refl _ _
    | with_reducible assumption
    | decide
    | intro _ _ _
    | intro _ _
    | intro _
    | with_reducible apply Runs.done
    | with_reducible apply State.issue_evolves

theorem execEngAdd_runs (r) (e) (s : State) :
    Runs [.free, .mem, .fuse, .power, .link, .counters, .attic, .rooms, .test, .systemRegs, .powerRegs, .testRegs] s
        (execEngAdd r e s) := by
  unfold execEngAdd
  repeat' first
    | with_reducible exact Evolves.refl _ _
    | with_reducible assumption
    | decide
    | intro _ _ _
    | intro _ _
    | intro _
    | with_reducible apply Runs.done
    | with_reducible apply State.issue_evolves

theorem execEngAdds_runs (r) (e) (s : State) :
    Runs [.free, .mem, .fuse, .power, .link, .counters, .attic, .rooms, .test, .systemRegs, .powerRegs, .testRegs] s
        (execEngAdds r e s) := by
  unfold execEngAdds
  repeat' first
    | with_reducible exact Evolves.refl _ _
    | with_reducible assumption
    | decide
    | intro _ _ _
    | intro _ _
    | intro _
    | with_reducible apply Runs.done
    | with_reducible apply State.issue_evolves

theorem execEngSub_runs (r) (e) (s : State) :
    Runs [.free, .mem, .fuse, .power, .link, .counters, .attic, .rooms, .test, .systemRegs, .powerRegs, .testRegs] s
        (execEngSub r e s) := by
  unfold execEngSub
  repeat' first
    | with_reducible exact Evolves.refl _ _
    | with_reducible assumption
    | decide
    | intro _ _ _
    | intro _ _
    | intro _
    | with_reducible apply Runs.done
    | with_reducible apply State.issue_evolves

theorem execEngSubs_runs (r) (e) (s : State) :
    Runs [.free, .mem, .fuse, .power, .link, .counters, .attic, .rooms, .test, .systemRegs, .powerRegs, .testRegs] s
        (execEngSubs r e s) := by
  unfold execEngSubs
  repeat' first
    | with_reducible exact Evolves.refl _ _
    | with_reducible assumption
    | decide
    | intro _ _ _
    | intro _ _
    | intro _
    | with_reducible apply Runs.done
    | with_reducible apply State.issue_evolves

theorem execEngAnd_runs (r) (e) (s : State) :
    Runs [.free, .mem, .fuse, .power, .link, .counters, .attic, .rooms, .test, .systemRegs, .powerRegs, .testRegs] s
        (execEngAnd r e s) := by
  unfold execEngAnd
  repeat' first
    | with_reducible exact Evolves.refl _ _
    | with_reducible assumption
    | decide
    | intro _ _ _
    | intro _ _
    | intro _
    | with_reducible apply Runs.done
    | with_reducible apply State.issue_evolves

theorem execEngOr_runs (r) (e) (s : State) :
    Runs [.free, .mem, .fuse, .power, .link, .counters, .attic, .rooms, .test, .systemRegs, .powerRegs, .testRegs] s
        (execEngOr r e s) := by
  unfold execEngOr
  repeat' first
    | with_reducible exact Evolves.refl _ _
    | with_reducible assumption
    | decide
    | intro _ _ _
    | intro _ _
    | intro _
    | with_reducible apply Runs.done
    | with_reducible apply State.issue_evolves

theorem execEngXor_runs (r) (e) (s : State) :
    Runs [.free, .mem, .fuse, .power, .link, .counters, .attic, .rooms, .test, .systemRegs, .powerRegs, .testRegs] s
        (execEngXor r e s) := by
  unfold execEngXor
  repeat' first
    | with_reducible exact Evolves.refl _ _
    | with_reducible assumption
    | decide
    | intro _ _ _
    | intro _ _
    | intro _
    | with_reducible apply Runs.done
    | with_reducible apply State.issue_evolves

theorem execEngAsr_runs (r) (e) (s : State) :
    Runs [.free, .mem, .fuse, .power, .link, .counters, .attic, .rooms, .test, .systemRegs, .powerRegs, .testRegs] s
        (execEngAsr r e s) := by
  unfold execEngAsr
  repeat' first
    | with_reducible exact Evolves.refl _ _
    | with_reducible assumption
    | decide
    | intro _ _ _
    | intro _ _
    | intro _
    | with_reducible apply Runs.done
    | with_reducible apply State.issue_evolves

theorem execEngLsl_runs (r) (e) (s : State) :
    Runs [.free, .mem, .fuse, .power, .link, .counters, .attic, .rooms, .test, .systemRegs, .powerRegs, .testRegs] s
        (execEngLsl r e s) := by
  unfold execEngLsl
  repeat' first
    | with_reducible exact Evolves.refl _ _
    | with_reducible assumption
    | decide
    | intro _ _ _
    | intro _ _
    | intro _
    | with_reducible apply Runs.done
    | with_reducible apply State.issue_evolves

theorem execEngLsr_runs (r) (e) (s : State) :
    Runs [.free, .mem, .fuse, .power, .link, .counters, .attic, .rooms, .test, .systemRegs, .powerRegs, .testRegs] s
        (execEngLsr r e s) := by
  unfold execEngLsr
  repeat' first
    | with_reducible exact Evolves.refl _ _
    | with_reducible assumption
    | decide
    | intro _ _ _
    | intro _ _
    | intro _
    | with_reducible apply Runs.done
    | with_reducible apply State.issue_evolves

theorem execEngAbs_runs (r) (e) (s : State) :
    Runs [.free, .mem, .fuse, .power, .link, .counters, .attic, .rooms, .test, .systemRegs, .powerRegs, .testRegs] s
        (execEngAbs r e s) := by
  unfold execEngAbs
  repeat' first
    | with_reducible exact Evolves.refl _ _
    | with_reducible assumption
    | decide
    | intro _ _ _
    | intro _ _
    | intro _
    | with_reducible apply Runs.done
    | with_reducible apply State.issue_evolves

theorem execEngNeg_runs (r) (e) (s : State) :
    Runs [.free, .mem, .fuse, .power, .link, .counters, .attic, .rooms, .test, .systemRegs, .powerRegs, .testRegs] s
        (execEngNeg r e s) := by
  unfold execEngNeg
  repeat' first
    | with_reducible exact Evolves.refl _ _
    | with_reducible assumption
    | decide
    | intro _ _ _
    | intro _ _
    | intro _
    | with_reducible apply Runs.done
    | with_reducible apply State.issue_evolves

theorem execEngCmp_runs (r) (e) (s : State) :
    Runs [.free, .mem, .fuse, .power, .link, .counters, .attic, .rooms, .test, .systemRegs, .powerRegs, .testRegs] s
        (execEngCmp r e s) := by
  unfold execEngCmp
  repeat' first
    | with_reducible exact Evolves.refl _ _
    | with_reducible assumption
    | decide
    | intro _ _ _
    | intro _ _
    | intro _
    | with_reducible apply Runs.done
    | with_reducible apply State.issue_evolves

theorem execEngMov_runs (r) (e) (s : State) :
    Runs [.free, .mem, .fuse, .power, .link, .counters, .attic, .rooms, .test, .systemRegs, .powerRegs, .testRegs] s
        (execEngMov r e s) := by
  unfold execEngMov
  repeat' first
    | with_reducible exact Evolves.refl _ _
    | with_reducible assumption
    | decide
    | intro _ _ _
    | intro _ _
    | intro _
    | with_reducible apply Runs.done
    | with_reducible apply State.issue_evolves

theorem execEngLdi_runs (r) (e) (s : State) :
    Runs [.free, .mem, .fuse, .power, .link, .counters, .attic, .rooms, .test, .systemRegs, .powerRegs, .testRegs] s
        (execEngLdi r e s) := by
  unfold execEngLdi
  repeat' first
    | with_reducible exact Evolves.refl _ _
    | with_reducible assumption
    | decide
    | intro _ _ _
    | intro _ _
    | intro _
    | with_reducible apply Runs.done
    | with_reducible apply State.issue_evolves

theorem execEngAddi_runs (r) (e) (s : State) :
    Runs [.free, .mem, .fuse, .power, .link, .counters, .attic, .rooms, .test, .systemRegs, .powerRegs, .testRegs] s
        (execEngAddi r e s) := by
  unfold execEngAddi
  repeat' first
    | with_reducible exact Evolves.refl _ _
    | with_reducible assumption
    | decide
    | intro _ _ _
    | intro _ _
    | intro _
    | with_reducible apply Runs.done
    | with_reducible apply State.issue_evolves

theorem execEngAndi_runs (r) (e) (s : State) :
    Runs [.free, .mem, .fuse, .power, .link, .counters, .attic, .rooms, .test, .systemRegs, .powerRegs, .testRegs] s
        (execEngAndi r e s) := by
  unfold execEngAndi
  repeat' first
    | with_reducible exact Evolves.refl _ _
    | with_reducible assumption
    | decide
    | intro _ _ _
    | intro _ _
    | intro _
    | with_reducible apply Runs.done
    | with_reducible apply State.issue_evolves

theorem execEngAsri_runs (r) (e) (s : State) :
    Runs [.free, .mem, .fuse, .power, .link, .counters, .attic, .rooms, .test, .systemRegs, .powerRegs, .testRegs] s
        (execEngAsri r e s) := by
  unfold execEngAsri
  repeat' first
    | with_reducible exact Evolves.refl _ _
    | with_reducible assumption
    | decide
    | intro _ _ _
    | intro _ _
    | intro _
    | with_reducible apply Runs.done
    | with_reducible apply State.issue_evolves

theorem execEngLsli_runs (r) (e) (s : State) :
    Runs [.free, .mem, .fuse, .power, .link, .counters, .attic, .rooms, .test, .systemRegs, .powerRegs, .testRegs] s
        (execEngLsli r e s) := by
  unfold execEngLsli
  repeat' first
    | with_reducible exact Evolves.refl _ _
    | with_reducible assumption
    | decide
    | intro _ _ _
    | intro _ _
    | intro _
    | with_reducible apply Runs.done
    | with_reducible apply State.issue_evolves

theorem execEngCmpi_runs (r) (e) (s : State) :
    Runs [.free, .mem, .fuse, .power, .link, .counters, .attic, .rooms, .test, .systemRegs, .powerRegs, .testRegs] s
        (execEngCmpi r e s) := by
  unfold execEngCmpi
  repeat' first
    | with_reducible exact Evolves.refl _ _
    | with_reducible assumption
    | decide
    | intro _ _ _
    | intro _ _
    | intro _
    | with_reducible apply Runs.done
    | with_reducible apply State.issue_evolves

theorem execEngSeta_runs (r) (e) (s : State) :
    Runs [.free, .mem, .fuse, .power, .link, .counters, .attic, .rooms, .test, .systemRegs, .powerRegs, .testRegs] s
        (execEngSeta r e s) := by
  unfold execEngSeta
  repeat' first
    | with_reducible exact Evolves.refl _ _
    | with_reducible assumption
    | decide
    | intro _ _ _
    | intro _ _
    | intro _
    | with_reducible apply Runs.done
    | with_reducible apply State.issue_evolves

theorem execEngSeto_runs (r) (e) (s : State) :
    Runs [.free, .mem, .fuse, .power, .link, .counters, .attic, .rooms, .test, .systemRegs, .powerRegs, .testRegs] s
        (execEngSeto r e s) := by
  unfold execEngSeto
  repeat' first
    | with_reducible exact Evolves.refl _ _
    | with_reducible assumption
    | decide
    | intro _ _ _
    | intro _ _
    | intro _
    | with_reducible apply Runs.done
    | with_reducible apply State.issue_evolves

theorem execEngMvda_runs (r) (e) (s : State) :
    Runs [.free, .mem, .fuse, .power, .link, .counters, .attic, .rooms, .test, .systemRegs, .powerRegs, .testRegs] s
        (execEngMvda r e s) := by
  unfold execEngMvda
  repeat' first
    | with_reducible exact Evolves.refl _ _
    | with_reducible assumption
    | decide
    | intro _ _ _
    | intro _ _
    | intro _
    | with_reducible apply Runs.done
    | with_reducible apply State.issue_evolves

theorem execEngMvad_runs (r) (e) (s : State) :
    Runs [.free, .mem, .fuse, .power, .link, .counters, .attic, .rooms, .test, .systemRegs, .powerRegs, .testRegs] s
        (execEngMvad r e s) := by
  unfold execEngMvad
  repeat' first
    | with_reducible exact Evolves.refl _ _
    | with_reducible assumption
    | decide
    | intro _ _ _
    | intro _ _
    | intro _
    | with_reducible apply Runs.done
    | with_reducible apply State.issue_evolves

theorem execEngLd_runs (r) (e) (s : State) :
    Runs [.free, .mem, .fuse, .power, .link, .counters, .attic, .rooms, .test, .systemRegs, .powerRegs, .testRegs] s
        (execEngLd r e s) := by
  unfold execEngLd
  repeat' first
    | with_reducible exact Evolves.refl _ _
    | with_reducible assumption
    | decide
    | intro _ _ _
    | intro _ _
    | intro _
    | with_reducible apply Runs.done
    | with_reducible apply Runs.ite
    | with_reducible apply Evolves.ite
    | with_reducible apply State.issue_evolves

theorem execEngSt_runs (r) (e) (s : State) :
    Runs [.free, .mem, .fuse, .power, .link, .counters, .attic, .rooms, .test, .systemRegs, .powerRegs, .testRegs] s
        (execEngSt r e s) := by
  unfold execEngSt
  repeat' first
    | with_reducible exact Evolves.refl _ _
    | with_reducible assumption
    | decide
    | intro _ _ _
    | intro _ _
    | intro _
    | with_reducible apply Runs.done
    | with_reducible apply Runs.ite
    | with_reducible apply Evolves.ite
    | with_reducible apply State.issueWith_evolves
    | with_reducible apply State.setDataWord_evolves

theorem execEngLdd_runs (r) (e) (s : State) :
    Runs [.free, .mem, .fuse, .power, .link, .counters, .attic, .rooms, .test, .systemRegs, .powerRegs, .testRegs] s
        (execEngLdd r e s) := by
  unfold execEngLdd
  repeat' first
    | with_reducible exact Evolves.refl _ _
    | with_reducible assumption
    | decide
    | intro _ _ _
    | intro _ _
    | intro _
    | with_reducible apply Runs.done
    | with_reducible apply State.issue_evolves

theorem execEngSha_runs (r) (e) (s : State) :
    Runs [.free, .mem, .fuse, .power, .link, .counters, .attic, .rooms, .test, .systemRegs, .powerRegs, .testRegs] s
        (execEngSha r e s) := by
  unfold execEngSha
  repeat' first
    | with_reducible exact Evolves.refl _ _
    | with_reducible assumption
    | decide
    | intro _ _ _
    | intro _ _
    | intro _
    | with_reducible apply Runs.done
    | with_reducible apply State.issue_evolves

theorem execEngMac_runs (r) (e) (s : State) :
    Runs [.free, .mem, .fuse, .power, .link, .counters, .attic, .rooms, .test, .systemRegs, .powerRegs, .testRegs] s
        (execEngMac r e s) := by
  unfold execEngMac
  repeat' first
    | with_reducible exact Evolves.refl _ _
    | with_reducible assumption
    | decide
    | intro _ _ _
    | intro _ _
    | intro _
    | with_reducible apply Runs.done
    | with_reducible apply State.issue_evolves

theorem execEngMsu_runs (r) (e) (s : State) :
    Runs [.free, .mem, .fuse, .power, .link, .counters, .attic, .rooms, .test, .systemRegs, .powerRegs, .testRegs] s
        (execEngMsu r e s) := by
  unfold execEngMsu
  repeat' first
    | with_reducible exact Evolves.refl _ _
    | with_reducible assumption
    | decide
    | intro _ _ _
    | intro _ _
    | intro _
    | with_reducible apply Runs.done
    | with_reducible apply State.issue_evolves

theorem execEngMpy_runs (r) (e) (s : State) :
    Runs [.free, .mem, .fuse, .power, .link, .counters, .attic, .rooms, .test, .systemRegs, .powerRegs, .testRegs] s
        (execEngMpy r e s) := by
  unfold execEngMpy
  repeat' first
    | with_reducible exact Evolves.refl _ _
    | with_reducible assumption
    | decide
    | intro _ _ _
    | intro _ _
    | intro _
    | with_reducible apply Runs.done
    | with_reducible apply State.issue_evolves

theorem execEngMacd_runs (r) (e) (s : State) :
    Runs [.free, .mem, .fuse, .power, .link, .counters, .attic, .rooms, .test, .systemRegs, .powerRegs, .testRegs] s
        (execEngMacd r e s) := by
  unfold execEngMacd
  repeat' first
    | with_reducible exact Evolves.refl _ _
    | with_reducible assumption
    | decide
    | intro _ _ _
    | intro _ _
    | intro _
    | with_reducible apply Runs.done
    | with_reducible apply State.issue_evolves

theorem execEngClr_runs (r) (e) (s : State) :
    Runs [.free, .mem, .fuse, .power, .link, .counters, .attic, .rooms, .test, .systemRegs, .powerRegs, .testRegs] s
        (execEngClr r e s) := by
  unfold execEngClr
  repeat' first
    | with_reducible exact Evolves.refl _ _
    | with_reducible assumption
    | decide
    | intro _ _ _
    | intro _ _
    | intro _
    | with_reducible apply Runs.done
    | with_reducible apply State.issue_evolves

theorem execEngSta_runs (r) (e) (s : State) :
    Runs [.free, .mem, .fuse, .power, .link, .counters, .attic, .rooms, .test, .systemRegs, .powerRegs, .testRegs] s
        (execEngSta r e s) := by
  unfold execEngSta
  repeat' first
    | with_reducible exact Evolves.refl _ _
    | with_reducible assumption
    | decide
    | intro _ _ _
    | intro _ _
    | intro _
    | with_reducible apply Runs.done
    | with_reducible apply Runs.ite
    | with_reducible apply Evolves.ite
    | with_reducible apply State.issueWith_evolves
    | with_reducible apply State.setDataWord_evolves

theorem execEngMvac_runs (r) (e) (s : State) :
    Runs [.free, .mem, .fuse, .power, .link, .counters, .attic, .rooms, .test, .systemRegs, .powerRegs, .testRegs] s
        (execEngMvac r e s) := by
  unfold execEngMvac
  repeat' first
    | with_reducible exact Evolves.refl _ _
    | with_reducible assumption
    | decide
    | intro _ _ _
    | intro _ _
    | intro _
    | with_reducible apply Runs.done
    | with_reducible apply State.issue_evolves

theorem execEngLacc_runs (r) (e) (s : State) :
    Runs [.free, .mem, .fuse, .power, .link, .counters, .attic, .rooms, .test, .systemRegs, .powerRegs, .testRegs] s
        (execEngLacc r e s) := by
  unfold execEngLacc
  repeat' first
    | with_reducible exact Evolves.refl _ _
    | with_reducible assumption
    | decide
    | intro _ _ _
    | intro _ _
    | intro _
    | with_reducible apply Runs.done
    | with_reducible apply State.issue_evolves

theorem execEngBr_runs (r) (e) (s : State) :
    Runs [.free, .mem, .fuse, .power, .link, .counters, .attic, .rooms, .test, .systemRegs, .powerRegs, .testRegs] s
        (execEngBr r e s) := by
  unfold execEngBr
  repeat' first
    | with_reducible exact Evolves.refl _ _
    | with_reducible assumption
    | decide
    | intro _ _ _
    | intro _ _
    | intro _
    | with_reducible apply Runs.done
    | with_reducible apply State.issueWith_evolves

theorem execEngCall_runs (r) (e) (s : State) :
    Runs [.free, .mem, .fuse, .power, .link, .counters, .attic, .rooms, .test, .systemRegs, .powerRegs, .testRegs] s
        (execEngCall r e s) := by
  unfold execEngCall
  repeat' first
    | with_reducible exact Evolves.refl _ _
    | with_reducible assumption
    | decide
    | intro _ _ _
    | intro _ _
    | intro _
    | with_reducible apply Runs.done
    | with_reducible apply Runs.ite
    | with_reducible apply Evolves.ite
    | with_reducible apply State.issueWith_evolves

theorem execEngRet_runs (r) (e) (s : State) :
    Runs [.free, .mem, .fuse, .power, .link, .counters, .attic, .rooms, .test, .systemRegs, .powerRegs, .testRegs] s
        (execEngRet r e s) := by
  unfold execEngRet
  repeat' first
    | with_reducible exact Evolves.refl _ _
    | with_reducible assumption
    | decide
    | intro _ _ _
    | intro _ _
    | intro _
    | with_reducible apply Runs.done
    | with_reducible apply Runs.ite
    | with_reducible apply Evolves.ite
    | with_reducible apply State.issueWith_evolves

theorem execEngRep_runs (r) (e) (s : State) :
    Runs [.free, .mem, .fuse, .power, .link, .counters, .attic, .rooms, .test, .systemRegs, .powerRegs, .testRegs] s
        (execEngRep r e s) := by
  unfold execEngRep
  repeat' first
    | with_reducible exact Evolves.refl _ _
    | with_reducible assumption
    | decide
    | intro _ _ _
    | intro _ _
    | intro _
    | with_reducible apply Runs.done
    | with_reducible apply State.issueFree_evolves

theorem execEngRpb_runs (r) (e) (s : State) :
    Runs [.free, .mem, .fuse, .power, .link, .counters, .attic, .rooms, .test, .systemRegs, .powerRegs, .testRegs] s
        (execEngRpb r e s) := by
  unfold execEngRpb
  repeat' first
    | with_reducible exact Evolves.refl _ _
    | with_reducible assumption
    | decide
    | intro _ _ _
    | intro _ _
    | intro _
    | with_reducible apply Runs.done
    | with_reducible apply State.issueFree_evolves

theorem execEngWait_runs (r) (e) (s : State) :
    Runs [.free, .mem, .fuse, .power, .link, .counters, .attic, .rooms, .test, .systemRegs, .powerRegs, .testRegs] s
        (execEngWait r e s) := by
  unfold execEngWait
  repeat' first
    | with_reducible exact Evolves.refl _ _
    | with_reducible assumption
    | decide
    | intro _ _ _
    | intro _ _
    | intro _
    | with_reducible apply Runs.done
    | with_reducible apply Runs.ite
    | with_reducible apply Evolves.ite
    | with_reducible apply State.issueWith_evolves

theorem execEngEvret_runs (r) (e) (s : State) :
    Runs [.free, .mem, .fuse, .power, .link, .counters, .attic, .rooms, .test, .systemRegs, .powerRegs, .testRegs] s
        (execEngEvret r e s) := by
  unfold execEngEvret
  repeat' first
    | with_reducible exact Evolves.refl _ _
    | with_reducible assumption
    | decide
    | intro _ _ _
    | intro _ _
    | intro _
    | with_reducible apply Runs.done
    | with_reducible apply State.issueWith_evolves
    | with_reducible apply State.modEngine_evolves

theorem execEngHbt_runs (r) (e) (s : State) :
    Runs [.free, .mem, .fuse, .power, .link, .counters, .attic, .rooms, .test, .systemRegs, .powerRegs, .testRegs] s
    (execEngHbt r e s) := by
  unfold execEngHbt
  repeat' first
    | with_reducible exact Evolves.refl _ _
    | with_reducible assumption
    | decide
    | intro _ _ _
    | intro _ _
    | intro _
    | with_reducible apply Runs.done
    | with_reducible apply Runs.unchanged
    | with_reducible apply Runs.ite
    | with_reducible apply Evolves.ite
    | with_reducible apply State.issue_evolves
    | split
    | dsimp only

theorem execEngSig_runs (r) (e) (s : State) :
    Runs [.free, .mem, .fuse, .power, .link, .counters, .attic, .rooms, .test, .systemRegs, .powerRegs, .testRegs] s
        (execEngSig r e s) := by
  unfold execEngSig
  repeat' first
    | with_reducible exact Evolves.refl _ _
    | with_reducible assumption
    | decide
    | intro _ _ _
    | intro _ _
    | intro _
    | with_reducible apply Runs.done
    | with_reducible apply State.issueWith_evolves
    | with_reducible apply State.modEngine_evolves

theorem execEngMfs_runs (r) (e) (s : State) :
    Runs [.free, .mem, .fuse, .power, .link, .counters, .attic, .rooms, .test, .systemRegs, .powerRegs, .testRegs] s
        (execEngMfs r e s) := by
  unfold execEngMfs
  repeat' first
    | with_reducible exact Evolves.refl _ _
    | with_reducible assumption
    | decide
    | intro _ _ _
    | intro _ _
    | intro _
    | with_reducible apply Runs.done
    | with_reducible apply State.issue_evolves

theorem execEngMvs_runs (r) (e) (s : State) :
    Runs [.free, .mem, .fuse, .power, .link, .counters, .attic, .rooms, .test, .systemRegs, .powerRegs, .testRegs] s
        (execEngMvs r e s) := by
  unfold execEngMvs
  repeat' first
    | with_reducible exact Evolves.refl _ _
    | with_reducible assumption
    | decide
    | intro _ _ _
    | intro _ _
    | intro _
    | with_reducible apply Runs.done
    | with_reducible apply State.issue_evolves

theorem execEngHalt_runs (r) (e) (s : State) :
    Runs [.free, .mem, .fuse, .power, .link, .counters, .attic, .rooms, .test, .systemRegs, .powerRegs, .testRegs] s
        (execEngHalt r e s) := by
  unfold execEngHalt
  repeat' first
    | with_reducible exact Evolves.refl _ _
    | with_reducible assumption
    | decide
    | intro _ _ _
    | intro _ _
    | intro _
    | with_reducible apply Runs.done
    | with_reducible apply Runs.ite
    | with_reducible apply Evolves.ite
    | with_reducible apply State.issueWith_evolves
    | with_reducible apply State.guestTrap_evolves
    | split

theorem execEngMvfp_runs (r) (e) (s : State) :
    Runs [.free, .mem, .fuse, .power, .link, .counters, .attic, .rooms, .test, .systemRegs, .powerRegs, .testRegs] s
        (execEngMvfp r e s) := by
  unfold execEngMvfp
  repeat' first
    | with_reducible exact Evolves.refl _ _
    | with_reducible assumption
    | decide
    | intro _ _ _
    | intro _ _
    | intro _
    | with_reducible apply Runs.done
    | with_reducible apply State.issue_evolves

theorem execEngIn_runs (r) (e) (s : State) :
    Runs [.free, .mem, .fuse, .power, .link, .counters, .attic, .rooms, .test, .systemRegs, .powerRegs, .testRegs] s
        (execEngIn r e s) := by
  unfold execEngIn
  repeat' first
    | with_reducible exact Evolves.refl _ _
    | with_reducible assumption
    | decide
    | intro _ _ _
    | intro _ _
    | intro _
    | with_reducible apply Runs.done
    | with_reducible apply Runs.ite
    | with_reducible apply Evolves.ite
    | with_reducible apply State.issueWith_evolves
    | with_reducible apply State.modGuest_evolves
    | with_reducible apply State.guestTrap_evolves
    | with_reducible apply State.fresh_snd
    | refine State.fresh_evolves ?_ ?_ (by assumption)
    | split

theorem execEngOut_runs (r) (e) (s : State) :
    Runs [.free, .mem, .fuse, .power, .link, .counters, .attic, .rooms, .test, .systemRegs, .powerRegs, .testRegs] s
        (execEngOut r e s) := by
  unfold execEngOut
  repeat' first
    | with_reducible exact Evolves.refl _ _
    | with_reducible assumption
    | decide
    | exact Nat.le_of_ble_eq_true rfl
    | exact Field.ix_lt _ _
    | with_reducible apply regPart_test
    | with_reducible apply regPart_power
    | with_reducible apply regPart_system
    | intro _ _ _
    | intro _ _
    | intro _
    | with_reducible apply Runs.done
    | with_reducible apply Runs.ite
    | with_reducible apply Evolves.ite
    | with_reducible apply State.issueWith_evolves
    | with_reducible apply State.attn_evolves
    | with_reducible apply State.modGuest_evolves
    | with_reducible apply State.guestTrap_evolves
    | with_reducible apply State.modEngine_evolves
    | split

theorem execEngPub_runs (r) (e) (s : State) :
    Runs [.free, .mem, .fuse, .power, .link, .counters, .attic, .rooms, .test, .systemRegs, .powerRegs, .testRegs] s
    (execEngPub r e s) := by
  unfold execEngPub
  repeat' first
    | with_reducible exact Evolves.refl _ _
    | with_reducible assumption
    | decide
    | intro _ _ _
    | intro _ _
    | intro _
    | with_reducible apply Runs.done
    | with_reducible apply Runs.unchanged
    | with_reducible apply Runs.ite
    | with_reducible apply Evolves.ite
    | with_reducible apply State.issueWith_evolves
    | with_reducible apply State.guestTrap_evolves
    | with_reducible apply State.modEngine_evolves
    | split
    | dsimp only

theorem execShadowSetTaken_runs (r) (e) (s : State) :
    Runs [.rooms] s (execShadowSetTaken r e s) := by
  unfold execShadowSetTaken
  repeat' first
    | with_reducible exact Evolves.refl _ _
    | with_reducible assumption
    | decide
    | intro _ _ _
    | intro _ _
    | intro _
    | with_reducible apply Runs.done
    | with_reducible apply Runs.unchanged
    | with_reducible apply Runs.ite
    | with_reducible apply Evolves.ite
    | with_reducible apply State.modRoom_evolves
    | with_reducible apply State.setEngine_evolves
    | split
    | dsimp only

theorem execEngineEventEntry_runs (r) (e) (s : State) :
    Runs [.rooms] s (execEngineEventEntry r e s) := by
  unfold execEngineEventEntry
  repeat' first
    | with_reducible exact Evolves.refl _ _
    | decide
    | with_reducible apply Runs.done
    | with_reducible apply Runs.unchanged
    | with_reducible apply Runs.ite
    | with_reducible apply Evolves.ite
    | with_reducible apply State.setEngine_evolves
    | split
    | dsimp only

theorem execEngineTimerExpiry_runs (r) (e) (s : State) :
    Runs [.rooms] s (execEngineTimerExpiry r e s) := by
  unfold execEngineTimerExpiry
  repeat' first
    | with_reducible exact Evolves.refl _ _
    | with_reducible assumption
    | decide
    | intro _ _ _
    | intro _ _
    | intro _
    | with_reducible apply Runs.done
    | with_reducible apply Runs.unchanged
    | with_reducible apply Runs.ite
    | with_reducible apply Evolves.ite
    | with_reducible apply State.setEngine_evolves
    | split
    | dsimp only

theorem execEngineWatchdogExpiry_runs (r) (e) (s : State) :
    Runs [.free, .mem, .fuse, .power, .link, .counters, .attic, .rooms, .test, .systemRegs, .powerRegs, .testRegs] s
    (execEngineWatchdogExpiry r e s) := by
  unfold execEngineWatchdogExpiry
  repeat' first
    | with_reducible exact Evolves.refl _ _
    | with_reducible assumption
    | decide
    | intro _ _ _
    | intro _ _
    | intro _
    | with_reducible apply Runs.done
    | with_reducible apply Runs.unchanged
    | with_reducible apply Runs.ite
    | with_reducible apply Evolves.ite
    | with_reducible apply State.engineFault_evolves
    | split
    | dsimp only

theorem execEngineFault_runs (r) (e) (code) (s : State) :
    Runs [.free, .mem, .fuse, .power, .link, .counters, .attic, .rooms, .test, .systemRegs, .powerRegs, .testRegs] s
        (execEngineFault r e code s) := by
  unfold execEngineFault
  repeat' first
    | with_reducible exact Evolves.refl _ _
    | decide
    | with_reducible apply Runs.done
    | with_reducible apply Runs.unchanged
    | with_reducible apply Runs.ite
    | with_reducible apply Evolves.ite
    | with_reducible apply State.engineFault_evolves

theorem execCheckpointSnapshot_runs (r) (t) (s : State) :
    Runs [.rooms] s (execCheckpointSnapshot r t s) := by
  unfold execCheckpointSnapshot
  repeat' first
    | with_reducible exact Evolves.refl _ _
    | decide
    | with_reducible apply Runs.done
    | with_reducible apply Runs.unchanged
    | with_reducible apply Runs.ite
    | with_reducible apply Evolves.ite
    | with_reducible apply Evolves.rooms

theorem execCheckpointCommit_runs (r) (t) (s : State) :
    Runs [.free, .mem, .rooms] s (execCheckpointCommit r t s) := by
  unfold execCheckpointCommit
  repeat' first
    | with_reducible exact Evolves.refl _ _
    | decide
    | with_reducible apply Runs.done
    | with_reducible apply Runs.unchanged
    | with_reducible apply Runs.ite
    | with_reducible apply Evolves.ite
    | with_reducible apply State.commitSlot_evolves

theorem execTakeoverResume_runs (r) (e) (s : State) :
    Runs [.mem, .fuse, .link, .counters, .attic, .pantry, .rooms, .systemRegs] s (execTakeoverResume r e s) := by
  unfold execTakeoverResume
  repeat' first
    | with_reducible exact Evolves.refl _ _
    | decide
    | with_reducible apply Runs.done
    | with_reducible apply Runs.unchanged
    | with_reducible apply State.takeoverResume_evolves
    | split

theorem execCensusSample_runs (n) (clock) (s : State) :
    Runs [.mem, .fuse, .link, .counters, .attic, .pantry, .systemRegs, .pantryRegs] s (execCensusSample n clock s) := by
  unfold execCensusSample
  repeat' first
    | with_reducible exact Evolves.refl _ _
    | with_reducible assumption
    | decide
    | exact Nat.le_of_ble_eq_true rfl
    | exact Field.ix_lt _ _
    | exact Field.lt _
    | with_reducible apply regPart_pantry
    | intro _ _ _
    | intro _ _
    | intro _
    | with_reducible apply Runs.done
    | with_reducible apply Runs.unchanged
    | with_reducible apply Runs.ite
    | with_reducible apply Evolves.ite
    | with_reducible apply State.censusApply_evolves
    | with_reducible apply State.modPantry_evolves
    | with_reducible apply State.bump_evolves
    | split
    | dsimp only

theorem execScrubStep_runs (f) (s : State) :
    Runs [.free, .mem, .fuse, .power, .link, .counters, .attic, .memory, .rooms, .test, .systemRegs, .powerRegs,
    .memProtRegs, .testRegs, .pantryRegs] s (execScrubStep f s) := by
  unfold execScrubStep
  repeat' first
    | with_reducible exact Evolves.refl _ _
    | with_reducible assumption
    | decide
    | exact Nat.le_of_ble_eq_true rfl
    | exact Field.ix_lt _ _
    | exact Field.lt _
    | with_reducible apply regPart_memProt
    | intro _ _ _
    | intro _ _
    | intro _
    | with_reducible apply Runs.done
    | with_reducible apply Runs.unchanged
    | with_reducible apply Runs.ite
    | with_reducible apply Evolves.ite
    | with_reducible apply State.scrubTimed_evolves
    | with_reducible apply State.scrubAdvance_evolves
    | refine State.logAddr_evolves ?_ ?_ (by assumption)
    | with_reducible apply State.wordFound_evolves
    | with_reducible apply State.hallAccess_evolves
    | with_reducible apply State.portRequest_evolves
    | with_reducible apply State.countEvent_evolves
    | with_reducible apply Evolves.when
    | with_reducible apply State.bump_evolves
    | split
    | dsimp only
    | with_reducible apply State.logAddr_snd

theorem execPageReconstructDone_runs (page) (s : State) :
    Runs [.mem, .fuse, .link, .counters, .attic, .memory, .pantry, .systemRegs, .memProtRegs, .pantryRegs] s
    (execPageReconstructDone page s) := by
  unfold execPageReconstructDone
  repeat' first
    | with_reducible exact Evolves.refl _ _
    | decide
    | with_reducible apply Runs.done
    | with_reducible apply Runs.unchanged
    | with_reducible apply Runs.ite
    | with_reducible apply Evolves.ite
    | with_reducible apply State.rebuildDone_evolves

theorem execCeWindow_runs (mem) (s : State) :
    Runs [.fuse, .link, .counters, .attic, .memory, .limits, .systemRegs] s (execCeWindow mem s) := by
  unfold execCeWindow
  repeat' first
    | with_reducible exact Evolves.refl _ _
    | with_reducible assumption
    | decide
    | intro _ _ _
    | intro _ _
    | intro _
    | with_reducible apply Runs.done
    | with_reducible apply Runs.unchanged
    | with_reducible apply Runs.ite
    | with_reducible apply Evolves.ite
    | with_reducible apply State.raiseLimited_evolves
    | split
    | dsimp only
    | with_reducible apply Evolves.memory

theorem execPageRetireDone_runs (found) (s : State) :
    Runs [.free, .mem, .fuse, .power, .link, .counters, .attic, .tamid, .memory, .rooms, .test, .systemRegs,
        .powerRegs, .memProtRegs, .testRegs, .tamidRegs, .pantryRegs, .keyRegs] s (execPageRetireDone found s) := by
  unfold execPageRetireDone
  repeat' first
    | with_reducible exact Evolves.refl _ _
    | decide
    | with_reducible apply Runs.done
    | with_reducible apply Runs.unchanged
    | with_reducible apply State.pageRetired_evolves
    | with_reducible apply State.copyFound_evolves
    | split

theorem execBankRetire_runs (bank) (init) (s : State) :
    Runs [.memory, .memProtRegs] s (execBankRetire bank init s) := by
  unfold execBankRetire
  repeat' first
    | with_reducible exact Evolves.refl _ _
    | decide
    | with_reducible apply Runs.done
    | with_reducible apply State.bankOp_evolves

theorem execBankInit_runs (bank) (s : State) :
    Runs [.memory, .memProtRegs] s (execBankInit bank s) := by
  unfold execBankInit
  repeat' first
    | with_reducible exact Evolves.refl _ _
    | decide
    | with_reducible apply Runs.done
    | with_reducible apply State.bankOp_evolves

theorem execBankRetireDone_runs (found) (s : State) :
    Runs [.free, .mem, .fuse, .power, .link, .counters, .attic, .memory, .rooms, .test, .systemRegs, .powerRegs,
        .memProtRegs, .testRegs, .pantryRegs] s (execBankRetireDone found s) := by
  unfold execBankRetireDone
  repeat' first
    | with_reducible exact Evolves.refl _ _
    | with_reducible assumption
    | decide
    | intro _ _ _
    | intro _ _
    | intro _
    | with_reducible apply Runs.done
    | with_reducible apply Runs.unchanged
    | with_reducible apply Runs.ite
    | with_reducible apply Evolves.ite
    | with_reducible apply State.wordFound_evolves
    | with_reducible apply State.bankRetired_evolves
    | with_reducible apply Evolves.each
    | split

theorem execBankInitDone_runs (s : State) :
    Runs [.mem, .memory, .memProtRegs] s (execBankInitDone s) := by
  unfold execBankInitDone
  repeat' first
    | with_reducible exact Evolves.refl _ _
    | with_reducible assumption
    | decide
    | intro _ _ _
    | intro _ _
    | intro _
    | with_reducible apply Runs.done
    | with_reducible apply Runs.unchanged
    | with_reducible apply Runs.ite
    | with_reducible apply Evolves.ite
    | with_reducible apply State.wipeBank_evolves
    | with_reducible apply State.setRetLost_evolves
    | split
    | dsimp only
    | with_reducible apply Evolves.memory

theorem execPantryFreezeWrite_runs (n) (on) (s : State) :
    Runs [.pantryRegs] s (execPantryFreezeWrite n on s) := by
  unfold execPantryFreezeWrite
  repeat' first
    | with_reducible exact Evolves.refl _ _
    | decide
    | with_reducible apply Runs.done
    | with_reducible apply State.pantryFreeze_evolves

theorem execPantryClearWrite_runs (n) (s : State) :
    Runs [.pantry, .pantryRegs] s (execPantryClearWrite n s) := by
  unfold execPantryClearWrite
  repeat' first
    | with_reducible exact Evolves.refl _ _
    | decide
    | with_reducible apply Runs.done
    | with_reducible apply State.pantryClear_evolves

theorem execPantryClearDone_runs (n) (s : State) :
    Runs [.mem, .link, .tamid, .pantry, .systemRegs, .memProtRegs, .tamidRegs, .pantryRegs, .keyRegs] s
        (execPantryClearDone n s) := by
  unfold execPantryClearDone
  repeat' first
    | with_reducible exact Evolves.refl _ _
    | decide
    | with_reducible apply Runs.done
    | with_reducible apply Runs.unchanged
    | with_reducible apply Runs.ite
    | with_reducible apply Evolves.ite
    | with_reducible apply State.pantryWipe_evolves
    | with_reducible apply State.pantryClearSettle_evolves
    | with_reducible apply Evolves.pantry

theorem execUpdaterFail_runs (n) (s : State) :
    Runs [.free, .fuse, .link, .counters, .attic, .systemRegs, .pantryRegs] s (execUpdaterFail n s) := by
  unfold execUpdaterFail
  repeat' first
    | with_reducible exact Evolves.refl _ _
    | decide
    | exact Nat.le_of_ble_eq_true rfl
    | exact Field.ix_lt _ _
    | with_reducible apply regPart_pantry
    | with_reducible apply regPart_system
    | with_reducible apply Runs.done
    | with_reducible apply Runs.unchanged
    | with_reducible apply Runs.ite
    | with_reducible apply Evolves.ite
    | with_reducible apply State.raiseOpen_evolves
    | with_reducible apply State.setFlag_evolves

theorem execCancellerDerive_runs (n) (s : State) :
    Runs [.pantry, .pantryRegs] s (execCancellerDerive n s) := by
  unfold execCancellerDerive
  repeat' first
    | with_reducible exact Evolves.refl _ _
    | with_reducible assumption
    | decide
    | intro _ _ _
    | intro _ _
    | intro _
    | with_reducible apply Runs.done
    | with_reducible apply Runs.unchanged
    | with_reducible apply Runs.ite
    | with_reducible apply Evolves.ite
    | with_reducible apply State.derive_evolves
    | split
    | dsimp only
    | with_reducible apply Evolves.pantry

theorem execCancellerInstall_runs (n) (hostSwap) (s : State) :
    Runs [.line, .tamid, .pantry, .lineRegs, .tamidRegs, .pantryRegs] s (execCancellerInstall n hostSwap s) := by
  unfold execCancellerInstall
  repeat' first
    | with_reducible exact Evolves.refl _ _
    | with_reducible assumption
    | decide
    | intro _ _ _
    | intro _ _
    | intro _
    | with_reducible apply Runs.done
    | with_reducible apply Runs.unchanged
    | with_reducible apply Runs.ite
    | with_reducible apply Evolves.ite
    | with_reducible apply State.pdInstall_evolves
    | with_reducible apply State.nlcInstall_evolves
    | with_reducible apply State.nlcHostSwap_evolves
    | split
    | dsimp only

theorem execInstallEvaluate_runs (n) (s : State) :
    Runs [.line, .fuse, .link, .counters, .attic, .tamid, .pantry, .systemRegs, .lineRegs, .tamidRegs, .pantryRegs] s
    (execInstallEvaluate n s) := by
  unfold execInstallEvaluate
  repeat' first
    | with_reducible exact Evolves.refl _ _
    | with_reducible assumption
    | decide
    | exact Nat.le_of_ble_eq_true rfl
    | exact Field.ix_lt _ _
    | exact Field.lt _
    | with_reducible apply regPart_pantry
    | intro _ _ _
    | intro _ _
    | intro _
    | with_reducible apply Runs.done
    | with_reducible apply Runs.unchanged
    | with_reducible apply Runs.ite
    | with_reducible apply Evolves.ite
    | with_reducible apply State.nlcInstall_evolves
    | with_reducible apply State.pantrySend_evolves
    | with_reducible apply State.raise_evolves
    | with_reducible apply State.modPantry_evolves
    | with_reducible apply State.bump_evolves
    | split
    | dsimp only

theorem execProposalSend_runs (n) (s : State) :
    Runs [.tamid, .pantry, .tamidRegs, .pantryRegs] s (execProposalSend n s) := by
  unfold execProposalSend
  repeat' first
    | with_reducible exact Evolves.refl _ _
    | with_reducible assumption
    | decide
    | exact Nat.le_of_ble_eq_true rfl
    | exact Field.ix_lt _ _
    | exact Field.lt _
    | with_reducible apply regPart_pantry
    | intro _ _ _
    | intro _ _
    | intro _
    | with_reducible apply Runs.done
    | with_reducible apply Runs.unchanged
    | with_reducible apply Runs.ite
    | with_reducible apply Evolves.ite
    | with_reducible apply State.sendProposal_evolves
    | with_reducible apply State.modPantry_evolves
    | with_reducible apply State.setFld_evolves
    | split
    | dsimp only

theorem execProposalTimeout_runs (n) (s : State) :
    Runs [.fuse, .link, .counters, .attic, .tamid, .pantry, .systemRegs, .tamidRegs] s (execProposalTimeout n s) := by
  unfold execProposalTimeout
  repeat' first
    | with_reducible exact Evolves.refl _ _
    | with_reducible assumption
    | decide
    | intro _ _ _
    | intro _ _
    | intro _
    | with_reducible apply Runs.done
    | with_reducible apply Runs.unchanged
    | with_reducible apply Runs.ite
    | with_reducible apply Evolves.ite
    | with_reducible apply State.sendProposal_evolves
    | with_reducible apply State.raise_evolves
    | with_reducible apply State.modPantry_evolves
    | split
    | dsimp only

theorem execProposeReceived_runs (n) (s : State) :
    Runs [.line, .tamid, .pantry, .lineRegs, .tamidRegs, .pantryRegs] s (execProposeReceived n s) := by
  unfold execProposeReceived
  repeat' first
    | with_reducible exact Evolves.refl _ _
    | with_reducible assumption
    | decide
    | with_reducible apply Runs.done
    | with_reducible apply Runs.unchanged
    | with_reducible apply Runs.ite
    | with_reducible apply Evolves.ite
    | with_reducible apply State.proposalWhole_evolves
    | with_reducible apply State.modPantry_evolves
    | refine State.takeMessage_evolves ?_ ?_ (by assumption)
    | split

theorem execAckReceived_runs (n) (s : State) :
    Runs [.tamid, .pantry] s (execAckReceived n s) := by
  unfold execAckReceived
  repeat' first
    | with_reducible exact Evolves.refl _ _
    | with_reducible assumption
    | decide
    | intro _ _ _
    | intro _ _
    | intro _
    | with_reducible apply Runs.done
    | with_reducible apply Runs.unchanged
    | with_reducible apply Runs.ite
    | with_reducible apply Evolves.ite
    | refine State.takeMessage_evolves ?_ ?_ (by assumption)
    | with_reducible apply State.installPoint_evolves
    | with_reducible apply State.modPantry_evolves
    | split
    | dsimp only

theorem execRevertReceived_runs (n) (s : State) :
    Runs [.line, .tamid, .pantry, .lineRegs, .tamidRegs, .pantryRegs] s (execRevertReceived n s) := by
  unfold execRevertReceived
  repeat' first
    | with_reducible exact Evolves.refl _ _
    | with_reducible assumption
    | decide
    | exact Nat.le_of_ble_eq_true rfl
    | exact Field.ix_lt _ _
    | exact Field.lt _
    | with_reducible apply regPart_pantry
    | intro _ _ _
    | intro _ _
    | intro _
    | with_reducible apply Runs.done
    | with_reducible apply Runs.unchanged
    | with_reducible apply Runs.ite
    | with_reducible apply Evolves.ite
    | refine State.takeMessage_evolves ?_ ?_ (by assumption)
    | with_reducible apply State.pdInstall_evolves
    | with_reducible apply State.modPantry_evolves
    | with_reducible apply State.bump_evolves
    | split
    | dsimp only

theorem execProposalAssemblyTimeout_runs (n) (s : State) :
    Runs [.tamid, .pantry, .tamidRegs] s (execProposalAssemblyTimeout n s) := by
  unfold execProposalAssemblyTimeout
  repeat' first
    | with_reducible exact Evolves.refl _ _
    | with_reducible assumption
    | decide
    | intro _ _ _
    | intro _ _
    | intro _
    | with_reducible apply Runs.done
    | with_reducible apply Runs.unchanged
    | with_reducible apply Runs.ite
    | with_reducible apply Evolves.ite
    | with_reducible apply State.pantrySend_evolves
    | with_reducible apply State.modPantry_evolves
    | split
    | dsimp only

theorem execMcStart_runs (j) (s : State) :
    Runs [.chain, .chainRegs] s (execMcStart j s) := by
  unfold execMcStart
  repeat' first
    | with_reducible exact Evolves.refl _ _
    | decide
    | with_reducible apply Runs.done
    | with_reducible apply State.mcStart_evolves

theorem execMcStop_runs (j) (s : State) :
    Runs [.chainRegs] s (execMcStop j s) := by
  unfold execMcStop
  repeat' first
    | with_reducible exact Evolves.refl _ _
    | decide
    | with_reducible apply Runs.done
    | with_reducible apply State.mcStop_evolves

theorem execMcSwap_runs (j) (s : State) :
    Runs [.chain, .chainRegs] s (execMcSwap j s) := by
  unfold execMcSwap
  repeat' first
    | with_reducible exact Evolves.refl _ _
    | decide
    | with_reducible apply Runs.done
    | with_reducible apply State.mcSwap_evolves

theorem execMcConfigWrite_runs (j) (offset) (value) (s : State) :
    Runs [.chainRegs] s (execMcConfigWrite j offset value s) := by
  unfold execMcConfigWrite
  repeat' first
    | with_reducible exact Evolves.refl _ _
    | decide
    | with_reducible apply Runs.done
    | with_reducible apply State.mcWrite_evolves

theorem execMcForceFbWrite_runs (j) (on) (s : State) :
    Runs [.chain, .chainRegs] s (execMcForceFbWrite j on s) := by
  unfold execMcForceFbWrite
  repeat' first
    | with_reducible exact Evolves.refl _ _
    | decide
    | with_reducible apply Runs.done
    | with_reducible apply State.mcForce_evolves

theorem execMcOutput_runs (j) (samples) (s : State) :
    Runs [.chain, .chainRegs] s (execMcOutput j samples s) := by
  unfold execMcOutput
  repeat' first
    | with_reducible exact Evolves.refl _ _
    | with_reducible assumption
    | decide
    | intro _ _ _
    | intro _ _
    | intro _
    | with_reducible apply Runs.done
    | with_reducible apply Runs.unchanged
    | with_reducible apply Runs.ite
    | with_reducible apply Evolves.ite
    | with_reducible apply State.mcPublish_evolves
    | with_reducible apply State.modChain_evolves
    | split
    | dsimp only

theorem execMcFadeComplete_runs (j) (s : State) :
    Runs [.chainRegs] s (execMcFadeComplete j s) := by
  unfold execMcFadeComplete
  repeat' first
    | with_reducible exact Evolves.refl _ _
    | decide
    | with_reducible apply Runs.done
    | with_reducible apply Runs.unchanged
    | with_reducible apply Runs.ite
    | with_reducible apply Evolves.ite
    | with_reducible apply State.mcFlip_evolves

theorem execChainFault_runs (j) (s : State) :
    Runs [.fuse, .link, .counters, .attic, .chain, .systemRegs, .chainRegs] s (execChainFault j s) := by
  unfold execChainFault
  repeat' first
    | with_reducible exact Evolves.refl _ _
    | decide
    | exact Nat.le_of_ble_eq_true rfl
    | exact Field.ix_lt _ _
    | with_reducible apply regPart_system
    | with_reducible apply regPart_mc
    | with_reducible apply regPart_chainCtl
    | with_reducible apply Runs.done
    | with_reducible apply Runs.unchanged
    | with_reducible apply Runs.ite
    | with_reducible apply Evolves.ite
    | with_reducible apply State.raise_evolves
    | with_reducible apply State.modChain_evolves
    | with_reducible apply State.toFallback_evolves
    | with_reducible apply State.setFlag_evolves
    | with_reducible apply State.chainStop_evolves

theorem execInnerCodewordDecode_runs (n) (soft) (marker) (s : State) :
    Runs [.line, .counters] s (execInnerCodewordDecode n soft marker s) := by
  unfold execInnerCodewordDecode
  repeat' first
    | with_reducible exact Evolves.refl _ _
    | with_reducible assumption
    | decide
    | intro _ _ _
    | intro _ _
    | intro _
    | with_reducible apply Runs.done
    | with_reducible apply Runs.unchanged
    | with_reducible apply Runs.ite
    | with_reducible apply Evolves.ite
    | with_reducible apply State.bwAdd_evolves
    | with_reducible apply State.modRx_evolves
    | split
    | dsimp only

theorem execLineFrameReceived_runs (n) (words) (s : State) :
    Runs [.line, .host, .lanes, .fuse, .link, .counters, .attic, .tamid, .systemRegs, .lineRegs, .hostRegs,
    .tamidRegs] s (execLineFrameReceived n words s) := by
  unfold execLineFrameReceived
  repeat' first
    | with_reducible exact Evolves.refl _ _
    | with_reducible assumption
    | decide
    | exact Nat.le_of_ble_eq_true rfl
    | exact Field.ix_lt _ _
    | exact Field.lt _
    | with_reducible apply regPart_line
    | intro _ _ _
    | intro _ _
    | intro _
    | with_reducible apply Runs.done
    | with_reducible apply Runs.unchanged
    | with_reducible apply Runs.ite
    | with_reducible apply Evolves.ite
    | with_reducible apply State.frameLost_evolves
    | with_reducible apply State.lol_evolves
    | with_reducible apply State.countEvent_evolves
    | with_reducible apply State.modRx_evolves
    | with_reducible apply State.bump_evolves
    | with_reducible apply Evolves.foldl
    | split
    | dsimp only

theorem execKp4Codeword_runs (m) (mon) (word) (s : State) :
    Runs [.line, .host, .fuse, .link, .counters, .attic, .limits, .systemRegs, .lineRegs, .hostRegs] s
    (execKp4Codeword m mon word s) := by
  unfold execKp4Codeword
  repeat' first
    | with_reducible exact Evolves.refl _ _
    | with_reducible assumption
    | decide
    | intro _ _ _
    | intro _ _
    | intro _
    | with_reducible apply Runs.done
    | with_reducible apply Runs.unchanged
    | with_reducible apply Runs.ite
    | with_reducible apply Evolves.ite
    | with_reducible apply State.codewordBandwidth_evolves
    | with_reducible apply State.setForwarded_evolves
    | with_reducible apply State.raiseUncorr_evolves
    | with_reducible apply State.terminateBoundary_evolves
    | with_reducible apply State.setMon_evolves
    | with_reducible apply State.dropCwLock_evolves
    | with_reducible apply State.raise_evolves
    | with_reducible apply State.countEvent_evolves
    | split
    | dsimp only

theorem execKp4CwLockAcquired_runs (m) (tests) (s : State) :
    Runs [.line, .host, .fuse, .link, .counters, .attic, .systemRegs, .lineRegs, .hostRegs] s (execKp4CwLockAcquired m
    tests s) := by
  unfold execKp4CwLockAcquired
  repeat' first
    | with_reducible exact Evolves.refl _ _
    | with_reducible assumption
    | decide
    | exact Nat.le_of_ble_eq_true rfl
    | exact Field.ix_lt _ _
    | exact Field.lt _
    | with_reducible apply regPart_host
    | intro _ _ _
    | intro _ _
    | intro _
    | with_reducible apply Runs.done
    | with_reducible apply Runs.unchanged
    | with_reducible apply Runs.ite
    | with_reducible apply Evolves.ite
    | with_reducible apply State.pairHold_evolves
    | with_reducible apply State.terminateBoundary_evolves
    | with_reducible apply State.refreshHostFill_evolves
    | with_reducible apply State.quiet_evolves
    | with_reducible apply State.modHost_evolves
    | with_reducible apply State.bump_evolves
    | with_reducible apply State.setFlag_evolves
    | split
    | dsimp only

theorem execTerminateWrite_runs (m) (mon) (on) (s : State) :
    Runs [.hostRegs] s (execTerminateWrite m mon on s) := by
  unfold execTerminateWrite
  repeat' first
    | with_reducible exact Evolves.refl _ _
    | decide
    | exact Nat.le_of_ble_eq_true rfl
    | exact Field.ix_lt _ _
    | with_reducible apply regPart_host
    | with_reducible apply Runs.done
    | with_reducible apply State.setFlag_evolves
    | exact (by cases mon <;> exact Nat.le_of_ble_eq_true rfl)

theorem execCounterBlockSnap_runs (b) (alsoClr) (arrived) (s : State) :
    Runs [.line, .host, .lineRegs, .hostRegs] s (execCounterBlockSnap b alsoClr arrived s) := by
  unfold execCounterBlockSnap
  repeat' first
    | with_reducible exact Evolves.refl _ _
    | with_reducible assumption
    | decide
    | intro _ _ _
    | intro _ _
    | intro _
    | with_reducible apply Runs.done
    | with_reducible apply Runs.unchanged
    | with_reducible apply Runs.ite
    | with_reducible apply Evolves.ite
    | with_reducible apply State.blockErrors_evolves
    | with_reducible apply State.clrBlock_evolves
    | with_reducible apply State.snapBlock_evolves
    | split
    | dsimp only

theorem execCounterBlockClr_runs (b) (arrived) (s : State) :
    Runs [.line, .host] s (execCounterBlockClr b arrived s) := by
  unfold execCounterBlockClr
  repeat' first
    | with_reducible exact Evolves.refl _ _
    | with_reducible assumption
    | decide
    | intro _ _ _
    | intro _ _
    | intro _
    | with_reducible apply Runs.done
    | with_reducible apply Runs.unchanged
    | with_reducible apply Runs.ite
    | with_reducible apply Evolves.ite
    | with_reducible apply State.blockErrors_evolves
    | with_reducible apply State.clrBlock_evolves
    | split
    | dsimp only

theorem execBerPublish_runs (n) (s : State) :
    Runs [.free, .line, .fuse, .link, .counters, .attic, .systemRegs, .lineRegs] s (execBerPublish n s) := by
  unfold execBerPublish
  repeat' first
    | with_reducible exact Evolves.refl _ _
    | with_reducible assumption
    | decide
    | exact Nat.le_of_ble_eq_true rfl
    | exact Field.ix_lt _ _
    | exact Field.lt _
    | with_reducible apply regPart_line
    | intro _ _ _
    | intro _ _
    | intro _
    | with_reducible apply Runs.done
    | with_reducible apply Runs.unchanged
    | with_reducible apply Runs.ite
    | with_reducible apply Evolves.ite
    | refine State.berValue_evolves ?_ ?_ (by assumption)
    | with_reducible apply State.raise_evolves
    | with_reducible apply State.modRx_evolves
    | with_reducible apply State.setFlag_evolves
    | with_reducible apply State.setFld_evolves
    | split
    | dsimp only
    | with_reducible apply State.berValue_snd

theorem execFfeWindow_runs (n) (symbols) (s : State) :
    Runs [.lineRegs] s (execFfeWindow n symbols s) := by
  unfold execFfeWindow
  repeat' first
    | with_reducible exact Evolves.refl _ _
    | with_reducible assumption
    | decide
    | exact Nat.le_of_ble_eq_true rfl
    | exact Field.ix_lt _ _
    | exact Field.lt _
    | with_reducible apply regPart_line
    | intro _ _ _
    | intro _ _
    | intro _
    | with_reducible apply Runs.done
    | with_reducible apply Runs.unchanged
    | with_reducible apply Runs.ite
    | with_reducible apply Evolves.ite
    | with_reducible apply Evolves.when
    | with_reducible apply Evolves.each
    | with_reducible apply State.setFld_evolves
    | split
    | dsimp only

theorem execTimingUpdate_runs (n) (o) (s : State) :
    Runs [.line, .lineRegs] s (execTimingUpdate n o s) := by
  unfold execTimingUpdate
  repeat' first
    | with_reducible exact Evolves.refl _ _
    | with_reducible assumption
    | decide
    | exact Nat.le_of_ble_eq_true rfl
    | exact Field.ix_lt _ _
    | exact Field.lt _
    | with_reducible apply regPart_line
    | intro _ _ _
    | intro _ _
    | intro _
    | with_reducible apply Runs.done
    | with_reducible apply Runs.unchanged
    | with_reducible apply Runs.ite
    | with_reducible apply Evolves.ite
    | with_reducible apply State.rotHold_evolves
    | with_reducible apply State.modRx_evolves
    | with_reducible apply State.setFld_evolves
    | split
    | dsimp only

theorem execMlseLevelUpdate_runs (n) (symbols) (s : State) :
    Runs [.line, .lineRegs] s (execMlseLevelUpdate n symbols s) := by
  unfold execMlseLevelUpdate
  repeat' first
    | with_reducible exact Evolves.refl _ _
    | with_reducible assumption
    | decide
    | exact Nat.le_of_ble_eq_true rfl
    | exact Field.ix_lt _ _
    | exact Field.lt _
    | with_reducible apply regPart_line
    | intro _ _ _
    | intro _ _
    | intro _
    | with_reducible apply Runs.done
    | with_reducible apply Runs.unchanged
    | with_reducible apply Runs.ite
    | with_reducible apply Evolves.ite
    | with_reducible apply Evolves.when
    | with_reducible apply Evolves.each
    | with_reducible apply State.modRx_evolves
    | with_reducible apply State.setFld_evolves
    | split
    | dsimp only

theorem execNlcSwap_runs (n) (lockLost) (s : State) :
    Runs [.line, .fuse, .link, .counters, .attic, .tamid, .pantry, .systemRegs, .lineRegs, .tamidRegs, .pantryRegs] s
        (execNlcSwap n lockLost s) := by
  unfold execNlcSwap
  repeat' first
    | with_reducible exact Evolves.refl _ _
    | decide
    | exact nlcRegs_inBlock
    | exact pdRegs_inBlock
    | with_reducible apply Runs.done
    | with_reducible apply Runs.ite
    | with_reducible apply Evolves.ite
    | with_reducible apply State.nlcHostSwap_evolves
    | with_reducible apply State.fadeStop_evolves

theorem execNlcEngineSwap_runs (n) (s : State) :
    Runs [.line, .tamid, .pantry, .lineRegs, .tamidRegs, .pantryRegs] s (execNlcEngineSwap n s) := by
  unfold execNlcEngineSwap
  repeat' first
    | with_reducible exact Evolves.refl _ _
    | with_reducible assumption
    | decide
    | intro _ _ _
    | intro _ _
    | intro _
    | with_reducible apply Runs.done
    | with_reducible apply Runs.unchanged
    | with_reducible apply Runs.ite
    | with_reducible apply Evolves.ite
    | with_reducible apply State.nlcEngineSwap_evolves
    | split
    | dsimp only

theorem execNlcFadeComplete_runs (n) (s : State) :
    Runs [.tamid, .pantry, .lineRegs, .tamidRegs, .pantryRegs] s (execNlcFadeComplete n s) := by
  unfold execNlcFadeComplete
  repeat' first
    | with_reducible exact Evolves.refl _ _
    | decide
    | exact nlcRegs_inBlock
    | exact pdRegs_inBlock
    | with_reducible apply Runs.done
    | with_reducible apply Runs.unchanged
    | with_reducible apply Runs.ite
    | with_reducible apply Evolves.ite
    | with_reducible apply State.fadeFinish_evolves

theorem execNlcFadeResume_runs (n) (s : State) :
    Runs [.line, .lineRegs] s (execNlcFadeResume n s) := by
  unfold execNlcFadeResume
  repeat' first
    | with_reducible exact Evolves.refl _ _
    | decide
    | exact nlcRegs_inBlock
    | exact pdRegs_inBlock
    | with_reducible apply Runs.done
    | with_reducible apply Runs.unchanged
    | with_reducible apply Runs.ite
    | with_reducible apply Evolves.ite
    | with_reducible apply State.fadeResume_evolves

theorem execNlcBankWrite_runs (n) (bank) (idx) (value) (swap) (s : State) :
    Runs [.lineRegs] s (execNlcBankWrite n bank idx value swap s) := by
  unfold execNlcBankWrite
  repeat' first
    | with_reducible exact Evolves.refl _ _
    | decide
    | exact nlcRegs_inBlock
    | exact pdRegs_inBlock
    | with_reducible apply Runs.done
    | with_reducible apply State.bankWrite_evolves

theorem execNlcEnWrite_runs (n) (en) (s : State) :
    Runs [.tamid, .pantry, .lineRegs, .tamidRegs, .pantryRegs] s (execNlcEnWrite n en s) := by
  unfold execNlcEnWrite
  repeat' first
    | with_reducible exact Evolves.refl _ _
    | decide
    | with_reducible apply Runs.done
    | with_reducible apply State.nlcEnable_evolves

theorem execLineReacq_runs (n) (s : State) :
    Runs [.line, .host, .lanes, .fuse, .link, .counters, .attic, .tamid, .systemRegs, .memProtRegs, .lineRegs,
    .hostRegs, .tamidRegs] s (execLineReacq n s) := by
  unfold execLineReacq
  repeat' first
    | with_reducible exact Evolves.refl _ _
    | decide
    | with_reducible apply Runs.done
    | with_reducible apply State.lineReacq_evolves

theorem execLineRxPrecodeWrite_runs (n) (on) (s : State) :
    Runs [.line, .host, .lanes, .fuse, .link, .counters, .attic, .tamid, .systemRegs, .memProtRegs, .lineRegs,
    .hostRegs, .tamidRegs] s (execLineRxPrecodeWrite n on s) := by
  unfold execLineRxPrecodeWrite
  repeat' first
    | with_reducible exact Evolves.refl _ _
    | decide
    | with_reducible apply Runs.done
    | with_reducible apply State.lineRxPrecode_evolves

theorem execLineAcqStepDone_runs (n) (r) (s : State) :
    Runs [.line, .host, .lanes, .fuse, .link, .counters, .attic, .tamid, .pantry, .systemRegs, .lineRegs, .hostRegs,
    .tamidRegs] s (execLineAcqStepDone n r s) := by
  unfold execLineAcqStepDone
  repeat' first
    | with_reducible exact Evolves.refl _ _
    | decide
    | with_reducible apply Runs.done
    | with_reducible apply Runs.unchanged
    | with_reducible apply Runs.ite
    | with_reducible apply Evolves.ite
    | with_reducible apply State.acqStepDone_evolves

theorem execLineAcqStepTimeout_runs (n) (s : State) :
    Runs [.line, .tamid, .lineRegs, .tamidRegs] s (execLineAcqStepTimeout n s) := by
  unfold execLineAcqStepTimeout
  repeat' first
    | with_reducible exact Evolves.refl _ _
    | decide
    | with_reducible apply Runs.done
    | with_reducible apply Runs.unchanged
    | with_reducible apply Runs.ite
    | with_reducible apply Evolves.ite
    | with_reducible apply State.setAcqState_evolves

theorem execAcqFail_runs (n) (s : State) :
    Runs [.fuse, .link, .counters, .attic, .systemRegs] s (execAcqFail n s) := by
  unfold execAcqFail
  repeat' first
    | with_reducible exact Evolves.refl _ _
    | decide
    | with_reducible apply Runs.done
    | with_reducible apply Runs.unchanged
    | with_reducible apply Runs.ite
    | with_reducible apply Evolves.ite
    | with_reducible apply State.raise_evolves

theorem execLineSignalPresent_runs (n) (s : State) :
    Runs [.line, .host, .lanes, .fuse, .link, .counters, .attic, .tamid, .systemRegs, .memProtRegs, .lineRegs,
    .hostRegs, .tamidRegs] s (execLineSignalPresent n s) := by
  unfold execLineSignalPresent
  repeat' first
    | with_reducible exact Evolves.refl _ _
    | decide
    | with_reducible apply Runs.done
    | with_reducible apply Runs.unchanged
    | with_reducible apply Runs.ite
    | with_reducible apply Evolves.ite
    | with_reducible apply State.acqStart_evolves
    | with_reducible apply State.losEnd_evolves
    | with_reducible apply State.signalCount_evolves

theorem execLineLos_runs (n) (s : State) :
    Runs [.line, .host, .lanes, .fuse, .link, .counters, .attic, .systemRegs, .lineRegs, .hostRegs] s (execLineLos n s) := by
  unfold execLineLos
  repeat' first
    | with_reducible exact Evolves.refl _ _
    | decide
    | exact Nat.le_of_ble_eq_true rfl
    | exact Field.ix_lt _ _
    | with_reducible apply regPart_host
    | with_reducible apply regPart_system
    | with_reducible apply regPart_line
    | with_reducible apply Runs.done
    | with_reducible apply Runs.unchanged
    | with_reducible apply Runs.ite
    | with_reducible apply Evolves.ite
    | with_reducible apply State.raise_evolves
    | with_reducible apply State.setFlag_evolves
    | with_reducible apply State.modRx_evolves
    | with_reducible apply State.loseLock_evolves

theorem execLineLosEnd_runs (n) (within100ms) (s : State) :
    Runs [.line, .host, .lanes, .fuse, .link, .counters, .attic, .tamid, .systemRegs, .memProtRegs, .lineRegs,
    .hostRegs, .tamidRegs] s (execLineLosEnd n within100ms s) := by
  unfold execLineLosEnd
  repeat' first
    | with_reducible exact Evolves.refl _ _
    | with_reducible assumption
    | decide
    | intro _ _ _
    | intro _ _
    | intro _
    | with_reducible apply Runs.done
    | with_reducible apply Runs.unchanged
    | with_reducible apply Runs.ite
    | with_reducible apply Evolves.ite
    | with_reducible apply State.losEnd_evolves
    | with_reducible apply State.fastRelock_evolves
    | with_reducible apply State.acqStart_evolves
    | split
    | dsimp only

theorem execLineFreqLimit_runs (n) (s : State) :
    Runs [.line, .host, .lanes, .fuse, .link, .counters, .attic, .tamid, .systemRegs, .lineRegs, .hostRegs,
    .tamidRegs] s (execLineFreqLimit n s) := by
  unfold execLineFreqLimit
  repeat' first
    | with_reducible exact Evolves.refl _ _
    | with_reducible assumption
    | decide
    | intro _ _ _
    | intro _ _
    | intro _
    | with_reducible apply Runs.done
    | with_reducible apply Runs.unchanged
    | with_reducible apply Runs.ite
    | with_reducible apply Evolves.ite
    | with_reducible apply State.lol_evolves
    | split
    | dsimp only

theorem execLineRelockTimeout_runs (n) (s : State) :
    Runs [.line, .host, .lanes, .fuse, .link, .counters, .attic, .tamid, .systemRegs, .memProtRegs, .lineRegs,
    .hostRegs, .tamidRegs] s (execLineRelockTimeout n s) := by
  unfold execLineRelockTimeout
  repeat' first
    | with_reducible exact Evolves.refl _ _
    | decide
    | with_reducible apply Runs.done
    | with_reducible apply Runs.unchanged
    | with_reducible apply Runs.ite
    | with_reducible apply Evolves.ite
    | with_reducible apply State.acqStart_evolves

theorem execSnrPublish_runs (n) (symbols) (err) (s : State) :
    Runs [.line, .fuse, .link, .counters, .attic, .systemRegs, .lineRegs] s (execSnrPublish n symbols err s) := by
  unfold execSnrPublish
  repeat' first
    | with_reducible exact Evolves.refl _ _
    | with_reducible assumption
    | decide
    | exact Nat.le_of_ble_eq_true rfl
    | exact Field.ix_lt _ _
    | exact Field.lt _
    | with_reducible apply regPart_line
    | intro _ _ _
    | intro _ _
    | intro _
    | with_reducible apply Runs.done
    | with_reducible apply Runs.unchanged
    | with_reducible apply Runs.ite
    | with_reducible apply Evolves.ite
    | with_reducible apply State.raise_evolves
    | with_reducible apply State.modRx_evolves
    | with_reducible apply State.setFlag_evolves
    | with_reducible apply State.setFld_evolves
    | split
    | dsimp only

theorem execHkRoundStart_runs (s : State) :
    Runs [.fuse, .link, .counters, .attic, .hk, .thermal, .systemRegs, .hkRegs, .thermRegs] s (execHkRoundStart s) := by
  unfold execHkRoundStart
  repeat' first
    | with_reducible exact Evolves.refl _ _
    | with_reducible assumption
    | decide
    | exact Nat.le_of_ble_eq_true rfl
    | exact Field.ix_lt _ _
    | exact Field.lt _
    | with_reducible apply regPart_hk
    | exact fun k => k
    | exact fun _ => Nat.zero_le _
    | intro _ _ _
    | intro _ _
    | intro _
    | with_reducible apply Runs.done
    | with_reducible apply Runs.unchanged
    | with_reducible apply Runs.ite
    | with_reducible apply Evolves.ite
    | with_reducible apply State.roundTimed_evolves
    | with_reducible apply State.calApply_evolves
    | with_reducible apply State.raise_evolves
    | with_reducible apply State.setFlag_evolves
    | split
    | dsimp only
    | with_reducible apply Evolves.hk

theorem execHkConversion_runs (volts) (other) (vref) (s : State) :
    Runs [.hk] s (execHkConversion volts other vref s) := by
  unfold execHkConversion
  repeat' first
    | with_reducible exact Evolves.refl _ _
    | with_reducible assumption
    | decide
    | exact fun k => k
    | exact fun _ => Nat.zero_le _
    | intro _ _ _
    | intro _ _
    | intro _
    | with_reducible apply Runs.done
    | with_reducible apply Runs.unchanged
    | with_reducible apply Runs.ite
    | with_reducible apply Evolves.ite
    | with_reducible apply State.setPrevOver_evolves
    | split
    | dsimp only
    | with_reducible apply Evolves.hk

theorem execHkRoundEnd_runs (s : State) :
    Runs [.fuse, .link, .counters, .attic, .boot, .hk, .limits, .systemRegs, .hkRegs, .thermRegs] s (execHkRoundEnd s)
    := by
  unfold execHkRoundEnd
  repeat' first
    | with_reducible exact Evolves.refl _ _
    | with_reducible assumption
    | decide
    | exact Nat.le_of_ble_eq_true rfl
    | exact Field.ix_lt _ _
    | exact Field.lt _
    | with_reducible apply regPart_hk
    | exact fun k => k
    | exact fun _ => Nat.zero_le _
    | intro _ _ _
    | intro _ _
    | intro _
    | with_reducible apply Runs.done
    | with_reducible apply Runs.unchanged
    | with_reducible apply Runs.ite
    | with_reducible apply Evolves.ite
    | with_reducible apply State.vidJudge_evolves
    | with_reducible apply State.hkAverage_evolves
    | with_reducible apply State.siteReadings_evolves
    | with_reducible apply State.hkResidual_evolves
    | with_reducible apply State.raiseLimited_evolves
    | with_reducible apply Evolves.each
    | with_reducible apply State.setFlag_evolves
    | with_reducible apply State.setReg_evolves
    | split
    | dsimp only
    | with_reducible apply Evolves.hk

end Sys2Proof.Machine
end

