-- ==== Sys2Proof/Laws/CommandsB.lean ====
section
/-! SUPPORT. What each command can change before its reactions (`Runs`), in the order of the meanings' files. -/

namespace Sys2Proof.Machine

theorem execHkTriggerTimerExpiry_runs (k) (s : State) :
    Runs [.fuse, .link, .counters, .attic, .hk, .systemRegs, .hkRegs] s (execHkTriggerTimerExpiry k s) := by
  unfold execHkTriggerTimerExpiry
  repeat' first
    | with_reducible exact Evolves.refl _ _
    | with_reducible assumption
    | decide
    | exact fun k => k
    | exact fun _ => Nat.zero_le _
    | intro _ _ _
    | intro _ _
    | intro _
    | with_reducible apply Runs.done
    | with_reducible apply Runs.unchanged
    | with_reducible apply Runs.ite
    | with_reducible apply Evolves.ite
    | with_reducible apply State.hkRequest_evolves
    | split
    | dsimp only
    | with_reducible apply Evolves.hk

theorem execHkTrigger_runs (k) (busy) (s : State) :
    Runs [.fuse, .link, .counters, .attic, .hk, .systemRegs, .hkRegs] s (execHkTrigger k busy s) := by
  unfold execHkTrigger
  repeat' first
    | with_reducible exact Evolves.refl _ _
    | with_reducible assumption
    | decide
    | exact fun k => k
    | exact fun _ => Nat.zero_le _
    | intro _ _ _
    | intro _ _
    | intro _
    | with_reducible apply Runs.done
    | with_reducible apply Runs.unchanged
    | with_reducible apply Runs.ite
    | with_reducible apply Evolves.ite
    | with_reducible apply State.hkRequest_evolves
    | split
    | dsimp only
    | with_reducible apply Evolves.hk

theorem execHkTriggerConversionDone_runs (k) (volts) (other) (vref) (s : State) :
    Runs [.hk, .hkRegs] s (execHkTriggerConversionDone k volts other vref s) := by
  unfold execHkTriggerConversionDone
  repeat' first
    | with_reducible exact Evolves.refl _ _
    | with_reducible assumption
    | decide
    | exact Nat.le_of_ble_eq_true rfl
    | exact Field.ix_lt _ _
    | exact Field.lt _
    | with_reducible apply regPart_hk
    | exact fun k => k
    | exact fun _ => Nat.zero_le _
    | intro _ _ _
    | intro _ _
    | intro _
    | with_reducible apply Runs.done
    | with_reducible apply Runs.unchanged
    | with_reducible apply Runs.ite
    | with_reducible apply Evolves.ite
    | refine State.takeRequest_evolves ?_ ?_ (by assumption)
    | with_reducible apply State.setPrevOver_evolves
    | with_reducible apply State.setFld_evolves
    | with_reducible apply State.setReg_evolves
    | split
    | dsimp only
    | with_reducible apply Evolves.hk

theorem execCorePllLock_runs (s : State) :
    Runs [.clock, .clockRegs] s (execCorePllLock s) := by
  unfold execCorePllLock
  repeat' first
    | with_reducible exact Evolves.refl _ _
    | decide
    | exact Nat.le_of_ble_eq_true rfl
    | exact Field.ix_lt _ _
    | with_reducible apply regPart_clock
    | with_reducible apply Runs.done
    | with_reducible apply Runs.unchanged
    | with_reducible apply Runs.ite
    | with_reducible apply Evolves.ite
    | with_reducible apply State.setFlag_evolves
    | with_reducible apply State.refreshCalSrc_evolves
    | with_reducible apply Evolves.clock

theorem execSynthLock_runs (k) (s : State) :
    Runs [.line, .host, .lanes, .fuse, .link, .counters, .attic, .clock, .tamid, .systemRegs, .clockRegs, .memProtRegs,
        .lineRegs, .hostRegs, .tamidRegs] s (execSynthLock k s) := by
  unfold execSynthLock
  repeat' first
    | with_reducible exact Evolves.refl _ _
    | decide
    | with_reducible apply Runs.done
    | with_reducible apply Runs.unchanged
    | with_reducible apply Runs.ite
    | with_reducible apply Evolves.ite
    | with_reducible apply State.synStart_evolves
    | with_reducible apply State.quiet_evolves

theorem execRefLoss_runs (freq) (s : State) :
    Runs [.fuse, .link, .counters, .attic, .clock, .systemRegs, .clockRegs] s (execRefLoss freq s) := by
  unfold execRefLoss
  repeat' first
    | with_reducible exact Evolves.refl _ _
    | with_reducible assumption
    | decide
    | exact Nat.le_of_ble_eq_true rfl
    | exact Field.ix_lt _ _
    | exact Field.lt _
    | with_reducible apply regPart_clock
    | intro _ _ _
    | intro _ _
    | intro _
    | with_reducible apply Runs.done
    | with_reducible apply Runs.unchanged
    | with_reducible apply Runs.ite
    | with_reducible apply Evolves.ite
    | with_reducible apply State.refreshCalSrc_evolves
    | with_reducible apply State.raise_evolves
    | with_reducible apply State.setFlag_evolves
    | split
    | dsimp only
    | with_reducible apply Evolves.clock

theorem execHoldoverEnd_runs (s : State) :
    Runs [.line, .host, .lanes, .fuse, .link, .counters, .attic, .clock, .systemRegs, .clockRegs, .lineRegs, .hostRegs]
        s (execHoldoverEnd s) := by
  unfold execHoldoverEnd
  repeat' first
    | with_reducible exact Evolves.refl _ _
    | decide
    | with_reducible apply Runs.done
    | with_reducible apply Runs.unchanged
    | with_reducible apply Runs.ite
    | with_reducible apply Evolves.ite
    | with_reducible apply State.clockLoss_evolves

theorem execRefReturn_runs (locks) (s : State) :
    Runs [.fuse, .link, .counters, .attic, .clock, .systemRegs, .clockRegs] s (execRefReturn locks s) := by
  unfold execRefReturn
  repeat' first
    | with_reducible exact Evolves.refl _ _
    | with_reducible assumption
    | decide
    | exact Nat.le_of_ble_eq_true rfl
    | exact Field.ix_lt _ _
    | exact Field.lt _
    | with_reducible apply regPart_clock
    | intro _ _ _
    | intro _ _
    | intro _
    | with_reducible apply Runs.done
    | with_reducible apply Runs.unchanged
    | with_reducible apply Runs.ite
    | with_reducible apply Evolves.ite
    | with_reducible apply State.coreRelock_evolves
    | with_reducible apply State.refreshCalSrc_evolves
    | with_reducible apply State.clearByPart_evolves
    | with_reducible apply State.raise_evolves
    | with_reducible apply State.setFlag_evolves
    | split
    | dsimp only
    | with_reducible apply Evolves.clock

theorem execCoreUnlock_runs (s : State) :
    Runs [.line, .host, .lanes, .fuse, .link, .counters, .attic, .clock, .systemRegs, .clockRegs, .lineRegs, .hostRegs]
        s (execCoreUnlock s) := by
  unfold execCoreUnlock
  repeat' first
    | with_reducible exact Evolves.refl _ _
    | decide
    | with_reducible apply Runs.done
    | with_reducible apply Runs.unchanged
    | with_reducible apply Runs.ite
    | with_reducible apply Evolves.ite
    | with_reducible apply State.clockLoss_evolves
    | with_reducible apply State.raise_evolves

theorem execCoreRelockRetry_runs (locks) (s : State) :
    Runs [.fuse, .clockRegs] s (execCoreRelockRetry locks s) := by
  unfold execCoreRelockRetry
  repeat' first
    | with_reducible exact Evolves.refl _ _
    | decide
    | with_reducible apply Runs.done
    | with_reducible apply Runs.unchanged
    | with_reducible apply Runs.ite
    | with_reducible apply Evolves.ite
    | with_reducible apply State.coreRelock_evolves

theorem execSynthUnlock_runs (k) (s : State) :
    Runs [.line, .host, .lanes, .fuse, .link, .counters, .attic, .clock, .systemRegs, .clockRegs, .lineRegs, .hostRegs]
        s (execSynthUnlock k s) := by
  unfold execSynthUnlock
  repeat' first
    | with_reducible exact Evolves.refl _ _
    | decide
    | with_reducible apply Runs.done
    | with_reducible apply Runs.unchanged
    | with_reducible apply Runs.ite
    | with_reducible apply Evolves.ite
    | with_reducible apply State.synStop_evolves
    | with_reducible apply State.raise_evolves

theorem execSyncInEdge_runs (fine) (explicitToo) (s : State) :
    Runs [.fuse, .link, .counters, .attic, .clock, .hk, .chain, .limits, .systemRegs, .clockRegs, .chainRegs] s
    (execSyncInEdge fine explicitToo s) := by
  unfold execSyncInEdge
  repeat' first
    | with_reducible exact Evolves.refl _ _
    | with_reducible assumption
    | decide
    | intro _ _ _
    | intro _ _
    | intro _
    | with_reducible apply Runs.done
    | with_reducible apply Runs.unchanged
    | with_reducible apply Runs.ite
    | with_reducible apply Evolves.ite
    | with_reducible apply State.syncIgnore_evolves
    | with_reducible apply State.syncRequest_evolves
    | with_reducible apply State.syncEvent_evolves
    | split
    | dsimp only

theorem execSyncNow_runs (s : State) :
    Runs [.clock, .hk, .chain, .clockRegs, .chainRegs] s (execSyncNow s) := by
  unfold execSyncNow
  repeat' first
    | with_reducible exact Evolves.refl _ _
    | decide
    | with_reducible apply Runs.done
    | with_reducible apply State.syncRequest_evolves

theorem execAoDiscipline_runs (trim) (temp) (s : State) :
    Runs [.clock, .clockRegs] s (execAoDiscipline trim temp s) := by
  unfold execAoDiscipline
  repeat' first
    | with_reducible exact Evolves.refl _ _
    | decide
    | exact Nat.le_of_ble_eq_true rfl
    | exact Field.ix_lt _ _
    | with_reducible apply regPart_clock
    | with_reducible apply Runs.done
    | with_reducible apply Runs.unchanged
    | with_reducible apply Runs.ite
    | with_reducible apply Evolves.ite
    | with_reducible apply State.setFld_evolves
    | with_reducible apply Evolves.clock

theorem execDisciplineOld_runs (s : State) :
    Runs [.fuse, .link, .counters, .attic, .clock, .systemRegs, .clockRegs] s (execDisciplineOld s) := by
  unfold execDisciplineOld
  repeat' first
    | with_reducible exact Evolves.refl _ _
    | decide
    | exact Nat.le_of_ble_eq_true rfl
    | exact Field.ix_lt _ _
    | with_reducible apply regPart_system
    | with_reducible apply regPart_clock
    | with_reducible apply Runs.done
    | with_reducible apply Runs.unchanged
    | with_reducible apply Runs.ite
    | with_reducible apply Evolves.ite
    | with_reducible apply State.setFld_evolves
    | with_reducible apply State.raise_evolves
    | with_reducible apply Evolves.clock

theorem execXtalFail_runs (s : State) :
    Runs [.fuse, .link, .counters, .attic, .systemRegs, .clockRegs] s (execXtalFail s) := by
  unfold execXtalFail
  repeat' first
    | with_reducible exact Evolves.refl _ _
    | decide
    | exact Nat.le_of_ble_eq_true rfl
    | exact Field.ix_lt _ _
    | with_reducible apply regPart_system
    | with_reducible apply regPart_clock
    | with_reducible apply Runs.done
    | with_reducible apply Runs.unchanged
    | with_reducible apply Runs.ite
    | with_reducible apply Evolves.ite
    | with_reducible apply State.raise_evolves
    | with_reducible apply State.refreshCalSrc_evolves
    | with_reducible apply State.setFlag_evolves

theorem execDtLoRead_runs (s : State) :
    Runs [.link, .clockRegs] s (execDtLoRead s) := by
  unfold execDtLoRead
  repeat' first
    | with_reducible exact Evolves.refl _ _
    | with_reducible assumption
    | decide
    | exact fun k => k
    | exact fun _ => Nat.zero_le _
    | with_reducible apply Runs.done
    | with_reducible apply State.readDtLo_snd
    | refine State.readDtLo_evolves ?_ ?_ (by assumption)
    | split
    | dsimp only
    | with_reducible apply Evolves.link

theorem execCalSecLoRead_runs (s : State) :
    Runs [.link, .clockRegs] s (execCalSecLoRead s) := by
  unfold execCalSecLoRead
  repeat' first
    | with_reducible exact Evolves.refl _ _
    | with_reducible assumption
    | decide
    | exact fun k => k
    | exact fun _ => Nat.zero_le _
    | with_reducible apply Runs.done
    | with_reducible apply State.readCalSecLo_snd
    | refine State.readCalSecLo_evolves ?_ ?_ (by assumption)
    | split
    | dsimp only
    | with_reducible apply Evolves.link

theorem execCntSnap_runs (alsoClr) (s : State) :
    Runs [.counters, .counterRegs] s (execCntSnap alsoClr s) := by
  unfold execCntSnap
  repeat' first
    | with_reducible exact Evolves.refl _ _
    | decide
    | with_reducible apply Runs.done
    | with_reducible apply Runs.ite
    | with_reducible apply Evolves.ite
    | with_reducible apply State.counterSnap_evolves
    | with_reducible apply State.counterClr_evolves

theorem execCntClr_runs (s : State) :
    Runs [.counters] s (execCntClr s) := by
  unfold execCntClr
  repeat' first
    | with_reducible exact Evolves.refl _ _
    | decide
    | with_reducible apply Runs.done
    | with_reducible apply State.counterClr_evolves

theorem execCntLiveLoRead_runs (k) (port) (s : State) :
    Runs [.link, .counters] s (execCntLiveLoRead k port s) := by
  unfold execCntLiveLoRead
  repeat' first
    | with_reducible exact Evolves.refl _ _
    | with_reducible assumption
    | decide
    | exact fun k => k
    | exact fun _ => Nat.zero_le _
    | with_reducible apply Runs.done
    | with_reducible apply State.readCntLive_snd
    | refine State.readCntLive_evolves ?_ ?_ (by assumption)
    | split
    | dsimp only
    | with_reducible apply Evolves.link

theorem execBwWindowEnd_runs (s : State) :
    Runs [.counters, .counterRegs] s (execBwWindowEnd s) := by
  unfold execBwWindowEnd
  repeat' first
    | with_reducible exact Evolves.refl _ _
    | with_reducible assumption
    | decide
    | exact Nat.le_of_ble_eq_true rfl
    | exact Field.ix_lt _ _
    | exact Field.lt _
    | with_reducible apply regPart_two
    | with_reducible apply regPart_counter
    | intro _ _ _
    | intro _ _
    | intro _
    | with_reducible apply Runs.done
    | with_reducible apply Runs.unchanged
    | with_reducible apply Runs.ite
    | with_reducible apply Evolves.ite
    | with_reducible apply Evolves.each
    | with_reducible apply State.setPair_evolves
    | with_reducible apply State.bumpMod_evolves
    | with_reducible apply State.setFlag_evolves
    | with_reducible apply State.setFld_evolves
    | split
    | dsimp only
    | with_reducible apply Evolves.counters

theorem execBwWindowWrite_runs (window) (s : State) :
    Runs [.counters, .counterRegs] s (execBwWindowWrite window s) := by
  unfold execBwWindowWrite
  repeat' first
    | with_reducible exact Evolves.refl _ _
    | decide
    | with_reducible apply Runs.done
    | with_reducible apply State.bwWrite_evolves

theorem execCounterDumpLatch_runs (s : State) :
    Runs [.fuse, .link, .counters, .attic, .limits, .systemRegs, .counterRegs] s (execCounterDumpLatch s) := by
  unfold execCounterDumpLatch
  repeat' first
    | with_reducible exact Evolves.refl _ _
    | with_reducible assumption
    | decide
    | intro _ _ _
    | intro _ _
    | intro _
    | with_reducible apply Runs.done
    | with_reducible apply Runs.unchanged
    | with_reducible apply Runs.ite
    | with_reducible apply Evolves.ite
    | with_reducible apply State.dumpTimed_evolves
    | with_reducible apply State.dumpDue_evolves
    | split
    | dsimp only

theorem execDumpWriteDone_runs (s : State) :
    Runs [.mem, .fuse, .link, .counters, .attic, .memory, .systemRegs, .memProtRegs, .counterRegs] s
    (execDumpWriteDone s) := by
  unfold execDumpWriteDone
  repeat' first
    | with_reducible exact Evolves.refl _ _
    | with_reducible assumption
    | decide
    | exact Nat.le_of_ble_eq_true rfl
    | exact Field.ix_lt _ _
    | exact Field.lt _
    | with_reducible apply regPart_counter
    | intro _ _ _
    | intro _ _
    | intro _
    | with_reducible apply Runs.done
    | with_reducible apply Runs.unchanged
    | with_reducible apply Runs.ite
    | with_reducible apply Evolves.ite
    | with_reducible apply State.hallWrite_evolves
    | with_reducible apply State.hallAccess_evolves
    | with_reducible apply State.setFld_evolves
    | split
    | dsimp only
    | with_reducible apply Evolves.counters

theorem execFaultRaise_runs (raises) (s : State) :
    Runs [.fuse, .link, .counters, .attic, .systemRegs] s (execFaultRaise raises s) := by
  unfold execFaultRaise
  repeat' first
    | with_reducible exact Evolves.refl _ _
    | with_reducible assumption
    | decide
    | intro _ _ _
    | intro _ _
    | intro _
    | with_reducible apply Runs.done
    | with_reducible apply State.raise_evolves
    | with_reducible apply Evolves.each

theorem execPathBroken_runs (src) (s : State) :
    Runs [.fuse, .link, .counters, .attic, .systemRegs] s (execPathBroken src s) := by
  unfold execPathBroken
  repeat' first
    | with_reducible exact Evolves.refl _ _
    | decide
    | exact fun k => k
    | exact fun _ => Nat.zero_le _
    | with_reducible apply Runs.done
    | with_reducible apply Runs.unchanged
    | with_reducible apply Runs.ite
    | with_reducible apply Evolves.ite
    | with_reducible apply State.raise_evolves
    | with_reducible apply Evolves.fuse

theorem execPathRestored_runs (src) (fault) (detail) (s : State) :
    Runs [.fuse, .link, .counters, .attic, .systemRegs] s (execPathRestored src fault detail s) := by
  unfold execPathRestored
  repeat' first
    | with_reducible exact Evolves.refl _ _
    | decide
    | with_reducible apply Runs.done
    | with_reducible apply Runs.unchanged
    | with_reducible apply Runs.ite
    | with_reducible apply Evolves.ite
    | with_reducible apply State.pathRestored_evolves

theorem execLevelSourceQuiet_runs (src) (s : State) :
    Runs [.fuse] s (execLevelSourceQuiet src s) := by
  unfold execLevelSourceQuiet
  repeat' first
    | with_reducible exact Evolves.refl _ _
    | decide
    | with_reducible apply Runs.done
    | with_reducible apply Runs.unchanged
    | with_reducible apply Runs.ite
    | with_reducible apply Evolves.ite
    | with_reducible apply State.quiet_evolves

theorem execFbUpset_runs (word) (resolvable) (s : State) :
    Runs [.fuse, .link, .counters, .attic, .systemRegs] s (execFbUpset word resolvable s) := by
  unfold execFbUpset
  repeat' first
    | with_reducible exact Evolves.refl _ _
    | decide
    | exact fun k => k
    | exact fun _ => Nat.zero_le _
    | with_reducible apply Runs.done
    | with_reducible apply Runs.ite
    | with_reducible apply Evolves.ite
    | with_reducible apply State.raise_evolves
    | with_reducible apply Evolves.fuse

theorem execFfr0Read_runs (s : State) :
    Runs [.fuse, .link] s (execFfr0Read s) := by
  unfold execFfr0Read
  repeat' first
    | with_reducible exact Evolves.refl _ _
    | with_reducible assumption
    | decide
    | exact fun k => k
    | exact fun _ => Nat.zero_le _
    | with_reducible apply Runs.done
    | with_reducible apply State.readFfr0_snd
    | refine State.readFfr0_evolves ?_ ?_ (by assumption)
    | split
    | dsimp only
    | with_reducible apply Evolves.link

theorem execAfeLevelUpdate_runs (n) (level) (s : State) :
    Runs [.lineRegs] s (execAfeLevelUpdate n level s) := by
  unfold execAfeLevelUpdate
  repeat' first
    | with_reducible exact Evolves.refl _ _
    | with_reducible assumption
    | decide
    | exact Nat.le_of_ble_eq_true rfl
    | exact Field.ix_lt _ _
    | exact Field.lt _
    | with_reducible apply regPart_line
    | intro _ _ _
    | intro _ _
    | intro _
    | with_reducible apply Runs.done
    | with_reducible apply Runs.unchanged
    | with_reducible apply Runs.ite
    | with_reducible apply Evolves.ite
    | with_reducible apply State.setFld_evolves
    | split
    | dsimp only

theorem execVgaWindow_runs (n) (high) (total) (meanSquare) (s : State) :
    Runs [.line, .lineRegs] s (execVgaWindow n high total meanSquare s) := by
  unfold execVgaWindow
  repeat' first
    | with_reducible exact Evolves.refl _ _
    | with_reducible assumption
    | decide
    | intro _ _ _
    | intro _ _
    | intro _
    | with_reducible apply Runs.done
    | with_reducible apply Runs.unchanged
    | with_reducible apply Runs.ite
    | with_reducible apply Evolves.ite
    | with_reducible apply State.vgaStep_evolves
    | split
    | dsimp only

theorem execAfeCtrlWrite_runs (n) (value) (s : State) :
    Runs [.line, .host, .lanes, .fuse, .link, .counters, .attic, .tamid, .systemRegs, .memProtRegs, .lineRegs,
    .hostRegs, .tamidRegs] s (execAfeCtrlWrite n value s) := by
  unfold execAfeCtrlWrite
  repeat' first
    | with_reducible exact Evolves.refl _ _
    | decide
    | with_reducible apply Runs.done
    | with_reducible apply State.afeCtrlWrite_evolves

theorem execAdcBlockEnd_runs (n) (stats) (s : State) :
    Runs [.line, .lineRegs] s (execAdcBlockEnd n stats s) := by
  unfold execAdcBlockEnd
  repeat' first
    | with_reducible exact Evolves.refl _ _
    | with_reducible assumption
    | decide
    | intro _ _ _
    | intro _ _
    | intro _
    | with_reducible apply Runs.done
    | with_reducible apply Runs.unchanged
    | with_reducible apply Runs.ite
    | with_reducible apply Evolves.ite
    | with_reducible apply State.publishBlock_evolves
    | with_reducible apply State.modAdc_evolves
    | split
    | dsimp only

theorem execOvrWindow_runs (n) (high) (total) (s : State) :
    Runs [.fuse, .link, .counters, .attic, .limits, .systemRegs, .lineRegs] s (execOvrWindow n high total s) := by
  unfold execOvrWindow
  repeat' first
    | with_reducible exact Evolves.refl _ _
    | with_reducible assumption
    | decide
    | exact Nat.le_of_ble_eq_true rfl
    | exact Field.ix_lt _ _
    | exact Field.lt _
    | with_reducible apply regPart_line
    | intro _ _ _
    | intro _ _
    | intro _
    | with_reducible apply Runs.done
    | with_reducible apply Runs.unchanged
    | with_reducible apply Runs.ite
    | with_reducible apply Evolves.ite
    | with_reducible apply State.raiseLimited_evolves
    | with_reducible apply State.countEvent_evolves
    | with_reducible apply State.addSat_evolves
    | with_reducible apply State.setFlag_evolves
    | split
    | dsimp only

theorem execAdcConverged_runs (n) (s : State) :
    Runs [.lineRegs] s (execAdcConverged n s) := by
  unfold execAdcConverged
  repeat' first
    | with_reducible exact Evolves.refl _ _
    | with_reducible assumption
    | decide
    | exact Nat.le_of_ble_eq_true rfl
    | exact Field.ix_lt _ _
    | exact Field.lt _
    | with_reducible apply regPart_line
    | intro _ _ _
    | intro _ _
    | intro _
    | with_reducible apply Runs.done
    | with_reducible apply Runs.unchanged
    | with_reducible apply Runs.ite
    | with_reducible apply Evolves.ite
    | with_reducible apply State.setFlag_evolves
    | split
    | dsimp only

theorem execRotationStep_runs (n) (s : State) :
    Runs [.line, .lineRegs] s (execRotationStep n s) := by
  unfold execRotationStep
  repeat' first
    | with_reducible exact Evolves.refl _ _
    | decide
    | with_reducible apply Runs.done
    | with_reducible apply Runs.unchanged
    | with_reducible apply Runs.ite
    | with_reducible apply Evolves.ite
    | with_reducible apply State.startRotation_evolves

theorem execSpareCalDone_runs (n) (ramps) (s : State) :
    Runs [.line, .fuse, .link, .counters, .attic, .systemRegs, .lineRegs] s (execSpareCalDone n ramps s) := by
  unfold execSpareCalDone
  repeat' first
    | with_reducible exact Evolves.refl _ _
    | with_reducible assumption
    | decide
    | intro _ _ _
    | intro _ _
    | intro _
    | with_reducible apply Runs.done
    | with_reducible apply Runs.unchanged
    | with_reducible apply Runs.ite
    | with_reducible apply Evolves.ite
    | with_reducible apply State.spareCalDone_evolves
    | with_reducible apply State.startRampsDone_evolves
    | split
    | dsimp only

theorem execSliceAbruptFault_runs (n) (signs) (s : State) :
    Runs [.line, .fuse, .power, .link, .counters, .attic, .test, .systemRegs, .powerRegs, .testRegs, .lineRegs] s
    (execSliceAbruptFault n signs s) := by
  unfold execSliceAbruptFault
  repeat' first
    | with_reducible exact Evolves.refl _ _
    | with_reducible assumption
    | decide
    | intro _ _ _
    | intro _ _
    | intro _
    | with_reducible apply Runs.done
    | with_reducible apply Runs.unchanged
    | with_reducible apply Runs.ite
    | with_reducible apply Evolves.ite
    | with_reducible apply State.abruptSlices_evolves
    | split
    | dsimp only

theorem execSliceCheckFlag_runs (n) (slice) (conv) (s : State) :
    Runs [.line, .fuse, .power, .link, .counters, .attic, .test, .systemRegs, .powerRegs, .testRegs, .lineRegs] s
    (execSliceCheckFlag n slice conv s) := by
  unfold execSliceCheckFlag
  repeat' first
    | with_reducible exact Evolves.refl _ _
    | with_reducible assumption
    | decide
    | intro _ _ _
    | intro _ _
    | intro _
    | with_reducible apply Runs.done
    | with_reducible apply Runs.unchanged
    | with_reducible apply Runs.ite
    | with_reducible apply Evolves.ite
    | with_reducible apply State.degradingSlice_evolves
    | with_reducible apply State.abruptSlice_evolves
    | with_reducible apply State.modAdc_evolves
    | split
    | dsimp only

theorem execSliceDegrading_runs (n) (slice) (s : State) :
    Runs [.line, .fuse, .link, .counters, .attic, .systemRegs, .lineRegs] s (execSliceDegrading n slice s) := by
  unfold execSliceDegrading
  repeat' first
    | with_reducible exact Evolves.refl _ _
    | with_reducible assumption
    | decide
    | intro _ _ _
    | intro _ _
    | intro _
    | with_reducible apply Runs.done
    | with_reducible apply Runs.unchanged
    | with_reducible apply Runs.ite
    | with_reducible apply Evolves.ite
    | with_reducible apply State.degradingSlice_evolves
    | split
    | dsimp only

theorem execRotationHandover_runs (n) (blocks) (spur) (abrupt) (s : State) :
    Runs [.line, .fuse, .power, .link, .counters, .attic, .test, .systemRegs, .powerRegs, .testRegs, .lineRegs] s
    (execRotationHandover n blocks spur abrupt s) := by
  unfold execRotationHandover
  repeat' first
    | with_reducible exact Evolves.refl _ _
    | with_reducible assumption
    | decide
    | intro _ _ _
    | intro _ _
    | intro _
    | with_reducible apply Runs.done
    | with_reducible apply Runs.unchanged
    | with_reducible apply Runs.ite
    | with_reducible apply Evolves.ite
    | with_reducible apply State.rotated_evolves
    | with_reducible apply State.abruptSlice_evolves
    | with_reducible apply State.raise_evolves
    | split
    | dsimp only

theorem execRotationAbort_runs (n) (s : State) :
    Runs [.line, .fuse, .link, .counters, .attic, .systemRegs, .lineRegs] s (execRotationAbort n s) := by
  unfold execRotationAbort
  repeat' first
    | with_reducible exact Evolves.refl _ _
    | with_reducible assumption
    | decide
    | exact Nat.le_of_ble_eq_true rfl
    | exact Field.ix_lt _ _
    | exact Field.lt _
    | with_reducible apply regPart_line
    | intro _ _ _
    | intro _ _
    | intro _
    | with_reducible apply Runs.done
    | with_reducible apply Runs.unchanged
    | with_reducible apply Runs.ite
    | with_reducible apply Evolves.ite
    | with_reducible apply State.refreshTrainPos_evolves
    | with_reducible apply State.setSpareState_evolves
    | with_reducible apply State.raise_evolves
    | with_reducible apply State.modAdc_evolves
    | with_reducible apply State.bump_evolves
    | split
    | dsimp only

theorem execSubstRetry_runs (n) (s : State) :
    Runs [.line, .lineRegs] s (execSubstRetry n s) := by
  unfold execSubstRetry
  repeat' first
    | with_reducible exact Evolves.refl _ _
    | decide
    | with_reducible apply Runs.done
    | with_reducible apply State.tryPlanned_evolves

theorem execSubstSpareArrived_runs (n) (s : State) :
    Runs [.line, .lineRegs] s (execSubstSpareArrived n s) := by
  unfold execSubstSpareArrived
  repeat' first
    | with_reducible exact Evolves.refl _ _
    | with_reducible assumption
    | decide
    | intro _ _ _
    | intro _ _
    | intro _
    | with_reducible apply Runs.done
    | with_reducible apply Runs.unchanged
    | with_reducible apply Runs.ite
    | with_reducible apply Evolves.ite
    | with_reducible apply State.setSpareState_evolves
    | with_reducible apply State.modAdc_evolves
    | split
    | dsimp only

theorem execUrgentSubstHandover_runs (n) (blocks) (s : State) :
    Runs [.line, .fuse, .link, .counters, .attic, .systemRegs, .lineRegs] s (execUrgentSubstHandover n blocks s) := by
  unfold execUrgentSubstHandover
  repeat' first
    | with_reducible exact Evolves.refl _ _
    | with_reducible assumption
    | decide
    | intro _ _ _
    | intro _ _
    | intro _
    | with_reducible apply Runs.done
    | with_reducible apply Runs.unchanged
    | with_reducible apply Runs.ite
    | with_reducible apply Evolves.ite
    | with_reducible apply State.substituted_evolves
    | with_reducible apply State.takePosition_evolves
    | with_reducible apply State.modAdc_evolves
    | split
    | dsimp only

theorem execSubstReq_runs (n) (slice) (detector) (s : State) :
    Runs [.line, .lineRegs] s (execSubstReq n slice detector s) := by
  unfold execSubstReq
  repeat' first
    | with_reducible exact Evolves.refl _ _
    | decide
    | exact Nat.le_of_ble_eq_true rfl
    | exact Field.ix_lt _ _
    | with_reducible apply regPart_line
    | with_reducible apply Runs.done
    | with_reducible apply Runs.ite
    | with_reducible apply Evolves.ite
    | with_reducible apply State.setFld_evolves
    | with_reducible apply State.substRequest_evolves

theorem execTxEnable_runs (n) (s : State) :
    Runs [.line, .power, .powerRegs, .memProtRegs, .lineRegs] s (execTxEnable n s) := by
  unfold execTxEnable
  repeat' first
    | with_reducible exact Evolves.refl _ _
    | decide
    | with_reducible apply Runs.done
    | with_reducible apply State.txEnable_evolves

theorem execTxCalDone_runs (n) (s : State) :
    Runs [.line, .lineRegs] s (execTxCalDone n s) := by
  unfold execTxCalDone
  repeat' first
    | with_reducible exact Evolves.refl _ _
    | with_reducible assumption
    | decide
    | intro _ _ _
    | intro _ _
    | intro _
    | with_reducible apply Runs.done
    | with_reducible apply Runs.unchanged
    | with_reducible apply Runs.ite
    | with_reducible apply Evolves.ite
    | with_reducible apply State.setTrims_evolves
    | with_reducible apply State.setTxState_evolves
    | with_reducible apply State.modTx_evolves
    | split
    | dsimp only

theorem execTxCmRampDone_runs (n) (s : State) :
    Runs [.line, .lineRegs] s (execTxCmRampDone n s) := by
  unfold execTxCmRampDone
  repeat' first
    | with_reducible exact Evolves.refl _ _
    | with_reducible assumption
    | decide
    | intro _ _ _
    | intro _ _
    | intro _
    | with_reducible apply Runs.done
    | with_reducible apply Runs.unchanged
    | with_reducible apply Runs.ite
    | with_reducible apply Evolves.ite
    | with_reducible apply State.datapathStart_evolves
    | with_reducible apply State.txRamp_evolves
    | with_reducible apply State.setTxState_evolves
    | with_reducible apply State.modTx_evolves
    | split
    | dsimp only

theorem execTxAmpRampDone_runs (n) (s : State) :
    Runs [.lineRegs] s (execTxAmpRampDone n s) := by
  unfold execTxAmpRampDone
  repeat' first
    | with_reducible exact Evolves.refl _ _
    | with_reducible assumption
    | decide
    | intro _ _ _
    | intro _ _
    | intro _
    | with_reducible apply Runs.done
    | with_reducible apply Runs.unchanged
    | with_reducible apply Runs.ite
    | with_reducible apply Evolves.ite
    | with_reducible apply State.setTxState_evolves
    | split
    | dsimp only

theorem execTxDisable_runs (n) (s : State) :
    Runs [.line, .fuse, .power, .link, .counters, .attic, .systemRegs, .powerRegs, .lineRegs] s (execTxDisable n s) :=
        by
  unfold execTxDisable
  repeat' first
    | with_reducible exact Evolves.refl _ _
    | decide
    | with_reducible apply Runs.done
    | with_reducible apply State.txDisable_evolves

theorem execTxFallDone_runs (n) (s : State) :
    Runs [.line, .power, .powerRegs, .lineRegs] s (execTxFallDone n s) := by
  unfold execTxFallDone
  repeat' first
    | with_reducible exact Evolves.refl _ _
    | decide
    | with_reducible apply Runs.done
    | with_reducible apply Runs.unchanged
    | with_reducible apply Runs.ite
    | with_reducible apply Evolves.ite
    | with_reducible apply State.modTx_evolves
    | with_reducible apply State.setTxState_evolves
    | with_reducible apply State.txVote_evolves

theorem execTxSquelchWrite_runs (n) (on) (s : State) :
    Runs [.line, .fuse, .link, .counters, .attic, .systemRegs, .lineRegs] s (execTxSquelchWrite n on s) := by
  unfold execTxSquelchWrite
  repeat' first
    | with_reducible exact Evolves.refl _ _
    | decide
    | with_reducible apply Runs.done
    | with_reducible apply State.txSquelch_evolves

theorem execTxPrecodeWrite_runs (n) (on) (s : State) :
    Runs [.line, .lineRegs] s (execTxPrecodeWrite n on s) := by
  unfold execTxPrecodeWrite
  repeat' first
    | with_reducible exact Evolves.refl _ _
    | decide
    | with_reducible apply Runs.done
    | with_reducible apply State.txPrecode_evolves

theorem execTxFirApply_runs (n) (s : State) :
    Runs [.line, .lineRegs] s (execTxFirApply n s) := by
  unfold execTxFirApply
  repeat' first
    | with_reducible exact Evolves.refl _ _
    | decide
    | with_reducible apply Runs.done
    | with_reducible apply State.txFirApply_evolves

theorem execTxGlideStep_runs (n) (s : State) :
    Runs [.line, .lineRegs] s (execTxGlideStep n s) := by
  unfold execTxGlideStep
  repeat' first
    | with_reducible exact Evolves.refl _ _
    | with_reducible assumption
    | decide
    | exact Nat.le_of_ble_eq_true rfl
    | exact Field.ix_lt _ _
    | exact Field.lt _
    | with_reducible apply regPart_line
    | intro _ _ _
    | intro _ _
    | intro _
    | with_reducible apply Runs.done
    | with_reducible apply Runs.unchanged
    | with_reducible apply Runs.ite
    | with_reducible apply Evolves.ite
    | with_reducible apply Evolves.each
    | with_reducible apply State.modTx_evolves
    | with_reducible apply State.setFlag_evolves
    | with_reducible apply State.setFld_evolves
    | split
    | dsimp only

theorem execPdSwap_runs (n) (stopping) (s : State) :
    Runs [.line, .fuse, .link, .counters, .attic, .tamid, .pantry, .systemRegs, .lineRegs, .tamidRegs, .pantryRegs] s
        (execPdSwap n stopping s) := by
  unfold execPdSwap
  repeat' first
    | with_reducible exact Evolves.refl _ _
    | decide
    | exact nlcRegs_inBlock
    | exact pdRegs_inBlock
    | with_reducible apply Runs.done
    | with_reducible apply Runs.ite
    | with_reducible apply Evolves.ite
    | with_reducible apply State.pdSwap_evolves
    | with_reducible apply State.fadeStop_evolves

theorem execPdFadeComplete_runs (n) (s : State) :
    Runs [.tamid, .pantry, .lineRegs, .tamidRegs, .pantryRegs] s (execPdFadeComplete n s) := by
  unfold execPdFadeComplete
  repeat' first
    | with_reducible exact Evolves.refl _ _
    | decide
    | exact nlcRegs_inBlock
    | exact pdRegs_inBlock
    | with_reducible apply Runs.done
    | with_reducible apply Runs.unchanged
    | with_reducible apply Runs.ite
    | with_reducible apply Evolves.ite
    | with_reducible apply State.fadeFinish_evolves

theorem execPdFadeResume_runs (n) (s : State) :
    Runs [.line, .lineRegs] s (execPdFadeResume n s) := by
  unfold execPdFadeResume
  repeat' first
    | with_reducible exact Evolves.refl _ _
    | decide
    | exact nlcRegs_inBlock
    | exact pdRegs_inBlock
    | with_reducible apply Runs.done
    | with_reducible apply Runs.unchanged
    | with_reducible apply Runs.ite
    | with_reducible apply Evolves.ite
    | with_reducible apply State.fadeResume_evolves

theorem execPdBankWrite_runs (n) (bank) (idx) (value) (swap) (s : State) :
    Runs [.lineRegs] s (execPdBankWrite n bank idx value swap s) := by
  unfold execPdBankWrite
  repeat' first
    | with_reducible exact Evolves.refl _ _
    | decide
    | exact nlcRegs_inBlock
    | exact pdRegs_inBlock
    | with_reducible apply Runs.done
    | with_reducible apply State.bankWrite_evolves

theorem execPdEnWrite_runs (n) (en) (s : State) :
    Runs [.tamid, .pantry, .lineRegs, .tamidRegs, .pantryRegs] s (execPdEnWrite n en s) := by
  unfold execPdEnWrite
  repeat' first
    | with_reducible exact Evolves.refl _ _
    | decide
    | with_reducible apply Runs.done
    | with_reducible apply State.pdEnable_evolves

theorem execTxSatWindow_runs (n) (count) (s : State) :
    Runs [.fuse, .link, .counters, .attic, .limits, .systemRegs, .lineRegs] s (execTxSatWindow n count s) := by
  unfold execTxSatWindow
  repeat' first
    | with_reducible exact Evolves.refl _ _
    | decide
    | exact Nat.le_of_ble_eq_true rfl
    | exact Field.ix_lt _ _
    | with_reducible apply regPart_line
    | with_reducible apply regPart_system
    | with_reducible apply Runs.done
    | with_reducible apply Runs.unchanged
    | with_reducible apply Runs.ite
    | with_reducible apply Evolves.ite
    | with_reducible apply State.raiseLimited_evolves
    | with_reducible apply State.addSat_evolves

theorem execCellRotationStep_runs (n) (sub) (s : State) :
    Runs [.line, .lineRegs] s (execCellRotationStep n sub s) := by
  unfold execCellRotationStep
  repeat' first
    | with_reducible exact Evolves.refl _ _
    | decide
    | exact Nat.le_of_ble_eq_true rfl
    | exact Field.ix_lt _ _
    | with_reducible apply regPart_line
    | with_reducible apply Runs.done
    | with_reducible apply Runs.unchanged
    | with_reducible apply Runs.ite
    | with_reducible apply Evolves.ite
    | with_reducible apply State.modSub_evolves
    | with_reducible apply State.bumpMod_evolves
    | split

theorem execCellTrimDone_runs (n) (sub) (s : State) :
    Runs [.line, .fuse, .link, .counters, .attic, .systemRegs, .lineRegs] s (execCellTrimDone n sub s) := by
  unfold execCellTrimDone
  repeat' first
    | with_reducible exact Evolves.refl _ _
    | decide
    | with_reducible apply Runs.done
    | with_reducible apply Runs.unchanged
    | with_reducible apply State.modSub_evolves
    | with_reducible apply State.retireDegraded_evolves
    | split

theorem execDacCellAbrupt_runs (n) (sub) (cell) (handover) (s : State) :
    Runs [.line, .fuse, .link, .counters, .attic, .systemRegs, .lineRegs] s (execDacCellAbrupt n sub cell handover s)
        := by
  unfold execDacCellAbrupt
  repeat' first
    | with_reducible exact Evolves.refl _ _
    | decide
    | with_reducible apply Runs.done
    | with_reducible apply Runs.unchanged
    | with_reducible apply Runs.ite
    | with_reducible apply Evolves.ite
    | with_reducible apply State.cellAbrupt_evolves

theorem execDacCellDegrading_runs (n) (sub) (cell) (s : State) :
    Runs [.line, .fuse, .link, .counters, .attic, .systemRegs, .lineRegs] s (execDacCellDegrading n sub cell s) := by
  unfold execDacCellDegrading
  repeat' first
    | with_reducible exact Evolves.refl _ _
    | decide
    | with_reducible apply Runs.done
    | with_reducible apply Runs.unchanged
    | with_reducible apply Runs.ite
    | with_reducible apply Evolves.ite
    | with_reducible apply State.cellDegrading_evolves

theorem execSubdacTrimUpdate_runs (n) (trims) (spur) (s : State) :
    Runs [.free, .line, .fuse, .link, .counters, .attic, .systemRegs, .lineRegs] s (execSubdacTrimUpdate n trims spur
    s) := by
  unfold execSubdacTrimUpdate
  repeat' first
    | with_reducible exact Evolves.refl _ _
    | with_reducible assumption
    | decide
    | exact Nat.le_of_ble_eq_true rfl
    | exact Field.ix_lt _ _
    | exact Field.lt _
    | with_reducible apply regPart_line
    | intro _ _ _
    | intro _ _
    | intro _
    | with_reducible apply Runs.done
    | with_reducible apply Runs.unchanged
    | with_reducible apply Runs.ite
    | with_reducible apply Evolves.ite
    | with_reducible apply State.setTrims_evolves
    | with_reducible apply State.raiseOpen_evolves
    | with_reducible apply Evolves.when
    | with_reducible apply State.modTx_evolves
    | with_reducible apply State.setFld_evolves
    | split
    | dsimp only

theorem execTxPatSelWrite_runs (n) (sel) (s : State) :
    Runs [.lineRegs] s (execTxPatSelWrite n sel s) := by
  unfold execTxPatSelWrite
  repeat' first
    | with_reducible exact Evolves.refl _ _
    | decide
    | with_reducible apply Runs.done
    | with_reducible apply State.txPatSel_evolves

theorem execLineChkSelWrite_runs (n) (sel) (s : State) :
    Runs [.line, .host, .lanes, .fuse, .link, .counters, .attic, .tamid, .systemRegs, .lineRegs, .hostRegs,
    .tamidRegs] s
        (execLineChkSelWrite n sel s) := by
  unfold execLineChkSelWrite
  repeat' first
    | with_reducible exact Evolves.refl _ _
    | decide
    | with_reducible apply Runs.done
    | with_reducible apply State.lineChkSel_evolves

theorem execChkLockAcquired_runs (k) (symbols) (s : State) :
    Runs [.line, .host, .lineRegs, .hostRegs] s (execChkLockAcquired k symbols s) := by
  unfold execChkLockAcquired
  repeat' first
    | with_reducible exact Evolves.refl _ _
    | with_reducible assumption
    | decide
    | intro _ _ _
    | intro _ _
    | intro _
    | with_reducible apply Runs.done
    | with_reducible apply Runs.unchanged
    | with_reducible apply Runs.ite
    | with_reducible apply Evolves.ite
    | with_reducible apply State.hostChkOn_evolves
    | with_reducible apply State.lineChkOn_evolves
    | split
    | dsimp only

theorem execChkLockLoss_runs (k) (compared) (s : State) :
    Runs [.line, .host, .lanes, .fuse, .link, .counters, .attic, .tamid, .systemRegs, .lineRegs, .hostRegs,
    .tamidRegs] s (execChkLockLoss k compared s) := by
  unfold execChkLockLoss
  repeat' first
    | with_reducible exact Evolves.refl _ _
    | with_reducible assumption
    | decide
    | intro _ _ _
    | intro _ _
    | intro _
    | with_reducible apply Runs.done
    | with_reducible apply Runs.unchanged
    | with_reducible apply Runs.ite
    | with_reducible apply Evolves.ite
    | with_reducible apply State.hostPatErrors_evolves
    | with_reducible apply State.linePatErrors_evolves
    | with_reducible apply State.hostChkOff_evolves
    | with_reducible apply State.lineChkOff_evolves
    | with_reducible apply State.hostRelock_evolves
    | with_reducible apply State.hostLoseLock_evolves
    | with_reducible apply State.fastRelock_evolves
    | with_reducible apply State.loseLock_evolves
    | split
    | dsimp only

theorem execHtFirApply_runs (m) (training) (s : State) :
    Runs [.hostRegs] s (execHtFirApply m training s) := by
  unfold execHtFirApply
  repeat' first
    | with_reducible exact Evolves.refl _ _
    | decide
    | with_reducible apply Runs.done
    | with_reducible apply State.htFirApply_evolves

theorem execPresetApply_runs (m) (preset) (firApply) (s : State) :
    Runs [.hostRegs] s (execPresetApply m preset firApply s) := by
  unfold execPresetApply
  repeat' first
    | with_reducible exact Evolves.refl _ _
    | decide
    | with_reducible apply Runs.done
    | with_reducible apply State.htPresetApply_evolves

theorem execHostTxPrecodeWrite_runs (m) (on) (s : State) :
    Runs [.host, .hostRegs] s (execHostTxPrecodeWrite m on s) := by
  unfold execHostTxPrecodeWrite
  repeat' first
    | with_reducible exact Evolves.refl _ _
    | decide
    | with_reducible apply Runs.done
    | with_reducible apply State.htPrecode_evolves

theorem execHostRxPrecodeWrite_runs (m) (on) (s : State) :
    Runs [.line, .host, .fuse, .link, .counters, .attic, .systemRegs, .lineRegs, .hostRegs] s (execHostRxPrecodeWrite m
        on s) := by
  unfold execHostRxPrecodeWrite
  repeat' first
    | with_reducible exact Evolves.refl _ _
    | decide
    | with_reducible apply Runs.done
    | with_reducible apply State.hrPrecode_evolves

theorem execHtEnable_runs (m) (s : State) :
    Runs [.host, .power, .powerRegs, .hostRegs] s (execHtEnable m s) := by
  unfold execHtEnable
  repeat' first
    | with_reducible exact Evolves.refl _ _
    | decide
    | with_reducible apply Runs.done
    | with_reducible apply State.htEnable_evolves

theorem execHtDisable_runs (m) (s : State) :
    Runs [.host, .power, .powerRegs, .hostRegs] s (execHtDisable m s) := by
  unfold execHtDisable
  repeat' first
    | with_reducible exact Evolves.refl _ _
    | decide
    | with_reducible apply Runs.done
    | with_reducible apply State.htDisable_evolves

theorem execHtOffReached_runs (m) (s : State) :
    Runs [.host, .hostRegs] s (execHtOffReached m s) := by
  unfold execHtOffReached
  repeat' first
    | with_reducible exact Evolves.refl _ _
    | decide
    | with_reducible apply Runs.done
    | with_reducible apply Runs.unchanged
    | with_reducible apply Runs.ite
    | with_reducible apply Evolves.ite
    | with_reducible apply State.modHost_evolves
    | with_reducible apply State.setHtState_evolves

theorem execHtSquelchWrite_runs (m) (on) (s : State) :
    Runs [.host, .hostRegs] s (execHtSquelchWrite m on s) := by
  unfold execHtSquelchWrite
  repeat' first
    | with_reducible exact Evolves.refl _ _
    | decide
    | with_reducible apply Runs.done
    | with_reducible apply State.htSquelch_evolves

theorem execTxOutput_runs (m) (percent) (s : State) :
    Runs [.free, .fuse, .link, .counters, .attic, .systemRegs] s (execTxOutput m percent s) := by
  unfold execTxOutput
  repeat' first
    | with_reducible exact Evolves.refl _ _
    | with_reducible assumption
    | decide
    | intro _ _ _
    | intro _ _
    | intro _
    | with_reducible apply Runs.done
    | with_reducible apply Runs.unchanged
    | with_reducible apply Runs.ite
    | with_reducible apply Evolves.ite
    | with_reducible apply State.raiseOpen_evolves
    | split
    | dsimp only

theorem execHrEnable_runs (m) (on) (s : State) :
    Runs [.line, .host, .lanes, .fuse, .power, .link, .counters, .attic, .systemRegs, .powerRegs, .memProtRegs,
    .lineRegs, .hostRegs] s (execHrEnable m on s) := by
  unfold execHrEnable
  repeat' first
    | with_reducible exact Evolves.refl _ _
    | decide
    | with_reducible apply Runs.done
    | with_reducible apply State.hrEnable_evolves

theorem execHostReacq_runs (m) (s : State) :
    Runs [.line, .host, .lanes, .fuse, .link, .counters, .attic, .systemRegs, .memProtRegs, .lineRegs, .hostRegs] s
        (execHostReacq m s) := by
  unfold execHostReacq
  repeat' first
    | with_reducible exact Evolves.refl _ _
    | decide
    | with_reducible apply Runs.done
    | with_reducible apply State.hostReacq_evolves

theorem execHostCtleWrite_runs (m) (man) (set) (s : State) :
    Runs [.line, .host, .lanes, .fuse, .link, .counters, .attic, .systemRegs, .memProtRegs, .lineRegs, .hostRegs] s
        (execHostCtleWrite m man set s) := by
  unfold execHostCtleWrite
  repeat' first
    | with_reducible exact Evolves.refl _ _
    | decide
    | with_reducible apply Runs.done
    | with_reducible apply State.hostCtle_evolves

theorem execHostAcqStepDone_runs (m) (r) (s : State) :
    Runs [.line, .host, .fuse, .link, .counters, .attic, .systemRegs, .lineRegs, .hostRegs] s (execHostAcqStepDone m r
    s) := by
  unfold execHostAcqStepDone
  repeat' first
    | with_reducible exact Evolves.refl _ _
    | with_reducible assumption
    | decide
    | intro _ _ _
    | intro _ _
    | intro _
    | with_reducible apply Runs.done
    | with_reducible apply Runs.unchanged
    | with_reducible apply Runs.ite
    | with_reducible apply Evolves.ite
    | with_reducible apply State.hostStepDone_evolves
    | split
    | dsimp only

theorem execHostAcqStepTimeout_runs (m) (s : State) :
    Runs [.host, .hostRegs] s (execHostAcqStepTimeout m s) := by
  unfold execHostAcqStepTimeout
  repeat' first
    | with_reducible exact Evolves.refl _ _
    | decide
    | with_reducible apply Runs.done
    | with_reducible apply Runs.unchanged
    | with_reducible apply Runs.ite
    | with_reducible apply Evolves.ite
    | with_reducible apply State.modHost_evolves
    | with_reducible apply State.setHrState_evolves

theorem execHrAcqFail_runs (m) (s : State) :
    Runs [.fuse, .link, .counters, .attic, .systemRegs] s (execHrAcqFail m s) := by
  unfold execHrAcqFail
  repeat' first
    | with_reducible exact Evolves.refl _ _
    | decide
    | with_reducible apply Runs.done
    | with_reducible apply Runs.unchanged
    | with_reducible apply Runs.ite
    | with_reducible apply Evolves.ite
    | with_reducible apply State.raise_evolves

theorem execHrSignalPresent_runs (m) (s : State) :
    Runs [.line, .host, .lanes, .fuse, .link, .counters, .attic, .systemRegs, .memProtRegs, .lineRegs, .hostRegs] s
        (execHrSignalPresent m s) := by
  unfold execHrSignalPresent
  repeat' first
    | with_reducible exact Evolves.refl _ _
    | decide
    | with_reducible apply Runs.done
    | with_reducible apply Runs.unchanged
    | with_reducible apply Runs.ite
    | with_reducible apply Evolves.ite
    | with_reducible apply State.hostAcqStart_evolves
    | with_reducible apply State.hostLosEnd_evolves
    | with_reducible apply State.hostSignalCount_evolves
    | with_reducible apply State.hostAfterSignal_evolves

theorem execHrLos_runs (m) (s : State) :
    Runs [.line, .host, .lanes, .fuse, .link, .counters, .attic, .systemRegs, .lineRegs, .hostRegs] s (execHrLos m s) := by
  unfold execHrLos
  repeat' first
    | with_reducible exact Evolves.refl _ _
    | decide
    | exact Nat.le_of_ble_eq_true rfl
    | exact Field.ix_lt _ _
    | with_reducible apply regPart_line
    | with_reducible apply regPart_system
    | with_reducible apply regPart_host
    | with_reducible apply Runs.done
    | with_reducible apply Runs.unchanged
    | with_reducible apply Runs.ite
    | with_reducible apply Evolves.ite
    | with_reducible apply State.raise_evolves
    | with_reducible apply State.setFlag_evolves
    | with_reducible apply State.hostLoseLock_evolves
    | with_reducible apply State.trainAbandon_evolves
    | with_reducible apply State.modHost_evolves
    | with_reducible apply State.setHrState_evolves

theorem execHrLosEnd_runs (m) (within100ms) (s : State) :
    Runs [.line, .host, .lanes, .fuse, .link, .counters, .attic, .systemRegs, .memProtRegs, .lineRegs, .hostRegs] s
    (execHrLosEnd m within100ms s) := by
  unfold execHrLosEnd
  repeat' first
    | with_reducible exact Evolves.refl _ _
    | with_reducible assumption
    | decide
    | intro _ _ _
    | intro _ _
    | intro _
    | with_reducible apply Runs.done
    | with_reducible apply Runs.unchanged
    | with_reducible apply Runs.ite
    | with_reducible apply Evolves.ite
    | with_reducible apply State.hostLosEnd_evolves
    | with_reducible apply State.hostRelock_evolves
    | with_reducible apply State.hostAcqStart_evolves
    | with_reducible apply State.hostAfterSignal_evolves
    | split
    | dsimp only

theorem execHostRxUpdate_runs (m) (u) (s : State) :
    Runs [.line, .host, .lanes, .fuse, .link, .counters, .attic, .systemRegs, .lineRegs, .hostRegs] s
    (execHostRxUpdate m u s) := by
  unfold execHostRxUpdate
  repeat' first
    | with_reducible exact Evolves.refl _ _
    | with_reducible assumption
    | decide
    | exact Nat.le_of_ble_eq_true rfl
    | exact Field.ix_lt _ _
    | exact Field.lt _
    | with_reducible apply regPart_host
    | intro _ _ _
    | intro _ _
    | intro _
    | with_reducible apply Runs.done
    | with_reducible apply Runs.unchanged
    | with_reducible apply Runs.ite
    | with_reducible apply Evolves.ite
    | with_reducible apply State.hostAdapt_evolves
    | with_reducible apply State.hostLol_evolves
    | with_reducible apply State.modHost_evolves
    | with_reducible apply State.setFld_evolves
    | split
    | dsimp only

theorem execHrCdrLimit_runs (m) (s : State) :
    Runs [.line, .host, .lanes, .fuse, .link, .counters, .attic, .systemRegs, .lineRegs, .hostRegs] s (execHrCdrLimit
    m s) := by
  unfold execHrCdrLimit
  repeat' first
    | with_reducible exact Evolves.refl _ _
    | decide
    | with_reducible apply Runs.done
    | with_reducible apply Runs.unchanged
    | with_reducible apply Runs.ite
    | with_reducible apply Evolves.ite
    | with_reducible apply State.hostLol_evolves

theorem execHostRelockTimeout_runs (m) (s : State) :
    Runs [.line, .host, .lanes, .fuse, .link, .counters, .attic, .systemRegs, .memProtRegs, .lineRegs, .hostRegs] s
    (execHostRelockTimeout m s) := by
  unfold execHostRelockTimeout
  repeat' first
    | with_reducible exact Evolves.refl _ _
    | with_reducible assumption
    | decide
    | intro _ _ _
    | intro _ _
    | intro _
    | with_reducible apply Runs.done
    | with_reducible apply Runs.unchanged
    | with_reducible apply Runs.ite
    | with_reducible apply Evolves.ite
    | with_reducible apply State.hostAcqStart_evolves
    | split
    | dsimp only

theorem execHrQualPublish_runs (m) (q) (s : State) :
    Runs [.host, .fuse, .link, .counters, .attic, .systemRegs, .hostRegs] s (execHrQualPublish m q s) := by
  unfold execHrQualPublish
  repeat' first
    | with_reducible exact Evolves.refl _ _
    | with_reducible assumption
    | decide
    | exact Nat.le_of_ble_eq_true rfl
    | exact Field.ix_lt _ _
    | exact Field.lt _
    | with_reducible apply regPart_host
    | intro _ _ _
    | intro _ _
    | intro _
    | with_reducible apply Runs.done
    | with_reducible apply Runs.unchanged
    | with_reducible apply Runs.ite
    | with_reducible apply Evolves.ite
    | with_reducible apply State.raise_evolves
    | with_reducible apply Evolves.when
    | with_reducible apply State.modHost_evolves
    | with_reducible apply State.setFlag_evolves
    | with_reducible apply State.setFld_evolves
    | split
    | dsimp only

theorem execTrainStart_runs (m) (s : State) :
    Runs [.line, .host, .lanes, .fuse, .link, .counters, .attic, .systemRegs, .lineRegs, .hostRegs] s (execTrainStart
    m s) := by
  unfold execTrainStart
  repeat' first
    | with_reducible exact Evolves.refl _ _
    | decide
    | with_reducible apply Runs.done
    | with_reducible apply State.hostTrainStart_evolves

theorem execTrainRequestReceived_runs (m) (req) (s : State) :
    Runs [.host, .hostRegs] s (execTrainRequestReceived m req s) := by
  unfold execTrainRequestReceived
  repeat' first
    | with_reducible exact Evolves.refl _ _
    | with_reducible assumption
    | decide
    | exact Nat.le_of_ble_eq_true rfl
    | exact Field.ix_lt _ _
    | exact Field.lt _
    | with_reducible apply regPart_host
    | intro _ _ _
    | intro _ _
    | intro _
    | with_reducible apply Runs.done
    | with_reducible apply Runs.unchanged
    | with_reducible apply Runs.ite
    | with_reducible apply Evolves.ite
    | with_reducible apply State.htPrecode_evolves
    | with_reducible apply State.setHostTaps_evolves
    | with_reducible apply State.modHost_evolves
    | with_reducible apply State.bump_evolves
    | split
    | dsimp only

theorem execTrainRequesterStep_runs (m) (rise) (s : State) :
    Runs [.host, .hostRegs] s (execTrainRequesterStep m rise s) := by
  unfold execTrainRequesterStep
  repeat' first
    | with_reducible exact Evolves.refl _ _
    | with_reducible assumption
    | decide
    | intro _ _ _
    | intro _ _
    | intro _
    | with_reducible apply Runs.done
    | with_reducible apply Runs.unchanged
    | with_reducible apply Runs.ite
    | with_reducible apply Evolves.ite
    | with_reducible apply State.sendRequest_evolves
    | with_reducible apply State.modHost_evolves
    | split
    | dsimp only

theorem execTrainDone_runs (m) (s : State) :
    Runs [.host, .hostRegs] s (execTrainDone m s) := by
  unfold execTrainDone
  repeat' first
    | with_reducible exact Evolves.refl _ _
    | decide
    | with_reducible apply Runs.done
    | with_reducible apply Runs.unchanged
    | with_reducible apply Runs.ite
    | with_reducible apply Evolves.ite
    | with_reducible apply State.modHost_evolves
    | with_reducible apply State.trainEnd_evolves

theorem execTrainFail_runs (m) (s : State) :
    Runs [.free, .host, .fuse, .link, .counters, .attic, .systemRegs, .hostRegs] s (execTrainFail m s) := by
  unfold execTrainFail
  repeat' first
    | with_reducible exact Evolves.refl _ _
    | decide
    | with_reducible apply Runs.done
    | with_reducible apply Runs.unchanged
    | with_reducible apply Runs.ite
    | with_reducible apply Evolves.ite
    | with_reducible apply State.raiseOpen_evolves
    | with_reducible apply State.trainEnd_evolves

theorem execHtSleepWrite_runs (m) (on) (s : State) :
    Runs [.host, .power, .powerRegs, .hostRegs] s (execHtSleepWrite m on s) := by
  unfold execHtSleepWrite
  repeat' first
    | with_reducible exact Evolves.refl _ _
    | decide
    | with_reducible apply Runs.done
    | with_reducible apply State.htSleep_evolves

theorem execHrSleepWrite_runs (m) (on) (reacq) (s : State) :
    Runs [.line, .host, .lanes, .fuse, .power, .link, .counters, .attic, .systemRegs, .powerRegs, .memProtRegs,
    .lineRegs, .hostRegs] s (execHrSleepWrite m on reacq s) := by
  unfold execHrSleepWrite
  repeat' first
    | with_reducible exact Evolves.refl _ _
    | decide
    | with_reducible apply Runs.done
    | with_reducible apply State.hrSleep_evolves

theorem execHostPatSelWrite_runs (m) (sel) (s : State) :
    Runs [.lineRegs, .hostRegs] s (execHostPatSelWrite m sel s) := by
  unfold execHostPatSelWrite
  repeat' first
    | with_reducible exact Evolves.refl _ _
    | decide
    | with_reducible apply Runs.done
    | with_reducible apply State.hostPatSel_evolves

theorem execHostChkSelWrite_runs (m) (sel) (s : State) :
    Runs [.line, .host, .lanes, .fuse, .link, .counters, .attic, .systemRegs, .lineRegs, .hostRegs] s
    (execHostChkSelWrite m
        sel s) := by
  unfold execHostChkSelWrite
  repeat' first
    | with_reducible exact Evolves.refl _ _
    | decide
    | with_reducible apply Runs.done
    | with_reducible apply State.hostChkSel_evolves

theorem execFollowRange_runs (n) (stream) (ppm) (s : State) :
    Runs [.free, .line, .fuse, .link, .counters, .attic, .systemRegs, .lineRegs] s (execFollowRange n stream ppm s) :=
    by
  unfold execFollowRange
  repeat' first
    | with_reducible exact Evolves.refl _ _
    | with_reducible assumption
    | decide
    | intro _ _ _
    | intro _ _
    | intro _
    | with_reducible apply Runs.done
    | with_reducible apply Runs.unchanged
    | with_reducible apply Runs.ite
    | with_reducible apply Evolves.ite
    | with_reducible apply State.raiseFollow_evolves
    | with_reducible apply State.refreshFill_evolves
    | with_reducible apply State.modLinkOf_evolves
    | split
    | dsimp only

theorem execFollowRangeEnd_runs (n) (stream) (ppm) (s : State) :
    Runs [.line, .fuse, .link, .counters, .attic, .systemRegs, .lineRegs] s (execFollowRangeEnd n stream ppm s) := by
  unfold execFollowRangeEnd
  repeat' first
    | with_reducible exact Evolves.refl _ _
    | with_reducible assumption
    | decide
    | intro _ _ _
    | intro _ _
    | intro _
    | with_reducible apply Runs.done
    | with_reducible apply Runs.unchanged
    | with_reducible apply Runs.ite
    | with_reducible apply Evolves.ite
    | with_reducible apply State.followEnd_evolves
    | with_reducible apply State.refreshFill_evolves
    | split
    | dsimp only

theorem execPairSlip_runs (n) (skew) (slips) (s : State) :
    Runs [.free, .line, .fuse, .link, .counters, .attic, .systemRegs, .lineRegs] s (execPairSlip n skew slips s) := by
  unfold execPairSlip
  repeat' first
    | with_reducible exact Evolves.refl _ _
    | with_reducible assumption
    | decide
    | intro _ _ _
    | intro _ _
    | intro _
    | with_reducible apply Runs.done
    | with_reducible apply Runs.unchanged
    | with_reducible apply Runs.ite
    | with_reducible apply Evolves.ite
    | with_reducible apply State.refreshFill_evolves
    | with_reducible apply State.unsettle_evolves
    | with_reducible apply State.raiseOpen_evolves
    | with_reducible apply State.modLinkOf_evolves
    | split
    | dsimp only

theorem execPairRealignDone_runs (n) (s : State) :
    Runs [.line, .fuse, .link, .counters, .attic, .systemRegs, .lineRegs] s (execPairRealignDone n s) := by
  unfold execPairRealignDone
  repeat' first
    | with_reducible exact Evolves.refl _ _
    | decide
    | with_reducible apply Runs.done
    | with_reducible apply Runs.unchanged
    | with_reducible apply Runs.ite
    | with_reducible apply Evolves.ite
    | with_reducible apply State.refreshFill_evolves
    | with_reducible apply State.modLinkOf_evolves

theorem execDeskewRange_runs (n) (host) (skew) (s : State) :
    Runs [.line, .fuse, .link, .counters, .attic, .systemRegs, .lineRegs] s (execDeskewRange n host skew s) := by
  unfold execDeskewRange
  repeat' first
    | with_reducible exact Evolves.refl _ _
    | with_reducible assumption
    | decide
    | intro _ _ _
    | intro _ _
    | intro _
    | with_reducible apply Runs.done
    | with_reducible apply Runs.unchanged
    | with_reducible apply Runs.ite
    | with_reducible apply Evolves.ite
    | with_reducible apply State.setDeskew_evolves
    | with_reducible apply State.raise_evolves
    | split
    | dsimp only

theorem execDeskewRetry_runs (n) (host) (skew) (s : State) :
    Runs [.line, .fuse, .link, .counters, .attic, .systemRegs, .lineRegs] s (execDeskewRetry n host skew s) := by
  unfold execDeskewRetry
  repeat' first
    | with_reducible exact Evolves.refl _ _
    | with_reducible assumption
    | decide
    | intro _ _ _
    | intro _ _
    | intro _
    | with_reducible apply Runs.done
    | with_reducible apply Runs.unchanged
    | with_reducible apply Runs.ite
    | with_reducible apply Evolves.ite
    | with_reducible apply State.setDeskew_evolves
    | with_reducible apply State.unsettle_evolves
    | with_reducible apply State.quiet_evolves
    | with_reducible apply Evolves.each
    | split
    | dsimp only

theorem execGroupRealignDone_runs (n) (s : State) :
    Runs [.line, .lanes, .fuse, .link, .counters, .attic, .systemRegs, .lineRegs] s (execGroupRealignDone n s) := by
  unfold execGroupRealignDone
  repeat' first
    | with_reducible exact Evolves.refl _ _
    | with_reducible assumption
    | decide
    | intro _ _ _
    | intro _ _
    | intro _
    | with_reducible apply Runs.done
    | with_reducible apply Runs.unchanged
    | with_reducible apply Runs.ite
    | with_reducible apply Evolves.ite
    | with_reducible apply State.refreshFill_evolves
    | with_reducible apply Evolves.each
    | with_reducible apply State.modLinkOf_evolves
    | split
    | dsimp only
    | with_reducible apply Evolves.lanes

theorem execLaneModeChangeDone_runs (s : State) :
    Runs [.lanes, .link, .tamid, .systemRegs, .tamidRegs, .keyRegs] s (execLaneModeChangeDone s) := by
  unfold execLaneModeChangeDone
  repeat' first
    | with_reducible exact Evolves.refl _ _
    | decide
    | with_reducible apply Runs.done
    | with_reducible apply Runs.unchanged
    | with_reducible apply Runs.ite
    | with_reducible apply Evolves.ite
    | with_reducible apply State.complete_evolves
    | with_reducible apply Evolves.lanes

theorem execProfileGroupSwitch_runs (n) (s : State) :
    Runs [.line, .lanes, .fuse, .link, .counters, .attic, .tamid, .pantry, .systemRegs, .lineRegs, .tamidRegs,
    .pantryRegs] s (execProfileGroupSwitch n s) := by
  unfold execProfileGroupSwitch
  repeat' first
    | with_reducible exact Evolves.refl _ _
    | with_reducible assumption
    | decide
    | with_reducible apply Runs.done
    | with_reducible apply Runs.unchanged
    | with_reducible apply Runs.ite
    | exact nlcRegs_inBlock
    | exact pdRegs_inBlock
    | intro _ _ _
    | intro _ _
    | intro _
    | with_reducible apply Evolves.ite
    | with_reducible apply State.switchTaps_evolves
    | with_reducible apply State.refreshFill_evolves
    | with_reducible apply State.fadeBypass_evolves
    | with_reducible apply State.unsettleAll_evolves
    | with_reducible apply Evolves.each
    | with_reducible apply State.modLinkOf_evolves
    | split
    | dsimp only
    | with_reducible apply Evolves.lanes

theorem execProfileGroupRealigned_runs (n) (s : State) :
    Runs [.line, .lanes, .fuse, .link, .counters, .attic, .chain, .tamid, .systemRegs, .lineRegs, .tamidRegs,
    .chainRegs, .keyRegs] s (execProfileGroupRealigned n s) := by
  unfold execProfileGroupRealigned
  repeat' first
    | with_reducible exact Evolves.refl _ _
    | with_reducible assumption
    | decide
    | intro _ _ _
    | intro _ _
    | intro _
    | with_reducible apply Runs.done
    | with_reducible apply Runs.unchanged
    | with_reducible apply Runs.ite
    | with_reducible apply Evolves.ite
    | with_reducible apply State.profileDone_evolves
    | with_reducible apply State.refreshFill_evolves
    | with_reducible apply Evolves.each
    | with_reducible apply State.modLinkOf_evolves
    | split
    | dsimp only
    | with_reducible apply Evolves.lanes

theorem execLedgerRecompute_runs (n) (which) (dev) (wait) (unsettling) (s : State) :
    Runs [.link, .systemRegs, .lineRegs] s (execLedgerRecompute n which dev wait unsettling s) := by
  unfold execLedgerRecompute
  repeat' first
    | with_reducible exact Evolves.refl _ _
    | with_reducible assumption
    | decide
    | intro _ _ _
    | intro _ _
    | intro _
    | with_reducible apply Runs.done
    | with_reducible apply Runs.unchanged
    | with_reducible apply Runs.ite
    | with_reducible apply Evolves.ite
    | with_reducible apply State.ledgerPublish_evolves
    | with_reducible apply State.unsettle_evolves
    | split
    | dsimp only

theorem execLedgerSettle_runs (n) (which) (dev) (wait) (unsettling) (s : State) :
    Runs [.link, .systemRegs, .lineRegs] s (execLedgerSettle n which dev wait unsettling s) := by
  unfold execLedgerSettle
  repeat' first
    | with_reducible exact Evolves.refl _ _
    | with_reducible assumption
    | decide
    | exact Nat.le_of_ble_eq_true rfl
    | exact Field.ix_lt _ _
    | exact Field.lt _
    | exact ledgerUnsettled_lt _
    | with_reducible apply regPart_line
    | intro _ _ _
    | intro _ _
    | intro _
    | with_reducible apply Runs.done
    | with_reducible apply Runs.unchanged
    | with_reducible apply Runs.ite
    | with_reducible apply Evolves.ite
    | with_reducible apply State.ledgerPublish_evolves
    | with_reducible apply State.setFlag_evolves
    | split
    | dsimp only

theorem execCdacSampleTick_runs (c) (s : State) :
    Runs [.fuse, .link, .counters, .attic, .hk, .cdac, .tamid, .systemRegs, .cdacRegs] s (execCdacSampleTick c s) := by
  unfold execCdacSampleTick
  repeat' first
    | with_reducible exact Evolves.refl _ _
    | with_reducible assumption
    | decide
    | intro _ _ _
    | intro _ _
    | intro _
    | with_reducible apply Runs.done
    | with_reducible apply Runs.unchanged
    | with_reducible apply Runs.ite
    | with_reducible apply Evolves.ite
    | with_reducible apply State.cdTick_evolves
    | with_reducible apply State.ncoRun_evolves
    | split
    | dsimp only

theorem execCdacRangeSwitch_runs (c) (s : State) :
    Runs [.cdac, .cdacRegs] s (execCdacRangeSwitch c s) := by
  unfold execCdacRangeSwitch
  repeat' first
    | with_reducible exact Evolves.refl _ _
    | decide
    | exact Nat.le_of_ble_eq_true rfl
    | exact Field.ix_lt _ _
    | with_reducible apply regPart_cd
    | with_reducible apply regPart_cdac
    | exact fun k => k
    | exact fun _ => Nat.zero_le _
    | with_reducible apply Runs.done
    | with_reducible apply Runs.unchanged
    | with_reducible apply Runs.ite
    | with_reducible apply Evolves.ite
    | with_reducible apply State.setFlag_evolves
    | with_reducible apply State.modCdac_evolves
    | with_reducible apply State.setCdState_evolves
    | split

theorem execTamidShapeWrite_runs (i) (j) (value) (s : State) :
    Runs [.tamid, .tamidRegs] s (execTamidShapeWrite i j value s) := by
  unfold execTamidShapeWrite
  repeat' first
    | with_reducible exact Evolves.refl _ _
    | decide
    | with_reducible apply Runs.done
    | with_reducible apply State.shapeWrite_evolves

theorem execTamidTransitionDone_runs (i) (spectrum) (s : State) :
    Runs [.fuse, .power, .link, .counters, .attic, .chain, .tamid, .carriers, .systemRegs, .powerRegs, .tamidRegs,
    .chainRegs, .keyRegs] s (execTamidTransitionDone i spectrum s) := by
  unfold execTamidTransitionDone
  repeat' first
    | with_reducible exact Evolves.refl _ _
    | with_reducible assumption
    | decide
    | exact fun k => k
    | exact fun _ => Nat.zero_le _
    | intro _ _ _
    | intro _ _
    | intro _
    | with_reducible apply Runs.done
    | with_reducible apply Runs.unchanged
    | with_reducible apply Runs.ite
    | with_reducible apply Evolves.ite
    | with_reducible apply State.endConfig_evolves
    | with_reducible apply State.takeConfig_evolves
    | with_reducible apply State.maskFail_evolves
    | with_reducible apply State.abortSlice_evolves
    | with_reducible apply State.setTamidState_evolves
    | with_reducible apply State.storeCarrier_evolves
    | with_reducible apply State.modTamid_evolves
    | split
    | dsimp only

theorem TamidInst.without_queue (t : TamidInst) : t.without.queue = t.queue := by
  unfold TamidInst.without
  repeat' first
    | rfl
    | split

theorem execTamidPacketStart_runs (i) (spectrum) (s : State) :
    Runs [.fuse, .power, .link, .counters, .attic, .chain, .tamid, .carriers, .systemRegs, .powerRegs, .tamidRegs,
    .chainRegs, .keyRegs] s (execTamidPacketStart i spectrum s) := by
  unfold execTamidPacketStart
  repeat' first
    | with_reducible exact Evolves.refl _ _
    | with_reducible assumption
    | decide
    | exact fun k => k
    | exact fun _ => Nat.zero_le _
    | exact fun k => (TamidInst.without_queue _).symm ▸ k
    | intro _ _ _
    | intro _ _
    | intro _
    | with_reducible apply Runs.done
    | with_reducible apply Runs.unchanged
    | with_reducible apply Runs.ite
    | with_reducible apply Evolves.ite
    | with_reducible apply State.maskFail_evolves
    | with_reducible apply State.abortSlice_evolves
    | with_reducible apply State.setTamidState_evolves
    | with_reducible apply State.storeCarrier_evolves
    | with_reducible apply State.reply_evolves
    | with_reducible apply State.tamidDrop_evolves
    | with_reducible apply State.refreshSending_evolves
    | with_reducible apply State.modTamid_evolves
    | with_reducible apply State.raise_evolves
    | split
    | dsimp only

theorem execTamidPacketEnd_runs (i) (s : State) :
    Runs [.power, .counters, .chain, .tamid, .powerRegs, .tamidRegs, .chainRegs] s (execTamidPacketEnd i s) := by
  unfold execTamidPacketEnd
  repeat' first
    | with_reducible exact Evolves.refl _ _
    | with_reducible assumption
    | decide
    | exact Nat.le_of_ble_eq_true rfl
    | exact Field.ix_lt _ _
    | exact Field.lt _
    | with_reducible apply regPart_tamid
    | exact fun k => k
    | exact fun _ => Nat.zero_le _
    | intro _ _ _
    | intro _ _
    | intro _
    | with_reducible apply Runs.done
    | with_reducible apply Runs.unchanged
    | with_reducible apply Runs.ite
    | with_reducible apply Evolves.ite
    | with_reducible apply State.setTamidState_evolves
    | with_reducible apply State.refreshSending_evolves
    | with_reducible apply State.modTamid_evolves
    | with_reducible apply State.countEvent_evolves
    | with_reducible apply State.bumpMod_evolves
    | split
    | dsimp only

end Sys2Proof.Machine
end

