-- ==== Sys2Proof/Laws/CommandsC.lean ====
section
/-! SUPPORT. What each command can change before its reactions (`Runs`), in the order of the meanings' files. -/

namespace Sys2Proof.Machine

theorem execTamidAgcUpdate_runs (i) (level) (s : State) :
    Runs [.tamid] s (execTamidAgcUpdate i level s) := by
  unfold execTamidAgcUpdate
  repeat' first
    | with_reducible exact Evolves.refl _ _
    | with_reducible assumption
    | decide
    | exact fun k => k
    | exact fun _ => Nat.zero_le _
    | intro _ _ _
    | intro _ _
    | intro _
    | with_reducible apply Runs.done
    | with_reducible apply Runs.unchanged
    | with_reducible apply Runs.ite
    | with_reducible apply Evolves.ite
    | with_reducible apply State.modTamid_evolves
    | split
    | dsimp only

theorem execTamidDetect_runs (i) (corr) (level) (s : State) :
    Runs [.tamid] s (execTamidDetect i corr level s) := by
  unfold execTamidDetect
  repeat' first
    | with_reducible exact Evolves.refl _ _
    | decide
    | exact fun k => k
    | exact fun _ => Nat.zero_le _
    | with_reducible apply Runs.done
    | with_reducible apply Runs.unchanged
    | with_reducible apply Runs.ite
    | with_reducible apply Evolves.ite
    | with_reducible apply State.modTamid_evolves

theorem execTamidSyncAccept_runs (i) (word) (afc) (delay) (s : State) :
    Runs [.tamid, .tamidRegs] s (execTamidSyncAccept i word afc delay s) := by
  unfold execTamidSyncAccept
  repeat' first
    | with_reducible exact Evolves.refl _ _
    | with_reducible assumption
    | decide
    | exact Nat.le_of_ble_eq_true rfl
    | exact Field.ix_lt _ _
    | exact Field.lt _
    | with_reducible apply regPart_tamid
    | exact fun k => k
    | exact fun _ => Nat.zero_le _
    | intro _ _ _
    | intro _ _
    | intro _
    | with_reducible apply Runs.done
    | with_reducible apply Runs.unchanged
    | with_reducible apply Runs.ite
    | with_reducible apply Evolves.ite
    | with_reducible apply State.modTamid_evolves
    | with_reducible apply State.setFlag_evolves
    | split
    | dsimp only

theorem execTamidSyncTimeout_runs (i) (s : State) :
    Runs [.tamid] s (execTamidSyncTimeout i s) := by
  unfold execTamidSyncTimeout
  repeat' first
    | with_reducible exact Evolves.refl _ _
    | decide
    | exact fun k => k
    | exact fun _ => Nat.zero_le _
    | with_reducible apply Runs.done
    | with_reducible apply Runs.unchanged
    | with_reducible apply Runs.ite
    | with_reducible apply Evolves.ite
    | with_reducible apply State.modTamid_evolves
    | split

theorem execTamidPacketReceived_runs (i) (raw) (s : State) :
    Runs [.fuse, .link, .counters, .attic, .tamid, .limits, .systemRegs, .tamidRegs] s (execTamidPacketReceived i raw
    s) := by
  unfold execTamidPacketReceived
  repeat' first
    | with_reducible exact Evolves.refl _ _
    | with_reducible assumption
    | decide
    | exact Nat.le_of_ble_eq_true rfl
    | exact Field.ix_lt _ _
    | exact Field.lt _
    | with_reducible apply regPart_tamid
    | exact fun k => k
    | exact fun _ => Nat.zero_le _
    | intro _ _ _
    | intro _ _
    | intro _
    | with_reducible apply Runs.done
    | with_reducible apply Runs.unchanged
    | with_reducible apply Runs.ite
    | with_reducible apply Evolves.ite
    | with_reducible apply State.tamidRoute_evolves
    | with_reducible apply State.tamidCrc_evolves
    | with_reducible apply State.modTamid_evolves
    | with_reducible apply State.setFlag_evolves
    | split
    | dsimp only

theorem execTamidCapture_runs (i) (level) (s : State) :
    Runs [.fuse, .link, .counters, .attic, .tamid, .limits, .systemRegs, .tamidRegs] s (execTamidCapture i level s) :=
    by
  unfold execTamidCapture
  repeat' first
    | with_reducible exact Evolves.refl _ _
    | with_reducible assumption
    | decide
    | exact Nat.le_of_ble_eq_true rfl
    | exact Field.ix_lt _ _
    | exact Field.lt _
    | with_reducible apply regPart_tamid
    | exact fun k => k
    | exact fun _ => Nat.zero_le _
    | intro _ _ _
    | intro _ _
    | intro _
    | with_reducible apply Runs.done
    | with_reducible apply Runs.unchanged
    | with_reducible apply Runs.ite
    | with_reducible apply Evolves.ite
    | with_reducible apply State.modTamid_evolves
    | with_reducible apply State.raiseLimited_evolves
    | with_reducible apply State.bump_evolves
    | with_reducible apply State.setFlag_evolves
    | split
    | dsimp only

theorem execTamidCalSlice_runs (i) (ev) (s : State) :
    Runs [.fuse, .link, .counters, .attic, .tamid, .carriers, .systemRegs, .tamidRegs] s (execTamidCalSlice i ev s) :=
    by
  unfold execTamidCalSlice
  repeat' first
    | with_reducible exact Evolves.refl _ _
    | with_reducible assumption
    | decide
    | exact Nat.le_of_ble_eq_true rfl
    | exact Field.ix_lt _ _
    | exact Field.lt _
    | with_reducible apply regPart_tamid
    | exact fun k => k
    | exact fun _ => Nat.zero_le _
    | intro _ _ _
    | intro _ _
    | intro _
    | with_reducible apply Runs.done
    | with_reducible apply Runs.unchanged
    | with_reducible apply Runs.ite
    | with_reducible apply Evolves.ite
    | with_reducible apply State.endSlice_evolves
    | with_reducible apply State.storeCarrier_evolves
    | with_reducible apply State.dropCarrier_evolves
    | with_reducible apply State.modTamid_evolves
    | with_reducible apply State.raise_evolves
    | with_reducible apply State.setFlag_evolves
    | split
    | dsimp only

theorem execTamidCacheExpiry_runs (half) (carrier) (s : State) :
    Runs [.carriers] s (execTamidCacheExpiry half carrier s) := by
  unfold execTamidCacheExpiry
  repeat' first
    | with_reducible exact Evolves.refl _ _
    | decide
    | with_reducible apply Runs.done
    | with_reducible apply State.dropCarrier_evolves

theorem execLingerExpiry_runs (d) (s : State) :
    Runs [.power, .powerRegs] s (execLingerExpiry d s) := by
  unfold execLingerExpiry
  repeat' first
    | with_reducible exact Evolves.refl _ _
    | with_reducible assumption
    | decide
    | intro _ _ _
    | intro _ _
    | intro _
    | with_reducible apply Runs.done
    | with_reducible apply Runs.unchanged
    | with_reducible apply Runs.ite
    | with_reducible apply Evolves.ite
    | with_reducible apply State.startEntry_evolves
    | split
    | dsimp only

theorem execDomainEntryStep_runs (d) (s : State) :
    Runs [.line, .host, .lanes, .fuse, .power, .link, .counters, .attic, .hk, .cdac, .chain, .tamid, .test,
        .systemRegs, .powerRegs, .clockRegs, .hkRegs, .testRegs, .lineRegs, .hostRegs, .tamidRegs, .chainRegs,
            .cdacRegs, .keyRegs] s (execDomainEntryStep d s) := by
  unfold execDomainEntryStep
  repeat' first
    | with_reducible exact Evolves.refl _ _
    | decide
    | with_reducible apply Runs.done
    | with_reducible apply Runs.unchanged
    | with_reducible apply Runs.ite
    | with_reducible apply Evolves.ite
    | with_reducible apply State.entryStep_evolves

theorem execDomainWakeRequest_runs (d) (s : State) :
    Runs [.power, .powerRegs] s (execDomainWakeRequest d s) := by
  unfold execDomainWakeRequest
  repeat' first
    | with_reducible exact Evolves.refl _ _
    | decide
    | with_reducible apply Runs.done
    | with_reducible apply Runs.unchanged
    | with_reducible apply Runs.ite
    | with_reducible apply Evolves.ite
    | with_reducible apply State.setVote_evolves

theorem execDozeExit_runs (s : State) :
    Runs [.line, .host, .lanes, .fuse, .link, .counters, .attic, .boot, .tamid, .systemRegs, .powerRegs, .memProtRegs,
    .lineRegs, .hostRegs, .tamidRegs] s (execDozeExit s) := by
  unfold execDozeExit
  repeat' first
    | with_reducible exact Evolves.refl _ _
    | decide
    | with_reducible apply Runs.done
    | with_reducible apply State.dozeExit_evolves

theorem execDeepEntryStep_runs (s : State) :
    Runs [.line, .host, .lanes, .fuse, .power, .link, .counters, .attic, .clock, .hk, .cdac, .chain, .tamid,
        .systemRegs, .powerRegs, .hkRegs, .lineRegs, .hostRegs, .tamidRegs, .chainRegs, .cdacRegs] s (execDeepEntryStep
            s) := by
  unfold execDeepEntryStep
  repeat' first
    | with_reducible exact Evolves.refl _ _
    | with_reducible assumption
    | decide
    | intro _ _ _
    | intro _ _
    | intro _
    | with_reducible apply Runs.done
    | with_reducible apply Runs.unchanged
    | with_reducible apply Runs.ite
    | with_reducible apply Evolves.ite
    | with_reducible apply State.txDrop_evolves
    | with_reducible apply State.modHost_evolves
    | with_reducible apply State.setHtState_evolves
    | with_reducible apply State.cdClamp_evolves
    | with_reducible apply State.deepEntries_evolves
    | with_reducible apply State.deepDecide_evolves
    | with_reducible apply State.deepRetain_evolves
    | with_reducible apply State.settled_evolves
    | with_reducible apply Evolves.each
    | with_reducible apply Evolves.clock
    | with_reducible apply Evolves.power

theorem execDeepWakeTimer_runs (s : State) :
    Runs [.power, .powerRegs] s (execDeepWakeTimer s) := by
  unfold execDeepWakeTimer
  repeat' first
    | with_reducible exact Evolves.refl _ _
    | with_reducible assumption
    | decide
    | intro _ _ _
    | intro _ _
    | intro _
    | with_reducible apply Runs.done
    | with_reducible apply Runs.unchanged
    | with_reducible apply Runs.ite
    | with_reducible apply Evolves.ite
    | with_reducible apply State.deepTrigger_evolves
    | split
    | dsimp only

theorem execLineRxSleepWrite_runs (mask) (s : State) :
    Runs [.power, .powerRegs] s (execLineRxSleepWrite mask s) := by
  unfold execLineRxSleepWrite
  repeat' first
    | with_reducible exact Evolves.refl _ _
    | decide
    | with_reducible apply Runs.done
    | with_reducible apply State.lineRxSleep_evolves

theorem execDeepTestDone_runs (pass) (coverage) (signature) (results) (s : State) :
    Runs [.mem, .line, .host, .lanes, .fuse, .power, .link, .counters, .attic, .hk, .chain, .tamid, .pantry, .rooms,
        .test, .systemRegs, .fuseRegs, .powerRegs, .clockRegs, .memProtRegs, .hkRegs, .thermRegs, .counterRegs,
            .testRegs, .lineRegs, .hostRegs, .tamidRegs, .chainRegs, .cdacRegs, .pantryRegs, .keyRegs, .otherRegs] s
                (execDeepTestDone pass coverage signature results s) := by
  unfold execDeepTestDone
  repeat' first
    | with_reducible exact Evolves.refl _ _
    | decide
    | with_reducible apply Runs.done
    | with_reducible apply Runs.unchanged
    | with_reducible apply Runs.ite
    | with_reducible apply Evolves.ite
    | with_reducible apply State.deepEnd_evolves
    | split

theorem execThermalPeriodChange_runs (s : State) :
    Runs [.lanes, .fuse, .tamid, .pantry, .thermal, .systemRegs, .thermRegs, .lineRegs, .tamidRegs, .pantryRegs] s
    (execThermalPeriodChange s) := by
  unfold execThermalPeriodChange
  repeat' first
    | with_reducible exact Evolves.refl _ _
    | with_reducible assumption
    | decide
    | intro _ _ _
    | intro _ _
    | intro _
    | with_reducible apply Runs.done
    | with_reducible apply Runs.unchanged
    | with_reducible apply Runs.ite
    | with_reducible apply Evolves.ite
    | with_reducible apply State.refreshPeriod_evolves
    | split
    | dsimp only
    | with_reducible apply Evolves.thermal

theorem execThermalCompare_runs (elements) (s : State) :
    Runs [.free, .mem, .line, .host, .lanes, .fuse, .power, .link, .counters, .attic, .clock, .boot, .hk, .cdac,
    .chain, .tamid, .memory, .pantry, .rooms, .thermal, .test, .systemRegs, .fuseRegs, .powerRegs, .clockRegs,
    .memProtRegs, .hkRegs, .thermRegs, .counterRegs, .testRegs, .lineRegs, .hostRegs, .tamidRegs, .chainRegs,
    .cdacRegs, .pantryRegs, .keyRegs, .otherRegs] s (execThermalCompare elements s) := by
  unfold execThermalCompare
  repeat' first
    | with_reducible exact Evolves.refl _ _
    | with_reducible assumption
    | decide
    | intro _ _ _
    | intro _ _
    | intro _
    | with_reducible apply Runs.done
    | with_reducible apply Runs.unchanged
    | with_reducible apply Runs.ite
    | with_reducible apply Evolves.ite
    | with_reducible apply State.throttleJudge_evolves
    | with_reducible apply State.warnJudge_evolves
    | with_reducible apply State.shutdown_evolves
    | split
    | dsimp only
    | with_reducible apply Evolves.thermal

theorem execShutdownFlashDrain_runs (op) (offset) (data) (s : State) :
    Runs [.flash, .thermal] s (execShutdownFlashDrain op offset data s) := by
  unfold execShutdownFlashDrain
  repeat' first
    | with_reducible exact Evolves.refl _ _
    | decide
    | exact fun k => k
    | exact fun _ => Nat.zero_le _
    | with_reducible apply Runs.done
    | with_reducible apply Runs.unchanged
    | with_reducible apply Runs.ite
    | with_reducible apply Evolves.ite
    | with_reducible apply State.setFlashBytes_evolves
    | split
    | dsimp only
    | with_reducible apply Evolves.thermal
    | with_reducible apply Evolves.flash
    | with_reducible apply Evolves.flashThermal
    | exact fun k => Sparse.wf_filter flashDefault _ _ k

theorem execSensorMismatch_runs (site) (a) (b) (s : State) :
    Runs [.free, .fuse, .link, .counters, .attic, .systemRegs, .thermRegs] s (execSensorMismatch site a b s) := by
  unfold execSensorMismatch
  repeat' first
    | with_reducible exact Evolves.refl _ _
    | with_reducible assumption
    | decide
    | exact Nat.le_of_ble_eq_true rfl
    | exact Field.ix_lt _ _
    | exact Field.lt _
    | with_reducible apply regPart_therm
    | intro _ _ _
    | intro _ _
    | intro _
    | with_reducible apply Runs.done
    | with_reducible apply Runs.unchanged
    | with_reducible apply Runs.ite
    | with_reducible apply Evolves.ite
    | with_reducible apply State.raiseOpen_evolves
    | with_reducible apply State.bump_evolves
    | with_reducible apply State.setFlag_evolves
    | split
    | dsimp only

theorem execSensorMismatchClear_runs (site) (a) (b) (s : State) :
    Runs [.fuse, .thermRegs] s (execSensorMismatchClear site a b s) := by
  unfold execSensorMismatchClear
  repeat' first
    | with_reducible exact Evolves.refl _ _
    | with_reducible assumption
    | decide
    | exact Nat.le_of_ble_eq_true rfl
    | exact Field.ix_lt _ _
    | exact Field.lt _
    | with_reducible apply regPart_therm
    | intro _ _ _
    | intro _ _
    | intro _
    | with_reducible apply Runs.done
    | with_reducible apply Runs.unchanged
    | with_reducible apply Runs.ite
    | with_reducible apply Evolves.ite
    | with_reducible apply State.quiet_evolves
    | with_reducible apply State.setFlag_evolves
    | split
    | dsimp only

theorem execCalInterpolate_runs (s : State) :
    Runs [.thermal] s (execCalInterpolate s) := by
  unfold execCalInterpolate
  repeat' first
    | with_reducible exact Evolves.refl _ _
    | with_reducible assumption
    | decide
    | intro _ _ _
    | intro _ _
    | intro _
    | with_reducible apply Runs.done
    | with_reducible apply Runs.unchanged
    | with_reducible apply Runs.ite
    | with_reducible apply Evolves.ite
    | split
    | dsimp only
    | with_reducible apply Evolves.thermal

theorem execLifecycleProgramDone_runs (verified) (s : State) :
    Runs [.lanes, .fuse, .link, .counters, .attic, .tamid, .pantry, .thermal, .test, .systemRegs, .thermRegs,
    .lineRegs, .tamidRegs, .pantryRegs, .keyRegs] s (execLifecycleProgramDone verified s) := by
  unfold execLifecycleProgramDone
  repeat' first
    | with_reducible exact Evolves.refl _ _
    | decide
    | with_reducible apply Runs.done
    | with_reducible apply Runs.unchanged
    | with_reducible apply State.programDone_evolves
    | split

theorem execJtagInstruction_runs (trstLow) (ins) (s : State) :
    Runs [.line, .host, .lanes, .fuse, .power, .link, .counters, .attic, .hk, .chain, .tamid, .test, .systemRegs,
    .powerRegs, .hkRegs, .lineRegs, .hostRegs, .tamidRegs, .chainRegs] s (execJtagInstruction trstLow ins s) := by
  unfold execJtagInstruction
  repeat' first
    | with_reducible exact Evolves.refl _ _
    | with_reducible assumption
    | decide
    | intro _ _ _
    | intro _ _
    | intro _
    | with_reducible apply Runs.done
    | with_reducible apply Runs.unchanged
    | with_reducible apply Runs.ite
    | with_reducible apply Evolves.ite
    | with_reducible apply State.jtagPrivate_evolves
    | split
    | dsimp only
    | with_reducible apply Evolves.test

theorem execBistTurn_runs (s : State) :
    Runs [.power, .test, .powerRegs, .testRegs] s (execBistTurn s) := by
  unfold execBistTurn
  repeat' first
    | with_reducible exact Evolves.refl _ _
    | decide
    | with_reducible apply Runs.done
    | with_reducible apply Runs.unchanged
    | with_reducible apply Runs.ite
    | with_reducible apply Evolves.ite
    | with_reducible apply State.bistNext_evolves
    | with_reducible apply State.setBistResult_evolves
    | with_reducible apply State.setVote_evolves
    | with_reducible apply Evolves.test

theorem execBistSliceEnd_runs (sl) (result) (coverage) (duration) (cell) (s : State) :
    Runs [.free, .mem, .line, .fuse, .power, .link, .counters, .attic, .rooms, .test, .systemRegs, .powerRegs,
        .testRegs, .lineRegs] s (execBistSliceEnd sl result coverage duration cell s) := by
  unfold execBistSliceEnd
  repeat' first
    | with_reducible exact Evolves.refl _ _
    | decide
    | with_reducible apply Runs.done
    | with_reducible apply State.bistEnd_evolves

theorem execBistEnWrite_runs (on) (s : State) :
    Runs [.power, .test, .powerRegs, .testRegs] s (execBistEnWrite on s) := by
  unfold execBistEnWrite
  repeat' first
    | with_reducible exact Evolves.refl _ _
    | decide
    | with_reducible apply Runs.done
    | with_reducible apply State.bistEnable_evolves

theorem execRcFieldRead_runs (addr) (arriving) (s : State) :
    Runs [.line, .fuse, .link, .counters, .systemRegs, .fuseRegs, .powerRegs, .clockRegs, .memProtRegs, .hkRegs,
        .thermRegs, .counterRegs, .testRegs, .lineRegs, .hostRegs, .tamidRegs, .chainRegs, .cdacRegs, .pantryRegs,
            .keyRegs, .otherRegs] s (execRcFieldRead addr arriving s) := by
  unfold execRcFieldRead
  repeat' first
    | with_reducible exact Evolves.refl _ _
    | with_reducible assumption
    | decide
    | exact fun k => k
    | exact fun _ => Nat.zero_le _
    | with_reducible apply Runs.done
    | with_reducible apply Runs.unchanged
    | with_reducible apply Runs.ite
    | with_reducible apply Evolves.ite
    | with_reducible apply State.readWord_snd
    | refine State.readWord_evolves ?_ ?_ (by assumption)
    | split
    | dsimp only
    | with_reducible apply Evolves.link

theorem execEngFld_runs (r) (e) (s : State) :
    Runs [.free, .mem, .line, .fuse, .power, .link, .counters, .attic, .rooms, .test, .systemRegs, .fuseRegs,
        .powerRegs, .clockRegs, .memProtRegs, .hkRegs, .thermRegs, .counterRegs, .testRegs, .lineRegs, .hostRegs,
            .tamidRegs, .chainRegs, .cdacRegs, .pantryRegs, .keyRegs, .otherRegs] s (execEngFld r e s) := by
  unfold execEngFld
  repeat' first
    | with_reducible exact Evolves.refl _ _
    | with_reducible assumption
    | decide
    | intro _ _ _
    | intro _ _
    | intro _
    | with_reducible apply Runs.done
    | with_reducible apply State.issueWith_evolves
    | with_reducible apply State.fldTry_evolves
    | with_reducible apply State.countEvent_evolves

theorem execEngFst_runs (r) (e) (s : State) :
    Runs [.free, .mem, .line, .host, .lanes, .fuse, .power, .link, .counters, .attic, .clock, .hk, .chain, .tamid,
    .memory, .pantry, .rooms, .thermal, .test, .systemRegs, .fuseRegs, .powerRegs, .clockRegs, .memProtRegs, .hkRegs,
    .thermRegs, .counterRegs, .testRegs, .lineRegs, .hostRegs, .tamidRegs, .chainRegs, .cdacRegs, .pantryRegs,
    .keyRegs, .otherRegs] s (execEngFst r e s) := by
  unfold execEngFst
  repeat' first
    | with_reducible exact Evolves.refl _ _
    | with_reducible assumption
    | decide
    | intro _ _ _
    | intro _ _
    | intro _
    | with_reducible apply Runs.done
    | with_reducible apply Runs.unchanged
    | with_reducible apply Runs.ite
    | with_reducible apply Evolves.ite
    | with_reducible apply State.fstTry_evolves
    | refine State.farFree_evolves ?_ ?_ (by assumption)
    | with_reducible apply State.issueWith_evolves
    | with_reducible apply State.raise_evolves
    | with_reducible apply State.countEvent_evolves
    | split
    | dsimp only
    | with_reducible apply State.farFree_snd

theorem execRegisterWrite_runs (ctl) (addr) (value) (arriving) (s : State) :
    Runs [.line, .host, .lanes, .fuse, .power, .link, .counters, .attic, .clock, .hk, .chain, .tamid, .memory,
    .pantry, .thermal, .test, .systemRegs, .fuseRegs, .powerRegs, .clockRegs, .memProtRegs, .hkRegs, .thermRegs,
    .counterRegs, .testRegs, .lineRegs, .hostRegs, .tamidRegs, .chainRegs, .cdacRegs, .pantryRegs, .keyRegs,
    .otherRegs] s (execRegisterWrite ctl addr value arriving s) := by
  unfold execRegisterWrite
  repeat' first
    | with_reducible exact Evolves.refl _ _
    | with_reducible assumption
    | decide
    | exact Nat.le_of_ble_eq_true rfl
    | exact Field.ix_lt _ _
    | exact Field.lt _
    | with_reducible apply regPart_key
    | intro _ _ _
    | intro _ _
    | intro _
    | with_reducible apply Runs.done
    | with_reducible apply Runs.unchanged
    | with_reducible apply Runs.ite
    | with_reducible apply Evolves.ite
    | with_reducible apply State.access_evolves
    | with_reducible apply State.writeWord_evolves
    | with_reducible apply State.raise_evolves
    | with_reducible apply State.hallAccess_evolves
    | with_reducible apply State.bump_evolves
    | split
    | dsimp only

theorem execAtticRecordWrite_runs (eraseOk) (verify1) (verify2) (s : State) :
    Runs [.free, .flash, .fuse, .link, .counters, .attic, .systemRegs] s (execAtticRecordWrite eraseOk verify1 verify2
    s) := by
  unfold execAtticRecordWrite
  repeat' first
    | with_reducible exact Evolves.refl _ _
    | with_reducible assumption
    | decide
    | intro _ _ _
    | intro _ _
    | intro _
    | with_reducible apply Runs.done
    | with_reducible apply Runs.unchanged
    | with_reducible apply Runs.ite
    | with_reducible apply Evolves.ite
    | with_reducible apply State.recordWritten_evolves
    | with_reducible apply State.recordFailed_evolves
    | with_reducible apply State.sectorSkip_evolves
    | with_reducible apply State.flashTorn_evolves
    | with_reducible apply State.flashErase_evolves
    | with_reducible apply Evolves.when
    | with_reducible apply State.setFlashBytes_evolves
    | split
    | dsimp only

theorem execAtticPeriodic_runs (s : State) :
    Runs [.free, .fuse, .link, .counters, .attic, .systemRegs] s (execAtticPeriodic s) := by
  unfold execAtticPeriodic
  repeat' first
    | with_reducible exact Evolves.refl _ _
    | with_reducible assumption
    | decide
    | intro _ _ _
    | intro _ _
    | intro _
    | with_reducible apply Runs.done
    | with_reducible apply Runs.unchanged
    | with_reducible apply Runs.ite
    | with_reducible apply Evolves.ite
    | with_reducible apply State.periodOver_evolves
    | refine State.pdMeans_evolves ?_ ?_ (by assumption)
    | refine State.periodMean_evolves ?_ ?_ (by assumption)
    | with_reducible apply State.laserPeriod_evolves
    | with_reducible apply State.pushRecord_evolves
    | with_reducible apply Evolves.when
    | with_reducible apply Evolves.each
    | split
    | dsimp only
    | with_reducible apply State.pdMeans_snd
    | with_reducible apply State.periodMean_snd
    | with_reducible apply Evolves.attic

theorem execAtticStandingWrite_runs (ok) (s : State) :
    Runs [.free, .flash, .attic] s (execAtticStandingWrite ok s) := by
  unfold execAtticStandingWrite
  repeat' first
    | with_reducible exact Evolves.refl _ _
    | decide
    | with_reducible apply Runs.done
    | with_reducible apply Runs.unchanged
    | with_reducible apply Runs.ite
    | with_reducible apply Evolves.ite
    | with_reducible apply State.flashErase_evolves
    | with_reducible apply State.setFlashBytes_evolves
    | with_reducible apply State.flashTorn_evolves
    | with_reducible apply Evolves.attic

theorem execResetNFall_runs (s : State) :
    Runs [.free, .mem, .flash, .line, .host, .lanes, .fuse, .power, .link, .counters, .attic, .clock, .boot, .hk,
        .cdac, .chain, .tamid, .carriers, .memory, .pantry, .rooms, .thermal, .test, .flashJob, .limits, .systemRegs,
            .fuseRegs, .powerRegs, .clockRegs, .memProtRegs, .hkRegs, .thermRegs, .counterRegs, .testRegs, .lineRegs,
                .hostRegs, .tamidRegs, .chainRegs, .cdacRegs, .pantryRegs, .keyRegs, .otherRegs] s (execResetNFall s)
                    := by
  unfold execResetNFall
  repeat' first
    | with_reducible exact Evolves.refl _ _
    | decide
    | with_reducible apply Runs.done
    | with_reducible apply State.holdReset_evolves
    | with_reducible apply Evolves.boot

theorem execResetNRise_runs (straps) (s : State) :
    Runs [.lanes, .fuse, .boot, .tamid, .pantry, .thermal, .systemRegs, .thermRegs, .lineRegs, .tamidRegs,
    .pantryRegs] s (execResetNRise straps s) := by
  unfold execResetNRise
  repeat' first
    | with_reducible exact Evolves.refl _ _
    | decide
    | with_reducible apply Runs.done
    | with_reducible apply Runs.unchanged
    | with_reducible apply Runs.ite
    | with_reducible apply Evolves.ite
    | with_reducible apply State.bootBegin_evolves
    | with_reducible apply Evolves.boot

theorem execSupplyRelease_runs (straps) (xtal) (s : State) :
    Runs [.lanes, .fuse, .boot, .tamid, .pantry, .thermal, .systemRegs, .clockRegs, .thermRegs, .lineRegs, .tamidRegs,
    .pantryRegs] s (execSupplyRelease straps
        xtal s) := by
  unfold execSupplyRelease
  repeat' first
    | with_reducible exact Evolves.refl _ _
    | decide
    | exact Nat.le_of_ble_eq_true rfl
    | exact Field.ix_lt _ _
    | with_reducible apply regPart_clock
    | with_reducible apply regPart_therm
    | with_reducible apply regPart_line
    | with_reducible apply regPart_system
    | with_reducible apply Runs.done
    | with_reducible apply Runs.unchanged
    | with_reducible apply Runs.ite
    | with_reducible apply Evolves.ite
    | with_reducible apply State.refreshCalSrc_evolves
    | with_reducible apply State.setFlag_evolves
    | with_reducible apply State.bootBegin_evolves
    | with_reducible apply Evolves.boot

theorem execRailLoss_runs (rails) (s : State) :
    Runs [.free, .mem, .flash, .line, .host, .lanes, .fuse, .power, .link, .counters, .attic, .clock, .boot, .hk,
    .cdac, .chain, .tamid, .carriers, .memory, .pantry, .rooms, .thermal, .test, .flashJob, .limits, .systemRegs,
    .fuseRegs, .powerRegs, .clockRegs, .memProtRegs, .hkRegs, .thermRegs, .counterRegs, .testRegs, .lineRegs,
    .hostRegs, .tamidRegs, .chainRegs, .cdacRegs, .pantryRegs, .keyRegs, .otherRegs] s (execRailLoss rails s) := by
  unfold execRailLoss
  repeat' first
    | with_reducible exact Evolves.refl _ _
    | with_reducible assumption
    | decide
    | intro _ _ _
    | intro _ _
    | intro _
    | with_reducible apply Runs.done
    | with_reducible apply Runs.unchanged
    | with_reducible apply Runs.ite
    | with_reducible apply Evolves.ite
    | with_reducible apply State.holdReset_evolves
    | with_reducible apply State.flashDrain_evolves
    | split
    | dsimp only
    | with_reducible apply Evolves.boot

theorem execBrownout_runs (s : State) :
    Runs [.free, .mem, .flash, .line, .host, .lanes, .fuse, .power, .link, .counters, .attic, .clock, .boot, .hk,
        .cdac, .chain, .tamid, .carriers, .memory, .pantry, .rooms, .thermal, .test, .flashJob, .limits, .systemRegs,
            .fuseRegs, .powerRegs, .clockRegs, .memProtRegs, .hkRegs, .thermRegs, .counterRegs, .testRegs, .lineRegs,
                .hostRegs, .tamidRegs, .chainRegs, .cdacRegs, .pantryRegs, .keyRegs, .otherRegs] s (execBrownout s) :=
                    by
  unfold execBrownout
  repeat' first
    | with_reducible exact Evolves.refl _ _
    | decide
    | with_reducible apply Runs.done
    | with_reducible apply State.brownout_evolves

theorem execResetAllStart_runs (s : State) :
    Runs [.free, .mem, .flash, .line, .host, .lanes, .fuse, .power, .link, .counters, .attic, .clock, .boot, .hk,
    .cdac, .chain, .tamid, .carriers, .memory, .pantry, .rooms, .thermal, .test, .flashJob, .limits, .systemRegs,
    .fuseRegs, .powerRegs, .clockRegs, .memProtRegs, .hkRegs, .thermRegs, .counterRegs, .testRegs, .lineRegs,
    .hostRegs, .tamidRegs, .chainRegs, .cdacRegs, .pantryRegs, .keyRegs, .otherRegs] s (execResetAllStart s) := by
  unfold execResetAllStart
  repeat' first
    | with_reducible exact Evolves.refl _ _
    | with_reducible assumption
    | decide
    | intro _ _ _
    | intro _ _
    | intro _
    | with_reducible apply Runs.done
    | with_reducible apply Runs.unchanged
    | with_reducible apply Runs.ite
    | with_reducible apply Evolves.ite
    | with_reducible apply State.resetAll_evolves
    | split
    | dsimp only

theorem execVidEvaluate_runs (target) (s : State) :
    Runs [.systemRegs] s (execVidEvaluate target s) := by
  unfold execVidEvaluate
  repeat' first
    | with_reducible exact Evolves.refl _ _
    | decide
    | exact Nat.le_of_ble_eq_true rfl
    | exact Field.ix_lt _ _
    | with_reducible apply regPart_system
    | with_reducible apply Runs.done
    | with_reducible apply Runs.unchanged
    | with_reducible apply Runs.ite
    | with_reducible apply Evolves.ite
    | with_reducible apply State.setFld_evolves

theorem execVidStep_runs (s : State) :
    Runs [.boot, .systemRegs] s (execVidStep s) := by
  unfold execVidStep
  repeat' first
    | with_reducible exact Evolves.refl _ _
    | with_reducible assumption
    | decide
    | exact Nat.le_of_ble_eq_true rfl
    | exact Field.ix_lt _ _
    | exact Field.lt _
    | with_reducible apply regPart_system
    | intro _ _ _
    | intro _ _
    | intro _
    | with_reducible apply Runs.done
    | with_reducible apply Runs.unchanged
    | with_reducible apply Runs.ite
    | with_reducible apply Evolves.ite
    | with_reducible apply State.setFld_evolves
    | split
    | dsimp only
    | with_reducible apply Evolves.boot

theorem execWritePacket_runs (bytes) (s : State) :
    Runs [.line, .host, .lanes, .fuse, .power, .link, .counters, .attic, .boot, .tamid, .systemRegs, .powerRegs,
    .memProtRegs, .lineRegs, .hostRegs, .tamidRegs, .keyRegs] s (execWritePacket bytes s) := by
  unfold execWritePacket
  repeat' first
    | with_reducible exact Evolves.refl _ _
    | with_reducible assumption
    | decide
    | intro _ _ _
    | intro _ _
    | intro _
    | with_reducible apply Runs.done
    | with_reducible apply Runs.unchanged
    | with_reducible apply Runs.ite
    | with_reducible apply Evolves.ite
    | with_reducible apply State.receive_evolves
    | split
    | dsimp only

theorem execWritePacketA_runs (bytes) (s : State) :
    Runs [.line, .host, .lanes, .fuse, .power, .link, .counters, .attic, .boot, .tamid, .systemRegs, .powerRegs,
    .memProtRegs, .lineRegs, .hostRegs, .tamidRegs, .keyRegs] s (execWritePacketA bytes s) := by
  unfold execWritePacketA
  repeat' first
    | with_reducible exact Evolves.refl _ _
    | with_reducible assumption
    | decide
    | intro _ _ _
    | intro _ _
    | intro _
    | with_reducible apply Runs.done
    | with_reducible apply Runs.unchanged
    | with_reducible apply Runs.ite
    | with_reducible apply Evolves.ite
    | with_reducible apply State.receive_evolves
    | split
    | dsimp only

theorem execWritePacketB_runs (bytes) (s : State) :
    Runs [.line, .host, .lanes, .fuse, .power, .link, .counters, .attic, .boot, .tamid, .systemRegs, .powerRegs,
    .memProtRegs, .lineRegs, .hostRegs, .tamidRegs, .keyRegs] s (execWritePacketB bytes s) := by
  unfold execWritePacketB
  repeat' first
    | with_reducible exact Evolves.refl _ _
    | with_reducible assumption
    | decide
    | intro _ _ _
    | intro _ _
    | intro _
    | with_reducible apply Runs.done
    | with_reducible apply Runs.unchanged
    | with_reducible apply Runs.ite
    | with_reducible apply Evolves.ite
    | with_reducible apply State.receive_evolves
    | split
    | dsimp only

theorem execUliraCmd_runs (i) (s : State) :
    Runs [.link, .tamid, .systemRegs, .tamidRegs, .keyRegs] s (execUliraCmd i s) := by
  unfold execUliraCmd
  repeat' first
    | with_reducible exact Evolves.refl _ _
    | decide
    | exact fun k => k
    | exact fun _ => Nat.zero_le _
    | with_reducible apply Runs.done
    | with_reducible apply Runs.unchanged
    | with_reducible apply Runs.ite
    | with_reducible apply Evolves.ite
    | with_reducible apply State.modTamid_evolves
    | with_reducible apply State.takePacket_evolves
    | split

theorem execReadReply_runs (complete) (s : State) :
    Runs [.line, .host, .lanes, .fuse, .link, .counters, .attic, .boot, .tamid, .systemRegs, .powerRegs, .memProtRegs,
    .lineRegs, .hostRegs, .tamidRegs, .keyRegs] s (execReadReply complete s) := by
  unfold execReadReply
  repeat' first
    | with_reducible exact Evolves.refl _ _
    | with_reducible assumption
    | decide
    | exact Nat.le_of_ble_eq_true rfl
    | exact Field.ix_lt _ _
    | exact Field.lt _
    | with_reducible apply regPart_system
    | exact fun k => k
    | exact fun _ => Nat.zero_le _
    | exact fun k => ⟨k.1, (List.length_drop ▸ Nat.sub_le _ _ : (List.drop 1 _).length ≤ _).trans k.2⟩
    | intro _ _ _
    | intro _ _
    | intro _
    | with_reducible apply Runs.done
    | with_reducible apply Runs.unchanged
    | with_reducible apply Runs.ite
    | with_reducible apply Evolves.ite
    | with_reducible apply State.refillRounds_evolves
    | with_reducible apply State.kick_evolves
    | with_reducible apply State.dozeExit_evolves
    | with_reducible apply State.bumpMod_evolves
    | split
    | dsimp only
    | with_reducible apply Evolves.link

theorem execWriteFront_runs (index) (value) (arriving) (s : State) :
    Runs [.link, .systemRegs, .fuseRegs, .powerRegs, .clockRegs, .memProtRegs, .hkRegs, .thermRegs, .counterRegs,
    .testRegs, .lineRegs, .hostRegs, .tamidRegs, .chainRegs, .cdacRegs, .pantryRegs, .keyRegs, .otherRegs] s
    (execWriteFront index value arriving s) := by
  unfold execWriteFront
  repeat' first
    | with_reducible exact Evolves.refl _ _
    | with_reducible assumption
    | decide
    | intro _ _ _
    | intro _ _
    | intro _
    | with_reducible apply Runs.done
    | with_reducible apply Runs.unchanged
    | with_reducible apply Runs.ite
    | with_reducible apply Evolves.ite
    | with_reducible apply State.systemWrite_evolves
    | split
    | dsimp only

theorem execReadFront_runs (index) (count) (s : State) :
    Runs [.link] s (execReadFront index count s) := by
  unfold execReadFront
  repeat' first
    | with_reducible exact Evolves.refl _ _
    | with_reducible assumption
    | decide
    | exact fun k => k
    | exact fun _ => Nat.zero_le _
    | intro _ _ _
    | intro _ _
    | intro _
    | with_reducible apply Runs.done
    | with_reducible apply Runs.unchanged
    | with_reducible apply Runs.ite
    | with_reducible apply Evolves.ite
    | split
    | dsimp only
    | with_reducible apply Evolves.link

theorem execI3cCcc_runs (ccc) (s : State) :
    Runs [.free, .line, .host, .lanes, .fuse, .link, .counters, .attic, .boot, .tamid, .systemRegs, .powerRegs,
    .memProtRegs, .lineRegs, .hostRegs, .tamidRegs] s (execI3cCcc ccc s) := by
  unfold execI3cCcc
  repeat' first
    | with_reducible exact Evolves.refl _ _
    | with_reducible assumption
    | decide
    | exact fun k => k
    | exact fun _ => Nat.zero_le _
    | intro _ _ _
    | intro _ _
    | intro _
    | with_reducible apply Runs.done
    | with_reducible apply Runs.unchanged
    | with_reducible apply Runs.ite
    | with_reducible apply Evolves.ite
    | refine State.freshMany_evolves ?_ ?_ (by assumption)
    | with_reducible apply State.dozeExit_evolves
    | split
    | dsimp only
    | with_reducible apply State.freshMany_snd
    | with_reducible apply Evolves.link

theorem execBootStepDone_runs (ev) (s : State) :
    Runs [.free, .mem, .line, .host, .lanes, .fuse, .power, .link, .counters, .attic, .clock, .boot, .hk, .chain,
        .tamid, .memory, .pantry, .rooms, .thermal, .test, .systemRegs, .fuseRegs, .powerRegs, .clockRegs,
            .memProtRegs, .hkRegs, .thermRegs, .counterRegs, .testRegs, .lineRegs, .hostRegs, .tamidRegs, .chainRegs,
                .cdacRegs, .pantryRegs, .keyRegs, .otherRegs] s (execBootStepDone ev s) := by
  unfold execBootStepDone
  repeat' first
    | with_reducible exact Evolves.refl _ _
    | decide
    | with_reducible apply Runs.done
    | with_reducible apply Runs.unchanged
    | with_reducible apply Runs.ite
    | with_reducible apply Evolves.ite
    | with_reducible apply State.bootStep_evolves

theorem execTrafficReadySet_runs (s : State) :
    Runs [.lanes, .fuse, .link, .boot, .tamid, .pantry, .thermal, .systemRegs, .thermRegs, .lineRegs, .tamidRegs,
    .pantryRegs] s (execTrafficReadySet s) := by
  unfold execTrafficReadySet
  repeat' first
    | with_reducible exact Evolves.refl _ _
    | decide
    | exact Nat.le_of_ble_eq_true rfl
    | exact Field.ix_lt _ _
    | with_reducible apply regPart_system
    | with_reducible apply regPart_line
    | with_reducible apply regPart_therm
    | with_reducible apply Runs.done
    | with_reducible apply Runs.unchanged
    | with_reducible apply Runs.ite
    | with_reducible apply Evolves.ite
    | with_reducible apply State.attn_evolves
    | with_reducible apply State.setFlag_evolves
    | with_reducible apply State.refreshPeriod_evolves
    | with_reducible apply Evolves.thermal
    | with_reducible apply Evolves.boot
    | with_reducible apply Evolves.bootThermal

theorem execCtrlWatchdogRestart_runs (ctl) (s : State) :
    Runs [.boot] s (execCtrlWatchdogRestart ctl s) := by
  unfold execCtrlWatchdogRestart
  repeat' first
    | with_reducible exact Evolves.refl _ _
    | with_reducible assumption
    | decide
    | intro _ _ _
    | intro _ _
    | intro _
    | with_reducible apply Runs.done
    | with_reducible apply Runs.unchanged
    | with_reducible apply Runs.ite
    | with_reducible apply Evolves.ite
    | with_reducible apply State.setWd_evolves
    | split
    | dsimp only

theorem execHolderWatchdogExpiry_runs (s : State) :
    Runs [.fuse, .link, .counters, .attic, .tamid, .systemRegs, .tamidRegs, .keyRegs] s (execHolderWatchdogExpiry s)
    := by
  unfold execHolderWatchdogExpiry
  repeat' first
    | with_reducible exact Evolves.refl _ _
    | with_reducible assumption
    | decide
    | intro _ _ _
    | intro _ _
    | intro _
    | with_reducible apply Runs.done
    | with_reducible apply Runs.unchanged
    | with_reducible apply Runs.ite
    | with_reducible apply Evolves.ite
    | with_reducible apply State.takeover_evolves
    | split
    | dsimp only

theorem execCtrlRejoin_runs (ctl) (selfTestOk) (s : State) :
    Runs [.link, .boot, .tamid, .systemRegs, .tamidRegs, .keyRegs] s (execCtrlRejoin ctl selfTestOk s) := by
  unfold execCtrlRejoin
  repeat' first
    | with_reducible exact Evolves.refl _ _
    | with_reducible assumption
    | decide
    | intro _ _ _
    | intro _ _
    | intro _
    | with_reducible apply Runs.done
    | with_reducible apply Runs.unchanged
    | with_reducible apply Runs.ite
    | with_reducible apply Evolves.ite
    | with_reducible apply State.rejoin_evolves
    | split
    | dsimp only

theorem execFollowerWatchdogExpiry_runs (s : State) :
    Runs [.fuse, .link, .counters, .attic, .systemRegs, .keyRegs] s (execFollowerWatchdogExpiry s) := by
  unfold execFollowerWatchdogExpiry
  repeat' first
    | with_reducible exact Evolves.refl _ _
    | with_reducible assumption
    | decide
    | exact Nat.le_of_ble_eq_true rfl
    | exact Field.ix_lt _ _
    | exact Field.lt _
    | with_reducible apply regPart_key
    | intro _ _ _
    | intro _ _
    | intro _
    | with_reducible apply Runs.done
    | with_reducible apply Runs.unchanged
    | with_reducible apply Runs.ite
    | with_reducible apply Evolves.ite
    | with_reducible apply State.setAlive_evolves
    | with_reducible apply State.raise_evolves
    | with_reducible apply State.setFlag_evolves
    | split
    | dsimp only

theorem execNoController_runs (s : State) :
    Runs [.fuse, .link, .counters, .attic, .boot, .systemRegs, .keyRegs] s (execNoController s) := by
  unfold execNoController
  repeat' first
    | with_reducible exact Evolves.refl _ _
    | with_reducible assumption
    | decide
    | intro _ _ _
    | intro _ _
    | intro _
    | with_reducible apply Runs.done
    | with_reducible apply Runs.unchanged
    | with_reducible apply Runs.ite
    | with_reducible apply Evolves.ite
    | with_reducible apply State.setAlive_evolves
    | with_reducible apply State.raise_evolves
    | split
    | dsimp only
    | with_reducible apply Evolves.boot

theorem execDualClaim_runs (ctl) (s : State) :
    Runs [.fuse, .link, .counters, .attic, .systemRegs, .keyRegs] s (execDualClaim ctl s) := by
  unfold execDualClaim
  repeat' first
    | with_reducible exact Evolves.refl _ _
    | decide
    | exact Nat.le_of_ble_eq_true rfl
    | exact Field.ix_lt _ _
    | with_reducible apply regPart_key
    | with_reducible apply regPart_system
    | with_reducible apply Runs.done
    | with_reducible apply Runs.unchanged
    | with_reducible apply Runs.ite
    | with_reducible apply Evolves.ite
    | with_reducible apply State.raise_evolves
    | with_reducible apply State.bump_evolves

theorem execKeyUpset_runs (bit) (resolvable) (s : State) :
    Runs [.fuse, .link, .counters, .attic, .systemRegs, .keyRegs] s (execKeyUpset bit resolvable s) := by
  unfold execKeyUpset
  repeat' first
    | with_reducible exact Evolves.refl _ _
    | decide
    | exact Nat.le_of_ble_eq_true rfl
    | exact Field.ix_lt _ _
    | with_reducible apply regPart_key
    | with_reducible apply regPart_system
    | with_reducible apply Runs.done
    | with_reducible apply Runs.unchanged
    | with_reducible apply Runs.ite
    | with_reducible apply Evolves.ite
    | with_reducible apply State.raise_evolves
    | with_reducible apply State.bump_evolves

theorem execPing_runs (o) (data) (s : State) :
    Runs [.line, .host, .lanes, .fuse, .power, .link, .counters, .attic, .boot, .tamid, .systemRegs, .powerRegs,
    .memProtRegs, .lineRegs, .hostRegs, .tamidRegs, .keyRegs] s (execPing o data s) := by
  unfold execPing
  repeat' first
    | with_reducible exact Evolves.refl _ _
    | with_reducible assumption
    | decide
    | intro _ _ _
    | intro _ _
    | intro _
    | with_reducible apply command_runs
    | with_reducible apply State.reply_evolves

theorem execGetInfo_runs (o) (s : State) :
    Runs [.free, .line, .host, .lanes, .fuse, .power, .link, .counters, .attic, .boot, .tamid, .systemRegs,
    .powerRegs, .memProtRegs, .lineRegs, .hostRegs, .tamidRegs, .keyRegs] s (execGetInfo o s) := by
  unfold execGetInfo
  repeat' first
    | with_reducible exact Evolves.refl _ _
    | with_reducible assumption
    | decide
    | intro _ _ _
    | intro _ _
    | intro _
    | with_reducible apply command_runs
    | with_reducible apply State.reply_evolves
    | with_reducible apply State.fresh_snd
    | refine State.fresh_evolves ?_ ?_ (by assumption)
    | split

theorem execGetState_runs (o) (s : State) :
    Runs [.line, .host, .lanes, .fuse, .power, .link, .counters, .attic, .boot, .tamid, .systemRegs, .powerRegs,
    .memProtRegs, .lineRegs, .hostRegs, .tamidRegs, .keyRegs] s (execGetState o s) := by
  unfold execGetState
  repeat' first
    | with_reducible exact Evolves.refl _ _
    | with_reducible assumption
    | decide
    | intro _ _ _
    | intro _ _
    | intro _
    | with_reducible apply command_runs
    | with_reducible apply State.reply_evolves

theorem execSetProfile_runs (o) (profile) (s : State) :
    Runs [.line, .host, .lanes, .fuse, .power, .link, .counters, .attic, .boot, .tamid, .systemRegs, .powerRegs,
    .memProtRegs, .lineRegs, .hostRegs, .tamidRegs, .keyRegs] s (execSetProfile o profile s) := by
  unfold execSetProfile
  repeat' first
    | with_reducible exact Evolves.refl _ _
    | with_reducible assumption
    | decide
    | intro _ _ _
    | intro _ _
    | intro _
    | with_reducible apply command_runs
    | with_reducible apply State.profileCommand_evolves

theorem execSetLaneMode_runs (o) (mode) (grouping) (s : State) :
    Runs [.line, .host, .lanes, .fuse, .power, .link, .counters, .attic, .boot, .tamid, .systemRegs, .powerRegs,
    .memProtRegs, .lineRegs, .hostRegs, .tamidRegs, .keyRegs] s (execSetLaneMode o mode grouping s) := by
  unfold execSetLaneMode
  repeat' first
    | with_reducible exact Evolves.refl _ _
    | with_reducible assumption
    | decide
    | intro _ _ _
    | intro _ _
    | intro _
    | with_reducible apply command_runs
    | with_reducible apply State.laneModeCommand_evolves

theorem execReadReg_runs (o) (addr) (words) (s : State) :
    Runs [.line, .host, .lanes, .fuse, .power, .link, .counters, .attic, .boot, .tamid, .systemRegs, .fuseRegs,
    .powerRegs, .clockRegs, .memProtRegs, .hkRegs, .thermRegs, .counterRegs, .testRegs, .lineRegs, .hostRegs,
    .tamidRegs, .chainRegs, .cdacRegs, .pantryRegs, .keyRegs, .otherRegs] s (execReadReg o addr words s) := by
  unfold execReadReg
  repeat' first
    | with_reducible exact Evolves.refl _ _
    | with_reducible assumption
    | decide
    | intro _ _ _
    | intro _ _
    | intro _
    | with_reducible apply command_runs
    | with_reducible apply State.readRegCommand_evolves

theorem execWriteReg_runs (o) (pairs) (s : State) :
    Runs [.line, .host, .lanes, .fuse, .power, .link, .counters, .attic, .clock, .boot, .hk, .chain, .tamid, .memory,
    .pantry, .thermal, .test, .systemRegs, .fuseRegs, .powerRegs, .clockRegs, .memProtRegs, .hkRegs, .thermRegs,
    .counterRegs, .testRegs, .lineRegs, .hostRegs, .tamidRegs, .chainRegs, .cdacRegs, .pantryRegs, .keyRegs,
    .otherRegs] s (execWriteReg o pairs s) := by
  unfold execWriteReg
  repeat' first
    | with_reducible exact Evolves.refl _ _
    | with_reducible assumption
    | decide
    | intro _ _ _
    | intro _ _
    | intro _
    | with_reducible apply command_runs
    | with_reducible apply State.writeRegCommand_evolves

theorem execResetAll_runs (o) (key) (s : State) :
    Runs [.line, .host, .lanes, .fuse, .power, .link, .counters, .attic, .boot, .tamid, .systemRegs, .powerRegs,
    .memProtRegs, .lineRegs, .hostRegs, .tamidRegs, .keyRegs] s (execResetAll o key s) := by
  unfold execResetAll
  repeat' first
    | with_reducible exact Evolves.refl _ _
    | with_reducible assumption
    | decide
    | intro _ _ _
    | intro _ _
    | intro _
    | with_reducible apply command_runs
    | with_reducible apply State.resetAllCommand_evolves

theorem execCtrlHandover_runs (o) (s : State) :
    Runs [.line, .host, .lanes, .fuse, .power, .link, .counters, .attic, .boot, .tamid, .systemRegs, .powerRegs,
    .memProtRegs, .lineRegs, .hostRegs, .tamidRegs, .keyRegs] s (execCtrlHandover o s) := by
  unfold execCtrlHandover
  repeat' first
    | with_reducible exact Evolves.refl _ _
    | with_reducible assumption
    | decide
    | intro _ _ _
    | intro _ _
    | intro _
    | with_reducible apply command_runs
    | with_reducible apply Runs.ite
    | with_reducible apply Evolves.ite
    | with_reducible apply State.accept_evolves
    | with_reducible apply State.reply_evolves

theorem execImageLoad_runs (o) (offset) (data) (s : State) :
    Runs [.mem, .line, .host, .lanes, .fuse, .power, .link, .counters, .attic, .boot, .tamid, .systemRegs, .powerRegs,
    .memProtRegs, .lineRegs, .hostRegs, .tamidRegs, .keyRegs] s (execImageLoad o offset data s) := by
  unfold execImageLoad
  repeat' first
    | with_reducible exact Evolves.refl _ _
    | with_reducible assumption
    | decide
    | intro _ _ _
    | intro _ _
    | intro _
    | with_reducible apply command_runs
    | with_reducible apply State.imageLoad_evolves

theorem execImageCommit_runs (o) (length) (s : State) :
    Runs [.line, .host, .lanes, .fuse, .power, .link, .counters, .attic, .boot, .tamid, .systemRegs, .powerRegs,
    .memProtRegs, .lineRegs, .hostRegs, .tamidRegs, .keyRegs] s (execImageCommit o length s) := by
  unfold execImageCommit
  repeat' first
    | with_reducible exact Evolves.refl _ _
    | with_reducible assumption
    | decide
    | intro _ _ _
    | intro _ _
    | intro _
    | with_reducible apply command_runs
    | with_reducible apply State.imageCommit_evolves

theorem execCommandComplete_runs (seq) (opcode) (s : State) :
    Runs [.free, .flash, .fuse, .link, .counters, .attic, .boot, .tamid, .flashJob, .systemRegs, .tamidRegs, .keyRegs]
    s (execCommandComplete seq opcode s) := by
  unfold execCommandComplete
  repeat' first
    | with_reducible exact Evolves.refl _ _
    | with_reducible assumption
    | decide
    | intro _ _ _
    | intro _ _
    | intro _
    | with_reducible apply Runs.done
    | with_reducible apply Runs.unchanged
    | with_reducible apply Runs.ite
    | with_reducible apply Evolves.ite
    | with_reducible apply State.completion_evolves
    | with_reducible apply State.kick_evolves
    | split
    | dsimp only

theorem execRoomStatus_runs (o) (s : State) :
    Runs [.line, .host, .lanes, .fuse, .power, .link, .counters, .attic, .boot, .tamid, .systemRegs, .powerRegs,
    .memProtRegs, .lineRegs, .hostRegs, .tamidRegs, .keyRegs] s (execRoomStatus o s) := by
  unfold execRoomStatus
  repeat' first
    | with_reducible exact Evolves.refl _ _
    | with_reducible assumption
    | decide
    | intro _ _ _
    | intro _ _
    | intro _
    | with_reducible apply command_runs
    | with_reducible apply State.reply_evolves

theorem execEngineMap_runs (o) (room) (s : State) :
    Runs [.line, .host, .lanes, .fuse, .power, .link, .counters, .attic, .boot, .tamid, .systemRegs, .powerRegs,
    .memProtRegs, .lineRegs, .hostRegs, .tamidRegs, .keyRegs] s (execEngineMap o room s) := by
  unfold execEngineMap
  repeat' first
    | with_reducible exact Evolves.refl _ _
    | with_reducible assumption
    | decide
    | intro _ _ _
    | intro _ _
    | intro _
    | with_reducible apply command_runs
    | with_reducible apply Runs.ite
    | with_reducible apply Evolves.ite
    | with_reducible apply State.reply_evolves

theorem execGuestLoad_runs (o) (engine) (b1) (offset) (data) (s : State) :
    Runs [.mem, .line, .host, .lanes, .fuse, .power, .link, .counters, .attic, .boot, .tamid, .rooms, .systemRegs,
    .powerRegs, .memProtRegs, .lineRegs, .hostRegs, .tamidRegs, .keyRegs] s (execGuestLoad o engine b1 offset data s) := by
  unfold execGuestLoad
  repeat' first
    | with_reducible exact Evolves.refl _ _
    | with_reducible assumption
    | decide
    | intro _ _ _
    | intro _ _
    | intro _
    | with_reducible apply command_runs
    | with_reducible apply State.guestLoadCommand_evolves

theorem execGuestStart_runs (o) (engine) (s : State) :
    Runs [.mem, .line, .host, .lanes, .fuse, .power, .link, .counters, .attic, .boot, .tamid, .rooms, .test,
    .systemRegs, .powerRegs, .memProtRegs, .testRegs, .lineRegs, .hostRegs, .tamidRegs, .keyRegs] s (execGuestStart o
    engine s)
            := by
  unfold execGuestStart
  repeat' first
    | with_reducible exact Evolves.refl _ _
    | with_reducible assumption
    | decide
    | intro _ _ _
    | intro _ _
    | intro _
    | with_reducible apply command_runs
    | with_reducible apply State.guestStartCommand_evolves

theorem execGuestStop_runs (o) (engine) (s : State) :
    Runs [.line, .host, .lanes, .fuse, .power, .link, .counters, .attic, .boot, .tamid, .rooms, .systemRegs,
    .powerRegs, .memProtRegs, .lineRegs, .hostRegs, .tamidRegs, .keyRegs] s (execGuestStop o engine s) := by
  unfold execGuestStop
  repeat' first
    | with_reducible exact Evolves.refl _ _
    | with_reducible assumption
    | decide
    | intro _ _ _
    | intro _ _
    | intro _
    | with_reducible apply command_runs
    | with_reducible apply State.guestStopCommand_evolves

theorem execGuestStatus_runs (o) (s : State) :
    Runs [.line, .host, .lanes, .fuse, .power, .link, .counters, .attic, .boot, .tamid, .systemRegs, .powerRegs,
    .memProtRegs, .lineRegs, .hostRegs, .tamidRegs, .keyRegs] s (execGuestStatus o s) := by
  unfold execGuestStatus
  repeat' first
    | with_reducible exact Evolves.refl _ _
    | with_reducible assumption
    | decide
    | intro _ _ _
    | intro _ _
    | intro _
    | with_reducible apply command_runs
    | with_reducible apply State.reply_evolves

theorem execGuestMailbox_runs (o) (engine) (count) (words) (s : State) :
    Runs [.line, .host, .lanes, .fuse, .power, .link, .counters, .attic, .boot, .tamid, .rooms, .systemRegs,
    .powerRegs, .memProtRegs, .lineRegs, .hostRegs, .tamidRegs, .keyRegs] s (execGuestMailbox o engine count words s) := by
  unfold execGuestMailbox
  repeat' first
    | with_reducible exact Evolves.refl _ _
    | with_reducible assumption
    | decide
    | intro _ _ _
    | intro _ _
    | intro _
    | with_reducible apply command_runs
    | with_reducible apply State.guestMail_evolves

theorem execCounterConfig_runs (o) (k) (event) (threshold) (s : State) :
    Runs [.line, .host, .lanes, .fuse, .power, .link, .counters, .attic, .boot, .tamid, .systemRegs, .powerRegs,
    .memProtRegs, .lineRegs, .hostRegs, .tamidRegs, .keyRegs] s (execCounterConfig o k event threshold s) := by
  unfold execCounterConfig
  repeat' first
    | with_reducible exact Evolves.refl _ _
    | with_reducible assumption
    | decide
    | intro _ _ _
    | intro _ _
    | intro _
    | with_reducible apply command_runs
    | with_reducible apply State.counterCommand_evolves

theorem execCounterRead_runs (o) (first) (count) (s : State) :
    Runs [.line, .host, .lanes, .fuse, .power, .link, .counters, .attic, .boot, .tamid, .systemRegs, .powerRegs,
    .memProtRegs, .counterRegs, .lineRegs, .hostRegs, .tamidRegs, .keyRegs] s (execCounterRead o first count s) := by
  unfold execCounterRead
  repeat' first
    | with_reducible exact Evolves.refl _ _
    | with_reducible assumption
    | decide
    | intro _ _ _
    | intro _ _
    | intro _
    | with_reducible apply command_runs
    | with_reducible apply State.counterReadCommand_evolves

theorem execCounterDump_runs (o) (period) (s : State) :
    Runs [.line, .host, .lanes, .fuse, .power, .link, .counters, .attic, .boot, .tamid, .limits, .systemRegs,
    .powerRegs, .memProtRegs, .counterRegs, .lineRegs, .hostRegs, .tamidRegs, .keyRegs] s (execCounterDump o period s) := by
  unfold execCounterDump
  repeat' first
    | with_reducible exact Evolves.refl _ _
    | with_reducible assumption
    | decide
    | intro _ _ _
    | intro _ _
    | intro _
    | with_reducible apply command_runs
    | with_reducible apply Runs.ite
    | with_reducible apply Evolves.ite
    | with_reducible apply State.reply_evolves
    | with_reducible apply State.dumpPeriod_evolves

theorem execCounterGrant_runs (o) (g) (s : State) :
    Runs [.line, .host, .lanes, .fuse, .power, .link, .counters, .attic, .boot, .tamid, .systemRegs, .powerRegs,
    .memProtRegs, .counterRegs, .lineRegs, .hostRegs, .tamidRegs, .keyRegs] s (execCounterGrant o g s) := by
  unfold execCounterGrant
  repeat' first
    | with_reducible exact Evolves.refl _ _
    | with_reducible assumption
    | decide
    | exact Nat.le_of_ble_eq_true rfl
    | exact Field.ix_lt _ _
    | with_reducible apply regPart_power
    | with_reducible apply regPart_line
    | with_reducible apply regPart_system
    | with_reducible apply regPart_host
    | with_reducible apply regPart_tamid
    | with_reducible apply regPart_memProt
    | with_reducible apply regPart_key
    | with_reducible apply regPart_counter
    | intro _ _ _
    | intro _ _
    | intro _
    | with_reducible apply command_runs
    | with_reducible apply Runs.ite
    | with_reducible apply Evolves.ite
    | with_reducible apply State.reply_evolves
    | with_reducible apply State.setFlag_evolves

theorem execAtticRead_runs (o) (index) (count) (s : State) :
    Runs [.line, .host, .lanes, .fuse, .power, .link, .counters, .attic, .boot, .tamid, .systemRegs, .powerRegs,
    .memProtRegs, .lineRegs, .hostRegs, .tamidRegs, .keyRegs] s (execAtticRead o index count s) := by
  unfold execAtticRead
  repeat' first
    | with_reducible exact Evolves.refl _ _
    | with_reducible assumption
    | decide
    | intro _ _ _
    | intro _ _
    | intro _
    | with_reducible apply command_runs
    | with_reducible apply State.atticCommand_evolves

theorem execLineStatus_runs (o) (mask) (s : State) :
    Runs [.line, .host, .lanes, .fuse, .power, .link, .counters, .attic, .boot, .tamid, .systemRegs, .powerRegs,
    .memProtRegs, .lineRegs, .hostRegs, .tamidRegs, .keyRegs] s (execLineStatus o mask s) := by
  unfold execLineStatus
  repeat' first
    | with_reducible exact Evolves.refl _ _
    | with_reducible assumption
    | decide
    | intro _ _ _
    | intro _ _
    | intro _
    | with_reducible apply command_runs
    | with_reducible apply Runs.ite
    | with_reducible apply Evolves.ite
    | with_reducible apply State.reply_evolves

theorem execHostStatus_runs (o) (mask) (s : State) :
    Runs [.line, .host, .lanes, .fuse, .power, .link, .counters, .attic, .boot, .tamid, .systemRegs, .powerRegs,
    .memProtRegs, .lineRegs, .hostRegs, .tamidRegs, .keyRegs] s (execHostStatus o mask s) := by
  unfold execHostStatus
  repeat' first
    | with_reducible exact Evolves.refl _ _
    | with_reducible assumption
    | decide
    | intro _ _ _
    | intro _ _
    | intro _
    | with_reducible apply command_runs
    | with_reducible apply Runs.ite
    | with_reducible apply Evolves.ite
    | with_reducible apply State.reply_evolves

theorem execRetirePage_runs (o) (page) (s : State) :
    Runs [.line, .host, .lanes, .fuse, .power, .link, .counters, .attic, .boot, .tamid, .memory, .systemRegs,
    .powerRegs, .memProtRegs, .lineRegs, .hostRegs, .tamidRegs, .keyRegs] s (execRetirePage o page s) := by
  unfold execRetirePage
  repeat' first
    | with_reducible exact Evolves.refl _ _
    | with_reducible assumption
    | decide
    | intro _ _ _
    | intro _ _
    | intro _
    | with_reducible apply command_runs
    | with_reducible apply State.retireCommand_evolves

theorem execEccLogRead_runs (o) (mem) (flags) (s : State) :
    Runs [.line, .host, .lanes, .fuse, .power, .link, .counters, .attic, .boot, .tamid, .memory, .systemRegs,
    .powerRegs, .memProtRegs, .lineRegs, .hostRegs, .tamidRegs, .keyRegs] s (execEccLogRead o mem flags s) := by
  unfold execEccLogRead
  repeat' first
    | with_reducible exact Evolves.refl _ _
    | with_reducible assumption
    | decide
    | intro _ _ _
    | intro _ _
    | intro _
    | with_reducible apply command_runs
    | with_reducible apply State.eccCommand_evolves

theorem execMemRead_runs (o) (addr) (count) (findings) (s : State) :
    Runs [.free, .mem, .line, .host, .lanes, .fuse, .power, .link, .counters, .attic, .boot, .tamid, .memory, .rooms,
    .test, .systemRegs, .powerRegs, .memProtRegs, .testRegs, .lineRegs, .hostRegs, .tamidRegs, .pantryRegs, .keyRegs] s
            (execMemRead o addr count findings s) := by
  unfold execMemRead
  repeat' first
    | with_reducible exact Evolves.refl _ _
    | with_reducible assumption
    | decide
    | intro _ _ _
    | intro _ _
    | intro _
    | with_reducible apply command_runs
    | with_reducible apply State.memReadCommand_evolves

theorem execMemWrite_runs (o) (addr) (data) (s : State) :
    Runs [.mem, .line, .host, .lanes, .fuse, .power, .link, .counters, .attic, .boot, .tamid, .memory, .systemRegs,
    .powerRegs, .memProtRegs, .lineRegs, .hostRegs, .tamidRegs, .keyRegs] s (execMemWrite o addr data s) := by
  unfold execMemWrite
  repeat' first
    | with_reducible exact Evolves.refl _ _
    | with_reducible assumption
    | decide
    | intro _ _ _
    | intro _ _
    | intro _
    | with_reducible apply command_runs
    | with_reducible apply State.memWriteCommand_evolves

theorem execFaultRead_runs (o) (s : State) :
    Runs [.line, .host, .lanes, .fuse, .power, .link, .counters, .attic, .boot, .tamid, .systemRegs, .powerRegs,
    .memProtRegs, .lineRegs, .hostRegs, .tamidRegs, .keyRegs] s (execFaultRead o s) := by
  unfold execFaultRead
  repeat' first
    | with_reducible exact Evolves.refl _ _
    | with_reducible assumption
    | decide
    | intro _ _ _
    | intro _ _
    | intro _
    | with_reducible apply command_runs
    | with_reducible apply State.reply_evolves

theorem execFaultClear_runs (o) (bits) (s : State) :
    Runs [.line, .host, .lanes, .fuse, .power, .link, .counters, .attic, .boot, .tamid, .systemRegs, .powerRegs,
    .memProtRegs, .lineRegs, .hostRegs, .tamidRegs, .keyRegs] s (execFaultClear o bits s) := by
  unfold execFaultClear
  repeat' first
    | with_reducible exact Evolves.refl _ _
    | with_reducible assumption
    | decide
    | intro _ _ _
    | intro _ _
    | intro _
    | with_reducible apply command_runs
    | with_reducible apply State.faultClear_evolves

theorem execFaultConfig_runs (o) (src) (set) (s : State) :
    Runs [.line, .host, .lanes, .fuse, .power, .link, .counters, .attic, .boot, .tamid, .systemRegs, .powerRegs,
    .memProtRegs, .lineRegs, .hostRegs, .tamidRegs, .keyRegs] s (execFaultConfig o src set s) := by
  unfold execFaultConfig
  repeat' first
    | with_reducible exact Evolves.refl _ _
    | with_reducible assumption
    | decide
    | intro _ _ _
    | intro _ _
    | intro _
    | with_reducible apply command_runs
    | with_reducible apply State.faultConfig_evolves

theorem execFaultThreshold_runs (o) (sev) (s : State) :
    Runs [.line, .host, .lanes, .fuse, .power, .link, .counters, .attic, .boot, .tamid, .systemRegs, .fuseRegs,
    .powerRegs, .memProtRegs, .lineRegs, .hostRegs, .tamidRegs, .keyRegs] s (execFaultThreshold o sev s) := by
  unfold execFaultThreshold
  repeat' first
    | with_reducible exact Evolves.refl _ _
    | with_reducible assumption
    | decide
    | exact Nat.le_of_ble_eq_true rfl
    | exact Field.ix_lt _ _
    | with_reducible apply regPart_power
    | with_reducible apply regPart_line
    | with_reducible apply regPart_system
    | with_reducible apply regPart_host
    | with_reducible apply regPart_tamid
    | with_reducible apply regPart_memProt
    | with_reducible apply regPart_key
    | with_reducible apply regPart_fuse
    | intro _ _ _
    | intro _ _
    | intro _
    | with_reducible apply command_runs
    | with_reducible apply Runs.ite
    | with_reducible apply Evolves.ite
    | with_reducible apply State.reply_evolves
    | with_reducible apply State.setFld_evolves

theorem execPowerVote_runs (o) (dom) (vote) (linger) (s : State) :
    Runs [.line, .host, .lanes, .fuse, .power, .link, .counters, .attic, .boot, .tamid, .systemRegs, .powerRegs,
    .memProtRegs, .lineRegs, .hostRegs, .tamidRegs, .keyRegs] s (execPowerVote o dom vote linger s) := by
  unfold execPowerVote
  repeat' first
    | with_reducible exact Evolves.refl _ _
    | with_reducible assumption
    | decide
    | intro _ _ _
    | intro _ _
    | intro _
    | with_reducible apply command_runs
    | with_reducible apply State.voteCommand_evolves

theorem execPowerState_runs (o) (st) (s : State) :
    Runs [.line, .host, .lanes, .fuse, .power, .link, .counters, .attic, .boot, .cdac, .chain, .tamid, .test,
    .systemRegs, .powerRegs, .memProtRegs, .testRegs, .lineRegs, .hostRegs, .tamidRegs, .chainRegs, .cdacRegs,
    .keyRegs] s
            (execPowerState o st s) := by
  unfold execPowerState
  repeat' first
    | with_reducible exact Evolves.refl _ _
    | with_reducible assumption
    | decide
    | intro _ _ _
    | intro _ _
    | intro _
    | with_reducible apply command_runs
    | with_reducible apply State.powerState_evolves

theorem execPowerStatus_runs (o) (s : State) :
    Runs [.line, .host, .lanes, .fuse, .power, .link, .counters, .attic, .boot, .tamid, .systemRegs, .powerRegs,
    .memProtRegs, .lineRegs, .hostRegs, .tamidRegs, .keyRegs] s (execPowerStatus o s) := by
  unfold execPowerStatus
  repeat' first
    | with_reducible exact Evolves.refl _ _
    | with_reducible assumption
    | decide
    | intro _ _ _
    | intro _ _
    | intro _
    | with_reducible apply command_runs
    | with_reducible apply State.reply_evolves

theorem execHkRead_runs (o) (mask) (s : State) :
    Runs [.line, .host, .lanes, .fuse, .power, .link, .counters, .attic, .boot, .tamid, .systemRegs, .powerRegs,
    .memProtRegs, .lineRegs, .hostRegs, .tamidRegs, .keyRegs] s (execHkRead o mask s) := by
  unfold execHkRead
  repeat' first
    | with_reducible exact Evolves.refl _ _
    | with_reducible assumption
    | decide
    | intro _ _ _
    | intro _ _
    | intro _
    | with_reducible apply command_runs
    | with_reducible apply Runs.ite
    | with_reducible apply Evolves.ite
    | with_reducible apply State.reply_evolves

theorem execCdacQueue_runs (o) (ch) (count) (codes) (s : State) :
    Runs [.line, .host, .lanes, .fuse, .power, .link, .counters, .attic, .boot, .cdac, .tamid, .systemRegs,
    .powerRegs, .memProtRegs, .lineRegs, .hostRegs, .tamidRegs, .cdacRegs, .keyRegs] s (execCdacQueue o ch count codes
    s) := by
  unfold execCdacQueue
  repeat' first
    | with_reducible exact Evolves.refl _ _
    | with_reducible assumption
    | decide
    | intro _ _ _
    | intro _ _
    | intro _
    | with_reducible apply command_runs
    | with_reducible apply State.cdacQueueCommand_evolves

theorem execCdacConfig_runs (o) (ch) (flags) (rate) (step) (safe) (s : State) :
    Runs [.line, .host, .lanes, .fuse, .power, .link, .counters, .attic, .boot, .cdac, .tamid, .systemRegs,
    .powerRegs, .memProtRegs, .lineRegs, .hostRegs, .tamidRegs, .cdacRegs, .keyRegs] s (execCdacConfig o ch flags rate
    step
            safe s) := by
  unfold execCdacConfig
  repeat' first
    | with_reducible exact Evolves.refl _ _
    | with_reducible assumption
    | decide
    | intro _ _ _
    | intro _ _
    | intro _
    | with_reducible apply command_runs
    | with_reducible apply State.cdacConfigCommand_evolves

theorem execTamidConfig_runs (o) (inst) (carrier) (fsk) (depth) (method) (st) (s : State) :
    Runs [.line, .host, .lanes, .fuse, .power, .link, .counters, .attic, .boot, .tamid, .systemRegs, .powerRegs,
    .memProtRegs, .lineRegs, .hostRegs, .tamidRegs, .keyRegs] s (execTamidConfig o inst carrier fsk depth method st s) := by
  unfold execTamidConfig
  repeat' first
    | with_reducible exact Evolves.refl _ _
    | with_reducible assumption
    | decide
    | intro _ _ _
    | intro _ _
    | intro _
    | with_reducible apply command_runs
    | with_reducible apply State.tamidConfig_evolves

theorem execTamidSend_runs (o) (inst) (len) (payload) (s : State) :
    Runs [.line, .host, .lanes, .fuse, .power, .link, .counters, .attic, .boot, .tamid, .systemRegs, .powerRegs,
    .memProtRegs, .lineRegs, .hostRegs, .tamidRegs, .keyRegs] s (execTamidSend o inst len payload s) := by
  unfold execTamidSend
  repeat' first
    | with_reducible exact Evolves.refl _ _
    | with_reducible assumption
    | decide
    | intro _ _ _
    | intro _ _
    | intro _
    | with_reducible apply command_runs
    | with_reducible apply State.tamidSend_evolves

theorem execTamidReceive_runs (o) (inst) (s : State) :
    Runs [.line, .host, .lanes, .fuse, .power, .link, .counters, .attic, .boot, .tamid, .systemRegs, .powerRegs,
    .memProtRegs, .lineRegs, .hostRegs, .tamidRegs, .keyRegs] s (execTamidReceive o inst s) := by
  unfold execTamidReceive
  repeat' first
    | with_reducible exact Evolves.refl _ _
    | with_reducible assumption
    | decide
    | intro _ _ _
    | intro _ _
    | intro _
    | with_reducible apply command_runs
    | with_reducible apply Runs.ite
    | with_reducible apply Evolves.ite
    | with_reducible apply State.reply_evolves
    | with_reducible apply State.tamidTake_snd

theorem execTamidStatus_runs (o) (s : State) :
    Runs [.line, .host, .lanes, .fuse, .power, .link, .counters, .attic, .boot, .tamid, .systemRegs, .fuseRegs,
    .powerRegs, .clockRegs, .memProtRegs, .hkRegs, .thermRegs, .counterRegs, .testRegs, .lineRegs, .hostRegs,
    .tamidRegs, .chainRegs, .cdacRegs, .pantryRegs, .keyRegs, .otherRegs] s (execTamidStatus o s) := by
  unfold execTamidStatus
  repeat' first
    | with_reducible exact Evolves.refl _ _
    | with_reducible assumption
    | decide
    | intro _ _ _
    | intro _ _
    | intro _
    | with_reducible apply command_runs
    | with_reducible apply State.tamidStatus_evolves

theorem execLoopback_runs (o) (kind) (unit) (code) (s : State) :
    Runs [.line, .host, .lanes, .fuse, .power, .link, .counters, .attic, .boot, .tamid, .systemRegs, .powerRegs,
    .memProtRegs, .testRegs, .lineRegs, .hostRegs, .tamidRegs, .keyRegs] s (execLoopback o kind unit code s) := by
  unfold execLoopback
  repeat' first
    | with_reducible exact Evolves.refl _ _
    | with_reducible assumption
    | decide
    | intro _ _ _
    | intro _ _
    | intro _
    | with_reducible apply command_runs
    | with_reducible apply State.loopback_evolves

theorem execBistStatus_runs (o) (s : State) :
    Runs [.line, .host, .lanes, .fuse, .power, .link, .counters, .attic, .boot, .tamid, .systemRegs, .powerRegs,
    .memProtRegs, .lineRegs, .hostRegs, .tamidRegs, .keyRegs] s (execBistStatus o s) := by
  unfold execBistStatus
  repeat' first
    | with_reducible exact Evolves.refl _ _
    | with_reducible assumption
    | decide
    | intro _ _ _
    | intro _ _
    | intro _
    | with_reducible apply command_runs
    | with_reducible apply State.reply_evolves

theorem execDeepTest_runs (o) (test) (args) (s : State) :
    Runs [.line, .host, .lanes, .fuse, .power, .link, .counters, .attic, .boot, .hk, .chain, .tamid, .test,
    .systemRegs, .powerRegs, .memProtRegs, .hkRegs, .lineRegs, .hostRegs, .tamidRegs, .chainRegs, .keyRegs] s
    (execDeepTest o
            test args s) := by
  unfold execDeepTest
  repeat' first
    | with_reducible exact Evolves.refl _ _
    | with_reducible assumption
    | decide
    | intro _ _ _
    | intro _ _
    | intro _
    | with_reducible apply command_runs
    | with_reducible apply State.deepTest_evolves

theorem execLifecycleAdvance_runs (o) (target) (token) (s : State) :
    Runs [.line, .host, .lanes, .fuse, .power, .link, .counters, .attic, .boot, .tamid, .test, .systemRegs,
    .powerRegs, .memProtRegs, .lineRegs, .hostRegs, .tamidRegs, .keyRegs] s (execLifecycleAdvance o target token s) := by
  unfold execLifecycleAdvance
  repeat' first
    | with_reducible exact Evolves.refl _ _
    | with_reducible assumption
    | decide
    | intro _ _ _
    | intro _ _
    | intro _
    | with_reducible apply command_runs
    | with_reducible apply State.lifecycleAdvance_evolves

theorem execFlashWrite_runs (o) (offset) (flags) (zeros) (data) (s : State) :
    Runs [.line, .host, .lanes, .fuse, .power, .link, .counters, .attic, .boot, .tamid, .flashJob, .systemRegs,
    .powerRegs, .memProtRegs, .lineRegs, .hostRegs, .tamidRegs, .keyRegs] s (execFlashWrite o offset flags zeros data
    s) := by
  unfold execFlashWrite
  repeat' first
    | with_reducible exact Evolves.refl _ _
    | with_reducible assumption
    | decide
    | intro _ _ _
    | intro _ _
    | intro _
    | with_reducible apply command_runs
    | with_reducible apply State.flashCommand_evolves

theorem execCalQuality_runs (o) (kind) (s : State) :
    Runs [.line, .host, .lanes, .fuse, .power, .link, .counters, .attic, .boot, .hk, .tamid, .systemRegs, .powerRegs,
    .memProtRegs, .lineRegs, .hostRegs, .tamidRegs, .keyRegs] s (execCalQuality o kind s) := by
  unfold execCalQuality
  repeat' first
    | with_reducible exact Evolves.refl _ _
    | with_reducible assumption
    | decide
    | exact fun k => k
    | exact fun _ => Nat.zero_le _
    | intro _ _ _
    | intro _ _
    | intro _
    | with_reducible apply command_runs
    | with_reducible apply Runs.ite
    | with_reducible apply Evolves.ite
    | with_reducible apply State.reply_evolves
    | with_reducible apply Evolves.hk

theorem execPantryRead_runs (o) (object) (first) (count) (s : State) :
    Runs [.line, .host, .lanes, .fuse, .power, .link, .counters, .attic, .boot, .tamid, .systemRegs, .powerRegs,
    .memProtRegs, .lineRegs, .hostRegs, .tamidRegs, .keyRegs] s (execPantryRead o object first count s) := by
  unfold execPantryRead
  repeat' first
    | with_reducible exact Evolves.refl _ _
    | with_reducible assumption
    | decide
    | intro _ _ _
    | intro _ _
    | intro _
    | with_reducible apply command_runs
    | with_reducible apply State.pantryCommand_evolves

theorem execPantryFreeze_runs (o) (mask) (freeze) (s : State) :
    Runs [.line, .host, .lanes, .fuse, .power, .link, .counters, .attic, .boot, .tamid, .systemRegs, .powerRegs,
    .memProtRegs, .lineRegs, .hostRegs, .tamidRegs, .pantryRegs, .keyRegs] s (execPantryFreeze o mask freeze s) := by
  unfold execPantryFreeze
  repeat' first
    | with_reducible exact Evolves.refl _ _
    | with_reducible assumption
    | decide
    | intro _ _ _
    | intro _ _
    | intro _
    | with_reducible apply command_runs
    | with_reducible apply Runs.ite
    | with_reducible apply Evolves.ite
    | with_reducible apply State.reply_evolves
    | with_reducible apply State.pantryFreeze_evolves
    | with_reducible apply Evolves.each

theorem execPantryClear_runs (o) (mask) (s : State) :
    Runs [.line, .host, .lanes, .fuse, .power, .link, .counters, .attic, .boot, .tamid, .pantry, .systemRegs,
    .powerRegs, .memProtRegs, .lineRegs, .hostRegs, .tamidRegs, .pantryRegs, .keyRegs] s (execPantryClear o mask s) := by
  unfold execPantryClear
  repeat' first
    | with_reducible exact Evolves.refl _ _
    | with_reducible assumption
    | decide
    | intro _ _ _
    | intro _ _
    | intro _
    | with_reducible apply command_runs
    | with_reducible apply Runs.ite
    | with_reducible apply Evolves.ite
    | with_reducible apply State.reply_evolves
    | with_reducible apply State.pantryClear_evolves
    | with_reducible apply State.accept_evolves
    | with_reducible apply Evolves.each

theorem execSync_runs (o) (s : State) :
    Runs [.line, .host, .lanes, .fuse, .power, .link, .counters, .attic, .clock, .boot, .hk, .chain, .tamid,
    .systemRegs, .powerRegs, .clockRegs, .memProtRegs, .lineRegs, .hostRegs, .tamidRegs, .chainRegs, .keyRegs] s
    (execSync o s)
            := by
  unfold execSync
  repeat' first
    | with_reducible exact Evolves.refl _ _
    | with_reducible assumption
    | decide
    | intro _ _ _
    | intro _ _
    | intro _
    | with_reducible apply command_runs
    | with_reducible apply State.reply_evolves
    | with_reducible apply State.syncRequest_evolves

theorem execSetCalendar_runs (o) (sec) (usec) (s : State) :
    Runs [.line, .host, .lanes, .fuse, .power, .link, .counters, .attic, .clock, .boot, .tamid, .systemRegs,
    .powerRegs, .memProtRegs, .lineRegs, .hostRegs, .tamidRegs, .keyRegs] s (execSetCalendar o sec usec s) := by
  unfold execSetCalendar
  repeat' first
    | with_reducible exact Evolves.refl _ _
    | with_reducible assumption
    | decide
    | intro _ _ _
    | intro _ _
    | intro _
    | with_reducible apply command_runs
    | with_reducible apply Runs.ite
    | with_reducible apply Evolves.ite
    | with_reducible apply State.reply_evolves
    | with_reducible apply Evolves.clock

theorem execGetTime_runs (o) (s : State) :
    Runs [.line, .host, .lanes, .fuse, .power, .link, .counters, .attic, .boot, .tamid, .systemRegs, .powerRegs,
    .memProtRegs, .lineRegs, .hostRegs, .tamidRegs, .keyRegs] s (execGetTime o s) := by
  unfold execGetTime
  repeat' first
    | with_reducible exact Evolves.refl _ _
    | with_reducible assumption
    | decide
    | intro _ _ _
    | intro _ _
    | intro _
    | with_reducible apply command_runs
    | with_reducible apply State.reply_evolves

theorem execLedgerRead_runs (o) (mask) (s : State) :
    Runs [.line, .host, .lanes, .fuse, .power, .link, .counters, .attic, .boot, .tamid, .systemRegs, .powerRegs,
    .memProtRegs, .lineRegs, .hostRegs, .tamidRegs, .keyRegs] s (execLedgerRead o mask s) := by
  unfold execLedgerRead
  repeat' first
    | with_reducible exact Evolves.refl _ _
    | with_reducible assumption
    | decide
    | intro _ _ _
    | intro _ _
    | intro _
    | with_reducible apply command_runs
    | with_reducible apply Runs.ite
    | with_reducible apply Evolves.ite
    | with_reducible apply State.reply_evolves

theorem execDomainUndoDone_runs (d) (s : State) :
    Runs [.free, .mem, .line, .host, .lanes, .fuse, .power, .link, .counters, .attic, .clock, .hk, .cdac, .chain,
    .tamid, .memory, .pantry, .rooms, .thermal, .test, .systemRegs, .fuseRegs, .powerRegs, .clockRegs, .memProtRegs,
    .hkRegs, .thermRegs, .counterRegs, .testRegs, .lineRegs, .hostRegs, .tamidRegs, .chainRegs, .cdacRegs,
    .pantryRegs, .keyRegs, .otherRegs] s (execDomainUndoDone d s) := by
  unfold execDomainUndoDone
  repeat' first
    | with_reducible exact Evolves.refl _ _
    | with_reducible assumption
    | decide
    | intro _ _ _
    | intro _ _
    | intro _
    | with_reducible apply Runs.done
    | with_reducible apply Runs.unchanged
    | with_reducible apply Runs.ite
    | with_reducible apply Evolves.ite
    | with_reducible apply State.deepResume_evolves
    | with_reducible apply State.domainOpen_evolves
    | with_reducible apply State.unquiesce_evolves
    | with_reducible apply State.setDom_evolves
    | with_reducible apply State.countAbandoned_evolves
    | with_reducible apply State.releaseSources_evolves
    | with_reducible apply Evolves.when
    | split
    | dsimp only
    | with_reducible apply Evolves.power

theorem execDomainReady_runs (d) (lostBanks) (regLost) (s : State) :
    Runs [.free, .mem, .line, .host, .lanes, .fuse, .power, .link, .counters, .attic, .clock, .hk, .cdac, .chain,
        .tamid, .memory, .pantry, .rooms, .thermal, .test, .systemRegs, .fuseRegs, .powerRegs, .clockRegs,
            .memProtRegs, .hkRegs, .thermRegs, .counterRegs, .testRegs, .lineRegs, .hostRegs, .tamidRegs, .chainRegs,
                .cdacRegs, .pantryRegs, .keyRegs, .otherRegs] s (execDomainReady d lostBanks regLost s) := by
  unfold execDomainReady
  repeat' first
    | with_reducible exact Evolves.refl _ _
    | decide
    | with_reducible apply Runs.done
    | with_reducible apply Runs.unchanged
    | with_reducible apply Runs.ite
    | with_reducible apply Evolves.ite
    | with_reducible apply State.domainReady_evolves

theorem execWakeTimeout_runs (d) (s : State) :
    Runs [.fuse, .power, .link, .counters, .attic, .tamid, .rooms, .systemRegs, .powerRegs, .tamidRegs, .keyRegs] s
        (execWakeTimeout d s) := by
  unfold execWakeTimeout
  repeat' first
    | with_reducible exact Evolves.refl _ _
    | decide
    | with_reducible apply Runs.done
    | with_reducible apply Runs.unchanged
    | with_reducible apply Runs.ite
    | with_reducible apply Evolves.ite
    | with_reducible apply State.kick_evolves
    | with_reducible apply State.lateAll_evolves
    | with_reducible apply State.raise_evolves

theorem execDeepExitComplete_runs (lostBanks) (s : State) :
    Runs [.free, .mem, .line, .host, .lanes, .fuse, .power, .link, .counters, .attic, .clock, .boot, .hk, .chain,
    .tamid, .memory, .pantry, .rooms, .thermal, .test, .systemRegs, .fuseRegs, .powerRegs, .clockRegs, .memProtRegs,
    .hkRegs, .thermRegs, .counterRegs, .testRegs, .lineRegs, .hostRegs, .tamidRegs, .chainRegs, .cdacRegs,
    .pantryRegs, .keyRegs, .otherRegs] s (execDeepExitComplete lostBanks s) := by
  unfold execDeepExitComplete
  repeat' first
    | with_reducible exact Evolves.refl _ _
    | decide
    | with_reducible apply Runs.done
    | with_reducible apply Runs.unchanged
    | with_reducible apply Runs.ite
    | with_reducible apply Evolves.ite
    | with_reducible apply State.deepOver_evolves

theorem execAoSensorReading_runs (ao) (s : State) :
    Runs [.mem, .line, .host, .lanes, .fuse, .power, .link, .counters, .attic, .clock, .boot, .hk, .cdac, .chain,
        .tamid, .memory, .pantry, .rooms, .thermal, .test, .systemRegs, .fuseRegs, .powerRegs, .clockRegs,
            .memProtRegs, .hkRegs, .thermRegs, .counterRegs, .testRegs, .lineRegs, .hostRegs, .tamidRegs, .chainRegs,
                .cdacRegs, .pantryRegs, .keyRegs, .otherRegs] s (execAoSensorReading ao s) := by
  unfold execAoSensorReading
  repeat' first
    | with_reducible exact Evolves.refl _ _
    | decide
    | with_reducible apply Runs.done
    | with_reducible apply Runs.unchanged
    | with_reducible apply Runs.ite
    | with_reducible apply Evolves.ite
    | with_reducible apply State.shutdown_evolves
    | with_reducible apply State.aoReading_evolves

theorem execThermalRestart_runs (lostBanks) (s : State) :
    Runs [.free, .mem, .line, .host, .lanes, .fuse, .power, .link, .counters, .attic, .clock, .boot, .hk, .chain,
    .tamid, .memory, .pantry, .rooms, .thermal, .test, .systemRegs, .fuseRegs, .powerRegs, .clockRegs, .memProtRegs,
    .hkRegs, .thermRegs, .counterRegs, .testRegs, .lineRegs, .hostRegs, .tamidRegs, .chainRegs, .cdacRegs,
    .pantryRegs, .keyRegs, .otherRegs] s (execThermalRestart lostBanks s) := by
  unfold execThermalRestart
  repeat' first
    | with_reducible exact Evolves.refl _ _
    | with_reducible assumption
    | decide
    | intro _ _ _
    | intro _ _
    | intro _
    | with_reducible apply Runs.done
    | with_reducible apply Runs.unchanged
    | with_reducible apply Runs.ite
    | with_reducible apply Evolves.ite
    | with_reducible apply State.proceedAll_evolves
    | with_reducible apply State.restartReset_evolves
    | with_reducible apply State.thermalRestart_evolves
    | with_reducible apply State.watchdogsStart_evolves
    | with_reducible apply Evolves.each
    | split
    | dsimp only

end Sys2Proof.Machine
end

