-- ==== Sys2Proof/Laws/State.lean ====
section
/-! SUPPORT. What the basic updates leave alone: every part of the state that an update does not name, and the record of
a unit that it does. -/

namespace Sys2Proof.Machine

variable (s : State)

@[simp] theorem State.setReg_other (a : Nat) (w : Word) :
    (s.setReg a w).pending = s.pending ∧ (s.setReg a w).tick = s.tick ∧ (s.setReg a w).free = s.free ∧
    (s.setReg a w).mem = s.mem ∧ (s.setReg a w).flash = s.flash ∧ (s.setReg a w).line = s.line ∧
    (s.setReg a w).host = s.host ∧ (s.setReg a w).lanes = s.lanes ∧ (s.setReg a w).fuse = s.fuse ∧
    (s.setReg a w).power = s.power ∧ (s.setReg a w).link = s.link ∧ (s.setReg a w).counters = s.counters ∧
    (s.setReg a w).attic = s.attic ∧ (s.setReg a w).clock = s.clock ∧ (s.setReg a w).boot = s.boot ∧
    (s.setReg a w).hk = s.hk ∧ (s.setReg a w).cdac = s.cdac ∧ (s.setReg a w).chain = s.chain ∧
    (s.setReg a w).tamid = s.tamid ∧ (s.setReg a w).carriers = s.carriers ∧ (s.setReg a w).memory = s.memory ∧
    (s.setReg a w).pantry = s.pantry ∧ (s.setReg a w).rooms = s.rooms ∧ (s.setReg a w).thermal = s.thermal ∧
    (s.setReg a w).test = s.test ∧ (s.setReg a w).flashJob = s.flashJob ∧ (s.setReg a w).limits = s.limits := by
  refine ⟨?_, ?_, ?_, ?_, ?_, ?_, ?_, ?_, ?_, ?_, ?_, ?_, ?_, ?_, ?_, ?_, ?_, ?_, ?_, ?_, ?_, ?_, ?_, ?_, ?_, ?_, ?_⟩ <;> rfl

@[simp] theorem State.setFld_other (b : Nat) (f : Field) (v : Nat) :
    (s.setFld b f v).pending = s.pending ∧ (s.setFld b f v).tick = s.tick ∧ (s.setFld b f v).free = s.free ∧
    (s.setFld b f v).mem = s.mem ∧ (s.setFld b f v).flash = s.flash ∧ (s.setFld b f v).line = s.line ∧
    (s.setFld b f v).host = s.host ∧ (s.setFld b f v).lanes = s.lanes ∧ (s.setFld b f v).fuse = s.fuse ∧
    (s.setFld b f v).power = s.power ∧ (s.setFld b f v).link = s.link ∧ (s.setFld b f v).counters = s.counters ∧
    (s.setFld b f v).attic = s.attic ∧ (s.setFld b f v).clock = s.clock ∧ (s.setFld b f v).boot = s.boot ∧
    (s.setFld b f v).hk = s.hk ∧ (s.setFld b f v).cdac = s.cdac ∧ (s.setFld b f v).chain = s.chain ∧
    (s.setFld b f v).tamid = s.tamid ∧ (s.setFld b f v).carriers = s.carriers ∧
    (s.setFld b f v).memory = s.memory ∧ (s.setFld b f v).pantry = s.pantry ∧ (s.setFld b f v).rooms = s.rooms ∧
    (s.setFld b f v).thermal = s.thermal ∧ (s.setFld b f v).test = s.test ∧
    (s.setFld b f v).flashJob = s.flashJob ∧ (s.setFld b f v).limits = s.limits := by
  refine ⟨?_, ?_, ?_, ?_, ?_, ?_, ?_, ?_, ?_, ?_, ?_, ?_, ?_, ?_, ?_, ?_, ?_, ?_, ?_, ?_, ?_, ?_, ?_, ?_, ?_, ?_, ?_⟩ <;> rfl

@[simp] theorem State.setFlag_other (b : Nat) (f : Field) (v : Bool) :
    (s.setFlag b f v).pending = s.pending ∧ (s.setFlag b f v).tick = s.tick ∧ (s.setFlag b f v).free = s.free ∧
    (s.setFlag b f v).mem = s.mem ∧ (s.setFlag b f v).flash = s.flash ∧ (s.setFlag b f v).line = s.line ∧
    (s.setFlag b f v).host = s.host ∧ (s.setFlag b f v).lanes = s.lanes ∧ (s.setFlag b f v).fuse = s.fuse ∧
    (s.setFlag b f v).power = s.power ∧ (s.setFlag b f v).link = s.link ∧ (s.setFlag b f v).counters = s.counters ∧
    (s.setFlag b f v).attic = s.attic ∧ (s.setFlag b f v).clock = s.clock ∧ (s.setFlag b f v).boot = s.boot ∧
    (s.setFlag b f v).hk = s.hk ∧ (s.setFlag b f v).cdac = s.cdac ∧ (s.setFlag b f v).chain = s.chain ∧
    (s.setFlag b f v).tamid = s.tamid ∧ (s.setFlag b f v).carriers = s.carriers ∧
    (s.setFlag b f v).memory = s.memory ∧ (s.setFlag b f v).pantry = s.pantry ∧ (s.setFlag b f v).rooms = s.rooms ∧
    (s.setFlag b f v).thermal = s.thermal ∧ (s.setFlag b f v).test = s.test ∧
    (s.setFlag b f v).flashJob = s.flashJob ∧ (s.setFlag b f v).limits = s.limits := by
  refine ⟨?_, ?_, ?_, ?_, ?_, ?_, ?_, ?_, ?_, ?_, ?_, ?_, ?_, ?_, ?_, ?_, ?_, ?_, ?_, ?_, ?_, ?_, ?_, ?_, ?_, ?_, ?_⟩ <;> rfl

@[simp] theorem State.addSat_other (b : Nat) (f : Field) (k : Nat) :
    (s.addSat b f k).pending = s.pending ∧ (s.addSat b f k).tick = s.tick ∧ (s.addSat b f k).free = s.free ∧
    (s.addSat b f k).mem = s.mem ∧ (s.addSat b f k).flash = s.flash ∧ (s.addSat b f k).line = s.line ∧
    (s.addSat b f k).host = s.host ∧ (s.addSat b f k).lanes = s.lanes ∧ (s.addSat b f k).fuse = s.fuse ∧
    (s.addSat b f k).power = s.power ∧ (s.addSat b f k).link = s.link ∧ (s.addSat b f k).counters = s.counters ∧
    (s.addSat b f k).attic = s.attic ∧ (s.addSat b f k).clock = s.clock ∧ (s.addSat b f k).boot = s.boot ∧
    (s.addSat b f k).hk = s.hk ∧ (s.addSat b f k).cdac = s.cdac ∧ (s.addSat b f k).chain = s.chain ∧
    (s.addSat b f k).tamid = s.tamid ∧ (s.addSat b f k).carriers = s.carriers ∧
    (s.addSat b f k).memory = s.memory ∧ (s.addSat b f k).pantry = s.pantry ∧ (s.addSat b f k).rooms = s.rooms ∧
    (s.addSat b f k).thermal = s.thermal ∧ (s.addSat b f k).test = s.test ∧
    (s.addSat b f k).flashJob = s.flashJob ∧ (s.addSat b f k).limits = s.limits := by
  refine ⟨?_, ?_, ?_, ?_, ?_, ?_, ?_, ?_, ?_, ?_, ?_, ?_, ?_, ?_, ?_, ?_, ?_, ?_, ?_, ?_, ?_, ?_, ?_, ?_, ?_, ?_, ?_⟩ <;> rfl

@[simp] theorem State.bump_other (b : Nat) (f : Field) :
    (s.bump b f).pending = s.pending ∧ (s.bump b f).tick = s.tick ∧ (s.bump b f).free = s.free ∧
    (s.bump b f).mem = s.mem ∧ (s.bump b f).flash = s.flash ∧ (s.bump b f).line = s.line ∧
    (s.bump b f).host = s.host ∧ (s.bump b f).lanes = s.lanes ∧ (s.bump b f).fuse = s.fuse ∧
    (s.bump b f).power = s.power ∧ (s.bump b f).link = s.link ∧ (s.bump b f).counters = s.counters ∧
    (s.bump b f).attic = s.attic ∧ (s.bump b f).clock = s.clock ∧ (s.bump b f).boot = s.boot ∧
    (s.bump b f).hk = s.hk ∧ (s.bump b f).cdac = s.cdac ∧ (s.bump b f).chain = s.chain ∧
    (s.bump b f).tamid = s.tamid ∧ (s.bump b f).carriers = s.carriers ∧ (s.bump b f).memory = s.memory ∧
    (s.bump b f).pantry = s.pantry ∧ (s.bump b f).rooms = s.rooms ∧ (s.bump b f).thermal = s.thermal ∧
    (s.bump b f).test = s.test ∧ (s.bump b f).flashJob = s.flashJob ∧ (s.bump b f).limits = s.limits := by
  refine ⟨?_, ?_, ?_, ?_, ?_, ?_, ?_, ?_, ?_, ?_, ?_, ?_, ?_, ?_, ?_, ?_, ?_, ?_, ?_, ?_, ?_, ?_, ?_, ?_, ?_, ?_, ?_⟩ <;> rfl

@[simp] theorem State.bumpMod_other (b : Nat) (f : Field) :
    (s.bumpMod b f).pending = s.pending ∧ (s.bumpMod b f).tick = s.tick ∧ (s.bumpMod b f).free = s.free ∧
    (s.bumpMod b f).mem = s.mem ∧ (s.bumpMod b f).flash = s.flash ∧ (s.bumpMod b f).line = s.line ∧
    (s.bumpMod b f).host = s.host ∧ (s.bumpMod b f).lanes = s.lanes ∧ (s.bumpMod b f).fuse = s.fuse ∧
    (s.bumpMod b f).power = s.power ∧ (s.bumpMod b f).link = s.link ∧ (s.bumpMod b f).counters = s.counters ∧
    (s.bumpMod b f).attic = s.attic ∧ (s.bumpMod b f).clock = s.clock ∧ (s.bumpMod b f).boot = s.boot ∧
    (s.bumpMod b f).hk = s.hk ∧ (s.bumpMod b f).cdac = s.cdac ∧ (s.bumpMod b f).chain = s.chain ∧
    (s.bumpMod b f).tamid = s.tamid ∧ (s.bumpMod b f).carriers = s.carriers ∧ (s.bumpMod b f).memory = s.memory ∧
    (s.bumpMod b f).pantry = s.pantry ∧ (s.bumpMod b f).rooms = s.rooms ∧ (s.bumpMod b f).thermal = s.thermal ∧
    (s.bumpMod b f).test = s.test ∧ (s.bumpMod b f).flashJob = s.flashJob ∧ (s.bumpMod b f).limits = s.limits := by
  refine ⟨?_, ?_, ?_, ?_, ?_, ?_, ?_, ?_, ?_, ?_, ?_, ?_, ?_, ?_, ?_, ?_, ?_, ?_, ?_, ?_, ?_, ?_, ?_, ?_, ?_, ?_, ?_⟩ <;> rfl

@[simp] theorem State.setPair_other (b : Nat) (f g : Field) (v : Nat) :
    (s.setPair b f g v).pending = s.pending ∧ (s.setPair b f g v).tick = s.tick ∧
    (s.setPair b f g v).free = s.free ∧ (s.setPair b f g v).mem = s.mem ∧ (s.setPair b f g v).flash = s.flash ∧
    (s.setPair b f g v).line = s.line ∧ (s.setPair b f g v).host = s.host ∧ (s.setPair b f g v).lanes = s.lanes ∧
    (s.setPair b f g v).fuse = s.fuse ∧ (s.setPair b f g v).power = s.power ∧ (s.setPair b f g v).link = s.link ∧
    (s.setPair b f g v).counters = s.counters ∧ (s.setPair b f g v).attic = s.attic ∧
    (s.setPair b f g v).clock = s.clock ∧ (s.setPair b f g v).boot = s.boot ∧ (s.setPair b f g v).hk = s.hk ∧
    (s.setPair b f g v).cdac = s.cdac ∧ (s.setPair b f g v).chain = s.chain ∧ (s.setPair b f g v).tamid = s.tamid ∧
    (s.setPair b f g v).carriers = s.carriers ∧ (s.setPair b f g v).memory = s.memory ∧
    (s.setPair b f g v).pantry = s.pantry ∧ (s.setPair b f g v).rooms = s.rooms ∧
    (s.setPair b f g v).thermal = s.thermal ∧ (s.setPair b f g v).test = s.test ∧
    (s.setPair b f g v).flashJob = s.flashJob ∧ (s.setPair b f g v).limits = s.limits := by
  refine ⟨?_, ?_, ?_, ?_, ?_, ?_, ?_, ?_, ?_, ?_, ?_, ?_, ?_, ?_, ?_, ?_, ?_, ?_, ?_, ?_, ?_, ?_, ?_, ?_, ?_, ?_, ?_⟩ <;> rfl

@[simp] theorem State.setByte_other (a : Nat) (x : Byte) :
    (s.setByte a x).pending = s.pending ∧ (s.setByte a x).tick = s.tick ∧ (s.setByte a x).free = s.free ∧
    (s.setByte a x).regs = s.regs ∧ (s.setByte a x).flash = s.flash ∧ (s.setByte a x).line = s.line ∧
    (s.setByte a x).host = s.host ∧ (s.setByte a x).lanes = s.lanes ∧ (s.setByte a x).fuse = s.fuse ∧
    (s.setByte a x).power = s.power ∧ (s.setByte a x).link = s.link ∧ (s.setByte a x).counters = s.counters ∧
    (s.setByte a x).attic = s.attic ∧ (s.setByte a x).clock = s.clock ∧ (s.setByte a x).boot = s.boot ∧
    (s.setByte a x).hk = s.hk ∧ (s.setByte a x).cdac = s.cdac ∧ (s.setByte a x).chain = s.chain ∧
    (s.setByte a x).tamid = s.tamid ∧ (s.setByte a x).carriers = s.carriers ∧ (s.setByte a x).memory = s.memory ∧
    (s.setByte a x).pantry = s.pantry ∧ (s.setByte a x).rooms = s.rooms ∧ (s.setByte a x).thermal = s.thermal ∧
    (s.setByte a x).test = s.test ∧ (s.setByte a x).flashJob = s.flashJob ∧ (s.setByte a x).limits = s.limits := by
  refine ⟨?_, ?_, ?_, ?_, ?_, ?_, ?_, ?_, ?_, ?_, ?_, ?_, ?_, ?_, ?_, ?_, ?_, ?_, ?_, ?_, ?_, ?_, ?_, ?_, ?_, ?_, ?_⟩ <;> rfl

@[simp] theorem State.setFlashByte_other (a : Nat) (x : Byte) :
    (s.setFlashByte a x).pending = s.pending ∧ (s.setFlashByte a x).tick = s.tick ∧
    (s.setFlashByte a x).free = s.free ∧ (s.setFlashByte a x).regs = s.regs ∧ (s.setFlashByte a x).mem = s.mem ∧
    (s.setFlashByte a x).line = s.line ∧ (s.setFlashByte a x).host = s.host ∧
    (s.setFlashByte a x).lanes = s.lanes ∧ (s.setFlashByte a x).fuse = s.fuse ∧
    (s.setFlashByte a x).power = s.power ∧ (s.setFlashByte a x).link = s.link ∧
    (s.setFlashByte a x).counters = s.counters ∧ (s.setFlashByte a x).attic = s.attic ∧
    (s.setFlashByte a x).clock = s.clock ∧ (s.setFlashByte a x).boot = s.boot ∧ (s.setFlashByte a x).hk = s.hk ∧
    (s.setFlashByte a x).cdac = s.cdac ∧ (s.setFlashByte a x).chain = s.chain ∧
    (s.setFlashByte a x).tamid = s.tamid ∧ (s.setFlashByte a x).carriers = s.carriers ∧
    (s.setFlashByte a x).memory = s.memory ∧ (s.setFlashByte a x).pantry = s.pantry ∧
    (s.setFlashByte a x).rooms = s.rooms ∧ (s.setFlashByte a x).thermal = s.thermal ∧
    (s.setFlashByte a x).test = s.test ∧ (s.setFlashByte a x).flashJob = s.flashJob ∧
    (s.setFlashByte a x).limits = s.limits := by
  refine ⟨?_, ?_, ?_, ?_, ?_, ?_, ?_, ?_, ?_, ?_, ?_, ?_, ?_, ?_, ?_, ?_, ?_, ?_, ?_, ?_, ?_, ?_, ?_, ?_, ?_, ?_, ?_⟩ <;> rfl

@[simp] theorem State.modLine_other (n : Fin 8) (f : LineLane → LineLane) :
    (s.modLine n f).pending = s.pending ∧ (s.modLine n f).tick = s.tick ∧ (s.modLine n f).free = s.free ∧
    (s.modLine n f).regs = s.regs ∧ (s.modLine n f).mem = s.mem ∧ (s.modLine n f).flash = s.flash ∧
    (s.modLine n f).host = s.host ∧ (s.modLine n f).lanes = s.lanes ∧ (s.modLine n f).fuse = s.fuse ∧
    (s.modLine n f).power = s.power ∧ (s.modLine n f).link = s.link ∧ (s.modLine n f).counters = s.counters ∧
    (s.modLine n f).attic = s.attic ∧ (s.modLine n f).clock = s.clock ∧ (s.modLine n f).boot = s.boot ∧
    (s.modLine n f).hk = s.hk ∧ (s.modLine n f).cdac = s.cdac ∧ (s.modLine n f).chain = s.chain ∧
    (s.modLine n f).tamid = s.tamid ∧ (s.modLine n f).carriers = s.carriers ∧ (s.modLine n f).memory = s.memory ∧
    (s.modLine n f).pantry = s.pantry ∧ (s.modLine n f).rooms = s.rooms ∧ (s.modLine n f).thermal = s.thermal ∧
    (s.modLine n f).test = s.test ∧ (s.modLine n f).flashJob = s.flashJob ∧ (s.modLine n f).limits = s.limits := by
  refine ⟨?_, ?_, ?_, ?_, ?_, ?_, ?_, ?_, ?_, ?_, ?_, ?_, ?_, ?_, ?_, ?_, ?_, ?_, ?_, ?_, ?_, ?_, ?_, ?_, ?_, ?_, ?_⟩ <;> rfl

@[simp] theorem State.modAdc_other (n : Fin 8) (f : AdcState → AdcState) :
    (s.modAdc n f).pending = s.pending ∧ (s.modAdc n f).tick = s.tick ∧ (s.modAdc n f).free = s.free ∧
    (s.modAdc n f).regs = s.regs ∧ (s.modAdc n f).mem = s.mem ∧ (s.modAdc n f).flash = s.flash ∧
    (s.modAdc n f).host = s.host ∧ (s.modAdc n f).lanes = s.lanes ∧ (s.modAdc n f).fuse = s.fuse ∧
    (s.modAdc n f).power = s.power ∧ (s.modAdc n f).link = s.link ∧ (s.modAdc n f).counters = s.counters ∧
    (s.modAdc n f).attic = s.attic ∧ (s.modAdc n f).clock = s.clock ∧ (s.modAdc n f).boot = s.boot ∧
    (s.modAdc n f).hk = s.hk ∧ (s.modAdc n f).cdac = s.cdac ∧ (s.modAdc n f).chain = s.chain ∧
    (s.modAdc n f).tamid = s.tamid ∧ (s.modAdc n f).carriers = s.carriers ∧ (s.modAdc n f).memory = s.memory ∧
    (s.modAdc n f).pantry = s.pantry ∧ (s.modAdc n f).rooms = s.rooms ∧ (s.modAdc n f).thermal = s.thermal ∧
    (s.modAdc n f).test = s.test ∧ (s.modAdc n f).flashJob = s.flashJob ∧ (s.modAdc n f).limits = s.limits := by
  refine ⟨?_, ?_, ?_, ?_, ?_, ?_, ?_, ?_, ?_, ?_, ?_, ?_, ?_, ?_, ?_, ?_, ?_, ?_, ?_, ?_, ?_, ?_, ?_, ?_, ?_, ?_, ?_⟩ <;> rfl

@[simp] theorem State.modRx_other (n : Fin 8) (f : LineRx → LineRx) :
    (s.modRx n f).pending = s.pending ∧ (s.modRx n f).tick = s.tick ∧ (s.modRx n f).free = s.free ∧
    (s.modRx n f).regs = s.regs ∧ (s.modRx n f).mem = s.mem ∧ (s.modRx n f).flash = s.flash ∧
    (s.modRx n f).host = s.host ∧ (s.modRx n f).lanes = s.lanes ∧ (s.modRx n f).fuse = s.fuse ∧
    (s.modRx n f).power = s.power ∧ (s.modRx n f).link = s.link ∧ (s.modRx n f).counters = s.counters ∧
    (s.modRx n f).attic = s.attic ∧ (s.modRx n f).clock = s.clock ∧ (s.modRx n f).boot = s.boot ∧
    (s.modRx n f).hk = s.hk ∧ (s.modRx n f).cdac = s.cdac ∧ (s.modRx n f).chain = s.chain ∧
    (s.modRx n f).tamid = s.tamid ∧ (s.modRx n f).carriers = s.carriers ∧ (s.modRx n f).memory = s.memory ∧
    (s.modRx n f).pantry = s.pantry ∧ (s.modRx n f).rooms = s.rooms ∧ (s.modRx n f).thermal = s.thermal ∧
    (s.modRx n f).test = s.test ∧ (s.modRx n f).flashJob = s.flashJob ∧ (s.modRx n f).limits = s.limits := by
  refine ⟨?_, ?_, ?_, ?_, ?_, ?_, ?_, ?_, ?_, ?_, ?_, ?_, ?_, ?_, ?_, ?_, ?_, ?_, ?_, ?_, ?_, ?_, ?_, ?_, ?_, ?_, ?_⟩ <;> rfl

@[simp] theorem State.modTx_other (n : Fin 8) (f : LineTx → LineTx) :
    (s.modTx n f).pending = s.pending ∧ (s.modTx n f).tick = s.tick ∧ (s.modTx n f).free = s.free ∧
    (s.modTx n f).regs = s.regs ∧ (s.modTx n f).mem = s.mem ∧ (s.modTx n f).flash = s.flash ∧
    (s.modTx n f).host = s.host ∧ (s.modTx n f).lanes = s.lanes ∧ (s.modTx n f).fuse = s.fuse ∧
    (s.modTx n f).power = s.power ∧ (s.modTx n f).link = s.link ∧ (s.modTx n f).counters = s.counters ∧
    (s.modTx n f).attic = s.attic ∧ (s.modTx n f).clock = s.clock ∧ (s.modTx n f).boot = s.boot ∧
    (s.modTx n f).hk = s.hk ∧ (s.modTx n f).cdac = s.cdac ∧ (s.modTx n f).chain = s.chain ∧
    (s.modTx n f).tamid = s.tamid ∧ (s.modTx n f).carriers = s.carriers ∧ (s.modTx n f).memory = s.memory ∧
    (s.modTx n f).pantry = s.pantry ∧ (s.modTx n f).rooms = s.rooms ∧ (s.modTx n f).thermal = s.thermal ∧
    (s.modTx n f).test = s.test ∧ (s.modTx n f).flashJob = s.flashJob ∧ (s.modTx n f).limits = s.limits := by
  refine ⟨?_, ?_, ?_, ?_, ?_, ?_, ?_, ?_, ?_, ?_, ?_, ?_, ?_, ?_, ?_, ?_, ?_, ?_, ?_, ?_, ?_, ?_, ?_, ?_, ?_, ?_, ?_⟩ <;> rfl

@[simp] theorem State.modLinkOf_other (n : Fin 8) (f : LaneLink → LaneLink) :
    (s.modLinkOf n f).pending = s.pending ∧ (s.modLinkOf n f).tick = s.tick ∧ (s.modLinkOf n f).free = s.free ∧
    (s.modLinkOf n f).regs = s.regs ∧ (s.modLinkOf n f).mem = s.mem ∧ (s.modLinkOf n f).flash = s.flash ∧
    (s.modLinkOf n f).host = s.host ∧ (s.modLinkOf n f).lanes = s.lanes ∧ (s.modLinkOf n f).fuse = s.fuse ∧
    (s.modLinkOf n f).power = s.power ∧ (s.modLinkOf n f).link = s.link ∧ (s.modLinkOf n f).counters = s.counters ∧
    (s.modLinkOf n f).attic = s.attic ∧ (s.modLinkOf n f).clock = s.clock ∧ (s.modLinkOf n f).boot = s.boot ∧
    (s.modLinkOf n f).hk = s.hk ∧ (s.modLinkOf n f).cdac = s.cdac ∧ (s.modLinkOf n f).chain = s.chain ∧
    (s.modLinkOf n f).tamid = s.tamid ∧ (s.modLinkOf n f).carriers = s.carriers ∧
    (s.modLinkOf n f).memory = s.memory ∧ (s.modLinkOf n f).pantry = s.pantry ∧ (s.modLinkOf n f).rooms = s.rooms ∧
    (s.modLinkOf n f).thermal = s.thermal ∧ (s.modLinkOf n f).test = s.test ∧
    (s.modLinkOf n f).flashJob = s.flashJob ∧ (s.modLinkOf n f).limits = s.limits := by
  refine ⟨?_, ?_, ?_, ?_, ?_, ?_, ?_, ?_, ?_, ?_, ?_, ?_, ?_, ?_, ?_, ?_, ?_, ?_, ?_, ?_, ?_, ?_, ?_, ?_, ?_, ?_, ?_⟩ <;> rfl

@[simp] theorem State.modHost_other (m : Fin 16) (f : HostLane → HostLane) :
    (s.modHost m f).pending = s.pending ∧ (s.modHost m f).tick = s.tick ∧ (s.modHost m f).free = s.free ∧
    (s.modHost m f).regs = s.regs ∧ (s.modHost m f).mem = s.mem ∧ (s.modHost m f).flash = s.flash ∧
    (s.modHost m f).line = s.line ∧ (s.modHost m f).lanes = s.lanes ∧ (s.modHost m f).fuse = s.fuse ∧
    (s.modHost m f).power = s.power ∧ (s.modHost m f).link = s.link ∧ (s.modHost m f).counters = s.counters ∧
    (s.modHost m f).attic = s.attic ∧ (s.modHost m f).clock = s.clock ∧ (s.modHost m f).boot = s.boot ∧
    (s.modHost m f).hk = s.hk ∧ (s.modHost m f).cdac = s.cdac ∧ (s.modHost m f).chain = s.chain ∧
    (s.modHost m f).tamid = s.tamid ∧ (s.modHost m f).carriers = s.carriers ∧ (s.modHost m f).memory = s.memory ∧
    (s.modHost m f).pantry = s.pantry ∧ (s.modHost m f).rooms = s.rooms ∧ (s.modHost m f).thermal = s.thermal ∧
    (s.modHost m f).test = s.test ∧ (s.modHost m f).flashJob = s.flashJob ∧ (s.modHost m f).limits = s.limits := by
  refine ⟨?_, ?_, ?_, ?_, ?_, ?_, ?_, ?_, ?_, ?_, ?_, ?_, ?_, ?_, ?_, ?_, ?_, ?_, ?_, ?_, ?_, ?_, ?_, ?_, ?_, ?_, ?_⟩ <;> rfl

@[simp] theorem State.modPantry_other (n : Fin 8) (f : PantryLane → PantryLane) :
    (s.modPantry n f).pending = s.pending ∧ (s.modPantry n f).tick = s.tick ∧ (s.modPantry n f).free = s.free ∧
    (s.modPantry n f).regs = s.regs ∧ (s.modPantry n f).mem = s.mem ∧ (s.modPantry n f).flash = s.flash ∧
    (s.modPantry n f).line = s.line ∧ (s.modPantry n f).host = s.host ∧ (s.modPantry n f).lanes = s.lanes ∧
    (s.modPantry n f).fuse = s.fuse ∧ (s.modPantry n f).power = s.power ∧ (s.modPantry n f).link = s.link ∧
    (s.modPantry n f).counters = s.counters ∧ (s.modPantry n f).attic = s.attic ∧
    (s.modPantry n f).clock = s.clock ∧ (s.modPantry n f).boot = s.boot ∧ (s.modPantry n f).hk = s.hk ∧
    (s.modPantry n f).cdac = s.cdac ∧ (s.modPantry n f).chain = s.chain ∧ (s.modPantry n f).tamid = s.tamid ∧
    (s.modPantry n f).carriers = s.carriers ∧ (s.modPantry n f).memory = s.memory ∧
    (s.modPantry n f).rooms = s.rooms ∧ (s.modPantry n f).thermal = s.thermal ∧ (s.modPantry n f).test = s.test ∧
    (s.modPantry n f).flashJob = s.flashJob ∧ (s.modPantry n f).limits = s.limits := by
  refine ⟨?_, ?_, ?_, ?_, ?_, ?_, ?_, ?_, ?_, ?_, ?_, ?_, ?_, ?_, ?_, ?_, ?_, ?_, ?_, ?_, ?_, ?_, ?_, ?_, ?_, ?_, ?_⟩ <;> rfl

@[simp] theorem State.modTamid_other (i : Fin 8) (f : TamidInst → TamidInst) :
    (s.modTamid i f).pending = s.pending ∧ (s.modTamid i f).tick = s.tick ∧ (s.modTamid i f).free = s.free ∧
    (s.modTamid i f).regs = s.regs ∧ (s.modTamid i f).mem = s.mem ∧ (s.modTamid i f).flash = s.flash ∧
    (s.modTamid i f).line = s.line ∧ (s.modTamid i f).host = s.host ∧ (s.modTamid i f).lanes = s.lanes ∧
    (s.modTamid i f).fuse = s.fuse ∧ (s.modTamid i f).power = s.power ∧ (s.modTamid i f).link = s.link ∧
    (s.modTamid i f).counters = s.counters ∧ (s.modTamid i f).attic = s.attic ∧ (s.modTamid i f).clock = s.clock ∧
    (s.modTamid i f).boot = s.boot ∧ (s.modTamid i f).hk = s.hk ∧ (s.modTamid i f).cdac = s.cdac ∧
    (s.modTamid i f).chain = s.chain ∧ (s.modTamid i f).carriers = s.carriers ∧
    (s.modTamid i f).memory = s.memory ∧ (s.modTamid i f).pantry = s.pantry ∧ (s.modTamid i f).rooms = s.rooms ∧
    (s.modTamid i f).thermal = s.thermal ∧ (s.modTamid i f).test = s.test ∧
    (s.modTamid i f).flashJob = s.flashJob ∧ (s.modTamid i f).limits = s.limits := by
  refine ⟨?_, ?_, ?_, ?_, ?_, ?_, ?_, ?_, ?_, ?_, ?_, ?_, ?_, ?_, ?_, ?_, ?_, ?_, ?_, ?_, ?_, ?_, ?_, ?_, ?_, ?_, ?_⟩ <;> rfl

@[simp] theorem State.modCdac_other (c : Fin 32) (f : CdacChannel → CdacChannel) :
    (s.modCdac c f).pending = s.pending ∧ (s.modCdac c f).tick = s.tick ∧ (s.modCdac c f).free = s.free ∧
    (s.modCdac c f).regs = s.regs ∧ (s.modCdac c f).mem = s.mem ∧ (s.modCdac c f).flash = s.flash ∧
    (s.modCdac c f).line = s.line ∧ (s.modCdac c f).host = s.host ∧ (s.modCdac c f).lanes = s.lanes ∧
    (s.modCdac c f).fuse = s.fuse ∧ (s.modCdac c f).power = s.power ∧ (s.modCdac c f).link = s.link ∧
    (s.modCdac c f).counters = s.counters ∧ (s.modCdac c f).attic = s.attic ∧ (s.modCdac c f).clock = s.clock ∧
    (s.modCdac c f).boot = s.boot ∧ (s.modCdac c f).hk = s.hk ∧ (s.modCdac c f).chain = s.chain ∧
    (s.modCdac c f).tamid = s.tamid ∧ (s.modCdac c f).carriers = s.carriers ∧ (s.modCdac c f).memory = s.memory ∧
    (s.modCdac c f).pantry = s.pantry ∧ (s.modCdac c f).rooms = s.rooms ∧ (s.modCdac c f).thermal = s.thermal ∧
    (s.modCdac c f).test = s.test ∧ (s.modCdac c f).flashJob = s.flashJob ∧ (s.modCdac c f).limits = s.limits := by
  refine ⟨?_, ?_, ?_, ?_, ?_, ?_, ?_, ?_, ?_, ?_, ?_, ?_, ?_, ?_, ?_, ?_, ?_, ?_, ?_, ?_, ?_, ?_, ?_, ?_, ?_, ?_, ?_⟩ <;> rfl

@[simp] theorem State.modChain_other (j : Fin 24) (f : ChainState → ChainState) :
    (s.modChain j f).pending = s.pending ∧ (s.modChain j f).tick = s.tick ∧ (s.modChain j f).free = s.free ∧
    (s.modChain j f).regs = s.regs ∧ (s.modChain j f).mem = s.mem ∧ (s.modChain j f).flash = s.flash ∧
    (s.modChain j f).line = s.line ∧ (s.modChain j f).host = s.host ∧ (s.modChain j f).lanes = s.lanes ∧
    (s.modChain j f).fuse = s.fuse ∧ (s.modChain j f).power = s.power ∧ (s.modChain j f).link = s.link ∧
    (s.modChain j f).counters = s.counters ∧ (s.modChain j f).attic = s.attic ∧ (s.modChain j f).clock = s.clock ∧
    (s.modChain j f).boot = s.boot ∧ (s.modChain j f).hk = s.hk ∧ (s.modChain j f).cdac = s.cdac ∧
    (s.modChain j f).tamid = s.tamid ∧ (s.modChain j f).carriers = s.carriers ∧
    (s.modChain j f).memory = s.memory ∧ (s.modChain j f).pantry = s.pantry ∧ (s.modChain j f).rooms = s.rooms ∧
    (s.modChain j f).thermal = s.thermal ∧ (s.modChain j f).test = s.test ∧
    (s.modChain j f).flashJob = s.flashJob ∧ (s.modChain j f).limits = s.limits := by
  refine ⟨?_, ?_, ?_, ?_, ?_, ?_, ?_, ?_, ?_, ?_, ?_, ?_, ?_, ?_, ?_, ?_, ?_, ?_, ?_, ?_, ?_, ?_, ?_, ?_, ?_, ?_, ?_⟩ <;> rfl

@[simp] theorem State.modRoom_other (r : Fin 16) (f : Room → Room) :
    (s.modRoom r f).pending = s.pending ∧ (s.modRoom r f).tick = s.tick ∧ (s.modRoom r f).free = s.free ∧
    (s.modRoom r f).regs = s.regs ∧ (s.modRoom r f).mem = s.mem ∧ (s.modRoom r f).flash = s.flash ∧
    (s.modRoom r f).line = s.line ∧ (s.modRoom r f).host = s.host ∧ (s.modRoom r f).lanes = s.lanes ∧
    (s.modRoom r f).fuse = s.fuse ∧ (s.modRoom r f).power = s.power ∧ (s.modRoom r f).link = s.link ∧
    (s.modRoom r f).counters = s.counters ∧ (s.modRoom r f).attic = s.attic ∧ (s.modRoom r f).clock = s.clock ∧
    (s.modRoom r f).boot = s.boot ∧ (s.modRoom r f).hk = s.hk ∧ (s.modRoom r f).cdac = s.cdac ∧
    (s.modRoom r f).chain = s.chain ∧ (s.modRoom r f).tamid = s.tamid ∧ (s.modRoom r f).carriers = s.carriers ∧
    (s.modRoom r f).memory = s.memory ∧ (s.modRoom r f).pantry = s.pantry ∧ (s.modRoom r f).thermal = s.thermal ∧
    (s.modRoom r f).test = s.test ∧ (s.modRoom r f).flashJob = s.flashJob ∧ (s.modRoom r f).limits = s.limits := by
  refine ⟨?_, ?_, ?_, ?_, ?_, ?_, ?_, ?_, ?_, ?_, ?_, ?_, ?_, ?_, ?_, ?_, ?_, ?_, ?_, ?_, ?_, ?_, ?_, ?_, ?_, ?_, ?_⟩ <;> rfl

@[simp] theorem State.modEngine_other (r : Fin 16) (e : Nat) (f : Engine → Engine) :
    (s.modEngine r e f).pending = s.pending ∧ (s.modEngine r e f).tick = s.tick ∧
    (s.modEngine r e f).free = s.free ∧ (s.modEngine r e f).regs = s.regs ∧ (s.modEngine r e f).mem = s.mem ∧
    (s.modEngine r e f).flash = s.flash ∧ (s.modEngine r e f).line = s.line ∧ (s.modEngine r e f).host = s.host ∧
    (s.modEngine r e f).lanes = s.lanes ∧ (s.modEngine r e f).fuse = s.fuse ∧ (s.modEngine r e f).power = s.power ∧
    (s.modEngine r e f).link = s.link ∧ (s.modEngine r e f).counters = s.counters ∧
    (s.modEngine r e f).attic = s.attic ∧ (s.modEngine r e f).clock = s.clock ∧ (s.modEngine r e f).boot = s.boot ∧
    (s.modEngine r e f).hk = s.hk ∧ (s.modEngine r e f).cdac = s.cdac ∧ (s.modEngine r e f).chain = s.chain ∧
    (s.modEngine r e f).tamid = s.tamid ∧ (s.modEngine r e f).carriers = s.carriers ∧
    (s.modEngine r e f).memory = s.memory ∧ (s.modEngine r e f).pantry = s.pantry ∧
    (s.modEngine r e f).thermal = s.thermal ∧ (s.modEngine r e f).test = s.test ∧
    (s.modEngine r e f).flashJob = s.flashJob ∧ (s.modEngine r e f).limits = s.limits := by
  refine ⟨?_, ?_, ?_, ?_, ?_, ?_, ?_, ?_, ?_, ?_, ?_, ?_, ?_, ?_, ?_, ?_, ?_, ?_, ?_, ?_, ?_, ?_, ?_, ?_, ?_, ?_, ?_⟩ <;> rfl

@[simp] theorem State.setEngine_other (r : Fin 16) (e : Nat) (x : Engine) :
    (s.setEngine r e x).pending = s.pending ∧ (s.setEngine r e x).tick = s.tick ∧
    (s.setEngine r e x).free = s.free ∧ (s.setEngine r e x).regs = s.regs ∧ (s.setEngine r e x).mem = s.mem ∧
    (s.setEngine r e x).flash = s.flash ∧ (s.setEngine r e x).line = s.line ∧ (s.setEngine r e x).host = s.host ∧
    (s.setEngine r e x).lanes = s.lanes ∧ (s.setEngine r e x).fuse = s.fuse ∧ (s.setEngine r e x).power = s.power ∧
    (s.setEngine r e x).link = s.link ∧ (s.setEngine r e x).counters = s.counters ∧
    (s.setEngine r e x).attic = s.attic ∧ (s.setEngine r e x).clock = s.clock ∧ (s.setEngine r e x).boot = s.boot ∧
    (s.setEngine r e x).hk = s.hk ∧ (s.setEngine r e x).cdac = s.cdac ∧ (s.setEngine r e x).chain = s.chain ∧
    (s.setEngine r e x).tamid = s.tamid ∧ (s.setEngine r e x).carriers = s.carriers ∧
    (s.setEngine r e x).memory = s.memory ∧ (s.setEngine r e x).pantry = s.pantry ∧
    (s.setEngine r e x).thermal = s.thermal ∧ (s.setEngine r e x).test = s.test ∧
    (s.setEngine r e x).flashJob = s.flashJob ∧ (s.setEngine r e x).limits = s.limits := by
  refine ⟨?_, ?_, ?_, ?_, ?_, ?_, ?_, ?_, ?_, ?_, ?_, ?_, ?_, ?_, ?_, ?_, ?_, ?_, ?_, ?_, ?_, ?_, ?_, ?_, ?_, ?_, ?_⟩ <;> rfl

@[simp] theorem State.modGuest_other (t : Nat) (f : Guest → Guest) :
    (s.modGuest t f).pending = s.pending ∧ (s.modGuest t f).tick = s.tick ∧ (s.modGuest t f).free = s.free ∧
    (s.modGuest t f).regs = s.regs ∧ (s.modGuest t f).mem = s.mem ∧ (s.modGuest t f).flash = s.flash ∧
    (s.modGuest t f).line = s.line ∧ (s.modGuest t f).host = s.host ∧ (s.modGuest t f).lanes = s.lanes ∧
    (s.modGuest t f).fuse = s.fuse ∧ (s.modGuest t f).power = s.power ∧ (s.modGuest t f).link = s.link ∧
    (s.modGuest t f).counters = s.counters ∧ (s.modGuest t f).attic = s.attic ∧ (s.modGuest t f).clock = s.clock ∧
    (s.modGuest t f).boot = s.boot ∧ (s.modGuest t f).hk = s.hk ∧ (s.modGuest t f).cdac = s.cdac ∧
    (s.modGuest t f).chain = s.chain ∧ (s.modGuest t f).tamid = s.tamid ∧ (s.modGuest t f).carriers = s.carriers ∧
    (s.modGuest t f).memory = s.memory ∧ (s.modGuest t f).pantry = s.pantry ∧
    (s.modGuest t f).thermal = s.thermal ∧ (s.modGuest t f).test = s.test ∧
    (s.modGuest t f).flashJob = s.flashJob ∧ (s.modGuest t f).limits = s.limits := by
  refine ⟨?_, ?_, ?_, ?_, ?_, ?_, ?_, ?_, ?_, ?_, ?_, ?_, ?_, ?_, ?_, ?_, ?_, ?_, ?_, ?_, ?_, ?_, ?_, ?_, ?_, ?_, ?_⟩ <;> rfl

@[simp] theorem State.setCounter_other (k : Nat) (c : Counter) :
    (s.setCounter k c).pending = s.pending ∧ (s.setCounter k c).tick = s.tick ∧ (s.setCounter k c).free = s.free ∧
    (s.setCounter k c).regs = s.regs ∧ (s.setCounter k c).mem = s.mem ∧ (s.setCounter k c).flash = s.flash ∧
    (s.setCounter k c).line = s.line ∧ (s.setCounter k c).host = s.host ∧ (s.setCounter k c).lanes = s.lanes ∧
    (s.setCounter k c).fuse = s.fuse ∧ (s.setCounter k c).power = s.power ∧ (s.setCounter k c).link = s.link ∧
    (s.setCounter k c).attic = s.attic ∧ (s.setCounter k c).clock = s.clock ∧ (s.setCounter k c).boot = s.boot ∧
    (s.setCounter k c).hk = s.hk ∧ (s.setCounter k c).cdac = s.cdac ∧ (s.setCounter k c).chain = s.chain ∧
    (s.setCounter k c).tamid = s.tamid ∧ (s.setCounter k c).carriers = s.carriers ∧
    (s.setCounter k c).memory = s.memory ∧ (s.setCounter k c).pantry = s.pantry ∧
    (s.setCounter k c).rooms = s.rooms ∧ (s.setCounter k c).thermal = s.thermal ∧
    (s.setCounter k c).test = s.test ∧ (s.setCounter k c).flashJob = s.flashJob ∧
    (s.setCounter k c).limits = s.limits := by
  refine ⟨?_, ?_, ?_, ?_, ?_, ?_, ?_, ?_, ?_, ?_, ?_, ?_, ?_, ?_, ?_, ?_, ?_, ?_, ?_, ?_, ?_, ?_, ?_, ?_, ?_, ?_, ?_⟩ <;> rfl

@[simp] theorem State.countEvent_other (ev k : Nat) :
    (s.countEvent ev k).pending = s.pending ∧ (s.countEvent ev k).tick = s.tick ∧
    (s.countEvent ev k).free = s.free ∧ (s.countEvent ev k).regs = s.regs ∧ (s.countEvent ev k).mem = s.mem ∧
    (s.countEvent ev k).flash = s.flash ∧ (s.countEvent ev k).line = s.line ∧ (s.countEvent ev k).host = s.host ∧
    (s.countEvent ev k).lanes = s.lanes ∧ (s.countEvent ev k).fuse = s.fuse ∧ (s.countEvent ev k).power = s.power ∧
    (s.countEvent ev k).link = s.link ∧ (s.countEvent ev k).attic = s.attic ∧ (s.countEvent ev k).clock = s.clock ∧
    (s.countEvent ev k).boot = s.boot ∧ (s.countEvent ev k).hk = s.hk ∧ (s.countEvent ev k).cdac = s.cdac ∧
    (s.countEvent ev k).chain = s.chain ∧ (s.countEvent ev k).tamid = s.tamid ∧
    (s.countEvent ev k).carriers = s.carriers ∧ (s.countEvent ev k).memory = s.memory ∧
    (s.countEvent ev k).pantry = s.pantry ∧ (s.countEvent ev k).rooms = s.rooms ∧
    (s.countEvent ev k).thermal = s.thermal ∧ (s.countEvent ev k).test = s.test ∧
    (s.countEvent ev k).flashJob = s.flashJob ∧ (s.countEvent ev k).limits = s.limits := by
  refine ⟨?_, ?_, ?_, ?_, ?_, ?_, ?_, ?_, ?_, ?_, ?_, ?_, ?_, ?_, ?_, ?_, ?_, ?_, ?_, ?_, ?_, ?_, ?_, ?_, ?_, ?_, ?_⟩ <;> rfl

@[simp] theorem State.settleDue_other :
    (s.settleDue).pending = s.pending ∧ (s.settleDue).tick = s.tick ∧ (s.settleDue).free = s.free ∧
    (s.settleDue).regs = s.regs ∧ (s.settleDue).mem = s.mem ∧ (s.settleDue).flash = s.flash ∧
    (s.settleDue).line = s.line ∧ (s.settleDue).host = s.host ∧ (s.settleDue).lanes = s.lanes ∧
    (s.settleDue).power = s.power ∧ (s.settleDue).link = s.link ∧ (s.settleDue).counters = s.counters ∧
    (s.settleDue).attic = s.attic ∧ (s.settleDue).clock = s.clock ∧ (s.settleDue).boot = s.boot ∧
    (s.settleDue).hk = s.hk ∧ (s.settleDue).cdac = s.cdac ∧ (s.settleDue).chain = s.chain ∧
    (s.settleDue).tamid = s.tamid ∧ (s.settleDue).carriers = s.carriers ∧ (s.settleDue).memory = s.memory ∧
    (s.settleDue).pantry = s.pantry ∧ (s.settleDue).rooms = s.rooms ∧ (s.settleDue).thermal = s.thermal ∧
    (s.settleDue).test = s.test ∧ (s.settleDue).flashJob = s.flashJob ∧ (s.settleDue).limits = s.limits := by
  refine ⟨?_, ?_, ?_, ?_, ?_, ?_, ?_, ?_, ?_, ?_, ?_, ?_, ?_, ?_, ?_, ?_, ?_, ?_, ?_, ?_, ?_, ?_, ?_, ?_, ?_, ?_, ?_⟩ <;> rfl

@[simp] theorem State.modLine_same (n : Fin 8) (f : LineLane → LineLane) : (s.modLine n f).line[n] = f s.line[n] := by
  simp [State.modLine]

theorem State.modLine_ne {n k : Fin 8} (f : LineLane → LineLane) (h : k ≠ n) :
    (s.modLine n f).line[k] = s.line[k] := by
  have : n.val ≠ k.val := fun e => h (Fin.ext e.symm)
  simp [State.modLine, this]

@[simp] theorem State.modHost_same (m : Fin 16) (f : HostLane → HostLane) : (s.modHost m f).host[m] = f s.host[m] := by
  simp [State.modHost]

theorem State.modHost_ne {m k : Fin 16} (f : HostLane → HostLane) (h : k ≠ m) :
    (s.modHost m f).host[k] = s.host[k] := by
  have : m.val ≠ k.val := fun e => h (Fin.ext e.symm)
  simp [State.modHost, this]

@[simp] theorem State.modTamid_same (i : Fin 8) (f : TamidInst → TamidInst) : (s.modTamid i f).tamid[i] = f s.tamid[i] := by
  simp [State.modTamid]

theorem State.modTamid_ne {i k : Fin 8} (f : TamidInst → TamidInst) (h : k ≠ i) :
    (s.modTamid i f).tamid[k] = s.tamid[k] := by
  have : i.val ≠ k.val := fun e => h (Fin.ext e.symm)
  simp [State.modTamid, this]

@[simp] theorem State.modCdac_same (c : Fin 32) (f : CdacChannel → CdacChannel) : (s.modCdac c f).cdac[c] = f s.cdac[c] := by
  simp [State.modCdac]

theorem State.modCdac_ne {c k : Fin 32} (f : CdacChannel → CdacChannel) (h : k ≠ c) :
    (s.modCdac c f).cdac[k] = s.cdac[k] := by
  have : c.val ≠ k.val := fun e => h (Fin.ext e.symm)
  simp [State.modCdac, this]

@[simp] theorem State.modChain_same (j : Fin 24) (f : ChainState → ChainState) : (s.modChain j f).chain[j] = f s.chain[j] := by
  simp [State.modChain]

theorem State.modChain_ne {j k : Fin 24} (f : ChainState → ChainState) (h : k ≠ j) :
    (s.modChain j f).chain[k] = s.chain[k] := by
  have : j.val ≠ k.val := fun e => h (Fin.ext e.symm)
  simp [State.modChain, this]

@[simp] theorem State.modAdc_same (n : Fin 8) (f : AdcState → AdcState) :
    (s.modAdc n f).line[n] = { s.line[n] with adc := f s.line[n].adc } := s.modLine_same n _

theorem State.modAdc_ne {n k : Fin 8} (f : AdcState → AdcState) (h : k ≠ n) : (s.modAdc n f).line[k] = s.line[k] := s.modLine_ne _ h

@[simp] theorem State.modRx_same (n : Fin 8) (f : LineRx → LineRx) :
    (s.modRx n f).line[n] = { s.line[n] with rx := f s.line[n].rx } := s.modLine_same n _

theorem State.modRx_ne {n k : Fin 8} (f : LineRx → LineRx) (h : k ≠ n) : (s.modRx n f).line[k] = s.line[k] := s.modLine_ne _ h

@[simp] theorem State.modTx_same (n : Fin 8) (f : LineTx → LineTx) :
    (s.modTx n f).line[n] = { s.line[n] with tx := f s.line[n].tx } := s.modLine_same n _

theorem State.modTx_ne {n k : Fin 8} (f : LineTx → LineTx) (h : k ≠ n) : (s.modTx n f).line[k] = s.line[k] := s.modLine_ne _ h

@[simp] theorem State.modLinkOf_same (n : Fin 8) (f : LaneLink → LaneLink) :
    (s.modLinkOf n f).line[n] = { s.line[n] with link := f s.line[n].link } := s.modLine_same n _

theorem State.modLinkOf_ne {n k : Fin 8} (f : LaneLink → LaneLink) (h : k ≠ n) : (s.modLinkOf n f).line[k] = s.line[k] := s.modLine_ne _ h

@[simp] theorem State.modPantry_same (n : Fin 8) (f : PantryLane → PantryLane) :
    (s.modPantry n f).pantry.lanes[n] = f s.pantry.lanes[n] := by
  simp [State.modPantry]

@[simp] theorem State.modRoom_same (r : Fin 16) (f : Room → Room) :
    (s.modRoom r f).rooms.rooms[r] = f s.rooms.rooms[r] := by
  simp [State.modRoom]

end Sys2Proof.Machine
end

