-- ==== Sys2Proof/Laws/Raises.lean ====
section
/-! SUPPORT. What a raise leaves alone: every part but the Fuse Box, the counters, the Attic and the link, and every register
outside the System block (R334); and that a raise that is taken puts its source in the active set (R340). -/

namespace Sys2Proof.Machine

/-- The registers outside the System block. -/
def Regs.sameOutside (r r' : List (Nat × Word)) : Prop := ∀ a, fuseBase ≤ a → Regs.reg r' a = Regs.reg r a

theorem Regs.sameOutside_fld {r r' : List (Nat × Word)} (h : Regs.sameOutside r r') {b : Nat} (f : Field)
    (hb : fuseBase ≤ b) : Regs.fld r' b f = Regs.fld r b f := by
  rw [Regs.fld, h _ (by omega), Regs.fld]

theorem Regs.sameOutside.trans {r r' r'' : List (Nat × Word)} (h : Regs.sameOutside r r') (k : Regs.sameOutside r' r'') :
    Regs.sameOutside r r'' := fun a ha => (k a ha).trans (h a ha)

theorem Regs.sameOutside_setFld (r : List (Nat × Word)) (f : Field) (v : Nat) (hf : f.off < 0x10000) :
    Regs.sameOutside r (Regs.setFld r systemBase f v) := fun a ha =>
  Regs.reg_setFld_ne r (by simp only [systemBase, fuseBase] at *; omega)

theorem State.attnEdge_regs (s : State) (low : Bool) : (s.attnEdge low).regs = s.regs := by
  unfold State.attnEdge; split <;> rfl

theorem State.attn_sameOutside (s : State) (f : Field) (hf : f.off < 0x10000) : Regs.sameOutside s.regs (s.attn f).regs := by
  rw [State.attn, State.attnEdge_regs]
  exact Regs.sameOutside_setFld _ _ _ hf

theorem State.raiseCore_sameOutside (s : State) (src detail hide : Nat) :
    Regs.sameOutside s.regs (s.raiseCore src detail hide).regs := by
  unfold State.raiseCore
  split
  · exact fun _ _ => rfl
  · split
    · exact fun _ _ => rfl
    · dsimp only
      have k : ∀ (u : State) (c : Bool), Regs.sameOutside u.regs
          (if c then u.attn Reg.ATTN_CAUSE_FAULT else u).regs := by
        intro u c
        cases c
        · exact fun _ _ => rfl
        · exact u.attn_sameOutside _ (by decide)
      have k2 : ∀ (u : State) (c d : Bool), Regs.sameOutside u.regs
          (if d then ((if c then u.attn Reg.ATTN_CAUSE_FAULT else u).attn Reg.ATTN_CAUSE_SAFE).setFld systemBase
            Reg.STATUS_DEV_STATE 4 else if c then u.attn Reg.ATTN_CAUSE_FAULT else u).regs := by
        intro u c d
        cases d
        · exact k u c
        · exact ((k u c).trans (State.attn_sameOutside _ _ (by decide))).trans (Regs.sameOutside_setFld _ _ _ (by decide))
      refine Regs.sameOutside.trans (r' := (State.countEvent _ 0x6101 1).regs) ?_ (k2 (State.countEvent _ 0x6101 1) _ _)
      exact fun _ _ => rfl

theorem State.pushRecord_sameOutside (s : State) (r : AtticRecord) : Regs.sameOutside s.regs (s.pushRecord r).regs := by
  unfold State.pushRecord
  split
  · exact fun _ _ => rfl
  · exact State.raiseCore_sameOutside _ _ _ _

theorem State.atticEvent_sameOutside (s : State) (t : Nat) (p : List Byte) :
    Regs.sameOutside s.regs (s.atticEvent t p).regs := by
  unfold State.atticEvent
  split
  · dsimp only
    split
    · exact fun _ _ => rfl
    · generalize s.formRecord t p = r
      exact State.pushRecord_sameOutside { s with attic := _ } r
  · exact fun _ _ => rfl

theorem State.raiseHiding_sameOutside (s : State) (src detail hide : Nat) :
    Regs.sameOutside s.regs (s.raiseHiding src detail hide).regs := by
  have c := s.raiseCore_sameOutside src detail hide
  unfold State.raiseHiding
  dsimp only
  have k : ∀ (u : State) (x y : Bool), Regs.sameOutside u.regs
      (if x then (if y then { u with attic := { u.attic with safeStates := satNat 16 (u.attic.safeStates + 1) } } else u).atticEvent 2
        (if y then { u with attic := { u.attic with safeStates := satNat 16 (u.attic.safeStates + 1) } } else u).faultPayload
       else (if y then { u with attic := { u.attic with safeStates := satNat 16 (u.attic.safeStates + 1) } } else u)).regs := by
    intro u x y
    cases x <;> cases y
    · exact fun _ _ => rfl
    · exact fun _ _ => rfl
    · exact State.atticEvent_sameOutside _ _ _
    · exact State.atticEvent_sameOutside { u with attic := { u.attic with safeStates := satNat 16 (u.attic.safeStates + 1) } } _ _
  exact c.trans (k _ _ _)

/-- A raise changes no register outside the System block. -/
theorem State.raise_sameOutside (s : State) (src detail : Nat) : Regs.sameOutside s.regs (s.raise src detail).regs :=
  s.raiseHiding_sameOutside _ _ _

theorem State.raiseOpen_sameOutside (s : State) (src : Nat) : Regs.sameOutside s.regs (s.raiseOpen src).regs :=
  State.raise_sameOutside { s with free := s.free + 1 } _ _

theorem State.raiseLimited_sameOutside (s : State) (key src detail : Nat) :
    Regs.sameOutside s.regs (s.raiseLimited key src detail).regs := by
  unfold State.raiseLimited
  split
  · split
    · exact fun _ _ => rfl
    · exact State.raise_sameOutside { s with limits := _ } _ _
  · exact State.raise_sameOutside { s with limits := _ } _ _

theorem State.leave_regs (s : State) (src : Nat) : (s.leave src).regs = s.regs := rfl

theorem State.quiet_regs (s : State) (src : Nat) : (s.quiet src).regs = s.regs := by
  unfold State.quiet
  dsimp only
  split
  · rfl
  · split <;> rfl

theorem State.clearByPart_regs (s : State) (src : Nat) : (s.clearByPart src).regs = s.regs := rfl

/-! ### What a raise that is taken does -/

theorem FuseBox.activate_mem (f : FuseBox) (src src' : Nat) (q : Bool)
    (h : ∃ e ∈ f.active, e.src = src' ∧ e.cleared = false) :
    ∃ e ∈ (f.activate src q).active, e.src = src' ∧ e.cleared = false := by
  obtain ⟨e, he, hs, hc⟩ := h
  by_cases k : src' = src
  · exact ⟨⟨src, false, _⟩, List.mem_append_right _ (List.mem_singleton_self _), k.symm, rfl⟩
  · exact ⟨e, List.mem_append_left _ (List.mem_filter.2 ⟨he, by simpa [hs] using k⟩), hs, hc⟩

theorem FuseBox.activate_self (f : FuseBox) (src : Nat) (q : Bool) :
    ∃ e ∈ (f.activate src q).active, e.src = src ∧ e.cleared = false :=
  ⟨⟨src, false, _⟩, List.mem_append_right _ (List.mem_singleton_self _), rfl, rfl⟩

/-- The Fuse Box and what is in it stay active through the changes of a raise that leave the active set. -/
theorem FuseBox.enter_active (f : FuseBox) (e : HistEntry) : (f.enter e).active = f.active := by
  unfold FuseBox.enter; split <;> rfl

@[simp] theorem State.attnEdge_fuse (s : State) (low : Bool) : (s.attnEdge low).fuse = s.fuse := by
  unfold State.attnEdge; split <;> rfl

@[simp] theorem State.attn_fuse (s : State) (f : Field) : (s.attn f).fuse = s.fuse := by
  rw [State.attn, State.attnEdge_fuse, (State.setFlag_other _ _ _ _).2.2.2.2.2.2.2.2.1]

/-- The reactions that a raise of the source starts (R333, R334): its set without the hidden fixed reactions, and in safe
state LOG and ATTN only. -/
def State.effSet (s : State) (src hide : Nat) : Nat :=
  if s.fuse.safe then s.srcSet src &&& ((0x1FF - hide % 0x200) % 0x200) &&& (rLog ||| rAttn)
  else s.srcSet src &&& ((0x1FF - hide % 0x200) % 0x200)

theorem State.raiseCore_active {s : State} {src detail hide : Nat} (h : s.takes src detail) :
    (s.raiseCore src detail hide).fuse.active =
      (s.fuse.activate src ((s.effSet src hide &&& rSquelch != 0) && !(dueCause src).isEmpty)).active := by
  obtain ⟨h1, h2, h3, h4⟩ := h
  obtain ⟨sev, hs⟩ := Option.isSome_iff_exists.1 h1
  unfold State.raiseCore
  rw [hs]
  dsimp only
  rw [if_neg (by simp only [h2, h3, h4]; decide)]
  have k : ∀ (u : State) (c d : Bool),
      (if d then ((if c then u.attn Reg.ATTN_CAUSE_FAULT else u).attn Reg.ATTN_CAUSE_SAFE).setFld systemBase
        Reg.STATUS_DEV_STATE 4 else if c then u.attn Reg.ATTN_CAUSE_FAULT else u).fuse = u.fuse := by
    intro u c d
    cases c <;> cases d <;> simp
  rw [k]
  simp only [State.countEvent_other, apply_ite FuseBox.active, ite_self, FuseBox.enter_active, State.effSet]
  simp only [FuseBox.activate, apply_ite FuseBox.active, ite_self]

theorem State.raiseCore_keeps {s : State} {src : Nat} (h : s.isActive src) (src' detail hide : Nat) :
    (s.raiseCore src' detail hide).isActive src := by
  by_cases k : s.takes src' detail
  · rw [State.isActive, State.raiseCore_active k]
    exact s.fuse.activate_mem _ _ _ h
  · have : s.raiseCore src' detail hide = s := by
      unfold State.raiseCore
      split
      · rfl
      · rename_i hs
        rw [if_pos]
        by_contra c
        refine k ⟨by simp [hs], ?_⟩
        simpa [and_assoc] using c
    rw [this]
    exact h

theorem State.pushRecord_keeps {s : State} {src : Nat} (h : s.isActive src) (r : AtticRecord) :
    (s.pushRecord r).isActive src := by
  unfold State.pushRecord
  split
  · exact h
  · apply State.raiseCore_keeps
    exact h

theorem State.atticEvent_keeps {s : State} {src : Nat} (h : s.isActive src) (t : Nat) (p : List Byte) :
    (s.atticEvent t p).isActive src := by
  unfold State.atticEvent
  split
  · dsimp only
    split
    · exact h
    · generalize s.formRecord t p = r
      apply State.pushRecord_keeps
      exact h
  · exact h

theorem State.raiseHiding_active {s : State} {src detail hide : Nat} (h : s.takes src detail) :
    (s.raiseHiding src detail hide).isActive src := by
  have c : (s.raiseCore src detail hide).isActive src := by
    rw [State.isActive, State.raiseCore_active h]
    exact s.fuse.activate_self _ _
  unfold State.raiseHiding
  dsimp only
  have k : ∀ (u : State) (x y : Bool), u.isActive src →
      (if x then (if y then { u with attic := { u.attic with safeStates := satNat 16 (u.attic.safeStates + 1) } } else u).atticEvent 2
        (if y then { u with attic := { u.attic with safeStates := satNat 16 (u.attic.safeStates + 1) } } else u).faultPayload
       else (if y then { u with attic := { u.attic with safeStates := satNat 16 (u.attic.safeStates + 1) } } else u)).isActive src := by
    intro u x y hu
    cases x <;> cases y
    · exact hu
    · exact hu
    · exact State.atticEvent_keeps hu _ _
    · exact State.atticEvent_keeps (s := { u with attic := { u.attic with safeStates := satNat 16 (u.attic.safeStates + 1) } }) hu _ _
  exact k _ _ _ c

/-- A raise that is taken puts its source in the active set (R340). -/
theorem State.raise_isActive {s : State} {src detail : Nat} (h : s.takes src (detail % 0x10000)) :
    (s.raise src detail).isActive src := State.raiseHiding_active h

/-- A source that is active stays active through the raise of any source. -/
theorem State.raise_keeps {s : State} {src : Nat} (h : s.isActive src) (src' detail : Nat) :
    (s.raise src' detail).isActive src := by
  have c : (s.raiseCore src' (detail % 0x10000) 0).isActive src := State.raiseCore_keeps h _ _ _
  unfold State.raise State.raiseHiding
  dsimp only
  have k : ∀ (u : State) (x y : Bool), u.isActive src →
      (if x then (if y then { u with attic := { u.attic with safeStates := satNat 16 (u.attic.safeStates + 1) } } else u).atticEvent 2
        (if y then { u with attic := { u.attic with safeStates := satNat 16 (u.attic.safeStates + 1) } } else u).faultPayload
       else (if y then { u with attic := { u.attic with safeStates := satNat 16 (u.attic.safeStates + 1) } } else u)).isActive src := by
    intro u x y hu
    cases x <;> cases y
    · exact hu
    · exact hu
    · exact State.atticEvent_keeps hu _ _
    · exact State.atticEvent_keeps (s := { u with attic := { u.attic with safeStates := satNat 16 (u.attic.safeStates + 1) } }) hu _ _
  exact k _ _ _ c

end Sys2Proof.Machine
end

