-- ==== Sys2Proof/Laws/Frame.lean ====
section
/-! SUPPORT. What every command can change before its reactions, from the lemmas of the commands, and the rules that carry a
register or a part past an operation that leaves it alone. -/

namespace Sys2Proof.Machine

/-- Every command answers a next state, and before its reactions it changes nothing outside its parts. -/
theorem exec_runs (c : Instr) (s : State) : Runs c.parts s (exec c s) := by
  cases c with
  | writePacket bytes => exact (execWritePacket_runs bytes s).mono (by dsimp only [Instr.parts]; decide)
  | writePacketA bytes => exact (execWritePacketA_runs bytes s).mono (by dsimp only [Instr.parts]; decide)
  | writePacketB bytes => exact (execWritePacketB_runs bytes s).mono (by dsimp only [Instr.parts]; decide)
  | readReply complete => exact (execReadReply_runs complete s).mono (by dsimp only [Instr.parts]; decide)
  | writeFront index value arriving => exact (execWriteFront_runs index value arriving s).mono (by dsimp only [Instr.parts]; decide)
  | readFront index count => exact (execReadFront_runs index count s).mono (by dsimp only [Instr.parts]; decide)
  | i3cCcc ccc => exact (execI3cCcc_runs ccc s).mono (by dsimp only [Instr.parts]; decide)
  | commandComplete seq opcode => exact (execCommandComplete_runs seq opcode s).mono (by dsimp only [Instr.parts]; decide)
  | readReg o addr words => exact (execReadReg_runs o addr words s).mono (by dsimp only [Instr.parts]; decide)
  | writeReg o pairs => exact (execWriteReg_runs o pairs s).mono (by dsimp only [Instr.parts]; decide)
  | registerWrite by_ addr value arriving => exact (execRegisterWrite_runs by_ addr value arriving s).mono (by dsimp only [Instr.parts]; decide)
  | rcFieldRead addr arriving => exact (execRcFieldRead_runs addr arriving s).mono (by dsimp only [Instr.parts]; decide)
  | ping o data => exact (execPing_runs o data s).mono (by dsimp only [Instr.parts]; decide)
  | getInfo o => exact (execGetInfo_runs o s).mono (by dsimp only [Instr.parts]; decide)
  | getState o => exact (execGetState_runs o s).mono (by dsimp only [Instr.parts]; decide)
  | setProfile o profile => exact (execSetProfile_runs o profile s).mono (by dsimp only [Instr.parts]; decide)
  | setLaneMode o mode grouping => exact (execSetLaneMode_runs o mode grouping s).mono (by dsimp only [Instr.parts]; decide)
  | resetAll o key => exact (execResetAll_runs o key s).mono (by dsimp only [Instr.parts]; decide)
  | resetAllStart => exact (execResetAllStart_runs s).mono (by dsimp only [Instr.parts]; decide)
  | ctrlHandover o => exact (execCtrlHandover_runs o s).mono (by dsimp only [Instr.parts]; decide)
  | imageLoad o offset data => exact (execImageLoad_runs o offset data s).mono (by dsimp only [Instr.parts]; decide)
  | imageCommit o length => exact (execImageCommit_runs o length s).mono (by dsimp only [Instr.parts]; decide)
  | lineStatus o mask => exact (execLineStatus_runs o mask s).mono (by dsimp only [Instr.parts]; decide)
  | hostStatus o mask => exact (execHostStatus_runs o mask s).mono (by dsimp only [Instr.parts]; decide)
  | retirePage o page => exact (execRetirePage_runs o page s).mono (by dsimp only [Instr.parts]; decide)
  | eccLogRead o mem flags => exact (execEccLogRead_runs o mem flags s).mono (by dsimp only [Instr.parts]; decide)
  | memRead o addr count findings => exact (execMemRead_runs o addr count findings s).mono (by dsimp only [Instr.parts]; decide)
  | memWrite o addr data => exact (execMemWrite_runs o addr data s).mono (by dsimp only [Instr.parts]; decide)
  | faultRead o => exact (execFaultRead_runs o s).mono (by dsimp only [Instr.parts]; decide)
  | faultClear o bits => exact (execFaultClear_runs o bits s).mono (by dsimp only [Instr.parts]; decide)
  | faultConfig o src set => exact (execFaultConfig_runs o src set s).mono (by dsimp only [Instr.parts]; decide)
  | faultThreshold o sev => exact (execFaultThreshold_runs o sev s).mono (by dsimp only [Instr.parts]; decide)
  | powerVote o dom vote linger => exact (execPowerVote_runs o dom vote linger s).mono (by dsimp only [Instr.parts]; decide)
  | powerState o st => exact (execPowerState_runs o st s).mono (by dsimp only [Instr.parts]; decide)
  | powerStatus o => exact (execPowerStatus_runs o s).mono (by dsimp only [Instr.parts]; decide)
  | hkRead o mask => exact (execHkRead_runs o mask s).mono (by dsimp only [Instr.parts]; decide)
  | cdacQueue o ch count codes => exact (execCdacQueue_runs o ch count codes s).mono (by dsimp only [Instr.parts]; decide)
  | cdacConfig o ch flags rate step safe => exact (execCdacConfig_runs o ch flags rate step safe s).mono (by dsimp only [Instr.parts]; decide)
  | tamidConfig o inst carrier fsk depth method st => exact (execTamidConfig_runs o inst carrier fsk depth method st s).mono (by dsimp only [Instr.parts]; decide)
  | tamidSend o inst len payload => exact (execTamidSend_runs o inst len payload s).mono (by dsimp only [Instr.parts]; decide)
  | tamidReceive o inst => exact (execTamidReceive_runs o inst s).mono (by dsimp only [Instr.parts]; decide)
  | tamidStatus o => exact (execTamidStatus_runs o s).mono (by dsimp only [Instr.parts]; decide)
  | roomStatus o => exact (execRoomStatus_runs o s).mono (by dsimp only [Instr.parts]; decide)
  | engineMap o room => exact (execEngineMap_runs o room s).mono (by dsimp only [Instr.parts]; decide)
  | guestLoad o engine b1 offset data => exact (execGuestLoad_runs o engine b1 offset data s).mono (by dsimp only [Instr.parts]; decide)
  | guestStart o engine => exact (execGuestStart_runs o engine s).mono (by dsimp only [Instr.parts]; decide)
  | guestStop o engine => exact (execGuestStop_runs o engine s).mono (by dsimp only [Instr.parts]; decide)
  | guestStatus o => exact (execGuestStatus_runs o s).mono (by dsimp only [Instr.parts]; decide)
  | guestMailbox o engine count words => exact (execGuestMailbox_runs o engine count words s).mono (by dsimp only [Instr.parts]; decide)
  | counterConfig o k event threshold => exact (execCounterConfig_runs o k event threshold s).mono (by dsimp only [Instr.parts]; decide)
  | counterRead o first count => exact (execCounterRead_runs o first count s).mono (by dsimp only [Instr.parts]; decide)
  | counterDump o period => exact (execCounterDump_runs o period s).mono (by dsimp only [Instr.parts]; decide)
  | counterGrant o g => exact (execCounterGrant_runs o g s).mono (by dsimp only [Instr.parts]; decide)
  | atticRead o index count => exact (execAtticRead_runs o index count s).mono (by dsimp only [Instr.parts]; decide)
  | loopback o kind unit code => exact (execLoopback_runs o kind unit code s).mono (by dsimp only [Instr.parts]; decide)
  | bistStatus o => exact (execBistStatus_runs o s).mono (by dsimp only [Instr.parts]; decide)
  | deepTest o test args => exact (execDeepTest_runs o test args s).mono (by dsimp only [Instr.parts]; decide)
  | lifecycleAdvance o target token => exact (execLifecycleAdvance_runs o target token s).mono (by dsimp only [Instr.parts]; decide)
  | flashWrite o offset flags zeros data => exact (execFlashWrite_runs o offset flags zeros data s).mono (by dsimp only [Instr.parts]; decide)
  | calQuality o kind => exact (execCalQuality_runs o kind s).mono (by dsimp only [Instr.parts]; decide)
  | pantryRead o object first count => exact (execPantryRead_runs o object first count s).mono (by dsimp only [Instr.parts]; decide)
  | pantryFreeze o mask freeze => exact (execPantryFreeze_runs o mask freeze s).mono (by dsimp only [Instr.parts]; decide)
  | pantryClear o mask => exact (execPantryClear_runs o mask s).mono (by dsimp only [Instr.parts]; decide)
  | sync o => exact (execSync_runs o s).mono (by dsimp only [Instr.parts]; decide)
  | setCalendar o sec usec => exact (execSetCalendar_runs o sec usec s).mono (by dsimp only [Instr.parts]; decide)
  | getTime o => exact (execGetTime_runs o s).mono (by dsimp only [Instr.parts]; decide)
  | ledgerRead o mask => exact (execLedgerRead_runs o mask s).mono (by dsimp only [Instr.parts]; decide)
  | ctrlWatchdogRestart ctl => exact (execCtrlWatchdogRestart_runs ctl s).mono (by dsimp only [Instr.parts]; decide)
  | holderWatchdogExpiry => exact (execHolderWatchdogExpiry_runs s).mono (by dsimp only [Instr.parts]; decide)
  | ctrlRejoin ctl selfTestOk => exact (execCtrlRejoin_runs ctl selfTestOk s).mono (by dsimp only [Instr.parts]; decide)
  | followerWatchdogExpiry => exact (execFollowerWatchdogExpiry_runs s).mono (by dsimp only [Instr.parts]; decide)
  | noController => exact (execNoController_runs s).mono (by dsimp only [Instr.parts]; decide)
  | dualClaim ctl => exact (execDualClaim_runs ctl s).mono (by dsimp only [Instr.parts]; decide)
  | keyUpset bit resolvable => exact (execKeyUpset_runs bit resolvable s).mono (by dsimp only [Instr.parts]; decide)
  | resetNFall => exact (execResetNFall_runs s).mono (by dsimp only [Instr.parts]; decide)
  | supplyRelease straps xtal => exact (execSupplyRelease_runs straps xtal s).mono (by dsimp only [Instr.parts]; decide)
  | resetNRise straps => exact (execResetNRise_runs straps s).mono (by dsimp only [Instr.parts]; decide)
  | bootStepDone ev => exact (execBootStepDone_runs ev s).mono (by dsimp only [Instr.parts]; decide)
  | trafficReadySet => exact (execTrafficReadySet_runs s).mono (by dsimp only [Instr.parts]; decide)
  | corePllLock => exact (execCorePllLock_runs s).mono (by dsimp only [Instr.parts]; decide)
  | synthLock k => exact (execSynthLock_runs k s).mono (by dsimp only [Instr.parts]; decide)
  | refLoss freq => exact (execRefLoss_runs freq s).mono (by dsimp only [Instr.parts]; decide)
  | holdoverEnd => exact (execHoldoverEnd_runs s).mono (by dsimp only [Instr.parts]; decide)
  | refReturn locks => exact (execRefReturn_runs locks s).mono (by dsimp only [Instr.parts]; decide)
  | coreUnlock => exact (execCoreUnlock_runs s).mono (by dsimp only [Instr.parts]; decide)
  | coreRelockRetry locks => exact (execCoreRelockRetry_runs locks s).mono (by dsimp only [Instr.parts]; decide)
  | synthUnlock k => exact (execSynthUnlock_runs k s).mono (by dsimp only [Instr.parts]; decide)
  | syncInEdge fine explicitToo => exact (execSyncInEdge_runs fine explicitToo s).mono (by dsimp only [Instr.parts]; decide)
  | syncNow => exact (execSyncNow_runs s).mono (by dsimp only [Instr.parts]; decide)
  | aoDiscipline trim temp => exact (execAoDiscipline_runs trim temp s).mono (by dsimp only [Instr.parts]; decide)
  | disciplineOld => exact (execDisciplineOld_runs s).mono (by dsimp only [Instr.parts]; decide)
  | xtalFail => exact (execXtalFail_runs s).mono (by dsimp only [Instr.parts]; decide)
  | dtLoRead => exact (execDtLoRead_runs s).mono (by dsimp only [Instr.parts]; decide)
  | calSecLoRead => exact (execCalSecLoRead_runs s).mono (by dsimp only [Instr.parts]; decide)
  | followRange n stream ppm => exact (execFollowRange_runs n stream ppm s).mono (by dsimp only [Instr.parts]; decide)
  | followRangeEnd n stream ppm => exact (execFollowRangeEnd_runs n stream ppm s).mono (by dsimp only [Instr.parts]; decide)
  | pairSlip n skew slips => exact (execPairSlip_runs n skew slips s).mono (by dsimp only [Instr.parts]; decide)
  | pairRealignDone n => exact (execPairRealignDone_runs n s).mono (by dsimp only [Instr.parts]; decide)
  | deskewRange n host skew => exact (execDeskewRange_runs n host skew s).mono (by dsimp only [Instr.parts]; decide)
  | deskewRetry n host skew => exact (execDeskewRetry_runs n host skew s).mono (by dsimp only [Instr.parts]; decide)
  | groupRealignDone n => exact (execGroupRealignDone_runs n s).mono (by dsimp only [Instr.parts]; decide)
  | laneModeChangeDone => exact (execLaneModeChangeDone_runs s).mono (by dsimp only [Instr.parts]; decide)
  | profileGroupSwitch n => exact (execProfileGroupSwitch_runs n s).mono (by dsimp only [Instr.parts]; decide)
  | profileGroupRealigned n => exact (execProfileGroupRealigned_runs n s).mono (by dsimp only [Instr.parts]; decide)
  | ledgerRecompute n which dev wait unsettling => exact (execLedgerRecompute_runs n which dev wait unsettling s).mono (by dsimp only [Instr.parts]; decide)
  | ledgerSettle n which dev wait unsettling => exact (execLedgerSettle_runs n which dev wait unsettling s).mono (by dsimp only [Instr.parts]; decide)
  | afeLevelUpdate n level => exact (execAfeLevelUpdate_runs n level s).mono (by dsimp only [Instr.parts]; decide)
  | vgaWindow n high total meanSquare => exact (execVgaWindow_runs n high total meanSquare s).mono (by dsimp only [Instr.parts]; decide)
  | afeCtrlWrite n value => exact (execAfeCtrlWrite_runs n value s).mono (by dsimp only [Instr.parts]; decide)
  | adcBlockEnd n stats => exact (execAdcBlockEnd_runs n stats s).mono (by dsimp only [Instr.parts]; decide)
  | ovrWindow n high total => exact (execOvrWindow_runs n high total s).mono (by dsimp only [Instr.parts]; decide)
  | adcConverged n => exact (execAdcConverged_runs n s).mono (by dsimp only [Instr.parts]; decide)
  | rotationStep n => exact (execRotationStep_runs n s).mono (by dsimp only [Instr.parts]; decide)
  | spareCalDone n ramps => exact (execSpareCalDone_runs n ramps s).mono (by dsimp only [Instr.parts]; decide)
  | rotationHandover n blocks spur abrupt => exact (execRotationHandover_runs n blocks spur abrupt s).mono (by dsimp only [Instr.parts]; decide)
  | rotationAbort n => exact (execRotationAbort_runs n s).mono (by dsimp only [Instr.parts]; decide)
  | sliceCheckFlag n slice conv => exact (execSliceCheckFlag_runs n slice conv s).mono (by dsimp only [Instr.parts]; decide)
  | sliceAbruptFault n signs => exact (execSliceAbruptFault_runs n signs s).mono (by dsimp only [Instr.parts]; decide)
  | sliceDegrading n slice => exact (execSliceDegrading_runs n slice s).mono (by dsimp only [Instr.parts]; decide)
  | substSpareArrived n => exact (execSubstSpareArrived_runs n s).mono (by dsimp only [Instr.parts]; decide)
  | urgentSubstHandover n blocks => exact (execUrgentSubstHandover_runs n blocks s).mono (by dsimp only [Instr.parts]; decide)
  | substRetry n => exact (execSubstRetry_runs n s).mono (by dsimp only [Instr.parts]; decide)
  | substReq n slice detector => exact (execSubstReq_runs n slice detector s).mono (by dsimp only [Instr.parts]; decide)
  | ffeWindow n symbols => exact (execFfeWindow_runs n symbols s).mono (by dsimp only [Instr.parts]; decide)
  | timingUpdate n o => exact (execTimingUpdate_runs n o s).mono (by dsimp only [Instr.parts]; decide)
  | mlseLevelUpdate n symbols => exact (execMlseLevelUpdate_runs n symbols s).mono (by dsimp only [Instr.parts]; decide)
  | nlcSwap n lockLost => exact (execNlcSwap_runs n lockLost s).mono (by dsimp only [Instr.parts]; decide)
  | nlcEngineSwap n => exact (execNlcEngineSwap_runs n s).mono (by dsimp only [Instr.parts]; decide)
  | nlcFadeComplete n => exact (execNlcFadeComplete_runs n s).mono (by dsimp only [Instr.parts]; decide)
  | nlcFadeResume n => exact (execNlcFadeResume_runs n s).mono (by dsimp only [Instr.parts]; decide)
  | nlcBankWrite n bank idx value swap => exact (execNlcBankWrite_runs n bank idx value swap s).mono (by dsimp only [Instr.parts]; decide)
  | nlcEnWrite n en => exact (execNlcEnWrite_runs n en s).mono (by dsimp only [Instr.parts]; decide)
  | lineReacq n => exact (execLineReacq_runs n s).mono (by dsimp only [Instr.parts]; decide)
  | lineRxPrecodeWrite n on => exact (execLineRxPrecodeWrite_runs n on s).mono (by dsimp only [Instr.parts]; decide)
  | lineAcqStepDone n r => exact (execLineAcqStepDone_runs n r s).mono (by dsimp only [Instr.parts]; decide)
  | lineAcqStepTimeout n => exact (execLineAcqStepTimeout_runs n s).mono (by dsimp only [Instr.parts]; decide)
  | acqFail n => exact (execAcqFail_runs n s).mono (by dsimp only [Instr.parts]; decide)
  | lineSignalPresent n => exact (execLineSignalPresent_runs n s).mono (by dsimp only [Instr.parts]; decide)
  | lineLos n => exact (execLineLos_runs n s).mono (by dsimp only [Instr.parts]; decide)
  | lineLosEnd n within100ms => exact (execLineLosEnd_runs n within100ms s).mono (by dsimp only [Instr.parts]; decide)
  | lineFreqLimit n => exact (execLineFreqLimit_runs n s).mono (by dsimp only [Instr.parts]; decide)
  | lineRelockTimeout n => exact (execLineRelockTimeout_runs n s).mono (by dsimp only [Instr.parts]; decide)
  | snrPublish n symbols err => exact (execSnrPublish_runs n symbols err s).mono (by dsimp only [Instr.parts]; decide)
  | lineFrameReceived n words => exact (execLineFrameReceived_runs n words s).mono (by dsimp only [Instr.parts]; decide)
  | innerCodewordDecode n soft marker => exact (execInnerCodewordDecode_runs n soft marker s).mono (by dsimp only [Instr.parts]; decide)
  | kp4Codeword m mon word => exact (execKp4Codeword_runs m mon word s).mono (by dsimp only [Instr.parts]; decide)
  | kp4CwLockAcquired m tests => exact (execKp4CwLockAcquired_runs m tests s).mono (by dsimp only [Instr.parts]; decide)
  | counterBlockSnap b alsoClr arrived => exact (execCounterBlockSnap_runs b alsoClr arrived s).mono (by dsimp only [Instr.parts]; decide)
  | counterBlockClr b arrived => exact (execCounterBlockClr_runs b arrived s).mono (by dsimp only [Instr.parts]; decide)
  | berPublish n => exact (execBerPublish_runs n s).mono (by dsimp only [Instr.parts]; decide)
  | terminateWrite m mon on => exact (execTerminateWrite_runs m mon on s).mono (by dsimp only [Instr.parts]; decide)
  | txEnable n => exact (execTxEnable_runs n s).mono (by dsimp only [Instr.parts]; decide)
  | txCalDone n => exact (execTxCalDone_runs n s).mono (by dsimp only [Instr.parts]; decide)
  | txCmRampDone n => exact (execTxCmRampDone_runs n s).mono (by dsimp only [Instr.parts]; decide)
  | txAmpRampDone n => exact (execTxAmpRampDone_runs n s).mono (by dsimp only [Instr.parts]; decide)
  | txDisable n => exact (execTxDisable_runs n s).mono (by dsimp only [Instr.parts]; decide)
  | txFallDone n => exact (execTxFallDone_runs n s).mono (by dsimp only [Instr.parts]; decide)
  | txSquelchWrite n on => exact (execTxSquelchWrite_runs n on s).mono (by dsimp only [Instr.parts]; decide)
  | txPrecodeWrite n on => exact (execTxPrecodeWrite_runs n on s).mono (by dsimp only [Instr.parts]; decide)
  | txFirApply n => exact (execTxFirApply_runs n s).mono (by dsimp only [Instr.parts]; decide)
  | txGlideStep n => exact (execTxGlideStep_runs n s).mono (by dsimp only [Instr.parts]; decide)
  | pdSwap n stopping => exact (execPdSwap_runs n stopping s).mono (by dsimp only [Instr.parts]; decide)
  | pdFadeComplete n => exact (execPdFadeComplete_runs n s).mono (by dsimp only [Instr.parts]; decide)
  | pdFadeResume n => exact (execPdFadeResume_runs n s).mono (by dsimp only [Instr.parts]; decide)
  | pdBankWrite n bank idx value swap => exact (execPdBankWrite_runs n bank idx value swap s).mono (by dsimp only [Instr.parts]; decide)
  | pdEnWrite n en => exact (execPdEnWrite_runs n en s).mono (by dsimp only [Instr.parts]; decide)
  | txSatWindow n count => exact (execTxSatWindow_runs n count s).mono (by dsimp only [Instr.parts]; decide)
  | cellRotationStep n sub => exact (execCellRotationStep_runs n sub s).mono (by dsimp only [Instr.parts]; decide)
  | cellTrimDone n sub => exact (execCellTrimDone_runs n sub s).mono (by dsimp only [Instr.parts]; decide)
  | dacCellAbrupt n sub cell handover => exact (execDacCellAbrupt_runs n sub cell handover s).mono (by dsimp only [Instr.parts]; decide)
  | dacCellDegrading n sub cell => exact (execDacCellDegrading_runs n sub cell s).mono (by dsimp only [Instr.parts]; decide)
  | subdacTrimUpdate n trims spur => exact (execSubdacTrimUpdate_runs n trims spur s).mono (by dsimp only [Instr.parts]; decide)
  | txPatSelWrite n sel => exact (execTxPatSelWrite_runs n sel s).mono (by dsimp only [Instr.parts]; decide)
  | lineChkSelWrite n sel => exact (execLineChkSelWrite_runs n sel s).mono (by dsimp only [Instr.parts]; decide)
  | chkLockAcquired k symbols => exact (execChkLockAcquired_runs k symbols s).mono (by dsimp only [Instr.parts]; decide)
  | chkLockLoss k compared => exact (execChkLockLoss_runs k compared s).mono (by dsimp only [Instr.parts]; decide)
  | censusSample n clock => exact (execCensusSample_runs n clock s).mono (by dsimp only [Instr.parts]; decide)
  | pantryFreezeWrite n on => exact (execPantryFreezeWrite_runs n on s).mono (by dsimp only [Instr.parts]; decide)
  | pantryClearWrite n => exact (execPantryClearWrite_runs n s).mono (by dsimp only [Instr.parts]; decide)
  | pantryClearDone n => exact (execPantryClearDone_runs n s).mono (by dsimp only [Instr.parts]; decide)
  | updaterFail n => exact (execUpdaterFail_runs n s).mono (by dsimp only [Instr.parts]; decide)
  | cancellerDerive n => exact (execCancellerDerive_runs n s).mono (by dsimp only [Instr.parts]; decide)
  | cancellerInstall n hostSwap => exact (execCancellerInstall_runs n hostSwap s).mono (by dsimp only [Instr.parts]; decide)
  | installEvaluate n => exact (execInstallEvaluate_runs n s).mono (by dsimp only [Instr.parts]; decide)
  | proposalSend n => exact (execProposalSend_runs n s).mono (by dsimp only [Instr.parts]; decide)
  | proposeReceived n => exact (execProposeReceived_runs n s).mono (by dsimp only [Instr.parts]; decide)
  | ackReceived n => exact (execAckReceived_runs n s).mono (by dsimp only [Instr.parts]; decide)
  | revertReceived n => exact (execRevertReceived_runs n s).mono (by dsimp only [Instr.parts]; decide)
  | proposalTimeout n => exact (execProposalTimeout_runs n s).mono (by dsimp only [Instr.parts]; decide)
  | proposalAssemblyTimeout n => exact (execProposalAssemblyTimeout_runs n s).mono (by dsimp only [Instr.parts]; decide)
  | htFirApply m training => exact (execHtFirApply_runs m training s).mono (by dsimp only [Instr.parts]; decide)
  | presetApply m preset firApply => exact (execPresetApply_runs m preset firApply s).mono (by dsimp only [Instr.parts]; decide)
  | hostTxPrecodeWrite m on => exact (execHostTxPrecodeWrite_runs m on s).mono (by dsimp only [Instr.parts]; decide)
  | hostRxPrecodeWrite m on => exact (execHostRxPrecodeWrite_runs m on s).mono (by dsimp only [Instr.parts]; decide)
  | htEnable m => exact (execHtEnable_runs m s).mono (by dsimp only [Instr.parts]; decide)
  | htDisable m => exact (execHtDisable_runs m s).mono (by dsimp only [Instr.parts]; decide)
  | htOffReached m => exact (execHtOffReached_runs m s).mono (by dsimp only [Instr.parts]; decide)
  | htSquelchWrite m on => exact (execHtSquelchWrite_runs m on s).mono (by dsimp only [Instr.parts]; decide)
  | hrEnable m on => exact (execHrEnable_runs m on s).mono (by dsimp only [Instr.parts]; decide)
  | hostReacq m => exact (execHostReacq_runs m s).mono (by dsimp only [Instr.parts]; decide)
  | hostCtleWrite m man set => exact (execHostCtleWrite_runs m man set s).mono (by dsimp only [Instr.parts]; decide)
  | hostAcqStepDone m r => exact (execHostAcqStepDone_runs m r s).mono (by dsimp only [Instr.parts]; decide)
  | hostAcqStepTimeout m => exact (execHostAcqStepTimeout_runs m s).mono (by dsimp only [Instr.parts]; decide)
  | hrAcqFail m => exact (execHrAcqFail_runs m s).mono (by dsimp only [Instr.parts]; decide)
  | hrSignalPresent m => exact (execHrSignalPresent_runs m s).mono (by dsimp only [Instr.parts]; decide)
  | hrLos m => exact (execHrLos_runs m s).mono (by dsimp only [Instr.parts]; decide)
  | hrLosEnd m within100ms => exact (execHrLosEnd_runs m within100ms s).mono (by dsimp only [Instr.parts]; decide)
  | hostRxUpdate m u => exact (execHostRxUpdate_runs m u s).mono (by dsimp only [Instr.parts]; decide)
  | hrCdrLimit m => exact (execHrCdrLimit_runs m s).mono (by dsimp only [Instr.parts]; decide)
  | hostRelockTimeout m => exact (execHostRelockTimeout_runs m s).mono (by dsimp only [Instr.parts]; decide)
  | hrQualPublish m q => exact (execHrQualPublish_runs m q s).mono (by dsimp only [Instr.parts]; decide)
  | trainStart m => exact (execTrainStart_runs m s).mono (by dsimp only [Instr.parts]; decide)
  | trainRequestReceived m req => exact (execTrainRequestReceived_runs m req s).mono (by dsimp only [Instr.parts]; decide)
  | trainRequesterStep m rise => exact (execTrainRequesterStep_runs m rise s).mono (by dsimp only [Instr.parts]; decide)
  | trainDone m => exact (execTrainDone_runs m s).mono (by dsimp only [Instr.parts]; decide)
  | trainFail m => exact (execTrainFail_runs m s).mono (by dsimp only [Instr.parts]; decide)
  | htSleepWrite m on => exact (execHtSleepWrite_runs m on s).mono (by dsimp only [Instr.parts]; decide)
  | hrSleepWrite m on reacq => exact (execHrSleepWrite_runs m on reacq s).mono (by dsimp only [Instr.parts]; decide)
  | hostPatSelWrite m sel => exact (execHostPatSelWrite_runs m sel s).mono (by dsimp only [Instr.parts]; decide)
  | hostChkSelWrite m sel => exact (execHostChkSelWrite_runs m sel s).mono (by dsimp only [Instr.parts]; decide)
  | txOutput m percent => exact (execTxOutput_runs m percent s).mono (by dsimp only [Instr.parts]; decide)
  | engNop r e => exact (execEngNop_runs r e s).mono (by dsimp only [Instr.parts]; decide)
  | engAdd r e => exact (execEngAdd_runs r e s).mono (by dsimp only [Instr.parts]; decide)
  | engAdds r e => exact (execEngAdds_runs r e s).mono (by dsimp only [Instr.parts]; decide)
  | engSub r e => exact (execEngSub_runs r e s).mono (by dsimp only [Instr.parts]; decide)
  | engSubs r e => exact (execEngSubs_runs r e s).mono (by dsimp only [Instr.parts]; decide)
  | engAnd r e => exact (execEngAnd_runs r e s).mono (by dsimp only [Instr.parts]; decide)
  | engOr r e => exact (execEngOr_runs r e s).mono (by dsimp only [Instr.parts]; decide)
  | engXor r e => exact (execEngXor_runs r e s).mono (by dsimp only [Instr.parts]; decide)
  | engAsr r e => exact (execEngAsr_runs r e s).mono (by dsimp only [Instr.parts]; decide)
  | engLsl r e => exact (execEngLsl_runs r e s).mono (by dsimp only [Instr.parts]; decide)
  | engLsr r e => exact (execEngLsr_runs r e s).mono (by dsimp only [Instr.parts]; decide)
  | engAbs r e => exact (execEngAbs_runs r e s).mono (by dsimp only [Instr.parts]; decide)
  | engNeg r e => exact (execEngNeg_runs r e s).mono (by dsimp only [Instr.parts]; decide)
  | engCmp r e => exact (execEngCmp_runs r e s).mono (by dsimp only [Instr.parts]; decide)
  | engMov r e => exact (execEngMov_runs r e s).mono (by dsimp only [Instr.parts]; decide)
  | engLdi r e => exact (execEngLdi_runs r e s).mono (by dsimp only [Instr.parts]; decide)
  | engAddi r e => exact (execEngAddi_runs r e s).mono (by dsimp only [Instr.parts]; decide)
  | engAndi r e => exact (execEngAndi_runs r e s).mono (by dsimp only [Instr.parts]; decide)
  | engAsri r e => exact (execEngAsri_runs r e s).mono (by dsimp only [Instr.parts]; decide)
  | engLsli r e => exact (execEngLsli_runs r e s).mono (by dsimp only [Instr.parts]; decide)
  | engCmpi r e => exact (execEngCmpi_runs r e s).mono (by dsimp only [Instr.parts]; decide)
  | engSeta r e => exact (execEngSeta_runs r e s).mono (by dsimp only [Instr.parts]; decide)
  | engSeto r e => exact (execEngSeto_runs r e s).mono (by dsimp only [Instr.parts]; decide)
  | engMvda r e => exact (execEngMvda_runs r e s).mono (by dsimp only [Instr.parts]; decide)
  | engMvad r e => exact (execEngMvad_runs r e s).mono (by dsimp only [Instr.parts]; decide)
  | engLd r e => exact (execEngLd_runs r e s).mono (by dsimp only [Instr.parts]; decide)
  | engSt r e => exact (execEngSt_runs r e s).mono (by dsimp only [Instr.parts]; decide)
  | engLdd r e => exact (execEngLdd_runs r e s).mono (by dsimp only [Instr.parts]; decide)
  | engSha r e => exact (execEngSha_runs r e s).mono (by dsimp only [Instr.parts]; decide)
  | engMac r e => exact (execEngMac_runs r e s).mono (by dsimp only [Instr.parts]; decide)
  | engMsu r e => exact (execEngMsu_runs r e s).mono (by dsimp only [Instr.parts]; decide)
  | engMpy r e => exact (execEngMpy_runs r e s).mono (by dsimp only [Instr.parts]; decide)
  | engMacd r e => exact (execEngMacd_runs r e s).mono (by dsimp only [Instr.parts]; decide)
  | engClr r e => exact (execEngClr_runs r e s).mono (by dsimp only [Instr.parts]; decide)
  | engSta r e => exact (execEngSta_runs r e s).mono (by dsimp only [Instr.parts]; decide)
  | engMvac r e => exact (execEngMvac_runs r e s).mono (by dsimp only [Instr.parts]; decide)
  | engLacc r e => exact (execEngLacc_runs r e s).mono (by dsimp only [Instr.parts]; decide)
  | engBr r e => exact (execEngBr_runs r e s).mono (by dsimp only [Instr.parts]; decide)
  | engCall r e => exact (execEngCall_runs r e s).mono (by dsimp only [Instr.parts]; decide)
  | engRet r e => exact (execEngRet_runs r e s).mono (by dsimp only [Instr.parts]; decide)
  | engRep r e => exact (execEngRep_runs r e s).mono (by dsimp only [Instr.parts]; decide)
  | engRpb r e => exact (execEngRpb_runs r e s).mono (by dsimp only [Instr.parts]; decide)
  | engWait r e => exact (execEngWait_runs r e s).mono (by dsimp only [Instr.parts]; decide)
  | engEvret r e => exact (execEngEvret_runs r e s).mono (by dsimp only [Instr.parts]; decide)
  | engHbt r e => exact (execEngHbt_runs r e s).mono (by dsimp only [Instr.parts]; decide)
  | engSig r e => exact (execEngSig_runs r e s).mono (by dsimp only [Instr.parts]; decide)
  | engMfs r e => exact (execEngMfs_runs r e s).mono (by dsimp only [Instr.parts]; decide)
  | engMvs r e => exact (execEngMvs_runs r e s).mono (by dsimp only [Instr.parts]; decide)
  | engHalt r e => exact (execEngHalt_runs r e s).mono (by dsimp only [Instr.parts]; decide)
  | engFld r e => exact (execEngFld_runs r e s).mono (by dsimp only [Instr.parts]; decide)
  | engFst r e => exact (execEngFst_runs r e s).mono (by dsimp only [Instr.parts]; decide)
  | engMvfp r e => exact (execEngMvfp_runs r e s).mono (by dsimp only [Instr.parts]; decide)
  | engIn r e => exact (execEngIn_runs r e s).mono (by dsimp only [Instr.parts]; decide)
  | engOut r e => exact (execEngOut_runs r e s).mono (by dsimp only [Instr.parts]; decide)
  | engPub r e => exact (execEngPub_runs r e s).mono (by dsimp only [Instr.parts]; decide)
  | shadowSetTaken r e => exact (execShadowSetTaken_runs r e s).mono (by dsimp only [Instr.parts]; decide)
  | engineEventEntry r e => exact (execEngineEventEntry_runs r e s).mono (by dsimp only [Instr.parts]; decide)
  | engineTimerExpiry r e => exact (execEngineTimerExpiry_runs r e s).mono (by dsimp only [Instr.parts]; decide)
  | engineWatchdogExpiry r e => exact (execEngineWatchdogExpiry_runs r e s).mono (by dsimp only [Instr.parts]; decide)
  | engineFault r e code => exact (execEngineFault_runs r e code s).mono (by dsimp only [Instr.parts]; decide)
  | checkpointSnapshot r t => exact (execCheckpointSnapshot_runs r t s).mono (by dsimp only [Instr.parts]; decide)
  | checkpointCommit r t => exact (execCheckpointCommit_runs r t s).mono (by dsimp only [Instr.parts]; decide)
  | takeoverResume r e => exact (execTakeoverResume_runs r e s).mono (by dsimp only [Instr.parts]; decide)
  | scrubStep f => exact (execScrubStep_runs f s).mono (by dsimp only [Instr.parts]; decide)
  | pageReconstructDone page => exact (execPageReconstructDone_runs page s).mono (by dsimp only [Instr.parts]; decide)
  | ceWindow mem => exact (execCeWindow_runs mem s).mono (by dsimp only [Instr.parts]; decide)
  | pageRetireDone found => exact (execPageRetireDone_runs found s).mono (by dsimp only [Instr.parts]; decide)
  | bankRetire bank init => exact (execBankRetire_runs bank init s).mono (by dsimp only [Instr.parts]; decide)
  | bankRetireDone found => exact (execBankRetireDone_runs found s).mono (by dsimp only [Instr.parts]; decide)
  | bankInit bank => exact (execBankInit_runs bank s).mono (by dsimp only [Instr.parts]; decide)
  | bankInitDone => exact (execBankInitDone_runs s).mono (by dsimp only [Instr.parts]; decide)
  | faultRaise raises => exact (execFaultRaise_runs raises s).mono (by dsimp only [Instr.parts]; decide)
  | pathBroken src => exact (execPathBroken_runs src s).mono (by dsimp only [Instr.parts]; decide)
  | pathRestored src fault detail => exact (execPathRestored_runs src fault detail s).mono (by dsimp only [Instr.parts]; decide)
  | levelSourceQuiet src => exact (execLevelSourceQuiet_runs src s).mono (by dsimp only [Instr.parts]; decide)
  | fbUpset word resolvable => exact (execFbUpset_runs word resolvable s).mono (by dsimp only [Instr.parts]; decide)
  | ffr0Read => exact (execFfr0Read_runs s).mono (by dsimp only [Instr.parts]; decide)
  | lingerExpiry d => exact (execLingerExpiry_runs d s).mono (by dsimp only [Instr.parts]; decide)
  | domainEntryStep d => exact (execDomainEntryStep_runs d s).mono (by dsimp only [Instr.parts]; decide)
  | domainWakeRequest d => exact (execDomainWakeRequest_runs d s).mono (by dsimp only [Instr.parts]; decide)
  | domainUndoDone d => exact (execDomainUndoDone_runs d s).mono (by dsimp only [Instr.parts]; decide)
  | domainReady d lostBanks regLost => exact (execDomainReady_runs d lostBanks regLost s).mono (by dsimp only [Instr.parts]; decide)
  | wakeTimeout d => exact (execWakeTimeout_runs d s).mono (by dsimp only [Instr.parts]; decide)
  | dozeExit => exact (execDozeExit_runs s).mono (by dsimp only [Instr.parts]; decide)
  | deepEntryStep => exact (execDeepEntryStep_runs s).mono (by dsimp only [Instr.parts]; decide)
  | deepWakeTimer => exact (execDeepWakeTimer_runs s).mono (by dsimp only [Instr.parts]; decide)
  | deepExitComplete lostBanks => exact (execDeepExitComplete_runs lostBanks s).mono (by dsimp only [Instr.parts]; decide)
  | aoSensorReading ao => exact (execAoSensorReading_runs ao s).mono (by dsimp only [Instr.parts]; decide)
  | brownout => exact (execBrownout_runs s).mono (by dsimp only [Instr.parts]; decide)
  | lineRxSleepWrite mask => exact (execLineRxSleepWrite_runs mask s).mono (by dsimp only [Instr.parts]; decide)
  | hkRoundStart => exact (execHkRoundStart_runs s).mono (by dsimp only [Instr.parts]; decide)
  | hkConversion volts other vref => exact (execHkConversion_runs volts other vref s).mono (by dsimp only [Instr.parts]; decide)
  | hkRoundEnd => exact (execHkRoundEnd_runs s).mono (by dsimp only [Instr.parts]; decide)
  | hkTriggerTimerExpiry k => exact (execHkTriggerTimerExpiry_runs k s).mono (by dsimp only [Instr.parts]; decide)
  | hkTrigger k busy => exact (execHkTrigger_runs k busy s).mono (by dsimp only [Instr.parts]; decide)
  | hkTriggerConversionDone k volts other vref => exact (execHkTriggerConversionDone_runs k volts other vref s).mono (by dsimp only [Instr.parts]; decide)
  | cdacSampleTick c => exact (execCdacSampleTick_runs c s).mono (by dsimp only [Instr.parts]; decide)
  | cdacRangeSwitch c => exact (execCdacRangeSwitch_runs c s).mono (by dsimp only [Instr.parts]; decide)
  | mcStart j => exact (execMcStart_runs j s).mono (by dsimp only [Instr.parts]; decide)
  | mcStop j => exact (execMcStop_runs j s).mono (by dsimp only [Instr.parts]; decide)
  | mcSwap j => exact (execMcSwap_runs j s).mono (by dsimp only [Instr.parts]; decide)
  | mcConfigWrite j offset value => exact (execMcConfigWrite_runs j offset value s).mono (by dsimp only [Instr.parts]; decide)
  | mcForceFbWrite j on => exact (execMcForceFbWrite_runs j on s).mono (by dsimp only [Instr.parts]; decide)
  | mcOutput j samples => exact (execMcOutput_runs j samples s).mono (by dsimp only [Instr.parts]; decide)
  | mcFadeComplete j => exact (execMcFadeComplete_runs j s).mono (by dsimp only [Instr.parts]; decide)
  | chainFault j => exact (execChainFault_runs j s).mono (by dsimp only [Instr.parts]; decide)
  | thermalCompare elements => exact (execThermalCompare_runs elements s).mono (by dsimp only [Instr.parts]; decide)
  | shutdownFlashDrain op offset data => exact (execShutdownFlashDrain_runs op offset data s).mono (by dsimp only [Instr.parts]; decide)
  | thermalRestart lostBanks => exact (execThermalRestart_runs lostBanks s).mono (by dsimp only [Instr.parts]; decide)
  | sensorMismatch site a b => exact (execSensorMismatch_runs site a b s).mono (by dsimp only [Instr.parts]; decide)
  | sensorMismatchClear site a b => exact (execSensorMismatchClear_runs site a b s).mono (by dsimp only [Instr.parts]; decide)
  | thermalPeriodChange => exact (execThermalPeriodChange_runs s).mono (by dsimp only [Instr.parts]; decide)
  | calInterpolate => exact (execCalInterpolate_runs s).mono (by dsimp only [Instr.parts]; decide)
  | tamidTransitionDone inst spectrum => exact (execTamidTransitionDone_runs inst spectrum s).mono (by dsimp only [Instr.parts]; decide)
  | tamidPacketStart inst spectrum => exact (execTamidPacketStart_runs inst spectrum s).mono (by dsimp only [Instr.parts]; decide)
  | tamidPacketEnd inst => exact (execTamidPacketEnd_runs inst s).mono (by dsimp only [Instr.parts]; decide)
  | tamidAgcUpdate inst level => exact (execTamidAgcUpdate_runs inst level s).mono (by dsimp only [Instr.parts]; decide)
  | tamidDetect inst corr level => exact (execTamidDetect_runs inst corr level s).mono (by dsimp only [Instr.parts]; decide)
  | tamidSyncAccept inst word afc delay => exact (execTamidSyncAccept_runs inst word afc delay s).mono (by dsimp only [Instr.parts]; decide)
  | tamidSyncTimeout inst => exact (execTamidSyncTimeout_runs inst s).mono (by dsimp only [Instr.parts]; decide)
  | tamidPacketReceived inst raw => exact (execTamidPacketReceived_runs inst raw s).mono (by dsimp only [Instr.parts]; decide)
  | tamidCapture inst level => exact (execTamidCapture_runs inst level s).mono (by dsimp only [Instr.parts]; decide)
  | uliraCmd inst => exact (execUliraCmd_runs inst s).mono (by dsimp only [Instr.parts]; decide)
  | tamidCalSlice inst ev => exact (execTamidCalSlice_runs inst ev s).mono (by dsimp only [Instr.parts]; decide)
  | tamidCacheExpiry half carrier => exact (execTamidCacheExpiry_runs half carrier s).mono (by dsimp only [Instr.parts]; decide)
  | tamidShapeWrite inst j value => exact (execTamidShapeWrite_runs inst j value s).mono (by dsimp only [Instr.parts]; decide)
  | cntSnap alsoClr => exact (execCntSnap_runs alsoClr s).mono (by dsimp only [Instr.parts]; decide)
  | cntClr => exact (execCntClr_runs s).mono (by dsimp only [Instr.parts]; decide)
  | cntLiveLoRead k port => exact (execCntLiveLoRead_runs k port s).mono (by dsimp only [Instr.parts]; decide)
  | bwWindowEnd => exact (execBwWindowEnd_runs s).mono (by dsimp only [Instr.parts]; decide)
  | bwWindowWrite window => exact (execBwWindowWrite_runs window s).mono (by dsimp only [Instr.parts]; decide)
  | counterDumpLatch => exact (execCounterDumpLatch_runs s).mono (by dsimp only [Instr.parts]; decide)
  | dumpWriteDone => exact (execDumpWriteDone_runs s).mono (by dsimp only [Instr.parts]; decide)
  | atticPeriodic => exact (execAtticPeriodic_runs s).mono (by dsimp only [Instr.parts]; decide)
  | atticRecordWrite eraseOk verify1 verify2 => exact (execAtticRecordWrite_runs eraseOk verify1 verify2 s).mono (by dsimp only [Instr.parts]; decide)
  | atticStandingWrite ok => exact (execAtticStandingWrite_runs ok s).mono (by dsimp only [Instr.parts]; decide)
  | lifecycleProgramDone verified => exact (execLifecycleProgramDone_runs verified s).mono (by dsimp only [Instr.parts]; decide)
  | deepTestDone pass coverage signature results => exact (execDeepTestDone_runs pass coverage signature results s).mono (by dsimp only [Instr.parts]; decide)
  | bistTurn => exact (execBistTurn_runs s).mono (by dsimp only [Instr.parts]; decide)
  | bistSliceEnd sl result coverage duration cell => exact (execBistSliceEnd_runs sl result coverage duration cell s).mono (by dsimp only [Instr.parts]; decide)
  | bistEnWrite on => exact (execBistEnWrite_runs on s).mono (by dsimp only [Instr.parts]; decide)
  | jtagInstruction trstLow ins => exact (execJtagInstruction_runs trstLow ins s).mono (by dsimp only [Instr.parts]; decide)
  | railLoss rails => exact (execRailLoss_runs rails s).mono (by dsimp only [Instr.parts]; decide)
  | vidEvaluate target => exact (execVidEvaluate_runs target s).mono (by dsimp only [Instr.parts]; decide)
  | vidStep => exact (execVidStep_runs s).mono (by dsimp only [Instr.parts]; decide)

theorem Evolves.reg {ps : List Part} {s t : State} (h : Evolves ps s t) {a : Nat} (ha : regPart a ∉ ps) :
    t.reg a = s.reg a := h.only.reg ha

/-- A field outside the parts that an operation changes reads as before. -/
theorem Evolves.fld {ps : List Part} {s t : State} (h : Evolves ps s t) {base : Nat} {f : Field}
    (ha : regPart (base + f.off) ∉ ps) : t.fld base f = s.fld base f := by
  rw [State.fld, State.fld, h.reg ha]

theorem Evolves.flag {ps : List Part} {s t : State} (h : Evolves ps s t) {base : Nat} {f : Field}
    (ha : regPart (base + f.off) ∉ ps) : t.flag base f = s.flag base f := by
  rw [State.flag, State.flag, h.fld ha]

end Sys2Proof.Machine
end

