-- ==== Sys2Proof/Machine/Balls.lean ====
section
/-! DEFINITION. What the balls show (Table 20-6), with the boundary scan in front of the outputs (R453, R484). -/

namespace Sys2Proof.Machine

open Reg

/-- The balls of Table 20-6. -/
inductive Ball where
  | ltx (n : Fin 8)
  | htx (m : Fin 16)
  | lrx (n : Fin 8)
  | hrx (m : Fin 16)
  | cdac (c : Fin 32)
  | faultN
  | attnN
  | mgtDo
  | flCsN
  | flClk
  | vid
  | otherInput
  deriving DecidableEq, Repr

/-- What a ball shows. -/
inductive BallShows where
  | noCurrent
  | highImpedance
  | unterminated
  | terminated
  | passiveClamp
  | clamped
  | idle
  | off
  | driven
  | low
  | high
  | released
  | code (k : Nat)
  | voltage (v : Rat)
  | input
  /-- The boundary cells of EXTEST drive it. -/
  | boundary
  deriving DecidableEq, Repr

/-- VDDIO is absent: the supplies have not released the part, and no rail has fallen beside a present VDDIO (R470, R471). -/
def State.vddioAbsent (s : State) : Bool := !s.boot.released && s.boot.rails == 0

/-- The boundary cells drive the outputs: an EXTEST instruction of IEEE 1149.1 or 1149.6 stands in the TAP. -/
def Tap.drives (t : Tap) : Bool :=
  !t.trstLow && (t.ins == .extest || t.ins == .extestPulse || t.ins == .extestTrain)

/-- The first column of Table 20-6. -/
def ballUnpowered : Ball → BallShows
  | .ltx _ => .noCurrent
  | .cdac _ => .passiveClamp
  | .lrx _ | .hrx _ => .unterminated
  | _ => .highImpedance

/-- The second column: in reset, or with rails incomplete. -/
def ballInReset : Ball → BallShows
  | .ltx _ => .noCurrent
  | .htx _ => .idle
  | .lrx _ | .hrx _ => .unterminated
  | .cdac _ => .clamped
  | .faultN | .attnN => .released
  | .flCsN => .high
  | .flClk => .low
  | .mgtDo | .vid | .otherInput => .highImpedance

/-- The third column, after the effective edge of RESET_N. -/
def State.ballRunning (s : State) : Ball → BallShows
  | .ltx n => if s.lineSends n 0 = .currentless then .noCurrent else .driven
  | .htx m => if s.htState m = 0 then .off else .driven
  | .lrx n => if s.domOn (domLineRx n) then .terminated else .unterminated
  | .hrx m => if s.domOn (domHostRx m) then .terminated else .unterminated
  | .cdac c => if s.cdState c = 0 ∨ s.cdac[c].clampEngaged then .clamped else .voltage (s.cdVolts c)
  | .faultN => if s.faultLow then .low else .released
  | .attnN => if s.attnLow then .low else .released
  | .mgtDo => if s.fld systemBase STRAP_STATUS_BUS_SEL = 0 then .driven else .highImpedance
  | .flCsN | .flClk => .driven
  | .vid => .code (s.fld systemBase VID_CTRL_CODE)
  | .otherInput => .input

/-- What a ball shows (R474). -/
def State.ballShows (s : State) (b : Ball) : BallShows :=
  if s.vddioAbsent then ballUnpowered b
  else if s.test.tap.drives && !(match b with | .lrx _ | .hrx _ | .otherInput => true | _ => false) then .boundary
  else if s.boot.resetHigh then s.ballRunning b
  else ballInReset b

end Sys2Proof.Machine
end

