-- ==== Sys2Proof/WellFormed.lean ====
section
/-! DEFINITION. Well-formed commands: the shapes that the operands' types do not enforce (list lengths, limits of packets and
parameters, counts that belong together).  A meaning is given for every term; no meaning assumes this check. -/

namespace Sys2Proof

/-- The longest command packet: a header of 8 bytes, 1,024 bytes of parameters and the CRC (R267). -/
def packetMax : Nat := 1036

/-- Data of 4 to 1,020 bytes, a multiple of 4 (Tables 11-11 to 11-15). -/
def isChunk (n : Nat) : Bool := decide (4 ≤ n ∧ n ≤ 1020) && n % 4 == 0

/-- No member twice. -/
def distinct {α : Type} [DecidableEq α] : List α → Bool
  | [] => true
  | a :: t => !t.contains a && distinct t

/-- One entry per position 0 to 15 (R61). -/
def BlockStats.wf (b : BlockStats) : Bool :=
  b.mean.length == 16 && b.power.length == 16 && b.corr.length == 16 && b.hcorr.length == 16

/-- The taps of the host transmitter are numbered −2 to 2 (R199). -/
def TrainRequest.wf : TrainRequest → Bool
  | .step tap _ => decide (-2 ≤ tap ∧ tap ≤ 2)
  | .preset k => decide (k < 16)
  | .precoding _ => true

/-- The address of a page lies at its beginning: 4,096 bytes (R310). -/
def PageId.wf (p : PageId) : Bool := p.addr % 4096 == 0

/-- The operands have the shape that the command's row gives them. -/
def Instr.wf (i : Instr) : Bool :=
  match i with
  | .writePacket bytes => decide (bytes.length ≤ packetMax)
  | .writePacketA bytes => decide (bytes.length ≤ packetMax)
  | .writePacketB bytes => decide (bytes.length ≤ packetMax)
  | .readReply _ => true
  | .writeFront _ _ _ => true
  | .readFront _ count => decide (1 ≤ count)
  | .i3cCcc _ => true
  | .commandComplete .. => true
  | .readReg _ _ _ => true
  | .writeReg _ pairs => decide (1 ≤ pairs.length ∧ pairs.length ≤ 128)
  | .registerWrite _ _ _ _ => true
  | .rcFieldRead _ _ => true
  | .ping _ data => decide (data.length ≤ 1024)
  | .getInfo _ => true
  | .getState _ => true
  | .setProfile _ _ => true
  | .setLaneMode _ _ _ => true
  | .resetAll _ _ => true
  | .resetAllStart => true
  | .ctrlHandover _ => true
  | .imageLoad _ _ data => isChunk data.length
  | .imageCommit _ _ => true
  | .lineStatus _ _ => true
  | .hostStatus _ _ => true
  | .retirePage _ _ => true
  | .eccLogRead _ _ _ => true
  | .memRead _ _ _ _ => true
  | .memWrite _ _ data => isChunk data.length
  | .faultRead _ => true
  | .faultClear _ _ => true
  | .faultConfig _ _ _ => true
  | .faultThreshold _ _ => true
  | .powerVote _ _ _ _ => true
  | .powerState _ _ => true
  | .powerStatus _ => true
  | .hkRead _ _ => true
  | .cdacQueue _ _ count codes => codes.length == count.toNat
  | .cdacConfig _ _ _ _ _ _ => true
  | .tamidConfig _ _ _ _ _ _ _ => true
  | .tamidSend _ _ len payload => payload.length == len.toNat
  | .tamidReceive _ _ => true
  | .tamidStatus _ => true
  | .roomStatus _ => true
  | .engineMap _ _ => true
  | .guestLoad _ _ _ _ data => isChunk data.length
  | .guestStart _ _ => true
  | .guestStop _ _ => true
  | .guestStatus _ => true
  | .guestMailbox _ _ count words => words.length == count.toNat
  | .counterConfig _ _ _ _ => true
  | .counterRead _ _ _ => true
  | .counterDump _ _ => true
  | .counterGrant _ _ => true
  | .atticRead _ _ _ => true
  | .loopback _ _ _ _ => true
  | .bistStatus _ => true
  | .deepTest _ _ args => decide (args.length ≤ 1022)
  | .lifecycleAdvance _ _ token => decide (token.length ≤ 1023)
  | .flashWrite _ _ _ _ data => decide (data.length ≤ 1016)
  | .calQuality _ _ => true
  | .pantryRead _ _ _ _ => true
  | .pantryFreeze _ _ _ => true
  | .pantryClear _ _ => true
  | .sync _ => true
  | .setCalendar _ _ _ => true
  | .getTime _ => true
  | .ledgerRead _ _ => true
  | .ctrlWatchdogRestart _ => true
  | .holderWatchdogExpiry => true
  | .ctrlRejoin _ _ => true
  | .followerWatchdogExpiry => true
  | .noController => true
  | .dualClaim _ => true
  | .keyUpset _ _ => true
  | .resetNFall => true
  | .supplyRelease _ _ => true
  | .resetNRise _ => true
  | .bootStepDone _ => true
  | .trafficReadySet => true
  | .corePllLock => true
  | .synthLock _ => true
  | .refLoss _ => true
  | .holdoverEnd => true
  | .refReturn _ => true
  | .coreUnlock => true
  | .coreRelockRetry _ => true
  | .synthUnlock _ => true
  | .syncInEdge _ _ => true
  | .syncNow => true
  | .aoDiscipline _ temp => decide (-40 ≤ temp ∧ temp ≤ 150)
  | .disciplineOld => true
  | .xtalFail => true
  | .dtLoRead => true
  | .calSecLoRead => true
  | .followRange _ _ _ => true
  | .followRangeEnd _ _ _ => true
  | .pairSlip _ _ _ => true
  | .pairRealignDone _ => true
  | .deskewRange _ _ _ => true
  | .deskewRetry _ _ _ => true
  | .groupRealignDone _ => true
  | .laneModeChangeDone => true
  | .profileGroupSwitch _ => true
  | .profileGroupRealigned _ => true
  | .ledgerRecompute _ _ _ _ _ => true
  | .ledgerSettle _ _ _ _ _ => true
  | .afeLevelUpdate _ level => decide (level < 65536)
  | .vgaWindow _ high total meanSquare => decide (high ≤ total ∧ 0 ≤ meanSquare)
  | .afeCtrlWrite _ _ => true
  | .adcBlockEnd _ stats => stats.wf
  | .ovrWindow _ high total => decide (high ≤ total)
  | .adcConverged _ => true
  | .rotationStep _ => true
  | .spareCalDone _ ramps => distinct (ramps.map Prod.fst) && ramps.all fun e => e.2.table.length == 256
  | .rotationHandover _ _ _ _ => true
  | .rotationAbort _ => true
  | .sliceCheckFlag _ _ _ => true
  | .sliceAbruptFault _ signs => !signs.isEmpty && distinct (signs.map Prod.fst)
  | .sliceDegrading _ _ => true
  | .substSpareArrived _ => true
  | .urgentSubstHandover _ blocks => blocks.all BlockStats.wf
  | .substRetry _ => true
  | .substReq _ _ _ => true
  | .ffeWindow _ symbols => decide (symbols.length ≤ 65536)
  | .timingUpdate _ _ => true
  | .mlseLevelUpdate _ _ => true
  | .nlcSwap _ _ => true
  | .nlcEngineSwap _ => true
  | .nlcFadeComplete _ => true
  | .nlcFadeResume _ => true
  | .nlcBankWrite _ _ _ _ _ => true
  | .nlcEnWrite _ _ => true
  | .lineReacq _ => true
  | .lineRxPrecodeWrite _ _ => true
  | .lineAcqStepDone _ _ => true
  | .lineAcqStepTimeout _ => true
  | .acqFail _ => true
  | .lineSignalPresent _ => true
  | .lineLos _ => true
  | .lineLosEnd _ _ => true
  | .lineFreqLimit _ => true
  | .lineRelockTimeout _ => true
  | .snrPublish _ symbols _ => decide (symbols.length ≤ 2 ^ 20)
  | .lineFrameReceived _ words => words.length == 1088 && words.all fun w => w.length == 128
  | .innerCodewordDecode _ soft _ => soft.length == 128
  | .kp4Codeword _ _ word => word.length == 544
  | .kp4CwLockAcquired _ tests => tests.all fun t => t.2.all fun w => w.length == 544
  | .counterBlockSnap _ _ _ => true
  | .counterBlockClr _ _ => true
  | .berPublish _ => true
  | .terminateWrite _ _ _ => true
  | .txEnable _ => true
  | .txCalDone _ => true
  | .txCmRampDone _ => true
  | .txAmpRampDone _ => true
  | .txDisable _ => true
  | .txFallDone _ => true
  | .txSquelchWrite _ _ => true
  | .txPrecodeWrite _ _ => true
  | .txFirApply _ => true
  | .txGlideStep _ => true
  | .pdSwap _ _ => true
  | .pdFadeComplete _ => true
  | .pdFadeResume _ => true
  | .pdBankWrite _ _ _ _ _ => true
  | .pdEnWrite _ _ => true
  | .txSatWindow _ count => decide (0 < count)
  | .cellRotationStep _ _ => true
  | .cellTrimDone _ _ => true
  | .dacCellAbrupt _ _ _ _ => true
  | .dacCellDegrading _ _ _ => true
  | .subdacTrimUpdate _ trims spur => trims.length == 4 && decide (spur < 65536)
  | .txPatSelWrite _ _ => true
  | .lineChkSelWrite _ _ => true
  | .chkLockAcquired _ _ => true
  | .chkLockLoss _ compared => decide (compared.length ≤ 1024)
  | .censusSample _ clock => decide (clock.length ≤ 265)
  | .pantryFreezeWrite _ _ => true
  | .pantryClearWrite _ => true
  | .pantryClearDone _ => true
  | .updaterFail _ => true
  | .cancellerDerive _ => true
  | .cancellerInstall _ _ => true
  | .installEvaluate _ => true
  | .proposalSend _ => true
  | .proposeReceived _ => true
  | .ackReceived _ => true
  | .revertReceived _ => true
  | .proposalTimeout _ => true
  | .proposalAssemblyTimeout _ => true
  | .htFirApply _ _ => true
  | .presetApply _ _ _ => true
  | .hostTxPrecodeWrite _ _ => true
  | .hostRxPrecodeWrite _ _ => true
  | .htEnable _ => true
  | .htDisable _ => true
  | .htOffReached _ => true
  | .htSquelchWrite _ _ => true
  | .hrEnable _ _ => true
  | .hostReacq _ => true
  | .hostCtleWrite _ _ _ => true
  | .hostAcqStepDone _ _ => true
  | .hostAcqStepTimeout _ => true
  | .hrAcqFail _ => true
  | .hrSignalPresent _ => true
  | .hrLos _ => true
  | .hrLosEnd _ _ => true
  | .hostRxUpdate _ u => u.ffe.length == 24
  | .hrCdrLimit _ => true
  | .hostRelockTimeout _ => true
  | .hrQualPublish _ q => q.scan.length == 128
  | .trainStart _ => true
  | .trainRequestReceived _ req => req.wf
  | .trainRequesterStep _ _ => true
  | .trainDone _ => true
  | .trainFail _ => true
  | .htSleepWrite _ _ => true
  | .hrSleepWrite _ _ _ => true
  | .hostPatSelWrite _ _ => true
  | .hostChkSelWrite _ _ => true
  | .txOutput _ _ => true
  | .engNop _ _ => true
  | .engAdd _ _ => true
  | .engAdds _ _ => true
  | .engSub _ _ => true
  | .engSubs _ _ => true
  | .engAnd _ _ => true
  | .engOr _ _ => true
  | .engXor _ _ => true
  | .engAsr _ _ => true
  | .engLsl _ _ => true
  | .engLsr _ _ => true
  | .engAbs _ _ => true
  | .engNeg _ _ => true
  | .engCmp _ _ => true
  | .engMov _ _ => true
  | .engLdi _ _ => true
  | .engAddi _ _ => true
  | .engAndi _ _ => true
  | .engAsri _ _ => true
  | .engLsli _ _ => true
  | .engCmpi _ _ => true
  | .engSeta _ _ => true
  | .engSeto _ _ => true
  | .engMvda _ _ => true
  | .engMvad _ _ => true
  | .engLd _ _ => true
  | .engSt _ _ => true
  | .engLdd _ _ => true
  | .engSha _ _ => true
  | .engMac _ _ => true
  | .engMsu _ _ => true
  | .engMpy _ _ => true
  | .engMacd _ _ => true
  | .engClr _ _ => true
  | .engSta _ _ => true
  | .engMvac _ _ => true
  | .engLacc _ _ => true
  | .engBr _ _ => true
  | .engCall _ _ => true
  | .engRet _ _ => true
  | .engRep _ _ => true
  | .engRpb _ _ => true
  | .engWait _ _ => true
  | .engEvret _ _ => true
  | .engHbt _ _ => true
  | .engSig _ _ => true
  | .engMfs _ _ => true
  | .engMvs _ _ => true
  | .engHalt _ _ => true
  | .engFld _ _ => true
  | .engFst _ _ => true
  | .engMvfp _ _ => true
  | .engIn _ _ => true
  | .engOut _ _ => true
  | .engPub _ _ => true
  | .shadowSetTaken _ _ => true
  | .engineEventEntry _ _ => true
  | .engineTimerExpiry _ _ => true
  | .engineWatchdogExpiry _ _ => true
  | .engineFault _ _ _ => true
  | .checkpointSnapshot _ _ => true
  | .checkpointCommit _ _ => true
  | .takeoverResume _ _ => true
  | .scrubStep _ => true
  | .pageReconstructDone page => page.wf
  | .ceWindow _ => true
  | .pageRetireDone found => distinct (found.map Prod.fst)
  | .bankRetire _ _ => true
  | .bankRetireDone found => distinct (found.map Prod.fst)
  | .bankInit _ => true
  | .bankInitDone => true
  | .faultRaise raises => !raises.isEmpty
  | .pathBroken _ => true
  | .pathRestored _ _ _ => true
  | .levelSourceQuiet _ => true
  | .fbUpset _ _ => true
  | .ffr0Read => true
  | .lingerExpiry _ => true
  | .domainEntryStep _ => true
  | .domainWakeRequest _ => true
  | .domainUndoDone _ => true
  | .domainReady _ lostBanks _ => distinct lostBanks
  | .wakeTimeout _ => true
  | .dozeExit => true
  | .deepEntryStep => true
  | .deepWakeTimer => true
  | .deepExitComplete lostBanks => distinct lostBanks
  | .aoSensorReading _ => true
  | .brownout => true
  | .lineRxSleepWrite _ => true
  | .hkRoundStart => true
  | .hkConversion _ _ _ => true
  | .hkRoundEnd => true
  | .hkTriggerTimerExpiry _ => true
  | .hkTrigger _ _ => true
  | .hkTriggerConversionDone _ _ _ _ => true
  | .cdacSampleTick _ => true
  | .cdacRangeSwitch _ => true
  | .mcStart _ => true
  | .mcStop _ => true
  | .mcSwap _ => true
  | .mcConfigWrite _ _ _ => true
  | .mcForceFbWrite _ _ => true
  | .mcOutput _ samples => decide (samples.length ≤ 16384)
  | .mcFadeComplete _ => true
  | .chainFault _ => true
  | .thermalCompare elements => elements.length == 9
  | .shutdownFlashDrain op _ data => if op = 1 then decide (1 ≤ data.length ∧ data.length ≤ 256) else data.isEmpty
  | .thermalRestart lostBanks => distinct lostBanks
  | .sensorMismatch _ _ _ => true
  | .sensorMismatchClear _ _ _ => true
  | .thermalPeriodChange => true
  | .calInterpolate => true
  | .tamidTransitionDone _ _ => true
  | .tamidPacketStart _ _ => true
  | .tamidPacketEnd _ => true
  | .tamidAgcUpdate _ _ => true
  | .tamidDetect _ _ _ => true
  | .tamidSyncAccept _ _ _ _ => true
  | .tamidSyncTimeout _ => true
  | .tamidPacketReceived _ raw => decide (raw.length ≤ 245)
  | .tamidCapture _ _ => true
  | .uliraCmd _ => true
  | .tamidCalSlice _ _ => true
  | .tamidCacheExpiry _ _ => true
  | .tamidShapeWrite _ _ _ => true
  | .cntSnap _ => true
  | .cntClr => true
  | .cntLiveLoRead _ _ => true
  | .bwWindowEnd => true
  | .bwWindowWrite _ => true
  | .counterDumpLatch => true
  | .dumpWriteDone => true
  | .atticPeriodic => true
  | .atticRecordWrite _ _ _ => true
  | .atticStandingWrite _ => true
  | .lifecycleProgramDone _ => true
  | .deepTestDone _ _ _ results => decide (results.length ≤ 1024)
  | .bistTurn => true
  | .bistSliceEnd _ _ _ _ _ => true
  | .bistEnWrite _ => true
  | .jtagInstruction .. => true
  | .railLoss _ => true
  | .vidEvaluate _ => true
  | .vidStep => true

end Sys2Proof
end

