-- ==== Sys2Proof/Tests/Slice0.lean ====
section
/-! SUPPORT. Tests: an ill-formed term for each check of WellFormed, worked examples of the manual, and for every statement
of Certificates/Slice0/Obligations.lean that has hypotheses a theorem `witness_<name>` that shows, clause by clause, a state
and operands that meet them.  The expected results of the tests are the manual's. -/

set_option Elab.async false
set_option linter.unusedVariables false

namespace Sys2Proof.Tests

open Sys2Proof Sys2Proof.Machine Sys2Proof.Machine.Reg

/-! ### Small states -/

/-- Reset state with pins up and clocks running. -/
def st0 : State := { State.reset with boot := { State.reset.boot with resetHigh := true } }

/-- Every domain is ready. -/
def stOn : State :=
  { st0 with regs := [0, 5, 6, 7].map fun d => (powerBase + 0x100 + 4 * d, 0x20000000) }

/-- The core clock runs. -/
def stClk : State := { stOn with clock := { stOn.clock with running := true, deviceTime := 5000000000, calSec := 5000000000, calUsec := 7 }, tick := 1000 }

/-- Engine 0 of room r at PC 0 with this word. -/
def stEng (r : Fin 16) (w : Nat) (x : Engine) : State :=
  let s : State := { stClk with rooms := { stClk.rooms with mirnis := true, engines := [(engineKey r 0, x)], guests := stClk.rooms.guests.set 0 { Guest.empty with st := 2 } } }
  let a := engineBase r 0
  { s with mem := [(a, BitVec.ofNat 8 w), (a + 1, BitVec.ofNat 8 (w / 256)), (a + 2, BitVec.ofNat 8 (w / 65536)), (a + 3, BitVec.ofNat 8 (w / 16777216))] }

/-- Registers of an engine. -/
def xEng : Engine := { Engine.zero with d := #v[100, 0xFFF0, 0x7FFF, 0x8000, 5, 6, 7, 8], a := #v[4, 8, 12, 16], o := #v[1, 2, 3, 0xFFFF], acc := #v[0x12345, 0xFFFFFFFFF0], accSeen := #v[0x12345, 0xFFFFFFFFF0], fp := #v[0x00100000, 0x00100010], inFlight := [(3, 0x1234)], stat := 4 }

/-- An interrupted point. -/
def fr0 : EventFrame := { pc := 5, stat := 3, satSeen := true, block := none, inFlight := [(2, 9)], maskNext := none, accs := [] }

/-- A snapshot of an engine. -/
def snap0 : Snapshot := { engine := xEng, window := [], deviceTime := 9 }

/-- Commands are accepted: OPERATIONAL, keys held. -/
def stCmd : State := (((stClk.setFld systemBase STATUS_DEV_STATE 3).setFlag systemBase STATUS_CMD_READY true).setFlag keyBase KEY_STATUS_A_ALIVE true).setFlag keyBase KEY_STATUS_B_ALIVE true

/-- A packet from the bus. -/
def oB : Origin := { seq := 7, via := .bus }

/-- A packet through the tunnel of Tamid instance 3. -/
def oT : Origin := { seq := 7, via := .tamid 3 }

/-- A command packet (R267). -/
def pk (op : Nat) (ps : List Byte) : List Byte :=
  let h := [0xD7, 5] ++ leBytes 2 op ++ leBytes 2 ps.length
  let b := h ++ leBytes 2 (crc16 h) ++ ps
  b ++ leBytes 4 (crc32 b)

/-- The tunnel of Tamid instance 3 is open. -/
def tun (s : State) : State := (s.setFlag (tamidBase 3) TM_CTRL_REMOTE_WRITE true).setFld (tamidBase 3) TM_STATUS_STATE 3

/-- The bytes of a journal record. -/
def recB : List Byte := let b : List Byte := leBytes 4 1 ++ leBytes 4 5 ++ List.replicate 52 0; b ++ leBytes 4 (crc32 b)

/-- One journal record stands in the flash. -/
def atW : State := stCmd.setFlashBytes (atticBase + 0x10000) recB

/-- A step of the boot. -/
def stBoot (k : Nat) : State := { stCmd with boot := { stCmd.boot with step := k } }

/-- Every lane is ready for traffic. -/
def stReady : State := allHosts.foldl (fun s (m : Fin 16) => (s.setFlag (hostBase m) HR_KP4_STATUS_CW_LOCK true).setHtState m 3) (allLines.foldl (fun s (n : Fin 8) => ((s.setFlag (lineBase n) EQ_STATUS_LOCKED true).setTxState n 5)) stCmd)

/-- A self-test may run. -/
def stBist : State := { (stCmd.setFlag testBase BIST_CTRL_BIST_EN true) with rooms := { stCmd.rooms with mirnis := true } }

/-- A thermal shutdown. -/
def shW : Shutdown := { site := 3, peak := 1255, start := 5, safe := false, op := 0, offset := 0, discarded := [], reset := false }

/-- A journal record waits to be written. -/
def atQ : State := { stCmd with attic := { stCmd.attic with available := true, queue := [⟨1, 5, true, 7, [1,2], 0⟩] } }

/-- Every PLL is locked. -/
def stL : State := { stCmd with regs := Sparse.insert stCmd.regs (clockBase + CLK_STATUS_CORE_LOCK.off) 0x1F10FFFF }

/-- Line 2 acquiring, ADC in step 4. -/
def stA : State := stL.acqStart 2

/-- Line 2 locked. -/
def stLk : State := ((stA.setFlag (lineBase 2) ADC_STATUS_CONVERGED true).setAcqState 2 6).lineLock 2 0

/-- Slice terms of 0. -/
def tr0 : SliceTerms := ⟨0, 0, 0, 0, 0⟩

/-- A stage of the acquisition of line 2. -/
def stCapLk (k : Nat) : State := stA.setAcqState 2 k

/-- Line transmitter 2 is live. -/
def stCell : State := ((stL.setTxState 2 5).modTx 2 fun x => { x with subs := x.subs.map fun d => { d with order := List.range 68 } }).setFld (lineBase 2) TX_CTRL_CELL_PERIOD 1

/-- The census of line 2 samples. -/
def stPan : State := (((stLk.setFlag (lineBase 2) FEC_STATUS_IN_FRAME true).setFlag pantryBase (PL_CTRL_E_EN.ix 2) true).setFlag pantryBase (PL_CTRL_M_EN.ix 2) true).setFld pantryBase PANTRY_CTRL_M_DECAY 2

/-- The census of line 2 is large enough to derive from. -/
def stDer : State := (stPan.setFlag pantryBase PANTRY_CTRL_DERIVE_EN true).modPantry 2 fun l => { l with samples := 2 ^ 30 }

/-- A derived table waits to be installed. -/
def stIns : State := ((stDer.setFlag pantryBase PANTRY_CTRL_AUTO_NLC true).setFlag (lineBase 2) EQ_CTRL_NLC_EN true).modPantry 2 fun l => { l with installDue := true, table := [5, -7, 511] }

/-- A proposal waits to be sent. -/
def stProp : State := ((stPan.setFlag pantryBase PANTRY_CTRL_PD_TAMID true).setFld (tamidBase 2) TM_STATUS_STATE 3).modPantry 2 fun l => { l with unsent := true, proposal := [1, 2, 3] }

/-- Host lane 2 is used, with its synthesisers locked. -/
def stH : State := { stL with lanes := { stL.lanes with mode := 1 } }

/-- A stage of the acquisition of host lane 2. -/
def stHr (k : Nat) : State := (((stH.setFlag (hostBase 2) HR_CTRL_HR_EN true).setFld (hostBase 2) HR_STATUS_HR_STATE k).setFlag (hostBase 2) HR_STATUS_LOCKED (k == 5)).modHost 2 fun h => { h with highest := 0 }

/-- Control-DAC channel 5 tracks. -/
def stCd : State := ((stCmd.setFlag (cdBase 5) CD_CFG_EN true).setCdState 5 1).setCdQueue 5 [900, 7]

/-- Tamid instance 2 in a state; its shape holds. -/
def stTm (k : Nat) : State := let s := (stCmd.setFld (tamidBase 2) TM_CTRL_DET_THR 4).setFld (tamidBase 2) TM_STATUS_STATE k
  { s with regs := s.regs.filter (fun p => p.1 < tamidBase 2 + 0x100) ++ ((List.range 192).map fun j => (tamidBase 2 + 0x100 + 4 * j, 10922)) ++
      s.regs.filter (fun p => tamidBase 2 + 0x400 ≤ p.1) }

/-- The bits of a Tamid packet (R416). -/
def rawP : List Byte := whiten (let b : List Byte := [2, 0x11, 0x22]; b ++ leBytes 4 (crc32 b))

/-- Engine 0 of room 3 is to resume on spare 62 from its newest snapshot. -/
def stTake : State :=
  let s := (stEng 3 0 xEng).setBytes (slotAddr 3 0 1) (slotBytes 7 snap0 0 [])
  { s with rooms := { s.rooms with rooms := s.rooms.rooms.set 3 { s.rooms.rooms[3] with pending := [⟨0, 62, 0, 0⟩] }, slots := [(2 * engineKey 3 0 + 1, xEng)] } }

/-- An image of one word stands in the firmware area at boot step 6. -/
def stImg : State :=
  stBoot 6 |>.setBytes 0 (leBytes 4 0x4D49524E ++ leBytes 4 1 ++ leBytes 4 2 ++ leBytes 4 4 ++ leBytes 4 7) |>.setBytes 256 [1, 2, 3, 4]

/-- The front door listens (R273). -/
def stFront : State := { stCmd with tick := 400000 }

/-- On the I3C bus. -/
def stI3c : State := stFront.setFld systemBase STRAP_STATUS_BUS_SEL 1

/-- The watchdogs of both controllers are silent (R293). -/
def stLate : State := { stCmd with tick := 2000000 }

/-- The ADC of line 2 rotates, with its spare ready. -/
def stAdc : State := (stLk.modAdc 2 fun a => { a with step := 5 }).setSpareState 2 3

/-- Terms beyond their limits. -/
def trBad : SliceTerms := ⟨9, 0, 0, 0, 0⟩

/-- A clock of symbols of the census. -/
def cenClock (c : CensusSymbol) : List CensusSymbol := List.replicate 300 c

/-- A symbol with correlators' samples. -/
def sym0 : RxSymbol := ⟨100, 63, List.replicate 64 ⟨0, false, false⟩⟩

/-- Channel 6 of the control DAC, which carries the injection of Tamid instance 2, while that one sends with an OMA of 0. -/
def stAir : State :=
  ((((stCmd.setFlag (cdBase 6) CD_CFG_EN true).setCdState 6 1).setFld (cdBase 6) CD_CFG_STEP 0).setFld (tamidBase 2)
    TM_CTRL_OMA_CODES 0).modTamid 2 fun x => { x with air := some ([1], false, false, 4) }

/-- An image of one word at boot step 6 whose header holds the digest of its body. -/
def stSigned : State := stImg.setBytes 0x20 (sha384 [1, 2, 3, 4])

/-! ### Well-formedness: an ill-formed term for each check, which the check refuses -/

theorem test_wf_packets :
    (Instr.writePacket (List.replicate 1037 0)).wf = false ∧ (Instr.writePacketA (List.replicate 1037 0)).wf = false ∧
    (Instr.writePacketB (List.replicate 1037 0)).wf = false ∧ (Instr.readFront 0 0).wf = false ∧
    (Instr.writePacket []).wf = true := by
  decide +kernel

theorem test_wf_parameters :
    (Instr.writeReg oB []).wf = false ∧ (Instr.writeReg oB (List.replicate 129 (0, 0))).wf = false ∧
    (Instr.ping oB (List.replicate 1025 0)).wf = false ∧ (Instr.imageLoad oB 0 [1, 2, 3]).wf = false ∧
    (Instr.memWrite oB 0 [1, 2, 3, 4, 5]).wf = false ∧ (Instr.guestLoad oB 0 0 0 []).wf = false ∧
    (Instr.cdacQueue oB 0 2 [7]).wf = false ∧ (Instr.tamidSend oB 0 2 [7]).wf = false ∧
    (Instr.guestMailbox oB 0 2 [7]).wf = false ∧ (Instr.deepTest oB 0 (List.replicate 1023 0)).wf = false ∧
    (Instr.lifecycleAdvance oB 0 (List.replicate 1024 0)).wf = false ∧
    (Instr.flashWrite oB 0 0 0 (List.replicate 1017 0)).wf = false ∧
    (Instr.cdacQueue oB 0 2 [7, 8]).wf = true := by
  decide +kernel

theorem test_wf_receive_events :
    (Instr.aoDiscipline 0 151).wf = false ∧ (Instr.afeLevelUpdate 2 65536).wf = false ∧
    (Instr.adcBlockEnd 2 ⟨[], [], [], [], 0⟩).wf = false ∧ (Instr.ovrWindow 2 2 1).wf = false ∧
    (Instr.vgaWindow 2 2 1 0).wf = false ∧ (Instr.vgaWindow 2 0 1 (-1)).wf = false ∧
    (Instr.spareCalDone 2 [(3, ⟨[], 0, 0, 60⟩)]).wf = false ∧
    (Instr.urgentSubstHandover 2 [⟨[], [], [], [], 0⟩]).wf = false ∧
    (Instr.sliceAbruptFault 2 []).wf = false ∧
    (Instr.sliceAbruptFault 2 [(3, .stuck 4 true), (3, .stuck 4 true)]).wf = false ∧
    (Instr.innerCodewordDecode 2 [] false).wf = false ∧ (Instr.lineFrameReceived 2 []).wf = false ∧
    (Instr.lineFrameReceived 2 (List.replicate 1088 [])).wf = false ∧ (Instr.kp4Codeword 2 .hr []).wf = false ∧
    (Instr.kp4CwLockAcquired 2 [(0, [[]])]).wf = false := by
  decide +kernel

theorem test_wf_symbol_windows (x : RxSymbol) (c : CensusSymbol) :
    (Instr.ffeWindow 2 (List.replicate 65537 x)).wf = false ∧
    (Instr.snrPublish 2 (List.replicate (2 ^ 20 + 1) x) ⟨0, 0, 0, 0⟩).wf = false ∧
    (Instr.censusSample 2 (List.replicate 266 c)).wf = false ∧
    (Instr.chkLockLoss (.line 2) (List.replicate 1025 (0, 0))).wf = false ∧
    (Instr.mcOutput 5 (List.replicate 16385 [])).wf = false := by
  simp only [Instr.wf, List.length_replicate]
  decide

theorem test_wf_transmit_and_host_events :
    (Instr.txSatWindow 2 0).wf = false ∧ (Instr.subdacTrimUpdate 2 [] 0).wf = false ∧
    (Instr.subdacTrimUpdate 2 (List.replicate 4 ⟨0, 0, 0⟩) 65536).wf = false ∧
    (Instr.hostRxUpdate 2 ⟨0, 1, [], 0, Vector.replicate 3 0, 0, 0, 0⟩).wf = false ∧
    (Instr.hrQualPublish 2 ⟨[], [], 0, 0⟩).wf = false ∧ (Instr.trainRequestReceived 2 (.step 3 true)).wf = false ∧
    (Instr.trainRequestReceived 2 (.preset 16)).wf = false := by
  decide +kernel

theorem test_wf_unit_events :
    (Instr.pageReconstructDone ⟨0, 0, 1⟩).wf = false ∧
    (Instr.pageRetireDone [(3, .clean), (3, .clean)]).wf = false ∧
    (Instr.bankRetireDone [(3, .clean), (3, .clean)]).wf = false ∧ (Instr.faultRaise []).wf = false ∧
    (Instr.domainReady 8 [1, 1] false).wf = false ∧ (Instr.deepExitComplete [1, 1]).wf = false ∧
    (Instr.thermalRestart [1, 1]).wf = false ∧ (Instr.shutdownFlashDrain 1 0 []).wf = false ∧
    (Instr.shutdownFlashDrain 0 0 [7]).wf = false ∧ (Instr.tamidPacketReceived 2 (List.replicate 246 0)).wf = false ∧
    (Instr.thermalCompare []).wf = false ∧ (Instr.deepTestDone true 0 0 (List.replicate 1025 0)).wf = false := by
  decide +kernel

/-! ### The manual's worked examples -/

/-- The message b0 = 1 has the check byte 0x89, and b119 = 1 has 0x13 (the example under R112). -/
theorem test_inner_check_byte :
    (innerEncode (true :: List.replicate 119 false)).drop 120 = [true, false, false, false, true, false, false, true] ∧
    (innerEncode (List.replicate 119 false ++ [true])).drop 120 =
      [false, false, false, true, false, false, true, true] := by
  decide +kernel

/-- b124 received inverted: the hard decoder returns the codeword that was sent (the example under R112). -/
theorem test_inner_hard_decode :
    hardDecode (flipBit (innerEncode (true :: List.replicate 119 false)) 124) =
      innerEncode (true :: List.replicate 119 false) := by
  decide +kernel

/-- A sticky bit that hardware sets in the cycle of its clearing write stays 1 (the example under R10). -/
theorem test_w1c_keeps_an_arriving_event :
    (match execRegisterWrite .a 0x08150118 0xFFFFFFFF (wordSetField 0 ADC_OVR_STAT_OVR_STICKY.lo 1 1)
        (stCmd.setFlag (lineBase 5) ADC_OVR_STAT_OVR_STICKY true) with
      | .next t => t.flag (lineBase 5) ADC_OVR_STAT_OVR_STICKY
      | _ => false) = true ∧
    (match execRegisterWrite .a 0x08150118 0xFFFFFFFF 0 (stCmd.setFlag (lineBase 5) ADC_OVR_STAT_OVR_STICKY true) with
      | .next t => t.flag (lineBase 5) ADC_OVR_STAT_OVR_STICKY
      | _ => true) = false := by
  decide +kernel

/-- A location that no chapter documents reads 0 with status OK (the example under R10). -/
theorem test_undocumented_location :
    (match execReadReg oB 0x08150040 1 stCmd with
      | .next t => t.link.outbox.map fun r => (r.status, r.results)
      | _ => []) = [(stOk, [0, 0, 0, 0])] := by
  decide +kernel

/-- PRESET 3 of a host transmitter shows CUR 0xF8, 0x34 and 0xFC (the example of "Host lanes"). -/
theorem test_host_preset :
    (match execPresetApply 5 3 false (stH.setHtState 5 3) with
      | .next t => (List.range 3).map fun k => t.fld (hostBase 5) (HT_FIR_CUR.ix (k + 1))
      | _ => []) = [0xF8, 0x34, 0xFC] := by
  decide +kernel

/-- The record of the example of "The Fuse Box": LOS on L2 and HR_LOS on H4 in one tick, and 500 µs later PAGE_LOST. -/
theorem test_fault_record :
    (match execFaultRaise [⟨0x1240, 0⟩, ⟨0x2440, 0⟩] { stCmd with clock := { stCmd.clock with deviceTime := 10000000000 } } with
      | .next t =>
        match execFaultRaise [⟨0x4020, 9⟩] { t with clock := { t.clock with deviceTime := 10000390625 } } with
        | .next u =>
          let r := u.readWord (fuseBase + 0x10) 0 0
          r.1 :: (List.range 5).map fun k => (r.2.readWord (fuseBase + 0x14 + 4 * k) 0 0).1
        | _ => []
      | _ => []) = [0x1240D302, 2, 0x540BE400, 2, 0x40200000, 0x5411D9E1] := by
  decide +kernel

/-- The line transmitter's FIR, index, codes and output voltage in the example of "Transmit shaping and the line DAC". -/
theorem test_line_code :
    let a : Nat → Nat := fun m => [1, 0, 3, 0, 2].getD m 0
    firSum [0, -64, 512, -96, 0, 0, 0, 0, 0] a 2 = 126 * 16 ∧ patternIndex a 2 = 306 ∧
    dacCode 64 (126 * 16 + 0x30) = 255 ∧ codeSaturates 64 (126 * 16 + 0x30) = true ∧
    dacCode 64 (126 * 16 - 0x30) = 251 ∧ codeSaturates 64 (126 * 16 - 0x30) = false := by
  decide +kernel

/-- x(n) of the host FIR in the example of "Host lanes". -/
theorem test_host_fir : firSum [0, -8, 52, -4, 0] (fun m => [0, 3, 3].getD m 0) 1 = 144 := by
  decide +kernel

/-- The marker codeword of the example under R116: its check byte 0x76, and the symbols and places of its table. -/
theorem test_marker :
    let w := invertMark (innerEncode (true :: List.replicate 119 false))
    w.drop 120 = [false, true, true, true, false, true, true, false] ∧
    [0, 60, 61, 62, 63].map (fun k => (innerSymbol w k, linePlace 0 k)) =
      [(3, 0), (1, 972), (2, 989), (1, 1006), (1, 1023)] ∧
    syndrome w = 0x7F ∧ parity w = false := by
  decide +kernel

/-- Two symbols of a codeword of zeros received wrong, in three bits: corrected to the codeword of zeros (R126). -/
theorem test_rs_corrects_two_symbols :
    rsDecode (((List.replicate 544 0).set 0 0x201).set 543 0x010) = .corrected 2 3 (List.replicate 544 0) := by
  decide +kernel

/-- The bandgap correction of the example under R404: +112 ppm at 55 °C and +40 ppm at 85 °C are +76 ppm at 70.0 °C. -/
theorem test_interpolation : roundAway (interpolate [(55, 112), (85, 40)] 70) = 76 := by
  decide +kernel

/-- The first bytes of the SHA-384 digest of "abc", from the standard that R285 names. -/
theorem test_sha384 : (sha384 [0x61, 0x62, 0x63]).take 4 = [0xCB, 0x00, 0x75, 0x3F] := by
  decide +kernel

/-! ### Witnesses of the statements' hypotheses -/

theorem witness_StepRunsTheFrontCommand :
    ∃ (c : Instr) (rest : List Instr) (s : State), s.pending = c :: rest :=
  ⟨.ping oB [], [], { stCmd with pending := [.ping oB []] }, rfl⟩

theorem witness_IdleStepIsOneCoreTick :
    (∃ s : State, s.pending = [] ∧ s.clock.running = true ∧ s.clock.loads = []) ∧
    (∃ s : State, s.pending = [] ∧
    s.clock.running = false) :=
  ⟨⟨stClk, by decide +kernel⟩, ⟨State.reset, by decide +kernel⟩⟩

theorem witness_EveryStepKeepsTheInvariant :
    ∃ s : State, s.Inv ∧ s.noneDue :=
  ⟨stClk, ⟨by decide +kernel, by decide +kernel, by decide +kernel, by decide +kernel, by decide +kernel, by decide +kernel, by decide +kernel⟩,
    by unfold State.noneDue; decide +kernel⟩

theorem witness_CommandsKeepToTheirParts :
    ∃ (c : Instr) (s : State), s.noneDue ∧ Part.fuse ∉ c.parts :=
  ⟨.dtLoRead, stClk, by unfold State.noneDue; decide +kernel⟩

theorem witness_RefusedCommands :
    (∃ (c : Instr) (o : Origin) (op : Nat) (s : State), c.packet = some (o, op) ∧
    (s.busUp = false ∨ s.thermal.shut ≠ none) ∧ s.noneDue) ∧
    (∃ (c : Instr) (o : Origin) (op : Nat) (s : State), c.packet = some (o, op) ∧ s.busUp = true ∧
    s.thermal.shut = none ∧ s.fld powerBase PWR_STATE_STATE = 1) ∧
    (∃ (c : Instr) (o : Origin) (op : Nat) (s : State), c.packet = some (o, op) ∧ s.noneDue ∧ s.reaches ∧
    s.inDeep = true) ∧
    (∃ (c : Instr) (o : Origin) (op : Nat) (s : State) (st : Nat), c.packet = some (o, op) ∧ s.noneDue ∧ s.reaches ∧
    s.inDeep = false ∧ s.refusedBy o.via op = some st ∧ st ≠ stWrongState) :=
  ⟨⟨.ping oB [], oB, 0x0000, State.reset, by unfold State.noneDue; decide +kernel⟩,
   ⟨.ping oB [], oB, 0x0000, stCmd.setFld powerBase PWR_STATE_STATE 1, by decide +kernel⟩,
   ⟨.ping oB [], oB, 0x0000, stCmd.setFld powerBase PWR_STATE_STATE 3,
    by unfold State.noneDue State.reaches; decide +kernel⟩,
   ⟨.powerStatus oB, oB, 0x0502, { stCmd with fuse := { stCmd.fuse with safe := true } }, stSafeState,
    by unfold State.noneDue State.reaches; decide +kernel⟩⟩

theorem witness_WrongStateReply :
    ∃ (c : Instr) (o : Origin) (op : Nat) (s : State), c.packet = some (o, op) ∧ s.noneDue ∧ s.reaches ∧
    s.inDeep = false ∧ s.refusedBy o.via op = some stWrongState :=
  ⟨.setLaneMode oB 1 2, oB, 0x0004, stCmd.setFld systemBase STATUS_DEV_STATE 1,
    by unfold State.noneDue State.reaches; decide +kernel⟩

theorem witness_DeviceTimeReads :
    (∃ (s : State), s.noneDue) ∧
    (∃ (o : Origin) (addr : Word) (words : BitVec 16) (s : State), s.noneDue ∧ s.accepts o 0x0005 ∧
    addr.toNat = clockBase + 0x30 ∧ words.toNat = 2) :=
  ⟨⟨stClk, by unfold State.noneDue; decide +kernel⟩,
   ⟨oB, (BitVec.ofNat 32 (clockBase + 0x30)), 2,
    ({ stCmd with clock := { stCmd.clock with deviceTime := 0x123456789AB } }),
    by unfold State.noneDue State.accepts; decide +kernel⟩⟩

theorem witness_LiveCounterReads :
    ∃ (k : Fin 128) (port : Fin 32) (s : State), s.noneDue :=
  ⟨3, 17, stClk, by unfold State.noneDue; decide +kernel⟩

theorem witness_PowerStatusReply :
    ∃ (o : Origin) (s : State), s.noneDue ∧ s.accepts o 0x0502 :=
  ⟨oB, stCmd, by unfold State.noneDue State.accepts; decide +kernel⟩

theorem witness_CorrectionRate :
    (∃ (mem : Fin 4) (s : State), s.noneDue ∧ s.fld memProtBase MP_CTRL_CE_WARN < s.memory.ceCounts[mem] ∧
    s.limitFree (0x4000 + mem.val) = true ∧ s.takes (0x4000 + mem.val) (satNat 16 s.memory.ceCounts[mem])) ∧
    (∃ (mem : Fin 4) (s : State), s.noneDue ∧
    (s.memory.ceCounts[mem] ≤ s.fld memProtBase MP_CTRL_CE_WARN ∨ s.limitFree (0x4000 + mem.val) = false)) :=
  ⟨⟨2, { stCmd with memory := { stCmd.memory with ceCounts := Vector.replicate 4 100000 } },
    by unfold State.noneDue State.takes; decide +kernel⟩,
   ⟨2, stCmd, by unfold State.noneDue; decide +kernel⟩⟩

theorem witness_SignalQualityWarning :
    (∃ (n : Fin 8) (symbols : List RxSymbol) (err : ReadoutError) (v : Nat) (s : State), s.noneDue ∧ s.locked n = true ∧
    s.lineTask n taskSnr = true ∧ v = s.snrValue n symbols err.snr ∧ v < 25 * s.fld (lineBase n) EQ_CTRL_SNR_WARN ∧
    s.line[n].rx.snrHeld = false ∧ s.takes (lineSrc n 0x42) v) ∧
    (∃ (n : Fin 8) (symbols : List RxSymbol) (err : ReadoutError) (v : Nat) (s : State), s.noneDue ∧ s.locked n = true ∧
    s.lineTask n taskSnr = true ∧ v = s.snrValue n symbols err.snr ∧ v < 25 * s.fld (lineBase n) EQ_CTRL_SNR_WARN + 50 ∧
    s.line[n].rx.snrHeld = true) ∧
    (∃ (n : Fin 8) (symbols : List RxSymbol) (err : ReadoutError) (v : Nat) (s : State), s.noneDue ∧ s.locked n = true ∧
    s.lineTask n taskSnr = true ∧ v = s.snrValue n symbols err.snr ∧ 25 * s.fld (lineBase n) EQ_CTRL_SNR_WARN + 50 ≤ v) :=
  ⟨⟨2, [sym0], ⟨0, 0, 0, 0⟩, 639, stLk.setFld (lineBase 2) EQ_CTRL_SNR_WARN 60,
    by unfold State.noneDue State.takes; decide +kernel⟩,
   ⟨2, [sym0], ⟨0, 0, 0, 0⟩, 639,
    (stLk.setFld (lineBase 2) EQ_CTRL_SNR_WARN 60).modRx 2 fun x => { x with snrHeld := true },
    by unfold State.noneDue; decide +kernel⟩,
   ⟨2, [sym0], ⟨0, 0, 0, 0⟩, 639, stLk.setFld (lineBase 2) EQ_CTRL_SNR_WARN 0, by unfold State.noneDue; decide +kernel⟩⟩

theorem witness_PacketsIn :
    (∃ (bytes : List Byte) (c : Instr) (v : Via) (s : State), (c, v) ∈ packetForms bytes ∧ s.noneDue ∧
    s.frontUp = true ∧ s.fld powerBase PWR_STATE_STATE ≠ 1 ∧
    (s.thermal.shut ≠ none ∨ bytes.headD 0 ≠ 0xD7 ∨ bytes.length < 12 ∨ 4 ≤ s.link.inbox.length)) ∧
    (∃ (bytes : List Byte) (c : Instr) (v : Via) (s : State), (c, v) ∈ packetForms bytes ∧ s.noneDue ∧
    s.frontUp = true ∧ s.fld powerBase PWR_STATE_STATE ≠ 1 ∧ s.thermal.shut = none ∧ s.inDeep = true ∧
    bytes.headD 0 = 0xD7 ∧ 12 ≤ bytes.length ∧ s.link.inbox = [] ∧ s.link.waiting = [] ∧ s.link.outbox.length < 4) ∧
    (∃ (bytes : List Byte) (c : Instr) (v : Via) (s : State), (c, v) ∈ packetForms bytes ∧ s.noneDue ∧
    s.frontUp = true ∧ s.fld powerBase PWR_STATE_STATE ≠ 1 ∧ s.thermal.shut = none ∧ s.inDeep = false ∧
    bytes.headD 0 = 0xD7 ∧ 12 ≤ bytes.length ∧ s.link.inbox.length < 4 ∧
    (s.takesPackets = false ∨ s.link.taken ≠ [] ∨ s.link.waiting ≠ [] ∨ 4 ≤ s.link.outbox.length)) ∧
    (∃ (bytes : List Byte) (c : Instr) (v : Via) (s : State), (c, v) ∈ packetForms bytes ∧ s.noneDue ∧
    s.frontUp = true ∧ s.takesPackets = true ∧ bytes.headD 0 = 0xD7 ∧ 12 ≤ bytes.length ∧ s.link.inbox = [] ∧
    s.link.taken = [] ∧ s.link.waiting = [] ∧ s.link.outbox.length < 4 ∧ s.packetFails v bytes = none) ∧
    (∃ (bytes : List Byte) (c : Instr) (v : Via) (st : Nat) (s : State), (c, v) ∈ packetForms bytes ∧ s.noneDue ∧
    s.frontUp = true ∧ s.takesPackets = true ∧ bytes.headD 0 = 0xD7 ∧ 12 ≤ bytes.length ∧ s.link.inbox = [] ∧
    s.link.taken = [] ∧ s.link.waiting = [] ∧ s.link.outbox.length < 4 ∧ s.packetFails v bytes = some st) ∧
    (∃ (bytes : List Byte) (c : Instr) (v : Via) (s : State), (c, v) ∈ packetForms bytes ∧ s.frontUp = true ∧
    s.fld powerBase PWR_STATE_STATE = 1) ∧
    (∃ (bytes : List Byte) (c : Instr) (v : Via) (s : State), (c, v) ∈ packetForms bytes ∧ s.frontUp = false) ∧
    (∃ (i : Fin 8) (bytes : List Byte) (rest : List (List Byte)) (s : State), s.noneDue ∧ s.takesPackets = true ∧
    s.tamid[i].commands = bytes :: rest ∧ bytes.headD 0 = 0xD7 ∧ 12 ≤ bytes.length ∧
    s.packetFails (.tamid i) bytes = none) ∧
    (∃ (i : Fin 8) (bytes : List Byte) (rest : List (List Byte)) (s : State), s.noneDue ∧ s.takesPackets = true ∧
    s.tamid[i].commands = bytes :: rest ∧ (bytes.headD 0 ≠ 0xD7 ∨ bytes.length < 12)) ∧
    (∃ (r : Reply) (rest : List Reply) (s : State), s.noneDue ∧ s.frontUp = true ∧ s.fld powerBase PWR_STATE_STATE ≠ 1 ∧
    s.link.outbox = r :: rest ∧ s.link.inbox = []) ∧
    (∃ (r : Reply) (rest : List Reply) (s : State), s.noneDue ∧ s.frontUp = true ∧ s.fld powerBase PWR_STATE_STATE ≠ 1 ∧
    s.link.outbox = r :: rest) ∧
    (∃ (complete : Bool) (s : State), s.noneDue ∧ s.frontUp = true ∧ s.fld powerBase PWR_STATE_STATE ≠ 1 ∧
    s.link.outbox = []) :=
  ⟨⟨[3], .writePacket [3], .bus, stFront, by unfold State.noneDue; decide +kernel⟩,
   ⟨pk 0 [9], .writePacketA (pk 0 [9]), .direct .a, stFront.setFld powerBase PWR_STATE_STATE 3,
    by unfold State.noneDue; decide +kernel⟩,
   ⟨pk 0 [9], .writePacketB (pk 0 [9]), .direct .b, stFront.setFlag systemBase STATUS_CMD_READY false,
    by unfold State.noneDue; decide +kernel⟩,
   ⟨pk 0 [9], .writePacket (pk 0 [9]), .bus, stFront, by unfold State.noneDue; decide +kernel⟩,
   ⟨pk 0x0FFF [9], .writePacket (pk 0x0FFF [9]), .bus, stUnknownOpcode, stFront,
    by unfold State.noneDue; decide +kernel⟩,
   ⟨pk 0 [9], .writePacket (pk 0 [9]), .bus, stFront.setFld powerBase PWR_STATE_STATE 1, by decide +kernel⟩,
   ⟨pk 0 [9], .writePacketA (pk 0 [9]), .direct .a, State.reset, by decide +kernel⟩,
   ⟨3, (pk 0 [9]), ([]), (stCmd.modTamid 3 fun t => { t with commands := [pk 0 [9]] }),
    by unfold State.noneDue; decide +kernel⟩,
   ⟨3, ([3]), ([]), (stCmd.modTamid 3 fun t => { t with commands := [[3]] }), by unfold State.noneDue; decide +kernel⟩,
   ⟨(⟨4, 0, [1]⟩), ([]), ({ stFront with link := { stFront.link with outbox := [⟨4, 0, [1]⟩] } }),
    by unfold State.noneDue; decide +kernel⟩,
   ⟨⟨4, 0, [1]⟩, [], ({ stFront with link := { stFront.link with outbox := [⟨4, 0, [1]⟩] } }),
    by unfold State.noneDue; decide +kernel⟩,
   ⟨true, stFront, by unfold State.noneDue; decide +kernel⟩⟩

theorem witness_FrontDoorAndBus :
    (∃ (index : Byte) (value arriving : Word) (s : State), s.noneDue ∧ s.frontUp = true ∧ index = 4) ∧
    (∃ (index : Byte) (value arriving : Word) (s : State), s.noneDue ∧ s.frontUp = true ∧ index = 8) ∧
    (∃ (index : Byte) (value arriving : Word) (s : State), s.noneDue ∧ s.frontUp = true ∧ index ≠ 4 ∧ index ≠ 8) ∧
    (∃ (index : Byte) (count : Nat) (s : State), s.noneDue ∧ s.frontUp = true) ∧
    (∃ (a : BitVec 7) (s : State), s.noneDue ∧ s.frontUp = true ∧ s.fld powerBase PWR_STATE_STATE ≠ 1 ∧
    s.fld systemBase STRAP_STATUS_BUS_SEL = 1) ∧
    (∃ (on : Bool) (s : State), s.noneDue ∧ s.frontUp = true ∧ s.fld powerBase PWR_STATE_STATE ≠ 1 ∧
    s.fld systemBase STRAP_STATUS_BUS_SEL = 1) ∧
    (∃ (c : I3cCcc) (k : Nat) (s : State), (c, k) ∈ [(I3cCcc.getpid, 6), (.getbcr, 1), (.getdcr, 1), (.getstatus, 2)] ∧
    s.noneDue ∧ s.frontUp = true ∧ s.fld powerBase PWR_STATE_STATE ≠ 1 ∧ s.fld systemBase STRAP_STATUS_BUS_SEL = 1) ∧
    (∃ (code : Byte) (s : State), s.noneDue ∧ s.frontUp = true ∧ s.fld powerBase PWR_STATE_STATE ≠ 1 ∧
    s.fld systemBase STRAP_STATUS_BUS_SEL = 1) ∧
    (∃ (c : I3cCcc) (s : State), s.fld systemBase STRAP_STATUS_BUS_SEL ≠ 1) ∧
    (∃ (s : State), s.noneDue ∧ s.frontUp = true ∧ s.fld powerBase PWR_STATE_STATE ≠ 1 ∧
    s.fld systemBase STRAP_STATUS_BUS_SEL = 1) ∧
    (∃ (s : State), s.noneDue ∧ s.frontUp = true ∧ s.fld powerBase PWR_STATE_STATE ≠ 1 ∧
    s.fld systemBase STRAP_STATUS_BUS_SEL = 1) ∧
    (∃ (s : State), s.noneDue ∧ s.frontUp = true ∧ s.fld powerBase PWR_STATE_STATE ≠ 1 ∧
    s.fld systemBase STRAP_STATUS_BUS_SEL = 1) :=
  ⟨⟨4, 1, 0, stFront.attn ATTN_CAUSE_REPLY_READY, by unfold State.noneDue; decide +kernel⟩,
   ⟨8, 0xFFFF, 0, stFront.attn ATTN_CAUSE_REPLY_READY, by unfold State.noneDue; decide +kernel⟩,
   ⟨12, 1, 0, stFront, by unfold State.noneDue; decide +kernel⟩,
   ⟨0, 6, stFront, by unfold State.noneDue; decide +kernel⟩,
   ⟨5, stI3c, by unfold State.noneDue; decide +kernel⟩,
   ⟨true, stI3c, by unfold State.noneDue; decide +kernel⟩,
   ⟨.getpid, 6, stI3c, by unfold State.noneDue; decide +kernel⟩,
   ⟨0x77, stI3c, by unfold State.noneDue; decide +kernel⟩,
   ⟨.getbcr, stFront, by decide +kernel⟩,
   ⟨stI3c, by unfold State.noneDue; decide +kernel⟩,
   ⟨stI3c, by unfold State.noneDue; decide +kernel⟩,
   ⟨stI3c, by unfold State.noneDue; decide +kernel⟩⟩

theorem witness_SystemCommands :
    (∃ (o : Origin) (data : List Byte) (s : State), s.noneDue ∧ s.accepts o 0x0000 ∧ data.length ≤ 1024) ∧
    (∃ (o : Origin) (data : List Byte) (s : State), s.noneDue ∧ s.accepts o 0x0000 ∧ 1024 < data.length) ∧
    (∃ (o : Origin) (v : Nat) (s : State), s.noneDue ∧ s.accepts o 0x0001 ∧ s.boot.version = some v) ∧
    (∃ (o : Origin) (s : State), s.noneDue ∧ s.accepts o 0x0001 ∧ s.boot.version = none) ∧
    (∃ (o : Origin) (s : State), s.noneDue ∧ s.accepts o 0x0002) ∧
    (∃ (o : Origin) (profile : Byte) (s : State), s.noneDue ∧ s.accepts o 0x0003 ∧ profile.toNat ≤ 3 ∧
    s.lanesRun = false ∧ s.flag thermBase THERM_STATUS_THROTTLE = false ∧
    (s.lanes.change ≠ none ∨ s.profile ≠ profile.toNat)) ∧
    (∃ (o : Origin) (profile : Byte) (s : State), s.noneDue ∧ s.accepts o 0x0003 ∧ profile.toNat ≤ 3 ∧
    s.lanesRun = false ∧ s.flag thermBase THERM_STATUS_THROTTLE = false ∧ s.lanes.change = none ∧
    s.profile = profile.toNat) ∧
    (∃ (o : Origin) (profile : Byte) (s : State), s.noneDue ∧ s.accepts o 0x0003 ∧ profile.toNat ≤ 3 ∧
    s.lanesRun = false ∧ s.flag thermBase THERM_STATUS_THROTTLE = true) ∧
    (∃ (o : Origin) (profile : Byte) (s : State), s.noneDue ∧ s.accepts o 0x0003 ∧ 3 < profile.toNat) ∧
    (∃ (o : Origin) (profile : Byte) (s : State), s.noneDue ∧ s.accepts o 0x0003 ∧ profile.toNat ≤ 3 ∧
    s.lanesRun = true) ∧
    (∃ (o : Origin) (mode grouping : Byte) (s : State), s.noneDue ∧ s.accepts o 0x0004 ∧ mode.toNat ≤ 2 ∧
    grouping.toNat ≤ 4 ∧ s.lanesRun = false ∧ s.lanes.mode = mode.toNat ∧ s.lanes.grouping ≠ grouping.toNat ∧
    regrouped s.lanes.grouping grouping.toNat ≠ []) ∧
    (∃ (o : Origin) (mode grouping : Byte) (s : State), s.noneDue ∧ s.accepts o 0x0004 ∧ mode.toNat ≤ 2 ∧
    grouping.toNat ≤ 4 ∧ s.lanesRun = false ∧ s.lanes.mode ≠ mode.toNat) ∧
    (∃ (o : Origin) (mode grouping : Byte) (s : State), s.noneDue ∧ s.accepts o 0x0004 ∧ s.lanesRun = false ∧
    s.lanes.mode = mode.toNat ∧ s.lanes.grouping = grouping.toNat ∧ mode.toNat ≤ 2 ∧ grouping.toNat ≤ 4) ∧
    (∃ (o : Origin) (mode grouping : Byte) (s : State), s.noneDue ∧ s.accepts o 0x0004 ∧
    (2 < mode.toNat ∨ 4 < grouping.toNat)) ∧
    (∃ (o : Origin) (mode grouping : Byte) (s : State), s.noneDue ∧ s.accepts o 0x0004 ∧ mode.toNat ≤ 2 ∧
    grouping.toNat ≤ 4 ∧ s.lanesRun = true) ∧
    (∃ (o : Origin) (key : Word) (s : State), s.noneDue ∧ s.accepts o 0x0007 ∧ key = 0xC0DE5AFE) ∧
    (∃ (o : Origin) (key : Word) (s : State), s.noneDue ∧ s.accepts o 0x0007 ∧ key ≠ 0xC0DE5AFE) ∧
    (∃ (o : Origin) (s : State), s.noneDue ∧ s.accepts o 0x0008 ∧ s.flag keyBase KEY_STATUS_FOLLOWER_OK = true) ∧
    (∃ (o : Origin) (s : State), s.noneDue ∧ s.accepts o 0x0008 ∧ s.flag keyBase KEY_STATUS_FOLLOWER_OK = false) ∧
    (∃ (o : Origin) (offset : Word) (data : List Byte) (s : State), s.noneDue ∧ s.accepts o 0x0009 ∧
    chunkFits data.length = true ∧ offset.toNat % 4 = 0 ∧ offset.toNat + data.length ≤ 0x100000) ∧
    (∃ (o : Origin) (offset : Word) (data : List Byte) (s : State), s.noneDue ∧ s.accepts o 0x0009 ∧
    chunkFits data.length = true ∧ (offset.toNat % 4 ≠ 0 ∨ 0x100000 < offset.toNat + data.length)) ∧
    (∃ (o : Origin) (length : Word) (s : State), s.noneDue ∧ s.accepts o 0x000A ∧ length.toNat % 4 = 0 ∧
    256 ≤ length.toNat ∧ length.toNat ≤ 0x100000 ∧ s.isRunning 0x000A = false) ∧
    (∃ (o : Origin) (length : Word) (s : State), s.noneDue ∧ s.accepts o 0x000A ∧
    (length.toNat % 4 ≠ 0 ∨ length.toNat < 256 ∨ 0x100000 < length.toNat ∨ s.isRunning 0x000A = true)) :=
  ⟨⟨oB, ([1,2]), stCmd, by unfold State.noneDue State.accepts; decide +kernel⟩,
   ⟨oB, (List.replicate 1025 1), stCmd, by unfold State.noneDue State.accepts; decide +kernel⟩,
   ⟨oB, 5, ({ stCmd with boot := { stCmd.boot with version := some 5 } }),
    by unfold State.noneDue State.accepts; decide +kernel⟩,
   ⟨oB, stCmd, by unfold State.noneDue State.accepts; decide +kernel⟩,
   ⟨oB, stCmd, by unfold State.noneDue State.accepts; decide +kernel⟩,
   ⟨oB, 1, stCmd, by unfold State.noneDue State.accepts; decide +kernel⟩,
   ⟨oB, 0, stCmd, by unfold State.noneDue State.accepts; decide +kernel⟩,
   ⟨oB, 1, (stCmd.setFlag thermBase THERM_STATUS_THROTTLE true), by unfold State.noneDue State.accepts; decide +kernel⟩,
   ⟨oB, 9, stCmd, by unfold State.noneDue State.accepts; decide +kernel⟩,
   ⟨oB, 1, (stCmd.accept oB 0x0A00 0), by unfold State.noneDue State.accepts; decide +kernel⟩,
   ⟨oB, 0, 1, stCmd, by unfold State.noneDue State.accepts; decide +kernel⟩,
   ⟨oB, 1, 0, stCmd, by unfold State.noneDue State.accepts; decide +kernel⟩,
   ⟨oB, 0, 0, stCmd, by unfold State.noneDue State.accepts; decide +kernel⟩,
   ⟨oB, 3, 0, stCmd, by unfold State.noneDue State.accepts; decide +kernel⟩,
   ⟨oB, 1, 0,
    stReady.accept oB 3 1 |> fun s => { s with link := { s.link with outbox := [] }, lanes := { s.lanes with change := some ⟨1, [0], none⟩ } },
    by unfold State.noneDue State.accepts; decide +kernel⟩,
   ⟨oB, 0xC0DE5AFE, stCmd, by unfold State.noneDue State.accepts; decide +kernel⟩,
   ⟨oB, 0xC0DE5AFF, stCmd, by unfold State.noneDue State.accepts; decide +kernel⟩,
   ⟨oB, (stCmd.setFlag keyBase KEY_STATUS_FOLLOWER_OK true), by unfold State.noneDue State.accepts; decide +kernel⟩,
   ⟨oB, stCmd, by unfold State.noneDue State.accepts; decide +kernel⟩,
   ⟨oB, 8, ([1,2,3,4]), (stCmd.setFld systemBase STATUS_DEV_STATE 2),
    by unfold State.noneDue State.accepts; decide +kernel⟩,
   ⟨oB, 9, ([1,2,3,4]), (stCmd.setFld systemBase STATUS_DEV_STATE 2),
    by unfold State.noneDue State.accepts; decide +kernel⟩,
   ⟨oB, 256, (stCmd.setFld systemBase STATUS_DEV_STATE 2), by unfold State.noneDue State.accepts; decide +kernel⟩,
   ⟨oB, 255, (stCmd.setFld systemBase STATUS_DEV_STATE 2), by unfold State.noneDue State.accepts; decide +kernel⟩⟩

theorem witness_RegisterAccess :
    (∃ (o : Origin) (addr : Word) (words : BitVec 16) (s : State), s.noneDue ∧ s.accepts o 0x0005 ∧ words.toNat = 1 ∧
    regValid addr.toNat = true ∧ regDomain addr.toNat = none) ∧
    (∃ (o : Origin) (addr : Word) (words : BitVec 16) (s : State), s.noneDue ∧ s.accepts o 0x0005 ∧ 1 ≤ words.toNat ∧
    words.toNat ≤ 256 ∧ (List.range words.toNat).all (fun i => regValid (addr.toNat + 4 * i)) = true) ∧
    (∃ (o : Origin) (addr : Word) (words : BitVec 16) (s : State), s.noneDue ∧ s.accepts o 0x0005 ∧ (words.toNat = 0 ∨
    256 < words.toNat ∨ (List.range words.toNat).all (fun i => regValid (addr.toNat + 4 * i)) = false)) ∧
    (∃ (o : Origin) (pairs : List (Word × Word)) (s : State), s.noneDue ∧ s.accepts o 0x0006 ∧ 1 ≤ pairs.length ∧
    pairs.length ≤ 128 ∧ pairs.all (fun p => regValid p.1.toNat) = true) ∧
    (∃ (o : Origin) (pairs : List (Word × Word)) (s : State), s.noneDue ∧ s.accepts o 0x0006 ∧ 1 ≤ pairs.length ∧
    pairs.length ≤ 128 ∧ pairs.all (fun p => regValid p.1.toNat) = false) ∧
    (∃ (o : Origin) (pairs : List (Word × Word)) (s : State), s.noneDue ∧ s.accepts o 0x0006 ∧
    (pairs = [] ∨ 128 < pairs.length)) ∧
    (∃ (ctl : Ctrl) (addr value arriving : Word) (s : State), regValid addr.toNat = true ∧ ctl = s.holderCtrl ∧
    regDomain addr.toNat = none) ∧
    (∃ (ctl : Ctrl) (addr value arriving : Word) (r : RegRow) (s : State), s.noneDue ∧ regValid addr.toNat = true ∧
    ctl = s.holderCtrl ∧ regRow? addr.toNat = some r ∧ regDomain addr.toNat = none ∧ (fuseBase ≤ addr.toNat ∧
    addr.toNat < powerBase ∨ memProtBase ≤ addr.toNat ∧ addr.toNat < hkBase ∧
    addr.toNat % 0x10000 ≠ 0x54 ∨ keyBase ≤ addr.toNat)) ∧
    (∃ (ctl : Ctrl) (addr value arriving : Word) (d : Nat) (s : State), regValid addr.toNat = true ∧
    ctl = s.holderCtrl ∧ regDomain addr.toNat = some d) ∧
    (∃ (ctl : Ctrl) (addr value arriving : Word) (s : State), regValid addr.toNat = true ∧ ctl ≠ s.holderCtrl ∧
    s.takes 0x8001 (ctrlNum ctl * 0x8000 + addr.toNat / 4 % 0x8000)) ∧
    (∃ (ctl : Ctrl) (addr value arriving : Word) (s : State), regValid addr.toNat = false) ∧
    (∃ (addr arriving : Word) (s : State), s.noneDue ∧ rcMask addr.toNat ≠ 0) ∧
    (∃ (addr arriving : Word) (s : State), rcMask addr.toNat = 0) ∧
    (∃ (seq : Byte) (opcode : BitVec 16) (o : Origin) (arg : Nat) (s : State), s.noneDue ∧
    s.link.running = [⟨o, opcode.toNat, arg⟩] ∧ o.seq = seq ∧ opcode ≠ 0x000A ∧ opcode ≠ 0x0008 ∧ opcode ≠ 0x0A04 ∧
    s.link.inbox = []) ∧
    (∃ (seq : Byte) (opcode : BitVec 16) (o : Origin) (arg : Nat) (s : State), s.noneDue ∧
    s.link.running = [⟨o, opcode.toNat, arg⟩] ∧ arg = 0 ∧ o.seq = seq ∧ opcode = 0x0008 ∧
    s.flag keyBase KEY_STATUS_FOLLOWER_OK = true ∧ s.link.inbox = [] ∧ s.link.waiting = [] ∧ s.link.outbox.length < 4) ∧
    (∃ (seq : Byte) (opcode : BitVec 16) (s : State), s.link.running.find? (fun x => x.origin.seq == seq && x.opcode ==
    opcode.toNat) = none) ∧
    (∃ (seq : Byte) (opcode : BitVec 16) (o : Origin) (arg : Nat) (j : FlashJob) (s : State), s.noneDue ∧
    s.link.running = [⟨o, opcode.toNat, arg⟩] ∧ arg = 0 ∧ o.seq = seq ∧ opcode = 0x0A04 ∧ s.flashJob = some j ∧
    s.flashFirst = true ∧ s.link.inbox = [] ∧ s.link.waiting = [] ∧ s.link.outbox.length < 4) ∧
    (∃ (seq : Byte) (opcode : BitVec 16) (o : Origin) (arg : Nat) (s : State), s.noneDue ∧
    s.link.running = [⟨o, opcode.toNat, arg⟩] ∧ o.seq = seq ∧ opcode = 0x000A) ∧
    (∃ (seq : Byte) (opcode : BitVec 16) (o : Origin) (arg : Nat) (s : State), s.noneDue ∧
    s.link.running = [⟨o, opcode.toNat, arg⟩] ∧ o.seq = seq ∧ opcode = 0x000A ∧ s.link.inbox = [] ∧
    s.link.waiting = [] ∧ s.link.outbox.length < 4) :=
  ⟨⟨oB, 0x08030000, 1, stCmd, by unfold State.noneDue State.accepts; decide +kernel⟩,
   ⟨oB, 0x08030000, 4, stCmd, by unfold State.noneDue State.accepts; decide +kernel⟩,
   ⟨oB, 0x07000000, 4, stCmd, by unfold State.noneDue State.accepts; decide +kernel⟩,
   ⟨oB, ([(0x08000200, 0x10000), (0x08030004, 5)]), stCmd, by unfold State.noneDue State.accepts; decide +kernel⟩,
   ⟨oB, ([(0x07000200, 0x10000), (0x08030004, 5)]), stCmd, by unfold State.noneDue State.accepts; decide +kernel⟩,
   ⟨oB, [], stCmd, by unfold State.noneDue State.accepts; decide +kernel⟩,
   ⟨.a, 0x08000200, 0x10000, 0, stCmd, by decide +kernel⟩,
   ⟨.a, 0x08040000, 5, 0, ⟨0, 4, 1, 256, 65535, 0, 0⟩, stCmd, by unfold State.noneDue; decide +kernel⟩,
   ⟨.a, 0x08101000, 0x10000, 0, 8, stCmd, by decide +kernel⟩,
   ⟨.b, 0x08000200, 0x10000, 0, stCmd, by unfold State.takes; decide +kernel⟩,
   ⟨.b, 0x07000200, 0x10000, 0, stCmd, by decide +kernel⟩,
   ⟨0x08300008, 0, (stCmd.setReg 0x08300008 0xFFFFFFFF), by unfold State.noneDue; decide +kernel⟩,
   ⟨0x08030000, 0, stCmd, by decide +kernel⟩,
   ⟨7, 0x0003, oB, 0, (stCmd.accept oB 3 0 |> fun s => { s with link := { s.link with outbox := [] } }),
    by unfold State.noneDue; decide +kernel⟩,
   ⟨7, 0x0008, oB, 0,
    ((stCmd.accept oB 8 0).setFlag keyBase KEY_STATUS_FOLLOWER_OK true |> fun s => { s with link := { s.link with outbox := [] } }),
    by unfold State.noneDue; decide +kernel⟩,
   ⟨7, 0x0008, stCmd, by decide +kernel⟩,
   ⟨7, 0x0A04, oB, 0, (⟨0x400000, true, [1,2,3,4], 0⟩),
    ((stCmd.accept oB 0xA04 0) |> fun s => { s with flashJob := some ⟨0x400000, true, [1,2,3,4], 0⟩, link := { s.link with outbox := [] } }),
    by unfold State.noneDue; decide +kernel⟩,
   ⟨7, 0x000A, oB, 0x100, (stCmd.accept oB 0xA 0x100 |> fun s => { s with link := { s.link with outbox := [] } }),
    by unfold State.noneDue; decide +kernel⟩,
   ⟨7, 0x000A, oB, 0x104, (stCmd.accept oB 0xA 0x104 |> fun s => { s with link := { s.link with outbox := [] } }),
    by unfold State.noneDue; decide +kernel⟩⟩

theorem witness_StatusAndMemoryCommands :
    (∃ (o : Origin) (mask : Byte) (s : State), s.noneDue ∧ s.accepts o 0x0100 ∧ mask ≠ 0) ∧
    (∃ (o : Origin) (mask : Byte) (s : State), s.noneDue ∧ s.accepts o 0x0100 ∧ mask = 0) ∧
    (∃ (o : Origin) (mask : BitVec 16) (s : State), s.noneDue ∧ s.accepts o 0x0200 ∧ mask ≠ 0) ∧
    (∃ (o : Origin) (mask : BitVec 16) (s : State), s.noneDue ∧ s.accepts o 0x0200 ∧ mask = 0) ∧
    (∃ (o : Origin) (page : Word) (k : Nat) (s : State), s.noneDue ∧ s.accepts o 0x0300 ∧ page.toNat % 0x1000 = 0 ∧
    page.toNat < 0x01000000 ∧ s.freeSpares.head? = some k ∧ s.retireBusy = false) ∧
    (∃ (o : Origin) (page : Word) (s : State), s.noneDue ∧ s.accepts o 0x0300 ∧
    (page.toNat % 0x1000 ≠ 0 ∨ 0x01000000 ≤ page.toNat ∨ s.freeSpares = [])) ∧
    (∃ (o : Origin) (page : Word) (s : State), s.noneDue ∧ s.accepts o 0x0300 ∧ page.toNat % 0x1000 = 0 ∧
    page.toNat < 0x01000000 ∧ s.freeSpares ≠ [] ∧ s.retireBusy = true) ∧
    (∃ (o : Origin) (mem flags : Byte) (s : State), s.noneDue ∧ s.accepts o 0x0301 ∧ mem.toNat ≤ 3 ∧
    flags.getLsbD 0 = false) ∧
    (∃ (o : Origin) (mem flags : Byte) (s : State), s.noneDue ∧ s.accepts o 0x0301 ∧ mem.toNat ≤ 3 ∧
    flags.getLsbD 0 = true) ∧
    (∃ (o : Origin) (mem flags : Byte) (s : State), s.noneDue ∧ s.accepts o 0x0301 ∧ 3 < mem.toNat) ∧
    (∃ (o : Origin) (addr : Word) (count : BitVec 16) (findings : List WordFinding) (s : State), s.noneDue ∧
    s.accepts o 0x0302 ∧ addr.toNat % 4 = 0 ∧ count.toNat % 4 = 0 ∧ 4 ≤ count.toNat ∧ count.toNat ≤ 1024 ∧
    memReadable addr.toNat count.toNat = true) ∧
    (∃ (o : Origin) (addr : Word) (count : BitVec 16) (findings : List WordFinding) (s : State), s.noneDue ∧
    s.accepts o 0x0302 ∧ addr.toNat % 4 = 0 ∧ count.toNat = 4 ∧ addr.toNat + 4 ≤ 0x01000000 ∧
    firmwareArea addr.toNat = false ∧ findings = [] ∧ (s.hallWord addr.toNat).2 = false) ∧
    (∃ (o : Origin) (addr : Word) (count : BitVec 16) (findings : List WordFinding) (s : State), s.noneDue ∧
    s.accepts o 0x0302 ∧ (addr.toNat % 4 ≠ 0 ∨ count.toNat % 4 ≠ 0 ∨ count.toNat < 4 ∨ 1024 < count.toNat ∨ memReadable
    addr.toNat count.toNat = false)) ∧
    (∃ (o : Origin) (addr : Word) (data : List Byte) (s : State), s.noneDue ∧ s.accepts o 0x0303 ∧
    chunkFits data.length = true ∧ addr.toNat % 4 = 0 ∧ 0x00A00000 ≤ addr.toNat ∧
    addr.toNat + data.length ≤ 0x00B00000 ∧ s.retLost (addr.toNat / 0x40000) = false) ∧
    (∃ (o : Origin) (addr : Word) (data : List Byte) (s : State), s.noneDue ∧ s.accepts o 0x0303 ∧
    chunkFits data.length = true ∧
    (addr.toNat % 4 ≠ 0 ∨ addr.toNat < 0x00A00000 ∨ 0x00B00000 < addr.toNat + data.length)) :=
  ⟨⟨oB, 5, stCmd, by unfold State.noneDue State.accepts; decide +kernel⟩,
   ⟨oB, 0, stCmd, by unfold State.noneDue State.accepts; decide +kernel⟩,
   ⟨oB, 5, stCmd, by unfold State.noneDue State.accepts; decide +kernel⟩,
   ⟨oB, 0, stCmd, by unfold State.noneDue State.accepts; decide +kernel⟩,
   ⟨oB, 0x5000, 0, stCmd, by unfold State.noneDue State.accepts; decide +kernel⟩,
   ⟨oB, 0x5001, stCmd, by unfold State.noneDue State.accepts; decide +kernel⟩,
   ⟨oB, 0x5000, stCmd.setFlag memProtBase RETIRE_STATUS_BUSY true,
    by unfold State.noneDue State.accepts; decide +kernel⟩,
   ⟨oB, 1, 0, stCmd, by unfold State.noneDue State.accepts; decide +kernel⟩,
   ⟨oB, 1, 1, (stCmd.eccLog 1 ⟨8, 65, 3, false, false, false, 0, 0⟩),
    by unfold State.noneDue State.accepts; decide +kernel⟩,
   ⟨oB, 4, 0, stCmd, by unfold State.noneDue State.accepts; decide +kernel⟩,
   ⟨oB, 0x100, 8, ([.clean, .corrected 3 false]), stCmd, by unfold State.noneDue State.accepts; decide +kernel⟩,
   ⟨oB, 0x100, 4, ([]), ({ stCmd with mem := [(0x101, 7)] }), by unfold State.noneDue State.accepts; decide +kernel⟩,
   ⟨oB, 0x02000000, 4, ([]), stCmd, by unfold State.noneDue State.accepts; decide +kernel⟩,
   ⟨oB, 0x00A00000, ([1,2,3,4]), stCmd, by unfold State.noneDue State.accepts; decide +kernel⟩,
   ⟨oB, 0x00900000, ([1,2,3,4]), stCmd, by unfold State.noneDue State.accepts; decide +kernel⟩⟩

theorem witness_FaultAndPowerCommands :
    (∃ (o : Origin) (s : State), s.noneDue ∧ s.accepts o 0x0400) ∧
    (∃ (o : Origin) (bits : Byte) (s : State), s.noneDue ∧ s.accepts o 0x0401 ∧ bits ≠ 0) ∧
    (∃ (o : Origin) (bits : Byte) (s : State), s.noneDue ∧ s.accepts o 0x0401 ∧ bits = 0) ∧
    (∃ (o : Origin) (src set : BitVec 16) (x : Nat) (s : State), s.noneDue ∧ s.accepts o 0x0402 ∧
    configSet src.toNat set.toNat = some x) ∧
    (∃ (o : Origin) (src set : BitVec 16) (s : State), s.noneDue ∧ s.accepts o 0x0402 ∧
    configSet src.toNat set.toNat = none) ∧
    (∃ (o : Origin) (sev : Byte) (s : State), s.noneDue ∧ s.accepts o 0x0403 ∧ sev ≠ 0 ∧ sev.toNat ≤ 4) ∧
    (∃ (o : Origin) (sev : Byte) (s : State), s.noneDue ∧ s.accepts o 0x0403 ∧ (sev = 0 ∨ 4 < sev.toNat)) ∧
    (∃ (o : Origin) (dom vote : Byte) (linger : BitVec 16) (s : State), s.noneDue ∧ s.accepts o 0x0500 ∧
    domVotable dom.toNat = true ∧ vote.toNat ≤ 1 ∧ linger.toNat ≤ 1000) ∧
    (∃ (o : Origin) (dom vote : Byte) (linger : BitVec 16) (s : State), s.noneDue ∧ s.accepts o 0x0500 ∧
    (domVotable dom.toNat = false ∨ 1 < vote.toNat ∨ 1000 < linger.toNat)) ∧
    (∃ (o : Origin) (st : Byte) (s : State), s.noneDue ∧ s.accepts o 0x0501 ∧ st = 1 ∧
    s.fld powerBase PWR_STATE_STATE = 0 ∧ s.dozeBarred = false) ∧
    (∃ (o : Origin) (st : Byte) (s : State), s.noneDue ∧ s.accepts o 0x0501 ∧ st = 2 ∧
    s.fld powerBase PWR_STATE_STATE = 0) ∧
    (∃ (o : Origin) (st : Byte) (s : State), s.noneDue ∧ s.accepts o 0x0501 ∧ st = 3 ∧
    s.fld powerBase PWR_STATE_STATE = 0) ∧
    (∃ (o : Origin) (st : Byte) (s : State), s.noneDue ∧ s.accepts o 0x0501 ∧
    st.toNat = s.fld powerBase PWR_STATE_STATE ∧ st ≠ 1 ∧ s.power.next = none ∧ s.isRunning 0x0501 = false) ∧
    (∃ (o : Origin) (st : Byte) (s : State), s.noneDue ∧ s.accepts o 0x0501 ∧ st.toNat ≤ 3 ∧
    (st ≠ 2 ∨ s.power.next ≠ none) ∧ (st ≠ 1 ∨ s.dozeBarred = false) ∧ s.fld powerBase PWR_STATE_STATE = 2) ∧
    (∃ (o : Origin) (st : Byte) (s : State), s.noneDue ∧ s.accepts o 0x0501 ∧ (3 < st.toNat ∨ (st = 1 ∧
    s.dozeBarred = true))) :=
  ⟨⟨oB, stCmd, by unfold State.noneDue State.accepts; decide +kernel⟩,
   ⟨oB, 3, (stCmd.raise 0x5100 0), by unfold State.noneDue State.accepts; decide +kernel⟩,
   ⟨oB, 0, stCmd, by unfold State.noneDue State.accepts; decide +kernel⟩,
   ⟨oB, 0x4030, 1, ((configSet 0x4030 1).getD 0), stCmd, by unfold State.noneDue State.accepts; decide +kernel⟩,
   ⟨oB, 0x4030, 0x8000, stCmd, by unfold State.noneDue State.accepts; decide +kernel⟩,
   ⟨oB, 3, stCmd, by unfold State.noneDue State.accepts; decide +kernel⟩,
   ⟨oB, 5, stCmd, by unfold State.noneDue State.accepts; decide +kernel⟩,
   ⟨oB, 70, 1, 900, stCmd, by unfold State.noneDue State.accepts; decide +kernel⟩,
   ⟨oB, 5, 1, 900, stCmd, by unfold State.noneDue State.accepts; decide +kernel⟩,
   ⟨oB, 1, stCmd, by unfold State.noneDue State.accepts; decide +kernel⟩,
   ⟨oB, 2, stCmd, by unfold State.noneDue State.accepts; decide +kernel⟩,
   ⟨oB, 3, stCmd, by unfold State.noneDue State.accepts; decide +kernel⟩,
   ⟨oB, 0, stCmd, by unfold State.noneDue State.accepts; decide +kernel⟩,
   ⟨oB, 0, (stCmd.setFld powerBase PWR_STATE_STATE 2), by unfold State.noneDue State.accepts; decide +kernel⟩,
   ⟨oB, 4, stCmd, by unfold State.noneDue State.accepts; decide +kernel⟩⟩

theorem witness_ConverterAndTamidCommands :
    (∃ (o : Origin) (mask : Word) (s : State), s.noneDue ∧ s.accepts o 0x0600 ∧ mask ≠ 0) ∧
    (∃ (o : Origin) (mask : Word) (s : State), s.noneDue ∧ s.accepts o 0x0600 ∧ mask = 0) ∧
    (∃ (o : Origin) (ch count : Byte) (codes : List (BitVec 16)) (s : State), s.noneDue ∧ s.accepts o 0x0601 ∧
    codes.length = count.toNat ∧ ch.toNat ≤ 31 ∧ codes ≠ [] ∧ codes.all (fun v => decide (v.toNat ≤ 0x3FFF)) = true ∧
    s.cdac[Fin.ofNat 32 ch.toNat].queue.length + codes.length ≤ 16) ∧
    (∃ (o : Origin) (ch count : Byte) (codes : List (BitVec 16)) (s : State), s.noneDue ∧ s.accepts o 0x0601 ∧
    codes.length = count.toNat ∧ ch.toNat ≤ 31 ∧ codes ≠ [] ∧ codes.length ≤ 16 ∧
    codes.all (fun v => decide (v.toNat ≤ 0x3FFF)) = true ∧
    16 < s.cdac[Fin.ofNat 32 ch.toNat].queue.length + codes.length) ∧
    (∃ (o : Origin) (ch count : Byte) (codes : List (BitVec 16)) (s : State), s.noneDue ∧ s.accepts o 0x0601 ∧
    codes.length = count.toNat ∧
    (31 < ch.toNat ∨ codes = [] ∨ 16 < codes.length ∨ codes.any (fun v => decide (0x3FFF < v.toNat)) = true)) ∧
    (∃ (o : Origin) (ch flags : Byte) (rate : Word) (step safe : BitVec 16) (s : State), s.noneDue ∧
    s.accepts o 0x0602 ∧ ch.toNat ≤ 31 ∧ 10000 ≤ rate.toNat ∧ rate.toNat ≤ 10000000 ∧ step.toNat ≤ 0x3FFF ∧
    safe.toNat ≤ 0x3FFF) ∧
    (∃ (o : Origin) (ch flags : Byte) (rate : Word) (step safe : BitVec 16) (s : State), s.noneDue ∧
    s.accepts o 0x0602 ∧
    (31 < ch.toNat ∨ rate.toNat < 10000 ∨ 10000000 < rate.toNat ∨ 0x3FFF < step.toNat ∨ 0x3FFF < safe.toNat)) ∧
    (∃ (o : Origin) (inst carrier fsk depth method st : Byte) (d : Nat) (s : State), s.noneDue ∧ s.accepts o 0x0700 ∧
    s.configBad inst.toNat carrier.toNat fsk.toNat depth.toNat method.toNat st.toNat = false ∧
    s.tamid[Fin.ofNat 8 inst.toNat].target = none ∧ configState st.toNat = some d) ∧
    (∃ (o : Origin) (inst carrier fsk depth method st : Byte) (s : State), s.noneDue ∧ s.accepts o 0x0700 ∧
    s.configBad inst.toNat carrier.toNat fsk.toNat depth.toNat method.toNat st.toNat = true) ∧
    (∃ (o : Origin) (inst carrier fsk depth method st : Byte) (s : State), s.noneDue ∧ s.accepts o 0x0700 ∧
    s.configBad inst.toNat carrier.toNat fsk.toNat depth.toNat method.toNat st.toNat = false ∧
    s.tamid[Fin.ofNat 8 inst.toNat].target ≠ none) ∧
    (∃ (o : Origin) (inst len : Byte) (payload : List Byte) (s : State), s.noneDue ∧ s.accepts o 0x0701 ∧
    payload.length = len.toNat ∧ s.sendBad inst.toNat len.toNat payload = false ∧
    s.tamid[Fin.ofNat 8 inst.toNat].air = none ∧ s.tamid[Fin.ofNat 8 inst.toNat].host = none ∧
    s.tamid[Fin.ofNat 8 inst.toNat].own = []) ∧
    (∃ (o : Origin) (inst len : Byte) (payload : List Byte) (s : State), s.noneDue ∧ s.accepts o 0x0701 ∧
    payload.length = len.toNat ∧ s.sendBad inst.toNat len.toNat payload = false ∧ (s.tamid[Fin.ofNat 8 inst.toNat].air ≠
    none ∨ s.tamid[Fin.ofNat 8 inst.toNat].host ≠ none ∨ s.tamid[Fin.ofNat 8 inst.toNat].own ≠ [])) ∧
    (∃ (o : Origin) (inst len : Byte) (payload : List Byte) (s : State), s.noneDue ∧ s.accepts o 0x0701 ∧
    payload.length = len.toNat ∧ s.sendBad inst.toNat len.toNat payload = true) ∧
    (∃ (o : Origin) (inst : Byte) (s : State), s.noneDue ∧ s.accepts o 0x0702 ∧ inst.toNat ≤ 7) ∧
    (∃ (o : Origin) (inst : Byte) (s : State), s.noneDue ∧ s.accepts o 0x0702 ∧ 7 < inst.toNat) ∧
    (∃ (o : Origin) (s : State), s.noneDue ∧ s.accepts o 0x0703) :=
  ⟨⟨oB, 5, stCmd, by unfold State.noneDue State.accepts; decide +kernel⟩,
   ⟨oB, 0, stCmd, by unfold State.noneDue State.accepts; decide +kernel⟩,
   ⟨oB, 31, 2, ([5, 0x3FFF]), stCmd, by unfold State.noneDue State.accepts; decide +kernel⟩,
   ⟨oB, 31, 2, ([5, 0x3FFF]), (stCmd.modCdac 31 fun d => { d with queue := List.replicate 15 0 }),
    by unfold State.noneDue State.accepts; decide +kernel⟩,
   ⟨oB, 32, 1, ([5]), stCmd, by unfold State.noneDue State.accepts; decide +kernel⟩,
   ⟨oB, 3, 3, 3000000, 5, 0x3FFF, stCmd, by unfold State.noneDue State.accepts; decide +kernel⟩,
   ⟨oB, 3, 3, 300, 5, 0x3FFF, stCmd, by unfold State.noneDue State.accepts; decide +kernel⟩,
   ⟨oB, 2, 5, 1, 3, 0, 2, 3, stCmd, by unfold State.noneDue State.accepts; decide +kernel⟩,
   ⟨oB, 8, 5, 1, 3, 0, 2, stCmd, by unfold State.noneDue State.accepts; decide +kernel⟩,
   ⟨oB, 2, 5, 1, 3, 0, 2, (stCmd.modTamid 2 fun t => { t with target := some ⟨5, true, 3, false, 3⟩ }),
    by unfold State.noneDue State.accepts; decide +kernel⟩,
   ⟨oB, 2, 2, ([1,2]), ((stCmd.setFld (tamidBase 2) TM_STATUS_STATE 3).setFld (tamidBase 2) TM_CTRL_OMA_CODES 5),
    by unfold State.noneDue State.accepts; decide +kernel⟩,
   ⟨oB, 2, 2, ([1,2]),
    (((stCmd.setFld (tamidBase 2) TM_STATUS_STATE 3).setFld (tamidBase 2) TM_CTRL_OMA_CODES 5).modTamid 2 fun t => { t with own := [[1]] }),
    by unfold State.noneDue State.accepts; decide +kernel⟩,
   ⟨oB, 2, 2, ([1,2]), stCmd, by unfold State.noneDue State.accepts; decide +kernel⟩,
   ⟨oB, 2, (stCmd.modTamid 2 fun t => { t with queue := [⟨[1,2], 3, 99⟩] }),
    by unfold State.noneDue State.accepts; decide +kernel⟩,
   ⟨oB, 8, stCmd, by unfold State.noneDue State.accepts; decide +kernel⟩,
   ⟨oB, stCmd, by unfold State.noneDue State.accepts; decide +kernel⟩⟩

theorem witness_RoomCommands :
    (∃ (o : Origin) (s : State), s.noneDue ∧ s.accepts o 0x0800) ∧
    (∃ (o : Origin) (room : Byte) (s : State), s.noneDue ∧ s.accepts o 0x0801 ∧ room.toNat ≤ 15) ∧
    (∃ (o : Origin) (room : Byte) (s : State), s.noneDue ∧ s.accepts o 0x0801 ∧ 15 < room.toNat) ∧
    (∃ (o : Origin) (engine b1 : Byte) (offset : BitVec 16) (data : List Byte) (s : State), s.noneDue ∧
    s.accepts o 0x0802 ∧ chunkFits data.length = true ∧ engine.toNat ≤ 61 ∧ b1 = 0 ∧
    (offset = 0 ∨ offset.toNat = (s.guest engine.toNat).image.length) ∧ (((if offset = 0 then [] else (s.guest
    engine.toNat).image) ++ data).length < 16 ∨ (((if offset = 0 then [] else (s.guest engine.toNat).image) ++
    data).length < guestSize ((if offset = 0 then [] else (s.guest engine.toNat).image) ++ data) ∧
    guestHeaderFits ((if offset = 0 then [] else (s.guest engine.toNat).image) ++ data) = true)) ∧
    (s.guest engine.toNat).st ≠ 2 ∧ s.guestTakeover engine.toNat = false) ∧
    (∃ (o : Origin) (engine b1 : Byte) (offset : BitVec 16) (data : List Byte) (s : State), s.noneDue ∧
    s.accepts o 0x0802 ∧ chunkFits data.length = true ∧ engine.toNat ≤ 61 ∧ b1 = 0 ∧
    (offset = 0 ∨ offset.toNat = (s.guest engine.toNat).image.length) ∧
    16 ≤ ((if offset = 0 then [] else (s.guest engine.toNat).image) ++ data).length ∧ guestSize ((if offset = 0 then []
    else (s.guest engine.toNat).image) ++ data) ≤ ((if offset = 0 then [] else (s.guest engine.toNat).image) ++
    data).length ∧ guestHeaderFits ((if offset = 0 then [] else (s.guest engine.toNat).image) ++ data) = true ∧
    (s.guest engine.toNat).st ≠ 2 ∧ s.guestTakeover engine.toNat = false ∧ s.domOn (domRoom 15) = true ∧
    s.flag powerBase ((voteBit voteAccess).ix (domRoom 15)) = false) ∧
    (∃ (o : Origin) (engine b1 : Byte) (offset : BitVec 16) (data : List Byte) (s : State), s.noneDue ∧
    s.accepts o 0x0802 ∧ chunkFits data.length = true ∧ (61 < engine.toNat ∨ b1 ≠ 0 ∨ (offset ≠ 0 ∧ offset.toNat ≠
    (s.guest engine.toNat).image.length) ∨ (16 ≤ ((if offset = 0 then [] else (s.guest engine.toNat).image) ++
    data).length ∧ guestHeaderFits ((if offset = 0 then [] else (s.guest engine.toNat).image) ++ data) = false))) ∧
    (∃ (o : Origin) (engine : Byte) (s : State), s.noneDue ∧ s.accepts o 0x0803 ∧ engine.toNat ≤ 61 ∧
    ((s.guest engine.toNat).st = 1 ∨ (s.guest engine.toNat).st = 3) ∧
    s.rooms.rooms[(15 : Fin 16)].lost.contains engine.toNat = false ∧
    s.rooms.rooms[(15 : Fin 16)].retired.contains (s.runOn 15 engine.toNat) = false ∧ s.runOn 15 engine.toNat < 64) ∧
    (∃ (o : Origin) (engine : Byte) (s : State), s.noneDue ∧ s.accepts o 0x0803 ∧ engine.toNat ≤ 61 ∧
    ((s.guest engine.toNat).st = 1 ∨ (s.guest engine.toNat).st = 3) ∧
    s.rooms.rooms[(15 : Fin 16)].lost.contains engine.toNat = true) ∧
    (∃ (o : Origin) (engine : Byte) (k : Nat) (s : State), s.noneDue ∧ s.accepts o 0x0803 ∧ engine.toNat ≤ 61 ∧
    ((s.guest engine.toNat).st = 1 ∨ (s.guest engine.toNat).st = 3) ∧
    s.rooms.rooms[(15 : Fin 16)].lost.contains engine.toNat = false ∧
    s.rooms.rooms[(15 : Fin 16)].retired.contains (s.runOn 15 engine.toNat) = true ∧
    s.rooms.rooms[(15 : Fin 16)].free.min? = some k) ∧
    (∃ (o : Origin) (engine : Byte) (s : State), s.noneDue ∧ s.accepts o 0x0803 ∧ engine.toNat ≤ 61 ∧
    ((s.guest engine.toNat).st = 1 ∨ (s.guest engine.toNat).st = 3) ∧
    s.rooms.rooms[(15 : Fin 16)].lost.contains engine.toNat = false ∧
    s.rooms.rooms[(15 : Fin 16)].retired.contains (s.runOn 15 engine.toNat) = true ∧
    s.rooms.rooms[(15 : Fin 16)].free.min? = none) ∧
    (∃ (o : Origin) (engine : Byte) (s : State), s.noneDue ∧ s.accepts o 0x0803 ∧
    (61 < engine.toNat ∨ (s.guest engine.toNat).st = 0 ∨ (s.guest engine.toNat).st = 2)) ∧
    (∃ (o : Origin) (engine : Byte) (s : State), s.noneDue ∧ s.accepts o 0x0804 ∧ engine.toNat ≤ 61 ∧
    (s.guest engine.toNat).st = 2 ∧ s.runOn 15 engine.toNat < 64) ∧
    (∃ (o : Origin) (engine : Byte) (s : State), s.noneDue ∧ s.accepts o 0x0804 ∧ engine.toNat ≤ 61 ∧
    (s.guest engine.toNat).st ≠ 2) ∧
    (∃ (o : Origin) (engine : Byte) (s : State), s.noneDue ∧ s.accepts o 0x0804 ∧ 61 < engine.toNat) ∧
    (∃ (o : Origin) (s : State), s.noneDue ∧ s.accepts o 0x0805) ∧
    (∃ (o : Origin) (engine count : Byte) (words : List (BitVec 16)) (s : State), s.noneDue ∧ s.accepts o 0x0806 ∧
    words.length = count.toNat ∧ engine.toNat ≤ 61 ∧ words.length ≤ 16 ∧ (s.guest engine.toNat).fromHost.length ≤ 16) ∧
    (∃ (o : Origin) (engine count : Byte) (words : List (BitVec 16)) (s : State), s.noneDue ∧ s.accepts o 0x0806 ∧
    words.length = count.toNat ∧ (61 < engine.toNat ∨ 16 < words.length)) :=
  ⟨⟨oB, stCmd, by unfold State.noneDue State.accepts; decide +kernel⟩,
   ⟨oB, 3, stCmd, by unfold State.noneDue State.accepts; decide +kernel⟩,
   ⟨oB, 16, stCmd, by unfold State.noneDue State.accepts; decide +kernel⟩,
   ⟨oB, 5, 0, 0, ([1,2,3,4]), stCmd, by unfold State.noneDue State.accepts; decide +kernel⟩,
   ⟨oB, 5, 0, 0, (leBytes 2 65 ++ List.replicate 14 0 ++ List.replicate 260 7), stCmd,
    by unfold State.noneDue State.accepts; decide +kernel⟩,
   ⟨oB, 62, 0, 0, ([1,2,3,4]), stCmd, by unfold State.noneDue State.accepts; decide +kernel⟩,
   ⟨oB, 5, (stCmd.modGuest 5 fun g => { g with st := 1 }), by unfold State.noneDue State.accepts; decide +kernel⟩,
   ⟨oB, 5, ((stCmd.modGuest 5 fun g => { g with st := 1 }).modRoom 15 fun m => { m with lost := [5] }),
    by unfold State.noneDue State.accepts; decide +kernel⟩,
   ⟨oB, 5, 62,
    ((stCmd.modGuest 5 fun g => { g with st := 1 }).modRoom 15 fun m => { m with retired := [5], free := [62, 63] }),
    by unfold State.noneDue State.accepts; decide +kernel⟩,
   ⟨oB, 5, ((stCmd.modGuest 5 fun g => { g with st := 1 }).modRoom 15 fun m => { m with retired := [5], free := [] }),
    by unfold State.noneDue State.accepts; decide +kernel⟩,
   ⟨oB, 5, stCmd, by unfold State.noneDue State.accepts; decide +kernel⟩,
   ⟨oB, 5, (stCmd.modGuest 5 fun g => { g with st := 2 }), by unfold State.noneDue State.accepts; decide +kernel⟩,
   ⟨oB, 5, stCmd, by unfold State.noneDue State.accepts; decide +kernel⟩,
   ⟨oB, 62, stCmd, by unfold State.noneDue State.accepts; decide +kernel⟩,
   ⟨oB, stCmd, by unfold State.noneDue State.accepts; decide +kernel⟩,
   ⟨oB, 5, 2, ([7, 8]), (stCmd.modGuest 5 fun g => { g with toHost := [3, 4] }),
    by unfold State.noneDue State.accepts; decide +kernel⟩,
   ⟨oB, 62, 1, ([3]), stCmd, by unfold State.noneDue State.accepts; decide +kernel⟩⟩

theorem witness_CounterAndAtticCommands :
    (∃ (o : Origin) (k : Byte) (event threshold : BitVec 16) (s : State), s.noneDue ∧ s.accepts o 0x0900 ∧
    k.toNat ≤ 127 ∧ eventValid event.toNat threshold.toNat = true) ∧
    (∃ (o : Origin) (k : Byte) (event threshold : BitVec 16) (s : State), s.noneDue ∧ s.accepts o 0x0900 ∧
    (127 < k.toNat ∨ eventValid event.toNat threshold.toNat = false)) ∧
    (∃ (o : Origin) (first count : Byte) (s : State), s.noneDue ∧ s.accepts o 0x0901 ∧ 1 ≤ count.toNat ∧
    count.toNat ≤ 128 ∧ first.toNat + count.toNat ≤ 128) ∧
    (∃ (o : Origin) (first count : Byte) (s : State), s.noneDue ∧ s.accepts o 0x0901 ∧
    (count.toNat = 0 ∨ 128 < count.toNat ∨ 128 < first.toNat + count.toNat)) ∧
    (∃ (o : Origin) (period : Word) (s : State), s.noneDue ∧ s.accepts o 0x0902 ∧ period.toNat ≤ 10000) ∧
    (∃ (o : Origin) (period : Word) (s : State), s.noneDue ∧ s.accepts o 0x0902 ∧ 10000 < period.toNat) ∧
    (∃ (o : Origin) (g : Byte) (s : State), s.noneDue ∧ s.accepts o 0x0903 ∧ g.toNat ≤ 1) ∧
    (∃ (o : Origin) (g : Byte) (s : State), s.noneDue ∧ s.accepts o 0x0903 ∧ 1 < g.toNat) ∧
    (∃ (o : Origin) (index : Word) (count : Byte) (bytes : List Byte) (s : State), s.noneDue ∧ s.accepts o 0x0904 ∧
    1 ≤ count.toNat ∧ count.toNat ≤ 16 ∧ s.atticRead index.toNat count.toNat = some bytes) ∧
    (∃ (o : Origin) (index : Word) (count : Byte) (s : State), s.noneDue ∧ s.accepts o 0x0904 ∧
    (count.toNat = 0 ∨ 16 < count.toNat ∨ s.atticRead index.toNat count.toNat = none)) :=
  ⟨⟨oB, 5, 0xFF00, 0, stCmd, by unfold State.noneDue State.accepts; decide +kernel⟩,
   ⟨oB, 5, 0xFF00, 1, stCmd, by unfold State.noneDue State.accepts; decide +kernel⟩,
   ⟨oB, 5, 3, (stCmd.setCounter 5 ⟨0xFF00, 0, 77⟩), by unfold State.noneDue State.accepts; decide +kernel⟩,
   ⟨oB, 127, 2, stCmd, by unfold State.noneDue State.accepts; decide +kernel⟩,
   ⟨oB, 0, stCmd, by unfold State.noneDue State.accepts; decide +kernel⟩,
   ⟨oB, 10001, stCmd, by unfold State.noneDue State.accepts; decide +kernel⟩,
   ⟨oB, 1, stCmd, by unfold State.noneDue State.accepts; decide +kernel⟩,
   ⟨oB, 2, stCmd, by unfold State.noneDue State.accepts; decide +kernel⟩,
   ⟨oB, 0, 1, ((atW.atticRead 0 1).getD []), atW, by unfold State.noneDue State.accepts; decide +kernel⟩,
   ⟨oB, 0, 1, stCmd, by unfold State.noneDue State.accepts; decide +kernel⟩⟩

theorem witness_TestAndLifeCycleCommands :
    (∃ (o : Origin) (kind unit code : Byte) (s : State), s.noneDue ∧ s.accepts o 0x0A00 ∧
    s.loopJudge kind.toNat unit.toNat code.toNat = .change ∧ s.laneBusy = false) ∧
    (∃ (o : Origin) (kind unit code : Byte) (s : State), s.noneDue ∧ s.accepts o 0x0A00 ∧
    s.loopJudge kind.toNat unit.toNat code.toNat = .same ∧ s.laneBusy = false) ∧
    (∃ (o : Origin) (kind unit code : Byte) (s : State), s.noneDue ∧ s.accepts o 0x0A00 ∧
    s.loopJudge kind.toNat unit.toNat code.toNat = .bad) ∧
    (∃ (o : Origin) (kind unit code : Byte) (s : State), s.noneDue ∧ s.accepts o 0x0A00 ∧
    s.loopJudge kind.toNat unit.toNat code.toNat ≠ .bad ∧ s.laneBusy = true) ∧
    (∃ (o : Origin) (s : State), s.noneDue ∧ s.accepts o 0x0A01) ∧
    (∃ (o : Origin) (test : BitVec 16) (args : List Byte) (s : State), s.noneDue ∧ s.accepts o 0x0A02 ∧
    deepArgsFit test.toNat args = true ∧ s.test.deep = none) ∧
    (∃ (o : Origin) (test : BitVec 16) (args : List Byte) (s : State), s.noneDue ∧ s.accepts o 0x0A02 ∧
    deepArgsFit test.toNat args = true ∧ s.test.deep ≠ none) ∧
    (∃ (o : Origin) (test : BitVec 16) (args : List Byte) (s : State), s.noneDue ∧ s.accepts o 0x0A02 ∧
    args.length ≤ 1022 ∧ deepArgsFit test.toNat args = false) ∧
    (∃ (o : Origin) (target : Byte) (token : List Byte) (s : State), s.noneDue ∧ s.accepts o 0x0A03 ∧
    transitionPermitted s.test.lifeCycle target.toNat = true ∧ token.length = (if target = 3 then 112 else 0) ∧
    (target = 3 → tokenAccepted token = true) ∧ s.test.deep = none ∧ s.test.programming = none) ∧
    (∃ (o : Origin) (target : Byte) (token : List Byte) (s : State), s.noneDue ∧ s.accepts o 0x0A03 ∧
    token.length ≤ 1023 ∧ transitionPermitted s.test.lifeCycle target.toNat = false ∧
    s.takes 0x0029 (256 + target.toNat)) ∧
    (∃ (o : Origin) (target : Byte) (token : List Byte) (s : State), s.noneDue ∧ s.accepts o 0x0A03 ∧
    transitionPermitted s.test.lifeCycle target.toNat = true ∧ target = 3 ∧ token.length = 112 ∧
    tokenAccepted token = false ∧ s.takes 0x0029 (512 + target.toNat)) ∧
    (∃ (o : Origin) (target : Byte) (token : List Byte) (s : State), s.noneDue ∧ s.accepts o 0x0A03 ∧
    transitionPermitted s.test.lifeCycle target.toNat = true ∧ token.length ≠ (if target = 3 then 112 else 0) ∧
    token.length ≤ 1023) ∧
    (∃ (o : Origin) (target : Byte) (token : List Byte) (s : State), s.noneDue ∧ s.accepts o 0x0A03 ∧
    transitionPermitted s.test.lifeCycle target.toNat = true ∧ token.length = (if target = 3 then 112 else 0) ∧
    (target = 3 → tokenAccepted token = true) ∧ (s.test.deep ≠ none ∨ s.test.programming ≠ none)) ∧
    (∃ (o : Origin) (offset : Word) (flags : Byte) (zeros : BitVec 24) (data : List Byte) (s : State), s.noneDue ∧
    s.accepts o 0x0A04 ∧ data.length ≤ 1016 ∧
    (s.test.lifeCycle ≠ 2 ∨ flashTouches offset.toNat data.length 0x400000 0x408000 = false) ∧ zeros = 0 ∧
    offset.toNat + max 1 data.length ≤ 0x408000 ∧ s.slotRuns offset.toNat data.length = false ∧
    s.isRunning 0x0A04 = false) ∧
    (∃ (o : Origin) (offset : Word) (flags : Byte) (zeros : BitVec 24) (data : List Byte) (s : State), s.noneDue ∧
    s.accepts o 0x0A04 ∧ data.length ≤ 1016 ∧ s.test.lifeCycle = 2 ∧
    flashTouches offset.toNat data.length 0x400000 0x408000 = true) ∧
    (∃ (o : Origin) (offset : Word) (flags : Byte) (zeros : BitVec 24) (data : List Byte) (s : State), s.noneDue ∧
    s.accepts o 0x0A04 ∧ data.length ≤ 1016 ∧
    (s.test.lifeCycle ≠ 2 ∨ flashTouches offset.toNat data.length 0x400000 0x408000 = false) ∧
    (zeros ≠ 0 ∨ 0x408000 < offset.toNat + max 1 data.length ∨ s.slotRuns offset.toNat data.length = true)) :=
  ⟨⟨oB, 0, 3, 3, stCmd, by unfold State.noneDue State.accepts; decide +kernel⟩,
   ⟨oB, 0, 3, 0, stCmd, by unfold State.noneDue State.accepts; decide +kernel⟩,
   ⟨oB, 3, 3, 0, stCmd, by unfold State.noneDue State.accepts; decide +kernel⟩,
   ⟨oB, 0, 3, 0, (stCmd.accept oB 3 0 |> fun s => { s with link := { s.link with outbox := [] } }),
    by unfold State.noneDue State.accepts; decide +kernel⟩,
   ⟨oB, stCmd, by unfold State.noneDue State.accepts; decide +kernel⟩,
   ⟨oB, 3, ([2]), ({ stCmd with test := { stCmd.test with groups := 0 } }),
    by unfold State.noneDue State.accepts; decide +kernel⟩,
   ⟨oB, 3, ([2]), ({ stCmd with test := { stCmd.test with groups := 0, deep := some ⟨3, [2], 5⟩ } }),
    by unfold State.noneDue State.accepts; decide +kernel⟩,
   ⟨oB, 3, ([8]), ({ stCmd with test := { stCmd.test with groups := 0 } }),
    by unfold State.noneDue State.accepts; decide +kernel⟩,
   ⟨oB, 1, ([]), ({ stCmd with test := { stCmd.test with groups := 0 } }),
    by unfold State.noneDue State.accepts; decide +kernel⟩,
   ⟨oB, 0, ([]), stCmd, by unfold State.noneDue State.takes State.accepts; decide +kernel⟩,
   ⟨oB, 3, (List.replicate 112 0), ({ stCmd with test := { stCmd.test with groups := 1 } }),
    by unfold State.noneDue State.takes State.accepts; decide +kernel⟩,
   ⟨oB, 1, ([1]), ({ stCmd with test := { stCmd.test with groups := 0 } }),
    by unfold State.noneDue State.accepts; decide +kernel⟩,
   ⟨oB, 1, ([]), ({ stCmd with test := { stCmd.test with groups := 0, programming := some 1 } }),
    by unfold State.noneDue State.accepts; decide +kernel⟩,
   ⟨oB, 0x300000, 1, 0, ([1,2,3]), stCmd, by unfold State.noneDue State.accepts; decide +kernel⟩,
   ⟨oB, 0x400000, 1, 0, ([1,2,3]), ({ stCmd with test := { stCmd.test with groups := 2 } }),
    by unfold State.noneDue State.accepts; decide +kernel⟩,
   ⟨oB, 0x408000, 1, 0, ([1,2,3]), stCmd, by unfold State.noneDue State.accepts; decide +kernel⟩⟩

theorem witness_CalibrationPantryAndTimeCommands :
    (∃ (o : Origin) (kind : Byte) (s : State), s.noneDue ∧ s.accepts o 0x0B00 ∧ kind.toNat ≤ 2) ∧
    (∃ (o : Origin) (kind : Byte) (s : State), s.noneDue ∧ s.accepts o 0x0B00 ∧ 2 < kind.toNat) ∧
    (∃ (o : Origin) (object : Byte) (first : Word) (count : BitVec 16) (s : State), s.noneDue ∧ s.accepts o 0x0C00 ∧
    object.toNat < 0x10 ∧ 1 ≤ count.toNat ∧ count.toNat ≤ 512 ∧ first.toNat + count.toNat ≤ 1048576) ∧
    (∃ (o : Origin) (object : Byte) (first : Word) (count : BitVec 16) (s : State), s.noneDue ∧ s.accepts o 0x0C00 ∧
    object.toNat < 0x10 ∧ count.toNat = 1 ∧ first.toNat < 1048576 ∧ s.domOn 2 = true ∧
    s.flag powerBase ((voteBit voteAccess).ix 2) = false ∧ s.retLost (entryBank object.toNat first.toNat) = false) ∧
    (∃ (o : Origin) (object : Byte) (first : Word) (count : BitVec 16) (s : State), s.noneDue ∧ s.accepts o 0x0C00 ∧
    0x10 ≤ object.toNat ∧ object.toNat ≤ 0x1F ∧ 1 ≤ count.toNat ∧ count.toNat ≤ 512 ∧ first.toNat + count.toNat ≤ 1024) ∧
    (∃ (o : Origin) (object : Byte) (first : Word) (count : BitVec 16) (s : State), s.noneDue ∧ s.accepts o 0x0C00 ∧
    (0x1F < object.toNat ∨ count.toNat = 0 ∨ 512 < count.toNat ∨ objectSize object.toNat < first.toNat + count.toNat)) ∧
    (∃ (o : Origin) (mask freeze : Byte) (s : State), s.noneDue ∧ s.accepts o 0x0C01 ∧ mask ≠ 0 ∧ freeze.toNat ≤ 1) ∧
    (∃ (o : Origin) (mask freeze : Byte) (s : State), s.noneDue ∧ s.accepts o 0x0C01 ∧ (mask = 0 ∨ 1 < freeze.toNat)) ∧
    (∃ (o : Origin) (mask : Byte) (s : State), s.noneDue ∧ s.accepts o 0x0C02 ∧ mask ≠ 0 ∧ s.isRunning 0x0C02 = false) ∧
    (∃ (o : Origin) (mask : Byte) (s : State), s.noneDue ∧ s.accepts o 0x0C02 ∧ mask = 0) ∧
    (∃ (o : Origin) (mask : Byte) (s : State), s.noneDue ∧ s.accepts o 0x0C02 ∧ mask ≠ 0 ∧ s.isRunning 0x0C02 = true) ∧
    (∃ (o : Origin) (s : State), s.noneDue ∧ s.accepts o 0x0D00 ∧ s.syncOpen = false) ∧
    (∃ (o : Origin) (s : State), s.noneDue ∧ s.accepts o 0x0D00 ∧ s.syncOpen = true) ∧
    (∃ (o : Origin) (sec : BitVec 40) (usec : BitVec 24) (s : State), s.noneDue ∧ s.accepts o 0x0D01 ∧
    usec.toNat ≤ 999999) ∧
    (∃ (o : Origin) (sec : BitVec 40) (usec : BitVec 24) (s : State), s.noneDue ∧ s.accepts o 0x0D01 ∧
    999999 < usec.toNat) ∧
    (∃ (o : Origin) (s : State), s.noneDue ∧ s.accepts o 0x0D02) ∧
    (∃ (o : Origin) (mask : Byte) (s : State), s.noneDue ∧ s.accepts o 0x0D03 ∧ mask ≠ 0) ∧
    (∃ (o : Origin) (mask : Byte) (s : State), s.noneDue ∧ s.accepts o 0x0D03 ∧ mask = 0) :=
  ⟨⟨oB, 2, ({ stCmd with hk := { stCmd.hk with residualMax := 5 } }),
    by unfold State.noneDue State.accepts; decide +kernel⟩,
   ⟨oB, 3, stCmd, by unfold State.noneDue State.accepts; decide +kernel⟩,
   ⟨oB, 3, 5, 2, stCmd, by unfold State.noneDue State.accepts; decide +kernel⟩,
   ⟨oB, 3, 5, 1, ({ stCmd with mem := [(0x0260000A, 9)] }), by unfold State.noneDue State.accepts; decide +kernel⟩,
   ⟨oB, 0x13, 5, 1, stCmd, by unfold State.noneDue State.accepts; decide +kernel⟩,
   ⟨oB, 0x10, 1024, 1, stCmd, by unfold State.noneDue State.accepts; decide +kernel⟩,
   ⟨oB, 5, 1, stCmd, by unfold State.noneDue State.accepts; decide +kernel⟩,
   ⟨oB, 0, 1, stCmd, by unfold State.noneDue State.accepts; decide +kernel⟩,
   ⟨oB, 5, stCmd, by unfold State.noneDue State.accepts; decide +kernel⟩,
   ⟨oB, 0, stCmd, by unfold State.noneDue State.accepts; decide +kernel⟩,
   ⟨oB, 1, (stCmd.accept oB 0x0C02 1 |> fun s => { s with link := { s.link with outbox := [] } }),
    by unfold State.noneDue State.accepts; decide +kernel⟩,
   ⟨oB, ({ stCmd with clock := { stCmd.clock with running := false } }),
    by unfold State.noneDue State.accepts; decide +kernel⟩,
   ⟨oB, stCmd, by unfold State.noneDue State.accepts; decide +kernel⟩,
   ⟨oB, 5, 999999, stCmd, by unfold State.noneDue State.accepts; decide +kernel⟩,
   ⟨oB, 5, 1000000, stCmd, by unfold State.noneDue State.accepts; decide +kernel⟩,
   ⟨oB, stCmd, by unfold State.noneDue State.accepts; decide +kernel⟩,
   ⟨oB, 0x81, stCmd, by unfold State.noneDue State.accepts; decide +kernel⟩,
   ⟨oB, 0, stCmd, by unfold State.noneDue State.accepts; decide +kernel⟩⟩

theorem witness_ResetsAndBoot :
    (∃ (s : State), s.noneDue ∧ s.boot.resetHigh = true ∧ s.test.programming = none ∧ s.flashJob = none) ∧
    (∃ (s : State), s.noneDue ∧ s.boot.resetHigh = false) ∧
    (∃ (straps : BitVec 10) (s : State), s.noneDue ∧ s.boot.ball = false ∧ s.boot.released = true) ∧
    (∃ (straps : BitVec 10) (s : State), s.noneDue ∧ s.boot.ball = false ∧ s.boot.released = false) ∧
    (∃ (straps : BitVec 10) (xtal : Bool) (s : State), s.noneDue ∧ s.boot.released = false ∧ s.boot.ball = true) ∧
    (∃ (straps : BitVec 10) (xtal : Bool) (s : State), s.noneDue ∧ s.boot.released = false ∧ s.boot.ball = false) ∧
    (∃ (rails : BitVec 3) (s : State), s.noneDue ∧ rails ≠ 0 ∧ (s.boot.released = true ∨ s.boot.rails ≠ 0) ∧
    s.boot.resetHigh = true ∧ s.test.programming = none ∧ s.flashJob = none) ∧
    (∃ (s : State), s.noneDue ∧ s.test.programming = none ∧ s.flashJob = none) ∧
    (∃ (s : State), s.noneDue ∧ s.resetAllDue = true ∧ s.test.programming = none ∧ s.flashJob = none) ∧
    (∃ (s : State), s.noneDue ∧ (s.resetAllDue = false ∨ s.test.programming ≠ none)) ∧
    (∃ (a b : Bool) (s : State), s.noneDue ∧ s.boot.resetHigh = true ∧ s.thermal.shut = none ∧ s.boot.step = 2 ∧
    s.clock.running = true) ∧
    (∃ (s : State), s.noneDue ∧ s.boot.resetHigh = true ∧ s.thermal.shut = none ∧ s.boot.step = 4) ∧
    (∃ (s : State), s.noneDue ∧ s.boot.resetHigh = true ∧ s.thermal.shut = none ∧ s.boot.step = 5) ∧
    (∃ (s : State), s.noneDue ∧ s.boot.resetHigh = true ∧ s.thermal.shut = none ∧ s.boot.step = 6) ∧
    (∃ (s : State), s.noneDue ∧ s.boot.resetHigh = true ∧ s.thermal.shut = none ∧ s.boot.step = 7) ∧
    (∃ (s : State), s.noneDue ∧ s.boot.resetHigh = true ∧ s.thermal.shut = none ∧ s.boot.step = 8 ∧ s.link.inbox = []) ∧
    (∃ (s : State), s.noneDue ∧ s.boot.resetHigh = true ∧ s.thermal.shut = none ∧ s.boot.step = 9 ∧ s.fuse.safe = false) ∧
    (∃ (ev : BootEvent) (s : State), s.noneDue ∧ (s.boot.resetHigh = false ∨ s.thermal.shut ≠ none)) ∧
    (∃ (s : State), s.noneDue ∧ s.fld systemBase STATUS_DEV_STATE = 3 ∧ s.boot.traffic = false ∧
    allLines.all (fun n => s.laneReady n) = true) :=
  ⟨⟨stCmd, by unfold State.noneDue; decide +kernel⟩,
   ⟨State.reset, by unfold State.noneDue; decide +kernel⟩,
   ⟨0x1A0, ({ State.reset with boot := { State.reset.boot with released := true, ball := false } }),
    by unfold State.noneDue; decide +kernel⟩,
   ⟨0x1A0, ({ State.reset with boot := { State.reset.boot with released := false, ball := false } }),
    by unfold State.noneDue; decide +kernel⟩,
   ⟨0x1A0, true, ({ State.reset with boot := { State.reset.boot with released := false, ball := true } }),
    by unfold State.noneDue; decide +kernel⟩,
   ⟨0x1A0, true, ({ State.reset with boot := { State.reset.boot with released := false, ball := false } }),
    by unfold State.noneDue; decide +kernel⟩,
   ⟨2, { stCmd with boot := { stCmd.boot with released := true } }, by unfold State.noneDue; decide +kernel⟩,
   ⟨stCmd, by unfold State.noneDue; decide +kernel⟩,
   ⟨({ stLate with link := { stLate.link with resetAll := some ⟨0, 1⟩ } }), by unfold State.noneDue; decide +kernel⟩,
   ⟨stCmd, by unfold State.noneDue; decide +kernel⟩,
   ⟨false, true, (stBoot 2), by unfold State.noneDue; decide +kernel⟩,
   ⟨(stBoot 4), by unfold State.noneDue; decide +kernel⟩,
   ⟨((stBoot 5).setFlashBytes 12 [8, 0, 0, 0]), by unfold State.noneDue; decide +kernel⟩,
   ⟨(stBoot 6), by unfold State.noneDue; decide +kernel⟩,
   ⟨(stBoot 7), by unfold State.noneDue; decide +kernel⟩,
   ⟨(stBoot 8), by unfold State.noneDue; decide +kernel⟩,
   ⟨(stBoot 9), by unfold State.noneDue; decide +kernel⟩,
   ⟨.copied, State.reset, by unfold State.noneDue; decide +kernel⟩,
   ⟨stReady, by unfold State.noneDue; decide +kernel⟩⟩

/-- An image whose signature holds under the key of the part is valid: a witness of the case `cellarValid` of
`ResetsAndBoot` under such a key. -/
theorem witness_ResetsAndBoot_authenticated (hr : Config.rollbackMin ≤ 7)
    (hs : ecdsaVerifies Config.publicKey (stSigned.cellarHeader.take 0x50)
      ((stSigned.cellarHeader.drop 0x50).take 96) = true) :
    ∃ s : State, s.noneDue ∧ s.boot.resetHigh = true ∧ s.thermal.shut = none ∧ s.boot.step = 6 ∧
      s.cellarValid = true := by
  have h1 : headerField stSigned.cellarHeader 0 = 0x4D49524E ∧ headerField stSigned.cellarHeader 4 = 1 ∧
      headerField stSigned.cellarHeader 0x0C = 4 ∧ stSigned.cellarBody.length = 4 ∧
      headerField stSigned.cellarHeader 0x10 = 7 := by decide +kernel
  have h2 : (stSigned.cellarHeader.drop 0x20).take 48 = sha384 stSigned.cellarBody := by decide +kernel
  obtain ⟨a, b, c, d, e⟩ := h1
  exact ⟨stSigned, by unfold State.noneDue; decide +kernel, by decide +kernel, by decide +kernel, by decide +kernel, by simp [State.cellarValid, imageValid, a, b, c, d, e, h2, hr, hs]⟩

/-- The injection is in proportion to the OMA (R412). -/
theorem injection_of_no_oma (s : State) (i : Fin 8) (o : s.fld (tamidBase i) TM_CTRL_OMA_CODES = 0) :
    s.injection i = 0 := by
  have z (k : Nat) : s.injAmplitude i k = 0 := by
    simp only [State.injAmplitude, o]
    simp
  have r : roundAway 0 = 0 := by decide +kernel
  unfold State.injection
  dsimp only
  split <;> simp [z, r]

theorem witness_TheTwoControllers :
    (∃ (ctl : Ctrl) (s : State), s.noneDue ∧ s.keysRun = true ∧ s.alive ctl = true) ∧
    (∃ (ctl : Ctrl) (s : State), (s.keysRun = false ∨ s.alive ctl = false)) ∧
    (∃ (s : State), s.noneDue ∧ s.keysRun = true ∧ s.silent s.holderCtrl = true ∧
    s.flag keyBase KEY_STATUS_FOLLOWER_OK = true ∧ s.link.taken = [] ∧ s.link.inbox = []) ∧
    (∃ (ctl : Ctrl) (selfTestOk : Bool) (s : State), s.noneDue ∧ s.keysRun = true ∧ s.alive ctl = false ∧
    s.ctrlOk ctl = true ∧ s.alive (otherCtrl ctl) = true ∧ s.holderCtrl = otherCtrl ctl) ∧
    (∃ (s : State), s.noneDue ∧ s.keysRun = true ∧ s.silent (otherCtrl s.holderCtrl) = true ∧
    s.takes 0x8003 (ctrlNum (otherCtrl s.holderCtrl))) ∧
    (∃ (s : State), (∀ c : Ctrl, s.silent c = false)) ∧
    (∃ (s : State), s.noneDue ∧ s.keysRun = true ∧ s.silent s.holderCtrl = true ∧
    s.flag keyBase KEY_STATUS_FOLLOWER_OK = false ∧ s.takes 0x8007 0) ∧
    (∃ (ctl : Ctrl) (s : State), s.noneDue ∧ s.keysRun = true ∧ ctl ≠ s.holderCtrl ∧ s.alive s.holderCtrl = true ∧
    s.takes 0x8002 (ctrlNum ctl)) ∧
    (∃ (bit : BitVec 16) (resolvable : Bool) (s : State), s.noneDue ∧ s.keysRun = true ∧ resolvable = true ∧
    s.takes 0x8005 bit.toNat) ∧
    (∃ (bit : BitVec 16) (resolvable : Bool) (s : State), s.noneDue ∧ s.keysRun = true ∧ resolvable = false ∧
    s.takes 0x8006 0) :=
  ⟨⟨.b, stCmd, by unfold State.noneDue; decide +kernel⟩,
   ⟨.b, stCmd.setAlive .b false, by decide +kernel⟩,
   ⟨stLate.setFlag keyBase KEY_STATUS_FOLLOWER_OK true, by unfold State.noneDue; decide +kernel⟩,
   ⟨.b, true, { (stCmd.setAlive .b false) with boot := { stCmd.boot with bOk := true } },
    by unfold State.noneDue; decide +kernel⟩,
   ⟨stLate, by unfold State.noneDue State.takes; decide +kernel⟩,
   ⟨(stCmd.setFlag keyBase KEY_STATUS_FOLLOWER_OK true), fun c => by cases c <;> decide +kernel⟩,
   ⟨stLate, by unfold State.noneDue State.takes; decide +kernel⟩,
   ⟨.b, stCmd, by unfold State.noneDue State.takes; decide +kernel⟩,
   ⟨7, true, stCmd, by unfold State.noneDue State.takes; decide +kernel⟩,
   ⟨7, false, stCmd, by unfold State.noneDue State.takes; decide +kernel⟩⟩

theorem witness_FaultCollector :
    (∃ (raises : List RaiseEvent) (e : RaiseEvent) (s : State), raises = [e] ∧ s.takes e.src.toNat e.detail.toNat) ∧
    (∃ (src : BitVec 16) (s : State), (srcSeverity src.toNat).isSome = true ∧ s.fuse.blind.contains src.toNat = false ∧
    s.isolated (srcDomain src.toNat 0) = false ∧ src ≠ 0xF000 ∧ s.takes 0xF000 src.toNat) ∧
    (∃ (src : BitVec 16) (fault : Bool) (detail : BitVec 16) (s : State), s.fuse.blind.contains src.toNat = true) ∧
    (∃ (src : BitVec 16) (s : State), srcLevel src.toNat = true) ∧
    (∃ (word : BitVec 16) (resolvable : Bool) (s : State), resolvable = true ∧ s.takes 0xF001 word.toNat) ∧
    (∃ (word : BitVec 16) (resolvable : Bool) (s : State), resolvable = false ∧ s.takes 0xF002 word.toNat ∧
    s.fuse.safe = false ∧ s.srcSet 0xF002 &&& rSafe ≠ 0) ∧
    (∃ (s : State), s.noneDue) :=
  ⟨⟨([⟨0x4030, 7⟩]), (⟨0x4030, 7⟩), stCmd, by unfold State.takes; decide +kernel⟩,
   ⟨0x4030, stCmd, by unfold State.takes; decide +kernel⟩,
   ⟨0x4030, true, 8, ({ stCmd with fuse := { stCmd.fuse with blind := [0x4030] } }), by decide +kernel⟩,
   ⟨0x5100, (stCmd.raise 0x5100 1), by decide +kernel⟩,
   ⟨3, true, stCmd, by unfold State.takes; decide +kernel⟩,
   ⟨3, false, stCmd, by unfold State.takes; decide +kernel⟩,
   ⟨((stCmd.raise 0x5100 1).react), by unfold State.noneDue; decide +kernel⟩⟩

theorem witness_LifeCycleAndBist :
    (∃ (verified : Fin 4) (k : Nat) (s : State), s.noneDue ∧ s.test.programming = some k ∧ 1 ≤ k ∧ k ≤ 4 ∧
    2 ≤ verified.val ∧ s.takes 0x0028 (256 * s.test.lifeCycle + k)) ∧
    (∃ (verified : Fin 4) (k : Nat) (s : State), s.noneDue ∧ s.test.programming = some k ∧ verified.val < 2 ∧
    s.takes 0x0029 (768 + k)) ∧
    (∃ (ins : JtagIns) (s : State), s.noneDue) ∧
    (∃ (ins : JtagIns) (k : TapIns) (s : State), s.noneDue ∧ (ins, k) ∈ [(JtagIns.bypass, TapIns.bypass), (.sample,
    .sample), (.extest, .extest), (.extestPulse, .extestPulse), (.extestTrain, .extestTrain)]) ∧
    (∃ (cells : List Bool) (s : State), s.noneDue) ∧
    (∃ (test : Nat) (args : List Byte) (s : State), s.noneDue ∧ s.test.lifeCycle ≠ 0 ∧ s.test.lifeCycle ≠ 3) ∧
    (∃ (test : Nat) (args : List Byte) (s : State), s.noneDue ∧ (s.test.lifeCycle = 0 ∨ s.test.lifeCycle = 3) ∧
    deepArgsFit test args = true ∧ s.test.deep = none) ∧
    (∃ (s : State), s.noneDue ∧ s.bistRuns = true ∧ s.test.bist = none ∧ s.fld testBase BIST_SUM_NEXT < 51 ∧
    s.test.recorded.contains (s.fld testBase BIST_SUM_NEXT) = false ∧
    s.bistConsumed (s.fld testBase BIST_SUM_NEXT) = false ∧ s.domOn (bistDomain (s.fld testBase BIST_SUM_NEXT)) = true) ∧
    (∃ (s : State), s.noneDue ∧ s.bistRuns = true ∧ s.test.bist = none ∧ s.fld testBase BIST_SUM_NEXT = 51 ∧
    s.domOn 3 = false) ∧
    (∃ (sl : Fin 52) (result : Option Bool) (coverage : BitVec 16) (duration : BitVec 24) (cell : Option (Fin 4 × Fin
    68)) (since : Nat) (s : State), s.noneDue ∧ s.test.bist = some (sl.val, since) ∧ result = some true) ∧
    (∃ (sl : Fin 52) (result : Option Bool) (coverage : BitVec 16) (duration : BitVec 24) (cell : Option (Fin 4 × Fin
    68)) (since : Nat) (s : State), s.noneDue ∧ s.test.bist = some (sl.val, since) ∧ result = some false ∧
    s.takes 0x0020 sl.val) ∧
    (∃ (sl : Fin 52) (result : Option Bool) (coverage : BitVec 16) (duration : BitVec 24) (cell : Option (Fin 4 × Fin
    68)) (since : Nat) (s : State), s.noneDue ∧ s.test.bist = some (sl.val, since) ∧ result = none) ∧
    (∃ (on : Bool) (s : State), s.noneDue ∧ (on = true ∨ s.test.bist = none)) ∧
    (∃ (on : Bool) (sl since : Nat) (s : State), s.noneDue ∧ on = false ∧ s.test.bist = some (sl, since) ∧ sl < 52) ∧
    (∃ (pass : Bool) (coverage : BitVec 16) (signature : Word) (results : List Byte) (x : DeepRun) (s : State),
    s.noneDue ∧ s.test.deep = some x ∧ s.clock.running = true) ∧
    (∃ (target : Fin 17) (s : State), s.noneDue ∧ s.rooms.mirnis = true ∧ s.clock.running = true) ∧
    (∃ (s : State), s.noneDue ∧ s.vidWaits = false ∧ s.vidReady = true ∧ s.fld systemBase VID_CTRL_CODE < s.vidGoal) ∧
    (∃ (s : State), s.noneDue ∧ s.vidWaits = false ∧ s.vidReady = true ∧ s.vidGoal < s.fld systemBase VID_CTRL_CODE) ∧
    (∃ (s : State), s.noneDue ∧ (s.vidWaits = true ∨ s.vidReady = false ∨ s.fld systemBase VID_CTRL_CODE = s.vidGoal)) :=
  ⟨⟨2, 1, ({ stCmd with test := { stCmd.test with groups := 0, programming := some 1 } }),
    by unfold State.noneDue State.takes; decide +kernel⟩,
   ⟨1, 1, ({ stCmd with test := { stCmd.test with groups := 0, programming := some 1 } }),
    by unfold State.noneDue State.takes; decide +kernel⟩,
   ⟨.extest, stCmd, by unfold State.noneDue; decide +kernel⟩,
   ⟨.extest, .extest, stCmd, by unfold State.noneDue; decide +kernel⟩,
   ⟨[true, false], stCmd, by unfold State.noneDue; decide +kernel⟩,
   ⟨5, [1], { stCmd with test := { stCmd.test with groups := 2 } }, by unfold State.noneDue; decide +kernel⟩,
   ⟨5, ([1]), ({ stCmd with test := { stCmd.test with groups := 0 } }), by unfold State.noneDue; decide +kernel⟩,
   ⟨stBist, by unfold State.noneDue; decide +kernel⟩,
   ⟨((stBist.setFld testBase BIST_SUM_NEXT 51).setDom 3 3 0), by unfold State.noneDue; decide +kernel⟩,
   ⟨20, (some true), 900, 0, none, 3, ({ stBist with test := { stBist.test with bist := some (20, 3) } }),
    by unfold State.noneDue; decide +kernel⟩,
   ⟨20, (some false), 900, 0, none, 3, ({ stBist with test := { stBist.test with bist := some (20, 3) } }),
    by unfold State.noneDue State.takes; decide +kernel⟩,
   ⟨20, none, 900, 0, none, 3, ({ stBist with test := { stBist.test with bist := some (20, 3) } }),
    by unfold State.noneDue; decide +kernel⟩,
   ⟨true, stCmd, by unfold State.noneDue; decide +kernel⟩,
   ⟨false, 20, 3, ({ stBist with test := { stBist.test with bist := some (20, 3) } }),
    by unfold State.noneDue; decide +kernel⟩,
   ⟨true, 3, 5, ([1]), (⟨5, [1], 3⟩), ({ stCmd with test := { stCmd.test with deep := some ⟨5, [1], 3⟩ } }),
    by unfold State.noneDue; decide +kernel⟩,
   ⟨9, ({ stCmd with rooms := { stCmd.rooms with mirnis := true } }), by unfold State.noneDue; decide +kernel⟩,
   ⟨(stCmd.setFld systemBase VID_CTRL_TARGET 12), by unfold State.noneDue; decide +kernel⟩,
   ⟨(stCmd.setFld systemBase VID_CTRL_TARGET 2), by unfold State.noneDue; decide +kernel⟩,
   ⟨State.reset, by unfold State.noneDue; decide +kernel⟩⟩

theorem witness_ThermalProtection :
    (∃ (s : State), s.noneDue) ∧
    (∃ (elements : List (BitVec 16 × BitVec 16)) (site code : Nat) (s : State), s.noneDue ∧ s.thermal.shut = none ∧
    s.domOn 1 = true ∧ hottestSite (s.siteCodes elements) = site ∧ (s.siteCodes elements).getD site 0 = code ∧
    s.thermal.shutUp = 7 ∧ 48384 < code) ∧
    (∃ (elements : List (BitVec 16 × BitVec 16)) (code : Nat) (s : State), s.noneDue ∧ s.thermal.shut = none ∧
    s.domOn 1 = true ∧ (s.siteCodes elements).getD (hottestSite (s.siteCodes elements)) 0 = code ∧
    (s.thermal.shutUp < 7 ∨ code ≤ 48384)) ∧
    (∃ (op : Fin 3) (offset : BitVec 24) (data : List Byte) (x : Shutdown) (s : State), s.noneDue ∧
    s.thermal.shut = some x ∧ op = 1 ∧ data.length ≤ 256) ∧
    (∃ (op : Fin 3) (offset : BitVec 24) (data : List Byte) (x : Shutdown) (s : State), s.noneDue ∧
    s.thermal.shut = some x ∧ op = 2) ∧
    (∃ (lostBanks : List (BitVec 9)) (x : Shutdown) (s : State), s.noneDue ∧ s.thermal.shut = some x ∧ x.reset = false ∧
    x.safe = false) ∧
    (∃ (lostBanks : List (BitVec 9)) (x : Shutdown) (s : State), s.noneDue ∧ s.thermal.shut = some x ∧ x.reset = true) ∧
    (∃ (site : Fin 9) (a b : BitVec 16) (s : State), s.noneDue ∧
    s.flag thermBase (THERM_SITE_MISMATCH.ix site.val) = false ∧ 512 < ((a.toNat : Int) - b.toNat).natAbs ∧
    s.takes (0x6010 + site.val) 0) ∧
    (∃ (site : Fin 9) (a b : BitVec 16) (s : State), s.noneDue ∧
    s.flag thermBase (THERM_SITE_MISMATCH.ix site.val) = true ∧ ((a.toNat : Int) - b.toNat).natAbs ≤ 256) ∧
    (∃ (site : Fin 9) (a b : BitVec 16) (s : State), ((a.toNat : Int) - b.toNat).natAbs ≤ 512) ∧
    (∃ (s : State), s.noneDue ∧ s.domOn 1 = true ∧ s.clock.running = true ∧ s.taskRuns 14 taskReferences = true) :=
  ⟨⟨stCmd, by unfold State.noneDue; decide +kernel⟩,
   ⟨List.replicate 9 (48400, 48400), 0, 48400, { stCmd with thermal := { stCmd.thermal with shutUp := 7 } },
    by unfold State.noneDue; decide +kernel⟩,
   ⟨List.replicate 9 (48400, 48400), 48400, { stCmd with thermal := { stCmd.thermal with shutUp := 6 } },
    by unfold State.noneDue; decide +kernel⟩,
   ⟨1, 0x800000, ([1,2]), shW, ({ stCmd with thermal := { stCmd.thermal with shut := some shW } }),
    by unfold State.noneDue; decide +kernel⟩,
   ⟨2, 0x800001, ([]), shW,
    ({ (stCmd.setFlashByte 0x800005 3) with thermal := { stCmd.thermal with shut := some shW } }),
    by unfold State.noneDue; decide +kernel⟩,
   ⟨([]), shW, ({ stCmd with thermal := { stCmd.thermal with shut := some shW } }),
    by unfold State.noneDue; decide +kernel⟩,
   ⟨([]), ({ shW with reset := true }),
    ({ stCmd with thermal := { stCmd.thermal with shut := some { shW with reset := true } } }),
    by unfold State.noneDue; decide +kernel⟩,
   ⟨3, 30000, 30513, stCmd, by unfold State.noneDue State.takes; decide +kernel⟩,
   ⟨3, 30000, 30256, stCmd.setFlag thermBase (THERM_SITE_MISMATCH.ix 3) true, by unfold State.noneDue; decide +kernel⟩,
   ⟨3, 30000, 30512, stCmd, by decide +kernel⟩,
   ⟨stCmd, by unfold State.noneDue; decide +kernel⟩⟩

theorem witness_CountersAndAttic :
    (∃ (alsoClr : Bool) (s : State), s.noneDue) ∧
    (∃ (s : State), s.noneDue) ∧
    (∃ (s : State), s.noneDue ∧ s.coreCounts = true ∧ s.bwDue ≤ s.tick) ∧
    (∃ (s : State), (s.coreCounts = false ∨ s.tick < s.bwDue)) ∧
    (∃ (window : BitVec 20) (s : State), s.noneDue) ∧
    (∃ (s : State), s.noneDue ∧ s.fld counterBase CNT_CTRL_DUMP_PERIOD ≠ 0 ∧ s.counters.dumpNext ≤ s.tick ∧
    s.counters.dump = none ∧ s.coreCounts = true) ∧
    (∃ (s : State), (s.fld counterBase CNT_CTRL_DUMP_PERIOD = 0 ∨ s.tick < s.counters.dumpNext)) ∧
    (∃ (s : State), s.noneDue ∧ s.fld counterBase CNT_CTRL_DUMP_PERIOD ≠ 0 ∧ s.counters.dumpNext ≤ s.tick ∧
    s.counters.dump ≠ none) ∧
    (∃ (bytes : List Byte) (s : State), s.noneDue ∧ s.counters.dump = some bytes ∧ s.counters.dumpSeq < 2 ^ 32 ∧
    s.retLost ((dumpAddr s.counters.dumpSeq) / 0x40000) = false) ∧
    (∃ (eraseOk verify1 verify2 : Bool) (r : AtticRecord) (rest : List AtticRecord) (s : State), s.noneDue ∧
    s.attic.queue = r :: rest ∧ s.atticOpen = true ∧ s.flashFirst = false ∧ (s.attic.slot = 0 → eraseOk = true) ∧
    verify1 = true ∧ verify2 = true) ∧
    (∃ (eraseOk verify1 verify2 : Bool) (r : AtticRecord) (rest : List AtticRecord) (s : State), s.noneDue ∧
    s.attic.queue = r :: rest ∧ s.atticOpen = true ∧ s.flashFirst = false ∧ s.attic.slot = 0 ∧ eraseOk = false ∧
    s.takes 0x0011 s.attic.sector ∧ s.attic.sector < 0x10000) ∧
    (∃ (s : State), s.noneDue ∧ s.attic.available = true ∧ s.coreCounts = true ∧ s.keysHeld = true) ∧
    (∃ (ok : Bool) (s : State), s.noneDue ∧ ok = true ∧ s.attic.standDue = true ∧ s.attic.queue = [] ∧
    s.atticOpen = true) ∧
    (∃ (ok : Bool) (s : State), s.noneDue ∧ (s.attic.standDue = false ∨ s.attic.queue ≠ [] ∨ s.atticOpen = false)) :=
  ⟨⟨true, (stCmd.setCounter 5 ⟨0xFF00, 0, 77⟩), by unfold State.noneDue; decide +kernel⟩,
   ⟨(stCmd.setCounter 5 ⟨0xFF00, 0, 77⟩), by unfold State.noneDue; decide +kernel⟩,
   ⟨{ stCmd with tick := 20000000000 }, by unfold State.noneDue; decide +kernel⟩,
   ⟨stCmd, by decide +kernel⟩,
   ⟨1000, stCmd, by unfold State.noneDue; decide +kernel⟩,
   ⟨{ (stCmd.setFld counterBase CNT_CTRL_DUMP_PERIOD 5) with tick := 781250000 },
    by unfold State.noneDue; decide +kernel⟩,
   ⟨({ (stCmd.setFld counterBase CNT_CTRL_DUMP_PERIOD 5) with counters := { stCmd.counters with dump := some [] } }),
    by decide +kernel⟩,
   ⟨({ (stCmd.setFld counterBase CNT_CTRL_DUMP_PERIOD 5) with tick := 781250000, counters := { stLate.counters with dump := some [] } }),
    by unfold State.noneDue; decide +kernel⟩,
   ⟨([1,2,3,4]), ({ stCmd with counters := { stCmd.counters with dump := some [1,2,3,4], dumpSeq := 511 } }),
    by unfold State.noneDue; decide +kernel⟩,
   ⟨true, true, true, (⟨1, 5, true, 7, [1,2], 0⟩), ([]), atQ, by unfold State.noneDue; decide +kernel⟩,
   ⟨false, true, true, (⟨1, 5, true, 7, [1,2], 0⟩), ([]), atQ, by unfold State.noneDue State.takes; decide +kernel⟩,
   ⟨atQ, by unfold State.noneDue; decide +kernel⟩,
   ⟨true, ({ atQ with attic := { atQ.attic with queue := [], standDue := true } }),
    by unfold State.noneDue; decide +kernel⟩,
   ⟨true, stCmd, by unfold State.noneDue; decide +kernel⟩⟩

theorem witness_LineFrontEndAndConverter :
    (∃ (n : Fin 8) (level : Nat) (s : State), s.noneDue ∧ s.domOn (domLineRx n) = true) ∧
    (∃ (n : Fin 8) (high total : Nat) (meanSquare : Rat) (s : State), s.noneDue ∧ s.domOn (domLineRx n) = true ∧
    s.lineTask n taskVga = true ∧ s.flag (lineBase n) AFE_CTRL_VGA_MAN = false ∧
    s.fld (lineBase n) AFE_STATUS_VGA_CUR ≤ 36 ∧ (total < 10000 * high ∨ 1296 ^ 20 * 10 ≤ meanSquare ^ 20)) ∧
    (∃ (n : Fin 8) (high total : Nat) (meanSquare : Rat) (s : State), s.noneDue ∧ s.domOn (domLineRx n) = true ∧
    s.lineTask n taskVga = true ∧ s.flag (lineBase n) AFE_CTRL_VGA_MAN = false ∧
    s.fld (lineBase n) AFE_STATUS_VGA_CUR ≤ 36 ∧ 10000 * high ≤ total ∧ meanSquare ^ 20 * 10 ≤ 1296 ^ 20) ∧
    (∃ (n : Fin 8) (value : Word) (s : State), s.noneDue ∧ s.locked n = false) ∧
    (∃ (n : Fin 8) (value : Word) (s : State), s.noneDue ∧ s.locked n = true ∧
    s.fld (lineBase n) AFE_CTRL_CTLE_SET ≠ wordField value 0 4 ∧ s.synLocked (lineSyn n) = true ∧
    s.deepHolds (domLineRx n) = false) ∧
    (∃ (n : Fin 8) (stats : BlockStats) (s : State), s.noneDue ∧ 4 ≤ s.line[n].adc.step ∧ s.adcRuns n = true ∧
    s.roomRuns n.val = true) ∧
    (∃ (n : Fin 8) (high total : Nat) (s : State), s.noneDue ∧ s.adcRuns n = true ∧
    (10000 * high ≤ total ∨ s.limitFree (lineSrc n 0x35) = true)) ∧
    (∃ (n : Fin 8) (s : State), s.noneDue ∧ s.line[n].adc.step = 4 ∧ s.adcRuns n = true ∧ s.line[n].adc.urgent = none) ∧
    (∃ (n : Fin 8) (p k j : Nat) (s : State), s.noneDue ∧ s.canRotate n = true ∧
    s.fld (lineBase n) ADC_CTRL_ROT_PERIOD ≠ 0 ∧ s.spareState n = 3 ∧ s.rotationTarget n = some p ∧
    s.sliceAt n p = some k ∧ s.spare n = some j) ∧
    (∃ (n : Fin 8) (p j : Nat) (s : State), s.noneDue ∧ s.canRotate n = true ∧
    s.fld (lineBase n) ADC_CTRL_ROT_PERIOD ≠ 0 ∧ s.spareState n = 4 ∧ s.rotationTarget n = some p ∧ s.spare n = some j) ∧
    (∃ (n : Fin 8) (s : State), s.noneDue ∧ (s.canRotate n = false ∨ s.fld (lineBase n) ADC_CTRL_ROT_PERIOD = 0)) ∧
    (∃ (n : Fin 8) (ramps : List (Fin 17 × RampResult)) (s : State), s.noneDue ∧ s.line[n].adc.step = 3 ∧
    s.adcRuns n = true) ∧
    (∃ (n : Fin 8) (ramps : List (Fin 17 × RampResult)) (k : Fin 17) (r : RampResult) (s : State), s.noneDue ∧
    s.spare n = some k.val ∧ s.line[n].adc.step ≠ 3 ∧ s.adcRuns n = true ∧ s.spareState n = 1 ∧
    ramps.find? (fun e => some e.1.val == s.spare n) = some (k, r) ∧
    (s.line[n].adc.training = none ∨ s.rotationPaused n = false) ∧ r.enob < 176 ∧ s.takes (lineSrc n 0x32) 0) ∧
    (∃ (n : Fin 8) (ramps : List (Fin 17 × RampResult)) (k : Fin 17) (r : RampResult) (s : State), s.noneDue ∧
    s.spare n = some k.val ∧ s.line[n].adc.step ≠ 3 ∧ s.adcRuns n = true ∧ s.spareState n = 1 ∧
    ramps.find? (fun e => some e.1.val == s.spare n) = some (k, r) ∧ 176 ≤ r.enob ∧ s.line[n].adc.training = none ∧
    s.line[n].adc.urgent = none ∧ s.line[n].adc.planned = none) ∧
    (∃ (n : Fin 8) (blocks : List (List TrainSample)) (spur : Nat) (abrupt : Option (Fin 16)) (p k : Nat) (j : Fin 17)
    (run : SliceTerms × List (List Rat)) (s : State), s.noneDue ∧ s.line[n].adc.training = some p ∧
    s.spare n = some j.val ∧ s.sliceAt n p = some k ∧ k ≠ j.val ∧ k < 17 ∧ p < 16 ∧ s.adcRuns n = true ∧
    s.lineTask n taskRotation = true ∧ s.rotationPaused n = false ∧ s.spareState n = 2 ∧
    run = trainRun s.trimSteps s.line[n].adc.lin[j] s.line[n].adc.terms[j] blocks ∧ trainedWell run.2 = true ∧
    s.spurLimit n ≤ spur ∧ abrupt = none ∧ s.line[n].adc.planned = none) ∧
    (∃ (n : Fin 8) (p j : Nat) (s : State), s.noneDue ∧ s.line[n].adc.training = some p ∧ s.spare n = some j ∧
    s.adcRuns n = true ∧ s.lineTask n taskRotation = true ∧ s.rotationPaused n = false ∧ s.spareState n = 2 ∧
    s.takes (lineSrc n 0x34) 0) :=
  ⟨⟨2, 70000, stA, by unfold State.noneDue; decide +kernel⟩,
   ⟨2, 2, 10000, 0, (stA.setFld (lineBase 2) AFE_STATUS_VGA_CUR 36), by unfold State.noneDue; decide +kernel⟩,
   ⟨2, 1, 10000, 100, (stA.setFld (lineBase 2) AFE_STATUS_VGA_CUR 20), by unfold State.noneDue; decide +kernel⟩,
   ⟨2, 0xA503, stA, by unfold State.noneDue; decide +kernel⟩,
   ⟨2, 0x3, stLk, by unfold State.noneDue; decide +kernel⟩,
   ⟨2, (⟨[1], [2], [3], [4], 5⟩), stAdc, by unfold State.noneDue; decide +kernel⟩,
   ⟨2, 2, 10000, stAdc, by unfold State.noneDue; decide +kernel⟩,
   ⟨2, stA.modAdc 2 fun a => { a with step := 4 }, by unfold State.noneDue; decide +kernel⟩,
   ⟨2, 0, 0, 16, stAdc, by unfold State.noneDue; decide +kernel⟩,
   ⟨2, 0, 16, stAdc.setSpareState 2 4, by unfold State.noneDue; decide +kernel⟩,
   ⟨2, stA, by unfold State.noneDue; decide +kernel⟩,
   ⟨2, [(16, ⟨[], 0, 0, 200⟩)], stLk, by unfold State.noneDue; decide +kernel⟩,
   ⟨2, [(16, ⟨[], 0, 0, 175⟩)], 16, ⟨[], 0, 0, 175⟩, stAdc.setSpareState 2 1,
    by unfold State.noneDue State.takes; decide +kernel⟩,
   ⟨2, [(16, ⟨[], 0, 0, 176⟩)], 16, ⟨[], 0, 0, 176⟩, stAdc.setSpareState 2 1, by unfold State.noneDue; decide +kernel⟩,
   ⟨2, List.replicate 16 [⟨128, 1/2, 0, 0⟩], 620, none, 0, 0, 16, _,
    ((stAdc.startRotation 2).modAdc 2 fun a => { a with terms := Vector.replicate 17 ⟨0, 0, 0, 0, 0⟩ }),
    by unfold State.noneDue; decide +kernel, by decide +kernel, by decide +kernel, by decide +kernel, by decide +kernel,
    by decide +kernel, by decide +kernel, by decide +kernel, by decide +kernel, by decide +kernel, by decide +kernel,
    rfl, by decide +kernel, by decide +kernel, by decide +kernel, by decide +kernel⟩,
   ⟨2, 0, 16, stAdc.startRotation 2, by unfold State.noneDue State.takes; decide +kernel⟩⟩

theorem witness_SlicesAndSubstitution :
    (∃ (n : Fin 8) (slice : Fin 17) (conv : Nat) (flags : List (Nat × Nat)) (s : State), s.noneDue ∧
    s.adcRuns n = true ∧ s.slicePos n slice.val ≠ 31 ∧ flags = ((s.tick, conv) :: s.line[n].adc.flags[slice]).take 17 ∧
    flagsAbrupt flags conv = false ∧ flagsOften flags s.tick = false) ∧
    (∃ (n : Fin 8) (slice : Fin 17) (conv : Nat) (flags : List (Nat × Nat)) (s : State), s.noneDue ∧
    s.adcRuns n = true ∧ s.spare n ≠ some slice.val ∧ s.slicePos n slice.val < 16 ∧
    s.sliceFld n SLICE_A_STATE slice.val = 0 ∧ flags = ((s.tick, conv) :: s.line[n].adc.flags[slice]).take 17 ∧
    flagsAbrupt flags conv = true ∧ s.takes (lineSrc n 0x30) 0) ∧
    (∃ (n : Fin 8) (k : Fin 17) (sign : AbruptSign) (s : State), s.noneDue ∧ abruptTrips sign = true ∧
    s.adcRuns n = true ∧ s.spare n ≠ some k.val ∧ s.slicePos n k.val < 16 ∧ s.sliceFld n SLICE_A_STATE k.val = 0 ∧
    (s.spare n).isSome = true ∧ s.line[n].adc.urgent = none ∧ s.takes (lineSrc n 0x30) 0) ∧
    (∃ (n : Fin 8) (slice : Fin 17) (s : State), s.noneDue ∧ s.adcRuns n = true ∧ s.spare n = some slice.val ∧
    beyondLimits s.trimSteps s.line[n].adc.terms[slice] = true ∧ s.takes (lineSrc n 0x32) 0) ∧
    (∃ (n : Fin 8) (slice : Fin 17) (s : State), s.noneDue ∧ s.adcRuns n = true ∧ s.spare n ≠ some slice.val ∧
    beyondLimits s.trimSteps s.line[n].adc.terms[slice] = true ∧ s.slicePos n slice.val < 16 ∧
    s.sliceFld n SLICE_A_STATE slice.val = 0 ∧ (s.spare n).isSome = true ∧ s.line[n].adc.urgent = none) ∧
    (∃ (n : Fin 8) (s : State), s.noneDue ∧ s.adcRuns n = true ∧ s.line[n].adc.urgent.isSome = true ∧
    (s.spare n).isSome = true ∧ s.line[n].adc.urgentTraining = false ∧ s.line[n].adc.urgentCal = false) ∧
    (∃ (n : Fin 8) (blocks : List BlockStats) (p j : Nat) (s : State), s.noneDue ∧ s.line[n].adc.urgent = some p ∧
    s.spare n = some j ∧ s.adcRuns n = true ∧ s.lineTask n taskRotation = true ∧ blocks.length = 64 ∧
    s.line[n].adc.urgentTraining = true ∧ s.failingAt n p ≠ j ∧ s.failingAt n p < 17 ∧ p < 16 ∧
    s.takes (lineSrc n 0x31) 0) ∧
    (∃ (n : Fin 8) (s : State), s.noneDue ∧ s.line[n].adc.planned = none) ∧
    (∃ (n : Fin 8) (q : PlannedSubst) (k j : Nat) (s : State), s.noneDue ∧ s.line[n].adc.planned = some q ∧
    4 ≤ s.line[n].adc.step ∧ s.adcRuns n = true ∧ s.lineTask n taskRotation = true ∧ s.line[n].adc.training = none ∧
    s.line[n].adc.urgent = none ∧ s.spareState n = 3 ∧ s.slicePos n q.slice < 16 ∧
    s.sliceAt n (s.slicePos n q.slice) = some k ∧ s.spare n = some j) ∧
    (∃ (n : Fin 8) (slice : BitVec 5) (detector : Bool) (s : State), s.noneDue ∧ detector = true) ∧
    (∃ (n : Fin 8) (slice : BitVec 5) (detector : Bool) (s : State), s.noneDue ∧ detector = false ∧ slice.toNat < 17 ∧
    s.slicePos n slice.toNat < 16 ∧ s.sliceFld n SLICE_A_STATE slice.toNat = 0 ∧ s.line[n].adc.training = none ∧
    s.line[n].adc.urgent = none ∧ s.line[n].adc.planned = none ∧ s.spareState n = 3) :=
  ⟨⟨2, 4, 7, [(1000, 7)], stLk, by unfold State.noneDue; decide +kernel⟩,
   ⟨2, 4, 7, [(1000, 7), (1000, 6), (1000, 5), (1000, 4)],
    stLk.modAdc 2 fun a => { a with flags := Vector.replicate 17 [(1000, 6), (1000, 5), (1000, 4)] },
    by unfold State.noneDue State.takes; decide +kernel⟩,
   ⟨2, 3, .stuck 256 true, stLk, by unfold State.noneDue State.takes; decide +kernel⟩,
   ⟨2, 16, stLk.modAdc 2 fun a => { a with terms := Vector.replicate 17 trBad },
    by unfold State.noneDue State.takes; decide +kernel⟩,
   ⟨2, 3, stLk.modAdc 2 fun a => { a with terms := Vector.replicate 17 trBad }, by unfold State.noneDue; decide +kernel⟩,
   ⟨2, ((stLk.abruptSlice 2 3).react), by unfold State.noneDue; decide +kernel⟩,
   ⟨2, List.replicate 64 ⟨[], [], [], [], 0⟩, 3, 16,
    ((stLk.abruptSlice 2 3).react.modAdc 2 fun a => { a with urgentTraining := true }),
    by unfold State.noneDue State.takes; decide +kernel⟩,
   ⟨2, stLk, by unfold State.noneDue; decide +kernel⟩,
   ⟨2, ⟨3, true, false⟩, 3, 16, stAdc.modAdc 2 fun a => { a with planned := some ⟨3, true, false⟩ },
    by unfold State.noneDue; decide +kernel⟩,
   ⟨2, 3, true, stLk, by unfold State.noneDue; decide +kernel⟩,
   ⟨2, 3, false, stAdc, by unfold State.noneDue; decide +kernel⟩⟩

theorem witness_LineEqualiserAndCanceller :
    (∃ (n : Fin 8) (symbols : List RxSymbol) (i k : Nat) (s : State), s.noneDue ∧ 4 ≤ s.acqState n ∧
    s.line[n].rx.clocksStopped = false ∧ s.flag (lineBase n) EQ_CTRL_FFE_FREEZE = false ∧
    i < (tapRange (s.laneProfile n)).2 ∧ k = (tapRange (s.laneProfile n)).1 + i) ∧
    (∃ (n : Fin 8) (symbols : List RxSymbol) (s : State), (s.acqState n < 4 ∨ s.line[n].rx.clocksStopped = true ∨ s.flag
    (lineBase n) EQ_CTRL_FFE_FREEZE = true)) ∧
    (∃ (n : Fin 8) (o : TimingObs) (turn word : Int) (s : State), s.noneDue ∧ 2 ≤ s.acqState n ∧
    s.line[n].rx.clocksStopped = false ∧ s.lineTask n taskTiming = true ∧
    turn = quantise (Config.loopGain (s.loopBandwidth n o.settled) false * s.phaseError n o) ∧
    word = s.line[n].rx.freqWord + quantise (Config.loopGain (s.loopBandwidth n o.settled) true * s.phaseError n o)) ∧
    (∃ (n : Fin 8) (symbols : List RxSymbol) (s : State), s.noneDue ∧ 5 ≤ s.acqState n ∧
    s.line[n].rx.clocksStopped = false ∧ s.flag (lineBase n) EQ_CTRL_LEVEL_FREEZE = false) ∧
    (∃ (n : Fin 8) (lockLost : Bool) (s : State), s.noneDue ∧ lockLost = false ∧ s.fadeBusy n nlcRegs = false ∧
    s.changeWaits n = false ∧ s.nlcInUse n = true) ∧
    (∃ (n : Fin 8) (lockLost : Bool) (s : State), s.noneDue ∧ lockLost = false ∧
    (s.fadeBusy n nlcRegs = true ∨ s.changeWaits n = true)) ∧
    (∃ (n : Fin 8) (lockLost : Bool) (s : State), s.noneDue ∧ lockLost = true ∧ s.fadeBusy n nlcRegs = false ∧
    s.changeWaits n = false ∧ s.nlcInUse n = true ∧ s.locked n = true ∧ s.takes (lineSrc n 0x43) 0) ∧
    (∃ (n : Fin 8) (lockLost : Bool) (s : State), s.noneDue ∧ lockLost = false ∧ s.fadeBusy n nlcRegs = false ∧
    s.changeWaits n = false ∧ s.nlcInUse n = false ∧ s.fld (lineBase n) NLC_STATUS_ACTIVE_BANK ≤ 1) ∧
    (∃ (n : Fin 8) (s : State), s.noneDue ∧ s.taskRuns 14 (taskInstall n) = true ∧ s.fadeBusy n nlcRegs = false ∧
    s.changeWaits n = false ∧ s.nlcInUse n = true ∧ s.locked n = true) ∧
    (∃ (n : Fin 8) (s : State), s.noneDue ∧ s.taskRuns 14 (taskInstall n) = true ∧ s.fadeBusy n nlcRegs = true) ∧
    (∃ (n : Fin 8) (s : State), s.noneDue ∧ s.flag (lineBase n) NLC_STATUS_FADING = true ∧
    s.fld (lineBase n) NLC_STATUS_ACTIVE_BANK ≤ 1) ∧
    (∃ (n : Fin 8) (s : State), s.noneDue ∧ s.locked n = true ∧ s.flag (lineBase n) NLC_STATUS_FADE_PENDING = true) ∧
    (∃ (n : Fin 8) (bank : Fin 2) (idx : Fin 1024) (value : BitVec 10) (swap : Bool) (s : State), s.noneDue ∧
    bank.val ≠ s.fld (lineBase n) NLC_STATUS_ACTIVE_BANK ∧ s.fadeBusy n nlcRegs = false ∧ swap = false) ∧
    (∃ (n : Fin 8) (bank : Fin 2) (idx : Fin 1024) (value : BitVec 10) (swap : Bool) (s : State), s.noneDue ∧
    (bank.val = s.fld (lineBase n) NLC_STATUS_ACTIVE_BANK ∨ s.fadeBusy n nlcRegs = true ∨ swap = true)) ∧
    (∃ (n : Fin 8) (en : Bool) (s : State), s.noneDue ∧ (en = true ∨ s.fadeBusy n nlcRegs = false)) ∧
    (∃ (n : Fin 8) (en : Bool) (s : State), s.noneDue ∧ en = false ∧ s.fadeBusy n nlcRegs = true ∧
    s.fld (lineBase n) NLC_STATUS_ACTIVE_BANK ≤ 1) :=
  ⟨⟨2, [sym0], 3, (tapRange (stLk.laneProfile 2)).1 + 3, (stCapLk 4), by unfold State.noneDue; decide +kernel⟩,
   ⟨2, [sym0], (stCapLk 3), by decide +kernel⟩,
   ⟨2, ⟨true, [], [⟨4, 8, 12, 16⟩]⟩, _, _, stLk, by unfold State.noneDue; decide +kernel, by decide +kernel,
    by decide +kernel, by decide +kernel, rfl, rfl⟩,
   ⟨2, [sym0], (stCapLk 5), by unfold State.noneDue; decide +kernel⟩,
   ⟨2, false, (stLk.setFlag (lineBase 2) EQ_CTRL_NLC_EN true), by unfold State.noneDue; decide +kernel⟩,
   ⟨2, false, (stLk.setFlag (lineBase 2) NLC_STATUS_FADING true), by unfold State.noneDue; decide +kernel⟩,
   ⟨2, true, (stLk.setFlag (lineBase 2) EQ_CTRL_NLC_EN true), by unfold State.noneDue State.takes; decide +kernel⟩,
   ⟨2, false, (stLk.setFlag (lineBase 2) EQ_CTRL_NLC_EN false), by unfold State.noneDue; decide +kernel⟩,
   ⟨2, (stLk.setFlag (lineBase 2) EQ_CTRL_NLC_EN true), by unfold State.noneDue; decide +kernel⟩,
   ⟨2, (stLk.setFlag (lineBase 2) EQ_CTRL_NLC_EN true).setFlag (lineBase 2) NLC_STATUS_FADING true,
    by unfold State.noneDue; decide +kernel⟩,
   ⟨2, (stLk.setFlag (lineBase 2) NLC_STATUS_FADING true), by unfold State.noneDue; decide +kernel⟩,
   ⟨2, (stLk.setFlag (lineBase 2) NLC_STATUS_FADE_PENDING true), by unfold State.noneDue; decide +kernel⟩,
   ⟨2, 1, 1023, 777, false, stLk, by unfold State.noneDue; decide +kernel⟩,
   ⟨2, 0, 1023, 777, false, stLk, by unfold State.noneDue; decide +kernel⟩,
   ⟨2, true, stLk, by unfold State.noneDue; decide +kernel⟩,
   ⟨2, false, (stLk.setFlag (lineBase 2) NLC_STATUS_FADING true), by unfold State.noneDue; decide +kernel⟩⟩

theorem witness_LineAcquisition :
    (∃ (n : Fin 8) (s : State), s.noneDue ∧ s.acqState n ≠ 0 ∧ s.synLocked (lineSyn n) = true ∧
    s.deepHolds (domLineRx n) = false) ∧
    (∃ (n : Fin 8) (s : State), s.noneDue ∧ s.acqState n = 0) ∧
    (∃ (n : Fin 8) (on : Bool) (s : State), s.noneDue ∧ s.flag (lineBase n) FEC_STATUS_IN_FRAME = true ∧
    s.line[n].rx.precode ≠ on) ∧
    (∃ (n : Fin 8) (on : Bool) (s : State), s.flag (lineBase n) FEC_STATUS_IN_FRAME = true ∧
    s.line[n].rx.precodeNext = some on ∧ (s.tick - s.line[n].rx.frameTick) % s.frameTicks = 0 ∧ s.acqState n ≠ 0 ∧
    s.synLocked (lineSyn n) = true ∧ s.deepHolds (domLineRx n) = false) ∧
    (∃ (n : Fin 8) (on : Bool) (s : State), s.noneDue ∧ s.flag (lineBase n) FEC_STATUS_IN_FRAME = false ∧
    s.line[n].rx.precode ≠ on ∧ s.acqState n ≠ 0 ∧ s.synLocked (lineSyn n) = true ∧ s.deepHolds (domLineRx n) = false) ∧
    (∃ (n : Fin 8) (on : Bool) (s : State), s.noneDue ∧ s.flag (lineBase n) FEC_STATUS_IN_FRAME = false ∧
    s.line[n].rx.precode = on) ∧
    (∃ (n : Fin 8) (r : AcqResult) (s : State), s.noneDue ∧ s.flag (lineBase n) EQ_STATUS_LOS = false ∧
    s.line[n].rx.clocksStopped = false ∧ s.acqState n = 1 ∧ s.flag (lineBase n) ADC_STATUS_CONVERGED = true) ∧
    (∃ (n : Fin 8) (r : AcqResult) (s : State), s.noneDue ∧ s.flag (lineBase n) EQ_STATUS_LOS = false ∧
    s.line[n].rx.clocksStopped = false ∧ s.acqState n = 1 ∧ s.flag (lineBase n) ADC_STATUS_CONVERGED = false) ∧
    (∃ (n : Fin 8) (r : AcqResult) (s : State), s.noneDue ∧ s.flag (lineBase n) EQ_STATUS_LOS = false ∧
    s.line[n].rx.clocksStopped = false ∧ s.acqState n = 2 ∧ s.flag (lineBase n) AFE_CTRL_CTLE_MAN = true) ∧
    (∃ (n : Fin 8) (r : AcqResult) (s : State), s.noneDue ∧ s.flag (lineBase n) EQ_STATUS_LOS = false ∧
    s.line[n].rx.clocksStopped = false ∧ s.acqState n = 2 ∧ s.flag (lineBase n) AFE_CTRL_CTLE_MAN = false) ∧
    (∃ (n : Fin 8) (r : AcqResult) (s : State), s.noneDue ∧ s.flag (lineBase n) EQ_STATUS_LOS = false ∧
    s.line[n].rx.clocksStopped = false ∧ s.acqState n = 3) ∧
    (∃ (n : Fin 8) (r : AcqResult) (s : State), s.noneDue ∧ s.flag (lineBase n) EQ_STATUS_LOS = false ∧
    s.line[n].rx.clocksStopped = false ∧ s.acqState n = 4) ∧
    (∃ (n : Fin 8) (r : AcqResult) (s : State), s.noneDue ∧ s.flag (lineBase n) EQ_STATUS_LOS = false ∧
    s.line[n].rx.clocksStopped = false ∧ s.acqState n = 5 ∧ s.lineLoop n ≠ 4) ∧
    (∃ (n : Fin 8) (r : AcqResult) (s : State), s.noneDue ∧ s.flag (lineBase n) EQ_STATUS_LOS = false ∧
    s.line[n].rx.clocksStopped = false ∧ s.acqState n = 6 ∧ s.searchDone n r.search = true ∧ s.lineLoop n ≠ 4) ∧
    (∃ (n : Fin 8) (r : AcqResult) (s : State), s.noneDue ∧ s.flag (lineBase n) EQ_STATUS_LOS = false ∧
    s.line[n].rx.clocksStopped = false ∧ s.acqState n = 8 ∧ s.line[n].rx.relockStep = 3 ∧
    s.searchDone n r.search = true) ∧
    (∃ (n : Fin 8) (s : State), s.noneDue ∧ s.flag (lineBase n) EQ_STATUS_LOS = false ∧
    s.line[n].rx.clocksStopped = false ∧ 1 ≤ s.acqState n ∧ s.acqState n ≤ 6) ∧
    (∃ (n : Fin 8) (s : State), s.noneDue ∧ s.line[n].rx.signal = true ∧ s.locked n = false ∧ s.acqState n ≠ 0 ∧
    s.takes (lineSrc n 0x44) 0) :=
  ⟨⟨2, stLk, by unfold State.noneDue; decide +kernel⟩,
   ⟨3, stLk, by unfold State.noneDue; decide +kernel⟩,
   ⟨2, true, stLk, by unfold State.noneDue; decide +kernel⟩,
   ⟨2, true, stLk.modRx 2 fun x => { x with precodeNext := some true }, by decide +kernel⟩,
   ⟨2, true, stA, by unfold State.noneDue; decide +kernel⟩,
   ⟨2, false, stA, by unfold State.noneDue; decide +kernel⟩,
   ⟨2, ⟨[3, 1, 2], ⟨[], []⟩, 5⟩, (stA.setFlag (lineBase 2) ADC_STATUS_CONVERGED true),
    by unfold State.noneDue; decide +kernel⟩,
   ⟨2, ⟨[3, 1, 2], ⟨[], []⟩, 5⟩, stA, by unfold State.noneDue; decide +kernel⟩,
   ⟨2, ⟨[3, 1, 2], ⟨[], []⟩, 5⟩, ((stCapLk 2).setFlag (lineBase 2) AFE_CTRL_CTLE_MAN true),
    by unfold State.noneDue; decide +kernel⟩,
   ⟨2, ⟨[3, 1, 2], ⟨[], []⟩, 5⟩, (stCapLk 2), by unfold State.noneDue; decide +kernel⟩,
   ⟨2, ⟨[3, 1, 2], ⟨[], []⟩, 5⟩, (stCapLk 3), by unfold State.noneDue; decide +kernel⟩,
   ⟨2, ⟨[3, 1, 2], ⟨[], []⟩, 5⟩, (stCapLk 4), by unfold State.noneDue; decide +kernel⟩,
   ⟨2, ⟨[3, 1, 2], ⟨[], []⟩, 5⟩, (stCapLk 5), by unfold State.noneDue; decide +kernel⟩,
   ⟨2,
    ⟨[3, 1, 2], ⟨[(5, List.replicate 256 (List.replicate 128 false))], [0, 1088, 2176].map fun k => (k, List.replicate 120 false ++ List.replicate 8 true)⟩, 5⟩,
    (stCapLk 6), by unfold State.noneDue; decide +kernel⟩,
   ⟨2,
    ⟨[3, 1, 2], ⟨[(5, List.replicate 256 (List.replicate 128 false))], [0, 1088, 2176].map fun k => (k, List.replicate 120 false ++ List.replicate 8 true)⟩, 5⟩,
    ((stCapLk 8).modRx 2 fun x => { x with relockStep := 3 }), by unfold State.noneDue; decide +kernel⟩,
   ⟨2, (stCapLk 5), by unfold State.noneDue; decide +kernel⟩,
   ⟨2, (stA.modRx 2 fun x => { x with signal := true }), by unfold State.noneDue State.takes; decide +kernel⟩⟩

theorem witness_LineSignalAndReadouts :
    (∃ (n : Fin 8) (s : State), s.noneDue ∧ s.acqState n ≠ 0 ∧ s.flag (lineBase n) EQ_STATUS_LOS = true ∧
    s.synLocked (lineSyn n) = true ∧ s.deepHolds (domLineRx n) = false) ∧
    (∃ (n : Fin 8) (s : State), s.noneDue ∧ s.acqState n ≠ 0 ∧ s.flag (lineBase n) EQ_STATUS_LOS = false) ∧
    (∃ (n : Fin 8) (s : State), s.noneDue ∧ s.acqState n ≠ 0 ∧ s.flag (lineBase n) EQ_STATUS_LOS = false ∧
    s.takes (lineSrc n 0x40) 0) ∧
    (∃ (n : Fin 8) (within100ms : Bool) (s : State), s.noneDue ∧ s.flag (lineBase n) EQ_STATUS_LOS = true ∧
    s.line[n].rx.clocksStopped = false ∧ within100ms = true) ∧
    (∃ (n : Fin 8) (within100ms : Bool) (s : State), s.noneDue ∧ s.flag (lineBase n) EQ_STATUS_LOS = true ∧
    s.line[n].rx.clocksStopped = false ∧ within100ms = false ∧ s.synLocked (lineSyn n) = true ∧
    s.deepHolds (domLineRx n) = false) ∧
    (∃ (n : Fin 8) (s : State), s.noneDue ∧ s.locked n = true ∧
    (s.line[n].rx.freqWord = 50000 ∨ s.line[n].rx.freqWord = -50000) ∧ s.takes (lineSrc n 0x41) 2) ∧
    (∃ (n : Fin 8) (s : State), s.noneDue ∧ s.acqState n = 8 ∧ s.flag (lineBase n) EQ_STATUS_LOS = false ∧
    s.synLocked (lineSyn n) = true ∧ s.deepHolds (domLineRx n) = false) ∧
    (∃ (n : Fin 8) (symbols : List RxSymbol) (err : ReadoutError) (v : Nat) (l : List RxSymbol) (s : State), s.noneDue ∧
    s.locked n = true ∧ s.lineTask n taskSnr = true ∧ v = s.snrValue n symbols err.snr ∧ l = s.counted n symbols) :=
  ⟨⟨2, (stA.setFlag (lineBase 2) EQ_STATUS_LOS true), by unfold State.noneDue; decide +kernel⟩,
   ⟨2, stA, by unfold State.noneDue; decide +kernel⟩,
   ⟨2, stLk, by unfold State.noneDue State.takes; decide +kernel⟩,
   ⟨2, true, (stLk.setFlag (lineBase 2) EQ_STATUS_LOS true), by unfold State.noneDue; decide +kernel⟩,
   ⟨2, false, (stLk.setFlag (lineBase 2) EQ_STATUS_LOS true), by unfold State.noneDue; decide +kernel⟩,
   ⟨2, stLk.modRx 2 fun x => { x with freqWord := 50000 }, by unfold State.noneDue State.takes; decide +kernel⟩,
   ⟨2, (stCapLk 8), by unfold State.noneDue; decide +kernel⟩,
   ⟨2, [sym0], ⟨0, 0, 0, 0⟩, stLk.snrValue 2 [sym0] 0, stLk.counted 2 [sym0], stLk,
    by unfold State.noneDue; decide +kernel⟩⟩

/-- 2,000 changed bits in 10^9 are published as 2.000 × 10^-6 (R132). -/
theorem berFields_example : berFields ((2000 : Nat) / (1000000000 : Nat) : Rat) = (2000, 6) := by
  have step (k : Nat) (x : Rat) (h : x < 1) : berExp (k + 1) x = berExp k (x * 10) + 1 := by simp [berExp, h]
  have stop (k : Nat) (x : Rat) (h : ¬ x < 1) : berExp (k + 1) x = 0 := by simp [berExp, h]
  have h : berExp 255 ((2000 : Nat) / (1000000000 : Nat) : Rat) = 6 := by
    rw [step 254 _ (by norm_num), step 253 _ (by norm_num), step 252 _ (by norm_num), step 251 _ (by norm_num),
      step 250 _ (by norm_num), step 249 _ (by norm_num), stop 248 _ (by norm_num)]
  have f : Rat.floor 2000 = 2000 := Rat.floor_intCast 2000
  have q : quantise 2000 = 2000 := by simp [quantise, f]
  simp only [berFields, h]
  norm_num [q]
  rfl

theorem witness_FramesInnerCodeAndMonitors :
    (∃ (n : Fin 8) (words : List (List Bool)) (w : Windows) (s : State), s.noneDue ∧ s.locked n = true ∧
    s.flag (lineBase n) FEC_STATUS_IN_FRAME = true ∧
    w = (frameFails words).foldl Windows.next ⟨s.line[n].rx.winSeen, s.line[n].rx.winBad, s.line[n].rx.badWindows⟩ ∧
    ((frameMissed words :: s.line[n].rx.markerHist).take 16).count true < 4 ∧ w.run < 4) ∧
    (∃ (n : Fin 8) (words : List (List Bool)) (w : Windows) (s : State), s.noneDue ∧ s.locked n = true ∧
    s.flag (lineBase n) FEC_STATUS_IN_FRAME = true ∧
    w = (frameFails words).foldl Windows.next ⟨s.line[n].rx.winSeen, s.line[n].rx.winBad, s.line[n].rx.badWindows⟩ ∧
    (4 ≤ ((frameMissed words :: s.line[n].rx.markerHist).take 16).count true ∨ 4 ≤ w.run) ∧ s.lineLoop n ≠ 4) ∧
    (∃ (n : Fin 8) (soft : List SoftBit) (marker : Bool) (y c changed : List Bool) (s : State), s.noneDue ∧
    s.flag (lineBase n) FEC_STATUS_IN_FRAME = true ∧ soft.length = 128 ∧ y = hardBits soft marker ∧
    c = chaseDecode (chaseL (s.laneProfile n)) soft marker ∧
    changed = (List.range 64).map (fun k => (diffBits y c).contains (2 * k) || (diffBits y c).contains (2 * k + 1))) ∧
    (∃ (m : Fin 16) (mon : Kp4Monitor) (word : List (BitVec 10)) (r : RsOutcome) (s : State), s.noneDue ∧
    s.flag (hostBase m) (monRegs mon).cwLock = true ∧ (s.lineOf m).isSome = true ∧
    r = rsDecode (word.map BitVec.toNat) ∧ r ≠ .uncorrectable) ∧
    (∃ (m : Fin 16) (word : List (BitVec 10)) (s : State), s.noneDue ∧
    s.flag (hostBase m) HR_KP4_STATUS_CW_LOCK = true ∧ (s.lineOf m).isSome = true ∧
    rsDecode (word.map BitVec.toNat) = .uncorrectable ∧ 16 ≤ s.host[m].hr.run + 1 ∧ s.takes (hostSrc m 0x51) 0) ∧
    (∃ (m : Fin 16) (mon : Kp4Monitor) (word : List (BitVec 10)) (s : State), s.lineOf m = none) ∧
    (∃ (m : Fin 16) (tests : List (Fin 2720 × List (List (BitVec 10)))) (p : Fin 2720) (s : State), s.noneDue ∧
    s.hostLocked m = true ∧ s.hostChecking m = false ∧ s.flag (hostBase m) HR_KP4_STATUS_CW_LOCK = false ∧
    lockPhase tests = some p) ∧
    (∃ (m : Fin 16) (mon : Kp4Monitor) (on : Bool) (s : State), s.noneDue) ∧
    (∃ (b : CounterBlock) (alsoClr : Bool) (arrived : List (Fin 4 × Fin 4)) (n : Fin 8) (s : State), s.noneDue ∧
    b = .inner n) ∧
    (∃ (b : CounterBlock) (alsoClr : Bool) (arrived : List (Fin 4 × Fin 4)) (m : Fin 16) (mon : Kp4Monitor) (s : State),
    s.noneDue ∧ b = .kp4 m mon) ∧
    (∃ (b : CounterBlock) (alsoClr : Bool) (arrived : List (Fin 4 × Fin 4)) (n : Fin 8) (s : State), s.noneDue ∧
    b = .lineChecker n) ∧
    (∃ (b : CounterBlock) (alsoClr : Bool) (arrived : List (Fin 4 × Fin 4)) (m : Fin 16) (s : State), s.noneDue ∧
    b = .hostChecker m) ∧
    (∃ (b : CounterBlock) (arrived : List (Fin 4 × Fin 4)) (n : Fin 8) (s : State), s.noneDue ∧ b = .inner n) ∧
    (∃ (b : CounterBlock) (arrived : List (Fin 4 × Fin 4)) (m : Fin 16) (mon : Kp4Monitor) (s : State), s.noneDue ∧
    b = .kp4 m mon) ∧
    (∃ (b : CounterBlock) (arrived : List (Fin 4 × Fin 4)) (n : Fin 8) (s : State), s.noneDue ∧ b = .lineChecker n) ∧
    (∃ (b : CounterBlock) (arrived : List (Fin 4 × Fin 4)) (m : Fin 16) (s : State), s.noneDue ∧ b = .hostChecker m) ∧
    (∃ (n : Fin 8) (changed bits : Nat) (f : Nat × Nat) (s : State), s.noneDue ∧
    s.flag (lineBase n) FEC_STATUS_IN_FRAME = true ∧ changed = s.line[n].rx.intBits ∧ bits = 128 * s.line[n].rx.intCw ∧
    1000 ≤ changed ∧ changed < bits ∧ f = berFields ((changed : Rat) / bits) ∧
    ¬ 1 < ((f.1 : Rat) / 1000 / 10 ^ f.2) ^ 16 * 10 ^ s.fld (lineBase n) FEC_CTRL_BER_WARN) ∧
    (∃ (n : Fin 8) (s : State), s.noneDue ∧ s.flag (lineBase n) FEC_STATUS_IN_FRAME = true ∧ s.line[n].rx.intBits = 0 ∧
    s.line[n].rx.berRun = []) :=
  ⟨⟨2, [], ⟨0, 0, 0⟩, (stLk.setFlag (lineBase 2) FEC_STATUS_IN_FRAME true), by unfold State.noneDue; decide +kernel⟩,
   ⟨2, [], ⟨0, 0, 4⟩, (stLk.setFlag (lineBase 2) FEC_STATUS_IN_FRAME true).modRx 2 fun x => { x with badWindows := 4 },
    by unfold State.noneDue; decide +kernel⟩,
   ⟨2, List.replicate 128 ⟨false, 3⟩, false, List.replicate 128 false, List.replicate 128 false,
    List.replicate 64 false, stLk.setFlag (lineBase 2) FEC_STATUS_IN_FRAME true,
    by unfold State.noneDue; decide +kernel⟩,
   ⟨2, .lr, List.replicate 544 0, .clean, (stCmd.setFlag (hostBase 2) LR_KP4_STATUS_CW_LOCK true),
    by unfold State.noneDue; decide +kernel⟩,
   ⟨2, (List.range 16).map fun i => BitVec.ofNat 10 (i * i + 1),
    ({ (stCmd.setFlag (hostBase 2) HR_KP4_STATUS_CW_LOCK true) with host := stCmd.host.set 2 ({ stCmd.host[2] with hr := { stCmd.host[2].hr with run := 15 } }) }),
    by unfold State.noneDue State.takes; decide +kernel⟩,
   ⟨9, .lr, List.replicate 544 0, (stCmd.setFlag (hostBase 2) LR_KP4_STATUS_CW_LOCK true), by decide +kernel⟩,
   ⟨2, [(5, List.replicate 3 [])], 5,
    ((stCmd.setFlag (hostBase 2) HR_STATUS_LOCKED true).setFld (hostBase 2) HR_STATUS_HR_STATE 5),
    by unfold State.noneDue; decide +kernel⟩,
   ⟨2, .lr, true, stCmd, by unfold State.noneDue; decide +kernel⟩,
   ⟨(.inner 2), true, [], 2, stCmd, by unfold State.noneDue; decide +kernel⟩,
   ⟨(.kp4 3 .lr), true, [], 3, .lr, stCmd, by unfold State.noneDue; decide +kernel⟩,
   ⟨(.lineChecker 3), false, [], 3, stCmd, by unfold State.noneDue; decide +kernel⟩,
   ⟨(.hostChecker 3), true, [], 3, stCmd, by unfold State.noneDue; decide +kernel⟩,
   ⟨(.inner 2), [], 2, stCmd, by unfold State.noneDue; decide +kernel⟩,
   ⟨(.kp4 2 .lr), [], 2, .lr, stCmd, by unfold State.noneDue; decide +kernel⟩,
   ⟨(.lineChecker 2), [], 2, stCmd, by unfold State.noneDue; decide +kernel⟩,
   ⟨(.hostChecker 2), [], 2, stCmd, by unfold State.noneDue; decide +kernel⟩,
   ⟨2, 2000, 1000000000, (2000, 6),
    (stLk.setFlag (lineBase 2) FEC_STATUS_IN_FRAME true).modRx 2 fun x => { x with intBits := 2000, intCw := 7812500 },
    by unfold State.noneDue; decide +kernel, by decide +kernel, by decide +kernel, by decide +kernel, by decide +kernel,
    by decide +kernel, berFields_example.symm, by decide +kernel⟩,
   ⟨2, stLk.setFlag (lineBase 2) FEC_STATUS_IN_FRAME true, by unfold State.noneDue; decide +kernel⟩⟩

theorem witness_TransmitterStartAndStop :
    (∃ (n : Fin 8) (s : State), s.noneDue ∧ s.fuse.safe = false ∧ s.synLocked (lineSyn n) = true ∧
    s.domOn (domLineTx n) = true ∧ s.txState n = 0) ∧
    (∃ (n : Fin 8) (s : State), s.noneDue ∧
    (s.synLocked (lineSyn n) = false ∨ s.fld powerBase (DOM_STATE.ix (domLineTx n)) = 3)) ∧
    (∃ (n : Fin 8) (s : State), s.noneDue ∧ s.txState n = 1 ∧ s.domOn (domLineTx n) = true) ∧
    (∃ (old new : List SubDacTrim) (trim : SubDacTrim), trim ∈ legalTrims old new) ∧
    (∃ (n : Fin 8) (s : State), s.noneDue ∧ s.txState n = 2 ∧ s.line[n].tx.falling = false ∧
    s.fld (lineBase n) TX_STATUS_SQ_CAUSE = 0 ∧ s.deepHolds (domLineTx n) = false) ∧
    (∃ (n : Fin 8) (s : State), s.noneDue ∧ s.txState n = 2 ∧ s.line[n].tx.falling = false ∧
    s.fld (lineBase n) TX_STATUS_SQ_CAUSE ≠ 0) ∧
    (∃ (n : Fin 8) (s : State), s.noneDue ∧ s.txState n = 4 ∧ s.rampK n = 64) ∧
    (∃ (n : Fin 8) (s : State), s.noneDue ∧ s.fuse.safe = false ∧ 2 ≤ s.txState n) ∧
    (∃ (n : Fin 8) (s : State), s.noneDue ∧ s.fuse.safe = false ∧ s.txState n = 1) ∧
    (∃ (n : Fin 8) (s : State), s.noneDue ∧ s.fuse.safe = true) ∧
    (∃ (n : Fin 8) (s : State), s.noneDue ∧ s.txState n = 2 ∧ s.line[n].tx.falling = true) ∧
    (∃ (n : Fin 8) (on : Bool) (s : State), s.noneDue ∧ on = true ∧ s.txState n ≤ 2) ∧
    (∃ (n : Fin 8) (on : Bool) (s : State), s.noneDue ∧ on = true ∧ (s.txState n = 4 ∨ s.txState n = 5)) ∧
    (∃ (n : Fin 8) (on : Bool) (s : State), s.noneDue ∧ 3 ≤ s.txState n) ∧
    (∃ (n : Fin 8) (on : Bool) (s : State), s.noneDue ∧ s.txState n < 3) ∧
    (∃ (n : Fin 8) (on : Bool) (s : State), s.line[n].tx.precodeNext = some on ∧
    (s.tick - s.line[n].tx.frameTick) % s.frameTicks = 0) :=
  ⟨⟨2, stL, by unfold State.noneDue; decide +kernel⟩,
   ⟨2, stCmd, by unfold State.noneDue; decide +kernel⟩,
   ⟨2, (stL.setTxState 2 1), by unfold State.noneDue; decide +kernel⟩,
   ⟨[], [⟨300, 3, 0⟩], ⟨125, 3, 0⟩, by decide +kernel⟩,
   ⟨2, (stL.setTxState 2 2), by unfold State.noneDue; decide +kernel⟩,
   ⟨2, ((stL.setTxState 2 2).setFld (lineBase 2) TX_STATUS_SQ_CAUSE 1), by unfold State.noneDue; decide +kernel⟩,
   ⟨2, (stL.setTxState 2 4), by unfold State.noneDue; decide +kernel⟩,
   ⟨2, (stL.setTxState 2 5), by unfold State.noneDue; decide +kernel⟩,
   ⟨2, (stL.setTxState 2 1), by unfold State.noneDue; decide +kernel⟩,
   ⟨2, ({ stL with fuse := { stL.fuse with safe := true } }), by unfold State.noneDue; decide +kernel⟩,
   ⟨2, ((stL.setTxState 2 2).modTx 2 fun x => { x with falling := true }), by unfold State.noneDue; decide +kernel⟩,
   ⟨2, true, stL, by unfold State.noneDue; decide +kernel⟩,
   ⟨2, true, (stL.setTxState 2 5), by unfold State.noneDue; decide +kernel⟩,
   ⟨2, true, (stL.setTxState 2 5), by unfold State.noneDue; decide +kernel⟩,
   ⟨2, true, stL.setTxState 2 1, by unfold State.noneDue; decide +kernel⟩,
   ⟨2, true, stL.modTx 2 fun x => { x with precodeNext := some true, frameTick := 760 }, by decide +kernel⟩⟩

theorem witness_PatternsAndCheckers :
    (∃ (n : Fin 8) (sel : BitVec 3) (s : State), s.noneDue ∧
    (patSel (s.fld (lineBase n) TX_PAT_PAT_SEL) = 0 ∨ patSel sel.toNat ≠ 0)) ∧
    (∃ (n : Fin 8) (sel : BitVec 3) (s : State), s.noneDue ∧ patSel (s.fld (lineBase n) TX_PAT_PAT_SEL) ≠ 0 ∧
    patSel sel.toNat = 0) ∧
    (∃ (n : Fin 8) (sel : BitVec 3) (s : State), s.noneDue ∧
    patSel (s.fld (lineBase n) RX_PAT_CTRL_CHK_SEL) = patSel sel.toNat) ∧
    (∃ (n : Fin 8) (sel : BitVec 3) (s : State), s.noneDue ∧
    patSel (s.fld (lineBase n) RX_PAT_CTRL_CHK_SEL) ≠ patSel sel.toNat) ∧
    (∃ (k : Checker) (symbols : List (Fin 4)) (n : Fin 8) (s : State), s.noneDue ∧ k = .line n ∧ s.checking n = true ∧
    s.flag (lineBase n) RX_PAT_STATUS_CHK_LOCK = false ∧
    checkerTracks (s.fld (lineBase n) RX_PAT_CTRL_CHK_SEL) (s.lineUserSymbol n) (symbols.map Fin.val) = true) ∧
    (∃ (k : Checker) (symbols : List (Fin 4)) (m : Fin 16) (s : State), s.noneDue ∧ k = .host m ∧
    s.hostChecking m = true ∧ s.flag (hostBase m) HR_PAT_STATUS_CHK_LOCK = false ∧
    checkerTracks (s.fld (hostBase m) HR_PAT_CTRL_CHK_SEL) (s.hostUserSymbol m) (symbols.map Fin.val) = true) ∧
    (∃ (k : Checker) (compared : List (Fin 4 × Fin 4)) (n : Fin 8) (s : State), s.noneDue ∧ k = .line n ∧
    s.flag (lineBase n) RX_PAT_STATUS_CHK_LOCK = true ∧ checkerLoses compared = true) ∧
    (∃ (k : Checker) (compared : List (Fin 4 × Fin 4)) (m : Fin 16) (s : State), s.noneDue ∧ k = .host m ∧
    s.flag (hostBase m) HR_PAT_STATUS_CHK_LOCK = true ∧ checkerLoses compared = true) :=
  ⟨⟨2, 3, stL, by unfold State.noneDue; decide +kernel⟩,
   ⟨2, 0, (stL.setFld (lineBase 2) TX_PAT_PAT_SEL 2), by unfold State.noneDue; decide +kernel⟩,
   ⟨2, 0, stL, by unfold State.noneDue; decide +kernel⟩,
   ⟨2, 2, stLk, by unfold State.noneDue; decide +kernel⟩,
   ⟨.line 2, List.replicate 256 0, 2, stLk.setFld (lineBase 2) RX_PAT_CTRL_CHK_SEL 4,
    by unfold State.noneDue; decide +kernel⟩,
   ⟨.host 2, List.replicate 256 0, 2, (stHr 5).setFld (hostBase 2) HR_PAT_CTRL_CHK_SEL 4,
    by unfold State.noneDue; decide +kernel⟩,
   ⟨(.line 2), List.replicate 200 (1, 2), 2, (stLk.setFlag (lineBase 2) RX_PAT_STATUS_CHK_LOCK true),
    by unfold State.noneDue; decide +kernel⟩,
   ⟨(.host 2), List.replicate 200 (1, 2), 2, (stLk.setFlag (hostBase 2) HR_PAT_STATUS_CHK_LOCK true),
    by unfold State.noneDue; decide +kernel⟩⟩

theorem witness_CensusAndDerivedTables :
    (∃ (n : Fin 8) (clock : List CensusSymbol) (s : State), s.noneDue ∧ s.sampling n = true ∧ s.sampleDue n = true ∧
    s.censusExcluded n clock (s.samplePlace n) = true) ∧
    (∃ (n : Fin 8) (clock : List CensusSymbol) (s : State), s.noneDue ∧ s.sampling n = true ∧ s.sampleDue n = true ∧
    s.censusExcluded n clock (s.samplePlace n) = false ∧ s.laneRebuilding n = false ∧
    s.flag pantryBase (PL_CTRL_E_EN.ix n.val) = true ∧ s.flag pantryBase (PL_CTRL_M_EN.ix n.val) = true ∧
    (censusAt clock (s.samplePlace n) 5).corrected = true ∧
    s.entryOf (tableE n) (censusContext clock (s.samplePlace n)) < 0xFFFE) ∧
    (∃ (n : Fin 8) (clock : List CensusSymbol) (s : State), s.noneDue ∧ s.sampling n = true ∧ s.sampleDue n = true ∧
    s.censusExcluded n clock (s.samplePlace n) = false ∧ s.laneRebuilding n = true) ∧
    (∃ (n : Fin 8) (on : Bool) (s : State), s.noneDue) ∧
    (∃ (n : Fin 8) (s : State), s.noneDue) ∧
    (∃ (n : Fin 8) (s : State), s.noneDue ∧ s.pantry.clearing = some n ∧ s.domOn 2 = true ∧
    (∀ r ∈ s.link.running, r.opcode ≠ 0x0C02)) ∧
    (∃ (n : Fin 8) (s : State), s.noneDue ∧ s.domOn 2 = true ∧
    s.flag pantryBase (PL_STATUS_UPDATER_FAIL.ix n.val) = false) ∧
    (∃ (n : Fin 8) (s : State), s.noneDue ∧ s.servedNext = some n ∧
    s.flag pantryBase (PL_STATUS_E_SAT.ix n.val) = false) ∧
    (∃ (n : Fin 8) (s : State), s.noneDue ∧ s.servedNext = some n ∧ s.flag pantryBase (PL_STATUS_E_SAT.ix n.val) = true) ∧
    (∃ (n : Fin 8) (s : State), s.noneDue ∧ s.taskRuns 14 (taskInstall n) = true ∧ s.nlcReady n = true ∧
    s.pantry.lanes[n].swapDue = false ∧ s.pantry.lanes[n].installDue = true ∧ s.pantry.lanes[n].step = none ∧
    s.flag pantryBase PANTRY_CTRL_AUTO_NLC = true ∧ s.nlcInUse n = true ∧ s.pantry.lanes[n].pdDue = none) ∧
    (∃ (n : Fin 8) (s : State), s.noneDue ∧ s.taskRuns 14 (taskInstall n) = true ∧ s.nlcReady n = true ∧
    s.pantry.lanes[n].swapDue = false ∧ s.pantry.lanes[n].installDue = true ∧
    s.flag pantryBase PANTRY_CTRL_AUTO_NLC = true ∧ s.nlcInUse n = true ∧ s.pantry.lanes[n].pdDue = none) ∧
    (∃ (n : Fin 8) (due : PdDue) (p : List Int) (s : State), s.noneDue ∧ s.taskRuns 14 (taskInstall n) = true ∧
    s.pantry.lanes[n].swapDue = false ∧ s.pantry.lanes[n].installDue = false ∧ s.pantry.lanes[n].pdDue = some due ∧
    due.proposal = some p ∧ due.step = none ∧ s.pdReady n = true ∧ s.pdInUse n = true) ∧
    (∃ (n : Fin 8) (j : Judge) (s : State), s.noneDue ∧ s.taskRuns 14 (taskInstall n) = true ∧
    s.pantry.lanes[n].judge = some j ∧ j.start + j.window ≤ s.pantry.lanes[n].samples ∧ worse j.before j.after = false) ∧
    (∃ (n : Fin 8) (j : Judge) (s : State), s.noneDue ∧ s.taskRuns 14 (taskInstall n) = true ∧
    s.pantry.lanes[n].judge = some j ∧ j.start + j.window ≤ s.pantry.lanes[n].samples ∧ worse j.before j.after = true ∧
    j.proposal = none ∧ s.takes 0x4104 n.val) :=
  ⟨⟨2, cenClock ⟨1, true, false, 8, true⟩, stPan, by unfold State.noneDue; decide +kernel⟩,
   ⟨2, cenClock ⟨1, false, false, 8, true⟩, stPan, by unfold State.noneDue; decide +kernel⟩,
   ⟨2, cenClock ⟨1, false, false, 8, true⟩,
    { stPan with memory := { stPan.memory with rebuilding := [⟨memPantry, 97, 0x02800000⟩] } },
    by unfold State.noneDue; decide +kernel⟩,
   ⟨2, true, stPan, by unfold State.noneDue; decide +kernel⟩,
   ⟨2, stPan, by unfold State.noneDue; decide +kernel⟩,
   ⟨2, ({ stPan with pantry := { stPan.pantry with clearing := some 2 } }), by unfold State.noneDue; decide +kernel⟩,
   ⟨2, stPan, by unfold State.noneDue; decide +kernel⟩,
   ⟨2, stDer, by unfold State.noneDue; decide +kernel⟩,
   ⟨2, (stDer.setFlag pantryBase (PL_STATUS_E_SAT.ix 2) true), by unfold State.noneDue; decide +kernel⟩,
   ⟨2, stIns, by unfold State.noneDue; decide +kernel⟩,
   ⟨2, stIns, by unfold State.noneDue; decide +kernel⟩,
   ⟨2, { seq := 3, proposal := some [3, -5], step := none }, [3, -5],
    (((stIns.setTxState 2 5).setFlag (lineBase 2) TX_CTRL_PD_EN true).modPantry 2 fun l => { l with installDue := false, pdDue := some { seq := 3, proposal := some [3, -5], step := none } }),
    by unfold State.noneDue; decide +kernel⟩,
   ⟨2, ⟨none, 5, 10, 0, 5⟩, (stDer.modPantry 2 fun l => { l with judge := some ⟨none, 5, 10, 0, 5⟩ }),
    by unfold State.noneDue; decide +kernel⟩,
   ⟨2, ⟨none, 5, 10, 0, 6⟩, (stDer.modPantry 2 fun l => { l with judge := some ⟨none, 5, 10, 0, 6⟩ }),
    by unfold State.noneDue State.takes; decide +kernel⟩⟩

theorem witness_PreDistortionProposals :
    (∃ (n : Fin 8) (s : State), s.noneDue ∧ s.taskRuns 14 (taskInstall n) = true ∧
    s.flag pantryBase PANTRY_CTRL_PD_TAMID = true ∧ s.pantry.lanes[n].unsent = true ∧ s.fuse.safe = false ∧
    s.tamidState n ≠ 0) ∧
    (∃ (n : Fin 8) (k : Nat) (s : State), s.noneDue ∧ s.pantry.lanes[n].awaiting = some (k, false) ∧
    s.taskRuns 14 (taskInstall n) = true ∧ s.flag pantryBase PANTRY_CTRL_PD_TAMID = true ∧ s.fuse.safe = false ∧
    s.tamidState n ≠ 0) ∧
    (∃ (n : Fin 8) (k : Nat) (s : State), s.noneDue ∧ s.pantry.lanes[n].awaiting = some (k, true) ∧
    s.taskRuns 14 (taskInstall n) = true ∧ s.takes 0x4106 n.val) ∧
    (∃ (n : Fin 8) (seq part : Byte) (body : List Byte) (rest : List (List Byte)) (s : State), s.noneDue ∧
    s.taskRuns 14 (taskInstall n) = true ∧ s.proposalsOpen = true ∧
    s.tamid[n].messages = ([0xC1, seq, part] ++ body) :: rest ∧ s.pantry.lanes[n].assembly = none) ∧
    (∃ (n : Fin 8) (seq result : Byte) (tail : List Byte) (rest : List (List Byte)) (s : State), s.noneDue ∧
    s.taskRuns 14 (taskInstall n) = true ∧ s.proposalsOpen = true ∧
    s.tamid[n].messages = ([0xC2, seq, result] ++ tail) :: rest ∧ s.pantry.lanes[n].awaiting.isSome = true ∧
    seq.toNat = s.fld pantryBase (PL_DERIVE_PROP_SEQ_TX.ix n.val)) ∧
    (∃ (n : Fin 8) (seq : Byte) (tail : List Byte) (rest : List (List Byte)) (s : State), s.noneDue ∧
    s.taskRuns 14 (taskInstall n) = true ∧ s.proposalsOpen = true ∧
    s.tamid[n].messages = ([0xC3, seq] ++ tail) :: rest ∧ s.pantry.lanes[n].pdLast = some seq.toNat ∧
    s.pdReady n = false) ∧
    (∃ (n : Fin 8) (a : Assembly) (s : State), s.noneDue ∧ s.pantry.lanes[n].assembly = some a ∧
    s.flag pantryBase PANTRY_CTRL_PD_TAMID = true ∧ s.fuse.safe = false ∧ s.tamidState n ≠ 0) :=
  ⟨⟨2, stProp, by unfold State.noneDue; decide +kernel⟩,
   ⟨2, 5, (stProp.modPantry 2 fun l => { l with awaiting := some (5, false) }), by unfold State.noneDue; decide +kernel⟩,
   ⟨2, 5, (stProp.modPantry 2 fun l => { l with awaiting := some (5, true) }),
    by unfold State.noneDue State.takes; decide +kernel⟩,
   ⟨2, 7, 3, ([1,2]), ([]), (stProp.modTamid 2 fun x => { x with messages := [[0xC1, 7, 3, 1, 2]] }),
    by unfold State.noneDue; decide +kernel⟩,
   ⟨2, 0, 1, ([]), ([]),
    ((stProp.modTamid 2 fun x => { x with messages := [[0xC2, 0, 1]] }).modPantry 2 fun l => { l with awaiting := some (5, true) }),
    by unfold State.noneDue; decide +kernel⟩,
   ⟨2, 9, ([]), ([]),
    ((stProp.modTamid 2 fun x => { x with messages := [[0xC3, 9]] }).modPantry 2 fun l => { l with pdLast := some 9 }),
    by unfold State.noneDue; decide +kernel⟩,
   ⟨2, ({ seq := 8, since := 3, parts := [] }),
    (stProp.modPantry 2 fun l => { l with assembly := some { seq := 8, since := 3, parts := [] } }),
    by unfold State.noneDue; decide +kernel⟩⟩

theorem witness_HostTransmitter :
    (∃ (m : Fin 16) (training : Bool) (s : State), s.noneDue ∧ s.trainState m ≠ 1 ∧ training = false ∧
    tapsValid (s.hostTaps m HT_FIR_TARGET) = true) ∧
    (∃ (m : Fin 16) (training : Bool) (s : State), s.noneDue ∧
    (s.trainState m = 1 ∨ training = true ∨ tapsValid (s.hostTaps m HT_FIR_TARGET) = false)) ∧
    (∃ (m : Fin 16) (preset : BitVec 3) (firApply : Bool) (p q r : Int) (s : State), s.noneDue ∧
    presetTaps preset.toNat = some (p, q, r) ∧ s.trainState m ≠ 1 ∧ firApply = false) ∧
    (∃ (m : Fin 16) (preset : BitVec 3) (firApply : Bool) (s : State), s.noneDue ∧ presetTaps preset.toNat = none ∧
    firApply = false) ∧
    (∃ (m : Fin 16) (preset : BitVec 3) (firApply : Bool) (p q r : Int) (s : State), s.noneDue ∧
    presetTaps preset.toNat = some (p, q, r) ∧ s.trainState m ≠ 1 ∧ firApply = true) ∧
    (∃ (m : Fin 16) (on : Bool) (s : State), s.noneDue ∧ s.flag (hostBase m) HT_CTRL_TX_PRECODE ≠ on) ∧
    (∃ (m : Fin 16) (on : Bool) (s : State), s.noneDue ∧ s.flag (hostBase m) HR_CTRL_RX_PRECODE ≠ on) ∧
    (∃ (m : Fin 16) (s : State), s.noneDue ∧ s.hostUsed m = true ∧ s.hostLoop m = 0 ∧
    s.flag (hostBase m) HT_CTRL_HT_SLEEP = false ∧ s.domOn (domHostTx m) = true ∧ s.synLocked (hostSyn m) = true ∧
    s.fuse.safe = false ∧ s.deepHolds (domHostTx m) = false ∧ s.htState m = 0 ∧
    s.fld (hostBase m) HT_STATUS_SQ_CAUSE = 0 ∧ s.flag (hostBase m) TRAIN_CTRL_TRAIN_MODE = false) ∧
    (∃ (m : Fin 16) (s : State), s.noneDue ∧
    (s.fld powerBase (DOM_STATE.ix (domHostTx m)) = 3 ∨ s.synLocked (hostSyn m) = false ∨ s.fuse.safe = true)) ∧
    (∃ (m : Fin 16) (s : State), s.noneDue ∧ s.fuse.safe = false ∧ s.htState m ≠ 0) ∧
    (∃ (m : Fin 16) (s : State), s.noneDue ∧ s.fuse.safe = true) ∧
    (∃ (m : Fin 16) (s : State), s.noneDue ∧ s.host[m].falling = true ∧ s.htState m = 1) ∧
    (∃ (m : Fin 16) (on : Bool) (s : State), s.noneDue ∧ on = true ∧ (s.htState m = 2 ∨ s.htState m = 3)) ∧
    (∃ (m : Fin 16) (on : Bool) (s : State), s.noneDue ∧ on = false ∧ s.fld (hostBase m) HT_STATUS_SQ_CAUSE = 1 ∧
    s.htState m = 1 ∧ s.flag (hostBase m) HT_CTRL_HT_EN = true ∧ s.htAsleep m = false ∧ s.host[m].falling = false ∧
    s.deepHolds (domHostTx m) = false ∧ s.flag (hostBase m) TRAIN_CTRL_TRAIN_MODE = false) ∧
    (∃ (m : Fin 16) (percent : Rat) (s : State), s.noneDue ∧ s.htState m = 3 ∧ (percent < 75 ∨ 125 < percent)) ∧
    (∃ (m : Fin 16) (percent : Rat) (s : State), s.noneDue ∧ 75 ≤ percent ∧ percent ≤ 125) ∧
    (∃ (m : Fin 16) (on : Bool) (s : State), s.noneDue ∧ on = true ∧ s.hostLoop m = 0 ∧ s.htState m ≠ 0) ∧
    (∃ (m : Fin 16) (on : Bool) (s : State), s.noneDue ∧ s.hostLoop m ≠ 0) ∧
    (∃ (m : Fin 16) (sel : BitVec 3) (s : State), s.noneDue ∧
    (patSel (s.fld (hostBase m) HT_PAT_HPAT_SEL) = 0 ∨ patSel sel.toNat ≠ 0)) :=
  ⟨⟨2, false, (stCmd.setHostTaps 2 HT_FIR_TARGET [1, -5, 50, -8, 0]), by unfold State.noneDue; decide +kernel⟩,
   ⟨2, true, stCmd, by unfold State.noneDue; decide +kernel⟩,
   ⟨2, 3, false, (-8), 52, (-4), stCmd, by unfold State.noneDue; decide +kernel⟩,
   ⟨2, 7, false, stCmd, by unfold State.noneDue; decide +kernel⟩,
   ⟨2, 3, true, (-8), 52, (-4), stCmd, by unfold State.noneDue; decide +kernel⟩,
   ⟨2, true, stCmd, by unfold State.noneDue; decide +kernel⟩,
   ⟨2, true, stReady, by unfold State.noneDue; decide +kernel⟩,
   ⟨2, stH, by unfold State.noneDue; decide +kernel⟩,
   ⟨2, stCmd, by unfold State.noneDue; decide +kernel⟩,
   ⟨2, (stH.setHtState 2 3), by unfold State.noneDue; decide +kernel⟩,
   ⟨2, ({ (stH.setHtState 2 3) with fuse := { stH.fuse with safe := true } }), by unfold State.noneDue; decide +kernel⟩,
   ⟨2, ((stH.setHtState 2 1).modHost 2 fun h => { h with falling := true }), by unfold State.noneDue; decide +kernel⟩,
   ⟨2, true, (stH.setHtState 2 3), by unfold State.noneDue; decide +kernel⟩,
   ⟨2, false, (((stH.setHtState 2 1).setFld (hostBase 2) HT_STATUS_SQ_CAUSE 1).setFlag (hostBase 2) HT_CTRL_HT_EN true),
    by unfold State.noneDue; decide +kernel⟩,
   ⟨2, 74, (stH.setHtState 2 3), by unfold State.noneDue; decide +kernel⟩,
   ⟨2, 125, (stH.setHtState 2 3), by unfold State.noneDue; decide +kernel⟩,
   ⟨2, true, (stH.setHtState 2 3), by unfold State.noneDue; decide +kernel⟩,
   ⟨2, true, (stH.setFld (hostBase 2) HT_STATUS_LOOPBACK 2), by unfold State.noneDue; decide +kernel⟩,
   ⟨2, 3, stH, by unfold State.noneDue; decide +kernel⟩⟩

theorem witness_HostReceiver :
    (∃ (m : Fin 16) (on : Bool) (s : State), s.noneDue ∧ on = false ∧ s.hostLocked m = false) ∧
    (∃ (m : Fin 16) (on : Bool) (s : State), s.noneDue ∧ on = true ∧ s.hostLocked m = false ∧ s.hostUsed m = true ∧
    s.flag (hostBase m) HR_CTRL_HR_SLEEP = false ∧ s.domOn (domHostRx m) = true ∧ s.synLocked (hostSyn m) = true ∧
    s.deepHolds (domHostRx m) = false ∧ s.host[m].signal = false) ∧
    (∃ (m : Fin 16) (s : State), s.noneDue ∧ s.hrState m ≠ 0 ∧ s.hostUsed m = true ∧
    s.flag (hostBase m) HR_CTRL_HR_EN = true ∧ s.hrAsleep m = false ∧ s.domOn (domHostRx m) = true ∧
    s.synLocked (hostSyn m) = true ∧ s.deepHolds (domHostRx m) = false ∧ s.host[m].signal = false) ∧
    (∃ (m : Fin 16) (man : Bool) (set : BitVec 3) (s : State), s.noneDue ∧ s.hostLocked m = false) ∧
    (∃ (m : Fin 16) (man : Bool) (set : BitVec 3) (s : State), s.noneDue ∧ s.hostLocked m = true ∧
    s.flag (hostBase m) HR_CTRL_CTLE_MAN ≠ man ∧ s.hostUsed m = true ∧ s.flag (hostBase m) HR_CTRL_HR_EN = true ∧
    s.hrAsleep m = false ∧ s.domOn (domHostRx m) = true) ∧
    (∃ (m : Fin 16) (r : HostAcqResult) (s : State), s.noneDue ∧ s.flag (hostBase m) HR_STATUS_LOS = false ∧
    s.host[m].clocksStopped = false ∧ s.hrState m ≠ 6 ∧ s.host[m].acqStep = 3 ∧
    s.flag (hostBase m) HR_CTRL_CTLE_MAN = true) ∧
    (∃ (m : Fin 16) (r : HostAcqResult) (s : State), s.noneDue ∧ s.flag (hostBase m) HR_STATUS_LOS = false ∧
    s.host[m].clocksStopped = false ∧ s.hrState m ≠ 6 ∧ s.host[m].acqStep = 3 ∧
    s.flag (hostBase m) HR_CTRL_CTLE_MAN = false) ∧
    (∃ (m : Fin 16) (r : HostAcqResult) (s : State), s.noneDue ∧ s.flag (hostBase m) HR_STATUS_LOS = false ∧
    s.host[m].clocksStopped = false ∧ s.hrState m ≠ 6 ∧ s.host[m].acqStep = 4) ∧
    (∃ (m : Fin 16) (r : HostAcqResult) (s : State), s.noneDue ∧ s.flag (hostBase m) HR_STATUS_LOS = false ∧
    s.host[m].clocksStopped = false ∧ (s.hrState m = 6 ∨ s.host[m].acqStep = 5) ∧ s.hostSearchDone m = true) ∧
    (∃ (m : Fin 16) (s : State), s.noneDue ∧ 3 ≤ s.host[m].acqStep ∧ s.hrState m ≠ 6 ∧
    s.flag (hostBase m) HR_STATUS_LOS = false ∧ s.host[m].clocksStopped = false) ∧
    (∃ (m : Fin 16) (s : State), s.noneDue ∧ s.host[m].signal = true ∧ s.hostLocked m = false ∧ s.hrState m ≠ 0 ∧
    s.takes (hostSrc m 0x44) s.host[m].highest) ∧
    (∃ (m : Fin 16) (s : State), s.noneDue ∧ s.hrState m = 1 ∧ s.flag (hostBase m) HR_STATUS_LOS = false ∧
    s.host[m].clocksStopped = false ∧ s.flag (hostBase m) TRAIN_CTRL_TRAIN_MODE = false) ∧
    (∃ (m : Fin 16) (s : State), s.noneDue ∧ s.hrState m ≠ 0 ∧ s.flag (hostBase m) HR_STATUS_LOS = false ∧
    s.takes (hostSrc m 0x40) 0) ∧
    (∃ (m : Fin 16) (within100ms : Bool) (s : State), s.noneDue ∧ s.flag (hostBase m) HR_STATUS_LOS = true ∧
    s.host[m].clocksStopped = false ∧ within100ms = true ∧ s.flag (hostBase m) TRAIN_CTRL_TRAIN_MODE = false) ∧
    (∃ (m : Fin 16) (v : HostRxUpdate) (s : State), s.noneDue ∧ 3 ≤ s.hrState m ∧ s.host[m].clocksStopped = false ∧
    s.hostLocked m = false ∧ (∀ k : Fin 16, s.hostLaneTask m k.val = true) ∧
    s.flag (hostBase m) HR_CTRL_FFE_FREEZE = false ∧ v.ffe.length ≤ 24) ∧
    (∃ (m : Fin 16) (v : HostRxUpdate) (s : State), s.noneDue ∧ 3 ≤ s.hrState m ∧ s.host[m].clocksStopped = false ∧
    s.roomRuns (hostRoom m) = false) ∧
    (∃ (m : Fin 16) (v : HostRxUpdate) (s : State), s.noneDue ∧ 3 ≤ s.hrState m ∧ s.roomRuns (hostRoom m) = true ∧
    s.host[m].clocksStopped = false ∧ s.hostLocked m = true ∧ v.symbols < 100 * v.errors ∧ 63 ≤ s.host[m].errRun) ∧
    (∃ (m : Fin 16) (s : State), s.noneDue ∧ s.hostLocked m = true ∧ s.takes (hostSrc m 0x41) 1) ∧
    (∃ (m : Fin 16) (s : State), s.noneDue ∧ s.hrState m = 6 ∧ s.flag (hostBase m) HR_STATUS_LOS = false ∧
    s.hostUsed m = true ∧ s.flag (hostBase m) HR_CTRL_HR_EN = true ∧ s.hrAsleep m = false ∧
    s.domOn (domHostRx m) = true ∧ s.synLocked (hostSyn m) = true ∧ s.deepHolds (domHostRx m) = false ∧
    s.host[m].signal = true ∧ s.hostLocked m = false ∧ s.flag (hostBase m) TRAIN_CTRL_TRAIN_MODE = false) ∧
    (∃ (m : Fin 16) (q : HostQuality) (s : State), s.noneDue ∧ s.hostLocked m = true ∧ s.hostLaneTask m 9 = true ∧
    s.hostLaneTask m 10 = true ∧ 25 * s.fld (hostBase m) HR_CTRL_SNR_WARN + 50 ≤ hostSnr q.symbols q.snrErr) ∧
    (∃ (m : Fin 16) (q : HostQuality) (s : State), s.noneDue ∧ s.hostLocked m = true ∧ s.hostLaneTask m 9 = true ∧
    s.host[m].snrHeld = false ∧ hostSnr q.symbols q.snrErr < 25 * s.fld (hostBase m) HR_CTRL_SNR_WARN ∧
    s.takes (hostSrc m 0x42) (hostSnr q.symbols q.snrErr)) ∧
    (∃ (m : Fin 16) (on reacq : Bool) (s : State), s.noneDue ∧ on = true ∧ s.hostLoop m = 0) ∧
    (∃ (m : Fin 16) (sel : BitVec 3) (s : State), s.noneDue ∧
    patSel (s.fld (hostBase m) HR_PAT_CTRL_CHK_SEL) = patSel sel.toNat) ∧
    (∃ (m : Fin 16) (sel : BitVec 3) (s : State), s.noneDue ∧
    patSel (s.fld (hostBase m) HR_PAT_CTRL_CHK_SEL) ≠ patSel sel.toNat ∧ s.hostLocked m = true) :=
  ⟨⟨2, false, stH, by unfold State.noneDue; decide +kernel⟩,
   ⟨2, true, stH, by unfold State.noneDue; decide +kernel⟩,
   ⟨2, (stHr 5), by unfold State.noneDue; decide +kernel⟩,
   ⟨2, true, 5, (stHr 4), by unfold State.noneDue; decide +kernel⟩,
   ⟨2, true, 5, (stHr 5), by unfold State.noneDue; decide +kernel⟩,
   ⟨2, ⟨[3, 1, 2], 0⟩,
    (((stHr 3).setFlag (hostBase 2) HR_CTRL_CTLE_MAN true).modHost 2 fun h => { h with acqStep := 3 }),
    by unfold State.noneDue; decide +kernel⟩,
   ⟨2, ⟨[3, 1, 2], 0⟩, ((stHr 3).modHost 2 fun h => { h with acqStep := 3 }), by unfold State.noneDue; decide +kernel⟩,
   ⟨2, ⟨[3, 1, 2], 0⟩, ((stHr 4).modHost 2 fun h => { h with acqStep := 4 }), by unfold State.noneDue; decide +kernel⟩,
   ⟨2, ⟨[3, 1, 2], 0⟩, ((stHr 4).modHost 2 fun h => { h with acqStep := 5 }), by unfold State.noneDue; decide +kernel⟩,
   ⟨2, ((stHr 4).modHost 2 fun h => { h with acqStep := 4 }), by unfold State.noneDue; decide +kernel⟩,
   ⟨2, ((stHr 4).modHost 2 fun h => { h with signal := true, highest := 4 }),
    by unfold State.noneDue State.takes; decide +kernel⟩,
   ⟨2, (stHr 1), by unfold State.noneDue; decide +kernel⟩,
   ⟨2, (stHr 5), by unfold State.noneDue State.takes; decide +kernel⟩,
   ⟨2, true, (((stHr 1).setFlag (hostBase 2) HR_STATUS_LOS true).modHost 2 fun h => { h with retained := some 3 }),
    by unfold State.noneDue; decide +kernel⟩,
   ⟨2, ⟨1/2, 1/100, [5, -7, 900], 200, #v[-16, 0, 16], 30, 2, 100⟩, ((stHr 4).setFlag (hostBase 2) HR_CTRL_DFE_EN true),
    by unfold State.noneDue; decide +kernel⟩,
   ⟨2, ⟨1/2, 1/100, [5, -7, 900], 200, #v[-16, 0, 16], 30, 2, 100⟩,
    { (stHr 5) with fuse := { (stHr 5).fuse with safe := true } }, by unfold State.noneDue; decide +kernel⟩,
   ⟨2, ⟨1/2, 1/100, [5, -7, 900], 200, #v[-16, 0, 16], 30, 2, 100⟩,
    ((stHr 5).modHost 2 fun h => { h with errRun := 63 }), by unfold State.noneDue; decide +kernel⟩,
   ⟨2, (stHr 5), by unfold State.noneDue State.takes; decide +kernel⟩,
   ⟨2, ((stHr 6).modHost 2 fun h => { h with signal := true }), by unfold State.noneDue; decide +kernel⟩,
   ⟨2, ⟨[(20, 3), (21, 3), (19, 3)], [], 0, 0⟩, (stHr 5).setFld (hostBase 2) HR_CTRL_SNR_WARN 60,
    by unfold State.noneDue; decide +kernel⟩,
   ⟨2, ⟨[(1, 0), (-1, 0)], [], 0, 0⟩, ((stHr 5).setFld (hostBase 2) HR_CTRL_SNR_WARN 60),
    by unfold State.noneDue State.takes; decide +kernel⟩,
   ⟨2, true, true, (stHr 5), by unfold State.noneDue; decide +kernel⟩,
   ⟨2, 6, stH, by unfold State.noneDue; decide +kernel⟩,
   ⟨2, 2, (stHr 5), by unfold State.noneDue; decide +kernel⟩⟩

theorem witness_LinkTraining :
    (∃ (m : Fin 16) (s : State), s.noneDue ∧ s.flag (hostBase m) TRAIN_CTRL_TRAIN_MODE = true ∧ 1 ≤ s.htState m ∧
    s.host[m].falling = false ∧ s.fld (hostBase m) HT_STATUS_SQ_CAUSE = 0) ∧
    (∃ (m : Fin 16) (req : TrainRequest) (tap : Int) (up : Bool) (s : State), s.noneDue ∧ s.trainState m = 1 ∧
    req = .step tap up) ∧
    (∃ (m : Fin 16) (req : TrainRequest) (k : Nat) (p q r : Int) (s : State), s.noneDue ∧ s.trainState m = 1 ∧
    req = .preset k ∧ presetTaps k = some (p, q, r)) ∧
    (∃ (m : Fin 16) (req : TrainRequest) (k : Nat) (s : State), s.noneDue ∧ s.trainState m = 1 ∧ req = .preset k ∧
    presetTaps k = none) ∧
    (∃ (m : Fin 16) (req : TrainRequest) (on : Bool) (s : State), s.noneDue ∧ s.trainState m = 1 ∧ req = .precoding on) ∧
    (∃ (m : Fin 16) (rise : Rat) (s : State), s.noneDue ∧ s.trainState m = 1 ∧ s.host[m].reqReady = false ∧
    s.hostLaneTask m 12 = true ∧ s.host[m].reqCount < 256 ∧ s.flag (hostBase m) TRAIN_CTRL_ASK_PRECODE = true ∧
    s.host[m].reqAsked = false) ∧
    (∃ (m : Fin 16) (rise : Rat) (s : State), s.noneDue ∧ s.trainState m = 1 ∧ s.host[m].reqReady = false ∧
    s.hostLaneTask m 12 = true ∧ s.host[m].reqCount < 256 ∧
    (s.flag (hostBase m) TRAIN_CTRL_ASK_PRECODE = false ∨ s.host[m].reqAsked = true) ∧ s.host[m].reqJudging = false) ∧
    (∃ (m : Fin 16) (rise : Rat) (s : State), s.noneDue ∧ s.trainState m = 1 ∧ s.host[m].reqReady = false ∧
    s.hostLaneTask m 12 = true ∧ s.host[m].reqCount < 256 ∧
    (s.flag (hostBase m) TRAIN_CTRL_ASK_PRECODE = false ∨ s.host[m].reqAsked = true) ∧ s.host[m].reqJudging = true ∧
    1 / 50 ≤ rise) ∧
    (∃ (m : Fin 16) (rise : Rat) (s : State), s.noneDue ∧ s.trainState m = 1 ∧ s.host[m].reqReady = false ∧
    s.hostLaneTask m 12 = true ∧ s.host[m].reqCount < 256 ∧
    (s.flag (hostBase m) TRAIN_CTRL_ASK_PRECODE = false ∨ s.host[m].reqAsked = true) ∧ s.host[m].reqJudging = true ∧
    rise < 1 / 50) ∧
    (∃ (m : Fin 16) (rise : Rat) (s : State), s.noneDue ∧ s.trainState m = 1 ∧ s.host[m].reqReady = false ∧
    s.hostLaneTask m 12 = true ∧ 256 ≤ s.host[m].reqCount) ∧
    (∃ (m : Fin 16) (s : State), s.noneDue ∧ s.trainState m = 1 ∧ s.host[m].reqReady = true ∧ s.htState m = 2 ∧
    s.hrState m = 2) ∧
    (∃ (m : Fin 16) (s : State), s.noneDue ∧ s.trainState m = 1 ∧ s.htState m = 2 ∧ s.hrState m = 2) :=
  ⟨⟨2, (((stHr 5).setFlag (hostBase 2) TRAIN_CTRL_TRAIN_MODE true).setHtState 2 3),
    by unfold State.noneDue; decide +kernel⟩,
   ⟨2, (.step 0 false), 0, false,
    ((stH.setFld (hostBase 2) TRAIN_STATUS_TRAIN_STATE 1).setHostTaps 2 HT_FIR_CUR [0, 0, 64, 0, 0]),
    by unfold State.noneDue; decide +kernel⟩,
   ⟨2, .preset 3, 3, -8, 52, -4,
    ((stH.setFld (hostBase 2) TRAIN_STATUS_TRAIN_STATE 1).setHostTaps 2 HT_FIR_CUR [0, 0, 64, 0, 0]),
    by unfold State.noneDue; decide +kernel⟩,
   ⟨2, .preset 9, 9, ((stH.setFld (hostBase 2) TRAIN_STATUS_TRAIN_STATE 1).setHostTaps 2 HT_FIR_CUR [0, 0, 64, 0, 0]),
    by unfold State.noneDue; decide +kernel⟩,
   ⟨2, (.precoding true), true, (stH.setFld (hostBase 2) TRAIN_STATUS_TRAIN_STATE 1),
    by unfold State.noneDue; decide +kernel⟩,
   ⟨2, 0, ((stH.setFld (hostBase 2) TRAIN_STATUS_TRAIN_STATE 1).setFlag (hostBase 2) TRAIN_CTRL_ASK_PRECODE true),
    by unfold State.noneDue; decide +kernel⟩,
   ⟨2, 0, (stH.setFld (hostBase 2) TRAIN_STATUS_TRAIN_STATE 1), by unfold State.noneDue; decide +kernel⟩,
   ⟨2, (1/50), ((stH.setFld (hostBase 2) TRAIN_STATUS_TRAIN_STATE 1).modHost 2 fun h => { h with reqJudging := true }),
    by unfold State.noneDue; decide +kernel⟩,
   ⟨2, (1/51),
    ((stH.setFld (hostBase 2) TRAIN_STATUS_TRAIN_STATE 1).modHost 2 fun h => { h with reqJudging := true, reqTap := 2 }),
    by unfold State.noneDue; decide +kernel⟩,
   ⟨2, (1/51), ((stH.setFld (hostBase 2) TRAIN_STATUS_TRAIN_STATE 1).modHost 2 fun h => { h with reqCount := 256 }),
    by unfold State.noneDue; decide +kernel⟩,
   ⟨2,
    (((stHr 2).setFld (hostBase 2) TRAIN_STATUS_TRAIN_STATE 1).setHtState 2 2 |>.modHost 2 fun h => { h with reqReady := true }),
    by unfold State.noneDue; decide +kernel⟩,
   ⟨2, (((stHr 2).setFld (hostBase 2) TRAIN_STATUS_TRAIN_STATE 1).setHtState 2 2),
    by unfold State.noneDue; decide +kernel⟩⟩

theorem witness_DomainEntryAndWake :
    (∃ (d : Fin 72) (due : Nat) (s : State), s.noneDue ∧ (d.val, due) ∈ s.power.lingering ∧ due ≤ s.tick ∧
    s.heldVotes d.val = 0 ∧ s.domOn d.val = true) ∧
    (∃ (d : Fin 72) (s : State), s.noneDue ∧ s.fld powerBase (DOM_STATE.ix d.val) = 2 ∧
    s.power.undoing.contains d.val = false ∧ s.fld powerBase (DOM_STEP.ix d.val) = 0 ∧ s.heldVotes d.val = 0 ∧
    s.power.wakeAfter.contains d.val = false ∧ isLineDom d.val = false ∧ isHostDom d.val = false) ∧
    (∃ (d : Fin 72) (s : State), s.noneDue ∧ s.fld powerBase (DOM_STATE.ix d.val) = 2 ∧
    s.power.undoing.contains d.val = false ∧ s.fld powerBase (DOM_STEP.ix d.val) = 0 ∧ s.heldVotes d.val ≠ 0 ∧
    s.inDeep = false) ∧
    (∃ (d : Fin 72) (k : Nat) (s : State), s.noneDue ∧ s.fld powerBase (DOM_STATE.ix d.val) = 2 ∧
    s.power.undoing.contains d.val = false ∧ s.fld powerBase (DOM_STEP.ix d.val) = k ∧ 1 ≤ k ∧ k ≤ 2 ∧
    s.power.wakeAfter.contains d.val = false) ∧
    (∃ (d : Fin 72) (k : Nat) (s : State), s.noneDue ∧ s.fld powerBase (DOM_STATE.ix d.val) = 2 ∧
    s.power.undoing.contains d.val = false ∧ s.fld powerBase (DOM_STEP.ix d.val) = k ∧ 2 ≤ k ∧ k ≤ 3 ∧
    s.power.wakeAfter.contains d.val = true) ∧
    (∃ (d : Fin 72) (s : State), s.noneDue ∧ s.fld powerBase (DOM_STATE.ix d.val) = 2 ∧
    s.power.undoing.contains d.val = false ∧ s.fld powerBase (DOM_STEP.ix d.val) = 4 ∧
    s.power.wakeAfter.contains d.val = true) ∧
    (∃ (d : Fin 72) (s : State), s.noneDue ∧ s.fld powerBase (DOM_STATE.ix d.val) = 2 ∧
    s.power.undoing.contains d.val = false ∧ s.fld powerBase (DOM_STEP.ix d.val) = 5 ∧
    s.power.wakeAfter.contains d.val = false ∧
    (s.fld powerBase PWR_STATE_STATE = 1 ∨ (s.fld powerBase PWR_STATE_STATE = 0 ∧
    s.power.next = none) ∨ s.fld powerBase PWR_STATE_STATE = 3)) ∧
    (∃ (d : Fin 72) (s : State), s.noneDue ∧ domVotable d.val = true ∧ s.fld powerBase (DOM_STATE.ix d.val) = 3 ∧
    s.fld powerBase PWR_STATE_STATE ≠ 2) ∧
    (∃ (d : Fin 72) (s : State), s.noneDue ∧ s.power.undoing.contains d.val = true ∧
    s.fld powerBase (DOM_STATE.ix d.val) = 2 ∧ s.heldVotes d.val ≠ 0 ∧
    s.flag powerBase ((voteBit voteAccess).ix d.val) = false ∧ s.power.stalled = [] ∧ s.link.inbox = [] ∧
    s.inDeep = false ∧ s.fld powerBase PWR_STATE_STATE = 0 ∧ s.power.next = none) ∧
    (∃ (d : Fin 72) (lostBanks : List (BitVec 9)) (regLost : Bool) (s : State), s.noneDue ∧
    s.fld powerBase (DOM_STATE.ix d.val) = 4 ∧ s.heldVotes d.val ≠ 0 ∧ s.inDeep = false ∧
    s.fld powerBase PWR_STATE_STATE = 0 ∧ s.power.next = none ∧
    s.flag powerBase ((voteBit voteAccess).ix d.val) = false ∧ s.power.stalled = [] ∧ s.link.inbox = [] ∧
    lostBanks = [] ∧ regLost = false) ∧
    (∃ (d : Fin 72) (s : State), s.noneDue ∧ s.fld powerBase (DOM_STATE.ix d.val) = 4 ∧ s.takes 0x5004 d.val ∧
    s.power.stalled = [] ∧ s.link.inbox = []) ∧
    (∃ (mask : Byte) (s : State), s.noneDue) :=
  ⟨⟨9, 990, ({ stCmd with power := { stCmd.power with lingering := [(9, 990)] } } |>.setReg (powerBase + 0x324) 0),
    by unfold State.noneDue; decide +kernel⟩,
   ⟨56, ((stCmd.setDom 56 2 0).setReg (powerBase + 0x3E0) 0), by unfold State.noneDue; decide +kernel⟩,
   ⟨9, ((stCmd.setDom 9 2 0).setReg (powerBase + 0x324) 1), by unfold State.noneDue; decide +kernel⟩,
   ⟨9, 1, (stCmd.setDom 9 2 1), by unfold State.noneDue; decide +kernel⟩,
   ⟨9, 3, ({ (stCmd.setDom 9 2 3) with power := { stCmd.power with wakeAfter := [9] } }),
    by unfold State.noneDue; decide +kernel⟩,
   ⟨9, ({ (stCmd.setDom 9 2 4) with power := { stCmd.power with wakeAfter := [9] } }),
    by unfold State.noneDue; decide +kernel⟩,
   ⟨9, (stCmd.setDom 9 2 5), by unfold State.noneDue; decide +kernel⟩,
   ⟨9, (stCmd.setDom 9 3 0), by unfold State.noneDue; decide +kernel⟩,
   ⟨9, ({ ((stCmd.setDom 9 2 3).setReg (powerBase + 0x324) 1) with power := { stCmd.power with undoing := [9] } }),
    by unfold State.noneDue; decide +kernel⟩,
   ⟨9, ([]), false, ((stCmd.setDom 9 4 2).setReg (powerBase + 0x324) 1), by unfold State.noneDue; decide +kernel⟩,
   ⟨9, (stCmd.setDom 9 4 2), by unfold State.noneDue State.takes; decide +kernel⟩,
   ⟨0x81, stCmd, by unfold State.noneDue; decide +kernel⟩⟩

theorem witness_DeviceStates :
    (∃ (s : State), s.noneDue ∧ s.fld powerBase PWR_STATE_STATE = 1) ∧
    (∃ (s : State), s.noneDue ∧ s.power.deepExit = false ∧ s.power.deepStep = 2) ∧
    (∃ (s : State), s.noneDue ∧ s.power.deepExit = false ∧ s.power.deepStep = 3) ∧
    (∃ (s : State), s.noneDue ∧ s.power.deepExit = false ∧ s.power.deepStep = 4 ∧
    (∀ n : Fin 8, s.domOn (domLineRx n) = false)) ∧
    (∃ (s : State), s.noneDue ∧ s.power.deepExit = false ∧ s.power.deepStep = 5) ∧
    (∃ (s : State), s.noneDue ∧ s.inDeep = true ∧ s.wakeDue = true ∧ s.power.deepExit = false) ∧
    (∃ (lostBanks : List (BitVec 9)) (s : State), s.noneDue ∧ s.inDeep = true ∧ s.power.deepExit = true ∧
    s.deepReady = true ∧ s.domOn 1 = true ∧ s.power.stalled = [] ∧ s.link.inbox = []) ∧
    (∃ (ao : BitVec 16) (i : Rat) (s : State), s.noneDue ∧ s.inDeep = true ∧ s.power.deepStep = 0 ∧
    s.clock.running = false ∧ ao.toNat ≤ shutRise ∧ s.flag powerBase AO_STATUS_REG_LP = true ∧ i = interpolate
    retentionTable (codeCelsius ao.toNat + (bitsInt 7 (s.fld powerBase AO_STATUS_OFFSET) : Rat) / 2 + 5)) :=
  ⟨⟨(stCmd.setFld powerBase PWR_STATE_STATE 1), by unfold State.noneDue; decide +kernel⟩,
   ⟨({ stReady with power := { stReady.power with deepStep := 2 } }), by unfold State.noneDue; decide +kernel⟩,
   ⟨({ stReady with power := { stReady.power with deepStep := 3 } }), by unfold State.noneDue; decide +kernel⟩,
   ⟨({ stReady.deepEntries with power := { stReady.deepEntries.power with deepStep := 4 } }),
    by unfold State.noneDue; decide +kernel⟩,
   ⟨({ stReady with power := { stReady.power with deepStep := 5 } }), by unfold State.noneDue; decide +kernel⟩,
   ⟨{ (((stCmd.setDom 9 3 0).setFld powerBase PWR_STATE_STATE 3).setFld powerBase DEEP_CTRL_WAKE_TIMER 5) with power := { stCmd.power with deepMicros := 5000000 } },
    by unfold State.noneDue; decide +kernel⟩,
   ⟨([]), ({ (stCmd.setFld powerBase PWR_STATE_STATE 3) with power := { stCmd.power with deepExit := true } }),
    by unfold State.noneDue; decide +kernel⟩,
   ⟨40000, (interpolate retentionTable (codeCelsius 40000 + 5)),
    ({ ((stCmd.setFld powerBase PWR_STATE_STATE 3).setFlag powerBase AO_STATUS_REG_LP true) with clock := { stCmd.clock with running := false } }),
    by unfold State.noneDue; decide +kernel⟩⟩

theorem witness_HousekeepingConversions :
    (∃ (s : State), s.noneDue ∧ s.flag hkBase HK_STATUS_ROUND_BUSY = false ∧ s.domOn domHk = true ∧
    s.deepHolds domHk = false ∧ s.hk.roundDue ≤ s.tick ∧ s.hk.late = none) ∧
    (∃ (micros : Nat) (s : State), s.noneDue ∧ s.flag hkBase HK_STATUS_ROUND_BUSY = false ∧ s.domOn domHk = true ∧
    s.deepHolds domHk = false ∧ s.hk.roundDue ≤ s.tick ∧ s.hk.late = some micros ∧ s.takes 0x6103 (satNat 16 micros)) ∧
    (∃ (volts other vref : Rat) (r : HkRound) (ch : Nat) (s : State), s.noneDue ∧ s.hk.round = some r ∧
    r.done < r.channels.length * 16 ∧ ch = r.channels.getD (r.done % r.channels.length) 0 ∧ ch < 32 ∧
    s.afterOver ch = false) ∧
    (∃ (volts other vref : Rat) (r : HkRound) (ch : Nat) (s : State), s.noneDue ∧ s.hk.round = some r ∧
    r.done < r.channels.length * 16 ∧ ch = r.channels.getD (r.done % r.channels.length) 0 ∧ s.afterOver ch = true) ∧
    (∃ (r : HkRound) (ch : Nat) (s : State), s.noneDue ∧ s.hk.round = some r ∧ r.channels.length * 16 ≤ r.done ∧
    (∀ x ∈ r.channels, x < 32) ∧ r.ovr = [] ∧ 25 ∉ r.channels ∧ ch ∈ r.channels) ∧
    (∃ (k : Fin 8) (s : State), s.noneDue ∧ s.trigOn k = true ∧ s.trigSrc k = 0 ∧ s.trigPeriod k ≠ 0 ∧
    s.timerDue k ≤ s.tick ∧ s.trigFld TRIG_CFG_URGENT k = 0 ∧ s.hk.queue.length < 8) ∧
    (∃ (k : Fin 8) (busy : Bool) (e : Nat × Nat) (s : State), s.noneDue ∧
    s.hk.strobes.find? (fun x => x.1 == k.val) = some e ∧ s.trigFld TRIG_CFG_URGENT k = 0 ∧ s.hk.queue.length < 8) ∧
    (∃ (k : Fin 8) (busy : Bool) (e : Nat × Nat) (s : State), s.noneDue ∧
    s.hk.strobes.find? (fun x => x.1 == k.val) = some e ∧ s.trigFld TRIG_CFG_URGENT k = 1 ∧
    (busy = false ∨ 79 ≤ s.trigFld TRIG_CFG_DELAY k) ∧
    (∀ x ∈ s.hk.urgent, urgentClash x.2 ((e.2 + 5 * s.trigFld TRIG_CFG_DELAY k) % 2 ^ 64) = false)) ∧
    (∃ (k : Fin 8) (busy : Bool) (e : Nat × Nat) (s : State), s.noneDue ∧
    s.hk.strobes.find? (fun x => x.1 == k.val) = some e ∧ s.trigFld TRIG_CFG_URGENT k = 1 ∧ busy = true ∧
    s.trigFld TRIG_CFG_DELAY k < 79 ∧ s.takes 0x6100 k.val) ∧
    (∃ (k : Fin 8) (busy : Bool) (e : Nat × Nat) (s : State), s.noneDue ∧
    s.hk.strobes.find? (fun x => x.1 == k.val) = some e ∧ s.trigFld TRIG_CFG_URGENT k = 0 ∧ 8 ≤ s.hk.queue.length ∧
    s.takes 0x6101 k.val) ∧
    (∃ (k : Fin 8) (volts other vref : Rat) (instant : Nat) (rest : List (Nat × Nat)) (ch : Nat) (s : State), s.noneDue
    ∧ (∀ e ∈ s.hk.urgent, e.1 ≠ k.val) ∧ s.hk.queue = (k.val, instant) :: rest ∧ rest.length < 8 ∧
    ch = s.trigFld TRIG_CFG_CHANNEL k) :=
  ⟨⟨stCmd, by unfold State.noneDue; decide +kernel⟩,
   ⟨70, { stCmd with hk := { stCmd.hk with late := some 70 } }, by unfold State.noneDue State.takes; decide +kernel⟩,
   ⟨(6/10), 0, 1, (⟨false, [16, 29], 3, Vector.replicate 32 0, [], 0⟩), 29,
    ({ stCmd with hk := { stCmd.hk with round := some ⟨false, [16, 29], 3, Vector.replicate 32 0, [], 0⟩ } }),
    by unfold State.noneDue; decide +kernel⟩,
   ⟨(6/10), 0, 1, (⟨false, [16, 29], 3, Vector.replicate 32 0, [], 0⟩), 29,
    ({ stCmd with hk := { stCmd.hk with prevOver := some 16, round := some ⟨false, [16, 29], 3, Vector.replicate 32 0, [], 0⟩ } }),
    by unfold State.noneDue; decide +kernel⟩,
   ⟨(⟨false, (List.range 9).map (16 + ·), 144, Vector.replicate 32 330000, [], 0⟩), 17,
    ({ stCmd with hk := { stCmd.hk with round := some ⟨false, (List.range 9).map (16 + ·), 144, Vector.replicate 32 330000, [], 0⟩ } }),
    by unfold State.noneDue; decide +kernel⟩,
   ⟨3, ((stCmd.setFld hkBase (TRIG_CFG_EN.ix 3) 1).setFld hkBase (TRIG_PERIOD_PERIOD.ix 3) 5),
    by unfold State.noneDue; decide +kernel⟩,
   ⟨3, true, (3, 5000),
    { ((stCmd.setFld hkBase (TRIG_CFG_EN.ix 3) 1).setFld hkBase (TRIG_CFG_SRC.ix 3) 2) with hk := { stCmd.hk with strobes := [(3, 5000)] } },
    by unfold State.noneDue; decide +kernel⟩,
   ⟨3, false, (3, 5000),
    { (((stCmd.setFld hkBase (TRIG_CFG_EN.ix 3) 1).setFld hkBase (TRIG_CFG_SRC.ix 3) 2).setFld hkBase (TRIG_CFG_URGENT.ix 3) 1) with hk := { stCmd.hk with strobes := [(3, 5000)], urgent := [(1, 9000)] } },
    by unfold State.noneDue; decide +kernel⟩,
   ⟨3, true, (3, 5000),
    { (((stCmd.setFld hkBase (TRIG_CFG_EN.ix 3) 1).setFld hkBase (TRIG_CFG_SRC.ix 3) 2).setFld hkBase (TRIG_CFG_URGENT.ix 3) 1) with hk := { stCmd.hk with strobes := [(3, 5000)] } },
    by unfold State.noneDue State.takes; decide +kernel⟩,
   ⟨3, false, (3, 5000),
    { ((stCmd.setFld hkBase (TRIG_CFG_EN.ix 3) 1).setFld hkBase (TRIG_CFG_SRC.ix 3) 2) with hk := { stCmd.hk with strobes := [(3, 5000)], queue := List.replicate 8 (1, 2) } },
    by unfold State.noneDue State.takes; decide +kernel⟩,
   ⟨3, 5, 0, 1, 77, ([(1,2)]), 0,
    ({ stCmd with hk := { stCmd.hk with queue := [(3, 77), (1, 2)], taken := Vector.replicate 8 6 } }),
    by unfold State.noneDue; decide +kernel⟩⟩

theorem witness_ControlDacAndFilterChains :
    (∃ (c : Fin 32) (q : Nat) (rest : List Nat) (s : State), s.noneDue ∧ s.cdac[c].rateNext = none ∧ s.cdState c = 1 ∧
    s.flag (cdBase c) CD_CFG_EN = true ∧ s.cdac[c].queue = q :: rest ∧ q ≤ 0x3FFF ∧ injInstance c = none) ∧
    (∃ (c : Fin 32) (s : State), s.noneDue ∧ s.cdac[c].rateNext = none ∧ s.cdState c = 3 ∧ injInstance c = none) ∧
    (∃ (c : Fin 32) (i : Fin 8) (a : List Byte × Bool × Bool × Nat) (s : State), s.noneDue ∧ s.cdac[c].rateNext = none ∧
    s.cdState c = 1 ∧ s.flag (cdBase c) CD_CFG_EN = true ∧ s.cdac[c].queue = [] ∧ injInstance c = some i ∧
    s.tamid[i].air = some a ∧ s.tamidLoop i ≠ 1 ∧ s.cdStep c = 16383 ∧
    0 ≤ (s.fld (cdBase c) CD_CODES_TARGET : Int) + s.injection i ∧
    (s.fld (cdBase c) CD_CODES_TARGET : Int) + s.injection i ≤ 0x3FFF) ∧
    (∃ (c : Fin 32) (g : Bool) (s : State), s.noneDue ∧ s.cdac[c].clampEngaged = true ∧ s.cdac[c].rangeTo = some g ∧
    s.flag (cdBase c) CD_CFG_EN = true ∧ s.fuse.safe = false) ∧
    (∃ (j : Fin 24) (s : State), s.noneDue ∧ s.chainOwned j = false ∧ s.flag (mcBase j) MC_CTRL_START_ON_SYNC = false ∧
    s.chainRuns j = false ∧ s.flag (mcBase j) MC_STATUS_LOST = false ∧ s.domOn (chainDomain j.val) = true) ∧
    (∃ (j : Fin 24) (s : State), s.noneDue ∧ s.chainOwned j = true) ∧
    (∃ (j : Fin 24) (s : State), s.noneDue ∧ s.chainOwned j = false) ∧
    (∃ (j : Fin 24) (s : State), s.noneDue ∧ s.chainOwned j = false ∧ s.flag (mcBase j) MC_STATUS_FADING = false ∧
    s.chainRuns j = true) ∧
    (∃ (j : Fin 24) (s : State), s.noneDue ∧ s.chainOwned j = false ∧ s.flag (mcBase j) MC_STATUS_FADING = false ∧
    s.chainRuns j = false ∧ s.fld (mcBase j) MC_STATUS_ACTIVE_BANK ≤ 1) ∧
    (∃ (j : Fin 24) (s : State), s.noneDue ∧ s.chainOwned j = false ∧ s.flag (mcBase j) MC_STATUS_FADING = true) ∧
    (∃ (j : Fin 24) (offset : BitVec 11) (value : Word) (s : State), s.noneDue ∧ s.chainOwned j = false ∧
    s.chainRuns j = false ∧ offset.toNat = MC_CFG_SEL.off) ∧
    (∃ (j : Fin 24) (offset : BitVec 11) (value : Word) (s : State), s.noneDue ∧ s.chainOwned j = false ∧
    s.chainRuns j = false ∧ 0x200 ≤ offset.toNat ∧ offset.toNat < 0x600 ∧ offset.toNat % 4 = 0) ∧
    (∃ (j : Fin 24) (offset : BitVec 11) (value : Word) (s : State), s.noneDue ∧
    (s.chainOwned j = true ∨ s.chainRuns j = true)) ∧
    (∃ (j : Fin 24) (on : Bool) (s : State), s.noneDue ∧ s.chainOwned j = false ∧ on = true ∧ s.chainRuns j = true ∧
    s.flag (mcBase j) MC_STATUS_FALLBACK = false ∧ s.fallbackFree j = true) ∧
    (∃ (j : Fin 24) (on : Bool) (s : State), s.noneDue ∧ s.chainOwned j = false ∧ on = false) ∧
    (∃ (j : Fin 24) (samples : List (List Int)) (y : ChainFilter × Rat) (value : Int) (s : State), s.noneDue ∧
    s.chainRuns j = true ∧ samples.length = 4 * s.cicR j ∧
    y = s.chainOut j (samples.map (chainInput (!s.chainOwned j && s.flag (mcBase j) MC_CFG_SEL))) ∧
    value = quantise (256 * y.2) ∧ 0 < s.chain[j].settling) ∧
    (∃ (j : Fin 24) (samples : List (List Int)) (y : ChainFilter × Rat) (value : Int) (s : State), s.noneDue ∧
    s.chainRuns j = true ∧ samples.length = 4 * s.cicR j ∧
    y = s.chainOut j (samples.map (chainInput (!s.chainOwned j && s.flag (mcBase j) MC_CFG_SEL))) ∧
    value = quantise (256 * y.2) ∧ s.chain[j].settling = 0 ∧ s.fld (mcBase j) MC_PEAK_PEAK < 2 ^ 23) ∧
    (∃ (j : Fin 24) (s : State), s.noneDue ∧ s.flag (mcBase j) MC_STATUS_FADING = true ∧
    s.fld (mcBase j) MC_STATUS_ACTIVE_BANK ≤ 1) ∧
    (∃ (j : Fin 24) (s : State), s.noneDue ∧ s.chain[j].faulted = false ∧ s.flag (mcBase j) MC_STATUS_LOST = false ∧
    s.flag (mcBase j) MC_STATUS_FALLBACK = false ∧ s.fallbackFree j = true ∧ s.takes (0x6110 + j.val) 0) ∧
    (∃ (j : Fin 24) (s : State), s.noneDue ∧ s.chain[j].faulted = false ∧ s.flag (mcBase j) MC_STATUS_LOST = false ∧
    s.flag (mcBase j) MC_STATUS_FALLBACK = false ∧ s.fallbackFree j = false ∧ s.takes (0x6110 + j.val) 1) :=
  ⟨⟨5, 900, ([7]), stCd, by unfold State.noneDue; decide +kernel⟩,
   ⟨5, (stCd.setCdState 5 3), by unfold State.noneDue; decide +kernel⟩,
   ⟨6, 2, ([1], false, false, 4), stAir, by unfold State.noneDue; decide +kernel, by decide +kernel, by decide +kernel,
    by decide +kernel, by decide +kernel, by decide +kernel, by decide +kernel, by decide +kernel, by decide +kernel,
    by rw [injection_of_no_oma stAir 2 (by decide +kernel)]; decide +kernel,
    by rw [injection_of_no_oma stAir 2 (by decide +kernel)]; decide +kernel⟩,
   ⟨5, true, (stCd.modCdac 5 fun x => { x with rangeTo := some true, clampEngaged := true }),
    by unfold State.noneDue; decide +kernel⟩,
   ⟨5, stCmd, by unfold State.noneDue; decide +kernel⟩,
   ⟨5, (stCmd.setFlag (mcBase 5) MC_STATUS_OWNED true), by unfold State.noneDue; decide +kernel⟩,
   ⟨5, (stCmd.setFlag (mcBase 5) MC_STATUS_RUNNING true), by unfold State.noneDue; decide +kernel⟩,
   ⟨5, (stCmd.setFlag (mcBase 5) MC_STATUS_RUNNING true), by unfold State.noneDue; decide +kernel⟩,
   ⟨5, stCmd, by unfold State.noneDue; decide +kernel⟩,
   ⟨5, (stCmd.setFlag (mcBase 5) MC_STATUS_FADING true), by unfold State.noneDue; decide +kernel⟩,
   ⟨5, (BitVec.ofNat 11 MC_CFG_SEL.off), 0xFFFFFFFF, stCmd, by unfold State.noneDue; decide +kernel⟩,
   ⟨5, 0x5FC, 0xFFFFFFFF, stCmd, by unfold State.noneDue; decide +kernel⟩,
   ⟨5, 0x5FC, 0xFFFFFFFF, (stCmd.setFlag (mcBase 5) MC_STATUS_RUNNING true), by unfold State.noneDue; decide +kernel⟩,
   ⟨5, true, ((stCmd.setFlag (mcBase 5) MC_STATUS_RUNNING true).setFld (mcBase 5) MC_CFG_CIC_R 64),
    by unfold State.noneDue; decide +kernel⟩,
   ⟨5, false, stCmd, by unfold State.noneDue; decide +kernel⟩,
   ⟨5, List.replicate 256 [1, 2], _, _,
    ({ (stCmd.setFlag (mcBase 5) MC_STATUS_RUNNING true) with chain := stCmd.chain.set 5 { stCmd.chain[5] with settling := 3 } }),
    by unfold State.noneDue; decide +kernel, by decide +kernel, by decide +kernel, rfl, rfl, by decide +kernel⟩,
   ⟨5, List.replicate 256 [1, 2], _, _,
    ({ (stCmd.setFlag (mcBase 5) MC_STATUS_RUNNING true) with chain := stCmd.chain.set 5 { stCmd.chain[5] with settling := 0 } }),
    by unfold State.noneDue; decide +kernel, by decide +kernel, by decide +kernel, rfl, rfl, by decide +kernel,
    by decide +kernel⟩,
   ⟨5, (stCmd.setFlag (mcBase 5) MC_STATUS_FADING true), by unfold State.noneDue; decide +kernel⟩,
   ⟨5, ((stCmd.setFlag (mcBase 5) MC_STATUS_RUNNING true).setFld (mcBase 5) MC_CFG_CIC_R 64),
    by unfold State.noneDue State.takes; decide +kernel⟩,
   ⟨5, ((stCmd.setFlag (mcBase 5) MC_STATUS_RUNNING true).setFld (mcBase 5) MC_CFG_CIC_R 16),
    by unfold State.noneDue State.takes; decide +kernel⟩⟩

theorem witness_TamidStatesAndSending :
    (∃ (i : Fin 8) (spectrum : List (Rat × Rat)) (g : TamidTarget) (s : State), s.noneDue ∧ s.tamid[i].target = some g ∧
    s.tamid[i].air = none ∧ g.st = 1 ∧ s.tamidState i = 0 ∧ s.domOn domTamid = true) ∧
    (∃ (i : Fin 8) (spectrum : List (Rat × Rat)) (g : TamidTarget) (s : State), s.noneDue ∧ s.tamid[i].target = some g ∧
    s.tamid[i].air = none ∧ g.st = 3 ∧ s.tamidState i = 1) ∧
    (∃ (i : Fin 8) (spectrum : List (Rat × Rat)) (g : TamidTarget) (s : State), s.noneDue ∧ s.tamid[i].target = some g ∧
    s.tamid[i].air = none ∧ (g.st = 4 ∨ g.st = 5) ∧ s.tamidState i = 2 ∧ s.tamid[i].passed ≠ some g.fsk4 ∧
    s.tamidWorks i false = true ∧ s.shapeHolds i = true ∧ (s.maskExcess i spectrum).getD 0 ≤ 0) ∧
    (∃ (i : Fin 8) (spectrum : List (Rat × Rat)) (x : Rat) (g : TamidTarget) (s : State), s.noneDue ∧
    s.tamid[i].target = some g ∧ s.tamid[i].air = none ∧ (g.st = 4 ∨ g.st = 5) ∧ s.tamidState i = 2 ∧
    s.tamid[i].passed ≠ some g.fsk4 ∧ s.tamidWorks i false = true ∧ s.maskExcess i spectrum = some x ∧ 0 < x ∧
    s.takes (tamidSrc i 0x03) (s.maskDetail i spectrum)) ∧
    (∃ (i : Fin 8) (spectrum : List (Rat × Rat)) (p : List Byte) (rest : List (List Byte)) (s : State), s.noneDue ∧
    s.tamid[i].target = none ∧ s.tamid[i].air = none ∧ s.tamid[i].host = none ∧ s.tamid[i].own = p :: rest ∧
    s.fuse.safe = false ∧ (s.tamidState i = 4 ∨ s.tamidState i = 5) ∧ s.tamidWorks i false = true) ∧
    (∃ (i : Fin 8) (spectrum : List (Rat × Rat)) (h : TamidSend) (s : State), s.noneDue ∧ s.tamid[i].target = none ∧
    s.tamid[i].air = none ∧ s.tamid[i].host = some h ∧ s.fuse.safe = false ∧ (s.tamidState i = 4 ∨ s.tamidState i = 5) ∧
    s.tamidWorks i false = true ∧ h.origin.via = .bus ∧ s.link.outbox.length < 4 ∧ s.link.waiting = []) ∧
    (∃ (i : Fin 8) (p : List Byte) (a : Bool × Bool × Nat) (s : State), s.noneDue ∧ s.tamid[i].air = some (p, a) ∧
    s.tamid[i].backTo = none) ∧
    (∃ (i : Fin 8) (p : List Byte) (a : Bool × Bool × Nat) (back : Nat) (s : State), s.noneDue ∧
    s.tamid[i].air = some (p, a) ∧ s.tamid[i].backTo = some back ∧ back ≤ 5) ∧
    (∃ (i : Fin 8) (back : Nat) (s : State), s.noneDue ∧ s.tamid[i].air = none ∧ s.tamid[i].backTo = some back ∧
    back ≤ 5) ∧
    (∃ (i : Fin 8) (j : Fin 192) (value : BitVec 16) (s : State), s.noneDue ∧ s.tamidState i ≤ 1) ∧
    (∃ (i : Fin 8) (j : Fin 192) (value : BitVec 16) (s : State), s.noneDue ∧ 2 ≤ s.tamidState i) :=
  ⟨⟨2, [], (⟨5, true, 3, false, 1⟩), (stCmd.modTamid 2 fun x => { x with target := some ⟨5, true, 3, false, 1⟩ }),
    by unfold State.noneDue; decide +kernel⟩,
   ⟨2, [], (⟨5, true, 3, false, 3⟩), ((stTm 1).modTamid 2 fun x => { x with target := some ⟨5, true, 3, false, 3⟩ }),
    by unfold State.noneDue; decide +kernel⟩,
   ⟨2, [], (⟨5, true, 3, false, 4⟩), ((stTm 2).modTamid 2 fun x => { x with target := some ⟨5, true, 3, false, 4⟩ }),
    by unfold State.noneDue; decide +kernel⟩,
   ⟨2, [(150, 39)], 1, (⟨5, true, 3, false, 4⟩),
    ((stTm 2).modTamid 2 fun x => { x with target := some ⟨5, true, 3, false, 4⟩ }),
    by unfold State.noneDue State.takes; decide +kernel⟩,
   ⟨2, [], ([1, 2]), ([[3]]), ((stTm 4).modTamid 2 fun x => { x with own := [[1, 2], [3]] }),
    by unfold State.noneDue; decide +kernel⟩,
   ⟨2, [], (⟨[1, 2], oB, 990⟩), ((stTm 4).modTamid 2 fun x => { x with host := some ⟨[1, 2], oB, 990⟩ }),
    by unfold State.noneDue; decide +kernel⟩,
   ⟨2, ([1, 2]), (true, false, 4), ((stTm 4).modTamid 2 fun x => { x with air := some ([1, 2], true, false, 4) }),
    by unfold State.noneDue; decide +kernel⟩,
   ⟨2, ([1, 2]), (true, false, 4), 3,
    ((stTm 4).modTamid 2 fun x => { x with air := some ([1, 2], true, false, 4), backTo := some 3 }),
    by unfold State.noneDue; decide +kernel⟩,
   ⟨2, 3, ((stTm 4).modTamid 2 fun x => { x with backTo := some 3 }), by unfold State.noneDue; decide +kernel⟩,
   ⟨2, 191, 65535, (stTm 1), by unfold State.noneDue; decide +kernel⟩,
   ⟨2, 191, 65535, (stTm 2), by unfold State.noneDue; decide +kernel⟩⟩

theorem witness_TamidReceivingAndCalibration :
    (∃ (i : Fin 8) (level : Rat) (s : State), s.noneDue ∧ s.tamidListens i = true ∧ s.tamid[i].rx = none) ∧
    (∃ (i : Fin 8) (corr level : Rat) (s : State), s.noneDue ∧ s.tamidListens i = true ∧ s.tamid[i].rx = none ∧
    ((max 4 (s.fld (tamidBase i) TM_CTRL_DET_THR) : Nat) : Rat) / 16 < corr) ∧
    (∃ (i : Fin 8) (word : BitVec 32) (afc : Int) (delay : Nat) (r : TamidRx) (s : State), s.noneDue ∧
    s.tamid[i].rx = some r ∧ r.synced = false ∧ s.tamidListens i = true ∧ (29 ≤ syncAgree word ∨ syncAgree word ≤ 3)) ∧
    (∃ (i : Fin 8) (word : BitVec 32) (afc : Int) (delay : Nat) (r : TamidRx) (s : State), s.noneDue ∧
    s.tamid[i].rx = some r ∧ 3 < syncAgree word ∧ syncAgree word < 29) ∧
    (∃ (i : Fin 8) (r : TamidRx) (s : State), s.noneDue ∧ s.tamid[i].rx = some r ∧ r.synced = false) ∧
    (∃ (i : Fin 8) (raw : List Byte) (r : TamidRx) (p : List Byte) (s : State), s.noneDue ∧ s.tamid[i].rx = some r ∧
    r.synced = true ∧ s.tamidListens i = true ∧ packetPayload raw = some p ∧ (p.headD 0).toNat < 0xC0 ∧
    s.tamid[i].queue.length < 8) ∧
    (∃ (i : Fin 8) (raw : List Byte) (r : TamidRx) (p : List Byte) (s : State), s.noneDue ∧ s.tamid[i].rx = some r ∧
    r.synced = true ∧ s.tamidListens i = true ∧ packetPayload raw = some p ∧ 0xC1 ≤ (p.headD 0).toNat ∧
    (p.headD 0).toNat ≤ 0xC3 ∧ s.flag pantryBase PANTRY_CTRL_PD_TAMID = true) ∧
    (∃ (i : Fin 8) (raw : List Byte) (r : TamidRx) (s : State), s.noneDue ∧ s.tamid[i].rx = some r ∧ r.synced = true ∧
    s.tamidListens i = true ∧ packetPayload raw = none ∧ s.limitFree (tamidSrc i 0x00) = false) ∧
    (∃ (i : Fin 8) (level : Rat) (r : TamidRx) (s : State), s.noneDue ∧ s.tamid[i].rx = some r ∧
    s.tamidListens i = true ∧ ((max 3 (s.fld (tamidBase i) TM_CTRL_CAPTURE_DB) : Nat) : Rat) ≤ r.level - level ∧
    s.limitFree (tamidSrc i 0x01) = false) ∧
    (∃ (i : Fin 8) (level : Rat) (r : TamidRx) (s : State), s.noneDue ∧ s.tamid[i].rx = some r ∧
    s.tamidListens i = true ∧ ((max 3 (s.fld (tamidBase i) TM_CTRL_CAPTURE_DB) : Nat) : Rat) ≤ r.level - level ∧
    s.limitFree (tamidSrc i 0x01) = true ∧ s.takes (tamidSrc i 0x01) (satNat 16 (s.tamid[i].preemptSince + 1))) ∧
    (∃ (i : Fin 8) (ev : TamidSlice) (item : Fin 3) (carrier : Fin 16) (corr : Rat) (s : State), s.noneDue ∧
    ev = .start item carrier corr ∧ corr ≤ ((max 4 (s.fld (tamidBase i) TM_CTRL_DET_THR) : Nat) : Rat) / 32 ∧
    s.sliceMay i item.val carrier.val = true) ∧
    (∃ (i : Fin 8) (ev : TamidSlice) (carrier : Nat) (s : State), s.noneDue ∧ ev = .done ∧
    s.tamid[i].slice = some (0, carrier)) ∧
    (∃ (i : Fin 8) (ev : TamidSlice) (carrier : Nat) (s : State), s.noneDue ∧ ev = .failed ∧
    s.tamid[i].slice = some (0, carrier) ∧ s.takes (tamidSrc i 0x04) carrier) ∧
    (∃ (half : Fin 2) (carrier : Fin 16) (s : State), s.noneDue) :=
  ⟨⟨2, -20, (stTm 3), by unfold State.noneDue; decide +kernel⟩,
   ⟨2, 1, 30, (stTm 3), by unfold State.noneDue; decide +kernel⟩,
   ⟨2, 0x7C963A56, 500, 70, (⟨30, false, false, false, 0, 0⟩),
    ((stTm 3).modTamid 2 fun x => { x with rx := some ⟨30, false, false, false, 0, 0⟩ }),
    by unfold State.noneDue; decide +kernel⟩,
   ⟨2, 0xFFFF, 500, 70, (⟨30, false, false, false, 0, 0⟩),
    ((stTm 3).modTamid 2 fun x => { x with rx := some ⟨30, false, false, false, 0, 0⟩ }),
    by unfold State.noneDue; decide +kernel⟩,
   ⟨2, (⟨30, false, false, false, 0, 0⟩),
    ((stTm 3).modTamid 2 fun x => { x with rx := some ⟨30, false, false, false, 0, 0⟩ }),
    by unfold State.noneDue; decide +kernel⟩,
   ⟨2, rawP, (⟨30, true, true, false, 5, 77⟩), ([0x11, 0x22]),
    ((stTm 3).modTamid 2 fun x => { x with rx := some ⟨30, true, true, false, 5, 77⟩ }),
    by unfold State.noneDue; decide +kernel⟩,
   ⟨2, (whiten (let b : List Byte := [2, 0xC2, 5]; b ++ leBytes 4 (crc32 b))), (⟨30, true, true, false, 5, 77⟩),
    ([0xC2, 5]),
    (((stTm 3).setFlag pantryBase PANTRY_CTRL_PD_TAMID true).modTamid 2 fun x => { x with rx := some ⟨30, true, true, false, 5, 77⟩ }),
    by unfold State.noneDue; decide +kernel⟩,
   ⟨2, ([1,2,3]), (⟨30, true, true, false, 5, 77⟩),
    ({ ((stTm 3).modTamid 2 fun x => { x with rx := some ⟨30, true, true, false, 5, 77⟩ }) with limits := [(tamidSrc 2 0x00, 1000)] }),
    by unfold State.noneDue; decide +kernel⟩,
   ⟨2, 10, (⟨30, true, true, false, 5, 77⟩),
    ({ ((stTm 3).modTamid 2 fun x => { x with rx := some ⟨30, true, true, false, 5, 77⟩ }) with limits := [(tamidSrc 2 0x01, 1000)] }),
    by unfold State.noneDue; decide +kernel⟩,
   ⟨2, 10, (⟨30, true, true, false, 5, 77⟩),
    ((stTm 3).modTamid 2 fun x => { x with rx := some ⟨30, true, true, false, 5, 77⟩ }),
    by unfold State.noneDue State.takes; decide +kernel⟩,
   ⟨2, .start 1 5 (1/10), 1, 5, 1/10, (stTm 3), by unfold State.noneDue; decide +kernel⟩,
   ⟨2, .done, 5, ((stTm 3).modTamid 2 fun x => { x with slice := some (0, 5) }),
    by unfold State.noneDue; decide +kernel⟩,
   ⟨2, .failed, 5, ((stTm 3).modTamid 2 fun x => { x with slice := some (0, 5) }),
    by unfold State.noneDue State.takes; decide +kernel⟩,
   ⟨1, 5, ({ stCmd with carriers := [⟨1, 5, 900, 0⟩, ⟨0, 5, 900, 0⟩] }), by unfold State.noneDue; decide +kernel⟩⟩

theorem witness_EngineSums :
    (∃ (r : Fin 16) (e : Fin 64) (x : Engine) (w : Word) (s : State), s.noneDue ∧ s.engine r e.val = x ∧
    s.wordAt r e.val = w ∧ s.executes r e.val 0x01) ∧
    (∃ (r : Fin 16) (e : Fin 64) (x : Engine) (w : Word) (s : State), s.noneDue ∧ s.engine r e.val = x ∧
    s.wordAt r e.val = w ∧ s.executes r e.val 0x03) ∧
    (∃ (r : Fin 16) (e : Fin 64) (x : Engine) (w : Word) (s : State), s.noneDue ∧ s.engine r e.val = x ∧
    s.wordAt r e.val = w ∧ s.executes r e.val 0x11) ∧
    (∃ (r : Fin 16) (e : Fin 64) (x : Engine) (w : Word) (s : State), s.noneDue ∧ s.engine r e.val = x ∧
    s.wordAt r e.val = w ∧ s.executes r e.val 0x0D) ∧
    (∃ (r : Fin 16) (e : Fin 64) (x : Engine) (w : Word) (s : State), s.noneDue ∧ s.engine r e.val = x ∧
    s.wordAt r e.val = w ∧ s.executes r e.val 0x15) ∧
    (∃ (r : Fin 16) (e : Fin 64) (x : Engine) (w : Word) (s : State), s.noneDue ∧ s.engine r e.val = x ∧
    s.wordAt r e.val = w ∧ s.executes r e.val 0x02) ∧
    (∃ (r : Fin 16) (e : Fin 64) (x : Engine) (w : Word) (s : State), s.noneDue ∧ s.engine r e.val = x ∧
    s.wordAt r e.val = w ∧ s.executes r e.val 0x04) ∧
    (∃ (r : Fin 16) (e : Fin 64) (x : Engine) (w : Word) (s : State), s.noneDue ∧ s.engine r e.val = x ∧
    s.wordAt r e.val = w ∧ s.executes r e.val 0x0B) ∧
    (∃ (r : Fin 16) (e : Fin 64) (x : Engine) (w : Word) (s : State), s.noneDue ∧ s.engine r e.val = x ∧
    s.wordAt r e.val = w ∧ s.executes r e.val 0x0C) :=
  ⟨⟨15, 0, xEng, 0x04240000, (stEng 15 0x04240000 xEng), by unfold State.noneDue State.executes; decide +kernel⟩,
   ⟨15, 0, xEng, 0x0DB00000, (stEng 15 0x0DB00000 xEng), by unfold State.noneDue State.executes; decide +kernel⟩,
   ⟨15, 0, xEng, 0x44A00001, (stEng 15 0x44A00001 xEng), by unfold State.noneDue State.executes; decide +kernel⟩,
   ⟨15, 0, xEng, 0x34340000, (stEng 15 0x34340000 xEng), by unfold State.noneDue State.executes; decide +kernel⟩,
   ⟨15, 0, xEng, 0x54300001, (stEng 15 0x54300001 xEng), by unfold State.noneDue State.executes; decide +kernel⟩,
   ⟨15, 0, xEng, 0x08240000, (stEng 15 0x08240000 xEng), by unfold State.noneDue State.executes; decide +kernel⟩,
   ⟨15, 0, xEng, 0x10340000, (stEng 15 0x10340000 xEng), by unfold State.noneDue State.executes; decide +kernel⟩,
   ⟨15, 0, xEng, 0x2CB00000, (stEng 15 0x2CB00000 xEng), by unfold State.noneDue State.executes; decide +kernel⟩,
   ⟨15, 0, xEng, 0x30B00000, (stEng 15 0x30B00000 xEng), by unfold State.noneDue State.executes; decide +kernel⟩⟩

theorem witness_EngineLogicAndMoves :
    (∃ (r : Fin 16) (e : Fin 64) (x : Engine) (w : Word) (s : State), s.noneDue ∧ s.engine r e.val = x ∧
    s.wordAt r e.val = w ∧ s.executes r e.val 0x05) ∧
    (∃ (r : Fin 16) (e : Fin 64) (x : Engine) (w : Word) (s : State), s.noneDue ∧ s.engine r e.val = x ∧
    s.wordAt r e.val = w ∧ s.executes r e.val 0x06) ∧
    (∃ (r : Fin 16) (e : Fin 64) (x : Engine) (w : Word) (s : State), s.noneDue ∧ s.engine r e.val = x ∧
    s.wordAt r e.val = w ∧ s.executes r e.val 0x07) ∧
    (∃ (r : Fin 16) (e : Fin 64) (x : Engine) (w : Word) (s : State), s.noneDue ∧ s.engine r e.val = x ∧
    s.wordAt r e.val = w ∧ s.executes r e.val 0x08) ∧
    (∃ (r : Fin 16) (e : Fin 64) (x : Engine) (w : Word) (s : State), s.noneDue ∧ s.engine r e.val = x ∧
    s.wordAt r e.val = w ∧ s.executes r e.val 0x09) ∧
    (∃ (r : Fin 16) (e : Fin 64) (x : Engine) (w : Word) (s : State), s.noneDue ∧ s.engine r e.val = x ∧
    s.wordAt r e.val = w ∧ s.executes r e.val 0x0A) ∧
    (∃ (r : Fin 16) (e : Fin 64) (x : Engine) (w : Word) (s : State), s.noneDue ∧ s.engine r e.val = x ∧
    s.wordAt r e.val = w ∧ s.executes r e.val 0x0E) ∧
    (∃ (r : Fin 16) (e : Fin 64) (x : Engine) (w : Word) (s : State), s.noneDue ∧ s.engine r e.val = x ∧
    s.wordAt r e.val = w ∧ s.executes r e.val 0x12) ∧
    (∃ (r : Fin 16) (e : Fin 64) (x : Engine) (w : Word) (s : State), s.noneDue ∧ s.engine r e.val = x ∧
    s.wordAt r e.val = w ∧ s.executes r e.val 0x13) ∧
    (∃ (r : Fin 16) (e : Fin 64) (x : Engine) (w : Word) (s : State), s.noneDue ∧ s.engine r e.val = x ∧
    s.wordAt r e.val = w ∧ s.executes r e.val 0x14) ∧
    (∃ (r : Fin 16) (e : Fin 64) (x : Engine) (w : Word) (s : State), s.noneDue ∧ s.engine r e.val = x ∧
    s.wordAt r e.val = w ∧ s.executes r e.val 0x10) ∧
    (∃ (r : Fin 16) (e : Fin 64) (x : Engine) (w : Word) (s : State), s.noneDue ∧ s.engine r e.val = x ∧
    s.wordAt r e.val = w ∧ s.executes r e.val 0x00) ∧
    (∃ (r : Fin 16) (e : Fin 64) (x : Engine) (w : Word) (s : State), s.noneDue ∧ s.engine r e.val = x ∧
    s.wordAt r e.val = w ∧ s.executes r e.val 0x37) :=
  ⟨⟨15, 0, xEng, 0x14280000, (stEng 15 0x14280000 xEng), by unfold State.noneDue State.executes; decide +kernel⟩,
   ⟨15, 0, xEng, 0x18280000, (stEng 15 0x18280000 xEng), by unfold State.noneDue State.executes; decide +kernel⟩,
   ⟨15, 0, xEng, 0x1C240000, (stEng 15 0x1C240000 xEng), by unfold State.noneDue State.executes; decide +kernel⟩,
   ⟨15, 0, xEng, 0x20380000, (stEng 15 0x20380000 xEng), by unfold State.noneDue State.executes; decide +kernel⟩,
   ⟨15, 0, xEng, 0x24220000, (stEng 15 0x24220000 xEng), by unfold State.noneDue State.executes; decide +kernel⟩,
   ⟨15, 0, xEng, 0x28380000, (stEng 15 0x28380000 xEng), by unfold State.noneDue State.executes; decide +kernel⟩,
   ⟨15, 0, xEng, 0x38300000, (stEng 15 0x38300000 xEng), by unfold State.noneDue State.executes; decide +kernel⟩,
   ⟨15, 0, xEng, 0x482000FF, (stEng 15 0x482000FF xEng), by unfold State.noneDue State.executes; decide +kernel⟩,
   ⟨15, 0, xEng, 0x4C300011, (stEng 15 0x4C300011 xEng), by unfold State.noneDue State.executes; decide +kernel⟩,
   ⟨15, 0, xEng, 0x50200003, (stEng 15 0x50200003 xEng), by unfold State.noneDue State.executes; decide +kernel⟩,
   ⟨15, 0, xEng, 0x4280BEEF, (stEng 15 0x4280BEEF xEng), by unfold State.noneDue State.executes; decide +kernel⟩,
   ⟨15, 0, xEng, 0x00000000, (stEng 15 0x00000000 xEng), by unfold State.noneDue State.executes; decide +kernel⟩,
   ⟨15, 0, xEng, 0xDC000000, (stEng 15 0xDC000000 xEng), by unfold State.noneDue State.executes; decide +kernel⟩⟩

theorem witness_EngineAddressesAndData :
    (∃ (r : Fin 16) (e : Fin 64) (x : Engine) (w : Word) (s : State), s.noneDue ∧ s.engine r e.val = x ∧
    s.wordAt r e.val = w ∧ s.executes r e.val 0x18) ∧
    (∃ (r : Fin 16) (e : Fin 64) (x : Engine) (w : Word) (s : State), s.noneDue ∧ s.engine r e.val = x ∧
    s.wordAt r e.val = w ∧ s.executes r e.val 0x19) ∧
    (∃ (r : Fin 16) (e : Fin 64) (x : Engine) (w : Word) (s : State), s.noneDue ∧ s.engine r e.val = x ∧
    s.wordAt r e.val = w ∧ s.executes r e.val 0x1A) ∧
    (∃ (r : Fin 16) (e : Fin 64) (x : Engine) (w : Word) (s : State), s.noneDue ∧ s.engine r e.val = x ∧
    s.wordAt r e.val = w ∧ s.executes r e.val 0x1B) ∧
    (∃ (r : Fin 16) (e : Fin 64) (x : Engine) (w : Word) (s : State), s.noneDue ∧ s.engine r e.val = x ∧
    s.wordAt r e.val = w ∧ s.executes r e.val 0x20) ∧
    (∃ (r : Fin 16) (e : Fin 64) (x : Engine) (w : Word) (s : State), s.noneDue ∧ s.engine r e.val = x ∧
    s.wordAt r e.val = w ∧ s.executes r e.val 0x21) ∧
    (∃ (r : Fin 16) (e : Fin 64) (x : Engine) (w : Word) (s : State), s.noneDue ∧ s.engine r e.val = x ∧
    s.wordAt r e.val = w ∧ s.executes r e.val 0x22) ∧
    (∃ (r : Fin 16) (e : Fin 64) (x : Engine) (w : Word) (s : State), s.noneDue ∧ s.engine r e.val = x ∧
    s.wordAt r e.val = w ∧ s.executes r e.val 0x3E) :=
  ⟨⟨15, 0, xEng, 0x62400123, (stEng 15 0x62400123 xEng), by unfold State.noneDue State.executes; decide +kernel⟩,
   ⟨15, 0, xEng, 0x67008001, (stEng 15 0x67008001 xEng), by unfold State.noneDue State.executes; decide +kernel⟩,
   ⟨15, 0, xEng, 0x69300000, (stEng 15 0x69300000 xEng), by unfold State.noneDue State.executes; decide +kernel⟩,
   ⟨15, 0, xEng, 0x6D200000, (stEng 15 0x6D200000 xEng), by unfold State.noneDue State.executes; decide +kernel⟩,
   ⟨15, 0, xEng, 0x81340000, (stEng 15 0x81340000 xEng), by unfold State.noneDue State.executes; decide +kernel⟩,
   ⟨15, 0, xEng, 0x85340000, (stEng 15 0x85340000 xEng), by unfold State.noneDue State.executes; decide +kernel⟩,
   ⟨15, 0, xEng, 0x88000000, (stEng 15 0x88000000 xEng), by unfold State.noneDue State.executes; decide +kernel⟩,
   ⟨15, 0, xEng, 0xF9800000, (stEng 15 0xF9800000 xEng), by unfold State.noneDue State.executes; decide +kernel⟩⟩

theorem witness_EngineAccumulators :
    (∃ (r : Fin 16) (e : Fin 64) (x : Engine) (w : Word) (s : State), s.noneDue ∧ s.engine r e.val = x ∧
    s.wordAt r e.val = w ∧ s.executes r e.val 0x27) ∧
    (∃ (r : Fin 16) (e : Fin 64) (x : Engine) (w : Word) (s : State), s.noneDue ∧ s.engine r e.val = x ∧
    s.wordAt r e.val = w ∧ s.executes r e.val 0x28) ∧
    (∃ (r : Fin 16) (e : Fin 64) (x : Engine) (w : Word) (s : State), s.noneDue ∧ s.engine r e.val = x ∧
    s.wordAt r e.val = w ∧ s.executes r e.val 0x29) ∧
    (∃ (r : Fin 16) (e : Fin 64) (x : Engine) (w : Word) (s : State), s.noneDue ∧ s.engine r e.val = x ∧
    s.wordAt r e.val = w ∧ s.executes r e.val 0x2A) ∧
    (∃ (r : Fin 16) (e : Fin 64) (x : Engine) (w : Word) (s : State), s.noneDue ∧ s.engine r e.val = x ∧
    s.wordAt r e.val = w ∧ s.executes r e.val 0x2B) ∧
    (∃ (r : Fin 16) (e : Fin 64) (x : Engine) (w : Word) (s : State), s.noneDue ∧ s.engine r e.val = x ∧
    s.wordAt r e.val = w ∧ s.executes r e.val 0x2C) ∧
    (∃ (r : Fin 16) (e : Fin 64) (x : Engine) (w : Word) (s : State), s.noneDue ∧ s.engine r e.val = x ∧
    s.wordAt r e.val = w ∧ s.executes r e.val 0x2D) ∧
    (∃ (r : Fin 16) (e : Fin 64) (x : Engine) (w : Word) (s : State), s.noneDue ∧ s.engine r e.val = x ∧
    s.wordAt r e.val = w ∧ s.executes r e.val 0x2E) ∧
    (∃ (r : Fin 16) (e : Fin 64) (x : Engine) (w : Word) (s : State), s.noneDue ∧ s.engine r e.val = x ∧
    s.wordAt r e.val = w ∧ s.executes r e.val 0x2F) :=
  ⟨⟨15, 0, xEng, 0x9C00F000, (stEng 15 0x9C00F000 xEng), by unfold State.noneDue State.executes; decide +kernel⟩,
   ⟨15, 0, xEng, 0xA2980000, (stEng 15 0xA2980000 xEng), by unfold State.noneDue State.executes; decide +kernel⟩,
   ⟨15, 0, xEng, 0xA6980000, (stEng 15 0xA6980000 xEng), by unfold State.noneDue State.executes; decide +kernel⟩,
   ⟨15, 0, xEng, 0xA8D80000, (stEng 15 0xA8D80000 xEng), by unfold State.noneDue State.executes; decide +kernel⟩,
   ⟨15, 0, xEng, 0xAE000000, (stEng 15 0xAE000000 xEng), by unfold State.noneDue State.executes; decide +kernel⟩,
   ⟨15, 0, xEng, 0xB2000000, (stEng 15 0xB2000000 xEng), by unfold State.noneDue State.executes; decide +kernel⟩,
   ⟨15, 0, xEng, 0xB61B3000, (stEng 15 0xB61B3000 xEng), by unfold State.noneDue State.executes; decide +kernel⟩,
   ⟨15, 0, xEng, 0xB8C12000, (stEng 15 0xB8C12000 xEng), by unfold State.noneDue State.executes; decide +kernel⟩,
   ⟨15, 0, xEng, 0xBEC04000, (stEng 15 0xBEC04000 xEng), by unfold State.noneDue State.executes; decide +kernel⟩⟩

theorem witness_DatapathArithmetic :
    (∃ (j k : Nat), k < 64) ∧
    (∃ (p : Nat) (l : List Nat), p < 4 ∧ (∀ g ∈ l, g < 4)) ∧
    (∃ (msg : List Bool), msg.length = 120) ∧
    (∃ (taps : List Int) (a : Nat → Nat) (m : Nat) (e : Int), (∀ i : Nat, a i < 4) ∧
    3 * (taps.map fun c => |c|).sum + |e| ≤ 127 * 16) ∧
    (∃ (s : State) (h : Fin 16) (a : Nat → Nat) (m : Nat), (∀ i : Nat, a i < 4) ∧
    ((s.hostTaps h HT_FIR_CUR).map fun c => |c|).sum ≤ 64) :=
  ⟨⟨1, 63, by decide +kernel⟩,
   ⟨3, [3, 0, 1, 2], by decide +kernel⟩,
   ⟨List.replicate 120 true, by decide +kernel⟩,
   ⟨[0, -64, 480, -96], fun _ => 3, 1, -112, fun _ => Nat.lt_succ_self 3, by decide +kernel⟩,
   ⟨State.reset, 15, fun _ => 3, 1, fun _ => Nat.lt_succ_self 3, by decide +kernel⟩⟩

theorem witness_ClocksAndTime :
    (∃ (s : State), s.noneDue ∧ s.boot.resetHigh = true ∧ s.flag clockBase CLK_STATUS_CORE_LOCK = false ∧
    s.flag clockBase CLK_STATUS_FREE_RUN = false) ∧
    (∃ (k : Fin 4) (s : State), s.noneDue ∧ s.flag clockBase CLK_STATUS_CORE_LOCK = true ∧ s.synLocked k.val = false) ∧
    (∃ (freq : Bool) (s : State), s.noneDue ∧ s.boot.resetHigh = true ∧ s.fuse.rails.contains 0x5100 = false ∧
    s.flag clockBase CLK_STATUS_CORE_LOCK = true ∧ s.flag clockBase CLK_STATUS_FREE_RUN = false ∧
    s.takes 0x5100 (if freq then 1 else 0)) ∧
    (∃ (freq : Bool) (s : State), s.noneDue ∧ s.boot.resetHigh = true ∧ s.fuse.rails.contains 0x5100 = false ∧
    s.flag clockBase CLK_STATUS_CORE_LOCK = false ∧ s.flag clockBase CLK_STATUS_FREE_RUN = false) ∧
    (∃ (s : State), s.noneDue ∧ s.flag clockBase CLK_STATUS_HOLDOVER = true) ∧
    (∃ (s : State), s.noneDue ∧ s.flag clockBase CLK_STATUS_CORE_LOCK = true) ∧
    (∃ (locks : Bool) (s : State), s.noneDue ∧ s.flag clockBase CLK_STATUS_HOLDOVER = true ∧
    s.flag clockBase CLK_STATUS_REF_OK = false) ∧
    (∃ (locks : Bool) (s : State), s.noneDue ∧ s.flag clockBase CLK_STATUS_HOLDOVER = false ∧
    s.flag clockBase CLK_STATUS_FREE_RUN = true ∧ s.flag clockBase CLK_STATUS_CORE_LOCK = false) ∧
    (∃ (locks : Bool) (s : State), s.noneDue ∧ s.flag clockBase CLK_STATUS_FREE_RUN = true ∧
    s.flag clockBase CLK_STATUS_REF_OK = true ∧ s.flag clockBase CLK_STATUS_CORE_LOCK = false) ∧
    (∃ (k : Fin 4) (s : State), s.noneDue ∧ s.synLocked k.val = true) ∧
    (∃ (fine : Fin 32) (explicitToo : Bool) (s : State), s.noneDue ∧ s.syncOpen = true ∧
    s.fld clockBase SYNC_CTRL_MODE ≠ 0 ∧ s.syncClose fine.val = false) ∧
    (∃ (fine : Fin 32) (explicitToo : Bool) (s : State), s.noneDue ∧ s.syncOpen = true ∧
    s.fld clockBase SYNC_CTRL_MODE ≠ 0 ∧ s.syncClose fine.val = true ∧ explicitToo = false) ∧
    (∃ (s : State), s.noneDue ∧ s.syncOpen = true) ∧
    (∃ (trim temp : Int) (s : State), s.noneDue ∧ s.flag clockBase CLK_STATUS_REF_OK = true) ∧
    (∃ (s : State), s.noneDue ∧ s.clock.oldRaised = false ∧ s.fld clockBase CLK_STATUS_DISC_AGE ≠ 0xFFFF ∧
    s.takes 0x5109 (max (s.fld clockBase CLK_STATUS_DISC_AGE) 168)) ∧
    (∃ (s : State), s.noneDue ∧ s.flag clockBase CLK_STATUS_XTAL_OK = true ∧ s.takes 0x5107 0) ∧
    (∃ (s : State), s.noneDue) :=
  ⟨⟨st0, by unfold State.noneDue; decide +kernel⟩,
   ⟨2, (st0.setFlag clockBase CLK_STATUS_CORE_LOCK true), by unfold State.noneDue; decide +kernel⟩,
   ⟨true, ((stOn.setFlag clockBase CLK_STATUS_CORE_LOCK true).setFlag clockBase CLK_STATUS_REF_OK true),
    by unfold State.noneDue State.takes; decide +kernel⟩,
   ⟨false, stOn, by unfold State.noneDue; decide +kernel⟩,
   ⟨(stOn.setFlag clockBase CLK_STATUS_HOLDOVER true), by unfold State.noneDue; decide +kernel⟩,
   ⟨(stOn.setFlag clockBase CLK_STATUS_CORE_LOCK true), by unfold State.noneDue; decide +kernel⟩,
   ⟨true, (stOn.setFlag clockBase CLK_STATUS_HOLDOVER true), by unfold State.noneDue; decide +kernel⟩,
   ⟨true, (stOn.setFlag clockBase CLK_STATUS_FREE_RUN true), by unfold State.noneDue; decide +kernel⟩,
   ⟨true, ((stOn.setFlag clockBase CLK_STATUS_FREE_RUN true).setFlag clockBase CLK_STATUS_REF_OK true),
    by unfold State.noneDue; decide +kernel⟩,
   ⟨1, (stOn.synStart 1), by unfold State.noneDue; decide +kernel⟩,
   ⟨5, false, (stClk.setFld clockBase SYNC_CTRL_MODE 1), by unfold State.noneDue; decide +kernel⟩,
   ⟨5, false, { (stClk.setFld clockBase SYNC_CTRL_MODE 1) with clock := { stClk.clock with lastSync := some 31990 } },
    by unfold State.noneDue; decide +kernel⟩,
   ⟨stClk, by unfold State.noneDue; decide +kernel⟩,
   ⟨(-3), 40, (stClk.setFlag clockBase CLK_STATUS_REF_OK true), by unfold State.noneDue; decide +kernel⟩,
   ⟨(stClk.setFld clockBase CLK_STATUS_DISC_AGE 168), by unfold State.noneDue State.takes; decide +kernel⟩,
   ⟨(stClk.setFlag clockBase CLK_STATUS_XTAL_OK true), by unfold State.noneDue State.takes; decide +kernel⟩,
   ⟨stClk, by unfold State.noneDue; decide +kernel⟩⟩

theorem witness_LaneManagement :
    (∃ (n : Fin 8) (stream : Option (Fin 16)) (ppm : Rat) (m : Fin 16) (s : State), s.noneDue ∧
    s.judged n stream = true ∧ 150 < |ppm| ∧ stream ∉ s.line[n].link.outOfRange ∧ stream = some m) ∧
    (∃ (n : Fin 8) (stream : Option (Fin 16)) (ppm : Rat) (s : State), s.noneDue ∧ s.judged n stream = true ∧
    150 < |ppm| ∧ stream ∉ s.line[n].link.outOfRange ∧ stream = none) ∧
    (∃ (n : Fin 8) (stream : Option (Fin 16)) (ppm : Rat) (s : State), s.noneDue ∧ |ppm| ≤ 150) ∧
    (∃ (n : Fin 8) (skew : Nat) (slips : Bool) (s : State), s.noneDue ∧ s.pairRuns n = true ∧
    (64000 < skew ∨ slips = true) ∧ (∀ v : Nat, s.takes (lineSrc n 0x21) v)) ∧
    (∃ (n : Fin 8) (s : State), s.noneDue ∧ s.line[n].link.pairFill = true) ∧
    (∃ (n : Fin 8) (host : Bool) (skew : Nat) (s : State), s.noneDue ∧ 1 < (s.groupOf n).length ∧
    deskewBudget host < skew ∧ s.takes (lineSrc (s.groupLead n) 0x20) (deskewDetail host skew)) ∧
    (∃ (n : Fin 8) (host : Bool) (skew : Nat) (s : State), s.noneDue ∧ skew ≤ deskewBudget host ∧
    (if host then s.line[n].link.deskewTx else s.line[n].link.deskewRx) = true ∧ n ∈ s.groupOf n) ∧
    (∃ (n : Fin 8) (host : Bool) (skew : Nat) (s : State), s.noneDue ∧ deskewBudget host < skew) ∧
    (∃ (n : Fin 8) (s : State), s.noneDue ∧ s.line[n].link.groupFill = true ∧ n ∈ s.groupOf n) ∧
    (∃ (o : Origin) (s : State), s.noneDue ∧ s.lanes.modeChange ≠ [] ∧ s.link.running = [⟨o, 0x0004, 0⟩] ∧
    s.link.waiting = [] ∧ s.link.outbox.length < 4) ∧
    (∃ (n : Fin 8) (ch : ProfileChange) (s : State), s.noneDue ∧ s.lanes.change = some ch ∧ ch.switching = none ∧
    s.nextGroup ch = some (s.groupLead n) ∧ s.groupFading n = false ∧ n ∈ s.groupOf n) ∧
    (∃ (n : Fin 8) (ch : ProfileChange) (s : State), s.noneDue ∧ s.lanes.change = some ch ∧
    (ch.switching.map fun k => s.groupLead (Fin.ofNat 8 k)) = some (s.groupLead n) ∧ ch.left ≠ []) ∧
    (∃ (n : Fin 8) (ch : ProfileChange) (o : Origin) (s : State), s.noneDue ∧ s.lanes.change = some ch ∧
    (ch.switching.map fun k => s.groupLead (Fin.ofNat 8 k)) = some (s.groupLead n) ∧ ch.left = [] ∧ ch.target ≤ 3 ∧
    s.lanes.wanted = none ∧ s.link.running = [⟨o, 0x0003, ch.target⟩]) ∧
    (∃ (n : Fin 8) (which : Fin 3) (dev : Int) (wait : BitVec 16) (unsettling : Bool) (s : State), s.noneDue ∧
    unsettling = true) ∧
    (∃ (n : Fin 8) (which : Fin 3) (dev : Int) (wait : BitVec 16) (unsettling : Bool) (s : State), s.noneDue ∧
    unsettling = false ∧ s.flag (lineBase n) (ledgerUnsettled which.val) = false ∧
    ledgerMoved (s.fld (lineBase n) (ledgerPs which.val)) (s.ledgerValue n which.val dev wait.toNat) = true) ∧
    (∃ (n : Fin 8) (which : Fin 3) (dev : Int) (wait : BitVec 16) (unsettling : Bool) (s : State), s.noneDue ∧
    unsettling = false ∧ (s.flag (lineBase n) (ledgerUnsettled which.val) = true ∨ ledgerMoved (s.fld (lineBase n)
    (ledgerPs which.val)) (s.ledgerValue n which.val dev wait.toNat) = false)) ∧
    (∃ (n : Fin 8) (which : Fin 3) (dev : Int) (wait : BitVec 16) (unsettling : Bool) (s : State), s.noneDue ∧
    unsettling = false ∧ s.flag (lineBase n) (ledgerUnsettled which.val) = true ∧ s.ledgerReady n which.val = true) :=
  ⟨⟨2, some 2, 151, 2, { (stHr 5) with lanes := { stCmd.lanes with mode := 0 } },
    by unfold State.noneDue; decide +kernel⟩,
   ⟨2, none, -151, stLk, by unfold State.noneDue; decide +kernel⟩,
   ⟨2, none, 150, (stLk.modLinkOf 2 fun k => { k with outOfRange := [none] }), by unfold State.noneDue; decide +kernel⟩,
   ⟨2, 64001, false,
    ({ stReady with lanes := { stReady.lanes with mode := 1 } }.modLinkOf 2 fun k => { k with pairAligned := true }),
    by unfold State.noneDue; decide +kernel, by decide +kernel, by decide +kernel,
    fun v => by unfold State.takes; refine ⟨by decide +kernel, ?_, by decide +kernel, by decide +kernel⟩; rw [show srcDomain (lineSrc 2 0x21) v = 1 by simp [srcDomain, lineSrc]]; decide +kernel⟩,
   ⟨2, (stLk.modLinkOf 2 fun k => { k with pairFill := true }), by unfold State.noneDue; decide +kernel⟩,
   ⟨5, true, 64001, ({ stLk with lanes := { stLk.lanes with grouping := 2 } }),
    by unfold State.noneDue State.takes; decide +kernel⟩,
   ⟨5, true, 0,
    ({ stLk with lanes := { stLk.lanes with grouping := 2 } }.modLinkOf 5 fun k => { k with deskewTx := true }),
    by unfold State.noneDue; decide +kernel⟩,
   ⟨5, true, 64001, stLk, by unfold State.noneDue; decide +kernel⟩,
   ⟨5, ({ stLk with lanes := { stLk.lanes with grouping := 2 } }.modLinkOf 5 fun k => { k with groupFill := true }),
    by unfold State.noneDue; decide +kernel⟩,
   ⟨oB,
    ({ (stCmd.accept oB 4 0) with lanes := { stCmd.lanes with modeChange := [2] } } |> fun s => { s with link := { s.link with outbox := [] } }),
    by unfold State.noneDue; decide +kernel⟩,
   ⟨2, (⟨1, [2, 3], none⟩), ({ stLk with lanes := { stLk.lanes with change := some ⟨1, [2, 3], none⟩ } }),
    by unfold State.noneDue; decide +kernel⟩,
   ⟨2, (⟨1, [3], some 2⟩), ({ stLk with lanes := { stLk.lanes with change := some ⟨1, [3], some 2⟩ } }),
    by unfold State.noneDue; decide +kernel⟩,
   ⟨2, (⟨1, [], some 2⟩), oB,
    ({ (stLk.accept oB 3 1) with lanes := { stLk.lanes with change := some ⟨1, [], some 2⟩ } }),
    by unfold State.noneDue; decide +kernel⟩,
   ⟨2, 1, 3, 5, true, stLk, by unfold State.noneDue; decide +kernel⟩,
   ⟨2, 1, 1500, 5, false, (stLk.setFlag (lineBase 2) (ledgerUnsettled 1) false),
    by unfold State.noneDue; decide +kernel⟩,
   ⟨2, 1, 0, 5, false, (stLk.setFlag (lineBase 2) (ledgerUnsettled 1) true), by unfold State.noneDue; decide +kernel⟩,
   ⟨2, 0, 0, 5, false, stLk, by unfold State.noneDue; decide +kernel⟩⟩

theorem witness_ShapingAndCurrentCells :
    (∃ (n : Fin 8) (s : State), s.noneDue ∧ s.flag (lineBase n) TX_STATUS_GLIDING = false) ∧
    (∃ (n : Fin 8) (s : State), s.noneDue ∧ s.flag (lineBase n) TX_STATUS_GLIDING = true) ∧
    (∃ (n : Fin 8) (s : State), s.noneDue ∧ s.flag (lineBase n) TX_STATUS_GLIDING = true ∧ s.lineTxTask n 0 = true) ∧
    (∃ (n : Fin 8) (stopping : Bool) (s : State), s.noneDue ∧ s.fadeBusy n pdRegs = false ∧ s.changeWaits n = false ∧
    s.pdInUse n = true ∧ s.transmitting n = true ∧ stopping = false) ∧
    (∃ (n : Fin 8) (stopping : Bool) (s : State), s.noneDue ∧ s.fadeBusy n pdRegs = false ∧ s.changeWaits n = false ∧
    s.pdInUse n = true ∧ s.transmitting n = true ∧ stopping = true) ∧
    (∃ (n : Fin 8) (stopping : Bool) (s : State), s.noneDue ∧ (s.fadeBusy n pdRegs = true ∨ s.changeWaits n = true) ∧
    stopping = false) ∧
    (∃ (n : Fin 8) (s : State), s.noneDue ∧ s.flag (lineBase n) PD_STATUS_FADING = true ∧
    s.fld (lineBase n) PD_STATUS_ACTIVE_BANK ≤ 1) ∧
    (∃ (n : Fin 8) (s : State), s.noneDue ∧ s.txState n = 5 ∧ s.flag (lineBase n) PD_STATUS_FADE_PENDING = true) ∧
    (∃ (n : Fin 8) (bank : Fin 2) (idx : Fin 1024) (value : BitVec 10) (swap : Bool) (s : State), s.noneDue ∧
    bank.val ≠ s.fld (lineBase n) PD_STATUS_ACTIVE_BANK ∧ s.fadeBusy n pdRegs = false ∧ swap = false) ∧
    (∃ (n : Fin 8) (bank : Fin 2) (idx : Fin 1024) (value : BitVec 10) (swap : Bool) (s : State), s.noneDue ∧
    (bank.val = s.fld (lineBase n) PD_STATUS_ACTIVE_BANK ∨ s.fadeBusy n pdRegs = true ∨ swap = true)) ∧
    (∃ (n : Fin 8) (en : Bool) (s : State), s.noneDue ∧ (en = true ∨ s.fadeBusy n pdRegs = false)) ∧
    (∃ (n : Fin 8) (count : Nat) (s : State), s.noneDue ∧ 0 < count) ∧
    (∃ (n : Fin 8) (sub : Fin 4) (c : Nat) (s : State), s.noneDue ∧ s.subWorks n sub = true ∧
    s.line[n].tx.subs[sub].underTrim = none ∧ s.fld (lineBase n) TX_CTRL_CELL_PERIOD ≠ 0 ∧
    s.line[n].tx.subs[sub].target = some c) ∧
    (∃ (n : Fin 8) (sub : Fin 4) (c : Nat) (s : State), s.noneDue ∧ s.line[n].tx.subs[sub].underTrim = some c ∧
    s.line[n].tx.subs[sub].degraded = []) ∧
    (∃ (n : Fin 8) (sub : Fin 4) (cell : Fin 68) (handover : Option (Fin 68)) (v : Nat) (s : State), s.noneDue ∧
    2 ≤ s.txState n ∧ cell.val ∉ s.line[n].tx.subs[sub].out ∧ s.line[n].tx.subs[sub].inMap cell.val = true ∧
    s.line[n].tx.subs[sub].spareOf cell.val = some v) ∧
    (∃ (n : Fin 8) (sub : Fin 4) (cell : Fin 68) (handover : Option (Fin 68)) (s : State), s.noneDue ∧ 2 ≤ s.txState n ∧
    cell.val ∉ s.line[n].tx.subs[sub].out ∧ s.line[n].tx.subs[sub].inMap cell.val = true ∧
    s.line[n].tx.subs[sub].spareOf cell.val = none ∧ s.line[n].tx.subs[sub].underTrim = none ∧
    s.takes (lineSrc n 0x62) (cellDetail sub cell.val)) ∧
    (∃ (n : Fin 8) (sub : Fin 4) (cell : Fin 68) (s : State), s.noneDue ∧ 1 ≤ s.txState n ∧
    cell.val ∉ s.line[n].tx.subs[sub].out ∧ s.flag (lineBase n) (spareNoneOf sub cell.val) = false ∧
    s.line[n].tx.subs[sub].inMap cell.val = true ∧ s.line[n].tx.subs[sub].underTrim.isSome = true) ∧
    (∃ (n : Fin 8) (sub : Fin 4) (cell : Fin 68) (v : Nat) (s : State), s.noneDue ∧ 1 ≤ s.txState n ∧
    cell.val ∉ s.line[n].tx.subs[sub].out ∧ s.flag (lineBase n) (spareNoneOf sub cell.val) = false ∧
    s.line[n].tx.subs[sub].inMap cell.val = true ∧ s.line[n].tx.subs[sub].underTrim = none ∧
    s.line[n].tx.subs[sub].degraded = [] ∧ s.line[n].tx.subs[sub].spareOf cell.val = some v) ∧
    (∃ (n : Fin 8) (trims : List SubDacTrim) (spur : Nat) (s : State), s.noneDue ∧ 4 ≤ s.txState n ∧
    s.lineTxTask n 13 = true ∧ (∀ k : Fin 4, s.lineTxTask n (5 + k.val) = true) ∧ 520 ≤ spur) ∧
    (∃ (n : Fin 8) (trims : List SubDacTrim) (spur : Nat) (s : State), s.noneDue ∧ 4 ≤ s.txState n ∧
    s.lineTxTask n 13 = true ∧ spur < 500) :=
  ⟨⟨2, stL, by unfold State.noneDue; decide +kernel⟩,
   ⟨2, (stL.setFlag (lineBase 2) TX_STATUS_GLIDING true), by unfold State.noneDue; decide +kernel⟩,
   ⟨2,
    ((stL.setFlag (lineBase 2) TX_STATUS_GLIDING true).modTx 2 fun x => { x with glideFrom := [0,0,0,0,1024,0,0,0,0], glideTo := [0,0,0,-100,900,24,0,0,0], glideStep := 7 }),
    by unfold State.noneDue; decide +kernel⟩,
   ⟨2, false, ((stL.setTxState 2 5).setFlag (lineBase 2) TX_CTRL_PD_EN true), by unfold State.noneDue; decide +kernel⟩,
   ⟨2, true, ((stL.setTxState 2 5).setFlag (lineBase 2) TX_CTRL_PD_EN true), by unfold State.noneDue; decide +kernel⟩,
   ⟨2, false, (stL.setFlag (lineBase 2) PD_STATUS_FADING true), by unfold State.noneDue; decide +kernel⟩,
   ⟨2, (stL.setFlag (lineBase 2) PD_STATUS_FADING true), by unfold State.noneDue; decide +kernel⟩,
   ⟨2, ((stL.setTxState 2 5).setFlag (lineBase 2) PD_STATUS_FADE_PENDING true), by unfold State.noneDue; decide +kernel⟩,
   ⟨2, 1, 1023, 777, false, stL, by unfold State.noneDue; decide +kernel⟩,
   ⟨2, 0, 1023, 777, false, stL, by unfold State.noneDue; decide +kernel⟩,
   ⟨2, true, stL, by unfold State.noneDue; decide +kernel⟩,
   ⟨2, 5, stL, by unfold State.noneDue; decide +kernel⟩,
   ⟨2, 0, 0, stCell, by unfold State.noneDue; decide +kernel⟩,
   ⟨2, 0, 5, (stCell.modSub 2 0 fun d => { d with spare4 := none, underTrim := some 5 }),
    by unfold State.noneDue; decide +kernel⟩,
   ⟨2, 0, 7, none, 63, stCell, by unfold State.noneDue; decide +kernel⟩,
   ⟨2, 0, 7, none, (stCell.modSub 2 0 fun d => { d with spare4 := none }),
    by unfold State.noneDue State.takes; decide +kernel⟩,
   ⟨2, 0, 7, (stCell.modSub 2 0 fun d => { d with spare4 := none, underTrim := some 5 }),
    by unfold State.noneDue; decide +kernel⟩,
   ⟨2, 0, 7, 63, stCell, by unfold State.noneDue; decide +kernel⟩,
   ⟨2, ([⟨300, -3, 5⟩]), 70000, stCell, by unfold State.noneDue; decide +kernel⟩,
   ⟨2, ([⟨300, -3, 5⟩]), 499, stCell, by unfold State.noneDue; decide +kernel⟩⟩

theorem witness_MemoryProtection :
    (∃ (f : WordFinding) (b : Nat) (wrapped : Bool) (s : State), s.noneDue ∧
    s.flag memProtBase SCRUB_CTRL_SCRUB_EN = true ∧ s.clock.running = true ∧ s.memory.scrubNext ≤ 4 * s.tick ∧
    s.scrubFrom 264 (s.fld memProtBase SCRUB_STATUS_BANK) false = some (b, wrapped) ∧ b < 193 ∧ f = .clean) ∧
    (∃ (f : WordFinding) (b : Nat) (wrapped : Bool) (bit : BitVec 7) (s : State), s.noneDue ∧
    s.flag memProtBase SCRUB_CTRL_SCRUB_EN = true ∧ s.clock.running = true ∧ s.memory.scrubNext ≤ 4 * s.tick ∧
    s.scrubFrom 264 (s.fld memProtBase SCRUB_STATUS_BANK) false = some (b, wrapped) ∧ b < 64 ∧
    b = s.fld memProtBase SCRUB_STATUS_BANK ∧ f = .corrected bit false ∧
    (∀ e ∈ s.memory.logs[memCellar], e.addr ≠ b * 0x40000 + 8 * s.memory.unit) ∧ s.memory.logs[memCellar].length < 32) ∧
    (∃ (page : PageId) (s : State), s.noneDue ∧ s.memory.rebuilding.contains page = true ∧
    (∀ n : Fin 8, s.pantry.lanes[n].queue = [])) ∧
    (∃ (page : PageId) (s : State), s.noneDue ∧ s.memory.rebuilding.contains page = true) ∧
    (∃ (found : List (Fin 512 × WordFinding)) (k page : Nat) (s : State), s.noneDue ∧ found = [] ∧
    s.memory.retiring = some (.page k page none) ∧ k < 64) ∧
    (∃ (bank : BitVec 9) (init : Bool) (s : State), s.noneDue ∧ retirable bank.toNat = true ∧ s.retireBusy = false ∧
    s.flag memProtBase (if bank.toNat ≤ 192 then RETIRE_STATUS_PANTRY_SPARE else RETIRE_STATUS_ENGINE_SPARE) = true) ∧
    (∃ (bank : BitVec 9) (init : Bool) (s : State), s.noneDue ∧ retirable bank.toNat = false) ∧
    (∃ (found : List (Fin 32768 × WordFinding)) (b : Nat) (s : State), s.noneDue ∧ s.memory.retiring = some (.bank b) ∧
    65 ≤ b ∧ b ≤ 192) ∧
    (∃ (bank : BitVec 9) (s : State), s.noneDue ∧ s.retLost bank.toNat = true ∧ s.memory.init = none) ∧
    (∃ (bank : BitVec 9) (s : State), s.noneDue ∧ s.retLost bank.toNat = false) ∧
    (∃ (b : Nat) (s : State), s.noneDue ∧ s.memory.init = some b ∧ b < 264) ∧
    (∃ (b : Nat) (s : State), s.noneDue ∧ s.memory.init = none ∧ s.firmwareBank = some b) :=
  ⟨⟨.clean, 2, false,
    ({ ((stCmd.setFlag memProtBase SCRUB_CTRL_SCRUB_EN true).setFld memProtBase SCRUB_STATUS_BANK 2) with memory := { stCmd.memory with unit := 32767 } }),
    by unfold State.noneDue; decide +kernel⟩,
   ⟨(.corrected 3 false), 2, false, 3,
    ({ ((stCmd.setFlag memProtBase SCRUB_CTRL_SCRUB_EN true).setFld memProtBase SCRUB_STATUS_BANK 2) with memory := { stCmd.memory with unit := 32767 } }),
    by unfold State.noneDue; decide +kernel⟩,
   ⟨({ mem := 1, bank := 70, addr := 0x2140000 }),
    ({ stCmd with memory := { stCmd.memory with rebuilding := [{ mem := 1, bank := 70, addr := 0x2140000 }] } }),
    by unfold State.noneDue; decide +kernel⟩,
   ⟨({ mem := 1, bank := 70, addr := 0x2140000 }),
    ({ stCmd with memory := { stCmd.memory with rebuilding := [{ mem := 1, bank := 70, addr := 0x2140000 }] } }),
    by unfold State.noneDue; decide +kernel⟩,
   ⟨([]), 1, 0x123,
    ({ ((stCmd.setFlag memProtBase RETIRE_STATUS_BUSY true).setFlag memProtBase (RETIRE_MAP_COPYING.ix 1) true) with memory := { stCmd.memory with retiring := some (.page 1 0x123 none) } }),
    by unfold State.noneDue; decide +kernel⟩,
   ⟨200, false, (stCmd.setFlag memProtBase RETIRE_STATUS_ENGINE_SPARE true), by unfold State.noneDue; decide +kernel⟩,
   ⟨64, false, stCmd, by unfold State.noneDue; decide +kernel⟩,
   ⟨([]), 70,
    ({ (stCmd.setFlag memProtBase RETIRE_STATUS_BUSY true) with memory := { stCmd.memory with retiring := some (.bank 70) } }),
    by unfold State.noneDue; decide +kernel⟩,
   ⟨2, (stCmd.setRetLost 2 true), by unfold State.noneDue; decide +kernel⟩,
   ⟨2, stCmd, by unfold State.noneDue; decide +kernel⟩,
   ⟨2, ({ (stCmd.setRetLost 2 true) with memory := { stCmd.memory with init := some 2 } }),
    by unfold State.noneDue; decide +kernel⟩,
   ⟨2, stCmd.setRetLost 2 true, by unfold State.noneDue; decide +kernel⟩⟩

theorem witness_EngineControlAndEvents :
    (∃ (r : Fin 16) (e : Fin 64) (x : Engine) (w : Word) (s : State), s.noneDue ∧ s.engine r e.val = x ∧
    s.wordAt r e.val = w ∧ s.executes r e.val 0x30) ∧
    (∃ (r : Fin 16) (e : Fin 64) (x : Engine) (w : Word) (s : State), s.noneDue ∧ s.engine r e.val = x ∧
    s.wordAt r e.val = w ∧ s.executes r e.val 0x31) ∧
    (∃ (r : Fin 16) (e : Fin 64) (x : Engine) (w : Word) (s : State), s.noneDue ∧ s.engine r e.val = x ∧
    s.wordAt r e.val = w ∧ s.executes r e.val 0x32) ∧
    (∃ (r : Fin 16) (e : Fin 64) (x : Engine) (w : Word) (s : State), s.noneDue ∧ s.engine r e.val = x ∧
    s.wordAt r e.val = w ∧ s.executes r e.val 0x33) ∧
    (∃ (r : Fin 16) (e : Fin 64) (x : Engine) (w : Word) (s : State), s.noneDue ∧ s.engine r e.val = x ∧
    s.wordAt r e.val = w ∧ s.executes r e.val 0x34) ∧
    (∃ (r : Fin 16) (e : Fin 64) (x : Engine) (w : Word) (s : State), s.noneDue ∧ s.engine r e.val = x ∧
    s.wordAt r e.val = w ∧ s.executes r e.val 0x35) ∧
    (∃ (r : Fin 16) (e : Fin 64) (x : Engine) (w : Word) (s : State), s.noneDue ∧ s.engine r e.val = x ∧
    s.wordAt r e.val = w ∧ s.executes r e.val 0x3B ∧ s.guestOn r e.val = none) ∧
    (∃ (r : Fin 16) (e : Fin 64) (g : Nat) (s : State), s.noneDue ∧ s.executes r e.val 0x3B ∧
    s.guestOn r e.val = some g ∧ g < 62) ∧
    (∃ (r : Fin 16) (e : Fin 64) (f : EventFrame) (s : State), s.noneDue ∧ s.executes r e.val 0x36 ∧
    (s.engine r e.val).frame = some f) ∧
    (∃ (r : Fin 16) (e : Fin 64) (w : Word) (s : State), s.noneDue ∧ s.executes r e.val 0x38 ∧ s.wordAt r e.val = w) ∧
    (∃ (r : Fin 16) (e : Fin 64) (x : Engine) (w : Word) (s : State), s.noneDue ∧ s.engine r e.val = x ∧
    s.wordAt r e.val = w ∧ s.executes r e.val 0x39) ∧
    (∃ (r : Fin 16) (e : Fin 64) (x : Engine) (w : Word) (s : State), s.noneDue ∧ s.engine r e.val = x ∧
    s.wordAt r e.val = w ∧ s.executes r e.val 0x3A) ∧
    (∃ (r : Fin 16) (e : Fin 64) (x : Engine) (p : Nat × List (Nat × BitVec 16)) (rest : List (Nat × List (Nat × BitVec
    16))) (s : State), s.noneDue ∧ s.engine r e.val = x ∧ x.published = p :: rest) ∧
    (∃ (r : Fin 16) (e : Fin 64) (x : Engine) (k : Nat) (s : State), s.noneDue ∧ s.engine r e.val = x ∧
    lowestEvent (s.pendOf r e.val &&& x.evmask) = some k ∧ s.issues r e.val = true ∧ x.frame = none ∧ x.open_ = true ∧
    x.waiting = none) ∧
    (∃ (r : Fin 16) (e : Fin 64) (x : Engine) (s : State), s.noneDue ∧ s.engine r e.val = x ∧ s.issues r e.val = true ∧
    x.reload ≠ 0 ∧ s.timerNow x = 0) :=
  ⟨⟨15, 0, xEng, 0xC1C00155, (stEng 15 0xC1C00155 xEng), by unfold State.noneDue State.executes; decide +kernel⟩,
   ⟨15, 0, xEng, 0xC4000155, (stEng 15 0xC4000155 xEng), by unfold State.noneDue State.executes; decide +kernel⟩,
   ⟨15, 0, ({ xEng with stack := [0x123, 0x7] }), 0xC8000000, (stEng 15 0xC8000000 { xEng with stack := [0x123, 0x7] }),
    by unfold State.noneDue State.executes; decide +kernel⟩,
   ⟨15, 0, xEng, 0xCC140000, (stEng 15 0xCC140000 xEng), by unfold State.noneDue State.executes; decide +kernel⟩,
   ⟨15, 0, xEng, 0xD0146000, (stEng 15 0xD0146000 xEng), by unfold State.noneDue State.executes; decide +kernel⟩,
   ⟨15, 0, xEng, 0xD4000010, (stEng 15 0xD4000010 xEng), by unfold State.noneDue State.executes; decide +kernel⟩,
   ⟨3, 0, xEng, 0xEC000000, (stEng 3 0xEC000000 xEng), by unfold State.noneDue State.executes; decide +kernel⟩,
   ⟨15, 0, 0, (stEng 15 0xEC000000 xEng), by unfold State.noneDue State.executes; decide +kernel⟩,
   ⟨15, 0, fr0, (stEng 15 0xD8000000 { xEng with frame := some fr0 }),
    by unfold State.noneDue State.executes; decide +kernel⟩,
   ⟨15, 0, 0xE0500000, (stEng 15 0xE0500000 xEng), by unfold State.noneDue State.executes; decide +kernel⟩,
   ⟨15, 0, xEng, 0xE5050000, (stEng 15 0xE5050000 xEng), by unfold State.noneDue State.executes; decide +kernel⟩,
   ⟨15, 0, xEng, 0xE9080000, (stEng 15 0xE9080000 xEng), by unfold State.noneDue State.executes; decide +kernel⟩,
   ⟨3, 0, ({ xEng with published := [(7, [(1, 5)])], shadow := [(1, 2)] }), (7, [(1, 5)]), [],
    (stEng 3 0 { xEng with published := [(7, [(1, 5)])], shadow := [(1, 2)] }), by unfold State.noneDue; decide +kernel⟩,
   ⟨15, 0, ({ xEng with evpend := 0xC, evmask := 0x8, pc := 9 }), 3,
    (stEng 15 0 { xEng with evpend := 0xC, evmask := 0x8, pc := 9 }), by unfold State.noneDue; decide +kernel⟩,
   ⟨15, 0, ({ xEng with reload := 9 }), (stEng 15 0 { xEng with reload := 9 }), by unfold State.noneDue; decide +kernel⟩⟩

theorem witness_EnginePortsFaultsAndCheckpoints :
    (∃ (r : Fin 16) (e : Fin 64) (g : Nat) (w : Word) (s : State), s.noneDue ∧ s.executes r e.val 0x3F ∧
    s.wordAt r e.val = w ∧ bitsAt w 24 2 = 0 ∧ s.guestOn r e.val = some g ∧ g < 62 ∧ portOf w = 1) ∧
    (∃ (r : Fin 16) (e : Fin 64) (w : Word) (s : State), s.noneDue ∧ s.executes r e.val 0x3F ∧ s.wordAt r e.val = w ∧
    bitsAt w 24 2 = 0 ∧ s.guestOn r e.val = none) ∧
    (∃ (r : Fin 16) (e : Fin 64) (x : Engine) (w : Word) (s : State), s.noneDue ∧ s.executes r e.val 0x3F ∧
    s.engine r e.val = x ∧ s.wordAt r e.val = w ∧ bitsAt w 24 2 = 1 ∧ s.guestOn r e.val = none) ∧
    (∃ (r : Fin 16) (e : Fin 64) (g : Nat) (x : Engine) (w : Word) (s : State), s.noneDue ∧ s.executes r e.val 0x3F ∧
    s.engine r e.val = x ∧ s.wordAt r e.val = w ∧ bitsAt w 24 2 = 1 ∧ s.guestOn r e.val = some g ∧ g < 62 ∧
    portOf w = 0 ∧ (s.guest g).toHost.length < 16) ∧
    (∃ (r : Fin 16) (e : Fin 64) (x : Engine) (w : Word) (s : State), s.noneDue ∧ s.executes r e.val 0x3F ∧
    s.engine r e.val = x ∧ s.wordAt r e.val = w ∧ bitsAt w 24 2 = 2 ∧ s.guestOn r e.val = none) ∧
    (∃ (r : Fin 16) (e : Fin 64) (x : Engine) (w : Word) (s : State), s.noneDue ∧ s.executes r e.val 0x3C ∧
    s.engine r e.val = x ∧ s.wordAt r e.val = w ∧ r.val ≠ 15 ∧ farAddr w x % 4 = 0 ∧ farAddr w x < 0x00BFA000 ∧
    firmwareArea (farAddr w x) = false ∧ s.retLost (farAddr w x / 0x40000) = false ∧ s.fstOutstanding r e.val = 0) ∧
    (∃ (r : Fin 16) (e : Fin 64) (x : Engine) (w : Word) (s : State), s.noneDue ∧ s.executes r e.val 0x3C ∧
    s.engine r e.val = x ∧ s.wordAt r e.val = w ∧ r.val ≠ 15 ∧ farAddr w x % 4 = 0 ∧ farAddr w x < 0x00BFA000 ∧
    firmwareArea (farAddr w x) = true ∧ s.retLost (farAddr w x / 0x40000) = false ∧ s.fstOutstanding r e.val = 0) ∧
    (∃ (r : Fin 16) (e : Fin 64) (x : Engine) (w : Word) (s : State), s.noneDue ∧ s.executes r e.val 0x3D ∧
    s.engine r e.val = x ∧ s.wordAt r e.val = w ∧ r.val ≠ 15 ∧ farAddr w x % 4 = 0 ∧ farAddr w x < 0x00BFA000 ∧
    s.retLost (farAddr w x / 0x40000) = false ∧ s.fstOutstanding r e.val = 0) ∧
    (∃ (r : Fin 16) (e : Fin 64) (k : Nat) (s : State), s.noneDue ∧ s.issues r e.val = true ∧
    (s.engine r e.val).wdog ≠ 0 ∧ (s.engine r e.val).hbtAt + 1024 * (s.engine r e.val).wdog.toNat ≤ s.tick ∧
    s.rooms.rooms[r].retired.contains e.val = false ∧ s.rooms.rooms[r].free.contains e.val = false ∧
    s.rooms.rooms[r].pending.find? (fun p => p.spare == e.val) = none ∧ s.taskOn r e.val = some k ∧ r.val ≠ 15) ∧
    (∃ (r : Fin 16) (e : Fin 64) (code : Fin 9) (k : Nat) (s : State), s.noneDue ∧ code ∈ [1, 2, 3, 4, 5, 7] ∧
    s.domOn (domRoom r.val) = true ∧ s.rooms.rooms[r].retired.contains e.val = false ∧
    s.rooms.rooms[r].free.contains e.val = false ∧ s.rooms.rooms[r].pending.find? (fun p => p.spare == e.val) = none ∧
    s.taskOn r e.val = some k ∧ r.val ≠ 15) ∧
    (∃ (r : Fin 16) (k : Fin 64) (x : Engine) (s : State), s.noneDue ∧ s.engine r (s.runOn r k.val) = x ∧
    s.rooms.rooms[r].phase = 64 * k.val ∧ s.issues r (s.runOn r k.val) = true ∧
    s.taskOn r (s.runOn r k.val) = some k.val) ∧
    (∃ (r : Fin 16) (k : Fin 64) (p : Snapshot) (n : Nat) (s : State), s.noneDue ∧ s.roomRuns r.val = true ∧
    Sparse.find? s.rooms.taken (engineKey r k.val) = some p ∧
    (Sparse.find? s.rooms.counts (engineKey r k.val)).getD 0 = n ∧ p.window.length ≤ 960) ∧
    (∃ (r : Fin 16) (e : Fin 64) (p : Takeover) (slot : Nat) (x : Engine) (s : State), s.noneDue ∧
    s.rooms.rooms[r].pending.find? (fun p => p.spare == e.val) = some p ∧ s.cellarSupplies r p.task = true ∧
    s.bestSlot r p.task = some slot ∧ (Sparse.find? s.rooms.slots (2 * engineKey r p.task + slot)).getD Engine.zero = x) ∧
    (∃ (r : Fin 16) (e : Fin 64) (g : Nat) (s : State), s.noneDue ∧ r.val = 15 ∧ s.issues r e.val = true ∧
    (s.engine r e.val).wdog ≠ 0 ∧ (s.engine r e.val).hbtAt + 1024 * (s.engine r e.val).wdog.toNat ≤ s.tick ∧
    s.rooms.rooms[r].retired.contains e.val = false ∧ s.rooms.rooms[r].free.contains e.val = false ∧
    s.rooms.rooms[r].pending.find? (fun p => p.spare == e.val) = none ∧ s.taskOn r e.val = some g ∧ g < 62) :=
  ⟨⟨15, 0, 0, 0xFC400001,
    ({ stEng 15 0xFC400001 xEng with rooms := { (stEng 15 0xFC400001 xEng).rooms with guests := (stEng 15 0 xEng).rooms.guests.set 0 { Guest.empty with st := 2, fromHost := [77, 78] } } }),
    by unfold State.noneDue State.executes; decide +kernel⟩,
   ⟨3, 0, 0xFC400001, (stEng 3 0xFC400001 xEng), by unfold State.noneDue State.executes; decide +kernel⟩,
   ⟨3, 0, xEng, 0xFD400001, (stEng 3 0xFD400001 xEng), by unfold State.noneDue State.executes; decide +kernel⟩,
   ⟨15, 0, 0, xEng, 0xFD400000, (stEng 15 0xFD400000 xEng), by unfold State.noneDue State.executes; decide +kernel⟩,
   ⟨3, 0, xEng, 0xFE000001, (stEng 3 0xFE000001 xEng), by unfold State.noneDue State.executes; decide +kernel⟩,
   ⟨3, 0, { xEng with fp := #v[0x00A00000, 0x00A00000] }, 0xF1000004,
    stEng 3 0xF1000004 { xEng with fp := #v[0x00A00000, 0x00A00000] },
    by unfold State.noneDue State.executes; decide +kernel⟩,
   ⟨3, 0, xEng, 0xF1000004,
    ({ stEng 3 0xF1000004 xEng with mem := [(0x00100004, 0x78), (0x00100005, 0x56), (0x00100006, 0x34), (0x00100007, 0x12)] ++ (stEng 3 0xF1000004 xEng).mem }),
    by unfold State.noneDue State.executes; decide +kernel⟩,
   ⟨3, 0, xEng, 0xF5000004, (stEng 3 0xF5000004 xEng), by unfold State.noneDue State.executes; decide +kernel⟩,
   ⟨3, 0, 0, { stEng 3 0 { xEng with wdog := 5 } with tick := 6000 }, by unfold State.noneDue; decide +kernel⟩,
   ⟨3, 0, 2, 0, (stEng 3 0 xEng), by unfold State.noneDue; decide +kernel⟩,
   ⟨3, 0, xEng, (stEng 3 0 xEng), by unfold State.noneDue; decide +kernel⟩,
   ⟨3, 0, snap0, 6,
    ({ stEng 3 0 xEng with rooms := { (stEng 3 0 xEng).rooms with taken := [(engineKey 3 0, snap0)], counts := [(engineKey 3 0, 6)] } }),
    by unfold State.noneDue; decide +kernel⟩,
   ⟨3, 62, ({ task := 0, spare := 62, failed := 0, since := 0 }), 1, xEng, stTake,
    by unfold State.noneDue; decide +kernel⟩,
   ⟨15, 0, 0, { stEng 15 0 { xEng with wdog := 5 } with tick := 6000 }, by unfold State.noneDue; decide +kernel⟩⟩

end Sys2Proof.Tests
end

section
/-! The refutation of RegisterAccess.  Its last clause says that an IMAGE_COMMIT whose image is refused is answered
BAD_PARAM, whatever its origin.  The set of source 0x8008 can hold SAFE (R333): the raise then enters safe state before the
reply is placed, and in safe state tunnelled replies are not sent (R427).  No tunnel executes IMAGE_COMMIT (R425), but no
hypothesis of the clause keeps such an origin out.  The clause gives its state only up to the reactions that follow, so the
first part shows that no reaction touches the payloads that wait for a Tamid transmitter. -/

namespace Sys2Proof.Machine

open Reg

/-! ### The reactions keep what waits for the Tamid transmitters -/

/-- No payload of the part joins or leaves those that wait for the transmitter of a Tamid instance. -/
def KeepsOwn (s t : State) : Prop := ∀ i : Fin 8, t.tamid[i].own = s.tamid[i].own

/-- What the reactions of a raise change, the Tamid instances apart. -/
def reactPartsButTamid : List Part := reactParts.erase .tamid

section
variable {s t u : State}

theorem KeepsOwn.refl (s : State) : KeepsOwn s s := fun _ => rfl

theorem KeepsOwn.trans (h : KeepsOwn s t) (k : KeepsOwn t u) : KeepsOwn s u := fun i => (k i).trans (h i)

theorem KeepsOwn.ite {c : Prop} [Decidable c] (h : KeepsOwn s t) (k : KeepsOwn s u) :
    KeepsOwn s (if c then t else u) := by split <;> assumption

theorem KeepsOwn.foldl {α : Type} {f : State → α → State} (hf : ∀ x a, KeepsOwn x (f x a)) (l : List α) (s : State) :
    KeepsOwn s (l.foldl f s) := by
  induction l generalizing s with
  | nil => exact .refl s
  | cons a l ih => exact (hf s a).trans (ih (f s a))

theorem KeepsOwn.each {α : Type} {f : α → State → State} (hf : ∀ a x, KeepsOwn x (f a x)) (l : List α) (s : State) :
    KeepsOwn s (s.each l f) := KeepsOwn.foldl (fun x a => hf a x) l s

/-- An operation whose parts do not hold the Tamid instances keeps their payloads. -/
theorem Evolves.keepsOwn (h : Evolves reactPartsButTamid s t) : KeepsOwn s t := by
  have : t.tamid = s.tamid := h.only .tamid (by decide)
  exact fun i => by rw [this]

theorem KeepsOwn.andThen (h : KeepsOwn s t) (k : Evolves reactPartsButTamid t u) : KeepsOwn s u := h.trans k.keepsOwn

end

section
variable (s : State)

theorem State.modTamid_keepsOwn (i : Fin 8) {f : TamidInst → TamidInst} (hf : ∀ x, (f x).own = x.own) :
    KeepsOwn s (s.modTamid i f) := fun j => by
  by_cases e : i.val = j.val
  · obtain rfl : i = j := Fin.ext e
    simp [State.modTamid, hf]
  · simp [State.modTamid, Vector.getElem_set_ne _ _ e]

theorem State.tamidDrop_keepsOwn (i : Fin 8) : KeepsOwn s (s.tamidDrop i) := by
  unfold State.tamidDrop
  refine KeepsOwn.trans (fun j => ?_) (State.modTamid_keepsOwn _ i fun _ => rfl)
  split <;> simp

theorem KeepsOwn.setAcqState {s t : State} (h : KeepsOwn s t) (n : Fin 8) (v : Nat) :
    KeepsOwn s (t.setAcqState n v) := by
  have fall : KeepsOwn t (t.when (decide (v < 2)) fun t => t.tamidAcqFall n) :=
    .ite (.ite (t.tamidDrop_keepsOwn n) (.refl t)) (.refl t)
  unfold State.setAcqState
  refine (h.trans fall).andThen ?_
  exact State.modRx_evolves (State.setFld_evolves (.refl _ _) (regPart_line (by decide) (by decide))) (by decide)

theorem State.acqStart_keepsOwn (n : Fin 8) : KeepsOwn s (s.acqStart n) := by
  have lost : KeepsOwn s (s.loseLock n) := (State.loseLock_evolves (.refl _ s) (by decide)).keepsOwn
  have adc (x : State) {f : LineRx → LineRx} : Evolves reactPartsButTamid x
      ((((x.rotHold n).modRx n f).setFld (lineBase n) FEC_STATUS_FRAME_SEARCHES 0).adcStart n) :=
    State.adcStart_evolves (State.setFld_evolves (State.modRx_evolves (State.rotHold_evolves (.refl _ x) (by decide))
      (by decide)) (regPart_line (by decide) (by decide))) (by decide)
  refine lost.trans (.ite ?_ fun i => by simp)
  exact (KeepsOwn.setAcqState (adc _).keepsOwn n 1).andThen
    (State.bankRestored_evolves (State.unsettle_evolves (.refl _ _) (by decide)) (by decide))

theorem State.lineReacq_keepsOwn (n : Fin 8) : KeepsOwn s (s.lineReacq n) := .ite (.refl s) (s.acqStart_keepsOwn n)

theorem State.fastRelock_keepsOwn (n : Fin 8) : KeepsOwn s (s.fastRelock n) := by
  have hold {f : LineRx → LineRx} : KeepsOwn s ((s.rotHold n).modRx n f) :=
    (State.modRx_evolves (State.rotHold_evolves (.refl _ s) (by decide)) (by decide)).keepsOwn
  exact (hold.setAcqState n 8).andThen (State.unsettle_evolves (.refl _ _) (by decide))

theorem State.lineClocksReturn_keepsOwn (n : Fin 8) (near : Bool) : KeepsOwn s (s.lineClocksReturn n near) := by
  have hold : KeepsOwn s (s.rotHold n) := (State.rotHold_evolves (.refl _ s) (by decide)).keepsOwn
  refine .ite (s.acqStart_keepsOwn n) (.ite (hold.trans (.ite ?_ (.ite ?_ ?_))) (.refl s))
  · exact fun i => by simp
  · exact State.fastRelock_keepsOwn _ n
  · exact State.acqStart_keepsOwn _ n

theorem State.tamidCut_keepsOwn (i : Fin 8) : KeepsOwn s (s.tamidCut i) := by
  have cut : KeepsOwn s (s.modTamid i fun x => { x with air := none }) := s.modTamid_keepsOwn i fun _ => rfl
  unfold State.tamidCut
  split
  · exact cut.andThen (State.raise_evolves (State.refreshSending_evolves (.refl _ _) (by decide)) (by decide))
  · exact .refl s

theorem State.safeEntry_keepsOwn : KeepsOwn s s.safeEntry := by
  unfold State.safeEntry
  refine KeepsOwn.trans ?_ (KeepsOwn.each (fun i x => x.tamidCut_keepsOwn i) _ _)
  refine Evolves.keepsOwn (Evolves.each (Evolves.each (Evolves.each (State.bistCut_evolves (.refl _ s) (by decide))
    fun n x hx => ?_) fun m x hx => ?_) fun c x hx => ?_)
  · exact State.safeLine_evolves hx (by decide)
  · exact State.safeHost_evolves hx (by decide)
  · exact State.cdSafe_evolves hx (by decide)

theorem State.dozeExit_keepsOwn : KeepsOwn s s.dozeExit := by
  have line (near : Bool) (n : Fin 8) (x : State) :
      KeepsOwn x (if x.synLocked (lineSyn n) then x.lineClocksReturn n near else x) :=
    .ite (x.lineClocksReturn_keepsOwn n near) (.refl x)
  have host (near : Bool) (m : Fin 16) (x : State) :
      KeepsOwn x (if x.synLocked (hostSyn m) then x.hostClocksReturn m near else x) :=
    .ite (State.hostClocksReturn_evolves (.refl _ x) (by decide)).keepsOwn (.refl x)
  refine .ite (KeepsOwn.trans (fun i => ?_) ((KeepsOwn.each (line _) _ _).trans (KeepsOwn.each (host _) _ _))) (.refl s)
  simp [State.watchdogsStart]

/-- A reaction of a raise leaves the payloads that wait as they are: only REACQ, safe state and the end of DOZE reach a
Tamid instance, and they drop what it receives or cut what is on the air. -/
theorem State.reactOne_keepsOwn (d : Due) : KeepsOwn s (s.reactOne d) := by
  cases d with
  | lineCause n => exact (State.reactLine_evolves (.refl _ s) (by decide)).keepsOwn
  | hostCause m => exact (State.reactHost_evolves (.refl _ s) (by decide)).keepsOwn
  | lineReacq n => exact s.lineReacq_keepsOwn n
  | hostReacq m => exact (State.hostReacq_evolves (.refl _ s) (by decide)).keepsOwn
  | safe => exact s.safeEntry_keepsOwn
  | doze => exact s.dozeExit_keepsOwn

theorem State.reactRounds_keepsOwn (k : Nat) : KeepsOwn s (State.reactRounds k s) := by
  induction k generalizing s with
  | zero => exact .refl s
  | succ k ih =>
    have round : KeepsOwn s s.reactRound :=
      KeepsOwn.foldl State.reactOne_keepsOwn s.fuse.due { s with fuse := { s.fuse with due := [] } }
    exact .ite (.refl s) (round.trans (ih s.reactRound))

theorem State.react_keepsOwn : KeepsOwn s s.react := s.reactRounds_keepsOwn 8

end

/-! ### A refused image that enters safe state -/

/-- IMAGE_COMMIT came by the tunnel of Tamid instance 0, which is in STANDBY; the firmware area holds no image; and the
host has written SAFE as the set of IMAGE_AUTH_FAIL (R333). -/
def commitInTunnel : State :=
  { State.reset.setFld (tamidBase 0) TM_STATUS_STATE 1 with
    link := { Link.init with running := [⟨⟨0, .tamid 0⟩, 0x000A, 0⟩] }
    fuse := { FuseBox.init with sets := [(0x8008, rSafe)] } }

/-- The payloads that wait for the transmitter of an instance after a command. -/
def ownAfter (i : Fin 8) : Result State Fault Refusal → Option (List (List Byte))
  | .next t => some t.tamid[i].own
  | _ => none

/-- The model sends no reply: nothing waits for the transmitter once the commit is refused. -/
theorem commitInTunnel_unanswered : ownAfter 0 (exec (.commandComplete 0 0x000A) commitInTunnel) = some [] := by
  decide +kernel

theorem commitInTunnel_refused :
    imageValid commitInTunnel.cellarHeader (commitInTunnel.bytes 256 (0 - 256)) = false := by
  decide +kernel

/-- The reply that the clause asks for would wait for the transmitter. -/
theorem commitInTunnel_answer {u : State} (h : Answered commitInTunnel u ⟨0, .tamid 0⟩ stBadParam []) :
    u.tamid[(0 : Fin 8)].own = replyPayloads { seq := 0, status := stBadParam, results := [] } :=
  h rfl (by decide +kernel)

/-- Refutes O17: an IMAGE_COMMIT of a tunnel whose image is refused goes without its second reply where the set of source
0x8008 holds SAFE, since tunnelled replies are not sent in safe state (R427). -/
theorem not_registerAccess : ¬ Obligations.RegisterAccess := by
  rintro ⟨-, -, -, -, -, -, -, -, -, -, -, -, -, -, -, -, -, -, commit⟩
  obtain ⟨u, run, -, -, -, refused⟩ :=
    commit 0 0x000A ⟨0, .tamid 0⟩ 0 commitInTunnel rfl rfl rfl rfl rfl rfl (by decide)
  have answer := commitInTunnel_answer (refused commitInTunnel_refused).1
  have silent : ownAfter 0 (.next u.react) = some [] := run ▸ commitInTunnel_unanswered
  rw [ownAfter, u.react_keepsOwn 0, answer] at silent
  exact absurd silent (by decide +kernel)

end Sys2Proof.Machine
end

section
/-! Control flow and events on the engines (O59).  An engine that executes a word reads its operands, gets the word's
effect, and nothing else of the part moves but the counters of the room (R240 to R248): the first part says so once, for
every instruction that goes through `State.issueWith` or `State.issueFree`. -/

namespace Sys2Proof.Machine

/-! ### One engine changes -/

section
variable (s : State) (r : Fin 16) (e : Nat) (x : Engine)

@[simp] theorem State.setEngine_engine : (s.setEngine r e x).engine r e = x := Sparse.get_set_same _ _ _ _

theorem State.setEngine_rooms : (s.setEngine r e x).rooms.rooms = s.rooms.rooms := rfl

theorem EngineOnly.refl : EngineOnly r e s s := ⟨fun _ _ => rfl, rfl, rfl, rfl⟩

/-- A write of the engine keeps all else as it was. -/
theorem EngineOnly.setEngine {s t : State} {r : Fin 16} {e : Nat} (h : EngineOnly r e s t) (x : Engine) :
    EngineOnly r e s (t.setEngine r e x) := by
  obtain ⟨engines, rooms, mem, regs⟩ := h
  exact ⟨fun k hk => (Sparse.get_set_ne _ _ _ hk).trans (engines k hk), rooms, mem, regs⟩

theorem engineKey_injective (r : Fin 16) : Function.Injective (engineKey r) := fun a b h => by
  simp only [engineKey] at h; omega

/-- A word executed by one engine does not reach another of its room. -/
theorem EngineOnly.engine_ne {s t : State} {r : Fin 16} {e k : Nat} (h : EngineOnly r e s t) (hk : k ≠ e) :
    t.engine r k = s.engine r k := h.1 _ ((engineKey_injective r).ne hk)

theorem State.modGuest_guest {t : Nat} (f : Guest → Guest) (h : t < 62) : (s.modGuest t f).guest t = f (s.guest t) := by
  simp [State.modGuest, State.guest, h]

end

/-! ### What an instruction leaves of the engine -/

/-- The program goes on: only the PC and the loops and delay slots that steer it move (R242, R244, R245). -/
@[simp] theorem Engine.onward_other (x : Engine) :
    x.onward.d = x.d ∧ x.onward.stat = x.stat ∧ x.onward.evpend = x.evpend ∧ x.onward.timer = x.timer ∧
    x.onward.reload = x.reload ∧ x.onward.maskNext = x.maskNext ∧ x.onward.ckwBase = x.ckwBase ∧
    x.onward.ckwLen = x.ckwLen ∧ x.onward.wdog = x.wdog ∧ x.onward.hbtAt = x.hbtAt := by
  unfold Engine.onward
  split
  · split <;> simp
  · split
    · split
      · split <;> simp
      · simp
    · simp

@[simp] theorem Engine.advance_other (x : Engine) :
    x.advance.d = x.d ∧ x.advance.stat = x.stat ∧ x.advance.evpend = x.evpend ∧ x.advance.timer = x.timer ∧
    x.advance.reload = x.reload ∧ x.advance.maskNext = x.maskNext ∧ x.advance.ckwBase = x.ckwBase ∧
    x.advance.ckwLen = x.ckwLen ∧ x.advance.wdog = x.wdog ∧ x.advance.hbtAt = x.hbtAt := by
  unfold Engine.advance
  split
  · split <;> simp
  · simp

/-- The engine that an instruction works on: WAIT is over and the earlier loads have landed. -/
@[simp] theorem Engine.land_other (x : Engine) :
    x.land.stat = x.stat ∧ x.land.evpend = x.evpend ∧ x.land.pc = x.pc ∧ x.land.stack = x.stack ∧
    x.land.frame = x.frame ∧ x.land.maskNext = none := ⟨rfl, rfl, rfl, rfl, rfl, rfl⟩

/-! ### Executing a word -/

/-- The engine behind the word at its PC, whose effect is `f`. -/
def State.behind (s : State) (r : Fin 16) (e : Nat) (f : Word → Engine → Engine → Engine) : Engine :=
  (s.engine r e).after (opcodeOf (s.wordAt r e)) (f (s.wordAt r e) (s.engine r e))

/-- The part behind a word that only works on its engine: the instruction is counted, and the engine has its writes. -/
def State.issued (s : State) (r : Fin 16) (e : Nat) (f : Word → Engine → Engine → Engine) : State :=
  (s.countEvent (0x5001 + r.val * 0x100) 1).setEngine r e (s.behind r e f)

section
variable {s : State} {r : Fin 16} {e op : Nat} {f : Word → Engine → Engine → Engine}

@[simp] theorem State.issued_engine : (s.issued r e f).engine r e = s.behind r e f := State.setEngine_engine _ _ _ _

theorem State.issued_only : EngineOnly r e s (s.issued r e f) :=
  EngineOnly.setEngine ⟨fun _ _ => rfl, rfl, rfl, rfl⟩ _

/-- An engine that executes the row's instruction runs it; `g` is what it does beside the engine. -/
theorem State.issueWith_executes (h : s.executes r e op) {isRow : Word → Bool} (hr : isRow (s.wordAt r e) = true)
    (g : Word → Engine → State → State) :
    s.issueWith r e isRow f g = g (s.wordAt r e) (s.engine r e) (s.issued r e f) := by
  obtain ⟨ready, -, legal⟩ := h
  unfold State.wordAt at hr legal ⊢
  simp only [State.issueWith, ready, hr, legal, State.issued, State.behind, State.wordAt]
  rfl

theorem State.issueFree_executes {f : Word → Engine → Engine} (h : s.executes r e op) :
    s.issueFree r e op f = s.setEngine r e (f (s.wordAt r e) { s.engine r e with waiting := none }) := by
  obtain ⟨ready, code, legal⟩ := h
  unfold State.wordAt at code legal ⊢
  simp [State.issueFree, ready, code, legal]

theorem done_of_noneDue (h : s.noneDue) : done s = .next s := by rw [done, State.react_of_none h]

end

/-- An instruction answers what it does beside its engine, `g`, on the part behind it; here `g` raises nothing. -/
theorem done_issueWith {s : State} {r : Fin 16} {e op : Nat} {isRow : Word → Bool} {f : Word → Engine → Engine → Engine}
    {g : Word → Engine → State → State} (h : s.executes r e op) (hr : isRow (s.wordAt r e) = true)
    (hd : (g (s.wordAt r e) (s.engine r e) (s.issued r e f)).noneDue) :
    done (s.issueWith r e isRow f g) = .next (g (s.wordAt r e) (s.engine r e) (s.issued r e f)) := by
  rw [State.issueWith_executes h hr, done_of_noneDue hd]

theorem done_issue {s : State} {r : Fin 16} {e op : Nat} {f : Word → Engine → Engine → Engine}
    (h : s.executes r e op) (hd : s.noneDue) :
    done (s.issue r e op f) = .next (s.issued r e fun w x y => (f w x y).advance) :=
  done_issueWith h (by simp [h.2.1]) hd

theorem done_issueFree {s : State} {r : Fin 16} {e op : Nat} {f : Word → Engine → Engine}
    (h : s.executes r e op) (hd : s.noneDue) :
    done (s.issueFree r e op f) =
      .next (s.setEngine r e (f (s.wordAt r e) { s.engine r e with waiting := none })) := by
  rw [State.issueFree_executes h, done_of_noneDue (s := s.setEngine r e _) hd]

/-! ### Halting, signals and special registers (R246 to R248) -/

section
variable {s : State} {r : Fin 16} {e : Fin 64}

/-- HALT stops the engine, and the guest that it runs if it runs one; the instruction moves no task. -/
def State.halted (s : State) (r : Fin 16) (e : Nat) : State :=
  s.issued r e fun _ _ y => { y.advance with stopped := true }

theorem State.halted_stopped {k : Nat} : ((s.halted r k).engine r k).stopped = true := by
  simp [State.halted, State.behind, Engine.after]

/-- A guest that halts is stopped with cause 6, which raises nothing (R259, Table 10-14). -/
theorem State.guestTrap_halt (g : Nat) : s.guestTrap g 6 = s.modGuest g fun x => { x with cause := 6, st := 3 } := rfl

/-- The guest that HALT finds behind the instruction is the one that the engine ran. -/
theorem State.halt_executes (h : s.executes r e.val 0x3B) : exec (.engHalt r e) s = done
    (((s.guestOn r e.val).map fun g => (s.halted r e.val).guestTrap g 6).getD (s.halted r e.val)) := by
  show execEngHalt r e s = _
  rw [execEngHalt, State.issueWith_executes h (by simp [h.2.1])]
  refine congrArg done ?_
  have on : (s.halted r e.val).guestOn r e.val = s.guestOn r e.val := rfl
  rw [← on, State.guestOn, State.halted]
  split
  · next task => rw [task]; rfl
  · next task => rw [task]; rfl

theorem exec_engHalt (hd : s.noneDue) (h : s.executes r e.val 0x3B) (hg : s.guestOn r e.val = none) :
    exec (.engHalt r e) s = .next (s.halted r e.val) := by
  rw [State.halt_executes h, hg]
  exact done_of_noneDue (s := s.halted r e.val) hd

theorem exec_engHalt_guest {g : Nat} (hd : s.noneDue) (h : s.executes r e.val 0x3B) (hg : s.guestOn r e.val = some g) :
    exec (.engHalt r e) s =
      .next ((s.halted r e.val).modGuest g fun x => { x with cause := 6, st := 3 }) := by
  rw [State.halt_executes h, hg]
  exact done_of_noneDue (s := (s.halted r e.val).guestTrap g 6) hd

/-- SIG reaches the engine that runs the task of its number, which may be the engine that executes it. -/
theorem exec_engSig (hd : s.noneDue) (h : s.executes r e.val 0x38) : ∃ t : State, exec (.engSig r e) s = .next t ∧
    (t.engine r (s.runOn r (bitsAt (s.wordAt r e.val) 20 6))).evpend =
      (s.engine r (s.runOn r (bitsAt (s.wordAt r e.val) 20 6))).evpend ||| 8 ∧ t.mem = s.mem ∧ t.regs = s.regs := by
  refine ⟨_, done_issueWith h (by simp [h.2.1]) hd, ?_, rfl, rfl⟩
  have on : (s.issued r e.val fun _ _ y => y.advance).runOn r (bitsAt (s.wordAt r e.val) 20 6) =
    s.runOn r (bitsAt (s.wordAt r e.val) 20 6) := rfl
  rw [on, State.modEngine, State.setEngine_engine]
  by_cases own : s.runOn r (bitsAt (s.wordAt r e.val) 20 6) = e.val
  · rw [own, State.issued_engine]
    simp [State.behind, Engine.after]
  · rw [State.issued_only.engine_ne own]

theorem Engine.setSpecial_d (x : Engine) (now k : Nat) (v : BitVec 16) : (x.setSpecial now k v).d = x.d := by
  unfold Engine.setSpecial
  dsimp only
  split_ifs <;> rfl

/-- MVS writes the special register that its word names (Table 10-8). -/
theorem exec_engMvs (hd : s.noneDue) (h : s.executes r e.val 0x3A) {x : Engine} {w : Word}
    (hx : s.engine r e.val = x) (hw : s.wordAt r e.val = w) : ∃ t : State, exec (.engMvs r e) s = .next t ∧
    (bitsAt w 16 4 = 0 → (t.engine r e.val).stat = x.d[regD w].truncate 4) ∧
    (bitsAt w 16 4 = 1 → (t.engine r e.val).maskNext = some x.d[regD w]) ∧
    (bitsAt w 16 4 = 2 → (t.engine r e.val).evpend = x.evpend &&& ~~~x.d[regD w]) ∧
    (bitsAt w 16 4 = 3 → (t.engine r e.val).timer = x.d[regD w]) ∧
    (bitsAt w 16 4 = 4 → (t.engine r e.val).reload = x.d[regD w]) ∧
    (bitsAt w 16 4 = 7 → (t.engine r e.val).ckwBase = x.d[regD w]) ∧
    (bitsAt w 16 4 = 8 →
      (t.engine r e.val).ckwLen = (if 960 < x.d[regD w].toNat then 960 else x.d[regD w])) ∧
    (bitsAt w 16 4 = 9 → (t.engine r e.val).wdog = x.d[regD w] ∧ (t.engine r e.val).hbtAt = s.tick) ∧
    (t.engine r e.val).d = x.land.d ∧ EngineOnly r e.val s t := by
  subst hx hw
  refine ⟨_, done_issue h hd, ?_, ?_, ?_, ?_, ?_, ?_, ?_, ?_, ?_, State.issued_only⟩
  case refine_9 => simp [State.behind, Engine.after, Engine.setSpecial_d, Engine.land]
  all_goals
    intro k
    simp [State.behind, Engine.after, Engine.setSpecial, k]

/-! ### Shadow sets, events and timers -/

/-- The stages hold the set, and the engine sees event 2 (R14, R246). -/
theorem exec_shadowSetTaken {p : Nat × List (Nat × BitVec 16)} {rest : List (Nat × List (Nat × BitVec 16))}
    (hd : s.noneDue) (hp : (s.engine r e.val).published = p :: rest) : exec (.shadowSetTaken r e) s =
      .next ((s.modRoom r fun m => m.copySet ((s.taskOn r e.val).getD e.val) p.2).setEngine r e.val
        { s.engine r e.val with published := rest, evpend := (s.engine r e.val).evpend ||| 4 }) := by
  show execShadowSetTaken r e s = _
  simp only [execShadowSetTaken, hp]
  exact done_of_noneDue (s := (s.modRoom r _).setEngine r e.val _) hd

theorem exec_engineEventEntry {k : Nat} (hd : s.noneDue)
    (hk : lowestEvent (s.pendOf r e.val &&& (s.engine r e.val).evmask) = some k) (hi : s.issues r e.val = true)
    (hf : (s.engine r e.val).frame = none) (ho : (s.engine r e.val).open_ = true)
    (hw : (s.engine r e.val).waiting = none) :
    exec (.engineEventEntry r e) s =
      .next (s.setEngine r e.val ((s.engine r e.val).enter k (s.pendOf r e.val))) := by
  show execEngineEventEntry r e s = _
  simp only [execEngineEventEntry, hk, hi, hf, ho, hw]
  exact done_of_noneDue hd

theorem exec_engineTimerExpiry (hd : s.noneDue) (hi : s.issues r e.val = true) (hr : (s.engine r e.val).reload ≠ 0)
    (ht : s.timerNow (s.engine r e.val) = 0) :
    exec (.engineTimerExpiry r e) s = .next (s.setEngine r e.val { s.engine r e.val with
      evpend := (s.engine r e.val).evpend ||| 1, timer := (s.engine r e.val).reload, timerAt := s.tick }) := by
  show execEngineTimerExpiry r e s = _
  rw [execEngineTimerExpiry, if_pos ⟨hi, hr, ht⟩]
  exact done_of_noneDue hd

end

/-- Settles O59: each word has its effect on the engine behind it, by the rule for an executed word. -/
theorem engineControlAndEvents : Obligations.EngineControlAndEvents := by
  unfold Obligations.EngineControlAndEvents
  refine ⟨?br, ?call, ?ret, ?rep, ?rpb, ?wait, ?halt, ?haltGuest, ?evret, ?sig, ?mfs, ?mvs, ?shadow, ?entry, ?timer⟩
  case br =>
    rintro r e _ _ s hd rfl rfl h
    refine ⟨_, done_issueWith h (by simp [h.2.1]) hd, ?_, ?_, ?_, State.issued_only⟩ <;>
      simp [State.behind, Engine.after, Engine.branch]
  case call =>
    rintro r e _ _ s hd rfl rfl h
    refine ⟨_, done_issueWith h (by simp [h.2.1]) hd, ?_, ?_, ?_, State.issued_only⟩ <;>
      simp [State.behind, Engine.after, Engine.branch]
  case ret =>
    rintro r e _ _ s hd rfl rfl h
    refine ⟨_, done_issueWith h (by simp [h.2.1]) hd, ?_, ?_, ?_, State.issued_only⟩ <;>
      simp [State.behind, Engine.after, Engine.branch]
  case rep =>
    rintro r e _ _ s hd rfl rfl h
    exact ⟨_, done_issueFree h hd, by simp, by simp, by simp, (EngineOnly.refl _ _ _).setEngine _⟩
  case rpb =>
    rintro r e _ _ s hd rfl rfl h
    exact ⟨_, done_issueFree h hd, by simp, by simp, by simp, (EngineOnly.refl _ _ _).setEngine _⟩
  case wait =>
    rintro r e _ _ s hd rfl rfl h
    refine ⟨_, done_issueWith h (by simp [h.2.1]) hd, ?_, ?_, State.issued_only⟩ <;>
      simp [State.behind, Engine.after, Engine.land]
  case halt =>
    rintro r e _ _ s hd rfl rfl h hg
    refine ⟨_, exec_engHalt hd h hg, State.halted_stopped, ?_, State.issued_only⟩
    simp [State.halted, State.behind, Engine.after, Engine.land]
  case haltGuest =>
    intro r e g s hd h hg hb
    refine ⟨_, exec_engHalt_guest hd h hg, State.halted_stopped, ?_, ?_, rfl, rfl⟩ <;>
      rw [State.modGuest_guest _ _ hb]
  case evret =>
    intro r e f s hd h hf
    refine ⟨_, done_issueWith h (by simp [h.2.1]) hd, ?_, ?_, ?_, ?_, ?_, ?_, State.issued_only.setEngine _⟩ <;>
      simp [State.modEngine, State.behind, Engine.after, hf]
  case sig => rintro r e _ s hd h rfl; exact exec_engSig hd h
  case mfs =>
    rintro r e _ _ s hd rfl rfl h
    refine ⟨_, done_issue h hd, ?_, ?_, State.issued_only⟩ <;>
      simp [State.behind, Engine.after, Engine.setD, Engine.land]
  case mvs => exact fun r e x w s hd hx hw h => exec_engMvs hd h hx hw
  case shadow =>
    rintro r e _ p rest s hd rfl hp
    exact ⟨_, exec_shadowSetTaken hd hp, by simp, by simp, by simp,
      by rw [State.setEngine_rooms, State.modRoom_same], rfl, rfl⟩
  case entry =>
    rintro r e _ k s hd rfl hk hi hf ho hw
    exact ⟨_, exec_engineEventEntry hd hk hi hf ho hw, by simp [Engine.enter], by simp [Engine.enter],
      by simp [Engine.enter], by simp [Engine.enter], by simp [Engine.enter], by simp [Engine.enter],
      (EngineOnly.refl _ _ _).setEngine _⟩
  case timer =>
    rintro r e _ s hd rfl hi hr ht
    exact ⟨_, exec_engineTimerExpiry hd hi hr ht, by simp, by simp, by simp, (EngineOnly.refl _ _ _).setEngine _⟩

end Sys2Proof.Machine
end

section
/-! Following, pairs, groups, profile changes and ledgers (O56).  Every clause but those of the ledgers ends with a refresh
of the fill of a lane, which can hold its transmitter, stop a pre-distortion fade and so raise (R35, R142, R154): the first
part says once what such a refresh leaves alone. -/

namespace Sys2Proof.Machine

open Reg

/-! ### Raises of sources that are no level sources -/

/-- The commands that run, the rails and the profile in force are as they were. -/
structure Undisturbed (s t : State) : Prop where
  running : t.link.running = s.link.running
  rails : t.fuse.rails = s.fuse.rails
  profile : t.fld systemBase STATUS_PROFILE = s.fld systemBase STATUS_PROFILE

section
variable {s t u : State}

theorem Undisturbed.refl (s : State) : Undisturbed s s := ⟨rfl, rfl, rfl⟩

theorem Undisturbed.trans (h : Undisturbed s t) (k : Undisturbed t u) : Undisturbed s u :=
  ⟨k.running.trans h.running, k.rails.trans h.rails, k.profile.trans h.profile⟩

theorem Undisturbed.ite {c : Prop} [Decidable c] (h : Undisturbed s t) (k : Undisturbed s u) :
    Undisturbed s (if c then t else u) := by split <;> assumption

@[simp] theorem State.attnEdge_running (s : State) (low : Bool) : (s.attnEdge low).link.running = s.link.running := by
  unfold State.attnEdge; split <;> rfl

/-- Another field of the System block is written; the profile in force is not. -/
theorem State.setFld_profile (s : State) {f : Field} (v : Nat)
    (h : STATUS_PROFILE.off ≠ f.off ∨ f.lo + f.width ≤ STATUS_PROFILE.lo ∨ STATUS_PROFILE.lo + STATUS_PROFILE.width ≤ f.lo) :
    (s.setFld systemBase f v).fld systemBase STATUS_PROFILE = s.fld systemBase STATUS_PROFILE :=
  Regs.fld_setFld_apart _ h

theorem State.attn_undisturbed (s : State) {f : Field} (h : STATUS_PROFILE.off ≠ f.off) : Undisturbed s (s.attn f) := by
  refine ⟨by simp [State.attn], by simp, ?_⟩
  rw [State.fld_eq, State.attn, State.attnEdge_regs]
  exact s.setFld_profile _ (.inl h)

theorem State.raiseCore_rails (s : State) {src : Nat} (h : srcLevel src = false) (detail hide : Nat) :
    (s.raiseCore src detail hide).fuse.rails = s.fuse.rails := by
  have enter (f : FuseBox) (e : HistEntry) : (f.enter e).rails = f.rails := by unfold FuseBox.enter; split <;> rfl
  unfold State.raiseCore
  split
  · rfl
  · split
    · rfl
    · simp [apply_ite State.fuse, apply_ite FuseBox.rails, h, enter, FuseBox.activate]

/-- What a raise does to ATTN and to the state of the part. -/
theorem State.raiseTail_undisturbed (s : State) (c d : Bool) : Undisturbed s
    (if d then ((if c then s.attn ATTN_CAUSE_FAULT else s).attn ATTN_CAUSE_SAFE).setFld systemBase STATUS_DEV_STATE 4
      else if c then s.attn ATTN_CAUSE_FAULT else s) := by
  have fault : Undisturbed s (if c then s.attn ATTN_CAUSE_FAULT else s) :=
    .ite (s.attn_undisturbed (by decide)) (.refl s)
  refine .ite ((fault.trans (State.attn_undisturbed _ (by decide))).trans ⟨rfl, rfl, ?_⟩) fault
  exact State.setFld_profile _ _ (by decide)

theorem State.raiseCore_undisturbed (s : State) {src : Nat} (h : srcLevel src = false) (detail hide : Nat) :
    Undisturbed s (s.raiseCore src detail hide) := by
  refine ⟨?_, s.raiseCore_rails h detail hide, ?_⟩
  · unfold State.raiseCore
    split
    · rfl
    · split
      · rfl
      · exact (State.raiseTail_undisturbed _ _ _).running
  · unfold State.raiseCore
    split
    · rfl
    · split
      · rfl
      · exact (State.raiseTail_undisturbed _ _ _).profile

theorem State.attic_undisturbed (s : State) (x : Attic) : Undisturbed s { s with attic := x } := ⟨rfl, rfl, rfl⟩

theorem State.pushRecord_undisturbed (s : State) (r : AtticRecord) : Undisturbed s (s.pushRecord r) := by
  have overflow (x : Attic) (detail : Nat) : Undisturbed s ({ s with attic := x }.raiseCore 0x0012 detail 0) :=
    (s.attic_undisturbed x).trans (State.raiseCore_undisturbed _ (by decide) _ _)
  unfold State.pushRecord
  split
  · exact ⟨rfl, rfl, rfl⟩
  · exact overflow _ _

theorem State.atticEvent_undisturbed (s : State) (type : Nat) (payload : List Byte) :
    Undisturbed s (s.atticEvent type payload) := by
  have formed (x : Attic) (r : AtticRecord) : Undisturbed s ({ s with attic := x }.pushRecord r) :=
    (s.attic_undisturbed x).trans (State.pushRecord_undisturbed _ r)
  unfold State.atticEvent
  split
  · dsimp only
    split
    · exact ⟨rfl, rfl, rfl⟩
    · exact formed _ _
  · exact .refl s

/-- The entry to safe state is counted (Table 18-6). -/
def State.countSafe (s : State) (entered : Bool) : State :=
  if entered then { s with attic := { s.attic with safeStates := satNat 16 (s.attic.safeStates + 1) } } else s

theorem State.countSafe_undisturbed (s : State) (entered : Bool) : Undisturbed s (s.countSafe entered) :=
  .ite (s.attic_undisturbed _) (.refl s)

/-- The raise of a source that is no level source. -/
theorem State.raise_undisturbed (s : State) {src : Nat} (h : srcLevel src = false) (detail : Nat) :
    Undisturbed s (s.raise src detail) := by
  have record (u : State) (due entered : Bool) : Undisturbed u (if due then
      (u.countSafe entered).atticEvent 2 (u.countSafe entered).faultPayload else u.countSafe entered) :=
    .ite ((u.countSafe_undisturbed _).trans (State.atticEvent_undisturbed _ _ _)) (u.countSafe_undisturbed _)
  unfold State.raise State.raiseHiding
  exact (s.raiseCore_undisturbed h (detail % 0x10000) 0).trans (record _ _ _)

end

/-! ### What a refresh of fill leaves alone -/

/-- Registers of two line lanes, or two registers of one, do not meet (Table 12-3). -/
theorem lineBase_add_inj {k n off off' : Nat} (h : off < 0x10000) (h' : off' < 0x10000)
    (e : lineBase k + off = lineBase n + off') : k = n ∧ off = off' := by
  simp only [lineBase] at e; omega

/-- The link of a lane without its fill episodes. -/
def LaneLink.steady (l : LaneLink) : LaneLink := { l with fillRx := none, fillTx0 := none, fillTx1 := none }

/-- Of the lanes only the fill episodes and the status of the transmitter and of its pre-distortion move, and no source
leaves the active set. -/
structure FillOnly (s t : State) : Prop where
  link : ∀ k : Fin 8, t.line[k].link.steady = s.line[k].link.steady
  lanes : t.lanes = s.lanes
  kept : Undisturbed s t
  active : ∀ src, s.isActive src → t.isActive src
  reg : ∀ (k : Fin 8) (off : Nat), off < 0x10000 → off ≠ TX_STATUS_TX_STATE.off → off ≠ PD_STATUS_FADING.off →
    t.reg (lineBase k + off) = s.reg (lineBase k + off)

section
variable {s t u : State}

theorem FillOnly.refl (s : State) : FillOnly s s := ⟨fun _ => rfl, rfl, .refl s, fun _ h => h, fun _ _ _ _ _ => rfl⟩

theorem FillOnly.trans (h : FillOnly s t) (k : FillOnly t u) : FillOnly s u :=
  ⟨fun n => (k.link n).trans (h.link n), k.lanes.trans h.lanes, h.kept.trans k.kept,
    fun src a => k.active src (h.active src a), fun n off lt tx pd => (k.reg n off lt tx pd).trans (h.reg n off lt tx pd)⟩

theorem FillOnly.ite {c : Prop} [Decidable c] (h : FillOnly s t) (k : FillOnly s u) :
    FillOnly s (if c then t else u) := by split <;> assumption

theorem FillOnly.fld (h : FillOnly s t) (k : Fin 8) {f : Field} (lt : f.off < 0x10000)
    (tx : f.off ≠ TX_STATUS_TX_STATE.off) (pd : f.off ≠ PD_STATUS_FADING.off) :
    t.fld (lineBase k) f = s.fld (lineBase k) f := by
  rw [State.fld, State.fld, h.reg k f.off lt tx pd]

theorem FillOnly.flag (h : FillOnly s t) (k : Fin 8) {f : Field} (lt : f.off < 0x10000)
    (tx : f.off ≠ TX_STATUS_TX_STATE.off) (pd : f.off ≠ PD_STATUS_FADING.off) :
    t.flag (lineBase k) f = s.flag (lineBase k) f := by
  rw [State.flag, State.flag, h.fld k lt tx pd]

end

section
variable (s : State) (n : Fin 8)

theorem State.setFld_fillOnly {f : Field} (v : Nat)
    (h : f.off = TX_STATUS_TX_STATE.off ∨ f.off = PD_STATUS_FADING.off) : FillOnly s (s.setFld (lineBase n) f v) := by
  have lt : f.off < 0x10000 := by rcases h with h | h <;> rw [h] <;> decide
  refine ⟨fun _ => rfl, rfl, ⟨rfl, rfl, Regs.fld_setFld_ne _ ?_⟩, fun _ a => a, fun k off hoff tx pd => ?_⟩
  · have := n.isLt
    simp only [systemBase, lineBase, STATUS_PROFILE]; omega
  · exact Regs.reg_setFld_ne _ fun e => by
      have := (lineBase_add_inj hoff lt e).2
      rcases h with h | h <;> omega

theorem State.modLine_fillOnly {f : LineLane → LineLane} (h : ∀ l, (f l).link.steady = l.link.steady) :
    FillOnly s (s.modLine n f) := by
  refine ⟨fun k => ?_, rfl, ⟨rfl, rfl, rfl⟩, fun _ a => a, fun _ _ _ _ _ => rfl⟩
  by_cases e : k = n
  · rw [e, State.modLine_same, h]
  · rw [State.modLine_ne _ _ e]

/-- A raise of a line lane that is no level source. -/
theorem State.raise_fillOnly {src : Nat} (h : srcLevel src = false) (detail : Nat) : FillOnly s (s.raise src detail) := by
  have raised : Evolves raiseParts s (s.raise src detail) := State.raise_evolves (.refl _ s) (by decide)
  refine ⟨fun k => ?_, raised.only .lanes (by decide), s.raise_undisturbed h detail, fun _ a => State.raise_keeps a _ _,
    fun k off _ _ _ => ?_⟩
  · rw [show (s.raise src detail).line = s.line from raised.only .line (by decide)]
  · exact s.raise_sameOutside src detail _ (by simp only [lineBase, fuseBase]; omega)

variable {s} {n} {t : State} (h : FillOnly s t)
include h

theorem FillOnly.setFld {f : Field} (v : Nat) (k : f.off = TX_STATUS_TX_STATE.off ∨ f.off = PD_STATUS_FADING.off) :
    FillOnly s (t.setFld (lineBase n) f v) := h.trans (t.setFld_fillOnly n v k)

theorem FillOnly.setFlag {f : Field} (v : Bool) (k : f.off = TX_STATUS_TX_STATE.off ∨ f.off = PD_STATUS_FADING.off) :
    FillOnly s (t.setFlag (lineBase n) f v) := h.setFld _ k

theorem FillOnly.bump {f : Field} (k : f.off = TX_STATUS_TX_STATE.off ∨ f.off = PD_STATUS_FADING.off) :
    FillOnly s (t.bump (lineBase n) f) := h.setFld _ k

theorem FillOnly.setTxState (v : Nat) : FillOnly s (t.setTxState n v) := h.setFld v (.inl rfl)

theorem FillOnly.modTx (f : LineTx → LineTx) : FillOnly s (t.modTx n f) :=
  h.trans (t.modLine_fillOnly n fun _ => rfl)

theorem FillOnly.fadeStop : FillOnly s (t.fadeStop n pdRegs) := by
  have edge : srcLevel (lineSrc n pdRegs.src) = false := by revert n; decide
  have stopped := ((h.setFlag (n := n) (f := pdRegs.fading) false (.inr rfl)).setFlag (n := n) (f := pdRegs.pending)
    true (.inr rfl)).bump (n := n) (f := pdRegs.restarts) (.inr rfl)
  unfold State.fadeStop
  dsimp only
  split
  · exact stopped.trans (State.raise_fillOnly _ edge _)
  · exact h

theorem FillOnly.txHold : FillOnly s (t.txHold n) := ((h.setTxState 3).modTx _).fadeStop

theorem FillOnly.txRamp : FillOnly s (t.txRamp n) := .ite (h.setTxState 3) ((h.setTxState 4).modTx _)

theorem FillOnly.setCauses (set clear : Nat) : FillOnly s (t.setCauses n set clear) := by
  have caused (v : Nat) : FillOnly s (t.setFld (lineBase n) TX_STATUS_SQ_CAUSE v) := h.setFld v (.inl rfl)
  unfold State.setCauses
  dsimp only
  split
  · exact (caused _).txHold
  · split
    · exact (caused _).txRamp
    · exact caused _

/-- A refresh of the fill of a lane (R35, R154). -/
theorem FillOnly.refreshFill : FillOnly s (t.refreshFill n) := by
  have episodes (f : LaneLink → LaneLink) (k : ∀ l, (f l).steady = l.steady) : FillOnly s (t.modLinkOf n f) :=
    h.trans (t.modLine_fillOnly n fun l => k l.link)
  unfold State.refreshFill State.setCause
  dsimp only
  split
  · refine (episodes _ ?_).setCauses _ _
    exact fun _ => rfl
  · refine (episodes _ ?_).setCauses _ _
    exact fun _ => rfl

end

section
variable {s t : State} (h : FillOnly s t) (k : Fin 8)
include h

theorem FillOnly.outOfRange : t.line[k].link.outOfRange = s.line[k].link.outOfRange :=
  (congrArg LaneLink.outOfRange (h.link k) :)

theorem FillOnly.pairFill : t.line[k].link.pairFill = s.line[k].link.pairFill := (congrArg LaneLink.pairFill (h.link k) :)

theorem FillOnly.groupFill : t.line[k].link.groupFill = s.line[k].link.groupFill :=
  (congrArg LaneLink.groupFill (h.link k) :)

theorem FillOnly.profileFill : t.line[k].link.profileFill = s.line[k].link.profileFill :=
  (congrArg LaneLink.profileFill (h.link k) :)

end

theorem State.refreshFill_fillOnly (s : State) (n : Fin 8) : FillOnly s (s.refreshFill n) :=
  FillOnly.refreshFill (.refl s)

/-! ### Updates of every lane of a group -/

section
variable {α : Type} {f : α → State → State}

/-- What every update of a list keeps holds behind all of them. -/
theorem State.each_keeps {P : State → Prop} (keeps : ∀ x s, P s → P (f x s)) (l : List α) {s : State} (h : P s) :
    P (s.each l f) := by
  induction l generalizing s with
  | nil => exact h
  | cons a l ih => exact ih (keeps a s h)

/-- What the update of a member brings about, and the updates of the others keep, holds of every member of the list. -/
theorem State.each_all {P : α → State → Prop} (sets : ∀ x s, P x (f x s)) (keeps : ∀ x y s, P y s → P y (f x s))
    (l : List α) (s : State) : ∀ x ∈ l, P x (s.each l f) := by
  induction l generalizing s with
  | nil => exact fun _ h => absurd h List.not_mem_nil
  | cons a l ih =>
    rintro x (_ | ⟨_, hx⟩)
    · exact State.each_keeps (P := P a) (fun y t => keeps y a t) l (sets a s)
    · exact ih (f a s) x hx

/-- An update of one lane of a list after the other. -/
theorem State.each_lanes {f : Fin 8 → State → State} {P : Fin 8 → State → Prop} (sets : ∀ x s, P x (f x s))
    (keeps : ∀ x y s, y ≠ x → P y s → P y (f x s)) (l : List (Fin 8)) (s : State) : ∀ x ∈ l, P x (s.each l f) :=
  State.each_all sets (fun x y s h => by
    by_cases e : y = x
    · exact e ▸ sets x s
    · exact keeps x y s e h) l s

end

/-! ### Following (R28) -/

section
variable {s : State} {n : Fin 8} {stream : Option (Fin 16)} {ppm : Rat}

theorem State.raiseFollow_line (s : State) (n : Fin 8) (stream : Option (Fin 16)) :
    (s.raiseFollow n stream).line = s.line :=
  (State.raiseFollow_evolves (ps := .free :: raiseParts) (.refl _ s) (by decide)).only .line (by decide)

/-- A stream that leaves the range joins those of its lane, and the first one raises the level source. -/
theorem exec_followRange (hj : s.judged n stream = true) (hp : 150 < |ppm|)
    (ho : stream ∉ s.line[n].link.outOfRange) : ∃ u : State, exec (.followRange n stream ppm) s = .next u.react ∧
    stream ∈ u.line[n].link.outOfRange ∧ (s.line[n].link.outOfRange = [] →
      (∀ t : State, (∀ v, s.takes (lineSrc n 0x22) v → t.takes (lineSrc n 0x22) v) →
        (t.raiseFollow n stream).isActive (lineSrc n 0x22)) → u.isActive (lineSrc n 0x22)) := by
  refine ⟨_, if_pos ⟨hj, hp, by simpa using ho⟩, ?_⟩
  · have joins (t : State) (e : t.line = (s.modLinkOf n fun k => { k with outOfRange := k.outOfRange ++ [stream] }).line) :
        stream ∈ (t.refreshFill n).line[n].link.outOfRange := by
      rw [(t.refreshFill_fillOnly n).outOfRange, e, State.modLinkOf_same]
      simp
    refine ⟨joins _ ?_, fun first active => ?_⟩
    · split
      · exact State.raiseFollow_line _ _ _
      · rfl
    · refine (State.refreshFill_fillOnly _ n).active _ ?_
      rw [if_pos (by simpa using first)]
      exact active _ fun _ takes => takes

theorem State.raise_isActive_of_takes {src detail : Nat} (h : s.takes src detail) (k : detail < 0x10000) :
    (s.raise src detail).isActive src := State.raise_isActive (by rwa [Nat.mod_eq_of_lt k])

theorem State.raiseOpen_isActive {src : Nat} (h : ∀ v, s.takes src v) : (s.raiseOpen src).isActive src :=
  State.raise_isActive (s := { s with free := s.free + 1 }) (h _)

theorem State.quiet_line (s : State) (src : Nat) : (s.quiet src).line = s.line :=
  (State.quiet_evolves (ps := [.fuse]) (.refl _ s) (by decide)).only .line (by decide)

theorem State.quiet_rails (s : State) (src : Nat) : (s.quiet src).fuse.rails = s.fuse.rails.filter (· != src) := by
  have leave (t : State) : (t.leave src).fuse.rails = t.fuse.rails := by unfold State.leave; dsimp only; split <;> rfl
  unfold State.quiet
  dsimp only
  split
  · rfl
  · split
    · exact leave _
    · rfl

theorem State.followEnd_outOfRange (s : State) (n : Fin 8) (stream : Option (Fin 16)) :
    stream ∉ (s.followEnd n stream).line[n].link.outOfRange := by
  unfold State.followEnd
  split
  · dsimp only
    have out : stream ∉
        (s.modLinkOf n fun k => { k with outOfRange := k.outOfRange.filter (· != stream) }).line[n].link.outOfRange := by
      rw [State.modLinkOf_same]; simp
    split
    · simpa only [State.quiet_line] using out
    · exact out
  · next absent => simpa using absent

/-- With the last stream of the lane that was out of range the level source turns quiet (R28). -/
theorem State.followEnd_rails (h : s.line[n].link.outOfRange = [stream]) :
    lineSrc n 0x22 ∉ (s.followEnd n stream).fuse.rails := by
  have last : (s.modLinkOf n fun k => { k with outOfRange := k.outOfRange.filter (· != stream) }).line[n].link.outOfRange
      = [] := by rw [State.modLinkOf_same, h]; simp
  rw [State.followEnd, if_pos (by rw [h]; simp)]
  dsimp only
  rw [if_pos last, State.quiet_rails]
  simp

theorem exec_followRangeEnd (hp : |ppm| ≤ 150) : ∃ u : State,
    exec (.followRangeEnd n stream ppm) s = .next u.react ∧ stream ∉ u.line[n].link.outOfRange ∧
    (s.line[n].link.outOfRange = [stream] → lineSrc n 0x22 ∉ u.fuse.rails) := by
  have filled := (s.followEnd n stream).refreshFill_fillOnly n
  refine ⟨_, if_pos hp, ?_, fun h => ?_⟩
  · rw [filled.outOfRange]
    exact s.followEnd_outOfRange n stream
  · rw [filled.kept.rails]
    exact State.followEnd_rails h

end

/-! ### Ledger flags -/

section
variable (s : State) (n k : Fin 8) (w w' : Nat)

theorem ledgerUnsettled_of_off {w w' : Nat} (h : (ledgerUnsettled w).off = (ledgerUnsettled w').off) :
    ledgerUnsettled w = ledgerUnsettled w' := by
  revert h
  unfold ledgerUnsettled
  split_ifs <;> decide

theorem ledgerUnsettled_off_lt : (ledgerUnsettled w).off < 0x10000 := by
  unfold ledgerUnsettled; split_ifs <;> decide

theorem State.flag_setFlag_ledger (v : Bool) :
    (s.setFlag (lineBase n) (ledgerUnsettled w) v).flag (lineBase n) (ledgerUnsettled w) = v := by
  have fits : (ledgerUnsettled w).lo + (ledgerUnsettled w).width ≤ 32 := by
    unfold ledgerUnsettled; split_ifs <;> decide
  have width : (ledgerUnsettled w).width = 1 := by unfold ledgerUnsettled; split_ifs <;> rfl
  rw [State.flag_eq, State.setFlag_regs, Regs.fld_setFld_same _ fits, width]
  cases v <;> rfl

theorem State.unsettle_self : (s.unsettle n w).flag (lineBase n) (ledgerUnsettled w) = true :=
  s.flag_setFlag_ledger n w true

variable {s}

theorem State.unsettle_keeps (h : s.flag (lineBase k) (ledgerUnsettled w') = true) :
    (s.unsettle n w).flag (lineBase k) (ledgerUnsettled w') = true := by
  by_cases e : lineBase k + (ledgerUnsettled w').off = lineBase n + (ledgerUnsettled w).off
  · obtain ⟨lane, off⟩ := lineBase_add_inj (ledgerUnsettled_off_lt w') (ledgerUnsettled_off_lt w) e
    rw [lane, ledgerUnsettled_of_off off]
    exact s.unsettle_self n w
  · rw [State.flag_eq, State.unsettle, State.setFlag_regs, Regs.fld_setFld_ne _ e]
    exact h

end

theorem FillOnly.unsettled {s t : State} (h : FillOnly s t) (k : Fin 8) (w : Nat) :
    t.flag (lineBase k) (ledgerUnsettled w) = s.flag (lineBase k) (ledgerUnsettled w) := by
  refine h.flag k (ledgerUnsettled_off_lt w) ?_ ?_ <;>
    (unfold ledgerUnsettled; split_ifs <;> decide)

theorem State.isActive_of_fuse {s t : State} {src : Nat} (h : s.isActive src) (e : t.fuse = s.fuse) : t.isActive src := by
  rwa [State.isActive, e]

/-! ### Pairs (R34, R50) -/

section
variable {s : State} {n : Fin 8}

theorem exec_pairSlip {skew : Nat} {slips : Bool} (hr : s.pairRuns n = true) (hs : 64000 < skew ∨ slips = true)
    (ht : ∀ v, s.takes (lineSrc n 0x21) v) : ∃ u : State, exec (.pairSlip n skew slips) s = .next u.react ∧
    u.line[n].link.pairFill = true ∧ u.flag (lineBase n) LEDGER_TX0_UNSETTLED = true ∧
    u.flag (lineBase n) LEDGER_TX1_UNSETTLED = true ∧ u.isActive (lineSrc n 0x21) := by
  refine ⟨_, if_pos ⟨hr, hs⟩, ?_, ?_, ?_, ?_⟩
  · rw [(State.refreshFill_fillOnly _ n).pairFill]
    simp only [State.unsettle, State.setFlag_other, State.modLinkOf_same]
  · rw [show LEDGER_TX0_UNSETTLED = ledgerUnsettled 1 from rfl, (State.refreshFill_fillOnly _ n).unsettled]
    exact State.unsettle_keeps _ _ _ _ (State.unsettle_self _ n 1)
  · rw [show LEDGER_TX1_UNSETTLED = ledgerUnsettled 2 from rfl, (State.refreshFill_fillOnly _ n).unsettled]
    exact State.unsettle_self _ n 2
  · exact (State.refreshFill_fillOnly _ n).active _ (State.isActive_of_fuse (State.raiseOpen_isActive ht) (by
      simp only [State.unsettle, State.setFlag_other, State.modLinkOf_other]))

theorem exec_pairRealignDone (h : s.line[n].link.pairFill = true) : ∃ u : State,
    exec (.pairRealignDone n) s = .next u.react ∧ u.line[n].link.pairFill = false := by
  refine ⟨_, if_pos h, ?_⟩
  rw [(State.refreshFill_fillOnly _ n).pairFill, State.modLinkOf_same]

end

/-! ### Deskew and realignment of a group (R43, R44) -/

/-- The out-of-range flag of a direction of a lane. -/
def LaneLink.deskew (l : LaneLink) (host : Bool) : Bool := if host then l.deskewTx else l.deskewRx

theorem FillOnly.deskew {s t : State} (h : FillOnly s t) (k : Fin 8) (host : Bool) :
    t.line[k].link.deskew host = s.line[k].link.deskew host :=
  (congrArg (LaneLink.deskew · host) (h.link k) :)

section
variable (s : State) (n : Fin 8) (host : Bool)

theorem State.setDeskew_deskew (on : Bool) : ∀ k ∈ s.groupOf n, (s.setDeskew n host on).line[k].link.deskew host = on := by
  refine State.each_lanes (P := fun k t => t.line[k].link.deskew host = on) (fun k t => ?_) (fun k y t hy h => ?_) _ s
  · rw [(State.refreshFill_fillOnly _ k).deskew, State.modLinkOf_same]
    cases host <;> rfl
  · rwa [(State.refreshFill_fillOnly _ k).deskew, State.modLinkOf_ne _ _ hy]

theorem State.setDeskew_lanes (on : Bool) : (s.setDeskew n host on).lanes = s.lanes :=
  State.each_keeps (P := fun t => t.lanes = s.lanes)
    (fun k t h => (State.refreshFill_fillOnly (t.modLinkOf k _) k).lanes.trans h) _ rfl

theorem State.setDeskew_active {on : Bool} {src : Nat} (h : s.isActive src) : (s.setDeskew n host on).isActive src :=
  State.each_keeps (P := fun t => t.isActive src)
    (fun k t h => (State.refreshFill_fillOnly (t.modLinkOf k _) k).active src h) _ h

variable {s n host} {skew : Nat}

theorem exec_deskewRange (hl : 1 < (s.groupOf n).length) (hs : deskewBudget host < skew)
    (ht : s.takes (lineSrc (s.groupLead n) 0x20) (deskewDetail host skew)) : ∃ u : State,
    exec (.deskewRange n host skew) s = .next u.react ∧ u.isActive (lineSrc (s.groupLead n) 0x20) ∧
    ∀ k ∈ s.groupOf n, u.line[k].link.deskew host = true := by
  have detail : deskewDetail host skew < 0x10000 := by
    have : satNat 15 (quantise ((skew : Rat) / 1280)).toNat < 0x8000 := by unfold satNat; split <;> omega
    unfold deskewDetail
    split <;> omega
  have raised : Evolves raiseParts s (s.raise (lineSrc (s.groupLead n) 0x20) (deskewDetail host skew)) :=
    State.raise_evolves (.refl _ s) (by decide)
  refine ⟨_, if_pos ⟨hl, hs⟩, State.setDeskew_active _ n host (State.raise_isActive_of_takes ht detail), fun k hk => ?_⟩
  refine State.setDeskew_deskew _ n host true k ?_
  rwa [State.groupOf, show (s.raise _ _).lanes = s.lanes from raised.only .lanes (by decide)]

/-- The ledgers of a direction of a lane recompute: both host lanes of the host direction, or the line stream. -/
def State.unsettleWay (s : State) (k : Fin 8) (host : Bool) : State :=
  if host then (s.unsettle k 1).unsettle k 2 else s.unsettle k 0

/-- The first of those ledgers. -/
def wayLedger (host : Bool) : Nat := if host then 1 else 0

theorem State.unsettleWay_line (s : State) (k : Fin 8) (host : Bool) : (s.unsettleWay k host).line = s.line := by
  unfold State.unsettleWay
  split <;> simp only [State.unsettle, State.setFlag_other]

theorem State.unsettleWay_self (s : State) (k : Fin 8) (host : Bool) :
    (s.unsettleWay k host).flag (lineBase k) (ledgerUnsettled (wayLedger host)) = true := by
  cases host <;> simp only [State.unsettleWay, wayLedger, Bool.false_eq_true, if_false, if_true]
  · exact s.unsettle_self k 0
  · exact State.unsettle_keeps _ _ _ _ (s.unsettle_self k 1)

theorem State.unsettleWay_keeps {s : State} {y : Fin 8} {w : Nat} (k : Fin 8) (host : Bool)
    (h : s.flag (lineBase y) (ledgerUnsettled w) = true) :
    (s.unsettleWay k host).flag (lineBase y) (ledgerUnsettled w) = true := by
  unfold State.unsettleWay
  split
  · exact State.unsettle_keeps _ _ _ _ (State.unsettle_keeps _ _ _ _ h)
  · exact State.unsettle_keeps _ _ _ _ h

/-- A group whose skew fits again: its flags are off and its ledgers recompute (R43, R50). -/
def State.deskewed (s : State) (n : Fin 8) (host : Bool) : State :=
  (s.setDeskew n host false).each ((s.setDeskew n host false).groupOf n) fun k s => s.unsettleWay k host

theorem State.deskewed_line : (s.deskewed n host).line = (s.setDeskew n host false).line :=
  State.each_keeps (P := fun t => t.line = (s.setDeskew n host false).line)
    (fun k t h => (t.unsettleWay_line k host).trans h) _ rfl

theorem State.deskewed_unsettled (h : n ∈ s.groupOf n) :
    (s.deskewed n host).flag (lineBase n) (ledgerUnsettled (wayLedger host)) = true := by
  refine State.each_all (P := fun (k : Fin 8) t => t.flag (lineBase k) (ledgerUnsettled (wayLedger host)) = true)
    (fun k t => t.unsettleWay_self k host) (fun k _ _ h => State.unsettleWay_keeps k host h) _ _ n ?_
  rwa [State.groupOf, State.setDeskew_lanes]

theorem exec_deskewRetry (hs : skew ≤ deskewBudget host) (hd : s.line[n].link.deskew host = true) (hn : n ∈ s.groupOf n) :
    ∃ u : State, exec (.deskewRetry n host skew) s = .next u.react ∧ u.line[n].link.deskew host = false ∧
    u.flag (lineBase n) (ledgerUnsettled (wayLedger host)) = true := by
  have fits (u : State) (line : u.line = (s.deskewed n host).line) (regs : u.regs = (s.deskewed n host).regs) :
      u.line[n].link.deskew host = false ∧ u.flag (lineBase n) (ledgerUnsettled (wayLedger host)) = true := by
    constructor
    · rw [line, State.deskewed_line]
      exact s.setDeskew_deskew n host false n hn
    · rw [State.flag_eq, regs]
      exact State.deskewed_unsettled hn
  by_cases out : (s.deskewed n host).deskewOut n = true
  · exact ⟨_, (if_pos ⟨hs, hd⟩).trans (if_pos out), fits _ rfl rfl⟩
  · exact ⟨_, (if_pos ⟨hs, hd⟩).trans (if_neg out), fits _ (State.quiet_line _ _) (State.quiet_regs _ _)⟩

theorem exec_groupRealignDone (hg : s.line[n].link.groupFill = true) (hn : n ∈ s.groupOf n) : ∃ u : State,
    exec (.groupRealignDone n) s = .next u.react ∧ u.line[n].link.groupFill = false ∧
    u.lanes.mode = s.lanes.mode ∧ u.lanes.grouping = s.lanes.grouping := by
  have off : ∀ k ∈ s.groupOf n, (s.each (s.groupOf n) fun k s =>
      (s.modLinkOf k fun l => { l with groupFill := false }).refreshFill k).line[k].link.groupFill = false := by
    refine State.each_lanes (P := fun k t => t.line[k].link.groupFill = false) (fun k t => ?_) (fun k y t hy h => ?_) _ s
    · rw [(State.refreshFill_fillOnly _ k).groupFill, State.modLinkOf_same]
    · rwa [(State.refreshFill_fillOnly _ k).groupFill, State.modLinkOf_ne _ _ hy]
  have lanes : (s.each (s.groupOf n) fun k s =>
      (s.modLinkOf k fun l => { l with groupFill := false }).refreshFill k).lanes = s.lanes :=
    State.each_keeps (P := fun t => t.lanes = s.lanes)
      (fun k t h => (State.refreshFill_fillOnly (t.modLinkOf k _) k).lanes.trans h) _ rfl
  exact ⟨_, if_pos hg, off n hn, (congrArg Lanes.mode lanes :), (congrArg Lanes.grouping lanes :)⟩

end

/-! ### Ledgers (R46, R48, R50) -/

/-- The three fields of a ledger share one word (Table 2-9). -/
theorem ledger_fields (w : Nat) : ∃ o, o < LEDGER_WAIT_RX_WAIT.off ∧ ledgerPs w = ⟨o, 0, 20, 0⟩ ∧
    ledgerUnsettled w = ⟨o, 20, 1, 0⟩ ∧ ledgerSeq w = ⟨o, 24, 8, 0⟩ := by
  unfold ledgerPs ledgerUnsettled ledgerSeq
  split_ifs
  · exact ⟨0x200, by decide, rfl, rfl, rfl⟩
  · exact ⟨0x204, by decide, rfl, rfl, rfl⟩
  · exact ⟨0x208, by decide, rfl, rfl, rfl⟩

theorem satNat_lt_two_pow (width v : Nat) : satNat width v < 2 ^ width := by
  have := Nat.two_pow_pos width
  unfold satNat; split <;> omega

section
variable (s : State) (n : Fin 8) (w ps wait : Nat)

theorem State.attn_flag (f : Field) (h : f.lo + f.width ≤ 32) (k : f.width = 1) :
    (s.attn f).flag systemBase f = true := by
  rw [State.flag_eq, State.attn, State.attnEdge_regs, State.setFlag_regs, Regs.fld_setFld_same _ h, k]
  rfl

/-- The word of a ledger as a publication leaves it. -/
theorem State.ledgerPublish_reg {off : Nat} (h : off < LEDGER_WAIT_RX_WAIT.off) :
    (s.ledgerPublish n w ps wait).reg (lineBase n + off) =
      ((s.setFld (lineBase n) (ledgerPs w) ps).bumpMod (lineBase n) (ledgerSeq w)).reg (lineBase n + off) := by
  have away (u : State) : (u.attn ATTN_CAUSE_LEDGER).reg (lineBase n + off) = u.reg (lineBase n + off) :=
    u.attn_sameOutside _ (by decide) _ (by simp only [lineBase, fuseBase]; omega)
  have wait (u : State) {f : Field} (v : Nat) (e : f.off = LEDGER_WAIT_RX_WAIT.off) :
      (u.setFld (lineBase n) f v).reg (lineBase n + off) = u.reg (lineBase n + off) :=
    Regs.reg_setFld_ne _ (by omega)
  unfold State.ledgerPublish
  rw [away]
  split
  · exact wait _ _ rfl
  · split
    · exact wait _ _ rfl
    · rfl

theorem State.ledgerPublish_fld {f : Field} (h : f.off < LEDGER_WAIT_RX_WAIT.off) :
    (s.ledgerPublish n w ps wait).fld (lineBase n) f =
      ((s.setFld (lineBase n) (ledgerPs w) ps).bumpMod (lineBase n) (ledgerSeq w)).fld (lineBase n) f := by
  rw [State.fld, State.ledgerPublish_reg _ _ _ _ _ h, State.fld]

theorem State.ledgerPublish_ps (h : ps < 2 ^ 20) :
    (s.ledgerPublish n w ps wait).fld (lineBase n) (ledgerPs w) = ps := by
  obtain ⟨o, lt, ePs, -, eSeq⟩ := ledger_fields w
  rw [State.ledgerPublish_fld _ _ _ _ _ (by rwa [ePs]), State.fld_eq, State.bumpMod_regs,
    Regs.fld_setFld_apart _ (by simp [ePs, eSeq]), State.setFld_regs, Regs.fld_setFld_same _ (by simp [ePs]), ePs]
  exact Nat.mod_eq_of_lt h

theorem State.ledgerPublish_seq : (s.ledgerPublish n w ps wait).fld (lineBase n) (ledgerSeq w) =
    (s.fld (lineBase n) (ledgerSeq w) + 1) % 2 ^ (ledgerSeq w).width := by
  obtain ⟨o, lt, ePs, -, eSeq⟩ := ledger_fields w
  rw [State.ledgerPublish_fld _ _ _ _ _ (by rwa [eSeq]), State.fld_eq, State.bumpMod_regs,
    Regs.fld_setFld_same _ (by simp [eSeq]), State.setFld_regs, Regs.fld_setFld_apart _ (by simp [ePs, eSeq]), State.fld_eq]

theorem State.ledgerPublish_unsettled : (s.ledgerPublish n w ps wait).flag (lineBase n) (ledgerUnsettled w) =
    s.flag (lineBase n) (ledgerUnsettled w) := by
  obtain ⟨o, lt, ePs, eFlag, eSeq⟩ := ledger_fields w
  rw [State.flag, State.ledgerPublish_fld _ _ _ _ _ (by rwa [eFlag]), State.fld_eq, State.bumpMod_regs,
    Regs.fld_setFld_apart _ (by simp [eFlag, eSeq]), State.setFld_regs, Regs.fld_setFld_apart _ (by simp [eFlag, ePs]),
    State.flag_eq]

theorem State.ledgerPublish_attn : (s.ledgerPublish n w ps wait).flag systemBase ATTN_CAUSE_LEDGER = true := by
  unfold State.ledgerPublish
  exact State.attn_flag _ _ (by decide) rfl

/-- A settling leaves the sequence number of its ledger to the publication. -/
theorem State.settled_seq (v : Bool) : (s.setFlag (lineBase n) (ledgerUnsettled w) v).fld (lineBase n) (ledgerSeq w) =
    s.fld (lineBase n) (ledgerSeq w) := by
  obtain ⟨o, -, -, eFlag, eSeq⟩ := ledger_fields w
  rw [State.fld_eq, State.setFlag_regs, Regs.fld_setFld_apart _ (by simp [eFlag, eSeq]), State.fld_eq]

theorem State.ledgerPublish_noneDue (h : s.noneDue) : (s.ledgerPublish n w ps wait).noneDue := by
  have published : Evolves [.link, .systemRegs, .lineRegs] s (s.ledgerPublish n w ps wait) :=
    State.ledgerPublish_evolves (.refl _ s) (by decide)
  rwa [State.noneDue, show (s.ledgerPublish n w ps wait).fuse = s.fuse from published.only .fuse (by decide)]

theorem State.ledgerValue_lt (dev : Int) : s.ledgerValue n w dev wait < 2 ^ 20 := satNat_lt_two_pow 20 _

variable {s n} {which : Fin 3} {dev : Int} {wait : BitVec 16}

theorem exec_ledgerRecompute_unsettling (hd : s.noneDue) :
    exec (.ledgerRecompute n which dev wait true) s = .next (s.unsettle n which.val) :=
  done_of_noneDue (s := s.unsettle n which.val) hd

theorem exec_ledgerRecompute_moved (hd : s.noneDue) (hf : s.flag (lineBase n) (ledgerUnsettled which.val) = false)
    (hm : ledgerMoved (s.fld (lineBase n) (ledgerPs which.val)) (s.ledgerValue n which.val dev wait.toNat) = true) :
    exec (.ledgerRecompute n which dev wait false) s =
      .next (s.ledgerPublish n which.val (s.ledgerValue n which.val dev wait.toNat) wait.toNat) := by
  show (if _ then _ else _) = _
  rw [if_pos ⟨ne_of_eq_of_ne hf Bool.false_ne_true, hm⟩, done_of_noneDue (State.ledgerPublish_noneDue _ _ _ _ _ hd)]

theorem exec_ledgerRecompute_still (h : s.flag (lineBase n) (ledgerUnsettled which.val) = true ∨
      ledgerMoved (s.fld (lineBase n) (ledgerPs which.val)) (s.ledgerValue n which.val dev wait.toNat) = false) :
    exec (.ledgerRecompute n which dev wait false) s = .next s :=
  if_neg fun ⟨settled, moved⟩ => h.elim settled fun still => Bool.false_ne_true (still.symm.trans moved)

theorem exec_ledgerSettle (hd : s.noneDue) (hf : s.flag (lineBase n) (ledgerUnsettled which.val) = true)
    (hr : s.ledgerReady n which.val = true) : exec (.ledgerSettle n which dev wait false) s =
      .next ((s.setFlag (lineBase n) (ledgerUnsettled which.val) false).ledgerPublish n which.val
        (s.ledgerValue n which.val dev wait.toNat) wait.toNat) := by
  show (if _ then _ else _) = _
  rw [if_pos ⟨hf, hr, Bool.false_ne_true⟩]
  exact done_of_noneDue (State.ledgerPublish_noneDue (s.setFlag _ _ false) _ _ _ _ hd)

end

/-! ### The second reply of a command (R272, R425) -/

section
variable {s : State} {o : Origin} {status : Nat} {results : List Byte}

theorem State.refreshSending_tamidState (i : Fin 8) : (s.refreshSending i).tamidState i = s.tamidState i :=
  Regs.fld_setFld_apart _ (by decide)

/-- A payload of the part waits for the transmitter of a TAMID port that is awake. -/
theorem State.tamidOwn_awake {i : Fin 8} (p : List Byte) (hs : s.fuse.safe = false) (ha : s.tamidState i ≠ 0) :
    (s.tamidOwn i p).tamid[i].own = s.tamid[i].own ++ [p] ∧ (s.tamidOwn i p).fuse.safe = false ∧
    (s.tamidOwn i p).tamidState i ≠ 0 := by
  rw [State.tamidOwn, if_neg (by simp [hs]), if_neg ha, State.refreshSending_tamidState]
  refine ⟨?_, hs, ha⟩
  simp only [State.refreshSending, State.setFlag_other, State.modTamid_same]

theorem State.each_tamidOwn_awake {i : Fin 8} (ps : List (List Byte)) (hs : s.fuse.safe = false)
    (ha : s.tamidState i ≠ 0) : (s.each ps fun p s => s.tamidOwn i p).tamid[i].own = s.tamid[i].own ++ ps := by
  induction ps generalizing s with
  | nil => exact (List.append_nil _).symm
  | cons p ps ih =>
    obtain ⟨own, safe, awake⟩ := State.tamidOwn_awake p hs ha
    exact (ih safe awake).trans (by rw [own, List.append_assoc]; rfl)

theorem State.countRetry_of_ne (h : status ≠ stRetry) : s.countRetry status = s := if_neg h

theorem State.attn_outbox (s : State) (f : Field) : (s.attn f).link.outbox = s.link.outbox := by
  unfold State.attn State.attnEdge; split <;> rfl

theorem State.enqueue_outbox (r : Reply) (hw : s.link.waiting = []) (ho : s.link.outbox.length < 4) :
    (s.enqueue r).link.outbox = s.link.outbox ++ [r] := by
  rw [State.enqueue, if_pos ⟨ho, hw⟩, State.attn_outbox]
  rfl

/-- A reply that finds a place goes the way its packet came. -/
theorem State.reply_answered (hw : s.link.waiting = []) (ho : s.link.outbox.length < 4) (hr : status ≠ stRetry) :
    Answered s (s.reply o status results) o status results := by
  unfold Answered State.reply
  rw [State.countRetry_of_ne hr]
  dsimp only
  cases o.via with
  | tamid i => exact fun hs ha => State.each_tamidOwn_awake _ hs ha
  | _ => exact State.enqueue_outbox _ hw ho

theorem Answered.cmdDone {t : State} (h : Answered s t o status results) : Answered s (t.cmdDone o.via) o status results := by
  unfold Answered State.cmdDone at *
  dsimp only at *
  cases hv : o.via with
  | tamid i => simpa only [hv] using h
  | _ => simpa only [hv, State.attn_outbox] using h

theorem Evolves.undisturbed {ps : List Part} {s t : State} (h : Evolves ps s t) (hl : .link ∉ ps) (hf : .fuse ∉ ps)
    (hr : .systemRegs ∉ ps) : Undisturbed s t :=
  ⟨congrArg Link.running (h.only .link hl), congrArg FuseBox.rails (h.only .fuse hf), h.fld hr⟩

theorem State.reply_undisturbed (hr : status ≠ stRetry) : Undisturbed s (s.reply o status results) := by
  have place (u : State) (r : Reply) : Undisturbed u (u.enqueue r) := by
    have placed (x : Link) (k : x.running = u.link.running) : Undisturbed u { u with link := x } := ⟨k, rfl, rfl⟩
    have counted (v : State) : Undisturbed v (v.bumpMod systemBase MBOX_OUT_OUT_WR) :=
      ⟨rfl, rfl, v.setFld_profile _ (by decide)⟩
    unfold State.enqueue
    dsimp only
    split
    · refine ((placed _ ?_).trans (counted _)).trans (State.attn_undisturbed _ (f := ATTN_CAUSE_REPLY_READY) (by decide))
      rfl
    · exact ⟨rfl, rfl, rfl⟩
  unfold State.reply
  rw [State.countRetry_of_ne hr]
  dsimp only
  split
  · refine Evolves.undisturbed (ps := [.tamid, .tamidRegs]) ?_ (by decide) (by decide) (by decide)
    exact Evolves.each (.refl _ s) fun p t ht => State.tamidOwn_evolves ht (by decide)
  · exact place _ _

theorem State.cmdDone_undisturbed (s : State) (via : Via) : Undisturbed s (s.cmdDone via) := by
  unfold State.cmdDone
  split
  · exact .refl s
  · exact s.attn_undisturbed (by decide)

variable {opcode arg : Nat}

/-- The part once its one running command has left the list. -/
def State.noneRuns (s : State) : State := { s with link := { s.link with running := [] } }

theorem State.complete_only (h : s.link.running = [⟨o, opcode, arg⟩]) :
    s.complete opcode arg status results = (s.noneRuns.reply o status results).cmdDone o.via := by
  have found : s.runningOf opcode arg = some ⟨o, opcode, arg⟩ := by simp [State.runningOf, h]
  rw [State.complete, found]
  simp [h, State.noneRuns]

/-- The only command that runs ends: it leaves the list, and its second reply goes the way its packet came. -/
theorem State.complete_answers (h : s.link.running = [⟨o, opcode, arg⟩]) (hw : s.link.waiting = [])
    (ho : s.link.outbox.length < 4) (hr : status ≠ stRetry) :
    Answered s (s.complete opcode arg status results) o status results := by
  rw [State.complete_only h]
  exact Answered.cmdDone (State.reply_answered (s := s.noneRuns) hw ho hr)

theorem State.complete_runs (h : s.link.running = [⟨o, opcode, arg⟩]) (hr : status ≠ stRetry) :
    (s.complete opcode arg status results).link.running = [] ∧
    (s.complete opcode arg status results).fld systemBase STATUS_PROFILE = s.fld systemBase STATUS_PROFILE := by
  have kept : Undisturbed s.noneRuns (s.complete opcode arg status results) := by
    rw [State.complete_only h]
    exact (State.reply_undisturbed hr).trans (State.cmdDone_undisturbed _ _)
  exact ⟨kept.running, kept.profile⟩

/-- What the end of a command changes (R272, R425). -/
def completeParts : List Part := [.link, .tamid, .systemRegs, .tamidRegs, .keyRegs]

theorem State.complete_parts (s : State) (opcode arg status : Nat) (results : List Byte) :
    Evolves completeParts s (s.complete opcode arg status results) := State.complete_evolves (.refl _ s) (by decide)

end

/-! ### The end of a lane-mode change (R44) -/

theorem exec_laneModeChangeDone {s : State} {o : Origin} (hd : s.noneDue) (hc : s.lanes.modeChange ≠ [])
    (hr : s.link.running = [⟨o, 0x0004, 0⟩]) (hw : s.link.waiting = []) (ho : s.link.outbox.length < 4) :
    ∃ t : State, exec .laneModeChangeDone s = .next t ∧ t.lanes = { s.lanes with modeChange := [] } ∧
    t.link.running = [] ∧ Answered s t o stOk [] := by
  let u : State := { s with lanes := { s.lanes with modeChange := [] } }
  have ends := u.complete_parts 0x0004 0 stOk []
  refine ⟨u.complete 0x0004 0 stOk [], (if_neg hc).trans (done_of_noneDue ?_), ends.only .lanes (by decide),
    (State.complete_runs (s := u) hr (by decide)).1, State.complete_answers (s := u) hr hw ho (by decide)⟩
  rwa [State.noneDue, show (u.complete _ _ _ _).fuse = s.fuse from ends.only .fuse (by decide)]

/-! ### A group switches profile (R21) -/

section
variable (s : State) (n k : Fin 8)

theorem State.fadeBypass_line : (s.fadeBypass n nlcRegs).line = s.line :=
  (State.fadeBypass_evolves (ps := [.tamid, .pantry, .lineRegs, .tamidRegs, .pantryRegs]) (.refl _ s) nlcRegs_inBlock
    (by decide)).only .line (by decide)

/-- A bypass of the canceller writes one word of its lane. -/
theorem State.fadeBypass_reg {off : Nat} (h : off < 0x10000) (ne : off ≠ NLC_STATUS_FADING.off) :
    (s.fadeBypass n nlcRegs).reg (lineBase k + off) = s.reg (lineBase k + off) := by
  have installed (u : State) : (u.installDone n nlcRegs).reg (lineBase k + off) = u.reg (lineBase k + off) := by
    have done : Evolves [.tamid, .pantry, .tamidRegs, .pantryRegs] u (u.installDone n nlcRegs) :=
      State.installDone_evolves (.refl _ u) nlcRegs_inBlock (by decide)
    have lane : regPart (lineBase k + off) = .lineRegs :=
      List.mem_singleton.mp (regPart_line h (List.Subset.refl _) (List.mem_singleton_self _))
    exact done.reg (by rw [lane]; decide)
  have away (u : State) {f : Field} (v : Nat) (e : f.off = NLC_STATUS_FADING.off) :
      (u.setFld (lineBase n) f v).reg (lineBase k + off) = u.reg (lineBase k + off) :=
    Regs.reg_setFld_ne _ fun e' => ne ((lineBase_add_inj h (by rw [e]; decide) e').2.trans e)
  unfold State.fadeBypass
  split
  · unfold State.fadeFinish
    dsimp only
    rw [installed, State.setFlag, away _ (f := nlcRegs.pending) _ rfl, State.setFlag,
      away _ (f := nlcRegs.fading) _ rfl, away _ (f := nlcRegs.active) _ rfl]
  · rfl

theorem State.unsettle_reg (w : Nat) {off : Nat} (h : off < 0x10000) (ne : off ≠ (ledgerUnsettled w).off) :
    (s.unsettle n w).reg (lineBase k + off) = s.reg (lineBase k + off) :=
  Regs.reg_setFld_ne _ fun e => ne (lineBase_add_inj h (ledgerUnsettled_off_lt w) e).2

theorem State.unsettle_line (w : Nat) : (s.unsettle n w).line = s.line := by
  simp only [State.unsettle, State.setFlag_other]

/-- What the switch of a lane does behind its taps, its search depth and its fill. -/
def State.switchRest : State :=
  ((if s.nlcInUse n then s else s.fadeBypass n nlcRegs).unsettleAll n).refreshFill n

theorem State.switchRest_profileFill :
    (s.switchRest n).line[k].link.profileFill = s.line[k].link.profileFill := by
  have line : ((if s.nlcInUse n then s else s.fadeBypass n nlcRegs).unsettleAll n).line = s.line := by
    rw [State.unsettleAll, State.unsettle_line, State.unsettle_line, State.unsettle_line]
    split
    · rfl
    · exact s.fadeBypass_line n
  rw [State.switchRest, (State.refreshFill_fillOnly _ n).profileFill, line]

theorem State.switchRest_depth :
    (s.switchRest n).fld (lineBase k) FEC_STATUS_CHASE_L = s.fld (lineBase k) FEC_STATUS_CHASE_L := by
  rw [State.switchRest, (State.refreshFill_fillOnly _ n).fld k (by decide) (by decide) (by decide), State.fld, State.fld,
    State.unsettleAll, State.unsettle_reg _ _ _ _ (by decide) (by decide),
    State.unsettle_reg _ _ _ _ (by decide) (by decide), State.unsettle_reg _ _ _ _ (by decide) (by decide)]
  split
  · rfl
  · rw [State.fadeBypass_reg _ _ _ (by decide) (by decide)]

theorem State.switchRest_unsettled : (s.switchRest n).flag (lineBase n) (ledgerUnsettled 0) = true := by
  rw [State.switchRest, (State.refreshFill_fillOnly _ n).unsettled]
  exact State.unsettle_keeps _ _ _ _ (State.unsettle_keeps _ _ _ _ (State.unsettle_self _ n 0))

variable {s k} in
theorem State.switchRest_keepsUnsettled (h : s.flag (lineBase k) (ledgerUnsettled 0) = true) :
    (s.switchRest n).flag (lineBase k) (ledgerUnsettled 0) = true := by
  rw [State.switchRest, (State.refreshFill_fillOnly _ n).unsettled]
  refine State.unsettle_keeps _ _ _ _ (State.unsettle_keeps _ _ _ _ (State.unsettle_keeps _ _ _ _ ?_))
  split
  · exact h
  · rw [State.flag, State.fld, State.fadeBypass_reg _ _ _ (by decide) (by decide)]
    exact h

variable {s} in
theorem State.reg_of_regs {t : State} (h : t.regs = s.regs) (a : Nat) : t.reg a = s.reg a := by
  rw [State.reg_eq, h, State.reg_eq]

theorem State.modRx_regs (f : LineRx → LineRx) : (s.modRx n f).regs = s.regs := by simp only [State.modRx_other]

theorem State.modLinkOf_regs (f : LaneLink → LaneLink) : (s.modLinkOf n f).regs = s.regs := by
  simp only [State.modLinkOf_other]

/-- The taps outside the range of a profile are discarded (R85). -/
def State.clearTaps (target : Nat) : State :=
  s.each (List.range 64) fun k s =>
    if (tapRange target).1 ≤ k ∧ k < (tapRange target).1 + (tapRange target).2 then s
    else s.setFld (lineBase n) (FFE_TAP_COEF.ix k) 0

theorem State.switchTaps_eq (target : Nat) : s.switchTaps n target =
    ((s.clearTaps n target).setFld (lineBase n) FEC_STATUS_CHASE_L (chaseL target)).modRx n
      fun r => { r with switchTick := some (s.clearTaps n target).tick } := by
  unfold State.switchTaps State.clearTaps
  with_reducible rfl

theorem State.clearTaps_line (target : Nat) : (s.clearTaps n target).line = s.line :=
  State.each_keeps (P := fun t => t.line = s.line) (fun i t e => by split <;> exact e) _ rfl

theorem State.setFld_reg_otherLane (ne : k ≠ n) {f : Field} (v : Nat) (lt : f.off < 0x10000) {off : Nat}
    (h : off < 0x10000) : (s.setFld (lineBase n) f v).reg (lineBase k + off) = s.reg (lineBase k + off) :=
  Regs.reg_setFld_ne _ fun e => ne (Fin.ext (lineBase_add_inj h lt e).1)

theorem State.clearTaps_reg_otherLane (target : Nat) (ne : k ≠ n) {off : Nat} (h : off < 0x10000) :
    (s.clearTaps n target).reg (lineBase k + off) = s.reg (lineBase k + off) := by
  refine State.each_keeps (P := fun t => t.reg (lineBase k + off) = s.reg (lineBase k + off)) (fun i t e => ?_) _ rfl
  split
  · exact e
  · exact (t.setFld_reg_otherLane n k ne 0 (Field.ix_lt _ _) h).trans e

theorem State.switchTaps_depth (target : Nat) :
    (s.switchTaps n target).fld (lineBase n) FEC_STATUS_CHASE_L = chaseL target := by
  have lt : chaseL target < 2 ^ FEC_STATUS_CHASE_L.width := by unfold chaseL; split_ifs <;> decide
  rw [State.switchTaps_eq, State.fld_eq, State.modRx_regs, State.setFld_regs, Regs.fld_setFld_same _ (by decide),
    Nat.mod_eq_of_lt lt]

/-- The switch of a lane leaves the registers of the others alone. -/
theorem State.switchTaps_reg_otherLane (target : Nat) (ne : k ≠ n) {off : Nat} (h : off < 0x10000) :
    (s.switchTaps n target).reg (lineBase k + off) = s.reg (lineBase k + off) := by
  rw [State.switchTaps_eq, State.reg_of_regs (State.modRx_regs _ _ _), State.setFld_reg_otherLane _ n k ne _ (by decide) h,
    s.clearTaps_reg_otherLane n k target ne h]

theorem State.switchTaps_link (target : Nat) : (s.switchTaps n target).line[k].link = s.line[k].link := by
  rw [State.switchTaps_eq]
  by_cases e : k = n
  · rw [e, State.modRx_same]
    simp only [State.setFld_other, State.clearTaps_line]
  · rw [State.modRx_ne _ _ e]
    simp only [State.setFld_other, State.clearTaps_line]

/-- The switch of a lane. -/
def State.switchLane (target : Nat) : State :=
  ((s.switchTaps n target).modLinkOf n fun l => { l with profileFill := true }).switchRest n

/-- The lane has switched: its search depth is the profile's, it fills, and its ledger recomputes. -/
structure Switched (target : Nat) (k : Fin 8) (t : State) : Prop where
  depth : t.fld (lineBase k) FEC_STATUS_CHASE_L = chaseL target
  fill : t.line[k].link.profileFill = true
  unsettled : t.flag (lineBase k) (ledgerUnsettled 0) = true

theorem State.switchLane_self (target : Nat) : Switched target n (s.switchLane n target) := by
  refine ⟨?_, ?_, State.switchRest_unsettled _ n⟩
  · rw [State.switchLane, State.switchRest_depth, State.fld_eq, State.modLinkOf_regs, ← State.fld_eq,
      State.switchTaps_depth]
  · rw [State.switchLane, State.switchRest_profileFill, State.modLinkOf_same]

variable {s k} in
theorem State.switchLane_keeps {target : Nat} (ne : k ≠ n) {p : Nat} (h : Switched p k s) :
    Switched p k (s.switchLane n target) := by
  have word {off : Nat} (lt : off < 0x10000) : ((s.switchTaps n target).modLinkOf n
      fun l => { l with profileFill := true }).reg (lineBase k + off) = s.reg (lineBase k + off) :=
    (State.reg_of_regs (State.modLinkOf_regs _ n _) _).trans (s.switchTaps_reg_otherLane n k target ne lt)
  refine ⟨?_, ?_, State.switchRest_keepsUnsettled n ?_⟩
  · rw [State.switchLane, State.switchRest_depth, State.fld, word (by decide)]
    exact h.depth
  · rw [State.switchLane, State.switchRest_profileFill, State.modLinkOf_ne _ _ ne, State.switchTaps_link]
    exact h.fill
  · rw [State.flag, State.fld, word (by decide)]
    exact h.unsettled

theorem State.switchRest_lanes : (s.switchRest n).lanes = s.lanes := by
  rw [State.switchRest, (State.refreshFill_fillOnly _ n).lanes]
  simp only [State.unsettleAll, State.unsettle, State.setFlag_other]
  split
  · rfl
  · exact (State.fadeBypass_evolves (ps := [.tamid, .pantry, .lineRegs, .tamidRegs, .pantryRegs]) (.refl _ s)
      nlcRegs_inBlock (by decide)).only .lanes (by decide)

theorem State.switchLane_lanes (target : Nat) : (s.switchLane n target).lanes = s.lanes := by
  have taps : Evolves [.line, .lineRegs] s (s.switchTaps n target) := State.switchTaps_evolves (.refl _ s) (by decide)
  rw [State.switchLane, State.switchRest_lanes, ← show (s.switchTaps n target).lanes = s.lanes from
    taps.only .lanes (by decide)]
  simp only [State.modLinkOf_other]

variable {s n} {c : ProfileChange}

theorem exec_profileGroupSwitch (hc : s.lanes.change = some c) (hs : c.switching = none)
    (hg : s.nextGroup c = some (s.groupLead n)) (hf : s.groupFading n = false) (hn : n ∈ s.groupOf n) : ∃ u : State,
    exec (.profileGroupSwitch n) s = .next u.react ∧
    u.lanes.change = some { c with
      left := c.left.filter (fun k => !((s.groupOf n).map Fin.val).contains k),
      switching := some (s.groupLead n).val } ∧ Switched c.target n u := by
  let v : State := { s with lanes := { s.lanes with change := some { c with
    left := c.left.filter (fun k => !((s.groupOf n).map Fin.val).contains k), switching := some (s.groupLead n).val } } }
  refine ⟨v.each (s.groupOf n) fun k s => s.switchLane k c.target, ?_, ?_, ?_⟩
  · show execProfileGroupSwitch n s = _
    simp only [execProfileGroupSwitch, hc]
    exact if_pos ⟨hs, hg, by simp [hf]⟩
  · have lanes : (v.each (s.groupOf n) fun k s => s.switchLane k c.target).lanes = v.lanes :=
      State.each_keeps (P := fun t => t.lanes = v.lanes) (fun k t h => (t.switchLane_lanes k c.target).trans h) _ rfl
    exact (congrArg Lanes.change lanes :)
  · exact State.each_lanes (P := Switched c.target) (fun k t => t.switchLane_self k c.target)
      (fun k y t ne h => State.switchLane_keeps k ne h) _ v n hn

end

/-! ### A group is re-aligned after its switch (R21) -/

section
variable {s : State} {n : Fin 8} {c : ProfileChange} {o : Origin}

/-- The switch of a group is over, and no lane fills for it any more. -/
def State.realigned (s : State) (c : ProfileChange) : State :=
  { s with lanes := { s.lanes with change := some { c with switching := none } } }.each allLines fun k s =>
    (s.modLinkOf k fun l => { l with profileFill := false }).refreshFill k

theorem State.realigned_keeps (s : State) (c : ProfileChange) :
    (s.realigned c).lanes = { s.lanes with change := some { c with switching := none } } ∧ Undisturbed s (s.realigned c) :=
  State.each_keeps (P := fun t => t.lanes = { s.lanes with change := some { c with switching := none } } ∧ Undisturbed s t)
    (fun k t ⟨lanes, kept⟩ => by
      have filled := (t.modLinkOf k fun l => { l with profileFill := false }).refreshFill_fillOnly k
      have cleared : Undisturbed t (t.modLinkOf k fun l => { l with profileFill := false }) := ⟨rfl, rfl, rfl⟩
      exact ⟨filled.lanes.trans lanes, (kept.trans cleared).trans filled.kept⟩)
    allLines ⟨rfl, ⟨rfl, rfl, rfl⟩⟩

theorem exec_profileGroupRealigned (hc : s.lanes.change = some c)
    (hs : (c.switching.map fun k => s.groupLead (Fin.ofNat 8 k)) = some (s.groupLead n)) :
    exec (.profileGroupRealigned n) s =
      if c.left = [] then done ((s.realigned c).profileDone c.target) else done (s.realigned c) := by
  show execProfileGroupRealigned n s = _
  simp only [execProfileGroupRealigned, hc, if_pos hs]
  rfl

/-- With no change waiting, the end of a profile change answers its command. -/
theorem State.profileDone_of_unwanted {target : Nat} (ht : target ≤ 3) (hw : s.lanes.wanted = none)
    (hr : s.link.running = [⟨o, 0x0003, target⟩]) : (s.profileDone target).lanes.change = none ∧
    (s.profileDone target).fld systemBase STATUS_PROFILE = target ∧ (s.profileDone target).link.running = [] := by
  let v : State := { s with lanes := { s.lanes with change := none } }
  let w : State := (v.setFld systemBase STATUS_PROFILE target).reloadChains s.profile target
  have loaded : Evolves [.chain, .chainRegs] (v.setFld systemBase STATUS_PROFILE target) w :=
    State.reloadChains_evolves (.refl _ _) (by decide)
  have ends := w.complete_parts 0x0003 target stOk []
  have lanes : (w.complete 0x0003 target stOk []).lanes = { s.lanes with change := none } :=
    (ends.only .lanes (by decide)).trans (loaded.only .lanes (by decide))
  have answered : w.link.running = [⟨o, 0x0003, target⟩] :=
    (congrArg Link.running (loaded.only .link (by decide))).trans hr
  have written : w.fld systemBase STATUS_PROFILE = target :=
    ((loaded.fld (by decide)).trans (Regs.fld_setFld_same _ (by decide))).trans (Nat.mod_eq_of_lt (by
      show target < 4; omega))
  have unwanted : s.profileDone target = w.complete 0x0003 target stOk [] := by
    unfold State.profileDone
    dsimp only
    rw [show ((State.reloadChains _ _ _).complete _ _ _ _).lanes.wanted = none from (congrArg Lanes.wanted lanes).trans hw]
  obtain ⟨gone, profile⟩ := State.complete_runs (status := stOk) (results := []) answered (by decide)
  rw [unwanted]
  exact ⟨congrArg Lanes.change lanes, profile.trans written, gone⟩

/-- A group of several that switch: the others come next. -/
theorem exec_profileGroupRealigned_more (hc : s.lanes.change = some c)
    (hs : (c.switching.map fun k => s.groupLead (Fin.ofNat 8 k)) = some (s.groupLead n)) (hl : c.left ≠ []) :
    ∃ u : State, exec (.profileGroupRealigned n) s = .next u.react ∧
    u.lanes = { s.lanes with change := some { c with switching := none } } ∧
    u.fld systemBase STATUS_PROFILE = s.fld systemBase STATUS_PROFILE := by
  obtain ⟨lanes, kept⟩ := s.realigned_keeps c
  exact ⟨_, (exec_profileGroupRealigned hc hs).trans (if_neg hl), lanes, kept.profile⟩

/-- The last group: the profile is in force and the command is answered. -/
theorem exec_profileGroupRealigned_last (hc : s.lanes.change = some c)
    (hs : (c.switching.map fun k => s.groupLead (Fin.ofNat 8 k)) = some (s.groupLead n)) (hl : c.left = [])
    (ht : c.target ≤ 3) (hw : s.lanes.wanted = none) (hr : s.link.running = [⟨o, 0x0003, c.target⟩]) :
    ∃ u : State, exec (.profileGroupRealigned n) s = .next u.react ∧ u.lanes.change = none ∧
    u.fld systemBase STATUS_PROFILE = c.target ∧ u.link.running = [] := by
  obtain ⟨lanes, kept⟩ := s.realigned_keeps c
  exact ⟨_, (exec_profileGroupRealigned hc hs).trans (if_pos hl),
    State.profileDone_of_unwanted ht ((congrArg Lanes.wanted lanes).trans hw) (kept.running.trans hr)⟩

end

/-- Settles O56: a refresh of fill leaves the rest of the lanes alone, so each clause reads off what its command did before
the refresh; the ledgers follow from the layout of their word. -/
theorem laneManagement : Obligations.LaneManagement := by
  unfold Obligations.LaneManagement
  refine ⟨?followHost, ?followLine, ?followEnd, ?pairSlip, ?pairRealigned, ?deskewRange, ?deskewRetry, ?deskewStill,
    ?groupRealigned, ?modeChanged, ?groupSwitch, ?moreGroups, ?lastGroup, ?unsettling, ?moved, ?still, ?settle⟩
  case followHost =>
    rintro n stream ppm m s - hj hp ho rfl
    obtain ⟨u, run, out, active⟩ := exec_followRange hj hp ho
    refine ⟨u, run, out, fun first takes => active first fun t same => ?_⟩
    exact State.raise_isActive_of_takes (same _ takes) (by have := m.isLt; omega)
  case followLine =>
    rintro n stream ppm s - hj hp ho rfl
    obtain ⟨u, run, out, active⟩ := exec_followRange hj hp ho
    refine ⟨u, run, out, fun first takes => active first fun t same => ?_⟩
    exact State.raiseOpen_isActive fun v => same v (takes v)
  case followEnd => exact fun n stream ppm s _ hp => exec_followRangeEnd hp
  case pairSlip => exact fun n skew slips s _ hr hs ht => exec_pairSlip hr hs ht
  case pairRealigned => exact fun n s _ h => exec_pairRealignDone h
  case deskewRange => exact fun n host skew s _ hl hs ht => exec_deskewRange hl hs ht
  case deskewRetry =>
    intro n host skew s _ hs hd hn
    obtain ⟨u, run, off, unsettled⟩ := exec_deskewRetry hs hd hn
    refine ⟨u, run, off, ?_⟩
    cases host <;> exact unsettled
  case deskewStill => exact fun n host skew s _ hs => if_neg fun c => absurd c.1 (Nat.not_le.mpr hs)
  case groupRealigned => exact fun n s _ hg hn => exec_groupRealignDone hg hn
  case modeChanged => exact fun o s hd hc hr hw ho => exec_laneModeChangeDone hd hc hr hw ho
  case groupSwitch =>
    intro n ch s _ hc hs hg hf hn
    obtain ⟨u, run, change, switched⟩ := exec_profileGroupSwitch hc hs hg hf hn
    exact ⟨u, run, change, switched.depth, switched.fill, switched.unsettled⟩
  case moreGroups => exact fun n ch s _ hc hs hl => exec_profileGroupRealigned_more hc hs hl
  case lastGroup => exact fun n ch o s _ hc hs hl ht hw hr => exec_profileGroupRealigned_last hc hs hl ht hw hr
  case unsettling =>
    rintro n which dev wait _ s hd rfl
    exact ⟨_, exec_ledgerRecompute_unsettling hd, State.unsettle_self _ _ _, fun a ha =>
      Regs.reg_setFld_ne _ (by simpa using ha)⟩
  case moved =>
    rintro n which dev wait _ s hd rfl hf hm
    exact ⟨_, exec_ledgerRecompute_moved hd hf hm, State.ledgerPublish_ps _ _ _ _ _ (State.ledgerValue_lt _ _ _ _ _),
      State.ledgerPublish_seq _ _ _ _ _, State.ledgerPublish_attn _ _ _ _ _⟩
  case still =>
    rintro n which dev wait _ s - rfl h
    exact exec_ledgerRecompute_still h
  case settle =>
    rintro n which dev wait _ s hd rfl hf hr
    refine ⟨_, exec_ledgerSettle hd hf hr, ?_, State.ledgerPublish_ps _ _ _ _ _ (State.ledgerValue_lt _ _ _ _ _), ?_,
      State.ledgerPublish_attn _ _ _ _ _⟩
    · rw [State.ledgerPublish_unsettled, State.flag_setFlag_ledger]
    · rw [State.ledgerPublish_seq, State.settled_seq]

end Sys2Proof.Machine
end

section
/-! The arithmetic of the datapath (O54): the places of the interleaver, the precoder, the inner code and its frame marker,
and the bounds of the two FIRs. -/

namespace Sys2Proof.Machine

open Reg

/-! ### The interleaver (R114) -/

/-- The delay that a line symbol asks for: of sixteen codewords in flight, the one whose symbol goes to this place of its
group. -/
theorem lineSource_eq (m d : Nat) (hd : d < 16) (h : (m / 16 / 4 + m / 16 % 4 + 3 * d) % 16 = m % 16) :
    lineSource m = (((m / 16 / 4 : Nat) : Int) - d, m / 16 % 4 + 4 * d) := by
  have test (x : Nat) : (((m / 16 : Nat) : Int) - 3 * ((m / 16 / 4 : Nat) - x : Int)) % 16 = (m % 16 : Nat) ↔
      (m / 16 / 4 + m / 16 % 4 + 3 * x) % 16 = m % 16 := by omega
  have found : (List.range 16).find? (fun (x : Nat) =>
      (((m / 16 : Nat) : Int) - 3 * ((m / 16 / 4 : Nat) - x : Int)) % 16 == (m % 16 : Nat)) = some d := by
    simp only [List.find?_range_eq_some, beq_iff_eq, test, List.mem_range, Bool.not_eq_true', beq_eq_false_iff_ne]
    exact ⟨h, hd, fun x hx => by omega⟩
  simp only [lineSource, found, Option.getD_some]

/-- Three is invertible modulo 16, so every line symbol has its delay. -/
theorem exists_delay (m : Nat) : ∃ d < 16, (m / 16 / 4 + m / 16 % 4 + 3 * d) % 16 = m % 16 :=
  ⟨11 * (m % 16 + 15 * (m / 16 / 4 + m / 16 % 4)) % 16, Nat.mod_lt _ (by decide), by omega⟩

theorem lineSource_lt (m : Nat) : (lineSource m).2 < 64 := by
  obtain ⟨d, hd, h⟩ := exists_delay m
  rw [lineSource_eq m d hd h]
  show m / 16 % 4 + 4 * d < 64
  omega

theorem linePlace_lineSource (m : Nat) (h : 0 ≤ (lineSource m).1) :
    linePlace (lineSource m).1.toNat (lineSource m).2 = m := by
  obtain ⟨d, hd, place⟩ := exists_delay m
  rw [lineSource_eq m d hd place] at h ⊢
  simp only [linePlace] at h ⊢
  omega

theorem lineSource_linePlace (j k : Nat) (h : k < 64) : lineSource (linePlace j k) = ((j : Int), k) := by
  have group : linePlace j k / 16 = 4 * j + k := by unfold linePlace; omega
  have place : linePlace j k % 16 = (j + k) % 16 := by unfold linePlace; omega
  rw [lineSource_eq _ (k / 4) (by omega) (by rw [group, place]; omega), group]
  refine Prod.ext ?_ ?_ <;> simp only <;> omega

/-! ### The precoder (R38) -/

theorem unprecode_precode (p : Nat) (l : List Nat) (hp : p < 4) (hl : ∀ g ∈ l, g < 4) :
    unprecode p (precode p l) = l := by
  induction l generalizing p with
  | nil => rfl
  | cons g l ih =>
    obtain ⟨hg, hl⟩ := List.forall_mem_cons.1 hl
    have symbol : ((g + 4 - p % 4) % 4 + p) % 4 = g := by omega
    simp only [precode, unprecode, symbol, ih _ (Nat.mod_lt _ (by decide)) hl]

/-! ### The inner code (R110, R111, R116) -/

theorem syndromeStep_lt {s : Nat} (b : Bool) (h : s < 128) : syndromeStep s b < 128 := by
  have : ∀ (s : Fin 128) (b : Bool), syndromeStep s.val b < 128 := by decide
  exact this ⟨s, h⟩ b

theorem foldl_syndromeStep_lt (l : List Bool) {s : Nat} (h : s < 128) : l.foldl syndromeStep s < 128 := by
  induction l generalizing s with
  | nil => exact h
  | cons b l ih => exact ih (syndromeStep_lt b h)

/-- The seven check bits behind a message whose remainder is `s`. -/
def checkBits (s : Nat) : List Bool :=
  (List.range 7).map fun t => ((List.replicate 7 false).foldl syndromeStep s).testBit (6 - t)

/-- The check bits take the remainder to 0, and their inverses take it to 0x7F. -/
theorem foldl_checkBits : ∀ s : Fin 128, (checkBits s.val).foldl syndromeStep s.val = 0 ∧
    ((checkBits s.val).map (!·)).foldl syndromeStep s.val = 0x7F := by decide +kernel

theorem innerEncode_eq (msg : List Bool) : innerEncode msg =
    msg ++ checkBits (msg.foldl syndromeStep 0) ++ [parity (msg ++ checkBits (msg.foldl syndromeStep 0))] := by
  simp only [innerEncode, checkBits, List.foldl_append]

/-- The last eight bits of a marker are inverted. -/
theorem invertMark_append {msg tail : List Bool} (h : msg.length = 120) (k : tail.length = 8) :
    invertMark (msg ++ tail) = msg ++ tail.map (!·) := by
  refine List.ext_getElem (by simp [invertMark]) fun i hi _ => ?_
  have len : i < 128 := by simpa [invertMark, h, k] using hi
  by_cases c : i < 120
  · simp [invertMark, h, c, Nat.not_le.mpr c]
  · simp [invertMark, h, Nat.le_of_not_lt c]

theorem parity_append (l k : List Bool) : parity (l ++ k) = (parity l).xor (parity k) := by
  rw [parity, List.foldl_append, ← Bool.xor_false (l.foldl Bool.xor false), List.foldl_assoc]
  rfl

/-- Inverting bits turns the parity over as often as there are bits. -/
theorem parity_map_not (l : List Bool) : parity (l.map (!·)) = (parity l).xor (l.length % 2 == 1) := by
  induction l with
  | nil => rfl
  | cons b l ih =>
    rw [List.map_cons, ← List.singleton_append, parity_append, ih, ← List.singleton_append (x := b), parity_append]
    have odd : ((l.length + 1) % 2 == 1) = !(l.length % 2 == 1) := by
      rcases Nat.mod_two_eq_zero_or_one l.length with e | e <;> simp [Nat.add_mod, e]
    simp only [List.singleton_append, List.length_cons, odd, parity]
    cases b <;> simp

section
variable {msg : List Bool} (h : msg.length = 120)
include h

/-- The syndrome looks at the message and the check bits, not at the parity bit. -/
theorem syndrome_append_check {check : List Bool} (k : check.length = 7) (p : Bool) :
    syndrome (msg ++ (check ++ [p])) = check.foldl syndromeStep (msg.foldl syndromeStep 0) := by
  have word : (msg ++ (check ++ [p])).take 127 = msg ++ check := by
    rw [← List.append_assoc, List.take_left' (by simp [h, k])]
  rw [syndrome, word, List.foldl_append]

theorem syndrome_innerEncode : syndrome (innerEncode msg) = 0 := by
  rw [innerEncode_eq, List.append_assoc, syndrome_append_check h (by simp [checkBits])]
  exact (foldl_checkBits ⟨_, foldl_syndromeStep_lt msg (by decide)⟩).1

theorem invertMark_innerEncode : invertMark (innerEncode msg) =
    msg ++ ((checkBits (msg.foldl syndromeStep 0)).map (!·) ++ [!parity (msg ++ checkBits (msg.foldl syndromeStep 0))]) := by
  rw [innerEncode_eq, List.append_assoc, invertMark_append h (by simp [checkBits]), List.map_append, List.map_singleton]

theorem syndrome_marker : syndrome (invertMark (innerEncode msg)) = 0x7F := by
  rw [invertMark_innerEncode h, syndrome_append_check h (by simp [checkBits])]
  exact (foldl_checkBits ⟨_, foldl_syndromeStep_lt msg (by decide)⟩).2

end

theorem parity_innerEncode (msg : List Bool) : parity (innerEncode msg) = false := by
  rw [innerEncode_eq, parity_append]
  simp [parity]

/-- Eight bits of a marker are inverted, which keeps its parity. -/
theorem parity_invertMark {msg tail : List Bool} (h : msg.length = 120) (k : tail.length = 8) :
    parity (invertMark (msg ++ tail)) = parity (msg ++ tail) := by
  rw [invertMark_append h k, parity_append, parity_map_not, k, parity_append msg tail]
  simp

theorem parity_marker {msg : List Bool} (h : msg.length = 120) : parity (invertMark (innerEncode msg)) = false := by
  rw [innerEncode_eq, List.append_assoc, parity_invertMark h (by simp [checkBits]), ← List.append_assoc, ← innerEncode_eq,
    parity_innerEncode]

/-! ### The bounds of the FIRs (R137, R143, R185) -/

theorem abs_symbolLevel_le {g : Nat} (h : g < 4) : |symbolLevel g| ≤ 3 := by
  rw [abs_le, symbolLevel]; omega

theorem symbolAt_lt {a : Nat → Nat} (h : ∀ i, a i < 4) (i : Int) : symbolAt a i < 4 := by
  unfold symbolAt
  split
  · decide
  · exact h _

/-- A weighted sum of levels of magnitude 3 at most. -/
theorem abs_weighted_le {level : Nat → Int} (h : ∀ i, |level i| ≤ 3) (taps : List Int) (k : Nat) :
    |((taps.zipIdx k).map fun e => e.1 * level e.2).sum| ≤ 3 * (taps.map fun c => |c|).sum := by
  induction taps generalizing k with
  | nil => simp
  | cons c taps ih =>
    have term : |c * level k| ≤ 3 * |c| := by
      rw [abs_mul, mul_comm]
      exact mul_le_mul_of_nonneg_right (h k) (abs_nonneg c)
    simp only [List.zipIdx_cons, List.map_cons, List.sum_cons]
    calc _ ≤ |c * level k| + _ := abs_add_le _ _
      _ ≤ 3 * |c| + _ := add_le_add term (ih (k + 1))
      _ = _ := (mul_add _ _ _).symm

theorem abs_firSum_le {a : Nat → Nat} (h : ∀ i, a i < 4) (taps : List Int) (m : Nat) :
    |firSum taps a m| ≤ 3 * (taps.map fun c => |c|).sum :=
  abs_weighted_le (level := fun i => symbolLevel (symbolAt a ((m : Int) - ((i : Int) - 2))))
    (fun _ => abs_symbolLevel_le (symbolAt_lt h _)) taps 0

/-- At full amplitude the codes reach from 1 to 255 for values of 127 LSB. -/
theorem codeSaturates_eq_false {v : Int} (h : |v| ≤ 127 * 16) : codeSaturates 64 v = false := by
  rw [abs_le] at h
  rw [codeSaturates, decide_eq_false_iff_not, rawCode]
  omega

theorem lineCode_unsaturated {taps : List Int} {a : Nat → Nat} {e : Int} (m : Nat) (ha : ∀ i, a i < 4)
    (h : 3 * (taps.map fun c => |c|).sum + |e| ≤ 127 * 16) : codeSaturates 64 (firSum taps a m + e) = false := by
  refine codeSaturates_eq_false ?_
  calc |firSum taps a m + e| ≤ |firSum taps a m| + |e| := abs_add_le _ _
    _ ≤ 127 * 16 := (Int.add_le_add_right (abs_firSum_le ha taps m) _).trans h

theorem abs_getD_le_sum (taps : List Int) (k : Nat) : |taps.getD k 0| ≤ (taps.map fun c => |c|).sum := by
  induction taps generalizing k with
  | nil => simp
  | cons c taps ih =>
    have rest : 0 ≤ (taps.map fun c => |c|).sum := List.sum_nonneg (by simp)
    cases k with
    | zero => simpa using rest
    | succ k => simpa using (ih k).trans (le_add_of_nonneg_left (abs_nonneg c))

/-- The FIR of a host transmitter with a valid tap set, with a pattern through c(0) alone too (R185, R204). -/
theorem State.abs_hostValue_le {s : State} {h : Fin 16} {a : Nat → Nat} (m : Nat) (ha : ∀ i, a i < 4)
    (valid : ((s.hostTaps h HT_FIR_CUR).map fun c => |c|).sum ≤ 64) : |s.hostValue h a m| ≤ 192 := by
  unfold State.hostValue
  dsimp only
  split
  · rw [abs_mul]
    calc _ ≤ 64 * 3 := mul_le_mul ((abs_getD_le_sum _ 2).trans valid) (abs_symbolLevel_le (ha m)) (abs_nonneg _)
            (by decide)
      _ = 192 := rfl
  · exact (abs_firSum_le ha _ m).trans (by omega)

theorem State.abs_hostVolts_le {s : State} {h : Fin 16} {a : Nat → Nat} (m : Nat) (ha : ∀ i, a i < 4)
    (valid : ((s.hostTaps h HT_FIR_CUR).map fun c => |c|).sum ≤ 64) : |s.hostVolts h a m| ≤ (s.hostSwing h : Rat) / 2 := by
  have swing : (0 : Rat) ≤ (s.hostSwing h : Rat) / 2 := by positivity
  have value : |(s.hostValue h a m : Rat)| ≤ 192 := by exact_mod_cast State.abs_hostValue_le m ha valid
  rw [State.hostVolts, abs_div, abs_mul, abs_of_nonneg swing, abs_of_pos (by norm_num : (0 : Rat) < 192),
    div_le_iff₀ (by norm_num)]
  exact mul_le_mul_of_nonneg_left value swing

/-- Settles O54: each function of a stream by its own law. -/
theorem datapathArithmetic : Obligations.DatapathArithmetic := by
  unfold Obligations.DatapathArithmetic
  refine ⟨?place, ?source, ?precoder, ?code, ?line, ?host⟩
  case place => exact fun m => ⟨lineSource_lt m, linePlace_lineSource m⟩
  case source => exact lineSource_linePlace
  case precoder => exact unprecode_precode
  case code => exact fun msg h => ⟨syndrome_innerEncode h, parity_innerEncode msg, syndrome_marker h, parity_marker h⟩
  case line => exact fun taps a m e ha h => lineCode_unsaturated m ha h
  case host => exact fun s h a m ha valid => State.abs_hostVolts_le m ha valid

end Sys2Proof.Machine
end

section
/-! Starting and stopping a line transmitter (O37).  A command of the transmitter writes registers of its lane and votes for
its domain; the first part says once how such writes are read back, and what a vote leaves of the state of a domain. -/

namespace Sys2Proof.Machine

open Reg

/-! ### Registers of a lane -/

section
variable {ps : List Part} {s t : State}

theorem regPart_lineBase (n : Fin 8) {k : Nat} (h : k < 0x10000) : regPart (lineBase n + k) = .lineRegs := by
  simpa using regPart_line (n := n) h (List.Subset.refl [Part.lineRegs])

/-- An operation outside the blocks of the line lanes leaves their fields alone. -/
theorem Evolves.lineFld (h : Evolves ps s t) (hp : .lineRegs ∉ ps) (n : Fin 8) {f : Field} (hf : f.off < 0x10000) :
    t.fld (lineBase n) f = s.fld (lineBase n) f := h.fld (by rwa [regPart_lineBase n hf])

theorem Evolves.synLocked (h : Evolves ps s t) (hp : .clockRegs ∉ ps) (k : Nat) : t.synLocked k = s.synLocked k := by
  rw [State.synLocked, State.synLocked, h.reg (a := clockBase) hp]

/-- An operation that raises nothing ends its command. -/
theorem Evolves.done_eq (h : Evolves ps s t) (hf : .fuse ∉ ps) (hd : s.noneDue) : done t = .next t :=
  done_of_noneDue (by rw [State.noneDue, show t.fuse = s.fuse from h.only .fuse hf]; exact hd)

theorem State.flag_setFlag_same (s : State) (base : Nat) {f : Field} (v : Bool) (fits : f.lo + f.width ≤ 32)
    (bit : f.width = 1) : (s.setFlag base f v).flag base f = v := by
  rw [State.flag_eq, State.setFlag_regs, Regs.fld_setFld_same _ fits, bit]
  cases v <;> rfl

/-- A field shares no bit with `f` of the same block. -/
abbrev Field.Apart (g f : Field) : Prop := g.off ≠ f.off ∨ f.lo + f.width ≤ g.lo ∨ g.lo + g.width ≤ f.lo

theorem State.fld_setFld_apart (s : State) (base : Nat) {f g : Field} (v : Nat) (h : g.Apart f) :
    (s.setFld base f v).fld base g = s.fld base g := Regs.fld_setFld_apart _ h

theorem State.flag_setFld_apart (s : State) (base : Nat) {f g : Field} (v : Nat) (h : g.Apart f) :
    (s.setFld base f v).flag base g = s.flag base g := by
  rw [State.flag, s.fld_setFld_apart _ _ h, State.flag]

theorem State.fld_setFlag_apart (s : State) (base : Nat) {f g : Field} (v : Bool) (h : g.Apart f) :
    (s.setFlag base f v).fld base g = s.fld base g := s.fld_setFld_apart _ _ h

theorem State.setFld_regsBut (s : State) (base : Nat) (f : Field) (v : Nat) :
    RegsBut [base + f.off] s (s.setFld base f v) := fun a ha => Regs.reg_setFld_ne _ (by simpa using ha)

end

/-! ### A vote and the state of a domain (R351, R352, R354) -/

section
variable (s : State) {d d' : Nat} (bit : Nat)

theorem State.fld_setFld_domState {f : Field} (v : Nat) (h : (DOM_STATE.ix d).off ≠ f.off) :
    (s.setFld powerBase f v).fld powerBase (DOM_STATE.ix d) = s.fld powerBase (DOM_STATE.ix d) :=
  s.fld_setFld_apart _ _ (.inl h)

theorem domState_off (h : d < 72) : (DOM_STATE.ix d).off = 0x100 + 4 * d := Nat.mod_eq_of_lt (by simp only [DOM_STATE]; omega)

/-- The votes of a domain are no part of its state. -/
theorem State.setFlag_vote_domState (h : d < 72) (h' : d' < 72) (v : Bool) :
    (s.setFlag powerBase ((voteBit bit).ix d') v).fld powerBase (DOM_STATE.ix d) = s.fld powerBase (DOM_STATE.ix d) := by
  refine s.fld_setFld_domState _ ?_
  rw [domState_off h]
  simp only [Field.ix, voteBit]; omega

variable {s bit}

theorem State.setFld_domReg_ne (ne : d ≠ d') (h : d < 72) (h' : d' < 72) {f : Field} (v : Nat) (hf : f.off = 0x100)
    (hs : f.stride = 4) : (s.setFld powerBase (f.ix d') v).fld powerBase (DOM_STATE.ix d) = s.fld powerBase (DOM_STATE.ix d) := by
  refine s.fld_setFld_domState _ ?_
  rw [domState_off h]
  simp only [Field.ix, hf, hs]; omega

/-- A wake of one domain leaves the others as they are. -/
theorem State.wakeRequest_domState_ne (ne : d ≠ d') (h : d < 72) (h' : d' < 72) :
    (s.wakeRequest d').fld powerBase (DOM_STATE.ix d) = s.fld powerBase (DOM_STATE.ix d) := by
  have total (t : State) : (t.bump powerBase PWR_STATE_ABANDONED).fld powerBase (DOM_STATE.ix d) =
      t.fld powerBase (DOM_STATE.ix d) := t.fld_setFld_domState _ (by rw [domState_off h]; simp only [PWR_STATE_ABANDONED]; omega)
  unfold State.wakeRequest
  dsimp only
  split_ifs
  · rw [State.startWake, State.bumpMod, setFld_domReg_ne ne h h' _ rfl rfl, State.setDom,
      setFld_domReg_ne ne h h' _ rfl rfl, setFld_domReg_ne ne h h' _ rfl rfl]
  · rw [State.countAbandoned, total, State.bump, State.addSat, setFld_domReg_ne ne h h' _ rfl rfl, State.setDom,
      setFld_domReg_ne ne h h' _ rfl rfl, setFld_domReg_ne ne h h' _ rfl rfl]
  all_goals rfl

theorem State.setVote_domState_ne (ne : d ≠ d') (h : d < 72) (h' : d' < 72) :
    (s.setVote d' bit).fld powerBase (DOM_STATE.ix d) = s.fld powerBase (DOM_STATE.ix d) := by
  have voted := s.setFlag_vote_domState bit h h' true
  unfold State.setVote
  dsimp only
  split_ifs
  · exact voted
  · exact voted
  · exact (State.wakeRequest_domState_ne ne h h').trans voted
  · rfl

/-- A domain that is on stays on under a vote. -/
theorem State.setVote_domOn (h : d < 72) (on : s.domOn d = true) : (s.setVote d bit).domOn d = true := by
  have voted : (s.setFlag powerBase ((voteBit bit).ix d) true).domOn d = true := by
    rw [State.domOn, s.setFlag_vote_domState bit h h]; exact on
  unfold State.setVote
  dsimp only
  split_ifs with _ _ c
  · exact voted
  · exact voted
  · exact absurd voted c
  · exact on

/-- A RETAINED domain does not come on with the vote: it wakes first. -/
theorem State.setVote_retained (h : d < 72) (retained : s.fld powerBase (DOM_STATE.ix d) = 3) :
    (s.setVote d bit).domOn d = false := by
  let v : State := s.setFlag powerBase ((voteBit bit).ix d) true
  have voted : v.fld powerBase (DOM_STATE.ix d) = 3 := (s.setFlag_vote_domState bit h h true).trans retained
  have off {t : State} {k : Nat} (e : t.fld powerBase (DOM_STATE.ix d) = k) (ne : k ≠ 1) : t.domOn d = false := by
    rw [State.domOn, e]; exact beq_false_of_ne ne
  have wakes : ((v.stopLinger d).startWake d 1).fld powerBase (DOM_STATE.ix d) = 4 := by
    have beside {f : Field} (t : State) (x : Nat) (lo : f.lo + f.width ≤ DOM_STATE.lo) :
        (t.setFld powerBase (f.ix d) x).fld powerBase (DOM_STATE.ix d) = t.fld powerBase (DOM_STATE.ix d) :=
      t.fld_setFld_apart _ _ (.inr (.inl lo))
    rw [State.startWake, State.bumpMod, beside _ _ (by decide), State.setDom, beside _ _ (by decide)]
    exact Regs.fld_setFld_same _ (show DOM_STATE.lo + DOM_STATE.width ≤ 32 by decide)
  unfold State.setVote
  dsimp only
  split_ifs
  · exact off voted (by decide)
  · exact off voted (by decide)
  · rw [State.wakeRequest, if_pos (show (v.stopLinger d).fld powerBase (DOM_STATE.ix d) = 3 from voted)]
    exact off wakes (by decide)
  · exact off retained (by decide)

end

/-! ### The transmitter starts (R153, R155) -/

section
variable {s : State} {n : Fin 8}

theorem domLineTx_lt (n : Fin 8) : domLineTx n < 72 := by simp only [domLineTx]; omega

theorem domRoom_txRoom (n : Fin 8) : domRoom (txRoom n) = 64 ∨ domRoom (txRoom n) = 65 := by
  unfold domRoom txRoom; split_ifs <;> simp

theorem State.txVote_on (s : State) (n : Fin 8) :
    s.txVote n true = (s.setVote (domRoom (txRoom n)) (voteLine n)).setVote (domLineTx n) (voteLine n) := rfl

/-- The vote for the room of a transmitter leaves its own domain alone. -/
theorem State.roomVote_domState (s : State) (n : Fin 8) :
    (s.setVote (domRoom (txRoom n)) (voteLine n)).fld powerBase (DOM_STATE.ix (domLineTx n)) =
      s.fld powerBase (DOM_STATE.ix (domLineTx n)) := by
  have room := domRoom_txRoom n
  exact State.setVote_domState_ne (by simp only [domLineTx]; omega) (domLineTx_lt n) (by omega)

theorem State.txVote_domOn (on : s.domOn (domLineTx n) = true) : (s.txVote n true).domOn (domLineTx n) = true := by
  rw [State.txVote_on]
  refine State.setVote_domOn (domLineTx_lt n) ?_
  rw [State.domOn, s.roomVote_domState]; exact on

theorem State.txVote_retained (h : s.fld powerBase (DOM_STATE.ix (domLineTx n)) = 3) :
    (s.txVote n true).domOn (domLineTx n) = false := by
  rw [State.txVote_on]
  exact State.setVote_retained (domLineTx_lt n) ((s.roomVote_domState n).trans h)

theorem State.txStart_of_off (en : s.flag (lineBase n) TX_CTRL_TX_EN = true) (safe : s.fuse.safe = false)
    (syn : s.synLocked (lineSyn n) = true) (dom : s.domOn (domLineTx n) = true) (st : s.txState n = 0) :
    s.txStart n = ((s.setTxState n 1).bankRestored (251 + n.val)).modTx n fun t => { t with
      fsInForce := s.fld (lineBase n) TX_CTRL_FS_SET, falling := false, takenDown := false } := by
  simp only [State.txStart, en, safe, syn, dom, st, Bool.not_false, Bool.and_self, if_true]

theorem State.txStart_of_stopped (h : s.synLocked (lineSyn n) = false ∨ s.domOn (domLineTx n) = false) :
    s.txStart n = s := by
  rcases h with h | h <;> simp [State.txStart, h]

/-- TX_EN and the votes that go with it. -/
def State.txVoted (s : State) (n : Fin 8) : State := (s.setFlag (lineBase n) TX_CTRL_TX_EN true).txVote n true

theorem State.txVoted_evolves (s : State) (n : Fin 8) :
    Evolves [.power, .powerRegs] (s.setFlag (lineBase n) TX_CTRL_TX_EN true) (s.txVoted n) :=
  State.txVote_evolves (.refl _ _) (by decide)

theorem State.txVoted_enabled (s : State) (n : Fin 8) : (s.txVoted n).flag (lineBase n) TX_CTRL_TX_EN = true := by
  rw [(s.txVoted_evolves n).flag (by rw [regPart_lineBase n (by decide)]; decide)]
  exact s.flag_setFlag_same _ _ (by decide) rfl

/-- Only TX_EN of the registers of the lane is written. -/
theorem State.txVoted_fld (s : State) (n : Fin 8) {f : Field} (hf : f.off < 0x10000)
    (h : f.Apart TX_CTRL_TX_EN) : (s.txVoted n).fld (lineBase n) f = s.fld (lineBase n) f :=
  ((s.txVoted_evolves n).lineFld (by decide) n hf).trans (s.fld_setFld_apart _ _ h)

theorem State.fld_setFlag_domState (s : State) (n : Fin 8) (v : Bool) :
    (s.setFlag (lineBase n) TX_CTRL_TX_EN v).fld powerBase (DOM_STATE.ix (domLineTx n)) =
      s.fld powerBase (DOM_STATE.ix (domLineTx n)) := by
  have apart : powerBase + (DOM_STATE.ix (domLineTx n)).off ≠ lineBase n + TX_CTRL_TX_EN.off := by
    rw [domState_off (domLineTx_lt n)]
    simp only [powerBase, lineBase, domLineTx]; omega
  rw [State.fld_eq, State.setFlag_regs, Regs.fld_setFld_ne _ apart, State.fld_eq]

theorem exec_txEnable (n : Fin 8) (hd : s.noneDue) : exec (.txEnable n) s = .next ((s.txVoted n).txStart n) := by
  show execTxEnable n s = _
  exact Evolves.done_eq (State.txEnable_evolves (.refl _ s) (List.Subset.refl _)) (by decide) hd


/-- The registers of the lanes lie outside the clocks and the memory protection (Table 12-3). -/
theorem State.synLocked_setFld (s : State) (n : Fin 8) (f : Field) (v k : Nat) :
    (s.setFld (lineBase n) f v).synLocked k = s.synLocked k := by
  rw [State.synLocked, State.synLocked, State.reg_eq, State.setFld_regs, Regs.reg_setFld_ne _ (by
    simp only [clockBase, lineBase]; omega)]
  rfl

theorem State.bankRestored_fld (s : State) (b : Nat) (n : Fin 8) {f : Field} (hf : f.off < 0x10000) :
    Regs.fld (s.bankRestored b).regs (lineBase n) f = Regs.fld s.regs (lineBase n) f :=
  Evolves.lineFld (State.bankRestored_evolves (ps := [.memProtRegs]) (.refl _ s) (by decide)) (by decide) n hf

theorem exec_txEnable_starts (hd : s.noneDue) (safe : s.fuse.safe = false) (syn : s.synLocked (lineSyn n) = true)
    (dom : s.domOn (domLineTx n) = true) (st : s.txState n = 0) : ∃ t : State, exec (.txEnable n) s = .next t ∧
    t.flag (lineBase n) TX_CTRL_TX_EN = true ∧ t.txState n = 1 ∧
    t.line[n].tx.fsInForce = s.fld (lineBase n) TX_CTRL_FS_SET ∧ t.line[n].tx.falling = false := by
  have voted := s.txVoted_evolves n
  have enabled := s.txVoted_enabled n
  have running : (s.txVoted n).fuse.safe = false := by
    rw [show (s.txVoted n).fuse = (s.setFlag (lineBase n) TX_CTRL_TX_EN true).fuse from voted.only .fuse (by decide)]
    simpa only [State.setFlag_other] using safe
  have start := State.txStart_of_off (s := s.txVoted n) enabled running
    (by rw [voted.synLocked (by decide), State.setFlag, State.synLocked_setFld, syn])
    (State.txVote_domOn (by rw [State.domOn, s.fld_setFlag_domState]; exact dom))
    ((s.txVoted_fld n (by decide) (by decide)).trans st)
  rw [s.txVoted_fld n (by decide) (by decide)] at start
  refine ⟨_, exec_txEnable n hd, ?_⟩
  rw [start, State.modTx_same]
  rw [State.flag_eq] at enabled
  simp (disch := decide) [State.txState, State.setTxState, State.bankRestored_fld, Regs.fld_setFld_same,
    Regs.fld_setFld_apart, enabled]

theorem exec_txEnable_holds (hd : s.noneDue)
    (h : s.synLocked (lineSyn n) = false ∨ s.fld powerBase (DOM_STATE.ix (domLineTx n)) = 3) :
    ∃ t : State, exec (.txEnable n) s = .next t ∧ t.flag (lineBase n) TX_CTRL_TX_EN = true ∧
    t.txState n = s.txState n := by
  have stopped : (s.txVoted n).txStart n = s.txVoted n := State.txStart_of_stopped (h.imp
    (fun syn => by rw [(s.txVoted_evolves n).synLocked (by decide), State.setFlag, State.synLocked_setFld, syn])
    fun retained => State.txVote_retained ((s.fld_setFlag_domState n true).trans retained))
  exact ⟨_, by rw [exec_txEnable n hd, stopped], s.txVoted_enabled n, s.txVoted_fld n (by decide) (by decide)⟩

end

/-! ### Updates of every member of a list -/

section
variable {α : Type} {f : α → State → State} {l : List α}

theorem State.each_keeps_mem {P : State → Prop} (keeps : ∀ x ∈ l, ∀ s, P s → P (f x s)) {s : State} (h : P s) :
    P (s.each l f) := by
  induction l generalizing s with
  | nil => exact h
  | cons a l ih => exact ih (fun x hx => keeps x (List.mem_cons_of_mem _ hx)) (keeps a List.mem_cons_self s h)

/-- What the update of a member brings about, and those of the other members keep, holds of every member. -/
theorem State.each_mem {P : α → State → Prop} (sets : ∀ x ∈ l, ∀ s, P x (f x s))
    (keeps : ∀ x ∈ l, ∀ y ∈ l, y ≠ x → ∀ s, P y s → P y (f x s)) (s : State) : ∀ x ∈ l, P x (s.each l f) := by
  suffices ∀ l' ⊆ l, ∀ s : State, ∀ x ∈ l', P x (s.each l' f) from this l (List.Subset.refl l) s
  intro l'
  induction l' with
  | nil => exact fun _ _ _ h => absurd h List.not_mem_nil
  | cons a l' ih =>
    intro sub s x hx
    have ha := sub List.mem_cons_self
    rcases List.mem_cons.1 hx with rfl | hx
    · refine State.each_keeps_mem (P := P x) (s := f x s) (fun y hy t h => ?_) (sets x ha s)
      by_cases e : x = y
      · exact e ▸ sets x ha t
      · exact keeps y (sub (List.mem_cons_of_mem _ hy)) x ha e t h
    · exact ih (fun _ h => sub (List.mem_cons_of_mem _ h)) (f a s) x hx

end

/-! ### CAL ends (R149, R403) -/

theorem SubDacTrim.limits_of_mem_legalTrims {old new : List SubDacTrim} {trim : SubDacTrim} (h : trim ∈ legalTrims old new) :
    -125 ≤ trim.gain ∧ trim.gain ≤ 125 ∧ -128 ≤ trim.offset ∧ trim.offset ≤ 127 := by
  obtain ⟨i, hi, rfl⟩ := List.mem_iff_getElem.1 h
  simp only [legalTrims, List.getElem_zipWith]
  omega

theorem legalTrims_length_le (old new : List SubDacTrim) : (legalTrims old new).length ≤ new.length := by
  simp only [legalTrims, List.length_zipWith]; omega

/-- The registers of sub-DAC k hold the trims. -/
def State.TrimHeld (s : State) (n : Fin 8) (k : Nat) (trim : SubDacTrim) : Prop :=
  s.fld (lineBase n) (SUBDAC_GAIN.ix k) = intBits 8 trim.gain ∧
  s.fld (lineBase n) (SUBDAC_OFFSET.ix k) = intBits 8 trim.offset ∧
  s.fld (lineBase n) (SUBDAC_SKEW.ix k) = intBits 8 trim.skew

section
variable (s : State) (n : Fin 8)

theorem intBits_lt (width : Nat) (v : Int) : intBits width v < 2 ^ width := by
  have range := Int.emod_lt_of_pos v (show (0 : Int) < 2 ^ width by positivity)
  rw [intBits, Int.toNat_lt (Int.emod_nonneg v (by positivity))]
  exact_mod_cast range

/-- What the writes of one sub-DAC leave in its register, whose three fields lie side by side. -/
theorem State.trimHeld_setFld (k : Nat) (trim : SubDacTrim) :
    (((s.setFld (lineBase n) (SUBDAC_GAIN.ix k) (intBits 8 trim.gain)).setFld (lineBase n) (SUBDAC_OFFSET.ix k)
      (intBits 8 trim.offset)).setFld (lineBase n) (SUBDAC_SKEW.ix k) (intBits 8 trim.skew)).TrimHeld n k trim := by
  have fits (v : Int) : intBits 8 v < 256 := intBits_lt 8 v
  refine ⟨?_, ?_, ?_⟩ <;>
    simp [Regs.fld_setFld_same, Regs.fld_setFld_apart, Field.ix, SUBDAC_GAIN, SUBDAC_OFFSET, SUBDAC_SKEW, fits]

variable {s n}

/-- A write of another register of the lane leaves the trims alone. -/
theorem State.TrimHeld.setFld {k : Nat} {trim : SubDacTrim} (h : s.TrimHeld n k trim) (hk : k < 4) {f : Field} (v : Nat)
    (ne : f.off ≠ 0x820 + 4 * k) : (s.setFld (lineBase n) f v).TrimHeld n k trim := by
  have apart {g : Field} (hg : g.off = 0x820) (gs : g.stride = 4) :
      (s.setFld (lineBase n) f v).fld (lineBase n) (g.ix k) = s.fld (lineBase n) (g.ix k) :=
    s.fld_setFld_apart _ _ (.inl (by simp only [Field.ix, hg, gs]; omega))
  obtain ⟨gain, offset, skew⟩ := h
  exact ⟨(apart rfl rfl).trans gain, (apart rfl rfl).trans offset, (apart rfl rfl).trans skew⟩

end

/-- One set of trims reaches every sub-DAC that it names (R149). -/
theorem State.setTrims_held (s : State) (n : Fin 8) {trims : List SubDacTrim} (len : trims.length = 4) {k : Nat}
    {trim : SubDacTrim} (h : (legalTrims (s.trims n) trims)[k]? = some trim) : (s.setTrims n trims).TrimHeld n k trim := by
  have four : (legalTrims (s.trims n) trims).length ≤ 4 := len ▸ legalTrims_length_le _ _
  have index {e : SubDacTrim × Nat} (he : e ∈ (legalTrims (s.trims n) trims).zipIdx) : e.2 < 4 := by
    obtain ⟨lt, -⟩ := List.getElem?_eq_some_iff.1 (List.mem_zipIdx_iff_getElem?.1 he)
    omega
  rw [State.setTrims, List.take_of_length_le (Nat.le_of_eq len)]
  refine State.each_mem (P := fun (e : SubDacTrim × Nat) t => t.TrimHeld n e.2 e.1) (fun e _ t => t.trimHeld_setFld n e.2 e.1)
    (fun e he y hy ne t held => ?_) s (trim, k) (List.mem_zipIdx_iff_getElem?.2 h)
  have apart : y.2 ≠ e.2 := fun same => ne (Prod.ext (Option.some.inj
    (((List.mem_zipIdx_iff_getElem?.1 hy).symm.trans (congrArg _ same)).trans (List.mem_zipIdx_iff_getElem?.1 he))) same)
  have := index he
  have keep {u : State} (held : u.TrimHeld n y.2 y.1) {f : Field} (v : Nat) (hf : f.off = 0x820) (hs : f.stride = 4) :
      (u.setFld (lineBase n) (f.ix e.2) v).TrimHeld n y.2 y.1 :=
    held.setFld (index hy) v (by simp only [Field.ix, hf, hs]; omega)
  exact keep (keep (keep held _ rfl rfl) _ rfl rfl) _ rfl rfl

section
variable {s : State} {n : Fin 8}

theorem exec_txCalDone (hd : s.noneDue) (st : s.txState n = 1) (dom : s.domOn (domLineTx n) = true) :
    exec (.txCalDone n) s = .next (((s.setTrims n (s.factoryTrims n)).setTxState n 2).modTx n fun t => { t with
      falling := false, subs := t.subs.map fun d => { d with order := List.range 68 } }) := by
  show execTxCalDone n s = _
  rw [execTxCalDone, if_pos ⟨st, dom⟩]
  refine Evolves.done_eq (ps := [.line, .lineRegs]) ?_ (by decide) hd
  exact State.modTx_evolves (State.setTxState_evolves (State.setTrims_evolves (.refl _ s) (by decide)) (by decide)) (by decide)

theorem State.setTrims_line (s : State) (n : Fin 8) (trims : List SubDacTrim) : (s.setTrims n trims).line = s.line :=
  (State.setTrims_evolves (ps := [.lineRegs]) (.refl _ s) (by decide)).only .line (by decide)

theorem State.setTxState_txState (s : State) (n : Fin 8) {v : Nat} (h : v < 8) : (s.setTxState n v).txState n = v := by
  rw [State.txState, State.setTxState, State.fld_eq, State.setFld_regs, Regs.fld_setFld_same _ (by decide)]
  exact Nat.mod_eq_of_lt h

/-- The other fields of the lane stand beside TX_STATE. -/
theorem State.setTxState_fld (s : State) (n : Fin 8) (v : Nat) {f : Field}
    (h : f.Apart TX_STATUS_TX_STATE) : (s.setTxState n v).fld (lineBase n) f = s.fld (lineBase n) f := by
  rw [State.setTxState, State.fld_setFld_apart _ _ _ h]

theorem State.modTx_fld (s : State) (n : Fin 8) (f : LineTx → LineTx) (base : Nat) (g : Field) :
    (s.modTx n f).fld base g = s.fld base g := rfl

theorem RegsBut.modTx {as : List Nat} {t : State} (h : RegsBut as s t) (n : Fin 8) (f : LineTx → LineTx) :
    RegsBut as s (t.modTx n f) := h

theorem State.modTx_txState (s : State) (n : Fin 8) (f : LineTx → LineTx) : (s.modTx n f).txState n = s.txState n := rfl

theorem State.TrimHeld.modTx {k : Nat} {trim : SubDacTrim} (h : s.TrimHeld n k trim) (f : LineTx → LineTx) :
    (s.modTx n f).TrimHeld n k trim := h

theorem State.factoryTrims_length (s : State) (n : Fin 8) : (s.factoryTrims n).length = 4 := by simp [State.factoryTrims]

theorem exec_txCalDone_trims (hd : s.noneDue) (st : s.txState n = 1) (dom : s.domOn (domLineTx n) = true) :
    ∃ t : State, exec (.txCalDone n) s = .next t ∧ t.txState n = 2 ∧ t.line[n].tx.falling = false ∧
    t.line[n].tx.subs = s.line[n].tx.subs.map (fun d => { d with order := List.range 68 }) ∧
    ∀ k < 4, ∀ trim, (legalTrims (s.trims n) (s.factoryTrims n))[k]? = some trim → t.TrimHeld n k trim := by
  refine ⟨_, exec_txCalDone hd st dom, (State.modTx_txState _ _ _).trans (State.setTxState_txState _ n (by decide)), ?_, ?_,
    fun k hk trim h => State.TrimHeld.modTx (State.TrimHeld.setFld (s.setTrims_held n (s.factoryTrims_length n) h) hk 2 ?_) _⟩
  · rw [State.modTx_same]
  · rw [State.modTx_same]
    simp only [State.setTxState, State.setFld_other, State.setTrims_line]
  · simp only [TX_STATUS_TX_STATE]; omega

/-! ### The ramps (R153) -/

theorem State.datapathStart_deepHolds (s : State) (n : Fin 8) (d : Nat) : (s.datapathStart n).deepHolds d = s.deepHolds d :=
  rfl

theorem State.txRamp_of_free (h : s.deepHolds (domLineTx n) = false) : s.txRamp n = (s.setTxState n 4).modTx n fun t =>
    { t with heldFromCm := false, rampTick := s.tick, rampSel := s.fld (lineBase n) TX_CTRL_RAMP_SEL } :=
  if_neg (by simp [h])

/-- The currents have risen with no squelch cause: the amplitude ramp starts. -/
theorem exec_txCmRampDone_free (hd : s.noneDue) (st : s.txState n = 2) (rises : s.line[n].tx.falling = false)
    (free : s.fld (lineBase n) TX_STATUS_SQ_CAUSE = 0) :
    exec (.txCmRampDone n) s = .next ((s.datapathStart n).txRamp n) := by
  show execTxCmRampDone n s = _
  rw [execTxCmRampDone, if_pos ⟨st, ne_true_of_eq_false rises⟩]
  refine (if_neg (not_not.2 free)).trans (Evolves.done_eq (ps := [.line, .lineRegs]) ?_ (by decide) hd)
  exact State.txRamp_evolves (State.datapathStart_evolves (.refl _ s) (by decide)) (by decide)

theorem exec_txCmRampDone_squelched (hd : s.noneDue) (st : s.txState n = 2) (rises : s.line[n].tx.falling = false)
    (cause : s.fld (lineBase n) TX_STATUS_SQ_CAUSE ≠ 0) : exec (.txCmRampDone n) s =
      .next (((s.datapathStart n).setTxState n 3).modTx n fun t => { t with heldFromCm := true }) := by
  show execTxCmRampDone n s = _
  rw [execTxCmRampDone, if_pos ⟨st, ne_true_of_eq_false rises⟩]
  refine (if_pos cause).trans (Evolves.done_eq (ps := [.line, .lineRegs]) ?_ (by decide) hd)
  exact State.modTx_evolves (State.setTxState_evolves (State.datapathStart_evolves (.refl _ s) (by decide)) (by decide))
    (by decide)

theorem exec_txAmpRampDone (hd : s.noneDue) (st : s.txState n = 4) (last : s.rampK n = 64) :
    exec (.txAmpRampDone n) s = .next (s.setTxState n 5) := by
  show execTxAmpRampDone n s = _
  rw [execTxAmpRampDone, if_pos ⟨st, last⟩]
  exact Evolves.done_eq (ps := [.lineRegs]) (State.setTxState_evolves (.refl _ s) (by decide)) (by decide) hd

theorem State.rampK_live (st : s.txState n = 5) : s.rampK n = 64 := by
  rw [State.rampK]
  exact (if_neg (by omega)).trans (if_pos st)

/-! ### TX_EN off (R155) -/

theorem State.txFall_running (st : 2 ≤ s.txState n) : s.txFall n = ((s.fadeStop n pdRegs).setTxState n 2).modTx n
    fun t => { t with falling := true, heldFromCm := false } := by
  rw [State.txFall]
  exact (if_neg (by omega)).trans (if_pos st)

theorem State.txFall_cal (st : s.txState n = 1) : s.txFall n = s.setTxState n 0 := if_pos st

theorem State.setFlag_txState (s : State) (n : Fin 8) (v : Bool) {f : Field} (h : TX_STATUS_TX_STATE.off ≠ f.off) :
    (s.setFlag (lineBase n) f v).txState n = s.txState n := s.fld_setFld_apart _ _ (.inl h)

/-- A stop of a fade writes the status of the tables; its raise writes no register of a lane. -/
theorem State.fadeStop_fld (s : State) (n : Fin 8) {f : Field} (ne : f.off ≠ PD_STATUS_FADING.off) :
    (s.fadeStop n pdRegs).fld (lineBase n) f = s.fld (lineBase n) f := by
  have beside (t : State) {g : Field} (v : Nat) (hg : g.off = PD_STATUS_FADING.off) :
      (t.setFld (lineBase n) g v).fld (lineBase n) f = t.fld (lineBase n) f := t.fld_setFld_apart _ _ (.inl (hg ▸ ne))
  have raised (t : State) (src detail : Nat) : (t.raise src detail).fld (lineBase n) f = t.fld (lineBase n) f :=
    Regs.sameOutside_fld (t.raise_sameOutside src detail) f (by simp only [fuseBase, lineBase]; omega)
  unfold State.fadeStop
  dsimp only
  split
  · rw [raised, State.bump, State.addSat, beside (g := pdRegs.restarts) _ _ rfl, State.setFlag,
      beside (g := pdRegs.pending) _ _ rfl, State.setFlag, beside (g := pdRegs.fading) _ _ rfl]
  · rfl

theorem State.txState_setFlag_en (s : State) (n : Fin 8) (v : Bool) :
    (s.setFlag (lineBase n) TX_CTRL_TX_EN v).txState n = s.txState n := s.setFlag_txState n v (by decide)

/-- Out of safe state the transmitter falls, and one that is OFF at once withdraws its votes. -/
theorem State.txDisable_eq (safe : s.fuse.safe = false) {w : State}
    (h : (s.setFlag (lineBase n) TX_CTRL_TX_EN false).txFall n = w) :
    s.txDisable n = if w.txState n = 0 then w.txVote n false else w := by
  simp only [State.txDisable, State.setFlag_other, safe, Bool.false_eq_true, if_false, h]

/-- The output falls through CM_RAMP, with no amplitude (R155). -/
theorem exec_txDisable_running (safe : s.fuse.safe = false) (st : 2 ≤ s.txState n) : ∃ u : State,
    exec (.txDisable n) s = .next u.react ∧ u.flag (lineBase n) TX_CTRL_TX_EN = false ∧ u.txState n = 2 ∧
    u.line[n].tx.falling = true ∧ u.rampK n = 0 := by
  let v : State := s.setFlag (lineBase n) TX_CTRL_TX_EN false
  let w : State := ((v.fadeStop n pdRegs).setTxState n 2).modTx n fun t => { t with falling := true, heldFromCm := false }
  have ramp : w.txState n = 2 := (State.modTx_txState _ _ _).trans (State.setTxState_txState _ n (by decide))
  have falls : v.txFall n = w := State.txFall_running (by rwa [s.txState_setFlag_en])
  refine ⟨w, ?_, ?_, ramp, ?_, ?_⟩
  · show execTxDisable n s = _
    rw [execTxDisable, State.txDisable_eq safe falls, if_neg (by omega)]
  · rw [State.flag, State.modTx_fld, State.setTxState_fld _ _ _ (by decide), State.fadeStop_fld _ _ (by decide),
      ← State.flag]
    exact s.flag_setFlag_same _ _ (by decide) rfl
  · rw [State.modTx_same]
  · rw [State.rampK]
    exact (if_neg (by omega)).trans (if_neg (by omega))

theorem State.txVote_fld (s : State) (n : Fin 8) (on : Bool) {f : Field} (hf : f.off < 0x10000) :
    (s.txVote n on).fld (lineBase n) f = s.fld (lineBase n) f :=
  Evolves.lineFld (State.txVote_evolves (ps := [.power, .powerRegs]) (.refl _ s) (by decide)) (by decide) n hf

theorem exec_txDisable_cal (hd : s.noneDue) (safe : s.fuse.safe = false) (st : s.txState n = 1) : ∃ t : State,
    exec (.txDisable n) s = .next t ∧ t.flag (lineBase n) TX_CTRL_TX_EN = false ∧ t.txState n = 0 := by
  let v : State := (s.setFlag (lineBase n) TX_CTRL_TX_EN false).setTxState n 0
  have off : v.txState n = 0 := State.setTxState_txState _ n (by decide)
  refine ⟨v.txVote n false, ?_, ?_, (State.txVote_fld _ _ _ (by decide)).trans off⟩
  · show execTxDisable n s = _
    rw [execTxDisable, State.txDisable_eq safe (State.txFall_cal ((s.txState_setFlag_en n false).trans st)), if_pos off]
    refine Evolves.done_eq (ps := [.lineRegs, .power, .powerRegs]) (State.txVote_evolves ?_ (by decide)) (by decide) hd
    exact State.setTxState_evolves (State.setFlag_evolves (.refl _ s) (regPart_line (by decide) (by decide))) (by decide)
  · rw [State.flag, State.txVote_fld _ _ _ (by decide), State.setTxState_fld _ _ _ (by decide), ← State.flag]
    exact s.flag_setFlag_same _ _ (by decide) rfl

/-- In safe state the field takes its value alone (log 123). -/
theorem exec_txDisable_safe (hd : s.noneDue) (safe : s.fuse.safe = true) :
    exec (.txDisable n) s = .next (s.setFlag (lineBase n) TX_CTRL_TX_EN false) := by
  show execTxDisable n s = _
  simp only [execTxDisable, State.txDisable, State.setFlag_other, safe, if_true]
  exact Evolves.done_eq (ps := [.lineRegs]) (State.setFlag_evolves (.refl _ s) (regPart_line (by decide) (by decide)))
    (by decide) hd

theorem exec_txFallDone (hd : s.noneDue) (st : s.txState n = 2) (falls : s.line[n].tx.falling = true) : ∃ t : State,
    exec (.txFallDone n) s = .next t ∧ t.txState n = 0 ∧ t.line[n].tx.falling = false := by
  let v : State := (s.setTxState n 0).modTx n fun t => { t with falling := false }
  have off : v.txState n = 0 := (State.modTx_txState _ _ _).trans (State.setTxState_txState _ n (by decide))
  have level : v.line[n].tx.falling = false := by rw [State.modTx_same]
  have fell : Evolves [.line, .lineRegs] s v :=
    State.modTx_evolves (State.setTxState_evolves (.refl _ s) (by decide)) (by decide)
  have unvoted : Evolves [.line, .lineRegs, .power, .powerRegs] s (v.txVote n false) :=
    State.txVote_evolves (fell.mono (by decide)) (by decide)
  have line : (v.txVote n false).line = v.line :=
    (State.txVote_evolves (ps := [.power, .powerRegs]) (.refl _ v) (by decide)).only .line (by decide)
  have run : exec (.txFallDone n) s = if v.flag (lineBase n) TX_CTRL_TX_EN then done v else done (v.txVote n false) := by
    show execTxFallDone n s = _
    rw [execTxFallDone, if_pos ⟨st, falls⟩]
  by_cases en : v.flag (lineBase n) TX_CTRL_TX_EN = true
  · exact ⟨v, by rw [run, if_pos en, fell.done_eq (by decide) hd], off, level⟩
  · exact ⟨_, by rw [run, if_neg en, unvoted.done_eq (by decide) hd], (State.txVote_fld _ _ _ (by decide)).trans off,
      by rw [line]; exact level⟩

/-! ### SQUELCH (R154) -/

/-- A squelch cause more (R154): a running output is held. -/
theorem State.setCauses_set (s : State) (n : Fin 8) {set : Nat} (h : set ≠ 0) :
    s.setCauses n set 0 = (s.setFld (lineBase n) TX_STATUS_SQ_CAUSE (s.fld (lineBase n) TX_STATUS_SQ_CAUSE ||| set)).when
      (decide (s.txState n = 4 ∨ s.txState n = 5)) fun s => s.txHold n := by
  have caused : s.fld (lineBase n) TX_STATUS_SQ_CAUSE ||| set ≠ 0 := fun e => h (Nat.or_eq_zero_iff.1 e).2
  have state (v : Nat) : (s.setFld (lineBase n) TX_STATUS_SQ_CAUSE v).txState n = s.txState n :=
    s.fld_setFld_apart _ _ (by decide)
  simp only [State.setCauses, Nat.and_zero, Nat.sub_zero, state, caused, State.when, ne_eq, not_false_eq_true, true_and,
    false_and, if_false, decide_eq_true_eq]

/-- SQUELCH goes on, and the HOST cause with it. -/
def State.squelched (s : State) (n : Fin 8) : State :=
  (s.setFlag (lineBase n) TX_CTRL_SQUELCH true).setFld (lineBase n) TX_STATUS_SQ_CAUSE
    (s.fld (lineBase n) TX_STATUS_SQ_CAUSE ||| 2)

theorem State.squelched_flag (s : State) (n : Fin 8) : (s.squelched n).flag (lineBase n) TX_CTRL_SQUELCH = true := by
  rw [State.squelched, State.flag_setFld_apart _ _ _ (by decide)]
  exact s.flag_setFlag_same _ _ (by decide) rfl

theorem State.squelched_txState (s : State) (n : Fin 8) : (s.squelched n).txState n = s.txState n := by
  rw [State.txState, State.squelched, State.fld_setFld_apart _ _ _ (by decide)]
  exact s.setFlag_txState n true (by decide)

theorem State.squelched_cause (s : State) (n : Fin 8) : (s.squelched n).fld (lineBase n) TX_STATUS_SQ_CAUSE ≠ 0 := by
  rw [State.squelched, State.fld_eq, State.setFld_regs, Regs.fld_setFld_same _ (by decide), Nat.or_mod_two_pow]
  exact fun e => absurd (Nat.or_eq_zero_iff.1 e).2 (by decide)

theorem State.txSquelch_on (s : State) (n : Fin 8) : s.txSquelch n true =
    (s.squelched n).when (decide (s.txState n = 4 ∨ s.txState n = 5)) fun s => s.txHold n := by
  let v : State := s.setFlag (lineBase n) TX_CTRL_SQUELCH true
  have cause : v.fld (lineBase n) TX_STATUS_SQ_CAUSE = s.fld (lineBase n) TX_STATUS_SQ_CAUSE :=
    s.fld_setFlag_apart _ _ (.inl (by decide))
  have state : v.txState n = s.txState n := s.setFlag_txState n true (by decide)
  rw [State.txSquelch, State.setCause, if_pos rfl, State.setCauses_set _ _ (by decide), cause, state, pow_one,
    State.squelched]

theorem exec_txSquelchWrite_idle (hd : s.noneDue) (st : s.txState n ≤ 2) :
    exec (.txSquelchWrite n true) s = .next (s.squelched n) := by
  show execTxSquelchWrite n true s = _
  rw [execTxSquelchWrite, State.txSquelch_on, State.when, if_neg (by simp; omega)]
  exact Evolves.done_eq (ps := [.lineRegs]) (State.setFld_evolves (State.setFlag_evolves (.refl _ s)
    (regPart_line (by decide) (by decide))) (regPart_line (by decide) (by decide))) (by decide) hd

theorem exec_txSquelchWrite_running (st : s.txState n = 4 ∨ s.txState n = 5) :
    exec (.txSquelchWrite n true) s = .next ((s.squelched n).txHold n).react := by
  show execTxSquelchWrite n true s = _
  rw [execTxSquelchWrite, State.txSquelch_on, State.when, if_pos (by simpa using st)]

theorem State.txHold_fld (s : State) (n : Fin 8) {f : Field} (lo : f.off ≠ PD_STATUS_FADING.off)
    (h : f.Apart TX_STATUS_TX_STATE) : (s.txHold n).fld (lineBase n) f = s.fld (lineBase n) f := by
  rw [State.txHold, State.fadeStop_fld _ _ lo, State.modTx_fld, State.setTxState_fld _ _ _ h]

theorem State.txHold_txState (s : State) (n : Fin 8) : (s.txHold n).txState n = 3 := by
  rw [State.txState, State.txHold, State.fadeStop_fld _ _ (by decide), State.modTx_fld]
  exact State.setTxState_txState _ n (by decide)

/-! ### TX_PRECODE (R38) -/

theorem State.txState_setFlag_precode (s : State) (n : Fin 8) (v : Bool) :
    (s.setFlag (lineBase n) TX_CTRL_TX_PRECODE v).txState n = s.txState n := s.setFlag_txState n v (by decide)

theorem exec_txPrecodeWrite_running (on : Bool) (hd : s.noneDue) (st : 3 ≤ s.txState n) : exec (.txPrecodeWrite n on) s =
    .next ((s.setFlag (lineBase n) TX_CTRL_TX_PRECODE on).modTx n fun t =>
      { t with precodeNext := if on = t.precode then none else some on }) := by
  show execTxPrecodeWrite n on s = _
  rw [execTxPrecodeWrite, State.txPrecode, if_pos (by rwa [s.txState_setFlag_precode])]
  exact Evolves.done_eq (ps := [.line, .lineRegs]) (State.modTx_evolves (State.setFlag_evolves (.refl _ s)
    (regPart_line (by decide) (by decide))) (by decide)) (by decide) hd

theorem exec_txPrecodeWrite_stopped (on : Bool) (hd : s.noneDue) (st : s.txState n < 3) :
    exec (.txPrecodeWrite n on) s = .next (s.setFlag (lineBase n) TX_CTRL_TX_PRECODE on) := by
  show execTxPrecodeWrite n on s = _
  rw [execTxPrecodeWrite, State.txPrecode, if_neg (by rw [s.txState_setFlag_precode]; omega)]
  exact Evolves.done_eq (ps := [.lineRegs]) (State.setFlag_evolves (.refl _ s) (regPart_line (by decide) (by decide)))
    (by decide) hd

theorem State.txFrameBoundary_waiting {on : Bool} (next : s.line[n].tx.precodeNext = some on)
    (boundary : (s.tick - s.line[n].tx.frameTick) % s.frameTicks = 0) : s.txFrameBoundary n = s.modTx n fun t => { t with
      precode := on, precodeNext := none, precoderP := if on && !t.precode then 0 else t.precoderP } := by
  simp only [State.txFrameBoundary, next]
  exact if_pos boundary

end

/-- Settles O37: each command of the transmitter by the writes that it makes, and those of the votes and of the fade that go
with it. -/
theorem transmitterStartAndStop : Obligations.TransmitterStartAndStop := by
  unfold Obligations.TransmitterStartAndStop
  refine ⟨?enable, ?holds, ?cal, ?limits, ?ramp, ?held, ?live, ?falls, ?calOff, ?safe, ?fallen, ?squelchIdle, ?squelch,
    ?precodeWaits, ?precodeStopped, ?boundary⟩
  case enable => exact fun n s hd safe syn dom st => exec_txEnable_starts hd safe syn dom st
  case holds => exact fun n s hd h => exec_txEnable_holds hd h
  case cal =>
    intro n s hd st dom
    obtain ⟨t, run, state, level, order, trims⟩ := exec_txCalDone_trims hd st dom
    exact ⟨t, run, state, level, order, fun j trim h => trims j.val j.isLt trim h⟩
  case limits => exact fun old new trim h => SubDacTrim.limits_of_mem_legalTrims h
  case ramp =>
    intro n s hd st rises free deep
    refine ⟨_, exec_txCmRampDone_free hd st rises free, ?_⟩
    rw [State.txRamp_of_free ((s.datapathStart_deepHolds n _).trans deep), State.modTx_same]
    refine ⟨(State.modTx_txState _ _ _).trans (State.setTxState_txState _ n (by decide)), ?_⟩
    simp only [State.setTxState, State.setFld_other, State.datapathStart, State.modTx_same, and_self]
  case held =>
    intro n s hd st rises cause
    refine ⟨_, exec_txCmRampDone_squelched hd st rises cause,
      (State.modTx_txState _ _ _).trans (State.setTxState_txState _ n (by decide)), ?_⟩
    rw [State.modTx_same]
    simp only [State.setTxState, State.setFld_other, State.datapathStart, State.modTx_same, and_self]
  case live =>
    intro n s hd st last
    have live := State.setTxState_txState s n (v := 5) (by decide)
    exact ⟨_, exec_txAmpRampDone hd st last, live, State.rampK_live live, s.setFld_regsBut _ _ _⟩
  case falls => exact fun n s _ safe st => exec_txDisable_running safe st
  case calOff => exact fun n s hd safe st => exec_txDisable_cal hd safe st
  case safe => exact fun n s hd safe => ⟨_, exec_txDisable_safe hd safe, s.flag_setFlag_same _ _ (by decide) rfl,
      s.setFld_regsBut _ _ _⟩
  case fallen => exact fun n s hd st falls => exec_txFallDone hd st falls
  case squelchIdle =>
    rintro n _ s hd rfl st
    exact ⟨_, exec_txSquelchWrite_idle hd st, s.squelched_flag n, s.squelched_cause n, s.squelched_txState n⟩
  case squelch =>
    rintro n _ s - rfl st
    refine ⟨_, exec_txSquelchWrite_running st, ?_, State.txHold_txState _ n⟩
    rw [State.flag, State.txHold_fld _ _ (by decide) (by decide), ← State.flag, s.squelched_flag]
  case precodeWaits =>
    intro n on s hd st
    refine ⟨_, exec_txPrecodeWrite_running on hd st, ?_, ?_, ?_, RegsBut.modTx (s.setFld_regsBut _ _ _) n _⟩
    · rw [State.flag, State.modTx_fld, ← State.flag]
      exact s.flag_setFlag_same _ _ (by decide) rfl
    · rw [State.modTx_same]
      simp only [State.setFlag_other]
    · rw [State.modTx_same]
      simp only [State.setFlag_other]
  case precodeStopped => exact fun n on s hd st => ⟨_, exec_txPrecodeWrite_stopped on hd st, rfl⟩
  case boundary =>
    intro n on s next boundary
    rw [State.txFrameBoundary_waiting next boundary, State.modTx_same]
    simp

end Sys2Proof.Machine
end

section
/-! Acquisition of a line lane (O34).  A start and a lock run through many operations that write beside what the clauses ask
for: the first part says once which words of the lane and what of its receiver they keep. -/

namespace Sys2Proof.Machine

open Reg

/-! ### The words of the equaliser and of the line frame -/

/-- EQ_CTRL, EQ_STATUS and FEC_STATUS. -/
def eqWords : List Nat := [0x300, 0x304, 0x604]

/-- Those words of a lane hold what they held, and its receiver the precoding in force and the step of a fast re-lock. -/
structure RxKept (n : Fin 8) (s t : State) : Prop where
  reg : ∀ off ∈ eqWords, t.reg (lineBase n + off) = s.reg (lineBase n + off)
  precode : t.line[n].rx.precode = s.line[n].rx.precode
  relock : t.line[n].rx.relockStep = s.line[n].rx.relockStep

theorem eqWords_lt {off : Nat} (h : off ∈ eqWords) : off < 0x10000 := by
  have : ∀ o ∈ eqWords, o < 0x10000 := by decide
  exact this off h

theorem not_mem_eqWords {off : Nat} (h : off < 0x300) : off ∉ eqWords := by
  have : ∀ o ∈ eqWords, 0x300 ≤ o := by decide
  exact fun hm => absurd (this off hm) (Nat.not_le.mpr h)

section
variable {n : Fin 8} {s t u : State}

theorem RxKept.refl (n : Fin 8) (s : State) : RxKept n s s := ⟨fun _ _ => rfl, rfl, rfl⟩

theorem RxKept.trans (h : RxKept n s t) (k : RxKept n t u) : RxKept n s u :=
  ⟨fun off ho => (k.reg off ho).trans (h.reg off ho), k.precode.trans h.precode, k.relock.trans h.relock⟩

theorem RxKept.ite {c : Prop} [Decidable c] (h : RxKept n s t) (k : RxKept n s u) : RxKept n s (if c then t else u) := by
  split <;> assumption

theorem RxKept.each {α : Type} {l : List α} {f : α → State → State} (h : RxKept n s t)
    (k : ∀ x ∈ l, ∀ u, RxKept n u (f x u)) : RxKept n s (t.each l f) :=
  State.each_keeps_mem (P := RxKept n s) (fun x hx u hu => hu.trans (k x hx u)) h

theorem RxKept.fld (h : RxKept n s t) {f : Field} (hf : f.off ∈ eqWords) :
    t.fld (lineBase n) f = s.fld (lineBase n) f := by rw [State.fld, State.fld, h.reg _ hf]

theorem RxKept.flag (h : RxKept n s t) {f : Field} (hf : f.off ∈ eqWords) :
    t.flag (lineBase n) f = s.flag (lineBase n) f := by rw [State.flag, State.flag, h.fld hf]

/-- An operation that touches neither the line lanes nor their registers. -/
theorem Evolves.rxKept {ps : List Part} (h : Evolves ps s t) (hl : .line ∉ ps) (hr : .lineRegs ∉ ps) : RxKept n s t := by
  have line : t.line = s.line := h.only .line hl
  exact ⟨fun off ho => h.reg (by rwa [regPart_lineBase n (eqWords_lt ho)]), by rw [line], by rw [line]⟩

theorem RxKept.setReg (h : RxKept n s t) {off : Nat} (w : Word) (ho : off ∉ eqWords) :
    RxKept n s (t.setReg (lineBase n + off) w) :=
  h.trans ⟨fun _ hm => Regs.reg_set_ne _ _ fun e => ho (Nat.add_left_cancel e ▸ hm), rfl, rfl⟩

/-- A write of another register, of this lane or of any other. -/
theorem RxKept.setFld (h : RxKept n s t) {k : Fin 8} {f : Field} (v : Nat) (hf : f.off ∉ eqWords) (lt : f.off < 0x10000) :
    RxKept n s (t.setFld (lineBase k) f v) :=
  h.trans ⟨fun _ hm => Regs.reg_setFld_ne _ fun e => hf ((lineBase_add_inj (eqWords_lt hm) lt e).2 ▸ hm), rfl, rfl⟩

theorem RxKept.setFlag (h : RxKept n s t) {k : Fin 8} {f : Field} (v : Bool) (hf : f.off ∉ eqWords) (lt : f.off < 0x10000) :
    RxKept n s (t.setFlag (lineBase k) f v) := h.setFld _ hf lt

theorem State.modLine_rxKept {k : Fin 8} {f : LineLane → LineLane} (s : State) (hp : ∀ l, (f l).rx.precode = l.rx.precode)
    (hr : ∀ l, (f l).rx.relockStep = l.rx.relockStep) : RxKept n s (s.modLine k f) := by
  by_cases e : n = k
  · subst e
    exact ⟨fun _ _ => rfl, by rw [State.modLine_same, hp], by rw [State.modLine_same, hr]⟩
  · exact ⟨fun _ _ => rfl, by rw [State.modLine_ne _ _ e], by rw [State.modLine_ne _ _ e]⟩

theorem RxKept.modRx (h : RxKept n s t) {k : Fin 8} {f : LineRx → LineRx} (hp : ∀ r, (f r).precode = r.precode)
    (hr : ∀ r, (f r).relockStep = r.relockStep) : RxKept n s (t.modRx k f) :=
  h.trans (t.modLine_rxKept (fun l => hp l.rx) fun l => hr l.rx)

theorem RxKept.modAdc (h : RxKept n s t) (k : Fin 8) (f : AdcState → AdcState) : RxKept n s (t.modAdc k f) :=
  h.trans (t.modLine_rxKept (fun _ => rfl) fun _ => rfl)

theorem RxKept.modLinkOf (h : RxKept n s t) (k : Fin 8) (f : LaneLink → LaneLink) : RxKept n s (t.modLinkOf k f) :=
  h.trans (t.modLine_rxKept (fun _ => rfl) fun _ => rfl)

theorem RxKept.modTx (h : RxKept n s t) (k : Fin 8) (f : LineTx → LineTx) : RxKept n s (t.modTx k f) :=
  h.trans (t.modLine_rxKept (fun _ => rfl) fun _ => rfl)

theorem RxKept.raise (h : RxKept n s t) (src detail : Nat) : RxKept n s (t.raise src detail) :=
  h.trans (Evolves.rxKept (State.raise_evolves (ps := raiseParts) (.refl _ t) (by decide)) (by decide) (by decide))

theorem RxKept.unsettle (h : RxKept n s t) (k : Fin 8) (w : Nat) : RxKept n s (t.unsettle k w) := by
  refine h.setFlag true ?_ (ledgerUnsettled_off_lt w)
  unfold ledgerUnsettled; split_ifs <;> decide

/-! ### Fades, squelch and fill -/

theorem RxKept.fadeStop (h : RxKept n s t) (k : Fin 8) {r : FadeRegs} (hb : r.InBlock)
    (hf : ∀ f ∈ [r.fading, r.pending, r.restarts], f.off ∉ eqWords) : RxKept n s (t.fadeStop k r) := by
  unfold State.fadeStop
  dsimp only
  split
  · exact RxKept.raise (RxKept.setFld (RxKept.setFlag (RxKept.setFlag h _ (hf _ (by simp)) (hb _ (by simp))) _ (hf _ (by simp))
      (hb _ (by simp))) _ (hf _ (by simp)) (hb _ (by simp))) _ _
  · exact h

theorem RxKept.setTxState (h : RxKept n s t) (k : Fin 8) (v : Nat) : RxKept n s (t.setTxState k v) :=
  h.setFld v (by decide) (by decide)

theorem RxKept.txHold (h : RxKept n s t) (k : Fin 8) : RxKept n s (t.txHold k) :=
  ((h.setTxState k 3).modTx k _).fadeStop k pdRegs_inBlock (by decide)

theorem RxKept.txRamp (h : RxKept n s t) (k : Fin 8) : RxKept n s (t.txRamp k) :=
  .ite (h.setTxState k 3) ((h.setTxState k 4).modTx k _)

theorem RxKept.setCauses (h : RxKept n s t) (k : Fin 8) (set clear : Nat) : RxKept n s (t.setCauses k set clear) := by
  have caused (v : Nat) : RxKept n s (t.setFld (lineBase k) TX_STATUS_SQ_CAUSE v) := h.setFld v (by decide) (by decide)
  exact .ite ((caused _).txHold k) (.ite ((caused _).txRamp k) (caused _))

theorem RxKept.refreshFill (h : RxKept n s t) (k : Fin 8) : RxKept n s (t.refreshFill k) :=
  .ite ((h.modLinkOf k _).setCauses k _ _) ((h.modLinkOf k _).setCauses k _ _)

theorem RxKept.realign (h : RxKept n s t) (k : Fin 8) : RxKept n s (t.realign k) :=
  h.each fun x _ u => ((((RxKept.refl n u).modLinkOf x _).unsettle x 0 |>.unsettle x 1).unsettle x 2).refreshFill x

theorem RxKept.joinGroup (h : RxKept n s t) (k : Fin 8) (host : Bool) (skew : Nat) : RxKept n s (t.joinGroup k host skew) :=
  .ite h (.ite h (h.realign k))

theorem RxKept.lrFollow (h : RxKept n s t) (k : Fin 8) (inFrame : Bool) : RxKept n s (t.lrFollow k inFrame) :=
  h.trans (Evolves.rxKept (State.lrFollow_evolves (ps := [.host, .hostRegs]) (.refl _ t) (by decide)) (by decide) (by decide))

theorem RxKept.quiet (h : RxKept n s t) (src : Nat) : RxKept n s (t.quiet src) :=
  h.trans (Evolves.rxKept (State.quiet_evolves (ps := [.fuse]) (.refl _ t) (by decide)) (by decide) (by decide))

theorem RxKept.followEnd (h : RxKept n s t) (k : Fin 8) (stream : Option (Fin 16)) : RxKept n s (t.followEnd k stream) :=
  .ite (.ite ((h.modLinkOf k _).quiet _) (h.modLinkOf k _)) h

theorem RxKept.dropAlignment (h : RxKept n s t) (k : Fin 8) : RxKept n s (t.dropAlignment k) :=
  h.trans (Evolves.rxKept (State.dropAlignment_evolves (ps := [.lanes]) (.refl _ t) (by decide)) (by decide) (by decide))

/-! ### The converter -/

theorem RxKept.refreshTrainPos (h : RxKept n s t) (k : Fin 8) : RxKept n s (t.refreshTrainPos k) := by
  unfold State.refreshTrainPos
  dsimp only
  split
  · exact h.setFld _ (by decide) (by decide)
  · exact h

theorem slice_off_lt {f : Field} {k : Nat} (hk : k < 17) (hf : f.off = 0x140) (hs : f.stride = 4) : (f.ix k).off < 0x300 := by
  simp only [Field.ix, hf, hs]; omega

theorem RxKept.setSliceFld (h : RxKept n s t) (m : Fin 8) {f : Field} {k : Nat} (v : Nat) (hk : k < 17) (hf : f.off = 0x140)
    (hs : f.stride = 4) : RxKept n s (t.setFld (lineBase m) (f.ix k) v) :=
  h.setFld v (not_mem_eqWords (slice_off_lt hk hf hs)) (Field.ix_lt _ _)

theorem RxKept.setSlice (h : RxKept n s t) (m : Fin 8) {k : Nat} (hk : k < 17) (pos st : Nat) :
    RxKept n s (t.setSlice m k pos st) := (h.setSliceFld m pos hk rfl rfl).setSliceFld m st hk rfl rfl

theorem State.spare_lt {m : Fin 8} {k : Nat} (h : s.spare m = some k) : k < 17 := by
  unfold State.spare at h
  dsimp only at h
  split at h
  · next lt => exact Option.some.inj h ▸ lt
  · exact absurd h (by simp)

theorem RxKept.setSpareState (h : RxKept n s t) (m : Fin 8) (st : Nat) : RxKept n s (t.setSpareState m st) := by
  unfold State.setSpareState
  split
  · next k spare => exact (h.setFld _ (by decide) (by decide)).setSliceFld m st (State.spare_lt spare) rfl rfl
  · exact h

theorem RxKept.refreshBridged (h : RxKept n s t) (m : Fin 8) : RxKept n s (t.refreshBridged m) := by
  have flagged (v : Bool) : RxKept n s (t.setFlag (lineBase m) ADC_STATUS_BRIDGED v) := h.setFlag v (by decide) (by decide)
  unfold State.refreshBridged
  dsimp only
  split
  · exact (flagged _).setFld _ (by decide) (by decide)
  · exact flagged _

theorem RxKept.assignSlices (h : RxKept n s t) (m : Fin 8) : RxKept n s (t.assignSlices m) := by
  have active := h.each (l := List.range 16) (f := fun k u => u.setSlice m k k 0) fun k hk u =>
    (RxKept.refl n u).setSlice m (Nat.lt_succ_of_lt (List.mem_range.1 hk)) k 0
  exact RxKept.refreshBridged (RxKept.modAdc (RxKept.setFlag (RxKept.setFld (RxKept.setFld (active.setSlice m (by decide) 16 1)
    _ (by decide) (by decide)) _ (by decide) (by decide)) _ (by decide) (by decide)) m _) m

theorem RxKept.adcEstimate (h : RxKept n s t) (m : Fin 8) : RxKept n s (t.adcEstimate m) :=
  RxKept.refreshTrainPos (.ite ((h.modAdc m _).setSpareState m 2) ((h.modAdc m _).setSpareState m _)) m

theorem RxKept.adcStart (h : RxKept n s t) (m : Fin 8) : RxKept n s (t.adcStart m) := by
  have assigned : RxKept n s (if t.line[m].adc.assigned then t else t.assignSlices m) := .ite h (h.assignSlices m)
  have cleared (f : AdcState → AdcState) : RxKept n s (((((if t.line[m].adc.assigned then t else t.assignSlices m).modAdc m f
      ).setFlag (lineBase m) ADC_STATUS_CONVERGED false).setFld (lineBase m) ADC_STATUS_ROT_COUNT 0).setFld (lineBase m)
      ADC_QUAL_ROT_ABORT 0) :=
    RxKept.setFld (RxKept.setFld (RxKept.setFlag (assigned.modAdc m f) _ (by decide) (by decide)) _ (by decide) (by decide)) _
      (by decide) (by decide)
  exact .ite ((cleared _).adcEstimate m) (((cleared _).setSpareState m 1).refreshTrainPos m)

end

/-! ### A loss of lock and a step of ACQ_STATE -/

section
variable {s : State} {n : Fin 8}

theorem Evolves.deepHolds {ps : List Part} {t : State} (h : Evolves ps s t) (ht : .test ∉ ps) (hm : .memProtRegs ∉ ps)
    (d : Nat) : t.deepHolds d = s.deepHolds d := by
  have test : t.test = s.test := h.only .test ht
  have flag (f : Field) (hf : regPart (memProtBase + f.off) = .memProtRegs) : t.fld memProtBase f = s.fld memProtBase f :=
    h.fld (by rwa [hf])
  have bank (b : Nat) : t.bankDomain b = s.bankDomain b := by
    unfold State.bankDomain State.flag
    rw [flag BANK_MAP_ENGINE_USED (by decide), flag BANK_MAP_ENGINE_FOR (by decide)]
  unfold State.deepHolds State.deepDomains
  simp only [test, bank]

/-- What a lane that leaves LOCKED writes in those words (R103, R118). -/
def State.lockDropped (s : State) (n : Fin 8) : State :=
  (((s.setFlag (lineBase n) EQ_STATUS_LOCKED false).setFlag (lineBase n) FEC_STATUS_IN_FRAME false).setFlag (lineBase n)
    FEC_STATUS_BER_VALID false).setFlag (lineBase n) FEC_STATUS_LOW_COUNT false

theorem State.frameDown_kept (s : State) (n : Fin 8) :
    RxKept n (s.lockDropped n) ((s.setFlag (lineBase n) EQ_STATUS_LOCKED false).frameDown n) := by
  have estimate : RxKept n (s.lockDropped n) ((s.lockDropped n).setReg (lineBase n + BER_EST_EXP.off) 0) :=
    (RxKept.refl n _).setReg 0 (by decide)
  refine RxKept.lrFollow (estimate.modRx ?_ ?_) n false <;> exact fun _ => rfl

theorem State.loseLock_kept (h : s.locked n = true) : RxKept n (s.lockDropped n) (s.loseLock n) := by
  have published := RxKept.setReg (RxKept.setFld (s.frameDown_kept n) (k := n) (f := SNR_STAT_SNR) 0 (by decide) (by decide))
    0 (off := EYE_STAT_EYE_MID.off) (by decide)
  unfold State.loseLock
  rw [if_pos h]
  exact ((((RxKept.ite (published.fadeStop n nlcRegs_inBlock (by decide)) published).unsettle n 0).dropAlignment n).followEnd n
    none).refreshFill n

/-- Whether it was locked or not, a lane that loses lock keeps its configuration. -/
structure Unlocked (n : Fin 8) (s t : State) : Prop where
  locked : t.locked n = false
  ctrl : ∀ f : Field, f.off = 0x300 → t.fld (lineBase n) f = s.fld (lineBase n) f
  precode : t.line[n].rx.precode = s.line[n].rx.precode

theorem State.flag_setFlag_apart (s : State) (base : Nat) {f g : Field} (v : Bool) (h : g.Apart f) :
    (s.setFlag base f v).flag base g = s.flag base g := s.flag_setFld_apart _ _ h

theorem State.loseLock_unlocked (s : State) (n : Fin 8) : Unlocked n s (s.loseLock n) := by
  by_cases h : s.locked n = true
  · have kept := State.loseLock_kept h
    refine ⟨?_, fun f hf => ?_, ?_⟩
    · rw [State.locked, kept.flag (by decide), State.lockDropped, State.flag_setFlag_apart _ _ _ (by decide),
        State.flag_setFlag_apart _ _ _ (by decide), State.flag_setFlag_apart _ _ _ (by decide)]
      exact s.flag_setFlag_same _ _ (by decide) rfl
    · rw [kept.fld (by rw [hf]; decide)]
      have beside (t : State) {g : Field} (v : Bool) (hg : g.off ≠ 0x300) :
          (t.setFlag (lineBase n) g v).fld (lineBase n) f = t.fld (lineBase n) f :=
        t.fld_setFlag_apart _ _ (.inl (by rw [hf]; exact hg.symm))
      rw [State.lockDropped, beside _ _ (by decide), beside _ _ (by decide), beside _ _ (by decide), beside _ _ (by decide)]
    · rw [kept.precode]
      simp only [State.lockDropped, State.setFlag_other]
  · rw [State.loseLock, if_neg h]
    exact ⟨by simpa using h, fun _ _ => rfl, rfl⟩

/-- The same write on both sides. -/
theorem RxKept.setFld_both {t : State} (h : RxKept n s t) {f : Field} (v : Nat) (hf : f.off ∈ eqWords) :
    RxKept n (s.setFld (lineBase n) f v) (t.setFld (lineBase n) f v) := by
  refine ⟨fun off ho => ?_, by simpa only [State.setFld_other] using h.precode,
    by simpa only [State.setFld_other] using h.relock⟩
  have word := h.reg _ hf
  simp only [State.reg_eq] at word
  simp only [State.reg_eq, State.setFld_regs, Regs.setFld, word]
  by_cases e : off = f.off
  · rw [e, Regs.reg_set_same, Regs.reg_set_same]
  · rw [Regs.reg_set_ne _ _ (by omega), Regs.reg_set_ne _ _ (by omega)]
    exact h.reg off ho

/-- ACQ_STATE is written, and a reception by direct sampling may end (R102, R415). -/
theorem State.setAcqState_kept (s : State) (n : Fin 8) (v : Nat) :
    RxKept n (s.setFld (lineBase n) EQ_STATUS_ACQ_STATE v) (s.setAcqState n v) := by
  have fell : Evolves [.tamid, .tamidRegs] s (s.when (decide (v < 2)) fun s => s.tamidAcqFall n) :=
    .when (.refl _ s) fun t h => State.tamidAcqFall_evolves h (by decide)
  have kept : RxKept n s (s.when (decide (v < 2)) fun s => s.tamidAcqFall n) := fell.rxKept (by decide) (by decide)
  unfold State.setAcqState
  exact RxKept.modRx (kept.setFld_both v (by decide)) (fun _ => rfl) fun _ => rfl

/-- What ACQ_STATE leaves of the lane beside its receiver. -/
theorem State.setAcqState_adc (s : State) (n : Fin 8) (v : Nat) : (s.setAcqState n v).line[n].adc = s.line[n].adc := by
  have fell : Evolves [.tamid, .tamidRegs] s (s.when (decide (v < 2)) fun s => s.tamidAcqFall n) :=
    .when (.refl _ s) fun t h => State.tamidAcqFall_evolves h (by decide)
  have line : (s.when (decide (v < 2)) fun s => s.tamidAcqFall n).line = s.line := fell.only .line (by decide)
  rw [State.setAcqState, State.modRx_same]
  simp only [State.setFld_other, line]

theorem State.setAcqState_acqState (s : State) (n : Fin 8) {v : Nat} (h : v < 16) : (s.setAcqState n v).acqState n = v := by
  rw [State.acqState, (s.setAcqState_kept n v).fld (by decide), State.fld_eq, State.setFld_regs,
    Regs.fld_setFld_same _ (by decide)]
  exact Nat.mod_eq_of_lt h

theorem State.setAcqState_locked (s : State) (n : Fin 8) (v : Nat) : (s.setAcqState n v).locked n = s.locked n := by
  rw [State.locked, (s.setAcqState_kept n v).flag (by decide), State.flag_setFld_apart _ _ _ (by decide), State.locked]

/-! ### The start of an acquisition (R101, R63) -/

theorem State.spareShown_line (s : State) (n : Fin 8) (st : Nat) : ((s.setSpareState n st).refreshTrainPos n).line = s.line :=
  (State.refreshTrainPos_evolves (ps := [.lineRegs]) (State.setSpareState_evolves (.refl _ s) (by decide)) (by decide)).only
    .line (by decide)

theorem State.adcEstimate_step (s : State) (n : Fin 8) : (s.adcEstimate n).line[n].adc.step = 4 := by
  unfold State.adcEstimate
  dsimp only
  generalize start : s.modAdc n _ = t
  have step : t.line[n].adc.step = 4 := by rw [← start, State.modAdc_same]
  have shown (st : Nat) : ((t.setSpareState n st).refreshTrainPos n).line[n].adc.step = 4 := by
    simpa only [t.spareShown_line n st] using step
  split <;> exact shown _

theorem State.adcStart_step (s : State) (n : Fin 8) :
    (s.adcStart n).line[n].adc.step = 3 ∨ (s.adcStart n).line[n].adc.step = 4 := by
  unfold State.adcStart
  dsimp only
  generalize (if s.line[n].adc.assigned then s else s.assignSlices n) = t
  generalize start : t.modAdc n _ = u
  have step : u.line[n].adc.step = 3 := by rw [← start, State.modAdc_same]
  split
  · exact .inr (State.adcEstimate_step _ n)
  · left
    simpa only [State.spareShown_line, State.setFld_other, State.setFlag_other] using step

/-- A lane that has started a full acquisition. -/
structure Acquiring (n : Fin 8) (s u : State) : Prop where
  state : u.acqState n = 1
  unlocked : u.locked n = false
  step : u.line[n].adc.step = 3 ∨ u.line[n].adc.step = 4
  unsettled : u.flag (lineBase n) LEDGER_RX_UNSETTLED = true
  ctrl : ∀ f : Field, f.off = 0x300 → u.fld (lineBase n) f = s.fld (lineBase n) f
  precode : u.line[n].rx.precode = s.line[n].rx.precode

theorem RxKept.acqState {t : State} (h : RxKept n s t) : t.acqState n = s.acqState n := h.fld (by decide)

theorem RxKept.locked {t : State} (h : RxKept n s t) : t.locked n = s.locked n := h.flag (by decide)

theorem State.modRx_fld (s : State) (k : Fin 8) (f : LineRx → LineRx) (base : Nat) (g : Field) :
    (s.modRx k f).fld base g = s.fld base g := by rw [State.fld_eq, State.fld_eq, State.modRx_regs]

/-- The receiver at the start of step 1. -/
def LineRx.started (r : LineRx) (tick : Nat) : LineRx :=
  { r with trigger := tick, startDue := false, clocksStopped := false, relockStep := 0, fastFfe := false }

/-- The lane once its receiver and the count of its searches stand at their start. -/
def State.acqCleared (s : State) (n : Fin 8) : State :=
  ((s.rotHold n).modRx n (·.started s.tick)).setFld (lineBase n) FEC_STATUS_FRAME_SEARCHES 0

theorem State.acqStart_of_starts (h : ((s.loseLock n).synLocked (lineSyn n) && !(s.loseLock n).deepHolds (domLineRx n)) = true) :
    s.acqStart n = (((((s.loseLock n).acqCleared n).adcStart n).setAcqState n 1).unsettle n 0).bankRestored (243 + n.val) := by
  unfold State.acqStart
  dsimp only
  rw [if_pos h]
  rfl

theorem State.acqCleared_fld (s : State) (n : Fin 8) {g : Field} (h : g.Apart FEC_STATUS_FRAME_SEARCHES) :
    (s.acqCleared n).fld (lineBase n) g = s.fld (lineBase n) g := by
  rw [State.acqCleared, State.fld_setFld_apart _ _ _ h, State.modRx_fld, State.rotHold, State.modRx_fld]

theorem State.acqCleared_precode (s : State) (n : Fin 8) : (s.acqCleared n).line[n].rx.precode = s.line[n].rx.precode := by
  simp only [State.acqCleared, State.setFld_other]
  rw [State.modRx_same, LineRx.started, State.rotHold, State.modRx_same]

theorem State.acqStart_acquiring (syn : s.synLocked (lineSyn n) = true) (deep : s.deepHolds (domLineRx n) = false) :
    Acquiring n s (s.acqStart n) := by
  have lost : Evolves [.line, .host, .lanes, .fuse, .link, .counters, .attic, .systemRegs, .lineRegs, .hostRegs] s
      (s.loseLock n) := State.loseLock_evolves (.refl _ s) (by decide)
  obtain ⟨unlocked, ctrl, precode⟩ := s.loseLock_unlocked n
  rw [State.acqStart_of_starts (by
    rw [lost.synLocked (by decide), lost.deepHolds (by decide) (by decide), syn, deep]; rfl)]
  generalize s.loseLock n = v at unlocked ctrl precode
  have adc : RxKept n (v.acqCleared n) ((v.acqCleared n).adcStart n) := (RxKept.refl n _).adcStart n
  have step := (v.acqCleared n).adcStart_step n
  generalize (v.acqCleared n).adcStart n = a at adc step
  have acq := a.setAcqState_kept n 1
  have acqAdc := a.setAcqState_adc n 1
  have state := a.setAcqState_acqState n (v := 1) (by decide)
  have locked := a.setAcqState_locked n 1
  generalize a.setAcqState n 1 = b at acq acqAdc state locked
  have ended : RxKept n b ((b.unsettle n 0).bankRestored (243 + n.val)) := ((RxKept.refl n b).unsettle n 0).trans
    (Evolves.rxKept (State.bankRestored_evolves (ps := [.memProtRegs]) (.refl _ _) (by decide)) (by decide) (by decide))
  refine ⟨ended.acqState.trans state, ?_, ?_, ?_, fun f hf => ?_, ?_⟩
  · rw [ended.locked, locked, adc.locked, State.locked, State.flag, State.acqCleared_fld _ _ (by decide)]
    exact unlocked
  · have line : ((b.unsettle n 0).bankRestored (243 + n.val)).line = b.line :=
      (State.bankRestored_evolves (ps := [.lineRegs, .memProtRegs]) (State.unsettle_evolves (.refl _ b) (by decide))
        (by decide)).only .line (by decide)
    rwa [line, acqAdc]
  · rw [State.flag, State.fld_eq, State.bankRestored_fld _ _ _ (by decide), ← State.fld_eq]
    exact b.unsettle_self n 0
  · have off : f.off ∈ eqWords := by rw [hf]; decide
    rw [ended.fld off, acq.fld off, State.fld_setFld_apart _ _ _ (.inl (by rw [hf]; decide)), adc.fld off,
      State.acqCleared_fld _ _ (.inl (by rw [hf]; decide)), ctrl f hf]
  · rw [ended.precode, acq.precode]
    simp only [State.setFld_other]
    rw [adc.precode, State.acqCleared_precode, precode]

theorem State.lineReacq_acquiring (st : s.acqState n ≠ 0) (syn : s.synLocked (lineSyn n) = true)
    (deep : s.deepHolds (domLineRx n) = false) : Acquiring n s (s.lineReacq n) := by
  rw [State.lineReacq, if_neg st]
  exact State.acqStart_acquiring syn deep

theorem State.lineReacq_idle (st : s.acqState n = 0) : s.lineReacq n = s := if_pos st

/-! ### The receive precoding (R38) -/

theorem State.lineRxPrecode_inFrame {on : Bool} (frame : s.flag (lineBase n) FEC_STATUS_IN_FRAME = true)
    (change : s.line[n].rx.precode ≠ on) : s.lineRxPrecode n on =
      (s.setFlag (lineBase n) EQ_CTRL_RX_PRECODE on).modRx n fun r => { r with precodeNext := some on } := by
  have inForce : (s.setFlag (lineBase n) EQ_CTRL_RX_PRECODE on).line[n].rx.precode = s.line[n].rx.precode := by
    simp only [State.setFlag_other]
  unfold State.lineRxPrecode
  dsimp only
  rw [if_pos (by rwa [State.flag_setFlag_apart _ _ _ (by decide)]), inForce, if_neg (Ne.symm change)]

theorem RegsBut.modRx {as : List Nat} {t : State} (h : RegsBut as s t) (n : Fin 8) (f : LineRx → LineRx) :
    RegsBut as s (t.modRx n f) := h

theorem State.precodeWritten_regsBut (s : State) (n : Fin 8) (on : Bool) (f : LineRx → LineRx) :
    RegsBut [lineBase n + EQ_CTRL_RX_PRECODE.off] s ((s.setFlag (lineBase n) EQ_CTRL_RX_PRECODE on).modRx n f) :=
  RegsBut.modRx (s.setFld_regsBut _ _ _) n f

/-- Out of a frame the precoding is in force at once. -/
def State.precodeSet (s : State) (n : Fin 8) (on : Bool) : State :=
  (s.setFlag (lineBase n) EQ_CTRL_RX_PRECODE on).modRx n fun r => { r with precode := on, precodeNext := none }

theorem State.lineRxPrecode_outOfFrame (on : Bool) (frame : s.flag (lineBase n) FEC_STATUS_IN_FRAME = false) :
    s.lineRxPrecode n on = if on = s.line[n].rx.precode then s.precodeSet n on else (s.precodeSet n on).lineReacq n := by
  have inForce : (s.setFlag (lineBase n) EQ_CTRL_RX_PRECODE on).line[n].rx.precode = s.line[n].rx.precode := by
    simp only [State.setFlag_other]
  unfold State.lineRxPrecode
  dsimp only
  rw [if_neg (by rw [State.flag_setFlag_apart _ _ _ (by decide), frame]; decide), inForce]
  rfl

theorem State.precodeSet_flag (s : State) (n : Fin 8) (on : Bool) :
    (s.precodeSet n on).flag (lineBase n) EQ_CTRL_RX_PRECODE = on := by
  rw [State.precodeSet, State.flag, State.modRx_fld, ← State.flag]
  exact s.flag_setFlag_same _ _ (by decide) rfl

theorem State.precodeSet_rx (s : State) (n : Fin 8) (on : Bool) :
    (s.precodeSet n on).line[n].rx.precode = on ∧ (s.precodeSet n on).line[n].rx.precodeNext = none := by
  rw [State.precodeSet, State.modRx_same]
  exact ⟨rfl, rfl⟩

theorem State.precodeSet_evolves (s : State) (n : Fin 8) (on : Bool) : Evolves [.line, .lineRegs] s (s.precodeSet n on) :=
  State.modRx_evolves (State.setFlag_evolves (.refl _ s) (by rw [regPart_lineBase n (by decide)]; decide)) (by decide)

theorem State.precodeSet_acquiring (on : Bool) (st : s.acqState n ≠ 0) (syn : s.synLocked (lineSyn n) = true)
    (deep : s.deepHolds (domLineRx n) = false) : Acquiring n (s.precodeSet n on) ((s.precodeSet n on).lineReacq n) := by
  have set := s.precodeSet_evolves n on
  refine State.lineReacq_acquiring ?_ (by rw [set.synLocked (by decide), syn]) (by
    rw [set.deepHolds (by decide) (by decide), deep])
  rwa [State.acqState, State.precodeSet, State.modRx_fld, State.setFlag, State.fld_setFld_apart _ _ _ (by decide)]

theorem State.rxFrameBoundary_change {on : Bool} (next : s.line[n].rx.precodeNext = some on)
    (boundary : (s.tick - s.line[n].rx.frameTick) % s.frameTicks = 0) : s.rxFrameBoundary n =
      (s.modRx n fun r => { r with precode := on, precodeNext := none }).lineReacq n := by
  unfold State.rxFrameBoundary
  dsimp only
  rw [next]
  exact if_pos (.inl boundary)

theorem State.rxFrameBoundary_acquiring {on : Bool} (next : s.line[n].rx.precodeNext = some on)
    (boundary : (s.tick - s.line[n].rx.frameTick) % s.frameTicks = 0) (st : s.acqState n ≠ 0)
    (syn : s.synLocked (lineSyn n) = true) (deep : s.deepHolds (domLineRx n) = false) :
    Acquiring n (s.modRx n fun r => { r with precode := on, precodeNext := none }) (s.rxFrameBoundary n) := by
  have taken := State.modRx_evolves (n := n) (f := fun r => { r with precode := on, precodeNext := none })
    (.refl [.line] s) (by decide)
  rw [State.rxFrameBoundary_change next boundary]
  refine State.lineReacq_acquiring ?_ (by rw [taken.synLocked (by decide), syn]) (by
    rw [taken.deepHolds (by decide) (by decide), deep])
  rwa [State.acqState, State.modRx_fld]

/-! ### The steps of an acquisition (R101, R102) -/

theorem exec_lineAcqStepDone (r : AcqResult) (los : s.flag (lineBase n) EQ_STATUS_LOS = false)
    (clocks : s.line[n].rx.clocksStopped = false) : exec (.lineAcqStepDone n r) s = done (s.acqStepDone n r) := by
  show execLineAcqStepDone n r s = _
  rw [execLineAcqStepDone, los, clocks, if_neg (by decide)]

theorem State.acqStepDone_adc (r : AcqResult) (st : s.acqState n = 1) : s.acqStepDone n r =
    if s.flag (lineBase n) ADC_STATUS_CONVERGED then s.setAcqState n 2 else s := by
  unfold State.acqStepDone
  dsimp only
  rw [st, if_pos rfl]

theorem State.acqStepDone_ctle (r : AcqResult) (st : s.acqState n = 2) : s.acqStepDone n r =
    if s.flag (lineBase n) AFE_CTRL_CTLE_MAN then s.ctleTaken n (s.fld (lineBase n) AFE_CTRL_CTLE_SET)
    else s.setAcqState n 3 := by
  unfold State.acqStepDone
  dsimp only
  rw [st, if_neg (by decide), if_pos rfl]

theorem State.acqStepDone_ctleSearch (r : AcqResult) (st : s.acqState n = 3) : s.acqStepDone n r =
    s.ctleTaken n (if s.flag (lineBase n) AFE_CTRL_CTLE_MAN then s.fld (lineBase n) AFE_CTRL_CTLE_SET
      else bestSetting r.residuals) := by
  unfold State.acqStepDone
  dsimp only
  rw [st, if_neg (by decide), if_neg (by decide), if_pos rfl]

theorem State.acqStepDone_mlse (r : AcqResult) (st : s.acqState n = 4) : s.acqStepDone n r =
    (s.mlseStart n).setAcqState n 5 := by
  unfold State.acqStepDone
  dsimp only
  rw [st, if_neg (by decide), if_neg (by decide), if_neg (by decide), if_pos rfl]

theorem State.lineLoop_searchStart (s : State) (n : Fin 8) : (s.searchStart n).lineLoop n = s.lineLoop n := by
  have searched := State.searchStart_evolves (n := n) (.refl [.lineRegs] s) (by decide)
  have part : regPart (testBase + (LB_LINE_CODE n.val).off) = .testRegs := (by decide : regPart (testBase + 0x20) = .testRegs)
  exact searched.fld (by rw [part]; decide)

theorem State.acqStepDone_search (r : AcqResult) (st : s.acqState n = 5) (loop : s.lineLoop n ≠ 4) :
    s.acqStepDone n r = (s.searchStart n).setAcqState n 6 := by
  unfold State.acqStepDone
  dsimp only
  rw [st, if_neg (by decide), if_neg (by decide), if_neg (by decide), if_neg (by decide), if_pos rfl,
    State.lineLoop_searchStart, if_neg loop]

theorem State.acqStepDone_lock {r : AcqResult} (st : s.acqState n = 6) (found : s.searchDone n r.search = true) :
    s.acqStepDone n r = (s.keepAlignment n r.search).lineLock n r.skew := by
  unfold State.acqStepDone
  dsimp only
  rw [st, if_neg (by decide), if_neg (by decide), if_neg (by decide), if_neg (by decide), if_neg (by decide), if_pos rfl,
    if_pos found]

theorem State.acqStepDone_relock {r : AcqResult} (st : s.acqState n = 8) (step : s.line[n].rx.relockStep = 3)
    (found : s.searchDone n r.search = true) : s.acqStepDone n r = (s.keepAlignment n r.search).lineLock n r.skew := by
  unfold State.acqStepDone
  dsimp only
  rw [st, if_neg (by decide), if_neg (by decide), if_neg (by decide), if_neg (by decide), if_neg (by decide),
    if_neg (by decide), if_pos rfl, step, if_neg (by decide), if_neg (by decide), if_pos found]

/-- ACQ_STATE is the one register of the lane that its step writes. -/
theorem State.setAcqState_fld (s : State) (n : Fin 8) (v : Nat) {f : Field} (h : f.off ≠ EQ_STATUS_ACQ_STATE.off)
    (lt : f.off < 0x10000) : (s.setAcqState n v).fld (lineBase n) f = s.fld (lineBase n) f := by
  have fell : Evolves [.tamid, .tamidRegs] s (s.when (decide (v < 2)) fun s => s.tamidAcqFall n) :=
    .when (.refl _ s) fun t h => State.tamidAcqFall_evolves h (by decide)
  unfold State.setAcqState
  dsimp only
  rw [State.modRx_fld, State.fld_setFld_apart _ _ _ (.inl h), fell.lineFld (by decide) n lt]

theorem State.ctleTaken_cur (s : State) (n : Fin 8) (set : Nat) :
    (s.ctleTaken n set).fld (lineBase n) AFE_STATUS_CTLE_CUR = set % 16 := by
  rw [State.ctleTaken, State.modRx_fld, State.setAcqState_fld _ _ _ (by decide) (by decide), State.fld_eq, State.setFld_regs,
    Regs.fld_setFld_same _ (by decide)]
  rfl

theorem State.ctleTaken_acqState (s : State) (n : Fin 8) (set : Nat) : (s.ctleTaken n set).acqState n = 4 := by
  rw [State.acqState, State.ctleTaken, State.modRx_fld]
  exact State.setAcqState_acqState _ n (by decide)

theorem State.mlseLevel_off (j : Fin 64) : (MLSE_LEVEL_LEVEL.ix j.val).off ≠ EQ_STATUS_ACQ_STATE.off := by
  revert j; decide

theorem State.ctleSet_mod (s : State) (n : Fin 8) :
    s.fld (lineBase n) AFE_CTRL_CTLE_SET % 16 = s.fld (lineBase n) AFE_CTRL_CTLE_SET := Nat.mod_eq_of_lt (Regs.fld_lt _)

/-- What a step of an acquisition changes. -/
def acqParts : List Part := [.line, .tamid, .lineRegs, .tamidRegs]

theorem State.setAcqState_done (s : State) (n : Fin 8) (v : Nat) (hd : s.noneDue) :
    done (s.setAcqState n v) = .next (s.setAcqState n v) :=
  (State.setAcqState_evolves (.refl acqParts s) (by decide)).done_eq (by decide) hd

theorem State.ctleTaken_done (s : State) (n : Fin 8) (set : Nat) (hd : s.noneDue) :
    done (s.ctleTaken n set) = .next (s.ctleTaken n set) :=
  (State.ctleTaken_evolves (.refl acqParts s) (by decide)).done_eq (by decide) hd

theorem State.mlseStart_level (s : State) (n : Fin 8) (j : Fin 64) :
    (s.mlseStart n).mlseLevel n j.val = 64 * (2 * ((j.val / 16 : Nat) : Int) - 3) := by
  have level := State.each_mem (l := List.range 64)
    (f := fun j s => s.setFld (lineBase n) (MLSE_LEVEL_LEVEL.ix j) (intBits 12 (64 * (2 * ((j / 16 : Nat) : Int) - 3))))
    (P := fun j s => s.fld (lineBase n) (MLSE_LEVEL_LEVEL.ix j) = intBits 12 (64 * (2 * ((j / 16 : Nat) : Int) - 3)))
    (fun j _ s => by
      rw [State.fld_eq, State.setFld_regs, Regs.fld_setFld_same _ (by exact (by decide : 0 + 12 ≤ 32))]
      exact Nat.mod_eq_of_lt (intBits_lt 12 _))
    (fun k hk j hj ne s h => by
      rw [State.fld_setFld_apart _ _ _ (.inl ?_), h]
      rw [List.mem_range] at hk hj
      simp only [Field.ix, MLSE_LEVEL_LEVEL]
      omega) s j.val (List.mem_range.2 j.isLt)
  rw [State.mlseLevel, State.mlseStart, level]
  have : ∀ j : Fin 64, bitsInt 12 (intBits 12 (64 * (2 * ((j.val / 16 : Nat) : Int) - 3))) =
    64 * (2 * ((j.val / 16 : Nat) : Int) - 3) := by decide
  exact this j

/-! ### Lock (R105, R118) -/

theorem satNat_lt (width v : Nat) : satNat width v < 2 ^ width := by
  have := Nat.two_pow_pos width
  unfold satNat; split <;> omega

theorem State.setFld_same (s : State) (base : Nat) {f : Field} {v : Nat} (h : f.lo + f.width ≤ 32) (hv : v < 2 ^ f.width) :
    (s.setFld base f v).fld base f = v := by
  rw [State.fld_eq, State.setFld_regs, Regs.fld_setFld_same _ h, Nat.mod_eq_of_lt hv]

theorem State.bump_same (s : State) (base : Nat) {f : Field} (h : f.lo + f.width ≤ 32) :
    (s.bump base f).fld base f = satNat f.width (s.fld base f + 1) := s.setFld_same base h (satNat_lt _ _)

theorem State.fld_bump_apart (s : State) (base : Nat) {f g : Field} (h : g.Apart f) :
    (s.bump base f).fld base g = s.fld base g := s.fld_setFld_apart _ _ h

theorem State.setAcqState_since (s : State) (n : Fin 8) (v : Nat) : (s.setAcqState n v).tick = s.tick ∧
    (s.setAcqState n v).line[n].rx.trigger = s.line[n].rx.trigger := by
  have fell : Evolves [.tamid, .tamidRegs] s (s.when (decide (v < 2)) fun s => s.tamidAcqFall n) :=
    .when (.refl _ s) fun t h => State.tamidAcqFall_evolves h (by decide)
  have tick : (s.when (decide (v < 2)) fun s => s.tamidAcqFall n).tick = s.tick := fell.only .tick (by decide)
  have line : (s.when (decide (v < 2)) fun s => s.tamidAcqFall n).line = s.line := fell.only .line (by decide)
  rw [State.setAcqState, State.modRx_same]
  simp only [State.modRx_other, State.setFld_other, tick, line, and_self]

/-- The count and the time of the lock on the way to it. -/
def State.lockShown (s : State) (n : Fin 8) : State :=
  let s := (s.setAcqState n 7).setFlag (lineBase n) EQ_STATUS_LOCKED true
  (s.bump (lineBase n) EQ_STATUS_ACQ_COUNT).setFld (lineBase n) EQ_STATUS_LOCK_TIME
    (satNat 16 (tenMicros (s.tick - s.line[n].rx.trigger)))

/-- What EQ_STATUS shows of a lock. -/
structure LockShown (n : Fin 8) (s u : State) : Prop where
  state : u.acqState n = 7
  locked : u.locked n = true
  count : u.fld (lineBase n) EQ_STATUS_ACQ_COUNT = satNat EQ_STATUS_ACQ_COUNT.width (s.fld (lineBase n)
    EQ_STATUS_ACQ_COUNT + 1)
  time : u.fld (lineBase n) EQ_STATUS_LOCK_TIME = satNat 16 (tenMicros (s.tick - s.line[n].rx.trigger))

theorem State.lockShown_shown (s : State) (n : Fin 8) : LockShown n s (s.lockShown n) := by
  have beside {g : Field} (time : g.Apart EQ_STATUS_LOCK_TIME) (count : g.Apart EQ_STATUS_ACQ_COUNT) :
      (s.lockShown n).fld (lineBase n) g =
        ((s.setAcqState n 7).setFlag (lineBase n) EQ_STATUS_LOCKED true).fld (lineBase n) g := by
    rw [State.lockShown, State.fld_setFld_apart _ _ _ time, State.fld_bump_apart _ _ count]
  obtain ⟨tick, trigger⟩ := s.setAcqState_since n 7
  refine ⟨?_, ?_, ?_, ?_⟩
  · rw [State.acqState, beside (by decide) (by decide), State.fld_setFlag_apart _ _ _ (by decide)]
    exact s.setAcqState_acqState n (by decide)
  · rw [State.locked, State.flag, beside (by decide) (by decide), ← State.flag]
    exact State.flag_setFlag_same _ _ _ (by decide) rfl
  · rw [State.lockShown, State.fld_setFld_apart _ _ _ (by decide), State.bump_same _ _ (by decide),
      State.fld_setFlag_apart _ _ _ (by decide), (s.setAcqState_kept n 7).fld (by decide),
      State.fld_setFld_apart _ _ _ (by decide)]
  · rw [State.lockShown, State.setFld_same _ _ (by decide) (satNat_lt 16 _)]
    simp only [State.setFlag_other, tick, trigger]

theorem LockShown.of_fld {u v : State} (h : LockShown n s u) (k : ∀ f : Field, f.off = EQ_STATUS_ACQ_STATE.off →
    v.fld (lineBase n) f = u.fld (lineBase n) f) : LockShown n s v := by
  obtain ⟨state, locked, count, time⟩ := h
  refine ⟨(k EQ_STATUS_ACQ_STATE rfl).trans state, ?_, (k EQ_STATUS_ACQ_COUNT rfl).trans count,
    (k EQ_STATUS_LOCK_TIME rfl).trans time⟩
  rw [State.locked, State.flag, k EQ_STATUS_LOCKED rfl]
  exact locked

theorem State.setInFrame_fld (s : State) (n : Fin 8) (g : Field) : (s.setInFrame n).fld (lineBase n) g =
    ((s.setFlag (lineBase n) FEC_STATUS_IN_FRAME true).setFld (lineBase n) FEC_STATUS_MARKER_MISS 0).fld (lineBase n) g := by
  simp only [State.fld_eq, State.setInFrame, State.modPantry_other, State.modRx_regs]

theorem State.setInFrame_fld_apart (s : State) (n : Fin 8) {g : Field} (h : g.off ≠ FEC_STATUS_IN_FRAME.off) :
    (s.setInFrame n).fld (lineBase n) g = s.fld (lineBase n) g := by
  rw [State.setInFrame_fld, State.fld_setFld_apart (f := FEC_STATUS_MARKER_MISS) _ _ _ (.inl h), State.fld_setFlag_apart _ _ _ (.inl h)]

theorem State.setInFrame_flag (s : State) (n : Fin 8) : (s.setInFrame n).flag (lineBase n) FEC_STATUS_IN_FRAME = true := by
  rw [State.flag, State.setInFrame_fld, State.fld_setFld_apart _ _ _ (by decide), ← State.flag]
  exact s.flag_setFlag_same _ _ (by decide) rfl

/-- The receiver of a lane that has just locked. -/
def LineRx.justLocked (r : LineRx) : LineRx :=
  { r with relockStep := 0, fastFfe := false, markerHist := [], winSeen := 0, winBad := 0, badWindows := 0, berRun := [],
           intCw := 0, intBits := 0 }

/-- The line frame that a lock looks for is there with it. -/
def State.framesAtLock (s : State) (n : Fin 8) : Bool := !s.checking n && s.lineLoop n != 4

/-- A lock up to the words of the lane. -/
def State.lockFramed (s : State) (n : Fin 8) : State :=
  (if s.framesAtLock n then (s.lockShown n).setInFrame n else s.lockShown n).modRx n (·.justLocked)

theorem State.lineLock_kept (s : State) (n : Fin 8) (skew : Nat) : RxKept n (s.lockFramed n) (s.lineLock n skew) := by
  have settled (f : AdcState → AdcState) : RxKept n (s.lockFramed n) (((s.lockFramed n).modAdc n f).unsettle n 0) :=
    ((RxKept.refl n _).modAdc n f).unsettle n 0
  exact RxKept.refreshTrainPos (RxKept.refreshFill (RxKept.joinGroup (.ite ((settled _).lrFollow n true) (settled _)) n _ _)
    n) n

theorem State.lockFramed_fld (s : State) (n : Fin 8) {g : Field} (h : g.off ≠ FEC_STATUS_IN_FRAME.off) :
    (s.lockFramed n).fld (lineBase n) g = (s.lockShown n).fld (lineBase n) g := by
  rw [State.lockFramed, State.modRx_fld]
  split
  · exact State.setInFrame_fld_apart _ n h
  · rfl

theorem State.lineLock_shown (s : State) (n : Fin 8) (skew : Nat) : LockShown n s (s.lineLock n skew) := by
  refine (s.lockShown_shown n).of_fld fun f hf => ?_
  rw [(s.lineLock_kept n skew).fld (by rw [hf]; decide), State.lockFramed_fld _ _ (by rw [hf]; decide)]

theorem State.lineLock_inFrame {skew : Nat} (h : s.framesAtLock n = true) :
    (s.lineLock n skew).flag (lineBase n) FEC_STATUS_IN_FRAME = true := by
  rw [(s.lineLock_kept n skew).flag (by decide), State.lockFramed, if_pos h, State.flag, State.modRx_fld, ← State.flag]
  exact State.setInFrame_flag _ n

theorem State.lineLock_relock (s : State) (n : Fin 8) (skew : Nat) : (s.lineLock n skew).line[n].rx.relockStep = 0 := by
  rw [(s.lineLock_kept n skew).relock, State.lockFramed, State.modRx_same, LineRx.justLocked]

/-- A search that is done writes no register but keeps its alignment (R117). -/
theorem State.keepAlignment_kept (s : State) (n : Fin 8) (f : FrameSearch) : (s.keepAlignment n f).regs = s.regs ∧
    (s.keepAlignment n f).tick = s.tick ∧ (s.keepAlignment n f).line[n].rx.trigger = s.line[n].rx.trigger := by
  unfold State.keepAlignment
  split
  · exact ⟨State.modRx_regs _ _ _, by simp only [State.modRx_other], by rw [State.modRx_same]⟩
  · exact ⟨rfl, rfl, rfl⟩

theorem State.aligned_lock_shown (s : State) (n : Fin 8) (f : FrameSearch) (skew : Nat) :
    LockShown n s ((s.keepAlignment n f).lineLock n skew) := by
  obtain ⟨state, locked, count, time⟩ := (s.keepAlignment n f).lineLock_shown n skew
  obtain ⟨regs, tick, trigger⟩ := s.keepAlignment_kept n f
  rw [State.fld_eq (s := s.keepAlignment n f), regs, ← State.fld_eq] at count
  rw [tick, trigger] at time
  exact ⟨state, locked, count, time⟩

theorem State.aligned_framesAtLock {f : FrameSearch} (checking : s.checking n = false) (loop : s.lineLoop n ≠ 4) :
    (s.keepAlignment n f).framesAtLock n = true := by
  obtain ⟨regs, -, -⟩ := s.keepAlignment_kept n f
  have fld (base : Nat) (g : Field) : (s.keepAlignment n f).fld base g = s.fld base g := by
    rw [State.fld_eq, State.fld_eq, regs]
  have check : (s.keepAlignment n f).checking n = s.checking n := by rw [State.checking, fld, State.checking]
  have loops : (s.keepAlignment n f).lineLoop n = s.lineLoop n := fld _ _
  rw [State.framesAtLock, check, loops, checking]
  simpa using loop

/-! ### No lock (R102) -/

theorem exec_lineAcqStepTimeout (hd : s.noneDue) (los : s.flag (lineBase n) EQ_STATUS_LOS = false)
    (clocks : s.line[n].rx.clocksStopped = false) (lo : 1 ≤ s.acqState n) (hi : s.acqState n ≤ 6) :
    exec (.lineAcqStepTimeout n) s = .next (s.setAcqState n 2) := by
  show execLineAcqStepTimeout n s = _
  rw [execLineAcqStepTimeout, los, clocks, if_pos ⟨lo, hi, by decide, by decide⟩]
  exact s.setAcqState_done n 2 hd

theorem exec_acqFail (signal : s.line[n].rx.signal = true) (locked : s.locked n = false) (st : s.acqState n ≠ 0) :
    exec (.acqFail n) s = .next (s.raise (lineSrc n 0x44) s.line[n].rx.highest).react := by
  show execAcqFail n s = _
  rw [execAcqFail, if_pos ⟨signal, by simp [locked], st⟩, done]

/-- The domain of a receiver's own source is the same for every detail (Table 12-7). -/
theorem State.takes_acqFail (detail : Nat) (h : s.takes (lineSrc n 0x44) 0) : s.takes (lineSrc n 0x44) detail := by
  have domain : srcDomain (lineSrc n 0x44) detail = srcDomain (lineSrc n 0x44) 0 := by
    have group : 0x10 ≤ lineSrc n 0x44 / 256 ∧ lineSrc n 0x44 / 256 < 0x18 := by unfold lineSrc; omega
    unfold srcDomain
    dsimp only
    rw [if_pos group, if_pos group]
  rwa [State.takes, domain]

end

/-- Settles O34: a start and a lock by what their later operations keep of the lane, the other steps by their equations. -/
theorem lineAcquisition : Obligations.LineAcquisition := by
  unfold Obligations.LineAcquisition
  refine ⟨?reacq, ?idle, ?waits, ?boundary, ?atOnce, ?inForce, ?adc, ?adcWaits, ?ctleMan, ?ctle, ?ctleSearch, ?mlse, ?search,
    ?lock, ?relock, ?timeout, ?fail⟩
  case reacq =>
    intro n s _ st syn deep
    have acq := State.lineReacq_acquiring st syn deep
    exact ⟨_, rfl, acq.state, acq.unlocked, acq.step, acq.unsettled⟩
  case idle =>
    intro n s hd st
    refine ⟨s, ?_, rfl⟩
    show done (s.lineReacq n) = _
    rw [State.lineReacq_idle st, done_of_noneDue hd]
  case waits =>
    intro n on s hd frame change
    have written := State.setFlag_evolves (base := lineBase n) (f := EQ_CTRL_RX_PRECODE) (v := on) (.refl [.line, .lineRegs] s)
      (by rw [regPart_lineBase n (by decide)]; decide)
    refine ⟨_, (congrArg done (State.lineRxPrecode_inFrame frame change)).trans
      ((State.modRx_evolves written (by decide)).done_eq (by decide) hd), ?_, ?_, ?_, ?_⟩
    · rw [State.flag, State.modRx_fld, ← State.flag]
      exact s.flag_setFlag_same _ _ (by decide) rfl
    · rw [State.modRx_same]
    · rw [State.modRx_same]
      simp only [State.setFlag_other]
    · exact State.precodeWritten_regsBut s n on _
  case boundary =>
    intro n on s _ next boundary st syn deep
    have acq := State.rxFrameBoundary_acquiring next boundary st syn deep
    refine ⟨?_, acq.state, acq.unlocked⟩
    rw [acq.precode, State.modRx_same]
  case atOnce =>
    intro n on s _ frame change st syn deep
    have acq := State.precodeSet_acquiring on st syn deep
    have eq : s.lineRxPrecode n on = (s.precodeSet n on).lineReacq n := by
      rw [State.lineRxPrecode_outOfFrame on frame, if_neg (Ne.symm change)]
    refine ⟨_, congrArg done eq, ?_, acq.precode.trans (s.precodeSet_rx n on).1, acq.state, acq.unlocked⟩
    rw [State.flag, acq.ctrl _ rfl]
    exact s.precodeSet_flag n on
  case inForce =>
    intro n on s hd frame same
    have eq : s.lineRxPrecode n on = s.precodeSet n on := by
      rw [State.lineRxPrecode_outOfFrame on frame, if_pos same.symm]
    exact ⟨_, (congrArg done eq).trans ((s.precodeSet_evolves n on).done_eq (by decide) hd), s.precodeSet_flag n on,
      (s.precodeSet_rx n on).2, s.precodeWritten_regsBut n on _⟩
  case adc =>
    intro n r s hd los clocks st converged
    refine ⟨s.setAcqState n 2, ?_, s.setAcqState_acqState n (by decide)⟩
    rw [exec_lineAcqStepDone r los clocks, State.acqStepDone_adc r st, if_pos converged]
    exact s.setAcqState_done n 2 hd
  case adcWaits =>
    intro n r s hd los clocks st converged
    refine ⟨s, ?_, rfl⟩
    rw [exec_lineAcqStepDone r los clocks, State.acqStepDone_adc r st, if_neg (by rw [converged]; decide),
      done_of_noneDue hd]
  case ctleMan =>
    intro n r s hd los clocks st man
    refine ⟨s.ctleTaken n (s.fld (lineBase n) AFE_CTRL_CTLE_SET), ?_, s.ctleTaken_acqState n _, ?_⟩
    · rw [exec_lineAcqStepDone r los clocks, State.acqStepDone_ctle r st, if_pos man]
      exact s.ctleTaken_done n _ hd
    · rw [State.ctleTaken_cur, State.ctleSet_mod]
  case ctle =>
    intro n r s hd los clocks st man
    refine ⟨s.setAcqState n 3, ?_, s.setAcqState_acqState n (by decide)⟩
    rw [exec_lineAcqStepDone r los clocks, State.acqStepDone_ctle r st, if_neg (by rw [man]; decide)]
    exact s.setAcqState_done n 3 hd
  case ctleSearch =>
    intro n r s hd los clocks st
    refine ⟨_, ?_, s.ctleTaken_acqState n (if s.flag (lineBase n) AFE_CTRL_CTLE_MAN then s.fld (lineBase n) AFE_CTRL_CTLE_SET
      else bestSetting r.residuals), ?_⟩
    · rw [exec_lineAcqStepDone r los clocks, State.acqStepDone_ctleSearch r st]
      exact s.ctleTaken_done n _ hd
    · rw [State.ctleTaken_cur]
      split
      · exact s.ctleSet_mod n
      · rfl
  case mlse =>
    intro n r s hd los clocks st
    refine ⟨(s.mlseStart n).setAcqState n 5, ?_, (s.mlseStart n).setAcqState_acqState n (by decide), fun j => ?_⟩
    · rw [exec_lineAcqStepDone r los clocks, State.acqStepDone_mlse r st]
      exact (State.setAcqState_evolves (State.mlseStart_evolves (.refl acqParts s) (by decide)) (by decide)).done_eq (by decide)
        hd
    · rw [State.mlseLevel, State.setAcqState_fld _ _ _ (State.mlseLevel_off j) (Field.ix_lt _ _), ← State.mlseLevel,
        State.mlseStart_level]
  case search =>
    intro n r s hd los clocks st loop
    refine ⟨(s.searchStart n).setAcqState n 6, ?_, (s.searchStart n).setAcqState_acqState n (by decide), ?_⟩
    · rw [exec_lineAcqStepDone r los clocks, State.acqStepDone_search r st loop]
      exact (State.setAcqState_evolves (State.searchStart_evolves (.refl acqParts s) (by decide)) (by decide)).done_eq
        (by decide) hd
    · rw [State.setAcqState_fld _ _ _ (by decide) (by decide), State.searchStart, State.bump_same _ _ (by decide)]
  case lock =>
    intro n r s _ los clocks st found loop
    obtain ⟨state, locked, count, time⟩ := s.aligned_lock_shown n r.search r.skew
    refine ⟨(s.keepAlignment n r.search).lineLock n r.skew, ?_, state, locked, count, time, fun checking =>
      State.lineLock_inFrame (State.aligned_framesAtLock checking loop)⟩
    rw [exec_lineAcqStepDone r los clocks, State.acqStepDone_lock st found, done]
  case relock =>
    intro n r s _ los clocks st step found
    obtain ⟨state, locked, -, -⟩ := s.aligned_lock_shown n r.search r.skew
    refine ⟨(s.keepAlignment n r.search).lineLock n r.skew, ?_, state, locked, State.lineLock_relock _ n r.skew⟩
    rw [exec_lineAcqStepDone r los clocks, State.acqStepDone_relock st step found, done]
  case timeout =>
    intro n s hd los clocks lo hi
    exact ⟨_, exec_lineAcqStepTimeout hd los clocks lo hi, s.setAcqState_acqState n (by decide), s.setAcqState_adc n 2⟩
  case fail =>
    intro n s _ signal locked st takes
    exact ⟨_, exec_acqFail signal locked st, rfl, State.raise_isActive (State.takes_acqFail _ takes)⟩

end Sys2Proof.Machine
end

section
/-! The converter of a line lane (O31, O32).  Its commands write POSITION and STATE of a slice, the state of the spare, and
the words beside them: this part says once how these are read back, and what a raise, a display of the converter's state, a
loss of lock and the start of a rotation step leave alone. -/

namespace Sys2Proof.Machine

open Reg

/-! ### Raises of a receiver's sources -/

section
variable {ps : List Part} {s t : State} {n : Fin 8}

/-- The domain of a receiver's own source is the same for every detail (Table 12-7). -/
theorem State.takes_lineSrc {i : Nat} (hi : i < 256) (detail : Nat) (h : s.takes (lineSrc n i) 0) :
    s.takes (lineSrc n i) detail := by
  have domain : srcDomain (lineSrc n i) detail = srcDomain (lineSrc n i) 0 := by
    have group : 0x10 ≤ lineSrc n i / 256 ∧ lineSrc n i / 256 < 0x18 := by unfold lineSrc; omega
    unfold srcDomain
    dsimp only
    rw [if_pos group, if_pos group]
  rwa [State.takes, domain]

/-- Whether a raise is taken rests on the Fuse Box and the power domains alone (R326, R327). -/
theorem Evolves.takes (h : Evolves ps s t) (hf : .fuse ∉ ps) (hp : .power ∉ ps) (hr : .powerRegs ∉ ps) {src detail : Nat}
    (k : s.takes src detail) : t.takes src detail := by
  have fuse : t.fuse = s.fuse := h.only .fuse hf
  have power : t.power = s.power := h.only .power hp
  have dom (f : Field) (d : Nat) : t.fld powerBase (f.ix d) = s.fld powerBase (f.ix d) :=
    h.fld fun m => hr (by
      have := regPart_power (Field.ix_lt f d) (List.Subset.refl [Part.powerRegs])
      simp only [List.cons_subset, List.mem_singleton, List.nil_subset, and_true] at this
      rwa [this] at m)
  have isolated (d : Nat) : t.isolated d = s.isolated d := by
    unfold State.isolated
    rw [dom, dom, power]
  rwa [State.takes, fuse, isolated]

/-- What a command has written in the lane before its raise does not decide whether the raise is taken. -/
theorem Evolves.raise_isActive (h : Evolves [.line, .lineRegs] s t) {i : Nat} (hi : i < 256) (detail : Nat)
    (k : s.takes (lineSrc n i) 0) : (t.raise (lineSrc n i) detail).isActive (lineSrc n i) :=
  State.raise_isActive (h.takes (by decide) (by decide) (by decide) (State.takes_lineSrc hi _ k))

end

/-! ### Slice registers -/

section
variable {s t u : State} {n : Fin 8} {f g : Field} {j k : Nat}

/-- POSITION and STATE stand in the words SLICE_A (Table 3-14). -/
def Field.OfSlice (f : Field) : Prop := f.off = 0x140 ∧ f.stride = 4

theorem ofSlice_position : SLICE_A_POSITION.OfSlice := ⟨rfl, rfl⟩

theorem ofSlice_state : SLICE_A_STATE.OfSlice := ⟨rfl, rfl⟩

theorem Field.OfSlice.off_ix (h : f.OfSlice) (hk : k < 17) : (f.ix k).off = 0x140 + 4 * k := by
  obtain ⟨off, stride⟩ := h
  simp only [Field.ix, off, stride]
  omega

/-- A write to a slice register leaves the words of the lane before those registers alone. -/
theorem Field.OfSlice.apart_below (h : f.OfSlice) (hk : k < 17) (hg : g.off < 0x140) : g.Apart (f.ix k) :=
  .inl (by rw [h.off_ix hk]; omega)

theorem Field.OfSlice.apart_above (h : f.OfSlice) (hk : k < 17) (hg : g.off < 0x140) : (f.ix k).Apart g :=
  .inl (by rw [h.off_ix hk]; omega)

theorem Field.OfSlice.apart_ne (h : f.OfSlice) (h' : g.OfSlice) (hj : j < 17) (hk : k < 17) (ne : j ≠ k) :
    (f.ix j).Apart (g.ix k) := .inl (by rw [h.off_ix hj, h'.off_ix hk]; omega)

theorem position_apart_state (j k : Nat) : (SLICE_A_POSITION.ix j).Apart (SLICE_A_STATE.ix k) :=
  .inr (.inl (show SLICE_A_STATE.lo + SLICE_A_STATE.width ≤ SLICE_A_POSITION.lo by decide))

theorem State.setSlice_fld (s : State) (n : Fin 8) (pos st : Nat) (hk : k < 17) (hg : g.off < 0x140) :
    (s.setSlice n k pos st).fld (lineBase n) g = s.fld (lineBase n) g := by
  rw [State.setSlice, State.fld_setFld_apart _ _ _ (ofSlice_state.apart_below hk hg),
    State.fld_setFld_apart _ _ _ (ofSlice_position.apart_below hk hg)]

theorem State.setSlice_slicePos (s : State) (n : Fin 8) (k st : Nat) {pos : Nat} (h : pos < 32) :
    (s.setSlice n k pos st).slicePos n k = pos := by
  rw [State.slicePos, State.sliceFld, State.setSlice, State.fld_setFld_apart _ _ _ (position_apart_state k k)]
  exact State.setFld_same _ _ (show SLICE_A_POSITION.lo + SLICE_A_POSITION.width ≤ 32 by decide) h

theorem State.setSlice_slicePos_ne (s : State) (n : Fin 8) (pos st : Nat) (hj : j < 17) (hk : k < 17) (ne : j ≠ k) :
    (s.setSlice n k pos st).slicePos n j = s.slicePos n j := by
  rw [State.slicePos, State.sliceFld, State.setSlice, State.fld_setFld_apart _ _ _ (position_apart_state j k),
    State.fld_setFld_apart _ _ _ (ofSlice_position.apart_ne ofSlice_position hj hk ne)]
  rfl

@[simp] theorem State.setSlice_line (s : State) (n : Fin 8) (k pos st : Nat) : (s.setSlice n k pos st).line = s.line := rfl

theorem State.spare_of_fld (h : t.fld (lineBase n) ADC_STATUS_SPARE_SLICE = s.fld (lineBase n) ADC_STATUS_SPARE_SLICE) :
    t.spare n = s.spare n := by rw [State.spare, h, State.spare]

theorem State.modAdc_fld (s : State) (k : Fin 8) (f : AdcState → AdcState) (base : Nat) (g : Field) :
    (s.modAdc k f).fld base g = s.fld base g := by rw [State.fld_eq, (s.modAdc_other k f).2.2.2.1, State.fld_eq]

theorem State.modAdc_slicePos (s : State) (n : Fin 8) (f : AdcState → AdcState) (k : Nat) :
    (s.modAdc n f).slicePos n k = s.slicePos n k := s.modAdc_fld n f _ _

theorem State.modAdc_spare (s : State) (n : Fin 8) (f : AdcState → AdcState) : (s.modAdc n f).spare n = s.spare n :=
  State.spare_of_fld (s.modAdc_fld n f _ _)

/-! ### What shows the state of the converter -/

/-- A field that TRAIN_POS and the bridge flags of ADC_STATUS share no bit with. -/
abbrev Field.Lasting (g : Field) : Prop := g.off < 0x10000 ∧ g.Apart ADC_STATUS_TRAIN_POS ∧ g.Apart ADC_STATUS_BRIDGED ∧
  g.Apart ADC_STATUS_BRIDGED_POS

theorem Field.OfSlice.lasting (h : f.OfSlice) (hk : k < 17) : (f.ix k).Lasting :=
  ⟨f.ix_lt k, h.apart_above hk (by decide), h.apart_above hk (by decide), h.apart_above hk (by decide)⟩

/-- Of the lanes only TRAIN_POS and the bridge flags of one differ, and no source has left the active set. -/
structure Shows (n : Fin 8) (s t : State) : Prop where
  line : t.line = s.line
  fld : ∀ g : Field, g.Lasting → t.fld (lineBase n) g = s.fld (lineBase n) g
  active : ∀ src, s.isActive src → t.isActive src

theorem Shows.refl (n : Fin 8) (s : State) : Shows n s s := ⟨rfl, fun _ _ => rfl, fun _ h => h⟩

theorem Shows.trans (h : Shows n s t) (k : Shows n t u) : Shows n s u :=
  ⟨k.line.trans h.line, fun g hg => (k.fld g hg).trans (h.fld g hg), fun src a => k.active src (h.active src a)⟩

theorem Shows.spare (h : Shows n s t) : t.spare n = s.spare n := State.spare_of_fld (h.fld _ (by decide))

theorem Shows.spareState (h : Shows n s t) : t.spareState n = s.spareState n := h.fld _ (by decide)

theorem Shows.sliceFld (h : Shows n s t) (hf : f.OfSlice) (hk : k < 17) : t.sliceFld n f k = s.sliceFld n f k :=
  h.fld _ (hf.lasting hk)

theorem Shows.slicePos (h : Shows n s t) (hk : k < 17) : t.slicePos n k = s.slicePos n k := h.sliceFld ofSlice_position hk

/-- An operation outside the lanes. -/
theorem Evolves.shows {ps : List Part} (h : Evolves ps s t) (hl : .line ∉ ps) (hr : .lineRegs ∉ ps)
    (active : ∀ src, s.isActive src → t.isActive src) : Shows n s t :=
  ⟨h.only .line hl, fun _ hg => h.lineFld hr n hg.1, active⟩

theorem Shows.raise (h : Shows n s t) (src detail : Nat) : Shows n s (t.raise src detail) :=
  h.trans (Evolves.shows (State.raise_evolves (ps := raiseParts) (.refl _ t) (by decide)) (by decide) (by decide)
    fun _ a => State.raise_keeps a _ _)

theorem Shows.setFld (h : Shows n s t) {f : Field} (v : Nat) (hf : ∀ g : Field, g.Lasting → g.Apart f) :
    Shows n s (t.setFld (lineBase n) f v) :=
  h.trans ⟨rfl, fun g hg => t.fld_setFld_apart _ v (hf g hg), fun _ a => a⟩

theorem Shows.refreshTrainPos (h : Shows n s t) : Shows n s (t.refreshTrainPos n) := by
  unfold State.refreshTrainPos
  dsimp only
  split
  · exact h.setFld _ fun _ ⟨_, train, _, _⟩ => train
  · exact h

theorem Shows.refreshBridged (h : Shows n s t) : Shows n s (t.refreshBridged n) := by
  have flagged (v : Bool) : Shows n s (t.setFlag (lineBase n) ADC_STATUS_BRIDGED v) :=
    h.setFld _ fun _ ⟨_, _, bridged, _⟩ => bridged
  unfold State.refreshBridged
  dsimp only
  split
  · exact (flagged _).setFld _ fun _ ⟨_, _, _, position⟩ => position
  · exact flagged _

theorem Shows.bistNeeded (h : Shows n s t) (sl : Nat) : Shows n s (t.bistNeeded sl) := by
  have cut : Evolves [.power, .test, .powerRegs, .testRegs] t (t.bistNeeded sl) :=
    State.bistNeeded_evolves (.refl _ t) (by decide)
  have fuse : (t.bistNeeded sl).fuse = t.fuse := cut.only .fuse (by decide)
  exact h.trans (cut.shows (by decide) (by decide) fun src a => by rwa [State.isActive, fuse])

theorem Shows.attic (h : Shows n s t) (x : Attic) : Shows n s { t with attic := x } :=
  h.trans ⟨rfl, fun _ _ => rfl, fun _ a => a⟩

theorem Shows.limits (h : Shows n s t) (x : List (Nat × Nat)) : Shows n s { t with limits := x } :=
  h.trans ⟨rfl, fun _ _ => rfl, fun _ a => a⟩

theorem Shows.substitution (h : Shows n s t) (kind unit detail : Nat) : Shows n s (t.substitution kind unit detail) :=
  h.trans (Evolves.shows (State.substitution_evolves (ps := raiseParts) (.refl _ t) (by decide)) (by decide) (by decide)
    fun _ a => State.atticEvent_keeps a _ _)

/-! ### The spare -/

theorem State.setSpareState_of_spare (st : Nat) (h : s.spare n = some k) : s.setSpareState n st =
    (s.setFld (lineBase n) ADC_STATUS_SPARE_STATE st).setFld (lineBase n) (SLICE_A_STATE.ix k) st := by
  rw [State.setSpareState, h]

@[simp] theorem State.setSpareState_line (s : State) (n : Fin 8) (st : Nat) : (s.setSpareState n st).line = s.line := by
  unfold State.setSpareState
  split <;> rfl

theorem State.setSpareState_spareState {st : Nat} (h : s.spare n = some k) (hst : st < 8) :
    (s.setSpareState n st).spareState n = st := by
  rw [State.setSpareState_of_spare st h, State.spareState,
    State.fld_setFld_apart _ _ _ (ofSlice_state.apart_below (State.spare_lt h) (by decide))]
  exact State.setFld_same _ _ (by decide) hst

/-- SPARE_STATE and the STATE of the spare are all that a change of its state writes. -/
theorem State.setSpareState_fld (s : State) (n : Fin 8) (st : Nat) (hg : g.Apart ADC_STATUS_SPARE_STATE)
    (hs : ∀ k, s.spare n = some k → g.Apart (SLICE_A_STATE.ix k)) :
    (s.setSpareState n st).fld (lineBase n) g = s.fld (lineBase n) g := by
  unfold State.setSpareState
  split
  · next k spare => rw [State.fld_setFld_apart _ _ _ (hs k spare), State.fld_setFld_apart _ _ _ hg]
  · rfl

theorem State.setSpareState_fld_below (s : State) (n : Fin 8) (st : Nat) (hg : g.Apart ADC_STATUS_SPARE_STATE)
    (hb : g.off < 0x140) : (s.setSpareState n st).fld (lineBase n) g = s.fld (lineBase n) g :=
  s.setSpareState_fld n st hg fun _ spare => ofSlice_state.apart_below (State.spare_lt spare) hb

theorem State.setSpareState_slicePos (s : State) (n : Fin 8) (st : Nat) (hk : k < 17) :
    (s.setSpareState n st).slicePos n k = s.slicePos n k :=
  s.setSpareState_fld n st (ofSlice_position.apart_above hk (by decide)) fun j _ => position_apart_state k j

/-- The STATE of a slice that is not the spare. -/
theorem State.setSpareState_state_ne (st : Nat) (hk : k < 17) (h : s.spare n ≠ some k) :
    (s.setSpareState n st).sliceFld n SLICE_A_STATE k = s.sliceFld n SLICE_A_STATE k :=
  s.setSpareState_fld n st (ofSlice_state.apart_above hk (by decide)) fun j spare =>
    ofSlice_state.apart_ne ofSlice_state hk (State.spare_lt spare) fun e => h (e ▸ spare)

end

/-! ### The words of the front end -/

/-- AFE_CTRL, AFE_STATUS, ADC_CTRL and what stands before them in the block of a lane read as before. -/
def FrontKept (n : Fin 8) (s t : State) : Prop :=
  ∀ g : Field, g.off < 0x10C → t.fld (lineBase n) g = s.fld (lineBase n) g

section
variable {s t u : State} {n : Fin 8} {f g : Field}

theorem FrontKept.refl (n : Fin 8) (s : State) : FrontKept n s s := fun _ _ => rfl

theorem FrontKept.trans (h : FrontKept n s t) (k : FrontKept n t u) : FrontKept n s u :=
  fun g hg => (k g hg).trans (h g hg)

theorem FrontKept.ite {c : Prop} [Decidable c] (h : FrontKept n s t) (k : FrontKept n s u) :
    FrontKept n s (if c then t else u) := by split <;> assumption

/-- An operation outside the registers of the line lanes. -/
theorem Evolves.frontKept {ps : List Part} (h : Evolves ps s t) (hr : .lineRegs ∉ ps) : FrontKept n s t :=
  fun _ hg => h.lineFld hr n (by omega)

theorem FillOnly.frontKept (h : FillOnly s t) : FrontKept n s t :=
  fun g hg => h.fld n (by omega) (by simp only [TX_STATUS_TX_STATE]; omega) (by simp only [PD_STATUS_FADING]; omega)

theorem Shows.frontKept (h : Shows n s t) : FrontKept n s t := fun g hg => h.fld g (by
  refine ⟨by omega, .inl ?_, .inl ?_, .inl ?_⟩ <;>
    simp only [ADC_STATUS_TRAIN_POS, ADC_STATUS_BRIDGED, ADC_STATUS_BRIDGED_POS] <;> omega)

theorem FrontKept.setReg (h : FrontKept n s t) {off : Nat} (w : Word) (ho : 0x10C ≤ off) :
    FrontKept n s (t.setReg (lineBase n + off) w) :=
  h.trans fun g hg => by
    rw [State.fld, State.reg_eq, State.setReg_regs, Regs.reg_set_ne _ _ (by omega)]
    rfl

theorem FrontKept.setFld (h : FrontKept n s t) (v : Nat) (hf : 0x10C ≤ f.off) :
    FrontKept n s (t.setFld (lineBase n) f v) := h.setReg _ hf

theorem FrontKept.setFlag (h : FrontKept n s t) (v : Bool) (hf : 0x10C ≤ f.off) :
    FrontKept n s (t.setFlag (lineBase n) f v) := h.setFld _ hf

/-- An update of what a lane holds beyond its registers. -/
theorem FrontKept.modLine (h : FrontKept n s t) (k : Fin 8) (f : LineLane → LineLane) : FrontKept n s (t.modLine k f) := h

theorem FrontKept.unsettle (h : FrontKept n s t) (w : Nat) : FrontKept n s (t.unsettle n w) := by
  refine h.setFlag true ?_
  unfold ledgerUnsettled
  split_ifs <;> decide

theorem FrontKept.setSlice (h : FrontKept n s t) {k : Nat} (hk : k < 17) (pos st : Nat) :
    FrontKept n s (t.setSlice n k pos st) := h.trans fun _ hg => t.setSlice_fld n pos st hk (by omega)

theorem FrontKept.setSpareState (h : FrontKept n s t) (st : Nat) : FrontKept n s (t.setSpareState n st) :=
  h.trans fun _ hg => t.setSpareState_fld_below n st (.inl (by simp only [ADC_STATUS_SPARE_STATE]; omega)) (by omega)

theorem FrontKept.refreshTrainPos (h : FrontKept n s t) : FrontKept n s (t.refreshTrainPos n) :=
  h.trans (Shows.refl n t).refreshTrainPos.frontKept

theorem FrontKept.refreshBridged (h : FrontKept n s t) : FrontKept n s (t.refreshBridged n) :=
  h.trans (Shows.refl n t).refreshBridged.frontKept

theorem FrontKept.assignSlices (h : FrontKept n s t) : FrontKept n s (t.assignSlices n) := by
  have active : FrontKept n s (t.each (List.range 16) fun k u => u.setSlice n k k 0) :=
    State.each_keeps_mem (fun k hk u hu => hu.setSlice (Nat.lt_succ_of_lt (List.mem_range.1 hk)) k 0) h
  have spare := (((active.setSlice (k := 16) (by decide) 16 1).setFld (f := ADC_STATUS_SPARE_SLICE) 16 (by decide)).setFld
    (f := ADC_STATUS_SPARE_STATE) 1 (by decide)).setFlag (f := ADC_STATUS_SPARE_NONE) false (by decide)
  exact (spare.modLine n _).refreshBridged

theorem FrontKept.adcEstimate (h : FrontKept n s t) : FrontKept n s (t.adcEstimate n) :=
  .refreshTrainPos (.ite ((h.modLine n _).setSpareState 2) ((h.modLine n _).setSpareState _))

theorem FrontKept.adcStart (h : FrontKept n s t) : FrontKept n s (t.adcStart n) := by
  have assigned : FrontKept n s (if t.line[n].adc.assigned then t else t.assignSlices n) := .ite h h.assignSlices
  have cleared (f : LineLane → LineLane) : FrontKept n s (((((if t.line[n].adc.assigned then t else t.assignSlices n).modLine
      n f).setFlag (lineBase n) ADC_STATUS_CONVERGED false).setFld (lineBase n) ADC_STATUS_ROT_COUNT 0).setFld (lineBase n)
      ADC_QUAL_ROT_ABORT 0) :=
    (((assigned.modLine n f).setFlag _ (by decide)).setFld _ (by decide)).setFld _ (by decide)
  exact .ite (cleared _).adcEstimate ((cleared _).setSpareState 1).refreshTrainPos

theorem FrontKept.nlcFadeStop (h : FrontKept n s t) : FrontKept n s (t.fadeStop n nlcRegs) := by
  unfold State.fadeStop
  dsimp only
  split
  · exact (((h.setFlag (f := nlcRegs.fading) false (by decide)).setFlag (f := nlcRegs.pending) true (by decide)).setFld
      (f := nlcRegs.restarts) _ (by decide)).trans
      (Evolves.frontKept (State.raise_evolves (ps := raiseParts) (.refl _ _) (by decide)) (by decide))
  · exact h

theorem FrontKept.frameDown (h : FrontKept n s t) : FrontKept n s (t.frameDown n) := by
  have dropped := ((h.setFlag (f := FEC_STATUS_IN_FRAME) false (by decide)).setFlag (f := FEC_STATUS_BER_VALID) false
    (by decide)).setFlag (f := FEC_STATUS_LOW_COUNT) false (by decide)
  exact ((dropped.setReg (off := BER_EST_EXP.off) 0 (by decide)).modLine n _).trans
    (Evolves.frontKept (State.lrFollow_evolves (ps := [.host, .hostRegs]) (.refl _ _) (by decide)) (by decide))

theorem FrontKept.followEnd (h : FrontKept n s t) (stream : Option (Fin 16)) : FrontKept n s (t.followEnd n stream) :=
  .ite (.ite ((h.modLine n _).trans (Evolves.frontKept (State.quiet_evolves (ps := [.fuse]) (.refl _ _) (by decide))
    (by decide))) (h.modLine n _)) h

/-- A loss of lock writes none of these words (R103). -/
theorem State.loseLock_frontKept (s : State) (n : Fin 8) : FrontKept n s (s.loseLock n) := by
  have published := (((FrontKept.refl n s).setFlag (f := EQ_STATUS_LOCKED) false (by decide)).frameDown.setFld
    (f := SNR_STAT_SNR) 0 (by decide)).setReg (off := EYE_STAT_EYE_MID.off) 0 (by decide)
  have aligned {t : State} (h : FrontKept n s t) : FrontKept n s (t.dropAlignment n) :=
    h.trans (Evolves.frontKept (State.dropAlignment_evolves (ps := [.lanes]) (.refl _ t) (by decide)) (by decide))
  exact .ite (((aligned ((FrontKept.ite published.nlcFadeStop published).unsettle 0)).followEnd none).trans
    (State.refreshFill_fillOnly _ n).frontKept) (.refl n s)

/-- A start of an acquisition keeps the settings of the front end. -/
theorem State.acqStart_frontKept (s : State) (n : Fin 8) : FrontKept n s (s.acqStart n) := by
  have cleared (t : State) : FrontKept n t (t.acqCleared n) := fun g hg =>
    t.acqCleared_fld n (.inl (by simp only [FEC_STATUS_FRAME_SEARCHES]; omega))
  have acq (t : State) : FrontKept n t (t.setAcqState n 1) := fun g hg =>
    t.setAcqState_fld n 1 (by simp only [EQ_STATUS_ACQ_STATE]; omega) (by omega)
  have bank (t : State) : FrontKept n t (t.bankRestored (243 + n.val)) := fun g hg => t.bankRestored_fld _ n (by omega)
  have lost := s.loseLock_frontKept n
  exact .ite ((((lost.trans (cleared _)).adcStart.trans (acq _)).unsettle 0).trans (bank _)) (lost.modLine n _)

end

section
variable {s t u : State} {n : Fin 8} {f g : Field} {j k p : Nat}

/-! ### The spare is consumed (R70, R73) -/

/-- The spare's new state, with TRAIN_POS shown again. -/
theorem State.spareShown_spareState {st : Nat} (h : s.spare n = some k) (hst : st < 8) :
    ((s.setSpareState n st).refreshTrainPos n).spareState n = st :=
  ((Shows.refl n _).refreshTrainPos.spareState).trans (State.setSpareState_spareState h hst)

/-- A lane whose spare is retired and consumed (R70, R73). -/
structure SpareRetired (n : Fin 8) (k : Nat) (u : State) : Prop where
  spare : u.spare n = none
  position : u.slicePos n k = 31
  active : u.isActive (lineSrc n 0x32)

@[simp] theorem State.spareGone_adc (s : State) (n : Fin 8) : (s.spareGone n).line[n].adc =
    { s.line[n].adc with planned := none, training := none } := by
  rw [State.spareGone, State.modAdc_same]
  rfl

theorem State.spareGone_fld (s : State) (n : Fin 8) (g : Field) : (s.spareGone n).fld (lineBase n) g =
    (((s.setFld (lineBase n) ADC_STATUS_SPARE_SLICE 0x1F).setFld (lineBase n) ADC_STATUS_SPARE_STATE 0).setFlag (lineBase n)
      ADC_STATUS_SPARE_NONE true).fld (lineBase n) g := State.modAdc_fld _ n _ _ g

theorem State.spareGone_spare (s : State) (n : Fin 8) : (s.spareGone n).spare n = none := by
  have gone : (s.spareGone n).fld (lineBase n) ADC_STATUS_SPARE_SLICE = 0x1F := by
    rw [State.spareGone_fld, State.fld_setFlag_apart _ _ _ (by decide), State.fld_setFld_apart _ _ _ (by decide)]
    exact s.setFld_same _ (by decide) (by decide)
  rw [State.spare, gone]
  rfl

theorem State.spareGone_slicePos (s : State) (n : Fin 8) (hk : k < 17) : (s.spareGone n).slicePos n k = s.slicePos n k := by
  have apart {f : Field} (h : f.off < 0x140) : (SLICE_A_POSITION.ix k).Apart f := ofSlice_position.apart_above hk h
  rw [State.slicePos, State.sliceFld, State.spareGone_fld, State.fld_setFlag_apart _ _ _ (apart (by decide)),
    State.fld_setFld_apart _ _ _ (apart (by decide)), State.fld_setFld_apart _ _ _ (apart (by decide))]
  rfl

theorem State.retiredGone_evolves (s : State) (n : Fin 8) (k : Nat) :
    Evolves [.line, .lineRegs] s ((s.retireSlice n k).spareGone n) :=
  State.spareGone_evolves (State.setSlice_evolves (.refl _ s) (by decide)) (by decide)

theorem State.retiredGone_slicePos (s : State) (n : Fin 8) (hk : k < 17) :
    ((s.retireSlice n k).spareGone n).slicePos n k = 31 := by
  rw [State.spareGone_slicePos _ _ hk]
  exact s.setSlice_slicePos n k 5 (by decide)

theorem State.retireSpare_retired (h : s.spare n = some k) (takes : s.takes (lineSrc n 0x32) 0) :
    SpareRetired n k (s.retireSpare n) := by
  have raised : SpareRetired n k (((s.retireSlice n k).spareGone n).raise (lineSrc n 0x32) (sliceDetail k 0x10)) := by
    have shown := (Shows.refl n ((s.retireSlice n k).spareGone n)).raise (lineSrc n 0x32) (sliceDetail k 0x10)
    exact ⟨shown.spare.trans (State.spareGone_spare _ n),
      (shown.slicePos (State.spare_lt h)).trans (s.retiredGone_slicePos n (State.spare_lt h)),
      (s.retiredGone_evolves n k).raise_isActive (by decide) _ takes⟩
  have shows {x y : State} (hx : SpareRetired n k x) (hs : Shows n x y) : SpareRetired n k y :=
    ⟨hs.spare.trans hx.spare, (hs.slicePos (State.spare_lt h)).trans hx.position, hs.active _ hx.active⟩
  unfold State.retireSpare
  rw [h]
  dsimp only
  split
  · refine shows (x := State.modAdc _ n _) ?_ ((Shows.refl n _).raise _ _).refreshTrainPos
    exact ⟨raised.spare, raised.position, raised.active⟩
  · exact shows raised (Shows.refl n _).refreshTrainPos

/-! ### A rotation step starts (R65, R70, R77) -/

/-- What the start of a rotation step keeps of the converter: its step, the planned substitution, the positions of the slices,
and the words before ADC_STATUS. -/
structure StepKept (n : Fin 8) (s t : State) : Prop where
  step : t.line[n].adc.step = s.line[n].adc.step
  planned : t.line[n].adc.planned = s.line[n].adc.planned
  position : ∀ k < 17, t.slicePos n k = s.slicePos n k
  front : FrontKept n s t

theorem StepKept.refl (n : Fin 8) (s : State) : StepKept n s s := ⟨rfl, rfl, fun _ _ => rfl, .refl n s⟩

theorem StepKept.trans (h : StepKept n s t) (k : StepKept n t u) : StepKept n s u :=
  ⟨k.step.trans h.step, k.planned.trans h.planned, fun j hj => (k.position j hj).trans (h.position j hj),
    h.front.trans k.front⟩

theorem Shows.stepKept (h : Shows n s t) : StepKept n s t :=
  ⟨by simp only [h.line], by simp only [h.line], fun _ hk => h.slicePos hk, h.frontKept⟩

theorem StepKept.refreshTrainPos (h : StepKept n s t) : StepKept n s (t.refreshTrainPos n) :=
  h.trans (Shows.refl n t).refreshTrainPos.stepKept

theorem StepKept.setSpareState (h : StepKept n s t) (st : Nat) : StepKept n s (t.setSpareState n st) :=
  h.trans ⟨by simp only [State.setSpareState_line], by simp only [State.setSpareState_line],
    fun _ hk => t.setSpareState_slicePos n st hk, (FrontKept.refl n t).setSpareState st⟩

theorem StepKept.modAdc (h : StepKept n s t) {f : AdcState → AdcState} (hs : ∀ a, (f a).step = a.step)
    (hp : ∀ a, (f a).planned = a.planned) : StepKept n s (t.modAdc n f) :=
  h.trans ⟨by rw [State.modAdc_same]; exact hs _, by rw [State.modAdc_same]; exact hp _, fun _ _ => rfl, .refl n t⟩

/-- A step of the rotation begins with its target. -/
theorem StepKept.target (h : StepKept n s t) (p : Nat) (f : AdcState → Vector SliceTerms 17) :
    StepKept n s (t.modAdc n fun a => { a with training := some p, terms := f a }) :=
  h.modAdc (fun _ => rfl) fun _ => rfl

theorem State.trainSpare_stepKept (s : State) (n : Fin 8) (p : Nat) : StepKept n s (s.trainSpare n p) := by
  unfold State.trainSpare
  split
  · exact (((StepKept.refl n s).target p _).setSpareState 2).refreshTrainPos
  · exact .refl n s

theorem State.startRotation_stepKept (s : State) (n : Fin 8) : StepKept n s (s.startRotation n) := by
  unfold State.startRotation
  split
  · split_ifs
    · exact s.trainSpare_stepKept n _
    · exact (((StepKept.refl n s).target _ AdcState.terms).setSpareState 1).refreshTrainPos
    · exact .refl n s
  · exact .refl n s

theorem State.tryPlanned_stepKept (s : State) (n : Fin 8) : StepKept n s (s.tryPlanned n) := by
  unfold State.tryPlanned
  dsimp only
  split
  · exact s.startRotation_stepKept n
  · exact .refl n s

/-- The spare trains for a position (R65 steps 2 and 3). -/
structure Trains (n : Fin 8) (p : Nat) (t : State) : Prop where
  training : t.line[n].adc.training = some p
  spareState : t.spareState n = 2

theorem State.trainSpare_trains (spare : s.spare n = some j) (slice : s.sliceAt n p = some k) :
    Trains n p (s.trainSpare n p) := by
  unfold State.trainSpare
  rw [spare, slice]
  refine ⟨?_, State.spareShown_spareState (k := j) spare (by decide)⟩
  simp only [State.spareShown_line, State.modAdc_same]

theorem State.startRotation_ready (ready : s.spareState n = 3) (target : s.rotationTarget n = some p) :
    s.startRotation n = s.trainSpare n p := by
  unfold State.startRotation
  rw [target]
  exact if_pos ready

theorem State.startRotation_parked (parked : s.spareState n = 4) (target : s.rotationTarget n = some p) :
    s.startRotation n = ((s.modAdc n fun a => { a with training := some p }).setSpareState n 1).refreshTrainPos n := by
  unfold State.startRotation
  rw [target]
  dsimp only
  rw [if_neg (by omega), if_pos parked]

/-- A slice is planned to be replaced: the substitution starts at once where the spare is free (R70). -/
def State.plan (s : State) (n : Fin 8) (q : PlannedSubst) : State :=
  ((s.modAdc n fun a => { a with planned := some q }).tryPlanned n).refreshTrainPos n

theorem State.plan_stepKept (s : State) (n : Fin 8) (q : PlannedSubst) :
    StepKept n (s.modAdc n fun a => { a with planned := some q }) (s.plan n q) :=
  (State.tryPlanned_stepKept _ n).refreshTrainPos

theorem State.plan_evolves (s : State) (n : Fin 8) (q : PlannedSubst) : Evolves [.line, .lineRegs] s (s.plan n q) :=
  State.refreshTrainPos_evolves (State.tryPlanned_evolves (State.modAdc_evolves (.refl _ s) (by decide)) (by decide))
    (by decide)

theorem State.plan_planned (s : State) (n : Fin 8) (q : PlannedSubst) : (s.plan n q).line[n].adc.planned = some q :=
  (s.plan_stepKept n q).planned.trans (by rw [State.modAdc_same])

theorem State.planRetire_eq (pos : s.slicePos n k < 16) (st : s.sliceFld n SLICE_A_STATE k = 0)
    (spare : (s.spare n).isSome = true) (urgent : s.line[n].adc.urgent = none) :
    s.planRetire n k = s.plan n ⟨k, true, false⟩ := if_pos ⟨pos, st, spare, urgent⟩

end

end Sys2Proof.Machine
end

section
/-! The line front end and its converter (O31): the VGA and AFE_CTRL, blocks and windows, rotation steps, CAL of the spare,
and handovers. -/

namespace Sys2Proof.Machine

open Reg

/-! ### The front end (R54, R55) -/

section
variable {s : State} {n : Fin 8}

theorem State.vgaStep_cur (s : State) (n : Fin 8) (d : Int) : (s.vgaStep n d).fld (lineBase n) AFE_STATUS_VGA_CUR =
    (max 0 (min 36 ((s.fld (lineBase n) AFE_STATUS_VGA_CUR : Int) + d))).toNat :=
  s.setFld_same (f := AFE_STATUS_VGA_CUR) (lineBase n) (by decide) (show _ < 64 by omega)

theorem State.vgaStep_fld (s : State) (n : Fin 8) (d : Int) {g : Field} (h : g.Apart AFE_STATUS_VGA_CUR) :
    (s.vgaStep n d).fld (lineBase n) g = s.fld (lineBase n) g := s.fld_setFld_apart _ _ h

theorem exec_vgaWindow {high total : Nat} {meanSquare : Rat} (hd : s.noneDue) (dom : s.domOn (domLineRx n) = true)
    (task : s.lineTask n taskVga = true) (man : s.flag (lineBase n) AFE_CTRL_VGA_MAN = false) :
    exec (.vgaWindow n high total meanSquare) s =
      .next (s.vgaStep n (if overRange high total then -1 else levelStep meanSquare)) := by
  show execVgaWindow n high total meanSquare s = _
  rw [execVgaWindow, dom, task, man, if_pos (by decide)]
  exact (State.vgaStep_evolves (.refl [.line, .lineRegs] s) (by decide)).done_eq (by decide) hd

/-- An rms a step below its target is not one a step above it. -/
theorem levelStep_down {meanSquare : Rat} (h : 1296 ^ 20 * 10 ≤ meanSquare ^ 20) : levelStep meanSquare = -1 := by
  have above : ¬ meanSquare ^ 20 * 10 ≤ 1296 ^ 20 := by
    have : (0 : Rat) < 1296 ^ 20 := by positivity
    linarith
  rw [levelStep, if_neg above, if_pos h]

theorem levelStep_up {meanSquare : Rat} (h : meanSquare ^ 20 * 10 ≤ 1296 ^ 20) : levelStep meanSquare = 1 := if_pos h

/-- AFE_CTRL as a write leaves it, before the VGA and an acquisition follow it (R55). -/
def State.afeSet (s : State) (n : Fin 8) (value : Word) : State :=
  let s := ((s.setFld (lineBase n) AFE_CTRL_CTLE_SET (wordField value 0 4)).setFld (lineBase n) AFE_CTRL_CTLE_MAN
    (wordField value 14 1)).setFld (lineBase n) AFE_CTRL_VGA_MAN (wordField value 15 1)
  if wordField value 8 6 ≤ 36 then s.setFld (lineBase n) AFE_CTRL_VGA_SET (wordField value 8 6) else s

/-- The VGA follows VGA_SET under VGA_MAN. -/
def State.afeFollowed (s : State) (n : Fin 8) (value : Word) : State :=
  if (s.afeSet n value).flag (lineBase n) AFE_CTRL_VGA_MAN then
    (s.afeSet n value).vgaStep n (((s.afeSet n value).fld (lineBase n) AFE_CTRL_VGA_SET : Int) -
      (s.afeSet n value).fld (lineBase n) AFE_STATUS_VGA_CUR)
  else s.afeSet n value

/-- The write changes the setting of the CTLE or who sets it. -/
def State.ctleChanges (s : State) (n : Fin 8) (value : Word) : Bool :=
  s.fld (lineBase n) AFE_CTRL_CTLE_SET != wordField value 0 4 || s.fld (lineBase n) AFE_CTRL_CTLE_MAN != wordField value 14 1

theorem State.afeCtrlWrite_eq (s : State) (n : Fin 8) (value : Word) : s.afeCtrlWrite n value =
    if s.ctleChanges n value && (s.afeFollowed n value).locked n then (s.afeFollowed n value).acqStart n
    else s.afeFollowed n value := rfl

/-- The fields of AFE_CTRL after a write. -/
structure AfeWritten (n : Fin 8) (value : Word) (s t : State) : Prop where
  ctle : t.fld (lineBase n) AFE_CTRL_CTLE_SET = wordField value 0 4
  ctleMan : t.fld (lineBase n) AFE_CTRL_CTLE_MAN = wordField value 14 1
  vgaMan : t.fld (lineBase n) AFE_CTRL_VGA_MAN = wordField value 15 1
  vga : t.fld (lineBase n) AFE_CTRL_VGA_SET =
    if wordField value 8 6 ≤ 36 then wordField value 8 6 else s.fld (lineBase n) AFE_CTRL_VGA_SET

theorem AfeWritten.of_fld {value : Word} {t u : State} (h : AfeWritten n value s t)
    (k : ∀ g : Field, g.off = AFE_CTRL_CTLE_SET.off → u.fld (lineBase n) g = t.fld (lineBase n) g) :
    AfeWritten n value s u := by
  obtain ⟨ctle, ctleMan, vgaMan, vga⟩ := h
  exact ⟨(k AFE_CTRL_CTLE_SET rfl).trans ctle, (k AFE_CTRL_CTLE_MAN rfl).trans ctleMan,
    (k AFE_CTRL_VGA_MAN rfl).trans vgaMan, (k AFE_CTRL_VGA_SET rfl).trans vga⟩

theorem State.afeSet_written (s : State) (n : Fin 8) (value : Word) : AfeWritten n value s (s.afeSet n value) := by
  have ctle (t : State) := t.setFld_same (f := AFE_CTRL_CTLE_SET) (lineBase n) (by decide) (wordField_lt value 0 4)
  have ctleMan (t : State) := t.setFld_same (f := AFE_CTRL_CTLE_MAN) (lineBase n) (by decide) (wordField_lt value 14 1)
  have vgaMan (t : State) := t.setFld_same (f := AFE_CTRL_VGA_MAN) (lineBase n) (by decide) (wordField_lt value 15 1)
  have vga (t : State) := t.setFld_same (f := AFE_CTRL_VGA_SET) (lineBase n) (by decide) (wordField_lt value 8 6)
  by_cases legal : wordField value 8 6 ≤ 36 <;> constructor <;>
    simp (disch := decide) only [State.afeSet, legal, if_true, if_false, State.fld_setFld_apart, ctle, ctleMan, vgaMan, vga]

theorem State.afeFollowed_fld (s : State) (n : Fin 8) (value : Word) {g : Field} (h : g.Apart AFE_STATUS_VGA_CUR) :
    (s.afeFollowed n value).fld (lineBase n) g = (s.afeSet n value).fld (lineBase n) g := by
  unfold State.afeFollowed
  split
  · exact State.vgaStep_fld _ n _ h
  · rfl

theorem State.afeFollowed_written (s : State) (n : Fin 8) (value : Word) : AfeWritten n value s (s.afeFollowed n value) :=
  (s.afeSet_written n value).of_fld fun _ hg => s.afeFollowed_fld n value (.inl (by rw [hg]; decide))

theorem State.afeFollowed_evolves (s : State) (n : Fin 8) (value : Word) :
    Evolves [.line, .lineRegs] s (s.afeFollowed n value) := by
  have set (t : State) (f : Field) (v : Nat) (hf : f.off < 0x10000) :
      Evolves [.line, .lineRegs] t (t.setFld (lineBase n) f v) :=
    State.setFld_evolves (.refl _ t) (regPart_line hf (by decide))
  have written : Evolves [.line, .lineRegs] s (s.afeSet n value) := by
    have three := ((set s AFE_CTRL_CTLE_SET (wordField value 0 4) (by decide)).trans (set _ AFE_CTRL_CTLE_MAN
      (wordField value 14 1) (by decide))).trans (set _ AFE_CTRL_VGA_MAN (wordField value 15 1) (by decide))
    exact .ite (three.trans (set _ AFE_CTRL_VGA_SET _ (by decide))) three
  exact .ite (State.vgaStep_evolves written (by decide)) written

theorem State.afeFollowed_locked (s : State) (n : Fin 8) (value : Word) : (s.afeFollowed n value).locked n = s.locked n := by
  have kept : (s.afeSet n value).fld (lineBase n) EQ_STATUS_LOCKED = s.fld (lineBase n) EQ_STATUS_LOCKED := by
    unfold State.afeSet
    split <;> simp (disch := decide) only [State.fld_setFld_apart]
  rw [State.locked, State.flag, State.afeFollowed_fld _ _ _ (by decide), kept, State.locked, State.flag]

/-- A lane that is not locked takes the settings as they are written. -/
theorem exec_afeCtrlWrite (value : Word) (hd : s.noneDue) (locked : s.locked n = false) :
    exec (.afeCtrlWrite n value) s = .next (s.afeFollowed n value) := by
  show done (s.afeCtrlWrite n value) = _
  rw [State.afeCtrlWrite_eq, s.afeFollowed_locked, locked, Bool.and_false, if_neg (by decide)]
  exact (s.afeFollowed_evolves n value).done_eq (by decide) hd

/-- A locked lane acquires again with another setting of its CTLE (R55). -/
theorem exec_afeCtrlWrite_acquires {value : Word} (locked : s.locked n = true)
    (change : s.fld (lineBase n) AFE_CTRL_CTLE_SET ≠ wordField value 0 4) :
    exec (.afeCtrlWrite n value) s = .next ((s.afeFollowed n value).acqStart n).react := by
  have changes : s.ctleChanges n value = true := by simp only [State.ctleChanges, bne_iff_ne.2 change, Bool.true_or]
  show done (s.afeCtrlWrite n value) = _
  rw [State.afeCtrlWrite_eq, s.afeFollowed_locked, locked, changes, if_pos (by decide), done]

end

/-! ### Blocks and windows of the converter (R59, R61, R79) -/

section
variable {s t : State} {n : Fin 8}

/-- What the publication of a slice writes (Table 3-14, R79). -/
def publishedFields : List Field :=
  [SLICE_A_OFFSET, SLICE_A_GAIN, SLICE_A_SKEW, SLICE_B_BW, SLICE_B_CAL_AGE, SLICE_B_STATIC_ENOB, SLICE_B_CHECK_ERR]

/-- A field that the publication of no slice shares a bit with. -/
def Field.Unpublished (g : Field) : Prop := ∀ f ∈ publishedFields, ∀ k < 17, g.Apart (f.ix k)

theorem Field.unpublished_of_below {g : Field} (h : g.off < 0x140) : g.Unpublished := by
  intro f hf k hk
  have words : ∀ f ∈ publishedFields, 0x140 ≤ f.off ∧ f.off ≤ 0x1A0 ∧ f.stride = 4 := by decide
  obtain ⟨lo, hi, stride⟩ := words f hf
  exact .inl (by simp only [Field.ix, stride]; omega)

/-- POSITION and STATE stand above what is published with them. -/
theorem Field.OfSlice.unpublished {g : Field} (h : g.OfSlice) (lo : 24 ≤ g.lo) {k : Nat} (hk : k < 17) :
    (g.ix k).Unpublished := by
  intro f hf j hj
  have words : ∀ f ∈ publishedFields, f.stride = 4 ∧ (f.off = 0x1A0 ∨ f.lo + f.width ≤ 24) := by decide
  obtain ⟨stride, off | bits⟩ := words f hf
  · exact .inl (by rw [h.off_ix hk]; simp only [Field.ix, off, stride]; omega)
  · exact .inr (.inl (by simp only [Field.ix]; omega))

theorem State.publishSlice_fld (k : Fin 17) (s : State) {g : Field} (h : g.Unpublished) :
    (State.publishSlice n k s).fld (lineBase n) g = s.fld (lineBase n) g := by
  have apart {f : Field} (hf : f ∈ publishedFields) (t : State) (v : Nat) :
      (t.setFld (lineBase n) (f.ix k.val) v).fld (lineBase n) g = t.fld (lineBase n) g :=
    t.fld_setFld_apart _ v (h f hf k.val k.isLt)
  unfold State.publishSlice
  dsimp only
  rw [apart (by decide), apart (by decide), apart (by decide), apart (by decide), apart (by decide), apart (by decide),
    apart (by decide)]

/-- The slices with their fields published. -/
def State.slicesPublished (s : State) (n : Fin 8) : State := s.each (List.finRange 17) (State.publishSlice n)

theorem State.slicesPublished_evolves (s : State) (n : Fin 8) : Evolves [.lineRegs] s (s.slicesPublished n) :=
  .each (.refl _ s) fun _ _ h => State.publishSlice_evolves h (by decide)

theorem State.slicesPublished_fld (s : State) (n : Fin 8) {g : Field} (h : g.Unpublished) :
    (s.slicesPublished n).fld (lineBase n) g = s.fld (lineBase n) g :=
  State.each_keeps (P := fun t => t.fld (lineBase n) g = s.fld (lineBase n) g)
    (fun k t ht => (State.publishSlice_fld k t h).trans ht) _ rfl

theorem State.activeEnob_congr (line : t.line = s.line)
    (word : ∀ f : Field, f.OfSlice → 24 ≤ f.lo → ∀ k < 17, t.sliceFld n f k = s.sliceFld n f k) :
    t.activeEnob n = s.activeEnob n := by
  have held : t.heldSlices n = s.heldSlices n := by
    unfold State.heldSlices State.slicePos
    congr 1
    funext k
    rw [word _ ofSlice_position (by decide) k k.isLt, word _ ofSlice_state (by decide) k k.isLt]
  unfold State.activeEnob
  rw [held, line]

theorem State.activeEnob_lt (s : State) (n : Fin 8) : s.activeEnob n < 256 := by
  unfold State.activeEnob
  cases least : ((s.heldSlices n).map fun h => satNat 8 s.line[n].adc.enob[h.slice]).min? with
  | none => decide
  | some v =>
    obtain ⟨h, -, rfl⟩ := List.mem_map.1 (List.min?_mem least)
    exact satNat_lt 8 _

/-- 1 ms has passed since SPUR was last published. -/
def State.spurDue (s : State) (n : Fin 8) : Bool :=
  match s.line[n].adc.spurTick with
  | some t => decide (t + ticks1ms ≤ s.tick)
  | none => true

/-- The slices and STATIC_ENOB published. -/
def State.enobPublished (s : State) (n : Fin 8) : State :=
  (s.slicesPublished n).setFld (lineBase n) ADC_QUAL_STATIC_ENOB ((s.slicesPublished n).activeEnob n)

/-- SPUR published. -/
def State.spurPublished (s : State) (n : Fin 8) (spur : Nat) : State :=
  (s.setFld (lineBase n) ADC_QUAL_SPUR (satNat 16 spur)).modAdc n fun a => { a with spurTick := some s.tick }

theorem State.publishBlock_eq (s : State) (n : Fin 8) (spur : Nat) : s.publishBlock n spur =
    if (s.enobPublished n).spurDue n then (s.enobPublished n).spurPublished n spur else s.enobPublished n := rfl

theorem State.enobPublished_evolves (s : State) (n : Fin 8) : Evolves [.lineRegs] s (s.enobPublished n) :=
  State.setFld_evolves (s.slicesPublished_evolves n) (regPart_line (by decide) (by decide))

theorem State.enobPublished_line (s : State) (n : Fin 8) : (s.enobPublished n).line = s.line :=
  (s.enobPublished_evolves n).only .line (by decide)

theorem State.enobPublished_spurDue (s : State) (n : Fin 8) : (s.enobPublished n).spurDue n = s.spurDue n := by
  have tick : (s.enobPublished n).tick = s.tick := (s.enobPublished_evolves n).only .tick (by decide)
  rw [State.spurDue, s.enobPublished_line, tick]
  rfl

theorem State.enobPublished_staticEnob (s : State) (n : Fin 8) :
    (s.enobPublished n).fld (lineBase n) ADC_QUAL_STATIC_ENOB = s.activeEnob n := by
  have line : (s.slicesPublished n).line = s.line := (s.slicesPublished_evolves n).only .line (by decide)
  have enob : (s.slicesPublished n).activeEnob n = s.activeEnob n := State.activeEnob_congr line fun f hf lo k hk =>
    s.slicesPublished_fld n (hf.unpublished lo hk)
  rw [State.enobPublished, enob]
  exact State.setFld_same _ _ (by decide) (s.activeEnob_lt n)

/-- The last figures of a block leave its terms as they are. -/
theorem State.publishBlock_terms (s : State) (n : Fin 8) (spur : Nat) :
    (s.publishBlock n spur).line[n].adc.terms = s.line[n].adc.terms := by
  rw [State.publishBlock_eq]
  split
  · rw [State.spurPublished, State.modAdc_same]
    simp only [State.setFld_other, s.enobPublished_line]
  · simp only [s.enobPublished_line]

theorem State.publishBlock_staticEnob (s : State) (n : Fin 8) (spur : Nat) :
    (s.publishBlock n spur).fld (lineBase n) ADC_QUAL_STATIC_ENOB = s.activeEnob n := by
  rw [State.publishBlock_eq]
  split
  · rw [State.spurPublished, State.modAdc_fld, State.fld_setFld_apart _ _ _ (by decide), s.enobPublished_staticEnob]
  · exact s.enobPublished_staticEnob n

theorem State.publishBlock_spur (s : State) (n : Fin 8) (spur : Nat) :
    (s.publishBlock n spur).fld (lineBase n) ADC_QUAL_SPUR =
      if s.spurDue n then satNat 16 spur else s.fld (lineBase n) ADC_QUAL_SPUR := by
  rw [State.publishBlock_eq, s.enobPublished_spurDue]
  split
  · rw [State.spurPublished, State.modAdc_fld]
    exact State.setFld_same _ _ (by decide) (satNat_lt 16 _)
  · rw [State.enobPublished, State.fld_setFld_apart _ _ _ (by decide)]
    exact s.slicesPublished_fld n (Field.unpublished_of_below (by decide))

/-- The terms after a block, as BG_FREEZE leaves them (R61, R62). -/
def State.blockTaken (s : State) (n : Fin 8) (stats : BlockStats) : State :=
  if s.flag (lineBase n) ADC_CTRL_BG_FREEZE then s
  else s.modAdc n fun a => { a with terms := s.blockTerms n stats }

theorem exec_adcBlockEnd {stats : BlockStats} (hd : s.noneDue) (step : 4 ≤ s.line[n].adc.step) (runs : s.adcRuns n = true)
    (room : s.roomRuns n.val = true) :
    exec (.adcBlockEnd n stats) s = .next ((s.blockTaken n stats).publishBlock n stats.spur) := by
  show execAdcBlockEnd n stats s = _
  rw [execAdcBlockEnd, if_pos ⟨step, runs, room⟩]
  exact (State.publishBlock_evolves (ps := [.line, .lineRegs]) (.ite (.refl _ s) (State.modAdc_evolves (.refl _ s) (by decide)))
    (by decide)).done_eq (by decide) hd

/-- A block moves the terms alone. -/
theorem State.blockTaken_activeEnob (s : State) (n : Fin 8) (stats : BlockStats) :
    (s.blockTaken n stats).activeEnob n = s.activeEnob n := by
  unfold State.blockTaken
  split
  · rfl
  · unfold State.activeEnob
    rw [State.modAdc_same]
    rfl

theorem State.blockTaken_spurDue (s : State) (n : Fin 8) (stats : BlockStats) :
    (s.blockTaken n stats).spurDue n = s.spurDue n := by
  unfold State.blockTaken
  split
  · rfl
  · unfold State.spurDue
    rw [State.modAdc_same]
    simp only [State.modAdc_other]

theorem State.blockTaken_fld (s : State) (n : Fin 8) (stats : BlockStats) (base : Nat) (g : Field) :
    (s.blockTaken n stats).fld base g = s.fld base g := by
  unfold State.blockTaken
  split <;> rfl

/-- A limited raise of a source that is free is a raise (R59). -/
theorem State.raiseLimited_free {key src : Nat} (detail : Nat) (free : s.limitFree key = true) :
    ∃ x, s.raiseLimited key src detail = ({ s with limits := x } : State).raise src detail := by
  unfold State.raiseLimited
  split
  · next t found =>
    have late : t + ticksPerSecond ≤ s.tick := by simpa only [State.limitFree, found, decide_eq_true_eq] using free
    exact ⟨_, if_neg (by omega)⟩
  · exact ⟨_, rfl⟩

/-- The counts of an over-range window (R59, R80). -/
def State.ovrCounted (s : State) (n : Fin 8) (high total : Nat) : State :=
  ((s.addSat (lineBase n) ADC_OVR_OVR_COUNT high).setFlag (lineBase n) ADC_OVR_STAT_OVR_NOW (overRange high total)).countEvent
    (0x3004 + n.val * 0x100) high

/-- They go on to OVR_STICKY. -/
def State.ovrStuck (s : State) (n : Fin 8) (high total : Nat) : State :=
  (s.ovrCounted n high total).setFlag (lineBase n) ADC_OVR_STAT_OVR_STICKY true

theorem State.ovrCounted_fld (s : State) (n : Fin 8) (high total : Nat) (base : Nat) (g : Field) :
    (s.ovrCounted n high total).fld base g = ((s.addSat (lineBase n) ADC_OVR_OVR_COUNT high).setFlag (lineBase n)
      ADC_OVR_STAT_OVR_NOW (overRange high total)).fld base g := by
  simp only [State.fld_eq, State.ovrCounted, State.countEvent_other]

theorem State.ovrStuck_limitFree (s : State) (n : Fin 8) (high total key : Nat) :
    (s.ovrStuck n high total).limitFree key = s.limitFree key := by
  simp only [State.limitFree, State.ovrStuck, State.ovrCounted, State.setFlag_other, State.countEvent_other,
    State.addSat_other]

theorem State.ovrStuck_evolves (s : State) (n : Fin 8) (high total : Nat) :
    Evolves [.counters, .lineRegs, .limits] s (s.ovrStuck n high total) :=
  State.setFlag_evolves (State.countEvent_evolves (State.setFlag_evolves (State.addSat_evolves (.refl _ s)
    (regPart_line (by decide) (by decide))) (regPart_line (by decide) (by decide))) (by decide))
    (regPart_line (by decide) (by decide))

/-- What an over-range window shows. -/
structure OvrShown (n : Fin 8) (s u : State) (high total : Nat) : Prop where
  count : u.fld (lineBase n) ADC_OVR_OVR_COUNT =
    satNat ADC_OVR_OVR_COUNT.width (s.fld (lineBase n) ADC_OVR_OVR_COUNT + high)
  now : u.flag (lineBase n) ADC_OVR_STAT_OVR_NOW = overRange high total

theorem State.ovrCounted_shown (s : State) (n : Fin 8) (high total : Nat) :
    OvrShown n s (s.ovrCounted n high total) high total := by
  refine ⟨?_, ?_⟩
  · rw [State.ovrCounted_fld, State.fld_setFlag_apart _ _ _ (by decide)]
    exact s.setFld_same _ (by decide) (satNat_lt _ _)
  · rw [State.flag, State.ovrCounted_fld, ← State.flag]
    exact State.flag_setFlag_same _ _ _ (by decide) rfl

theorem OvrShown.of_fld {u v : State} {high total : Nat} (h : OvrShown n s u high total)
    (k : ∀ g : Field, g.Lasting → g.Apart ADC_OVR_STAT_OVR_STICKY → v.fld (lineBase n) g = u.fld (lineBase n) g) :
    OvrShown n s v high total :=
  ⟨(k _ (by decide) (by decide)).trans h.count,
    by rw [State.flag, k _ (by decide) (by decide), ← State.flag]; exact h.now⟩

/-- The window stays within its limit: nothing is raised. -/
theorem exec_ovrWindow_within {high total : Nat} (runs : s.adcRuns n = true) (h : 10000 * high ≤ total) :
    exec (.ovrWindow n high total) s = .next (s.ovrCounted n high total).react := by
  have within : overRange high total = false := decide_eq_false (by omega)
  show execOvrWindow n high total s = _
  rw [execOvrWindow, if_pos runs]
  dsimp only
  rw [within, Bool.false_and, if_neg (by decide), done, State.ovrCounted, within]

/-- The window is over its limit, and its source is free to raise (R59). -/
theorem exec_ovrWindow_over {high total : Nat} (runs : s.adcRuns n = true) (h : total < 10000 * high)
    (free : s.limitFree (lineSrc n 0x35) = true) : ∃ x : List (Nat × Nat), exec (.ovrWindow n high total) s =
      .next (({ s.ovrStuck n high total with limits := x } : State).raise (lineSrc n 0x35) (satNat 16 high)).react := by
  have exceeds : overRange high total = true := decide_eq_true h
  obtain ⟨x, raised⟩ := State.raiseLimited_free (s := s.ovrStuck n high total) (src := lineSrc n 0x35) (satNat 16 high)
    ((s.ovrStuck_limitFree n high total _).trans free)
  refine ⟨x, ?_⟩
  show execOvrWindow n high total s = _
  rw [execOvrWindow, if_pos runs, ← raised]
  dsimp only
  rw [exceeds, if_pos, done, State.ovrStuck, State.ovrCounted, exceeds]
  simp only [State.countEvent_other, State.setFlag_other, State.addSat_other]
  cases found : Sparse.find? s.limits (lineSrc n 0x35) with
  | none => rfl
  | some t =>
    have late : t + ticksPerSecond ≤ s.tick := by simpa only [State.limitFree, found, decide_eq_true_eq] using free
    simpa using late

theorem exec_adcConverged (hd : s.noneDue) (step : s.line[n].adc.step = 4) (runs : s.adcRuns n = true)
    (urgent : s.line[n].adc.urgent = none) :
    exec (.adcConverged n) s = .next (s.setFlag (lineBase n) ADC_STATUS_CONVERGED true) := by
  show execAdcConverged n s = _
  rw [execAdcConverged, if_pos ⟨step, runs, urgent⟩]
  exact done_of_noneDue hd

end

section
variable {s t u : State} {n : Fin 8} {f g : Field} {j k p : Nat}

/-! ### Rotation steps, and CAL of the spare (R63 to R65) -/

theorem exec_rotationStep (hd : s.noneDue) (rotates : s.canRotate n = true)
    (period : s.fld (lineBase n) ADC_CTRL_ROT_PERIOD ≠ 0) : exec (.rotationStep n) s = .next (s.startRotation n) := by
  show execRotationStep n s = _
  rw [execRotationStep, rotates, bne_iff_ne.2 period, if_pos (by decide)]
  exact (State.startRotation_evolves (.refl [.line, .lineRegs] s) (by decide)).done_eq (by decide) hd

theorem exec_rotationStep_idle (h : s.canRotate n = false ∨ s.fld (lineBase n) ADC_CTRL_ROT_PERIOD = 0) :
    exec (.rotationStep n) s = .next s := by
  show execRotationStep n s = _
  refine if_neg ?_
  rcases h with h | h <;> rw [h] <;> simp

theorem State.retireSpare_step (s : State) (n : Fin 8) : (s.retireSpare n).line[n].adc.step = s.line[n].adc.step := by
  unfold State.retireSpare
  split
  · next k _ =>
    have gone : (((s.retireSlice n k).spareGone n).raise (lineSrc n 0x32) (sliceDetail k 0x10)).line[n].adc.step =
        s.line[n].adc.step := by
      simp only [((Shows.refl n ((s.retireSlice n k).spareGone n)).raise _ _).line, State.spareGone_adc]
      rfl
    have shown {t x : State} (h : Shows n t x) (e : t.line[n].adc.step = s.line[n].adc.step) :
        x.line[n].adc.step = s.line[n].adc.step := h.stepKept.step.trans e
    dsimp only
    split
    · refine shown (t := State.modAdc _ n _) ((Shows.refl n _).raise _ _).refreshTrainPos ?_
      rw [State.modAdc_same]
      exact gone
    · exact shown (Shows.refl n _).refreshTrainPos gone
  · rfl

theorem State.planRetire_step (s : State) (n : Fin 8) (k : Nat) :
    (s.planRetire n k).line[n].adc.step = s.line[n].adc.step := by
  unfold State.planRetire
  split
  · exact (s.plan_stepKept n _).step.trans (by rw [State.modAdc_same])
  · rfl

theorem State.startRampsDone_step (s : State) (n : Fin 8) (ramps : List (Fin 17 × RampResult)) :
    (s.startRampsDone n ramps).line[n].adc.step = 4 := by
  unfold State.startRampsDone
  refine State.each_keeps (P := fun t => t.line[n].adc.step = 4) (fun k t ht => ?_) _ (State.adcEstimate_step _ n)
  split
  · exact (t.retireSpare_step n).trans ht
  · exact (t.planRetire_step n k).trans ht

theorem exec_spareCalDone_start {ramps : List (Fin 17 × RampResult)} (step : s.line[n].adc.step = 3)
    (runs : s.adcRuns n = true) : exec (.spareCalDone n ramps) s = .next (s.startRampsDone n ramps).react := by
  show execSpareCalDone n ramps s = _
  rw [execSpareCalDone, if_pos ⟨step, runs⟩, done]

theorem exec_spareCalDone {ramps : List (Fin 17 × RampResult)} {k : Fin 17} {r : RampResult} (spare : s.spare n = some k.val)
    (step : s.line[n].adc.step ≠ 3) (runs : s.adcRuns n = true) (cal : s.spareState n = 1)
    (ramp : ramps.find? (fun e => some e.1.val == s.spare n) = some (k, r))
    (goes : s.line[n].adc.training = none ∨ s.rotationPaused n = false) :
    exec (.spareCalDone n ramps) s = done (s.spareCalDone n k.val r) := by
  show execSpareCalDone n ramps s = _
  unfold execSpareCalDone
  dsimp only
  rw [if_neg fun h => step h.1, ramp, spare]
  have waits : ¬ (s.line[n].adc.training.isSome = true ∧ s.rotationPaused n = true) := fun ⟨trains, paused⟩ => by
    rcases goes with h | h
    · rw [h] at trains; exact absurd trains (by decide)
    · rw [h] at paused; exact absurd paused (by decide)
  exact if_pos ⟨runs, cal, waits⟩

/-- The spare with its ramp measurement taken. -/
def State.calTaken (s : State) (n : Fin 8) (k : Nat) (r : RampResult) : State :=
  (s.rampDone n k r).modAdc n fun a => { a with urgentCal := false }

theorem State.calTaken_evolves (s : State) (n : Fin 8) (k : Nat) (r : RampResult) :
    Evolves [.line, .lineRegs] s (s.calTaken n k r) :=
  State.modAdc_evolves (State.rampDone_evolves (.refl _ s) (by decide)) (by decide)

theorem vector_set!_fin {α : Type} {m : Nat} (v : Vector α m) (k : Fin m) (x : α) : v.set! k.val x = v.set k x := by
  ext i hi
  rw [Vector.set!_eq_setIfInBounds, Vector.getElem_setIfInBounds hi, Vector.getElem_set]

theorem State.calTaken_adc (s : State) (n : Fin 8) (k : Fin 17) (r : RampResult) :
    (s.calTaken n k r).line[n].adc = { s.line[n].adc with
      lin := s.line[n].adc.lin.set k r.table, lastRamp := s.line[n].adc.lastRamp.set k (some s.tick),
      rampOffset := s.line[n].adc.rampOffset.set k r.offset, rampGain := s.line[n].adc.rampGain.set k r.gain,
      enob := s.line[n].adc.enob.set k r.enob, urgentCal := false } := by
  simp only [State.calTaken, State.rampDone, State.modAdc_same, vector_set!_fin]

theorem State.spareCalDone_low {r : RampResult} (low : r.enob < 176) :
    s.spareCalDone n k r = (s.calTaken n k r).retireSpare n := if_pos (decide_eq_true low)

/-- A good spare with nothing to do goes to rest (R64). -/
theorem State.spareCalDone_rest {k : Fin 17} {r : RampResult} (good : 176 ≤ r.enob) (training : s.line[n].adc.training = none)
    (urgent : s.line[n].adc.urgent = none) (planned : s.line[n].adc.planned = none) :
    s.spareCalDone n k r = ((s.calTaken n k r).setSpareState n (s.restState n)).refreshTrainPos n := by
  have low : enobLow r.enob = false := decide_eq_false (by omega)
  have adc := s.calTaken_adc n k r
  unfold State.spareCalDone
  rw [low, ← State.calTaken]
  simp only [adc, training, urgent, planned, State.setSpareState_line]
  rfl

end

section
variable {s t u : State} {n : Fin 8} {f g : Field} {j k p : Nat}

/-! ### Handovers of a rotation step (R65, R67) -/

theorem State.takePosition_shows (s : State) (n : Fin 8) (j p : Nat) (t : SliceTerms) :
    Shows n ((s.setSlice n j p 0).modAdc n fun a => { a with
      terms := a.terms.set! j t, bridged := a.bridged.filter fun e => e.1 != p }) (s.takePosition n j p t) :=
  (Shows.refl n _).refreshBridged

theorem State.takePosition_adc (s : State) (n : Fin 8) (j p : Nat) (t : SliceTerms) :
    (s.takePosition n j p t).line[n].adc = { s.line[n].adc with
      terms := s.line[n].adc.terms.set! j t, bridged := s.line[n].adc.bridged.filter fun e => e.1 != p } := by
  simp only [(s.takePosition_shows n j p t).line, State.modAdc_same, State.setSlice_line]

theorem State.takePosition_slicePos (s : State) (n : Fin 8) (t : SliceTerms) (hj : j < 17) (hp : p < 32) :
    (s.takePosition n j p t).slicePos n j = p := by
  rw [(s.takePosition_shows n j p t).slicePos hj, State.modAdc_slicePos]
  exact s.setSlice_slicePos n j 0 hp

theorem State.takePosition_fld (s : State) (n : Fin 8) (t : SliceTerms) (hj : j < 17) (hg : g.Lasting) (hb : g.off < 0x140) :
    (s.takePosition n j p t).fld (lineBase n) g = s.fld (lineBase n) g := by
  rw [(s.takePosition_shows n j p t).fld g hg, State.modAdc_fld, State.setSlice_fld _ _ _ _ hj hb]

theorem State.bumpMod_same (s : State) (base : Nat) {f : Field} (h : f.lo + f.width ≤ 32) :
    (s.bumpMod base f).fld base f = (s.fld base f + 1) % 2 ^ f.width := Regs.fld_setFld_same _ h

/-- A write to a word before the slice registers leaves the slices in their positions. -/
theorem State.setFld_slicePos (s : State) (n : Fin 8) (v : Nat) (hk : k < 17) (hf : f.off < 0x140) :
    (s.setFld (lineBase n) f v).slicePos n k = s.slicePos n k :=
  s.fld_setFld_apart _ v (ofSlice_position.apart_above hk hf)

/-- The trained spare is in its position, and the step is over and counted (R65 steps 5 and 6). -/
def State.handedOver (s : State) (n : Fin 8) (j k p : Nat) (t : SliceTerms) : State :=
  ((s.takePosition n j p t).bumpMod (lineBase n) ADC_STATUS_ROT_COUNT).modAdc n fun a =>
    { a with training := none, planned := a.planned.filter fun q => q.slice != k }

/-- The slice that has left its position is the new spare. -/
def State.spareMade (s : State) (n : Fin 8) (k : Nat) : State :=
  ((s.setSlice n k 16 1).setFld (lineBase n) ADC_STATUS_SPARE_SLICE k).setFld (lineBase n) ADC_STATUS_SPARE_STATE 1

theorem State.rotated_kept (s : State) (n : Fin 8) (j k p : Nat) (t : SliceTerms) :
    s.rotated n j k p t false = ((s.handedOver n j k p t).spareMade n k).refreshTrainPos n := rfl

theorem State.handedOver_adc (s : State) (n : Fin 8) (j k p : Nat) (t : SliceTerms) :
    (s.handedOver n j k p t).line[n].adc = { s.line[n].adc with
      terms := s.line[n].adc.terms.set! j t, bridged := s.line[n].adc.bridged.filter fun e => e.1 != p,
      training := none, planned := s.line[n].adc.planned.filter fun q => q.slice != k } := by
  simp only [State.handedOver, State.modAdc_same, State.bumpMod_other, State.takePosition_adc]

theorem State.handedOver_slicePos (s : State) (n : Fin 8) (t : SliceTerms) (hj : j < 17) (hp : p < 32) :
    (s.handedOver n j k p t).slicePos n j = p := by
  rw [State.handedOver, State.modAdc_slicePos, State.bumpMod, State.setFld_slicePos _ n _ hj (by decide),
    s.takePosition_slicePos n t hj hp]

theorem State.handedOver_count (s : State) (n : Fin 8) (k : Nat) (t : SliceTerms) (hj : j < 17) :
    (s.handedOver n j k p t).fld (lineBase n) ADC_STATUS_ROT_COUNT =
      (s.fld (lineBase n) ADC_STATUS_ROT_COUNT + 1) % 2 ^ ADC_STATUS_ROT_COUNT.width := by
  rw [State.handedOver, State.modAdc_fld, State.bumpMod_same _ _ (by decide),
    s.takePosition_fld n t hj (by decide) (by decide)]

theorem State.spareMade_fld (s : State) (n : Fin 8) (hk : k < 17) (hg : g.off < 0x140)
    (slice : g.Apart ADC_STATUS_SPARE_SLICE) (st : g.Apart ADC_STATUS_SPARE_STATE) :
    (s.spareMade n k).fld (lineBase n) g = s.fld (lineBase n) g := by
  rw [State.spareMade, State.fld_setFld_apart _ _ _ st, State.fld_setFld_apart _ _ _ slice,
    State.setSlice_fld _ _ _ _ hk hg]

theorem State.spareMade_spare (s : State) (n : Fin 8) (hk : k < 17) : (s.spareMade n k).spare n = some k := by
  have made : (s.spareMade n k).fld (lineBase n) ADC_STATUS_SPARE_SLICE = k := by
    rw [State.spareMade, State.fld_setFld_apart _ _ _ (by decide)]
    exact State.setFld_same _ _ (by decide) (Nat.lt_trans hk (by decide))
  rw [State.spare, made]
  exact if_pos hk

theorem State.spareMade_spareState (s : State) (n : Fin 8) (k : Nat) : (s.spareMade n k).spareState n = 1 :=
  State.setFld_same _ _ (by decide) (by decide)

theorem State.spareMade_slicePos (s : State) (n : Fin 8) (hk : k < 17) : (s.spareMade n k).slicePos n k = 16 := by
  rw [State.spareMade, State.setFld_slicePos _ _ _ hk (by decide), State.setFld_slicePos _ _ _ hk (by decide)]
  exact s.setSlice_slicePos n k 1 (by decide)

theorem State.spareMade_slicePos_ne (s : State) (n : Fin 8) (hj : j < 17) (hk : k < 17) (ne : j ≠ k) :
    (s.spareMade n k).slicePos n j = s.slicePos n j := by
  rw [State.spareMade, State.setFld_slicePos _ _ _ hj (by decide), State.setFld_slicePos _ _ _ hj (by decide),
    s.setSlice_slicePos_ne n 16 1 hj hk ne]

theorem State.rotated_evolves_lane (s : State) (n : Fin 8) (j k p : Nat) (t : SliceTerms) :
    Evolves [.line, .lineRegs] s (s.rotated n j k p t false) := by
  have position : Evolves [.line, .lineRegs] s (s.takePosition n j p t) := State.takePosition_evolves (.refl _ s) (by decide)
  have made {x : State} (h : Evolves [.line, .lineRegs] s x) : Evolves [.line, .lineRegs] s (x.spareMade n k) :=
    State.setFld_evolves (State.setFld_evolves (State.setSlice_evolves h (by decide)) (regPart_line (by decide) (by decide)))
      (regPart_line (by decide) (by decide))
  rw [State.rotated_kept]
  refine State.refreshTrainPos_evolves (made (State.modAdc_evolves ?_ (by decide))) (by decide)
  exact State.setFld_evolves position (regPart_line (by decide) (by decide))

/-- What a handover that frees its slice shows. -/
structure Rotated (n : Fin 8) (s u : State) (j k p : Nat) : Prop where
  taken : u.slicePos n j = p
  freed : u.slicePos n k = 16
  spare : u.spare n = some k
  spareState : u.spareState n = 1
  count : u.fld (lineBase n) ADC_STATUS_ROT_COUNT =
    (s.fld (lineBase n) ADC_STATUS_ROT_COUNT + 1) % 2 ^ ADC_STATUS_ROT_COUNT.width

theorem State.rotated_rotated (s : State) (n : Fin 8) (t : SliceTerms) (hj : j < 17) (hk : k < 17) (ne : k ≠ j)
    (hp : p < 32) : Rotated n s (s.rotated n j k p t false) j k p := by
  have shown := (Shows.refl n ((s.handedOver n j k p t).spareMade n k)).refreshTrainPos
  rw [State.rotated_kept]
  refine ⟨?_, ?_, shown.spare.trans (State.spareMade_spare _ n hk),
    shown.spareState.trans (State.spareMade_spareState _ n k), ?_⟩
  · rw [shown.slicePos hj, State.spareMade_slicePos_ne _ n hj hk ne.symm, s.handedOver_slicePos n t hj hp]
  · rw [shown.slicePos hk, State.spareMade_slicePos _ n hk]
  · rw [shown.fld _ (by decide), State.spareMade_fld _ n hk (by decide) (by decide) (by decide), s.handedOver_count n k t hj]

theorem State.rotated_adc (s : State) (n : Fin 8) (j k p : Nat) (t : SliceTerms) :
    (s.rotated n j k p t false).line[n].adc.training = none ∧
      (s.rotated n j k p t false).line[n].adc.terms = s.line[n].adc.terms.set! j t := by
  have line : (s.rotated n j k p t false).line = (s.handedOver n j k p t).line := (Shows.refl n _).refreshTrainPos.line
  simp only [line, State.handedOver_adc, and_self]

theorem exec_rotationHandover {blocks : List (List TrainSample)} {spur : Nat} {j : Fin 17} (hd : s.noneDue)
    (training : s.line[n].adc.training = some p) (spare : s.spare n = some j.val) (slice : s.sliceAt n p = some k)
    (runs : s.adcRuns n = true) (task : s.lineTask n taskRotation = true) (goes : s.rotationPaused n = false)
    (trains : s.spareState n = 2)
    (well : trainedWell (trainRun s.trimSteps s.line[n].adc.lin[j] s.line[n].adc.terms[j] blocks).2 = true)
    (quiet : s.spurLimit n ≤ spur) (planned : s.line[n].adc.planned = none) :
    exec (.rotationHandover n blocks spur none) s = .next (s.rotated n j.val k p
      (trainRun s.trimSteps s.line[n].adc.lin[j] s.line[n].adc.terms[j] blocks).1 false) := by
  have lin : (s.line[n].adc.lin[j.val]?).getD [] = s.line[n].adc.lin[j] := by
    rw [getElem?_pos s.line[n].adc.lin j.val j.isLt]; rfl
  have terms : (s.line[n].adc.terms[j.val]?).getD ⟨0, 0, 0, 0, 0⟩ = s.line[n].adc.terms[j] := by
    rw [getElem?_pos s.line[n].adc.terms j.val j.isLt]; rfl
  show execRotationHandover n blocks spur none s = _
  unfold execRotationHandover
  simp only [training, spare, slice, lin, terms, planned]
  rw [if_pos ⟨runs, task, by rw [goes]; decide, trains, well, quiet⟩]
  exact (s.rotated_evolves_lane n j.val k p _).done_eq (by decide) hd

/-- No handover within 256 blocks: the count moves on, the step is given up, and the spare runs CAL (R65 step 4). -/
def State.rotationGivenUp (s : State) (n : Fin 8) : State :=
  ((s.bump (lineBase n) ADC_QUAL_ROT_ABORT).modAdc n fun a =>
    { a with training := none, planned := a.planned.map fun q => { q with waits := true } }).setSpareState n 1

theorem exec_rotationAbort (training : s.line[n].adc.training = some p) (spare : s.spare n = some j)
    (runs : s.adcRuns n = true) (task : s.lineTask n taskRotation = true) (goes : s.rotationPaused n = false)
    (trains : s.spareState n = 2) : exec (.rotationAbort n) s =
      .next (((s.rotationGivenUp n).raise (lineSrc n 0x34) (sliceDetail j p)).refreshTrainPos n).react := by
  show execRotationAbort n s = _
  unfold execRotationAbort
  simp only [training, spare]
  rw [if_pos ⟨runs, task, by rw [goes]; decide, trains⟩]
  rfl

theorem State.rotationGivenUp_evolves (s : State) (n : Fin 8) : Evolves [.line, .lineRegs] s (s.rotationGivenUp n) := by
  refine State.setSpareState_evolves (State.modAdc_evolves ?_ (by decide)) (by decide)
  exact State.setFld_evolves (.refl _ s) (regPart_line (by decide) (by decide))

theorem State.rotationGivenUp_spareState (spare : s.spare n = some j) : (s.rotationGivenUp n).spareState n = 1 := by
  refine State.setSpareState_spareState (k := j) ?_ (by decide)
  refine (State.spare_of_fld ?_).trans spare
  rw [State.modAdc_fld]
  exact s.fld_bump_apart _ (by decide)

theorem State.rotationGivenUp_abort (s : State) (n : Fin 8) : (s.rotationGivenUp n).fld (lineBase n) ADC_QUAL_ROT_ABORT =
    satNat ADC_QUAL_ROT_ABORT.width (s.fld (lineBase n) ADC_QUAL_ROT_ABORT + 1) := by
  rw [State.rotationGivenUp, State.setSpareState_fld_below _ n 1 (by decide) (by decide), State.modAdc_fld]
  exact s.bump_same _ (by decide)

theorem State.rotationGivenUp_training (s : State) (n : Fin 8) : (s.rotationGivenUp n).line[n].adc.training = none := by
  simp only [State.rotationGivenUp, State.setSpareState_line, State.modAdc_same]

end

/-- Settles O31: each command by the equation of its case, and what it shows by the laws of the slice registers. -/
theorem lineFrontEndAndConverter : Obligations.LineFrontEndAndConverter := by
  unfold Obligations.LineFrontEndAndConverter
  refine ⟨?level, ?vgaDown, ?vgaUp, ?afe, ?afeLocked, ?block, ?ovr, ?converged, ?ready, ?parked, ?idle, ?start, ?low, ?rest,
    ?handover, ?abort⟩
  case level =>
    intro n level s hd dom
    refine ⟨s.setFld (lineBase n) AFE_STATUS_INPUT_LEVEL (satNat 16 level), ?_,
      s.setFld_same _ (by decide) (satNat_lt 16 _), rfl, s.setFld_regsBut _ _ _⟩
    show execAfeLevelUpdate n level s = _
    rw [execAfeLevelUpdate, if_pos dom]
    exact done_of_noneDue hd
  case vgaDown =>
    intro n high total meanSquare s hd dom task man range down
    have step : (if overRange high total then -1 else levelStep meanSquare) = -1 := by
      split
      · rfl
      · next within => exact levelStep_down (down.resolve_left (by simpa [overRange] using within))
    refine ⟨_, exec_vgaWindow hd dom task man, ?_⟩
    rw [State.vgaStep_cur, step]
    omega
  case vgaUp =>
    intro n high total meanSquare s hd dom task man range within low
    have up : (if overRange high total then -1 else levelStep meanSquare) = 1 := by
      rw [if_neg (by simpa [overRange] using within), levelStep_up low]
    refine ⟨_, exec_vgaWindow hd dom task man, ?_⟩
    rw [State.vgaStep_cur, up]
    omega
  case afe =>
    intro n value s hd locked
    obtain ⟨ctle, ctleMan, vgaMan, vga⟩ := s.afeFollowed_written n value
    exact ⟨_, exec_afeCtrlWrite value hd locked, ctle, ctleMan, vgaMan, vga⟩
  case afeLocked =>
    intro n value s _ locked change syn deep
    have followed := s.afeFollowed_evolves n value
    have acq := State.acqStart_acquiring (s := s.afeFollowed n value) (n := n) (by rwa [followed.synLocked (by decide)])
      (by rwa [followed.deepHolds (by decide) (by decide)])
    exact ⟨_, exec_afeCtrlWrite_acquires locked change, ((State.acqStart_frontKept _ n) _ (by decide)).trans
      (s.afeFollowed_written n value).ctle, acq.state, acq.unlocked⟩
  case block =>
    intro n stats s hd step runs room
    have spur := (s.blockTaken n stats).publishBlock_spur n stats.spur
    rw [State.blockTaken_spurDue, State.blockTaken_fld] at spur
    refine ⟨_, exec_adcBlockEnd hd step runs room, ?_, fun never => ?_, fun k last early => ?_, ?_⟩
    · rw [State.publishBlock_terms]
      unfold State.blockTaken
      split
      · rfl
      · rw [State.modAdc_same]
    · rw [spur, State.spurDue, never]
      rfl
    · have due : s.spurDue n = false := by
        rw [State.spurDue, last]
        exact decide_eq_false (by simp only [ticks1ms]; omega)
      rw [spur, due]
      rfl
    · rw [State.publishBlock_staticEnob, State.blockTaken_activeEnob]
  case ovr =>
    intro n high total s hd runs free
    have counted := s.ovrCounted_shown n high total
    by_cases exceeds : total < 10000 * high
    · obtain ⟨x, eq⟩ := exec_ovrWindow_over runs exceeds (free.resolve_left (by omega))
      have shown : Shows n (s.ovrStuck n high total) _ :=
        ((Shows.refl n _).limits x).raise (lineSrc n 0x35) (satNat 16 high)
      obtain ⟨count, now⟩ := counted.of_fld fun g hg sticky =>
        (shown.fld g hg).trans ((s.ovrCounted n high total).fld_setFlag_apart _ true sticky)
      refine ⟨_, eq, count, now, fun _ => ?_, fun _ takes => ?_⟩
      · rw [State.flag, shown.fld _ (by decide), ← State.flag]
        exact State.flag_setFlag_same _ _ _ (by decide) rfl
      · exact State.raise_isActive (((s.ovrStuck_evolves n high total).limits (by decide)).takes (by decide) (by decide)
          (by decide) (State.takes_lineSrc (by decide) _ takes))
    · exact ⟨_, exec_ovrWindow_within runs (by omega), counted.count, counted.now, fun h => absurd h exceeds,
        fun h => absurd h exceeds⟩
  case converged =>
    intro n s hd step runs urgent
    exact ⟨_, exec_adcConverged hd step runs urgent, s.flag_setFlag_same _ _ (by decide) rfl, s.setFld_regsBut _ _ _⟩
  case ready =>
    intro n p k j s hd rotates period ready target slice spare
    have trains := State.trainSpare_trains spare slice
    exact ⟨_, by rw [exec_rotationStep hd rotates period, State.startRotation_ready ready target], trains.training,
      trains.spareState⟩
  case parked =>
    intro n p j s hd rotates period parked target spare
    refine ⟨_, (exec_rotationStep hd rotates period).trans (congrArg _ (State.startRotation_parked parked target)), ?_,
      State.spareShown_spareState (k := j) spare (by decide)⟩
    simp only [State.spareShown_line, State.modAdc_same]
  case idle => exact fun n s _ h => ⟨s, exec_rotationStep_idle h, rfl⟩
  case start => exact fun n ramps s _ step runs => ⟨_, exec_spareCalDone_start step runs, s.startRampsDone_step n ramps⟩
  case low =>
    intro n ramps k r s _ spare step runs cal ramp goes low takes
    have retired := State.retireSpare_retired (s := s.calTaken n k.val r) spare
      ((s.calTaken_evolves n k.val r).takes (by decide) (by decide) (by decide) takes)
    exact ⟨_, by rw [exec_spareCalDone spare step runs cal ramp goes, State.spareCalDone_low low, done], retired.spare,
      retired.position, retired.active⟩
  case rest =>
    intro n ramps k r s hd spare step runs cal ramp good training urgent planned
    have taken := s.calTaken_evolves n k.val r
    have adc : (((s.calTaken n k.val r).setSpareState n (s.restState n)).refreshTrainPos n).line[n].adc =
        (s.calTaken n k.val r).line[n].adc := by simp only [State.spareShown_line]
    rw [s.calTaken_adc n k r] at adc
    refine ⟨_, ?_, State.spareShown_spareState (s := s.calTaken n k.val r) (k := k.val) spare ?_, ?_, ?_, ?_⟩
    · rw [exec_spareCalDone spare step runs cal ramp (.inl training), State.spareCalDone_rest good training urgent planned]
      exact (State.refreshTrainPos_evolves (State.setSpareState_evolves taken (by decide)) (by decide)).done_eq (by decide) hd
    · unfold State.restState
      split <;> decide
    · rw [adc]
    · rw [adc]
    · rw [adc]
  case handover =>
    rintro n blocks spur _ p k j _ s hd training spare slice ne hk hp runs task goes trains rfl well quiet rfl planned
    obtain ⟨taken, freed, made, st, count⟩ := s.rotated_rotated n
      (trainRun s.trimSteps s.line[n].adc.lin[j] s.line[n].adc.terms[j] blocks).1 j.isLt hk ne (Nat.lt_trans hp (by decide))
    obtain ⟨ended, terms⟩ := s.rotated_adc n j k p
      (trainRun s.trimSteps s.line[n].adc.lin[j] s.line[n].adc.terms[j] blocks).1
    exact ⟨_, exec_rotationHandover hd training spare slice runs task goes trains well quiet planned, taken, freed, made, st,
      ended, terms.trans (vector_set!_fin _ j _), count⟩
  case abort =>
    intro n p j s _ training spare runs task goes trains takes
    have shown := ((Shows.refl n (s.rotationGivenUp n)).raise (lineSrc n 0x34) (sliceDetail j p)).refreshTrainPos
    have raised := (s.rotationGivenUp_evolves n).raise_isActive (n := n) (i := 0x34) (by decide) (sliceDetail j p) takes
    refine ⟨_, exec_rotationAbort training spare runs task goes trains, ?_,
      shown.spareState.trans (State.rotationGivenUp_spareState spare),
      (shown.fld _ (by decide)).trans (s.rotationGivenUp_abort n),
      (Shows.refl n _).refreshTrainPos.active _ raised⟩
    simp only [shown.line, s.rotationGivenUp_training]

end Sys2Proof.Machine
end

section
/-! Checks and substitution of the slices of a converter (O32): abrupt and degrading faults, the urgent substitution of a
bridged position, and planned substitutions. -/

namespace Sys2Proof.Machine

open Reg

section
variable {s t u : State} {n : Fin 8} {k j p : Nat}

/-! ### Abrupt faults of a slice (R71, R73) -/

/-- The slice has failed, and its position is bridged (R71). -/
def State.bridge (s : State) (n : Fin 8) (k : Nat) : State :=
  (((s.setFld (lineBase n) (SLICE_A_STATE.ix k) 6).modAdc n fun a =>
    { a with bridged := a.bridged ++ [(s.slicePos n k, k)] }).refreshBridged n)

/-- The spare is given to the bridged position: it leaves the step and the BIST that it is in. -/
def State.urgentBegun (s : State) (n : Fin 8) (p : Nat) : State :=
  (s.bistNeeded n.val).modAdc n fun a =>
    { a with urgent := some p, urgentTraining := false, urgentCal := decide (s.spareState n = 4), training := none }

/-- The bridge of the position is permanent, or the spare is asked for (R71, R73). -/
def State.spareAsked (s : State) (n : Fin 8) (k p : Nat) : State :=
  if (s.spare n).isNone || s.line[n].adc.urgent.isSome then s.bridgePersist n k p
  else
    (if s.spareState n = 2 then (s.urgentBegun n p).setSpareState n 3
      else if s.spareState n = 4 then (s.urgentBegun n p).setSpareState n 1 else s.urgentBegun n p).refreshTrainPos n

theorem State.abruptSlice_active (spare : s.spare n ≠ some k) (pos : s.slicePos n k < 16)
    (st : s.sliceFld n SLICE_A_STATE k = 0) : s.abruptSlice n k =
      ((s.bridge n k).raise (lineSrc n 0x30) (sliceDetail k (s.slicePos n k))).spareAsked n k (s.slicePos n k) := by
  unfold State.abruptSlice
  dsimp only
  rw [if_neg spare, if_pos ⟨pos, st⟩]
  rfl

theorem State.bridge_shows (s : State) (n : Fin 8) (k : Nat) :
    Shows n ((s.setFld (lineBase n) (SLICE_A_STATE.ix k) 6).modAdc n fun a =>
      { a with bridged := a.bridged ++ [(s.slicePos n k, k)] }) (s.bridge n k) := (Shows.refl n _).refreshBridged

theorem State.bridge_evolves (s : State) (n : Fin 8) (k : Nat) : Evolves [.line, .lineRegs] s (s.bridge n k) :=
  State.refreshBridged_evolves (State.modAdc_evolves (State.setFld_evolves (.refl _ s) (regPart_line (Field.ix_lt _ _)
    (by decide))) (by decide)) (by decide)

theorem State.bridge_adc (s : State) (n : Fin 8) (k : Nat) : (s.bridge n k).line[n].adc =
    { s.line[n].adc with bridged := s.line[n].adc.bridged ++ [(s.slicePos n k, k)] } := by
  simp only [(s.bridge_shows n k).line, State.modAdc_same, State.setFld_other]

theorem State.bridge_state (s : State) (n : Fin 8) (hk : k < 17) : (s.bridge n k).sliceFld n SLICE_A_STATE k = 6 := by
  rw [(s.bridge_shows n k).sliceFld ofSlice_state hk, State.sliceFld, State.modAdc_fld]
  exact s.setFld_same _ (show SLICE_A_STATE.lo + SLICE_A_STATE.width ≤ 32 by decide)
    (show 6 < 2 ^ SLICE_A_STATE.width by decide)

theorem State.bridge_spare (s : State) (n : Fin 8) (hk : k < 17) : (s.bridge n k).spare n = s.spare n := by
  rw [(s.bridge_shows n k).spare]
  refine State.spare_of_fld ?_
  rw [State.modAdc_fld, State.fld_setFld_apart _ _ _ (ofSlice_state.apart_below hk (by decide))]

/-- What a failing slice shows: STATE 6, its position bridged, and its source active. -/
structure Bridged (n : Fin 8) (k p : Nat) (u : State) : Prop where
  state : u.sliceFld n SLICE_A_STATE k = 6
  bridged : (p, k) ∈ u.line[n].adc.bridged
  active : u.isActive (lineSrc n 0x30)

theorem Shows.bridgedSlice (h : Shows n t u) (hk : k < 17) (b : Bridged n k p t) : Bridged n k p u :=
  ⟨(h.sliceFld ofSlice_state hk).trans b.state, by simp only [h.line]; exact b.bridged, h.active _ b.active⟩

theorem Bridged.modAdc (b : Bridged n k p t) {f : AdcState → AdcState} (hf : ∀ a, (f a).bridged = a.bridged) :
    Bridged n k p (t.modAdc n f) := by
  refine ⟨?_, ?_, ?_⟩
  · rw [State.sliceFld, State.modAdc_fld]; exact b.state
  · rw [State.modAdc_same]; simpa only [hf] using b.bridged
  · simpa only [State.isActive, State.modAdc_other] using b.active

/-- The state of the spare is not that of the failing slice. -/
theorem Bridged.setSpareState (b : Bridged n k p t) (hk : k < 17) (spare : t.spare n ≠ some k) (v : Nat) :
    Bridged n k p (t.setSpareState n v) := by
  refine ⟨(State.setSpareState_state_ne v hk spare).trans b.state, ?_, ?_⟩
  · simpa only [State.setSpareState_line] using b.bridged
  · unfold State.setSpareState
    split <;> exact b.active

/-- Asking for the spare leaves the failing slice as it is. -/
theorem Bridged.spareAsked (b : Bridged n k p t) (hk : k < 17) (spare : t.spare n ≠ some k) (q : Nat) :
    Bridged n k p (t.spareAsked n k q) := by
  have needed := (Shows.refl n t).bistNeeded n.val
  have begun : Bridged n k p (t.urgentBegun n q) := (needed.bridgedSlice hk b).modAdc fun _ => rfl
  have other : (t.urgentBegun n q).spare n ≠ some k := by rwa [State.urgentBegun, State.modAdc_spare, needed.spare]
  unfold State.spareAsked
  split
  · exact ((Shows.refl n t).raise _ _).bridgedSlice hk b
  · refine (Shows.refl n _).refreshTrainPos.bridgedSlice hk ?_
    split_ifs
    · exact begun.setSpareState hk other 3
    · exact begun.setSpareState hk other 1
    · exact begun

theorem State.spareAsked_urgent (spare : (s.spare n).isSome = true) (urgent : s.line[n].adc.urgent = none) (k p : Nat) :
    (s.spareAsked n k p).line[n].adc.urgent = some p := by
  have free : ((s.spare n).isNone || s.line[n].adc.urgent.isSome) = false := by
    rw [urgent, Option.isNone_eq_false_iff.2 spare]; rfl
  unfold State.spareAsked
  rw [if_neg (by rw [free]; decide)]
  simp only [(Shows.refl n _).refreshTrainPos.line, apply_ite State.line, State.setSpareState_line, ite_self,
    State.urgentBegun, State.modAdc_same]

/-- An abrupt fault of an active slice that is not the spare. -/
theorem State.abruptSlice_bridged (hk : k < 17) (spare : s.spare n ≠ some k) (pos : s.slicePos n k < 16)
    (st : s.sliceFld n SLICE_A_STATE k = 0) (takes : s.takes (lineSrc n 0x30) 0) :
    Bridged n k (s.slicePos n k) (s.abruptSlice n k) := by
  have raised : Bridged n k (s.slicePos n k) ((s.bridge n k).raise (lineSrc n 0x30) (sliceDetail k (s.slicePos n k))) := by
    have shown := (Shows.refl n (s.bridge n k)).raise (lineSrc n 0x30) (sliceDetail k (s.slicePos n k))
    refine ⟨(shown.sliceFld ofSlice_state hk).trans (s.bridge_state n hk), ?_,
      (s.bridge_evolves n k).raise_isActive (by decide) _ takes⟩
    simp only [shown.line, s.bridge_adc, List.mem_append, List.mem_singleton, or_true]
  rw [State.abruptSlice_active spare pos st]
  refine raised.spareAsked hk ?_ _
  rwa [((Shows.refl n (s.bridge n k)).raise _ _).spare, s.bridge_spare n hk]

theorem State.abruptSlice_urgent (hk : k < 17) (spare : s.spare n ≠ some k) (pos : s.slicePos n k < 16)
    (st : s.sliceFld n SLICE_A_STATE k = 0) (present : (s.spare n).isSome = true) (urgent : s.line[n].adc.urgent = none) :
    (s.abruptSlice n k).line[n].adc.urgent = some (s.slicePos n k) := by
  have shown := (Shows.refl n (s.bridge n k)).raise (lineSrc n 0x30) (sliceDetail k (s.slicePos n k))
  rw [State.abruptSlice_active spare pos st]
  refine State.spareAsked_urgent ?_ ?_ _ _
  · rwa [shown.spare, s.bridge_spare n hk]
  · simp only [shown.line, s.bridge_adc, urgent]

theorem exec_sliceAbruptFault {k : Fin 17} {sign : AbruptSign} (trips : abruptTrips sign = true) (runs : s.adcRuns n = true) :
    exec (.sliceAbruptFault n [(k, sign)]) s = .next (s.abruptSlice n k.val).react := by
  show execSliceAbruptFault n [(k, sign)] s = _
  rw [execSliceAbruptFault, if_pos runs, List.filter_cons_of_pos (by exact trips)]
  rfl

/-! ### Self-check flags (R69) -/

/-- A flag that stands alone counts. -/
theorem exec_sliceCheckFlag_counts {k : Fin 17} {conv : Nat} {flags : List (Nat × Nat)} (hd : s.noneDue)
    (runs : s.adcRuns n = true) (pos : s.slicePos n k.val ≠ 31)
    (new : flags = ((s.tick, conv) :: s.line[n].adc.flags[k]).take 17) (abrupt : flagsAbrupt flags conv = false)
    (often : flagsOften flags s.tick = false) : exec (.sliceCheckFlag n k conv) s = .next (s.modAdc n fun a => { a with
      flags := a.flags.set k flags, checkErr := a.checkErr.set k (satNat 8 (a.checkErr[k] + 1)) }) := by
  show execSliceCheckFlag n k conv s = _
  rw [execSliceCheckFlag, if_pos ⟨runs, pos⟩]
  dsimp only
  rw [← new, abrupt, if_neg (by decide)]
  simp only [State.modAdc_other, often]
  rw [if_neg (by decide), done_of_noneDue]
  · simp only [State.modAdc, State.modLine, Vector.set_set, Fin.getElem_fin, Vector.getElem_set_self]
  · exact hd

/-- The fourth flag in 64 conversions makes an abrupt fault. -/
theorem exec_sliceCheckFlag_abrupt {k : Fin 17} {conv : Nat} {flags : List (Nat × Nat)}
    (runs : s.adcRuns n = true) (pos : s.slicePos n k.val ≠ 31)
    (new : flags = ((s.tick, conv) :: s.line[n].adc.flags[k]).take 17) (abrupt : flagsAbrupt flags conv = true) :
    exec (.sliceCheckFlag n k conv) s =
      .next ((s.modAdc n fun a => { a with flags := a.flags.set k flags }).abruptSlice n k.val).react := by
  show execSliceCheckFlag n k conv s = _
  rw [execSliceCheckFlag, if_pos ⟨runs, pos⟩]
  dsimp only
  rw [← new, abrupt, if_pos rfl, done]

/-! ### Degrading slices (R70) -/

theorem exec_sliceDegrading {k : Fin 17} (runs : s.adcRuns n = true)
    (beyond : beyondLimits s.trimSteps s.line[n].adc.terms[k] = true) :
    exec (.sliceDegrading n k) s = done (s.degradingSlice n k.val) := if_pos ⟨runs, beyond⟩

theorem State.degradingSlice_spare (spare : s.spare n = some k) : s.degradingSlice n k = s.retireSpare n := if_pos spare

theorem State.degradingSlice_active (spare : s.spare n ≠ some k) : s.degradingSlice n k = s.planRetire n k := if_neg spare

theorem State.plan_slicePos (s : State) (n : Fin 8) (q : PlannedSubst) (hk : k < 17) :
    (s.plan n q).slicePos n k = s.slicePos n k := ((s.plan_stepKept n q).position k hk).trans (s.modAdc_slicePos n _ k)

/-! ### The urgent substitution (R71) -/

/-- The spare is at the bridged position and trains. -/
def State.spareArrived (s : State) (n : Fin 8) (p j : Nat) : State :=
  (s.modAdc n fun a => { a with
    urgentTraining := true, terms := a.terms.set! j (a.movedTerms j (s.failingAt n p)) }).setSpareState n 2

theorem exec_substSpareArrived (hd : s.noneDue) (runs : s.adcRuns n = true) (urgent : s.line[n].adc.urgent = some p)
    (spare : s.spare n = some j) (training : s.line[n].adc.urgentTraining = false) (cal : s.line[n].adc.urgentCal = false) :
    exec (.substSpareArrived n) s = .next (s.spareArrived n p j) := by
  show execSubstSpareArrived n s = _
  unfold execSubstSpareArrived
  simp only [urgent, spare]
  rw [if_pos ⟨runs, training, cal⟩]
  exact (State.setSpareState_evolves (ps := [.line, .lineRegs]) (State.modAdc_evolves (.refl _ s) (by decide))
    (by decide)).done_eq (by decide) hd

/-- The spare is in the bridged position, before the failing slice is retired (Table 3-8 step 6). -/
def State.urgentTaken (s : State) (n : Fin 8) (p j : Nat) (t : SliceTerms) : State :=
  (s.takePosition n j p t).modAdc n fun a => { a with urgent := none, urgentTraining := false }

theorem exec_urgentSubstHandover {blocks : List BlockStats} (urgent : s.line[n].adc.urgent = some p)
    (spare : s.spare n = some j) (runs : s.adcRuns n = true) (task : s.lineTask n taskRotation = true)
    (length : blocks.length = 64) (training : s.line[n].adc.urgentTraining = true) :
    exec (.urgentSubstHandover n blocks) s = .next ((s.urgentTaken n p j (s.urgentTerms n p
      ((s.line[n].adc.terms[j]?).getD ⟨0, 0, 0, 0, 0⟩) blocks)).substituted n j (s.failingAt n p) p).react := by
  show execUrgentSubstHandover n blocks s = _
  unfold execUrgentSubstHandover
  simp only [urgent, spare]
  rw [if_pos ⟨runs, task, training, length⟩]
  rfl

theorem State.urgentTaken_evolves (s : State) (n : Fin 8) (p j : Nat) (t : SliceTerms) :
    Evolves [.line, .lineRegs] s (s.urgentTaken n p j t) :=
  State.modAdc_evolves (State.takePosition_evolves (.refl _ s) (by decide)) (by decide)

/-- A substitution shows the outgoing slice retired and the spare consumed (R70, R73). -/
theorem State.substituted_shows (s : State) (n : Fin 8) (incoming outgoing p : Nat) :
    Shows n ((s.retireSlice n outgoing).spareGone n) (s.substituted n incoming outgoing p) :=
  ((((Shows.refl n _).raise _ _).raise _ _).attic _).substitution _ _ _ |>.refreshTrainPos

theorem State.substituted_active (takes : s.takes (lineSrc n 0x31) 0) (incoming outgoing p : Nat) :
    (s.substituted n incoming outgoing p).isActive (lineSrc n 0x31) := by
  have raised := (s.retiredGone_evolves n outgoing).raise_isActive (n := n) (i := 0x31) (by decide)
    (sliceDetail incoming p) takes
  exact ((((Shows.refl n _).raise _ _).attic _).substitution _ _ _ |>.refreshTrainPos).active _ raised

theorem State.substituted_slicePos_ne (s : State) (n : Fin 8) (incoming p : Nat) {outgoing : Nat} (hj : j < 17)
    (hk : outgoing < 17) (ne : j ≠ outgoing) : (s.substituted n incoming outgoing p).slicePos n j = s.slicePos n j := by
  rw [(s.substituted_shows n incoming outgoing p).slicePos hj, State.spareGone_slicePos _ n hj]
  exact s.setSlice_slicePos_ne n 31 5 hj hk ne

theorem State.substituted_urgent (s : State) (n : Fin 8) (incoming outgoing p : Nat) :
    (s.substituted n incoming outgoing p).line[n].adc.urgent = s.line[n].adc.urgent := by
  simp only [(s.substituted_shows n incoming outgoing p).line, State.spareGone_adc]
  rfl

/-! ### Planned substitutions (R70, R75) -/

theorem exec_substRetry (n : Fin 8) (hd : s.noneDue) : exec (.substRetry n) s = .next (s.tryPlanned n) :=
  (State.tryPlanned_evolves (.refl [.line, .lineRegs] s) (by decide)).done_eq (by decide) hd

theorem State.tryPlanned_idle (planned : s.line[n].adc.planned = none) : s.tryPlanned n = s := by
  unfold State.tryPlanned
  dsimp only
  rw [planned]
  rfl

theorem State.spareIdle_ready (training : s.line[n].adc.training = none) (urgent : s.line[n].adc.urgent = none)
    (ready : s.spareState n = 3) : s.spareIdle n = true := by
  unfold State.spareIdle
  dsimp only
  rw [training, urgent, ready]
  rfl

theorem State.tryPlanned_starts (planned : s.line[n].adc.planned.isSome = true) (step : 4 ≤ s.line[n].adc.step)
    (runs : s.adcRuns n = true) (task : s.lineTask n taskRotation = true) (idle : s.spareIdle n = true) :
    s.tryPlanned n = s.startRotation n := by
  unfold State.tryPlanned
  dsimp only
  rw [planned, runs, task, idle, decide_eq_true step]
  rfl

/-- The planned substitution comes first (R65 step 1). -/
theorem State.rotationTarget_planned {q : PlannedSubst} (planned : s.line[n].adc.planned = some q)
    (pos : s.slicePos n q.slice < 16) : s.rotationTarget n = some (s.slicePos n q.slice) := by
  unfold State.rotationTarget
  dsimp only
  rw [planned]
  exact if_pos pos

/-- The host names a slice in SUBST_SLICE (R75). -/
def State.substNamed (s : State) (n : Fin 8) (slice : BitVec 5) : State :=
  s.setFld (lineBase n) ADC_CTRL_SUBST_SLICE slice.toNat

theorem State.substNamed_slice (s : State) (n : Fin 8) (slice : BitVec 5) :
    (s.substNamed n slice).fld (lineBase n) ADC_CTRL_SUBST_SLICE = slice.toNat :=
  s.setFld_same _ (by decide) slice.isLt

/-- Where the detector acts the request is not taken. -/
theorem exec_substReq_detector (n : Fin 8) (slice : BitVec 5) (hd : s.noneDue) :
    exec (.substReq n slice true) s = .next (s.substNamed n slice) := done_of_noneDue hd

theorem exec_substReq (n : Fin 8) (slice : BitVec 5) (hd : s.noneDue) :
    exec (.substReq n slice false) s = .next ((s.substNamed n slice).substRequest n slice.toNat) := by
  have named : Evolves [.line, .lineRegs] s (s.substNamed n slice) :=
    State.setFld_evolves (.refl _ s) (regPart_line (by decide) (by decide))
  exact (State.substRequest_evolves named (by decide)).done_eq (by decide) hd

theorem State.substRequest_plans (hk : k < 17) (pos : s.slicePos n k < 16) (st : s.sliceFld n SLICE_A_STATE k = 0)
    (idle : s.spareIdle n = true) (planned : s.line[n].adc.planned = none) :
    s.substRequest n k = s.plan n ⟨k, false, false⟩ := if_pos ⟨hk, pos, st, idle, planned⟩

end

/-- Settles O32: a failing slice by what asking for the spare leaves of it, a substitution by what it shows of the slice that
it retires, and a planned one by the start of its rotation step. -/
theorem slicesAndSubstitution : Obligations.SlicesAndSubstitution := by
  unfold Obligations.SlicesAndSubstitution
  refine ⟨?flag, ?often, ?abrupt, ?spare, ?active, ?arrived, ?handover, ?none, ?retry, ?detector, ?request⟩
  case flag =>
    intro n k conv flags s hd runs pos new abrupt often
    exact ⟨_, exec_sliceCheckFlag_counts hd runs pos new abrupt often, rfl⟩
  case often =>
    intro n k conv flags s _ runs spare pos st new abrupt takes
    have flagged : Evolves [.line, .lineRegs] s (s.modAdc n fun a => { a with flags := a.flags.set k flags }) :=
      State.modAdc_evolves (.refl _ s) (by decide)
    obtain ⟨state, bridged, active⟩ := State.abruptSlice_bridged (s := s.modAdc n _) k.isLt spare pos st
      (flagged.takes (by decide) (by decide) (by decide) takes)
    exact ⟨_, exec_sliceCheckFlag_abrupt runs (by omega) new abrupt, state, bridged, active⟩
  case abrupt =>
    intro n k sign s _ trips runs spare pos st present urgent takes
    obtain ⟨state, bridged, active⟩ := State.abruptSlice_bridged k.isLt spare pos st takes
    exact ⟨_, exec_sliceAbruptFault trips runs, state, bridged,
      State.abruptSlice_urgent k.isLt spare pos st present urgent, active⟩
  case spare =>
    intro n k s _ runs spare beyond takes
    obtain ⟨gone, position, active⟩ := State.retireSpare_retired spare takes
    exact ⟨_, (exec_sliceDegrading runs beyond).trans (congrArg done (State.degradingSlice_spare spare)), gone, position,
      active⟩
  case active =>
    intro n k s hd runs spare beyond pos st present urgent
    refine ⟨_, ?_, s.plan_planned n ⟨k.val, true, false⟩, s.plan_slicePos n _ k.isLt⟩
    rw [exec_sliceDegrading runs beyond, State.degradingSlice_active spare, State.planRetire_eq pos st present urgent]
    exact (s.plan_evolves n _).done_eq (by decide) hd
  case arrived =>
    intro n s hd runs urgent spare training cal
    obtain ⟨p, urgent⟩ := Option.isSome_iff_exists.1 urgent
    obtain ⟨j, spare⟩ := Option.isSome_iff_exists.1 spare
    refine ⟨_, exec_substSpareArrived hd runs urgent spare training cal, ?_,
      State.setSpareState_spareState (k := j) spare (by decide)⟩
    simp only [State.spareArrived, State.setSpareState_line, State.modAdc_same]
  case handover =>
    intro n blocks p j s _ urgent spare runs task length training ne hk hp takes
    have hj := State.spare_lt spare
    refine ⟨_, exec_urgentSubstHandover urgent spare runs task length training, ?_, ?_, ?_, ?_, ?_⟩
    · rw [State.substituted_slicePos_ne _ n j p hj hk ne.symm, State.urgentTaken, State.modAdc_slicePos,
        s.takePosition_slicePos n _ hj (by omega)]
    · rw [(State.substituted_shows _ n _ _ _).slicePos hk, State.retiredGone_slicePos _ n hk]
    · rw [(State.substituted_shows _ n _ _ _).spare, State.spareGone_spare]
    · rw [State.substituted_urgent, State.urgentTaken, State.modAdc_same]
    · exact State.substituted_active ((s.urgentTaken_evolves n p j _).takes (by decide) (by decide) (by decide) takes) _ _ _
  case none =>
    intro n s hd planned
    exact ⟨s, by rw [exec_substRetry n hd, State.tryPlanned_idle planned], rfl⟩
  case retry =>
    intro n q k j s hd planned step runs task training urgent ready pos slice spare
    obtain ⟨trains, shown⟩ := State.trainSpare_trains spare slice
    refine ⟨_, ?_, trains, shown⟩
    rw [exec_substRetry n hd, State.tryPlanned_starts (by rw [planned]; rfl) step runs task
      (State.spareIdle_ready training urgent ready), State.startRotation_ready ready (State.rotationTarget_planned planned pos)]
  case detector =>
    rintro n slice _ s hd rfl
    exact ⟨_, exec_substReq_detector n slice hd, s.substNamed_slice n slice, s.setFld_regsBut _ _ _, rfl⟩
  case request =>
    rintro n slice _ s hd rfl hk pos st training urgent planned ready
    have state := s.fld_setFld_apart (lineBase n) (f := ADC_CTRL_SUBST_SLICE) slice.toNat
      (ofSlice_state.apart_above hk (by decide))
    have plans := State.substRequest_plans (s := s.substNamed n slice) (n := n) hk
      (by rwa [State.substNamed, State.setFld_slicePos _ _ _ hk (by decide)]) (state.trans st)
      (State.spareIdle_ready training urgent
        (by rw [State.spareState, State.substNamed, State.fld_setFld_apart _ _ _ (by decide)]; exact ready)) planned
    refine ⟨_, by rw [exec_substReq n slice hd, plans], State.plan_planned _ n _, ?_⟩
    rw [((State.plan_stepKept _ n _).front) _ (by decide), State.modAdc_fld]
    exact s.substNamed_slice n slice

end Sys2Proof.Machine
end

section
/-! The readouts of a line lane (O13).  SNR_PUBLISH writes the words that it publishes and what SNR_LOW is judged by, and then
raises at most once: the lane with these written is a state of its own, and the clauses read it back before and after the
raise. -/

namespace Sys2Proof.Machine

open Reg

/-! ### What is published fits its field (R106, R107) -/

theorem State.snrValue_lt (s : State) (n : Fin 8) (symbols : List RxSymbol) (err : Int) :
    s.snrValue n symbols err < 2 ^ 16 := by
  unfold State.snrValue snrField
  dsimp only
  split <;> exact satNat_lt 16 _

theorem eyePublished_lt (h err : Int) : eyePublished h err < 2 ^ 10 := satNat_lt 10 _

section
variable {s t u : State} {n : Fin 8} {symbols : List RxSymbol} {err : ReadoutError}

/-! ### The lane with its readouts published -/

/-- SNR_WARN in units of 0.01 dB (Table 4-9). -/
def State.snrWarn (s : State) (n : Fin 8) : Nat := 25 * s.fld (lineBase n) EQ_CTRL_SNR_WARN

/-- SNR_LOW has been raised, and the SNR has not been at SNR_WARN + 0.5 dB since (R108). -/
def State.snrHolds (s : State) (n : Fin 8) (v : Nat) : Bool := s.line[n].rx.snrHeld && decide (v < s.snrWarn n + 50)

/-- The words of the SNR and of the eye heights. -/
def State.eyesPublished (s : State) (n : Fin 8) (symbols : List RxSymbol) (err : ReadoutError) : State :=
  let b := lineBase n
  let l := s.counted n symbols
  let v := s.snrValue n symbols err.snr
  let min := s.fld b SNR_STAT_SNR_MIN
  ((((s.setFld b SNR_STAT_SNR v).setFld b SNR_STAT_SNR_MIN (if s.line[n].rx.snrMinFresh ∨ v < min then v else min)).setFld b
    EYE_STAT_EYE_UPPER (eyePublished (eyeHeight l 2) err.upper)).setFld b EYE_STAT_EYE_MID (eyePublished (eyeHeight l 1)
    err.mid)).setFld b EYE_STAT_EYE_LOWER (eyePublished (eyeHeight l 0) err.lower)

/-- The lane once its readouts are published and judged (R106 to R108). -/
def State.snrPublished (s : State) (n : Fin 8) (symbols : List RxSymbol) (err : ReadoutError) : State :=
  let v := s.snrValue n symbols err.snr
  ((s.eyesPublished n symbols err).setFlag (lineBase n) EQ_STATUS_SNR_LOW (decide (v < s.snrWarn n))).modRx n fun r =>
    { r with snrMinFresh := false, snrHeld := s.snrHolds n v || decide (v < s.snrWarn n) }

theorem State.snrPublished_evolves (s : State) (n : Fin 8) (symbols : List RxSymbol) (err : ReadoutError) :
    Evolves [.line, .lineRegs] s (s.snrPublished n symbols err) := by
  have set {t : State} (h : Evolves [.line, .lineRegs] s t) {f : Field} (v : Nat) (hf : f.off < 0x10000) :
      Evolves [.line, .lineRegs] s (t.setFld (lineBase n) f v) := State.setFld_evolves h (regPart_line hf (by decide))
  unfold State.snrPublished State.eyesPublished
  exact State.modRx_evolves (set (set (set (set (set (set (.refl _ s) _ (by decide)) _ (by decide)) _ (by decide)) _
    (by decide)) _ (by decide)) _ (by decide)) (by decide)

/-- With the SNR below SNR_WARN and the source not held, SNR_PUBLISH ends with a raise; otherwise without one. -/
theorem exec_snrPublish (symbols : List RxSymbol) (err : ReadoutError) (locked : s.locked n = true)
    (task : s.lineTask n taskSnr = true) : exec (.snrPublish n symbols err) s =
      let v := s.snrValue n symbols err.snr
      if v < s.snrWarn n ∧ s.snrHolds n v = false then
        done ((s.snrPublished n symbols err).raise (lineSrc n 0x42) v) else done (s.snrPublished n symbols err) := by
  show execSnrPublish n symbols err s = _
  rw [execSnrPublish, if_pos ⟨locked, task⟩]
  dsimp only
  exact if_congr (and_congr_right' (by rw [Bool.not_eq_true]; rfl)) rfl rfl

/-! ### What is read back -/

/-- What the words of the lane show of the symbols; its lock is as it was. -/
structure ReadoutsShown (n : Fin 8) (symbols : List RxSymbol) (err : ReadoutError) (s u : State) : Prop where
  snr : u.fld (lineBase n) SNR_STAT_SNR = s.snrValue n symbols err.snr
  upper : u.fld (lineBase n) EYE_STAT_EYE_UPPER = eyePublished (eyeHeight (s.counted n symbols) 2) err.upper
  mid : u.fld (lineBase n) EYE_STAT_EYE_MID = eyePublished (eyeHeight (s.counted n symbols) 1) err.mid
  lower : u.fld (lineBase n) EYE_STAT_EYE_LOWER = eyePublished (eyeHeight (s.counted n symbols) 0) err.lower
  low : u.flag (lineBase n) EQ_STATUS_SNR_LOW = decide (s.snrValue n symbols err.snr < s.snrWarn n)
  locked : u.locked n = s.locked n
  acqState : u.acqState n = s.acqState n

theorem State.snrPublished_fld (s : State) (n : Fin 8) (symbols : List RxSymbol) (err : ReadoutError) {g : Field}
    (h : g.Apart EQ_STATUS_SNR_LOW) : (s.snrPublished n symbols err).fld (lineBase n) g =
      (s.eyesPublished n symbols err).fld (lineBase n) g := by
  rw [State.snrPublished, State.modRx_fld, State.fld_setFlag_apart _ _ _ h]

theorem State.snrPublished_shown (s : State) (n : Fin 8) (symbols : List RxSymbol) (err : ReadoutError) :
    ReadoutsShown n symbols err s (s.snrPublished n symbols err) := by
  have snr (t : State) := t.setFld_same (f := SNR_STAT_SNR) (lineBase n) (by decide) (s.snrValue_lt n symbols err.snr)
  have upper (t : State) (h e : Int) := t.setFld_same (f := EYE_STAT_EYE_UPPER) (lineBase n) (by decide) (eyePublished_lt h e)
  have mid (t : State) (h e : Int) := t.setFld_same (f := EYE_STAT_EYE_MID) (lineBase n) (by decide) (eyePublished_lt h e)
  have lower (t : State) (h e : Int) := t.setFld_same (f := EYE_STAT_EYE_LOWER) (lineBase n) (by decide) (eyePublished_lt h e)
  constructor
  case low =>
    rw [State.snrPublished, State.flag, State.modRx_fld, ← State.flag]
    exact State.flag_setFlag_same _ _ _ (by decide) rfl
  case locked =>
    rw [State.locked, State.flag, State.snrPublished_fld _ _ _ _ (by decide)]
    simp (disch := decide) only [State.eyesPublished, State.fld_setFld_apart, State.locked, State.flag]
  case acqState =>
    rw [State.acqState, State.snrPublished_fld _ _ _ _ (by decide)]
    simp (disch := decide) only [State.eyesPublished, State.fld_setFld_apart, State.acqState]
  all_goals
    rw [State.snrPublished_fld _ _ _ _ (by decide)]
    simp (disch := decide) only [State.eyesPublished, State.fld_setFld_apart, snr, upper, mid, lower]

/-- The words stand through what writes none of the line lanes. -/
theorem ReadoutsShown.of_evolves {ps : List Part} (h : ReadoutsShown n symbols err s t) (k : Evolves ps t u)
    (hp : .lineRegs ∉ ps) : ReadoutsShown n symbols err s u := by
  have fld (f : Field) (hf : f.off < 0x10000) : u.fld (lineBase n) f = t.fld (lineBase n) f := k.lineFld hp n hf
  obtain ⟨snr, upper, mid, lower, low, locked, acqState⟩ := h
  refine ⟨(fld _ (by decide)).trans snr, (fld _ (by decide)).trans upper, (fld _ (by decide)).trans mid,
    (fld _ (by decide)).trans lower, ?_, ?_, (fld EQ_STATUS_ACQ_STATE (by decide)).trans acqState⟩
  · rw [State.flag, fld _ (by decide)]; exact low
  · rw [State.locked, State.flag, fld _ (by decide)]; exact locked

theorem State.snrPublished_held (s : State) (n : Fin 8) (symbols : List RxSymbol) (err : ReadoutError) :
    (s.snrPublished n symbols err).line[n].rx.snrHeld = (s.snrHolds n (s.snrValue n symbols err.snr) ||
      decide (s.snrValue n symbols err.snr < s.snrWarn n)) := by
  rw [State.snrPublished, State.modRx_same]

/-! ### SNR_LOW (R108) -/

/-- A source that is not held is raised below SNR_WARN. -/
theorem exec_snrPublish_raises (locked : s.locked n = true) (task : s.lineTask n taskSnr = true)
    (low : s.snrValue n symbols err.snr < s.snrWarn n) (free : s.line[n].rx.snrHeld = false) :
    exec (.snrPublish n symbols err) s =
      .next ((s.snrPublished n symbols err).raise (lineSrc n 0x42) (s.snrValue n symbols err.snr)).react := by
  rw [exec_snrPublish symbols err locked task]
  dsimp only
  rw [if_pos ⟨low, by rw [State.snrHolds, free, Bool.false_and]⟩, done]

/-- A source that is held, or an SNR that is not below SNR_WARN, is not raised. -/
theorem exec_snrPublish_silent (hd : s.noneDue) (locked : s.locked n = true) (task : s.lineTask n taskSnr = true)
    (h : s.snrHolds n (s.snrValue n symbols err.snr) = true ∨ s.snrWarn n ≤ s.snrValue n symbols err.snr) :
    exec (.snrPublish n symbols err) s = .next (s.snrPublished n symbols err) := by
  rw [exec_snrPublish symbols err locked task]
  dsimp only
  rw [if_neg, (s.snrPublished_evolves n symbols err).done_eq (by decide) hd]
  rintro ⟨low, free⟩
  exact h.elim (fun held => absurd (held.symm.trans free) (by decide)) (Nat.not_le.mpr low)

/-- The raise shows the readouts as they were published, and the source as active. -/
theorem State.snrRaised_shown (s : State) (n : Fin 8) (symbols : List RxSymbol) (err : ReadoutError) (detail : Nat) :
    ReadoutsShown n symbols err s ((s.snrPublished n symbols err).raise (lineSrc n 0x42) detail) :=
  (s.snrPublished_shown n symbols err).of_evolves (State.raise_evolves (ps := raiseParts) (.refl _ _) (by decide)) (by decide)

theorem State.snrRaised_active (takes : s.takes (lineSrc n 0x42) (s.snrValue n symbols err.snr)) :
    ((s.snrPublished n symbols err).raise (lineSrc n 0x42) (s.snrValue n symbols err.snr)).isActive (lineSrc n 0x42) :=
  State.raise_isActive_of_takes ((s.snrPublished_evolves n symbols err).takes (by decide) (by decide) (by decide) takes)
    (s.snrValue_lt n symbols err.snr)

theorem State.raise_line (s : State) (src detail : Nat) : (s.raise src detail).line = s.line :=
  (State.raise_evolves (ps := raiseParts) (.refl _ s) (by decide)).only .line (by decide)

end

theorem srcSeverity_snrLow (n : Fin 8) : srcSeverity (lineSrc n 0x42) = some 0 := by revert n; decide

/-- Settles O13, by the three ways in which the published SNR and the hold meet (R108). -/
theorem signalQualityWarning : Obligations.SignalQualityWarning := by
  unfold Obligations.SignalQualityWarning
  refine ⟨?raises, ?held, ?released⟩
  case raises =>
    rintro n symbols err v s _ locked task rfl low free takes
    have shown := s.snrRaised_shown n symbols err (s.snrValue n symbols err.snr)
    refine ⟨_, exec_snrPublish_raises locked task low free, ⟨_, rfl, (s.snrPublished_evolves n symbols err).only .fuse
      (by decide)⟩, shown.snr, srcSeverity_snrLow n, State.snrRaised_active takes, ?_, shown.locked.trans locked,
      shown.acqState⟩
    rw [State.raise_line, State.snrPublished_held, show decide (_ < s.snrWarn n) = true from decide_eq_true low, Bool.or_true]
  case held =>
    rintro n symbols err v s hd locked task rfl below held
    have holds : s.snrHolds n (s.snrValue n symbols err.snr) = true := by
      rw [State.snrHolds, held, Bool.true_and]; exact decide_eq_true below
    have shown := s.snrPublished_shown n symbols err
    refine ⟨_, exec_snrPublish_silent hd locked task (.inl holds), shown.snr, (s.snrPublished_evolves n symbols err).only
      .fuse (by decide), ?_, shown.locked.trans locked⟩
    rw [State.snrPublished_held, holds, Bool.true_or]
  case released =>
    rintro n symbols err v s hd locked task rfl above
    have high : s.snrWarn n + 50 ≤ s.snrValue n symbols err.snr := above
    have shown := s.snrPublished_shown n symbols err
    refine ⟨_, exec_snrPublish_silent hd locked task (.inr (by omega)), shown.snr, (s.snrPublished_evolves n symbols err).only
      .fuse (by decide), ?_, shown.locked.trans locked⟩
    rw [State.snrPublished_held, State.snrHolds, decide_eq_false (Nat.not_lt.mpr high), decide_eq_false (by omega),
      Bool.and_false, Bool.or_false]

end Sys2Proof.Machine
end

section
/-! Equaliser, timing loop, MLSE levels and canceller of a line lane (O33).  The taps and the levels are updates of a list of
registers, each under the task that holds it: the first part says what such a list leaves of one register, and that the
writes do not decide which tasks run.  The canceller's clauses are the cases of a swap request and the end of a fade. -/

namespace Sys2Proof.Machine

open Reg

/-! ### One member of a list of updates -/

/-- Up to the update of `x` the others keep `Q`; that update turns it into `R`, which the others keep from there on. -/
theorem State.each_once {α : Type} {f : α → State → State} {Q R : State → Prop} {x : α} {l : List α}
    (nodup : l.Nodup) (hx : x ∈ l) (before : ∀ y ∈ l, y ≠ x → ∀ s, Q s → Q (f y s)) (own : ∀ s, Q s → R (f x s))
    (after : ∀ y ∈ l, y ≠ x → ∀ s, R s → R (f y s)) {s : State} (start : Q s) : R (s.each l f) := by
  induction l generalizing s with
  | nil => exact absurd hx List.not_mem_nil
  | cons a l ih =>
    obtain ⟨fresh, nodup⟩ := List.nodup_cons.1 nodup
    by_cases e : a = x
    · subst e
      exact State.each_keeps_mem (s := f a s) (fun y hy => after y (List.mem_cons_of_mem _ hy) fun e => fresh (e ▸ hy))
        (own s start)
    · exact ih nodup ((List.mem_cons.1 hx).resolve_left (Ne.symm e)) (fun y hy => before y (List.mem_cons_of_mem _ hy))
        (fun y hy => after y (List.mem_cons_of_mem _ hy)) (before a List.mem_cons_self e s start)

/-- Two registers of a window share no bit. -/
theorem Field.ix_apart {f : Field} {j k : Nat} (hj : f.off + f.stride * j < 0x10000) (hk : f.off + f.stride * k < 0x10000)
    (stride : f.stride ≠ 0) (ne : j ≠ k) : (f.ix j).Apart (f.ix k) := by
  refine .inl fun e => ne ?_
  simp only [Field.ix, Nat.mod_eq_of_lt hj, Nat.mod_eq_of_lt hk] at e
  exact Nat.eq_of_mul_eq_mul_left (Nat.pos_of_ne_zero stride) (Nat.add_left_cancel e)

/-! ### Values on a signed grid -/

theorem satInt_bounds (width : Nat) (v : Int) :
    -2 ^ (width - 1) ≤ satInt width v ∧ satInt width v < 2 ^ (width - 1) := by
  have : (0 : Int) < 2 ^ (width - 1) := by positivity
  unfold satInt
  split_ifs <;> omega

/-- A value within the range of a signed field reads back from its bits. -/
theorem bitsInt_intBits {width : Nat} (hw : 0 < width) {v : Int} (lo : -2 ^ (width - 1) ≤ v) (hi : v < 2 ^ (width - 1)) :
    bitsInt width (intBits width v) = v := by
  obtain ⟨k, rfl⟩ : ∃ k, width = k + 1 := ⟨width - 1, by omega⟩
  have pos : (0 : Int) < 2 ^ k := by positivity
  have double : (2 : Int) ^ (k + 1) = 2 * 2 ^ k := by ring
  have lt := intBits_lt (k + 1) v
  have bits : ((intBits (k + 1) v : Nat) : Int) = v % (2 * 2 ^ k) := by
    rw [intBits, Int.toNat_of_nonneg (Int.emod_nonneg v (by positivity)), double]
  rw [Nat.add_sub_cancel] at lo hi
  have cast : ((2 ^ (k + 1) : Nat) : Int) = 2 * 2 ^ k := by push_cast; ring
  have half : intBits (k + 1) v < 2 ^ k ↔ v % (2 * 2 ^ k) < 2 ^ k := by
    rw [← bits, ← Nat.cast_lt (α := Int)]; push_cast; rfl
  rw [bitsInt, Nat.mod_eq_of_lt lt, Nat.add_sub_cancel, cast, bits]
  rcases Int.lt_or_le v 0 with neg | nonneg
  · have wrapped : v % (2 * 2 ^ k) = v + 2 * 2 ^ k := by
      rw [← Int.add_emod_right, Int.emod_eq_of_lt (by omega) (by omega)]
    rw [if_neg (by rw [half, wrapped]; omega), wrapped]
    omega
  · have same : v % (2 * 2 ^ k) = v := Int.emod_eq_of_lt nonneg (by omega)
    rw [if_pos (by rw [half, same]; exact hi), same]

/-! ### The tasks that run -/

section
variable {ps : List Part} {s t : State}

/-- Which tasks of a room run is decided by the domains, the memories, a deep test, the Fuse Box and the rooms (R14, R17). -/
theorem Evolves.taskRuns (h : Evolves ps s t) (hf : .fuse ∉ ps) (hr : .rooms ∉ ps) (ht : .test ∉ ps) (hp : .powerRegs ∉ ps)
    (hm : .memProtRegs ∉ ps) (r k : Nat) : t.taskRuns r k = s.taskRuns r k := by
  have fuse : t.fuse = s.fuse := h.only .fuse hf
  have rooms : t.rooms = s.rooms := h.only .rooms hr
  have memory (f : Field) (hf : f.off < 0x10000) : t.fld memProtBase f = s.fld memProtBase f := h.fld fun m => hm (by
    have := regPart_memProt hf (List.Subset.refl [Part.memProtRegs])
    rwa [List.mem_singleton.1 (this (List.mem_singleton_self _))] at m)
  have on (d : Nat) : t.domOn d = s.domOn d := by
    rw [State.domOn, h.fld fun m => hp (by
      have := regPart_power (Field.ix_lt DOM_STATE d) (List.Subset.refl [Part.powerRegs])
      rwa [List.mem_singleton.1 (this (List.mem_singleton_self _))] at m), State.domOn]
  have lost (b : Nat) : t.retLost b = s.retLost b := by
    rw [State.retLost, memory _ (Field.ix_lt _ _), State.retLost]
  have bank (b : Nat) : t.bankDomain b = s.bankDomain b := by
    unfold State.bankDomain State.flag
    rw [memory BANK_MAP_ENGINE_USED (by decide), memory BANK_MAP_ENGINE_FOR (by decide)]
  simp only [State.taskRuns, State.roomRuns, State.roomUp, State.roomMemoryLost, State.taskHeld, on, h.deepHolds ht hm, lost,
    bank, fuse, rooms]

/-- The words of a lane do not decide which of its tasks run. -/
theorem Evolves.lineTask (h : Evolves [.line, .lineRegs] s t) (n : Fin 8) (k : Nat) : t.lineTask n k = s.lineTask n k :=
  h.taskRuns (by decide) (by decide) (by decide) (by decide) (by decide) _ k

end

/-! ### A window of the FFE (R83, R14) -/

section
variable {s : State} {n : Fin 8}

theorem tapRange_le (profile : Nat) : (tapRange profile).1 + (tapRange profile).2 ≤ 64 := by
  unfold tapRange; split_ifs <;> decide

theorem withoutShift_length {d g : List Rat} (h : g.length = d.length) : (withoutShift d g).length = d.length := by
  unfold withoutShift
  split
  · rfl
  · simp [h]

theorem State.ffeUpdate_length (s : State) (n : Fin 8) (symbols : List RxSymbol) :
    (s.ffeUpdate n symbols).length = (tapRange (s.laneProfile n)).2 := by
  have taps : (s.ffeCoefs n).length = (tapRange (s.laneProfile n)).2 := by simp [State.ffeCoefs]
  unfold State.ffeUpdate
  dsimp only
  rw [List.length_zipWith, withoutShift_length (by simp [tapDerivative])]
  simp [taps]

/-- A tap takes its new value while its task runs. -/
def State.tapMoved (s : State) (n : Fin 8) (first : Nat) (e : Int × Nat) : State :=
  s.when (s.lineTask n (taskFfe (first + e.2))) fun s =>
    s.setFld (lineBase n) (FFE_TAP_COEF.ix (first + e.2)) (intBits 12 e.1)

/-- The taps after a window. -/
def State.tapsMoved (s : State) (n : Fin 8) (symbols : List RxSymbol) : State :=
  s.each (s.ffeUpdate n symbols).zipIdx fun e t => t.tapMoved n (tapRange (s.laneProfile n)).1 e

theorem State.tapMoved_evolves {t : State} (h : Evolves [.lineRegs] s t) (n : Fin 8) (first : Nat) (e : Int × Nat) :
    Evolves [.lineRegs] s (t.tapMoved n first e) :=
  .when h fun _ k => State.setFld_evolves k (regPart_line (Field.ix_lt _ _) (by decide))

theorem State.tapsMoved_evolves (s : State) (n : Fin 8) (symbols : List RxSymbol) :
    Evolves [.lineRegs] s (s.tapsMoved n symbols) :=
  .each (.refl _ s) fun e _ h => State.tapMoved_evolves h n _ e

theorem exec_ffeWindow (symbols : List RxSymbol) (hd : s.noneDue) (st : 4 ≤ s.acqState n)
    (clocks : s.line[n].rx.clocksStopped = false) (freeze : s.flag (lineBase n) EQ_CTRL_FFE_FREEZE = false) :
    exec (.ffeWindow n symbols) s = .next (s.tapsMoved n symbols) := by
  show execFfeWindow n symbols s = _
  rw [execFfeWindow, clocks, freeze, if_pos ⟨st, by decide, by decide⟩]
  exact (s.tapsMoved_evolves n symbols).done_eq (by decide) hd

theorem exec_ffeWindow_held (symbols : List RxSymbol) (h : s.acqState n < 4 ∨ s.line[n].rx.clocksStopped = true ∨
    s.flag (lineBase n) EQ_CTRL_FFE_FREEZE = true) : exec (.ffeWindow n symbols) s = .next s := by
  show execFfeWindow n symbols s = _
  refine if_neg ?_
  rintro ⟨st, clocks, freeze⟩
  rcases h with low | stopped | frozen
  · omega
  · exact clocks stopped
  · exact freeze frozen

theorem State.tapMoved_other {first i j : Nat} (hi : first + i < 64) (hj : first + j < 64) (ne : i ≠ j) (v : Int) (t : State) :
    (t.tapMoved n first (v, j)).fld (lineBase n) (FFE_TAP_COEF.ix (first + i)) =
      t.fld (lineBase n) (FFE_TAP_COEF.ix (first + i)) := by
  unfold State.tapMoved State.when
  split
  · exact t.fld_setFld_apart _ _ (Field.ix_apart (by simp only [FFE_TAP_COEF]; omega) (by simp only [FFE_TAP_COEF]; omega)
      (by decide) (by omega))
  · rfl

/-- Each tap of a range takes its value under its task, and no other does (R83, R100). -/
theorem State.each_tapMoved {l : List Int} {first i : Nat} (hi : i < l.length) (range : first + l.length ≤ 64) :
    (s.each l.zipIdx fun e t => t.tapMoved n first e).fld (lineBase n) (FFE_TAP_COEF.ix (first + i)) =
      if s.lineTask n (taskFfe (first + i)) then intBits 12 (l.getD i 0)
      else s.fld (lineBase n) (FFE_TAP_COEF.ix (first + i)) := by
  have mem : (l.getD i 0, i) ∈ l.zipIdx := by
    rw [List.mk_mem_zipIdx_iff_getElem?, List.getD_eq_getElem _ _ hi, List.getElem?_eq_getElem hi]
  have others (e : Int × Nat) (he : e ∈ l.zipIdx) (ne : e ≠ (l.getD i 0, i)) (t : State) :
      (t.tapMoved n first e).fld (lineBase n) (FFE_TAP_COEF.ix (first + i)) =
        t.fld (lineBase n) (FFE_TAP_COEF.ix (first + i)) := by
    obtain ⟨v, j⟩ := e
    have value := List.mk_mem_zipIdx_iff_getElem?.1 he
    have hj : j < l.length := (List.getElem?_eq_some_iff.1 value).1
    exact State.tapMoved_other (by omega) (by omega) (fun e => ne (by rw [e, List.getD_eq_getElem?_getD, value]; rfl)) v t
  refine State.each_once (Q := fun t => Evolves [.lineRegs] s t ∧ t.fld (lineBase n) (FFE_TAP_COEF.ix (first + i)) =
    s.fld (lineBase n) (FFE_TAP_COEF.ix (first + i))) (.of_map Prod.snd (List.nodup_zipIdx_map_snd l)) mem
    (fun e he ne t ⟨k, h⟩ => ⟨State.tapMoved_evolves k n first e, (others e he ne t).trans h⟩) (fun t ⟨k, h⟩ => ?_)
    (fun e he ne t h => (others e he ne t).trans h) ⟨.refl _ s, rfl⟩
  rw [State.tapMoved, State.when, Evolves.lineTask (k.mono (by decide))]
  split
  · exact t.setFld_same (lineBase n) (f := FFE_TAP_COEF.ix (first + i))
      (show FFE_TAP_COEF.lo + FFE_TAP_COEF.width ≤ 32 by decide) (intBits_lt 12 _)
  · exact h

theorem State.tapsMoved_tap {symbols : List RxSymbol} {i : Nat} (hi : i < (tapRange (s.laneProfile n)).2) :
    (s.tapsMoved n symbols).fld (lineBase n) (FFE_TAP_COEF.ix ((tapRange (s.laneProfile n)).1 + i)) =
      if s.lineTask n (taskFfe ((tapRange (s.laneProfile n)).1 + i)) then intBits 12 ((s.ffeUpdate n symbols).getD i 0)
      else s.fld (lineBase n) (FFE_TAP_COEF.ix ((tapRange (s.laneProfile n)).1 + i)) := by
  have range := tapRange_le (s.laneProfile n)
  have count := s.ffeUpdate_length n symbols
  exact State.each_tapMoved (by rwa [count]) (by rwa [count])

/-! ### The timing loop (R86, R87) -/

/-- The rotator turned and the frequency word written. -/
def State.loopTurned (s : State) (n : Fin 8) (turn word : Int) : State :=
  ((s.rotHold n).modRx n fun r => { r with rotPhase := r.rotPhase + turn, freqWord := word }).setFld (lineBase n)
    TR_STATUS_FREQ_OFFSET (intBits 16 (quantise ((word : Rat) * 2 / 5)))

theorem State.loopTurned_evolves (s : State) (n : Fin 8) (turn word : Int) :
    Evolves [.line, .lineRegs] s (s.loopTurned n turn word) :=
  State.setFld_evolves (State.modRx_evolves (State.rotHold_evolves (.refl _ s) (by decide)) (by decide))
    (regPart_line (by decide) (by decide))

theorem exec_timingUpdate (o : TimingObs) (hd : s.noneDue) (st : 2 ≤ s.acqState n)
    (clocks : s.line[n].rx.clocksStopped = false) (task : s.lineTask n taskTiming = true) : exec (.timingUpdate n o) s =
      .next (s.loopTurned n (quantise (Config.loopGain (s.loopBandwidth n o.settled) false * s.phaseError n o))
        (max (-50000) (min 50000 (s.line[n].rx.freqWord + quantise (Config.loopGain (s.loopBandwidth n o.settled) true *
          s.phaseError n o))))) := by
  show execTimingUpdate n o s = _
  rw [execTimingUpdate, clocks, task, if_pos ⟨st, by decide, rfl⟩]
  exact (s.loopTurned_evolves n _ _).done_eq (by decide) hd

theorem State.loopTurned_rx (s : State) (n : Fin 8) (turn word : Int) : (s.loopTurned n turn word).line[n].rx =
    { s.line[n].rx with rotPhase := s.rotPhase n + turn, phaseTick := s.tick, freqWord := word } := by
  simp only [State.loopTurned, State.setFld_other, State.modRx_same, State.rotHold]

theorem State.loopTurned_regsBut (s : State) (n : Fin 8) (turn word : Int) :
    RegsBut [lineBase n + TR_STATUS_FREQ_OFFSET.off] s (s.loopTurned n turn word) :=
  State.setFld_regsBut ((s.rotHold n).modRx n _) _ _ _

/-! ### The MLSE levels (R94, R95) -/

/-- A level takes its new value while its task runs; one that no symbol was decided with keeps its own. -/
def State.levelMoved (old s : State) (n : Fin 8) (l : List RxSymbol) (j : Nat) : State :=
  match old.levelAfter n l j with
  | some v => s.when (old.lineTask n (taskLevel j)) fun s => s.setFld (lineBase n) (MLSE_LEVEL_LEVEL.ix j) (intBits 12 v)
  | none => s

/-- The levels and the estimate of the variance after 16 windows. -/
def State.levelsMoved (s : State) (n : Fin 8) (l : List RxSymbol) : State :=
  (s.each (List.range 64) fun j t => s.levelMoved t n l j).when (l != [] && s.lineTask n (taskLevel 0)) fun t =>
    t.modRx n fun r => { r with sigma2 := r.sigma2 + Config.sigmaGain * (s.errorVariance n l - r.sigma2) }

theorem State.levelMoved_evolves {t : State} (h : Evolves [.lineRegs] s t) (n : Fin 8) (l : List RxSymbol) (j : Nat) :
    Evolves [.lineRegs] s (s.levelMoved t n l j) := by
  unfold State.levelMoved
  split
  · exact .when h fun _ k => State.setFld_evolves k (regPart_line (Field.ix_lt _ _) (by decide))
  · exact h

theorem State.levels_evolves (s : State) (n : Fin 8) (l : List RxSymbol) :
    Evolves [.lineRegs] s (s.each (List.range 64) fun j t => s.levelMoved t n l j) :=
  .each (.refl _ s) fun j _ h => State.levelMoved_evolves h n l j

theorem State.levelsMoved_evolves (s : State) (n : Fin 8) (l : List RxSymbol) :
    Evolves [.line, .lineRegs] s (s.levelsMoved n l) :=
  .when ((s.levels_evolves n l).mono (by decide)) fun _ k => State.modRx_evolves k (by decide)

theorem exec_mlseLevelUpdate (symbols : List RxSymbol) (hd : s.noneDue) (st : 5 ≤ s.acqState n)
    (clocks : s.line[n].rx.clocksStopped = false) (freeze : s.flag (lineBase n) EQ_CTRL_LEVEL_FREEZE = false) :
    exec (.mlseLevelUpdate n symbols) s = .next (s.levelsMoved n (s.counted n symbols)) := by
  show execMlseLevelUpdate n symbols s = _
  rw [execMlseLevelUpdate, clocks, freeze, if_pos ⟨st, by decide, by decide⟩]
  exact (s.levelsMoved_evolves n _).done_eq (by decide) hd

theorem State.mlseLevel_of_fld {t : State} {j : Nat}
    (h : t.fld (lineBase n) (MLSE_LEVEL_LEVEL.ix j) = s.fld (lineBase n) (MLSE_LEVEL_LEVEL.ix j)) :
    t.mlseLevel n j = s.mlseLevel n j := by rw [State.mlseLevel, h, State.mlseLevel]

theorem State.levelAfter_bounds {l : List RxSymbol} {j : Nat} {v : Int} (h : s.levelAfter n l j = some v) :
    -2 ^ (12 - 1) ≤ v ∧ v < 2 ^ (12 - 1) := by
  unfold State.levelAfter at h
  dsimp only at h
  split at h
  · cases h
  · cases h
    exact satInt_bounds 12 _

theorem State.levelsMoved_level (l : List RxSymbol) (j : Fin 64) : (s.levelsMoved n l).mlseLevel n j.val =
    if s.lineTask n (taskLevel j.val) then (s.levelAfter n l j.val).getD (s.mlseLevel n j.val) else s.mlseLevel n j.val := by
  have variance (t : State) (c : Bool) (f : LineRx → LineRx) :
      (t.when c fun t => t.modRx n f).mlseLevel n j.val = t.mlseLevel n j.val := by
    cases c
    · rfl
    · exact State.mlseLevel_of_fld (t.modRx_fld n f _ _)
  have others (k : Nat) (hk : k ∈ List.range 64) (ne : k ≠ j.val) (t : State) :
      (s.levelMoved t n l k).mlseLevel n j.val = t.mlseLevel n j.val := by
    rw [List.mem_range] at hk
    unfold State.levelMoved State.when
    split
    · split
      · exact State.mlseLevel_of_fld (t.fld_setFld_apart _ _ (Field.ix_apart (by simp only [MLSE_LEVEL_LEVEL]; omega)
          (by simp only [MLSE_LEVEL_LEVEL]; omega) (by decide) ne.symm))
      · rfl
    · rfl
  rw [State.levelsMoved, variance]
  refine State.each_once (Q := fun t => t.mlseLevel n j.val = s.mlseLevel n j.val) List.nodup_range (List.mem_range.2 j.isLt)
    (fun k hk ne t h => (others k hk ne t).trans h) (fun t h => ?_) (fun k hk ne t h => (others k hk ne t).trans h) rfl
  unfold State.levelMoved State.when
  split
  · next v moved =>
    obtain ⟨lo, hi⟩ := State.levelAfter_bounds moved
    rw [moved, Option.getD_some]
    split
    · have written := t.setFld_same (lineBase n) (f := MLSE_LEVEL_LEVEL.ix j.val)
        (show MLSE_LEVEL_LEVEL.lo + MLSE_LEVEL_LEVEL.width ≤ 32 by decide) (intBits_lt 12 v)
      rw [State.mlseLevel, written, bitsInt_intBits (by decide) lo hi]
    · exact h
  · next still => rw [still, Option.getD_none, ite_self, h]

theorem State.levelsMoved_sigma2 {l : List RxSymbol} (some : l ≠ []) (task : s.lineTask n (taskLevel 0) = true) :
    (s.levelsMoved n l).line[n].rx.sigma2 = s.line[n].rx.sigma2 + Config.sigmaGain * (s.errorVariance n l -
      s.line[n].rx.sigma2) := by
  have line : (s.each (List.range 64) fun j t => s.levelMoved t n l j).line = s.line :=
    (s.levels_evolves n l).only .line (by decide)
  rw [State.levelsMoved, State.when, if_pos (by simp [some, task]), State.modRx_same, line]

/-! ### Registers but some -/

theorem RegsBut.setFld {as : List Nat} {t : State} (h : RegsBut as s t) {base : Nat} {f : Field} (v : Nat)
    (hf : base + f.off ∈ as) : RegsBut as s (t.setFld base f v) := fun a ha =>
  (t.setFld_regsBut base f v a (fun hm => ha (List.mem_singleton.1 hm ▸ hf))).trans (h a ha)

theorem RegsBut.of_regs {as : List Nat} {t u : State} (h : RegsBut as s t) (k : u.regs = t.regs) : RegsBut as s u :=
  fun a ha => (State.reg_of_regs k a).trans (h a ha)

theorem State.modLinkOf_fld (s : State) (k : Fin 8) (f : LaneLink → LaneLink) (base : Nat) (g : Field) :
    (s.modLinkOf k f).fld base g = s.fld base g := by rw [State.fld_eq, State.fld_eq, State.modLinkOf_regs]

theorem State.modPantry_fld (s : State) (k : Fin 8) (f : PantryLane → PantryLane) (base : Nat) (g : Field) :
    (s.modPantry k f).fld base g = s.fld base g := by simp only [State.fld_eq, State.modPantry_other]

/-! ### A swap request of the canceller (R90 to R93) -/

/-- What a canceller operation that raises nothing changes. -/
def nlcParts : List Part := [.line, .tamid, .pantry, .lineRegs, .tamidRegs, .pantryRegs]

theorem State.nlcHostSwap_busy (h : s.fadeBusy n nlcRegs = true ∨ s.changeWaits n = true) :
    s.nlcHostSwap n = s.bump (lineBase n) NLC_STATUS_BUSY_COUNT := by
  unfold State.nlcHostSwap State.fadeRequest
  exact if_pos (by simpa only [Bool.or_eq_true] using h)

/-- A request that is not rejected flips the banks, starts a fade, or waits for the lock. -/
theorem State.nlcHostSwap_taken (busy : s.fadeBusy n nlcRegs = false) (waits : s.changeWaits n = false) :
    s.nlcHostSwap n = if s.nlcInUse n = false then s.fadeFinish n nlcRegs
      else if s.locked n then s.fadeBegin n nlcRegs else s.setFlag (lineBase n) NLC_STATUS_FADE_PENDING true := by
  unfold State.nlcHostSwap State.fadeRequest
  dsimp only
  rw [busy, waits, if_neg (by decide)]
  exact if_congr (iff_of_eq (Bool.not_eq_true' _)) rfl rfl

theorem exec_nlcSwap (n : Fin 8) (hd : s.noneDue) : exec (.nlcSwap n false) s = .next (s.nlcHostSwap n) :=
  (State.nlcHostSwap_evolves (.refl nlcParts s) (by decide)).done_eq (by decide) hd

theorem exec_nlcEngineSwap (hd : s.noneDue) (task : s.taskRuns 14 (taskInstall n) = true) : exec (.nlcEngineSwap n) s =
    .next ((s.nlcHostSwap n).modPantry n fun l => { l with swapBusy := s.fadeBusy n nlcRegs || s.changeWaits n }) := by
  show execNlcEngineSwap n s = _
  rw [execNlcEngineSwap, if_pos task]
  exact (State.modPantry_evolves (State.nlcHostSwap_evolves (.refl nlcParts s) (by decide)) (by decide)).done_eq (by decide) hd

/-- Neither a running nor a pending fade. -/
theorem State.fadeBusy_eq_false : s.fadeBusy n nlcRegs = false ↔ s.flag (lineBase n) NLC_STATUS_FADING = false ∧
    s.flag (lineBase n) NLC_STATUS_FADE_PENDING = false := Bool.or_eq_false_iff

/-! ### A fade starts, and stops -/

theorem State.fadeBegin_fld (s : State) (n : Fin 8) {g : Field} (h : g.Apart NLC_STATUS_FADING) :
    (s.fadeBegin n nlcRegs).fld (lineBase n) g = s.fld (lineBase n) g := by
  rw [State.fadeBegin, State.modLinkOf_fld]
  exact s.fld_setFlag_apart _ _ h

theorem State.fadeBegin_fading (s : State) (n : Fin 8) :
    (s.fadeBegin n nlcRegs).flag (lineBase n) NLC_STATUS_FADING = true := by
  rw [State.fadeBegin, State.flag, State.modLinkOf_fld]
  exact s.flag_setFlag_same _ true (by decide) rfl

theorem State.fadeBegin_regsBut (s : State) (n : Fin 8) :
    RegsBut [lineBase n + NLC_STATUS_FADING.off] s (s.fadeBegin n nlcRegs) :=
  RegsBut.of_regs (s.setFld_regsBut _ NLC_STATUS_FADING 1) (State.modLinkOf_regs _ _ _)

/-- The canceller's words once a fade has stopped, before its raise. -/
def State.fadeHalted (s : State) (n : Fin 8) : State :=
  ((s.setFlag (lineBase n) NLC_STATUS_FADING false).setFlag (lineBase n) NLC_STATUS_FADE_PENDING true).bump (lineBase n)
    NLC_STATUS_FADE_RESTARTS

theorem State.fadeStop_halts (fading : s.flag (lineBase n) NLC_STATUS_FADING = true) : s.fadeStop n nlcRegs =
    (s.fadeHalted n).raise (lineSrc n 0x43) (1 - s.fld (lineBase n) NLC_STATUS_ACTIVE_BANK) := by
  unfold State.fadeStop
  exact if_pos fading

theorem State.fadeHalted_evolves {t : State} (h : Evolves [.line, .lineRegs] s t) (n : Fin 8) :
    Evolves [.line, .lineRegs] s (t.fadeHalted n) :=
  State.bump_evolves (State.setFlag_evolves (State.setFlag_evolves h (regPart_line (by decide) (by decide)))
    (regPart_line (by decide) (by decide))) (regPart_line (by decide) (by decide))

theorem State.raise_lineFlag (s : State) (src detail : Nat) (n : Fin 8) {f : Field} (hf : f.off < 0x10000) :
    (s.raise src detail).flag (lineBase n) f = s.flag (lineBase n) f := by
  rw [State.flag, (State.raise_evolves (ps := raiseParts) (.refl _ s) (by decide)).lineFld (by decide) n hf, State.flag]

theorem State.fadeHalted_flags (s : State) (n : Fin 8) : (s.fadeHalted n).flag (lineBase n) NLC_STATUS_FADING = false ∧
    (s.fadeHalted n).flag (lineBase n) NLC_STATUS_FADE_PENDING = true := by
  constructor <;> rw [State.fadeHalted, State.flag, State.fld_bump_apart _ _ (by decide), ← State.flag]
  · rw [State.flag_setFlag_apart _ _ _ (by decide)]
    exact s.flag_setFlag_same _ _ (by decide) rfl
  · exact State.flag_setFlag_same _ _ _ (by decide) rfl

/-! ### A fade ends (R90, R93) -/

/-- The lane with the other bank in force and no fade, before room 14 takes note of it. -/
def State.bankFlipped (s : State) (n : Fin 8) : State :=
  ((s.setFld (lineBase n) NLC_STATUS_ACTIVE_BANK (1 - s.fld (lineBase n) NLC_STATUS_ACTIVE_BANK)).setFlag (lineBase n)
    NLC_STATUS_FADING false).setFlag (lineBase n) NLC_STATUS_FADE_PENDING false

theorem State.fadeFinish_fld (s : State) (n : Fin 8) {g : Field} (h : g.off < 0x10000) :
    (s.fadeFinish n nlcRegs).fld (lineBase n) g = (s.bankFlipped n).fld (lineBase n) g :=
  Evolves.lineFld (State.installDone_evolves (ps := [.tamid, .pantry, .tamidRegs, .pantryRegs]) (.refl _ (s.bankFlipped n))
    nlcRegs_inBlock (by decide)) (by decide) n h

/-- What the end of a fade shows. -/
structure FadeEnded (n : Fin 8) (s t : State) : Prop where
  bank : t.fld (lineBase n) NLC_STATUS_ACTIVE_BANK = 1 - s.fld (lineBase n) NLC_STATUS_ACTIVE_BANK
  fading : t.flag (lineBase n) NLC_STATUS_FADING = false
  pending : t.flag (lineBase n) NLC_STATUS_FADE_PENDING = false
  other : ∀ g : Field, g.off < 0x10000 → g.off ≠ NLC_STATUS_FADING.off → t.fld (lineBase n) g = s.fld (lineBase n) g

theorem State.fadeFinish_ended (s : State) (n : Fin 8) : FadeEnded n s (s.fadeFinish n nlcRegs) := by
  refine ⟨?_, ?_, ?_, fun g lt ne => ?_⟩
  · rw [s.fadeFinish_fld n (by decide), State.bankFlipped, State.fld_setFlag_apart _ _ _ (by decide),
      State.fld_setFlag_apart _ _ _ (by decide)]
    exact State.setFld_same _ _ (by decide) (show 1 - _ < 2 by omega)
  · rw [State.flag, s.fadeFinish_fld n (by decide), State.bankFlipped, State.fld_setFlag_apart _ _ _ (by decide), ← State.flag]
    exact State.flag_setFlag_same _ _ _ (by decide) rfl
  · rw [State.flag, s.fadeFinish_fld n (by decide), State.bankFlipped, ← State.flag]
    exact State.flag_setFlag_same _ _ _ (by decide) rfl
  · rw [s.fadeFinish_fld n lt, State.bankFlipped, State.fld_setFlag_apart (f := NLC_STATUS_FADE_PENDING) _ _ _ (.inl ne),
      State.fld_setFlag_apart (f := NLC_STATUS_FADING) _ _ _ (.inl ne),
      State.fld_setFld_apart (f := NLC_STATUS_ACTIVE_BANK) _ _ _ (.inl ne)]

theorem exec_nlcFadeComplete (hd : s.noneDue) (fading : s.flag (lineBase n) NLC_STATUS_FADING = true) :
    exec (.nlcFadeComplete n) s = .next (s.fadeFinish n nlcRegs) := by
  show execNlcFadeComplete n s = _
  rw [execNlcFadeComplete, if_pos fading]
  exact (State.fadeFinish_evolves (.refl nlcParts s) nlcRegs_inBlock (by decide)).done_eq (by decide) hd

theorem exec_nlcFadeResume (hd : s.noneDue) (locked : s.locked n = true)
    (pending : s.flag (lineBase n) NLC_STATUS_FADE_PENDING = true) : exec (.nlcFadeResume n) s =
      .next ((s.setFlag (lineBase n) NLC_STATUS_FADE_PENDING false).fadeBegin n nlcRegs) := by
  have resumed : s.fadeResume n nlcRegs = (s.setFlag (lineBase n) NLC_STATUS_FADE_PENDING false).fadeBegin n nlcRegs :=
    if_pos pending
  show execNlcFadeResume n s = _
  rw [execNlcFadeResume, if_pos locked, ← resumed]
  exact (State.fadeResume_evolves (.refl nlcParts s) nlcRegs_inBlock (by decide)).done_eq (by decide) hd

/-! ### The banks and NLC_EN (R89, R93) -/

/-- The entries of a bank of the canceller. -/
def nlcBank (bank : Fin 2) : Field := if bank.val = 0 then NLC_B0_ENTRY else NLC_B1_ENTRY

theorem nlcBank_fits (bank : Fin 2) : (nlcBank bank).lo + (nlcBank bank).width ≤ 32 ∧ (nlcBank bank).width = 10 := by
  revert bank; decide

theorem exec_nlcBankWrite (bank : Fin 2) (idx : Fin 1024) (value : BitVec 10) (swap : Bool) (hd : s.noneDue) :
    exec (.nlcBankWrite n bank idx value swap) s = .next (s.bankWrite n nlcRegs bank idx value swap) :=
  (State.bankWrite_evolves (.refl [.lineRegs] s) nlcRegs_inBlock (by decide)).done_eq (by decide) hd

theorem State.bankWrite_taken {bank : Fin 2} (idx : Fin 1024) (value : BitVec 10)
    (free : bank.val ≠ s.fld (lineBase n) NLC_STATUS_ACTIVE_BANK) (busy : s.fadeBusy n nlcRegs = false) :
    s.bankWrite n nlcRegs bank idx value false = s.setFld (lineBase n) ((nlcBank bank).ix idx.val) value.toNat := by
  unfold State.bankWrite
  refine if_neg ?_
  rintro (active | fading | swap)
  · exact free active
  · rw [busy] at fading; cases fading
  · cases swap

theorem State.bankWrite_rejected {bank : Fin 2} {swap : Bool} (idx : Fin 1024) (value : BitVec 10)
    (h : bank.val = s.fld (lineBase n) NLC_STATUS_ACTIVE_BANK ∨ s.fadeBusy n nlcRegs = true ∨ swap = true) :
    s.bankWrite n nlcRegs bank idx value swap = s.bump (lineBase n) NLC_STATUS_WR_REJECT := by
  unfold State.bankWrite
  exact if_pos h

theorem exec_nlcEnWrite (n : Fin 8) (en : Bool) (hd : s.noneDue) : exec (.nlcEnWrite n en) s = .next (s.nlcEnable n en) := by
  have written : Evolves nlcParts s (s.setFlag (lineBase n) EQ_CTRL_NLC_EN en) :=
    State.setFlag_evolves (.refl _ s) (regPart_line (by decide) (by decide))
  have enabled : Evolves nlcParts s (s.nlcEnable n en) :=
    .ite written (State.fadeBypass_evolves written nlcRegs_inBlock (by decide))
  exact enabled.done_eq (by decide) hd

theorem State.setFlag_nlcEn_fadeBusy (s : State) (n : Fin 8) (en : Bool) :
    (s.setFlag (lineBase n) EQ_CTRL_NLC_EN en).fadeBusy n nlcRegs = s.fadeBusy n nlcRegs := by
  unfold State.fadeBusy
  rw [State.flag_setFlag_apart (g := nlcRegs.fading) _ _ _ (by decide),
    State.flag_setFlag_apart (g := nlcRegs.pending) _ _ _ (by decide)]

theorem State.nlcEnable_alone {en : Bool} (h : en = true ∨ s.fadeBusy n nlcRegs = false) :
    s.nlcEnable n en = s.setFlag (lineBase n) EQ_CTRL_NLC_EN en := by
  unfold State.nlcEnable State.fadeBypass
  dsimp only
  rw [State.setFlag_nlcEn_fadeBusy]
  rcases h with rfl | free
  · exact if_pos rfl
  · rw [free, if_neg Bool.false_ne_true, ite_self]

theorem State.nlcEnable_completes (busy : s.fadeBusy n nlcRegs = true) :
    s.nlcEnable n false = (s.setFlag (lineBase n) EQ_CTRL_NLC_EN false).fadeFinish n nlcRegs := by
  unfold State.nlcEnable State.fadeBypass
  dsimp only
  rw [State.setFlag_nlcEn_fadeBusy, busy, if_neg (by decide), if_pos rfl]

end

/-- Settles O33: the taps and the levels one register at a time, the canceller by the cases of a request. -/
theorem lineEqualiserAndCanceller : Obligations.LineEqualiserAndCanceller := by
  unfold Obligations.LineEqualiserAndCanceller
  refine ⟨?taps, ?tapsHeld, ?timing, ?levels, ?swap, ?swapBusy, ?swapUnlocks, ?swapFlips, ?engineSwap, ?engineBusy, ?completes,
    ?resumes, ?bankTaken, ?bankRejected, ?enable, ?disable⟩
  case taps =>
    rintro n symbols i k s hd st clocks freeze hi rfl
    exact ⟨_, exec_ffeWindow symbols hd st clocks freeze, (s.tapsMoved_evolves n symbols).only .line (by decide),
      State.tapsMoved_tap hi⟩
  case tapsHeld => exact fun n symbols s h => exec_ffeWindow_held symbols h
  case timing =>
    rintro n o turn word s hd st clocks task rfl rfl
    have rx (t w : Int) := s.loopTurned_rx n t w
    refine ⟨_, exec_timingUpdate o hd st clocks task, ?_, ?_, ?_, ?_, s.loopTurned_regsBut n _ _⟩
    · rw [rx]
    · rw [rx]
    · rw [rx]
    · exact State.setFld_same _ _ (by decide) (intBits_lt 16 _)
  case levels =>
    intro n symbols s hd st clocks freeze
    exact ⟨_, exec_mlseLevelUpdate symbols hd st clocks freeze, State.levelsMoved_level _, State.levelsMoved_sigma2⟩
  case swap =>
    rintro n lockLost s hd rfl busy waits inUse
    obtain ⟨fading, pending⟩ := State.fadeBusy_eq_false.1 busy
    refine ⟨_, exec_nlcSwap n hd, ?_⟩
    rw [State.nlcHostSwap_taken busy waits, if_neg (by rw [inUse]; decide)]
    cases s.locked n
    · refine ⟨?_, State.flag_setFlag_same _ _ _ (by decide) rfl, State.fld_setFlag_apart _ _ _ (by decide)⟩
      exact State.flag_setFlag_apart _ _ _ (by decide)
    · refine ⟨s.fadeBegin_fading n, ?_, s.fadeBegin_fld n (by decide)⟩
      rw [if_pos rfl, State.flag, s.fadeBegin_fld n (by decide)]
      rfl
  case swapBusy =>
    rintro n lockLost s hd rfl h
    rw [exec_nlcSwap n hd, State.nlcHostSwap_busy h]
    exact ⟨_, rfl, s.bump_same _ (by decide), s.setFld_regsBut _ _ _⟩
  case swapUnlocks =>
    rintro n lockLost s hd rfl busy waits inUse locked takes
    have starts : s.nlcHostSwap n = s.fadeBegin n nlcRegs := by
      rw [State.nlcHostSwap_taken busy waits, if_neg (by rw [inUse]; decide), if_pos locked]
    have stops := State.fadeStop_halts (s.fadeBegin_fading n)
    have begun : Evolves [.line, .lineRegs] s (s.fadeBegin n nlcRegs) :=
      State.fadeBegin_evolves (.refl _ s) nlcRegs_inBlock (by decide)
    have flags := (s.fadeBegin n nlcRegs).fadeHalted_flags n
    refine ⟨_, congrArg done ((congrArg (State.fadeStop · n nlcRegs) starts).trans stops), ?_, ?_,
      (State.fadeHalted_evolves begun n).raise_isActive (by decide) _ takes⟩
    · rw [State.raise_lineFlag _ _ _ n (by decide)]; exact flags.1
    · rw [State.raise_lineFlag _ _ _ n (by decide)]; exact flags.2
  case swapFlips =>
    rintro n lockLost s hd rfl busy waits inUse _
    have ended := s.fadeFinish_ended n
    rw [exec_nlcSwap n hd, State.nlcHostSwap_taken busy waits, if_pos inUse]
    exact ⟨_, rfl, ended.bank, ended.fading⟩
  case engineSwap =>
    intro n s hd task busy waits inUse locked
    have starts : s.nlcHostSwap n = s.fadeBegin n nlcRegs := by
      rw [State.nlcHostSwap_taken busy waits, if_neg (by rw [inUse]; decide), if_pos locked]
    refine ⟨_, exec_nlcEngineSwap hd task, ?_, ?_, ?_⟩
    · rw [State.flag, State.modPantry_fld, starts]; exact s.fadeBegin_fading n
    · rw [State.modPantry_same, busy, waits]; rfl
    · rw [starts]; exact (s.fadeBegin_regsBut n).of_regs (by simp only [State.modPantry_other])
  case engineBusy =>
    intro n s hd task busy
    refine ⟨_, exec_nlcEngineSwap hd task, ?_, ?_, ?_⟩
    · rw [State.modPantry_same, busy]; rfl
    · rw [State.modPantry_fld, State.nlcHostSwap_busy (.inl busy)]; exact s.bump_same _ (by decide)
    · rw [State.nlcHostSwap_busy (.inl busy)]
      exact RegsBut.of_regs (s.setFld_regsBut _ NLC_STATUS_BUSY_COUNT _) (by simp only [State.modPantry_other]; rfl)
  case completes =>
    intro n s hd fading _
    have ended := s.fadeFinish_ended n
    exact ⟨_, exec_nlcFadeComplete hd fading, ended.bank, ended.fading, ended.pending⟩
  case resumes =>
    intro n s hd locked pending
    refine ⟨_, exec_nlcFadeResume hd locked pending, ?_, State.fadeBegin_fading _ n, ?_⟩
    · rw [State.flag, State.fadeBegin_fld _ n (by decide), ← State.flag]
      exact s.flag_setFlag_same _ _ (by decide) rfl
    · exact fun a ha => (State.fadeBegin_regsBut _ n a ha).trans (s.setFld_regsBut _ NLC_STATUS_FADE_PENDING _ a ha)
  case bankTaken =>
    rintro n bank idx value swap s hd free busy rfl
    obtain ⟨fits, width⟩ := nlcBank_fits bank
    rw [exec_nlcBankWrite bank idx value false hd, State.bankWrite_taken idx value free busy]
    exact ⟨_, rfl, s.setFld_same _ (f := (nlcBank bank).ix idx.val) fits (by
      show _ < 2 ^ (nlcBank bank).width
      rw [width]; exact value.isLt), s.setFld_regsBut _ _ _⟩
  case bankRejected =>
    intro n bank idx value swap s hd h
    rw [exec_nlcBankWrite bank idx value swap hd, State.bankWrite_rejected idx value h]
    exact ⟨_, rfl, s.bump_same _ (by decide), s.setFld_regsBut _ _ _⟩
  case enable =>
    intro n en s hd h
    rw [exec_nlcEnWrite n en hd, State.nlcEnable_alone h]
    exact ⟨_, rfl, s.flag_setFlag_same _ _ (by decide) rfl, s.setFld_regsBut _ _ _⟩
  case disable =>
    rintro n en s hd rfl busy _
    obtain ⟨bank, fading, -, other⟩ := (s.setFlag (lineBase n) EQ_CTRL_NLC_EN false).fadeFinish_ended n
    rw [exec_nlcEnWrite n false hd, State.nlcEnable_completes busy]
    refine ⟨_, rfl, ?_, ?_, fading⟩
    · rw [State.flag, other _ (by decide) (by decide), ← State.flag]
      exact s.flag_setFlag_same _ _ (by decide) rfl
    · rw [bank, State.fld_setFlag_apart _ _ _ (by decide)]

end Sys2Proof.Machine
end

section
/-! Signal, lock and readouts of a line lane (O35).  The clauses read LOS, the signal and the active set behind a loss of lock
and behind a start: the first part says once that these leave the receivers of the lanes and the sources alone. -/

namespace Sys2Proof.Machine

open Reg

/-! ### The receivers of the lanes -/

/-- The receiver of every lane holds what it held, its registers apart. -/
structure RxSame (s t : State) : Prop where
  rx : ∀ k : Fin 8, t.line[k].rx = s.line[k].rx

section
variable {s t u : State} {n : Fin 8}

theorem RxSame.refl (s : State) : RxSame s s := ⟨fun _ => rfl⟩

theorem RxSame.trans (h : RxSame s t) (k : RxSame t u) : RxSame s u := ⟨fun n => (k.rx n).trans (h.rx n)⟩

theorem RxSame.ite {c : Prop} [Decidable c] (h : RxSame s t) (k : RxSame s u) : RxSame s (if c then t else u) := by
  split <;> assumption

theorem Evolves.rxSame {ps : List Part} (h : Evolves ps s t) (hl : .line ∉ ps) : RxSame s t :=
  ⟨fun k => by rw [show t.line = s.line from h.only .line hl]⟩

theorem RxSame.andThen {ps : List Part} (h : RxSame s t) (k : Evolves ps t u) (hl : .line ∉ ps) : RxSame s u :=
  h.trans (k.rxSame hl)

theorem RxSame.modLine (h : RxSame s t) (m : Fin 8) {f : LineLane → LineLane} (hf : ∀ l, (f l).rx = l.rx) :
    RxSame s (t.modLine m f) := by
  refine h.trans ⟨fun k => ?_⟩
  by_cases e : k = m
  · rw [e, State.modLine_same, hf]
  · rw [State.modLine_ne _ _ e]

theorem RxSame.modTx (h : RxSame s t) (m : Fin 8) (f : LineTx → LineTx) : RxSame s (t.modTx m f) := h.modLine m fun _ => rfl

theorem RxSame.modLinkOf (h : RxSame s t) (m : Fin 8) (f : LaneLink → LaneLink) : RxSame s (t.modLinkOf m f) :=
  h.modLine m fun _ => rfl

theorem RxSame.modAdc (h : RxSame s t) (m : Fin 8) (f : AdcState → AdcState) : RxSame s (t.modAdc m f) :=
  h.modLine m fun _ => rfl

theorem RxSame.setFld (h : RxSame s t) (base : Nat) (f : Field) (v : Nat) : RxSame s (t.setFld base f v) := ⟨h.rx⟩

theorem RxSame.setFlag (h : RxSame s t) (base : Nat) (f : Field) (v : Bool) : RxSame s (t.setFlag base f v) := ⟨h.rx⟩

theorem RxSame.setSlice (h : RxSame s t) (m : Fin 8) (k pos st : Nat) : RxSame s (t.setSlice m k pos st) := ⟨h.rx⟩

theorem RxSame.fadeStop (h : RxSame s t) (m : Fin 8) {r : FadeRegs} (hr : r.InBlock) : RxSame s (t.fadeStop m r) :=
  h.andThen (State.fadeStop_evolves (ps := .lineRegs :: raiseParts) (.refl _ t) hr (by decide)) (by decide)

theorem RxSame.txHold (h : RxSame s t) (m : Fin 8) : RxSame s (t.txHold m) :=
  ((h.setFld (lineBase m) TX_STATUS_TX_STATE 3).modTx m _).fadeStop m pdRegs_inBlock

theorem RxSame.txRamp (h : RxSame s t) (m : Fin 8) : RxSame s (t.txRamp m) :=
  .ite (h.setFld (lineBase m) TX_STATUS_TX_STATE 3) ((h.setFld (lineBase m) TX_STATUS_TX_STATE 4).modTx m _)

theorem RxSame.setCauses (h : RxSame s t) (m : Fin 8) (set clear : Nat) : RxSame s (t.setCauses m set clear) :=
  .ite ((h.setFld (lineBase m) TX_STATUS_SQ_CAUSE _).txHold m) (.ite ((h.setFld (lineBase m) TX_STATUS_SQ_CAUSE _).txRamp m)
    (h.setFld (lineBase m) TX_STATUS_SQ_CAUSE _))

theorem RxSame.refreshFill (h : RxSame s t) (m : Fin 8) : RxSame s (t.refreshFill m) :=
  .ite ((h.modLinkOf m _).setCauses m _ _) ((h.modLinkOf m _).setCauses m _ _)

theorem RxSame.followEnd (h : RxSame s t) (m : Fin 8) (stream : Option (Fin 16)) : RxSame s (t.followEnd m stream) :=
  .ite (.ite ((h.modLinkOf m _).andThen (State.quiet_evolves (ps := [.fuse]) (.refl _ _) (by decide)) (by decide))
    (h.modLinkOf m _)) h

theorem RxSame.assignSlices (h : RxSame s t) (m : Fin 8) : RxSame s (t.assignSlices m) := by
  have active : RxSame s (t.each (List.range 16) fun k u => u.setSlice m k k 0) :=
    State.each_keeps (P := RxSame s) (fun k u hu => hu.setSlice m k k 0) _ h
  have shown := (((active.setSlice m 16 16 1).setFld (lineBase m) ADC_STATUS_SPARE_SLICE 16).setFld (lineBase m)
    ADC_STATUS_SPARE_STATE 1).setFlag (lineBase m) ADC_STATUS_SPARE_NONE false
  exact (shown.modAdc m _).andThen (State.refreshBridged_evolves (ps := [.lineRegs]) (.refl _ _) (by decide)) (by decide)

/-- A display of the spare's state. -/
theorem RxSame.spareShown (h : RxSame s t) (m : Fin 8) (st : Nat) :
    RxSame s ((t.setSpareState m st).refreshTrainPos m) :=
  h.andThen (State.refreshTrainPos_evolves (ps := [.lineRegs]) (State.setSpareState_evolves (.refl _ t) (by decide))
    (by decide)) (by decide)

theorem RxSame.adcEstimate (h : RxSame s t) (m : Fin 8) : RxSame s (t.adcEstimate m) := by
  unfold State.adcEstimate
  dsimp only
  split <;> exact (h.modAdc m _).spareShown m _

theorem RxSame.adcStart (h : RxSame s t) (m : Fin 8) : RxSame s (t.adcStart m) := by
  have assigned : RxSame s (if t.line[m].adc.assigned then t else t.assignSlices m) := .ite h (h.assignSlices m)
  have cleared (f : AdcState → AdcState) : RxSame s (((((if t.line[m].adc.assigned then t else t.assignSlices m).modAdc m f
      ).setFlag (lineBase m) ADC_STATUS_CONVERGED false).setFld (lineBase m) ADC_STATUS_ROT_COUNT 0).setFld (lineBase m)
      ADC_QUAL_ROT_ABORT 0) := ⟨(assigned.modAdc m f).rx⟩
  exact .ite ((cleared _).adcEstimate m) ((cleared _).spareShown m 1)

end

/-! ### The sources of the Fuse Box -/

/-- No source becomes asserted, and none but FOLLOW_RANGE of the lane leaves the active set. -/
structure SourcesKept (n : Fin 8) (s t : State) : Prop where
  rails : ∀ src ∈ t.fuse.rails, src ∈ s.fuse.rails
  active : ∀ src, src ≠ lineSrc n 0x22 → s.isActive src → t.isActive src

section
variable {s t u : State} {n : Fin 8}

theorem SourcesKept.refl (n : Fin 8) (s : State) : SourcesKept n s s := ⟨fun _ h => h, fun _ _ h => h⟩

theorem SourcesKept.trans (h : SourcesKept n s t) (k : SourcesKept n t u) : SourcesKept n s u :=
  ⟨fun src m => h.rails src (k.rails src m), fun src ne a => k.active src ne (h.active src ne a)⟩

theorem SourcesKept.ite {c : Prop} [Decidable c] (h : SourcesKept n s t) (k : SourcesKept n s u) :
    SourcesKept n s (if c then t else u) := by split <;> assumption

/-- What leaves the Fuse Box alone. -/
theorem Evolves.sourcesKept {ps : List Part} (h : Evolves ps s t) (hf : .fuse ∉ ps) : SourcesKept n s t := by
  have fuse : t.fuse = s.fuse := h.only .fuse hf
  exact ⟨fun _ m => fuse ▸ m, fun _ _ a => by rwa [State.isActive, fuse]⟩

theorem FillOnly.sourcesKept (h : FillOnly s t) : SourcesKept n s t :=
  ⟨fun _ m => h.kept.rails ▸ m, fun src _ => h.active src⟩

/-- A source that is no level source is raised. -/
theorem State.raise_sourcesKept (s : State) (n : Fin 8) {src : Nat} (edge : srcLevel src = false) (detail : Nat) :
    SourcesKept n s (s.raise src detail) :=
  ⟨fun _ m => (s.raise_undisturbed edge detail).rails ▸ m, fun _ _ a => State.raise_keeps a _ _⟩

theorem State.leave_active (s : State) {src src' : Nat} (ne : src' ≠ src) (h : s.isActive src') :
    (s.leave src).isActive src' := by
  obtain ⟨e, mem, rfl, cleared⟩ := h
  refine ⟨e, ?_, rfl, cleared⟩
  have rest : (s.leave src).fuse.active = s.fuse.active.filter fun e => e.src != src := by
    unfold State.leave; dsimp only; split <;> rfl
  rw [rest]
  exact List.mem_filter.2 ⟨mem, by simpa using ne⟩

/-- A level source that turns quiet takes no other out of the active set. -/
theorem State.quiet_active (s : State) {src src' : Nat} (ne : src' ≠ src) (h : s.isActive src') :
    (s.quiet src).isActive src' := by
  unfold State.quiet
  dsimp only
  split
  · exact h
  · split
    · exact State.leave_active _ ne h
    · exact h

theorem State.quiet_sourcesKept (s : State) (n : Fin 8) : SourcesKept n s (s.quiet (lineSrc n 0x22)) :=
  ⟨fun _ m => by rw [State.quiet_rails] at m; exact (List.mem_filter.1 m).1, fun _ ne => s.quiet_active ne⟩

theorem State.nlcFadeStop_sourcesKept (s : State) (n : Fin 8) : SourcesKept n s (s.fadeStop n nlcRegs) := by
  have edge : srcLevel (lineSrc n 0x43) = false := by revert n; decide
  by_cases fading : s.flag (lineBase n) NLC_STATUS_FADING = true
  · rw [State.fadeStop_halts fading]
    exact ((State.fadeHalted_evolves (.refl _ s) n).sourcesKept (by decide)).trans (State.raise_sourcesKept _ n edge _)
  · have stays : s.fadeStop n nlcRegs = s := if_neg fading
    rw [stays]
    exact .refl n s

theorem State.followEnd_sourcesKept (s : State) (n : Fin 8) (stream : Option (Fin 16)) :
    SourcesKept n s (s.followEnd n stream) := by
  have streams (f : LaneLink → LaneLink) : SourcesKept n s (s.modLinkOf n f) := ⟨fun _ m => m, fun _ _ a => a⟩
  exact .ite (.ite ((streams _).trans (State.quiet_sourcesKept _ n)) (streams _)) (.refl n s)

/-! ### A loss of lock (R103) -/

/-- The lane that leaves LOCKED with its readouts cleared (R106, R107, R118). -/
def State.readoutsDown (s : State) (n : Fin 8) : State :=
  (((s.setFlag (lineBase n) EQ_STATUS_LOCKED false).frameDown n).setFld (lineBase n) SNR_STAT_SNR 0).setReg
    (lineBase n + EYE_STAT_EYE_MID.off) 0

/-- The lane that leaves LOCKED once a fade of its canceller has stopped (R92). -/
def State.fadeDown (s : State) (n : Fin 8) : State :=
  if (s.readoutsDown n).nlcInUse n then (s.readoutsDown n).fadeStop n nlcRegs else s.readoutsDown n

theorem State.loseLock_eq (s : State) (n : Fin 8) : s.loseLock n = if s.locked n then
    ((((s.fadeDown n).unsettle n 0).dropAlignment n).followEnd n none).refreshFill n else s := rfl

theorem State.readoutsDown_signal (s : State) (n : Fin 8) :
    (s.readoutsDown n).line[n].rx.signal = s.line[n].rx.signal := by
  have follows (t : State) : (t.lrFollow n false).line = t.line :=
    (State.lrFollow_evolves (ps := [.host, .hostRegs]) (.refl _ t) (by decide)).only .line (by decide)
  simp only [State.readoutsDown, State.frameDown, State.setReg_other, State.setFld_other, follows, State.modRx_same,
    State.setFlag_other]

theorem State.fadeDown_signal (s : State) (n : Fin 8) : (s.fadeDown n).line[n].rx.signal = s.line[n].rx.signal := by
  have same : RxSame (s.readoutsDown n) (s.fadeDown n) :=
    .ite ((RxSame.refl _).fadeStop n nlcRegs_inBlock) (.refl _)
  rw [same.rx n, s.readoutsDown_signal n]

theorem State.loseLock_signal (s : State) (n : Fin 8) : (s.loseLock n).line[n].rx.signal = s.line[n].rx.signal := by
  have dropped : Evolves [.lanes, .lineRegs] (s.fadeDown n) (((s.fadeDown n).unsettle n 0).dropAlignment n) :=
    State.dropAlignment_evolves (State.unsettle_evolves (.refl _ _) (by decide)) (by decide)
  rw [State.loseLock_eq]
  split
  · rw [(((dropped.rxSame (by decide)).followEnd n none).refreshFill n).rx n, s.fadeDown_signal n]
  · rfl

theorem State.loseLock_sourcesKept (s : State) (n : Fin 8) : SourcesKept n s (s.loseLock n) := by
  have framed : Evolves [.line, .host, .lineRegs, .hostRegs] s (s.readoutsDown n) :=
    State.setReg_evolves (State.setFld_evolves (State.frameDown_evolves (State.setFlag_evolves (.refl _ s)
      (regPart_line (by decide) (by decide))) (by decide)) (regPart_line (by decide) (by decide)))
      (regPart_line (by decide) (by decide))
  have faded : SourcesKept n s (s.fadeDown n) :=
    .ite ((framed.sourcesKept (by decide)).trans (State.nlcFadeStop_sourcesKept _ n)) (framed.sourcesKept (by decide))
  have dropped : Evolves [.lanes, .lineRegs] (s.fadeDown n) (((s.fadeDown n).unsettle n 0).dropAlignment n) :=
    State.dropAlignment_evolves (State.unsettle_evolves (.refl _ _) (by decide)) (by decide)
  rw [State.loseLock_eq]
  exact .ite (((faded.trans (dropped.sourcesKept (by decide))).trans (State.followEnd_sourcesKept _ n none)).trans
    (State.refreshFill_fillOnly _ n).sourcesKept) (.refl n s)

theorem State.loseLock_los (s : State) (n : Fin 8) :
    (s.loseLock n).flag (lineBase n) EQ_STATUS_LOS = s.flag (lineBase n) EQ_STATUS_LOS := by
  by_cases h : s.locked n = true
  · rw [(State.loseLock_kept h).flag (by decide)]
    simp (disch := decide) only [State.lockDropped, State.flag_setFlag_apart]
  · rw [State.loseLock, if_neg h]

/-! ### The start of an acquisition (R101) -/

/-- The start of step 1, behind the loss of lock. -/
def State.acqBegun (s : State) (n : Fin 8) : State :=
  ((((s.acqCleared n).adcStart n).setAcqState n 1).unsettle n 0).bankRestored (243 + n.val)

theorem State.acqCleared_evolves (s : State) (n : Fin 8) : Evolves [.line, .lineRegs] s (s.acqCleared n) :=
  State.setFld_evolves (State.modRx_evolves (State.rotHold_evolves (.refl _ s) (by decide)) (by decide))
    (regPart_line (by decide) (by decide))

theorem State.acqBegun_evolves (s : State) (n : Fin 8) :
    Evolves [.line, .tamid, .memProtRegs, .lineRegs, .tamidRegs] s (s.acqBegun n) :=
  State.bankRestored_evolves (State.unsettle_evolves (State.setAcqState_evolves (State.adcStart_evolves
    ((s.acqCleared_evolves n).mono (by decide)) (by decide)) (by decide)) (by decide)) (by decide)

theorem State.setAcqState_signal (s : State) (n : Fin 8) (v : Nat) :
    (s.setAcqState n v).line[n].rx.signal = s.line[n].rx.signal := by
  have fell : Evolves [.tamid, .tamidRegs] s (s.when (decide (v < 2)) fun s => s.tamidAcqFall n) :=
    .when (.refl _ s) fun t h => State.tamidAcqFall_evolves h (by decide)
  have line : (s.when (decide (v < 2)) fun s => s.tamidAcqFall n).line = s.line := fell.only .line (by decide)
  rw [State.setAcqState, State.modRx_same]
  simp only [State.setFld_other, line]

theorem State.acqBegun_signal (s : State) (n : Fin 8) : (s.acqBegun n).line[n].rx.signal = s.line[n].rx.signal := by
  have cleared : (s.acqCleared n).line[n].rx.signal = s.line[n].rx.signal := by
    simp only [State.acqCleared, State.setFld_other, State.rotHold, State.modRx_same, LineRx.started]
  have ended (t : State) : ((t.unsettle n 0).bankRestored (243 + n.val)).line = t.line :=
    (State.bankRestored_evolves (ps := [.lineRegs, .memProtRegs]) (State.unsettle_evolves (.refl _ t) (by decide))
      (by decide)).only .line (by decide)
  rw [State.acqBegun, ended, State.setAcqState_signal, ((RxSame.refl _).adcStart n).rx n, cleared]

theorem State.acqBegun_los (s : State) (n : Fin 8) :
    (s.acqBegun n).flag (lineBase n) EQ_STATUS_LOS = s.flag (lineBase n) EQ_STATUS_LOS := by
  have ended (t : State) : RxKept n t ((t.unsettle n 0).bankRestored (243 + n.val)) := ((RxKept.refl n t).unsettle n 0).trans
    (Evolves.rxKept (State.bankRestored_evolves (ps := [.memProtRegs]) (.refl _ _) (by decide)) (by decide) (by decide))
  rw [State.acqBegun, (ended _).flag (by decide), (State.setAcqState_kept _ n 1).flag (by decide),
    State.flag_setFld_apart _ _ _ (by decide), ((RxKept.refl n _).adcStart n).flag (by decide), State.flag,
    State.acqCleared_fld _ _ (by decide), State.flag]

/-- What a full acquisition leaves of the signal. -/
structure SignalKept (n : Fin 8) (s u : State) : Prop where
  los : u.flag (lineBase n) EQ_STATUS_LOS = s.flag (lineBase n) EQ_STATUS_LOS
  signal : u.line[n].rx.signal = s.line[n].rx.signal
  sources : SourcesKept n s u

theorem State.acqStart_signalKept (s : State) (n : Fin 8) : SignalKept n s (s.acqStart n) := by
  have lost := s.loseLock_sourcesKept n
  have eq : s.acqStart n = if (s.loseLock n).synLocked (lineSyn n) && !(s.loseLock n).deepHolds (domLineRx n) then
    (s.loseLock n).acqBegun n else (s.loseLock n).modRx n fun r => { r with startDue := true } := rfl
  rw [eq]
  split
  · exact ⟨(State.acqBegun_los _ n).trans (s.loseLock_los n), (State.acqBegun_signal _ n).trans (s.loseLock_signal n),
      lost.trans ((State.acqBegun_evolves _ n).sourcesKept (by decide))⟩
  · refine ⟨?_, ?_, lost.trans (Evolves.sourcesKept (State.modRx_evolves (.refl [.line] _) (by decide)) (by decide))⟩
    · rw [State.flag, State.modRx_fld, ← State.flag, s.loseLock_los n]
    · rw [State.modRx_same]
      exact s.loseLock_signal n

/-! ### The start of a fast re-lock (R104) -/

/-- A lane that has started a fast re-lock. -/
structure Relocking (n : Fin 8) (s u : State) : Prop where
  state : u.acqState n = 8
  step : u.line[n].rx.relockStep = 1
  los : u.flag (lineBase n) EQ_STATUS_LOS = s.flag (lineBase n) EQ_STATUS_LOS
  locked : u.locked n = s.locked n

theorem State.fastRelock_relocking (s : State) (n : Fin 8) : Relocking n s (s.fastRelock n) := by
  unfold State.fastRelock
  dsimp only
  generalize start : (s.rotHold n).modRx n _ = t
  have fld (g : Field) : t.fld (lineBase n) g = s.fld (lineBase n) g := by
    rw [← start, State.modRx_fld, State.rotHold, State.modRx_fld]
  have unsettled : RxKept n (t.setAcqState n 8) ((t.setAcqState n 8).unsettle n 0) := (RxKept.refl n _).unsettle n 0
  refine ⟨unsettled.acqState.trans (t.setAcqState_acqState n (by decide)), ?_, ?_, ?_⟩
  · rw [unsettled.relock, (t.setAcqState_kept n 8).relock]
    simp only [State.setFld_other]
    rw [← start, State.modRx_same]
  · rw [unsettled.flag (by decide), (t.setAcqState_kept n 8).flag (by decide), State.flag_setFld_apart _ _ _ (by decide),
      State.flag, fld, State.flag]
  · rw [unsettled.locked, State.setAcqState_locked, State.locked, State.flag, fld, State.locked, State.flag]

/-! ### Signal present, and the end of a LOS (R101, R104) -/

theorem State.losEnd_evolves_lane (s : State) (n : Fin 8) : Evolves [.line, .fuse, .lineRegs] s (s.losEnd n) :=
  State.losEnd_evolves (.refl _ s) (by decide)

theorem State.losEnd_rx (s : State) (n : Fin 8) : (s.losEnd n).line[n].rx.signal = true ∧
    (s.losEnd n).line[n].rx.clocksStopped = s.line[n].rx.clocksStopped := by
  unfold State.losEnd State.signalCount
  dsimp only
  rw [State.modRx_same]
  simp only [State.quiet_line, State.setFlag_other, and_self]

theorem State.losEnd_los (s : State) (n : Fin 8) : (s.losEnd n).flag (lineBase n) EQ_STATUS_LOS = false := by
  unfold State.losEnd State.signalCount
  dsimp only
  rw [State.flag, State.modRx_fld, State.fld_eq, State.quiet_regs, ← State.fld_eq, ← State.flag]
  exact s.flag_setFlag_same _ _ (by decide) rfl

theorem State.losEnd_rails (s : State) (n : Fin 8) : lineSrc n 0x40 ∉ (s.losEnd n).fuse.rails := by
  unfold State.losEnd State.signalCount
  dsimp only
  simp only [State.modRx_other]
  rw [State.quiet_rails]
  simp

theorem State.losEnd_acquiring (syn : s.synLocked (lineSyn n) = true) (deep : s.deepHolds (domLineRx n) = false) :
    Acquiring n (s.losEnd n) ((s.losEnd n).acqStart n) :=
  State.acqStart_acquiring ((s.losEnd_evolves_lane n).synLocked (by decide) _ ▸ syn)
    ((s.losEnd_evolves_lane n).deepHolds (by decide) (by decide) _ ▸ deep)

theorem exec_lineSignalPresent_ends (st : s.acqState n ≠ 0) (los : s.flag (lineBase n) EQ_STATUS_LOS = true) :
    exec (.lineSignalPresent n) s = .next ((s.losEnd n).acqStart n).react := by
  show execLineSignalPresent n s = _
  rw [execLineSignalPresent, if_neg st, if_pos los, done]

theorem exec_lineSignalPresent_counts (hd : s.noneDue) (st : s.acqState n ≠ 0)
    (los : s.flag (lineBase n) EQ_STATUS_LOS = false) : exec (.lineSignalPresent n) s = .next (s.signalCount n) := by
  show execLineSignalPresent n s = _
  rw [execLineSignalPresent, if_neg st, if_neg (by rw [los]; decide)]
  exact (State.signalCount_evolves (.refl [.line] s) (by decide)).done_eq (by decide) hd

theorem exec_lineLosEnd (within100ms : Bool) (los : s.flag (lineBase n) EQ_STATUS_LOS = true)
    (clocks : s.line[n].rx.clocksStopped = false) : exec (.lineLosEnd n within100ms) s =
      .next (if within100ms then (s.losEnd n).fastRelock n else (s.losEnd n).acqStart n).react := by
  show execLineLosEnd n within100ms s = _
  rw [execLineLosEnd, if_pos los]
  dsimp only
  rw [(s.losEnd_rx n).2, clocks, if_neg (by decide)]
  cases within100ms <;> rfl

/-! ### LOS and LOL (R103) -/

/-- LOS is declared: the lane as the raise leaves it, before it leaves LOCKED. -/
def State.losDeclared (s : State) (n : Fin 8) : State :=
  (s.setFlag (lineBase n) EQ_STATUS_LOS true).raise (lineSrc n 0x40) 0

theorem State.losDeclared_los (s : State) (n : Fin 8) : (s.losDeclared n).flag (lineBase n) EQ_STATUS_LOS = true := by
  rw [State.losDeclared, State.flag, (State.raise_evolves (ps := raiseParts) (.refl _ _) (by decide)).lineFld (by decide) n
    (by decide), ← State.flag]
  exact s.flag_setFlag_same _ _ (by decide) rfl

theorem State.losDeclared_active (takes : s.takes (lineSrc n 0x40) 0) : (s.losDeclared n).isActive (lineSrc n 0x40) :=
  Evolves.raise_isActive (State.setFlag_evolves (.refl _ s) (regPart_line (by decide) (by decide))) (by decide) 0 takes

theorem exec_lineLos (st : s.acqState n ≠ 0) (los : s.flag (lineBase n) EQ_STATUS_LOS = false) : exec (.lineLos n) s =
    .next (((s.losDeclared n).loseLock n).modRx n fun r => { r with signal := false }).react := by
  show execLineLos n s = _
  rw [execLineLos, if_neg (by rw [los]; simpa using st), done]
  rfl

theorem exec_lineFreqLimit (locked : s.locked n = true)
    (word : s.line[n].rx.freqWord = 50000 ∨ s.line[n].rx.freqWord = -50000) :
    exec (.lineFreqLimit n) s = .next (s.lol n 2).react := by
  show execLineFreqLimit n s = _
  rw [execLineFreqLimit, if_pos ⟨locked, word⟩, done]

theorem exec_lineRelockTimeout (st : s.acqState n = 8) (los : s.flag (lineBase n) EQ_STATUS_LOS = false) :
    exec (.lineRelockTimeout n) s = .next (s.acqStart n).react := by
  show execLineRelockTimeout n s = _
  rw [execLineRelockTimeout, if_pos ⟨st, by rw [los]; decide⟩, done]

/-! ### Readouts that raise nothing (R106 to R108) -/

/-- Without a raise of SNR_LOW the readouts are published alone. -/
theorem exec_snrPublish_unraised {symbols : List RxSymbol} {err : ReadoutError} (hd : s.noneDue) (locked : s.locked n = true)
    (task : s.lineTask n taskSnr = true)
    (h : ¬ (s.snrValue n symbols err.snr < s.snrWarn n ∧ s.line[n].rx.snrHeld = false)) :
    exec (.snrPublish n symbols err) s = .next (s.snrPublished n symbols err).react := by
  have silent : s.snrHolds n (s.snrValue n symbols err.snr) = true ∨ s.snrWarn n ≤ s.snrValue n symbols err.snr := by
    refine (Nat.lt_or_ge _ _).imp_left fun low => ?_
    have held : s.line[n].rx.snrHeld = true := Bool.eq_true_of_not_eq_false fun free => h ⟨low, free⟩
    rw [State.snrHolds, held, Bool.true_and]
    exact decide_eq_true (Nat.lt_add_right 50 low)
  rw [exec_snrPublish_silent hd locked task silent]
  exact ((s.snrPublished_evolves n symbols err).done_eq (by decide) hd).symm

end

theorem lineSrc_ne_follow (n : Fin 8) : lineSrc n 0x40 ≠ lineSrc n 0x22 ∧ lineSrc n 0x41 ≠ lineSrc n 0x22 := by
  revert n; decide

/-- Settles O35, by what a loss of lock and a start leave of the signal and of the sources. -/
theorem lineSignalAndReadouts : Obligations.LineSignalAndReadouts := by
  unfold Obligations.LineSignalAndReadouts
  refine ⟨?ends, ?counts, ?los, ?relocks, ?acquires, ?lol, ?timeout, ?readouts⟩
  case ends =>
    intro n s _ st los syn deep
    have kept := (s.losEnd n).acqStart_signalKept n
    exact ⟨_, exec_lineSignalPresent_ends st los, kept.los.trans (s.losEnd_los n), kept.signal.trans (s.losEnd_rx n).1,
      (State.losEnd_acquiring syn deep).state, fun m => s.losEnd_rails n (kept.sources.rails _ m)⟩
  case counts =>
    intro n s hd st los
    exact ⟨_, exec_lineSignalPresent_counts hd st los, rfl⟩
  case los =>
    intro n s _ st los takes
    have lost := (s.losDeclared n).loseLock_unlocked n
    refine ⟨_, exec_lineLos st los, ?_, ?_, ?_, ((s.losDeclared n).loseLock_sourcesKept n).active _ (lineSrc_ne_follow n).1
      (State.losDeclared_active takes)⟩
    · rw [State.flag, State.modRx_fld, ← State.flag, State.loseLock_los, s.losDeclared_los n]
    · rw [State.locked, State.flag, State.modRx_fld]; exact lost.locked
    · rw [State.modRx_same]
  case relocks =>
    rintro n within100ms s _ los clocks rfl
    obtain ⟨state, step, los', -⟩ := (s.losEnd n).fastRelock_relocking n
    exact ⟨_, exec_lineLosEnd true los clocks, los'.trans (s.losEnd_los n), state, step⟩
  case acquires =>
    rintro n within100ms s _ los clocks rfl syn deep
    exact ⟨_, exec_lineLosEnd false los clocks, ((s.losEnd n).acqStart_signalKept n).los.trans (s.losEnd_los n),
      (State.losEnd_acquiring syn deep).state⟩
  case lol =>
    intro n s _ locked word takes
    have raised : (s.raise (lineSrc n 0x41) 2).isActive (lineSrc n 0x41) := State.raise_isActive_of_takes takes (by decide)
    have relock := ((s.raise (lineSrc n 0x41) 2).loseLock n).fastRelock_relocking n
    have began := State.fastRelock_evolves (n := n) (.refl acqParts ((s.raise (lineSrc n 0x41) 2).loseLock n)) (by decide)
    exact ⟨_, exec_lineFreqLimit locked word, relock.locked.trans ((s.raise (lineSrc n 0x41) 2).loseLock_unlocked n).locked,
      relock.state, ((State.loseLock_sourcesKept _ n).trans (began.sourcesKept (by decide))).active _ (lineSrc_ne_follow n).2
      raised⟩
  case timeout =>
    intro n s _ st los syn deep
    have acq := State.acqStart_acquiring syn deep
    exact ⟨_, exec_lineRelockTimeout st los, acq.state, acq.step⟩
  case readouts =>
    rintro n symbols err v l s hd locked task rfl rfl
    by_cases raises : s.snrValue n symbols err.snr < s.snrWarn n ∧ s.line[n].rx.snrHeld = false
    · have shown := s.snrRaised_shown n symbols err (s.snrValue n symbols err.snr)
      exact ⟨_, exec_snrPublish_raises locked task raises.1 raises.2, shown.snr, shown.low, shown.upper, shown.mid, shown.lower,
        fun _ _ takes => State.snrRaised_active takes⟩
    · have shown := s.snrPublished_shown n symbols err
      exact ⟨_, exec_snrPublish_unraised hd locked task raises, shown.snr, shown.low, shown.upper, shown.mid, shown.lower,
        fun low free _ => absurd ⟨low, free⟩ raises⟩

end Sys2Proof.Machine
end

section
/-! Frames, the inner code and the KP4 monitors (O36).  A command of chapter 5 counts in the records of a lane and shows what it
counted in registers: the first parts say once what a monitor's operations leave of a host lane, and how a snapshot is read. -/

namespace Sys2Proof.Machine

open Reg

/-! ### Registers of a host lane -/

section
variable {ps : List Part} {s t : State} {f : Field}

theorem regPart_hostBase (m : Fin 16) {k : Nat} (h : k < 0x10000) : regPart (hostBase m + k) = .hostRegs := by
  simpa using regPart_host (m := m) h (List.Subset.refl [Part.hostRegs])

/-- An operation outside the blocks of the host lanes leaves their fields alone. -/
theorem Evolves.hostFld (h : Evolves ps s t) (hp : .hostRegs ∉ ps) (m : Fin 16) (hf : f.off < 0x10000) :
    t.fld (hostBase m) f = s.fld (hostBase m) f := h.fld (by rwa [regPart_hostBase m hf])

theorem Evolves.hostFlag (h : Evolves ps s t) (hp : .hostRegs ∉ ps) (m : Fin 16) (hf : f.off < 0x10000) :
    t.flag (hostBase m) f = s.flag (hostBase m) f := by rw [State.flag, State.flag, h.hostFld hp m hf]

theorem Evolves.host_eq (h : Evolves ps s t) (hp : .host ∉ ps) : t.host = s.host := h.only .host hp

theorem Evolves.regsBut (h : Evolves ps s t) (hp : ∀ p ∈ ps, p ∉ regParts) (as : List Nat) : RegsBut as s t :=
  fun a _ => h.reg fun m => hp _ m (regPart_mem a)

theorem State.modHost_fld (s : State) (m : Fin 16) (f : HostLane → HostLane) (base : Nat) (g : Field) :
    (s.modHost m f).fld base g = s.fld base g := by simp only [State.fld_eq, State.modHost_other]

end

/-! ### Line frames (R118) -/

section
variable {s : State} {n : Fin 8} {words : List (List Bool)}

/-- The markers missed among the last 16, with that of a frame. -/
def State.markersNow (s : State) (n : Fin 8) (words : List (List Bool)) : List Bool :=
  (frameMissed words :: s.line[n].rx.markerHist).take 16

/-- A frame counted in MARKER_MISS. -/
def State.frameMarked (s : State) (n : Fin 8) (missed : Bool) : State :=
  if missed then (s.countEvent (0x3001 + n.val * 0x100) 1).bump (lineBase n) FEC_STATUS_MARKER_MISS
  else s.countEvent (0x3001 + n.val * 0x100) 1

/-- A frame counted in the windows too. -/
def State.frameTaken (s : State) (n : Fin 8) (words : List (List Bool)) (w : Windows) : State :=
  (s.frameMarked n (frameMissed words)).modRx n fun r =>
    { r with markerHist := s.markersNow n words, winSeen := w.seen, winBad := w.bad, badWindows := w.run }

/-- The windows behind a frame. -/
def State.windowsAfter (s : State) (n : Fin 8) (words : List (List Bool)) : Windows :=
  (frameFails words).foldl Windows.next ⟨s.line[n].rx.winSeen, s.line[n].rx.winBad, s.line[n].rx.badWindows⟩

theorem State.frameTaken_evolves (s : State) (n : Fin 8) (words : List (List Bool)) (w : Windows) :
    Evolves [.line, .counters, .lineRegs] s (s.frameTaken n words w) := by
  have counted : Evolves [.line, .counters, .lineRegs] s (s.countEvent (0x3001 + n.val * 0x100) 1) :=
    State.countEvent_evolves (.refl _ s) (by decide)
  exact State.modRx_evolves (.ite (State.bump_evolves counted (regPart_line (by decide) (by decide))) counted) (by decide)

theorem State.frameMarked_miss (s : State) (n : Fin 8) (missed : Bool) :
    (s.frameMarked n missed).fld (lineBase n) FEC_STATUS_MARKER_MISS = (if missed then satNat FEC_STATUS_MARKER_MISS.width
      (s.fld (lineBase n) FEC_STATUS_MARKER_MISS + 1) else s.fld (lineBase n) FEC_STATUS_MARKER_MISS) := by
  cases missed
  · rfl
  · exact State.bump_same (s.countEvent _ 1) _ (by decide)

theorem State.frameMarked_regsBut (s : State) (n : Fin 8) (missed : Bool) :
    RegsBut [lineBase n + FEC_STATUS_MARKER_MISS.off] s (s.frameMarked n missed) := by
  cases missed
  · exact fun _ _ => rfl
  · exact (s.countEvent _ 1).setFld_regsBut _ FEC_STATUS_MARKER_MISS _

theorem State.frameTaken_locked (s : State) (n : Fin 8) (words : List (List Bool)) (w : Windows) :
    (s.frameTaken n words w).locked n = s.locked n := by
  have word := s.frameMarked_regsBut n (frameMissed words) (lineBase n + EQ_STATUS_LOCKED.off) (by
    simp [FEC_STATUS_MARKER_MISS, EQ_STATUS_LOCKED])
  rw [State.locked, State.flag, State.frameTaken, State.modRx_fld, State.fld, word, ← State.fld, ← State.flag, State.locked]

theorem State.frameTaken_lineLoop (s : State) (n : Fin 8) (words : List (List Bool)) (w : Windows) :
    (s.frameTaken n words w).lineLoop n = s.lineLoop n := by
  have part : regPart (testBase + (LB_LINE_CODE n.val).off) = .testRegs := (by decide : regPart (testBase + 0x20) = .testRegs)
  exact (s.frameTaken_evolves n words w).fld (by rw [part]; decide)

theorem exec_lineFrameReceived_kept (hd : s.noneDue) (locked : s.locked n = true)
    (inFrame : s.flag (lineBase n) FEC_STATUS_IN_FRAME = true) (markers : (s.markersNow n words).count true < 4)
    (windows : (s.windowsAfter n words).run < 4) :
    exec (.lineFrameReceived n words) s = .next (s.frameTaken n words (s.windowsAfter n words)) := by
  show execLineFrameReceived n words s = _
  have stays : ¬ (4 ≤ (s.markersNow n words).count true ∨ 4 ≤ (s.windowsAfter n words).run) := by omega
  rw [execLineFrameReceived, if_pos ⟨locked, inFrame⟩]
  exact (if_neg stays).trans ((s.frameTaken_evolves n words _).done_eq (by decide) hd)

theorem exec_lineFrameReceived_lost (locked : s.locked n = true)
    (inFrame : s.flag (lineBase n) FEC_STATUS_IN_FRAME = true)
    (lost : 4 ≤ (s.markersNow n words).count true ∨ 4 ≤ (s.windowsAfter n words).run) (loop : s.lineLoop n ≠ 4) :
    exec (.lineFrameReceived n words) s = .next ((s.frameTaken n words (s.windowsAfter n words)).lol n 1).react := by
  show execLineFrameReceived n words s = _
  rw [execLineFrameReceived, if_pos ⟨locked, inFrame⟩]
  refine (if_pos lost).trans (if_neg ?_)
  exact fun far => loop ((s.frameTaken_lineLoop n words _).symm.trans far)

/-- The start of a fast re-lock writes nothing but ACQ_STATE in the words of the equaliser and of the line frame (R104). -/
theorem State.fastRelock_flag (s : State) (n : Fin 8) {f : Field} (hf : f.off ∈ eqWords) (apart : f.Apart EQ_STATUS_ACQ_STATE) :
    (s.fastRelock n).flag (lineBase n) f = s.flag (lineBase n) f := by
  unfold State.fastRelock
  dsimp only
  generalize start : (s.rotHold n).modRx n _ = t
  have unsettled : RxKept n (t.setAcqState n 8) ((t.setAcqState n 8).unsettle n 0) := (RxKept.refl n _).unsettle n 0
  rw [unsettled.flag hf, (t.setAcqState_kept n 8).flag hf, State.flag_setFld_apart _ _ _ apart, ← start, State.flag,
    State.modRx_fld, State.rotHold, State.modRx_fld, State.flag]

/-- A lane that leaves lock leaves its frame (R118). -/
theorem State.loseLock_inFrame (locked : s.locked n = true) :
    (s.loseLock n).flag (lineBase n) FEC_STATUS_IN_FRAME = false := by
  rw [(State.loseLock_kept locked).flag (by decide), State.lockDropped, State.flag_setFlag_apart _ _ _ (by decide),
    State.flag_setFlag_apart _ _ _ (by decide)]
  exact State.flag_setFlag_same _ _ _ (by decide) rfl

theorem State.lol_inFrame (locked : s.locked n = true) (detail : Nat) :
    (s.lol n detail).flag (lineBase n) FEC_STATUS_IN_FRAME = false := by
  rw [State.lol, State.fastRelock_flag _ _ (by decide) (by decide)]
  exact State.loseLock_inFrame ((s.raise_lineFlag _ _ n (by decide)).trans locked)

theorem State.lol_relocking (s : State) (n : Fin 8) (detail : Nat) :
    (s.lol n detail).locked n = false ∧ (s.lol n detail).acqState n = 8 := by
  have relock := ((s.raise (lineSrc n 0x41) detail).loseLock n).fastRelock_relocking n
  exact ⟨relock.locked.trans ((s.raise (lineSrc n 0x41) detail).loseLock_unlocked n).locked, relock.state⟩

end

/-! ### The inner decoder (R120, R121, R131) -/

section
variable {s : State} {n : Fin 8}

/-- The symbols of a codeword whose bits the decoder changed. -/
def symbolsChanged (diff : List Nat) : List Bool :=
  (List.range 64).map fun k => diff.contains (2 * k) || diff.contains (2 * k + 1)

/-- A receiver that has delivered a codeword `c` with the changes `diff`. -/
def LineRx.decoded (r : LineRx) (c : List Bool) (diff : List Nat) : LineRx :=
  { r with
    innerCw := (r.innerCw + 1) % 2 ^ 48
    innerChanged := (r.innerChanged + if diff = [] then 0 else 1) % 2 ^ 48
    innerMulti := (r.innerMulti + if 2 ≤ diff.length then 1 else 0) % 2 ^ 48
    innerBits := (r.innerBits + diff.length) % 2 ^ 48
    innerSyms := (r.innerSyms + (symbolsChanged diff).count true) % 2 ^ 48
    intCw := r.intCw + 1, intBits := r.intBits + diff.length, outer := c.take 120, changed := symbolsChanged diff }

/-- The outer-coded bits of a codeword, counted as traffic. -/
def State.bitsDelivered (s : State) (n : Fin 8) : State := if s.rxFills n then s else s.bwAdd (34 + n.val) 120

theorem State.bitsDelivered_evolves (s : State) (n : Fin 8) : Evolves [.counters] s (s.bitsDelivered n) :=
  .ite (.refl _ s) (State.bwAdd_evolves (.refl _ s) (by decide))

theorem exec_innerCodewordDecode {soft : List SoftBit} {marker : Bool} {y c : List Bool} (hd : s.noneDue)
    (inFrame : s.flag (lineBase n) FEC_STATUS_IN_FRAME = true) (length : soft.length = 128) (hy : y = hardBits soft marker)
    (hc : c = chaseDecode (chaseL (s.laneProfile n)) soft marker) :
    exec (.innerCodewordDecode n soft marker) s = .next ((s.bitsDelivered n).modRx n (·.decoded c (diffBits y c))) := by
  subst hy hc
  show execInnerCodewordDecode n soft marker s = _
  rw [execInnerCodewordDecode, if_pos ⟨inFrame, length⟩]
  have counted := (s.bitsDelivered_evolves n).mono (qs := [.line, .counters]) (by decide)
  exact (State.modRx_evolves counted (by decide)).done_eq (by decide) hd

end

/-! ### A KP4 monitor takes a codeword (R124 to R128) -/

section
variable {s : State} {m : Fin 16} {mon : Kp4Monitor}

/-- The lane behind a codeword: counted, forwarded under the TERMINATE in force, and the TERMINATE of the register taken. -/
def HostLane.codeword (h : HostLane) (mon : Kp4Monitor) (r : RsOutcome) (word : List Nat) (terminate : Bool) : HostLane :=
  match mon with
  | .hr => { h with hr := h.hr.count r, outHr := h.forwarded .hr r word, termHr := terminate }
  | .lr => { h with lr := h.lr.count r, outLr := h.forwarded .lr r word, termLr := terminate }

/-- A codeword counted and forwarded. -/
def State.codewordCounted (s : State) (m : Fin 16) (mon : Kp4Monitor) (r : RsOutcome) (word : List Nat) : State :=
  if mon = .hr then
    ((s.setMon m mon ((s.host[m].mon mon).count r)).setForwarded m mon (s.host[m].forwarded mon r word)).countEvent
      (0x4001 + m.val * 0x100) 1
  else (s.setMon m mon ((s.host[m].mon mon).count r)).setForwarded m mon (s.host[m].forwarded mon r word)

/-- The part behind a codeword, before what an uncorrectable one raises. -/
def State.codewordTaken (s : State) (m : Fin 16) (n : Fin 8) (mon : Kp4Monitor) (r : RsOutcome) (word : List Nat) : State :=
  ((s.codewordCounted m mon r word).codewordBandwidth m n mon).terminateBoundary m mon

theorem State.codewordCounted_evolves (s : State) (m : Fin 16) (mon : Kp4Monitor) (r : RsOutcome) (word : List Nat) :
    Evolves [.host, .counters] s (s.codewordCounted m mon r word) := by
  have counted : Evolves [.host, .counters] s
      ((s.setMon m mon ((s.host[m].mon mon).count r)).setForwarded m mon (s.host[m].forwarded mon r word)) :=
    State.setForwarded_evolves (State.setMon_evolves (.refl _ s) (by decide)) (by decide)
  exact .ite (State.countEvent_evolves counted (by decide)) counted

theorem State.codewordTaken_evolves (s : State) (m : Fin 16) (n : Fin 8) (mon : Kp4Monitor) (r : RsOutcome) (word : List Nat) :
    Evolves [.host, .counters] s (s.codewordTaken m n mon r word) :=
  State.terminateBoundary_evolves (State.codewordBandwidth_evolves (s.codewordCounted_evolves m mon r word) (by decide))
    (by decide)

theorem State.codewordCounted_lineOf (s : State) (m : Fin 16) (mon : Kp4Monitor) (r : RsOutcome) (word : List Nat) :
    (s.codewordCounted m mon r word).lineOf m = s.lineOf m := by
  have counted := s.codewordCounted_evolves m mon r word
  have lanes : (s.codewordCounted m mon r word).lanes = s.lanes := counted.only .lanes (by decide)
  rw [State.lineOf, State.lineOf, lanes]

theorem State.setMon_host (s : State) (m : Fin 16) (mon : Kp4Monitor) (c : Kp4Counters) :
    (s.setMon m mon c).host[m] = s.host[m].setMon mon c := s.modHost_same m _

theorem State.setMon_mon (s : State) (m : Fin 16) (mon : Kp4Monitor) (c : Kp4Counters) :
    (s.setMon m mon c).host[m].mon mon = c := by
  rw [State.setMon_host]
  cases mon <;> rfl

/-- A lane that sends a codeword on. -/
def HostLane.forwards (h : HostLane) (mon : Kp4Monitor) (word : List Nat) : HostLane :=
  match mon with
  | .hr => { h with outHr := word }
  | .lr => { h with outLr := word }

theorem State.setForwarded_host (s : State) (m : Fin 16) (mon : Kp4Monitor) (word : List Nat) :
    (s.setForwarded m mon word).host[m] = s.host[m].forwards mon word := by
  cases mon <;> exact s.modHost_same m _

theorem State.codewordTaken_host (s : State) (m : Fin 16) (n : Fin 8) (mon : Kp4Monitor) (r : RsOutcome) (word : List Nat) :
    (s.codewordTaken m n mon r word).host[m] =
      s.host[m].codeword mon r word (s.flag (hostBase m) (monRegs mon).terminate) := by
  have traffic (t : State) : Evolves [.counters] t (t.codewordBandwidth m n mon) :=
    State.codewordBandwidth_evolves (.refl _ t) (by decide)
  have host (t : State) : (t.codewordBandwidth m n mon).host = t.host := (traffic t).host_eq (by decide)
  have terminate (t : State) : (t.codewordBandwidth m n mon).flag (hostBase m) (monRegs mon).terminate =
      t.flag (hostBase m) (monRegs mon).terminate :=
    (traffic t).hostFlag (by decide) m (by cases mon <;> decide)
  have counted := (s.setMon m mon ((s.host[m].mon mon).count r)).setForwarded_host m mon (s.host[m].forwarded mon r word)
  rw [State.setMon_host] at counted
  rw [State.codewordTaken, State.terminateBoundary, State.modHost_same, host, terminate]
  cases mon
  · exact congrArg (fun h : HostLane => { h with termHr := s.flag (hostBase m) (monRegs .hr).terminate }) counted
  · exact congrArg (fun h : HostLane => { h with termLr := s.flag (hostBase m) (monRegs .lr).terminate }) counted

theorem exec_kp4Codeword_decoded {n : Fin 8} {word : List (BitVec 10)} {r : RsOutcome} (hd : s.noneDue)
    (lock : s.flag (hostBase m) (monRegs mon).cwLock = true) (mapped : s.lineOf m = some n)
    (decoded : rsDecode (word.map BitVec.toNat) = r) (correct : r ≠ .uncorrectable) :
    exec (.kp4Codeword m mon word) s = .next (s.codewordTaken m n mon r (word.map BitVec.toNat)) := by
  show execKp4Codeword m mon word s = _
  have line := (s.codewordCounted_lineOf m mon r (word.map BitVec.toNat)).trans mapped
  rw [State.codewordCounted] at line
  rw [execKp4Codeword, if_pos ⟨lock, by rw [mapped]; rfl⟩]
  dsimp only
  rw [decoded, line]
  have taken := (s.codewordTaken_evolves m n mon r (word.map BitVec.toNat)).done_eq (by decide) hd
  cases r with
  | uncorrectable => exact absurd rfl correct
  | clean => exact taken
  | corrected e bits out => exact taken

/-- A host lane that no line lane carries takes no codeword (R124). -/
theorem exec_kp4Codeword_unmapped (word : List (BitVec 10)) (unmapped : s.lineOf m = none) :
    exec (.kp4Codeword m mon word) s = .next s := by
  show execKp4Codeword m mon word s = _
  rw [execKp4Codeword, if_neg (by rw [unmapped]; simp)]

end

/-! ### The loss of codeword lock (R123, R124, R133) -/

section
variable {s : State} {m : Fin 16}

theorem State.raiseLimited_cases (s : State) (key src detail : Nat) : s.raiseLimited key src detail = s ∨
    ∃ x, s.raiseLimited key src detail = ({ s with limits := x } : State).raise src detail := by
  unfold State.raiseLimited
  split
  · exact (ite_eq_or_eq _ _ _).imp_right fun e => ⟨_, e⟩
  · exact .inr ⟨_, rfl⟩

theorem State.raiseLimited_keeps {src' : Nat} (h : s.isActive src') (key src detail : Nat) :
    (s.raiseLimited key src detail).isActive src' := by
  obtain e | ⟨x, e⟩ := s.raiseLimited_cases key src detail
  · rwa [e]
  · have stays : ({ s with limits := x } : State).isActive src' := h
    rw [e]
    exact State.raise_keeps stays src detail

/-- KP4_UNCORR is held back, or raised with the count of the codewords since its last raise (R133). -/
theorem State.raiseUncorr_cases (s : State) (m : Fin 16) (mon : Kp4Monitor) : s.raiseUncorr m mon = s ∨
    ∃ key detail, s.raiseUncorr m mon =
      (s.raiseLimited key (hostSrc m 0x50) detail).setMon m mon { s.host[m].mon mon with sinceRaise := 0 } :=
  (ite_eq_or_eq _ _ _).imp_right fun e => ⟨_, _, e⟩

theorem State.raiseUncorr_keeps {src : Nat} (h : s.isActive src) (m : Fin 16) (mon : Kp4Monitor) :
    (s.raiseUncorr m mon).isActive src := by
  obtain e | ⟨key, detail, e⟩ := s.raiseUncorr_cases m mon
  · rwa [e]
  · rw [e]
    exact State.raiseLimited_keeps h key _ detail

theorem State.raiseUncorr_uncorr (s : State) (m : Fin 16) (mon : Kp4Monitor) :
    ((s.raiseUncorr m mon).host[m].mon mon).uncorr = (s.host[m].mon mon).uncorr := by
  obtain e | ⟨key, detail, e⟩ := s.raiseUncorr_cases m mon
  · rw [e]
  · rw [e, State.setMon_mon]

theorem State.refreshHostFill_fillOnly (s : State) (m : Fin 16) : FillOnly s (s.refreshHostFill m) := by
  unfold State.refreshHostFill
  split
  · exact s.refreshFill_fillOnly _
  · exact .refl s

/-- The host lane that a loss of codeword lock leaves, before the line lane takes note of it. -/
def State.cwLockCleared (s : State) (m : Fin 16) : State :=
  (s.setFlag (hostBase m) HR_KP4_STATUS_CW_LOCK false).modHost m fun h => { h with hr := { h.hr with run := 0 } }

/-- The line lane takes note of a codeword lock that is gone: nothing of the host lanes moves. -/
theorem State.dropCwLock_evolves_line (s : State) (m : Fin 16) :
    Evolves (.line :: .lineRegs :: raiseParts) (s.cwLockCleared m) (s.dropCwLock m) :=
  State.refreshHostFill_evolves (State.pairRelease_evolves (.refl _ _) (by decide)) (by decide)

theorem State.dropCwLock_unlocks (s : State) (m : Fin 16) :
    (s.dropCwLock m).flag (hostBase m) HR_KP4_STATUS_CW_LOCK = false := by
  rw [(s.dropCwLock_evolves_line m).hostFlag (by decide) m (by decide), State.cwLockCleared, State.flag, State.modHost_fld]
  exact s.flag_setFlag_same _ _ (by decide) rfl

theorem State.dropCwLock_uncorr (s : State) (m : Fin 16) : (s.dropCwLock m).host[m].hr.uncorr = s.host[m].hr.uncorr := by
  rw [(s.dropCwLock_evolves_line m).host_eq (by decide), State.cwLockCleared, State.modHost_same]
  simp only [State.setFlag_other]

theorem State.dropCwLock_keeps {src : Nat} (h : s.isActive src) (m : Fin 16) : (s.dropCwLock m).isActive src := by
  have released : Evolves [.line] (s.cwLockCleared m) ((s.cwLockCleared m).pairRelease m) :=
    State.pairRelease_evolves (.refl _ _) (by decide)
  have cleared : (s.cwLockCleared m).fuse = s.fuse := by
    simp only [State.cwLockCleared, State.modHost_other, State.setFlag_other]
  have fuse : ((s.cwLockCleared m).pairRelease m).fuse = s.fuse := (released.only .fuse (by decide)).trans cleared
  have stays : ((s.cwLockCleared m).pairRelease m).isActive src := by
    unfold State.isActive
    rw [fuse]
    exact h
  exact (((s.cwLockCleared m).pairRelease m).refreshHostFill_fillOnly m).active src stays

/-- The part behind an uncorrectable codeword of an HR monitor. -/
def State.codewordFailed (s : State) (m : Fin 16) (n : Fin 8) (word : List Nat) : State :=
  (s.codewordTaken m n .hr .uncorrectable word).countEvent (0x4002 + m.val * 0x100) 1

/-- The sixteenth uncorrectable codeword in a row loses the lock (R124). -/
theorem exec_kp4Codeword_loses {n : Fin 8} {word : List (BitVec 10)}
    (lock : s.flag (hostBase m) HR_KP4_STATUS_CW_LOCK = true) (mapped : s.lineOf m = some n)
    (fails : rsDecode (word.map BitVec.toNat) = .uncorrectable) (run : 16 ≤ s.host[m].hr.run + 1) :
    exec (.kp4Codeword m .hr word) s = .next ((((s.codewordFailed m n (word.map BitVec.toNat)).raise
      (hostSrc m 0x51) 0).raiseUncorr m .hr).dropCwLock m).react := by
  show execKp4Codeword m .hr word s = _
  have line := (s.codewordCounted_lineOf m .hr .uncorrectable (word.map BitVec.toNat)).trans mapped
  rw [State.codewordCounted] at line
  have lost : (decide (Kp4Monitor.hr = .hr) && decide (16 ≤ ((s.host[m].mon .hr).count .uncorrectable).run)) = true :=
    decide_eq_true run
  rw [execKp4Codeword, if_pos ⟨lock, by rw [mapped]; rfl⟩]
  dsimp only
  rw [fails, line]
  dsimp only
  rw [lost]
  rfl

theorem State.codewordFailed_uncorr (s : State) (m : Fin 16) (n : Fin 8) (word : List Nat) :
    (s.codewordFailed m n word).host[m].hr.uncorr = (s.host[m].hr.uncorr + 1) % 2 ^ 48 := by
  have taken := s.codewordTaken_host m n .hr .uncorrectable word
  exact congrArg (·.hr.uncorr) taken

theorem State.codewordFailed_takes (m : Fin 16) (n : Fin 8) (word : List Nat) {src detail : Nat} (h : s.takes src detail) :
    (s.codewordFailed m n word).takes src detail := by
  have failed : Evolves [.host, .counters] s (s.codewordFailed m n word) :=
    State.countEvent_evolves (s.codewordTaken_evolves m n .hr .uncorrectable word) (by decide)
  exact failed.takes (by decide) (by decide) (by decide) h

/-- A codeword lock that is lost (R124). -/
structure CwLockLost (m : Fin 16) (s u : State) : Prop where
  lock : u.flag (hostBase m) HR_KP4_STATUS_CW_LOCK = false
  uncorr : u.host[m].hr.uncorr = (s.host[m].hr.uncorr + 1) % 2 ^ 48
  active : u.isActive (hostSrc m 0x51)

theorem State.codewordFailed_lost {n : Fin 8} {word : List Nat} (takes : s.takes (hostSrc m 0x51) 0) :
    CwLockLost m s ((((s.codewordFailed m n word).raise (hostSrc m 0x51) 0).raiseUncorr m .hr).dropCwLock m) := by
  have raised : Evolves raiseParts (s.codewordFailed m n word) ((s.codewordFailed m n word).raise (hostSrc m 0x51) 0) :=
    State.raise_evolves (.refl _ _) (by decide)
  have active := State.raise_isActive_of_takes (State.codewordFailed_takes m n word takes) (by decide)
  refine ⟨State.dropCwLock_unlocks _ m, ?_, State.dropCwLock_keeps (State.raiseUncorr_keeps active m .hr) m⟩
  rw [State.dropCwLock_uncorr, ← s.codewordFailed_uncorr m n word, ← raised.host_eq (by decide)]
  exact State.raiseUncorr_uncorr _ m .hr

end

/-! ### The codeword search (R123) -/

section
variable {s : State} {m : Fin 16} {p : Fin 2720}

/-- A host lane with codeword lock at a phase, before its source and the line lane take note of it. -/
def State.cwLockSet (s : State) (m : Fin 16) (p : Fin 2720) : State :=
  (((s.setFlag (hostBase m) HR_KP4_STATUS_CW_LOCK true).bump (hostBase m) HR_KP4_STATUS_LOCK_COUNT).modHost m fun h =>
    { h with hr := { h.hr with run := 0 }, cwPhase := p.val }).terminateBoundary m .hr

/-- The part with that lock. -/
def State.cwLocksAt (s : State) (m : Fin 16) (p : Fin 2720) : State :=
  (((s.cwLockSet m p).quiet (hostSrc m 0x51)).pairHold m).refreshHostFill m

theorem exec_kp4CwLockAcquired {tests : List (Fin 2720 × List (List (BitVec 10)))} (locked : s.hostLocked m = true)
    (checking : s.hostChecking m = false) (lock : s.flag (hostBase m) HR_KP4_STATUS_CW_LOCK = false)
    (found : lockPhase tests = some p) : exec (.kp4CwLockAcquired m tests) s = .next (s.cwLocksAt m p).react := by
  show execKp4CwLockAcquired m tests s = _
  rw [execKp4CwLockAcquired, found]
  exact if_pos ⟨locked, by rw [checking]; decide, by rw [lock]; decide⟩

theorem State.cwLocksAt_evolves (s : State) (m : Fin 16) (p : Fin 2720) :
    Evolves (.line :: .lineRegs :: raiseParts) (s.cwLockSet m p) (s.cwLocksAt m p) :=
  State.refreshHostFill_evolves (State.pairHold_evolves (State.quiet_evolves (.refl _ _) (by decide)) (by decide)) (by decide)

theorem State.cwLockSet_fld (s : State) (m : Fin 16) (p : Fin 2720) (f : Field) : (s.cwLockSet m p).fld (hostBase m) f =
    ((s.setFlag (hostBase m) HR_KP4_STATUS_CW_LOCK true).bump (hostBase m) HR_KP4_STATUS_LOCK_COUNT).fld (hostBase m) f := by
  rw [State.cwLockSet, State.terminateBoundary, State.modHost_fld, State.modHost_fld]

theorem State.cwLocksAt_fld (s : State) (m : Fin 16) (p : Fin 2720) {f : Field} (hf : f.off < 0x10000) :
    (s.cwLocksAt m p).fld (hostBase m) f = ((s.setFlag (hostBase m) HR_KP4_STATUS_CW_LOCK true).bump (hostBase m)
      HR_KP4_STATUS_LOCK_COUNT).fld (hostBase m) f :=
  ((s.cwLocksAt_evolves m p).hostFld (by decide) m hf).trans (s.cwLockSet_fld m p f)

theorem State.cwLocksAt_lock (s : State) (m : Fin 16) (p : Fin 2720) :
    (s.cwLocksAt m p).flag (hostBase m) HR_KP4_STATUS_CW_LOCK = true := by
  rw [State.flag, s.cwLocksAt_fld m p (by decide), State.fld_bump_apart _ _ (by decide), ← State.flag]
  exact s.flag_setFlag_same _ _ (by decide) rfl

theorem State.cwLocksAt_count (s : State) (m : Fin 16) (p : Fin 2720) :
    (s.cwLocksAt m p).fld (hostBase m) HR_KP4_STATUS_LOCK_COUNT = satNat HR_KP4_STATUS_LOCK_COUNT.width
      (s.fld (hostBase m) HR_KP4_STATUS_LOCK_COUNT + 1) := by
  rw [s.cwLocksAt_fld m p (by decide), State.bump_same _ _ (by decide), State.fld_setFlag_apart _ _ _ (by decide)]

theorem State.cwLocksAt_host (s : State) (m : Fin 16) (p : Fin 2720) :
    (s.cwLocksAt m p).host[m].cwPhase = p.val ∧ (s.cwLocksAt m p).host[m].hr.run = 0 := by
  rw [(s.cwLocksAt_evolves m p).host_eq (by decide), State.cwLockSet, State.terminateBoundary, State.modHost_same,
    State.modHost_same]
  exact ⟨rfl, rfl⟩

theorem State.cwLocksAt_quiet (s : State) (m : Fin 16) (p : Fin 2720) : hostSrc m 0x51 ∉ (s.cwLocksAt m p).fuse.rails := by
  have held (t : State) : (t.pairHold m).fuse = t.fuse :=
    (State.pairHold_evolves (ps := [.line]) (.refl _ t) (by decide)).only .fuse (by decide)
  rw [State.cwLocksAt, (State.refreshHostFill_fillOnly _ m).kept.rails, held, State.quiet_rails]
  simp

end

/-! ### Snapshots of the counter blocks (R129, R130) -/

section
variable (s : State) {base : Nat} {f g lo hi : Field} {b : CounterBlock} {clr : Bool} {arrived : List (Fin 4 × Fin 4)}

theorem State.setPair_lo (v : Nat) (fits : lo.lo + lo.width ≤ 32) (h : lo.Apart hi) :
    (s.setPair base lo hi v).fld base lo = v % 2 ^ lo.width :=
  ((s.setFld base lo v).fld_setFld_apart base _ h).trans (Regs.fld_setFld_same _ fits)

theorem State.setPair_hi (v : Nat) (fits : hi.lo + hi.width ≤ 32) :
    (s.setPair base lo hi v).fld base hi = v / 2 ^ 32 % 2 ^ hi.width := Regs.fld_setFld_same _ fits

theorem State.fld_setPair_apart (v : Nat) (h : g.Apart lo) (k : g.Apart hi) :
    (s.setPair base lo hi v).fld base g = s.fld base g :=
  ((s.setFld base lo v).fld_setFld_apart base _ k).trans (s.fld_setFld_apart base _ h)

theorem State.fld_bumpMod_apart (h : g.Apart f) : (s.bumpMod base f).fld base g = s.fld base g :=
  s.fld_setFld_apart _ _ h

/-- The part behind a write of SNAP, with or without CLR. -/
def State.snapped (s : State) (b : CounterBlock) (clr : Bool) (arrived : List (Fin 4 × Fin 4)) : State :=
  if clr then ((s.blockErrors b arrived).snapBlock b).clrBlock b else (s.blockErrors b arrived).snapBlock b

theorem State.snapped_evolves : Evolves [.line, .host, .lineRegs, .hostRegs] s (s.snapped b clr arrived) := by
  have snap : Evolves [.line, .host, .lineRegs, .hostRegs] s ((s.blockErrors b arrived).snapBlock b) :=
    State.snapBlock_evolves (State.blockErrors_evolves (.refl _ s) (by decide)) (by decide)
  exact .ite (State.clrBlock_evolves snap (by decide)) snap

theorem State.clrBlock_regs (b : CounterBlock) : (s.clrBlock b).regs = s.regs := by cases b <;> rfl

theorem State.blockErrors_regs (b : CounterBlock) (arrived : List (Fin 4 × Fin 4)) :
    (s.blockErrors b arrived).regs = s.regs := by
  cases b
  case lineChecker n => exact (apply_ite State.regs _ _ _).trans (ite_self _)
  case hostChecker m => exact (apply_ite State.regs _ _ _).trans (ite_self _)
  all_goals rfl

theorem State.snapped_fld (f : Field) :
    (s.snapped b clr arrived).fld base f = ((s.blockErrors b arrived).snapBlock b).fld base f := by
  cases clr
  · rfl
  · exact congrArg (Regs.fld · base f) (State.clrBlock_regs _ b)

theorem exec_counterBlockSnap {s : State} (hd : s.noneDue) :
    exec (.counterBlockSnap b clr arrived) s = .next (s.snapped b clr arrived) := by
  have snap := (s.snapped_evolves (b := b) (clr := clr) (arrived := arrived)).done_eq (by decide) hd
  cases clr <;> exact snap

theorem exec_counterBlockClr {s : State} (hd : s.noneDue) :
    exec (.counterBlockClr b arrived) s = .next ((s.clrBlock b).blockErrors b arrived) :=
  (State.blockErrors_evolves (ps := [.line, .host]) (State.clrBlock_evolves (.refl _ s) (by decide)) (by decide)).done_eq
    (by decide) hd

theorem State.counterCleared_regsBut (b : CounterBlock) (arrived : List (Fin 4 × Fin 4)) (as : List Nat) :
    RegsBut as s ((s.clrBlock b).blockErrors b arrived) := by
  intro a _
  rw [State.reg_eq, State.blockErrors_regs, State.clrBlock_regs, State.reg_eq]

theorem State.snapBlock_line (b : CounterBlock) : (s.snapBlock b).line = s.line :=
  (State.snapBlock_evolves (ps := [.lineRegs, .hostRegs]) (.refl _ s) (by decide)).only .line (by decide)

theorem State.snapBlock_host (b : CounterBlock) : (s.snapBlock b).host = s.host :=
  (State.snapBlock_evolves (ps := [.lineRegs, .hostRegs]) (.refl _ s) (by decide)).host_eq (by decide)

end

/-! ### The block of the inner decoder -/

section
variable (s : State) (n : Fin 8) (clr : Bool) (arrived : List (Fin 4 × Fin 4))

/-- Its snapshot, SNAP_SEQ counted behind it. -/
structure InnerSnapshot (n : Fin 8) (s t : State) : Prop where
  cwLo : t.fld (lineBase n) INNER_CW_LO_COUNT = s.line[n].rx.innerCw % 2 ^ 32
  cwHi : t.fld (lineBase n) INNER_CW_HI_COUNT = s.line[n].rx.innerCw / 2 ^ 32 % 2 ^ INNER_CW_HI_COUNT.width
  bitsLo : t.fld (lineBase n) INNER_BITS_CHANGED_LO_COUNT = s.line[n].rx.innerBits % 2 ^ 32
  seq : t.fld (lineBase n) FEC_STATUS_SNAP_SEQ =
    (s.fld (lineBase n) FEC_STATUS_SNAP_SEQ + 1) % 2 ^ FEC_STATUS_SNAP_SEQ.width

theorem State.snapBlock_inner : InnerSnapshot n s (s.snapBlock (.inner n)) := by
  constructor <;>
    simp (disch := decide) only [State.snapBlock, State.fld_bumpMod_apart, State.fld_setPair_apart, State.setPair_lo,
      State.setPair_hi, State.bumpMod_same] <;> rfl

/-- A clear of the block (R130). -/
theorem State.clrBlock_inner : (s.clrBlock (.inner n)).line[n].rx.innerCw = 0 ∧
    (s.clrBlock (.inner n)).line[n].rx.innerChanged = 0 ∧ (s.clrBlock (.inner n)).line[n].rx.innerMulti = 0 ∧
    (s.clrBlock (.inner n)).line[n].rx.innerBits = 0 ∧ (s.clrBlock (.inner n)).line[n].rx.innerSyms = 0 := by
  unfold State.clrBlock
  dsimp only
  rw [State.modRx_same]
  exact ⟨rfl, rfl, rfl, rfl, rfl⟩

theorem State.snapped_innerCw : (s.snapped (.inner n) clr arrived).line[n].rx.innerCw =
    if clr then 0 else s.line[n].rx.innerCw := by
  have line : (s.snapBlock (.inner n)).line = s.line := s.snapBlock_line _
  cases clr
  · exact congrArg (·[n].rx.innerCw) line
  · exact (State.clrBlock_inner _ n).1

end

/-! ### The block of a KP4 monitor -/

section
variable (s : State) (m : Fin 16) (mon : Kp4Monitor) (clr : Bool) (arrived : List (Fin 4 × Fin 4))

/-- The counters of a monitor in their pairs of registers. -/
def State.pairsShown (s : State) (m : Fin 16) (mon : Kp4Monitor) (c : Kp4Counters) : State :=
  ((((s.setPair (hostBase m) (monRegs mon).totalLo (monRegs mon).totalHi c.total).setPair (hostBase m) (monRegs mon).corrLo
    (monRegs mon).corrHi c.corr).setPair (hostBase m) (monRegs mon).uncorrLo (monRegs mon).uncorrHi c.uncorr).setPair
    (hostBase m) (monRegs mon).symLo (monRegs mon).symHi c.symErr).setPair (hostBase m) (monRegs mon).bitLo (monRegs mon).bitHi
    c.bitErr

/-- Its histogram. -/
def State.histShown (s : State) (m : Fin 16) (mon : Kp4Monitor) (c : Kp4Counters) : State :=
  s.each (List.finRange 15) fun e s => s.setFld (hostBase m) ((monRegs mon).hist.ix e.val) c.hist[e]

theorem State.snapMon_eq : s.snapMon m mon = (((s.pairsShown m mon (s.host[m].mon mon)).histShown m mon
    (s.host[m].mon mon)).bumpMod (hostBase m) (monRegs mon).snapSeq) := rfl

/-- The histogram lies apart from the other registers of the monitor. -/
theorem State.histShown_fld {g : Field} (c : Kp4Counters) (h : ∀ e : Fin 15, g.Apart ((monRegs mon).hist.ix e.val)) :
    (s.histShown m mon c).fld (hostBase m) g = s.fld (hostBase m) g :=
  State.each_keeps (P := fun t => t.fld (hostBase m) g = s.fld (hostBase m) g)
    (fun e t ht => (t.fld_setFld_apart _ _ (h e)).trans ht) _ rfl

theorem State.snapBlock_total : (s.snapBlock (.kp4 m mon)).fld (hostBase m) (monRegs mon).totalLo =
    (s.host[m].mon mon).total % 2 ^ 32 := by
  show (s.snapMon m mon).fld _ _ = _
  rw [State.snapMon_eq, State.fld_bumpMod_apart _ (by cases mon <;> decide), State.histShown_fld _ _ _ _ (by
    cases mon <;> decide), State.pairsShown]
  cases mon <;> simp (disch := decide) only [State.fld_setPair_apart, State.setPair_lo] <;> rfl

theorem State.snapBlock_monSeq : (s.snapBlock (.kp4 m mon)).fld (hostBase m) (monRegs mon).snapSeq =
    (s.fld (hostBase m) (monRegs mon).snapSeq + 1) % 2 ^ (monRegs mon).snapSeq.width := by
  show (s.snapMon m mon).fld _ _ = _
  rw [State.snapMon_eq, State.bumpMod_same _ _ (by cases mon <;> decide), State.histShown_fld _ _ _ _ (by
    cases mon <;> decide), State.pairsShown]
  cases mon <;> simp (disch := decide) only [State.fld_setPair_apart]

theorem State.snapped_mon : (s.snapped (.kp4 m mon) clr arrived).host[m].mon mon =
    if clr then (s.host[m].mon mon).cleared else s.host[m].mon mon := by
  have host : (s.snapBlock (.kp4 m mon)).host = s.host := s.snapBlock_host _
  cases clr
  · exact congrArg (·[m].mon mon) host
  · show ((s.snapBlock (.kp4 m mon)).setMon m mon (((s.snapBlock (.kp4 m mon)).host[m].mon mon).cleared)).host[m].mon mon = _
    rw [State.setMon_mon, host]
    rfl

end

/-! ### The blocks of the checkers (R160, R204) -/

section
variable (s : State) (n : Fin 8) (m : Fin 16) (clr : Bool) (arrived : List (Fin 4 × Fin 4))

/-- The symbols in error that reach a checker are no symbols compared. -/
theorem State.blockErrors_lineSyms : (s.blockErrors (.lineChecker n) arrived).line[n].rx.patSyms = s.line[n].rx.patSyms ∧
    (s.blockErrors (.lineChecker n) arrived).linePatSyms n = s.linePatSyms n := by
  have counted : (s.linePatErrors n arrived).line[n].rx.patSyms = s.line[n].rx.patSyms ∧
      (s.linePatErrors n arrived).linePatSyms n = s.linePatSyms n := by
    unfold State.linePatSyms State.linePatErrors
    dsimp only
    rw [State.modRx_same]
    exact ⟨rfl, rfl⟩
  unfold State.blockErrors State.when
  dsimp only
  split
  · exact counted
  · exact ⟨rfl, rfl⟩

theorem State.blockErrors_hostSyms : (s.blockErrors (.hostChecker m) arrived).host[m].patSyms = s.host[m].patSyms ∧
    (s.blockErrors (.hostChecker m) arrived).hostPatSyms m = s.hostPatSyms m := by
  have counted : (s.hostPatErrors m arrived).host[m].patSyms = s.host[m].patSyms ∧
      (s.hostPatErrors m arrived).hostPatSyms m = s.hostPatSyms m := by
    unfold State.hostPatSyms State.hostPatErrors
    dsimp only
    rw [State.modHost_same]
    exact ⟨rfl, rfl⟩
  unfold State.blockErrors State.when
  dsimp only
  split
  · exact counted
  · exact ⟨rfl, rfl⟩

/-- The snapshot of a line checker. -/
structure LineCheckerSnapshot (n : Fin 8) (s t : State) : Prop where
  syms : t.fld (lineBase n) PAT_SYMS_LO_COUNT = s.linePatSyms n % 2 ^ 32
  symErr : t.fld (lineBase n) PAT_SYM_ERR_LO_COUNT = s.line[n].rx.patSymErr % 2 ^ 32
  seq : t.fld (lineBase n) RX_PAT_STATUS_SNAP_SEQ =
    (s.fld (lineBase n) RX_PAT_STATUS_SNAP_SEQ + 1) % 2 ^ RX_PAT_STATUS_SNAP_SEQ.width

theorem State.snapBlock_lineChecker : LineCheckerSnapshot n s (s.snapBlock (.lineChecker n)) := by
  constructor <;>
    simp (disch := decide) only [State.snapBlock, State.fld_bumpMod_apart, State.fld_setPair_apart, State.setPair_lo,
      State.bumpMod_same] <;> rfl

/-- The snapshot of a host checker. -/
structure HostCheckerSnapshot (m : Fin 16) (s t : State) : Prop where
  syms : t.fld (hostBase m) HPAT_SYMS_LO_COUNT = s.hostPatSyms m % 2 ^ 32
  symErr : t.fld (hostBase m) HPAT_SYM_ERR_LO_COUNT = s.host[m].patSymErr % 2 ^ 32
  seq : t.fld (hostBase m) HR_PAT_STATUS_SNAP_SEQ =
    (s.fld (hostBase m) HR_PAT_STATUS_SNAP_SEQ + 1) % 2 ^ HR_PAT_STATUS_SNAP_SEQ.width

theorem State.snapBlock_hostChecker : HostCheckerSnapshot m s (s.snapBlock (.hostChecker m)) := by
  constructor <;>
    simp (disch := decide) only [State.snapBlock, State.fld_bumpMod_apart, State.fld_setPair_apart, State.setPair_lo,
      State.bumpMod_same] <;> rfl

theorem State.clrBlock_lineChecker : (s.clrBlock (.lineChecker n)).line[n].rx.patSyms = 0 ∧
    (s.clrBlock (.lineChecker n)).line[n].rx.patSymErr = 0 := by
  unfold State.clrBlock
  dsimp only
  rw [State.modRx_same]
  exact ⟨rfl, rfl⟩

theorem State.clrBlock_hostChecker : (s.clrBlock (.hostChecker m)).host[m].patSyms = 0 ∧
    (s.clrBlock (.hostChecker m)).host[m].patSymErr = 0 := by
  unfold State.clrBlock
  dsimp only
  rw [State.modHost_same]
  exact ⟨rfl, rfl⟩

theorem State.snapped_lineSyms : (s.snapped (.lineChecker n) clr arrived).line[n].rx.patSyms =
    if clr then 0 else s.line[n].rx.patSyms := by
  have line := (s.blockErrors (.lineChecker n) arrived).snapBlock_line (.lineChecker n)
  cases clr
  · exact (congrArg (·[n].rx.patSyms) line).trans (s.blockErrors_lineSyms n arrived).1
  · exact (State.clrBlock_lineChecker _ n).1

theorem State.snapped_hostSyms : (s.snapped (.hostChecker m) clr arrived).host[m].patSyms =
    if clr then 0 else s.host[m].patSyms := by
  have host := (s.blockErrors (.hostChecker m) arrived).snapBlock_host (.hostChecker m)
  cases clr
  · exact (congrArg (·[m].patSyms) host).trans (s.blockErrors_hostSyms m arrived).1
  · exact (State.clrBlock_hostChecker _ m).1

/-- The symbols in error that arrived, as a checker counts them. -/
def symbolsWrong (arrived : List (Fin 4 × Fin 4)) : Nat := (arrived.filter fun e => e.1 != e.2).length

/-- The errors of the cycle of a clear count behind it, under lock (R130, R160). -/
theorem State.lineChecker_symErr (clear : s.line[n].rx.patSymErr = 0) :
    (s.blockErrors (.lineChecker n) arrived).line[n].rx.patSymErr =
      if s.flag (lineBase n) RX_PAT_STATUS_CHK_LOCK then symbolsWrong arrived % 2 ^ 48 else 0 := by
  unfold State.blockErrors State.when
  dsimp only
  split
  · rw [State.linePatErrors, State.modRx_same]
    dsimp only
    rw [clear, Nat.zero_add]
    rfl
  · exact clear

theorem State.hostChecker_symErr (clear : s.host[m].patSymErr = 0) :
    (s.blockErrors (.hostChecker m) arrived).host[m].patSymErr =
      if s.flag (hostBase m) HR_PAT_STATUS_CHK_LOCK then symbolsWrong arrived % 2 ^ 48 else 0 := by
  unfold State.blockErrors State.when
  dsimp only
  split
  · rw [State.hostPatErrors, State.modHost_same]
    dsimp only
    rw [clear, Nat.zero_add]
    rfl
  · exact clear

end

/-! ### The BER estimate (R132, R133) -/

section
variable {s : State} {n : Fin 8}

/-- The intervals of the run, newest first, with the one that ends. -/
def State.intervals (s : State) (n : Fin 8) : List (Nat × Nat) :=
  ((s.line[n].rx.intBits, 128 * s.line[n].rx.intCw) :: s.line[n].rx.berRun).take 1000

/-- An interval that ends starts the next one, and the estimate becomes valid. -/
def State.intervalEnded (s : State) (n : Fin 8) (low : Bool) : State :=
  ((s.modRx n fun r => { r with berRun := s.intervals n, intCw := 0, intBits := 0 }).setFlag (lineBase n)
    FEC_STATUS_BER_VALID true).setFlag (lineBase n) FEC_STATUS_LOW_COUNT low

/-- The estimate in its register. -/
def State.estimateShown (s : State) (n : Fin 8) (f : Nat × Nat) : State :=
  (s.setFld (lineBase n) BER_EST_MANT f.1).setFld (lineBase n) BER_EST_EXP f.2

/-- The estimate in its register, and whether its source is held. -/
def State.berShown (s : State) (n : Fin 8) (f : Nat × Nat) (held : Bool) : State :=
  (s.estimateShown n f).modRx n fun r => { r with berHeld := held }

theorem State.estimateShown_fld (s : State) (n : Fin 8) (f : Nat × Nat) {g : Field} (h : g.off ≠ BER_EST_MANT.off) :
    (s.estimateShown n f).fld (lineBase n) g = s.fld (lineBase n) g := by
  rw [State.estimateShown, State.fld_setFld_apart (f := BER_EST_EXP) _ _ _ (.inl h), State.fld_setFld_apart _ _ _ (.inl h)]

/-- LOW_COUNT of a run of 1,000 intervals. -/
def lowCount (run : List (Nat × Nat)) (changed : Nat) : Bool := decide (1000 ≤ run.length) && decide (changed < 1000)

theorem State.intervalEnded_evolves (s : State) (n : Fin 8) (low : Bool) :
    Evolves [.free, .line, .lineRegs] s (s.intervalEnded n low) :=
  State.setFlag_evolves (State.setFlag_evolves (State.modRx_evolves (.refl _ s) (by decide))
    (regPart_line (by decide) (by decide))) (regPart_line (by decide) (by decide))

theorem State.berShown_evolves {t : State} (h : Evolves [.free, .line, .lineRegs] s t) (n : Fin 8) (f : Nat × Nat)
    (held : Bool) : Evolves [.free, .line, .lineRegs] s (t.berShown n f held) :=
  State.modRx_evolves (State.setFld_evolves (State.setFld_evolves h (regPart_line (by decide) (by decide)))
    (regPart_line (by decide) (by decide))) (by decide)

/-- What the end of an interval shows. -/
structure BerShown (n : Fin 8) (s : State) (f : Nat × Nat) (low : Bool) (t : State) : Prop where
  run : t.line[n].rx.berRun = s.intervals n
  bits : t.line[n].rx.intBits = 0
  words : t.line[n].rx.intCw = 0
  valid : t.flag (lineBase n) FEC_STATUS_BER_VALID = true
  low : t.flag (lineBase n) FEC_STATUS_LOW_COUNT = low
  mant : t.fld (lineBase n) BER_EST_MANT = f.1 % 2 ^ BER_EST_MANT.width
  exp : t.fld (lineBase n) BER_EST_EXP = f.2 % 2 ^ BER_EST_EXP.width

theorem State.intervalEnded_fld (s : State) (n : Fin 8) (low : Bool) {g : Field} (h : g.off ≠ FEC_STATUS_BER_VALID.off) :
    (s.intervalEnded n low).fld (lineBase n) g = s.fld (lineBase n) g := by
  rw [State.intervalEnded, State.fld_setFlag_apart (f := FEC_STATUS_LOW_COUNT) _ _ _ (.inl h),
    State.fld_setFlag_apart _ _ _ (.inl h), State.modRx_fld]

theorem State.intervalEnded_flags (s : State) (n : Fin 8) (low : Bool) :
    (s.intervalEnded n low).flag (lineBase n) FEC_STATUS_BER_VALID = true ∧
    (s.intervalEnded n low).flag (lineBase n) FEC_STATUS_LOW_COUNT = low := by
  unfold State.intervalEnded
  generalize s.modRx n _ = t
  refine ⟨?_, State.flag_setFlag_same _ _ low (by decide) rfl⟩
  rw [State.flag_setFlag_apart _ _ _ (by decide)]
  exact t.flag_setFlag_same _ true (by decide) rfl

/-- Free values are no part of what is shown. -/
theorem State.berShown_shown {low : Bool} {t : State} (free : Evolves [.free] (s.intervalEnded n low) t) (f : Nat × Nat)
    (held : Bool) : BerShown n s f low (t.berShown n f held) := by
  have line : t.line = (s.intervalEnded n low).line := free.only .line (by decide)
  have rx : t.line[n].rx = { s.line[n].rx with berRun := s.intervals n, intCw := 0, intBits := 0 } := by
    rw [line, State.intervalEnded]
    simp only [State.setFlag_other, State.modRx_same]
  have shown (g : Field) (h : g.off ≠ BER_EST_MANT.off) (lt : g.off < 0x10000) : (t.berShown n f held).flag (lineBase n) g =
      (s.intervalEnded n low).flag (lineBase n) g := by
    rw [State.berShown, State.flag, State.modRx_fld, State.estimateShown_fld _ _ _ h, free.lineFld (by decide) n lt, State.flag]
  obtain ⟨valid, lowShown⟩ := s.intervalEnded_flags n low
  refine ⟨?run, ?bits, ?words, (shown _ (by decide) (by decide)).trans valid, (shown _ (by decide) (by decide)).trans lowShown,
    ?mant, ?exp⟩
  case mant =>
    rw [State.berShown, State.modRx_fld, State.estimateShown, State.fld_setFld_apart _ _ _ (by decide), State.fld_eq,
      State.setFld_regs, Regs.fld_setFld_same _ (by decide)]
  case exp =>
    rw [State.berShown, State.modRx_fld, State.estimateShown, State.fld_eq, State.setFld_regs,
      Regs.fld_setFld_same _ (by decide)]
  all_goals simp only [State.berShown, State.modRx_same, State.estimateShown, State.setFld_other, rx]

/-- The error rate that a run of `changed` changed bits shows. -/
def berEstimate (changed : Nat) (f : Nat × Nat) : Rat := if changed = 0 then 0 else (f.1 : Rat) / 1000 / 10 ^ f.2

/-- An estimate that is not above its threshold is published without a raise (R133). -/
theorem exec_berPublish_silent {w f : Nat × Nat} {t : State} (inFrame : s.flag (lineBase n) FEC_STATUS_IN_FRAME = true)
    (window : berWindow (s.intervals n) 0 0 = w)
    (value : (s.intervalEnded n (lowCount (s.intervals n) w.1)).berValue w = (f, t))
    (below : ¬ 1 < berEstimate w.1 f ^ 16 * 10 ^ s.fld (lineBase n) FEC_CTRL_BER_WARN) :
    ∃ held, exec (.berPublish n) s = done (t.berShown n f held) := by
  have free : Evolves [.free] (s.intervalEnded n (lowCount (s.intervals n) w.1)) t :=
    State.berValue_evolves (.refl _ _) (by decide) value
  have warn : (t.estimateShown n f).fld (lineBase n) FEC_CTRL_BER_WARN = s.fld (lineBase n) FEC_CTRL_BER_WARN := by
    rw [State.estimateShown_fld _ _ _ (by decide), free.lineFld (by decide) n (by decide),
      State.intervalEnded_fld _ _ _ (by decide)]
  have high : decide (1 < berEstimate w.1 f ^ 16 * 10 ^ (t.estimateShown n f).fld (lineBase n) FEC_CTRL_BER_WARN) = false := by
    rw [warn]; exact decide_eq_false below
  rw [State.intervals] at window
  rw [State.intervalEnded, lowCount, State.intervals] at value
  rw [berEstimate, State.estimateShown] at high
  show ∃ held, execBerPublish n s = done (t.berShown n f held)
  rw [execBerPublish, if_pos inFrame]
  dsimp only
  rw [window, value]
  dsimp only
  rw [high]
  exact ⟨_, rfl⟩

theorem exec_berPublish {w f : Nat × Nat} (hd : s.noneDue) (inFrame : s.flag (lineBase n) FEC_STATUS_IN_FRAME = true)
    (window : berWindow (s.intervals n) 0 0 = w)
    (value : ((s.intervalEnded n (lowCount (s.intervals n) w.1)).berValue w).1 = f)
    (below : ¬ 1 < berEstimate w.1 f ^ 16 * 10 ^ s.fld (lineBase n) FEC_CTRL_BER_WARN) : ∃ t : State,
    exec (.berPublish n) s = .next t ∧ BerShown n s f (lowCount (s.intervals n) w.1) t ∧ t.fuse = s.fuse := by
  obtain ⟨t, valued⟩ : ∃ t, (s.intervalEnded n (lowCount (s.intervals n) w.1)).berValue w = (f, t) :=
    ⟨_, by rw [← value]⟩
  obtain ⟨held, silent⟩ := exec_berPublish_silent inFrame window valued below
  have published := State.berShown_evolves (State.berValue_evolves (s.intervalEnded_evolves n _) (by decide) valued) n f held
  exact ⟨_, silent.trans (published.done_eq (by decide) hd), State.berShown_shown (State.berValue_evolves (.refl _ _)
    (by decide) valued) f held, published.only .fuse (by decide)⟩

/-- A run whose newest interval alone has 1,000 changed bits is that interval (R132). -/
theorem State.window_newest (s : State) (n : Fin 8) (h : 1000 ≤ s.line[n].rx.intBits) :
    berWindow (s.intervals n) 0 0 = (s.line[n].rx.intBits, 128 * s.line[n].rx.intCw) := by
  have stops (run : List (Nat × Nat)) (b : Nat) : berWindow run s.line[n].rx.intBits b = (s.line[n].rx.intBits, b) := by
    cases run with
    | nil => rfl
    | cons x rest => exact if_pos h
  rw [State.intervals, List.take_succ_cons, berWindow, if_neg (by decide), Nat.zero_add, Nat.zero_add, stops]

theorem State.window_clean (s : State) (n : Fin 8) (bits : s.line[n].rx.intBits = 0) (run : s.line[n].rx.berRun = []) :
    (berWindow (s.intervals n) 0 0).1 = 0 := by
  rw [State.intervals, bits, run]
  rfl

end

/-- Settles O36: each command by its equation, the losses of lock by what the fast re-lock and the fill leave of the lane. -/
theorem framesInnerCodeAndMonitors : Obligations.FramesInnerCodeAndMonitors := by
  unfold Obligations.FramesInnerCodeAndMonitors
  refine ⟨?frame, ?frameLost, ?inner, ?codeword, ?lost, ?unmapped, ?search, ?terminate, ?snapInner, ?snapMonitor, ?snapLine,
    ?snapHost, ?clrInner, ?clrMonitor, ?clrLine, ?clrHost, ?ber, ?berClean⟩
  case frame =>
    rintro n words w s hd locked inFrame rfl markers windows
    refine ⟨_, exec_lineFrameReceived_kept hd locked inFrame markers windows, ?_, ?_, ?_, ?_, ?_, ?_⟩
    case refine_5 => exact (State.modRx_fld _ n _ _ _).trans (s.frameMarked_miss n _)
    case refine_6 => exact (s.frameMarked_regsBut n _).modRx n _
    all_goals rw [State.frameTaken, State.modRx_same]; rfl
  case frameLost =>
    rintro n words w s hd locked inFrame rfl lost loop
    have taken := (s.frameTaken_locked n words (s.windowsAfter n words)).trans locked
    obtain ⟨unlocked, state⟩ := (s.frameTaken n words (s.windowsAfter n words)).lol_relocking n 1
    exact ⟨_, exec_lineFrameReceived_lost locked inFrame lost loop, unlocked, State.lol_inFrame taken 1, state⟩
  case inner =>
    rintro n soft marker y c changed s hd inFrame length hy hc rfl
    refine ⟨_, exec_innerCodewordDecode hd inFrame length hy hc, ?_⟩
    have rx : ((s.bitsDelivered n).modRx n (·.decoded c (diffBits y c))).line[n].rx = s.line[n].rx.decoded c (diffBits y c) := by
      have line : (s.bitsDelivered n).line = s.line := (s.bitsDelivered_evolves n).only .line (by decide)
      rw [State.modRx_same, line]
    rw [rx]
    exact ⟨rfl, rfl, rfl, rfl, rfl, rfl, rfl, ((s.bitsDelivered_evolves n).regsBut (by decide) []).modRx n _⟩
  case codeword =>
    rintro m mon word r s hd lock mapped rfl correct
    obtain ⟨n, line⟩ := Option.isSome_iff_exists.1 mapped
    refine ⟨_, exec_kp4Codeword_decoded hd lock line rfl correct, ?_⟩
    rw [State.codewordTaken_host]
    cases mon <;> exact ⟨rfl, rfl, rfl, (s.codewordTaken_evolves m n _ _ _).regsBut (by decide) []⟩
  case lost =>
    intro m word s hd lock mapped fails run takes
    obtain ⟨n, line⟩ := Option.isSome_iff_exists.1 mapped
    obtain ⟨lock', uncorr, active⟩ := State.codewordFailed_lost (n := n) (word := word.map BitVec.toNat) takes
    exact ⟨_, exec_kp4Codeword_loses lock line fails run, lock', uncorr, active⟩
  case unmapped => exact fun m mon word s h => exec_kp4Codeword_unmapped word h
  case search =>
    intro m tests p s hd locked checking lock found
    obtain ⟨phase, run⟩ := s.cwLocksAt_host m p
    exact ⟨_, exec_kp4CwLockAcquired locked checking lock found, s.cwLocksAt_lock m p, phase, s.cwLocksAt_count m p, run,
      s.cwLocksAt_quiet m p⟩
  case terminate =>
    intro m mon on s hd
    refine ⟨_, done_of_noneDue hd, s.flag_setFlag_same _ _ ?_ ?_, s.setFld_regsBut _ _ _⟩ <;> cases mon <;> decide
  case snapInner =>
    rintro b clr arrived n s hd rfl
    obtain ⟨cwLo, cwHi, bitsLo, seq⟩ := s.snapBlock_inner n
    exact ⟨_, exec_counterBlockSnap hd, (s.snapped_fld _).trans cwLo, (s.snapped_fld _).trans cwHi,
      (s.snapped_fld _).trans bitsLo, (s.snapped_fld _).trans seq, s.snapped_innerCw n clr arrived⟩
  case snapMonitor =>
    rintro b clr arrived m mon s hd rfl
    exact ⟨_, exec_counterBlockSnap hd, (s.snapped_fld _).trans (s.snapBlock_total m mon),
      (s.snapped_fld _).trans (s.snapBlock_monSeq m mon), s.snapped_mon m mon clr arrived⟩
  case snapLine =>
    rintro b clr arrived n s hd rfl
    obtain ⟨syms, symErr, seq⟩ := (s.blockErrors (.lineChecker n) arrived).snapBlock_lineChecker n
    refine ⟨_, exec_counterBlockSnap hd, ?_, (s.snapped_fld _).trans symErr, ?_, s.snapped_lineSyms n clr arrived⟩
    · rw [s.snapped_fld, syms, (s.blockErrors_lineSyms n arrived).2]
    · rw [s.snapped_fld, seq, State.fld_eq, State.blockErrors_regs, State.fld_eq]
  case snapHost =>
    rintro b clr arrived m s hd rfl
    obtain ⟨syms, symErr, seq⟩ := (s.blockErrors (.hostChecker m) arrived).snapBlock_hostChecker m
    refine ⟨_, exec_counterBlockSnap hd, ?_, (s.snapped_fld _).trans symErr, ?_, s.snapped_hostSyms m clr arrived⟩
    · rw [s.snapped_fld, syms, (s.blockErrors_hostSyms m arrived).2]
    · rw [s.snapped_fld, seq, State.fld_eq, State.blockErrors_regs, State.fld_eq]
  case clrInner =>
    rintro b arrived n s hd rfl
    obtain ⟨cw, changed, multi, bits, syms⟩ := s.clrBlock_inner n
    exact ⟨_, exec_counterBlockClr hd, cw, changed, multi, bits, syms, s.counterCleared_regsBut _ _ _⟩
  case clrMonitor =>
    rintro b arrived m mon s hd rfl
    exact ⟨_, exec_counterBlockClr hd, s.setMon_mon m mon _, s.counterCleared_regsBut _ _ _⟩
  case clrLine =>
    rintro b arrived n s hd rfl
    obtain ⟨syms, clear⟩ := s.clrBlock_lineChecker n
    exact ⟨_, exec_counterBlockClr hd, (State.blockErrors_lineSyms _ n arrived).1.trans syms,
      State.lineChecker_symErr _ n arrived clear, s.counterCleared_regsBut _ _ _⟩
  case clrHost =>
    rintro b arrived m s hd rfl
    obtain ⟨syms, clear⟩ := s.clrBlock_hostChecker m
    exact ⟨_, exec_counterBlockClr hd, (State.blockErrors_hostSyms _ m arrived).1.trans syms,
      State.hostChecker_symErr _ m arrived clear, s.counterCleared_regsBut _ _ _⟩
  case ber =>
    rintro n changed bits f s hd inFrame rfl rfl many _ rfl below
    have nonzero : s.line[n].rx.intBits ≠ 0 := by omega
    have clear : lowCount (s.intervals n) s.line[n].rx.intBits = false := by
      rw [lowCount, decide_eq_false (Nat.not_lt.2 many), Bool.and_false]
    obtain ⟨t, published, shown, -⟩ := exec_berPublish hd inFrame (s.window_newest n many)
      (congrArg Prod.fst (if_neg nonzero)) (by rwa [berEstimate, if_neg nonzero])
    exact ⟨t, published, shown.run, shown.bits, shown.words, shown.valid, shown.low.trans clear, shown.mant, shown.exp⟩
  case berClean =>
    intro n s hd inFrame bits run
    have clean := s.window_clean n bits run
    obtain ⟨t, published, shown, fuse⟩ := exec_berPublish hd inFrame rfl rfl (by rw [berEstimate, if_pos clean]; norm_num)
    exact ⟨t, published, fuse, shown.valid⟩

end Sys2Proof.Machine
end

section
/-! The state that reset leaves (O3). -/

namespace Sys2Proof.Machine

open Reg

/-- Settles O3, field by field from the words that the register map gives for reset. -/
theorem resetState : Obligations.ResetState := by
  unfold Obligations.ResetState
  have lineTaps : ∀ n : Fin 8, ∀ k : Fin 9,
      bitsInt 12 (State.reset.fld (lineBase n) (TX_FIR_CUR.ix k.val)) = if k.val = 2 then 512 else 0 := by
    decide +kernel
  have hostTaps : ∀ m : Fin 16, State.reset.hostTaps m HT_FIR_CUR = [0, 0, 64, 0, 0] := by decide +kernel
  have ceWarn : State.reset.fld memProtBase MP_CTRL_CE_WARN = 256 := by decide +kernel
  have spares : State.reset.fld memProtBase RETIRE_STATUS_CELLAR_SPARES = 64 := by decide +kernel
  have scrubs : State.reset.flag memProtBase SCRUB_CTRL_SCRUB_EN = true := by decide +kernel
  exact ⟨⟨rfl, rfl, rfl, rfl, rfl, rfl, rfl, rfl⟩, lineTaps, hostTaps, ceWarn, spares, scrubs⟩

end Sys2Proof.Machine
end

section
/-! The refutation of ResetsAndBoot (O25).  Its clause on step 6 says that a part whose slots both fail goes to DOWNLOAD with
DEV_STATE 2 wherever the part was not in safe state before.  The set of source 0x8008 can hold SAFE (R333): the raise of the
first slot that fails then enters safe state, and DEV_STATE reads 4.  The clause gives its state only up to the reactions
that follow, so the first part shows that no reaction changes DEV_STATE under such sets. -/

namespace Sys2Proof.Machine

open Reg

/-! ### The reactions leave DEV_STATE as it is -/

/-- Sets under which no source but IMAGE_AUTH_FAIL enters safe state beside those of severity S4. -/
def imageSets : List (Nat × Nat) := [(0x8008, rSafe)]

/-- The sets in force stand, and under `imageSets` so does DEV_STATE. -/
structure DevStands (s t : State) : Prop where
  sets : t.fuse.sets = s.fuse.sets
  dev : s.fuse.sets = imageSets → t.fld systemBase STATUS_DEV_STATE = s.fld systemBase STATUS_DEV_STATE

section
variable {s t u : State}

theorem DevStands.refl (s : State) : DevStands s s := ⟨rfl, fun _ => rfl⟩

theorem DevStands.trans (h : DevStands s t) (k : DevStands t u) : DevStands s u :=
  ⟨k.sets.trans h.sets, fun e => (k.dev (h.sets.trans e)).trans (h.dev e)⟩

theorem DevStands.ite {c : Prop} [Decidable c] (h : DevStands s t) (k : DevStands s u) :
    DevStands s (if c then t else u) := by split <;> assumption

theorem DevStands.foldl {α : Type} {f : State → α → State} (hf : ∀ x a, DevStands x (f x a)) (l : List α) (s : State) :
    DevStands s (l.foldl f s) := by
  induction l generalizing s with
  | nil => exact .refl s
  | cons a l ih => exact (hf s a).trans (ih (f s a))

theorem DevStands.each {α : Type} {f : α → State → State} (hf : ∀ a x, DevStands x (f a x)) (l : List α) (s : State) :
    DevStands s (s.each l f) := DevStands.foldl (fun x a => hf a x) l s

/-- What the reactions of a raise change outside the Fuse Box and the System block. -/
def quietReactParts : List Part := (reactParts.erase .fuse).erase .systemRegs

/-- An operation that reaches neither the Fuse Box nor the System block. -/
theorem Evolves.devStands (h : Evolves quietReactParts s t) : DevStands s t :=
  ⟨by rw [show t.fuse = s.fuse from h.only .fuse (by decide)], fun _ => h.fld (by decide)⟩

theorem DevStands.andThen (h : DevStands s t) (k : Evolves quietReactParts t u) : DevStands s u := h.trans k.devStands

end

/-! ### Raises -/

/-- The source starts no SAFE reaction under `imageSets`. -/
abbrev NeverSafe (src : Nat) : Prop := src ≠ 0x8008 ∧ srcDefault src &&& rSafe = 0

section
variable (s : State) (n : Fin 8) {src : Nat}

theorem State.effSet_neverSafe (h : NeverSafe src) (e : s.fuse.sets = imageSets) (hide : Nat) :
    s.effSet src hide &&& rSafe = 0 := by
  have set : s.srcSet src = srcDefault src := by
    simp [State.srcSet, e, imageSets, Sparse.get, Sparse.find?, h.1.symm]
  unfold State.effSet
  split <;> simp [set, Nat.and_right_comm _ _ rSafe, h.2]

theorem State.attn_devStands {f : Field} (h : STATUS_DEV_STATE.off ≠ f.off) : DevStands s (s.attn f) := by
  refine ⟨by simp, fun _ => ?_⟩
  rw [State.fld_eq, State.attn, State.attnEdge_regs]
  exact s.fld_setFld_apart _ _ (.inl h)

/-- What a raise that enters no safe state does to DEV_STATE. -/
theorem State.raiseTail_dev (c d : Bool) (calm : d = false) :
    (if d then ((if c then s.attn ATTN_CAUSE_FAULT else s).attn ATTN_CAUSE_SAFE).setFld systemBase STATUS_DEV_STATE 4
      else if c then s.attn ATTN_CAUSE_FAULT else s).fld systemBase STATUS_DEV_STATE =
      s.fld systemBase STATUS_DEV_STATE := by
  have alert : (s.attn ATTN_CAUSE_FAULT).fld systemBase STATUS_DEV_STATE = s.fld systemBase STATUS_DEV_STATE := by
    rw [State.fld_eq, State.attn, State.attnEdge_regs]
    exact s.fld_setFld_apart _ _ (by decide)
  rw [calm]
  cases c
  · rfl
  · exact alert

theorem State.raiseCore_sets (src detail hide : Nat) : (s.raiseCore src detail hide).fuse.sets = s.fuse.sets := by
  have enter (f : FuseBox) (e : HistEntry) : (f.enter e).sets = f.sets := by unfold FuseBox.enter; split <;> rfl
  unfold State.raiseCore
  split
  · rfl
  · split
    · rfl
    · simp [apply_ite State.fuse, apply_ite FuseBox.sets, enter, FuseBox.activate]

theorem State.raiseCore_devStands (h : NeverSafe src) (detail hide : Nat) :
    DevStands s (s.raiseCore src detail hide) := by
  refine ⟨s.raiseCore_sets src detail hide, fun e => ?_⟩
  have calm := s.effSet_neverSafe h e hide
  unfold State.raiseCore
  split
  · rfl
  · split
    · rfl
    · refine State.raiseTail_dev _ _ _ ?_
      simpa [State.effSet] using calm

theorem State.attic_devStands (x : Attic) : DevStands s { s with attic := x } := ⟨rfl, fun _ => rfl⟩

theorem State.pushRecord_devStands (r : AtticRecord) : DevStands s (s.pushRecord r) := by
  have overflow (x : Attic) (detail : Nat) : DevStands s ({ s with attic := x }.raiseCore 0x0012 detail 0) :=
    (s.attic_devStands x).trans (State.raiseCore_devStands _ (by decide) _ _)
  unfold State.pushRecord
  split
  · exact ⟨rfl, fun _ => rfl⟩
  · exact overflow _ _

theorem State.atticEvent_devStands (type : Nat) (payload : List Byte) : DevStands s (s.atticEvent type payload) := by
  have formed (x : Attic) (r : AtticRecord) : DevStands s ({ s with attic := x }.pushRecord r) :=
    (s.attic_devStands x).trans (State.pushRecord_devStands _ r)
  exact .ite (.ite ⟨rfl, fun _ => rfl⟩ (formed _ _)) (.refl s)

theorem State.countSafe_devStands (entered : Bool) : DevStands s (s.countSafe entered) :=
  .ite (s.attic_devStands _) (.refl s)

theorem State.raise_devStands (h : NeverSafe src) (detail : Nat) : DevStands s (s.raise src detail) := by
  have record (u : State) (due entered : Bool) : DevStands u (if due then
      (u.countSafe entered).atticEvent 2 (u.countSafe entered).faultPayload else u.countSafe entered) :=
    .ite ((u.countSafe_devStands _).trans (State.atticEvent_devStands _ _ _)) (u.countSafe_devStands _)
  unfold State.raise State.raiseHiding
  exact (s.raiseCore_devStands h (detail % 0x10000) 0).trans (record _ _ _)

theorem State.quiet_devStands (src : Nat) : DevStands s (s.quiet src) := by
  refine ⟨?_, fun _ => by rw [State.fld_eq, State.quiet_regs, State.fld_eq]⟩
  unfold State.quiet
  dsimp only
  split
  · rfl
  · split
    · simp [State.leave, apply_ite FuseBox.sets]
    · rfl

/-! ### The operations that a reaction goes through -/

theorem State.fadeStop_devStands {r : FadeRegs} (h : r = nlcRegs ∨ r = pdRegs) : DevStands s (s.fadeStop n r) := by
  have block : r.InBlock := by rcases h with rfl | rfl; exacts [nlcRegs_inBlock, pdRegs_inBlock]
  have source : NeverSafe (lineSrc n r.src) := by
    rcases h with rfl | rfl <;> revert n <;> decide
  have words : DevStands s (((s.setFlag (lineBase n) r.fading false).setFlag (lineBase n) r.pending true).bump
      (lineBase n) r.restarts) :=
    (State.bump_evolves (State.setFlag_evolves (State.setFlag_evolves (.refl _ s) ?_) ?_) ?_).devStands
  · exact .ite (words.trans (State.raise_devStands _ source _)) (.refl s)
  all_goals exact regPart_line (block _ (by simp)) (by decide)

theorem State.txHold_devStands : DevStands s (s.txHold n) := by
  have held : DevStands s ((s.setTxState n 3).modTx n fun t => { t with heldFromCm := false }) :=
    (State.modTx_evolves (State.setTxState_evolves (.refl _ s) (by decide)) (by decide)).devStands
  exact held.trans (State.fadeStop_devStands _ n (.inr rfl))

theorem State.setCauses_devStands (set clear : Nat) : DevStands s (s.setCauses n set clear) := by
  have caused (v : Nat) : DevStands s (s.setFld (lineBase n) TX_STATUS_SQ_CAUSE v) :=
    (State.setFld_evolves (.refl _ s) (regPart_line (by decide) (by decide))).devStands
  have ramps (t : State) : DevStands t (t.txRamp n) := (State.txRamp_evolves (.refl _ t) (by decide)).devStands
  exact .ite ((caused _).trans (State.txHold_devStands _ n)) (.ite ((caused _).trans (ramps _)) (caused _))

theorem State.setCause_devStands (bit : Nat) (on : Bool) : DevStands s (s.setCause n bit on) :=
  .ite (s.setCauses_devStands n _ _) (s.setCauses_devStands n _ _)

theorem State.refreshFill_devStands : DevStands s (s.refreshFill n) := by
  have episodes (f : LaneLink → LaneLink) : DevStands s (s.modLinkOf n f) :=
    (State.modLinkOf_evolves (.refl _ s) (by decide)).devStands
  exact (episodes _).trans (State.setCause_devStands _ n 0 _)

theorem State.followEnd_devStands (stream : Option (Fin 16)) : DevStands s (s.followEnd n stream) := by
  have streams (f : LaneLink → LaneLink) : DevStands s (s.modLinkOf n f) :=
    (State.modLinkOf_evolves (.refl _ s) (by decide)).devStands
  exact .ite (.ite ((streams _).trans (State.quiet_devStands _ _)) (streams _)) (.refl s)

theorem State.loseLock_devStands : DevStands s (s.loseLock n) := by
  have framed : DevStands s (s.readoutsDown n) :=
    (State.setReg_evolves (State.setFld_evolves (State.frameDown_evolves (State.setFlag_evolves (.refl _ s)
      (regPart_line (by decide) (by decide))) (by decide)) (regPart_line (by decide) (by decide)))
      (regPart_line (by decide) (by decide))).devStands
  have faded : DevStands s (s.fadeDown n) := .ite (framed.trans (State.fadeStop_devStands _ n (.inl rfl))) framed
  have dropped : DevStands s (((s.fadeDown n).unsettle n 0).dropAlignment n) :=
    faded.andThen (State.dropAlignment_evolves (State.unsettle_evolves (.refl _ _) (by decide)) (by decide))
  rw [State.loseLock_eq]
  exact .ite ((dropped.trans (State.followEnd_devStands _ n none)).trans (State.refreshFill_devStands _ n)) (.refl s)

theorem State.acqStart_devStands : DevStands s (s.acqStart n) := by
  have starts (t : State) : DevStands t (t.acqBegun n) := ((t.acqBegun_evolves n).mono (by decide)).devStands
  have waits (t : State) (f : LineRx → LineRx) : DevStands t (t.modRx n f) :=
    (State.modRx_evolves (.refl _ t) (by decide)).devStands
  exact (s.loseLock_devStands n).trans (.ite (starts _) (waits _ _))

theorem State.lineReacq_devStands : DevStands s (s.lineReacq n) := .ite (.refl s) (s.acqStart_devStands n)

theorem State.lineClocksReturn_devStands (near : Bool) : DevStands s (s.lineClocksReturn n near) := by
  have hold : DevStands s (s.rotHold n) := (State.rotHold_evolves (.refl _ s) (by decide)).devStands
  have relocks (t : State) : DevStands t (t.fastRelock n) := (State.fastRelock_evolves (.refl _ t) (by decide)).devStands
  have runs (t : State) (f : LineRx → LineRx) : DevStands t (t.modRx n f) :=
    (State.modRx_evolves (.refl _ t) (by decide)).devStands
  exact .ite (s.acqStart_devStands n) (.ite (hold.trans (.ite (runs _ _) (.ite (relocks _) (State.acqStart_devStands _ n))))
    (.refl s))

section
variable (m : Fin 16)

theorem State.refreshHostFill_devStands : DevStands s (s.refreshHostFill m) := by
  unfold State.refreshHostFill
  split
  · exact s.refreshFill_devStands _
  · exact .refl s

theorem State.dropCwLock_devStands : DevStands s (s.dropCwLock m) := by
  have cleared (f : HostLane → HostLane) : DevStands s (((s.setFlag (hostBase m) HR_KP4_STATUS_CW_LOCK false).modHost m
      f).pairRelease m) :=
    (State.pairRelease_evolves (State.modHost_evolves (State.setFlag_evolves (.refl _ s)
      (regPart_host (by decide) (by decide))) (by decide)) (by decide)).devStands
  exact (cleared _).trans (State.refreshHostFill_devStands _ m)

/-- The streams of a host lane are no longer judged (R28). -/
theorem State.hostFollowEnd_devStands : DevStands s (match s.lineOf m with
    | some n => s.followEnd n (some m)
    | none => s) := by
  split
  · exact s.followEnd_devStands _ _
  · exact .refl s

theorem State.hostLoseLock_devStands : DevStands s (s.hostLoseLock m) := by
  have cleared (f : HostLane → HostLane) : DevStands s (((s.setFlag (hostBase m) HR_STATUS_LOCKED false).setReg
      (hostBase m + HR_QUAL_SNR.off) 0).modHost m f) :=
    (State.modHost_evolves (State.setReg_evolves (State.setFlag_evolves (.refl _ s) (regPart_host (by decide) (by decide)))
      (regPart_host (by decide) (by decide))) (by decide)).devStands
  have dropped (t : State) : DevStands t (((t.trainAbandon m).unsettleHost m).dropHostAlignment m) :=
    (State.dropHostAlignment_evolves (State.unsettleHost_evolves (State.trainAbandon_evolves (.refl _ t) (by decide))
      (by decide)) (by decide)).devStands
  exact .ite ((((cleared _).trans (State.hostFollowEnd_devStands _ m)).trans (dropped _)).trans
    (State.dropCwLock_devStands _ m)) (.refl s)

theorem State.hostAcqStart_devStands : DevStands s (s.hostAcqStart m) := by
  have waits (t : State) (f : HostLane → HostLane) : DevStands t (t.modHost m f) :=
    (State.modHost_evolves (.refl _ t) (by decide)).devStands
  have starts (t : State) : DevStands t ((((t.hostAdcLoad m).setHrState m 1).unsettleHost m).bankRestored (259 + m.val / 4)) :=
    (State.bankRestored_evolves (State.unsettleHost_evolves (State.setHrState_evolves (State.hostAdcLoad_evolves (.refl _ t)
      (by decide)) (by decide)) (by decide)) (by decide)).devStands
  have after (t : State) : DevStands t (t.hostAfterSignal m) := (State.hostAfterSignal_evolves (.refl _ t) (by decide)).devStands
  have started (t : State) (f : HostLane → HostLane) := (waits t f).trans (starts _)
  exact .ite ((s.hostLoseLock_devStands m).trans (.ite (.ite ((started _ _).trans (after _)) (started _ _)) (waits _ _))) (.refl s)

theorem State.hostReacq_devStands : DevStands s (s.hostReacq m) := .ite (.refl s) (s.hostAcqStart_devStands m)

theorem State.hostClocksReturn_devStands (near : Bool) : DevStands s (s.hostClocksReturn m near) := by
  have runs (f : HostLane → HostLane) : DevStands s (s.modHost m f) :=
    (State.modHost_evolves (.refl _ s) (by decide)).devStands
  have relocks : DevStands s (s.hostRelock m) := (State.hostRelock_evolves (.refl _ s) (by decide)).devStands
  exact .ite (s.hostAcqStart_devStands m) (.ite (.ite (runs _) (.ite relocks (s.hostAcqStart_devStands m))) (.refl s))

end

/-! ### The reactions -/

theorem State.safeLine_devStands : DevStands s (s.safeLine n) := by
  have off : DevStands s (s.setTxState n 0) := (State.setTxState_evolves (.refl _ s) (by decide)).devStands
  have held (f : LineTx → LineTx) : DevStands s ((s.setTxState n 3).modTx n f) :=
    (State.modTx_evolves (State.setTxState_evolves (.refl _ s) (by decide)) (by decide)).devStands
  exact DevStands.trans (.ite off (.ite (held _) (.refl s))) (State.setCause_devStands _ n 3 true)

theorem State.tamidCut_devStands (i : Fin 8) : DevStands s (s.tamidCut i) := by
  have source : NeverSafe (tamidSrc i 6) := by revert i; decide
  have cut : DevStands s ((s.modTamid i fun x => { x with air := none }).refreshSending i) :=
    (State.refreshSending_evolves (State.modTamid_evolves (.refl _ s) (by decide) fun k => k) (by decide)).devStands
  unfold State.tamidCut
  split
  · exact cut.trans (State.raise_devStands _ source _)
  · exact .refl s

theorem State.safeEntry_devStands : DevStands s s.safeEntry := by
  have bist : DevStands s s.bistCut := (State.bistCut_evolves (.refl _ s) (by decide)).devStands
  have host (m : Fin 16) (t : State) : DevStands t (t.safeHost m) := (State.safeHost_evolves (.refl _ t) (by decide)).devStands
  have dac (c : Fin 32) (t : State) : DevStands t (t.cdSafe c) := (State.cdSafe_evolves (.refl _ t) (by decide)).devStands
  exact (((bist.trans (.each (fun n t => t.safeLine_devStands n) _ _)).trans (.each host _ _)).trans (.each dac _ _)).trans
    (.each (fun i t => t.tamidCut_devStands i) _ _)

theorem State.dozeExit_devStands : DevStands s s.dozeExit := by
  have wakes : DevStands s (s.setFld powerBase PWR_STATE_STATE 0).watchdogsStart :=
    ⟨rfl, fun _ => Regs.fld_setFld_ne _ (by decide)⟩
  have line (near : Bool) (n : Fin 8) (t : State) :
      DevStands t (if t.synLocked (lineSyn n) then t.lineClocksReturn n near else t) :=
    .ite (t.lineClocksReturn_devStands n near) (.refl t)
  have host (near : Bool) (m : Fin 16) (t : State) :
      DevStands t (if t.synLocked (hostSyn m) then t.hostClocksReturn m near else t) :=
    .ite (t.hostClocksReturn_devStands m near) (.refl t)
  exact .ite ((wakes.trans (.each (line _) _ _)).trans (.each (host _) _ _)) (.refl s)

theorem State.reactOne_devStands (d : Due) : DevStands s (s.reactOne d) := by
  cases d with
  | lineCause n => exact s.setCause_devStands n 2 _
  | hostCause m => exact (State.reactHost_evolves (.refl _ s) (by decide)).devStands
  | lineReacq n => exact s.lineReacq_devStands n
  | hostReacq m => exact s.hostReacq_devStands m
  | safe => exact s.safeEntry_devStands
  | doze => exact s.dozeExit_devStands

theorem State.reactRounds_devStands (k : Nat) : DevStands s (State.reactRounds k s) := by
  induction k generalizing s with
  | zero => exact .refl s
  | succ k ih =>
    have taken : DevStands s { s with fuse := { s.fuse with due := [] } } := ⟨rfl, fun _ => rfl⟩
    exact .ite (.refl s) ((taken.trans (.foldl State.reactOne_devStands _ _)).trans (ih s.reactRound))

/-- Under `imageSets` the reactions of a command leave DEV_STATE as it was. -/
theorem State.react_devStands : DevStands s s.react :=
  (s.reactRounds_devStands 8).trans ⟨rfl, fun _ => rfl⟩

end

/-! ### A boot whose images both fail -/

/-- Step 6 of a boot: the Cellar holds no image, slot 1 of the flash holds none either, and the set of IMAGE_AUTH_FAIL is
SAFE (R333). -/
def bootWithoutImage : State :=
  { State.reset with
    boot := { BootState.init with resetHigh := true, step := 6 }
    fuse := { FuseBox.init with sets := imageSets }
    flash := [(0x20000C, 0), (0x20000D, 0), (0x20000E, 0), (0x20000F, 0)] }

/-- DEV_STATE and the sets in force after a command. -/
def devAfter : Result State Fault Refusal → Option (Nat × List (Nat × Nat))
  | .next t => some (t.fld systemBase STATUS_DEV_STATE, t.fuse.sets)
  | _ => none

/-- The model leaves the part in safe state. -/
theorem bootWithoutImage_safe :
    devAfter (exec (.bootStepDone .authenticated) bootWithoutImage) = some (4, imageSets) := by
  decide +kernel

theorem bootWithoutImage_invalid :
    bootWithoutImage.cellarValid = false ∧ (bootWithoutImage.copySlot (1 - bootWithoutImage.boot.slot)).cellarValid = false := by
  decide +kernel

/-- Refutes O25: where both slots fail and the set of source 0x8008 holds SAFE, the part is in safe state at the end of step
6 and DEV_STATE reads 4, since the raise of the first slot that fails enters safe state. -/
theorem not_resetsAndBoot : ¬ Obligations.ResetsAndBoot := by
  rintro ⟨-, -, -, -, -, -, -, -, -, -, -, -, -, authenticated, -⟩
  obtain ⟨u, run, -, -, download⟩ := authenticated bootWithoutImage rfl rfl rfl rfl
  obtain ⟨-, dev⟩ := download bootWithoutImage_invalid.1 bootWithoutImage_invalid.2 rfl
  obtain ⟨after, sets⟩ : u.react.fld systemBase STATUS_DEV_STATE = 4 ∧ u.react.fuse.sets = imageSets := by
    simpa only [run, devAfter, Option.some.injEq, Prod.mk.injEq] using bootWithoutImage_safe
  have stands := u.react_devStands
  rw [stands.dev (stands.sets.symm.trans sets), dev] at after
  exact absurd after (by decide)

end Sys2Proof.Machine
end

section
/-! Patterns and checkers (O38).  A checker that is no longer locked sends its lane back to the search if the lane was in
LOCKED (log 39).  The first part says that neither the loss of lock nor the search writes the words of the checker. -/

namespace Sys2Proof.Machine

open Reg

/-! ### The words of the checker of a line lane -/

/-- RX_PAT_CTRL and RX_PAT_STATUS of a line lane hold what they held. -/
def CheckerKept (n : Fin 8) (s t : State) : Prop :=
  ∀ g : Field, 0x880 ≤ g.off → g.off < 0x888 → t.fld (lineBase n) g = s.fld (lineBase n) g

section
variable {s t u : State} {n : Fin 8} {f : Field}

theorem CheckerKept.refl (n : Fin 8) (s : State) : CheckerKept n s s := fun _ _ _ => rfl

theorem CheckerKept.trans (h : CheckerKept n s t) (k : CheckerKept n t u) : CheckerKept n s u :=
  fun g lo hi => (k g lo hi).trans (h g lo hi)

theorem CheckerKept.ite {c : Prop} [Decidable c] (h : CheckerKept n s t) (k : CheckerKept n s u) :
    CheckerKept n s (if c then t else u) := by split <;> assumption

theorem CheckerKept.flag (h : CheckerKept n s t) {g : Field} (lo : 0x880 ≤ g.off) (hi : g.off < 0x888) :
    t.flag (lineBase n) g = s.flag (lineBase n) g := by rw [State.flag, State.flag, h g lo hi]

/-- An operation outside the registers of the line lanes. -/
theorem Evolves.checkerKept {ps : List Part} (h : Evolves ps s t) (hr : .lineRegs ∉ ps) : CheckerKept n s t :=
  fun _ _ hi => h.lineFld hr n (by omega)

theorem FillOnly.checkerKept (h : FillOnly s t) : CheckerKept n s t := fun g lo hi =>
  h.fld n (by omega) (by simp only [TX_STATUS_TX_STATE]; omega) (by simp only [PD_STATUS_FADING]; omega)

theorem CheckerKept.setReg (h : CheckerKept n s t) {off : Nat} (w : Word) (below : off < 0x880) :
    CheckerKept n s (t.setReg (lineBase n + off) w) := h.trans fun g lo _ => by
  rw [State.fld, State.reg_eq, State.setReg_regs, Regs.reg_set_ne _ _ (by omega)]
  rfl

theorem CheckerKept.setFld (h : CheckerKept n s t) (v : Nat) (below : f.off < 0x880) :
    CheckerKept n s (t.setFld (lineBase n) f v) := h.setReg _ below

theorem CheckerKept.setFlag (h : CheckerKept n s t) (v : Bool) (below : f.off < 0x880) :
    CheckerKept n s (t.setFlag (lineBase n) f v) := h.setFld _ below

theorem CheckerKept.unsettle (h : CheckerKept n s t) (w : Nat) : CheckerKept n s (t.unsettle n w) := by
  refine h.setFlag true ?_
  unfold ledgerUnsettled
  split_ifs <;> decide

/-- An update of what a lane holds beyond its registers. -/
theorem CheckerKept.modLine (h : CheckerKept n s t) (k : Fin 8) (f : LineLane → LineLane) :
    CheckerKept n s (t.modLine k f) := h

theorem CheckerKept.readoutsDown (h : CheckerKept n s t) : CheckerKept n s (t.readoutsDown n) := by
  have unframed := (((h.setFlag (f := EQ_STATUS_LOCKED) false (by decide)).setFlag (f := FEC_STATUS_IN_FRAME) false
    (by decide)).setFlag (f := FEC_STATUS_BER_VALID) false (by decide)).setFlag (f := FEC_STATUS_LOW_COUNT) false (by decide)
  have follows (v : State) : CheckerKept n v (v.lrFollow n false) :=
    (State.lrFollow_evolves (ps := [.host, .hostRegs]) (.refl _ v) (by decide)).checkerKept (by decide)
  have framed : CheckerKept n s ((t.setFlag (lineBase n) EQ_STATUS_LOCKED false).frameDown n) :=
    ((unframed.setReg (off := BER_EST_EXP.off) 0 (by decide)).modLine n _).trans (follows _)
  exact (framed.setFld (f := SNR_STAT_SNR) 0 (by decide)).setReg (off := EYE_STAT_EYE_MID.off) 0 (by decide)

theorem CheckerKept.nlcFadeStop (h : CheckerKept n s t) : CheckerKept n s (t.fadeStop n nlcRegs) := by
  have stopped := ((h.setFlag (f := nlcRegs.fading) false (by decide)).setFlag (f := nlcRegs.pending) true
    (by decide)).setFld (f := nlcRegs.restarts)
  have raised (v : State) (src detail : Nat) : CheckerKept n v (v.raise src detail) :=
    (State.raise_evolves (ps := raiseParts) (.refl _ v) (by decide)).checkerKept (by decide)
  exact .ite ((stopped _ (by decide)).trans (raised _ _ _)) h

theorem State.loseLock_checkerKept (s : State) (n : Fin 8) : CheckerKept n s (s.loseLock n) := by
  have readouts := (CheckerKept.refl n s).readoutsDown
  have faded : CheckerKept n s (s.fadeDown n) := .ite readouts.nlcFadeStop readouts
  have ended (t : State) : CheckerKept n t ((t.dropAlignment n).followEnd n none) :=
    (State.followEnd_evolves (ps := [.line, .fuse, .lanes]) (State.dropAlignment_evolves (.refl _ t) (by decide))
      (by decide)).checkerKept (by decide)
  rw [State.loseLock_eq]
  exact .ite (((faded.unsettle 0).trans (ended _)).trans (State.refreshFill_fillOnly _ n).checkerKept) (.refl n s)

theorem State.fastRelock_checkerKept (s : State) (n : Fin 8) : CheckerKept n s (s.fastRelock n) := by
  have moved (f : LineRx → LineRx) : CheckerKept n s ((s.rotHold n).modRx n f) := fun _ _ _ => rfl
  have acq (t : State) : CheckerKept n t (t.setAcqState n 8) := fun g lo hi =>
    t.setAcqState_fld n 8 (by simp only [EQ_STATUS_ACQ_STATE]; omega) (by omega)
  exact ((moved _).trans (acq _)).unsettle 0

end

/-- A line lane in LOCKED leaves it and starts a fast re-lock. -/
def State.searchAgain (s : State) (n : Fin 8) : State := if s.locked n then (s.loseLock n).fastRelock n else s

theorem State.searchAgain_checkerKept (s : State) (n : Fin 8) : CheckerKept n s (s.searchAgain n) :=
  .ite ((s.loseLock_checkerKept n).trans (State.fastRelock_checkerKept _ n)) (.refl n s)

theorem State.searchAgain_locked (s : State) (n : Fin 8) : (s.searchAgain n).locked n = false := by
  unfold State.searchAgain
  split
  · exact (State.fastRelock_relocking _ n).locked.trans (s.loseLock_unlocked n).locked
  · next unlocked => simpa using unlocked

/-! ### The words of the checker of a host lane -/

/-- HR_STATUS and HR_PAT_STATUS of a host lane hold what they held. -/
def HostCheckerKept (m : Fin 16) (s t : State) : Prop :=
  ∀ g : Field, g.off = 0x204 ∨ g.off = 0x50C → t.fld (hostBase m) g = s.fld (hostBase m) g

section
variable {s t u : State} {m : Fin 16} {f : Field}

theorem HostCheckerKept.refl (m : Fin 16) (s : State) : HostCheckerKept m s s := fun _ _ => rfl

theorem HostCheckerKept.trans (h : HostCheckerKept m s t) (k : HostCheckerKept m t u) : HostCheckerKept m s u :=
  fun g hg => (k g hg).trans (h g hg)

theorem HostCheckerKept.ite {c : Prop} [Decidable c] (h : HostCheckerKept m s t) (k : HostCheckerKept m s u) :
    HostCheckerKept m s (if c then t else u) := by split <;> assumption

theorem HostCheckerKept.flag (h : HostCheckerKept m s t) {g : Field} (hg : g.off = 0x204 ∨ g.off = 0x50C) :
    t.flag (hostBase m) g = s.flag (hostBase m) g := by rw [State.flag, State.flag, h g hg]

/-- An operation outside the registers of the host lanes. -/
theorem Evolves.hostCheckerKept {ps : List Part} (h : Evolves ps s t) (hr : .hostRegs ∉ ps) : HostCheckerKept m s t :=
  fun _ hg => h.hostFld hr m (by omega)

theorem HostCheckerKept.setReg (h : HostCheckerKept m s t) {off : Nat} (w : Word) (apart : off ≠ 0x204 ∧ off ≠ 0x50C) :
    HostCheckerKept m s (t.setReg (hostBase m + off) w) := h.trans fun g hg => by
  rw [State.fld, State.reg_eq, State.setReg_regs, Regs.reg_set_ne _ _ (by omega)]
  rfl

theorem HostCheckerKept.setFld (h : HostCheckerKept m s t) (v : Nat) (apart : f.off ≠ 0x204 ∧ f.off ≠ 0x50C) :
    HostCheckerKept m s (t.setFld (hostBase m) f v) := h.setReg _ apart

theorem State.dropCwLock_hostCheckerKept (s : State) (m : Fin 16) : HostCheckerKept m s (s.dropCwLock m) := by
  have unlocked := (HostCheckerKept.refl m s).setFld (f := HR_KP4_STATUS_CW_LOCK) 0 (by decide)
  have after (t : State) (f : HostLane → HostLane) :
      HostCheckerKept m t (((t.modHost m f).pairRelease m).refreshHostFill m) :=
    (State.refreshHostFill_evolves (ps := [.host, .line, .fuse, .link, .counters, .attic, .systemRegs, .lineRegs])
      (State.pairRelease_evolves (State.modHost_evolves (.refl _ t) (by decide)) (by decide))
      (by decide)).hostCheckerKept (by decide)
  exact unlocked.trans (after _ _)

/-- A host lane that leaves LOCKED only drops that flag in those words (R197). -/
theorem State.hostLoseLock_kept (locked : s.hostLocked m = true) :
    HostCheckerKept m (s.setFlag (hostBase m) HR_STATUS_LOCKED false) (s.hostLoseLock m) := by
  have cleared := (HostCheckerKept.refl m (s.setFlag (hostBase m) HR_STATUS_LOCKED false)).setReg
    (off := HR_QUAL_SNR.off) 0 (by decide)
  have quality (t : State) (f : HostLane → HostLane) : HostCheckerKept m t (t.modHost m f) :=
    (State.modHost_evolves (ps := [.host]) (.refl _ t) (by decide)).hostCheckerKept (by decide)
  have judged (t : State) : HostCheckerKept m t (match t.lineOf m with
      | some n => t.followEnd n (some m)
      | none => t) := by
    split
    · exact (State.followEnd_evolves (ps := [.line, .fuse]) (.refl _ t) (by decide)).hostCheckerKept (by decide)
    · exact .refl m t
  have trained (t : State) : HostCheckerKept m t (t.trainAbandon m) :=
    .ite ((HostCheckerKept.refl m t).setFld 4 (by decide)) (.refl m t)
  have dropped (t : State) : HostCheckerKept m t ((t.unsettleHost m).dropHostAlignment m) :=
    (State.dropHostAlignment_evolves (ps := [.lineRegs, .lanes]) (State.unsettleHost_evolves (.refl _ t) (by decide))
      (by decide)).hostCheckerKept (by decide)
  rw [State.hostLoseLock, if_pos locked]
  exact ((((cleared.trans (quality _ _)).trans (judged _)).trans (trained _)).trans (dropped _)).trans
    (State.dropCwLock_hostCheckerKept _ m)

/-- The start of a re-lock writes nothing but HR_STATE there (R197). -/
theorem State.hostRelock_kept (s : State) (m : Fin 16) :
    HostCheckerKept m (s.setFld (hostBase m) HR_STATUS_HR_STATE 6) (s.hostRelock m) := by
  have after (t : State) (f : HostLane → HostLane) : HostCheckerKept m t ((t.modHost m f).unsettleHost m) :=
    (State.unsettleHost_evolves (ps := [.host, .lineRegs]) (State.modHost_evolves (.refl _ t) (by decide))
      (by decide)).hostCheckerKept (by decide)
  have begun (f : HostLane → HostLane) : HostCheckerKept m (s.setFld (hostBase m) HR_STATUS_HR_STATE 6)
      ((s.modHost m f).setFld (hostBase m) HR_STATUS_HR_STATE 6) := fun g _ => by
    simp only [State.fld_eq, State.setFld_regs, State.modHost_other]
  exact (begun _).trans (after _ _)

end

/-- A host lane in LOCKED leaves it and starts a re-lock. -/
def State.hostSearchAgain (s : State) (m : Fin 16) : State :=
  if s.hostLocked m then (s.hostLoseLock m).hostRelock m else s

theorem State.hostSearchAgain_locked (s : State) (m : Fin 16) : (s.hostSearchAgain m).hostLocked m = false := by
  unfold State.hostSearchAgain
  split
  · next locked =>
    rw [State.hostLocked, (State.hostRelock_kept _ m).flag (by decide), State.flag_setFld_apart _ _ _ (by decide),
      (State.hostLoseLock_kept locked).flag (by decide)]
    exact s.flag_setFlag_same _ _ (by decide) rfl
  · next unlocked => simpa using unlocked

theorem State.hostSearchAgain_chkLock (s : State) (m : Fin 16) :
    (s.hostSearchAgain m).flag (hostBase m) HR_PAT_STATUS_CHK_LOCK = s.flag (hostBase m) HR_PAT_STATUS_CHK_LOCK := by
  unfold State.hostSearchAgain
  split
  · next locked =>
    rw [(State.hostRelock_kept _ m).flag (by decide), State.flag_setFld_apart _ _ _ (by decide),
      (State.hostLoseLock_kept locked).flag (by decide), State.flag_setFlag_apart _ _ _ (by decide)]
  · rfl

/-! ### The commands -/

section
variable {s : State} {n : Fin 8} {m : Fin 16} {sel : BitVec 3}

/-- A command that answers a write of one register of a lane. -/
theorem done_setFld_line (hd : s.noneDue) {f : Field} (hf : f.off < 0x10000) (v : Nat) :
    done (s.setFld (lineBase n) f v) = .next (s.setFld (lineBase n) f v) :=
  (State.setFld_evolves (ps := [.lineRegs]) (.refl _ s) (regPart_line hf (by decide))).done_eq (by decide) hd

theorem exec_txPatSelWrite (hd : s.noneDue) (stays : patSel (s.fld (lineBase n) TX_PAT_PAT_SEL) = 0 ∨ patSel sel.toNat ≠ 0) :
    exec (.txPatSelWrite n sel) s = .next (s.setFld (lineBase n) TX_PAT_PAT_SEL sel.toNat) := by
  refine Eq.trans (congrArg done (if_neg ?_)) (done_setFld_line hd (by decide) _)
  rw [Nat.mod_eq_of_lt sel.isLt]
  tauto

/-- The end of a pattern unsettles both directions from the host (R159, R50). -/
theorem exec_txPatSelWrite_ends (hd : s.noneDue) (was : patSel (s.fld (lineBase n) TX_PAT_PAT_SEL) ≠ 0)
    (ends : patSel sel.toNat = 0) : exec (.txPatSelWrite n sel) s =
      .next (((s.setFld (lineBase n) TX_PAT_PAT_SEL sel.toNat).unsettle n 1).unsettle n 2) := by
  have unsettled : Evolves [.lineRegs] s (((s.setFld (lineBase n) TX_PAT_PAT_SEL sel.toNat).unsettle n 1).unsettle n 2) :=
    State.unsettle_evolves (State.unsettle_evolves (State.setFld_evolves (.refl _ s) (regPart_line (by decide) (by decide)))
      (by decide)) (by decide)
  refine Eq.trans (congrArg done (if_pos ⟨was, ?_⟩)) (unsettled.done_eq (by decide) hd)
  rwa [Nat.mod_eq_of_lt sel.isLt]

theorem exec_lineChkSelWrite_same (hd : s.noneDue) (same : patSel (s.fld (lineBase n) RX_PAT_CTRL_CHK_SEL) = patSel sel.toNat) :
    exec (.lineChkSelWrite n sel) s = .next (s.setFld (lineBase n) RX_PAT_CTRL_CHK_SEL sel.toNat) := by
  refine Eq.trans (congrArg done (if_pos ?_)) (done_setFld_line hd (by decide) _)
  rwa [Nat.mod_eq_of_lt sel.isLt]

theorem exec_lineChkSelWrite_changed (changed : patSel (s.fld (lineBase n) RX_PAT_CTRL_CHK_SEL) ≠ patSel sel.toNat) :
    exec (.lineChkSelWrite n sel) s =
      .next (((s.setFld (lineBase n) RX_PAT_CTRL_CHK_SEL sel.toNat).lineChkOff n).searchAgain n).react := by
  refine congrArg done (if_neg ?_)
  rwa [Nat.mod_eq_of_lt sel.isLt]

theorem State.lineChkOff_chkLock (s : State) (n : Fin 8) :
    (s.lineChkOff n).flag (lineBase n) RX_PAT_STATUS_CHK_LOCK = false := by
  rw [State.lineChkOff, State.flag, State.modRx_fld, ← State.flag]
  exact s.flag_setFlag_same _ _ (by decide) rfl

theorem State.hostChkOff_chkLock (s : State) (m : Fin 16) :
    (s.hostChkOff m).flag (hostBase m) HR_PAT_STATUS_CHK_LOCK = false := by
  rw [State.hostChkOff, State.flag, State.modHost_fld, ← State.flag]
  exact s.flag_setFlag_same _ _ (by decide) rfl

/-- CHK_LOCK and LOCK_COUNT of a checker that locks, in the block of a line or a host lane. -/
theorem State.chkLocked {base : Nat} {f g : Field} (s : State) (bit : f.width = 1) (lock : f.lo + f.width ≤ 32)
    (count : g.lo + g.width ≤ 32) (apart : f.Apart g) (apart' : g.Apart f) :
    ((s.setFlag base f true).bump base g).flag base f = true ∧
      ((s.setFlag base f true).bump base g).fld base g = satNat g.width (s.fld base g + 1) := by
  constructor
  · rw [State.flag, State.fld_bump_apart _ _ apart, ← State.flag]
    exact s.flag_setFlag_same _ _ lock bit
  · rw [State.bump_same _ _ count, State.fld_setFlag_apart _ _ _ apart']

theorem State.lineChkOn_shows (s : State) (n : Fin 8) :
    (s.lineChkOn n).flag (lineBase n) RX_PAT_STATUS_CHK_LOCK = true ∧
      (s.lineChkOn n).fld (lineBase n) RX_PAT_STATUS_LOCK_COUNT =
        satNat RX_PAT_STATUS_LOCK_COUNT.width (s.fld (lineBase n) RX_PAT_STATUS_LOCK_COUNT + 1) := by
  rw [State.lineChkOn, State.flag, State.modRx_fld, State.modRx_fld, ← State.flag]
  exact s.chkLocked rfl (by decide) (by decide) (by decide) (by decide)

theorem State.hostChkOn_shows (s : State) (m : Fin 16) :
    (s.hostChkOn m).flag (hostBase m) HR_PAT_STATUS_CHK_LOCK = true ∧
      (s.hostChkOn m).fld (hostBase m) HR_PAT_STATUS_LOCK_COUNT =
        satNat HR_PAT_STATUS_LOCK_COUNT.width (s.fld (hostBase m) HR_PAT_STATUS_LOCK_COUNT + 1) := by
  rw [State.hostChkOn, State.flag, State.modHost_fld, State.modHost_fld, ← State.flag]
  exact s.chkLocked rfl (by decide) (by decide) (by decide) (by decide)

theorem exec_chkLockAcquired_line {symbols : List (Fin 4)} (hd : s.noneDue) (checks : s.checking n = true)
    (free : s.flag (lineBase n) RX_PAT_STATUS_CHK_LOCK = false)
    (tracks : checkerTracks (s.fld (lineBase n) RX_PAT_CTRL_CHK_SEL) (s.lineUserSymbol n) (symbols.map Fin.val) = true) :
    exec (.chkLockAcquired (.line n) symbols) s = .next (s.lineChkOn n) := by
  have on : Evolves [.line, .lineRegs] s (s.lineChkOn n) := State.lineChkOn_evolves (.refl _ s) (by decide)
  exact Eq.trans (if_pos ⟨checks, by simpa only [Bool.not_eq_true] using free, tracks⟩) (on.done_eq (by decide) hd)

theorem exec_chkLockAcquired_host {symbols : List (Fin 4)} (hd : s.noneDue) (checks : s.hostChecking m = true)
    (free : s.flag (hostBase m) HR_PAT_STATUS_CHK_LOCK = false)
    (tracks : checkerTracks (s.fld (hostBase m) HR_PAT_CTRL_CHK_SEL) (s.hostUserSymbol m) (symbols.map Fin.val) = true) :
    exec (.chkLockAcquired (.host m) symbols) s = .next (s.hostChkOn m) := by
  have on : Evolves [.host, .hostRegs] s (s.hostChkOn m) := State.hostChkOn_evolves (.refl _ s) (by decide)
  exact Eq.trans (if_pos ⟨checks, by simpa only [Bool.not_eq_true] using free, tracks⟩) (on.done_eq (by decide) hd)

variable {compared : List (Fin 4 × Fin 4)}

theorem exec_chkLockLoss_line (lock : s.flag (lineBase n) RX_PAT_STATUS_CHK_LOCK = true)
    (loses : checkerLoses compared = true) : exec (.chkLockLoss (.line n) compared) s =
      .next (((s.linePatErrors n compared).lineChkOff n).searchAgain n).react :=
  (if_pos ⟨lock, loses⟩).trans (apply_ite done _ _ _).symm

theorem exec_chkLockLoss_host (lock : s.flag (hostBase m) HR_PAT_STATUS_CHK_LOCK = true)
    (loses : checkerLoses compared = true) : exec (.chkLockLoss (.host m) compared) s =
      .next (((s.hostPatErrors m compared).hostChkOff m).hostSearchAgain m).react :=
  (if_pos ⟨lock, loses⟩).trans (apply_ite done _ _ _).symm

end

/-- Settles O38: what a checker loses is lost behind the search too, since the loss of lock and the search leave its words
alone. -/
theorem patternsAndCheckers : Obligations.PatternsAndCheckers := by
  unfold Obligations.PatternsAndCheckers
  refine ⟨?patSel, ?patEnds, ?chkSame, ?chkChanged, ?lineLocks, ?hostLocks, ?lineLoses, ?hostLoses⟩
  case patSel =>
    exact fun n sel s hd stays => ⟨_, exec_txPatSelWrite hd stays, s.setFld_same _ (by decide) sel.isLt,
      s.setFld_regsBut _ _ _⟩
  case patEnds =>
    intro n sel s hd was ends
    refine ⟨_, exec_txPatSelWrite_ends hd was ends, ?_⟩
    rw [State.unsettle, State.fld_setFlag_apart _ _ _ (by decide), State.unsettle, State.fld_setFlag_apart _ _ _ (by decide)]
    exact s.setFld_same _ (by decide) sel.isLt
  case chkSame =>
    exact fun n sel s hd same => ⟨_, exec_lineChkSelWrite_same hd same, s.setFld_same _ (by decide) sel.isLt,
      s.setFld_regsBut _ _ _⟩
  case chkChanged =>
    intro n sel s _ changed
    have kept := ((s.setFld (lineBase n) RX_PAT_CTRL_CHK_SEL sel.toNat).lineChkOff n).searchAgain_checkerKept n
    refine ⟨_, exec_lineChkSelWrite_changed changed, ?_, ?_, State.searchAgain_locked _ n⟩
    · rw [kept _ (by decide) (by decide), State.lineChkOff, State.modRx_fld, State.fld_setFlag_apart _ _ _ (by decide)]
      exact s.setFld_same _ (by decide) sel.isLt
    · exact (kept.flag (by decide) (by decide)).trans (State.lineChkOff_chkLock _ n)
  case lineLocks =>
    rintro _ symbols n s hd rfl checks free tracks
    exact ⟨_, exec_chkLockAcquired_line hd checks free tracks, s.lineChkOn_shows n⟩
  case hostLocks =>
    rintro _ symbols m s hd rfl checks free tracks
    exact ⟨_, exec_chkLockAcquired_host hd checks free tracks, s.hostChkOn_shows m⟩
  case lineLoses =>
    rintro _ compared n s _ rfl lock loses
    refine ⟨_, exec_chkLockLoss_line lock loses, ?_, State.searchAgain_locked _ n⟩
    exact ((State.searchAgain_checkerKept _ n).flag (by decide) (by decide)).trans (State.lineChkOff_chkLock _ n)
  case hostLoses =>
    rintro _ compared m s _ rfl lock loses
    refine ⟨_, exec_chkLockLoss_host lock loses, ?_, State.hostSearchAgain_locked _ m⟩
    exact (State.hostSearchAgain_chkLock _ m).trans (State.hostChkOff_chkLock _ m)

end Sys2Proof.Machine
end

section
/-! Transmit shaping and the current cells (O57): the glides of the FIR, the fades of pre-distortion, the cells of the
sub-DACs and their trims. -/

namespace Sys2Proof.Machine

open Reg

/-! ### A fade of either stage (R89 to R92, R142) -/

section
variable {s : State} {n : Fin 8} {r : FadeRegs}

theorem State.fadeBegin_regs (s : State) (n : Fin 8) (r : FadeRegs) :
    (s.fadeBegin n r).regs = (s.setFlag (lineBase n) r.fading true).regs := State.modLinkOf_regs _ _ _

theorem State.fadeRequest_busy {inUse live : Bool} (h : s.fadeBusy n r = true ∨ s.changeWaits n = true) :
    s.fadeRequest n r inUse live = s.bump (lineBase n) r.busy := by
  unfold State.fadeRequest
  exact if_pos (by simpa only [Bool.or_eq_true] using h)

theorem State.fadeRequest_live (busy : s.fadeBusy n r = false) (waits : s.changeWaits n = false) :
    s.fadeRequest n r true true = s.fadeBegin n r := by
  unfold State.fadeRequest
  dsimp only
  rw [busy, waits]
  rfl

/-- The words of a stage once its fade has stopped, before the raise. -/
def State.fadeWaiting (s : State) (n : Fin 8) (r : FadeRegs) : State :=
  ((s.setFlag (lineBase n) r.fading false).setFlag (lineBase n) r.pending true).bump (lineBase n) r.restarts

theorem State.fadeStop_running (fading : s.flag (lineBase n) r.fading = true) : s.fadeStop n r =
    (s.fadeWaiting n r).raise (lineSrc n r.src) (1 - s.fld (lineBase n) r.active) := by
  unfold State.fadeStop
  exact if_pos fading

/-- The words of a stage at the end of a fade, before room 14 takes note of it. -/
def State.fadeDone (s : State) (n : Fin 8) (r : FadeRegs) : State :=
  ((s.setFld (lineBase n) r.active (1 - s.fld (lineBase n) r.active)).setFlag (lineBase n) r.fading false).setFlag
    (lineBase n) r.pending false

theorem State.fadeFinish_lineFld (block : r.InBlock) {g : Field} (h : g.off < 0x10000) :
    (s.fadeFinish n r).fld (lineBase n) g = (s.fadeDone n r).fld (lineBase n) g :=
  Evolves.lineFld (State.installDone_evolves (ps := [.tamid, .pantry, .tamidRegs, .pantryRegs]) (.refl _ (s.fadeDone n r))
    block (by decide)) (by decide) n h

theorem State.bankWrite_writes {bank : Fin 2} (idx : Fin 1024) (value : BitVec 10)
    (free : bank.val ≠ s.fld (lineBase n) r.active) (busy : s.fadeBusy n r = false) : s.bankWrite n r bank idx value false =
      s.setFld (lineBase n) ((if bank.val = 0 then r.bank0 else r.bank1).ix idx.val) value.toNat := by
  unfold State.bankWrite
  refine if_neg ?_
  rintro (active | fading | swap)
  · exact free active
  · exact Bool.false_ne_true (busy.symm.trans fading)
  · exact Bool.false_ne_true swap

theorem State.bankWrite_counts {bank : Fin 2} {swap : Bool} (idx : Fin 1024) (value : BitVec 10)
    (h : bank.val = s.fld (lineBase n) r.active ∨ s.fadeBusy n r = true ∨ swap = true) :
    s.bankWrite n r bank idx value swap = s.bump (lineBase n) r.reject := by
  unfold State.bankWrite
  exact if_pos h

end

/-! ### Glides of the FIR (R139) -/

section
variable {s : State} {n : Fin 8}

theorem exec_txFirApply (n : Fin 8) (hd : s.noneDue) : exec (.txFirApply n) s = .next (s.txFirApply n) :=
  (State.txFirApply_evolves (ps := [.line, .lineRegs]) (.refl _ s) (by decide)).done_eq (by decide) hd

theorem State.txFirApply_starts (idle : s.flag (lineBase n) TX_STATUS_GLIDING = false) : s.txFirApply n =
    (s.setFlag (lineBase n) TX_STATUS_GLIDING true).modTx n fun t =>
      { t with glideFrom := s.firTaps n TX_FIR_CUR, glideTo := s.firTaps n TX_FIR_TARGET, glideStep := 0 } :=
  if_neg (ne_true_of_eq_false idle)

theorem State.txFirApply_busy (glides : s.flag (lineBase n) TX_STATUS_GLIDING = true) :
    s.txFirApply n = s.bump (lineBase n) TX_STATUS_FIR_BUSY := if_pos glides

/-- Tap k of the step of a glide that is due. -/
def State.glideWord (s : State) (n : Fin 8) (k : Nat) : Nat :=
  intBits 12 (glideTap (s.line[n].tx.glideFrom.getD k 0) (s.line[n].tx.glideTo.getD k 0) s.line[n].tx.glideStep)

/-- The nine taps of that step are in force. -/
def State.glideTaps (s : State) (n : Fin 8) : State :=
  s.each (List.range 9) fun k u => u.setFld (lineBase n) (TX_FIR_CUR.ix k) (s.glideWord n k)

/-- The lane behind that step. -/
def State.glided (s : State) (n : Fin 8) : State :=
  (s.glideTaps n).modTx n fun t => { t with glideStep := t.glideStep + 1 }

theorem State.glided_evolves (s : State) (n : Fin 8) : Evolves [.line, .lineRegs] s (s.glided n) :=
  State.modTx_evolves (.each (.refl _ s) fun _ _ h => State.setFld_evolves h (regPart_line (Field.ix_lt _ _) (by decide)))
    (by decide)

/-- The same, with the last step ending the glide. -/
def State.glideStepped (s : State) (n : Fin 8) : State :=
  if 63 ≤ s.line[n].tx.glideStep then (s.glided n).setFlag (lineBase n) TX_STATUS_GLIDING false else s.glided n

theorem exec_txGlideStep (hd : s.noneDue) (glides : s.flag (lineBase n) TX_STATUS_GLIDING = true)
    (task : s.lineTxTask n 0 = true) : exec (.txGlideStep n) s = .next (s.glideStepped n) := by
  have ended := State.setFlag_evolves (f := TX_STATUS_GLIDING) (v := false) (s.glided_evolves n)
    (regPart_line (n := n) (by decide) (by decide))
  have answer : exec (.txGlideStep n) s = if 63 ≤ s.line[n].tx.glideStep then
      done ((s.glided n).setFlag (lineBase n) TX_STATUS_GLIDING false) else done (s.glided n) := if_pos ⟨glides, task⟩
  rw [answer, ended.done_eq (by decide) hd, (s.glided_evolves n).done_eq (by decide) hd]
  exact (apply_ite _ _ _ _).symm

theorem State.glided_tap (s : State) (n : Fin 8) (k : Fin 9) :
    (s.glided n).fld (lineBase n) (TX_FIR_CUR.ix k.val) = s.glideWord n k.val := by
  rw [State.glided, State.modTx_fld]
  refine State.each_mem (P := fun k t => t.fld (lineBase n) (TX_FIR_CUR.ix k) = s.glideWord n k)
    (fun k _ t => t.setFld_same _ (show 16 + 12 ≤ 32 by decide) (intBits_lt 12 _)) (fun x hx y hy ne t held => ?_) s k.val
    (List.mem_range.2 k.isLt)
  have bound {i : Nat} (hi : i ∈ List.range 9) : TX_FIR_CUR.off + TX_FIR_CUR.stride * i < 0x10000 := by
    have := List.mem_range.1 hi
    simp only [TX_FIR_CUR]; omega
  exact (t.fld_setFld_apart _ _ (Field.ix_apart (bound hy) (bound hx) (by decide) ne)).trans held

theorem State.glided_gliding (s : State) (n : Fin 8) :
    (s.glided n).flag (lineBase n) TX_STATUS_GLIDING = s.flag (lineBase n) TX_STATUS_GLIDING := by
  rw [State.glided, State.flag, State.modTx_fld, ← State.flag]
  refine State.each_keeps_mem (P := fun t => t.flag (lineBase n) TX_STATUS_GLIDING = s.flag (lineBase n) TX_STATUS_GLIDING)
    (fun k hk t held => (t.flag_setFld_apart _ _ (.inl ?_)).trans held) rfl
  have := List.mem_range.1 hk
  simp only [TX_STATUS_GLIDING, TX_FIR_CUR, Field.ix]; omega

theorem State.glided_step (s : State) (n : Fin 8) : (s.glided n).line[n].tx.glideStep = s.line[n].tx.glideStep + 1 := by
  have line : (s.glideTaps n).line = s.line :=
    (Evolves.each (ps := [.lineRegs]) (.refl _ s) fun _ _ h => State.setFld_evolves h
      (regPart_line (Field.ix_lt _ _) (by decide))).only .line (by decide)
  rw [State.glided, State.modTx_same, line]

/-- What a step of a glide shows; the last one ends it. -/
theorem State.glideStepped_shows (glides : s.flag (lineBase n) TX_STATUS_GLIDING = true) :
    (∀ k : Fin 9, (s.glideStepped n).fld (lineBase n) (TX_FIR_CUR.ix k.val) = s.glideWord n k.val) ∧
      (s.glideStepped n).line[n].tx.glideStep = s.line[n].tx.glideStep + 1 ∧
      (s.glideStepped n).flag (lineBase n) TX_STATUS_GLIDING = decide (s.line[n].tx.glideStep < 63) := by
  unfold State.glideStepped
  split
  · next last =>
    refine ⟨fun k => ?_, ?_, ?_⟩
    · rw [State.fld_setFlag_apart _ _ _ (.inl (by simp only [TX_STATUS_GLIDING, TX_FIR_CUR, Field.ix]; omega))]
      exact s.glided_tap n k
    · simpa only [State.setFlag_other] using s.glided_step n
    · rw [State.flag_setFlag_same _ _ _ (by decide) rfl, decide_eq_false (by omega)]
  · next more =>
    refine ⟨s.glided_tap n, s.glided_step n, ?_⟩
    rw [s.glided_gliding n, glides, decide_eq_true (by omega)]

end

/-! ### Pre-distortion (R141, R142) -/

section
variable {s : State} {n : Fin 8}

/-- What a pre-distortion operation that raises nothing changes. -/
def pdParts : List Part := [.line, .tamid, .pantry, .lineRegs, .tamidRegs, .pantryRegs]

theorem exec_pdSwap (n : Fin 8) (hd : s.noneDue) : exec (.pdSwap n false) s = .next (s.pdSwap n) :=
  (State.pdSwap_evolves (.refl pdParts s) (by decide)).done_eq (by decide) hd

theorem State.pdSwap_live (busy : s.fadeBusy n pdRegs = false) (waits : s.changeWaits n = false)
    (inUse : s.pdInUse n = true) (live : s.transmitting n = true) : s.pdSwap n = s.fadeBegin n pdRegs := by
  rw [State.pdSwap, inUse, live, State.fadeRequest_live busy waits]

theorem State.pdFadeBegin_fading (s : State) (n : Fin 8) :
    (s.fadeBegin n pdRegs).flag (lineBase n) PD_STATUS_FADING = true := by
  rw [State.flag_eq, State.fadeBegin_regs, ← State.flag_eq]
  exact s.flag_setFlag_same _ _ (by decide) rfl

theorem State.pdFadeBegin_fld (s : State) (n : Fin 8) {g : Field} (h : g.Apart PD_STATUS_FADING) :
    (s.fadeBegin n pdRegs).fld (lineBase n) g = s.fld (lineBase n) g := by
  rw [State.fld_eq, State.fadeBegin_regs, ← State.fld_eq]
  exact s.fld_setFlag_apart _ _ h

theorem State.pdFadeBegin_regsBut (s : State) (n : Fin 8) :
    RegsBut [lineBase n + PD_STATUS_FADING.off] s (s.fadeBegin n pdRegs) :=
  RegsBut.of_regs (s.setFld_regsBut _ PD_STATUS_FADING 1) (s.fadeBegin_regs n pdRegs)

/-- A request in the cycle in which the transmitter stops counts as started and is pending (R142). -/
theorem exec_pdSwap_stopping (starts : s.pdSwap n = s.fadeBegin n pdRegs) : exec (.pdSwap n true) s =
    .next (((s.fadeBegin n pdRegs).fadeWaiting n pdRegs).raise (lineSrc n 0x63)
      (1 - (s.fadeBegin n pdRegs).fld (lineBase n) PD_STATUS_ACTIVE_BANK)).react :=
  congrArg done ((congrArg (State.fadeStop · n pdRegs) starts).trans (State.fadeStop_running (s.pdFadeBegin_fading n)))

/-- What a fade that stops shows. -/
theorem State.pdFadeWaiting_shows (s : State) (n : Fin 8) :
    (s.fadeWaiting n pdRegs).flag (lineBase n) PD_STATUS_FADING = false ∧
      (s.fadeWaiting n pdRegs).flag (lineBase n) PD_STATUS_FADE_PENDING = true ∧
      (s.fadeWaiting n pdRegs).fld (lineBase n) pdRegs.restarts =
        satNat pdRegs.restarts.width (s.fld (lineBase n) pdRegs.restarts + 1) := by
  refine ⟨?_, ?_, ?_⟩
  · rw [State.fadeWaiting, State.flag, State.fld_bump_apart _ _ (by decide), ← State.flag,
      State.flag_setFlag_apart _ _ _ (by decide)]
    exact s.flag_setFlag_same _ _ (by decide) rfl
  · rw [State.fadeWaiting, State.flag, State.fld_bump_apart _ _ (by decide), ← State.flag]
    exact State.flag_setFlag_same _ _ _ (by decide) rfl
  · refine (State.bump_same _ _ (by decide)).trans ?_
    rw [State.fld_setFlag_apart _ _ _ (by decide), State.fld_setFlag_apart _ _ _ (by decide)]

theorem exec_pdFadeComplete (hd : s.noneDue) (fading : s.flag (lineBase n) PD_STATUS_FADING = true) :
    exec (.pdFadeComplete n) s = .next (s.fadeFinish n pdRegs) :=
  (if_pos fading).trans ((State.fadeFinish_evolves (.refl pdParts s) pdRegs_inBlock (by decide)).done_eq (by decide) hd)

theorem State.pdFadeFinish_shows (s : State) (n : Fin 8) :
    (s.fadeFinish n pdRegs).fld (lineBase n) PD_STATUS_ACTIVE_BANK = 1 - s.fld (lineBase n) PD_STATUS_ACTIVE_BANK ∧
      (s.fadeFinish n pdRegs).flag (lineBase n) PD_STATUS_FADING = false ∧
      (s.fadeFinish n pdRegs).flag (lineBase n) PD_STATUS_FADE_PENDING = false := by
  refine ⟨?_, ?_, ?_⟩
  · rw [State.fadeFinish_lineFld pdRegs_inBlock (by decide), State.fadeDone, State.fld_setFlag_apart _ _ _ (by decide),
      State.fld_setFlag_apart _ _ _ (by decide)]
    exact State.setFld_same _ _ (by decide) (show 1 - _ < 2 by omega)
  · rw [State.flag, State.fadeFinish_lineFld pdRegs_inBlock (by decide), State.fadeDone,
      State.fld_setFlag_apart _ _ _ (by decide), ← State.flag]
    exact State.flag_setFlag_same _ _ _ (by decide) rfl
  · rw [State.flag, State.fadeFinish_lineFld pdRegs_inBlock (by decide), State.fadeDone, ← State.flag]
    exact State.flag_setFlag_same _ _ _ (by decide) rfl

theorem exec_pdFadeResume (hd : s.noneDue) (live : s.txState n = 5)
    (pending : s.flag (lineBase n) PD_STATUS_FADE_PENDING = true) : exec (.pdFadeResume n) s =
      .next ((s.setFlag (lineBase n) PD_STATUS_FADE_PENDING false).fadeBegin n pdRegs) := by
  have resumed : s.fadeResume n pdRegs = (s.setFlag (lineBase n) PD_STATUS_FADE_PENDING false).fadeBegin n pdRegs :=
    if_pos pending
  rw [← resumed]
  exact (if_pos live).trans ((State.fadeResume_evolves (.refl pdParts s) pdRegs_inBlock (by decide)).done_eq (by decide) hd)

/-- The entries of a pre-distortion bank. -/
def pdBank (bank : Fin 2) : Field := if bank.val = 0 then PD_B0_ENTRY else PD_B1_ENTRY

theorem pdBank_fits (bank : Fin 2) : (pdBank bank).lo + (pdBank bank).width ≤ 32 ∧ (pdBank bank).width = 10 := by
  revert bank; decide

theorem exec_pdBankWrite (bank : Fin 2) (idx : Fin 1024) (value : BitVec 10) (swap : Bool) (hd : s.noneDue) :
    exec (.pdBankWrite n bank idx value swap) s = .next (s.bankWrite n pdRegs bank idx value swap) :=
  (State.bankWrite_evolves (.refl [.lineRegs] s) pdRegs_inBlock (by decide)).done_eq (by decide) hd

theorem exec_pdEnWrite (n : Fin 8) (en : Bool) (hd : s.noneDue) : exec (.pdEnWrite n en) s = .next (s.pdEnable n en) :=
  (State.pdEnable_evolves (.refl pdParts s) (by decide)).done_eq (by decide) hd

theorem State.pdEnable_alone {en : Bool} (h : en = true ∨ s.fadeBusy n pdRegs = false) :
    s.pdEnable n en = s.setFlag (lineBase n) TX_CTRL_PD_EN en := by
  have busy : (s.setFlag (lineBase n) TX_CTRL_PD_EN en).fadeBusy n pdRegs = s.fadeBusy n pdRegs := by
    unfold State.fadeBusy
    rw [State.flag_setFlag_apart (g := pdRegs.fading) _ _ _ (by decide),
      State.flag_setFlag_apart (g := pdRegs.pending) _ _ _ (by decide)]
  unfold State.pdEnable State.fadeBypass
  dsimp only
  rw [busy]
  rcases h with rfl | free
  · exact if_pos rfl
  · rw [free, if_neg Bool.false_ne_true, ite_self]

/-! ### Saturated codes (R143) -/

theorem exec_txSatWindow {count : Nat} (saturated : 0 < count) : exec (.txSatWindow n count) s =
    .next ((s.addSat (lineBase n) TX_SAT_SAT_COUNT count).raiseLimited (lineSrc n 0x64) (lineSrc n 0x64)
      (satNat 16 count)).react := if_neg (by omega)

theorem State.satWindow_count (s : State) (n : Fin 8) (count : Nat) :
    ((s.addSat (lineBase n) TX_SAT_SAT_COUNT count).raiseLimited (lineSrc n 0x64) (lineSrc n 0x64)
      (satNat 16 count)).fld (lineBase n) TX_SAT_SAT_COUNT =
      satNat TX_SAT_SAT_COUNT.width (s.fld (lineBase n) TX_SAT_SAT_COUNT + count) := by
  have raised (t : State) (src : Nat) : Evolves (.limits :: raiseParts) t (t.raiseLimited src src (satNat 16 count)) :=
    State.raiseLimited_evolves (.refl _ t) (by decide)
  rw [(raised _ _).lineFld (by decide) n (by decide)]
  exact s.setFld_same _ (by decide) (satNat_lt _ _)

end

/-! ### Cells of a sub-DAC (R144, R145) -/

namespace SubDac

variable (d : SubDac) (c : Nat) (v : Option Nat)

theorem setSpare_spareOf : (d.setSpare c v).spareOf c = v := by
  unfold setSpare spareOf
  split <;> rfl

theorem setSpare_other : (d.setSpare c v).order = d.order ∧ (d.setSpare c v).underTrim = d.underTrim ∧
    (d.setSpare c v).out = d.out ∧ (d.setSpare c v).degraded = d.degraded := by
  unfold setSpare
  split <;> exact ⟨rfl, rfl, rfl, rfl⟩

end SubDac

section
variable {s : State} {n : Fin 8} {sub : Fin 4} {c : Nat}

theorem State.modSub_same (s : State) (n : Fin 8) (sub : Fin 4) (f : SubDac → SubDac) :
    (s.modSub n sub f).line[n].tx.subs[sub] = f s.line[n].tx.subs[sub] := by
  rw [State.modSub, State.modTx_same]
  simp

theorem State.modSub_fld (s : State) (n : Fin 8) (sub : Fin 4) (f : SubDac → SubDac) (base : Nat) (g : Field) :
    (s.modSub n sub f).fld base g = s.fld base g := rfl

theorem State.modSub_regsBut (s : State) (n : Fin 8) (sub : Fin 4) (f : SubDac → SubDac) :
    RegsBut [] s (s.modSub n sub f) := fun _ _ => rfl

theorem rotCount_fits (sub : Fin 4) :
    (DAC_STATUS_ROT_COUNT sub.val).lo + (DAC_STATUS_ROT_COUNT sub.val).width ≤ 32 := by revert sub; decide

theorem persist_fits (sub : Fin 4) :
    (DAC_STATUS_PERSIST sub.val).lo + (DAC_STATUS_PERSIST sub.val).width ≤ 32 := by revert sub; decide

/-- The target leaves the map for its trim, and the spare of its kind takes its place. -/
def State.cellTaken (s : State) (n : Fin 8) (sub : Fin 4) (c : Nat) : State :=
  (s.modSub n sub fun d => { d.setSpare c none with underTrim := some c }).bumpMod (lineBase n)
    (DAC_STATUS_ROT_COUNT sub.val)

theorem exec_cellRotationStep (hd : s.noneDue) (works : s.subWorks n sub = true)
    (idle : s.line[n].tx.subs[sub].underTrim = none) (period : s.fld (lineBase n) TX_CTRL_CELL_PERIOD ≠ 0)
    (target : s.line[n].tx.subs[sub].target = some c) : exec (.cellRotationStep n sub) s = .next (s.cellTaken n sub c) := by
  have taken : Evolves [.line, .lineRegs] s (s.cellTaken n sub c) :=
    State.bumpMod_evolves (State.modSub_evolves (.refl _ s) (by decide))
      (regPart_line (ps := [.line, .lineRegs]) (show 0x80C < 0x10000 by decide) (by decide))
  show execCellRotationStep n sub s = _
  rw [execCellRotationStep, if_pos (by rw [works, idle, bne_iff_ne.2 period]; rfl), target]
  exact taken.done_eq (by decide) hd

/-- The trimmed cell is the spare of its kind, and its trim the newest (R145 step 3). -/
def State.cellTrimmed (s : State) (n : Fin 8) (sub : Fin 4) (c : Nat) : State :=
  s.modSub n sub fun d => { d.setSpare c (some c) with underTrim := none, order := d.order.filter (· != c) ++ [c] }

/-- No degrading cell, or a cell under trim: no step retires one (R147). -/
theorem State.retireDegraded_idle (h : s.line[n].tx.subs[sub].degraded = [] ∨
    s.line[n].tx.subs[sub].underTrim.isSome = true) : s.retireDegraded n sub = s := by
  unfold State.retireDegraded
  dsimp only
  rcases h with clean | trims
  · rw [clean, List.find?_nil]
    exact ite_self s
  · exact if_pos trims

theorem exec_cellTrimDone (hd : s.noneDue) (trims : s.line[n].tx.subs[sub].underTrim = some c)
    (clean : s.line[n].tx.subs[sub].degraded = []) : exec (.cellTrimDone n sub) s = .next (s.cellTrimmed n sub c) := by
  have trimmed : (s.cellTrimmed n sub c).retireDegraded n sub = s.cellTrimmed n sub c := by
    refine State.retireDegraded_idle (.inl ?_)
    rw [State.cellTrimmed, State.modSub_same]
    obtain ⟨-, -, -, degraded⟩ := s.line[n].tx.subs[sub].setSpare_other c (some c)
    exact degraded.trans clean
  show execCellTrimDone n sub s = _
  rw [execCellTrimDone, trims]
  exact (congrArg done trimmed).trans
    ((State.modSub_evolves (ps := [.line]) (.refl _ s) (by decide)).done_eq (by decide) hd)

/-! ### Cells that fail or degrade (R147, R148) -/

theorem spareNoneOf_layout (sub : Fin 4) (c : Nat) : (spareNoneOf sub c).lo + (spareNoneOf sub c).width ≤ 32 ∧
    (spareNoneOf sub c).width = 1 := by
  unfold spareNoneOf
  split <;> (revert sub; decide)

theorem spareNoneOf_off (sub : Fin 4) (c : Nat) : (spareNoneOf sub c).off = 0x80C := by
  unfold spareNoneOf
  split <;> rfl

/-- The cell is out for good and its kind has no spare any more. -/
structure CellGone (n : Fin 8) (sub : Fin 4) (c : Nat) (s t : State) : Prop where
  out : c ∈ t.line[n].tx.subs[sub].out
  degraded : t.line[n].tx.subs[sub].degraded = s.line[n].tx.subs[sub].degraded.filter (· != c)
  spare : t.line[n].tx.subs[sub].spareOf c = none
  shown : t.flag (lineBase n) (spareNoneOf sub c) = true

/-- The lane without the cell, before its sources are raised. -/
def State.cellOut (s : State) (n : Fin 8) (sub : Fin 4) (c : Nat) : State :=
  (s.modSub n sub fun d =>
    { d.setSpare c none with out := d.out ++ [c], degraded := d.degraded.filter (· != c) }).setSpareNone n sub c

theorem State.cellOut_gone (s : State) (n : Fin 8) (sub : Fin 4) (c : Nat) : CellGone n sub c s (s.cellOut n sub c) := by
  obtain ⟨fits, bit⟩ := spareNoneOf_layout sub c
  have subs : (s.cellOut n sub c).line[n].tx.subs[sub] = { s.line[n].tx.subs[sub].setSpare c none with
      out := s.line[n].tx.subs[sub].out ++ [c], degraded := s.line[n].tx.subs[sub].degraded.filter (· != c) } := by
    simp only [State.cellOut, State.setSpareNone, State.setFlag_other, State.modSub_same]
  refine ⟨?_, ?_, ?_, ?_⟩
  · rw [subs]
    exact List.mem_append_right _ (List.mem_singleton_self c)
  · rw [subs]
  · rw [subs]
    exact SubDac.setSpare_spareOf _ _ _
  · rw [State.cellOut, State.setSpareNone]
    exact State.flag_setFlag_same _ _ _ fits bit

theorem State.cellReplaced_gone (s : State) (n : Fin 8) (sub : Fin 4) (c used : Nat) :
    CellGone n sub c s (s.cellReplaced n sub c used) := by
  have recorded : Evolves raiseParts (s.cellOut n sub c) (s.cellReplaced n sub c used) :=
    State.substitution_evolves (Evolves.attic (State.raise_evolves (State.raise_evolves (.refl _ _) (by decide))
      (by decide)) (by decide)) (by decide)
  have line : (s.cellReplaced n sub c used).line = (s.cellOut n sub c).line := recorded.only .line (by decide)
  obtain ⟨out, degraded, spare, shown⟩ := s.cellOut_gone n sub c
  refine ⟨line ▸ out, line ▸ degraded, line ▸ spare, ?_⟩
  rwa [State.flag, recorded.lineFld (by decide) n (by rw [spareNoneOf_off]; decide), ← State.flag]

theorem exec_dacCellAbrupt {cell : Fin 68} (handover : Option (Fin 68)) (st : 2 ≤ s.txState n) :
    exec (.dacCellAbrupt n sub cell handover) s = .next (s.cellAbrupt n sub cell.val (handover.map Fin.val)).react :=
  if_pos st

/-- An abrupt fault of a cell whose kind has its spare; a hand-over in progress counts. -/
theorem State.cellAbrupt_spare {v : Nat} (handover : Option Nat) (inside : c ∉ s.line[n].tx.subs[sub].out)
    (map : s.line[n].tx.subs[sub].inMap c = true) (spare : s.line[n].tx.subs[sub].spareOf c = some v) :
    s.cellAbrupt n sub c handover = (if handover = some c then s.bumpMod (lineBase n) (DAC_STATUS_ROT_COUNT sub.val)
      else s).cellReplaced n sub c v := by
  unfold State.cellAbrupt
  dsimp only
  rw [if_neg (by simpa using inside), if_neg (by rw [map]; decide), spare]

theorem State.cellAbrupt_persists (handover : Option Nat) (inside : c ∉ s.line[n].tx.subs[sub].out)
    (map : s.line[n].tx.subs[sub].inMap c = true) (spare : s.line[n].tx.subs[sub].spareOf c = none)
    (idle : s.line[n].tx.subs[sub].underTrim = none) : s.cellAbrupt n sub c handover = s.cellPersist n sub c := by
  unfold State.cellAbrupt
  dsimp only
  rw [if_neg (by simpa using inside), if_neg (by rw [map]; decide), spare, idle]

/-- The lane with the cell out of its map, before the source of R148 is raised. -/
def State.cellLeft (s : State) (n : Fin 8) (sub : Fin 4) (c : Nat) : State :=
  (s.modSub n sub fun d => { d with out := d.out ++ [c] }).setFlag (lineBase n) (DAC_STATUS_PERSIST sub.val) true

theorem State.cellPersist_shows (takes : s.takes (lineSrc n 0x62) (cellDetail sub c)) (detail : cellDetail sub c < 0x10000) :
    c ∈ (s.cellPersist n sub c).line[n].tx.subs[sub].out ∧
      (s.cellPersist n sub c).flag (lineBase n) (DAC_STATUS_PERSIST sub.val) = true ∧
      (s.cellPersist n sub c).isActive (lineSrc n 0x62) := by
  have left : Evolves [.line, .lineRegs] s (s.cellLeft n sub c) :=
    State.setFlag_evolves (State.modSub_evolves (.refl _ s) (by decide))
      (regPart_line (ps := [.line, .lineRegs]) (show 0x80C < 0x10000 by decide) (by decide))
  have raised : Evolves raiseParts (s.cellLeft n sub c) (s.cellPersist n sub c) :=
    State.raise_evolves (.refl _ _) (by decide)
  have line : (s.cellPersist n sub c).line = (s.cellLeft n sub c).line := raised.only .line (by decide)
  have out : (s.cellLeft n sub c).line[n].tx.subs[sub] =
      { s.line[n].tx.subs[sub] with out := s.line[n].tx.subs[sub].out ++ [c] } := by
    simp only [State.cellLeft, State.setFlag_other, State.modSub_same]
  refine ⟨?_, ?_, State.raise_isActive_of_takes (left.takes (by decide) (by decide) (by decide) takes) detail⟩
  · rw [line, out]
    exact List.mem_append_right _ (List.mem_singleton_self c)
  · rw [State.flag, raised.lineFld (by decide) n (show 0x80C < 0x10000 by decide), ← State.flag]
    exact State.flag_setFlag_same _ _ _ (persist_fits sub) rfl

/-- The cell is the newest of the degrading ones. -/
def State.cellMarked (s : State) (n : Fin 8) (sub : Fin 4) (c : Nat) : State :=
  s.modSub n sub fun d => { d with degraded := d.degraded.filter (· != c) ++ [c] }

theorem State.cellMarked_same (s : State) (n : Fin 8) (sub : Fin 4) (c : Nat) :
    (s.cellMarked n sub c).line[n].tx.subs[sub] = { s.line[n].tx.subs[sub] with
      degraded := s.line[n].tx.subs[sub].degraded.filter (· != c) ++ [c] } := State.modSub_same _ _ _ _

theorem State.cellDegrading_marks (inside : c ∉ s.line[n].tx.subs[sub].out)
    (has : s.flag (lineBase n) (spareNoneOf sub c) = false) (map : s.line[n].tx.subs[sub].inMap c = true) :
    s.cellDegrading n sub c = (s.cellMarked n sub c).retireDegraded n sub := by
  unfold State.cellDegrading
  dsimp only
  rw [if_neg (not_or.2 ⟨by simpa using inside, ne_true_of_eq_false has⟩), if_pos map]
  rfl

theorem exec_dacCellDegrading {cell : Fin 68} (st : 1 ≤ s.txState n) :
    exec (.dacCellDegrading n sub cell) s = done (s.cellDegrading n sub cell.val) := if_pos st

/-- A step that starts at once retires the only degrading cell. -/
theorem State.retireDegraded_only {v : Nat} (only : s.line[n].tx.subs[sub].degraded = [c])
    (idle : s.line[n].tx.subs[sub].underTrim = none) (map : s.line[n].tx.subs[sub].inMap c = true)
    (spare : s.line[n].tx.subs[sub].spareOf c = some v) : s.retireDegraded n sub =
      (s.bumpMod (lineBase n) (DAC_STATUS_ROT_COUNT sub.val)).cellReplaced n sub c v := by
  have found : (s.line[n].tx.subs[sub].degraded.find? fun c =>
      s.line[n].tx.subs[sub].inMap c && (s.line[n].tx.subs[sub].spareOf c).isSome) = some c := by
    rw [only]
    exact List.find?_cons_of_pos (by rw [map, spare]; rfl)
  unfold State.retireDegraded
  dsimp only
  rw [idle, found, if_neg (by decide)]
  dsimp only
  rw [spare]
  rfl

end

/-! ### Trims of the sub-DACs (R149) -/

section
variable {s : State} {n : Fin 8} {spur : Nat}

/-- Every trim that reaches a sub-DAC stands in its register, also where fewer than four are given. -/
theorem State.setTrims_taken (s : State) (n : Fin 8) {trims : List SubDacTrim} {k : Nat} {trim : SubDacTrim}
    (h : (legalTrims (s.trims n) (trims.take 4))[k]? = some trim) : (s.setTrims n trims).TrimHeld n k trim := by
  have index {e : SubDacTrim × Nat} (he : e ∈ (legalTrims (s.trims n) (trims.take 4)).zipIdx) : e.2 < 4 := by
    obtain ⟨lt, -⟩ := List.getElem?_eq_some_iff.1 (List.mem_zipIdx_iff_getElem?.1 he)
    have := legalTrims_length_le (s.trims n) (trims.take 4)
    have := List.length_take_le 4 trims
    omega
  refine State.each_mem (P := fun (e : SubDacTrim × Nat) t => t.TrimHeld n e.2 e.1) (fun e _ t => t.trimHeld_setFld n e.2 e.1)
    (fun e he y hy ne t held => ?_) s (trim, k) (List.mem_zipIdx_iff_getElem?.2 h)
  have apart : y.2 ≠ e.2 := fun same => ne (Prod.ext (Option.some.inj
    (((List.mem_zipIdx_iff_getElem?.1 hy).symm.trans (congrArg _ same)).trans (List.mem_zipIdx_iff_getElem?.1 he))) same)
  have := index he
  have keep {u : State} (held : u.TrimHeld n y.2 y.1) {f : Field} (v : Nat) (hf : f.off = 0x820) (hs : f.stride = 4) :
      (u.setFld (lineBase n) (f.ix e.2) v).TrimHeld n y.2 y.1 :=
    held.setFld (index hy) v (by simp only [Field.ix, hf, hs]; omega)
  exact keep (keep (keep held _ rfl rfl) _ rfl rfl) _ rfl rfl

/-- Every sub-DAC runs the task of its trims. -/
def State.trimsRun (s : State) (n : Fin 8) : Bool := (List.range 4).all fun k => s.lineTxTask n (5 + k)

/-- The new trims where their tasks run, and TX_SPUR. -/
def State.trimsPublished (s : State) (n : Fin 8) (trims : List SubDacTrim) (spur : Nat) : State :=
  (s.when (s.trimsRun n) fun s => s.setTrims n trims).setFld (lineBase n) TX_STATUS_TX_SPUR (satNat 16 spur)

/-- A spur that was below its threshold has not left the hysteresis. -/
def State.spurStays (s : State) (n : Fin 8) (spur : Nat) : Bool :=
  s.line[n].tx.spurHeld && decide (satNat 16 spur < 520)

/-- The lane behind the update of R149, before its source is raised. -/
def State.spurJudged (s : State) (n : Fin 8) (trims : List SubDacTrim) (spur : Nat) : State :=
  (s.trimsPublished n trims spur).modTx n fun t =>
    { t with spurHeld := s.spurStays n spur || decide (satNat 16 spur < 500) }

theorem State.trimsPublished_evolves (s : State) (n : Fin 8) (trims : List SubDacTrim) (spur : Nat) :
    Evolves [.lineRegs] s (s.trimsPublished n trims spur) :=
  State.setFld_evolves (.when (.refl _ s) fun _ h => State.setTrims_evolves h (by decide))
    (regPart_line (by decide) (by decide))

theorem State.trimsPublished_line (s : State) (n : Fin 8) (trims : List SubDacTrim) (spur : Nat) :
    (s.trimsPublished n trims spur).line = s.line := (s.trimsPublished_evolves n trims spur).only .line (by decide)

theorem State.spurJudged_spur (s : State) (n : Fin 8) (trims : List SubDacTrim) (spur : Nat) :
    (s.spurJudged n trims spur).fld (lineBase n) TX_STATUS_TX_SPUR = satNat 16 spur := by
  rw [State.spurJudged, State.modTx_fld, State.trimsPublished]
  exact State.setFld_same _ _ (by decide) (satNat_lt 16 _)

theorem State.spurJudged_held (s : State) (n : Fin 8) (trims : List SubDacTrim) (spur : Nat) :
    (s.spurJudged n trims spur).line[n].tx.spurHeld = (s.spurStays n spur || decide (satNat 16 spur < 500)) := by
  rw [State.spurJudged, State.modTx_same]

theorem State.spurJudged_trims (run : s.trimsRun n = true) {trims : List SubDacTrim} {k : Nat} (hk : k < 4)
    {trim : SubDacTrim} (h : (legalTrims (s.trims n) (trims.take 4))[k]? = some trim) :
    (s.spurJudged n trims spur).TrimHeld n k trim := by
  have set : (s.when (s.trimsRun n) fun s => s.setTrims n trims) = s.setTrims n trims := if_pos run
  rw [State.spurJudged, State.trimsPublished, set]
  exact State.TrimHeld.modTx ((s.setTrims_taken n h).setFld hk _ (by simp only [TX_STATUS_TX_SPUR]; omega)) _

theorem exec_subdacTrimUpdate (trims : List SubDacTrim) (spur : Nat) (st : 4 ≤ s.txState n)
    (task : s.lineTxTask n 13 = true) : exec (.subdacTrimUpdate n trims spur) s =
      done (if decide (satNat 16 spur < 500) && !s.spurStays n spur then (s.spurJudged n trims spur).raiseOpen (lineSrc n 0x65)
        else s.spurJudged n trims spur) := by
  have line := s.trimsPublished_line n trims spur
  have published : (s.when ((List.range 4).all fun k => s.lineTxTask n (5 + k)) fun s => s.setTrims n trims).setFld (lineBase n)
      TX_STATUS_TX_SPUR (satNat 16 spur) = s.trimsPublished n trims spur := rfl
  show execSubdacTrimUpdate n trims spur s = _
  rw [execSubdacTrimUpdate, if_pos st, task]
  dsimp only
  rw [if_pos rfl, published, line, Bool.and_true]
  exact (apply_ite done _ _ _).symm

/-- A spur at or above 520 ends the hysteresis and raises nothing. -/
theorem State.spur_high (s : State) (n : Fin 8) (high : 520 ≤ spur) :
    s.spurStays n spur = false ∧ decide (satNat 16 spur < 500) = false := by
  have sat : 520 ≤ satNat 16 spur := by unfold satNat; split <;> omega
  exact ⟨by rw [State.spurStays, decide_eq_false (by omega), Bool.and_false], decide_eq_false (by omega)⟩

/-- A raise of the spur's source leaves the lane as judged. -/
theorem State.spurRaised_evolves (c : Bool) (t : State) (src : Nat) :
    Evolves (.free :: raiseParts) t (if c then t.raiseOpen src else t) :=
  .ite (State.raiseOpen_evolves (.refl _ t) (by decide)) (.refl _ t)

end

/-- Settles O57: each clause by the state that its command answers, the fades by the words of FadeRegs, the cells by what a
cell that is out for good leaves behind. -/
theorem shapingAndCurrentCells : Obligations.ShapingAndCurrentCells := by
  unfold Obligations.ShapingAndCurrentCells
  refine ⟨?applies, ?applyBusy, ?glides, ?swaps, ?swapStops, ?swapBusy, ?completes, ?resumes, ?bankTaken, ?bankRejected,
    ?enable, ?saturates, ?rotates, ?trimmed, ?replaced, ?persists, ?waits, ?retired, ?trims, ?spur⟩
  case applies =>
    intro n s hd idle
    rw [exec_txFirApply n hd, State.txFirApply_starts idle]
    refine ⟨_, rfl, ?_, ?_, ?_, ?_, (s.setFld_regsBut _ TX_STATUS_GLIDING _).modTx n _⟩
    · rw [State.flag, State.modTx_fld, ← State.flag]
      exact s.flag_setFlag_same _ _ (by decide) rfl
    all_goals rw [State.modTx_same]
  case applyBusy =>
    intro n s hd glides
    have counted : Evolves [.lineRegs] s (s.bump (lineBase n) TX_STATUS_FIR_BUSY) :=
      State.bump_evolves (.refl _ s) (regPart_line (by decide) (by decide))
    rw [exec_txFirApply n hd, State.txFirApply_busy glides]
    exact ⟨_, rfl, s.bump_same _ (by decide), s.setFld_regsBut _ _ _, counted.only .line (by decide)⟩
  case glides =>
    exact fun n s hd glides task => ⟨_, exec_txGlideStep hd glides task, State.glideStepped_shows glides⟩
  case swaps =>
    rintro n stopping s hd busy waits inUse live rfl
    rw [exec_pdSwap n hd, State.pdSwap_live busy waits inUse live]
    exact ⟨_, rfl, s.pdFadeBegin_fading n, s.pdFadeBegin_regsBut n⟩
  case swapStops =>
    rintro n stopping s hd busy waits inUse live rfl
    obtain ⟨fading, pending, restarts⟩ := (s.fadeBegin n pdRegs).pdFadeWaiting_shows n
    refine ⟨_, exec_pdSwap_stopping (State.pdSwap_live busy waits inUse live), ?_, ?_, ?_⟩
    · exact (State.raise_lineFlag _ _ _ n (by decide)).trans fading
    · exact (State.raise_lineFlag _ _ _ n (by decide)).trans pending
    · rw [(State.raise_evolves (ps := raiseParts) (.refl _ _) (by decide)).lineFld (by decide) n (by decide)]
      rwa [s.pdFadeBegin_fld n (by decide)] at restarts
  case swapBusy =>
    rintro n stopping s hd busy rfl
    rw [exec_pdSwap n hd, State.pdSwap, State.fadeRequest_busy busy]
    exact ⟨_, rfl, s.bump_same _ (by decide), s.setFld_regsBut _ _ _⟩
  case completes => exact fun n s hd fading _ => ⟨_, exec_pdFadeComplete hd fading, s.pdFadeFinish_shows n⟩
  case resumes =>
    intro n s hd live pending
    refine ⟨_, exec_pdFadeResume hd live pending, ?_, State.pdFadeBegin_fading _ n, ?_⟩
    · rw [State.flag, State.pdFadeBegin_fld _ n (by decide), ← State.flag]
      exact s.flag_setFlag_same _ _ (by decide) rfl
    · exact fun a ha => (State.pdFadeBegin_regsBut _ n a ha).trans (s.setFld_regsBut _ PD_STATUS_FADE_PENDING _ a ha)
  case bankTaken =>
    rintro n bank idx value swap s hd free busy rfl
    obtain ⟨fits, width⟩ := pdBank_fits bank
    rw [exec_pdBankWrite bank idx value false hd, State.bankWrite_writes idx value free busy]
    exact ⟨_, rfl, s.setFld_same (f := (pdBank bank).ix idx.val) _ fits (by rw [Field.ix, width]; exact value.isLt),
      s.setFld_regsBut _ _ _⟩
  case bankRejected =>
    intro n bank idx value swap s hd h
    rw [exec_pdBankWrite bank idx value swap hd, State.bankWrite_counts idx value h]
    exact ⟨_, rfl, s.bump_same _ (by decide), s.setFld_regsBut _ _ _⟩
  case enable =>
    intro n en s hd h
    rw [exec_pdEnWrite n en hd, State.pdEnable_alone h]
    exact ⟨_, rfl, s.flag_setFlag_same _ _ (by decide) rfl, s.setFld_regsBut _ _ _⟩
  case saturates => exact fun n count s _ saturated => ⟨_, exec_txSatWindow saturated, s.satWindow_count n count⟩
  case rotates =>
    intro n sub c s hd works idle period target
    have subs : (s.cellTaken n sub c).line[n].tx.subs[sub] =
        { s.line[n].tx.subs[sub].setSpare c none with underTrim := some c } := by
      simp only [State.cellTaken, State.bumpMod, State.setFld_other, State.modSub_same]
    refine ⟨_, exec_cellRotationStep hd works idle period target, ?_, ?_, State.bumpMod_same _ _ (rotCount_fits sub),
      State.setFld_regsBut _ _ _ _⟩
    · rw [subs]
    · rw [subs]
      exact SubDac.setSpare_spareOf _ _ _
  case trimmed =>
    intro n sub c s hd trims clean
    have subs := s.modSub_same n sub fun d =>
      { d.setSpare c (some c) with underTrim := none, order := d.order.filter (· != c) ++ [c] }
    refine ⟨_, exec_cellTrimDone hd trims clean, ?_, ?_, ?_, s.modSub_regsBut n sub _⟩ <;> rw [State.cellTrimmed, subs]
    exact SubDac.setSpare_spareOf _ _ _
  case replaced =>
    intro n sub cell handover v s _ st inside map spare
    obtain ⟨out, -, gone, shown⟩ := State.cellReplaced_gone (if handover.map Fin.val = some cell.val then
      s.bumpMod (lineBase n) (DAC_STATUS_ROT_COUNT sub.val) else s) n sub cell.val v
    rw [← State.cellAbrupt_spare _ inside map spare] at out gone shown
    exact ⟨_, exec_dacCellAbrupt handover st, out, gone, shown⟩
  case persists =>
    intro n sub cell handover s _ st inside map spare idle takes
    have detail : cellDetail sub cell.val < 0x10000 := by unfold cellDetail; omega
    have shows' := State.cellPersist_shows takes detail
    rw [← State.cellAbrupt_persists _ inside map spare idle] at shows'
    exact ⟨_, exec_dacCellAbrupt handover st, shows'⟩
  case waits =>
    intro n sub cell s hd st inside has map trims
    have subs := s.cellMarked_same n sub cell.val
    have stays : s.cellDegrading n sub cell.val = s.cellMarked n sub cell.val := by
      rw [State.cellDegrading_marks inside has map]
      exact State.retireDegraded_idle (.inr (by rw [subs]; exact trims))
    refine ⟨_, (exec_dacCellDegrading st).trans ?_, congrArg SubDac.degraded subs, s.modSub_regsBut n sub _⟩
    rw [stays]
    exact (State.modSub_evolves (ps := [.line]) (.refl _ s) (by decide)).done_eq (by decide) hd
  case retired =>
    intro n sub cell v s _ st inside has map idle clean spare
    have subs : (s.cellMarked n sub cell.val).line[n].tx.subs[sub] =
        { s.line[n].tx.subs[sub] with degraded := [cell.val] } := by
      rw [State.cellMarked_same, clean]
      rfl
    have retires : s.cellDegrading n sub cell.val = ((s.cellMarked n sub cell.val).bumpMod (lineBase n)
        (DAC_STATUS_ROT_COUNT sub.val)).cellReplaced n sub cell.val v := by
      rw [State.cellDegrading_marks inside has map]
      exact State.retireDegraded_only (by rw [subs]) (by rw [subs]; exact idle) (by rw [subs]; exact map)
        (by rw [subs]; exact spare)
    obtain ⟨out, degraded, gone, shown⟩ := State.cellReplaced_gone ((s.cellMarked n sub cell.val).bumpMod (lineBase n)
      (DAC_STATUS_ROT_COUNT sub.val)) n sub cell.val v
    rw [← retires] at out degraded gone shown
    refine ⟨_, exec_dacCellDegrading st, out, degraded.trans ?_, gone, shown⟩
    refine (congrArg (fun d : SubDac => d.degraded.filter (· != cell.val)) subs).trans ?_
    simp
  case trims =>
    intro n trims spur s hd st task run high
    obtain ⟨stays, low⟩ := s.spur_high n high
    have all : s.trimsRun n = true := List.all_eq_true.2 fun k hk => run ⟨k, List.mem_range.1 hk⟩
    have judged : Evolves [.line, .lineRegs] s (s.spurJudged n trims spur) :=
      State.modTx_evolves ((s.trimsPublished_evolves n trims spur).mono (by decide)) (by decide)
    refine ⟨_, ?_, s.spurJudged_spur n trims spur, ?_, fun j trim h => State.spurJudged_trims all j.isLt h⟩
    · rw [exec_subdacTrimUpdate trims spur st task, low, Bool.false_and, if_neg Bool.false_ne_true]
      exact judged.done_eq (by decide) hd
    · rw [s.spurJudged_held n trims spur, stays, low, Bool.or_false]
  case spur =>
    intro n trims spur s _ st task low
    have sat : satNat 16 spur = spur := if_neg (by omega)
    have raised := State.spurRaised_evolves (decide (satNat 16 spur < 500) && !s.spurStays n spur) (s.spurJudged n trims spur)
      (lineSrc n 0x65)
    refine ⟨_, exec_subdacTrimUpdate trims spur st task, ?_, ?_⟩
    · rw [raised.lineFld (by decide) n (by decide), s.spurJudged_spur n trims spur, sat]
    · rw [show State.line _ = _ from raised.only .line (by decide), s.spurJudged_held n trims spur, sat, decide_eq_true low,
        Bool.or_true]

end Sys2Proof.Machine
end

section
/-! What room 14's work on a lane rests on (O39, O40): the registers of the census, and the words of the line lanes that say
whether a bank of the canceller or of the pre-distortion can be swapped. -/

namespace Sys2Proof.Machine

open Reg

/-! ### Registers of the census -/

section
variable {ps : List Part} {s t u : State}

theorem regPart_pantryBase {k : Nat} (h : k < 0x10000) : regPart (pantryBase + k) = .pantryRegs := by
  simpa using regPart_pantry h (List.Subset.refl [Part.pantryRegs])

/-- An operation outside the block of the census leaves its fields alone. -/
theorem Evolves.pantryFld (h : Evolves ps s t) (hp : .pantryRegs ∉ ps) {f : Field} (hf : f.off < 0x10000) :
    t.fld pantryBase f = s.fld pantryBase f := h.fld (by rwa [regPart_pantryBase hf])

theorem Evolves.pantryFlag (h : Evolves ps s t) (hp : .pantryRegs ∉ ps) {f : Field} (hf : f.off < 0x10000) :
    t.flag pantryBase f = s.flag pantryBase f := h.flag (by rwa [regPart_pantryBase hf])

theorem Evolves.tamidState (h : Evolves ps s t) (hp : .tamidRegs ∉ ps) (i : Fin 8) : t.tamidState i = s.tamidState i :=
  h.fld fun m => hp (by
    have := regPart_tamid (i := i) (k := TM_STATUS_STATE.off) (by decide) (List.Subset.refl [Part.tamidRegs])
    rwa [List.mem_singleton.1 (this (List.mem_singleton_self _))] at m)

/-! ### The words of the line lanes below their tables -/

/-- The words of the line lanes below their tables stand, and the modes and groups do. -/
structure LaneWords (s t : State) : Prop where
  lanes : t.lanes = s.lanes
  fld : ∀ (k : Fin 8) (f : Field), f.off < 0x1000 → t.fld (lineBase k) f = s.fld (lineBase k) f

theorem LaneWords.refl (s : State) : LaneWords s s := ⟨rfl, fun _ _ _ => rfl⟩

theorem LaneWords.trans (h : LaneWords s t) (k : LaneWords t u) : LaneWords s u :=
  ⟨k.lanes.trans h.lanes, fun j f hf => (k.fld j f hf).trans (h.fld j f hf)⟩

theorem Evolves.laneWords (h : Evolves ps s t) (hl : .lanes ∉ ps) (hr : .lineRegs ∉ ps) : LaneWords s t :=
  ⟨h.only .lanes hl, fun k _ hf => h.lineFld hr k (hf.trans (by decide))⟩

theorem LaneWords.flag (h : LaneWords s t) (k : Fin 8) {f : Field} (hf : f.off < 0x1000) :
    t.flag (lineBase k) f = s.flag (lineBase k) f := congrArg (· == 1) (h.fld k f hf)

theorem LaneWords.changeWaits (h : LaneWords s t) (n : Fin 8) : t.changeWaits n = s.changeWaits n := by
  have fading (k : Fin 8) : (t.flag (lineBase k) nlcRegs.fading || t.flag (lineBase k) pdRegs.fading) =
      (s.flag (lineBase k) nlcRegs.fading || s.flag (lineBase k) pdRegs.fading) := by
    rw [h.flag k (by decide), h.flag k (by decide)]
  simp only [State.changeWaits, State.groupFading, State.groupLead, State.groupOf, h.lanes, fading]

theorem LaneWords.fadeBusy (h : LaneWords s t) (n : Fin 8) {r : FadeRegs} (fading : r.fading.off < 0x1000)
    (pending : r.pending.off < 0x1000) : t.fadeBusy n r = s.fadeBusy n r := by
  rw [State.fadeBusy, h.flag n fading, h.flag n pending, State.fadeBusy]

theorem LaneWords.nlcReady (h : LaneWords s t) (n : Fin 8) : t.nlcReady n = s.nlcReady n := by
  rw [State.nlcReady, State.locked, h.flag n (by decide), h.fadeBusy n (by decide) (by decide), h.changeWaits, State.nlcReady,
    State.locked]

theorem LaneWords.pdReady (h : LaneWords s t) (n : Fin 8) : t.pdReady n = s.pdReady n := by
  rw [State.pdReady, State.txState, h.fld n _ (by decide), h.fadeBusy n (by decide) (by decide), h.changeWaits, State.pdReady,
    State.txState]

end

end Sys2Proof.Machine
end

section
/-! Proposals of a pre-distortion (O40).  What room 14 sends waits for the transmitter of the lane's Tamid instance, and what it
receives leaves the queue of that instance: one lemma for each, then a command is its effect on the lane's record. -/

namespace Sys2Proof.Machine

open Reg

/-! ### Messages that room 14 sends (R180, R182) -/

section
variable {s t : State} {n : Fin 8}

/-- A message of room 14 for lane `n` is sent: PD_TAMID is set, and the Tamid instance is awake outside safe state. -/
structure State.Sends (s : State) (n : Fin 8) : Prop where
  on : s.flag pantryBase PANTRY_CTRL_PD_TAMID = true
  safe : s.fuse.safe = false
  awake : s.tamidState n ≠ 0

theorem State.pantrySend_waits (p : List Byte) (h : s.Sends n) :
    (s.pantrySend n p).tamid[n].own = s.tamid[n].own ++ [p] ∧ (s.pantrySend n p).Sends n := by
  obtain ⟨on, safe, awake⟩ := h
  have sent : s.pantrySend n p = s.tamidOwn n p :=
    if_pos (by rw [on, Bool.true_and, bne_iff_ne]; exact awake)
  obtain ⟨own, safe', awake'⟩ := State.tamidOwn_awake p safe awake
  have kept : Evolves [.tamid, .tamidRegs] s (s.tamidOwn n p) := State.tamidOwn_evolves (.refl _ s) (List.Subset.refl _)
  rw [sent]
  exact ⟨own, (kept.pantryFlag (by decide) (by decide)).trans on, safe', awake'⟩

theorem State.each_pantrySend {α : Type} (message : α → List Byte) (l : List α) (h : s.Sends n) :
    (s.each l fun k s => s.pantrySend n (message k)).tamid[n].own = s.tamid[n].own ++ l.map message := by
  induction l generalizing s with
  | nil => exact (List.append_nil _).symm
  | cons k l ih =>
    obtain ⟨own, sends⟩ := State.pantrySend_waits (message k) h
    exact (ih sends).trans (by rw [own, List.append_assoc]; rfl)

theorem State.sendProposal_own (seq : Nat) (h : s.Sends n) : (s.sendProposal n seq).tamid[n].own =
    s.tamid[n].own ++ (List.range 8).map fun k => proposeMessage seq k s.pantry.lanes[n].proposal :=
  State.each_pantrySend (fun k => proposeMessage seq k s.pantry.lanes[n].proposal) (List.range 8) h

theorem State.sendProposal_parts (s : State) (n : Fin 8) (seq : Nat) :
    Evolves [.tamid, .tamidRegs] s (s.sendProposal n seq) := State.sendProposal_evolves (.refl _ s) (List.Subset.refl _)

/-- A change of the record of a lane's census leaves what its messages wait for alone. -/
theorem State.Sends.modPantry (h : s.Sends n) (k : Fin 8) (f : PantryLane → PantryLane) : (s.modPantry k f).Sends n :=
  ⟨h.on, h.safe, h.awake⟩

/-! ### A proposal is sent (R179, R180, log 138) -/

/-- The sequence number behind the one last sent. -/
def State.nextSeq (s : State) (n : Fin 8) : Nat := (s.fld pantryBase (pl n PL_DERIVE_PROP_SEQ_TX) + 1) % 256

/-- The lane with its proposal noted as sent, before the messages. -/
def State.proposalNoted (s : State) (n : Fin 8) : State :=
  (s.setFld pantryBase (pl n PL_DERIVE_PROP_SEQ_TX) (s.nextSeq n)).modPantry n fun l =>
    { l with unsent := false, awaiting := some (s.tick, false), sent := s.windowNow n }

theorem seqTx_apart (n : Fin 8) : PANTRY_CTRL_PD_TAMID.Apart (pl n PL_DERIVE_PROP_SEQ_TX) := by revert n; decide

theorem State.proposalNoted_sends (h : s.Sends n) : (s.proposalNoted n).Sends n := by
  obtain ⟨on, safe, awake⟩ := h
  have written : Evolves [.pantryRegs] s (s.setFld pantryBase (pl n PL_DERIVE_PROP_SEQ_TX) (s.nextSeq n)) :=
    State.setFld_evolves (.refl _ s) (regPart_pantry (Field.ix_lt _ _) (by decide))
  refine ⟨?_, safe, ?_⟩
  · exact (s.flag_setFld_apart _ _ (seqTx_apart n)).trans on
  · exact fun asleep => awake ((written.tamidState (by decide) n).symm.trans asleep)

theorem State.proposalNoted_seq (s : State) (n : Fin 8) :
    (s.proposalNoted n).fld pantryBase (pl n PL_DERIVE_PROP_SEQ_TX) = s.nextSeq n := by
  rw [State.proposalNoted, State.modPantry_fld]
  exact s.setFld_same _ (show 8 + 8 ≤ 32 by decide) (Nat.mod_lt _ (by decide))

theorem exec_proposalSend (hd : s.noneDue) (task : s.taskRuns 14 (taskInstall n) = true)
    (on : s.flag pantryBase PANTRY_CTRL_PD_TAMID = true) (unsent : s.pantry.lanes[n].unsent = true) :
    exec (.proposalSend n) s = .next ((s.proposalNoted n).sendProposal n (s.nextSeq n)) := by
  show execProposalSend n s = _
  rw [execProposalSend, if_pos ⟨task, on, unsent⟩]
  exact ((s.proposalNoted n).sendProposal_parts n _).done_eq (by decide) hd

/-! ### Ten seconds without an ACK (R182) -/

/-- The proposal of a lane waits for its ACK once more. -/
def State.sentAgain (s : State) (n : Fin 8) : State :=
  s.modPantry n fun l => { l with awaiting := some (s.tick, true) }

theorem exec_proposalTimeout_first {k : Nat} (hd : s.noneDue) (waits : s.pantry.lanes[n].awaiting = some (k, false))
    (task : s.taskRuns 14 (taskInstall n) = true) : exec (.proposalTimeout n) s =
      .next ((s.sentAgain n).sendProposal n (s.fld pantryBase (pl n PL_DERIVE_PROP_SEQ_TX))) := by
  show execProposalTimeout n s = _
  rw [execProposalTimeout, if_pos task, waits]
  exact ((s.sentAgain n).sendProposal_parts n _).done_eq (by decide) hd

theorem exec_proposalTimeout_second {k : Nat} (waits : s.pantry.lanes[n].awaiting = some (k, true))
    (task : s.taskRuns 14 (taskInstall n) = true) : exec (.proposalTimeout n) s =
      done ((s.modPantry n fun l => { l with awaiting := none }).raise 0x4106 n.val) := by
  show execProposalTimeout n s = _
  rw [execProposalTimeout, if_pos task, waits]

/-! ### Messages that room 14 receives (R181, R182) -/

/-- The oldest message of an instance has left its queue. -/
def State.messageTaken (s : State) (n : Fin 8) (rest : List (List Byte)) : State :=
  s.modTamid n fun t => { t with messages := rest }

theorem State.takeMessage_of_kind {kind : Byte} {m : List Byte} {rest : List (List Byte)}
    (first : s.tamid[n].messages = m :: rest) (is : m.head? = some kind)
    (task : s.taskRuns 14 (taskInstall n) = true) : s.takeMessage n kind = some (m, s.messageTaken n rest) := by
  unfold State.takeMessage
  rw [first]
  exact if_pos ⟨is, task⟩

theorem State.messageTaken_parts (s : State) (n : Fin 8) (rest : List (List Byte)) :
    Evolves [.tamid, .pantry] s (s.messageTaken n rest) := State.modTamid_evolves (.refl _ s) (by decide) id

theorem State.messageTaken_messages (s : State) (n : Fin 8) (rest : List (List Byte)) :
    (s.messageTaken n rest).tamid[n].messages = rest := congrArg TamidInst.messages (s.modTamid_same n _)

/-- A sequence is not complete with one part. -/
theorem Assembly.whole_single (seq since part : Nat) (body : List Byte) :
    Assembly.whole { seq := seq, since := since, parts := [(part, body)] } = false := by
  by_contra h
  rw [Bool.not_eq_false, Assembly.whole, List.all_eq_true] at h
  have first := h 0 (by decide)
  have second := h 1 (by decide)
  simp only [List.any_cons, List.any_nil, Bool.or_false, beq_iff_eq] at first second
  omega

theorem exec_proposeReceived_first {seq part : Byte} {body : List Byte} {rest : List (List Byte)} (hd : s.noneDue)
    (task : s.taskRuns 14 (taskInstall n) = true) (on : s.proposalsOpen = true)
    (first : s.tamid[n].messages = ([0xC1, seq, part] ++ body) :: rest) (idle : s.pantry.lanes[n].assembly = none) :
    exec (.proposeReceived n) s = .next ((s.messageTaken n rest).modPantry n fun l =>
      { l with assembly := some { seq := seq.toNat, since := s.tick, parts := [(part.toNat, body.take 160)] } }) := by
  show execProposeReceived n s = _
  have on' : (s.messageTaken n rest).proposalsOpen = true := on
  have idle' : (s.messageTaken n rest).pantry.lanes[n].assembly = none := idle
  rw [execProposeReceived, State.takeMessage_of_kind first rfl task]
  dsimp only
  rw [on', idle', if_neg (by decide)]
  refine (if_neg (ne_true_of_eq_false (Assembly.whole_single seq.toNat s.tick part.toNat (body.take 160)))).trans ?_
  exact (State.modPantry_evolves (s.messageTaken_parts n rest) (by decide)).done_eq (by decide) hd

/-- The ACK of the last sequence has come: the lane without its wait. -/
def State.acknowledged (s : State) (n : Fin 8) (rest : List (List Byte)) : State :=
  (s.messageTaken n rest).modPantry n fun l => { l with awaiting := none }

theorem exec_ackReceived {seq result : Byte} {tail : List Byte} {rest : List (List Byte)} (hd : s.noneDue)
    (task : s.taskRuns 14 (taskInstall n) = true) (on : s.proposalsOpen = true)
    (first : s.tamid[n].messages = ([0xC2, seq, result] ++ tail) :: rest)
    (waits : s.pantry.lanes[n].awaiting.isSome = true)
    (last : seq.toNat = s.fld pantryBase (pl n PL_DERIVE_PROP_SEQ_TX)) : exec (.ackReceived n) s =
      .next (if result = 0 then (s.acknowledged n rest).installPoint n (some seq.toNat) else s.acknowledged n rest) := by
  show execAckReceived n s = _
  have on' : (s.messageTaken n rest).proposalsOpen = true := on
  have known : ((s.messageTaken n rest).pantry.lanes[n].awaiting.isSome &&
      seq.toNat == (s.messageTaken n rest).fld pantryBase (pl n PL_DERIVE_PROP_SEQ_TX)) = true :=
    Bool.and_eq_true_iff.2 ⟨waits, beq_iff_eq.2 last⟩
  have noted : Evolves [.tamid, .pantry] s (s.acknowledged n rest) :=
    State.modPantry_evolves (s.messageTaken_parts n rest) (by decide)
  rw [execAckReceived, State.takeMessage_of_kind first rfl task]
  refine (if_pos (Bool.and_eq_true_iff.2 ⟨on', known⟩)).trans ?_
  by_cases zero : result = 0
  · rw [if_pos zero]
    refine (if_pos (congrArg some zero)).trans ?_
    exact (State.installPoint_evolves noted (by decide)).done_eq (by decide) hd
  · rw [if_neg zero]
    refine (if_neg fun h => zero (Option.some.inj h)).trans ?_
    exact noted.done_eq (by decide) hd

theorem State.installPoint_same (s : State) (n : Fin 8) (proposal : Option Nat) :
    (s.installPoint n proposal).pantry.lanes[n] = { s.pantry.lanes[n] with
      installTick := some s.tick, installS := s.pantry.lanes[n].samples, installE := s.tableSum (2 * n.val),
      judge := some {
        proposal := proposal
        before := (if proposal.isSome then s.pantry.lanes[n].sent else s.pantry.lanes[n].before).1
        window := (if proposal.isSome then s.pantry.lanes[n].sent else s.pantry.lanes[n].before).2
        start := s.pantry.lanes[n].samples, after := 0 } } := s.modPantry_same n _

/-- The lane with a REVERT counted and due, before the transmitter is looked at. -/
def State.revertNoted (s : State) (n : Fin 8) (rest : List (List Byte)) (seq : Nat) : State :=
  ((s.messageTaken n rest).bump pantryBase (pl n PL_STATUS_PD_REVERTS)).modPantry n fun l =>
    { l with pdLast := none, pdDue := some { seq := seq, proposal := none, step := none } }

theorem State.revertNoted_parts (s : State) (n : Fin 8) (rest : List (List Byte)) (seq : Nat) :
    Evolves [.tamid, .pantry, .pantryRegs] s (s.revertNoted n rest seq) :=
  State.modPantry_evolves (State.bump_evolves ((s.messageTaken_parts n rest).mono (by decide))
    (regPart_pantry (Field.ix_lt _ _) (by decide))) (by decide)

theorem exec_revertReceived_waits {seq : Byte} {tail : List Byte} {rest : List (List Byte)} (hd : s.noneDue)
    (task : s.taskRuns 14 (taskInstall n) = true) (on : s.proposalsOpen = true)
    (first : s.tamid[n].messages = ([0xC3, seq] ++ tail) :: rest) (last : s.pantry.lanes[n].pdLast = some seq.toNat)
    (busy : s.pdReady n = false) : exec (.revertReceived n) s = .next (s.revertNoted n rest seq.toNat) := by
  show execRevertReceived n s = _
  have noted := s.revertNoted_parts n rest seq.toNat
  have busy' : (s.revertNoted n rest seq.toNat).pdReady n = false := by
    rw [(noted.laneWords (by decide) (by decide)).pdReady, busy]
  have known : ((s.messageTaken n rest).proposalsOpen && (s.messageTaken n rest).pantry.lanes[n].pdLast == some seq.toNat)
      = true := Bool.and_eq_true_iff.2 ⟨on, beq_iff_eq.2 last⟩
  rw [execRevertReceived, State.takeMessage_of_kind first rfl task]
  refine (if_pos known).trans ?_
  have stays : (s.revertNoted n rest seq.toNat).pdInstall n = s.revertNoted n rest seq.toNat := by
    have due : (s.revertNoted n rest seq.toNat).pantry.lanes[n].pdDue =
        some { seq := seq.toNat, proposal := none, step := none } := congrArg PantryLane.pdDue (State.modPantry_same _ n _)
    unfold State.pdInstall
    rw [due]
    exact if_neg (ne_true_of_eq_false busy')
  exact (congrArg done stays).trans (noted.done_eq (by decide) hd)

/-! ### Ten seconds after a first part (R181) -/

theorem State.pantrySend_parts (s : State) (n : Fin 8) (p : List Byte) : Evolves [.tamid, .tamidRegs] s (s.pantrySend n p) :=
  State.pantrySend_evolves (.refl _ s) (List.Subset.refl _)

theorem exec_proposalAssemblyTimeout {a : Assembly} (hd : s.noneDue) (collects : s.pantry.lanes[n].assembly = some a) :
    exec (.proposalAssemblyTimeout n) s =
      .next ((s.modPantry n fun l => { l with assembly := none }).pantrySend n [0xC2, BitVec.ofNat 8 a.seq, 2]) := by
  show execProposalAssemblyTimeout n s = _
  rw [execProposalAssemblyTimeout, collects]
  exact (State.pantrySend_parts _ n _).done_eq (by decide) hd

end

/-- Settles O40: each clause is the effect of its command on the lane's record, and what it sends or takes. -/
theorem preDistortionProposals : Obligations.PreDistortionProposals := by
  unfold Obligations.PreDistortionProposals
  refine ⟨?send, ?again, ?lost, ?part, ?ack, ?revert, ?late⟩
  case send =>
    intro n s hd task on unsent safe awake
    have sent := (s.proposalNoted n).sendProposal_parts n (s.nextSeq n)
    have pantry := sent.only .pantry (by decide)
    have lane : (s.proposalNoted n).pantry.lanes[n] = { s.pantry.lanes[n] with
        unsent := false, awaiting := some (s.tick, false), sent := s.windowNow n } := State.modPantry_same _ n _
    refine ⟨_, exec_proposalSend hd task on unsent, ?_, ?_, ?_, ?_, ?_⟩
    · rw [sent.pantryFld (by decide) (Field.ix_lt _ _)]
      exact s.proposalNoted_seq n
    · rw [pantry, lane]
    · rw [pantry, lane]
    · rw [pantry, lane]
    · rw [State.sendProposal_own _ (State.proposalNoted_sends ⟨on, safe, awake⟩), lane]
      rfl
  case again =>
    intro n k s hd waits task on safe awake
    have sent := (s.sentAgain n).sendProposal_parts n (s.fld pantryBase (pl n PL_DERIVE_PROP_SEQ_TX))
    have lane : (s.sentAgain n).pantry.lanes[n] = { s.pantry.lanes[n] with awaiting := some (s.tick, true) } :=
      s.modPantry_same n _
    refine ⟨_, exec_proposalTimeout_first hd waits task, ?_, ?_⟩
    · rw [sent.only .pantry (by decide), lane]
    · have sends : (s.sentAgain n).Sends n := State.Sends.modPantry ⟨on, safe, awake⟩ n _
      rw [State.sendProposal_own _ sends, lane]
      rfl
  case lost =>
    intro n k s _ waits task takes
    have noted : Evolves [.pantry] s (s.modPantry n fun l => { l with awaiting := none }) :=
      State.modPantry_evolves (.refl _ s) (by decide)
    have raised : Evolves raiseParts _ ((s.modPantry n fun l => { l with awaiting := none }).raise 0x4106 n.val) :=
      State.raise_evolves (.refl _ _) (by decide)
    refine ⟨_, exec_proposalTimeout_second waits task, ?_, ?_⟩
    · rw [raised.only .pantry (by decide)]
      exact congrArg PantryLane.awaiting (s.modPantry_same n _)
    · exact State.raise_isActive_of_takes (noted.takes (by decide) (by decide) (by decide) takes) (n.isLt.trans (by decide))
  case part =>
    intro n seq part body rest s hd task on first idle
    refine ⟨_, exec_proposeReceived_first hd task on first idle, s.messageTaken_messages n rest,
      congrArg PantryLane.assembly (State.modPantry_same _ n _), fun _ _ => rfl⟩
  case ack =>
    intro n seq result tail rest s hd task on first waits last
    have lane : (s.acknowledged n rest).pantry.lanes[n] = { s.pantry.lanes[n] with awaiting := none } :=
      State.modPantry_same _ n _
    have messages : (s.acknowledged n rest).tamid[n].messages = rest := s.messageTaken_messages n rest
    refine ⟨_, exec_ackReceived hd task on first waits last, ?_⟩
    by_cases zero : result = 0
    · rw [if_pos zero, State.installPoint_same, lane]
      exact ⟨messages, rfl, fun _ _ => rfl, fun _ => ⟨rfl, rfl, rfl⟩, fun ne => absurd zero ne⟩
    · rw [if_neg zero, lane]
      exact ⟨messages, rfl, fun _ _ => rfl, fun e => absurd e zero, fun _ => ⟨rfl, rfl⟩⟩
  case revert =>
    intro n seq tail rest s hd task on first last busy
    have lane : (s.revertNoted n rest seq.toNat).pantry.lanes[n] = { s.pantry.lanes[n] with
        pdLast := none, pdDue := some { seq := seq.toNat, proposal := none, step := none } } := State.modPantry_same _ n _
    refine ⟨_, exec_revertReceived_waits hd task on first last busy, s.messageTaken_messages n rest, ?_, ?_,
      ?_, State.setFld_regsBut _ _ _ _⟩
    · rw [State.revertNoted, State.modPantry_fld]
      exact State.bump_same _ _ (show 0 + 4 ≤ 32 by decide)
    · rw [lane]
    · rw [lane]
  case late =>
    intro n a s hd collects on safe awake
    have sends : (s.modPantry n fun l => { l with assembly := none }).Sends n := State.Sends.modPantry ⟨on, safe, awake⟩ n _
    refine ⟨_, exec_proposalAssemblyTimeout hd collects, ?_, (State.pantrySend_waits _ sends).1⟩
    rw [(State.pantrySend_parts _ n _).only .pantry (by decide)]
    exact congrArg PantryLane.assembly (s.modPantry_same n _)

end Sys2Proof.Machine
end

section
/-! Calibration, Pantry and time commands (O24).  A packet command that runs at once takes its packet from the list, does its
work and replies, and no packet waits behind it: the first part says this once, for every such command.  Each clause is then the
work of its command before the reply. -/

namespace Sys2Proof.Machine

open Reg

/-! ### A packet command that runs at once (R271, R272) -/

section
variable {s t u v : State} {o : Origin} {op status : Nat} {results : List Byte}

theorem State.takeHead_taken (s : State) (o : Origin) (op : Nat) :
    ∃ taken, s.takeHead o op = { s with link := { s.link with taken := taken } } := by
  unfold State.takeHead
  split
  · split
    · exact ⟨_, rfl⟩
    · exact ⟨_, rfl⟩
  · exact ⟨_, rfl⟩

/-- What does not read the packets taken reads behind the packet of a command as before it. -/
theorem State.takeHead_reads {α : Type} (f : State → α)
    (h : ∀ s taken, f { s with link := { s.link with taken := taken } } = f s) (s : State) (o : Origin) (op : Nat) :
    f (s.takeHead o op) = f s := by
  obtain ⟨taken, e⟩ := s.takeHead_taken o op
  rw [e, h]

theorem State.kick_of_empty (h : s.link.inbox = []) : s.kick = s := by
  unfold State.kick State.kickRounds
  rw [h]
  exact ite_self s

/-- Taking a packet and replying to it changes only the ways of a reply. -/
theorem State.answered_parts (s : State) (o : Origin) (op status : Nat) (results : List Byte) :
    Evolves completeParts s ((s.takeHead o op).reply o status results) :=
  State.reply_evolves (State.takeHead_evolves (.refl _ s) (by decide)) (List.Subset.refl _)

/-- `u` stands between the work of a packet command on `s` and its reply: the reply finds its place, and no packet waits. -/
structure ReplyReady (s u : State) : Prop where
  fuse : u.fuse = s.fuse
  tamid : u.tamid = s.tamid
  awake : ∀ i, u.tamidState i = s.tamidState i
  inbox : u.link.inbox = []
  waiting : u.link.waiting = []
  outbox : u.link.outbox = s.link.outbox
  room : u.link.outbox.length < 4

theorem State.accepts.ready (h : s.accepts o op) : ReplyReady s (s.takeHead o op) := by
  obtain ⟨-, -, -, -, -, inbox, waiting, room⟩ := h
  obtain ⟨taken, e⟩ := s.takeHead_taken o op
  rw [e]
  exact ⟨rfl, rfl, fun _ => rfl, inbox, waiting, rfl, room⟩

theorem ReplyReady.andThen {ps : List Part} (h : ReplyReady s u) (k : Evolves ps u v) (hf : .fuse ∉ ps) (ht : .tamid ∉ ps)
    (hl : .link ∉ ps) (hr : .tamidRegs ∉ ps) : ReplyReady s v := by
  have link : v.link = u.link := k.only .link hl
  exact ⟨(k.only .fuse hf).trans h.fuse, (k.only .tamid ht).trans h.tamid,
    fun i => (k.tamidState hr i).trans (h.awake i), link ▸ h.inbox, link ▸ h.waiting, link ▸ h.outbox, link ▸ h.room⟩

theorem State.reply_parts (s : State) (o : Origin) (status : Nat) (results : List Byte) :
    Evolves completeParts s (s.reply o status results) := State.reply_evolves (.refl _ s) (List.Subset.refl _)

theorem State.attn_inbox (s : State) (f : Field) : (s.attn f).link.inbox = s.link.inbox := by
  unfold State.attn State.attnEdge
  split <;> rfl

theorem State.reply_inbox (hr : status ≠ stRetry) : (s.reply o status results).link.inbox = s.link.inbox := by
  unfold State.reply
  rw [State.countRetry_of_ne hr]
  dsimp only
  split
  · have sent : Evolves [.tamid, .tamidRegs] s _ :=
      Evolves.each (l := replyPayloads ⟨o.seq.toNat, status, results⟩) (.refl _ s) fun p t ht =>
        State.tamidOwn_evolves (i := ‹Fin 8›) (p := p) ht (by decide)
    exact congrArg Link.inbox (sent.only .link (by decide))
  · unfold State.enqueue
    split
    · exact State.attn_inbox _ _
    · rfl

/-- The reply goes the way the packet came, and neither the inbox nor the list of running commands changes. -/
theorem ReplyReady.reply (h : ReplyReady s u) (hr : status ≠ stRetry) :
    Answered s (u.reply o status results) o status results ∧ (u.reply o status results).link.inbox = [] ∧
    (u.reply o status results).link.running = u.link.running := by
  have answered : Answered u (u.reply o status results) o status results := State.reply_answered h.waiting h.room hr
  refine ⟨?_, (State.reply_inbox hr).trans h.inbox, (State.reply_undisturbed hr).running⟩
  unfold Answered at answered ⊢
  dsimp only at answered ⊢
  cases via : o.via with
  | tamid i => simpa only [via, h.fuse, h.awake, h.tamid] using answered
  | _ => simpa only [via, h.outbox] using answered

/-- A command that runs on is answered ACCEPTED and stands behind those that run (R272). -/
theorem ReplyReady.accept (h : ReplyReady s u) (arg : Nat) : Answered s (u.accept o op arg) o stAccepted [] ∧
    (u.accept o op arg).link.inbox = [] ∧ (u.accept o op arg).link.running = u.link.running ++ [⟨o, op, arg⟩] ∧
    (u.accept o op arg).fuse = s.fuse := by
  have started : ReplyReady s { u with link := { u.link with running := u.link.running ++ [⟨o, op, arg⟩] } } :=
    ⟨h.fuse, h.tamid, h.awake, h.inbox, h.waiting, h.outbox, h.room⟩
  obtain ⟨answered, inbox, running⟩ := started.reply (o := o) (results := []) (show stAccepted ≠ stRetry by decide)
  exact ⟨answered, inbox, running, ((State.reply_parts _ _ _ _).only .fuse (by decide)).trans h.fuse⟩

/-- A command that runs at once does its work on the part without its packet, and the next packet is looked for. -/
theorem command_accepted (acc : s.accepts o op) (run : State → State) :
    command o op true run s = done (run (s.takeHead o op)).kick := by
  obtain ⟨up, shut, doze, deep, permitted, -⟩ := acc
  have awake : s.dozeExit = s := if_neg doze
  have deep' : (s.takeHead o op).inDeep = false :=
    (State.takeHead_reads State.inDeep (fun _ _ => rfl) s o op).trans deep
  have permitted' : (s.takeHead o op).refusedBy o.via op = none :=
    (State.takeHead_reads (fun s => s.refusedBy o.via op) (fun _ _ => rfl) s o op).trans permitted
  rw [command, if_pos ⟨up, shut⟩, State.command, awake]
  rw [deep', permitted', if_neg Bool.false_ne_true]
  rfl

/-- A command that leaves the Fuse Box and the inbox alone ends with its work. -/
theorem command_ends (hd : s.noneDue) (acc : s.accepts o op) {run : State → State} (runs : run (s.takeHead o op) = t)
    (fuse : t.fuse = s.fuse) (inbox : t.link.inbox = []) : command o op true run s = .next t := by
  rw [command_accepted acc, runs, State.kick_of_empty inbox]
  exact done_of_noneDue (by rw [State.noneDue, fuse]; exact hd)

theorem command_replies (hd : s.noneDue) (acc : s.accepts o op) {run : State → State} (ready : ReplyReady s u)
    (runs : run (s.takeHead o op) = u.reply o status results) (hr : status ≠ stRetry) :
    command o op true run s = .next (u.reply o status results) :=
  command_ends hd acc runs (((u.reply_parts o status results).only .fuse (by decide)).trans ready.fuse) (ready.reply hr).2.1

/-- A command that only replies changes neither the memories nor the power domains, and starts nothing. -/
theorem command_only_replies (hd : s.noneDue) (acc : s.accepts o op) {run : State → State}
    (runs : run (s.takeHead o op) = (s.takeHead o op).reply o status results) (hr : status ≠ stRetry) : ∃ t : State,
    command o op true run s = .next t ∧ Answered s t o status results ∧ t.mem = s.mem ∧ t.power = s.power ∧
    t.link.running = s.link.running := by
  obtain ⟨answered, -, running⟩ := acc.ready.reply (o := o) (results := results) hr
  have parts := s.answered_parts o op status results
  exact ⟨_, command_replies hd acc acc.ready runs hr, answered, parts.only .mem (by decide), parts.only .power (by decide),
    running.trans (State.takeHead_reads (fun s => s.link.running) (fun _ _ => rfl) s o op)⟩

end

/-! ### CAL_QUALITY and PANTRY_READ (R172, R405) -/

section
variable {s : State} {o : Origin}

/-- The largest residual of kind 2 goes with its read. -/
def State.residualRead (s : State) (kind : Nat) : State :=
  if kind = 2 then { s with hk := { s.hk with residualMax := 0 } } else s

theorem State.residualRead_parts (s : State) (kind : Nat) : Evolves [.hk] s (s.residualRead kind) := by
  unfold State.residualRead
  exact .ite (Evolves.hk (.refl _ s) (by decide) id) (.refl _ s)

theorem State.residualRead_hk (s : State) (kind : Byte) : (s.residualRead kind.toNat).hk =
    if kind = 2 then { s.hk with residualMax := 0 } else s.hk := by
  have two : kind.toNat = 2 ↔ kind = 2 := ⟨fun h => BitVec.eq_of_toNat_eq h, congrArg BitVec.toNat⟩
  unfold State.residualRead
  rw [apply_ite State.hk]
  exact if_congr two rfl rfl

theorem execCalQuality_known {kind : Byte} (hd : s.noneDue) (acc : s.accepts o 0x0B00) (known : kind.toNat ≤ 2) :
    execCalQuality o kind s = .next (((s.takeHead o 0x0B00).residualRead kind.toNat).reply o stOk
      (s.calQuality kind.toNat)) := by
  have read : (s.takeHead o 0x0B00).calQuality kind.toNat = s.calQuality kind.toNat :=
    State.takeHead_reads (fun s => s.calQuality kind.toNat) (fun _ _ => rfl) s o _
  refine command_replies hd acc (acc.ready.andThen (State.residualRead_parts _ _) (by decide) (by decide) (by decide)
    (by decide)) ((if_neg (by omega)).trans ?_) (by decide)
  dsimp only
  rw [read]
  rfl

/-- The values of PANTRY_READ are within the object (Table 7-3). -/
theorem State.pantryCommand_table {obj first count : Nat} (census : obj < 0x10) (least : 1 ≤ count) (most : count ≤ 512)
    (inside : first + count ≤ 1048576) :
    s.pantryCommand o obj first count = State.readPantry o count (tableAddr obj first) [] s := by
  unfold State.pantryCommand objectSize
  rw [if_pos census, if_neg (by omega), if_pos census]

theorem State.pantryCommand_staged {obj first count : Nat} (staged : 0x10 ≤ obj) (known : obj ≤ 0x1F) (least : 1 ≤ count)
    (most : count ≤ 512) (inside : first + count ≤ 1024) : s.pantryCommand o obj first count =
      s.reply o stOk ((s.objectEntries obj first count).flatMap fun v => leBytes 2 v) := by
  unfold State.pantryCommand objectSize
  rw [if_neg (show ¬ obj < 0x10 by omega), if_neg (by omega), if_neg (by omega)]

/-- The Pantry without the packet and with the access of an entry counted. -/
def State.entryRead (s : State) (t c : Nat) : State := s.hallAccess s.holderPort (tableAddr t c) 2 false

theorem State.entryRead_parts (s : State) (t c : Nat) : Evolves [.counters] s (s.entryRead t c) :=
  State.hallAccess_evolves (.refl _ s) (by decide)

theorem Evolves.retLost {ps : List Part} {t : State} (h : Evolves ps s t) (hp : .memProtRegs ∉ ps) (b : Nat) :
    t.retLost b = s.retLost b := by
  rw [State.retLost, h.fld fun m => hp (by
    have := regPart_memProt (Field.ix_lt RET_LOST_LOST (b / 32)) (List.Subset.refl [Part.memProtRegs])
    rwa [List.mem_singleton.1 (this (List.mem_singleton_self _))] at m), State.retLost]

theorem Evolves.entryOf {ps : List Part} {t : State} (h : Evolves ps s t) (hp : .mem ∉ ps) (k c : Nat) :
    t.entryOf k c = s.entryOf k c := by
  have bytes (a j : Nat) : t.bytes a j = s.bytes a j := by
    induction j generalizing a with
    | zero => rfl
    | succ j ih => rw [State.bytes, ih, State.byte, h.only .mem hp]; rfl
  exact congrArg leNat (bytes _ 2)

/-- An access to a domain that is on takes place at once. -/
theorem State.access_on {d : Nat} {w : Stalled} {act : State → State} (on : s.domOn d = true) :
    s.access (some d) w act = (act s).accessDone d := by
  unfold State.access State.reach
  dsimp only
  rw [if_pos on, if_pos on]

theorem State.accessDone_idle {d : Nat} (idle : s.flag powerBase ((voteBit voteAccess).ix d) = false) :
    s.accessDone d = s := by
  unfold State.accessDone
  rw [idle, Bool.not_false, Bool.or_true]
  rfl

/-- An entry of a bank that kept its contents is read at once from a Pantry that is on. -/
theorem State.readPantry_single {t c : Nat} (on : s.domOn 2 = true)
    (idle : s.flag powerBase ((voteBit voteAccess).ix 2) = false) (inside : c < 1048576)
    (kept : s.retLost (entryBank t c) = false) : State.readPantry o 1 (tableAddr t c) [] s =
      (s.entryRead t c).reply o stOk (leBytes 2 (s.entryOf t c)) := by
  have table : (tableAddr t c - 0x02000000) / 0x200000 = t := by unfold tableAddr; omega
  have context : (tableAddr t c - 0x02000000) % 0x200000 / 2 = c := by unfold tableAddr; omega
  have counted := s.entryRead_parts t c
  have kept' : (s.entryRead t c).retLost (entryBank t c) = false := (counted.retLost (by decide) _).trans kept
  have entry : (s.entryRead t c).entryOf t c = s.entryOf t c := counted.entryOf (by decide) t c
  have replied := (s.entryRead t c).reply_parts o stOk (leBytes 2 (s.entryOf t c))
  rw [State.readPantry, State.access_on on, table, context]
  show State.accessDone (if (s.entryRead t c).retLost (entryBank t c) = true then _ else State.readPantry o 0 _
    ([] ++ leBytes 2 ((s.entryRead t c).entryOf t c)) (s.entryRead t c)) 2 = _
  rw [if_neg (ne_true_of_eq_false kept'), entry, State.readPantry]
  exact State.accessDone_idle (((replied.flag (by decide)).trans (counted.flag (by decide))).trans idle)

end

/-! ### PANTRY_FREEZE and PANTRY_CLEAR (R170, R171) -/

section
variable {s t : State} {o : Origin} {n k : Fin 8} {mask : Nat}

theorem mem_maskLines : n ∈ maskLines mask ↔ mask.testBit n.val = true := by
  rw [maskLines, List.mem_filter, and_iff_right (show n ∈ allLines by revert n; decide)]

/-- The two flags of a freeze. -/
def freezeFlags : List Field := [PL_CTRL_FREEZE, PL_STATUS_FROZEN]

theorem freezeFlags_apart (h : k ≠ n) : ∀ f ∈ freezeFlags, ∀ g ∈ freezeFlags, (pl k f).Apart (pl n g) := by
  revert n k; decide

theorem State.pantryFreeze_other (on : Bool) (h : k ≠ n) : ∀ f ∈ freezeFlags,
    (s.pantryFreeze n on).flag pantryBase (pl k f) = s.flag pantryBase (pl k f) := fun f hf =>
  (State.flag_setFld_apart _ _ _ (freezeFlags_apart h f hf _ (by decide))).trans
    (s.flag_setFld_apart _ _ (freezeFlags_apart h f hf _ (by decide)))

theorem State.pantryFreeze_self (s : State) (n : Fin 8) (on : Bool) : ∀ f ∈ freezeFlags,
    (s.pantryFreeze n on).flag pantryBase (pl n f) = on := by
  have apart : (pl n PL_CTRL_FREEZE).Apart (pl n PL_STATUS_FROZEN) := by revert n; decide
  have written : (s.setFlag pantryBase (pl n PL_CTRL_FREEZE) on).flag pantryBase (pl n PL_CTRL_FREEZE) = on :=
    s.flag_setFlag_same _ _ (show 29 + 1 ≤ 32 by decide) rfl
  have shown : (s.pantryFreeze n on).flag pantryBase (pl n PL_STATUS_FROZEN) = on :=
    State.flag_setFlag_same _ _ _ (show 30 + 1 ≤ 32 by decide) rfl
  simpa only [freezeFlags, List.forall_mem_cons, List.not_mem_nil, false_implies, implies_true, and_true] using
    ⟨(State.flag_setFld_apart _ _ _ apart).trans written, shown⟩

/-- The flags of a freeze after PANTRY_FREEZE: those of the mask's lanes are set, the others stand. -/
theorem State.each_pantryFreeze (s : State) (mask : Nat) (on : Bool) (n : Fin 8) : ∀ f ∈ freezeFlags,
    (s.each (maskLines mask) fun k s => s.pantryFreeze k on).flag pantryBase (pl n f) =
      if mask.testBit n.val then on else s.flag pantryBase (pl n f) := by
  intro f hf
  by_cases frozen : mask.testBit n.val = true
  · rw [if_pos frozen]
    exact State.each_lanes (P := fun k t => t.flag pantryBase (pl k f) = on) (fun k t => t.pantryFreeze_self k on f hf)
      (fun k j t ne h => (State.pantryFreeze_other on ne f hf).trans h) _ s n (mem_maskLines.2 frozen)
  · rw [if_neg frozen]
    refine State.each_keeps_mem (P := fun t => t.flag pantryBase (pl n f) = s.flag pantryBase (pl n f))
      (fun k hk t h => ?_) rfl
    have other : n ≠ k := by
      rintro rfl
      exact frozen (mem_maskLines.1 hk)
    exact (State.pantryFreeze_other on other f hf).trans h

theorem State.each_pantryFreeze_parts (s : State) (mask : Nat) (on : Bool) :
    Evolves [.pantryRegs] s (s.each (maskLines mask) fun k s => s.pantryFreeze k on) :=
  .each (.refl _ s) fun _ _ h => State.pantryFreeze_evolves h (List.Subset.refl _)

theorem State.pantryClear_flag (s : State) (n k : Fin 8) : (s.pantryClear n).flag pantryBase (pl k PL_STATUS_CLEARING) =
    (s.setFlag pantryBase (pl n PL_STATUS_CLEARING) true).flag pantryBase (pl k PL_STATUS_CLEARING) := by
  unfold State.pantryClear
  dsimp only
  split <;> rfl

theorem State.pantryClear_self (s : State) (n : Fin 8) :
    (s.pantryClear n).flag pantryBase (pl n PL_STATUS_CLEARING) = true :=
  (s.pantryClear_flag n n).trans (s.flag_setFlag_same _ _ (show 29 + 1 ≤ 32 by decide) rfl)

theorem clearing_apart (h : k ≠ n) : (pl k PL_STATUS_CLEARING).Apart (pl n PL_STATUS_CLEARING) := by
  revert n k; decide

theorem State.pantryClear_other (h : k ≠ n) : (s.pantryClear n).flag pantryBase (pl k PL_STATUS_CLEARING) =
    s.flag pantryBase (pl k PL_STATUS_CLEARING) :=
  (s.pantryClear_flag n k).trans (s.flag_setFld_apart _ _ (clearing_apart h))

/-- The clears of a mask's lanes are requested. -/
def State.clearsAsked (s : State) (mask : Nat) : State := s.each (maskLines mask) fun n s => s.pantryClear n

theorem State.clearsAsked_parts (s : State) (mask : Nat) : Evolves [.pantry, .pantryRegs] s (s.clearsAsked mask) :=
  .each (.refl _ s) fun _ _ h => State.pantryClear_evolves h (List.Subset.refl _)

theorem State.clearsAsked_flag (s : State) (asked : mask.testBit n.val = true) :
    (s.clearsAsked mask).flag pantryBase (pl n PL_STATUS_CLEARING) = true :=
  State.each_lanes (P := fun k t => t.flag pantryBase (pl k PL_STATUS_CLEARING) = true) (fun k t => t.pantryClear_self k)
    (fun _ _ _ ne h => (State.pantryClear_other ne).trans h) _ s n (mem_maskLines.2 asked)

/-- What changes neither the link nor the Tamid instances leaves a reply as it is. -/
theorem Answered.kept {u : State} {status : Nat} {results : List Byte} (h : Answered s t o status results)
    (link : u.link = t.link) (tamid : u.tamid = t.tamid) : Answered s u o status results := by
  unfold Answered at *
  rwa [link, tamid]

theorem execPantryClear_accepted {m : Byte} (hd : s.noneDue) (acc : s.accepts o 0x0C02) (lanes : m ≠ 0)
    (idle : s.isRunning 0x0C02 = false) : ∃ u : State, execPantryClear o m s = .next (u.clearsAsked m.toNat) ∧
    Answered s u o stAccepted [] ∧ u.link.running = s.link.running ++ [⟨o, 0x0C02, m.toNat⟩] := by
  obtain ⟨answered, inbox, running, fuse⟩ := acc.ready.accept (o := o) (op := 0x0C02) m.toNat
  have idle' : (s.takeHead o 0x0C02).isRunning 0x0C02 = false :=
    (State.takeHead_reads (fun s => s.isRunning 0x0C02) (fun _ _ => rfl) s o _).trans idle
  have runs := State.takeHead_reads (fun s => s.link.running) (fun _ _ => rfl) s o 0x0C02
  have asked := ((s.takeHead o 0x0C02).accept o 0x0C02 m.toNat).clearsAsked_parts m.toNat
  have ends : execPantryClear o m s = .next (((s.takeHead o 0x0C02).accept o 0x0C02 m.toNat).clearsAsked m.toNat) :=
    command_ends hd acc ((if_neg lanes).trans (if_neg (ne_true_of_eq_false idle'))) ((asked.only .fuse (by decide)).trans fuse)
      ((congrArg Link.inbox (asked.only .link (by decide))).trans inbox)
  exact ⟨_, ends, answered, running.trans (congrArg (· ++ _) runs)⟩

end

/-! ### SYNC (R216 to R221) -/

section
variable {s : State} {o : Origin}

/-- The part as a sync event stamps it: the ledgers, the chains and the conversions have taken note of the event. -/
def State.syncNoted (s : State) : State :=
  ((s.ledgerSnap.each allChains fun j s => s.chainSync j).hkSync).setPair clockBase SYNC_CAP_LO_CAP SYNC_CAP_HI_CAP
    s.clock.deviceTime

theorem State.ledgerSnap_stat (s : State) : s.ledgerSnap.fld clockBase SYNC_STAT_SEQ = s.fld clockBase SYNC_STAT_SEQ := by
  unfold State.ledgerSnap
  refine State.each_keeps_mem (P := fun t => t.fld clockBase SYNC_STAT_SEQ = s.fld clockBase SYNC_STAT_SEQ)
    (fun e he t h => ?_) rfl
  have small : e.1 < 24 := by
    obtain ⟨n, -, hn⟩ := List.mem_flatMap.1 he
    obtain ⟨p, hp, rfl⟩ := List.mem_map.1 hn
    have := List.mem_range.1 hp
    dsimp only
    omega
  have other : clockBase + SYNC_STAT_SEQ.off ≠ clockBase + (LEDGER_SNAP_SEQ.ix e.1).off := by
    simp only [SYNC_STAT_SEQ, LEDGER_SNAP_SEQ, Field.ix]
    omega
  refine Eq.trans ?_ h
  rw [State.fld, State.fld, State.reg_eq, State.setReg_regs, Regs.reg_set_ne _ _ other, State.reg_eq]

/-- What an event does before its sync words counts no event. -/
theorem State.syncNoted_stat (s : State) : s.syncNoted.fld clockBase SYNC_STAT_SEQ = s.fld clockBase SYNC_STAT_SEQ := by
  have noted : Evolves [.chain, .chainRegs, .hk] s.ledgerSnap (s.ledgerSnap.each allChains fun j s => s.chainSync j).hkSync :=
    State.hkSync_evolves (.each (.refl _ _) fun _ _ h => State.chainSync_evolves h (by decide)) (by decide)
  calc s.syncNoted.fld clockBase SYNC_STAT_SEQ
      = (s.ledgerSnap.each allChains fun j s => s.chainSync j).hkSync.fld clockBase SYNC_STAT_SEQ :=
        (State.fld_setFld_apart _ _ _ (by decide)).trans (State.fld_setFld_apart _ _ _ (by decide))
    _ = s.ledgerSnap.fld clockBase SYNC_STAT_SEQ := noted.fld (by decide)
    _ = s.fld clockBase SYNC_STAT_SEQ := s.ledgerSnap_stat

theorem State.syncNoted_tick (s : State) : s.syncNoted.tick = s.tick := by
  have noted : Evolves [.clockRegs, .chain, .chainRegs, .hk] s s.syncNoted :=
    State.setPair_evolves (State.hkSync_evolves (.each (State.ledgerSnap_evolves (.refl _ s) (by decide))
      fun _ _ h => State.chainSync_evolves h (by decide)) (by decide)) (by decide)
  exact noted.only .tick (by decide)

/-- The sync words of an event and its instant, before a load of the device time. -/
def State.syncStamped (s : State) (fine : Nat) (explicit loads : Bool) (err : Int) : State :=
  let t := (s.bumpMod clockBase SYNC_STAT_SEQ).setFlag clockBase SYNC_STAT_SRC explicit
  let t := (t.setFlag clockBase SYNC_STAT_LOADED loads).setFld clockBase SYNC_STAT_FINE fine
  let t := (t.setFlag clockBase SYNC_STAT_REF_ABSENT t.refAbsent).setFld clockBase SYNC_ERR_ERR (intBits 32 err)
  { t with clock := { t.clock with lastSync := some (t.syncInstant fine) } }

/-- The device time is loaded with an event of mode 2 or 3; mode 2 is over with it. -/
def State.syncLoaded (s : State) (fine mode v : Nat) : State :=
  let t := { s with clock := { s.clock with
    loads := s.clock.loads ++ [(8, (v + 8) % 2 ^ 64)], origin := some (32 * (v : Int) - fine) } }
  let t := if t.flag clockBase CLK_STATUS_FREE_RUN then t else t.setFlag clockBase CLK_STATUS_DT_SYNCED true
  if mode = 2 then t.setFld clockBase SYNC_CTRL_MODE 1 else t

/-- The calendar aligns with the event where it is asked to. -/
def State.syncAligned (s : State) : State :=
  if s.flag clockBase SYNC_CTRL_CAL_ALIGN then { s with clock := { s.clock with calAlign := true } } else s

theorem State.syncEvent_eq (s : State) (fine : Nat) (explicit : Bool) : ∃ (loads : Bool) (err : Int) (v : Nat),
    s.syncEvent fine explicit = (if loads then
      (s.syncNoted.syncStamped fine explicit loads err).syncLoaded fine (s.fld clockBase SYNC_CTRL_MODE) v
      else s.syncNoted.syncStamped fine explicit loads err).syncAligned := by
  generalize h : s.syncEvent fine explicit = t
  unfold State.syncEvent at h
  extract_lets mode loads count err snapped noted captured counted fined absent erred v was stamped was' dated synced ended
    was'' at h
  have atStamp : stamped = s.syncNoted.syncStamped fine explicit loads err := rfl
  have atEnd : ended = if loads then stamped.syncLoaded fine mode v else stamped := rfl
  refine ⟨loads, err, v, h.symm.trans ?_⟩
  rw [← atStamp]
  exact congrArg State.syncAligned atEnd

/-- An event's load leaves the other sync words and its instant. -/
theorem State.syncLoaded_keeps (s : State) (fine mode v : Nat) {f : Field} (status : f.Apart CLK_STATUS_DT_SYNCED)
    (control : f.Apart SYNC_CTRL_MODE) : (s.syncLoaded fine mode v).fld clockBase f = s.fld clockBase f ∧
    (s.syncLoaded fine mode v).clock.lastSync = s.clock.lastSync := by
  have synced (t : State) : (t.setFlag clockBase CLK_STATUS_DT_SYNCED true).fld clockBase f = t.fld clockBase f :=
    t.fld_setFlag_apart _ _ status
  have single (t : State) : (t.setFld clockBase SYNC_CTRL_MODE 1).fld clockBase f = t.fld clockBase f :=
    t.fld_setFld_apart _ _ control
  unfold State.syncLoaded
  dsimp only
  constructor
  · rw [apply_ite (fun t : State => t.fld clockBase f), single, ite_self,
      apply_ite (fun t : State => t.fld clockBase f), synced, ite_self]
    rfl
  · split_ifs <;> rfl

theorem State.syncAligned_keeps (s : State) (f : Field) : s.syncAligned.fld clockBase f = s.fld clockBase f ∧
    s.syncAligned.clock.lastSync = s.clock.lastSync := by
  unfold State.syncAligned
  split <;> exact ⟨rfl, rfl⟩

/-- The words of SYNC_STAT and the instant after an event are those that it stamped. -/
theorem State.syncEvent_keeps (s : State) (fine : Nat) (explicit : Bool) : ∃ loads err,
    (∀ f : Field, f.off = SYNC_STAT_SEQ.off → (s.syncEvent fine explicit).fld clockBase f =
      (s.syncNoted.syncStamped fine explicit loads err).fld clockBase f) ∧
    (s.syncEvent fine explicit).clock.lastSync = (s.syncNoted.syncStamped fine explicit loads err).clock.lastSync := by
  obtain ⟨loads, err, v, e⟩ := s.syncEvent_eq fine explicit
  refine ⟨loads, err, fun f hf => ?_, ?_⟩
  · rw [e, (State.syncAligned_keeps _ f).1]
    cases loads
    case false => rfl
    case true =>
      exact (State.syncLoaded_keeps _ _ _ _ (.inl (hf ▸ by decide)) (.inl (hf ▸ by decide))).1
  · rw [e, (State.syncAligned_keeps _ SYNC_STAT_SEQ).2]
    cases loads
    case false => rfl
    case true => exact (State.syncLoaded_keeps (f := SYNC_STAT_SEQ) _ _ _ _ (by decide) (by decide)).2

theorem State.syncStamped_seq (s : State) (fine : Nat) (explicit loads : Bool) (err : Int) :
    (s.syncStamped fine explicit loads err).fld clockBase SYNC_STAT_SEQ =
      (s.fld clockBase SYNC_STAT_SEQ + 1) % 2 ^ SYNC_STAT_SEQ.width := by
  have counted := s.bumpMod_same clockBase (f := SYNC_STAT_SEQ) (by decide)
  simp (disch := decide) only [State.syncStamped, State.fld_eq, State.setFld_regs, State.setFlag_regs, Regs.fld_setFld_apart]
  exact counted

theorem State.syncStamped_src (s : State) (fine : Nat) (explicit loads : Bool) (err : Int) :
    (s.syncStamped fine explicit loads err).fld clockBase SYNC_STAT_SRC = if explicit then 1 else 0 := by
  simp (disch := decide) only [State.syncStamped, State.fld_eq, State.setFld_regs, State.setFlag_regs, Regs.fld_setFld_apart,
    Regs.fld_setFld_same]
  cases explicit <;> rfl

theorem State.syncStamped_instant (s : State) (fine : Nat) (explicit loads : Bool) (err : Int) :
    (s.syncStamped fine explicit loads err).clock.lastSync = some (s.syncInstant fine) := rfl

/-- An event counts itself, names its source and keeps its instant (R217). -/
theorem State.syncEvent_stat (s : State) (fine : Nat) (explicit : Bool) :
    (s.syncEvent fine explicit).fld clockBase SYNC_STAT_SEQ =
      (s.fld clockBase SYNC_STAT_SEQ + 1) % 2 ^ SYNC_STAT_SEQ.width ∧
    (s.syncEvent fine explicit).flag clockBase SYNC_STAT_SRC = explicit ∧
    (s.syncEvent fine explicit).clock.lastSync = some (s.syncInstant fine) := by
  obtain ⟨loads, err, words, instant⟩ := s.syncEvent_keeps fine explicit
  refine ⟨?_, ?_, ?_⟩
  · rw [words _ rfl, State.syncStamped_seq, s.syncNoted_stat]
  · rw [State.flag, words SYNC_STAT_SRC rfl, State.syncStamped_src]
    cases explicit <;> rfl
  · rw [instant, State.syncStamped_instant, State.syncInstant, s.syncNoted_tick, State.syncInstant]

/-- A SYNC that finds the clock runs its event and replies; the reactions of its work follow. -/
theorem execSync_open (acc : s.accepts o 0x0D00) (opened : s.syncOpen = true) : ∃ u : State,
    execSync o s = .next u.react ∧ u = (((s.takeHead o 0x0D00).syncEvent 0 true).reply o stOk []).kick ∧
    Answered s u o stOk [] ∧ u.clock.lastSync = some (s.syncInstant 0) ∧
    u.fld clockBase SYNC_STAT_SEQ = (s.fld clockBase SYNC_STAT_SEQ + 1) % 2 ^ SYNC_STAT_SEQ.width ∧
    u.flag clockBase SYNC_STAT_SRC = true := by
  have event : Evolves _ (s.takeHead o 0x0D00) ((s.takeHead o 0x0D00).syncEvent 0 true) :=
    State.syncEvent_evolves (.refl _ _) (List.Subset.refl _)
  have ready := acc.ready.andThen event (by decide) (by decide) (by decide) (by decide)
  obtain ⟨answered, inbox, -⟩ := ready.reply (o := o) (results := []) (show stOk ≠ stRetry by decide)
  have opened' : (s.takeHead o 0x0D00).syncOpen = true :=
    (State.takeHead_reads State.syncOpen (fun _ _ => rfl) s o _).trans opened
  have request : (s.takeHead o 0x0D00).syncRequest = (s.takeHead o 0x0D00).syncEvent 0 true := if_pos opened'
  have seq := State.takeHead_reads (fun s => s.fld clockBase SYNC_STAT_SEQ) (fun _ _ => rfl) s o 0x0D00
  have now := State.takeHead_reads (fun s => s.syncInstant 0) (fun _ _ => rfl) s o 0x0D00
  obtain ⟨counted, source, instant⟩ := (s.takeHead o 0x0D00).syncEvent_stat 0 true
  have parts := ((s.takeHead o 0x0D00).syncEvent 0 true).reply_parts o stOk []
  refine ⟨_, (command_accepted acc _).trans (by rw [request]), rfl, ?_⟩
  rw [State.kick_of_empty inbox]
  exact ⟨answered, (congrArg ClockState.lastSync (parts.only .clock (by decide))).trans (instant.trans (congrArg some now)),
    (parts.fld (by decide)).trans (counted.trans (congrArg (fun x => (x + 1) % 2 ^ SYNC_STAT_SEQ.width) seq)),
    (parts.flag (by decide)).trans source⟩

end

/-! ### The replies that read, and the obligation -/

section
variable {s : State} {o : Origin}

/-- A command that only reads replies with what stood before its packet, and keeps every part but the ways of a reply. -/
theorem command_reads {op : Nat} {run : State → State} (read : State → List Byte) (hd : s.noneDue) (acc : s.accepts o op)
    (runs : run (s.takeHead o op) = (s.takeHead o op).reply o stOk (read (s.takeHead o op)))
    (kept : ∀ s taken, read { s with link := { s.link with taken := taken } } = read s) : ∃ t : State,
    command o op true run s = .next t ∧ Answered s t o stOk (read s) ∧ Evolves completeParts s t := by
  rw [State.takeHead_reads read kept] at runs
  exact ⟨_, command_replies hd acc acc.ready runs (by decide), (acc.ready.reply (by decide)).1, s.answered_parts o op _ _⟩

theorem execPantryRead_single {object : Byte} {first : Word} {count : BitVec 16} (hd : s.noneDue)
    (acc : s.accepts o 0x0C00) (census : object.toNat < 0x10) (one : count.toNat = 1) (inside : first.toNat < 1048576)
    (on : s.domOn 2 = true) (idle : s.flag powerBase ((voteBit voteAccess).ix 2) = false)
    (kept : s.retLost (entryBank object.toNat first.toNat) = false) : ∃ t : State,
    execPantryRead o object first count s = .next t ∧
    Answered s t o stOk (leBytes 2 (s.entryOf object.toNat first.toNat)) ∧ t.mem = s.mem := by
  have counted := (s.takeHead o 0x0C00).entryRead_parts object.toNat first.toNat
  have ready := acc.ready.andThen counted (by decide) (by decide) (by decide) (by decide)
  have on' : (s.takeHead o 0x0C00).domOn 2 = true :=
    (State.takeHead_reads (fun s => s.domOn 2) (fun _ _ => rfl) s o _).trans on
  have idle' := (State.takeHead_reads (fun s => s.flag powerBase ((voteBit voteAccess).ix 2)) (fun _ _ => rfl) s o
    0x0C00).trans idle
  have kept' := (State.takeHead_reads (fun s => s.retLost (entryBank object.toNat first.toNat)) (fun _ _ => rfl) s o
    0x0C00).trans kept
  have entry := State.takeHead_reads (fun s => s.entryOf object.toNat first.toNat) (fun _ _ => rfl) s o 0x0C00
  have runs : (s.takeHead o 0x0C00).pantryCommand o object.toNat first.toNat count.toNat =
      ((s.takeHead o 0x0C00).entryRead object.toNat first.toNat).reply o stOk
        (leBytes 2 (s.entryOf object.toNat first.toNat)) := by
    rw [State.pantryCommand_table census (by omega) (by omega) (by omega), one,
      State.readPantry_single on' idle' inside kept', entry]
  exact ⟨_, command_replies hd acc ready runs (by decide), (ready.reply (by decide)).1,
    ((State.reply_parts _ _ _ _).only .mem (by decide)).trans ((counted.only .mem (by decide)).trans
      (State.takeHead_reads State.mem (fun _ _ => rfl) s o _))⟩

theorem execPantryFreeze_lanes {mask freeze : Byte} (hd : s.noneDue) (acc : s.accepts o 0x0C01) (lanes : mask ≠ 0)
    (known : freeze.toNat ≤ 1) : ∃ t : State, execPantryFreeze o mask freeze s = .next t ∧ Answered s t o stOk [] ∧
    ∀ n : Fin 8, ∀ f ∈ freezeFlags, t.flag pantryBase (pl n f) =
      if mask.toNat.testBit n.val then freeze == 1 else s.flag pantryBase (pl n f) := by
  have written := (s.takeHead o 0x0C01).each_pantryFreeze_parts mask.toNat (freeze == 1)
  have ready := acc.ready.andThen written (by decide) (by decide) (by decide) (by decide)
  have known' : ¬ (mask = 0 ∨ 1 < freeze.toNat) := not_or.2 ⟨lanes, by omega⟩
  refine ⟨_, command_replies hd acc ready (if_neg known') (by decide), (ready.reply (by decide)).1, fun n f hf => ?_⟩
  have kept := State.takeHead_reads (fun s => s.flag pantryBase (pl n f)) (fun _ _ => rfl) s o 0x0C01
  have low : (pl n f).off < 0x10000 := Field.ix_lt f n.val
  rw [← kept]
  exact ((State.reply_parts _ _ _ _).pantryFlag (by decide) low).trans (State.each_pantryFreeze _ _ _ n f hf)

/-- A SYNC that finds no clock only replies (Table 9-4). -/
theorem execSync_shut (hd : s.noneDue) (acc : s.accepts o 0x0D00) (shut : s.syncOpen = false) : ∃ t : State,
    execSync o s = .next t ∧ Answered s t o stOk [] ∧ t.clock = s.clock := by
  have shut' : (s.takeHead o 0x0D00).syncOpen = false :=
    (State.takeHead_reads State.syncOpen (fun _ _ => rfl) s o _).trans shut
  have request : (s.takeHead o 0x0D00).syncRequest = s.takeHead o 0x0D00 := if_neg (ne_true_of_eq_false shut')
  obtain ⟨t, ends, answered, parts⟩ := command_reads (run := fun s => s.syncRequest.reply o stOk []) (fun _ => []) hd acc
    (congrArg (fun s => s.reply o stOk []) request) fun _ _ => rfl
  exact ⟨t, ends, answered, parts.only .clock (by decide)⟩

/-- The calendar of SET_CALENDAR waits for the next AO tick (R225). -/
theorem execSetCalendar_valid {sec : BitVec 40} {usec : BitVec 24} (hd : s.noneDue) (acc : s.accepts o 0x0D01)
    (valid : usec.toNat ≤ 999999) : ∃ t : State, execSetCalendar o sec usec s = .next t ∧ Answered s t o stOk [] ∧
    t.clock = { s.clock with calSet := some (sec.toNat, usec.toNat) } := by
  have ready : ReplyReady s { s.takeHead o 0x0D01 with
      clock := { (s.takeHead o 0x0D01).clock with calSet := some (sec.toNat, usec.toNat) } } := by
    obtain ⟨fuse, tamid, awake, inbox, waiting, outbox, room⟩ := acc.ready
    exact ⟨fuse, tamid, awake, inbox, waiting, outbox, room⟩
  have runs : ¬ 999999 < usec.toNat := by omega
  refine ⟨_, command_replies hd acc ready (if_neg runs) (by decide), (ready.reply (by decide)).1, ?_⟩
  rw [(State.reply_parts _ _ _ _).only .clock (by decide)]
  exact congrArg (fun c : ClockState => { c with calSet := some (sec.toNat, usec.toNat) })
    (State.takeHead_reads State.clock (fun _ _ => rfl) s o _)

end

/-- Settles O24: every clause is the work of its command on the part without its packet, then the reply. -/
theorem calibrationPantryAndTimeCommands : Obligations.CalibrationPantryAndTimeCommands := by
  have ok : stOk ≠ stRetry := by decide
  have bad : stBadParam ≠ stRetry := by decide
  refine ⟨?quality, ?qualityUnknown, ?tableRead, ?entryRead, ?stagedRead, ?readBad, ?freeze, ?freezeBad, ?clear, ?clearNone,
    ?clearBusy, ?syncShut, ?syncOpen, ?calendar, ?calendarBad, ?time, ?ledger, ?ledgerNone⟩
  case quality =>
    intro o kind s hd acc known
    have read := (s.takeHead o 0x0B00).residualRead_parts kind.toNat
    have ready := acc.ready.andThen read (by decide) (by decide) (by decide) (by decide)
    refine ⟨_, execCalQuality_known hd acc known, (ready.reply ok).1, ?_⟩
    rw [(State.reply_parts _ _ _ _).only .hk (by decide), State.residualRead_hk,
      State.takeHead_reads State.hk (fun _ _ => rfl) s o]
  case qualityUnknown =>
    intro o kind s hd acc unknown
    exact command_only_replies hd acc (if_pos unknown) bad
  case tableRead =>
    intro o object first count s hd acc census least most inside
    refine ⟨_, command_accepted acc _, ?_⟩
    rw [State.pantryCommand_table census least most inside]
  case entryRead =>
    intro o object first count s hd acc census one inside on idle kept
    exact execPantryRead_single hd acc census one inside on idle kept
  case stagedRead =>
    intro o object first count s hd acc staged known least most inside
    obtain ⟨t, ends, answered, parts⟩ := command_reads
      (run := fun s => s.pantryCommand o object.toNat first.toNat count.toNat)
      (fun s => (s.objectEntries object.toNat first.toNat count.toNat).flatMap fun v => leBytes 2 v) hd acc
      (State.pantryCommand_staged staged known least most inside) fun _ _ => rfl
    exact ⟨t, ends, answered, parts.only .pantry (by decide)⟩
  case readBad =>
    intro o object first count s hd acc refused
    exact command_only_replies hd acc (if_pos refused) bad
  case freeze =>
    intro o mask freeze s hd acc lanes known
    obtain ⟨t, ends, answered, flags⟩ := execPantryFreeze_lanes hd acc lanes known
    exact ⟨t, ends, answered, fun n => flags n _ (by decide), fun n => flags n _ (by decide)⟩
  case freezeBad =>
    intro o mask freeze s hd acc refused
    exact command_only_replies hd acc (if_pos refused) bad
  case clear =>
    intro o mask s hd acc lanes idle
    obtain ⟨u, ends, answered, running⟩ := execPantryClear_accepted hd acc lanes idle
    have asked := u.clearsAsked_parts mask.toNat
    have link : (u.clearsAsked mask.toNat).link = u.link := asked.only .link (by decide)
    exact ⟨_, ends, answered.kept link (asked.only .tamid (by decide)), fun _ h => u.clearsAsked_flag h, link ▸ running⟩
  case clearNone =>
    intro o mask s hd acc noLane
    exact command_only_replies hd acc (if_pos noLane) bad
  case clearBusy =>
    intro o mask s hd acc lanes busy
    have busy' : (s.takeHead o 0x0C02).isRunning 0x0C02 = true :=
      (State.takeHead_reads (fun s => s.isRunning 0x0C02) (fun _ _ => rfl) s o _).trans busy
    exact command_only_replies hd acc ((if_neg lanes).trans (if_pos busy')) (by decide)
  case syncShut =>
    intro o s hd acc shut
    exact execSync_shut hd acc shut
  case syncOpen =>
    intro o s _ acc opened
    exact execSync_open acc opened
  case calendar =>
    intro o sec usec s hd acc valid
    exact execSetCalendar_valid hd acc valid
  case calendarBad =>
    intro o sec usec s hd acc invalid
    exact command_only_replies hd acc (if_pos invalid) bad
  case time =>
    intro o s hd acc
    obtain ⟨t, ends, answered, parts⟩ := command_reads (run := fun s => s.reply o stOk s.timeBytes) State.timeBytes hd acc
      rfl fun _ _ => rfl
    exact ⟨t, ends, answered, parts.only .clock (by decide)⟩
  case ledger =>
    intro o mask s hd acc lanes
    obtain ⟨t, ends, answered, parts⟩ := command_reads (run := fun s => if mask = 0 then s.reply o stBadParam []
      else s.reply o stOk (s.ledgerBytes mask.toNat)) (fun s => s.ledgerBytes mask.toNat) hd acc (if_neg lanes) fun _ _ => rfl
    exact ⟨t, ends, answered, parts.only .line (by decide)⟩
  case ledgerNone =>
    intro o mask s hd acc noLane
    exact command_only_replies hd acc (if_pos noLane) bad

end Sys2Proof.Machine
end

section
/-! The census and the tables derived from it (O39).  A sample is an update of one entry of each table of its lane, so the first
part says what an entry holds after another was written.  The canceller's install is the write of a bank, which keeps the words
that decide on a swap, and then the swap. -/

namespace Sys2Proof.Machine

open Reg

/-! ### Entries of the tables (R163) -/

section
variable {s : State}

theorem State.byte_setByte_same (s : State) (a : Nat) (b : Byte) : (s.setByte a b).byte a = b := Sparse.get_set_same _ _ _ _

theorem State.byte_setByte_ne (s : State) {a c : Nat} (b : Byte) (h : c ≠ a) : (s.setByte a b).byte c = s.byte c :=
  Sparse.get_set_ne _ _ _ h

/-- An entry is two bytes, low byte first. -/
theorem State.setEntry_eq (s : State) (t c v : Nat) : s.setEntry t c v =
    (s.setByte (tableAddr t c) (BitVec.ofNat 8 v)).setByte (tableAddr t c + 1) (BitVec.ofNat 8 (v / 256)) := rfl

theorem State.entryOf_eq (s : State) (t c : Nat) :
    s.entryOf t c = (s.byte (tableAddr t c)).toNat + 256 * (s.byte (tableAddr t c + 1)).toNat := rfl

theorem State.entryOf_setEntry_same (s : State) (t c : Nat) {v : Nat} (h : v < 65536) : (s.setEntry t c v).entryOf t c = v := by
  rw [State.entryOf_eq, State.setEntry_eq, State.byte_setByte_same, State.byte_setByte_ne _ _ (by omega),
    State.byte_setByte_same, BitVec.toNat_ofNat, BitVec.toNat_ofNat]
  omega

/-- Entries lie at even addresses, so two of them share no byte. -/
theorem State.entryOf_setEntry_apart (s : State) {t c t' c' : Nat} (v : Nat) (h : tableAddr t' c' ≠ tableAddr t c) :
    (s.setEntry t c v).entryOf t' c' = s.entryOf t' c' := by
  have even (t c : Nat) : tableAddr t c % 2 = 0 := by unfold tableAddr; omega
  have here := even t c
  have there := even t' c'
  rw [State.entryOf_eq, State.setEntry_eq]
  simp (disch := omega) only [State.byte_setByte_ne]
  rw [State.entryOf_eq]

theorem censusContext_lt (clock : List CensusSymbol) (place : Nat) : censusContext clock place < 4 ^ 10 := by
  suffices ∀ (l : List Nat) (c k : Nat), c < 4 ^ k →
      l.foldl (fun c k => 4 * c + (censusAt clock place k).a.val) c < 4 ^ (k + l.length) from
    this (List.range 10) 0 0 (by decide)
  intro l
  induction l with
  | nil => exact fun c k h => h
  | cons x l ih =>
    intro c k h
    have symbol := (censusAt clock place x).a.isLt
    have next := ih (4 * c + (censusAt clock place x).a.val) (k + 1) (by rw [pow_succ]; omega)
    rwa [List.length_cons, Nat.add_comm l.length 1, ← Nat.add_assoc]

/-- A context's entry of table E is not one of table M. -/
theorem tableAddr_apart (n : Fin 8) {c c' : Nat} (h : c < 4 ^ 10) (h' : c' < 4 ^ 10) :
    tableAddr (tableE n) c ≠ tableAddr (tableM n) c' := by
  unfold tableAddr tableE tableM
  omega

/-! ### The mean of a context (R167) -/

theorem roundAway_between {x : Rat} {k : Int} (lo : 0 ≤ x) (hi : x ≤ k) : 0 ≤ roundAway x ∧ roundAway x ≤ k := by
  have below : x + 1 / 2 < (k + 1 : Int) := by push_cast; linarith
  rw [roundAway, if_neg (not_lt.2 lo)]
  exact ⟨Rat.le_floor_iff.2 (by push_cast; linarith), Int.lt_add_one_iff.1 (Rat.floor_lt_iff.2 below)⟩

theorem roundAway_neg {x : Rat} (h : x < 0) : roundAway x = -roundAway (-x) := by
  rw [roundAway, if_pos h, roundAway, if_neg (by linarith)]

/-- A mean that moves a part of the way towards a value stays between the two. -/
theorem roundAway_step_bounds {m r lo hi : Int} {p : Nat} (pos : 0 < p) (mLo : lo ≤ m) (mHi : m < hi) (rLo : lo ≤ r)
    (rHi : r < hi) : lo ≤ m + roundAway (((r - m : Int) : Rat) / p) ∧ m + roundAway (((r - m : Int) : Rat) / p) < hi := by
  have one : (1 : Rat) ≤ p := by exact_mod_cast pos
  rcases le_or_gt m r with up | down
  · have step : (0 : Rat) ≤ ((r - m : Int) : Rat) := by exact_mod_cast Int.sub_nonneg.2 up
    obtain ⟨least, most⟩ := roundAway_between (k := r - m) (div_nonneg step (by positivity)) (div_le_self step one)
    omega
  · have step : (0 : Rat) < ((m - r : Int) : Rat) := by exact_mod_cast Int.sub_pos.2 down
    have flip : ((r - m : Int) : Rat) / p = -(((m - r : Int) : Rat) / p) := by push_cast; ring
    have part := div_pos step (lt_of_lt_of_le one_pos one)
    obtain ⟨least, most⟩ := roundAway_between (k := m - r) part.le (div_le_self step.le one)
    rw [flip, roundAway_neg (by linarith), neg_neg]
    omega

theorem bitsInt_bounds (b : Nat) : -2 ^ 15 ≤ bitsInt 16 b ∧ bitsInt 16 b < 2 ^ 15 := by
  unfold bitsInt
  split <;> omega

theorem State.meanOf_moveM (s : State) (n : Fin 8) (c : Nat) {r : Int} (lo : -2 ^ 15 ≤ r) (hi : r < 2 ^ 15) :
    (s.moveM n c r).meanOf n c = s.meanOf n c +
      roundAway (((r - s.meanOf n c : Int) : Rat) / (2 ^ s.mDecay : Nat)) := by
  obtain ⟨meanLo, meanHi⟩ := bitsInt_bounds (s.entryOf (tableM n) c)
  obtain ⟨newLo, newHi⟩ := roundAway_step_bounds (p := 2 ^ s.mDecay) (by positivity) meanLo meanHi lo hi
  rw [State.meanOf, State.moveM, State.entryOf_setEntry_same _ _ _ (intBits_lt 16 _)]
  exact bitsInt_intBits (by decide) newLo newHi

end

/-! ### A sample (R166 to R168) -/

section
variable {s : State} {n : Fin 8} {clock : List CensusSymbol} {c : Nat}

/-- The lane's generator has moved with a sample. -/
def State.sampled (s : State) (n : Fin 8) : State :=
  s.modPantry n fun l => { l with lfsr := lfsrStep l.lfsr, lastSample := some s.tick }

/-- The update that a kept sample asks for. -/
def State.sampleUpdate (s : State) (n : Fin 8) (clock : List CensusSymbol) : CensusUpdate :=
  { context := censusContext clock (s.samplePlace n), corrected := (censusAt clock (s.samplePlace n) 5).corrected,
    residual := s.censusResidual n clock (s.samplePlace n), number := (s.pantry.lanes[n].samples + 1) % 2 ^ 48 }

/-- A kept sample is counted. -/
def State.sampleKept (s : State) (n : Fin 8) : State :=
  (s.sampled n).modPantry n fun l => { l with samples := (s.pantry.lanes[n].samples + 1) % 2 ^ 48 }

theorem execCensusSample_excluded (samples : s.sampling n = true) (due : s.sampleDue n = true)
    (out : s.censusExcluded n clock (s.samplePlace n) = true) : execCensusSample n clock s =
      done ((s.sampled n).bump pantryBase (pl n PL_EXCL_X)) := by
  rw [execCensusSample, samples, due, Bool.and_self, if_pos rfl]
  exact if_pos out

theorem execCensusSample_kept (samples : s.sampling n = true) (due : s.sampleDue n = true)
    (kept : s.censusExcluded n clock (s.samplePlace n) = false) : execCensusSample n clock s =
      if s.laneRebuilding n then
        done ((s.sampleKept n).modPantry n fun l => { l with queue := l.queue ++ [s.sampleUpdate n clock] })
      else done ((s.sampleKept n).censusApply n (s.sampleUpdate n clock)) := by
  rw [execCensusSample, samples, due, Bool.and_self, if_pos rfl]
  exact if_neg (ne_true_of_eq_false kept)

theorem State.sampleKept_parts (s : State) (n : Fin 8) : Evolves [.pantry] s (s.sampleKept n) :=
  State.modPantry_evolves (State.modPantry_evolves (.refl _ s) (by decide)) (by decide)

theorem State.sampleKept_lane (s : State) (n : Fin 8) : (s.sampleKept n).pantry.lanes[n] =
    { s.pantry.lanes[n] with lfsr := lfsrStep s.pantry.lanes[n].lfsr, lastSample := some s.tick,
                             samples := (s.pantry.lanes[n].samples + 1) % 2 ^ 48 } := by
  rw [State.sampleKept, State.modPantry_same, State.sampled, State.modPantry_same]

/-- The reads and writes of an update are counted at the Pantry port. -/
def State.updateCounted (s : State) : State :=
  s.each [false, false, true, true] fun write s => s.portRequest 0x21 2 write

theorem State.updateCounted_parts (s : State) : Evolves [.counters] s s.updateCounted :=
  .each (.refl _ s) fun _ _ h => State.portRequest_evolves h (List.Subset.refl _)

/-- Table E has counted a corrected symbol. -/
def State.correctionCounted (s : State) (n : Fin 8) (c window number : Nat) : State :=
  (s.setEntry (tableE n) c (s.entryOf (tableE n) c + 1)).modPantry n fun l => l.hit window number

theorem State.correctionCounted_parts (s : State) (n : Fin 8) (c window number : Nat) :
    Evolves [.mem, .pantry] s (s.correctionCounted n c window number) :=
  State.modPantry_evolves (State.setEntry_evolves (.refl _ s) (by decide)) (by decide)

theorem State.countE_counts (room : s.entryOf (tableE n) c < 0xFFFE) :
    s.countE n c = s.setEntry (tableE n) c (s.entryOf (tableE n) c + 1) := by
  unfold State.countE
  exact (if_neg (by omega)).trans (if_neg fun first => by omega)

/-- An update of a corrected symbol with both tables on counts in table E and moves table M. -/
theorem State.censusApply_both {u : CensusUpdate} (eOn : s.flag pantryBase (pl n PL_CTRL_E_EN) = true)
    (mOn : s.flag pantryBase (pl n PL_CTRL_M_EN) = true) (corrected : u.corrected = true)
    (room : s.entryOf (tableE n) u.context < 0xFFFE) : s.censusApply n u =
      (s.updateCounted.correctionCounted n u.context s.censusNeed u.number).moveM n u.context u.residual := by
  have counted := s.updateCounted_parts
  have entry : s.updateCounted.entryOf (tableE n) u.context = s.entryOf (tableE n) u.context :=
    counted.entryOf (by decide) _ _
  have eOn' : s.updateCounted.flag pantryBase (pl n PL_CTRL_E_EN) = true :=
    (counted.pantryFlag (by decide) (Field.ix_lt _ _)).trans eOn
  have mOn' : (s.updateCounted.correctionCounted n u.context s.censusNeed u.number).flag pantryBase
      (pl n PL_CTRL_M_EN) = true :=
    ((s.updateCounted.correctionCounted_parts _ _ _ _).pantryFlag (by decide) (Field.ix_lt _ _)).trans
      ((counted.pantryFlag (by decide) (Field.ix_lt _ _)).trans mOn)
  have room' : (s.updateCounted.entryOf (tableE n) u.context != 0xFFFF) = true := by
    rw [entry, bne_iff_ne]; omega
  have hit : s.updateCounted.when (true && true && true) (fun t => (t.countE n u.context).modPantry n fun l =>
      l.hit s.censusNeed u.number) = s.updateCounted.correctionCounted n u.context s.censusNeed u.number := by
    rw [State.when, if_pos (by decide), State.countE_counts (by omega), State.correctionCounted]
  unfold State.censusApply
  dsimp only
  rw [← State.updateCounted, corrected, eOn', room', hit, mOn']
  rfl

theorem State.censusApply_both_parts {u : CensusUpdate} (eOn : s.flag pantryBase (pl n PL_CTRL_E_EN) = true)
    (mOn : s.flag pantryBase (pl n PL_CTRL_M_EN) = true) (corrected : u.corrected = true)
    (room : s.entryOf (tableE n) u.context < 0xFFFE) : Evolves [.counters, .mem, .pantry] s (s.censusApply n u) := by
  rw [State.censusApply_both eOn mOn corrected room]
  exact State.moveM_evolves ((s.updateCounted_parts.mono (by decide)).trans
    ((s.updateCounted.correctionCounted_parts _ _ _ _).mono (by decide))) (by decide)

theorem State.correctionCounted_entry (s : State) (n : Fin 8) (c window number t c' : Nat) :
    (s.correctionCounted n c window number).entryOf t c' =
      (s.setEntry (tableE n) c (s.entryOf (tableE n) c + 1)).entryOf t c' := by
  have noted : Evolves [.pantry] _ (s.correctionCounted n c window number) :=
    State.modPantry_evolves (.refl _ (s.setEntry (tableE n) c (s.entryOf (tableE n) c + 1))) (by decide)
  exact noted.entryOf (by decide) t c'

theorem State.correctionCounted_lane (s : State) (n : Fin 8) (c window number : Nat) :
    (s.correctionCounted n c window number).pantry.lanes[n] = s.pantry.lanes[n].hit window number := by
  have written : Evolves [.mem] s (s.setEntry (tableE n) c (s.entryOf (tableE n) c + 1)) :=
    State.setEntry_evolves (.refl _ s) (by decide)
  rw [State.correctionCounted, State.modPantry_same, written.only .pantry (by decide)]

theorem State.moveM_parts (s : State) (n : Fin 8) (c : Nat) (r : Int) : Evolves [.mem] s (s.moveM n c r) :=
  State.moveM_evolves (.refl _ s) (by decide)

/-- What an update of a corrected symbol leaves of the two entries and of the lane's counts. -/
theorem State.censusApply_entries {u : CensusUpdate} (eOn : s.flag pantryBase (pl n PL_CTRL_E_EN) = true)
    (mOn : s.flag pantryBase (pl n PL_CTRL_M_EN) = true) (corrected : u.corrected = true)
    (room : s.entryOf (tableE n) u.context < 0xFFFE) (context : u.context < 4 ^ 10) (lo : -2 ^ 15 ≤ u.residual)
    (hi : u.residual < 2 ^ 15) :
    (s.censusApply n u).entryOf (tableE n) u.context = s.entryOf (tableE n) u.context + 1 ∧
    (s.censusApply n u).meanOf n u.context = s.meanOf n u.context +
      roundAway (((u.residual - s.meanOf n u.context : Int) : Rat) / (2 ^ s.mDecay : Nat)) ∧
    (s.censusApply n u).pantry.lanes[n] = s.pantry.lanes[n].hit s.censusNeed u.number := by
  have apart := tableAddr_apart n context context
  have counted := s.updateCounted_parts
  have entry (t : Nat) : s.updateCounted.entryOf t u.context = s.entryOf t u.context := counted.entryOf (by decide) _ _
  rw [State.censusApply_both eOn mOn corrected room]
  refine ⟨?_, ?_, ?_⟩
  · rw [State.moveM, State.entryOf_setEntry_apart _ _ apart, State.correctionCounted_entry, entry,
      State.entryOf_setEntry_same _ _ _ (by omega)]
  · have mean : (s.updateCounted.correctionCounted n u.context s.censusNeed u.number).meanOf n u.context =
        s.meanOf n u.context := by
      rw [State.meanOf, State.correctionCounted_entry, State.entryOf_setEntry_apart _ _ apart.symm, entry, State.meanOf]
    have decay : (s.updateCounted.correctionCounted n u.context s.censusNeed u.number).mDecay = s.mDecay := by
      rw [State.mDecay, (s.updateCounted.correctionCounted_parts _ _ _ _).pantryFld (by decide) (by decide),
        counted.pantryFld (by decide) (by decide), State.mDecay]
    rw [State.meanOf_moveM _ _ _ lo hi, mean, decay]
  · rw [(State.moveM_parts _ _ _ _).only .pantry (by decide), State.correctionCounted_lane, counted.only .pantry (by decide)]

end

/-! ### Freeze, clear and a failed check (R170, R171, R174) -/

section
variable {s t : State} {n k : Fin 8}

theorem State.pantryFreeze_regsBut (s : State) (n : Fin 8) (on : Bool) :
    RegsBut [pantryBase + (PL_CTRL_FREEZE.ix n.val).off, pantryBase + (PL_STATUS_FROZEN.ix n.val).off] s
      (s.pantryFreeze n on) :=
  RegsBut.setFld (f := pl n PL_STATUS_FROZEN) (RegsBut.setFld (f := pl n PL_CTRL_FREEZE) (fun _ _ => rfl) _
    List.mem_cons_self) _ (List.mem_cons_of_mem _ List.mem_cons_self)

theorem State.pantryClear_clearing (s : State) (n : Fin 8) :
    (s.pantryClear n).pantry.clearing = some (s.pantry.clearing.getD n) := by
  unfold State.pantryClear
  cases h : s.pantry.clearing with
  | none => exact congrArg (fun t : State => t.pantry.clearing) (if_pos (by show s.pantry.clearing.isNone = true; rw [h]; rfl))
  | some k =>
    refine (congrArg (fun t : State => t.pantry.clearing) (if_neg ?_)).trans h
    show ¬ s.pantry.clearing.isNone = true
    rw [h]
    exact Bool.false_ne_true

theorem State.pantryClear_lanes (s : State) (n : Fin 8) : (s.pantryClear n).pantry.lanes = s.pantry.lanes := by
  unfold State.pantryClear
  dsimp only
  split <;> rfl

theorem State.pantryClear_regs (s : State) (n : Fin 8) :
    (s.pantryClear n).regs = (s.setFlag pantryBase (pl n PL_STATUS_CLEARING) true).regs := by
  unfold State.pantryClear
  dsimp only
  split <;> rfl

theorem State.pantryClear_regsBut (s : State) (n : Fin 8) :
    RegsBut [pantryBase + (PL_STATUS_CLEARING.ix n.val).off] s (s.pantryClear n) :=
  RegsBut.of_regs (s.setFld_regsBut pantryBase (pl n PL_STATUS_CLEARING) 1) (s.pantryClear_regs n)

/-- The failed check of an updater is shown, and stays over its raise. -/
theorem execUpdaterFail_fresh (on : s.domOn 2 = true)
    (fresh : s.flag pantryBase (pl n PL_STATUS_UPDATER_FAIL) = false) : ∃ u : State,
    execUpdaterFail n s = .next u.react ∧ u.flag pantryBase (pl n PL_STATUS_UPDATER_FAIL) = true := by
  have raised : Evolves [.free, .fuse, .link, .counters, .attic, .systemRegs] _
      ((s.setFlag pantryBase (pl n PL_STATUS_UPDATER_FAIL) true).raiseOpen (0x4110 + n.val)) :=
    State.raiseOpen_evolves (.refl _ _) (List.Subset.refl _)
  have shown : (s.setFlag pantryBase (pl n PL_STATUS_UPDATER_FAIL) true).flag pantryBase (pl n PL_STATUS_UPDATER_FAIL) = true :=
    s.flag_setFlag_same _ _ (show 25 + 1 ≤ 32 by decide) rfl
  refine ⟨_, if_neg ?_, (raised.pantryFlag (by decide) (Field.ix_lt _ _)).trans shown⟩
  rw [fresh, on]
  decide

/-! ### The end of a clear (R171, log 136) -/

/-- The tables of a lane read 0, and its banks hold their contents again. -/
def State.tablesEmptied (s : State) (n : Fin 8) : State :=
  (s.wipe (tableAddr (tableE n) 0) 0x400000).each (List.range 16) fun k s => s.setRetLost (65 + 16 * n.val + k) false

/-- The record of a lane is emptied with its tables. -/
def State.laneEmptied (s : State) (n : Fin 8) : State :=
  (s.tablesEmptied n).modPantry n fun l =>
    { l with samples := 0, derived := none, queue := [], hits := [], judge := none, installS := 0, installE := 0 }

theorem State.pantryWipe_eq (s : State) (n : Fin 8) : s.pantryWipe n =
    (((((s.laneEmptied n).setFld pantryBase (pl n PL_EXCL_X) 0).setFlag pantryBase (pl n PL_STATUS_STALE_E) false).setFlag
      pantryBase (pl n PL_STATUS_STALE_M) false).setFlag pantryBase (pl n PL_STATUS_E_SAT) false).setFlag
      pantryBase (pl n PL_STATUS_CLEARING) false := rfl

theorem State.tablesEmptied_wipe (s : State) (n : Fin 8) :
    Evolves [.memProtRegs] (s.wipe (tableAddr (tableE n) 0) 0x400000) (s.tablesEmptied n) :=
  .each (.refl _ _) fun _ _ h => State.setRetLost_evolves h (List.Subset.refl _)

theorem State.tablesEmptied_parts (s : State) (n : Fin 8) : Evolves [.mem, .memProtRegs] s (s.tablesEmptied n) :=
  (State.wipe_evolves (.refl _ s) (by decide)).trans ((s.tablesEmptied_wipe n).mono (by decide))

theorem State.laneEmptied_parts (s : State) (n : Fin 8) : Evolves [.mem, .memProtRegs, .pantry] s (s.laneEmptied n) :=
  State.modPantry_evolves ((s.tablesEmptied_parts n).mono (by decide)) (by decide)

/-- The marks that go with the end of a clear. -/
def clearMarks : List Field := [PL_STATUS_STALE_E, PL_STATUS_STALE_M, PL_STATUS_E_SAT, PL_STATUS_CLEARING]

theorem clearMarks_apart (n : Fin 8) : ∀ f ∈ clearMarks, ∀ g ∈ clearMarks, f = g ∨ (pl n f).Apart (pl n g) := by
  revert n; decide

theorem excluded_apart (n : Fin 8) : ∀ g ∈ clearMarks, (pl n PL_EXCL_X).Apart (pl n g) := by revert n; decide

theorem clearing_apart_marks (h : k ≠ n) : ∀ g ∈ PL_EXCL_X :: clearMarks, (pl k PL_STATUS_CLEARING).Apart (pl n g) := by
  revert n k; decide

theorem State.mark_dropped (s : State) (n : Fin 8) : ∀ f ∈ clearMarks,
    (s.setFlag pantryBase (pl n f) false).flag pantryBase (pl n f) = false := by
  have fits : ∀ f ∈ clearMarks, f.lo + f.width ≤ 32 ∧ f.width = 1 := by decide
  exact fun f hf => s.flag_setFlag_same _ _ (fits f hf).1 (fits f hf).2

/-- A mark that is gone stays so while others go. -/
theorem State.mark_stays {f g : Field} (hf : f ∈ clearMarks) (hg : g ∈ clearMarks)
    (gone : s.flag pantryBase (pl n f) = false) :
    (s.setFlag pantryBase (pl n g) false).flag pantryBase (pl n f) = false := by
  rcases clearMarks_apart n f hf g hg with rfl | apart
  · exact s.mark_dropped n _ hf
  · exact (s.flag_setFld_apart _ _ apart).trans gone

theorem State.pantryWipe_marks (s : State) (n : Fin 8) : ∀ f ∈ clearMarks,
    (s.pantryWipe n).flag pantryBase (pl n f) = false := by
  rw [State.pantryWipe_eq]
  simp only [clearMarks, List.forall_mem_cons, List.not_mem_nil, false_implies, implies_true, and_true]
  refine ⟨?_, ?_, ?_, ?_⟩
  · exact State.mark_stays (by decide) (by decide) (State.mark_stays (by decide) (by decide)
      (State.mark_stays (by decide) (by decide) (State.mark_dropped _ n _ (by decide))))
  · exact State.mark_stays (by decide) (by decide) (State.mark_stays (by decide) (by decide)
      (State.mark_dropped _ n _ (by decide)))
  · exact State.mark_stays (by decide) (by decide) (State.mark_dropped _ n _ (by decide))
  · exact State.mark_dropped _ n _ (by decide)

theorem State.pantryWipe_excluded (s : State) (n : Fin 8) : (s.pantryWipe n).fld pantryBase (pl n PL_EXCL_X) = 0 := by
  have apart := excluded_apart n
  simp only [clearMarks, List.forall_mem_cons, List.not_mem_nil, false_implies, implies_true, and_true] at apart
  obtain ⟨staleE, staleM, sat, clearing⟩ := apart
  rw [State.pantryWipe_eq, State.fld_setFlag_apart _ _ _ clearing, State.fld_setFlag_apart _ _ _ sat,
    State.fld_setFlag_apart _ _ _ staleM, State.fld_setFlag_apart _ _ _ staleE]
  exact State.setFld_same _ _ (show 0 + 32 ≤ 32 by decide) (show 0 < 2 ^ 32 by decide)

theorem State.pantryWipe_other (h : k ≠ n) : (s.pantryWipe n).flag pantryBase (pl k PL_STATUS_CLEARING) =
    s.flag pantryBase (pl k PL_STATUS_CLEARING) := by
  have apart := clearing_apart_marks h
  simp only [clearMarks, List.forall_mem_cons, List.not_mem_nil, false_implies, implies_true, and_true] at apart
  obtain ⟨excluded, staleE, staleM, sat, clearing⟩ := apart
  rw [State.pantryWipe_eq, State.flag, State.fld_setFlag_apart _ _ _ clearing, State.fld_setFlag_apart _ _ _ sat,
    State.fld_setFlag_apart _ _ _ staleM, State.fld_setFlag_apart _ _ _ staleE, State.fld_setFld_apart _ _ _ excluded]
  exact (s.laneEmptied_parts n).pantryFlag (by decide) (Field.ix_lt _ _)

theorem State.pantryWipe_lane (s : State) (n : Fin 8) : (s.pantryWipe n).pantry.lanes[n] = { s.pantry.lanes[n] with
    samples := 0, derived := none, queue := [], hits := [], judge := none, installS := 0, installE := 0 } := by
  have lane : (s.laneEmptied n).pantry.lanes[n] = _ := State.modPantry_same _ n _
  rwa [(s.tablesEmptied_parts n).only .pantry (by decide)] at lane

theorem Sparse.find?_filter_of_not {α : Type} {p : Nat × α → Bool} {a : Nat} (h : ∀ v, p (a, v) = false)
    (m : List (Nat × α)) : Sparse.find? (m.filter p) a = none := by
  induction m with
  | nil => rfl
  | cons e m ih =>
    obtain ⟨b, v⟩ := e
    by_cases kept : p (b, v) = true
    · have other : b ≠ a := by
        rintro rfl
        exact ne_true_of_eq_false (h v) kept
      rw [List.filter_cons_of_pos kept, Sparse.find?, if_neg other, ih]
    · rw [List.filter_cons_of_neg kept, ih]

/-- A wiped range of the Pantry reads 0. -/
theorem State.byte_wipe {a size x : Nat} (lo : a ≤ x) (hi : x < a + size) (pantry : x < 0x04000000) :
    (s.wipe a size).byte x = 0 := by
  have gone : Sparse.find? (s.wipe a size).mem x = none :=
    Sparse.find?_filter_of_not (fun v => by rw [decide_eq_true lo, decide_eq_true hi]; rfl) s.mem
  rw [State.byte, Sparse.get, gone, Option.getD_none, memDefault, if_neg (by omega)]

theorem State.pantryWipe_byte (s : State) (n : Fin 8) (i : Fin 4) :
    (s.pantryWipe n).byte (tableAddr (tableE n) (0x40000 * i.val + 5)) = 0 := by
  have mem : (s.pantryWipe n).mem = (s.tablesEmptied n).mem := by
    simp only [State.pantryWipe_eq, State.setFlag_other, State.setFld_other, State.laneEmptied, State.modPantry_other]
  have wiped (x : Nat) : (s.pantryWipe n).byte x = (s.wipe (tableAddr (tableE n) 0) 0x400000).byte x := by
    rw [State.byte, mem, (s.tablesEmptied_wipe n).only .mem (by decide), State.byte]
  rw [wiped]
  apply State.byte_wipe <;> (unfold tableAddr tableE; omega)

/-- The lane whose clear follows. -/
def State.clearNext (s : State) (n : Fin 8) : Option (Fin 8) :=
  allLines.find? fun k => decide (k ≠ n) && s.flag pantryBase (pl k PL_STATUS_CLEARING)

theorem State.pantryWipe_next (s : State) (n : Fin 8) :
    (allLines.find? fun k => (s.pantryWipe n).flag pantryBase (pl k PL_STATUS_CLEARING)) = s.clearNext n := by
  refine congrArg (allLines.find? ·) (funext fun k => ?_)
  by_cases e : k = n
  · rw [e, s.pantryWipe_marks n _ (by decide), decide_eq_false (not_not.2 rfl), Bool.false_and]
  · rw [State.pantryWipe_other e, decide_eq_true e, Bool.true_and]

/-- A clear has ended: the lane is wiped, and the next one that waits is cleared. -/
def State.clearEnded (s : State) (n : Fin 8) : State :=
  { s.pantryWipe n with pantry := { (s.pantryWipe n).pantry with clearing := s.clearNext n } }

theorem State.clearEnded_parts (s : State) (n : Fin 8) :
    Evolves [.mem, .pantry, .memProtRegs, .pantryRegs] s (s.clearEnded n) :=
  Evolves.pantry (State.pantryWipe_evolves (.refl _ s) (List.Subset.refl _)) (by decide)

theorem State.clearEnded_wiped (s : State) (n : Fin 8) : Evolves [.pantry] (s.pantryWipe n) (s.clearEnded n) :=
  Evolves.pantry (.refl _ _) (List.Subset.refl _)

theorem State.clearEnded_lane (s : State) (n : Fin 8) :
    (s.clearEnded n).pantry.lanes[n] = (s.pantryWipe n).pantry.lanes[n] := rfl

theorem State.clearEnded_marks (s : State) (n : Fin 8) : ∀ f ∈ clearMarks,
    (s.clearEnded n).flag pantryBase (pl n f) = false := fun f hf =>
  ((s.clearEnded_wiped n).pantryFlag (by decide) (Field.ix_lt _ _)).trans (s.pantryWipe_marks n f hf)

theorem State.clearEnded_excluded (s : State) (n : Fin 8) : (s.clearEnded n).fld pantryBase (pl n PL_EXCL_X) = 0 :=
  ((s.clearEnded_wiped n).pantryFld (by decide) (Field.ix_lt _ _)).trans (s.pantryWipe_excluded n)

theorem State.clearEnded_byte (s : State) (n : Fin 8) (i : Fin 4) :
    (s.clearEnded n).byte (tableAddr (tableE n) (0x40000 * i.val + 5)) = 0 := by
  rw [State.byte, (s.clearEnded_wiped n).only .mem (by decide), ← State.byte, s.pantryWipe_byte n i]

theorem State.pantryClearSettle_alone (alone : ∀ r ∈ s.link.running, r.opcode ≠ 0x0C02) : s.pantryClearSettle = s := by
  have absent : s.link.running.find? (fun r => r.opcode == 0x0C02) = none :=
    List.find?_eq_none.2 fun r hr => by
      rw [beq_iff_eq]
      exact alone r hr
  rw [State.pantryClearSettle, absent]

theorem execPantryClearDone_alone (hd : s.noneDue) (clearing : s.pantry.clearing = some n) (on : s.domOn 2 = true)
    (alone : ∀ r ∈ s.link.running, r.opcode ≠ 0x0C02) : execPantryClearDone n s = .next (s.clearEnded n) := by
  have ended := s.clearEnded_parts n
  have link : (s.clearEnded n).link = s.link := ended.only .link (by decide)
  have settled := State.pantryClearSettle_alone (s := s.clearEnded n) (by rwa [link])
  rw [State.clearEnded, ← State.pantryWipe_next] at settled
  rw [execPantryClearDone, if_pos ⟨clearing, on⟩]
  refine (congrArg done settled).trans ?_
  rw [State.pantryWipe_next]
  exact ended.done_eq (by decide) hd

end

/-! ### Derivation (R175, R178) -/

section
variable {s : State} {n : Fin 8}

/-- The canceller table that the census of a lane gives. -/
def State.derivedTable (s : State) (n : Fin 8) : List Int := cancellerTable ((List.range 1024).map (s.censusMean n))

/-- The proposal that goes with it. -/
def State.derivedProposal (s : State) (n : Fin 8) : List Int :=
  proposalOf (s.fld pantryBase PANTRY_CTRL_PD_SHARE) (s.derivedTable n)

/-- A lane's record with a canceller table staged, and a proposal where one is formed. -/
def PantryLane.derivedAt (l : PantryLane) (tick : Nat) (table proposal : List Int) : PantryLane :=
  { l with
    table := table, installDue := true, derived := some tick, unsent := proposal.any (· != 0) || l.unsent,
    proposal := if proposal.any (· != 0) then proposal else l.proposal }

theorem PantryLane.derivedAt_table (l : PantryLane) (tick : Nat) (table proposal : List Int) :
    (l.derivedAt tick table proposal).table = table := rfl

/-- A proposal that is formed is staged unsent. -/
theorem PantryLane.derivedAt_formed (l : PantryLane) (tick : Nat) (table : List Int) {proposal : List Int}
    (formed : proposal.any (· != 0) = true) : (l.derivedAt tick table proposal).unsent = true ∧
    (l.derivedAt tick table proposal).proposal = proposal :=
  ⟨congrArg (· || l.unsent) formed, if_pos formed⟩

/-- The turn of the lanes goes on behind this one. -/
def State.turnTaken (s : State) (n : Fin 8) : State := { s with pantry := { s.pantry with next := (n.val + 1) % 8 } }

theorem State.turnTaken_parts (s : State) (n : Fin 8) : Evolves [.pantry] s (s.turnTaken n) :=
  Evolves.pantry (.refl _ s) (by decide)

theorem State.turnTaken_table (s : State) (n : Fin 8) : (s.turnTaken n).derivedTable n = s.derivedTable n := by
  have means : (s.turnTaken n).censusMean n = s.censusMean n := funext fun idx => by
    unfold State.censusMean
    refine congrArg (fun f : Nat → Rat => meanRat ((contextsOf idx).map f)) (funext fun c => ?_)
    rw [State.meanOf, (s.turnTaken_parts n).entryOf (by decide), State.meanOf]
  rw [State.derivedTable, means, State.derivedTable]

theorem State.derive_stages (sat : s.flag pantryBase (pl n PL_STATUS_E_SAT) = false) :
    s.derive n = s.modPantry n fun l => l.derivedAt s.tick (s.derivedTable n) (s.derivedProposal n) :=
  if_neg (ne_true_of_eq_false sat)

theorem execCancellerDerive_served (hd : s.noneDue) (served : s.servedNext = some n) :
    execCancellerDerive n s = .next ((s.turnTaken n).derive n) := by
  have derived : Evolves [.pantry, .pantryRegs] (s.turnTaken n) ((s.turnTaken n).derive n) :=
    State.derive_evolves (.refl _ _) (List.Subset.refl _)
  rw [execCancellerDerive, if_pos served]
  exact derived.done_eq (by decide) hd

theorem execCancellerDerive_stages (hd : s.noneDue) (served : s.servedNext = some n)
    (sat : s.flag pantryBase (pl n PL_STATUS_E_SAT) = false) : ∃ t : State, execCancellerDerive n s = .next t ∧
    t.pantry.lanes[n] = s.pantry.lanes[n].derivedAt s.tick (s.derivedTable n) (s.derivedProposal n) ∧ RegsBut [] s t := by
  refine ⟨_, execCancellerDerive_served hd served, ?_, ?_⟩
  · rw [State.derive_stages (s := s.turnTaken n) sat, State.modPantry_same, State.derivedProposal, State.turnTaken_table]
    rfl
  · rw [State.derive_stages (s := s.turnTaken n) sat]
    exact fun _ _ => rfl

end

/-! ### The bank that is not in force (R89, R176 step 1) -/

section
variable {s t u : State} {n : Fin 8} {r : FadeRegs}

/-- The registers of a pair of banks: the words that decide on a swap lie below the entries. -/
structure FadeRegs.Tables (r : FadeRegs) : Prop where
  words : ∀ f ∈ [r.active, r.fading, r.pending, r.reject], f.off < 0x1000
  active : r.active.width = 1
  entries : ∀ f ∈ [r.bank0, r.bank1], 0x1000 ≤ f.off ∧ f.off < 0xF000 ∧ f.stride = 4 ∧ f.lo = 0 ∧ f.width = 10

theorem nlcRegs_tables : nlcRegs.Tables := ⟨by decide, rfl, by decide⟩

theorem pdRegs_tables : pdRegs.Tables := ⟨by decide, rfl, by decide⟩

/-- The entries of the bank that is not in force. -/
def State.idleBank (s : State) (n : Fin 8) (r : FadeRegs) : Field :=
  if s.fld (lineBase n) r.active = 0 then r.bank1 else r.bank0

theorem State.idleBank_mem (s : State) (n : Fin 8) (r : FadeRegs) : s.idleBank n r ∈ [r.bank0, r.bank1] := by
  unfold State.idleBank
  split
  · exact List.mem_cons_of_mem _ List.mem_cons_self
  · exact List.mem_cons_self

theorem FadeRegs.Tables.entry_off (h : r.Tables) {f : Field} (hf : f ∈ [r.bank0, r.bank1]) {i : Nat} (hi : i < 1024) :
    (f.ix i).off = f.off + 4 * i ∧ 0x1000 ≤ (f.ix i).off ∧ (f.ix i).off < 0x10000 := by
  obtain ⟨lo, hi', stride, -, -⟩ := h.entries f hf
  have off : (f.ix i).off = f.off + 4 * i := by
    rw [Field.ix, stride]
    exact Nat.mod_eq_of_lt (by omega)
  omega

/-- A write above the words of a lane leaves them alone. -/
theorem LaneWords.setFld (h : LaneWords s t) (n : Fin 8) {f : Field} (v : Nat) (lo : 0x1000 ≤ f.off)
    (hi : f.off < 0x10000) : LaneWords s (t.setFld (lineBase n) f v) := by
  refine ⟨h.lanes, fun k g hg => Eq.trans ?_ (h.fld k g hg)⟩
  refine Regs.fld_setFld_ne t.regs ?_
  unfold lineBase
  omega

theorem LaneWords.modPantry (h : LaneWords s t) (n : Fin 8) (f : PantryLane → PantryLane) : LaneWords s (t.modPantry n f) :=
  ⟨h.lanes, fun k g hg => (t.modPantry_fld n f _ g).trans (h.fld k g hg)⟩

/-- One entry of a table goes into a bank. -/
def State.entryWritten (s : State) (n : Fin 8) (f : Field) (e : Int × Nat) : State :=
  s.setFld (lineBase n) (f.ix (e.2 % 1024)) (intBits 10 e.1)

theorem State.bankWrite_entry (h : r.Tables) (busy : s.fadeBusy n r = false) (e : Int × Nat) :
    s.bankWrite n r (Fin.ofNat 2 (1 - s.fld (lineBase n) r.active)) (Fin.ofNat 1024 e.2) (BitVec.ofInt 10 e.1) false =
      s.entryWritten n (s.idleBank n r) e := by
  have active : s.fld (lineBase n) r.active < 2 := by
    have := Regs.fld_lt s.regs (base := lineBase n) (f := r.active)
    rw [h.active] at this
    exact this
  have bank : (Fin.ofNat 2 (1 - s.fld (lineBase n) r.active)).val = 1 - s.fld (lineBase n) r.active :=
    Nat.mod_eq_of_lt (by omega)
  have idle : (if 1 - s.fld (lineBase n) r.active = 0 then r.bank0 else r.bank1) = s.idleBank n r := by
    unfold State.idleBank
    by_cases zero : s.fld (lineBase n) r.active = 0
    · rw [if_neg (by omega), if_pos zero]
    · rw [if_pos (by omega), if_neg zero]
  rw [State.bankWrite_writes _ _ (by omega) busy, bank, idle, BitVec.toNat_ofInt]
  rfl

theorem LaneWords.entryWritten (h : LaneWords s t) (tables : r.Tables) {f : Field} (hf : f ∈ [r.bank0, r.bank1])
    (n : Fin 8) (e : Int × Nat) : LaneWords s (t.entryWritten n f e) := by
  obtain ⟨-, lo, hi⟩ := tables.entry_off hf (i := e.2 % 1024) (Nat.mod_lt _ (by decide))
  exact h.setFld n _ lo hi

/-- Writing a table writes each of its entries while the words of the lane stand. -/
theorem State.writeBank_eq (h : r.Tables) (busy : s.fadeBusy n r = false) (table : List Int) : s.writeBank n r table =
    s.each (table.take 1024).zipIdx fun e t => t.entryWritten n (s.idleBank n r) e := by
  unfold State.writeBank
  suffices ∀ (l : List (Int × Nat)) (t : State), LaneWords s t →
      t.each l (fun e t => t.bankWrite n r (Fin.ofNat 2 (1 - s.fld (lineBase n) r.active)) (Fin.ofNat 1024 e.2)
        (BitVec.ofInt 10 e.1) false) = t.each l fun e t => t.entryWritten n (s.idleBank n r) e from this _ s (.refl s)
  intro l
  induction l with
  | nil => exact fun t _ => rfl
  | cons e l ih =>
    intro t words
    have active : t.fld (lineBase n) r.active = s.fld (lineBase n) r.active := words.fld n _ (h.words _ (by simp))
    have busy' : t.fadeBusy n r = false := (words.fadeBusy n (h.words _ (by simp)) (h.words _ (by simp))).trans busy
    have first : t.bankWrite n r (Fin.ofNat 2 (1 - s.fld (lineBase n) r.active)) (Fin.ofNat 1024 e.2)
        (BitVec.ofInt 10 e.1) false = t.entryWritten n (s.idleBank n r) e := by
      rw [← active, State.bankWrite_entry h busy', State.idleBank, State.idleBank, active]
    show State.each l _ (t.bankWrite _ _ _ _ _ _) = State.each l _ (t.entryWritten _ _ _)
    rw [first]
    exact ih _ (words.entryWritten h (s.idleBank_mem n r) n e)

theorem State.writeBank_words (h : r.Tables) (busy : s.fadeBusy n r = false) (table : List Int) :
    LaneWords s (s.writeBank n r table) := by
  rw [State.writeBank_eq h busy]
  exact State.each_keeps (P := LaneWords s) (fun e t words => words.entryWritten h (s.idleBank_mem n r) n e) _ (.refl s)

/-- Behind the write of a table each of its entries reads back. -/
theorem State.writeBank_entry (h : r.Tables) (busy : s.fadeBusy n r = false) {table : List Int} {i : Nat}
    (hi : i < table.length) (top : i < 1024) : (s.writeBank n r table).fld (lineBase n) ((s.idleBank n r).ix i) =
      intBits 10 (table.getD i 0) := by
  have bank := s.idleBank_mem n r
  obtain ⟨-, -, stride, lo, width⟩ := h.entries _ bank
  have mem : (table.getD i 0, i) ∈ (table.take 1024).zipIdx := by
    rw [List.mk_mem_zipIdx_iff_getElem?, List.getElem?_take_of_lt top, List.getD_eq_getElem _ _ hi, List.getElem?_eq_getElem hi]
  have fits : ((s.idleBank n r).ix i).lo + ((s.idleBank n r).ix i).width ≤ 32 := by
    show (s.idleBank n r).lo + (s.idleBank n r).width ≤ 32
    omega
  have range : intBits 10 (table.getD i 0) < 2 ^ ((s.idleBank n r).ix i).width := by
    rw [show ((s.idleBank n r).ix i).width = 10 from width]
    exact intBits_lt 10 _
  have others (e : Int × Nat) (he : e ∈ (table.take 1024).zipIdx) (ne : e ≠ (table.getD i 0, i)) (t : State)
      (k : t.fld (lineBase n) ((s.idleBank n r).ix i) = intBits 10 (table.getD i 0)) :
      (t.entryWritten n (s.idleBank n r) e).fld (lineBase n) ((s.idleBank n r).ix i) = intBits 10 (table.getD i 0) := by
    obtain ⟨v, j⟩ := e
    have value := List.mk_mem_zipIdx_iff_getElem?.1 he
    have short : j < (table.take 1024).length := (List.getElem?_eq_some_iff.1 value).1
    rw [List.length_take] at short
    have differ : i ≠ j % 1024 := by
      rw [Nat.mod_eq_of_lt (by omega)]
      rintro rfl
      exact ne (congrArg (·, i) (Option.some.inj (value.symm.trans (List.mk_mem_zipIdx_iff_getElem?.1 mem))))
    obtain ⟨here, -, -⟩ := h.entry_off bank top
    obtain ⟨there, -, -⟩ := h.entry_off bank (i := j % 1024) (Nat.mod_lt _ (by decide))
    exact (t.fld_setFld_apart _ _ (.inl (by dsimp only; omega))).trans k
  rw [State.writeBank_eq h busy]
  exact State.each_once (Q := fun _ => True) (.of_map Prod.snd (List.nodup_zipIdx_map_snd _)) mem
    (fun _ _ _ _ _ => trivial)
    (fun t _ => by
      rw [State.entryWritten, Nat.mod_eq_of_lt top]
      exact t.setFld_same _ fits range)
    others trivial

end

/-! ### A canceller table is installed (R176) -/

section
variable {s t u : State} {n : Fin 8}

theorem State.nlcReady_iff : s.nlcReady n = true ↔
    s.locked n = true ∧ s.fadeBusy n nlcRegs = false ∧ s.changeWaits n = false := by
  rw [State.nlcReady, Bool.and_eq_true, Bool.and_eq_true, Bool.not_eq_true', Bool.not_eq_true', and_assoc]

/-- Room 14 is at a step of the install: the words of the lane stand, and of its record only the step differs. -/
structure Staged (n : Fin 8) (s t : State) : Prop where
  parts : Evolves [.pantry, .lineRegs] s t
  words : LaneWords s t
  lane : ∃ step, t.pantry.lanes[n] = { s.pantry.lanes[n] with step := step }

theorem Staged.refl (n : Fin 8) (s : State) : Staged n s s := ⟨.refl _ s, .refl s, _, rfl⟩

theorem LaneWords.bankMarks (h : LaneWords s t) (n : Fin 8) {r : FadeRegs} (tables : r.Tables) :
    t.bankMarks n r = s.bankMarks n r := by
  rw [State.bankMarks, h.fld n r.active (tables.words _ (by simp)), h.fld n r.reject (tables.words _ (by simp)),
    State.bankMarks]

theorem Staged.nlcReady (h : Staged n s t) (ready : s.nlcReady n = true) : t.nlcReady n = true :=
  (h.words.nlcReady n).trans ready

theorem LaneWords.nlcInUse (h : LaneWords s t) (profile : t.profile = s.profile) (n : Fin 8) :
    t.nlcInUse n = s.nlcInUse n := by
  rw [State.nlcInUse, h.flag n (by decide), State.laneProfile, h.lanes, profile, State.nlcInUse, State.laneProfile]

theorem Staged.nlcInUse (h : Staged n s t) : t.nlcInUse n = s.nlcInUse n :=
  h.words.nlcInUse (h.parts.fld (by decide)) n

/-- Step 1 from any step: the bank is written, and the step notes the marks. -/
theorem Staged.nlcStage (h : Staged n s t) (ready : s.nlcReady n = true) : Staged n s (t.nlcStage n) ∧
    (t.nlcStage n).pantry.lanes[n].step = some ((t.nlcStage n).bankMarks n nlcRegs) := by
  obtain ⟨-, busy, -⟩ := State.nlcReady_iff.1 (h.nlcReady ready)
  have words : LaneWords t (t.nlcStage n) := by
    rw [State.nlcStage]
    exact (State.writeBank_words nlcRegs_tables busy _).modPantry n _
  have parts : Evolves [.pantry, .lineRegs] t (t.nlcStage n) := State.nlcStage_evolves (.refl _ t) (List.Subset.refl _)
  have wrote : Evolves [.lineRegs] t (t.writeBank n nlcRegs t.pantry.lanes[n].table) :=
    State.writeBank_evolves (.refl _ t) nlcRegs_inBlock (List.Subset.refl _)
  have lane : (t.nlcStage n).pantry.lanes[n] = { t.pantry.lanes[n] with step := some (t.bankMarks n nlcRegs) } := by
    rw [State.nlcStage, State.modPantry_same, wrote.only .pantry (by decide)]
  obtain ⟨step, before⟩ := h.lane
  refine ⟨⟨h.parts.trans parts, h.words.trans words, some (t.bankMarks n nlcRegs), ?_⟩, ?_⟩
  · rw [lane, before]
  · rw [lane, words.bankMarks n nlcRegs_tables]

theorem State.nlcStage_entry (ready : s.nlcReady n = true) {i : Nat} (hi : i < s.pantry.lanes[n].table.length)
    (top : i < 1024) : (s.nlcStage n).fld (lineBase n) ((s.idleBank n nlcRegs).ix i) =
      intBits 10 (s.pantry.lanes[n].table.getD i 0) := by
  obtain ⟨-, busy, -⟩ := State.nlcReady_iff.1 ready
  rw [State.nlcStage, State.modPantry_fld, State.writeBank_entry nlcRegs_tables busy hi top]

/-- A lane's record once a swap of its canceller is requested. -/
def State.swapNoted (s : State) (n : Fin 8) (back : Bool) : State :=
  s.modPantry n fun l => { l with
    installing := some back, before := if back then l.before else s.windowNow n, step := none,
    installDue := back && l.installDue, swapDue := false }

theorem State.swapNoted_parts (s : State) (n : Fin 8) (back : Bool) : Evolves [.pantry] s (s.swapNoted n back) :=
  State.modPantry_evolves (.refl _ s) (List.Subset.refl _)

theorem State.swapNoted_words (s : State) (n : Fin 8) (back : Bool) : LaneWords s (s.swapNoted n back) :=
  (LaneWords.refl s).modPantry n _

/-- A request that the lane is ready for is not answered BUSY. -/
theorem State.nlcSwap_ready (ready : s.nlcReady n = true) (back : Bool) : s.nlcSwap n back =
    ((s.swapNoted n back).nlcHostSwap n).modPantry n fun l => { l with swapBusy := false } := by
  obtain ⟨-, busy, waits⟩ := State.nlcReady_iff.1 (((s.swapNoted_words n back).nlcReady n).trans ready)
  show (s.swapNoted n back).nlcEngineSwap n = _
  rw [State.nlcEngineSwap, busy, waits]
  rfl

/-- A ready lane whose canceller is in use starts its fade. -/
theorem State.nlcHostSwap_ready (ready : s.nlcReady n = true) (inUse : s.nlcInUse n = true) :
    s.nlcHostSwap n = s.fadeBegin n nlcRegs := by
  obtain ⟨locked, busy, waits⟩ := State.nlcReady_iff.1 ready
  rw [State.nlcHostSwap_taken busy waits, inUse, locked]
  rfl

theorem State.nlcFadeBegin_parts (s : State) (n : Fin 8) : Evolves [.line, .lineRegs] s (s.fadeBegin n nlcRegs) :=
  State.fadeBegin_evolves (.refl _ s) nlcRegs_inBlock (List.Subset.refl _)

theorem State.pdInstall_none (idle : s.pantry.lanes[n].pdDue = none) : s.pdInstall n = s := by
  rw [State.pdInstall, idle]

/-- An install that room 14 does for a lane. -/
theorem execCancellerInstall_task (hd : s.noneDue) (task : s.taskRuns 14 (taskInstall n) = true) (hostSwap : Bool) :
    execCancellerInstall n hostSwap s = .next ((s.nlcInstall n hostSwap).pdInstall n) := by
  have installed : Evolves nlcParts s ((s.nlcInstall n hostSwap).pdInstall n) :=
    State.pdInstall_evolves (State.nlcInstall_evolves (.refl _ s) (by decide)) (by decide)
  rw [execCancellerInstall, if_pos task]
  exact installed.done_eq (by decide) hd

/-- An install that is due writes the bank where no step was noted, then requests the swap. -/
theorem State.nlcInstall_due (back : s.pantry.lanes[n].swapDue = false) (due : s.pantry.lanes[n].installDue = true)
    (auto : s.flag pantryBase PANTRY_CTRL_AUTO_NLC = true) (hostSwap : Bool) : s.nlcInstall n hostSwap =
      (if s.pantry.lanes[n].step.isNone then s.nlcStage n else s).nlcRequest n hostSwap := by
  unfold State.nlcInstall
  dsimp only
  rw [back, due, auto]
  rfl

/-- Without a host request the bank is written once and the fade starts. -/
theorem State.nlcInstall_starts (ready : s.nlcReady n = true) (back : s.pantry.lanes[n].swapDue = false)
    (due : s.pantry.lanes[n].installDue = true) (first : s.pantry.lanes[n].step = none)
    (auto : s.flag pantryBase PANTRY_CTRL_AUTO_NLC = true) (inUse : s.nlcInUse n = true) : s.nlcInstall n false =
      (((s.nlcStage n).swapNoted n false).fadeBegin n nlcRegs).modPantry n fun l => { l with swapBusy := false } := by
  obtain ⟨staged, marked⟩ := (Staged.refl n s).nlcStage ready
  have ready' := staged.nlcReady ready
  have noted := (s.nlcStage n).swapNoted_words n false
  have inUse' : ((s.nlcStage n).swapNoted n false).nlcInUse n = true :=
    (noted.nlcInUse (((s.nlcStage n).swapNoted_parts n false).fld (by decide)) n).trans (staged.nlcInUse.trans inUse)
  have request : (s.nlcStage n).nlcRequest n false = (s.nlcStage n).nlcSwap n false := by
    rw [State.nlcRequest, if_pos ready', if_pos marked]
    rfl
  rw [State.nlcInstall_due back due auto, first]
  show (s.nlcStage n).nlcRequest n false = _
  rw [request, State.nlcSwap_ready ready', State.nlcHostSwap_ready ((noted.nlcReady n).trans ready') inUse']

/-- A host request in the cycle of room 14's is taken, and room 14's is counted busy and starts anew. -/
theorem State.nlcInstall_beaten (ready : s.nlcReady n = true) (back : s.pantry.lanes[n].swapDue = false)
    (due : s.pantry.lanes[n].installDue = true) (auto : s.flag pantryBase PANTRY_CTRL_AUTO_NLC = true)
    (inUse : s.nlcInUse n = true) : ∃ t : State, Staged n s t ∧ s.nlcInstall n true =
      ((t.fadeBegin n nlcRegs).bump (lineBase n) nlcRegs.busy).modPantry n fun l =>
        { l with step := none, swapBusy := true } := by
  have first : Staged n s (if s.pantry.lanes[n].step.isNone then s.nlcStage n else s) := by
    split
    · exact ((Staged.refl n s).nlcStage ready).1
    · exact .refl n s
  generalize e : (if s.pantry.lanes[n].step.isNone then s.nlcStage n else s) = x at first
  have second : Staged n s (if x.pantry.lanes[n].step = some (x.bankMarks n nlcRegs) then x else x.nlcStage n) := by
    split
    · exact first
    · exact (first.nlcStage ready).1
  refine ⟨_, second, ?_⟩
  rw [State.nlcInstall_due back due auto, e, State.nlcRequest, if_pos (first.nlcReady ready)]
  show State.nlcBeaten _ n = _
  rw [State.nlcBeaten, State.nlcHostSwap_ready (second.nlcReady ready) (second.nlcInUse.trans inUse)]

/-! ### A proposal is installed (R181) -/

theorem State.pdReady_iff : s.pdReady n = true ↔
    s.txState n = 5 ∧ s.fadeBusy n pdRegs = false ∧ s.changeWaits n = false := by
  rw [State.pdReady, Bool.and_eq_true, Bool.and_eq_true, Bool.not_eq_true', Bool.not_eq_true', and_assoc, beq_iff_eq]

/-- The pre-distortion table of a proposal is in the idle bank. -/
theorem State.pdStage_stages {due : PdDue} {p : List Int} (asks : due.proposal = some p) (ready : s.pdReady n = true) :
    LaneWords s (s.pdStage n due) ∧ (s.pdStage n due).pantry.lanes[n] = { s.pantry.lanes[n] with
      pdDue := some { due with step := some ((s.pdStage n due).bankMarks n pdRegs) } } ∧
    ∀ i < 1024, i < p.length → (s.pdStage n due).fld (lineBase n) ((s.idleBank n pdRegs).ix i) =
      intBits 10 ((s.proposedTable n p).getD i 0) := by
  obtain ⟨-, busy, -⟩ := State.pdReady_iff.1 ready
  have stage : s.pdStage n due = (s.writeBank n pdRegs (s.proposedTable n p)).modPantry n fun l =>
      { l with pdDue := some { due with step := some (s.bankMarks n pdRegs) } } := by
    unfold State.pdStage
    rw [asks]
  have words : LaneWords s (s.pdStage n due) := by
    rw [stage]
    exact (State.writeBank_words pdRegs_tables busy _).modPantry n _
  have wrote : Evolves [.lineRegs] s (s.writeBank n pdRegs (s.proposedTable n p)) :=
    State.writeBank_evolves (.refl _ s) pdRegs_inBlock (List.Subset.refl _)
  refine ⟨words, ?_, fun i top hi => ?_⟩
  · rw [words.bankMarks n pdRegs_tables, stage, State.modPantry_same, wrote.only .pantry (by decide)]
  · have length : (s.proposedTable n p).length = p.length := by
      rw [State.proposedTable, List.length_map, List.length_zipIdx]
    rw [stage, State.modPantry_fld, State.writeBank_entry pdRegs_tables busy (by rwa [length]) top]

/-- The lane waits for the end of the swap of a pre-distortion table. -/
def State.pdNoted (s : State) (n : Fin 8) (due : PdDue) : State :=
  s.modPantry n fun l => { l with pdDue := none, pdInstalling := some due }

theorem State.pdInstall_starts {due : PdDue} {p : List Int} (waits : s.pantry.lanes[n].pdDue = some due)
    (asks : due.proposal = some p) (first : due.step = none) (ready : s.pdReady n = true) (inUse : s.pdInUse n = true) :
    s.pdInstall n = ((s.pdStage n due).pdNoted n due).fadeBegin n pdRegs := by
  obtain ⟨words, lane, -⟩ := State.pdStage_stages asks ready
  have noted : LaneWords s ((s.pdStage n due).pdNoted n due) := words.modPantry n _
  have ready' : (s.pdStage n due).pdReady n = true := (words.pdReady n).trans ready
  obtain ⟨live, busy, waits'⟩ := State.pdReady_iff.1 ((noted.pdReady n).trans ready)
  have inUse' : ((s.pdStage n due).pdNoted n due).pdInUse n = true := (noted.flag n (by decide)).trans inUse
  have transmits : ((s.pdStage n due).pdNoted n due).transmitting n = true := by
    rw [State.transmitting, live]
    rfl
  have marked : (((s.pdStage n due).pantry.lanes[n].pdDue.map PdDue.step).getD none) =
      some ((s.pdStage n due).bankMarks n pdRegs) := by
    rw [lane]
    rfl
  have stage : (if due.step.isNone then s.pdStage n due else s) = s.pdStage n due := by
    rw [first]
    rfl
  rw [State.pdInstall, waits]
  dsimp only
  rw [stage, if_pos ready', if_pos (.inr marked)]
  exact State.pdSwap_live busy waits' inUse' transmits

/-! ### The windows are compared (R177) -/

/-- A comparison is over. -/
def State.comparisonEnded (s : State) (n : Fin 8) : State := s.modPantry n fun l => { l with judge := none }

theorem execInstallEvaluate_better {j : Judge} (hd : s.noneDue) (task : s.taskRuns 14 (taskInstall n) = true)
    (due : s.pantry.lanes[n].judge = some j) (full : j.start + j.window ≤ s.pantry.lanes[n].samples)
    (better : worse j.before j.after = false) : execInstallEvaluate n s = .next (s.comparisonEnded n) := by
  have ended : Evolves [.pantry] s (s.comparisonEnded n) := State.modPantry_evolves (.refl _ s) (List.Subset.refl _)
  rw [execInstallEvaluate, due]
  dsimp only
  rw [if_pos ⟨task, full⟩, better]
  exact ended.done_eq (by decide) hd

/-- A worse canceller table is counted, and its swap back is due. -/
def State.swapBackDue (s : State) (n : Fin 8) : State :=
  ((s.comparisonEnded n).bump pantryBase (pl n PL_STATUS_NLC_REVERTS)).modPantry n fun l => { l with swapDue := true }

theorem State.swapBackDue_parts (s : State) (n : Fin 8) : Evolves [.pantry, .pantryRegs] s (s.swapBackDue n) :=
  State.modPantry_evolves (State.bump_evolves (State.modPantry_evolves (.refl _ s) (by decide))
    (regPart_pantry (Field.ix_lt _ _) (by decide))) (by decide)

theorem State.swapBackDue_lane (s : State) (n : Fin 8) :
    (s.swapBackDue n).pantry.lanes[n] = { s.pantry.lanes[n] with judge := none, swapDue := true } := by
  have counted : ((s.comparisonEnded n).bump pantryBase (pl n PL_STATUS_NLC_REVERTS)).pantry =
      (s.comparisonEnded n).pantry := rfl
  rw [State.swapBackDue, State.modPantry_same, counted, State.comparisonEnded, State.modPantry_same]

theorem execInstallEvaluate_worse {j : Judge} (task : s.taskRuns 14 (taskInstall n) = true)
    (due : s.pantry.lanes[n].judge = some j) (full : j.start + j.window ≤ s.pantry.lanes[n].samples)
    (worsened : worse j.before j.after = true) (canceller : j.proposal = none) : execInstallEvaluate n s =
      .next (((s.swapBackDue n).raise 0x4104 n.val).nlcInstall n false).react := by
  rw [execInstallEvaluate, due]
  dsimp only
  rw [if_pos ⟨task, full⟩, worsened, canceller]
  rfl

theorem State.nlcInstall_back (due : s.pantry.lanes[n].swapDue = true) : s.nlcInstall n false =
    if s.nlcReady n then s.nlcSwap n true else s := by
  unfold State.nlcInstall
  dsimp only
  rw [due]
  rfl

/-- What a swap back leaves alone: the registers of the census, and the comparison. -/
structure SwapKeeps (n : Fin 8) (s t : State) : Prop where
  parts : Evolves [.line, .lineRegs, .pantry] s t
  judge : t.pantry.lanes[n].judge = s.pantry.lanes[n].judge

theorem SwapKeeps.of_line {t : State} (h : Evolves [.line, .lineRegs] s t) : SwapKeeps n s t :=
  ⟨h.mono (by decide), congrArg (fun p : Pantry => p.lanes[n].judge) (h.only .pantry (by decide))⟩

/-- The end of a swap back sets no install point. -/
theorem State.fadeFinish_back (back : s.pantry.lanes[n].installing = some true) :
    SwapKeeps n s (s.fadeFinish n nlcRegs) := by
  have flipped : Evolves [.lineRegs] s (s.bankFlipped n) :=
    State.setFlag_evolves (State.setFlag_evolves (State.setFld_evolves (.refl _ s) (regPart_line (by decide) (by decide)))
      (regPart_line (by decide) (by decide))) (regPart_line (by decide) (by decide))
  have noted : s.fadeFinish n nlcRegs = (s.bankFlipped n).modPantry n fun l => { l with installing := none } := by
    have back' : (s.bankFlipped n).pantry.lanes[n].installing = some true := by
      rw [flipped.only .pantry (by decide)]
      exact back
    show (s.bankFlipped n).installDone n nlcRegs = _
    rw [State.installDone, if_pos rfl, back']
  rw [noted]
  refine ⟨State.modPantry_evolves (flipped.mono (by decide)) (by decide), ?_⟩
  rw [State.modPantry_same, flipped.only .pantry (by decide)]

theorem State.nlcSwap_back (ready : s.nlcReady n = true) : SwapKeeps n s (s.nlcSwap n true) := by
  have noted := s.swapNoted_parts n true
  have lane : (s.swapNoted n true).pantry.lanes[n] = _ := State.modPantry_same s n _
  obtain ⟨-, busy, waits⟩ := State.nlcReady_iff.1 (((s.swapNoted_words n true).nlcReady n).trans ready)
  have swapped : SwapKeeps n (s.swapNoted n true) ((s.swapNoted n true).nlcHostSwap n) := by
    rw [State.nlcHostSwap_taken busy waits]
    split_ifs
    · exact State.fadeFinish_back (by rw [lane])
    · exact .of_line (State.nlcFadeBegin_parts _ n)
    · exact .of_line (State.setFlag_evolves (.refl _ _) (regPart_line (by decide) (by decide)))
  rw [State.nlcSwap_ready ready]
  refine ⟨State.modPantry_evolves ((noted.mono (by decide)).trans swapped.parts) (by decide), ?_⟩
  rw [State.modPantry_same]
  exact swapped.judge.trans (by rw [lane])

theorem State.nlcInstall_back_keeps (due : s.pantry.lanes[n].swapDue = true) : SwapKeeps n s (s.nlcInstall n false) := by
  rw [State.nlcInstall_back due]
  split_ifs with ready
  · exact State.nlcSwap_back ready
  · exact .of_line (.refl _ s)

end

/-! ### The obligation -/

section
variable {s : State} {n : Fin 8}

theorem State.idleBank_apart (r : FadeRegs) (h : r.Tables) {i : Nat} (hi : i < 1024) {f : Field} (hf : f.off < 0x1000) :
    ((s.idleBank n r).ix i).Apart f := by
  obtain ⟨-, lo, -⟩ := h.entry_off (s.idleBank_mem n r) hi
  exact .inl (by omega)

/-- A kept sample of a corrected symbol, with both tables on. -/
theorem execCensusSample_counts {clock : List CensusSymbol} (hd : s.noneDue) (samples : s.sampling n = true)
    (due : s.sampleDue n = true) (kept : s.censusExcluded n clock (s.samplePlace n) = false)
    (still : s.laneRebuilding n = false) (eOn : s.flag pantryBase (pl n PL_CTRL_E_EN) = true)
    (mOn : s.flag pantryBase (pl n PL_CTRL_M_EN) = true)
    (corrected : (censusAt clock (s.samplePlace n) 5).corrected = true)
    (room : s.entryOf (tableE n) (censusContext clock (s.samplePlace n)) < 0xFFFE) : ∃ t : State,
    execCensusSample n clock s = .next t ∧
    t.entryOf (tableE n) (censusContext clock (s.samplePlace n)) =
      s.entryOf (tableE n) (censusContext clock (s.samplePlace n)) + 1 ∧
    t.meanOf n (censusContext clock (s.samplePlace n)) = s.meanOf n (censusContext clock (s.samplePlace n)) +
      roundAway (((s.censusResidual n clock (s.samplePlace n) -
        s.meanOf n (censusContext clock (s.samplePlace n)) : Int) : Rat) / (2 ^ s.mDecay : Nat)) ∧
    t.pantry.lanes[n].samples = (s.pantry.lanes[n].samples + 1) % 2 ^ 48 ∧
    t.pantry.lanes[n].lfsr = lfsrStep s.pantry.lanes[n].lfsr ∧ RegsBut [] s t := by
  have counted := s.sampleKept_parts n
  have entry (t : Nat) : (s.sampleKept n).entryOf t (censusContext clock (s.samplePlace n)) =
      s.entryOf t (censusContext clock (s.samplePlace n)) := counted.entryOf (by decide) _ _
  have mean : (s.sampleKept n).meanOf n (censusContext clock (s.samplePlace n)) =
      s.meanOf n (censusContext clock (s.samplePlace n)) := congrArg (bitsInt 16) (entry _)
  obtain ⟨lo, hi⟩ : -2 ^ 15 ≤ s.censusResidual n clock (s.samplePlace n) ∧
      s.censusResidual n clock (s.samplePlace n) < 2 ^ 15 := satInt_bounds 16 _
  have room' : (s.sampleKept n).entryOf (tableE n) (s.sampleUpdate n clock).context < 0xFFFE :=
    (entry _).trans_lt room
  have parts := State.censusApply_both_parts (s := s.sampleKept n) (u := s.sampleUpdate n clock) eOn mOn corrected room'
  obtain ⟨e, m, lane⟩ := State.censusApply_entries (s := s.sampleKept n) (u := s.sampleUpdate n clock) eOn mOn corrected
    room' (censusContext_lt _ _) lo hi
  have ends := ((counted.mono (show [Part.pantry] ⊆ [.counters, .mem, .pantry] by decide)).trans parts)
  rw [s.sampleKept_lane n] at lane
  refine ⟨_, (execCensusSample_kept samples due kept).trans ((if_neg (ne_true_of_eq_false still)).trans
    (ends.done_eq (by decide) hd)), e.trans (congrArg (· + 1) (entry _)), ?_, congrArg PantryLane.samples lane,
    congrArg PantryLane.lfsr lane, ends.regsBut (by decide) []⟩
  rw [← mean]
  exact m

/-- A sample that is kept while a page is rebuilt waits in the queue (log 133). -/
theorem execCensusSample_queues {clock : List CensusSymbol} (hd : s.noneDue) (samples : s.sampling n = true)
    (due : s.sampleDue n = true) (kept : s.censusExcluded n clock (s.samplePlace n) = false)
    (rebuilding : s.laneRebuilding n = true) : execCensusSample n clock s = .next ((s.sampleKept n).modPantry n fun l =>
      { l with queue := l.queue ++ [s.sampleUpdate n clock] }) := by
  have queued : Evolves [.pantry] s ((s.sampleKept n).modPantry n fun l =>
      { l with queue := l.queue ++ [s.sampleUpdate n clock] }) :=
    State.modPantry_evolves (s.sampleKept_parts n) (List.Subset.refl _)
  rw [execCensusSample_kept samples due kept, if_pos rebuilding]
  exact queued.done_eq (by decide) hd

theorem execCensusSample_excludes {clock : List CensusSymbol} (hd : s.noneDue) (samples : s.sampling n = true)
    (due : s.sampleDue n = true) (out : s.censusExcluded n clock (s.samplePlace n) = true) :
    execCensusSample n clock s = .next ((s.sampled n).bump pantryBase (pl n PL_EXCL_X)) := by
  have counted : Evolves [.pantry, .pantryRegs] s ((s.sampled n).bump pantryBase (pl n PL_EXCL_X)) :=
    State.bump_evolves (State.modPantry_evolves (.refl _ s) (by decide)) (regPart_pantry (Field.ix_lt _ _) (by decide))
  rw [execCensusSample_excluded samples due out]
  exact counted.done_eq (by decide) hd

/-- The install of a canceller table that is due, without a host request. -/
theorem execCancellerInstall_starts (hd : s.noneDue) (task : s.taskRuns 14 (taskInstall n) = true)
    (ready : s.nlcReady n = true) (back : s.pantry.lanes[n].swapDue = false) (due : s.pantry.lanes[n].installDue = true)
    (first : s.pantry.lanes[n].step = none) (auto : s.flag pantryBase PANTRY_CTRL_AUTO_NLC = true)
    (inUse : s.nlcInUse n = true) (pd : s.pantry.lanes[n].pdDue = none) : ∃ t : State,
    execCancellerInstall n false s = .next t ∧ t.flag (lineBase n) NLC_STATUS_FADING = true ∧
    t.pantry.lanes[n].installDue = false ∧ t.pantry.lanes[n].installing = some false ∧
    t.pantry.lanes[n].swapBusy = false ∧ ∀ i : Fin 1024, i.val < s.pantry.lanes[n].table.length →
      t.fld (lineBase n) ((s.idleBank n nlcRegs).ix i.val) = intBits 10 (s.pantry.lanes[n].table.getD i.val 0) := by
  have starts := State.nlcInstall_starts ready back due first auto inUse
  obtain ⟨step, lane⟩ := ((Staged.refl n s).nlcStage ready).1.lane
  have noted : ((s.nlcStage n).swapNoted n false).pantry.lanes[n] = _ := State.modPantry_same _ n _
  have fades := ((s.nlcStage n).swapNoted n false).nlcFadeBegin_parts n
  have ends : (s.nlcInstall n false).pantry.lanes[n] = _ :=
    (congrArg (fun t : State => t.pantry.lanes[n]) starts).trans (State.modPantry_same _ n _)
  rw [fades.only .pantry (by decide), noted, lane] at ends
  refine ⟨s.nlcInstall n false, ?_, ?_, ?_, ?_, ?_, fun i hi => ?_⟩
  · rw [execCancellerInstall_task hd task, State.pdInstall_none (by rw [ends]; exact pd)]
  · rw [starts, State.flag, State.modPantry_fld, ← State.flag]
    exact State.fadeBegin_fading _ n
  · rw [ends]
    rfl
  · rw [ends]
  · rw [ends]
  · rw [starts, State.modPantry_fld, State.fadeBegin_fld _ n (State.idleBank_apart _ nlcRegs_tables i.isLt (by decide)),
      State.swapNoted, State.modPantry_fld, State.nlcStage_entry ready hi i.isLt]

/-- The same with a host request in the cycle (R183). -/
theorem execCancellerInstall_beaten (hd : s.noneDue) (task : s.taskRuns 14 (taskInstall n) = true)
    (ready : s.nlcReady n = true) (back : s.pantry.lanes[n].swapDue = false) (due : s.pantry.lanes[n].installDue = true)
    (auto : s.flag pantryBase PANTRY_CTRL_AUTO_NLC = true) (inUse : s.nlcInUse n = true)
    (pd : s.pantry.lanes[n].pdDue = none) : ∃ t : State,
    execCancellerInstall n true s = .next t ∧ t.flag (lineBase n) NLC_STATUS_FADING = true ∧
    t.pantry.lanes[n].installDue = true ∧ t.pantry.lanes[n].installing = s.pantry.lanes[n].installing ∧
    t.pantry.lanes[n].swapBusy = true ∧ t.fld (lineBase n) NLC_STATUS_BUSY_COUNT =
      satNat NLC_STATUS_BUSY_COUNT.width (s.fld (lineBase n) NLC_STATUS_BUSY_COUNT + 1) := by
  obtain ⟨u, ⟨-, words, step, lane⟩, beaten⟩ := State.nlcInstall_beaten ready back due auto inUse
  have counted : Evolves [.line, .lineRegs] u ((u.fadeBegin n nlcRegs).bump (lineBase n) nlcRegs.busy) :=
    State.bump_evolves (u.nlcFadeBegin_parts n) (regPart_line (by decide) (by decide))
  have ends : (s.nlcInstall n true).pantry.lanes[n] = _ :=
    (congrArg (fun t : State => t.pantry.lanes[n]) beaten).trans (State.modPantry_same _ n _)
  rw [counted.only .pantry (by decide), lane] at ends
  refine ⟨s.nlcInstall n true, ?_, ?_, ?_, ?_, ?_, ?_⟩
  · rw [execCancellerInstall_task hd task, State.pdInstall_none (by rw [ends]; exact pd)]
  · rw [beaten, State.flag, State.modPantry_fld, State.fld_bump_apart _ _ (by decide), ← State.flag]
    exact u.fadeBegin_fading n
  · rw [ends]
    exact due
  · rw [ends]
  · rw [ends]
  · have before : (u.fadeBegin n nlcRegs).fld (lineBase n) nlcRegs.busy = s.fld (lineBase n) nlcRegs.busy :=
      (u.fadeBegin_fld n (by decide)).trans (words.fld n _ (by decide))
    rw [beaten, State.modPantry_fld]
    exact (State.bump_same _ _ (by decide)).trans (by rw [before]; rfl)

/-- A received proposal's table is formed from the bank in force, and the banks are swapped. -/
theorem execCancellerInstall_proposal {due : PdDue} {p : List Int} (hd : s.noneDue)
    (task : s.taskRuns 14 (taskInstall n) = true) (back : s.pantry.lanes[n].swapDue = false)
    (notDue : s.pantry.lanes[n].installDue = false) (waits : s.pantry.lanes[n].pdDue = some due)
    (asks : due.proposal = some p) (first : due.step = none) (ready : s.pdReady n = true)
    (inUse : s.pdInUse n = true) : ∃ t : State, execCancellerInstall n false s = .next t ∧
    t.flag (lineBase n) PD_STATUS_FADING = true ∧ t.pantry.lanes[n].pdDue = none ∧
    t.pantry.lanes[n].pdInstalling = some due ∧ ∀ i : Fin 1024, i.val < p.length →
      t.fld (lineBase n) ((s.idleBank n pdRegs).ix i.val) = intBits 10 ((s.proposedTable n p).getD i.val 0) := by
  have idle : s.nlcInstall n false = s := by
    unfold State.nlcInstall
    dsimp only
    rw [back, notDue]
    rfl
  obtain ⟨-, -, entries⟩ := State.pdStage_stages asks ready
  have starts := State.pdInstall_starts waits asks first ready inUse
  have fades : Evolves [.line, .lineRegs] ((s.pdStage n due).pdNoted n due) (s.pdInstall n) := by
    rw [starts]
    exact State.fadeBegin_evolves (.refl _ _) pdRegs_inBlock (List.Subset.refl _)
  have noted : ((s.pdStage n due).pdNoted n due).pantry.lanes[n] = _ := State.modPantry_same _ n _
  have lane : (s.pdInstall n).pantry.lanes[n] = ((s.pdStage n due).pdNoted n due).pantry.lanes[n] := by
    rw [fades.only .pantry (by decide)]
  refine ⟨s.pdInstall n, ?_, ?_, ?_, ?_, fun i hi => ?_⟩
  · rw [execCancellerInstall_task hd task, idle]
  · rw [starts]
    exact State.pdFadeBegin_fading _ n
  · rw [lane, noted]
  · rw [lane, noted]
  · rw [starts, State.pdFadeBegin_fld _ n (State.idleBank_apart _ pdRegs_tables i.isLt (by decide)), State.pdNoted,
      State.modPantry_fld, entries i.val i.isLt hi]

/-- A comparison that worsened is counted and raised, and the swap back follows or waits (R177, log 137). -/
theorem execInstallEvaluate_reverts {j : Judge} (task : s.taskRuns 14 (taskInstall n) = true)
    (due : s.pantry.lanes[n].judge = some j) (full : j.start + j.window ≤ s.pantry.lanes[n].samples)
    (worsened : worse j.before j.after = true) (canceller : j.proposal = none) (takes : s.takes 0x4104 n.val) :
    ∃ u : State, execInstallEvaluate n s = .next u.react ∧ u.pantry.lanes[n].judge = none ∧ u.isActive 0x4104 ∧
    u.fld pantryBase (pl n PL_STATUS_NLC_REVERTS) = satNat PL_STATUS_NLC_REVERTS.width
      (s.fld pantryBase (pl n PL_STATUS_NLC_REVERTS) + 1) ∧
    (s.nlcReady n = false → u.pantry.lanes[n].swapDue = true) := by
  have noted := s.swapBackDue_parts n
  have raised : Evolves raiseParts (s.swapBackDue n) ((s.swapBackDue n).raise 0x4104 n.val) :=
    State.raise_evolves (.refl _ _) (by decide)
  have lane : ((s.swapBackDue n).raise 0x4104 n.val).pantry.lanes[n] =
      { s.pantry.lanes[n] with judge := none, swapDue := true } := by
    rw [raised.only .pantry (by decide), State.swapBackDue_lane]
  have active : ((s.swapBackDue n).raise 0x4104 n.val).isActive 0x4104 :=
    State.raise_isActive_of_takes (noted.takes (by decide) (by decide) (by decide) takes) (n.isLt.trans (by decide))
  have back : ((s.swapBackDue n).raise 0x4104 n.val).pantry.lanes[n].swapDue = true := by rw [lane]
  obtain ⟨swapped, judge⟩ := State.nlcInstall_back_keeps back
  have small : (pl n PL_STATUS_NLC_REVERTS).off < 0x10000 := Field.ix_lt _ _
  refine ⟨_, execInstallEvaluate_worse task due full worsened canceller, ?_, ?_, ?_, fun busy => ?_⟩
  · rw [judge, lane]
  · exact State.isActive_of_fuse active (swapped.only .fuse (by decide))
  · rw [swapped.pantryFld (by decide) small, raised.pantryFld (by decide) small, State.swapBackDue, State.modPantry_fld]
    exact State.bump_same _ _ (show 4 + 4 ≤ 32 by decide)
  · have words : LaneWords s ((s.swapBackDue n).raise 0x4104 n.val) :=
      (noted.laneWords (by decide) (by decide)).trans (raised.laneWords (by decide) (by decide))
    rw [State.nlcInstall_back back, words.nlcReady n, busy]
    exact back

end

/-- Settles O39: a sample is an update of an entry of each table, and an install is the write of a bank and its swap. -/
theorem censusAndDerivedTables : Obligations.CensusAndDerivedTables := by
  refine ⟨?excluded, ?counted, ?queued, ?freeze, ?clear, ?cleared, ?failed, ?derived, ?saturated, ?install, ?beaten, ?proposal,
    ?better, ?worse⟩
  case excluded =>
    intro n clock s hd samples due out
    have lane : (s.sampled n).pantry.lanes[n] = _ := State.modPantry_same s n _
    have count : (s.sampled n).pantry.lanes[n].samples = s.pantry.lanes[n].samples := by rw [lane]
    refine ⟨_, execCensusSample_excludes hd samples due out, ?_, congrArg PantryLane.lfsr lane,
      congrArg PantryLane.lastSample lane, count, rfl, ?_⟩
    · exact (State.bump_same _ _ (show 0 + 32 ≤ 32 by decide)).trans (by rw [State.sampled, State.modPantry_fld]; rfl)
    · exact RegsBut.setFld (f := pl n PL_EXCL_X) (fun _ _ => rfl) _ List.mem_cons_self
  case counted =>
    intro n clock s hd samples due kept still eOn mOn corrected room
    exact execCensusSample_counts hd samples due kept still eOn mOn corrected room
  case queued =>
    intro n clock s hd samples due kept rebuilding
    refine ⟨_, execCensusSample_queues hd samples due kept rebuilding, rfl, fun _ _ => rfl, ?_, ?_⟩
    · rw [State.modPantry_same, State.sampleKept_lane]
    · rw [State.modPantry_same, State.sampleKept_lane, List.length_append]
      rfl
  case freeze =>
    intro n on s hd
    have frozen : Evolves [.pantryRegs] s (s.pantryFreeze n on) := State.pantryFreeze_evolves (.refl _ s) (List.Subset.refl _)
    exact ⟨_, frozen.done_eq (by decide) hd, s.pantryFreeze_self n on _ (by decide), s.pantryFreeze_self n on _ (by decide),
      s.pantryFreeze_regsBut n on, frozen.only .mem (by decide)⟩
  case clear =>
    intro n s hd
    have asked : Evolves [.pantry, .pantryRegs] s (s.pantryClear n) :=
      State.pantryClear_evolves (.refl _ s) (List.Subset.refl _)
    refine ⟨_, asked.done_eq (by decide) hd, s.pantryClear_self n, (s.pantryClear_clearing n).trans ?_,
      s.pantryClear_regsBut n⟩
    cases s.pantry.clearing <;> rfl
  case cleared =>
    intro n s hd clearing on alone
    have lane := (s.clearEnded_lane n).trans (s.pantryWipe_lane n)
    have marks := s.clearEnded_marks n
    exact ⟨_, execPantryClearDone_alone hd clearing on alone, marks PL_STATUS_CLEARING (by decide),
      s.clearEnded_excluded n, marks PL_STATUS_STALE_E (by decide), marks PL_STATUS_STALE_M (by decide),
      marks PL_STATUS_E_SAT (by decide), congrArg PantryLane.samples lane, congrArg PantryLane.derived lane,
      congrArg PantryLane.judge lane, congrArg PantryLane.queue lane, rfl, s.clearEnded_byte n⟩
  case failed =>
    intro n s _ on fresh
    exact execUpdaterFail_fresh on fresh
  case derived =>
    intro n s hd served sat
    obtain ⟨t, ends, lane, regs⟩ := execCancellerDerive_stages hd served sat
    have table : t.pantry.lanes[n].table = s.derivedTable n := by rw [lane, PantryLane.derivedAt_table]
    refine ⟨t, ends, table, congrArg PantryLane.installDue lane, congrArg PantryLane.derived lane, fun formed => ?_, regs⟩
    rw [table] at formed ⊢
    rw [lane]
    exact PantryLane.derivedAt_formed _ _ _ formed
  case saturated =>
    intro n s hd served sat
    have clears : (s.turnTaken n).derive n = (s.turnTaken n).pantryClear n := if_pos sat
    refine ⟨_, execCancellerDerive_served hd served, ?_, ?_⟩
    · rw [clears]
      exact State.pantryClear_self _ n
    · rw [clears, State.pantryClear_lanes]
      rfl
  case install =>
    intro n s hd task ready back due first auto inUse pd
    exact execCancellerInstall_starts hd task ready back due first auto inUse pd
  case beaten =>
    intro n s hd task ready back due auto inUse pd
    exact execCancellerInstall_beaten hd task ready back due auto inUse pd
  case proposal =>
    intro n due p s hd task back notDue waits asks first ready inUse
    exact execCancellerInstall_proposal hd task back notDue waits asks first ready inUse
  case better =>
    intro n j s hd task due full better
    exact ⟨_, execInstallEvaluate_better hd task due full better,
      congrArg PantryLane.judge (s.modPantry_same n fun l => { l with judge := none }), fun _ _ => rfl⟩
  case worse =>
    intro n j s _ task due full worsened canceller takes
    exact execInstallEvaluate_reverts task due full worsened canceller takes

end Sys2Proof.Machine
end

section
/-! What the clauses on the host lanes (O41 to O43) rest on: how the states and taps of a lane read back behind their writes,
and what the votes of a lane leave of the state of its domains. -/

namespace Sys2Proof.Machine

open Reg

/-! ### Commands that raise nothing -/

/-- What a command changes that writes registers and the record of a host lane and votes for its domains. -/
def hostParts : List Part := [.host, .power, .powerRegs, .hostRegs]

theorem done_of_hostParts {s t : State} (hd : s.noneDue) (h : Evolves hostParts s t) : done t = .next t :=
  h.done_eq (by decide) hd

theorem RegsBut.modHost {as : List Nat} {s t : State} (h : RegsBut as s t) (m : Fin 16) (f : HostLane → HostLane) :
    RegsBut as s (t.modHost m f) := h.of_regs (by simp only [State.modHost_other])

theorem State.modHost_flag (s : State) (m : Fin 16) (f : HostLane → HostLane) (base : Nat) (g : Field) :
    (s.modHost m f).flag base g = s.flag base g := by rw [State.flag, State.modHost_fld, State.flag]

/-! ### HT_STATE and HR_STATE (Tables 8-2 and 8-3) -/

section
variable (s : State) (m : Fin 16) {g : Field}

theorem State.setHtState_htState {v : Nat} (h : v < 4) : (s.setHtState m v).htState m = v :=
  s.setFld_same _ (by decide) h

theorem State.setHtState_fld (v : Nat) (h : g.Apart HT_STATUS_HT_STATE) :
    (s.setHtState m v).fld (hostBase m) g = s.fld (hostBase m) g := s.fld_setFld_apart _ _ h

theorem State.setHtState_host (v : Nat) : (s.setHtState m v).host = s.host := by
  simp only [State.setHtState, State.setFld_other]

theorem State.setHrState_hrState {v : Nat} (h : v < 16) : (s.setHrState m v).hrState m = v := by
  rw [State.hrState, State.setHrState, State.modHost_fld]
  exact s.setFld_same _ (by decide) h

theorem State.setHrState_fld (v : Nat) (h : g.Apart HR_STATUS_HR_STATE) :
    (s.setHrState m v).fld (hostBase m) g = s.fld (hostBase m) g := by
  rw [State.setHrState, State.modHost_fld, s.fld_setFld_apart _ _ h]

theorem State.setHrState_host (v : Nat) : (s.setHrState m v).host[m] =
    { s.host[m] with highest := if v ≤ 5 ∧ s.host[m].highest < v then v else s.host[m].highest } := by
  rw [State.setHrState, State.modHost_same]
  simp only [State.setFld_other]

end

/-! ### Taps (R185) -/

section
variable (s : State) (m : Fin 16) {f g : Field}

/-- The taps in force and the targets stand in the same five registers. -/
def Field.OfTaps (f : Field) : Prop := f = HT_FIR_CUR ∨ f = HT_FIR_TARGET

theorem ofTaps_cur : HT_FIR_CUR.OfTaps := .inl rfl

theorem ofTaps_target : HT_FIR_TARGET.OfTaps := .inr rfl

theorem Field.OfTaps.fits (h : f.OfTaps) (k : Nat) : (f.ix k).lo + (f.ix k).width ≤ 32 ∧ (f.ix k).width = 8 := by
  rcases h with rfl | rfl <;> exact ⟨by simp only [Field.ix, HT_FIR_CUR, HT_FIR_TARGET]; decide, rfl⟩

theorem Field.OfTaps.ix_apart (h : f.OfTaps) : ∀ j k : Fin 5, j ≠ k → (f.ix j.val).Apart (f.ix k.val) := by
  rcases h with rfl | rfl <;> decide

theorem cur_apart_target : ∀ j k : Fin 5, (HT_FIR_CUR.ix j.val).Apart (HT_FIR_TARGET.ix k.val) := by decide

/-- A field beside the five registers. -/
theorem State.setHostTaps_fld {taps : List Int} (len : taps.length = 5) (apart : ∀ k : Fin 5, g.Apart (f.ix k.val)) :
    (s.setHostTaps m f taps).fld (hostBase m) g = s.fld (hostBase m) g := by
  refine State.each_keeps_mem (P := fun t => t.fld (hostBase m) g = s.fld (hostBase m) g) (fun e he t h => ?_) rfl
  have lt : e.2 < 5 := len ▸ (List.getElem?_eq_some_iff.1 (List.mem_zipIdx_iff_getElem?.1 he)).1
  exact (t.fld_setFld_apart _ _ (apart ⟨e.2, lt⟩)).trans h

theorem State.setHostTaps_host (taps : List Int) : (s.setHostTaps m f taps).host = s.host := by
  refine State.each_keeps (P := fun t => t.host = s.host) (fun e t h => ?_) taps.zipIdx rfl
  rw [← h]
  simp only [State.setFld_other]

theorem zipIdx_eq_of_index {α : Type} {l : List α} {x y : α × Nat} (hx : x ∈ l.zipIdx) (hy : y ∈ l.zipIdx)
    (same : y.2 = x.2) : y = x := by
  have value := (List.mem_zipIdx_iff_getElem?.1 hy).symm.trans (same ▸ List.mem_zipIdx_iff_getElem?.1 hx)
  exact Prod.ext (Option.some.inj value) same

/-- Each tap that is written reads back as its bits. -/
theorem State.setHostTaps_tap (hf : f.OfTaps) {taps : List Int} (len : taps.length = 5) (k : Fin 5) :
    (s.setHostTaps m f taps).fld (hostBase m) (f.ix k.val) = intBits 8 (taps.getD k.val 0) := by
  have lt {e : Int × Nat} (he : e ∈ taps.zipIdx) : e.2 < 5 :=
    len ▸ (List.getElem?_eq_some_iff.1 (List.mem_zipIdx_iff_getElem?.1 he)).1
  have mem : (taps.getD k.val 0, k.val) ∈ taps.zipIdx := by
    rw [List.mk_mem_zipIdx_iff_getElem?, List.getD_eq_getElem _ _ (by omega), List.getElem?_eq_getElem (by omega)]
  have written := State.each_mem (l := taps.zipIdx) (f := fun e t => t.setFld (hostBase m) (f.ix e.2) (intBits 8 e.1))
    (P := fun e t => t.fld (hostBase m) (f.ix e.2) = intBits 8 e.1) (fun e _ t => ?own) (fun e he y hy ne t h => ?others) s
    (taps.getD k.val 0, k.val) mem
  case own =>
    obtain ⟨fits, width⟩ := hf.fits e.2
    exact t.setFld_same _ fits (width ▸ intBits_lt 8 e.1)
  case others =>
    exact (t.fld_setFld_apart _ _ (hf.ix_apart ⟨y.2, lt hy⟩ ⟨e.2, lt he⟩ fun same =>
      ne (zipIdx_eq_of_index he hy (congrArg Fin.val same)))).trans h
  exact written

theorem State.hostTaps_length : (s.hostTaps m f).length = 5 := by simp [State.hostTaps]

theorem State.hostTaps_getD (k : Fin 5) : (s.hostTaps m f).getD k.val 0 = bitsInt 8 (s.fld (hostBase m) (f.ix k.val)) := by
  rw [List.getD_eq_getElem _ _ (by rw [State.hostTaps_length]; exact k.isLt)]
  simp only [State.hostTaps, List.getElem_map, List.getElem_range]

/-- Two sets of taps of the same registers agree with them. -/
theorem State.hostTaps_congr {s t : State}
    (h : ∀ k : Fin 5, t.fld (hostBase m) (f.ix k.val) = s.fld (hostBase m) (f.ix k.val)) : t.hostTaps m f = s.hostTaps m f :=
  List.map_congr_left fun k hk => by rw [h ⟨k, List.mem_range.1 hk⟩]

/-- Taps of 8 bits read back as they were written. -/
theorem State.setHostTaps_hostTaps (hf : f.OfTaps) {taps : List Int} (len : taps.length = 5)
    (range : ∀ v ∈ taps, -128 ≤ v ∧ v < 128) : (s.setHostTaps m f taps).hostTaps m f = taps := by
  refine List.ext_getElem ((State.hostTaps_length _ m).trans len.symm) fun k _ hk => ?_
  obtain ⟨lo, hi⟩ := range _ (List.getElem_mem hk)
  have written := s.setHostTaps_tap m hf len ⟨k, by omega⟩
  rw [List.getD_eq_getElem _ _ hk] at written
  simp only [State.hostTaps, List.getElem_map, List.getElem_range, written]
  exact bitsInt_intBits (by decide) lo hi

theorem tapBits_bounds (b : Nat) : -128 ≤ bitsInt 8 b ∧ bitsInt 8 b < 128 := by
  unfold bitsInt
  split <;> omega

theorem intBits_tapBits {b : Nat} (h : b < 256) : intBits 8 (bitsInt 8 b) = b := by
  unfold intBits bitsInt
  split <;> omega

theorem State.hostTaps_bounds (f : Field) : ∀ v ∈ s.hostTaps m f, -128 ≤ v ∧ v < 128 := by
  intro v hv
  obtain ⟨k, -, rfl⟩ := List.mem_map.1 hv
  exact tapBits_bounds _

/-- The presets lie within the range of a tap (Table 8-1). -/
theorem presetTaps_bounds {k : Nat} {p q r : Int} (h : presetTaps k = some (p, q, r)) :
    ∀ v ∈ [0, p, q, r, 0], -128 ≤ v ∧ v < 128 := by
  have entries : k = 1 ∨ k = 2 ∨ k = 3 ∨ k = 4 ∨ k = 5 ∨ k = 6 := by
    unfold presetTaps at h
    split at h <;> simp_all
  rcases entries with rfl | rfl | rfl | rfl | rfl | rfl <;> cases h <;> decide

end

/-! ### The votes of a lane (R351, Table 14-2) -/

section
variable {s : State} {d d' bit : Nat}

theorem State.setDom_domState_ne (ne : d ≠ d') (h : d < 72) (h' : d' < 72) (st step : Nat) :
    (s.setDom d' st step).fld powerBase (DOM_STATE.ix d) = s.fld powerBase (DOM_STATE.ix d) := by
  rw [State.setDom, State.setFld_domReg_ne ne h h' _ rfl rfl, State.setFld_domReg_ne ne h h' _ rfl rfl]

theorem State.unvoted_domState (h : d' = d → s.domOn d = false) (hd : d < 72) (hd' : d' < 72) :
    (s.unvoted d').fld powerBase (DOM_STATE.ix d) = s.fld powerBase (DOM_STATE.ix d) := by
  unfold State.unvoted
  split_ifs with on
  · have ne : d ≠ d' := fun e => by simp [e ▸ h e.symm] at on
    exact State.setDom_domState_ne (s := s.stopLinger d') ne hd hd' 2 0
  all_goals rfl

/-- A vote that is withdrawn leaves the state of the other domains alone, and that of a domain that is not on. -/
theorem State.clearVote_domState (h : d' = d → s.domOn d = false) (hd : d < 72) (hd' : d' < 72) :
    (s.clearVote d' bit).fld powerBase (DOM_STATE.ix d) = s.fld powerBase (DOM_STATE.ix d) := by
  have voted := s.setFlag_vote_domState bit hd hd' false
  have off (e : d' = d) : (s.setFlag powerBase ((voteBit bit).ix d') false).domOn d = false := by
    rw [State.domOn, voted]; exact h e
  unfold State.clearVote
  dsimp only
  split_ifs with _ on
  · have ne : d ≠ d' := fun e => by simp [e ▸ off e.symm] at on
    exact (State.setDom_domState_ne (s := State.stopLinger _ d') ne hd hd' 2 0).trans voted
  · exact (State.unvoted_domState off hd hd').trans voted
  · rfl

theorem State.putVote_domState_ne (ne : d ≠ d') (h : d < 72) (h' : d' < 72) (on : Bool) :
    (s.putVote d' bit on).fld powerBase (DOM_STATE.ix d) = s.fld powerBase (DOM_STATE.ix d) := by
  cases on
  · exact State.clearVote_domState (fun e => absurd e.symm ne) h h'
  · exact State.setVote_domState_ne ne h h'

/-- A RETAINED domain is not on behind a vote for it, set or withdrawn. -/
theorem State.putVote_retained (h : d < 72) (retained : s.fld powerBase (DOM_STATE.ix d) = 3) (on : Bool) :
    (s.putVote d bit on).domOn d = false := by
  cases on
  · have off : s.domOn d = false := by rw [State.domOn, retained]; rfl
    have stays : (s.clearVote d bit).domOn d = s.domOn d := by
      rw [State.domOn, State.clearVote_domState (fun _ => off) h h, State.domOn]
    exact stays.trans off
  · exact State.setVote_retained h retained

end

section
variable {s : State} {m : Fin 16}

/-- What the lane manager votes of the directions of a host lane: HR_EN or HT_EN without sleep, or a loop-back. -/
def State.rxVote (s : State) (m : Fin 16) : Bool :=
  s.hostUsed m && ((s.flag (hostBase m) HR_CTRL_HR_EN && !s.hrAsleep m) || s.hostLoop m != 0)

def State.htVote (s : State) (m : Fin 16) : Bool :=
  s.hostUsed m && ((s.flag (hostBase m) HT_CTRL_HT_EN && !s.htAsleep m) || s.hostLoop m != 0)

theorem State.hostVotes_eq (s : State) (m : Fin 16) : s.hostVotes m =
    ((s.putVote (domRoom (hostRoom m)) (voteHostLm m) (s.rxVote m || s.htVote m)).putVote (domHostRx m) (voteHostLm m)
      (s.rxVote m)).putVote (domHostTx m) (voteHostLm m) (s.htVote m) := rfl

theorem hostDomains_lt (m : Fin 16) : domHostRx m < 72 ∧ domHostTx m < 72 ∧ domRoom (hostRoom m) < 72 := by
  simp only [domHostRx, domHostTx, domRoom, hostRoom]; omega

theorem hostDomains_ne (m : Fin 16) : domHostRx m ≠ domHostTx m ∧ domHostRx m ≠ domRoom (hostRoom m) ∧
    domHostTx m ≠ domRoom (hostRoom m) := by
  simp only [domHostRx, domHostTx, domRoom, hostRoom]; omega

/-- The votes before its own leave the state of the transmitter's domain alone. -/
theorem State.txDomain_before (s : State) (m : Fin 16) (room rx : Bool) :
    ((s.putVote (domRoom (hostRoom m)) (voteHostLm m) room).putVote (domHostRx m) (voteHostLm m) rx).fld powerBase
      (DOM_STATE.ix (domHostTx m)) = s.fld powerBase (DOM_STATE.ix (domHostTx m)) := by
  obtain ⟨rxLt, txLt, roomLt⟩ := hostDomains_lt m
  obtain ⟨rxTx, -, txRoom⟩ := hostDomains_ne m
  rw [State.putVote_domState_ne rxTx.symm txLt rxLt, State.putVote_domState_ne txRoom txLt roomLt]

theorem State.hostVotes_txOn (on : s.domOn (domHostTx m) = true) (vote : s.htVote m = true) :
    (s.hostVotes m).domOn (domHostTx m) = true := by
  rw [State.hostVotes_eq, vote]
  refine State.setVote_domOn (hostDomains_lt m).2.1 ?_
  rw [State.domOn, s.txDomain_before]; exact on

theorem State.hostVotes_txRetained (retained : s.fld powerBase (DOM_STATE.ix (domHostTx m)) = 3) :
    (s.hostVotes m).domOn (domHostTx m) = false := by
  rw [State.hostVotes_eq]
  exact State.putVote_retained (hostDomains_lt m).2.1 ((s.txDomain_before m _ _).trans retained) _

theorem State.hostVotes_rxOn (on : s.domOn (domHostRx m) = true) (vote : s.rxVote m = true) :
    (s.hostVotes m).domOn (domHostRx m) = true := by
  obtain ⟨rxLt, txLt, roomLt⟩ := hostDomains_lt m
  obtain ⟨rxTx, rxRoom, -⟩ := hostDomains_ne m
  have voted : ((s.putVote (domRoom (hostRoom m)) (voteHostLm m) (s.rxVote m || s.htVote m)).putVote (domHostRx m)
      (voteHostLm m) true).domOn (domHostRx m) = true := by
    refine State.setVote_domOn rxLt ?_
    rw [State.domOn, State.putVote_domState_ne rxRoom rxLt roomLt]; exact on
  rw [State.hostVotes_eq, vote, State.domOn, State.putVote_domState_ne rxTx rxLt txLt]
  rwa [vote] at voted

theorem State.hostVotes_evolves_power (s : State) (m : Fin 16) : Evolves [.power, .powerRegs] s (s.hostVotes m) :=
  State.hostVotes_evolves (.refl _ s) (by decide)

end

end Sys2Proof.Machine
end

section
/-! The host transmitter (O41): taps and presets, precoding, HT_EN with its votes, squelch, the output sense, sleep and
patterns. -/

namespace Sys2Proof.Machine

open Reg

/-! ### Taps and presets (R186, R187) -/

section
variable {s : State} {m : Fin 16}

theorem exec_htFirApply (m : Fin 16) (training : Bool) (hd : s.noneDue) :
    exec (.htFirApply m training) s = .next (s.htFirApply m training) :=
  done_of_hostParts hd (State.htFirApply_evolves (.refl _ s) (by decide))

theorem State.htFirApply_taken (idle : s.trainState m ≠ 1) (valid : tapsValid (s.hostTaps m HT_FIR_TARGET) = true) :
    s.htFirApply m false = s.setHostTaps m HT_FIR_CUR (s.hostTaps m HT_FIR_TARGET) := by
  simp [State.htFirApply, idle, valid]

theorem State.htFirApply_refused {training : Bool}
    (h : s.trainState m = 1 ∨ training = true ∨ tapsValid (s.hostTaps m HT_FIR_TARGET) = false) :
    s.htFirApply m training = s.bump (hostBase m) HT_STATUS_FIR_REJECT :=
  if_pos (h.imp_right (Or.imp_right fun invalid => by rw [invalid]; decide))

/-- Each tap in force holds the bits of its target. -/
theorem State.tapsTaken_cur (s : State) (m : Fin 16) (k : Fin 5) :
    (s.setHostTaps m HT_FIR_CUR (s.hostTaps m HT_FIR_TARGET)).fld (hostBase m) (HT_FIR_CUR.ix k.val) =
      s.fld (hostBase m) (HT_FIR_TARGET.ix k.val) := by
  rw [s.setHostTaps_tap m ofTaps_cur (s.hostTaps_length m), s.hostTaps_getD]
  exact intBits_tapBits (Regs.fld_lt s.regs (f := HT_FIR_TARGET.ix k.val))

theorem exec_presetApply (m : Fin 16) (preset : BitVec 3) (firApply : Bool) (hd : s.noneDue) :
    exec (.presetApply m preset firApply) s = .next (s.htPresetApply m preset.toNat firApply) :=
  done_of_hostParts hd (State.htPresetApply_evolves (.refl _ s) (by decide))

/-- The taps of a preset, in force and as targets (Table 8-1). -/
def State.presetLoaded (s : State) (m : Fin 16) (p q r : Int) : State :=
  (s.setHostTaps m HT_FIR_CUR [0, p, q, r, 0]).setHostTaps m HT_FIR_TARGET [0, p, q, r, 0]

theorem State.presetLoaded_fld (s : State) (m : Fin 16) (p q r : Int) {g : Field}
    (cur : ∀ k : Fin 5, g.Apart (HT_FIR_CUR.ix k.val)) (target : ∀ k : Fin 5, g.Apart (HT_FIR_TARGET.ix k.val)) :
    (s.presetLoaded m p q r).fld (hostBase m) g = s.fld (hostBase m) g := by
  rw [State.presetLoaded, State.setHostTaps_fld _ m rfl target, State.setHostTaps_fld _ m rfl cur]

theorem State.presetLoaded_taps (s : State) (m : Fin 16) {k : Nat} {p q r : Int} (h : presetTaps k = some (p, q, r)) :
    (s.presetLoaded m p q r).hostTaps m HT_FIR_CUR = [0, p, q, r, 0] ∧
      (s.presetLoaded m p q r).hostTaps m HT_FIR_TARGET = [0, p, q, r, 0] := by
  have range := presetTaps_bounds h
  refine ⟨?_, State.setHostTaps_hostTaps _ m ofTaps_target rfl range⟩
  rw [State.presetLoaded, State.hostTaps_congr m fun k => State.setHostTaps_fld _ m rfl (cur_apart_target k)]
  exact s.setHostTaps_hostTaps m ofTaps_cur rfl range

/-- A preset that is loaded; a FIR_APPLY of the same cycle is counted first (Table 8-8). -/
theorem State.htPresetApply_loads {preset : BitVec 3} {p q r : Int} (firApply : Bool)
    (h : presetTaps preset.toNat = some (p, q, r)) (idle : s.trainState m ≠ 1) :
    s.htPresetApply m preset.toNat firApply = (if firApply then (s.setFld (hostBase m) HT_CTRL_PRESET preset.toNat).bump
      (hostBase m) HT_STATUS_FIR_REJECT else s.setFld (hostBase m) HT_CTRL_PRESET preset.toNat).presetLoaded m p q r := by
  have counted : (if firApply then (s.setFld (hostBase m) HT_CTRL_PRESET preset.toNat).bump (hostBase m)
      HT_STATUS_FIR_REJECT else s.setFld (hostBase m) HT_CTRL_PRESET preset.toNat).trainState m = s.trainState m := by
    have written := s.fld_setFld_apart (hostBase m) (f := HT_CTRL_PRESET) (g := TRAIN_STATUS_TRAIN_STATE) preset.toNat
      (by decide)
    cases firApply
    · exact written
    · exact (State.fld_bump_apart _ _ (by decide)).trans written
  rw [State.htPresetApply, Nat.mod_eq_of_lt preset.isLt, h]
  exact if_neg (by rwa [counted])

theorem State.htPresetApply_none {preset : BitVec 3} (h : presetTaps preset.toNat = none) :
    s.htPresetApply m preset.toNat false = s.setFld (hostBase m) HT_CTRL_PRESET preset.toNat := by
  rw [State.htPresetApply, Nat.mod_eq_of_lt preset.isLt, h]
  rfl

end

/-! ### Precoding (R189) -/

section
variable {s : State} {m : Fin 16} {on : Bool}

theorem exec_hostTxPrecodeWrite (hd : s.noneDue) (changes : s.flag (hostBase m) HT_CTRL_TX_PRECODE ≠ on) :
    exec (.hostTxPrecodeWrite m on) s =
      .next ((s.setFlag (hostBase m) HT_CTRL_TX_PRECODE on).modHost m fun h => { h with precoderP := 0 }) := by
  have precode : s.htPrecode m on = _ := if_neg changes
  exact precode ▸ done_of_hostParts hd (State.htPrecode_evolves (.refl _ s) (by decide))

theorem exec_hostRxPrecodeWrite (changes : s.flag (hostBase m) HR_CTRL_RX_PRECODE ≠ on) :
    exec (.hostRxPrecodeWrite m on) s = .next ((s.setFlag (hostBase m) HR_CTRL_RX_PRECODE on).dropCwLock m).react :=
  congrArg done (if_neg changes)

/-- A loss of codeword lock writes CW_LOCK alone in the block of the lane. -/
theorem State.dropCwLock_fld (s : State) (m : Fin 16) {g : Field} (hg : g.off < 0x10000)
    (h : g.Apart HR_KP4_STATUS_CW_LOCK) : (s.dropCwLock m).fld (hostBase m) g = s.fld (hostBase m) g := by
  rw [(s.dropCwLock_evolves_line m).hostFld (by decide) m hg, State.cwLockCleared, State.modHost_fld,
    State.fld_setFlag_apart _ _ _ h]

theorem State.dropCwLock_host (s : State) (m : Fin 16) :
    (s.dropCwLock m).host[m] = { s.host[m] with hr := { s.host[m].hr with run := 0 } } := by
  rw [(s.dropCwLock_evolves_line m).host_eq (by decide), State.cwLockCleared, State.modHost_same]
  simp only [State.setFlag_other]

end

/-! ### HT_EN (R190) -/

section
variable {ps : List Part} {s t : State} {m : Fin 16}

theorem Evolves.hostUsed (h : Evolves ps s t) (hl : .lanes ∉ ps) (m : Fin 16) : t.hostUsed m = s.hostUsed m := by
  rw [State.hostUsed, State.hostUsed, show t.lanes = s.lanes from h.only .lanes hl]

theorem regPart_domState (d : Nat) : regPart (powerBase + (DOM_STATE.ix d).off) = .powerRegs := by
  simpa using regPart_power (Field.ix_lt DOM_STATE d) (List.Subset.refl [Part.powerRegs])

theorem Evolves.domState (h : Evolves ps s t) (hp : .powerRegs ∉ ps) (d : Nat) :
    t.fld powerBase (DOM_STATE.ix d) = s.fld powerBase (DOM_STATE.ix d) := h.fld (by rwa [regPart_domState])

theorem Evolves.domOn (h : Evolves ps s t) (hp : .powerRegs ∉ ps) (d : Nat) : t.domOn d = s.domOn d := by
  rw [State.domOn, h.domState hp, State.domOn]

theorem State.htAsleep_of_awake (h : s.flag (hostBase m) HT_CTRL_HT_SLEEP = false) : s.htAsleep m = false := by
  rw [State.htAsleep, h, Bool.false_and]

/-- HT_EN, with what it leaves of a finished training (log 127). -/
def State.htEnabled (s : State) (m : Fin 16) : State :=
  (s.setFlag (hostBase m) HT_CTRL_HT_EN true).modHost m fun h =>
    { h with trained := h.trained && s.flag (hostBase m) HT_CTRL_HT_EN }

/-- HT_EN and the votes that go with it. -/
def State.htVoted (s : State) (m : Fin 16) : State := (s.htEnabled m).hostVotes m

theorem exec_htEnable (m : Fin 16) (hd : s.noneDue) : exec (.htEnable m) s = .next ((s.htVoted m).htStart m) :=
  done_of_hostParts hd (State.htEnable_evolves (.refl _ s) (by decide))

theorem State.htEnabled_evolves (s : State) (m : Fin 16) : Evolves [.host, .hostRegs] s (s.htEnabled m) :=
  State.modHost_evolves (State.setFlag_evolves (.refl _ s) (regPart_host (by decide) (by decide))) (by decide)

theorem State.htVoted_evolves (s : State) (m : Fin 16) : Evolves hostParts s (s.htVoted m) :=
  State.hostVotes_evolves ((s.htEnabled_evolves m).mono (by decide)) (by decide)

theorem State.htEnabled_flag (s : State) (m : Fin 16) : (s.htEnabled m).flag (hostBase m) HT_CTRL_HT_EN = true :=
  (State.modHost_flag _ m _ _ _).trans (s.flag_setFlag_same _ _ (by decide) rfl)

theorem State.htEnabled_fld (s : State) (m : Fin 16) {g : Field} (h : g.Apart HT_CTRL_HT_EN) :
    (s.htEnabled m).fld (hostBase m) g = s.fld (hostBase m) g :=
  (State.modHost_fld _ m _ _ _).trans (s.fld_setFlag_apart _ _ h)

theorem State.htVoted_flag (s : State) (m : Fin 16) : (s.htVoted m).flag (hostBase m) HT_CTRL_HT_EN = true :=
  ((State.hostVotes_evolves_power _ m).hostFlag (by decide) m (by decide)).trans (s.htEnabled_flag m)

theorem State.htVoted_fld (s : State) (m : Fin 16) {g : Field} (hg : g.off < 0x10000) (h : g.Apart HT_CTRL_HT_EN) :
    (s.htVoted m).fld (hostBase m) g = s.fld (hostBase m) g :=
  ((State.hostVotes_evolves_power _ m).hostFld (by decide) m hg).trans (s.htEnabled_fld m h)

theorem State.htVoted_host (s : State) (m : Fin 16) : (s.htVoted m).host[m] =
    { s.host[m] with trained := s.host[m].trained && s.flag (hostBase m) HT_CTRL_HT_EN } := by
  rw [State.htVoted, (State.hostVotes_evolves_power _ m).host_eq (by decide), State.htEnabled, State.modHost_same]
  simp only [State.setFlag_other]

/-- The transmitter's domain stays on under the votes of a lane that HT_EN wakes. -/
theorem State.htVoted_domOn (used : s.hostUsed m = true) (awake : s.flag (hostBase m) HT_CTRL_HT_SLEEP = false)
    (dom : s.domOn (domHostTx m) = true) : (s.htVoted m).domOn (domHostTx m) = true := by
  have enabled := s.htEnabled_evolves m
  have asleep : (s.htEnabled m).htAsleep m = false :=
    State.htAsleep_of_awake (by rw [State.flag, s.htEnabled_fld m (by decide), ← State.flag, awake])
  refine State.hostVotes_txOn ((enabled.domOn (by decide) _).trans dom) ?_
  rw [State.htVote, enabled.hostUsed (by decide), used, s.htEnabled_flag m, asleep]
  rfl

theorem State.htVoted_retained (retained : s.fld powerBase (DOM_STATE.ix (domHostTx m)) = 3) :
    (s.htVoted m).domOn (domHostTx m) = false :=
  State.hostVotes_txRetained (((s.htEnabled_evolves m).domState (by decide) _).trans retained)

theorem State.htStart_of_stopped
    (h : s.domOn (domHostTx m) = false ∨ s.synLocked (hostSyn m) = false ∨ s.fuse.safe = true) : s.htStart m = s := by
  rcases h with h | h | h <;> simp [State.htStart, h]

/-- A transmitter that starts from OFF reaches IDLE, without a fall in progress. -/
def State.htIdled (s : State) (m : Fin 16) : State :=
  ((s.modHost m fun h => { h with falling := false, takenDown := false }).setHtState m 1).modHost m fun h =>
    { h with precoderP := 0 }

theorem State.htStart_of_off (used : s.hostUsed m = true) (en : s.flag (hostBase m) HT_CTRL_HT_EN = true)
    (awake : s.htAsleep m = false) (dom : s.domOn (domHostTx m) = true) (syn : s.synLocked (hostSyn m) = true)
    (safe : s.fuse.safe = false) (off : s.htState m = 0) : s.htStart m = (s.htIdled m).htLeaveIdle m := by
  have still : (s.modHost m fun h => { h with falling := false, takenDown := false }).htState m = 0 :=
    (s.modHost_fld m _ _ _).trans off
  simp only [State.htStart, used, en, awake, dom, syn, safe, Bool.not_false, Bool.and_self, if_true, still]
  rfl

/-- IDLE is left for LIVE where nothing holds it and TRAIN_MODE is 0. -/
theorem State.htLeaveIdle_live (idle : s.htState m = 1) (cause : s.fld (hostBase m) HT_STATUS_SQ_CAUSE = 0)
    (en : s.flag (hostBase m) HT_CTRL_HT_EN = true) (awake : s.htAsleep m = false) (rises : s.host[m].falling = false)
    (deep : s.deepHolds (domHostTx m) = false) (mode : s.flag (hostBase m) TRAIN_CTRL_TRAIN_MODE = false) :
    s.htLeaveIdle m = s.setHtState m 3 := by
  rw [State.htLeaveIdle]
  rw [if_pos ⟨idle, cause, en, by rw [awake]; decide, by rw [rises]; decide, by rw [deep]; decide⟩, mode]
  rfl

theorem State.htIdled_fld (s : State) (m : Fin 16) {g : Field} (h : g.Apart HT_STATUS_HT_STATE) :
    (s.htIdled m).fld (hostBase m) g = s.fld (hostBase m) g := by
  rw [State.htIdled, State.modHost_fld, State.setHtState_fld _ m _ h, State.modHost_fld]

theorem State.htIdled_flag (s : State) (m : Fin 16) {g : Field} (h : g.Apart HT_STATUS_HT_STATE) :
    (s.htIdled m).flag (hostBase m) g = s.flag (hostBase m) g := by rw [State.flag, s.htIdled_fld m h, State.flag]

theorem State.htIdled_host (s : State) (m : Fin 16) : (s.htIdled m).host[m] =
    { s.host[m] with falling := false, takenDown := false, precoderP := 0 } := by
  rw [State.htIdled, State.modHost_same, State.setHtState_host, State.modHost_same]

theorem State.htIdled_htState (s : State) (m : Fin 16) : (s.htIdled m).htState m = 1 := by
  rw [State.htIdled, State.htState, State.modHost_fld]
  exact State.setHtState_htState _ m (by decide)

theorem State.htIdled_evolves (s : State) (m : Fin 16) : Evolves hostParts s (s.htIdled m) :=
  State.modHost_evolves (State.setHtState_evolves (State.modHost_evolves (.refl _ s) (by decide)) (by decide)) (by decide)

/-- A transmitter in OFF that nothing holds goes through IDLE to LIVE. -/
theorem State.htStart_live (used : s.hostUsed m = true) (en : s.flag (hostBase m) HT_CTRL_HT_EN = true)
    (awake : s.flag (hostBase m) HT_CTRL_HT_SLEEP = false) (dom : s.domOn (domHostTx m) = true)
    (syn : s.synLocked (hostSyn m) = true) (safe : s.fuse.safe = false) (deep : s.deepHolds (domHostTx m) = false)
    (off : s.htState m = 0) (cause : s.fld (hostBase m) HT_STATUS_SQ_CAUSE = 0)
    (mode : s.flag (hostBase m) TRAIN_CTRL_TRAIN_MODE = false) : s.htStart m = (s.htIdled m).setHtState m 3 := by
  rw [State.htStart_of_off used en (State.htAsleep_of_awake awake) dom syn safe off]
  refine State.htLeaveIdle_live (s.htIdled_htState m) ?_ ?_ (State.htAsleep_of_awake ?_) ?_ ?_ ?_
  · rw [s.htIdled_fld m (by decide), cause]
  · rw [s.htIdled_flag m (by decide), en]
  · rw [s.htIdled_flag m (by decide), awake]
  · rw [s.htIdled_host]
  · rw [(s.htIdled_evolves m).deepHolds (by decide) (by decide), deep]
  · rw [s.htIdled_flag m (by decide), mode]

/-- HT_EN written on a lane in OFF that may send takes it to LIVE. -/
theorem State.htVoted_live (used : s.hostUsed m = true) (awake : s.flag (hostBase m) HT_CTRL_HT_SLEEP = false)
    (dom : s.domOn (domHostTx m) = true) (syn : s.synLocked (hostSyn m) = true) (safe : s.fuse.safe = false)
    (deep : s.deepHolds (domHostTx m) = false) (off : s.htState m = 0)
    (cause : s.fld (hostBase m) HT_STATUS_SQ_CAUSE = 0) (mode : s.flag (hostBase m) TRAIN_CTRL_TRAIN_MODE = false) :
    (s.htVoted m).htStart m = ((s.htVoted m).htIdled m).setHtState m 3 := by
  have voted := s.htVoted_evolves m
  have fuse : (s.htVoted m).fuse = s.fuse := voted.only .fuse (by decide)
  have beside {g : Field} (hg : g.off < 0x10000) (h : g.Apart HT_CTRL_HT_EN) :
      (s.htVoted m).flag (hostBase m) g = s.flag (hostBase m) g := by rw [State.flag, s.htVoted_fld m hg h, State.flag]
  refine State.htStart_live ((voted.hostUsed (by decide) m).trans used) (s.htVoted_flag m) ?_
    (State.htVoted_domOn used awake dom) ((voted.synLocked (by decide) _).trans syn) (by rw [fuse]; exact safe)
    ((voted.deepHolds (by decide) (by decide) _).trans deep) ?_ ?_ ?_
  · rw [beside (by decide) (by decide), awake]
  · exact (s.htVoted_fld m (by decide) (by decide)).trans off
  · rw [s.htVoted_fld m (by decide) (by decide), cause]
  · rw [beside (by decide) (by decide), mode]

/-- What stops the transmitter leaves it in its state, with HT_EN at 1. -/
theorem State.htVoted_stopped (h : s.fld powerBase (DOM_STATE.ix (domHostTx m)) = 3 ∨ s.synLocked (hostSyn m) = false ∨
    s.fuse.safe = true) : (s.htVoted m).htStart m = s.htVoted m := by
  have voted := s.htVoted_evolves m
  have fuse : (s.htVoted m).fuse = s.fuse := voted.only .fuse (by decide)
  exact State.htStart_of_stopped (h.imp State.htVoted_retained (Or.imp ((voted.synLocked (by decide) _).trans ·)
    fun safe => by rw [fuse, safe]))

end

/-! ### The fall, and sleep (R190, R201) -/

section
variable {s : State} {m : Fin 16} {g : Field}

theorem State.trainAbandon_fld (s : State) (m : Fin 16) (h : g.Apart TRAIN_STATUS_TRAIN_STATE) :
    (s.trainAbandon m).fld (hostBase m) g = s.fld (hostBase m) g := by
  unfold State.trainAbandon
  split
  · exact s.fld_setFld_apart _ _ h
  · rfl

theorem State.trainAbandon_host (s : State) (m : Fin 16) : (s.trainAbandon m).host = s.host :=
  (State.trainAbandon_evolves (ps := [.hostRegs]) (.refl _ s) (by decide)).host_eq (by decide)

/-- A training that runs ends ABANDONED, any other stays as it is (R200). -/
theorem State.trainAbandon_trainState (s : State) (m : Fin 16) :
    (s.trainAbandon m).trainState m = if s.trainState m = 1 then 4 else s.trainState m := by
  unfold State.trainAbandon
  split
  · exact s.setFld_same _ (by decide) (by decide)
  · rfl

/-- A flag of HT_CTRL is written, the transmitter falls, and its votes follow. -/
def State.fallsWith (s : State) (m : Fin 16) (f : Field) (v : Bool) : State :=
  ((s.setFlag (hostBase m) f v).htFall m).hostVotes m

theorem State.fallsWith_shows (fits : g.lo + g.width ≤ 32) (bit : g.width = 1) (ctrl : g.off = HT_CTRL_HT_EN.off) (v : Bool)
    (on : s.htState m ≠ 0) : (s.fallsWith m g v).flag (hostBase m) g = v ∧ (s.fallsWith m g v).htState m = 1 ∧
      (s.fallsWith m g v).host[m].falling = true := by
  have apart : HT_STATUS_HT_STATE.Apart g := .inl (by rw [ctrl]; decide)
  have onNow : (s.setFlag (hostBase m) g v).htState m ≠ 0 := by rwa [State.htState, s.fld_setFlag_apart _ _ apart]
  have falls : (s.setFlag (hostBase m) g v).htFall m =
      (((s.setFlag (hostBase m) g v).trainAbandon m).setHtState m 1).modHost m fun h => { h with falling := true } :=
    if_neg onNow
  have voted := State.hostVotes_evolves_power ((s.setFlag (hostBase m) g v).htFall m) m
  rw [State.fallsWith, voted.hostFlag (by decide) m (by rw [ctrl]; decide), State.htState, voted.hostFld (by decide) m
    (by decide), voted.host_eq (by decide), falls, State.modHost_flag, State.modHost_fld, State.modHost_same]
  refine ⟨?_, State.setHtState_htState _ m (by decide), rfl⟩
  rw [State.flag, State.setHtState_fld _ m _ (.inl (by rw [ctrl]; decide)),
    State.trainAbandon_fld _ m (.inl (by rw [ctrl]; decide)), ← State.flag]
  exact s.flag_setFlag_same _ _ fits bit

/-- HT_EN written 0 outside safe state takes the transmitter down. -/
theorem exec_htDisable (hd : s.noneDue) (safe : s.fuse.safe = false) :
    exec (.htDisable m) s = .next (s.fallsWith m HT_CTRL_HT_EN false) := by
  have falls : s.htDisable m = s.fallsWith m HT_CTRL_HT_EN false := by
    rw [State.htDisable, if_neg (by simp only [State.setFlag_other, safe]; decide), State.fallsWith]
  exact falls ▸ done_of_hostParts hd (State.htDisable_evolves (.refl _ s) (by decide))

/-- In safe state the outputs stay as they are (R343). -/
theorem exec_htDisable_safe (hd : s.noneDue) (safe : s.fuse.safe = true) :
    exec (.htDisable m) s = .next ((s.setFlag (hostBase m) HT_CTRL_HT_EN false).hostVotes m) := by
  have stays : s.htDisable m = (s.setFlag (hostBase m) HT_CTRL_HT_EN false).hostVotes m := by
    rw [State.htDisable, if_pos (by simp only [State.setFlag_other, safe])]
  exact stays ▸ done_of_hostParts hd (State.htDisable_evolves (.refl _ s) (by decide))

theorem exec_htOffReached (hd : s.noneDue) (falls : s.host[m].falling = true) (st : s.htState m = 1) :
    exec (.htOffReached m) s = .next ((s.setHtState m 0).modHost m fun h => { h with falling := false }) :=
  (if_pos ⟨falls, st⟩).trans (done_of_hostParts hd
    (State.modHost_evolves (State.setHtState_evolves (.refl _ s) (by decide)) (by decide)))

theorem State.hostLoop_setFlag (s : State) (m : Fin 16) (v : Bool) :
    (s.setFlag (hostBase m) HT_CTRL_HT_SLEEP v).hostLoop m = s.hostLoop m := s.fld_setFlag_apart _ _ (by decide)

theorem exec_htSleepWrite_on (hd : s.noneDue) (loop : s.hostLoop m = 0) :
    exec (.htSleepWrite m true) s = .next (s.fallsWith m HT_CTRL_HT_SLEEP true) := by
  have falls : s.htSleep m true = s.fallsWith m HT_CTRL_HT_SLEEP true := by
    rw [State.htSleep, if_neg (by rw [State.hostLoop_setFlag, loop]; decide), if_pos rfl, State.fallsWith]
  exact falls ▸ done_of_hostParts hd (State.htSleep_evolves (.refl _ s) (by decide))

/-- Under a loop-back HT_SLEEP waits (R460). -/
theorem exec_htSleepWrite_loop (on : Bool) (hd : s.noneDue) (loop : s.hostLoop m ≠ 0) :
    exec (.htSleepWrite m on) s = .next (s.setFlag (hostBase m) HT_CTRL_HT_SLEEP on) := by
  have waits : s.htSleep m on = s.setFlag (hostBase m) HT_CTRL_HT_SLEEP on := if_pos (by rwa [State.hostLoop_setFlag])
  exact waits ▸ done_of_hostParts hd (State.htSleep_evolves (.refl _ s) (by decide))

end

/-! ### Squelch, output sense and patterns (R190, R204, R209) -/

section
variable {s : State} {m : Fin 16}

theorem exec_htSquelchWrite (m : Fin 16) (on : Bool) (hd : s.noneDue) :
    exec (.htSquelchWrite m on) s = .next (s.htSquelch m on) :=
  done_of_hostParts hd (State.htSquelch_evolves (.refl _ s) (by decide))

/-- HT_SQUELCH with the squelch causes that it leaves. -/
def State.causeWritten (s : State) (m : Fin 16) (on : Bool) (causes : Nat) : State :=
  (s.setFlag (hostBase m) HT_CTRL_HT_SQUELCH on).setFld (hostBase m) HT_STATUS_SQ_CAUSE causes

theorem State.causeWritten_fld (s : State) (m : Fin 16) (on : Bool) (causes : Nat) {g : Field}
    (ctrl : g.Apart HT_CTRL_HT_SQUELCH) (status : g.Apart HT_STATUS_SQ_CAUSE) :
    (s.causeWritten m on causes).fld (hostBase m) g = s.fld (hostBase m) g :=
  (State.fld_setFld_apart _ _ _ status).trans (s.fld_setFlag_apart _ _ ctrl)

theorem State.causeWritten_squelch (s : State) (m : Fin 16) (on : Bool) (causes : Nat) :
    (s.causeWritten m on causes).flag (hostBase m) HT_CTRL_HT_SQUELCH = on :=
  (State.flag_setFld_apart _ _ _ (by decide)).trans (s.flag_setFlag_same _ _ (by decide) rfl)

theorem State.causeWritten_evolves (s : State) (m : Fin 16) (on : Bool) (causes : Nat) :
    Evolves [.hostRegs] s (s.causeWritten m on causes) :=
  State.setFld_evolves (State.setFlag_evolves (.refl _ s) (regPart_host (by decide) (by decide)))
    (regPart_host (by decide) (by decide))

/-- HT_SQUELCH takes a transmitter that sends to IDLE (R190). -/
theorem State.htSquelch_on (st : s.htState m = 2 ∨ s.htState m = 3) : s.htSquelch m true =
    ((s.causeWritten m true (s.fld (hostBase m) HT_STATUS_SQ_CAUSE ||| 1)).trainAbandon m).setHtState m 1 := by
  have sends : (s.causeWritten m true (s.fld (hostBase m) HT_STATUS_SQ_CAUSE ||| 1)).htState m = s.htState m :=
    s.causeWritten_fld m true _ (by decide) (by decide)
  have caused : s.fld (hostBase m) HT_STATUS_SQ_CAUSE ||| 1 ≠ 0 := fun e => by simpa using Nat.or_eq_zero_iff.1 e
  rw [State.htSquelch, State.setHostCause, s.fld_setFlag_apart _ _ (by decide)]
  exact if_pos ⟨caused, by rwa [← sends] at st⟩

/-- The last squelch cause goes: IDLE may be left. -/
theorem State.htSquelch_off (cause : s.fld (hostBase m) HT_STATUS_SQ_CAUSE = 1) :
    s.htSquelch m false = (s.causeWritten m false 0).htLeaveIdle m := by
  rw [State.htSquelch, State.setHostCause, s.fld_setFlag_apart _ _ (by decide), cause]
  rfl

theorem State.htSquelch_live (cause : s.fld (hostBase m) HT_STATUS_SQ_CAUSE = 1) (st : s.htState m = 1)
    (en : s.flag (hostBase m) HT_CTRL_HT_EN = true) (awake : s.htAsleep m = false) (rises : s.host[m].falling = false)
    (deep : s.deepHolds (domHostTx m) = false) (mode : s.flag (hostBase m) TRAIN_CTRL_TRAIN_MODE = false) :
    s.htSquelch m false = (s.causeWritten m false 0).setHtState m 3 := by
  have written := s.causeWritten_evolves m false 0
  have beside {g : Field} (ctrl : g.Apart HT_CTRL_HT_SQUELCH) (status : g.Apart HT_STATUS_SQ_CAUSE) :
      (s.causeWritten m false 0).flag (hostBase m) g = s.flag (hostBase m) g := by
    rw [State.flag, s.causeWritten_fld m _ _ ctrl status, State.flag]
  rw [State.htSquelch_off cause]
  refine State.htLeaveIdle_live ((s.causeWritten_fld m _ _ (by decide) (by decide)).trans st)
    (State.setFld_same _ _ (by decide) (by decide)) ((beside (by decide) (by decide)).trans en) ?_ ?_
    ((written.deepHolds (by decide) (by decide) _).trans deep) ((beside (by decide) (by decide)).trans mode)
  · rwa [State.htAsleep, beside (by decide) (by decide), State.hostLoop, s.causeWritten_fld m _ _ (by decide) (by decide)]
  · rwa [written.host_eq (by decide)]

theorem exec_txOutput {percent : Rat} (st : s.htState m = 3) (out : percent < 75 ∨ 125 < percent) :
    exec (.txOutput m percent) s = .next (s.raiseOpen (hostSrc m 0x45)).react := if_pos ⟨st, out⟩

theorem exec_txOutput_within {percent : Rat} (lo : 75 ≤ percent) (hi : percent ≤ 125) :
    exec (.txOutput m percent) s = .next s := if_neg fun ⟨_, out⟩ => out.elim lo.not_gt hi.not_gt

/-- A pattern that starts, changes or was none unsettles nothing. -/
theorem exec_hostPatSelWrite {sel : BitVec 3} (hd : s.noneDue)
    (stays : patSel (s.fld (hostBase m) HT_PAT_HPAT_SEL) = 0 ∨ patSel sel.toNat ≠ 0) :
    exec (.hostPatSelWrite m sel) s = .next (s.setFld (hostBase m) HT_PAT_HPAT_SEL sel.toNat) := by
  have written : s.hostPatSel m sel.toNat = s.setFld (hostBase m) HT_PAT_HPAT_SEL sel.toNat := by
    unfold State.hostPatSel
    dsimp only
    split
    · exact if_neg (by tauto)
    · rfl
  exact written ▸ (State.hostPatSel_evolves (ps := [.lineRegs, .hostRegs]) (.refl _ s) (by decide)).done_eq (by decide) hd

end

/-- Settles O41: each command by the state that it answers, read through the words of the lane; the start of the
transmitter by what its votes leave of its domain. -/
theorem hostTransmitter : Obligations.HostTransmitter := by
  unfold Obligations.HostTransmitter
  refine ⟨?firTaken, ?firRefused, ?preset, ?presetNone, ?presetCounted, ?txPrecode, ?rxPrecode, ?starts, ?held, ?disable,
    ?disableSafe, ?off, ?squelch, ?unsquelch, ?sense, ?within, ?sleep, ?sleepLoop, ?pattern⟩
  case firTaken =>
    rintro m _ s hd idle rfl valid
    refine ⟨_, exec_htFirApply m _ hd, ?_⟩
    rw [State.htFirApply_taken idle valid]
    exact ⟨s.tapsTaken_cur m, s.setHostTaps_fld m (s.hostTaps_length m) (by decide)⟩
  case firRefused =>
    intro m training s hd refused
    refine ⟨_, exec_htFirApply m training hd, ?_⟩
    rw [State.htFirApply_refused refused]
    exact ⟨s.bump_same _ (by decide), s.setFld_regsBut _ _ _⟩
  case preset =>
    rintro m preset _ p q r s hd h idle rfl
    refine ⟨_, exec_presetApply m preset _ hd, ?_⟩
    rw [State.htPresetApply_loads false h idle]
    obtain ⟨cur, target⟩ := (s.setFld (hostBase m) HT_CTRL_PRESET preset.toNat).presetLoaded_taps m h
    refine ⟨?_, cur, target, ?_⟩
    · exact (State.presetLoaded_fld _ m p q r (by decide) (by decide)).trans (s.setFld_same _ (by decide) preset.isLt)
    · exact (State.presetLoaded_fld _ m p q r (by decide) (by decide)).trans (s.fld_setFld_apart _ _ (by decide))
  case presetNone =>
    rintro m preset _ s hd h rfl
    refine ⟨_, exec_presetApply m preset _ hd, ?_⟩
    rw [State.htPresetApply_none h]
    exact ⟨s.setFld_same _ (by decide) preset.isLt, s.setFld_regsBut _ _ _⟩
  case presetCounted =>
    rintro m preset _ p q r s hd h idle rfl
    refine ⟨_, exec_presetApply m preset _ hd, ?_⟩
    rw [State.htPresetApply_loads true h idle]
    refine ⟨(State.presetLoaded_taps _ m h).1, ?_⟩
    rw [State.presetLoaded_fld _ m p q r (by decide) (by decide), if_pos rfl, State.bump_same _ _ (by decide),
      s.fld_setFld_apart _ _ (by decide)]
  case txPrecode =>
    intro m on s hd changes
    refine ⟨_, exec_hostTxPrecodeWrite hd changes, ?_, ?_, RegsBut.modHost (s.setFld_regsBut _ _ _) m _⟩
    · exact (State.modHost_flag _ m _ _ _).trans (s.flag_setFlag_same _ _ (by decide) rfl)
    · rw [State.modHost_same]
  case rxPrecode =>
    intro m on s _ changes
    refine ⟨_, exec_hostRxPrecodeWrite changes, ?_, State.dropCwLock_unlocks _ m, ?_⟩
    · rw [State.flag, State.dropCwLock_fld _ m (by decide) (by decide), ← State.flag]
      exact s.flag_setFlag_same _ _ (by decide) rfl
    · rw [State.dropCwLock_host]
  case starts =>
    intro m s hd used _ awake dom syn safe deep off cause mode
    refine ⟨_, exec_htEnable m hd, ?_⟩
    rw [State.htVoted_live used awake dom syn safe deep off cause mode, State.setHtState_host, State.htIdled_host,
      State.htVoted_host]
    refine ⟨?_, State.setHtState_htState _ m (by decide), rfl, rfl, rfl⟩
    rw [State.flag, State.setHtState_fld _ m _ (by decide), State.htIdled_fld _ m (by decide), ← State.flag]
    exact s.htVoted_flag m
  case held =>
    intro m s hd stopped
    refine ⟨_, exec_htEnable m hd, ?_⟩
    rw [State.htVoted_stopped stopped, State.htVoted_host]
    exact ⟨s.htVoted_flag m, s.htVoted_fld m (by decide) (by decide), rfl⟩
  case disable =>
    exact fun m s hd safe on => ⟨_, exec_htDisable hd safe, State.fallsWith_shows (by decide) rfl rfl false on⟩
  case disableSafe =>
    intro m s hd safe
    have voted := State.hostVotes_evolves_power (s.setFlag (hostBase m) HT_CTRL_HT_EN false) m
    refine ⟨_, exec_htDisable_safe hd safe, ?_, ?_, ?_⟩
    · exact (voted.hostFlag (by decide) m (by decide)).trans (s.flag_setFlag_same _ _ (by decide) rfl)
    · exact (voted.hostFld (by decide) m (by decide)).trans (s.fld_setFlag_apart _ _ (by decide))
    · rw [voted.host_eq (by decide)]
      simp only [State.setFlag_other]
  case off =>
    intro m s hd falls st
    refine ⟨_, exec_htOffReached hd falls st, ?_, ?_, RegsBut.modHost (s.setFld_regsBut _ _ _) m _⟩
    · exact (State.modHost_fld _ m _ _ _).trans (s.setHtState_htState m (by decide))
    · rw [State.modHost_same]
  case squelch =>
    rintro m _ s hd rfl sends
    refine ⟨_, exec_htSquelchWrite m true hd, ?_⟩
    rw [State.htSquelch_on sends]
    refine ⟨?_, State.setHtState_htState _ m (by decide), ?_⟩
    · rw [State.flag, State.setHtState_fld _ m _ (by decide), State.trainAbandon_fld _ m (by decide), ← State.flag]
      exact s.causeWritten_squelch m _ _
    · rw [State.trainState, State.setHtState_fld _ m _ (by decide), ← State.trainState, State.trainAbandon_trainState,
        State.trainState, s.causeWritten_fld m _ _ (by decide) (by decide), ← State.trainState]
  case unsquelch =>
    rintro m _ s hd rfl cause st en awake rises deep mode
    refine ⟨_, exec_htSquelchWrite m false hd, ?_⟩
    rw [State.htSquelch_live cause st en awake rises deep mode]
    refine ⟨?_, ?_, State.setHtState_htState _ m (by decide)⟩
    · rw [State.flag, State.setHtState_fld _ m _ (by decide), ← State.flag]
      exact s.causeWritten_squelch m _ _
    · rw [State.setHtState_fld _ m _ (by decide)]
      exact State.setFld_same _ _ (by decide) (by decide)
  case sense => exact fun m percent s _ st out => ⟨_, exec_txOutput st out, rfl, State.raiseOpen_isActive⟩
  case within => exact fun m percent s _ lo hi => exec_txOutput_within lo hi
  case sleep =>
    rintro m _ s hd rfl loop on
    exact ⟨_, exec_htSleepWrite_on hd loop, State.fallsWith_shows (g := HT_CTRL_HT_SLEEP) (by decide) rfl rfl true on⟩
  case sleepLoop =>
    exact fun m on s hd loop => ⟨_, exec_htSleepWrite_loop on hd loop, s.flag_setFlag_same _ _ (by decide) rfl,
      s.setFld_regsBut _ _ _⟩
  case pattern =>
    exact fun m sel s hd stays => ⟨_, exec_hostPatSelWrite hd stays, s.setFld_same _ (by decide) sel.isLt,
      s.setFld_regsBut _ _ _⟩

end Sys2Proof.Machine
end

section
/-! A host receiver loses its lock (O42, O43).  The loss goes through operations of the line lane, the group and the codeword
lock: the words and the record of the host lane itself are those of three writes, which this part says once (R197). -/

namespace Sys2Proof.Machine

open Reg

/-! ### Parts that agree on a host lane -/

/-- The registers of a host lane and the records of the host lanes are the same. -/
structure HostSame (m : Fin 16) (s t : State) : Prop where
  reg : ∀ off < 0x10000, t.reg (hostBase m + off) = s.reg (hostBase m + off)
  host : t.host = s.host

section
variable {s t u : State} {m : Fin 16} {f g : Field}

theorem HostSame.trans (h : HostSame m s t) (k : HostSame m t u) : HostSame m s u :=
  ⟨fun off lt => (k.reg off lt).trans (h.reg off lt), k.host.trans h.host⟩

theorem Evolves.hostSame {ps : List Part} (h : Evolves ps s t) (hh : .host ∉ ps) (hr : .hostRegs ∉ ps) : HostSame m s t :=
  ⟨fun _ lt => h.reg (by rwa [regPart_hostBase m lt]), h.host_eq hh⟩

theorem HostSame.fld (h : HostSame m s t) (lt : g.off < 0x10000) : t.fld (hostBase m) g = s.fld (hostBase m) g := by
  rw [State.fld, State.fld, h.reg _ lt]

theorem HostSame.flag (h : HostSame m s t) (lt : g.off < 0x10000) : t.flag (hostBase m) g = s.flag (hostBase m) g := by
  rw [State.flag, State.flag, h.fld lt]

/-- The same write of a field of the lane on both. -/
theorem HostSame.setFld (h : HostSame m s t) (lt : f.off < 0x10000) (v : Nat) :
    HostSame m (s.setFld (hostBase m) f v) (t.setFld (hostBase m) f v) := by
  refine ⟨fun off hoff => ?_, ?_⟩
  · by_cases same : off = f.off
    · subst same
      have word := h.reg _ lt
      simp only [State.reg_eq] at word
      simp only [State.reg_eq, State.setFld_regs, Regs.setFld, Regs.reg_set_same, word]
    · simp only [State.reg_eq, State.setFld_regs]
      rw [Regs.reg_setFld_ne _ (by omega), Regs.reg_setFld_ne _ (by omega)]
      exact h.reg off hoff
  · simp only [State.setFld_other, h.host]

theorem HostSame.modHost (h : HostSame m s t) (f : HostLane → HostLane) : HostSame m (s.modHost m f) (t.modHost m f) := by
  refine ⟨fun off hoff => ?_, by rw [State.modHost, State.modHost, h.host]⟩
  simp only [State.reg_eq, State.modHost_other]
  exact h.reg off hoff

theorem HostSame.trainAbandon (h : HostSame m s t) : HostSame m (s.trainAbandon m) (t.trainAbandon m) := by
  have train : t.trainState m = s.trainState m := h.fld (by decide)
  unfold State.trainAbandon
  rw [train]
  split
  · exact h.setFld (by decide) 4
  · exact h

theorem HostSame.dropCwLock (h : HostSame m s t) : HostSame m (s.cwLockCleared m) (t.dropCwLock m) := by
  have cleared : HostSame m (s.cwLockCleared m) (t.cwLockCleared m) := (h.setFld (by decide) 0).modHost _
  exact cleared.trans ((t.dropCwLock_evolves_line m).hostSame (by decide) (by decide))

end

/-! ### The loss of lock -/

section
variable {s : State} {m : Fin 16} {g : Field}

/-- LOCKED and the SNR go, and the lane keeps the tick for a re-lock (R197, R202). -/
def State.lockCleared (s : State) (m : Fin 16) : State :=
  let t := (s.setFlag (hostBase m) HR_STATUS_LOCKED false).setReg (hostBase m + HR_QUAL_SNR.off) 0
  t.modHost m fun h => { h with errRun := 0, retained := some t.tick }

/-- The streams of the lane are no longer judged (R28). -/
def State.streamsEnd (s : State) (m : Fin 16) : State :=
  match s.lineOf m with
  | some n => s.followEnd n (some m)
  | none => s

/-- What a host lane that leaves LOCKED shows of itself. -/
def State.lockLost (s : State) (m : Fin 16) : State := ((s.lockCleared m).trainAbandon m).cwLockCleared m

theorem State.hostLoseLock_of_locked (locked : s.hostLocked m = true) : s.hostLoseLock m =
    ((((((s.lockCleared m).streamsEnd m).trainAbandon m).unsettleHost m).dropHostAlignment m).dropCwLock m) := by
  rw [State.hostLoseLock, if_pos locked]
  rfl

theorem State.hostLoseLock_of_unlocked (unlocked : s.hostLocked m = false) : s.hostLoseLock m = s :=
  if_neg (by rw [unlocked]; decide)

theorem State.streamsEnd_evolves (s : State) (m : Fin 16) : Evolves [.line, .fuse] s (s.streamsEnd m) := by
  unfold State.streamsEnd
  split
  · exact State.followEnd_evolves (.refl _ s) (by decide)
  · exact .refl _ s

theorem State.alignmentDropped_evolves (s : State) (m : Fin 16) :
    Evolves [.lanes, .lineRegs] s ((s.unsettleHost m).dropHostAlignment m) :=
  State.dropHostAlignment_evolves (State.unsettleHost_evolves (.refl _ s) (by decide)) (by decide)

theorem State.hostLoseLock_same (locked : s.hostLocked m = true) : HostSame m (s.lockLost m) (s.hostLoseLock m) := by
  have streams : HostSame m (s.lockCleared m) ((s.lockCleared m).streamsEnd m) :=
    (State.streamsEnd_evolves _ m).hostSame (by decide) (by decide)
  have aligned := (((s.lockCleared m).streamsEnd m).trainAbandon m).alignmentDropped_evolves m
  rw [State.hostLoseLock_of_locked locked]
  exact (streams.trainAbandon.trans (aligned.hostSame (by decide) (by decide))).dropCwLock

/-- Whether or not the lane was locked, the loss of lock changes this at most. -/
def loseParts : List Part := [.line, .host, .lanes, .fuse, .link, .counters, .attic, .systemRegs, .lineRegs, .hostRegs]

theorem State.hostLoseLock_parts (s : State) (m : Fin 16) : Evolves loseParts s (s.hostLoseLock m) :=
  State.hostLoseLock_evolves (.refl _ s) (by decide)

theorem State.lockCleared_fld (s : State) (m : Fin 16) (snr : g.off ≠ HR_QUAL_SNR.off) :
    (s.lockCleared m).fld (hostBase m) g = (s.setFlag (hostBase m) HR_STATUS_LOCKED false).fld (hostBase m) g := by
  rw [State.lockCleared, State.modHost_fld, State.fld, State.reg_eq, State.setReg_regs, Regs.reg_set_ne _ _ (by omega)]
  rfl

theorem State.lockLost_fld (s : State) (m : Fin 16) (train : g.Apart TRAIN_STATUS_TRAIN_STATE)
    (cwLock : g.Apart HR_KP4_STATUS_CW_LOCK) : (s.lockLost m).fld (hostBase m) g = (s.lockCleared m).fld (hostBase m) g := by
  rw [State.lockLost, State.cwLockCleared, State.modHost_fld, State.fld_setFlag_apart _ _ _ cwLock,
    State.trainAbandon_fld _ m train]

theorem State.hostLoseLock_locked (s : State) (m : Fin 16) : (s.hostLoseLock m).hostLocked m = false := by
  by_cases locked : s.hostLocked m = true
  · rw [State.hostLocked, (State.hostLoseLock_same locked).flag (by decide), State.flag, State.lockLost_fld _ m (by decide)
      (by decide), State.lockCleared_fld _ m (by decide), ← State.flag]
    exact s.flag_setFlag_same _ _ (by decide) rfl
  · rw [State.hostLoseLock_of_unlocked (by simpa using locked)]
    simpa using locked

/-- A field of the lane that a loss of lock does not write. -/
@[reducible] def Field.OutlastsLock (g : Field) : Prop :=
  g.off < 0x10000 ∧ g.off ≠ HR_QUAL_SNR.off ∧ g.Apart HR_STATUS_LOCKED ∧ g.Apart TRAIN_STATUS_TRAIN_STATE ∧ g.Apart HR_KP4_STATUS_CW_LOCK

theorem State.hostLoseLock_fld (s : State) (m : Fin 16) (h : g.OutlastsLock) :
    (s.hostLoseLock m).fld (hostBase m) g = s.fld (hostBase m) g := by
  obtain ⟨lt, snr, lock, train, cwLock⟩ := h
  by_cases locked : s.hostLocked m = true
  · rw [(State.hostLoseLock_same locked).fld lt, State.lockLost_fld _ m train cwLock, State.lockCleared_fld _ m snr,
      s.fld_setFlag_apart _ _ lock]
  · rw [State.hostLoseLock_of_unlocked (by simpa using locked)]

theorem State.hostLoseLock_flag (s : State) (m : Fin 16) (h : g.OutlastsLock) :
    (s.hostLoseLock m).flag (hostBase m) g = s.flag (hostBase m) g := by rw [State.flag, s.hostLoseLock_fld m h, State.flag]

/-- The record of a lane that has left LOCKED. -/
def HostLane.lockLost (h : HostLane) (tick : Nat) : HostLane :=
  { h with errRun := 0, retained := some tick, hr := { h.hr with run := 0 } }

theorem State.hostLoseLock_host (s : State) (m : Fin 16) :
    (s.hostLoseLock m).host[m] = if s.hostLocked m then s.host[m].lockLost s.tick else s.host[m] := by
  by_cases locked : s.hostLocked m = true
  · rw [if_pos locked, (State.hostLoseLock_same locked).host, State.lockLost, State.cwLockCleared, State.modHost_same]
    simp only [State.setFlag_other, State.trainAbandon_host]
    rw [State.lockCleared, State.modHost_same]
    simp only [State.setReg_other, State.setFlag_other]
    rfl
  · rw [if_neg locked, State.hostLoseLock_of_unlocked (by simpa using locked)]

/-- A training that is over, or was none, stays as it is through the loss of lock. -/
theorem State.hostLoseLock_trainState (idle : s.trainState m ≠ 1) : (s.hostLoseLock m).trainState m = s.trainState m := by
  by_cases locked : s.hostLocked m = true
  · have cleared : (s.lockCleared m).trainState m = s.trainState m :=
      (s.lockCleared_fld m (by decide)).trans (s.fld_setFlag_apart _ _ (by decide))
    rw [State.trainState, (State.hostLoseLock_same locked).fld (by decide), State.lockLost, State.cwLockCleared,
      State.modHost_fld, State.fld_setFlag_apart _ _ _ (by decide), ← State.trainState, State.trainAbandon_trainState,
      if_neg (by rwa [cleared]), cleared]
  · rw [State.hostLoseLock_of_unlocked (by simpa using locked)]

/-- The end of the streams can quiet FOLLOW_RANGE of a line lane and nothing else (R28). -/
theorem State.streamsEnd_active {src : Nat} (other : ∀ n, src ≠ lineSrc n 0x22) (h : s.isActive src) (m : Fin 16) :
    (s.streamsEnd m).isActive src := by
  unfold State.streamsEnd State.followEnd
  split
  next n _ =>
    dsimp only
    split_ifs
    · exact State.quiet_active (s.modLinkOf n _) (other n) h
    all_goals exact h
  · exact h

theorem State.hostLoseLock_active {src : Nat} (other : ∀ n, src ≠ lineSrc n 0x22) (h : s.isActive src) (m : Fin 16) :
    (s.hostLoseLock m).isActive src := by
  by_cases locked : s.hostLocked m = true
  · have cleared : (s.lockCleared m).isActive src := State.isActive_of_fuse h (by
      simp only [State.lockCleared, State.modHost_other, State.setReg_other, State.setFlag_other])
    have streams := State.streamsEnd_active other cleared m
    have abandoned : Evolves [.hostRegs] _ (((s.lockCleared m).streamsEnd m).trainAbandon m) :=
      State.trainAbandon_evolves (.refl _ _) (by decide)
    have aligned := (((s.lockCleared m).streamsEnd m).trainAbandon m).alignmentDropped_evolves m
    rw [State.hostLoseLock_of_locked locked]
    exact State.dropCwLock_keeps (State.isActive_of_fuse streams
      ((aligned.only .fuse (by decide)).trans (abandoned.only .fuse (by decide)))) m
  · rwa [State.hostLoseLock_of_unlocked (by simpa using locked)]

theorem hostSrc_ne_lineSrc (m : Fin 16) (i : Nat) (n : Fin 8) : hostSrc m i ≠ lineSrc n 0x22 := by
  unfold hostSrc lineSrc
  omega

end

end Sys2Proof.Machine
end

section
/-! Link training (O43): its start, the requests of the far end with their answers, the requester's steps and its end
(R199, R200). -/

namespace Sys2Proof.Machine

open Reg

/-! ### The start (R199, R200) -/

section
variable {s : State} {m : Fin 16} {g : Field}

theorem State.trainBegin_fld (s : State) (m : Fin 16) (train : g.Apart TRAIN_STATUS_TRAIN_STATE)
    (ht : g.Apart HT_STATUS_HT_STATE) : (s.trainBegin m).fld (hostBase m) g = s.fld (hostBase m) g := by
  rw [State.trainBegin, State.setHtState_fld _ m _ ht, State.modHost_fld, s.fld_setFld_apart _ _ train]

theorem State.trainBegin_flag (s : State) (m : Fin 16) (train : g.Apart TRAIN_STATUS_TRAIN_STATE)
    (ht : g.Apart HT_STATUS_HT_STATE) : (s.trainBegin m).flag (hostBase m) g = s.flag (hostBase m) g := by
  rw [State.flag, s.trainBegin_fld m train ht, State.flag]

theorem State.trainBegin_trainState (s : State) (m : Fin 16) : (s.trainBegin m).trainState m = 1 := by
  rw [State.trainBegin, State.trainState, State.setHtState_fld _ m _ (by decide), State.modHost_fld]
  exact s.setFld_same _ (by decide) (by decide)

theorem State.trainBegin_htState (s : State) (m : Fin 16) : (s.trainBegin m).htState m = 2 :=
  State.setHtState_htState _ m (by decide)

theorem State.trainBegin_host (s : State) (m : Fin 16) : (s.trainBegin m).host[m] =
    { s.host[m] with reqAsked := false, reqTap := 0, reqJudging := false, reqKept := false, reqCount := 0,
                     reqReady := false, answer := .none } := by
  rw [State.trainBegin, State.setHtState_host, State.modHost_same]
  simp only [State.setFld_other]

/-- The lock goes and training begins. -/
def State.trainStarted (s : State) (m : Fin 16) : State := (s.hostLoseLock m).trainBegin m

/-- A receiver with a signal trains along: TRAIN, with no step of Table 8-4. -/
def State.hrTrains (s : State) (m : Fin 16) : State :=
  (s.setHrState m 2).modHost m fun h => { h with acqStep := 0 }

theorem State.trainStarted_fld (s : State) (m : Fin 16) (h : g.OutlastsLock) (ht : g.Apart HT_STATUS_HT_STATE) :
    (s.trainStarted m).fld (hostBase m) g = s.fld (hostBase m) g := by
  have ⟨_, _, _, train, _⟩ := h
  exact (State.trainBegin_fld _ m train ht).trans (s.hostLoseLock_fld m h)

theorem State.trainStarted_hrState (s : State) (m : Fin 16) : (s.trainStarted m).hrState m = s.hrState m :=
  s.trainStarted_fld m (by decide) (by decide)

theorem State.trainStarted_locked (s : State) (m : Fin 16) : (s.trainStarted m).hostLocked m = false :=
  (State.trainBegin_flag _ m (by decide) (by decide)).trans (s.hostLoseLock_locked m)

theorem State.hostTrainStart_of_may (mode : s.flag (hostBase m) TRAIN_CTRL_TRAIN_MODE = true) (on : 1 ≤ s.htState m)
    (rises : s.host[m].falling = false) (cause : s.fld (hostBase m) HT_STATUS_SQ_CAUSE = 0) : s.hostTrainStart m =
      if 2 ≤ s.hrState m ∧ s.flag (hostBase m) HR_STATUS_LOS = false then (s.trainStarted m).hrTrains m
      else s.trainStarted m := by
  have los : (s.trainStarted m).flag (hostBase m) HR_STATUS_LOS = s.flag (hostBase m) HR_STATUS_LOS := by
    rw [State.flag, s.trainStarted_fld m (by decide) (by decide), State.flag]
  have follows : s.hostTrainStart m =
      if 2 ≤ (s.trainStarted m).hrState m ∧ ¬(s.trainStarted m).flag (hostBase m) HR_STATUS_LOS = true then
        (s.trainStarted m).hrTrains m else s.trainStarted m := if_pos ⟨mode, on, by rw [rises]; decide, cause⟩
  rw [follows, los, State.trainStarted_hrState]
  simp only [Bool.not_eq_true]

theorem State.hrTrains_fld (s : State) (m : Fin 16) (h : g.Apart HR_STATUS_HR_STATE) :
    (s.hrTrains m).fld (hostBase m) g = s.fld (hostBase m) g := by
  rw [State.hrTrains, State.modHost_fld, State.setHrState_fld _ m _ h]

theorem State.hrTrains_hrState (s : State) (m : Fin 16) : (s.hrTrains m).hrState m = 2 := by
  rw [State.hrState, State.hrTrains, State.modHost_fld]
  exact s.setHrState_hrState m (by decide)

end

/-! ### Requests of the far end (R199) -/

section
variable {s : State} {m : Fin 16} {g : Field}

/-- The range of a training tap lies within the 8 bits of a tap. -/
theorem tapLimits_bounds {tap lo hi : Int} (h : tapLimits tap = some (lo, hi)) : -128 ≤ lo ∧ hi < 128 := by
  unfold tapLimits at h
  split_ifs at h <;> cases h <;> decide

/-- A request leaves the taps, sets one of them within its 8 bits, or loads a preset. -/
theorem answerRequest_taps (taps : List Int) (req : TrainRequest) : (answerRequest taps req).2 = taps ∨
    (∃ k v, (answerRequest taps req).2 = taps.set k v ∧ -128 ≤ v ∧ v < 128) ∨
    ∃ k p q r, presetTaps k = some (p, q, r) ∧ (answerRequest taps req).2 = [0, p, q, r, 0] := by
  cases req with
  | step tap up =>
    dsimp only [answerRequest]
    split
    · exact .inl rfl
    next lo hi limits =>
      generalize taps.getD (tap + 2).toNat 0 + (if up = true then 1 else -1) = v
      obtain ⟨least, most⟩ := tapLimits_bounds limits
      split
      next taken => exact .inr (.inl ⟨_, v, rfl, least.trans taken.1, taken.2.1.trans_lt most⟩)
      · exact .inl rfl
  | preset k =>
    dsimp only [answerRequest]
    split
    · exact .inl rfl
    next p q r entry => exact .inr (.inr ⟨k, p, q, r, entry, rfl⟩)
  | precoding on => exact .inl rfl

theorem answerRequest_length {taps : List Int} (h : taps.length = 5) (req : TrainRequest) :
    (answerRequest taps req).2.length = 5 := by
  obtain e | ⟨k, v, e, -⟩ | ⟨k, p, q, r, -, e⟩ := answerRequest_taps taps req
  · rw [e, h]
  · rw [e, List.length_set, h]
  · rw [e]; rfl

theorem answerRequest_bounds {taps : List Int} (h : ∀ v ∈ taps, -128 ≤ v ∧ v < 128) (req : TrainRequest) :
    ∀ v ∈ (answerRequest taps req).2, -128 ≤ v ∧ v < 128 := by
  obtain e | ⟨k, w, e, least, most⟩ | ⟨k, p, q, r, entry, e⟩ := answerRequest_taps taps req
  · rwa [e]
  · rw [e]
    exact fun v hv => (List.mem_or_eq_of_mem_set hv).elim (h v) fun same => same ▸ ⟨least, most⟩
  · exact e ▸ presetTaps_bounds entry

theorem answerRequest_preset {taps : List Int} {k : Nat} {p q r : Int} (h : presetTaps k = some (p, q, r)) :
    answerRequest taps (.preset k) = (.updated, [0, p, q, r, 0]) := by rw [answerRequest, h]

theorem answerRequest_presetNone {taps : List Int} {k : Nat} (h : presetTaps k = none) :
    answerRequest taps (.preset k) = (.notSupported, taps) := by rw [answerRequest, h]

/-- The answer to a request that has been counted, with the taps that it leaves in force. -/
def State.trainAnswer (s : State) (m : Fin 16) (req : TrainRequest) : TrainAnswer × List Int :=
  answerRequest ((s.bump (hostBase m) TRAIN_STATUS_REQ_RCVD).hostTaps m HT_FIR_CUR) req

/-- A request is counted and answered. -/
def State.trainAnswered (s : State) (m : Fin 16) (req : TrainRequest) : State :=
  ((s.bump (hostBase m) TRAIN_STATUS_REQ_RCVD).setHostTaps m HT_FIR_CUR (s.trainAnswer m req).2).modHost m fun h =>
    { h with answer := (s.trainAnswer m req).1 }

theorem State.requestCounted_taps (s : State) (m : Fin 16) :
    (s.bump (hostBase m) TRAIN_STATUS_REQ_RCVD).hostTaps m HT_FIR_CUR = s.hostTaps m HT_FIR_CUR :=
  State.hostTaps_congr m fun k => s.fld_bump_apart _ ((by decide :
    ∀ k : Fin 5, (HT_FIR_CUR.ix k.val).Apart TRAIN_STATUS_REQ_RCVD) k)

theorem State.trainAnswered_fld (s : State) (m : Fin 16) (req : TrainRequest)
    (cur : ∀ k : Fin 5, g.Apart (HT_FIR_CUR.ix k.val)) : (s.trainAnswered m req).fld (hostBase m) g =
      (s.bump (hostBase m) TRAIN_STATUS_REQ_RCVD).fld (hostBase m) g := by
  have len : (s.trainAnswer m req).2.length = 5 := answerRequest_length (State.hostTaps_length _ m) req
  rw [State.trainAnswered, State.modHost_fld, State.setHostTaps_fld _ m len cur]

theorem State.trainAnswered_answer (s : State) (m : Fin 16) (req : TrainRequest) :
    (s.trainAnswered m req).host[m].answer = (answerRequest (s.hostTaps m HT_FIR_CUR) req).1 := by
  rw [State.trainAnswered, State.modHost_same, State.trainAnswer, State.requestCounted_taps]

theorem State.trainAnswered_taps (s : State) (m : Fin 16) (req : TrainRequest) :
    (s.trainAnswered m req).hostTaps m HT_FIR_CUR = (answerRequest (s.hostTaps m HT_FIR_CUR) req).2 := by
  have len := answerRequest_length (s.hostTaps_length (f := HT_FIR_CUR) m) req
  have range := answerRequest_bounds (s.hostTaps_bounds m HT_FIR_CUR) req
  rw [State.trainAnswered, State.hostTaps_congr m fun k => State.modHost_fld _ m _ _ _, State.trainAnswer,
    State.requestCounted_taps]
  exact State.setHostTaps_hostTaps _ m ofTaps_cur len range

theorem State.trainAnswered_evolves (s : State) (m : Fin 16) (req : TrainRequest) :
    Evolves hostParts s (s.trainAnswered m req) := by
  have counted : Evolves hostParts s (s.bump (hostBase m) TRAIN_STATUS_REQ_RCVD) :=
    State.bump_evolves (.refl _ s) (regPart_host (by decide) (by decide))
  exact State.modHost_evolves (State.setHostTaps_evolves counted (by decide)) (by decide)

theorem exec_trainStep {tap : Int} {up : Bool} (hd : s.noneDue) (running : s.trainState m = 1) :
    exec (.trainRequestReceived m (.step tap up)) s = .next (s.trainAnswered m (.step tap up)) := by
  have answers : exec (.trainRequestReceived m (.step tap up)) s = done (s.trainAnswered m (.step tap up)) :=
    if_pos running
  rw [answers, done_of_hostParts hd (s.trainAnswered_evolves m _)]

theorem exec_trainRequest_preset (k : Nat) (running : s.trainState m = 1) :
    exec (.trainRequestReceived m (.preset k)) s =
      if (s.trainAnswer m (.preset k)).1 = .updated then
        done ((s.trainAnswered m (.preset k)).setHostTaps m HT_FIR_TARGET (s.trainAnswer m (.preset k)).2)
      else done (s.trainAnswered m (.preset k)) := if_pos running

/-- A preset sets the targets too. -/
theorem exec_trainPreset {k : Nat} {p q r : Int} (hd : s.noneDue) (running : s.trainState m = 1)
    (h : presetTaps k = some (p, q, r)) : exec (.trainRequestReceived m (.preset k)) s =
      .next ((s.trainAnswered m (.preset k)).setHostTaps m HT_FIR_TARGET [0, p, q, r, 0]) := by
  have answer : s.trainAnswer m (.preset k) = _ := answerRequest_preset h
  have loaded := State.setHostTaps_evolves (m := m) (f := HT_FIR_TARGET) (taps := [0, p, q, r, 0])
    (s.trainAnswered_evolves m (.preset k)) (by decide)
  rw [exec_trainRequest_preset k running, answer, if_pos rfl, done_of_hostParts hd loaded]

theorem exec_trainPreset_none {k : Nat} (hd : s.noneDue) (running : s.trainState m = 1) (h : presetTaps k = none) :
    exec (.trainRequestReceived m (.preset k)) s = .next (s.trainAnswered m (.preset k)) := by
  have answer : s.trainAnswer m (.preset k) = _ := answerRequest_presetNone h
  rw [exec_trainRequest_preset k running, answer, if_neg nofun, done_of_hostParts hd (s.trainAnswered_evolves m _)]

theorem exec_trainPrecoding {on : Bool} (hd : s.noneDue) (running : s.trainState m = 1) :
    exec (.trainRequestReceived m (.precoding on)) s = .next ((s.trainAnswered m (.precoding on)).htPrecode m on) := by
  have answers : exec (.trainRequestReceived m (.precoding on)) s =
      done ((s.trainAnswered m (.precoding on)).htPrecode m on) := if_pos running
  rw [answers, done_of_hostParts hd (State.htPrecode_evolves (s.trainAnswered_evolves m _) (by decide))]

theorem State.htPrecode_flag (s : State) (m : Fin 16) (on : Bool) :
    (s.htPrecode m on).flag (hostBase m) HT_CTRL_TX_PRECODE = on := by
  unfold State.htPrecode
  dsimp only
  split
  · assumption
  · exact (State.modHost_flag _ m _ _ _).trans (s.flag_setFlag_same _ _ (by decide) rfl)

theorem State.htPrecode_answer (s : State) (m : Fin 16) (on : Bool) :
    (s.htPrecode m on).host[m].answer = s.host[m].answer := by
  unfold State.htPrecode
  dsimp only
  split
  · rfl
  · rw [State.modHost_same]
    simp only [State.setFlag_other]

end

/-! ### The requester (R200) -/

section
variable {s : State} {m : Fin 16} {rise : Rat}

/-- A request goes out, and the record keeps what it was. -/
def State.requested (s : State) (m : Fin 16) (f : HostLane → HostLane) : State := (s.sendRequest m).modHost m f

theorem State.requested_host (s : State) (m : Fin 16) (f : HostLane → HostLane) :
    (s.requested m f).host[m] = f { s.host[m] with reqCount := s.host[m].reqCount + 1 } := by
  rw [State.requested, State.modHost_same, State.sendRequest, State.modHost_same]
  simp only [State.bump_other]

theorem State.requested_sent (s : State) (m : Fin 16) (f : HostLane → HostLane) :
    (s.requested m f).fld (hostBase m) TRAIN_STATUS_REQ_SENT =
      satNat TRAIN_STATUS_REQ_SENT.width (s.fld (hostBase m) TRAIN_STATUS_REQ_SENT + 1) := by
  rw [State.requested, State.modHost_fld, State.sendRequest, State.modHost_fld]
  exact s.bump_same _ (by decide)

theorem State.requested_regsBut (s : State) (m : Fin 16) (f : HostLane → HostLane) :
    RegsBut [hostBase m + TRAIN_STATUS_REQ_SENT.off] s (s.requested m f) :=
  RegsBut.modHost (RegsBut.modHost (s.setFld_regsBut _ _ _) m _) m f

theorem done_requested (hd : s.noneDue) (f : HostLane → HostLane) : done (s.requested m f) = .next (s.requested m f) :=
  done_of_hostParts hd (State.modHost_evolves (State.sendRequest_evolves (.refl _ s) (by decide)) (by decide))

/-- The requester turns to the next tap; behind the last one a pass has ended. -/
def HostLane.reqTurned (last : Bool) (h : HostLane) : HostLane :=
  { h with reqJudging := false, reqTap := if last then 0 else h.reqTap + 1,
           reqKept := if last then false else h.reqKept, reqReady := last && !h.reqKept }

/-- A precoding request that was made, or is not wanted, is not made again. -/
theorem State.precode_asked (h : s.flag (hostBase m) TRAIN_CTRL_ASK_PRECODE = false ∨ s.host[m].reqAsked = true) :
    ¬(s.flag (hostBase m) TRAIN_CTRL_ASK_PRECODE = true ∧ ¬s.host[m].reqAsked = true) := by
  rintro ⟨wanted, unasked⟩
  exact h.elim (fun off => by rw [off] at wanted; cases wanted) unasked

theorem exec_trainRequesterStep (running : s.trainState m = 1) (ready : s.host[m].reqReady = false)
    (task : s.hostLaneTask m 12 = true) : exec (.trainRequesterStep m rise) s =
      if 256 ≤ s.host[m].reqCount then done (s.modHost m fun h => { h with reqReady := true })
      else if s.flag (hostBase m) TRAIN_CTRL_ASK_PRECODE ∧ ¬ s.host[m].reqAsked then
        done (s.requested m fun h => { h with reqAsked := true })
      else if ¬ s.host[m].reqJudging then
        done (s.requested m fun h => { h with reqJudging := true, reqAsked := true })
      else if 1 / 50 ≤ rise then done (s.requested m fun h => { h with reqKept := true })
      else done (s.requested m (HostLane.reqTurned (decide (2 ≤ s.host[m].reqTap)))) :=
  if_pos ⟨running, by rw [ready]; decide, task⟩

end

/-! ### The end (R200) -/

section
variable {s : State} {m : Fin 16}

/-- Both directions go on: the transmitter to LIVE, the receiver to step 3 of Table 8-4. -/
def State.trainLeft (s : State) (m : Fin 16) (st : Nat) : State :=
  (((s.setFld (hostBase m) TRAIN_STATUS_TRAIN_STATE st).setHtState m 3).setHrState m 3).modHost m fun h =>
    { h with acqStep := 3 }

theorem State.trainEnd_of_training (st : Nat) (ht : s.htState m = 2) (hr : s.hrState m = 2) :
    s.trainEnd m st = s.trainLeft m st := by
  have tx : (s.setFld (hostBase m) TRAIN_STATUS_TRAIN_STATE st).htState m = 2 :=
    (s.fld_setFld_apart _ _ (by decide)).trans ht
  have rx : ((s.setFld (hostBase m) TRAIN_STATUS_TRAIN_STATE st).setHtState m 3).hrState m = 2 :=
    ((State.setHtState_fld _ m _ (by decide)).trans (s.fld_setFld_apart _ _ (by decide))).trans hr
  simp only [State.trainEnd, tx, if_true, rx, State.trainLeft]

theorem State.trainLeft_shows (s : State) (m : Fin 16) {st : Nat} (h : st < 8) : (s.trainLeft m st).trainState m = st ∧
    (s.trainLeft m st).htState m = 3 ∧ (s.trainLeft m st).hrState m = 3 ∧ (s.trainLeft m st).host[m].acqStep = 3 := by
  refine ⟨?_, ?_, ?_, ?_⟩
  · rw [State.trainState, State.trainLeft, State.modHost_fld, State.setHrState_fld _ m _ (by decide),
      State.setHtState_fld _ m _ (by decide)]
    exact s.setFld_same _ (by decide) h
  · rw [State.htState, State.trainLeft, State.modHost_fld, State.setHrState_fld _ m _ (by decide)]
    exact State.setHtState_htState _ m (by decide)
  · rw [State.hrState, State.trainLeft, State.modHost_fld]
    exact State.setHrState_hrState _ m (by decide)
  · rw [State.trainLeft, State.modHost_same]

theorem exec_trainDone (hd : s.noneDue) (running : s.trainState m = 1) (ready : s.host[m].reqReady = true)
    (ht : s.htState m = 2) (hr : s.hrState m = 2) :
    exec (.trainDone m) s = .next ((s.trainLeft m 2).modHost m fun h => { h with trained := true }) := by
  rw [← State.trainEnd_of_training 2 ht hr]
  exact (if_pos ⟨running, ready⟩).trans (done_of_hostParts hd
    (State.modHost_evolves (State.trainEnd_evolves (.refl _ s) (by decide)) (by decide)))

theorem exec_trainFail (running : s.trainState m = 1) (ht : s.htState m = 2) (hr : s.hrState m = 2) :
    exec (.trainFail m) s = .next ((s.trainLeft m 3).raiseOpen (hostSrc m 0x43)).react := by
  rw [← State.trainEnd_of_training 3 ht hr]
  exact if_pos running

/-- A raise leaves the words and the records of the host lanes alone. -/
theorem State.raiseOpen_hostSame (s : State) (m : Fin 16) (src : Nat) : HostSame m s (s.raiseOpen src) :=
  (State.raiseOpen_evolves (ps := [.free, .fuse, .link, .counters, .attic, .systemRegs]) (.refl _ s) (by decide)).hostSame
    (by decide) (by decide)

end

/-- Settles O43: the start through the words that outlast the lost lock, the answers through the taps that read back as
they were written, and one case of the requester for each branch of its step. -/
theorem linkTraining : Obligations.LinkTraining := by
  unfold Obligations.LinkTraining
  refine ⟨?starts, ?step, ?preset, ?presetNone, ?precoding, ?asksPrecode, ?asksTap, ?keeps, ?turns, ?limit, ?done, ?fails⟩
  case starts =>
    intro m s _ mode on rises cause
    refine ⟨s.hostTrainStart m, rfl, ?_⟩
    have begun := (s.hostLoseLock m).trainBegin_host m
    rw [State.hostTrainStart_of_may mode on rises cause]
    split
    · refine ⟨?_, ?_, ?_, ?_, ?_, fun _ _ => State.hrTrains_hrState _ m⟩
      · exact (State.hrTrains_fld _ m (by decide)).trans (State.trainBegin_trainState _ m)
      · exact (State.hrTrains_fld _ m (by decide)).trans (State.trainBegin_htState _ m)
      · rw [State.hostLocked, State.flag, State.hrTrains_fld _ m (by decide), ← State.flag]
        exact s.trainStarted_locked m
      all_goals rw [State.hrTrains, State.modHost_same, State.setHrState_host, State.trainStarted, begun]
    next stays =>
      refine ⟨State.trainBegin_trainState _ m, State.trainBegin_htState _ m, s.trainStarted_locked m, ?_, ?_,
        fun hr los => absurd ⟨hr, los⟩ stays⟩
      all_goals rw [State.trainStarted, begun]
  case step =>
    rintro m _ tap up s hd running rfl
    refine ⟨_, exec_trainStep hd running, ?_, s.trainAnswered_answer m _, s.trainAnswered_taps m _⟩
    exact (s.trainAnswered_fld m _ (by decide)).trans (s.bump_same _ (by decide))
  case preset =>
    rintro m _ k p q r s hd running rfl h
    have taps := s.trainAnswered_taps m (.preset k)
    have answer := s.trainAnswered_answer m (.preset k)
    rw [answerRequest_preset h] at taps answer
    refine ⟨_, exec_trainPreset hd running h, ?_, ?_, State.setHostTaps_hostTaps _ m ofTaps_target rfl
      (presetTaps_bounds h)⟩
    · rw [State.setHostTaps_host, answer]
    · rw [State.hostTaps_congr m fun j => State.setHostTaps_fld _ m rfl (cur_apart_target j), taps]
  case presetNone =>
    rintro m _ k s hd running rfl h
    have taps := s.trainAnswered_taps m (.preset k)
    have answer := s.trainAnswered_answer m (.preset k)
    rw [answerRequest_presetNone h] at taps answer
    exact ⟨_, exec_trainPreset_none hd running h, answer, taps⟩
  case precoding =>
    rintro m _ on s hd running rfl
    exact ⟨_, exec_trainPrecoding hd running, (State.htPrecode_answer _ m on).trans (s.trainAnswered_answer m _),
      State.htPrecode_flag _ m on⟩
  case asksPrecode =>
    intro m rise s hd running ready task count ask asked
    refine ⟨s.requested m fun h => { h with reqAsked := true }, ?_, s.requested_sent m _, ?_, s.requested_regsBut m _, ?_⟩
    · rw [exec_trainRequesterStep running ready task, if_neg count.not_ge, if_pos ⟨ask, by rw [asked]; decide⟩,
        done_requested hd]
    all_goals rw [State.requested_host]
  case asksTap =>
    intro m rise s hd running ready task count asked judging
    refine ⟨s.requested m fun h => { h with reqJudging := true, reqAsked := true }, ?_, s.requested_sent m _, ?_,
      s.requested_regsBut m _, ?_⟩
    · rw [exec_trainRequesterStep running ready task, if_neg count.not_ge, if_neg (State.precode_asked asked),
        if_pos (by rw [judging]; decide), done_requested hd]
    all_goals rw [State.requested_host]
  case keeps =>
    intro m rise s hd running ready task count asked judging gain
    refine ⟨s.requested m fun h => { h with reqKept := true }, ?_, s.requested_sent m _, ?_,
      s.requested_regsBut m _, ?_, ?_, ?_⟩
    · rw [exec_trainRequesterStep running ready task, if_neg count.not_ge, if_neg (State.precode_asked asked),
        if_neg (by rw [judging]; decide), if_pos gain, done_requested hd]
    all_goals rw [State.requested_host]
    exact judging
  case turns =>
    intro m rise s hd running ready task count asked judging gain
    refine ⟨s.requested m (HostLane.reqTurned (decide (2 ≤ s.host[m].reqTap))), ?_, s.requested_sent m _, ?_,
      s.requested_regsBut m _, ?_, ?_, ?_⟩
    · rw [exec_trainRequesterStep running ready task, if_neg count.not_ge, if_neg (State.precode_asked asked),
        if_neg (by rw [judging]; decide), if_neg gain.not_ge, done_requested hd]
    all_goals simp only [State.requested_host, HostLane.reqTurned, decide_eq_true_eq]
  case limit =>
    intro m rise s hd running ready task count
    refine ⟨s.modHost m fun h => { h with reqReady := true }, ?_, ?_, RegsBut.modHost (fun _ _ => rfl) m _⟩
    · rw [exec_trainRequesterStep running ready task, if_pos count]
      exact done_of_hostParts hd (State.modHost_evolves (.refl _ s) (by decide))
    · rw [State.modHost_same]
  case done =>
    intro m s hd running ready ht hr
    obtain ⟨train, tx, rx, step⟩ := s.trainLeft_shows m (st := 2) (by decide)
    refine ⟨_, exec_trainDone hd running ready ht hr, (State.modHost_fld _ m _ _ _).trans train,
      (State.modHost_fld _ m _ _ _).trans tx, (State.modHost_fld _ m _ _ _).trans rx, ?_, ?_⟩
    all_goals rw [State.modHost_same]
    exact step
  case fails =>
    intro m s _ running ht hr
    obtain ⟨train, tx, rx, step⟩ := s.trainLeft_shows m (st := 3) (by decide)
    have same := (s.trainLeft m 3).raiseOpen_hostSame m (hostSrc m 0x43)
    exact ⟨_, exec_trainFail running ht hr, (same.fld (by decide)).trans train, (same.fld (by decide)).trans tx,
      (same.fld (by decide)).trans rx, by rw [same.host, step]⟩

end Sys2Proof.Machine
end

section
/-! The starts and stops of a host receiver (O42): a full acquisition, what follows signal present, a fast re-lock and the
stop, each by the words and the record of the lane that it leaves (R195, R197, R201). -/

namespace Sys2Proof.Machine

open Reg

section
variable {ps : List Part} {s t : State} {m : Fin 16} {g : Field}

/-! ### A full acquisition (R195) -/

/-- The receiver is enabled and awake, the mode uses it and its domain is on. -/
def State.rxMay (s : State) (m : Fin 16) : Bool :=
  s.hostUsed m && s.flag (hostBase m) HR_CTRL_HR_EN && !s.hrAsleep m && s.domOn (domHostRx m)

/-- The synthesiser of its half is locked and no deep test holds its domain. -/
def State.rxClocked (s : State) (m : Fin 16) : Bool := s.synLocked (hostSyn m) && !s.deepHolds (domHostRx m)

theorem State.rxMay_of (used : s.hostUsed m = true) (en : s.flag (hostBase m) HR_CTRL_HR_EN = true)
    (awake : s.hrAsleep m = false) (dom : s.domOn (domHostRx m) = true) : s.rxMay m = true := by
  rw [State.rxMay, used, en, awake, dom]
  rfl

theorem State.rxClocked_of (syn : s.synLocked (hostSyn m) = true) (deep : s.deepHolds (domHostRx m) = false) :
    s.rxClocked m = true := by
  rw [State.rxClocked, syn, deep]
  rfl

theorem Evolves.rxClocked (h : Evolves ps s t) (hc : .clockRegs ∉ ps) (ht : .test ∉ ps) (hm : .memProtRegs ∉ ps)
    (m : Fin 16) : t.rxClocked m = s.rxClocked m := by
  rw [State.rxClocked, h.synLocked hc, h.deepHolds ht hm, State.rxClocked]

/-- NO_SIGNAL, with the converter's start values and the trigger of this moment. -/
def State.hostTriggered (s : State) (m : Fin 16) : State :=
  ((s.modHost m fun h => { h with trigger := s.tick, acqStep := 0, clocksStopped := false, startDue := false }).hostAdcLoad
    m).setHrState m 1

/-- Step 1 of Table 8-4. -/
def State.hostAcqBegun (s : State) (m : Fin 16) : State :=
  ((s.hostTriggered m).unsettleHost m).bankRestored (259 + m.val / 4)

theorem State.hostAcqStart_may (may : s.rxMay m = true) : s.hostAcqStart m =
    if (s.hostLoseLock m).rxClocked m then
      if ((s.hostLoseLock m).hostAcqBegun m).host[m].signal &&
          !((s.hostLoseLock m).hostAcqBegun m).flag (hostBase m) HR_STATUS_LOS
      then ((s.hostLoseLock m).hostAcqBegun m).hostAfterSignal m else (s.hostLoseLock m).hostAcqBegun m
    else (s.hostLoseLock m).modHost m fun h => { h with startDue := true } := if_pos may

theorem State.hostAcqBegun_same (s : State) (m : Fin 16) : HostSame m (s.hostTriggered m) (s.hostAcqBegun m) :=
  Evolves.hostSame (ps := [.lineRegs, .memProtRegs])
    (State.bankRestored_evolves (State.unsettleHost_evolves (.refl _ _) (by decide)) (by decide)) (by decide) (by decide)

theorem State.hostAcqBegun_fld (s : State) (m : Fin 16) (lt : g.off < 0x10000) (apart : g.Apart HR_STATUS_HR_STATE) :
    (s.hostAcqBegun m).fld (hostBase m) g = s.fld (hostBase m) g := by
  rw [(s.hostAcqBegun_same m).fld lt, State.hostTriggered, State.setHrState_fld _ m _ apart,
    State.hostAdcLoad, State.modHost_fld, State.modHost_fld]

theorem State.hostAcqBegun_flag (s : State) (m : Fin 16) (lt : g.off < 0x10000) (apart : g.Apart HR_STATUS_HR_STATE) :
    (s.hostAcqBegun m).flag (hostBase m) g = s.flag (hostBase m) g := by
  rw [State.flag, s.hostAcqBegun_fld m lt apart, State.flag]

theorem State.hostAcqBegun_hrState (s : State) (m : Fin 16) : (s.hostAcqBegun m).hrState m = 1 :=
  ((s.hostAcqBegun_same m).fld (by decide)).trans (State.setHrState_hrState _ m (by decide))

theorem State.hostAcqBegun_host (s : State) (m : Fin 16) : (s.hostAcqBegun m).host[m].trigger = s.tick ∧
    (s.hostAcqBegun m).host[m].acqStep = 0 ∧ (s.hostAcqBegun m).host[m].retained = s.host[m].retained ∧
    (s.hostAcqBegun m).host[m].signal = s.host[m].signal := by
  rw [(s.hostAcqBegun_same m).host, State.hostTriggered, State.setHrState_host, State.hostAdcLoad,
    State.modHost_same, State.modHost_same]
  exact ⟨rfl, rfl, rfl, rfl⟩

theorem State.hostLoseLock_tick (s : State) (m : Fin 16) : (s.hostLoseLock m).tick = s.tick :=
  (s.hostLoseLock_parts m).only .tick (by decide)

theorem State.hostLoseLock_clocked (s : State) (m : Fin 16) : (s.hostLoseLock m).rxClocked m = s.rxClocked m :=
  (s.hostLoseLock_parts m).rxClocked (by decide) (by decide) (by decide) m

theorem State.hostLoseLock_signal (s : State) (m : Fin 16) : (s.hostLoseLock m).host[m].signal = s.host[m].signal := by
  rw [s.hostLoseLock_host]
  split <;> rfl

/-- Without a signal an acquisition waits in NO_SIGNAL. -/
theorem State.hostAcqStart_waits (may : s.rxMay m = true) (clocked : s.rxClocked m = true)
    (signal : s.host[m].signal = false) :
    s.hostAcqStart m = (s.hostLoseLock m).hostAcqBegun m := by
  obtain ⟨-, -, -, kept⟩ := (s.hostLoseLock m).hostAcqBegun_host m
  rw [State.hostAcqStart_may may, s.hostLoseLock_clocked, if_pos clocked, kept, s.hostLoseLock_signal, signal]
  exact if_neg Bool.false_ne_true

/-- With the signal present it goes on. -/
theorem State.hostAcqStart_goesOn (may : s.rxMay m = true) (clocked : s.rxClocked m = true) (signal : s.host[m].signal = true)
    (los : s.flag (hostBase m) HR_STATUS_LOS = false) :
    s.hostAcqStart m = ((s.hostLoseLock m).hostAcqBegun m).hostAfterSignal m := by
  obtain ⟨-, -, -, kept⟩ := (s.hostLoseLock m).hostAcqBegun_host m
  rw [State.hostAcqStart_may may, s.hostLoseLock_clocked, if_pos clocked, kept, s.hostLoseLock_signal, signal,
    State.hostAcqBegun_flag _ m (by decide) (by decide), s.hostLoseLock_flag m (by decide), los]
  exact if_pos rfl

/-! ### After signal present (Table 8-4) -/

/-- A lane that does not have to train goes to step 3. -/
def State.hrStep3 (s : State) (m : Fin 16) : State := (s.setHrState m 3).modHost m fun h => { h with acqStep := 3 }

theorem State.hostAfterSignal_plain (mode : s.flag (hostBase m) TRAIN_CTRL_TRAIN_MODE = false) :
    s.hostAfterSignal m = s.hrStep3 m := if_neg (by rw [mode]; exact Bool.false_ne_true)

theorem State.hrStep3_hrState (s : State) (m : Fin 16) : (s.hrStep3 m).hrState m = 3 := by
  rw [State.hrState, State.hrStep3, State.modHost_fld]
  exact s.setHrState_hrState m (by decide)

theorem State.hrStep3_host (s : State) (m : Fin 16) : (s.hrStep3 m).host[m] =
    { s.host[m] with highest := if 3 ≤ 5 ∧ s.host[m].highest < 3 then 3 else s.host[m].highest, acqStep := 3 } := by
  rw [State.hrStep3, State.modHost_same, State.setHrState_host]

theorem State.hrStep3_evolves (s : State) (m : Fin 16) : Evolves hostParts s (s.hrStep3 m) :=
  State.modHost_evolves (State.setHrState_evolves (.refl _ s) (by decide)) (by decide)

theorem State.setHrState_regsBut (s : State) (m : Fin 16) (v : Nat) :
    RegsBut [hostBase m + HR_STATUS_HR_STATE.off] s (s.setHrState m v) := RegsBut.modHost (s.setFld_regsBut _ _ _) m _

theorem State.hrStep3_regsBut (s : State) (m : Fin 16) : RegsBut [hostBase m + HR_STATUS_HR_STATE.off] s (s.hrStep3 m) :=
  RegsBut.modHost (s.setHrState_regsBut m 3) m _

/-- Whether it trains or not, HR_STATE, HT_STATE and TRAIN_STATE are all that it writes. -/
theorem State.hostAfterSignal_fld (s : State) (m : Fin 16) (hr : g.Apart HR_STATUS_HR_STATE) (ht : g.Apart HT_STATUS_HT_STATE)
    (train : g.Apart TRAIN_STATUS_TRAIN_STATE) : (s.hostAfterSignal m).fld (hostBase m) g = s.fld (hostBase m) g := by
  unfold State.hostAfterSignal
  dsimp only
  split_ifs
  · rw [State.trainBegin_fld _ m train ht, State.setHrState_fld _ m _ hr]
  · exact State.setHrState_fld _ m _ hr
  · rw [State.modHost_fld, State.setHrState_fld _ m _ hr]

/-- A field of the lane that a full acquisition does not write. -/
@[reducible] def Field.OutlastsAcq (g : Field) : Prop :=
  g.OutlastsLock ∧ g.Apart HR_STATUS_HR_STATE ∧ g.Apart HT_STATUS_HT_STATE

theorem State.hostAcqStart_begun_fld (may : s.rxMay m = true) (hr : g.Apart HR_STATUS_HR_STATE)
    (ht : g.Apart HT_STATUS_HT_STATE) (train : g.Apart TRAIN_STATUS_TRAIN_STATE) (lt : g.off < 0x10000) :
    (s.hostAcqStart m).fld (hostBase m) g = (s.hostLoseLock m).fld (hostBase m) g := by
  rw [State.hostAcqStart_may may]
  split_ifs
  · rw [State.hostAfterSignal_fld _ m hr ht train, State.hostAcqBegun_fld _ m lt hr]
  · exact State.hostAcqBegun_fld _ m lt hr
  · exact State.modHost_fld _ m _ _ _

theorem State.hostAcqStart_fld (may : s.rxMay m = true) (h : g.OutlastsAcq) :
    (s.hostAcqStart m).fld (hostBase m) g = s.fld (hostBase m) g := by
  obtain ⟨lock, hr, ht⟩ := h
  have ⟨lt, _, _, train, _⟩ := lock
  rw [State.hostAcqStart_begun_fld may hr ht train lt, s.hostLoseLock_fld m lock]

theorem State.hostAcqStart_locked (may : s.rxMay m = true) : (s.hostAcqStart m).hostLocked m = false := by
  rw [State.hostLocked, State.flag, State.hostAcqStart_begun_fld may (by decide) (by decide) (by decide) (by decide),
    ← State.flag]
  exact s.hostLoseLock_locked m

/-! ### A fast re-lock (R197) -/

theorem State.hostRelock_same (s : State) (m : Fin 16) : HostSame m
    ((s.modHost m fun h => { h with trigger := s.tick, acqStep := 0, clocksStopped := false }).setHrState m 6)
    (s.hostRelock m) :=
  Evolves.hostSame (ps := [.lineRegs]) (State.unsettleHost_evolves (.refl _ _) (by decide)) (by decide) (by decide)

theorem State.hostRelock_fld (s : State) (m : Fin 16) (lt : g.off < 0x10000) (apart : g.Apart HR_STATUS_HR_STATE) :
    (s.hostRelock m).fld (hostBase m) g = s.fld (hostBase m) g := by
  rw [(s.hostRelock_same m).fld lt, State.setHrState_fld _ m _ apart, State.modHost_fld]

theorem State.hostRelock_flag (s : State) (m : Fin 16) (lt : g.off < 0x10000) (apart : g.Apart HR_STATUS_HR_STATE) :
    (s.hostRelock m).flag (hostBase m) g = s.flag (hostBase m) g := by
  rw [State.flag, s.hostRelock_fld m lt apart, State.flag]

theorem State.hostRelock_hrState (s : State) (m : Fin 16) : (s.hostRelock m).hrState m = 6 :=
  ((s.hostRelock_same m).fld (by decide)).trans (State.setHrState_hrState _ m (by decide))

theorem State.hostRelock_signal (s : State) (m : Fin 16) : (s.hostRelock m).host[m].signal = s.host[m].signal := by
  rw [(s.hostRelock_same m).host, State.setHrState_host, State.modHost_same]

theorem State.hostRelock_fuse (s : State) (m : Fin 16) : (s.hostRelock m).fuse = s.fuse :=
  (State.hostRelock_evolves (ps := [.host, .lineRegs, .hostRegs]) (.refl _ s) (by decide)).only .fuse (by decide)

/-- The lock is lost and the lane starts a re-lock. -/
theorem State.relocks (s : State) (m : Fin 16) : ((s.hostLoseLock m).hostRelock m).hostLocked m = false ∧
    ((s.hostLoseLock m).hostRelock m).hrState m = 6 :=
  ⟨(State.hostRelock_flag _ m (by decide) (by decide)).trans (s.hostLoseLock_locked m), State.hostRelock_hrState _ m⟩

theorem State.hostLol_isActive {detail : Nat} (takes : s.takes (hostSrc m 0x41) detail) (lt : detail < 0x10000) :
    (s.hostLol m detail).isActive (hostSrc m 0x41) := by
  have raised := State.raise_isActive_of_takes takes lt
  exact State.isActive_of_fuse (State.hostLoseLock_active (hostSrc_ne_lineSrc m _) raised m) (State.hostRelock_fuse _ m)

/-! ### The stop (R195, R201) -/

/-- What a stopped receiver shows, before its level source turns quiet. -/
def State.rxStopped (s : State) (m : Fin 16) : State :=
  (((s.hostLoseLock m).modHost m fun h =>
    { h with acqStep := 0, startDue := false, clocksStopped := false, signal := false }).setHrState m 0).setFlag (hostBase m)
      HR_STATUS_LOS false

theorem State.hostRxStop_same (s : State) (m : Fin 16) : HostSame m (s.rxStopped m) (s.hostRxStop m) :=
  Evolves.hostSame (ps := [.fuse]) (State.quiet_evolves (.refl _ _) (by decide)) (by decide) (by decide)

theorem State.hostRxStop_fld (s : State) (m : Fin 16) (lt : g.off < 0x10000) (hr : g.Apart HR_STATUS_HR_STATE)
    (los : g.Apart HR_STATUS_LOS) : (s.hostRxStop m).fld (hostBase m) g = (s.hostLoseLock m).fld (hostBase m) g := by
  rw [(s.hostRxStop_same m).fld lt, State.rxStopped, State.fld_setFlag_apart _ _ _ los, State.setHrState_fld _ m _ hr,
    State.modHost_fld]

theorem State.hostRxStop_hrState (s : State) (m : Fin 16) : (s.hostRxStop m).hrState m = 0 :=
  ((s.hostRxStop_same m).fld (by decide)).trans
    ((State.fld_setFlag_apart _ _ _ (by decide)).trans (State.setHrState_hrState _ m (by decide)))

theorem State.hostRxStop_los (s : State) (m : Fin 16) : (s.hostRxStop m).flag (hostBase m) HR_STATUS_LOS = false :=
  ((s.hostRxStop_same m).flag (by decide)).trans (State.flag_setFlag_same _ _ _ (by decide) rfl)

theorem State.hostRxStop_locked (s : State) (m : Fin 16) : (s.hostRxStop m).hostLocked m = false := by
  rw [State.hostLocked, State.flag, s.hostRxStop_fld m (by decide) (by decide) (by decide), ← State.flag]
  exact s.hostLoseLock_locked m

/-- The signal is gone, and a lane that was locked keeps this moment for a re-lock (R202). -/
theorem State.hostRxStop_host (s : State) (m : Fin 16) : (s.hostRxStop m).host[m].signal = false ∧
    (s.hostRxStop m).host[m].retained = if s.hostLocked m then some s.tick else s.host[m].retained := by
  rw [(s.hostRxStop_same m).host, State.rxStopped]
  simp only [State.setFlag_other]
  rw [State.setHrState_host, State.modHost_same, s.hostLoseLock_host]
  refine ⟨rfl, ?_⟩
  split <;> rfl

theorem State.hostRxStop_rails (s : State) (m : Fin 16) : hostSrc m 0x40 ∉ (s.hostRxStop m).fuse.rails := by
  rw [State.hostRxStop, State.quiet_rails]
  simp [List.mem_filter]

end

end Sys2Proof.Machine
end

section
/-! The commands of a host receiver (O42), from HR_EN to the end of a loss of signal (R195 to R197): one equation per command,
and the states that it answers. -/

namespace Sys2Proof.Machine

open Reg

/-! ### HR_EN, REACQ and CTLE (R195) -/

section
variable {s : State} {m : Fin 16} {g : Field}

/-- HR_EN, which drops the retained state. -/
def State.hrEnWritten (s : State) (m : Fin 16) (on : Bool) : State :=
  (s.setFlag (hostBase m) HR_CTRL_HR_EN on).modHost m fun h => { h with retained := none }

theorem State.hrEnWritten_fld (s : State) (m : Fin 16) (on : Bool) (h : g.Apart HR_CTRL_HR_EN) :
    (s.hrEnWritten m on).fld (hostBase m) g = s.fld (hostBase m) g :=
  (State.modHost_fld _ m _ _ _).trans (s.fld_setFlag_apart _ _ h)

theorem State.hrEnWritten_flag (s : State) (m : Fin 16) (on : Bool) (h : g.Apart HR_CTRL_HR_EN) :
    (s.hrEnWritten m on).flag (hostBase m) g = s.flag (hostBase m) g := by
  rw [State.flag, s.hrEnWritten_fld m on h, State.flag]

theorem State.hrEnWritten_en (s : State) (m : Fin 16) (on : Bool) :
    (s.hrEnWritten m on).flag (hostBase m) HR_CTRL_HR_EN = on :=
  (State.modHost_flag _ m _ _ _).trans (s.flag_setFlag_same _ _ (by decide) rfl)

theorem State.hrEnWritten_host (s : State) (m : Fin 16) (on : Bool) :
    (s.hrEnWritten m on).host[m] = { s.host[m] with retained := none } := by
  rw [State.hrEnWritten, State.modHost_same]
  simp only [State.setFlag_other]

theorem State.hrEnWritten_evolves (s : State) (m : Fin 16) (on : Bool) :
    Evolves [.host, .hostRegs] s (s.hrEnWritten m on) :=
  State.modHost_evolves (State.setFlag_evolves (.refl _ s) (regPart_host (by decide) (by decide))) (by decide)

theorem exec_hrEnable_off (m : Fin 16) (s : State) :
    exec (.hrEnable m false) s = .next (((s.hrEnWritten m false).hostRxStop m).hostVotes m).react := rfl

theorem exec_hrEnable_on (m : Fin 16) (s : State) :
    exec (.hrEnable m true) s = done (((s.hrEnWritten m true).hostVotes m).hostAcqStart m) := rfl

theorem State.hostVotes_hostSame (s : State) (m : Fin 16) : HostSame m s (s.hostVotes m) :=
  (s.hostVotes_evolves_power m).hostSame (by decide) (by decide)

theorem State.hostVotes_rails (s : State) (m : Fin 16) : (s.hostVotes m).fuse.rails = s.fuse.rails := by
  rw [show (s.hostVotes m).fuse = s.fuse from (s.hostVotes_evolves_power m).only .fuse (by decide)]

theorem State.hrAsleep_of_awake (h : s.flag (hostBase m) HR_CTRL_HR_SLEEP = false) : s.hrAsleep m = false := by
  rw [State.hrAsleep, h, Bool.false_and]

/-- HR_EN and the votes that go with it. -/
def State.hrVoted (s : State) (m : Fin 16) : State := (s.hrEnWritten m true).hostVotes m

theorem State.hrVoted_evolves (s : State) (m : Fin 16) : Evolves hostParts s (s.hrVoted m) :=
  State.hostVotes_evolves ((s.hrEnWritten_evolves m true).mono (by decide)) (by decide)

theorem State.hrVoted_fld (s : State) (m : Fin 16) (lt : g.off < 0x10000) (h : g.Apart HR_CTRL_HR_EN) :
    (s.hrVoted m).fld (hostBase m) g = s.fld (hostBase m) g :=
  ((State.hostVotes_hostSame _ m).fld lt).trans (s.hrEnWritten_fld m true h)

theorem State.hrVoted_flag (s : State) (m : Fin 16) (lt : g.off < 0x10000) (h : g.Apart HR_CTRL_HR_EN) :
    (s.hrVoted m).flag (hostBase m) g = s.flag (hostBase m) g := by rw [State.flag, s.hrVoted_fld m lt h, State.flag]

theorem State.hrVoted_en (s : State) (m : Fin 16) : (s.hrVoted m).flag (hostBase m) HR_CTRL_HR_EN = true :=
  ((State.hostVotes_hostSame _ m).flag (by decide)).trans (s.hrEnWritten_en m true)

theorem State.hrVoted_host (s : State) (m : Fin 16) : (s.hrVoted m).host[m] = { s.host[m] with retained := none } := by
  rw [State.hrVoted, (State.hostVotes_hostSame _ m).host, State.hrEnWritten_host]

/-- A lane that HR_EN wakes votes for its receive domain, so that it stays on. -/
theorem State.hrVoted_may (used : s.hostUsed m = true) (awake : s.flag (hostBase m) HR_CTRL_HR_SLEEP = false)
    (dom : s.domOn (domHostRx m) = true) : (s.hrVoted m).rxMay m = true := by
  have written := s.hrEnWritten_evolves m true
  have asleep : (s.hrEnWritten m true).hrAsleep m = false :=
    State.hrAsleep_of_awake ((s.hrEnWritten_flag m true (by decide)).trans awake)
  have usedNow : (s.hrEnWritten m true).hostUsed m = true := (written.hostUsed (by decide) m).trans used
  refine State.rxMay_of (((State.hostVotes_evolves_power _ m).hostUsed (by decide) m).trans usedNow) (s.hrVoted_en m)
    (State.hrAsleep_of_awake ((s.hrVoted_flag m (by decide) (by decide)).trans awake))
    (State.hostVotes_rxOn ((written.domOn (by decide) _).trans dom) ?_)
  rw [State.rxVote, usedNow, s.hrEnWritten_en, asleep]
  rfl

theorem State.hostAcqBegun_evolves (s : State) (m : Fin 16) :
    Evolves [.host, .hostRegs, .lineRegs, .memProtRegs] s (s.hostAcqBegun m) :=
  State.bankRestored_evolves (State.unsettleHost_evolves (State.setHrState_evolves (State.hostAdcLoad_evolves
    (State.modHost_evolves (.refl _ s) (by decide)) (by decide)) (by decide)) (by decide)) (by decide)

/-- An enabled lane that was not locked starts a full acquisition and waits for a signal. -/
theorem exec_hrEnable_waits (hd : s.noneDue) (unlocked : s.hostLocked m = false) (used : s.hostUsed m = true)
    (awake : s.flag (hostBase m) HR_CTRL_HR_SLEEP = false) (dom : s.domOn (domHostRx m) = true)
    (clocked : s.rxClocked m = true) (signal : s.host[m].signal = false) :
    exec (.hrEnable m true) s = .next ((s.hrVoted m).hostAcqBegun m) := by
  have voted := s.hrVoted_evolves m
  have unlockedNow : (s.hrVoted m).hostLocked m = false := (s.hrVoted_flag m (by decide) (by decide)).trans unlocked
  have waits : (s.hrVoted m).hostAcqStart m = (s.hrVoted m).hostAcqBegun m := by
    rw [State.hostAcqStart_waits (State.hrVoted_may used awake dom)
      ((voted.rxClocked (by decide) (by decide) (by decide) m).trans clocked) (by rw [s.hrVoted_host]; exact signal),
      State.hostLoseLock_of_unlocked unlockedNow]
  have begun : Evolves (.lineRegs :: .memProtRegs :: hostParts) s ((s.hrVoted m).hostAcqBegun m) :=
    (voted.mono (by decide)).trans ((State.hostAcqBegun_evolves _ m).mono (by decide))
  exact ((exec_hrEnable_on m s).trans (congrArg done waits)).trans (begun.done_eq (by decide) hd)

/-- REACQ of a lane that is on. -/
theorem exec_hostReacq (on : s.hrState m ≠ 0) : exec (.hostReacq m) s = .next (s.hostAcqStart m).react :=
  congrArg done (if_neg on)

/-- CTLE_MAN and CTLE_SET, as they are written. -/
def State.hostCtleWritten (s : State) (m : Fin 16) (man : Bool) (set : Nat) : State :=
  (s.setFlag (hostBase m) HR_CTRL_CTLE_MAN man).setFld (hostBase m) HR_CTRL_CTLE_SET set

theorem State.hostCtleWritten_fld (s : State) (m : Fin 16) (man : Bool) (set : Nat) (hm : g.Apart HR_CTRL_CTLE_MAN)
    (hs : g.Apart HR_CTRL_CTLE_SET) : (s.hostCtleWritten m man set).fld (hostBase m) g = s.fld (hostBase m) g :=
  (State.fld_setFld_apart _ _ _ hs).trans (s.fld_setFlag_apart _ _ hm)

theorem State.hostCtleWritten_flag (s : State) (m : Fin 16) (man : Bool) (set : Nat) (hm : g.Apart HR_CTRL_CTLE_MAN)
    (hs : g.Apart HR_CTRL_CTLE_SET) : (s.hostCtleWritten m man set).flag (hostBase m) g = s.flag (hostBase m) g := by
  rw [State.flag, s.hostCtleWritten_fld m man set hm hs, State.flag]

theorem State.hostCtleWritten_shows (s : State) (m : Fin 16) (man : Bool) (set : BitVec 3) :
    (s.hostCtleWritten m man set.toNat).flag (hostBase m) HR_CTRL_CTLE_MAN = man ∧
      (s.hostCtleWritten m man set.toNat).fld (hostBase m) HR_CTRL_CTLE_SET = set.toNat :=
  ⟨(State.flag_setFld_apart _ _ _ (by decide)).trans (s.flag_setFlag_same _ _ (by decide) rfl),
    State.setFld_same _ _ (by decide) set.isLt⟩

theorem State.hostCtleWritten_evolves (s : State) (m : Fin 16) (man : Bool) (set : Nat) :
    Evolves [.hostRegs] s (s.hostCtleWritten m man set) :=
  State.setFld_evolves (State.setFlag_evolves (.refl _ s) (regPart_host (by decide) (by decide)))
    (regPart_host (by decide) (by decide))

theorem State.hostCtleWritten_may (man : Bool) (set : Nat) (may : s.rxMay m = true) :
    (s.hostCtleWritten m man set).rxMay m = true := by
  have written := s.hostCtleWritten_evolves m man set
  rwa [State.rxMay, written.hostUsed (by decide), s.hostCtleWritten_flag m man set (by decide) (by decide), State.hrAsleep,
    s.hostCtleWritten_flag m man set (by decide) (by decide), State.hostLoop,
    s.hostCtleWritten_fld m man set (by decide) (by decide), written.domOn (by decide)]

theorem exec_hostCtleWrite_unlocked (man : Bool) (set : BitVec 3) (hd : s.noneDue) (unlocked : s.hostLocked m = false) :
    exec (.hostCtleWrite m man set) s = .next (s.hostCtleWritten m man set.toNat) := by
  have still : (s.hostCtleWritten m man set.toNat).hostLocked m = false :=
    (s.hostCtleWritten_flag m man set.toNat (by decide) (by decide)).trans unlocked
  have writes : s.hostCtle m man set.toNat = s.hostCtleWritten m man set.toNat := by
    refine if_neg fun both => ?_
    rw [Bool.and_eq_true] at both
    exact absurd (both.2.symm.trans still) (by decide)
  exact (congrArg done writes).trans ((s.hostCtleWritten_evolves m man _).done_eq (by decide) hd)

/-- A change of CTLE_MAN on a locked lane re-acquires it. -/
theorem exec_hostCtleWrite_locked {man : Bool} (set : BitVec 3) (locked : s.hostLocked m = true)
    (changed : s.flag (hostBase m) HR_CTRL_CTLE_MAN ≠ man) : exec (.hostCtleWrite m man set) s =
      .next ((s.hostCtleWritten m man set.toNat).hostAcqStart m).react := by
  have still : (s.hostCtleWritten m man set.toNat).hostLocked m = true :=
    (s.hostCtleWritten_flag m man set.toNat (by decide) (by decide)).trans locked
  refine congrArg done (if_pos ?_)
  rw [Bool.and_eq_true, beq_false_of_ne changed]
  exact ⟨rfl, still⟩

end

/-! ### The steps of Table 8-4 and their time-outs (R195, R196) -/

section
variable {s : State} {m : Fin 16} {r : HostAcqResult}

theorem exec_hostAcqStepDone (r : HostAcqResult) (los : s.flag (hostBase m) HR_STATUS_LOS = false)
    (runs : s.host[m].clocksStopped = false) : exec (.hostAcqStepDone m r) s = done (s.hostStepDone m r) :=
  if_neg (by rw [los, runs]; decide)

/-- The CTLE setting of CTLE_SET, without a search. -/
def State.ctleManual (s : State) (m : Fin 16) : State :=
  ((s.setHrState m 4).setFld (hostBase m) HR_CDR_CTLE_CUR ((s.setHrState m 4).fld (hostBase m) HR_CTRL_CTLE_SET)).modHost m
    fun h => { h with acqStep := 5 }

/-- The search of the CTLE setting begins. -/
def State.ctleSearched (s : State) (m : Fin 16) : State := (s.setHrState m 4).modHost m fun h => { h with acqStep := 4 }

/-- The CTLE setting that a search found. -/
def State.ctleFound (s : State) (m : Fin 16) (set : Nat) : State :=
  (s.setFld (hostBase m) HR_CDR_CTLE_CUR set).modHost m fun h => { h with acqStep := 5 }

theorem State.hostStepDone_step3 (r : HostAcqResult) (search : s.hrState m ≠ 6) (step : s.host[m].acqStep = 3) :
    s.hostStepDone m r = if s.flag (hostBase m) HR_CTRL_CTLE_MAN then s.ctleManual m else s.ctleSearched m := by
  have man : (s.setHrState m 4).flag (hostBase m) HR_CTRL_CTLE_MAN = s.flag (hostBase m) HR_CTRL_CTLE_MAN := by
    rw [State.flag, State.setHrState_fld _ m _ (by decide), State.flag]
  rw [← man]
  exact (if_neg search).trans (if_pos step)

theorem State.hostStepDone_step4 (r : HostAcqResult) (search : s.hrState m ≠ 6) (step : s.host[m].acqStep = 4) :
    s.hostStepDone m r = s.ctleFound m (bestSetting r.residuals) :=
  (if_neg search).trans ((if_neg (by rw [step]; decide)).trans (if_pos step))

theorem State.hostStepDone_locks (r : HostAcqResult) (search : s.hrState m = 6 ∨ s.host[m].acqStep = 5)
    (found : s.hostSearchDone m = true) : s.hostStepDone m r = s.hostLock m r.skew := by
  by_cases six : s.hrState m = 6
  · exact (if_pos six).trans (if_pos found)
  · have step := search.resolve_left six
    exact (if_neg six).trans ((if_neg (by rw [step]; decide)).trans ((if_neg (by rw [step]; decide)).trans
      ((if_pos step).trans (if_pos found))))

theorem State.ctleManual_evolves (s : State) (m : Fin 16) : Evolves hostParts s (s.ctleManual m) :=
  State.modHost_evolves (State.setFld_evolves (State.setHrState_evolves (.refl _ s) (by decide))
    (regPart_host (by decide) (by decide))) (by decide)

theorem State.ctleManual_shows (s : State) (m : Fin 16) : (s.ctleManual m).hrState m = 4 ∧
    (s.ctleManual m).fld (hostBase m) HR_CDR_CTLE_CUR = s.fld (hostBase m) HR_CTRL_CTLE_SET ∧
    (s.ctleManual m).host[m].acqStep = 5 := by
  refine ⟨?_, ?_, by rw [State.ctleManual, State.modHost_same]⟩
  · rw [State.hrState, State.ctleManual, State.modHost_fld, State.fld_setFld_apart _ _ _ (by decide)]
    exact s.setHrState_hrState m (by decide)
  · have kept : (s.setHrState m 4).fld (hostBase m) HR_CTRL_CTLE_SET = s.fld (hostBase m) HR_CTRL_CTLE_SET :=
      s.setHrState_fld m 4 (by decide)
    rw [State.ctleManual, State.modHost_fld, kept]
    exact State.setFld_same _ _ (by decide) (Regs.fld_lt (f := HR_CTRL_CTLE_SET) s.regs)

theorem State.ctleSearched_evolves (s : State) (m : Fin 16) : Evolves hostParts s (s.ctleSearched m) :=
  State.modHost_evolves (State.setHrState_evolves (.refl _ s) (by decide)) (by decide)

theorem State.ctleSearched_shows (s : State) (m : Fin 16) : (s.ctleSearched m).hrState m = 4 ∧
    (s.ctleSearched m).host[m].acqStep = 4 ∧
    (s.ctleSearched m).fld (hostBase m) HR_CDR_CTLE_CUR = s.fld (hostBase m) HR_CDR_CTLE_CUR := by
  refine ⟨?_, by rw [State.ctleSearched, State.modHost_same], ?_⟩
  · rw [State.hrState, State.ctleSearched, State.modHost_fld]
    exact s.setHrState_hrState m (by decide)
  · rw [State.ctleSearched, State.modHost_fld, State.setHrState_fld _ m _ (by decide)]

theorem State.ctleFound_evolves (s : State) (m : Fin 16) (set : Nat) : Evolves hostParts s (s.ctleFound m set) :=
  State.modHost_evolves (State.setFld_evolves (.refl _ s) (regPart_host (by decide) (by decide))) (by decide)

/-- A field written with any number holds it modulo its width. -/
theorem State.setFld_mod (s : State) (base : Nat) {f : Field} (v : Nat) (h : f.lo + f.width ≤ 32) :
    (s.setFld base f v).fld base f = v % 2 ^ f.width := by rw [State.fld_eq, State.setFld_regs, Regs.fld_setFld_same _ h]

theorem State.ctleFound_shows (s : State) (m : Fin 16) (set : Nat) :
    (s.ctleFound m set).fld (hostBase m) HR_CDR_CTLE_CUR = set % 2 ^ HR_CDR_CTLE_CUR.width ∧
      (s.ctleFound m set).host[m].acqStep = 5 ∧ RegsBut [hostBase m + HR_CDR_CTLE_CUR.off] s (s.ctleFound m set) :=
  ⟨(State.modHost_fld _ m _ _ _).trans (s.setFld_mod _ set (by decide)), by rw [State.ctleFound, State.modHost_same],
    RegsBut.modHost (s.setFld_regsBut _ _ _) m _⟩

/-- LOCKED, the count and the time of the acquisition in the words of the lane (R105). -/
def State.hostLockShown (s : State) (m : Fin 16) : State :=
  let t := ((s.setHrState m 5).setFlag (hostBase m) HR_STATUS_LOCKED true).bump (hostBase m) HR_STATUS_ACQ_COUNT
  (t.setFld (hostBase m) HR_STATUS_LOCK_TIME (satNat 16 (tenMicros (t.tick - t.host[m].trigger)))).modHost m fun h =>
    { h with acqStep := 0, errRun := 0 }

theorem State.hostLock_same (s : State) (m : Fin 16) (skew : Nat) : HostSame m (s.hostLockShown m) (s.hostLock m skew) :=
  Evolves.hostSame (ps := .line :: .lineRegs :: raiseParts) (State.refreshHostFill_evolves (State.joinHostGroup_evolves
    (State.unsettleHost_evolves (.refl _ _) (by decide)) (by decide)) (by decide)) (by decide) (by decide)

theorem State.hostLockShown_shows (s : State) (m : Fin 16) : (s.hostLockShown m).hrState m = 5 ∧
    (s.hostLockShown m).hostLocked m = true ∧
    (s.hostLockShown m).fld (hostBase m) HR_STATUS_ACQ_COUNT =
      satNat HR_STATUS_ACQ_COUNT.width (s.fld (hostBase m) HR_STATUS_ACQ_COUNT + 1) ∧
    (s.hostLockShown m).fld (hostBase m) HR_STATUS_LOCK_TIME = satNat 16 (tenMicros (s.tick - s.host[m].trigger)) ∧
    (s.hostLockShown m).host[m].errRun = 0 := by
  refine ⟨?_, ?_, ?_, ?_, by rw [State.hostLockShown, State.modHost_same]⟩
  · rw [State.hrState, State.hostLockShown, State.modHost_fld, State.fld_setFld_apart _ _ _ (by decide),
      State.fld_bump_apart _ _ (by decide), State.fld_setFlag_apart _ _ _ (by decide)]
    exact s.setHrState_hrState m (by decide)
  · rw [State.hostLocked, State.hostLockShown, State.modHost_flag, State.flag_setFld_apart _ _ _ (by decide), State.flag,
      State.fld_bump_apart _ _ (by decide), ← State.flag]
    exact State.flag_setFlag_same _ _ _ (by decide) rfl
  · rw [State.hostLockShown, State.modHost_fld, State.fld_setFld_apart _ _ _ (by decide), State.bump_same _ _ (by decide),
      State.fld_setFlag_apart _ _ _ (by decide), State.setHrState_fld _ m _ (by decide)]
  · rw [State.hostLockShown, State.modHost_fld]
    refine (State.setFld_same _ _ (by decide) (satNat_lt 16 _)).trans ?_
    have tick : (s.setHrState m 5).tick = s.tick := by
      simp only [State.setHrState, State.modHost_other, State.setFld_other]
    have trigger : (s.setHrState m 5).host[m].trigger = s.host[m].trigger := by rw [State.setHrState_host]
    simp only [State.bump_other, State.setFlag_other]
    rw [tick, trigger]

theorem exec_hostAcqStepTimeout (hd : s.noneDue) (step : 3 ≤ s.host[m].acqStep) (search : s.hrState m ≠ 6)
    (los : s.flag (hostBase m) HR_STATUS_LOS = false) (runs : s.host[m].clocksStopped = false) :
    exec (.hostAcqStepTimeout m) s = .next (s.hrStep3 m) :=
  (if_pos ⟨step, search, by rw [los]; decide, by rw [runs]; decide⟩).trans (done_of_hostParts hd (s.hrStep3_evolves m))

/-- HR_ACQ_FAIL lies in one domain, whatever its detail word. -/
theorem State.takes_hostAcqFail {d : Nat} (d' : Nat) (h : s.takes (hostSrc m 0x44) d) : s.takes (hostSrc m 0x44) d' := by
  have domain (d : Nat) : srcDomain (hostSrc m 0x44) d = 24 + 2 * m.val := by
    have group : hostSrc m 0x44 / 256 = 0x20 + m.val := by unfold hostSrc; omega
    have source : hostSrc m 0x44 % 256 = 0x44 := by unfold hostSrc; omega
    rw [srcDomain, group, source]
    simp only [Nat.reduceEqDiff, false_and, or_self, if_false, Nat.add_sub_cancel_left]
    rw [if_neg (by omega), if_pos (by omega)]
  obtain ⟨severe, open', seen, level⟩ := h
  exact ⟨severe, by rwa [domain] at open' ⊢, seen, level⟩

theorem exec_hrAcqFail (signal : s.host[m].signal = true) (unlocked : s.hostLocked m = false) (on : s.hrState m ≠ 0) :
    exec (.hrAcqFail m) s = .next (s.raise (hostSrc m 0x44) s.host[m].highest).react :=
  if_pos ⟨signal, by rw [unlocked]; decide, on⟩

end

/-! ### Signal present and its loss (R195 to R197, R200) -/

section
variable {s : State} {m : Fin 16}

theorem exec_hrSignalPresent (hd : s.noneDue) (waits : s.hrState m = 1) (los : s.flag (hostBase m) HR_STATUS_LOS = false)
    (runs : s.host[m].clocksStopped = false) (mode : s.flag (hostBase m) TRAIN_CTRL_TRAIN_MODE = false) :
    exec (.hrSignalPresent m) s = .next ((s.hostSignalCount m).hrStep3 m) := by
  have counted : Evolves hostParts s ((s.hostSignalCount m).hrStep3 m) :=
    (State.hostSignalCount_evolves (.refl _ s) (by decide)).trans (State.hrStep3_evolves _ m)
  have still : (s.hostSignalCount m).hrState m = 1 := (State.modHost_fld _ m _ _ _).trans waits
  have stops : (s.hostSignalCount m).host[m].clocksStopped = false := by
    rw [State.hostSignalCount, State.modHost_same]; exact runs
  have goes : exec (.hrSignalPresent m) s = done ((s.hostSignalCount m).hostAfterSignal m) :=
    (if_neg (by rw [waits]; decide)).trans ((if_neg (by rw [los]; decide)).trans
      (if_pos ⟨still, by rw [stops]; decide⟩))
  have plain : (s.hostSignalCount m).flag (hostBase m) TRAIN_CTRL_TRAIN_MODE = false :=
    (State.modHost_flag _ m _ _ _).trans mode
  rw [goes, State.hostAfterSignal_plain plain, done_of_hostParts hd counted]

/-- LOS is set and raised. -/
def State.losRaised (s : State) (m : Fin 16) : State := (s.setFlag (hostBase m) HR_STATUS_LOS true).raise (hostSrc m 0x40) 0

/-- The lock and a training go with the signal. -/
def State.signalLost (s : State) (m : Fin 16) : State := ((s.losRaised m).trainAbandon m).hostLoseLock m

/-- The lane waits in NO_SIGNAL. -/
def State.signalGone (s : State) (m : Fin 16) : State :=
  ((s.signalLost m).setHrState m 1).modHost m fun h => { h with signal := false, acqStep := 0 }

theorem exec_hrLos (on : s.hrState m ≠ 0) (los : s.flag (hostBase m) HR_STATUS_LOS = false) :
    exec (.hrLos m) s = .next (s.signalGone m).react :=
  if_neg fun h => h.elim on fun set => absurd (set.symm.trans los) (by decide)

/-- A raise leaves the words and the records of the host lanes alone. -/
theorem State.raise_hostSame (s : State) (m : Fin 16) (src detail : Nat) : HostSame m s (s.raise src detail) :=
  Evolves.hostSame (ps := raiseParts) (State.raise_evolves (.refl _ _) (by decide)) (by decide) (by decide)

theorem State.losRaised_same (s : State) (m : Fin 16) :
    HostSame m (s.setFlag (hostBase m) HR_STATUS_LOS true) (s.losRaised m) := State.raise_hostSame _ m _ _

theorem State.signalLost_los (s : State) (m : Fin 16) : (s.signalLost m).flag (hostBase m) HR_STATUS_LOS = true := by
  rw [State.signalLost, State.hostLoseLock_flag _ m (by decide), State.flag, State.trainAbandon_fld _ m (by decide),
    ← State.flag, (s.losRaised_same m).flag (by decide)]
  exact s.flag_setFlag_same _ _ (by decide) rfl

theorem State.losRaised_trainState (s : State) (m : Fin 16) : (s.losRaised m).trainState m = s.trainState m :=
  ((s.losRaised_same m).fld (by decide)).trans (s.fld_setFlag_apart _ _ (by decide))

theorem State.signalLost_trainState (s : State) (m : Fin 16) :
    (s.signalLost m).trainState m = if s.trainState m = 1 then 4 else s.trainState m := by
  have abandoned : ((s.losRaised m).trainAbandon m).trainState m = if s.trainState m = 1 then 4 else s.trainState m := by
    rw [State.trainAbandon_trainState, s.losRaised_trainState]
  rw [State.signalLost, State.hostLoseLock_trainState ?_, abandoned]
  rw [abandoned]
  split
  · decide
  · assumption

theorem State.signalLost_isActive (takes : s.takes (hostSrc m 0x40) 0) : (s.signalLost m).isActive (hostSrc m 0x40) := by
  have open' : (s.setFlag (hostBase m) HR_STATUS_LOS true).takes (hostSrc m 0x40) 0 :=
    (State.setFlag_evolves (ps := [.hostRegs]) (.refl _ s) (regPart_host (by decide) (by decide))).takes (by decide)
      (by decide) (by decide) takes
  have raised : (s.losRaised m).isActive (hostSrc m 0x40) := State.raise_isActive_of_takes open' (by decide)
  have abandoned : Evolves [.hostRegs] (s.losRaised m) ((s.losRaised m).trainAbandon m) :=
    State.trainAbandon_evolves (.refl _ _) (by decide)
  exact State.hostLoseLock_active (hostSrc_ne_lineSrc m _)
    (State.isActive_of_fuse raised (abandoned.only .fuse (by decide))) m

theorem State.signalGone_fuse (s : State) (m : Fin 16) : (s.signalGone m).fuse = (s.signalLost m).fuse := by
  simp only [State.signalGone, State.setHrState, State.modHost_other, State.setFld_other]

theorem State.signalGone_fld (s : State) (m : Fin 16) {g : Field} (apart : g.Apart HR_STATUS_HR_STATE) :
    (s.signalGone m).fld (hostBase m) g = (s.signalLost m).fld (hostBase m) g := by
  rw [State.signalGone, State.modHost_fld, State.setHrState_fld _ m _ apart]

theorem State.losQuieted_same (s : State) (m : Fin 16) : HostSame m (s.setFlag (hostBase m) HR_STATUS_LOS false)
    ((s.setFlag (hostBase m) HR_STATUS_LOS false).quiet (hostSrc m 0x40)) :=
  Evolves.hostSame (ps := [.fuse]) (State.quiet_evolves (.refl _ _) (by decide)) (by decide) (by decide)

theorem State.hostLosEnd_los (s : State) (m : Fin 16) : (s.hostLosEnd m).flag (hostBase m) HR_STATUS_LOS = false := by
  rw [State.hostLosEnd, State.hostSignalCount, State.modHost_flag, (s.losQuieted_same m).flag (by decide)]
  exact s.flag_setFlag_same _ _ (by decide) rfl

theorem State.hostLosEnd_rails (s : State) (m : Fin 16) : hostSrc m 0x40 ∉ (s.hostLosEnd m).fuse.rails := by
  rw [State.hostLosEnd, State.hostSignalCount]
  simp only [State.modHost_other, State.quiet_rails]
  simp [List.mem_filter]

/-- Within 100 ms a lane that does not have to train tries a re-lock. -/
theorem exec_hrLosEnd (los : s.flag (hostBase m) HR_STATUS_LOS = true) (runs : s.host[m].clocksStopped = false)
    (mode : s.flag (hostBase m) TRAIN_CTRL_TRAIN_MODE = false) :
    exec (.hrLosEnd m true) s = .next ((s.hostLosEnd m).hostRelock m).react := by
  have stops : (s.hostLosEnd m).host[m].clocksStopped = false := by
    rw [State.hostLosEnd, State.hostSignalCount, State.modHost_same, (s.losQuieted_same m).host]
    simp only [State.setFlag_other]
    exact runs
  have plain : (s.hostLosEnd m).flag (hostBase m) TRAIN_CTRL_TRAIN_MODE = false := by
    rw [State.hostLosEnd, State.hostSignalCount, State.modHost_flag, (s.losQuieted_same m).flag (by decide),
      State.flag_setFlag_apart _ _ _ (by decide), mode]
  exact (if_pos los).trans ((if_neg (by rw [stops]; decide)).trans ((if_neg (by decide)).trans
    (if_neg (by rw [plain]; exact Bool.false_ne_true))))

end

end Sys2Proof.Machine
end

section
/-! The update of a host receiver, its lock losses, quality figures, sleep and checker, and O42 itself (R193, R194, R197, R198,
R201, R204). -/

namespace Sys2Proof.Machine

open Reg

/-! ### The update (R193, R194, R197) -/

section
variable {ps : List Part} {s t : State} {m : Fin 16} {v : HostRxUpdate} {g : Field}

/-- Whether the loops of a room run is decided by the domains, the memories, a deep test and safe state (R17). -/
theorem Evolves.roomRuns (h : Evolves ps s t) (hf : .fuse ∉ ps) (ht : .test ∉ ps) (hp : .powerRegs ∉ ps)
    (hm : .memProtRegs ∉ ps) (r : Nat) : t.roomRuns r = s.roomRuns r := by
  have fuse : t.fuse = s.fuse := h.only .fuse hf
  have map (f : Field) (hf : regPart (memProtBase + f.off) = .memProtRegs) : t.fld memProtBase f = s.fld memProtBase f :=
    h.fld (by rwa [hf])
  have bank (b : Nat) : t.bankDomain b = s.bankDomain b := by
    unfold State.bankDomain State.flag
    rw [map BANK_MAP_ENGINE_USED (by decide), map BANK_MAP_ENGINE_FOR (by decide)]
  simp only [State.roomRuns, State.roomUp, State.roomMemoryLost, h.domOn hp, h.deepHolds ht hm, h.retLost hm, bank, fuse]

theorem Evolves.hostLaneTask (h : Evolves [.host, .hostRegs] s t) (m : Fin 16) (k : Nat) :
    t.hostLaneTask m k = s.hostLaneTask m k :=
  Evolves.taskRuns h (by decide) (by decide) (by decide) (by decide) (by decide) (hostRoom m) (hostTask m k)

/-- No task of a room that does not run goes on. -/
theorem State.hostLaneTask_of_stopped (h : s.roomRuns (hostRoom m) = false) (k : Nat) : s.hostLaneTask m k = false := by
  rw [State.hostLaneTask, State.taskRuns, h, Bool.false_and]

/-- FREQ_OFFSET follows clock recovery, within its limit (R194). -/
def State.freqTaken (s : State) (m : Fin 16) (v : HostRxUpdate) : State :=
  s.setFld (hostBase m) HR_CDR_FREQ_OFFSET (intBits 16 (quantise (max (-200) (min 200 v.freq) * 100)))

/-- One FFE tap, while its task runs. -/
def State.ffeTaken (m : Fin 16) (e : Int × Nat) (s : State) : State :=
  s.when (s.hostLaneTask m (e.2 / 4)) fun s => s.setFld (hostBase m) (HR_FFE_COEF.ix e.2) (intBits 10 (satInt 10 e.1))

/-- The converter's offset and gain, while their task runs. -/
def State.adcTaken (s : State) (m : Fin 16) (v : HostRxUpdate) : State :=
  s.when (s.hostLaneTask m 7) fun s => s.modHost m fun h => { h with adcOffset := v.offset, adcGain := v.gain }

/-- The FFE, outside FFE_FREEZE. -/
def State.tapsAdapted (s : State) (m : Fin 16) (v : HostRxUpdate) : State :=
  (s.adcTaken m v).when (!s.flag (hostBase m) HR_CTRL_FFE_FREEZE) fun s => s.each (v.ffe.take 24).zipIdx (State.ffeTaken m)

/-- The DFE is on outside step 3 of an acquisition (R192). -/
def State.dfeOn (s : State) (m : Fin 16) : Bool := s.flag (hostBase m) HR_CTRL_DFE_EN && s.host[m].acqStep != 3

/-- The thresholds, and d1 outside FFE_FREEZE. -/
def State.dfeAdapted (s : State) (m : Fin 16) (v : HostRxUpdate) (frozen : Bool) : State :=
  let s := s.modHost m fun h => { h with thresholds := v.thresholds }
  if s.dfeOn m && frozen then s
  else s.setFld (hostBase m) HR_DFE_COEF (if s.dfeOn m then intBits 8 (satInt 8 v.dfe) else 0)

theorem State.hostAdapt_eq (s : State) (m : Fin 16) (v : HostRxUpdate) : s.hostAdapt m v =
    (s.tapsAdapted m v).when ((s.tapsAdapted m v).hostLaneTask m 6) fun t =>
      t.dfeAdapted m v (s.flag (hostBase m) HR_CTRL_FFE_FREEZE) := rfl

theorem exec_hostRxUpdate (v : HostRxUpdate) (on : 3 ≤ s.hrState m) (runs : s.host[m].clocksStopped = false) :
    exec (.hostRxUpdate m v) s =
      let t := (s.freqTaken m v).hostAdapt m v
      if t.hostLocked m && t.roomRuns (hostRoom m) then
        let run := if v.symbols < 100 * v.errors then t.host[m].errRun + 1 else 0
        if 64 ≤ run then done ((t.modHost m fun h => { h with errRun := run }).hostLol m 0)
        else done (t.modHost m fun h => { h with errRun := run })
      else done t := if_pos ⟨on, by rw [runs]; decide⟩

theorem State.freqTaken_evolves (s : State) (m : Fin 16) (v : HostRxUpdate) :
    Evolves [.host, .hostRegs] s (s.freqTaken m v) :=
  State.setFld_evolves (.refl _ s) (regPart_host (by decide) (by decide))

theorem State.freqTaken_adapt_evolves (s : State) (m : Fin 16) (v : HostRxUpdate) :
    Evolves [.host, .hostRegs] s ((s.freqTaken m v).hostAdapt m v) :=
  State.hostAdapt_evolves (s.freqTaken_evolves m v) (by decide)

theorem State.freqTaken_freq (s : State) (m : Fin 16) (v : HostRxUpdate) :
    (s.freqTaken m v).fld (hostBase m) HR_CDR_FREQ_OFFSET =
      intBits 16 (quantise (max (-200) (min 200 v.freq) * 100)) := s.setFld_same _ (by decide) (intBits_lt 16 _)

/-- The FFE keeps every field beside its taps, and the records. -/
theorem State.ffeTaken_keeps (s : State) (m : Fin 16) {e : Int × Nat} (apart : g.Apart (HR_FFE_COEF.ix e.2)) :
    (State.ffeTaken m e s).fld (hostBase m) g = s.fld (hostBase m) g := by
  unfold State.ffeTaken State.when
  split
  · exact s.fld_setFld_apart _ _ apart
  · rfl

theorem State.ffeTaken_evolves (s : State) (m : Fin 16) (e : Int × Nat) :
    Evolves [.hostRegs] s (State.ffeTaken m e s) := by
  have offset : (HR_FFE_COEF.ix e.2).off < 0x10000 := Field.ix_lt _ _
  unfold State.ffeTaken State.when
  split
  · exact State.setFld_evolves (.refl _ s) (regPart_host offset (by decide))
  · exact .refl _ s

theorem ffeIndex_lt {l : List Int} {e : Int × Nat} (he : e ∈ (l.take 24).zipIdx) : e.2 < 24 := by
  obtain ⟨lt, -⟩ := List.getElem?_eq_some_iff.1 (List.mem_zipIdx_iff_getElem?.1 he)
  exact lt.trans_le (List.length_take_le 24 l)

/-- The host tasks run in a state that differs in the words of the lanes alone. -/
theorem State.tapsAdapted_evolves (s : State) (m : Fin 16) (v : HostRxUpdate) :
    Evolves [.host, .hostRegs] s (s.tapsAdapted m v) := by
  have adc : Evolves [.host, .hostRegs] s (s.adcTaken m v) := by
    unfold State.adcTaken State.when
    split
    · exact State.modHost_evolves (.refl _ s) (by decide)
    · exact .refl _ s
  unfold State.tapsAdapted State.when
  split
  · exact State.each_keeps_mem (P := fun t => Evolves [.host, .hostRegs] s t)
      (fun e _ t h => h.trans ((t.ffeTaken_evolves m e).mono (by decide))) adc
  · exact adc

theorem State.adcTaken_fld (s : State) (m : Fin 16) (v : HostRxUpdate) (base : Nat) (g : Field) :
    (s.adcTaken m v).fld base g = s.fld base g := by
  unfold State.adcTaken State.when
  split
  · exact s.modHost_fld m _ _ _
  · rfl

/-- The FFE writes its taps alone. -/
theorem State.tapsAdapted_fld (s : State) (m : Fin 16) (v : HostRxUpdate)
    (apart : ∀ k : Fin 24, g.Apart (HR_FFE_COEF.ix k.val)) :
    (s.tapsAdapted m v).fld (hostBase m) g = s.fld (hostBase m) g := by
  unfold State.tapsAdapted
  rw [State.when]
  split
  · exact State.each_keeps_mem (P := fun t => t.fld (hostBase m) g = s.fld (hostBase m) g)
      (fun e he t h => (t.ffeTaken_keeps m (apart ⟨e.2, ffeIndex_lt he⟩)).trans h) (s.adcTaken_fld m v _ _)
  · exact s.adcTaken_fld m v _ _

/-- The record keeps what the converter's task leaves in it. -/
theorem State.tapsAdapted_host (s : State) (m : Fin 16) (v : HostRxUpdate) :
    (s.tapsAdapted m v).host = (s.adcTaken m v).host := by
  unfold State.tapsAdapted
  rw [State.when]
  split
  · exact State.each_keeps_mem (P := fun t => t.host = (s.adcTaken m v).host)
      (fun e _ t h => ((t.ffeTaken_evolves m e).host_eq (by decide)).trans h) rfl
  · rfl

theorem ffe_ix_apart : ∀ j k : Fin 24, j ≠ k → (HR_FFE_COEF.ix j.val).Apart (HR_FFE_COEF.ix k.val) := by decide

theorem ffe_apart_dfe : ∀ k : Fin 24, (HR_FFE_COEF.ix k.val).Apart HR_DFE_COEF := by decide

/-- Outside FFE_FREEZE each tap whose task runs takes what the room leaves. -/
theorem State.tapsAdapted_tap (thaws : s.flag (hostBase m) HR_CTRL_FFE_FREEZE = false) {k : Fin 24} {x : Int}
    (hx : v.ffe[k.val]? = some x) (task : s.hostLaneTask m (k.val / 4) = true) :
    (s.tapsAdapted m v).fld (hostBase m) (HR_FFE_COEF.ix k.val) = intBits 10 (satInt 10 x) := by
  have mem : (x, k.val) ∈ (v.ffe.take 24).zipIdx := by
    rw [List.mk_mem_zipIdx_iff_getElem?, List.getElem?_take_of_lt k.isLt, hx]
  have keepsTask (t : State) (e : Int × Nat) (j : Nat) :
      (State.ffeTaken m e t).hostLaneTask m j = t.hostLaneTask m j :=
    ((t.ffeTaken_evolves m e).mono (by decide)).hostLaneTask m j
  have written := State.each_mem (l := (v.ffe.take 24).zipIdx) (f := State.ffeTaken m)
    (P := fun e t => t.hostLaneTask m (e.2 / 4) = true →
      t.fld (hostBase m) (HR_FFE_COEF.ix e.2) = intBits 10 (satInt 10 e.1))
    (fun e _ t => ?own) (fun e he y hy ne t h => ?others) (s.adcTaken m v) (x, k.val) mem
  case own =>
    intro runs
    rw [keepsTask] at runs
    rw [State.ffeTaken, State.when, if_pos runs]
    exact t.setFld_same _ (by simp only [Field.ix, HR_FFE_COEF]; decide) (intBits_lt 10 _)
  case others =>
    intro runs
    rw [keepsTask] at runs
    have apart := ffe_ix_apart ⟨y.2, ffeIndex_lt hy⟩ ⟨e.2, ffeIndex_lt he⟩ fun same =>
      ne (zipIdx_eq_of_index he hy (congrArg Fin.val same))
    exact (t.ffeTaken_keeps m apart).trans (h runs)
  have adapts : s.tapsAdapted m v = (s.adcTaken m v).each (v.ffe.take 24).zipIdx (State.ffeTaken m) :=
    if_pos (by rw [thaws]; rfl)
  have runs := (s.tapsAdapted_evolves m v).hostLaneTask m (k.val / 4)
  rw [adapts] at runs ⊢
  exact written (runs.trans task)

theorem State.dfeAdapted_fld (s : State) (m : Fin 16) (v : HostRxUpdate) (frozen : Bool) (apart : g.Apart HR_DFE_COEF) :
    (s.dfeAdapted m v frozen).fld (hostBase m) g = s.fld (hostBase m) g := by
  unfold State.dfeAdapted
  dsimp only
  split
  · exact s.modHost_fld m _ _ _
  · exact (State.fld_setFld_apart _ _ _ apart).trans (s.modHost_fld m _ _ _)

theorem State.dfeAdapted_host (s : State) (m : Fin 16) (v : HostRxUpdate) (frozen : Bool) :
    (s.dfeAdapted m v frozen).host[m] = { s.host[m] with thresholds := v.thresholds } := by
  unfold State.dfeAdapted
  dsimp only
  split
  · exact s.modHost_same m _
  · simp only [State.setFld_other]
    exact s.modHost_same m _

/-- Outside FFE_FREEZE d1 follows the room, and is 0 without the DFE. -/
theorem State.dfeAdapted_dfe (s : State) (m : Fin 16) (v : HostRxUpdate) :
    (s.dfeAdapted m v false).fld (hostBase m) HR_DFE_COEF =
      if s.flag (hostBase m) HR_CTRL_DFE_EN = true ∧ s.host[m].acqStep ≠ 3 then intBits 8 (satInt 8 v.dfe) else 0 := by
  have on : (s.modHost m fun h => { h with thresholds := v.thresholds }).dfeOn m = s.dfeOn m := by
    rw [State.dfeOn, State.modHost_flag, State.modHost_same, State.dfeOn]
  have bound : (if s.dfeOn m = true then intBits 8 (satInt 8 v.dfe) else 0) < 2 ^ 8 := by
    split
    · exact intBits_lt 8 _
    · decide
  unfold State.dfeAdapted
  dsimp only
  rw [on, Bool.and_false, if_neg Bool.false_ne_true]
  refine (State.setFld_same _ _ (by decide) bound).trans ?_
  simp only [State.dfeOn, Bool.and_eq_true, bne_iff_ne]

/-- The FFE and d1 are all that adapts in the words of the lane. -/
theorem State.hostAdapt_fld (s : State) (m : Fin 16) (v : HostRxUpdate)
    (taps : ∀ k : Fin 24, g.Apart (HR_FFE_COEF.ix k.val)) (dfe : g.Apart HR_DFE_COEF) :
    (s.hostAdapt m v).fld (hostBase m) g = s.fld (hostBase m) g := by
  rw [s.hostAdapt_eq, State.when]
  split
  · rw [State.dfeAdapted_fld _ m v _ dfe, s.tapsAdapted_fld m v taps]
  · exact s.tapsAdapted_fld m v taps

theorem State.hostAdapt_errRun (s : State) (m : Fin 16) (v : HostRxUpdate) :
    (s.hostAdapt m v).host[m].errRun = s.host[m].errRun := by
  have taps : (s.tapsAdapted m v).host[m].errRun = s.host[m].errRun := by
    rw [s.tapsAdapted_host, State.adcTaken, State.when]
    split
    · rw [State.modHost_same]
    · rfl
  rw [s.hostAdapt_eq, State.when]
  split
  · rw [State.dfeAdapted_host, taps]
  · exact taps

/-- A room that does not run adapts nothing. -/
theorem State.hostAdapt_of_stopped (stopped : s.roomRuns (hostRoom m) = false) : s.hostAdapt m v = s := by
  have task := State.hostLaneTask_of_stopped (m := m) stopped
  have adc : s.adcTaken m v = s := if_neg (by rw [task]; decide)
  have taps : s.tapsAdapted m v = s := by
    rw [State.tapsAdapted, adc, State.when]
    split
    · refine State.each_keeps_mem (P := fun t => t = s) (fun e _ t h => ?_) rfl
      rw [h]
      exact if_neg (by rw [task]; decide)
    · rfl
  rw [s.hostAdapt_eq, taps]
  exact if_neg (by rw [task]; decide)

/-- While its tasks run, and outside FFE_FREEZE, everything adapts. -/
theorem State.hostAdapt_of_running (tasks : ∀ k : Fin 16, s.hostLaneTask m k.val = true)
    (thaws : s.flag (hostBase m) HR_CTRL_FFE_FREEZE = false) :
    s.hostAdapt m v = (s.tapsAdapted m v).dfeAdapted m v false := by
  have task : (s.tapsAdapted m v).hostLaneTask m 6 = true := ((s.tapsAdapted_evolves m v).hostLaneTask m 6).trans (tasks 6)
  rw [s.hostAdapt_eq, thaws]
  exact if_pos task

theorem State.tapsAdapted_adc (task : s.hostLaneTask m 7 = true) : (s.tapsAdapted m v).host[m] =
    { s.host[m] with adcOffset := v.offset, adcGain := v.gain } := by
  rw [s.tapsAdapted_host, State.adcTaken, State.when, if_pos task, State.modHost_same]

theorem exec_hostRxUpdate_stopped (hd : s.noneDue) (on : 3 ≤ s.hrState m) (runs : s.host[m].clocksStopped = false)
    (stopped : s.roomRuns (hostRoom m) = false) : exec (.hostRxUpdate m v) s = .next (s.freqTaken m v) := by
  have taken := s.freqTaken_evolves m v
  have stays : (s.freqTaken m v).roomRuns (hostRoom m) = false :=
    (taken.roomRuns (by decide) (by decide) (by decide) (by decide) _).trans stopped
  rw [exec_hostRxUpdate v on runs, State.hostAdapt_of_stopped stays]
  refine (if_neg ?_).trans (taken.done_eq (by decide) hd)
  rw [stays, Bool.and_false]
  exact Bool.false_ne_true

theorem exec_hostRxUpdate_unlocked (hd : s.noneDue) (on : 3 ≤ s.hrState m) (runs : s.host[m].clocksStopped = false)
    (unlocked : s.hostLocked m = false) :
    exec (.hostRxUpdate m v) s = .next ((s.freqTaken m v).hostAdapt m v) := by
  have still : ((s.freqTaken m v).hostAdapt m v).hostLocked m = false := by
    rw [State.hostLocked, State.flag, State.hostAdapt_fld _ m v (by decide) (by decide), State.freqTaken,
      s.fld_setFld_apart _ _ (by decide), ← State.flag]
    exact unlocked
  rw [exec_hostRxUpdate v on runs]
  refine (if_neg ?_).trans ((s.freqTaken_adapt_evolves m v).done_eq (by decide) hd)
  rw [still, Bool.false_and]
  exact Bool.false_ne_true

/-- The 64th update in a row with too many errors loses the lock. -/
theorem exec_hostRxUpdate_lol (on : 3 ≤ s.hrState m) (runs : s.host[m].clocksStopped = false)
    (locked : s.hostLocked m = true) (room : s.roomRuns (hostRoom m) = true) (errors : v.symbols < 100 * v.errors)
    (run : 63 ≤ s.host[m].errRun) : exec (.hostRxUpdate m v) s =
      .next ((((s.freqTaken m v).hostAdapt m v).modHost m fun h => { h with errRun := s.host[m].errRun + 1 }).hostLol m
        0).react := by
  have adapted := s.freqTaken_adapt_evolves m v
  have still : ((s.freqTaken m v).hostAdapt m v).hostLocked m = true := by
    rw [State.hostLocked, State.flag, State.hostAdapt_fld _ m v (by decide) (by decide), State.freqTaken,
      s.fld_setFld_apart _ _ (by decide), ← State.flag]
    exact locked
  have errRun : ((s.freqTaken m v).hostAdapt m v).host[m].errRun = s.host[m].errRun := by
    rw [State.hostAdapt_errRun, State.freqTaken]
    simp only [State.setFld_other]
  have again : ((s.freqTaken m v).hostAdapt m v).roomRuns (hostRoom m) = true :=
    (adapted.roomRuns (by decide) (by decide) (by decide) (by decide) _).trans room
  rw [exec_hostRxUpdate v on runs]
  dsimp only
  rw [if_pos (by rw [still, again]; rfl), if_pos errors, errRun, if_pos (by omega)]

theorem exec_hrCdrLimit (locked : s.hostLocked m = true) : exec (.hrCdrLimit m) s = .next (s.hostLol m 1).react :=
  if_pos locked

/-- A re-lock that does not lock in time starts a full acquisition (R197). -/
theorem exec_hostRelockTimeout (hd : s.noneDue) (relocks : s.hrState m = 6) (unlocked : s.hostLocked m = false)
    (may : s.rxMay m = true) (clocked : s.rxClocked m = true) (signal : s.host[m].signal = true)
    (los : s.flag (hostBase m) HR_STATUS_LOS = false) (mode : s.flag (hostBase m) TRAIN_CTRL_TRAIN_MODE = false) :
    exec (.hostRelockTimeout m) s = .next ((s.hostAcqBegun m).hrStep3 m) := by
  have starts : s.hostAcqStart m = (s.hostAcqBegun m).hrStep3 m := by
    rw [State.hostAcqStart_goesOn may clocked signal los, State.hostLoseLock_of_unlocked unlocked,
      State.hostAfterSignal_plain ((s.hostAcqBegun_flag m (by decide) (by decide)).trans mode)]
  have begun : Evolves (.lineRegs :: .memProtRegs :: hostParts) s ((s.hostAcqBegun m).hrStep3 m) :=
    ((s.hostAcqBegun_evolves m).mono (by decide)).trans ((State.hrStep3_evolves _ m).mono (by decide))
  exact (if_pos relocks).trans ((congrArg done starts).trans (begun.done_eq (by decide) hd))

end

/-! ### The quality figures (R198) -/

section
variable {s : State} {m : Fin 16} {q : HostQuality} {g : Field}

theorem hostSnr_lt (l : List (Rat × Fin 4)) (err : Int) : hostSnr l err < 0x10000 := by
  unfold hostSnr
  dsimp only
  split <;> exact satNat_lt 16 _

/-- EYE_W, while its task runs. -/
def State.hostEyePublished (s : State) (m : Fin 16) (q : HostQuality) : State :=
  s.when (s.hostLaneTask m 10) fun s => s.setFld (hostBase m) HR_QUAL_EYE_W (hostEye q.scan q.eyeErr)

/-- SNR with SNR_LOW and what is held of it. -/
def State.hostSnrPublished (s : State) (m : Fin 16) (snr : Nat) (low held : Bool) : State :=
  ((s.setFld (hostBase m) HR_QUAL_SNR snr).setFlag (hostBase m) HR_STATUS_SNR_LOW low).modHost m fun h =>
    { h with snrHeld := held }

theorem State.hostEyePublished_evolves (s : State) (m : Fin 16) (q : HostQuality) :
    Evolves [.host, .hostRegs] s (s.hostEyePublished m q) := by
  unfold State.hostEyePublished State.when
  split
  · exact State.setFld_evolves (.refl _ s) (regPart_host (by decide) (by decide))
  · exact .refl _ s

theorem State.hostEyePublished_fld (s : State) (m : Fin 16) (q : HostQuality) (h : g.Apart HR_QUAL_EYE_W) :
    (s.hostEyePublished m q).fld (hostBase m) g = s.fld (hostBase m) g := by
  unfold State.hostEyePublished State.when
  split
  · exact s.fld_setFld_apart _ _ h
  · rfl

theorem State.hostEyePublished_host (s : State) (m : Fin 16) (q : HostQuality) : (s.hostEyePublished m q).host = s.host := by
  unfold State.hostEyePublished State.when
  split
  · simp only [State.setFld_other]
  · rfl

theorem State.hostEyePublished_eye (task : s.hostLaneTask m 10 = true) :
    (s.hostEyePublished m q).fld (hostBase m) HR_QUAL_EYE_W = hostEye q.scan q.eyeErr := by
  rw [State.hostEyePublished, State.when, if_pos task]
  exact s.setFld_same _ (by decide) (satNat_lt 10 _)

theorem State.hostSnrPublished_evolves (s : State) (m : Fin 16) (snr : Nat) (low held : Bool) :
    Evolves [.host, .hostRegs] s (s.hostSnrPublished m snr low held) :=
  State.modHost_evolves (State.setFlag_evolves (State.setFld_evolves (.refl _ s) (regPart_host (by decide) (by decide)))
    (regPart_host (by decide) (by decide))) (by decide)

theorem State.hostSnrPublished_shows (s : State) (m : Fin 16) {snr : Nat} (lt : snr < 0x10000) (low held : Bool) :
    (s.hostSnrPublished m snr low held).fld (hostBase m) HR_QUAL_SNR = snr ∧
      (s.hostSnrPublished m snr low held).flag (hostBase m) HR_STATUS_SNR_LOW = low ∧
      (s.hostSnrPublished m snr low held).host[m].snrHeld = held := by
  refine ⟨?_, ?_, by rw [State.hostSnrPublished, State.modHost_same]⟩
  · rw [State.hostSnrPublished, State.modHost_fld, State.fld_setFlag_apart _ _ _ (by decide)]
    exact s.setFld_same _ (by decide) lt
  · exact (State.modHost_flag _ m _ _ _).trans (State.flag_setFlag_same _ _ _ (by decide) rfl)

theorem State.hostSnrPublished_eye (s : State) (m : Fin 16) (snr : Nat) (low held : Bool) :
    (s.hostSnrPublished m snr low held).fld (hostBase m) HR_QUAL_EYE_W = s.fld (hostBase m) HR_QUAL_EYE_W := by
  rw [State.hostSnrPublished, State.modHost_fld, State.fld_setFlag_apart _ _ _ (by decide),
    s.fld_setFld_apart _ _ (by decide)]

/-- The SNR is published and judged by SNR_WARN, with 0.5 dB of hysteresis (R108, R198). -/
def State.hostSnrJudged (s : State) (m : Fin 16) (snr : Nat) : Result State Fault Refusal :=
  let warn := 25 * s.fld (hostBase m) HR_CTRL_SNR_WARN
  let t := (s.setFld (hostBase m) HR_QUAL_SNR snr).setFlag (hostBase m) HR_STATUS_SNR_LOW (decide (snr < warn))
  let held := t.host[m].snrHeld && decide (snr < warn + 50)
  let t := t.modHost m fun h => { h with snrHeld := held || decide (snr < warn) }
  if snr < warn ∧ ¬held then done (t.raise (hostSrc m 0x42) snr) else done t

theorem exec_hrQualPublish (q : HostQuality) (locked : s.hostLocked m = true) (task : s.hostLaneTask m 9 = true) :
    exec (.hrQualPublish m q) s = (s.hostEyePublished m q).hostSnrJudged m (hostSnr q.symbols q.snrErr) :=
  (if_pos locked).trans (if_pos (((s.hostEyePublished_evolves m q).hostLaneTask m 9).trans task))

/-- Half a decibel above the level nothing is held. -/
theorem State.hostSnrJudged_high {snr : Nat} (hd : s.noneDue)
    (high : 25 * s.fld (hostBase m) HR_CTRL_SNR_WARN + 50 ≤ snr) :
    s.hostSnrJudged m snr = .next (s.hostSnrPublished m snr false false) := by
  have above : decide (snr < 25 * s.fld (hostBase m) HR_CTRL_SNR_WARN) = false := decide_eq_false (by omega)
  have clear : decide (snr < 25 * s.fld (hostBase m) HR_CTRL_SNR_WARN + 50) = false := decide_eq_false (by omega)
  have judged : s.hostSnrJudged m snr = done (s.hostSnrPublished m snr false false) := by
    rw [State.hostSnrJudged, if_neg (by omega), above, clear, Bool.and_false, Bool.or_false, State.hostSnrPublished]
  exact judged.trans ((s.hostSnrPublished_evolves m snr false false).done_eq (by decide) hd)

/-- Below the level it is raised once. -/
theorem State.hostSnrJudged_low {snr : Nat} (fresh : s.host[m].snrHeld = false)
    (low : snr < 25 * s.fld (hostBase m) HR_CTRL_SNR_WARN) : s.hostSnrJudged m snr =
      .next ((s.hostSnrPublished m snr true true).raise (hostSrc m 0x42) snr).react := by
  have below : decide (snr < 25 * s.fld (hostBase m) HR_CTRL_SNR_WARN) = true := decide_eq_true low
  have held : ((s.setFld (hostBase m) HR_QUAL_SNR snr).setFlag (hostBase m) HR_STATUS_SNR_LOW true).host[m].snrHeld =
      false := by simp only [State.setFlag_other, State.setFld_other]; exact fresh
  rw [State.hostSnrJudged, below, held, Bool.false_and, if_pos ⟨low, Bool.false_ne_true⟩, Bool.or_true,
    State.hostSnrPublished]

end

/-! ### Sleep and the checker (R201, R204) -/

section
variable {s : State} {m : Fin 16}

/-- HR_SLEEP outside a loop-back stops the receiver. -/
theorem exec_hrSleepWrite_on (reacq : Bool) (loop : s.hostLoop m = 0) : exec (.hrSleepWrite m true reacq) s =
    .next (((s.setFlag (hostBase m) HR_CTRL_HR_SLEEP true).hostRxStop m).hostVotes m).react := by
  have outside : (s.setFlag (hostBase m) HR_CTRL_HR_SLEEP true).hostLoop m = 0 :=
    (s.fld_setFlag_apart _ _ (by decide)).trans loop
  exact congrArg done ((if_neg (not_not.2 outside)).trans (if_pos rfl))

/-- A selection that changes nothing of what the checker looks for. -/
theorem exec_hostChkSelWrite_same {sel : BitVec 3} (hd : s.noneDue)
    (same : patSel (s.fld (hostBase m) HR_PAT_CTRL_CHK_SEL) = patSel sel.toNat) :
    exec (.hostChkSelWrite m sel) s = .next (s.setFld (hostBase m) HR_PAT_CTRL_CHK_SEL sel.toNat) :=
  (congrArg done (if_pos same)).trans (done_of_hostParts hd
    (State.setFld_evolves (.refl _ s) (regPart_host (by decide) (by decide))))

/-- Another selection: the checker stops. -/
def State.hostChkSelected (s : State) (m : Fin 16) (sel : Nat) : State :=
  (s.setFld (hostBase m) HR_PAT_CTRL_CHK_SEL sel).hostChkOff m

theorem State.hostChkOff_fld (s : State) (m : Fin 16) {g : Field} (apart : g.Apart HR_PAT_STATUS_CHK_LOCK) :
    (s.hostChkOff m).fld (hostBase m) g = s.fld (hostBase m) g :=
  (State.modHost_fld _ m _ _ _).trans (s.fld_setFlag_apart _ _ apart)

theorem State.hostChkSelected_locked (s : State) (m : Fin 16) (sel : Nat) :
    (s.hostChkSelected m sel).hostLocked m = s.hostLocked m := by
  rw [State.hostLocked, State.flag, State.hostChkSelected, State.hostChkOff_fld _ m (by decide),
    s.fld_setFld_apart _ _ (by decide), ← State.flag, State.hostLocked]

/-- A locked lane searches again. -/
theorem exec_hostChkSelWrite_changed {sel : BitVec 3}
    (changed : patSel (s.fld (hostBase m) HR_PAT_CTRL_CHK_SEL) ≠ patSel sel.toNat) :
    exec (.hostChkSelWrite m sel) s = .next ((s.hostChkSelected m sel.toNat).hostSearchAgain m).react :=
  congrArg done (if_neg changed)

theorem State.hostSearchAgain_of_locked (locked : s.hostLocked m = true) :
    s.hostSearchAgain m = (s.hostLoseLock m).hostRelock m := if_pos locked

end

/-- Settles O42: each command by the state that it answers, read through the words and the record of the lane; what a lost
lock, an acquisition and a stop leave of them is said once above. -/
theorem hostReceiver : Obligations.HostReceiver := by
  unfold Obligations.HostReceiver
  refine ⟨?enableOff, ?enableOn, ?reacq, ?ctle, ?ctleLocked, ?manual, ?search, ?found, ?locks, ?timeout, ?acqFail, ?present,
    ?los, ?losEnd, ?update, ?stopped, ?errors, ?cdrLimit, ?relockTimeout, ?snrHigh, ?snrLow, ?sleep, ?chkSame, ?chkChanged⟩
  case enableOff =>
    rintro m _ s _ rfl unlocked
    refine ⟨_, exec_hrEnable_off m s, ?_⟩
    have voted := ((s.hrEnWritten m false).hostRxStop m).hostVotes_hostSame m
    obtain ⟨signal, retained⟩ := (s.hrEnWritten m false).hostRxStop_host m
    have still : (s.hrEnWritten m false).hostLocked m = false := (s.hrEnWritten_flag m false (by decide)).trans unlocked
    refine ⟨?_, (voted.fld (by decide)).trans (State.hostRxStop_hrState _ m),
      (voted.flag (by decide)).trans (State.hostRxStop_los _ m), ?_, ?_, ?_⟩
    · rw [voted.flag (by decide), State.flag, State.hostRxStop_fld _ m (by decide) (by decide) (by decide), ← State.flag,
        State.hostLoseLock_flag _ m (by decide)]
      exact s.hrEnWritten_en m false
    · rw [voted.host, retained, still, s.hrEnWritten_host]
      rfl
    · rw [voted.host, signal]
    · rw [State.hostVotes_rails]
      exact State.hostRxStop_rails _ m
  case enableOn =>
    rintro m _ s hd rfl unlocked used awake dom syn deep signal
    refine ⟨_, exec_hrEnable_waits hd unlocked used awake dom (State.rxClocked_of syn deep) signal, ?_⟩
    obtain ⟨trigger, step, retained, -⟩ := (s.hrVoted m).hostAcqBegun_host m
    refine ⟨(State.hostAcqBegun_flag _ m (by decide) (by decide)).trans (s.hrVoted_en m), State.hostAcqBegun_hrState _ m,
      trigger.trans ((s.hrVoted_evolves m).only .tick (by decide)), step, ?_⟩
    rw [retained, s.hrVoted_host]
  case reacq =>
    intro m s _ on used en awake dom syn deep signal
    have waits := State.hostAcqStart_waits (State.rxMay_of used en awake dom) (State.rxClocked_of syn deep) signal
    obtain ⟨trigger, -⟩ := (s.hostLoseLock m).hostAcqBegun_host m
    refine ⟨_, exec_hostReacq on, State.hostAcqStart_locked (State.rxMay_of used en awake dom), ?_, ?_⟩
    · rw [waits, State.hostAcqBegun_hrState]
    · rw [waits, trigger, State.hostLoseLock_tick]
  case ctle =>
    exact fun m man set s hd unlocked => ⟨_, exec_hostCtleWrite_unlocked man set hd unlocked,
      s.hostCtleWritten_shows m man set⟩
  case ctleLocked =>
    intro m man set s _ locked changed used en awake dom
    have may := State.hostCtleWritten_may man set.toNat (State.rxMay_of used en awake dom)
    obtain ⟨manual, setting⟩ := s.hostCtleWritten_shows m man set
    refine ⟨_, exec_hostCtleWrite_locked set locked changed, State.hostAcqStart_locked may, ?_,
      (State.hostAcqStart_fld may (by decide)).trans setting⟩
    rw [State.flag, State.hostAcqStart_fld may (by decide), ← State.flag, manual]
  case manual =>
    intro m r s hd los runs search step man
    have taken := State.hostStepDone_step3 r search step
    rw [if_pos man] at taken
    exact ⟨_, (exec_hostAcqStepDone r los runs).trans ((congrArg done taken).trans
      (done_of_hostParts hd (s.ctleManual_evolves m))), s.ctleManual_shows m⟩
  case search =>
    intro m r s hd los runs search step man
    have taken := State.hostStepDone_step3 r search step
    rw [man, if_neg Bool.false_ne_true] at taken
    exact ⟨_, (exec_hostAcqStepDone r los runs).trans ((congrArg done taken).trans
      (done_of_hostParts hd (s.ctleSearched_evolves m))), s.ctleSearched_shows m⟩
  case found =>
    intro m r s hd los runs search step
    have taken := State.hostStepDone_step4 r search step
    exact ⟨_, (exec_hostAcqStepDone r los runs).trans ((congrArg done taken).trans
      (done_of_hostParts hd (s.ctleFound_evolves m _))), s.ctleFound_shows m _⟩
  case locks =>
    intro m r s _ los runs search found
    obtain ⟨hr, locked, count, time, run⟩ := s.hostLockShown_shows m
    have same := s.hostLock_same m r.skew
    refine ⟨_, (exec_hostAcqStepDone r los runs).trans (congrArg done (State.hostStepDone_locks r search found)),
      (same.fld (by decide)).trans hr, (same.flag (by decide)).trans locked, (same.fld (by decide)).trans count,
      (same.fld (by decide)).trans time, ?_⟩
    rw [same.host, run]
  case timeout =>
    intro m s hd step search los runs
    exact ⟨_, exec_hostAcqStepTimeout hd step search los runs, s.hrStep3_hrState m, by rw [s.hrStep3_host],
      s.hrStep3_regsBut m⟩
  case acqFail =>
    exact fun m s _ signal unlocked on takes => ⟨_, exec_hrAcqFail signal unlocked on,
      State.raise_isActive (State.takes_hostAcqFail _ takes)⟩
  case present =>
    intro m s hd waits los runs mode
    have counted : (s.hostSignalCount m).host[m] = { s.host[m] with signal := true, highest := 1 } := by
      rw [State.hostSignalCount, State.modHost_same, waits]
      rfl
    refine ⟨_, exec_hrSignalPresent hd waits los runs mode, State.hrStep3_hrState _ m, ?_, ?_, ?_, ?_⟩
    · rw [State.hrStep3_host, counted]
    · rw [State.hrStep3_host]
    · rw [State.hrStep3_host, counted]
      rfl
    · exact fun a ha => (State.hrStep3_regsBut _ m a ha).trans (RegsBut.modHost (fun _ _ => rfl) m _ a ha)
  case los =>
    intro m s _ on los takes
    refine ⟨_, exec_hrLos on los, ?_, ?_, ?_, by rw [State.signalGone, State.modHost_same], ?_,
      State.isActive_of_fuse (s.signalLost_isActive takes) (s.signalGone_fuse m)⟩
    · rw [State.flag, s.signalGone_fld m (by decide), ← State.flag, s.signalLost_los]
    · exact (State.modHost_fld _ m _ _ _).trans (State.setHrState_hrState _ m (by decide))
    · rw [State.hostLocked, State.flag, s.signalGone_fld m (by decide), ← State.flag]
      exact State.hostLoseLock_locked _ m
    · exact (s.signalGone_fld m (by decide)).trans (s.signalLost_trainState m)
  case losEnd =>
    rintro m _ s _ los runs rfl mode
    refine ⟨_, exec_hrLosEnd los runs mode, ?_, State.hostRelock_hrState _ m, ?_, ?_⟩
    · rw [State.hostRelock_flag _ m (by decide) (by decide), s.hostLosEnd_los]
    · rw [State.hostRelock_signal, State.hostLosEnd, State.hostSignalCount, State.modHost_same]
    · rw [State.hostRelock_fuse]
      exact s.hostLosEnd_rails m
  case update =>
    intro m v s hd on runs unlocked tasks thaws _
    have taken := s.freqTaken_evolves m v
    have task (k : Fin 16) : (s.freqTaken m v).hostLaneTask m k.val = true := (taken.hostLaneTask m _).trans (tasks k)
    have thawed : (s.freqTaken m v).flag (hostBase m) HR_CTRL_FFE_FREEZE = false :=
      (s.flag_setFld_apart _ _ (by decide)).trans thaws
    have adapts := State.hostAdapt_of_running (v := v) task thawed
    have adc := State.tapsAdapted_adc (v := v) (task 7)
    refine ⟨_, exec_hostRxUpdate_unlocked hd on runs unlocked, ?_, ?_, ?_, ?_, fun k x hx => ?_, ?_⟩
    · exact (State.hostAdapt_fld _ m v (by decide) (by decide)).trans (s.freqTaken_freq m v)
    iterate 3 rw [adapts, State.dfeAdapted_host, adc]
    · rw [adapts, State.dfeAdapted_fld _ m v _ (ffe_apart_dfe k)]
      exact State.tapsAdapted_tap thawed hx (task ⟨k.val / 4, by omega⟩)
    · have flag : ((s.freqTaken m v).tapsAdapted m v).flag (hostBase m) HR_CTRL_DFE_EN =
          s.flag (hostBase m) HR_CTRL_DFE_EN := by
        rw [State.flag, State.tapsAdapted_fld _ m v (by decide), ← State.flag]
        exact s.flag_setFld_apart _ _ (by decide)
      have step : (s.freqTaken m v).host = s.host := by simp only [State.freqTaken, State.setFld_other]
      rw [adapts, State.dfeAdapted_dfe, flag, adc, step]
  case stopped =>
    intro m v s hd on runs stopped
    refine ⟨_, exec_hostRxUpdate_stopped hd on runs stopped, s.freqTaken_freq m v, s.setFld_regsBut _ _ _, ?_⟩
    simp only [State.freqTaken, State.setFld_other]
  case errors =>
    exact fun m v s _ on room runs locked errors run => ⟨_, exec_hostRxUpdate_lol on runs locked room errors run,
      State.relocks _ m⟩
  case cdrLimit =>
    intro m s _ locked takes
    obtain ⟨unlocked, relocks⟩ := (s.raise (hostSrc m 0x41) 1).relocks m
    exact ⟨_, exec_hrCdrLimit locked, unlocked, relocks, State.hostLol_isActive takes (by decide)⟩
  case relockTimeout =>
    intro m s hd relocks los used en awake dom syn deep signal unlocked mode
    obtain ⟨trigger, -⟩ := s.hostAcqBegun_host m
    refine ⟨_, exec_hostRelockTimeout hd relocks unlocked (State.rxMay_of used en awake dom) (State.rxClocked_of syn deep)
      signal los mode, State.hrStep3_hrState _ m, ?_, ?_⟩
    all_goals rw [State.hrStep3_host]
    exact trigger
  case snrHigh =>
    intro m q s hd locked snrTask eyeTask high
    have eye := s.hostEyePublished_evolves m q
    have level : (s.hostEyePublished m q).fld (hostBase m) HR_CTRL_SNR_WARN = s.fld (hostBase m) HR_CTRL_SNR_WARN :=
      s.hostEyePublished_fld m q (by decide)
    have quiet : (s.hostEyePublished m q).noneDue := by
      rw [State.noneDue, show (s.hostEyePublished m q).fuse = s.fuse from eye.only .fuse (by decide)]; exact hd
    obtain ⟨snr, low, held⟩ := (s.hostEyePublished m q).hostSnrPublished_shows m (hostSnr_lt q.symbols q.snrErr) false false
    exact ⟨_, (exec_hrQualPublish q locked snrTask).trans (State.hostSnrJudged_high quiet (by rwa [level])), snr,
      (State.hostSnrPublished_eye _ m _ _ _).trans (State.hostEyePublished_eye eyeTask), low, held⟩
  case snrLow =>
    intro m q s _ locked task fresh low takes
    have eye := s.hostEyePublished_evolves m q
    have level : (s.hostEyePublished m q).fld (hostBase m) HR_CTRL_SNR_WARN = s.fld (hostBase m) HR_CTRL_SNR_WARN :=
      s.hostEyePublished_fld m q (by decide)
    have lt := hostSnr_lt q.symbols q.snrErr
    obtain ⟨snr, shown, held⟩ := (s.hostEyePublished m q).hostSnrPublished_shows m lt true true
    have published := eye.trans ((s.hostEyePublished m q).hostSnrPublished_evolves m (hostSnr q.symbols q.snrErr) true true)
    have raised := ((s.hostEyePublished m q).hostSnrPublished m (hostSnr q.symbols q.snrErr) true true).raise_hostSame m
      (hostSrc m 0x42) (hostSnr q.symbols q.snrErr)
    refine ⟨_, (exec_hrQualPublish q locked task).trans (State.hostSnrJudged_low ?_ (by rwa [level])),
      (raised.fld (by decide)).trans snr, (raised.flag (by decide)).trans shown, ?_,
      State.raise_isActive_of_takes (published.takes (by decide) (by decide) (by decide) takes) lt⟩
    · rw [s.hostEyePublished_host, fresh]
    · rw [raised.host, held]
  case sleep =>
    rintro m _ reacq s _ rfl loop
    have voted := ((s.setFlag (hostBase m) HR_CTRL_HR_SLEEP true).hostRxStop m).hostVotes_hostSame m
    obtain ⟨-, retained⟩ := (s.setFlag (hostBase m) HR_CTRL_HR_SLEEP true).hostRxStop_host m
    have locked : (s.setFlag (hostBase m) HR_CTRL_HR_SLEEP true).hostLocked m = s.hostLocked m :=
      s.flag_setFlag_apart _ _ (by decide)
    refine ⟨_, exec_hrSleepWrite_on reacq loop, ?_, (voted.fld (by decide)).trans (State.hostRxStop_hrState _ m),
      (voted.flag (by decide)).trans (State.hostRxStop_locked _ m), ?_⟩
    · rw [voted.flag (by decide), State.flag, State.hostRxStop_fld _ m (by decide) (by decide) (by decide), ← State.flag,
        State.hostLoseLock_flag _ m (by decide)]
      exact s.flag_setFlag_same _ _ (by decide) rfl
    · rw [voted.host, retained, locked]
      simp only [State.setFlag_other]
  case chkSame =>
    exact fun m sel s hd same => ⟨_, exec_hostChkSelWrite_same hd same, s.setFld_same _ (by decide) sel.isLt,
      s.setFld_regsBut _ _ _⟩
  case chkChanged =>
    intro m sel s _ changed locked
    have still : (s.hostChkSelected m sel.toNat).hostLocked m = true := (s.hostChkSelected_locked m _).trans locked
    refine ⟨_, exec_hostChkSelWrite_changed changed, ?_,
      (State.hostSearchAgain_chkLock _ m).trans (State.hostChkOff_chkLock _ m), State.hostSearchAgain_locked _ m, ?_⟩
    · rw [State.hostSearchAgain_of_locked still, State.hostRelock_fld _ m (by decide) (by decide),
        State.hostLoseLock_fld _ m (by decide), State.hostChkSelected, State.hostChkOff_fld _ m (by decide)]
      exact s.setFld_same _ (by decide) sel.isLt
    · rw [State.hostSearchAgain_of_locked still]
      exact State.hostRelock_hrState _ m

end Sys2Proof.Machine
end
